-- ==== Sys2Proof/Word.lean ====
section
/-!
DEFINITION. The numbers and names that the rest of the model is written in: identifiers of stages, piers, channels and
so on (R4: what appears on a connector is numbered from 1 in the spec and from 0 here), dictionary values, and IEEE 754
binary32 rounding (R153).
-/

namespace Sys2Proof

/-- Stage n = 0..3 (R1); pier n carries stage n (R144). -/
abbrev StageId := Fin 4
/-- Timebase 0..7 (R172). -/
abbrev TbId := Fin 8
/-- Edge channel 1..24, counted from 0. -/
abbrev ChanId := Fin 24
/-- Trip group 0..7. -/
abbrev GroupId := Fin 8
/-- Trip source 0..75 (R186). -/
abbrev SrcId := Fin 76
/-- Driver die GD1..GD6, counted from 0. -/
abbrev GdId := Fin 6
/-- Driver channel 1..12, counted from 0. -/
abbrev DrvId := Fin 12
/-- Fibre port 1..8, counted from 0. -/
abbrev PortId := Fin 8
/-- SAR input 1..24, counted from 0. -/
abbrev AdcId := Fin 24
/-- Sigma-delta input 1..8, counted from 0. -/
abbrev SdId := Fin 8
/-- Filter chain 0..15. -/
abbrev ChainId := Fin 16
/-- Remote station 1..64, counted from 0. -/
abbrev StationId := Fin 64
/-- SOC instance 1..4 and contactor driver 1..4, counted from 0. -/
abbrev SocId := Fin 4
/-- Safety connection 0..15. -/
abbrev ConnId := Fin 16
/-- Check-value unit 0..7. -/
abbrev CvuId := Fin 8
/-- Field input 1..16, counted from 0. -/
abbrev DiId := Fin 16
/-- 24 V output 1..12, counted from 0. -/
abbrev DoId := Fin 12

/-- A value of the object dictionary: an integer of any of the integer types, a finite binary32 number, a NaN or
infinity, or the bytes of a VISIBLE_STRING or DOMAIN. -/
inductive Val where
  | int (v : Int)
  | real (q : Rat)
  | nonfinite
  | bytes (b : List Nat)
deriving DecidableEq, Repr, Inhabited

/-- Three phase quantities a, b, c. -/
structure Tri where
  a : Rat
  b : Rat
  c : Rat
deriving DecidableEq, Repr, Inhabited

/-- A space vector: (α, β) in the stationary frame or (d, q) in a rotating one. -/
structure Vec where
  x : Rat
  y : Rat
deriving DecidableEq, Repr, Inhabited

/-- The quotient n / d rounded to the nearest whole number, ties to even. -/
def roundNearestEven (n d : Nat) : Nat :=
  let q := n / d
  let r := n % d
  if 2 * r < d then q
  else if d < 2 * r then q + 1
  else if q % 2 = 0 then q else q + 1

/-- floor(log2(n / d)) for positive n and d. -/
def ratExponent (n d : Nat) : Int :=
  let e : Int := (Nat.log2 n : Int) - (Nat.log2 d : Int)
  let ge (e : Int) : Bool := if 0 ≤ e then decide (d * 2 ^ e.toNat ≤ n) else decide (d ≤ n * 2 ^ (-e).toNat)
  if ge e then e else e - 1

/-- The binary32 rounding of the magnitude n / d: 24 significant bits, round to nearest, ties to even; results below
the least normal number 2⁻¹²⁶ are flushed to zero (R153). The exponent is not bounded above here; `finite32` says
whether a number is finite. -/
def round32Mag (n d : Nat) : Rat :=
  if n = 0 then 0
  else
    let e := ratExponent n d
    let s := e - 23
    let m := if 0 ≤ s then roundNearestEven n (d * 2 ^ s.toNat) else roundNearestEven (n * 2 ^ (-s).toNat) d
    let v : Rat := if 0 ≤ s then ((m * 2 ^ s.toNat : Nat) : Rat) else mkRat (m : Int) (2 ^ (-s).toNat)
    if e < -126 then (if v < mkRat 1 (2 ^ 126) then 0 else v) else v

/-- binary32 rounding: to nearest, ties to even, subnormal results flushed to zero (R153). -/
def r32 (q : Rat) : Rat :=
  let m := round32Mag q.num.natAbs q.den
  if q.num < 0 then -m else m

/-- Whether a rounded value is below the binary32 overflow threshold, that is, finite. -/
def finite32 (q : Rat) : Bool := decide (q < (2 : Rat) ^ 128) && decide (-((2 : Rat) ^ 128) < q)

def Vec.zero : Vec := ⟨0, 0⟩
def Vec.add (u v : Vec) : Vec := ⟨r32 (u.x + v.x), r32 (u.y + v.y)⟩
def Vec.sub (u v : Vec) : Vec := ⟨r32 (u.x - v.x), r32 (u.y - v.y)⟩
def Vec.scale (k : Rat) (v : Vec) : Vec := ⟨r32 (k * v.x), r32 (k * v.y)⟩
/-- J of R59: rotation by +90°. -/
def Vec.rot90 (v : Vec) : Vec := ⟨-v.y, v.x⟩
def Vec.finite (v : Vec) : Bool := finite32 v.x && finite32 v.y

/-- clamp(u, lo, hi). -/
def clampR (u lo hi : Rat) : Rat := if u < lo then lo else if hi < u then hi else u
def clampI (u lo hi : Int) : Int := if u < lo then lo else if hi < u then hi else u
def absR (q : Rat) : Rat := if q < 0 then -q else q
def maxR (p q : Rat) : Rat := if p < q then q else p
def minR (p q : Rat) : Rat := if p < q then p else q

/-- The square root correctly rounded to binary32 (the divide/root unit of Table 7.1): an integer square root with 80
guard bits, the last of them sticky, rounded once. -/
def sqrt32 (q : Rat) : Rat :=
  if q ≤ 0 then 0
  else
    let n := q.num.toNat
    let d := q.den
    let e := ratExponent n d
    let k : Nat := 80 + (if e < 0 then (-e).toNat else 0)
    let scaled := n * 4 ^ k / d
    let root := Nat.sqrt scaled
    let exact := root * root * d == n * 4 ^ k
    let v := if exact then mkRat (root : Int) (2 ^ k) else mkRat ((2 * root + 1 : Nat) : Int) (2 ^ (k + 1))
    r32 v

/-- |v| of a vector. -/
def Vec.mag (v : Vec) : Rat := sqrt32 (r32 (v.x * v.x + r32 (v.y * v.y)))

/-- 2π as a binary32 constant. -/
def twoPi : Rat := mkRat 13176795 2097152

/-- The quotient rounded half up to a whole number ("rounded half up to a whole core cycle", R266 and others). -/
def roundHalfUp (q : Rat) : Int := (q + mkRat 1 2).floor

/-- round(x) to a whole number, ties to even, as binary32 arithmetic rounds (R153). -/
def roundEven (q : Rat) : Int :=
  let m : Int := (roundNearestEven q.num.natAbs q.den : Nat)
  if q.num < 0 then -m else m

/-- A signed quantity seen modulo 2³² (UQ0.32 angles, R153). -/
def wrap32 (z : Int) : Nat := (z % (2 ^ 32 : Int)).toNat

/-- Bits [lo + width − 1 : lo] of a register value. -/
def bitsAt (v lo width : Nat) : Nat := v / 2 ^ lo % 2 ^ width

/-- A register value with bits [lo + width − 1 : lo] replaced. -/
def setBitsAt (v lo width x : Nat) : Nat :=
  v - bitsAt v lo width * 2 ^ lo + (x % 2 ^ width) * 2 ^ lo

def boolNat (b : Bool) : Nat := if b then 1 else 0

/-- A mask with bit i set for each i of the list. -/
def maskOf (l : List Nat) : Nat := l.foldl (fun m i => m + 2 ^ i) 0

end Sys2Proof
end

