-- ==== Sys2Proof/Syntax.lean ====
section
/-!
DEFINITION. The commands the block takes from outside: one constructor of `Instr` per row of spec/opcode_table.json, with
the row's operands. Operands are what the row's rule leaves to the outside world: which stage, channel or port is meant,
what is written or received, and the physical quantities that the rule measures (DESIGN CHOICE, log 2).
-/

namespace Sys2Proof

/-- The twelve modes, by the codes of Table 0.3. -/
inductive Mode where
  | halt | adit | survey | ready | charge | blackstart | sync | form | ride | coast | stop | lockout
deriving DecidableEq, Repr

/-- The code of a mode (Table 0.3). -/
def Mode.code : Mode → Nat
  | .halt => 0 | .adit => 1 | .survey => 2 | .ready => 3 | .charge => 4 | .blackstart => 5 | .sync => 6
  | .form => 7 | .ride => 8 | .coast => 9 | .stop => 10 | .lockout => 11

/-- R2: the run modes are the modes with codes 4 to 10. -/
def Mode.running (m : Mode) : Bool := decide (4 ≤ m.code) && decide (m.code ≤ 10)

/-- A quantity as measured, and for how long it has stood on its side of a limit without interruption: in core cycles, at trip sources and
gate drives in ns. -/
structure Reading where
  value : Rat
  held : Nat
deriving DecidableEq, Repr

/-- What is measured at one of several units. -/
structure Measured (ι α : Type) where
  unit : ι
  val : α
deriving DecidableEq, Repr

/-- The islands of Table 1.2; driver primaries and secondaries by die and channel. -/
inductive Island where
  | pier (n : Fin 4) | edge | logic | network | keystone | house | link | sample | abutment
  | gdPrimary (g : GdId) | gdSecondary (d : DrvId)
deriving DecidableEq, Repr

/-- On what report the keystone fences an island (R23); `request` is the fence request of R302. -/
inductive FenceReport where
  | selfTest | lockstep | replica | clockMonitor | poisoned | request
deriving DecidableEq, Repr

/-- Sources of commands in the order of R21. -/
inductive Source where
  | keystone | pier (n : Fin 4) | logic | service | can
deriving DecidableEq, Repr

/-- Who writes a dictionary object: a port of R330's port codes with its service session (0: none), or the logic engine. -/
inductive Writer where
  | port (code : Nat) (session : Nat)
  | logic
deriving DecidableEq, Repr

/-- The states of Table 2.2. -/
inductive StageState where
  | off | armed | run | limit | safe
deriving DecidableEq, Repr

/-- The instant-bound commands of Table 1.5. Edge-channel commits arrive as COMMAND_SET_ARRIVAL. -/
inductive Payload where
  | tbPeriod (tb : TbId) (period : Nat)
  | tbPhase (tb : TbId) (delta : Int)
  | groupEnable (g : GroupId) (on : Bool)
  | stageState (n : StageId) (st : StageState)
  | paramWrite (n : StageId) (key : Nat) (v : Val)
  | anchorStep (n : StageId)
  | convStart (c : AdcId) (start delay : Nat)
  | bankSwitch (c : ChainId)
  | programExchange
  | cyclePeriod (ms : Nat)
  | handover
  | viaductRole (secondary : Bool)
  | forwarded (key : Nat) (v : Val)
  | fieldOutput (o : DoId) (on : Bool)
  | contactor (d : SocId) (on : Bool)
  | transmit (port : Nat) (frame : List Nat)
  /-- adaptation offsets that the active module of a duplex pair applies, in the order of 0x3340 (R136) -/
  | offsets (n : StageId) (v : List Rat)
  /-- an input stage of the partner in a viaduct has lost its input, or completed its ramp (R111, R115) -/
  | partnerInput (lost : Bool)
deriving DecidableEq, Repr

/-- A command crossing a joint to its destination, with the effective instant it carries, if any (R17): its source and the channel of that
source it comes from (R21); `viaLink`: it has crossed the Clauz link, its instant stated in TT (R20). -/
structure TimedCmd where
  dst : Island
  src : Source
  channel : Nat
  viaLink : Bool
  inst : Option Nat
  body : Payload
deriving DecidableEq, Repr

/-- What the keystone of the partner reports of its module across the Clauz link at a tick (R46, R47, R418): its mode, its stages with
their SAFE causes, whether it has fenced itself and is ARMED, and its side of the conditions that a viaduct's primary evaluates for the whole pair
(R29, R36, R42): a stage rides through, coasts, waits or ramps, pulls; every stage charged and ready; every GFI stage joined; GFI stages there
are, and outside SAFE; the cause of an essential stage in SAFE; a stop that its keystone demands; and its MOD_NODE_NUMBER and number of GFI
stages (R84). -/
structure PartnerView where
  mode : Mode
  stages : Vector (StageState × Nat) 4
  fenced : Bool
  armed : Bool
  riding : Bool
  coasting : Bool
  waiting : Bool
  pulling : Bool
  charged : Bool
  joined : Bool
  hasGfi : Bool
  gfiOut : Bool
  lineDead : Bool
  essentialSafe : Option Nat
  stopWanted : Bool
  node : Nat
  gfiCount : Nat
deriving DecidableEq, Repr

/-- What the keystone reads at a mode tick: per stage, the DC link in pu of its rating (R39, R42), and what the partner reports, if a frame of its came (R46, R47). -/
structure TickIn where
  link : Vector Rat 4
  partner : Option PartnerView
deriving DecidableEq, Repr

/-- One block instance of a compiled control graph (R151, R166): its Table 7.7 code, rate group, phase, the instance
and output each input is wired to, its dimensions (order, inputs, outputs, sections or points) and its parameters. -/
structure BlockSpec where
  code : Nat
  rate : Nat
  post : Bool
  wires : List (Nat × Nat)
  dims : List Nat
  params : List Val
deriving DecidableEq, Repr

/-- Where an INPUT block takes its value (block 0x0018): the results of a SAR channel, a chain's output at the sample instant or its latest
(R253), a tag of the deck, or the partner (R408). -/
inductive InputSrc where
  | sar (c : AdcId) | chainAt (c : ChainId) | chainLatest (c : ChainId) | tag (t : Nat) | partner
deriving DecidableEq, Repr

/-- A pier's compiled graph as it stands in the graph package of the firmware image (R151, R165); `inputs`: the sources of its INPUT blocks
in instance order. -/
structure GraphSpec where
  id : Nat
  check : Nat
  stageType : Nat
  fits : Bool
  wcetCrit : Nat
  wcetTotal : Nat
  channels : Nat
  inputs : List InputSrc
  blocks : List BlockSpec
deriving DecidableEq, Repr

/-- What boot-ROM verification finds of one firmware image (R396), and its graph package (R151). -/
structure ImageFacts where
  keyOk : Bool
  signatureOk : Bool
  securityVersion : Nat
  fwVersion : Nat
  graphs : Vector GraphSpec 4
deriving DecidableEq, Repr

/-- What a channel's path reads with the test DAC at its three levels: 0 V, +80 % and −80 % of full scale, each the mean of its raw codes
(R238, R240). -/
structure DacReading where
  zero : Rat
  plus : Rat
  minus : Rat
deriving DecidableEq, Repr

/-- A memory error a pier meets (R147): a word that the check bits correct, or an uncorrectable one in code SRAM, in a parameter, or in
block state or a signal, with the block instance concerned. -/
inductive MemFault where
  | corrected | code | param (addr inst : Nat) | state (addr inst : Nat)
deriving DecidableEq, Repr

/-- A value an INPUT block takes: `none` when non-finite, with the BAD, OFFPLAN and UNSETTLED flags it carries, and whether any of
OVERRANGE, SUBSTITUTED and DEGRADED stands with it (R164, R166, R310, Table 10.4). -/
structure InVal where
  v : Option Rat
  bad : Bool
  offPlan : Bool
  unsettled : Bool
  degraded : Bool
deriving DecidableEq, Repr

/-- The stamped results a pier dispatches on (R155): capacitor voltages, output and inverter currents by phase and the
neutral current in pu (R50), the link voltage in pu of FRT_LINK_RATED, the three line-to-line voltages of SHR_LINE_CH
and of SHR_TIE_FAR_CH in pu of V_b, and the input voltage in pu of FRT_IN_RATED, of an AC
input in pu of the rated peak (log 137); the powers into and out of the link in pu of S_b and the
phase-sense voltages averaged over the period in pu of the rated link voltage, by leg (Table 6.3); the values that INPUT blocks take from the partner, in
instance order (R408); what is measured of the quantities that the graph's PLANT block predicts, in the order of its outputs; the residuals of Table
6.3, counted from 0, that take a value of bad quality, off-plan or unsettled; the memory error met, if any. -/
structure Sample where
  vc : Tri
  io : Tri
  iL : Tri
  iN : Rat
  vdc : Rat
  line : Tri
  far : Tri
  vin : Rat
  pIn : Rat
  pOut : Rat
  phase : List Rat
  partner : List InVal
  measured : List Rat
  marked : List (Fin 6)
  mem : Option MemFault
deriving DecidableEq, Repr

/-- Conditions of R79 that suspend restoration, as the cause bit of event 0x2101. -/
abbrev SuspendCause := Nat


/-- A zero crossing of a returned input: its direction, and how far beyond zero the input has gone since the crossing before (R117). -/
structure Crossing where
  rising : Bool
  swing : Rat
deriving DecidableEq, Repr


/-- The content of one edge channel in a command set (Table 7.3): four edge compares, four trigger compares, the
control word (Table 8.2). -/
structure ChanSet where
  compares : List Nat
  triggers : List Nat
  ctrl : Nat
deriving DecidableEq, Repr

/-- A command set as the edge island reads it from its words (R158, Table 7.3). -/
structure CmdSet where
  instant : Nat
  k : Nat
  provisional : Bool
  tally : Nat
  stage : StageId
  chans : List ChanSet
deriving DecidableEq, Repr

/-- A commit word: how many core cycles after the dispatch it was written, and what the memories found in that cycle (R147, R157). -/
structure CommitWord where
  offset : Nat
  mem : Option MemFault
deriving DecidableEq, Repr

/-- The words of a set as they arrive (Table 7.3), and whether they come from the partner. -/
structure SetFrame where
  pier : StageId
  partner : Bool
  words : List Nat
deriving DecidableEq, Repr



/-- The readings of an off-state test in V at the sense inputs, by leg (R214, Table 9.4): V0, and what every leg reads (second index) while leg
i (first index) is driven with +2 mA and with −2 mA; with the link voltage in V. -/
structure DiagReading where
  vdc : Rat
  v0 : Vector Rat 4
  plus : Vector (Vector Rat 4) 4
  minus : Vector (Vector Rat 4) 4
deriving DecidableEq, Repr

/-- What a port's return shows of a head's code (R218), in ns: the dark interval before it, the rising edges of its pulses, and the dark
interval after them. -/
structure HeadCode where
  dark : Nat
  rises : List Nat
  tail : Nat
deriving DecidableEq, Repr


/-- A sigma-delta stream: for how many ns no clock edge or transition, for how many bits the same datum (R246). -/
structure SdStream where
  quiet : Nat
  same : Nat
deriving DecidableEq, Repr

/-- A Sync, with its Follow_Up where it is two-step: the master's time of sending and the correction in ns, and the grandmaster it
comes from (R284 to R286); or a message that needs an unsupported feature (R291). -/
inductive SyncMsg where
  | sync (origin correction : Rat) (gm : Nat)
  | unsupported
deriving DecidableEq, Repr

/-- An Announce: grandmaster, steps removed, and whether the default best master clock algorithm (clause 9.3 of the standard
the spec names) prefers it to the module's own data (R291). -/
inductive AnnounceMsg where
  | announce (gm steps : Nat) (better : Bool)
  | unsupported
deriving DecidableEq, Repr

/-- A delay or peer-delay message: a request, or a response that completes a measurement with its four stamps and corrections in ns
(R291, R292). -/
inductive DelayMsg where
  | delayReq | pdelayReq
  | measured (peer : Bool) (t1 t2 t3 t4 correction : Rat)
  | unsupported
deriving DecidableEq, Repr

/-- PTP event messages that a transparent clock corrects (R293), and others. -/
inductive PtpFrame where
  | sync | delayReq | pdelayReq | pdelayResp | other
deriving DecidableEq, Repr

/-- Deviations that the keystone reads against its RC oscillator, in per cent: the network PLL's output, the references (R274, R282). -/
structure RcCheck where
  net : Rat
  refs : Vector Rat 3
deriving DecidableEq, Repr

/-- A tag as the program package defines it (R307, R309): type code of Table 13.3, binding of Table 13.4, what it is bound to
(a field input 1 to 16; an output 1 to 12 or a driver as 13 to 16; a dictionary key; a station 1 to 64 with the position in
its telegram; a pier with the instance of a TAG block), and its initial value. -/
structure TagDef where
  tag : Nat
  type : Nat
  binding : Nat
  to_ : Nat
  pos : Nat
  init : Nat
deriving DecidableEq, Repr

/-- Kinds of program instances whose behaviour the spec gives (R305, R319): on-delay, off-delay and pulse timers, edge
detectors; any other instance holds data of its own. -/
inductive InstKind where
  | ton | tof | tp | rising | falling | other (type : Nat)
deriving DecidableEq, Repr

/-- An instance of the program: its identity (the 32-bit hash of its path name), kind, and for an edge detector the identity of
its input expression (R319). -/
structure InstDef where
  ident : Nat
  kind : InstKind
  expr : Nat
  init : List Int
deriving DecidableEq, Repr

/-- A sequential function chart: its identity, its steps, the initial one (R319). -/
structure ChartDef where
  ident : Nat
  steps : List Nat
  start : Nat
deriving DecidableEq, Repr

/-- A program package (R306, R317): identity, check value, worst-case busy time in µs, whether its signature verifies, its bytes of code
and of program data, and its content. Stations are given with their identity. -/
structure Program where
  id : Nat
  check : Nat
  wcetBusy : Nat
  signed : Bool
  code : Nat
  data : Nat
  tags : List TagDef
  stations : List (StationId × Nat)
  insts : List InstDef
  charts : List ChartDef
deriving DecidableEq, Repr

/-- One tag of the deck: its definition, the raw value and quality, and both as they stood at the end of the last completed
cycle (R307, R308, R310). -/
structure TagSt where
  defn : TagDef
  val : Nat
  q : Nat
  oldVal : Nat
  oldQ : Nat
deriving DecidableEq, Repr

/-- One instance: for a timer the start instant in LT with ET in µs and Q; for an edge detector its memory; else its data. -/
structure InstSt where
  defn : InstDef
  start : Option Nat
  et : Nat
  q : Bool
  mem : Bool
  newExpr : Bool
  data : List Int
deriving DecidableEq, Repr

/-- One chart: its active step and the LT at which it became active. -/
structure ChartSt where
  defn : ChartDef
  step : Nat
  since : Nat
deriving DecidableEq, Repr

/-- The data image (R311): cycle count, logic time in µs, tags, program data. -/
structure Image where
  count : Nat
  lt : Nat
  tags : List TagSt
  insts : List InstSt
  charts : List ChartSt
deriving DecidableEq, Repr

/-- A scan of an instance by the program: its input and, for a timer, PT in µs (R305). -/
structure Scan where
  ident : Nat
  input : Bool
  pt : Nat
deriving DecidableEq, Repr

/-- One execution of the program, as far as the user's own logic decides it: instances scanned in order, tags written, data of
other instances, steps entered, lines of the image changed; the measured busy time in µs and the HOLD voltage at the
journal (R300, R312). -/
structure CycleRun where
  scans : List Scan
  writes : List (Nat × Nat)
  data : List (Nat × List Int)
  steps : List (Nat × Nat)
  lines : Nat
  busy : Nat
  hold : Rat
deriving DecidableEq, Repr

/-- A service-protocol request's common part: the port that carries it (2 E1/E2, 3 E3, 4 E4), session and sequence number
(Table 14.5). -/
structure SvcHead where
  port : Nat
  session : Nat
  seq : Nat
deriving DecidableEq, Repr

/-- An SDO or USDO request (Table 14.4): a read; an expedited write; the begin of a segmented write with its length; a segment
with its toggle bit; a block transfer; a client abort. -/
inductive SdoReq where
  | read (key : Nat)
  | write (key : Nat) (v : Val)
  | writeInit (key : Nat) (length : Nat)
  | segment (toggle : Bool) (bytes : List Nat) (last : Bool) (v : Val)
  | block
  | abort
deriving DecidableEq, Repr

/-- What a host SPI request frame asks for (R343, R344). -/
inductive SpiReq where
  | read (key : Nat)
  | write (key : Nat) (v : Val)
  | readSeg (key offset : Nat)
  | writeSeg (key offset : Nat) (bytes : List Nat) (last : Bool) (v : Val)
  | keepalive
  | other
deriving DecidableEq, Repr

/-- A frame at the switch of E1 and E2 (R345): ingress port (0 E1, 1 E2, 2 internal), addresses, priority code point, whether
it is broadcast or multicast, and whether it is a PTP event frame. -/
structure EthFrame where
  ingress : Nat
  src : Nat
  dst : Nat
  pcp : Nat
  multicast : Bool
  ptp : Bool
deriving DecidableEq, Repr

/-- Keystone diagnostics that can raise the latched fault 0x8001 (Table 15.1). -/
inductive PermLine where
  | pulseEnable (g : GdId) | contactorEnable
deriving DecidableEq, Repr

/-- A rail at two ticks, the one before and this (R443). -/
structure TwoTicks where
  before : Rat
  now : Rat
deriving DecidableEq, Repr

/-- The kinds of store, in the order in which they run (R391, Table 16.5). -/
inductive StoreKind where
  | journal | dictionary | counters | logPage | erase | image
deriving DecidableEq, Repr

/-- What a scrub step finds (R387, R390): nothing; a corrected error in SRAM, MRAM or flash; an uncorrectable word; a record
(0 dictionary, 1 calibration and counters, 2 configuration backup) with the verdicts on its copies; a flash image. -/
inductive ScrubFind where
  | clean
  | corrected (mem : Fin 3)
  | uncorrectable (mem : Fin 3) (addr : Nat)
  | record (r : Fin 3) (check1 check2 equal : Bool) (gen1 gen2 : Nat)
  | image (b : Fin 2) (ok : Bool)
deriving DecidableEq, Repr

/-- A block of a firmware image written to NVS_IMAGE_DATA (R398): one that is not the last, or the last with what verification
finds. -/
inductive ImageBlock where
  | more | last (facts : ImageFacts)
deriving DecidableEq, Repr

/-- What the partner sends at link-up (R403), with its TIM_REF_CFG.SOURCE (Table 17.2). -/
structure PartnerId where
  serial : Nat
  primary : Bool
  pairMode : Nat
  fw : Nat
  cfgCheck : Nat
  progCheck : Nat
  boot : Nat
  source : Bool
deriving DecidableEq, Repr

/-- What CLAIM_IN reads (R413). -/
inductive ClaimIn where
  | released | asserted | open_
deriving DecidableEq, Repr

/-- What the window object does (R407), and what the secondary answers: an abort code (0: none) and the value read. -/
inductive WindowOp where
  | read (abort : Nat) (v : Val)
  | write (v : Val) (abort : Nat)
deriving DecidableEq, Repr

/-- What a digest carries of a set (R411). -/
structure SetDigest where
  tally : Nat
  check : Nat
deriving DecidableEq, Repr

/-- Line-fault classes of a field input (R426, R428). -/
inductive LineFault where
  | wireBreak | short
deriving DecidableEq, Repr

/-- One sample of a field input (R425, R426): its voltage, its current in mA, and whether its current limiter limits or is folded back. -/
structure DiSample where
  volts : Rat
  mA : Rat
  limiting : Bool
deriving DecidableEq, Repr

/-- The load of a field output: its current, whether it limits, and for how many core cycles (R430). -/
structure OutLoad where
  amps : Rat
  limiting : Bool
  held : Nat
deriving DecidableEq, Repr

/-- A field output's current and terminal voltage, and for how many core cycles they have stood (R430). -/
structure OutWire where
  amps : Rat
  volts : Rat
  held : Nat
deriving DecidableEq, Repr

/-- A terminal that does not follow its switch, high or low side, and for how many core cycles (R434). -/
structure SwitchLag where
  highSide : Bool
  held : Nat
deriving DecidableEq, Repr

/-- What a housekeeping round reads of one temperature channel (R444, R445): degrees, an open or shorted sensor, or nothing
(an external input set to off). -/
inductive TempRead where
  | deg (t : Rat) | open_ | short | off
deriving DecidableEq, Repr

/-- AUX_IN as an excursion ends: the voltage and for how many core cycles it has stood, with the extreme reached: the highest AUX_IN (R438) or
the lowest HOLD (R439). -/
structure Excursion where
  volts : Rat
  extreme : Rat
  held : Nat
deriving DecidableEq, Repr

/-- The commands and events of the opcode table, in its order. -/
inductive Instr where
  /-- R16. Every 1,024 core cycles the edge island broadcasts the master module-time count to every island's replica. -/
  | timeBroadcast (dev : List (Island × Int))
  /-- R13. A word written into an expansion joint becomes available in the destination island, with its check bits tested. -/
  | jointWordArrival (src dst : Island) (poisoned : Bool) (w : Nat)
  /-- R17. A command arrives at its destination island; without an effective instant it acts at once, otherwise it is held. -/
  | commandArrival (c : TimedCmd)
  /-- R17. A held command is applied in the first destination cycle in which the replica reaches its effective instant. -/
  | effectiveInstantReached (dst : Island)
  /-- R23. On a self-test, replica, clock-monitor or poisoned-word report, the keystone fences an island: reset, fence markers out, inputs discarded. -/
  | islandFence (isl : Island) (why : FenceReport)
  /-- R209. A driver primary that sees no heartbeat or no pulse-enable toggle for 2 µs applies its stored safe-state pattern. -/
  | safePatternApply (g : GdId)
  /-- R209. Once heartbeats and pulse-enable toggles return, a driver primary leaves its pattern and follows its edge lines again. -/
  | safePatternLeave (g : GdId)
  /-- R25. The abutment, seeing no contactor-enable toggle for 2 µs, de-energises all four contactor drivers. -/
  | contactorEnableLapse
  /-- R28. Every 10 µs the keystone's mode machine evaluates conditions, then commands, and applies mode and stage-state changes. -/
  | modeTick (t : TickIn)
  /-- R438. AUX_IN reaches 8.0 V: logic rails come into regulation and the HOLD rail charges. -/
  | auxPowerUp
  /-- R30. With logic rails in regulation and the reset input released for 2 ms, the module goes from HALT to ADIT and enables both PLLs. -/
  | aditEntry (absence : Option Nat) (primary : Bool)
  /-- R30. No PLL locks within 10 ms in ADIT, and the module goes to LOCKOUT with cause 0x1011. -/
  | aditPllTimeout
  /-- R396. Boot-ROM verification of a firmware image completes; the first passing image runs, or LOCKOUT follows if none passes. -/
  | imageVerified (imgA imgB : ImageFacts) (progOk : Bool)
  /-- R38. Loading of configuration, graph package and block parameters completes in SURVEY and the timebases are started. -/
  | surveyConfigLoad (dictionary backup : Bool)
  /-- R238. Self-calibration of the converter banks completes and offsets and gains are written. -/
  | selfCalComplete (readings : Vector DacReading 24)
  /-- R392. The HOLD-rail capacitance measurement completes; below 200 µF the hold-up check fails with cause 0x1013. -/
  | holdupCheckComplete (microF : Rat) (volts : Rat) (link : Vector Rat 4)
  /-- R39. A stage whose diagnostics were deferred starts them in the first sample after its link reaches MOD_DIAG_LEVEL. -/
  | deferredDiagStart (n : StageId)
  /-- R215. The 20 ms off-state test ends; each leg is classified and the stage goes to ARMED or to SAFE with 0x3014. -/
  | offStateTestComplete (n : StageId) (r : DiagReading)
  /-- R313. At the end of SURVEY the engine restores the retained image from the valid bank with the higher cycle count. -/
  | logicImageRestore
  /-- R40. MOD_COMMAND START takes the module from READY to CHARGE if its guards hold. -/
  | modStart (w : Writer)
  /-- R43. MOD_COMMAND STOP takes the module from a run mode to STOP. -/
  | modStop (w : Writer)
  /-- R44. MOD_COMMAND SERVICE_RELEASE leaves a releasable LOCKOUT into SURVEY. -/
  | serviceRelease (w : Writer)
  /-- R37. MOD_STAGE_CMD START_STAGE asks a stage to switch, acting by its state or being held for diagnostics. -/
  | startStage (n : StageId) (w : Writer)
  /-- R466. MOD_STAGE_CMD STOP_STAGE stops a stage by SSD ramp, to SAFE, to OFF, or cancels a held start. -/
  | stopStage (n : StageId) (w : Writer)
  /-- R34. MOD_STAGE_CMD RESET_SAFE returns a stage from SAFE to OFF when its cause is no longer present. -/
  | resetSafe (n : StageId) (w : Writer)
  /-- R32. After 2 ms with no limiter active a stage returns from LIMIT to RUN. -/
  | stageLimitExit (n : StageId)
  /-- R42. Charge not complete within MOD_CHARGE_TIMEOUT takes the module to STOP with event 0x1003. -/
  | chargeTimeout
  /-- R43. A stop not complete within MOD_STOP_TIMEOUT takes the module to LOCKOUT with cause 0x1004. -/
  | stopTimeout
  /-- R155. At t₀ + D the pier dispatches its stage's control graph on the stamped results of the sample. -/
  | pierDispatch (p : StageId) (smp : Sample)
  /-- R58. The 20 ms ramp of a virtual-impedance write ends and XV_RAMPING clears. -/
  | xvRampEnd (n : StageId)
  /-- R66. Clearing GFL_CONFIG.PARAM_HOLD applies all pending forming-law values together at the next commit. -/
  | gflParamHoldClear (n : StageId) (w : Writer)
  /-- R76. At an anchor instant the module issues the restoration step to the pier with its module time as effective instant. -/
  | anchorInstant (n : StageId)
  /-- R86. At its slot instant a stage commands its output contactor closed if the line is still dead. -/
  | claimSlotReached (n : StageId)
  /-- R85. The hold-off expires with the line dead and the stage commands its output contactor closed. -/
  | claimHoldoffExpiry (n : StageId)
  /-- R86. No confirmation within SHR_CLOSE_TIMEOUT sends the stage to SAFE with cause 0x2109. -/
  | contactorCloseTimeout (n : StageId)
  /-- R88. A ramp not complete within 5 × SHR_BS_RAMP sends the stage to SAFE with 0x2108. -/
  | rampTimeout (n : StageId)
  /-- R90. Synchronising conditions have held for SHR_SYNC_DWELL and the output contactor is commanded closed. -/
  | syncDwellExpiry (n : StageId)
  /-- R92. A stage not commanding its contactor within SHR_SYNC_TIMEOUT goes to SAFE with 0x210B. -/
  | syncTimeout (n : StageId)
  /-- R92. A synchronising stage whose line reads dead for 1 s stops pulling and proceeds by claim. -/
  | syncLineDeadTimeout (n : StageId)
  /-- R91. The linear glide of synchronising offsets to zero over SHR_JOIN_RAMP ends. -/
  | joinGlideEnd (n : StageId)
  /-- R93. SHR_CMD TIE_CLOSE pulls onto the far side and closes the tie, closes at once onto a dead side, or is refused. -/
  | tieClose (n : StageId) (w : Writer)
  /-- R93. SHR_CMD TIE_OPEN opens the bus tie at once. -/
  | tieOpen (n : StageId) (w : Writer)
  /-- R109. Ride-through not ended within 20 ms of clear detection has its clear withdrawn. -/
  | rideEndTimeout (n : StageId)
  /-- R107. The fault-time budget reaches 0 in ride-through; the stage goes to SAFE with 0x2203 and the module stops. -/
  | faultBudgetExhausted (n : StageId)
  /-- R110. The edge-island persistence counter finds a DC input below its level for FRT_IN_LOSS_TIME. -/
  | inputLossDc (n : StageId) (rd : Reading)
  /-- R110. An AC input deviates from its PLL prediction for FRT_IN_LOSS_TIME of consecutive samples. -/
  | inputLossAc (n : StageId) (vin : Rat)
  /-- R114. The input has stood above its return level for FRT_IN_RETURN_TIME; the input ramp starts. -/
  | inputReturnConfirm (n : StageId)
  /-- R115. The input stage completes its ramp and coasting ends for the stages it feeds. -/
  | inputRampComplete (n : StageId)
  /-- R115. The release of coasting shifts and pauses over FRT_COAST_RELEASE ends. -/
  | coastReleaseEnd (n : StageId)
  /-- R116. The link stays below FRT_LINK_MIN for FRT_LINK_MIN_TIME; coasting has failed and the module stops. -/
  | coastLinkLowTimeout (n : StageId)
  /-- R116. Coasting lasts longer than FRT_COAST_MAX; coasting has failed and the module stops. -/
  | coastMaxTimeout (n : StageId)
  /-- R117. After FRT_PLL_HOLD in hold, event 0x220B is logged and resumption is no longer allowed. -/
  | inputPllHoldExpiry (n : StageId)
  /-- R117. An input zero crossing after return is used to resume the PLL or towards a re-seed. -/
  | inputZeroCrossing (n : StageId) (z : Crossing)
  /-- R128. A survey round starts injecting the sequence, 1 s after RUN or SRV_PERIOD after the last start. -/
  | surveyRoundStart (n : StageId)
  /-- R129. A round completes; line impedance, paralleled count and resonance are estimated. -/
  | surveyRoundComplete (n : StageId) (instant : Nat)
  /-- R133. The 20 ms ramp of adapted virtual-impedance offsets ends. -/
  | adaptOffsetRampEnd (n : StageId)
  /-- R139. A residual has exceeded its act threshold for SRV_CAN_PERSIST samples and its reaction follows. -/
  | canaryAct (n : StageId) (j : Fin 6)
  /-- R157. The critical phase writes its commit word, swapping state banks and sending the set to the edge island. -/
  | pierCommit (p : StageId) (word : CommitWord)
  /-- R157. A committed set arrives at the edge island and is validated by check value, tally and stage state. -/
  | commandSetArrival (frame : SetFrame)
  /-- R163. A provisional set arrives and the edge island takes only its early trigger compares. -/
  | provisionalSetArrival (frame : SetFrame)
  /-- R156. The post phase finishes and its instances' working banks become committed. -/
  | postCommit (p : StageId) (total : Nat)
  /-- R160. The commit gate closes at t₀ + d_L without a commit word; the sample is voided. -/
  | pierOverrun (p : StageId)
  /-- R149. A background known-answer round completes; a failure is reported to the keystone, which fences the pier. -/
  | bistRoundComplete (p : StageId) (pass : Bool)
  /-- R149. A background round not complete within PIE_BIST_PERIOD sets BIST_LATE. -/
  | bistLate (p : StageId) (duration : Nat)
  /-- R150. PIE_SELFTEST starts the on-demand compute-path test, accepted through the dictionary only in READY. -/
  | pieSelftest (p : StageId) (w : Writer)
  /-- R150. The 480-cycle compute-path test ends and its result stands in SELFTEST_PASS. -/
  | selftestComplete (p : StageId) (failing : Option Nat)
  /-- R167. Clearing PIE_CONFIG.PARAM_HOLD applies held block-parameter writes at the next commit. -/
  | pieParamHoldClear (p : StageId) (w : Writer)
  /-- R170. PIE_BLK_CMD 1 resets a block instance's state at the next commit. -/
  | blockStateReset (p : StageId) (inst : Nat) (w : Writer)
  /-- R172. A timebase's counter starts at Z + EDG_TB_OFFSET. -/
  | timebaseStart (tb : TbId)
  /-- R173. At each sample point the edge island raises the timebase's sample trigger six cycles early. -/
  | sampleTrigger (tb : TbId)
  /-- R176. At a reload point a shadowed set takes effect atomically and edges of the period are placed. -/
  | reloadPoint (tb : TbId) (peak : Bool)
  /-- R174. EDG_TB_CMD period change applies a new period from the first zero point at or after its instant. -/
  | tbPeriodChange (tb : TbId) (period inst : Nat) (w : Writer)
  /-- R174. EDG_TB_CMD phase shift lengthens the period starting at the chosen zero point by Δ. -/
  | tbPhaseShift (tb : TbId) (delta : Int) (inst : Nat) (w : Writer)
  /-- R175. Writing EDG_CH_STATIC_CTRL makes an unowned channel's static compares take effect together at its next reload point. -/
  | staticCtrlWrite (ch : ChanId) (ctrl : Nat) (w : Writer)
  /-- R180. Every 1 ms the delay lines are recalibrated; a failing output falls to whole-cycle placement. -/
  | delayLineRecal (failing : List (Fin 48))
  /-- R180. Every 256 core cycles the edge island sends a heartbeat on every edge line. -/
  | edgeHeartbeat
  /-- R181. A trigger compare fires its trigger event, starting a conversion after its delay. -/
  | triggerFire (ch : ChanId) (t : Fin 4)
  /-- R185. EDG_RAW_ENABLE starts or ends raw override in READY with service access. -/
  | rawOverrideEnable (on : Bool) (w : Writer)
  /-- R185. EDG_RAW_HIGH or EDG_RAW_LOW sets outputs directly under raw override. -/
  | rawOutputWrite (low : Bool) (mask : Nat) (w : Writer)
  /-- R186. A trip source becomes active after its filter, tripping every group that holds it unblanked. -/
  | tripSourceActive (rd : Measured SrcId Reading)
  /-- R186. A trip source becomes inactive after its filter. -/
  | tripSourceInactive (rd : Measured SrcId Reading)
  /-- R188. A group's counting period ends at a zero point; a trip-free period advances the free-run counter. -/
  | tripPeriodEnd (g : GroupId)
  /-- R188. The free-run counter reaches M, reducing the trip count by one. -/
  | tripFreeRunDecrement (g : GroupId)
  /-- R188. The trip count reaches N; the group latches and its stages go to SAFE with 0x3004. -/
  | tripGroupLatch (g : GroupId)
  /-- R190. EDG_TRG_CMD CLEAR releases a latched group if no source is active, or is refused. -/
  | tripGroupClear (g : GroupId) (w : Writer)
  /-- R202. The gate-drive primary rail stays below 19.0 V for 2 µs; all channels held off and stages SAFE with 0x3010. -/
  | gdUvloEntry (rd : Reading)
  /-- R202. The rail has stood above 20.5 V for 1 ms and the lock-out is left. -/
  | gdUvloExit
  /-- R205. The DESAT pin stays above threshold for 100 ns; soft turn-off starts and the channel latches off. -/
  | desatDetect (rd : Measured DrvId Reading)
  /-- R206. After GDV_STO_TIME the gate is driven to V_off through the 1 A path. -/
  | softTurnoffSecondLevel (d : DrvId)
  /-- R204. The gate falls below V_off + 2.0 V in the off state and the clamp engages. -/
  | millerClampEngage (rd : Measured DrvId Rat)
  /-- R207. GDV_CH_CMD CLEAR_DESAT releases a desaturation latch while the stage is OFF or SAFE. -/
  | clearDesat (d : DrvId) (w : Writer)
  /-- R215. GDV_DIAG_CMD repeats the off-state test in READY with service access. -/
  | gdDiagCmd (n : StageId) (w : Writer)
  /-- R217. A return light pulse matches the oldest unanswered turn-on, or sets STRAY. -/
  | ackPulseReceived (p : PortId) (ns : Nat)
  /-- R217. No valid acknowledge within the window; the port source activates and the stage goes to SAFE with 0x3016. -/
  | ackWindowExpiry (p : PortId)
  /-- R218. Return light held for 2 µs is a head fault; source active and stage SAFE with 0x3015. -/
  | headFaultDetect (rd : Measured PortId Nat)
  /-- R218. The head's pulse code ends and is stored in GDV_PORT_LAST_CODE. -/
  | headCodeReceived (p : PortId) (code : HeadCode)
  /-- R219. GDV_PORT_CMD CLEAR_PORT deactivates a port's source while the stage is OFF or SAFE and the return is dark. -/
  | clearPort (p : PortId) (dark : Bool) (w : Writer)
  /-- R229. An acquisition timer event starts the conversions of channels assigned to it. -/
  | acqTimerEvent (t : Fin 4)
  /-- R228. A SAR conversion delivers its corrected, time-stamped result. -/
  | conversionComplete (c : AdcId) (raw : Int)
  /-- R238. ACQ_CMD SELF_CAL starts self-calibration in READY with service access. -/
  | acqSelfCal (w : Writer)
  /-- R240. ACQ_CMD DIAG starts a 3 ms path diagnosis of one channel. -/
  | acqDiag (c : AdcId) (w : Writer)
  /-- R240. A diagnosis ends; a deviation above 0.2 % sets DIAG_FAILED and substitutes the channel. -/
  | acqDiagComplete (r : DacReading)
  /-- R244. ACQ_CMD RESTORE runs a diagnosis and ends substitution if it passes, answering when it ends. -/
  | acqRestore (c : AdcId) (w : Writer)
  /-- R241. Three idle slots give an offset-tracking conversion and the drift estimate is updated. -/
  | trackingSample (c : AdcId) (m : Rat)
  /-- R243. At the next conversion boundary after its cause, a channel's conversions are replaced by its substitute. -/
  | substitutionApply (c : AdcId)
  /-- R246. A sigma-delta input loses clock, transitions or data activity and its chains output BAD. -/
  | sdFault (k : SdId) (stream : SdStream)
  /-- R246. After 256 good bits the sigma-delta fault ends, a step for its chains. -/
  | sdFaultEnd (rd : Measured SdId Nat)
  /-- R247. A filter chain delivers a decimated, stamped output. -/
  | chainOutput (c : ChainId) (bits : List Bool)
  /-- R250. ACQ_FC_SWITCH issues a cross-faded switch to the inactive coefficient bank. -/
  | bankSwitch (c : ChainId) (inst : Nat) (w : Writer)
  /-- R250. The fade count reaches ACQ_FC_FADE and only the new bank acts. -/
  | bankFadeEnd (c : ChainId)
  /-- R267. After GAL_TRG_HOLDOFF records the trigger re-arms. -/
  | triggerHoldoffEnd (p : StageId)
  /-- R265. Setting GAL_CONFIG.TRG_EN arms the gallery trigger. -/
  | triggerArm (p : StageId) (w : Writer)
  /-- R269. Setting STREAM_EN starts streaming unless the port's wire rate would exceed 600 Mb/s. -/
  | streamEnable (p : StageId) (w : Writer)
  /-- R268. A datagram whose first record is 1 ms old is sent. -/
  | datagramAgeTimeout (p : StageId)
  /-- R264. GAL_READ_K selects a record that GAL_READ_DATA returns, or refuses if absent. -/
  | galleryRead (p : StageId) (k : Nat) (w : Writer)
  /-- R274. Two consecutive missing reference edges declare a reference lost. -/
  | referenceLost (rd : Measured (Fin 3) Nat)
  /-- R277. A reference healthy for 1 ms ends reference holdover and is fed to the PLLs. -/
  | refHoldoverEnd (r : Fin 3)
  /-- R274. Every 10 ms each reference is counted against the active PLL and disagreement is arbitrated. -/
  | referenceFreqCheck (dev step : Vector Rat 3)
  /-- R274. A reference healthy for 10 s is no longer ignored. -/
  | referenceHealthy (r : Fin 3)
  /-- R275. TIM_CMD REVERT_REF returns to the preferred reference with phase build-out. -/
  | revertRef (w : Writer)
  /-- R278. A PLL locks; its divider is synchronised, and the first lock starts module time at 0. -/
  | pllLock (rd : Measured (Fin 2) Nat)
  /-- R279. A PLL loses lock; islands move to the sister PLL and the failed one is muted. -/
  | pllLossOfLock (rd : Measured (Fin 2) (Rat × Rat))
  /-- R279. 1 ms after a loss the muted PLL tries to relock and becomes the standby sister. -/
  | pllRelockAttempt (p : Fin 2)
  /-- R279. A relock attempt not locked within 1.0 ms ends and the next starts 1 ms later. -/
  | pllRelockTimeout (p : Fin 2)
  /-- R281. The network PLL loses lock; PHY links drop and NTA and NTB enter holdover. -/
  | netPllLoss
  /-- R281. Every 10 ms the network PLL tries to relock. -/
  | netPllRelockAttempt (locks : Bool)
  /-- R282. Every 100 µs the keystone checks island clocks and references against its RC oscillator. -/
  | clockMonitorCheck (islands : List (Island × Rat)) (rc : RcCheck)
  /-- R283. At a whole millisecond the servo computes a new time-base segment sent to every island. -/
  | segmentUpdate (b : Fin 3)
  /-- R286. A usable Sync is stamped, θ measured and the base's servo and state updated. -/
  | ptpSyncReceived (b : Fin 2) (m : SyncMsg)
  /-- R284. TIM_NTA_LOSS_COUNT intervals pass without a usable Sync and the base enters HOLDOVER. -/
  | syncLossTimeout (b : Fin 2)
  /-- R291. An Announce is received and processed by the best master clock algorithm. -/
  | ptpAnnounceReceived (b : Fin 2) (m : AnnounceMsg)
  /-- R287. No better Announce within the timeout; a port that may be master becomes grandmaster of its domain. -/
  | announceReceiptTimeout (b : Fin 2)
  /-- R291. A delay or peer-delay request or response is received and stamped for path-delay measurement. -/
  | ptpDelayMessageReceived (b : Fin 2) (m : DelayMsg)
  /-- R291. As master the module sends a Sync at each sync interval. -/
  | ptpSyncTransmit (b : Fin 2)
  /-- R285. TIM_CMD STEP_NTA returns NTA to ACQUIRING for one further step. -/
  | stepNta (w : Writer)
  /-- R285. TIM_CMD STEP_NTB returns NTB to ACQUIRING for one further step. -/
  | stepNtb (w : Writer)
  /-- R293. A PTP event frame crossing E1/E2 has its residence time added to correctionField. -/
  | tcFrameForward (toE2 : Bool) (frame : PtpFrame) (residence : Nat) (linkDelay : Rat)
  /-- R288. Every 1 ms the link island measures TT offset against the primary and runs the TT servo. -/
  | ttExchange (primary : Rat) (boot : Nat)
  /-- R300. At a cycle boundary inputs are latched, the program executes, outputs are written and the journal stored. -/
  | logicCycleBoundary (run : CycleRun)
  /-- R302. A cycle busy 4 × T_e after its boundary causes a fence request for the logic island. -/
  | logicHangTimeout
  /-- R308. A dictionary write to a HOST tag is held until the next latch. -/
  | hostTagWrite (tag : Nat) (v : Val) (w : Writer)
  /-- R308. LGC_PEEK_TAG selects a tag whose value, type, quality and binding are then readable together. -/
  | tagPeek (tag : Nat) (w : Writer)
  /-- R303. A write of LGC_CYCLE_PERIOD while running is deferred to the next boundary. -/
  | cyclePeriodWrite (ms : Nat) (w : Writer)
  /-- R349. A process-data telegram is accepted or discarded by sequence counter, updating station state. -/
  | stationTelegramReceived (st : StationId) (counter : Option Nat) (data : List Nat)
  /-- R315. No telegram for LGC_STN_TIMEOUT makes a station DROPPED. -/
  | stationDrop (st : StationId)
  /-- R317. A block of a program package is written; the last block triggers signature, limit and fit checks. -/
  | programStageBlock (last : Option Program) (w : Writer)
  /-- R318. LGC_CMD EXCHANGE schedules the staged program for a boundary. -/
  | programExchange (w : Writer)
  /-- R324. LGC_CMD DISCARD_STAGED discards the staged program unless an exchange is pending. -/
  | discardStaged (w : Writer)
  /-- R313. LGC_CMD RESET_RETAIN starts from initial values at the next boundary. -/
  | resetRetain (w : Writer)
  /-- R321. The standby writes a complete snapshot into its image, or discards an incomplete one. -/
  | snapshotReceived (image : Option Image) (full : Bool) (lines : Nat) (hold : Rat)
  /-- R326. A write to an object without its own row is checked in order and takes effect by its write rule. -/
  | dictionaryWrite (key : Nat) (v : Val) (w : Writer) (earlier later : List Writer)
  /-- R330. NET_OWNER_CLAIM CLAIM grants write ownership when there is no holder. -/
  | ownershipClaim (w : Writer)
  /-- R330. NET_OWNER_CLAIM FORCE takes ownership from a lower-ranked port. -/
  | ownershipForce (w : Writer)
  /-- R330. NET_OWNER_CLAIM RELEASE ends ownership from the holder. -/
  | ownershipRelease (w : Writer)
  /-- R330. Ownership lapses after NET_OWNER_TIMEOUT without a request from the holder. -/
  | ownershipTimeout
  /-- R331. Reading NET_SVC_CHALLENGE returns a fresh random value valid for one response. -/
  | serviceChallengeRead (w : Writer)
  /-- R331. A signature in NET_SVC_RESPONSE grants service access if valid, or counts an invalid response. -/
  | serviceResponse (signature : List Nat) (w : Writer)
  /-- R331. Service access ends after NET_SVC_TIMEOUT without a request. -/
  | serviceAccessTimeout (w : Writer)
  /-- R331. The 60 s refusal of challenges after three invalid responses ends. -/
  | challengeBlockEnd (port : Nat)
  /-- R336. NMT start puts the receiving CAN port into operational. -/
  | nmtStart (c : Fin 2)
  /-- R336. NMT stop puts the receiving CAN port into stopped. -/
  | nmtStop (c : Fin 2)
  /-- R336. NMT enter pre-operational puts the receiving port into pre-operational. -/
  | nmtEnterPreop (c : Fin 2)
  /-- R336. NMT reset node reloads the port's communication objects and sends boot-up. -/
  | nmtResetNode (c : Fin 2)
  /-- R336. NMT reset communication reloads the port's communication objects and sends boot-up. -/
  | nmtResetComm (c : Fin 2)
  /-- R335. An SDO or USDO request or segment is received and served. -/
  | sdoRequest (c : Fin 2) (r : SdoReq)
  /-- R334. More than 1,000 ms between segments aborts the transfer with 0x0504 0000. -/
  | sdoTimeout (c : Fin 2)
  /-- R337. A received RPDO is applied as a set of mapped writes judged one by one. -/
  | rpdoReceived (i : Fin 16) (data : List Val)
  /-- R337. A TPDO reads its mapped objects in one tick and is sent at its transmission instant. -/
  | tpdoTransmit (i : Fin 16)
  /-- R335. A CANopen SYNC is received and triggers synchronous PDOs. -/
  | canSyncReceived (c : Fin 2)
  /-- R335. The producer heartbeat is sent every 0x1017 period. -/
  | heartbeatProduce (c : Fin 2)
  /-- R338. No heartbeat within its time logs 0x7009 and sets error-register bit 4. -/
  | heartbeatConsumerTimeout (e : Fin 4)
  /-- R338. A CAN port reaches bus-off and stops transmitting. -/
  | canBusOff (c : Fin 2)
  /-- R338. After 128 occurrences of 11 recessive bits the port recovers and sends boot-up. -/
  | canBusOffRecovery (rd : Measured (Fin 2) Nat)
  /-- R341. A service-protocol OPEN creates a session, refused beyond eight. -/
  | svcOpen (port : Nat) (seq : Nat)
  /-- R341. CLOSE ends a session with its ownership and service access. -/
  | svcClose (h : SvcHead)
  /-- R341. KEEPALIVE renews a session. -/
  | svcKeepalive (h : SvcHead)
  /-- R340. READ returns an object's value. -/
  | svcRead (h : SvcHead) (key : Nat)
  /-- R340. WRITE writes an object under the dictionary rules. -/
  | svcWrite (h : SvcHead) (key : Nat) (v : Val)
  /-- R340. READ_SEG returns a segment of a long value. -/
  | svcReadSeg (h : SvcHead) (key offset : Nat)
  /-- R340. WRITE_SEG writes a segment of a long value, the last segment completing it. -/
  | svcWriteSeg (h : SvcHead) (key offset : Nat) (bytes : List Nat) (last : Bool) (v : Val)
  /-- R342. SUBSCRIBE defines or deletes a process-data set for the session. -/
  | svcSubscribe (h : SvcHead) (set : Fin 8) (ms : Nat) (keys : List Nat)
  /-- R341. A session ends after NET_SESSION_TIMEOUT without a datagram. -/
  | sessionTimeout (session : Nat)
  /-- R342. At each multiple of its period a PROCESS datagram with values read in one tick is sent. -/
  | processSetSend (port session : Nat) (set : Fin 8)
  /-- R343. A host SPI request frame is received and served, RDY_N signalling the response. -/
  | spiFrameReceived (crcOk : Bool) (seq : Nat) (r : SpiReq)
  /-- R346. The switch becomes ready at the end of ADIT and the bypass relays are energised. -/
  | bypassOpen
  /-- R347. An Ethernet port's link goes up or down. -/
  | ethLinkChange (p : Fin 4) (up : Bool) (speed : Nat)
  /-- R340. An ARP request is answered. -/
  | arpRequest (port : Nat) (ip : Nat)
  /-- R340. An ICMP echo request is answered. -/
  | icmpEchoRequest (port : Nat) (data : List Nat)
  /-- R352. Writing 0x65766173 to 0x1010:01 stores every saved object as one set. -/
  | storeParameters (hold : Rat) (w : Writer)
  /-- R351. Writing 0x64616F6C to 0x1011:01 restores defaults at the next power-up. -/
  | restoreDefaults (w : Writer)
  /-- R352. Writing 0 to 0x1003:00 clears the error history. -/
  | errorHistoryClear (w : Writer)
  /-- R355. The lockstep comparator finds a difference; cores halt and latched fault 0x8001 follows. -/
  | lockstepMismatch
  /-- R356. Every 10 s a full March test of keystone memory completes. -/
  | memoryMarchTest (pass : Bool)
  /-- R443. A rail outside its window for two ticks is latched fault 0x8002. -/
  | supplyWindowFault (rail : Fin 18) (ticks : TwoTicks)
  /-- R356. A permission-line echo missing or wrong for 2 µs is latched fault 0x8001. -/
  | permissionEchoFault (rd : Measured PermLine Nat)
  /-- R356. At 720 h without reset RESET_DUE is set and event 0x8008 logged. -/
  | resetDue
  /-- R361. A requester asks an SOC instance to close; it energises if every condition holds. -/
  | socCloseRequest (i : SocId)
  /-- R361. A requester or stop asks an SOC instance to open and it de-energises. -/
  | socOpenRequest (i : SocId)
  /-- R362. Every SAF_SOC_TEST_PERIOD an SOC instance starts a test pulse on one switch. -/
  | socSwitchTest (i : SocId)
  /-- R362. A test pulse ends, its readback is judged and pending requests act. -/
  | socTestPulseEnd (i : SocId) (followed : Bool)
  /-- R363. No confirmation within SAF_SOC_DISC of a standing close; the instance de-energises and latches 0x8011. -/
  | socCloseDiscrepancy (i : SocId)
  /-- R363. No de-energised readback within SAF_SOC_DISC of an open; latched fault 0x8012. -/
  | socOpenDiscrepancy (i : SocId)
  /-- R364. SAF_CMD CLEAR_SOC releases an instance fault after passing switch tests and readback. -/
  | clearSoc (i : SocId) (testsPass : Bool) (w : Writer)
  /-- R365. A contactor energised for SAF_SOC_PROOF sets PROOF_DUE. -/
  | socProofDue (i : SocId)
  /-- R369. The ramp plus tail time elapses without completion; stage SAFE with 0x8022. -/
  | ssdRampIncomplete (n : StageId)
  /-- R370. Keystone and pier measures differ beyond the band for 1 ms; stage SAFE with 0x8025. -/
  | ssdPlausibilityFail (n : StageId) (held : Nat)
  /-- R375. A producer sends a safety unit every SAF_CONN_PERIOD on its paths. -/
  | safetyUnitSend (c : ConnId)
  /-- R376. A consumer checks an arriving unit and accepts or rejects it. -/
  | safetyUnitReceived (named : Option ConnId) (unit : List Nat)
  /-- R377. No unit accepted for SAF_CONN_MAX_AGE; the connection goes to its safe value. -/
  | connectionTimeout (c : ConnId)
  /-- R378. No copy has passed on one path for SAF_CONN_MAX_AGE; that path is lost. -/
  | pathTimeout (c : ConnId) (fallback : Bool)
  /-- R377. SAF_CMD RESTART_CONN restarts a connection at its safe value. -/
  | restartConn (c : ConnId) (w : Writer)
  /-- R384. CVU_CTRL START reserves a unit for its source and starts a computation. -/
  | cvuStart (u : CvuId) (w : Writer)
  /-- R384. A write to CVU_DATA feeds 1, 2 or 4 bytes to the owning source's computation. -/
  | cvuFeed (u : CvuId) (bytes : List Nat) (w : Writer)
  /-- R385. CVU_CTRL FINISH completes the check by its mode: compare, append or check and pass. -/
  | cvuFinish (u : CvuId) (w : Writer)
  /-- R387. The house island scrubs a word, correcting, poisoning or classifying records. -/
  | scrubStep (f : ScrubFind)
  /-- R387. A scrub round exceeds its longest figure and SCRUB_LATE is set. -/
  | scrubRoundLate (mem : Fin 3) (seconds : Rat)
  /-- R391. A store is requested; it starts only if available hold-up energy covers its worst case. -/
  | storeRequest (kind : StoreKind) (lines : Nat) (hold : Rat)
  /-- R391. A deferred store is tested again every 1 ms. -/
  | storeRetry (hold : Rat)
  /-- R391. A started store runs to its end and the next queued store may start. -/
  | storeComplete (verified : Bool) (hold : Rat)
  /-- R394. Buffered events are written as a page, at most 100 ms after the oldest arrived. -/
  | logPageWrite (hold : Rat)
  /-- R395. NVS_LOG_READ_SEQ selects a record that NVS_LOG_READ_DATA returns, or refuses. -/
  | eventLogRead (seq : Nat) (w : Writer)
  /-- R396. NVS_CMD COMMIT_VERSION raises the security-version counter to the running image's. -/
  | commitVersion (w : Writer)
  /-- R398. A block of a new image is written to the idle slot; the last block triggers verification. -/
  | imageWriteBlock (b : ImageBlock) (hold : Rat) (w : Writer)
  /-- R403. The link comes up; identities are exchanged and pair conditions examined. -/
  | clauzLinkUp (id : PartnerId) (lanes : Vector Bool 2)
  /-- R402. 800 ns without a valid word or three bad frames take the link down. -/
  | clauzLinkDown
  /-- R402. One lane is lost and traffic continues on the other. -/
  | clauzLaneLost (lane : Fin 2)
  /-- R405. Pair-lock conditions have held for 10 ms and the grid phase is measured anew. -/
  | pairLockRegained (phase : Int)
  /-- R407. TWN_WIN_DATA reads or writes the secondary object named in TWN_WIN_TARGET. -/
  | partnerWindowAccess (op : WindowOp) (w : Writer)
  /-- R412. The standby applies a write forwarded from the active module at its effective instant. -/
  | forwardedWrite (key : Nat) (v : Val) (inst : Nat)
  /-- R410. A dual-wired input differs beyond tolerance for eight samples; XCHECK_FAILED set. -/
  | xcheckFail (c : AdcId) (diffs : Vector Rat 8)
  /-- R410. XCHECK_FAILED clears after 1 s without a difference. -/
  | xcheckClear
  /-- R411. A partner's set digest is compared with the own one and differences counted. -/
  | digestReceived (n : StageId) (k : Nat) (digest : SetDigest)
  /-- R417. The partner's verdict arrives and the outcome is decided by the arbitration table. -/
  | arbitrationVerdictReceived (pass armed : Bool) (acted : List (Fin 6))
  /-- R417. 2 µs after the own verdict the outcome is decided with the partner's verdict unknown. -/
  | arbitrationTimeout
  /-- R413. CLAIM_IN changes to asserted, released or open and GRANT is re-evaluated. -/
  | claimInChange (v : ClaimIn)
  /-- R413. An ARMED standby that has read CLAIM_IN released for 1.0 µs claims. -/
  | autoClaim
  /-- R414. A driver primary with no GRANT for 20 µs and no partner claim applies its pattern. -/
  | noHolderTimeout (g : GdId)
  /-- R420. Return conditions held for TWN_RETURN_HOLDOFF; the primary proposes a handover instant. -/
  | returnHoldoffEnd
  /-- R421. TWN_CMD HANDOVER proposes a handover from the active module. -/
  | handoverCmd (w : Writer)
  /-- R421. At the handover instant claims change and GRANT passes between modules. -/
  | handoverPass
  /-- R427. A digital input's filter counter reaches F or 0 and its filtered state changes. -/
  | diStateChange (d : DiId) (samples : List DiSample)
  /-- R428. A wire-break or short class persists for F samples; line fault declared. -/
  | diLineFault (d : DiId) (first : DiSample) (rest : List DiSample)
  /-- R428. F consecutive samples in a contact window end the line fault. -/
  | diLineFaultEnd (d : DiId) (first : DiSample) (rest : List DiSample)
  /-- R435. A 24 V output takes a command at arrival, releasing an overload latch on off. -/
  | fieldOutputCommand (o : DoId) (on : Bool) (instant : Nat)
  /-- R430. An output over 0.6 A for 10 ms or in limit for 1 ms latches off. -/
  | doOverload (o : DoId) (rd : OutLoad)
  /-- R430. An open-wire condition persisting 50 ms sets OPEN_WIRE. -/
  | doOpenWire (o : DoId) (rd : OutWire)
  /-- R430. The open-wire condition absent for 50 ms clears OPEN_WIRE. -/
  | doOpenWireClear (o : DoId) (rd : OutWire)
  /-- R430. The switch junction exceeds 150 °C and the output turns off. -/
  | doOverTemp (rd : Measured DoId Rat)
  /-- R430. The junction falls below 135 °C and the output follows its command again. -/
  | doOverTempEnd (rd : Measured DoId Rat)
  /-- R431. FIELD24 low or high for 1 ms turns all 24 V outputs off. -/
  | field24Fault (rd : Reading)
  /-- R431. FIELD24 in range for 10 ms restores the outputs to their commands. -/
  | field24Restored (rd : Reading)
  /-- R433. A FIELD_OUT command drives an unowned contactor driver. -/
  | contactorDriverCommand (d : SocId) (on : Bool) (instant : Nat)
  /-- R434. Coil current above 4.0 A for 10 µs turns both switches off and latches. -/
  | cdOvercurrent (d : SocId) (rd : Reading)
  /-- R434. FIO_CD_CMD CLEAR releases an unowned driver's overcurrent latch while commanded off. -/
  | cdClear (d : SocId) (w : Writer)
  /-- R434. Coil current below 20 mA for 50 ms while energised sets OPEN_COIL. -/
  | cdOpenCoil (d : SocId) (rd : Reading)
  /-- R434. Coil current at or above 20 mA for 50 ms clears OPEN_COIL. -/
  | cdOpenCoilEnd (d : SocId) (rd : Reading)
  /-- R434. A terminal not following its switch for 1 ms on an unowned driver sets DISCREPANT. -/
  | cdReadbackMismatch (d : SocId) (lag : SwitchLag)
  /-- R435. FIO_FORCE sets outputs and unowned drivers directly in READY with service access. -/
  | fieldForce (v : Nat) (w : Writer)
  /-- R438. AUX_IN above 165 V for 20 µs sets AUX_HIGH. -/
  | auxHighStart
  /-- R438. AUX_IN below 160 V for 1 ms ends the high excursion with event 0x1024. -/
  | auxHighEnd (rd : Excursion)
  /-- R439. AUX_IN below 7.0 V for 20 µs begins an interruption and the event buffer is written. -/
  | auxInterruptionStart (rd : Reading) (hold : Rat)
  /-- R439. AUX_IN at or above 8.0 V for 1 ms ends the interruption and shed supplies return. -/
  | auxInterruptionEnd (rd : Excursion)
  /-- R439. 10 ms of interruption or HOLD below 14.0 V reaches the stop level; the module enters HALT. -/
  | auxStopLevel (hold : Rat)
  /-- R440. SUP_BRIDGE after an interruption begins, gate-drive, sensor and PHY die 2 supplies are shed. -/
  | supplyShed
  /-- R441. AUX_IN below 14.4 V for 1 ms limits the gate-drive rail to 40 %. -/
  | gdLimitEntry (rd : Reading)
  /-- R441. AUX_IN above 15.0 V for 100 ms lifts the gate-drive limit. -/
  | gdLimitExit (rd : Reading)
  /-- R444. Every 24 ms a housekeeping round ends and temperature thresholds are evaluated. -/
  | housekeepingRound (temps : Vector TempRead 30) (rails : Vector Rat 18)
  /-- R457. The reset input is asserted after its 1 ms filter and the module enters HALT. -/
  | resetInputAssert
  /-- R457. The reset input is released after its filter. -/
  | resetInputRelease
  /-- R26. 48 ms (two housekeeping rounds) after the house island is fenced without data, the keystone treats every temperature as a broken sensor and latches the thermal shut-down. -/
  | housekeepingDataLoss
  /-- R25. The abutment sees contactor-enable toggles again, and kept FIELD_OUT commands act once enable returns. -/
  | contactorEnableReturn
  /-- R413. The interlock hold circuit sees no claim toggle for 2 µs and drives CLAIM_OUT low, releasing the claim after a keystone failure. -/
  | claimHoldLapse
  /-- R402. A lost Clauz lane returns, the link goes from up on one lane to fully up, and event 0xA002 is logged. -/
  | clauzLaneRegained (lane : Fin 2)
  /-- R291. As master, the module sends an Announce at each announce interval with clockClass 248 and its priorities. -/
  | ptpAnnounceTransmit (b : Fin 2)
  /-- R291. At each delay-request interval the port sends a Delay_Req, or a Pdelay_Req in peer-to-peer mode, and stamps it for path-delay measurement. -/
  | ptpDelayRequestTransmit (b : Fin 2)
  /-- R338. A heartbeat from a node named in a consumer entry of 0x1016 arrives and restarts that entry's supervision. -/
  | heartbeatReceived (c : Fin 2) (node : Nat)
  /-- R344. The host clocks in a response frame: RDY_N rises at its first bit, or the frame reads type 0x00 and the request stays pending if it is clocked before RDY_N falls. -/
  | spiResponseRead (ready : Bool)
  /-- R345. A frame received on E1, E2 or the internal port is stored, its source MAC learnt, and forwarded or flooded into the egress queue of its priority. -/
  | switchFrameForward (f : EthFrame)
deriving DecidableEq, Repr

end Sys2Proof
end

