-- ==== Sys2Proof/WellFormed.lean ====
section
/-!
DEFINITION. Which commands the outside world can send at all: operands within the widths that the spec gives them. A command out of its
width is no command of the block; a command within its width that a rule refuses is well formed, and its meaning refuses it.
-/

namespace Sys2Proof

/-- UNSIGNED16, UNSIGNED32 and 64-bit operands (Table 0.5). -/
def below16 (v : Nat) : Bool := decide (v < 2 ^ 16)
def below32 (v : Nat) : Bool := decide (v < 2 ^ 32)
def below64 (v : Nat) : Bool := decide (v < 2 ^ 64)
/-- Bytes. -/
def bytesOk (l : List Nat) : Bool := l.all fun b => decide (b < 256)
/-- An index with its sub-index. -/
def keyOk (k : Nat) : Bool := decide (k < 2 ^ 24)
/-- A mask over the 24 edge channels. -/
def maskOk (v : Nat) : Bool := decide (v < 2 ^ 24)
/-- A CANopen node number (Table 2.6). -/
def nodeOk (v : Nat) : Bool := decide (1 ≤ v ∧ v ≤ 127)
/-- Port codes of E1/E2, E3 and E4 (R330, Table 14.1). -/
def ethPort (p : Nat) : Bool := decide (2 ≤ p ∧ p ≤ 4)

/-- A writer: the host SPI port and the CAN ports with session 0, an Ethernet port with a 16-bit session, or the logic engine
(R329, R330). -/
def writerOk : Writer → Bool
  | .logic => true
  | .port c se => if ethPort c then below16 se else decide (c = 1 ∨ c = 5 ∨ c = 6) && decide (se = 0)

/-- A value: bytes where it is a string or domain. -/
def valOk : Val → Bool
  | .bytes b => bytesOk b
  | _ => true

/-- A command at a joint: its instant is a 64-bit time (R17). -/
def timedOk (c : TimedCmd) : Bool := c.inst.all below64

/-- A request of the service protocol (Table 14.5). -/
def headOk (h : SvcHead) : Bool := ethPort h.port && below16 h.session && below32 h.seq

/-- The 32-bit words of a command set (Table 7.3). -/
def wordsOk (l : List Nat) : Bool := l.all below32

def sdoOk : SdoReq → Bool
  | .read k => keyOk k
  | .write k v => keyOk k && valOk v
  | .writeInit k n => keyOk k && below32 n
  | .segment _ b _ v => bytesOk b && valOk v
  | .block => true
  | .abort => true

def spiOk : SpiReq → Bool
  | .read k => keyOk k
  | .write k v => keyOk k && valOk v
  | .readSeg k o => keyOk k && below32 o
  | .writeSeg k o b _ v => keyOk k && below32 o && bytesOk b && valOk v
  | .keepalive => true
  | .other => true

/-- An Ethernet frame: 48-bit addresses, an ingress port, a 3-bit priority (R345). -/
def frameOk (f : EthFrame) : Bool := decide (f.ingress < 3) && decide (f.src < 2 ^ 48) && decide (f.dst < 2 ^ 48) && decide (f.pcp < 8)

/-- A program package: its identities are 32-bit words (R306). -/
def programOk (p : Program) : Bool := below32 p.id && below32 p.check

def windowOk : WindowOp → Bool
  | .read a v => below32 a && valOk v
  | .write v a => below32 a && valOk v

/-- What a partner sends at link-up (R403). -/
def partnerOk (p : PartnerId) : Bool :=
  below32 p.serial && decide (p.pairMode < 4) && below32 p.fw && below32 p.cfgCheck && below32 p.progCheck && below32 p.boot

/-- One execution of the program: the image has 16,384 lines, 64 of them the commit record (R311, Table 16.5). -/
def runOk (r : CycleRun) : Bool := decide (r.lines ≤ 16320)

/-- A command is well formed. -/
def Instr.wf : Instr → Bool
  | .timeBroadcast _ => true
  | .jointWordArrival _ _ _ w => below64 w
  | .commandArrival c => timedOk c
  | .effectiveInstantReached _ => true
  | .islandFence _ _ => true
  | .safePatternApply _ => true
  | .safePatternLeave _ => true
  | .contactorEnableLapse => true
  | .modeTick _ => true
  | .auxPowerUp => true
  | .aditEntry _ _ => true
  | .aditPllTimeout => true
  | .imageVerified _ _ _ => true
  | .surveyConfigLoad _ _ => true
  | .selfCalComplete _ => true
  | .holdupCheckComplete _ _ _ => true
  | .deferredDiagStart _ => true
  | .offStateTestComplete _ _ => true
  | .logicImageRestore => true
  | .modStart w => writerOk w
  | .modStop w => writerOk w
  | .serviceRelease w => writerOk w
  | .startStage _ w => writerOk w
  | .stopStage _ w => writerOk w
  | .resetSafe _ w => writerOk w
  | .stageLimitExit _ => true
  | .chargeTimeout => true
  | .stopTimeout => true
  | .pierDispatch _ _ => true
  | .xvRampEnd _ => true
  | .gflParamHoldClear _ w => writerOk w
  | .anchorInstant _ => true
  | .claimSlotReached _ => true
  | .claimHoldoffExpiry _ => true
  | .contactorCloseTimeout _ => true
  | .rampTimeout _ => true
  | .syncDwellExpiry _ => true
  | .syncTimeout _ => true
  | .syncLineDeadTimeout _ => true
  | .joinGlideEnd _ => true
  | .tieClose _ w => writerOk w
  | .tieOpen _ w => writerOk w
  | .rideEndTimeout _ => true
  | .faultBudgetExhausted _ => true
  | .inputLossDc _ _ => true
  | .inputLossAc _ _ => true
  | .inputReturnConfirm _ => true
  | .inputRampComplete _ => true
  | .coastReleaseEnd _ => true
  | .coastLinkLowTimeout _ => true
  | .coastMaxTimeout _ => true
  | .inputPllHoldExpiry _ => true
  | .inputZeroCrossing _ _ => true
  | .surveyRoundStart _ => true
  | .surveyRoundComplete _ instant => below64 instant
  | .adaptOffsetRampEnd _ => true
  | .canaryAct _ _ => true
  | .pierCommit _ word => below32 word.offset
  | .commandSetArrival frame => wordsOk frame.words
  | .provisionalSetArrival frame => wordsOk frame.words
  | .postCommit _ _ => true
  | .pierOverrun _ => true
  | .bistRoundComplete _ _ => true
  | .bistLate _ _ => true
  | .pieSelftest _ w => writerOk w
  | .selftestComplete _ _ => true
  | .pieParamHoldClear _ w => writerOk w
  | .blockStateReset _ inst w => decide (inst < 4096) && writerOk w
  | .timebaseStart _ => true
  | .sampleTrigger _ => true
  | .reloadPoint _ _ => true
  | .tbPeriodChange _ period inst w => below32 period && below64 inst && writerOk w
  | .tbPhaseShift _ _ inst w => below64 inst && writerOk w
  | .staticCtrlWrite _ ctrl w => below32 ctrl && writerOk w
  | .delayLineRecal _ => true
  | .edgeHeartbeat => true
  | .triggerFire _ _ => true
  | .rawOverrideEnable _ w => writerOk w
  | .rawOutputWrite _ mask w => maskOk mask && writerOk w
  | .tripSourceActive _ => true
  | .tripSourceInactive _ => true
  | .tripPeriodEnd _ => true
  | .tripFreeRunDecrement _ => true
  | .tripGroupLatch _ => true
  | .tripGroupClear _ w => writerOk w
  | .gdUvloEntry _ => true
  | .gdUvloExit => true
  | .desatDetect _ => true
  | .softTurnoffSecondLevel _ => true
  | .millerClampEngage _ => true
  | .clearDesat _ w => writerOk w
  | .gdDiagCmd _ w => writerOk w
  | .ackPulseReceived _ _ => true
  | .ackWindowExpiry _ => true
  | .headFaultDetect _ => true
  | .headCodeReceived _ _ => true
  | .clearPort _ _ w => writerOk w
  | .acqTimerEvent _ => true
  | .conversionComplete _ _ => true
  | .acqSelfCal w => writerOk w
  | .acqDiag _ w => writerOk w
  | .acqDiagComplete _ => true
  | .acqRestore _ w => writerOk w
  | .trackingSample _ _ => true
  | .substitutionApply _ => true
  | .sdFault _ _ => true
  | .sdFaultEnd _ => true
  | .chainOutput _ _ => true
  | .bankSwitch _ inst w => below64 inst && writerOk w
  | .bankFadeEnd _ => true
  | .triggerHoldoffEnd _ => true
  | .triggerArm _ w => writerOk w
  | .streamEnable _ w => writerOk w
  | .datagramAgeTimeout _ => true
  | .galleryRead _ k w => below32 k && writerOk w
  | .referenceLost _ => true
  | .refHoldoverEnd _ => true
  | .referenceFreqCheck _ _ => true
  | .referenceHealthy _ => true
  | .revertRef w => writerOk w
  | .pllLock _ => true
  | .pllLossOfLock _ => true
  | .pllRelockAttempt _ => true
  | .pllRelockTimeout _ => true
  | .netPllLoss => true
  | .netPllRelockAttempt _ => true
  | .clockMonitorCheck _ _ => true
  | .segmentUpdate _ => true
  | .ptpSyncReceived _ _ => true
  | .syncLossTimeout _ => true
  | .ptpAnnounceReceived _ _ => true
  | .announceReceiptTimeout _ => true
  | .ptpDelayMessageReceived _ _ => true
  | .ptpSyncTransmit _ => true
  | .stepNta w => writerOk w
  | .stepNtb w => writerOk w
  | .tcFrameForward _ _ _ _ => true
  | .ttExchange _ boot => below32 boot
  | .logicCycleBoundary run => runOk run
  | .logicHangTimeout => true
  | .hostTagWrite tag v w => below32 tag && valOk v && writerOk w
  | .tagPeek tag w => below32 tag && writerOk w
  | .cyclePeriodWrite ms w => below16 ms && writerOk w
  | .stationTelegramReceived _ _ data => bytesOk data
  | .stationDrop _ => true
  | .programStageBlock last w => last.all programOk && writerOk w
  | .programExchange w => writerOk w
  | .discardStaged w => writerOk w
  | .resetRetain w => writerOk w
  | .snapshotReceived _ _ _ _ => true
  | .dictionaryWrite key v w earlier later => keyOk key && valOk v && writerOk w && earlier.all writerOk && later.all writerOk
  | .ownershipClaim w => writerOk w
  | .ownershipForce w => writerOk w
  | .ownershipRelease w => writerOk w
  | .ownershipTimeout => true
  | .serviceChallengeRead w => writerOk w
  | .serviceResponse signature w => bytesOk signature && writerOk w
  | .serviceAccessTimeout w => writerOk w
  | .challengeBlockEnd port => decide (1 ≤ port ∧ port ≤ 6)
  | .nmtStart _ => true
  | .nmtStop _ => true
  | .nmtEnterPreop _ => true
  | .nmtResetNode _ => true
  | .nmtResetComm _ => true
  | .sdoRequest _ r => sdoOk r
  | .sdoTimeout _ => true
  | .rpdoReceived _ data => data.all valOk
  | .tpdoTransmit _ => true
  | .canSyncReceived _ => true
  | .heartbeatProduce _ => true
  | .heartbeatConsumerTimeout _ => true
  | .canBusOff _ => true
  | .canBusOffRecovery _ => true
  | .svcOpen port seq => ethPort port && below32 seq
  | .svcClose h => headOk h
  | .svcKeepalive h => headOk h
  | .svcRead h key => headOk h && keyOk key
  | .svcWrite h key v => headOk h && keyOk key && valOk v
  | .svcReadSeg h key offset => headOk h && keyOk key && below32 offset
  | .svcWriteSeg h key offset bytes _ v => headOk h && keyOk key && below32 offset && bytesOk bytes && valOk v
  | .svcSubscribe h _ ms keys => headOk h && below16 ms && keys.all keyOk
  | .sessionTimeout session => below16 session
  | .processSetSend port session _ => ethPort port && below16 session
  | .spiFrameReceived _ seq r => decide (seq < 256) && spiOk r
  | .bypassOpen => true
  | .ethLinkChange _ _ _ => true
  | .arpRequest port ip => ethPort port && below32 ip
  | .icmpEchoRequest port data => ethPort port && bytesOk data
  | .storeParameters _ w => writerOk w
  | .restoreDefaults w => writerOk w
  | .errorHistoryClear w => writerOk w
  | .lockstepMismatch => true
  | .memoryMarchTest _ => true
  | .supplyWindowFault _ _ => true
  | .permissionEchoFault _ => true
  | .resetDue => true
  | .socCloseRequest _ => true
  | .socOpenRequest _ => true
  | .socSwitchTest _ => true
  | .socTestPulseEnd _ _ => true
  | .socCloseDiscrepancy _ => true
  | .socOpenDiscrepancy _ => true
  | .clearSoc _ _ w => writerOk w
  | .socProofDue _ => true
  | .ssdRampIncomplete _ => true
  | .ssdPlausibilityFail _ _ => true
  | .safetyUnitSend _ => true
  | .safetyUnitReceived _ unit => bytesOk unit
  | .connectionTimeout _ => true
  | .pathTimeout _ _ => true
  | .restartConn _ w => writerOk w
  | .cvuStart _ w => writerOk w
  | .cvuFeed _ bytes w => bytesOk bytes && writerOk w
  | .cvuFinish _ w => writerOk w
  | .scrubStep _ => true
  | .scrubRoundLate _ _ => true
  | .storeRequest _ _ _ => true
  | .storeRetry _ => true
  | .storeComplete _ _ => true
  | .logPageWrite _ => true
  | .eventLogRead seq w => below32 seq && writerOk w
  | .commitVersion w => writerOk w
  | .imageWriteBlock _ _ w => writerOk w
  | .clauzLinkUp id _ => partnerOk id
  | .clauzLinkDown => true
  | .clauzLaneLost _ => true
  | .pairLockRegained _ => true
  | .partnerWindowAccess op w => windowOk op && writerOk w
  | .forwardedWrite key v inst => keyOk key && valOk v && below64 inst
  | .xcheckFail _ _ => true
  | .xcheckClear => true
  | .digestReceived _ k digest => below64 k && decide (digest.tally < 256) && below32 digest.check
  | .arbitrationVerdictReceived _ _ _ => true
  | .arbitrationTimeout => true
  | .claimInChange _ => true
  | .autoClaim => true
  | .noHolderTimeout _ => true
  | .returnHoldoffEnd => true
  | .handoverCmd w => writerOk w
  | .handoverPass => true
  | .diStateChange _ _ => true
  | .diLineFault _ _ _ => true
  | .diLineFaultEnd _ _ _ => true
  | .fieldOutputCommand _ _ instant => below64 instant
  | .doOverload _ _ => true
  | .doOpenWire _ _ => true
  | .doOpenWireClear _ _ => true
  | .doOverTemp _ => true
  | .doOverTempEnd _ => true
  | .field24Fault _ => true
  | .field24Restored _ => true
  | .contactorDriverCommand _ _ instant => below64 instant
  | .cdOvercurrent _ _ => true
  | .cdClear _ w => writerOk w
  | .cdOpenCoil _ _ => true
  | .cdOpenCoilEnd _ _ => true
  | .cdReadbackMismatch _ _ => true
  | .fieldForce v w => below32 v && writerOk w
  | .auxHighStart => true
  | .auxHighEnd _ => true
  | .auxInterruptionStart _ _ => true
  | .auxInterruptionEnd _ => true
  | .auxStopLevel _ => true
  | .supplyShed => true
  | .gdLimitEntry _ => true
  | .gdLimitExit _ => true
  | .housekeepingRound _ _ => true
  | .resetInputAssert => true
  | .resetInputRelease => true
  | .housekeepingDataLoss => true
  | .contactorEnableReturn => true
  | .claimHoldLapse => true
  | .clauzLaneRegained _ => true
  | .ptpAnnounceTransmit _ => true
  | .ptpDelayRequestTransmit _ => true
  | .heartbeatReceived _ node => nodeOk node
  | .spiResponseRead _ => true
  | .switchFrameForward f => frameOk f

end Sys2Proof
end

