-- ==== Sys2Proof/Config.lean ====
section
/-!
DEFINITION. What the individual module or its implementation fixes and the spec leaves open: constants of the module,
functions whose values the spec does not state, and free values. None of them has a body, so nothing can be proved about
their values. The log entries named beside them say what is open.
-/

namespace Sys2Proof.Config

/-- Constants of the individual module ("per module" in the object tables), by dictionary key (DESIGN CHOICE, log 5). -/
opaque moduleConst : Nat → Nat
opaque moduleReal : Nat → Rat
opaque moduleText : Nat → List Nat

/-- Where a value stands in a pier's cores: pier, core, vector register, lane (R145). -/
structure CoreReg where
  pier : Nat
  core : Nat
  reg : Nat
  lane : Nat

/-- What a core's register lane holds after a number of samples (DESIGN CHOICE, log 146). -/
opaque coreReg : CoreReg → Nat → BitVec 32

/-- Free values: the n-th value the spec leaves undefined or unstated (DESIGN CHOICE, log 4). -/
opaque freeNat : Nat → Nat
opaque freeReal : Nat → Rat
opaque freeBool : Nat → Bool

/-- By how much the trig unit's sine (0) or cosine (1) of a UQ0.32 angle differs from the exact value: at most 2⁻²² (Table 7.1), how
much is not stated (DESIGN CHOICE, log 6). -/
opaque trigError : Nat → Nat → Rat

/-- f_res of R62 where GFL_L2 is 0, from GFL_L1 and GFL_CF: the formula divides by 0 (DESIGN CHOICE, log 124). -/
opaque resonanceOpen : Rat → Rat → Rat

/-- What a SAR input's full scale stands for on the converter, in A or V: the sensor in front of a pin is the user's (DESIGN CHOICE, log 157). -/
opaque sensorScale : Nat → Rat

/-- Ratings of a stage that no object names: S_b in kVA (0) of a stage without the forming law, V_b in V (1) of a MOT stage, f_b in Hz (2) of
an AFE or MOT stage (DESIGN CHOICE, log 128). -/
opaque stageRating : Nat → Nat → Rat

/-- The angle of a vector as a UQ0.32 fraction of a turn; the spec names angles of measured vectors without a discrete
form (DESIGN CHOICE, log 6). -/
opaque arg : Rat → Rat → Nat

/-- One step of the dual second-order generalised integrator (block 0x0010, R63): from gain, tracking speed in rad/s, period,
state and input vector to the new state, the positive and the negative sequence. The spec states no discrete form
(DESIGN CHOICE, log 7). -/
opaque dsogi : Rat → Rat → Rat → List Rat → Rat → Rat → List Rat × List Rat

/-- Tracker of three line-to-line voltages (R74): from the tracker's state and the three samples to the new state, the
positive-sequence amplitude, angle and frequency and the largest sliding RMS value. No discrete form stated (DESIGN CHOICE, log 7). -/
opaque tracker : List Rat → Rat → Rat → Rat → List Rat × List Rat

/-- Whether an image, package, response or unit whose bytes are given carries a valid signature under a key held in the
module (R331, R396, R397); the cryptography is not written out in the spec (DESIGN CHOICE, log 8). -/
opaque signatureValid : Nat → List Nat → Bool

/-- The hash the spec calls SHA-256 (R397). -/
opaque sha256 : List Nat → List Nat

/-- One step of an AFE stage's input PLL (R110, R117): from frequency in Hz, UQ0.32 phase, input voltage and period to the
new frequency and phase. No discrete form stated (DESIGN CHOICE, log 7). -/
opaque inputPll : Rat → Nat → Rat → Rat → Rat × Nat

/-- The register content from which the survey's maximum-length sequence starts (R126): not stated (DESIGN CHOICE, log 7). -/
opaque mlsSeed : Nat

/-- Byte 18 of an event record, by its sequence number: which island and unit counts as the source of each event is not stated
(DESIGN CHOICE, log 23). -/
opaque eventSource : Nat → Nat

end Sys2Proof.Config
end

