-- ==== Sys2Proof/Machine/Numeric.lean ====
section
/-!
DEFINITION. The arithmetic of a pier's cores and accelerator (R145, R146, R153): binary32 operations rounded one by one, the trig unit,
and the exact tests R168 needs of a matrix.
-/

namespace Sys2Proof

def nth (l : List Rat) (i : Nat) : Rat := l.getD i 0

/-! ### Operations of a core: each rounds once (R153) -/

def fadd (a b : Rat) : Rat := r32 (a + b)
def fsub (a b : Rat) : Rat := r32 (a - b)
def fmul (a b : Rat) : Rat := r32 (a * b)
def fdiv (a b : Rat) : Rat := r32 (a / b)
/-- A fused multiply-add rounds once (R153). -/
def fma (a b c : Rat) : Rat := r32 (a * b + c)

/-- A vector times a number, added to another: one fused multiply-add per component. -/
def Vec.fma (k : Rat) (v w : Vec) : Vec := ⟨Sys2Proof.fma k v.x w.x, Sys2Proof.fma k v.y w.y⟩
/-- The inner product of two vectors: whether one drives further along the other. -/
def Vec.dot (v w : Vec) : Rat := v.x * w.x + v.y * w.y

/-! ### The trig unit -/

def halfPi : Rat := mkRat 1570796326794897 1000000000000000

/-- Sine and cosine of an angle in the first quadrant by their series, to better than 2⁻²⁷. -/
def sinSeries (x : Rat) : Rat :=
  let y := x * x
  x * (1 - y / 6 * (1 - y / 20 * (1 - y / 42 * (1 - y / 72 * (1 - y / 110 * (1 - y / 156))))))
def cosSeries (x : Rat) : Rat :=
  let y := x * x
  1 - y / 2 * (1 - y / 12 * (1 - y / 30 * (1 - y / 56 * (1 - y / 90 * (1 - y / 132)))))

/-- Sine of a UQ0.32 angle, by quadrants. -/
def sinTurn (th : Nat) : Rat :=
  let x := halfPi * mkRat ((th % 1073741824 : Nat) : Int) 1073741824
  match th / 1073741824 % 4 with
  | 0 => sinSeries x
  | 1 => cosSeries x
  | 2 => -sinSeries x
  | _ => -cosSeries x

/-- What the trig unit gives: within 2⁻²² of the exact value (Table 7.1), by how much is left open (DESIGN CHOICE, log 6). -/
def trigUnit (exact err : Rat) : Rat := r32 (exact + clampR err (-(mkRat 3 16777216)) (mkRat 3 16777216))
def sin32 (th : Nat) : Rat := trigUnit (sinTurn th) (Config.trigError 0 th)
def cos32 (th : Nat) : Rat := trigUnit (sinTurn (wrap32 ((th : Int) + 1073741824))) (Config.trigError 1 th)

/-! ### Stability of a matrix (R168), exactly -/

/-- An n × n matrix held row by row: entry, product, trace. -/
def matAt (n : Nat) (a : List Rat) (i j : Nat) : Rat := nth a (i * n + j)
def matMul (n : Nat) (a b : List Rat) : List Rat :=
  (List.range (n * n)).map fun e => (List.range n).foldl (fun t k => t + matAt n a (e / n) k * matAt n b k (e % n)) 0
def matTrace (n : Nat) (a : List Rat) : Rat := (List.range n).foldl (fun t i => t + matAt n a i i) 0

/-- Coefficients of the characteristic polynomial below the leading 1, by Faddeev and LeVerrier: `k` further steps from matrix `m`. -/
def charTail (n : Nat) (a : List Rat) : Nat → List Rat → List Rat
  | 0, _ => []
  | k + 1, m =>
    let am := matMul n a m
    let c := -(matTrace n am) / ((n - k : Nat) : Rat)
    c :: charTail n a k ((List.range (n * n)).map fun e => nth am e + if e / n = e % n then c else 0)

/-- The characteristic polynomial, constant term first. -/
def charPoly (n : Nat) (a : List Rat) : List Rat :=
  (1 :: charTail n a n ((List.range (n * n)).map fun e => if e / n = e % n then 1 else 0)).reverse

/-- Whether every root of a polynomial of the degree given lies inside the unit circle (Schur and Cohn's reduction). -/
def schurStable : Nat → List Rat → Bool
  | 0, _ => true
  | d + 1, p =>
    let top := nth p (d + 1)
    let low := nth p 0
    decide (absR low < absR top) && schurStable d ((List.range (d + 1)).map fun i => top * nth p (i + 1) - low * nth p (d - i))

/-- Whether the spectral radius of a matrix is below 1. -/
def spectralBelowOne (n : Nat) (a : List Rat) : Bool := schurStable n (charPoly n a)

end Sys2Proof
end

