-- ==== Sys2Proof/Machine/Objects.lean ====
section
/-! DEFINITION. The keys of the object dictionary: one constant per object of the spec's object tables
(Tables 2.6, 3.4, 4.3, 5.6, 6.5, 7.8, 8.11, 9.6, 10.7, 11.7, 12.7, 13.9, 14.7, 15.7, 16.8, 17.9, 18.5, 19.10 and the
communication objects of 14_dictionary_and_networks.md). A key is index * 256 + sub-index; objects that repeat per
stage, pier, channel and so on take that number (counted from 0), objects with several sub-indices take the offset. -/

namespace Sys2Proof.Machine.Obj

abbrev MOD_VENDOR_ID : Nat := 0x200001
abbrev MOD_PART : Nat := 0x200002
abbrev MOD_SERIAL : Nat := 0x200003
abbrev MOD_HW_ISSUE : Nat := 0x200004
abbrev MOD_FW_VERSION : Nat := 0x200005
abbrev MOD_FW_IMAGE : Nat := 0x200006
abbrev MOD_NODE_NUMBER : Nat := 0x200100
abbrev MOD_MODE : Nat := 0x201000
abbrev MOD_COMMAND : Nat := 0x201100
abbrev MOD_STATUS : Nat := 0x201200
abbrev MOD_LOCKOUT_CAUSE : Nat := 0x201300
abbrev MOD_TRANSITION_COUNT : Nat := 0x201400
abbrev MOD_STAGE_CFG (j : Nat) : Nat := 0x202001 + j
abbrev MOD_STAGE_STATE (j : Nat) : Nat := 0x202101 + j
abbrev MOD_STAGE_CMD (j : Nat) : Nat := 0x202201 + j
abbrev MOD_STAGE_SAFE_CAUSE (j : Nat) : Nat := 0x202301 + j
abbrev MOD_AUTOSTART : Nat := 0x203001
abbrev MOD_CHARGE_LEVEL : Nat := 0x203002
abbrev MOD_CHARGE_TIMEOUT : Nat := 0x203003
abbrev MOD_STOP_TIMEOUT : Nat := 0x203004
abbrev MOD_DIAG_LEVEL : Nat := 0x203005
abbrev GFL_CONFIG (n : Fin 4) : Nat := 0x300000 + 0x40000 * n.val
abbrev GFL_STATUS (n : Fin 4) : Nat := 0x300100 + 0x40000 * n.val
abbrev GFL_S_RATED (n : Fin 4) : Nat := 0x300201 + 0x40000 * n.val
abbrev GFL_V_RATED (n : Fin 4) : Nat := 0x300202 + 0x40000 * n.val
abbrev GFL_F_RATED (n : Fin 4) : Nat := 0x300203 + 0x40000 * n.val
abbrev GFL_H (n : Fin 4) : Nat := 0x301001 + 0x40000 * n.val
abbrev GFL_D (n : Fin 4) : Nat := 0x301002 + 0x40000 * n.val
abbrev GFL_DAMP_TC (n : Fin 4) : Nat := 0x301003 + 0x40000 * n.val
abbrev GFL_MP (n : Fin 4) : Nat := 0x301004 + 0x40000 * n.val
abbrev GFL_NQ (n : Fin 4) : Nat := 0x301005 + 0x40000 * n.val
abbrev GFL_P_SET (n : Fin 4) : Nat := 0x301006 + 0x40000 * n.val
abbrev GFL_Q_SET (n : Fin 4) : Nat := 0x301007 + 0x40000 * n.val
abbrev GFL_ISO_TC (n : Fin 4) : Nat := 0x301008 + 0x40000 * n.val
abbrev GFL_P_TC (n : Fin 4) : Nat := 0x301009 + 0x40000 * n.val
abbrev GFL_Q_TC (n : Fin 4) : Nat := 0x30100A + 0x40000 * n.val
abbrev GFL_F_LIMIT (n : Fin 4) : Nat := 0x30100B + 0x40000 * n.val
abbrev GFL_E_MIN (n : Fin 4) : Nat := 0x30100C + 0x40000 * n.val
abbrev GFL_E_MAX (n : Fin 4) : Nat := 0x30100D + 0x40000 * n.val
abbrev GFL_RV (n : Fin 4) : Nat := 0x302001 + 0x40000 * n.val
abbrev GFL_XV (n : Fin 4) : Nat := 0x302002 + 0x40000 * n.val
abbrev GFL_OUTER_DIV (n : Fin 4) : Nat := 0x303001 + 0x40000 * n.val
abbrev GFL_KP_V (n : Fin 4) : Nat := 0x303002 + 0x40000 * n.val
abbrev GFL_KI_V (n : Fin 4) : Nat := 0x303003 + 0x40000 * n.val
abbrev GFL_KP_I (n : Fin 4) : Nat := 0x303004 + 0x40000 * n.val
abbrev GFL_KC (n : Fin 4) : Nat := 0x303005 + 0x40000 * n.val
abbrev GFL_KR_H (n : Fin 4) : Nat := 0x303006 + 0x40000 * n.val
abbrev GFL_NOTCH_F (n : Fin 4) : Nat := 0x304001 + 0x40000 * n.val
abbrev GFL_NOTCH_BW (n : Fin 4) : Nat := 0x304002 + 0x40000 * n.val
abbrev GFL_NOTCH_DEPTH (n : Fin 4) : Nat := 0x304003 + 0x40000 * n.val
abbrev GFL_L1 (n : Fin 4) : Nat := 0x305001 + 0x40000 * n.val
abbrev GFL_CF (n : Fin 4) : Nat := 0x305002 + 0x40000 * n.val
abbrev GFL_L2 (n : Fin 4) : Nat := 0x305003 + 0x40000 * n.val
abbrev GFL_NEG_I_LIMIT (n : Fin 4) : Nat := 0x306001 + 0x40000 * n.val
abbrev GFL_NEG_KI (n : Fin 4) : Nat := 0x306002 + 0x40000 * n.val
abbrev GFL_XVN (n : Fin 4) : Nat := 0x306003 + 0x40000 * n.val
abbrev GFL_ZERO_KP (n : Fin 4) : Nat := 0x306004 + 0x40000 * n.val
abbrev GFL_ZERO_KI (n : Fin 4) : Nat := 0x306005 + 0x40000 * n.val
abbrev GFL_N_I_LIMIT (n : Fin 4) : Nat := 0x306006 + 0x40000 * n.val
abbrev GFL_FREQ (n : Fin 4) : Nat := 0x307001 + 0x40000 * n.val
abbrev GFL_THETA (n : Fin 4) : Nat := 0x307002 + 0x40000 * n.val
abbrev GFL_E (n : Fin 4) : Nat := 0x307003 + 0x40000 * n.val
abbrev GFL_P_MEAS (n : Fin 4) : Nat := 0x307004 + 0x40000 * n.val
abbrev GFL_Q_MEAS (n : Fin 4) : Nat := 0x307005 + 0x40000 * n.val
abbrev GFL_P_MECH (n : Fin 4) : Nat := 0x307006 + 0x40000 * n.val
abbrev GFL_V_NEG (n : Fin 4) : Nat := 0x307007 + 0x40000 * n.val
abbrev GFL_V_ZERO (n : Fin 4) : Nat := 0x307008 + 0x40000 * n.val
abbrev GFL_ZETA (n : Fin 4) : Nat := 0x307009 + 0x40000 * n.val
abbrev GFL_F_RES (n : Fin 4) : Nat := 0x30700A + 0x40000 * n.val
abbrev GFL_EFF_RV (n : Fin 4) : Nat := 0x30700B + 0x40000 * n.val
abbrev GFL_EFF_XV (n : Fin 4) : Nat := 0x30700C + 0x40000 * n.val
abbrev GFL_EFF_KC (n : Fin 4) : Nat := 0x30700D + 0x40000 * n.val
abbrev GFL_EFF_NOTCH_F (n : Fin 4) : Nat := 0x30700E + 0x40000 * n.val
abbrev SHR_CONFIG (n : Fin 4) : Nat := 0x310000 + 0x40000 * n.val
abbrev SHR_STATUS (n : Fin 4) : Nat := 0x310100 + 0x40000 * n.val
abbrev SHR_ANCHOR_PERIOD (n : Fin 4) : Nat := 0x311001 + 0x40000 * n.val
abbrev SHR_REST_KF (n : Fin 4) : Nat := 0x311002 + 0x40000 * n.val
abbrev SHR_REST_LF (n : Fin 4) : Nat := 0x311003 + 0x40000 * n.val
abbrev SHR_REST_F_STEP (n : Fin 4) : Nat := 0x311004 + 0x40000 * n.val
abbrev SHR_REST_F_MAX (n : Fin 4) : Nat := 0x311005 + 0x40000 * n.val
abbrev SHR_REST_KV (n : Fin 4) : Nat := 0x311006 + 0x40000 * n.val
abbrev SHR_REST_LV (n : Fin 4) : Nat := 0x311007 + 0x40000 * n.val
abbrev SHR_REST_V_STEP (n : Fin 4) : Nat := 0x311008 + 0x40000 * n.val
abbrev SHR_REST_V_MAX (n : Fin 4) : Nat := 0x311009 + 0x40000 * n.val
abbrev SHR_DELTA_F_REST (n : Fin 4) : Nat := 0x311101 + 0x40000 * n.val
abbrev SHR_DELTA_V_REST (n : Fin 4) : Nat := 0x311102 + 0x40000 * n.val
abbrev SHR_F_MEAN (n : Fin 4) : Nat := 0x311103 + 0x40000 * n.val
abbrev SHR_V_MEAN (n : Fin 4) : Nat := 0x311104 + 0x40000 * n.val
abbrev SHR_ANCHOR_COUNT (n : Fin 4) : Nat := 0x311105 + 0x40000 * n.val
abbrev SHR_ANCHOR_LATE (n : Fin 4) : Nat := 0x311106 + 0x40000 * n.val
abbrev SHR_BS_RAMP (n : Fin 4) : Nat := 0x312001 + 0x40000 * n.val
abbrev SHR_CLOSE_TIMEOUT (n : Fin 4) : Nat := 0x312002 + 0x40000 * n.val
abbrev SHR_SYNC_GAIN (n : Fin 4) : Nat := 0x313001 + 0x40000 * n.val
abbrev SHR_SYNC_DWELL (n : Fin 4) : Nat := 0x313002 + 0x40000 * n.val
abbrev SHR_SYNC_TIMEOUT (n : Fin 4) : Nat := 0x313003 + 0x40000 * n.val
abbrev SHR_JOIN_RAMP (n : Fin 4) : Nat := 0x313004 + 0x40000 * n.val
abbrev SHR_LINE_CH (n : Fin 4) (j : Nat) : Nat := 0x314001 + 0x40000 * n.val + j
abbrev SHR_TIE_DRIVER (n : Fin 4) : Nat := 0x315001 + 0x40000 * n.val
abbrev SHR_TIE_FAR_CH (n : Fin 4) (j : Nat) : Nat := 0x315002 + 0x40000 * n.val + j
abbrev SHR_DELTA_THETA (n : Fin 4) : Nat := 0x316001 + 0x40000 * n.val
abbrev SHR_DELTA_V (n : Fin 4) : Nat := 0x316002 + 0x40000 * n.val
abbrev SHR_DELTA_F (n : Fin 4) : Nat := 0x316003 + 0x40000 * n.val
abbrev SHR_LINE_V (n : Fin 4) : Nat := 0x316004 + 0x40000 * n.val
abbrev SHR_LINE_F (n : Fin 4) : Nat := 0x316005 + 0x40000 * n.val
abbrev SHR_CMD (n : Fin 4) : Nat := 0x317000 + 0x40000 * n.val
abbrev FRT_CONFIG (n : Fin 4) : Nat := 0x320000 + 0x40000 * n.val
abbrev FRT_STATUS (n : Fin 4) : Nat := 0x320100 + 0x40000 * n.val
abbrev FRT_VI_START (n : Fin 4) : Nat := 0x321001 + 0x40000 * n.val
abbrev FRT_VI_GAIN (n : Fin 4) : Nat := 0x321002 + 0x40000 * n.val
abbrev FRT_VI_XR (n : Fin 4) : Nat := 0x321003 + 0x40000 * n.val
abbrev FRT_I_LIMIT (n : Fin 4) : Nat := 0x321004 + 0x40000 * n.val
abbrev FRT_PULSE_LIMIT (n : Fin 4) : Nat := 0x321005 + 0x40000 * n.val
abbrev FRT_V_ENTRY (n : Fin 4) : Nat := 0x321006 + 0x40000 * n.val
abbrev FRT_NEG_ENTRY (n : Fin 4) : Nat := 0x321007 + 0x40000 * n.val
abbrev FRT_V_EXIT (n : Fin 4) : Nat := 0x321008 + 0x40000 * n.val
abbrev FRT_FAULT_TIME (n : Fin 4) : Nat := 0x321009 + 0x40000 * n.val
abbrev FRT_BUDGET_RECOVER (n : Fin 4) : Nat := 0x32100A + 0x40000 * n.val
abbrev FRT_RECOVERY_TIME (n : Fin 4) : Nat := 0x32100B + 0x40000 * n.val
abbrev FRT_PULSE_GROUP (n : Fin 4) : Nat := 0x32100C + 0x40000 * n.val
abbrev FRT_I_CH (n : Fin 4) (j : Nat) : Nat := 0x32100D + 0x40000 * n.val + j
abbrev FRT_IN_CH (n : Fin 4) : Nat := 0x322001 + 0x40000 * n.val
abbrev FRT_IN_RATED (n : Fin 4) : Nat := 0x322002 + 0x40000 * n.val
abbrev FRT_IN_LOSS_LEVEL (n : Fin 4) : Nat := 0x322003 + 0x40000 * n.val
abbrev FRT_IN_LOSS_TIME (n : Fin 4) : Nat := 0x322004 + 0x40000 * n.val
abbrev FRT_AC_LOSS_DEV (n : Fin 4) : Nat := 0x322005 + 0x40000 * n.val
abbrev FRT_IN_RETURN_LEVEL (n : Fin 4) : Nat := 0x322006 + 0x40000 * n.val
abbrev FRT_IN_RETURN_TIME (n : Fin 4) : Nat := 0x322007 + 0x40000 * n.val
abbrev FRT_IN_RAMP (n : Fin 4) : Nat := 0x322008 + 0x40000 * n.val
abbrev FRT_PLL_HOLD (n : Fin 4) : Nat := 0x322009 + 0x40000 * n.val
abbrev FRT_PLL_JUMP (n : Fin 4) : Nat := 0x32200A + 0x40000 * n.val
abbrev FRT_ZC_HYST (n : Fin 4) : Nat := 0x32200B + 0x40000 * n.val
abbrev FRT_LINK_RATED (n : Fin 4) : Nat := 0x323001 + 0x40000 * n.val
abbrev FRT_LINK_C (n : Fin 4) : Nat := 0x323002 + 0x40000 * n.val
abbrev FRT_LINK_REF (n : Fin 4) : Nat := 0x323003 + 0x40000 * n.val
abbrev FRT_LINK_MIN (n : Fin 4) : Nat := 0x323004 + 0x40000 * n.val
abbrev FRT_LINK_MAX (n : Fin 4) : Nat := 0x323005 + 0x40000 * n.val
abbrev FRT_LINK_MIN_TIME (n : Fin 4) : Nat := 0x323006 + 0x40000 * n.val
abbrev FRT_DC_GAIN (n : Fin 4) : Nat := 0x323007 + 0x40000 * n.val
abbrev FRT_COAST_SHIFT (n : Fin 4) : Nat := 0x323008 + 0x40000 * n.val
abbrev FRT_COAST_RELEASE (n : Fin 4) : Nat := 0x323009 + 0x40000 * n.val
abbrev FRT_COAST_MAX (n : Fin 4) : Nat := 0x32300A + 0x40000 * n.val
abbrev FRT_SHED_V (n : Fin 4) (j : Nat) : Nat := 0x32300B + 0x40000 * n.val + j
abbrev FRT_BUDGET (n : Fin 4) : Nat := 0x324001 + 0x40000 * n.val
abbrev FRT_DELTA_P_COAST (n : Fin 4) : Nat := 0x324002 + 0x40000 * n.val
abbrev FRT_LINK_ENERGY (n : Fin 4) : Nat := 0x324003 + 0x40000 * n.val
abbrev FRT_LAST_RIDE (n : Fin 4) : Nat := 0x324004 + 0x40000 * n.val
abbrev FRT_LAST_PEAK (n : Fin 4) : Nat := 0x324005 + 0x40000 * n.val
abbrev FRT_RIDE_COUNT (n : Fin 4) : Nat := 0x324006 + 0x40000 * n.val
abbrev FRT_COAST_COUNT (n : Fin 4) : Nat := 0x324007 + 0x40000 * n.val
abbrev FRT_LAST_GAP (n : Fin 4) : Nat := 0x324008 + 0x40000 * n.val
abbrev FRT_IN_PLL_F (n : Fin 4) : Nat := 0x324009 + 0x40000 * n.val
abbrev FRT_LAST_JUMP (n : Fin 4) : Nat := 0x32400A + 0x40000 * n.val
abbrev SRV_CONFIG (n : Fin 4) : Nat := 0x330000 + 0x40000 * n.val
abbrev SRV_STATUS (n : Fin 4) : Nat := 0x330100 + 0x40000 * n.val
abbrev SRV_PERIOD (n : Fin 4) : Nat := 0x331001 + 0x40000 * n.val
abbrev SRV_AMPLITUDE (n : Fin 4) : Nat := 0x331002 + 0x40000 * n.val
abbrev SRV_AVERAGES (n : Fin 4) : Nat := 0x331003 + 0x40000 * n.val
abbrev SRV_COH_MIN (n : Fin 4) : Nat := 0x331004 + 0x40000 * n.val
abbrev SRV_PEER_X (n : Fin 4) : Nat := 0x331005 + 0x40000 * n.val
abbrev SRV_Z1_R (n : Fin 4) : Nat := 0x332001 + 0x40000 * n.val
abbrev SRV_Z1_X (n : Fin 4) : Nat := 0x332002 + 0x40000 * n.val
abbrev SRV_N_EST (n : Fin 4) : Nat := 0x332003 + 0x40000 * n.val
abbrev SRV_N_PARALLEL (n : Fin 4) : Nat := 0x332004 + 0x40000 * n.val
abbrev SRV_F_PEAK (n : Fin 4) : Nat := 0x332005 + 0x40000 * n.val
abbrev SRV_ZETA_PEAK (n : Fin 4) : Nat := 0x332006 + 0x40000 * n.val
abbrev SRV_ZETA_SWING (n : Fin 4) : Nat := 0x332007 + 0x40000 * n.val
abbrev SRV_F_UPPER (n : Fin 4) : Nat := 0x332008 + 0x40000 * n.val
abbrev SRV_ROUND_COUNT (n : Fin 4) : Nat := 0x332009 + 0x40000 * n.val
abbrev SRV_Z_MAG (n : Fin 4) (j : Nat) : Nat := 0x332101 + 0x40000 * n.val + j
abbrev SRV_Z_ANGLE (n : Fin 4) (j : Nat) : Nat := 0x332201 + 0x40000 * n.val + j
abbrev SRV_COHERENCE (n : Fin 4) (j : Nat) : Nat := 0x332301 + 0x40000 * n.val + j
abbrev SRV_ZETA_TARGET (n : Fin 4) : Nat := 0x333001 + 0x40000 * n.val
abbrev SRV_RES_ZETA_MIN (n : Fin 4) : Nat := 0x333002 + 0x40000 * n.val
abbrev SRV_XV_RANGE (n : Fin 4) : Nat := 0x333003 + 0x40000 * n.val
abbrev SRV_XV_STEP (n : Fin 4) : Nat := 0x333004 + 0x40000 * n.val
abbrev SRV_KC_RANGE (n : Fin 4) : Nat := 0x333005 + 0x40000 * n.val
abbrev SRV_KC_STEP (n : Fin 4) : Nat := 0x333006 + 0x40000 * n.val
abbrev SRV_NOTCH_RANGE (n : Fin 4) : Nat := 0x333007 + 0x40000 * n.val
abbrev SRV_DR_AD (n : Fin 4) : Nat := 0x334001 + 0x40000 * n.val
abbrev SRV_DX_AD (n : Fin 4) : Nat := 0x334002 + 0x40000 * n.val
abbrev SRV_DKC_AD (n : Fin 4) : Nat := 0x334003 + 0x40000 * n.val
abbrev SRV_DFN_AD (n : Fin 4) : Nat := 0x334004 + 0x40000 * n.val
abbrev SRV_CAN_TC (n : Fin 4) : Nat := 0x335001 + 0x40000 * n.val
abbrev SRV_CAN_PERSIST (n : Fin 4) : Nat := 0x335002 + 0x40000 * n.val
abbrev SRV_ARB_WINDOW (n : Fin 4) : Nat := 0x335003 + 0x40000 * n.val
abbrev SRV_CAN_WARN (n : Fin 4) (j : Nat) : Nat := 0x335101 + 0x40000 * n.val + j
abbrev SRV_CAN_ACT (n : Fin 4) (j : Nat) : Nat := 0x335201 + 0x40000 * n.val + j
abbrev SRV_CAN_REACT (n : Fin 4) (j : Nat) : Nat := 0x335301 + 0x40000 * n.val + j
abbrev SRV_CAN_RES (n : Fin 4) (j : Nat) : Nat := 0x335401 + 0x40000 * n.val + j
abbrev SRV_CAN_SCORE (n : Fin 4) : Nat := 0x335500 + 0x40000 * n.val
abbrev PIE_CONFIG (n : Fin 4) : Nat := 0x400000 + 0x10000 * n.val
abbrev PIE_STATUS (n : Fin 4) : Nat := 0x400100 + 0x10000 * n.val
abbrev PIE_UPDATE_PERIOD (n : Fin 4) : Nat := 0x401001 + 0x10000 * n.val
abbrev PIE_TIMEBASE (n : Fin 4) : Nat := 0x401002 + 0x10000 * n.val
abbrev PIE_DEADLINE (n : Fin 4) : Nat := 0x401003 + 0x10000 * n.val
abbrev PIE_OVERRUN_LIMIT (n : Fin 4) : Nat := 0x401004 + 0x10000 * n.val
abbrev PIE_OFFPLAN_TOL (n : Fin 4) : Nat := 0x401005 + 0x10000 * n.val
abbrev PIE_BIST_PERIOD (n : Fin 4) : Nat := 0x401006 + 0x10000 * n.val
abbrev PIE_GRAPH_ID (n : Fin 4) : Nat := 0x402001 + 0x10000 * n.val
abbrev PIE_GRAPH_CHECK (n : Fin 4) : Nat := 0x402002 + 0x10000 * n.val
abbrev PIE_INSTANCE_COUNT (n : Fin 4) : Nat := 0x402003 + 0x10000 * n.val
abbrev PIE_WCET_CRIT (n : Fin 4) : Nat := 0x402004 + 0x10000 * n.val
abbrev PIE_WCET_TOTAL (n : Fin 4) : Nat := 0x402005 + 0x10000 * n.val
abbrev PIE_SAMPLE_COUNT (n : Fin 4) : Nat := 0x403001 + 0x10000 * n.val
abbrev PIE_OVERRUN_COUNT (n : Fin 4) : Nat := 0x403002 + 0x10000 * n.val
abbrev PIE_OVERRUN_RUN (n : Fin 4) : Nat := 0x403003 + 0x10000 * n.val
abbrev PIE_POST_OVERRUN_COUNT (n : Fin 4) : Nat := 0x403004 + 0x10000 * n.val
abbrev PIE_MAX_CRIT (n : Fin 4) : Nat := 0x403005 + 0x10000 * n.val
abbrev PIE_MAX_TOTAL (n : Fin 4) : Nat := 0x403006 + 0x10000 * n.val
abbrev PIE_LOAD (n : Fin 4) : Nat := 0x403007 + 0x10000 * n.val
abbrev PIE_OFFPLAN_COUNT (n : Fin 4) : Nat := 0x403008 + 0x10000 * n.val
abbrev PIE_ECC_CORRECTED (n : Fin 4) : Nat := 0x403009 + 0x10000 * n.val
abbrev PIE_LAST_COMMIT (n : Fin 4) : Nat := 0x40300A + 0x10000 * n.val
abbrev PIE_SELFTEST (n : Fin 4) : Nat := 0x404000 + 0x10000 * n.val
abbrev EDG_STATUS : Nat := 0x440000
abbrev EDG_RAW_ENABLE : Nat := 0x440101
abbrev EDG_RAW_HIGH : Nat := 0x440102
abbrev EDG_RAW_LOW : Nat := 0x440103
abbrev EDG_TB_PERIOD (n : Fin 8) : Nat := 0x441001 + 0x100 * n.val
abbrev EDG_TB_MODE (n : Fin 8) : Nat := 0x441002 + 0x100 * n.val
abbrev EDG_TB_SAMPLE (n : Fin 8) : Nat := 0x441003 + 0x100 * n.val
abbrev EDG_TB_OFFSET (n : Fin 8) : Nat := 0x441004 + 0x100 * n.val
abbrev EDG_TB_LATE (n : Fin 8) : Nat := 0x441005 + 0x100 * n.val
abbrev EDG_TB_NEXT_ZERO (n : Fin 8) : Nat := 0x441006 + 0x100 * n.val
abbrev EDG_TB_CMD_CODE : Nat := 0x441801
abbrev EDG_TB_CMD_VALUE : Nat := 0x441802
abbrev EDG_TB_CMD_INSTANT : Nat := 0x441803
abbrev EDG_CH_CFG (n : Fin 24) : Nat := 0x442001 + 0x100 * n.val
abbrev EDG_CH_DEADTIME (n : Fin 24) : Nat := 0x442002 + 0x100 * n.val
abbrev EDG_CH_MIN_PULSE (n : Fin 24) : Nat := 0x442003 + 0x100 * n.val
abbrev EDG_CH_TRIG_DELAY (n : Fin 24) (j : Nat) : Nat := 0x442004 + 0x100 * n.val + j
abbrev EDG_CH_STATIC (n : Fin 24) (j : Nat) : Nat := 0x442008 + 0x100 * n.val + j
abbrev EDG_CH_STATIC_CTRL (n : Fin 24) : Nat := 0x44200C + 0x100 * n.val
abbrev EDG_CH_LATE (n : Fin 24) : Nat := 0x44200D + 0x100 * n.val
abbrev EDG_CH_GUARD_COUNT (n : Fin 24) : Nat := 0x44200E + 0x100 * n.val
abbrev EDG_CH_REMOVED (n : Fin 24) : Nat := 0x44200F + 0x100 * n.val
abbrev EDG_CH_CLIPPED (n : Fin 24) : Nat := 0x442010 + 0x100 * n.val
abbrev EDG_CH_STATUS (n : Fin 24) : Nat := 0x442011 + 0x100 * n.val
abbrev EDG_ROUTE (j : Nat) : Nat := 0x444001 + j
abbrev EDG_EXT_TRIP_CFG (j : Nat) : Nat := 0x445001 + j
abbrev EDG_SRC_ACTIVE (j : Nat) : Nat := 0x445101 + j
abbrev EDG_SRC_HOME (j : Nat) : Nat := 0x445201 + j
abbrev EDG_TRG_CFG (n : Fin 8) : Nat := 0x446001 + 0x100 * n.val
abbrev EDG_TRG_SRC (n : Fin 8) (j : Nat) : Nat := 0x446002 + 0x100 * n.val + j
abbrev EDG_TRG_CHANNELS (n : Fin 8) : Nat := 0x446005 + 0x100 * n.val
abbrev EDG_TRG_BLANK (n : Fin 8) (j : Nat) : Nat := 0x446006 + 0x100 * n.val + j
abbrev EDG_TRG_STATUS (n : Fin 8) : Nat := 0x446009 + 0x100 * n.val
abbrev EDG_TRG_PERIODS (n : Fin 8) : Nat := 0x44600A + 0x100 * n.val
abbrev EDG_TRG_LATCH_TIME (n : Fin 8) : Nat := 0x44600B + 0x100 * n.val
abbrev EDG_TRG_LATCH_SRC (n : Fin 8) : Nat := 0x44600C + 0x100 * n.val
abbrev EDG_TRG_CMD (n : Fin 8) : Nat := 0x44600D + 0x100 * n.val
abbrev GDV_STATUS : Nat := 0x480000
abbrev GDV_RAIL_V : Nat := 0x480100
abbrev GDV_DIE_GUARD (j : Nat) : Nat := 0x480201 + j
abbrev GDV_SAFE_PATTERN : Nat := 0x480300
abbrev GDV_CH_CFG (n : Fin 12) : Nat := 0x481001 + 0x100 * n.val
abbrev GDV_CH_VON (n : Fin 12) : Nat := 0x481002 + 0x100 * n.val
abbrev GDV_CH_VOFF (n : Fin 12) : Nat := 0x481003 + 0x100 * n.val
abbrev GDV_DESAT_V (n : Fin 12) : Nat := 0x481004 + 0x100 * n.val
abbrev GDV_DESAT_BLANK (n : Fin 12) : Nat := 0x481005 + 0x100 * n.val
abbrev GDV_STO_LEVEL (n : Fin 12) : Nat := 0x481006 + 0x100 * n.val
abbrev GDV_STO_TIME (n : Fin 12) : Nat := 0x481007 + 0x100 * n.val
abbrev GDV_CH_QG (n : Fin 12) : Nat := 0x481008 + 0x100 * n.val
abbrev GDV_CH_STATUS (n : Fin 12) : Nat := 0x481009 + 0x100 * n.val
abbrev GDV_DESAT_COUNT (n : Fin 12) : Nat := 0x48100A + 0x100 * n.val
abbrev GDV_CH_CMD (n : Fin 12) : Nat := 0x48100B + 0x100 * n.val
abbrev GDV_BS_C (n : Fin 4) : Nat := 0x483001 + 0x100 * n.val
abbrev GDV_BS_I_HS (n : Fin 4) : Nat := 0x483002 + 0x100 * n.val
abbrev GDV_BS_I_LK (n : Fin 4) : Nat := 0x483003 + 0x100 * n.val
abbrev GDV_BS_I_CH (n : Fin 4) : Nat := 0x483004 + 0x100 * n.val
abbrev GDV_BS_V_FULL (n : Fin 4) : Nat := 0x483005 + 0x100 * n.val
abbrev GDV_BS_V_MIN (n : Fin 4) : Nat := 0x483006 + 0x100 * n.val
abbrev GDV_BS_REFRESH (n : Fin 4) : Nat := 0x483007 + 0x100 * n.val
abbrev GDV_BS_FORECAST (n : Fin 4) : Nat := 0x483008 + 0x100 * n.val
abbrev GDV_BS_REFRESHES (n : Fin 4) : Nat := 0x483009 + 0x100 * n.val
abbrev GDV_DIAG_SENSE (n : Fin 4) (j : Nat) : Nat := 0x484001 + 0x100 * n.val + j
abbrev GDV_DIAG_RESULT (n : Fin 4) : Nat := 0x484005 + 0x100 * n.val
abbrev GDV_DIAG_SWING (n : Fin 4) : Nat := 0x484006 + 0x100 * n.val
abbrev GDV_DIAG_FOLLOW (n : Fin 4) : Nat := 0x484007 + 0x100 * n.val
abbrev GDV_DIAG_GAIN (n : Fin 4) : Nat := 0x484008 + 0x100 * n.val
abbrev GDV_DIAG_CMD (n : Fin 4) : Nat := 0x484009 + 0x100 * n.val
abbrev GDV_PORT_CFG (n : Fin 8) : Nat := 0x485001 + 0x100 * n.val
abbrev GDV_PORT_STATUS (n : Fin 8) : Nat := 0x485002 + 0x100 * n.val
abbrev GDV_PORT_LAST_CODE (n : Fin 8) : Nat := 0x485003 + 0x100 * n.val
abbrev GDV_PORT_FAULTS (n : Fin 8) : Nat := 0x485004 + 0x100 * n.val
abbrev GDV_PORT_ACK_MISSING (n : Fin 8) : Nat := 0x485005 + 0x100 * n.val
abbrev GDV_PORT_CMD (n : Fin 8) : Nat := 0x485006 + 0x100 * n.val
abbrev ACQ_STATUS : Nat := 0x4C0000
abbrev ACQ_CMD : Nat := 0x4C0100
abbrev ACQ_TRACK_LIMIT : Nat := 0x4C0200
abbrev ACQ_TMR_PERIOD (j : Nat) : Nat := 0x4C0301 + j
abbrev ACQ_TMR_OFFSET (j : Nat) : Nat := 0x4C0401 + j
abbrev ACQ_BURDEN_R (j : Nat) : Nat := 0x4C0501 + j
abbrev ACQ_CH_CFG (n : Fin 24) : Nat := 0x4C1001 + 0x100 * n.val
abbrev ACQ_CH_START (n : Fin 24) : Nat := 0x4C1002 + 0x100 * n.val
abbrev ACQ_CH_DELAY (n : Fin 24) : Nat := 0x4C1003 + 0x100 * n.val
abbrev ACQ_CAL_OFFSET (n : Fin 24) : Nat := 0x4C1004 + 0x100 * n.val
abbrev ACQ_CAL_GAIN (n : Fin 24) : Nat := 0x4C1005 + 0x100 * n.val
abbrev ACQ_CH_SUBST (n : Fin 24) : Nat := 0x4C1006 + 0x100 * n.val
abbrev ACQ_SUBST_GAIN (n : Fin 24) : Nat := 0x4C1007 + 0x100 * n.val
abbrev ACQ_CMP_HI (n : Fin 24) : Nat := 0x4C1008 + 0x100 * n.val
abbrev ACQ_CMP_LO (n : Fin 24) : Nat := 0x4C1009 + 0x100 * n.val
abbrev ACQ_CMP_HYST (n : Fin 24) : Nat := 0x4C100A + 0x100 * n.val
abbrev ACQ_CMP_FILTER (n : Fin 24) : Nat := 0x4C100B + 0x100 * n.val
abbrev ACQ_CH_VALUE (n : Fin 24) : Nat := 0x4C100C + 0x100 * n.val
abbrev ACQ_CH_STATUS (n : Fin 24) : Nat := 0x4C100D + 0x100 * n.val
abbrev ACQ_TRACK_DRIFT (n : Fin 24) : Nat := 0x4C100E + 0x100 * n.val
abbrev ACQ_DIAG_ERROR (n : Fin 24) : Nat := 0x4C100F + 0x100 * n.val
abbrev ACQ_OVERRANGE_COUNT (n : Fin 24) : Nat := 0x4C1010 + 0x100 * n.val
abbrev ACQ_START_OVERLAP (n : Fin 24) : Nat := 0x4C1011 + 0x100 * n.val
abbrev ACQ_SD_CFG (n : Fin 8) : Nat := 0x4C4001 + 0x100 * n.val
abbrev ACQ_SD_CLK_DIV (n : Fin 8) : Nat := 0x4C4002 + 0x100 * n.val
abbrev ACQ_SD_STATUS (n : Fin 8) : Nat := 0x4C4003 + 0x100 * n.val
abbrev ACQ_FC_CFG (n : Fin 16) : Nat := 0x4C6001 + 0x100 * n.val
abbrev ACQ_FC_SHIFT (n : Fin 16) : Nat := 0x4C6002 + 0x100 * n.val
abbrev ACQ_FC_FADE (n : Fin 16) : Nat := 0x4C6003 + 0x100 * n.val
abbrev ACQ_FC_SWITCH (n : Fin 16) : Nat := 0x4C6004 + 0x100 * n.val
abbrev ACQ_FC_DELAY (n : Fin 16) : Nat := 0x4C6005 + 0x100 * n.val
abbrev ACQ_FC_LATENCY (n : Fin 16) : Nat := 0x4C6006 + 0x100 * n.val
abbrev ACQ_FC_UNSETTLED (n : Fin 16) : Nat := 0x4C6007 + 0x100 * n.val
abbrev ACQ_FC_VALUE (n : Fin 16) : Nat := 0x4C6008 + 0x100 * n.val
abbrev ACQ_FC_STATUS (n : Fin 16) : Nat := 0x4C6009 + 0x100 * n.val
abbrev ACQ_FC_RATE (n : Fin 16) : Nat := 0x4C600A + 0x100 * n.val
abbrev ACQ_FC_COEF (n : Fin 32) (j : Nat) : Nat := 0x4D0001 + 0x100 * n.val + j
abbrev GAL_CONFIG (n : Fin 4) : Nat := 0x500000 + 0x4000 * n.val
abbrev GAL_STATUS (n : Fin 4) : Nat := 0x500100 + 0x4000 * n.val
abbrev GAL_NODE (n : Fin 4) (j : Nat) : Nat := 0x500201 + 0x4000 * n.val + j
abbrev GAL_COND (n : Fin 4) (j : Nat) : Nat := 0x500301 + 0x4000 * n.val + j
abbrev GAL_COND_LEVEL (n : Fin 4) (j : Nat) : Nat := 0x500401 + 0x4000 * n.val + j
abbrev GAL_COND_HYST (n : Fin 4) (j : Nat) : Nat := 0x500501 + 0x4000 * n.val + j
abbrev GAL_TRG_MASK (n : Fin 4) : Nat := 0x500600 + 0x4000 * n.val
abbrev GAL_TRG_PATTERN (n : Fin 4) : Nat := 0x500700 + 0x4000 * n.val
abbrev GAL_TRG_HOLDOFF (n : Fin 4) : Nat := 0x500800 + 0x4000 * n.val
abbrev GAL_MARK_K (n : Fin 4) : Nat := 0x500901 + 0x4000 * n.val
abbrev GAL_MARK_FRAC (n : Fin 4) : Nat := 0x500902 + 0x4000 * n.val
abbrev GAL_MARK_TIME (n : Fin 4) : Nat := 0x500903 + 0x4000 * n.val
abbrev GAL_MARK_COUNT (n : Fin 4) : Nat := 0x500904 + 0x4000 * n.val
abbrev GAL_DEST_IP (n : Fin 4) : Nat := 0x500A01 + 0x4000 * n.val
abbrev GAL_DEST_UDP (n : Fin 4) : Nat := 0x500A02 + 0x4000 * n.val
abbrev GAL_DEST_PORT (n : Fin 4) : Nat := 0x500A03 + 0x4000 * n.val
abbrev GAL_READ_K (n : Fin 4) : Nat := 0x500B01 + 0x4000 * n.val
abbrev GAL_READ_DATA (n : Fin 4) : Nat := 0x500B02 + 0x4000 * n.val
abbrev GAL_DEPTH (n : Fin 4) : Nat := 0x500C01 + 0x4000 * n.val
abbrev GAL_RECORDS (n : Fin 4) : Nat := 0x500C02 + 0x4000 * n.val
abbrev GAL_DATAGRAMS (n : Fin 4) : Nat := 0x500C03 + 0x4000 * n.val
abbrev GAL_DROPPED (n : Fin 4) : Nat := 0x500C04 + 0x4000 * n.val
abbrev GAL_WIRE_RATE (n : Fin 4) : Nat := 0x500C05 + 0x4000 * n.val
abbrev TIM_STATUS : Nat := 0x230000
abbrev TIM_REF_CFG : Nat := 0x230100
abbrev TIM_MT : Nat := 0x230200
abbrev TIM_BOOT_COUNT : Nat := 0x230300
abbrev TIM_REF_TOL : Nat := 0x230400
abbrev TIM_REF_DEV (j : Nat) : Nat := 0x230501 + j
abbrev TIM_PLL_LOSSES (j : Nat) : Nat := 0x230601 + j
abbrev TIM_NTA_CFG (n : Fin 2) : Nat := 0x231000 + 0x1000 * n.val
abbrev TIM_NTA_STATUS (n : Fin 2) : Nat := 0x231100 + 0x1000 * n.val
abbrev TIM_NTA_SLEW (n : Fin 2) : Nat := 0x231201 + 0x1000 * n.val
abbrev TIM_NTA_SERVO_TC (n : Fin 2) : Nat := 0x231202 + 0x1000 * n.val
abbrev TIM_NTA_LOSS_COUNT (n : Fin 2) : Nat := 0x231203 + 0x1000 * n.val
abbrev TIM_NTA_LOG_SYNC (n : Fin 2) : Nat := 0x231204 + 0x1000 * n.val
abbrev TIM_NTA_LOG_ANNOUNCE (n : Fin 2) : Nat := 0x231205 + 0x1000 * n.val
abbrev TIM_NTA_ANNOUNCE_TO (n : Fin 2) : Nat := 0x231206 + 0x1000 * n.val
abbrev TIM_NTA_LOG_DELAY (n : Fin 2) : Nat := 0x231207 + 0x1000 * n.val
abbrev TIM_NTA_PRIORITY (n : Fin 2) (j : Nat) : Nat := 0x231208 + 0x1000 * n.val + j
abbrev TIM_NTA_NOW (n : Fin 2) : Nat := 0x231301 + 0x1000 * n.val
abbrev TIM_NTA_OFFSET (n : Fin 2) : Nat := 0x231302 + 0x1000 * n.val
abbrev TIM_NTA_RATE (n : Fin 2) : Nat := 0x231303 + 0x1000 * n.val
abbrev TIM_NTA_PATH_DELAY (n : Fin 2) : Nat := 0x231304 + 0x1000 * n.val
abbrev TIM_NTA_GM_ID (n : Fin 2) : Nat := 0x231305 + 0x1000 * n.val
abbrev TIM_NTA_STEPS_REMOVED (n : Fin 2) : Nat := 0x231306 + 0x1000 * n.val
abbrev TIM_NTA_HOLDOVER_TIME (n : Fin 2) : Nat := 0x231307 + 0x1000 * n.val
abbrev TIM_NTA_DISCARDED (n : Fin 2) : Nat := 0x231308 + 0x1000 * n.val
abbrev TIM_TT_SLEW : Nat := 0x233000
abbrev TIM_CMD : Nat := 0x234000
abbrev TIM_TC_CFG : Nat := 0x235000
abbrev TIM_TC_CORRECTED : Nat := 0x235100
abbrev LGC_STATUS : Nat := 0x510000
abbrev LGC_CMD : Nat := 0x510100
abbrev LGC_CMD_INSTANT : Nat := 0x510200
abbrev LGC_CYCLE_PERIOD : Nat := 0x511001
abbrev LGC_IDLE_MIN : Nat := 0x511002
abbrev LGC_OVERRUN_LIMIT : Nat := 0x511003
abbrev LGC_PROG_ID : Nat := 0x512001
abbrev LGC_PROG_CHECK : Nat := 0x512002
abbrev LGC_WCET_BUSY : Nat := 0x512003
abbrev LGC_STAGED_ID : Nat := 0x512004
abbrev LGC_STAGE_DATA : Nat := 0x512005
abbrev LGC_CYCLE_COUNT : Nat := 0x513001
abbrev LGC_LT : Nat := 0x513002
abbrev LGC_PERIOD_IN_FORCE : Nat := 0x513003
abbrev LGC_MAX_BUSY : Nat := 0x513004
abbrev LGC_OVERRUN_COUNT : Nat := 0x513005
abbrev LGC_OVERRUN_RUN : Nat := 0x513006
abbrev LGC_LOAD : Nat := 0x513007
abbrev LGC_RETAIN_LAG : Nat := 0x513008
abbrev LGC_PEEK_TAG : Nat := 0x514001
abbrev LGC_PEEK_VALUE : Nat := 0x514002
abbrev LGC_PEEK_TYPE : Nat := 0x514003
abbrev LGC_PEEK_QUALITY : Nat := 0x514004
abbrev LGC_PEEK_BINDING : Nat := 0x514005
abbrev LGC_STN_ID (n : Fin 64) : Nat := 0x520001 + 0x100 * n.val
abbrev LGC_STN_TIMEOUT (n : Fin 64) : Nat := 0x520002 + 0x100 * n.val
abbrev LGC_STN_STATE (n : Fin 64) : Nat := 0x520003 + 0x100 * n.val
abbrev LGC_STN_DROPS (n : Fin 64) : Nat := 0x520004 + 0x100 * n.val
abbrev LGC_STN_LAST_RX (n : Fin 64) : Nat := 0x520005 + 0x100 * n.val
abbrev NET_STATUS : Nat := 0x540000
abbrev NET_OWNER_CLAIM : Nat := 0x540101
abbrev NET_OWNER : Nat := 0x540102
abbrev NET_OWNER_TIMEOUT : Nat := 0x540103
abbrev NET_SVC_CHALLENGE : Nat := 0x540201
abbrev NET_SVC_RESPONSE : Nat := 0x540202
abbrev NET_SVC_TIMEOUT : Nat := 0x540203
abbrev NET_SVC_KEY_ID : Nat := 0x540204
abbrev NET_PDO_PORT (j : Nat) : Nat := 0x541001 + j
abbrev NET_CAN_CFG (j : Nat) : Nat := 0x542001 + j
abbrev NET_CAN_STATE (j : Nat) : Nat := 0x542101 + j
abbrev NET_IP_ADDR (j : Nat) : Nat := 0x543001 + j
abbrev NET_IP_MASK (j : Nat) : Nat := 0x543101 + j
abbrev NET_IP_GATEWAY (j : Nat) : Nat := 0x543201 + j
abbrev NET_PORT_CFG (j : Nat) : Nat := 0x543301 + j
abbrev NET_SVC_UDP : Nat := 0x544001
abbrev NET_SESSION_TIMEOUT : Nat := 0x544002
abbrev NET_SESSIONS : Nat := 0x544100
abbrev NET_WRITES_LOST : Nat := 0x546001
abbrev NET_ABORTS : Nat := 0x546002
abbrev NET_DUP_DISCARDED : Nat := 0x546003
abbrev NET_LATE_TX : Nat := 0x546004
abbrev NET_LAST_ABORT : Nat := 0x547000
abbrev SAF_STATUS : Nat := 0x580000
abbrev SAF_CMD : Nat := 0x580100
abbrev SAF_CONFIG_CRC : Nat := 0x580200
abbrev SAF_RUN_HOURS : Nat := 0x580300
abbrev SAF_COVER_INPUT : Nat := 0x581001
abbrev SAF_PROOF_WINDOW : Nat := 0x581002
abbrev SAF_ABSENCE : Nat := 0x581003
abbrev SAF_STOP_INPUT : Nat := 0x581004
abbrev SAF_UDP : Nat := 0x581005
abbrev SAF_UNKNOWN_ID : Nat := 0x581006
abbrev SAF_STAGE_CFG (n : Fin 4) : Nat := 0x582001 + 0x100 * n.val
abbrev SAF_SSD_RAMP (n : Fin 4) : Nat := 0x582002 + 0x100 * n.val
abbrev SAF_SSD_BAND (n : Fin 4) : Nat := 0x582003 + 0x100 * n.val
abbrev SAF_SSD_END (n : Fin 4) : Nat := 0x582004 + 0x100 * n.val
abbrev SAF_SSD_TAIL (n : Fin 4) : Nat := 0x582005 + 0x100 * n.val
abbrev SAF_SSD_CH (n : Fin 4) (j : Nat) : Nat := 0x582006 + 0x100 * n.val + j
abbrev SAF_SSD_BASE (n : Fin 4) : Nat := 0x582009 + 0x100 * n.val
abbrev SAF_SSD_LIMIT (n : Fin 4) : Nat := 0x58200A + 0x100 * n.val
abbrev SAF_SSD_VALUE (n : Fin 4) : Nat := 0x58200B + 0x100 * n.val
abbrev SAF_SSD_PIER_OUT (n : Fin 4) : Nat := 0x58200C + 0x100 * n.val
abbrev SAF_SOC_CFG (n : Fin 4) : Nat := 0x583001 + 0x100 * n.val
abbrev SAF_SOC_AUX (n : Fin 4) : Nat := 0x583002 + 0x100 * n.val
abbrev SAF_SOC_DISC (n : Fin 4) : Nat := 0x583003 + 0x100 * n.val
abbrev SAF_SOC_PULSE (n : Fin 4) : Nat := 0x583004 + 0x100 * n.val
abbrev SAF_SOC_TEST_PERIOD (n : Fin 4) : Nat := 0x583005 + 0x100 * n.val
abbrev SAF_SOC_PROOF (n : Fin 4) : Nat := 0x583006 + 0x100 * n.val
abbrev SAF_SOC_STATUS (n : Fin 4) : Nat := 0x583007 + 0x100 * n.val
abbrev SAF_SOC_SINCE_PROOF (n : Fin 4) : Nat := 0x583008 + 0x100 * n.val
abbrev SAF_SOC_OPERATIONS (n : Fin 4) : Nat := 0x583009 + 0x100 * n.val
abbrev SAF_CONN_CFG (n : Fin 16) : Nat := 0x584001 + 0x100 * n.val
abbrev SAF_CONN_ID (n : Fin 16) : Nat := 0x584002 + 0x100 * n.val
abbrev SAF_CONN_MAX_AGE (n : Fin 16) : Nat := 0x584003 + 0x100 * n.val
abbrev SAF_CONN_PERIOD (n : Fin 16) : Nat := 0x584004 + 0x100 * n.val
abbrev SAF_CONN_MAX_LOSS (n : Fin 16) : Nat := 0x584005 + 0x100 * n.val
abbrev SAF_CONN_DEST (n : Fin 16) : Nat := 0x584006 + 0x100 * n.val
abbrev SAF_CONN_COB (n : Fin 16) : Nat := 0x584007 + 0x100 * n.val
abbrev SAF_CONN_STATUS (n : Fin 16) : Nat := 0x584008 + 0x100 * n.val
abbrev SAF_CONN_REJECTED (n : Fin 16) : Nat := 0x584009 + 0x100 * n.val
abbrev SAF_CONN_LAST_AGE (n : Fin 16) : Nat := 0x58400A + 0x100 * n.val
abbrev NVS_STATUS : Nat := 0x220000
abbrev NVS_CMD : Nat := 0x220100
abbrev NVS_HOLD_C : Nat := 0x221001
abbrev NVS_HOLD_V : Nat := 0x221002
abbrev NVS_HOLD_MARGIN : Nat := 0x221003
abbrev NVS_DEFERRED : Nat := 0x221004
abbrev NVS_ECC_CORRECTED (j : Nat) : Nat := 0x222001 + j
abbrev NVS_LOG_READ_SEQ : Nat := 0x223001
abbrev NVS_LOG_READ_DATA : Nat := 0x223002
abbrev NVS_LOG_DROPPED : Nat := 0x223003
abbrev NVS_BOOT_PREF : Nat := 0x223801
abbrev NVS_IMAGE_STATE : Nat := 0x223802
abbrev NVS_IMAGE_DATA : Nat := 0x223803
abbrev CVU_CFG (n : Fin 8) : Nat := 0x224001 + 0x100 * n.val
abbrev CVU_POLY (n : Fin 8) : Nat := 0x224002 + 0x100 * n.val
abbrev CVU_INIT (n : Fin 8) : Nat := 0x224003 + 0x100 * n.val
abbrev CVU_EXPECT (n : Fin 8) : Nat := 0x224004 + 0x100 * n.val
abbrev CVU_DATA (n : Fin 8) : Nat := 0x224005 + 0x100 * n.val
abbrev CVU_CTRL (n : Fin 8) : Nat := 0x224006 + 0x100 * n.val
abbrev CVU_RESULT (n : Fin 8) : Nat := 0x224007 + 0x100 * n.val
abbrev CVU_STATUS (n : Fin 8) : Nat := 0x224008 + 0x100 * n.val
abbrev CVU_DROPPED (n : Fin 8) : Nat := 0x224009 + 0x100 * n.val
abbrev TWN_CONFIG : Nat := 0x280000
abbrev TWN_STATUS : Nat := 0x280100
abbrev TWN_CMD : Nat := 0x280200
abbrev TWN_RETURN_HOLDOFF : Nat := 0x281001
abbrev TWN_XCHECK_TOL : Nat := 0x281002
abbrev TWN_PAIR_IP : Nat := 0x281100
abbrev TWN_CFG_CHECK : Nat := 0x281200
abbrev TWN_CH_WIRING (j : Nat) : Nat := 0x282001 + j
abbrev TWN_PARTNER_SERIAL : Nat := 0x283001
abbrev TWN_PARTNER_FW : Nat := 0x283002
abbrev TWN_LINK_LATENCY : Nat := 0x283003
abbrev TWN_GRID_PHASE : Nat := 0x283004
abbrev TWN_MISMATCHES : Nat := 0x283005
abbrev TWN_TAKEOVERS : Nat := 0x283006
abbrev TWN_LAST_INTERRUPTION : Nat := 0x283007
abbrev TWN_LINK_ERRORS : Nat := 0x283008
abbrev TWN_WIN_TARGET : Nat := 0x284001
abbrev TWN_WIN_DATA : Nat := 0x284002
abbrev FIO_STATUS : Nat := 0x240000
abbrev FIO_FORCE : Nat := 0x240101
abbrev FIO_MAX_LATENESS : Nat := 0x240200
abbrev FIO_DI_CFG (n : Fin 16) : Nat := 0x241001 + 0x100 * n.val
abbrev FIO_DI_ON (n : Fin 16) : Nat := 0x241002 + 0x100 * n.val
abbrev FIO_DI_OFF (n : Fin 16) : Nat := 0x241003 + 0x100 * n.val
abbrev FIO_DI_FILTER (n : Fin 16) : Nat := 0x241004 + 0x100 * n.val
abbrev FIO_WB_OPEN (n : Fin 16) : Nat := 0x241005 + 0x100 * n.val
abbrev FIO_WB_MID (n : Fin 16) : Nat := 0x241006 + 0x100 * n.val
abbrev FIO_WB_SHORT (n : Fin 16) : Nat := 0x241007 + 0x100 * n.val
abbrev FIO_DI_STATUS (n : Fin 16) : Nat := 0x241008 + 0x100 * n.val
abbrev FIO_DI_CURRENT (n : Fin 16) : Nat := 0x241009 + 0x100 * n.val
abbrev FIO_DO_CFG (n : Fin 12) : Nat := 0x243001 + 0x100 * n.val
abbrev FIO_DO_STATUS (n : Fin 12) : Nat := 0x243002 + 0x100 * n.val
abbrev FIO_DO_CURRENT (n : Fin 12) : Nat := 0x243003 + 0x100 * n.val
abbrev FIO_CD_STATUS (n : Fin 4) : Nat := 0x245001 + 0x100 * n.val
abbrev FIO_CD_CURRENT (n : Fin 4) : Nat := 0x245002 + 0x100 * n.val
abbrev FIO_CD_IGNORED (n : Fin 4) : Nat := 0x245003 + 0x100 * n.val
abbrev FIO_CD_CMD (n : Fin 4) : Nat := 0x245004 + 0x100 * n.val
abbrev SUP_STATUS : Nat := 0x210000
abbrev SUP_BRIDGE : Nat := 0x210100
abbrev SUP_RAIL (j : Nat) : Nat := 0x210201 + j
abbrev SUP_INTERRUPTIONS : Nat := 0x210300
abbrev SUP_LAST_INTERRUPTION : Nat := 0x210400
abbrev SUP_SENSOR_EN : Nat := 0x210500
abbrev THM_STATUS : Nat := 0x211000
abbrev THM_TEMP (j : Nat) : Nat := 0x211101 + j
abbrev THM_STEP_TIME : Nat := 0x211200
abbrev THM_THROTTLE_STEP : Nat := 0x211300
abbrev THM_SHUTDOWN_SENSOR : Nat := 0x211400
abbrev THM_BROKEN : Nat := 0x211500
abbrev THM_PEAK (j : Nat) : Nat := 0x211601 + j
abbrev THM_EXT_CFG (j : Nat) : Nat := 0x211701 + j
abbrev THM_CLASS (n : Fin 8) (j : Nat) : Nat := 0x212001 + 0x100 * n.val + j
abbrev THM_CLASS_HYST (n : Fin 8) : Nat := 0x212006 + 0x100 * n.val
abbrev TIM_TT_STATUS : Nat := 0x233100
abbrev TIM_TT_NOW : Nat := 0x233301
abbrev TIM_TT_OFFSET : Nat := 0x233302
abbrev TIM_TT_RATE : Nat := 0x233303
abbrev TIM_TT_HOLDOVER_TIME : Nat := 0x233307
abbrev CIA_DEVICE_TYPE : Nat := 0x100000
abbrev CIA_ERROR_REGISTER : Nat := 0x100100
abbrev CIA_ERROR_COUNT : Nat := 0x100300
abbrev CIA_ERROR_FIELD (j : Nat) : Nat := 0x100301 + j
abbrev CIA_COB_SYNC : Nat := 0x100500
abbrev CIA_DEVICE_NAME : Nat := 0x100800
abbrev CIA_HW_VERSION : Nat := 0x100900
abbrev CIA_SW_VERSION : Nat := 0x100A00
abbrev CIA_STORE : Nat := 0x101001
abbrev CIA_RESTORE : Nat := 0x101101
abbrev CIA_COB_EMCY : Nat := 0x101400
abbrev CIA_EMCY_INHIBIT : Nat := 0x101500
abbrev CIA_HB_CONSUMER (j : Nat) : Nat := 0x101601 + j
abbrev CIA_HB_PRODUCER : Nat := 0x101700
abbrev CIA_VENDOR_ID : Nat := 0x101801
abbrev CIA_PRODUCT : Nat := 0x101802
abbrev CIA_REVISION : Nat := 0x101803
abbrev CIA_SERIAL : Nat := 0x101804
abbrev CIA_SDO_COB (j : Nat) : Nat := 0x120001 + j
abbrev CIA_RPDO_COB (n : Fin 16) : Nat := 0x140001 + 0x100 * n.val
abbrev CIA_RPDO_TYPE (n : Fin 16) : Nat := 0x140002 + 0x100 * n.val
abbrev CIA_RPDO_MAP_COUNT (n : Fin 16) : Nat := 0x160000 + 0x100 * n.val
abbrev CIA_RPDO_MAP (n : Fin 16) (j : Nat) : Nat := 0x160001 + 0x100 * n.val + j
abbrev CIA_TPDO_COB (n : Fin 16) : Nat := 0x180001 + 0x100 * n.val
abbrev CIA_TPDO_TYPE (n : Fin 16) : Nat := 0x180002 + 0x100 * n.val
abbrev CIA_TPDO_INHIBIT (n : Fin 16) : Nat := 0x180003 + 0x100 * n.val
abbrev CIA_TPDO_TIMER (n : Fin 16) : Nat := 0x180005 + 0x100 * n.val
abbrev CIA_TPDO_MAP_COUNT (n : Fin 16) : Nat := 0x1A0000 + 0x100 * n.val
abbrev CIA_TPDO_MAP (n : Fin 16) (j : Nat) : Nat := 0x1A0001 + 0x100 * n.val + j

end Sys2Proof.Machine.Obj
end

