-- ==== Sys2Proof/Machine/ObjectTable.lean ====
section
/-! DEFINITION. The object dictionary's table: for every object of the spec's object tables its place, type, access,
default, persistence, range and rule for writes while running (R7, R326), and the field maps of the objects whose fields
carry rules of their own. One list per block of the index space; `objRow` finds the row of a key. -/

namespace Sys2Proof.Machine

/-- Data types of the dictionary, named as in CiA 301 (R326). -/
inductive ObjType where
  | bool | u8 | u16 | u32 | u64 | i8 | i16 | i32 | real | str | domain
deriving DecidableEq, Repr

/-- Access rights (R326). -/
inductive Access where
  | ro | rw | wo | const
deriving DecidableEq, Repr

/-- How the table states a default. `typed`: by the stage's TYPE (Tables 5.6, 6.5); `replica`: the replica's own number
(PIE_TIMEBASE); `perModule`, `moduleReal`, `moduleText`: constants of the individual module, by type. -/
inductive Dflt where
  | int (v : Int) | real (q : Rat) | bytes (b : List Nat) | ints (l : List Int) | intsAt (l : List (List Int))
  | typed | replica | perModule | moduleReal | moduleText | cobEmcy | sdoCob
deriving DecidableEq, Repr

/-- The range of a writable object (the tables' last column). -/
inductive Range where
  | any | int (lo hi : Int) | intOr (lo hi other : Int) | step (lo hi st : Int) | oneOf (l : List Int)
  | real (lo hi : Rat) | finite | nonneg | ipMask | route | acqStart | acqSubst | fcShift | galNode | ssdBase
  | pierOut | cobSync
deriving DecidableEq, Repr

/-- On write while running (Table 0.6); `byField` for objects with a field map; `nextReset`: at the port's next reset
communication (14_dictionary_and_networks.md, Communication objects). -/
inductive RunRule where
  | immediate | nextCommit | nextModeChange | refused | byField | nextReset
deriving DecidableEq, Repr

/-- One row: `idx` and its replicas `count` at distance `step`, sub-indices from `sub`, `subs` of them. -/
structure ObjRow where
  name : String
  idx : Nat
  count : Nat
  step : Nat
  sub : Nat
  subs : Nat
  ty : ObjType
  access : Access
  dflt : Dflt
  saved : Bool
  range : Range
  run : RunRule
deriving DecidableEq, Repr

/-- One field of an object's field map: bits from `lo`, `width` of them, its rule for writes while running, and the
values it admits (`none`: all; a reserved field admits 0 only). -/
structure FieldRow where
  lo : Nat
  width : Nat
  run : RunRule
  allowed : Option (List Nat)
deriving DecidableEq, Repr

def objPage10 : List ObjRow := [
  ⟨"CIA_DEVICE_TYPE", 0x1000, 1, 0x0, 0, 1, .u32, .const, .int 0, false, .any, .immediate⟩,
  ⟨"CIA_ERROR_REGISTER", 0x1001, 1, 0x0, 0, 1, .u8, .ro, .int 0, false, .any, .immediate⟩,
  ⟨"CIA_ERROR_COUNT", 0x1003, 1, 0x0, 0, 1, .u8, .rw, .int 0, false, .oneOf [0], .immediate⟩,
  ⟨"CIA_ERROR_FIELD", 0x1003, 1, 0x0, 1, 8, .u32, .ro, .int 0, false, .any, .immediate⟩,
  ⟨"CIA_COB_SYNC", 0x1005, 1, 0x0, 0, 1, .u32, .rw, .int 0x80, true, .cobSync, .nextReset⟩,
  ⟨"CIA_DEVICE_NAME", 0x1008, 1, 0x0, 0, 1, .str, .const, .bytes [81, 70, 45, 55, 50, 49, 48], false, .any, .immediate⟩,
  ⟨"CIA_HW_VERSION", 0x1009, 1, 0x0, 0, 1, .str, .const, .moduleText, false, .any, .immediate⟩,
  ⟨"CIA_SW_VERSION", 0x100A, 1, 0x0, 0, 1, .str, .const, .moduleText, false, .any, .immediate⟩,
  ⟨"CIA_STORE", 0x1010, 1, 0x0, 1, 1, .u32, .rw, .int 1, false, .oneOf [0x65766173], .refused⟩,
  ⟨"CIA_RESTORE", 0x1011, 1, 0x0, 1, 1, .u32, .rw, .int 1, false, .oneOf [0x64616F6C], .refused⟩,
  ⟨"CIA_COB_EMCY", 0x1014, 1, 0x0, 0, 1, .u32, .rw, .cobEmcy, true, .any, .nextReset⟩,
  ⟨"CIA_EMCY_INHIBIT", 0x1015, 1, 0x0, 0, 1, .u16, .rw, .int 100, true, .any, .nextReset⟩,
  ⟨"CIA_HB_CONSUMER", 0x1016, 1, 0x0, 1, 4, .u32, .rw, .int 0, true, .any, .nextReset⟩,
  ⟨"CIA_HB_PRODUCER", 0x1017, 1, 0x0, 0, 1, .u16, .rw, .int 1000, true, .any, .nextReset⟩,
  ⟨"CIA_VENDOR_ID", 0x1018, 1, 0x0, 1, 1, .u32, .const, .int 0xE7A, false, .any, .immediate⟩,
  ⟨"CIA_PRODUCT", 0x1018, 1, 0x0, 2, 1, .u32, .const, .int 0x7210, false, .any, .immediate⟩,
  ⟨"CIA_REVISION", 0x1018, 1, 0x0, 3, 1, .u32, .const, .perModule, false, .any, .immediate⟩,
  ⟨"CIA_SERIAL", 0x1018, 1, 0x0, 4, 1, .u32, .const, .perModule, false, .any, .immediate⟩]

def objPage12 : List ObjRow := [
  ⟨"CIA_SDO_COB", 0x1200, 1, 0x0, 1, 2, .u32, .ro, .sdoCob, false, .any, .immediate⟩]

def objPage14 : List ObjRow := [
  ⟨"CIA_RPDO_COB", 0x1400, 16, 0x1, 1, 1, .u32, .rw, .int 0x80000000, true, .any, .nextReset⟩,
  ⟨"CIA_RPDO_TYPE", 0x1400, 16, 0x1, 2, 1, .u8, .rw, .int 0, true, .any, .nextReset⟩]

def objPage16 : List ObjRow := [
  ⟨"CIA_RPDO_MAP_COUNT", 0x1600, 16, 0x1, 0, 1, .u8, .rw, .int 0, true, .int 0 64, .nextReset⟩,
  ⟨"CIA_RPDO_MAP", 0x1600, 16, 0x1, 1, 64, .u32, .rw, .int 0, true, .any, .nextReset⟩]

def objPage18 : List ObjRow := [
  ⟨"CIA_TPDO_COB", 0x1800, 16, 0x1, 1, 1, .u32, .rw, .int 0x80000000, true, .any, .nextReset⟩,
  ⟨"CIA_TPDO_TYPE", 0x1800, 16, 0x1, 2, 1, .u8, .rw, .int 0, true, .any, .nextReset⟩,
  ⟨"CIA_TPDO_INHIBIT", 0x1800, 16, 0x1, 3, 1, .u16, .rw, .int 0, true, .any, .nextReset⟩,
  ⟨"CIA_TPDO_TIMER", 0x1800, 16, 0x1, 5, 1, .u16, .rw, .int 0, true, .any, .nextReset⟩]

def objPage1A : List ObjRow := [
  ⟨"CIA_TPDO_MAP_COUNT", 0x1A00, 16, 0x1, 0, 1, .u8, .rw, .int 0, true, .int 0 64, .nextReset⟩,
  ⟨"CIA_TPDO_MAP", 0x1A00, 16, 0x1, 1, 64, .u32, .rw, .int 0, true, .any, .nextReset⟩]

def objPage20 : List ObjRow := [
  ⟨"MOD_VENDOR_ID", 0x2000, 1, 0x0, 1, 1, .u32, .const, .int 3706, false, .any, .immediate⟩,
  ⟨"MOD_PART", 0x2000, 1, 0x0, 2, 1, .str, .const, .bytes [81, 70, 45, 55, 50, 49, 48], false, .any, .immediate⟩,
  ⟨"MOD_SERIAL", 0x2000, 1, 0x0, 3, 1, .u32, .const, .perModule, false, .any, .immediate⟩,
  ⟨"MOD_HW_ISSUE", 0x2000, 1, 0x0, 4, 1, .u16, .const, .perModule, false, .any, .immediate⟩,
  ⟨"MOD_FW_VERSION", 0x2000, 1, 0x0, 5, 1, .u32, .ro, .int 0, false, .any, .immediate⟩,
  ⟨"MOD_FW_IMAGE", 0x2000, 1, 0x0, 6, 1, .u8, .ro, .int 0, false, .any, .immediate⟩,
  ⟨"MOD_NODE_NUMBER", 0x2001, 1, 0x0, 0, 1, .u8, .rw, .int 1, true, .int 1 127, .refused⟩,
  ⟨"MOD_MODE", 0x2010, 1, 0x0, 0, 1, .u8, .ro, .int 0, false, .any, .immediate⟩,
  ⟨"MOD_COMMAND", 0x2011, 1, 0x0, 0, 1, .u16, .wo, .int 0, false, .any, .immediate⟩,
  ⟨"MOD_STATUS", 0x2012, 1, 0x0, 0, 1, .u32, .ro, .int 0, false, .any, .immediate⟩,
  ⟨"MOD_LOCKOUT_CAUSE", 0x2013, 1, 0x0, 0, 1, .u16, .ro, .int 0, false, .any, .immediate⟩,
  ⟨"MOD_TRANSITION_COUNT", 0x2014, 1, 0x0, 0, 1, .u32, .ro, .int 0, true, .any, .immediate⟩,
  ⟨"MOD_STAGE_CFG", 0x2020, 1, 0x0, 1, 4, .u32, .rw, .int 64, true, .any, .byField⟩,
  ⟨"MOD_STAGE_STATE", 0x2021, 1, 0x0, 1, 4, .u8, .ro, .int 0, false, .any, .immediate⟩,
  ⟨"MOD_STAGE_CMD", 0x2022, 1, 0x0, 1, 4, .u8, .wo, .int 0, false, .oneOf [1, 2, 3], .immediate⟩,
  ⟨"MOD_STAGE_SAFE_CAUSE", 0x2023, 1, 0x0, 1, 4, .u16, .ro, .int 0, false, .any, .immediate⟩,
  ⟨"MOD_AUTOSTART", 0x2030, 1, 0x0, 1, 1, .bool, .rw, .int 0, true, .int 0 1, .refused⟩,
  ⟨"MOD_CHARGE_LEVEL", 0x2030, 1, 0x0, 2, 1, .u16, .rw, .int 850, true, .int 500 950, .refused⟩,
  ⟨"MOD_CHARGE_TIMEOUT", 0x2030, 1, 0x0, 3, 1, .u16, .rw, .int 5000, true, .int 500 60000, .refused⟩,
  ⟨"MOD_STOP_TIMEOUT", 0x2030, 1, 0x0, 4, 1, .u16, .rw, .int 2000, true, .int 200 20000, .refused⟩,
  ⟨"MOD_DIAG_LEVEL", 0x2030, 1, 0x0, 5, 1, .u16, .rw, .int 100, true, .int 50 300, .refused⟩]

def objPage21 : List ObjRow := [
  ⟨"SUP_STATUS", 0x2100, 1, 0x0, 0, 1, .u32, .ro, .int 0, false, .any, .immediate⟩,
  ⟨"SUP_BRIDGE", 0x2101, 1, 0x0, 0, 1, .u16, .rw, .int 1000, true, .int 0 2000, .immediate⟩,
  ⟨"SUP_RAIL", 0x2102, 1, 0x0, 1, 18, .real, .ro, .real 0, false, .any, .immediate⟩,
  ⟨"SUP_INTERRUPTIONS", 0x2103, 1, 0x0, 0, 1, .u32, .ro, .int 0, true, .any, .immediate⟩,
  ⟨"SUP_LAST_INTERRUPTION", 0x2104, 1, 0x0, 0, 1, .real, .ro, .real 0, false, .any, .immediate⟩,
  ⟨"SUP_SENSOR_EN", 0x2105, 1, 0x0, 0, 1, .bool, .rw, .int 1, true, .int 0 1, .refused⟩,
  ⟨"THM_STATUS", 0x2110, 1, 0x0, 0, 1, .u32, .ro, .int 0, false, .any, .immediate⟩,
  ⟨"THM_TEMP", 0x2111, 1, 0x0, 1, 30, .real, .ro, .real 0, false, .any, .immediate⟩,
  ⟨"THM_STEP_TIME", 0x2112, 1, 0x0, 0, 1, .u16, .rw, .int 2000, true, .int 500 60000, .nextModeChange⟩,
  ⟨"THM_THROTTLE_STEP", 0x2113, 1, 0x0, 0, 1, .u8, .ro, .int 0, false, .any, .immediate⟩,
  ⟨"THM_SHUTDOWN_SENSOR", 0x2114, 1, 0x0, 0, 1, .u8, .ro, .int 0, false, .any, .immediate⟩,
  ⟨"THM_BROKEN", 0x2115, 1, 0x0, 0, 1, .u32, .ro, .int 0, false, .any, .immediate⟩,
  ⟨"THM_PEAK", 0x2116, 1, 0x0, 1, 30, .real, .ro, .real 0, true, .any, .immediate⟩,
  ⟨"THM_EXT_CFG", 0x2117, 1, 0x0, 1, 2, .u8, .rw, .int 0, true, .int 0 2, .refused⟩,
  ⟨"THM_CLASS", 0x2120, 8, 0x1, 1, 5, .i16, .rw, .intsAt [[(-45), (-40), 110, 118, 125], [(-45), (-40), 105, 112, 120], [(-45), (-40), 120, 130, 140], [(-45), (-40), 115, 125, 135], [(-45), (-40), 120, 130, 140], [(-45), (-40), 95, 100, 105], [(-42), (-38), 85, 90, 100], [(-50), (-45), 140, 150, 160]], true, .int (-60) 200, .refused⟩,
  ⟨"THM_CLASS_HYST", 0x2120, 8, 0x1, 6, 1, .u8, .rw, .intsAt [[5], [5], [5], [5], [5], [5], [5], [5]], true, .int 1 20, .refused⟩]

def objPage22 : List ObjRow := [
  ⟨"NVS_STATUS", 0x2200, 1, 0x0, 0, 1, .u32, .ro, .int 0, false, .any, .immediate⟩,
  ⟨"NVS_CMD", 0x2201, 1, 0x0, 0, 1, .u16, .wo, .int 0, false, .any, .immediate⟩,
  ⟨"NVS_HOLD_C", 0x2210, 1, 0x0, 1, 1, .real, .ro, .real 0, false, .any, .immediate⟩,
  ⟨"NVS_HOLD_V", 0x2210, 1, 0x0, 2, 1, .real, .ro, .real 0, false, .any, .immediate⟩,
  ⟨"NVS_HOLD_MARGIN", 0x2210, 1, 0x0, 3, 1, .u8, .rw, .int 25, true, .int 10 100, .refused⟩,
  ⟨"NVS_DEFERRED", 0x2210, 1, 0x0, 4, 1, .u32, .ro, .int 0, false, .any, .immediate⟩,
  ⟨"NVS_ECC_CORRECTED", 0x2220, 1, 0x0, 1, 3, .u32, .ro, .int 0, false, .any, .immediate⟩,
  ⟨"NVS_LOG_READ_SEQ", 0x2230, 1, 0x0, 1, 1, .u32, .wo, .int 0, false, .any, .immediate⟩,
  ⟨"NVS_LOG_READ_DATA", 0x2230, 1, 0x0, 2, 1, .domain, .ro, .bytes [], false, .any, .immediate⟩,
  ⟨"NVS_LOG_DROPPED", 0x2230, 1, 0x0, 3, 1, .u32, .ro, .int 0, false, .any, .immediate⟩,
  ⟨"NVS_BOOT_PREF", 0x2238, 1, 0x0, 1, 1, .u8, .rw, .int 0, true, .int 0 1, .refused⟩,
  ⟨"NVS_IMAGE_STATE", 0x2238, 1, 0x0, 2, 1, .u8, .ro, .int 0, false, .any, .immediate⟩,
  ⟨"NVS_IMAGE_DATA", 0x2238, 1, 0x0, 3, 1, .domain, .wo, .bytes [], false, .any, .immediate⟩,
  ⟨"CVU_CFG", 0x2240, 8, 0x1, 1, 1, .u32, .rw, .int 0, false, .any, .byField⟩,
  ⟨"CVU_POLY", 0x2240, 8, 0x1, 2, 1, .u64, .rw, .int 0, false, .any, .immediate⟩,
  ⟨"CVU_INIT", 0x2240, 8, 0x1, 3, 1, .u64, .rw, .int 0, false, .any, .immediate⟩,
  ⟨"CVU_EXPECT", 0x2240, 8, 0x1, 4, 1, .u64, .rw, .int 0, false, .any, .immediate⟩,
  ⟨"CVU_DATA", 0x2240, 8, 0x1, 5, 1, .u32, .wo, .int 0, false, .any, .immediate⟩,
  ⟨"CVU_CTRL", 0x2240, 8, 0x1, 6, 1, .u8, .wo, .int 0, false, .oneOf [1, 2], .immediate⟩,
  ⟨"CVU_RESULT", 0x2240, 8, 0x1, 7, 1, .u64, .ro, .int 0, false, .any, .immediate⟩,
  ⟨"CVU_STATUS", 0x2240, 8, 0x1, 8, 1, .u8, .ro, .int 0, false, .any, .immediate⟩,
  ⟨"CVU_DROPPED", 0x2240, 8, 0x1, 9, 1, .u32, .ro, .int 0, false, .any, .immediate⟩]

def objPage23Part0 : List ObjRow := [
  ⟨"TIM_STATUS", 0x2300, 1, 0x0, 0, 1, .u32, .ro, .int 0, false, .any, .immediate⟩,
  ⟨"TIM_REF_CFG", 0x2301, 1, 0x0, 0, 1, .u32, .rw, .int 0, true, .any, .byField⟩,
  ⟨"TIM_MT", 0x2302, 1, 0x0, 0, 1, .u64, .ro, .int 0, false, .any, .immediate⟩,
  ⟨"TIM_BOOT_COUNT", 0x2303, 1, 0x0, 0, 1, .u32, .ro, .int 0, true, .any, .immediate⟩,
  ⟨"TIM_REF_TOL", 0x2304, 1, 0x0, 0, 1, .u8, .rw, .int 30, true, .int 10 50, .refused⟩,
  ⟨"TIM_REF_DEV", 0x2305, 1, 0x0, 1, 3, .real, .ro, .real 0, false, .any, .immediate⟩,
  ⟨"TIM_PLL_LOSSES", 0x2306, 1, 0x0, 1, 2, .u32, .ro, .int 0, false, .any, .immediate⟩,
  ⟨"TIM_NTA_CFG", 0x2310, 2, 0x10, 0, 1, .u32, .rw, .intsAt [[1], [0]], true, .any, .byField⟩,
  ⟨"TIM_NTA_STATUS", 0x2311, 2, 0x10, 0, 1, .u32, .ro, .int 0, false, .any, .immediate⟩,
  ⟨"TIM_NTA_SLEW", 0x2312, 2, 0x10, 1, 1, .u16, .rw, .int 500, true, .int 10 500, .immediate⟩,
  ⟨"TIM_NTA_SERVO_TC", 0x2312, 2, 0x10, 2, 1, .u16, .rw, .int 2000, true, .int 100 60000, .immediate⟩,
  ⟨"TIM_NTA_LOSS_COUNT", 0x2312, 2, 0x10, 3, 1, .u8, .rw, .int 3, true, .int 2 10, .refused⟩,
  ⟨"TIM_NTA_LOG_SYNC", 0x2312, 2, 0x10, 4, 1, .i8, .rw, .int (-3), true, .int (-7) 1, .refused⟩,
  ⟨"TIM_NTA_LOG_ANNOUNCE", 0x2312, 2, 0x10, 5, 1, .i8, .rw, .int 0, true, .int (-3) 3, .refused⟩,
  ⟨"TIM_NTA_ANNOUNCE_TO", 0x2312, 2, 0x10, 6, 1, .u8, .rw, .int 3, true, .int 2 10, .refused⟩,
  ⟨"TIM_NTA_LOG_DELAY", 0x2312, 2, 0x10, 7, 1, .i8, .rw, .int 0, true, .int (-7) 5, .refused⟩,
  ⟨"TIM_NTA_PRIORITY", 0x2312, 2, 0x10, 8, 2, .u8, .rw, .int 255, true, .any, .refused⟩,
  ⟨"TIM_NTA_NOW", 0x2313, 2, 0x10, 1, 1, .u64, .ro, .int 0, false, .any, .immediate⟩,
  ⟨"TIM_NTA_OFFSET", 0x2313, 2, 0x10, 2, 1, .real, .ro, .real 0, false, .any, .immediate⟩,
  ⟨"TIM_NTA_RATE", 0x2313, 2, 0x10, 3, 1, .real, .ro, .real 0, false, .any, .immediate⟩,
  ⟨"TIM_NTA_PATH_DELAY", 0x2313, 2, 0x10, 4, 1, .real, .ro, .real 0, false, .any, .immediate⟩,
  ⟨"TIM_NTA_GM_ID", 0x2313, 2, 0x10, 5, 1, .u64, .ro, .int 0, false, .any, .immediate⟩,
  ⟨"TIM_NTA_STEPS_REMOVED", 0x2313, 2, 0x10, 6, 1, .u16, .ro, .int 0, false, .any, .immediate⟩,
  ⟨"TIM_NTA_HOLDOVER_TIME", 0x2313, 2, 0x10, 7, 1, .u32, .ro, .int 0, false, .any, .immediate⟩]

def objPage23Part1 : List ObjRow := [
  ⟨"TIM_NTA_DISCARDED", 0x2313, 2, 0x10, 8, 1, .u32, .ro, .int 0, false, .any, .immediate⟩,
  ⟨"TIM_TT_SLEW", 0x2330, 1, 0x0, 0, 1, .u16, .rw, .int 500, true, .int 10 500, .immediate⟩,
  ⟨"TIM_CMD", 0x2340, 1, 0x0, 0, 1, .u16, .wo, .int 0, false, .any, .immediate⟩,
  ⟨"TIM_TC_CFG", 0x2350, 1, 0x0, 0, 1, .u32, .rw, .int 5, true, .any, .byField⟩,
  ⟨"TIM_TC_CORRECTED", 0x2351, 1, 0x0, 0, 1, .u32, .ro, .int 0, false, .any, .immediate⟩,
  ⟨"TIM_TT_STATUS", 0x2331, 1, 0x0, 0, 1, .u32, .ro, .int 0, false, .any, .immediate⟩,
  ⟨"TIM_TT_NOW", 0x2333, 1, 0x0, 1, 1, .u64, .ro, .int 0, false, .any, .immediate⟩,
  ⟨"TIM_TT_OFFSET", 0x2333, 1, 0x0, 2, 1, .real, .ro, .real 0, false, .any, .immediate⟩,
  ⟨"TIM_TT_RATE", 0x2333, 1, 0x0, 3, 1, .real, .ro, .real 0, false, .any, .immediate⟩,
  ⟨"TIM_TT_HOLDOVER_TIME", 0x2333, 1, 0x0, 7, 1, .u32, .ro, .int 0, false, .any, .immediate⟩]

def objPage23 : List ObjRow := objPage23Part0 ++ objPage23Part1

def objPage24 : List ObjRow := [
  ⟨"FIO_STATUS", 0x2400, 1, 0x0, 0, 1, .u32, .ro, .int 0, false, .any, .immediate⟩,
  ⟨"FIO_FORCE", 0x2401, 1, 0x0, 1, 1, .u32, .rw, .int 0, false, .int 0 0x1FFFF, .refused⟩,
  ⟨"FIO_MAX_LATENESS", 0x2402, 1, 0x0, 0, 1, .u32, .ro, .int 0, false, .any, .immediate⟩,
  ⟨"FIO_DI_CFG", 0x2410, 16, 0x1, 1, 1, .u8, .rw, .int 0, true, .any, .byField⟩,
  ⟨"FIO_DI_ON", 0x2410, 16, 0x1, 2, 1, .u16, .rw, .int 160, true, .int 80 1000, .nextModeChange⟩,
  ⟨"FIO_DI_OFF", 0x2410, 16, 0x1, 3, 1, .u16, .rw, .int 110, true, .int 60 980, .nextModeChange⟩,
  ⟨"FIO_DI_FILTER", 0x2410, 16, 0x1, 4, 1, .u16, .rw, .int 30, true, .int 1 1000, .nextModeChange⟩,
  ⟨"FIO_WB_OPEN", 0x2410, 16, 0x1, 5, 1, .u16, .rw, .int 5, true, .int 1 120, .nextModeChange⟩,
  ⟨"FIO_WB_MID", 0x2410, 16, 0x1, 6, 1, .u16, .rw, .int 30, true, .int 1 120, .nextModeChange⟩,
  ⟨"FIO_WB_SHORT", 0x2410, 16, 0x1, 7, 1, .u16, .rw, .int 105, true, .int 1 120, .nextModeChange⟩,
  ⟨"FIO_DI_STATUS", 0x2410, 16, 0x1, 8, 1, .u8, .ro, .int 0, false, .any, .immediate⟩,
  ⟨"FIO_DI_CURRENT", 0x2410, 16, 0x1, 9, 1, .real, .ro, .real 0, false, .any, .immediate⟩,
  ⟨"FIO_DO_CFG", 0x2430, 12, 0x1, 1, 1, .u8, .rw, .int 1, true, .any, .byField⟩,
  ⟨"FIO_DO_STATUS", 0x2430, 12, 0x1, 2, 1, .u8, .ro, .int 0, false, .any, .immediate⟩,
  ⟨"FIO_DO_CURRENT", 0x2430, 12, 0x1, 3, 1, .real, .ro, .real 0, false, .any, .immediate⟩,
  ⟨"FIO_CD_STATUS", 0x2450, 4, 0x1, 1, 1, .u8, .ro, .int 0, false, .any, .immediate⟩,
  ⟨"FIO_CD_CURRENT", 0x2450, 4, 0x1, 2, 1, .real, .ro, .real 0, false, .any, .immediate⟩,
  ⟨"FIO_CD_IGNORED", 0x2450, 4, 0x1, 3, 1, .u32, .ro, .int 0, false, .any, .immediate⟩,
  ⟨"FIO_CD_CMD", 0x2450, 4, 0x1, 4, 1, .u8, .wo, .int 0, false, .oneOf [1], .immediate⟩]

def objPage28 : List ObjRow := [
  ⟨"TWN_CONFIG", 0x2800, 1, 0x0, 0, 1, .u32, .rw, .int 4, true, .any, .byField⟩,
  ⟨"TWN_STATUS", 0x2801, 1, 0x0, 0, 1, .u32, .ro, .int 0, false, .any, .immediate⟩,
  ⟨"TWN_CMD", 0x2802, 1, 0x0, 0, 1, .u16, .wo, .int 0, false, .any, .immediate⟩,
  ⟨"TWN_RETURN_HOLDOFF", 0x2810, 1, 0x0, 1, 1, .u16, .rw, .int 10, true, .int 1 600, .immediate⟩,
  ⟨"TWN_XCHECK_TOL", 0x2810, 1, 0x0, 2, 1, .u16, .rw, .int 50, true, .int 10 500, .nextCommit⟩,
  ⟨"TWN_PAIR_IP", 0x2811, 1, 0x0, 0, 1, .u32, .rw, .int 0, true, .any, .refused⟩,
  ⟨"TWN_CFG_CHECK", 0x2812, 1, 0x0, 0, 1, .u32, .ro, .int 0, false, .any, .immediate⟩,
  ⟨"TWN_CH_WIRING", 0x2820, 1, 0x0, 1, 24, .u8, .rw, .int 0, true, .int 0 2, .refused⟩,
  ⟨"TWN_PARTNER_SERIAL", 0x2830, 1, 0x0, 1, 1, .u32, .ro, .int 0, false, .any, .immediate⟩,
  ⟨"TWN_PARTNER_FW", 0x2830, 1, 0x0, 2, 1, .u32, .ro, .int 0, false, .any, .immediate⟩,
  ⟨"TWN_LINK_LATENCY", 0x2830, 1, 0x0, 3, 1, .real, .ro, .real 0, false, .any, .immediate⟩,
  ⟨"TWN_GRID_PHASE", 0x2830, 1, 0x0, 4, 1, .i16, .ro, .int 0, false, .any, .immediate⟩,
  ⟨"TWN_MISMATCHES", 0x2830, 1, 0x0, 5, 1, .u32, .ro, .int 0, false, .any, .immediate⟩,
  ⟨"TWN_TAKEOVERS", 0x2830, 1, 0x0, 6, 1, .u32, .ro, .int 0, true, .any, .immediate⟩,
  ⟨"TWN_LAST_INTERRUPTION", 0x2830, 1, 0x0, 7, 1, .real, .ro, .real 0, false, .any, .immediate⟩,
  ⟨"TWN_LINK_ERRORS", 0x2830, 1, 0x0, 8, 1, .u32, .ro, .int 0, false, .any, .immediate⟩,
  ⟨"TWN_WIN_TARGET", 0x2840, 1, 0x0, 1, 1, .u32, .wo, .int 0, false, .any, .immediate⟩,
  ⟨"TWN_WIN_DATA", 0x2840, 1, 0x0, 2, 1, .domain, .rw, .bytes [], false, .any, .immediate⟩]

def objPage30Part0 : List ObjRow := [
  ⟨"GFL_CONFIG", 0x3000, 4, 0x400, 0, 1, .u32, .rw, .int 48, true, .any, .byField⟩,
  ⟨"GFL_STATUS", 0x3001, 4, 0x400, 0, 1, .u32, .ro, .int 0, false, .any, .immediate⟩,
  ⟨"GFL_S_RATED", 0x3002, 4, 0x400, 1, 1, .u16, .rw, .int 120, true, .int 40 400, .refused⟩,
  ⟨"GFL_V_RATED", 0x3002, 4, 0x400, 2, 1, .u16, .rw, .int 400, true, .int 100 690, .refused⟩,
  ⟨"GFL_F_RATED", 0x3002, 4, 0x400, 3, 1, .u8, .rw, .int 50, true, .oneOf [50, 60], .refused⟩,
  ⟨"GFL_H", 0x3010, 4, 0x400, 1, 1, .u16, .rw, .int 200, true, .int 5 2000, .nextCommit⟩,
  ⟨"GFL_D", 0x3010, 4, 0x400, 2, 1, .u16, .rw, .int 200, true, .int 0 2000, .nextCommit⟩,
  ⟨"GFL_DAMP_TC", 0x3010, 4, 0x400, 3, 1, .u16, .rw, .int 500, true, .int 20 5000, .nextCommit⟩,
  ⟨"GFL_MP", 0x3010, 4, 0x400, 4, 1, .u16, .rw, .int 200, true, .int 0 1000, .nextCommit⟩,
  ⟨"GFL_NQ", 0x3010, 4, 0x400, 5, 1, .u16, .rw, .int 400, true, .int 0 1000, .nextCommit⟩,
  ⟨"GFL_P_SET", 0x3010, 4, 0x400, 6, 1, .i16, .rw, .int 0, true, .int (-1000) 1000, .nextCommit⟩,
  ⟨"GFL_Q_SET", 0x3010, 4, 0x400, 7, 1, .i16, .rw, .int 0, true, .int (-1000) 1000, .nextCommit⟩,
  ⟨"GFL_ISO_TC", 0x3010, 4, 0x400, 8, 1, .u16, .rw, .int 1000, true, .int 50 5000, .nextCommit⟩,
  ⟨"GFL_P_TC", 0x3010, 4, 0x400, 9, 1, .u16, .rw, .int 500, true, .int 100 20000, .nextCommit⟩,
  ⟨"GFL_Q_TC", 0x3010, 4, 0x400, 10, 1, .u16, .rw, .int 5000, true, .int 100 20000, .nextCommit⟩,
  ⟨"GFL_F_LIMIT", 0x3010, 4, 0x400, 11, 1, .u16, .rw, .int 500, true, .int 100 1000, .nextCommit⟩,
  ⟨"GFL_E_MIN", 0x3010, 4, 0x400, 12, 1, .u16, .rw, .int 850, true, .int 500 1000, .nextCommit⟩,
  ⟨"GFL_E_MAX", 0x3010, 4, 0x400, 13, 1, .u16, .rw, .int 1150, true, .int 1000 1200, .nextCommit⟩,
  ⟨"GFL_RV", 0x3020, 4, 0x400, 1, 1, .u16, .rw, .int 50, true, .int 0 500, .nextCommit⟩,
  ⟨"GFL_XV", 0x3020, 4, 0x400, 2, 1, .u16, .rw, .int 100, true, .int 0 500, .nextCommit⟩,
  ⟨"GFL_OUTER_DIV", 0x3030, 4, 0x400, 1, 1, .u8, .rw, .int 3, true, .int 0 8, .refused⟩,
  ⟨"GFL_KP_V", 0x3030, 4, 0x400, 2, 1, .u16, .rw, .int 300, true, .int 0 5000, .nextCommit⟩,
  ⟨"GFL_KI_V", 0x3030, 4, 0x400, 3, 1, .u16, .rw, .int 60, true, .int 0 10000, .nextCommit⟩,
  ⟨"GFL_KP_I", 0x3030, 4, 0x400, 4, 1, .u16, .rw, .int 1000, true, .int 0 5000, .nextCommit⟩]

def objPage30Part1 : List ObjRow := [
  ⟨"GFL_KC", 0x3030, 4, 0x400, 5, 1, .u16, .rw, .int 200, true, .int 0 5000, .nextCommit⟩,
  ⟨"GFL_KR_H", 0x3030, 4, 0x400, 6, 1, .u16, .rw, .int 20, true, .int 0 1000, .nextCommit⟩,
  ⟨"GFL_NOTCH_F", 0x3040, 4, 0x400, 1, 1, .u16, .rw, .int 0, true, .intOr 100 20000 0, .nextCommit⟩,
  ⟨"GFL_NOTCH_BW", 0x3040, 4, 0x400, 2, 1, .u16, .rw, .int 300, true, .int 10 5000, .nextCommit⟩,
  ⟨"GFL_NOTCH_DEPTH", 0x3040, 4, 0x400, 3, 1, .u16, .rw, .int 50, true, .int 0 500, .nextCommit⟩,
  ⟨"GFL_L1", 0x3050, 4, 0x400, 1, 1, .u16, .rw, .int 60, true, .int 5 500, .refused⟩,
  ⟨"GFL_CF", 0x3050, 4, 0x400, 2, 1, .u16, .rw, .int 50, true, .int 5 300, .refused⟩,
  ⟨"GFL_L2", 0x3050, 4, 0x400, 3, 1, .u16, .rw, .int 40, true, .int 0 500, .refused⟩,
  ⟨"GFL_NEG_I_LIMIT", 0x3060, 4, 0x400, 1, 1, .u16, .rw, .int 300, true, .int 0 500, .nextCommit⟩,
  ⟨"GFL_NEG_KI", 0x3060, 4, 0x400, 2, 1, .u16, .rw, .int 20, true, .int 0 1000, .nextCommit⟩,
  ⟨"GFL_XVN", 0x3060, 4, 0x400, 3, 1, .u16, .rw, .int 100, true, .int 0 500, .nextCommit⟩,
  ⟨"GFL_ZERO_KP", 0x3060, 4, 0x400, 4, 1, .u16, .rw, .int 500, true, .int 0 5000, .nextCommit⟩,
  ⟨"GFL_ZERO_KI", 0x3060, 4, 0x400, 5, 1, .u16, .rw, .int 50, true, .int 0 1000, .nextCommit⟩,
  ⟨"GFL_N_I_LIMIT", 0x3060, 4, 0x400, 6, 1, .u16, .rw, .int 1000, true, .int 0 1500, .nextCommit⟩,
  ⟨"GFL_FREQ", 0x3070, 4, 0x400, 1, 1, .real, .ro, .real 0, false, .any, .immediate⟩,
  ⟨"GFL_THETA", 0x3070, 4, 0x400, 2, 1, .real, .ro, .real 0, false, .any, .immediate⟩,
  ⟨"GFL_E", 0x3070, 4, 0x400, 3, 1, .real, .ro, .real 0, false, .any, .immediate⟩,
  ⟨"GFL_P_MEAS", 0x3070, 4, 0x400, 4, 1, .real, .ro, .real 0, false, .any, .immediate⟩,
  ⟨"GFL_Q_MEAS", 0x3070, 4, 0x400, 5, 1, .real, .ro, .real 0, false, .any, .immediate⟩,
  ⟨"GFL_P_MECH", 0x3070, 4, 0x400, 6, 1, .real, .ro, .real 0, false, .any, .immediate⟩,
  ⟨"GFL_V_NEG", 0x3070, 4, 0x400, 7, 1, .real, .ro, .real 0, false, .any, .immediate⟩,
  ⟨"GFL_V_ZERO", 0x3070, 4, 0x400, 8, 1, .real, .ro, .real 0, false, .any, .immediate⟩,
  ⟨"GFL_ZETA", 0x3070, 4, 0x400, 9, 1, .real, .ro, .real 0, false, .any, .immediate⟩,
  ⟨"GFL_F_RES", 0x3070, 4, 0x400, 10, 1, .real, .ro, .real 0, false, .any, .immediate⟩]

def objPage30Part2 : List ObjRow := [
  ⟨"GFL_EFF_RV", 0x3070, 4, 0x400, 11, 1, .real, .ro, .real 0, false, .any, .immediate⟩,
  ⟨"GFL_EFF_XV", 0x3070, 4, 0x400, 12, 1, .real, .ro, .real 0, false, .any, .immediate⟩,
  ⟨"GFL_EFF_KC", 0x3070, 4, 0x400, 13, 1, .real, .ro, .real 0, false, .any, .immediate⟩,
  ⟨"GFL_EFF_NOTCH_F", 0x3070, 4, 0x400, 14, 1, .real, .ro, .real 0, false, .any, .immediate⟩,
  ⟨"SHR_CONFIG", 0x3100, 4, 0x400, 0, 1, .u32, .rw, .int 3, true, .any, .byField⟩,
  ⟨"SHR_STATUS", 0x3101, 4, 0x400, 0, 1, .u32, .ro, .int 0, false, .any, .immediate⟩,
  ⟨"SHR_ANCHOR_PERIOD", 0x3110, 4, 0x400, 1, 1, .u16, .rw, .int 1000, true, .step 100 10000 100, .refused⟩,
  ⟨"SHR_REST_KF", 0x3110, 4, 0x400, 2, 1, .u16, .rw, .int 500, true, .int 1 1000, .nextCommit⟩,
  ⟨"SHR_REST_LF", 0x3110, 4, 0x400, 3, 1, .u16, .rw, .int 50, true, .int 1 1000, .nextCommit⟩,
  ⟨"SHR_REST_F_STEP", 0x3110, 4, 0x400, 4, 1, .u16, .rw, .int 20, true, .int 1 100, .nextCommit⟩,
  ⟨"SHR_REST_F_MAX", 0x3110, 4, 0x400, 5, 1, .u16, .rw, .int 300, true, .int 0 1000, .nextCommit⟩,
  ⟨"SHR_REST_KV", 0x3110, 4, 0x400, 6, 1, .u16, .rw, .int 200, true, .int 1 1000, .nextCommit⟩,
  ⟨"SHR_REST_LV", 0x3110, 4, 0x400, 7, 1, .u16, .rw, .int 500, true, .int 1 1000, .nextCommit⟩,
  ⟨"SHR_REST_V_STEP", 0x3110, 4, 0x400, 8, 1, .u16, .rw, .int 50, true, .int 1 200, .nextCommit⟩,
  ⟨"SHR_REST_V_MAX", 0x3110, 4, 0x400, 9, 1, .u16, .rw, .int 500, true, .int 0 1000, .nextCommit⟩,
  ⟨"SHR_DELTA_F_REST", 0x3111, 4, 0x400, 1, 1, .real, .ro, .real 0, false, .any, .immediate⟩,
  ⟨"SHR_DELTA_V_REST", 0x3111, 4, 0x400, 2, 1, .real, .ro, .real 0, false, .any, .immediate⟩,
  ⟨"SHR_F_MEAN", 0x3111, 4, 0x400, 3, 1, .real, .ro, .real 0, false, .any, .immediate⟩,
  ⟨"SHR_V_MEAN", 0x3111, 4, 0x400, 4, 1, .real, .ro, .real 0, false, .any, .immediate⟩,
  ⟨"SHR_ANCHOR_COUNT", 0x3111, 4, 0x400, 5, 1, .u32, .ro, .int 0, false, .any, .immediate⟩,
  ⟨"SHR_ANCHOR_LATE", 0x3111, 4, 0x400, 6, 1, .u32, .ro, .int 0, false, .any, .immediate⟩,
  ⟨"SHR_BS_RAMP", 0x3120, 4, 0x400, 1, 1, .u16, .rw, .int 200, true, .int 20 2000, .nextCommit⟩,
  ⟨"SHR_CLOSE_TIMEOUT", 0x3120, 4, 0x400, 2, 1, .u16, .rw, .int 100, true, .int 50 1000, .nextCommit⟩,
  ⟨"SHR_SYNC_GAIN", 0x3130, 4, 0x400, 1, 1, .u16, .rw, .int 20, true, .int 1 100, .nextCommit⟩]

def objPage30Part3 : List ObjRow := [
  ⟨"SHR_SYNC_DWELL", 0x3130, 4, 0x400, 2, 1, .u16, .rw, .int 40, true, .int 0 500, .nextCommit⟩,
  ⟨"SHR_SYNC_TIMEOUT", 0x3130, 4, 0x400, 3, 1, .u32, .rw, .int 30000, true, .int 1000 600000, .nextCommit⟩,
  ⟨"SHR_JOIN_RAMP", 0x3130, 4, 0x400, 4, 1, .u16, .rw, .int 2000, true, .int 100 10000, .nextCommit⟩,
  ⟨"SHR_LINE_CH", 0x3140, 4, 0x400, 1, 3, .u8, .rw, .int 0, true, .int 0 24, .refused⟩,
  ⟨"SHR_TIE_DRIVER", 0x3150, 4, 0x400, 1, 1, .u8, .rw, .int 0, true, .int 0 4, .refused⟩,
  ⟨"SHR_TIE_FAR_CH", 0x3150, 4, 0x400, 2, 3, .u8, .rw, .int 0, true, .int 0 24, .refused⟩,
  ⟨"SHR_DELTA_THETA", 0x3160, 4, 0x400, 1, 1, .real, .ro, .real 0, false, .any, .immediate⟩,
  ⟨"SHR_DELTA_V", 0x3160, 4, 0x400, 2, 1, .real, .ro, .real 0, false, .any, .immediate⟩,
  ⟨"SHR_DELTA_F", 0x3160, 4, 0x400, 3, 1, .real, .ro, .real 0, false, .any, .immediate⟩,
  ⟨"SHR_LINE_V", 0x3160, 4, 0x400, 4, 1, .real, .ro, .real 0, false, .any, .immediate⟩,
  ⟨"SHR_LINE_F", 0x3160, 4, 0x400, 5, 1, .real, .ro, .real 0, false, .any, .immediate⟩,
  ⟨"SHR_CMD", 0x3170, 4, 0x400, 0, 1, .u8, .wo, .int 0, false, .oneOf [1, 2], .immediate⟩,
  ⟨"FRT_CONFIG", 0x3200, 4, 0x400, 0, 1, .u32, .rw, .typed, true, .any, .byField⟩,
  ⟨"FRT_STATUS", 0x3201, 4, 0x400, 0, 1, .u32, .ro, .int 0, false, .any, .immediate⟩,
  ⟨"FRT_VI_START", 0x3210, 4, 0x400, 1, 1, .u16, .rw, .int 1200, true, .int 1000 1800, .nextCommit⟩,
  ⟨"FRT_VI_GAIN", 0x3210, 4, 0x400, 2, 1, .u16, .rw, .int 250, true, .int 0 1000, .nextCommit⟩,
  ⟨"FRT_VI_XR", 0x3210, 4, 0x400, 3, 1, .u8, .rw, .int 5, true, .int 1 20, .nextCommit⟩,
  ⟨"FRT_I_LIMIT", 0x3210, 4, 0x400, 4, 1, .u16, .rw, .int 2000, true, .int 1100 2000, .nextCommit⟩,
  ⟨"FRT_PULSE_LIMIT", 0x3210, 4, 0x400, 5, 1, .u16, .rw, .int 2800, true, .int 1500 3000, .nextCommit⟩,
  ⟨"FRT_V_ENTRY", 0x3210, 4, 0x400, 6, 1, .u16, .rw, .int 700, true, .int 300 900, .nextCommit⟩,
  ⟨"FRT_NEG_ENTRY", 0x3210, 4, 0x400, 7, 1, .u16, .rw, .int 150, true, .int 50 500, .nextCommit⟩,
  ⟨"FRT_V_EXIT", 0x3210, 4, 0x400, 8, 1, .u16, .rw, .int 900, true, .int 700 980, .nextCommit⟩,
  ⟨"FRT_FAULT_TIME", 0x3210, 4, 0x400, 9, 1, .u16, .rw, .int 300, true, .int 0 300, .nextCommit⟩,
  ⟨"FRT_BUDGET_RECOVER", 0x3210, 4, 0x400, 10, 1, .u16, .rw, .int 10000, true, .int 1000 60000, .nextCommit⟩]

def objPage30Part4 : List ObjRow := [
  ⟨"FRT_RECOVERY_TIME", 0x3210, 4, 0x400, 11, 1, .u8, .rw, .int 10, true, .int 2 20, .nextCommit⟩,
  ⟨"FRT_PULSE_GROUP", 0x3210, 4, 0x400, 12, 1, .u8, .rw, .int 255, true, .intOr 0 7 255, .refused⟩,
  ⟨"FRT_I_CH", 0x3210, 4, 0x400, 13, 4, .u8, .rw, .int 0, true, .int 0 24, .refused⟩,
  ⟨"FRT_IN_CH", 0x3220, 4, 0x400, 1, 1, .u8, .rw, .int 0, true, .int 0 24, .refused⟩,
  ⟨"FRT_IN_RATED", 0x3220, 4, 0x400, 2, 1, .u16, .rw, .int 1500, true, .int 100 4000, .refused⟩,
  ⟨"FRT_IN_LOSS_LEVEL", 0x3220, 4, 0x400, 3, 1, .u16, .rw, .int 500, true, .int 200 900, .nextCommit⟩,
  ⟨"FRT_IN_LOSS_TIME", 0x3220, 4, 0x400, 4, 1, .u8, .rw, .int 20, true, .int 5 40, .nextCommit⟩,
  ⟨"FRT_AC_LOSS_DEV", 0x3220, 4, 0x400, 5, 1, .u16, .rw, .int 300, true, .int 100 600, .nextCommit⟩,
  ⟨"FRT_IN_RETURN_LEVEL", 0x3220, 4, 0x400, 6, 1, .u16, .rw, .int 700, true, .int 300 950, .nextCommit⟩,
  ⟨"FRT_IN_RETURN_TIME", 0x3220, 4, 0x400, 7, 1, .u16, .rw, .int 1, true, .int 1 1000, .nextCommit⟩,
  ⟨"FRT_IN_RAMP", 0x3220, 4, 0x400, 8, 1, .u16, .rw, .int 10, true, .int 5 500, .nextCommit⟩,
  ⟨"FRT_PLL_HOLD", 0x3220, 4, 0x400, 9, 1, .u16, .rw, .int 10000, true, .int 100 30000, .nextCommit⟩,
  ⟨"FRT_PLL_JUMP", 0x3220, 4, 0x400, 10, 1, .u16, .rw, .int 100, true, .int 10 900, .nextCommit⟩,
  ⟨"FRT_ZC_HYST", 0x3220, 4, 0x400, 11, 1, .u16, .rw, .int 50, true, .int 10 200, .nextCommit⟩,
  ⟨"FRT_LINK_RATED", 0x3230, 4, 0x400, 1, 1, .u16, .rw, .int 750, true, .int 100 1500, .refused⟩,
  ⟨"FRT_LINK_C", 0x3230, 4, 0x400, 2, 1, .u32, .rw, .int 10000, true, .int 100 100000, .nextCommit⟩,
  ⟨"FRT_LINK_REF", 0x3230, 4, 0x400, 3, 1, .u16, .rw, .int 900, true, .int 600 980, .nextCommit⟩,
  ⟨"FRT_LINK_MIN", 0x3230, 4, 0x400, 4, 1, .u16, .rw, .int 800, true, .int 500 950, .nextCommit⟩,
  ⟨"FRT_LINK_MAX", 0x3230, 4, 0x400, 5, 1, .u16, .rw, .int 1150, true, .int 1000 1300, .nextCommit⟩,
  ⟨"FRT_LINK_MIN_TIME", 0x3230, 4, 0x400, 6, 1, .u8, .rw, .int 2, true, .int 1 100, .nextCommit⟩,
  ⟨"FRT_DC_GAIN", 0x3230, 4, 0x400, 7, 1, .u16, .rw, .int 5000, true, .int 0 50000, .nextCommit⟩,
  ⟨"FRT_COAST_SHIFT", 0x3230, 4, 0x400, 8, 1, .u16, .rw, .int 1000, true, .int 0 2000, .nextCommit⟩,
  ⟨"FRT_COAST_RELEASE", 0x3230, 4, 0x400, 9, 1, .u16, .rw, .int 100, true, .int 10 2000, .nextCommit⟩,
  ⟨"FRT_COAST_MAX", 0x3230, 4, 0x400, 10, 1, .u32, .rw, .int 10000, true, .int 100 60000, .nextCommit⟩]

def objPage30Part5 : List ObjRow := [
  ⟨"FRT_SHED_V", 0x3230, 4, 0x400, 11, 3, .u16, .rw, .ints [950, 900, 850], true, .int 500 1000, .nextCommit⟩,
  ⟨"FRT_BUDGET", 0x3240, 4, 0x400, 1, 1, .real, .ro, .real 300, false, .any, .immediate⟩,
  ⟨"FRT_DELTA_P_COAST", 0x3240, 4, 0x400, 2, 1, .real, .ro, .real 0, false, .any, .immediate⟩,
  ⟨"FRT_LINK_ENERGY", 0x3240, 4, 0x400, 3, 1, .real, .ro, .real 0, false, .any, .immediate⟩,
  ⟨"FRT_LAST_RIDE", 0x3240, 4, 0x400, 4, 1, .real, .ro, .real 0, false, .any, .immediate⟩,
  ⟨"FRT_LAST_PEAK", 0x3240, 4, 0x400, 5, 1, .real, .ro, .real 0, false, .any, .immediate⟩,
  ⟨"FRT_RIDE_COUNT", 0x3240, 4, 0x400, 6, 1, .u32, .ro, .int 0, false, .any, .immediate⟩,
  ⟨"FRT_COAST_COUNT", 0x3240, 4, 0x400, 7, 1, .u32, .ro, .int 0, false, .any, .immediate⟩,
  ⟨"FRT_LAST_GAP", 0x3240, 4, 0x400, 8, 1, .real, .ro, .real 0, false, .any, .immediate⟩,
  ⟨"FRT_IN_PLL_F", 0x3240, 4, 0x400, 9, 1, .real, .ro, .real 0, false, .any, .immediate⟩,
  ⟨"FRT_LAST_JUMP", 0x3240, 4, 0x400, 10, 1, .real, .ro, .real 0, false, .any, .immediate⟩,
  ⟨"SRV_CONFIG", 0x3300, 4, 0x400, 0, 1, .u32, .rw, .typed, true, .any, .byField⟩,
  ⟨"SRV_STATUS", 0x3301, 4, 0x400, 0, 1, .u32, .ro, .int 0, false, .any, .immediate⟩,
  ⟨"SRV_PERIOD", 0x3310, 4, 0x400, 1, 1, .u16, .rw, .int 100, true, .int 20 6000, .nextCommit⟩,
  ⟨"SRV_AMPLITUDE", 0x3310, 4, 0x400, 2, 1, .u16, .rw, .int 30, true, .int 5 50, .nextCommit⟩,
  ⟨"SRV_AVERAGES", 0x3310, 4, 0x400, 3, 1, .u8, .rw, .int 8, true, .int 2 32, .nextCommit⟩,
  ⟨"SRV_COH_MIN", 0x3310, 4, 0x400, 4, 1, .u16, .rw, .int 800, true, .int 500 990, .nextCommit⟩,
  ⟨"SRV_PEER_X", 0x3310, 4, 0x400, 5, 1, .u16, .rw, .int 0, true, .intOr 20 1000 0, .nextCommit⟩,
  ⟨"SRV_Z1_R", 0x3320, 4, 0x400, 1, 1, .real, .ro, .real 0, false, .any, .immediate⟩,
  ⟨"SRV_Z1_X", 0x3320, 4, 0x400, 2, 1, .real, .ro, .real 0, false, .any, .immediate⟩,
  ⟨"SRV_N_EST", 0x3320, 4, 0x400, 3, 1, .real, .ro, .real 0, false, .any, .immediate⟩,
  ⟨"SRV_N_PARALLEL", 0x3320, 4, 0x400, 4, 1, .u8, .ro, .int 0, false, .any, .immediate⟩,
  ⟨"SRV_F_PEAK", 0x3320, 4, 0x400, 5, 1, .real, .ro, .real 0, false, .any, .immediate⟩,
  ⟨"SRV_ZETA_PEAK", 0x3320, 4, 0x400, 6, 1, .real, .ro, .real 0, false, .any, .immediate⟩]

def objPage30Part6 : List ObjRow := [
  ⟨"SRV_ZETA_SWING", 0x3320, 4, 0x400, 7, 1, .real, .ro, .real 0, false, .any, .immediate⟩,
  ⟨"SRV_F_UPPER", 0x3320, 4, 0x400, 8, 1, .real, .ro, .real 0, false, .any, .immediate⟩,
  ⟨"SRV_ROUND_COUNT", 0x3320, 4, 0x400, 9, 1, .u32, .ro, .int 0, false, .any, .immediate⟩,
  ⟨"SRV_Z_MAG", 0x3321, 4, 0x400, 1, 32, .real, .ro, .real 0, false, .any, .immediate⟩,
  ⟨"SRV_Z_ANGLE", 0x3322, 4, 0x400, 1, 32, .real, .ro, .real 0, false, .any, .immediate⟩,
  ⟨"SRV_COHERENCE", 0x3323, 4, 0x400, 1, 32, .real, .ro, .real 0, false, .any, .immediate⟩,
  ⟨"SRV_ZETA_TARGET", 0x3330, 4, 0x400, 1, 1, .u16, .rw, .int 350, true, .int 300 600, .nextCommit⟩,
  ⟨"SRV_RES_ZETA_MIN", 0x3330, 4, 0x400, 2, 1, .u16, .rw, .int 150, true, .int 100 400, .nextCommit⟩,
  ⟨"SRV_XV_RANGE", 0x3330, 4, 0x400, 3, 1, .u16, .rw, .int 50, true, .int 0 150, .nextCommit⟩,
  ⟨"SRV_XV_STEP", 0x3330, 4, 0x400, 4, 1, .u16, .rw, .int 10, true, .int 1 50, .nextCommit⟩,
  ⟨"SRV_KC_RANGE", 0x3330, 4, 0x400, 5, 1, .u16, .rw, .int 200, true, .int 0 1000, .nextCommit⟩,
  ⟨"SRV_KC_STEP", 0x3330, 4, 0x400, 6, 1, .u16, .rw, .int 20, true, .int 1 100, .nextCommit⟩,
  ⟨"SRV_NOTCH_RANGE", 0x3330, 4, 0x400, 7, 1, .u8, .rw, .int 8, true, .int 0 10, .nextCommit⟩,
  ⟨"SRV_DR_AD", 0x3340, 4, 0x400, 1, 1, .real, .ro, .real 0, false, .any, .immediate⟩,
  ⟨"SRV_DX_AD", 0x3340, 4, 0x400, 2, 1, .real, .ro, .real 0, false, .any, .immediate⟩,
  ⟨"SRV_DKC_AD", 0x3340, 4, 0x400, 3, 1, .real, .ro, .real 0, false, .any, .immediate⟩,
  ⟨"SRV_DFN_AD", 0x3340, 4, 0x400, 4, 1, .real, .ro, .real 0, false, .any, .immediate⟩,
  ⟨"SRV_CAN_TC", 0x3350, 4, 0x400, 1, 1, .u16, .rw, .int 32, true, .int 1 1024, .nextCommit⟩,
  ⟨"SRV_CAN_PERSIST", 0x3350, 4, 0x400, 2, 1, .u16, .rw, .int 8, true, .int 1 1000, .nextCommit⟩,
  ⟨"SRV_ARB_WINDOW", 0x3350, 4, 0x400, 3, 1, .u16, .rw, .int 64, true, .int 8 1024, .nextCommit⟩,
  ⟨"SRV_CAN_WARN", 0x3351, 4, 0x400, 1, 6, .u16, .rw, .ints [100, 50, 50, 50, 80, 20], true, .int 1 1000, .nextCommit⟩,
  ⟨"SRV_CAN_ACT", 0x3352, 4, 0x400, 1, 6, .u16, .rw, .ints [250, 150, 200, 150, 200, 100], true, .int 1 2000, .nextCommit⟩,
  ⟨"SRV_CAN_REACT", 0x3353, 4, 0x400, 1, 6, .u8, .rw, .ints [3, 3, 1, 2, 3, 3], true, .int 0 4, .nextCommit⟩,
  ⟨"SRV_CAN_RES", 0x3354, 4, 0x400, 1, 6, .real, .ro, .real 0, false, .any, .immediate⟩]

def objPage30Part7 : List ObjRow := [
  ⟨"SRV_CAN_SCORE", 0x3355, 4, 0x400, 0, 1, .real, .ro, .real 0, false, .any, .immediate⟩]

def objPage30 : List ObjRow := objPage30Part0 ++ objPage30Part1 ++ objPage30Part2 ++ objPage30Part3 ++ objPage30Part4 ++ objPage30Part5 ++ objPage30Part6 ++ objPage30Part7

def objPage40 : List ObjRow := [
  ⟨"PIE_CONFIG", 0x4000, 4, 0x100, 0, 1, .u32, .rw, .int 6, true, .any, .byField⟩,
  ⟨"PIE_STATUS", 0x4001, 4, 0x100, 0, 1, .u32, .ro, .int 0, false, .any, .immediate⟩,
  ⟨"PIE_UPDATE_PERIOD", 0x4010, 4, 0x100, 1, 1, .u32, .rw, .int 25600, true, .int 2048 409600, .refused⟩,
  ⟨"PIE_TIMEBASE", 0x4010, 4, 0x100, 2, 1, .u8, .rw, .replica, true, .int 0 7, .refused⟩,
  ⟨"PIE_DEADLINE", 0x4010, 4, 0x100, 3, 1, .u8, .rw, .int 80, true, .int 50 95, .nextCommit⟩,
  ⟨"PIE_OVERRUN_LIMIT", 0x4010, 4, 0x100, 4, 1, .u8, .rw, .int 3, true, .int 1 16, .nextCommit⟩,
  ⟨"PIE_OFFPLAN_TOL", 0x4010, 4, 0x100, 5, 1, .u8, .rw, .int 8, true, .int 0 255, .nextCommit⟩,
  ⟨"PIE_BIST_PERIOD", 0x4010, 4, 0x100, 6, 1, .u16, .rw, .int 10, true, .int 1 1000, .nextCommit⟩,
  ⟨"PIE_GRAPH_ID", 0x4020, 4, 0x100, 1, 1, .u32, .ro, .int 0, false, .any, .immediate⟩,
  ⟨"PIE_GRAPH_CHECK", 0x4020, 4, 0x100, 2, 1, .u32, .ro, .int 0, false, .any, .immediate⟩,
  ⟨"PIE_INSTANCE_COUNT", 0x4020, 4, 0x100, 3, 1, .u16, .ro, .int 0, false, .any, .immediate⟩,
  ⟨"PIE_WCET_CRIT", 0x4020, 4, 0x100, 4, 1, .u32, .ro, .int 0, false, .any, .immediate⟩,
  ⟨"PIE_WCET_TOTAL", 0x4020, 4, 0x100, 5, 1, .u32, .ro, .int 0, false, .any, .immediate⟩,
  ⟨"PIE_SAMPLE_COUNT", 0x4030, 4, 0x100, 1, 1, .u64, .ro, .int 0, false, .any, .immediate⟩,
  ⟨"PIE_OVERRUN_COUNT", 0x4030, 4, 0x100, 2, 1, .u32, .ro, .int 0, false, .any, .immediate⟩,
  ⟨"PIE_OVERRUN_RUN", 0x4030, 4, 0x100, 3, 1, .u8, .ro, .int 0, false, .any, .immediate⟩,
  ⟨"PIE_POST_OVERRUN_COUNT", 0x4030, 4, 0x100, 4, 1, .u32, .ro, .int 0, false, .any, .immediate⟩,
  ⟨"PIE_MAX_CRIT", 0x4030, 4, 0x100, 5, 1, .u32, .ro, .int 0, false, .any, .immediate⟩,
  ⟨"PIE_MAX_TOTAL", 0x4030, 4, 0x100, 6, 1, .u32, .ro, .int 0, false, .any, .immediate⟩,
  ⟨"PIE_LOAD", 0x4030, 4, 0x100, 7, 1, .real, .ro, .real 0, false, .any, .immediate⟩,
  ⟨"PIE_OFFPLAN_COUNT", 0x4030, 4, 0x100, 8, 1, .u32, .ro, .int 0, false, .any, .immediate⟩,
  ⟨"PIE_ECC_CORRECTED", 0x4030, 4, 0x100, 9, 1, .u32, .ro, .int 0, false, .any, .immediate⟩,
  ⟨"PIE_LAST_COMMIT", 0x4030, 4, 0x100, 10, 1, .u32, .ro, .int 0, false, .any, .immediate⟩,
  ⟨"PIE_SELFTEST", 0x4040, 4, 0x100, 0, 1, .u8, .wo, .int 0, false, .oneOf [1], .refused⟩]

def objPage44Part0 : List ObjRow := [
  ⟨"EDG_STATUS", 0x4400, 1, 0x0, 0, 1, .u32, .ro, .int 0, false, .any, .immediate⟩,
  ⟨"EDG_RAW_ENABLE", 0x4401, 1, 0x0, 1, 1, .bool, .rw, .int 0, false, .int 0 1, .refused⟩,
  ⟨"EDG_RAW_HIGH", 0x4401, 1, 0x0, 2, 1, .u32, .rw, .int 0, false, .int 0 0xFFFFFF, .refused⟩,
  ⟨"EDG_RAW_LOW", 0x4401, 1, 0x0, 3, 1, .u32, .rw, .int 0, false, .int 0 0xFFFFFF, .refused⟩,
  ⟨"EDG_TB_PERIOD", 0x4410, 8, 0x1, 1, 1, .u32, .rw, .int 25600, true, .int 820 409600, .refused⟩,
  ⟨"EDG_TB_MODE", 0x4410, 8, 0x1, 2, 1, .u8, .rw, .int 1, true, .int 0 1, .refused⟩,
  ⟨"EDG_TB_SAMPLE", 0x4410, 8, 0x1, 3, 1, .u8, .rw, .int 1, true, .int 0 2, .refused⟩,
  ⟨"EDG_TB_OFFSET", 0x4410, 8, 0x1, 4, 1, .u32, .rw, .int 0, true, .any, .refused⟩,
  ⟨"EDG_TB_LATE", 0x4410, 8, 0x1, 5, 1, .u32, .ro, .int 0, false, .any, .immediate⟩,
  ⟨"EDG_TB_NEXT_ZERO", 0x4410, 8, 0x1, 6, 1, .u64, .ro, .int 0, false, .any, .immediate⟩,
  ⟨"EDG_TB_CMD_CODE", 0x4418, 1, 0x0, 1, 1, .u16, .wo, .int 0, false, .any, .immediate⟩,
  ⟨"EDG_TB_CMD_VALUE", 0x4418, 1, 0x0, 2, 1, .i32, .wo, .int 0, false, .any, .immediate⟩,
  ⟨"EDG_TB_CMD_INSTANT", 0x4418, 1, 0x0, 3, 1, .u64, .wo, .int 0, false, .any, .immediate⟩,
  ⟨"EDG_CH_CFG", 0x4420, 24, 0x1, 1, 1, .u32, .rw, .int 143, true, .any, .byField⟩,
  ⟨"EDG_CH_DEADTIME", 0x4420, 24, 0x1, 2, 1, .u32, .rw, .int 16384, true, .int 0 104858, .nextCommit⟩,
  ⟨"EDG_CH_MIN_PULSE", 0x4420, 24, 0x1, 3, 1, .u32, .rw, .int 0, true, .int 0 131072, .nextCommit⟩,
  ⟨"EDG_CH_TRIG_DELAY", 0x4420, 24, 0x1, 4, 4, .u16, .rw, .int 0, true, .int 0 8192, .nextCommit⟩,
  ⟨"EDG_CH_STATIC", 0x4420, 24, 0x1, 8, 4, .u32, .rw, .int 0, true, .any, .nextCommit⟩,
  ⟨"EDG_CH_STATIC_CTRL", 0x4420, 24, 0x1, 12, 1, .u32, .rw, .int 0, true, .any, .nextCommit⟩,
  ⟨"EDG_CH_LATE", 0x4420, 24, 0x1, 13, 1, .u32, .ro, .int 0, false, .any, .immediate⟩,
  ⟨"EDG_CH_GUARD_COUNT", 0x4420, 24, 0x1, 14, 1, .u32, .ro, .int 0, false, .any, .immediate⟩,
  ⟨"EDG_CH_REMOVED", 0x4420, 24, 0x1, 15, 1, .u32, .ro, .int 0, false, .any, .immediate⟩,
  ⟨"EDG_CH_CLIPPED", 0x4420, 24, 0x1, 16, 1, .u32, .ro, .int 0, false, .any, .immediate⟩,
  ⟨"EDG_CH_STATUS", 0x4420, 24, 0x1, 17, 1, .u32, .ro, .int 0, false, .any, .immediate⟩]

def objPage44Part1 : List ObjRow := [
  ⟨"EDG_ROUTE", 0x4440, 1, 0x0, 1, 28, .u8, .rw, .int 0, true, .route, .refused⟩,
  ⟨"EDG_EXT_TRIP_CFG", 0x4450, 1, 0x0, 1, 8, .u16, .rw, .int 20, true, .int 0 201, .refused⟩,
  ⟨"EDG_SRC_ACTIVE", 0x4451, 1, 0x0, 1, 3, .u32, .ro, .int 0, false, .any, .immediate⟩,
  ⟨"EDG_SRC_HOME", 0x4452, 1, 0x0, 1, 76, .u8, .rw, .int 0, true, .int 0 24, .refused⟩,
  ⟨"EDG_TRG_CFG", 0x4460, 8, 0x1, 1, 1, .u32, .rw, .int 65792, true, .any, .byField⟩,
  ⟨"EDG_TRG_SRC", 0x4460, 8, 0x1, 2, 3, .u32, .rw, .int 0, true, .any, .refused⟩,
  ⟨"EDG_TRG_CHANNELS", 0x4460, 8, 0x1, 5, 1, .u32, .rw, .int 0, true, .int 0 0xFFFFFF, .refused⟩,
  ⟨"EDG_TRG_BLANK", 0x4460, 8, 0x1, 6, 3, .u32, .rw, .int 0, true, .any, .refused⟩,
  ⟨"EDG_TRG_STATUS", 0x4460, 8, 0x1, 9, 1, .u32, .ro, .int 0, false, .any, .immediate⟩,
  ⟨"EDG_TRG_PERIODS", 0x4460, 8, 0x1, 10, 1, .u32, .ro, .int 0, false, .any, .immediate⟩,
  ⟨"EDG_TRG_LATCH_TIME", 0x4460, 8, 0x1, 11, 1, .u64, .ro, .int 0, false, .any, .immediate⟩,
  ⟨"EDG_TRG_LATCH_SRC", 0x4460, 8, 0x1, 12, 1, .u8, .ro, .int 0, false, .any, .immediate⟩,
  ⟨"EDG_TRG_CMD", 0x4460, 8, 0x1, 13, 1, .u8, .wo, .int 0, false, .oneOf [1], .immediate⟩]

def objPage44 : List ObjRow := objPage44Part0 ++ objPage44Part1

def objPage48Part0 : List ObjRow := [
  ⟨"GDV_STATUS", 0x4800, 1, 0x0, 0, 1, .u32, .ro, .int 0, false, .any, .immediate⟩,
  ⟨"GDV_RAIL_V", 0x4801, 1, 0x0, 0, 1, .real, .ro, .real 0, false, .any, .immediate⟩,
  ⟨"GDV_DIE_GUARD", 0x4802, 1, 0x0, 1, 6, .u16, .rw, .int 100, true, .int 100 2000, .nextModeChange⟩,
  ⟨"GDV_SAFE_PATTERN", 0x4803, 1, 0x0, 0, 1, .u16, .ro, .int 0, false, .any, .immediate⟩,
  ⟨"GDV_CH_CFG", 0x4810, 12, 0x1, 1, 1, .u32, .rw, .int 1, true, .any, .byField⟩,
  ⟨"GDV_CH_VON", 0x4810, 12, 0x1, 2, 1, .u16, .rw, .int 150, true, .int 150 200, .nextModeChange⟩,
  ⟨"GDV_CH_VOFF", 0x4810, 12, 0x1, 3, 1, .i16, .rw, .int (-50), true, .int (-80) (-20), .nextModeChange⟩,
  ⟨"GDV_DESAT_V", 0x4810, 12, 0x1, 4, 1, .u16, .rw, .int 70, true, .int 30 100, .nextCommit⟩,
  ⟨"GDV_DESAT_BLANK", 0x4810, 12, 0x1, 5, 1, .u16, .rw, .int 1000, true, .step 300 5000 10, .nextCommit⟩,
  ⟨"GDV_STO_LEVEL", 0x4810, 12, 0x1, 6, 1, .u16, .rw, .int 90, true, .int 70 120, .nextCommit⟩,
  ⟨"GDV_STO_TIME", 0x4810, 12, 0x1, 7, 1, .u16, .rw, .int 2000, true, .step 500 5000 10, .nextCommit⟩,
  ⟨"GDV_CH_QG", 0x4810, 12, 0x1, 8, 1, .u16, .rw, .int 1000, true, .int 0 5000, .nextCommit⟩,
  ⟨"GDV_CH_STATUS", 0x4810, 12, 0x1, 9, 1, .u32, .ro, .int 0, false, .any, .immediate⟩,
  ⟨"GDV_DESAT_COUNT", 0x4810, 12, 0x1, 10, 1, .u32, .ro, .int 0, true, .any, .immediate⟩,
  ⟨"GDV_CH_CMD", 0x4810, 12, 0x1, 11, 1, .u8, .wo, .int 0, false, .oneOf [1], .immediate⟩,
  ⟨"GDV_BS_C", 0x4830, 4, 0x1, 1, 1, .u16, .rw, .int 47, true, .int 1 1000, .nextCommit⟩,
  ⟨"GDV_BS_I_HS", 0x4830, 4, 0x1, 2, 1, .u16, .rw, .int 80, true, .int 0 500, .nextCommit⟩,
  ⟨"GDV_BS_I_LK", 0x4830, 4, 0x1, 3, 1, .u16, .rw, .int 5, true, .int 0 500, .nextCommit⟩,
  ⟨"GDV_BS_I_CH", 0x4830, 4, 0x1, 4, 1, .u16, .rw, .int 1000, true, .int 100 20000, .nextCommit⟩,
  ⟨"GDV_BS_V_FULL", 0x4830, 4, 0x1, 5, 1, .u16, .rw, .int 16300, true, .int 10000 20000, .nextCommit⟩,
  ⟨"GDV_BS_V_MIN", 0x4830, 4, 0x1, 6, 1, .u16, .rw, .int 14000, true, .int 8000 19000, .nextCommit⟩,
  ⟨"GDV_BS_REFRESH", 0x4830, 4, 0x1, 7, 1, .u16, .rw, .int 1200, true, .int 1200 10000, .nextCommit⟩,
  ⟨"GDV_BS_FORECAST", 0x4830, 4, 0x1, 8, 1, .real, .ro, .real 0, false, .any, .immediate⟩,
  ⟨"GDV_BS_REFRESHES", 0x4830, 4, 0x1, 9, 1, .u32, .ro, .int 0, false, .any, .immediate⟩]

def objPage48Part1 : List ObjRow := [
  ⟨"GDV_DIAG_SENSE", 0x4840, 4, 0x1, 1, 4, .u8, .rw, .int 0, true, .int 0 24, .nextModeChange⟩,
  ⟨"GDV_DIAG_RESULT", 0x4840, 4, 0x1, 5, 1, .u16, .ro, .int 0, false, .any, .immediate⟩,
  ⟨"GDV_DIAG_SWING", 0x4840, 4, 0x1, 6, 1, .u16, .rw, .int 1000, true, .int 100 10000, .nextModeChange⟩,
  ⟨"GDV_DIAG_FOLLOW", 0x4840, 4, 0x1, 7, 1, .u8, .rw, .int 25, true, .int 0 90, .nextModeChange⟩,
  ⟨"GDV_DIAG_GAIN", 0x4840, 4, 0x1, 8, 1, .real, .rw, .real 100, true, .real 1 1000, .nextModeChange⟩,
  ⟨"GDV_DIAG_CMD", 0x4840, 4, 0x1, 9, 1, .u8, .wo, .int 0, false, .oneOf [1], .refused⟩,
  ⟨"GDV_PORT_CFG", 0x4850, 8, 0x1, 1, 1, .u32, .rw, .int 2, true, .any, .byField⟩,
  ⟨"GDV_PORT_STATUS", 0x4850, 8, 0x1, 2, 1, .u32, .ro, .int 0, false, .any, .immediate⟩,
  ⟨"GDV_PORT_LAST_CODE", 0x4850, 8, 0x1, 3, 1, .u8, .ro, .int 0, false, .any, .immediate⟩,
  ⟨"GDV_PORT_FAULTS", 0x4850, 8, 0x1, 4, 1, .u32, .ro, .int 0, true, .any, .immediate⟩,
  ⟨"GDV_PORT_ACK_MISSING", 0x4850, 8, 0x1, 5, 1, .u32, .ro, .int 0, false, .any, .immediate⟩,
  ⟨"GDV_PORT_CMD", 0x4850, 8, 0x1, 6, 1, .u8, .wo, .int 0, false, .oneOf [1], .immediate⟩]

def objPage48 : List ObjRow := objPage48Part0 ++ objPage48Part1

def objPage4CPart0 : List ObjRow := [
  ⟨"ACQ_STATUS", 0x4C00, 1, 0x0, 0, 1, .u32, .ro, .int 0, false, .any, .immediate⟩,
  ⟨"ACQ_CMD", 0x4C01, 1, 0x0, 0, 1, .u16, .wo, .int 0, false, .any, .immediate⟩,
  ⟨"ACQ_TRACK_LIMIT", 0x4C02, 1, 0x0, 0, 1, .u16, .rw, .int 30, true, .int 5 200, .nextCommit⟩,
  ⟨"ACQ_TMR_PERIOD", 0x4C03, 1, 0x0, 1, 4, .u32, .rw, .int 25600, true, .int 64 16777216, .refused⟩,
  ⟨"ACQ_TMR_OFFSET", 0x4C04, 1, 0x0, 1, 4, .u32, .rw, .int 0, true, .any, .refused⟩,
  ⟨"ACQ_BURDEN_R", 0x4C05, 1, 0x0, 1, 12, .real, .const, .moduleReal, false, .any, .immediate⟩,
  ⟨"ACQ_CH_CFG", 0x4C10, 24, 0x1, 1, 1, .u32, .rw, .int 64, true, .any, .byField⟩,
  ⟨"ACQ_CH_START", 0x4C10, 24, 0x1, 2, 1, .u16, .rw, .int 15, true, .acqStart, .nextCommit⟩,
  ⟨"ACQ_CH_DELAY", 0x4C10, 24, 0x1, 3, 1, .u16, .rw, .int 0, true, .int 0 8192, .nextCommit⟩,
  ⟨"ACQ_CAL_OFFSET", 0x4C10, 24, 0x1, 4, 1, .i32, .ro, .int 0, true, .any, .immediate⟩,
  ⟨"ACQ_CAL_GAIN", 0x4C10, 24, 0x1, 5, 1, .real, .ro, .real 1.0, true, .any, .immediate⟩,
  ⟨"ACQ_CH_SUBST", 0x4C10, 24, 0x1, 6, 1, .u16, .rw, .int 0, true, .acqSubst, .refused⟩,
  ⟨"ACQ_SUBST_GAIN", 0x4C10, 24, 0x1, 7, 1, .real, .rw, .real 1.0, true, .real (-10) 10, .refused⟩,
  ⟨"ACQ_CMP_HI", 0x4C10, 24, 0x1, 8, 1, .i16, .rw, .int 32767, true, .any, .nextCommit⟩,
  ⟨"ACQ_CMP_LO", 0x4C10, 24, 0x1, 9, 1, .i16, .rw, .int (-32768), true, .any, .nextCommit⟩,
  ⟨"ACQ_CMP_HYST", 0x4C10, 24, 0x1, 10, 1, .u16, .rw, .int 164, true, .int 0 655, .nextCommit⟩,
  ⟨"ACQ_CMP_FILTER", 0x4C10, 24, 0x1, 11, 1, .u8, .rw, .int 0, true, .int 0 10, .nextCommit⟩,
  ⟨"ACQ_CH_VALUE", 0x4C10, 24, 0x1, 12, 1, .real, .ro, .real 0, false, .any, .immediate⟩,
  ⟨"ACQ_CH_STATUS", 0x4C10, 24, 0x1, 13, 1, .u16, .ro, .int 0, false, .any, .immediate⟩,
  ⟨"ACQ_TRACK_DRIFT", 0x4C10, 24, 0x1, 14, 1, .real, .ro, .real 0, false, .any, .immediate⟩,
  ⟨"ACQ_DIAG_ERROR", 0x4C10, 24, 0x1, 15, 1, .real, .ro, .real 0, false, .any, .immediate⟩,
  ⟨"ACQ_OVERRANGE_COUNT", 0x4C10, 24, 0x1, 16, 1, .u32, .ro, .int 0, false, .any, .immediate⟩,
  ⟨"ACQ_START_OVERLAP", 0x4C10, 24, 0x1, 17, 1, .u32, .ro, .int 0, false, .any, .immediate⟩,
  ⟨"ACQ_SD_CFG", 0x4C40, 8, 0x1, 1, 1, .u8, .rw, .int 0, true, .any, .byField⟩]

def objPage4CPart1 : List ObjRow := [
  ⟨"ACQ_SD_CLK_DIV", 0x4C40, 8, 0x1, 2, 1, .u16, .rw, .int 16, true, .int 16 256, .refused⟩,
  ⟨"ACQ_SD_STATUS", 0x4C40, 8, 0x1, 3, 1, .u8, .ro, .int 0, false, .any, .immediate⟩,
  ⟨"ACQ_FC_CFG", 0x4C60, 16, 0x1, 1, 1, .u32, .rw, .int 49266688, true, .any, .byField⟩,
  ⟨"ACQ_FC_SHIFT", 0x4C60, 16, 0x1, 2, 1, .u32, .rw, .int 0, true, .fcShift, .nextCommit⟩,
  ⟨"ACQ_FC_FADE", 0x4C60, 16, 0x1, 3, 1, .u8, .rw, .int 8, true, .int 1 64, .nextCommit⟩,
  ⟨"ACQ_FC_SWITCH", 0x4C60, 16, 0x1, 4, 1, .u64, .wo, .int 0, false, .any, .immediate⟩,
  ⟨"ACQ_FC_DELAY", 0x4C60, 16, 0x1, 5, 1, .u32, .ro, .int 0, false, .any, .immediate⟩,
  ⟨"ACQ_FC_LATENCY", 0x4C60, 16, 0x1, 6, 1, .u8, .ro, .int 112, false, .any, .immediate⟩,
  ⟨"ACQ_FC_UNSETTLED", 0x4C60, 16, 0x1, 7, 1, .u16, .ro, .int 0, false, .any, .immediate⟩,
  ⟨"ACQ_FC_VALUE", 0x4C60, 16, 0x1, 8, 1, .real, .ro, .real 0, false, .any, .immediate⟩,
  ⟨"ACQ_FC_STATUS", 0x4C60, 16, 0x1, 9, 1, .u16, .ro, .int 0, false, .any, .immediate⟩,
  ⟨"ACQ_FC_RATE", 0x4C60, 16, 0x1, 10, 1, .real, .ro, .real 0, false, .any, .immediate⟩]

def objPage4C : List ObjRow := objPage4CPart0 ++ objPage4CPart1

def objPage4D : List ObjRow := [
  ⟨"ACQ_FC_COEF", 0x4D00, 32, 0x1, 1, 64, .i32, .rw, .int 0, true, .int (-131072) 131071, .immediate⟩]

def objPage50 : List ObjRow := [
  ⟨"GAL_CONFIG", 0x5000, 4, 0x40, 0, 1, .u32, .rw, .int 0, true, .any, .byField⟩,
  ⟨"GAL_STATUS", 0x5001, 4, 0x40, 0, 1, .u32, .ro, .int 0, false, .any, .immediate⟩,
  ⟨"GAL_NODE", 0x5002, 4, 0x40, 1, 64, .u32, .rw, .int 0, true, .galNode, .nextCommit⟩,
  ⟨"GAL_COND", 0x5003, 4, 0x40, 1, 64, .u16, .rw, .int 0, true, .any, .byField⟩,
  ⟨"GAL_COND_LEVEL", 0x5004, 4, 0x40, 1, 64, .real, .rw, .real 0, true, .finite, .nextCommit⟩,
  ⟨"GAL_COND_HYST", 0x5005, 4, 0x40, 1, 64, .real, .rw, .real 0, true, .nonneg, .nextCommit⟩,
  ⟨"GAL_TRG_MASK", 0x5006, 4, 0x40, 0, 1, .u64, .rw, .int 0, true, .any, .nextCommit⟩,
  ⟨"GAL_TRG_PATTERN", 0x5007, 4, 0x40, 0, 1, .u64, .rw, .int 0, true, .any, .nextCommit⟩,
  ⟨"GAL_TRG_HOLDOFF", 0x5008, 4, 0x40, 0, 1, .u32, .rw, .int 1000, true, .int 1 16777216, .nextCommit⟩,
  ⟨"GAL_MARK_K", 0x5009, 4, 0x40, 1, 1, .u32, .ro, .int 0, false, .any, .immediate⟩,
  ⟨"GAL_MARK_FRAC", 0x5009, 4, 0x40, 2, 1, .u8, .ro, .int 0, false, .any, .immediate⟩,
  ⟨"GAL_MARK_TIME", 0x5009, 4, 0x40, 3, 1, .u64, .ro, .int 0, false, .any, .immediate⟩,
  ⟨"GAL_MARK_COUNT", 0x5009, 4, 0x40, 4, 1, .u32, .ro, .int 0, false, .any, .immediate⟩,
  ⟨"GAL_DEST_IP", 0x500A, 4, 0x40, 1, 1, .u32, .rw, .int 0, true, .any, .nextCommit⟩,
  ⟨"GAL_DEST_UDP", 0x500A, 4, 0x40, 2, 1, .u16, .rw, .int 50000, true, .int 1024 65535, .nextCommit⟩,
  ⟨"GAL_DEST_PORT", 0x500A, 4, 0x40, 3, 1, .u8, .rw, .int 3, true, .oneOf [3, 4], .nextCommit⟩,
  ⟨"GAL_READ_K", 0x500B, 4, 0x40, 1, 1, .u32, .wo, .int 0, false, .any, .immediate⟩,
  ⟨"GAL_READ_DATA", 0x500B, 4, 0x40, 2, 1, .domain, .ro, .bytes [], false, .any, .immediate⟩,
  ⟨"GAL_DEPTH", 0x500C, 4, 0x40, 1, 1, .u32, .ro, .int 0, false, .any, .immediate⟩,
  ⟨"GAL_RECORDS", 0x500C, 4, 0x40, 2, 1, .u32, .ro, .int 0, false, .any, .immediate⟩,
  ⟨"GAL_DATAGRAMS", 0x500C, 4, 0x40, 3, 1, .u32, .ro, .int 0, false, .any, .immediate⟩,
  ⟨"GAL_DROPPED", 0x500C, 4, 0x40, 4, 1, .u32, .ro, .int 0, false, .any, .immediate⟩,
  ⟨"GAL_WIRE_RATE", 0x500C, 4, 0x40, 5, 1, .real, .ro, .real 0, false, .any, .immediate⟩]

def objPage51 : List ObjRow := [
  ⟨"LGC_STATUS", 0x5100, 1, 0x0, 0, 1, .u32, .ro, .int 0, false, .any, .immediate⟩,
  ⟨"LGC_CMD", 0x5101, 1, 0x0, 0, 1, .u16, .wo, .int 0, false, .any, .immediate⟩,
  ⟨"LGC_CMD_INSTANT", 0x5102, 1, 0x0, 0, 1, .u64, .wo, .int 0, false, .any, .immediate⟩,
  ⟨"LGC_CYCLE_PERIOD", 0x5110, 1, 0x0, 1, 1, .u16, .rw, .int 10, true, .int 1 1000, .nextCommit⟩,
  ⟨"LGC_IDLE_MIN", 0x5110, 1, 0x0, 2, 1, .u8, .rw, .int 10, true, .int 10 50, .nextCommit⟩,
  ⟨"LGC_OVERRUN_LIMIT", 0x5110, 1, 0x0, 3, 1, .u8, .rw, .int 3, true, .int 1 16, .nextCommit⟩,
  ⟨"LGC_PROG_ID", 0x5120, 1, 0x0, 1, 1, .u32, .ro, .int 0, false, .any, .immediate⟩,
  ⟨"LGC_PROG_CHECK", 0x5120, 1, 0x0, 2, 1, .u32, .ro, .int 0, false, .any, .immediate⟩,
  ⟨"LGC_WCET_BUSY", 0x5120, 1, 0x0, 3, 1, .u32, .ro, .int 0, false, .any, .immediate⟩,
  ⟨"LGC_STAGED_ID", 0x5120, 1, 0x0, 4, 1, .u32, .ro, .int 0, false, .any, .immediate⟩,
  ⟨"LGC_STAGE_DATA", 0x5120, 1, 0x0, 5, 1, .domain, .wo, .bytes [], false, .any, .immediate⟩,
  ⟨"LGC_CYCLE_COUNT", 0x5130, 1, 0x0, 1, 1, .u64, .ro, .int 0, false, .any, .immediate⟩,
  ⟨"LGC_LT", 0x5130, 1, 0x0, 2, 1, .u64, .ro, .int 0, false, .any, .immediate⟩,
  ⟨"LGC_PERIOD_IN_FORCE", 0x5130, 1, 0x0, 3, 1, .u16, .ro, .int 0, false, .any, .immediate⟩,
  ⟨"LGC_MAX_BUSY", 0x5130, 1, 0x0, 4, 1, .u32, .ro, .int 0, false, .any, .immediate⟩,
  ⟨"LGC_OVERRUN_COUNT", 0x5130, 1, 0x0, 5, 1, .u32, .ro, .int 0, false, .any, .immediate⟩,
  ⟨"LGC_OVERRUN_RUN", 0x5130, 1, 0x0, 6, 1, .u8, .ro, .int 0, false, .any, .immediate⟩,
  ⟨"LGC_LOAD", 0x5130, 1, 0x0, 7, 1, .real, .ro, .real 0, false, .any, .immediate⟩,
  ⟨"LGC_RETAIN_LAG", 0x5130, 1, 0x0, 8, 1, .u32, .ro, .int 0, false, .any, .immediate⟩,
  ⟨"LGC_PEEK_TAG", 0x5140, 1, 0x0, 1, 1, .u32, .wo, .int 0, false, .int 0 131071, .immediate⟩,
  ⟨"LGC_PEEK_VALUE", 0x5140, 1, 0x0, 2, 1, .u64, .ro, .int 0, false, .any, .immediate⟩,
  ⟨"LGC_PEEK_TYPE", 0x5140, 1, 0x0, 3, 1, .u16, .ro, .int 0, false, .any, .immediate⟩,
  ⟨"LGC_PEEK_QUALITY", 0x5140, 1, 0x0, 4, 1, .u8, .ro, .int 0, false, .any, .immediate⟩,
  ⟨"LGC_PEEK_BINDING", 0x5140, 1, 0x0, 5, 1, .u8, .ro, .int 0, false, .any, .immediate⟩]

def objPage52 : List ObjRow := [
  ⟨"LGC_STN_ID", 0x5200, 64, 0x1, 1, 1, .u32, .ro, .int 0, false, .any, .immediate⟩,
  ⟨"LGC_STN_TIMEOUT", 0x5200, 64, 0x1, 2, 1, .u16, .rw, .int 30, true, .int 5 10000, .nextCommit⟩,
  ⟨"LGC_STN_STATE", 0x5200, 64, 0x1, 3, 1, .u8, .ro, .int 0, false, .any, .immediate⟩,
  ⟨"LGC_STN_DROPS", 0x5200, 64, 0x1, 4, 1, .u32, .ro, .int 0, false, .any, .immediate⟩,
  ⟨"LGC_STN_LAST_RX", 0x5200, 64, 0x1, 5, 1, .u64, .ro, .int 0, false, .any, .immediate⟩]

def objPage54 : List ObjRow := [
  ⟨"NET_STATUS", 0x5400, 1, 0x0, 0, 1, .u32, .ro, .int 1, false, .any, .immediate⟩,
  ⟨"NET_OWNER_CLAIM", 0x5401, 1, 0x0, 1, 1, .u16, .wo, .int 0, false, .any, .immediate⟩,
  ⟨"NET_OWNER", 0x5401, 1, 0x0, 2, 1, .u16, .ro, .int 0, false, .any, .immediate⟩,
  ⟨"NET_OWNER_TIMEOUT", 0x5401, 1, 0x0, 3, 1, .u16, .rw, .int 2000, true, .int 100 60000, .immediate⟩,
  ⟨"NET_SVC_CHALLENGE", 0x5402, 1, 0x0, 1, 1, .domain, .ro, .bytes [], false, .any, .immediate⟩,
  ⟨"NET_SVC_RESPONSE", 0x5402, 1, 0x0, 2, 1, .domain, .wo, .bytes [], false, .any, .immediate⟩,
  ⟨"NET_SVC_TIMEOUT", 0x5402, 1, 0x0, 3, 1, .u16, .rw, .int 600, true, .int 10 3600, .immediate⟩,
  ⟨"NET_SVC_KEY_ID", 0x5402, 1, 0x0, 4, 1, .u32, .ro, .int 0, false, .any, .immediate⟩,
  ⟨"NET_PDO_PORT", 0x5410, 1, 0x0, 1, 32, .u8, .rw, .int 0, true, .int 0 2, .refused⟩,
  ⟨"NET_CAN_CFG", 0x5420, 1, 0x0, 1, 2, .u16, .rw, .int 3, true, .any, .byField⟩,
  ⟨"NET_CAN_STATE", 0x5421, 1, 0x0, 1, 2, .u8, .ro, .int 0, false, .any, .immediate⟩,
  ⟨"NET_IP_ADDR", 0x5430, 1, 0x0, 1, 3, .u32, .rw, .int 0, true, .any, .refused⟩,
  ⟨"NET_IP_MASK", 0x5431, 1, 0x0, 1, 3, .u32, .rw, .int 4294901760, true, .ipMask, .refused⟩,
  ⟨"NET_IP_GATEWAY", 0x5432, 1, 0x0, 1, 3, .u32, .rw, .int 0, true, .any, .refused⟩,
  ⟨"NET_PORT_CFG", 0x5433, 1, 0x0, 1, 4, .u8, .rw, .int 5, true, .any, .byField⟩,
  ⟨"NET_SVC_UDP", 0x5440, 1, 0x0, 1, 1, .u16, .rw, .int 47210, true, .int 1024 65535, .refused⟩,
  ⟨"NET_SESSION_TIMEOUT", 0x5440, 1, 0x0, 2, 1, .u32, .rw, .int 10000, true, .int 1000 600000, .immediate⟩,
  ⟨"NET_SESSIONS", 0x5441, 1, 0x0, 0, 1, .u8, .ro, .int 0, false, .any, .immediate⟩,
  ⟨"NET_WRITES_LOST", 0x5460, 1, 0x0, 1, 1, .u32, .ro, .int 0, false, .any, .immediate⟩,
  ⟨"NET_ABORTS", 0x5460, 1, 0x0, 2, 1, .u32, .ro, .int 0, false, .any, .immediate⟩,
  ⟨"NET_DUP_DISCARDED", 0x5460, 1, 0x0, 3, 1, .u32, .ro, .int 0, false, .any, .immediate⟩,
  ⟨"NET_LATE_TX", 0x5460, 1, 0x0, 4, 1, .u32, .ro, .int 0, false, .any, .immediate⟩,
  ⟨"NET_LAST_ABORT", 0x5470, 1, 0x0, 0, 1, .u64, .ro, .int 0, false, .any, .immediate⟩]

def objPage58Part0 : List ObjRow := [
  ⟨"SAF_STATUS", 0x5800, 1, 0x0, 0, 1, .u32, .ro, .int 0, false, .any, .immediate⟩,
  ⟨"SAF_CMD", 0x5801, 1, 0x0, 0, 1, .u16, .wo, .int 0, false, .any, .immediate⟩,
  ⟨"SAF_CONFIG_CRC", 0x5802, 1, 0x0, 0, 1, .u32, .ro, .int 0, false, .any, .immediate⟩,
  ⟨"SAF_RUN_HOURS", 0x5803, 1, 0x0, 0, 1, .u32, .ro, .int 0, false, .any, .immediate⟩,
  ⟨"SAF_COVER_INPUT", 0x5810, 1, 0x0, 1, 1, .u8, .rw, .int 1, true, .int 1 16, .refused⟩,
  ⟨"SAF_PROOF_WINDOW", 0x5810, 1, 0x0, 2, 1, .u16, .rw, .int 168, true, .int 1 720, .refused⟩,
  ⟨"SAF_ABSENCE", 0x5810, 1, 0x0, 3, 1, .u32, .ro, .int 0, false, .any, .immediate⟩,
  ⟨"SAF_STOP_INPUT", 0x5810, 1, 0x0, 4, 1, .u8, .rw, .int 0, true, .int 0 16, .refused⟩,
  ⟨"SAF_UDP", 0x5810, 1, 0x0, 5, 1, .u16, .rw, .int 47212, true, .int 1024 65535, .refused⟩,
  ⟨"SAF_UNKNOWN_ID", 0x5810, 1, 0x0, 6, 1, .u32, .ro, .int 0, false, .any, .immediate⟩,
  ⟨"SAF_STAGE_CFG", 0x5820, 4, 0x1, 1, 1, .u32, .rw, .int 0, true, .any, .byField⟩,
  ⟨"SAF_SSD_RAMP", 0x5820, 4, 0x1, 2, 1, .u16, .rw, .int 500, true, .int 10 10000, .refused⟩,
  ⟨"SAF_SSD_BAND", 0x5820, 4, 0x1, 3, 1, .u16, .rw, .int 100, true, .int 20 300, .refused⟩,
  ⟨"SAF_SSD_END", 0x5820, 4, 0x1, 4, 1, .u16, .rw, .int 50, true, .int 10 200, .refused⟩,
  ⟨"SAF_SSD_TAIL", 0x5820, 4, 0x1, 5, 1, .u16, .rw, .int 100, true, .int 10 5000, .refused⟩,
  ⟨"SAF_SSD_CH", 0x5820, 4, 0x1, 6, 3, .u8, .rw, .int 0, true, .int 0 24, .refused⟩,
  ⟨"SAF_SSD_BASE", 0x5820, 4, 0x1, 9, 1, .real, .rw, .real 1.0, true, .ssdBase, .refused⟩,
  ⟨"SAF_SSD_LIMIT", 0x5820, 4, 0x1, 10, 1, .u16, .rw, .int 65535, true, .intOr 0 4095 0xFFFF, .refused⟩,
  ⟨"SAF_SSD_VALUE", 0x5820, 4, 0x1, 11, 1, .real, .ro, .real 0, false, .any, .immediate⟩,
  ⟨"SAF_SSD_PIER_OUT", 0x5820, 4, 0x1, 12, 1, .u32, .rw, .int 4294967295, true, .pierOut, .refused⟩,
  ⟨"SAF_SOC_CFG", 0x5830, 4, 0x1, 1, 1, .u32, .rw, .int 7, true, .any, .byField⟩,
  ⟨"SAF_SOC_AUX", 0x5830, 4, 0x1, 2, 1, .u8, .rw, .int 0, true, .int 0 16, .refused⟩,
  ⟨"SAF_SOC_DISC", 0x5830, 4, 0x1, 3, 1, .u16, .rw, .int 200, true, .int 20 2000, .refused⟩,
  ⟨"SAF_SOC_PULSE", 0x5830, 4, 0x1, 4, 1, .u16, .rw, .int 300, true, .int 100 500, .refused⟩]

def objPage58Part1 : List ObjRow := [
  ⟨"SAF_SOC_TEST_PERIOD", 0x5830, 4, 0x1, 5, 1, .u16, .rw, .int 10, true, .int 1 600, .refused⟩,
  ⟨"SAF_SOC_PROOF", 0x5830, 4, 0x1, 6, 1, .u8, .rw, .int 24, true, .int 1 24, .refused⟩,
  ⟨"SAF_SOC_STATUS", 0x5830, 4, 0x1, 7, 1, .u16, .ro, .int 0, false, .any, .immediate⟩,
  ⟨"SAF_SOC_SINCE_PROOF", 0x5830, 4, 0x1, 8, 1, .u32, .ro, .int 0, false, .any, .immediate⟩,
  ⟨"SAF_SOC_OPERATIONS", 0x5830, 4, 0x1, 9, 1, .u32, .ro, .int 0, true, .any, .immediate⟩,
  ⟨"SAF_CONN_CFG", 0x5840, 16, 0x1, 1, 1, .u32, .rw, .int 128, true, .any, .byField⟩,
  ⟨"SAF_CONN_ID", 0x5840, 16, 0x1, 2, 1, .u32, .rw, .int 0, true, .int 1 0xFFFFFFFF, .refused⟩,
  ⟨"SAF_CONN_MAX_AGE", 0x5840, 16, 0x1, 3, 1, .u16, .rw, .int 20, true, .int 1 1000, .refused⟩,
  ⟨"SAF_CONN_PERIOD", 0x5840, 16, 0x1, 4, 1, .u16, .rw, .int 10, true, .int 1 500, .refused⟩,
  ⟨"SAF_CONN_MAX_LOSS", 0x5840, 16, 0x1, 5, 1, .u8, .rw, .int 2, true, .int 0 15, .refused⟩,
  ⟨"SAF_CONN_DEST", 0x5840, 16, 0x1, 6, 1, .u32, .rw, .int 0, true, .any, .refused⟩,
  ⟨"SAF_CONN_COB", 0x5840, 16, 0x1, 7, 1, .u32, .rw, .int 0, true, .any, .refused⟩,
  ⟨"SAF_CONN_STATUS", 0x5840, 16, 0x1, 8, 1, .u16, .ro, .int 0, false, .any, .immediate⟩,
  ⟨"SAF_CONN_REJECTED", 0x5840, 16, 0x1, 9, 1, .u32, .ro, .int 0, false, .any, .immediate⟩,
  ⟨"SAF_CONN_LAST_AGE", 0x5840, 16, 0x1, 10, 1, .real, .ro, .real 0, false, .any, .immediate⟩]

def objPage58 : List ObjRow := objPage58Part0 ++ objPage58Part1

/-- The rows of the block an index lies in. The stages' blocks (0x3000 to 0x3FFF, R8) share one list. -/
def objPage (idx : Nat) : List ObjRow :=
  let p := idx / 256
  if 0x30 ≤ p ∧ p < 0x40 then objPage30
  else if p = 0x10 then objPage10
  else if p = 0x12 then objPage12
  else if p = 0x14 then objPage14
  else if p = 0x16 then objPage16
  else if p = 0x18 then objPage18
  else if p = 0x1A then objPage1A
  else if p = 0x20 then objPage20
  else if p = 0x21 then objPage21
  else if p = 0x22 then objPage22
  else if p = 0x23 then objPage23
  else if p = 0x24 then objPage24
  else if p = 0x28 then objPage28
  else if 0x40 ≤ p ∧ p < 0x44 then objPage40
  else if p = 0x44 then objPage44
  else if p = 0x48 then objPage48
  else if p = 0x4C then objPage4C
  else if p = 0x4D then objPage4D
  else if p = 0x50 then objPage50
  else if p = 0x51 then objPage51
  else if p = 0x52 then objPage52
  else if p = 0x54 then objPage54
  else if p = 0x58 then objPage58
  else []

/-- Whether a row holds the object index:sub. -/
def ObjRow.holds (r : ObjRow) (idx sub : Nat) : Bool :=
  r.sub ≤ sub && sub < r.sub + r.subs &&
    (if r.step = 0 then idx == r.idx else r.idx ≤ idx && (idx - r.idx) % r.step == 0 && (idx - r.idx) / r.step < r.count)

/-- The row of index:sub; none where the tables define no such object (R9). -/
def objRow (idx sub : Nat) : Option ObjRow := (objPage idx).find? fun r => r.holds idx sub

/-- The replica number of an index within its row. -/
def ObjRow.replica (r : ObjRow) (idx : Nat) : Nat := if r.step = 0 then 0 else (idx - r.idx) / r.step

/-- The field maps (the spec's tables headed Bits, Field, Access, Reset, On write while running, Meaning) of the
writable objects whose rule is by field, or whose fields are limited outside the run modes. -/
def objFields (name : String) : List FieldRow :=
  match name with
  | "ACQ_CH_CFG" => [⟨0, 2, .refused, some (List.range 3)⟩,
      ⟨2, 2, .nextCommit, some (List.range 3)⟩,
      ⟨4, 1, .nextCommit, none⟩,
      ⟨5, 1, .nextCommit, none⟩,
      ⟨6, 1, .immediate, none⟩,
      ⟨7, 25, .refused, some [0]⟩]
  | "ACQ_FC_CFG" => [⟨0, 1, .nextCommit, none⟩,
      ⟨1, 5, .nextCommit, none⟩,
      ⟨6, 2, .nextCommit, none⟩,
      ⟨8, 4, .nextCommit, some (List.range 9)⟩,
      ⟨12, 2, .nextCommit, some (List.range 3)⟩,
      ⟨14, 6, .nextCommit, none⟩,
      ⟨20, 1, .nextCommit, none⟩,
      ⟨21, 4, .refused, none⟩,
      ⟨25, 2, .nextCommit, some (List.range 3)⟩,
      ⟨27, 1, .nextCommit, none⟩,
      ⟨28, 1, .nextCommit, none⟩,
      ⟨29, 3, .refused, some [0]⟩]
  | "ACQ_SD_CFG" => [⟨0, 1, .refused, none⟩,
      ⟨1, 2, .refused, some (List.range 3)⟩,
      ⟨3, 1, .refused, none⟩,
      ⟨4, 4, .refused, none⟩]
  | "CVU_CFG" => [⟨0, 7, .immediate, some ((List.range 65).drop 3)⟩,
      ⟨7, 1, .immediate, none⟩,
      ⟨8, 1, .immediate, none⟩,
      ⟨9, 1, .immediate, none⟩,
      ⟨10, 2, .immediate, none⟩,
      ⟨12, 2, .immediate, some (List.range 3)⟩,
      ⟨14, 1, .immediate, none⟩,
      ⟨15, 1, .refused, some [0]⟩,
      ⟨16, 8, .immediate, none⟩,
      ⟨24, 8, .refused, some [0]⟩]
  | "EDG_CH_CFG" => [⟨0, 4, .refused, some [0, 1, 2, 3, 4, 5, 6, 7, 15]⟩,
      ⟨4, 3, .refused, none⟩,
      ⟨7, 2, .refused, some (List.range 3)⟩,
      ⟨9, 1, .refused, none⟩,
      ⟨10, 22, .refused, some [0]⟩]
  | "EDG_TRG_CFG" => [⟨0, 1, .nextCommit, none⟩,
      ⟨1, 1, .refused, none⟩,
      ⟨2, 3, .refused, none⟩,
      ⟨5, 3, .refused, some [0]⟩,
      ⟨8, 8, .nextCommit, some ((List.range 256).drop 1)⟩,
      ⟨16, 8, .nextCommit, some ((List.range 256).drop 1)⟩,
      ⟨24, 5, .refused, some (List.range 25)⟩,
      ⟨29, 3, .refused, some [0]⟩]
  | "FIO_DI_CFG" => [⟨0, 1, .nextModeChange, none⟩,
      ⟨1, 1, .nextModeChange, none⟩,
      ⟨2, 6, .refused, some [0]⟩]
  | "FIO_DO_CFG" => [⟨0, 1, .immediate, none⟩,
      ⟨1, 7, .refused, some [0]⟩]
  | "FRT_CONFIG" => [⟨0, 2, .refused, some (List.range 3)⟩,
      ⟨2, 1, .nextCommit, none⟩,
      ⟨3, 2, .nextCommit, some (List.range 3)⟩,
      ⟨5, 1, .nextCommit, none⟩,
      ⟨6, 2, .nextCommit, some (List.range 3)⟩,
      ⟨8, 3, .refused, some (List.range 5)⟩,
      ⟨11, 21, .refused, some [0]⟩]
  | "GAL_COND" => [⟨0, 6, .nextCommit, none⟩,
      ⟨6, 3, .nextCommit, some (List.range 6)⟩,
      ⟨9, 4, .nextCommit, none⟩,
      ⟨13, 3, .refused, some [0]⟩]
  | "GAL_CONFIG" => [⟨0, 1, .immediate, none⟩,
      ⟨1, 1, .immediate, none⟩,
      ⟨2, 4, .nextCommit, some (List.range 9)⟩,
      ⟨6, 1, .immediate, none⟩,
      ⟨7, 1, .immediate, none⟩,
      ⟨8, 24, .refused, some [0]⟩]
  | "GDV_CH_CFG" => [⟨0, 1, .nextCommit, none⟩,
      ⟨1, 1, .refused, none⟩,
      ⟨2, 1, .refused, none⟩,
      ⟨3, 29, .refused, some [0]⟩]
  | "GDV_PORT_CFG" => [⟨0, 1, .refused, none⟩,
      ⟨1, 1, .nextModeChange, none⟩,
      ⟨2, 30, .refused, some [0]⟩]
  | "GFL_CONFIG" => [⟨0, 1, .refused, none⟩,
      ⟨1, 1, .refused, none⟩,
      ⟨2, 2, .nextCommit, some (List.range 3)⟩,
      ⟨4, 1, .nextCommit, none⟩,
      ⟨5, 1, .nextCommit, none⟩,
      ⟨6, 4, .nextCommit, none⟩,
      ⟨10, 1, .immediate, none⟩,
      ⟨11, 21, .refused, some [0]⟩]
  | "MOD_STAGE_CFG" => [⟨0, 4, .refused, some (List.range 7)⟩,
      ⟨4, 2, .refused, some (List.range 3)⟩,
      ⟨6, 1, .refused, none⟩,
      ⟨7, 1, .refused, none⟩,
      ⟨8, 1, .refused, none⟩,
      ⟨9, 23, .refused, some [0]⟩]
  | "NET_CAN_CFG" => [⟨0, 3, .refused, some (List.range 5)⟩,
      ⟨3, 1, .refused, none⟩,
      ⟨4, 1, .refused, none⟩,
      ⟨5, 1, .refused, none⟩,
      ⟨6, 10, .refused, some [0]⟩]
  | "NET_PORT_CFG" => [⟨0, 1, .refused, none⟩,
      ⟨1, 1, .refused, none⟩,
      ⟨2, 1, .refused, none⟩,
      ⟨3, 5, .refused, some [0]⟩]
  | "PIE_CONFIG" => [⟨0, 1, .immediate, none⟩,
      ⟨1, 1, .refused, none⟩,
      ⟨2, 1, .refused, none⟩,
      ⟨3, 29, .refused, some [0]⟩]
  | "SAF_CONN_CFG" => [⟨0, 1, .refused, none⟩,
      ⟨1, 1, .refused, none⟩,
      ⟨2, 2, .refused, none⟩,
      ⟨4, 1, .refused, none⟩,
      ⟨5, 6, .refused, some ((List.range 45).drop 1)⟩,
      ⟨11, 7, .refused, some (List.range 65)⟩,
      ⟨18, 14, .refused, some [0]⟩]
  | "SAF_SOC_CFG" => [⟨0, 3, .refused, some [0, 1, 2, 3, 4, 7]⟩,
      ⟨3, 1, .refused, none⟩,
      ⟨4, 28, .refused, some [0]⟩]
  | "SAF_STAGE_CFG" => [⟨0, 2, .refused, some (List.range 2)⟩,
      ⟨2, 1, .refused, none⟩,
      ⟨3, 1, .refused, none⟩,
      ⟨4, 28, .refused, some [0]⟩]
  | "SHR_CONFIG" => [⟨0, 1, .nextCommit, none⟩,
      ⟨1, 1, .nextCommit, none⟩,
      ⟨2, 1, .nextCommit, none⟩,
      ⟨3, 2, .refused, some (List.range 3)⟩,
      ⟨5, 1, .refused, none⟩,
      ⟨6, 1, .nextModeChange, none⟩,
      ⟨7, 25, .refused, some [0]⟩]
  | "SRV_CONFIG" => [⟨0, 1, .nextCommit, none⟩,
      ⟨1, 1, .nextCommit, none⟩,
      ⟨2, 1, .immediate, none⟩,
      ⟨3, 1, .nextCommit, none⟩,
      ⟨4, 1, .nextCommit, none⟩,
      ⟨5, 1, .nextCommit, none⟩,
      ⟨6, 26, .refused, some [0]⟩]
  | "TIM_NTA_CFG" => [⟨0, 1, .refused, none⟩,
      ⟨1, 2, .refused, some (List.range 3)⟩,
      ⟨3, 2, .refused, some (List.range 3)⟩,
      ⟨5, 1, .refused, none⟩,
      ⟨6, 1, .refused, none⟩,
      ⟨7, 1, .refused, none⟩,
      ⟨8, 8, .refused, some (List.range 128)⟩,
      ⟨16, 16, .refused, some [0]⟩]
  | "TIM_REF_CFG" => [⟨0, 1, .refused, none⟩,
      ⟨1, 1, .nextModeChange, none⟩,
      ⟨2, 1, .immediate, none⟩,
      ⟨3, 29, .refused, some [0]⟩]
  | "TIM_TC_CFG" => [⟨0, 1, .refused, none⟩,
      ⟨1, 1, .refused, none⟩,
      ⟨2, 2, .refused, some (List.range 3)⟩,
      ⟨4, 28, .refused, some [0]⟩]
  | "TWN_CONFIG" => [⟨0, 2, .refused, some (List.range 3)⟩,
      ⟨2, 1, .immediate, none⟩,
      ⟨3, 3, .refused, none⟩,
      ⟨6, 26, .refused, some [0]⟩]
  | _ => []

end Sys2Proof.Machine
end

