-- ==== Sys2Proof/Machine/State.lean ====
section
/-!
DEFINITION. The state of the block: plain data. One structure per chapter of the spec, and three stores: the object
dictionary's values (the register file), what is saved in MRAM, and the writes that wait for a commit or a mode change.
-/

namespace Sys2Proof.Machine

/-- A dictionary value stored under its key (index * 256 + sub-index). -/
abbrev ObjCell := Nat × Val

/-- One record of the event log (R393): its sequence number, code, module time and data. -/
structure LogRec where
  seq : Nat
  code : Nat
  mt : Nat
  /-- TIM_BOOT_COUNT at the event (Table 16.6) -/
  boot : Nat
  data : List Rat
deriving DecidableEq, Repr

/-- What the module has sent, newest first, as far as a rule says that something is sent: the model's own record
(DESIGN CHOICE, log 9). -/
structure TxFrame where
  port : Nat
  kind : Nat
  data : List Int
deriving DecidableEq, Repr

/-- One expansion joint that has been used: the last word it delivered, whether it delivers fence markers, the count of
poisoned words and the instants of the latest ones (R14, R23, R24). -/
structure Joint where
  src : Island
  dst : Island
  word : Option Nat
  marker : Bool
  poisoned : Nat
  recent : List Nat
deriving DecidableEq, Repr

/-- A held instant-bound command: `deferred` once its instant has passed and it waits for the destination's next
boundary (R17 to R19). -/
structure Held where
  cmd : TimedCmd
  deferred : Bool
deriving DecidableEq, Repr

/-- What has taken effect in a destination's present cycle: the object, the cycle of its replica, and by whom (R21). -/
structure Taken where
  dst : Island
  obj : Nat × Nat
  at_ : Nat
  src : Source
  channel : Nat
deriving DecidableEq, Repr

/-- Islands, joints, module time and the keystone's permission lines (chapter 1). -/
structure IslandsSt where
  /-- the master module-time count (R15) -/
  mt : Nat
  /-- whether the counter has been started by the first PLL lock (R15) -/
  started : Bool
  /-- module time of the last broadcast (R16) -/
  broadcast : Nat
  /-- deviation of each replica from the master in core cycles, where not 0 (R16) -/
  dev : List (Island × Int)
  /-- fenced islands (R24) -/
  fenced : List Island
  joints : List Joint
  /-- commands held until their instant, oldest first (R17) -/
  held : List Held
  /-- commands that took effect in the present cycle of their destinations (R21) -/
  lately : List Taken
  /-- commands refused as implausible, per destination (R18) -/
  implausible : List (Island × Nat)
  /-- requests refused at their destination under R21 -/
  refused : List (Island × Nat)
  /-- the pulse-enable toggles that the keystone sends each driver die, and the contactor-enable toggle (R25) -/
  pulseEnable : Vector Bool 6
  /-- when each die last lost its pulse enable (R25, R209) -/
  pulseLost : Vector Nat 6
  contactorEnable : Bool
  /-- the abutment sees no contactor-enable toggle (R25) -/
  contactorLapsed : Bool
  /-- module time at which the house island was fenced (R26) -/
  houseFencedAt : Option Nat
deriving DecidableEq, Repr

/-- Why a stop is demanded: the SAFE cause of stages stopped by a fault, or none (R43). -/
inductive StopCause where
  | plain
  | fault (code : Nat)
deriving DecidableEq, Repr

/-- A mode change that an accepted MOD_COMMAND orders for the next tick (R28, R30). -/
inductive ModeOrder where
  | start | stop | release
deriving DecidableEq, Repr

/-- The mode machine (chapter 2). -/
structure ModesSt where
  mode : Mode
  /-- the mode change that an accepted command has ordered for the next tick (R28) -/
  order : Option ModeOrder
  /-- MOD_LOCKOUT_CAUSE -/
  lockoutCause : Nat
  /-- lockout causes waiting for the next tick, oldest first (R44) -/
  lockoutPending : List Nat
  /-- a stop demanded for the next tick -/
  stopPending : Option StopCause
  /-- module time at which the present mode was entered -/
  enteredAt : Nat
  /-- survey steps finished: configuration, calibration, hold-up check, logic image (R38) -/
  cfgLoaded : Bool
  calDone : Bool
  holdupDone : Bool
  restoreDone : Bool
  /-- stages whose off-state diagnostics are still to run in this SURVEY, in stage order (R38) -/
  diagQueue : List StageId
  /-- the configuration is valid in at least one copy (Table 2.1) -/
  cfgValid : Bool
  /-- supply and boot facts -/
  powered : Bool
  resetAsserted : Bool
  imageStarted : Bool
  /-- charge has completed since CHARGE was entered (R42) -/
  charged : Bool
  /-- load-role stages other than GFI have been started since that CHARGE (R41) -/
  loadsStarted : Bool
  /-- the latest DC-link readings of the stages in pu (TickIn) -/
  link : Vector Rat 4
  /-- the latched thermal shut-down held in the keystone (R45) -/
  thermalLatch : Bool
  /-- cause of the last GFI stage to enter SAFE (R43) -/
  lastGfiCause : Nat
deriving DecidableEq, Repr

/-- Core of a stage's state (R31 to R37). -/
structure StageCore where
  st : StageState
  cause : Nat
  /-- off-state diagnostics passed in this power cycle (R33) -/
  diagPassed : Bool
  /-- its diagnostics, or the move to ARMED that they lead to, wait for CHARGE (R39) -/
  diagDeferred : Bool
  /-- module time at which running diagnostics started -/
  diagSince : Option Nat
  /-- a START_STAGE held in OFF until its diagnostics pass (R37) -/
  heldStart : Bool
  /-- moves ordered for the next tick (R37, R466) -/
  toArmed : Bool
  toRun : Bool
  toOff : Bool
  /-- module time of the last sample with an active limiter (R32) -/
  lastLimit : Nat
  /-- the control graph was accepted under R151 -/
  graphOk : Bool
  /-- enters ARMED or RUN this many samples ago, saturating at 2 (R138) -/
  sinceEntry : Nat
  /-- the stage has left RUN by a stop, and its pulses end at its next commit (R43) -/
  pulsesEnd : Bool
deriving DecidableEq, Repr

/-- A quantity moving linearly from one value to another over a time (R58, R133). -/
structure Glide where
  src : Rat
  dst : Rat
  start : Nat
  dur : Nat
deriving DecidableEq, Repr

/-- States of the forming law: one of the two banks (R51 to R64, R156). Angles are UQ0.32. -/
structure Law where
  /-- θ(k) at the inner sample last computed, θ_j at the last outer step and the sample count of that step -/
  theta : Nat
  thetaJ : Nat
  kJ : Nat
  /-- whole turns of θ_j since entry into RUN, for the unwrapped angle of R77 -/
  turns : Nat
  omega : Rat
  omegaD : Rat
  pMech : Rat
  pF : Rat
  qF : Rat
  e : Rat
  /-- voltage-loop integrator x_v (R59), or the fundamental resonant states of FRAME 1 -/
  xv : Vec
  res : List Rat
  /-- resonant states of the 5th, 7th, 11th and 13th harmonics (R59) -/
  resH : List Rat
  /-- notch states per axis (R62) -/
  notch : List Rat
  /-- negative-sequence integrator (R63) and zero-sequence integrator (R64) -/
  neg : Vec
  zero : Rat
  /-- sequence separators of v_c and i_o (R63) -/
  seqV : List Rat
  seqI : List Rat
  /-- separator of the inverter-current reference (R101) -/
  seqR : List Rat
  vPos : Vec
  vNeg : Vec
  iPos : Vec
  iNeg : Vec
  v0 : Rat
  /-- u(k): inverter voltage of the set committed for the period now running (R62) -/
  u : Vec
  /-- ΔR_lim, ΔX_lim (R100) -/
  dRlim : Rat
  dXlim : Rat
  /-- restoration and synchronising offsets (R78, R89), ramp factor r (R88), coasting shift ΔP_c (R112) -/
  dwr : Rat
  dvr : Rat
  dws : Rat
  dvs : Rat
  r : Rat
  dPc : Rat
deriving DecidableEq, Repr

/-- How a GFI stage waits to close onto a dead line (R83 to R86): for its slot, its hold-off, network time, or a live line; `confirmed`: its
contactor has closed and it waits to enter RUN (R87). -/
inductive Claim where
  | idle
  | slot (at_ : Nat)
  | holdoff (until_ : Nat)
  | waitNta
  | waitLive
  | confirmed
deriving DecidableEq, Repr

/-- What a stage pulls towards (R89, R93). -/
inductive Pull where
  | none | line | tie
deriving DecidableEq, Repr

/-- The line tracker's report (R74): validity is `live`. -/
structure LineView where
  trk : List Rat
  /-- samples of the sliding window of one rated period, newest first -/
  win : List Tri
  v : Rat
  theta : Nat
  f : Rat
  live : Bool
deriving DecidableEq, Repr

/-- Sharing, black start and joining of one stage (chapter 4). -/
structure ShareSt where
  line : LineView
  far : LineView
  claim : Claim
  /-- instant of the command closing the output contactor, unconfirmed (R86, R90) -/
  closeAt : Option Nat
  closeTimeout : Nat
  /-- instant of the command closing the tie, unconfirmed (R93) -/
  tieAt : Option Nat
  /-- the close command was given onto a dead line (R87) -/
  closedDead : Bool
  /-- the output contactor's auxiliary contact reads closed -/
  closed : Bool
  pull : Pull
  syncFrom : Nat
  syncTimeout : Nat
  /-- since when the three conditions of R90 have held together -/
  okSince : Option Nat
  dwell : Nat
  /-- since when the line of a synchronising stage reads dead (R92) -/
  deadSince : Option Nat
  /-- synchronism was lost while closing has been logged -/
  lostLogged : Bool
  /-- instant of confirmation from which the ramp runs and the ramp's set time in cycles (R88) -/
  rampFrom : Nat
  rampTime : Nat
  rampLast : Nat
  ramping : Bool
  /-- glide of Δω_s, ΔV_s after confirmation (R91) -/
  glideW : Option Glide
  glideV : Option Glide
  joining : Bool
  /-- restoration window (R77): instant and unwrapped angle (turns, fraction) at its start, sum and count of |v_c⁺| -/
  winStart : Option (Nat × Nat × Nat)
  winSum : Rat
  winCount : Nat
  /-- a cause of R79 held at some time in the window -/
  winBad : Bool
  suspended : Bool
  /-- restoration step sent with its module time, not yet applied (R76) -/
  anchor : Option Nat
deriving DecidableEq, Repr

/-- Ride-through and coasting of one stage (chapter 5). Budget in ms. -/
structure RideSt where
  riding : Bool
  /-- clear detected at, while riding (R108, R109) -/
  clearAt : Option Nat
  /-- the previous sample met the conditions of R108 -/
  clearBefore : Bool
  budget : Rat
  budgetAt : Nat
  budgetUsed : Rat
  peak : Rat
  failed : Bool
  /-- decrease of ΔX_lim: value and instant at which it began (R100) -/
  decay : Option (Rat × Nat)
  /-- coasting (R111 to R116) -/
  coasting : Bool
  coastFrom : Nat
  lowest : Rat
  lowSince : Option Nat
  shed : Nat
  /-- release ramp of ΔP_c and of a paused power limit (R115) -/
  release : Option Glide
  /-- power limit that the graph's power limit block sees, and the buffer reference (R113) -/
  powerLimit : Rat
  powerRef : Option Rat
  /-- input stage: loss, instant of detection, confirmed return, ramp of the input-current limit (R110, R114) -/
  lost : Bool
  lostAt : Nat
  confirmed : Bool
  blocked : Bool
  ramp : Option Glide
  /-- the loss or its end still to be acted on by this stage at its next inner sample (R111) -/
  notified : Bool
  /-- input PLL of an AFE stage (R117): frequency in Hz, phase at an instant, hold, and crossings since return -/
  pllF : Rat
  pllPhase : Nat
  pllAt : Nat
  hold : Option Nat
  holdExpired : Bool
  crossings : List (Nat × Bool)
  /-- level 1 has acted since the last sample (R99, R105) -/
  pulsed : Bool
  /-- the input's deviation from the PLL's prediction, and since when it has stood above FRT_AC_LOSS_DEV (R110) -/
  dev : Rat
  devSince : Option Nat
  /-- |v_in| at the samples of the last half-period, newest first, and since when the input has stood at or above FRT_IN_RETURN_LEVEL (R114) -/
  inPast : List (Nat × Rat)
  aboveSince : Option Nat
  /-- the link voltage last measured, in pu of FRT_LINK_RATED -/
  vdc : Rat
  /-- a buffering MOT stage's speed reference is still to be ramped from the present speed (R115) -/
  speedDue : Bool
deriving DecidableEq, Repr

/-- What the survey keeps of one chip (R129, R131). -/
structure ChipRec where
  v : Vec
  i : Vec
  u : Vec
deriving DecidableEq, Repr

/-- Survey, adaptation and canary of one stage (chapter 6). -/
structure SurveySt where
  /-- round in progress, and the instant the last one started (R128) -/
  active : Bool
  startedAt : Option Nat
  runSince : Nat
  /-- inner samples injected since the round's start -/
  chip : Nat
  /-- amplitude, averages, coherence limit and peer reactance the round started with (Table 6.6) -/
  cfg : List Nat
  /-- ΔR_ad, ΔX_ad, ΔK_c, Δf_n in force (R132) and the ramps of the first two (R133) -/
  dRad : Rat
  dXad : Rat
  dKc : Rat
  dFn : Rat
  glideR : Option Glide
  glideX : Option Glide
  /-- the change last applied, still to be checked: old offsets, ζ_pk and ζ_a before it (R134) -/
  undo : Option (List Rat)
  holdVi : Bool
  holdNotch : Bool
  holdKc : Bool
  /-- latest ζ_pk (0: invalid) and ζ_a -/
  zetaPk : Rat
  zetaA : Rat
  /-- canary: samples above act per residual (R139), and the scores of the last updated samples (R141) -/
  above : Vector Nat 6
  warned : Vector Bool 6
  acted : Vector Bool 6
  scores : List Rat
  /-- previous sample's values the residuals need (R137): i_L, v_c, i_o, u -/
  prevIL : Vec
  prevVc : Vec
  prevIo : Vec
  prevU : Vec
  /-- voltage of the link at the last outer step, for VDC -/
  prevVdc : Option Rat
  worst : Option AdcId
  /-- reactions that the next commit carries out (R140), and when the own residuals reached act (R141) -/
  due : List (Fin 6)
  actedAt : List (Nat × Fin 6)
  /-- v_c, i_o (positive sequence) and the injected vector at each chip of the measured periods, newest first (R129, R131) -/
  record : List ChipRec
deriving DecidableEq, Repr

/-- One block instance: its spec in the graph, parameters in force, committed outputs and states, flags of
PIE_BLK_STATUS, and a state reset ordered for the next commit (R156, R170). -/
structure BlockSt where
  spec : BlockSpec
  params : List Val
  outs : List (Option Rat)
  states : List (Option Rat)
  status : Nat
  resetAtCommit : Bool
deriving DecidableEq, Repr

/-- The canary's raw residuals of one sample, which of them its conditions hold, and the input of the phase with the largest IL error (R137,
R138, R140). -/
structure CanaryIn where
  residuals : List Rat
  held : List Bool
  worst : Option AdcId
deriving DecidableEq, Repr

/-- What a dispatched sample changes outside its working bank, as it stood before (R160): restoration, ramp and glides, the limiter's
decrease, and the clamps held. -/
structure SampleUndo where
  share : ShareSt
  decay : Option (Rat × Nat)
  clamps : List Bool
deriving DecidableEq, Repr

/-- The working bank of a sample between dispatch and commit (R155, R156). -/
structure Work where
  law : Law
  blocks : List BlockSt
  /-- commanded duties of the legs, formed by the law or the graph -/
  duties : List Rat
  /-- module time of the dispatch -/
  at_ : Nat
  /-- the outer part stepped in this sample (R51) -/
  outer : Bool
  /-- R_e, X_e and K_c in use, for the effective-value objects -/
  eff : List Rat
  /-- its commit sends a set (R159) -/
  sends : Bool
  undo : SampleUndo
  canary : CanaryIn
deriving DecidableEq, Repr

/-- Work between commit and post commit: the post-phase instances' working bank and the canary (R156). -/
structure PostWork where
  blocks : List BlockSt
  canary : CanaryIn
  /-- sample count and instant of the sample that has committed -/
  k : Nat
  t0 : Nat
deriving DecidableEq, Repr

/-- The banks before the last commit (R157, R160). -/
structure Before where
  law : Law
  blocks : List BlockSt
  undo : SampleUndo
deriving DecidableEq, Repr

/-- A set sent lately: tally, k, duties and check value (R176, R411). -/
structure SentSet where
  tally : Nat
  k : Nat
  duties : List Rat
  check : Nat
deriving DecidableEq, Repr

/-- A pier (chapter 7). -/
structure PierSt where
  law : Law
  blocks : List BlockSt
  work : Option Work
  /-- working bank of the post-phase instances between commit and post commit (R156) -/
  post : Option PostWork
  /-- sample count k (R152) and module time of the current sample instant t₀ -/
  k : Nat
  t0 : Nat
  /-- compiled facts of the loaded graph (R151, R165) -/
  graph : Option GraphSpec
  tally : Nat
  overrunRun : Nat
  postRun : Nat
  postDone : Bool
  provisional : Bool
  /-- duties of the set in force, for u(k) of R62, and of the sets sent lately by tally -/
  duties : List Rat
  sent : List SentSet
  /-- words of the committed set on its way through the joint (R157) -/
  out : Option (List Nat)
  /-- samples the cores have run, which their vector registers depend on (R145) -/
  ran : Nat
  /-- a trip group with a channel of the stage has acted since the last sample (R138) -/
  tripped : Bool
  /-- self-test running since, and one that waits for the commit (R150) -/
  selftest : Option Nat
  selftestDue : Bool
  bistAt : Nat
  /-- GFL_RV, GFL_XV, GFL_XVN as configured, on their way from the old to the new value (R58) -/
  rv : Option Glide
  xv : Option Glide
  xvn : Option Glide
  /-- law clamps held, so that their events are logged at each entry only (R55, R57, R63, R64, R78) -/
  fClamp : Bool
  eClamp : Bool
  negClamp : Bool
  nClamp : Bool
  restClamp : Bool
  /-- bank before the last commit, for a set the edge island discards (R157, R160) -/
  before : Option Before
  /-- envelope conditions already logged since the last entry into CHARGE (R70) -/
  envLogged : Nat
deriving DecidableEq, Repr

/-- A timebase command waiting for its zero point (R174): instant (0: the next), a new period or a phase shift, and who sent it (R21). -/
structure TbCmd where
  inst : Nat
  shift : Bool
  value : Int
  src : Source
  channel : Nat
deriving DecidableEq, Repr

/-- A timebase (R172 to R174): whether it runs, its last zero point, sample triggers since its start, commands waiting, and
the lengthening of the period now running. -/
structure TimebaseSt where
  running : Bool
  lastZero : Nat
  triggers : Nat
  /-- the sample instant that the last sample trigger stands for -/
  trigFor : Nat
  cmds : List TbCmd
  stretch : Int
  /-- the peak point of the period now running has passed (R172) -/
  peaked : Bool
deriving DecidableEq, Repr

/-- One placed output edge: its instant in 1/32 core cycle, which output, and whether it turns on (R178, R180). -/
structure EdgeEv where
  t : Nat
  high : Bool
  on : Bool
deriving DecidableEq, Repr

/-- One armed trigger compare (R163, R164, R181): the set's sample count, its instant in 1/32 core cycle, whether it stands
from a provisional set or the set in force, when it fired, and off-plan. -/
structure Arm where
  k : Nat
  trig : Nat
  at_ : Int
  early : Bool
  fired : Option Nat
  off : Bool
deriving DecidableEq, Repr

/-- A hold on a channel by a trip (R187): source, group, and what is held: 0 both outputs, 1 high, 2 low. -/
structure Hold where
  src : SrcId
  group : GroupId
  what : Nat
deriving DecidableEq, Repr

/-- An edge channel (R175 to R193). -/
structure ChanSt where
  /-- leg level at the last period start, and the toggles kept in this period with the level they lead to (R177, R179) -/
  level : Bool
  toggles : List (Nat × Bool)
  /-- output edges placed for this period -/
  edges : List EdgeEv
  /-- outputs as last left by the edges, and when each last turned off (R184) -/
  high : Bool
  low : Bool
  highOff : Nat
  lowOff : Nat
  lowOn : Nat
  highOn : Nat
  conflict : Bool
  /-- static compares in force on an unowned channel, and those that a control-word write has made wait for the next reload (R175) -/
  static : ChanSet
  staticNext : Option ChanSet
  holds : List Hold
  arms : List Arm
  /-- drawn bootstrap charge in nC, the instant it stands for, a refresh in the period now running, periods capped (R193,
  R212) -/
  charge : Rat
  chargeAt : Nat
  refreshed : Bool
  capped : Nat
deriving DecidableEq, Repr

/-- The sets of one stage at the edge island (R157, R176): tally last accepted, set in shadow and whether it is deferred,
set in force with its period start. -/
structure SetSt where
  tally : Nat
  shadow : Option CmdSet
  deferred : Bool
  force : Option CmdSet
  start : Nat
  /-- blocked at input loss (R111) -/
  blocked : Bool
  safe : Bool
deriving DecidableEq, Repr

/-- A trip group (R187 to R191). -/
structure GroupSt where
  c : Nat
  f : Nat
  tripped : Bool
  latched : Bool
  rejected : Bool
  /-- the source whose trip was counted last -/
  lastSrc : Nat
  /-- the zero point at which the counting period now running began (R188) -/
  periodAt : Nat
deriving DecidableEq, Repr

/-- The edge island (chapter 8). -/
structure EdgeSt where
  /-- module time at which the configuration was loaded (R172) -/
  loadedAt : Option Nat
  tb : Vector TimebaseSt 8
  ch : Vector ChanSt 24
  /-- stages 0 to 3 of this module, 4 to 7 the partner's (R175) -/
  sets : Vector SetSt 8
  grp : Vector GroupSt 8
  /-- active trip sources (R186) -/
  active : List SrcId
  /-- TRIP pins that have left the band between their thresholds since the trip matrix started (R186) -/
  pinKnown : List (Fin 8)
  raw : Bool
  rawHigh : Nat
  rawLow : Nat
  /-- outputs whose calibration failed (R180) -/
  calFault : List (Fin 48)
  heartbeats : Nat
  /-- the last heartbeat and the last recalibration (R180) -/
  beatAt : Nat
  recalAt : Nat
  /-- configured values of the objects to which the pulse-limit additions of R103 have been made -/
  added : List ObjCell
deriving DecidableEq, Repr

/-- How a gate is driven (R204 to R206). -/
inductive Gate where
  | follow | soft | second | latched
deriving DecidableEq, Repr

/-- A driver channel: its drive, when a soft turn-off began, and turn-on by the pattern. -/
structure DriverSt where
  gate : Gate
  since : Nat
  /-- GDV_STO_TIME as it stood at the detection (R222) -/
  stoTime : Nat
  /-- the pattern turns this channel on at this instant, in 1/32 core cycle (R209) -/
  patOn : Option Nat
  /-- V_on and V_off as the secondary's converter moves to them (R201) -/
  von : Glide
  voff : Glide
deriving DecidableEq, Repr

/-- A fibre port (R216 to R219): unanswered turn-ons in 1/32 core cycle, whether its source is active, and a head fault
whose code has not come. -/
structure FibreSt where
  pendingOn : List Nat
  fault : Bool
  codeDue : Bool
deriving DecidableEq, Repr

/-- Gate drive (chapter 9). -/
structure GateSt where
  uvlo : Bool
  uvloAt : Nat
  /-- dies holding the safe-state pattern (R209), and the instant of the last heartbeat -/
  pattern : Vector Bool 6
  /-- dies holding it because neither module drives (R414) -/
  noHolder : Vector Bool 6
  heartbeat : Vector Nat 6
  drv : Vector DriverSt 12
  port : Vector FibreSt 8
deriving DecidableEq, Repr

/-- A conversion that has started or is due (R228, R231): its start, and whether the trigger that started it is off-plan. -/
structure ConvSt where
  start : Nat
  off : Bool
deriving DecidableEq, Repr

/-- A result as it crosses to a pier (R235): value word, format code, stamp, quality byte; `code` is the exact value before formatting, of
`bits` significant bits; the format code is FORMAT [1:0], ALIGN [2] and CODING [3]. -/
structure ResultSt where
  code : Int
  bits : Nat
  format : Nat
  word : Int
  stamp : Nat
  quality : Nat
deriving DecidableEq, Repr

/-- A SAR channel (R228 to R244). -/
structure AdcSt where
  conv : Option ConvSt
  held : Option ConvSt
  result : Option ResultSt
  /-- latest corrected code, for substitutes -/
  code : Int
  quality : Nat
  /-- the last eight grid conversions, newest first: start, corrected code, quality (R230) -/
  hist : List (Nat × Int × Nat)
  /-- sample instant whose window a trigger has missed (R230) -/
  winBad : Option Nat
  /-- offset in use in 1/16 LSB, drift estimate in LSB, time of the last tracking sample -/
  offset : Rat
  drift : Rat
  trackAt : Nat
  /-- cause of a substitution that waits for the next conversion boundary, and substitution in force -/
  substCause : Option Nat
  subst : Bool
  late : Bool
deriving DecidableEq, Repr

/-- A filter chain (R247 to R253). -/
structure ChainSt where
  ints : List Int
  combs : List Int
  line : List Int
  active : Bool
  /-- a bank switch issued, with its instant; the fade count while fading -/
  switch_ : Option Nat
  fade : Option Nat
  unsettled : Nat
  checkFailed : Bool
  /-- stamp of the last output -/
  lastStamp : Nat
  late : Bool
  /-- conversions of a SAR input not yet taken: corrected code, quality, start; quality of the inputs taken, newest first; outputs, newest first -/
  queue : List (Int × Nat × Nat)
  quals : List Nat
  outs : List ResultSt
deriving DecidableEq, Repr

/-- Acquisition (chapter 10). -/
structure AcqSt where
  /-- the last event of each acquisition timer (R229) -/
  timer : Vector (Option Nat) 4
  adc : Vector AdcSt 24
  chain : Vector ChainSt 16
  /-- faulty sigma-delta inputs -/
  sdFault : Vector Bool 8
  /-- self-calibration running since; diagnosis of a channel running since, and the writer whose RESTORE it answers -/
  selfCal : Option Nat
  diag : Option (AdcId × Nat × Option Writer)
  /-- comparators owned by stages from CHARGE to READY (R237): input, upper or lower, stage -/
  cmpOwned : List (AdcId × Bool × StageId)
  /-- thresholds the stages have set them to, in amperes or volts (R102, R110) -/
  cmpLevel : List (AdcId × Bool × Rat)
deriving DecidableEq, Repr

/-- One record of a gallery (R261): sample count, sample instant, word 1 and the values of the enabled nodes, `none` for a
quiet NaN. -/
structure GalRec where
  k : Nat
  t0 : Nat
  mark : Bool
  prov : Bool
  flags : Nat
  vals : List (Option Rat)
deriving DecidableEq, Repr

/-- A pier's gallery and its engine (R260 to R270). -/
structure GalSt where
  /-- the ring, newest first -/
  ring : List GalRec
  /-- records missing since the last one, and a change of node selection still to be marked -/
  missing : Nat
  changed : Bool
  /-- conditions and node values of the previous record; its k and sample instant (R265, R266) -/
  cond : Nat
  prev : Option (List (Option Rat))
  prevAt : Option Nat
  /-- event flags of Table 11.2 met since the last record -/
  seen : Nat
  armed : Bool
  /-- the pattern has been unmatched since the arming -/
  ready : Bool
  holdoff : Option Nat
  /-- records waiting in the open datagram, oldest first, and when its first record entered -/
  datagram : List GalRec
  openedAt : Nat
  seq : Nat
  dropped : Nat
  /-- until when its last datagram occupies the port at the 300 Mb/s of throttle step 1 (Table 19.6) -/
  busyTo : Nat
  /-- GAL_READ_K -/
  readK : Option Nat
deriving DecidableEq, Repr

/-- A system PLL (R278, R279): locked, muted since its last loss, attempting to relock since, declared failed, and the
instants of its latest losses. -/
structure PllSt where
  locked : Bool
  lostAt : Option Nat
  tryAt : Option Nat
  failed : Bool
  losses : List Nat
deriving DecidableEq, Repr

/-- A time base laid over module time (R283 to R287): state by the codes of Table 12.3; the segment, n₀ in 2⁻¹⁶ ns and r in
2⁻⁴⁰; θ as last measured and as predicted, in ns; y; the points (module time, master − nominal ns) of the servo, newest
first, and how many a slope still needs. -/
structure BaseSt where
  st : Nat
  m0 : Nat
  n0 : Int
  r : Int
  /-- a new segment on its way: it is in force from its own m₀ -/
  next : Option (Nat × Int × Int)
  theta : Rat
  thetaHat : Rat
  y : Rat
  hist : List (Nat × Rat)
  need : Nat
  /-- consecutive Syncs of ACQUIRING that agreed with the one before, and that one's θ -/
  agree : Nat
  lastTheta : Option Rat
  stepped : Bool
  gm : Bool
  gmId : Nat
  pathDelay : Option Rat
  lastSync : Nat
  lastAnnounce : Nat
  leftLocked : Nat
  holdFrom : Nat
  lastSegment : Nat
  /-- when the last Sync, Announce and delay request were sent -/
  sentAt : Vector Nat 3
  /-- TT: the primary's boot count at the last exchange (R289) -/
  boot : Option Nat
deriving DecidableEq, Repr

/-- Clocks and time bases (chapter 12). References: 0 temperature-compensated, 1 MEMS, 2 partner; bases: 0 NTA, 1 NTB,
2 TT. -/
structure ClockSt where
  refOk : Vector Bool 3
  /-- when each reference was last found lost or faulty (R274) -/
  badAt : Vector Nat 3
  /-- when the selector last switched for a loss or fault (R294) -/
  switchedAt : Option Nat
  /-- when the references and the islands' clocks were last counted (R274, R282) -/
  countedAt : Nat
  monitoredAt : Nat
  active : Option (Fin 3)
  pllOn : Bool
  pll : Vector PllSt 2
  /-- the islands whose clock switch selects PLL-B (R27) -/
  onB : List Island
  netLocked : Bool
  netLostAt : Nat
  base : Vector BaseSt 3
deriving DecidableEq, Repr

/-- A remote station (R314 to R316, R349): state by the codes of LGC_STN_STATE, the last telegram's data, counter and arrival,
whether it came since the last latch and whether the running cycle latched it, and since when the station is away. -/
structure StationSt where
  st : Nat
  data : List Nat
  counter : Option Nat
  first : Bool
  lastRx : Nat
  fresh : Bool
  latched : Bool
  awayFrom : Nat
  /-- the module's own output counter -/
  sent : Nat
deriving DecidableEq, Repr

/-- The logic engine and the deck (chapter 13). -/
structure LogicSt where
  running : Bool
  valid : Bool
  /-- the program's signature was verified in ADIT (R397) or at its staging (R317) -/
  verified : Bool
  program : Option Program
  staged : Option Program
  /-- blocks of a package being written have arrived -/
  staging : Bool
  image : Image
  /-- the two MRAM banks with a valid commit record, and the bank written last (R311, R312) -/
  bank : Vector (Option Image) 2
  lastBank : Nat
  /-- lines marked in the previous cycle, and those kept of deferred journals -/
  marked : Nat
  kept : Nat
  lag : Bool
  /-- the next boundary and the last one latched, in core cycles of the base that carries them (R299) -/
  nextAt : Nat
  lastAt : Nat
  /-- the cycle now running ends at; it started with this busy time in µs; it is the cycle of an exchange -/
  busyUntil : Nat
  busy : Nat
  exchanging : Bool
  skipped : Nat
  /-- T_c and e in force, in ms -/
  tc : Nat
  stretch : Nat
  /-- EXCHANGE waiting: its instant, 0 for the next boundary -/
  exchange : Option Nat
  resetRetain : Bool
  /-- held HOST writes (R308) -/
  host : List (Nat × Nat)
  station : Vector StationSt 64
  level : Bool
  /-- the engine waits for the first boundary after SURVEY, or after a take-over (R299, R322) -/
  starting : Bool
  peek : Nat
  /-- busy times in µs of the cycles of the last second, by boundary, newest first -/
  loads : List (Nat × Nat)
deriving DecidableEq, Repr

/-- A process-data set of a session (R342): its number, period in ms, keys, its own sequence number, and when it was last sent or defined. -/
structure ProcSet where
  set : Nat
  ms : Nat
  keys : List Nat
  seq : Nat
  sentAt : Nat
deriving DecidableEq, Repr

/-- A service session (R341): number, port, last sequence number, last datagram, the response stored for a repeated request,
its sets, and a segmented write in progress. -/
structure SessionSt where
  id : Nat
  port : Nat
  seq : Nat
  lastAt : Nat
  reply : List Int
  sets : List ProcSet
  partial_ : Option (Nat × List Nat)
deriving DecidableEq, Repr

/-- A segmented SDO transfer in progress (Table 14.4): key, whether a write, bytes to read or so far written, position, toggle
bit, and when the last segment came. -/
structure SdoSt where
  key : Nat
  write : Bool
  bytes : List Nat
  total : Nat
  toggle : Bool
  at_ : Nat
deriving DecidableEq, Repr

/-- A CAN port (R335 to R339): whether the boot-up message has been sent, state (4 stopped, 5 operational, 127
pre-operational), bus-off, SDO transfer, and when its last heartbeat was sent. -/
structure CanSt where
  booted : Bool
  st : Nat
  busOff : Bool
  sdo : Option SdoSt
  hbAt : Nat
  /-- when the last EMCY was sent, and those that wait for the inhibit time (Table 14.4) -/
  emcyAt : Option Nat
  emcyWait : List (List Int)
deriving DecidableEq, Repr

/-- Dictionary and networks (chapter 14). -/
structure NetSt where
  /-- last accepted request of the owner (R330) -/
  ownerAt : Nat
  sessions : List SessionSt
  /-- service access: owner word and last request (R331) -/
  rights : List (Nat × Nat)
  /-- outstanding challenges by owner word, invalid responses by port, and ports blocked since (R331) -/
  challenges : List (Nat × List Nat)
  invalid : List (Nat × Nat)
  blocked : List (Nat × Nat)
  can : Vector CanSt 2
  /-- heartbeat consumer entries: last heartbeat heard and the port code it came through, none before the first (R338) -/
  heard : Vector (Option (Nat × Nat)) 4
  /-- SYNCs seen per TPDO, the last transmission of each TPDO with what it carried, and RPDO data that waits for a SYNC -/
  syncs : Vector Nat 16
  tpdoAt : Vector Nat 16
  tpdoLast : Vector (List Int) 16
  rpdoWait : Vector (Option (List Val)) 16
  link : Vector Bool 4
  bypass : Bool
  /-- MAC addresses learnt with their ports, newest first (R345) -/
  macs : List (Nat × Nat)
  /-- host SPI: response waiting, last sequence number and stored response (R344) -/
  spiReply : Option (List Int)
  spiSeq : Option Nat
  spiLast : List Int
  /-- host SPI: a segmented write in progress -/
  spiPartial : Option (Nat × List Nat)
  /-- restore defaults at the next power-up (Table 14.6) -/
  restore : Bool
deriving DecidableEq, Repr

/-- A safe-output-contactor instance (R361 to R365). -/
structure SocSt where
  /-- commanded energised, since when (or since when commanded open), and confirmation still awaited -/
  cmd : Bool
  cmdAt : Nat
  awaited : Bool
  /-- the discrepancy time and what the last command started with -/
  disc : Nat
  /-- a request that arrived during a test pulse (R362) -/
  wish : Option Bool
  /-- switch test in progress: high side, start, length in cycles; which switch comes next; when the last one started -/
  test : Option (Bool × Nat × Nat)
  nextHigh : Bool
  testAt : Nat
  fault : Bool
  /-- auxiliary contact reads the energised state; since when, and when the last proof was (R365) -/
  energised : Bool
  energisedAt : Nat
  proofAt : Nat
deriving DecidableEq, Repr

/-- Safe stop of a stage (R366 to R370): the ramp with its demand tick, x₀, length and the cause a fault stop gives (0: none),
whether the tick before violated the bound, since when keystone and pier differ, and x. -/
structure SsdSt where
  ramp : Option (Nat × Rat × Nat × Nat)
  violated : Bool
  differs : Option Nat
  x : Rat
  /-- codes of the monitored channels since the last tick, summed and counted (R366) -/
  sums : Vector (Int × Nat) 3
  /-- speed: the voltage has been below the hysteresis since the last rising zero crossing, and when that was -/
  low : Bool
  crossAt : Option Nat
deriving DecidableEq, Repr

/-- A safety connection (R373 to R379). -/
structure ConnSt where
  /-- last accepted sequence number and tally; the next unit is the first after a restart -/
  seq : Nat
  tally : Nat
  fresh : Bool
  safe : Bool
  accepted : Nat
  acceptedAt : Nat
  /-- the last unit that passed the checks, as bytes, and the payload in force -/
  last : List Nat
  payload : List Nat
  pathAt : Vector Nat 2
  pathLost : Vector Bool 2
  copies : Nat
  sentAt : Nat
deriving DecidableEq, Repr

/-- The keystone's safety functions (chapter 15). -/
structure SafetySt where
  soc : Vector SocSt 4
  ssd : Vector SsdSt 4
  conn : Vector ConnSt 16
  /-- the start-up test is pending, and the cover has read open since (R359) -/
  pending : Bool
  coverSeen : Bool
  /-- the cover has been found open in a run mode (R360) -/
  coverDemand : Bool
  /-- stages on which command connections make an immediate demand (R372, R379) -/
  demanded : List StageId
  /-- latched safety faults (R357) and the keystone's cores halted -/
  latched : List Nat
  halted : Bool
  /-- stages from which pulses have been removed and not returned (R371) -/
  removed : List StageId
  tieFailed : Bool
  resetAt : Nat
  /-- when the last March test of the keystone memory ended (R356) -/
  marchAt : Nat
deriving DecidableEq, Repr

/-- A check-value unit (R383 to R386): the source that owns it while BUSY, the bytes fed, the sending tally and the last
accepted one. -/
structure CvuSt where
  owner : Option Writer
  fed : List Nat
  tally : Nat
  accepted : Option Nat
deriving DecidableEq, Repr

/-- A store that waits or runs (R391): kind, lines of a journal, the requester of a dictionary store or image block with its
arrival, what an image block is, and whether it has been deferred. -/
structure StoreSt where
  kind : StoreKind
  lines : Nat
  writer : Option Writer
  at_ : Nat
  block : Option ImageBlock
deriving DecidableEq, Repr

/-- Integrity and stores (chapter 16). -/
structure StoresSt where
  cvu : Vector CvuSt 8
  waiting : List StoreSt
  running : Option StoreSt
  /-- kinds whose deferral has been logged since one of them started -/
  deferred : List StoreKind
  /-- the stop level has been reached: no store starts -/
  stopped : Bool
  /-- generations of the records, and lost ones -/
  gen : Vector Nat 3
  lost : List (Fin 3)
  /-- sectors of the log ring that have been retired (R394) -/
  retired : List Nat
  /-- security versions: the counter and that of the running image -/
  version : Nat
  running_ : Nat
  /-- graph package of the running image (R151) -/
  package : Option (Vector GraphSpec 4)
  /-- an image write to the idle slot is in progress: pages taken so far -/
  writing : Option Nat
  readSeq : Option Nat
  /-- the log ring: sector being filled, pages written in it, last page and last erase started (Table 19.6), dropped records already
  reported by 0x900F (R394) -/
  sector : Nat
  page : Nat
  pageAt : Option Nat
  eraseAt : Option Nat
  /-- when a deferred store was last tested again (R391) -/
  retryAt : Nat
  reported : Nat
deriving DecidableEq, Repr

/-- An arbitration in progress (R417): its stage and trigger, the own verdict with its instant, and the partner's verdict
(pass, ARMED, residuals its canary has at act) where it has come. -/
structure ArbSt where
  stage : StageId
  trigger : Nat
  own : Option Bool
  ownAt : Nat
  partner : Option (Bool × Bool × List (Fin 6))
deriving DecidableEq, Repr

/-- The pair (chapter 17). -/
structure TwinSt where
  /-- PAIR_MODE as read in ADIT, and DESIGNATION -/
  mode : Nat
  primary : Bool
  /-- 0 down, 1 training, 2 up on one lane, 3 up -/
  link : Nat
  lanes : Vector Bool 2
  partner : Option PartnerId
  formed : Bool
  lock : Bool
  phase : Int
  /-- since when the conditions of R405 have held -/
  lockFrom : Option Nat
  conflict : Bool
  mismatch : Bool
  /-- duplex: the module is the active one -/
  active : Bool
  /-- deliberate claim, auto-claim, the hold circuit sees toggles, CLAIM_IN -/
  request : Bool
  auto : Bool
  held : Bool
  claimIn : ClaimIn
  claimSince : Nat
  grant : Bool
  grantLost : Nat
  armed : Bool
  xfail : Bool
  xfailAt : Nat
  partnerFenced : Bool
  /-- the module has fenced itself (R418) -/
  selfFenced : Bool
  arb : Option ArbSt
  /-- the partner's digests that wait for the own set: stage, k, tally, check value (R411) -/
  digests : List (StageId × Nat × Nat × Nat)
  /-- consecutive digest differences per stage -/
  diffs : Vector Nat 4
  /-- hold-off of R420: begin and the value it started with -/
  holdoff : Option (Nat × Nat)
  /-- handover instant H in module time, and this module's part in it: 0 releases its claim at H, 1 claims at H, 2 yields to the
  partner's claim, 3 claims at H as a return (R420, R421) -/
  handover : Option (Nat × Nat)
  winTarget : Nat
  /-- what the partner's keystone reported last (R46, R47) -/
  view : Option PartnerView
deriving DecidableEq, Repr

/-- A field input (R426 to R428): the filter counter, the filtered state before INVERT, the raw state, and a line fault. -/
structure DiSt where
  count : Nat
  st : Bool
  raw : Bool
  fault : Option LineFault
  /-- the line-fault class of the last sample (none: a contact window) and for how many samples it has stood (R428) -/
  cls : Option LineFault
  run : Nat
  /-- no sample yet since SURVEY began (R427) -/
  fresh : Bool
  /-- module time of the sample that decided the last change -/
  changedAt : Nat
deriving DecidableEq, Repr

/-- A 24 V output (R429, R430): its command, the overload latch, over-temperature. -/
structure DoSt where
  cmd : Bool
  overload : Bool
  overTemp : Bool
deriving DecidableEq, Repr

/-- A contactor driver (R432 to R434): the kept FIELD_OUT command, the overcurrent latch, its two switches. -/
structure CdSt where
  cmd : Bool
  overc : Bool
  high : Bool
  low : Bool
deriving DecidableEq, Repr

/-- The abutment island (chapter 18): inputs, outputs, drivers, FIELD24 out of its window, and the value of FIO_FORCE in
force. -/
structure FieldSt where
  di : Vector DiSt 16
  out : Vector DoSt 12
  drv : Vector CdSt 4
  f24Bad : Bool
  force : Option Nat
deriving DecidableEq, Repr

/-- One temperature sensor: broken, consecutive rounds off the median of its group, and its states (R445, R446, R448). -/
structure SensorSt where
  broken : Bool
  off : Nat
  warn : Bool
  hot : Bool
  low : Bool
  inhibit : Bool
deriving DecidableEq, Repr

/-- Supply and heat (chapter 19). Voltages in V. -/
structure SupplySt where
  /-- AUX_IN stands high since (R438) -/
  highAt : Option Nat
  /-- an interruption began at, with the SUP_BRIDGE it started with in cycles; supplies are shed; when they came back -/
  intAt : Option Nat
  bridge : Nat
  shed : Bool
  backAt : Option Nat
  gdLimited : Bool
  /-- module time of the last sensor-supply switch-on (R443) -/
  sensorAt : Nat
  lastRound : Nat
  sensor : Vector SensorSt 30
  /-- the throttle step last changed at (R449) -/
  stepAt : Nat
deriving DecidableEq, Repr


/-- The state of the module. -/
structure State where
  /-- commands waiting, first in, first out -/
  pending : List Instr
  /-- dictionary values that differ from their defaults, keys strictly rising -/
  objs : List ObjCell
  /-- values stored in MRAM, in the same form (R327) -/
  saved : List ObjCell
  /-- writes accepted "at next commit", oldest first (R7, R159) -/
  commitWrites : List ObjCell
  /-- forming-law and block-parameter writes held by PARAM_HOLD (R66, R167) -/
  heldWrites : List ObjCell
  /-- writes that take effect at the next mode change (R7) -/
  modeWrites : List ObjCell
  /-- communication objects written, in effect at the port's next reset communication -/
  resetWrites : List ObjCell
  /-- the next sequence number of the event log and the records of its buffer and of flash (R393, R394) -/
  logSeq : Nat
  logBuf : List LogRec
  logFlash : List LogRec
  /-- last time an event limited to once per second was logged, by code and subject, and the count since -/
  lastLog : List (Nat × Nat × Nat × Nat)
  tx : List TxFrame
  /-- how many free values have been drawn (DESIGN CHOICE, log 4) -/
  free : Nat
  isl : IslandsSt
  mod : ModesSt
  stg : Vector StageCore 4
  shr : Vector ShareSt 4
  frt : Vector RideSt 4
  srv : Vector SurveySt 4
  pie : Vector PierSt 4
  edg : EdgeSt
  gdv : GateSt
  acq : AcqSt
  gal : Vector GalSt 4
  clk : ClockSt
  twn : TwinSt
  saf : SafetySt
  fio : FieldSt
  sup : SupplySt
  lgc : LogicSt
  net : NetSt
  nvs : StoresSt
deriving DecidableEq, Repr

/-- Reasons for which the block could stop. No meaning of this model ends in one. -/
inductive Fault where
  /-- never raised: the spec names no behaviour of the module that stops it altogether (safe) -/
  | none
deriving DecidableEq, Repr

/-- Reasons for which a command could be refused by the model. -/
inductive Refusal where
  /-- the command has no meaning in the model; raised by an arm of `exec` only (safe) -/
  | notModelled (mnemonic : String)
deriving DecidableEq, Repr

/-! ### After reset -/

/-- The law's states before entry into RUN (R65): everything at zero, speed 1 pu. -/
def lawInit : Law :=
  { theta := 0, thetaJ := 0, kJ := 0, turns := 0, omega := 1, omegaD := 1, pMech := 0, pF := 0, qF := 0, e := 0,
    xv := .zero, res := [0, 0, 0, 0], resH := [0, 0, 0, 0, 0, 0, 0, 0, 0, 0, 0, 0, 0, 0, 0, 0],
    notch := [0, 0, 0, 0], neg := .zero, zero := 0, seqV := [], seqI := [], seqR := [], vPos := .zero, vNeg := .zero,
    iPos := .zero, iNeg := .zero, v0 := 0, u := .zero, dRlim := 0, dXlim := 0, dwr := 0, dvr := 0, dws := 0, dvs := 0,
    r := 1, dPc := 0 }

def IslandsSt.init : IslandsSt :=
  { mt := 0, started := false, broadcast := 0, dev := [], fenced := [], joints := [], held := [], lately := [], implausible := [], refused := [],
    pulseEnable := .replicate 6 false, pulseLost := .replicate 6 0, contactorEnable := false, contactorLapsed := false, houseFencedAt := none }

def ModesSt.init : ModesSt :=
  { mode := .halt, order := none, lockoutCause := 0, lockoutPending := [], stopPending := none, enteredAt := 0,
    cfgLoaded := false, calDone := false, holdupDone := false, restoreDone := false,
    diagQueue := [], cfgValid := false, powered := false, resetAsserted := false, imageStarted := false,
    charged := false, loadsStarted := false, link := .replicate 4 0, thermalLatch := false, lastGfiCause := 0 }

def StageCore.init : StageCore :=
  { st := .off, cause := 0, diagPassed := false, diagDeferred := false, diagSince := none, heldStart := false, toArmed := false,
    toRun := false, toOff := false, lastLimit := 0, graphOk := false, sinceEntry := 0, pulsesEnd := false }

def LineView.init : LineView := { trk := [], win := [], v := 0, theta := 0, f := 0, live := false }

def ShareSt.init : ShareSt :=
  { line := .init, far := .init, claim := .idle, closeAt := none, closeTimeout := 0, tieAt := none, closedDead := false, closed := false,
    pull := .none, syncFrom := 0, syncTimeout := 0, okSince := none, dwell := 0, deadSince := none, lostLogged := false, rampFrom := 0,
    rampTime := 0, rampLast := 0, ramping := false, glideW := none, glideV := none, joining := false, winStart := none, winSum := 0,
    winCount := 0, winBad := false, suspended := false, anchor := none }

def RideSt.init : RideSt :=
  { riding := false, clearAt := none, clearBefore := false, budget := 0, budgetAt := 0, budgetUsed := 0, peak := 0, failed := false,
    decay := none, coasting := false, coastFrom := 0, lowest := 0, lowSince := none, shed := 0, release := none, powerLimit := 1,
    powerRef := none, lost := false, lostAt := 0, confirmed := false, blocked := false, ramp := none, notified := false, pllF := 0,
    pllPhase := 0, pllAt := 0, hold := none, holdExpired := false, crossings := [], pulsed := false, dev := 0, devSince := none,
    inPast := [], aboveSince := none, vdc := 0, speedDue := false }

def SurveySt.init : SurveySt :=
  { active := false, startedAt := none, runSince := 0, chip := 0, cfg := [], dRad := 0, dXad := 0, dKc := 0, dFn := 0, glideR := none,
    glideX := none, undo := none, holdVi := false, holdNotch := false, holdKc := false, zetaPk := 0, zetaA := 0,
    above := .replicate 6 0, warned := .replicate 6 false, acted := .replicate 6 false, scores := [], prevIL := .zero,
    prevVc := .zero, prevIo := .zero, prevU := .zero, prevVdc := none, worst := none, due := [], actedAt := [], record := [] }

def PierSt.init : PierSt :=
  { law := lawInit, blocks := [], work := none, post := none, k := 0, t0 := 0, graph := none, tally := 0, overrunRun := 0, postRun := 0,
    postDone := true, provisional := false, duties := [], sent := [], out := none, ran := 0, tripped := false, selftest := none,
    selftestDue := false, bistAt := 0, rv := none, xv := none, xvn := none,
    fClamp := false, eClamp := false, negClamp := false, nClamp := false, restClamp := false, before := none, envLogged := 0 }

def EdgeSt.init : EdgeSt :=
  let off : ChanSet := ⟨[], [], 0⟩
  { loadedAt := none
    tb := .replicate 8 { running := false, lastZero := 0, triggers := 0, trigFor := 0, cmds := [], stretch := 0, peaked := true }
    ch := .replicate 24 { level := false, toggles := [], edges := [], high := false, low := false, highOff := 0, lowOff := 0, lowOn := 0, highOn := 0,
                          conflict := false, static := off, staticNext := none, holds := [], arms := [], charge := 0, chargeAt := 0,
                          refreshed := false, capped := 0 }
    sets := .replicate 8 { tally := 0, shadow := none, deferred := false, force := none, start := 0, blocked := false, safe := false }
    grp := .replicate 8 { c := 0, f := 0, tripped := false, latched := false, rejected := false, lastSrc := 0, periodAt := 0 }
    active := [], pinKnown := [], raw := false, rawHigh := 0, rawLow := 0, calFault := [], heartbeats := 0, beatAt := 0, recalAt := 0, added := [] }

def GateSt.init : GateSt :=
  { uvlo := false, uvloAt := 0, pattern := .replicate 6 false, noHolder := .replicate 6 false, heartbeat := .replicate 6 0
    drv := .replicate 12 { gate := .follow, since := 0, stoTime := 0, patOn := none, von := ⟨15, 15, 0, 0⟩, voff := ⟨-5, -5, 0, 0⟩ }
    port := .replicate 8 { pendingOn := [], fault := false, codeDue := false } }

def AcqSt.init : AcqSt :=
  { timer := .replicate 4 none
    adc := .replicate 24 { conv := none, held := none, result := none, code := 0, quality := 0, hist := [], winBad := none, offset := 0,
                           drift := 0, trackAt := 0, substCause := none, subst := false, late := false }
    chain := .replicate 16 { ints := [], combs := [], line := [], active := false, switch_ := none, fade := none, unsettled := 0,
                             checkFailed := false, lastStamp := 0, late := false, queue := [], quals := [], outs := [] }
    sdFault := .replicate 8 false, selfCal := none, diag := none, cmpOwned := [], cmpLevel := [] }

def GalSt.init : GalSt :=
  { ring := [], missing := 0, changed := false, cond := 0, prev := none, prevAt := none, seen := 0, armed := false, ready := false,
    holdoff := none, datagram := [], openedAt := 0, seq := 0, dropped := 0, busyTo := 0, readK := none }

def ClockSt.init : ClockSt :=
  { refOk := .replicate 3 false, badAt := .replicate 3 0, switchedAt := none, countedAt := 0, monitoredAt := 0, active := none, pllOn := false
    pll := .replicate 2 { locked := false, lostAt := none, tryAt := none, failed := false, losses := [] }
    onB := [], netLocked := false, netLostAt := 0
    base := .replicate 3 { st := 0, m0 := 0, n0 := 0, r := 0, next := none, theta := 0, thetaHat := 0, y := 0, hist := [], need := 0,
                           agree := 0, lastTheta := none, stepped := false, gm := false, gmId := 0, pathDelay := none, lastSync := 0,
                           lastAnnounce := 0, leftLocked := 0, holdFrom := 0, lastSegment := 0, sentAt := .replicate 3 0, boot := none } }

def emptyImage : Image := { count := 0, lt := 0, tags := [], insts := [], charts := [] }

def StationSt.init : StationSt :=
  { st := 0, data := [], counter := none, first := true, lastRx := 0, fresh := false, latched := false, awayFrom := 0, sent := 0 }

def LogicSt.init : LogicSt :=
  { running := false, valid := false, verified := false, program := none, staged := none, staging := false, image := emptyImage, bank := .replicate 2 none,
    lastBank := 0, marked := 0, kept := 0, lag := false, nextAt := 0, lastAt := 0, busyUntil := 0, busy := 0, exchanging := false,
    skipped := 0, tc := 0, stretch := 0, exchange := none, resetRetain := false, host := [], station := .replicate 64 .init,
    level := false, starting := false, peek := 0, loads := [] }

def NetSt.init : NetSt :=
  { ownerAt := 0, sessions := [], rights := [], challenges := [], invalid := [], blocked := []
    can := .replicate 2 { booted := false, st := 0, busOff := false, sdo := none, hbAt := 0, emcyAt := none, emcyWait := [] }
    heard := .replicate 4 none, syncs := .replicate 16 0, tpdoAt := .replicate 16 0, tpdoLast := .replicate 16 []
    rpdoWait := .replicate 16 none, link := .replicate 4 false, bypass := true, macs := [], spiReply := none, spiSeq := none
    spiLast := [], spiPartial := none, restore := false }

def SafetySt.init : SafetySt :=
  { soc := .replicate 4 { cmd := false, cmdAt := 0, awaited := false, disc := 0, wish := none, test := none, nextHigh := true, testAt := 0,
                          fault := false, energised := false, energisedAt := 0, proofAt := 0 }
    ssd := .replicate 4 { ramp := none, violated := false, differs := none, x := 0, sums := .replicate 3 (0, 0), low := false, crossAt := none }
    conn := .replicate 16 { seq := 0, tally := 0, fresh := true, safe := true, accepted := 0, acceptedAt := 0, last := [], payload := [],
                            pathAt := .replicate 2 0, pathLost := .replicate 2 false, copies := 0, sentAt := 0 }
    pending := false, coverSeen := false, coverDemand := false, demanded := [], latched := [], halted := false, removed := [], tieFailed := false,
    resetAt := 0, marchAt := 0 }

def FieldSt.init : FieldSt :=
  { di := .replicate 16 { count := 0, st := false, raw := false, fault := none, cls := none, run := 0, fresh := true, changedAt := 0 }
    out := .replicate 12 { cmd := false, overload := false, overTemp := false }
    drv := .replicate 4 { cmd := false, overc := false, high := false, low := false }
    f24Bad := false, force := none }

def SupplySt.init : SupplySt :=
  { highAt := none, intAt := none, bridge := 0, shed := false, backAt := none, gdLimited := false, sensorAt := 0, lastRound := 0
    sensor := .replicate 30 { broken := false, off := 0, warn := false, hot := false, low := false, inhibit := false }
    stepAt := 0 }

def TwinSt.init : TwinSt :=
  { mode := 0, primary := false, link := 0, lanes := .replicate 2 false, partner := none, formed := false, lock := false, phase := 0,
    lockFrom := none, conflict := false, mismatch := false, active := false, request := false, auto := false,
    held := false, claimIn := .released, claimSince := 0, grant := false, grantLost := 0, armed := false, xfail := false, xfailAt := 0,
    partnerFenced := false, selfFenced := false, arb := none, digests := [], diffs := .replicate 4 0, holdoff := none, handover := none,
    winTarget := 0, view := none }

def StoresSt.init : StoresSt :=
  { cvu := .replicate 8 { owner := none, fed := [], tally := 0, accepted := none }
    waiting := [], running := none, deferred := [], stopped := false, gen := .replicate 3 0, lost := [], retired := [], version := 0,
    running_ := 0, package := none, writing := none, readSeq := none, sector := 0, page := 0, pageAt := none, eraseAt := none, retryAt := 0, reported := 0 }

/-- The module right after reset: HALT (Table 0.3), unpowered until AUX_IN is applied, every dictionary object at its default, nothing
saved, nothing logged, every register at the value that notes/assumptions/20.md names. -/
def State.reset : State :=
  { pending := [], objs := [], saved := [], commitWrites := [], heldWrites := [], modeWrites := [], resetWrites := []
    logSeq := 0, logBuf := [], logFlash := [], lastLog := [], tx := [], free := 0
    isl := .init, mod := .init, stg := .replicate 4 .init, shr := .replicate 4 .init, frt := .replicate 4 .init, srv := .replicate 4 .init
    pie := .replicate 4 .init, edg := .init, gdv := .init, acq := .init, gal := .replicate 4 .init, clk := .init, twn := .init
    saf := .init, fio := .init, sup := .init, lgc := .init, net := .init, nvs := .init }

end Sys2Proof.Machine
end

