-- ==== Sys2Proof/Machine/Ops.lean ====
section
/-!
DEFINITION. The named operations over the state that every meaning uses: reading and writing dictionary values, drawing a
free value, logging an event, sending, counting, module time and its units, fences, and per-stage access.
-/

namespace Sys2Proof

def Val.toInt : Val → Int
  | .int v => v
  | .real q => q.floor
  | _ => 0

def Val.toRat : Val → Rat
  | .int v => (v : Rat)
  | .real q => q
  | _ => 0

def Island.resolution : Island → Nat
  | .logic => 2 | .house => 2 | .abutment => 16 | .gdPrimary _ => 4 | .gdSecondary _ => 4
  | .pier _ => 1 | .edge => 1 | .network => 1 | .keystone => 1 | .link => 1 | .sample => 1

def Island.code : Island → Nat
  | .pier n => n.val | .edge => 4 | .logic => 5 | .network => 6 | .keystone => 7 | .house => 8 | .link => 9
  | .sample => 10 | .abutment => 11 | .gdPrimary g => 12 + g.val | .gdSecondary d => 18 + d.val

def StageState.code : StageState → Nat
  | .off => 0 | .armed => 1 | .run => 2 | .limit => 3 | .safe => 4

/-- A port's code in NET_OWNER, with its session (R330). -/
def Writer.ownerWord : Writer → Nat
  | .port c se => c + 16 * se
  | .logic => 0

end Sys2Proof

namespace Sys2Proof.Machine

/-- The outcome type of every meaning. -/
abbrev Res := Host.Outcome State Fault Refusal

/-! ### The dictionary's store -/

/-- The value stored under a key, if any. -/
def cellGet (k : Nat) : List ObjCell → Option Val
  | [] => none
  | (k', v) :: t => if k = k' then some v else cellGet k t

/-- Store a value under a key, keeping the keys strictly rising. -/
def cellSet (k : Nat) (v : Val) : List ObjCell → List ObjCell
  | [] => [(k, v)]
  | (k', v') :: t => if k < k' then (k, v) :: (k', v') :: t else if k = k' then (k, v) :: t else (k', v') :: cellSet k v t

/-- Remove a key. -/
def cellDel (k : Nat) : List ObjCell → List ObjCell
  | [] => []
  | (k', v') :: t => if k = k' then t else if k < k' then (k', v') :: t else (k', v') :: cellDel k t

/-- The default of a row at a key; none where the default depends on another object or on the state. -/
def dfltVal (d : Dflt) (key replica off : Nat) : Option Val :=
  match d with
  | .int v => some (.int v)
  | .real q => some (.real q)
  | .bytes b => some (.bytes b)
  | .ints l => some (.int (l.getD off 0))
  | .intsAt l => some (.int ((l.getD replica []).getD off 0))
  | .replica => some (.int replica)
  | .perModule => some (.int (Config.moduleConst key))
  | .moduleReal => some (.real (Config.moduleReal key))
  | .moduleText => some (.bytes (Config.moduleText key))
  | .typed => none
  | .cobEmcy => none
  | .sdoCob => none

/-- What an unlisted key reads as, where the table alone says it; the default of a block parameter stands in the image (R170). -/
def defaultAt (key : Nat) : Option Val :=
  match objRow (key / 256) (key % 256) with
  | none => if 0x600000 ≤ key ∧ key < 0xA00000 then none else some (.int 0)
  | some r => dfltVal r.dflt key (r.replica (key / 256)) (key % 256 - r.sub)

/-- Write a value into a store in canonical form: a value equal to the default removes the entry. -/
def cellPut (k : Nat) (v : Val) (l : List ObjCell) : List ObjCell :=
  if defaultAt k = some v then cellDel k l else cellSet k v l

/-- The canonical form of a store: keys strictly rising, no entry equal to its default. -/
def cellsWf : List ObjCell → Bool
  | [] => true
  | [(k, v)] => !decide (defaultAt k = some v)
  | (k, v) :: (k', v') :: t => decide (k < k') && !decide (defaultAt k = some v) && cellsWf ((k', v') :: t)

/-- A value by the table alone. -/
def State.rawI (s : State) (key : Nat) : Int :=
  match cellGet key s.objs with
  | some v => v.toInt
  | none => ((defaultAt key).getD (.int 0)).toInt

/-- Stage TYPE as stored in MOD_STAGE_CFG of stage n. -/
def storedType (s : State) (n : Nat) : Nat := bitsAt (s.rawI (Obj.MOD_STAGE_CFG n)).toNat 0 4

/-- Defaults that depend on another object: FRT_CONFIG by the stage's TYPE (Table 5.6), SRV_CONFIG (Table 6.5), the EMCY and
SDO identifiers by the node number (14_dictionary_and_networks.md, Communication objects). -/
def openDefault (s : State) (key : Nat) : Int :=
  let idx := key / 256
  if idx = 0x3200 ∨ idx = 0x3600 ∨ idx = 0x3A00 ∨ idx = 0x3E00 then
    let t := storedType s ((idx - 0x3200) / 0x400)
    if t = 1 then 0x424 else if t = 3 ∨ t = 4 ∨ t = 5 ∨ t = 6 then 0x420 else 0
  else if idx = 0x3300 ∨ idx = 0x3700 ∨ idx = 0x3B00 ∨ idx = 0x3F00 then
    if storedType s ((idx - 0x3300) / 0x400) = 1 then 0x3B else 0
  else if idx = 0x1014 then 0x80 + s.rawI Obj.MOD_NODE_NUMBER
  else if key = 0x120001 then 0x600 + s.rawI Obj.MOD_NODE_NUMBER
  else if key = 0x120002 then 0x580 + s.rawI Obj.MOD_NODE_NUMBER
  else 0

/-- The value of a dictionary object. -/
def State.obj (s : State) (key : Nat) : Val :=
  match cellGet key s.objs with
  | some v => v
  | none => (defaultAt key).getD (.int (openDefault s key))

def State.objI (s : State) (key : Nat) : Int := (s.obj key).toInt
def State.objN (s : State) (key : Nat) : Nat := (s.obj key).toInt.toNat
def State.objR (s : State) (key : Nat) : Rat := (s.obj key).toRat

/-- Write a dictionary object's value. -/
def State.setObj (s : State) (key : Nat) (v : Val) : State := { s with objs := cellPut key v s.objs }
def State.setN (s : State) (key n : Nat) : State := s.setObj key (.int n)
def State.setR (s : State) (key : Nat) (q : Rat) : State := s.setObj key (.real q)
/-- Add one to a counter object. -/
def State.bump (s : State) (key : Nat) : State := s.setN key (s.objN key + 1)
/-- Write bits of a status or configuration word. -/
def State.setField (s : State) (key lo width x : Nat) : State := s.setN key (setBitsAt (s.objN key) lo width x)
def State.setBit (s : State) (key bit : Nat) (b : Bool) : State := s.setField key bit 1 (boolNat b)
/-- Read bits of a status or configuration word. -/
def State.field (s : State) (key lo width : Nat) : Nat := bitsAt (s.objN key) lo width
def State.bit (s : State) (key bit : Nat) : Bool := s.field key bit 1 == 1

/-- A word with the listed fields taken from another. -/
def mergeFields (old new : Nat) (fs : List FieldRow) : Nat := fs.foldl (fun w f => setBitsAt w f.lo f.width (bitsAt new f.lo f.width)) old

/-- What a waiting value makes of an object when its turn comes (R7): of a word by fields only the fields of the rule that turn
serves, so that a field written meanwhile under another rule stands. -/
def dueValue (key : Nat) (rule : RunRule) (base v : Val) : Val :=
  match objRow (key / 256) (key % 256) with
  | some r =>
    if r.run = .byField then .int (mergeFields base.toInt.toNat v.toInt.toNat ((objFields r.name).filter fun f => f.run == rule) : Nat) else v
  | none => v

/-- A waiting value as its turn leaves the object. -/
def State.dueCell (s : State) (rule : RunRule) (c : ObjCell) : ObjCell := (c.1, dueValue c.1 rule (s.obj c.1) c.2)
/-- A waiting value takes its turn. -/
def State.setDue (rule : RunRule) (s : State) (c : ObjCell) : State := s.setObj c.1 (s.dueCell rule c).2

/-! ### Free values (DESIGN CHOICE, log 4) -/

/-- Draw the next free value. -/
def State.draw (s : State) : State := { s with free := s.free + 1 }
def State.freeReal (s : State) : Rat := Config.freeReal s.free
def State.freeNat (s : State) : Nat := Config.freeNat s.free
def State.freeBool (s : State) : Bool := Config.freeBool s.free

/-! ### Module time -/

/-- Core cycles in a millisecond, in a mode tick of 10 µs, in a second (R5, R28). -/
def cyclesMs : Nat := 409600
def cyclesTick : Nat := 4096
def cyclesSec : Nat := 409600000

def State.now (s : State) : Nat := s.isl.mt
/-- Core cycles since an instant. -/
def State.since (s : State) (t : Nat) : Nat := s.isl.mt - t
/-- A time in µs as core cycles, rounded up: 409.6 cycles per µs. -/
def cyclesUs (us : Nat) : Nat := (us * 2048 + 4) / 5

/-! ### Events and transmissions -/

/-- How many records the volatile log buffer holds (R394). -/
def logCapacity : Nat := 512

/-- Log an event with its data, stamped with module time (R28, R393). A full buffer drops it and counts (R394). -/
def State.log (s : State) (code : Nat) (data : List Rat) : State :=
  if s.logBuf.length < logCapacity then
    { s with logBuf := s.logBuf ++ [⟨s.logSeq, code, s.isl.mt, s.objN Obj.TIM_BOOT_COUNT, data⟩], logSeq := s.logSeq + 1 }
  else s.bump Obj.NVS_LOG_DROPPED

/-- Log an event at most once per second for one subject; the last datum is the count in that second. -/
def State.logOnce (s : State) (code subj : Nat) (data : List Rat) : State :=
  match s.lastLog.find? (fun e => e.1 == code && e.2.1 == subj) with
  | none => { s.log code (data ++ [1]) with lastLog := (code, subj, s.isl.mt, 0) :: s.lastLog }
  | some (_, _, t, n) =>
    let rest := s.lastLog.filter (fun e => !(e.1 == code && e.2.1 == subj))
    if cyclesSec ≤ s.isl.mt - t then { s.log code (data ++ [(n : Rat) + 1]) with lastLog := (code, subj, s.isl.mt, 0) :: rest }
    else { s with lastLog := (code, subj, t, n + 1) :: rest }

/-- Whether an event with this code stands in the log buffer: used by statements and tests. -/
def State.logged (s : State) (code : Nat) : Bool := s.logBuf.any fun r => r.code == code

/-- Record that the module sends something (DESIGN CHOICE, log 9). -/
def State.send (s : State) (port kind : Nat) (data : List Int) : State := { s with tx := ⟨port, kind, data⟩ :: s.tx }

/-- A request renews the service access of its session, and, if accepted, the ownership of the holder (R330, R331). -/
def State.renew (s : State) (w : Writer) (accepted : Bool) : State :=
  let word := w.ownerWord
  { s with net := { s.net with
      rights := s.net.rights.map fun r => if r.1 = word then (word, s.isl.mt) else r
      ownerAt := if accepted && word != 0 && s.objN Obj.NET_OWNER == word then s.isl.mt else s.net.ownerAt } }

/-- An abort is counted and kept with its object and port (Table 14.7). -/
def State.noteAbort (s : State) (port key abort : Nat) : State :=
  (s.bump Obj.NET_ABORTS).setN Obj.NET_LAST_ABORT (abort * 4294967296 + key % 16777216 * 256 + port % 256)

/-- The standby of a duplex pair (R416): a module of a formed duplex pair that is not the active one. -/
def State.standby (s : State) : Bool := s.twn.mode == 2 && s.twn.formed && !s.twn.active

/-- The secondary of a viaduct (R407): its CAN transceivers are high-impedance. -/
def State.viaductSecondary (s : State) : Bool := s.twn.mode == 1 && !s.twn.primary

/-- A response goes out at a port: the host SPI port makes it ready to be clocked out and keeps it for a repeated request (R344), a session
keeps it (R341), a CAN port that is off, in bus-off, in the standby of a duplex pair
or the secondary of a viaduct sends nothing (R338, R350, R407). -/
def State.respond (s : State) (c se kind : Nat) (data : List Int) : State :=
  if c = 1 then
    { s with net := { s.net with spiReply := some data, spiLast := data } }.send 1 kind data
  else if c = 5 ∨ c = 6 then
    (if s.bit (Obj.NET_CAN_CFG (c - 5)) 5 && !s.net.can[Fin.ofNat 2 (c - 5)].busOff && !s.standby && !s.viaductSecondary then s.send c kind data else s)
  else
    { s with net := { s.net with
        sessions := s.net.sessions.map fun (x : SessionSt) => if x.port = c ∧ x.id = se then { x with reply := data } else x } }.send c kind data

/-- A dictionary request is answered at the port it came through (R326, R334): abort code 0 is success. -/
def State.reply (s : State) (w : Writer) (key abort : Nat) : State :=
  match w with
  | .port c se =>
    let s := s.renew w (abort == 0)
    let s := if abort = 0 then s else s.noteAbort c key abort
    s.respond c se 1 [c + 16 * se, key, abort]
  | .logic => s

/-! ### Islands -/

def State.fenced (s : State) (i : Island) : Bool := decide (i ∈ s.isl.fenced)

/-- An island acts unless it is fenced (R24) or the module is unpowered or in HALT (Table 0.3). -/
def State.alive (s : State) (i : Island) : Bool := !s.fenced i && s.mod.powered && s.mod.mode != .halt

/-- Act on an island; a fenced or unpowered one discards what reaches it (R24). -/
def State.on (s : State) (i : Island) (f : State → State) : State := if s.alive i then f s else s

/-- The deviation of an island's replica from the master (R16). -/
def State.devOf (s : State) (i : Island) : Int := ((s.isl.dev.find? fun e => e.1 == i).map (·.2)).getD 0

/-- The replica of module time that an island keeps: the master count at the resolution of Table 1.2. -/
def State.replicaOf (s : State) (i : Island) : Nat :=
  let m := ((s.isl.mt : Int) + s.devOf i).toNat
  m / i.resolution * i.resolution

def countIn (l : List (Island × Nat)) (i : Island) : List (Island × Nat) :=
  match l with
  | [] => [(i, 1)]
  | (j, n) :: t => if i = j then (j, n + 1) :: t else (j, n) :: countIn t i

/-! ### Stages -/

def State.modStage (s : State) (n : StageId) (f : StageCore → StageCore) : State := { s with stg := s.stg.set n (f s.stg[n]) }
def State.modShare (s : State) (n : StageId) (f : ShareSt → ShareSt) : State := { s with shr := s.shr.set n (f s.shr[n]) }
def State.modRide (s : State) (n : StageId) (f : RideSt → RideSt) : State := { s with frt := s.frt.set n (f s.frt[n]) }
def State.modSurvey (s : State) (n : StageId) (f : SurveySt → SurveySt) : State := { s with srv := s.srv.set n (f s.srv[n]) }
def State.modPier (s : State) (n : StageId) (f : PierSt → PierSt) : State := { s with pie := s.pie.set n (f s.pie[n]) }

def allStages : List StageId := [0, 1, 2, 3]

/-- Stage types by the code of MOD_STAGE_CFG.TYPE (Table 2.9). -/
inductive SType where
  | none | gfi | afe | dcdc | iso | chg | mot
deriving DecidableEq, Repr

def stypeOf (c : Nat) : SType :=
  if c = 1 then .gfi else if c = 2 then .afe else if c = 3 then .dcdc else if c = 4 then .iso
  else if c = 5 then .chg else if c = 6 then .mot else .none

def State.stageCfg (s : State) (n : StageId) : Nat := s.objN (Obj.MOD_STAGE_CFG n.val)
def State.stype (s : State) (n : StageId) : SType := stypeOf (bitsAt (s.stageCfg n) 0 4)
def State.isGfi (s : State) (n : StageId) : Bool := s.stype n == .gfi
def State.chargeRole (s : State) (n : StageId) : Nat := bitsAt (s.stageCfg n) 4 2
def State.essential (s : State) (n : StageId) : Bool := bitsAt (s.stageCfg n) 6 1 == 1
def State.activeShort (s : State) (n : StageId) : Bool := bitsAt (s.stageCfg n) 7 1 == 1
def State.enabled (s : State) (n : StageId) : Bool := bitsAt (s.stageCfg n) 8 1 == 1
def State.stageSt (s : State) (n : StageId) : StageState := s.stg[n].st
def State.switching (s : State) (n : StageId) : Bool := s.stageSt n == .run || s.stageSt n == .limit
def State.dispatching (s : State) (n : StageId) : Bool := s.switching n || s.stageSt n == .armed
/-- The update period T_u in core cycles and in seconds (R51, Table 7.8). -/
def State.tu (s : State) (n : StageId) : Nat := s.objN (Obj.PIE_UPDATE_PERIOD n)
def secondsOf (cycles : Nat) : Rat := mkRat (cycles : Int) 409600000
def State.tuSec (s : State) (n : StageId) : Rat := r32 (secondsOf (s.tu n))
/-- f_b in Hz and ω_b (R3). -/
def State.fb (s : State) (n : StageId) : Rat := s.objR (Obj.GFL_F_RATED n)
def State.wb (s : State) (n : StageId) : Rat := r32 (twoPi * s.fb n)

/-- A stage whose safe-stop function is SSD (Table 15.8). -/
def State.isSsd (s : State) (n : StageId) : Bool := s.field (Obj.SAF_STAGE_CFG n) 0 2 == 1

/-- A number 1 to k of the dictionary as an identifier; none for 0 and beyond. -/
def idOf (k : Nat) [NeZero k] (v : Nat) : Option (Fin k) := if 1 ≤ v ∧ v ≤ k then some (Fin.ofNat k (v - 1)) else none

/-! ### Writers -/

/-- Whether the writer holds write ownership (R329, R330). -/
def State.ownsWrites (s : State) (w : Writer) : Bool :=
  match w with
  | .logic => false
  | .port _ _ => s.objN Obj.NET_OWNER == w.ownerWord && s.objN Obj.NET_OWNER != 0

/-- Whether a write or command of this writer is accepted (R326, R329): the logic engine's always; a port's needs write ownership
while running. -/
def State.accepts (s : State) (w : Writer) : Bool := match w with | .logic => true | .port _ _ => !s.mod.mode.running || s.ownsWrites w

/-- The dictionary key of a block instance's object (R170). -/
def blockKey (p : StageId) (inst sub : Nat) : Nat := (0x6000 + 0x1000 * p.val + inst) * 256 + sub

/-- Whether the writer is the owner or the logic engine, in any mode (R37, R466). -/
def State.commands (s : State) (w : Writer) : Bool := match w with | .logic => true | .port _ _ => s.ownsWrites w

/-- A write or command that needs write ownership while running is refused without it (R329). -/
def owned (w : Writer) (f : State → Nat × State) (s : State) : Nat × State := if s.accepts w then f s else (0x08000021, s)

/-- The island that carries a writer's port acts (R328). -/
def State.reaches (s : State) (w : Writer) : Bool :=
  match w with
  | .port 1 _ => s.alive .house
  | .port _ _ => s.alive .network
  | .logic => s.alive .logic

/-- R407, R412: the secondary of a viaduct and the standby of a duplex pair refuse writes on their own ports. -/
def State.standsBy (s : State) (w : Writer) : Bool :=
  match w with
  | .logic => false
  | .port _ _ => s.viaductSecondary || s.standby

/-- What a module that stands by answers: the code of an earlier check of R326, else the refusal of its state. -/
def standByCode (a : Nat) : Nat := if a = 0x08000021 ∨ (0x06010000 ≤ a ∧ a < 0x06090000) then a else 0x08000022

/-- R412: an accepted write on the active module of a duplex pair goes to the standby, but for 0x2800 to 0x2FFF. -/
def State.forward (s : State) (key : Nat) (data : List Int) : State :=
  if s.twn.mode == 2 && s.twn.active && decide (2 ≤ s.twn.link) && !decide (0x2800 ≤ key / 256 ∧ key / 256 < 0x3000) then
    s.send 9 48 ((key : Int) :: data)
  else s

/-- A request to an object of an island is carried out and answered. While the house island is fenced the network island answers
every request with 0x0606 0000 (R328); a fenced destination refuses (R24; DESIGN CHOICE, log 12). -/
def request (w : Writer) (key : Nat) (i : Island) (f : State → Nat × State) (s : State) : State :=
  if !s.reaches w then s
  else if !s.alive .house then s.reply w key 0x06060000
  else
    let r := if !s.alive i then (0x08000022, s)
      else if s.standsBy w then (standByCode (f s).1, s)
      else let r := f s; if r.1 = 0 then (0, r.2.forward key []) else r
    r.2.reply w key r.1

/-- A command answered by whether it was accepted. -/
def accepted (r : Bool × State) : Nat × State := (if r.1 then 0 else 0x08000022, r.2)

def State.modMod (s : State) (f : ModesSt → ModesSt) : State := { s with mod := f s.mod }
def State.modIsl (s : State) (f : IslandsSt → IslandsSt) : State := { s with isl := f s.isl }

/-! ### When two parties meet (R18, R21) -/

/-- The order of R21 among sources. -/
def sourceRank : Source → Nat
  | .keystone => 0 | .pier n => 1 + n.val | .logic => 5 | .service => 6 | .can => 7

/-- Who comes first: the source in the order of R21, within one source the lower channel. -/
def comesFirst (a b : Source × Nat) : Bool :=
  decide (sourceRank a.1 < sourceRank b.1) || (sourceRank a.1 == sourceRank b.1 && decide (a.2 < b.2))

/-- A writer as a source of R21: CAN A and CAN B are its channels, a service session another's. -/
def writerSource : Writer → Source × Nat
  | .logic => (.logic, 0)
  | .port c se => if c = 5 ∨ c = 6 then (.can, c) else (.service, se)

/-- R18: an instant more than 2³¹ core cycles after the destination's replica. -/
def implausible (replica inst : Nat) : Bool := decide (replica + 2147483648 < inst)

/-- Count a refusal of R18 at an island. -/
def countImplausible (i : Island) (s : State) : State := s.modIsl fun x => { x with implausible := countIn x.implausible i }

/-- Count a refusal of R21 at an island. -/
def countRefused (i : Island) (s : State) : State := s.modIsl fun x => { x with refused := countIn x.refused i }

/-- A linear glide's value at an instant (R58, R91, R115, R133). -/
def Glide.at_ (g : Glide) (t : Nat) : Rat :=
  if g.dur ≤ t - g.start then g.dst
  else g.src + (g.dst - g.src) * mkRat ((t - g.start : Nat) : Int) g.dur

end Sys2Proof.Machine
end

