-- ==== Sys2Proof/Machine/ClockOps.lean ====
section
/-!
DEFINITION. Time bases as straight lines through module time (R283), when they are good (R284), their status objects (Table
12.12), holdover, and whether any clock runs (R278 to R280).
-/

namespace Sys2Proof.Machine

def State.modClk (s : State) (f : ClockSt → ClockSt) : State := { s with clk := f s.clk }
def State.modBase (s : State) (b : Fin 3) (f : BaseSt → BaseSt) : State := s.modClk fun c => { c with base := c.base.set b (f c.base[b]) }
def State.modPll (s : State) (p : Fin 2) (f : PllSt → PllSt) : State := s.modClk fun c => { c with pll := c.pll.set p (f c.pll[p]) }

/-- A core cycle in ns. -/
def nsCycle : Rat := mkRat 244140625 100000000

/-- The base with the segment that is in force at a module-time instant (R283). -/
def BaseSt.inForce (b : BaseSt) (m : Nat) : BaseSt :=
  match b.next with
  | some (m0, n0, r) => if m0 ≤ m then { b with m0 := m0, n0 := n0, r := r, next := none } else b
  | none => b

/-- A segment's value at a module-time instant in ns: n₀ + (m − m₀) × 2.44140625 ns × (1 + r) (R283). -/
def BaseSt.line (b : BaseSt) (m : Nat) : Rat :=
  mkRat b.n0 65536 + (((m : Int) - b.m0 : Int) : Rat) * nsCycle * (1 + mkRat b.r 1099511627776)

/-- The base's value at a module-time instant in ns. -/
def BaseSt.at_ (b : BaseSt) (m : Nat) : Rat := (b.inForce m).line m

/-- The module time of a base instant by the segment held first, rounded up to a whole core cycle (R283). -/
def BaseSt.mtOf (b : BaseSt) (ns : Nat) : Nat :=
  let k := nsCycle * (1 + mkRat b.r 1099511627776)
  if k ≤ 0 then b.m0 else ((b.m0 : Int) + (((ns : Rat) - mkRat b.n0 65536) / k).ceil).toNat

/-- Good: LOCKED and |θ| within the bound: 10 µs, for TT one core cycle (R284, R288). -/
def BaseSt.good (b : BaseSt) (tt : Bool) : Bool := b.st == 2 && decide (absR b.theta ≤ (if tt then nsCycle else 10000))

def baseGood (s : State) (b : Fin 3) : Bool := s.clk.base[b].good (b == 2)
/-- Twin time in core cycles at an instant of module time (R288). -/
def ttCycles (s : State) (mt : Nat) : Nat := (s.clk.base[(2 : Fin 3)].at_ mt / nsCycle).floor.toNat
/-- The module time of an instant in twin time, in core cycles (R20). -/
def mtOfTt (s : State) (tt : Nat) : Nat :=
  let b := s.clk.base[(2 : Fin 3)].inForce s.now
  let k := nsCycle * (1 + mkRat b.r 1099511627776)
  if k ≤ 0 then b.m0 else ((b.m0 : Int) + (((tt : Rat) * nsCycle - mkRat b.n0 65536) / k).ceil).toNat
def ntaGood (s : State) : Bool := baseGood s 0
def ntaAt (s : State) (mt : Nat) : Nat := (s.clk.base[(0 : Fin 3)].at_ mt).floor.toNat
def mtOfNta (s : State) (ns : Nat) : Nat := (s.clk.base[(0 : Fin 3)].inForce s.now).mtOf ns

/-- The status, offset, rate and holdover objects of a base. -/
def statusKey (b : Fin 3) : Nat := if h : b.val < 2 then Obj.TIM_NTA_STATUS ⟨b.val, h⟩ else Obj.TIM_TT_STATUS
def offsetKey (b : Fin 3) : Nat := if h : b.val < 2 then Obj.TIM_NTA_OFFSET ⟨b.val, h⟩ else Obj.TIM_TT_OFFSET
def rateKey (b : Fin 3) : Nat := if h : b.val < 2 then Obj.TIM_NTA_RATE ⟨b.val, h⟩ else Obj.TIM_TT_RATE
def nowKey (b : Fin 3) : Nat := if h : b.val < 2 then Obj.TIM_NTA_NOW ⟨b.val, h⟩ else Obj.TIM_TT_NOW
def holdKey (b : Fin 3) : Nat := if h : b.val < 2 then Obj.TIM_NTA_HOLDOVER_TIME ⟨b.val, h⟩ else Obj.TIM_TT_HOLDOVER_TIME

/-- The portState enumeration of the standard the spec names (PRESUMED, log 21): 2 FAULTY, 3 DISABLED, 4 LISTENING, 6 MASTER, 8 UNCALIBRATED,
9 SLAVE; 0 for TT. -/
def portState (s : State) (b : Fin 3) : Nat :=
  let x := s.clk.base[b]
  if h : b.val < 2 then
    if !s.bit (Obj.TIM_NTA_CFG ⟨b.val, h⟩) 0 then 3
    else if x.gm then 6
    else if x.st = 1 then 8 else if x.st = 2 ∨ x.st = 3 then 9 else if x.st = 5 then 2 else 4
  else 0

/-- The time in the present holdover, in ms (Table 12.7). -/
def holdoverMs (s : State) (b : Fin 3) : Nat := if s.clk.base[b].st = 4 then s.since s.clk.base[b].holdFrom / cyclesMs else 0

/-- STATE, GOOD and STEPPED of a base, its GOOD bit in TIM_STATUS, θ and r (Tables 12.7, 12.9, 12.12). -/
def showBase (b : Fin 3) (s : State) : State :=
  let x := s.clk.base[b]
  let g := baseGood s b
  let s := ((s.setField (statusKey b) 0 3 x.st).setBit (statusKey b) 3 g).setBit (statusKey b) 4 x.stepped
  let s := ((s.setBit (statusKey b) 6 x.gm).setField (statusKey b) 8 4 (portState s b)).setBit Obj.TIM_STATUS (13 + b.val) g
  let s := if x.gm || (x.st != 2 && x.st != 3) then s.setBit (statusKey b) 5 false else s
  let s := s.setR (offsetKey b) (r32 x.theta)
  let s := s.setR (rateKey b) (r32 (mkRat (x.r * 1000000) 1099511627776))
  s.setN (holdKey b) (holdoverMs s b)

/-- A base enters HOLDOVER from LOCKED or CONVERGING, and ACQUIRING starts anew (R284): causes 1 no Sync, 2 reference, 3 network
PLL or link. A grandmaster's own base and the primary's TT stay LOCKED (R287, R288). -/
def baseHoldover (b : Fin 3) (cause : Nat) (s : State) : State :=
  let x := s.clk.base[b]
  if x.gm || (b == 2 && s.twn.primary) then s
  else if x.st = 2 ∨ x.st = 3 then
    let s := s.modBase b fun x => { x with st := 4, holdFrom := s.now, leftLocked := if x.st = 2 then s.now else x.leftLocked }
    showBase b (s.log 0x5009 [b.val, cause])
  else if x.st = 1 then showBase b (s.modBase b fun x => { x with agree := 0, lastTheta := none })
  else s

/-- NTA and NTB are LOST when the network island is fenced (Table 12.3). -/
def baseLost (b : Fin 3) (s : State) : State :=
  if s.clk.base[b].st = 5 then s else showBase b ((s.modBase b fun x => { x with st := 5 }).log 0x500E [b.val])

/-- Some PLL is locked, so that the islands receive core cycles. -/
def clockRuns (s : State) : Bool := s.clk.pll[(0 : Fin 2)].locked || s.clk.pll[(1 : Fin 2)].locked

/-! ### The clock tree (R12, R27, Table 1.9) -/

/-- The islands of the control die, each with its own clock switch between PLL-A and PLL-B. -/
def switchIslands : List Island := [.pier 0, .pier 1, .pier 2, .pier 3, .edge, .logic, .network, .keystone, .house, .link]

/-- The island whose selected PLL clocks an island: the forwarded clocks of the acquisition and driver dies come from the edge island's tree
(DESIGN CHOICE, log 150). -/
def clockRoot (i : Island) : Island := if i ∈ switchIslands then i else .edge

/-- What clocks an island. -/
inductive ClockSource where
  | pllA | pllB | rc | selector | muted
deriving DecidableEq, Repr

/-- The source of an island's clock: the PLL its switch selects unless that is muted (R278); the keystone falls back on its RC oscillator, and
the abutment runs on the reference selector. -/
def islandClock (s : State) (i : Island) : ClockSource :=
  if i = .abutment then .selector
  else
    let b := decide (clockRoot i ∈ s.clk.onB)
    if s.clk.pll[if b then (1 : Fin 2) else 0].locked then (if b then .pllB else .pllA) else if i = .keystone then .rc else .muted

/-- Every clock switch on PLL `p` moves to the sister at its own next point where both inputs are low (R27, R279). -/
def switchClocks (p : Fin 2) (s : State) : State :=
  s.modClk fun c => { c with onB := if p.val = 0 then switchIslands else [] }

end Sys2Proof.Machine
end

