-- ==== Sys2Proof/Machine/NetOps.lean ====
section
/-!
DEFINITION. Ports and sessions as other chapters see them (chapter 14): service access (R331), the dictionary's reach (R328),
transmission on CAN (R350), and whether an Ethernet port has a link.
-/

namespace Sys2Proof.Machine

def State.modNet (s : State) (f : NetSt → NetSt) : State := { s with net := f s.net }
def State.modCan (s : State) (c : Fin 2) (f : CanSt → CanSt) : State := s.modNet fun x => { x with can := x.can.set c (f x.can[c]) }

/-- A session holds service access (R331); the logic engine has no session. -/
def serviceOk (s : State) (w : Writer) : Bool :=
  match w with
  | .logic => false
  | .port _ _ => s.net.rights.any fun r => r.1 == w.ownerWord

/-- An Ethernet port has a link: the code 2 stands for E1 and E2 behind the switch, 3 for E3, 4 for E4 (Table 14.1); PHY links are
down while the network PLL is unlocked (R281), and E3 and E4 while PHY die 2 is shed (R440). -/
def portUp (s : State) (p : Nat) : Bool :=
  s.alive .network && s.clk.netLocked &&
    match p with
    | 2 => s.net.link[(0 : Fin 4)] || s.net.link[(1 : Fin 4)]
    | 3 => s.net.link[(2 : Fin 4)] && !s.sup.shed
    | 4 => s.net.link[(3 : Fin 4)] && !s.sup.shed
    | _ => false

/-- NET_STATUS follows ownership, sessions, links and the bypass (Table 14.9). -/
def showNet (s : State) : State :=
  let n := s.net
  let link (i : Fin 4) : Nat := boolNat n.link[i]
  s.setN Obj.NET_STATUS (boolNat n.bypass + 2 * link 0 + 4 * link 1 + 8 * link 2 + 16 * link 3
    + 32 * boolNat (n.can[(0 : Fin 2)].st == 5) + 64 * boolNat (n.can[(1 : Fin 2)].st == 5)
    + 128 * boolNat (s.objN Obj.NET_OWNER != 0) + 256 * boolNat (!n.rights.isEmpty) + 512 * boolNat (s.fenced .house))

/-- Ownership ends other than by release (R330): causes 1 timeout, 2 session closed, 3 link down, 4 bus-off, 5 take-over or
handover. -/
def ownerEnds (cause : Nat) (s : State) : State :=
  let o := s.objN Obj.NET_OWNER
  if o = 0 then s
  else showNet ((s.setN Obj.NET_OWNER 0).log 0x7004 [(o % 16 : Nat), (o / 16 : Nat), cause])

/-- A service session ends with its ownership and service access (R341); causes: 1 CLOSE, 2 timeout, 3 link down. -/
def sessionEnds (id cause : Nat) (s : State) : State :=
  match s.net.sessions.find? fun x => x.id == id with
  | none => s
  | some x =>
    let word := x.port + 16 * id
    let s := s.modNet fun n => { n with
      sessions := n.sessions.filter fun y => y.id != id
      rights := n.rights.filter fun r => r.1 != word
      challenges := n.challenges.filter fun r => r.1 != word }
    let s := (s.setN Obj.NET_SESSIONS s.net.sessions.length).log 0x700E [x.port, id, cause]
    showNet (if s.objN Obj.NET_OWNER = word then ownerEnds (if cause = 3 then 3 else 2) s else s)

/-- Sessions whose port has no link any more end (R341). -/
def linkReview (s : State) : State :=
  (s.net.sessions.filter fun x => !portUp s x.port).foldl (fun s x => sessionEnds x.id 3 s) s

/-- A link of E1 to E4 goes up or down (R347); speed in Mb/s, 0 for down. -/
def setLink (p : Fin 4) (up : Bool) (speed : Nat) (s : State) : State :=
  if s.net.link[p] = up then s
  else linkReview (showNet ((s.modNet fun n => { n with link := n.link.set p up }).log 0x700A [p.val + 1, if up then speed else 0]))

/-- The bypass relays change (R346). -/
def setBypass (closed : Bool) (cause : Nat) (s : State) : State :=
  if s.net.bypass = closed then s
  else
    let s := s.modNet fun x => { x with bypass := closed, link := (x.link.set 0 false).set 1 false }
    linkReview (showNet (s.log 0x700B [boolNat closed, cause]))

/-- Every service access ends, at entry into a run mode (R331). -/
def endService (s : State) : State := showNet (s.modNet fun x => { x with rights := [] })

/-- A CAN port is in use: enabled, not in bus-off, its island acting (R338, Table 14.10). -/
def canOn (s : State) (c : Fin 2) : Bool :=
  s.bit (Obj.NET_CAN_CFG c.val) 5 && !s.net.can[c].busOff && s.alive .network && !s.viaductSecondary

/-- A CAN port transmits: enabled, not bus-off, network island acting; in duplex only the active module (R338, R350). -/
def canSends (s : State) (c : Fin 2) : Bool :=
  canOn s c && !s.standby

def canPort (c : Fin 2) : Nat := 5 + c.val

/-- A CAN port's state changes (R336). -/
def canGo (c : Fin 2) (st : Nat) (s : State) : State :=
  showNet (s.modCan c fun x => { x with st := st, sdo := if st = 4 then none else x.sdo })

/-- The boot-up message and what follows it (Table 14.4, R336): pre-operational, or operational with AUTO_OP. -/
def bootUp (c : Fin 2) (s : State) : State :=
  if !canOn s c then s
  else
    let s := if canSends s c then s.send (canPort c) 31 [s.objN Obj.MOD_NODE_NUMBER] else s
    canGo c (if s.bit (Obj.NET_CAN_CFG c.val) 4 then 5 else 127) (s.modCan c fun x => { x with booted := true, hbAt := s.now, sdo := none })

/-- The oldest EMCY that waits at a port goes out once the inhibit time of 0x1015, in 100 µs, has passed since the last one (Table 14.4). -/
def emcySend (s : State) (c : Fin 2) : State :=
  let x := s.net.can[c]
  let free := match x.emcyAt with | some t => decide (s.objN Obj.CIA_EMCY_INHIBIT * 40960 ≤ s.since t) | none => true
  match x.emcyWait with
  | e :: rest =>
    if free && canSends s c && x.st != 4 then
      (s.modCan c fun x => { x with emcyAt := some s.now, emcyWait := rest }).send (canPort c) 30 e
    else s
  | [] => s

def emcyRelease (s : State) : State := ([0, 1] : List (Fin 2)).foldl emcySend s

/-- EMCY (R339): code, cause, stage or 0xFF, mode, from each port in pre-operational or operational; the pre-defined error field
keeps the last eight (Table 14.6). -/
def emcy (code cause stage : Nat) (s : State) : State :=
  let s := ([0, 1] : List (Fin 2)).foldl (fun s c =>
    if canSends s c && s.net.can[c].booted && s.net.can[c].st != 4 then
      s.modCan c fun x => { x with emcyWait := x.emcyWait ++ [[(code : Int), cause, stage, s.mod.mode.code]] }
    else s) s
  let s := emcyRelease s
  let s := (List.range 7).reverse.foldl (fun s i => s.setN (Obj.CIA_ERROR_FIELD (i + 1)) (s.objN (Obj.CIA_ERROR_FIELD i))) s
  let s := s.setN (Obj.CIA_ERROR_FIELD 0) (code + 65536 * cause)
  s.setN Obj.CIA_ERROR_COUNT (min 8 (s.objN Obj.CIA_ERROR_COUNT + 1))

end Sys2Proof.Machine
end

