-- ==== Sys2Proof/Machine/AcqOps.lean ====
section
/-!
DEFINITION. Basic operations of the sample island (chapter 10): start sources (R229, R231), channels in use (R239),
substitutes (R243), chain figures (R247 to R253) and steps (R251).
-/

namespace Sys2Proof.Machine

def State.modAcq (s : State) (f : AcqSt → AcqSt) : State := { s with acq := f s.acq }
def State.modAdc (s : State) (c : AdcId) (f : AdcSt → AdcSt) : State := s.modAcq fun a => { a with adc := a.adc.set c (f a.adc[c]) }
def State.modChain (s : State) (c : ChainId) (f : ChainSt → ChainSt) : State := s.modAcq fun a => { a with chain := a.chain.set c (f a.chain[c]) }

def allAdcs : List AdcId := List.finRange 24
def allChains : List ChainId := List.finRange 16

/-- Start type and index of a channel (Table 10.3). -/
def startType (s : State) (c : AdcId) : Nat := s.field (Obj.ACQ_CH_START c) 0 4
def startIndex (s : State) (c : AdcId) : Nat := s.field (Obj.ACQ_CH_START c) 4 7

/-- A conversion of a channel is in progress, or its converter runs without pause (R230, R232). -/
def converting (s : State) (c : AdcId) : Bool :=
  let t := startType s c
  if t = 0 ∨ t = 1 then true
  else if t = 2 ∨ t = 3 then (match s.acq.adc[c].conv with | some v => decide (v.start ≤ s.now) | none => false)
  else false

/-- The channels a trigger event or timer starts. -/
def startedBy (s : State) (type index : Nat) : List AdcId := allAdcs.filter fun c => startType s c == type && startIndex s c == index

/-- A single conversion is started at an instant (R231): one start is held during a conversion, a further one is dropped. -/
def startConv (at_ : Nat) (off : Bool) (s : State) (c : AdcId) : State :=
  let a := s.acq.adc[c]
  match a.conv, a.held with
  | none, _ => s.modAdc c fun a => { a with conv := some ⟨at_, off⟩ }
  | some _, none => s.modAdc c fun a => { a with held := some ⟨at_, off⟩ }
  | some _, some _ => (s.bump (Obj.ACQ_START_OVERLAP c)).logOnce 0x400C c.val [c.val + 1]

/-- A trigger event fires (R181): the conversions it starts begin after the trigger's delay. -/
def triggerEvent (ev delay : Nat) (off : Bool) (s : State) : State :=
  if s.fenced .sample then s else (startedBy s 2 ev).foldl (startConv (s.now + delay) off) s

/-! ### The graph's inputs -/

/-- The SAR inputs, the chains and the chains read at the sample instant of a graph, and whether it reads the partner (R151, R253, R408). -/
def graphSar (g : GraphSpec) : List AdcId := g.inputs.filterMap fun x => match x with | .sar c => some c | _ => none
def graphChains (g : GraphSpec) : List ChainId := g.inputs.filterMap fun x => match x with | .chainAt c => some c | .chainLatest c => some c | _ => none
def graphAtSample (g : GraphSpec) : List ChainId := g.inputs.filterMap fun x => match x with | .chainAt c => some c | _ => none
def graphPartner (g : GraphSpec) : Bool := g.inputs.contains .partner

/-! ### Value words -/

/-- Word widths of FORMAT (R233). -/
def wordWidth (format : Nat) : Nat := if format = 0 then 16 else if format = 1 then 24 else 32

/-- The signed fraction of full scale that a value word carries, exactly, whatever its format (R233, R235). -/
def wordFraction (r : ResultSt) : Rat :=
  let w := wordWidth (bitsAt r.format 0 2)
  let b := min r.bits w
  let offset := bitsAt r.format 3 1 == 1
  let x : Int := if !offset && decide (2 ^ (w - 1) ≤ r.word) then r.word - 2 ^ w else r.word
  let x := if bitsAt r.format 2 1 = 1 then x / 2 ^ (w - b) else x
  mkRat (if offset then x - 2 ^ (b - 1) else x) (2 ^ (b - 1))

/-- A result as an INPUT block takes it, with its flags (R164, R235, Table 10.4); a fence marker has no trustworthy value. -/
def resultVal (s : State) (r : ResultSt) : InVal :=
  ⟨some (wordFraction r), bitsAt r.quality 0 1 == 1 || s.fenced .sample, bitsAt r.quality 4 1 == 1, bitsAt r.quality 3 1 == 1,
    bitsAt r.quality 1 2 != 0 || bitsAt r.quality 7 1 == 1⟩

/-- What an input reads before its first result: value and quality as their objects stand at reset (Tables 10.7, 10.11). -/
def noResult (s : State) : InVal := ⟨some 0, s.fenced .sample, false, false, false⟩

/-! ### Filter chains -/

/-- The chain's configuration (Table 10.9). -/
def chainOn (s : State) (c : ChainId) : Bool := s.bit (Obj.ACQ_FC_CFG c) 0
def chainInput (s : State) (c : ChainId) : Nat := s.field (Obj.ACQ_FC_CFG c) 1 5
def cicN (s : State) (c : ChainId) : Nat := s.field (Obj.ACQ_FC_CFG c) 6 2
def cicJ (s : State) (c : ChainId) : Nat := s.field (Obj.ACQ_FC_CFG c) 8 4
def firF (s : State) (c : ChainId) : Nat := s.field (Obj.ACQ_FC_CFG c) 12 2
def firTaps (s : State) (c : ChainId) : Nat := s.field (Obj.ACQ_FC_CFG c) 14 6 + 1
def chainCompat (s : State) (c : ChainId) : Bool := s.bit (Obj.ACQ_FC_CFG c) 20

/-- U of R251. -/
def unsettledCount (s : State) (c : ChainId) : Nat :=
  let r := 2 ^ cicJ s c
  let l := cicN s c * (r - 1) + 1 + r * (firTaps s c - 1)
  let d := 2 ^ (cicJ s c + firF s c)
  (l - 1 + d - 1) / d

/-- Core cycles between two samples of a chain's input: 64 for a SAR input; for a sigma-delta input its clock divisor, which
the spec states for the clock output and for Manchester (R245, R247). -/
def inputCycles (s : State) (c : ChainId) : Nat :=
  let i := chainInput s c
  if i < 24 then 64 else s.objN (Obj.ACQ_SD_CLK_DIV (Fin.ofNat 8 (i - 24)))

/-- Group delay τ in core cycles, rounded half up; 0 under PHASE 1 (R252). -/
def chainDelay (s : State) (c : ChainId) : Nat :=
  if chainCompat s c then 0
  else
    let r := 2 ^ cicJ s c
    ((cicN s c * (r - 1) + r * (firTaps s c - 1)) * inputCycles s c + 1) / 2

/-- Latency of R253. -/
def chainLatency (s : State) (c : ChainId) : Nat := if chainInput s c < 24 then 112 else 52

/-- The chain's derived objects follow its configuration. -/
def showChain (c : ChainId) (s : State) : State :=
  let cyc := inputCycles s c * 2 ^ (cicJ s c + firF s c)
  let s := (s.setN (Obj.ACQ_FC_DELAY c) (chainDelay s c)).setN (Obj.ACQ_FC_LATENCY c) (chainLatency s c)
  let s := (s.setN (Obj.ACQ_FC_UNSETTLED c) (unsettledCount s c)).setBit (Obj.ACQ_FC_STATUS c) 0 (chainOn s c && !s.acq.chain[c].checkFailed)
  s.setR (Obj.ACQ_FC_RATE c) (if chainOn s c && decide (0 < cyc) then r32 (mkRat 409600000 cyc) else 0)

/-- A step (R251): the next U outputs are unsettled; a fade in progress ends at once. -/
def chainStep (c : ChainId) (s : State) : State :=
  let h := s.acq.chain[c]
  let s := s.modChain c fun h => { h with unsettled := unsettledCount s c, fade := none, active := if h.fade.isSome then !h.active else h.active }
  if h.fade.isSome then ((s.setBit (Obj.ACQ_FC_STATUS c) 2 false).setBit (Obj.ACQ_FC_STATUS c) 1 s.acq.chain[c].active) else s

/-- A corrected conversion of a SAR channel enters every running chain that reads it (R229, R247). -/
def feedChains (c : AdcId) (x : Int × Nat × Nat) (s : State) : State :=
  allChains.foldl (fun s i =>
    if chainOn s i && chainInput s i == c.val && !s.acq.chain[i].checkFailed then s.modChain i fun h => { h with queue := h.queue ++ [x] } else s) s

/-- Every running chain that reads an input takes a step. -/
def stepReaders (input : Nat) (s : State) : State :=
  allChains.foldl (fun s c => if chainOn s c && chainInput s c == input then chainStep c s else s) s

/-- The chains that read an input. -/
def readBy (s : State) (input : Nat) : Bool := allChains.any fun c => chainOn s c && chainInput s c == input

/-! ### Channels in use -/

def namesAdc (s : State) (key : Nat) (c : AdcId) : Bool := s.objN key == c.val + 1

/-- Whether an enabled stage names a SAR input by a configuration object that applies to its type (R239). -/
def stageNames (s : State) (n : StageId) (c : AdcId) : Bool :=
  let graph := match s.pie[n].graph with | some g => decide (c ∈ graphSar g) | none => false
  let gfi := s.isGfi n
  let line := gfi && ((List.range 3).any fun j => namesAdc s (Obj.SHR_LINE_CH n j) c)
  let far := gfi && ((List.range 3).any fun j => namesAdc s (Obj.SHR_TIE_FAR_CH n j) c)
  let cur := gfi && ((List.range 4).any fun j => namesAdc s (Obj.FRT_I_CH n j) c)
  let inp := (s.stype n == .afe || s.stype n == .dcdc || s.stype n == .iso) && namesAdc s (Obj.FRT_IN_CH n) c
  let diag := (List.range 4).any fun j => namesAdc s (Obj.GDV_DIAG_SENSE n j) c
  let ssd := s.isSsd n && ((List.range 3).any fun j => namesAdc s (Obj.SAF_SSD_CH n j) c)
  s.enabled n && (graph || line || far || cur || inp || diag || ssd)

/-- Bit src of a group's source mask (Table 8.11). -/
def groupHolds (s : State) (g : GroupId) (src : Nat) : Bool := s.bit (Obj.EDG_TRG_SRC g (src / 32)) (src % 32)

/-- R239: a channel is in use. -/
def channelInUse (s : State) (c : AdcId) : Bool :=
  (allStages.any fun n => stageNames s n c) || readBy s c.val ||
    ((List.finRange 8).any fun g => s.bit (Obj.EDG_TRG_CFG g) 0 && (groupHolds s g (8 + 2 * c.val) || groupHolds s g (9 + 2 * c.val)))

/-! ### Substitution -/

def substKind (s : State) (c : AdcId) : Nat := s.field (Obj.ACQ_CH_SUBST c) 0 2
def substA (s : State) (c : AdcId) : Option AdcId := idOf 24 (s.field (Obj.ACQ_CH_SUBST c) 2 5)
def substB (s : State) (c : AdcId) : Option AdcId := idOf 24 (s.field (Obj.ACQ_CH_SUBST c) 7 5)
def hasSubstitute (s : State) (c : AdcId) : Bool := substKind s c == 1 || substKind s c == 2

/-- A cause of substitution: applied at the next conversion boundary (R243), where ACQ_CH_SUBST allows. -/
def substitute (c : AdcId) (cause : Nat) (s : State) : State :=
  if hasSubstitute s c && !s.acq.adc[c].subst then s.modAdc c fun a => { a with substCause := some cause } else s

end Sys2Proof.Machine
end

