-- ==== Sys2Proof/Machine/TwinOps.lean ====
section
/-!
DEFINITION. The pair as other chapters see it (chapter 17): roles (R407, R416), the interlock (R413, Table 17.3), status bits
(Table 17.12), messages across the link, and the start of arbitration (R417).
-/

namespace Sys2Proof.Machine

def State.modTwn (s : State) (f : TwinSt → TwinSt) : State := { s with twn := f s.twn }

def isDuplex (s : State) : Bool := s.twn.mode == 2
def isViaduct (s : State) : Bool := s.twn.mode == 1
/-- The standby of a duplex pair (R416). -/
def isStandby (s : State) : Bool := s.standby
def linkUp (s : State) : Bool := decide (2 ≤ s.twn.link)
/-- The secondary of a pair. -/
def isSecondary (s : State) : Bool := s.twn.mode != 0 && !s.twn.primary

/-- A SAR input is wired to the module with this designation: 0 both, 1 primary only, 2 secondary only (Table 17.9). -/
def wiredTo (s : State) (primary : Bool) (c : AdcId) : Bool :=
  match s.objN (Obj.TWN_CH_WIRING c) with | 1 => primary | 2 => !primary | _ => true
/-- In duplex a SAR input must be wired to the module that converts it (R410). -/
def wiredHere (s : State) (c : AdcId) : Bool := !isDuplex s || wiredTo s s.twn.primary c
/-- A duplex module takes an input's conversions from its partner: the standby what the active module converts, the active module what is wired
to the other only; a partner that has fenced itself gives none (R410). -/
def takenFromPartner (s : State) (c : AdcId) : Bool :=
  isDuplex s && linkUp s && !s.twn.partnerFenced && wiredTo s (!s.twn.primary) c && (isStandby s || !wiredTo s s.twn.primary c)

/-- MOD_STATUS.ROLE (Table 2.8). -/
def roleCode (s : State) : Nat :=
  if s.twn.mode = 1 then (if s.twn.primary then 1 else 2)
  else if s.twn.mode = 2 then (if s.twn.active then 3 else if s.twn.formed then 4 else 0)
  else 0

/-- The claim request stands and reaches the hold circuit (R413). -/
def claimRequest (s : State) : Bool := (s.twn.request || s.twn.auto) && s.twn.held && s.mod.powered

/-- CLAIM_OUT and GRANT of Table 17.3. -/
def claimOut (s : State) : Bool :=
  claimRequest s && (s.twn.primary || s.twn.claimIn == .released)
def grantNow (s : State) : Bool :=
  if !isDuplex s then true
  else claimRequest s && (if s.twn.primary then s.twn.claimIn != .asserted else s.twn.claimIn == .released)

def claimInCode : ClaimIn → Nat
  | .released => 0 | .asserted => 1 | .open_ => 2

/-- TWN_STATUS and MOD_STATUS.ROLE follow the pair's state. -/
def showTwin (s : State) : State :=
  let t := s.twn
  let w := t.link + 4 * boolNat t.formed + 8 * boolNat t.lock + 16 * boolNat t.primary + 32 * boolNat t.conflict
    + 64 * boolNat t.mismatch + 128 * boolNat (claimOut s) + 256 * claimInCode t.claimIn + 1024 * boolNat (grantNow s)
    + 2048 * boolNat t.armed + 4096 * boolNat t.holdoff.isSome + 8192 * boolNat t.handover.isSome
    + 16384 * boolNat t.arb.isSome + 32768 * boolNat t.partnerFenced + 65536 * boolNat t.xfail
  (s.setN Obj.TWN_STATUS w).setField Obj.MOD_STATUS 8 3 (roleCode s)

/-- Something is sent to the partner across the Clauz link. -/
def linkSend (kind : Nat) (data : List Int) (s : State) : State := if linkUp s then s.send 9 kind data else s

/-- The compute-path test starts (R150): at once, pre-empting post work, or at the commit while a critical phase runs (Table 7.4). -/
def startSelftest (p : StageId) (s : State) : State :=
  if s.pie[p].work.isSome then s.modPier p fun q => { q with selftestDue := true }
  else (s.modPier p fun q => { q with selftest := some s.now, selftestDue := false }).setBit (Obj.PIE_STATUS p) 6 true

/-- A test that has waited for the critical phase starts as that ends. -/
def dueSelftest (p : StageId) (s : State) : State := if s.pie[p].selftestDue then startSelftest p s else s

/-- Arbitration starts (R417): the compute-path test runs on the pier concerned, or the verdict is fail at once when the pier
is fenced. -/
def arbStart (n : StageId) (cause : Nat) (s : State) : State :=
  if s.twn.arb.isSome || s.twn.selfFenced then s
  else
    let dead := s.fenced (.pier n)
    let s := s.log 0xA007 [cause, n.val]
    let s := s.modTwn fun t => { t with arb := some ⟨n, cause, if dead then some false else none, s.now, none⟩ }
    let s := if dead then linkSend 0xA007 [0, boolNat s.twn.armed, 0] s
      else startSelftest n s
    showTwin s

/-- The two digests of a stage and k are present (R411): equal ends a run of differences; the second difference in a row starts arbitration. -/
def digestSettle (n : StageId) (k : Nat) (equal : Bool) (s : State) : State :=
  if equal then s.modTwn fun t => { t with diffs := t.diffs.set n 0 }
  else
    let s := (s.bump Obj.TWN_MISMATCHES).log 0xA006 [n.val, k]
    let s := s.modTwn fun t => { t with diffs := t.diffs.set n (t.diffs[n] + 1), holdoff := none }
    showTwin (if 2 ≤ s.twn.diffs[n] then arbStart n 0xA006 s else s)

/-- The digests of a stage and k are compared when both are present: the own set has been sent and the partner's digest waits (R411). -/
def digestMeets (n : StageId) (k : Nat) (s : State) : State :=
  match s.pie[n].sent.find? (fun e => e.k == k), s.twn.digests.find? (fun d => d.1 == n && d.2.1 == k) with
  | some e, some d =>
    let s := s.modTwn fun t => { t with digests := t.digests.filter fun x => !(x.1 == n && x.2.1 == k) }
    digestSettle n k (decide (e.tally = d.2.2.1 ∧ e.check = d.2.2.2)) s
  | _, _ => s

end Sys2Proof.Machine
end

