-- ==== Sys2Proof/Machine/EdgeOps.lean ====
section
/-!
DEFINITION. The edge island's basic operations (chapter 8): ownership and routing of channels (R175, R182), dead time
(R178), placed edges up to an instant with the bootstrap charge they draw (R212), safe state (R192) and blocking at input loss
(R111).
-/

namespace Sys2Proof.Machine

def State.modEdg (s : State) (f : EdgeSt → EdgeSt) : State := { s with edg := f s.edg }
def State.modTb (s : State) (t : TbId) (f : TimebaseSt → TimebaseSt) : State := s.modEdg fun e => { e with tb := e.tb.set t (f e.tb[t]) }
def State.modCh (s : State) (c : ChanId) (f : ChanSt → ChanSt) : State := s.modEdg fun e => { e with ch := e.ch.set c (f e.ch[c]) }
def State.modSet (s : State) (o : Fin 8) (f : SetSt → SetSt) : State := s.modEdg fun e => { e with sets := e.sets.set o (f e.sets[o]) }
def State.modGrp (s : State) (g : GroupId) (f : GroupSt → GroupSt) : State := s.modEdg fun e => { e with grp := e.grp.set g (f e.grp[g]) }
def State.modGdv (s : State) (f : GateSt → GateSt) : State := { s with gdv := f s.gdv }
def State.modDrv (s : State) (d : DrvId) (f : DriverSt → DriverSt) : State := s.modGdv fun g => { g with drv := g.drv.set d (f g.drv[d]) }
def State.modPort (s : State) (p : PortId) (f : FibreSt → FibreSt) : State := s.modGdv fun g => { g with port := g.port.set p (f g.port[p]) }

def allChans : List ChanId := List.finRange 24
def allTbs : List TbId := List.finRange 8
def allGroups : List GroupId := List.finRange 8
def allDrvs : List DrvId := List.finRange 12
def allPorts : List PortId := List.finRange 8

/-! ### Ownership and routing -/

/-- OWNER of a channel (Table 8.13): 0 to 3 this module's stages, 4 to 7 the partner's, 15 none. -/
def chanOwner (s : State) (c : ChanId) : Nat := s.field (Obj.EDG_CH_CFG c) 0 4
def chanTb (s : State) (c : ChanId) : TbId := Fin.ofNat 8 (s.field (Obj.EDG_CH_CFG c) 4 3)
def chanReload (s : State) (c : ChanId) : Nat := s.field (Obj.EDG_CH_CFG c) 7 2
def chanRepeats (s : State) (c : ChanId) : Bool := s.bit (Obj.EDG_CH_CFG c) 9

/-- The channels an owner holds, lowest first (R175). -/
def ownedChans (s : State) (o : Nat) : List ChanId := allChans.filter fun c => chanOwner s c == o
def stageChans (s : State) (n : StageId) : List ChanId := ownedChans s n.val

/-- The owner index of a stage of this module. -/
def ownSets (n : StageId) : Fin 8 := ⟨n.val, by omega⟩

/-- EDG_ROUTE's code of an output (Table 8.11). -/
def outCode (c : ChanId) (high : Bool) : Nat := c.val + 1 + (if high then 0 else 0x80)
/-- The destinations, 0 to 27, an output goes to. -/
def destsOf (s : State) (c : ChanId) (high : Bool) : List Nat :=
  (List.range 28).filter fun j => s.objN (Obj.EDG_ROUTE j) == outCode c high
/-- The output routed to a destination. -/
def outputAt (s : State) (j : Nat) : Option (ChanId × Bool) :=
  let v := s.objN (Obj.EDG_ROUTE j)
  if h : 1 ≤ v ∧ v ≤ 24 then some (⟨v - 1, by omega⟩, true)
  else if h : 0x81 ≤ v ∧ v ≤ 0x98 then some (⟨v - 0x81, by omega⟩, false)
  else none
def drvOutput (s : State) (d : DrvId) : Option (ChanId × Bool) := outputAt s d.val
def portOutput (s : State) (p : PortId) : Option (ChanId × Bool) := outputAt s (12 + p.val)

/-- A channel on the external supply of the bootstrap option (R201, R211). -/
def bootstrapped (s : State) (d : DrvId) : Bool := s.bit (Obj.GDV_CH_CFG d) 2

/-- A driver channel's supply is moving to a new value, over 1 ms, while the channel is held off; a bootstrapped channel's is not the module's
(R201; DEDUCED, log 153). -/
def railMoving (s : State) (d : DrvId) : Bool :=
  let x := s.gdv.drv[d]
  !bootstrapped s d && (decide (s.now < x.von.start + x.von.dur) || decide (s.now < x.voff.start + x.voff.dur))

/-- R201: at a mode change the secondaries' converters begin to move to V_on and V_off as set. -/
def moveRails (s : State) : State :=
  let move (g : Glide) (v : Rat) : Glide := if g.dst = v then g else ⟨g.at_ s.now, v, s.now, cyclesMs⟩
  allDrvs.foldl (fun t d =>
    let von := move s.gdv.drv[d].von (mkRat (s.objI (Obj.GDV_CH_VON d)) 10)
    let voff := move s.gdv.drv[d].voff (mkRat (s.objI (Obj.GDV_CH_VOFF d)) 10)
    t.modDrv d fun x => { x with von := von, voff := voff }) s

/-- The stage of this module that owns a channel. -/
def chanStage (s : State) (c : ChanId) : Option StageId :=
  let o := chanOwner s c
  if h : o < 4 then some ⟨o, h⟩ else none
def drvStage (s : State) (d : DrvId) : Option StageId := (drvOutput s d).bind fun o => chanStage s o.1
def portStage (s : State) (p : PortId) : Option StageId := (portOutput s p).bind fun o => chanStage s o.1
/-- The integrated driver channels a stage uses. -/
def stageDrivers (s : State) (n : StageId) : List DrvId := allDrvs.filter fun d => drvStage s d == some n

/-! ### Dead time -/

/-- The guard floor G of a channel's destinations in 1/32 core cycle (R178, R208). -/
def guardFloor (s : State) (c : ChanId) : Nat :=
  let ds := (destsOf s c true ++ destsOf s c false).filter fun j => decide (j < 12)
  match ds with
  | [] => 1312
  | j :: _ => (s.objN (Obj.GDV_DIE_GUARD (j / 2)) * 131072 + 9999) / 10000

/-- DT_eff in 1/32 core cycle (R178). -/
def deadTime (s : State) (c : ChanId) : Nat := max (s.objN (Obj.EDG_CH_DEADTIME c)) (guardFloor s c)

def showDeadTime (c : ChanId) (s : State) : State :=
  s.setBit (Obj.EDG_CH_STATUS c) 0 (decide (s.objN (Obj.EDG_CH_DEADTIME c) < guardFloor s c))

/-! ### Edges up to an instant -/

/-- This instant in 1/32 core cycle. -/
def now32 (s : State) : Nat := s.now * 32

/-- A time in 1/32 core cycle as µs. -/
def us32 (t : Nat) : Rat := mkRat ((t : Int) * 10) 131072

/-- The bootstrap channel number of a channel's high output, where it is in bootstrap mode (R211). -/
def bootOf (s : State) (c : ChanId) : Option (Fin 4) :=
  if (destsOf s c true).contains 8 && s.bit (Obj.GDV_CH_CFG 8) 2 then some 0
  else if (destsOf s c true).contains 10 && s.bit (Obj.GDV_CH_CFG 10) 2 then some 2
  else none

/-- Charge drawn by leakage and the on-state over an interval (R212). -/
def drawOver (s : State) (b : Fin 4) (high : Bool) (q : Rat) (t0 t1 : Nat) : Rat :=
  let lk := mkRat (s.objI (Obj.GDV_BS_I_LK b)) 10
  let hs := mkRat (s.objI (Obj.GDV_BS_I_HS b)) 10
  q + (lk + if high then hs else 0) * us32 (t1 - t0)

/-- One placed edge takes place: outputs, their last turn-offs, and the drawn charge of a bootstrap channel. -/
def takeEdge (s : State) (boot : Option (Fin 4)) (c : ChanSt) (e : EdgeEv) : ChanSt :=
  let q0 := match boot with | some b => drawOver s b c.high c.charge c.chargeAt e.t | none => c.charge
  let c := { c with charge := q0, chargeAt := e.t }
  match e.high, e.on with
  | true, true =>
    if c.high then c
    else { c with high := true, highOn := e.t, charge := match boot with
                                                       | some _ => c.charge + (s.objN (Obj.GDV_CH_QG (if boot = some 0 then 8 else 10)) : Nat)
                                                       | none => c.charge }
  | true, false => if c.high then { c with high := false, highOff := e.t } else c
  | false, true => if c.low then c else { c with low := true, lowOn := e.t }
  | false, false =>
    if c.low then
      { c with low := false, lowOff := e.t
               charge := match boot with
                 | some b => maxR 0 (c.charge - mkRat (s.objI (Obj.GDV_BS_I_CH b)) 1 * us32 (e.t - c.lowOn))
                 | none => c.charge }
    else c

/-- GDV_CH_STATUS.ON and GDV_PORT_STATUS.LIT follow a channel's outputs; a turn-on releases the Miller clamp (R204). -/
def showOutputs (c : ChanId) (s : State) : State :=
  let out (hi : Bool) : Bool := if hi then s.edg.ch[c].high else s.edg.ch[c].low
  let s := allDrvs.foldl (fun s d => match drvOutput s d with
    | some (c', hi) =>
      if c' ≠ c then s
      else
        let s := s.setBit (Obj.GDV_CH_STATUS d) 0 (out hi)
        if out hi then s.setBit (Obj.GDV_CH_STATUS d) 3 false else s
    | none => s) s
  allPorts.foldl (fun s p => match portOutput s p with
    | some (c', hi) => if c' ≠ c then s else s.setBit (Obj.GDV_PORT_STATUS p) 0 (out hi && s.bit (Obj.GDV_PORT_CFG p) 0)
    | none => s) s

/-- The turn-ons among edges that take place await their acknowledges at the ports they are routed to (R217). -/
def awaitAcks (c : ChanId) (due : List EdgeEv) (s : State) : State :=
  allPorts.foldl (fun s p => match portOutput s p with
    | some (c', hi) =>
      let ons := (due.filter fun e => e.on && e.high == hi).map EdgeEv.t
      if c' ≠ c || ons.isEmpty || !s.bit (Obj.GDV_PORT_CFG p) 0 || !grantNow s then s
      else (s.modPort p fun f => { f with pendingOn := f.pendingOn ++ ons }).setBit (Obj.GDV_PORT_STATUS p) 1 true
    | none => s) s

/-- All edges placed up to this instant have taken place. -/
def settle (c : ChanId) (s : State) : State :=
  let boot := bootOf s c
  let t := now32 s
  let due := s.edg.ch[c].edges.filter fun e => decide (e.t ≤ t)
  let s := s.modCh c fun h =>
    let h' := due.foldl (takeEdge s boot) h
    let q := match boot with | some b => drawOver s b h'.high h'.charge h'.chargeAt t | none => h'.charge
    { h' with edges := h.edges.filter fun e => decide (t < e.t), charge := q, chargeAt := t }
  showOutputs c (awaitAcks c due s)

/-- The leg level at an instant in 1/32 core cycle. -/
def levelAt (h : ChanSt) (t : Nat) : Bool := ((h.toggles.filter fun g => decide (g.1 ≤ t)).getLast?.map (·.2)).getD h.level

/-- Both outputs of a channel turn off now, and nothing placed remains. -/
def outputsOff (c : ChanId) (s : State) : State :=
  let s := settle c s
  let t := now32 s
  let boot := bootOf s c
  showOutputs c (s.modCh c fun h =>
    takeEdge s boot (takeEdge s boot { h with edges := [], toggles := [], level := levelAt h t } ⟨t, true, false⟩) ⟨t, false, false⟩)

/-- Add an edge, in time order. -/
def insertEdge (e : EdgeEv) : List EdgeEv → List EdgeEv
  | [] => [e]
  | x :: t => if e.t < x.t then e :: x :: t else x :: insertEdge e t

/-- A channel's own driver is latched off by desaturation. -/
def desatLatched (s : State) (c : ChanId) : Bool :=
  allDrvs.any fun d => (drvOutput s d).map (·.1) == some c && s.bit (Obj.GDV_CH_STATUS d) 1

/-- R192: the edge island applies a stage's safe state in the cycle the command reaches it: outputs off, low outputs on after
DT_eff for an active short, the shadowed set discarded. -/
def edgeSafe (n : StageId) (s : State) : State :=
  if s.fenced .edge then s
  else
    let s := s.modSet (ownSets n) fun x => { x with shadow := none, deferred := false, safe := true }
    (stageChans s n).foldl (fun s c =>
      let s := (outputsOff c s).setBit (Obj.EDG_CH_STATUS c) 2 true
      if s.activeShort n && !desatLatched s c then
        s.modCh c fun h => { h with edges := insertEdge ⟨now32 s + deadTime s c, false, true⟩ h.edges }
      else s) s

/-- A stage is reset from SAFE: its safe state ends, its outputs are off. -/
def edgeUnsafe (n : StageId) (s : State) : State :=
  let s := s.modSet (ownSets n) fun x => { x with safe := false, force := none, shadow := none }
  (stageChans s n).foldl (fun s c => (outputsOff c s).setBit (Obj.EDG_CH_STATUS c) 2 false) s

/-- A stage's pulses are blocked (OFF, ARMED): no set in force, outputs off. -/
def edgeIdle (n : StageId) (s : State) : State :=
  if s.fenced .edge then s else
  let s := s.modSet (ownSets n) fun x => { x with force := none, shadow := none, deferred := false }
  (stageChans s n).foldl (fun s c => outputsOff c s) s

/-- R212: at entry into RUN the bootstrap capacitors of a stage are taken as empty: Q = C_bs × V_full in nC (0.1 µF and mV). -/
def bootEmpty (n : StageId) (s : State) : State :=
  if s.fenced .edge then s else
  (stageChans s n).foldl (fun s c => match bootOf s c with
    | some b => s.modCh c fun h =>
        { h with charge := mkRat (s.objI (Obj.GDV_BS_C b) * s.objI (Obj.GDV_BS_V_FULL b)) 10, chargeAt := now32 s, refreshed := false }
    | none => s) s

/-- R111: the input stage's channels are blocked, or released. -/
def edgeBlock (n : StageId) (on : Bool) (s : State) : State :=
  let s := s.modSet (ownSets n) fun x => { x with blocked := on }
  if on then (stageChans s n).foldl (fun s c => outputsOff c s) s else s

/-- The sample points of a timebase as a mask: 1 zero, 2 peak; and whether a channel reloads at a point (R173, R176). -/
def tbCentre (s : State) (t : TbId) : Bool := s.objN (Obj.EDG_TB_MODE t) == 1
def samplesAt (s : State) (t : TbId) (peak : Bool) : Bool :=
  let v := s.objN (Obj.EDG_TB_SAMPLE t)
  if peak then tbCentre s t && (v == 1 || v == 2) else v == 0 || v == 2
def reloadsAt (s : State) (c : ChanId) (peak : Bool) : Bool :=
  let r := chanReload s c
  if tbCentre s (chanTb s c) then (if peak then r == 1 || r == 2 else r == 0 || r == 2)
  else !peak && (r == 0 || r == 2)

/-- The interval between sample points (R173) and between a channel's reload points. -/
def sampleInterval (s : State) (t : TbId) : Nat :=
  let p := s.objN (Obj.EDG_TB_PERIOD t)
  if s.objN (Obj.EDG_TB_SAMPLE t) = 2 then p / 2 else p
def reloadInterval (s : State) (c : ChanId) : Nat :=
  let p := s.objN (Obj.EDG_TB_PERIOD (chanTb s c))
  if chanReload s c = 2 ∧ tbCentre s (chanTb s c) then p / 2 else p

end Sys2Proof.Machine
end

