-- ==== Sys2Proof/Machine/GalleryOps.lean ====
section
/-!
DEFINITION. A pier's gallery (chapter 11): event flags, records, conditions, triggers and their marks, and the open datagram
of its stream (R260 to R270).
-/

namespace Sys2Proof.Machine

def State.modGal (s : State) (p : StageId) (f : GalSt → GalSt) : State := { s with gal := s.gal.set p (f s.gal[p]) }

/-! ### binary32 words -/

/-- The binary32 encoding of a number already rounded (R153); overflow gives the infinity of its sign. -/
def f32Bits (q : Rat) : Nat :=
  let r := r32 q
  let sign := if r.num < 0 then 2147483648 else 0
  if r.num = 0 then 0
  else if !finite32 r then sign + 2139095040
  else
    let e := ratExponent r.num.natAbs r.den
    let m := (absR r * (if 0 ≤ 23 - e then ((2 ^ (23 - e).toNat : Nat) : Rat) else mkRat 1 (2 ^ (e - 23).toNat))).floor.toNat
    sign + (e + 127).toNat * 8388608 + (m - 8388608)

/-- A quiet NaN (R153). -/
def quietNaN : Nat := 2143289344

def f32Word (v : Option Rat) : Nat := match v with | some q => f32Bits q | none => quietNaN

/-! ### Event flags -/

/-- An event flag of Table 11.2 is met. -/
def galFlag (p : StageId) (bit : Nat) (s : State) : State :=
  s.modGal p fun g => { g with seen := g.seen ||| 2 ^ bit }

/-- The flags that stand as states of the stage are taken into the interval. -/
def galSense (p : StageId) (s : State) : State :=
  let st := s.objN (Obj.FRT_STATUS p)
  let inj := s.srv[p].active
  let cap := (stageChans s p).any fun c => s.bit (Obj.EDG_CH_STATUS c) 3
  let m := boolNat (s.stageSt p == .limit) + 2 * bitsAt st 0 1 + 4 * boolNat s.frt[p].coasting + 8 * bitsAt st 5 1
    + 64 * boolNat (s.srv[p].warned.toList.any id) + 128 * boolNat (s.srv[p].acted.toList.any id)
    + 4096 * boolNat (s.bit (Obj.SHR_STATUS p) 11) + 16384 * boolNat inj + 32768 * boolNat cap
  s.modGal p fun g => { g with seen := g.seen ||| m }

/-! ### Configuration -/

def galCapture (s : State) (p : StageId) : Bool := s.bit (Obj.GAL_CONFIG p) 0
def galStream (s : State) (p : StageId) : Bool := s.bit (Obj.GAL_CONFIG p) 1
def galDivider (s : State) (p : StageId) : Nat := s.field (Obj.GAL_CONFIG p) 2 4
def galRearm (s : State) (p : StageId) : Bool := s.bit (Obj.GAL_CONFIG p) 7

/-- The enabled nodes in sub-index order. -/
def galNodes (s : State) (p : StageId) : List Nat := (List.range 64).filter fun j => s.bit (Obj.GAL_NODE p j) 31

/-- Bytes of a record (R261). -/
def recordBytes (n : Nat) : Nat := 8 + 4 * n
def galDepth (n : Nat) : Nat := 1048576 / recordBytes n
/-- Records that fit a datagram (R268). -/
def datagramRecords (n : Nat) : Nat := 1448 / recordBytes n

/-- The wire rate of a pier's stream in bit/s (R269). -/
def wireRate (s : State) (p : StageId) (n divider : Nat) : Rat :=
  let r := datagramRecords n
  let per := s.tu p * 2 ^ divider * r
  if per = 0 then 0 else mkRat (8 * (24 + r * recordBytes n + 66) * 409600000) per

/-- GAL_DEPTH, the status bits and GAL_WIRE_RATE follow the engine. -/
def showGallery (p : StageId) (s : State) : State :=
  let g := s.gal[p]
  let cap := galCapture s p && s.dispatching p
  let s := s.setN (Obj.GAL_DEPTH p) (galDepth (galNodes s p).length)
  let s := s.setField (Obj.GAL_STATUS p) 0 4
    (boolNat cap + 2 * boolNat (galStream s p) + 4 * boolNat g.armed + 8 * boolNat g.holdoff.isSome)
  s.setR (Obj.GAL_WIRE_RATE p) (if galStream s p then r32 (wireRate s p (galNodes s p).length (galDivider s p) / 1000000) else 0)

/-! ### Streams -/

/-- A record as 32-bit words (Table 11.1). -/
def recordWords (r : GalRec) : List Nat :=
  [r.k % 4294967296, r.flags + (if r.mark then 4 else 0)] ++ r.vals.map f32Word

/-- Core cycles that a datagram of so many bytes on the wire occupies a port at the 300 Mb/s of throttle step 1 (Table 19.6). -/
def paceCycles (bytes : Nat) : Nat := (8 * bytes * 4096 + 2999) / 3000
/-- From throttle step 1 a port takes the next gallery datagram only when the last of any pier has had its time at 300 Mb/s. -/
def paced (s : State) (port : Nat) : Bool :=
  decide (1 ≤ s.objN Obj.THM_THROTTLE_STEP) && allStages.any fun q => s.objN (Obj.GAL_DEST_PORT q) == port && decide (s.now < s.gal[q].busyTo)

/-- The open datagram is sent (R268) to its address and UDP port: header of Table 11.4, then its records. A port that cannot accept it leaves it
open. -/
def sendDatagram (p : StageId) (s : State) : State :=
  let g := s.gal[p]
  let port := s.objN (Obj.GAL_DEST_PORT p)
  match g.datagram with
  | [] => s
  | r :: _ =>
    if !portUp s port || paced s port then s
    else
      let ne := r.vals.length
      let head : List Nat := [1 + 256 * p.val + 65536 * ne + 16777216 * g.datagram.length, g.seq % 4294967296,
        r.t0 / 4294967296, r.t0 % 4294967296, s.tu p * 2 ^ galDivider s p, g.dropped]
      let words := head ++ (g.datagram.map recordWords).flatten
      let to_ := [s.objN (Obj.GAL_DEST_IP p), s.objN (Obj.GAL_DEST_UDP p)]
      let s := s.send port 3 (((to_ ++ words).map Int.ofNat))
      let s := s.modGal p fun g => { g with
        datagram := [], seq := g.seq + 1, dropped := 0, busyTo := s.now + paceCycles (24 + g.datagram.length * recordBytes ne + 66) }
      (s.bump (Obj.GAL_DATAGRAMS p)).setBit (Obj.GAL_STATUS p) 5 false

/-- One waiting record is dropped for room: the oldest unmarked one, or the oldest where all are marked (R270). -/
def dropOne : List GalRec → List GalRec
  | [] => []
  | r :: l => if r.mark then (if l.any fun x => !x.mark then r :: dropOne l else l) else l

/-- So many records of a pier are dropped and counted (R270). -/
def countDropped (p : StageId) (k : Nat) (s : State) : State :=
  if k = 0 then s
  else
    let s := s.modGal p fun g => { g with dropped := g.dropped + k }
    ((s.setN (Obj.GAL_DROPPED p) (min 4294967295 (s.objN (Obj.GAL_DROPPED p) + k))).setBit (Obj.GAL_STATUS p) 5 true).logOnce 0x2502 p.val [p.val]

/-- The node selection changes: the open datagram is sent; records that its port cannot take are dropped, for no datagram mixes two
selections (R268, R270). -/
def closeDatagram (p : StageId) (s : State) : State :=
  let s := sendDatagram p s
  countDropped p s.gal[p].datagram.length (s.modGal p fun g => { g with datagram := [] })

/-- A record enters the stream (R268, R270). -/
def streamRecord (p : StageId) (r : GalRec) (s : State) : State :=
  if !galStream s p then s
  else
    let most := datagramRecords r.vals.length
    let full := decide (most ≤ s.gal[p].datagram.length)
    let s := s.modGal p fun g =>
      { g with openedAt := if g.datagram.isEmpty then s.now else g.openedAt,
               datagram := if full then dropOne (g.datagram ++ [r]) else g.datagram ++ [r] }
    let s := countDropped p (boolNat full) s
    if r.mark || decide (most ≤ s.gal[p].datagram.length) then sendDatagram p s else s

/-! ### Node values and conditions -/

/-- The value of a node (R263, Table 11.7): a block output or a report of the forming law; provisional values are those that
run-ahead computed, which no rule gives (DESIGN CHOICE, log 4). -/
def nodeValue (s : State) (p : StageId) (j : Nat) : Option Rat :=
  let w := s.objN (Obj.GAL_NODE p j)
  let src := bitsAt w 20 2
  if bitsAt w 30 1 = 1 then (if s.pie[p].provisional then some s.freeReal else none)
  else if src = 0 then
    match s.pie[p].blocks[bitsAt w 0 12]? with
    | some b => (b.outs[bitsAt w 12 8 - 0x80]?).join
    | none => none
  else some (s.objR (0x307000 + 0x40000 * p.val + bitsAt w 0 8))

/-- The values of the enabled nodes; a provisional node draws a free value. -/
def nodeValues (p : StageId) : List Nat → State → List (Option Rat) × State
  | [], s => ([], s)
  | j :: l, s =>
    let v := nodeValue s p j
    let s := if s.bit (Obj.GAL_NODE p j) 30 then s.draw else s
    let r := nodeValues p l s
    (v :: r.1, r.2)

/-- One condition bit (R265): previous value, node value before and now, the flags of the interval. -/
def condBit (s : State) (p : StageId) (i : Nat) (old : Bool) (x0 x : Option Rat) (seen : Nat) : Bool :=
  let w := s.objN (Obj.GAL_COND p i)
  let lvl := s.objR (Obj.GAL_COND_LEVEL p i)
  let hy := s.objR (Obj.GAL_COND_HYST p i)
  match bitsAt w 6 3, x0, x with
  | 1, _, some v => if lvl < v then true else if v < lvl - hy then false else old
  | 2, _, some v => if v < lvl then true else if lvl + hy < v then false else old
  | 3, some u, some v => decide (u < lvl) && decide (lvl ≤ v)
  | 4, some u, some v => decide (lvl < u) && decide (v ≤ lvl)
  | 5, _, _ => bitsAt seen (bitsAt w 9 4) 1 == 1
  | _, _, _ => false

/-- The value of node number j in a record's values. -/
def valueOf (nodes : List Nat) (vals : List (Option Rat)) (j : Nat) : Option Rat :=
  ((nodes.zip vals).find? fun e => e.1 == j).bind (·.2)

/-- φ of a masked condition that reached its pattern value (R266). Where the node did not move the formula states no value
(DESIGN CHOICE, log 4). -/
def fracOf (s : State) (p : StageId) (i : Nat) (x0 x : Option Rat) : Rat :=
  let kind := s.field (Obj.GAL_COND p i) 6 3
  match x0, x with
  | some u, some v =>
    if kind = 5 then 1
    else if u = v then s.freeReal
    else (s.objR (Obj.GAL_COND_LEVEL p i) - u) / (v - u)
  | _, _ => 1

/-- m of R266 from the largest fraction. -/
def markOf (phi : Rat) : Nat := min 256 (max 1 ((256 * phi).ceil.toNat))

/-- Writes that waited for the gallery's next record act; a change of nodes is marked, and its datagram is closed (R262,
R268). -/
def takeGalWrites (p : StageId) (s : State) : State :=
  let mine (w : ObjCell) : Bool := decide (0x5000 + 0x40 * p.val ≤ w.1 / 256) && decide (w.1 / 256 < 0x5040 + 0x40 * p.val)
  let ws := s.commitWrites.filter mine
  if ws.isEmpty then s
  else
    let nodes := ws.any fun w => w.1 / 256 == 0x5002 + 0x40 * p.val
    let s := { s with commitWrites := s.commitWrites.filter fun w => !mine w }
    let s := if nodes then closeDatagram p s else s
    let s := ws.foldl (State.setDue .nextCommit) s
    if nodes then s.modGal p fun g => { g with changed := true, prev := none } else s

/-- The trigger at a record of sample k at t₁: fires when armed and the pattern newly matches (R265 to R267). Answers the mark, if any. -/
def triggerAt (p : StageId) (k t1 : Nat) (gap : Bool) (nodes : List Nat) (vals : List (Option Rat)) (cond : Nat) (s : State) :
    Option Nat × State :=
  let g := s.gal[p]
  let mask := s.objN (Obj.GAL_TRG_MASK p)
  let pat := s.objN (Obj.GAL_TRG_PATTERN p)
  let hit := (Nat.xor cond pat) &&& mask == 0
  if !g.armed then (none, s)
  else if !hit then (none, s.modGal p fun g => { g with ready := true })
  else if !g.ready then (none, s)
  else
    let before := g.prev.getD []
    let reached := (List.range 64).filter fun i =>
      bitsAt mask i 1 == 1 && bitsAt cond i 1 == bitsAt pat i 1 && bitsAt g.cond i 1 != bitsAt pat i 1
    let phis := reached.map fun i =>
      let j := s.field (Obj.GAL_COND p i) 0 6
      fracOf s p i (valueOf nodes before j) (valueOf nodes vals j)
    let phi := if phis.isEmpty then 1 else phis.foldl maxR (phis.headD 1)
    let m := if gap || g.prevAt.isNone then 256 else markOf phi
    let t0 := g.prevAt.getD t1
    let at_ := (t0 : Int) + roundHalfUp (mkRat m 256 * (((t1 : Int) - t0 : Int) : Rat))
    let s := s.draw
    let s := ((s.setN (Obj.GAL_MARK_K p) (k % 4294967296)).setN (Obj.GAL_MARK_FRAC p) (m - 1)).setN (Obj.GAL_MARK_TIME p) at_.toNat
    let s := (s.bump (Obj.GAL_MARK_COUNT p)).log 0x2501 [p.val, k, m - 1]
    let s := s.modGal p fun g =>
      { g with armed := false, ready := false, holdoff := if galRearm s p then some (s.objN (Obj.GAL_TRG_HOLDOFF p)) else none }
    (some m, s)

/-- Sample k writes no record: the next one carries GAP (R262). -/
def galMiss (p : StageId) (k : Nat) (s : State) : State :=
  if galCapture s p && decide (k % 2 ^ galDivider s p = 0) then s.modGal p fun g => { g with missing := g.missing + 1 } else s

/-- One record at a post commit, of sample k at t₀ (R260 to R267). -/
def galleryRecord (p : StageId) (k t0 : Nat) (s : State) : State :=
  let s := takeGalWrites p (galSense p s)
  if !galCapture s p || !s.dispatching p || decide (k % 2 ^ galDivider s p ≠ 0) then s
  else
    let nodes := galNodes s p
    let (vals, s) := nodeValues p nodes s
    let g := s.gal[p]
    let before := g.prev.getD []
    let cond := maskOf ((List.range 64).filter fun i =>
      let j := s.field (Obj.GAL_COND p i) 0 6
      condBit s p i (bitsAt g.cond i 1 == 1) (valueOf nodes before j) (valueOf nodes vals j) g.seen)
    let gap := decide (0 < g.missing)
    let (mark, s) := triggerAt p k t0 gap nodes vals cond s
    let prov := nodes.any fun j => s.bit (Obj.GAL_NODE p j) 30
    let frac := match mark with | some m => (m - 1) * 256 | none => 0
    let flags := boolNat gap + 2 * boolNat prov + 8 * boolNat g.changed + frac + 16777216 * min 255 g.missing
    let r : GalRec := ⟨k, t0, mark.isSome, prov, flags, vals⟩
    let s := s.modGal p fun g =>
      { g with ring := (r :: g.ring).take (galDepth nodes.length), missing := 0, changed := false, cond := cond, prev := some vals,
               prevAt := some r.t0, seen := 0, holdoff := if mark.isSome then g.holdoff else g.holdoff.map fun n => n - 1 }
    showGallery p (streamRecord p r (s.bump (Obj.GAL_RECORDS p)))

end Sys2Proof.Machine
end

