-- ==== Sys2Proof/Machine/FieldOps.lean ====
section
/-!
DEFINITION. The abutment's outputs and inputs as other chapters see them (chapter 18): what each 24 V output and contactor
driver does (R429 to R435), and how a field input reads (R427, R428).
-/

namespace Sys2Proof.Machine

def State.modFio (s : State) (f : FieldSt → FieldSt) : State := { s with fio := f s.fio }
def State.modDi (s : State) (d : DiId) (f : DiSt → DiSt) : State := s.modFio fun x => { x with di := x.di.set d (f x.di[d]) }
def State.modDo (s : State) (o : DoId) (f : DoSt → DoSt) : State := s.modFio fun x => { x with out := x.out.set o (f x.out[o]) }
def State.modCd (s : State) (i : SocId) (f : CdSt → CdSt) : State := s.modFio fun x => { x with drv := x.drv.set i (f x.drv[i]) }
def State.modSaf (s : State) (f : SafetySt → SafetySt) : State := { s with saf := f s.saf }
def State.modSoc (s : State) (i : SocId) (f : SocSt → SocSt) : State := s.modSaf fun x => { x with soc := x.soc.set i (f x.soc[i]) }
def State.modSsd (s : State) (n : StageId) (f : SsdSt → SsdSt) : State := s.modSaf fun x => { x with ssd := x.ssd.set n (f x.ssd[n]) }
def State.modConn (s : State) (c : ConnId) (f : ConnSt → ConnSt) : State := s.modSaf fun x => { x with conn := x.conn.set c (f x.conn[c]) }

def allSocs : List SocId := [0, 1, 2, 3]
def allOuts : List DoId := List.finRange 12
def allDis : List DiId := List.finRange 16
def allConns : List ConnId := List.finRange 16

/-- OWNER of an SOC instance: 0 to 3 a stage, 4 the bus tie, 7 none (Table 15.9). -/
def socOwner (s : State) (i : SocId) : Nat := s.field (Obj.SAF_SOC_CFG i) 0 3
def socOwned (s : State) (i : SocId) : Bool := socOwner s i != 7

/-- The abutment has contactor enable (R25). -/
def cdEnabled (s : State) : Bool := s.isl.contactorEnable && !s.isl.contactorLapsed && s.alive .abutment

/-- The command in force: FIO_FORCE where it is enabled and the driver has no owner, else FIELD_OUT's (R435). -/
def outWanted (s : State) (o : DoId) : Bool :=
  match s.fio.force with | some v => bitsAt v (o.val + 1) 1 == 1 | none => s.fio.out[o].cmd
def drvWanted (s : State) (i : SocId) : Bool :=
  if socOwned s i then s.saf.soc[i].cmd
  else match s.fio.force with | some v => bitsAt v (i.val + 13) 1 == 1 | none => s.fio.drv[i].cmd

/-- A 24 V output is on (R430, R431). -/
def outOn (s : State) (o : DoId) : Bool :=
  outWanted s o && !s.fio.out[o].overload && !s.fio.out[o].overTemp && !s.fio.f24Bad && s.alive .abutment

/-- The two switches of a contactor driver, with a switch test in progress (R362, R432). -/
def drvSwitches (s : State) (i : SocId) : Bool × Bool :=
  let ok := cdEnabled s && !s.fio.drv[i].overc
  let w := drvWanted s i
  match s.saf.soc[i].test with
  | some (high, _, _) => if w then (ok && !high, ok && high) else (ok && high, ok && !high)
  | none => (ok && w, ok && w)

def showOut (o : DoId) (s : State) : State :=
  let x := s.fio.out[o]
  ((s.setBit (Obj.FIO_DO_STATUS o) 0 (outOn s o)).setBit (Obj.FIO_DO_STATUS o) 1 x.overload).setBit (Obj.FIO_DO_STATUS o) 3 x.overTemp

def showDrv (i : SocId) (s : State) : State :=
  let (h, l) := drvSwitches s i
  let s := s.modCd i fun x => { x with high := h, low := l }
  let s := ((s.setBit (Obj.FIO_CD_STATUS i) 0 h).setBit (Obj.FIO_CD_STATUS i) 1 l).setBit (Obj.FIO_CD_STATUS i) 2 s.fio.drv[i].overc
  s.setBit (Obj.FIO_CD_STATUS i) 5 (socOwned s i)

/-- Every output and driver follows its command and its conditions; FIO_STATUS with them (Table 18.8). -/
def showField (s : State) : State :=
  let s := allOuts.foldl (fun s o => showOut o s) s
  let s := allSocs.foldl (fun s i => showDrv i s) s
  ((s.setBit Obj.FIO_STATUS 0 s.fio.f24Bad).setBit Obj.FIO_STATUS 2 s.fio.force.isSome).setBit Obj.FIO_STATUS 3 (cdEnabled s)

/-- Lateness of a command in core cycles is kept as a maximum; beyond 1 ms it is logged (R435). -/
def noteLateness (lateness : Nat) (s : State) : State :=
  let s := if s.objN Obj.FIO_MAX_LATENESS < lateness then s.setN Obj.FIO_MAX_LATENESS lateness else s
  if cyclesMs < lateness then s.logOnce 0xB00C 0 [lateness] else s

/-- A 24 V output takes a command; off releases an overload latch (R430, R435). -/
def fieldOut (o : DoId) (on : Bool) (lateness : Nat) (s : State) : State :=
  if !s.alive .abutment then s
  else showOut o (noteLateness lateness (s.modDo o fun x => { x with cmd := on, overload := x.overload && (on || s.fio.force.isSome) }))

/-- A FIELD_OUT command to a contactor driver; one with an owner ignores and counts it (R433). -/
def driverOut (i : SocId) (on : Bool) (lateness : Nat) (s : State) : State :=
  if !s.alive .abutment then s
  else if socOwned s i then (s.bump (Obj.FIO_CD_IGNORED i)).logOnce 0xB00B i.val [i.val + 1]
  else showDrv i (noteLateness lateness (s.modCd i fun x => { x with cmd := on }))

/-! ### Inputs -/

/-- The filtered state as reported, with INVERT (Table 18.6). -/
def diReported (s : State) (d : DiId) : Bool := s.fio.di[d].st != s.bit (Obj.FIO_DI_CFG d) 1

/-- How an input named as cover, stop or auxiliary contact reads: closed, but open while it holds a line fault or the abutment
is fenced (R428, Table 1.8). -/
def diClosed (s : State) (d : DiId) : Bool := s.fio.di[d].fault.isNone && s.alive .abutment && diReported s d

/-- The input named by a dictionary object, as closed; `dflt` where none is named. -/
def namedClosed (s : State) (key : Nat) (dflt : Bool) : Bool :=
  match idOf 16 (s.objN key) with | some d => diClosed s d | none => dflt

def coverClosed (s : State) : Bool := namedClosed s Obj.SAF_COVER_INPUT false
def stopOpen (s : State) : Bool := !namedClosed s Obj.SAF_STOP_INPUT true

/-- The auxiliary contact of an SOC instance reads the energised state: mirror or make (R361). -/
def auxEnergised (s : State) (i : SocId) : Bool :=
  match idOf 16 (s.objN (Obj.SAF_SOC_AUX i)) with
  | some d => diClosed s d == s.bit (Obj.SAF_SOC_CFG i) 3
  | none => false

def showDi (d : DiId) (s : State) : State :=
  let x := s.fio.di[d]
  s.setField (Obj.FIO_DI_STATUS d) 0 4 (boolNat (diReported s d) + 2 * boolNat x.raw
    + 4 * boolNat (x.fault == some .wireBreak) + 8 * boolNat (x.fault == some .short))

end Sys2Proof.Machine
end

