-- ==== Sys2Proof/Machine/SocOps.lean ====
section
/-!
DEFINITION. Safe output contactor control as its requesters see it (R361, R362, R368): which instance serves a stage or the tie,
when it may close, and its opening; and the permit words of command connections (R379).
-/

namespace Sys2Proof.Machine

/-- The instance that names an owner. -/
def socOf (s : State) (owner : Nat) : Option SocId := allSocs.find? fun i => socOwner s i == owner

/-- A connection in use as a consumer of permits (Table 15.9). -/
def isCommand (s : State) (c : ConnId) : Bool :=
  s.bit (Obj.SAF_CONN_CFG c) 0 && !s.bit (Obj.SAF_CONN_CFG c) 1 && s.bit (Obj.SAF_CONN_CFG c) 4

/-- The permit word of a connection; all zero at its safe value (R377, R379). -/
def permitWord (s : State) (c : ConnId) : Nat :=
  if s.saf.conn[c].safe then 0
  else (s.saf.conn[c].payload.take 4).foldl (fun w b => w * 256 + b % 256) 0

/-- Some command connection holds a permit bit at 0. -/
def permitDenied (s : State) (bit : Nat) : Bool := allConns.any fun c => isCommand s c && bitsAt (permitWord s c) bit 1 == 0

/-- SAF_SOC_STATUS and the instance's bits of SAF_STATUS (Tables 15.7, 15.10). -/
def showSoc (i : SocId) (s : State) : State :=
  let x := s.saf.soc[i]
  let s := s.setBit (Obj.SAF_SOC_STATUS i) 0 x.cmd
  let s := s.setBit (Obj.SAF_SOC_STATUS i) 1 x.energised
  let s := s.setBit (Obj.SAF_SOC_STATUS i) 2 x.fault
  let s := s.setBit (Obj.SAF_SOC_STATUS i) 4 x.test.isSome
  let s := (s.setBit Obj.SAF_STATUS (12 + i.val) x.energised).setBit Obj.SAF_STATUS (16 + i.val) x.fault
  showDrv i s

/-- An immediate demand stands on every stage: the cover reads open, or a connection's NO_IMMEDIATE is 0 (R372, R379). -/
def demandOnAll (s : State) : Bool := !coverClosed s || permitDenied s 8

/-- An immediate demand stands on a stage (R372): also by its RUN permit where it does not carry SSD. -/
def demandOn (s : State) (n : StageId) : Bool := demandOnAll s || (!s.isSsd n && permitDenied s n.val)

/-- A demand stands on the stage that owns an instance (R372). -/
def ownerDemanded (s : State) (i : SocId) : Bool :=
  let o := socOwner s i
  if h : o < 4 then demandOn s ⟨o, h⟩ else false

/-- Why an instance may not close (R361), in the order of its conditions: 2 contactor enable, 3 start-up test or cover, 4 permit
or demand, 5 fault, 6 auxiliary contact; a duplex standby commands no contactor (R47). -/
def socRefusal (s : State) (i : SocId) : Option Nat :=
  if !s.isl.contactorEnable || isStandby s then some 2
  else if s.saf.pending || !coverClosed s then some 3
  else if permitDenied s (i.val + 4) || ownerDemanded s i then some 4
  else if s.saf.soc[i].fault || s.fio.drv[i].overc then some 5
  else if auxEnergised s i then some 6
  else none

def clearWish (i : SocId) (s : State) : State := s.modSoc i fun x => { x with wish := none }

/-- A request to close (R361); during a test pulse it waits for the pulse's end (R362). -/
def socClose (i : SocId) (s : State) : State :=
  if s.standby then s else
  if s.saf.soc[i].test.isSome then s.modSoc i fun x => { x with wish := some true }
  else if s.saf.soc[i].cmd then s
  else
    match socRefusal s i with
    | some c => s.log 0x8010 [i.val + 1, c]
    | none =>
      let s := s.modSoc i fun x => { x with cmd := true, cmdAt := s.now, awaited := true, disc := s.objN (Obj.SAF_SOC_DISC i) * cyclesMs }
      showSoc i (s.bump (Obj.SAF_SOC_OPERATIONS i))

/-- A request to open (R361, R362). -/
def socOpen (i : SocId) (s : State) : State :=
  if s.saf.soc[i].test.isSome then s.modSoc i fun x => { x with wish := some false }
  else if !s.saf.soc[i].cmd then s
  else
    showSoc i (s.modSoc i fun x => { x with cmd := false, cmdAt := s.now, awaited := true, disc := s.objN (Obj.SAF_SOC_DISC i) * cyclesMs })

/-- Opening on an immediate demand ends a test pulse at once (R362). -/
def socOpenNow (i : SocId) (s : State) : State := socOpen i (s.modSoc i fun x => { x with test := none, wish := none })

def socCloseStage (n : StageId) (s : State) : State := match socOf s n.val with | some i => socClose i s | none => s
def socOpenStage (n : StageId) (s : State) : State := match socOf s n.val with | some i => socOpen i s | none => s
def socCloseTie (s : State) : State := match socOf s 4 with | some i => socClose i s | none => s
def socOpenTie (s : State) : State := match socOf s 4 with | some i => socOpen i s | none => s

/-- s(t) of a stage's safe-stop ramp; 1 without one (R369). -/
def ssdFactor (s : State) (n : StageId) : Rat :=
  match s.saf.ssd[n].ramp with
  | some (td, _, tr, _) => maxR 0 (1 - mkRat (s.since td : Nat) tr)
  | none => 1

/-- The safe-stop ramp of a stage ends. -/
def ssdEnd (n : StageId) (s : State) : State :=
  (s.modSsd n fun x => { x with ramp := none, violated := false, differs := none }).setBit Obj.SAF_STATUS (8 + n.val) false

end Sys2Proof.Machine
end

