-- ==== Sys2Proof/Machine/StageOps.lean ====
section
/-!
DEFINITION. The moves of a stage between its states, shared by every chapter: entry into SAFE (R34), into RUN (R33, R65),
into ARMED and OFF, waiting for a claim (R83 to R86), starting to synchronise (R89), confirmation of the output contactor
(R87, R91), and the start rules of R37 and R41.
-/

namespace Sys2Proof.Machine

/-- PIE_STATUS.DISPATCHING follows the stage's state (Table 7.11). -/
def showDispatching (n : StageId) (s : State) : State := showGallery n (s.setBit (Obj.PIE_STATUS n) 1 (s.dispatching n))

/-- R79: a window in which a cause holds is suspended; the start of suspension is logged with its causes. -/
def suspend (n : StageId) (cause : Nat) (s : State) : State :=
  let s := s.modShare n fun h => { h with winBad := true }
  if s.shr[n].suspended then s
  else ((s.modShare n fun h => { h with suspended := true }).setBit (Obj.SHR_STATUS n) 1 true).log 0x2101 [n.val, cause]

/-- A cause of R79 begins that concerns every GFI stage of the module that runs. -/
def suspendAll (cause : Nat) (s : State) : State :=
  allStages.foldl (fun s n => if s.isGfi n && s.switching n then suspend n cause s else s) s

/-- What a stage that stops switching drops: its claim, pull, ramp, ride-through and coasting (R98), a contactor command that has not been
confirmed, a safe-stop ramp, and the sample its pier is computing. Restoration of a stage outside RUN is suspended (R79). -/
def dropActivities (n : StageId) (s : State) : State :=
  let s := if s.isGfi n && s.switching n then suspend n 2 s else s
  let s := s.modShare n fun h => { h with claim := .idle, pull := .none, ramping := false, okSince := none, deadSince := none, closeAt := none, tieAt := none,
                                          joining := false, glideW := none, glideV := none, winStart := none }
  let s := if s.frt[n].shed = 0 then s else s.log 0x220C [n.val, 0, s.frt[n].vdc]
  let s := s.modRide n fun f => { f with riding := false, clearAt := none, clearBefore := false, coasting := false, shed := 0,
                                         lowSince := none, release := none, decay := none, powerRef := none, powerLimit := 1,
                                         speedDue := false, devSince := none, aboveSince := none, inPast := [] }
  let s := (s.setField (Obj.GFL_STATUS n) 0 4 0).setBit (Obj.SHR_STATUS n) 0 false
  let s := s.setField (Obj.SHR_STATUS n) 2 6 0
  let s := s.setField (Obj.SHR_STATUS n) 9 3 0
  let s := (s.setField (Obj.FRT_STATUS n) 0 6 0).setR (Obj.FRT_DELTA_P_COAST n) 0
  let s := s.setBit (Obj.FRT_STATUS n) 8 false
  let s := s.setField (Obj.FRT_STATUS n) 12 3 0
  let s := if s.srv[n].active then
      ((s.modSurvey n fun v => { v with active := false }).setBit (Obj.SRV_STATUS n) 0 false).log 0x2303 [n.val, 3] else s
  let s := ssdEnd n s
  s.modPier n fun p => { p with work := none, post := none, postDone := true, provisional := false, before := none }

/-- Error-register bit 0 while any stage is SAFE or the module is in LOCKOUT (R339). -/
def showErrors (s : State) : State :=
  s.setBit Obj.CIA_ERROR_REGISTER 0 ((allStages.any fun m => s.stageSt m == .safe) || s.mod.mode == .lockout)

/-- EMCY 0x0000 once no stage is SAFE and the module is out of LOCKOUT (R339). -/
def errorsEnd (s : State) : State :=
  let was := s.bit Obj.CIA_ERROR_REGISTER 0
  let s := showErrors s
  if was && !s.bit Obj.CIA_ERROR_REGISTER 0 then emcy 0 0 0xFF s else s

/-- R368: an instance owned by a stage of another type than GFI opens as the stage leaves RUN and LIMIT. -/
def socLeaves (n : StageId) (s : State) : State := if s.switching n && !s.isGfi n then socOpenStage n s else s

/-- A stage enters SAFE with a cause (R34): the edge island applies its safe state at once (R192), the law's states are
discarded (R65), MOD_STAGE_SAFE_CAUSE takes the cause and event 0x1005 is logged. A stage already SAFE keeps its cause; HALT and ADIT allow no SAFE (Table 2.3). -/
def stageSafe (n : StageId) (cause : Nat) (s : State) : State :=
  if s.stageSt n = .safe ∨ s.mod.mode = .halt ∨ s.mod.mode = .adit then s
  else
    let s := dropActivities n (socLeaves n s)
    let s := s.modStage n fun c => { c with st := .safe, cause := cause, heldStart := false, toArmed := false, toRun := false,
                                            toOff := false, diagSince := none, sinceEntry := 0, pulsesEnd := false }
    let s := s.modPier n fun p => { p with law := lawInit }
    let s := s.setN (Obj.MOD_STAGE_SAFE_CAUSE n.val) cause
    let s := if s.isGfi n && s.enabled n then s.modMod fun m => { m with lastGfiCause := cause } else s
    let s := showErrors (emcy 0xFF00 cause n.val (sendDatagram n (s.log 0x1005 [n.val, cause])))
    showDispatching n (edgeSafe n s)

/-- A stage goes to OFF: idle, output contactor open (Table 2.2). -/
def stageOff (n : StageId) (s : State) : State :=
  let s := dropActivities n (socOpenStage n s)
  let s := s.modStage n fun c => { c with st := .off, heldStart := false, toArmed := false, toRun := false, toOff := false, sinceEntry := 0,
                                          pulsesEnd := false }
  showDispatching n (edgeIdle n (s.modPier n fun p => { p with out := none }))

/-- A stage's state becomes ARMED: dispatched, its law held at its initial values (R65). -/
def toArmedState (n : StageId) (s : State) : State :=
  let s := dropActivities n (socLeaves n s)
  let s := s.modStage n fun c => { c with st := .armed, toArmed := false, toOff := false, sinceEntry := 0, pulsesEnd := false }
  showDispatching n (s.modPier n fun p => { p with law := lawInit, out := none })

/-- A stage goes to ARMED, pulses blocked (Table 2.2). -/
def stageArm (n : StageId) (s : State) : State := edgeIdle n (toArmedState n s)

/-- A stop takes a stage to ARMED at its tick (R35); its pulses end at the next commit, that of the sample it is computing included (R43). -/
def stageStop (n : StageId) (s : State) : State :=
  let p := s.pie[n]
  let s := toArmedState n s
  let s := s.modPier n fun q => { q with work := p.work, post := p.post, postDone := p.postDone, out := p.out }
  s.modStage n fun c => { c with pulsesEnd := true }

/-- The pulses of a stage that a stop has taken from RUN end, at a commit or where a sample ends without one (R43). -/
def endPulses (n : StageId) (s : State) : State :=
  if s.stg[n].pulsesEnd then edgeIdle n (s.modStage n fun c => { c with pulsesEnd := false }) else s

/-- The driver channels of a stage have pulse enable (R33). -/
def pulseGranted (s : State) (n : StageId) : Bool :=
  (stageDrivers s n).all fun d => s.isl.pulseEnable[d.val / 2]?.getD false

/-- Whether a mode allows a stage to enter RUN (Table 2.3): source stages in CHARGE, every stage in BLACKSTART, SYNC and
FORM. -/
def modeAllowsRun (s : State) (n : StageId) : Bool :=
  match s.mod.mode with
  | .charge => s.chargeRole n == 1
  | .blackstart => true
  | .sync => true
  | .form => true
  | _ => false

/-- R33: whether a stage may enter RUN now. -/
def mayRun (s : State) (n : StageId) : Bool := modeAllowsRun s n && s.stg[n].diagPassed && pulseGranted s n

/-- ω_set = 1 + Δω_r + Δω_s (R52). -/
def omegaSet (l : Law) : Rat := fadd (fadd 1 l.dwr) l.dws

/-- Entry into RUN with θ_init and the starting ramp factor (R65): ω and ω_d at ω_set, P_m at P_set or 0 when isochronous,
filters, integrators and resonant states at 0, u(k) = 0; restoration offsets 0 from ARMED (R80). R65 gives E no value before the first outer
step; it stands at 0 (DESIGN CHOICE, log 122). -/
def enterRun (n : StageId) (thetaInit : Nat) (r0 : Rat) (s : State) : State :=
  let iso := s.objN (Obj.GFL_MP n) == 0
  let pSet := if iso then 0 else r32 (mkRat (s.objI (Obj.GFL_P_SET n)) 1000)
  let s := s.modPier n fun p =>
    let l := { lawInit with theta := thetaInit, thetaJ := thetaInit, kJ := p.k, pMech := pSet, r := r0, u := .zero }
    { p with law := { l with omega := omegaSet l, omegaD := omegaSet l }, duties := [], sent := [], fClamp := false, eClamp := false,
             negClamp := false, nClamp := false, restClamp := false }
  let s := s.modStage n fun c => { c with st := .run, toRun := false, toArmed := false, sinceEntry := 0, lastLimit := s.now, pulsesEnd := false }
  let s := s.modSurvey n fun v => { v with runSince := s.now, startedAt := none }
  let s := ((s.setN (Obj.SHR_ANCHOR_COUNT n) 0).setR (Obj.SHR_DELTA_F_REST n) 0).setR (Obj.SHR_DELTA_V_REST n) 0
  let s := (s.setBit (Obj.SHR_STATUS n) 0 false).setBit (Obj.SHR_STATUS n) 2 false
  let s := s.modShare n fun h => { h with winStart := none, winBad := false, winSum := 0, winCount := 0 }
  let s := if s.isGfi n then s else socCloseStage n s
  let s := if s.edg.sets[ownSets n].safe then edgeUnsafe n s else s
  showDispatching n (bootEmpty n s)

/-! ### Claiming a dead line (R83 to R86) -/

/-- What the primary has reported to a viaduct's secondary (R46, R84). -/
def primaryView (s : State) : Option PartnerView := if s.viaductSecondary then s.twn.view else none

/-- The node number N of the claim rules: in a viaduct the primary's (R84). -/
def claimNode (s : State) : Nat := match primaryView s with | some v => v.node | none => s.objN Obj.MOD_NODE_NUMBER

/-- The claim rank g: the number of GFI stages before this one in stage order (R84), after the primary's in a viaduct. -/
def claimRank (s : State) (n : StageId) : Nat :=
  (match primaryView s with | some v => v.gfiCount | none => 0) + (allStages.filter fun m => decide (m < n) && s.isGfi m).length

/-- The rank offset o(g) (R84). -/
def rankOffset (g : Nat) : Nat := if g = 0 then 0 else if g = 1 then 8 else if g = 2 then 4 else 12

/-- The slot number c = (N + o(g)) mod 16 (R84). -/
def claimSlot (s : State) (n : StageId) : Nat := (claimNode s + rankOffset (claimRank s n)) % 16

/-- The hold-off of R85 in core cycles: (N mod 16) × 12.5 ms + o(g) × 0.78125 ms. -/
def holdoffCycles (s : State) (n : StageId) : Nat :=
  (claimNode s % 16) * 5120000 + rankOffset (claimRank s n) * 320000

/-- The claim epoch interval in ms: T_a × u with u the smallest whole number giving at least 320 ms (R84). -/
def epochMs (s : State) (n : StageId) : Nat :=
  let ta := s.objN (Obj.SHR_ANCHOR_PERIOD n)
  if ta = 0 then 320 else ta * ((320 + ta - 1) / ta)

/-- The slot instant in module time: the first claim epoch after now plus c × 20 ms (R84). -/
def slotInstant (s : State) (n : StageId) : Nat :=
  let e := epochMs s n * 1000000
  let t := ntaAt s s.now
  mtOfNta s ((t / e + 1) * e + claimSlot s n * 20000000)

/-- The claim a waiting stage holds, by BS_POLICY and the state of NTA (R83, R86). -/
def claimFor (s : State) (n : StageId) (from_ : Nat) : Claim :=
  let policy := s.field (Obj.SHR_CONFIG n) 3 2
  if policy = 2 then .waitLive
  else if ntaGood s then .slot (slotInstant s n)
  else if policy = 1 then .waitNta
  else .holdoff (from_ + holdoffCycles s n)

def showClaim (n : StageId) (s : State) : State :=
  let waiting := s.shr[n].claim != .idle
  let byNta := match s.shr[n].claim with | .slot _ => true | _ => false
  let s := s.setBit (Obj.SHR_STATUS n) 4 waiting
  let s := s.setBit (Obj.SHR_STATUS n) 5 byNta
  s.setField (Obj.SHR_STATUS n) 16 4 (claimSlot s n)

/-- A GFI stage that finds the line dead begins to wait; it stays ARMED (R86). -/
def beginWait (n : StageId) (s : State) : State :=
  let s := s.modShare n fun h => { h with claim := claimFor s n s.now, pull := .none }
  showClaim n s

/-- NTA became good or ceased to be: a stage waiting by the other path changes over (R85, R86), and a restoration window is suspended (R79). -/
def claimReview (n : StageId) (s : State) : State :=
  let s := if s.isGfi n && s.switching n && !ntaGood s then suspend n 1 s else s
  match s.shr[n].claim with
  | .idle => s
  | .waitLive => s
  | .confirmed => s
  | .slot _ => if ntaGood s then s
      else showClaim n (s.modShare n fun h => { h with claim := claimFor s n s.now })
  | .waitNta => if ntaGood s then showClaim n (s.modShare n fun h => { h with claim := claimFor s n s.now }) else s
  | .holdoff _ => if ntaGood s then showClaim n (s.modShare n fun h => { h with claim := claimFor s n s.now }) else s

/-- The ramp of R88 begins; its set time is kept. -/
def beginRamp (n : StageId) (s : State) : State :=
  let s := s.modShare n fun h => { h with ramping := true, rampFrom := s.now, rampLast := s.now,
                                          rampTime := s.objN (Obj.SHR_BS_RAMP n) * cyclesMs }
  s.setBit (Obj.SHR_STATUS n) 6 true

/-- R89: a GFI stage that finds the line live enters RUN with its contactor open and pulls towards it; dwell and timeout
keep the values they start with (Table 4.4). Its ramp is not begun by a confirmation, and 5 × SHR_BS_RAMP of R88 count from here (DESIGN
CHOICE, log 141). -/
def beginSync (n : StageId) (s : State) : State :=
  let s := enterRun n s.shr[n].line.theta 0 s
  let s := beginRamp n s
  let s := s.modShare n fun h => { h with claim := .idle, pull := .line, tieAt := none, syncFrom := s.now, okSince := none, deadSince := none,
                                          syncTimeout := s.objN (Obj.SHR_SYNC_TIMEOUT n) * cyclesMs,
                                          dwell := s.objN (Obj.SHR_SYNC_DWELL n) * cyclesMs }
  showClaim n (s.setBit (Obj.SHR_STATUS n) 9 true)

/-- A START_STAGE that may not act at its tick is refused and not remembered (R30, R33). -/
def startLapses (n : StageId) (s : State) : State :=
  (s.modStage n fun c => { c with toRun := false, toArmed := false }).log 0x1002 [1, s.mod.mode.code]

/-- A GFI stage starts under its start rules (R37, R41): dead line, by claim; live line, by synchronising under R33. -/
def gfiStart (n : StageId) (s : State) : State :=
  let s := s.modStage n fun c => { c with toRun := false }
  if !s.shr[n].line.live then beginWait n s else if mayRun s n then beginSync n s else startLapses n s

/-- A started stage proceeds from ARMED (R37): a GFI stage reads its line in BLACKSTART, SYNC and FORM, any other enters
RUN under R33. -/
def proceed (n : StageId) (s : State) : State :=
  if s.isGfi n && (s.mod.mode == .blackstart || s.mod.mode == .sync || s.mod.mode == .form) then gfiStart n s
  else if mayRun s n then enterRun n 0 1 s else startLapses n s

/-- The output contactor is commanded closed, through SOC; the timeout keeps the value it starts with (R86, R90). -/
def commandClose (n : StageId) (onDead : Bool) (s : State) : State :=
  let s := s.modShare n fun h => { h with claim := .idle, closeAt := some s.now, closedDead := onDead, lostLogged := false,
                                          closeTimeout := s.objN (Obj.SHR_CLOSE_TIMEOUT n) * cyclesMs }
  socCloseStage n (showClaim n s)

/-- R91: a synchronising stage stops pulling: its offsets freeze and glide linearly to 0 over SHR_JOIN_RAMP. -/
def joinGlide (n : StageId) (s : State) : State :=
  let l := s.pie[n].law
  let dur := s.objN (Obj.SHR_JOIN_RAMP n) * cyclesMs
  let s := s.modShare n fun h => { h with pull := .none, tieAt := none, joining := true, glideW := some ⟨l.dws, 0, s.now, dur⟩,
                                          glideV := some ⟨l.dvs, 0, s.now, dur⟩, okSince := none, deadSince := none }
  let s := s.setField (Obj.SHR_STATUS n) 9 3 0
  s.setBit (Obj.SHR_STATUS n) 3 true

/-- R87: a stage whose contactor has closed onto a dead line enters RUN from 0, or catches on to a line now live. -/
def runClosed (n : StageId) (s : State) : State :=
  let h := s.shr[n]
  let s := showClaim n (s.modShare n fun h => { h with claim := .idle })
  if h.line.live then
    let s := enterRun n h.line.theta h.line.v s
    let s := (beginRamp n s).setBit (Obj.SHR_STATUS n) 8 true
    s.log 0x2106 [n.val, h.line.v]
  else
    let s := enterRun n 0 0 s
    (beginRamp n s).setBit (Obj.SHR_STATUS n) 8 false

/-- Confirmation of the output contactor to the stage that commanded it (R87, R91): after a close onto a dead line an ARMED stage enters RUN,
or waits until R33 allows it (DEDUCED, log 51); after synchronising a stage in RUN or LIMIT stops pulling. -/
def contactorConfirmed (n : StageId) (s : State) : State :=
  let h := s.shr[n]
  let s := s.modShare n fun h => { h with closed := true, closeAt := none }
  if h.closeAt = none then s
  else if h.closedDead then
    if s.stageSt n ≠ .armed then s
    else if mayRun s n then runClosed n s else s.modShare n fun h => { h with claim := .confirmed }
  else if s.switching n then joinGlide n s else s

/-- R33, R87: a stage whose contactor has confirmed enters RUN at the first tick that allows it. -/
def runConfirmed (n : StageId) (s : State) : State :=
  if s.shr[n].claim = .confirmed ∧ mayRun s n = true then runClosed n s else s

/-! ### Stop demands and lockout causes -/

/-- A stop is demanded for the next tick; a fault cause is kept over a plain one (R43). -/
def demandStop (c : StopCause) (s : State) : State :=
  s.modMod fun m => { m with stopPending := match m.stopPending, c with
                                            | some (.fault x), _ => some (.fault x)
                                            | _, c => some c }

/-- A lockout cause waits for the next tick (R44). -/
def demandLockout (cause : Nat) (s : State) : State :=
  s.modMod fun m => { m with lockoutPending := m.lockoutPending ++ [cause] }

end Sys2Proof.Machine
end

