-- ==== Sys2Proof/Machine/PairOps.lean ====
section
/-!
DEFINITION. Pair lock and the link's loss (R402, R405, R409), as other chapters cause them.
-/

namespace Sys2Proof.Machine

/-- A stage uses a resource of the partner in a viaduct (R408): a partner input, or channels on the partner's edge island. -/
def usesPartner (s : State) (n : StageId) : Bool :=
  isViaduct s && match s.pie[n].graph with
    | some g => graphPartner g || decide ((stageChans s n).length < g.channels)
    | none => false

/-- The condition of R405 that fails, the grid phase apart: 1 the link, 2 the reference, 3 TT. The primary sees the link only (DEDUCED, log 31). -/
def lockFault (s : State) : Option Nat :=
  if !linkUp s then some 1
  else if s.twn.primary then none
  else if s.clk.active ≠ some 2 then some 2
  else if s.clk.base[(2 : Fin 3)].st ≠ 2 then some 3
  else none

/-- R409: in a viaduct, stages that use a partner resource go to SAFE, and the secondary stops. Condition 4 of event 0xA00E. -/
def resourceLost (s : State) : State :=
  if !isViaduct s then s
  else
    let s := allStages.foldl (fun s n =>
      if usesPartner s n && s.stageSt n != .safe then stageSafe n 0xA00E (s.log 0xA00E [n.val, 4]) else s) s
    if s.twn.primary || !s.mod.mode.running then s else demandStop .plain s

/-- R405: lock is lost when a condition ceases; the 10 ms before it is regained run from the return of all of them. -/
def lockReview (s : State) : State :=
  if s.twn.mode = 0 then s
  else match lockFault s with
    | none => if s.twn.lock || s.twn.lockFrom.isSome then s else s.modTwn fun t => { t with lockFrom := some s.now }
    | some c =>
      let was := s.twn.lock
      let s := s.modTwn fun t => { t with lock := false, lockFrom := none }
      showTwin (if was then resourceLost (s.log 0xA005 [c]) else s)

/-- The link goes down (R402, R289): event 0xA001, TT holds over, pair lock is lost. -/
def linkFalls (s : State) : State :=
  if s.twn.link = 0 then s
  else
    let s := (s.modTwn fun t => { t with link := 0, lanes := Vector.replicate 2 false }).log 0xA001 [0, 0]
    showTwin (lockReview (baseHoldover 2 3 s))

end Sys2Proof.Machine
end

