-- ==== Sys2Proof/Machine/Trip.lean ====
section
/-!
DEFINITION. Trip sources and groups (R186 to R191): what a source's activity does to every group that holds it, counting,
latching and clearing.
-/

namespace Sys2Proof.Machine

def grpEnabled (s : State) (g : GroupId) : Bool := s.bit (Obj.EDG_TRG_CFG g) 0
def grpDirected (s : State) (g : GroupId) : Bool := s.bit (Obj.EDG_TRG_CFG g) 1
def grpTb (s : State) (g : GroupId) : TbId := Fin.ofNat 8 (s.field (Obj.EDG_TRG_CFG g) 2 3)
def grpN (s : State) (g : GroupId) : Nat := s.field (Obj.EDG_TRG_CFG g) 8 8
def grpM (s : State) (g : GroupId) : Nat := s.field (Obj.EDG_TRG_CFG g) 16 8
def grpBlankCh (s : State) (g : GroupId) : Option ChanId := idOf 24 (s.field (Obj.EDG_TRG_CFG g) 24 5)
def grpHasChan (s : State) (g : GroupId) (c : ChanId) : Bool := s.bit (Obj.EDG_TRG_CHANNELS g) c.val
def grpChans (s : State) (g : GroupId) : List ChanId := allChans.filter (grpHasChan s g)
def grpBlanks (s : State) (g : GroupId) (src : SrcId) : Bool := s.bit (Obj.EDG_TRG_BLANK g (src.val / 32)) (src.val % 32)

/-- The blanking window is open while the blanking channel's level is 1 (R189). -/
def windowOpen (s : State) (g : GroupId) : Bool :=
  match grpBlankCh s g with
  | some c => levelAt s.edg.ch[c] (now32 s)
  | none => false

/-- A source of the group that is active, and one that is active and not blanked. -/
def grpActive (s : State) (g : GroupId) : List SrcId := s.edg.active.filter fun x => groupHolds s g x.val
def grpTripping (s : State) (g : GroupId) : List SrcId :=
  (grpActive s g).filter fun x => !(windowOpen s g && grpBlanks s g x)

/-- What a source holds on a channel under the group's action: 0 both outputs, 1 the high, 2 the low (R187). -/
def holdKind (s : State) (g : GroupId) (src : SrcId) : Nat :=
  if grpDirected s g && decide (8 ≤ src.val) && decide (src.val < 56) then (if src.val % 2 = 0 then 1 else 2) else 0

/-- The channels a source acts on in a group (R187). -/
def holdChans (s : State) (g : GroupId) (src : SrcId) : List ChanId :=
  match idOf 24 (s.objN (Obj.EDG_SRC_HOME src.val)) with
  | none => grpChans s g
  | some c => if grpHasChan s g c then [c] else []

/-- A group's status word (Table 8.17). -/
def groupWord (s : State) (g : GroupId) : Nat :=
  let x := s.edg.grp[g]
  boolNat x.tripped + 2 * boolNat x.latched + 4 * boolNat x.rejected + 8 * boolNat (!(grpActive s g).isEmpty)
    + 16 * boolNat (windowOpen s g) + 256 * x.c + 65536 * x.f

/-- GROUPS_LATCHED, GROUPS_TRIPPED and a group's status word (Tables 8.16, 8.17). -/
def showGroup (g : GroupId) (s : State) : State :=
  let x := s.edg.grp[g]
  let s := (s.setN (Obj.EDG_TRG_STATUS g) (groupWord s g)).setBit Obj.EDG_STATUS (8 + g.val) x.latched
  let holding := x.latched || (allChans.any fun c => s.edg.ch[c].holds.any fun h => h.group == g)
  s.setBit Obj.EDG_STATUS (16 + g.val) holding

/-- A channel's outputs are held by a trip now: what is held turns off and its placed turn-ons are suppressed (R187). -/
def holdOutputs (what : Nat) (c : ChanId) (s : State) : State :=
  let s := settle c s
  let t := now32 s
  let boot := bootOf s c
  let hi := what != 2
  let lo := what != 1
  let s := s.modCh c fun h =>
    let h := { h with edges := h.edges.filter fun e => !(e.on && ((e.high && hi) || (!e.high && lo))) }
    let h := if hi then takeEdge s boot h ⟨t, true, false⟩ else h
    if lo then takeEdge s boot h ⟨t, false, false⟩ else h
  (showOutputs c s).setBit (Obj.EDG_CH_STATUS c) 1 true

/-- An active short overrides any trip-group hold (R192). -/
def shorted (s : State) (c : ChanId) : Bool :=
  match chanStage s c with
  | some n => s.edg.sets[ownSets n].safe && s.activeShort n
  | none => false

/-- The stages that own a channel of a group. -/
def grpStages (s : State) (g : GroupId) : List StageId := allStages.filter fun n => (stageChans s n).any (grpHasChan s g)

/-- A group that acts on a stage's channels is noted for its next sample: by the gallery, by the canary (R138), and as level 1 where it is the
stage's pulse-limit group (R99, R105). -/
def stageTripped (g : GroupId) (n : StageId) (s : State) : State :=
  let s := (galFlag n 4 s).modPier n fun q => { q with tripped := true }
  if s.isGfi n && s.objN (Obj.FRT_PULSE_GROUP n) == g.val then s.modRide n fun f => { f with pulsed := true } else s

/-- A source trips a group (R187, R188): its channels are held, and the first trip of the period counts. -/
def groupTrip (g : GroupId) (src : SrcId) (s : State) : State :=
  let what := holdKind s g src
  let s := (holdChans s g src).foldl (fun s c =>
    let s := s.modCh c fun h => { h with holds := if h.holds.contains ⟨src, g, what⟩ then h.holds else ⟨src, g, what⟩ :: h.holds }
    if shorted s c then s else holdOutputs what c s) s
  let x := s.edg.grp[g]
  let s := if x.tripped then s
    else
      let s := s.modGrp g fun x => { x with tripped := true, c := if x.latched then x.c else x.c + 1, f := 0, lastSrc := src.val }
      (s.bump (Obj.EDG_TRG_PERIODS g)).logOnce 0x3003 g.val [g.val]
  showGroup g ((grpStages s g).foldl (fun s n => stageTripped g n s) s)

/-- Every group that now holds an active, unblanked source that does not hold its channels yet trips (R187, R189). -/
def tripScan (s : State) : State :=
  allGroups.foldl (fun s g =>
    if !grpEnabled s g then s
    else (grpTripping s g).foldl (fun s src =>
      let fresh := !s.edg.grp[g].tripped ||
        (holdChans s g src).any fun c => !(s.edg.ch[c].holds.any fun h => h.src == src && h.group == g)
      if fresh then groupTrip g src s else s) s) s

/-- The comparator sources of a substituted channel are held inactive (R243). -/
def srcSuppressed (s : State) (src : SrcId) : Bool :=
  if h : 8 ≤ src.val ∧ src.val < 56 then s.acq.adc[(src.val - 8) / 2].subst else false

/-- EDG_SRC_ACTIVE follows the list of active sources. -/
def showSources (s : State) : State :=
  (List.range 3).foldl (fun s j =>
    s.setN (Obj.EDG_SRC_ACTIVE j) (maskOf ((s.edg.active.filter fun x => decide (x.val / 32 = j)).map fun x => x.val % 32))) s

/-- A source becomes active (R186); one that is active already is examined again, as in the cycle in which a blanking window closes (R189). -/
def sourceActive (src : SrcId) (s : State) : State :=
  if s.fenced .edge || srcSuppressed s src then s
  else
    let s := if s.edg.active.contains src then s else showSources (s.modEdg fun e => { e with active := src :: e.active })
    allGroups.foldl (fun s g => if groupHolds s g src.val then showGroup g s else s) (tripScan s)

/-- A source becomes inactive (R186). Channels it holds are released at their reload points. -/
def sourceInactive (src : SrcId) (s : State) : State :=
  let s := showSources (s.modEdg fun e => { e with active := e.active.filter fun x => x != src })
  allGroups.foldl (fun s g => if groupHolds s g src.val then showGroup g s else s) s

/-- A TRIP pin stands between its two thresholds, 1.0 V and 2.4 V. -/
def inBand (v : Rat) : Bool := decide (1 ≤ v) && decide (v ≤ mkRat 24 10)

/-- Whether a TRIP pin is at its active level (R186): above 2.4 V high, below 1.0 V low; in the band its last state, at first the active level. -/
def pinActive (s : State) (j : Fin 8) (v : Rat) : Bool :=
  if inBand v then !s.edg.pinKnown.contains j || s.edg.active.contains ⟨j.val, by omega⟩
  else decide (1 ≤ v) == s.bit (Obj.EDG_EXT_TRIP_CFG j.val) 0

/-- Whether an input beyond a comparator's threshold makes its source active, or one back from it by the hysteresis makes it inactive (R236).
`up`: the upper comparator. Where a stage owns the comparator its threshold stands in A or V (R237). -/
def beyond (s : State) (c : AdcId) (up : Bool) (back : Bool) (v : Rat) : Bool :=
  let hyst : Rat := if back then s.objI (Obj.ACQ_CMP_HYST c) else 0
  let x := if up then v + hyst else v - hyst
  let owned := s.acq.cmpLevel.find? fun e => e.1 == c && e.2.1 == up
  let (x, lim) : Rat × Rat := match owned with
    | some e => (x * Config.sensorScale c.val / 32768, e.2.2)
    | none => (x, s.objI (if up then Obj.ACQ_CMP_HI c else Obj.ACQ_CMP_LO c))
  if up then decide (lim < x) else decide (x < lim)

/-- The comparator that a source from 8 to 55 stands for: its input, and whether it is the upper one (Table 8.4). -/
def srcComparator (src : SrcId) : Option (AdcId × Bool) :=
  if h : 8 ≤ src.val ∧ src.val < 56 then some (⟨(src.val - 8) / 2, by omega⟩, src.val % 2 == 0) else none

/-- The driver channel of a desaturation source, and the port of a remote-head source (Table 8.4). -/
def srcDriver (src : SrcId) : Option DrvId := if h : 56 ≤ src.val ∧ src.val < 68 then some ⟨src.val - 56, by omega⟩ else none
def srcPort (src : SrcId) : Option PortId := if h : 68 ≤ src.val ∧ src.val < 76 then some ⟨src.val - 68, by omega⟩ else none

/-- A remote-head fault stands at a port: head fault or missing acknowledge (R217, R218). -/
def portFaulty (s : State) (p : PortId) : Bool := s.bit (Obj.GDV_PORT_STATUS p) 2 || s.bit (Obj.GDV_PORT_STATUS p) 3

/-- Whether a source's condition holds on a reading (R186): `back` asks whether it has not yet fallen. -/
def srcHolds (s : State) (src : SrcId) (back : Bool) (v : Rat) : Bool :=
  if h : src.val < 8 then pinActive s ⟨src.val, h⟩ v
  else match srcComparator src, srcDriver src, srcPort src with
    | some (c, up), _, _ => beyond s c up back v
    | _, some d, _ => s.bit (Obj.GDV_CH_STATUS d) 1 || s.fenced (.gdSecondary d)
    | _, _, some p => portFaulty s p
    | _, _, _ => false

/-- The filter time of a source in ns (R186, R236). -/
def srcFilter (s : State) (src : SrcId) : Nat :=
  if src.val < 8 then s.field (Obj.EDG_EXT_TRIP_CFG src.val) 1 7 * 10
  else match srcComparator src with | some (c, _) => s.objN (Obj.ACQ_CMP_FILTER c) * 10 | none => 0

/-- A pin outside its band has a known state from then on. -/
def notePin (src : SrcId) (v : Rat) (s : State) : State :=
  if h : src.val < 8 then
    let j : Fin 8 := ⟨src.val, h⟩
    if inBand v || s.edg.pinKnown.contains j then s else s.modEdg fun e => { e with pinKnown := j :: e.pinKnown }
  else s

/-- A pin that has stood in its band since the trip matrix started needs no filter time: it is taken as its active level (R186). -/
def srcSettled (s : State) (src : SrcId) (r : Reading) : Bool :=
  decide (srcFilter s src ≤ r.held) || (if h : src.val < 8 then inBand r.value && !s.edg.pinKnown.contains ⟨src.val, h⟩ else false)

/-- R186: a source's condition holds, and has held for the filter time. -/
def execTripSourceActive (rd : Measured SrcId Reading) (s : State) : Res :=
  .next (s.on .edge fun s =>
    if srcHolds s rd.unit false rd.val.value && srcSettled s rd.unit rd.val then notePin rd.unit rd.val.value (sourceActive rd.unit s) else s)

/-- R186: a source's condition has ceased for the filter time. -/
def execTripSourceInactive (rd : Measured SrcId Reading) (s : State) : Res :=
  .next (s.on .edge fun s =>
    if !srcHolds s rd.unit true rd.val.value && srcSettled s rd.unit rd.val then notePin rd.unit rd.val.value (sourceInactive rd.unit s) else s)

/-- A group latches (R188): its channels are held off, the record is made, and its stages go to SAFE with 0x3004. -/
def groupLatch (g : GroupId) (s : State) : State :=
  let s := s.modGrp g fun x => { x with latched := true, c := grpN s g, f := 0 }
  let src := s.edg.grp[g].lastSrc
  let s := (s.setN (Obj.EDG_TRG_LATCH_TIME g) s.now).setN (Obj.EDG_TRG_LATCH_SRC g) src
  let stages := grpStages s g
  let s := s.log 0x3004 [g.val, src, maskOf (stages.map Fin.val)]
  let s := (grpChans s g).foldl (fun s c => if shorted s c then s else holdOutputs 0 c s) s
  let s := stages.foldl (fun s n => stageSafe n 0x3004 (galFlag n 5 s)) s
  showGroup g s

/-- R188: the count has reached N and the group latches. -/
def execTripGroupLatch (g : GroupId) (s : State) : Res :=
  .next (s.on .edge fun s =>
    let x := s.edg.grp[g]
    if !x.latched && decide (0 < x.c) && decide (grpN s g ≤ x.c) then groupLatch g s else s)

/-- A zero point of a group's timebase: the writes that wait for it act (R191), and a latch count at or below c latches (Table 8.15). -/
def takeGroupWrites (s : State) (g : GroupId) : State :=
  let mine := s.commitWrites.filter fun c => c.1 / 256 == 0x4460 + g.val
  if mine.isEmpty then s
  else
    let s := { s with commitWrites := s.commitWrites.filter fun c => !(c.1 / 256 == 0x4460 + g.val) }
    let s := mine.foldl (State.setDue .nextCommit) s
    let x := s.edg.grp[g]
    if grpEnabled s g && !x.latched && decide (0 < x.c) && decide (grpN s g ≤ x.c) then groupLatch g s else showGroup g s

/-- R188: the zero point that has come last ends the group's counting period; a source still active trips the new one. -/
def execTripPeriodEnd (g : GroupId) (s : State) : Res :=
  .next (s.on .edge fun s =>
    let z := s.edg.tb[grpTb s g].lastZero
    if !s.edg.tb[grpTb s g].running || decide (z ≤ s.edg.grp[g].periodAt) then s
    else
      let on := grpEnabled s g
      let s := s.modGrp g fun x => { x with
        f := if !on then x.f else if x.latched || x.tripped then 0 else x.f + 1, tripped := false, periodAt := z }
      showGroup g (tripScan s))

/-- R188: the free-run counter has reached M; it returns to 0 and c falls by one. -/
def execTripFreeRunDecrement (g : GroupId) (s : State) : Res :=
  .next (s.on .edge fun s =>
    let x := s.edg.grp[g]
    if grpEnabled s g && !x.latched && decide (grpM s g ≤ x.f) then
      showGroup g (s.modGrp g fun x => { x with f := 0, c := x.c - 1 })
    else s)

/-- R190: CLEAR is accepted only if no source of the group is active. Answers whether it was. -/
def groupClear (g : GroupId) (s : State) : Bool × State :=
  match grpActive s g with
  | [] =>
    let s := s.modGrp g fun x => { x with c := 0, f := 0, latched := false, rejected := false }
    (true, showGroup g (s.log 0x3006 [g.val]))
  | src =>
    let s := s.modGrp g fun x => { x with rejected := true }
    (false, showGroup g (s.log 0x3005 [g.val, maskOf (src.map Fin.val)]))

def execTripGroupClear (g : GroupId) (w : Writer) (s : State) : Res :=
  .next (request w (Obj.EDG_TRG_CMD g) .edge (owned w fun s => accepted (groupClear g s)) s)

end Sys2Proof.Machine
end

