-- ==== Sys2Proof/Machine/FenceOps.lean ====
section
/-!
DEFINITION. Fencing an island (R23, R24) with what its neighbours see (Table 1.8), and the keystone's permissions (R25, R33,
R44, R371).
-/

namespace Sys2Proof.Machine

/-! ### Permissions -/

/-- The driver dies whose channels a stage uses. -/
def stageDies (s : State) (n : StageId) : List GdId :=
  (List.finRange 6).filter fun g => (stageDrivers s n).any fun d => d.val / 2 == g.val

/-- The keystone grants at all: it acts, its cores run, the module has not fenced itself (R418), and the mode is none of
HALT, ADIT and LOCKOUT (R44). -/
def keystoneGrants (s : State) : Bool :=
  s.alive .keystone && !s.saf.halted && !s.twn.selfFenced && s.mod.mode != .halt && s.mod.mode != .adit && s.mod.mode != .lockout

/-- Pulse enable of a die (R33, R359, R371, R372): withheld while the start-up test is pending or the cover reads open, from a
fenced die, and from the dies of a stage whose pulses are removed or under an immediate demand. -/
def pulseFor (s : State) (g : GdId) : Bool :=
  keystoneGrants s && !s.saf.pending && coverClosed s && !s.fenced (.gdPrimary g)
    && !(allStages.any fun n => (stageDies s n).contains g && (s.saf.removed.contains n || demandOn s n))

/-- Contactor enable (R44, Table 1.8). -/
def contactorFor (s : State) : Bool := keystoneGrants s && !s.fenced .abutment

/-- Both permissions as they stand now; an SOC contactor that loses them is opened and waits for a new request (R361). -/
def refreshPermissions (s : State) : State :=
  let ce := contactorFor s
  let pe : Vector Bool 6 := Vector.ofFn fun g => pulseFor s g
  let s := s.modIsl fun i => { i with
    pulseLost := Vector.ofFn fun g => if i.pulseEnable[g] && !pe[g] then s.now else i.pulseLost[g]
    pulseEnable := pe, contactorEnable := ce }
  let s := if ce then s else allSocs.foldl (fun s i => socOpenNow i s) s
  showField s

/-! ### Fences -/

/-- A stage whose pier, driver or sample island is fenced goes to its safe state. The spec names no cause code for it, so the cause
is a free event code (DESIGN CHOICE, log 4). -/
def safeByFence (n : StageId) (s : State) : State :=
  if s.stageSt n = .safe ∨ s.stype n = .none ∨ s.mod.mode = .halt ∨ s.mod.mode = .adit then s
  else (stageSafe n (0x1000 + s.freeNat % 0xC000) s).draw

/-- A pier takes a stage-state change (Table 1.5) within the moves of Table 2.3: SAFE is left by RESET_SAFE only (R34), RUN is entered from
ARMED under R33, LIMIT from RUN. -/
def takeStageState (n : StageId) (st : StageState) (s : State) : State :=
  let own := s.stageSt n
  if own = .safe ∨ s.mod.mode = .adit ∨ s.mod.mode = .lockout then s
  else match st with
    | .off => if own = .off then s else stageOff n s
    | .armed => if own = .armed || (own == .off && !s.stg[n].diagPassed) then s else stageArm n s
    | .run => if own = .armed && mayRun s n then enterRun n 0 1 s else s
    | .limit => if own = .run then s.modStage n fun c => { c with st := .limit, lastLimit := s.now } else s
    | .safe => safeByFence n s

/-- What the neighbours of a fenced island see (Table 1.8). -/
def fenceEffect (i : Island) (s : State) : State :=
  match i with
  | .pier n =>
    let s := safeByFence n s
    if isDuplex s then arbStart n 0x1014 s else s
  | .edge =>
    let s := allChans.foldl (fun s c => outputsOff c s) s
    let s := allPorts.foldl (fun s p => s.setBit (Obj.GDV_PORT_STATUS p) 0 false) s
    demandLockout 0x1014 (s.log 0x1014 [Island.edge.code])
  | .sample => demandLockout 0x1014 (allStages.foldl (fun s n => safeByFence n s) (s.log 0x1014 [Island.sample.code]))
  | .abutment => demandLockout 0x1014 (refreshPermissions (s.log 0x1014 [Island.abutment.code]))
  | .logic =>
    let s := { s.setBit Obj.LGC_STATUS 0 false with lgc := { s.lgc with running := false } }
    if s.mod.mode = .charge then demandStop (.fault 0x1008) (s.log 0x1008 []) else s
  | .network =>
    let s := baseLost 1 (baseLost 0 (setBypass true 3 s))
    let s := linkReview (showNet (s.modNet fun x => { x with link := Vector.replicate 4 false }))
    allStages.foldl (fun s n => claimReview n s) s
  | .house => showNet (s.modIsl fun x => { x with houseFencedAt := some s.now })
  | .link =>
    linkFalls s
  | .gdPrimary g =>
    let s := refreshPermissions s
    allStages.foldl (fun s n => if (stageDies s n).contains g then safeByFence n s else s) s
  | .gdSecondary d => sourceActive ⟨56 + d.val, by omega⟩ s
  | .keystone => s

/-- The keystone fences an island (R23, R24): it is the only authority, cannot be fenced by another island, and a fence lasts
until the next reset. -/
def fence (i : Island) (s : State) : State :=
  if !s.alive .keystone || i == .keystone || s.fenced i then s
  else
    let s := s.modIsl fun x => { x with fenced := i :: x.fenced
                                        joints := x.joints.map fun j => if j.src = i then { j with marker := true, word := none } else j }
    fenceEffect i s

end Sys2Proof.Machine
end

