-- ==== Sys2Proof/Machine/CvuOps.lean ====
section
/-!
DEFINITION. Cyclic checks of width 3 to 64 bits as the check-value units form them (R383), the check of the safety layer (R374)
and SAF_CONFIG_CRC (R381).
-/

namespace Sys2Proof.Machine

/-- The low `w` bits of a value in reverse order. -/
def reflectBits (w v : Nat) : Nat := (List.range w).foldl (fun a i => a * 2 + v / 2 ^ i % 2) 0

/-- One input bit enters the register. -/
def crcBit (w poly reg : Nat) (b : Nat) : Nat :=
  let top := (reg / 2 ^ (w - 1) + b) % 2
  let sh := reg * 2 % 2 ^ w
  if top = 1 then Nat.xor sh (poly % 2 ^ w) else sh

/-- One byte, most significant bit first. -/
def crcByte (w poly reg byte : Nat) : Nat :=
  (List.range 8).foldl (fun r i => crcBit w poly r (byte / 2 ^ (7 - i) % 2)) reg

/-- The setting of a unit (R383). -/
structure CrcCfg where
  width : Nat
  poly : Nat
  init : Nat
  refIn : Bool
  refOut : Bool
  invert : Bool
deriving DecidableEq, Repr

/-- The check value over a list of bytes. -/
def crc (c : CrcCfg) (bytes : List Nat) : Nat :=
  let reg := bytes.foldl (fun r b => crcByte c.width c.poly r (if c.refIn then reflectBits 8 (b % 256) else b % 256)) (c.init % 2 ^ c.width)
  let reg := if c.refOut then reflectBits c.width reg else reg
  if c.invert then 2 ^ c.width - 1 - reg else reg

/-- CRC-32C (Table 16.1) and the safety check value (R374). -/
def crc32c : CrcCfg := ⟨32, 0x1EDC6F41, 0xFFFFFFFF, true, true, true⟩
def crcSafety : CrcCfg := ⟨32, 0xF4ACFB13, 0xFFFFFFFF, true, true, true⟩

/-- A value in n bytes, most significant first. -/
def bytesBE (n v : Nat) : List Nat := (List.range n).map fun i => v / 256 ^ (n - 1 - i) % 256
def wordBE (l : List Nat) : Nat := l.foldl (fun w b => w * 256 + b % 256) 0

/-- The size of a data type in bytes; 0 for strings and domains. -/
def ObjType.size : ObjType → Nat
  | .bool => 1 | .u8 => 1 | .u16 => 2 | .u32 => 4 | .u64 => 8 | .i8 => 1 | .i16 => 2 | .i32 => 4 | .real => 4 | .str => 0 | .domain => 0

/-- A dictionary value as the bytes of its type (R381). -/
def valBytes (ty : ObjType) (v : Val) : List Nat :=
  match v with
  | .bytes b => bytesBE 2 b.length ++ b
  | .nonfinite => bytesBE 4 quietNaN
  | .real q => bytesBE 4 (f32Bits q)
  | .int z => if ty == .real then bytesBE 4 (f32Bits z) else bytesBE ty.size (z % (256 ^ ty.size : Int)).toNat

/-- The RW objects of 0x5800 to 0x584F in ascending order (R381). -/
def safetyKeys : List (Nat × ObjType) :=
  (List.range 0x50).flatMap fun i => (List.range 16).filterMap fun sub =>
    match objRow (0x5800 + i) sub with
    | some r => if r.access == .rw then some ((0x5800 + i) * 256 + sub, r.ty) else none
    | none => none

/-- SAF_CONFIG_CRC (R381). -/
def safetyCrc (s : State) : Nat :=
  crc crc32c (safetyKeys.flatMap fun (k, ty) => bytesBE 3 k ++ valBytes ty (s.obj k))

end Sys2Proof.Machine
end

