-- ==== Sys2Proof/Machine/BootOps.lean ====
section
/-!
DEFINITION. Entry into HALT and what survives it (R30, R45, R327, R445), and the stores (chapter 16): the hold-up check (R391), the
log ring (R394), two-copy records (R390) and what a dictionary store saves (R352).
-/

namespace Sys2Proof.Machine

def State.modNvs (s : State) (f : StoresSt → StoresSt) : State := { s with nvs := f s.nvs }

/-! ### Which objects are saved, and how -/

/-- A saved object that the host writes: its persistent value changes by a store of the dictionary (R327). -/
def savedRw (key : Nat) : Bool :=
  (decide (0x600000 ≤ key ∧ key < 0xA00000) && decide (0x10 ≤ key % 256 ∧ key % 256 ≤ 0x7F)) ||
  match objRow (key / 256) (key % 256) with | some r => r.saved && r.access == .rw | none => false

/-- A saved object that the module keeps itself, such as a counter since manufacture. -/
def savedRo (key : Nat) : Bool := match objRow (key / 256) (key % 256) with | some r => r.saved && r.access != .rw | none => false

/-- Writes laid over a store, oldest first. -/
def overlay (base writes : List ObjCell) : List ObjCell := writes.foldl (fun l c => cellPut c.1 c.2 l) base

/-- The values last written, those still waiting for a commit, a release, a mode change or a reset communication included. -/
def lastWritten (s : State) : List ObjCell :=
  let t := (s.commitWrites ++ s.heldWrites).foldl (State.setDue .nextCommit) s
  (s.resetWrites.foldl (State.setDue .nextReset) (s.modeWrites.foldl (State.setDue .nextModeChange) t)).objs

/-- What a store of the dictionary saves (R352): configured values, without the additions of R103. -/
def savedView (s : State) : List ObjCell := (overlay (lastWritten s) s.edg.added).filter fun c => savedRw c.1

/-! ### HALT -/

/-- The module starts anew: every island is held in reset, so all volatile state is as after reset. What is kept stands in MRAM and
flash (saved values, counters since manufacture, the log ring, the logic program and both data banks, the stores' records), in
one-time-programmable cells (security version), in the keystone's thermal latch with the broken sensors (R45, R445), and on the
pins. Saved objects take their persistent values, or their defaults after 0x1011:01 (R327, Table 14.6). -/
def restart (s : State) : State :=
  let saved := if s.net.restore then [] else s.saved
  let broken : Vector SensorSt 30 := Vector.ofFn fun i => { SupplySt.init.sensor[i] with broken := s.sup.sensor[i].broken }
  let t : State := { State.reset with
    pending := s.pending, saved := saved, objs := overlay (s.objs.filter fun c => savedRo c.1) saved
    logSeq := s.logSeq, logBuf := s.logBuf, logFlash := s.logFlash, tx := s.tx, free := s.free
    mod := { ModesSt.init with powered := s.mod.powered, resetAsserted := s.mod.resetAsserted, thermalLatch := s.mod.thermalLatch }
    sup := { SupplySt.init with sensor := broken, highAt := none, intAt := s.sup.intAt, bridge := s.sup.bridge }
    lgc := { LogicSt.init with program := s.lgc.program, bank := s.lgc.bank, lastBank := s.lgc.lastBank }
    nvs := { StoresSt.init with gen := s.nvs.gen, lost := s.nvs.lost, retired := s.nvs.retired, version := s.nvs.version,
                                sector := s.nvs.sector, page := s.nvs.page } }
  let t := (t.setN Obj.THM_BROKEN (s.objN Obj.THM_BROKEN)).setBit Obj.NVS_STATUS 1 (decide (3072 < 20 * s.nvs.retired.length))
  t.setN Obj.THM_SHUTDOWN_SENSOR (if s.mod.thermalLatch then s.objN Obj.THM_SHUTDOWN_SENSOR else 0)

/-- Entry into HALT (R30): every stage OFF, outputs harmless, the bypass relays closed (R346). Causes of event 0x700B: 1 the stop level, 2
the reset input. -/
def enterHalt (cause : Nat) (s : State) : State :=
  if s.mod.mode = .halt then s
  else
    let s := (s.bump Obj.MOD_TRANSITION_COUNT).log 0x1001 [s.mod.mode.code, 0]
    restart (if s.net.bypass then s else s.log 0x700B [1, cause])

/-- AUX_IN has reached its stop level and no store runs any more (R439): HALT, without power; the thermal latch and broken sensors
clear (R45, R445, R450), and events that no page has taken are lost with the buffer's supply. -/
def powerLoss (s : State) : State :=
  let s := enterHalt 1 s
  let s := s.modMod fun m => { m with powered := false, thermalLatch := false }
  let s := { s with sup := SupplySt.init, logBuf := [] }
  (s.setN Obj.THM_BROKEN 0).setN Obj.THM_SHUTDOWN_SENSOR 0

/-! ### The hold-up check -/

/-- Worst-case duration of a store in s and its power in W (Table 16.5). -/
def storeTime (k : StoreKind) (lines : Nat) : Rat :=
  match k with
  | .journal => (lines + 64 : Nat) * mkRat 16 100000000
  | .dictionary => mkRat 1311 1000000
  | .counters => mkRat 1311 1000000
  | .logPage => mkRat 8 10000
  | .erase => mkRat 30 1000
  | .image => mkRat 8 10000

def storePower (k : StoreKind) : Rat :=
  match k with | .journal => mkRat 3 10 | .dictionary => mkRat 3 10 | .counters => mkRat 3 10 | .logPage => mkRat 15 100 | .erase => mkRat 15 100
               | .image => mkRat 15 100

/-- E_a in J for V_hold: C measured, or 200 µF before (R391). -/
def energyHeld (s : State) (v : Rat) : Rat :=
  let c := s.objR Obj.NVS_HOLD_C
  (if 0 < c then c else 200) / 1000000 * (v * v - 144) / 2

/-- E_s in J (R391), with P_d = 6.0 W. -/
def energyNeeded (s : State) (k : StoreKind) (lines : Nat) : Rat :=
  (6 + storePower k) * storeTime k lines * (1 + mkRat (s.objI Obj.NVS_HOLD_MARGIN) 100)

def storeOrder : StoreKind → Nat
  | .journal => 0 | .dictionary => 1 | .counters => 2 | .logPage => 3 | .erase => 4 | .image => 5

/-- The waiting store that runs next: by the order of R391, oldest first. -/
def nextStore (l : List StoreSt) : Option StoreSt :=
  l.foldl (fun b x => match b with | none => some x | some y => if storeOrder x.kind < storeOrder y.kind then some x else some y) none

def showStores (s : State) : State := s.setBit Obj.NVS_STATUS 2 (!s.nvs.deferred.isEmpty)

/-- A deferral is counted; the first of its kind since one of that kind started is logged (R391). -/
def deferStore (k : StoreKind) (ea es : Rat) (s : State) : State :=
  let s := s.bump Obj.NVS_DEFERRED
  if s.nvs.deferred.contains k then s
  else showStores ((s.modNvs fun x => { x with deferred := k :: x.deferred }).log 0x9007 [storeOrder k, r32 ea, r32 es])

/-- A store of this kind has started: its next deferral is logged again. -/
def undeferStore (k : StoreKind) (s : State) : State :=
  showStores (s.modNvs fun x => { x with deferred := x.deferred.filter fun j => j != k })

/-- Under throttle step 1 flash erases start at least 1 s apart (Table 19.6). -/
def paceErase (s : State) (k : StoreKind) : Bool :=
  k == .erase && decide (1 ≤ s.objN Obj.THM_THROTTLE_STEP) && match s.nvs.eraseAt with | some t => decide (s.since t < cyclesSec) | none => false

/-- R391: the first waiting store starts if the rail can finish it; stores run one at a time, and none after the stop level. -/
def startStores (hold : Rat) (s : State) : State :=
  let s := s.setR Obj.NVS_HOLD_V (r32 hold)
  if !s.alive .house || s.nvs.stopped || s.nvs.running.isSome then s
  else
    match nextStore s.nvs.waiting with
    | none => s
    | some x =>
      if paceErase s x.kind then s
      else
        let ea := energyHeld s hold
        let es := energyNeeded s x.kind x.lines
        if ea < es then deferStore x.kind ea es s
        else
          undeferStore x.kind (s.modNvs fun n => { n with
            waiting := n.waiting.erase x, running := some x
            eraseAt := if x.kind = .erase then some s.now else n.eraseAt
            pageAt := if x.kind = .logPage then some s.now else n.pageAt })

/-- A store joins the waiting ones. -/
def requestStore (k : StoreKind) (lines : Nat) (w : Option Writer) (b : Option ImageBlock) (hold : Rat) (s : State) : State :=
  if !s.alive .house || s.nvs.stopped then s
  else startStores hold (s.modNvs fun n => { n with waiting := n.waiting ++ [⟨k, lines, w, s.now, b⟩] })

/-! ### The log ring -/

/-- Records in a sector of the ring, and sectors (R393). -/
def sectorRecords : Nat := 64
def ringSectors : Nat := 3072

/-- Records of dropped events are announced once space returns (R394). -/
def reportDropped (s : State) : State :=
  let d := s.objN Obj.NVS_LOG_DROPPED
  if s.nvs.reported < d && decide (s.logBuf.length < logCapacity) then
    (s.modNvs fun n => { n with reported := d }).log 0x900F [(d : Rat) - s.nvs.reported]
  else s

/-- The first sector from one on that is not retired; `n` bounds how many are skipped. -/
def skipRetired (retired : List Nat) : Nat → Nat → Nat
  | 0, k => k
  | n + 1, k => if retired.contains k then skipRetired retired n ((k + 1) % ringSectors) else k

/-- The sector that is filled after the present one: the next of the ring that is not retired (R394). -/
def nextSector (n : StoresSt) : Nat := skipRetired n.retired n.retired.length ((n.sector + 1) % ringSectors)

/-- A sector fails and is retired (R394): 0x900E; LOG_WORN beyond 5 %. Where it is the one being filled, the next one takes its place. -/
def retireSector (k : Nat) (s : State) : State :=
  let s := (s.log 0x900E [k]).modNvs fun n =>
    let n' := { n with retired := k :: n.retired }
    if k = n.sector then { n' with sector := nextSector n', page := 0 } else n'
  s.setBit Obj.NVS_STATUS 1 (decide (ringSectors < 20 * s.nvs.retired.length))

/-- The ring erases the sector after the one being filled: what it held is gone (R394). -/
def eraseSector (s : State) : State :=
  let room := (ringSectors - s.nvs.retired.length - 1) * sectorRecords
  { s with logFlash := s.logFlash.drop (s.logFlash.length - room) }

/-- A page of up to four records has been written and verified; a full sector asks for the erase of the one after the next. -/
def pageWritten (s : State) : State :=
  let s := { s with logFlash := s.logFlash ++ s.logBuf.take 4, logBuf := s.logBuf.drop 4 }
  let s := s.modNvs fun n =>
    if n.page + 1 < 16 then { n with page := n.page + 1 }
    else { n with page := 0, sector := nextSector n, waiting := n.waiting ++ [⟨.erase, 0, none, s.now, none⟩] }
  reportDropped s

/-- A page of the buffered events is due (R394); one is enough at a time. -/
def requestPage (hold : Rat) (s : State) : State :=
  if s.logBuf.isEmpty || s.nvs.waiting.any (fun x => x.kind == .logPage)
      || (match s.nvs.running with | some x => x.kind == .logPage | none => false) then startStores hold s
  else requestStore .logPage 0 none none hold s

end Sys2Proof.Machine
end

