-- ==== Sys2Proof/Machine/LogicOps.lean ====
section
/-!
DEFINITION. The deck and the logic engine as other chapters see them (chapter 13): tags and their types (R307), reading and writing a
tag through the dictionary (R308), the engine's commands (R313, R317, R318), restoring the image and starting (R299, R313).
-/

namespace Sys2Proof.Machine

def State.modLgc (s : State) (f : LogicSt → LogicSt) : State := { s with lgc := f s.lgc }
def State.modStn (s : State) (i : StationId) (f : StationSt → StationSt) : State :=
  s.modLgc fun l => { l with station := l.station.set i (f l.station[i]) }

/-! ### Time of the engine -/

/-- The count in which boundaries are placed: module time, in a pair twin time, in core cycles (R299). -/
def lgcAt (s : State) (mt : Nat) : Nat :=
  if s.twn.mode = 0 then mt else ttCycles s mt
def lgcNow (s : State) : Nat := lgcAt s s.now

/-- The stretch e in ms: throttle step 2 and above double the period (R303, Table 19.6). -/
def stretchMs (s : State) (tc : Nat) : Nat := if 2 ≤ s.objN Obj.THM_THROTTLE_STEP then tc else 0
/-- T_e in core cycles. -/
def periodCycles (s : State) : Nat := (s.lgc.tc + s.lgc.stretch) * cyclesMs

/-- A cycle is running. -/
def lgcBusy (s : State) : Bool := decide (lgcNow s < s.lgc.busyUntil)

/-- The bits of LGC_STATUS that follow the engine's state (Table 13.11). -/
def showLogic (s : State) : State :=
  let l := s.lgc
  let s := s.setField Obj.LGC_STATUS 0 4 (boolNat l.running + 2 * boolNat l.valid + 4 * boolNat l.staged.isSome + 8 * boolNat l.exchange.isSome)
  let s := s.setBit Obj.LGC_STATUS 6 l.lag
  let s := s.setField Obj.LGC_STATUS 8 4 (boolNat (isStandby s) + 2 * boolNat (isStandby s && l.level) + 4 * boolNat (decide (0 < l.stretch))
    + 8 * (l.lastBank % 2))
  let s := s.setN Obj.LGC_PROG_ID ((l.program.map (·.id)).getD 0)
  let s := s.setN Obj.LGC_PROG_CHECK ((l.program.map (·.check)).getD 0)
  let s := s.setN Obj.LGC_WCET_BUSY ((l.program.map (·.wcetBusy)).getD 0)
  s.setN Obj.LGC_STAGED_ID ((l.staged.map (·.id)).getD 0)

/-! ### Tags -/

/-- The system tags that hold a value: number and type (Table 13.2). -/
def systemTags : List TagDef :=
  let d (t ty : Nat) : TagDef := ⟨t, ty, 0, 0, 0, 0⟩
  [d 0 0x1B, d 2 0x1B, d 4 6, d 5 5, d 6 5, d 7 7, d 8 7, d 9 6]

/-- A 64-bit type (Table 13.3). -/
def wideType (ty : Nat) : Bool := ty == 0x11 || ty == 0x15 || ty == 0x1B
/-- Bits of a type's value. -/
def typeBits (ty : Nat) : Nat :=
  if ty = 1 then 1 else if ty = 2 ∨ ty = 5 then 8 else if ty = 3 ∨ ty = 6 then 16 else if wideType ty then 64 else 32
def signedType (ty : Nat) : Bool := ty == 2 || ty == 3 || ty == 4 || ty == 0x15

/-- A floating-point encoding with `eb` exponent and `mb` fraction bits as a value. -/
def decodeFloat (eb mb raw : Nat) : Val :=
  let frac := raw % 2 ^ mb
  let e := raw / 2 ^ mb % 2 ^ eb
  let neg := raw / 2 ^ (mb + eb) % 2 == 1
  if e = 2 ^ eb - 1 then .nonfinite
  else
    let bias : Int := 2 ^ (eb - 1) - 1
    let m := if e = 0 then frac else frac + 2 ^ mb
    let x : Int := (if e = 0 then 1 else (e : Int)) - bias - mb
    let q : Rat := if 0 ≤ x then ((m * 2 ^ x.toNat : Nat) : Rat) else mkRat m (2 ^ (-x).toNat)
    .real (if neg then -q else q)

/-- A finite number as binary64, rounded to the nearest; the exponent range is not limited here. -/
def f64Bits (q : Rat) : Nat :=
  let a := absR q
  if a = 0 then 0
  else
    let e := ratExponent a.num.natAbs a.den
    let s := 52 - e
    let m := if 0 ≤ s then roundNearestEven (a.num.natAbs * 2 ^ s.toNat) a.den else roundNearestEven a.num.natAbs (a.den * 2 ^ (-s).toNat)
    let (m, e) := if m = 2 ^ 53 then (2 ^ 52, e + 1) else (m, e)
    (if q < 0 then 2 ^ 63 else 0) + (e + 1023).toNat * 2 ^ 52 + (m - 2 ^ 52)

/-- A tag's raw value as a dictionary value. -/
def tagVal (ty raw : Nat) : Val :=
  if ty = 8 then decodeFloat 8 23 raw
  else if ty = 0x11 then decodeFloat 11 52 raw
  else
    let n := typeBits ty
    let v := raw % 2 ^ n
    .int (if signedType ty && decide (2 ^ (n - 1) ≤ v) then (v : Int) - 2 ^ n else v)

/-- A dictionary value as the raw value of a tag: the abort code where type or range do not fit. -/
def rawOf (ty : Nat) (v : Val) : Except Nat Nat :=
  match v with
  | .bytes _ => .error 0x06070010
  | .nonfinite => if ty = 8 then .ok quietNaN else if ty = 0x11 then .ok 0x7FF8000000000000 else .error 0x06070010
  | .real q => if ty = 8 then .ok (f32Bits q) else if ty = 0x11 then .ok (f64Bits q) else .error 0x06070010
  | .int z =>
    if ty = 8 then .ok (f32Bits z)
    else if ty = 0x11 then .ok (f64Bits z)
    else
      let n := typeBits ty
      let lo : Int := if signedType ty then -(2 ^ (n - 1)) else 0
      let hi : Int := if signedType ty then 2 ^ (n - 1) - 1 else 2 ^ n - 1
      if lo ≤ z ∧ z ≤ hi then .ok (z % (2 ^ n : Int)).toNat else .error 0x06090030

def findTag (s : State) (t : Nat) : Option TagSt := s.lgc.image.tags.find? fun x => x.defn.tag == t
/-- The odd half of a 64-bit tag (R307). -/
def oddHalf (s : State) (t : Nat) : Bool :=
  t % 2 == 1 && match findTag s (t - 1) with | some x => wideType x.defn.type | none => decide (t = 1 ∨ t = 3)

/-- The value and quality of a tag as they stood at the end of the last completed cycle (R308). -/
def settledTag (s : State) (x : TagSt) : Nat × Nat := if lgcBusy s then (x.oldVal, x.oldQ) else (x.val, x.q)

/-- A dictionary read of a tag: abort code or value (R307, R308). -/
def readTag (s : State) (t : Nat) : Except Nat Val :=
  if oddHalf s t then .error 0x06020000
  else match findTag s t with
    | some x => .ok (tagVal x.defn.type (settledTag s x).1)
    | none => .ok (.int 0)

/-- Quality as read (Table 13.5): BAD for an unused tag and while the logic island is fenced. -/
def tagQuality (s : State) (t : Nat) : Nat :=
  match findTag s t with
  | some x => (settledTag s x).2 ||| boolNat (s.fenced .logic)
  | none => if 10 ≤ t ∧ t < 256 then boolNat (s.fenced .logic) else 1

/-- A dictionary write to a tag, held until the next latch (R308). Answers the abort code. -/
def hostWrite (t : Nat) (v : Val) (s : State) : Nat × State :=
  if oddHalf s t then (0x06020000, s)
  else match findTag s t with
    | none => (0x06010002, s)
    | some x =>
      if x.defn.binding ≠ 2 then (0x06010002, s)
      else match rawOf x.defn.type v with
        | .error e => (e, s)
        | .ok raw => (0, s.modLgc fun l => { l with host := (l.host.filter fun h => h.1 != t) ++ [(t, raw)] })

/-! ### Images -/

/-- A tag at its initial value with quality INITIAL. -/
def freshTag (d : TagDef) : TagSt := ⟨d, d.init, 4, d.init, 4⟩
def freshInst (d : InstDef) : InstSt := ⟨d, none, 0, false, false, false, d.init⟩
def freshChart (lt : Nat) (d : ChartDef) : ChartSt := ⟨d, d.start, lt⟩

/-- The image of a program before its first cycle. -/
def initialImage (p : Option Program) (count lt : Nat) : Image :=
  { count := count, lt := lt, tags := (systemTags ++ (p.map (·.tags)).getD []).map freshTag
    insts := ((p.map (·.insts)).getD []).map freshInst, charts := ((p.map (·.charts)).getD []).map (freshChart lt) }

/-- The stations of a program; the others are unused. Those that `keep` says stay as they are (R319). -/
def setStations (p : Option Program) (keep : StationId → Nat → Bool) (s : State) : State :=
  (List.finRange 64).foldl (fun s i =>
    match ((p.map (·.stations)).getD []).find? fun e => e.1 == i with
    | some (_, id) =>
      if keep i id then s
      else (((s.modStn i fun _ => { StationSt.init with st := 1 }).setN (Obj.LGC_STN_ID i) id).setN (Obj.LGC_STN_STATE i) 1)
    | none => ((s.modStn i fun _ => StationSt.init).setN (Obj.LGC_STN_ID i) 0).setN (Obj.LGC_STN_STATE i) 0) s

/-- R301: a program's worst-case busy time leaves the idle time that LGC_IDLE_MIN asks for. -/
def fitsPeriod (wcet idleMin tc : Nat) : Bool := decide (wcet * 100 ≤ (100 - idleMin) * tc * 1000)
def programFits (s : State) (p : Program) : Bool := fitsPeriod p.wcetBusy (s.objN Obj.LGC_IDLE_MIN) (s.objN Obj.LGC_CYCLE_PERIOD)

/-- The bank to restore: valid, with the higher cycle count (R313). -/
def bestBank (s : State) : Option (Nat × Image) :=
  match s.lgc.bank[(0 : Fin 2)], s.lgc.bank[(1 : Fin 2)] with
  | some a, some b => if a.count < b.count then some (1, b) else some (0, a)
  | some a, none => some (0, a)
  | none, some b => some (1, b)
  | none, none => none

/-- R313: at the end of SURVEY the image is restored, every used tag RESTORED; without a valid bank everything is initial. A program
that does not fit is rejected: empty cycles, its tags INITIAL (R301). -/
def restoreImage (s : State) : State :=
  let fit := match s.lgc.program with | some p => programFits s p | none => false
  let ok := s.lgc.verified && fit
  let s := if s.lgc.verified && !fit then s.log 0x6009 [3] else s
  let s := s.modLgc fun l => { l with valid := ok, host := [], exchange := none, busyUntil := 0, skipped := 0, marked := 16320, kept := 0,
                                      lag := false, exchanging := false }
  let s := setStations s.lgc.program (fun _ _ => false) s
  let s := match bestBank s with
    | some (b, im) =>
      let kept (t : TagSt) : TagSt := if ok then { t with q := 8, oldVal := t.val, oldQ := 8 } else freshTag t.defn
      let tags := im.tags.map kept
      let s := (s.modLgc fun l => { l with image := { im with tags := tags }, lastBank := b }).setBit Obj.LGC_STATUS 7 false
      s.log 0x6001 [b, im.count, im.lt]
    | none =>
      let s := (s.modLgc fun l => { l with image := initialImage l.program 0 0 }).setBit Obj.LGC_STATUS 7 true
      s.log 0x6006 [0, 0]
  showLogic (s.modMod fun m => { m with restoreDone := true })

/-- The engine begins its cycles: the first boundary is the first whole multiple of T_c after SURVEY ends (R299) or, at a take-over, the one
at or after its instant (R322). A duplex standby does not execute (R321). -/
def startEngine (takeOver : Bool) (s : State) : State :=
  let tc := s.objN Obj.LGC_CYCLE_PERIOD
  let n := tc * cyclesMs
  showLogic (s.modLgc fun l => { l with
    running := !isStandby s && s.alive .logic, starting := true, tc := tc, nextAt := if takeOver then (lgcNow s + n - 1) / n * n else (lgcNow s / n + 1) * n, lastAt := lgcNow s, busyUntil := 0 })

/-- The engine executes no further cycle (R38, R321). -/
def stopEngine (s : State) : State := showLogic (s.modLgc fun l => { l with running := false })

/-! ### Commands -/

/-- LGC_CMD EXCHANGE (R318). Answers the abort code. -/
def programExchange (w : Writer) (s : State) : Nat × State :=
  if !s.commands w then (0x08000021, s)
  else if !s.lgc.running || s.lgc.staged.isNone || s.lgc.exchange.isSome then (0x08000022, s)
  else
    let inst := s.objN Obj.LGC_CMD_INSTANT
    if implausible (lgcNow s) inst then (0x08000022, countImplausible .logic s) else
    let s := if inst ≠ 0 && decide (inst ≤ s.lgc.lastAt) then s.log 0x600E [1, lgcNow s - inst] else s
    (0, showLogic (s.modLgc fun l => { l with exchange := some inst }))

/-- LGC_CMD DISCARD_STAGED (Table 13.12). -/
def discardStaged (s : State) : Nat × State :=
  if s.lgc.exchange.isSome then (0x08000022, s) else (0, showLogic (s.modLgc fun l => { l with staged := none }))

/-- LGC_CMD RESET_RETAIN (R313), in READY with service access. -/
def resetRetain (w : Writer) (s : State) : Nat × State :=
  if !serviceOk s w then (0x08000021, s)
  else if s.mod.mode != .ready then (0x08000022, s)
  else (0, s.modLgc fun l => { l with resetRetain := true })

/-- The limits of R306: 2 MiB of code, 380 KiB of program data, 64 stations, deck tags from 256 to 131,071 of the types of Table 13.3, a 64-bit
one at an even number (R307). -/
def withinLimits (p : Program) : Bool :=
  decide (p.code ≤ 2097152) && decide (p.data ≤ 389120) && decide (p.stations.length ≤ 64)
    && p.tags.all fun t => decide (256 ≤ t.tag ∧ t.tag ≤ 131071) && ((decide (1 ≤ t.type ∧ t.type ≤ 8)) || wideType t.type)
      && !(wideType t.type && t.tag % 2 == 1)

/-- A block of a program package; the last one brings the checks of R317: 1 signature, 2 limits (R306), 3 fit (R301). -/
def stageBlock (last : Option Program) (s : State) : Nat × State :=
  match last with
  | none => (0, s.modLgc fun l => { l with staging := true })
  | some p =>
    let s := s.modLgc fun l => { l with staging := false }
    if !p.signed then (0x08000020, s.log 0x6009 [1])
    else if !withinLimits p then (0x08000020, s.log 0x6009 [2])
    else if !programFits s p then (0x08000020, s.log 0x6009 [3])
    else (0, showLogic ((s.modLgc fun l => { l with staged := some p }).log 0x6007 [p.id]))

/-- LGC_CMD by KEY and CODE (Table 13.12). -/
def logicCommand (v : Nat) (w : Writer) (s : State) : Nat × State :=
  if v / 256 ≠ 0x5A then (0x06090030, s)
  else match v % 256 with
    | 1 => programExchange w s
    | 2 => discardStaged s
    | 3 => resetRetain w s
    | _ => (0x06090030, s)

end Sys2Proof.Machine
end

