-- ==== Sys2Proof/Machine/Law.lean ====
section
/-!
DEFINITION. The forming law of a GFI stage (chapter 3) with the parts of chapters 4 to 6 that act inside it: the outer
step (R53 to R57, R112), filters (R56), virtual impedance and its limiter (R58, R100), voltage and current loops in both
frames (R59, R60), sequences and saturation (R63, R64, R101), prediction and notch (R62), injection (R126) and modulation.
The operations of the spec's equations are rounded to binary32 one by one, a product added to a value as one fused
multiply-add (R153; DEDUCED, log 3).
-/

namespace Sys2Proof.Machine

/-- The parameters a sample is computed with, in SI or per unit as the equations use them. -/
structure LawParams where
  tu : Rat
  tOut : Rat
  div : Nat
  fb : Rat
  wb : Rat
  h : Rat
  d : Rat
  td : Rat
  mp : Rat
  nq : Rat
  pSet : Rat
  qSet : Rat
  tIso : Rat
  tP : Rat
  tQ : Rat
  fLim : Rat
  eMin : Rat
  eMax : Rat
  rv : Rat
  xv : Rat
  xvn : Rat
  kpV : Rat
  kiV : Rat
  kpI : Rat
  kc : Rat
  krH : Rat
  fn : Rat
  bw : Rat
  depth : Rat
  l1 : Rat
  cf : Rat
  negLim : Rat
  negKi : Rat
  zeroKp : Rat
  zeroKi : Rat
  nLim : Rat
  frame : Bool
  fourLeg : Bool
  seqMode : Nat
  notchEn : Bool
  capFb : Bool
  harm : Nat
  viStart : Rat
  viGain : Rat
  viXr : Rat
  iLim : Rat
  priority : Nat
  recovery : Nat
  vHalf : Rat
deriving DecidableEq, Repr

def milli (z : Int) : Rat := r32 (mkRat z 1000)

/-- The bases of R3 of a stage: S_b, V_b (line-to-line RMS, or DC without an AC side), I_b, Z_b and ω_b (0: no frequency base), with the peak
phase voltage and current that the forming law's equations are per unit of (R50). -/
structure Bases where
  v : Rat
  s : Rat
  i : Rat
  z : Rat
  w : Rat
  vPeak : Rat
  iPeak : Rat
deriving DecidableEq, Repr

/-- Bases of a stage with an AC side (R3). -/
def acBases (p v f : Rat) : Bases :=
  let i := fdiv p (fmul (sqrt32 3) v)
  ⟨v, p, i, fdiv (fmul v v) p, fmul twoPi f, fmul (sqrt32 (mkRat 2 3)) v, fmul (sqrt32 2) i⟩

/-- Bases of a stage without one (R3). -/
def dcBases (p v : Rat) : Bases :=
  let i := fdiv p v
  ⟨v, p, i, fdiv (fmul v v) p, 0, v, i⟩

/-- The bases of a stage by its type; ratings that no object names are the module's own constants (DESIGN CHOICE, log 128). -/
def stageBases (s : State) (n : StageId) : Bases :=
  let own (k : Nat) : Rat := Config.stageRating n.val k
  match s.stype n with
  | .gfi => acBases (s.objR (Obj.GFL_S_RATED n) * 1000) (s.objR (Obj.GFL_V_RATED n)) (s.fb n)
  | .afe => acBases (own 0 * 1000) (s.objR (Obj.FRT_IN_RATED n)) (own 2)
  | .mot => acBases (own 0 * 1000) (own 1) (own 2)
  | _ => dcBases (own 0 * 1000) (s.objR (Obj.FRT_LINK_RATED n))

/-- f_res of R62 from GFL_L1, GFL_L2 and GFL_CF; the formula states no value for GFL_L2 = 0, where a free one stands (DESIGN CHOICE, log 124). -/
def resonance (s : State) (n : StageId) : Rat :=
  let l1 := milli (s.objI (Obj.GFL_L1 n))
  let l2 := milli (s.objI (Obj.GFL_L2 n))
  let cf := milli (s.objI (Obj.GFL_CF n))
  if l2 = 0 then r32 (Config.resonanceOpen l1 cf) else fmul (s.fb n) (sqrt32 (fdiv (fadd l1 l2) (fmul (fmul l1 l2) cf)))

/-- f_n,cfg: GFL_NOTCH_F, or f_res when that is 0 (R62, R132). -/
def notchCfg (s : State) (n : StageId) : Rat :=
  if s.objN (Obj.GFL_NOTCH_F n) = 0 then resonance s n else s.objR (Obj.GFL_NOTCH_F n)

/-- A configured value on its 20 ms way, or as it stands (R58). -/
def gliding (g : Option Glide) (t : Nat) (v : Rat) : Rat := match g with | some g => r32 (g.at_ t) | none => v

/-- The parameters in force for stage n at this sample. -/
def lawParams (s : State) (n : StageId) : LawParams :=
  let c := s.objN (Obj.GFL_CONFIG n)
  let p := s.pie[n]
  let v := s.srv[n]
  let t := s.now
  { tu := s.tuSec n
    div := s.objN (Obj.GFL_OUTER_DIV n)
    tOut := r32 (s.tuSec n * (2 ^ s.objN (Obj.GFL_OUTER_DIV n) : Nat))
    fb := s.fb n
    wb := s.wb n
    h := r32 (mkRat (s.objI (Obj.GFL_H n)) 100)
    d := r32 (mkRat (s.objI (Obj.GFL_D n)) 10)
    td := milli (s.objI (Obj.GFL_DAMP_TC n))
    mp := r32 (mkRat (s.objI (Obj.GFL_MP n)) 10000)
    nq := r32 (mkRat (s.objI (Obj.GFL_NQ n)) 10000)
    pSet := milli (s.objI (Obj.GFL_P_SET n))
    qSet := milli (s.objI (Obj.GFL_Q_SET n))
    tIso := milli (s.objI (Obj.GFL_ISO_TC n))
    tP := r32 (mkRat (s.objI (Obj.GFL_P_TC n)) 1000000)
    tQ := r32 (mkRat (s.objI (Obj.GFL_Q_TC n)) 1000000)
    fLim := r32 (mkRat (s.objI (Obj.GFL_F_LIMIT n)) 10000)
    eMin := milli (s.objI (Obj.GFL_E_MIN n))
    eMax := milli (s.objI (Obj.GFL_E_MAX n))
    rv := fadd (gliding p.rv t (milli (s.objI (Obj.GFL_RV n)))) (gliding v.glideR t v.dRad)
    xv := fadd (gliding p.xv t (milli (s.objI (Obj.GFL_XV n)))) (gliding v.glideX t v.dXad)
    xvn := gliding p.xvn t (milli (s.objI (Obj.GFL_XVN n)))
    kpV := milli (s.objI (Obj.GFL_KP_V n))
    kiV := s.objR (Obj.GFL_KI_V n)
    kpI := milli (s.objI (Obj.GFL_KP_I n))
    kc := if bitsAt c 5 1 = 1 then fadd (milli (s.objI (Obj.GFL_KC n))) v.dKc else 0
    krH := s.objR (Obj.GFL_KR_H n)
    fn := fadd (notchCfg s n) v.dFn
    bw := s.objR (Obj.GFL_NOTCH_BW n)
    depth := milli (s.objI (Obj.GFL_NOTCH_DEPTH n))
    l1 := milli (s.objI (Obj.GFL_L1 n))
    cf := milli (s.objI (Obj.GFL_CF n))
    negLim := milli (s.objI (Obj.GFL_NEG_I_LIMIT n))
    negKi := s.objR (Obj.GFL_NEG_KI n)
    zeroKp := milli (s.objI (Obj.GFL_ZERO_KP n))
    zeroKi := s.objR (Obj.GFL_ZERO_KI n)
    nLim := fdiv (milli (s.objI (Obj.GFL_N_I_LIMIT n))) (sqrt32 2)
    frame := bitsAt c 0 1 = 1
    fourLeg := bitsAt c 1 1 = 1
    seqMode := bitsAt c 2 2
    notchEn := bitsAt c 4 1 = 1
    capFb := bitsAt c 5 1 = 1
    harm := bitsAt c 6 4
    viStart := milli (s.objI (Obj.FRT_VI_START n))
    viGain := milli (s.objI (Obj.FRT_VI_GAIN n))
    viXr := s.objR (Obj.FRT_VI_XR n)
    iLim := milli (s.objI (Obj.FRT_I_LIMIT n))
    priority := s.field (Obj.FRT_CONFIG n) 3 2
    recovery := s.objN (Obj.FRT_RECOVERY_TIME n) * cyclesMs
    vHalf := fdiv (s.objR (Obj.FRT_LINK_RATED n) / 2) (stageBases s n).vPeak }

/-- Advance of a UQ0.32 angle over a time at a per-unit speed: round(2³² × f_b × ω × T) (block ANGLE, R153). -/
def angleStep (fb w t : Rat) : Int := roundEven ((4294967296 : Rat) * fmul (fmul fb w) t)

def addAngle (th : Nat) (d : Int) : Nat := wrap32 ((th : Int) + d)

/-- Clarke transform, amplitude-invariant (R50, block 0x000A), with the zero component. -/
def clarke (v : Tri) : Vec := ⟨fmul (r32 (mkRat 2 3)) (fma (-(mkRat 1 2)) (fadd v.b v.c) v.a), fdiv (fsub v.b v.c) (sqrt32 3)⟩
def zeroOf (v : Tri) : Rat := fdiv (fadd (fadd v.a v.b) v.c) 3

/-- Park and inverse Park with the trig unit's sine and cosine (blocks 0x000B, 0x000C). -/
def park (v : Vec) (th : Nat) : Vec :=
  let c := cos32 th
  let sn := sin32 th
  ⟨fma v.x c (fmul v.y sn), fma (-v.x) sn (fmul v.y c)⟩
def invPark (v : Vec) (th : Nat) : Vec :=
  let c := cos32 th
  let sn := sin32 th
  ⟨fma v.x c (-(fmul v.y sn)), fma v.x sn (fmul v.y c)⟩

/-- Inverse Clarke: the three phase values of a vector. -/
def invClarke (v : Vec) : Tri :=
  let h := sqrt32 3 / 2
  ⟨v.x, fma h v.y (-v.x / 2), fma (-h) v.y (-v.x / 2)⟩

/-- Coefficients b0, b1, b2, a1, a2 of a second-order section. -/
structure Biquad where
  b0 : Rat
  b1 : Rat
  b2 : Rat
  a1 : Rat
  a2 : Rat
deriving DecidableEq, Repr

/-- tan of half the angle ω × T, from the trig unit (prewarping of R62 and block 0x0007): f in Hz. -/
def tanHalf (f t : Rat) : Rat :=
  let th := wrap32 (roundEven ((2147483648 : Rat) * fmul f t))
  fdiv (sin32 th) (cos32 th)

/-- The notch of R62 by the bilinear transform prewarped at f_n. -/
def notchCoef (fn bw depth t : Rat) : Biquad :=
  let wn := fmul twoPi fn
  let k := fdiv wn (tanHalf fn t)
  let kk := fmul k k
  let ww := fmul wn wn
  let zk := fmul (fmul (fdiv bw fn) wn) k
  let dz := fmul depth zk
  let den := fadd (fadd kk zk) ww
  let mid := fdiv (2 * fsub ww kk) den
  ⟨fdiv (fadd (fadd kk dz) ww) den, mid, fdiv (fadd (fsub kk dz) ww) den, mid, fdiv (fadd (fsub kk zk) ww) den⟩

/-- The resonant term of block 0x0007 by the bilinear transform prewarped at f (hω as a frequency in Hz). -/
def resonantCoef (kr wc f t : Rat) : Biquad :=
  let w := fmul twoPi f
  let k := fdiv w (tanHalf f t)
  let kk := fmul k k
  let ww := fmul w w
  let ck := fmul (2 * wc) k
  let den := fadd (fadd kk ck) ww
  let b := fdiv (fmul kr ck) den
  ⟨b, 0, -b, fdiv (2 * fsub ww kk) den, fdiv (fadd (fsub kk ck) ww) den⟩

/-- Transposed direct form II (block 0x0008): output and new states. -/
def biquadStep (c : Biquad) (s1 s2 u : Rat) : Rat × Rat × Rat :=
  let y := fma c.b0 u s1
  (y, fma c.b1 u (fma (-c.a1) y s2), fma c.b2 u (-(fmul c.a2 y)))

/-- A first-order low-pass step of R56 with smoothing factor T_u / (T + T_u). -/
def lpf (y u t tu : Rat) : Rat := fma (fsub u y) (fdiv tu (fadd t tu)) y

/-- What an outer step found: clamps held (R55, R57), E before clamping. -/
structure OuterFlags where
  fClamp : Bool
  eClamp : Bool
  eRaw : Rat
  pHeld : Bool
deriving DecidableEq, Repr

/-- The outer step (R53, R54, R55, R57): in the order of R53, with ΔP_c of R112 added to P_set, or to P_m after the
integrator on an isochronous stage. -/
def outerStep (q : LawParams) (l : Law) : Law × OuterFlags :=
  let w0 := l.omega
  let wd := fma (fdiv q.tOut q.td) (fsub w0 l.omegaD) l.omegaD
  let iso := decide (q.mp = 0)
  let wset := omegaSet l
  let integ := fma (fdiv q.tOut q.tIso) (fsub (fadd 1 l.dws) w0) l.pMech
  let pm := if iso then clampR integ (-1) 1 else fadd (fadd q.pSet l.dPc) (fdiv (fsub wset w0) q.mp)
  let pAct := if iso then fadd pm l.dPc else pm
  let a := fma (-q.d) (fsub w0 wd) (fsub pAct l.pF)
  let w1 := fma (fdiv q.tOut (2 * q.h)) a w0
  let w := clampR w1 (fsub 1 q.fLim) (fadd 1 q.fLim)
  let eRaw := fma (-q.nq) (fsub l.qF q.qSet) (fadd (fadd 1 l.dvr) l.dvs)
  let e := fmul l.r (clampR eRaw q.eMin q.eMax)
  ({ l with omegaD := wd, pMech := pm, omega := w, e := e },
   ⟨decide (w ≠ w1), decide (eRaw < q.eMin) || decide (q.eMax < eRaw), eRaw, iso && decide (pm ≠ integ)⟩)

/-- Virtual-impedance limiter of R100: ΔX_lim follows I_o upward at once; a decrease is rate-limited so that the value
held when it began reaches 0 in no less than FRT_RECOVERY_TIME. `decay`: value and instant at which it began. -/
def viLimit (q : LawParams) (io dx : Rat) (decay : Option (Rat × Nat)) (t : Nat) (held : Bool) : Rat × Option (Rat × Nat) :=
  let want := fmul q.viGain (maxR 0 (fsub io q.viStart))
  if dx ≤ want then (want, none)
  else if held then (dx, none)
  else
    let (v0, t0) := decay.getD (dx, t)
    let floor_ := if q.recovery = 0 then 0 else fma (-v0) (r32 (mkRat ((t - t0 : Nat) : Int) q.recovery)) v0
    let nx := maxR want floor_
    (nx, if nx ≤ want then none else some (v0, t0))

/-- Reference saturation of R101 on the magnitudes of i⁺, i⁻ and i_0: the factors that scale them, and whether it acted. -/
def saturate (prio : Nat) (lim ip im iz : Rat) : Rat × Rat × Rat × Bool :=
  let fit (rest x : Rat) : Rat := if x ≤ rest then 1 else if x = 0 then 1 else fdiv (maxR 0 rest) x
  let sum := fadd (fadd ip im) iz
  if sum ≤ lim then (1, 1, 1, false)
  else if prio = 1 then
    let kp := fit lim ip
    let rest := fma (-kp) ip lim
    let km := fit rest im
    (kp, km, fit (fma (-km) im rest) iz, true)
  else if prio = 2 then
    let km := fit lim im
    let rest := fma (-km) im lim
    let kp := fit rest ip
    (kp, km, fit (fma (-kp) ip rest) iz, true)
  else
    let k := fdiv lim sum
    (k, k, k, true)

/-- What the inner part reports of one sample. -/
structure InnerFlags where
  io : Rat
  level2 : Bool
  level3 : Bool
  negClamp : Bool
  negDemand : Rat
  nClamp : Bool
  nDemand : Rat
  finite : Bool
deriving DecidableEq, Repr

/-- Resonant terms of FRAME 1 on one axis: the fundamental and the harmonics HARM selects (R59). Returns the output and
the new states of the five terms (two each). -/
def resonants (q : LawParams) (w : Rat) (st : List Rat) (u : Rat) : Rat × List Rat :=
  let term (i h : Nat) (k : Rat) (on : Bool) : Rat × List Rat :=
    if on then
      let c := resonantCoef k 5 (fmul (fmul q.fb w) (h : Rat)) q.tu
      let (y, s1, s2) := biquadStep c (nth st (2 * i)) (nth st (2 * i + 1)) u
      (y, [s1, s2])
    else (0, [0, 0])
  let t0 := term 0 1 q.kiV true
  let t1 := term 1 5 q.krH (bitsAt q.harm 0 1 = 1)
  let t2 := term 2 7 q.krH (bitsAt q.harm 1 1 = 1)
  let t3 := term 3 11 q.krH (bitsAt q.harm 2 1 = 1)
  let t4 := term 4 13 q.krH (bitsAt q.harm 3 1 = 1)
  (fadd (fadd (fadd (fadd t0.1 t1.1) t2.1) t3.1) t4.1, t0.2 ++ t1.2 ++ t2.2 ++ t3.2 ++ t4.2)

/-- Sequence separation of R63 on the capacitor voltage and the output current, tracking ω_b × ω. -/
def separate (q : LawParams) (l : Law) (v i : Vec) : Law :=
  let w := fmul q.wb l.omega
  let rv := Config.dsogi 1 w q.tu l.seqV v.x v.y
  let ri := Config.dsogi 1 w q.tu l.seqI i.x i.y
  { l with seqV := rv.1, seqI := ri.1, vPos := ⟨r32 (nth rv.2 0), r32 (nth rv.2 1)⟩, vNeg := ⟨r32 (nth rv.2 2), r32 (nth rv.2 3)⟩,
           iPos := ⟨r32 (nth ri.2 0), r32 (nth ri.2 1)⟩, iNeg := ⟨r32 (nth ri.2 2), r32 (nth ri.2 3)⟩ }

/-- I_o of R100. -/
def sumCurrent (q : LawParams) (l : Law) (i0 : Rat) : Rat :=
  fadd (fadd l.iPos.mag l.iNeg.mag) (if q.fourLeg then absR i0 else 0)

/-- The prediction of R62: î_L and v̂_c in the stationary frame. -/
def predictIL (q : LawParams) (u vc iL : Vec) : Vec := Vec.fma (fdiv (fmul q.wb q.tu) q.l1) (u.sub vc) iL
def predictVc (q : LawParams) (vc iL io : Vec) : Vec := Vec.fma (fdiv (fmul q.wb q.tu) q.cf) (iL.sub io) vc

/-- What the negative-sequence loop of R63 gives: its output before and after GFL_NEG_I_LIMIT in the frame at −θ, whether the limit holds,
and its error. -/
structure NegLoop where
  raw : Vec
  out : Vec
  clamp : Bool
  err : Vec
deriving DecidableEq, Repr

/-- The negative-sequence loop (R63). Its output is the integrator before this sample's update, as x_v enters R59 (DESIGN CHOICE, log 125). -/
def negLoop (q : LawParams) (l : Law) (re : Rat) (thNeg : Nat) : NegLoop :=
  if q.seqMode = 0 then ⟨.zero, .zero, false, .zero⟩
  else
    let i := park l.iNeg thNeg
    let ref : Vec := if q.seqMode = 2 then ⟨fma (-re) i.x (fmul q.xvn i.y), -(fma re i.y (fmul q.xvn i.x))⟩ else .zero
    let m := l.neg.mag
    let clamp := decide (q.negLim < m)
    ⟨l.neg, if clamp then Vec.scale (fdiv q.negLim m) l.neg else l.neg, clamp, ref.sub (park l.vNeg thNeg)⟩

/-- The split of the inverter-current reference into sequences (R101), by the separator of R63 (DESIGN CHOICE, log 126): state, i⁺ and i⁻. -/
def splitRef (q : LawParams) (l : Law) (i : Vec) : List Rat × Vec × Vec :=
  let r := Config.dsogi 1 (fmul q.wb l.omega) q.tu l.seqR i.x i.y
  (r.1, ⟨r32 (nth r.2 0), r32 (nth r.2 1)⟩, ⟨r32 (nth r.2 2), r32 (nth r.2 3)⟩)

/-- Conditional integration (R61): the state stands where ride-through holds it (R106), or where the quantity it feeds is limited and the
update would drive it further (for vectors: along it; DESIGN CHOICE, log 125). -/
def condHold (hold limited : Bool) (update quantity : Vec) : Bool := hold || (limited && decide (0 < update.dot quantity))

/-- The neutral loop of R64: a PI on −v_0, whose output (the integrator before this sample's update) is the neutral leg's voltage command
(DESIGN CHOICE, log 125); `k`: the factor by which GFL_N_I_LIMIT and saturation leave the zero-sequence current. -/
def neutralCmd (q : LawParams) (l : Law) (v0 k : Rat) : Rat := if q.fourLeg then fmul k (fma (-q.zeroKp) v0 l.zero) else 0

/-- The inner part (R58 to R64) on a law whose angle, speed, E and ΔX_lim stand for this sample. `hold`: ride-through
holds the integrators (R106). `inj`: the survey's injection (R126). Returns the law, the commanded voltage in αβ with the
neutral command, and the flags. -/
def innerStep (q : LawParams) (l : Law) (smp : Sample) (hold : Bool) (inj : Vec) : Law × Vec × Rat × InnerFlags :=
  let vc := clarke smp.vc
  let io := clarke smp.io
  let iL := clarke smp.iL
  let i0 := zeroOf smp.io
  let th1 := addAngle l.theta (angleStep q.fb l.omega q.tu)
  let th15 := addAngle l.theta (angleStep q.fb l.omega (fmul q.tu (mkRat 3 2)))
  let re := fadd q.rv l.dRlim
  let xe := fadd q.xv l.dXlim
  let ioDq := park io th15
  let vref : Vec := ⟨fma xe ioDq.y (fma (-re) ioDq.x l.e), fma (-xe) ioDq.x (-(fmul re ioDq.y))⟩
  let iLh := predictIL q l.u vc iL
  let vch := predictVc q vc iL io
  let thNeg := addAngle 0 (-(l.theta : Int))
  let neg := negLoop q l re thNeg
  -- voltage loop (R59), its reference in αβ with the negative-sequence loop's output added (R63)
  let vrefS := invPark vref th15
  let evS := vrefS.sub vch
  let evDq := vref.sub (park vch th1)
  let ra := resonants q l.omega l.res evS.x
  let rb := resonants q l.omega l.resH evS.y
  let wc := fmul l.omega q.cf
  let main : Vec :=
    if q.frame then (Vec.fma q.kpV evS (Vec.fma wc vrefS.rot90 io)).add ⟨ra.1, rb.1⟩
    else invPark ((Vec.fma q.kpV evDq (Vec.fma wc vref.rot90 ioDq)).add l.xv) th15
  let iRef := main.add (invPark neg.out thNeg)
  -- limits before saturation (R64), saturation of the split reference (R101)
  let (seqR, iP, iN) := splitRef q l iRef
  let nDemand := if q.fourLeg then fmul 3 (absR i0) else 0
  let nClamp := decide (q.nLim < nDemand)
  let kN := if nClamp then fdiv q.nLim nDemand else 1
  let (kp, km, kz, level3) := saturate q.priority q.iLim iP.mag iN.mag (if q.fourLeg then fmul kN (absR i0) else 0)
  let iLim := Vec.fma (-(fsub 1 km)) iN (Vec.fma (-(fsub 1 kp)) iP iRef)
  -- current loop (R60)
  let vAb :=
    if q.frame then Vec.fma (-q.kc) (iLh.sub io) (Vec.fma q.kpI (iLim.sub iLh) vch)
    else
      let iLdq := park iLh th1
      let v := Vec.fma (-q.kc) (iLdq.sub ioDq) (Vec.fma q.kpI ((park iLim th15).sub iLdq) (park vch th1))
      invPark (Vec.fma (fmul l.omega q.l1) iLdq.rot90 v) th15
  -- notch (R62)
  let c := notchCoef q.fn q.bw q.depth q.tu
  let na := biquadStep c (nth l.notch 0) (nth l.notch 1) vAb.x
  let nb := biquadStep c (nth l.notch 2) (nth l.notch 3) vAb.y
  let vN : Vec := if q.notchEn then ⟨na.1, nb.1⟩ else vAb
  -- zero sequence (R64)
  let v0 := zeroOf smp.vc
  let zOut := neutralCmd q l v0 (fmul kN kz)
  let zUp := fmul (fmul q.zeroKi q.tu) (-v0)
  let dqRef := park iRef th15
  let l' := { l with
    xv := if q.frame then .zero else if condHold hold level3 evDq dqRef then l.xv else Vec.fma (fmul q.kiV q.tu) evDq l.xv
    res := if hold || (level3 && decide (0 < evS.x * iRef.x)) then l.res else ra.2
    resH := if hold || (level3 && decide (0 < evS.y * iRef.y)) then l.resH else rb.2
    notch := if q.notchEn then [na.2.1, na.2.2, nb.2.1, nb.2.2] else l.notch
    neg := if q.seqMode = 0 then .zero
      else if condHold hold (neg.clamp || (level3 && decide (km < 1))) neg.err neg.raw then l.neg else Vec.fma (fmul q.negKi q.tu) neg.err l.neg
    zero := if !q.fourLeg then 0 else if condHold hold (nClamp || (level3 && decide (kz < 1))) ⟨zUp, 0⟩ ⟨zOut, 0⟩ then l.zero else fadd l.zero zUp
    seqR := seqR
    v0 := v0 }
  let cmd := vN.add inj
  let fin := cmd.finite && finite32 zOut && l'.xv.finite && l'.neg.finite && finite32 l'.zero && finite32 l'.omega &&
    finite32 l'.pMech && (l'.res ++ l'.resH ++ l'.notch).all finite32
  (l', cmd, zOut, ⟨sumCurrent q l i0, decide (0 < l.dXlim), level3, neg.clamp, neg.raw.mag, nClamp, nDemand, fin⟩)

/-- The clamping value of the 60° discontinuous pattern (block SVM, MODE 2): the leg with the largest voltage is clamped at its peak, to the
rail of its sign (DEDUCED from "clamps each leg for 60° at each peak of its voltage", log 127). -/
def svmClamp (legs : List Rat) (vdc : Rat) : Rat :=
  let hi := legs.foldl maxR (nth legs 0)
  let lo := legs.foldl minR (nth legs 0)
  if -lo ≤ hi then fsub hi (vdc / 2) else fadd lo (vdc / 2)

/-- v_z of block SVM (Table 7.7): MODE 0 none, 1 space-vector, 2 the 60° discontinuous pattern. -/
def svmZero (mode : Nat) (legs : List Rat) (vdc : Rat) : Rat :=
  if mode = 2 then svmClamp legs vdc
  else if mode = 1 then (fadd (legs.foldl maxR (nth legs 0)) (legs.foldl minR (nth legs 0))) / 2
  else 0

/-- One leg's duty (block SVM). -/
def svmDuty (x vz vdc : Rat) : Rat := fadd (mkRat 1 2) (fdiv (fsub x vz) vdc)

/-- Duties of the legs (block SVM, R60, R62): v normalised by half the DC-link voltage. MODE 1 space-vector, MODE 2 the 60°
discontinuous pattern that the thermal throttle selects. -/
def modulate (mode : Nat) (v : Vec) (vn : Rat) (fourLeg : Bool) (half : Rat) : List Rat :=
  let p := invClarke v
  let legs := if fourLeg then [p.a, p.b, p.c, vn] else [p.a, p.b, p.c]
  let vz := svmZero mode legs (2 * half)
  legs.map fun x => if half = 0 then mkRat 1 2 else clampR (svmDuty x vz (2 * half)) 0 1

/-- u(k + 1) reconstructed from duties and the measured DC-link voltage (R62). -/
def uOfDuties (d : List Rat) (half : Rat) : Vec :=
  let v (i : Nat) : Rat := fmul (fsub (nth d i) (mkRat 1 2)) (2 * half)
  if d.length < 3 then .zero else clarke ⟨v 0, v 1, v 2⟩

end Sys2Proof.Machine
end

