-- ==== Sys2Proof/Machine/Blocks.lean ====
section
/-!
DEFINITION. The block library (Table 7.7, R166) and the run of a compiled control graph over one sample (R152 to R156).
A signal is `none` when non-finite; a non-finite input makes a block's outputs and states non-finite (R154: no block
replaces a non-finite value by a finite one).
-/

namespace Sys2Proof.Machine

abbrev Sig := Option Rat

/-- A result of binary32 arithmetic: rounded, non-finite beyond the range. -/
def sig (q : Rat) : Sig := let r := r32 q; if finite32 r then some r else none

/-- What one block's step gives. -/
structure BlockOut where
  outs : List Sig
  states : List Sig
  limited : Bool := false
  holding : Bool := false
deriving DecidableEq, Repr

/-! ### Operations on signals: each rounds once, and a non-finite operand or result is non-finite (R153, R154) -/

def sAdd (a b : Sig) : Sig := a.bind fun x => b.bind fun y => sig (x + y)
def sSub (a b : Sig) : Sig := a.bind fun x => b.bind fun y => sig (x - y)
def sMul (a b : Sig) : Sig := a.bind fun x => b.bind fun y => sig (x * y)
def sDiv (a b : Sig) : Sig := a.bind fun x => b.bind fun y => if y = 0 then none else sig (x / y)
def sFma (a b c : Sig) : Sig := a.bind fun x => b.bind fun y => c.bind fun z => sig (x * y + z)
def sNeg (a : Sig) : Sig := a.map fun x => -x
/-- Clamping; non-finite passes (R154). -/
def sClamp (a : Sig) (lo hi : Rat) : Sig := a.map fun x => clampR x lo hi

/-- A parameter as a number: subnormal values are flushed (R153). -/
def prm (ps : List Val) (i : Nat) : Rat := r32 (ps.getD i (.int 0)).toRat
def prmN (ps : List Val) (i : Nat) : Nat := (ps.getD i (.int 0)).toInt.toNat

/-- A row of a matrix times a vector, added to `w` (matrix unit, Table 7.1). -/
def sDot (ps : List Rat) (off : Nat) (v : List Sig) (w : Sig) : Sig :=
  (List.range v.length).foldl (fun a i => sFma (some (nth ps (off + i))) (v.getD i none) a) w

/-- M × v + w for a matrix held row by row from `off`. -/
def sMatVec (ps : List Rat) (off rows : Nat) (v w : List Sig) : List Sig :=
  (List.range rows).map fun r => sDot ps (off + r * v.length) v (w.getD r (some 0))

/-- One second-order section (transposed direct form II): output and new states. -/
def sBiquad (c : Biquad) (s1 s2 u : Sig) : Sig × Sig × Sig :=
  let y := sFma (some c.b0) u s1
  (y, sFma (some c.b1) u (sFma (some (-c.a1)) y s2), sFma (some c.b2) u (sNeg (sMul (some c.a2) y)))

/-- Linear interpolation on n points x_1..x_n, y_1..y_n, clamped at the ends. -/
def interp (xs ys : List Rat) (u : Rat) : Rat :=
  match xs, ys with
  | [], _ => 0
  | _, [] => 0
  | [_], y :: _ => y
  | x :: x' :: xt, y :: yt =>
    if u ≤ x then y
    else if u ≤ x' then fma (fsub (nth yt 0) y) (fdiv (fsub u x) (fsub x' x)) y
    else interp (x' :: xt) yt u

/-- Values of one INPUT block's step (R164, R166): an off-plan value is passed on, or the last on-plan one held, which the state keeps. -/
def inputStep (ps : List Val) (st : List Sig) (x : InVal) : BlockOut :=
  let y : Sig := sFma (some (prm ps 0)) (x.v.map r32) (some (prm ps 1))
  let last : Sig := st.getD 0 (some 0)
  if !x.offPlan then ⟨[y], [y], false, false⟩
  else ⟨[if prmN ps 2 = 1 then last else y], [last], false, false⟩

/-- Whether an update drives a clamped quantity further into the limit it stands at (R61, mode 0). -/
def drivesInto (raw : Sig) (lo hi inc : Rat) : Bool :=
  match raw with
  | some r => (decide (hi < r) && decide (0 < inc)) || (decide (r < lo) && decide (inc < 0))
  | none => false

/-- One step of a block on finite inputs and states. `t`: the rate group's period in seconds; `f`: rated frequency. -/
def blockFin (code : Nat) (dims : List Nat) (ps : List Val) (t f : Rat) (st u : List Rat) (slow : Bool) : BlockOut :=
  let u0 := nth u 0
  let u1 := nth u 1
  let u2 := nth u 2
  let pr := ps.map fun v => r32 v.toRat
  let us : List Sig := u.map some
  let ss : List Sig := st.map some
  let s0 : Sig := ss.getD 0 (some 0)
  let p (i : Nat) : Sig := some (prm ps i)
  match code with
  | 0x0001 => ⟨us.map fun x => sMul (p 0) x, [], false, false⟩
  | 0x0002 => ⟨[sDot pr 0 us (some 0)], [], false, false⟩
  | 0x0003 => let y := clampR u0 (prm ps 0) (prm ps 1); ⟨[some y], [], decide (y ≠ u0), false⟩
  | 0x0004 =>
    let y := match sSub (some u0) s0 with
      | some d => sAdd s0 (some (clampR d (-(fmul (prm ps 1) t)) (fmul (prm ps 0) t)))
      | none => none
    ⟨[y], [y], false, false⟩
  | 0x0005 => let y := sAdd s0 (sDiv (sMul (sSub (some u0) s0) (some t)) (sAdd (p 0) (some t))); ⟨[y], [y], false, false⟩
  | 0x0006 =>
    let raw := sFma (p 0) (some u0) s0
    let y := sClamp raw (prm ps 3) (prm ps 4)
    let inc := sMul (p 1) (some u0)
    let into := drivesInto raw (prm ps 3) (prm ps 4) (inc.getD 0)
    if prmN ps 5 = 1 then ⟨[y], [sFma (some t) (sFma (p 2) (sSub y raw) inc) s0], decide (y ≠ raw), false⟩
    else ⟨[y], [if into then s0 else if raw.isNone then none else sFma (some t) inc s0], decide (y ≠ raw), into⟩
  | 0x0007 =>
    let w := r32 (prm ps 2 * u1)
    if w = 0 then ⟨[none], [none, none], false, false⟩
    else
      let c := resonantCoef (prm ps 0) (prm ps 1) (fdiv w twoPi) t
      let (yr, s1, s2) := sBiquad c s0 (ss.getD 1 (some 0)) (some u0)
      let y := sClamp yr (prm ps 3) (prm ps 4)
      -- mode 1: the section's feedback takes the saturated output (DESIGN CHOICE, log 129)
      if prmN ps 5 = 1 then
        ⟨[y], [sFma (some c.b1) (some u0) (sFma (some (-c.a1)) y (ss.getD 1 (some 0))), sFma (some c.b2) (some u0) (sNeg (sMul (some c.a2) y))],
         decide (y ≠ yr), false⟩
      else
        let into := drivesInto yr (prm ps 3) (prm ps 4) u0
        ⟨[y], if into then ss else [s1, s2], decide (y ≠ yr), into⟩
  | 0x0008 =>
    let n := dims.getD 0 1
    let (y, out) := (List.range n).foldl (fun (acc : Sig × List Sig) i =>
      let c : Biquad := ⟨prm ps (5 * i), prm ps (5 * i + 1), prm ps (5 * i + 2), prm ps (5 * i + 3), prm ps (5 * i + 4)⟩
      let (y, s1, s2) := sBiquad c (ss.getD (2 * i) (some 0)) (ss.getD (2 * i + 1) (some 0)) acc.1
      (y, acc.2 ++ [s1, s2])) (some u0, [])
    ⟨[y], out, false, false⟩
  | 0x0009 =>
    let fn := if u.length < 2 then prm ps 0 else u1
    if fn = 0 then ⟨[none], [none, none], false, false⟩
    else
      let (y, s1, s2) := sBiquad (notchCoef fn (prm ps 1) (prm ps 2) t) s0 (ss.getD 1 (some 0)) (some u0)
      ⟨[y], [s1, s2], false, false⟩
  | 0x000A =>
    let bc := sAdd (some u1) (some u2)
    let third := some (r32 (mkRat 2 3))
    ⟨[sMul third (sFma (some (-(mkRat 1 2))) bc (some u0)), sDiv (sSub (some u1) (some u2)) (some (sqrt32 3)),
      sDiv (sAdd (sAdd (some u0) (some u1)) (some u2)) (some 3)], [], false, false⟩
  | 0x000B => let v := park ⟨u0, u1⟩ u2.floor.toNat; ⟨[sig v.x, sig v.y], [], false, false⟩
  | 0x000C => let v := invPark ⟨u0, u1⟩ u2.floor.toNat; ⟨[sig v.x, sig v.y], [], false, false⟩
  | 0x000D => ⟨[some (sin32 u0.floor.toNat), some (cos32 u0.floor.toNat)], [], false, false⟩
  | 0x000E => let y : Rat := (addAngle (nth st 0).floor.toNat (angleStep (prm ps 0) u0 t) : Nat); ⟨[some y], [some y], false, false⟩
  | 0x000F =>
    let th := (nth st 1).floor.toNat
    let dq := park ⟨u0, u1⟩ th
    let e := sDiv (sig dq.y) (sig dq.mag)
    let raw := sFma (p 0) e s0
    let w := sClamp raw (prm ps 2) (prm ps 3)
    let into := drivesInto raw (prm ps 2) (prm ps 3) (e.getD 0)
    let th' : Sig := w.map fun w => ((addAngle th (angleStep f w t) : Nat) : Rat)
    ⟨[w, th'], [if into then s0 else if raw.isNone then none else sFma (sMul (some t) (p 1)) e s0, th'], decide (w ≠ raw), into⟩
  | 0x0010 =>
    let r := Config.dsogi (prm ps 0) (fmul (fmul twoPi f) u2) t st u0 u1
    ⟨[sig (nth r.2 0), sig (nth r.2 1), sig (nth r.2 2), sig (nth r.2 3)], r.1.map sig, false, false⟩
  | 0x0011 =>
    let legs := u.take (if prmN ps 1 = 4 then 4 else 3)
    let vdc := nth u legs.length
    let vz := svmZero (prmN ps 0) legs vdc
    ⟨legs.map fun x => sClamp (sAdd (some (mkRat 1 2)) (sDiv (sSub (some x) (sig vz)) (some vdc))) (prm ps 2) (prm ps 3), [], false, false⟩
  | 0x0012 =>
    let n := dims.getD 0 1
    let m := dims.getD 1 1
    let q := dims.getD 2 1
    let cx := sMatVec pr (n * n + n * m) q ss []
    let err := (List.range q).map fun i => sSub ((us.drop m).getD i (some 0)) (cx.getD i none)
    let x' := sMatVec pr (n * n + n * m + q * n) n err (sMatVec pr (n * n) n (us.take m) (sMatVec pr 0 n ss []))
    ⟨x', x', false, false⟩
  | 0x0013 =>
    let n := dims.getD 0 1
    let m := dims.getD 1 1
    let q := dims.getD 2 1
    let x' := sMatVec pr (n * n) n us (sMatVec pr 0 n ss [])
    ⟨sMatVec pr (n * n + n * m) q x' [], x', false, false⟩
  | 0x0014 => let n := dims.getD 0 1; ⟨[sig (interp (pr.take n) (pr.drop n) u0)], [], false, false⟩
  | 0x0015 =>
    let nx := dims.getD 0 1
    let ny := dims.getD 1 1
    let xs := pr.take nx
    let ys := (pr.drop nx).take ny
    let rows := (List.range ny).map fun j => interp xs ((pr.drop (nx + ny + j * nx)).take nx) u0
    ⟨[sig (interp ys rows u1)], [], false, false⟩
  | 0x0016 =>
    let y : Rat := if u0 > prm ps 1 then 1 else if u0 < prm ps 0 then 0 else nth st 0
    ⟨[some y], [some y], false, false⟩
  | 0x0017 =>
    if prmN ps 0 = 0 then (let y := if slow then u0 else nth st 2; ⟨[some y], [some 0, some 0, some y], false, false⟩)
    else
      let sum := sAdd s0 (some u0)
      let cnt := nth st 1 + 1
      let mean := sDiv sum (some cnt)
      if slow then ⟨[mean], [some 0, some 0, mean], false, false⟩
      else ⟨[some (nth st 2)], [sum, some cnt, some (nth st 2)], false, false⟩
  | 0x0019 => ⟨[some u0], [], false, false⟩
  | 0x001A => ⟨if u.isEmpty then [s0] else [some u0], if u.isEmpty then ss else [some u0], false, false⟩
  | 0x001B =>
    let m := prmN ps 0
    ⟨[some (nth st (m - 1))], (u0 :: st.take 15).map some, false, false⟩
  | _ => ⟨[], ss, false, false⟩

/-- How many states and outputs a block type has, at its initial state (all 0). -/
def blockInit (sp : BlockSpec) : List Sig :=
  let n := dims0 sp
  List.replicate n (some 0)
where
  dims0 (sp : BlockSpec) : Nat :=
    match sp.code with
    | 0x0004 => 1 | 0x0005 => 1 | 0x0006 => 1 | 0x0007 => 2 | 0x0008 => 2 * sp.dims.getD 0 1 | 0x0009 => 2 | 0x000E => 1
    | 0x000F => 2 | 0x0010 => 0 | 0x0012 => sp.dims.getD 0 1 | 0x0013 => sp.dims.getD 0 1 | 0x0016 => 1 | 0x0017 => 3
    | 0x0018 => 1 | 0x001A => 1 | 0x001B => 16 | _ => 0

def allSome : List Sig → Option (List Rat)
  | [] => some []
  | none :: _ => none
  | some x :: t => (allSome t).map (x :: ·)

/-- A block's wired inputs, from the outputs of the bank being computed. -/
def gather (bs : List BlockSt) (ws : List (Nat × Nat)) : List Sig :=
  ws.map fun (i, o) => match bs[i]? with | some b => b.outs.getD o (some 0) | none => some 0

/-- What a deck tag takes from an INPUT block (R310), kept above the bits of PIE_BLK_STATUS: bit 5 BAD, bit 6 a degraded value. -/
def inputMarks (x : Option InVal) : Nat :=
  match x with
  | some x => 32 * boolNat x.bad + 64 * boolNat (x.offPlan || x.unsettled || x.degraded)
  | none => 0

/-- An instance starts again from its initial state. -/
def BlockSt.reinit (b : BlockSt) : BlockSt := { b with states := blockInit b.spec, resetAtCommit := false }

/-- One block's step in place; a group that does not step holds. -/
def stepBlock (tu f : Rat) (k : Nat) (bs : List BlockSt) (b : BlockSt) (x : Option InVal) : BlockSt :=
  if k % 2 ^ b.spec.rate ≠ 0 then b
  else
    let t := r32 (tu * ((2 ^ b.spec.rate : Nat) : Rat))
    let slow := k % 2 ^ (b.spec.dims.getD 0 0) = 0
    let u := gather bs b.spec.wires
    let out : BlockOut :=
      match b.spec.code, x with
      | 0x0018, some x => inputStep b.params b.states x
      | code, _ =>
        match allSome u, allSome b.states with
        | some u, some s => blockFin code b.spec.dims b.params t f s u slow
        | _, _ => ⟨b.outs.map fun _ => none, b.states.map fun _ => none, false, false⟩
    let off := match x with | some x => x.offPlan | none => false
    let nonfin := out.outs.any Option.isNone || out.states.any Option.isNone
    { b with outs := out.outs, states := out.states,
             status := boolNat out.limited + 2 * boolNat out.holding + 4 * boolNat nonfin + 16 * boolNat off + inputMarks x }

/-- Run the blocks of one phase in instance order; INPUT blocks take the sample's values in order. -/
def runBlocks (tu f : Rat) (k : Nat) (post : Bool) : List Nat → List BlockSt → List InVal → List BlockSt
  | [], bs, _ => bs
  | i :: is, bs, ins =>
    match bs[i]? with
    | none => bs
    | some b =>
      let takes := b.spec.code == 0x0018
      let x := if takes then ins.head? else none
      let bs := if b.spec.post == post then bs.set i (stepBlock tu f k bs b x) else bs
      runBlocks tu f k post is bs (if takes then ins.tail else ins)

/-- R154: once a non-finite value stands at an OUTPUT block or in any state, the first instance in schedule order that produced one. -/
def firstNonfinite (bs : List BlockSt) : Option Nat :=
  let reached := bs.any fun b => b.states.any Option.isNone || (b.spec.code == 0x0019 && b.outs.any Option.isNone)
  if reached then (List.range bs.length).find? fun i => match bs[i]? with
    | some b => b.outs.any Option.isNone || b.states.any Option.isNone
    | none => false
  else none

/-- A value an OUTPUT block writes (block 0x0019): the channel of the set from 1, the slot and the value. -/
structure SetWrite where
  channel : Nat
  slot : Nat
  value : Rat
deriving DecidableEq, Repr

/-- What the OUTPUT blocks write. -/
def outputWrites (bs : List BlockSt) : List SetWrite :=
  (bs.filter fun b => b.spec.code == 0x0019).map fun b => ⟨prmN b.params 0, prmN b.params 1, (b.outs.getD 0 (some 0)).getD 0⟩

/-- The duties the OUTPUT blocks write (slot 0), by channel of the set. -/
def outputDuties (bs : List BlockSt) : List Rat :=
  let ws := (outputWrites bs).filter fun w => w.slot == 0
  (List.range (ws.foldl (fun m w => max m w.channel) 0)).map fun j => ((ws.find? fun w => w.channel == j + 1).map SetWrite.value).getD 0

/-- A graph's blocks as loaded (R151): initial states, parameters from their saved dictionary values. -/
def loadBlocks (g : GraphSpec) : List BlockSt :=
  g.blocks.map fun sp => ⟨sp, sp.params, [], blockInit sp, 0, false⟩

end Sys2Proof.Machine
end

