-- ==== Sys2Proof/Machine/SetOps.lean ====
section
/-!
DEFINITION. Command sets: their words and check value (R158, Table 7.3), how a commit forms one (R22, R155, R158, R166), and off-plan
triggers and conversions (R160, R164).
-/

namespace Sys2Proof.Machine

/-! ### Words of a set -/

/-- A 32-bit word of the set. -/
def word32 (v : Nat) : Nat := v % 4294967296

/-- The check value of words 0 to 3 + 9c, each with its most significant byte first (R158, R384; DEDUCED, log 130). -/
def setCrc (words : List Nat) : Nat := crc crc32c (words.flatMap (bytesBE 4))

/-- The nine words of one channel: four edge compares of 29 bits, four trigger compares, the control word. -/
def chanWords (x : ChanSet) : List Nat :=
  (List.range 4).map (fun i => x.compares.getD i 0 % 536870912) ++ (List.range 4).map (fun i => word32 (x.triggers.getD i 0)) ++ [word32 x.ctrl]

/-- The words of a set, its check value last (Table 7.3). -/
def encodeSet (x : CmdSet) : List Nat :=
  let w3 := x.chans.length % 16 + 16 * boolNat x.provisional + 256 * (x.tally % 256) + 65536 * x.stage.val
  let body := [word32 x.instant, word32 (x.instant / 4294967296), word32 x.k, w3] ++ x.chans.flatMap chanWords
  body ++ [setCrc body]

/-- One channel's words as the edge island reads them. -/
def chanOfWords (l : List Nat) : ChanSet :=
  ⟨(l.take 4).map (fun w => w % 536870912), (l.drop 4).take 4, l.getD 8 0⟩

/-- The set that words spell, or none where the check value or the length does not match. -/
def decodeSet (words : List Nat) : Option CmdSet :=
  let w3 := words.getD 3 0
  let c := bitsAt w3 0 4
  let body := words.take (4 + 9 * c)
  if 1 ≤ c ∧ c ≤ 12 ∧ words.length = 5 + 9 * c ∧ words.getD (4 + 9 * c) 0 = setCrc body then
    some { instant := words.getD 0 0 + 4294967296 * words.getD 1 0, k := words.getD 2 0, provisional := bitsAt w3 4 1 == 1
           tally := bitsAt w3 8 8, stage := Fin.ofNat 4 (bitsAt w3 16 2)
           chans := (List.range c).map fun j => chanOfWords ((words.drop (4 + 9 * j)).take 9) }
  else none

/-- Position of a trigger word, signed, in 1/32 core cycle; none where it is not enabled (Table 7.3). -/
def trigPos (w : Nat) : Option Int :=
  if bitsAt w 31 1 = 1 then
    let v := bitsAt w 0 31
    some (if v < 1073741824 then (v : Int) else (v : Int) - 2147483648)
  else none

/-- The word of an enabled trigger compare at a signed position. -/
def trigWord (pos : Int) : Nat := 2147483648 + (pos % 2147483648).toNat

/-! ### How a commit forms a set -/

/-- round(value × period × 32), for a period in core cycles (block OUTPUT, Table 7.7). -/
def comparePos (v : Rat) (period : Nat) : Int := roundEven (v * ((32 * period : Nat) : Rat))

/-- A duty as compares about the middle of the period, and the control word: a leg clamped to a rail makes no edge (R177, Table 8.5; DESIGN CHOICE,
log 138). -/
def dutyCompares (d : Rat) (period : Nat) : List Nat × Nat :=
  if d ≤ 0 then ([], 0)
  else if 1 ≤ d then ([], 1)
  else ([(comparePos ((1 - d) / 2) period).toNat, (comparePos ((1 + d) / 2) period).toNat], 4)

/-- Edge compares that OUTPUT blocks write, from START 0, up to the highest written (DESIGN CHOICE, log 138). -/
def slotCompares (ws : List SetWrite) (period : Nat) : Option (List Nat × Nat) :=
  let at_ (i : Nat) : Option SetWrite := ws.find? fun w => w.slot == i
  let n := (List.range 5).foldl (fun m i => if i ≠ 0 && (at_ i).isSome then i else m) 0
  if n = 0 then none
  else some ((List.range n).map fun i => match at_ (i + 1) with
    | some w => (clampI (comparePos w.value period) 0 (32 * period : Nat)).toNat
    | none => 0, 2 * n)

/-- Trigger words that OUTPUT blocks write, within an update period before and after the period start. -/
def slotTriggers (ws : List SetWrite) (tu : Nat) : List Nat :=
  (List.range 4).map fun i => match ws.find? fun w => w.slot == 5 + i with
    | some w => trigWord (clampI (comparePos w.value tu) (-((32 * tu : Nat) : Int)) ((32 * tu : Nat) : Int))
    | none => 0

/-- The words of channel j of a set: the law's duty of leg j, or what the OUTPUT blocks write; a channel nothing is written for holds both
outputs off (DESIGN CHOICE, log 138). -/
def formChan (s : State) (p : StageId) (duties : List Rat) (ws : List SetWrite) (j : Nat) : ChanSet :=
  let tu := s.tu p
  let period := match (stageChans s p)[j]? with | some c => if chanRepeats s c then reloadInterval s c else tu | none => tu
  let mine := ws.filter fun w => w.channel == j + 1
  let duty : Option Rat := match mine.find? fun w => w.slot == 0 with | some w => some w.value | none => duties[j]?
  let (cs, ctrl) := match slotCompares mine period with
    | some x => x
    | none => match duty with | some d => dutyCompares d period | none => ([], 48)
  ⟨cs, slotTriggers mine tu, ctrl⟩

/-- How many channels a stage's set carries (R158). -/
def setChannels (s : State) (p : StageId) : Nat :=
  let own := (stageChans s p).length
  max 1 (min 12 (match s.pie[p].graph with | some g => if g.channels = 0 then own else g.channels | none => own))

/-- The set a sample's commit forms: effective at t₀ + T_u (R155), with the next tally. -/
def formSet (s : State) (p : StageId) (duties : List Rat) (bs : List BlockSt) (tally : Nat) : CmdSet :=
  let ws := outputWrites bs
  { instant := s.pie[p].t0 + s.tu p, k := s.pie[p].k, provisional := false, tally := tally, stage := p
    chans := (List.range (setChannels s p)).map (formChan s p duties ws) }

/-! ### Off-plan triggers -/

/-- The stage whose settings an owner index uses: stages of this module, and of the partner under the same number. -/
def ownerStage (o : Fin 8) : StageId := ⟨o.val % 4, by omega⟩

/-- Conversions that off-plan triggers start are counted and logged (R164). -/
def countOffPlan (p : StageId) (n : Nat) (s : State) : State :=
  if n = 0 then s
  else (s.setN (Obj.PIE_OFFPLAN_COUNT p) (s.objN (Obj.PIE_OFFPLAN_COUNT p) + n)).logOnce 0x2409 p.val [p.val]

/-- The conversions a trigger has started and that still run become off-plan. -/
def markOffPlan (ev start : Nat) (s : State) : State :=
  (startedBy s 2 ev).foldl (fun s a => s.modAdc a fun x =>
    let mark (v : Option ConvSt) : Option ConvSt := v.map fun y => if y.start = start then { y with off := true } else y
    { x with conv := mark x.conv, held := mark x.held }) s

/-- The conversions of a trigger that fired at an instant are off-plan: marked and counted (R164). -/
def offPlanFired (p : StageId) (c : ChanId) (t fired : Nat) (s : State) : State :=
  let ev := 4 * c.val + t
  countOffPlan p (startedBy s 2 ev).length (markOffPlan ev (fired / 32 + s.objN (Obj.EDG_CH_TRIG_DELAY c t)) s)

/-- A voided sample cancels its provisional set: the triggers it armed are off-plan, those that have fired with the conversions they started
(R160, R164). -/
def edgeCancelProvisional (n : StageId) (s : State) : State :=
  let k := s.pie[n].k % 4294967296
  let mine (a : Arm) : Bool := a.k == k && a.early && !a.off
  (stageChans s n).foldl (fun s c =>
    let fired := (s.edg.ch[c].arms.filter mine).filterMap fun a => a.fired.map fun f => (a.trig, f)
    let s := s.modCh c fun h => { h with arms := h.arms.map fun a => if mine a then { a with off := true } else a }
    fired.foldl (fun s e => offPlanFired n c e.1 e.2 s) s) s

end Sys2Proof.Machine
end

