-- ==== Sys2Proof/Machine/Sharing.lean ====
section
/-!
DEFINITION. Chapter 4: the line tracker (R74, R75), time-anchored restoration (R76 to R80), black start (R83 to R88),
joining (R89 to R92) and bus ties (R93): the operations a pier's sample uses and the meanings of the chapter's rows.
-/

namespace Sys2Proof.Machine

/-! ### Line tracker -/

/-- Samples in one rated period of the stage (R74: 20 ms at 50 Hz, 16.7 ms at 60 Hz). -/
def windowLen (s : State) (n : StageId) : Nat :=
  let f := s.objN (Obj.GFL_F_RATED n)
  if f = 0 ∨ s.tu n = 0 then 1 else (409600000 / f + s.tu n - 1) / s.tu n

/-- Whether the largest of the three sliding RMS values is at or above 0.05 pu (R74), by sums of squares. -/
def windowLive (w : List Tri) : Bool :=
  let sum (f : Tri → Rat) : Rat := w.foldl (fun a x => a + f x * f x) 0
  let lim : Rat := mkRat (25 * w.length : Nat) 10000
  decide (lim ≤ sum Tri.a) || decide (lim ≤ sum Tri.b) || decide (lim ≤ sum Tri.c)

/-- A turn's fraction as UQ0.32. -/
def turnToAngle (q : Rat) : Nat := wrap32 ((q * 4294967296).floor)

/-- One sample of the line tracker (R74); amplitude, angle and frequency by the tracker the spec leaves open (DESIGN CHOICE, log 7). -/
def trackView (s : State) (n : StageId) (v : LineView) (x : Tri) : LineView :=
  let win := (x :: v.win).take (windowLen s n)
  let r := Config.tracker v.trk x.a x.b x.c
  { trk := r.1, win := win, v := r32 (nth r.2 0), theta := turnToAngle (nth r.2 1), f := r32 (nth r.2 2), live := !win.isEmpty && windowLive win }

/-- A UQ0.32 angle as degrees in −180 to +180. -/
def angleDeg (th : Nat) : Rat :=
  let d := r32 (mkRat (th : Int) 4294967296 * 360)
  if 180 < d then d - 360 else d

/-- A UQ0.32 angle as degrees in 0 to 360. -/
def angleDeg360 (th : Nat) : Rat := r32 (mkRat (th : Int) 4294967296 * 360)

/-- The synchronising differences Δθ in degrees, ΔV, Δf in Hz (R75), or for the tie between the far side and the own line
(R93). -/
structure Diffs where
  theta : Rat
  v : Rat
  f : Rat
deriving DecidableEq, Repr

def diffsOf (s : State) (n : StageId) (l : Law) : Diffs :=
  let h := s.shr[n]
  if h.pull = .tie then
    ⟨angleDeg (addAngle h.far.theta (-(h.line.theta : Int))), r32 (h.far.v - h.line.v), r32 (h.far.f - h.line.f)⟩
  else
    ⟨angleDeg (addAngle h.line.theta (-(Config.arg l.vPos.x l.vPos.y : Int))), r32 (h.line.v - l.vPos.mag),
     r32 (h.line.f - s.fb n * l.omega)⟩

/-- The three conditions of R90. -/
def Diffs.ok (d : Diffs) : Bool :=
  decide (absR d.theta < 10) && decide (absR d.v < mkRat 1 20) && decide (absR d.f < mkRat 1 10)

/-- A stage that has found the line live waits to synchronise until R33 allows it (R85). -/
def awaitLive (n : StageId) (s : State) : State := showClaim n (s.modShare n fun h => { h with claim := .waitLive })

/-- A line that turns live lets a stage in its hold-off, or one that never closes onto a dead line, synchronise (R85, R86), and one that turns
dead again before it could lets it begin to wait anew; a line that reads dead is watched while the stage synchronises (R92). -/
def lineTurned (n : StageId) (s : State) : State :=
  let h := s.shr[n]
  let s := if h.pull = .line then
      s.modShare n fun h => { h with deadSince := if h.line.live then none else some (h.deadSince.getD s.now) } else s
  match h.claim, h.line.live with
  | .holdoff _, true => if mayRun s n then beginSync n s else awaitLive n s
  | .waitLive, true => if mayRun s n then beginSync n s else s
  | .waitLive, false => if s.field (Obj.SHR_CONFIG n) 3 2 = 2 then s else beginWait n s
  | _, _ => s

/-- The tracker's sample of a GFI stage, with what a change of the line brings about. -/
def trackLine (n : StageId) (smp : Sample) (s : State) : State :=
  let s := s.modShare n fun h => { h with line := trackView s n h.line smp.line, far := trackView s n h.far smp.far }
  let s := s.setR (Obj.SHR_LINE_V n) s.shr[n].line.v
  let s := s.setR (Obj.SHR_LINE_F n) (if s.shr[n].line.live then s.shr[n].line.f else 0)
  lineTurned n s

/-! ### Ramp and offsets of a sample -/

/-- The ramp factor of R88 at this sample: rises at 1 / SHR_BS_RAMP per second, held in LIMIT and in ride-through; its end is logged at the
sample's commit. -/
def rampStep (n : StageId) (l : Law) (s : State) : Law × State :=
  let h := s.shr[n]
  if !h.ramping then (l, s)
  else
    let held := s.stageSt n == .limit || s.frt[n].riding
    let dt := s.now - h.rampLast
    let r := if held then l.r else if h.rampTime = 0 then 1 else minR 1 (fadd l.r (r32 (mkRat (dt : Int) h.rampTime)))
    let s := s.modShare n fun h => { h with rampLast := s.now, ramping := decide (r < 1) }
    let s := s.setBit (Obj.SHR_STATUS n) 6 (decide (r < 1))
    let s := s.setBit (Obj.SHR_STATUS n) 7 held
    ({ l with r := r }, s)

/-- The differences published while the line is live (R75). -/
def publishDiffs (n : StageId) (d : Diffs) (s : State) : State :=
  if s.shr[n].line.live then ((s.setR (Obj.SHR_DELTA_THETA n) d.theta).setR (Obj.SHR_DELTA_V n) d.v).setR (Obj.SHR_DELTA_F n) d.f else s

/-- Synchronising offsets at an outer step (R89, R91), the differences published (R75), the conditions of R90 watched. -/
def syncStep (n : StageId) (l : Law) (s : State) : Law × State :=
  let h := s.shr[n]
  let d := diffsOf s n l
  let s := publishDiffs n d s
  match h.pull with
  | .none =>
    let l := { l with dws := match h.glideW with | some g => r32 (g.at_ s.now) | none => l.dws,
                      dvs := match h.glideV with | some g => r32 (g.at_ s.now) | none => l.dvs }
    (l, s)
  | _ =>
    let ref := if h.pull = .tie then h.far else h.line
    let fb := s.fb n
    let fterm := fsub ref.f (fmul fb (fadd 1 l.dwr))
    let lim := fdiv (mkRat 1 2) fb
    let kth := milli (s.objI (Obj.SHR_SYNC_GAIN n))
    let top := r32 (mkRat 3 20)
    let l := { l with dvs := clampR (fsub (fsub ref.v 1) l.dvr) (-top) top,
                      dws := clampR (fadd (fdiv fterm fb) (fdiv (fmul kth d.theta) fb)) (-lim) lim }
    let s := s.setBit (Obj.SHR_STATUS n) 10 (decide (mkRat 1 2 < absR fterm))
    let s := s.setBit (Obj.SHR_STATUS n) 11 d.ok
    let s := s.modShare n fun h => { h with okSince := if d.ok then some (h.okSince.getD s.now) else none }
    let s := if (h.closeAt.isSome || h.tieAt.isSome) && !d.ok && !h.lostLogged then
        (s.modShare n fun h => { h with lostLogged := true }).log 0x210A [n.val, d.theta, d.v, d.f] else s
    (l, s)

/-! ### Restoration -/

/-- The causes of R79 as bits: NTA not good; not in RUN; riding or coasting; waiting, ramping, synchronising or closing;
a law clamp; freeze. -/
def suspendCauses (s : State) (n : StageId) : Nat :=
  let h := s.shr[n]
  let b0 := !ntaGood s
  let b1 := s.stageSt n != .run
  let b2 := allStages.any fun m => s.frt[m].riding || s.frt[m].coasting
  let b3 := h.claim != .idle || h.ramping || h.pull != .none || h.closeAt.isSome
  let b4 := s.bit (Obj.GFL_STATUS n) 0 || s.bit (Obj.GFL_STATUS n) 1
  let b5 := s.bit (Obj.SHR_CONFIG n) 2
  maskOf ((if b0 then [0] else []) ++ (if b1 then [1] else []) ++ (if b2 then [2] else []) ++ (if b3 then [3] else [])
    ++ (if b4 then [4] else []) ++ (if b5 then [5] else []))

/-- One step of R78 for one quantity: mean, offset, gain, leak, step limit, maximum. -/
def restStep (mean off k lam stepMax offMax : Rat) : Rat :=
  let st := clampR (fma k (fsub 1 mean) (-(fmul lam off))) (-stepMax) stepMax
  clampR (fadd off st) (-offMax) offMax

/-- Movement of an offset towards a target by at most one step limit (R80, R91). -/
def towards (off target stepMax : Rat) : Rat := fadd off (clampR (fsub target off) (-stepMax) stepMax)

def tenMilli (z : Int) : Rat := r32 (mkRat z 10000)

/-- The restoration step at the outer step that applies an anchor: window means (R77), then R78, R91 or R80, unless R79
suspended the window; the next window starts here. -/
def applyAnchor (n : StageId) (l : Law) (s : State) : Law × State :=
  let h := s.shr[n]
  let here := (s.now, l.turns, l.thetaJ)
  let restart (s : State) : State :=
    s.modShare n fun h => { h with anchor := none, winStart := some here, winSum := 0, winCount := 0, winBad := false }
  match h.winStart with
  | none => (l, restart s)
  | some (t0, k0, th0) =>
    if h.winBad || decide (s.now ≤ t0) then (l, restart (s.setBit (Obj.SHR_STATUS n) 0 false))
    else
      let dTurns : Rat := ((l.turns - k0 : Nat) : Rat) + mkRat ((l.thetaJ : Int) - th0) 4294967296
      let wMean := fdiv (r32 dTurns) (fmul (s.fb n) (secondsOf (s.now - t0)))
      let vMean := if h.winCount = 0 then 1 else fdiv h.winSum (h.winCount : Rat)
      let kf := milli (s.objI (Obj.SHR_REST_KF n))
      let lf := tenMilli (s.objI (Obj.SHR_REST_LF n))
      let sf := tenMilli (s.objI (Obj.SHR_REST_F_STEP n))
      let mf := tenMilli (s.objI (Obj.SHR_REST_F_MAX n))
      let kv := milli (s.objI (Obj.SHR_REST_KV n))
      let lv := tenMilli (s.objI (Obj.SHR_REST_LV n))
      let sv := tenMilli (s.objI (Obj.SHR_REST_V_STEP n))
      let mv := tenMilli (s.objI (Obj.SHR_REST_V_MAX n))
      let enF := s.bit (Obj.SHR_CONFIG n) 0
      let enV := s.bit (Obj.SHR_CONFIG n) 1
      let tf := clampR (fmul (fdiv kf lf) (fsub 1 wMean)) (-mf) mf
      let tv := clampR (fmul (fdiv kv lv) (fsub 1 vMean)) (-mv) mv
      let dwr := if !enF then towards l.dwr 0 sf else if h.joining then towards l.dwr tf sf else restStep wMean l.dwr kf lf sf mf
      let dvr := if !enV then towards l.dvr 0 sv else if h.joining then towards l.dvr tv sv else restStep vMean l.dvr kv lv sv mv
      let atLim := (enF && !h.joining && decide (absR dwr = mf)) || (enV && !h.joining && decide (absR dvr = mv))
      let glideOver := h.glideW.isNone
      let joined := h.joining && glideOver && decide (dwr = tf ∨ !enF) && decide (dvr = tv ∨ !enV)
      let s := s.setR (Obj.SHR_F_MEAN n) wMean
      let s := s.setR (Obj.SHR_V_MEAN n) vMean
      let s := s.setR (Obj.SHR_DELTA_F_REST n) dwr
      let s := s.setR (Obj.SHR_DELTA_V_REST n) dvr
      let s := galFlag n 13 (s.bump (Obj.SHR_ANCHOR_COUNT n))
      let s := s.setBit (Obj.SHR_STATUS n) 0 true
      let s := if h.suspended then
          (((s.modShare n fun h => { h with suspended := false }).setBit (Obj.SHR_STATUS n) 1 false).log 0x2102 [n.val, dwr, dvr]) else s
      let s := s.setBit (Obj.SHR_STATUS n) 2 atLim
      let s := if atLim && !s.pie[n].restClamp then s.log 0x2103 [n.val, if absR dwr = mf then dwr else dvr] else s
      let s := s.modPier n fun p => { p with restClamp := atLim }
      let s := if joined then (s.modShare n fun h => { h with joining := false }).setBit (Obj.SHR_STATUS n) 3 false else s
      ({ l with dwr := dwr, dvr := dvr }, restart s)

/-- The window's bookkeeping at an outer step (R77, R79), and the anchor step where one is due (R76). The mean of |v_c⁺| takes the outer step at
the window's end and not the one at its start (DESIGN CHOICE, log 140). -/
def restoration (n : StageId) (l : Law) (s : State) : Law × State :=
  let c := suspendCauses s n
  let s := s.modShare n fun h => { h with winSum := fadd h.winSum l.vPos.mag, winCount := h.winCount + 1 }
  let s := if c ≠ 0 then suspend n c s else s
  match s.shr[n].anchor with
  | some t => if t ≤ s.pie[n].t0 then applyAnchor n l s else (l, s)
  | none => (l, s)

/-! ### The chapter's rows -/

/-- Whether this instant is an anchor instant: the module time of a whole multiple of T_a by the NTA relation in force (R76). -/
def anchorHere (s : State) (n : StageId) : Bool :=
  let e := s.objN (Obj.SHR_ANCHOR_PERIOD n) * 1000000
  decide (e ≠ 0) && decide (mtOfNta s (ntaAt s s.now / e * e) = s.now)

/-- The restoration step of an anchor instant reaches the pier of a GFI stage: applied at the next outer step while it switches; a stage that
does not yields a suspended window (R79). -/
def takeAnchor (n : StageId) (s : State) : State :=
  if !s.isGfi n then s
  else if s.switching n then s.modShare n fun h => { h with anchor := some s.now }
  else if s.dispatching n then suspend n 2 s
  else s

/-- R76: the restoration step goes to the pier with the anchor's module time as effective instant. -/
def execAnchorInstant (n : StageId) (s : State) : Res :=
  .next (s.on (.pier n) fun s => if anchorHere s n then takeAnchor n s else s)

/-- R86: at its slot instant a stage commands its contactor closed if the line is dead; with NTA no longer good the slot is
skipped; onto a live line it synchronises. A standby never enters a slot (R47). -/
def claimNow (n : StageId) (how : Rat) (s : State) : State :=
  if isStandby s then s
  else if s.shr[n].line.live then (if mayRun s n then beginSync n s else awaitLive n s)
  else (commandClose n true s).log 0x2105 [n.val, how, ntaAt s s.now]

def execClaimSlotReached (n : StageId) (s : State) : Res :=
  .next (s.on .keystone fun s =>
    match s.shr[n].claim with
    | .slot t =>
        if s.now < t then s
        else if ntaGood s then claimNow n (claimSlot s n) s
        else showClaim n (s.modShare n fun h => { h with claim := claimFor s n s.now })
    | _ => s)

/-- R85: the hold-off expires with the line dead. -/
def execClaimHoldoffExpiry (n : StageId) (s : State) : Res :=
  .next (s.on .keystone fun s =>
    match s.shr[n].claim with
    | .holdoff t => if t ≤ s.now then claimNow n (secondsOf (holdoffCycles s n)) s else s
    | _ => s)

/-- The number of the contactor driver that serves a stage, 0 where none does. -/
def contactorOf (s : State) (n : StageId) : Nat := match socOf s n.val with | some i => i.val + 1 | none => 0

/-- R86: no confirmation within SHR_CLOSE_TIMEOUT of the command: SAFE with cause 0x2109. -/
def execContactorCloseTimeout (n : StageId) (s : State) : Res :=
  .next (match s.shr[n].closeAt with
    | some t =>
      if s.shr[n].closeTimeout ≤ s.since t then
        let s := (s.modShare n fun h => { h with closeAt := none }).log 0x2109 [n.val, contactorOf s n]
        stageSafe n 0x2109 (socOpenStage n s)
      else s
    | none => s)

/-- R88: a ramp not complete within 5 × SHR_BS_RAMP takes the stage to SAFE with 0x2108. -/
def execRampTimeout (n : StageId) (s : State) : Res :=
  .next (let h := s.shr[n]
    if h.ramping && decide (5 * h.rampTime ≤ s.since h.rampFrom) then
      stageSafe n 0x2108 (s.log 0x2108 [n.val, s.pie[n].law.r]) else s)

/-- Whether the tie's contactor is commanded closed. -/
def tieCommanded (s : State) : Bool := match socOf s 4 with | some i => s.saf.soc[i].cmd | none => false

/-- The tie is commanded closed, through SOC; a command that SOC takes is logged with the differences at it (R93). -/
def closeTie (n : StageId) (d : Diffs) (s : State) : State :=
  let was := tieCommanded s
  let s := socCloseTie s
  if was || !tieCommanded s then s
  else (s.modShare n fun h => { h with tieAt := some s.now, lostLogged := false }).log 0x210C [n.val, d.theta, d.v, d.f]

/-- R90: the three conditions have held for the dwell: the output contactor, or the tie, is commanded closed. -/
def execSyncDwellExpiry (n : StageId) (s : State) : Res :=
  .next (let h := s.shr[n]
    match h.okSince with
    | none => s
    | some t =>
      if h.dwell ≤ s.since t && h.closeAt.isNone && !isStandby s then
        let d := diffsOf s n s.pie[n].law
        match h.pull with
        | .line => commandClose n false s
        | .tie => if h.tieAt.isSome then s else closeTie n d s
        | .none => s
      else s)

/-- R92: a stage that has not commanded its contactor within SHR_SYNC_TIMEOUT goes to SAFE with 0x210B. -/
def execSyncTimeout (n : StageId) (s : State) : Res :=
  .next (let h := s.shr[n]
    if h.pull = .line && h.closeAt.isNone && decide (h.syncTimeout ≤ s.since h.syncFrom) then
      let d := diffsOf s n s.pie[n].law
      stageSafe n 0x210B (s.log 0x210B [n.val, d.theta, d.f])
    else s)

/-- R92: the line of a synchronising stage has read dead for 1 s: it stops pulling, removes pulses and proceeds by claim. -/
def execSyncLineDeadTimeout (n : StageId) (s : State) : Res :=
  .next (let h := s.shr[n]
    match h.deadSince with
    | some t =>
      if h.pull = .line && h.closeAt.isNone && decide (cyclesSec ≤ s.since t) then beginWait n (stageArm n s) else s
    | none => s)

/-- R91: the linear glide of the synchronising offsets to 0 has ended: SHR_JOIN_RAMP has passed since it began. -/
def execJoinGlideEnd (n : StageId) (s : State) : Res :=
  .next (match s.shr[n].glideW with
    | some g =>
      if g.dur ≤ s.since g.start then
        let s := s.modShare n fun h => { h with glideW := none, glideV := none }
        s.modPier n fun p => { p with law := { p.law with dws := 0, dvs := 0 } }
      else s
    | none => s)

/-- R93, TIE_CLOSE: accepted in RUN or LIMIT with the module in FORM (a pull in progress shows SYNC); refused otherwise and
onto a dead far side without TIE_DEAD_EN, and after a failed ownership check (R368). -/
def tieCloseCmd (n : StageId) (s : State) : Nat × State :=
  let ok := s.bit (Obj.SHR_CONFIG n) 5 && s.switching n && s.mod.mode == .form
  if !ok || s.saf.tieFailed then (0x08000022, s.log 0x210D [n.val, 1])
  else if s.shr[n].far.live then
    let s := suspend n 8 s
    let s := s.modShare n fun h => { h with pull := .tie, syncFrom := s.now, okSince := none, tieAt := none
                                            dwell := s.objN (Obj.SHR_SYNC_DWELL n) * cyclesMs }
    (0, s.setBit (Obj.SHR_STATUS n) 9 true)
  else if s.bit (Obj.SHR_CONFIG n) 6 then
    -- angle and frequency of a dead far side have no value; the event carries 0 for them (DESIGN CHOICE, log 139)
    (0, closeTie n ⟨0, r32 (s.shr[n].far.v - s.shr[n].line.v), 0⟩ s)
  else (0x08000022, s.log 0x210D [n.val, 2])

/-- R93: TIE_OPEN opens the tie at once. -/
def tieOpenCmd (n : StageId) (s : State) : State :=
  let s := if s.shr[n].pull = .tie then
      (s.modShare n fun h => { h with pull := .none, okSince := none, tieAt := none }).setField (Obj.SHR_STATUS n) 9 3 0 else s
  socOpenTie s

/-- SHR_CMD TIE_CLOSE from a writer that may command (R93). -/
def execTieClose (n : StageId) (w : Writer) (s : State) : Res :=
  .next (request w (Obj.SHR_CMD n) (.pier n) (owned w fun s => if s.isGfi n then tieCloseCmd n s else (0x06020000, s)) s)

/-- SHR_CMD TIE_OPEN from a writer that may command (R93). -/
def execTieOpen (n : StageId) (w : Writer) (s : State) : Res :=
  .next (request w (Obj.SHR_CMD n) (.pier n) (owned w fun s => if s.isGfi n then (0, tieOpenCmd n s) else (0x06020000, s)) s)

end Sys2Proof.Machine
end

