-- ==== Sys2Proof/Machine/Ride.lean ====
section
/-!
DEFINITION. Chapter 5: the fault-time budget (R107), ride-through of a GFI stage (R105 to R109), coasting (R111 to R116),
input loss and return (R110, R114) and the input PLL through a neutral section (R117): the operations a pier's sample uses
and the meanings of the chapter's rows.
-/

namespace Sys2Proof.Machine

/-- The reactions of the chapter act in RUN and LIMIT while the module is in modes 5 to 9 (R98). -/
def rideActs (s : State) (n : StageId) : Bool := s.switching n && decide (5 ≤ s.mod.mode.code) && decide (s.mod.mode.code ≤ 9)

/-- Input loss, the input stage's block and its return act in CHARGE as well (R98). -/
def inputActs (s : State) (n : StageId) : Bool := s.switching n && decide (4 ≤ s.mod.mode.code) && decide (s.mod.mode.code ≤ 9)

def msOf (cycles : Nat) : Rat := mkRat (cycles : Int) 409600

/-! ### Budget -/

/-- Whether the budget counts down: in ride-through up to clear detection (R107). -/
def budgetFalls (f : RideSt) : Bool := f.riding && f.clearAt.isNone

/-- B at this instant (R107). -/
def budgetNow (s : State) (n : StageId) : Rat :=
  let f := s.frt[n]
  let lim : Rat := (s.objN (Obj.FRT_FAULT_TIME n) : Nat)
  let dt := msOf (s.since f.budgetAt)
  if budgetFalls f then maxR 0 (f.budget - dt)
  else minR lim (f.budget + dt * lim / (s.objN (Obj.FRT_BUDGET_RECOVER n) : Nat))

/-- Bring B up to this instant; FRT_BUDGET and BUDGET_LOW are read from it. -/
def budgetAdvance (n : StageId) (s : State) : State :=
  let b := budgetNow s n
  let used := if budgetFalls s.frt[n] then msOf (s.since s.frt[n].budgetAt) else 0
  s.modRide n fun f => { f with budget := b, budgetAt := s.now, budgetUsed := f.budgetUsed + used }

/-- BUDGET_LOW: B stands below FRT_FAULT_TIME (Table 5.8). -/
def budgetLow (s : State) (n : StageId) : Bool := decide (budgetNow s n < (s.objN (Obj.FRT_FAULT_TIME n) : Nat))

/-- Ride-through has failed: SAFE with 0x2203 and a stop at the next tick (R107). -/
def rideFailed (n : StageId) (s : State) : State :=
  let s := (s.setR (Obj.FRT_LAST_RIDE n) (r32 s.frt[n].budgetUsed)).log 0x2203 [n.val, r32 s.frt[n].budget]
  demandStop (.fault 0x2203) (stageSafe n 0x2203 s)

/-! ### Ride-through in a sample -/

/-- The group named in FRT_PULSE_GROUP (R102). -/
def pulseGroup (s : State) (n : StageId) : Option GroupId :=
  let v := s.objN (Obj.FRT_PULSE_GROUP n)
  if h : v < 8 then some ⟨v, h⟩ else none

/-- Level 1 acted in the period that ends at this sample: the pulse-limit group has tripped since the last one, or holds a channel still
(R99, R105). -/
def levelOne (s : State) (n : StageId) : Bool :=
  s.isGfi n && (s.frt[n].pulsed || match pulseGroup s n with
    | some g => (stageChans s n).any fun c => s.edg.ch[c].holds.any fun h => h.group == g
    | none => false)

/-- What a sample shows of the entry conditions of R105, with |v_c⁺|, |v_c⁻| and I_o. -/
structure RideView where
  a : Bool
  b : Bool
  c : Bool
  d : Bool
  vPos : Rat
  vNeg : Rat
  io : Rat
  e : Rat
deriving DecidableEq, Repr

def rideView (s : State) (n : StageId) (l : Law) (level3 level1 : Bool) (io : Rat) : RideView :=
  let vp := l.vPos.mag
  let vn := l.vNeg.mag
  { a := level3, b := level1
    c := s.shr[n].closed && decide (vp < milli (s.objI (Obj.FRT_V_ENTRY n)) * l.e)
    d := decide (milli (s.objI (Obj.FRT_NEG_ENTRY n)) < vn)
    vPos := vp, vNeg := vn, io := io, e := l.e }

/-- The first of (a) to (d) that holds, as 1 to 4; 0 where none does. -/
def RideView.cause (v : RideView) : Nat := if v.a then 1 else if v.b then 2 else if v.c then 3 else if v.d then 4 else 0

/-- Entry into ride-through, or into SAFE with 0x220D where RIDE_EN is 0 (R105, R107). -/
def rideEnter (n : StageId) (v : RideView) (s : State) : State :=
  if s.bit (Obj.FRT_CONFIG n) 2 then
    let s := budgetAdvance n s
    let s := suspendAll 4 (s.modRide n fun f => { f with riding := true, clearAt := none, clearBefore := false, budgetUsed := 0, peak := v.io, decay := none })
    let s := (s.setBit (Obj.FRT_STATUS n) 0 true).setBit (Obj.FRT_STATUS n) 2 v.d
    let s := (s.bump (Obj.FRT_RIDE_COUNT n)).setR (Obj.FRT_LAST_PEAK n) v.io
    let s := s.log 0x2201 [n.val, v.cause, v.vPos, v.io]
    if s.frt[n].budget = 0 then rideFailed n s else s
  else stageSafe n 0x220D (s.log 0x220D [n.val, v.cause])

/-- The clear is withdrawn (R109): the budget counts down again from this instant. -/
def withdrawClear (n : StageId) (cause : Nat) (s : State) : State :=
  let s := budgetAdvance n s
  let s := s.modRide n fun f => { f with clearAt := none, clearBefore := false, decay := none }
  (s.setBit (Obj.FRT_STATUS n) 1 false).log 0x2205 [n.val, cause]

/-- Clear detection (R108): the decrease of ΔX_lim begins. -/
def detectClear (n : StageId) (dXlim : Rat) (s : State) : State :=
  let s := budgetAdvance n s
  let s := s.modRide n fun f => { f with clearAt := some s.now, clearBefore := false, decay := some (dXlim, s.now) }
  let s := (s.setBit (Obj.FRT_STATUS n) 1 true).setR (Obj.FRT_LAST_RIDE n) (r32 s.frt[n].budgetUsed)
  s.log 0x2202 [n.val, r32 s.frt[n].budgetUsed]

/-- Ride-through ends (R109). -/
def rideEnd (n : StageId) (since : Nat) (s : State) : State :=
  let s := budgetAdvance n s
  let s := s.modRide n fun f => { f with riding := false, clearAt := none, clearBefore := false }
  let s := s.setField (Obj.FRT_STATUS n) 0 3 0
  s.log 0x2204 [n.val, r32 (msOf since)]

/-- One sample of a stage that rides or might begin to (R105 to R109). `limited`: the rate limit of R100 is active; `dXlim`: ΔX_lim held. -/
def rideStep (n : StageId) (v : RideView) (limited : Bool) (dXlim : Rat) (s : State) : State :=
  let f := s.frt[n]
  if f.riding then
    let s := s.setBit (Obj.FRT_STATUS n) 2 v.d
    let s := if f.peak < v.io then (s.modRide n fun f => { f with peak := v.io }).setR (Obj.FRT_LAST_PEAK n) v.io else s
    match f.clearAt with
    | none =>
      let clear := !v.a && !v.b && decide (v.io < r32 (mkRat 4 5 * milli (s.objI (Obj.FRT_I_LIMIT n))))
      if clear && f.clearBefore then detectClear n dXlim s
      else s.modRide n fun f => { f with clearBefore := clear }
    | some t =>
      if v.a || v.b || v.d then withdrawClear n v.cause s
      else if !limited && decide (milli (s.objI (Obj.FRT_V_EXIT n)) * v.e ≤ v.vPos) then rideEnd n (s.since t) s
      else s
  else if v.cause ≠ 0 && rideActs s n then rideEnter n v s
  else s

/-! ### Coasting in a sample -/

/-- Whether stage m coasts on the loss of input stage n (R111). -/
def fedBy (s : State) (m n : StageId) : Bool :=
  let src := s.field (Obj.FRT_CONFIG m) 8 3
  s.bit (Obj.FRT_CONFIG m) 5 && (src == n.val || src == 4)

/-- ½ × C × (V² − V_min²) in joules, 0 below FRT_LINK_MIN (Table 5.6). -/
def linkEnergy (s : State) (n : StageId) (vdc : Rat) : Rat :=
  let vmin := milli (s.objI (Obj.FRT_LINK_MIN n))
  let rated := s.objR (Obj.FRT_LINK_RATED n)
  if vdc < vmin then 0
  else r32 (mkRat (s.objI (Obj.FRT_LINK_C n)) 2000000 * (vdc * vdc - vmin * vmin) * rated * rated)

/-- FRT_DC_GAIN × (FRT_LINK_REF − V_dc), clamped to 0..hi (R112, R113). -/
def coastPull (s : State) (n : StageId) (vdc hi : Rat) : Rat :=
  clampR (r32 (milli (s.objI (Obj.FRT_DC_GAIN n)) * (milli (s.objI (Obj.FRT_LINK_REF n)) - vdc))) 0 hi

/-- The highest k whose FRT_SHED_V the link has fallen below since coasting began (R113). -/
def shedLevel (s : State) (n : StageId) (lowest : Rat) : Nat :=
  let below (k : Nat) : Bool := decide (lowest < milli (s.objI (Obj.FRT_SHED_V n k)))
  if below 2 then 3 else if below 1 then 2 else if below 0 then 1 else 0

def setShed (n : StageId) (k : Nat) (vdc : Rat) (s : State) : State :=
  if s.frt[n].shed = k then s
  else (((s.modRide n fun f => { f with shed := k }).setField (Obj.FRT_STATUS n) 13 2 k).log 0x220C [n.val, k, vdc])

/-- Coasting begins at the stage's next inner sample (R111). -/
def coastBegin (n : StageId) (vdc : Rat) (s : State) : State :=
  if s.frt[n].notified then
    let s := s.modRide n fun f => { f with notified := false }
    if s.frt[n].coasting || !rideActs s n then s
    else
      let s := s.modRide n fun f => { f with coasting := true, coastFrom := s.now, lowest := vdc, lowSince := none, release := none }
      suspendAll 4 (s.setBit (Obj.FRT_STATUS n) 8 true)
  else s

/-- The power limit and reference that the next commit of a coasting CHG or MOT stage puts in force, a paused limit's way back included (R113,
R115). -/
def coastOrders (n : StageId) (s : State) : State :=
  let f := s.frt[n]
  if !(s.stype n = .chg ∨ s.stype n = .mot) then s
  else if f.coasting then
    let how := s.field (Obj.FRT_CONFIG n) 6 2
    if how = 1 then s.modRide n fun f => { f with powerLimit := 0 }
    else if how = 2 then
      let p := if milli (s.objI (Obj.FRT_LINK_MAX n)) < f.vdc then 0 else -(coastPull s n f.vdc 1)
      s.modRide n fun f => { f with powerRef := some p }
    else s
  else match f.release with
    | some g => s.modRide n fun f => { f with powerLimit := r32 (g.at_ s.now) }
    | none => s

/-- What a coasting stage does in a sample (R113, R116): the lowest link voltage, the time below FRT_LINK_MIN, LINK_LOW and the shed level. -/
def coastHold (n : StageId) (vdc : Rat) (s : State) : State :=
  let f := s.frt[n]
  if !f.coasting then s
  else
    let low := decide (vdc < milli (s.objI (Obj.FRT_LINK_MIN n)))
    let s := s.modRide n fun f => { f with lowest := minR f.lowest vdc, lowSince := if low then some (f.lowSince.getD s.now) else none }
    let s := s.setBit (Obj.FRT_STATUS n) 12 (decide (vdc < milli (s.objI (Obj.FRT_LINK_REF n))))
    setShed n (shedLevel s n s.frt[n].lowest) vdc s

/-- The role of an input stage (R110): 1 DC, 2 AC, else 0. -/
def inputRole (s : State) (n : StageId) : Nat :=
  if s.stype n == .dcdc || s.stype n == .iso || s.stype n == .afe then s.field (Obj.FRT_CONFIG n) 0 2 else 0

/-- The phase of a PLL in hold at an instant: it advances at the frequency held (R117). -/
def heldPhase (f : RideSt) (t : Nat) : Nat :=
  wrap32 ((f.pllPhase : Int) + (f.pllF * 4294967296 * mkRat ((t - f.pllAt : Nat) : Int) 409600000).floor)

/-- The voltage that a PLL predicts for a phase, in pu of the rated peak: an input at its rated amplitude, rising at phase 0 (DEDUCED from the
phases of crossings in R117, log 137). -/
def predictedInput (phase : Nat) : Rat := sin32 phase

/-- Half a period of the held PLL frequency in core cycles (R114). -/
def halfPeriod (f : RideSt) : Nat := if 0 < f.pllF then (204800000 / f.pllF).floor.toNat else 0

/-- The input's amplitude: of a DC input the value, of an AC input the peak of |v_in| over the last half-period (R114). -/
def inputAmplitude (s : State) (n : StageId) (vin : Rat) (past : List (Nat × Rat)) : Rat :=
  if inputRole s n = 2 then past.foldl (fun m e => maxR m e.2) 0 else vin

/-- How far an AC input lies from its PLL's prediction, in pu (R110). -/
def inputDeviation (s : State) (n : StageId) (vin : Rat) : Rat := absR (fsub vin (predictedInput (heldPhase s.frt[n] s.now)))

/-- The deviation exceeds FRT_AC_LOSS_DEV (R110). -/
def deviates (s : State) (n : StageId) (dev : Rat) : Bool := decide (milli (s.objI (Obj.FRT_AC_LOSS_DEV n)) < dev)

/-- An input stage's measurement in a sample: how far the input lies from its PLL's prediction and since when beyond FRT_AC_LOSS_DEV (R110),
since when its amplitude has stood at or above FRT_IN_RETURN_LEVEL (R114). -/
def inputWatch (n : StageId) (vin : Rat) (s : State) : State :=
  if inputRole s n = 0 then s
  else
    let f := s.frt[n]
    let dev := inputDeviation s n vin
    let beyond := inputRole s n == 2 && deviates s n dev
    let past := (s.now, absR vin) :: f.inPast.filter fun e => decide (s.since e.1 ≤ halfPeriod f)
    let returned := decide (milli (s.objI (Obj.FRT_IN_RETURN_LEVEL n)) ≤ inputAmplitude s n vin past)
    s.modRide n fun f => { f with
      dev := dev, devSince := if beyond then some (f.devSince.getD s.now) else none
      inPast := if inputRole s n = 2 then past else []
      aboveSince := if returned then some (f.aboveSince.getD s.now) else none }

/-- The input PLL of an AFE stage in a sample: it advances unless it is in hold (R110, R117). -/
def inputPllStep (n : StageId) (vin : Rat) (s : State) : State :=
  let f := s.frt[n]
  if s.stype n = .afe ∧ inputRole s n = 2 ∧ f.hold = none then
    let r := Config.inputPll f.pllF f.pllPhase vin (s.tuSec n)
    (s.modRide n fun f => { f with pllF := r.1, pllPhase := r.2, pllAt := s.now }).setR (Obj.FRT_IN_PLL_F n) r.1
  else s

/-- The part of chapter 5 that runs in every sample of every stage that switches. -/
def coastStep (n : StageId) (smp : Sample) (s : State) : State :=
  let s := coastHold n smp.vdc (coastBegin n smp.vdc s)
  let s := (s.modRide n fun f => { f with vdc := smp.vdc }).setR (Obj.FRT_LINK_ENERGY n) (linkEnergy s n smp.vdc)
  inputPllStep n smp.vin (inputWatch n smp.vin s)

/-- ΔP_c at an outer step (R112): from the link while coasting, held while riding, on its way to 0 in release (R115). -/
def coastShift (n : StageId) (vdc : Rat) (old : Rat) (s : State) : Rat :=
  let f := s.frt[n]
  if f.riding then old
  else if f.coasting then -(coastPull s n vdc (milli (s.objI (Obj.FRT_COAST_SHIFT n))))
  else match f.release with | some g => r32 (g.at_ s.now) | none => 0

/-! ### Input loss and return -/

/-- Input loss of an input stage (R110, R111, R117): block, INPUT_LOST, event 0x2206, every pier told outside CHARGE, and
the PLL of an AFE stage in hold. -/
def inputLost (n : StageId) (dat : Rat) (s : State) : State :=
  let ac := s.field (Obj.FRT_CONFIG n) 0 2 == 2
  let s := edgeBlock n true s
  let s := s.modRide n fun f => { f with lost := true, lostAt := s.now, confirmed := false, blocked := true, ramp := none, crossings := [] }
  let s := (s.setBit (Obj.FRT_STATUS n) 7 true).setBit (Obj.FRT_STATUS n) 9 false
  let s := if ac then
      (s.modRide n fun f => { f with hold := some (f.hold.getD s.now), holdExpired := f.holdExpired && f.hold.isSome }).setBit (Obj.FRT_STATUS n) 10 true else s
  let s := (s.bump (Obj.FRT_COAST_COUNT n)).log 0x2206 [n.val, dat]
  if s.mod.mode = .charge then s
  else
    let s := if isViaduct s then linkSend 0x2206 [n.val, 1] s else s
    allStages.foldl (fun s m => if fedBy s m n && s.alive (.pier m) then s.modRide m fun f => { f with notified := true } else s) s

/-- Whether a stage may detect a loss of its input: it acts under R98 as an input stage of the role, and its input is not lost already. -/
def mayLose (s : State) (n : StageId) (role : Nat) : Bool := inputActs s n && inputRole s n == role && !s.frt[n].lost

/-- R110: the edge island's counter shows how long a DC input has stayed below FRT_IN_LOSS_LEVEL: a loss once that is FRT_IN_LOSS_TIME. -/
def execInputLossDc (n : StageId) (rd : Reading) (s : State) : Res :=
  .next (s.on .edge fun s =>
    if mayLose s n 1 && decide (rd.value < milli (s.objI (Obj.FRT_IN_LOSS_LEVEL n)))
        && decide (s.objN (Obj.FRT_IN_LOSS_TIME n) * 4096 ≤ 10 * rd.held) then inputLost n rd.value s else s)

/-- R110: the input of the sample with which an AC input has deviated from the PLL's prediction for FRT_IN_LOSS_TIME of consecutive ones. -/
def execInputLossAc (n : StageId) (vin : Rat) (s : State) : Res :=
  .next (s.on (.pier n) fun s =>
    match s.frt[n].devSince with
    | none => s
    | some t =>
      if mayLose s n 2 && deviates s n (inputDeviation s n vin) && decide (s.objN (Obj.FRT_IN_LOSS_TIME n) * 4096 ≤ 10 * s.since t) then
        inputLost n (inputDeviation s n vin) s
      else s)

/-- The input has stood at or above FRT_IN_RETURN_LEVEL for FRT_IN_RETURN_TIME (R114). -/
def inputReturned (s : State) (n : StageId) : Bool :=
  match s.frt[n].aboveSince with
  | some t => decide (s.objN (Obj.FRT_IN_RETURN_TIME n) * cyclesMs ≤ s.since t)
  | none => false

/-- R114: return is confirmed; for an AC input only once the PLL has been resumed or re-seeded. The ramp starts at the
commit that releases the block (R111). -/
def execInputReturnConfirm (n : StageId) (s : State) : Res :=
  .next (s.on (.pier n) fun s =>
    let f := s.frt[n]
    if inputActs s n && f.lost && f.hold.isNone && inputReturned s n then
      let gap := r32 (msOf (s.since f.lostAt))
      let s := s.modRide n fun f => { f with lost := false, confirmed := true }
      let s := (s.setBit (Obj.FRT_STATUS n) 7 false).setR (Obj.FRT_LAST_GAP n) gap
      s.log 0x2207 [n.val, gap]
    else s)

/-- The commit that starts the input ramp releases the edge island's block (R111, R114). -/
def startInputRamp (n : StageId) (s : State) : State :=
  if s.frt[n].confirmed then
    let dur := s.objN (Obj.FRT_IN_RAMP n) * cyclesMs
    let s := s.modRide n fun f => { f with confirmed := false, blocked := false, ramp := some ⟨0, 1, s.now, dur⟩ }
    edgeBlock n false (s.setBit (Obj.FRT_STATUS n) 9 true)
  else s

/-- A stage stops coasting (R115). -/
def coastEnd (m : StageId) (s : State) : State :=
  let f := s.frt[m]
  if !f.coasting then s.modRide m fun f => { f with notified := false }
  else
    let dur := s.objN (Obj.FRT_COAST_RELEASE m) * cyclesMs
    let paused := (s.stype m == .chg || s.stype m == .mot) && s.field (Obj.FRT_CONFIG m) 6 2 == 1
    let from_ := if s.isGfi m then s.pie[m].law.dPc else 0
    let to_ : Rat := if s.isGfi m then 0 else 1
    let s := s.log 0x2208 [m.val, f.lowest]
    let s := setShed m 0 f.vdc s
    let s := s.modRide m fun f => { f with coasting := false, lowSince := none, powerRef := none
                                           speedDue := f.powerRef.isSome
                                           release := if s.isGfi m || paused then some ⟨from_, to_, s.now, dur⟩ else none }
    (s.setBit (Obj.FRT_STATUS m) 8 false).setBit (Obj.FRT_STATUS m) 12 false

/-- R115: the input stage completes its ramp; the stages it feeds stop coasting, those of LINK_SOURCE 4 on the first input that does
(DESIGN CHOICE, log 135). -/
def execInputRampComplete (n : StageId) (s : State) : Res :=
  .next (s.on (.pier n) fun s =>
    match s.frt[n].ramp with
    | none => s
    | some g =>
      if g.dur ≤ s.since g.start then
        let s := (s.modRide n fun f => { f with ramp := none }).setBit (Obj.FRT_STATUS n) 9 false
        let s := if isViaduct s then linkSend 0x2206 [n.val, 0] s else s
        allStages.foldl (fun s m => if fedBy s m n then coastEnd m s else s) s
      else s)

/-- A loss of an input of the partner, or the end of its ramp, reaches a pier across the Clauz link (R111, R115): LINK_SOURCE 4 is any input
stage. -/
def partnerInput (m : StageId) (lost : Bool) (s : State) : State :=
  if !isViaduct s || !s.bit (Obj.FRT_CONFIG m) 5 || s.field (Obj.FRT_CONFIG m) 8 3 ≠ 4 then s
  else if lost then s.modRide m fun f => { f with notified := true }
  else coastEnd m s

/-- R115: the release of shifts and pauses ends. -/
def execCoastReleaseEnd (n : StageId) (s : State) : Res :=
  .next (s.on (.pier n) fun s =>
    match s.frt[n].release with
    | none => s
    | some g =>
      if g.dur ≤ s.since g.start then
        let s := s.modRide n fun f => { f with release := none, powerLimit := 1 }
        (s.modPier n fun p => { p with law := { p.law with dPc := 0 } }).setR (Obj.FRT_DELTA_P_COAST n) 0
      else s)

/-- R116: coasting has failed; the module stops at the next tick. -/
def coastFailed (n : StageId) (dat : Rat) (s : State) : State := demandStop (.fault 0x2209) (s.log 0x2209 [n.val, dat])

def execCoastLinkLowTimeout (n : StageId) (s : State) : Res :=
  .next (s.on (.pier n) fun s =>
    match s.frt[n].lowSince with
    | some t =>
      if s.frt[n].coasting && rideActs s n && decide (s.objN (Obj.FRT_LINK_MIN_TIME n) * cyclesMs ≤ s.since t) then coastFailed n 1 s else s
    | none => s)

def execCoastMaxTimeout (n : StageId) (s : State) : Res :=
  .next (s.on (.pier n) fun s =>
    if s.frt[n].coasting && rideActs s n && decide (s.objN (Obj.FRT_COAST_MAX n) * cyclesMs ≤ s.since s.frt[n].coastFrom) then coastFailed n 2 s else s)

/-- R109: ride-through not ended within 20 ms of clear detection; event 0x2205 then carries no cause, 0 (DESIGN CHOICE, log 132). -/
def execRideEndTimeout (n : StageId) (s : State) : Res :=
  .next (s.on (.pier n) fun s =>
    match s.frt[n].clearAt with
    | some t => if s.frt[n].riding && rideActs s n && decide (20 * cyclesMs < s.since t) then withdrawClear n 0 s else s
    | none => s)

/-- R107: B reaches 0 in ride-through. -/
def execFaultBudgetExhausted (n : StageId) (s : State) : Res :=
  .next (s.on (.pier n) fun s =>
    if budgetFalls s.frt[n] && rideActs s n && decide (budgetNow s n = 0) then rideFailed n (budgetAdvance n s) else s)

/-- R117: FRT_PLL_HOLD in hold has passed. -/
def execInputPllHoldExpiry (n : StageId) (s : State) : Res :=
  .next (s.on (.pier n) fun s =>
    match s.frt[n].hold with
    | some t =>
      if inputActs s n && !s.frt[n].holdExpired && decide (s.objN (Obj.FRT_PLL_HOLD n) * cyclesMs ≤ s.since t) then
        (s.modRide n fun f => { f with holdExpired := true }).log 0x220B [n.val, s.frt[n].pllF]
      else s
    | none => s)

/-- R117: a zero crossing of the returned input resumes the PLL, or counts towards a re-seed from three alternating
crossings. FRT_ZC_HYST must not exceed its swing. -/
def execInputZeroCrossing (n : StageId) (z : Crossing) (s : State) : Res :=
  .next (s.on (.pier n) fun s =>
    let f := s.frt[n]
    let phase : Nat := if z.rising then 0 else 2147483648
    if f.hold.isNone || !f.lost || !inputActs s n || decide (z.swing < milli (s.objI (Obj.FRT_ZC_HYST n))) || (f.crossings.isEmpty && !inputReturned s n) then s
    else
      match f.crossings with
      | [] =>
        let err := angleDeg (addAngle (heldPhase f s.now) (-(phase : Int)))
        let s := s.setR (Obj.FRT_LAST_JUMP n) err
        if !f.holdExpired && decide (absR err * 10 ≤ (s.objN (Obj.FRT_PLL_JUMP n) : Nat)) then
          (s.modRide n fun f => { f with hold := none, pllPhase := phase, pllAt := s.now }).setBit (Obj.FRT_STATUS n) 10 false
        else (s.modRide n fun f => { f with crossings := [(s.now, z.rising)] }).setBit (Obj.FRT_STATUS n) 11 true
      | [z1] => if z1.2 = z.rising then s else s.modRide n fun f => { f with crossings := [z1, (s.now, z.rising)] }
      | z1 :: z2 :: _ =>
        if z2.2 = z.rising ∨ s.now ≤ z1.1 then s
        else
          let fr := r32 (mkRat 409600000 (s.now - z1.1))
          let s := s.modRide n fun f => { f with hold := none, holdExpired := false, crossings := [], pllF := fr, pllPhase := phase, pllAt := s.now }
          let s := (s.setField (Obj.FRT_STATUS n) 10 2 0).setR (Obj.FRT_IN_PLL_F n) fr
          s.log 0x220A [n.val, s.objR (Obj.FRT_LAST_JUMP n), fr])

end Sys2Proof.Machine
end

