-- ==== Sys2Proof/Machine/Commit.lean ====
section
/-!
DEFINITION. Writes that wait for a stage's next commit (R7, R66, R159, R167), what each does when it is applied (R58, R63,
R119, R134, R135, Table 6.6, Table 7.9), and the stability envelope of R70.
-/

namespace Sys2Proof.Machine

/-- The stage or pier whose dispatch applies a key's waiting write: stage blocks 0x3000 to 0x3FFF, pier objects 0x4000 to
0x43FF, block instances 0x6000 to 0x9FFF. -/
def pierOfKey (key : Nat) : Option StageId :=
  let idx := key / 256
  let at_ (q : Nat) : Option StageId := if h : q < 4 then some ⟨q, h⟩ else none
  if idx < 0x3000 then none
  else if idx < 0x4000 then at_ ((idx - 0x3000) / 0x400)
  else if idx < 0x4400 then at_ ((idx - 0x4000) / 0x100)
  else if idx < 0x6000 then none
  else if idx < 0xA000 then at_ ((idx - 0x6000) / 0x1000)
  else none

/-- Whether a key is a parameter of a block instance (R170). -/
def isBlockKey (key : Nat) : Bool := decide (0x600000 ≤ key) && decide (key < 0xA00000)

/-- Whether a key belongs to stage n's forming law (R66, R71): offsets 0x000 to 0x0FF of its block. -/
def isLawKey (key : Nat) : Bool := decide (0x300000 ≤ key) && decide (key < 0x400000) && decide (key / 256 % 0x400 < 0x100)

/-! ### Stability envelope -/

/-- What the conditions of R70 find: the conditions that fail (bit i for the i-th of its list), with ζ and f_res. -/
structure Envelope where
  fails : List Nat
  zeta : Rat
  fRes : Rat
deriving DecidableEq, Repr

/-- The conditions of R70 with offsets ΔR, ΔX and Δf_n in place. Where m_p is 0 the formulas state no ζ and no time constant, and where X_t
is not positive no ω_n either; `free` stands there (DESIGN CHOICE, log 4). -/
def envelope (s : State) (n : StageId) (dR dX dFn : Rat) (free : Rat) : Envelope :=
  let mp := mkRat (s.objI (Obj.GFL_MP n)) 10000
  let d := mkRat (s.objI (Obj.GFL_D n)) 10
  let h := mkRat (s.objI (Obj.GFL_H n)) 100
  let xt := milli (s.objI (Obj.GFL_XV n)) + dX + milli (s.objI (Obj.GFL_L2 n))
  let stated := decide (mp ≠ 0) && decide (0 < xt)
  let wn := if 0 < xt then sqrt32 (s.wb n / (2 * h * xt)) else free
  let zeta := if stated then r32 ((1 / mp + d) / (4 * h * wn)) else free
  let fres := resonance s n
  let fu := if s.tu n = 0 then 0 else mkRat 409600000 (s.tu n)
  let fn := notchCfg s n + dFn
  let outer := fu / ((2 ^ s.objN (Obj.GFL_OUTER_DIV n) : Nat) : Rat)
  let stepOk := if mp ≠ 0 then decide ((1 / mp + d) / outer / (2 * h) ≤ mkRat 1 2) else decide (free ≤ mkRat 1 2)
  let conds : List (Nat × Bool) := [
    (0, decide (mkRat 3 10 ≤ zeta)),
    (1, decide (4 ≤ milli (s.objI (Obj.GFL_DAMP_TC n)) * wn)),
    (2, stepOk),
    (3, decide (mkRat 20 1000 ≤ milli (s.objI (Obj.GFL_RV n)) + dR)),
    (4, decide (mkRat 80 1000 ≤ xt)),
    (5, decide (10 * s.fb n ≤ fres) && decide (fres ≤ fu / 6)),
    (6, !s.bit (Obj.GFL_CONFIG n) 4 || decide (absR (fn - fres) ≤ fres / 10)),
    (7, decide (10000 ≤ fu)),
    (8, decide (2500 ≤ outer))]
  ⟨(conds.filter fun c => !c.2).map (·.1), zeta, fres⟩

/-- GFL_STATUS bits [9:6] of failed conditions (Table 3.6). -/
def envBits (fails : List Nat) : Nat :=
  boolNat (fails.contains 0) + 2 * boolNat (fails.contains 5) + 4 * boolNat (fails.contains 6)
    + 8 * boolNat (fails.any fun i => i != 0 && i != 5 && i != 6)

/-- R70: evaluate, report, and log event 0x2003 once per failed condition per entry into CHARGE. The offsets of the survey in force are in
R_v, X_v and f_n (DESIGN CHOICE, log 147). -/
def envelopeCheck (n : StageId) (s : State) : State :=
  let v := s.srv[n]
  let e := envelope s n v.dRad v.dXad v.dFn s.freeReal
  let s := s.draw
  let s := ((s.setR (Obj.GFL_ZETA n) e.zeta).setR (Obj.GFL_F_RES n) e.fRes).setField (Obj.GFL_STATUS n) 6 4 (envBits e.fails)
  e.fails.foldl (fun s i =>
    if bitsAt s.pie[n].envLogged i 1 = 1 then s
    else (s.modPier n fun p => { p with envLogged := p.envLogged + 2 ^ i }).log 0x2003 [n.val, envBits e.fails]) s

/-! ### Adaptation offsets -/

/-- The time of the 20 ms ramps of R58 and R133. -/
def rampXv : Nat := 20 * cyclesMs

/-- Set the adaptation offsets of a stage; ΔR_ad and ΔX_ad move there linearly over 20 ms (R133). -/
def setOffsets (n : StageId) (dR dX dK dF : Rat) (s : State) : State :=
  let v := s.srv[n]
  let now := s.now
  let r0 := gliding v.glideR now v.dRad
  let x0 := gliding v.glideX now v.dXad
  let s := s.modSurvey n fun v => { v with
    dRad := dR, dXad := dX, dKc := dK, dFn := dF,
    glideR := if dR = r0 then none else some ⟨r0, dR, now, rampXv⟩,
    glideX := if dX = x0 then none else some ⟨x0, dX, now, rampXv⟩ }
  (((s.setR (Obj.SRV_DR_AD n) dR).setR (Obj.SRV_DX_AD n) dX).setR (Obj.SRV_DKC_AD n) dK).setR (Obj.SRV_DFN_AD n) dF

/-- ΔR_ad that follows ΔX_ad (Table 6.1). -/
def followR (s : State) (n : StageId) (dX : Rat) : Rat :=
  if s.objN (Obj.GFL_XV n) = 0 then 0 else r32 (dX * (mkRat (s.objI (Obj.GFL_RV n)) (s.objN (Obj.GFL_XV n))))

/-- The bounds of Table 6.1 as they now stand for ΔX_ad, ΔK_c and ±Δf_n; 0 where the enable is cleared (R135). -/
def offsetTops (s : State) (n : StageId) : Rat × Rat × Rat :=
  let en (b : Nat) (top : Rat) : Rat := if s.bit (Obj.SRV_CONFIG n) 1 && s.bit (Obj.SRV_CONFIG n) b then top else 0
  (en 3 (milli (s.objI (Obj.SRV_XV_RANGE n))), en 5 (milli (s.objI (Obj.SRV_KC_RANGE n))),
    en 4 (r32 (mkRat (s.objI (Obj.SRV_NOTCH_RANGE n)) 100 * resonance s n)))

/-- Bring offsets within their bounds (R67, Table 6.6), and to 0 where their enable is cleared (R135); ADAPT_AT_BOUND says whether a bound
holds one. ADAPT_FREEZE holds them against adaptation and not against this (DESIGN CHOICE, log 148). -/
def boundOffsets (n : StageId) (s : State) : State :=
  let v := s.srv[n]
  let (tx, tk, tf) := offsetTops s n
  let x := clampR v.dXad 0 tx
  let k := clampR v.dKc 0 tk
  let f := clampR v.dFn (-tf) tf
  if x = v.dXad ∧ k = v.dKc ∧ f = v.dFn then s
  else
    let held (off top : Rat) : Bool := decide (off ≠ 0) && decide (top ≤ absR off)
    (setOffsets n (followR s n x) x k f s).setBit (Obj.SRV_STATUS n) 3 (held x tx || held k tk || held f tf)

/-- Offsets to be put back (R134), within the bounds as they now stand: ΔR_ad, ΔX_ad, ΔK_c, Δf_n. -/
def boundedBack (s : State) (n : StageId) (o : List Rat) : List Rat :=
  let (tx, tk, tf) := offsetTops s n
  let x := clampR (nth o 1) 0 tx
  [if x = nth o 1 then nth o 0 else followR s n x, x, clampR (nth o 2) 0 tk, clampR (nth o 3) (-tf) tf]

/-! ### Applying writes -/

/-- A new virtual-impedance value starts its 20 ms way from the value now in use; outside the run modes it acts at once (R58). -/
def beginXv (n : StageId) (which : Nat) (old : Rat) (s : State) : State :=
  if !s.mod.mode.running then s else
  let now := s.now
  let go (g : Option Glide) : Option Glide := some ⟨gliding g now old, 0, now, rampXv⟩
  let s := s.modPier n fun p => match which with
    | 0 => { p with rv := go p.rv }
    | 1 => { p with xv := go p.xv }
    | _ => { p with xvn := go p.xvn }
  s.setBit (Obj.GFL_STATUS n) 4 true

/-- Point a glide at the value just written. -/
def aimXv (n : StageId) (s : State) : State :=
  s.modPier n fun p =>
    let aim (g : Option Glide) (v : Rat) : Option Glide := g.map fun g => { g with dst := v }
    { p with rv := aim p.rv (milli (s.objI (Obj.GFL_RV n))), xv := aim p.xv (milli (s.objI (Obj.GFL_XV n))),
             xvn := aim p.xvn (milli (s.objI (Obj.GFL_XVN n))) }

/-- Write one parameter of a block instance (R167): sub-indices from 0x10 in the order of Table 7.7. -/
def writeBlockParam (n : StageId) (key : Nat) (v : Val) (s : State) : State :=
  let inst := key / 256 % 0x1000
  let j := key % 256 - 0x10
  let s := s.setObj key v
  s.modPier n fun p => { p with blocks := p.blocks.modify inst fun b => { b with params := b.params.set j v } }

/-- The stage's voided-sample limit is reached (R161): SAFE with 0x2402, or arbitration in duplex. -/
def overrunLimit (n : StageId) (s : State) : State :=
  let s := s.log 0x2402 [n.val, s.pie[n].overrunRun]
  if isDuplex s then arbStart n 0x2402 s else stageSafe n 0x2402 s

/-- The threshold that a stage programs into a comparator it owns: ±FRT_PULSE_LIMIT of a current input's peak base (R102), FRT_IN_LOSS_LEVEL of
the rated input voltage (R110). -/
def ownedLevel (s : State) (n : StageId) (up : Bool) : Rat :=
  if s.isGfi n then
    let top := fmul (milli (s.objI (Obj.FRT_PULSE_LIMIT n))) (stageBases s n).iPeak
    if up then top else -top
  else fmul (milli (s.objI (Obj.FRT_IN_LOSS_LEVEL n))) (s.objR (Obj.FRT_IN_RATED n))

/-- The owned comparators carry the thresholds of their stages. -/
def programOwned (s : State) : State :=
  s.modAcq fun a => { a with cmpLevel := s.acq.cmpOwned.map fun e => (e.1, e.2.1, ownedLevel s e.2.2 e.2.1) }

/-- A write of SRV_CONFIG ends the holds of R134, and ADAPT_FROZEN follows ADAPT_FREEZE, with event 0x2306 at each change (R135). -/
def configSurvey (n : StageId) (v : Val) (s : State) : State :=
  let was := s.bit (Obj.SRV_STATUS n) 2
  let s := s.setObj (Obj.SRV_CONFIG n) v
  let s := (s.modSurvey n fun w => { w with holdVi := false, holdNotch := false, holdKc := false }).setField (Obj.SRV_STATUS n) 5 3 0
  let froze := s.bit (Obj.SRV_CONFIG n) 2
  if froze = was then s else (s.setBit (Obj.SRV_STATUS n) 2 froze).log 0x2306 [n.val, boolNat froze]

/-- Apply one waiting write of stage n. -/
def applyWrite (n : StageId) (s : State) (c : ObjCell) : State :=
  let key := c.1
  let v := c.2
  if isBlockKey key then writeBlockParam n key v s
  else if key = Obj.GFL_RV n then aimXv n ((beginXv n 0 (milli (s.objI key)) s).setObj key v)
  else if key = Obj.GFL_XV n then aimXv n ((beginXv n 1 (milli (s.objI key)) s).setObj key v)
  else if key = Obj.GFL_XVN n then aimXv n ((beginXv n 2 (milli (s.objI key)) s).setObj key v)
  else if key = Obj.GFL_CONFIG n then
    let old := s.field key 2 2
    let s := s.setObj key v
    if s.field key 2 2 = old then s else s.modPier n fun p => { p with law := { p.law with neg := .zero } }
  else if key = Obj.SRV_CONFIG n then boundOffsets n (configSurvey n v s)
  else if key = Obj.FRT_FAULT_TIME n ∨ key = Obj.FRT_BUDGET_RECOVER n then
    let s := (budgetAdvance n s).setObj key v
    s.modRide n fun f => { f with budget := minR f.budget (s.objN (Obj.FRT_FAULT_TIME n) : Nat) }
  else if key = Obj.FRT_PULSE_LIMIT n ∨ key = Obj.FRT_IN_LOSS_LEVEL n then programOwned (s.setObj key v)
  else if key = Obj.SHR_CONFIG n then
    let s := s.setObj key v
    if s.bit key 2 && s.isGfi n && s.switching n then suspend n 32 s else s
  else if decide (0x333000 + 0x40000 * n.val ≤ key) && decide (key < 0x333100 + 0x40000 * n.val) then boundOffsets n (s.setObj key v)
  else if decide (0x335000 + 0x40000 * n.val ≤ key) && decide (key < 0x335400 + 0x40000 * n.val) then
    (s.setObj key v).modSurvey n fun w => { w with above := Vector.replicate 6 0 }
  else if key = Obj.PIE_OVERRUN_LIMIT n then
    let s := s.setObj key v
    if decide (0 < s.pie[n].overrunRun) && decide (s.objN key ≤ s.pie[n].overrunRun) then overrunLimit n s else s
  else s.setObj key v

/-- Whether a waiting write stays pending at this dispatch: thresholds of a ride in progress (Table 5.5). -/
def waitsForRide (s : State) (n : StageId) (key : Nat) : Bool :=
  s.frt[n].riding && decide (0x321000 + 0x40000 * n.val ≤ key) && decide (key < 0x321100 + 0x40000 * n.val)
    && key != Obj.FRT_FAULT_TIME n

/-- Whether a key enters the conditions of R70. -/
def entersEnvelope (key : Nat) : Bool := isLawKey key

/-- Objects that wait for a commit and belong to no one pier: any pier's next dispatch takes them (DESIGN CHOICE, log 151). -/
def anyPier (key : Nat) : Bool := key == Obj.ACQ_TRACK_LIMIT || key == Obj.TWN_XCHECK_TOL

/-- The pier takes the writes addressed to it (R159): applied at this dispatch, effective at the commit of its sample; the
envelope is evaluated where a parameter involved has changed (R70), adapted sums are clamped (R67). -/
def takeWrites (n : StageId) (s : State) : State :=
  let here (c : ObjCell) : Bool := (pierOfKey c.1 == some n && !waitsForRide s n c.1) || anyPier c.1
  let mine := s.commitWrites.filter here
  let rest := s.commitWrites.filter fun c => !here c
  let s := { s with commitWrites := rest }
  let s := mine.foldl (fun s c => applyWrite n s (s.dueCell .nextCommit c)) s
  if mine.any fun c => entersEnvelope c.1 then
    let s := if s.isGfi n then boundOffsets n s else s
    if s.isGfi n then envelopeCheck n s else s
  else s

/-- Held writes of a stage's forming law, or of a pier's block instances. -/
def heldOf (s : State) (n : StageId) (blocks : Bool) : List ObjCell :=
  s.heldWrites.filter fun c => pierOfKey c.1 == some n && (if blocks then isBlockKey c.1 else isLawKey c.1)

/-- Clearing PARAM_HOLD hands every held value to the next commit together and logs the event with their number (R66,
R167). -/
def releaseHeld (n : StageId) (blocks : Bool) (s : State) : State :=
  let mine := heldOf s n blocks
  let rest := s.heldWrites.filter fun c => !(pierOfKey c.1 == some n && (if blocks then isBlockKey c.1 else isLawKey c.1))
  let count := ((mine.map (·.1)).eraseDups).length
  let s := { s with heldWrites := rest, commitWrites := s.commitWrites ++ mine }
  if blocks then ((s.setBit (Obj.PIE_CONFIG n) 0 false).setBit (Obj.PIE_STATUS n) 3 false).log 0x2406 [n.val, count]
  else ((s.setBit (Obj.GFL_CONFIG n) 10 false).setBit (Obj.GFL_STATUS n) 5 false).log 0x2006 [n.val, count]

/-- R66: GFL_CONFIG.PARAM_HOLD is cleared by a writer that may write. -/
def execGflParamHoldClear (n : StageId) (w : Writer) (s : State) : Res :=
  .next (request w (Obj.GFL_CONFIG n) .house (fun s =>
    if !s.isGfi n then (0x06020000, s)
    else owned w (fun s => if s.bit (Obj.GFL_CONFIG n) 10 then (0, releaseHeld n false s) else (0, s)) s) s)

/-- R167: PIE_CONFIG.PARAM_HOLD is cleared by a writer that may write. -/
def execPieParamHoldClear (p : StageId) (w : Writer) (s : State) : Res :=
  .next (request w (Obj.PIE_CONFIG p) .house (owned w fun s => if s.bit (Obj.PIE_CONFIG p) 0 then (0, releaseHeld p true s) else (0, s)) s)

/-- R58: the 20 ms way of a virtual-impedance value ends. -/
def execXvRampEnd (n : StageId) (s : State) : Res :=
  .next (s.on (.pier n) fun s =>
    let p := s.pie[n]
    let past (g : Option Glide) : Option Glide := g.bind fun g => if g.dur ≤ s.since g.start then none else some g
    let rv := past p.rv
    let xv := past p.xv
    let xvn := past p.xvn
    let s := s.modPier n fun p => { p with rv := rv, xv := xv, xvn := xvn }
    s.setBit (Obj.GFL_STATUS n) 4 (rv.isSome || xv.isSome || xvn.isSome))

/-- R133: the 20 ms way of adapted offsets ends. -/
def execAdaptOffsetRampEnd (n : StageId) (s : State) : Res :=
  .next (s.on (.pier n) fun s =>
    let past (g : Option Glide) : Option Glide := g.bind fun g => if g.dur ≤ s.since g.start then none else some g
    s.modSurvey n fun v => { v with glideR := past v.glideR, glideX := past v.glideX })

end Sys2Proof.Machine
end

