-- ==== Sys2Proof/Machine/Survey.lean ====
section
/-!
DEFINITION. Chapter 6: the injected sequence (R125 to R128), what a round estimates (R129 to R131), adaptation (R132 to
R136) and the canary (R137 to R141).
-/

namespace Sys2Proof.Machine

/-! ### The injected sequence -/

/-- Inner samples per chip: the smallest d with f_u / d ≤ 40 kHz, that is T_u × d ≥ 10,240 core cycles (R126). -/
def chipDiv (s : State) (n : StageId) : Nat := if s.tu n = 0 then 1 else max 1 ((10240 + s.tu n - 1) / s.tu n)

/-- The chip rate in Hz. -/
def chipRate (s : State) (n : StageId) : Rat := if s.tu n = 0 then 0 else mkRat 409600000 (s.tu n * chipDiv s n)

/-- The first condition of R125 that does not hold, 1 to 5; 0 where all hold. -/
def surveyBar (s : State) (n : StageId) : Nat :=
  if !s.bit (Obj.SRV_CONFIG n) 0 then 1
  else if s.mod.mode ≠ .form then 2
  else if s.stageSt n ≠ .run then 3
  else if s.bit (Obj.GFL_CONFIG n) 10 then 4
  else if chipRate s n < 2000 then 5
  else 0

/-- One step of the 12-bit register of R126: polynomial x¹² + x⁶ + x⁴ + x + 1; bit 0 leaves. -/
def mlsStep (r : Nat) : Nat :=
  let b := (bitsAt r 0 1 + bitsAt r 1 1 + bitsAt r 4 1 + bitsAt r 6 1) % 2
  r / 2 + b * 2048

def mlsAt : Nat → Nat → Nat
  | 0, r => r
  | i + 1, r => mlsAt i (mlsStep r)

/-- Chip i of the sequence: +1 or −1. -/
def chipSign (i : Nat) : Rat := if mlsAt (i % 4095) (1 + Config.mlsSeed % 4095) % 2 = 1 then 1 else -1

/-- The injection at a sample (R126, R127): zero outside a round. -/
def injection (s : State) (n : StageId) : Vec :=
  let v := s.srv[n]
  if !v.active then .zero
  else
    let c := claimNode s * 16 + 4 * claimRank s n + v.chip / chipDiv s n
    let a := r32 (mkRat (v.cfg.getD 0 0 : Nat) 10000 / sqrt32 2)
    ⟨a * chipSign c, a * chipSign (c + 2048)⟩

/-- One chip of the measured periods is kept: the sample at the chip's last inner sample stands for it (DESIGN CHOICE, log 142); the first
period settles and is not evaluated (R128). -/
def keepChip (n : StageId) (l : Law) (u : Vec) (s : State) : State :=
  let d := chipDiv s n
  let c := s.srv[n].chip
  if s.srv[n].active && decide (4095 * d ≤ c) && decide ((c + 1) % d = 0) then
    s.modSurvey n fun v => { v with record := ⟨l.vPos, l.iPos, u⟩ :: v.record }
  else s

/-- A round ends: its record is dropped. -/
def roundOver (n : StageId) (s : State) : State :=
  (s.modSurvey n fun v => { v with active := false, record := [] }).setBit (Obj.SRV_STATUS n) 0 false

/-- A round whose conditions cease is discarded (R125). -/
def roundWatch (n : StageId) (s : State) : State :=
  let bar := surveyBar s n
  if s.srv[n].active && decide (bar ≠ 0) then
    (roundOver n s).log 0x2303 [n.val, bar]
  else s

/-- R128: a round starts 1 s after entry into RUN in FORM, then SRV_PERIOD after the last start. -/
def execSurveyRoundStart (n : StageId) (s : State) : Res :=
  .next (s.on (.pier n) fun s =>
    let v := s.srv[n]
    let due := match v.startedAt with
      | none => decide (cyclesSec ≤ s.since (max v.runSince s.mod.enteredAt))
      | some t => decide (s.objN (Obj.SRV_PERIOD n) * 100 * cyclesMs ≤ s.since t)
    if s.isGfi n && !v.active && due && decide (surveyBar s n = 0) then
      let s := s.modSurvey n fun v => { v with
        active := true, startedAt := some s.now, chip := 0, record := []
        cfg := [s.objN (Obj.SRV_AMPLITUDE n), s.objN (Obj.SRV_AVERAGES n), s.objN (Obj.SRV_COH_MIN n), s.objN (Obj.SRV_PEER_X n)] }
      s.setBit (Obj.SRV_STATUS n) 0 true
    else s)

/-! ### Estimates -/

/-- The 32 reported frequencies f_i = 100 Hz × 200^(i/31) as binary32 numbers (R129). -/
def surveyFreqs : List Rat :=
  [mkRat 100 1, mkRat 7775113 65536, mkRat 9224301 65536, mkRat 10943601 65536, mkRat 6491679 32768, mkRat 15403301 65536,
   mkRat 4568573 16384, mkRat 10840201 32768, mkRat 6430343 16384, mkRat 3814441 8192, mkRat 9050815 16384,
   mkRat 10737779 16384, mkRat 12739173 16384, mkRat 15113603 16384, mkRat 8965299 8192, mkRat 2659081 2048]
  ++ [mkRat 1577351 1024, mkRat 14970803 8192, mkRat 8880591 4096, mkRat 2633957 1024, mkRat 3124895 1024,
   mkRat 14829353 4096, mkRat 2199171 512, mkRat 10436281 2048, mkRat 12381479 2048, mkRat 14689239 2048,
   mkRat 8713569 1024, mkRat 10337675 1024, mkRat 6132247 512, mkRat 14550449 1024, mkRat 1078905 64, mkRat 20000 1]

/-- f_up = min(20 kHz, f_ch / 2) (R129). -/
def surveyUpper (s : State) (n : StageId) : Rat := minR 20000 (chipRate s n / 2)

/-- One point of the report: (f_i, coherence, Re, Im), or none where it is invalid. -/
def surveyPoint (coh up : Rat) (f : Rat) (p : Rat × Rat × Rat) : Option (Rat × Rat × Rat × Rat) :=
  if coh ≤ p.1 ∧ f ≤ up then some (f, p.1, p.2.1, p.2.2) else none

/-- Least squares of R130 over the valid points to 1 kHz: R_s is the mean of the real parts; X_0 + X_s is the regression
line of the imaginary parts in f / f_b, taken at f_b. None with fewer than four points. -/
def surveyFit (fb : Rat) (l : List (Rat × Rat × Rat × Rat)) : Option (Rat × Rat) :=
  let l := l.filter fun p => decide (p.1 ≤ 1000)
  if l.length < 4 then none
  else
    let m : Rat := (l.length : Nat)
    let sum (f : Rat × Rat × Rat × Rat → Rat) : Rat := l.foldl (fun a p => a + f p) 0
    let sx := sum fun p => p.1 / fb
    let sy := sum fun p => p.2.2.2
    let sxx := sum fun p => p.1 / fb * (p.1 / fb)
    let sxy := sum fun p => p.1 / fb * p.2.2.2
    let xs := (m * sxy - sx * sy) / (m * sxx - sx * sx)
    let x0 := (sy - xs * sx) / m
    some (r32 (sum (fun p => p.2.2.1) / m), r32 (x0 + xs))

/-- Write the tables of R129. -/
def reportPoints (n : StageId) (ps : List (Option (Rat × Rat × Rat × Rat))) (s : State) : State :=
  (List.range 32).foldl (fun s i =>
    let (m, a, c) : Rat × Rat × Rat := match (ps.getD i none) with
      | some p => ((Vec.mk p.2.2.1 p.2.2.2).mag, angleDeg (Config.arg p.2.2.1 p.2.2.2), p.2.1)
      | none => (0, 0, 0)
    ((s.setR (Obj.SRV_Z_MAG n i) m).setR (Obj.SRV_Z_ANGLE n i) a).setR (Obj.SRV_COHERENCE n i) c) s

/-! ### Spectra of a round -/

/-- A signal's component at m turns per sequence period over 4,095 chips: Σ x_k e^(−j 2π m k / 4095), x a complex number of α and β. -/
def spectrum (xs : List Vec) (m : Nat) : Vec :=
  xs.zipIdx.foldl (fun (a : Vec) e =>
    let th := wrap32 (roundEven (mkRat ((m * e.2 : Nat) : Int) 4095 * 4294967296))
    let c := sinTurn (wrap32 ((th : Int) + 1073741824))
    let sn := sinTurn th
    a.add ⟨e.1.x * c + e.1.y * sn, e.1.y * c - e.1.x * sn⟩) ⟨0, 0⟩

/-- z × conj(w). -/
def mulConj (z w : Vec) : Vec := ⟨z.x * w.x + z.y * w.y, z.y * w.x - z.x * w.y⟩

/-- A list cut into whole periods of 4,095. -/
def periodsOf : Nat → List ChipRec → List (List ChipRec)
  | 0, _ => []
  | k + 1, l => if l.length < 4095 then [] else l.take 4095 :: periodsOf k (l.drop 4095)

/-- Auto- and cross-spectra at one harmonic, summed over the measured periods. -/
structure Spectra where
  vi : Vec
  ii : Rat
  vv : Rat
  vu : Vec
  uu : Rat
deriving DecidableEq, Repr

def Spectra.none : Spectra := ⟨.zero, 0, 0, .zero, 0⟩

def Spectra.plus (a b : Spectra) : Spectra := ⟨a.vi.add b.vi, a.ii + b.ii, a.vv + b.vv, a.vu.add b.vu, a.uu + b.uu⟩

def spectraAt (ps : List (List ChipRec)) (m : Nat) : Spectra :=
  ps.foldl (fun (a : Spectra) p =>
    let v := spectrum (p.map ChipRec.v) m
    let i := spectrum (p.map ChipRec.i) m
    let u := spectrum (p.map ChipRec.u) m
    a.plus ⟨mulConj v i, (mulConj i i).x, (mulConj v v).x, mulConj v u, (mulConj u u).x⟩) .none

/-- The harmonics of the sequence from one frequency to another, as multiples of f_ch / 4095. -/
def harmonicsIn (fch lo hi : Rat) : List Nat :=
  (List.range 2048).filter fun m => decide (m ≠ 0) && decide (lo ≤ fch * (m : Rat) / 4095) && decide (fch * (m : Rat) / 4095 ≤ hi)

/-- 200^(1/62). -/
def pointWidth : Rat := mkRat 10892031 10000000

/-- One reported point (R129): coherence and Z = S_vi / S_ii from the spectra of the point's harmonics added up (DESIGN CHOICE, log 142). -/
def pointOf (ps : List (List ChipRec)) (fch f : Rat) : Rat × Rat × Rat :=
  let t := (harmonicsIn fch (f / pointWidth) (f * pointWidth)).foldl (fun (a : Spectra) m => a.plus (spectraAt ps m)) .none
  if t.ii = 0 ∨ t.vv = 0 then (0, 0, 0)
  else (r32 ((mulConj t.vi t.vi).x / (t.vv * t.ii)), fdiv (r32 t.vi.x) (r32 t.ii), fdiv (r32 t.vi.y) (r32 t.ii))

/-- What a round has measured (R129 to R131): the 32 points as (coherence, Re Z, Im Z), the resonance peak f_pk with its half-power bandwidth,
and whether the peak and both half-power points lie inside the range searched. -/
structure SurveyMeas where
  points : List (Rat × Rat × Rat)
  fPeak : Rat
  bandwidth : Rat
  peakInside : Bool
deriving DecidableEq, Repr

/-- The peak of |H_v|² over the harmonics of a range, with the half-power points on either side (R131); the half-power points are the nearest
harmonics at or below half the peak (DESIGN CHOICE, log 142). -/
def peakOf (hs : List (Nat × Rat)) : Option (Nat × Option Nat × Option Nat) :=
  match hs with
  | [] => none
  | h :: t =>
    let top := t.foldl (fun (b : Nat × Rat) e => if b.2 < e.2 then e else b) h
    let low := hs.filter fun e => decide (2 * e.2 ≤ top.2)
    some (top.1, ((low.filter fun e => decide (e.1 < top.1)).getLast?).map (·.1), ((low.filter fun e => decide (top.1 < e.1)).head?).map (·.1))

/-- The correlations of the record that a round has gathered. -/
def measureRound (s : State) (n : StageId) : SurveyMeas :=
  let rec_ := s.srv[n].record
  if rec_.length < 4095 then ⟨[], 0, 0, false⟩
  else
    let ps := periodsOf 32 rec_.reverse
    let fch := chipRate s n
    let fr := resonance s n
    let hs := (harmonicsIn fch (fr / 2) (minR (mkRat 3 2 * fr) (surveyUpper s n))).map fun m =>
      let t := spectraAt ps m
      (m, if t.uu = 0 then 0 else (mulConj t.vu t.vu).x / (t.uu * t.uu))
    let hz (m : Nat) : Rat := r32 (fch * (m : Rat) / 4095)
    let points := surveyFreqs.map (pointOf ps fch)
    match peakOf hs with
    | none => ⟨points, 0, 0, false⟩
    | some (m, some a, some b) => ⟨points, hz m, fsub (hz b) (hz a), true⟩
    | some (m, _, _) => ⟨points, hz m, 0, false⟩

/-- What a round has found that adaptation uses. -/
structure RoundFound where
  zetaPk : Rat
  zetaA : Rat
  fPk : Rat
deriving DecidableEq, Repr

/-- ζ_a of R132 with Im Z_1; unstated for an isochronous stage or X_a ≤ 0 (DESIGN CHOICE, log 4). -/
def zetaSwing (s : State) (n : StageId) (imZ : Rat) (free : Rat) : Rat :=
  let mp := mkRat (s.objI (Obj.GFL_MP n)) 10000
  let d := mkRat (s.objI (Obj.GFL_D n)) 10
  let h := mkRat (s.objI (Obj.GFL_H n)) 100
  let xa := milli (s.objI (Obj.GFL_XV n)) + s.srv[n].dXad + milli (s.objI (Obj.GFL_L2 n)) + imZ
  if mp ≠ 0 ∧ 0 < xa then r32 ((1 / mp + d) / (4 * h * sqrt32 (s.wb n / (2 * h * xa)))) else free

/-- The active module of a duplex pair sends the offsets that the next commit puts in force, with its effective instant in TT (R136). -/
def sendOffsets (n : StageId) (s : State) : State :=
  if isDuplex s && !isStandby s then
    let v := s.srv[n]
    linkSend 0x2302 [n.val, f32Bits v.dRad, f32Bits v.dXad, f32Bits v.dKc, f32Bits v.dFn, ttCycles s (s.pie[n].t0 + 2 * s.tu n)] s
  else s

/-- The standby applies the offsets it is sent (R136). -/
def takeOffsets (n : StageId) (v : List Rat) (s : State) : State :=
  if isStandby s then setOffsets n (nth v 0) (nth v 1) (nth v 2) (nth v 3) s else s

/-- The effect check of R134 on the first valid round after a change: undo, hold and report what was changed. A ζ_pk that is invalid in either
round takes no part (DESIGN CHOICE, log 143). While ADAPT_FREEZE holds every offset the check waits (R135). What is put back keeps to the
bounds and enables as they now stand. -/
def checkChange (n : StageId) (r : RoundFound) (s : State) : State :=
  match s.srv[n].undo with
  | none => s
  | some o =>
    if s.bit (Obj.SRV_CONFIG n) 2 then s else
    let v := s.srv[n]
    let s := s.modSurvey n fun v => { v with undo := none }
    let pk0 := nth o 4
    let worse := (decide (0 < pk0) && decide (0 < r.zetaPk) && decide (r.zetaPk < mkRat 4 5 * pk0)) || decide (r.zetaA < nth o 5)
    if !worse then s
    else
      let b := boundedBack s n o
      let vi := decide (nth b 0 ≠ v.dRad ∨ nth b 1 ≠ v.dXad)
      let kc := decide (nth b 2 ≠ v.dKc)
      let no := decide (nth b 3 ≠ v.dFn)
      let s := sendOffsets n (setOffsets n (nth b 0) (nth b 1) (nth b 2) (nth b 3) s)
      let s := s.modSurvey n fun v => { v with holdVi := v.holdVi || vi, holdNotch := v.holdNotch || no, holdKc := v.holdKc || kc }
      let s := if vi then (s.setBit (Obj.SRV_STATUS n) 5 true).log 0x2305 [n.val, 0] else s
      let s := if no then (s.setBit (Obj.SRV_STATUS n) 6 true).log 0x2305 [n.val, 1] else s
      if kc then (s.setBit (Obj.SRV_STATUS n) 7 true).log 0x2305 [n.val, 2] else s

/-- Table 6.1's proposals: ΔX_ad, ΔK_c, Δf_n and whether one is held at a bound. -/
def propose (s : State) (n : StageId) (r : RoundFound) : Rat × Rat × Rat × Bool :=
  let v := s.srv[n]
  let en (b : Nat) : Bool := s.bit (Obj.SRV_CONFIG n) b
  let tgt := milli (s.objI (Obj.SRV_ZETA_TARGET n))
  let stepX := milli (s.objI (Obj.SRV_XV_STEP n))
  let iso := s.objN (Obj.GFL_MP n) == 0
  let wantX := if !en 3 || v.holdVi || iso then v.dXad
    else if r.zetaA < tgt then r32 (v.dXad + stepX) else if tgt + mkRat 1 10 < r.zetaA then r32 (v.dXad - stepX) else v.dXad
  let maxX := milli (s.objI (Obj.SRV_XV_RANGE n))
  let x := clampR wantX 0 maxX
  let zm := milli (s.objI (Obj.SRV_RES_ZETA_MIN n))
  let stepK := milli (s.objI (Obj.SRV_KC_STEP n))
  let pkOk := decide (0 < r.zetaPk)
  let wantK := if !en 5 || v.holdKc || !pkOk || !s.bit (Obj.GFL_CONFIG n) 5 then v.dKc
    else if r.zetaPk < zm then r32 (v.dKc + stepK) else if 2 * zm < r.zetaPk then r32 (v.dKc - stepK) else v.dKc
  let maxK := milli (s.objI (Obj.SRV_KC_RANGE n))
  let k := clampR wantK 0 maxK
  let fr := resonance s n
  let wantF := if !en 4 || v.holdNotch || !pkOk || !s.bit (Obj.GFL_CONFIG n) 4 then v.dFn
    else r32 (v.dFn + clampR (r.fPk - notchCfg s n - v.dFn) (-(fr / 50)) (fr / 50))
  let maxF := r32 (mkRat (s.objI (Obj.SRV_NOTCH_RANGE n)) 100 * fr)
  let f := clampR wantF (-maxF) maxF
  let moved (want now top : Rat) : Bool := decide (want ≠ now ∨ now ≠ 0) && (decide (want < 0) || decide (top ≤ want))
  let bound := moved wantX v.dXad maxX || moved wantK v.dKc maxK || (decide (maxF ≤ absR wantF) && decide (wantF ≠ 0))
  (x, k, f, bound)

/-- Adaptation after a valid round (R132, R133). -/
def adapt (n : StageId) (r : RoundFound) (s : State) : State :=
  if !s.bit (Obj.SRV_CONFIG n) 1 || s.bit (Obj.SRV_CONFIG n) 2 then s
  else
    let v := s.srv[n]
    let (x, k, f, bound) := propose s n r
    let rAd := if x = v.dXad then v.dRad else followR s n x
    let s := s.setBit (Obj.SRV_STATUS n) 3 bound
    let e := envelope s n rAd x f s.freeReal
    let s := s.draw
    match e.fails with
    | c :: _ => (s.setBit (Obj.SRV_STATUS n) 4 true).log 0x2304 [n.val, c]
    | [] =>
      let s := s.setBit (Obj.SRV_STATUS n) 4 false
      if x = v.dXad ∧ k = v.dKc ∧ f = v.dFn then s
      else
        let old := [v.dRad, v.dXad, v.dKc, v.dFn]
        let s := setOffsets n rAd x k f s
        let s := s.modSurvey n fun v => { v with undo := some (old ++ [r.zetaPk, r.zetaA]) }
        let s := sendOffsets n s
        s.log 0x2302 ([(n.val : Rat)] ++ old ++ [rAd, x, k, f])

/-- R129 to R134: a round completes at the end of its last chip, `instant`. In duplex only the active module evaluates it (R136). -/
def execSurveyRoundComplete (n : StageId) (instant : Nat) (s : State) : Res :=
  .next (s.on (.pier n) fun s =>
    let v := s.srv[n]
    let len := (1 + v.cfg.getD 1 0) * 4095 * chipDiv s n * s.tu n
    if !v.active || decide (s.now < instant) || decide (instant < v.startedAt.getD s.now + len) then s
    else
      let m := measureRound s n
      let s := roundOver n s
      if isStandby s then s
      else
        let up := surveyUpper s n
        let coh := mkRat (v.cfg.getD 2 0 : Nat) 1000
        let ps := (List.range 32).map fun i => surveyPoint coh up (nth surveyFreqs i) (m.points.getD i (0, 0, 0))
        let s := reportPoints n ps (s.setR (Obj.SRV_F_UPPER n) up)
        let s := s.bump (Obj.SRV_ROUND_COUNT n)
        let zpk := if m.peakInside && decide (0 < m.fPeak) then r32 (m.bandwidth / (2 * m.fPeak)) else 0
        let s := (s.setR (Obj.SRV_F_PEAK n) m.fPeak).setR (Obj.SRV_ZETA_PEAK n) zpk
        match surveyFit (s.fb n) (ps.filterMap id) with
        | none => (s.setBit (Obj.SRV_STATUS n) 1 false).log 0x2301 [n.val, 0, 0, zpk]
        | some (rs, xs) =>
          let s := ((s.setBit (Obj.SRV_STATUS n) 1 true).setR (Obj.SRV_Z1_R n) rs).setR (Obj.SRV_Z1_X n) xs
          let own := milli (s.objI (Obj.GFL_XV n)) + v.dXad + milli (s.objI (Obj.GFL_L2 n))
          let xp := if v.cfg.getD 3 0 = 0 then own else mkRat (v.cfg.getD 3 0 : Nat) 1000
          let nEst := if xs = 0 then s.freeReal else r32 (1 + xp / xs)
          let za := zetaSwing s n xs (Config.freeReal (s.free + 1))
          let s := s.draw.draw
          let s := ((s.setR (Obj.SRV_N_EST n) nEst).setR (Obj.SRV_ZETA_SWING n) za).log 0x2301 [n.val, rs, xs, zpk]
          let old := s.objN (Obj.SRV_N_PARALLEL n)
          let new_ := (clampI (roundHalfUp nEst) 1 32).toNat
          let s := if new_ = old then s else (s.setN (Obj.SRV_N_PARALLEL n) new_).log 0x230A [n.val, old, new_]
          let f : RoundFound := ⟨zpk, za, m.fPeak⟩
          let s := adapt n f (checkChange n f s)
          s.modSurvey n fun v => { v with zetaPk := zpk, zetaA := za })

/-! ### The canary -/

/-- Whether residual j applies to a stage's type (Table 6.3). -/
def residualApplies (t : SType) (j : Nat) : Bool :=
  match j with
  | 0 => true
  | 1 => t == .gfi || t == .afe
  | 2 => true
  | 3 => t == .gfi || t == .afe || t == .mot
  | 4 => true
  | _ => t == .mot

/-- How many of a type's PLANT outputs are phase currents, the first of them (R137; DESIGN CHOICE, log 133): three legs of an AFE or MOT stage,
else one. -/
def plantCurrents (t : SType) : Nat := if t == .afe || t == .mot then 3 else 1

/-- What the graph's PLANT block predicted of this sample: its committed outputs (R137). -/
def plantOutputs (s : State) (n : StageId) : List Rat :=
  match s.pie[n].blocks.find? fun b => b.spec.code == 0x0013 with
  | some b => b.outs.map fun o => o.getD 0
  | none => []

/-- The prediction errors of the inductor currents by phase: of a GFI stage from L1, u and v of the sample before, of any other by its PLANT
block (R137, Table 6.3 IL). -/
def currentErrors (s : State) (n : StageId) (smp : Sample) (q : LawParams) : List Rat :=
  let v := s.srv[n]
  if s.isGfi n then
    let e := invClarke (Vec.fma (-(fdiv (fmul q.wb q.tu) q.l1)) (v.prevU.sub v.prevVc) ((clarke smp.iL).sub v.prevIL))
    [absR e.a, absR e.b, absR e.c]
  else (List.range (plantCurrents (s.stype n))).map fun i => absR (fsub (nth smp.measured i) (nth (plantOutputs s n) i))

/-- The largest error of a block of the PLANT's outputs. -/
def plantError (s : State) (n : StageId) (smp : Sample) (from_ count : Nat) : Rat :=
  (List.range count).foldl (fun m i => maxR m (absR (fsub (nth smp.measured (from_ + i)) (nth (plantOutputs s n) (from_ + i))))) 0

/-- VDC of Table 6.3 over an outer step: the link's power by its voltage against the power measured, per S_b. -/
def linkResidual (s : State) (n : StageId) (smp : Sample) (tOut : Rat) : Rat :=
  match s.srv[n].prevVdc with
  | none => 0
  | some v0 =>
    let rated := s.objR (Obj.FRT_LINK_RATED n)
    let c := r32 (mkRat (s.objI (Obj.FRT_LINK_C n)) 1000000)
    let p := fdiv (fmul (fmul c (fmul smp.vdc rated)) (fdiv (fmul (fsub smp.vdc v0) rated) tOut)) (stageBases s n).s
    absR (fsub p (fsub smp.pIn smp.pOut))

/-- CMD of Table 6.3: per leg, phase-sense voltage against duty × V_dc, the largest. -/
def commandResidual (s : State) (n : StageId) (smp : Sample) : Rat :=
  smp.phase.zipIdx.foldl (fun m e => maxR m (absR (fsub e.1 (fmul (nth s.pie[n].duties e.2) smp.vdc)))) 0

/-- The raw residuals of a sample (Table 6.3). -/
def residualsOf (s : State) (n : StageId) (smp : Sample) (q : LawParams) (tOut : Rat) : List Rat :=
  let v := s.srv[n]
  let gfi := s.isGfi n
  let iN := if q.fourLeg then smp.iN else 0
  let il := if gfi then (Vec.fma (-(fdiv (fmul q.wb q.tu) q.l1)) (v.prevU.sub v.prevVc) ((clarke smp.iL).sub v.prevIL)).mag
    else (currentErrors s n smp q).foldl maxR 0
  let vc := if gfi then (Vec.fma (-(fdiv (fmul q.wb q.tu) q.cf)) (v.prevIL.sub v.prevIo) ((clarke smp.vc).sub v.prevVc)).mag
    else plantError s n smp 3 3
  let sum := absR (fsub (fadd (fadd smp.iL.a smp.iL.b) smp.iL.c) iN)
  [il, vc, linkResidual s n smp tOut, sum, commandResidual s n smp, plantError s n smp 3 1].zipIdx.map fun (x, j) =>
    if residualApplies (s.stype n) j then x else 0

/-- The SAR input of a phase: FRT_I_CH of a GFI stage, else the graph's inputs in order. -/
def phaseInput (s : State) (n : StageId) (j : Nat) : Option AdcId :=
  if s.isGfi n then idOf 24 (s.objN (Obj.FRT_I_CH n j))
  else match s.pie[n].graph with | some g => (graphSar g)[j]? | none => none

/-- The phase with the largest IL prediction error (Table 6.4). -/
def worstPhase (s : State) (n : StageId) (smp : Sample) (q : LawParams) : Option AdcId :=
  let es := (currentErrors s n smp q).zipIdx
  let worst : Option Nat := match es with
    | [] => none
    | e :: t => some (t.foldl (fun (b x : Rat × Nat) => if b.1 < x.1 then x else b) e).2
  worst.bind (phaseInput s n)

/-- The conditions of R138 that hold every residual of a sample; a sample that overruns never reaches its post phase. -/
def canaryHeld (s : State) (n : StageId) : Bool :=
  levelOne s n || s.pie[n].tripped || ((stageChans s n).any fun c => s.bit (Obj.EDG_CH_STATUS c) 3) || decide (s.stg[n].sinceEntry < 2)

/-- Whether the outer part of a stage's law steps in its present sample; a stage without one has a step in every sample (R51). -/
def outerSample (s : State) (n : StageId) : Bool := !s.isGfi n || decide (s.pie[n].k % 2 ^ s.objN (Obj.GFL_OUTER_DIV n) = 0)

/-- What the canary takes from a sample (R137, R138), for its step in the post phase. -/
def canaryTake (s : State) (n : StageId) (smp : Sample) (q : LawParams) : CanaryIn :=
  let all := canaryHeld s n
  { residuals := residualsOf s n smp q (if s.isGfi n then q.tOut else q.tu)
    held := [0, 1, 2, 3, 4, 5].map fun (j : Fin 6) => all || smp.marked.contains j || (j == 2 && !outerSample s n)
    worst := worstPhase s n smp q }

/-- The measured state that the next sample's residuals start from (R137); `u`: command of the committed set in force. -/
def canaryKeep (n : StageId) (smp : Sample) (u : Vec) (s : State) : State :=
  let outer := outerSample s n
  s.modSurvey n fun v => { v with
    prevIL := clarke smp.iL, prevVc := clarke smp.vc, prevIo := clarke smp.io, prevU := u
    prevVdc := if outer then some smp.vdc else v.prevVdc }

/-- One residual's filter, warning and persistence (R139). -/
def residualStep (n : StageId) (j : Fin 6) (r : Rat) (s : State) : State :=
  let old := s.objR (Obj.SRV_CAN_RES n j)
  let tc : Rat := (s.objN (Obj.SRV_CAN_TC n) : Nat)
  let rho := r32 (old + (r - old) / tc)
  let warn := mkRat (s.objI (Obj.SRV_CAN_WARN n j)) 1000
  let act := mkRat (s.objI (Obj.SRV_CAN_ACT n j)) 1000
  let s := s.setR (Obj.SRV_CAN_RES n j) rho
  let v := s.srv[n]
  let starts := !v.warned[j] && decide (warn < rho)
  let s := if starts then s.log 0x2307 [n.val, j.val + 1, rho] else s
  let on := starts || (v.warned[j] && decide (mkRat 4 5 * warn ≤ rho))
  let above := if act < rho then v.above[j] + 1 else 0
  s.modSurvey n fun v => { v with
    warned := v.warned.set j on, above := v.above.set j above,
    acted := v.acted.set j (v.acted[j] && decide (above ≠ 0)) }

/-- S and CANARY_PASS over the last SRV_ARB_WINDOW updated samples (R141). -/
def scoreStep (n : StageId) (s : State) : State :=
  let one (j : Nat) : Rat :=
    let act := s.objI (Obj.SRV_CAN_ACT n j)
    if residualApplies (s.stype n) j && decide (0 < act) then r32 (s.objR (Obj.SRV_CAN_RES n j) / mkRat act 1000) else 0
  let now := (List.range 6).foldl (fun m j => maxR m (one j)) 0
  let l := (now :: s.srv[n].scores).take (s.objN (Obj.SRV_ARB_WINDOW n))
  let top := l.foldl maxR 0
  let s := s.modSurvey n fun v => { v with scores := l }
  (s.setR (Obj.SRV_CAN_SCORE n) top).setBit (Obj.SRV_STATUS n) 11 (decide (top < 1))

/-- The canary's step in the post phase of a sample (R139, R141): each residual that nothing holds is updated. -/
def canaryStep (n : StageId) (c : CanaryIn) (s : State) : State :=
  let upd (j : Fin 6) : Bool := residualApplies (s.stype n) j.val && !(c.held.getD j.val true)
  let s := [0, 1, 2, 3, 4, 5].foldl (fun s (j : Fin 6) => if upd j then residualStep n j (nth c.residuals j.val) s else s) s
  let s := if [0, 1, 2, 3, 4, 5].any upd then scoreStep n s else s
  let s := s.modSurvey n fun v => { v with worst := c.worst }
  s.setBit (Obj.SRV_STATUS n) 8 (s.srv[n].warned.toList.any id)

/-- The reaction to SAFE, with the module to STOP for code 4; in duplex it starts arbitration instead (R141). -/
def canarySafe (n : StageId) (stop : Bool) (s : State) : State :=
  if isDuplex s then arbStart n 0x2308 s
  else
    let s := stageSafe n 0x2308 s
    if stop then demandStop (.fault 0x2308) s else s

/-- The reaction of one residual (Table 6.4), carried out at a commit. -/
def canaryReact (n : StageId) (s : State) (j : Fin 6) : State :=
  let react := s.objN (Obj.SRV_CAN_REACT n j)
  if react ≤ 1 then s
  else if react = 2 then
    match s.srv[n].worst with
    | some c =>
      if hasSubstitute s c then
        ((substitute c 0x2309 s).setBit (Obj.SRV_STATUS n) 10 true).log 0x2309 [n.val, c.val + 1]
      else canarySafe n false s
    | none => canarySafe n false s
  else canarySafe n (react == 4) s

/-- The reactions that wait for a commit (R140). -/
def canaryReactions (n : StageId) (s : State) : State :=
  let due := s.srv[n].due
  due.foldl (canaryReact n) (s.modSurvey n fun v => { v with due := [] })

/-- The arbitration window in core cycles (R141). -/
def arbWindow (s : State) (n : StageId) : Nat := s.objN (Obj.SRV_ARB_WINDOW n) * s.tu n

/-- The residuals of a stage that have reached act within the arbitration window. -/
def actedLately (s : State) (n : StageId) : List (Fin 6) :=
  (s.srv[n].actedAt.filter fun e => decide (s.since e.1 ≤ arbWindow s n)).map (·.2)

/-- R139, R140: a residual has stood above its act threshold for SRV_CAN_PERSIST updated samples; the next commit carries its reaction out.
CANARY_ACT is set by the codes above 0 and stands until a restart, the spec naming nothing that clears it (DESIGN CHOICE, log 144). -/
def execCanaryAct (n : StageId) (j : Fin 6) (s : State) : Res :=
  .next (s.on (.pier n) fun s =>
    let v := s.srv[n]
    if !s.dispatching n || v.acted[j] || decide (v.above[j] < s.objN (Obj.SRV_CAN_PERSIST n)) then s
    else
      let react := s.objN (Obj.SRV_CAN_REACT n j)
      let s := s.modSurvey n fun v => { v with
        acted := v.acted.set j true, due := v.due ++ [j], actedAt := (s.now, j) :: v.actedAt.filter fun e => e.2 != j }
      let s := s.log 0x2308 [n.val, j.val + 1, react]
      if react = 0 then s else s.setBit (Obj.SRV_STATUS n) 9 true)

end Sys2Proof.Machine
end

