-- ==== Sys2Proof/Machine/ThermalOps.lean ====
section
/-!
DEFINITION. Thermal throttling as the piers see it (R31, R449, Table 19.6).
-/

namespace Sys2Proof.Machine

def State.modSup (s : State) (f : SupplySt → SupplySt) : State := { s with sup := f s.sup }

/-- Throttle step 3 stands: SVM MODE 2 (Table 19.6). -/
def svmReduced (s : State) : Bool := decide (3 ≤ s.objN Obj.THM_THROTTLE_STEP)

/-- A stage's graph has an SVM block (Table 7.7). -/
def hasSvm (s : State) (n : StageId) : Bool := s.pie[n].blocks.any fun b => b.spec.code == 0x0011

/-- A stage's output is held by thermal throttling (Table 2.2): step 3, on the stages it names. -/
def throttled (s : State) (n : StageId) : Bool :=
  svmReduced s && (s.isGfi n || (s.stype n == .mot && hasSvm s n))

/-- On a MOT stage step 3 runs every SVM block with MODE 2 (Table 19.6). -/
def reduceSvm (s : State) (n : StageId) (bs : List BlockSt) : List BlockSt :=
  if svmReduced s && s.stype n == .mot then
    bs.map fun b => if b.spec.code = 0x0011 then { b with params := b.params.set 0 (.int 2) } else b
  else bs

end Sys2Proof.Machine
end

