-- ==== Sys2Proof/Machine/Pier.lean ====
section
/-!
DEFINITION. Chapter 7: a pier's sample from dispatch to post commit (R155 to R164), voided samples (R160, R161), self-tests
(R149, R150), block-state resets (R170), and the one sample of the forming law that joins chapters 3 to 6 (R51 to R64).
-/

namespace Sys2Proof.Machine

/-- d_L = ⌊T_u × PIE_DEADLINE / 100⌋ (R155). -/
def deadline (s : State) (p : StageId) : Nat := s.tu p * s.objN (Obj.PIE_DEADLINE p) / 100

/-- The shortest dispatch offset D (R155, Table 1.6). -/
def dispatchBase : Nat := 296

/-! ### Voided samples -/

/-- What a sample changes outside its working bank, before it is computed. -/
def undoOf (s : State) (p : StageId) : SampleUndo :=
  let q := s.pie[p]
  ⟨s.shr[p], s.frt[p].decay, [q.fClamp, q.eClamp, q.negClamp, q.nClamp, q.restClamp]⟩

/-- A voided sample takes back what it has stepped of ramp, restoration and limiter; what arrived meanwhile stands. What the sample has detected
of a fault, and the events it has logged, stand (DESIGN CHOICE, log 131). -/
def undoSample (p : StageId) (u : SampleUndo) (s : State) : State :=
  let h := s.shr[p]
  let applied := u.share.anchor.isSome && h.anchor.isNone
  let s := if applied then s.setN (Obj.SHR_ANCHOR_COUNT p) (s.objN (Obj.SHR_ANCHOR_COUNT p) - 1) else s
  let s := s.modShare p fun h =>
    { h with
      rampLast := if h.rampFrom = u.share.rampFrom then u.share.rampLast else h.rampLast
      ramping := if h.rampFrom = u.share.rampFrom then u.share.ramping else h.ramping
      winStart := u.share.winStart, winSum := u.share.winSum, winCount := u.share.winCount, winBad := h.winBad || u.share.winBad
      anchor := if h.anchor.isSome then h.anchor else u.share.anchor
      joining := u.share.joining, okSince := u.share.okSince }
  let s := (s.setBit (Obj.SHR_STATUS p) 6 s.shr[p].ramping).setBit (Obj.SHR_STATUS p) 3 s.shr[p].joining
  let s := s.modRide p fun f => { f with decay := if f.decay.isSome then f.decay else u.decay }
  let held (i : Nat) : Bool := u.clamps.getD i false
  s.modPier p fun q => { q with fClamp := held 0, eClamp := held 1, negClamp := held 2, nClamp := held 3, restClamp := held 4 }

/-- A sample is voided (R160); causes 1 overrun, 2 non-finite, 3 memory, 4 set discarded. The limit acts under R161. -/
def voidSample (p : StageId) (cause : Nat) (s : State) : State :=
  let s := match s.pie[p].work with | some w => undoSample p w.undo s | none => s
  let s := s.modPier p fun q => { q with work := none, post := none, postDone := true, provisional := false, overrunRun := q.overrunRun + 1 }
  let s := (s.setBit (Obj.PIE_STATUS p) 2 true).setBit (Obj.PIE_STATUS p) 4 false
  let s := edgeCancelProvisional p s
  let s := (s.bump (Obj.PIE_OVERRUN_COUNT p)).setN (Obj.PIE_OVERRUN_RUN p) s.pie[p].overrunRun
  let s := galMiss p s.pie[p].k (galFlag p 8 (s.log 0x2401 [p.val, cause, s.pie[p].k]))
  let s := dueSelftest p (endPulses p s)
  if s.objN (Obj.PIE_OVERRUN_LIMIT p) ≤ s.pie[p].overrunRun then overrunLimit p s else s

/-- A committed set has not been accepted: the next one carries its tally again, and nothing of it is under way (R157). -/
def setReturned (p : StageId) (s : State) : State := s.modPier p fun q => { q with tally := (q.tally + 255) % 256, out := none }

/-- The edge island discards a set (R157): event 0x2404, and the sample is voided with the banks before its commit. -/
def discardSet (p : StageId) (why : Nat) (k : Nat) (s : State) : State :=
  let s := setReturned p (s.log 0x2404 [p.val, why, k])
  let s := match s.pie[p].before with
    | some b => undoSample p b.undo (s.modPier p fun q => { q with law := b.law, blocks := b.blocks, work := none, before := none })
    | none => s
  voidSample p 4 s

/-! ### One sample of the forming law -/

/-- What one pass of the law over a sample gives. -/
structure LawPass where
  law : Law
  duties : List Rat
  io : Rat
  flags : InnerFlags
  outer : Option OuterFlags
  limited : Bool
  eff : List Rat
deriving DecidableEq, Repr

/-- Filters of R56 on a sample. -/
def powerFilters (q : LawParams) (l : Law) (smp : Sample) (frozen : Bool) : Law :=
  if frozen then l
  else
    let v := clarke smp.vc
    let i := clarke smp.io
    { l with pF := lpf l.pF (fma v.x i.x (fmul v.y i.y)) q.tP q.tu, qF := lpf l.qF (fma v.y i.x (-(fmul v.x i.y))) q.tQ q.tu }

/-- θ at sample k (R51, R53): θ_j advanced at the speed in force since the last outer step; an outer step takes it over. -/
def advanceAngle (q : LawParams) (k : Nat) (outer : Bool) (l : Law) : Law :=
  let d := angleStep q.fb l.omega (q.tu * ((k - l.kJ : Nat) : Rat))
  let th := addAngle l.thetaJ d
  if outer then { l with theta := th, thetaJ := th, kJ := k, turns := l.turns + ((l.thetaJ : Int) + d).toNat / 4294967296 }
  else { l with theta := th }

/-- The outer part at an outer step, with restoration (R76 to R80), synchronising (R89, R91) and the coasting shift
(R112); under a safe stop r becomes min(r, s) (R369). -/
def outerPart (n : StageId) (q : LawParams) (smp : Sample) (l : Law) (s : State) : Law × OuterFlags × State :=
  let (l, s) := restoration n l s
  let (l, s) := syncStep n l s
  let dp := coastShift n smp.vdc l.dPc s
  let s := s.setR (Obj.FRT_DELTA_P_COAST n) dp
  let (l', f) := outerStep q { l with dPc := dp, r := minR l.r (ssdFactor s n) }
  ({ l' with r := l.r }, f, s)

/-- R_e, X_e, K_c and f_n in use (R71). -/
def effective (q : LawParams) (l : Law) : List Rat := [fadd q.rv l.dRlim, fadd q.xv l.dXlim, q.kc, q.fn]

/-- One pass of the law over a sample. `frozen`: filters, shift and limiter stand up to clear detection; `hold`: the integrators stand until
ride-through ends (R106, R108). -/
def lawPass (n : StageId) (smp : Sample) (frozen hold : Bool) (s : State) : LawPass × State :=
  let q := lawParams s n
  let k := s.pie[n].k
  let outer := decide (k % 2 ^ q.div = 0)
  let half := fmul q.vHalf smp.vdc
  let l := { s.pie[n].law with u := uOfDuties s.pie[n].duties half }
  let l := separate q l (clarke smp.vc) (clarke smp.io)
  let l := powerFilters q l smp frozen
  let (l, s) := rampStep n l s
  let l := advanceAngle q k outer l
  let (l, fo, s) := if outer then (let (l, f, s) := outerPart n q smp l s; (l, some f, s)) else (l, none, s)
  let io := sumCurrent q l (zeroOf smp.io)
  let (dx, decay) := viLimit q io l.dXlim s.frt[n].decay s.now frozen
  let s := s.modRide n fun f => { f with decay := decay }
  let l := { l with dXlim := dx, dRlim := if q.viXr = 0 then 0 else fdiv dx q.viXr }
  let (l, cmd, zn, fl) := innerStep q l smp hold (injection s n)
  let duties := modulate (if svmReduced s then 2 else 1) cmd zn q.fourLeg half
  (⟨l, duties, io, { fl with finite := fl.finite && decide (half ≠ 0) }, fo, decay.isSome, effective q l⟩, s)

/-- A sample of a stage in ARMED: the law stands at its initial values (R65); the measured sequences and the differences to the line are
reported (R71, R75). -/
def armedPass (n : StageId) (smp : Sample) (s : State) : LawPass × State :=
  let q := lawParams s n
  let l := { separate q s.pie[n].law (clarke smp.vc) (clarke smp.io) with v0 := zeroOf smp.vc }
  let outer := decide (s.pie[n].k % 2 ^ q.div = 0)
  let s := if outer then publishDiffs n (diffsOf s n l) s else s
  (⟨l, [], 0, ⟨0, false, false, false, 0, false, 0, true⟩, if outer then some ⟨false, false, 0, false⟩ else none, false, effective q l⟩, s)

/-- Events and status bits at entry into the law's clamps (R55, R57, R63, R64). -/
def lawEvents (n : StageId) (r : LawPass) (s : State) : State :=
  let p := s.pie[n]
  let s := match r.outer with
    | none => s
    | some f =>
      let s := (s.setBit (Obj.GFL_STATUS n) 0 f.fClamp).setBit (Obj.GFL_STATUS n) 1 f.eClamp
      let s := if f.fClamp && !p.fClamp then s.log 0x2001 [n.val, r.law.omega] else s
      let s := if f.eClamp && !p.eClamp then s.log 0x2002 [n.val, f.eRaw] else s
      let s := if f.fClamp || f.eClamp then suspend n 16 s else s
      s.modPier n fun q => { q with fClamp := f.fClamp, eClamp := f.eClamp }
  let s := (s.setBit (Obj.GFL_STATUS n) 2 r.flags.negClamp).setBit (Obj.GFL_STATUS n) 3 r.flags.nClamp
  let s := if r.flags.negClamp && !p.negClamp then s.log 0x2004 [n.val, r.flags.negDemand] else s
  let s := if r.flags.nClamp && !p.nClamp then s.log 0x2005 [n.val, r.flags.nDemand] else s
  let s := (s.setBit (Obj.FRT_STATUS n) 3 r.flags.level2).setBit (Obj.FRT_STATUS n) 4 r.flags.level3
  let s := s.setBit (Obj.FRT_STATUS n) 5 (levelOne s n)
  s.modPier n fun q => { q with negClamp := r.flags.negClamp, nClamp := r.flags.nClamp }

/-- The law over one sample of a stage in RUN or LIMIT: a first pass shows whether ride-through is entered; where it is,
the sample is computed as one of the ride (R105, R106). -/
def gfiSample (n : StageId) (smp : Sample) (s : State) : LawPass × State :=
  let s0 := budgetAdvance n s
  let f := s0.frt[n]
  let (r, s1) := lawPass n smp (budgetFalls f) f.riding s0
  let v := rideView s1 n r.law r.flags.level3 (levelOne s1 n) r.io
  if !f.riding && decide (v.cause ≠ 0) && rideActs s0 n && s0.bit (Obj.FRT_CONFIG n) 2 then
    let (r, s2) := lawPass n smp true true (s0.modRide n fun f => { f with riding := true, clearAt := none })
    (r, rideEnter n v (lawEvents n r s2))
  else (r, rideStep n v r.limited r.law.dXlim (lawEvents n r s1))

/-- Entry into LIMIT in the first sample with a limiter active, and the time of the last such sample (R32); a GFI stage's window is then
suspended (R79). -/
def limitStep (n : StageId) (active : Bool) (s : State) : State :=
  if !active then s
  else if s.stageSt n = .run then
    let s := if s.isGfi n then suspend n 2 s else s
    s.modStage n fun c => { c with st := .limit, lastLimit := s.now }
  else if s.stageSt n = .limit then s.modStage n fun c => { c with lastLimit := s.now }
  else s

/-- R32: 2 ms without an active limiter return a stage from LIMIT to RUN. -/
def execStageLimitExit (n : StageId) (s : State) : Res :=
  .next (s.on (.pier n) fun s =>
    if s.stageSt n = .limit ∧ 2 * cyclesMs ≤ s.since s.stg[n].lastLimit then s.modStage n fun c => { c with st := .run } else s)

/-! ### Dispatch -/

/-- By how much the limit of a stage other than GFI is scaled: the safe-stop factor (R369), a paused power limit (R113, R115), and the
input-current limit on its way up (R114). -/
def limitFactor (s : State) (n : StageId) : Rat :=
  let f := s.frt[n]
  fmul (fmul (r32 (ssdFactor s n)) f.powerLimit) (match f.ramp with | some g => r32 (g.at_ s.now) | none => 1)

/-- The LIMIT instance named in SAF_SSD_LIMIT with its lo and hi scaled, or held at a buffering stage's power reference (R113, R369); the spec
names no other place in a graph for power limit, power reference and input-current limit (DESIGN CHOICE, log 134). -/
def scaleLimit (s : State) (n : StageId) (bs : List BlockSt) : List BlockSt :=
  if s.isGfi n then bs
  else
    let k := limitFactor s n
    bs.modify (s.objN (Obj.SAF_SSD_LIMIT n)) fun b =>
      if b.spec.code ≠ 0x0003 then b
      else match s.frt[n].powerRef with
        | some p => let v : Val := .real (fmul k p); { b with params := [v, v] }
        | none => if k = 1 then b else { b with params := b.params.map fun v => .real (fmul k v.toRat) }

/-- A MOT stage that has buffered returns to its speed control with its speed reference ramped from the present speed (R115): its first RATE
block starts from the speed measured (DESIGN CHOICE, log 134). -/
def returnSpeed (p : StageId) (smp : Sample) (s : State) : State :=
  if !s.frt[p].speedDue then s
  else
    let s := s.modRide p fun f => { f with speedDue := false }
    match s.pie[p].blocks.findIdx? fun b => b.spec.code == 0x0004 with
    | some i => s.modPier p fun q => { q with blocks := q.blocks.modify i fun b => { b with states := [sig (nth smp.measured 3)] } }
    | none => s

/-- The check of the last post phase at a dispatch (R162). -/
def postCheck (p : StageId) (s : State) : State :=
  if s.pie[p].postDone then s.modPier p fun q => { q with postRun := 0, postDone := false }
  else
    let k := match s.pie[p].post with | some w => w.k | none => s.pie[p].k
    let s := s.modPier p fun q => { q with post := none, provisional := false, postRun := q.postRun + 1 }
    let s := (s.setBit (Obj.PIE_STATUS p) 4 false).bump (Obj.PIE_POST_OVERRUN_COUNT p)
    let s := galMiss p k (s.logOnce 0x2407 p.val [p.val])
    if 100 ≤ s.pie[p].postRun then stageSafe p 0x2407 s else s

/-- A block instance's parameters from their dictionary values (R147). -/
def reloadParams (p : StageId) (inst : Nat) (s : State) : State :=
  s.modPier p fun q => { q with blocks := q.blocks.modify inst fun b =>
    { b with params := (List.range b.spec.params.length).map fun j =>
        match cellGet ((0x6000 + 0x1000 * p.val + inst) * 256 + 0x10 + j) s.objs with
        | some v => v
        | none => b.spec.params.getD j (.int 0) } }

/-- A block instance starts again from its initial state (R147). -/
def reinitBlock (p : StageId) (inst : Nat) (s : State) : State :=
  s.modPier p fun q => { q with blocks := q.blocks.modify inst fun b => { b with states := blockInit b.spec, status := setBitsAt b.status 3 1 1 } }

/-- What a faulty word does: a corrected one is counted, an uncorrectable one voids the sample or fences the pier (R147). -/
def memFault (p : StageId) (m : MemFault) (s : State) : State :=
  match m with
  | .corrected => s.bump (Obj.PIE_ECC_CORRECTED p)
  | .code => fence (.pier p) s
  | .param a i => reloadParams p i (voidSample p 3 (s.log 0x2405 [p.val, a, i]))
  | .state a i => reinitBlock p i (voidSample p 3 (s.log 0x2405 [p.val, a, i]))

/-- A command waiting at a pier (Table 1.5): stage-state change, parameter write, restoration step, adaptation offsets, and a partner's input. -/
def applyPierCmd (p : StageId) (b : Payload) (s : State) : State :=
  match b with
  | .stageState n st => if n = p then takeStageState p st s else s
  | .paramWrite n key v => if n = p then applyWrite p s (key, v) else s
  | .anchorStep n => if n = p then takeAnchor p s else s
  | .offsets n v => if n = p then takeOffsets p v s else s
  | .partnerInput lost => partnerInput p lost s
  | _ => s

/-- The deferred commands held for a pier are applied at its next sample, in arrival order (R19, Table 1.5). -/
def takeDeferred (p : StageId) (s : State) : State :=
  let mine := s.isl.held.filter fun h => h.cmd.dst == .pier p && h.deferred
  let s := s.modIsl fun i => { i with held := i.held.filter fun h => !(h.cmd.dst == .pier p && h.deferred) }
  mine.foldl (fun s h => applyPierCmd p h.cmd.body s) s

/-- The law of a GFI stage over a sample, by its state; none for any other stage. -/
def lawSample (p : StageId) (smp : Sample) (s : State) : Option LawPass × State :=
  if !s.isGfi p then (none, s)
  else if s.switching p then (let (r, s) := gfiSample p smp s; (some r, s))
  else (let (r, s) := armedPass p smp s; (some r, s))

/-- A non-finite value voids the sample (R154); the fixed law, which has no block instances, is named as instance 0 (DESIGN CHOICE, log 145). -/
def nonfinite (p : StageId) (inst : Nat) (u : SampleUndo) (s : State) : State :=
  voidSample p 2 (undoSample p u ((s.setBit (Obj.PIE_STATUS p) 8 true).log 0x2403 [p.val, inst, s.pie[p].k]))

/-- A tag of the deck as an INPUT block takes it (R308, R310). -/
def tagInput (s : State) (t : Nat) : InVal :=
  let q := tagQuality s t
  let v : Option Rat := match findTag s t with
    | some x => (match tagVal x.defn.type (settledTag s x).1 with | .nonfinite => none | v => some v.toRat)
    | none => some 0
  ⟨v, bitsAt q 0 1 == 1, false, false, bitsAt q 5 1 == 1⟩

/-- What an INPUT block takes from its source at a dispatch (R235, R253). A chain read at its sample instant that has no output stamped with it
gives its latest, without trust (DESIGN CHOICE, log 159). -/
def inputVal (s : State) (p : StageId) (x : InputSrc) : InVal :=
  match x with
  | .sar c => match s.acq.adc[c].result with | some r => resultVal s r | none => noResult s
  | .chainLatest c => match s.acq.chain[c].outs with | r :: _ => resultVal s r | [] => noResult s
  | .chainAt c =>
    let outs := s.acq.chain[c].outs
    match outs.find? (fun r => r.stamp == s.pie[p].t0), outs with
    | some r, _ => resultVal s r
    | none, r :: _ => { resultVal s r with bad := true }
    | none, [] => { noResult s with bad := true }
  | .tag t => tagInput s t
  | .partner => noResult s

/-- An INPUT block whose value crosses the link (R408, R410). -/
def fromPartner (s : State) : InputSrc → Bool
  | .partner => true
  | .sar c => takenFromPartner s c
  | _ => false

/-- The values of a graph's INPUT blocks in instance order; those of the partner come with the sample (R408, R410). -/
def inputVals (s : State) (p : StageId) : List InputSrc → List InVal → List InVal
  | [], _ => []
  | x :: t, ps =>
    if fromPartner s x then ps.headD (noResult s) :: inputVals s p t ps.tail else inputVal s p x :: inputVals s p t ps

/-- The INPUT blocks' values of a sample. -/
def sampleInputs (s : State) (p : StageId) (smp : Sample) : List InVal :=
  match s.pie[p].graph with | some g => inputVals s p g.inputs smp.partner | none => []

/-- Dispatch of a stage that is to be computed: law and graph into a working bank (R155, R156). -/
def computeSample (p : StageId) (smp : Sample) (s0 : State) : State :=
  let q := s0.pie[p]
  let run := s0.switching p
  let undo := undoOf s0 p
  let canary := canaryTake s0 p smp (lawParams s0 p)
  let (r, s) := lawSample p smp s0
  if s.stageSt p = .safe then s
  else
    let tu := s.tuSec p
    let ids := List.range q.blocks.length
    let ins := sampleInputs s0 p smp
    let bs := runBlocks tu (s.fb p) q.k false ids (reduceSvm s p (scaleLimit s p q.blocks)) ins
    let bs := runBlocks tu (s.fb p) q.k true ids bs ins
    let bs := (bs.zip q.blocks).map fun (b, o) => { b with params := o.params }
    let duties := match r with | some r => r.duties | none => outputDuties bs
    let lawBad := match r with | some r => run && !r.flags.finite | none => false
    match firstNonfinite bs, lawBad with
    | some i, _ => nonfinite p i undo s
    | none, true => nonfinite p 0 undo s
    | none, false =>
      let limiter := run && (throttled s p || match r with | some r => r.flags.level2 || r.flags.level3 || levelOne s p | none => false)
      let s := limitStep p limiter s
      let w : Work := { law := match r with | some r => r.law | none => q.law
                        blocks := bs, duties := duties, at_ := s.now
                        outer := match r with | some r => r.outer.isSome | none => false
                        eff := match r with | some r => r.eff | none => []
                        sends := run, undo := undo, canary := canary }
      s.modPier p fun q => { q with work := some w }

/-- Event flags of the INPUT blocks (Table 11.2). -/
def inputFlags (p : StageId) (smp : Sample) (s : State) : State :=
  let ins := sampleInputs s p smp
  let s := if ins.any InVal.offPlan then galFlag p 9 s else s
  let s := if ins.any InVal.bad then galFlag p 10 s else s
  if ins.any InVal.unsettled then galFlag p 11 s else s

/-- After a sample of a stage in RUN or LIMIT: the survey keeps the chip that has ended (R129), and its chips go on. -/
def surveySample (p : StageId) (u : Vec) (s : State) : State :=
  let l := match s.pie[p].work with | some w => w.law | none => s.pie[p].law
  let s := if s.isGfi p && s.switching p then keepChip p l u s else s
  s.modSurvey p fun v => if v.active then { v with chip := v.chip + 1 } else v

/-- What a sample computes once its memory words have been read. -/
def runSample (p : StageId) (smp : Sample) (s : State) : State :=
  let s := if s.isGfi p then roundWatch p (trackLine p smp s) else s
  let s := if s.switching p then returnSpeed p smp (coastStep p smp s) else s
  let u := uOfDuties s.pie[p].duties (fmul (lawParams s p).vHalf smp.vdc)
  let s := galSense p (inputFlags p smp (computeSample p smp s))
  let s := canaryKeep p smp u (surveySample p u s)
  let s := s.modRide p fun f => { f with pulsed := false }
  let s := s.modPier p fun q => { q with tripped := false, ran := q.ran + 1 }
  s.modStage p fun c => { c with sinceEntry := min 2 (c.sinceEntry + 1) }

/-- R155: dispatch at t₀ + D on the stamped results of the sample. -/
def dispatchSample (p : StageId) (smp : Sample) (s : State) : State :=
  let s := takeWrites p (takeDeferred p (postCheck p s))
  if !s.dispatching p then s.modPier p fun q => { q with postDone := true }
  else
    match smp.mem with
    | none => runSample p smp s
    | some .corrected => runSample p smp (memFault p .corrected s)
    | some m => memFault p m s

def execPierDispatch (p : StageId) (smp : Sample) (s : State) : Res :=
  .next (s.on (.pier p) fun s => if s.dispatching p then dispatchSample p smp s else s)

/-! ### Commit -/

/-- The report objects of the forming law, refreshed at every outer step (R71). -/
def publishLaw (n : StageId) (l : Law) (eff : List Rat) (s : State) : State :=
  let s := (s.setR (Obj.GFL_FREQ n) l.omega).setR (Obj.GFL_THETA n) (angleDeg360 l.theta)
  let s := ((s.setR (Obj.GFL_E n) l.e).setR (Obj.GFL_P_MEAS n) l.pF).setR (Obj.GFL_Q_MEAS n) l.qF
  let s := ((s.setR (Obj.GFL_P_MECH n) l.pMech).setR (Obj.GFL_V_NEG n) l.vNeg.mag).setR (Obj.GFL_V_ZERO n) (absR l.v0)
  let s := (s.setR (Obj.GFL_EFF_RV n) (nth eff 0)).setR (Obj.GFL_EFF_XV n) (nth eff 1)
  (s.setR (Obj.GFL_EFF_KC n) (nth eff 2)).setR (Obj.GFL_EFF_NOTCH_F n) (nth eff 3)

/-- The working bank of every critical-phase instance becomes the committed bank; post-phase instances keep theirs (R156). -/
def swapCritical (old new : List BlockSt) : List BlockSt :=
  (List.range old.length).map fun i =>
    match old[i]?, new[i]? with
    | some o, some w => if o.spec.post then o else w
    | some o, none => o
    | none, _ => ⟨⟨0, 0, false, [], [], []⟩, [], [], [], 0, false⟩

/-- The post commit swaps the post-phase instances (R156). -/
def swapPost (old new : List BlockSt) : List BlockSt :=
  (List.range old.length).map fun i =>
    match old[i]?, new[i]? with
    | some o, some w => if o.spec.post then w else o
    | some o, none => o
    | none, _ => ⟨⟨0, 0, false, [], [], []⟩, [], [], [], 0, false⟩

/-- State resets ordered since the last commit (R170): the instances that `old` flags start from their initial states. -/
def resetOrdered (old bs : List BlockSt) : List BlockSt := (bs.zip old).map fun (b, o) => if o.resetAtCommit then b.reinit else b

/-- A set leaves through the joint with its commit word (R157, R158); in duplex its digest goes to the partner and is compared (R411), in a
viaduct a set with channels of the partner goes there as well, its instant in TT (R20, R408). -/
def sendSet (p : StageId) (w : Work) (s : State) : State :=
  let tally := (s.pie[p].tally + 1) % 256
  let x := formSet s p w.duties w.blocks tally
  let words := encodeSet x
  let check := words.getLastD 0
  let s := s.modPier p fun q => { q with tally := tally, out := some words, sent := ⟨tally, x.k, w.duties, check⟩ :: q.sent.take 3 }
  let s := if isDuplex s then digestMeets p x.k (linkSend 0xA006 [p.val, x.k, tally, check] s) else s
  if isViaduct s && decide ((stageChans s p).length < x.chans.length) then
    linkSend 0x2400 ((encodeSet { x with instant := ttCycles s x.instant }).map Int.ofNat) s
  else s

/-- The ramp of R88 has ended with the sample that commits. -/
def rampEnds (p : StageId) (w : Work) (s : State) : State :=
  let h := s.shr[p]
  if w.undo.share.ramping && !h.ramping && decide (h.rampFrom = w.undo.share.rampFrom) && decide (w.law.r = 1) then
    s.log 0x2107 [p.val, secondsOf (h.rampLast - h.rampFrom)]
  else s

/-- What the commit of a sample in RUN or LIMIT sends and puts in force (R111, R113, R157). -/
def commitSends (p : StageId) (w : Work) (s : State) : State :=
  coastOrders p (startInputRamp p (rampEnds p w (sendSet p w (s.setBit (Obj.PIE_STATUS p) 8 false))))

/-- A commit word written in time (R156, R157): banks swap; in RUN and LIMIT a set goes out with the next tally, the stage's state at the
dispatch deciding (R159). A law whose stage has since been started or stopped keeps the values that gave it (R65). -/
def commitSample (p : StageId) (w : Work) (offset : Nat) (s : State) : State :=
  let sends := w.sends && s.switching p
  let crit := offset - (w.at_ - s.pie[p].t0)
  let s := s.modPier p fun q =>
    { q with
      before := some ⟨q.law, q.blocks, w.undo⟩
      law := if w.sends == s.switching p then w.law else q.law
      blocks := resetOrdered q.blocks (swapCritical q.blocks w.blocks), work := none
      post := some ⟨resetOrdered q.blocks w.blocks, w.canary, q.k, q.t0⟩, provisional := false }
  let s := (s.setN (Obj.PIE_LAST_COMMIT p) offset).setN (Obj.PIE_MAX_CRIT p) (max (s.objN (Obj.PIE_MAX_CRIT p)) crit)
  let s := (s.setBit (Obj.PIE_STATUS p) 2 false).setBit (Obj.PIE_STATUS p) 4 false
  let s := if w.outer then publishLaw p s.pie[p].law w.eff s else s
  let s := if sends then commitSends p w s else s
  canaryReactions p (dueSelftest p (endPulses p s))

/-- R157: the commit word; the gate refuses it in or after the cycle t₀ + d_L, and in a cycle with an uncorrectable word (Table 7.4). -/
def execPierCommit (p : StageId) (word : CommitWord) (s : State) : Res :=
  .next (s.on (.pier p) fun s =>
    match s.pie[p].work with
    | none => s
    | some w =>
      if deadline s p ≤ word.offset then voidSample p 1 s
      else match word.mem with
        | none => commitSample p w word.offset s
        | some .corrected => commitSample p w word.offset (memFault p .corrected s)
        | some m => memFault p m s)

/-- R160: the gate closes without a commit word. -/
def execPierOverrun (p : StageId) (s : State) : Res :=
  .next (s.on (.pier p) fun s => match s.pie[p].work with | some _ => voidSample p 1 s | none => s)

/-- R156: the post phase finishes; its instances' banks become committed, the canary steps (R139), the gallery records (R260), and with
RUNAHEAD_EN a provisional set stands for the next sample (R163). A compute-path test pre-empts it (R150). PIE_LOAD is a measurement no rule
computes (DESIGN CHOICE, log 4). -/
def execPostCommit (p : StageId) (total : Nat) (s : State) : Res :=
  .next (s.on (.pier p) fun s =>
    match s.pie[p].post with
    | none => s
    | some w =>
      if s.pie[p].selftest.isSome then s
      else
        let ahead := s.bit (Obj.PIE_CONFIG p) 1 && s.switching p
        let s := s.modPier p fun q => { q with blocks := swapPost q.blocks w.blocks, post := none, postDone := true, provisional := ahead }
        let s := s.setN (Obj.PIE_MAX_TOTAL p) (max (s.objN (Obj.PIE_MAX_TOTAL p)) total)
        let s := canaryStep p w.canary (s.setR (Obj.PIE_LOAD p) s.freeReal).draw
        galleryRecord p w.k w.t0 (s.setBit (Obj.PIE_STATUS p) 4 ahead))

/-- R145: lane l of vector register r of core c. The schedule that fills the registers is the image's own, so that what one holds after the
samples run so far is free (DESIGN CHOICE, log 146). -/
def coreRegister (s : State) (p : StageId) (c : Fin 4) (r : Fin 32) (l : Fin 4) : BitVec 32 :=
  Config.coreReg ⟨p.val, c.val, r.val, l.val⟩ s.pie[p].ran

/-! ### Self-tests and block commands -/

/-- R149: a background round completes; a failure goes to the keystone, which fences the pier. -/
def execBistRoundComplete (p : StageId) (pass : Bool) (s : State) : Res :=
  .next (s.on (.pier p) fun s =>
    if !s.bit (Obj.PIE_CONFIG p) 2 then s
    else if pass then (s.modPier p fun q => { q with bistAt := s.now }).setBit (Obj.PIE_STATUS p) 5 false
    else fence (.pier p) s)

/-- R149: a round has not completed within PIE_BIST_PERIOD. -/
def execBistLate (p : StageId) (duration : Nat) (s : State) : Res :=
  .next (s.on (.pier p) fun s =>
    if s.bit (Obj.PIE_CONFIG p) 2 && decide (s.objN (Obj.PIE_BIST_PERIOD p) * cyclesMs ≤ s.since s.pie[p].bistAt) then
      (s.setBit (Obj.PIE_STATUS p) 5 true).log 0x240C [p.val, duration]
    else s)

/-- R150: through the dictionary the test starts only in READY. -/
def selftestCmd (p : StageId) (s : State) : Nat × State := if s.mod.mode == .ready then (0, startSelftest p s) else (0x08000022, s)

def execPieSelftest (p : StageId) (w : Writer) (s : State) : Res :=
  .next (request w (Obj.PIE_SELFTEST p) (.pier p) (owned w (selftestCmd p)) s)

/-- PIE_BLK_CMD 1 resets an instance's state at the next commit (R170). -/
def orderBlockReset (p : StageId) (inst : Nat) (s : State) : State :=
  s.modPier p fun q => { q with blocks := q.blocks.modify inst fun b => { b with resetAtCommit := true } }

def execBlockStateReset (p : StageId) (inst : Nat) (w : Writer) (s : State) : Res :=
  .next (request w (blockKey p inst 4) (.pier p) (owned w fun s => (0, orderBlockReset p inst s)) s)

end Sys2Proof.Machine
end

