-- ==== Sys2Proof/Machine/Edge.lean ====
section
/-!
DEFINITION. Chapter 8: timebases and their commands (R172 to R174), arriving sets (R157, R163, R164, R176), reload points with
the edges placed there (R177 to R179, R193), static compares (R175), calibration and heartbeats (R180), triggers (R181), the
configuration check (R183), the guard and raw override (R184, R185).
-/

namespace Sys2Proof.Machine

/-! ### Timebases -/

/-- Z of R172: the first whole multiple of 2²⁴ core cycles after loading; on the secondary of a locked pair, of twin time (R406). -/
def firstZero (s : State) (loaded : Nat) : Nat :=
  if s.twn.mode ≠ 0 ∧ s.twn.lock && !s.twn.primary then loaded + 16777216 - ttCycles s loaded % 16777216
  else (loaded / 16777216 + 1) * 16777216

/-- The instant at which a timebase's counter starts (R172). -/
def tbStartAt (s : State) (t : TbId) : Option Nat := s.edg.loadedAt.map fun l => firstZero s l + s.objN (Obj.EDG_TB_OFFSET t)

/-- The instant of a timebase's next zero point: one period, lengthened by a phase shift, after the last (R172, R174). -/
def nextZero (s : State) (t : TbId) : Nat := ((s.edg.tb[t].lastZero : Int) + s.objN (Obj.EDG_TB_PERIOD t) + s.edg.tb[t].stretch).toNat

/-- The instant of the peak point of the period now running; a shift falls in the up-counting segment (R172, R174). -/
def peakAt (s : State) (t : TbId) : Nat := ((s.edg.tb[t].lastZero : Int) + s.objN (Obj.EDG_TB_PERIOD t) / 2 + s.edg.tb[t].stretch).toNat

def showNextZero (t : TbId) (s : State) : State := s.setN (Obj.EDG_TB_NEXT_ZERO t) (nextZero s t)

/-- R172: the counter of a timebase starts; its first zero point falls at that instant. -/
def execTimebaseStart (tb : TbId) (s : State) : Res :=
  .next (s.on .edge fun s =>
    match tbStartAt s tb with
    | none => s
    | some z =>
      if s.edg.tb[tb].running || decide (s.now < z) then s
      else
        let s := showNextZero tb (s.modTb tb fun x => { x with
          running := true, lastZero := z - s.objN (Obj.EDG_TB_PERIOD tb), triggers := 0, stretch := 0, peaked := true })
        (allGroups.filter fun g => grpTb s g == tb).foldl (fun s g => s.modGrp g fun x => { x with periodAt := z }) s)

/-- A stage that samples on the timebase is dispatching (R174). -/
def tbBusy (s : State) (t : TbId) : Bool := allStages.any fun n => s.objN (Obj.PIE_TIMEBASE n) == t.val && s.dispatching n

/-- Whether the value of a period change or of a phase shift can be taken: 0, or its abort code (R172, R174, R197). -/
def tbValueBad (s : State) (t : TbId) (shift : Bool) (v : Int) : Nat :=
  let p : Int := s.objI (Obj.EDG_TB_PERIOD t)
  if shift then (if -(p / 2 - 1) ≤ v ∧ v ≤ p / 2 - 1 then 0 else 0x06090030)
  else if v < 820 ∨ 409600 < v then 0x06090030
  else if (tbCentre s t && decide (v % 2 ≠ 0)) || decide (v ≤ s.objI (Obj.EDG_TB_OFFSET t)) then 0x06090036
  else 0

/-- A waiting command for the same timebase and instant from another source or channel (R21). -/
def tbMeets (inst : Nat) (by_ : Source × Nat) (c : TbCmd) : Bool := inst != 0 && c.inst == inst && (c.src, c.channel) != by_

/-- A timebase command is issued (R174): refused while a stage samples on the timebase, implausibly far ahead (R18) or beaten by another for
the same instant (R21); late when its zero point has passed. -/
def tbCommand (t : TbId) (shift : Bool) (v : Int) (inst : Nat) (by_ : Source × Nat) (s : State) : Nat × State :=
  if tbBusy s t then (0x08000022, s)
  else if tbValueBad s t shift v ≠ 0 then (tbValueBad s t shift v, s)
  else if implausible (s.replicaOf .edge) inst then (0x08000022, countImplausible .edge s)
  else if s.edg.tb[t].cmds.any fun c => tbMeets inst by_ c && comesFirst (c.src, c.channel) by_ then (0x08000022, countRefused .edge s)
  else
    let late := decide (inst ≠ 0) && s.edg.tb[t].running && decide (inst ≤ s.edg.tb[t].lastZero)
    let s := if late then (s.bump (Obj.EDG_TB_LATE t)).log 0x3002 [t.val, s.now - inst] else s
    let s := if s.edg.tb[t].cmds.any (tbMeets inst by_) then countRefused .edge s else s
    (0, s.modTb t fun x => { x with
      cmds := (x.cmds.filter fun c => !tbMeets inst by_ c) ++ [⟨if late then 0 else inst, shift, v, by_.1, by_.2⟩] })

def execTbPeriodChange (tb : TbId) (period inst : Nat) (w : Writer) (s : State) : Res :=
  .next (request w (Obj.EDG_TB_PERIOD tb) .edge (owned w (tbCommand tb false period inst (writerSource w))) s)

def execTbPhaseShift (tb : TbId) (delta : Int) (inst : Nat) (w : Writer) (s : State) : Res :=
  .next (request w Obj.EDG_TB_CMD_CODE .edge (owned w (tbCommand tb true delta inst (writerSource w))) s)

/-- One waiting command acts at a zero point. -/
def applyTbCmd (t : TbId) (s : State) (c : TbCmd) : State :=
  if c.shift then s.modTb t fun x => { x with stretch := x.stretch + c.value } else s.setObj (Obj.EDG_TB_PERIOD t) (.int c.value)

/-- A zero point of a timebase, at its scheduled instant: commands whose instant has come act, and the next zero point follows. -/
def zeroPoint (t : TbId) (s : State) : State :=
  let z := nextZero s t
  let due := s.edg.tb[t].cmds.filter fun c => decide (c.inst ≤ z)
  let s := s.modTb t fun x => { x with lastZero := z, stretch := 0, peaked := false, cmds := x.cmds.filter fun c => !decide (c.inst ≤ z) }
  showNextZero t (due.foldl (applyTbCmd t) s)

/-- A peak point has passed. -/
def peakPoint (t : TbId) (s : State) : State := s.modTb t fun x => { x with peaked := true }

/-- Whether a point of a timebase's schedule has come (R172). -/
def pointDue (s : State) (t : TbId) (peak : Bool) : Bool :=
  s.edg.tb[t].running && if peak then tbCentre s t && !s.edg.tb[t].peaked && decide (peakAt s t ≤ s.now) else decide (nextZero s t ≤ s.now)

/-! ### Toggles and edges of a period -/

def insertAt (t : Nat) : List Nat → List Nat
  | [] => [t]
  | x :: l => if t ≤ x then t :: x :: l else x :: insertAt t l

/-- Equal positions cancel in pairs (R177). -/
def cancelPairs : List Nat → List Nat
  | [] => []
  | [a] => [a]
  | a :: b :: l => if a = b then cancelPairs l else a :: cancelPairs (b :: l)

/-- R179: of two successive remaining toggles closer than the limit both are removed. Answers the rest and the pairs
removed. -/
def removeShort (lim : Nat) : List Nat → List Nat × Nat
  | [] => ([], 0)
  | [a] => ([a], 0)
  | a :: b :: l =>
    if b - a < lim then (let r := removeShort lim l; (r.1, r.2 + 1))
    else (let r := removeShort lim (b :: l); (a :: r.1, r.2))

/-- Successive levels at toggles, from a starting level. -/
def levelsFrom (l : Bool) : List Nat → List (Nat × Bool)
  | [] => []
  | t :: ts => (t, !l) :: levelsFrom (!l) ts

/-- Toggle instants of `reps` repetitions of a pattern: START where it differs counts as a toggle (R179). -/
def togglesOf (start : Bool) (qs : List Nat) (span : Nat) : Nat → Nat → Bool → List Nat
  | 0, _, _ => []
  | n + 1, t, lvl =>
    let head := if start = lvl then [] else [t]
    head ++ qs.map (t + ·) ++ togglesOf start qs span n (t + span) (if qs.length % 2 = 0 then start else !start)

def ctrlStart (c : Nat) : Bool := bitsAt c 0 1 == 1
def ctrlCount (c : Nat) : Nat := min 4 (bitsAt c 1 3)
def ctrlHigh (c : Nat) : Bool := bitsAt c 4 2 == 0 || bitsAt c 4 2 == 1
def ctrlLow (c : Nat) : Bool := bitsAt c 4 2 == 0 || bitsAt c 4 2 == 2

/-- Edge compares used, as positions in 1/32 core cycle. -/
def usedCompares (x : ChanSet) : List Nat := (x.compares.take (ctrlCount x.ctrl)).map fun q => q % 536870912

/-- The contents in force on a channel: from its owner's set, or its static compares (R175). -/
def chanForce (s : State) (c : ChanId) : Option ChanSet :=
  let o := chanOwner s c
  if h : o < 8 then
    (s.edg.sets[o]'h).force.bind fun f => ((ownedChans s o).zip f.chans).find? (fun e => e.1 == c) |>.map (·.2)
  else if reloadsAt s c false || reloadsAt s c true then some s.edg.ch[c].static
  else none

/-- Whether edges are placed on a channel: its stage switches, is not SAFE and not blocked, and no raw override is in force. -/
def chanDriven (s : State) (c : ChanId) : Bool :=
  let o := chanOwner s c
  !s.edg.raw &&
    (if h : o < 8 then
      let x := s.edg.sets[o]'h
      !x.safe && !x.blocked && (if h4 : o < 4 then s.switching ⟨o, h4⟩ || s.stg[o].pulsesEnd else true)
    else true)

/-- A latched group holds both outputs of its channels (R188). -/
def latchHolds (s : State) (c : ChanId) : Bool := allGroups.any fun g => s.edg.grp[g].latched && grpHasChan s g c
def heldHigh (s : State) (c : ChanId) : Bool := latchHolds s c || s.edg.ch[c].holds.any fun h => h.what != 2
def heldLow (s : State) (c : ChanId) : Bool := latchHolds s c || s.edg.ch[c].holds.any fun h => h.what != 1

/-- Edges that toggles make (R178): the side that ends turns off at the toggle, the other on DT_eff later unless the next
toggle comes first. -/
def edgesOf (dt : Nat) : List (Nat × Bool) → List EdgeEv
  | [] => []
  | (t, l) :: rest =>
    let on : List EdgeEv := match rest with
      | [] => [⟨t + dt, l, true⟩]
      | (t', _) :: _ => if t + dt < t' then [⟨t + dt, l, true⟩] else []
    ⟨t, !l, false⟩ :: (on ++ edgesOf dt rest)

/-- An edge as it is placed: the secondary of a pair in pair lock adds TWN_GRID_PHASE (R405); an output whose calibration failed is placed to
whole core cycles (R180). -/
def calRound (s : State) (c : ChanId) (e : EdgeEv) : EdgeEv :=
  let e := if isSecondary s && s.twn.lock then { e with t := ((e.t : Int) + s.twn.phase).toNat } else e
  let bad := s.edg.calFault.any fun o => o.val == c.val + (if e.high then 0 else 24)
  if bad then { e with t := e.t / 32 * 32 } else e

/-- Sides of a channel that may turn on: OUT_MODE and trips leave them (R177, R187). -/
structure Sides where
  high : Bool
  low : Bool
deriving DecidableEq, Repr

/-- The turn-on of the side of the present level, no earlier than DT_eff after the last toggle and after the other side's
turn-off (R178, R187). -/
def turnOnNow (h : ChanSt) (en : Sides) (dt from_ : Nat) (lvl : Bool) (next : Option Nat) : List EdgeEv :=
  let last := ((h.toggles.filter fun g => decide (g.1 ≤ from_)).getLast?).map (·.1)
  let after := match last with | some t => t + dt | none => from_
  let other := if lvl then (if h.low then from_ + dt else h.lowOff + dt) else (if h.high then from_ + dt else h.highOff + dt)
  let never := if lvl then h.lowOff == 0 && !h.low else h.highOff == 0 && !h.high
  let t := max (max from_ after) (if never then from_ else other)
  let may := if lvl then en.high && !h.high else en.low && !h.low
  let fits := match next with | some n => decide (t < n) | none => true
  if may && fits then [⟨t, lvl, true⟩] else []

/-- Outputs are placed anew from an instant on, from the toggles of the channel (R178, R187). -/
def placeFrom (c : ChanId) (from_ : Nat) (s : State) : State :=
  match chanForce s c with
  | none => s
  | some x =>
    if !chanDriven s c then s
    else
      let s := settle c s
      let h := s.edg.ch[c]
      let modeHi := ctrlHigh x.ctrl
      let modeLo := ctrlLow x.ctrl
      let en : Sides := ⟨modeHi && !heldHigh s c, modeLo && !heldLow s c⟩
      let dt := deadTime s c
      let lvl := levelAt h from_
      let future := h.toggles.filter fun g => decide (from_ < g.1)
      let offs : List EdgeEv := (if h.high && (!modeHi || !lvl) then [⟨from_, true, false⟩] else [])
        ++ (if h.low && (!modeLo || lvl) then [⟨from_, false, false⟩] else [])
      let rest := (edgesOf dt future).filter fun e => !e.on || (if e.high then en.high else en.low)
      let evs := offs ++ turnOnNow h en dt from_ lvl (future.head?.map (·.1)) ++ rest
      settle c (s.modCh c fun h => { h with edges := evs.map (calRound s c) })

/-- The toggles of a period on a channel (R177, R179): compares out of range and removed pairs are counted. -/
def formToggles (c : ChanId) (x : ChanSet) (start tu : Nat) (s : State) : State :=
  let iv := reloadInterval s c
  let reps := if chanRepeats s c && decide (0 < iv) then max 1 (tu / iv) else 1
  let span := 32 * (if chanRepeats s c then iv else tu)
  let used := usedCompares x
  let clipped := (used.filter fun q => decide (span ≤ q)).length
  let qs := cancelPairs ((used.filter fun q => decide (q < span)).foldl (fun l q => insertAt q l) [])
  let t0 := start * 32
  let lvl := levelAt s.edg.ch[c] t0
  let (times, removed) := removeShort (s.objN (Obj.EDG_CH_MIN_PULSE c)) (togglesOf (ctrlStart x.ctrl) qs span reps t0 lvl)
  let s := if 0 < clipped then (s.setN (Obj.EDG_CH_CLIPPED c) (s.objN (Obj.EDG_CH_CLIPPED c) + clipped)).logOnce 0x300C c.val [c.val + 1] else s
  let s := if 0 < removed then (s.setN (Obj.EDG_CH_REMOVED c) (s.objN (Obj.EDG_CH_REMOVED c) + removed)).logOnce 0x300B c.val [c.val + 1] else s
  s.modCh c fun h =>
    let past := match (h.toggles.filter fun g => decide (g.1 ≤ t0)).getLast? with | some g => [g] | none => []
    { h with level := lvl, toggles := past ++ levelsFrom lvl times }

/-! ### Bootstrap refresh -/

/-- V_f of R212 at a reload point. -/
def forecastV (s : State) (c : ChanId) (b : Fin 4) : Rat :=
  let d : DrvId := if b = 0 then 8 else 10
  let i := mkRat (s.objI (Obj.GDV_BS_I_HS b) + s.objI (Obj.GDV_BS_I_LK b)) 10
  let q := s.edg.ch[c].charge + (s.objN (Obj.GDV_CH_QG d) : Nat) + i * us32 (32 * reloadInterval s c)
  mkRat (s.objI (Obj.GDV_BS_V_FULL b)) 1000 - q / ((s.objN (Obj.GDV_BS_C b) * 100 : Nat) : Rat)

/-- The edges of a refresh at an instant and of the pattern that resumes after it (R193). -/
def refreshEdges (h : ChanSt) (dt width from_ : Nat) (modeLo modeHi : Bool) : List EdgeEv :=
  let on := if h.low && !h.high then from_ else from_ + dt
  let stop := on + width
  let lvl := levelAt h stop
  let future := h.toggles.filter fun g => decide (stop < g.1)
  let next := future.head?.map (·.1)
  let fits := match next with | some n => decide (stop + dt < n) | none => true
  (if h.high then [⟨from_, true, false⟩] else []) ++ (if h.low && !h.high then [] else [⟨on, false, true⟩])
    ++ (if lvl || !modeLo then [⟨stop, false, false⟩] else [])
    ++ (if lvl && modeHi && fits then [⟨stop + dt, true, true⟩] else [])
    ++ edgesOf dt future

/-- CAPPING at a reload point, the forecast, and a refresh where it is too low and the low output is not held (R193,
R212, R213, Table 9.5). -/
def bootPoint (c : ChanId) (s : State) : State :=
  match bootOf s c, chanForce s c with
  | some b, some x =>
    if !chanDriven s c then s
    else
      let d : DrvId := if b = 0 then 8 else 10
      let h := s.edg.ch[c]
      let ends := s.bit (Obj.EDG_CH_STATUS c) 3 && !h.refreshed && decide (h.charge = 0)
      let s := if ends then ((s.setBit (Obj.EDG_CH_STATUS c) 3 false).log 0x3009 [c.val + 1, h.capped]).modCh c fun h => { h with capped := 0 } else s
      let v := forecastV s c b
      let low := decide (v < mkRat (s.objI (Obj.GDV_BS_V_MIN b)) 1000)
      let s := (s.setR (Obj.GDV_BS_FORECAST b) (r32 v)).setBit (Obj.GDV_CH_STATUS d) 5 low
      if low && !heldLow s c then
        let s := if s.bit (Obj.EDG_CH_STATUS c) 3 then s else (s.setBit (Obj.EDG_CH_STATUS c) 3 true).log 0x3008 [c.val + 1]
        let width := (s.objN (Obj.GDV_BS_REFRESH b) * 4096 + 9999) / 10000 * 32
        let evs := refreshEdges s.edg.ch[c] (deadTime s c) width (now32 s) (ctrlLow x.ctrl) (ctrlHigh x.ctrl)
        let evs := evs.filter fun e => !(e.on && e.high && heldHigh s c)
        settle c ((s.bump (Obj.GDV_BS_REFRESHES b)).modCh c fun h =>
          { h with edges := evs.map (calRound s c), refreshed := true, capped := h.capped + 1 })
      else s.modCh c fun h => { h with refreshed := false }
  | _, _ => s

/-! ### Triggers -/

/-- Whether a trigger position lies before the latest instant at which its commit can land (R181). -/
def earlyPos (s : State) (p : StageId) (pos : Int) : Bool := decide (pos < ((deadline s p : Int) + 4 - s.tu p) * 32)

/-- A trigger compare fires now: its event, with the channel's delay for it (R181). -/
def fireTrigger (c : ChanId) (t : Nat) (off : Bool) (s : State) : State :=
  let ev := 4 * c.val + t
  let s := if off then (match chanStage s c with | some p => countOffPlan p (startedBy s 2 ev).length s | none => s) else s
  triggerEvent ev (s.objN (Obj.EDG_CH_TRIG_DELAY c t)) off s

def distI (a b : Int) : Nat := (a - b).natAbs

/-- One trigger of a committed set lands (R164). -/
def landTrigger (o : Fin 8) (c : ChanId) (k : Nat) (t : Nat) (at_ : Int) (s : State) : State :=
  let p := ownerStage o
  let mine (a : Arm) : Bool := a.k == k && a.trig == t
  match s.edg.ch[c].arms.find? mine with
  | some ⟨_, _, _, _, some f, off⟩ =>
    let bad := off || decide (s.objN (Obj.PIE_OFFPLAN_TOL p) * 32 < distI f at_)
    let s := s.modCh c fun h => { h with arms := h.arms.map fun a => if mine a then { a with at_ := at_, early := false, off := bad } else a }
    if bad && !off then offPlanFired p c t f s else s
  | _ =>
    let now := now32 s
    let passed := decide (at_ < now)
    let bad := passed && decide (s.objN (Obj.PIE_OFFPLAN_TOL p) * 32 < distI now at_)
    let s := s.modCh c fun h =>
      { h with arms := (h.arms.filter fun a => !mine a) ++ [⟨k, t, at_, false, if passed then some now else none, bad⟩] }
    if passed then fireTrigger c t bad s else s

/-- Every trigger of a committed set lands; early arms the set does not enable are disarmed. -/
def landTriggers (o : Fin 8) (x : CmdSet) (s : State) : State :=
  ((ownedChans s o.val).zip x.chans).foldl (fun s e =>
    let c := e.1
    (List.range 4).foldl (fun s t =>
      match trigPos (e.2.triggers.getD t 0) with
      | some pos => landTrigger o c x.k t ((x.instant : Int) * 32 + pos) s
      | none => s.modCh c fun h => { h with arms := h.arms.filter fun a => !(a.k == x.k && a.trig == t && a.fired.isNone) }) s) s

/-- A compare of a channel is armed for sample count k, unless it is already. -/
def addArm (c : ChanId) (k t : Nat) (at_ : Int) (early : Bool) (s : State) : State :=
  if s.edg.ch[c].arms.any fun a => a.k == k && a.trig == t then s
  else s.modCh c fun h => { h with arms := h.arms ++ [⟨k, t, at_, early, none, false⟩] }

/-- Triggers of the set in force at a period start (R163, R164, R181): those of this period that are not armed yet, and the
early ones of the next, unless a provisional set has armed them. -/
def armPeriod (o : Fin 8) (f : CmdSet) (start : Nat) (s : State) : State :=
  let p := ownerStage o
  let tu := s.tu p
  let k := f.k + (if tu = 0 then 0 else (start - f.instant) / tu)
  ((ownedChans s o.val).zip f.chans).foldl (fun s e =>
    let c := e.1
    let s := s.modCh c fun h => { h with arms := h.arms.filter fun a => decide (k ≤ a.k + 1) }
    (List.range 4).foldl (fun s t =>
      match trigPos (e.2.triggers.getD t 0) with
      | none => s
      | some pos =>
        if earlyPos s p pos then addArm c (k + 1) t (((start + tu : Nat) : Int) * 32 + pos) true s
        else addArm c k t ((start : Int) * 32 + pos) false s) s) s

/-- R181: a trigger compare fires at its instant. -/
def execTriggerFire (ch : ChanId) (t : Fin 4) (s : State) : Res :=
  .next (s.on .edge fun s =>
    let due (a : Arm) : Bool := a.trig == t.val && a.fired.isNone && decide (a.at_ ≤ now32 s)
    match s.edg.ch[ch].arms.find? due with
    | none => s
    | some a =>
      let tol := match chanStage s ch with | some p => s.objN (Obj.PIE_OFFPLAN_TOL p) | none => 0
      let off := a.off || (!a.early && decide (tol * 32 < distI (now32 s) a.at_))
      let s := s.modCh ch fun h =>
        { h with arms := h.arms.map fun b => if b == a then { b with fired := some (now32 s), off := off } else b }
      fireTrigger ch t.val off s)

/-! ### Arriving sets -/

/-- The owner index of a stage's sets: of this module's stages, or of the partner's (R175). -/
def setOwner (p : StageId) (partner : Bool) : Fin 8 := if partner then ⟨p.val + 4, by omega⟩ else ownSets p

/-- The set that arriving words spell at the edge island: none where its check value fails. A partner's instant is converted from TT (R20), and
its set's last channels are the ones here (DESIGN CHOICE, log 136). -/
def setOfWords (s : State) (p : StageId) (partner : Bool) (words : List Nat) : Option CmdSet :=
  match decodeSet words with
  | none => none
  | some x =>
    if x.stage ≠ p then none
    else if partner then
      some { x with instant := mtOfTt s x.instant, chans := x.chans.drop (x.chans.length - (ownedChans s (setOwner p true).val).length) }
    else some x

/-- R157: why words are discarded (1 check value, 2 tally, 3 stage SAFE), or none. -/
def setFault (s : State) (p : StageId) (partner : Bool) (x : Option CmdSet) : Option Nat :=
  let o := s.edg.sets[setOwner p partner]
  match x with
  | none => some 1
  | some x =>
    if x.tally ≠ (o.tally + 1) % 256 then some 2
    else if o.safe || (!partner && s.stageSt p == .safe) then some 3
    else none

/-- An accepted set stands in shadow; a late one is deferred (R176). -/
def acceptSet (o : Fin 8) (x : CmdSet) (s : State) : State :=
  let cs := ownedChans s o.val
  let late := decide (x.instant ≤ s.replicaOf .edge)
  let s := s.modSet o fun y => { y with tally := x.tally, shadow := some x, deferred := late }
  if late then
    let s := cs.foldl (fun s c => s.bump (Obj.EDG_CH_LATE c)) s
    s.logOnce 0x3001 o.val [x.stage.val, maskOf (cs.map Fin.val), s.replicaOf .edge - x.instant]
  else landTriggers o x s

/-- An own set that stands at the edge island ends the run of voided samples (R160). -/
def setStands (p : StageId) (s : State) : State :=
  (s.modPier p fun q => { q with out := none, before := none, overrunRun := 0 }).setN (Obj.PIE_OVERRUN_RUN p) 0

/-- Words of a set arrive with their commit word (R157). Of this module's stages, a set without a commit word is never used, and words that
differ from those committed fail their check. -/
def execCommandSetArrival (frame : SetFrame) (s : State) : Res :=
  .next (s.on .edge fun s =>
    if frame.partner then
      let x := setOfWords s frame.pier true frame.words
      match setFault s frame.pier true x, x with
      | some why, _ => s.log 0x2404 [frame.pier.val, why, frame.words.getD 2 0]
      | none, some x =>
        if x.provisional then s
        else if implausible (s.replicaOf .edge) x.instant then (countImplausible .edge s).log 0x300E [frame.pier.val, x.instant]
        else acceptSet (setOwner frame.pier true) x s
      | none, none => s
    else
      match s.pie[frame.pier].out with
      | none => s
      | some sent =>
        let x := if frame.words = sent then setOfWords s frame.pier false frame.words else none
        match setFault s frame.pier false x, x with
        | some why, _ => discardSet frame.pier why (frame.words.getD 2 0) s
        | none, some x =>
          if implausible (s.replicaOf .edge) x.instant then
            setReturned frame.pier ((countImplausible .edge s).log 0x300E [frame.pier.val, x.instant])
          else acceptSet (ownSets frame.pier) x (setStands frame.pier s)
        | none, none => s)

/-- The pier stages a provisional set: with RUNAHEAD_EN, in RUN and LIMIT, after a completed post phase (R159, R162, R163). -/
def stagesAhead (s : State) (p : StageId) : Bool := s.bit (Obj.PIE_CONFIG p) 1 && s.switching p && s.pie[p].provisional

/-- R163, R181: of a provisional set the edge island takes the early trigger compares only. -/
def execProvisionalSetArrival (frame : SetFrame) (s : State) : Res :=
  .next (s.on .edge fun s =>
    let o := setOwner frame.pier frame.partner
    match setOfWords s frame.pier frame.partner frame.words with
    | none => s
    | some set =>
      if !set.provisional || s.edg.sets[o].safe || !(frame.partner || stagesAhead s frame.pier) then s
      else
        ((ownedChans s o.val).zip set.chans).foldl (fun s e =>
          let c := e.1
          (List.range 4).foldl (fun s t =>
            match trigPos (e.2.triggers.getD t 0) with
            | none => s
            | some pos =>
              let mine (a : Arm) : Bool := a.k == set.k && a.trig == t
              if !earlyPos s (ownerStage o) pos || s.edg.ch[c].arms.any (fun a => mine a && a.fired.isSome) then s
              else s.modCh c fun h =>
                { h with arms := (h.arms.filter fun a => !mine a) ++ [⟨set.k, t, (set.instant : Int) * 32 + pos, true, none, false⟩] }) s) s)

/-! ### Reload points -/

/-- Whether a waiting write belongs to a channel: its own objects, those of the driver channels its outputs go to, and of its
bootstrap channel (R197, R222). -/
def writeOfChan (s : State) (c : ChanId) (key : Nat) : Bool :=
  let idx := key / 256
  idx == 0x4420 + c.val
    || (decide (0x4810 ≤ idx) && decide (idx < 0x481C) && (outputAt s (idx - 0x4810)).map (·.1) == some c)
    || (decide (0x4830 ≤ idx) && decide (idx < 0x4834) && (outputAt s (idx - 0x4830 + 8)).map (·.1) == some c)

/-- The writes that wait for a channel's reload point act. -/
def takeChanWrites (s : State) (c : ChanId) : State :=
  let mine := s.commitWrites.filter fun w => writeOfChan s c w.1
  let rest := s.commitWrites.filter fun w => !writeOfChan s c w.1
  let s := { s with commitWrites := rest }
  showDeadTime c (mine.foldl (State.setDue .nextCommit) s)

/-- R187: a channel is released at a reload point at which no source holding it is active. -/
def releaseChan (s : State) (c : ChanId) : State :=
  let h := s.edg.ch[c]
  if h.holds.isEmpty || (h.holds.any fun x => s.edg.active.contains x.src) then s
  else
    let s := s.modCh c fun h => { h with holds := [] }
    let s := s.setBit (Obj.EDG_CH_STATUS c) 1 (latchHolds s c)
    allGroups.foldl (fun s g => if grpHasChan s g c then showGroup g s else s) s

/-- A period starts on the channels of an owner with the set in force. -/
def startPeriod (o : Fin 8) (f : CmdSet) (start : Nat) (s : State) : State :=
  let tu := s.tu (ownerStage o)
  let s := s.modSet o fun y => { y with start := start }
  let s := ((ownedChans s o.val).zip f.chans).foldl (fun s e => placeFrom e.1 (now32 s) (formToggles e.1 e.2 start tu (settle e.1 s))) s
  armPeriod o f start s

/-- The set in force returns its tally to the pier, which takes u(k) from it (R176, R62). -/
def returnTally (o : Fin 8) (t : Nat) (s : State) : State :=
  if h : o.val < 4 then
    s.modPier ⟨o.val, h⟩ fun p => match p.sent.find? (fun e => e.tally == t) with | some e => { p with duties := e.duties } | none => p
  else s

/-- A reload point for one owner: a shadowed set whose instant has come takes effect, or the set in force repeats after its
update period, or the outputs released here are placed anew (R176). -/
def ownerPoint (here : List ChanId) (o : Fin 8) (s : State) : State :=
  let cs := ownedChans s o.val
  if !(cs.any here.contains) then s
  else
    let x := s.edg.sets[o]
    let ripe := match x.shadow with
      | some f => decide (f.instant ≤ s.replicaOf .edge) && (!x.deferred || cs.all here.contains)
      | none => false
    match ripe, x.shadow, x.force with
    | true, some f, _ =>
      let s := s.modSet o fun y => { y with force := some f, shadow := none, deferred := false }
      returnTally o f.tally (startPeriod o f s.now s)
    | _, _, some f =>
      let tu := s.tu (ownerStage o)
      if tu ≠ 0 ∧ x.start + tu ≤ s.now then startPeriod o f (s.now - (s.now - x.start) % tu) s
      else (cs.filter here.contains).foldl (fun s c => placeFrom c (now32 s) s) s
    | _, _, none => s

/-- A reload point of an unowned channel: static compares that wait take effect, and their pattern starts again (R175). -/
def staticPoint (c : ChanId) (s : State) : State :=
  let s := s.modCh c fun h => { h with static := h.staticNext.getD h.static, staticNext := none }
  placeFrom c (now32 s) (formToggles c s.edg.ch[c].static s.now (reloadInterval s c) (settle c s))

/-- A zero or peak point of a timebase: reloads, releases, sets, static compares, bootstrap refreshes and the trips that closed
blanking windows bring (R174 to R179, R187, R189, R193). -/
def reloadPoint (tb : TbId) (peak : Bool) (s : State) : State :=
  if !pointDue s tb peak then s
  else
    let s := if peak then peakPoint tb s else (allGroups.filter fun g => grpTb s g == tb).foldl takeGroupWrites (zeroPoint tb s)
    let here := allChans.filter fun c => chanTb s c == tb && reloadsAt s c peak
    let s := here.foldl takeChanWrites s
    let s := here.foldl releaseChan s
    let s := (List.finRange 8).foldl (fun s o => ownerPoint here o s) s
    let s := (here.filter fun c => decide (8 ≤ chanOwner s c)).foldl (fun s c => staticPoint c s) s
    let s := here.foldl (fun s c => bootPoint c s) s
    tripScan s

def execReloadPoint (tb : TbId) (peak : Bool) (s : State) : Res := .next (s.on .edge (reloadPoint tb peak))

/-! ### Static compares, calibration, heartbeat -/

/-- R175: the control word is written, and the static compares take effect together at the next reload point. -/
def staticCtrl (ch : ChanId) (ctrl : Nat) (s : State) : State :=
  let st : ChanSet := ⟨(List.range 4).map fun j => s.objN (Obj.EDG_CH_STATIC ch j), [], ctrl⟩
  (s.setN (Obj.EDG_CH_STATIC_CTRL ch) ctrl).modCh ch fun h => { h with staticNext := some st }

def execStaticCtrlWrite (ch : ChanId) (ctrl : Nat) (w : Writer) (s : State) : Res :=
  .next (request w (Obj.EDG_CH_STATIC_CTRL ch) .edge (owned w fun s => if ctrl < 64 then (0, staticCtrl ch ctrl s) else (0x06090030, s)) s)

/-- The channel and side of an output of the delay lines: 0 to 23 high, 24 to 47 low. -/
def outputChan (o : Fin 48) : ChanId := ⟨o.val % 24, by omega⟩

/-- An output by the code of EDG_ROUTE (R4): channel 1 to 24 high, 0x80 with the channel low. -/
def outputCode (o : Fin 48) : Nat := if o.val < 24 then o.val + 1 else 0x80 + (o.val - 24) + 1

/-- Recalibration of the delay lines: outputs that fail are placed to whole core cycles (R180). -/
def recalibrate (failing : List (Fin 48)) (s : State) : State :=
  let fresh := failing.filter fun o => !s.edg.calFault.contains o
  let s := s.modEdg fun e => { e with calFault := failing, recalAt := s.now }
  let s := allChans.foldl (fun s c => s.setBit (Obj.EDG_CH_STATUS c) 6 (failing.any fun o => outputChan o == c)) s
  let s := s.setBit Obj.EDG_STATUS 2 (!failing.isEmpty)
  fresh.foldl (fun s o => s.log 0x300F [outputCode o]) s

/-- R180: every 1 ms. -/
def execDelayLineRecal (failing : List (Fin 48)) (s : State) : Res :=
  .next (s.on .edge fun s => if s.since s.edg.recalAt < cyclesMs then s else recalibrate failing s)

/-- R180: a heartbeat on every edge line, every 256 core cycles. -/
def execEdgeHeartbeat (s : State) : Res :=
  .next (s.on .edge fun s =>
    if s.since s.edg.beatAt < 256 then s
    else
      let s := s.modEdg fun e => { e with heartbeats := e.heartbeats + 1, beatAt := s.now }
      s.modGdv fun g => { g with heartbeat := Vector.replicate 6 s.now })

/-! ### Guard and raw override -/

/-- Whether a guard watches a pair: both outputs on one driver die, or both on fibre ports or logic outputs (R182, R184);
answers the die, 1 to 6, or 0 for the edge island. -/
def guardOf (s : State) (c : ChanId) : Option Nat :=
  match destsOf s c true, destsOf s c false with
  | [a], [b] => if a < 12 ∧ b < 12 then some (a / 2 + 1) else if 12 ≤ a ∧ 12 ≤ b then some 0 else none
  | _, _ => none

/-- An intervention of the guard (R184). -/
def guardActs (c : ChanId) (die : Nat) (s : State) : State :=
  ((s.setBit (Obj.EDG_CH_STATUS c) 4 true).bump (Obj.EDG_CH_GUARD_COUNT c)).log 0x3007 [c.val + 1, die]

/-- One output turns on under raw override, no earlier than G after the other turned off. -/
def rawTurnOn (c : ChanId) (hi : Bool) (after : Nat) (s : State) : State :=
  let held := if hi then heldHigh s c else heldLow s c
  if held then s else settle c (s.modCh c fun h => { h with edges := insertEdge ⟨max (now32 s) after, hi, true⟩ h.edges })

/-- The raw commands of one channel act, through the guard (R184, R185); a driver die's guard acts on an interval shorter than G − 2 ns (R208). -/
def rawApply (s : State) (c : ChanId) : State :=
  let hi := s.edg.rawHigh / 2 ^ c.val % 2 = 1
  let lo := s.edg.rawLow / 2 ^ c.val % 2 = 1
  let s := settle c s
  let g := guardFloor s c
  let t := now32 s
  match guardOf s c with
  | some die =>
    if hi ∧ lo then
      let s := if s.edg.ch[c].conflict then s else guardActs c die s
      (outputsOff c s).modCh c fun h => { h with conflict := true }
    else if s.edg.ch[c].conflict then
      let s := (outputsOff c s).modCh c fun h => { h with conflict := false }
      let s := if hi then rawTurnOn c true (t + g) s else s
      if lo then rawTurnOn c false (t + g) s else s
    else
      let h0 := s.edg.ch[c]
      if (hi ∧ h0.high) ∨ (lo ∧ h0.low) then s
      else
        let s := outputsOff c s
        let h := s.edg.ch[c]
        let off := if hi then h.lowOff else h.highOff
        let soon := decide (off ≠ 0) && decide (t < off + g) && (die == 0 || decide (t * 10000 + 262144 < (off + g) * 10000))
          && (decide hi || decide lo)
        let s := if soon then guardActs c die s else s
        let after := if soon then off + g else t
        let s := if hi then rawTurnOn c true after s else s
        if lo then rawTurnOn c false after s else s
  | none =>
    let s := outputsOff c s
    let s := if hi then rawTurnOn c true t s else s
    if lo then rawTurnOn c false t s else s

/-- The raw words act on every channel. -/
def rawAll (s : State) : State := allChans.foldl rawApply s

/-- Raw override starts or ends (R185). -/
def rawSet (on : Bool) (s : State) : State :=
  if s.edg.raw = on then s
  else
    let s := allChans.foldl (fun s c => (outputsOff c s).modCh c fun h => { h with conflict := false }) s
    let s := s.modEdg fun e => { e with raw := on, rawHigh := s.objN Obj.EDG_RAW_HIGH, rawLow := s.objN Obj.EDG_RAW_LOW }
    let s := (s.setN Obj.EDG_RAW_ENABLE (boolNat on)).setBit Obj.EDG_STATUS 0 on
    let s := allChans.foldl (fun s c => s.setBit (Obj.EDG_CH_STATUS c) 5 on) s
    let s := s.log 0x300D [boolNat on]
    if on then rawAll s else s

/-- EDG_RAW_ENABLE, in READY with service access (R185). Answers the abort code. -/
def rawEnable (on : Bool) (w : Writer) (s : State) : Nat × State :=
  if !serviceOk s w then (0x08000021, s) else if s.mod.mode != .ready then (0x08000022, s) else (0, rawSet on s)

def execRawOverrideEnable (on : Bool) (w : Writer) (s : State) : Res := .next (request w Obj.EDG_RAW_ENABLE .edge (rawEnable on w) s)

/-- R185: raw words are written; they act while raw override is in force. -/
def rawWrite (low : Bool) (mask : Nat) (s : State) : State :=
  let m := mask % 16777216
  let s := if low then (s.setN Obj.EDG_RAW_LOW m).modEdg fun e => { e with rawLow := m }
    else (s.setN Obj.EDG_RAW_HIGH m).modEdg fun e => { e with rawHigh := m }
  if s.edg.raw then rawAll s else s

/-- A raw word is written; refused while running and with reserved bits set. -/
def rawWord (low : Bool) (mask : Nat) (s : State) : Nat × State :=
  if s.mod.mode.running then (0x08000022, s) else if mask < 16777216 then (0, rawWrite low mask s) else (0x06090030, s)

def execRawOutputWrite (low : Bool) (mask : Nat) (w : Writer) (s : State) : Res :=
  .next (request w (if low then Obj.EDG_RAW_LOW else Obj.EDG_RAW_HIGH) .edge (owned w (rawWord low mask)) s)

/-! ### The configuration check of R183 -/

/-- A channel's routing meets R182 and R211. -/
def routingOk (s : State) (c : ChanId) : Bool :=
  let hi := destsOf s c true
  let lo := destsOf s c false
  let one := decide (hi.length ≤ 1) && decide (lo.length ≤ 1)
  let hiOk := hi.all fun a => decide (12 ≤ a) || decide (a % 2 = 0)
  let loOk := lo.all fun b => decide (12 ≤ b) || decide (b % 2 = 1)
  let pair := hi.all fun a => lo.all fun b => (decide (12 ≤ a) && decide (12 ≤ b)) || (decide (a < 12) && decide (b < 12) && decide (a / 2 = b / 2))
  let boot := (bootOf s c).isNone || !lo.isEmpty
  one && hiOk && loOk && pair && boot

/-- The first condition of R183 that a stage fails, counted from 1 in the order of its list. -/
def edgeCheck (s : State) (n : StageId) : Option Nat :=
  let cs := stageChans s n
  let tb : TbId := Fin.ofNat 8 (s.objN (Obj.PIE_TIMEBASE n))
  let count := match s.pie[n].graph with
    | some g => decide (1 ≤ g.channels) && decide (g.channels ≤ 12) && (g.channels == cs.length || (isViaduct s && decide (cs.length ≤ g.channels)))
    | none => false
  let tbs := cs.all fun c => chanTb s c == tb
  let points := cs.all fun c => [false, true].all fun pk => !samplesAt s tb pk || reloadsAt s c pk
  let routes := cs.all (routingOk s)
  let blanks := allGroups.all fun g => match grpBlankCh s g with
    | some c => !cs.contains c || (grpStages s g).all fun m => m == n
    | none => true
  let homes := allGroups.all fun g => !(cs.any (grpHasChan s g)) ||
    (List.finRange 76).all fun x => !groupHolds s g x.val || (match idOf 24 (s.objN (Obj.EDG_SRC_HOME x.val)) with | some c => grpHasChan s g c | none => true)
  let reloads := cs.all fun c => reloadsAt s c false || reloadsAt s c true
  if !count then some 1 else if !tbs then some 2 else if !points then some 3 else if !routes then some 4
  else if !blanks then some 5 else if !homes then some 6 else if !reloads then some 7 else none

end Sys2Proof.Machine
end

