-- ==== Sys2Proof/Machine/Gate.lean ====
section
/-!
DEFINITION. Chapter 9: the driver dies and fibre ports: safe-state pattern (R209), rail lock-out (R202), desaturation with its
soft turn-off and clamp (R204 to R207), the power estimate (R203), off-state test results (R215), acknowledges and head
faults (R217 to R219).
-/

namespace Sys2Proof.Machine

/-- The die of a driver channel and its two channels. -/
def dieOf (d : DrvId) : GdId := ⟨d.val / 2, by omega⟩
def dieChans (g : GdId) : List DrvId := allDrvs.filter fun d => dieOf d == g

def desatSrc (d : DrvId) : SrcId := ⟨56 + d.val, by omega⟩
def portSrc (p : PortId) : SrcId := ⟨68 + p.val, by omega⟩

/-! ### Safe-state pattern -/

/-- A driver channel's bit of the pattern: it carries the low output of a channel of a stage with SAFE_STATE = 1 (R209). -/
def patternBit (s : State) (d : DrvId) : Bool :=
  match drvOutput s d with
  | some (c, false) => (match chanStage s c with | some n => s.activeShort n | none => false)
  | _ => false

/-- R209: at entry into CHARGE the pattern is derived and written into every driver primary. -/
def derivePattern (s : State) : State := s.setN Obj.GDV_SAFE_PATTERN (maskOf ((allDrvs.filter (patternBit s)).map Fin.val))

/-- Core cycles in the 2 µs of the watchdogs of R25 and R209. -/
def watchdogCycles : Nat := 820

/-- No heartbeat, and no toggle of pulse enable, for 2 µs at a die. -/
def heartbeatLost (s : State) (g : GdId) : Bool := decide (watchdogCycles ≤ s.since s.gdv.heartbeat[g])
def pulseLapsed (s : State) (g : GdId) : Bool := !s.isl.pulseEnable[g] && decide (watchdogCycles ≤ s.since s.isl.pulseLost[g])

/-- The other channel of a driver channel's die. -/
def dieMate (d : DrvId) : DrvId := if d.val % 2 = 0 then ⟨(d.val + 1) % 12, by omega⟩ else ⟨d.val - 1, by omega⟩

/-- When the gate of a driver channel was last turned off, in 1/32 core cycle: now, where it is on. -/
def turnedOff (s : State) (d : DrvId) : Nat :=
  match drvOutput s d with
  | some (c, hi) =>
    let h := s.edg.ch[c]
    if hi then (if h.high then now32 s else h.highOff) else (if h.low then now32 s else h.lowOff)
  | none => 0

/-- R209: a primary applies its pattern: every channel off, then those whose bit is 1 on after G from the turn-off of the die's other channel,
unless latched by desaturation. `why`: 0 heartbeat, 1 pulse enable, 2 neither module drives (R414). -/
def applyPattern (g : GdId) (why : Nat) (s : State) : State :=
  let t := now32 s
  let s := (dieChans g).foldl (fun s d =>
    let s := match drvOutput s d with | some (c, _) => if s.fenced .edge then s else settle c s | none => s
    let bit := s.field Obj.GDV_SAFE_PATTERN d.val 1 == 1
    let latched := s.bit (Obj.GDV_CH_STATUS d) 1
    let g32 := (s.objN (Obj.GDV_DIE_GUARD g.val) * 131072 + 9999) / 10000
    let on := max t (turnedOff s (dieMate d) + g32)
    let s := s.modDrv d fun x => { x with patOn := if bit && !latched then some on else none }
    (s.setBit (Obj.GDV_CH_STATUS d) 4 true).setBit (Obj.GDV_CH_STATUS d) 0 false) s
  let s := s.modGdv fun x => { x with pattern := x.pattern.set g true }
  (s.setBit Obj.GDV_STATUS (2 + g.val) true).log 0x3017 [g.val + 1, why]

def execSafePatternApply (g : GdId) (s : State) : Res :=
  .next (s.on (.gdPrimary g) fun s =>
    if s.gdv.pattern[g] || !(heartbeatLost s g || pulseLapsed s g) then s
    else applyPattern g (boolNat (!heartbeatLost s g)) s)

/-- A primary leaves its pattern once no cause for it stands: heartbeats, pulse-enable toggles, and a module that drives (R209, R414). -/
def leavePattern (g : GdId) (s : State) : State :=
  if !s.gdv.pattern[g] || heartbeatLost s g || !s.isl.pulseEnable[g] || s.gdv.noHolder[g] then s
  else
    let s := (s.modGdv fun x => { x with pattern := x.pattern.set g false }).setBit Obj.GDV_STATUS (2 + g.val) false
    (dieChans g).foldl (fun s d =>
      let s := (s.modDrv d fun x => { x with patOn := none }).setBit (Obj.GDV_CH_STATUS d) 4 false
      match drvOutput s d with | some (c, _) => settle c s | none => s) s

/-- R209: heartbeats and pulse-enable toggles have returned. -/
def execSafePatternLeave (g : GdId) (s : State) : Res := .next (s.on (.gdPrimary g) (leavePattern g))

/-- GDV_CH_STATUS.ON of a channel that holds the pattern. -/
def patternOn (s : State) (d : DrvId) : Bool := match s.gdv.drv[d].patOn with | some t => decide (t ≤ now32 s) | none => false

/-! ### Rail lock-out and power -/

/-- The stages that use an integrated driver channel. -/
def driverStages (s : State) : List StageId := allStages.filter fun n => !(stageDrivers s n).isEmpty

/-- R202: the rail has stood below 19.0 V for 2 µs or more: every channel is held off, and the stages that use one go to SAFE. -/
def execGdUvloEntry (rd : Reading) (s : State) : Res :=
  .next (if !s.mod.powered || s.gdv.uvlo || decide (19 ≤ rd.value) || decide (rd.held < 2000) then s
  else
    let stages := driverStages s
    let s := (s.modGdv fun g => { g with uvlo := true, uvloAt := s.now }).setR Obj.GDV_RAIL_V rd.value
    let s := (s.setBit Obj.GDV_STATUS 0 true).log 0x3010 [rd.value, maskOf (stages.map Fin.val)]
    let s := allDrvs.foldl (fun s d => s.setBit (Obj.GDV_CH_STATUS d) 0 false) s
    stages.foldl (fun s n => stageSafe n 0x3010 s) s)

/-- R202: the rail has stood above 20.5 V for 1 ms, and so not within 1 ms of the entry. -/
def execGdUvloExit (s : State) : Res :=
  .next (if !s.mod.powered || !s.gdv.uvlo || decide (s.since s.gdv.uvloAt < cyclesMs) then s
  else
    let d := s.since s.gdv.uvloAt
    let s := s.modGdv fun g => { g with uvlo := false }
    (s.setBit Obj.GDV_STATUS 0 false).log 0x3011 [d])

/-- P_ch of R203 in W: turn-ons twice per update period, or per reload interval under PATTERN 1. -/
def channelPower (s : State) (n : StageId) (d : DrvId) : Rat :=
  match drvOutput s d with
  | none => 0
  | some (c, _) =>
    let cycles := if chanRepeats s c then reloadInterval s c else s.tu n
    let v := mkRat (s.objI (Obj.GDV_CH_VON d) - s.objI (Obj.GDV_CH_VOFF d)) 10
    let qg := mkRat (s.objI (Obj.GDV_CH_QG d)) 1000000000
    (if cycles = 0 then 0 else qg * v * mkRat 819200000 cycles) + mkRat 15 100

/-- The budget in force: 0.6 W while the gate-drive limit is reported (R203). -/
def gateBudget (s : State) : Rat := if s.bit Obj.GDV_STATUS 1 then mkRat 6 10 else mkRat 15 10

/-- The first integrated channel of a stage, on its isolated supply, above a budget (R203, R211). -/
def overBudget (s : State) (n : StageId) (budget : Rat) : Option (DrvId × Rat) :=
  (((stageDrivers s n).filter fun d => !s.bit (Obj.GDV_CH_CFG d) 2).map fun d => (d, channelPower s n d)).find? fun e => decide (budget < e.2)

/-- The timing check of R217: the first channel of a stage routed to a fibre port with a minimum pulse below 1.2 µs. -/
def portTiming (s : State) (n : StageId) : Option ChanId :=
  (stageChans s n).find? fun c =>
    ((destsOf s c true ++ destsOf s c false).any fun j => decide (12 ≤ j) && decide (j < 20))
      && decide (s.objN (Obj.EDG_CH_MIN_PULSE c) * 100 < 1572864)

/-! ### Desaturation -/

/-- The gate is commanded on: by its edge line, gated by GRANT and pulse enable (R414), or by the pattern its die holds; a desaturation latch
ignores turn-on commands (R206). Behind a fenced primary or secondary, without power or in lock-out the pull-down holds it off, never shorted
(R26, R210, Table 1.8), and it is held off while its supply moves (R201). -/
def gateOn (s : State) (d : DrvId) : Bool :=
  if !s.mod.powered || s.gdv.uvlo || railMoving s d || s.bit (Obj.GDV_CH_STATUS d) 1 || s.fenced (.gdPrimary (dieOf d)) || s.fenced (.gdSecondary d) then false
  else if s.gdv.pattern[dieOf d] then patternOn s d
  else if !grantNow s || !s.isl.pulseEnable[dieOf d] then false
  else match drvOutput s d with
    | some (c, hi) => let h := (settle c s).edg.ch[c]; if hi then h.high else h.low
    | none => false

/-- The GI output of a driver channel in V referred to SRC (R461): +15 V while its secondary is supplied and its primary holds GRANT or applies
the no-holder pattern of R414, else 0 V. The secondary is supplied while the module is powered and the rail is not locked out (DEDUCED, log 123). -/
def gateIsolate (s : State) (d : DrvId) : Int :=
  if s.mod.powered && !s.gdv.uvlo && !s.fenced (.gdPrimary (dieOf d)) && (grantNow s || s.gdv.noHolder[dieOf d]) then 15 else 0

/-- The gate's off-state level in V (R201). -/
def offLevel (s : State) (d : DrvId) : Rat := if bootstrapped s d then 0 else s.gdv.drv[d].voff.at_ s.now

/-- The gate's level above its source in V, as its paths drive it (R201, R206): V_on, V_off, or the first level of a soft turn-off; in bootstrap
mode what stands at VBS, which the module never measures (R211), is `vbs`. -/
def gateVolts (s : State) (d : DrvId) (vbs : Rat) : Rat :=
  if s.gdv.drv[d].gate == .soft then mkRat (s.objI (Obj.GDV_STO_LEVEL d)) 10
  else if gateOn s d then (if bootstrapped s d then vbs else s.gdv.drv[d].von.at_ s.now)
  else offLevel s d

/-- When the gate's present turn-on command came, in 1/32 core cycle. -/
def turnedOn (s : State) (d : DrvId) : Nat :=
  if s.gdv.pattern[dieOf d] then s.gdv.drv[d].patOn.getD 0
  else match drvOutput s d with
    | some (c, hi) => let h := (settle c s).edg.ch[c]; if hi then h.highOn else h.lowOn
    | none => 0

/-- R205: the comparator is armed: on, with GDV_DESAT_BLANK elapsed since the turn-on command for as long as the pin has stood, which is above
GDV_DESAT_V for the 100 ns of the filter. -/
def desatSeen (s : State) (d : DrvId) (volts : Rat) (held : Nat) : Bool :=
  gateOn s d && grantNow s && decide (mkRat (s.objI (Obj.GDV_DESAT_V d)) 10 < volts) && decide (100 ≤ held)
    && decide ((s.objN (Obj.GDV_DESAT_BLANK d) + 100) * 131072 ≤ (now32 s - turnedOn s d) * 10000)

/-- R205, R206: detection at a DESAT pin that has stood at a level for so many ns: the first level of the soft turn-off, the latch, the trip
source and SAFE. -/
def execDesatDetect (rd : Measured DrvId Reading) (s : State) : Res :=
  .next (s.on (.gdSecondary rd.unit) fun s =>
    if !s.bit (Obj.GDV_CH_CFG rd.unit) 1 || s.bit (Obj.GDV_CH_STATUS rd.unit) 1 || !desatSeen s rd.unit rd.val.value rd.val.held then s
    else
      let s := s.modDrv rd.unit fun x => { x with gate := .soft, since := s.now, stoTime := s.objN (Obj.GDV_STO_TIME rd.unit), patOn := none }
      let s := ((s.setBit (Obj.GDV_CH_STATUS rd.unit) 1 true).setBit (Obj.GDV_CH_STATUS rd.unit) 2 true).setBit (Obj.GDV_CH_STATUS rd.unit) 3 false
      let s := (s.bump (Obj.GDV_DESAT_COUNT rd.unit)).log 0x3012 [rd.unit.val + 1, s.now]
      let s := sourceActive (desatSrc rd.unit) s
      match drvStage s rd.unit with | some n => stageSafe n 0x3012 s | none => s)

/-- R206: after GDV_STO_TIME the gate is driven to V_off. -/
def execSoftTurnoffSecondLevel (d : DrvId) (s : State) : Res :=
  .next (s.on (.gdSecondary d) fun s =>
    if s.gdv.drv[d].gate == .soft && decide (s.gdv.drv[d].stoTime * 4096 ≤ s.since s.gdv.drv[d].since * 10000) then
      (s.modDrv d fun x => { x with gate := .second }).setBit (Obj.GDV_CH_STATUS d) 2 false
    else s)

/-- R204, R206: the gate, commanded off, has fallen below V_off + 2.0 V. -/
def execMillerClampEngage (rd : Measured DrvId Rat) (s : State) : Res :=
  .next (s.on (.gdSecondary rd.unit) fun s =>
    let x := s.gdv.drv[rd.unit]
    let off := x.gate == .second || x.gate == .latched || (x.gate == .follow && !gateOn s rd.unit)
    if !s.bit (Obj.GDV_CH_CFG rd.unit) 0 || !off || !grantNow s || decide (offLevel s rd.unit + 2 ≤ rd.val) then s
    else
      (s.modDrv rd.unit fun x => { x with gate := if x.gate == .second then .latched else x.gate }).setBit (Obj.GDV_CH_STATUS rd.unit) 3 true)

/-- Whether the owning stage, if any, is OFF or SAFE (R207, R219). -/
def restingStage (s : State) (n : Option StageId) : Bool :=
  match n with | some n => s.stageSt n == .off || s.stageSt n == .safe | none => true

/-- R207: the latch is released and its source falls. Answers whether the command was accepted. -/
def clearDesatCmd (d : DrvId) (s : State) : Bool × State :=
  if !restingStage s (drvStage s d) then (false, s)
  else if !s.bit (Obj.GDV_CH_STATUS d) 1 then (true, s)
  else
    let s := s.modDrv d fun x => { x with gate := .follow }
    let s := (s.setBit (Obj.GDV_CH_STATUS d) 1 false).setBit (Obj.GDV_CH_STATUS d) 2 false
    (true, sourceInactive (desatSrc d) (s.log 0x3018 [d.val + 1]))

def execClearDesat (d : DrvId) (w : Writer) (s : State) : Res :=
  .next (request w (Obj.GDV_CH_CMD d) (.gdPrimary (dieOf d)) (owned w fun s => accepted (clearDesatCmd d s)) s)

/-! ### Off-state test -/

/-- The link of a stage reads at least MOD_DIAG_LEVEL. -/
def linkForDiag (s : State) (n : StageId) : Bool := decide (mkRat (s.objI Obj.MOD_DIAG_LEVEL) 1000 ≤ s.mod.link[n])

/-- A stage's off-state test begins. -/
def startDiag (n : StageId) (s : State) : State := s.modStage n fun c => { c with diagSince := some s.now }

/-- R215: GDV_DIAG_CMD, in READY with service access. Answers the abort code. -/
def diagCmd (n : StageId) (w : Writer) (s : State) : Nat × State :=
  if !serviceOk s w then (0x08000021, s)
  else if s.mod.mode == .ready && !s.edg.raw && linkForDiag s n then (0, startDiag n s) else (0x08000022, s)

def execGdDiagCmd (n : StageId) (w : Writer) (s : State) : Res := .next (request w (Obj.GDV_DIAG_CMD n) .keystone (diagCmd n w) s)

/-- The result of one leg (R215); the readings at the inputs become volts at the phase node by GDV_DIAG_GAIN (R214). -/
def legCode (s : State) (n : StageId) (r : DiagReading) (i : Fin 4) : Nat :=
  let gain := s.objR (Obj.GDV_DIAG_GAIN n)
  let swing (driven leg : Fin 4) : Rat := absR (gain * (r.plus[driven][leg] - r.minus[driven][leg]))
  let v0 := gain * r.v0[i]
  let lim := mkRat (s.objI (Obj.GDV_DIAG_SWING n)) 1000
  let pct := s.objN (Obj.GDV_DIAG_FOLLOW n)
  let follows := (List.finRange 4).any fun j =>
    j != i && s.objN (Obj.GDV_DIAG_SENSE n j.val) != 0 && decide (mkRat pct 100 * swing i i ≤ swing i j)
  if mkRat 9 10 * r.vdc ≤ v0 ∧ swing i i < lim then 1
  else if v0 ≤ mkRat 1 10 * r.vdc ∧ swing i i < lim then 2
  else if 0 < pct ∧ !follows then 3
  else 0

/-- GDV_DIAG_RESULT of a test (R215); legs that GDV_DIAG_SENSE does not name are absent. -/
def diagWord (s : State) (n : StageId) (r : DiagReading) : Nat :=
  (List.finRange 4).foldl (fun w i => if s.objN (Obj.GDV_DIAG_SENSE n i.val) = 0 then w else w + legCode s n r i * 16 ^ i.val) 0

/-! ### Fibre ports -/

/-- A port is in use (Table 9.11). -/
def portOn (s : State) (p : PortId) : Bool := s.bit (Obj.GDV_PORT_CFG p) 0

/-- The edges of the port's channel up to now have taken place. -/
def settlePort (p : PortId) (s : State) : State := match portOutput s p with | some (c, _) => settle c s | none => s

def showPending (p : PortId) (s : State) : State := s.setBit (Obj.GDV_PORT_STATUS p) 1 (!s.gdv.port[p].pendingOn.isEmpty)

/-- A port's stage goes to SAFE. -/
def portSafe (p : PortId) (cause : Nat) (s : State) : State := match portStage s p with | some n => stageSafe n cause s | none => s

/-- The keystone permits a port's transmitter (R33, R414): GRANT, and pulse enable as it stands for the port's stage. -/
def portPermitted (s : State) (p : PortId) : Bool :=
  grantNow s && keystoneGrants s && !s.saf.pending && coverClosed s
    && match portStage s p with | some n => !(s.saf.removed.contains n || demandOn s n) | none => true

/-- Forward light is on (R216, R414): the port in use, permitted, and its edge line on. -/
def portLit (s : State) (p : PortId) : Bool :=
  s.mod.powered && !s.fenced .edge && portOn s p && portPermitted s p &&
    match portOutput s p with
    | some (c, hi) => let h := (settle c s).edg.ch[c]; if hi then h.high else h.low
    | none => false

/-- A missing acknowledge (R217). -/
def ackMissing (p : PortId) (turnOn : Nat) (s : State) : State :=
  let s := s.modPort p fun f => { f with pendingOn := f.pendingOn.tail, fault := true }
  let s := ((showPending p s).setBit (Obj.GDV_PORT_STATUS p) 2 true).bump (Obj.GDV_PORT_ACK_MISSING p)
  portSafe p 0x3016 (sourceActive (portSrc p) (s.log 0x3016 [p.val + 1, (turnOn / 32 : Nat)]))

/-- A duration in ns in 1/32 core cycle, rounded down. -/
def ns32 (n : Nat) : Nat := n * 131072 / 10000

/-- R217: a return light pulse of a length in ns, ending now; its rising edge must fall within 1 µs of the oldest unanswered turn-on. A module
without GRANT ignores acknowledges (R414). -/
def execAckPulseReceived (p : PortId) (ns : Nat) (s : State) : Res :=
  .next (s.on .edge fun s =>
    if !portOn s p || !grantNow s then s
    else
      let s := settlePort p s
      match s.gdv.port[p].pendingOn with
      | [] => s.setBit (Obj.GDV_PORT_STATUS p) 4 true
      | t :: _ =>
        let late := decide (t + 13107 < now32 s - ns32 ns)
        if 150 ≤ ns ∧ ns ≤ 400 ∧ !late then showPending p (s.modPort p fun f => { f with pendingOn := f.pendingOn.tail })
        else if (400 < ns ∧ ns < 2000) ∨ late then ackMissing p t s
        else s)

/-- R217: a turn-on without a valid acknowledge, 20 ns after its window of 1 µs has closed. -/
def execAckWindowExpiry (p : PortId) (s : State) : Res :=
  .next (s.on .edge fun s =>
    if !portOn s p || !grantNow s then s
    else
      let s := settlePort p s
      match s.gdv.port[p].pendingOn with
      | [] => s
      | t :: _ => if t + ns32 1020 < now32 s then ackMissing p t s else s)

/-- R218: return light has been held for so many ns: a head fault 20 ns after 2 µs. -/
def execHeadFaultDetect (rd : Measured PortId Nat) (s : State) : Res :=
  .next (s.on .edge fun s =>
    if !portOn s rd.unit || decide (rd.val < 2020) then s
    else
      let code := s.bit (Obj.GDV_PORT_CFG rd.unit) 1
      let s := s.modPort rd.unit fun f => { f with fault := true, codeDue := code }
      let s := (s.setBit (Obj.GDV_PORT_STATUS rd.unit) 3 true).bump (Obj.GDV_PORT_FAULTS rd.unit)
      let s := if code then s else (s.setN (Obj.GDV_PORT_LAST_CODE rd.unit) 16).log 0x3015 [rd.unit.val + 1, 16]
      portSafe rd.unit 0x3015 (sourceActive (portSrc rd.unit) s))

/-- Successive pulses stand at a pitch of 1 µs ± 200 ns (R218). -/
def pitchOk : List Nat → Bool
  | a :: b :: t => decide (a + 800 ≤ b) && decide (b ≤ a + 1200) && pitchOk (b :: t)
  | _ => true

/-- The code a head sends, 16 where it breaks the timing or exceeds 15 (R218). -/
def headCode (c : HeadCode) : Nat :=
  let n := c.rises.length
  if 2000 ≤ c.dark ∧ pitchOk c.rises ∧ 1 ≤ n ∧ n ≤ 15 then n else 16

/-- R218: a dark interval of 5 µs ends the code. -/
def execHeadCodeReceived (p : PortId) (code : HeadCode) (s : State) : Res :=
  .next (s.on .edge fun s =>
    if !s.gdv.port[p].codeDue || decide (code.tail < 5000) then s
    else
      let n := headCode code
      let s := s.modPort p fun f => { f with codeDue := false }
      (s.setN (Obj.GDV_PORT_LAST_CODE p) n).log 0x3015 [p.val + 1, n])

/-- R219: a port is cleared. Answers whether the command was accepted. -/
def clearPortCmd (p : PortId) (dark : Bool) (s : State) : Bool × State :=
  if !dark || !restingStage s (portStage s p) then (false, s)
  else
    let was := s.gdv.port[p].fault
    let s := s.modPort p fun f => { f with fault := false, codeDue := false }
    let s := s.setField (Obj.GDV_PORT_STATUS p) 2 3 0
    (true, if was then sourceInactive (portSrc p) (s.log 0x3018 [p.val + 1]) else s)

def execClearPort (p : PortId) (dark : Bool) (w : Writer) (s : State) : Res :=
  .next (request w (Obj.GDV_PORT_CMD p) .edge (owned w fun s => accepted (clearPortCmd p dark s)) s)

end Sys2Proof.Machine
end

