-- ==== Sys2Proof/Machine/Acq.lean ====
section
/-!
DEFINITION. Chapter 10: conversions and window averages (R228 to R235), self-calibration, diagnosis and tracking (R238 to R242),
substitution (R243, R244), sigma-delta inputs (R246), filter chains (R247 to R253), the check of R254, and the sample
trigger (R173) that confirms windows.
-/

namespace Sys2Proof.Machine

/-! ### Sample triggers and the window schedule -/

/-- The scheduled sample points of a running timebase around now: the last zero point, the points of the period before and of
the two after it (R172, R174, R230). -/
def schedule (s : State) (t : TbId) : List Int :=
  let x := s.edg.tb[t]
  let z : Int := x.lastZero
  let p : Int := s.objI (Obj.EDG_TB_PERIOD t)
  let next := z + p + x.stretch
  let zeros : List Int := [z - p, z, next]
  let peaks : List Int := [z - p / 2, z + p / 2 + x.stretch, next + p / 2]
  if !x.running then [] else (if samplesAt s t false then zeros else []) ++ (if samplesAt s t true then peaks else [])

/-- The scheduled point nearest to an instant. -/
def nearest (x : Int) : List Int → Option Int
  | [] => none
  | a :: l => match nearest x l with
    | none => some a
    | some b => if (a - x).natAbs ≤ (b - x).natAbs then some a else some b

/-- The window channels of a timebase. -/
def windowChans (s : State) (t : TbId) : List AdcId := startedBy s 1 t.val

/-- R173: a sample trigger, six cycles before its sample instant: every pier of the timebase whose update period begins takes
it, and a trigger off its schedule marks the windows it belongs to (R230). In a pair the sample count is that of twin time (R406). -/
def sampleTrigger (tb : TbId) (s : State) : State :=
  if !s.edg.tb[tb].running then s
  else
    let t0 := s.now + 6
    let iv := sampleInterval s tb
    let m := if s.twn.mode = 0 ∨ iv = 0 then s.edg.tb[tb].triggers else (ttCycles s t0 - s.objN (Obj.EDG_TB_OFFSET tb)) / iv
    let due := nearest (t0 : Int) (schedule s tb)
    let s := s.modTb tb fun x => { x with triggers := x.triggers + 1, trigFor := t0 }
    let s := match due with
      | some d =>
        if 1 < (d - t0).natAbs && !s.fenced .sample then
          (windowChans s tb).foldl (fun s c => (s.modAdc c fun a => { a with winBad := some d.toNat }).log 0x4008 [c.val + 1, tb.val, (t0 : Int) - d]) s
        else s
      | none => s
    allStages.foldl (fun s n =>
      let per := if iv = 0 then 0 else s.tu n / iv
      if s.objN (Obj.PIE_TIMEBASE n) = tb.val ∧ s.stype n ≠ .none ∧ per ≠ 0 ∧ m % per = 0 ∧ !s.fenced (.pier n) then
        s.modPier n fun p => { p with k := m / per, t0 := t0 }
      else s) s

def execSampleTrigger (tb : TbId) (s : State) : Res := .next (s.on .edge (sampleTrigger tb))

/-! ### Values and words -/

/-- Clamp a code to 16 bits. -/
def sat16 (x : Int) : Int := clampI x (-32768) 32767
def sat24 (x : Int) : Int := clampI x (-8388608) 8388607

/-- Division by 2^n rounded half up. -/
def shiftRound (x : Int) (n : Nat) : Int := if n = 0 then x else (x + 2 ^ (n - 1)) / 2 ^ n

/-- The value word of a result of b significant bits (R233). -/
def formatWord (b format : Nat) (left offset : Bool) (v : Int) : Int :=
  let w := wordWidth format
  let v := if offset then v + 2 ^ (b - 1) else v
  let (b, v) := if w < b then
      let r := shiftRound v (b - w)
      (w, if offset then clampI r 0 (2 ^ w - 1) else clampI r (-(2 ^ (w - 1))) (2 ^ (w - 1) - 1))
    else (b, v)
  (if left then v * 2 ^ (w - b) else v) % 2 ^ w

/-- Full scale of a SAR input in V or mA (Table 10.1). -/
def fullScale (s : State) (c : AdcId) : Rat := if s.field (Obj.ACQ_CH_CFG c) 0 2 = 2 then 100 else 10

/-- ACQ_STATUS.ANY_SUBST, ANY_BAD and ANY_SD_FAULT (Table 10.12). -/
def showAcq (s : State) : State :=
  let s := s.setBit Obj.ACQ_STATUS 3 (allAdcs.any fun c => s.acq.adc[c].subst)
  let bad := (allAdcs.any fun c => channelInUse s c && s.bit (Obj.ACQ_CH_STATUS c) 0) ||
    (allChains.any fun c => chainOn s c && s.bit (Obj.ACQ_FC_STATUS c) 8)
  let s := s.setBit Obj.ACQ_STATUS 4 bad
  s.setBit Obj.ACQ_STATUS 5 ((List.finRange 8).any fun k => s.acq.sdFault[k])

/-- Correction of a raw code (R238). -/
def correct (s : State) (c : AdcId) (raw : Int) : Int :=
  roundHalfUp (((raw : Rat) - s.acq.adc[c].offset / 16) * s.objR (Obj.ACQ_CAL_GAIN c))

/-- The ±2 mA source is connected to leg j of a stage: 4 ms from 4 + 4j ms of its test (Table 9.4). -/
def sourceOn (s : State) (n : StageId) (j : Nat) : Bool :=
  match s.stg[n].diagSince with
  | some t => decide ((4 + 4 * j) * cyclesMs ≤ s.since t) && decide (s.since t < (8 + 4 * j) * cyclesMs)
  | none => false

/-- The test DAC or the ±2 mA source is connected to a path (Table 10.4). -/
def underTest (s : State) (c : AdcId) : Bool :=
  s.acq.selfCal.isSome || (match s.acq.diag with | some (d, _, _) => d == c | none => false)
    || (allStages.any fun n => (List.range 4).any fun j => namesAdc s (Obj.GDV_DIAG_SENSE n j) c && sourceOn s n j)

/-- The quality byte of a conversion before substitution (Table 10.4). -/
def ownQuality (s : State) (c : AdcId) (overc : Bool) : Nat :=
  let failed := (s.bit (Obj.ACQ_CH_STATUS c) 8 && !hasSubstitute s c) || !wiredHere s c
  boolNat failed + 2 * boolNat overc + 32 * boolNat s.acq.adc[c].late + 64 * boolNat (underTest s c)
    + 128 * boolNat (s.bit (Obj.ACQ_CH_STATUS c) 10)

/-- The substitute formula on corrected codes (R243), with the quality it gives. -/
def substValue (s : State) (c : AdcId) (ca cb : Int × Nat) : Int × Nat :=
  if substKind s c = 1 then
    let v := roundHalfUp (s.objR (Obj.ACQ_SUBST_GAIN c) * (ca.1 : Rat))
    let sv := sat16 v
    (sv, (ca.2 ||| 4) ||| (if sv = v then 0 else 2))
  else
    let v := -(ca.1 + cb.1)
    let sv := sat16 v
    (sv, ((ca.2 ||| cb.2) ||| 4) ||| (if sv = v then 0 else 2))

/-- Latest code and quality of a channel named in a substitution. -/
def latestOf (s : State) (c : Option AdcId) : Int × Nat := match c with | some a => (s.acq.adc[a].code, s.acq.adc[a].quality) | none => (0, 0)

/-- The grid conversion of a channel that began at an instant. -/
def histAt (s : State) (c : Option AdcId) (start : Nat) : Option (Int × Nat) :=
  c.bind fun a => (s.acq.adc[a].hist.find? fun e => e.1 == start).map (·.2)

/-- A result is delivered: value word, stamp, quality; status and value objects follow (R234, R235). -/
def deliver (c : AdcId) (b : Nat) (v : Int) (stamp qual : Nat) (s : State) : State :=
  let cfg := s.objN (Obj.ACQ_CH_CFG c)
  let word := formatWord b (bitsAt cfg 2 2) (bitsAt cfg 4 1 == 1) (bitsAt cfg 5 1 == 1) v
  let s := s.modAdc c fun a => { a with result := some ⟨v, b, bitsAt cfg 2 4, word, stamp, qual⟩, late := false }
  let s := s.setR (Obj.ACQ_CH_VALUE c) (r32 (fullScale s c * mkRat v (2 ^ (b - 1))))
  showAcq (s.setField (Obj.ACQ_CH_STATUS c) 0 8 qual)

/-- The window average of R230, when the conversion just taken is the eighth of a window. -/
def windowAverage (c : AdcId) (s : State) : State :=
  let tb : TbId := Fin.ofNat 8 (startIndex s c)
  let h := s.acq.adc[c].hist
  match h with
  | (start, _, _) :: _ =>
    let hit := (schedule s tb).find? fun t0 => t0 + 224 == (start : Int)
    match hit with
    | none => s
    | some t0 =>
      if h.length = 8 ∧ (h.getLast?.map fun e => (e.1 : Int)) = some (t0 - 224) then
        let trig : Int := s.edg.tb[tb].trigFor
        let known := s.acq.adc[c].winBad == some t0.toNat
        let missed := decide (1 < (trig - t0).natAbs)
        let s := if missed && !known then s.log 0x4008 [c.val + 1, tb.val, trig - t0] else s
        let sum := h.foldl (fun z e => z + e.2.1) 0
        let qual := (h.foldl (fun q e => q ||| e.2.2) 0) ||| boolNat (missed || known)
        deliver c 19 sum t0.toNat qual (s.modAdc c fun a => { a with winBad := none })
      else s
  | [] => s

/-- Writes that waited for a channel's conversion boundary act (R232). -/
def takeAdcWrites (c : AdcId) (s : State) : State :=
  let mine (w : ObjCell) : Bool := w.1 / 256 == 0x4C10 + c.val
  let ws := s.commitWrites.filter mine
  let s := { s with commitWrites := s.commitWrites.filter fun w => !mine w }
  ws.foldl (State.setDue .nextCommit) s

/-- The concurrent conversion of a channel named in a substitution, or its latest where no grid keeps them together (R243). -/
def concurrent (s : State) (a : Option AdcId) (start : Nat) : Int × Nat := (histAt s a start).getD (latestOf s a)

/-- One corrected conversion of a channel, by raw code or by its substitute. -/
def convCode (c : AdcId) (raw : Int) (start : Nat) (s : State) : Int × Nat :=
  if s.acq.adc[c].subst then
    let r := substValue s c (concurrent s (substA s c) start) (concurrent s (substB s c) start)
    (r.1, r.2 ||| (32 * boolNat s.acq.adc[c].late))
  else
    let x := correct s c raw
    let v := sat16 x
    (v, ownQuality s c (decide (raw = -32768) || decide (raw = 32767) || decide (v ≠ x)))

/-- Whether a start of a continuous or window channel lies on its grid (Table 10.3, R230): Z + 64m, or t₀ + 32 + 64m. -/
def onGrid (s : State) (c : AdcId) (start : Nat) : Bool :=
  if startType s c = 0 then
    match s.edg.loadedAt with
    | some l => decide (firstZero s l ≤ start) && decide ((start - firstZero s l) % 64 = 0)
    | none => false
  else (schedule s (Fin.ofNat 8 (startIndex s c))).any fun t0 => decide (((start : Int) - t0 - 32) % 64 = 0)

/-- A corrected code and its quality stand as the channel's latest; an over-range one counts. -/
def noteCode (c : AdcId) (x : Int × Nat) (s : State) : State :=
  let s := s.modAdc c fun a => { a with code := x.1, quality := x.2 }
  if bitsAt x.2 1 1 = 1 then s.bump (Obj.ACQ_OVERRANGE_COUNT c) else s

/-! ### The quantity of a safe stop (R366) -/

/-- The voltage of a code as a fraction of full scale. -/
def codeFraction (v : Int) : Rat := mkRat v 32768

/-- Speed: the reciprocal of the time between the two latest rising zero crossings of u_ab, in units of SAF_SSD_BASE. A crossing counts when
the voltage has been 0.05 of full scale below zero since the last one (DESIGN CHOICE, log 162). -/
def ssdCrossing (n : StageId) (u : Rat) (start : Nat) (s : State) : State :=
  let q := s.saf.ssd[n]
  if u ≤ -(mkRat 5 100) then s.modSsd n fun q => { q with low := true }
  else if q.low && decide (0 ≤ u) then
    let x := match q.crossAt with
      | some t => r32 (mkRat (4096 * 100000) (start - t) / s.objR (Obj.SAF_SSD_BASE n))
      | none => q.x
    s.modSsd n fun q => { q with low := false, crossAt := some start, x := x }
  else s

/-- A conversion reaches the keystone directly: it enters the mean of its tick or, for a speed monitor, may be a crossing. -/
def ssdTake (c : AdcId) (v : Int) (start : Nat) (s : State) (n : StageId) : State :=
  if !s.isSsd n then s
  else if s.field (Obj.SAF_STAGE_CFG n) 2 1 = 1 then
    (if namesAdc s (Obj.SAF_SSD_CH n 0) c then ssdCrossing n (codeFraction v) start s else s)
  else
    (List.finRange 3).foldl (fun s (j : Fin 3) =>
      if namesAdc s (Obj.SAF_SSD_CH n j.val) c then
        s.modSsd n fun q => { q with sums := q.sums.set j (q.sums[j].1 + v, q.sums[j].2 + 1) }
      else s) s

def ssdFeed (c : AdcId) (v : Int) (start : Nat) (s : State) : State := allStages.foldl (ssdTake c v start) s

/-- A conversion of a continuous or window channel that began at an instant of its grid. -/
def gridConversion (c : AdcId) (raw : Int) (start : Nat) (s : State) : State :=
  let x := convCode c raw start s
  let s := (noteCode c x s).modAdc c fun a => { a with hist := ((start, x) :: a.hist).take 8 }
  let s := ssdFeed c x.1 start (feedChains c (x.1, x.2, start) s)
  takeAdcWrites c (if startType s c = 1 then windowAverage c s else deliver c 16 x.1 start x.2 s)

/-- A single conversion that a trigger or timer has started ends; one that was held begins (R231). -/
def singleConversion (c : AdcId) (raw : Int) (cv : ConvSt) (s : State) : State :=
  let x := convCode c raw cv.start s
  let s := takeAdcWrites c (deliver c 16 x.1 cv.start (x.2 ||| (16 * boolNat cv.off)) (noteCode c x s))
  s.modAdc c fun a => { a with conv := a.held.map fun h => { h with start := max h.start (cv.start + 64) }, held := none }

/-- R228: a conversion completes 64 cycles after its start, one at a time. -/
def conversionComplete (c : AdcId) (raw : Int) (s : State) : State :=
  let ty := startType s c
  let start := s.now - 64
  if ty = 0 ∨ ty = 1 then
    if onGrid s c start && (s.acq.adc[c].hist.head?.map (·.1)) != some start then gridConversion c raw start s else s
  else if ty = 2 ∨ ty = 3 then
    match s.acq.adc[c].conv with
    | some cv => if s.now < cv.start + 64 then s else singleConversion c raw cv s
    | none => s
  else s

def execConversionComplete (c : AdcId) (raw : Int) (s : State) : Res := .next (s.on .sample (conversionComplete c raw))

/-- The latest event of an acquisition timer up to now: Z + OFFSET + m × PERIOD; none before the first (R229). -/
def timerEvent (s : State) (t : Fin 4) : Option Nat :=
  s.edg.loadedAt.bind fun l =>
    let z := firstZero s l + s.objN (Obj.ACQ_TMR_OFFSET t.val)
    let p := s.objN (Obj.ACQ_TMR_PERIOD t.val)
    if s.now < z then none else some (s.now - (s.now - z) % p)

/-- R229: an event of an acquisition timer starts the channels assigned to it, each after its delay. -/
def execAcqTimerEvent (t : Fin 4) (s : State) : Res :=
  .next (s.on .sample fun s =>
    match timerEvent s t with
    | none => s
    | some e =>
      if s.acq.timer[t] = some e then s
      else
        let s := s.modAcq fun a => { a with timer := a.timer.set t (some e) }
        (startedBy s 3 t.val).foldl (fun s c => startConv (e + s.objN (Obj.ACQ_CH_DELAY c)) false s c) s)

/-! ### Self-calibration -/

/-- The test DAC is busy with self-calibration or a diagnosis (R242). -/
def dacBusy (s : State) : Bool := s.acq.selfCal.isSome || s.acq.diag.isSome

/-- Self-calibration starts (R238). -/
def startSelfCal (s : State) : State := (s.modAcq fun a => { a with selfCal := some s.now }).setBit Obj.ACQ_STATUS 0 true

/-- A channel's factors: offset in 1/16 LSB, and gain. -/
structure CalFactors where
  offset : Int
  gain : Rat
deriving DecidableEq, Repr

/-- R238: the offset is the reading at 0 V, the gain the ideal span between the ±80 % readings divided by the measured one; in current mode the
burden as measured in the factory completes it. Rounding, and that completion, are the model's (DESIGN CHOICE, log 158). -/
def calFactors (s : State) (c : AdcId) (r : DacReading) : CalFactors :=
  let span := mkRat 524288 10 / (r.plus - r.minus)
  let burden := if s.field (Obj.ACQ_CH_CFG c) 0 2 = 2 then 20 / Config.moduleReal (Obj.ACQ_BURDEN_R c.val) else 1
  ⟨roundHalfUp (16 * r.zero), r32 (span * burden)⟩

/-- R239: whether measured factors fail: offset beyond ±20 mV (1,048.576 sixteenths of an LSB), gain outside 0.99 to 1.01. -/
def calFails (f : CalFactors) : Bool :=
  decide (mkRat 1048576 1000 < absR (f.offset : Rat)) || decide (f.gain < mkRat 99 100) || decide (mkRat 101 100 < f.gain)

/-- One channel's result (R238, R239); a channel that calibrates again after a failure is a step for its chains, whose input leaves BAD
(R251). -/
def calOne (s : State) (c : AdcId) (f : CalFactors) : State :=
  if calFails f then
    let s := (s.setBit (Obj.ACQ_CH_STATUS c) 8 true).log 0x4001 [c.val + 1, f.offset, f.gain]
    if !channelInUse s c then s
    else if hasSubstitute s c then substitute c 1 s
    else if s.mod.mode == .survey then demandLockout 0x1012 (s.log 0x1012 [c.val + 1])
    else s
  else
    let s := if s.bit (Obj.ACQ_CH_STATUS c) 8 && !hasSubstitute s c then stepReaders c.val s else s
    let s := ((s.setObj (Obj.ACQ_CAL_OFFSET c) (.int f.offset)).setR (Obj.ACQ_CAL_GAIN c) f.gain).setBit (Obj.ACQ_CH_STATUS c) 8 false
    s.modAdc c fun a => { a with offset := f.offset, drift := 0 }

/-- R238: the three banks have been measured, 18 ms after the start. -/
def execSelfCalComplete (readings : Vector DacReading 24) (s : State) : Res :=
  .next (s.on .sample fun s =>
    match s.acq.selfCal with
    | none => s
    | some t =>
      if s.since t < 18 * cyclesMs then s
      else
        let found := allAdcs.map fun c => (c, calFactors s c readings[c])
        let s := found.foldl (fun s e => calOne s e.1 e.2) s
        let failed := (found.filter fun e => calFails e.2).length
        let s := s.log 0x4002 [msOf (s.since t), failed]
        let s := (s.modAcq fun a => { a with selfCal := none }).setField Obj.ACQ_STATUS 0 2 2
        let s := if s.mod.mode == .survey then s.modMod fun m => { m with calDone := true } else s
        showAcq s)

/-- ACQ_CMD SELF_CAL, in READY with service access (R238). Answers the abort code. -/
def acqSelfCal (w : Writer) (s : State) : Nat × State :=
  if !serviceOk s w then (0x08000021, s)
  else if s.mod.mode != .ready || s.acq.selfCal.isSome then (0x08000022, s) else (0, startSelfCal s)

def execAcqSelfCal (w : Writer) (s : State) : Res := .next (request w Obj.ACQ_CMD .sample (acqSelfCal w) s)

/-! ### Diagnosis, restore, tracking, substitution -/

/-- R240: whether a diagnosis is accepted. -/
def diagAccepted (s : State) (c : AdcId) (w : Writer) : Bool :=
  !dacBusy s && ((s.mod.mode == .ready && serviceOk s w) || (s.mod.mode.running && s.accepts w && !channelInUse s c))

def startPathDiag (c : AdcId) (answer : Option Writer) (s : State) : State :=
  (s.modAcq fun a => { a with diag := some (c, s.now, answer) }).setBit Obj.ACQ_STATUS 2 true

/-- ACQ_CMD DIAG (R240). Answers the abort code. -/
def acqDiag (c : AdcId) (w : Writer) (s : State) : Nat × State :=
  if diagAccepted s c w then (0, startPathDiag c none s)
  else if (s.mod.mode == .ready && !serviceOk s w) || (s.mod.mode.running && !s.accepts w) then (0x08000021, s)
  else (0x08000022, s)

def execAcqDiag (c : AdcId) (w : Writer) (s : State) : Res := .next (request w Obj.ACQ_CMD .sample (acqDiag c w) s)

/-- R244: whether RESTORE is taken up; it is answered when its diagnosis ends. -/
def restoreAccepted (s : State) (c : AdcId) (w : Writer) : Bool :=
  s.mod.mode == .ready && serviceOk s w && s.acq.adc[c].subst && !dacBusy s

/-- ACQ_CMD RESTORE where it is not taken up (R244). -/
def acqRestoreRefused (w : Writer) (s : State) : Nat × State := (if serviceOk s w then 0x08000022 else 0x08000021, s)

def execAcqRestore (c : AdcId) (w : Writer) (s : State) : Res :=
  .next (if restoreAccepted s c w && s.reaches w && s.alive .house && s.alive .sample then startPathDiag c (some w) s
    else request w Obj.ACQ_CMD .sample (acqRestoreRefused w) s)

/-- SUBSTITUTING falls when no channel that the stage names is substituted any more (Table 6.8). -/
def showSubstituting (s : State) (n : StageId) : State :=
  if allAdcs.any fun c => (s.acq.adc[c].subst || s.acq.adc[c].substCause.isSome) && stageNames s n c then s
  else s.setBit (Obj.SRV_STATUS n) 10 false

/-- Substitution ends (R244). -/
def endSubst (c : AdcId) (s : State) : State :=
  let s := (s.modAdc c fun a => { a with subst := false, substCause := none }).setBit (Obj.ACQ_CH_STATUS c) 9 false
  let s := allStages.foldl showSubstituting s
  showAcq (stepReaders c.val (s.log 0x4006 [c.val + 1]))

/-- R240: the largest deviation of the three levels, in per cent of full scale, each reading corrected with the factors in use. -/
def diagDeviation (s : State) (c : AdcId) (r : DacReading) : Rat :=
  let err (m ideal : Rat) : Rat := absR ((m - s.acq.adc[c].offset / 16) * s.objR (Obj.ACQ_CAL_GAIN c) - ideal)
  maxR (err r.plus (mkRat 262144 10)) (maxR (err r.minus (mkRat (-262144) 10)) (err r.zero 0)) * 100 / 32768

/-- R240, R244: a diagnosis ends after 3 ms. -/
def execAcqDiagComplete (r : DacReading) (s : State) : Res :=
  .next (s.on .sample fun s =>
    match s.acq.diag with
    | none => s
    | some (c, t, answer) =>
      if s.since t < 3 * cyclesMs then s
      else
        let deviation := diagDeviation s c r
        let fails := decide (mkRat 2 10 < deviation)
        let s := (s.modAcq fun a => { a with diag := none }).setBit Obj.ACQ_STATUS 2 false
        let s := (s.setR (Obj.ACQ_DIAG_ERROR c) (r32 deviation)).setBit (Obj.ACQ_CH_STATUS c) 11 fails
        let s := if fails then substitute c 2 (s.log 0x4004 [c.val + 1, deviation]) else s
        match answer with
        | none => s
        | some w => if fails then s.reply w Obj.ACQ_CMD 0x08000022 else (endSubst c s).reply w Obj.ACQ_CMD 0)

/-- R241: the three slots that end now have been idle: no window takes one of their conversions, and no single conversion or start stands in
them. -/
def idleSlots (s : State) (c : AdcId) : Bool :=
  let from_ := s.now - 192
  if startType s c = 1 then
    !((schedule s (Fin.ofNat 8 (startIndex s c))).any fun t0 => decide ((from_ : Int) ≤ t0 + 224) && decide (t0 - 224 ≤ (s.now : Int) - 64))
  else
    let a := s.acq.adc[c]
    (match a.conv with | some v => decide (s.now ≤ v.start) | none => true)
      && (match a.result with | some r => decide (r.stamp + 64 ≤ from_) | none => true)

/-- R241: one tracking sample of a channel with idle slots; m is the reading of the 0 V conversion in LSB. -/
def execTrackingSample (c : AdcId) (m : Rat) (s : State) : Res :=
  .next (s.on .sample fun s =>
    if !s.bit (Obj.ACQ_CH_CFG c) 6 || startType s c == 0 || readBy s c.val || dacBusy s || !idleSlots s c then s
    else
      let a := s.acq.adc[c]
      let d := r32 (a.drift + (m - a.drift) / 256)
      let lim : Rat := s.objR Obj.ACQ_TRACK_LIMIT
      let overc := decide (lim < absR d)
      let cal := s.objR (Obj.ACQ_CAL_OFFSET c)
      let target := cal + 16 * clampR d (-lim) lim
      let room := msOf (s.since a.trackAt)
      let off := a.offset + clampR (target - a.offset) (-room) room
      let was := s.bit (Obj.ACQ_CH_STATUS c) 10
      let s := s.modAdc c fun a => { a with drift := d, offset := off, trackAt := s.now }
      let s := (s.setR (Obj.ACQ_TRACK_DRIFT c) d).setBit (Obj.ACQ_CH_STATUS c) 10 overc
      if overc && !was then substitute c 3 (s.log 0x4003 [c.val + 1, d]) else s)

/-- A conversion boundary of a channel (R232): a slot of its grid begins, or no conversion is in progress. -/
def atBoundary (s : State) (c : AdcId) : Bool :=
  if startType s c = 0 ∨ startType s c = 1 then onGrid s c s.now else !converting s c

/-- R243: at the next conversion boundary the substitute takes the channel's place; conversions of a window already taken are
replaced too; the comparator sources are held inactive. -/
def execSubstitutionApply (c : AdcId) (s : State) : Res :=
  .next (s.on .sample fun s =>
    if !atBoundary s c then s
    else match s.acq.adc[c].substCause with
    | none => s
    | some cause =>
      let redo (e : Nat × Int × Nat) : Nat × Int × Nat :=
        match histAt s (substA s c) e.1 with
        | none => e
        | some x =>
          let y := (histAt s (substB s c) e.1).getD (0, 0)
          (e.1, substValue s c x y)
      let h := s.acq.adc[c].hist.map redo
      let s := (s.modAdc c fun a => { a with subst := true, substCause := none, hist := h }).setBit (Obj.ACQ_CH_STATUS c) 9 true
      let s := s.log 0x4005 [c.val + 1, substKind s c, cause]
      let s := sourceInactive ⟨8 + 2 * c.val, by omega⟩ s
      let s := sourceInactive ⟨9 + 2 * c.val, by omega⟩ s
      showAcq (stepReaders c.val s))

/-! ### Sigma-delta inputs -/

/-- R246: after how many ns without a clock edge or mid-bit transition an input has lost its clock: 1 µs in clock-input mode, four bit periods in
Manchester mode. -/
def sdQuiet (s : State) (k : SdId) : Option Rat :=
  let clock := s.field (Obj.ACQ_SD_CFG k) 1 2
  if clock = 1 then some 1000
  else if clock = 2 then some (mkRat (4 * s.objI (Obj.ACQ_SD_CLK_DIV k) * 10000) 4096)
  else none

/-- R246: an input is faulty: no clock edge or transition for so many ns, or the same datum for so many bits. -/
def execSdFault (k : SdId) (stream : SdStream) (s : State) : Res :=
  .next (s.on .sample fun s =>
    let lost := match sdQuiet s k with | some q => decide (q ≤ (stream.quiet : Rat)) | none => false
    let stuck := decide (128 ≤ stream.same)
    if !s.bit (Obj.ACQ_SD_CFG k) 0 || s.acq.sdFault[k] || !(lost || stuck) then s
    else
      let s := s.modAcq fun a => { a with sdFault := a.sdFault.set k true }
      let s := s.setN (Obj.ACQ_SD_STATUS k) (1 + 2 * boolNat lost + 4 * boolNat stuck)
      showAcq (s.log 0x4007 [k.val + 1, boolNat stuck]))

/-- R246: after 256 good bits the fault ends, a step for the chains. -/
def execSdFaultEnd (rd : Measured SdId Nat) (s : State) : Res :=
  .next (s.on .sample fun s =>
    if !s.acq.sdFault[rd.unit] || decide (rd.val < 256) then s
    else
      let s := (s.modAcq fun a => { a with sdFault := a.sdFault.set rd.unit false }).setN (Obj.ACQ_SD_STATUS rd.unit) 0
      showAcq (stepReaders (24 + rd.unit.val) s))

/-! ### Filter chains -/

/-- 48-bit two's complement (R248, R249). -/
def wrap48 (x : Int) : Int := (x + 140737488355328) % 281474976710656 - 140737488355328

/-- Integrators at the input rate. -/
def integrate : List Int → Int → List Int
  | [], _ => []
  | a :: l, x => let y := wrap48 (a + x); y :: integrate l y

/-- Combs with their shifts: previous inputs, shifts, value. -/
def comb : List Int → List Nat → Int → List Int × Int
  | [], _, x => ([], x)
  | p :: l, sh, x =>
    let y := shiftRound (wrap48 (x - p)) (sh.headD 0)
    let r := comb l sh.tail y
    (x :: r.1, r.2)

/-- The filter states of a chain: integrators, combs, FIR line (newest first), inputs since the last decimation. -/
structure Filt where
  ints : List Int
  combs : List Int
  line : List Int
  n : Nat
deriving DecidableEq, Repr

/-- One input sample through the integrator-comb section of order N and decimation R. -/
def cicStep (order r : Nat) (shifts : List Nat) (f : Filt) (x : Int) : Filt :=
  if order = 0 then { f with line := (x :: f.line).take 64 }
  else
    let ints := integrate f.ints x
    if f.n + 1 < r then { f with ints := ints, n := f.n + 1 }
    else
      let c := comb f.combs shifts (ints.getLast?.getD 0)
      { ints := ints, combs := c.1, line := (c.2 :: f.line).take 64, n := 0 }

def chainShift (s : State) (c : ChainId) (i : Nat) : Nat := s.field (Obj.ACQ_FC_SHIFT c) (8 * i) 5

/-- FIR of one bank (R249): the output before saturation. -/
def firOut (s : State) (c : ChainId) (bank : Bool) (line : List Int) : Int :=
  let b : Fin 32 := ⟨2 * c.val + (if bank then 1 else 0), by split <;> omega⟩
  let acc := (List.range (firTaps s c)).foldl (fun z i => z + s.objI (Obj.ACQ_FC_COEF b i) * line.getD i 0) 0
  shiftRound acc (chainShift s c 3)

/-- A chain's input is faulty: of a sigma-delta input, every output meanwhile carries BAD (R246). -/
def inputFault (s : State) (c : ChainId) : Bool :=
  let i := chainInput s c
  if i < 24 then false else s.acq.sdFault[(Fin.ofNat 8 (i - 24) : Fin 8)]

/-- How many input samples an output spans (R251). -/
def chainSpan (s : State) (c : ChainId) : Nat :=
  let r := 2 ^ cicJ s c
  cicN s c * (r - 1) + 1 + r * (firTaps s c - 1)

/-- How many of the waiting samples the next output takes: with ALIGN_TB the first of them whose output would be stamped with a sample point of
that timebase on the chain's own grid sets the decimation phase (R253). -/
def aligned (s : State) (c : ChainId) (q : List (Int × Nat × Nat)) : Option Nat :=
  let every := 2 ^ (cicJ s c + firF s c)
  let al := s.field (Obj.ACQ_FC_CFG c) 21 4
  let point := if al < 8 then (schedule s (Fin.ofNat 8 al)).head? else none
  match point with
  | none => if every ≤ q.length then some every else none
  | some t0 =>
    let cyc : Int := ((inputCycles s c * every : Nat) : Int)
    (q.findIdx? fun x => ((x.2.2 : Int) - chainDelay s c - t0) % cyc == 0).map (· + 1)

/-- The samples a chain's next output takes, with their quality and start: of a SAR input those it has converted, once the last of them has
passed the filter; of a sigma-delta input the bits that have come (R245, R247, R253). -/
def nextInputs (s : State) (c : ChainId) (bits : List Bool) : List (Int × Nat × Nat) :=
  if chainInput s c < 24 then
    let q := (s.acq.chain[c].queue).filter fun x => decide (x.2.2 + chainLatency s c ≤ s.now)
    match aligned s c q with | some n => q.take n | none => []
  else if bits.length = 2 ^ (cicJ s c + firF s c) then
    bits.map fun b => (if b then 1 else -1, boolNat (inputFault s c), s.now - chainLatency s c)
  else []

/-- Full scale of a chain's value: V or mA for a SAR input, a fraction for a sigma-delta input. -/
def chainScale (s : State) (c : ChainId) : Rat :=
  let i := chainInput s c
  if h : i < 24 then fullScale s ⟨i, h⟩ else 1

/-- Values of a chain's objects act; a change of input, order, decimations, taps or shifts and enabling are steps (R232,
R251). -/
def applyChainWrites (c : ChainId) (ws : List ObjCell) (s : State) : State :=
  let key (s : State) : Nat × Nat := (s.field (Obj.ACQ_FC_CFG c) 0 20, s.objN (Obj.ACQ_FC_SHIFT c))
  let old := key s
  let s := (ws.filter fun w => w.1 / 256 == 0x4C60 + c.val).foldl (fun s w => s.setObj w.1 w.2) s
  let s := if key s = old then s else
    chainStep c (s.modChain c fun h =>
      { h with ints := List.replicate (cicN s c) 0, combs := List.replicate (cicN s c) 0, line := [], queue := [], quals := [] })
  showChain c s

/-- Writes that waited for a chain's next output act together. -/
def takeChainWrites (c : ChainId) (s : State) : State :=
  let mine (w : ObjCell) : Bool := w.1 / 256 == 0x4C60 + c.val
  let ws := s.commitWrites.filter mine
  if ws.isEmpty then s
  else
    let s := { s with commitWrites := s.commitWrites.filter fun w => !mine w }
    let t := ws.foldl (State.setDue .nextCommit) s
    applyChainWrites c (ws.map fun w => (w.1, t.obj w.1)) s

/-- The filters of a chain with a number of samples still to come before the section's next decimation. -/
def filtOf (s : State) (c : ChainId) (n : Nat) : Filt :=
  let h := s.acq.chain[c]
  let r := 2 ^ cicJ s c
  let pad (l : List Int) : List Int := (List.range (cicN s c)).map fun i => l.getD i 0
  ⟨pad h.ints, pad h.combs, h.line, (r - n % r) % r⟩

/-- The bank that acts and the fade at an output with this stamp: a switch whose instant has come starts a fade, or acts at once at the first
output of a step (R250, R251). -/
def fadeStep (s : State) (c : ChainId) (stamp : Nat) : Bool × Bool × Option Nat :=
  let h := s.acq.chain[c]
  let fresh := decide (0 < h.unsettled) && decide (h.unsettled = unsettledCount s c)
  let starts := match h.switch_ with | some i => decide (i ≤ stamp) | none => false
  let fade : Option Nat := if starts then (if fresh then none else some 1) else h.fade.map fun n => min (n + 1) (s.objN (Obj.ACQ_FC_FADE c))
  (starts, if starts && fresh then !h.active else h.active, fade)

/-- An output before saturation: of the active bank, or faded towards the other (R249, R250). -/
def fadeOut (s : State) (c : ChainId) (line : List Int) (active : Bool) (fade : Option Nat) : Int :=
  match fade with
  | none => firOut s c active line
  | some n =>
    let fmax := s.objN (Obj.ACQ_FC_FADE c)
    let yb := firOut s c (!active) line
    if fmax ≤ n then yb
    else sat24 (firOut s c active line) + roundHalfUp (mkRat ((sat24 yb - sat24 (firOut s c active line)) * n) fmax)

/-- A chain's output is delivered: value word, stamp, quality; its objects follow (R233 to R235). -/
def deliverChain (c : ChainId) (y : Int) (stamp q : Nat) (s : State) : State :=
  let v := sat24 y
  let q := q ||| (2 * boolNat (decide (v ≠ y)))
  let cfg := s.objN (Obj.ACQ_FC_CFG c)
  let word := formatWord 24 (bitsAt cfg 25 2) (bitsAt cfg 27 1 == 1) (bitsAt cfg 28 1 == 1) v
  let s := s.modChain c fun h => { h with lastStamp := stamp, outs := (⟨v, 24, bitsAt cfg 25 4, word, stamp, q⟩ :: h.outs).take 8448 }
  let s := if v ≠ y then (s.setBit (Obj.ACQ_FC_STATUS c) 3 true).logOnce 0x400A c.val [c.val] else s
  let s := (s.setField (Obj.ACQ_FC_STATUS c) 8 8 q).setR (Obj.ACQ_FC_VALUE c) (r32 (chainScale s c * mkRat v 8388608))
  showAcq s

/-- R247 to R253: a running chain takes its next input samples and delivers the output they complete. -/
def chainStepOut (c : ChainId) (xs : List (Int × Nat × Nat)) (s : State) : State :=
  let h := s.acq.chain[c]
  let shifts := [chainShift s c 0, chainShift s c 1, chainShift s c 2]
  let f := (xs.map (·.1)).foldl (cicStep (cicN s c) (2 ^ cicJ s c) shifts) (filtOf s c xs.length)
  let stamp := ((xs.getLast?.map fun x => x.2.2).getD 0) - chainDelay s c
  let quals := ((xs.map fun x => x.2.1).reverse ++ h.quals).take (chainSpan s c)
  let (starts, active, fade) := fadeStep s c stamp
  let q := ((quals.foldl (· ||| ·) 0) ||| boolNat (inputFault s c)) ||| ((8 * boolNat (decide (0 < h.unsettled))) ||| (32 * boolNat h.late))
  let y := fadeOut s c f.line active fade
  let s := s.modChain c fun h =>
    { h with ints := f.ints, combs := f.combs, line := f.line, active := active, fade := fade, unsettled := h.unsettled - 1,
             switch_ := if starts then none else h.switch_, late := false, queue := h.queue.drop xs.length, quals := quals }
  let s := (s.setBit (Obj.ACQ_FC_STATUS c) 1 active).setBit (Obj.ACQ_FC_STATUS c) 2 fade.isSome
  deliverChain c y stamp q s

/-- A chain at its next output; writes that waited for it act. -/
def chainOutput (c : ChainId) (bits : List Bool) (s : State) : State :=
  if !chainOn s c || s.acq.chain[c].checkFailed then takeChainWrites c s
  else match nextInputs s c bits with
    | [] => s
    | xs => takeChainWrites c (chainStepOut c xs s)

def execChainOutput (c : ChainId) (bits : List Bool) (s : State) : Res := .next (s.on .sample (chainOutput c bits))

/-- R250: a switch to the inactive bank is issued; refused while one is pending or fading. Answers whether it was taken. -/
def bankSwitchCmd (c : ChainId) (inst : Nat) (s : State) : Bool × State :=
  let h := s.acq.chain[c]
  if h.switch_.isSome || h.fade.isSome then (false, s)
  else if implausible (s.replicaOf .sample) inst then (false, countImplausible .sample s)
  else
    let late := decide (inst ≠ 0) && decide (inst ≤ h.lastStamp)
    let s := if late then s.log 0x4009 [c.val, h.lastStamp - inst] else s
    (true, s.modChain c fun h => { h with switch_ := some (if late then 0 else inst), late := h.late || late })

def execBankSwitch (c : ChainId) (inst : Nat) (w : Writer) (s : State) : Res :=
  .next (request w (Obj.ACQ_FC_SWITCH c) .sample (owned w fun s => accepted (bankSwitchCmd c inst s)) s)

/-- R250: the fade count has reached F. -/
def execBankFadeEnd (c : ChainId) (s : State) : Res :=
  .next (s.on .sample fun s =>
    match s.acq.chain[c].fade with
    | none => s
    | some n =>
      if n < s.objN (Obj.ACQ_FC_FADE c) then s
      else
        let s := s.modChain c fun h => { h with fade := none, active := !h.active }
        (s.setBit (Obj.ACQ_FC_STATUS c) 2 false).setBit (Obj.ACQ_FC_STATUS c) 1 s.acq.chain[c].active)

/-! ### The check of R254 -/

/-- Coefficients of a bank symmetric about (T − 1)/2. -/
def bankSymmetric (s : State) (c : ChainId) (bank : Nat) : Bool :=
  let b : Fin 32 := Fin.ofNat 32 (2 * c.val + bank)
  let t := firTaps s c
  (List.range t).all fun i => s.objI (Obj.ACQ_FC_COEF b i) == s.objI (Obj.ACQ_FC_COEF b (t - 1 - i))

/-- Alignment of R253: the sample interval is a multiple of the output interval, and the sample points fall on stamps of the
input's grid. The grid of a sigma-delta input is not stated, so only the first condition binds it. -/
def chainAligned (s : State) (c : ChainId) : Bool :=
  let al := s.field (Obj.ACQ_FC_CFG c) 21 4
  if 8 ≤ al then true
  else
    let tb : TbId := Fin.ofNat 8 al
    let every := inputCycles s c * 2 ^ (cicJ s c + firF s c)
    let i := chainInput s c
    let half (t : TbId) : Int := s.objI (Obj.EDG_TB_PERIOD t) / 2
    let at_ (t : TbId) : Int := s.objI (Obj.EDG_TB_OFFSET t) + (if samplesAt s t false then 0 else half t)
    let tau : Int := chainDelay s c
    let grid : Bool :=
      if h : i < 24 then
        let ch : AdcId := ⟨i, h⟩
        if startType s ch = 0 then decide ((at_ tb + tau) % 64 = 0)
        else decide ((at_ tb - at_ (Fin.ofNat 8 (startIndex s ch)) - 32 + tau) % 64 = 0)
      else true
    decide (0 < every) && decide (sampleInterval s tb % every = 0) && grid

/-- The first condition of R254 that an enabled chain fails: 1 the rules of R247 to R249, 2 symmetry, 3 its input, 4
alignment. -/
def chainFault (s : State) (c : ChainId) : Option Nat :=
  let n := cicN s c
  let j := cicJ s c
  let f := firF s c
  let i := chainInput s c
  let bin := if i < 24 then 16 else 2
  let shifts := chainShift s c 0 + chainShift s c 1 + chainShift s c 2
  let used := (if 1 ≤ n then chainShift s c 0 else 0) + (if 2 ≤ n then chainShift s c 1 else 0) + (if 3 ≤ n then chainShift s c 2 else 0)
  let rules := (if n = 0 then decide (j = 0) else decide (1 ≤ j)) && decide (j ≤ 8) && decide (f ≤ 2) && decide (j + f ≤ 8)
    && decide (bin + n * j ≤ 24 + used) && decide (shifts ≤ 72) && decide (64 ≤ inputCycles s c * 2 ^ j)
  let sym := chainCompat s c || (bankSymmetric s c 0 && bankSymmetric s c 1)
  let inputOk := if h : i < 24 then startType s ⟨i, h⟩ == 0 || startType s ⟨i, h⟩ == 1 else s.bit (Obj.ACQ_SD_CFG (Fin.ofNat 8 (i - 24))) 0
  if !rules then some 1 else if !sym then some 2 else if !inputOk then some 3 else if !chainAligned s c then some 4 else none

/-- The first condition of R254 that a channel fails: 5 its window interval, 6 its substitute channels, 7 a comparator
claimed twice. -/
def channelFault (s : State) (c : AdcId) : Option Nat :=
  let window := startType s c != 1 || decide (sampleInterval s (Fin.ofNat 8 (startIndex s c)) % 64 = 0)
  let same (a : Option AdcId) : Bool := match a with
    | some a => startType s a == startType s c && startIndex s a == startIndex s c
    | none => false
  let k := substKind s c
  let subst := decide (k ≠ 1 ∧ k ≠ 2) || (k == 1 && same (substA s c)) || (k == 2 && same (substA s c) && same (substB s c))
  let twice := [true, false].any fun up => decide (1 < (s.acq.cmpOwned.filter fun e => e.1 == c && e.2.1 == up).length)
  if !window then some 5 else if !subst then some 6 else if twice then some 7 else none

/-- The stages whose graph or protection relies on a chain, or on a channel. -/
def chainStages (s : State) (c : ChainId) : List StageId :=
  allStages.filter fun n => s.enabled n && (match s.pie[n].graph with | some g => (graphChains g).contains c | none => false)
def channelStages (s : State) (c : AdcId) : List StageId :=
  allStages.filter fun n => stageNames s n c || s.acq.cmpOwned.any fun e => e.1 == c && e.2.2 == n

/-- R254: the acquisition check at entry into CHARGE. -/
def acqCheck (s : State) : State :=
  let s := allChains.foldl (fun s c =>
    if !chainOn s c then s
    else match chainFault s c with
      | none => showChain c ((s.modChain c fun h => { h with checkFailed := false }).setBit (Obj.ACQ_FC_STATUS c) 4 false)
      | some k =>
        let hit := chainStages s c
        let s := (s.modChain c fun h => { h with checkFailed := true }).setBit (Obj.ACQ_FC_STATUS c) 4 true
        let s := (showChain c s).log 0x400B [c.val, k, maskOf (hit.map Fin.val)]
        hit.foldl (fun s n => stageSafe n 0x400B s) s) s
  allAdcs.foldl (fun s c =>
    match channelFault s c with
    | none => s
    | some k =>
      let hit := channelStages s c
      if hit.isEmpty && startType s c == 15 then s
      else hit.foldl (fun s n => stageSafe n 0x400B s) (s.log 0x400B [c.val + 1, k, maskOf (hit.map Fin.val)])) s

end Sys2Proof.Machine
end

