-- ==== Sys2Proof/Machine/Supply.lean ====
section
/-!
DEFINITION. Supply, hold-up, heat and housekeeping (chapter 19), and the reset input (R457).
-/

namespace Sys2Proof.Machine

/-! ### AUX_IN -/

/-- What concerns the front end happens whenever the module is supplied, in HALT as well. -/
def powered (s : State) (f : State → State) : State := if s.mod.powered then f s else s

def showSupply (s : State) : State :=
  s.setField Obj.SUP_STATUS 0 4 (boolNat s.sup.intAt.isSome + 2 * boolNat s.sup.shed + 4 * boolNat s.sup.gdLimited
    + 8 * boolNat s.sup.highAt.isSome)

/-- A duration in ms. -/
def ms32 (cycles : Nat) : Rat := r32 (mkRat cycles cyclesMs)

/-- R438: AUX_IN has stood above 165 V for 20 µs. -/
def execAuxHighStart (s : State) : Res :=
  .next (powered s fun s =>
    if s.sup.highAt.isSome then s else showSupply (s.modSup fun x => { x with highAt := some s.now }))

/-- R438: AUX_IN has stood below 160 V for 1 ms. -/
def execAuxHighEnd (rd : Excursion) (s : State) : Res :=
  .next (powered s fun s =>
    match s.sup.highAt with
    | none => s
    | some t =>
      if decide (160 ≤ rd.volts) || decide (rd.held < cyclesMs) then s else showSupply ((s.modSup fun x => { x with highAt := none }).log 0x1024 [r32 rd.extreme, ms32 (s.since t)]))

/-- R439: AUX_IN has stood below 7.0 V for 20 µs: an interruption begins; the event buffer is written at once as one page. -/
def execAuxInterruptionStart (rd : Reading) (hold : Rat) (s : State) : Res :=
  .next (powered s fun s =>
    if s.sup.intAt.isSome || decide (7 ≤ rd.value) || decide (rd.held < cyclesUs 20) then s
    else
      let s := s.modSup fun x => { x with intAt := some s.now, bridge := cyclesUs (s.objN Obj.SUP_BRIDGE) }
      let s := (showSupply (s.bump Obj.SUP_INTERRUPTIONS)).log 0x1022 [r32 rd.value, r32 hold]
      s.on .house (requestPage hold))

/-- R439, R440: AUX_IN has stood at or above 8.0 V for 1 ms: an interruption ends; shed supplies return: PHY die 2, sensor supply, gate-drive rail. -/
def execAuxInterruptionEnd (rd : Excursion) (s : State) : Res :=
  .next (powered s fun s =>
    match s.sup.intAt with
    | none => s
    | some t =>
      if decide (rd.volts < 8) || decide (rd.held < cyclesMs) then s
      else
        let was := s.sup.shed
        let s := s.modSup fun x => { x with
          intAt := none, shed := false, backAt := if was then some s.now else x.backAt, sensorAt := if was then s.now else x.sensorAt }
        showSupply ((s.setR Obj.SUP_LAST_INTERRUPTION (ms32 (s.since t))).log 0x1023 [ms32 (s.since t), r32 rd.extreme]))

/-- R439: the stop level: an interruption of 10 ms, or HOLD below 14.0 V. A store in progress finishes first; then HALT (R399). -/
def execAuxStopLevel (hold : Rat) (s : State) : Res :=
  .next (powered s fun s =>
    match s.sup.intAt with
    | none => s
    | some t =>
      if s.since t < 10 * cyclesMs && decide (14 ≤ hold) then s
      else if s.nvs.running.isSome && s.alive .house then s.modNvs fun n => { n with stopped := true, waiting := [] }
      else powerLoss s)

/-- R440: SUP_BRIDGE after an interruption begins, gate-drive rail, sensor supply and PHY die 2 are shed; what depends on them sees it
by the lock-out of R202 and by the links of E3 and E4. -/
def execSupplyShed (s : State) : Res :=
  .next (powered s fun s =>
    match s.sup.intAt with
    | none => s
    | some t =>
      if s.sup.shed || decide (s.since t < s.sup.bridge) then s
      else setLink 3 false 0 (setLink 2 false 0 (showSupply (s.modSup fun x => { x with shed := true }))))

def showLimit (s : State) : State := (showSupply s).setBit Obj.GDV_STATUS 1 s.sup.gdLimited

/-- R441: AUX_IN below 14.4 V for 1 ms; not judged during an interruption (Table 19.9). -/
def execGdLimitEntry (rd : Reading) (s : State) : Res :=
  .next (powered s fun s =>
    if s.sup.gdLimited || decide (rd.held < cyclesMs) || s.sup.intAt.isSome || decide (mkRat 144 10 ≤ rd.value) then s
    else showLimit ((s.modSup fun x => { x with gdLimited := true }).log 0x1021 [1, r32 rd.value]))

/-- R441: AUX_IN above 15.0 V for 100 ms. -/
def execGdLimitExit (rd : Reading) (s : State) : Res :=
  .next (powered s fun s =>
    if !s.sup.gdLimited || decide (rd.held < 100 * cyclesMs) || s.sup.intAt.isSome || decide (rd.value ≤ 15) then s
    else showLimit ((s.modSup fun x => { x with gdLimited := false }).log 0x1021 [0, r32 rd.value]))

/-! ### Temperatures -/

/-- A temperature channel, 1 to 30, counted from 0. -/
abbrev TempId := Fin 30
def allTemps : List TempId := List.finRange 30

/-- Class and neighbour group (1: L, 2: D, 0: none) of a channel (Table 19.4). -/
def tempClass (i : TempId) : Fin 8 :=
  let c := i.val + 1
  if c = 1 then 0 else if c = 2 then 1 else if c = 3 then 2 else if c ≤ 9 then 3 else if c ≤ 22 then 4 else if c ≤ 26 then 5
  else if c ≤ 28 then 6 else 7
def tempGroup (i : TempId) : Nat := let c := i.val + 1; if 4 ≤ c ∧ c ≤ 22 then 2 else if c ≤ 28 then 1 else 0

/-- A threshold of a channel's class: 0 start inhibit, 1 low warning, 2 warning, 3 throttle, 4 shut-down (Table 19.5). -/
def tempLevel (s : State) (i : TempId) (k : Nat) : Rat := s.objI (Obj.THM_CLASS (tempClass i) k)
def tempHyst (s : State) (i : TempId) : Rat := s.objN (Obj.THM_CLASS_HYST (tempClass i))

/-- Whether a channel is read at all: TEMP1 and TEMP2 only where THM_EXT_CFG names a sensor. -/
def tempUsed (s : State) (i : TempId) : Bool := decide (i.val < 28) || s.objN (Obj.THM_EXT_CFG (i.val - 28)) != 0

def degOf (t : TempRead) : Option Rat := match t with | .deg x => some x | _ => none

/-- The median of readings; of an even number, the mean of the middle two (DESIGN CHOICE, log 11). -/
def median (l : List Rat) : Rat :=
  let m := l.mergeSort (fun a b => decide (a ≤ b))
  let n := m.length
  if n % 2 = 1 then m.getD (n / 2) 0 else (m.getD (n / 2 - 1) 0 + m.getD (n / 2) 0) / 2

/-- The median of a channel's neighbour group, itself included (R445). -/
def groupMedian (temps : Vector TempRead 30) (i : TempId) : Rat :=
  median ((allTemps.filter fun j => tempGroup j == tempGroup i).filterMap fun j => degOf temps[j])

/-- A latched thermal shut-down (R450), once until the stop level. `datum`: temperature, or none for a broken sensor. -/
def thermalShutdown (ch : Nat) (datum : Rat) (s : State) : State :=
  if s.mod.thermalLatch then s
  else
    let s := (s.modMod fun m => { m with thermalLatch := true }).setN Obj.THM_SHUTDOWN_SENSOR ch
    demandLockout 0xC003 ((s.setBit Obj.THM_STATUS 2 true).log 0xC003 [ch, datum])

/-- A sensor is found broken (R445); causes: 1 open, 2 short, 3 out of range, 4 neighbours. -/
def tempBroken (i : TempId) (cause : Nat) (s : State) : State :=
  if s.sup.sensor[i].broken then s
  else
    let s := s.modSup fun x => { x with sensor := x.sensor.set i { x.sensor[i] with broken := true } }
    (s.setBit Obj.THM_BROKEN i.val true).log 0xC006 [i.val + 1, cause]

/-- What one channel reads: THM_TEMP, THM_PEAK, and whether it is broken (R445). -/
def readTemp (temps : Vector TempRead 30) (s : State) (i : TempId) : State :=
  if !tempUsed s i then s
  else
    match temps[i] with
    | .off => s
    | .open_ => tempBroken i 1 s
    | .short => tempBroken i 2 s
    | .deg t =>
      let s := s.setR (Obj.THM_TEMP i.val) (r32 t)
      let s := if s.objR (Obj.THM_PEAK i.val) < r32 t then s.setR (Obj.THM_PEAK i.val) (r32 t) else s
      if t < -55 ∨ 200 < t then tempBroken i 3 s
      else if tempGroup i = 0 then s
      else
        let far := decide (25 < absR (t - groupMedian temps i))
        let n := if far then s.sup.sensor[i].off + 1 else 0
        let s := s.modSup fun x => { x with sensor := x.sensor.set i { x.sensor[i] with off := n } }
        if 3 ≤ n then tempBroken i 4 s else s

/-- A state that begins at or above its level and ends below the level minus the hysteresis; the low states mirror it (R446). -/
def aboveState (was : Bool) (t level hyst : Rat) : Bool := if was then !decide (t < level - hyst) else decide (level ≤ t)
def belowState (was : Bool) (t level hyst : Rat) : Bool := if was then !decide (level + hyst ≤ t) else decide (t < level)

/-- The states of one channel at the end of a round; a broken sensor reads as above its shut-down level. -/
def judgeTemp (temps : Vector TempRead 30) (s : State) (i : TempId) : State :=
  let x := s.sup.sensor[i]
  let reading := if x.broken then some (tempLevel s i 4) else if tempUsed s i then degOf temps[i] else none
  match reading with
  | none => s
  | some t =>
    let h := tempHyst s i
    let y := { x with warn := aboveState x.warn t (tempLevel s i 2) h, hot := aboveState x.hot t (tempLevel s i 3) h
                      low := belowState x.low t (tempLevel s i 1) h, inhibit := belowState x.inhibit t (tempLevel s i 0) h }
    let s := s.modSup fun z => { z with sensor := z.sensor.set i y }
    let s := if y.warn && !x.warn then s.log 0xC001 [i.val + 1, r32 t] else s
    if y.low && !x.low then s.log 0xC005 [i.val + 1, r32 t] else s

/-- The channel whose reading is extreme by a comparison; 0 without any. -/
def extremeTemp (temps : Vector TempRead 30) (better : Rat → Rat → Bool) : Nat :=
  (allTemps.foldl (fun b i => match degOf temps[i], b with
    | none, b => b
    | some t, none => some (i.val + 1, t)
    | some t, some (c, u) => if better t u then some (i.val + 1, t) else some (c, u)) (none : Option (Nat × Rat))).elim 0 (·.1)

/-- The start inhibit (R448): 0xC004 at each change, with the coldest channel. -/
def inhibitReview (temps : Vector TempRead 30) (s : State) : State :=
  let now := s.sup.sensor.toList.any fun x => x.inhibit
  if now = s.bit Obj.THM_STATUS 4 then s
  else ((s.setBit Obj.THM_STATUS 4 now).setBit Obj.MOD_STATUS 4 now).log 0xC004 [boolNat now, extremeTemp temps fun a b => decide (a < b)]

/-- The throttle step at the end of a round (R449). -/
def throttleReview (temps : Vector TempRead 30) (s : State) : State :=
  let hot := s.sup.sensor.toList.any fun x => x.hot
  let l := s.objN Obj.THM_THROTTLE_STEP
  let ripe := decide (s.objN Obj.THM_STEP_TIME * cyclesMs ≤ s.since s.sup.stepAt)
  let l' := if hot && l == 0 then 1 else if hot && decide (l < 3) && ripe then l + 1 else if !hot && decide (0 < l) && ripe then l - 1 else l
  if l' = l then s
  else
    ((s.modSup fun x => { x with stepAt := s.now }).setN Obj.THM_THROTTLE_STEP l').log 0xC002
      [l, l', extremeTemp temps fun a b => decide (b < a)]

/-- Shut-down of the lowest channel at or above its shut-down level (R450, Table 19.9); −1000 stands for "broken" in the event. -/
def shutdownReview (temps : Vector TempRead 30) (s : State) : State :=
  match allTemps.find? fun i => s.sup.sensor[i].broken ||
      (tempUsed s i && match degOf temps[i] with | some t => decide (tempLevel s i 4 ≤ t) | none => false) with
  | some i => thermalShutdown (i.val + 1) (if s.sup.sensor[i].broken then -1000 else r32 ((degOf temps[i]).getD 0)) s
  | none => s

/-- THM_STATUS (Table 19.12). -/
def showThermal (s : State) : State :=
  let any (f : SensorSt → Bool) : Nat := boolNat (s.sup.sensor.toList.any f)
  s.setField Obj.THM_STATUS 0 8 (any (·.warn) + 2 * any (·.hot) + 4 * boolNat s.mod.thermalLatch + 8 * any (·.low) + 16 * any (·.inhibit)
    + 32 * any (·.broken) + 64 * s.objN Obj.THM_THROTTLE_STEP)

/-- Length of a round in core cycles (R444). -/
def roundCycles : Nat := 24 * cyclesMs

/-- R444 to R450: a round ends on the 24 ms grid of module time: rails, temperatures, thresholds. -/
def execHousekeepingRound (temps : Vector TempRead 30) (rails : Vector Rat 18) (s : State) : Res :=
  .next (s.on .house fun s =>
    if s.now / roundCycles ≤ s.sup.lastRound / roundCycles then s
    else
      let s := s.modSup fun x => { x with lastRound := s.now }
      let s := (List.finRange 18).foldl (fun s j => s.setR (Obj.SUP_RAIL j.val) (r32 rails[j])) s
      let s := s.setR Obj.GDV_RAIL_V (r32 rails[(4 : Fin 18)])
      let s := s.setBit Obj.FIO_STATUS 1 (decide (mkRat 168 10 < rails[(3 : Fin 18)]))
      let s := s.setBit Obj.SUP_STATUS 4 (decide (mkRat 3 10 ≤ absR rails[(8 : Fin 18)]) || decide (mkRat 3 10 ≤ absR rails[(9 : Fin 18)]))
      let s := allTemps.foldl (readTemp temps) s
      let s := allTemps.foldl (judgeTemp temps) s
      showThermal (shutdownReview temps (throttleReview temps (inhibitReview temps s))))

/-! ### Reset input -/

/-- R457: RST_IN+ has stood at least 8.0 V above RST_IN− for the 1 ms of its filter: HALT. -/
def execResetInputAssert (s : State) : Res :=
  .next (powered s fun s => enterHalt 2 (s.modMod fun m => { m with resetAsserted := true }))

/-- R457: the reset input has stood below 4.0 V for its filter: released. -/
def execResetInputRelease (s : State) : Res := .next (powered s fun s => s.modMod fun m => { m with resetAsserted := false })

end Sys2Proof.Machine
end

