-- ==== Sys2Proof/Machine/KeystoneOps.lean ====
section
/-!
DEFINITION. The keystone's safety decisions that other chapters call for (chapter 15): latched faults (R357), the start-up test and
the cover (R359, R360), safe stops with their monitoring (R369, R370), immediate demands (R372), permits (R379), the checks at
entry into CHARGE (R367, R368), and the supervision of the SOC contactors (R363, R365).
-/

namespace Sys2Proof.Machine

/-- A latched safety fault (R357): logged, latched, and the cause of a LOCKOUT. -/
def latchFault (code : Nat) (data : List Rat) (s : State) : State :=
  let s := s.modSaf fun x => { x with latched := if x.latched.contains code then x.latched else code :: x.latched }
  demandLockout code ((s.log code data).setBit Obj.SAF_STATUS 3 true)

/-! ### Removing pulses -/

/-- R371: pulse enable stops toggling to the stage's driver primaries; the stage's safe state is applied by the caller. -/
def removePulses (n : StageId) (s : State) : State :=
  refreshPermissions (s.modSaf fun x => { x with removed := if x.removed.contains n then x.removed else n :: x.removed })

/-- A stage is taken to SAFE by the keystone and its contactor opened. -/
def keystoneSafe (n : StageId) (cause : Nat) (s : State) : State :=
  let s := stageSafe n cause s
  let s := match socOf s n.val with | some i => socOpenNow i s | none => s
  removePulses n s

/-! ### Safe stop (R366 to R370) -/

def ssdPar (s : State) (key : Nat) : Rat := mkRat (s.objI key) 1000

/-- A safe stop is complete (R369): pulses removed, contactor opened, the stage to ARMED, or to SAFE after a fault. -/
def ssdComplete (n : StageId) (cause td : Nat) (s : State) : State :=
  let s := s.log 0x8023 [n.val, mkRat (s.since td : Nat) cyclesMs]
  let s := socOpenStage n s
  if cause = 0 then removePulses n (edgeSafe n (stageArm n s)) else removePulses n (stageSafe n cause s)

/-- An SSD demand on a stage in RUN or LIMIT (R369); a second one during a ramp changes nothing. `cause`: the SAFE cause of a stop
by a fault, 0 for none. -/
def ssdDemand (n : StageId) (cause : Nat) (s : State) : State :=
  if !s.switching n || s.saf.ssd[n].ramp.isSome then s
  else
    let x0 := s.saf.ssd[n].x
    if x0 < ssdPar s (Obj.SAF_SSD_END n) then ssdComplete n cause s.now s
    else
      (s.modSsd n fun x => { x with ramp := some (s.now, x0, s.objN (Obj.SAF_SSD_RAMP n) * cyclesMs, cause), violated := false }).setBit
        Obj.SAF_STATUS (8 + n.val) true

/-- x of a voltage monitor from the means of a tick (R366): three line-to-line channels, or one. -/
def ssdVoltage (s : State) (n : StageId) : Rat :=
  let u (j : Fin 3) : Rat := let q := s.saf.ssd[n].sums[j]; if q.2 = 0 then 0 else mkRat q.1 (32768 * q.2)
  let v := if s.field (Obj.SAF_STAGE_CFG n) 3 1 = 1 then sqrt32 (mkRat 2 3 * (u 0 * u 0 + u 1 * u 1 + u 2 * u 2)) else u 0
  r32 (v / s.objR (Obj.SAF_SSD_BASE n))

/-- The keystone forms x at a tick and shows it (R366); without a conversion in the tick the last value stands (DESIGN CHOICE, log 162). -/
def ssdMeasure (n : StageId) (s : State) : State :=
  if !s.isSsd n then s
  else
    let s := if s.field (Obj.SAF_STAGE_CFG n) 2 1 = 0 && s.saf.ssd[n].sums[0].2 != 0 then
        s.modSsd n fun q => { q with x := ssdVoltage s n, sums := .replicate 3 (0, 0) }
      else s
    s.setR (Obj.SAF_SSD_VALUE n) s.saf.ssd[n].x

/-- The decision of R369 for a stage under a safe stop, at a tick with x. -/
def ssdJudge (n : StageId) (s : State) : State :=
  match s.saf.ssd[n].ramp with
  | none => s
  | some (td, x0, tr, cause) =>
    let x := s.saf.ssd[n].x
    let bound := x0 * ssdFactor s n + ssdPar s (Obj.SAF_SSD_BAND n)
    if x < ssdPar s (Obj.SAF_SSD_END n) then ssdComplete n cause td s
    else if bound < x && s.saf.ssd[n].violated then keystoneSafe n 0x8021 (s.log 0x8021 [n.val, r32 x, r32 bound])
    else
      let s := s.modSsd n fun q => { q with violated := decide (bound < x) }
      if tr + s.objN (Obj.SAF_SSD_TAIL n) * cyclesMs ≤ s.since td then keystoneSafe n 0x8022 (s.log 0x8022 [n.val, r32 x]) else s

/-- The pier's own measure of the monitored quantity (R370). -/
def pierMeasure (s : State) (n : StageId) : Rat :=
  if s.isGfi n then s.pie[n].law.vPos.mag
  else
    let v := s.objN (Obj.SAF_SSD_PIER_OUT n)
    match s.pie[n].blocks[v % 4096]? with
    | some b => (b.outs.getD (v / 4096 % 256 - 0x80) (some 0)).getD 0
    | none => 0

/-- A difference of R370 stands since `held` core cycles ago, or longer. -/
def dateDifference (n : StageId) (held : Nat) (s : State) : State :=
  s.modSsd n fun q => { q with differs := some (min (q.differs.getD s.now) (s.now - held)) }

/-- R370: keystone and pier are compared; a difference is timed. -/
def plausible (n : StageId) (measure : Rat) (s : State) : State :=
  if !s.isSsd n || !s.switching n then s.modSsd n fun q => { q with differs := none }
  else if absR (s.saf.ssd[n].x - measure) ≤ ssdPar s (Obj.SAF_SSD_BAND n) then s.modSsd n fun q => { q with differs := none }
  else
    let from_ := s.saf.ssd[n].differs.getD s.now
    let s := s.modSsd n fun q => { q with differs := some from_ }
    if cyclesMs ≤ s.since from_ then keystoneSafe n 0x8025 (s.log 0x8025 [n.val, r32 s.saf.ssd[n].x, r32 measure]) else s

/-! ### Immediate demands (R372) -/

/-- An immediate demand on the listed stages; sources: 1 cover, 2 connection. -/
def immediateDemand (source : Nat) (ns : List StageId) (s : State) : State :=
  let s := s.log 0x8024 [source, maskOf (ns.map fun n => n.val)]
  let s := ns.foldl (fun s n =>
    let s := match socOf s n.val with | some i => socOpenNow i s | none => s
    if s.switching n then removePulses n (stageSafe n 0x8024 s) else s) s
  refreshPermissions s

/-- Permits of command connections are acted upon (R379): an immediate demand on each stage concerned when it arises (R372). -/
def permitReview (s : State) : State :=
  let all := permitDenied s 8
  let now := allStages.filter fun n => all || (!s.isSsd n && permitDenied s n.val)
  let hit := now.filter fun n => s.switching n || !s.saf.demanded.contains n
  let s := s.modSaf fun x => { x with demanded := now }
  let s := if hit.isEmpty then s else immediateDemand 2 hit s
  let s := allStages.foldl (fun s n => if s.isSsd n && permitDenied s n.val then ssdDemand n 0 s else s) s
  let s := allSocs.foldl (fun s i => if permitDenied s (i.val + 4) && socOwned s i then socOpen i s else s) s
  if all then allStages.foldl (fun s n => match socOf s n.val with | some i => socOpenNow i s | none => s) s else s

/-! ### Cover and stop input -/

/-- The start-up test (R359) and the cover in a run mode (R360). -/
def coverReview (s : State) : State :=
  let closed := coverClosed s
  let s := (s.setBit Obj.SAF_STATUS 1 closed).setBit Obj.SAF_STATUS 5 (stopOpen s)
  let s := if s.saf.pending && !closed then s.modSaf fun x => { x with coverSeen := true } else s
  let s := if s.saf.pending && closed && s.saf.coverSeen then
      let s := (s.modSaf fun x => { x with pending := false, coverSeen := false }).log 0x8005 []
      (s.setBit Obj.SAF_STATUS 0 false).setBit Obj.MOD_STATUS 3 false
    else s
  if !closed && s.mod.mode.running then
    if s.saf.coverDemand then s
    else
      let s := (s.modSaf fun x => { x with coverDemand := true }).log 0x8006 [s.mod.mode.code]
      demandStop .plain (immediateDemand 1 allStages s)
  else s.modSaf fun x => { x with coverDemand := false }

/-! ### Checks at entry into CHARGE -/

/-- R367: which condition an SSD stage fails: 1 channels, 2 speed monitor, 3 LIMIT instance, 4 compared output. -/
def ssdConfigBad (s : State) (n : StageId) : Option Nat :=
  if !s.isSsd n then none
  else
    let chs := (List.range (if s.field (Obj.SAF_STAGE_CFG n) 3 1 = 1 then 3 else 1)).map fun j => s.objN (Obj.SAF_SSD_CH n j)
    let chOk := chs.all fun c => match idOf 24 c with
      | some a => decide (s.field (Obj.ACQ_CH_START a) 0 4 ≤ 1)
      | none => false
    let speed := s.field (Obj.SAF_STAGE_CFG n) 2 1 == 1
    let limOk := match s.pie[n].blocks[s.objN (Obj.SAF_SSD_LIMIT n)]? with | some b => b.spec.code == 0x0003 | none => false
    let v := s.objN (Obj.SAF_SSD_PIER_OUT n)
    let outOk := decide (v < 0x100000) && match s.pie[n].blocks[v % 4096]? with
      | some b => decide (0x80 ≤ v / 4096) && decide (v / 4096 - 0x80 < max 1 b.outs.length)
      | none => false
    if !chOk then some 1 else if speed && s.stype n != .mot then some 2
    else if s.isGfi n then none else if !limOk then some 3 else if !outOk then some 4 else none

def ownersOf (s : State) (o : Nat) : List SocId := allSocs.filter fun i => socOwner s i == o
def auxMissing (s : State) (i : SocId) : Bool := (idOf 16 (s.objN (Obj.SAF_SOC_AUX i))).isNone

/-- R368: which condition a stage fails: 1 not named by exactly one instance (GFI) or by at most one, 4 no auxiliary contact. -/
def socConfigBad (s : State) (n : StageId) : Option Nat :=
  let own := ownersOf s n.val
  if s.isGfi n && own.length != 1 then some 1
  else if 1 < own.length then some 1
  else if own.any fun i => auxMissing s i then some 4
  else none

/-- R368: the tie fails its check. -/
def tieConfigBad (s : State) (n : StageId) : Bool :=
  s.bit (Obj.SHR_CONFIG n) 5 &&
    match idOf 4 (s.objN (Obj.SHR_TIE_DRIVER n)) with
    | some i => ownersOf s 4 != [i] || auxMissing s i
    | none => true

/-- The keystone's checks at entry into CHARGE (R367, R368), for enabled stages. -/
def keystoneChecks (s : State) : State :=
  let s := allStages.foldl (fun s n =>
    if !s.enabled n || s.stype n == .none then s
    else
      let s := match ssdConfigBad s n with | some c => stageSafe n 0x8020 (s.log 0x8020 [n.val, c]) | none => s
      match socConfigBad s n with | some c => stageSafe n 0x8026 (s.log 0x8026 [n.val, c]) | none => s) s
  let bad := allStages.filter fun n => tieConfigBad s n
  let s := s.modSaf fun x => { x with tieFailed := !bad.isEmpty }
  bad.foldl (fun s n => s.log 0x8026 [4, n.val]) s

/-! ### SOC supervision -/

/-- An instance latches its FAULT and de-energises. -/
def socFault (i : SocId) (s : State) : State :=
  showSoc i (s.modSoc i fun x => { x with fault := true, cmd := false, awaited := false, test := none, wish := none })

/-- R363: no confirmation within SAF_SOC_DISC of a standing close. -/
def closeDiscrepancy (i : SocId) (s : State) : State :=
  let x := s.saf.soc[i]
  if x.cmd && x.awaited && decide (x.disc ≤ s.since x.cmdAt) then socFault i (s.log 0x8011 [i.val + 1]) else s

/-- R363: the auxiliary contact does not read the de-energised state within SAF_SOC_DISC of an open command. -/
def openDiscrepancy (i : SocId) (s : State) : State :=
  let x := s.saf.soc[i]
  if !x.cmd && x.awaited && x.energised && decide (x.disc ≤ s.since x.cmdAt) then
    latchFault 0x8012 [i.val + 1] (socFault i s)
  else s

/-- Hours as the keystone counts them. -/
def cyclesHour : Nat := 3600 * cyclesSec

/-- R365: a contactor energised for SAF_SOC_PROOF. -/
def proofReview (i : SocId) (s : State) : State :=
  let x := s.saf.soc[i]
  let s := s.setN (Obj.SAF_SOC_SINCE_PROOF i) (s.since x.proofAt / cyclesHour)
  if x.energised && decide (s.objN (Obj.SAF_SOC_PROOF i) * cyclesHour ≤ s.since x.energisedAt) && !s.bit (Obj.SAF_SOC_STATUS i) 3 then
    ((s.setBit (Obj.SAF_SOC_STATUS i) 3 true).setBit Obj.SAF_STATUS (20 + i.val) true).log 0x8014
      [i.val + 1, mkRat (s.since x.energisedAt : Nat) cyclesHour]
  else s

/-- The stage or tie that an instance serves learns that its contactor is closed or open (R87, R91, R93). -/
def tellOwner (i : SocId) (closed : Bool) (s : State) : State :=
  let o := socOwner s i
  if h : o < 4 then
    let n : StageId := ⟨o, h⟩
    if !s.isGfi n then s
    else if closed then contactorConfirmed n s
    else s.modShare n fun x => { x with closed := false }
  else if o = 4 then
    match allStages.find? fun n => s.bit (Obj.SHR_CONFIG n) 5 with
    | some n =>
      let s := s.setBit (Obj.SHR_STATUS n) 12 closed
      if closed && s.shr[n].pull == .tie then joinGlide n s else s.modShare n fun h => { h with tieAt := none }
    | none => s
  else s

/-- The auxiliary contact of an instance as it now reads (R361, R365). -/
def auxReview (i : SocId) (s : State) : State :=
  let e := auxEnergised s i
  let x := s.saf.soc[i]
  if !socOwned s i || e == x.energised then s
  else
    let proof := !e && !x.cmd && decide (s.since x.cmdAt ≤ x.disc)
    let s := s.modSoc i fun x => { x with
      energised := e, energisedAt := if e then s.now else x.energisedAt, proofAt := if proof then s.now else x.proofAt,
      awaited := if e == x.cmd then false else x.awaited }
    let s := if proof then (s.setBit (Obj.SAF_SOC_STATUS i) 3 false).setBit Obj.SAF_STATUS (20 + i.val) false else s
    let s := proofReview i (showSoc i s)
    if e && x.cmd && x.awaited then tellOwner i true s else if !e then tellOwner i false s else s

end Sys2Proof.Machine
end

