-- ==== Sys2Proof/Machine/FieldIo.lean ====
section
/-!
DEFINITION. Field inputs, outputs and contactor drivers (chapter 18).
-/

namespace Sys2Proof.Machine

/-! ### Digital inputs -/

/-- What hangs on an input that now reads differently: cover and stop input (R358 to R360), auxiliary contacts (R361), permissions. -/
def inputReview (d : DiId) (s : State) : State :=
  let s := showDi d s
  s.on .keystone fun s =>
    let s := coverReview s
    let s := allSocs.foldl (fun s i => if s.objN (Obj.SAF_SOC_AUX i) = d.val + 1 then auxReview i s else s) s
    refreshPermissions s

/-- The filter limit F of an input (R427). -/
def diLimit (s : State) (d : DiId) : Nat := s.objN (Obj.FIO_DI_FILTER d)

/-- The line-fault class of a sample; only wire-break mode has any. The limiter's state goes before the current (R426). -/
def diClass (s : State) (d : DiId) (q : DiSample) : Option LineFault :=
  if !s.bit (Obj.FIO_DI_CFG d) 0 then none
  else if q.limiting || decide ((s.objN (Obj.FIO_WB_SHORT d) : Rat) < 10 * q.mA) then some .short
  else if 10 * q.mA < s.objN (Obj.FIO_WB_OPEN d) then some .wireBreak
  else none

/-- The raw state of a sample in no line-fault class: contact closed, or above and below the two voltage thresholds (R426). -/
def diRaw (s : State) (d : DiId) (q : DiSample) : Bool :=
  if s.bit (Obj.FIO_DI_CFG d) 0 then decide ((s.objN (Obj.FIO_WB_MID d) : Rat) < 10 * q.mA)
  else if (s.objN (Obj.FIO_DI_ON d) : Rat) < 10 * q.volts then true
  else if 10 * q.volts < s.objN (Obj.FIO_DI_OFF d) then false
  else s.fio.di[d].raw

/-- The counter and the filtered state of R427 after a sample with raw state `raw`; the first sample after SURVEY begins sets both. -/
def diFilter (limit : Nat) (raw : Bool) (x : DiSt) : DiSt :=
  let c := if x.fresh then (if raw then limit else 0) else if raw then min limit (x.count + 1) else x.count - 1
  { x with raw := raw, count := c, fresh := false, st := if x.fresh then raw else if limit ≤ c then true else if c = 0 then false else x.st }

/-- A class that stands for F samples is a line fault; the filtered state and its counter are held (R428). -/
def diClassed (d : DiId) (k : LineFault) (mA : Rat) (s : State) : State :=
  if s.fio.di[d].run < diLimit s d || s.fio.di[d].fault == some k then s
  else
    let s := s.log (match k with | .wireBreak => 0xB001 | .short => 0xB002) [d.val + 1, r32 mA]
    inputReview d (s.modDi d fun x => { x with fault := some k })

/-- A sample in a contact window: F of them end a line fault with the contact state then seen; otherwise it is filtered (R427, R428). -/
def diWindow (d : DiId) (raw : Bool) (s : State) : State :=
  let f := diLimit s d
  let x := s.fio.di[d]
  if x.fault.isSome then
    if x.run < f then s
    else inputReview d ((s.log 0xB003 [d.val + 1]).modDi d fun x =>
      { x with fault := none, raw := raw, st := raw, fresh := false, count := if raw then f else 0 })
  else
    let y := diFilter f raw x
    let s := s.modDi d fun x => { diFilter f raw x with changedAt := if y.st == x.st then x.changedAt else s.now }
    if y.st == x.st then showDi d s else inputReview d s

/-- One sample of an input (R426 to R428). -/
def diSample (d : DiId) (s : State) (q : DiSample) : State :=
  let c := diClass s d q
  let s := (s.setR (Obj.FIO_DI_CURRENT d) (r32 q.mA)).modDi d fun x => { x with cls := c, run := if x.cls == c then x.run + 1 else 1 }
  match c with
  | some k => diClassed d k q.mA s
  | none => diWindow d (diRaw s d q) s

/-- The samples of an input since the last command, oldest first; the last one is the sample of now. -/
def diFeed (d : DiId) (samples : List DiSample) (s : State) : State := s.on .abutment fun s => samples.foldl (diSample d) s

/-- R427: the samples with which the filter counter reaches F or 0. -/
def execDiStateChange (d : DiId) (samples : List DiSample) (s : State) : Res := .next (diFeed d samples s)

/-- R428: the samples with which a wire-break or short class has lasted F samples. -/
def execDiLineFault (d : DiId) (first : DiSample) (rest : List DiSample) (s : State) : Res := .next (diFeed d (first :: rest) s)

/-- R428: the samples with which F consecutive ones stand in a contact window. -/
def execDiLineFaultEnd (d : DiId) (first : DiSample) (rest : List DiSample) (s : State) : Res := .next (diFeed d (first :: rest) s)

/-! ### 24 V outputs -/

/-- How late a field command arrives after its instant (R435). -/
def fieldLateness (s : State) (instant : Nat) : Nat := s.replicaOf .abutment - instant

/-- R435: an output takes its command at arrival. -/
def execFieldOutputCommand (o : DoId) (on : Bool) (instant : Nat) (s : State) : Res :=
  .next (fieldOut o on (fieldLateness s instant) s)

def setDoCurrent (o : DoId) (amps : Rat) (s : State) : State := s.setR (Obj.FIO_DO_CURRENT o) (r32 amps)

/-- R430: more than 0.6 A for 10 ms, or in its current limit for 1 ms: the output latches off. -/
def execDoOverload (o : DoId) (rd : OutLoad) (s : State) : Res :=
  .next (s.on .abutment fun s =>
    let exceeded := (decide (mkRat 3 5 < rd.amps) && decide (10 * cyclesMs ≤ rd.held)) || (rd.limiting && decide (cyclesMs ≤ rd.held))
    if !outOn s o || !exceeded then s
    else showOut o (((setDoCurrent o rd.amps s).modDo o fun x => { x with overload := true }).log 0xB004 [o.val + 1, r32 rd.amps]))

/-- The open-wire condition of an output's present state: below 5 mA while on, above 4 V under the test current while off (R430). -/
def wireOpen (s : State) (o : DoId) (amps volts : Rat) : Bool := if outOn s o then decide (amps < mkRat 1 200) else decide (4 < volts)

/-- R430: an open wire lasting 50 ms; suspended while FIELD24 is out of its window, suppressed while OPEN_DET = 0. -/
def execDoOpenWire (o : DoId) (rd : OutWire) (s : State) : Res :=
  .next (s.on .abutment fun s =>
    if s.fio.f24Bad || !s.bit (Obj.FIO_DO_CFG o) 0 || s.bit (Obj.FIO_DO_STATUS o) 2 || !wireOpen s o rd.amps rd.volts
        || decide (rd.held < 50 * cyclesMs) then s
    else ((setDoCurrent o rd.amps s).setBit (Obj.FIO_DO_STATUS o) 2 true).log 0xB005 [o.val + 1, boolNat (outOn s o)])

/-- R430: the condition has been absent for 50 ms; no event. -/
def execDoOpenWireClear (o : DoId) (rd : OutWire) (s : State) : Res :=
  .next (s.on .abutment fun s =>
    if s.fio.f24Bad || wireOpen s o rd.amps rd.volts || decide (rd.held < 50 * cyclesMs) then s else (setDoCurrent o rd.amps s).setBit (Obj.FIO_DO_STATUS o) 2 false)

/-- R430: the junction exceeds 150 °C. -/
def execDoOverTemp (rd : Measured DoId Rat) (s : State) : Res :=
  .next (s.on .abutment fun s =>
    if s.fio.out[rd.unit].overTemp || decide (rd.val ≤ 150) then s
    else showOut rd.unit ((s.modDo rd.unit fun x => { x with overTemp := true }).log 0xB006 [rd.unit.val + 1]))

/-- R430: the junction falls below 135 °C; the output follows its command again. -/
def execDoOverTempEnd (rd : Measured DoId Rat) (s : State) : Res :=
  .next (s.on .abutment fun s => if 135 ≤ rd.val then s else showOut rd.unit (s.modDo rd.unit fun x => { x with overTemp := false }))

/-- R431: FIELD24 is low (code 1) or high (code 2) for 1 ms: every 24 V output is off. -/
def execField24Fault (rd : Reading) (s : State) : Res :=
  .next (s.on .abutment fun s =>
    if s.fio.f24Bad || decide (rd.held < cyclesMs) || (decide (mkRat 33 2 ≤ rd.value) && decide (rd.value ≤ 36)) then s
    else showField ((s.modFio fun x => { x with f24Bad := true }).log 0xB007 [if rd.value < mkRat 33 2 then 1 else 2, r32 rd.value]))

/-- R431: FIELD24 has stood between 17.5 V and 35.0 V for 10 ms (code 0): each output takes its commanded state. -/
def execField24Restored (rd : Reading) (s : State) : Res :=
  .next (s.on .abutment fun s =>
    if s.fio.f24Bad && decide (10 * cyclesMs ≤ rd.held) && decide (mkRat 35 2 ≤ rd.value) && decide (rd.value ≤ 35) then
      showField ((s.modFio fun x => { x with f24Bad := false }).log 0xB007 [0, r32 rd.value])
    else s)

/-! ### Contactor drivers -/

/-- R433: a FIELD_OUT command to a contactor driver; one with an owner ignores and counts it. -/
def execContactorDriverCommand (d : SocId) (on : Bool) (instant : Nat) (s : State) : Res :=
  .next (driverOut d on (fieldLateness s instant) s)

def setCdCurrent (d : SocId) (amps : Rat) (s : State) : State := s.setR (Obj.FIO_CD_CURRENT d) (r32 amps)

/-- R434, Table 18.3: more than 4.0 A for 10 µs turns both switches off and latches; on an SOC driver the keystone latches the instance's FAULT. -/
def execCdOvercurrent (d : SocId) (rd : Reading) (s : State) : Res :=
  .next (s.on .abutment fun s =>
    if s.fio.drv[d].overc || decide (rd.value ≤ 4) || decide (rd.held < cyclesUs 10) then s
    else
      let s := ((setCdCurrent d rd.value s).modCd d fun x => { x with overc := true }).log 0xB008 [d.val + 1, r32 rd.value]
      let s := showDrv d s
      if socOwned s d then s.on .keystone fun s => socFault d (s.log 0x8011 [d.val + 1]) else s)

/-- R434: FIO_CD_CMD CLEAR; refused for a driver with an owner and for one that is commanded on. Answers the abort code. -/
def cdClear (d : SocId) (s : State) : Nat × State :=
  if socOwned s d || drvWanted s d then (0x08000022, s)
  else (0, showDrv d (s.modCd d fun x => { x with overc := false }))

def execCdClear (d : SocId) (w : Writer) (s : State) : Res :=
  .next (request w (Obj.FIO_CD_CMD d) .abutment (owned w (cdClear d)) s)

/-- R434: coil current below 20 mA for 50 ms while energised. -/
def execCdOpenCoil (d : SocId) (rd : Reading) (s : State) : Res :=
  .next (s.on .abutment fun s =>
    if s.fio.drv[d].high && s.fio.drv[d].low && decide (rd.value < mkRat 1 50) && decide (50 * cyclesMs ≤ rd.held) && !s.bit (Obj.FIO_CD_STATUS d) 3 then
      ((setCdCurrent d rd.value s).setBit (Obj.FIO_CD_STATUS d) 3 true).log 0xB009 [d.val + 1]
    else s)

/-- R434: coil current at or above 20 mA for 50 ms while energised; kept while the driver is de-energised. -/
def execCdOpenCoilEnd (d : SocId) (rd : Reading) (s : State) : Res :=
  .next (s.on .abutment fun s =>
    if s.fio.drv[d].high && s.fio.drv[d].low && decide (mkRat 1 50 ≤ rd.value) && decide (50 * cyclesMs ≤ rd.held) then (setCdCurrent d rd.value s).setBit (Obj.FIO_CD_STATUS d) 3 false else s)

/-- R434: a terminal has not followed its switch for 1 ms, on a driver without an owner; terminal 1 high side, 0 low side. -/
def execCdReadbackMismatch (d : SocId) (lag : SwitchLag) (s : State) : Res :=
  .next (s.on .abutment fun s =>
    if socOwned s d || decide (lag.held < cyclesMs) || s.bit (Obj.FIO_CD_STATUS d) 4 then s
    else (s.setBit (Obj.FIO_CD_STATUS d) 4 true).log 0xB00A [d.val + 1, boolNat lag.highSide])

/-! ### Forcing -/

/-- R435: FIO_FORCE, in READY with service access; an output forced off is commanded off (R430). Answers the abort code. -/
def fieldForce (v : Nat) (w : Writer) (s : State) : Nat × State :=
  if !serviceOk s w then (0x08000021, s)
  else if s.mod.mode != .ready then (0x08000022, s)
  else if 0x1FFFF < v then (0x06090030, s)
  else
    let s := s.setN Obj.FIO_FORCE v
    let on := bitsAt v 0 1 == 1
    let s := s.modFio fun x => { x with
      force := if on then some v else none
      out := Vector.ofFn fun o => if on && bitsAt v (o.val + 1) 1 == 0 then { x.out[o] with overload := false } else x.out[o] }
    (0, showField s)

def execFieldForce (v : Nat) (w : Writer) (s : State) : Res :=
  .next (request w Obj.FIO_FORCE .abutment (fieldForce v w) s)

end Sys2Proof.Machine
end

