-- ==== Sys2Proof/Machine/Gallery.lean ====
section
/-!
DEFINITION. Chapter 11: the rows of the galleries: arming and re-arming (R265, R267), streams (R268, R269), reading (R264).
-/

namespace Sys2Proof.Machine

/-- R267: the hold-off's records have passed. -/
def execTriggerHoldoffEnd (p : StageId) (s : State) : Res :=
  .next (s.on (.pier p) fun s =>
    match s.gal[p].holdoff with
    | some 0 => showGallery p (s.modGal p fun g => { g with holdoff := none, armed := true, ready := false })
    | _ => s)

/-- TRG_EN is set: the trigger arms, unless its mask is 0 (R265). Answers an abort code, 0 for success. -/
def armTrigger (p : StageId) (s : State) : Nat × State :=
  if s.objN (Obj.GAL_TRG_MASK p) = 0 then (0x06090030, s)
  else
    let s := s.modGal p fun g => { g with armed := true, ready := false, holdoff := none }
    (0, showGallery p (s.setBit (Obj.GAL_CONFIG p) 6 true))

def execTriggerArm (p : StageId) (w : Writer) (s : State) : Res :=
  .next (request w (Obj.GAL_CONFIG p) (.pier p) (owned w (armTrigger p)) s)

/-- The wire rate on a port in bit/s if pier p streams to it with n nodes and a divider (R269). -/
def portRate (s : State) (p : StageId) (port n divider : Nat) : Rat :=
  (allStages.filter fun q => q != p && galStream s q && s.objN (Obj.GAL_DEST_PORT q) == port).foldl
    (fun z q => z + wireRate s q (galNodes s q).length (galDivider s q)) (wireRate s p n divider)

/-- R269: a request that would exceed 600 Mb/s is refused. -/
def rateRefused (p : StageId) (port : Nat) (rate : Rat) (s : State) : State :=
  (s.setBit (Obj.GAL_STATUS p) 4 true).log 0x2503 [p.val, port, rate / 1000000]

/-- STREAM_EN is set (R268, R269). Answers an abort code, 0 for success. -/
def enableStream (p : StageId) (s : State) : Nat × State :=
  let port := s.objN (Obj.GAL_DEST_PORT p)
  let rate := portRate s p port (galNodes s p).length (galDivider s p)
  if 600000000 < rate then (0x08000020, rateRefused p port rate s)
  else
    let s := (s.setBit (Obj.GAL_CONFIG p) 1 true).setBit (Obj.GAL_STATUS p) 4 false
    (0, showGallery p (s.modGal p fun g => { g with seq := 0, dropped := 0, datagram := [] }))

def execStreamEnable (p : StageId) (w : Writer) (s : State) : Res :=
  .next (request w (Obj.GAL_CONFIG p) (.pier p) (owned w (enableStream p)) s)

/-- R268: the first record of the open datagram is 1 ms old. -/
def execDatagramAgeTimeout (p : StageId) (s : State) : Res :=
  .next (s.on (.pier p) fun s =>
    if s.gal[p].datagram.isEmpty || decide (s.since s.gal[p].openedAt < cyclesMs) then s else sendDatagram p s)

/-- The record that GAL_READ_K names, if it stands in the ring (R264). -/
def galFind (s : State) (p : StageId) (k : Nat) : Option GalRec := s.gal[p].ring.find? fun r => r.k % 4294967296 == k % 4294967296

/-- GAL_READ_DATA: the record of GAL_READ_K in the layout of Table 11.1, or abort 0x0800 0024. -/
def galReadData (s : State) (p : StageId) : List Nat ⊕ Nat :=
  match s.gal[p].readK.bind (galFind s p) with
  | some r => .inl (recordWords r)
  | none => .inr 0x08000024

/-- GAL_READ_K is written (R264). -/
def selectGalRecord (p : StageId) (k : Nat) (s : State) : Nat × State := (0, s.modGal p fun g => { g with readK := some k })

/-- R264: k is written to GAL_READ_K and the record read, or refused. -/
def execGalleryRead (p : StageId) (k : Nat) (w : Writer) (s : State) : Res :=
  .next (if !s.accepts w then request w (Obj.GAL_READ_K p) (.pier p) (fun s => (0x08000021, s)) s
    else
      let s := request w (Obj.GAL_READ_K p) (.pier p) (selectGalRecord p k) s
      match galReadData s p, w with
      | .inl words, .port c _ => if s.reaches w && s.alive .house then s.send c 2 (((Obj.GAL_READ_DATA p :: words).map Int.ofNat)) else s
      | .inl _, .logic => s
      | .inr a, w => request w (Obj.GAL_READ_DATA p) (.pier p) (fun s => (a, s)) s)

end Sys2Proof.Machine
end

