-- ==== Sys2Proof/Machine/Keystone.lean ====
section
/-!
DEFINITION. Chapter 15: the keystone's diagnostics (R355 to R357), the SOC instances (R361 to R365), the end of safe stops (R369,
R370), and the safety layer (R373 to R379).
-/

namespace Sys2Proof.Machine

/-! ### Diagnostics -/

/-- R355: the lockstep comparator finds a difference: the cores halt and every permission lapses. -/
def execLockstepMismatch (s : State) : Res :=
  .next (s.on .keystone fun s =>
    if s.saf.halted then s
    else refreshPermissions (latchFault 0x8001 [1] (s.modSaf fun x => { x with halted := true })))

/-- R356: the full March test of keystone memory, every 10 s. -/
def execMemoryMarchTest (pass : Bool) (s : State) : Res :=
  .next (s.on .keystone fun s =>
    if s.since s.saf.marchAt < 10 * cyclesSec then s else
    let s := s.modSaf fun x => { x with marchAt := s.now }
    if pass then s else latchFault 0x8001 [2] s)

/-- The supply windows of Table 19.3 by housekeeping channel 31 to 48, counted from 0; none for a channel without one. -/
def railWindow (r : Fin 18) : Option (Rat × Rat) :=
  match r.val with
  | 4 => some (0, 27)
  | 6 => some (mkRat 135 10, mkRat 165 10)
  | 7 => some (-(mkRat 165 10), -(mkRat 135 10))
  | 10 => some (12, 55)
  | 11 => some (mkRat 76 100, mkRat 84 100)
  | 12 => some (mkRat 171 100, mkRat 189 100)
  | 13 => some (mkRat 3135 1000, mkRat 3465 1000)
  | 14 => some (mkRat 475 100, mkRat 525 100)
  | _ => none

/-- A rail shed, disabled, or back for less than 10 ms is exempt (R443). -/
def railExempt (s : State) (r : Fin 18) : Bool :=
  let back := match s.sup.backAt with | some t => decide (s.since t < 10 * cyclesMs) | none => false
  let shed := s.sup.shed || back
  if r.val = 4 then shed
  else if r.val = 6 ∨ r.val = 7 then
    shed || s.objN Obj.SUP_SENSOR_EN == 0 || decide (s.since s.sup.sensorAt < 10 * cyclesMs)
  else false

/-- R356, R443: a rail outside its window at two ticks, the one before and this. -/
def execSupplyWindowFault (rail : Fin 18) (ticks : TwoTicks) (s : State) : Res :=
  .next (s.on .keystone fun s =>
    match railWindow rail with
    | some (lo, hi) =>
      let inside (v : Rat) : Bool := decide (lo ≤ v) && decide (v ≤ hi)
      if railExempt s rail || inside ticks.before || inside ticks.now then s
        else latchFault 0x8002 [rail.val + 31, r32 ticks.now] s
    | none => s)

/-- R356: an echo of a permission line has been missing or wrong for so many core cycles: a fault at 2 µs. -/
def execPermissionEchoFault (rd : Measured PermLine Nat) (s : State) : Res :=
  .next (s.on .keystone fun s =>
    if rd.val < cyclesUs 2 then s else latchFault 0x8001 [3, match rd.unit with | .pulseEnable g => (g.val + 1 : Nat) | .contactorEnable => 0] s)

/-- R356: 720 h since the last reset. -/
def execResetDue (s : State) : Res :=
  .next (s.on .keystone fun s =>
    if s.since s.saf.resetAt < 720 * cyclesHour || s.bit Obj.SAF_STATUS 4 then s
    else (s.setBit Obj.SAF_STATUS 4 true).log 0x8008 [(s.since s.saf.resetAt / cyclesHour : Nat)])

/-! ### SOC -/

/-- R361: the requester asks the instance to close. -/
def execSocCloseRequest (i : SocId) (s : State) : Res :=
  .next (s.on .keystone fun s => if socOwned s i then socClose i s else s)

/-- R361: the requester, or a stop, asks the instance to open. -/
def execSocOpenRequest (i : SocId) (s : State) : Res :=
  .next (s.on .keystone fun s => if socOwned s i then socOpen i s else s)

/-- R362: a test pulse starts on one switch, in turn. -/
def execSocSwitchTest (i : SocId) (s : State) : Res :=
  .next (s.on .keystone fun s =>
    let x := s.saf.soc[i]
    if !socOwned s i || x.test.isSome || x.fault || decide (s.since x.testAt < s.objN (Obj.SAF_SOC_TEST_PERIOD i) * cyclesSec) then s
    else showSoc i (s.modSoc i fun x => { x with test := some (x.nextHigh, s.now, cyclesUs (s.objN (Obj.SAF_SOC_PULSE i))), testAt := s.now }))

/-- R362, R363: the pulse ends; a switch that did not follow is a latched safety fault; a request that waited acts. -/
def execSocTestPulseEnd (i : SocId) (followed : Bool) (s : State) : Res :=
  .next (s.on .keystone fun s =>
    let x := s.saf.soc[i]
    match x.test with
    | none => s
    | some (high, t, len) =>
      if s.since t < len then s
      else
        let s := s.modSoc i fun x => { x with test := none, nextHigh := !high, wish := none }
        if !followed then latchFault 0x8013 [i.val + 1, boolNat high] (socFault i s)
        else
          match x.wish with
          | some true => socClose i (showSoc i s)
          | some false => socOpen i (showSoc i s)
          | none => showSoc i s)

def execSocCloseDiscrepancy (i : SocId) (s : State) : Res := .next (s.on .keystone (closeDiscrepancy i))
def execSocOpenDiscrepancy (i : SocId) (s : State) : Res := .next (s.on .keystone (openDiscrepancy i))

/-- R364: CLEAR_SOC; it releases the abutment's overcurrent latch too (R434). Answers the abort code. -/
def clearSoc (i : SocId) (testsPass : Bool) (w : Writer) (s : State) : Nat × State :=
  if !serviceOk s w then (0x08000021, s)
  else if (s.mod.mode != .ready && s.mod.mode != .lockout) || !testsPass || auxEnergised s i then (0x08000022, s)
  else
    let s := s.modSoc i fun x => { x with fault := false, awaited := false }
    let s := s.modCd i fun x => { x with overc := false }
    let s := if s.saf.soc.toList.any fun x => x.fault then s
      else s.modSaf fun x => { x with latched := x.latched.filter fun c => c != 0x8012 && c != 0x8013 }
    let s := s.setBit Obj.SAF_STATUS 3 (!s.saf.latched.isEmpty)
    (0, showSoc i (s.log 0x8015 [i.val + 1]))

def execClearSoc (i : SocId) (testsPass : Bool) (w : Writer) (s : State) : Res :=
  .next (request w Obj.SAF_CMD .keystone (clearSoc i testsPass w) s)

/-- R365: a contactor has stayed energised for SAF_SOC_PROOF. -/
def execSocProofDue (i : SocId) (s : State) : Res := .next (s.on .keystone (proofReview i))

/-! ### Safe stop -/

/-- R369: ramp and tail have elapsed without completion. -/
def execSsdRampIncomplete (n : StageId) (s : State) : Res :=
  .next (s.on .keystone fun s =>
    match s.saf.ssd[n].ramp with
    | some (td, _, tr, cause) =>
      if s.since td < tr + s.objN (Obj.SAF_SSD_TAIL n) * cyclesMs then s
      else if s.saf.ssd[n].x < ssdPar s (Obj.SAF_SSD_END n) then ssdComplete n cause td s
      else keystoneSafe n 0x8022 (s.log 0x8022 [n.val, r32 s.saf.ssd[n].x])
    | none => s)

/-- R370: keystone and pier have differed by more than the band for `held` core cycles; a difference that stands since before the first tick
that saw it is dated back. -/
def execSsdPlausibilityFail (n : StageId) (held : Nat) (s : State) : Res :=
  .next (s.on .keystone fun s => plausible n (pierMeasure s n) (dateDifference n held s))

/-! ### The safety layer -/

def connOn (s : State) (c : ConnId) : Bool := s.bit (Obj.SAF_CONN_CFG c) 0
def isProducer (s : State) (c : ConnId) : Bool := s.bit (Obj.SAF_CONN_CFG c) 1
def connPaths (s : State) (c : ConnId) : Nat := s.field (Obj.SAF_CONN_CFG c) 2 2
def connLength (s : State) (c : ConnId) : Nat := s.field (Obj.SAF_CONN_CFG c) 5 6
def connStation (s : State) (c : ConnId) : Nat := s.field (Obj.SAF_CONN_CFG c) 11 7
def hasFallback (s : State) (c : ConnId) : Bool := connPaths s c != 0
/-- The port of the fall-back path: E3, E4, CAN B (Table 15.9). -/
def fallbackPort (s : State) (c : ConnId) : Nat := match connPaths s c with | 1 => 3 | 2 => 4 | _ => 6
def maxAge (s : State) (c : ConnId) : Nat := s.objN (Obj.SAF_CONN_MAX_AGE c) * cyclesMs

/-- Payload padded with zero bytes to whole words (R373). -/
def padWord (l : List Nat) : List Nat := l ++ List.replicate ((4 - l.length % 4) % 4) 0

/-- A safety unit's bytes (Table 15.3). -/
def unitBytes (id seq tally us : Nat) (good fallback safeState : Bool) (payload : List Nat) : List Nat :=
  let body := bytesBE 4 id ++ bytesBE 2 seq ++ bytesBE 1 tally ++ bytesBE 1 payload.length ++ bytesBE 4 (us % 4294967296)
    ++ bytesBE 4 (us / 4294967296 % 65536 + 65536 * boolNat good + 131072 * boolNat fallback + 262144 * boolNat safeState) ++ padWord payload
  body ++ bytesBE 4 (crc crcSafety body)

/-- The values the program sets in the payload tags of a station, four bytes each in the order of their positions (R375,
DESIGN CHOICE, log 22). -/
def stationPayload (s : State) (st : Nat) : List Nat :=
  let tags := s.lgc.image.tags.filter fun t => t.defn.binding == 8 && t.defn.to_ == st
  (List.range tags.length).flatMap fun i =>
    match tags.find? fun t => t.defn.pos == i with | some t => bytesBE 4 (t.val % 4294967296) | none => [0, 0, 0, 0]

/-- A producer's payload: SAF_STATUS in word 4, then the station's tags (R375). -/
def producedPayload (s : State) (c : ConnId) : List Nat :=
  let all := bytesBE 4 (s.objN Obj.SAF_STATUS) ++ stationPayload s (connStation s c) ++ List.replicate 44 0
  all.take (connLength s c)

/-- Where the unit of a producer goes: the destination with the UDP port, on CAN B the COB-ID (R375). -/
def unitAddress (s : State) (c : ConnId) (port : Nat) : List Int :=
  if port = 6 then [(s.objN (Obj.SAF_CONN_COB c) : Int)] else [(s.objN (Obj.SAF_CONN_DEST c) : Int), (s.objN Obj.SAF_UDP : Int)]

/-- R375: a producer sends a unit, on the main path and on the fall-back where one is configured. -/
def sendUnit (c : ConnId) (s : State) : State :=
  let s := s.modConn c fun x => { x with seq := (x.seq + 1) % 65536, tally := (x.tally + 1) % 256, sentAt := s.now }
  let x := s.saf.conn[c]
  let us := ntaAt s s.now / 1000
  let bytes (fb : Bool) := unitBytes (s.objN (Obj.SAF_CONN_ID c)) x.seq x.tally us (ntaGood s) fb false (producedPayload s c)
  let s := s.send 2 40 (unitAddress s c 2 ++ (bytes false).map Int.ofNat)
  if hasFallback s c then s.send (fallbackPort s c) 40 (unitAddress s c (fallbackPort s c) ++ (bytes true).map Int.ofNat) else s

def execSafetyUnitSend (c : ConnId) (s : State) : Res :=
  .next (if s.alive .keystone && s.alive .network && connOn s c && isProducer s c && !isStandby s
        && decide (s.objN (Obj.SAF_CONN_PERIOD c) * cyclesMs ≤ s.since s.saf.conn[c].sentAt)
    then sendUnit c s else s)

/-- SAF_CONN_STATUS and the bits of SAF_STATUS that follow the connections (Tables 15.7, 15.10). -/
def showConn (c : ConnId) (s : State) : State :=
  let x := s.saf.conn[c]
  let s := s.setField (Obj.SAF_CONN_STATUS c) 0 4 (boolNat (!x.safe) + 2 * boolNat x.safe
    + 4 * boolNat (!x.pathLost[(0 : Fin 2)]) + 8 * boolNat (hasFallback s c && !x.pathLost[(1 : Fin 2)]))
  let used (d : ConnId) : Bool := connOn s d && !isProducer s d
  let s := s.setBit Obj.SAF_STATUS 24 (allConns.any fun d => used d && s.saf.conn[d].safe)
  s.setBit Obj.SAF_STATUS 25 (allConns.any fun d =>
    used d && hasFallback s d && (s.saf.conn[d].pathLost[(0 : Fin 2)] || s.saf.conn[d].pathLost[(1 : Fin 2)]))

/-- A connection goes to its safe value (R377); causes: 1 no unit in time, 2 a rejected unit, 3 restart. The next unit is the
first after a restart (DESIGN CHOICE, log 22). -/
def connSafe (c : ConnId) (cause : Nat) (s : State) : State :=
  let was := s.saf.conn[c].safe
  let s := s.modConn c fun x => { x with safe := true, fresh := true, accepted := 0, payload := [] }
  let s := if was then s else s.log 0x8031 [c.val, cause]
  permitReview (showConn c s)

/-- A unit is rejected (R376): reason 2, 4 or 6 takes the connection to its safe value at once (R377). -/
def rejectUnit (c : ConnId) (reason : Nat) (s : State) : State :=
  let s := (s.bump (Obj.SAF_CONN_REJECTED c)).setField (Obj.SAF_CONN_STATUS c) 8 8 reason
  let s := s.logOnce 0x8030 c.val [c.val, reason]
  let s := s.modConn c fun x => { x with accepted := 0 }
  if reason = 2 ∨ reason = 4 ∨ reason = 6 then connSafe c 2 s else s

/-- A copy has passed on a path: a lost path is restored (R378). -/
def pathSeen (c : ConnId) (fb : Bool) (s : State) : State :=
  let p : Fin 2 := if fb then 1 else 0
  let was := s.saf.conn[c].pathLost[p]
  let s := s.modConn c fun x => { x with pathAt := x.pathAt.set p s.now, pathLost := x.pathLost.set p false }
  if was && hasFallback s c then s.log 0x8033 [c.val, boolNat fb] else s

/-- The fields of a unit (Table 15.3). -/
structure UnitView where
  id : Nat
  seq : Nat
  tally : Nat
  len : Nat
  us : Nat
  good : Bool
  fallback : Bool
  payload : List Nat
  crcOk : Bool
deriving DecidableEq, Repr

def readUnit (u : List Nat) : UnitView :=
  let w (i : Nat) : Nat := wordBE ((u.drop (4 * i)).take 4)
  let n := u.length
  let w3 := w 3
  { id := w 0, seq := w 1 / 65536, tally := w 1 / 256 % 256, len := w 1 % 256, us := w 2 + 4294967296 * (w3 % 65536),
    good := bitsAt w3 16 1 == 1, fallback := bitsAt w3 17 1 == 1, payload := (u.drop 16).take (w 1 % 256),
    crcOk := decide (20 ≤ n) && wordBE (u.drop (n - 4)) == crc crcSafety (u.take (n - 4)) }

/-- What two copies are compared in: every field except PATH and the check value (R378). -/
def sameCopy (a b : List Nat) : Bool :=
  let strip (l : List Nat) : List Nat := (l.take (l.length - 4)).mapIdx fun i x => if i = 13 then x / 4 * 4 + x % 2 else x
  strip a == strip b

/-- The age of a unit in µs (R376). -/
def unitAge (s : State) (v : UnitView) : Int := ((ntaAt s s.now / 1000 : Nat) : Int) - v.us

/-- A unit has passed the checks of R376: it is accepted; the second in a row ends the safe value (R377). -/
def acceptUnit (c : ConnId) (v : UnitView) (u : List Nat) (timed : Bool) (s : State) : State :=
  let s := pathSeen c v.fallback s
  let s := s.setBit (Obj.SAF_CONN_STATUS c) 4 timed
  let s := if timed then s.setR (Obj.SAF_CONN_LAST_AGE c) (r32 (unitAge s v)) else s
  let x := s.saf.conn[c]
  let back := x.safe && decide (1 ≤ x.accepted)
  let live := !x.safe || back
  let s := s.modConn c fun x => { x with
    seq := v.seq, tally := v.tally, fresh := false, accepted := x.accepted + 1, acceptedAt := s.now, last := u,
    safe := !live, payload := if live then v.payload else [] }
  let s := if back then s.log 0x8032 [c.val] else s
  permitReview (showConn c s)

/-- R376, R378: the checks in their order. -/
def checkUnit (c : ConnId) (v : UnitView) (u : List Nat) (s : State) : State :=
  let x := s.saf.conn[c]
  let d := (v.seq + 65536 - x.seq) % 65536
  let timed := v.good && ntaGood s
  if !v.crcOk then rejectUnit c 1 s
  else if v.id ≠ s.objN (Obj.SAF_CONN_ID c) then rejectUnit c 2 s
  else if v.len ≠ connLength s c || u.length ≠ 20 + (padWord v.payload).length then rejectUnit c 7 s
  else if !x.fresh && !x.safe && decide (d = 0) then
    if sameCopy u x.last then pathSeen c v.fallback (s.modConn c fun x => { x with copies := x.copies + 1 })
    else rejectUnit c 6 (s.log 0x8034 [c.val, v.seq])
  else if !x.fresh && (decide (d = 0) || decide (s.objN (Obj.SAF_CONN_MAX_LOSS c) + 1 < d)) then rejectUnit c 3 s
  else if !x.fresh && v.tally ≠ (x.tally + d) % 256 then rejectUnit c 4 s
  else if timed && (decide (unitAge s v < -100) || decide ((s.objN (Obj.SAF_CONN_MAX_AGE c) * 1000 : Int) < unitAge s v)) then rejectUnit c 5 s
  else acceptUnit c v u timed s

/-- The connection a unit is for: the one its address names, else the one with its identity (R376). -/
def unitConn (s : State) (named : Option ConnId) (v : UnitView) : Option ConnId :=
  match named with
  | some c => some c
  | none => allConns.find? fun c => connOn s c && !isProducer s c && s.objN (Obj.SAF_CONN_ID c) == v.id

def execSafetyUnitReceived (named : Option ConnId) (unit : List Nat) (s : State) : Res :=
  .next (if !s.alive .keystone || !s.alive .network then s
    else
      let v := readUnit unit
      match unitConn s named v with
      | some c => if connOn s c && !isProducer s c then checkUnit c v unit s else s
      | none => if v.crcOk then s.bump Obj.SAF_UNKNOWN_ID else s)

/-- R377: no unit accepted for SAF_CONN_MAX_AGE. -/
def execConnectionTimeout (c : ConnId) (s : State) : Res :=
  .next (s.on .keystone fun s =>
    if connOn s c && !isProducer s c && !s.saf.conn[c].safe && decide (maxAge s c ≤ s.since s.saf.conn[c].acceptedAt) then connSafe c 1 s else s)

/-- R378: no copy has passed on one path for SAF_CONN_MAX_AGE. -/
def execPathTimeout (c : ConnId) (fallback : Bool) (s : State) : Res :=
  .next (s.on .keystone fun s =>
    let p : Fin 2 := if fallback then 1 else 0
    let x := s.saf.conn[c]
    if connOn s c && !isProducer s c && hasFallback s c && !x.pathLost[p] && decide (maxAge s c ≤ s.since x.pathAt[p]) then
      showConn c ((s.modConn c fun x => { x with pathLost := x.pathLost.set p true }).log 0x8033 [c.val, boolNat fallback])
    else s)

/-- R377: RESTART_CONN. -/
def restartConn (c : ConnId) (w : Writer) (s : State) : Nat × State :=
  if !s.accepts w then (0x08000021, s)
  else if connOn s c && !isProducer s c then (0, connSafe c 3 s) else (0, s)

def execRestartConn (c : ConnId) (w : Writer) (s : State) : Res :=
  .next (request w Obj.SAF_CMD .keystone (restartConn c w) s)

end Sys2Proof.Machine
end

