-- ==== Sys2Proof/Machine/Clocks.lean ====
section
/-!
DEFINITION. Chapter 12: the reference selector (R273 to R277), the PLLs (R278 to R282), the servo and states of the time bases
(R283 to R287), twin time (R288, R289) and the protocol messages (R291 to R293).
-/

namespace Sys2Proof.Machine

/-! ### References -/

/-- TIM_REF_CFG: the preferred own reference, the standby, and whether the partner's comes first. -/
def refPreferred (s : State) : Fin 3 := if s.bit Obj.TIM_REF_CFG 1 then 1 else 0
def refStandby (s : State) : Fin 3 := if s.bit Obj.TIM_REF_CFG 1 then 0 else 1
def partnerFirst (s : State) : Bool := s.bit Obj.TIM_REF_CFG 0

/-- The reference a healthy selector uses first (R273). -/
def refHome (s : State) : Fin 3 := if partnerFirst s then 2 else refPreferred s

/-- The next healthy reference: preferred, standby, partner where SOURCE = 1 (R275). -/
def refNext (s : State) : Option (Fin 3) :=
  ([refPreferred s, refStandby s] ++ if partnerFirst s then [2] else []).find? fun r => s.clk.refOk[r]

/-- TIM_STATUS follows references and PLLs (Table 12.9). -/
def showClocks (s : State) : State :=
  let c := s.clk
  let w := (match c.active with | some r => r.val | none => if c.pllOn then 3 else 0) + 4 * boolNat (decide (Island.edge ∈ c.onB))
    + 8 * boolNat c.pll[(0 : Fin 2)].locked + 16 * boolNat c.pll[(1 : Fin 2)].locked
    + 32 * boolNat c.pll[(0 : Fin 2)].failed + 64 * boolNat c.pll[(1 : Fin 2)].failed
    + 128 * boolNat (c.pllOn && c.active.isNone)
    + 256 * boolNat c.refOk[(0 : Fin 3)] + 512 * boolNat c.refOk[(1 : Fin 3)] + 1024 * boolNat c.refOk[(2 : Fin 3)]
  (s.setField Obj.TIM_STATUS 0 11 w).setBit Obj.TIM_STATUS 12 c.netLocked

def refCode (r : Option (Fin 3)) : Rat := match r with | some r => r.val | none => 3

/-- The selector switches with phase build-out (R275); causes: 1 lost, 2 frequency fault, 3 gross check, 4 return. -/
def switchRef (new : Fin 3) (cause : Nat) (s : State) : State :=
  if s.clk.active = some new then s
  else showClocks ((s.modClk fun c => { c with active := some new, switchedAt := if cause = 4 then c.switchedAt else some s.now }).log 0x5001 [refCode s.clk.active, refCode (some new), cause])

/-- Reference holdover (R277): the PLLs hold, every time base goes into holdover. -/
def enterRefHoldover (s : State) : State :=
  let s := showClocks ((s.modClk fun c => { c with active := none }).log 0x5006 [1])
  allStages.foldl (fun s n => claimReview n s) (baseHoldover 2 2 (baseHoldover 1 2 (baseHoldover 0 2 s)))

/-- A reference is lost or faulty (R274): marked, and left if it is the active one. -/
def refFault (r : Fin 3) (cause : Nat) (s : State) : State :=
  let s := showClocks (s.modClk fun c => { c with refOk := c.refOk.set r false, badAt := c.badAt.set r s.now })
  if s.clk.active = some r then
    match refNext s with
    | some q => switchRef q cause s
    | none => enterRefHoldover s
  else s

/-- R274: no edge for so many core cycles. Edges are due every 16 cycles and missing at 20; two have been missed after 32 (78.1 ns; DEDUCED,
log 160). A reference already marked has its time in health begin anew. -/
def execReferenceLost (rd : Measured (Fin 3) Nat) (s : State) : Res :=
  .next (if s.clk.pllOn && decide (32 ≤ rd.val) then lockReview (refFault rd.unit 1 s) else s)

/-- How long a reference has been healthy without interruption. -/
def healthyFor (s : State) (r : Fin 3) : Nat := s.since s.clk.badAt[r]

/-- R277: a reference healthy for 1 ms ends reference holdover. The partner's serves only where SOURCE = 1. -/
def execRefHoldoverEnd (r : Fin 3) (s : State) : Res :=
  .next (if s.clk.pllOn && s.clk.active.isNone && (r != 2 || partnerFirst s) && decide (cyclesMs ≤ healthyFor s r) then
      lockReview (showClocks ((s.modClk fun c => { c with refOk := c.refOk.set r true, active := some r }).log 0x5006 [0]))
    else s)

/-- A reference counted against the active PLL: a step above 50 ppm is a rejection of the partner's reference and a frequency
fault of an own one (R276). -/
def checkStep (step : Vector Rat 3) (s : State) (r : Fin 3) : State :=
  if !s.clk.refOk[r] || decide (absR step[r] ≤ 50) then s
  else if r = 2 then refFault r 2 (s.log 0x500C [step[r]])
  else refFault r 2 s

/-- R274, R276: the check every 10 ms: deviations are reported, disagreement with the active reference is logged at its
begin, and while NTA is good it is settled against the grandmaster's rate. -/
def freqCheck (dev step : Vector Rat 3) (s : State) : State :=
  let s := (List.finRange 3).foldl (fun s r => s.setR (Obj.TIM_REF_DEV r.val) (r32 dev[r])) s
  let s := (List.finRange 3).foldl (checkStep step) s
  let tol : Rat := s.objN Obj.TIM_REF_TOL
  let usable := (List.finRange 3).filter fun r => s.clk.refOk[r]
  let bad := usable.filter fun r => decide (s.clk.active ≠ some r) && decide (tol < absR dev[r])
  let was := s.bit Obj.TIM_STATUS 11
  let s := s.setBit Obj.TIM_STATUS 11 (!bad.isEmpty)
  let s := if !bad.isEmpty && !was then s.log 0x5002 (dev.toList.map r32) else s
  if bad.isEmpty || !ntaGood s then s
  else
    let rate : Rat := mkRat ((s.clk.base[(0 : Fin 3)].inForce s.now).r * 1000000) 1099511627776
    let faulty := usable.filter fun r => decide (tol < absR (dev[r] - rate))
    faulty.foldl (fun s r => refFault r 2 s) s

def execReferenceFreqCheck (dev step : Vector Rat 3) (s : State) : Res :=
  .next (if clockRuns s && s.clk.active.isSome && decide (10 * cyclesMs ≤ s.since s.clk.countedAt) then
      lockReview (freqCheck dev step (s.modClk fun c => { c with countedAt := s.now }))
    else s)

/-- The timebase line of a pair carries the partner's reference (R273). -/
def partnerLine (s : State) : Bool := s.twn.mode != 0 && linkUp s

/-- R274, R275: a reference healthy for 10 s is used again; with REVERT the selector returns to the preferred one. -/
def execReferenceHealthy (r : Fin 3) (s : State) : Res :=
  .next (if !s.clk.pllOn || decide (healthyFor s r < 10 * cyclesSec) || (r == 2 && !partnerLine s) then s
    else
      let s := showClocks (s.modClk fun c => { c with refOk := c.refOk.set r true })
      if s.clk.active.isSome && s.bit Obj.TIM_REF_CFG 2 && decide (r = refHome s) then lockReview (switchRef r 4 s) else s)

/-- TIM_CMD REVERT_REF (R275). -/
def revertRef (s : State) : State :=
  let r := refHome s
  if s.clk.refOk[r] && s.clk.active.isSome then switchRef r 4 s
  else if partnerFirst s && s.clk.refOk[refPreferred s] && s.clk.active.isSome then switchRef (refPreferred s) 4 s
  else s

def execRevertRef (w : Writer) (s : State) : Res :=
  .next (request w Obj.TIM_CMD .network (owned w fun s => (0, lockReview (revertRef s))) s)

/-! ### Domains -/

def base3 (b : Fin 2) : Fin 3 := ⟨b.val, by omega⟩
def domainOn (s : State) (b : Fin 2) : Bool := s.bit (Obj.TIM_NTA_CFG b) 0
def domainRole (s : State) (b : Fin 2) : Nat := s.field (Obj.TIM_NTA_CFG b) 3 2
/-- The port code of a domain's port (R330's codes): the one behind the switch, E3, E4. -/
def domainPort (s : State) (b : Fin 2) : Nat :=
  match s.field (Obj.TIM_NTA_CFG b) 1 2 with | 0 => 2 | 1 => 3 | _ => 4
/-- Messages pass: the network island acts and its PLL is locked, so that the PHY links are up (R281). -/
def domainUp (s : State) (b : Fin 2) : Bool := domainOn s b && s.alive .network && s.clk.netLocked

def reviewNta (b : Fin 3) (s : State) : State := if b = 0 then allStages.foldl (fun s n => claimReview n s) s else s

/-- The module's own clock identity, a constant of the module (DESIGN CHOICE, log 5). -/
def ownClockId (b : Fin 2) : Nat := Config.moduleConst (Obj.TIM_NTA_GM_ID b)

/-- A grandmaster is noted; a change of it is logged and restarts the servo's history (R287). -/
def noteMaster (b : Fin 2) (gm : Nat) (s : State) : State :=
  let old := s.clk.base[base3 b].gmId
  let s := if old ≠ 0 ∧ old ≠ gm then
      (s.modBase (base3 b) fun x => { x with hist := [], need := 4 }).log 0x500B [(b.val : Nat), (old : Nat), (gm : Nat)]
    else s
  (s.modBase (base3 b) fun x => { x with gmId := gm }).setN (Obj.TIM_NTA_GM_ID b) gm

/-- The module becomes grandmaster of the domain (R287): an absent base starts at n = MT × 2.44140625 ns. -/
def becomeMaster (b : Fin 2) (s : State) : State :=
  let x := s.clk.base[base3 b]
  if x.gm || x.st == 5 then s
  else
    let s := noteMaster b (ownClockId b) s
    let s := s.modBase (base3 b) fun x =>
      if x.st = 0 then { x with m0 := s.now, n0 := ((s.now : Rat) * nsCycle * 65536).floor, r := 0, next := none } else x
    let s := if x.st = 3 ∨ x.st = 4 then s.log 0x5008 [(b.val : Nat), mkRat (s.since x.leftLocked : Nat) cyclesMs] else s
    let s := s.modBase (base3 b) fun x => { x with gm := true, st := 2, theta := 0, thetaHat := 0 }
    reviewNta (base3 b) (showBase (base3 b) (s.setN (Obj.TIM_NTA_STEPS_REMOVED b) 0))

/-- A domain after its configuration was loaded or written: disabled, its base is ABSENT; master only, its port enters the
master state (R287, Table 12.11). -/
def domainReview (b : Fin 2) (s : State) : State :=
  if !domainOn s b then
    reviewNta (base3 b) (showBase (base3 b) (s.modBase (base3 b) fun x =>
      if x.st = 5 then x else { x with st := 0, gm := false, agree := 0, lastTheta := none, hist := [], theta := 0 }))
  else if domainRole s b = 1 && s.alive .network && s.clk.netLocked then becomeMaster b s
  else showBase (base3 b) (s.modBase (base3 b) fun x => { x with lastAnnounce := s.now })

/-! ### The servo -/

/-- Least-squares slope of master − module time against module time, over the points held (R286; DEDUCED, log 18). -/
def lsSlope (pts : List (Nat × Rat)) : Option Rat :=
  let n : Rat := pts.length
  if pts.length < 2 then none
  else
    let xs := pts.map fun p => (p.1 : Rat) * nsCycle
    let ys := pts.map (·.2)
    let xm := xs.foldl (· + ·) 0 / n
    let ym := ys.foldl (· + ·) 0 / n
    let num := ((xs.zip ys).map fun p => (p.1 - xm) * (p.2 - ym)).foldl (· + ·) 0
    let den := (xs.map fun x => (x - xm) * (x - xm)).foldl (· + ·) 0
    if den = 0 then none else some (num / den)

/-- One measured point enters the history of the last sixteen; y follows once enough have been measured (R286, R287). -/
def feedServo (master : Rat) (now : Nat) (x : BaseSt) : BaseSt :=
  let hist := ((now, master - (now : Rat) * nsCycle) :: x.hist).take 16
  let y := if x.need ≤ hist.length then (lsSlope hist).getD x.y else x.y
  { x with hist := hist, y := y, need := if x.need ≤ hist.length then 2 else x.need }

/-- The next whole millisecond of module time (R283). -/
def nextMs (now : Nat) : Nat := (now / cyclesMs + 1) * cyclesMs

/-- r in units of 2⁻⁴⁰ and n₀ in 2⁻¹⁶ ns, rounded to the nearest (DEDUCED, log 18). -/
def rateUnits (r : Rat) : Int := roundEven (r * 1099511627776)
def nsUnits (n : Rat) : Int := roundEven (n * 65536)

/-- R285: the end of ACQUIRING: one step of the base into LOCKED, on a segment that reads the master's time at m₀. -/
def acquireStep (b : Fin 3) (master : Rat) (s : State) : State :=
  let x := s.clk.base[b]
  let y := (lsSlope x.hist).getD 0
  let m0 := nextMs s.now
  let n0 := master + ((m0 - s.now : Nat) : Rat) * nsCycle * (1 + y)
  let step := n0 - x.at_ m0
  let s := s.modBase b fun x => { x with st := 2, m0 := m0, n0 := nsUnits n0, r := rateUnits y, next := none, y := y, theta := 0,
                                         thetaHat := 0, stepped := true, agree := 0, lastTheta := none }
  reviewNta b (showBase b (s.log 0x5007 [(b.val : Nat), r32 step]))

/-- The state that a measured θ leads to from LOCKED, CONVERGING or HOLDOVER (Table 12.3); `near` and `far` are the bounds
1 µs and 10 µs, for TT one core cycle both. -/
def baseMeasured (b : Fin 3) (near far : Rat) (s : State) : State :=
  let x := s.clk.base[b]
  if x.st = 2 then
    if far < absR x.theta then
      (s.modBase b fun x => { x with st := 3, leftLocked := s.now }).log 0x500A [(b.val : Nat), r32 x.theta]
    else s
  else if absR x.theta ≤ near then
    (s.modBase b fun x => { x with st := 2 }).log 0x5008 [(b.val : Nat), mkRat (s.since x.leftLocked : Nat) cyclesMs]
  else if x.st = 4 then (s.modBase b fun x => { x with st := 3 }).log 0x500A [(b.val : Nat), r32 x.theta]
  else s

/-- One usable measurement of a base (R285, R286); `free`: references are healthy, so that corrections apply (R277). -/
def measure (b : Fin 3) (master : Rat) (near far : Rat) (s : State) : State :=
  let x := s.clk.base[b]
  let theta := x.at_ s.now - master
  if s.clk.active = none then
    showBase b (s.modBase b fun x => { x with theta := theta, lastSync := s.now })
  else
    let s := s.modBase b fun x => { feedServo master s.now x with theta := theta, lastSync := s.now }
    if x.st = 0 then
      if x.pathDelay.isSome || b = 2 then showBase b (s.modBase b fun x => { x with st := 1, agree := 0, lastTheta := some theta }) else showBase b s
    else if x.st = 1 then
      let ok := match x.lastTheta with | some t => decide (absR (theta - t) ≤ 1000) | none => false
      let s := s.modBase b fun x => { x with agree := if ok then x.agree + 1 else 0, lastTheta := some theta }
      if 3 ≤ s.clk.base[b].agree then acquireStep b master s else showBase b s
    else
      let s := s.modBase b fun x => { x with thetaHat := theta }
      reviewNta b (showBase b (baseMeasured b near far s))

/-- The master's time at the arrival of a Sync: its time of sending, the correction and the path delay measured (R284). -/
def masterTime (s : State) (b : Fin 2) (origin correction : Rat) : Rat :=
  origin + correction + (s.clk.base[base3 b].pathDelay.getD 0)

/-- R286, R291: a Sync is stamped and measured. -/
def execPtpSyncReceived (b : Fin 2) (m : SyncMsg) (s : State) : Res :=
  .next (if !domainUp s b || s.clk.base[base3 b].gm || s.clk.base[base3 b].st == 5 then s
    else
      match m with
      | .unsupported => s.bump (Obj.TIM_NTA_DISCARDED b)
      | .sync origin correction gm => measure (base3 b) (masterTime s b origin correction) 1000 10000 (noteMaster b gm s))

/-- A PTP interval of 2^k seconds in core cycles, for −7 ≤ k ≤ 5. -/
def ptpInterval (k : Int) : Nat := 3200000 * 2 ^ (k + 7).toNat

/-- R284: TIM_NTA_LOSS_COUNT sync intervals without a usable Sync. -/
def execSyncLossTimeout (b : Fin 2) (s : State) : Res :=
  .next (let x := s.clk.base[base3 b]
    if !x.gm && decide (s.objN (Obj.TIM_NTA_LOSS_COUNT b) * ptpInterval (s.objI (Obj.TIM_NTA_LOG_SYNC b)) ≤ s.since x.lastSync) then
      reviewNta (base3 b) (baseHoldover (base3 b) 1 s)
    else s)

/-- R283, R286: the segment every millisecond: c = clamp(−θ̂/τ, ±s_lim), r = y + c, continuous at the next whole
millisecond; in HOLDOVER c is 0. -/
def segmentUpdate (b : Fin 3) (s : State) : State :=
  let x := s.clk.base[b].inForce s.now
  let tc : Rat := if h : b.val < 2 then (s.objN (Obj.TIM_NTA_SERVO_TC ⟨b.val, h⟩) : Nat) * 1000000 else 10000000
  let lim : Rat := mkRat (if h : b.val < 2 then s.objN (Obj.TIM_NTA_SLEW ⟨b.val, h⟩) else s.objN Obj.TIM_TT_SLEW) 1000000
  let c := if x.st = 4 then 0 else clampR (-(x.thetaHat / tc)) (-lim) lim
  let m0 := nextMs s.now
  let s := s.modBase b fun _ => { x with next := some (m0, nsUnits (x.line m0), rateUnits (x.y + c)), lastSegment := s.now,
                                         thetaHat := if x.st = 4 then x.thetaHat else x.thetaHat + c * 1000000 }
  showBase b (s.setBit (statusKey b) 5 (x.st != 4 && (decide (c = lim) || decide (c = -lim))))

def execSegmentUpdate (b : Fin 3) (s : State) : Res :=
  .next (let x := s.clk.base[b]
    if !x.gm && (x.st == 2 || x.st == 3 || x.st == 4) && decide (cyclesMs ≤ s.since x.lastSegment)
        && !(b == 2 && s.twn.primary) && s.alive (if b = 2 then .link else .network) then segmentUpdate b s
    else s)

/-- TIM_CMD STEP_NTA or STEP_NTB (R285): only in READY or LOCKOUT, with service access. Answers the abort code. -/
def stepBase (b : Fin 2) (w : Writer) (s : State) : Nat × State :=
  if !serviceOk s w then (0x08000021, s)
  else if s.mod.mode ≠ .ready ∧ s.mod.mode ≠ .lockout then (0x08000022, s)
  else
    let x := s.clk.base[base3 b]
    if x.gm || x.st == 0 || x.st == 5 then (0, s)
    else
      let s := s.modBase (base3 b) fun x => { x with st := 1, agree := 0, lastTheta := none,
                                                     leftLocked := if x.st = 2 then s.now else x.leftLocked }
      (0, reviewNta (base3 b) (showBase (base3 b) (s.setBit (statusKey (base3 b)) 5 false)))

def execStepNta (w : Writer) (s : State) : Res :=
  .next (request w Obj.TIM_CMD .network (stepBase 0 w) s)

def execStepNtb (w : Writer) (s : State) : Res :=
  .next (request w Obj.TIM_CMD .network (stepBase 1 w) s)

/-! ### Messages of the protocol (R291 to R293) -/

/-- R287, R291: an Announce: a better master ends the module's own mastership; a slave notes the steps removed. -/
def execPtpAnnounceReceived (b : Fin 2) (m : AnnounceMsg) (s : State) : Res :=
  .next (if !domainUp s b then s
    else
      match m with
      | .unsupported => s.bump (Obj.TIM_NTA_DISCARDED b)
      | .announce gm steps better =>
        if domainRole s b = 1 then s
        else if s.clk.base[base3 b].gm && !better then s
        else
          let s := s.modBase (base3 b) fun x => { x with lastAnnounce := s.now, lastSync := if x.gm then s.now else x.lastSync, gm := false }
          showBase (base3 b) (noteMaster b gm (s.setN (Obj.TIM_NTA_STEPS_REMOVED b) steps)))

/-- R287: no better Announce within announceReceiptTimeout: a port that may be master becomes grandmaster. -/
def execAnnounceReceiptTimeout (b : Fin 2) (s : State) : Res :=
  .next (if domainUp s b && domainRole s b != 0
        && decide (s.objN (Obj.TIM_NTA_ANNOUNCE_TO b) * ptpInterval (s.objI (Obj.TIM_NTA_LOG_ANNOUNCE b)) ≤ s.since s.clk.base[base3 b].lastAnnounce)
    then becomeMaster b s else s)

/-- The mean path delay of a request and its response or, with the stamps of a Sync and a Delay_Req, of the two directions: half the
sum of both less the corrections (the standard the spec names; PRESUMED, log 21). -/
def meanDelay (t1 t2 t3 t4 correction : Rat) : Rat := ((t2 - t1) + (t4 - t3) - correction) / 2

/-- R291, R292: delay messages: requests are answered by the configured mechanism, a completed measurement is stored. -/
def execPtpDelayMessageReceived (b : Fin 2) (m : DelayMsg) (s : State) : Res :=
  .next (if !domainUp s b then s
    else
      let p2p := s.bit (Obj.TIM_NTA_CFG b) 5
      match m with
      | .unsupported => s.bump (Obj.TIM_NTA_DISCARDED b)
      | .delayReq => if s.clk.base[base3 b].gm && !p2p then s.send (domainPort s b) 23 [0, s.field (Obj.TIM_NTA_CFG b) 8 8] else s
      | .pdelayReq => if p2p then s.send (domainPort s b) 23 [1, s.field (Obj.TIM_NTA_CFG b) 8 8] else s
      | .measured peer t1 t2 t3 t4 correction =>
        let ns := meanDelay t1 t2 t3 t4 correction
        if peer = p2p then
          (s.modBase (base3 b) fun x => { x with pathDelay := some ns }).setR (Obj.TIM_NTA_PATH_DELAY b) (r32 ns)
        else s)

/-- The configured interval of Syncs (0), Announces (1) or delay requests (2) of a domain has passed since the last one sent. -/
def intervalOver (s : State) (b : Fin 2) (k : Fin 3) : Bool :=
  let l := s.objI (match k.val with | 0 => Obj.TIM_NTA_LOG_SYNC b | 1 => Obj.TIM_NTA_LOG_ANNOUNCE b | _ => Obj.TIM_NTA_LOG_DELAY b)
  decide (ptpInterval l ≤ s.since s.clk.base[base3 b].sentAt[k])

/-- A message of a domain is sent and its interval starts anew. -/
def sendPtp (b : Fin 2) (k : Fin 3) (kind : Nat) (data : List Int) (s : State) : State :=
  (s.modBase (base3 b) fun x => { x with sentAt := x.sentAt.set k s.now }).send (domainPort s b) kind (s.field (Obj.TIM_NTA_CFG b) 8 8 :: data)

/-- R291: as master the module sends a Sync at each interval, one-step with its time of sending, or two-step with the time in a
Follow_Up. -/
def execPtpSyncTransmit (b : Fin 2) (s : State) : Res :=
  .next (if domainUp s b && s.clk.base[base3 b].gm && intervalOver s b 0 then
      let time := (s.clk.base[base3 b].at_ s.now).floor
      if s.bit (Obj.TIM_NTA_CFG b) 6 then
        (sendPtp b 0 20 [1, 0] s).send (domainPort s b) 25 [s.field (Obj.TIM_NTA_CFG b) 8 8, time]
      else sendPtp b 0 20 [0, time] s
    else s)

/-- Table 12.5: Announces carry clockClass 248, timeSource 0xA0 and the configured priorities. -/
def execPtpAnnounceTransmit (b : Fin 2) (s : State) : Res :=
  .next (if domainUp s b && s.clk.base[base3 b].gm && intervalOver s b 1 then
      sendPtp b 1 21 [248, 0xA0, s.objN (Obj.TIM_NTA_PRIORITY b 0), s.objN (Obj.TIM_NTA_PRIORITY b 1)] s
    else s)

/-- Delay_Req as a slave end to end, Pdelay_Req in peer-to-peer mode (R291). -/
def execPtpDelayRequestTransmit (b : Fin 2) (s : State) : Res :=
  .next (let p2p := s.bit (Obj.TIM_NTA_CFG b) 5
    if domainUp s b && (p2p || (!s.clk.base[base3 b].gm && domainRole s b != 1)) && intervalOver s b 2 then
      sendPtp b 2 22 [boolNat p2p] s
    else s)

/-- The scale of residence times: the rate of the base named by SYNTONISE, or module time (R293). -/
def tcScale (s : State) : Rat :=
  match s.field Obj.TIM_TC_CFG 2 2 with
  | 1 => 1 + mkRat (s.clk.base[(0 : Fin 3)].inForce s.now).r 1099511627776
  | 2 => 1 + mkRat (s.clk.base[(1 : Fin 3)].inForce s.now).r 1099511627776
  | _ => 1

/-- What a transparent clock adds to a frame's correctionField, in 2⁻¹⁶ ns: the residence time in module-time cycles, scaled, and
in peer-to-peer mode the ingress link's delay in ns (R293). -/
def tcCorrection (s : State) (residence : Nat) (linkDelay : Rat) : Int :=
  nsUnits ((residence : Rat) * nsCycle * tcScale s + if s.bit Obj.TIM_TC_CFG 1 then linkDelay else 0)

/-- R293: a frame passes between E1 and E2; the bypass relays join them passively, with no correction. In peer-to-peer mode the switch
answers a Pdelay_Req itself. -/
def execTcFrameForward (toE2 : Bool) (frame : PtpFrame) (residence : Nat) (linkDelay : Rat) (s : State) : Res :=
  .next (if !s.alive .network || !s.clk.netLocked || s.bit Obj.NET_STATUS 0 then s
    else if frame == .other || !s.bit Obj.TIM_TC_CFG 0 then s.send 2 24 [boolNat toE2, 0]
    else if frame == .pdelayReq && s.bit Obj.TIM_TC_CFG 1 then s.send 2 23 [1, boolNat !toE2]
    else
      (s.send 2 24 [boolNat toE2, tcCorrection s residence linkDelay]).bump Obj.TIM_TC_CORRECTED)

/-! ### Twin time (R288, R289) -/

/-- The offset against the primary every 1 ms, on the secondary; a first exchange or a changed boot count steps TT. -/
def execTtExchange (primary : Rat) (boot : Nat) (s : State) : Res :=
  .next (if !linkUp s || s.twn.mode == 0 then s
    else if s.twn.primary then
      showBase 2 (s.modBase 2 fun x => { x with st := 2, m0 := s.now, n0 := nsUnits ((s.now : Rat) * nsCycle), r := 0, next := none, theta := 0 })
    else
      let x := s.clk.base[(2 : Fin 3)]
      if x.boot = some boot ∧ x.stepped then lockReview (measure 2 primary nsCycle nsCycle s)
      else
        let s := s.modBase 2 fun x => { x with boot := some boot, hist := [(s.now, primary - (s.now : Rat) * nsCycle)], need := 2, lastSync := s.now }
        lockReview (acquireStep 2 primary s))

/-! ### PLLs -/

/-- The core clock of the islands runs: the first lock starts module time at 0 (R15, R278). The network PLL locks with it
(DEDUCED, log 18). -/
def startTime (p : Fin 2) (s : State) : State :=
  let s := s.modIsl fun i => { i with mt := 0, started := true }
  let s := s.modClk fun c => { c with onB := if p.val = 1 then switchIslands else [], netLocked := true }
  (s.setBit Obj.EDG_STATUS 1 (p.val == 1)).bump Obj.TIM_BOOT_COUNT

/-- A PLL that locks; after the first lock it becomes the standby sister, and no island switches. -/
def pllLocks (p : Fin 2) (s : State) : State :=
  let s := s.modPll p fun x => { x with locked := true, tryAt := none, lostAt := none }
  showClocks (if s.isl.started then s else startTime p s)

/-- R278, R279: the phase-detector error has stayed below 200 ps for so many consecutive reference cycles: the PLL locks at 256. After a
loss it locks only within an attempt, and logs it. -/
def execPllLock (rd : Measured (Fin 2) Nat) (s : State) : Res :=
  .next (let x := s.clk.pll[rd.unit]
    if !(s.clk.pllOn && !x.locked && !x.failed && s.clk.active.isSome && decide (256 ≤ rd.val)) then s
    else match x.lostAt, x.tryAt with
      | none, _ => pllLocks rd.unit s
      | some _, some t => if s.since t ≤ cyclesMs && clockRuns s then (pllLocks rd.unit s).log 0x5004 [(rd.unit.val : Nat)] else s
      | some _, none => s)

/-- R280: both PLLs are out of lock: the keystone fences the edge island and the module goes to LOCKOUT. -/
def bothLost (s : State) : State := fence .edge s

/-- R279: a PLL loses lock: muted; the islands move to the sister when it was the active one; the third loss within 10 s
declares it failed. -/
def pllLoss (p : Fin 2) (s : State) : State :=
  let sister : Fin 2 := 1 - p
  let onB (s : State) : Bool := decide (Island.edge ∈ s.clk.onB)
  let wasActive := decide ((p == 1) = onB s)
  let losses := s.now :: (s.clk.pll[p].losses.filter fun t => decide (s.now - t < 10 * cyclesSec))
  let failed := decide (3 ≤ losses.length)
  let s := s.modPll p fun x => { x with locked := false, lostAt := some s.now, tryAt := none, losses := losses, failed := failed }
  let s := s.bump (Obj.TIM_PLL_LOSSES p.val)
  let sisterOk := s.clk.pll[sister].locked
  let s := if wasActive && sisterOk then switchClocks p s else s
  let s := s.log 0x5003 [(p.val : Nat), if sisterOk || !wasActive then boolNat (onB s) else 2]
  let s := if failed then s.log 0x5005 [(p.val : Nat)] else s
  let s := showClocks (s.setBit Obj.EDG_STATUS 1 (onB s))
  if sisterOk then s else bothLost s

/-- A reference switch made in the last 10 µs (R294). -/
def justSwitched (s : State) : Bool :=
  match s.clk.switchedAt with | some t => decide (s.since t < 4096) | none => false

/-- Table 12.2: the phase error, in ps, stood above 1 ns in two consecutive reference cycles. In reference holdover the PLLs count no loss
(R277), and within 10 µs of a reference switch the loss is not yet treated (R294). -/
def execPllLossOfLock (rd : Measured (Fin 2) (Rat × Rat)) (s : State) : Res :=
  .next (if s.clk.pll[rd.unit].locked && s.isl.started && s.clk.active.isSome && !justSwitched s
        && decide (1000 < absR rd.val.1) && decide (1000 < absR rd.val.2) then pllLoss rd.unit s else s)

/-- R279: an attempt starts 1 ms after the loss or after the last attempt ended. The islands are still on the sister. -/
def execPllRelockAttempt (p : Fin 2) (s : State) : Res :=
  .next (let x := s.clk.pll[p]
    match x.lostAt with
    | some t =>
      if x.failed || x.locked || x.tryAt.isSome || decide (s.since t < cyclesMs) || !clockRuns s then s
      else s.modPll p fun x => { x with tryAt := some s.now }
    | none => s)

/-- R279: an attempt not locked within 1.0 ms ends; the next starts 1 ms later. -/
def execPllRelockTimeout (p : Fin 2) (s : State) : Res :=
  .next (let x := s.clk.pll[p]
    match x.tryAt with
    | some t => if cyclesMs ≤ s.since t then s.modPll p fun x => { x with tryAt := none, lostAt := some s.now } else s
    | none => s)

/-- R281: the network PLL loses lock: PHY links drop, NTA and NTB go into holdover. -/
def execNetPllLoss (s : State) : Res :=
  .next (if !s.clk.netLocked then s
    else
      let s := s.modClk fun c => { c with netLocked := false, netLostAt := s.now }
      let s := (List.finRange 4).foldl (fun s p => setLink p false 0 s) (showClocks (s.log 0x500D [0]))
      reviewNta 0 (baseHoldover 1 3 (baseHoldover 0 3 s)))

def execNetPllRelockAttempt (locks : Bool) (s : State) : Res :=
  .next (if s.clk.netLocked || !s.isl.started || decide (s.since s.clk.netLostAt < 10 * cyclesMs) then s
    else if locks && s.clk.active.isSome then
      showClocks ((s.modClk fun c => { c with netLocked := true }).log 0x500D [1])
    else s.modClk fun c => { c with netLostAt := s.now })

/-- R282, R274: every 100 µs the keystone compares island clocks with its RC oscillator: above ±5 % the island is fenced (R23);
a reference above ±2 % is faulty. The network PLL's outputs count for the network island, but not while the PLL is muted (R281). Deviations
in per cent. -/
def execClockMonitorCheck (islands : List (Island × Rat)) (rc : RcCheck) (s : State) : Res :=
  .next (if !s.alive .keystone || (clockRuns s && decide (s.since s.clk.monitoredAt < 40960)) then s
    else
      let s := s.modClk fun c => { c with monitoredAt := s.now }
      let islands := if s.clk.netLocked then islands ++ [(.network, rc.net)] else islands
      let s := (List.finRange 3).foldl (fun s r =>
        if s.clk.pllOn && s.clk.refOk[r] && decide (2 < absR rc.refs[r]) then refFault r 3 s else s) s
      (islands.filter fun e => decide (5 < absR e.2) && decide (e.1 ≠ .keystone)).foldl (fun s e => fence e.1 s) s)

end Sys2Proof.Machine
end

