-- ==== Sys2Proof/Machine/WriteOps.lean ====
section
/-!
DEFINITION. A write of a dictionary object that takes effect now (R7, R327): outside the run modes, of an "immediate" object, at a mode
change, and of waiting writes whose commit will not come because the module has left the run modes.
-/

namespace Sys2Proof.Machine

/-- The pier whose gallery an object belongs to (R271). -/
def galOfKey (key : Nat) : Option StageId :=
  let idx := key / 256
  if 0x5000 ≤ idx ∧ idx < 0x5100 then some (Fin.ofNat 4 ((idx - 0x5000) / 0x40)) else none

/-- The filter chain whose configuration an object is (R256). -/
def chainOfKey (key : Nat) : Option ChainId :=
  let idx := key / 256
  if 0x4C60 ≤ idx ∧ idx < 0x4C70 then some (Fin.ofNat 16 (idx - 0x4C60)) else none

/-- Status words of a part follow a write to its page. -/
def showPage (page : Nat) (s : State) : State :=
  if page = 0x24 then showField (allDis.foldl (fun s d => showDi d s) s)
  else if page = 0x28 then showTwin s
  else if page = 0x44 ∨ page = 0x48 then tripScan (allChans.foldl (fun s c => showDeadTime c s) s)
  else if page = 0x4C then allChains.foldl (fun s c => showChain c s) s
  else if page = 0x50 then allStages.foldl (fun s p => showGallery p s) s
  else if page = 0x51 then showLogic s
  else if page = 0x54 then showNet s
  else if page = 0x58 then refreshPermissions (allSocs.foldl (fun s i => showDrv i (showSoc i s)) s)
  else s

/-- A write acts now. -/
def actNow (s : State) (c : ObjCell) : State :=
  let key := c.1
  match pierOfKey key with
  | some n =>
    let s := applyWrite n s c
    if entersEnvelope key && s.isGfi n then envelopeCheck n (boundOffsets n s) else s
  | none =>
    match galOfKey key, chainOfKey key with
    | some p, _ =>
      let nodes := key / 256 == 0x5002 + 0x40 * p.val
      let s := (if nodes then closeDatagram p s else s).setObj key c.2
      showPage 0x50 (if nodes then s.modGal p fun g => { g with changed := true, prev := none } else s)
    | none, some ch => applyChainWrites ch [c] s
    | none, none =>
      let on := s.objN key == 0 && key == Obj.SUP_SENSOR_EN
      let s := s.setObj key c.2
      let s := if key = Obj.TIM_NTA_CFG 0 then domainReview 0 s else if key = Obj.TIM_NTA_CFG 1 then domainReview 1 s else s
      let s := if on then { s with sup := { s.sup with sensorAt := s.now } } else s
      showPage (key / 65536) s

/-- Writes that still wait for a commit act, oldest first, when the module leaves the run modes. -/
def flushWrites (s : State) : State :=
  s.commitWrites.foldl (fun s c => actNow s (s.dueCell .nextCommit c)) { s with commitWrites := [] }

/-- Writes that waited for a mode change act (R7). -/
def takeModeWrites (s : State) : State :=
  s.modeWrites.foldl (fun s c => actNow s (s.dueCell .nextModeChange c)) { s with modeWrites := [] }

end Sys2Proof.Machine
end

