-- ==== Sys2Proof/Machine/PairCheck.lean ====
section
/-!
DEFINITION. The configuration check of a pair (R403) and the examination of the pair conditions (Table 17.2).
-/

namespace Sys2Proof.Machine

/-- The type of a block's parameter j (Table 7.7). -/
def paramType (code j : Nat) : ObjType :=
  if (code = 0x0006 ∨ code = 0x0007) ∧ j = 5 then .u8
  else if code = 0x0011 ∧ j < 2 then .u8
  else if code = 0x0017 ∧ j = 0 then .u8
  else if code = 0x0018 ∧ j = 2 then .u8
  else if code = 0x0019 then .u8
  else if code = 0x001A ∧ j = 0 then .u16
  else if code = 0x001B ∧ j = 0 then .u8
  else .real

/-- The saved objects over which TWN_CFG_CHECK runs, in ascending order (R403). -/
def configKeys : List (Nat × ObjType) :=
  (List.range 0x4900).flatMap fun i =>
    let idx := 0x1000 + i
    if idx = 0x2301 ∨ (0x2800 ≤ idx ∧ idx < 0x3000) ∨ (0x5430 ≤ idx ∧ idx ≤ 0x5432) then []
    else (objPage idx).flatMap fun r =>
      if !r.saved then [] else (List.range r.subs).filterMap fun j => if r.holds idx (r.sub + j) then some (idx * 256 + r.sub + j, r.ty) else none

/-- The saved parameters of the loaded block instances (R170). -/
def blockKeys (s : State) : List (Nat × ObjType × Val) :=
  allStages.flatMap fun p =>
    (List.range s.pie[p].blocks.length).flatMap fun i =>
      match s.pie[p].blocks[i]? with
      | some b => (List.range b.params.length).map fun j => (blockKey p i (0x10 + j), paramType b.spec.code j, b.params.getD j (.int 0))
      | none => []

/-- TWN_CFG_CHECK (R403): CRC-32C over the working values, fed as under R381. -/
def configCheck (s : State) : Nat :=
  crc crc32c ((configKeys.flatMap fun (k, ty) => bytesBE 3 k ++ valBytes ty (s.obj k))
    ++ (blockKeys s).flatMap fun (k, ty, v) => bytesBE 3 k ++ valBytes ty v)

/-- Table 17.2 against what the partner sent: 0 the pair is formed, 1 a designation conflict, 2 mode or firmware, 3 configuration or program,
4 the references. -/
def pairFault (s : State) (id : PartnerId) : Nat :=
  if id.primary == s.twn.primary then 1
  else if s.twn.mode = 0 ∨ id.pairMode ≠ s.twn.mode ∨ id.fw ≠ s.objN Obj.MOD_FW_VERSION then 2
  else if isDuplex s && (id.cfgCheck != configCheck s || id.progCheck != s.objN Obj.LGC_PROG_CHECK) then 3
  else
    let own := s.bit Obj.TIM_REF_CFG 0
    if s.twn.primary then (if !own && id.source then 0 else 4) else (if own && !id.source then 0 else 4)

/-- A duplex pair forms outside the run modes: the primary is active (R416), and the standby's engine executes no cycle (R321). -/
def takeRoles (s : State) : State :=
  let s := s.modTwn fun t => { t with active := t.primary, request := false, auto := false }
  if s.twn.primary then s else stopEngine (s.modLgc fun l => { l with level := false })

/-- R403: the conditions are examined at each link-up and at each START. -/
def pairExamine (s : State) : State :=
  match s.twn.partner with
  | none => s
  | some id =>
    if s.twn.mode = 0 ∨ !linkUp s then s
    else
      let was := s.twn.formed
      let f := pairFault s id
      let s := s.modTwn fun t => { t with formed := f == 0, conflict := f == 1, mismatch := decide (2 ≤ f) }
      let s := if f = 1 then s.log 0xA003 [] else if 2 ≤ f then s.log 0xA004 [f - 1] else s
      showTwin (if f = 0 && !was && isDuplex s && !s.mod.mode.running then takeRoles s else s)

end Sys2Proof.Machine
end

