-- ==== Sys2Proof/Machine/ModeOps.lean ====
section
/-!
DEFINITION. The mode machine's transitions, shared by its ticks, its commands and other chapters (chapter 2): what every mode change
does, the checks at entry into CHARGE, STOP, LOCKOUT and SURVEY, and the commands of MOD_COMMAND and MOD_STAGE_CMD.
-/

namespace Sys2Proof.Machine

/-! ### What every mode change does -/

/-- A mode change (R28): MOD_MODE, event 0x1001 and MOD_TRANSITION_COUNT. Raw override and forcing end (R185, R435), the guard flags
clear (R184), a held START_STAGE lapses (R37), the drivers' supplies move to what is set (R201), service access ends at entry into a run mode (R331), and the permissions follow. -/
def changeMode (m : Mode) (s : State) : State :=
  if s.mod.mode = m then s
  else
    let old := s.mod.mode
    let s := s.modMod fun x => { x with mode := m, enteredAt := s.now }
    let s := if old.running && !m.running then flushWrites s else s
    let s := takeModeWrites ((s.bump Obj.MOD_TRANSITION_COUNT).log 0x1001 [old.code, m.code])
    let s := rawSet false (allChans.foldl (fun s c => s.setBit (Obj.EDG_CH_STATUS c) 4 false) s)
    let s := if s.fio.force.isSome then showField ((s.setN Obj.FIO_FORCE 0).modFio fun x => { x with force := none }) else s
    let s := allStages.foldl (fun s n => s.modStage n fun c => { c with heldStart := false }) s
    let s := if m.running && !old.running then endService s else s
    refreshPermissions (showErrors (moveRails s))

/-! ### Checks at entry into CHARGE -/

/-- The stages that a check at entry into CHARGE concerns: enabled, of a type. -/
def usedStages (s : State) : List StageId := allStages.filter fun n => s.enabled n && s.stype n != .none

/-- R74: a GFI stage without all of its line channels. -/
def lineCheck (n : StageId) (s : State) : State :=
  if !s.isGfi n then s
  else match [0, 1, 2].find? fun j => s.objN (Obj.SHR_LINE_CH n j) == 0 with
    | some j => stageSafe n 0x2109 (s.log 0x2109 [n.val, j + 1])
    | none => s

/-- An object takes an addition of R103; its configured value is kept. -/
def addTo (key : Nat) (v : Val) (s : State) : State :=
  let s := if (cellGet key s.edg.added).isSome then s else s.modEdg fun e => { e with added := cellSet key (s.obj key) e.added }
  s.setObj key v

/-- One comparator source joins the pulse-limit group with its home channel (R103). -/
def addSource (g : GroupId) (src home : Nat) (s : State) : State :=
  let key := Obj.EDG_TRG_SRC g (src / 32)
  addTo (Obj.EDG_SRC_HOME src) (.int home) (addTo key (.int (setBitsAt (s.objN key) (src % 32) 1 1)) s)

/-- R103: the first condition that a GFI stage fails: 1 current inputs, 2 the group, 3 a group named twice. -/
def pulseLimitBad (s : State) (n : StageId) : Option Nat :=
  let chs := stageChans s n
  let v := s.objN (Obj.FRT_PULSE_GROUP n)
  let inputs := (List.range (if s.bit (Obj.GFL_CONFIG n) 1 then 4 else 3)).all fun j => s.objN (Obj.FRT_I_CH n j) != 0
  let group := decide (v < 8) &&
    let g : GroupId := Fin.ofNat 8 v
    s.objN (Obj.EDG_TRG_CHANNELS g) == maskOf (chs.map Fin.val) && grpDirected s g && grpEnabled s g
  let once := allStages.all fun m => m == n || s.objN (Obj.FRT_PULSE_GROUP m) != v
  if !inputs then some 1 else if !group then some 2 else if !once then some 3 else none

/-- R103 for one GFI stage: the additions, then the check. -/
def pulseLimitCheck (n : StageId) (s : State) : State :=
  if !s.isGfi n then s
  else
    let v := s.objN (Obj.FRT_PULSE_GROUP n)
    let chs := stageChans s n
    let s := if 8 ≤ v then s
      else (List.range 4).foldl (fun s j =>
        match idOf 24 (s.objN (Obj.FRT_I_CH n j)) with
        | none => s
        | some a =>
          let home := (chs[j]?.map fun c => c.val + 1).getD 0
          addSource (Fin.ofNat 8 v) (9 + 2 * a.val) home (addSource (Fin.ofNat 8 v) (8 + 2 * a.val) home s)) s
    match pulseLimitBad s n with
    | some k => stageSafe n 0x220E (s.log 0x220E [n.val, k])
    | none => s

/-- The dispatch offset D (R155, R253, R408, R410). -/
def dispatchOffset (s : State) (p : StageId) : Nat :=
  match s.pie[p].graph with
  | none => dispatchBase
  | some g =>
    let base := if graphPartner g || isDuplex s then 456 else dispatchBase
    (graphAtSample g).foldl (fun d c => max d (chainDelay s c + chainLatency s c + 6)) base

/-- R165: the schedule fits its deadline and period, and the update period its timebase; reasons of 0x2408: 1 and 2 at loading, 3 the
commit, 4 the whole. -/
def scheduleCheck (n : StageId) (s : State) : State :=
  let crit := s.objN (Obj.PIE_WCET_CRIT n)
  let total := s.objN (Obj.PIE_WCET_TOTAL n)
  let d := dispatchOffset s n + crit
  let iv := sampleInterval s (Fin.ofNat 8 (s.objN (Obj.PIE_TIMEBASE n)))
  let s := if d < deadline s n then s else stageSafe n 0x2408 (s.log 0x2408 [n.val, 3, d, deadline s n])
  let s := if total ≤ s.tu n then s else stageSafe n 0x2408 (s.log 0x2408 [n.val, 4, total, s.tu n])
  if iv ≠ 0 ∧ s.tu n % iv = 0 then s else stageSafe n 0x240A (s.log 0x240A [n.val, s.tu n, iv])

/-- R183. -/
def edgeConfigCheck (n : StageId) (s : State) : State :=
  match edgeCheck s n with | some k => stageSafe n 0x300A (s.log 0x300A [n.val, k]) | none => s

/-- R203 at entry into CHARGE: the budget is 1.5 W. -/
def gatePowerCheck (n : StageId) (s : State) : State :=
  match overBudget s n (mkRat 15 10) with
  | some (d, p) => stageSafe n 0x3013 (s.log 0x3013 [d.val + 1, r32 p, r32 (mkRat 15 10)])
  | none => s

/-- R217. -/
def fibreCheck (n : StageId) (s : State) : State :=
  match portTiming s n with
  | some c => stageSafe n 0x3019 (s.log 0x3019 [n.val, c.val + 1, s.objN (Obj.EDG_CH_MIN_PULSE c)])
  | none => s

/-- The comparators that a stage owns (R237): both of every current input of a GFI stage, the lower one of a DC input. -/
def comparatorsOf (s : State) (n : StageId) : List (AdcId × Bool × StageId) :=
  let current := if s.isGfi n then (List.range 4).flatMap fun j =>
      match idOf 24 (s.objN (Obj.FRT_I_CH n j)) with | some a => [(a, true, n), (a, false, n)] | none => []
    else []
  let role := s.field (Obj.FRT_CONFIG n) 0 2
  let input := if role = 1 && (s.stype n == .dcdc || s.stype n == .iso || s.stype n == .afe) then
      match idOf 24 (s.objN (Obj.FRT_IN_CH n)) with | some a => [(a, false, n)] | none => []
    else []
  current ++ input

/-- Stages take comparators: their thresholds are programmed (R102, R110) and CMP_OWNED follows (R237). -/
def ownComparators (l : List (AdcId × Bool × StageId)) (s : State) : State :=
  let s := programOwned (s.modAcq fun a => { a with cmpOwned := l })
  allAdcs.foldl (fun s c => s.setBit (Obj.ACQ_CH_STATUS c) 12 (l.any fun e => e.1 == c)) s

/-- R408, R410: timing with the partner's resources; conditions: 1 dispatch, 2 the set's way to the partner, 3 the duplex dispatch. -/
def pairCheck (n : StageId) (s : State) : State :=
  let crit := s.objN (Obj.PIE_WCET_CRIT n)
  let bad : Option Nat :=
    if isDuplex s then (if 456 + crit < deadline s n then none else some 3)
    else if !usesPartner s n then none
    else if !decide (dispatchOffset s n + crit < deadline s n) then some 1
    else if !decide (deadline s n + 164 ≤ s.tu n) then some 2 else none
  match bad with | some k => stageSafe n 0xA00E (s.log 0xA00E [n.val, k]) | none => s

/-- A check made for every stage in use, in stage order. -/
def eachUsed (f : StageId → State → State) (s : State) : State := (usedStages s).foldl (fun s n => f n s) s

/-- Everything that is checked at entry into CHARGE. -/
def chargeChecks (s : State) : State :=
  let s := eachUsed lineCheck s
  let s := (allStages.filter s.isGfi).foldl (fun s n => envelopeCheck n (s.modPier n fun p => { p with envLogged := 0 })) s
  let s := tripScan (eachUsed pulseLimitCheck s)
  let s := eachUsed edgeConfigCheck (eachUsed scheduleCheck s)
  let s := eachUsed fibreCheck (derivePattern (eachUsed gatePowerCheck s))
  let s := acqCheck (ownComparators ((usedStages s).flatMap (comparatorsOf s)) s)
  eachUsed pairCheck (keystoneChecks s)

/-- Entry into CHARGE (R40, R416): the checks, and in a duplex pair the active module's deliberate claim. -/
def enterCharge (s : State) : State :=
  let s := changeMode .charge s
  let s := s.modMod fun m => { m with charged := false, loadsStarted := false, stopPending := none }
  let s := if isDuplex s && s.twn.active then showTwin (s.modTwn fun t => { t with request := true, held := true }) else s
  chargeChecks s

/-! ### START -/

/-- The guards of R40 on stages and temperature. -/
def startClear (s : State) : Bool :=
  !(allStages.any fun n => s.essential n && s.stageSt n == .safe) && !s.bit Obj.MOD_STATUS 4

/-- R404, R416: a module of a pair accepts START only while the pair is formed and locked, a viaduct's primary or a duplex pair's
active module. -/
def pairStarts (s : State) : Bool :=
  s.twn.mode == 0 || (s.twn.formed && s.twn.lock && (if isDuplex s then s.twn.active else s.twn.primary))

/-- Entry into READY: the additions of R103 go, comparators are free again (R237), a duplex claim is withdrawn (R416), and autostart
is evaluated once (R40). -/
def enterReady (s : State) : State :=
  let s := changeMode .ready s
  let s := { s with objs := overlay s.objs s.edg.added }
  let s := ownComparators [] (s.modEdg fun e => { e with added := [] })
  let s := if isDuplex s then showTwin (s.modTwn fun t => { t with request := false }) else s
  let s := s.modMod fun m => { m with charged := false, loadsStarted := false, stopPending := none }
  if s.objN Obj.MOD_AUTOSTART = 1 && startClear s && pairStarts s then enterCharge s else s

/-! ### STOP -/

/-- A stage in RUN or LIMIT is stopped (R43): by its safe stop, or by losing its pulses, to SAFE after a fault. -/
def stopOne (n : StageId) (c : StopCause) (s : State) : State :=
  if !s.switching n then s
  else
    let cause := match c with | .plain => 0 | .fault k => k
    if s.isSsd n then ssdDemand n cause s
    else if cause = 0 then stageStop n s else stageSafe n cause s

/-- In STOP the keystone opens every owned SOC instance but that of a stage whose ramp still runs (R43). -/
def openSocs (s : State) : State :=
  allSocs.foldl (fun s i =>
    let o := socOwner s i
    if h : o < 4 then (if s.saf.ssd[o].ramp.isSome then s else socOpen i s) else if o = 4 then socOpen i s else s) s

/-- What ends with a stop: orders to start, claims, pulling and unconfirmed contactor commands. -/
def dropOrders (n : StageId) (s : State) : State :=
  let s := s.modStage n fun x => { x with toRun := false, toArmed := false, heldStart := false }
  showClaim n (s.modShare n fun h => { h with claim := .idle, pull := .none, closeAt := none })

/-- Entry into STOP (R43): the stages stop, what they waited for ends, and the contactors open. -/
def enterStop (c : StopCause) (s : State) : State :=
  let s := changeMode .stop s
  let s := s.modMod fun m => { m with stopPending := none }
  let s := allStages.foldl (fun s n => stopOne n c s) s
  openSocs (allStages.foldl (fun s n => dropOrders n s) s)

/-- Every stage stands OFF, ARMED or SAFE and every owned auxiliary contact reads open (R43). -/
def stopDone (s : State) : Bool :=
  !(allStages.any fun n => s.switching n) && !(allSocs.any fun i => socOwned s i && s.saf.soc[i].energised)

/-! ### LOCKOUT and SURVEY -/

/-- SURVEY ends: the image is restored unless that has been done, and the logic engine starts its cycles (R38, R299). -/
def leaveSurvey (s : State) : State :=
  if s.mod.mode != .survey then s else startEngine false (if s.mod.restoreDone then s else restoreImage s)

/-- Entry into LOCKOUT with a cause (R35, R44): RUN and LIMIT go to SAFE with the lockout cause, ARMED to OFF; pulses and contactor
enables are withdrawn; each CAN port announces it (R339). A lockout of one module of a viaduct stops the other (R46). -/
def enterLockout (cause : Nat) (s : State) : State :=
  let s := leaveSurvey s
  let s := allStages.foldl (fun s n =>
    if s.switching n then stageSafe n cause s else if s.stageSt n == .armed then stageOff n s else s) s
  let s := changeMode .lockout s
  let s := s.modMod fun m => { m with lockoutCause := cause, order := none, stopPending := none, charged := false, loadsStarted := false, diagQueue := [] }
  let s := allStages.foldl (fun s n => s.modStage n fun c => { c with diagSince := none, diagDeferred := false, toRun := false, toArmed := false, toOff := false }) s
  let s := allStages.foldl (fun s n => endPulses n s) s
  linkSend 46 [cause] (emcy 0xFF00 cause 0xFF (s.setN Obj.MOD_LOCKOUT_CAUSE cause))

/-- Entry into SURVEY (R38): every step is run again, the engine executes no cycle. -/
def enterSurvey (s : State) : State :=
  let s := changeMode .survey s
  let s := s.modMod fun m => { m with
    lockoutCause := 0, lockoutPending := [], cfgLoaded := false, calDone := false, holdupDone := false, restoreDone := false, diagQueue := [] }
  let s := s.modFio fun f => { f with di := f.di.map fun x => { x with fresh := true } }
  stopEngine (s.setN Obj.MOD_LOCKOUT_CAUSE 0)

/-- Whether a lockout cause is releasable by SERVICE_RELEASE now (Table 2.5, R357). -/
def releasable (s : State) (cause : Nat) : Bool :=
  if cause = 0x1011 ∨ cause = 0x1012 ∨ cause = 0x1014 ∨ cause = 0xA009 ∨ cause = 0xC003 then false
  else if cause = 0x1004 then !(allSocs.any fun i => socOwned s i && s.saf.soc[i].energised)
  else if cause = 0x9006 then s.mod.cfgValid
  else if cause = 0x8001 ∨ cause = 0x8002 then false
  else if 0x8000 ≤ cause ∧ cause < 0x9000 then !s.saf.latched.contains cause
  else true

/-- R359: whether the start-up test is required: the counter invalid, or 1.05 × absence beyond the proof window. -/
def coverTestDue (s : State) : Bool :=
  !s.bit Obj.SAF_STATUS 2 || decide (s.objN Obj.SAF_PROOF_WINDOW * 360000 < 105 * s.objN Obj.SAF_ABSENCE)

/-- SURVEY entered from ADIT (R38, R359). -/
def bootSurvey (s : State) : State :=
  let s := enterSurvey s
  if !coverTestDue s then s
  else
    let s := (s.modSaf fun x => { x with pending := true, coverSeen := false }).setBit Obj.SAF_STATUS 0 true
    refreshPermissions ((s.setBit Obj.MOD_STATUS 3 true).log 0x8004 [s.objN Obj.SAF_ABSENCE, boolNat (s.bit Obj.SAF_STATUS 2)])

/-! ### Conditions of a tick -/

/-- A stage that takes part in start. -/
def takesPart (s : State) (n : StageId) : Bool := s.enabled n && s.stype n != .none

/-- A stage's link reads at or above MOD_CHARGE_LEVEL. -/
def linkCharged (s : State) (n : StageId) : Bool := decide (mkRat (s.objI Obj.MOD_CHARGE_LEVEL) 1000 ≤ s.mod.link[n])

/-- What the partner reports to a viaduct's primary, which governs the pair (R46). -/
def pairView (s : State) : Option PartnerView := if isViaduct s && s.twn.primary && linkUp s then s.twn.view else none

/-- A condition that the partner's part of a viaduct shares: `dflt` where there is none. -/
def pairHas (s : State) (f : PartnerView → Bool) (dflt : Bool) : Bool := match pairView s with | some v => f v | none => dflt

/-- R42. -/
def chargeComplete (s : State) : Bool :=
  (allStages.all fun n => !takesPart s n || s.stageSt n == .safe || (linkCharged s n && s.dispatching n)) && pairHas s (·.charged) true


/-- Load-role stages start once (R41): GFI stages at the tick that leaves CHARGE. -/
def startLoadGfi (s : State) : State :=
  (allStages.filter fun n => s.isGfi n && takesPart s n && s.chargeRole n == 2 && s.stageSt n == .armed).foldl
    (fun (s : State) (n : StageId) => gfiStart n s) s

/-- Load-role stages of other types start at the first entry into FORM (R41). -/
def startLoads (s : State) : State :=
  if s.mod.loadsStarted || s.mod.mode != .form then s
  else
    let s := s.modMod fun m => { m with loadsStarted := true }
    (allStages.filter fun n => !s.isGfi n && takesPart s n && s.chargeRole n == 2 && s.stageSt n == .armed).foldl
      (fun (s : State) (n : StageId) => if mayRun s n then enterRun n 0 1 s else startLapses n s) s

/-! ### Which mode shows (R29, Table 2.1) -/

/-- A GFI stage waits for its slot or hold-off, closes onto a dead line, or ramps without pulling (R29). -/
def bsActive (s : State) : Bool :=
  (allStages.any fun n => s.isGfi n && (s.shr[n].claim != .idle || (s.shr[n].closeAt.isSome && s.shr[n].closedDead)
    || (s.shr[n].ramping && s.shr[n].pull == .none))) || pairHas s (·.waiting) false

/-- A GFI stage pulls into phase (R29). -/
def syncActive (s : State) : Bool := (allStages.any fun n => s.isGfi n && s.shr[n].pull != .none) || pairHas s (·.pulling) false

/-- Every enabled GFI stage outside SAFE has closed its output contactor, ended its ramp and stopped pulling (Table 2.1). -/
def allJoined (s : State) : Bool :=
  (allStages.all fun n => !(s.isGfi n && s.enabled n) || s.stageSt n == .safe
    || (s.switching n && s.shr[n].closed && !s.shr[n].ramping && s.shr[n].pull == .none)) && pairHas s (·.joined) true

def anyRide (s : State) : Bool := (allStages.any fun n => s.frt[n].riding) || pairHas s (·.riding) false
def anyCoast (s : State) : Bool := (allStages.any fun n => s.frt[n].coasting) || pairHas s (·.coasting) false

/-- The mode that shows once charge is complete (R29). BLACKSTART and SYNC last until every GFI stage has joined (Table 2.1). -/
def shownMode (s : State) : Mode :=
  if anyRide s then .ride
  else if anyCoast s then .coast
  else if bsActive s then .blackstart
  else if syncActive s then .sync
  else if (s.mod.mode == .blackstart || s.mod.mode == .sync) && !allJoined s then s.mod.mode
  else .form

/-- The mode that charge leads to (Table 2.1). -/
def afterCharge (s : State) : Mode :=
  let gfi := allStages.filter fun n => s.isGfi n && takesPart s n
  if gfi.isEmpty && !pairHas s (·.hasGfi) false then .form
  else if (gfi.any fun n => !s.shr[n].line.live) || pairHas s (·.lineDead) false then .blackstart else .sync

/-- CHARGE ends (R41, R42). -/
def leaveCharge (s : State) : State :=
  let s := changeMode (afterCharge s) (s.modMod fun m => { m with charged := true })
  startLoads (startLoadGfi s)

/-! ### Conditions that stop the module (R36, R43, Table 2.1) -/

/-- An essential stage in SAFE, and its cause. -/
def essentialSafe (s : State) : Option Nat :=
  match allStages.find? fun n => s.essential n && s.stageSt n == .safe with
  | some n => some s.stg[n].cause
  | none => (pairView s).bind (·.essentialSafe)

/-- R36: there are enabled GFI stages, and none is outside SAFE. -/
def lineLost (s : State) : Bool :=
  let gfi := allStages.filter fun n => s.isGfi n && s.enabled n
  let any := !gfi.isEmpty || pairHas s (·.hasGfi) false
  any && (gfi.all fun n => s.stageSt n == .safe) && !pairHas s (·.gfiOut) false

/-- The stop that the conditions of this tick demand in modes 4 to 9. -/
def stopDemanded (s : State) : Option StopCause :=
  match s.mod.stopPending with
  | some c => some c
  | none =>
    match essentialSafe s with
    | some c => some (.fault c)
    | none =>
      if s.mod.mode != .charge && lineLost s then some (.fault s.mod.lastGfiCause)
      else if stopOpen s || pairHas s (·.stopWanted) false then some .plain else none

/-! ### A pair (R46, R47) -/

/-- The module follows its partner's mode among READY to STOP (R46, R47); a viaduct's secondary stops on a LOCKOUT of the primary (R46). A standby
does not follow into LOCKOUT, where it takes over instead (R419, Table 17.5). -/
def followMode (m : Mode) (s : State) : State :=
  if m = .lockout ∧ isViaduct s = true then (if s.mod.mode.running && s.mod.mode != .stop then enterStop .plain s else s)
  else if s.mod.mode = m || m.code < 3 || 10 < m.code || s.mod.mode.code < 3 || 10 < s.mod.mode.code then s
  else
    let left := s.mod.mode == .charge && decide (5 ≤ m.code) && decide (m.code ≤ 9)
    match m with
    | .ready => enterReady s
    | .charge => enterCharge s
    | .stop => if isDuplex s then changeMode .stop s else enterStop .plain s
    | _ =>
      let s := changeMode m s
      if isDuplex s then s else startLoads (if left then startLoadGfi (s.modMod fun x => { x with charged := true }) else s)

/-- A standby's stage takes the state of the active module's (R47); RUN only with diagnostics passed and pulse enable granted (R33), ARMED until
then. A stage SAFE on its own account stays so; one that followed into SAFE follows out of it. -/
def adoptStage (before : Option PartnerView) (v : PartnerView) (n : StageId) (s : State) : State :=
  let st := v.stages[n].1
  let own := s.stageSt n
  if own = .safe then
    let followed := match before with | some b => b.stages[n].1 == .safe | none => false
    if st = .safe || !followed then s else (stageOff n (edgeUnsafe n s)).setN (Obj.MOD_STAGE_SAFE_CAUSE n.val) 0
  else match st with
    | .off => if own = .off then s else stageOff n s
    | .armed => if own = .armed then s else stageArm n s
    | .safe => stageSafe n v.stages[n].2 s
    | _ =>
      if s.switching n then s.modStage n fun c => { c with st := st }
      else if !s.stg[n].diagPassed || !pulseGranted s n then (if own = .armed then s else stageArm n s)
      else if s.isGfi n && s.shr[n].line.live then enterRun n s.shr[n].line.theta s.shr[n].line.v s
      else enterRun n 0 (if s.isGfi n then 0 else 1) s

/-- The tick of a duplex standby (R47). -/
def standbyTick (before : Option PartnerView) (s : State) : State :=
  match s.twn.view with
  | none => s
  | some v =>
    let s := followMode v.mode s
    allStages.foldl (fun (s : State) (n : StageId) => adoptStage before v n s) s

/-! ### The tick's conditions (R30) -/

def diagRunning (s : State) : Bool := allStages.any fun n => s.stg[n].diagSince.isSome

/-- The stages of SURVEY end (R38): READY, and the engine starts its cycles. -/
def surveyTick (s : State) : State :=
  let m := s.mod
  if s.mod.thermalLatch then demandLockout 0xC003 s
  else if m.cfgLoaded && m.calDone && m.holdupDone && m.diagQueue.isEmpty && !diagRunning s && (m.restoreDone || s.fenced .logic) then
    enterReady (leaveSurvey s)
  else s

/-- A stage whose deferred diagnostics have passed moves to ARMED, in CHARGE (R39). -/
def armPassed (s : State) : State :=
  allStages.foldl (fun (s : State) (n : StageId) =>
    if s.stg[n].diagDeferred && s.stg[n].diagPassed && s.stageSt n == .off then stageArm n (s.modStage n fun c => { c with diagDeferred := false }) else s) s

/-- The mode machine of a module that is not led by its partner, from SURVEY on (R29, R36, R42, R43). -/
def ownTick (s : State) : State :=
  match s.mod.mode with
  | .halt => s
  | .adit => s
  | .lockout => s
  | .ready => s
  | .survey => surveyTick s
  | .stop => let s := openSocs s; if stopDone s then enterReady s else s
  | .charge =>
    match stopDemanded s with
    | some c => enterStop c s
    | none => let s := armPassed s; if chargeComplete s then leaveCharge s else s
  | _ =>
    match stopDemanded s with
    | some c => enterStop c s
    | none => startLoads (changeMode (shownMode s) s)

/-- The module of a pair that takes its mode from the partner: the standby, and a viaduct's secondary, whose own demands for a stop are the
primary's to judge (R46, R47). -/
def ledTick (before : Option PartnerView) (s : State) : State :=
  if s.mod.mode == .survey then surveyTick s
  else if isStandby s then standbyTick before s
  else match s.twn.view with | some v => followMode v.mode s | none => s

/-- A pending lockout cause enters LOCKOUT; the others stay pending (R44). An open discrepancy comes before an incomplete stop (R363). In LOCKOUT
nothing more happens. -/
def lockoutTick (s : State) : State :=
  match s.mod.lockoutPending with
  | [] => s
  | c :: rest =>
    let first := if c = 0x1004 ∧ 0x8012 ∈ rest then 0x8012 else c
    if s.mod.mode == .lockout then s
    else enterLockout first (s.modMod fun m => { m with lockoutPending := (c :: rest).erase first })

/-- What the conditions of a tick do (R30). `before`: what the partner had reported before this tick. -/
def tickConditions (before : Option PartnerView) (s : State) : State :=
  let s := lockoutTick s
  if s.mod.mode == .lockout then s
  else if s.mod.mode == .adit then (if s.mod.imageStarted && clockRuns s then bootSurvey s else s)
  else if isStandby s || (isViaduct s && !s.twn.primary && linkUp s) then ledTick before s
  else ownTick s

/-- The mode that the conditions of a tick at this instant lead to: what a command is judged by (R30). -/
def resultingMode (s : State) : Mode := (tickConditions s.twn.view s).mod.mode

/-! ### MOD_COMMAND -/

/-- A refused command: event 0x1002 (R30). -/
def cmdRefused (code abort : Nat) (s : State) : Nat × State := (abort, s.log 0x1002 [code, s.mod.mode.code])

/-- A refused MOD_COMMAND also stands in MOD_STATUS.LAST_REFUSED (Table 2.8). -/
def modRefused (code abort : Nat) (s : State) : Nat × State :=
  cmdRefused code abort (s.setField Obj.MOD_STATUS 24 8 code)

/-- An accepted MOD_COMMAND orders its mode change for the next tick (R28; DESIGN CHOICE, log 38). -/
def orderMode (o : ModeOrder) (s : State) : Nat × State := (0, s.modMod fun m => { m with order := some o })

/-- Whether START is valid in a mode (R40, R404). -/
def startValid (m : Mode) (s : State) : Bool := m == .ready && startClear s && pairStarts s

/-- Whether STOP is valid in a mode: modes 4 to 9 (Table 2.7). -/
def stopValid (m : Mode) : Bool := decide (4 ≤ m.code) && decide (m.code ≤ 9)

/-- Whether SERVICE_RELEASE is valid in a mode: LOCKOUT, every cause releasable (Table 2.5). -/
def releaseValid (m : Mode) (s : State) : Bool :=
  m == .lockout && s.mod.mode == .lockout && (s.mod.lockoutCause :: s.mod.lockoutPending).all (releasable s)

/-- START (R40, R404), judged by the mode that results from the conditions (R30). -/
def modStart (w : Writer) (s : State) : Nat × State :=
  if !s.commands w then modRefused 1 0x08000021 s
  else
    let s := pairExamine s
    if startValid (resultingMode s) s then orderMode .start s else modRefused 1 0x08000022 s

/-- STOP (R43), from any port (R329). -/
def modStop (s : State) : Nat × State :=
  if stopValid (resultingMode s) then orderMode .stop s else modRefused 2 0x08000022 s

/-- SERVICE_RELEASE (R44, Table 2.5), with service access. -/
def serviceRelease (w : Writer) (s : State) : Nat × State :=
  if !serviceOk s w then modRefused 3 0x08000021 s
  else if releaseValid (resultingMode s) s then orderMode .release s else modRefused 3 0x08000022 s

/-- The mode change ordered for this tick, after its conditions; one that these have made invalid is refused (R30). -/
def takeOrder (s : State) : State :=
  match s.mod.order with
  | none => s
  | some o =>
    let s := s.modMod fun m => { m with order := none }
    match o with
    | .start => if startValid s.mod.mode s then linkSend 47 [1] (enterCharge s) else (modRefused 1 0x08000022 s).2
    | .stop => if stopValid s.mod.mode then linkSend 47 [2] (enterStop .plain s) else (modRefused 2 0x08000022 s).2
    | .release => if releaseValid s.mod.mode s then enterSurvey s else (modRefused 3 0x08000022 s).2

/-- A write of MOD_COMMAND (Table 2.7). -/
def modCommand (v : Nat) (w : Writer) (s : State) : Nat × State :=
  if v / 256 ≠ 0x5A then modRefused (v % 256) 0x06090030 s
  else match v % 256 with
    | 1 => modStart w s
    | 2 => modStop s
    | 3 => serviceRelease w s
    | c => modRefused c 0x06090030 s

/-! ### MOD_STAGE_CMD -/

/-- Whether Table 2.3 allows a START_STAGE of a stage in a mode. -/
def startAllowed (m : Mode) (s : State) (n : StageId) : Bool :=
  match m with
  | .charge => s.chargeRole n == 1
  | .blackstart => true
  | .sync => true
  | .form => true
  | _ => false

/-- START_STAGE (R37) with the power estimate of R203. -/
def startStage (n : StageId) (w : Writer) (s : State) : Nat × State :=
  if !s.commands w then cmdRefused 1 0x08000021 s
  else if !s.enabled n || s.stype n == .none || !startAllowed (resultingMode s) s n || s.fenced (.pier n) then
    cmdRefused 1 0x08000022 s
  else
    match overBudget s n (gateBudget s) with
    | some (d, p) => (0x08000022, s.log 0x3013 [d.val + 1, r32 p, r32 (gateBudget s)])
    | none =>
      match s.stageSt n with
      | .armed => (0, s.modStage n fun c => { c with toRun := true })
      | .off =>
        if !s.stg[n].graphOk then cmdRefused 1 0x08000022 s
        else if s.stg[n].diagPassed then (0, s.modStage n fun c => { c with toArmed := true, toRun := true })
        else (0, s.modStage n fun c => { c with heldStart := true })
      | _ => cmdRefused 1 0x08000022 s

/-- Whether Table 2.3 allows a STOP_STAGE in a mode: BLACKSTART to COAST. -/
def stopAllowed (m : Mode) : Bool := decide (5 ≤ m.code) && decide (m.code ≤ 9)

/-- A waiting GFI stage stops waiting; a contactor commanded and not confirmed is opened (R466). -/
def cancelClaim (n : StageId) (s : State) : State :=
  let s := if s.shr[n].closeAt.isSome then socOpenStage n s else s
  showClaim n (s.modShare n fun h => { h with claim := .idle, closeAt := none })

/-- STOP_STAGE (R466). -/
def stopStage (n : StageId) (w : Writer) (s : State) : Nat × State :=
  if !s.commands w then cmdRefused 2 0x08000021 s
  else if !stopAllowed (resultingMode s) then cmdRefused 2 0x08000022 s
  else match s.stageSt n with
    | .run => (0, if s.isSsd n then ssdDemand n 0 s else stageSafe n 0x1007 (s.log 0x1007 [n.val]))
    | .limit => (0, if s.isSsd n then ssdDemand n 0 s else stageSafe n 0x1007 (s.log 0x1007 [n.val]))
    | .armed => (0, (cancelClaim n s).modStage n fun c => { c with toOff := true, toRun := false })
    | .off =>
      if s.stg[n].heldStart || s.stg[n].toArmed then (0, s.modStage n fun c => { c with heldStart := false, toArmed := false, toRun := false })
      else cmdRefused 2 0x08000022 s
    | .safe => cmdRefused 2 0x08000022 s

/-- Whether a SAFE cause is still present (Table 2.4). -/
def causePresent (s : State) (n : StageId) : Bool :=
  match s.stg[n].cause with
  | 0x3004 => allGroups.any fun g => s.edg.grp[g].latched && (grpStages s g).contains n
  | 0x3010 => s.gdv.uvlo
  | 0x3012 => (stageDrivers s n).any fun d => s.bit (Obj.GDV_CH_STATUS d) 1
  | 0x3015 => allPorts.any fun p => portStage s p == some n && s.gdv.port[p].fault
  | 0x3016 => allPorts.any fun p => portStage s p == some n && s.gdv.port[p].fault
  | 0x8024 => demandOn s n
  | 0xA00E => !linkUp s || !s.twn.lock
  | c => s.mod.mode == .lockout && c == s.mod.lockoutCause

/-- RESET_SAFE (R34), in READY, BLACKSTART, SYNC and FORM (Table 2.3). -/
def resetSafe (n : StageId) (w : Writer) (s : State) : Nat × State :=
  let m := resultingMode s
  let allowed := m == .ready || m == .blackstart || m == .sync || m == .form
  if !s.commands w then cmdRefused 3 0x08000021 s
  else if !allowed || s.stageSt n != .safe || s.fenced (.pier n) || causePresent s n then
    cmdRefused 3 0x08000022 s
  else
    let s := stageOff n (edgeUnsafe n s)
    let s := s.modStage n fun c => { c with cause := 0, diagPassed := c.diagPassed && s.stg[n].cause != 0x3014 }
    let s := s.modSaf fun x => { x with removed := x.removed.filter fun k => k != n }
    let s := refreshPermissions ((s.setN (Obj.MOD_STAGE_SAFE_CAUSE n.val) 0).log 0x1006 [n.val])
    (0, errorsEnd s)

/-- A write of MOD_STAGE_CMD (Table 2.6). -/
def stageCommand (n : StageId) (v : Nat) (w : Writer) (s : State) : Nat × State :=
  match v with
  | 1 => startStage n w s
  | 2 => stopStage n w s
  | 3 => resetSafe n w s
  | _ => (0x06090030, s)

/-! ### Orders that waited for this tick (R37, R466) -/

/-- One stage's order: to OFF, to ARMED, or, from ARMED, to RUN, a tick after the move to ARMED where both are ordered. An order to start that
the mode no longer allows is refused (R30). -/
def stageOrders (n : StageId) (s : State) : State :=
  let s := runConfirmed n s
  let o := s.stg[n]
  if o.toOff then (if o.st = .armed then stageOff n s else s.modStage n fun c => { c with toOff := false })
  else if !o.toArmed && !o.toRun then s
  else if !startAllowed s.mod.mode s n then startLapses n s
  else if o.toArmed then
    (if o.st = .off then (stageArm n s).modStage n fun c => { c with toRun := o.toRun } else s.modStage n fun c => { c with toArmed := false })
  else
    let s := s.modStage n fun c => { c with toRun := false }
    if o.st = .armed then proceed n s else s

/-- The commands of a tick, after its conditions (R30). -/
def tickCommands (s : State) : State :=
  let s := takeOrder s
  if s.mod.mode == .lockout then s else allStages.foldl (fun (s : State) (n : StageId) => stageOrders n s) s

end Sys2Proof.Machine
end

