-- ==== Sys2Proof/Machine/Stores.lean ====
section
/-!
DEFINITION. Check-value units, scrubbing, stores, event log and images (chapter 16).
-/

namespace Sys2Proof.Machine

/-! ### Check-value units -/

def State.modCvu (s : State) (u : CvuId) (f : CvuSt → CvuSt) : State := s.modNvs fun n => { n with cvu := n.cvu.set u (f n.cvu[u]) }

/-- CVU4 to CVU7 serve the module itself (Table 16.1). -/
def cvuReserved (u : CvuId) : Bool := decide (4 ≤ u.val)
def cvuField (s : State) (u : CvuId) (lo width : Nat) : Nat := s.field (Obj.CVU_CFG u) lo width
def cvuMode (s : State) (u : CvuId) : Nat := cvuField s u 10 2
def cvuWidth (s : State) (u : CvuId) : Nat := cvuField s u 0 7
/-- Bytes of the check value. -/
def cvuCheckBytes (s : State) (u : CvuId) : Nat := (cvuWidth s u + 7) / 8
/-- Bytes of the tally: none, one or two. -/
def cvuTally (s : State) (u : CvuId) : Nat := match cvuField s u 12 2 with | 1 => 1 | 2 => 2 | _ => 0
def cvuOffset (s : State) (u : CvuId) : Nat := cvuField s u 16 8
def cvuCrc (s : State) (u : CvuId) (bytes : List Nat) : Nat :=
  crc ⟨cvuWidth s u, s.objN (Obj.CVU_POLY u), s.objN (Obj.CVU_INIT u), cvuField s u 7 1 == 1, cvuField s u 8 1 == 1, cvuField s u 9 1 == 1⟩ bytes

def cvuBusy (s : State) (u : CvuId) : Bool := s.nvs.cvu[u].owner.isSome
/-- The unit belongs to another source, or to the module (R383, R384). -/
def cvuForeign (s : State) (u : CvuId) (w : Writer) : Bool :=
  cvuReserved u || match s.nvs.cvu[u].owner with | some o => o != w | none => false

/-- R384, R386: START; a sending tally is increased. Answers the abort code. -/
def cvuStart (u : CvuId) (w : Writer) (s : State) : Nat × State :=
  if cvuForeign s u w then (0x08000022, s)
  else
    let n := cvuTally s u
    let s := s.modCvu u fun x => { x with
      owner := some w, fed := [], tally := if cvuMode s u = 2 ∧ n ≠ 0 then (x.tally + 1) % 256 ^ n else x.tally }
    (0, s.setField (Obj.CVU_STATUS u) 0 3 1)

/-- R384: a feed of one, two or four bytes. -/
def cvuFeed (u : CvuId) (bytes : List Nat) (w : Writer) (s : State) : Nat × State :=
  if cvuForeign s u w || !cvuBusy s u then (0x08000022, s)
  else (0, s.modCvu u fun x => { x with fed := x.fed ++ bytes.map (· % 256) })

/-- A frame with the tally written at its offset (R386). -/
def withTally (frame : List Nat) (off n tally : Nat) : List Nat :=
  frame.mapIdx fun i b => if off ≤ i ∧ i < off + n then tally / 256 ^ (off + n - 1 - i) % 256 else b

/-- A frame that is dropped on receive (R385). -/
def cvuDrop (u : CvuId) (s : State) : State := (s.bump (Obj.CVU_DROPPED u)).logOnce 0x900A u.val [u.val]

/-- A finished frame is handed to the source of the computation. -/
def cvuPass (u : CvuId) (w : Writer) (frame : List Nat) (s : State) : State :=
  match w with
  | .port c _ => s.send c 41 (u.val :: frame.map Int.ofNat)
  | .logic => s.send 0 41 (u.val :: frame.map Int.ofNat)

/-- STREAM receive (R385, R386): check value first, then the tally. -/
def cvuReceive (u : CvuId) (w : Writer) (s : State) : State :=
  let x := s.nvs.cvu[u]
  let n := cvuCheckBytes s u
  let body := x.fed.take (x.fed.length - n)
  let result := cvuCrc s u body
  let s := s.setN (Obj.CVU_RESULT u) result
  if x.fed.length < n || wordBE (x.fed.drop (x.fed.length - n)) ≠ result then cvuDrop u s
  else
    let k := cvuTally s u
    let got := wordBE ((body.drop (cvuOffset s u)).take k)
    if k = 0 || cvuField s u 14 1 = 0 then cvuPass u w body s
    else
      match x.accepted with
      | some a =>
        if got = (a + 1) % 256 ^ k then cvuPass u w body (s.modCvu u fun y => { y with accepted := some got })
        else ((cvuDrop u s).setBit (Obj.CVU_STATUS u) 2 true).log 0x900B [u.val, ((a + 1) % 256 ^ k : Nat), got]
      | none => cvuPass u w body (s.modCvu u fun y => { y with accepted := some got })

/-- R385: FINISH by MODE. -/
def cvuFinish (u : CvuId) (w : Writer) (s : State) : Nat × State :=
  if cvuForeign s u w || !cvuBusy s u then (0x08000022, s)
  else
    let x := s.nvs.cvu[u]
    let s := match cvuMode s u with
      | 1 =>
        let r := cvuCrc s u x.fed
        let s := s.setN (Obj.CVU_RESULT u) r
        if r = s.objN (Obj.CVU_EXPECT u) then s else (s.setBit (Obj.CVU_STATUS u) 1 true).log 0x9009 [u.val, r]
      | 2 =>
        let frame := withTally x.fed (cvuOffset s u) (cvuTally s u) x.tally
        let r := cvuCrc s u frame
        cvuPass u w (frame ++ bytesBE (cvuCheckBytes s u) r) (s.setN (Obj.CVU_RESULT u) r)
      | 3 => cvuReceive u w s
      | _ => s
    (0, (s.modCvu u fun y => { y with owner := none, fed := [] }).setBit (Obj.CVU_STATUS u) 0 false)

def execCvuStart (u : CvuId) (w : Writer) (s : State) : Res :=
  .next (request w (Obj.CVU_CTRL u) .house (owned w (cvuStart u w)) s)
def execCvuFeed (u : CvuId) (bytes : List Nat) (w : Writer) (s : State) : Res :=
  .next (request w (Obj.CVU_DATA u) .house (owned w (cvuFeed u bytes w)) s)
def execCvuFinish (u : CvuId) (w : Writer) (s : State) : Res :=
  .next (request w (Obj.CVU_CTRL u) .house (owned w (cvuFinish u w)) s)

/-! ### Scrubbing -/

/-- A record is lost (Table 16.4): defaults are used. The dictionary and the configuration backup lost together are an invalid
configuration (R390, Table 2.5). -/
def recordLost (r : Fin 3) (s : State) : State :=
  let s := (s.log 0x9005 [r.val]).modNvs fun n => { n with lost := if n.lost.contains r then n.lost else r :: n.lost }
  let s := if r = 0 then { s with saved := [] } else if r = 1 then { s with objs := s.objs.filter fun c => !savedRo c.1 } else s
  if r ≠ 1 && s.nvs.lost.contains 0 && s.nvs.lost.contains 2 then
    demandLockout 0x9006 ((s.modMod fun m => { m with cfgValid := false }).log 0x9006 [])
  else s

/-- Table 16.4, its rows in their order. -/
def classifyRecord (r : Fin 3) (c1 c2 equal : Bool) (g1 g2 : Nat) (s : State) : State :=
  let newer (g : Nat) (s : State) : State := s.modNvs fun n => { n with gen := n.gen.set r g }
  if c1 && c2 then (if equal then s else newer (max g1 g2) (s.log 0x9004 [r.val, g1, g2]))
  else if c1 || c2 then
    (if equal then s.log 0x9003 [r.val] else newer (if c1 then g1 else g2) (s.log 0x9004 [r.val, g1, g2]))
  else recordLost r s

/-- R387: one step of the scrubber. -/
def execScrubStep (f : ScrubFind) (s : State) : Res :=
  .next (s.on .house fun s =>
    match f with
    | .clean => s
    | .corrected m => s.bump (Obj.NVS_ECC_CORRECTED m.val)
    | .uncorrectable m a => s.log 0x9001 [m.val, a]
    | .record r c1 c2 e g1 g2 => classifyRecord r c1 c2 e g1 g2 s
    | .image b ok => if ok then s else (s.setBit Obj.NVS_IMAGE_STATE b.val false).log 0x900C [b.val, 3])

/-- The longest round of each memory in s (Table 16.2). -/
def longestRound (m : Fin 3) : Nat := if m = 0 then 8 else if m = 1 then 240 else 14400

/-- R387: a round exceeds its longest figure. -/
def execScrubRoundLate (mem : Fin 3) (seconds : Rat) (s : State) : Res :=
  .next (s.on .house fun s =>
    if seconds ≤ longestRound mem then s else (s.setBit Obj.NVS_STATUS 0 true).log 0x9002 [mem.val, r32 seconds])

/-! ### Stores -/

/-- R391: a store is requested; it starts only if the rail can finish it. -/
def execStoreRequest (kind : StoreKind) (lines : Nat) (hold : Rat) (s : State) : Res := .next (requestStore kind lines none none hold s)

/-- R352: a dictionary store not complete within 1 s is answered with 0x0800 0020. -/
def storeTimeouts (s : State) : State :=
  let late (x : StoreSt) : Bool := x.kind == .dictionary && x.writer.isSome && decide (cyclesSec < s.since x.at_)
  let out := s.nvs.waiting.filter late
  let s := s.modNvs fun n => { n with waiting := n.waiting.filter fun x => !late x }
  out.foldl (fun s x => match x.writer with | some w => s.reply w (Obj.CIA_STORE) 0x08000020 | none => s) s

/-- R391: a deferred store is tested again every 1 ms. -/
def execStoreRetry (hold : Rat) (s : State) : Res :=
  .next (s.on .house fun s =>
    if s.since s.nvs.retryAt < cyclesMs then s
    else startStores hold (storeTimeouts (s.modNvs fun n => { n with retryAt := s.now })))

/-- A block of an image has been programmed; the last one is verified as in R396 (R398). -/
def imageWritten (x : StoreSt) (s : State) : State :=
  let slot := 1 - s.objN Obj.MOD_FW_IMAGE
  let answer (a : Nat) (s : State) : State := match x.writer with | some w => s.reply w Obj.NVS_IMAGE_DATA a | none => s
  match x.block with
  | some (.last f) =>
    let s := s.modNvs fun n => { n with writing := none }
    if f.keyOk && f.signatureOk && decide (s.nvs.version ≤ f.securityVersion) then answer 0 (s.setBit Obj.NVS_IMAGE_STATE slot true)
    else answer 0x08000020 ((s.setBit Obj.NVS_IMAGE_STATE slot false).log 0x900C [slot, if f.keyOk then 2 else 1])
  | _ => answer 0 s

/-- What a finished store leaves (R389, R394, R352, R398). -/
def storeDone (x : StoreSt) (verified : Bool) (s : State) : State :=
  match x.kind with
  | .journal => s
  | .dictionary =>
    let s := { s with saved := savedView s }
    let s := s.modNvs fun n => { n with gen := n.gen.set 0 (n.gen[0] + 1), lost := n.lost.filter fun r => r != 0 }
    let s := s.modMod fun m => { m with cfgValid := true }
    match x.writer with
    | some w => s.reply w Obj.CIA_STORE (if cyclesSec < s.since x.at_ then 0x08000020 else 0)
    | none => s
  | .counters => s.modNvs fun n => { n with gen := n.gen.set 1 (n.gen[1] + 1), lost := n.lost.filter fun r => r != 1 }
  | .logPage => if verified then pageWritten s else retireSector s.nvs.sector s
  | .erase => if x.block.isSome then s else if verified then eraseSector s else retireSector (nextSector s.nvs) s
  | .image => imageWritten x s

/-- R391, R399, R439: a store runs to its end; after the stop level the module then enters HALT. -/
def execStoreComplete (verified : Bool) (hold : Rat) (s : State) : Res :=
  .next (s.on .house fun s =>
    match s.nvs.running with
    | none => s
    | some x =>
      let s := storeDone x verified (s.modNvs fun n => { n with running := none })
      if s.nvs.stopped then powerLoss s else startStores hold s)

/-- R394: buffered events are written as a page; at throttle step 1 at most every 400 ms (Table 19.6). -/
def execLogPageWrite (hold : Rat) (s : State) : Res :=
  .next (s.on .house fun s =>
    let early := match s.nvs.pageAt with | some t => decide (s.since t < 400 * cyclesMs) | none => false
    if decide (1 ≤ s.objN Obj.THM_THROTTLE_STEP) && early then s else requestPage hold s)

/-! ### Reading the log -/

/-- One datum of an event in four bytes: a whole number as a 32-bit integer, any other as binary32 (DESIGN CHOICE, log 10). -/
def datumBytes (q : Rat) : List Nat := if q.den = 1 then bytesBE 4 (q.num % 4294967296).toNat else bytesBE 4 (f32Bits q)

/-- A record's 64 bytes (Table 16.6). -/
def eventBytes (r : LogRec) : List Nat :=
  let data := (r.data.flatMap datumBytes).take 40
  let body := bytesBE 8 r.mt ++ bytesBE 4 r.seq ++ bytesBE 4 r.boot ++ bytesBE 2 r.code ++ [Config.eventSource r.seq % 256, data.length]
    ++ data ++ List.replicate (40 - data.length) 0
  body ++ bytesBE 4 (crc crc32c body)

/-- The record selected by NVS_LOG_READ_SEQ, if it stands in the ring (R395). -/
def logRead (s : State) : Option LogRec := match s.nvs.readSeq with | some q => s.logFlash.find? fun r => r.seq == q | none => none

/-- R395: a write to NVS_LOG_READ_SEQ. -/
def selectRecord (seq : Nat) (s : State) : Nat × State := (0, s.modNvs fun n => { n with readSeq := some seq })

/-- R395: a host selects a record and reads it; one overwritten or not yet written is refused. -/
def execEventLogRead (seq : Nat) (w : Writer) (s : State) : Res :=
  .next (if !s.accepts w then request w Obj.NVS_LOG_READ_SEQ .house (fun s => (0x08000021, s)) s
    else
      let s := request w Obj.NVS_LOG_READ_SEQ .house (selectRecord seq) s
      match logRead s, w with
      | some x, .port c se =>
        if s.reaches w && s.alive .house then s.send c 2 (((c + 16 * se) :: Obj.NVS_LOG_READ_DATA :: eventBytes x).map Int.ofNat) else s
      | some _, .logic => s
      | none, w => request w Obj.NVS_LOG_READ_DATA .house (fun s => (0x08000024, s)) s)

/-! ### Images -/

/-- NVS_CMD COMMIT_VERSION, in READY with service access (R396). Answers the abort code. -/
def commitVersion (w : Writer) (s : State) : Nat × State :=
  if !serviceOk s w then (0x08000021, s)
  else if s.mod.mode != .ready then (0x08000022, s)
  else (0, s.modNvs fun n => { n with version := max n.version n.running_ })

def execCommitVersion (w : Writer) (s : State) : Res :=
  .next (request w Obj.NVS_CMD .house (commitVersion w) s)

/-- A block for the slot not running, in READY with service access; every erase and page is a store (R398). A block is taken as one page of
256 bytes, and the sector of each sixteen is erased before the first of them (DESIGN CHOICE, log 164). -/
def imageBlock (b : ImageBlock) (hold : Rat) (w : Writer) (s : State) : State :=
  if !serviceOk s w then s.reply w Obj.NVS_IMAGE_DATA 0x08000021
  else if s.mod.mode != .ready then s.reply w Obj.NVS_IMAGE_DATA 0x08000022
  else
    let k := s.nvs.writing.getD 0
    let s := s.modNvs fun n => { n with
      writing := some (k + 1), waiting := if k % 16 = 0 then n.waiting ++ [⟨.erase, 0, none, s.now, some .more⟩] else n.waiting }
    requestStore .image 0 (some w) (some b) hold s

def execImageWriteBlock (b : ImageBlock) (hold : Rat) (w : Writer) (s : State) : Res := .next (s.on .house (imageBlock b hold w))

end Sys2Proof.Machine
end

