-- ==== Sys2Proof/Machine/DictRead.lean ====
section
/-!
DEFINITION. Reading the dictionary (chapter 14): which objects exist (R9, R49, R98, R124, R170, R290), what a read returns (R66, R327), and
the objects whose value the module forms at the read.
-/

namespace Sys2Proof.Machine

/-! ### Block instances (R170, Table 7.12) -/

/-- The tag that a key of the tag pages stands for: its place from index 0xA000 (R307). -/
def tagOfKey (key : Nat) : Nat := (key / 256 - 0xA000) * 256 + key % 256

/-- Pier and instance of a block index, if the loaded graph has the instance. -/
def blockOf (s : State) (idx : Nat) : Option (StageId × Nat × BlockSt) :=
  if idx < 0x6000 ∨ 0xA000 ≤ idx then none
  else
    let p : StageId := Fin.ofNat 4 ((idx - 0x6000) / 0x1000)
    let i := idx % 0x1000
    (s.pie[p].blocks[i]?).map fun b => (p, i, b)

/-- How many outputs a block has (Table 7.7). -/
def blockOuts (b : BlockSpec) : Nat :=
  match b.code with
  | 0x0001 => b.wires.length
  | 0x000A => 3 | 0x000B => 2 | 0x000C => 2 | 0x000D => 2 | 0x000F => 2 | 0x0010 => 4
  | 0x0011 => b.wires.length - 1
  | 0x0012 => b.dims.getD 0 1
  | 0x0013 => b.dims.getD 2 1
  | _ => 1

/-- The highest sub-index of an instance. -/
def blockTop (b : BlockSt) : Nat :=
  if !b.states.isEmpty then 0xBF + b.states.length else 0x7F + blockOuts b.spec

/-- Whether an instance has a sub-index. -/
def blockHas (b : BlockSt) (sub : Nat) : Bool :=
  decide (sub ≤ 4) || (decide (0x10 ≤ sub ∧ sub < 0x80) && decide (sub < 0x10 + b.params.length))
    || (decide (0x80 ≤ sub ∧ sub < 0xC0) && decide (sub < 0x80 + blockOuts b.spec))
    || (decide (0xC0 ≤ sub ∧ sub ≤ 0xFE) && decide (sub < 0xC0 + b.states.length))

def sigVal : Option (Option Rat) → Val
  | some (some q) => .real q
  | some none => .nonfinite
  | none => .real 0

/-- A read of an instance's object. -/
def readBlock (s : State) (key : Nat) (b : BlockSt) : Except Nat Val :=
  let sub := key % 256
  if sub = 0 then .ok (.int (blockTop b))
  else if sub = 1 then .ok (.int b.spec.code)
  else if sub = 2 then .ok (.int b.spec.rate)
  else if sub = 3 then .ok (.int (b.status % 32 : Nat))
  else if sub = 4 then .error 0x06010001
  else if sub < 0x80 then
    let waiting := (s.commitWrites ++ s.heldWrites).foldl (fun v c => if c.1 = key then some c.2 else v) none
    .ok (waiting.getD (b.params.getD (sub - 0x10) (.int 0)))
  else if sub < 0xC0 then .ok (sigVal b.outs[sub - 0x80]?)
  else .ok (sigVal b.states[sub - 0xC0]?)

/-! ### Existence -/

/-- The stage of an index in 0x3000 to 0x3FFF and its offset (R8). -/
def stageIdx (idx : Nat) : Option (StageId × Nat) :=
  if 0x3000 ≤ idx ∧ idx < 0x4000 then some (Fin.ofNat 4 ((idx - 0x3000) / 0x400), idx % 0x400) else none

/-- Whether the objects at an offset of a stage's block apply to its type (R49, R94, R98 with Table 5.1, R124). -/
def appliesTo (t : SType) (off : Nat) : Bool :=
  if off < 0x200 then t == .gfi
  else if 0x210 ≤ off ∧ off < 0x220 then t == .gfi
  else if 0x220 ≤ off ∧ off < 0x230 then t == .afe || t == .dcdc || t == .iso
  else if 0x230 ≤ off ∧ off < 0x240 then t != .afe && t != .none
  else if 0x310 ≤ off ∧ off < 0x350 then t == .gfi
  else true

/-- A supplied driver channel's bootstrap object index (R212): 0x4830 to 0x4833 for channels 9 to 12. -/
def bootAbsent (s : State) (idx : Nat) : Bool :=
  decide (0x4830 ≤ idx ∧ idx < 0x4834) &&
    !s.bit (Obj.GDV_CH_CFG (Fin.ofNat 12 (8 + (idx - 0x4830)))) 2

/-- The PTP sub-indices that TT does not have (R290, R295). -/
def ttAbsent (key : Nat) : Bool := key == 0x233304 || key == 0x233305 || key == 0x233306 || key == 0x233308

/-- The index exists and applies (the first check of R326). -/
def indexExists (s : State) (key : Nat) : Bool :=
  let idx := key / 256
  if 0xA000 ≤ idx ∧ idx < 0xA200 then true
  else if 0x6000 ≤ idx ∧ idx < 0xA000 then (blockOf s idx).isSome
  else
    ((objPage idx).any fun r => r.holds idx r.sub) && !ttAbsent key && !bootAbsent s idx
      && match stageIdx idx with | some (n, off) => appliesTo (s.stype n) off | none => true

/-- The sub-index exists (the second check of R326). -/
def subExists (s : State) (key : Nat) : Bool :=
  let idx := key / 256
  if 0xA000 ≤ idx ∧ idx < 0xA200 then true
  else match blockOf s idx with
    | some (_, _, b) => blockHas b (key % 256)
    | none => (objRow idx (key % 256)).isSome

/-- The abort code of the first two checks, 0 where the object exists. -/
def existsCheck (s : State) (key : Nat) : Nat :=
  if !indexExists s key then 0x06020000 else if !subExists s key then 0x06090011 else 0

/-! ### Values formed at the read -/

/-- R98, Table 5.8: the fields of FRT_CONFIG that apply to a type, as a mask. -/
def frtMask (t : SType) : Nat :=
  match t with
  | .gfi => 0x73C
  | .afe => 0x3
  | .dcdc => 0x723
  | .iso => 0x723
  | .chg => 0x7E0
  | .mot => 0x7E0
  | .none => 0

/-- The bits of a word that a mask of up to 32 bits keeps. -/
def maskBits (v m : Nat) : Nat := maskOf ((List.range 32).filter fun i => bitsAt v i 1 == 1 && bitsAt m i 1 == 1)

/-- Stage, channel or other replica number of a key with its index, base and distance. -/
def replicaAt (key base step count : Nat) : Option Nat :=
  let idx := key / 256
  if base ≤ idx ∧ idx < base + step * count ∧ (idx - base) % step = 0 then some ((idx - base) / step) else none

/-- MOD_MODE: the secondary of a viaduct reports its primary's mode, but for its own HALT and LOCKOUT (R46). -/
def reportedMode (s : State) : Nat :=
  match primaryView s with
  | some v => if linkUp s && s.mod.mode != .halt && s.mod.mode != .lockout then v.mode.code else s.mod.mode.code
  | none => s.mod.mode.code

/-- MOD_STATUS (Table 2.8). -/
def modStatus (s : State) : Nat :=
  let stored := s.objN Obj.MOD_STATUS
  let bit (i : Nat) : Nat := bitsAt stored i 1 * 2 ^ i
  boolNat (allStages.any fun n => s.frt[n].riding) + 2 * boolNat (allStages.any fun n => s.frt[n].coasting)
    + 4 * boolNat (allStages.any fun n => s.isGfi n && s.dispatching n && !s.shr[n].line.live) + bit 3 + bit 4
    + 32 * boolNat (allStages.any fun n => s.stg[n].diagDeferred && !s.stg[n].diagPassed) + bitsAt stored 8 3 * 256
    + maskOf ((allStages.filter s.switching).map fun n => 16 + n.val)
    + maskOf ((allStages.filter fun n => s.stageSt n == .safe).map fun n => 20 + n.val) + bitsAt stored 24 8 * 16777216

/-- Hours since the last reset (Table 15.7). -/
def runHours (s : State) : Nat := (s.now - s.saf.resetAt) / cyclesHour

/-- A peeked tag (R308, Table 13.9). -/
def peekValue (s : State) (sub : Nat) : Except Nat Val :=
  let t := s.lgc.peek
  let d := (findTag s t).map (·.defn)
  match sub with
  | 2 => .ok (.int (match findTag s t with | some x => (settledTag s x).1 | none => 0))
  | 3 => .ok (.int ((d.map (·.type)).getD 0))
  | 4 => .ok (.int (tagQuality s t))
  | _ => .ok (.int ((d.map (·.binding)).getD 0))

/-- Objects of the edge island that follow its outputs and windows from cycle to cycle: EDG_TRG_STATUS, GDV_CH_STATUS and GDV_PORT_STATUS. -/
def edgeLive (s : State) (key : Nat) : Option (Except Nat Val) :=
  let sub := key % 256
  let settled (o : Option (ChanId × Bool)) : Nat := (match o with | some (c, _) => settle c s | none => s).objN key
  match replicaAt key 0x4460 1 8, replicaAt key 0x4810 1 12, replicaAt key 0x4850 1 8 with
  | some g, _, _ => if sub = 9 then some (.ok (.int (groupWord s (Fin.ofNat 8 g)))) else none
  | _, some j, _ =>
    let d : DrvId := Fin.ofNat 12 j
    if sub ≠ 9 then none
    else if s.fenced .edge then none
    else
      let w := setBitsAt (settled (drvOutput s d)) 0 1 (boolNat (gateOn s d))
      some (.ok (.int (if gateOn s d then setBitsAt w 3 1 0 else w : Nat)))
  | _, _, some j =>
    let p : PortId := Fin.ofNat 8 j
    if sub ≠ 2 then none else some (.ok (.int (setBitsAt (settled (portOutput s p)) 0 1 (boolNat (portLit s p)) : Nat)))
  | _, _, _ => none

/-- The setting of a reserved check-value unit as its configuration objects show it (Table 16.1): CRC-32C, or that of the safety layer with
its STREAM mode and the tally of Table 15.3, which CVU7 does not check (R374, R386). -/
def reservedCvu (u sub : Nat) : Nat :=
  let c := if u < 6 then crc32c else crcSafety
  match sub with
  | 1 => c.width + 128 * boolNat c.refIn + 256 * boolNat c.refOut + 512 * boolNat c.invert
      + (if u < 6 then 0 else 1024 * (u - 4) + 4096 + 65536 * 6)
  | 2 => c.poly
  | 3 => c.init
  | _ => 0

/-- The objects whose value is formed when they are read. -/
def liveValue (s : State) (key : Nat) : Option (Except Nat Val) :=
  let idx := key / 256
  let sub := key % 256
  if key = Obj.MOD_MODE then some (.ok (.int (reportedMode s)))
  else if key = Obj.MOD_STATUS then some (.ok (.int (modStatus s)))
  else if idx = 0x2021 ∧ 1 ≤ sub ∧ sub ≤ 4 then some (.ok (.int (s.stageSt (Fin.ofNat 4 (sub - 1))).code))
  else if key = Obj.TIM_MT then some (.ok (.int s.now))
  else if key = 0x231301 then some (.ok (.int (if s.clk.base[(0 : Fin 3)].st = 0 then 0 else (s.clk.base[(0 : Fin 3)].at_ s.now).floor)))
  else if key = 0x232301 then some (.ok (.int (if s.clk.base[(1 : Fin 3)].st = 0 then 0 else (s.clk.base[(1 : Fin 3)].at_ s.now).floor)))
  else if key = 0x233301 then some (.ok (.int (if s.clk.base[(2 : Fin 3)].st = 0 then 0 else (s.clk.base[(2 : Fin 3)].at_ s.now).floor)))
  else if key = 0x231307 ∨ key = 0x232307 ∨ key = 0x233307 then some (.ok (.int (holdoverMs s (Fin.ofNat 3 (key / 4096 % 16 - 1)) : Nat)))
  else if key = Obj.SAF_CONFIG_CRC then some (.ok (.int (safetyCrc s)))
  else if key = Obj.SAF_RUN_HOURS then some (.ok (.int (runHours s)))
  else if key = Obj.TWN_CFG_CHECK then some (.ok (.int (configCheck s)))
  else if key = Obj.NVS_LOG_READ_DATA then
    some (match logRead s with | some r => .ok (.bytes (eventBytes r)) | none => .error 0x08000024)
  else if key = Obj.LGC_CYCLE_COUNT then some (.ok (.int s.lgc.image.count))
  else if key = Obj.LGC_LT then some (.ok (.int s.lgc.image.lt))
  else if key = Obj.LGC_PERIOD_IN_FORCE then some (.ok (.int (s.lgc.tc + s.lgc.stretch)))
  else if 0x2244 ≤ idx ∧ idx < 0x2248 ∧ 1 ≤ sub ∧ sub ≤ 4 then some (.ok (.int (reservedCvu (idx - 0x2240) sub : Nat)))
  else if idx = 0x5140 ∧ 2 ≤ sub ∧ sub ≤ 5 then some (peekValue s sub)
  else match replicaAt key 0x5000 1 0x100 with
    | some j =>
      let p : StageId := Fin.ofNat 4 (j / 0x40)
      if j % 0x40 = 0xB ∧ sub = 2 then
        some (match galReadData s p with | .inl ws => .ok (.bytes (ws.flatMap (bytesBE 4))) | .inr a => .error a)
      else none
    | none =>
      match stageIdx idx with
      | some (n, off) =>
        if off = 0x70 && (s.stageSt n == .off || s.stageSt n == .safe) then some (.ok (.real 0))
        else if key = Obj.GFL_STATUS n then some (.ok (.int (setBitsAt (s.objN key) 10 1 (boolNat (s.objN (Obj.GFL_MP n) == 0)) : Nat)))
        else if key = Obj.FRT_STATUS n && s.isGfi n then some (.ok (.int (setBitsAt (s.objN key) 6 1 (boolNat (budgetLow s n)) : Nat)))
        else if key = Obj.FRT_BUDGET n then some (.ok (.real (r32 (budgetNow s n))))
        else none
      | none =>
        match replicaAt key 0x4030 0x100 4, replicaAt key 0x5830 1 4 with
        | some p, _ => if sub = 1 then some (.ok (.int s.pie[(Fin.ofNat 4 p : StageId)].k)) else none
        | none, some i => if sub = 8 then some (.ok (.int (s.since s.saf.soc[(Fin.ofNat 4 i : SocId)].proofAt / cyclesHour : Nat))) else none
        | none, none => edgeLive s key

/-- The value last written to an object, one that waits included (R66). -/
def lastValue (s : State) (key : Nat) : Val :=
  let newest (rule : RunRule) (l : List ObjCell) (v : Val) : Val := l.foldl (fun v c => if c.1 = key then dueValue key rule v c.2 else v) v
  newest .nextReset s.resetWrites (newest .nextModeChange s.modeWrites (newest .nextCommit (s.commitWrites ++ s.heldWrites) (s.obj key)))

/-- Fields that do not apply to a stage's type read 0 (R98, R124). -/
def fieldView (s : State) (key : Nat) (v : Val) : Val :=
  match stageIdx (key / 256) with
  | some (n, 0x200) => .int (maskBits v.toInt.toNat (frtMask (s.stype n)) : Nat)
  | some (n, 0x300) => if s.isGfi n then v else .int (v.toInt.toNat / 64 * 64 : Nat)
  | _ => v

/-- The island that an object's value comes from, where it is not the house island: a fenced one delivers its marker instead (R24; DESIGN
CHOICE, log 149). The deck and the engine's objects read as they froze (Table 1.8). -/
def objIsland (idx : Nat) : Island :=
  if 0x2400 ≤ idx ∧ idx < 0x2500 then .abutment
  else if 0x2800 ≤ idx ∧ idx < 0x3000 then .link
  else if 0x3000 ≤ idx ∧ idx < 0x4000 then .pier (Fin.ofNat 4 ((idx - 0x3000) / 0x400))
  else if 0x4000 ≤ idx ∧ idx < 0x4400 then .pier (Fin.ofNat 4 ((idx - 0x4000) / 0x100))
  else if 0x4400 ≤ idx ∧ idx < 0x4800 then .edge
  else if 0x4C00 ≤ idx ∧ idx < 0x5000 then .sample
  else if 0x5000 ≤ idx ∧ idx < 0x5100 then .pier (Fin.ofNat 4 ((idx - 0x5000) / 0x40))
  else if 0x5400 ≤ idx ∧ idx < 0x5800 then .network
  else if 0x6000 ≤ idx ∧ idx < 0xA000 then .pier (Fin.ofNat 4 ((idx - 0x6000) / 0x1000))
  else .house

/-- A read of an object by the dictionary's rules: the first three checks of R326, then its value. The value of NET_SVC_CHALLENGE is
drawn by its own row (R331). -/
def readObj (s : State) (key : Nat) : Except Nat Val :=
  let idx := key / 256
  match existsCheck s key with
  | 0 =>
    if s.fenced (objIsland idx) then .error 0x08000024
    else if 0xA000 ≤ idx then readTag s (tagOfKey key)
    else match blockOf s idx with
      | some (_, _, b) => readBlock s key b
      | none =>
        match objRow idx (key % 256) with
        | none => .error 0x06020000
        | some r =>
          if r.access = .wo then .error 0x06010001
          else match liveValue s key with | some v => v | none => .ok (fieldView s key (lastValue s key))
  | a => .error a

/-- The value of a read as numbers in a response. -/
def valInts : Val → List Int
  | .int v => [v]
  | .real q => [f32Bits q]
  | .nonfinite => [quietNaN]
  | .bytes b => b.map Int.ofNat

end Sys2Proof.Machine
end

