-- ==== Sys2Proof/Machine/DictOps.lean ====
section
/-!
DEFINITION. Writing the dictionary (R326, R327, R333): the checks in their order, the rules that the owning chapters add, and where the
value goes.
-/

namespace Sys2Proof.Machine

/-! ### Types and ranges -/

/-- A value has the length of its type (check 4). -/
def typeFits (ty : ObjType) (v : Val) : Bool :=
  match ty, v with
  | .bool, .int z => decide (0 ≤ z ∧ z < 256)
  | .u8, .int z => decide (0 ≤ z ∧ z < 256)
  | .u16, .int z => decide (0 ≤ z ∧ z < 65536)
  | .u32, .int z => decide (0 ≤ z ∧ z < 4294967296)
  | .u64, .int z => decide (0 ≤ z ∧ z < 18446744073709551616)
  | .i8, .int z => decide (-128 ≤ z ∧ z < 128)
  | .i16, .int z => decide (-32768 ≤ z ∧ z < 32768)
  | .i32, .int z => decide (-2147483648 ≤ z ∧ z < 2147483648)
  | .real, .real _ => true
  | .real, .nonfinite => true
  | .str, .bytes _ => true
  | .domain, .bytes _ => true
  | _, _ => false

/-- A contiguous IPv4 mask: ones, then zeros. -/
def maskOk (z : Int) : Bool := (List.range 33).any fun n => z == 4294967296 - 2 ^ (32 - n)

/-- The start sources of Table 10.3. -/
def startOk (v : Nat) : Bool :=
  let t := bitsAt v 0 4
  let i := bitsAt v 4 7
  decide (v < 2048) && (t == 0 || (t == 1 && decide (i < 8)) || (t == 2 && decide (i < 96)) || (t == 3 && decide (i < 4)) || t == 15)

/-- The shifts s_1, s_2, s_3, s_F: 0 to 24 each, other bits 0. -/
def shiftsOk (v : Nat) : Bool :=
  [0, 8, 16, 24].all (fun lo => decide (bitsAt v lo 5 ≤ 24)) &&
    v == bitsAt v 0 5 + bitsAt v 8 5 * 256 + bitsAt v 16 5 * 65536 + bitsAt v 24 5 * 16777216

/-- GAL_NODE (Table 11.7). -/
def nodeOk (v : Nat) : Bool :=
  let src := bitsAt v 20 2
  let sub := bitsAt v 12 8
  bitsAt v 22 8 == 0 && ((src == 0 && ((decide (0x80 ≤ sub) && decide (sub ≤ 0xFE)) || bitsAt v 31 1 == 0))
    || (src == 1 && sub == 0 && bitsAt v 8 4 == 0))

/-- Whether a value lies in a row's range. -/
def inRange (r : Range) (v : Val) : Bool :=
  let z := v.toInt
  let q := v.toRat
  let num := match v with | .nonfinite => false | _ => true
  match r with
  | .any => true
  | .int lo hi => decide (lo ≤ z ∧ z ≤ hi)
  | .intOr lo hi other => decide (lo ≤ z ∧ z ≤ hi) || z == other
  | .step lo hi st => decide (lo ≤ z ∧ z ≤ hi) && decide (z % st = 0)
  | .oneOf l => l.contains z
  | .real lo hi => num && decide (lo ≤ q) && decide (q ≤ hi)
  | .finite => num
  | .nonneg => num && decide (0 ≤ q)
  | .ipMask => maskOk z
  | .route => decide (0 ≤ z ∧ z ≤ 24) || decide (0x81 ≤ z ∧ z ≤ 0x98)
  | .acqStart => startOk z.toNat
  | .acqSubst => decide (z < 4096) && decide (z % 4 ≤ 2) && decide (z / 4 % 32 ≤ 24) && decide (z / 128 % 32 ≤ 24)
  | .fcShift => shiftsOk z.toNat
  | .galNode => nodeOk z.toNat
  | .ssdBase => num && ((decide (mkRat 5 100 ≤ q) && decide (q ≤ 1)) || (decide (1 ≤ q) && decide (q ≤ 1000)))
  | .pierOut => z == 4294967295 || (decide (z < 1048576) && decide (0x80 ≤ z / 4096) && decide (z / 4096 ≤ 0xFE))
  | .cobSync => bitsAt z.toNat 30 1 == 0

/-- Every field holds a value it admits (the field maps). -/
def fieldsOk (name : String) (v : Nat) : Bool :=
  (objFields name).all fun f => match f.allowed with | none => true | some l => l.contains (bitsAt v f.lo f.width)

/-- The fields of an object that a write would change. -/
def changedFields (s : State) (name : String) (key v : Nat) : List FieldRow :=
  (objFields name).filter fun f => bitsAt (s.objN key) f.lo f.width != bitsAt v f.lo f.width

/-! ### Rules of the owning chapters -/

/-- R168: the stability test of a second-order section: both poles inside the unit circle. -/
def sectionStable (a1 a2 : Rat) : Bool := decide (absR a2 < 1) && decide (absR a1 < 1 + a2)

/-- R168: a block's parameters are admitted together. The bounds that Table 7.7 leaves unsaid follow from each block's form: rates and time
constants not negative, duty limits in order, a channel and a slot that the command set holds (DESIGN CHOICE, log 138). -/
def blockParamsOk (b : BlockSpec) (ps : List Val) : Bool :=
  let fin := ps.all fun v => match v with | .nonfinite => false | _ => true
  let pr := ps.map Val.toRat
  let at_ (i : Nat) : Rat := nth pr i
  let n := b.dims.getD 0 1
  fin && match b.code with
    | 0x0003 => decide (at_ 0 ≤ at_ 1)
    | 0x0004 => decide (0 ≤ at_ 0) && decide (0 ≤ at_ 1)
    | 0x0005 => decide (0 ≤ at_ 0)
    | 0x0006 => decide (at_ 3 ≤ at_ 4) && decide (at_ 5 ≤ 1)
    | 0x0007 => decide (at_ 3 ≤ at_ 4) && decide (at_ 5 ≤ 1)
    | 0x0008 => (List.range n).all fun i => sectionStable (at_ (5 * i + 3)) (at_ (5 * i + 4))
    | 0x0011 => decide (at_ 0 ≤ 2) && (at_ 1 == 3 || at_ 1 == 4) && decide (at_ 2 ≤ at_ 3)
    | 0x0012 => spectralBelowOne n (pr.take (n * n))
    | 0x0013 => spectralBelowOne n (pr.take (n * n))
    | 0x0017 => decide (at_ 0 ≤ 1)
    | 0x0018 => decide (at_ 2 ≤ 1)
    | 0x0019 => decide (1 ≤ at_ 0) && decide (at_ 0 ≤ 12) && decide (at_ 1 ≤ 8)
    | 0x001B => decide (1 ≤ at_ 0) && decide (at_ 0 ≤ 16)
    | _ => true

/-- Stages that dispatch and read a chain (Table 10.9). -/
def chainRead (s : State) (c : ChainId) : Bool :=
  allStages.any fun n => s.dispatching n && match s.pie[n].graph with | some g => (graphChains g).contains c | none => false

/-- A stage carries a safety function: SSD, or an SOC instance. -/
def hasSafety (s : State) (n : StageId) : Bool := s.isSsd n || (socOf s n.val).isSome

/-- How many entries a PDO mapping may have and how many bytes (Table 14.4, R351): CAN A 8, CAN B 64. -/
def pdoBytes (s : State) (rx : Bool) (i : Nat) : Nat :=
  if s.objN (Obj.NET_PDO_PORT (if rx then i else 16 + i)) = 1 then 64 else 8

/-- Bits of one mapping entry: index [31:16], sub-index [15:8], length in bits [7:0] (CiA 301). -/
def mapBits (v : Nat) : Nat := v % 256

/-- An entry names an object that can be mapped: it exists, its direction is allowed, and its length is that of its type. -/
def mapOk (s : State) (rx : Bool) (v : Nat) : Bool :=
  let key := v / 256
  if v = 0 then true
  else if existsCheck s key ≠ 0 then false
  else
    let idx := key / 256
    if 0xA000 ≤ idx then (match findTag s (tagOfKey key) with | some x => mapBits v == typeBits x.defn.type | none => false)
    else match objRow idx (key % 256) with
      | some r => decide (0 < r.ty.size) && mapBits v == 8 * r.ty.size && (if rx then r.access == .rw || r.access == .wo else r.access != .wo)
      | none => match blockOf s idx with
        | some (_, _, b) => let sub := key % 256
          if 0x10 ≤ sub ∧ sub < 0x80 then mapBits v == 8 * (paramType b.spec.code (sub - 0x10)).size
          else !rx && decide (0x80 ≤ sub) && mapBits v == 32
        | none => false

/-- The total length of the first n entries of a mapping. -/
def mapTotal (s : State) (base n : Nat) : Nat :=
  (List.range n).foldl (fun t i => t + mapBits ((lastValue s (base + 1 + i)).toInt.toNat)) 0

/-- The PDO a communication or mapping object belongs to: receive or transmit, and its number. -/
def pdoOf (idx : Nat) : Option (Bool × Nat) :=
  if 0x1400 ≤ idx ∧ idx < 0x1410 then some (true, idx - 0x1400)
  else if 0x1600 ≤ idx ∧ idx < 0x1610 then some (true, idx - 0x1600)
  else if 0x1800 ≤ idx ∧ idx < 0x1810 then some (false, idx - 0x1800)
  else if 0x1A00 ≤ idx ∧ idx < 0x1A10 then some (false, idx - 0x1A00)
  else none

/-- R352: the port whose communication an object configures is operational; 0x1005 and 0x1014 to 0x1017 serve both ports. -/
def commOperational (s : State) (key : Nat) : Bool :=
  let op (c : Fin 2) : Bool := s.net.can[c].st == 5
  match pdoOf (key / 256) with
  | some (rx, i) =>
    let p := s.objN (Obj.NET_PDO_PORT (if rx then i else 16 + i))
    (p == 0 && op 0) || (p == 1 && op 1)
  | none => op 0 || op 1

/-- Service access is needed for a write (R48, R185, R404, R435, Tables 15.7 and 19.11); in LOCKOUT for every configuration write (R44). -/
def needsService (s : State) (r : ObjRow) (key : Nat) (v : Val) : Bool :=
  (decide (0x5800 ≤ key / 256 ∧ key / 256 < 0x5900) && r.access == .rw)
    || key == Obj.SUP_SENSOR_EN || r.name == "THM_EXT_CFG" || r.name == "THM_CLASS" || r.name == "THM_CLASS_HYST"
    || (key == Obj.TWN_CONFIG && bitsAt v.toInt.toNat 0 2 != s.field Obj.TWN_CONFIG 0 2)
    || (s.mod.mode == .lockout && r.saved)

/-- Rules that limit writes to modes and states (check 7), beside the rule for writes while running: true where the write is
refused. -/
def stateRefused (s : State) (r : ObjRow) (key : Nat) (v : Val) : Bool :=
  let idx := key / 256
  let rep := r.replica idx
  let new := v.toInt.toNat
  let running := s.mod.mode.running
  let n : StageId := Fin.ofNat 4 rep
  let c : AdcId := Fin.ofNat 24 rep
  let owned (up : Bool) : Bool := s.acq.cmpOwned.any fun e => e.1 == c && e.2.1 == up
  (0x5800 ≤ idx && idx < 0x5900 && r.access == .rw && s.mod.mode != .ready)
    || (key == Obj.TWN_CONFIG && bitsAt new 0 2 != s.field Obj.TWN_CONFIG 0 2 && s.mod.mode != .ready)
    || (r.run == .nextReset && commOperational s key)
    || match r.name with
      | "GFL_MP" => running && ((s.objN key == 0) != (new == 0))
      | "EDG_TRG_CFG" =>
        let g : GroupId := Fin.ofNat 8 rep
        grpEnabled s g && bitsAt new 0 1 == 0 && (grpStages s g).any s.switching
      | "ACQ_CH_START" => running && channelInUse s c
      | "ACQ_CH_DELAY" => running && channelInUse s c
      | "ACQ_CMP_HI" => owned true
      | "ACQ_CMP_LO" => owned false
      | "ACQ_CMP_HYST" => owned true || owned false
      | "ACQ_CMP_FILTER" => owned true || owned false
      | "ACQ_FC_CFG" =>
        let ch : ChainId := Fin.ofNat 16 rep
        running && chainRead s ch && ((s.bit key 0 && bitsAt new 0 1 == 0) || bitsAt new 1 20 != s.field key 1 20)
      | "ACQ_FC_SHIFT" => running && chainRead s (Fin.ofNat 16 rep)
      | "ACQ_FC_COEF" => running && boolNat s.acq.chain[(Fin.ofNat 16 (rep / 2) : ChainId)].active == rep % 2
      | "CVU_CFG" => cvuBusy s (Fin.ofNat 8 rep)
      | "CVU_POLY" => cvuBusy s (Fin.ofNat 8 rep)
      | "CVU_INIT" => cvuBusy s (Fin.ofNat 8 rep)
      | "CVU_EXPECT" => cvuBusy s (Fin.ofNat 8 rep)
      | "MOD_STAGE_CFG" => s.dispatching n && running
      | _ => false

/-- The values that the objects of a timebase would have meet R197. -/
def tbRelation (period mode sample offset : Int) : Bool :=
  (mode != 1 || period % 2 == 0) && (mode != 0 || sample == 0) && decide (offset < period)

/-- Range and order rules of the owning chapters (check 8): the abort code, 0 where none refuses. -/
def chapterRange (s : State) (r : ObjRow) (key : Nat) (v : Val) : Nat :=
  let idx := key / 256
  let rep := r.replica idx
  let off := key % 256 - r.sub
  let z := v.toInt
  let new := z.toNat
  let n : StageId := Fin.ofNat 4 rep
  let get (k : Nat) : Int := (lastValue s k).toInt
  let order (ok : Bool) : Nat := if ok then 0 else 0x06090036
  let range (ok : Bool) : Nat := if ok then 0 else 0x06090030
  let c : AdcId := Fin.ofNat 24 rep
  match r.name with
  | "MOD_STAGE_CFG" =>
    let m : StageId := Fin.ofNat 4 off
    order (new % 16 != 1 || decide (((allStages.filter fun k => k != m && s.isGfi k).length) < 2))
  | "GFL_E_MIN" => order (decide (z < get (Obj.GFL_E_MAX n)))
  | "GFL_E_MAX" => order (decide (get (Obj.GFL_E_MIN n) < z))
  | "FRT_CONFIG" => range (maskBits new (frtMask (s.stype n)) == new
      && (new % 4 == 0 || new % 4 == (if s.stype n == .afe then 2 else 1)) && (bitsAt new 6 2 != 2 || s.stype n == .mot))
  | "SHR_CONFIG" => order (bitsAt new 5 1 == 0 || !(allStages.any fun m => m != n && s.isGfi m && bitsAt (get (Obj.SHR_CONFIG m)).toNat 5 1 == 1))
  | "FRT_VI_START" => order (decide (z + 100 ≤ get (Obj.FRT_I_LIMIT n)))
  | "FRT_I_LIMIT" => order (decide (get (Obj.FRT_VI_START n) + 100 ≤ z) && decide (z + 300 ≤ get (Obj.FRT_PULSE_LIMIT n)))
  | "FRT_PULSE_LIMIT" => order (decide (get (Obj.FRT_I_LIMIT n) + 300 ≤ z))
  | "FRT_LINK_MIN" => order (decide (z < get (Obj.FRT_LINK_REF n)))
  | "FRT_LINK_REF" => order (decide (get (Obj.FRT_LINK_MIN n) < z ∧ z < 1000))
  | "FRT_LINK_MAX" => order (decide (1000 < z))
  | "FRT_SHED_V" =>
    let l := (List.range 3).map fun j => if j = off then z else get (Obj.FRT_SHED_V n j)
    order (decide (l.getD 1 0 < l.getD 0 0) && decide (l.getD 2 0 < l.getD 1 0))
  | "SRV_CONFIG" => range (s.isGfi n || new % 64 == 0)
  | "SRV_CAN_WARN" => order (decide (z < get (Obj.SRV_CAN_ACT n off)))
  | "SRV_CAN_ACT" => order (decide (get (Obj.SRV_CAN_WARN n off) < z))
  | "SRV_CAN_REACT" => range (z != 2 || off == 0 || off == 3)
  | "PIE_DEADLINE" =>
    order (decide (get (Obj.PIE_DEADLINE n) ≤ z) || (s.pie[n].graph).isNone
      || decide (dispatchOffset s n + s.objN (Obj.PIE_WCET_CRIT n) < s.tu n * new / 100))
  | "PIE_CONFIG" => range (bitsAt new 2 1 == 1 || !hasSafety s n)
  | "EDG_TB_PERIOD" => let t : TbId := Fin.ofNat 8 rep
    order (tbRelation z (get (Obj.EDG_TB_MODE t)) (get (Obj.EDG_TB_SAMPLE t)) (get (Obj.EDG_TB_OFFSET t)))
  | "EDG_TB_MODE" => let t : TbId := Fin.ofNat 8 rep
    order (tbRelation (get (Obj.EDG_TB_PERIOD t)) z (get (Obj.EDG_TB_SAMPLE t)) (get (Obj.EDG_TB_OFFSET t)))
  | "EDG_TB_SAMPLE" => let t : TbId := Fin.ofNat 8 rep
    order (tbRelation (get (Obj.EDG_TB_PERIOD t)) (get (Obj.EDG_TB_MODE t)) z (get (Obj.EDG_TB_OFFSET t)))
  | "EDG_TB_OFFSET" => let t : TbId := Fin.ofNat 8 rep
    order (tbRelation (get (Obj.EDG_TB_PERIOD t)) (get (Obj.EDG_TB_MODE t)) (get (Obj.EDG_TB_SAMPLE t)) z)
  | "EDG_CH_STATIC_CTRL" => range (decide (new < 64))
  | "ACQ_CH_CFG" => range ((new % 4 != 2 || decide (rep < 12)) && (bitsAt new 5 1 == 0 || new % 4 == 1))
  | "ACQ_FC_CFG" =>
    let input := bitsAt new 1 5
    range (bitsAt new 28 1 == 0 || (decide (input < 24) && s.field (Obj.ACQ_CH_CFG (Fin.ofNat 24 input)) 0 2 == 1))
  | "TIM_NTA_CFG" =>
    let other := s.objN (Obj.TIM_NTA_CFG (Fin.ofNat 2 (1 - rep % 2)))
    order (!(new % 2 == 1 && other % 2 == 1 && bitsAt new 1 2 == bitsAt other 1 2 && bitsAt new 8 8 == bitsAt other 8 8))
  | "LGC_IDLE_MIN" =>
    order (match s.lgc.program with
      | some p => !s.lgc.valid || fitsPeriod p.wcetBusy new (s.objN Obj.LGC_CYCLE_PERIOD)
      | none => true)
  | "NET_CAN_CFG" =>
    if off = 0 then range (decide (new % 8 ≤ 4) && bitsAt new 3 1 == 0) else range (new % 8 == 2 || new % 8 == 3)
  | "NET_PORT_CFG" => range (decide (2 ≤ off) || bitsAt new 1 1 == 0)
  | "SAF_CONN_CFG" => range (bitsAt new 4 1 == 0 || decide (4 ≤ bitsAt new 5 6))
  | "FIO_DI_ON" => order (decide (get (Obj.FIO_DI_OFF (Fin.ofNat 16 rep)) + 20 ≤ z))
  | "FIO_DI_OFF" => order (decide (z + 20 ≤ get (Obj.FIO_DI_ON (Fin.ofNat 16 rep))))
  | "FIO_WB_OPEN" => order (decide (z < get (Obj.FIO_WB_MID (Fin.ofNat 16 rep))))
  | "FIO_WB_MID" => let d : DiId := Fin.ofNat 16 rep
    order (decide (get (Obj.FIO_WB_OPEN d) < z) && decide (z < get (Obj.FIO_WB_SHORT d)))
  | "FIO_WB_SHORT" => order (decide (get (Obj.FIO_WB_MID (Fin.ofNat 16 rep)) < z))
  | "THM_CLASS" =>
    let dflt := match r.dflt with | .intsAt l => (l.getD rep []).getD 4 0 | _ => 0
    if z < -60 ∨ 200 < z ∨ (off = 4 ∧ dflt < z) then 0x06090030
    else
      let l := (List.range 5).map fun j => if j = off then z else get (Obj.THM_CLASS (Fin.ofNat 8 rep) j)
      order ((List.range 4).all fun j => decide (l.getD j 0 < l.getD (j + 1) 0))
  | "CIA_RPDO_MAP" => if mapOk s true new then 0 else 0x06040041
  | "CIA_TPDO_MAP" => if mapOk s false new then 0 else 0x06040041
  | "CIA_RPDO_MAP_COUNT" => if mapTotal s (idx * 256) new ≤ 8 * pdoBytes s true rep then 0 else 0x06040042
  | "CIA_TPDO_MAP_COUNT" => if mapTotal s (idx * 256) new ≤ 8 * pdoBytes s false rep then 0 else 0x06040042
  | _ => 0
  -- the stream's rate (R269) and TRG_EN (R265) are judged where GAL_CONFIG acts

/-! ### Command objects: their own rules decide -/

/-- Objects whose write is a command: the operation behind it makes the checks from the fifth on. -/
def isCommandKey (key : Nat) : Bool :=
  let idx := key / 256
  let sub := key % 256
  idx == 0x2011 || idx == 0x2022 || key == Obj.NVS_CMD || key == Obj.NVS_LOG_READ_SEQ || key == Obj.NVS_IMAGE_DATA
    || (decide (0x2240 ≤ idx ∧ idx < 0x2248) && (sub == 5 || sub == 6)) || key == Obj.TIM_CMD || key == Obj.FIO_FORCE
    || (decide (0x2450 ≤ idx ∧ idx < 0x2454) && sub == 4) || key == Obj.TWN_CMD || key == Obj.TWN_WIN_TARGET || key == Obj.TWN_WIN_DATA
    || (match stageIdx idx with | some (_, off) => off == 0x170 | none => false)
    || (decide (0x4000 ≤ idx ∧ idx < 0x4400) && idx % 0x100 == 0x40) || idx == 0x4401 || idx == 0x4418
    || (decide (0x4420 ≤ idx ∧ idx < 0x4438) && sub == 12) || (decide (0x4460 ≤ idx ∧ idx < 0x4468) && sub == 13)
    || (decide (0x4810 ≤ idx ∧ idx < 0x481C) && sub == 11) || (decide (0x4840 ≤ idx ∧ idx < 0x4844) && sub == 9)
    || (decide (0x4850 ≤ idx ∧ idx < 0x4858) && sub == 6) || key == Obj.ACQ_CMD
    || (decide (0x4C60 ≤ idx ∧ idx < 0x4C70) && sub == 4)
    || (match galOfKey key with | some _ => idx % 0x40 == 0xB | none => false)
    || key == Obj.LGC_CMD || key == Obj.LGC_CMD_INSTANT || key == Obj.LGC_STAGE_DATA || key == Obj.LGC_PEEK_TAG
    || key == Obj.NET_OWNER_CLAIM || key == Obj.NET_SVC_RESPONSE || key == Obj.SAF_CMD || idx == 0x1010 || idx == 0x1011 || key == Obj.CIA_ERROR_COUNT

/-- A write that needs no ownership in any mode (R329): NET_OWNER_CLAIM, NET_SVC_RESPONSE, MOD_COMMAND STOP. -/
def freeWrite (key : Nat) (v : Val) : Bool :=
  key == Obj.NET_OWNER_CLAIM || key == Obj.NET_SVC_RESPONSE || (key == Obj.MOD_COMMAND && v == .int 0x5A02)

/-! ### The checks -/

/-- R407, R412: the secondary of a viaduct and the standby of a duplex pair refuse writes on their own ports; without a link the active
module refuses writes to saved objects. -/
def pairRefuses (s : State) (w : Writer) (saved : Bool) : Bool :=
  s.standsBy w || (match w with | .logic => false | .port _ _ => isDuplex s && s.twn.active && !linkUp s && saved)

/-- Checks 5 to 7 and 8 of a plain object; `lost`: another write of the same tick wins (R333). -/
def plainCheck (s : State) (w : Writer) (r : ObjRow) (key : Nat) (v : Val) (lost : Bool) : Nat :=
  let new := v.toInt.toNat
  let running := s.mod.mode.running
  if !s.accepts w || (needsService s r key v && !serviceOk s w) then 0x08000021
  else if lost then 0x08000020
  else if pairRefuses s w r.saved || stateRefused s r key v then 0x08000022
  else if running && (r.run == .refused || (r.run == .byField && (changedFields s r.name key new).any fun f => f.run == .refused)) then 0x08000022
  else if !inRange r.range v || !fieldsOk r.name new then 0x06090030
  else chapterRange s r key v

/-- A block's parameters as last written, those that wait included (R167). -/
def lastParams (s : State) (p : StageId) (inst : Nat) (b : BlockSt) : List Val :=
  (s.commitWrites ++ s.heldWrites).foldl
    (fun ps c => if c.1 / 256 = blockKey p inst 0 / 256 then ps.set (c.1 % 256 - 0x10) c.2 else ps) b.params

/-- The checks of a block parameter (R167, R168): judged with the parameters as last written. -/
def paramCheck (s : State) (w : Writer) (b : BlockSt) (ps : List Val) (j : Nat) (v : Val) (lost : Bool) : Nat :=
  if !typeFits (paramType b.spec.code j) v then 0x06070010
  else if !s.accepts w || (s.mod.mode == .lockout && !serviceOk s w) then 0x08000021
  else if lost then 0x08000020
  else if pairRefuses s w true then 0x08000022
  else if blockParamsOk b.spec (ps.set j v) then 0 else 0x06090030

/-- The configuration objects of the reserved check-value units are RO (R383). -/
def reservedConfig (key : Nat) : Bool :=
  decide (0x2244 ≤ key / 256 ∧ key / 256 < 0x2248) && decide (1 ≤ key % 256 ∧ key % 256 ≤ 4)

/-- R326: every check of a write in its order; a command object's later checks are its operation's. -/
def writeCheck (s : State) (w : Writer) (key : Nat) (v : Val) (lost : Bool) : Nat :=
  let idx := key / 256
  if existsCheck s key ≠ 0 then existsCheck s key
  else if 0xA000 ≤ idx then
    let a := (hostWrite (tagOfKey key) v s).1
    if a = 0x06020000 ∨ a = 0x06010002 ∨ a = 0x06070010 then a
    else if !s.accepts w then 0x08000021
    else if lost then 0x08000020
    else if pairRefuses s w false then 0x08000022
    else a
  else match blockOf s idx with
    | some (p, inst, b) =>
      let sub := key % 256
      if sub = 4 then (if !typeFits .u8 v then 0x06070010 else if !s.accepts w then 0x08000021 else if lost then 0x08000020
        else if pairRefuses s w false then 0x08000022 else if v == .int 1 then 0 else 0x06090030)
      else if 0x10 ≤ sub ∧ sub < 0x80 then paramCheck s w b (lastParams s p inst b) (sub - 0x10) v lost
      else 0x06010002
    | none => match objRow idx (key % 256) with
      | none => 0x06020000
      | some r =>
        if r.access = .ro ∨ r.access = .const ∨ reservedConfig key = true then 0x06010002
        else if !typeFits r.ty v then 0x06070010
        else if isCommandKey key then
          (if !freeWrite key v && !s.accepts w then 0x08000021
           else if lost then 0x08000020
           else if pairRefuses s w false then 0x08000022 else 0)
        else plainCheck s w r key v lost

/-! ### Where the value goes -/

/-- A write of a commit rule waits: held by PARAM_HOLD (R66, R167), or for the next commit. A part that has no commit to come takes it at
once: a chain that is off, a channel that is off, a gallery that does not capture, an engine that does not run. -/
def awaitCommit (key : Nat) (v : Val) (s : State) : State :=
  match pierOfKey key with
  | some n =>
    if isLawKey key && s.bit (Obj.GFL_CONFIG n) 10 then { s with heldWrites := s.heldWrites ++ [(key, v)] }.setBit (Obj.GFL_STATUS n) 5 true
    else if isBlockKey key && s.bit (Obj.PIE_CONFIG n) 0 then { s with heldWrites := s.heldWrites ++ [(key, v)] }.setBit (Obj.PIE_STATUS n) 3 true
    else { s with commitWrites := s.commitWrites ++ [(key, v)] }
  | none =>
    let idle := (match chainOfKey key with | some c => !chainOn s c | none => false)
      || (match galOfKey key with | some p => !galCapture s p | none => false)
      || (match replicaAt key 0x4C10 1 24 with | some c => !converting s (Fin.ofNat 24 c) | none => false)
      || (decide (0x5100 ≤ key / 256 ∧ key / 256 < 0x5300) && !s.lgc.running)
      || (decide (0x4810 ≤ key / 256 ∧ key / 256 < 0x481C) && (drvOutput s (Fin.ofNat 12 (key / 256 - 0x4810))).isNone)
    if idle then actNow s (key, v) else { s with commitWrites := s.commitWrites ++ [(key, v)] }

/-- A word by fields while running: its immediate fields act now, the others wait for their commit or the next mode change. A write of
SRV_CONFIG waits whatever it changes: it ends the holds of R134. -/
def byField (name : String) (key new : Nat) (s : State) : State :=
  let fs := changedFields s name key new
  let imm := fs.filter fun f => f.run == .immediate
  let com := fs.filter fun f => f.run == .nextCommit
  let mde := fs.filter fun f => f.run == .nextModeChange
  let w1 := mergeFields (s.objN key) new imm
  let w2 := mergeFields w1 new com
  let s := if imm.isEmpty then s else actNow s (key, .int w1)
  let waits := name == "SRV_CONFIG" || (s.commitWrites ++ s.heldWrites).any fun c => c.1 == key
  let s := if com.isEmpty && !waits then s else awaitCommit key (.int w2) s
  if mde.isEmpty && !(s.modeWrites.any fun c => c.1 == key) then s else { s with modeWrites := s.modeWrites ++ [(key, .int new)] }

/-- The gallery's configuration word (Table 11.9): TRG_EN arms or disarms, STREAM_EN starts or ends the stream, under R265 and R269. -/
def galConfig (p : StageId) (new : Nat) (s : State) : Nat × State :=
  let key := Obj.GAL_CONFIG p
  let old := s.objN key
  let stream := bitsAt new 1 1 == 1
  let port := s.objN (Obj.GAL_DEST_PORT p)
  let rate := portRate s p port (galNodes s p).length (bitsAt new 2 4)
  if bitsAt new 6 1 == 1 && bitsAt old 6 1 == 0 && s.objN (Obj.GAL_TRG_MASK p) == 0 then (0x06090030, s)
  else if stream && (bitsAt old 1 1 == 0 || bitsAt new 2 4 != bitsAt old 2 4) && decide (600000000 < rate) then (0x08000020, rateRefused p port rate s)
  else
    let s := if s.mod.mode.running then byField "GAL_CONFIG" key (setBitsAt (setBitsAt new 1 1 (bitsAt old 1 1)) 6 1 (bitsAt old 6 1)) s
      else actNow s (key, .int (setBitsAt (setBitsAt new 1 1 (bitsAt old 1 1)) 6 1 (bitsAt old 6 1) : Nat))
    let s := if bitsAt new 6 1 = bitsAt old 6 1 then s
      else if bitsAt new 6 1 = 1 then (armTrigger p s).2
      else showGallery p ((s.setBit key 6 false).modGal p fun g => { g with armed := false, ready := false, holdoff := none })
    let s := if stream = (bitsAt old 1 1 == 1) then s
      else if stream then (enableStream p s).2
      else showGallery p ((sendDatagram p s).setBit key 1 false)
    (0, s)

/-- GAL_NODE and GAL_DEST_PORT while streaming (R269). -/
def galRate (p : StageId) (key : Nat) (v : Val) (s : State) : Option Rat :=
  if !galStream s p then none
  else
    let t := s.setObj key v
    let rate := portRate t p (t.objN (Obj.GAL_DEST_PORT p)) (galNodes t p).length (galDivider t p)
    if 600000000 < rate then some rate else none

/-- PARAM_HOLD in GFL_CONFIG or PIE_CONFIG (R66, R167): clearing it releases what is held. -/
def holdBit (n : StageId) (blocks : Bool) (new : Nat) (s : State) : State :=
  let key := if blocks then Obj.PIE_CONFIG n else Obj.GFL_CONFIG n
  let i := if blocks then 0 else 10
  if s.bit key i && bitsAt new i 1 == 0 then releaseHeld n blocks s else s.setBit key i (bitsAt new i 1 == 1)

/-- Outside the run modes a law or block value acts at once, or is held while PARAM_HOLD is set, if it is one that takes effect at a
commit. -/
def awaitOrAct (atCommit : Bool) (key : Nat) (v : Val) (s : State) : State :=
  match pierOfKey key with
  | some n =>
    if (isLawKey key && atCommit && s.bit (Obj.GFL_CONFIG n) 10) || (isBlockKey key && s.bit (Obj.PIE_CONFIG n) 0) then awaitCommit key v s
    else actNow s (key, v)
  | none => actNow s (key, v)

/-- A value by its object's rule for writes (R7, R327, R352). -/
def takeByRule (r : ObjRow) (key : Nat) (v : Val) (s : State) : State :=
  if r.run = .nextReset then { s with resetWrites := s.resetWrites ++ [(key, v)] }
  else if !s.mod.mode.running then (if isLawKey key || isBlockKey key then awaitOrAct (r.run == .nextCommit) key v s else actNow s (key, v))
  else match r.run with
    | .nextCommit => awaitCommit key v s
    | .nextModeChange => { s with modeWrites := s.modeWrites ++ [(key, v)] }
    | .byField => byField r.name key v.toInt.toNat s
    | _ => actNow s (key, v)

/-- GAL_NODE and GAL_DEST_PORT: refused where the stream's rate would be exceeded (R269). -/
def galWrite (p : StageId) (r : ObjRow) (key : Nat) (v : Val) (s : State) : Nat × State :=
  match galRate p key v s with
  | some rate => (0x08000020, rateRefused p (s.objN (Obj.GAL_DEST_PORT p)) rate s)
  | none => (0, takeByRule r key v s)

/-- A plain object takes its value. -/
def plainWrite (r : ObjRow) (key : Nat) (v : Val) (s : State) : Nat × State :=
  let n := Fin.ofNat 4 (r.replica (key / 256))
  match r.name with
  | "GAL_CONFIG" => galConfig n v.toInt.toNat s
  | "GAL_NODE" => galWrite n r key v s
  | "GAL_DEST_PORT" => galWrite n r key v s
  | "GFL_CONFIG" => (0, takeByRule r key v (holdBit n false v.toInt.toNat s))
  | "PIE_CONFIG" => (0, takeByRule r key v (holdBit n true v.toInt.toNat s))
  | _ => (0, takeByRule r key v s)

end Sys2Proof.Machine
end

