-- ==== Sys2Proof/Machine/PortOps.lean ====
section
/-!
DEFINITION. Rights and requests at the ports (chapter 14): write ownership (R330), service access (R331), the effect of an accepted write
on command objects (Tables 2.6, 8.7, 10.13, 13.12, 15.7 and others), and a request's way through the arbiter (R326, R333).
-/

namespace Sys2Proof.Machine

/-! ### Write ownership -/

/-- NET_OWNER_CLAIM CLAIM (R330). Answers the abort code. -/
def ownClaim (w : Writer) (s : State) : Nat × State :=
  match w with
  | .logic => (0x08000021, s)
  | .port c se =>
    if s.objN Obj.NET_OWNER ≠ 0 then (0x08000021, s)
    else (0, showNet ((s.setN Obj.NET_OWNER w.ownerWord).log 0x7001 [c, se]))

/-- NET_OWNER_CLAIM FORCE (R330): from a port of higher priority (Table 14.1); without a holder it is a claim. -/
def ownForce (w : Writer) (s : State) : Nat × State :=
  match w with
  | .logic => (0x08000021, s)
  | .port c _ =>
    let old := s.objN Obj.NET_OWNER
    if old = 0 then ownClaim w s
    else if old % 16 ≤ c then (0x08000021, s)
    else (0, showNet ((s.setN Obj.NET_OWNER w.ownerWord).log 0x7003 [w.ownerWord, old]))

/-- NET_OWNER_CLAIM RELEASE (R330). -/
def ownRelease (w : Writer) (s : State) : Nat × State :=
  match w with
  | .logic => (0x08000021, s)
  | .port c se =>
    if s.ownsWrites w then (0, showNet ((s.setN Obj.NET_OWNER 0).log 0x7002 [c, se])) else (0x08000021, s)

/-- NET_OWNER_CLAIM by KEY and code. -/
def ownerCommand (v : Nat) (w : Writer) (s : State) : Nat × State :=
  if v / 256 ≠ 0x5A then (0x06090030, s)
  else match v % 256 with
    | 1 => ownClaim w s
    | 2 => ownForce w s
    | 3 => ownRelease w s
    | _ => (0x06090030, s)

/-! ### Service access -/

def writerPort : Writer → Nat
  | .port c _ => c
  | .logic => 0

def writerSession : Writer → Nat
  | .port _ se => se
  | .logic => 0

/-- Reading NET_SVC_CHALLENGE (R331): a fresh random value (DESIGN CHOICE, log 4), refused while the port is blocked. -/
def readChallenge (w : Writer) (s : State) : Except Nat Val × State :=
  if s.net.blocked.any fun b => b.1 == writerPort w then (.error 0x08000022, s)
  else
    let bytes := bytesBE 32 (s.freeNat % 256 ^ 32)
    let word := w.ownerWord
    let s := s.draw.modNet fun n => { n with challenges := (word, bytes) :: n.challenges.filter fun c => c.1 != word }
    (.ok (.bytes bytes), s)

/-- What the signature of a response is taken over (R331): the challenge, MOD_SERIAL, the port code and the session number. -/
def challengeText (s : State) (w : Writer) (challenge : List Nat) : List Nat :=
  challenge ++ bytesBE 4 (s.objN Obj.MOD_SERIAL) ++ [writerPort w] ++ bytesBE 2 (writerSession w)

/-- A write to NET_SVC_RESPONSE (R331). Answers the abort code. -/
def serviceResponse (sig : List Nat) (w : Writer) (s : State) : Nat × State :=
  if sig.length ≠ 96 then (0x06070010, s)
  else
    let word := w.ownerWord
    let port := writerPort w
    let good := match s.net.challenges.find? fun c => c.1 == word with
      | some (_, ch) => Config.signatureValid (s.objN Obj.NET_SVC_KEY_ID) (challengeText s w ch ++ sig)
      | none => false
    let s := s.modNet fun n => { n with challenges := n.challenges.filter fun c => c.1 != word }
    if good && word != 0 then
      (0, showNet ((s.modNet fun n => { n with rights := (word, s.now) :: n.rights.filter fun r => r.1 != word }).log 0x7005 [port, writerSession w]))
    else
      let bad := ((s.net.invalid.find? fun e => e.1 == port).map (·.2)).getD 0 + 1
      let rest := s.net.invalid.filter fun e => e.1 != port
      let s := s.modNet fun n =>
        if 3 ≤ bad then { n with invalid := rest, blocked := (port, s.now) :: n.blocked.filter fun b => b.1 != port }
        else { n with invalid := (port, bad) :: rest }
      (0x08000021, s.log 0x7006 [port, writerSession w])

/-! ### Stores by command (R352) -/

/-- 0x1010:01 (R352): answered when the store is complete; `hold` is the HOLD voltage. -/
def storeParams (v : Nat) (hold : Rat) (w : Writer) (s : State) : Option Nat × State :=
  if s.mod.mode != .ready && s.mod.mode != .lockout then (some 0x08000022, s)
  else if v ≠ 0x65766173 then (some 0x06090030, s)
  else (none, requestStore .dictionary 0 (some w) none hold s)

/-- 0x1011:01 (Table 14.6): defaults at the next power-up. -/
def restoreDefaults (v : Nat) (s : State) : Nat × State :=
  if s.mod.mode != .ready && s.mod.mode != .lockout then (0x08000022, s)
  else if v ≠ 0x64616F6C then (0x06090030, s)
  else (0, s.modNet fun n => { n with restore := true })

/-- 0x1003:00 (R352): only 0 may be written; it clears the history. -/
def clearHistory (v : Int) (s : State) : Nat × State :=
  if v ≠ 0 then (0x06090030, s)
  else (0, (List.range 8).foldl (fun s i => s.setN (Obj.CIA_ERROR_FIELD i) 0) (s.setN Obj.CIA_ERROR_COUNT 0))

/-! ### The handover command (R421) -/

/-- H: the first zero point of the handover timebase at least 1 ms away (R420, R421). -/
def handoverInstant (s : State) : Nat :=
  let t : TbId := Fin.ofNat 8 (s.field Obj.TWN_CONFIG 3 3)
  let p := max 1 (s.objN (Obj.EDG_TB_PERIOD t))
  let z := s.edg.tb[t].lastZero
  z + ((s.now + cyclesMs - z + p - 1) / p) * p

/-- The partner's keystone reports itself ARMED. -/
def partnerArmed (s : State) : Bool := (s.twn.view.map (·.armed)).getD false

/-- TWN_CMD HANDOVER (R421): the active module in FORM, the partner ARMED and pair lock held, no return pending, with write ownership. The
handover instant is proposed to the partner. -/
def handoverCommand (w : Writer) (s : State) : Nat × State :=
  if !s.accepts w then (0x08000021, s)
  else if !isDuplex s || !s.twn.active || s.mod.mode != .form || !partnerArmed s || !s.twn.lock || s.twn.handover.isSome || s.twn.holdoff.isSome then
    (0x08000022, s)
  else
    let h := handoverInstant s
    (0, showTwin (linkSend 49 [ttCycles s h] (s.modTwn fun t => { t with handover := some (h, 0) })))

/-! ### Command objects -/

/-- EDG_TB_CMD (R174): code, value and instant; the write of the instant issues the command. -/
def tbIssue (w : Writer) (inst : Nat) (s : State) : Nat × State :=
  let code := s.objN Obj.EDG_TB_CMD_CODE
  let v := s.objI Obj.EDG_TB_CMD_VALUE
  let t := code / 256
  if 8 ≤ t then (0x06090030, s)
  else match code % 256 with
    | 1 => tbCommand (Fin.ofNat 8 t) false v inst (writerSource w) s
    | 2 => tbCommand (Fin.ofNat 8 t) true v inst (writerSource w) s
    | _ => (0x06090030, s)

/-- A command answered at once. -/
def done (r : Nat × State) : Option Nat × State := (some r.1, r.2)

/-- A value that a command object does not know. -/
def badValue (s : State) : Option Nat × State := (some 0x06090030, s)

/-- ACQ_CMD (Table 10.13). RESTORE, once taken up, is answered when its diagnosis ends (R244). -/
def acqCommand (v : Nat) (w : Writer) (s : State) : Option Nat × State :=
  if 8192 ≤ v then badValue s
  else match v % 256 with
    | 1 => done (acqSelfCal w s)
    | 2 => match idOf 24 (v / 256) with | some c => done (acqDiag c w s) | none => badValue s
    | 3 => match idOf 24 (v / 256) with
      | some c => if restoreAccepted s c w then (none, startPathDiag c (some w) s) else done (acqRestoreRefused w s)
      | none => badValue s
    | _ => badValue s

/-- SAF_CMD (Table 15.7). The switch tests that CLEAR_SOC runs are a measurement (DESIGN CHOICE, log 4). -/
def safetyCommand (v : Nat) (w : Writer) (s : State) : Nat × State :=
  if v / 256 ≠ 0x5A then (0x06090030, s)
  else match v / 16 % 16 with
    | 1 => match idOf 4 (v % 16) with | some i => clearSoc i s.freeBool w s.draw | none => (0x06090030, s)
    | 2 => restartConn (Fin.ofNat 16 (v % 16)) w s
    | _ => (0x06090030, s)

/-- Commands of the module's own pages 0x20 to 0x2F: modes, stores, code verification, time, field, twin. -/
def moduleCommand (w : Writer) (key : Nat) (v : Val) (s : State) : Option Nat × State :=
  let idx := key / 256
  let sub := key % 256
  let n := v.toInt.toNat
  let bytes := match v with | .bytes b => b | _ => []
  if key = Obj.MOD_COMMAND then done (modCommand n w s)
  else if idx = 0x2022 then (match idOf 4 sub with | some st => done (stageCommand st n w s) | none => badValue s)
  else if key = Obj.NVS_CMD then (if n = 0x5A01 then done (commitVersion w s) else badValue s)
  else if key = Obj.NVS_LOG_READ_SEQ then done (selectRecord n s)
  else if key = Obj.NVS_IMAGE_DATA then (none, imageBlock .more (s.objR Obj.NVS_HOLD_V) w s)
  else if 0x2240 ≤ idx ∧ idx < 0x2248 then
    let u : CvuId := Fin.ofNat 8 (idx - 0x2240)
    if sub = 5 then done (cvuFeed u (bytesBE 4 n) w s)
    else if n = 1 then done (cvuStart u w s) else if n = 2 then done (cvuFinish u w s) else badValue s
  else if key = Obj.TIM_CMD then
    (if n = 0x5A01 then done (stepBase 0 w s) else if n = 0x5A02 then done (stepBase 1 w s)
     else if n = 0x5A03 then (some 0, lockReview (revertRef s)) else badValue s)
  else if key = Obj.FIO_FORCE then done (fieldForce n w s)
  else if 0x2450 ≤ idx ∧ idx < 0x2454 then (if n = 1 then done (cdClear (Fin.ofNat 4 (idx - 0x2450)) s) else badValue s)
  else if key = Obj.TWN_CMD then (if n = 0x5A01 then done (handoverCommand w s) else badValue s)
  else if key = Obj.TWN_WIN_TARGET then (some 0, s.modTwn fun t => { t with winTarget := n / 256 })
  else if key = Obj.TWN_WIN_DATA then
    (if isViaduct s && s.twn.primary && linkUp s then (none, linkSend 52 (s.twn.winTarget :: bytes.map Int.ofNat) s) else (some 0x08000022, s))
  else (some 0x06020000, s)

/-- Commands of the piers, the edge generator and gate drive. -/
def edgeCommand (w : Writer) (key : Nat) (v : Val) (s : State) : Option Nat × State :=
  let idx := key / 256
  let n := v.toInt.toNat
  if 0x4000 ≤ idx ∧ idx < 0x4400 then
    (if n = 1 then done (selftestCmd (Fin.ofNat 4 ((idx - 0x4000) / 0x100)) s) else badValue s)
  else if key = Obj.EDG_RAW_ENABLE then (if n ≤ 1 then done (rawEnable (n == 1) w s) else badValue s)
  else if key = Obj.EDG_RAW_HIGH then done (rawWord false n s)
  else if key = Obj.EDG_RAW_LOW then done (rawWord true n s)
  else if key = Obj.EDG_TB_CMD_INSTANT then done (tbIssue w n s)
  else if idx = 0x4418 then (some 0, s.setObj key v)
  else if 0x4420 ≤ idx ∧ idx < 0x4438 then (if n < 64 then (some 0, staticCtrl (Fin.ofNat 24 (idx - 0x4420)) n s) else badValue s)
  else if 0x4460 ≤ idx ∧ idx < 0x4468 then (if n = 1 then done (accepted (groupClear (Fin.ofNat 8 (idx - 0x4460)) s)) else badValue s)
  else if 0x4810 ≤ idx ∧ idx < 0x481C then (if n = 1 then done (accepted (clearDesatCmd (Fin.ofNat 12 (idx - 0x4810)) s)) else badValue s)
  else if 0x4840 ≤ idx ∧ idx < 0x4844 then (if n = 1 then done (diagCmd (Fin.ofNat 4 (idx - 0x4840)) w s) else badValue s)
  else if 0x4850 ≤ idx ∧ idx < 0x4858 then
    (if n = 1 then done (accepted (clearPortCmd (Fin.ofNat 8 (idx - 0x4850)) s.freeBool s.draw)) else badValue s)
  else (some 0x06020000, s)

/-- Commands of acquisition, galleries, the logic engine, the networks, safety and the ties, and communication objects. -/
def otherCommand (w : Writer) (key : Nat) (v : Val) (s : State) : Option Nat × State :=
  let idx := key / 256
  let n := v.toInt.toNat
  let bytes := match v with | .bytes b => b | _ => []
  if key = Obj.ACQ_CMD then acqCommand n w s
  else if 0x4C60 ≤ idx ∧ idx < 0x4C70 then done (accepted (bankSwitchCmd (Fin.ofNat 16 (idx - 0x4C60)) n s))
  else if key = Obj.LGC_CMD then done (logicCommand n w s)
  else if key = Obj.LGC_CMD_INSTANT then (some 0, s.setObj key v)
  else if key = Obj.LGC_STAGE_DATA then done (stageBlock none s)
  else if key = Obj.LGC_PEEK_TAG then (if n < 131072 then (some 0, s.modLgc fun l => { l with peek := n }) else badValue s)
  else if key = Obj.NET_OWNER_CLAIM then done (ownerCommand n w s)
  else if key = Obj.NET_SVC_RESPONSE then done (serviceResponse bytes w s)
  else if key = Obj.SAF_CMD then done (safetyCommand n w s)
  else if idx = 0x1010 then storeParams n (s.objR Obj.NVS_HOLD_V) w s
  else if idx = 0x1011 then done (restoreDefaults n s)
  else if key = Obj.CIA_ERROR_COUNT then done (clearHistory v.toInt s)
  else match galOfKey key, stageIdx idx with
    | some p, _ => done (selectGalRecord p n s)
    | none, some (st, _) => if n = 1 then done (tieCloseCmd st s) else if n = 2 then (some 0, tieOpenCmd st s) else badValue s
    | none, none => (some 0x06020000, s)

/-- The effect of an accepted write to a command object: the abort code, or none where the answer comes later. -/
def commandEffect (w : Writer) (key : Nat) (v : Val) (s : State) : Option Nat × State :=
  if 0x200000 ≤ key ∧ key < 0x300000 then moduleCommand w key v s
  else if 0x400000 ≤ key ∧ key < 0x4C0000 then edgeCommand w key v s
  else otherCommand w key v s

/-- The effect of a write that has passed its checks. -/
def writeEffect (w : Writer) (key : Nat) (v : Val) (s : State) : Option Nat × State :=
  let idx := key / 256
  if 0xA000 ≤ idx then done (hostWrite (tagOfKey key) v s)
  else match blockOf s idx with
    | some (p, i, _) =>
      if key % 256 = 4 then (some 0, orderBlockReset p i s)
      else if s.mod.mode.running then (some 0, awaitCommit key v s)
      else (some 0, if s.bit (Obj.PIE_CONFIG p) 0 then awaitCommit key v s else writeBlockParam p key v s)
    | none =>
      if isCommandKey key then commandEffect w key v s
      else match objRow idx (key % 256) with
        | some r => done (plainWrite r key v s)
        | none => (some 0x06020000, s)

/-! ### A write through the arbiter -/

/-- What a refused write leaves: a refused command is logged (R30); a write lost in its tick is counted (R333). -/
def noteRefused (w winner : Writer) (key : Nat) (v : Val) (abort : Nat) (s : State) : State :=
  let code := v.toInt.toNat % 256
  let late := abort / 65536 = 0x0800
  let s := if abort = 0x08000020 then (s.bump Obj.NET_WRITES_LOST).logOnce 0x7007 0 [key, writerPort w, writerPort winner] else s
  if key = Obj.MOD_COMMAND && late then (modRefused code abort s).2
  else if key / 256 = 0x2022 && late then (cmdRefused code abort s).2
  else s

/-- A write by the dictionary's rules (R326): the abort code, or none where the answer comes later. -/
def dictWrite (w : Writer) (key : Nat) (v : Val) (lostTo : Option Writer) (s : State) : Option Nat × State :=
  match writeCheck s w key v lostTo.isSome with
  | 0 =>
    let r := writeEffect w key v s
    if r.1 = some 0 ∨ r.1 = none then (r.1, r.2.forward key (valInts v)) else r
  | a => (some a, noteRefused w (lostTo.getD w) key v a s)

/-- The island that an object belongs to (Table 0.7). -/
def ownerIsland (key : Nat) : Island :=
  let idx := key / 256
  let page := idx / 256
  if 0xA000 ≤ idx then .logic
  else match pierOfKey key with
    | some p => .pier p
    | none =>
      if page = 0x20 ∨ page = 0x58 then .keystone
      else if page = 0x24 then .abutment
      else if page = 0x28 then .link
      else if page = 0x44 ∨ page = 0x48 then .edge
      else if page = 0x4C ∨ page = 0x4D then .sample
      else if page = 0x50 then (match galOfKey key with | some p => .pier p | none => .house)
      else if page = 0x51 ∨ page = 0x52 then .logic
      else if page = 0x54 ∨ page < 0x20 ∨ page = 0x23 then .network
      else .house

/-- A write request reaches the arbiter and is answered (R328, R334); a fenced destination refuses what would be accepted (DESIGN CHOICE, log 12). -/
def writeRequest (w : Writer) (key : Nat) (v : Val) (lostTo : Option Writer) (s : State) : Option Nat × State :=
  if !s.alive .house then (some 0x06060000, s)
  else if !s.alive (ownerIsland key) && writeCheck s w key v false == 0 then (some 0x08000022, s)
  else dictWrite w key v lostTo s

/-- A read request: value or abort code. -/
def readRequest (w : Writer) (key : Nat) (s : State) : Except Nat Val × State :=
  if !s.alive .house then (.error 0x06060000, s)
  else if key = Obj.NET_SVC_CHALLENGE then readChallenge w s
  else (readObj s key, s)

/-- An answer at the port, if there is one now; a request taken up renews the session's rights. -/
def answer (w : Writer) (key : Nat) (r : Option Nat × State) : State :=
  match r.1 with
  | some a => r.2.reply w key a
  | none => r.2.renew w true

/-- The answer to a read: the value, or the abort code. -/
def answerRead (w : Writer) (key : Nat) (r : Except Nat Val × State) : State :=
  match r.1, w with
  | .ok v, .port c se => (r.2.renew w true).respond c se 2 (((w.ownerWord : Nat) : Int) :: (key : Int) :: valInts v)
  | .ok _, .logic => r.2
  | .error a, _ => r.2.reply w key a

end Sys2Proof.Machine
end

