-- ==== Sys2Proof/Machine/Dictionary.lean ====
section
/-!
DEFINITION. Commands of the dictionary and its rights (chapter 14): DICTIONARY_WRITE, ownership, service access, the communication
objects with a command of their own. A writer stands for a request that its port's protocol has delivered (DEDUCED, log 26).
-/

namespace Sys2Proof.Machine

/-- A write request of a writer, carried out and answered (R326, R328). -/
def dictReq (w : Writer) (key : Nat) (v : Val) (lostTo : Option Writer) (s : State) : State :=
  if !s.reaches w then s else answer w key (writeRequest w key v lostTo s)

/-! ### When two writes meet (R332, R333) -/

/-- The order of sources: the logic engine, then the ports by Table 14.1. -/
def writerRank : Writer → Nat
  | .logic => 0
  | .port c _ => c

/-- The writer that keeps the tick against `w`, if another does: a higher rank, or the same rank and an earlier arrival. -/
def winnerOver (w : Writer) (earlier later : List Writer) : Option Writer :=
  match earlier.find? fun r => decide (writerRank r ≤ writerRank w) with
  | some r => some r
  | none => later.find? fun r => decide (writerRank r < writerRank w)

/-- R326, R333. `earlier` and `later` are the sources of the other writes to the same object in this dictionary tick, in the order of
their arrival. -/
def execDictionaryWrite (key : Nat) (v : Val) (w : Writer) (earlier later : List Writer) (s : State) : Res :=
  .next (dictReq w key v (winnerOver w earlier later) s)

/-! ### Write ownership (R330) -/

/-- R330. -/
def execOwnershipClaim (w : Writer) (s : State) : Res := .next (dictReq w Obj.NET_OWNER_CLAIM (.int 0x5A01) none s)
/-- R330. -/
def execOwnershipForce (w : Writer) (s : State) : Res := .next (dictReq w Obj.NET_OWNER_CLAIM (.int 0x5A02) none s)
/-- R330. -/
def execOwnershipRelease (w : Writer) (s : State) : Res := .next (dictReq w Obj.NET_OWNER_CLAIM (.int 0x5A03) none s)

/-- R330: NET_OWNER_TIMEOUT ms without an accepted request of the holder. -/
def execOwnershipTimeout (s : State) : Res :=
  .next (s.on .house fun s => if s.objN Obj.NET_OWNER_TIMEOUT * cyclesMs ≤ s.since s.net.ownerAt then ownerEnds 1 s else s)

/-! ### Service access (R331) -/

/-- R331. -/
def execServiceChallengeRead (w : Writer) (s : State) : Res :=
  .next (if !s.reaches w then s else answerRead w Obj.NET_SVC_CHALLENGE (readRequest w Obj.NET_SVC_CHALLENGE s))

/-- R331. -/
def execServiceResponse (signature : List Nat) (w : Writer) (s : State) : Res :=
  .next (dictReq w Obj.NET_SVC_RESPONSE (.bytes signature) none s)

/-- R331: NET_SVC_TIMEOUT s without a request of the session. -/
def execServiceAccessTimeout (w : Writer) (s : State) : Res :=
  .next (s.on .house fun s =>
    let past (r : Nat × Nat) : Bool := r.1 == w.ownerWord && decide (s.objN Obj.NET_SVC_TIMEOUT * cyclesSec ≤ s.since r.2)
    showNet (s.modNet fun n => { n with rights := n.rights.filter fun r => !past r }))

/-- R331: 60 s after the third invalid response on a port. -/
def execChallengeBlockEnd (port : Nat) (s : State) : Res :=
  .next (s.on .house fun s =>
    s.modNet fun n => { n with blocked := n.blocked.filter fun b => !(b.1 == port && decide (60 * cyclesSec ≤ s.since b.2)) })

/-! ### Communication objects with a command (R351, R352) -/

/-- R352: 0x1010:01. `hold` is the HOLD voltage at the hold-up check. -/
def execStoreParameters (hold : Rat) (w : Writer) (s : State) : Res :=
  .next (if !s.reaches w then s
    else answer w Obj.CIA_STORE
      (if !s.alive .house then (some 0x06060000, s)
       else match writeCheck s w Obj.CIA_STORE (.int 0x65766173) false with
        | 0 => storeParams 0x65766173 hold w s
        | a => (some a, s)))

/-- R351: 0x1011:01. -/
def execRestoreDefaults (w : Writer) (s : State) : Res := .next (dictReq w Obj.CIA_RESTORE (.int 0x64616F6C) none s)

/-- R352: 0 to 0x1003:00. -/
def execErrorHistoryClear (w : Writer) (s : State) : Res := .next (dictReq w Obj.CIA_ERROR_COUNT (.int 0) none s)

end Sys2Proof.Machine
end

