-- ==== Sys2Proof/Machine/Network.lean ====
section
/-!
DEFINITION. The ports (chapter 14): CANopen on CAN A and CAN B, the service protocol, the host SPI port, the backbone switch with its bypass
relays, and links.
-/

namespace Sys2Proof.Machine

/-- The source a CAN port is to the dictionary: session 0 of its port (R329). -/
def canWriter (c : Fin 2) : Writer := .port (canPort c) 0

/-- A CAN port takes part in communication: in use, and booted up (Table 14.4). -/
def canRuns (s : State) (c : Fin 2) : Bool := canOn s c && s.net.can[c].booted

/-! ### NMT (R336) -/

/-- R336. -/
def execNmtStart (c : Fin 2) (s : State) : Res := .next (if canRuns s c then canGo c 5 s else s)
/-- R336. -/
def execNmtStop (c : Fin 2) (s : State) : Res := .next (if canRuns s c then canGo c 4 s else s)
/-- R336. -/
def execNmtEnterPreop (c : Fin 2) (s : State) : Res := .next (if canRuns s c then canGo c 127 s else s)

/-- Whether a communication object is one of this port's: its PDOs, or an object that serves both ports (R351). -/
def portObject (s : State) (c : Fin 2) (key : Nat) : Bool :=
  match pdoOf (key / 256) with
  | some (rx, i) => s.objN (Obj.NET_PDO_PORT (if rx then i else 16 + i)) == c.val
  | none => true

/-- Reset communication (R336, R352): the port's communication objects written since take effect; boot-up. -/
def resetComm (c : Fin 2) (s : State) : State :=
  let mine := s.resetWrites.filter fun x => portObject s c x.1
  let s := { s with objs := overlay s.objs mine, resetWrites := s.resetWrites.filter fun x => !portObject s c x.1 }
  bootUp c s

/-- R336. -/
def execNmtResetNode (c : Fin 2) (s : State) : Res := .next (if canRuns s c then resetComm c s else s)
/-- R336. -/
def execNmtResetComm (c : Fin 2) (s : State) : Res := .next (if canRuns s c then resetComm c s else s)

/-! ### SDO and USDO (R334, R335) -/

/-- Length of an object's value in bytes; 0 for strings and domains. -/
def valueSize (s : State) (key : Nat) : Nat :=
  let idx := key / 256
  if 0xA000 ≤ idx then (match findTag s (tagOfKey key) with | some x => (typeBits x.defn.type + 7) / 8 | none => 4)
  else match objRow idx (key % 256) with
    | some r => r.ty.size
    | none => 4

/-- A value as bytes, most significant first. -/
def valueBytes (s : State) (key : Nat) (v : Val) : List Nat :=
  match v with
  | .int z => bytesBE (valueSize s key) (z % 256 ^ valueSize s key).toNat
  | .real q => bytesBE 4 (f32Bits q)
  | .nonfinite => bytesBE 4 quietNaN
  | .bytes b => b

/-- Bytes of an expedited transfer and of one segment: 4 and 7 on CAN A, 56 and 60 on CAN B (PRESUMED, log 27). -/
def sdoShort (c : Fin 2) : Nat := if c = 0 then 4 else 56
def sdoSegment (c : Fin 2) : Nat := if c = 0 then 7 else 60

/-- An SDO transfer ends with an abort. -/
def sdoAbort (c : Fin 2) (key code : Nat) (s : State) : State :=
  (s.modCan c fun x => { x with sdo := none }).reply (canWriter c) key code

/-- A segmented write has come in whole. -/
def wholeValue (all : List Nat) (v : Val) : Val := match v with | .bytes _ => .bytes all | v => v

/-- One segment of the transfer that runs (Table 14.4). -/
def sdoNext (c : Fin 2) (x : SdoSt) (toggle : Bool) (bytes : List Nat) (last : Bool) (v : Val) (s : State) : State :=
  let w := canWriter c
  if toggle != x.toggle then sdoAbort c x.key 0x05030000 s
  else if x.write then
    let all := x.bytes ++ bytes
    if last then
      (if all.length ≠ x.total then sdoAbort c x.key 0x06070010 s
       else answer w x.key (writeRequest w x.key (wholeValue all v) none (s.modCan c fun y => { y with sdo := none })))
    else
      ((s.modCan c fun y => { y with sdo := some { x with bytes := all, toggle := !toggle, at_ := s.now } }).renew w true).respond
        (canPort c) 0 3 [w.ownerWord, x.key, all.length]
  else
    let rest := x.bytes.drop (sdoSegment c)
    let s := s.modCan c fun y => { y with sdo := if rest.isEmpty then none else some { x with bytes := rest, toggle := !toggle, at_ := s.now } }
    (s.renew w true).respond (canPort c) 0 3 (((w.ownerWord : Nat) : Int) :: (x.key : Int) :: (x.bytes.take (sdoSegment c)).map Int.ofNat)

/-- A read: expedited, or the begin of a segmented transfer. -/
def sdoRead (c : Fin 2) (key : Nat) (s : State) : State :=
  let w := canWriter c
  let r := readRequest w key (s.modCan c fun x => { x with sdo := none })
  match r.1 with
  | .error _ => answerRead w key r
  | .ok v =>
    let b := (valueBytes s key v).reverse
    let b := match v with | .bytes b => b | _ => b
    if b.length ≤ sdoShort c then answerRead w key r
    else
      ((r.2.modCan c fun x => { x with sdo := some ⟨key, false, b, b.length, false, s.now⟩ }).renew w true).respond
        (canPort c) 0 3 [w.ownerWord, key, b.length]

/-- R335, Table 14.4: the SDO server of CAN A, the USDO server of CAN B; a stopped port serves none. A new request ends the transfer that
runs. -/
def execSdoRequest (c : Fin 2) (r : SdoReq) (s : State) : Res :=
  let w := canWriter c
  .next (if !canRuns s c || s.net.can[c].st == 4 then s
    else match r with
    | .read key => sdoRead c key s
    | .write key v => answer w key (writeRequest w key v none (s.modCan c fun x => { x with sdo := none }))
    | .writeInit key length =>
      ((s.modCan c fun x => { x with sdo := some ⟨key, true, [], length, false, s.now⟩ }).renew w true).respond
        (canPort c) 0 3 [w.ownerWord, key, 0]
    | .segment toggle bytes last v =>
      (match s.net.can[c].sdo with
       | some x => sdoNext c x toggle bytes last v s
       | none => sdoAbort c 0 0x05040001 s)
    | .block => sdoAbort c 0 0x06010000 s
    | .abort => s.modCan c fun x => { x with sdo := none })

/-- R334: more than 1,000 ms between segments. -/
def execSdoTimeout (c : Fin 2) (s : State) : Res :=
  .next (if !canRuns s c then s
    else match s.net.can[c].sdo with
    | some x => if 1000 * cyclesMs < s.since x.at_ then sdoAbort c x.key 0x05040000 s else s
    | none => s)

/-! ### PDOs (R337) -/

/-- The port of a PDO: CAN A, CAN B or neither. -/
def pdoPort (s : State) (rx : Bool) (i : Fin 16) : Option (Fin 2) :=
  match s.objN (Obj.NET_PDO_PORT (if rx then i.val else 16 + i.val)) with
  | 0 => some 0
  | 1 => some 1
  | _ => none

/-- The keys a mapping names, in order. -/
def mappedKeys (s : State) (base : Nat) : List Nat := (List.range (s.objN base)).map fun j => s.objN (base + 1 + j) / 256

/-- A PDO is in use: its COB-ID valid (CiA 301: bit 31 clear). -/
def pdoValid (s : State) (cob : Nat) : Bool := bitsAt (s.objN cob) 31 1 == 0

/-- The mapped writes of a received PDO, each judged alone (R337). -/
def applyRpdo (i : Fin 16) (c : Fin 2) (data : List Val) (s : State) : State :=
  ((mappedKeys s (Obj.CIA_RPDO_MAP_COUNT i)).zip data).foldl (fun s kv =>
    let r := writeRequest (canWriter c) kv.1 kv.2 none s
    match r.1 with
    | some 0 => r.2.renew (canWriter c) true
    | none => r.2.renew (canWriter c) true
    | some a => ((r.2.renew (canWriter c) false).bump Obj.NET_ABORTS).logOnce 0x7010 0 [i.val + 1, kv.1, a]) s

/-- R337. A synchronous RPDO waits for the next SYNC; one whose length is not that of its mapping is not applied. -/
def execRpdoReceived (i : Fin 16) (data : List Val) (s : State) : Res :=
  .next (match pdoPort s true i with
    | none => s
    | some c =>
      if !canRuns s c || s.net.can[c].st != 5 || !pdoValid s (Obj.CIA_RPDO_COB i) then s
      else if data.length ≠ s.objN (Obj.CIA_RPDO_MAP_COUNT i) then s
      else if s.objN (Obj.CIA_RPDO_TYPE i) ≤ 240 then s.modNet fun n => { n with rpdoWait := n.rpdoWait.set i (some data) }
      else applyRpdo i c data s)

/-- What a TPDO would carry now: its mapped objects read in one dictionary tick (R337). -/
def tpdoData (s : State) (i : Fin 16) : List Int :=
  (mappedKeys s (Obj.CIA_TPDO_MAP_COUNT i)).flatMap fun k => match readObj s k with | .ok v => valInts v | .error _ => []

/-- A TPDO can be sent by this port now. -/
def tpdoReady (s : State) (i : Fin 16) (c : Fin 2) : Bool :=
  canSends s c && s.net.can[c].booted && s.net.can[c].st == 5 && s.alive .house && pdoValid s (Obj.CIA_TPDO_COB i)

/-- A TPDO goes out. -/
def sendTpdo (i : Fin 16) (c : Fin 2) (s : State) : State :=
  let d := tpdoData s i
  (s.modNet fun n => { n with tpdoAt := n.tpdoAt.set i s.now, tpdoLast := n.tpdoLast.set i d, syncs := n.syncs.set i 0 }).send
    (canPort c) 32 ((i.val + 1 : Int) :: d)

/-- R337: an event-driven TPDO (types 254 and 255) at its transmission instant: its event timer has run down, or a mapped value has
changed; not within its inhibit time. -/
def execTpdoTransmit (i : Fin 16) (s : State) : Res :=
  .next (match pdoPort s false i with
    | none => s
    | some c =>
      let gap := s.since s.net.tpdoAt[i]
      let timer := s.objN (Obj.CIA_TPDO_TIMER i)
      let due := (timer != 0 && decide (timer * cyclesMs ≤ gap)) || tpdoData s i != s.net.tpdoLast[i]
      let free := decide (s.objN (Obj.CIA_TPDO_INHIBIT i) * 100 * 4096 ≤ gap * 10)
      if tpdoReady s i c && decide (254 ≤ s.objN (Obj.CIA_TPDO_TYPE i)) && due && free then sendTpdo i c s else s)

/-- What a SYNC does with one RPDO and one TPDO of the port. -/
def syncPdo (c : Fin 2) (s : State) (i : Fin 16) : State :=
  let s := match s.net.rpdoWait[i], pdoPort s true i with
    | some d, some p => if p = c then applyRpdo i c d (s.modNet fun n => { n with rpdoWait := n.rpdoWait.set i none }) else s
    | _, _ => s
  if pdoPort s false i = some c && tpdoReady s i c then
    let n := s.net.syncs[i] + 1
    let s := s.modNet fun x => { x with syncs := x.syncs.set i n }
    let ty := s.objN (Obj.CIA_TPDO_TYPE i)
    if ty = 0 then (if tpdoData s i != s.net.tpdoLast[i] then sendTpdo i c s else s)
    else if ty ≤ 240 ∧ ty ≤ n then sendTpdo i c s
    else s
  else s

/-- R335: SYNC applies waiting synchronous RPDOs and sends the synchronous TPDOs that are due: type 0 after a change, types 1 to 240 at every
so many SYNCs. -/
def execCanSyncReceived (c : Fin 2) (s : State) : Res :=
  .next (if canRuns s c && s.net.can[c].st == 5 then (List.finRange 16).foldl (syncPdo c) s else s)

/-! ### Heartbeats and bus-off (R335, R338) -/

/-- R335: the producer heartbeat, every 0x1017 ms. -/
def execHeartbeatProduce (c : Fin 2) (s : State) : Res :=
  let t := s.objN Obj.CIA_HB_PRODUCER
  .next (if canSends s c && s.net.can[c].booted && t != 0 && decide (t * cyclesMs ≤ s.since s.net.can[c].hbAt) then
      (s.modCan c fun x => { x with hbAt := s.now }).send (canPort c) 33 [s.objN Obj.MOD_NODE_NUMBER, s.net.can[c].st]
    else s)

/-- Node and time of a consumer entry of 0x1016. -/
def hbNode (s : State) (e : Fin 4) : Nat := bitsAt (s.objN (Obj.CIA_HB_CONSUMER e)) 16 8
def hbTime (s : State) (e : Fin 4) : Nat := bitsAt (s.objN (Obj.CIA_HB_CONSUMER e)) 0 16

/-- R338: supervision of an entry restarts. -/
def execHeartbeatReceived (c : Fin 2) (node : Nat) (s : State) : Res :=
  .next (if canRuns s c then
      s.modNet fun n => { n with heard := Vector.ofFn fun e => if hbNode s e = node ∧ hbTime s e ≠ 0 then some (s.now, canPort c) else n.heard[e] }
    else s)

/-- R338: no heartbeat within the entry's time. -/
def execHeartbeatConsumerTimeout (e : Fin 4) (s : State) : Res :=
  .next (s.on .network fun s =>
    match s.net.heard[e] with
    | some (t, p) =>
      if hbTime s e ≠ 0 ∧ hbTime s e * cyclesMs < s.since t then
        ((s.modNet fun n => { n with heard := n.heard.set e none }).log 0x7009 [p, hbNode s e]).setBit Obj.CIA_ERROR_REGISTER 4 true
      else s
    | none => s)

/-- R338, R330: bus-off; the port stops transmitting, and its ownership ends. -/
def execCanBusOff (c : Fin 2) (s : State) : Res :=
  .next (if canOn s c then
      let s := s.modCan c fun x => { x with busOff := true, sdo := none }
      let s := (s.setN (Obj.NET_CAN_STATE c.val) 2).log 0x7008 [canPort c, 2]
      if s.objN Obj.NET_OWNER = canPort c then ownerEnds 4 s else s
    else s)

/-- R338: recovery after 128 occurrences of 11 recessive bits; boot-up. -/
def execCanBusOffRecovery (rd : Measured (Fin 2) Nat) (s : State) : Res :=
  .next (if s.net.can[rd.unit].busOff && s.alive .network && decide (128 ≤ rd.val) then
      let s := s.modCan rd.unit fun x => { x with busOff := false }
      let s := (s.setN (Obj.NET_CAN_STATE rd.unit.val) 0).log 0x7008 [canPort rd.unit, 0]
      if s.net.can[rd.unit].booted then bootUp rd.unit s else s
    else s)

/-! ### The service protocol (R340 to R342) -/

/-- The service protocol is accepted on a port: its link is up and SERVICE_EN set (Table 14.11); E1 and E2 count together. -/
def svcServed (s : State) (p : Nat) : Bool :=
  portUp s p &&
    match p with
    | 2 => (s.net.link[(0 : Fin 4)] && s.bit (Obj.NET_PORT_CFG 0) 2) || (s.net.link[(1 : Fin 4)] && s.bit (Obj.NET_PORT_CFG 1) 2)
    | 3 => s.bit (Obj.NET_PORT_CFG 2) 2
    | 4 => s.bit (Obj.NET_PORT_CFG 3) 2
    | _ => false

def State.modSession (s : State) (id : Nat) (f : SessionSt → SessionSt) : State :=
  s.modNet fun n => { n with sessions := n.sessions.map fun x => if x.id = id then f x else x }

/-- A request that the protocol itself turns away. -/
def svcAbort (port session code : Nat) (s : State) : State := (s.noteAbort port 0 code).respond port session 1 [port + 16 * session, 0, code]

/-- R341: numbers 1 to 8 that no session holds. -/
def freeSession (s : State) : Option Nat := ((List.range 8).map (· + 1)).find? fun i => !(s.net.sessions.any fun x => x.id == i)

/-- R341: OPEN creates a session and answers its number; a ninth is refused. The lowest free number is taken (DESIGN CHOICE, log 28). -/
def execSvcOpen (port seq : Nat) (s : State) : Res :=
  .next (if !svcServed s port then s
    else match freeSession s with
    | none => svcAbort port 0 0x05040005 s
    | some id =>
      let x : SessionSt := { id := id, port := port, seq := seq % 4294967296, lastAt := s.now, reply := [], sets := [], partial_ := none }
      let s := s.modNet fun n => { n with sessions := n.sessions ++ [x] }
      let s := (s.setN Obj.NET_SESSIONS s.net.sessions.length).log 0x700E [port, id, 0]
      s.respond port id 4 [id])

/-- A request within a session (R341): the next number is processed, the last one is answered again from store, any other is refused. -/
def svcRequest (h : SvcHead) (f : SessionSt → State → State) (s : State) : State :=
  if !svcServed s h.port then s
  else match s.net.sessions.find? fun x => x.id == h.session && x.port == h.port with
    | none => svcAbort h.port h.session 0x05040001 s
    | some x =>
      if h.seq = (x.seq + 1) % 4294967296 then f x (s.modSession x.id fun y => { y with seq := h.seq, lastAt := s.now, reply := [] })
      else if h.seq = x.seq then
        let s := s.modSession x.id fun y => { y with lastAt := s.now }
        if x.reply.isEmpty then s else s.send h.port 5 x.reply
      else (s.noteAbort h.port 0 0x05040001).send h.port 1 [h.port + 16 * h.session, 0, 0x05040001]

def svcWriter (x : SessionSt) : Writer := .port x.port x.id

/-- R341. -/
def execSvcClose (h : SvcHead) (s : State) : Res :=
  .next (svcRequest h (fun x s => sessionEnds x.id 1 (s.reply (svcWriter x) 0 0)) s)

/-- R341. -/
def execSvcKeepalive (h : SvcHead) (s : State) : Res := .next (svcRequest h (fun x s => s.reply (svcWriter x) 0 0) s)

/-- R340. -/
def execSvcRead (h : SvcHead) (key : Nat) (s : State) : Res :=
  .next (svcRequest h (fun x s => answerRead (svcWriter x) key (readRequest (svcWriter x) key s)) s)

/-- R340. -/
def execSvcWrite (h : SvcHead) (key : Nat) (v : Val) (s : State) : Res :=
  .next (svcRequest h (fun x s => answer (svcWriter x) key (writeRequest (svcWriter x) key v none s)) s)

/-- READ_SEG of Table 14.5: up to 1,024 bytes of a value from an offset; beyond its end there is no data. -/
def readSeg (port session key offset : Nat) (s : State) : State :=
  let w : Writer := .port port session
  let r := readRequest w key s
  match r.1 with
  | .error _ => answerRead w key r
  | .ok v =>
    let b := valueBytes s key v
    if b.length ≤ offset then r.2.reply w key 0x08000024
    else (r.2.renew w true).respond port session 3
      (((w.ownerWord : Nat) : Int) :: (key : Int) :: (offset : Int) :: ((b.drop offset).take 1024).map Int.ofNat)

/-- WRITE_SEG of Table 14.5: segments follow each other from offset 0; the last one writes the value. `part` is what has come so far, `keep`
stores it. -/
def writeSeg (w : Writer) (part : Option (Nat × List Nat)) (keep : Option (Nat × List Nat) → State → State) (key offset : Nat) (bytes : List Nat)
    (last : Bool) (v : Val) (s : State) : State :=
  let have_ : List Nat := match part with | some (k, b) => if offset ≠ 0 ∧ k = key then b else [] | none => []
  if have_.length ≠ offset then s.reply w key 0x05040001
  else if 1024 < bytes.length then s.reply w key 0x06070010
  else
    let all := have_ ++ bytes
    if last then answer w key (writeRequest w key (wholeValue all v) none (keep none s))
    else (keep (some (key, all)) s).reply w key 0

/-- R340. -/
def execSvcReadSeg (h : SvcHead) (key offset : Nat) (s : State) : Res :=
  .next (svcRequest h (fun x s => readSeg x.port x.id key offset s) s)

/-- R340. -/
def execSvcWriteSeg (h : SvcHead) (key offset : Nat) (bytes : List Nat) (last : Bool) (v : Val) (s : State) : Res :=
  .next (svcRequest h (fun x s =>
    writeSeg (svcWriter x) x.partial_ (fun p s => s.modSession x.id fun y => { y with partial_ := p }) key offset bytes last v s) s)

/-- R342: a set's limits; the abort code of the first that fails. -/
def setCheck (s : State) (ms : Nat) (keys : List Nat) : Nat :=
  if 1000 < ms ∨ 64 < keys.length then 0x06090030
  else match keys.findSome? fun k => match readObj s k with | .error a => some a | .ok _ => none with
    | some a => a
    | none => if 1400 < (keys.map (valueLength s)).sum then 0x06090030 else 0
where
  valueLength (s : State) (k : Nat) : Nat := match readObj s k with | .ok v => (valueBytes s k v).length | .error _ => 0

/-- R342: a period of 0 deletes the set. -/
def execSvcSubscribe (h : SvcHead) (set : Fin 8) (ms : Nat) (keys : List Nat) (s : State) : Res :=
  .next (svcRequest h (fun x s =>
    let w := svcWriter x
    let rest (y : SessionSt) : List ProcSet := y.sets.filter fun p => p.set != set.val
    if !s.alive .house then s.reply w 0 0x06060000
    else if ms = 0 then (s.modSession x.id fun y => { y with sets := rest y }).reply w 0 0
    else match setCheck s ms keys with
      | 0 => (s.modSession x.id fun y => { y with sets := ⟨set.val, ms, keys, 0, s.now⟩ :: rest y }).reply w 0 0
      | a => s.reply w 0 a) s)

/-- R341: NET_SESSION_TIMEOUT ms without a datagram. -/
def execSessionTimeout (session : Nat) (s : State) : Res :=
  .next (s.on .network fun s =>
    match s.net.sessions.find? fun x => x.id == session with
    | some x => if s.objN Obj.NET_SESSION_TIMEOUT * cyclesMs ≤ s.since x.lastAt then sessionEnds session 2 s else s
    | none => s)

/-- R342, R19: the datagram of a set at a whole multiple of its period in module time, once for each, at every second one from throttle
step 1 (Table 19.6); one sent after its instant counts as late. -/
def execProcessSetSend (port session : Nat) (set : Fin 8) (s : State) : Res :=
  .next (match s.net.sessions.find? fun x => x.id == session && x.port == port with
    | none => s
    | some x =>
      match x.sets.find? fun p => p.set == set.val with
      | none => s
      | some p =>
        let turn := s.now / (p.ms * cyclesMs)
        let lateness := s.now - turn * (p.ms * cyclesMs)
        if !portUp s x.port || !s.alive .house || decide (turn * (p.ms * cyclesMs) ≤ p.sentAt)
            || (decide (1 ≤ s.objN Obj.THM_THROTTLE_STEP) && turn % 2 == 1) then s
        else
          let vals := p.keys.flatMap fun k => match readObj s k with | .ok v => valInts v | .error _ => []
          let s := s.send x.port 6 (((session : Nat) : Int) :: (set.val : Int) :: (p.seq : Int) :: (s.now : Int) :: vals)
          let s := s.modSession session fun y => { y with sets := y.sets.map fun q => if q.set = set.val then { q with seq := q.seq + 1, sentAt := s.now } else q }
          if lateness = 0 then s else (s.bump Obj.NET_LATE_TX).logOnce 0x700D 1 [1, lateness])

/-! ### Host SPI (R343, R344) -/

/-- R343, R344. The response is ready (RDY_N low) once it stands in `spiReply`. -/
def execSpiFrameReceived (crcOk : Bool) (seq : Nat) (r : SpiReq) (s : State) : Res :=
  let w : Writer := .port 1 0
  .next (s.on .house fun s =>
    let s := s.modNet fun n => { n with spiReply := none }
    let again : Bool := s.net.spiSeq == some seq
    let next_ : Bool := match s.net.spiSeq with | none => true | some q => seq == (q + 1) % 4294967296
    if !crcOk then (s.modNet fun n => { n with spiReply := some [0xFF] }).send 1 7 [0xFF]
    else if again then (if s.net.spiLast.isEmpty then s else (s.modNet fun n => { n with spiReply := some n.spiLast }).send 1 5 s.net.spiLast)
    else if !next_ then
      let d : List Int := [1, 0, 0x05040001]
      ((s.noteAbort 1 0 0x05040001).modNet fun n => { n with spiReply := some d }).send 1 1 d
    else
      let s := s.modNet fun n => { n with spiSeq := some seq, spiLast := [] }
      match r with
      | .read key => answerRead w key (readRequest w key s)
      | .write key v => answer w key (writeRequest w key v none s)
      | .readSeg key offset => readSeg 1 0 key offset s
      | .writeSeg key offset bytes last v =>
        writeSeg w s.net.spiPartial (fun p s => s.modNet fun n => { n with spiPartial := p }) key offset bytes last v s
      | .keepalive => s.reply w 0 0
      | .other => s.reply w 0 0x05040001)

/-- R344: the host clocks a response frame; `ready`: RDY_N has fallen. Otherwise it reads type 0x00 and the request stays pending. -/
def execSpiResponseRead (ready : Bool) (s : State) : Res :=
  .next (s.on .house fun s =>
    match ready, s.net.spiReply with
    | true, some d => (s.modNet fun n => { n with spiReply := none }).send 1 8 d
    | _, _ => s.send 1 8 [0])

/-! ### Backbone and links (R340, R345 to R347) -/

/-- R346: the switch is ready at the end of ADIT; the relays are energised. -/
def execBypassOpen (s : State) : Res :=
  .next (s.on .network fun s => if s.mod.mode == .halt || (s.mod.mode == .adit && !s.mod.imageStarted) then s else setBypass false 0 s)

/-- R347, R281, R346, R440: a link comes up only with the network PLL locked, at E1 and E2 with the bypass open, at E3 and E4 with PHY die 2
supplied. -/
def execEthLinkChange (p : Fin 4) (up : Bool) (speed : Nat) (s : State) : Res :=
  .next (s.on .network fun s =>
    let can := s.clk.netLocked && (if p.val < 2 then !s.net.bypass else !s.sup.shed)
    if up && !can then s else setLink p up speed s)

/-- The module's IPv4 address at a port code 2 to 4 (R347). -/
def ipAddress (s : State) (port : Nat) : Nat :=
  let a := s.objN (Obj.NET_IP_ADDR (port - 2))
  if a = 0 then 0xA9FE4800 + s.objN Obj.MOD_NODE_NUMBER else a

/-- TWN_PAIR_IP, which the active module of a duplex pair answers for (R419). -/
def pairAddress (s : State) : Option Nat :=
  let a := s.objN Obj.TWN_PAIR_IP
  if s.twn.mode == 2 && s.twn.active && a != 0 then some a else none

/-- R340, R419. -/
def execArpRequest (port ip : Nat) (s : State) : Res :=
  .next (if portUp s port && (ip == ipAddress s port || (port == 2 && pairAddress s == some ip)) then s.send port 34 [ip] else s)

/-- R340. -/
def execIcmpEchoRequest (port : Nat) (data : List Nat) (s : State) : Res :=
  .next (if portUp s port then s.send port 35 (data.map Int.ofNat) else s)

/-- A port of the switch can take a frame out: E1 and E2 with a link, the internal port always. -/
def switchUp (s : State) (p : Nat) : Bool :=
  match p with
  | 0 => s.net.link[(0 : Fin 4)]
  | 1 => s.net.link[(1 : Fin 4)]
  | _ => true

/-- R345: learning, forwarding to the port of a known address, flooding of multicast and of unknown addresses. A PTP event frame goes into
the highest queue, any other into that of its priority. With 256 addresses learnt no further one is learnt (DESIGN CHOICE, log 29). -/
def execSwitchFrameForward (f : EthFrame) (s : State) : Res :=
  .next (if !s.alive .network || s.net.bypass || 2 < f.ingress || !switchUp s f.ingress then s
    else
      let rest := s.net.macs.filter fun m => m.1 != f.src
      let s := if rest.length < 256 then s.modNet fun n => { n with macs := (f.src, f.ingress) :: rest } else s
      let others := [0, 1, 2].filter fun p => p != f.ingress
      let out : List Nat := if f.multicast then others
        else match s.net.macs.find? fun m => m.1 == f.dst with
          | some (_, p) => others.filter fun q => q == p
          | none => others
      (out.filter (switchUp s)).foldl (fun (s : State) (p : Nat) => s.send 2 25 [p, boolNat f.ptp, f.pcp, f.src, f.dst]) s)

end Sys2Proof.Machine
end

