-- ==== Sys2Proof/Machine/Twin.lean ====
section
/-!
DEFINITION. Chapter 17: the Clauz link (R402), pair lock (R405, R406), the secondary's window (R407), duplex comparison (R410 to R412), the
interlock (R413 to R416), arbitration (R417, R418), take-over (R419), return and handover (R420, R421).
-/

namespace Sys2Proof.Machine

/-! ### The link -/

/-- A lane of the link. -/
def setLane (l : Fin 2) (b : Bool) (s : State) : State := s.modTwn fun t => { t with lanes := t.lanes.set l b }

/-- R403: what the module sends of itself at link-up. -/
def ownIdentity (s : State) : List Int :=
  [s.objN Obj.MOD_SERIAL, boolNat s.twn.primary, s.twn.mode, s.objN Obj.MOD_FW_VERSION, configCheck s, s.objN Obj.LGC_PROG_CHECK,
   s.objN Obj.TIM_BOOT_COUNT, boolNat (s.bit Obj.TIM_REF_CFG 0)]

/-- R402, R403: the link comes up on the lanes named; its latency is a measurement (DESIGN CHOICE, log 4). -/
def execClauzLinkUp (id : PartnerId) (lanes : Vector Bool 2) (s : State) : Res :=
  .next (s.on .link fun s =>
    let n := boolNat lanes[(0 : Fin 2)] + boolNat lanes[(1 : Fin 2)]
    if s.twn.link ≠ 0 ∨ n = 0 then s
    else
      let s := s.modTwn fun t => { t with link := n + 1, lanes := lanes, partner := some id }
      let s := ((s.setN Obj.TWN_PARTNER_SERIAL id.serial).setN Obj.TWN_PARTNER_FW id.fw).setR Obj.TWN_LINK_LATENCY (r32 s.freeReal)
      let s := s.draw.log 0xA001 [(n : Nat) + 1, (boolNat lanes[(0 : Fin 2)] + 2 * boolNat lanes[(1 : Fin 2)] : Nat)]
      showTwin (lockReview (pairExamine (linkSend 44 (ownIdentity s) s))))

/-- R402: no valid word on either lane for 800 ns, or three consecutive frames that failed their check: the link is down. -/
def execClauzLinkDown (s : State) : Res := .next (s.on .link linkFalls)

/-- R402: one lane is lost; traffic continues on the other. -/
def execClauzLaneLost (lane : Fin 2) (s : State) : Res :=
  .next (s.on .link fun s =>
    if s.twn.link = 3 then showTwin ((setLane lane false (s.modTwn fun t => { t with link := 2 })).log 0xA002 [lane.val]) else s)

/-- R402: the lost lane returns. -/
def execClauzLaneRegained (lane : Fin 2) (s : State) : Res :=
  .next (s.on .link fun s =>
    if s.twn.link = 2 && !s.twn.lanes[lane] then
      showTwin ((setLane lane true (s.modTwn fun t => { t with link := 3 })).log 0xA002 [lane.val])
    else s)

/-! ### Pair lock -/

/-- R406: the secondary restarts its eight timebases on the grid of TT. -/
def restartTimebases (s : State) : State :=
  let s := allTbs.foldl (fun (s : State) (t : TbId) => s.modTb t fun x => { x with running := false }) s
  (s.modEdg fun e => { e with loadedAt := some s.now }).modAcq fun a => { a with timer := .replicate 4 none }

/-- R405: all conditions have held for 10 ms and the grid phase, in 1/32 core cycle, is measured. -/
def execPairLockRegained (phase : Int) (s : State) : Res :=
  .next (s.on .edge fun s =>
    match s.twn.lockFrom with
    | none => s
    | some t =>
      if s.twn.mode = 0 ∨ s.twn.lock ∨ (lockFault s).isSome ∨ s.since t < 10 * cyclesMs then s
      else
        let s := (s.modTwn fun x => { x with lock := true, phase := phase, lockFrom := none }).log 0xA005 [0]
        let s := if s.twn.primary then s else s.setObj Obj.TWN_GRID_PHASE (.int phase)
        showTwin (if !s.twn.primary && !s.mod.mode.running then restartTimebases s else s))

/-! ### The secondary's objects (R407) -/

/-- R407: a read or write of TWN_WIN_DATA on the primary. It goes to the secondary, whose answer comes back; a write is subject to the primary's
write ownership. -/
def execPartnerWindowAccess (op : WindowOp) (w : Writer) (s : State) : Res :=
  .next (
    if !s.reaches w then s
    else if !s.alive .house then s.reply w Obj.TWN_WIN_DATA 0x06060000
    else if !isViaduct s || !s.twn.primary || !linkUp s || !s.alive .link then s.reply w Obj.TWN_WIN_DATA 0x08000022
    else match op with
      | .read a v =>
        let s := linkSend 52 [s.twn.winTarget] s
        if a = 0 then answerRead w Obj.TWN_WIN_DATA (.ok v, s) else s.reply w Obj.TWN_WIN_DATA a
      | .write v a =>
        if !s.accepts w then s.reply w Obj.TWN_WIN_DATA 0x08000021
        else (linkSend 53 ((s.twn.winTarget : Int) :: valInts v) s).reply w Obj.TWN_WIN_DATA a)

/-! ### ARMED and the hold-off -/

/-- The stage shows the active module's state (R47, R415); RUN and LIMIT are one for this purpose. -/
def showsStage (s : State) (v : PartnerView) (n : StageId) : Bool :=
  let st := v.stages[n].1
  s.stageSt n == st || (s.switching n && (st == .run || st == .limit))

/-- R415: whether the standby is ARMED. -/
def armedNow (s : State) : Bool :=
  isStandby s && s.isl.fenced.isEmpty && !s.twn.selfFenced && s.lgc.level && !s.twn.xfail &&
    match s.twn.view with
    | some v => allStages.all (showsStage s v)
    | none => false

/-- The keystone sets and clears ARMED (R415). -/
def armedReview (s : State) : State :=
  if s.alive .keystone && !s.saf.halted && s.twn.armed != armedNow s then showTwin (s.modTwn fun t => { t with armed := armedNow s }) else s

/-- The conditions of R420, digest differences apart, which restart the hold-off when they occur. -/
def returnHolds (s : State) : Bool :=
  isDuplex s && s.bit Obj.TWN_CONFIG 2 && s.twn.primary && isStandby s && s.twn.armed && s.twn.lock && s.mod.mode == .form
    && !(allStages.any fun n => s.stageSt n == .limit)

/-- The hold-off of R420 runs while its conditions hold. -/
def holdoffReview (s : State) : State :=
  if !returnHolds s then (if s.twn.holdoff.isSome then showTwin (s.modTwn fun t => { t with holdoff := none }) else s)
  else if s.twn.holdoff.isSome || s.twn.handover.isSome then s
  else showTwin (s.modTwn fun t => { t with holdoff := some (s.now, s.objN Obj.TWN_RETURN_HOLDOFF) })

/-! ### Duplex comparison -/

/-- R412: keys that are not carried to the standby's own ownership and service access. -/
def ownRights (key : Nat) : Bool := key / 256 == Obj.NET_OWNER_CLAIM / 256 || key / 256 == Obj.NET_SVC_RESPONSE / 256

/-- A forwarded write takes effect under the same rule as on the active module, which has checked it (R412): the rights it had there are lent
for its time. -/
def applyForwarded (key : Nat) (v : Val) (s : State) : State :=
  if ownRights key then s
  else
    let owner := s.objN Obj.NET_OWNER
    let rights := s.net.rights
    let w : Writer := .port 9 0
    let s := (s.setN Obj.NET_OWNER w.ownerWord).modNet fun n => { n with rights := (w.ownerWord, s.isl.mt) :: n.rights }
    let s := (writeEffect w key v s).2
    showNet ((s.setN Obj.NET_OWNER owner).modNet fun n => { n with rights := rights })

/-- R410: an input wired to both modules; the differences of eight consecutive samples in full scale, oldest first. -/
def execXcheckFail (c : AdcId) (diffs : Vector Rat 8) (s : State) : Res :=
  .next (s.on .sample fun s =>
    let tol : Rat := s.objN Obj.TWN_XCHECK_TOL
    if !isStandby s || s.objN (Obj.TWN_CH_WIRING c) ≠ 0 || diffs.toList.any (fun d => decide (absR d * 10000 ≤ tol)) then s
    else
      let s := if s.twn.xfail then s else s.log 0xA00D [c.val + 1, r32 diffs[(7 : Fin 8)]]
      showTwin (armedReview (s.modTwn fun t => { t with xfail := true, xfailAt := s.now })))

/-- R410: 1 s without such a difference. -/
def execXcheckClear (s : State) : Res :=
  .next (s.on .sample fun s =>
    if s.twn.xfail && decide (cyclesSec ≤ s.since s.twn.xfailAt) then showTwin (armedReview (s.modTwn fun t => { t with xfail := false })) else s)

/-- R411: the partner's digest of a stage and k arrives: compared at once where the own set of that k has been sent, kept for it otherwise. The
oldest of more than 64 kept digests goes: its sample was voided here (DESIGN CHOICE, log 152). -/
def execDigestReceived (n : StageId) (k : Nat) (digest : SetDigest) (s : State) : Res :=
  .next (s.on .link fun s =>
    if !isDuplex s || !linkUp s then s
    else digestMeets n k (s.modTwn fun t => { t with digests := (t.digests ++ [(n, k, digest.tally, digest.check)]).drop (t.digests.length + 1 - 64) }))

/-! ### Roles -/

/-- The active module becomes the standby: its claim is gone, its engine stops with STANDBY_COLD (R321), write ownership lapses (R412). A
handover that was pending is completed (R421); directions: 0 to the primary, 1 to the secondary. -/
def becomeStandby (s : State) : State :=
  let pending := s.twn.handover.isSome
  let s := s.modTwn fun t => { t with active := false, request := false, auto := false, armed := false, handover := none, view := none }
  let s := stopEngine (s.modLgc fun l => { l with level := false })
  let s := if pending then s.log 0xA00B [boolNat s.twn.primary] else s
  showTwin (ownerEnds 5 s)

/-- The engine of the new active module starts at the first boundary at or after now, from its last complete snapshot (R322). -/
def engineTakesOver (s : State) : State :=
  let s := startEngine true s
  if s.lgc.running then s.log 0x6001 [2, s.lgc.image.count, s.lgc.image.lt] else s

/-- The standby becomes the active module (R416, R419): its claim is deliberate, inputs that only the partner has are substituted where
they can be (R410), its engine starts, TWN_PAIR_IP is announced. -/
def becomeActive (s : State) : State :=
  let s := s.modTwn fun t => { t with active := true, request := true, auto := false, held := true, armed := false, holdoff := none, handover := none, view := none }
  let s := s.modLgc fun l => { l with level := false }
  let s := (allAdcs.filter fun c => !wiredHere s c && channelInUse s c).foldl (fun s c => substitute c 5 s) s
  let s := engineTakesOver (ownerEnds 5 s)
  let s := match pairAddress s with | some ip => if portUp s 2 then s.send 2 36 [ip] else s | none => s
  showTwin s

/-! ### The interlock -/

/-- The no-holder patterns end when the partner's claim is seen, or with the own GRANT (R414). -/
def holderSeen (s : State) : State :=
  let s := s.modGdv fun g => { g with noHolder := .replicate 6 false }
  (List.finRange 6).foldl (fun (s : State) (g : GdId) => leavePattern g s) s

/-- GRANT follows Table 17.3: its loss starts the 20 µs of R414. -/
def grantReview (s : State) : State :=
  let g := grantNow s
  let s := if g = s.twn.grant then s
    else
      let s := s.modTwn fun t => { t with grant := g, grantLost := if g then t.grantLost else s.now }
      if g then holderSeen s else s
  showTwin s

/-- A handover is completed by the new GRANT (R421). -/
def handoverGains (s : State) : State :=
  if isStandby s && s.twn.request && grantNow s then becomeActive (s.log 0xA00B [boolNat (!s.twn.primary)]) else s

/-- R413: CLAIM_IN changes. The active module that sees the partner's claim yields if it is the secondary or has released its own. -/
def execClaimInChange (v : ClaimIn) (s : State) : Res :=
  .next (s.on .keystone fun s =>
    if s.twn.claimIn = v then s
    else
      let s := s.modTwn fun t => { t with claimIn := v, claimSince := s.now }
      let s := if v = .open_ && isDuplex s then s.log 0xA00F [] else s
      let s := grantReview s
      let s := if v = .asserted then holderSeen s else s
      let s := if v = .asserted && isDuplex s && s.twn.active && (!s.twn.primary || !s.twn.request) then becomeStandby s else s
      grantReview (handoverGains s))

/-- CLAIM_IN shows that the partner does not claim: released, or a cut cable on the primary (R413, R414, Table 17.8). -/
def partnerSilent (s : State) : Bool := s.twn.claimIn == .released || (s.twn.primary && s.twn.claimIn == .open_)

/-- R413, R416, R419: the ARMED standby claims after 1.0 µs, and takes over with GRANT. -/
def execAutoClaim (s : State) : Res :=
  .next (s.on .keystone fun s =>
    if !isStandby s || !s.twn.armed || !s.mod.mode.running || !partnerSilent s || decide (s.since s.twn.claimSince < cyclesUs 1) then s
    else
      let gap : Rat := r32 (mkRat (10 * (s.since s.twn.claimSince : Int)) 4096 + mkRat 3 10)
      let s := (s.modTwn fun t => { t with auto := true, held := true })
      if !grantNow s then showTwin s
      else
        let s := grantReview (becomeActive s)
        let s := ((s.bump Obj.TWN_TAKEOVERS).setR Obj.TWN_LAST_INTERRUPTION gap).log 0xA00A [roleCode s, gap]
        showTwin s)

/-- R414: no GRANT for 20 µs and no claim of the partner: the die applies its pattern. -/
def execNoHolderTimeout (g : GdId) (s : State) : Res :=
  .next (s.on (.gdPrimary g) fun s =>
    if !isDuplex s || !s.mod.mode.running || grantNow s || s.gdv.noHolder[g] || !partnerSilent s
        || decide (s.since (max s.twn.grantLost s.mod.enteredAt) < cyclesUs 20) then s
    else applyPattern g 2 (s.modGdv fun x => { x with noHolder := x.noHolder.set g true }))

/-- R413: the hold circuit has seen no toggle for 2 µs: the keystone acts no more. -/
def execClaimHoldLapse (s : State) : Res :=
  .next (if s.twn.held && (!s.alive .keystone || s.saf.halted) then grantReview (s.modTwn fun t => { t with held := false }) else s)

/-- Table 17.5: at a tick the active module withdraws its claim for a stage SAFE by a local cause, a fenced edge, sample or driver island, or
LOCKOUT. -/
def claimFails (s : State) : Bool :=
  s.mod.mode == .lockout || s.fenced .edge || s.fenced .sample || ((List.finRange 6).any fun (g : GdId) => s.fenced (.gdPrimary g))
    || allStages.any fun n => s.stageSt n == .safe && s.stg[n].cause == 0x3010

def claimReleases (s : State) : State :=
  if isDuplex s && s.twn.active && s.twn.request && claimFails s then grantReview (s.modTwn fun t => { t with request := false }) else s

/-! ### Arbitration -/

/-- R418: the module fences itself: its claim goes, permissions are withdrawn, LOCKOUT follows at the next tick. -/
def selfFence (n : StageId) (verdict : Bool) (s : State) : State :=
  let s := s.log 0xA009 [n.val, boolNat verdict]
  let s := linkSend 0xA009 [n.val] s
  let s := s.modTwn fun t => { t with request := false, auto := false, armed := false, selfFenced := true, holdoff := none, handover := none }
  demandLockout 0xA009 (refreshPermissions (grantReview s))

/-- The SAFE reaction that a single module would carry out for the trigger (R34, Table 17.4); a digest difference has no cause of its own in
the spec, so its cause is free, as for a fenced pier (DESIGN CHOICE, log 4). -/
def triggerSafe (n : StageId) (trigger : Nat) (s : State) : State :=
  if trigger = 0x2308 ∨ trigger = 0x2402 then stageSafe n trigger s else safeByFence n s

/-- R141: the reaction to a plant fault. -/
def plantReaction (n : StageId) (s : State) : State :=
  let stop := ([0, 1, 2, 3, 4, 5] : List (Fin 6)).any fun j => s.srv[n].acted[j] && s.objN (Obj.SRV_CAN_REACT n j) == 4
  let s := stageSafe n 0x2308 s
  if stop then demandStop (.fault 0x2308) s else s

/-- The rows of Table 17.4. -/
inductive Outcome where
  | plant | standbyFences | activeFences | safeState | undecided
deriving DecidableEq, Repr

def Outcome.code : Outcome → Nat
  | .plant => 0 | .standbyFences => 1 | .activeFences => 2 | .safeState => 3 | .undecided => 4

/-- Table 17.4 for the verdicts of the active and the standby module (none: unknown); `armed` is the standby's flag. A combination that the
table does not list changes nothing. -/
def arbOutcome (active standby : Option Bool) (armed same : Bool) : Outcome :=
  match active, standby with
  | some true, some true => if same then .plant else .standbyFences
  | some false, some true => if armed then .activeFences else .safeState
  | some false, _ => .safeState
  | _, some false => .standbyFences
  | _, _ => .undecided

/-- R417: the module decides, with the partner's verdict as it stands. -/
def arbDecide (a : ArbSt) (own : Bool) (s : State) : State :=
  let p := a.partner.map (·.1)
  let same := match a.partner with | some x => x.2.2.any fun j => decide (j ∈ actedLately s a.stage) | none => false
  let active := !isStandby s
  let armed := if active then (match a.partner with | some x => x.2.1 | none => false) else s.twn.armed
  let o := if active then arbOutcome (some own) p armed same else arbOutcome p (some own) armed same
  let partnerCode : Nat := match p with | some b => boolNat b | none => 2
  let s := (s.modTwn fun t => { t with arb := none, diffs := t.diffs.set a.stage 0 }).log 0xA008 [boolNat own, partnerCode, o.code]
  let s := match o with
    | .plant => if active then plantReaction a.stage s else s
    | .standbyFences => if active then s else selfFence a.stage own s
    | .activeFences => if active then selfFence a.stage own s else s
    | .safeState => if active then triggerSafe a.stage a.trigger s else s
    | .undecided => s
  showTwin s

/-- The own verdict stands (R417): it is sent with the ARMED flag, and the decision falls if the partner's is there. -/
def ownVerdict (n : StageId) (s : State) : State :=
  match s.twn.arb with
  | none => s
  | some a =>
    if a.stage ≠ n ∨ a.own.isSome then s
    else
      let v := s.bit (Obj.PIE_STATUS n) 7 && s.bit (Obj.SRV_STATUS n) 11
      let a := { a with own := some v, ownAt := s.now }
      let s := linkSend 0xA007 [boolNat v, boolNat s.twn.armed, maskOf ((actedLately s n).map Fin.val)] (s.modTwn fun t => { t with arb := some a })
      if a.partner.isSome then arbDecide a v s else s

/-- R150: the compute-path test ends after its 480 cycles; `failing` names the unit that failed. Its result stands in SELFTEST_PASS. -/
def execSelftestComplete (p : StageId) (failing : Option Nat) (s : State) : Res :=
  .next (s.on (.pier p) fun s =>
    match s.pie[p].selftest with
    | none => s
    | some t =>
      if s.since t < 480 then s else
      let s := (s.modPier p fun q => { q with selftest := none }).setBit (Obj.PIE_STATUS p) 6 false
      let s := s.setBit (Obj.PIE_STATUS p) 7 failing.isNone
      let s := match failing with | some u => s.log 0x240B [p.val, u] | none => s
      ownVerdict p s)

/-- R417: the partner's verdict with its ARMED flag and the residuals that its canary has had at act within the window (R141). It counts while
arbitration runs here. -/
def execArbitrationVerdictReceived (pass armed : Bool) (acted : List (Fin 6)) (s : State) : Res :=
  .next (s.on .link fun s =>
    match s.twn.arb with
    | none => s
    | some a =>
      if !isDuplex s || !linkUp s then s
      else
        let a := { a with partner := some (pass, armed, acted) }
        let s := s.modTwn fun t => { t with arb := some a }
        match a.own with | some v => arbDecide a v s | none => s)

/-- R417: 2 µs after the own verdict. -/
def execArbitrationTimeout (s : State) : Res :=
  .next (s.on .keystone fun s =>
    match s.twn.arb with
    | none => s
    | some a =>
      match a.own with
      | some v => if a.partner.isNone && decide (cyclesUs 2 ≤ s.since a.ownAt) then arbDecide a v s else s
      | none => s)

/-! ### Return and handover -/

/-- R420: the hold-off ends, and the primary proposes H. -/
def execReturnHoldoffEnd (s : State) : Res :=
  .next (s.on .keystone fun s =>
    match s.twn.holdoff with
    | none => s
    | some (t, len) =>
      if !returnHolds s || s.twn.handover.isSome || decide (s.since t < len * cyclesSec) then s
      else
        let h := handoverInstant s
        showTwin (linkSend 49 [ttCycles s h] (s.modTwn fun x => { x with handover := some (h, 3), holdoff := none })))

/-- R421. -/
def execHandoverCmd (w : Writer) (s : State) : Res := .next (dictReq w Obj.TWN_CMD (.int 0x5A01) none s)

/-- R421: H has come: the active module releases its claim, or the partner claims; a return whose conditions hold no longer is dropped. -/
def execHandoverPass (s : State) : Res :=
  .next (s.on .keystone fun s =>
    match s.twn.handover with
    | none => s
    | some (h, part) =>
      if s.now < h then s
      else if part = 0 then
        (if s.twn.active then grantReview (s.modTwn fun t => { t with request := false }) else s)
      else if part = 2 then s
      else if part = 3 && !returnHolds s then
        holdoffReview (showTwin (s.modTwn fun t => { t with handover := none }))
      else if !isStandby s then s
      else
        let s := s.modTwn fun t => { t with request := true, held := true }
        grantReview (handoverGains (grantReview s)))

end Sys2Proof.Machine
end

