-- ==== Sys2Proof/Machine/Islands.lean ====
section
/-!
DEFINITION. Chapter 1: replicas of module time (R16), expansion joints (R13, R14), commands that carry their instant (R17 to R21), fences (R23)
and the abutment's contactor enable (R25, R26).
-/

namespace Sys2Proof.Machine

/-! ### Replicas -/

/-- A replica's deviation makes its island faulty: more than two of its own cycles (R16). -/
def replicaFaulty (e : Island × Int) : Bool := decide (2 * e.1.resolution < e.2.natAbs)

/-- R16: the broadcast of the master count. `dev` is how far each replica named was found from it, in core cycles. A replica further away than
one of its own cycles takes the broadcast; one further than two is reported, and its island is fenced (R23). -/
def execTimeBroadcast (dev : List (Island × Int)) (s : State) : Res :=
  .next (
    if !clockRuns s || !(s.alive .edge || s.alive .keystone) || decide (s.since s.isl.broadcast < 1024) then s
    else
      let kept := dev.filter fun e => e.2 != 0 && decide (e.2.natAbs ≤ e.1.resolution)
      let s := s.modIsl fun x => { x with broadcast := s.now, dev := kept }
      (dev.filter replicaFaulty).foldl (fun (s : State) (e : Island × Int) => fence e.1 s) s)

/-! ### Joints -/

/-- The joint between two islands, as it stands or new. -/
def jointOf (s : State) (a b : Island) : Joint :=
  (s.isl.joints.find? fun j => j.src == a && j.dst == b).getD ⟨a, b, none, s.fenced a, 0, []⟩

def putJoint (j : Joint) (s : State) : State :=
  s.modIsl fun x => { x with joints := j :: x.joints.filter fun k => !(k.src == j.src && k.dst == j.dst) }

/-- R13, R14, R23, R24: a word reaches its destination. A fenced destination discards it, a fenced source delivers its marker; a poisoned word
counts as one that never came, and the third within 1,024 of the destination's cycles is reported. A frame of the Clauz link that fails its
check reaches its island so, and counts (R402; DEDUCED, log 166). -/
def execJointWordArrival (src dst : Island) (poisoned : Bool) (w : Nat) (s : State) : Res :=
  .next (s.on dst fun s =>
    let j := jointOf s src dst
    if s.fenced src then putJoint { j with marker := true, word := none } s
    else if poisoned then
      let recent := s.now :: j.recent.filter fun t => decide (s.since t < 1024 * dst.resolution)
      let s := putJoint { j with poisoned := j.poisoned + 1, recent := recent.take 3 } s
      let s := if src = .link then s.bump Obj.TWN_LINK_ERRORS else s
      if 3 ≤ recent.length then fence src s else s
    else putJoint { j with word := some w } s)

/-! ### Commands at their destination -/

/-- What a command is for: two commands of one destination meet where these are equal (R21). -/
def bodyObject : Payload → Nat × Nat
  | .tbPeriod t _ => (0, t.val) | .tbPhase t _ => (0, t.val) | .groupEnable g _ => (1, g.val) | .stageState n _ => (2, n.val)
  | .paramWrite _ k _ => (3, k) | .anchorStep n => (4, n.val) | .convStart c _ _ => (5, c.val) | .bankSwitch c => (6, c.val)
  | .programExchange => (7, 0) | .cyclePeriod _ => (8, 0) | .handover => (9, 0) | .viaductRole _ => (10, 0) | .forwarded k _ => (3, k)
  | .fieldOutput o _ => (11, o.val) | .contactor d _ => (12, d.val) | .transmit p _ => (13, p) | .offsets n _ => (14, n.val)
  | .partnerInput _ => (15, 0)

/-- A held command for the same object at the same instant, from another source or another channel of it (R21). -/
def meets (c : TimedCmd) (h : Held) : Bool :=
  h.cmd.dst == c.dst && h.cmd.inst == c.inst && !h.deferred && bodyObject h.cmd.body == bodyObject c.body
    && (h.cmd.src, h.cmd.channel) != (c.src, c.channel)

/-- H as proposed by the partner: the active module will release its claim or yield, the standby claims (R420, R421). -/
def takeHandover (h : Nat) (s : State) : State :=
  if !isDuplex s then s
  else
    let part := if isStandby s then 1 else 2
    showTwin (s.modTwn fun t => { t with handover := some (h, part) })

/-- A command takes effect at its destination; `late` is its lateness in core cycles where the destination applies late ones at arrival. A
scheduled frame carries its actual transmit stamp (Table 1.5). The spec gives a viaduct role change no effect of its own: designations are fixed
until reset (DESIGN CHOICE, log 36). -/
def applyCmd (c : TimedCmd) (late : Nat) (s : State) : State :=
  match c.body with
  | .tbPeriod t p => (tbCommand t false p (c.inst.getD 0) (c.src, c.channel) s).2
  | .tbPhase t d => (tbCommand t true d (c.inst.getD 0) (c.src, c.channel) s).2
  | .groupEnable g on => showGroup g (tripScan (s.setBit (Obj.EDG_TRG_CFG g) 0 on))
  | .stageState n st => takeStageState n st s
  | .paramWrite _ key v => awaitCommit key v s
  | .anchorStep n => takeAnchor n s
  | .convStart a start delay => awaitCommit (Obj.ACQ_CH_DELAY a) (.int delay) (awaitCommit (Obj.ACQ_CH_START a) (.int start) s)
  | .bankSwitch ch => (bankSwitchCmd ch (c.inst.getD 0) s).2
  | .programExchange =>
    if s.lgc.running && s.lgc.staged.isSome && s.lgc.exchange.isNone then showLogic (s.modLgc fun l => { l with exchange := some 0 }) else s
  | .cyclePeriod ms => awaitCommit Obj.LGC_CYCLE_PERIOD (.int ms) s
  | .handover => takeHandover s.now s
  | .viaductRole _ => s
  | .offsets n v => takeOffsets n v s
  | .partnerInput lost => match c.dst with | .pier n => partnerInput n lost s | _ => s
  | .forwarded key v => applyForwarded key v s
  | .fieldOutput o on => fieldOut o on late s
  | .contactor d on => driverOut d on late s
  | .transmit port frame =>
    let s := s.send port 43 ((s.now : Int) :: frame.map Int.ofNat)
    if late = 0 then s else (s.bump Obj.NET_LATE_TX).logOnce 0x700D 2 [2, late]

/-- The next zero point of the handover timebase, the carrier zero of the link island's commands (Table 1.5). -/
def handoverZero (s : State) : Nat :=
  let t : TbId := Fin.ofNat 8 (s.field Obj.TWN_CONFIG 3 3)
  let p := max 1 (s.objN (Obj.EDG_TB_PERIOD t))
  s.edg.tb[t].lastZero + ((s.now - s.edg.tb[t].lastZero) / p + 1) * p

/-- The destination's next boundary, at which a deferred command applies (Table 1.5): a pier's next sample, a channel's next conversion, the next
zero point of the handover timebase. Timebases, chains and the logic engine defer for themselves (R174, R250, R318). -/
def nextBoundary (c : TimedCmd) (s : State) : Nat :=
  match c.body with
  | .stageState n _ => s.pie[n].t0 + s.tu n
  | .paramWrite n _ _ => s.pie[n].t0 + s.tu n
  | .anchorStep n => s.pie[n].t0 + s.tu n
  | .offsets n _ => s.pie[n].t0 + s.tu n
  | .groupEnable g _ => s.edg.tb[grpTb s g].lastZero + s.objN (Obj.EDG_TB_PERIOD (grpTb s g))
  | .handover => handoverZero s
  | .viaductRole _ => handoverZero s
  | _ => s.now

/-- The command is of a kind that waits for its boundary when late: those that a boundary of their own takes up are passed on. -/
def waitsAtIsland : Payload → Bool
  | .stageState _ _ => true | .paramWrite _ _ _ => true | .anchorStep _ => true | .groupEnable _ _ => true | .handover => true
  | .viaductRole _ => true | .offsets _ _ => true
  | _ => false

/-- A command passed on without waiting at the island: its own mechanism keeps its instant (R174, R250, R318). -/
def keepsOwnInstant : Payload → Bool
  | .tbPeriod _ _ => true | .tbPhase _ _ => true | .bankSwitch _ => true | _ => false

/-- The count and event of a late command (R19, Table 1.5) where a chapter names them for the command at arrival: a late trip-group enable counts
at the group's channels, a late anchor step at its stage (R76). -/
def noteLate (c : TimedCmd) (late : Nat) (s : State) : State :=
  match c.body with
  | .programExchange => s.log 0x600E [1, late]
  | .cyclePeriod _ => s.log 0x600E [2, late]
  | .handover => s.log 0xA00C [late]
  | .groupEnable g _ => (allChans.filter (grpHasChan s g)).foldl (fun s c => s.bump (Obj.EDG_CH_LATE c)) s
  | .anchorStep n => (s.bump (Obj.SHR_ANCHOR_LATE n)).log 0x2104 [n.val, late]
  | .convStart a _ _ => (s.modAcq fun q => { q with adc := q.adc.set a { q.adc[a] with late := true } }).log 0x4009 [a.val + 1, late]
  | _ => s

/-- The instant of a command in module time: what has crossed the Clauz link states it in TT, and the link island converts it; adaptation offsets
name their commit's effective instant, one update period after the sample that takes them (R20, R136). -/
def instantOf (c : TimedCmd) (s : State) (i : Nat) : Nat :=
  let m := if c.viaLink then mtOfTt s i else i
  match c.body with | .offsets n _ => m - s.tu n | _ => m

/-- Hold a command until its instant; a command for one object from another source or channel meets it under R21. -/
def holdCmd (c : TimedCmd) (s : State) : State :=
  match s.isl.held.find? (meets c) with
  | some h =>
    if comesFirst (h.cmd.src, h.cmd.channel) (c.src, c.channel) then countRefused c.dst s
    else countRefused c.dst (s.modIsl fun x => { x with held := (x.held.filter fun k => !meets c k) ++ [⟨c, false⟩] })
  | none => s.modIsl fun x => { x with held := x.held ++ [⟨c, false⟩] }

/-- The object of a command has been taken in this cycle of its destination by another source or channel (R21). -/
def takenNow (s : State) (c : TimedCmd) (t : Taken) : Bool :=
  t.dst == c.dst && t.obj == bodyObject c.body && t.at_ == s.replicaOf c.dst && (t.src, t.channel) != (c.src, c.channel)

/-- The destination remembers for this cycle whose command its object has taken (R21). -/
def noteTaken (c : TimedCmd) (s : State) : State :=
  let mine : Taken := ⟨c.dst, bodyObject c.body, s.replicaOf c.dst, c.src, c.channel⟩
  let others := s.isl.lately.filter fun t => t.at_ == s.replicaOf t.dst && !(t.dst == mine.dst && t.obj == mine.obj)
  s.modIsl fun x => { x with lately := mine :: others }

/-- A command takes effect, unless one that comes first has taken its object in this cycle: the loser is refused and counted (R21). -/
def takeEffect (c : TimedCmd) (late : Nat) (s : State) : State :=
  match s.isl.lately.find? (takenNow s c) with
  | some t => if comesFirst (t.src, t.channel) (c.src, c.channel) then countRefused c.dst s else noteTaken c (applyCmd c late (countRefused c.dst s))
  | none => noteTaken c (applyCmd c late s)

/-- A command arrives at its destination (R17 to R21). -/
def arrive (c : TimedCmd) (s : State) : State :=
  match c.inst with
  | none => takeEffect c 0 s
  | some i =>
    let inst := instantOf c s i
    let now := s.replicaOf c.dst
    let c := { c with inst := some inst }
    if implausible now inst then countImplausible c.dst s
    else if keepsOwnInstant c.body then applyCmd c 0 s
    else if now < inst then holdCmd c (if c.body = .handover then takeHandover inst s else s)
    else
      let late := now - inst
      let s := noteLate c late s
      if waitsAtIsland c.body then
        let b := nextBoundary c s
        let s := if c.body = .handover then takeHandover b s else s
        s.modIsl fun x => { x with held := x.held ++ [⟨{ c with inst := some b }, true⟩] }
      else takeEffect c late s

/-- R17 to R21; what crosses the Clauz link needs the link island. -/
def execCommandArrival (c : TimedCmd) (s : State) : Res :=
  .next (if c.viaLink && !(s.alive .link && linkUp s) then s else s.on c.dst (arrive c))

/-- R412: a write forwarded from the active module, at its effective instant in TT (0: at once). -/
def execForwardedWrite (key : Nat) (v : Val) (inst : Nat) (s : State) : Res :=
  .next (s.on .link fun s =>
    if !isStandby s || !linkUp s then s
    else arrive ⟨.link, .service, 0, true, if inst = 0 then none else some inst, .forwarded key v⟩ s)

/-- A held command is due at its destination (R17). -/
def heldDue (s : State) (d : Island) (h : Held) : Bool :=
  h.cmd.dst == d && match h.cmd.inst with | some i => decide (i ≤ s.replicaOf d) | none => true

/-- R17: the held commands of an island whose instants its replica has reached, in order of arrival. A handover waits for its own instant. -/
def execEffectiveInstantReached (dst : Island) (s : State) : Res :=
  .next (s.on dst fun s =>
    let due := s.isl.held.filter (heldDue s dst)
    let s := s.modIsl fun x => { x with held := x.held.filter fun h => !heldDue s dst h }
    due.foldl (fun (s : State) (h : Held) => if h.cmd.body = .handover then s else takeEffect h.cmd 0 s) s)

/-! ### Fences -/

/-- R23: a report on an island reaches the keystone. -/
def execIslandFence (i : Island) (_why : FenceReport) (s : State) : Res := .next (fence i s)

/-! ### The abutment without contactor enable -/

/-- R25: no toggle for 2 µs. -/
def execContactorEnableLapse (s : State) : Res :=
  .next (s.on .abutment fun s => showField (s.modIsl fun x => { x with contactorLapsed := true }))

/-- R25: toggles return; drivers take their kept commands. -/
def execContactorEnableReturn (s : State) : Res :=
  .next (s.on .abutment fun s => if s.isl.contactorEnable then showField (s.modIsl fun x => { x with contactorLapsed := false }) else s)

/-- R26: 48 ms after the house island has been fenced every temperature counts as a broken sensor. -/
def execHousekeepingDataLoss (s : State) : Res :=
  .next (s.on .keystone fun s =>
    match s.isl.houseFencedAt with
    | none => s
    | some t =>
      if s.since t < 48 * cyclesMs then s
      else
        let s := s.modSup fun x => { x with sensor := x.sensor.map fun q => { q with broken := true } }
        showThermal (thermalShutdown 1 (-1000) (s.setN Obj.THM_BROKEN 1073741823)))

end Sys2Proof.Machine
end

