-- ==== Sys2Proof/Machine/Boot.lean ====
section
/-!
DEFINITION. From power-up to READY (chapter 2): ADIT (R30, R358, R396, R397), the steps of SURVEY (R38, R151, R392, R313), the start-up test
(R359) and the off-state diagnostics (R39, R215).
-/

namespace Sys2Proof.Machine

/-- R438: AUX_IN has reached 8.0 V. What follows it in time, regulation and the release of reset, is reported by ADIT_ENTRY. -/
def execAuxPowerUp (s : State) : Res := .next (s.modMod fun m => { m with powered := true })

/-! ### ADIT -/

/-- R358: the absence counter as read in ADIT; `none` where its supply ran down. -/
def readAbsence (absence : Option Nat) (s : State) : State :=
  match absence with
  | some n => (s.setN Obj.SAF_ABSENCE n).setBit Obj.SAF_STATUS 2 true
  | none => (s.setBit Obj.SAF_STATUS 2 false).log 0x8007 []

/-- R30, R278, R402, R404: ADIT begins; PLLs are enabled on the preferred own reference, DESIGNATION and PAIR_MODE are read. -/
def execAditEntry (absence : Option Nat) (primary : Bool) (s : State) : Res :=
  .next (
    if s.mod.mode != .halt || !s.mod.powered || s.mod.resetAsserted then s
    else
      let s := changeMode .adit s
      let s := s.modClk fun c => { c with pllOn := true, refOk := (c.refOk.set 0 true).set 1 true, active := some (refPreferred s) }
      let s := s.modTwn fun t => { t with mode := s.field Obj.TWN_CONFIG 0 2, primary := primary }
      showTwin (showClocks (readAbsence absence s)))

/-- R30: no PLL has locked within 10 ms. Event data: 2, for the PLLs. -/
def execAditPllTimeout (s : State) : Res :=
  .next (if s.mod.mode == .adit && !clockRuns s && !s.mod.lockoutPending.contains 0x1011 then demandLockout 0x1011 (s.log 0x1011 [2]) else s)

/-- The step of R396 that an image fails: 1 key, 2 signature, 3 security version; 0 none. -/
def imageFault (s : State) (i : ImageFacts) : Nat :=
  if !i.keyOk then 1 else if !i.signatureOk then 2 else if i.securityVersion < s.nvs.version then 3 else 0

/-- An image runs (R396): its version and slot are shown, its graph package stands verified (R151); the program's signature decides whether it
may run (R397). -/
def runImage (slot : Nat) (i : ImageFacts) (progOk : Bool) (s : State) : State :=
  let s := (s.setN Obj.MOD_FW_IMAGE slot).setN Obj.MOD_FW_VERSION i.fwVersion
  let s := s.modNvs fun n => { n with running_ := i.securityVersion, package := some i.graphs }
  let ok := progOk && s.lgc.program.isSome
  let s := if s.lgc.program.isSome && !progOk then s.log 0x900D [(s.lgc.program.map (·.id)).getD 0] else s
  let s := showLogic (s.modLgc fun l => { l with valid := ok, verified := ok })
  s.modMod fun m => { m with imageStarted := true }

/-- R396: the image of NVS_BOOT_PREF is tried first, then the other. -/
def execImageVerified (imgA imgB : ImageFacts) (progOk : Bool) (s : State) : Res :=
  .next (
    if s.mod.mode != .adit || s.mod.imageStarted || s.mod.lockoutPending.contains 0x1011 || !s.alive .house then s
    else
      let s := s.setN Obj.NVS_IMAGE_STATE (boolNat (imageFault s imgA == 0) + 2 * boolNat (imageFault s imgB == 0))
      let first := s.objN Obj.NVS_BOOT_PREF % 2
      let facts (k : Nat) : ImageFacts := if k = 0 then imgA else imgB
      let try_ (k : Nat) (s : State) : State := s.log 0x900C [k, imageFault s (facts k)]
      if imageFault s (facts first) = 0 then runImage first (facts first) progOk s
      else
        let s := try_ first s
        if imageFault s (facts (1 - first)) = 0 then runImage (1 - first) (facts (1 - first)) progOk s
        else demandLockout 0x1011 ((try_ (1 - first) s).log 0x1011 [1 - first]))

/-! ### Configuration -/

/-- The code of a stage's TYPE (Table 2.9). -/
def typeCode (s : State) (n : StageId) : Nat := storedType s n.val

/-- A block with its saved parameters (R151, R170). -/
def savedParams (n : StageId) (saved : List ObjCell) (i : Nat) (b : BlockSt) : BlockSt :=
  { b with params := b.params.mapIdx fun j v => (cellGet (blockKey n i (0x10 + j)) saved).getD v }

/-- Block instances a pier can hold (R151, Table 7.8). -/
def maxInstances : Nat := 4096

/-- R151: a pier loads its graph, or rejects it: reasons 1 stage type, 2 limits. -/
def loadGraph (n : StageId) (g : GraphSpec) (s : State) : State :=
  let reason := if g.stageType ≠ typeCode s n then 1 else if !g.fits || decide (maxInstances < g.blocks.length) then 2 else 0
  let s := s.modPier n fun p => { p with k := 0, t0 := 0, work := none, post := none, postDone := true, provisional := false, duties := [], sent := [], out := none, before := none }
  if reason ≠ 0 then
    let s := s.modPier n fun p => { p with graph := none, blocks := [] }
    let s := (s.modStage n fun c => { c with graphOk := false }).setBit (Obj.PIE_STATUS n) 0 false
    let s := if s.stageSt n = .safe then s
      else (s.modStage n fun c => { c with cause := 0x2408 }).setN (Obj.MOD_STAGE_SAFE_CAUSE n.val) 0x2408
    s.log 0x2408 [n.val, reason, g.wcetTotal, s.tu n]
  else
    let s := s.modPier n fun p => { p with graph := some g, blocks := (loadBlocks g).mapIdx (savedParams n s.saved) }
    let s := (s.modStage n fun c => { c with graphOk := true }).setBit (Obj.PIE_STATUS n) 0 true
    let s := if s.stageSt n = .safe then s else (s.modStage n fun c => { c with cause := 0 }).setN (Obj.MOD_STAGE_SAFE_CAUSE n.val) 0
    let s := ((s.setN (Obj.PIE_GRAPH_ID n) g.id).setN (Obj.PIE_GRAPH_CHECK n) g.check).setN (Obj.PIE_INSTANCE_COUNT n) g.blocks.length
    (s.setN (Obj.PIE_WCET_CRIT n) g.wcetCrit).setN (Obj.PIE_WCET_TOTAL n) g.wcetTotal

/-- The working values become the persistent ones (R38, R327); values that the module keeps itself stay, and so do the holds with the writes
pending under them (R66, R167). -/
def loadSaved (s : State) : State :=
  let kept := s.objs.filter fun c => !savedRw c.1
  let hold (s' : State) (n : StageId) : State :=
    (s'.setBit (Obj.GFL_CONFIG n) 10 (s.bit (Obj.GFL_CONFIG n) 10 || s'.bit (Obj.GFL_CONFIG n) 10)).setBit (Obj.PIE_CONFIG n) 0
      (s.bit (Obj.PIE_CONFIG n) 0 || s'.bit (Obj.PIE_CONFIG n) 0)
  let s' := allStages.foldl hold { s with objs := overlay kept (s.saved.filter fun c => savedRw c.1), commitWrites := [] }
  s'.modEdg fun e => { e with added := [] }

/-- What starts from the configuration: timebases (R172), static compares (R175), calibrated offsets, budgets (R107), domains (R287), status
words, CAN (R336). -/
def applyConfig (s : State) : State :=
  let s := restartTimebases s
  let s := allTbs.foldl (fun (s : State) (t : TbId) => s.modTb t fun x => { x with cmds := [], stretch := 0, triggers := 0 }) s
  let s := allChans.foldl (fun (s : State) (c : ChanId) => s.modCh c fun h =>
    let st : ChanSet := ⟨(List.range 4).map fun j => s.objN (Obj.EDG_CH_STATIC c j), [], s.objN (Obj.EDG_CH_STATIC_CTRL c)⟩
    { h with staticNext := some st }) s
  let s := s.modEdg fun e => { e with pinKnown := [] }
  let s := allAdcs.foldl (fun (s : State) (c : AdcId) => s.modAdc c fun a => { a with offset := s.objI (Obj.ACQ_CAL_OFFSET c), drift := 0 }) s
  let s := allStages.foldl (fun (s : State) (n : StageId) =>
    (s.modRide n fun f => { f with budget := (s.objN (Obj.FRT_FAULT_TIME n) : Nat), budgetAt := s.now }).setBit (Obj.SRV_STATUS n) 2
      (s.bit (Obj.SRV_CONFIG n) 2)) s
  let s := domainReview 1 (domainReview 0 s)
  let s := ([0x24, 0x28, 0x44, 0x4C, 0x50, 0x51, 0x54, 0x58] : List Nat).foldl (fun (s : State) (p : Nat) => showPage p s) s
  ([0, 1] : List (Fin 2)).foldl (fun (s : State) (c : Fin 2) => if s.net.can[c].booted then s else bootUp c s) s

/-- R38: loading of the configuration, of the graphs from the verified image's package and of block parameters completes; self-calibration
begins. `dictionary`, `backup`: a copy of the dictionary values, or of the configuration backup, passes its check; with neither the module goes
to LOCKOUT with 0x9006 (R390, Table 2.5). -/
def execSurveyConfigLoad (dictionary backup : Bool) (s : State) : Res :=
  .next (s.on .keystone fun s =>
    if s.mod.mode != .survey || s.mod.cfgLoaded then s
    else if !(dictionary || backup) then demandLockout 0x9006 ((s.modMod fun m => { m with cfgValid := false }).log 0x9006 [])
    else
      let s := loadSaved s
      let s := match s.nvs.package with
        | some gs => allStages.foldl (fun (s : State) (n : StageId) => loadGraph n gs[n] s) s
        | none => s
      startSelfCal (applyConfig (s.modMod fun m => { m with cfgLoaded := true, cfgValid := true })))

/-! ### Hold-up check and diagnostics -/

/-- The stages whose off-state diagnostics a survey runs or defers (R38, R39): every enabled one of a type. -/
def diagStages (s : State) : List StageId := allStages.filter fun n => s.enabled n && s.stype n != .none

/-- The next queued stage's test begins. -/
def nextDiag (s : State) : State :=
  if diagRunning s then s
  else match s.mod.diagQueue with
    | [] => s
    | n :: rest => startDiag n (s.modMod fun m => { m with diagQueue := rest })

/-- Stages are queued for their tests, or deferred where their link reads too low (R38, R39). -/
def queueDiags (s : State) : State :=
  let l := diagStages s
  let now := l.filter (linkForDiag s)
  let later := l.filter fun n => !linkForDiag s n
  let s := later.foldl (fun (s : State) (n : StageId) => s.modStage n fun c => { c with diagDeferred := true, diagPassed := false }) s
  let s := now.foldl (fun (s : State) (n : StageId) => s.modStage n fun c => { c with diagDeferred := false, diagPassed := false }) s
  nextDiag (s.modMod fun m => { m with diagQueue := now })

/-- R392: the rail's capacitance in µF, its voltage, and the stages' links at the end of the check. -/
def execHoldupCheckComplete (microF volts : Rat) (link : Vector Rat 4) (s : State) : Res :=
  .next (s.on .house fun s =>
    if s.mod.mode != .survey || !s.mod.calDone || s.mod.holdupDone then s
    else
      let s := (s.setR Obj.NVS_HOLD_C (r32 microF)).setR Obj.NVS_HOLD_V (r32 volts)
      let s := s.modMod fun m => { m with holdupDone := true, link := link }
      if microF < 200 then demandLockout 0x1013 (s.log 0x1013 [r32 (energyHeld s volts)]) else queueDiags s)

/-- R37, R39: which stage's test may begin now: deferred in CHARGE, or with a held START_STAGE, its link high enough, in stage order and never
two at once. -/
def diagDue (s : State) (n : StageId) : Bool :=
  linkForDiag s n
    && ((s.stg[n].diagDeferred && !s.stg[n].diagPassed && s.mod.mode == .charge) || (s.stg[n].heldStart && s.mod.mode.running && s.mod.mode != .stop))

/-- R39: the first sample after the link has reached MOD_DIAG_LEVEL. -/
def execDeferredDiagStart (n : StageId) (s : State) : Res :=
  .next (s.on (.pier n) fun s =>
    if diagRunning s || !diagDue s n || (allStages.any fun m => decide (m < n) && diagDue s m) then s else startDiag n s)

/-- A stage that has passed moves from OFF to ARMED in SURVEY and in the run modes, STOP included, and a held START_STAGE proceeds (R37, R39);
in READY the move waits for CHARGE. -/
def diagPasses (n : StageId) (s : State) : State :=
  let held := s.stg[n].heldStart
  let s := s.modStage n fun c => { c with diagPassed := true, heldStart := false }
  if s.stageSt n ≠ .off || !s.stg[n].graphOk then s.modStage n fun c => { c with diagDeferred := false }
  else if s.mod.mode == .survey || s.mod.mode.running then
    (stageArm n s).modStage n fun c => { c with diagDeferred := false, toRun := held }
  else s

/-- R215: the off-state test ends after 20 ms. -/
def execOffStateTestComplete (n : StageId) (r : DiagReading) (s : State) : Res :=
  .next (s.on (.pier n) fun s =>
    match s.stg[n].diagSince with
    | none => s
    | some t =>
      if s.since t < 20 * cyclesMs then s
      else
        let w := diagWord s n r
        let s := (s.modStage n fun c => { c with diagSince := none }).setN (Obj.GDV_DIAG_RESULT n) w
        let s := if w = 0 then diagPasses n s
          else stageSafe n 0x3014 ((s.modStage n fun c => { c with diagPassed := false, diagDeferred := false }).log 0x3014 [n.val, w])
        nextDiag s)

/-- R313: the last step of SURVEY. -/
def execLogicImageRestore (s : State) : Res :=
  .next (s.on .logic fun s =>
    if s.mod.mode != .survey || !s.mod.holdupDone || !s.mod.diagQueue.isEmpty || diagRunning s || s.mod.restoreDone then s
    else restoreImage s)

end Sys2Proof.Machine
end

