-- ==== Sys2Proof/Machine/LogicCycle.lean ====
section
/-!
DEFINITION. One cycle of the logic engine (chapter 13): the exchange of programs (R319), the input latch (R300, R309, R310), timers and edge
detectors (R305), the output write (R309, R315, R316), the journal (R312) and the cycle as a whole with its overruns (R302). A cycle
acts as one step at its boundary (DEDUCED, log 30).
-/

namespace Sys2Proof.Machine

def State.modImage (s : State) (f : Image → Image) : State := s.modLgc fun l => { l with image := f l.image }
/-- Change one tag. -/
def State.modTag (s : State) (t : Nat) (f : TagSt → TagSt) : State :=
  s.modImage fun i => { i with tags := i.tags.map fun x => if x.defn.tag = t then f x else x }

/-! ### Exchange (R319, Table 13.7) -/

/-- An instance of the new program: all state kept with the same identity and kind; an edge detector with a changed input expression
takes its memory anew at its first scan. -/
def carryInst (old : List InstSt) (d : InstDef) : InstSt :=
  match old.find? fun x => x.defn.ident == d.ident && x.defn.kind == d.kind with
  | some x => { x with defn := d, newExpr := (d.kind == .rising || d.kind == .falling) && d.expr != x.defn.expr }
  | none => freshInst d

/-- A chart of the new program: its active step and step time kept where that step still exists. -/
def carryChart (lt : Nat) (old : List ChartSt) (d : ChartDef) : ChartSt :=
  match old.find? fun x => x.defn.ident == d.ident with
  | some x => if d.steps.contains x.step then { x with defn := d } else freshChart lt d
  | none => freshChart lt d

/-- A chart whose active step the new program has not. -/
def chartRestarts (old : List ChartSt) (d : ChartDef) : Bool :=
  old.any fun x => x.defn.ident == d.ident && !d.steps.contains x.step

/-- A tag of the new program: value and quality kept with the same number, type and binding kind. -/
def carryTag (old : List TagSt) (d : TagDef) : TagSt :=
  match old.find? fun x => x.defn.tag == d.tag && x.defn.type == d.type && x.defn.binding == d.binding with
  | some x => { x with defn := d }
  | none => freshTag d

/-- The staged program becomes active, the former one stays staged (R318). -/
def exchange (s : State) : State :=
  match s.lgc.staged with
  | none => s.modLgc fun l => { l with exchange := none }
  | some p =>
    let im := s.lgc.image
    let old := (s.lgc.program.map (·.id)).getD 0
    let im' : Image := { im with
      tags := (systemTags ++ p.tags).map (carryTag im.tags), insts := p.insts.map (carryInst im.insts), charts := p.charts.map (carryChart im.lt im.charts) }
    let s := setStations (some p) (fun i id => s.objN (Obj.LGC_STN_ID i) == id && s.lgc.station[i].st != 0) s
    let s := s.modLgc fun l => { l with
      program := some p, staged := l.program, valid := true, verified := true, image := im', exchange := none
      host := l.host.filter fun h => p.tags.any fun t => t.tag == h.1 && t.binding == 2 }
    let s := s.log 0x6008 [old, p.id, im.count]
    (p.charts.filter (chartRestarts im.charts)).foldl (fun s d => s.log 0x600A [d.ident]) s

/-! ### Input latch -/

/-- Quality bits of a tag from an acquisition quality byte (R310). -/
def latchQuality (q : Nat) : Nat := boolNat (bitsAt q 0 1 == 1) + 32 * boolNat (bitsAt q 1 4 != 0 || bitsAt q 7 1 == 1)

/-- The quality that an object read brings along: acquisition results carry theirs. -/
def objectQuality (s : State) (key : Nat) : Nat :=
  match replicaAt key 0x4C10 1 24 with
  | some c => if key % 256 = 0xC then latchQuality (s.field (Obj.ACQ_CH_STATUS (Fin.ofNat 24 c)) 0 8) else 0
  | none =>
    match replicaAt key 0x4C60 1 16 with
    | some c => if key % 256 = 8 then latchQuality (s.field (Obj.ACQ_FC_STATUS (Fin.ofNat 16 c)) 8 8) else 0
    | none => 0

/-- A value latched, or a tag that keeps its value with another quality. -/
def tagTake (x : TagSt) (raw q : Nat) : TagSt := { x with val := raw % 2 ^ typeBits x.defn.type, q := q }
/-- The source has no trustworthy value. -/
def tagSpoil (x : TagSt) : TagSt := { x with q := 1 }

/-- The safety connection whose payload a station's input tags are (R373, R377). -/
def payloadConn (s : State) (st : Nat) : Option ConnId :=
  allConns.find? fun c => connOn s c && !isProducer s c && connStation s c == st

/-- Bytes of a tag in a telegram: from its position on, four to a tag (DESIGN CHOICE, log 22). -/
def telegramRaw (data : List Nat) (d : TagDef) : Nat :=
  let n := if wideType d.type then 8 else 4
  ((data.drop (4 * d.pos)).take n).foldl (fun a b => a * 256 + b % 256) 0

/-- STATION_IN (R310, R314, R315, R377). -/
def latchStation (s : State) (x : TagSt) : TagSt :=
  match payloadConn s x.defn.to_, idOf 64 x.defn.to_ with
  | some c, _ =>
    if s.saf.conn[c].safe then tagTake x 0 16 else tagTake x (telegramRaw s.saf.conn[c].payload x.defn) 0
  | none, some i =>
    let t := s.lgc.station[i]
    if t.fresh then tagTake x (telegramRaw t.data x.defn) 0
    else if t.st = 3 then { x with q := x.q ||| 2 }
    else x
  | none, none => x

/-- PIER_IN: the committed value of a TAG block (R156, R309). -/
def latchPier (s : State) (x : TagSt) : TagSt :=
  if 4 ≤ x.defn.to_ then tagSpoil x
  else
    let p : StageId := Fin.ofNat 4 x.defn.to_
    if s.fenced (.pier p) then tagSpoil x
    else match s.pie[p].blocks[x.defn.pos]? with
      | none => tagSpoil x
      | some b =>
        let marks := match b.spec.wires.head? with
          | some (i, _) => (match s.pie[p].blocks[i]? with | some src => if src.spec.code = 0x0018 then src.status / 32 else 0 | none => 0)
          | none => 0
        match b.outs.head? with
        | some (some v) =>
          (match rawOf x.defn.type (if x.defn.type = 8 ∨ x.defn.type = 0x11 then .real v else .int (roundEven v)) with
           | .ok raw => tagTake x raw (boolNat (bitsAt marks 0 1 == 1) + 32 * bitsAt marks 1 1)
           | .error _ => tagSpoil x)
        | _ => tagSpoil x

/-- One tag at the latch (Table 13.4). -/
def latchTag (s : State) (x : TagSt) : TagSt :=
  let d := x.defn
  match d.binding with
  | 0 =>
    (match d.tag with
     | 0 => tagTake x s.lgc.image.count 0
     | 2 => tagTake x s.lgc.image.lt 0
     | 4 => tagTake x (s.lgc.tc + s.lgc.stretch) 0
     | 5 => tagTake x s.mod.mode.code 0
     | 6 => tagTake x (roleCode s) 0
     | 7 => tagTake x (s.objN Obj.TIM_STATUS) 0
     | 8 => tagTake x (s.objN Obj.LGC_STATUS) 0
     | 9 => tagTake x s.lgc.skipped 0
     | _ => x)
  | 2 => (match s.lgc.host.find? fun h => h.1 == d.tag with | some (_, raw) => tagTake x raw 0 | none => x)
  | 3 =>
    (match idOf 16 d.to_ with
     | some i => tagTake x (boolNat (diReported s i)) (boolNat (s.fio.di[i].fault.isSome || s.fenced .abutment))
     | none => tagSpoil x)
  | 5 =>
    (match readObj s d.to_ with
     | .ok v => (match rawOf d.type v with | .ok raw => tagTake x raw (objectQuality s d.to_) | .error _ => tagSpoil x)
     | .error _ => tagSpoil x)
  | 7 => latchStation s x
  | 9 => latchPier s x
  | _ => x

/-- The input latch: all input-bound tags; without a program only the system tags. -/
def latch (s : State) : State :=
  let used (x : TagSt) : Bool := s.lgc.valid || x.defn.binding == 0
  let s' := s.modImage fun i => { i with tags := i.tags.map fun x => if used x then latchTag s x else x }
  s'.modLgc fun l => { l with host := [], station := l.station.map fun t => { t with latched := t.fresh, fresh := false } }

/-! ### Execution (R305, R319) -/

/-- One scan of a timer or an edge detector at logic time `lt`. -/
def scanInst (lt : Nat) (sc : Scan) (x : InstSt) : InstSt :=
  let u := sc.input
  match x.defn.kind with
  | .ton =>
    if u then
      let t0 := x.start.getD lt
      let et := min (lt - t0) sc.pt
      { x with start := some t0, et := et, q := decide (sc.pt ≤ lt - t0), mem := u }
    else { x with start := none, et := 0, q := false, mem := u }
  | .tof =>
    if u then { x with start := none, et := 0, q := true, mem := u }
    else if x.start.isNone && !x.q then { x with mem := u }
    else
      let t0 := x.start.getD lt
      { x with start := some t0, et := min (lt - t0) sc.pt, q := decide (lt - t0 < sc.pt), mem := u }
  | .tp =>
    let t := if u && !x.mem && x.start.isNone then some lt else x.start
    match t with
    | none => { x with et := 0, q := false, mem := u }
    | some t0 =>
      let overc := decide (sc.pt ≤ lt - t0)
      if overc && !u then { x with start := none, et := 0, q := false, mem := u }
      else { x with start := some t0, et := min (lt - t0) sc.pt, q := !overc, mem := u }
  | .rising => { x with q := u && !x.mem && !x.newExpr, mem := u, newExpr := false }
  | .falling => { x with q := !u && x.mem && !x.newExpr, mem := u, newExpr := false }
  | .other _ => x

/-- Tags the program may write: INTERNAL and the outputs (Table 13.4). -/
def writable (d : TagDef) : Bool := d.binding == 1 || d.binding == 4 || d.binding == 6 || d.binding == 8 || d.binding == 10

/-- The program's execution as `run` gives it. REJECTED outlasts the program's own write (R309). -/
def execute (run : CycleRun) (s : State) : State :=
  s.modImage fun im =>
    let lt := im.lt
    let insts := run.scans.foldl (fun (l : List InstSt) sc => l.map fun x => if x.defn.ident = sc.ident then scanInst lt sc x else x) im.insts
    let insts := run.data.foldl (fun (l : List InstSt) d => l.map fun x =>
      match x.defn.kind with | .other _ => if x.defn.ident = d.1 then { x with data := d.2 } else x | _ => x) insts
    let charts := run.steps.foldl (fun (l : List ChartSt) st => l.map fun x =>
      if x.defn.ident = st.1 ∧ x.defn.steps.contains st.2 ∧ x.step ≠ st.2 then { x with step := st.2, since := lt } else x) im.charts
    let tags := run.writes.foldl (fun (l : List TagSt) w => l.map fun x =>
      if x.defn.tag = w.1 && writable x.defn then tagTake x w.2 (x.q &&& 64) else x) im.tags
    { im with insts := insts, charts := charts, tags := tags }

/-! ### Output write -/

/-- A value sent to a TAG block: its state, in every bank, so that the next dispatch uses it (R309). -/
def pierOut (d : TagDef) (v : Val) (s : State) : State :=
  if 4 ≤ d.to_ then s
  else
    let p : StageId := Fin.ofNat 4 d.to_
    let sg : Option Rat := match v with | .int z => some (r32 z) | .real q => some (r32 q) | _ => none
    let put (l : List BlockSt) : List BlockSt :=
      l.modify d.pos fun b => if b.spec.code = 0x001A && b.spec.wires.isEmpty then { b with states := [sg] } else b
    if s.fenced (.pier p) then s
    else s.modPier p fun q => { q with
      blocks := put q.blocks, work := q.work.map fun w => { w with blocks := put w.blocks }
      post := q.post.map fun w => { w with blocks := put w.blocks }, before := q.before.map fun w => { w with blocks := put w.blocks } }

/-- An OBJECT_OUT write; a refused one marks its tag (R309). -/
def objectOut (x : TagSt) (s : State) : State :=
  let r := writeRequest .logic x.defn.to_ (tagVal x.defn.type x.val) none s
  match r.1 with
  | none => r.2.modTag x.defn.tag fun y => { y with q := setBitsAt y.q 6 1 0 }
  | some 0 => r.2.modTag x.defn.tag fun y => { y with q := setBitsAt y.q 6 1 0 }
  | some a => (r.2.modTag x.defn.tag fun y => { y with q := setBitsAt y.q 6 1 1 }).logOnce 0x6010 0 [x.defn.tag, x.defn.to_, a]

/-- One output-bound tag (Table 13.4); outputs 13 to 16 stand for the contactor drivers. -/
def writeTag (s : State) (x : TagSt) : State :=
  let d := x.defn
  match d.binding with
  | 4 =>
    (match idOf 12 d.to_, idOf 4 (d.to_ - 12) with
     | some o, _ => fieldOut o (x.val != 0) 0 s
     | none, some i => driverOut i (x.val != 0) 0 s
     | none, none => s)
  | 6 => objectOut x s
  | 10 => pierOut d (tagVal d.type x.val) s
  | _ => s

/-- A station's output telegram: sent to a station that is PRESENT, resumed at the output write of the first cycle that latched fresh inputs
(R315, R316). Counter and bytes go out; 0x600C tells the time in ms since its last telegram before. -/
def writeStation (s : State) (i : StationId) : State :=
  let t := s.lgc.station[i]
  let back := (t.st == 1 || t.st == 4) && t.latched
  if t.st ≠ 2 && !back then s
  else
    let s := if back then
        ((s.modStn i fun t => { t with st := 2 }).setN (Obj.LGC_STN_STATE i) 2).log 0x600C [i.val + 1, s.since t.awayFrom / cyclesMs]
      else s
    let c := (t.sent + 1) % 4294967296
    let bytes := stationPayload s (i.val + 1)
    (s.modStn i fun t => { t with sent := c }).send 2 51 ([(i.val + 1 : Int), (c : Int)] ++ bytes.map Int.ofNat)

/-- The output write of R300. -/
def writeOutputs (s : State) : State :=
  if !s.lgc.valid then s
  else (List.finRange 64).foldl writeStation (s.lgc.image.tags.foldl writeTag s)

/-! ### Journal (R312) -/

/-- The journal of a cycle that changed `lines` lines: these, those of the cycle before and those kept. `hold` is the HOLD voltage. -/
def journal (lines : Nat) (hold : Rat) (s : State) : State :=
  let n := min 16320 (lines + s.lgc.marked + s.lgc.kept)
  let s := s.setR Obj.NVS_HOLD_V (r32 hold)
  let ea := energyHeld s hold
  let es := energyNeeded s .journal n
  if ea < es ∨ s.nvs.stopped ∨ !s.alive .house then
    let s := deferStore .journal ea es s
    let s := if s.lgc.lag then s else s.log 0x6005 [n]
    showLogic ((s.modLgc fun l => { l with lag := true, kept := min 16320 (l.kept + l.marked), marked := lines }).bump Obj.LGC_RETAIN_LAG)
  else
    let b : Fin 2 := Fin.ofNat 2 (1 - s.lgc.lastBank % 2)
    let s := undeferStore .journal s
    let s := s.modLgc fun l => { l with
      bank := l.bank.set b (some l.image), lastBank := b.val, lag := false, marked := min 16320 (lines + l.kept), kept := 0 }
    showLogic (s.setN Obj.LGC_RETAIN_LAG 0)

/-! ### The cycle -/

/-- Writes of the engine's objects take effect at the boundary (R324). -/
def takeLogicWrites (s : State) : State :=
  let mine (c : ObjCell) : Bool := decide (0x510000 ≤ c.1 ∧ c.1 < 0x530000)
  let ws := s.commitWrites.filter mine
  ws.foldl (fun s c => actNow s (s.dueCell .nextCommit c)) { s with commitWrites := s.commitWrites.filter fun c => !mine c }

/-- T_c and e of the boundary (R303). -/
def takePeriod (s : State) : State :=
  let tc := s.objN Obj.LGC_CYCLE_PERIOD
  let s := if tc = s.lgc.tc then s else s.log 0x600D [s.lgc.tc, tc]
  let s := s.modLgc fun l => { l with tc := tc, stretch := stretchMs s tc }
  showLogic (s.setN Obj.LGC_PERIOD_IN_FORCE (s.lgc.tc + s.lgc.stretch))

/-- R302: the overrun limit; the fence is requested after its event. -/
def cycleLimit (s : State) : State :=
  let run := s.objN Obj.LGC_OVERRUN_RUN
  if run ≠ 0 ∧ s.objN Obj.LGC_OVERRUN_LIMIT ≤ run then fence .logic (s.log 0x6003 [run]) else s

/-- R302: a boundary reached while the cycle is busy is skipped; in the cycle of an exchange it does not count (R320). -/
def skipBoundary (s : State) : State :=
  let s := takePeriod (takeLogicWrites s)
  let s := if s.lgc.exchanging then s
    else
      let s := (s.bump Obj.LGC_OVERRUN_COUNT).setN Obj.LGC_OVERRUN_RUN (min 255 (s.objN Obj.LGC_OVERRUN_RUN + 1))
      s.log 0x6002 [s.lgc.busy, s.objN Obj.LGC_OVERRUN_RUN]
  let s := s.setBit Obj.LGC_STATUS 5 true
  cycleLimit (s.modLgc fun l => { l with skipped := l.skipped + 1, nextAt := l.nextAt + periodCycles s })

/-- R313: RESET_RETAIN at a boundary. -/
def startInitial (s : State) : State :=
  let s := (s.modLgc fun l => { l with image := initialImage l.program l.image.count l.image.lt, resetRetain := false }).setBit Obj.LGC_STATUS 7 true
  s.log 0x6006 [boolNat s.lgc.bank[(0 : Fin 2)].isSome, boolNat s.lgc.bank[(1 : Fin 2)].isSome]

/-- What the boundary itself does before the latch: exchange, initial values, logic time (R304) and the cycle count. -/
def openCycle (s : State) : State :=
  let b := s.lgc.nextAt
  let s := match s.lgc.exchange with
    | some i => if i = 0 ∨ i ≤ b then (exchange s).modLgc fun l => { l with exchanging := true } else s.modLgc fun l => { l with exchanging := false }
    | none => s.modLgc fun l => { l with exchanging := false }
  let s := if s.lgc.resetRetain then startInitial s else s
  let adv := if s.lgc.starting then s.lgc.tc * 1000 else (b - s.lgc.lastAt) / cyclesMs * 1000
  s.modImage fun i => { i with
    count := i.count + 1, lt := i.lt + adv, tags := i.tags.map fun x => { x with oldVal := x.val, oldQ := x.q } }

/-- Busy time, load and idle (R301, Table 13.9). -/
def closeCycle (b busy : Nat) (s : State) : State :=
  let te := s.lgc.tc + s.lgc.stretch
  let next := b + periodCycles s
  let endAt := b + cyclesUs busy
  let loads := (b, busy) :: s.lgc.loads.filter fun x => decide (b < x.1 + cyclesSec)
  let s := s.modLgc fun l => { l with
    busyUntil := endAt, busy := busy, skipped := 0, lastAt := b, nextAt := next, starting := false, loads := loads }
  let s := s.setN Obj.LGC_MAX_BUSY (max (s.objN Obj.LGC_MAX_BUSY) busy)
  let s := s.setR Obj.LGC_LOAD (r32 (mkRat ((loads.map (·.2)).sum : Nat) 10000))
  let s := (s.setN Obj.LGC_CYCLE_COUNT s.lgc.image.count).setN Obj.LGC_LT s.lgc.image.lt
  let short := decide ((100 - s.objN Obj.LGC_IDLE_MIN) * te * 1000 < busy * 100) && decide (endAt ≤ next)
  let s := s.setBit Obj.LGC_STATUS 4 short
  if short then s.logOnce 0x6004 0 [busy, te] else s

/-- One cycle at its boundary (Table 13.1). -/
def runCycle (run : CycleRun) (s : State) : State :=
  let b := s.lgc.nextAt
  let s := if s.lgc.skipped = 0 then s.setN Obj.LGC_OVERRUN_RUN 0 else s
  let s := (takePeriod (takeLogicWrites s)).setBit Obj.LGC_STATUS 5 false
  let s := cycleLimit s
  if s.fenced .logic then s
  else
    let s := latch (showLogic (openCycle s))
    let s := if s.lgc.valid then execute run s else s
    let s := writeOutputs s
    let lines := if s.lgc.exchanging then 16320 else min 16320 run.lines
    let s := closeCycle b run.busy (journal lines run.hold s)
    let s := showLogic s
    if isDuplex s && s.twn.active then linkSend 50 [s.lgc.image.count, lines] s else s

end Sys2Proof.Machine
end

