-- ==== Sys2Proof/Machine/Logic.lean ====
section
/-!
DEFINITION. Commands and events of the logic engine (chapter 13): cycle boundaries, tags, stations, programs, the cold standby.
-/

namespace Sys2Proof.Machine

/-- R300, R302: the engine reaches its next boundary. -/
def execLogicCycleBoundary (run : CycleRun) (s : State) : Res :=
  .next (s.on .logic fun s =>
    if !s.lgc.running || isStandby s || decide (lgcNow s < s.lgc.nextAt) then s
    else if s.lgc.nextAt < s.lgc.busyUntil then skipBoundary s
    else runCycle run s)

/-- R302: a cycle still busy 4 × T_e after its boundary. -/
def execLogicHangTimeout (s : State) : Res :=
  .next (s.on .logic fun s =>
    if s.lgc.running && lgcBusy s && decide (s.lgc.lastAt + 4 * periodCycles s ≤ lgcNow s) then
      fence .logic (s.log 0x6003 [((lgcNow s - s.lgc.lastAt) * 5 / 2048 : Nat)])
    else s)

/-- R308. -/
def execHostTagWrite (tag : Nat) (v : Val) (w : Writer) (s : State) : Res := .next (dictReq w (0xA00000 + tag) v none s)

/-- R308. -/
def execTagPeek (tag : Nat) (w : Writer) (s : State) : Res := .next (dictReq w Obj.LGC_PEEK_TAG (.int tag) none s)

/-- R303. -/
def execCyclePeriodWrite (ms : Nat) (w : Writer) (s : State) : Res := .next (dictReq w Obj.LGC_CYCLE_PERIOD (.int ms) none s)

/-! ### Remote stations (R314, R315, R349) -/

/-- A telegram's counter against the last accepted one (R349): `none` for a CAN telegram, which has none. -/
def telegramFresh (t : StationSt) (counter : Option Nat) : Bool :=
  match counter, t.counter with
  | some c, some l => t.first || (let d := (c + 4294967296 - l) % 4294967296; decide (1 ≤ d) && decide (d ≤ 2147483647))
  | _, _ => true

/-- R349, R314: a telegram of a station of the program. -/
def execStationTelegramReceived (st : StationId) (counter : Option Nat) (data : List Nat) (s : State) : Res :=
  .next (s.on .network fun s =>
    let t := s.lgc.station[st]
    if t.st = 0 then s
    else if !telegramFresh t counter then (s.bump Obj.NET_DUP_DISCARDED).logOnce 0x700C 0 []
    else
      let go := if t.st = 1 ∨ t.st = 3 then 4 else t.st
      let s := s.modStn st fun t => { t with
        st := go, data := data, counter := counter, first := false, lastRx := s.now, fresh := true,
        awayFrom := if t.st = 3 then t.lastRx else if t.st = 1 then s.now else t.awayFrom }
      (s.setN (Obj.LGC_STN_STATE st) go).setN (Obj.LGC_STN_LAST_RX st) s.now)

/-- R315: no telegram for LGC_STN_TIMEOUT ms. -/
def execStationDrop (st : StationId) (s : State) : Res :=
  .next (s.on .network fun s =>
    let t := s.lgc.station[st]
    if (t.st = 2 ∨ t.st = 4) ∧ s.objN (Obj.LGC_STN_TIMEOUT st) * cyclesMs ≤ s.since t.lastRx then
      let s := (s.modStn st fun t => { t with st := 3, first := true }).setN (Obj.LGC_STN_STATE st) 3
      (s.bump (Obj.LGC_STN_DROPS st)).log 0x600B [st.val + 1, t.lastRx]
    else s)

/-! ### Programs (R317, R318, R324) -/

/-- R317: a block of a package; the last brings the package as a whole. -/
def execProgramStageBlock (last : Option Program) (w : Writer) (s : State) : Res :=
  .next (if !s.reaches w then s
    else answer w Obj.LGC_STAGE_DATA
      (if !s.alive .house then (some 0x06060000, s)
       else match writeCheck s w Obj.LGC_STAGE_DATA (.bytes []) false with
        | 0 => if !s.alive .logic then (some 0x08000022, s) else let r := stageBlock last s; (some r.1, r.2.forward Obj.LGC_STAGE_DATA [])
        | a => (some a, s)))

/-- R318. -/
def execProgramExchange (w : Writer) (s : State) : Res := .next (dictReq w Obj.LGC_CMD (.int 0x5A01) none s)
/-- R324. -/
def execDiscardStaged (w : Writer) (s : State) : Res := .next (dictReq w Obj.LGC_CMD (.int 0x5A02) none s)
/-- R313. -/
def execResetRetain (w : Writer) (s : State) : Res := .next (dictReq w Obj.LGC_CMD (.int 0x5A03) none s)

/-! ### The cold standby (R321) -/

/-- R321: a snapshot at the standby. `none`: it was not complete when the next began. A standby that is not level waits for a full image
transfer. The standby journals what it takes over. -/
def execSnapshotReceived (image : Option Image) (full : Bool) (lines : Nat) (hold : Rat) (s : State) : Res :=
  .next (s.on .logic fun s =>
    if !isStandby s || !linkUp s then s
    else match image with
      | none => showLogic ((s.modLgc fun l => { l with level := false }).log 0x600F [s.lgc.image.count])
      | some im =>
        if !s.lgc.level && !full then s
        else
          let s := s.modLgc fun l => { l with image := im, level := true }
          let s := (s.setN Obj.LGC_CYCLE_COUNT im.count).setN Obj.LGC_LT im.lt
          journal (if full then 16320 else min 16320 lines) hold s)

end Sys2Proof.Machine
end

