-- ==== Sys2Proof/Machine/Modes.lean ====
section
/-!
DEFINITION. The mode machine's tick (R28 to R47), its timeouts (R42, R43) and the rows of MOD_COMMAND and MOD_STAGE_CMD (R30, R34, R37, R40,
R43, R44, R466).
-/

namespace Sys2Proof.Machine

/-! ### Commands -/

/-- R40. -/
def execModStart (w : Writer) (s : State) : Res := .next (dictReq w Obj.MOD_COMMAND (.int 0x5A01) none s)
/-- R43. -/
def execModStop (w : Writer) (s : State) : Res := .next (dictReq w Obj.MOD_COMMAND (.int 0x5A02) none s)
/-- R44. -/
def execServiceRelease (w : Writer) (s : State) : Res := .next (dictReq w Obj.MOD_COMMAND (.int 0x5A03) none s)
/-- R37. -/
def execStartStage (n : StageId) (w : Writer) (s : State) : Res := .next (dictReq w (Obj.MOD_STAGE_CMD n.val) (.int 1) none s)
/-- R466. -/
def execStopStage (n : StageId) (w : Writer) (s : State) : Res := .next (dictReq w (Obj.MOD_STAGE_CMD n.val) (.int 2) none s)
/-- R34. -/
def execResetSafe (n : StageId) (w : Writer) (s : State) : Res := .next (dictReq w (Obj.MOD_STAGE_CMD n.val) (.int 3) none s)

/-! ### Charge -/

/-- Stages below the charge level, as a mask (event 0x1003). -/
def uncharged (s : State) : Nat := maskOf ((allStages.filter fun n => takesPart s n && s.stageSt n != .safe && !linkCharged s n).map Fin.val)

/-- R42: charge not complete in time. -/
def execChargeTimeout (s : State) : Res :=
  .next (s.on .keystone fun s =>
    if s.mod.mode != .charge || s.mod.stopPending.isSome || decide (s.since s.mod.enteredAt < s.objN Obj.MOD_CHARGE_TIMEOUT * cyclesMs) then s
    else demandStop .plain (s.log 0x1003 [uncharged s]))

/-- R43: a stop not complete in time; event data: stages and contactors outstanding. -/
def execStopTimeout (s : State) : Res :=
  .next (s.on .keystone fun s =>
    if s.mod.mode != .stop || stopDone s || s.mod.lockoutPending.contains 0x1004 || decide (s.since s.mod.enteredAt < s.objN Obj.MOD_STOP_TIMEOUT * cyclesMs) then s
    else
      let stages := maskOf ((allStages.filter s.switching).map Fin.val)
      let socs := maskOf ((allSocs.filter fun i => socOwned s i && s.saf.soc[i].energised).map Fin.val)
      demandLockout 0x1004 (s.log 0x1004 [stages, socs]))

/-! ### The tick -/

/-- What the partner reports is kept while the link is up (R46, R47, R418); a secondary in LOCKOUT stops the primary of a viaduct (R46). -/
def takeView (v : Option PartnerView) (s : State) : State :=
  match v with
  | none => s
  | some v =>
    if s.twn.mode = 0 || !linkUp s then s
    else
      let s := showTwin (s.modTwn fun t => { t with view := some v, partnerFenced := t.partnerFenced || v.fenced })
      if isViaduct s && s.twn.primary && v.mode == .lockout && s.mod.mode.running && s.mod.mode != .stop then demandStop .plain s else s

/-- What the keystone watches at every tick: safe stops (R369, R370), cover and permits (R359, R360, R379), permissions, and pulses that
return once the stages from which they were removed have left SAFE (R371). -/
def watchTick (t : TickIn) (s : State) : State :=
  let s := s.modMod fun m => { m with link := t.link }
  let s := s.modSaf fun x => { x with removed := x.removed.filter fun n => s.stageSt n == .safe }
  let s := allStages.foldl (fun (s : State) (n : StageId) => ssdMeasure n s) s
  let s := allStages.foldl (fun (s : State) (n : StageId) => plausible n (pierMeasure s n) (ssdJudge n s)) s
  refreshPermissions (permitReview (coverReview s))

/-- What follows from the tick in a pair (R415, R420, Table 17.5); a handover whose claim has not come a tick after H is over. -/
def pairTick (s : State) : State :=
  let s := match s.twn.handover with
    | some (h, 2) => if h + cyclesTick < s.now then showTwin (s.modTwn fun x => { x with handover := none }) else s
    | _ => s
  if isDuplex s then claimReleases (holdoffReview (armedReview s)) else s

/-- What the tick has read and watched, before its conditions act. -/
def watched (t : TickIn) (s : State) : State := watchTick t (takeView t.partner s)

/-- The conditions of the tick have acted (R30); the commands that waited for it have not. -/
def conditioned (t : TickIn) (s : State) : State := tickConditions s.twn.view (watched t s)

/-- R28: conditions, then the moves that waited. An EMCY that waited for its inhibit time goes out (DESIGN CHOICE, log 161). -/
def modeTick (t : TickIn) (s : State) : State := emcyRelease (pairTick (tickCommands (conditioned t s)))

/-- R28: every 10 µs. -/
def execModeTick (t : TickIn) (s : State) : Res := .next (s.on .keystone (modeTick t))

end Sys2Proof.Machine
end

