-- ==== Sys2Proof/Machine/Dispatch.lean ====
section
/-!
DEFINITION. The one place where a command finds its meaning: one arm per constructor of `Instr`, in the order of the
opcode table, each a direct call of the meaning of that row.
-/

namespace Sys2Proof.Machine

def exec (i : Instr) (s : State) : Host.Outcome State Fault Refusal :=
  match i with
  | .timeBroadcast dev => Sys2Proof.Machine.execTimeBroadcast dev s
  | .jointWordArrival src dst poisoned w => Sys2Proof.Machine.execJointWordArrival src dst poisoned w s
  | .commandArrival c => Sys2Proof.Machine.execCommandArrival c s
  | .effectiveInstantReached dst => Sys2Proof.Machine.execEffectiveInstantReached dst s
  | .islandFence isl why => Sys2Proof.Machine.execIslandFence isl why s
  | .safePatternApply g => Sys2Proof.Machine.execSafePatternApply g s
  | .safePatternLeave g => Sys2Proof.Machine.execSafePatternLeave g s
  | .contactorEnableLapse => Sys2Proof.Machine.execContactorEnableLapse s
  | .modeTick t => Sys2Proof.Machine.execModeTick t s
  | .auxPowerUp => Sys2Proof.Machine.execAuxPowerUp s
  | .aditEntry absence primary => Sys2Proof.Machine.execAditEntry absence primary s
  | .aditPllTimeout => Sys2Proof.Machine.execAditPllTimeout s
  | .imageVerified imgA imgB progOk => Sys2Proof.Machine.execImageVerified imgA imgB progOk s
  | .surveyConfigLoad dictionary backup => Sys2Proof.Machine.execSurveyConfigLoad dictionary backup s
  | .selfCalComplete readings => Sys2Proof.Machine.execSelfCalComplete readings s
  | .holdupCheckComplete microF volts link => Sys2Proof.Machine.execHoldupCheckComplete microF volts link s
  | .deferredDiagStart n => Sys2Proof.Machine.execDeferredDiagStart n s
  | .offStateTestComplete n r => Sys2Proof.Machine.execOffStateTestComplete n r s
  | .logicImageRestore => Sys2Proof.Machine.execLogicImageRestore s
  | .modStart w => Sys2Proof.Machine.execModStart w s
  | .modStop w => Sys2Proof.Machine.execModStop w s
  | .serviceRelease w => Sys2Proof.Machine.execServiceRelease w s
  | .startStage n w => Sys2Proof.Machine.execStartStage n w s
  | .stopStage n w => Sys2Proof.Machine.execStopStage n w s
  | .resetSafe n w => Sys2Proof.Machine.execResetSafe n w s
  | .stageLimitExit n => Sys2Proof.Machine.execStageLimitExit n s
  | .chargeTimeout => Sys2Proof.Machine.execChargeTimeout s
  | .stopTimeout => Sys2Proof.Machine.execStopTimeout s
  | .pierDispatch p smp => Sys2Proof.Machine.execPierDispatch p smp s
  | .xvRampEnd n => Sys2Proof.Machine.execXvRampEnd n s
  | .gflParamHoldClear n w => Sys2Proof.Machine.execGflParamHoldClear n w s
  | .anchorInstant n => Sys2Proof.Machine.execAnchorInstant n s
  | .claimSlotReached n => Sys2Proof.Machine.execClaimSlotReached n s
  | .claimHoldoffExpiry n => Sys2Proof.Machine.execClaimHoldoffExpiry n s
  | .contactorCloseTimeout n => Sys2Proof.Machine.execContactorCloseTimeout n s
  | .rampTimeout n => Sys2Proof.Machine.execRampTimeout n s
  | .syncDwellExpiry n => Sys2Proof.Machine.execSyncDwellExpiry n s
  | .syncTimeout n => Sys2Proof.Machine.execSyncTimeout n s
  | .syncLineDeadTimeout n => Sys2Proof.Machine.execSyncLineDeadTimeout n s
  | .joinGlideEnd n => Sys2Proof.Machine.execJoinGlideEnd n s
  | .tieClose n w => Sys2Proof.Machine.execTieClose n w s
  | .tieOpen n w => Sys2Proof.Machine.execTieOpen n w s
  | .rideEndTimeout n => Sys2Proof.Machine.execRideEndTimeout n s
  | .faultBudgetExhausted n => Sys2Proof.Machine.execFaultBudgetExhausted n s
  | .inputLossDc n rd => Sys2Proof.Machine.execInputLossDc n rd s
  | .inputLossAc n vin => Sys2Proof.Machine.execInputLossAc n vin s
  | .inputReturnConfirm n => Sys2Proof.Machine.execInputReturnConfirm n s
  | .inputRampComplete n => Sys2Proof.Machine.execInputRampComplete n s
  | .coastReleaseEnd n => Sys2Proof.Machine.execCoastReleaseEnd n s
  | .coastLinkLowTimeout n => Sys2Proof.Machine.execCoastLinkLowTimeout n s
  | .coastMaxTimeout n => Sys2Proof.Machine.execCoastMaxTimeout n s
  | .inputPllHoldExpiry n => Sys2Proof.Machine.execInputPllHoldExpiry n s
  | .inputZeroCrossing n z => Sys2Proof.Machine.execInputZeroCrossing n z s
  | .surveyRoundStart n => Sys2Proof.Machine.execSurveyRoundStart n s
  | .surveyRoundComplete n instant => Sys2Proof.Machine.execSurveyRoundComplete n instant s
  | .adaptOffsetRampEnd n => Sys2Proof.Machine.execAdaptOffsetRampEnd n s
  | .canaryAct n j => Sys2Proof.Machine.execCanaryAct n j s
  | .pierCommit p word => Sys2Proof.Machine.execPierCommit p word s
  | .commandSetArrival frame => Sys2Proof.Machine.execCommandSetArrival frame s
  | .provisionalSetArrival frame => Sys2Proof.Machine.execProvisionalSetArrival frame s
  | .postCommit p total => Sys2Proof.Machine.execPostCommit p total s
  | .pierOverrun p => Sys2Proof.Machine.execPierOverrun p s
  | .bistRoundComplete p pass => Sys2Proof.Machine.execBistRoundComplete p pass s
  | .bistLate p duration => Sys2Proof.Machine.execBistLate p duration s
  | .pieSelftest p w => Sys2Proof.Machine.execPieSelftest p w s
  | .selftestComplete p failing => Sys2Proof.Machine.execSelftestComplete p failing s
  | .pieParamHoldClear p w => Sys2Proof.Machine.execPieParamHoldClear p w s
  | .blockStateReset p inst w => Sys2Proof.Machine.execBlockStateReset p inst w s
  | .timebaseStart tb => Sys2Proof.Machine.execTimebaseStart tb s
  | .sampleTrigger tb => Sys2Proof.Machine.execSampleTrigger tb s
  | .reloadPoint tb peak => Sys2Proof.Machine.execReloadPoint tb peak s
  | .tbPeriodChange tb period inst w => Sys2Proof.Machine.execTbPeriodChange tb period inst w s
  | .tbPhaseShift tb delta inst w => Sys2Proof.Machine.execTbPhaseShift tb delta inst w s
  | .staticCtrlWrite ch ctrl w => Sys2Proof.Machine.execStaticCtrlWrite ch ctrl w s
  | .delayLineRecal failing => Sys2Proof.Machine.execDelayLineRecal failing s
  | .edgeHeartbeat => Sys2Proof.Machine.execEdgeHeartbeat s
  | .triggerFire ch t => Sys2Proof.Machine.execTriggerFire ch t s
  | .rawOverrideEnable on w => Sys2Proof.Machine.execRawOverrideEnable on w s
  | .rawOutputWrite low mask w => Sys2Proof.Machine.execRawOutputWrite low mask w s
  | .tripSourceActive rd => Sys2Proof.Machine.execTripSourceActive rd s
  | .tripSourceInactive rd => Sys2Proof.Machine.execTripSourceInactive rd s
  | .tripPeriodEnd g => Sys2Proof.Machine.execTripPeriodEnd g s
  | .tripFreeRunDecrement g => Sys2Proof.Machine.execTripFreeRunDecrement g s
  | .tripGroupLatch g => Sys2Proof.Machine.execTripGroupLatch g s
  | .tripGroupClear g w => Sys2Proof.Machine.execTripGroupClear g w s
  | .gdUvloEntry rd => Sys2Proof.Machine.execGdUvloEntry rd s
  | .gdUvloExit => Sys2Proof.Machine.execGdUvloExit s
  | .desatDetect rd => Sys2Proof.Machine.execDesatDetect rd s
  | .softTurnoffSecondLevel d => Sys2Proof.Machine.execSoftTurnoffSecondLevel d s
  | .millerClampEngage rd => Sys2Proof.Machine.execMillerClampEngage rd s
  | .clearDesat d w => Sys2Proof.Machine.execClearDesat d w s
  | .gdDiagCmd n w => Sys2Proof.Machine.execGdDiagCmd n w s
  | .ackPulseReceived p ns => Sys2Proof.Machine.execAckPulseReceived p ns s
  | .ackWindowExpiry p => Sys2Proof.Machine.execAckWindowExpiry p s
  | .headFaultDetect rd => Sys2Proof.Machine.execHeadFaultDetect rd s
  | .headCodeReceived p code => Sys2Proof.Machine.execHeadCodeReceived p code s
  | .clearPort p dark w => Sys2Proof.Machine.execClearPort p dark w s
  | .acqTimerEvent t => Sys2Proof.Machine.execAcqTimerEvent t s
  | .conversionComplete c raw => Sys2Proof.Machine.execConversionComplete c raw s
  | .acqSelfCal w => Sys2Proof.Machine.execAcqSelfCal w s
  | .acqDiag c w => Sys2Proof.Machine.execAcqDiag c w s
  | .acqDiagComplete r => Sys2Proof.Machine.execAcqDiagComplete r s
  | .acqRestore c w => Sys2Proof.Machine.execAcqRestore c w s
  | .trackingSample c m => Sys2Proof.Machine.execTrackingSample c m s
  | .substitutionApply c => Sys2Proof.Machine.execSubstitutionApply c s
  | .sdFault k stream => Sys2Proof.Machine.execSdFault k stream s
  | .sdFaultEnd rd => Sys2Proof.Machine.execSdFaultEnd rd s
  | .chainOutput c bits => Sys2Proof.Machine.execChainOutput c bits s
  | .bankSwitch c inst w => Sys2Proof.Machine.execBankSwitch c inst w s
  | .bankFadeEnd c => Sys2Proof.Machine.execBankFadeEnd c s
  | .triggerHoldoffEnd p => Sys2Proof.Machine.execTriggerHoldoffEnd p s
  | .triggerArm p w => Sys2Proof.Machine.execTriggerArm p w s
  | .streamEnable p w => Sys2Proof.Machine.execStreamEnable p w s
  | .datagramAgeTimeout p => Sys2Proof.Machine.execDatagramAgeTimeout p s
  | .galleryRead p k w => Sys2Proof.Machine.execGalleryRead p k w s
  | .referenceLost rd => Sys2Proof.Machine.execReferenceLost rd s
  | .refHoldoverEnd r => Sys2Proof.Machine.execRefHoldoverEnd r s
  | .referenceFreqCheck dev step => Sys2Proof.Machine.execReferenceFreqCheck dev step s
  | .referenceHealthy r => Sys2Proof.Machine.execReferenceHealthy r s
  | .revertRef w => Sys2Proof.Machine.execRevertRef w s
  | .pllLock rd => Sys2Proof.Machine.execPllLock rd s
  | .pllLossOfLock rd => Sys2Proof.Machine.execPllLossOfLock rd s
  | .pllRelockAttempt p => Sys2Proof.Machine.execPllRelockAttempt p s
  | .pllRelockTimeout p => Sys2Proof.Machine.execPllRelockTimeout p s
  | .netPllLoss => Sys2Proof.Machine.execNetPllLoss s
  | .netPllRelockAttempt locks => Sys2Proof.Machine.execNetPllRelockAttempt locks s
  | .clockMonitorCheck islands rc => Sys2Proof.Machine.execClockMonitorCheck islands rc s
  | .segmentUpdate b => Sys2Proof.Machine.execSegmentUpdate b s
  | .ptpSyncReceived b m => Sys2Proof.Machine.execPtpSyncReceived b m s
  | .syncLossTimeout b => Sys2Proof.Machine.execSyncLossTimeout b s
  | .ptpAnnounceReceived b m => Sys2Proof.Machine.execPtpAnnounceReceived b m s
  | .announceReceiptTimeout b => Sys2Proof.Machine.execAnnounceReceiptTimeout b s
  | .ptpDelayMessageReceived b m => Sys2Proof.Machine.execPtpDelayMessageReceived b m s
  | .ptpSyncTransmit b => Sys2Proof.Machine.execPtpSyncTransmit b s
  | .stepNta w => Sys2Proof.Machine.execStepNta w s
  | .stepNtb w => Sys2Proof.Machine.execStepNtb w s
  | .tcFrameForward toE2 frame residence linkDelay => Sys2Proof.Machine.execTcFrameForward toE2 frame residence linkDelay s
  | .ttExchange primary boot => Sys2Proof.Machine.execTtExchange primary boot s
  | .logicCycleBoundary run => Sys2Proof.Machine.execLogicCycleBoundary run s
  | .logicHangTimeout => Sys2Proof.Machine.execLogicHangTimeout s
  | .hostTagWrite tag v w => Sys2Proof.Machine.execHostTagWrite tag v w s
  | .tagPeek tag w => Sys2Proof.Machine.execTagPeek tag w s
  | .cyclePeriodWrite ms w => Sys2Proof.Machine.execCyclePeriodWrite ms w s
  | .stationTelegramReceived st counter data => Sys2Proof.Machine.execStationTelegramReceived st counter data s
  | .stationDrop st => Sys2Proof.Machine.execStationDrop st s
  | .programStageBlock last w => Sys2Proof.Machine.execProgramStageBlock last w s
  | .programExchange w => Sys2Proof.Machine.execProgramExchange w s
  | .discardStaged w => Sys2Proof.Machine.execDiscardStaged w s
  | .resetRetain w => Sys2Proof.Machine.execResetRetain w s
  | .snapshotReceived image full lines hold => Sys2Proof.Machine.execSnapshotReceived image full lines hold s
  | .dictionaryWrite key v w earlier later => Sys2Proof.Machine.execDictionaryWrite key v w earlier later s
  | .ownershipClaim w => Sys2Proof.Machine.execOwnershipClaim w s
  | .ownershipForce w => Sys2Proof.Machine.execOwnershipForce w s
  | .ownershipRelease w => Sys2Proof.Machine.execOwnershipRelease w s
  | .ownershipTimeout => Sys2Proof.Machine.execOwnershipTimeout s
  | .serviceChallengeRead w => Sys2Proof.Machine.execServiceChallengeRead w s
  | .serviceResponse signature w => Sys2Proof.Machine.execServiceResponse signature w s
  | .serviceAccessTimeout w => Sys2Proof.Machine.execServiceAccessTimeout w s
  | .challengeBlockEnd port => Sys2Proof.Machine.execChallengeBlockEnd port s
  | .nmtStart c => Sys2Proof.Machine.execNmtStart c s
  | .nmtStop c => Sys2Proof.Machine.execNmtStop c s
  | .nmtEnterPreop c => Sys2Proof.Machine.execNmtEnterPreop c s
  | .nmtResetNode c => Sys2Proof.Machine.execNmtResetNode c s
  | .nmtResetComm c => Sys2Proof.Machine.execNmtResetComm c s
  | .sdoRequest c r => Sys2Proof.Machine.execSdoRequest c r s
  | .sdoTimeout c => Sys2Proof.Machine.execSdoTimeout c s
  | .rpdoReceived idx data => Sys2Proof.Machine.execRpdoReceived idx data s
  | .tpdoTransmit idx => Sys2Proof.Machine.execTpdoTransmit idx s
  | .canSyncReceived c => Sys2Proof.Machine.execCanSyncReceived c s
  | .heartbeatProduce c => Sys2Proof.Machine.execHeartbeatProduce c s
  | .heartbeatConsumerTimeout e => Sys2Proof.Machine.execHeartbeatConsumerTimeout e s
  | .canBusOff c => Sys2Proof.Machine.execCanBusOff c s
  | .canBusOffRecovery rd => Sys2Proof.Machine.execCanBusOffRecovery rd s
  | .svcOpen port seq => Sys2Proof.Machine.execSvcOpen port seq s
  | .svcClose h => Sys2Proof.Machine.execSvcClose h s
  | .svcKeepalive h => Sys2Proof.Machine.execSvcKeepalive h s
  | .svcRead h key => Sys2Proof.Machine.execSvcRead h key s
  | .svcWrite h key v => Sys2Proof.Machine.execSvcWrite h key v s
  | .svcReadSeg h key offset => Sys2Proof.Machine.execSvcReadSeg h key offset s
  | .svcWriteSeg h key offset bytes last v => Sys2Proof.Machine.execSvcWriteSeg h key offset bytes last v s
  | .svcSubscribe h set ms keys => Sys2Proof.Machine.execSvcSubscribe h set ms keys s
  | .sessionTimeout session => Sys2Proof.Machine.execSessionTimeout session s
  | .processSetSend port session set => Sys2Proof.Machine.execProcessSetSend port session set s
  | .spiFrameReceived crcOk seq r => Sys2Proof.Machine.execSpiFrameReceived crcOk seq r s
  | .bypassOpen => Sys2Proof.Machine.execBypassOpen s
  | .ethLinkChange p up speed => Sys2Proof.Machine.execEthLinkChange p up speed s
  | .arpRequest port ip => Sys2Proof.Machine.execArpRequest port ip s
  | .icmpEchoRequest port data => Sys2Proof.Machine.execIcmpEchoRequest port data s
  | .storeParameters hold w => Sys2Proof.Machine.execStoreParameters hold w s
  | .restoreDefaults w => Sys2Proof.Machine.execRestoreDefaults w s
  | .errorHistoryClear w => Sys2Proof.Machine.execErrorHistoryClear w s
  | .lockstepMismatch => Sys2Proof.Machine.execLockstepMismatch s
  | .memoryMarchTest pass => Sys2Proof.Machine.execMemoryMarchTest pass s
  | .supplyWindowFault rail ticks => Sys2Proof.Machine.execSupplyWindowFault rail ticks s
  | .permissionEchoFault rd => Sys2Proof.Machine.execPermissionEchoFault rd s
  | .resetDue => Sys2Proof.Machine.execResetDue s
  | .socCloseRequest idx => Sys2Proof.Machine.execSocCloseRequest idx s
  | .socOpenRequest idx => Sys2Proof.Machine.execSocOpenRequest idx s
  | .socSwitchTest idx => Sys2Proof.Machine.execSocSwitchTest idx s
  | .socTestPulseEnd idx followed => Sys2Proof.Machine.execSocTestPulseEnd idx followed s
  | .socCloseDiscrepancy idx => Sys2Proof.Machine.execSocCloseDiscrepancy idx s
  | .socOpenDiscrepancy idx => Sys2Proof.Machine.execSocOpenDiscrepancy idx s
  | .clearSoc idx testsPass w => Sys2Proof.Machine.execClearSoc idx testsPass w s
  | .socProofDue idx => Sys2Proof.Machine.execSocProofDue idx s
  | .ssdRampIncomplete n => Sys2Proof.Machine.execSsdRampIncomplete n s
  | .ssdPlausibilityFail n held => Sys2Proof.Machine.execSsdPlausibilityFail n held s
  | .safetyUnitSend c => Sys2Proof.Machine.execSafetyUnitSend c s
  | .safetyUnitReceived named unit => Sys2Proof.Machine.execSafetyUnitReceived named unit s
  | .connectionTimeout c => Sys2Proof.Machine.execConnectionTimeout c s
  | .pathTimeout c fallback => Sys2Proof.Machine.execPathTimeout c fallback s
  | .restartConn c w => Sys2Proof.Machine.execRestartConn c w s
  | .cvuStart u w => Sys2Proof.Machine.execCvuStart u w s
  | .cvuFeed u bytes w => Sys2Proof.Machine.execCvuFeed u bytes w s
  | .cvuFinish u w => Sys2Proof.Machine.execCvuFinish u w s
  | .scrubStep f => Sys2Proof.Machine.execScrubStep f s
  | .scrubRoundLate mem seconds => Sys2Proof.Machine.execScrubRoundLate mem seconds s
  | .storeRequest kind lines hold => Sys2Proof.Machine.execStoreRequest kind lines hold s
  | .storeRetry hold => Sys2Proof.Machine.execStoreRetry hold s
  | .storeComplete verified hold => Sys2Proof.Machine.execStoreComplete verified hold s
  | .logPageWrite hold => Sys2Proof.Machine.execLogPageWrite hold s
  | .eventLogRead seq w => Sys2Proof.Machine.execEventLogRead seq w s
  | .commitVersion w => Sys2Proof.Machine.execCommitVersion w s
  | .imageWriteBlock b hold w => Sys2Proof.Machine.execImageWriteBlock b hold w s
  | .clauzLinkUp id lanes => Sys2Proof.Machine.execClauzLinkUp id lanes s
  | .clauzLinkDown => Sys2Proof.Machine.execClauzLinkDown s
  | .clauzLaneLost lane => Sys2Proof.Machine.execClauzLaneLost lane s
  | .pairLockRegained phase => Sys2Proof.Machine.execPairLockRegained phase s
  | .partnerWindowAccess op w => Sys2Proof.Machine.execPartnerWindowAccess op w s
  | .forwardedWrite key v inst => Sys2Proof.Machine.execForwardedWrite key v inst s
  | .xcheckFail c diffs => Sys2Proof.Machine.execXcheckFail c diffs s
  | .xcheckClear => Sys2Proof.Machine.execXcheckClear s
  | .digestReceived n k digest => Sys2Proof.Machine.execDigestReceived n k digest s
  | .arbitrationVerdictReceived pass armed acted => Sys2Proof.Machine.execArbitrationVerdictReceived pass armed acted s
  | .arbitrationTimeout => Sys2Proof.Machine.execArbitrationTimeout s
  | .claimInChange v => Sys2Proof.Machine.execClaimInChange v s
  | .autoClaim => Sys2Proof.Machine.execAutoClaim s
  | .noHolderTimeout g => Sys2Proof.Machine.execNoHolderTimeout g s
  | .returnHoldoffEnd => Sys2Proof.Machine.execReturnHoldoffEnd s
  | .handoverCmd w => Sys2Proof.Machine.execHandoverCmd w s
  | .handoverPass => Sys2Proof.Machine.execHandoverPass s
  | .diStateChange d samples => Sys2Proof.Machine.execDiStateChange d samples s
  | .diLineFault d first rest => Sys2Proof.Machine.execDiLineFault d first rest s
  | .diLineFaultEnd d first rest => Sys2Proof.Machine.execDiLineFaultEnd d first rest s
  | .fieldOutputCommand o on instant => Sys2Proof.Machine.execFieldOutputCommand o on instant s
  | .doOverload o rd => Sys2Proof.Machine.execDoOverload o rd s
  | .doOpenWire o rd => Sys2Proof.Machine.execDoOpenWire o rd s
  | .doOpenWireClear o rd => Sys2Proof.Machine.execDoOpenWireClear o rd s
  | .doOverTemp rd => Sys2Proof.Machine.execDoOverTemp rd s
  | .doOverTempEnd rd => Sys2Proof.Machine.execDoOverTempEnd rd s
  | .field24Fault rd => Sys2Proof.Machine.execField24Fault rd s
  | .field24Restored rd => Sys2Proof.Machine.execField24Restored rd s
  | .contactorDriverCommand d on instant => Sys2Proof.Machine.execContactorDriverCommand d on instant s
  | .cdOvercurrent d rd => Sys2Proof.Machine.execCdOvercurrent d rd s
  | .cdClear d w => Sys2Proof.Machine.execCdClear d w s
  | .cdOpenCoil d rd => Sys2Proof.Machine.execCdOpenCoil d rd s
  | .cdOpenCoilEnd d rd => Sys2Proof.Machine.execCdOpenCoilEnd d rd s
  | .cdReadbackMismatch d lag => Sys2Proof.Machine.execCdReadbackMismatch d lag s
  | .fieldForce v w => Sys2Proof.Machine.execFieldForce v w s
  | .auxHighStart => Sys2Proof.Machine.execAuxHighStart s
  | .auxHighEnd rd => Sys2Proof.Machine.execAuxHighEnd rd s
  | .auxInterruptionStart rd hold => Sys2Proof.Machine.execAuxInterruptionStart rd hold s
  | .auxInterruptionEnd rd => Sys2Proof.Machine.execAuxInterruptionEnd rd s
  | .auxStopLevel hold => Sys2Proof.Machine.execAuxStopLevel hold s
  | .supplyShed => Sys2Proof.Machine.execSupplyShed s
  | .gdLimitEntry rd => Sys2Proof.Machine.execGdLimitEntry rd s
  | .gdLimitExit rd => Sys2Proof.Machine.execGdLimitExit rd s
  | .housekeepingRound temps rails => Sys2Proof.Machine.execHousekeepingRound temps rails s
  | .resetInputAssert => Sys2Proof.Machine.execResetInputAssert s
  | .resetInputRelease => Sys2Proof.Machine.execResetInputRelease s
  | .housekeepingDataLoss => Sys2Proof.Machine.execHousekeepingDataLoss s
  | .contactorEnableReturn => Sys2Proof.Machine.execContactorEnableReturn s
  | .claimHoldLapse => Sys2Proof.Machine.execClaimHoldLapse s
  | .clauzLaneRegained lane => Sys2Proof.Machine.execClauzLaneRegained lane s
  | .ptpAnnounceTransmit b => Sys2Proof.Machine.execPtpAnnounceTransmit b s
  | .ptpDelayRequestTransmit b => Sys2Proof.Machine.execPtpDelayRequestTransmit b s
  | .heartbeatReceived c node => Sys2Proof.Machine.execHeartbeatReceived c node s
  | .spiResponseRead ready => Sys2Proof.Machine.execSpiResponseRead ready s
  | .switchFrameForward f => Sys2Proof.Machine.execSwitchFrameForward f s

end Sys2Proof.Machine
end

