-- ==== Sys2Proof/Machine/Step.lean ====
section
/-!
DEFINITION. One step of the block: the command at the front of the queue has its effect; with an empty queue a core cycle passes.
-/

namespace Sys2Proof.Machine

/-- A core cycle without a command: the master count of module time advances while a clock runs (R15; DESIGN CHOICE, log 1). With both PLLs
lost the keystone, on its RC oscillator, carries the count on (Tables 1.8, 1.9; DESIGN CHOICE, log 150). -/
def tick (s : State) : State :=
  if clockRuns s || (s.isl.started && s.alive .keystone) then s.modIsl fun i => { i with mt := i.mt + 1 } else s

/-- One step: the command at the front of the queue on the queue's rest, or a core cycle. -/
def step (s : State) : Host.Outcome State Fault Refusal :=
  match s.pending with
  | [] => .next (tick s)
  | c :: rest => exec c { s with pending := rest }

/-- The state with the command that a word spells in front of its queue. -/
def State.withFetchWord (s : State) (nbits w : Nat) : State :=
  match decodeTableWord nbits w with
  | some c => { s with pending := c :: s.pending }
  | none => s

end Sys2Proof.Machine
end

