-- ==== Sys2Proof/Safety.lean ====
section
/-!
DEFINITION. What a run keeps, in the terms the statements use: the parts of the state that a command may or may not change, the
invariant of the dictionary's stores and of the event log, and observers of outcomes and events.
-/

namespace Sys2Proof.Machine

/-! ### Outcomes and events -/

/-- Command c on state s answers a next state, and P holds of it. -/
def Completes (c : Instr) (s : State) (P : State → Prop) : Prop := ∃ t, exec c s = .next t ∧ P t

/-- The log buffer has room for n more records (R394). -/
def State.hasRoom (s : State) (n : Nat) : Bool := decide (s.logBuf.length + n ≤ logCapacity)

/-- Between s and t an event was logged with this code and data, stamped with the module time of s (R28, R393). -/
def newEvent (s t : State) (code : Nat) (data : List Rat) : Bool :=
  t.logBuf.any fun r => decide (s.logSeq ≤ r.seq) && r.code == code && r.data == data && r.mt == s.now

/-- A request of this writer to an object of this island is carried out, not turned away: its port's island, the house island and the
object's island act (R24, R328), the module does not stand by (R407, R412), and the writer may write (R326, R329). -/
def State.serves (s : State) (w : Writer) (i : Island) : Bool :=
  s.reaches w && s.alive .house && s.alive i && !s.standsBy w && s.accepts w

/-- A write request of this writer passes every check of the arbiter (R326 to R333) and its island acts: the write is carried out. What a
command object's own operation then requires is named beside it. -/
def State.admits (s : State) (w : Writer) (key : Nat) (v : Val) : Bool :=
  s.reaches w && s.alive .house && s.alive (ownerIsland key) && writeCheck s w key v false == 0

/-! ### Parts -/

/-- The objects that commands other than a write to them change, under the spec's names, and for every chapter of the object dictionary
(INDEX.md) the rest of its objects under the chapter's prefix; `blk` are the block instances (R170). BASE_STATUS, BASE_OFFSET, BASE_RATE
and BASE_HOLDOVER are the objects of the bases of network and twin time (Table 12.7). -/
inductive ObjGroup where
  | cia | mod | sup | nvs | tim | fio | twn | gfl | shr | frt | srv | pie | edg | gdv | acq | gal | lgc | net | saf | blk
  | other | ACQ_CAL_GAIN | ACQ_CAL_OFFSET | ACQ_CH_STATUS | ACQ_CH_VALUE | ACQ_DIAG_ERROR | ACQ_FC_DELAY | ACQ_FC_LATENCY
  | ACQ_FC_RATE | ACQ_FC_STATUS | ACQ_FC_UNSETTLED | ACQ_FC_VALUE | ACQ_OVERRANGE_COUNT | ACQ_SD_STATUS | ACQ_START_OVERLAP
  | ACQ_STATUS | ACQ_TRACK_DRIFT | CIA_ERROR_COUNT | CIA_ERROR_FIELD | CIA_ERROR_REGISTER | CVU_DROPPED | CVU_RESULT
  | CVU_STATUS | EDG_CH_CLIPPED | EDG_CH_GUARD_COUNT | EDG_CH_LATE | EDG_CH_REMOVED | EDG_CH_STATIC_CTRL | EDG_CH_STATUS
  | EDG_RAW_ENABLE | EDG_RAW_HIGH | EDG_RAW_LOW | EDG_SRC_ACTIVE | EDG_STATUS | EDG_TB_LATE | EDG_TB_NEXT_ZERO | EDG_TB_PERIOD
  | EDG_TRG_CFG | EDG_TRG_LATCH_SRC | EDG_TRG_LATCH_TIME | EDG_TRG_PERIODS | EDG_TRG_STATUS | FIO_CD_CURRENT | FIO_CD_IGNORED
  | FIO_CD_STATUS | FIO_DI_CURRENT | FIO_DI_STATUS | FIO_DO_CURRENT | FIO_DO_STATUS | FIO_FORCE | FIO_MAX_LATENESS | FIO_STATUS
  | FRT_COAST_COUNT | FRT_DELTA_P_COAST | FRT_IN_PLL_F | FRT_LAST_GAP | FRT_LAST_JUMP | FRT_LAST_PEAK | FRT_LAST_RIDE
  | FRT_LINK_ENERGY | FRT_RIDE_COUNT | FRT_STATUS | GAL_CONFIG | GAL_DATAGRAMS | GAL_DEPTH | GAL_DROPPED | GAL_MARK_COUNT
  | GAL_MARK_FRAC | GAL_MARK_K | GAL_MARK_TIME | GAL_RECORDS | GAL_STATUS | GAL_WIRE_RATE | GDV_BS_FORECAST | GDV_BS_REFRESHES
  | GDV_CH_STATUS | GDV_DESAT_COUNT | GDV_DIAG_RESULT | GDV_PORT_ACK_MISSING | GDV_PORT_FAULTS | GDV_PORT_LAST_CODE
  | GDV_PORT_STATUS | GDV_RAIL_V | GDV_SAFE_PATTERN | GDV_STATUS | GFL_CONFIG | GFL_E | GFL_EFF_KC | GFL_EFF_NOTCH_F
  | GFL_EFF_RV | GFL_EFF_XV | GFL_FREQ | GFL_F_RES | GFL_P_MEAS | GFL_P_MECH | GFL_Q_MEAS | GFL_STATUS | GFL_THETA | GFL_V_NEG
  | GFL_V_ZERO | GFL_ZETA | LGC_CYCLE_COUNT | LGC_LOAD | LGC_LT | LGC_MAX_BUSY | LGC_OVERRUN_COUNT | LGC_OVERRUN_RUN
  | LGC_PERIOD_IN_FORCE | LGC_PROG_CHECK | LGC_PROG_ID | LGC_RETAIN_LAG | LGC_STAGED_ID | LGC_STATUS | LGC_STN_DROPS
  | LGC_STN_ID | LGC_STN_LAST_RX | LGC_STN_STATE | LGC_WCET_BUSY | MOD_FW_IMAGE | MOD_FW_VERSION | MOD_LOCKOUT_CAUSE
  | MOD_STAGE_SAFE_CAUSE | MOD_STATUS | MOD_TRANSITION_COUNT | NET_ABORTS | NET_CAN_STATE | NET_DUP_DISCARDED | NET_LAST_ABORT
  | NET_LATE_TX | NET_OWNER | NET_SESSIONS | NET_STATUS | NET_WRITES_LOST | NVS_DEFERRED | NVS_ECC_CORRECTED | NVS_HOLD_C
  | NVS_HOLD_V | NVS_IMAGE_STATE | NVS_LOG_DROPPED | NVS_STATUS | PIE_CONFIG | PIE_ECC_CORRECTED | PIE_GRAPH_CHECK
  | PIE_GRAPH_ID | PIE_INSTANCE_COUNT | PIE_LAST_COMMIT | PIE_LOAD | PIE_MAX_CRIT | PIE_MAX_TOTAL | PIE_OFFPLAN_COUNT
  | PIE_OVERRUN_COUNT | PIE_OVERRUN_RUN | PIE_POST_OVERRUN_COUNT | PIE_STATUS | PIE_WCET_CRIT | PIE_WCET_TOTAL | SAF_ABSENCE
  | SAF_CONN_LAST_AGE | SAF_CONN_REJECTED | SAF_CONN_STATUS | SAF_SOC_OPERATIONS | SAF_SOC_SINCE_PROOF | SAF_SOC_STATUS
  | SAF_SSD_VALUE | SAF_STATUS | SAF_UNKNOWN_ID | SHR_ANCHOR_COUNT | SHR_ANCHOR_LATE | SHR_DELTA_F | SHR_DELTA_F_REST
  | SHR_DELTA_THETA | SHR_DELTA_V | SHR_DELTA_V_REST | SHR_F_MEAN | SHR_LINE_F | SHR_LINE_V | SHR_STATUS | SHR_V_MEAN
  | SRV_CAN_RES | SRV_CAN_SCORE | SRV_COHERENCE | SRV_CONFIG | SRV_DFN_AD | SRV_DKC_AD | SRV_DR_AD | SRV_DX_AD | SRV_F_PEAK
  | SRV_F_UPPER | SRV_N_EST | SRV_N_PARALLEL | SRV_ROUND_COUNT | SRV_STATUS | SRV_Z1_R | SRV_Z1_X | SRV_ZETA_PEAK
  | SRV_ZETA_SWING | SRV_Z_ANGLE | SRV_Z_MAG | SUP_INTERRUPTIONS | SUP_LAST_INTERRUPTION | SUP_RAIL | SUP_STATUS | THM_BROKEN
  | THM_PEAK | THM_SHUTDOWN_SENSOR | THM_STATUS | THM_TEMP | THM_THROTTLE_STEP | TIM_BOOT_COUNT | TIM_NTA_DISCARDED
  | TIM_NTA_GM_ID | TIM_NTA_PATH_DELAY | TIM_NTA_STEPS_REMOVED | TIM_PLL_LOSSES | TIM_REF_DEV | TIM_STATUS | TIM_TC_CORRECTED
  | TWN_GRID_PHASE | TWN_LAST_INTERRUPTION | TWN_LINK_ERRORS | TWN_LINK_LATENCY | TWN_MISMATCHES | TWN_PARTNER_FW
  | TWN_PARTNER_SERIAL | TWN_STATUS | TWN_TAKEOVERS | BASE_STATUS | BASE_OFFSET | BASE_RATE | BASE_HOLDOVER
deriving DecidableEq, Repr

/-- Where an object's keys lie: its first key, the distance from one instance to the next, the number of instances, and the number of
places reserved for its sub-indices. -/
structure ObjSpan where
  base : Nat
  step : Nat
  count : Nat
  width : Nat
  group : ObjGroup

/-- A key belongs to the object. -/
def ObjSpan.covers (r : ObjSpan) (key : Nat) : Bool :=
  decide (r.base ≤ key) && decide ((key - r.base) / r.step < r.count) && decide ((key - r.base) % r.step < r.width)

/-- The listed objects of this chapter and their places. -/
def acqObjs : List ObjSpan := [
  ⟨Obj.ACQ_CAL_GAIN 0, 0x100, 24, 1, .ACQ_CAL_GAIN⟩,
  ⟨Obj.ACQ_CAL_OFFSET 0, 0x100, 24, 1, .ACQ_CAL_OFFSET⟩,
  ⟨Obj.ACQ_CH_STATUS 0, 0x100, 24, 1, .ACQ_CH_STATUS⟩,
  ⟨Obj.ACQ_CH_VALUE 0, 0x100, 24, 1, .ACQ_CH_VALUE⟩,
  ⟨Obj.ACQ_DIAG_ERROR 0, 0x100, 24, 1, .ACQ_DIAG_ERROR⟩,
  ⟨Obj.ACQ_FC_DELAY 0, 0x100, 16, 1, .ACQ_FC_DELAY⟩,
  ⟨Obj.ACQ_FC_LATENCY 0, 0x100, 16, 1, .ACQ_FC_LATENCY⟩,
  ⟨Obj.ACQ_FC_RATE 0, 0x100, 16, 1, .ACQ_FC_RATE⟩,
  ⟨Obj.ACQ_FC_STATUS 0, 0x100, 16, 1, .ACQ_FC_STATUS⟩,
  ⟨Obj.ACQ_FC_UNSETTLED 0, 0x100, 16, 1, .ACQ_FC_UNSETTLED⟩,
  ⟨Obj.ACQ_FC_VALUE 0, 0x100, 16, 1, .ACQ_FC_VALUE⟩,
  ⟨Obj.ACQ_OVERRANGE_COUNT 0, 0x100, 24, 1, .ACQ_OVERRANGE_COUNT⟩,
  ⟨Obj.ACQ_SD_STATUS 0, 0x100, 8, 1, .ACQ_SD_STATUS⟩,
  ⟨Obj.ACQ_START_OVERLAP 0, 0x100, 24, 1, .ACQ_START_OVERLAP⟩,
  ⟨Obj.ACQ_STATUS, 0x1000000, 1, 1, .ACQ_STATUS⟩,
  ⟨Obj.ACQ_TRACK_DRIFT 0, 0x100, 24, 1, .ACQ_TRACK_DRIFT⟩]

/-- The listed objects of this chapter and their places. -/
def ciaObjs : List ObjSpan := [
  ⟨Obj.CIA_ERROR_COUNT, 0x1000000, 1, 1, .CIA_ERROR_COUNT⟩,
  ⟨Obj.CIA_ERROR_FIELD 0, 0x1000000, 1, 64, .CIA_ERROR_FIELD⟩,
  ⟨Obj.CIA_ERROR_REGISTER, 0x1000000, 1, 1, .CIA_ERROR_REGISTER⟩]

/-- The listed objects of this chapter and their places. -/
def nvsObjs : List ObjSpan := [
  ⟨Obj.CVU_DROPPED 0, 0x100, 8, 1, .CVU_DROPPED⟩,
  ⟨Obj.CVU_RESULT 0, 0x100, 8, 1, .CVU_RESULT⟩,
  ⟨Obj.CVU_STATUS 0, 0x100, 8, 1, .CVU_STATUS⟩,
  ⟨Obj.NVS_DEFERRED, 0x1000000, 1, 1, .NVS_DEFERRED⟩,
  ⟨Obj.NVS_ECC_CORRECTED 0, 0x1000000, 1, 64, .NVS_ECC_CORRECTED⟩,
  ⟨Obj.NVS_HOLD_C, 0x1000000, 1, 1, .NVS_HOLD_C⟩,
  ⟨Obj.NVS_HOLD_V, 0x1000000, 1, 1, .NVS_HOLD_V⟩,
  ⟨Obj.NVS_IMAGE_STATE, 0x1000000, 1, 1, .NVS_IMAGE_STATE⟩,
  ⟨Obj.NVS_LOG_DROPPED, 0x1000000, 1, 1, .NVS_LOG_DROPPED⟩,
  ⟨Obj.NVS_STATUS, 0x1000000, 1, 1, .NVS_STATUS⟩]

/-- The listed objects of this chapter and their places. -/
def edgObjs : List ObjSpan := [
  ⟨Obj.EDG_CH_CLIPPED 0, 0x100, 24, 1, .EDG_CH_CLIPPED⟩,
  ⟨Obj.EDG_CH_GUARD_COUNT 0, 0x100, 24, 1, .EDG_CH_GUARD_COUNT⟩,
  ⟨Obj.EDG_CH_LATE 0, 0x100, 24, 1, .EDG_CH_LATE⟩,
  ⟨Obj.EDG_CH_REMOVED 0, 0x100, 24, 1, .EDG_CH_REMOVED⟩,
  ⟨Obj.EDG_CH_STATIC_CTRL 0, 0x100, 24, 1, .EDG_CH_STATIC_CTRL⟩,
  ⟨Obj.EDG_CH_STATUS 0, 0x100, 24, 1, .EDG_CH_STATUS⟩,
  ⟨Obj.EDG_RAW_ENABLE, 0x1000000, 1, 1, .EDG_RAW_ENABLE⟩,
  ⟨Obj.EDG_RAW_HIGH, 0x1000000, 1, 1, .EDG_RAW_HIGH⟩,
  ⟨Obj.EDG_RAW_LOW, 0x1000000, 1, 1, .EDG_RAW_LOW⟩,
  ⟨Obj.EDG_SRC_ACTIVE 0, 0x1000000, 1, 64, .EDG_SRC_ACTIVE⟩,
  ⟨Obj.EDG_STATUS, 0x1000000, 1, 1, .EDG_STATUS⟩,
  ⟨Obj.EDG_TB_LATE 0, 0x100, 8, 1, .EDG_TB_LATE⟩,
  ⟨Obj.EDG_TB_NEXT_ZERO 0, 0x100, 8, 1, .EDG_TB_NEXT_ZERO⟩,
  ⟨Obj.EDG_TB_PERIOD 0, 0x100, 8, 1, .EDG_TB_PERIOD⟩,
  ⟨Obj.EDG_TRG_CFG 0, 0x100, 8, 1, .EDG_TRG_CFG⟩,
  ⟨Obj.EDG_TRG_LATCH_SRC 0, 0x100, 8, 1, .EDG_TRG_LATCH_SRC⟩,
  ⟨Obj.EDG_TRG_LATCH_TIME 0, 0x100, 8, 1, .EDG_TRG_LATCH_TIME⟩,
  ⟨Obj.EDG_TRG_PERIODS 0, 0x100, 8, 1, .EDG_TRG_PERIODS⟩,
  ⟨Obj.EDG_TRG_STATUS 0, 0x100, 8, 1, .EDG_TRG_STATUS⟩]

/-- The listed objects of this chapter and their places. -/
def fioObjs : List ObjSpan := [
  ⟨Obj.FIO_CD_CURRENT 0, 0x100, 4, 1, .FIO_CD_CURRENT⟩,
  ⟨Obj.FIO_CD_IGNORED 0, 0x100, 4, 1, .FIO_CD_IGNORED⟩,
  ⟨Obj.FIO_CD_STATUS 0, 0x100, 4, 1, .FIO_CD_STATUS⟩,
  ⟨Obj.FIO_DI_CURRENT 0, 0x100, 16, 1, .FIO_DI_CURRENT⟩,
  ⟨Obj.FIO_DI_STATUS 0, 0x100, 16, 1, .FIO_DI_STATUS⟩,
  ⟨Obj.FIO_DO_CURRENT 0, 0x100, 12, 1, .FIO_DO_CURRENT⟩,
  ⟨Obj.FIO_DO_STATUS 0, 0x100, 12, 1, .FIO_DO_STATUS⟩,
  ⟨Obj.FIO_FORCE, 0x1000000, 1, 1, .FIO_FORCE⟩,
  ⟨Obj.FIO_MAX_LATENESS, 0x1000000, 1, 1, .FIO_MAX_LATENESS⟩,
  ⟨Obj.FIO_STATUS, 0x1000000, 1, 1, .FIO_STATUS⟩]

/-- The listed objects of this chapter and their places. -/
def frtObjs : List ObjSpan := [
  ⟨Obj.FRT_COAST_COUNT 0, 0x40000, 4, 1, .FRT_COAST_COUNT⟩,
  ⟨Obj.FRT_DELTA_P_COAST 0, 0x40000, 4, 1, .FRT_DELTA_P_COAST⟩,
  ⟨Obj.FRT_IN_PLL_F 0, 0x40000, 4, 1, .FRT_IN_PLL_F⟩,
  ⟨Obj.FRT_LAST_GAP 0, 0x40000, 4, 1, .FRT_LAST_GAP⟩,
  ⟨Obj.FRT_LAST_JUMP 0, 0x40000, 4, 1, .FRT_LAST_JUMP⟩,
  ⟨Obj.FRT_LAST_PEAK 0, 0x40000, 4, 1, .FRT_LAST_PEAK⟩,
  ⟨Obj.FRT_LAST_RIDE 0, 0x40000, 4, 1, .FRT_LAST_RIDE⟩,
  ⟨Obj.FRT_LINK_ENERGY 0, 0x40000, 4, 1, .FRT_LINK_ENERGY⟩,
  ⟨Obj.FRT_RIDE_COUNT 0, 0x40000, 4, 1, .FRT_RIDE_COUNT⟩,
  ⟨Obj.FRT_STATUS 0, 0x40000, 4, 1, .FRT_STATUS⟩]

/-- The listed objects of this chapter and their places. -/
def galObjs : List ObjSpan := [
  ⟨Obj.GAL_CONFIG 0, 0x4000, 4, 1, .GAL_CONFIG⟩,
  ⟨Obj.GAL_DATAGRAMS 0, 0x4000, 4, 1, .GAL_DATAGRAMS⟩,
  ⟨Obj.GAL_DEPTH 0, 0x4000, 4, 1, .GAL_DEPTH⟩,
  ⟨Obj.GAL_DROPPED 0, 0x4000, 4, 1, .GAL_DROPPED⟩,
  ⟨Obj.GAL_MARK_COUNT 0, 0x4000, 4, 1, .GAL_MARK_COUNT⟩,
  ⟨Obj.GAL_MARK_FRAC 0, 0x4000, 4, 1, .GAL_MARK_FRAC⟩,
  ⟨Obj.GAL_MARK_K 0, 0x4000, 4, 1, .GAL_MARK_K⟩,
  ⟨Obj.GAL_MARK_TIME 0, 0x4000, 4, 1, .GAL_MARK_TIME⟩,
  ⟨Obj.GAL_RECORDS 0, 0x4000, 4, 1, .GAL_RECORDS⟩,
  ⟨Obj.GAL_STATUS 0, 0x4000, 4, 1, .GAL_STATUS⟩,
  ⟨Obj.GAL_WIRE_RATE 0, 0x4000, 4, 1, .GAL_WIRE_RATE⟩]

/-- The listed objects of this chapter and their places. -/
def gdvObjs : List ObjSpan := [
  ⟨Obj.GDV_BS_FORECAST 0, 0x100, 4, 1, .GDV_BS_FORECAST⟩,
  ⟨Obj.GDV_BS_REFRESHES 0, 0x100, 4, 1, .GDV_BS_REFRESHES⟩,
  ⟨Obj.GDV_CH_STATUS 0, 0x100, 12, 1, .GDV_CH_STATUS⟩,
  ⟨Obj.GDV_DESAT_COUNT 0, 0x100, 12, 1, .GDV_DESAT_COUNT⟩,
  ⟨Obj.GDV_DIAG_RESULT 0, 0x100, 4, 1, .GDV_DIAG_RESULT⟩,
  ⟨Obj.GDV_PORT_ACK_MISSING 0, 0x100, 8, 1, .GDV_PORT_ACK_MISSING⟩,
  ⟨Obj.GDV_PORT_FAULTS 0, 0x100, 8, 1, .GDV_PORT_FAULTS⟩,
  ⟨Obj.GDV_PORT_LAST_CODE 0, 0x100, 8, 1, .GDV_PORT_LAST_CODE⟩,
  ⟨Obj.GDV_PORT_STATUS 0, 0x100, 8, 1, .GDV_PORT_STATUS⟩,
  ⟨Obj.GDV_RAIL_V, 0x1000000, 1, 1, .GDV_RAIL_V⟩,
  ⟨Obj.GDV_SAFE_PATTERN, 0x1000000, 1, 1, .GDV_SAFE_PATTERN⟩,
  ⟨Obj.GDV_STATUS, 0x1000000, 1, 1, .GDV_STATUS⟩]

/-- The listed objects of this chapter and their places. -/
def gflObjs : List ObjSpan := [
  ⟨Obj.GFL_CONFIG 0, 0x40000, 4, 1, .GFL_CONFIG⟩,
  ⟨Obj.GFL_E 0, 0x40000, 4, 1, .GFL_E⟩,
  ⟨Obj.GFL_EFF_KC 0, 0x40000, 4, 1, .GFL_EFF_KC⟩,
  ⟨Obj.GFL_EFF_NOTCH_F 0, 0x40000, 4, 1, .GFL_EFF_NOTCH_F⟩,
  ⟨Obj.GFL_EFF_RV 0, 0x40000, 4, 1, .GFL_EFF_RV⟩,
  ⟨Obj.GFL_EFF_XV 0, 0x40000, 4, 1, .GFL_EFF_XV⟩,
  ⟨Obj.GFL_FREQ 0, 0x40000, 4, 1, .GFL_FREQ⟩,
  ⟨Obj.GFL_F_RES 0, 0x40000, 4, 1, .GFL_F_RES⟩,
  ⟨Obj.GFL_P_MEAS 0, 0x40000, 4, 1, .GFL_P_MEAS⟩,
  ⟨Obj.GFL_P_MECH 0, 0x40000, 4, 1, .GFL_P_MECH⟩,
  ⟨Obj.GFL_Q_MEAS 0, 0x40000, 4, 1, .GFL_Q_MEAS⟩,
  ⟨Obj.GFL_STATUS 0, 0x40000, 4, 1, .GFL_STATUS⟩,
  ⟨Obj.GFL_THETA 0, 0x40000, 4, 1, .GFL_THETA⟩,
  ⟨Obj.GFL_V_NEG 0, 0x40000, 4, 1, .GFL_V_NEG⟩,
  ⟨Obj.GFL_V_ZERO 0, 0x40000, 4, 1, .GFL_V_ZERO⟩,
  ⟨Obj.GFL_ZETA 0, 0x40000, 4, 1, .GFL_ZETA⟩]

/-- The listed objects of this chapter and their places. -/
def lgcObjs : List ObjSpan := [
  ⟨Obj.LGC_CYCLE_COUNT, 0x1000000, 1, 1, .LGC_CYCLE_COUNT⟩,
  ⟨Obj.LGC_LOAD, 0x1000000, 1, 1, .LGC_LOAD⟩,
  ⟨Obj.LGC_LT, 0x1000000, 1, 1, .LGC_LT⟩,
  ⟨Obj.LGC_MAX_BUSY, 0x1000000, 1, 1, .LGC_MAX_BUSY⟩,
  ⟨Obj.LGC_OVERRUN_COUNT, 0x1000000, 1, 1, .LGC_OVERRUN_COUNT⟩,
  ⟨Obj.LGC_OVERRUN_RUN, 0x1000000, 1, 1, .LGC_OVERRUN_RUN⟩,
  ⟨Obj.LGC_PERIOD_IN_FORCE, 0x1000000, 1, 1, .LGC_PERIOD_IN_FORCE⟩,
  ⟨Obj.LGC_PROG_CHECK, 0x1000000, 1, 1, .LGC_PROG_CHECK⟩,
  ⟨Obj.LGC_PROG_ID, 0x1000000, 1, 1, .LGC_PROG_ID⟩,
  ⟨Obj.LGC_RETAIN_LAG, 0x1000000, 1, 1, .LGC_RETAIN_LAG⟩,
  ⟨Obj.LGC_STAGED_ID, 0x1000000, 1, 1, .LGC_STAGED_ID⟩,
  ⟨Obj.LGC_STATUS, 0x1000000, 1, 1, .LGC_STATUS⟩,
  ⟨Obj.LGC_STN_DROPS 0, 0x100, 64, 1, .LGC_STN_DROPS⟩,
  ⟨Obj.LGC_STN_ID 0, 0x100, 64, 1, .LGC_STN_ID⟩,
  ⟨Obj.LGC_STN_LAST_RX 0, 0x100, 64, 1, .LGC_STN_LAST_RX⟩,
  ⟨Obj.LGC_STN_STATE 0, 0x100, 64, 1, .LGC_STN_STATE⟩,
  ⟨Obj.LGC_WCET_BUSY, 0x1000000, 1, 1, .LGC_WCET_BUSY⟩]

/-- The listed objects of this chapter and their places. -/
def modObjs : List ObjSpan := [
  ⟨Obj.MOD_FW_IMAGE, 0x1000000, 1, 1, .MOD_FW_IMAGE⟩,
  ⟨Obj.MOD_FW_VERSION, 0x1000000, 1, 1, .MOD_FW_VERSION⟩,
  ⟨Obj.MOD_LOCKOUT_CAUSE, 0x1000000, 1, 1, .MOD_LOCKOUT_CAUSE⟩,
  ⟨Obj.MOD_STAGE_SAFE_CAUSE 0, 0x1000000, 1, 64, .MOD_STAGE_SAFE_CAUSE⟩,
  ⟨Obj.MOD_STATUS, 0x1000000, 1, 1, .MOD_STATUS⟩,
  ⟨Obj.MOD_TRANSITION_COUNT, 0x1000000, 1, 1, .MOD_TRANSITION_COUNT⟩]

/-- The listed objects of this chapter and their places. -/
def netObjs : List ObjSpan := [
  ⟨Obj.NET_ABORTS, 0x1000000, 1, 1, .NET_ABORTS⟩,
  ⟨Obj.NET_CAN_STATE 0, 0x1000000, 1, 64, .NET_CAN_STATE⟩,
  ⟨Obj.NET_DUP_DISCARDED, 0x1000000, 1, 1, .NET_DUP_DISCARDED⟩,
  ⟨Obj.NET_LAST_ABORT, 0x1000000, 1, 1, .NET_LAST_ABORT⟩,
  ⟨Obj.NET_LATE_TX, 0x1000000, 1, 1, .NET_LATE_TX⟩,
  ⟨Obj.NET_OWNER, 0x1000000, 1, 1, .NET_OWNER⟩,
  ⟨Obj.NET_SESSIONS, 0x1000000, 1, 1, .NET_SESSIONS⟩,
  ⟨Obj.NET_STATUS, 0x1000000, 1, 1, .NET_STATUS⟩,
  ⟨Obj.NET_WRITES_LOST, 0x1000000, 1, 1, .NET_WRITES_LOST⟩]

/-- The listed objects of this chapter and their places. -/
def pieObjs : List ObjSpan := [
  ⟨Obj.PIE_CONFIG 0, 0x10000, 4, 1, .PIE_CONFIG⟩,
  ⟨Obj.PIE_ECC_CORRECTED 0, 0x10000, 4, 1, .PIE_ECC_CORRECTED⟩,
  ⟨Obj.PIE_GRAPH_CHECK 0, 0x10000, 4, 1, .PIE_GRAPH_CHECK⟩,
  ⟨Obj.PIE_GRAPH_ID 0, 0x10000, 4, 1, .PIE_GRAPH_ID⟩,
  ⟨Obj.PIE_INSTANCE_COUNT 0, 0x10000, 4, 1, .PIE_INSTANCE_COUNT⟩,
  ⟨Obj.PIE_LAST_COMMIT 0, 0x10000, 4, 1, .PIE_LAST_COMMIT⟩,
  ⟨Obj.PIE_LOAD 0, 0x10000, 4, 1, .PIE_LOAD⟩,
  ⟨Obj.PIE_MAX_CRIT 0, 0x10000, 4, 1, .PIE_MAX_CRIT⟩,
  ⟨Obj.PIE_MAX_TOTAL 0, 0x10000, 4, 1, .PIE_MAX_TOTAL⟩,
  ⟨Obj.PIE_OFFPLAN_COUNT 0, 0x10000, 4, 1, .PIE_OFFPLAN_COUNT⟩,
  ⟨Obj.PIE_OVERRUN_COUNT 0, 0x10000, 4, 1, .PIE_OVERRUN_COUNT⟩,
  ⟨Obj.PIE_OVERRUN_RUN 0, 0x10000, 4, 1, .PIE_OVERRUN_RUN⟩,
  ⟨Obj.PIE_POST_OVERRUN_COUNT 0, 0x10000, 4, 1, .PIE_POST_OVERRUN_COUNT⟩,
  ⟨Obj.PIE_STATUS 0, 0x10000, 4, 1, .PIE_STATUS⟩,
  ⟨Obj.PIE_WCET_CRIT 0, 0x10000, 4, 1, .PIE_WCET_CRIT⟩,
  ⟨Obj.PIE_WCET_TOTAL 0, 0x10000, 4, 1, .PIE_WCET_TOTAL⟩]

/-- The listed objects of this chapter and their places. -/
def safObjs : List ObjSpan := [
  ⟨Obj.SAF_ABSENCE, 0x1000000, 1, 1, .SAF_ABSENCE⟩,
  ⟨Obj.SAF_CONN_LAST_AGE 0, 0x100, 16, 1, .SAF_CONN_LAST_AGE⟩,
  ⟨Obj.SAF_CONN_REJECTED 0, 0x100, 16, 1, .SAF_CONN_REJECTED⟩,
  ⟨Obj.SAF_CONN_STATUS 0, 0x100, 16, 1, .SAF_CONN_STATUS⟩,
  ⟨Obj.SAF_SOC_OPERATIONS 0, 0x100, 4, 1, .SAF_SOC_OPERATIONS⟩,
  ⟨Obj.SAF_SOC_SINCE_PROOF 0, 0x100, 4, 1, .SAF_SOC_SINCE_PROOF⟩,
  ⟨Obj.SAF_SOC_STATUS 0, 0x100, 4, 1, .SAF_SOC_STATUS⟩,
  ⟨Obj.SAF_SSD_VALUE 0, 0x100, 4, 1, .SAF_SSD_VALUE⟩,
  ⟨Obj.SAF_STATUS, 0x1000000, 1, 1, .SAF_STATUS⟩,
  ⟨Obj.SAF_UNKNOWN_ID, 0x1000000, 1, 1, .SAF_UNKNOWN_ID⟩]

/-- The listed objects of this chapter and their places. -/
def shrObjs : List ObjSpan := [
  ⟨Obj.SHR_ANCHOR_COUNT 0, 0x40000, 4, 1, .SHR_ANCHOR_COUNT⟩,
  ⟨Obj.SHR_ANCHOR_LATE 0, 0x40000, 4, 1, .SHR_ANCHOR_LATE⟩,
  ⟨Obj.SHR_DELTA_F 0, 0x40000, 4, 1, .SHR_DELTA_F⟩,
  ⟨Obj.SHR_DELTA_F_REST 0, 0x40000, 4, 1, .SHR_DELTA_F_REST⟩,
  ⟨Obj.SHR_DELTA_THETA 0, 0x40000, 4, 1, .SHR_DELTA_THETA⟩,
  ⟨Obj.SHR_DELTA_V 0, 0x40000, 4, 1, .SHR_DELTA_V⟩,
  ⟨Obj.SHR_DELTA_V_REST 0, 0x40000, 4, 1, .SHR_DELTA_V_REST⟩,
  ⟨Obj.SHR_F_MEAN 0, 0x40000, 4, 1, .SHR_F_MEAN⟩,
  ⟨Obj.SHR_LINE_F 0, 0x40000, 4, 1, .SHR_LINE_F⟩,
  ⟨Obj.SHR_LINE_V 0, 0x40000, 4, 1, .SHR_LINE_V⟩,
  ⟨Obj.SHR_STATUS 0, 0x40000, 4, 1, .SHR_STATUS⟩,
  ⟨Obj.SHR_V_MEAN 0, 0x40000, 4, 1, .SHR_V_MEAN⟩]

/-- The listed objects of this chapter and their places. -/
def srvObjs : List ObjSpan := [
  ⟨Obj.SRV_CAN_RES 0 0, 0x40000, 4, 64, .SRV_CAN_RES⟩,
  ⟨Obj.SRV_CAN_SCORE 0, 0x40000, 4, 1, .SRV_CAN_SCORE⟩,
  ⟨Obj.SRV_COHERENCE 0 0, 0x40000, 4, 64, .SRV_COHERENCE⟩,
  ⟨Obj.SRV_CONFIG 0, 0x40000, 4, 1, .SRV_CONFIG⟩,
  ⟨Obj.SRV_DFN_AD 0, 0x40000, 4, 1, .SRV_DFN_AD⟩,
  ⟨Obj.SRV_DKC_AD 0, 0x40000, 4, 1, .SRV_DKC_AD⟩,
  ⟨Obj.SRV_DR_AD 0, 0x40000, 4, 1, .SRV_DR_AD⟩,
  ⟨Obj.SRV_DX_AD 0, 0x40000, 4, 1, .SRV_DX_AD⟩,
  ⟨Obj.SRV_F_PEAK 0, 0x40000, 4, 1, .SRV_F_PEAK⟩,
  ⟨Obj.SRV_F_UPPER 0, 0x40000, 4, 1, .SRV_F_UPPER⟩,
  ⟨Obj.SRV_N_EST 0, 0x40000, 4, 1, .SRV_N_EST⟩,
  ⟨Obj.SRV_N_PARALLEL 0, 0x40000, 4, 1, .SRV_N_PARALLEL⟩,
  ⟨Obj.SRV_ROUND_COUNT 0, 0x40000, 4, 1, .SRV_ROUND_COUNT⟩,
  ⟨Obj.SRV_STATUS 0, 0x40000, 4, 1, .SRV_STATUS⟩,
  ⟨Obj.SRV_Z1_R 0, 0x40000, 4, 1, .SRV_Z1_R⟩,
  ⟨Obj.SRV_Z1_X 0, 0x40000, 4, 1, .SRV_Z1_X⟩,
  ⟨Obj.SRV_ZETA_PEAK 0, 0x40000, 4, 1, .SRV_ZETA_PEAK⟩,
  ⟨Obj.SRV_ZETA_SWING 0, 0x40000, 4, 1, .SRV_ZETA_SWING⟩,
  ⟨Obj.SRV_Z_ANGLE 0 0, 0x40000, 4, 64, .SRV_Z_ANGLE⟩,
  ⟨Obj.SRV_Z_MAG 0 0, 0x40000, 4, 64, .SRV_Z_MAG⟩]

/-- The listed objects of this chapter and their places. -/
def supObjs : List ObjSpan := [
  ⟨Obj.SUP_INTERRUPTIONS, 0x1000000, 1, 1, .SUP_INTERRUPTIONS⟩,
  ⟨Obj.SUP_LAST_INTERRUPTION, 0x1000000, 1, 1, .SUP_LAST_INTERRUPTION⟩,
  ⟨Obj.SUP_RAIL 0, 0x1000000, 1, 64, .SUP_RAIL⟩,
  ⟨Obj.SUP_STATUS, 0x1000000, 1, 1, .SUP_STATUS⟩,
  ⟨Obj.THM_BROKEN, 0x1000000, 1, 1, .THM_BROKEN⟩,
  ⟨Obj.THM_PEAK 0, 0x1000000, 1, 64, .THM_PEAK⟩,
  ⟨Obj.THM_SHUTDOWN_SENSOR, 0x1000000, 1, 1, .THM_SHUTDOWN_SENSOR⟩,
  ⟨Obj.THM_STATUS, 0x1000000, 1, 1, .THM_STATUS⟩,
  ⟨Obj.THM_TEMP 0, 0x1000000, 1, 64, .THM_TEMP⟩,
  ⟨Obj.THM_THROTTLE_STEP, 0x1000000, 1, 1, .THM_THROTTLE_STEP⟩]

/-- The listed objects of this chapter and their places. -/
def timObjs : List ObjSpan := [
  ⟨Obj.TIM_BOOT_COUNT, 0x1000000, 1, 1, .TIM_BOOT_COUNT⟩,
  ⟨Obj.TIM_NTA_DISCARDED 0, 0x1000, 2, 1, .TIM_NTA_DISCARDED⟩,
  ⟨Obj.TIM_NTA_GM_ID 0, 0x1000, 2, 1, .TIM_NTA_GM_ID⟩,
  ⟨Obj.TIM_NTA_PATH_DELAY 0, 0x1000, 2, 1, .TIM_NTA_PATH_DELAY⟩,
  ⟨Obj.TIM_NTA_STEPS_REMOVED 0, 0x1000, 2, 1, .TIM_NTA_STEPS_REMOVED⟩,
  ⟨Obj.TIM_PLL_LOSSES 0, 0x1000000, 1, 64, .TIM_PLL_LOSSES⟩,
  ⟨Obj.TIM_REF_DEV 0, 0x1000000, 1, 64, .TIM_REF_DEV⟩,
  ⟨Obj.TIM_STATUS, 0x1000000, 1, 1, .TIM_STATUS⟩,
  ⟨Obj.TIM_TC_CORRECTED, 0x1000000, 1, 1, .TIM_TC_CORRECTED⟩,
  ⟨Obj.TIM_NTA_STATUS 0, 0x1000, 2, 1, .BASE_STATUS⟩,
  ⟨Obj.TIM_TT_STATUS, 0x1000000, 1, 1, .BASE_STATUS⟩,
  ⟨Obj.TIM_NTA_OFFSET 0, 0x1000, 2, 1, .BASE_OFFSET⟩,
  ⟨Obj.TIM_TT_OFFSET, 0x1000000, 1, 1, .BASE_OFFSET⟩,
  ⟨Obj.TIM_NTA_RATE 0, 0x1000, 2, 1, .BASE_RATE⟩,
  ⟨Obj.TIM_TT_RATE, 0x1000000, 1, 1, .BASE_RATE⟩,
  ⟨Obj.TIM_NTA_HOLDOVER_TIME 0, 0x1000, 2, 1, .BASE_HOLDOVER⟩,
  ⟨Obj.TIM_TT_HOLDOVER_TIME, 0x1000000, 1, 1, .BASE_HOLDOVER⟩]

/-- The listed objects of this chapter and their places. -/
def twnObjs : List ObjSpan := [
  ⟨Obj.TWN_GRID_PHASE, 0x1000000, 1, 1, .TWN_GRID_PHASE⟩,
  ⟨Obj.TWN_LAST_INTERRUPTION, 0x1000000, 1, 1, .TWN_LAST_INTERRUPTION⟩,
  ⟨Obj.TWN_LINK_ERRORS, 0x1000000, 1, 1, .TWN_LINK_ERRORS⟩,
  ⟨Obj.TWN_LINK_LATENCY, 0x1000000, 1, 1, .TWN_LINK_LATENCY⟩,
  ⟨Obj.TWN_MISMATCHES, 0x1000000, 1, 1, .TWN_MISMATCHES⟩,
  ⟨Obj.TWN_PARTNER_FW, 0x1000000, 1, 1, .TWN_PARTNER_FW⟩,
  ⟨Obj.TWN_PARTNER_SERIAL, 0x1000000, 1, 1, .TWN_PARTNER_SERIAL⟩,
  ⟨Obj.TWN_STATUS, 0x1000000, 1, 1, .TWN_STATUS⟩,
  ⟨Obj.TWN_TAKEOVERS, 0x1000000, 1, 1, .TWN_TAKEOVERS⟩]


/-- The object of a list that a key names, or else the rest of the chapter. -/
def ObjSpan.pick (l : List ObjSpan) (rest : ObjGroup) (key : Nat) : ObjGroup :=
  match l.find? (·.covers key) with
  | some r => r.group
  | none => rest

/-- The object that a key names, where one is listed, and otherwise the rest of its chapter. -/
def objGroup (key : Nat) : ObjGroup :=
  if key < 0x200000 then ObjSpan.pick ciaObjs .cia key
  else if key < 0x210000 then ObjSpan.pick modObjs .mod key
  else if key < 0x220000 then ObjSpan.pick supObjs .sup key
  else if key < 0x230000 then ObjSpan.pick nvsObjs .nvs key
  else if key < 0x240000 then ObjSpan.pick timObjs .tim key
  else if key < 0x280000 then ObjSpan.pick fioObjs .fio key
  else if key < 0x300000 then ObjSpan.pick twnObjs .twn key
  else if key < 0x400000 then
    (if key / 0x10000 % 4 = 0 then ObjSpan.pick gflObjs .gfl key
    else if key / 0x10000 % 4 = 1 then ObjSpan.pick shrObjs .shr key
    else if key / 0x10000 % 4 = 2 then ObjSpan.pick frtObjs .frt key
    else ObjSpan.pick srvObjs .srv key)
  else if key < 0x440000 then ObjSpan.pick pieObjs .pie key
  else if key < 0x480000 then ObjSpan.pick edgObjs .edg key
  else if key < 0x4C0000 then ObjSpan.pick gdvObjs .gdv key
  else if key < 0x500000 then ObjSpan.pick acqObjs .acq key
  else if key < 0x510000 then ObjSpan.pick galObjs .gal key
  else if key < 0x540000 then ObjSpan.pick lgcObjs .lgc key
  else if key < 0x580000 then ObjSpan.pick netObjs .net key
  else if key < 0x600000 then ObjSpan.pick safObjs .saf key
  else if key < 0xA00000 then .blk
  else .other

/-- The fields of IslandsSt: islands, joints and module time (chapter 1). -/
inductive IslField where
  | mt | started | broadcast | dev | fenced | joints | held | lately | implausible | refused | pulseEnable | pulseLost 
  | contactorEnable | contactorLapsed | houseFencedAt
deriving DecidableEq, Repr

/-- A field is the same in two. -/
def IslField.same : IslField → IslandsSt → IslandsSt → Prop
  | .mt, a, b => b.mt = a.mt
  | .started, a, b => b.started = a.started
  | .broadcast, a, b => b.broadcast = a.broadcast
  | .dev, a, b => b.dev = a.dev
  | .fenced, a, b => b.fenced = a.fenced
  | .joints, a, b => b.joints = a.joints
  | .held, a, b => b.held = a.held
  | .lately, a, b => b.lately = a.lately
  | .implausible, a, b => b.implausible = a.implausible
  | .refused, a, b => b.refused = a.refused
  | .pulseEnable, a, b => b.pulseEnable = a.pulseEnable
  | .pulseLost, a, b => b.pulseLost = a.pulseLost
  | .contactorEnable, a, b => b.contactorEnable = a.contactorEnable
  | .contactorLapsed, a, b => b.contactorLapsed = a.contactorLapsed
  | .houseFencedAt, a, b => b.houseFencedAt = a.houseFencedAt

/-- The fields of ModesSt: the mode machine (chapter 2). -/
inductive ModField where
  | mode | order | lockoutCause | lockoutPending | stopPending | enteredAt | cfgLoaded | calDone | holdupDone | restoreDone 
  | diagQueue | cfgValid | powered | resetAsserted | imageStarted | charged | loadsStarted | link | thermalLatch | lastGfiCause
deriving DecidableEq, Repr

/-- A field is the same in two. -/
def ModField.same : ModField → ModesSt → ModesSt → Prop
  | .mode, a, b => b.mode = a.mode
  | .order, a, b => b.order = a.order
  | .lockoutCause, a, b => b.lockoutCause = a.lockoutCause
  | .lockoutPending, a, b => b.lockoutPending = a.lockoutPending
  | .stopPending, a, b => b.stopPending = a.stopPending
  | .enteredAt, a, b => b.enteredAt = a.enteredAt
  | .cfgLoaded, a, b => b.cfgLoaded = a.cfgLoaded
  | .calDone, a, b => b.calDone = a.calDone
  | .holdupDone, a, b => b.holdupDone = a.holdupDone
  | .restoreDone, a, b => b.restoreDone = a.restoreDone
  | .diagQueue, a, b => b.diagQueue = a.diagQueue
  | .cfgValid, a, b => b.cfgValid = a.cfgValid
  | .powered, a, b => b.powered = a.powered
  | .resetAsserted, a, b => b.resetAsserted = a.resetAsserted
  | .imageStarted, a, b => b.imageStarted = a.imageStarted
  | .charged, a, b => b.charged = a.charged
  | .loadsStarted, a, b => b.loadsStarted = a.loadsStarted
  | .link, a, b => b.link = a.link
  | .thermalLatch, a, b => b.thermalLatch = a.thermalLatch
  | .lastGfiCause, a, b => b.lastGfiCause = a.lastGfiCause

/-- The fields of StageCore: the stages' states (chapter 2). -/
inductive StgField where
  | st | cause | diagPassed | diagDeferred | diagSince | heldStart | toArmed | toRun | toOff | lastLimit | graphOk | sinceEntry 
  | pulsesEnd
deriving DecidableEq, Repr

/-- A field is the same in two. -/
def StgField.same : StgField → StageCore → StageCore → Prop
  | .st, a, b => b.st = a.st
  | .cause, a, b => b.cause = a.cause
  | .diagPassed, a, b => b.diagPassed = a.diagPassed
  | .diagDeferred, a, b => b.diagDeferred = a.diagDeferred
  | .diagSince, a, b => b.diagSince = a.diagSince
  | .heldStart, a, b => b.heldStart = a.heldStart
  | .toArmed, a, b => b.toArmed = a.toArmed
  | .toRun, a, b => b.toRun = a.toRun
  | .toOff, a, b => b.toOff = a.toOff
  | .lastLimit, a, b => b.lastLimit = a.lastLimit
  | .graphOk, a, b => b.graphOk = a.graphOk
  | .sinceEntry, a, b => b.sinceEntry = a.sinceEntry
  | .pulsesEnd, a, b => b.pulsesEnd = a.pulsesEnd

/-- The fields of ShareSt: sharing and joining (chapter 4). -/
inductive ShrField where
  | line | far | claim | closeAt | closeTimeout | tieAt | closedDead | closed | pull | syncFrom | syncTimeout | okSince | dwell 
  | deadSince | lostLogged | rampFrom | rampTime | rampLast | ramping | glideW | glideV | joining | winStart | winSum 
  | winCount | winBad | suspended | anchor
deriving DecidableEq, Repr

/-- A field is the same in two. -/
def ShrField.same : ShrField → ShareSt → ShareSt → Prop
  | .line, a, b => b.line = a.line
  | .far, a, b => b.far = a.far
  | .claim, a, b => b.claim = a.claim
  | .closeAt, a, b => b.closeAt = a.closeAt
  | .closeTimeout, a, b => b.closeTimeout = a.closeTimeout
  | .tieAt, a, b => b.tieAt = a.tieAt
  | .closedDead, a, b => b.closedDead = a.closedDead
  | .closed, a, b => b.closed = a.closed
  | .pull, a, b => b.pull = a.pull
  | .syncFrom, a, b => b.syncFrom = a.syncFrom
  | .syncTimeout, a, b => b.syncTimeout = a.syncTimeout
  | .okSince, a, b => b.okSince = a.okSince
  | .dwell, a, b => b.dwell = a.dwell
  | .deadSince, a, b => b.deadSince = a.deadSince
  | .lostLogged, a, b => b.lostLogged = a.lostLogged
  | .rampFrom, a, b => b.rampFrom = a.rampFrom
  | .rampTime, a, b => b.rampTime = a.rampTime
  | .rampLast, a, b => b.rampLast = a.rampLast
  | .ramping, a, b => b.ramping = a.ramping
  | .glideW, a, b => b.glideW = a.glideW
  | .glideV, a, b => b.glideV = a.glideV
  | .joining, a, b => b.joining = a.joining
  | .winStart, a, b => b.winStart = a.winStart
  | .winSum, a, b => b.winSum = a.winSum
  | .winCount, a, b => b.winCount = a.winCount
  | .winBad, a, b => b.winBad = a.winBad
  | .suspended, a, b => b.suspended = a.suspended
  | .anchor, a, b => b.anchor = a.anchor

/-- The fields of RideSt: ride-through and coasting (chapter 5). -/
inductive FrtField where
  | riding | clearAt | clearBefore | budget | budgetAt | budgetUsed | peak | failed | decay | coasting | coastFrom | lowest 
  | lowSince | shed | release | powerLimit | powerRef | lost | lostAt | confirmed | blocked | ramp | notified | pllF | pllPhase 
  | pllAt | hold | holdExpired | crossings | pulsed | dev | devSince | inPast | aboveSince | vdc | speedDue
deriving DecidableEq, Repr

/-- A field is the same in two. -/
def FrtField.same : FrtField → RideSt → RideSt → Prop
  | .riding, a, b => b.riding = a.riding
  | .clearAt, a, b => b.clearAt = a.clearAt
  | .clearBefore, a, b => b.clearBefore = a.clearBefore
  | .budget, a, b => b.budget = a.budget
  | .budgetAt, a, b => b.budgetAt = a.budgetAt
  | .budgetUsed, a, b => b.budgetUsed = a.budgetUsed
  | .peak, a, b => b.peak = a.peak
  | .failed, a, b => b.failed = a.failed
  | .decay, a, b => b.decay = a.decay
  | .coasting, a, b => b.coasting = a.coasting
  | .coastFrom, a, b => b.coastFrom = a.coastFrom
  | .lowest, a, b => b.lowest = a.lowest
  | .lowSince, a, b => b.lowSince = a.lowSince
  | .shed, a, b => b.shed = a.shed
  | .release, a, b => b.release = a.release
  | .powerLimit, a, b => b.powerLimit = a.powerLimit
  | .powerRef, a, b => b.powerRef = a.powerRef
  | .lost, a, b => b.lost = a.lost
  | .lostAt, a, b => b.lostAt = a.lostAt
  | .confirmed, a, b => b.confirmed = a.confirmed
  | .blocked, a, b => b.blocked = a.blocked
  | .ramp, a, b => b.ramp = a.ramp
  | .notified, a, b => b.notified = a.notified
  | .pllF, a, b => b.pllF = a.pllF
  | .pllPhase, a, b => b.pllPhase = a.pllPhase
  | .pllAt, a, b => b.pllAt = a.pllAt
  | .hold, a, b => b.hold = a.hold
  | .holdExpired, a, b => b.holdExpired = a.holdExpired
  | .crossings, a, b => b.crossings = a.crossings
  | .pulsed, a, b => b.pulsed = a.pulsed
  | .dev, a, b => b.dev = a.dev
  | .devSince, a, b => b.devSince = a.devSince
  | .inPast, a, b => b.inPast = a.inPast
  | .aboveSince, a, b => b.aboveSince = a.aboveSince
  | .vdc, a, b => b.vdc = a.vdc
  | .speedDue, a, b => b.speedDue = a.speedDue

/-- The fields of SurveySt: survey and canary (chapter 6). -/
inductive SrvField where
  | active | startedAt | runSince | chip | cfg | dRad | dXad | dKc | dFn | glideR | glideX | undo | holdVi | holdNotch | holdKc 
  | zetaPk | zetaA | above | warned | acted | scores | prevIL | prevVc | prevIo | prevU | prevVdc | worst | due | actedAt 
  | record
deriving DecidableEq, Repr

/-- A field is the same in two. -/
def SrvField.same : SrvField → SurveySt → SurveySt → Prop
  | .active, a, b => b.active = a.active
  | .startedAt, a, b => b.startedAt = a.startedAt
  | .runSince, a, b => b.runSince = a.runSince
  | .chip, a, b => b.chip = a.chip
  | .cfg, a, b => b.cfg = a.cfg
  | .dRad, a, b => b.dRad = a.dRad
  | .dXad, a, b => b.dXad = a.dXad
  | .dKc, a, b => b.dKc = a.dKc
  | .dFn, a, b => b.dFn = a.dFn
  | .glideR, a, b => b.glideR = a.glideR
  | .glideX, a, b => b.glideX = a.glideX
  | .undo, a, b => b.undo = a.undo
  | .holdVi, a, b => b.holdVi = a.holdVi
  | .holdNotch, a, b => b.holdNotch = a.holdNotch
  | .holdKc, a, b => b.holdKc = a.holdKc
  | .zetaPk, a, b => b.zetaPk = a.zetaPk
  | .zetaA, a, b => b.zetaA = a.zetaA
  | .above, a, b => b.above = a.above
  | .warned, a, b => b.warned = a.warned
  | .acted, a, b => b.acted = a.acted
  | .scores, a, b => b.scores = a.scores
  | .prevIL, a, b => b.prevIL = a.prevIL
  | .prevVc, a, b => b.prevVc = a.prevVc
  | .prevIo, a, b => b.prevIo = a.prevIo
  | .prevU, a, b => b.prevU = a.prevU
  | .prevVdc, a, b => b.prevVdc = a.prevVdc
  | .worst, a, b => b.worst = a.worst
  | .due, a, b => b.due = a.due
  | .actedAt, a, b => b.actedAt = a.actedAt
  | .record, a, b => b.record = a.record

/-- The fields of PierSt: the piers (chapters 3 and 7). -/
inductive PieField where
  | law | blocks | work | post | k | t0 | graph | tally | overrunRun | postRun | postDone | provisional | duties | sent | out 
  | ran | tripped | selftest | selftestDue | bistAt | rv | xv | xvn | fClamp | eClamp | negClamp | nClamp | restClamp | before 
  | envLogged
deriving DecidableEq, Repr

/-- A field is the same in two. -/
def PieField.same : PieField → PierSt → PierSt → Prop
  | .law, a, b => b.law = a.law
  | .blocks, a, b => b.blocks = a.blocks
  | .work, a, b => b.work = a.work
  | .post, a, b => b.post = a.post
  | .k, a, b => b.k = a.k
  | .t0, a, b => b.t0 = a.t0
  | .graph, a, b => b.graph = a.graph
  | .tally, a, b => b.tally = a.tally
  | .overrunRun, a, b => b.overrunRun = a.overrunRun
  | .postRun, a, b => b.postRun = a.postRun
  | .postDone, a, b => b.postDone = a.postDone
  | .provisional, a, b => b.provisional = a.provisional
  | .duties, a, b => b.duties = a.duties
  | .sent, a, b => b.sent = a.sent
  | .out, a, b => b.out = a.out
  | .ran, a, b => b.ran = a.ran
  | .tripped, a, b => b.tripped = a.tripped
  | .selftest, a, b => b.selftest = a.selftest
  | .selftestDue, a, b => b.selftestDue = a.selftestDue
  | .bistAt, a, b => b.bistAt = a.bistAt
  | .rv, a, b => b.rv = a.rv
  | .xv, a, b => b.xv = a.xv
  | .xvn, a, b => b.xvn = a.xvn
  | .fClamp, a, b => b.fClamp = a.fClamp
  | .eClamp, a, b => b.eClamp = a.eClamp
  | .negClamp, a, b => b.negClamp = a.negClamp
  | .nClamp, a, b => b.nClamp = a.nClamp
  | .restClamp, a, b => b.restClamp = a.restClamp
  | .before, a, b => b.before = a.before
  | .envLogged, a, b => b.envLogged = a.envLogged

/-- The fields of EdgeSt: the edge generator (chapter 8). -/
inductive EdgField where
  | loadedAt | tb | ch | sets | grp | active | pinKnown | raw | rawHigh | rawLow | calFault | heartbeats | beatAt | recalAt 
  | added
deriving DecidableEq, Repr

/-- A field is the same in two. -/
def EdgField.same : EdgField → EdgeSt → EdgeSt → Prop
  | .loadedAt, a, b => b.loadedAt = a.loadedAt
  | .tb, a, b => b.tb = a.tb
  | .ch, a, b => b.ch = a.ch
  | .sets, a, b => b.sets = a.sets
  | .grp, a, b => b.grp = a.grp
  | .active, a, b => b.active = a.active
  | .pinKnown, a, b => b.pinKnown = a.pinKnown
  | .raw, a, b => b.raw = a.raw
  | .rawHigh, a, b => b.rawHigh = a.rawHigh
  | .rawLow, a, b => b.rawLow = a.rawLow
  | .calFault, a, b => b.calFault = a.calFault
  | .heartbeats, a, b => b.heartbeats = a.heartbeats
  | .beatAt, a, b => b.beatAt = a.beatAt
  | .recalAt, a, b => b.recalAt = a.recalAt
  | .added, a, b => b.added = a.added

/-- The fields of GateSt: gate drive (chapter 9). -/
inductive GdvField where
  | uvlo | uvloAt | pattern | noHolder | heartbeat | drv | port
deriving DecidableEq, Repr

/-- A field is the same in two. -/
def GdvField.same : GdvField → GateSt → GateSt → Prop
  | .uvlo, a, b => b.uvlo = a.uvlo
  | .uvloAt, a, b => b.uvloAt = a.uvloAt
  | .pattern, a, b => b.pattern = a.pattern
  | .noHolder, a, b => b.noHolder = a.noHolder
  | .heartbeat, a, b => b.heartbeat = a.heartbeat
  | .drv, a, b => b.drv = a.drv
  | .port, a, b => b.port = a.port

/-- The fields of AcqSt: acquisition (chapter 10). -/
inductive AcqField where
  | timer | adc | chain | sdFault | selfCal | diag | cmpOwned | cmpLevel
deriving DecidableEq, Repr

/-- A field is the same in two. -/
def AcqField.same : AcqField → AcqSt → AcqSt → Prop
  | .timer, a, b => b.timer = a.timer
  | .adc, a, b => b.adc = a.adc
  | .chain, a, b => b.chain = a.chain
  | .sdFault, a, b => b.sdFault = a.sdFault
  | .selfCal, a, b => b.selfCal = a.selfCal
  | .diag, a, b => b.diag = a.diag
  | .cmpOwned, a, b => b.cmpOwned = a.cmpOwned
  | .cmpLevel, a, b => b.cmpLevel = a.cmpLevel

/-- The fields of GalSt: the galleries (chapter 11). -/
inductive GalField where
  | ring | missing | changed | cond | prev | prevAt | seen | armed | ready | holdoff | datagram | openedAt | seq | dropped 
  | busyTo | readK
deriving DecidableEq, Repr

/-- A field is the same in two. -/
def GalField.same : GalField → GalSt → GalSt → Prop
  | .ring, a, b => b.ring = a.ring
  | .missing, a, b => b.missing = a.missing
  | .changed, a, b => b.changed = a.changed
  | .cond, a, b => b.cond = a.cond
  | .prev, a, b => b.prev = a.prev
  | .prevAt, a, b => b.prevAt = a.prevAt
  | .seen, a, b => b.seen = a.seen
  | .armed, a, b => b.armed = a.armed
  | .ready, a, b => b.ready = a.ready
  | .holdoff, a, b => b.holdoff = a.holdoff
  | .datagram, a, b => b.datagram = a.datagram
  | .openedAt, a, b => b.openedAt = a.openedAt
  | .seq, a, b => b.seq = a.seq
  | .dropped, a, b => b.dropped = a.dropped
  | .busyTo, a, b => b.busyTo = a.busyTo
  | .readK, a, b => b.readK = a.readK

/-- The fields of ClockSt: clocks and timebases (chapter 12). -/
inductive ClkField where
  | refOk | badAt | switchedAt | countedAt | monitoredAt | active | pllOn | pll | onB | netLocked | netLostAt | base
deriving DecidableEq, Repr

/-- A field is the same in two. -/
def ClkField.same : ClkField → ClockSt → ClockSt → Prop
  | .refOk, a, b => b.refOk = a.refOk
  | .badAt, a, b => b.badAt = a.badAt
  | .switchedAt, a, b => b.switchedAt = a.switchedAt
  | .countedAt, a, b => b.countedAt = a.countedAt
  | .monitoredAt, a, b => b.monitoredAt = a.monitoredAt
  | .active, a, b => b.active = a.active
  | .pllOn, a, b => b.pllOn = a.pllOn
  | .pll, a, b => b.pll = a.pll
  | .onB, a, b => b.onB = a.onB
  | .netLocked, a, b => b.netLocked = a.netLocked
  | .netLostAt, a, b => b.netLostAt = a.netLostAt
  | .base, a, b => b.base = a.base

/-- The fields of TwinSt: twin operation (chapter 17). -/
inductive TwnField where
  | mode | primary | link | lanes | partner | formed | lock | phase | lockFrom | conflict | mismatch | active | request | auto 
  | held | claimIn | claimSince | grant | grantLost | armed | xfail | xfailAt | partnerFenced | selfFenced | arb | digests 
  | diffs | holdoff | handover | winTarget | view
deriving DecidableEq, Repr

/-- A field is the same in two. -/
def TwnField.same : TwnField → TwinSt → TwinSt → Prop
  | .mode, a, b => b.mode = a.mode
  | .primary, a, b => b.primary = a.primary
  | .link, a, b => b.link = a.link
  | .lanes, a, b => b.lanes = a.lanes
  | .partner, a, b => b.partner = a.partner
  | .formed, a, b => b.formed = a.formed
  | .lock, a, b => b.lock = a.lock
  | .phase, a, b => b.phase = a.phase
  | .lockFrom, a, b => b.lockFrom = a.lockFrom
  | .conflict, a, b => b.conflict = a.conflict
  | .mismatch, a, b => b.mismatch = a.mismatch
  | .active, a, b => b.active = a.active
  | .request, a, b => b.request = a.request
  | .auto, a, b => b.auto = a.auto
  | .held, a, b => b.held = a.held
  | .claimIn, a, b => b.claimIn = a.claimIn
  | .claimSince, a, b => b.claimSince = a.claimSince
  | .grant, a, b => b.grant = a.grant
  | .grantLost, a, b => b.grantLost = a.grantLost
  | .armed, a, b => b.armed = a.armed
  | .xfail, a, b => b.xfail = a.xfail
  | .xfailAt, a, b => b.xfailAt = a.xfailAt
  | .partnerFenced, a, b => b.partnerFenced = a.partnerFenced
  | .selfFenced, a, b => b.selfFenced = a.selfFenced
  | .arb, a, b => b.arb = a.arb
  | .digests, a, b => b.digests = a.digests
  | .diffs, a, b => b.diffs = a.diffs
  | .holdoff, a, b => b.holdoff = a.holdoff
  | .handover, a, b => b.handover = a.handover
  | .winTarget, a, b => b.winTarget = a.winTarget
  | .view, a, b => b.view = a.view

/-- The fields of SafetySt: safety (chapter 15). -/
inductive SafField where
  | soc | ssd | conn | pending | coverSeen | coverDemand | demanded | latched | halted | removed | tieFailed | resetAt 
  | marchAt
deriving DecidableEq, Repr

/-- A field is the same in two. -/
def SafField.same : SafField → SafetySt → SafetySt → Prop
  | .soc, a, b => b.soc = a.soc
  | .ssd, a, b => b.ssd = a.ssd
  | .conn, a, b => b.conn = a.conn
  | .pending, a, b => b.pending = a.pending
  | .coverSeen, a, b => b.coverSeen = a.coverSeen
  | .coverDemand, a, b => b.coverDemand = a.coverDemand
  | .demanded, a, b => b.demanded = a.demanded
  | .latched, a, b => b.latched = a.latched
  | .halted, a, b => b.halted = a.halted
  | .removed, a, b => b.removed = a.removed
  | .tieFailed, a, b => b.tieFailed = a.tieFailed
  | .resetAt, a, b => b.resetAt = a.resetAt
  | .marchAt, a, b => b.marchAt = a.marchAt

/-- The fields of FieldSt: field inputs and outputs (chapter 18). -/
inductive FioField where
  | di | out | drv | f24Bad | force
deriving DecidableEq, Repr

/-- A field is the same in two. -/
def FioField.same : FioField → FieldSt → FieldSt → Prop
  | .di, a, b => b.di = a.di
  | .out, a, b => b.out = a.out
  | .drv, a, b => b.drv = a.drv
  | .f24Bad, a, b => b.f24Bad = a.f24Bad
  | .force, a, b => b.force = a.force

/-- The fields of SupplySt: supply and heat (chapter 19). -/
inductive SupField where
  | highAt | intAt | bridge | shed | backAt | gdLimited | sensorAt | lastRound | sensor | stepAt
deriving DecidableEq, Repr

/-- A field is the same in two. -/
def SupField.same : SupField → SupplySt → SupplySt → Prop
  | .highAt, a, b => b.highAt = a.highAt
  | .intAt, a, b => b.intAt = a.intAt
  | .bridge, a, b => b.bridge = a.bridge
  | .shed, a, b => b.shed = a.shed
  | .backAt, a, b => b.backAt = a.backAt
  | .gdLimited, a, b => b.gdLimited = a.gdLimited
  | .sensorAt, a, b => b.sensorAt = a.sensorAt
  | .lastRound, a, b => b.lastRound = a.lastRound
  | .sensor, a, b => b.sensor = a.sensor
  | .stepAt, a, b => b.stepAt = a.stepAt

/-- The fields of LogicSt: the logic engine (chapter 13). -/
inductive LgcField where
  | running | valid | verified | program | staged | staging | image | bank | lastBank | marked | kept | lag | nextAt | lastAt 
  | busyUntil | busy | exchanging | skipped | tc | stretch | exchange | resetRetain | host | station | level | starting | peek 
  | loads
deriving DecidableEq, Repr

/-- A field is the same in two. -/
def LgcField.same : LgcField → LogicSt → LogicSt → Prop
  | .running, a, b => b.running = a.running
  | .valid, a, b => b.valid = a.valid
  | .verified, a, b => b.verified = a.verified
  | .program, a, b => b.program = a.program
  | .staged, a, b => b.staged = a.staged
  | .staging, a, b => b.staging = a.staging
  | .image, a, b => b.image = a.image
  | .bank, a, b => b.bank = a.bank
  | .lastBank, a, b => b.lastBank = a.lastBank
  | .marked, a, b => b.marked = a.marked
  | .kept, a, b => b.kept = a.kept
  | .lag, a, b => b.lag = a.lag
  | .nextAt, a, b => b.nextAt = a.nextAt
  | .lastAt, a, b => b.lastAt = a.lastAt
  | .busyUntil, a, b => b.busyUntil = a.busyUntil
  | .busy, a, b => b.busy = a.busy
  | .exchanging, a, b => b.exchanging = a.exchanging
  | .skipped, a, b => b.skipped = a.skipped
  | .tc, a, b => b.tc = a.tc
  | .stretch, a, b => b.stretch = a.stretch
  | .exchange, a, b => b.exchange = a.exchange
  | .resetRetain, a, b => b.resetRetain = a.resetRetain
  | .host, a, b => b.host = a.host
  | .station, a, b => b.station = a.station
  | .level, a, b => b.level = a.level
  | .starting, a, b => b.starting = a.starting
  | .peek, a, b => b.peek = a.peek
  | .loads, a, b => b.loads = a.loads

/-- The fields of NetSt: the networks (chapter 14). -/
inductive NetField where
  | ownerAt | sessions | rights | challenges | invalid | blocked | can | heard | syncs | tpdoAt | tpdoLast | rpdoWait | link 
  | bypass | macs | spiReply | spiSeq | spiLast | spiPartial | restore
deriving DecidableEq, Repr

/-- A field is the same in two. -/
def NetField.same : NetField → NetSt → NetSt → Prop
  | .ownerAt, a, b => b.ownerAt = a.ownerAt
  | .sessions, a, b => b.sessions = a.sessions
  | .rights, a, b => b.rights = a.rights
  | .challenges, a, b => b.challenges = a.challenges
  | .invalid, a, b => b.invalid = a.invalid
  | .blocked, a, b => b.blocked = a.blocked
  | .can, a, b => b.can = a.can
  | .heard, a, b => b.heard = a.heard
  | .syncs, a, b => b.syncs = a.syncs
  | .tpdoAt, a, b => b.tpdoAt = a.tpdoAt
  | .tpdoLast, a, b => b.tpdoLast = a.tpdoLast
  | .rpdoWait, a, b => b.rpdoWait = a.rpdoWait
  | .link, a, b => b.link = a.link
  | .bypass, a, b => b.bypass = a.bypass
  | .macs, a, b => b.macs = a.macs
  | .spiReply, a, b => b.spiReply = a.spiReply
  | .spiSeq, a, b => b.spiSeq = a.spiSeq
  | .spiLast, a, b => b.spiLast = a.spiLast
  | .spiPartial, a, b => b.spiPartial = a.spiPartial
  | .restore, a, b => b.restore = a.restore

/-- The fields of StoresSt: stores, scrubbing, code verification (chapter 16). -/
inductive NvsField where
  | cvu | waiting | running | deferred | stopped | gen | lost | retired | version | running_ | package | writing | readSeq 
  | sector | page | pageAt | eraseAt | retryAt | reported
deriving DecidableEq, Repr

/-- A field is the same in two. -/
def NvsField.same : NvsField → StoresSt → StoresSt → Prop
  | .cvu, a, b => b.cvu = a.cvu
  | .waiting, a, b => b.waiting = a.waiting
  | .running, a, b => b.running = a.running
  | .deferred, a, b => b.deferred = a.deferred
  | .stopped, a, b => b.stopped = a.stopped
  | .gen, a, b => b.gen = a.gen
  | .lost, a, b => b.lost = a.lost
  | .retired, a, b => b.retired = a.retired
  | .version, a, b => b.version = a.version
  | .running_, a, b => b.running_ = a.running_
  | .package, a, b => b.package = a.package
  | .writing, a, b => b.writing = a.writing
  | .readSeq, a, b => b.readSeq = a.readSeq
  | .sector, a, b => b.sector = a.sector
  | .page, a, b => b.page = a.page
  | .pageAt, a, b => b.pageAt = a.pageAt
  | .eraseAt, a, b => b.eraseAt = a.eraseAt
  | .retryAt, a, b => b.retryAt = a.retryAt
  | .reported, a, b => b.reported = a.reported

/-- The parts of the state. -/
inductive Part where
  /-- the queue of waiting commands -/
  | pending
  /-- the values saved in MRAM -/
  | saved
  /-- writes waiting for a commit -/
  | commitWrites
  /-- writes held by PARAM_HOLD -/
  | heldWrites
  /-- writes waiting for a mode change -/
  | modeWrites
  /-- communication objects waiting for a reset communication -/
  | resetWrites
  /-- what has been sent -/
  | tx
  /-- the count of free values drawn -/
  | free
  /-- the event log: buffer, flash, next number, once-per-second marks -/
  | log
  /-- the records standing in the log's buffer: they stay, new ones may join at the end -/
  | buffer
  /-- a stage in SAFE stays in SAFE -/
  | safe
  /-- a fenced island stays fenced -/
  | fence
  /-- the dictionary's values of one object, or of the rest of a chapter -/
  | obj (g : ObjGroup)
  /-- a field of islands, joints and module time (chapter 1) -/
  | isl (f : IslField)
  /-- a field of the mode machine (chapter 2) -/
  | mod (f : ModField)
  /-- a field of the stages' states (chapter 2) -/
  | stg (f : StgField)
  /-- a field of sharing and joining (chapter 4) -/
  | shr (f : ShrField)
  /-- a field of ride-through and coasting (chapter 5) -/
  | frt (f : FrtField)
  /-- a field of survey and canary (chapter 6) -/
  | srv (f : SrvField)
  /-- a field of the piers (chapters 3 and 7) -/
  | pie (f : PieField)
  /-- a field of the edge generator (chapter 8) -/
  | edg (f : EdgField)
  /-- a field of gate drive (chapter 9) -/
  | gdv (f : GdvField)
  /-- a field of acquisition (chapter 10) -/
  | acq (f : AcqField)
  /-- a field of the galleries (chapter 11) -/
  | gal (f : GalField)
  /-- a field of clocks and timebases (chapter 12) -/
  | clk (f : ClkField)
  /-- a field of twin operation (chapter 17) -/
  | twn (f : TwnField)
  /-- a field of safety (chapter 15) -/
  | saf (f : SafField)
  /-- a field of field inputs and outputs (chapter 18) -/
  | fio (f : FioField)
  /-- a field of supply and heat (chapter 19) -/
  | sup (f : SupField)
  /-- a field of the logic engine (chapter 13) -/
  | lgc (f : LgcField)
  /-- a field of the networks (chapter 14) -/
  | net (f : NetField)
  /-- a field of stores, scrubbing, code verification (chapter 16) -/
  | nvs (f : NvsField)
deriving DecidableEq, Repr

/-- A part is the same in two states. An object's value is the same when the store holds the same under its key (or nothing, for its
default). -/
def Part.same : Part → State → State → Prop
  | .pending, s, t => t.pending = s.pending
  | .saved, s, t => t.saved = s.saved
  | .commitWrites, s, t => t.commitWrites = s.commitWrites
  | .heldWrites, s, t => t.heldWrites = s.heldWrites
  | .modeWrites, s, t => t.modeWrites = s.modeWrites
  | .resetWrites, s, t => t.resetWrites = s.resetWrites
  | .tx, s, t => t.tx = s.tx
  | .free, s, t => t.free = s.free
  | .log, s, t => t.logBuf = s.logBuf ∧ t.logFlash = s.logFlash ∧ t.logSeq = s.logSeq ∧ t.lastLog = s.lastLog
  | .buffer, s, t => ∀ r ∈ s.logBuf, r ∈ t.logBuf
  | .safe, s, t => ∀ n : StageId, s.stg[n].st = .safe → t.stg[n].st = .safe
  | .fence, s, t => ∀ i ∈ s.isl.fenced, i ∈ t.isl.fenced
  | .obj g, s, t => ∀ key, objGroup key = g → cellGet key t.objs = cellGet key s.objs
  | .isl f, s, t => f.same s.isl t.isl
  | .mod f, s, t => f.same s.mod t.mod
  | .stg f, s, t => ∀ n : StageId, f.same s.stg[n] t.stg[n]
  | .shr f, s, t => ∀ n : StageId, f.same s.shr[n] t.shr[n]
  | .frt f, s, t => ∀ n : StageId, f.same s.frt[n] t.frt[n]
  | .srv f, s, t => ∀ n : StageId, f.same s.srv[n] t.srv[n]
  | .pie f, s, t => ∀ n : StageId, f.same s.pie[n] t.pie[n]
  | .edg f, s, t => f.same s.edg t.edg
  | .gdv f, s, t => f.same s.gdv t.gdv
  | .acq f, s, t => f.same s.acq t.acq
  | .gal f, s, t => ∀ n : StageId, f.same s.gal[n] t.gal[n]
  | .clk f, s, t => f.same s.clk t.clk
  | .twn f, s, t => f.same s.twn t.twn
  | .saf f, s, t => f.same s.saf t.saf
  | .fio f, s, t => f.same s.fio t.fio
  | .sup f, s, t => f.same s.sup t.sup
  | .lgc f, s, t => f.same s.lgc t.lgc
  | .net f, s, t => f.same s.net t.net
  | .nvs f, s, t => f.same s.nvs t.nvs

/-! ### The invariant -/

/-- The event log is in order (R393): over flash and then the buffer the sequence numbers strictly rise, the next one is above them all,
and the buffer holds no more than its records (R394). -/
structure LogOk (s : State) : Prop where
  rising : ((s.logFlash ++ s.logBuf).map (·.seq)).Pairwise (· < ·)
  below : ∀ r ∈ s.logFlash ++ s.logBuf, r.seq < s.logSeq
  room : s.logBuf.length ≤ logCapacity

/-- The invariant that every command keeps: the dictionary's values and the saved values are in canonical form (keys strictly rising,
nothing listed that equals its default), and the event log is in order. -/
structure Inv (s : State) : Prop where
  objs : cellsWf s.objs = true
  saved : cellsWf s.saved = true
  log : LogOk s

/-! ### Frames -/

/-- On every state the command answers a next state in which every part outside the list is as before. -/
def Frame (c : Instr) (parts : List Part) : Prop := ∀ s : State, Completes c s fun t => ∀ p : Part, p ∉ parts → p.same s t

/-- Every object of the dictionary. -/
def touchesObjects : List Part := [
  .obj .cia, .obj .mod, .obj .sup, .obj .nvs, .obj .tim, .obj .fio, .obj .twn, .obj .gfl, .obj .shr, .obj .frt, .obj .srv,
    .obj .pie, .obj .edg, .obj .gdv, .obj .acq, .obj .gal, .obj .lgc, .obj .net, .obj .saf, .obj .blk, .obj .other,
    .obj .ACQ_CAL_GAIN, .obj .ACQ_CAL_OFFSET, .obj .ACQ_CH_STATUS, .obj .ACQ_CH_VALUE, .obj .ACQ_DIAG_ERROR, .obj .ACQ_FC_DELAY,
    .obj .ACQ_FC_LATENCY, .obj .ACQ_FC_RATE, .obj .ACQ_FC_STATUS, .obj .ACQ_FC_UNSETTLED, .obj .ACQ_FC_VALUE,
    .obj .ACQ_OVERRANGE_COUNT, .obj .ACQ_SD_STATUS, .obj .ACQ_START_OVERLAP, .obj .ACQ_STATUS, .obj .ACQ_TRACK_DRIFT,
    .obj .CIA_ERROR_COUNT, .obj .CIA_ERROR_FIELD, .obj .CIA_ERROR_REGISTER, .obj .CVU_DROPPED, .obj .CVU_RESULT, .obj .CVU_STATUS,
    .obj .EDG_CH_CLIPPED, .obj .EDG_CH_GUARD_COUNT, .obj .EDG_CH_LATE, .obj .EDG_CH_REMOVED, .obj .EDG_CH_STATIC_CTRL,
    .obj .EDG_CH_STATUS, .obj .EDG_RAW_ENABLE, .obj .EDG_RAW_HIGH, .obj .EDG_RAW_LOW, .obj .EDG_SRC_ACTIVE, .obj .EDG_STATUS,
    .obj .EDG_TB_LATE, .obj .EDG_TB_NEXT_ZERO, .obj .EDG_TB_PERIOD, .obj .EDG_TRG_CFG, .obj .EDG_TRG_LATCH_SRC,
    .obj .EDG_TRG_LATCH_TIME, .obj .EDG_TRG_PERIODS, .obj .EDG_TRG_STATUS, .obj .FIO_CD_CURRENT, .obj .FIO_CD_IGNORED,
    .obj .FIO_CD_STATUS, .obj .FIO_DI_CURRENT, .obj .FIO_DI_STATUS, .obj .FIO_DO_CURRENT, .obj .FIO_DO_STATUS, .obj .FIO_FORCE,
    .obj .FIO_MAX_LATENESS, .obj .FIO_STATUS, .obj .FRT_COAST_COUNT, .obj .FRT_DELTA_P_COAST, .obj .FRT_IN_PLL_F,
    .obj .FRT_LAST_GAP, .obj .FRT_LAST_JUMP, .obj .FRT_LAST_PEAK, .obj .FRT_LAST_RIDE, .obj .FRT_LINK_ENERGY, .obj .FRT_RIDE_COUNT,
    .obj .FRT_STATUS, .obj .GAL_CONFIG, .obj .GAL_DATAGRAMS, .obj .GAL_DEPTH, .obj .GAL_DROPPED, .obj .GAL_MARK_COUNT,
    .obj .GAL_MARK_FRAC, .obj .GAL_MARK_K, .obj .GAL_MARK_TIME, .obj .GAL_RECORDS, .obj .GAL_STATUS, .obj .GAL_WIRE_RATE,
    .obj .GDV_BS_FORECAST, .obj .GDV_BS_REFRESHES, .obj .GDV_CH_STATUS, .obj .GDV_DESAT_COUNT, .obj .GDV_DIAG_RESULT,
    .obj .GDV_PORT_ACK_MISSING, .obj .GDV_PORT_FAULTS, .obj .GDV_PORT_LAST_CODE, .obj .GDV_PORT_STATUS, .obj .GDV_RAIL_V,
    .obj .GDV_SAFE_PATTERN, .obj .GDV_STATUS, .obj .GFL_CONFIG, .obj .GFL_E, .obj .GFL_EFF_KC, .obj .GFL_EFF_NOTCH_F,
    .obj .GFL_EFF_RV, .obj .GFL_EFF_XV, .obj .GFL_FREQ, .obj .GFL_F_RES, .obj .GFL_P_MEAS, .obj .GFL_P_MECH, .obj .GFL_Q_MEAS,
    .obj .GFL_STATUS, .obj .GFL_THETA, .obj .GFL_V_NEG, .obj .GFL_V_ZERO, .obj .GFL_ZETA, .obj .LGC_CYCLE_COUNT, .obj .LGC_LOAD,
    .obj .LGC_LT, .obj .LGC_MAX_BUSY, .obj .LGC_OVERRUN_COUNT, .obj .LGC_OVERRUN_RUN, .obj .LGC_PERIOD_IN_FORCE,
    .obj .LGC_PROG_CHECK, .obj .LGC_PROG_ID, .obj .LGC_RETAIN_LAG, .obj .LGC_STAGED_ID, .obj .LGC_STATUS, .obj .LGC_STN_DROPS,
    .obj .LGC_STN_ID, .obj .LGC_STN_LAST_RX, .obj .LGC_STN_STATE, .obj .LGC_WCET_BUSY, .obj .MOD_FW_IMAGE, .obj .MOD_FW_VERSION,
    .obj .MOD_LOCKOUT_CAUSE, .obj .MOD_STAGE_SAFE_CAUSE, .obj .MOD_STATUS, .obj .MOD_TRANSITION_COUNT, .obj .NET_ABORTS,
    .obj .NET_CAN_STATE, .obj .NET_DUP_DISCARDED, .obj .NET_LAST_ABORT, .obj .NET_LATE_TX, .obj .NET_OWNER, .obj .NET_SESSIONS,
    .obj .NET_STATUS, .obj .NET_WRITES_LOST, .obj .NVS_DEFERRED, .obj .NVS_ECC_CORRECTED, .obj .NVS_HOLD_C, .obj .NVS_HOLD_V,
    .obj .NVS_IMAGE_STATE, .obj .NVS_LOG_DROPPED, .obj .NVS_STATUS, .obj .PIE_CONFIG, .obj .PIE_ECC_CORRECTED,
    .obj .PIE_GRAPH_CHECK, .obj .PIE_GRAPH_ID, .obj .PIE_INSTANCE_COUNT, .obj .PIE_LAST_COMMIT, .obj .PIE_LOAD, .obj .PIE_MAX_CRIT,
    .obj .PIE_MAX_TOTAL, .obj .PIE_OFFPLAN_COUNT, .obj .PIE_OVERRUN_COUNT, .obj .PIE_OVERRUN_RUN, .obj .PIE_POST_OVERRUN_COUNT,
    .obj .PIE_STATUS, .obj .PIE_WCET_CRIT, .obj .PIE_WCET_TOTAL, .obj .SAF_ABSENCE, .obj .SAF_CONN_LAST_AGE,
    .obj .SAF_CONN_REJECTED, .obj .SAF_CONN_STATUS, .obj .SAF_SOC_OPERATIONS, .obj .SAF_SOC_SINCE_PROOF, .obj .SAF_SOC_STATUS,
    .obj .SAF_SSD_VALUE, .obj .SAF_STATUS, .obj .SAF_UNKNOWN_ID, .obj .SHR_ANCHOR_COUNT, .obj .SHR_ANCHOR_LATE, .obj .SHR_DELTA_F,
    .obj .SHR_DELTA_F_REST, .obj .SHR_DELTA_THETA, .obj .SHR_DELTA_V, .obj .SHR_DELTA_V_REST, .obj .SHR_F_MEAN, .obj .SHR_LINE_F,
    .obj .SHR_LINE_V, .obj .SHR_STATUS, .obj .SHR_V_MEAN, .obj .SRV_CAN_RES, .obj .SRV_CAN_SCORE, .obj .SRV_COHERENCE,
    .obj .SRV_CONFIG, .obj .SRV_DFN_AD, .obj .SRV_DKC_AD, .obj .SRV_DR_AD, .obj .SRV_DX_AD, .obj .SRV_F_PEAK, .obj .SRV_F_UPPER,
    .obj .SRV_N_EST, .obj .SRV_N_PARALLEL, .obj .SRV_ROUND_COUNT, .obj .SRV_STATUS, .obj .SRV_Z1_R, .obj .SRV_Z1_X,
    .obj .SRV_ZETA_PEAK, .obj .SRV_ZETA_SWING, .obj .SRV_Z_ANGLE, .obj .SRV_Z_MAG, .obj .SUP_INTERRUPTIONS,
    .obj .SUP_LAST_INTERRUPTION, .obj .SUP_RAIL, .obj .SUP_STATUS, .obj .THM_BROKEN, .obj .THM_PEAK, .obj .THM_SHUTDOWN_SENSOR,
    .obj .THM_STATUS, .obj .THM_TEMP, .obj .THM_THROTTLE_STEP, .obj .TIM_BOOT_COUNT, .obj .TIM_NTA_DISCARDED, .obj .TIM_NTA_GM_ID,
    .obj .TIM_NTA_PATH_DELAY, .obj .TIM_NTA_STEPS_REMOVED, .obj .TIM_PLL_LOSSES, .obj .TIM_REF_DEV, .obj .TIM_STATUS,
    .obj .TIM_TC_CORRECTED, .obj .TWN_GRID_PHASE, .obj .TWN_LAST_INTERRUPTION, .obj .TWN_LINK_ERRORS, .obj .TWN_LINK_LATENCY,
    .obj .TWN_MISMATCHES, .obj .TWN_PARTNER_FW, .obj .TWN_PARTNER_SERIAL, .obj .TWN_STATUS, .obj .TWN_TAKEOVERS, .obj .BASE_STATUS,
    .obj .BASE_OFFSET, .obj .BASE_RATE, .obj .BASE_HOLDOVER]

/-- What may change with an output brought up to the present (R178, R180). -/
def touchesOutput : List Part := [
  .obj .GDV_CH_STATUS, .obj .GDV_PORT_STATUS, .edg .ch, .gdv .port]

/-- What may change with a refused request (R326, Table 14.7). -/
def touchesRefusal : List Part := [
  .log, .obj .MOD_STATUS, .obj .NET_WRITES_LOST, .obj .NVS_LOG_DROPPED]

/-- What may change with the logic engine's status objects (Table 13.9). -/
def touchesLogicStatus : List Part := [
  .obj .LGC_PROG_CHECK, .obj .LGC_PROG_ID, .obj .LGC_STAGED_ID, .obj .LGC_STATUS, .obj .LGC_WCET_BUSY]

/-- What may change with a late set (R157). -/
def touchesLate : List Part := [
  .log, .obj .EDG_CH_LATE, .obj .NVS_LOG_DROPPED, .obj .SHR_ANCHOR_LATE, .acq .adc]

/-- What may change with a safe output contactor found faulty (R363). -/
def touchesContactor : List Part := [
  .log, .obj .FIO_CD_STATUS, .obj .NVS_LOG_DROPPED, .obj .SAF_SOC_STATUS, .obj .SAF_STATUS, .saf .soc, .fio .drv]

/-- What may change with a request and its answer (R326, R340). -/
def touchesRequest : List Part := [
  .tx, .obj .NET_ABORTS, .obj .NET_LAST_ABORT, .net .ownerAt, .net .sessions, .net .rights, .net .spiReply, .net .spiLast]

/-- What may change with sessions whose port has lost its link (R341). -/
def touchesSessions : List Part := [
  .log, .obj .NET_OWNER, .obj .NET_SESSIONS, .obj .NET_STATUS, .obj .NVS_LOG_DROPPED, .net .sessions, .net .rights, .net .challenges]

/-- What may change with the permissions at the abutment (R25). -/
def touchesPermissions : List Part := [
  .obj .FIO_CD_STATUS, .obj .FIO_DO_STATUS, .obj .FIO_STATUS, .obj .SAF_SOC_STATUS, .obj .SAF_STATUS, .isl .pulseEnable,
    .isl .pulseLost, .isl .contactorEnable, .saf .soc, .fio .drv]

/-- What may change with a store that is asked for (R391). -/
def touchesStore : List Part := [
  .log, .obj .NVS_DEFERRED, .obj .NVS_HOLD_V, .obj .NVS_LOG_DROPPED, .obj .NVS_STATUS, .nvs .waiting, .nvs .running, .nvs .deferred,
    .nvs .pageAt, .nvs .eraseAt]

/-- What may change with a step of a base of network or twin time (R284 to R288). -/
def touchesBase : List Part := [
  .log, .obj .NVS_LOG_DROPPED, .obj .SHR_STATUS, .obj .TIM_STATUS, .obj .BASE_STATUS, .obj .BASE_OFFSET, .obj .BASE_RATE,
    .obj .BASE_HOLDOVER, .shr .claim, .shr .winBad, .shr .suspended, .clk .base]

/-- What may change with the law's measurement objects (Table 3.4). -/
def touchesLaw : List Part := [
  .obj .GFL_E, .obj .GFL_EFF_KC, .obj .GFL_EFF_NOTCH_F, .obj .GFL_EFF_RV, .obj .GFL_EFF_XV, .obj .GFL_FREQ, .obj .GFL_P_MEAS,
    .obj .GFL_P_MECH, .obj .GFL_Q_MEAS, .obj .GFL_THETA, .obj .GFL_V_NEG, .obj .GFL_V_ZERO]

/-- What may change with the logic engine of a new active module (R322). -/
def touchesEngine : List Part := touchesLogicStatus ++ [
  .log, .obj .NVS_LOG_DROPPED, .lgc .running, .lgc .nextAt, .lgc .lastAt, .lgc .busyUntil, .lgc .tc, .lgc .starting]

/-- What may change with a trip group that acts (R187). -/
def touchesTrip : List Part := touchesOutput ++ [
  .log, .obj .EDG_CH_STATUS, .obj .EDG_STATUS, .obj .EDG_TRG_PERIODS, .obj .EDG_TRG_STATUS, .obj .NVS_LOG_DROPPED, .frt .pulsed,
    .pie .tripped, .edg .grp, .gal .seen]

/-- What may change with what a tick does in a pair (R415, R420). -/
def touchesPair : List Part := touchesOutput ++ [
  .obj .GDV_STATUS, .obj .MOD_STATUS, .obj .TWN_STATUS, .gdv .pattern, .gdv .noHolder, .gdv .drv, .twn .request, .twn .grant,
    .twn .grantLost, .twn .armed, .twn .holdoff, .twn .handover]

/-- What may change with the image of the logic engine restored (R313). -/
def touchesImage : List Part := touchesLogicStatus ++ [
  .log, .obj .LGC_STN_ID, .obj .LGC_STN_STATE, .obj .NVS_LOG_DROPPED, .mod .restoreDone, .lgc .valid, .lgc .image, .lgc .lastBank,
    .lgc .marked, .lgc .kept, .lgc .lag, .lgc .busyUntil, .lgc .exchanging, .lgc .skipped, .lgc .exchange, .lgc .host, .lgc .station]

/-- What may change with the waiting writes of a gallery (R262, R268). -/
def touchesGallery : List Part := [
  .commitWrites, .tx, .log, .obj .gal, .obj .GAL_CONFIG, .obj .GAL_DATAGRAMS, .obj .GAL_DEPTH, .obj .GAL_DROPPED,
    .obj .GAL_MARK_COUNT, .obj .GAL_MARK_FRAC, .obj .GAL_MARK_K, .obj .GAL_MARK_TIME, .obj .GAL_RECORDS, .obj .GAL_STATUS,
    .obj .GAL_WIRE_RATE, .obj .NVS_LOG_DROPPED, .gal .changed, .gal .prev, .gal .datagram, .gal .seq, .gal .dropped, .gal .busyTo]

/-- What may change with what a stage drops when it leaves RUN (R107, R125, R371). -/
def touchesActivities : List Part := [
  .log, .obj .FRT_DELTA_P_COAST, .obj .FRT_STATUS, .obj .GFL_STATUS, .obj .NVS_LOG_DROPPED, .obj .SAF_STATUS, .obj .SHR_STATUS,
    .obj .SRV_STATUS, .shr .claim, .shr .closeAt, .shr .tieAt, .shr .pull, .shr .okSince, .shr .deadSince, .shr .ramping,
    .shr .glideW, .shr .glideV, .shr .joining, .shr .winStart, .shr .winBad, .shr .suspended, .frt .riding, .frt .clearAt,
    .frt .clearBefore, .frt .decay, .frt .coasting, .frt .lowSince, .frt .shed, .frt .release, .frt .powerLimit, .frt .powerRef,
    .frt .devSince, .frt .inPast, .frt .aboveSince, .frt .speedDue, .srv .active, .pie .work, .pie .post, .pie .postDone,
    .pie .provisional, .pie .before, .saf .ssd]

/-- What may change with the entry of a stage into RUN (R65). -/
def touchesRun : List Part := touchesContactor ++ touchesOutput ++ [
  .safe, .obj .EDG_CH_STATUS, .obj .GAL_DEPTH, .obj .GAL_STATUS, .obj .GAL_WIRE_RATE, .obj .PIE_STATUS, .obj .SAF_SOC_OPERATIONS,
    .obj .SHR_ANCHOR_COUNT, .obj .SHR_DELTA_F_REST, .obj .SHR_DELTA_V_REST, .obj .SHR_STATUS, .stg .st, .stg .toArmed, .stg .toRun,
    .stg .lastLimit, .stg .sinceEntry, .stg .pulsesEnd, .shr .winStart, .shr .winSum, .shr .winCount, .shr .winBad, .srv .startedAt,
    .srv .runSince, .pie .law, .pie .duties, .pie .sent, .pie .fClamp, .pie .eClamp, .pie .negClamp, .pie .nClamp, .pie .restClamp,
    .edg .sets]

/-- What may change with a stage that goes to SAFE (R34, R35). -/
def touchesSafe : List Part := touchesActivities ++ touchesContactor ++ touchesOutput ++ [
  .tx, .obj .CIA_ERROR_COUNT, .obj .CIA_ERROR_FIELD, .obj .CIA_ERROR_REGISTER, .obj .EDG_CH_STATUS, .obj .GAL_DATAGRAMS,
    .obj .GAL_DEPTH, .obj .GAL_STATUS, .obj .GAL_WIRE_RATE, .obj .MOD_STAGE_SAFE_CAUSE, .obj .PIE_STATUS, .mod .lastGfiCause,
    .stg .st, .stg .cause, .stg .diagSince, .stg .heldStart, .stg .toArmed, .stg .toRun, .stg .toOff, .stg .sinceEntry,
    .stg .pulsesEnd, .pie .law, .edg .sets, .gal .datagram, .gal .seq, .gal .dropped, .gal .busyTo, .net .can]

/-- What may change with the fence of a logic engine at its overrun limit (R302). -/
def touchesLogicFence : List Part := touchesSafe ++ touchesTrip ++ touchesBase ++ touchesPermissions ++ touchesSessions ++ [
  .free, .obj .EDG_SRC_ACTIVE, .obj .LGC_STATUS, .obj .MOD_STATUS, .obj .TWN_STATUS, .isl .fenced, .isl .joints,
    .isl .houseFencedAt, .mod .lockoutPending, .mod .stopPending, .pie .selftest, .pie .selftestDue, .edg .active, .twn .link,
    .twn .lanes, .twn .lock, .twn .lockFrom, .twn .arb, .lgc .running, .net .link, .net .bypass]

/-- What may change with a reset communication (R336). -/
def touchesResetComm : List Part := touchesObjects ++ [
  .resetWrites, .tx, .net .can]

/-- What may change with a waiting write that acts (R327). -/
def touchesWaitingWrite : List Part := touchesObjects ++ touchesSafe ++ [
  .frt .budget, .frt .budgetAt, .frt .budgetUsed, .srv .dRad, .srv .dXad, .srv .dKc, .srv .dFn, .srv .glideR, .srv .glideX,
    .srv .holdVi, .srv .holdNotch, .srv .holdKc, .srv .above, .pie .blocks, .pie .selftest, .pie .selftestDue, .pie .rv, .pie .xv,
    .pie .xvn, .acq .cmpLevel, .twn .arb]

/-- What may change with a write to the dictionary (R326 to R333). -/
def touchesWrite : List Part := touchesObjects ++ touchesWaitingWrite ++ touchesRun ++ touchesImage ++ touchesGallery ++ touchesTrip ++ touchesEngine ++ touchesPermissions ++ touchesStore ++ touchesRequest ++ [
  .heldWrites, .modeWrites, .resetWrites, .free, .isl .implausible, .isl .refused, .mod .mode, .mod .order, .mod .lockoutCause,
    .mod .lockoutPending, .mod .stopPending, .mod .enteredAt, .mod .cfgLoaded, .mod .calDone, .mod .holdupDone, .mod .diagQueue,
    .mod .charged, .mod .loadsStarted, .stg .diagPassed, .stg .diagDeferred, .shr .syncFrom, .shr .syncTimeout, .shr .dwell,
    .shr .lostLogged, .shr .rampFrom, .shr .rampTime, .shr .rampLast, .pie .out, .pie .envLogged, .edg .tb, .edg .active, .edg .raw,
    .edg .rawHigh, .edg .rawLow, .edg .added, .gdv .drv, .acq .chain, .acq .selfCal, .acq .diag, .acq .cmpOwned, .gal .armed,
    .gal .ready, .gal .holdoff, .gal .readK, .clk .switchedAt, .clk .active, .clk .base, .twn .formed, .twn .lock, .twn .lockFrom,
    .twn .conflict, .twn .mismatch, .twn .active, .twn .request, .twn .auto, .twn .held, .twn .handover, .twn .winTarget,
    .saf .conn, .saf .pending, .saf .coverSeen, .saf .demanded, .saf .latched, .saf .removed, .saf .tieFailed, .fio .di, .fio .out,
    .fio .force, .sup .sensorAt, .lgc .staged, .lgc .staging, .lgc .resetRetain, .lgc .level, .lgc .peek, .net .challenges,
    .net .invalid, .net .blocked, .net .restore, .nvs .cvu, .nvs .version, .nvs .writing, .nvs .readSeq]

/-- What may change with a restart of the module (R30, R457). -/
def touchesRestart : List Part := touchesObjects ++ touchesRun ++ touchesActivities ++ touchesPair ++ touchesTrip ++ touchesEngine ++ touchesPermissions ++ touchesStore ++ touchesSessions ++ [
  .saved, .commitWrites, .heldWrites, .modeWrites, .resetWrites, .fence, .isl .mt, .isl .started, .isl .broadcast, .isl .dev,
    .isl .fenced, .isl .joints, .isl .held, .isl .lately, .isl .implausible, .isl .refused, .isl .contactorLapsed,
    .isl .houseFencedAt, .mod .mode, .mod .order, .mod .lockoutCause, .mod .lockoutPending, .mod .stopPending, .mod .enteredAt,
    .mod .cfgLoaded, .mod .calDone, .mod .holdupDone, .mod .restoreDone, .mod .diagQueue, .mod .cfgValid, .mod .imageStarted,
    .mod .charged, .mod .loadsStarted, .mod .link, .mod .lastGfiCause, .stg .cause, .stg .diagPassed, .stg .diagDeferred,
    .stg .diagSince, .stg .heldStart, .stg .toOff, .stg .graphOk, .shr .line, .shr .far, .shr .closeTimeout, .shr .closedDead,
    .shr .closed, .shr .syncFrom, .shr .syncTimeout, .shr .dwell, .shr .lostLogged, .shr .rampFrom, .shr .rampTime, .shr .rampLast,
    .shr .anchor, .frt .budget, .frt .budgetAt, .frt .budgetUsed, .frt .peak, .frt .failed, .frt .coastFrom, .frt .lowest,
    .frt .lost, .frt .lostAt, .frt .confirmed, .frt .blocked, .frt .ramp, .frt .notified, .frt .pllF, .frt .pllPhase, .frt .pllAt,
    .frt .hold, .frt .holdExpired, .frt .crossings, .frt .dev, .frt .vdc, .srv .chip, .srv .cfg, .srv .dRad, .srv .dXad, .srv .dKc,
    .srv .dFn, .srv .glideR, .srv .glideX, .srv .undo, .srv .holdVi, .srv .holdNotch, .srv .holdKc, .srv .zetaPk, .srv .zetaA,
    .srv .above, .srv .warned, .srv .acted, .srv .scores, .srv .prevIL, .srv .prevVc, .srv .prevIo, .srv .prevU, .srv .prevVdc,
    .srv .worst, .srv .due, .srv .actedAt, .srv .record, .pie .blocks, .pie .k, .pie .t0, .pie .graph, .pie .tally,
    .pie .overrunRun, .pie .postRun, .pie .out, .pie .ran, .pie .selftest, .pie .selftestDue, .pie .bistAt, .pie .rv, .pie .xv,
    .pie .xvn, .pie .envLogged, .edg .loadedAt, .edg .tb, .edg .active, .edg .pinKnown, .edg .raw, .edg .rawHigh, .edg .rawLow,
    .edg .calFault, .edg .heartbeats, .edg .beatAt, .edg .recalAt, .edg .added, .gdv .uvlo, .gdv .uvloAt, .gdv .heartbeat,
    .acq .timer, .acq .adc, .acq .chain, .acq .sdFault, .acq .selfCal, .acq .diag, .acq .cmpOwned, .acq .cmpLevel, .gal .ring,
    .gal .missing, .gal .changed, .gal .cond, .gal .prev, .gal .prevAt, .gal .armed, .gal .ready, .gal .holdoff, .gal .datagram,
    .gal .openedAt, .gal .seq, .gal .dropped, .gal .busyTo, .gal .readK, .clk .refOk, .clk .badAt, .clk .switchedAt,
    .clk .countedAt, .clk .monitoredAt, .clk .active, .clk .pllOn, .clk .pll, .clk .onB, .clk .netLocked, .clk .netLostAt,
    .clk .base, .twn .mode, .twn .primary, .twn .link, .twn .lanes, .twn .partner, .twn .formed, .twn .lock, .twn .phase,
    .twn .lockFrom, .twn .conflict, .twn .mismatch, .twn .active, .twn .auto, .twn .held, .twn .claimIn, .twn .claimSince,
    .twn .xfail, .twn .xfailAt, .twn .partnerFenced, .twn .selfFenced, .twn .arb, .twn .digests, .twn .diffs, .twn .winTarget,
    .twn .view, .saf .conn, .saf .pending, .saf .coverSeen, .saf .coverDemand, .saf .demanded, .saf .latched, .saf .halted,
    .saf .removed, .saf .tieFailed, .saf .resetAt, .saf .marchAt, .fio .di, .fio .out, .fio .f24Bad, .fio .force, .sup .highAt,
    .sup .shed, .sup .backAt, .sup .gdLimited, .sup .sensorAt, .sup .lastRound, .sup .sensor, .sup .stepAt, .lgc .valid,
    .lgc .verified, .lgc .staged, .lgc .staging, .lgc .image, .lgc .marked, .lgc .kept, .lgc .lag, .lgc .busy, .lgc .exchanging,
    .lgc .skipped, .lgc .stretch, .lgc .exchange, .lgc .resetRetain, .lgc .host, .lgc .station, .lgc .level, .lgc .peek,
    .lgc .loads, .net .ownerAt, .net .invalid, .net .blocked, .net .can, .net .heard, .net .syncs, .net .tpdoAt, .net .tpdoLast,
    .net .rpdoWait, .net .link, .net .bypass, .net .macs, .net .spiReply, .net .spiSeq, .net .spiLast, .net .spiPartial,
    .net .restore, .nvs .cvu, .nvs .stopped, .nvs .running_, .nvs .package, .nvs .writing, .nvs .readSeq, .nvs .retryAt,
    .nvs .reported]

/-! ### Commands by what they may do -/

/-- The commands with which the module's mode may change: module commands, the tick and its timeouts, the ways into and out of ADIT and HALT, and
whatever carries a write or a held command (R28, R29). -/
def mayMoveMode : Instr → Bool
  | .commandArrival .. | .effectiveInstantReached .. | .modeTick .. | .aditEntry .. | .modStart .. | .modStop ..
    | .serviceRelease .. | .startStage .. | .stopStage .. | .resetSafe .. | .logicCycleBoundary .. | .dictionaryWrite ..
    | .sdoRequest .. | .rpdoReceived .. | .canSyncReceived .. | .svcWrite .. | .svcWriteSeg .. | .spiFrameReceived ..
    | .storeComplete .. | .forwardedWrite .. | .auxStopLevel .. | .resetInputAssert .. => true
  | _ => false

/-- The commands with which a stage may leave SAFE: RESET_SAFE and the changes of mode that a command or tick brings, and the causes of a cascade in
which a stage's state is set anew (R34). -/
def mayEndSafe : Instr → Bool
  | .commandArrival .. | .effectiveInstantReached .. | .modeTick .. | .offStateTestComplete .. | .modStart .. | .modStop ..
    | .serviceRelease .. | .startStage .. | .stopStage .. | .resetSafe .. | .stageLimitExit .. | .pierDispatch ..
    | .claimSlotReached .. | .claimHoldoffExpiry .. | .syncLineDeadTimeout .. | .logicCycleBoundary .. | .dictionaryWrite ..
    | .sdoRequest .. | .rpdoReceived .. | .canSyncReceived .. | .svcWrite .. | .svcWriteSeg .. | .spiFrameReceived ..
    | .ssdRampIncomplete .. | .safetyUnitReceived .. | .connectionTimeout .. | .restartConn .. | .storeComplete ..
    | .forwardedWrite .. | .diStateChange .. | .diLineFault .. | .diLineFaultEnd .. | .auxStopLevel .. | .resetInputAssert .. => true
  | _ => false

/-- The commands with which the module may start anew: AUX_IN at its stop level, the store that the stop level waits for, and the reset input
(R24, R439, R457). -/
def restarts : Instr → Bool
  | .storeComplete .. | .auxStopLevel .. | .resetInputAssert .. => true
  | _ => false

/-- The commands with which module time may be set: the ways into HALT, and the lock with which it starts (R15). -/
def maySetTime : Instr → Bool
  | .pllLock .. | .storeComplete .. | .auxStopLevel .. | .resetInputAssert .. => true
  | _ => false

/-- The commands with which records may leave the log's buffer: its page is written to flash, or the supply is gone (R394). -/
def mayLoseRecords : Instr → Bool
  | .storeComplete .. | .auxStopLevel .. => true
  | _ => false

/-- The commands with which the saved values may change: a store that completes, a record found broken, and a restart after restoring the defaults
(R352, R390). -/
def maySave : Instr → Bool
  | .scrubStep .. | .storeComplete .. | .auxStopLevel .. | .resetInputAssert .. => true
  | _ => false

/-- The command with which the running program may change: a boundary of the logic engine (R317). -/
def mayExchange : Instr → Bool
  | .logicCycleBoundary .. => true
  | _ => false

/-- What each command may change, whatever its operands and the state: fields of the state and objects of the dictionary. The lists named
above stand for what one operation of the spec may change. -/
def touches : Instr → List Part
  | .timeBroadcast .. => touchesLogicFence ++ [.isl .broadcast, .isl .dev]
  | .jointWordArrival .. => touchesLogicFence
  | .commandArrival .. => touchesObjects ++ touchesWrite ++ [.isl .held, .isl .lately, .shr .anchor, .frt .notified, .acq .adc]
  | .effectiveInstantReached .. => touchesObjects ++ touchesWrite ++ [.isl .held, .isl .lately, .shr .anchor, .frt .notified]
  | .islandFence .. => touchesLogicFence
  | .safePatternApply .. => touchesOutput ++ [.log, .obj .GDV_STATUS, .obj .NVS_LOG_DROPPED, .gdv .pattern, .gdv .drv]
  | .safePatternLeave .. => touchesOutput ++ [.obj .GDV_STATUS, .gdv .pattern, .gdv .drv]
  | .contactorEnableLapse => [.obj .FIO_CD_STATUS, .obj .FIO_DO_STATUS, .obj .FIO_STATUS, .isl .contactorLapsed, .fio .drv]
  | .modeTick .. => touchesObjects ++ touchesWaitingWrite ++ touchesRun ++ touchesImage ++ touchesGallery ++ touchesPair ++ touchesTrip
    ++ touchesEngine ++ touchesPermissions ++ [.modeWrites, .free, .mod .mode, .mod .order, .mod .lockoutCause, .mod .lockoutPending,
    .mod .stopPending, .mod .enteredAt, .mod .cfgLoaded, .mod .calDone, .mod .holdupDone, .mod .diagQueue, .mod .charged,
    .mod .loadsStarted, .mod .link, .stg .diagDeferred, .shr .syncFrom, .shr .syncTimeout, .shr .dwell, .shr .rampFrom, .shr .rampTime,
    .shr .rampLast, .pie .out, .pie .envLogged, .edg .raw, .edg .rawHigh, .edg .rawLow, .edg .added, .acq .chain, .acq .cmpOwned,
    .clk .base, .twn .held, .twn .partnerFenced, .twn .view, .saf .pending, .saf .coverSeen, .saf .coverDemand, .saf .demanded,
    .saf .removed, .saf .tieFailed, .fio .di, .fio .force, .sup .sensorAt, .net .rights]
  | .auxPowerUp => [.mod .powered]
  | .aditEntry .. => touchesObjects ++ touchesWaitingWrite ++ touchesGallery ++ touchesTrip ++ touchesPermissions ++ [.modeWrites, .free,
    .mod .mode, .mod .enteredAt, .pie .envLogged, .edg .raw, .edg .rawHigh, .edg .rawLow, .gdv .drv, .acq .chain, .clk .refOk,
    .clk .active, .clk .pllOn, .clk .base, .twn .mode, .twn .primary, .fio .force, .sup .sensorAt, .net .rights]
  | .aditPllTimeout => [.log, .obj .NVS_LOG_DROPPED, .mod .lockoutPending]
  | .imageVerified .. => touchesLogicStatus ++ [.log, .obj .MOD_FW_IMAGE, .obj .MOD_FW_VERSION, .obj .NVS_IMAGE_STATE,
    .obj .NVS_LOG_DROPPED, .mod .lockoutPending, .mod .imageStarted, .lgc .valid, .lgc .verified, .nvs .running_, .nvs .package]
  | .surveyConfigLoad .. => touchesObjects ++ touchesTrip ++ touchesBase ++ touchesPermissions ++ [.commitWrites, .tx,
    .mod .lockoutPending, .mod .cfgLoaded, .mod .cfgValid, .stg .cause, .stg .graphOk, .frt .budget, .frt .budgetAt, .pie .blocks,
    .pie .work, .pie .post, .pie .k, .pie .t0, .pie .graph, .pie .postDone, .pie .provisional, .pie .duties, .pie .sent, .pie .out,
    .pie .before, .edg .loadedAt, .edg .tb, .edg .pinKnown, .edg .added, .acq .timer, .acq .adc, .acq .selfCal, .net .can]
  | .selfCalComplete .. => [.log, .obj .ACQ_CAL_GAIN, .obj .ACQ_CAL_OFFSET, .obj .ACQ_CH_STATUS, .obj .ACQ_FC_STATUS, .obj .ACQ_STATUS,
    .obj .NVS_LOG_DROPPED, .mod .lockoutPending, .mod .calDone, .acq .adc, .acq .chain, .acq .selfCal]
  | .holdupCheckComplete .. => [.log, .obj .NVS_HOLD_C, .obj .NVS_HOLD_V, .obj .NVS_LOG_DROPPED, .mod .lockoutPending, .mod .holdupDone,
    .mod .diagQueue, .mod .link, .stg .diagPassed, .stg .diagDeferred, .stg .diagSince]
  | .deferredDiagStart .. => [.stg .diagSince]
  | .offStateTestComplete .. => touchesSafe ++ [.safe, .obj .GDV_DIAG_RESULT, .mod .diagQueue, .stg .diagPassed, .stg .diagDeferred,
    .pie .out]
  | .logicImageRestore => touchesImage
  | .modStart .. => touchesObjects ++ touchesWaitingWrite ++ touchesRun ++ touchesImage ++ touchesGallery ++ touchesTrip ++ touchesEngine
    ++ touchesPermissions ++ touchesRequest ++ [.modeWrites, .free, .mod .mode, .mod .order, .mod .lockoutCause, .mod .lockoutPending,
    .mod .stopPending, .mod .enteredAt, .mod .cfgLoaded, .mod .calDone, .mod .holdupDone, .mod .diagQueue, .mod .charged,
    .mod .loadsStarted, .stg .diagDeferred, .shr .syncFrom, .shr .syncTimeout, .shr .dwell, .shr .rampFrom, .shr .rampTime,
    .shr .rampLast, .pie .out, .pie .envLogged, .edg .raw, .edg .rawHigh, .edg .rawLow, .edg .added, .gdv .drv, .acq .chain,
    .acq .cmpOwned, .clk .base, .twn .formed, .twn .conflict, .twn .mismatch, .twn .active, .twn .request, .twn .auto, .twn .held,
    .saf .pending, .saf .coverSeen, .saf .removed, .saf .tieFailed, .fio .di, .fio .force, .sup .sensorAt, .lgc .level]
  | .modStop .. => touchesObjects ++ touchesWaitingWrite ++ touchesRun ++ touchesImage ++ touchesGallery ++ touchesTrip ++ touchesEngine
    ++ touchesPermissions ++ touchesRequest ++ [.modeWrites, .free, .mod .mode, .mod .order, .mod .lockoutCause, .mod .lockoutPending,
    .mod .stopPending, .mod .enteredAt, .mod .cfgLoaded, .mod .calDone, .mod .holdupDone, .mod .diagQueue, .mod .charged,
    .mod .loadsStarted, .stg .diagDeferred, .shr .syncFrom, .shr .syncTimeout, .shr .dwell, .shr .rampFrom, .shr .rampTime,
    .shr .rampLast, .pie .out, .pie .envLogged, .edg .raw, .edg .rawHigh, .edg .rawLow, .edg .added, .gdv .drv, .acq .chain,
    .acq .cmpOwned, .clk .base, .twn .request, .twn .held, .saf .pending, .saf .coverSeen, .saf .removed, .saf .tieFailed, .fio .di,
    .fio .force, .sup .sensorAt]
  | .serviceRelease .. => touchesObjects ++ touchesWaitingWrite ++ touchesRun ++ touchesImage ++ touchesGallery ++ touchesTrip ++
    touchesEngine ++ touchesPermissions ++ touchesRequest ++ [.modeWrites, .free, .mod .mode, .mod .order, .mod .lockoutCause,
    .mod .lockoutPending, .mod .stopPending, .mod .enteredAt, .mod .cfgLoaded, .mod .calDone, .mod .holdupDone, .mod .diagQueue,
    .mod .charged, .mod .loadsStarted, .stg .diagDeferred, .shr .syncFrom, .shr .syncTimeout, .shr .dwell, .shr .rampFrom,
    .shr .rampTime, .shr .rampLast, .pie .out, .pie .envLogged, .edg .raw, .edg .rawHigh, .edg .rawLow, .edg .added, .gdv .drv,
    .acq .chain, .acq .cmpOwned, .clk .base, .twn .request, .twn .held, .saf .pending, .saf .coverSeen, .saf .removed, .saf .tieFailed,
    .fio .di, .fio .force, .sup .sensorAt]
  | .startStage .. => touchesObjects ++ touchesWaitingWrite ++ touchesRun ++ touchesImage ++ touchesGallery ++ touchesTrip ++
    touchesEngine ++ touchesPermissions ++ touchesRequest ++ [.modeWrites, .free, .mod .mode, .mod .order, .mod .lockoutCause,
    .mod .lockoutPending, .mod .stopPending, .mod .enteredAt, .mod .cfgLoaded, .mod .calDone, .mod .holdupDone, .mod .diagQueue,
    .mod .charged, .mod .loadsStarted, .stg .diagDeferred, .shr .syncFrom, .shr .syncTimeout, .shr .dwell, .shr .rampFrom,
    .shr .rampTime, .shr .rampLast, .pie .out, .pie .envLogged, .edg .raw, .edg .rawHigh, .edg .rawLow, .edg .added, .gdv .drv,
    .acq .chain, .acq .cmpOwned, .clk .base, .twn .request, .twn .held, .saf .pending, .saf .coverSeen, .saf .removed, .saf .tieFailed,
    .fio .di, .fio .force, .sup .sensorAt]
  | .stopStage .. => touchesObjects ++ touchesWaitingWrite ++ touchesRun ++ touchesImage ++ touchesGallery ++ touchesTrip ++
    touchesEngine ++ touchesPermissions ++ touchesRequest ++ [.modeWrites, .free, .mod .mode, .mod .order, .mod .lockoutCause,
    .mod .lockoutPending, .mod .stopPending, .mod .enteredAt, .mod .cfgLoaded, .mod .calDone, .mod .holdupDone, .mod .diagQueue,
    .mod .charged, .mod .loadsStarted, .stg .diagDeferred, .shr .syncFrom, .shr .syncTimeout, .shr .dwell, .shr .rampFrom,
    .shr .rampTime, .shr .rampLast, .pie .out, .pie .envLogged, .edg .raw, .edg .rawHigh, .edg .rawLow, .edg .added, .gdv .drv,
    .acq .chain, .acq .cmpOwned, .clk .base, .twn .request, .twn .held, .saf .pending, .saf .coverSeen, .saf .removed, .saf .tieFailed,
    .fio .di, .fio .force, .sup .sensorAt]
  | .resetSafe .. => touchesObjects ++ touchesWaitingWrite ++ touchesRun ++ touchesImage ++ touchesGallery ++ touchesTrip ++
    touchesEngine ++ touchesPermissions ++ touchesRequest ++ [.modeWrites, .free, .mod .mode, .mod .order, .mod .lockoutCause,
    .mod .lockoutPending, .mod .stopPending, .mod .enteredAt, .mod .cfgLoaded, .mod .calDone, .mod .holdupDone, .mod .diagQueue,
    .mod .charged, .mod .loadsStarted, .stg .diagPassed, .stg .diagDeferred, .shr .syncFrom, .shr .syncTimeout, .shr .dwell,
    .shr .rampFrom, .shr .rampTime, .shr .rampLast, .pie .out, .pie .envLogged, .edg .raw, .edg .rawHigh, .edg .rawLow, .edg .added,
    .gdv .drv, .acq .chain, .acq .cmpOwned, .clk .base, .twn .request, .twn .held, .saf .pending, .saf .coverSeen, .saf .removed,
    .saf .tieFailed, .fio .di, .fio .force, .sup .sensorAt]
  | .stageLimitExit .. => [.safe, .stg .st]
  | .chargeTimeout => [.log, .obj .NVS_LOG_DROPPED, .mod .stopPending]
  | .stopTimeout => [.log, .obj .NVS_LOG_DROPPED, .mod .lockoutPending]
  | .pierDispatch .. => touchesObjects ++ touchesWaitingWrite ++ touchesLogicFence ++ touchesRun ++ [.commitWrites, .isl .held,
    .shr .line, .shr .far, .shr .syncFrom, .shr .syncTimeout, .shr .dwell, .shr .lostLogged, .shr .rampFrom, .shr .rampTime,
    .shr .rampLast, .shr .anchor, .frt .peak, .frt .coastFrom, .frt .lowest, .frt .notified, .frt .pllF, .frt .pllPhase, .frt .pllAt,
    .frt .dev, .frt .vdc, .srv .chip, .srv .prevIL, .srv .prevVc, .srv .prevIo, .srv .prevU, .srv .prevVdc, .srv .record,
    .pie .overrunRun, .pie .postRun, .pie .out, .pie .ran, .pie .envLogged, .acq .adc, .gal .missing]
  | .xvRampEnd .. => [.obj .GFL_STATUS, .pie .rv, .pie .xv, .pie .xvn]
  | .gflParamHoldClear .. => touchesRequest ++ [.commitWrites, .heldWrites, .log, .obj .GFL_CONFIG, .obj .GFL_STATUS,
    .obj .NVS_LOG_DROPPED, .obj .PIE_CONFIG, .obj .PIE_STATUS]
  | .anchorInstant .. => [.log, .obj .NVS_LOG_DROPPED, .obj .SHR_STATUS, .shr .winBad, .shr .suspended, .shr .anchor]
  | .claimSlotReached .. => touchesRun ++ [.shr .claim, .shr .closeAt, .shr .closeTimeout, .shr .tieAt, .shr .closedDead, .shr .pull,
    .shr .syncFrom, .shr .syncTimeout, .shr .okSince, .shr .dwell, .shr .deadSince, .shr .lostLogged, .shr .rampFrom, .shr .rampTime,
    .shr .rampLast, .shr .ramping]
  | .claimHoldoffExpiry .. => touchesRun ++ [.shr .claim, .shr .closeAt, .shr .closeTimeout, .shr .tieAt, .shr .closedDead, .shr .pull,
    .shr .syncFrom, .shr .syncTimeout, .shr .okSince, .shr .dwell, .shr .deadSince, .shr .lostLogged, .shr .rampFrom, .shr .rampTime,
    .shr .rampLast, .shr .ramping]
  | .contactorCloseTimeout .. => touchesSafe
  | .rampTimeout .. => touchesSafe
  | .syncDwellExpiry .. => touchesContactor ++ [.obj .SAF_SOC_OPERATIONS, .obj .SHR_STATUS, .shr .claim, .shr .closeAt,
    .shr .closeTimeout, .shr .tieAt, .shr .closedDead, .shr .lostLogged]
  | .syncTimeout .. => touchesSafe
  | .syncLineDeadTimeout .. => touchesActivities ++ touchesContactor ++ touchesOutput ++ [.safe, .obj .GAL_DEPTH, .obj .GAL_STATUS,
    .obj .GAL_WIRE_RATE, .obj .PIE_STATUS, .stg .st, .stg .toArmed, .stg .toOff, .stg .sinceEntry, .stg .pulsesEnd, .pie .law, .pie .out,
    .edg .sets]
  | .joinGlideEnd .. => [.shr .glideW, .shr .glideV, .pie .law]
  | .tieClose .. => touchesRequest ++ touchesContactor ++ [.obj .SAF_SOC_OPERATIONS, .obj .SHR_STATUS, .shr .tieAt, .shr .pull,
    .shr .syncFrom, .shr .okSince, .shr .dwell, .shr .lostLogged, .shr .winBad, .shr .suspended]
  | .tieOpen .. => touchesRequest ++ [.obj .FIO_CD_STATUS, .obj .SAF_SOC_STATUS, .obj .SAF_STATUS, .obj .SHR_STATUS, .shr .tieAt,
    .shr .pull, .shr .okSince, .saf .soc, .fio .drv]
  | .rideEndTimeout .. => [.log, .obj .FRT_STATUS, .obj .NVS_LOG_DROPPED, .frt .clearAt, .frt .clearBefore, .frt .budget, .frt .budgetAt,
    .frt .budgetUsed, .frt .decay]
  | .faultBudgetExhausted .. => touchesSafe ++ [.obj .FRT_LAST_RIDE, .mod .stopPending, .frt .budget, .frt .budgetAt, .frt .budgetUsed]
  | .inputLossDc .. => touchesOutput ++ [.tx, .log, .obj .FRT_COAST_COUNT, .obj .FRT_STATUS, .obj .NVS_LOG_DROPPED, .frt .lost,
    .frt .lostAt, .frt .confirmed, .frt .blocked, .frt .ramp, .frt .notified, .frt .hold, .frt .holdExpired, .frt .crossings, .edg .sets]
  | .inputLossAc .. => touchesOutput ++ [.tx, .log, .obj .FRT_COAST_COUNT, .obj .FRT_STATUS, .obj .NVS_LOG_DROPPED, .frt .lost,
    .frt .lostAt, .frt .confirmed, .frt .blocked, .frt .ramp, .frt .notified, .frt .hold, .frt .holdExpired, .frt .crossings, .edg .sets]
  | .inputReturnConfirm .. => [.log, .obj .FRT_LAST_GAP, .obj .FRT_STATUS, .obj .NVS_LOG_DROPPED, .frt .lost, .frt .confirmed]
  | .inputRampComplete .. => [.tx, .log, .obj .FRT_STATUS, .obj .NVS_LOG_DROPPED, .frt .coasting, .frt .lowSince, .frt .shed,
    .frt .release, .frt .powerRef, .frt .ramp, .frt .notified, .frt .speedDue]
  | .coastReleaseEnd .. => [.obj .FRT_DELTA_P_COAST, .frt .release, .frt .powerLimit, .pie .law]
  | .coastLinkLowTimeout .. => [.log, .obj .NVS_LOG_DROPPED, .mod .stopPending]
  | .coastMaxTimeout .. => [.log, .obj .NVS_LOG_DROPPED, .mod .stopPending]
  | .inputPllHoldExpiry .. => [.log, .obj .NVS_LOG_DROPPED, .frt .holdExpired]
  | .inputZeroCrossing .. => [.log, .obj .FRT_IN_PLL_F, .obj .FRT_LAST_JUMP, .obj .FRT_STATUS, .obj .NVS_LOG_DROPPED, .frt .pllF,
    .frt .pllPhase, .frt .pllAt, .frt .hold, .frt .holdExpired, .frt .crossings]
  | .surveyRoundStart .. => [.obj .SRV_STATUS, .srv .active, .srv .startedAt, .srv .chip, .srv .cfg, .srv .record]
  | .surveyRoundComplete .. => [.tx, .free, .log, .obj .NVS_LOG_DROPPED, .obj .SRV_COHERENCE, .obj .SRV_DFN_AD, .obj .SRV_DKC_AD,
    .obj .SRV_DR_AD, .obj .SRV_DX_AD, .obj .SRV_F_PEAK, .obj .SRV_F_UPPER, .obj .SRV_N_EST, .obj .SRV_N_PARALLEL, .obj .SRV_ROUND_COUNT,
    .obj .SRV_STATUS, .obj .SRV_Z1_R, .obj .SRV_Z1_X, .obj .SRV_ZETA_PEAK, .obj .SRV_ZETA_SWING, .obj .SRV_Z_ANGLE, .obj .SRV_Z_MAG,
    .srv .active, .srv .dRad, .srv .dXad, .srv .dKc, .srv .dFn, .srv .glideR, .srv .glideX, .srv .undo, .srv .holdVi, .srv .holdNotch,
    .srv .holdKc, .srv .zetaPk, .srv .zetaA, .srv .record]
  | .adaptOffsetRampEnd .. => [.srv .glideR, .srv .glideX]
  | .canaryAct .. => [.log, .obj .NVS_LOG_DROPPED, .obj .SRV_STATUS, .srv .acted, .srv .due, .srv .actedAt]
  | .pierCommit .. => touchesLogicFence ++ touchesLaw ++ [.obj .PIE_ECC_CORRECTED, .obj .PIE_LAST_COMMIT, .obj .PIE_MAX_CRIT,
    .obj .PIE_OFFPLAN_COUNT, .obj .PIE_OVERRUN_COUNT, .obj .PIE_OVERRUN_RUN, .obj .SHR_ANCHOR_COUNT, .obj .TWN_MISMATCHES,
    .shr .rampLast, .shr .winSum, .shr .winCount, .shr .anchor, .frt .confirmed, .frt .blocked, .frt .ramp, .srv .due, .pie .blocks,
    .pie .tally, .pie .overrunRun, .pie .sent, .pie .out, .pie .fClamp, .pie .eClamp, .pie .negClamp, .pie .nClamp, .pie .restClamp,
    .acq .adc, .gal .missing, .twn .digests, .twn .diffs, .twn .holdoff]
  | .commandSetArrival .. => touchesSafe ++ [.obj .ACQ_START_OVERLAP, .obj .EDG_CH_LATE, .obj .MOD_STATUS, .obj .PIE_OFFPLAN_COUNT,
    .obj .PIE_OVERRUN_COUNT, .obj .PIE_OVERRUN_RUN, .obj .SHR_ANCHOR_COUNT, .obj .TWN_STATUS, .isl .implausible, .shr .rampLast,
    .shr .winSum, .shr .winCount, .shr .anchor, .pie .blocks, .pie .tally, .pie .overrunRun, .pie .out, .pie .selftest,
    .pie .selftestDue, .pie .fClamp, .pie .eClamp, .pie .negClamp, .pie .nClamp, .pie .restClamp, .acq .adc, .gal .missing, .gal .seen,
    .twn .arb]
  | .provisionalSetArrival .. => [.edg .ch]
  | .postCommit .. => touchesGallery ++ [.free, .obj .PIE_LOAD, .obj .PIE_MAX_TOTAL, .obj .PIE_STATUS, .obj .SRV_CAN_RES,
    .obj .SRV_CAN_SCORE, .obj .SRV_STATUS, .srv .above, .srv .warned, .srv .acted, .srv .scores, .srv .worst, .pie .blocks, .pie .post,
    .pie .postDone, .pie .provisional, .gal .ring, .gal .missing, .gal .cond, .gal .prevAt, .gal .seen, .gal .armed, .gal .ready,
    .gal .holdoff, .gal .openedAt]
  | .pierOverrun .. => touchesSafe ++ [.obj .MOD_STATUS, .obj .PIE_OFFPLAN_COUNT, .obj .PIE_OVERRUN_COUNT, .obj .PIE_OVERRUN_RUN,
    .obj .SHR_ANCHOR_COUNT, .obj .TWN_STATUS, .shr .rampLast, .shr .winSum, .shr .winCount, .shr .anchor, .pie .overrunRun,
    .pie .selftest, .pie .selftestDue, .pie .fClamp, .pie .eClamp, .pie .negClamp, .pie .nClamp, .pie .restClamp, .acq .adc,
    .gal .missing, .gal .seen, .twn .arb]
  | .bistRoundComplete .. => touchesLogicFence ++ [.pie .bistAt]
  | .bistLate .. => [.log, .obj .NVS_LOG_DROPPED, .obj .PIE_STATUS]
  | .pieSelftest .. => touchesRequest ++ [.obj .PIE_STATUS, .pie .selftest, .pie .selftestDue]
  | .selftestComplete .. => touchesSafe ++ touchesPair ++ touchesPermissions ++ [.free, .mod .lockoutPending, .mod .stopPending,
    .pie .selftest, .twn .auto, .twn .selfFenced, .twn .arb, .twn .diffs]
  | .pieParamHoldClear .. => touchesRequest ++ [.commitWrites, .heldWrites, .log, .obj .GFL_CONFIG, .obj .GFL_STATUS,
    .obj .NVS_LOG_DROPPED, .obj .PIE_CONFIG, .obj .PIE_STATUS]
  | .blockStateReset .. => touchesRequest ++ [.pie .blocks]
  | .timebaseStart .. => [.obj .EDG_TB_NEXT_ZERO, .edg .tb, .edg .grp]
  | .sampleTrigger .. => [.log, .obj .NVS_LOG_DROPPED, .pie .k, .pie .t0, .edg .tb, .acq .adc]
  | .reloadPoint .. => touchesSafe ++ touchesTrip ++ [.commitWrites, .obj .edg, .obj .gdv, .obj .EDG_CH_CLIPPED,
    .obj .EDG_CH_GUARD_COUNT, .obj .EDG_CH_LATE, .obj .EDG_CH_REMOVED, .obj .EDG_CH_STATIC_CTRL, .obj .EDG_TB_NEXT_ZERO,
    .obj .EDG_TB_PERIOD, .obj .EDG_TRG_CFG, .obj .EDG_TRG_LATCH_SRC, .obj .EDG_TRG_LATCH_TIME, .obj .GDV_BS_FORECAST,
    .obj .GDV_BS_REFRESHES, .obj .GDV_DESAT_COUNT, .pie .duties, .edg .tb]
  | .tbPeriodChange .. => touchesRequest ++ [.log, .obj .EDG_TB_LATE, .obj .NVS_LOG_DROPPED, .isl .implausible, .isl .refused, .edg .tb]
  | .tbPhaseShift .. => touchesRequest ++ [.log, .obj .EDG_TB_LATE, .obj .NVS_LOG_DROPPED, .isl .implausible, .isl .refused, .edg .tb]
  | .staticCtrlWrite .. => touchesRequest ++ [.obj .EDG_CH_STATIC_CTRL, .edg .ch]
  | .delayLineRecal .. => [.log, .obj .EDG_CH_STATUS, .obj .EDG_STATUS, .obj .NVS_LOG_DROPPED, .edg .calFault, .edg .recalAt]
  | .edgeHeartbeat => [.edg .heartbeats, .edg .beatAt, .gdv .heartbeat]
  | .triggerFire .. => [.log, .obj .ACQ_START_OVERLAP, .obj .NVS_LOG_DROPPED, .obj .PIE_OFFPLAN_COUNT, .edg .ch, .acq .adc]
  | .rawOverrideEnable .. => touchesRequest ++ touchesOutput ++ [.log, .obj .EDG_CH_GUARD_COUNT, .obj .EDG_CH_STATUS,
    .obj .EDG_RAW_ENABLE, .obj .EDG_STATUS, .obj .NVS_LOG_DROPPED, .edg .raw, .edg .rawHigh, .edg .rawLow]
  | .rawOutputWrite .. => touchesRequest ++ touchesOutput ++ [.log, .obj .EDG_CH_GUARD_COUNT, .obj .EDG_CH_STATUS, .obj .EDG_RAW_HIGH,
    .obj .EDG_RAW_LOW, .obj .NVS_LOG_DROPPED, .edg .rawHigh, .edg .rawLow]
  | .tripSourceActive .. => touchesTrip ++ [.obj .EDG_SRC_ACTIVE, .edg .active, .edg .pinKnown]
  | .tripSourceInactive .. => [.obj .EDG_SRC_ACTIVE, .obj .EDG_STATUS, .obj .EDG_TRG_STATUS, .edg .active, .edg .pinKnown]
  | .tripPeriodEnd .. => touchesTrip
  | .tripFreeRunDecrement .. => [.obj .EDG_STATUS, .obj .EDG_TRG_STATUS, .edg .grp]
  | .tripGroupLatch .. => touchesSafe ++ [.obj .EDG_STATUS, .obj .EDG_TRG_LATCH_SRC, .obj .EDG_TRG_LATCH_TIME, .obj .EDG_TRG_STATUS,
    .edg .grp, .gal .seen]
  | .tripGroupClear .. => touchesRequest ++ [.log, .obj .EDG_STATUS, .obj .EDG_TRG_STATUS, .obj .NVS_LOG_DROPPED, .edg .grp]
  | .gdUvloEntry .. => touchesSafe ++ [.obj .GDV_RAIL_V, .obj .GDV_STATUS, .gdv .uvlo, .gdv .uvloAt]
  | .gdUvloExit .. => [.log, .obj .GDV_RAIL_V, .obj .GDV_STATUS, .obj .NVS_LOG_DROPPED, .gdv .uvlo]
  | .desatDetect .. => touchesSafe ++ touchesTrip ++ [.obj .EDG_SRC_ACTIVE, .obj .GDV_DESAT_COUNT, .edg .active, .gdv .drv]
  | .softTurnoffSecondLevel .. => [.obj .GDV_CH_STATUS, .gdv .drv]
  | .millerClampEngage .. => touchesOutput ++ [.gdv .drv]
  | .clearDesat .. => touchesRequest ++ [.log, .obj .EDG_SRC_ACTIVE, .obj .EDG_STATUS, .obj .EDG_TRG_STATUS, .obj .GDV_CH_STATUS,
    .obj .NVS_LOG_DROPPED, .edg .active, .gdv .drv]
  | .gdDiagCmd .. => touchesRequest ++ [.stg .diagSince]
  | .ackPulseReceived .. => touchesSafe ++ touchesTrip ++ [.obj .EDG_SRC_ACTIVE, .obj .GDV_PORT_ACK_MISSING, .edg .active]
  | .ackWindowExpiry .. => touchesSafe ++ touchesTrip ++ [.obj .EDG_SRC_ACTIVE, .obj .GDV_PORT_ACK_MISSING, .edg .active]
  | .headFaultDetect .. => touchesSafe ++ touchesTrip ++ [.obj .EDG_SRC_ACTIVE, .obj .GDV_PORT_FAULTS, .obj .GDV_PORT_LAST_CODE,
    .edg .active]
  | .headCodeReceived .. => [.log, .obj .GDV_PORT_LAST_CODE, .obj .NVS_LOG_DROPPED, .gdv .port]
  | .clearPort .. => touchesRequest ++ [.log, .obj .EDG_SRC_ACTIVE, .obj .EDG_STATUS, .obj .EDG_TRG_STATUS, .obj .GDV_PORT_STATUS,
    .obj .NVS_LOG_DROPPED, .edg .active, .gdv .port]
  | .acqTimerEvent .. => [.log, .obj .ACQ_START_OVERLAP, .obj .NVS_LOG_DROPPED, .acq .timer, .acq .adc]
  | .conversionComplete .. => [.commitWrites, .log, .obj .acq, .obj .ACQ_CAL_GAIN, .obj .ACQ_CAL_OFFSET, .obj .ACQ_CH_STATUS,
    .obj .ACQ_CH_VALUE, .obj .ACQ_DIAG_ERROR, .obj .ACQ_OVERRANGE_COUNT, .obj .ACQ_START_OVERLAP, .obj .ACQ_STATUS,
    .obj .ACQ_TRACK_DRIFT, .obj .NVS_LOG_DROPPED, .acq .adc, .acq .chain, .saf .ssd]
  | .acqSelfCal .. => touchesRequest ++ [.obj .ACQ_STATUS, .acq .selfCal]
  | .acqDiag .. => touchesRequest ++ [.obj .ACQ_STATUS, .acq .diag]
  | .acqDiagComplete .. => touchesRequest ++ [.log, .obj .ACQ_CH_STATUS, .obj .ACQ_DIAG_ERROR, .obj .ACQ_FC_STATUS, .obj .ACQ_STATUS,
    .obj .NVS_LOG_DROPPED, .obj .SRV_STATUS, .acq .adc, .acq .chain, .acq .diag]
  | .acqRestore .. => touchesRequest ++ [.obj .ACQ_STATUS, .acq .diag]
  | .trackingSample .. => [.log, .obj .ACQ_CH_STATUS, .obj .ACQ_TRACK_DRIFT, .obj .NVS_LOG_DROPPED, .acq .adc]
  | .substitutionApply .. => [.log, .obj .ACQ_CH_STATUS, .obj .ACQ_FC_STATUS, .obj .ACQ_STATUS, .obj .EDG_SRC_ACTIVE, .obj .EDG_STATUS,
    .obj .EDG_TRG_STATUS, .obj .NVS_LOG_DROPPED, .edg .active, .acq .adc, .acq .chain]
  | .sdFault .. => [.log, .obj .ACQ_SD_STATUS, .obj .ACQ_STATUS, .obj .NVS_LOG_DROPPED, .acq .sdFault]
  | .sdFaultEnd .. => [.obj .ACQ_FC_STATUS, .obj .ACQ_SD_STATUS, .obj .ACQ_STATUS, .acq .chain, .acq .sdFault]
  | .chainOutput .. => [.commitWrites, .log, .obj .acq, .obj .ACQ_FC_DELAY, .obj .ACQ_FC_LATENCY, .obj .ACQ_FC_RATE, .obj .ACQ_FC_STATUS,
    .obj .ACQ_FC_UNSETTLED, .obj .ACQ_FC_VALUE, .obj .ACQ_STATUS, .obj .NVS_LOG_DROPPED, .acq .chain]
  | .bankSwitch .. => touchesRequest ++ [.log, .obj .NVS_LOG_DROPPED, .isl .implausible, .acq .chain]
  | .bankFadeEnd .. => [.obj .ACQ_FC_STATUS, .acq .chain]
  | .triggerHoldoffEnd .. => [.obj .GAL_DEPTH, .obj .GAL_STATUS, .obj .GAL_WIRE_RATE, .gal .armed, .gal .ready, .gal .holdoff]
  | .triggerArm .. => touchesRequest ++ [.obj .GAL_CONFIG, .obj .GAL_DEPTH, .obj .GAL_STATUS, .obj .GAL_WIRE_RATE, .gal .armed,
    .gal .ready, .gal .holdoff]
  | .streamEnable .. => touchesRequest ++ [.log, .obj .GAL_CONFIG, .obj .GAL_DEPTH, .obj .GAL_STATUS, .obj .GAL_WIRE_RATE,
    .obj .NVS_LOG_DROPPED, .gal .datagram, .gal .seq, .gal .dropped]
  | .datagramAgeTimeout .. => [.tx, .obj .GAL_DATAGRAMS, .obj .GAL_STATUS, .gal .datagram, .gal .seq, .gal .dropped, .gal .busyTo]
  | .galleryRead .. => touchesRequest ++ [.gal .readK]
  | .referenceLost .. => touchesSafe ++ touchesBase ++ [.obj .MOD_STATUS, .obj .TWN_STATUS, .mod .stopPending, .clk .refOk, .clk .badAt,
    .clk .switchedAt, .clk .active, .twn .lock, .twn .lockFrom]
  | .refHoldoverEnd .. => touchesSafe ++ [.obj .MOD_STATUS, .obj .TIM_STATUS, .obj .TWN_STATUS, .mod .stopPending, .clk .refOk,
    .clk .active, .twn .lock, .twn .lockFrom]
  | .referenceFreqCheck .. => touchesSafe ++ touchesBase ++ [.obj .MOD_STATUS, .obj .TIM_REF_DEV, .obj .TWN_STATUS, .mod .stopPending,
    .clk .refOk, .clk .badAt, .clk .switchedAt, .clk .countedAt, .clk .active, .twn .lock, .twn .lockFrom]
  | .referenceHealthy .. => touchesSafe ++ [.obj .MOD_STATUS, .obj .TIM_STATUS, .obj .TWN_STATUS, .mod .stopPending, .clk .refOk,
    .clk .switchedAt, .clk .active, .twn .lock, .twn .lockFrom]
  | .revertRef .. => touchesSafe ++ touchesRequest ++ [.obj .MOD_STATUS, .obj .TIM_STATUS, .obj .TWN_STATUS, .mod .stopPending,
    .clk .switchedAt, .clk .active, .twn .lock, .twn .lockFrom]
  | .pllLock .. => [.log, .obj .EDG_STATUS, .obj .NVS_LOG_DROPPED, .obj .TIM_BOOT_COUNT, .obj .TIM_STATUS, .isl .mt, .isl .started,
    .clk .pll, .clk .onB, .clk .netLocked]
  | .pllLossOfLock .. => touchesLogicFence ++ [.obj .TIM_PLL_LOSSES, .clk .pll, .clk .onB]
  | .pllRelockAttempt .. => [.clk .pll]
  | .pllRelockTimeout .. => [.clk .pll]
  | .netPllLoss => touchesBase ++ touchesSessions ++ [.clk .netLocked, .clk .netLostAt, .net .link]
  | .netPllRelockAttempt .. => [.log, .obj .NVS_LOG_DROPPED, .obj .TIM_STATUS, .clk .netLocked, .clk .netLostAt]
  | .clockMonitorCheck .. => touchesLogicFence ++ [.clk .refOk, .clk .badAt, .clk .switchedAt, .clk .monitoredAt, .clk .active]
  | .segmentUpdate .. => [.obj .TIM_STATUS, .obj .BASE_STATUS, .obj .BASE_OFFSET, .obj .BASE_RATE, .obj .BASE_HOLDOVER, .clk .base]
  | .ptpSyncReceived .. => touchesBase ++ [.obj .TIM_NTA_DISCARDED, .obj .TIM_NTA_GM_ID]
  | .syncLossTimeout .. => touchesBase
  | .ptpAnnounceReceived .. => [.log, .obj .NVS_LOG_DROPPED, .obj .TIM_NTA_DISCARDED, .obj .TIM_NTA_GM_ID, .obj .TIM_NTA_STEPS_REMOVED,
    .obj .TIM_STATUS, .obj .BASE_STATUS, .obj .BASE_OFFSET, .obj .BASE_RATE, .obj .BASE_HOLDOVER, .clk .base]
  | .announceReceiptTimeout .. => touchesBase ++ [.obj .TIM_NTA_GM_ID, .obj .TIM_NTA_STEPS_REMOVED]
  | .ptpDelayMessageReceived .. => [.tx, .obj .TIM_NTA_DISCARDED, .obj .TIM_NTA_PATH_DELAY, .clk .base]
  | .ptpSyncTransmit .. => [.tx, .clk .base]
  | .stepNta .. => touchesBase ++ touchesRequest
  | .stepNtb .. => touchesBase ++ touchesRequest
  | .tcFrameForward .. => [.tx, .obj .TIM_TC_CORRECTED]
  | .ttExchange .. => touchesSafe ++ touchesBase ++ [.obj .MOD_STATUS, .obj .TWN_STATUS, .mod .stopPending, .twn .lock, .twn .lockFrom]
  | .logicCycleBoundary .. => touchesObjects ++ touchesWrite ++ touchesLogicFence ++ [.lgc .verified, .lgc .program, .lgc .bank,
    .lgc .busy, .lgc .stretch, .lgc .loads]
  | .logicHangTimeout => touchesLogicFence
  | .hostTagWrite .. => touchesRequest ++ touchesRefusal ++ [.lgc .host]
  | .tagPeek .. => touchesRequest ++ touchesRefusal ++ [.lgc .peek]
  | .cyclePeriodWrite .. => touchesObjects ++ touchesWaitingWrite ++ touchesGallery ++ touchesTrip ++ touchesPermissions ++
    touchesRequest ++ [.heldWrites, .modeWrites, .resetWrites, .free, .pie .envLogged, .acq .chain, .gal .armed, .gal .ready,
    .gal .holdoff, .clk .base, .sup .sensorAt]
  | .stationTelegramReceived .. => [.log, .obj .LGC_STN_LAST_RX, .obj .LGC_STN_STATE, .obj .NET_DUP_DISCARDED, .obj .NVS_LOG_DROPPED,
    .lgc .station]
  | .stationDrop .. => [.log, .obj .LGC_STN_DROPS, .obj .LGC_STN_STATE, .obj .NVS_LOG_DROPPED, .lgc .station]
  | .programStageBlock .. => touchesRequest ++ touchesLogicStatus ++ [.log, .obj .NVS_LOG_DROPPED, .lgc .staged, .lgc .staging,
    .lgc .host]
  | .programExchange .. => touchesRequest ++ touchesLogicStatus ++ touchesRefusal ++ [.isl .implausible, .lgc .exchange]
  | .discardStaged .. => touchesRequest ++ touchesLogicStatus ++ touchesRefusal ++ [.lgc .staged]
  | .resetRetain .. => touchesRequest ++ touchesRefusal ++ [.lgc .resetRetain]
  | .snapshotReceived .. => touchesLogicStatus ++ [.log, .obj .LGC_CYCLE_COUNT, .obj .LGC_LT, .obj .LGC_RETAIN_LAG, .obj .NVS_DEFERRED,
    .obj .NVS_HOLD_V, .obj .NVS_LOG_DROPPED, .obj .NVS_STATUS, .lgc .image, .lgc .bank, .lgc .lastBank, .lgc .marked, .lgc .kept,
    .lgc .lag, .lgc .level, .nvs .deferred]
  | .dictionaryWrite .. => touchesObjects ++ touchesWrite
  | .ownershipClaim .. => touchesRequest ++ touchesRefusal ++ [.obj .NET_OWNER, .obj .NET_STATUS]
  | .ownershipForce .. => touchesRequest ++ touchesRefusal ++ [.obj .NET_OWNER, .obj .NET_STATUS]
  | .ownershipRelease .. => touchesRequest ++ touchesRefusal ++ [.obj .NET_OWNER, .obj .NET_STATUS]
  | .ownershipTimeout => [.log, .obj .NET_OWNER, .obj .NET_STATUS, .obj .NVS_LOG_DROPPED]
  | .serviceChallengeRead .. => touchesRequest ++ touchesOutput ++ [.free, .net .challenges]
  | .serviceResponse .. => touchesRequest ++ touchesRefusal ++ [.obj .NET_STATUS, .net .challenges, .net .invalid, .net .blocked]
  | .serviceAccessTimeout .. => [.obj .NET_STATUS, .net .rights]
  | .challengeBlockEnd .. => [.net .blocked]
  | .nmtStart .. => [.obj .NET_STATUS, .net .can]
  | .nmtStop .. => [.obj .NET_STATUS, .net .can]
  | .nmtEnterPreop .. => [.obj .NET_STATUS, .net .can]
  | .nmtResetNode .. => touchesObjects ++ touchesResetComm
  | .nmtResetComm .. => touchesObjects ++ touchesResetComm
  | .sdoRequest .. => touchesObjects ++ touchesWrite
  | .sdoTimeout .. => touchesRequest ++ [.net .can]
  | .rpdoReceived .. => touchesObjects ++ touchesWrite ++ [.net .rpdoWait]
  | .tpdoTransmit .. => touchesOutput ++ [.tx, .net .syncs, .net .tpdoAt, .net .tpdoLast]
  | .canSyncReceived .. => touchesObjects ++ touchesWrite ++ [.net .syncs, .net .tpdoAt, .net .tpdoLast, .net .rpdoWait]
  | .heartbeatProduce .. => [.tx, .net .can]
  | .heartbeatConsumerTimeout .. => [.log, .obj .CIA_ERROR_REGISTER, .obj .NVS_LOG_DROPPED, .net .heard]
  | .canBusOff .. => [.log, .obj .NET_CAN_STATE, .obj .NET_OWNER, .obj .NET_STATUS, .obj .NVS_LOG_DROPPED, .net .can]
  | .canBusOffRecovery .. => [.tx, .log, .obj .NET_CAN_STATE, .obj .NET_STATUS, .obj .NVS_LOG_DROPPED, .net .can]
  | .svcOpen .. => [.tx, .log, .obj .NET_ABORTS, .obj .NET_LAST_ABORT, .obj .NET_SESSIONS, .obj .NVS_LOG_DROPPED, .net .sessions,
    .net .spiReply, .net .spiLast]
  | .svcClose .. => touchesRequest ++ touchesSessions
  | .svcKeepalive .. => touchesRequest
  | .svcRead .. => touchesRequest ++ touchesOutput ++ [.free, .net .challenges]
  | .svcWrite .. => touchesObjects ++ touchesWrite
  | .svcReadSeg .. => touchesRequest ++ touchesOutput ++ [.free, .net .challenges]
  | .svcWriteSeg .. => touchesObjects ++ touchesWrite
  | .svcSubscribe .. => touchesRequest ++ touchesOutput
  | .sessionTimeout .. => touchesSessions
  | .processSetSend .. => touchesOutput ++ [.tx, .log, .obj .NET_LATE_TX, .obj .NVS_LOG_DROPPED, .net .sessions]
  | .spiFrameReceived .. => touchesObjects ++ touchesWrite ++ [.net .spiSeq, .net .spiPartial]
  | .bypassOpen => touchesSessions ++ [.net .link, .net .bypass]
  | .ethLinkChange .. => touchesSessions ++ [.net .link]
  | .arpRequest .. => [.tx]
  | .icmpEchoRequest .. => [.tx]
  | .storeParameters .. => touchesStore ++ touchesRequest ++ [.lgc .host]
  | .restoreDefaults .. => touchesRequest ++ touchesRefusal ++ [.net .restore]
  | .errorHistoryClear .. => touchesRequest ++ touchesRefusal ++ [.obj .CIA_ERROR_COUNT, .obj .CIA_ERROR_FIELD]
  | .lockstepMismatch => touchesPermissions ++ [.log, .obj .NVS_LOG_DROPPED, .mod .lockoutPending, .saf .latched, .saf .halted]
  | .memoryMarchTest .. => [.log, .obj .NVS_LOG_DROPPED, .obj .SAF_STATUS, .mod .lockoutPending, .saf .latched, .saf .marchAt]
  | .supplyWindowFault .. => [.log, .obj .NVS_LOG_DROPPED, .obj .SAF_STATUS, .mod .lockoutPending, .saf .latched]
  | .permissionEchoFault .. => [.log, .obj .NVS_LOG_DROPPED, .obj .SAF_STATUS, .mod .lockoutPending, .saf .latched]
  | .resetDue => [.log, .obj .NVS_LOG_DROPPED, .obj .SAF_STATUS]
  | .socCloseRequest .. => touchesContactor ++ [.obj .SAF_SOC_OPERATIONS]
  | .socOpenRequest .. => [.obj .FIO_CD_STATUS, .obj .SAF_SOC_STATUS, .obj .SAF_STATUS, .saf .soc, .fio .drv]
  | .socSwitchTest .. => [.obj .FIO_CD_STATUS, .obj .SAF_SOC_STATUS, .obj .SAF_STATUS, .saf .soc, .fio .drv]
  | .socTestPulseEnd .. => touchesContactor ++ [.obj .SAF_SOC_OPERATIONS, .mod .lockoutPending, .saf .latched]
  | .socCloseDiscrepancy .. => touchesContactor
  | .socOpenDiscrepancy .. => touchesContactor ++ [.mod .lockoutPending, .saf .latched]
  | .clearSoc .. => touchesRequest ++ touchesContactor ++ [.saf .latched]
  | .socProofDue .. => [.log, .obj .NVS_LOG_DROPPED, .obj .SAF_SOC_SINCE_PROOF, .obj .SAF_SOC_STATUS, .obj .SAF_STATUS]
  | .ssdRampIncomplete .. => touchesSafe ++ touchesPermissions ++ [.safe, .pie .out, .saf .removed]
  | .ssdPlausibilityFail .. => touchesSafe ++ touchesPermissions ++ [.saf .removed]
  | .safetyUnitSend .. => [.tx, .saf .conn]
  | .safetyUnitReceived .. => touchesSafe ++ touchesPermissions ++ [.safe, .obj .SAF_CONN_LAST_AGE, .obj .SAF_CONN_REJECTED,
    .obj .SAF_CONN_STATUS, .obj .SAF_UNKNOWN_ID, .pie .out, .saf .conn, .saf .demanded, .saf .removed]
  | .connectionTimeout .. => touchesSafe ++ touchesPermissions ++ [.safe, .obj .SAF_CONN_STATUS, .pie .out, .saf .conn, .saf .demanded,
    .saf .removed]
  | .pathTimeout .. => [.log, .obj .NVS_LOG_DROPPED, .obj .SAF_CONN_STATUS, .obj .SAF_STATUS, .saf .conn]
  | .restartConn .. => touchesSafe ++ touchesPermissions ++ touchesRequest ++ [.safe, .obj .SAF_CONN_STATUS, .pie .out, .saf .conn,
    .saf .demanded, .saf .removed]
  | .cvuStart .. => touchesRequest ++ [.obj .CVU_STATUS, .nvs .cvu]
  | .cvuFeed .. => touchesRequest ++ [.nvs .cvu]
  | .cvuFinish .. => touchesRequest ++ [.log, .obj .CVU_DROPPED, .obj .CVU_RESULT, .obj .CVU_STATUS, .obj .NVS_LOG_DROPPED, .nvs .cvu]
  | .scrubStep .. => touchesObjects ++ [.saved, .log, .mod .lockoutPending, .mod .cfgValid, .nvs .gen, .nvs .lost]
  | .scrubRoundLate .. => [.log, .obj .NVS_LOG_DROPPED, .obj .NVS_STATUS]
  | .storeRequest .. => touchesStore
  | .storeRetry .. => touchesStore ++ touchesRequest ++ [.nvs .retryAt]
  | .storeComplete .. => touchesObjects ++ touchesRestart ++ [.tx, .buffer, .mod .powered, .mod .thermalLatch, .sup .intAt, .sup .bridge,
    .nvs .gen, .nvs .lost, .nvs .retired, .nvs .sector, .nvs .page]
  | .logPageWrite .. => touchesStore
  | .eventLogRead .. => touchesRequest ++ [.nvs .readSeq]
  | .commitVersion .. => touchesRequest ++ [.nvs .version]
  | .imageWriteBlock .. => touchesStore ++ touchesRequest ++ [.nvs .writing]
  | .clauzLinkUp .. => touchesSafe ++ touchesLogicStatus ++ [.free, .obj .MOD_STATUS, .obj .TWN_LINK_LATENCY, .obj .TWN_PARTNER_FW,
    .obj .TWN_PARTNER_SERIAL, .obj .TWN_STATUS, .mod .stopPending, .twn .link, .twn .lanes, .twn .partner, .twn .formed, .twn .lock,
    .twn .lockFrom, .twn .conflict, .twn .mismatch, .twn .active, .twn .request, .twn .auto, .lgc .running, .lgc .level]
  | .clauzLinkDown .. => touchesSafe ++ touchesBase ++ [.obj .MOD_STATUS, .obj .TWN_LINK_ERRORS, .obj .TWN_STATUS, .mod .stopPending,
    .twn .link, .twn .lanes, .twn .lock, .twn .lockFrom]
  | .clauzLaneLost .. => [.log, .obj .MOD_STATUS, .obj .NVS_LOG_DROPPED, .obj .TWN_STATUS, .twn .link, .twn .lanes]
  | .pairLockRegained .. => [.log, .obj .MOD_STATUS, .obj .NVS_LOG_DROPPED, .obj .TWN_GRID_PHASE, .obj .TWN_STATUS, .edg .loadedAt,
    .edg .tb, .acq .timer, .twn .lock, .twn .phase, .twn .lockFrom]
  | .partnerWindowAccess .. => touchesRequest
  | .forwardedWrite .. => touchesObjects ++ touchesWrite ++ [.isl .held, .isl .lately, .shr .anchor, .frt .notified, .acq .adc]
  | .xcheckFail .. => [.log, .obj .MOD_STATUS, .obj .NVS_LOG_DROPPED, .obj .TWN_STATUS, .twn .armed, .twn .xfail, .twn .xfailAt]
  | .xcheckClear => [.obj .MOD_STATUS, .obj .TWN_STATUS, .twn .armed, .twn .xfail]
  | .digestReceived .. => [.tx, .log, .obj .MOD_STATUS, .obj .NVS_LOG_DROPPED, .obj .PIE_STATUS, .obj .TWN_MISMATCHES, .obj .TWN_STATUS,
    .pie .selftest, .pie .selftestDue, .twn .arb, .twn .digests, .twn .diffs, .twn .holdoff]
  | .arbitrationVerdictReceived .. => touchesSafe ++ touchesPair ++ touchesPermissions ++ [.free, .mod .lockoutPending,
    .mod .stopPending, .twn .auto, .twn .selfFenced, .twn .arb, .twn .diffs]
  | .arbitrationTimeout => touchesSafe ++ touchesPair ++ touchesPermissions ++ [.free, .mod .lockoutPending, .mod .stopPending,
    .twn .auto, .twn .selfFenced, .twn .arb, .twn .diffs]
  | .claimInChange .. => touchesPair ++ touchesEngine ++ [.tx, .obj .NET_OWNER, .obj .NET_STATUS, .acq .adc, .twn .active, .twn .auto,
    .twn .held, .twn .claimIn, .twn .claimSince, .twn .view, .lgc .level]
  | .autoClaim => touchesPair ++ touchesEngine ++ [.tx, .obj .NET_OWNER, .obj .NET_STATUS, .obj .TWN_LAST_INTERRUPTION,
    .obj .TWN_TAKEOVERS, .acq .adc, .twn .active, .twn .auto, .twn .held, .twn .view, .lgc .level]
  | .noHolderTimeout .. => touchesOutput ++ [.log, .obj .GDV_STATUS, .obj .NVS_LOG_DROPPED, .gdv .pattern, .gdv .noHolder, .gdv .drv]
  | .returnHoldoffEnd => [.tx, .obj .MOD_STATUS, .obj .TWN_STATUS, .twn .holdoff, .twn .handover]
  | .handoverCmd .. => touchesRequest ++ touchesRefusal ++ [.obj .TWN_STATUS, .twn .handover]
  | .handoverPass => touchesPair ++ touchesEngine ++ [.tx, .obj .NET_OWNER, .obj .NET_STATUS, .acq .adc, .twn .active, .twn .auto,
    .twn .held, .twn .view, .lgc .level]
  | .diStateChange .. => touchesSafe ++ touchesRun ++ touchesPermissions ++ [.obj .FIO_DI_CURRENT, .obj .FIO_DI_STATUS, .obj .MOD_STATUS,
    .obj .SAF_SOC_SINCE_PROOF, .mod .stopPending, .shr .closed, .shr .rampFrom, .shr .rampTime, .shr .rampLast, .saf .pending,
    .saf .coverSeen, .saf .coverDemand, .saf .removed, .fio .di]
  | .diLineFault .. => touchesSafe ++ touchesRun ++ touchesPermissions ++ [.obj .FIO_DI_CURRENT, .obj .FIO_DI_STATUS, .obj .MOD_STATUS,
    .obj .SAF_SOC_SINCE_PROOF, .mod .stopPending, .shr .closed, .shr .rampFrom, .shr .rampTime, .shr .rampLast, .saf .pending,
    .saf .coverSeen, .saf .coverDemand, .saf .removed, .fio .di]
  | .diLineFaultEnd .. => touchesSafe ++ touchesRun ++ touchesPermissions ++ [.obj .FIO_DI_CURRENT, .obj .FIO_DI_STATUS,
    .obj .MOD_STATUS, .obj .SAF_SOC_SINCE_PROOF, .mod .stopPending, .shr .closed, .shr .rampFrom, .shr .rampTime, .shr .rampLast,
    .saf .pending, .saf .coverSeen, .saf .coverDemand, .saf .removed, .fio .di]
  | .fieldOutputCommand .. => [.log, .obj .FIO_DO_STATUS, .obj .FIO_MAX_LATENESS, .obj .NVS_LOG_DROPPED, .fio .out]
  | .doOverload .. => [.log, .obj .FIO_DO_CURRENT, .obj .FIO_DO_STATUS, .obj .NVS_LOG_DROPPED, .fio .out]
  | .doOpenWire .. => [.log, .obj .FIO_DO_CURRENT, .obj .FIO_DO_STATUS, .obj .NVS_LOG_DROPPED]
  | .doOpenWireClear .. => [.obj .FIO_DO_CURRENT, .obj .FIO_DO_STATUS]
  | .doOverTemp .. => [.log, .obj .FIO_DO_STATUS, .obj .NVS_LOG_DROPPED, .fio .out]
  | .doOverTempEnd .. => [.obj .FIO_DO_STATUS, .fio .out]
  | .field24Fault .. => [.log, .obj .FIO_CD_STATUS, .obj .FIO_DO_STATUS, .obj .FIO_STATUS, .obj .NVS_LOG_DROPPED, .fio .drv,
    .fio .f24Bad]
  | .field24Restored .. => [.log, .obj .FIO_CD_STATUS, .obj .FIO_DO_STATUS, .obj .FIO_STATUS, .obj .NVS_LOG_DROPPED, .fio .drv,
    .fio .f24Bad]
  | .contactorDriverCommand .. => [.log, .obj .FIO_CD_IGNORED, .obj .FIO_CD_STATUS, .obj .FIO_MAX_LATENESS, .obj .NVS_LOG_DROPPED,
    .fio .drv]
  | .cdOvercurrent .. => touchesContactor ++ [.obj .FIO_CD_CURRENT]
  | .cdClear .. => touchesRequest ++ [.obj .FIO_CD_STATUS, .fio .drv]
  | .cdOpenCoil .. => [.log, .obj .FIO_CD_CURRENT, .obj .FIO_CD_STATUS, .obj .NVS_LOG_DROPPED]
  | .cdOpenCoilEnd .. => [.obj .FIO_CD_CURRENT, .obj .FIO_CD_STATUS]
  | .cdReadbackMismatch .. => [.log, .obj .FIO_CD_STATUS, .obj .NVS_LOG_DROPPED]
  | .fieldForce .. => touchesRequest ++ [.obj .FIO_CD_STATUS, .obj .FIO_DO_STATUS, .obj .FIO_FORCE, .obj .FIO_STATUS, .fio .out,
    .fio .drv, .fio .force]
  | .auxHighStart .. => [.obj .SUP_STATUS, .sup .highAt]
  | .auxHighEnd .. => [.log, .obj .NVS_LOG_DROPPED, .obj .SUP_STATUS, .sup .highAt]
  | .auxInterruptionStart .. => touchesStore ++ [.obj .SUP_INTERRUPTIONS, .obj .SUP_STATUS, .sup .intAt, .sup .bridge]
  | .auxInterruptionEnd .. => [.log, .obj .NVS_LOG_DROPPED, .obj .SUP_LAST_INTERRUPTION, .obj .SUP_STATUS, .sup .intAt, .sup .shed,
    .sup .backAt, .sup .sensorAt]
  | .auxStopLevel .. => touchesObjects ++ touchesRestart ++ [.buffer, .mod .powered, .mod .thermalLatch, .sup .intAt, .sup .bridge]
  | .supplyShed => touchesSessions ++ [.obj .SUP_STATUS, .sup .shed, .net .link]
  | .gdLimitEntry .. => [.log, .obj .GDV_STATUS, .obj .NVS_LOG_DROPPED, .obj .SUP_STATUS, .sup .gdLimited]
  | .gdLimitExit .. => [.log, .obj .GDV_STATUS, .obj .NVS_LOG_DROPPED, .obj .SUP_STATUS, .sup .gdLimited]
  | .housekeepingRound .. => [.log, .obj .FIO_STATUS, .obj .MOD_STATUS, .obj .NVS_LOG_DROPPED, .obj .SUP_RAIL, .obj .SUP_STATUS,
    .obj .THM_BROKEN, .obj .THM_PEAK, .obj .THM_SHUTDOWN_SENSOR, .obj .THM_STATUS, .obj .THM_TEMP, .obj .THM_THROTTLE_STEP,
    .mod .lockoutPending, .mod .thermalLatch, .sup .lastRound, .sup .sensor, .sup .stepAt]
  | .resetInputAssert .. => touchesObjects ++ touchesRestart ++ [.mod .resetAsserted]
  | .resetInputRelease .. => [.mod .resetAsserted]
  | .housekeepingDataLoss => [.log, .obj .NVS_LOG_DROPPED, .obj .THM_BROKEN, .obj .THM_SHUTDOWN_SENSOR, .obj .THM_STATUS,
    .mod .lockoutPending, .mod .thermalLatch, .sup .sensor]
  | .contactorEnableReturn => [.obj .FIO_CD_STATUS, .obj .FIO_DO_STATUS, .obj .FIO_STATUS, .isl .contactorLapsed, .fio .drv]
  | .claimHoldLapse => touchesOutput ++ [.obj .GDV_STATUS, .obj .MOD_STATUS, .obj .TWN_STATUS, .gdv .pattern, .gdv .noHolder, .gdv .drv,
    .twn .held, .twn .grant, .twn .grantLost]
  | .clauzLaneRegained .. => [.log, .obj .MOD_STATUS, .obj .NVS_LOG_DROPPED, .obj .TWN_STATUS, .twn .link, .twn .lanes]
  | .ptpAnnounceTransmit .. => [.tx, .clk .base]
  | .ptpDelayRequestTransmit .. => [.tx, .clk .base]
  | .heartbeatReceived .. => [.net .heard]
  | .spiResponseRead .. => [.tx, .net .spiReply]
  | .switchFrameForward .. => [.tx, .net .macs]

end Sys2Proof.Machine
end

