-- ==== Sys2Proof/Certificates/Slice0/Obligations.lean ====
section
/-!
DEFINITION. The statements about the block. Every clause about a command says that the command completes on every state and operands that
meet its hypotheses, and what the next state holds; the frames say what every command leaves alone.
-/

open Sys2Proof Sys2Proof.Machine

/-- A step runs the command in front of the queue; with no command waiting, a core cycle passes (the model's choice, log 1) (R15). A step of a
state whose queue begins with a command is the meaning of that command on the state with the rest of the queue, and every command answers
a next state and leaves the queue as it got it. With an empty queue the block idles: module time counts one core cycle while a clock runs
or the keystone carries the count on (logs 1 and 150: the model's choices). -/
def Obligations.StepRunsFrontCommand : Prop :=
  (∀ (c : Instr) (rest : List Instr) (s : State), s.pending = c :: rest → step s = exec c { s with pending := rest }) ∧
  (∀ (c : Instr) (s : State), Completes c s fun t => t.pending = s.pending) ∧
  (∀ s : State, s.pending = [] → step s = .next (tick s))

/-- After reset: HALT, module time 0, no fence, stages off, nothing waiting, saved or logged, every object at its default (R28, R393, R7). The
state after reset: the module is in HALT with module time 0, no island fenced and every stage off; no command, write or transmission
waits; nothing is saved or logged; and every object of the dictionary whose table gives a default reads it. Values that no table gives are
the model's choice (log 20). -/
def Obligations.ResetState : Prop :=
  State.reset.mod.mode = .halt ∧ State.reset.isl.mt = 0 ∧ State.reset.isl.fenced = [] ∧ State.reset.mod.powered = false ∧
  (∀ n : StageId, State.reset.stg[n].st = .off) ∧ State.reset.pending = [] ∧ State.reset.tx = [] ∧
  State.reset.commitWrites = [] ∧ State.reset.modeWrites = [] ∧ State.reset.resetWrites = [] ∧ State.reset.saved = [] ∧
  State.reset.logBuf = [] ∧ State.reset.logFlash = [] ∧ State.reset.logSeq = 0 ∧
  (∀ (key : Nat) (v : Val), defaultAt key = some v → State.reset.obj key = v)

/-- The invariant of the stores and the log holds after reset (R393, R394). In the state after reset the dictionary's values and the saved
values are in canonical form, and the event log is in order. -/
def Obligations.InvariantAtReset : Prop :=
  Inv State.reset

/-- Every step keeps the stores in canonical form and the event log in order, and no sequence number is used twice (R393, R394). From every
state with the invariant, a step gives a state with it: the dictionary's values and the saved values stay in canonical form (keys strictly
rising, no value listed that is its default); over flash and buffer the log's sequence numbers strictly rise and lie below the next one,
and the buffer holds at most its 512 records. The next sequence number never goes back. -/
def Obligations.StepKeepsInvariant : Prop :=
  ∀ s t : State, Inv s → step s = .next t → Inv t ∧ s.logSeq ≤ t.logSeq

/-- The mode changes only with a mode command, the tick and its timeouts, the ways of start and reset, or a carried write or command (R28,
R30, R38, R44). From every state: a step that changes the module's mode runs one of the commands of `mayMoveMode` (MOD_COMMAND's three,
the tick and its timeouts, the steps of ADIT and the ways into HALT, a logic cycle, and whatever carries a write or a held command). No
other of the 278 commands changes it. -/
def Obligations.ModeMovesOnlyBy : Prop :=
  ∀ s t : State, step s = .next t → t.mod.mode ≠ s.mod.mode → ∃ (c : Instr) (rest : List Instr), s.pending = c :: rest ∧ mayMoveMode c = true

/-- A stage leaves SAFE only with the commands that may set its state (R34, R35). From every state: a step after which a stage that was in
SAFE is not runs one of the commands of `mayEndSafe`. With every other command a stage in SAFE stays there. -/
def Obligations.SafeEndsOnlyBy : Prop :=
  ∀ (s t : State) (n : StageId), step s = .next t → s.stg[n].st = .safe → t.stg[n].st ≠ .safe →
    ∃ (c : Instr) (rest : List Instr), s.pending = c :: rest ∧ mayEndSafe c = true

/-- A fence stays until the module is reset, and module time moves only with the clock, a restart or the first lock (R24, R15, R28). From
every state: an island that is fenced before a step is fenced after it, unless the step runs a command with which the module may start
anew (AUX_IN at its stop level, the store the stop waits for, the reset input). Module time changes only by the count of one core cycle in
a step without a command, while a clock runs or the keystone carries the count on (logs 1 and 150: the model's choices), or with a command
that restarts the module or locks its clock. -/
def Obligations.FencesAndTime : Prop :=
  (∀ (s t : State) (i : Island), step s = .next t → i ∈ s.isl.fenced → i ∉ t.isl.fenced →
    ∃ (c : Instr) (rest : List Instr), s.pending = c :: rest ∧ restarts c = true) ∧
  (∀ s t : State, step s = .next t → t.isl.mt ≠ s.isl.mt →
    (s.pending = [] ∧ (clockRuns s = true ∨ (s.isl.started = true ∧ s.alive .keystone = true)) ∧ t.isl.mt = s.isl.mt + 1) ∨
    ∃ (c : Instr) (rest : List Instr), s.pending = c :: rest ∧ maySetTime c = true)

/-- Log records, saved values and the running program change only with the commands that the rules name for them (R352, R390, R394, R317).
From every state: a record standing in the log's buffer is there after a step, unless the step runs a store that completes or AUX_IN at
its stop level; the saved values change only with a scrub step, a store that completes or a restart; the running logic program changes
only at a boundary of the logic engine. -/
def Obligations.RecordsStay : Prop :=
  (∀ (s t : State) (r : LogRec), step s = .next t → r ∈ s.logBuf → r ∉ t.logBuf →
    ∃ (c : Instr) (rest : List Instr), s.pending = c :: rest ∧ mayLoseRecords c = true) ∧
  (∀ s t : State, step s = .next t → t.saved ≠ s.saved → ∃ (c : Instr) (rest : List Instr), s.pending = c :: rest ∧ maySave c = true) ∧
  (∀ s t : State, step s = .next t → t.lgc.program ≠ s.lgc.program →
    ∃ (c : Instr) (rest : List Instr), s.pending = c :: rest ∧ mayExchange c = true)

/-- The frame of every command: it answers a next state, and changes nothing but the fields and objects that `touches` names for it
(01_architecture.md, 02_operating_modes.md, 04_sharing_and_joining.md, 07_control_piers.md, 08_edge_generator.md, 12_clocks_and_time.md,
13_logic_engine.md, 14_dictionary_and_networks.md, 15_safety.md, 16_integrity_and_stores.md, 17_twin_operation.md,
19_supply_and_thermal.md). For every one of the 278 commands, with every operands and from every state: the command answers a next state
in which everything outside the parts that `touches` lists for it is as before. A part is one field of the state (for every stage, pier
and unit) or the values of one object of the dictionary (for the objects that no command but a write to them changes, the rest of a
chapter); the queue of waiting commands is in no list. Lists that many commands share stand under a name of their own (`touchesRequest`
and its like). The commands that carry a write, act on waiting writes or restart the module may change every object. -/
def Obligations.FrameOfEveryCommand : Prop :=
  ∀ c : Instr, Frame c (touches c)

/-- Commands with and without an effective instant (R17, R18, R19, R21, Table 1.5). At a living destination: a command without an instant acts
at once (shown for FIELD_OUT), unless one from a source or channel that comes first has taken its object in the same cycle, and is then
refused and counted; one whose instant lies ahead of the replica by at most 2^31 cycles, for an object that no other held command of the
same instant names, is held as it came, unless its own mechanism keeps the instant; one further ahead is counted as implausible and acts
not; a late parameter write waits for the pier's next sample; a late anchor step counts in SHR_ANCHOR_LATE with event 0x2104. Instants of
commands that cross the link are taken in module time. When the replica reaches the instants of held commands they leave the queue, and a
held FIELD_OUT acts. -/
def Obligations.InstantBoundCommands : Prop :=
  (∀ (s : State) (src : Source) (ch : Nat) (o : DoId) (on : Bool), s.alive .abutment = true →
      s.isl.lately.find? (takenNow s ⟨.abutment, src, ch, false, none, .fieldOutput o on⟩) = none →
      Completes (.commandArrival ⟨.abutment, src, ch, false, none, .fieldOutput o on⟩) s fun t => t.fio.out[o].cmd = on ∧
      t.isl.held = s.isl.held) ∧
  (∀ (s : State) (src : Source) (ch : Nat) (o : DoId) (on : Bool) (x : Taken), s.alive .abutment = true →
      s.isl.lately.find? (takenNow s ⟨.abutment, src, ch, false, none, .fieldOutput o on⟩) = some x →
      comesFirst (x.src, x.channel) (src, ch) = true →
      Completes (.commandArrival ⟨.abutment, src, ch, false, none, .fieldOutput o on⟩) s fun t => t.fio = s.fio ∧
      t.isl.refused = countIn s.isl.refused .abutment) ∧
  (∀ (s : State) (c : TimedCmd) (k : Nat), (c.viaLink = true → s.alive .link = true ∧ linkUp s = true) → s.alive c.dst = true →
      c.inst = some k → s.replicaOf c.dst < instantOf c s k → instantOf c s k ≤ s.replicaOf c.dst + 2147483648 →
      keepsOwnInstant c.body = false → c.body ≠ .handover → s.isl.held.find? (meets { c with inst := some (instantOf c s k) }) = none →
      Completes (.commandArrival c) s fun t => t.isl.held = s.isl.held ++ [⟨{ c with inst := some (instantOf c s k) }, false⟩]) ∧
  (∀ (s : State) (c : TimedCmd) (k : Nat), (c.viaLink = true → s.alive .link = true ∧ linkUp s = true) → s.alive c.dst = true →
      c.inst = some k → s.replicaOf c.dst + 2147483648 < instantOf c s k →
      Completes (.commandArrival c) s fun t => t.isl.held = s.isl.held ∧ t.isl.implausible = countIn s.isl.implausible c.dst) ∧
  (∀ (s : State) (n : StageId) (src : Source) (ch k key : Nat) (v : Val), s.alive (.pier n) = true → k ≤ s.replicaOf (.pier n) →
      Completes (.commandArrival ⟨.pier n, src, ch, false, some k, .paramWrite n key v⟩) s fun t => t.isl.held = s.isl.held ++ [⟨⟨.pier n, src, ch, false, some (s.pie[n].t0 + s.tu n), .paramWrite n key v⟩, true⟩] ∧
      t.commitWrites = s.commitWrites) ∧
  (∀ (s : State) (n : StageId) (src : Source) (ch k : Nat), s.alive (.pier n) = true → Inv s → k < s.replicaOf (.pier n) →
      s.hasRoom 1 = true →
      Completes (.commandArrival ⟨.pier n, src, ch, false, some k, .anchorStep n⟩) s fun t => t.objN (Obj.SHR_ANCHOR_LATE n) = s.objN (Obj.SHR_ANCHOR_LATE n) + 1 ∧
      newEvent s t 0x2104 [n.val, s.replicaOf (.pier n) - k] = true) ∧
  (∀ (s : State) (dst : Island), s.alive dst = true →
      Completes (.effectiveInstantReached dst) s fun t => t.isl.held = s.isl.held.filter fun h => !heldDue s dst h) ∧
  (∀ (s : State) (src : Source) (ch k : Nat) (o : DoId) (on : Bool), s.alive .abutment = true →
      s.isl.held = [⟨⟨.abutment, src, ch, false, some k, .fieldOutput o on⟩, false⟩] → s.isl.lately = [] → k ≤ s.replicaOf .abutment →
      Completes (.effectiveInstantReached .abutment) s fun t => t.isl.held = [] ∧ t.fio.out[o].cmd = on)

/-- Replica broadcast, joint words and fences; contactor enable at the abutment; the loss of housekeeping data (R13, R14, R16, R23, R25, R26).
A broadcast of the master count at least 1,024 cycles after the last one is kept as the new one; with no replica further than two of its
own cycles away the replicas' kept deviations are those within one cycle; a single replica further away is fenced by the keystone. A word
that is not poisoned stands at the joint of a living destination; a poisoned one is counted; a fenced source delivers its marker and no
word. A report on an island that is not yet fenced fences it. Without contactor-enable toggles every contactor driver's switches are off;
when toggles return and the keystone grants contactor enable, the lapse ends and an unowned driver without overcurrent, forcing or a
switch test follows its kept command again; 48 ms after the house island was fenced every temperature sensor counts as broken and the
thermal shut-down is latched. -/
def Obligations.JointsAndPermissions : Prop :=
  (∀ (s : State) (dev : List (Island × Int)), clockRuns s = true → s.alive .edge = true → 1024 ≤ s.since s.isl.broadcast →
      (∀ e ∈ dev, replicaFaulty e = false) → Completes (.timeBroadcast dev) s fun t => t.isl.broadcast = s.now ∧
      t.isl.dev = dev.filter (fun e => e.2 != 0 && decide (e.2.natAbs ≤ e.1.resolution)) ∧ t.isl.fenced = s.isl.fenced) ∧
  (∀ (s : State) (i : Island) (d : Int), clockRuns s = true → s.alive .keystone = true → 1024 ≤ s.since s.isl.broadcast →
      replicaFaulty (i, d) = true → i ≠ .keystone → Completes (.timeBroadcast [(i, d)]) s fun t => i ∈ t.isl.fenced) ∧
  (∀ (s : State) (src dst : Island) (w : Nat), s.alive dst = true → s.fenced src = false →
      Completes (.jointWordArrival src dst false w) s fun t => (jointOf t src dst).word = some w) ∧
  (∀ (s : State) (src dst : Island) (w : Nat), s.alive dst = true → s.fenced src = false →
      ((jointOf s src dst).recent.filter fun m => decide (s.since m < 1024 * dst.resolution)).length < 2 →
      Completes (.jointWordArrival src dst true w) s fun t => (jointOf t src dst).poisoned = (jointOf s src dst).poisoned + 1 ∧
      t.isl.fenced = s.isl.fenced ∧ (src = .link → t.objN Obj.TWN_LINK_ERRORS = s.objN Obj.TWN_LINK_ERRORS + 1)) ∧
  (∀ (s : State) (src dst : Island) (p : Bool) (w : Nat), s.alive dst = true → s.fenced src = true →
      Completes (.jointWordArrival src dst p w) s fun t => (jointOf t src dst).marker = true ∧ (jointOf t src dst).word = none) ∧
  (∀ (s : State) (i : Island) (why : FenceReport), s.alive .keystone = true → i ≠ .keystone →
      Completes (.islandFence i why) s fun t => i ∈ t.isl.fenced) ∧
  (∀ (s : State), s.alive .abutment = true → Completes (.contactorEnableLapse) s fun t => t.isl.contactorLapsed = true ∧
      ∀ d : SocId, t.fio.drv[d].high = false ∧ t.fio.drv[d].low = false) ∧
  (∀ (s : State), s.alive .abutment = true → s.isl.contactorEnable = true →
      Completes (.contactorEnableReturn) s fun t => t.isl.contactorLapsed = false ∧ ∀ d : SocId, socOwned s d = false →
      s.fio.force = none → s.fio.drv[d].overc = false → s.saf.soc[d].test = none → t.fio.drv[d].high = s.fio.drv[d].cmd ∧
      t.fio.drv[d].low = s.fio.drv[d].cmd) ∧
  (∀ (s : State) (at_ : Nat), s.alive .keystone = true → s.isl.houseFencedAt = some at_ → 48 * cyclesMs ≤ s.since at_ →
      Completes (.housekeepingDataLoss) s fun t => t.mod.thermalLatch = true ∧ ∀ c : TempId, t.sup.sensor[c].broken = true)

/-- From AUX_IN through ADIT, SURVEY and its steps (R30, R38, R396, R438, R39, R215, R313, R392). AUX_IN at 8.0 V powers the module. With
power and the reset input released, HALT is left for ADIT with the PLLs enabled on the local references. No PLL in ADIT demands LOCKOUT
with 0x1011 and logs it. Verification runs the preferred image if it passes, whose graphs then stand verified; if neither passes, LOCKOUT
with 0x1011 is demanded. In SURVEY the loaded configuration is kept as loaded, with a graph rejected for its limits leaving its stage
without a graph; an invalid one demands LOCKOUT with 0x9006. The hold-up check keeps the capacitance and is done; below 200 microfarads
LOCKOUT with 0x1013 is demanded. A deferred test starts for the stage whose turn it is. After 20 ms the off-state test ends: with every
leg sound the stage has passed and in SURVEY goes from OFF to ARMED, with a faulty leg it goes to SAFE with 0x3014. At the end of SURVEY
the retained image is restored once. -/
def Obligations.FromPowerUpToSurvey : Prop :=
  (∀ (s : State), Completes (.auxPowerUp) s fun t => t.mod.powered = true) ∧
  (∀ (s : State) (absence : Option Nat) (primary : Bool), s.mod.mode = .halt → s.mod.powered = true → s.mod.resetAsserted = false →
      Completes (.aditEntry absence primary) s fun t => t.mod.mode = .adit ∧ t.clk.pllOn = true ∧ t.clk.refOk[(0 : Fin 3)] = true ∧
      t.clk.refOk[(1 : Fin 3)] = true ∧ t.twn.primary = primary) ∧
  (∀ (s : State), s.mod.mode = .adit → clockRuns s = false → 0x1011 ∉ s.mod.lockoutPending → s.hasRoom 1 = true →
      Completes (.aditPllTimeout) s fun t => t.mod.lockoutPending = s.mod.lockoutPending ++ [0x1011] ∧ newEvent s t 0x1011 [2] = true) ∧
  (∀ (s : State) (imgA imgB : ImageFacts) (progOk : Bool), s.mod.mode = .adit → s.mod.imageStarted = false → s.alive .house = true →
      0x1011 ∉ s.mod.lockoutPending → imageFault s (if s.objN Obj.NVS_BOOT_PREF % 2 = 0 then imgA else imgB) = 0 →
      Completes (.imageVerified imgA imgB progOk) s fun t => t.mod.imageStarted = true ∧
      t.nvs.package = some (if s.objN Obj.NVS_BOOT_PREF % 2 = 0 then imgA else imgB).graphs) ∧
  (∀ (s : State) (imgA imgB : ImageFacts) (progOk : Bool), s.mod.mode = .adit → s.mod.imageStarted = false → s.alive .house = true →
      0x1011 ∉ s.mod.lockoutPending → imageFault s imgA ≠ 0 → imageFault s imgB ≠ 0 →
      Completes (.imageVerified imgA imgB progOk) s fun t => t.mod.imageStarted = false ∧
      t.mod.lockoutPending = s.mod.lockoutPending ++ [0x1011]) ∧
  (∀ (s : State) (dictionary backup : Bool) (graphs : Vector GraphSpec 4), (dictionary = true ∨ backup = true) →
      s.alive .keystone = true → s.mod.mode = .survey → s.mod.cfgLoaded = false → s.nvs.package = some graphs →
      Completes (.surveyConfigLoad dictionary backup) s fun t => t.mod.cfgLoaded = true ∧ t.mod.cfgValid = true ∧
      ∀ n : StageId, graphs[n].fits = false ∨ maxInstances < graphs[n].blocks.length → t.stg[n].graphOk = false) ∧
  (∀ (s : State), s.alive .keystone = true → s.mod.mode = .survey → s.mod.cfgLoaded = false → s.hasRoom 1 = true →
      Completes (.surveyConfigLoad false false) s fun t => t.mod.cfgValid = false ∧
      t.mod.lockoutPending = s.mod.lockoutPending ++ [0x9006] ∧ newEvent s t 0x9006 [] = true) ∧
  (∀ (s : State) (microF volts : Rat) (link : Vector Rat 4), s.alive .house = true → s.mod.mode = .survey → s.mod.calDone = true →
      s.mod.holdupDone = false → Completes (.holdupCheckComplete microF volts link) s fun t => t.mod.holdupDone = true ∧
      t.mod.link = link ∧ (microF < 200 → t.mod.lockoutPending = s.mod.lockoutPending ++ [0x1013])) ∧
  (∀ (s : State) (n : StageId), s.alive (.pier n) = true → diagRunning s = false → diagDue s n = true → (∀ m, m < n →
      diagDue s m = false) → Completes (.deferredDiagStart n) s fun t => t.stg[n].diagSince = some s.now) ∧
  (∀ (s : State) (n : StageId) (r : DiagReading) (at_ : Nat), s.alive (.pier n) = true → s.stg[n].diagSince = some at_ →
      20 * cyclesMs ≤ s.since at_ → diagWord s n r = 0 → Completes (.offStateTestComplete n r) s fun t => t.stg[n].diagPassed = true ∧
      (s.mod.mode = .survey → s.stg[n].st = .off → s.stg[n].graphOk = true → t.stg[n].st = .armed)) ∧
  (∀ (s : State) (n : StageId) (r : DiagReading) (at_ : Nat), s.alive (.pier n) = true → s.stg[n].diagSince = some at_ →
      20 * cyclesMs ≤ s.since at_ → diagWord s n r ≠ 0 → s.mod.mode ≠ .adit → s.stg[n].st ≠ .safe → s.hasRoom 1 = true →
      Completes (.offStateTestComplete n r) s fun t => t.stg[n].st = .safe ∧ t.stg[n].cause = 0x3014 ∧ t.stg[n].diagPassed = false ∧
      newEvent s t 0x3014 [n.val, diagWord s n r] = true) ∧
  (∀ (s : State), s.alive .logic = true → s.mod.mode = .survey → s.mod.holdupDone = true → s.mod.diagQueue = [] → diagRunning s = false →
      s.mod.restoreDone = false → Completes (.logicImageRestore) s fun t => t.mod.restoreDone = true)

/-- The mode machine's tick, MOD_COMMAND with its timeouts (R28, R30, R40, R43, R44, R42). A tick of a living keystone keeps the links it has
read. A pending lockout cause takes the module to LOCKOUT with the oldest cause; with nothing pending, an image started and a clock
running, ADIT is left for SURVEY; a pending stop takes a module that is in no pair from a run mode before STOP to STOP. After the
conditions the ordered command acts if it is still valid: START leads to CHARGE, STOP to STOP, a release to SURVEY with its causes
cleared. START and SERVICE_RELEASE by who may command, and STOP by any writer, valid in the mode that the tick's conditions lead to (START
with its guards met after the pair conditions are re-examined; STOP in the modes 4 to 9; release in LOCKOUT with every cause releasable),
are ordered for the tick. A charge that takes longer than its timeout logs 0x1003 with the stages below the level and demands a stop; a
stop that takes longer demands LOCKOUT with 0x1004. -/
def Obligations.ModeCommandsAndTick : Prop :=
  (∀ (s : State) (k : TickIn), s.alive .keystone = true → Completes (.modeTick k) s fun t => t.mod.link = k.link) ∧
  (∀ (s : State) (k : TickIn) (c : Nat) (rest : List Nat), s.alive .keystone = true → s.mod.mode ≠ .lockout →
      s.mod.lockoutPending = c :: rest → c ≠ 0x1004 → Completes (.modeTick k) s fun t => t.mod.mode = .lockout ∧ t.mod.lockoutCause = c) ∧
  (∀ (s : State) (k : TickIn), s.alive .keystone = true → s.mod.mode = .adit → (watched k s).mod.lockoutPending = [] →
      s.mod.imageStarted = true → clockRuns s = true → Completes (.modeTick k) s fun t => t.mod.mode = .survey) ∧
  (∀ (s : State) (k : TickIn), s.alive .keystone = true → s.twn.mode = 0 → 4 ≤ s.mod.mode.code → s.mod.mode.code ≤ 9 →
      (watched k s).mod.lockoutPending = [] → s.mod.stopPending ≠ none → Completes (.modeTick k) s fun t => t.mod.mode = .stop) ∧
  (∀ (s : State) (k : TickIn), s.alive .keystone = true → (conditioned k s).mod.order = some .start →
      startValid (conditioned k s).mod.mode ((conditioned k s).modMod fun m => { m with order := none }) = true →
      Completes (.modeTick k) s fun t => t.mod.mode = .charge ∧ t.mod.order = none) ∧
  (∀ (s : State) (k : TickIn), s.alive .keystone = true → (conditioned k s).mod.order = some .stop →
      stopValid (conditioned k s).mod.mode = true → Completes (.modeTick k) s fun t => t.mod.mode = .stop ∧ t.mod.order = none) ∧
  (∀ (s : State) (k : TickIn), s.alive .keystone = true → (conditioned k s).mod.order = some .release →
      releaseValid (conditioned k s).mod.mode ((conditioned k s).modMod fun m => { m with order := none }) = true →
      Completes (.modeTick k) s fun t => t.mod.mode = .survey ∧ t.mod.lockoutCause = 0 ∧ t.mod.lockoutPending = []) ∧
  (∀ (s : State) (w : Writer), s.admits w Obj.MOD_COMMAND (.int 0x5A01) = true → s.commands w = true →
      startValid (resultingMode (pairExamine s)) (pairExamine s) = true → Completes (.modStart w) s fun t => t.mod.order = some .start) ∧
  (∀ (s : State) (w : Writer), s.admits w Obj.MOD_COMMAND (.int 0x5A02) = true → stopValid (resultingMode s) = true →
      Completes (.modStop w) s fun t => t.mod.order = some .stop) ∧
  (∀ (s : State) (w : Writer), s.admits w Obj.MOD_COMMAND (.int 0x5A03) = true → serviceOk s w = true →
      releaseValid (resultingMode s) s = true → Completes (.serviceRelease w) s fun t => t.mod.order = some .release) ∧
  (∀ (s : State), s.alive .keystone = true → s.mod.mode = .charge → s.mod.stopPending = none →
      s.objN Obj.MOD_CHARGE_TIMEOUT * cyclesMs ≤ s.since s.mod.enteredAt → s.hasRoom 1 = true →
      Completes (.chargeTimeout) s fun t => t.mod.stopPending = some .plain ∧ newEvent s t 0x1003 [uncharged s] = true) ∧
  (∀ (s : State), s.alive .keystone = true → s.mod.mode = .stop → stopDone s = false → 0x1004 ∉ s.mod.lockoutPending →
      s.objN Obj.MOD_STOP_TIMEOUT * cyclesMs ≤ s.since s.mod.enteredAt → s.hasRoom 1 = true →
      Completes (.stopTimeout) s fun t => t.mod.lockoutPending = s.mod.lockoutPending ++ [0x1004] ∧
      ∃ data, newEvent s t 0x1004 data = true)

/-- MOD_STAGE_CMD (R34, R37, R466, Table 2.3). START_STAGE within its conditions orders an ARMED stage to RUN, an OFF stage that has passed
its diagnostics to ARMED and RUN, and is held for an OFF stage that has not. STOP_STAGE takes a switching stage without SSD to SAFE with
cause 0x1007 and event 0x1007, begins the ramp of one with SSD, orders an ARMED stage OFF, and cancels a held start. RESET_SAFE takes a
SAFE stage whose cause is gone to OFF and clears the cause. -/
def Obligations.StageCommands : Prop :=
  (∀ (s : State) (n : StageId) (w : Writer), s.admits w (Obj.MOD_STAGE_CMD n.val) (.int 1) = true → s.commands w = true →
      s.enabled n = true → s.stype n ≠ .none → startAllowed (resultingMode s) s n = true → s.fenced (.pier n) = false →
      overBudget s n (gateBudget s) = none → (s.stg[n].st = .armed ∨ (s.stg[n].st = .off ∧ s.stg[n].graphOk = true)) →
      Completes (.startStage n w) s fun t => if s.stg[n].st = .off ∧
      s.stg[n].diagPassed = false then t.stg[n].heldStart = true else t.stg[n].toRun = true ∧ (s.stg[n].st = .off →
      t.stg[n].toArmed = true)) ∧
  (∀ (s : State) (n : StageId) (w : Writer), s.admits w (Obj.MOD_STAGE_CMD n.val) (.int 2) = true → s.commands w = true →
      stopAllowed (resultingMode s) = true → s.switching n = true → s.isSsd n = false → s.hasRoom 1 = true →
      Completes (.stopStage n w) s fun t => t.stg[n].st = .safe ∧ t.stg[n].cause = 0x1007 ∧ newEvent s t 0x1007 [n.val] = true) ∧
  (∀ (s : State) (n : StageId) (w : Writer), s.admits w (Obj.MOD_STAGE_CMD n.val) (.int 2) = true → s.commands w = true →
      stopAllowed (resultingMode s) = true → s.stg[n].st = .armed → Completes (.stopStage n w) s fun t => t.stg[n].toOff = true ∧
      t.stg[n].toRun = false ∧ t.shr[n].claim = .idle) ∧
  (∀ (s : State) (n : StageId) (w : Writer), s.admits w (Obj.MOD_STAGE_CMD n.val) (.int 2) = true → s.commands w = true →
      stopAllowed (resultingMode s) = true → s.stg[n].st = .off → (s.stg[n].heldStart = true ∨ s.stg[n].toArmed = true) →
      Completes (.stopStage n w) s fun t => t.stg[n].heldStart = false ∧ t.stg[n].toArmed = false ∧ t.stg[n].toRun = false) ∧
  (∀ (s : State) (n : StageId) (w : Writer), s.admits w (Obj.MOD_STAGE_CMD n.val) (.int 3) = true → s.commands w = true →
      (resultingMode s = .ready ∨ resultingMode s = .blackstart ∨ resultingMode s = .sync ∨ resultingMode s = .form) →
      s.stg[n].st = .safe → s.fenced (.pier n) = false → causePresent s n = false →
      Completes (.resetSafe n w) s fun t => t.stg[n].st = .off ∧ t.stg[n].cause = 0)

/-- Anchors, claim slots, hold-offs and the close command (R76, R83, R85, R86, R87). The anchor instant (the module time of a whole multiple
of the anchor period) of a switching GFI stage is kept at its pier as a restoration step still to be taken. At its claim slot, with NTA
good and the line dead, a stage of a module that is no standby commands its output contactor closed onto the dead line and logs 0x2105
with its slot and NTA, once the slot's instant has come; with NTA no longer good it takes the claim of its policy and stays waiting. When
the hold-off has passed with the line dead the same command follows. A close command without confirmation within its timeout takes the
stage to SAFE with cause 0x2109, the event naming its contactor. -/
def Obligations.ClaimingDeadLine : Prop :=
  (∀ (s : State) (n : StageId), s.alive (.pier n) = true → anchorHere s n = true → s.switching n = true → s.isGfi n = true →
      Completes (.anchorInstant n) s fun t => t.shr[n].anchor = some s.now) ∧
  (∀ (s : State) (n : StageId) (at_ : Nat), s.alive .keystone = true → s.shr[n].claim = .slot at_ → at_ ≤ s.now → ntaGood s = true →
      s.standby = false → s.shr[n].line.live = false → s.hasRoom 2 = true →
      Completes (.claimSlotReached n) s fun t => t.shr[n].claim = .idle ∧ t.shr[n].closeAt = some s.now ∧ t.shr[n].closedDead = true ∧
      newEvent s t 0x2105 [n.val, claimSlot s n, ntaAt s s.now] = true) ∧
  (∀ (s : State) (n : StageId) (at_ : Nat), s.alive .keystone = true → s.shr[n].claim = .slot at_ → at_ ≤ s.now → ntaGood s = false →
      Completes (.claimSlotReached n) s fun t => t.shr[n].claim = claimFor s n s.now ∧ t.shr[n].closeAt = s.shr[n].closeAt) ∧
  (∀ (s : State) (n : StageId) (at_ : Nat), s.alive .keystone = true → s.shr[n].claim = .holdoff at_ → at_ ≤ s.now → s.standby = false →
      s.shr[n].line.live = false → s.hasRoom 2 = true → Completes (.claimHoldoffExpiry n) s fun t => t.shr[n].claim = .idle ∧
      t.shr[n].closeAt = some s.now ∧ t.shr[n].closedDead = true ∧
      newEvent s t 0x2105 [n.val, secondsOf (holdoffCycles s n), ntaAt s s.now] = true) ∧
  (∀ (s : State) (n : StageId) (at_ : Nat), s.shr[n].closeAt = some at_ → s.shr[n].closeTimeout ≤ s.since at_ → s.stg[n].st ≠ .safe →
      s.mod.mode ≠ .halt → s.mod.mode ≠ .adit → s.hasRoom 1 = true →
      Completes (.contactorCloseTimeout n) s fun t => t.shr[n].closeAt = none ∧ t.stg[n].st = .safe ∧ t.stg[n].cause = 0x2109 ∧
      newEvent s t 0x2109 [n.val, contactorOf s n] = true) ∧
  (∀ (s : State) (n : StageId), s.shr[n].ramping = true → 5 * s.shr[n].rampTime ≤ s.since s.shr[n].rampFrom → s.stg[n].st ≠ .safe →
      s.mod.mode ≠ .halt → s.mod.mode ≠ .adit → s.hasRoom 1 = true → Completes (.rampTimeout n) s fun t => t.shr[n].ramping = false ∧
      t.stg[n].st = .safe ∧ t.stg[n].cause = 0x2108 ∧ newEvent s t 0x2108 [n.val, s.pie[n].law.r] = true)

/-- Held parameter writes and 20 ms ways (R58, R66, R133, R167). Clearing GFL_CONFIG.PARAM_HOLD (PIE_CONFIG.PARAM_HOLD) by a writer that may
write, on a stage whose hold stands, hands every held write of the stage's law (of the pier's block instances) to the next commit
together, and logs 0x2006 (0x2406) with their number; where no hold stands nothing is handed on. At the end of its 20 ms a
virtual-impedance value or an adapted offset is at its target: its way is over, one that still runs goes on. -/
def Obligations.LawParametersOnTheirWay : Prop :=
  (∀ (s : State) (n : StageId) (w : Writer), s.serves w .house = true → s.isGfi n = true → s.bit (Obj.GFL_CONFIG n) 10 = true →
      s.hasRoom 1 = true → Completes (.gflParamHoldClear n w) s fun t => t.commitWrites = s.commitWrites ++ heldOf s n false ∧
      (∀ c ∈ t.heldWrites, c ∈ s.heldWrites ∧ c ∉ heldOf s n false) ∧ newEvent s t 0x2006 [n.val, (heldOf s n false).length] = true) ∧
  (∀ (s : State) (n : StageId) (w : Writer), s.serves w .house = true → s.bit (Obj.GFL_CONFIG n) 10 = false →
      Completes (.gflParamHoldClear n w) s fun t => t.commitWrites = s.commitWrites ∧ t.heldWrites = s.heldWrites) ∧
  (∀ (s : State) (p : StageId) (w : Writer), s.serves w .house = true → s.bit (Obj.PIE_CONFIG p) 0 = true → s.hasRoom 1 = true →
      Completes (.pieParamHoldClear p w) s fun t => t.commitWrites = s.commitWrites ++ heldOf s p true ∧
      (∀ c ∈ t.heldWrites, c ∈ s.heldWrites ∧ c ∉ heldOf s p true) ∧ newEvent s t 0x2406 [p.val, (heldOf s p true).length] = true) ∧
  (∀ (s : State) (n : StageId), s.alive (.pier n) = true →
      Completes (.xvRampEnd n) s fun t => t.pie[n].rv = s.pie[n].rv.filter (fun g => decide (s.since g.start < g.dur)) ∧
      t.pie[n].xv = s.pie[n].xv.filter (fun g => decide (s.since g.start < g.dur)) ∧
      t.pie[n].xvn = s.pie[n].xvn.filter (fun g => decide (s.since g.start < g.dur))) ∧
  (∀ (s : State) (n : StageId), s.alive (.pier n) = true →
      Completes (.adaptOffsetRampEnd n) s fun t => t.srv[n].glideR = s.srv[n].glideR.filter (fun g => decide (s.since g.start < g.dur)) ∧
      t.srv[n].glideX = s.srv[n].glideX.filter (fun g => decide (s.since g.start < g.dur)) ∧ t.srv[n].dRad = s.srv[n].dRad)

/-- Dwell, timeouts, glides and bus ties (R90, R91, R92, R93). When the three conditions have held for the dwell, a pulling stage that has not
yet commanded its contactor commands it closed onto a live line; a tie that is pulled has event 0x210C logged, and its contactor instance
is commanded closed where nothing in R361 refuses that. A stage that pulls for SHR_SYNC_TIMEOUT without commanding goes to SAFE with
0x210B. One whose line has read dead for 1 s stops pulling, removes its pulses and proceeds by claim. When the glide's time has passed it
is over and the synchronising offsets are 0; before, it goes on. TIE_CLOSE of a GFI stage that may, onto a live far side, begins to pull
to the tie; where it may not it logs 0x210D and pulls not; TIE_OPEN withdraws the command of the tie's instance outside a test pulse, and
the pull. -/
def Obligations.Synchronising : Prop :=
  (∀ (s : State) (n : StageId) (at_ : Nat), s.shr[n].okSince = some at_ → s.shr[n].dwell ≤ s.since at_ → s.shr[n].closeAt = none →
      s.standby = false → s.shr[n].pull = .line → Completes (.syncDwellExpiry n) s fun t => t.shr[n].closeAt = some s.now ∧
      t.shr[n].closedDead = false ∧ t.shr[n].claim = .idle) ∧
  (∀ (s : State) (n : StageId) (at_ : Nat) (i : SocId), s.shr[n].okSince = some at_ → s.shr[n].dwell ≤ s.since at_ →
      s.shr[n].closeAt = none → s.standby = false → s.shr[n].pull = .tie → socOf s 4 = some i → s.saf.soc[i].test = none →
      s.saf.soc[i].cmd = false → socRefusal s i = none → s.hasRoom 2 = true →
      Completes (.syncDwellExpiry n) s fun t => t.saf.soc[i].cmd = true ∧ ∃ data, newEvent s t 0x210C data = true) ∧
  (∀ (s : State) (n : StageId), s.shr[n].pull = .line → s.shr[n].closeAt = none → s.shr[n].syncTimeout ≤ s.since s.shr[n].syncFrom →
      s.stg[n].st ≠ .safe → s.mod.mode ≠ .halt → s.mod.mode ≠ .adit → Completes (.syncTimeout n) s fun t => t.stg[n].st = .safe ∧
      t.stg[n].cause = 0x210B ∧ t.shr[n].pull = .none) ∧
  (∀ (s : State) (n : StageId) (at_ : Nat), s.shr[n].deadSince = some at_ → s.shr[n].pull = .line → s.shr[n].closeAt = none →
      cyclesSec ≤ s.since at_ → Completes (.syncLineDeadTimeout n) s fun t => t.stg[n].st = .armed ∧ t.shr[n].pull = .none) ∧
  (∀ (s : State) (n : StageId) (g : Glide), s.shr[n].glideW = some g → g.dur ≤ s.since g.start →
      Completes (.joinGlideEnd n) s fun t => t.shr[n].glideW = none ∧ t.shr[n].glideV = none ∧ t.pie[n].law.dws = 0 ∧
      t.pie[n].law.dvs = 0) ∧
  (∀ (s : State) (n : StageId) (g : Glide), s.shr[n].glideW = some g → s.since g.start < g.dur →
      Completes (.joinGlideEnd n) s fun t => t.shr[n].glideW = some g ∧ t.pie[n].law = s.pie[n].law) ∧
  (∀ (s : State) (n : StageId) (w : Writer), s.serves w (.pier n) = true → s.isGfi n = true → s.bit (Obj.SHR_CONFIG n) 5 = true →
      s.switching n = true → s.mod.mode = .form → s.saf.tieFailed = false → s.shr[n].far.live = true →
      Completes (.tieClose n w) s fun t => t.shr[n].pull = .tie ∧ t.shr[n].syncFrom = s.now ∧ t.shr[n].okSince = none) ∧
  (∀ (s : State) (n : StageId) (w : Writer), s.serves w (.pier n) = true → s.isGfi n = true → s.saf.tieFailed = true →
      s.hasRoom 1 = true → Completes (.tieClose n w) s fun t => t.shr[n].pull = s.shr[n].pull ∧ t.saf.soc = s.saf.soc ∧
      newEvent s t 0x210D [n.val, 1] = true) ∧
  (∀ (s : State) (n : StageId) (w : Writer) (i : SocId), s.serves w (.pier n) = true → s.isGfi n = true → socOf s 4 = some i →
      s.saf.soc[i].test = none → Completes (.tieOpen n w) s fun t => t.saf.soc[i].cmd = false ∧
      t.shr[n].pull = (if s.shr[n].pull = .tie then .none else s.shr[n].pull))

/-- Ride-through and coasting, input loss and return, ramps, the input PLL (R107, R109, R116, R32, R110, R111, R114, R115, R117). All of it
acts only where R98 lets it. A ride not ended within 20 ms of clear detection has its clear withdrawn: the budget counts down again. A
budget that reaches 0 in ride-through takes the stage to SAFE with 0x2203 and demands a stop. A link low, or a coasting, for too long
demands a stop with 0x2209, logging 1 or 2. A stage in LIMIT is back in RUN after 2 ms without an active limiter. An input stage that
switches in modes 4 to 9 whose configured DC input has stood below FRT_IN_LOSS_LEVEL (AC input beyond FRT_AC_LOSS_DEV of its PLL) for
FRT_IN_LOSS_TIME is marked lost and blocked with event 0x2206, an AC one with its PLL in hold; outside CHARGE every living stage it feeds
is told. Return, confirmed by FRT_IN_RETURN_TIME at or above FRT_IN_RETURN_LEVEL, clears the loss and logs 0x2207 with the gap in ms. At
the end of its ramp the ramp is over and the stages it feeds coast no longer; at the end of a release the power limit is 1 and the
coasting shift 0. FRT_PLL_HOLD passed in hold logs 0x220B; a crossing must exceed FRT_ZC_HYST; the first after return near the held phase
resumes the PLL. -/
def Obligations.RideThroughAndInputLoss : Prop :=
  (∀ (s : State) (n : StageId) (at_ : Nat), s.alive (.pier n) = true → s.frt[n].riding = true → rideActs s n = true →
      s.frt[n].clearAt = some at_ → 20 * cyclesMs < s.since at_ → s.hasRoom 1 = true →
      Completes (.rideEndTimeout n) s fun t => t.frt[n].riding = true ∧ t.frt[n].clearAt = none ∧ t.frt[n].budgetAt = s.now ∧
      newEvent s t 0x2205 [n.val, 0] = true) ∧
  (∀ (s : State) (n : StageId), s.alive (.pier n) = true → s.frt[n].riding = true → rideActs s n = true → s.frt[n].clearAt = none →
      budgetNow s n = 0 → s.stg[n].st ≠ .safe → s.mod.mode ≠ .adit → s.hasRoom 1 = true →
      Completes (.faultBudgetExhausted n) s fun t => t.stg[n].st = .safe ∧ t.stg[n].cause = 0x2203 ∧ t.frt[n].riding = false ∧
      t.mod.stopPending ≠ none ∧ newEvent s t 0x2203 [n.val, 0] = true) ∧
  (∀ (s : State) (n : StageId) (at_ : Nat), s.alive (.pier n) = true → s.frt[n].coasting = true → rideActs s n = true →
      s.frt[n].lowSince = some at_ → s.objN (Obj.FRT_LINK_MIN_TIME n) * cyclesMs ≤ s.since at_ → s.hasRoom 1 = true →
      Completes (.coastLinkLowTimeout n) s fun t => t.mod.stopPending ≠ none ∧ (s.mod.stopPending = none →
      t.mod.stopPending = some (.fault 0x2209)) ∧ newEvent s t 0x2209 [n.val, 1] = true) ∧
  (∀ (s : State) (n : StageId), s.alive (.pier n) = true → s.frt[n].coasting = true → rideActs s n = true →
      s.objN (Obj.FRT_COAST_MAX n) * cyclesMs ≤ s.since s.frt[n].coastFrom → s.hasRoom 1 = true →
      Completes (.coastMaxTimeout n) s fun t => t.mod.stopPending ≠ none ∧ (s.mod.stopPending = none →
      t.mod.stopPending = some (.fault 0x2209)) ∧ newEvent s t 0x2209 [n.val, 2] = true) ∧
  (∀ (s : State) (n : StageId), s.alive (.pier n) = true → s.stg[n].st = .limit → 2 * cyclesMs ≤ s.since s.stg[n].lastLimit →
      Completes (.stageLimitExit n) s fun t => t.stg[n].st = .run ∧ t.pie = s.pie) ∧
  (∀ (s : State) (n : StageId) (level : Rat) (cycles : Nat), s.alive .edge = true → mayLose s n 1 = true →
      level < milli (s.objI (Obj.FRT_IN_LOSS_LEVEL n)) → s.objN (Obj.FRT_IN_LOSS_TIME n) * 4096 ≤ 10 * cycles → s.hasRoom 1 = true →
      Completes (.inputLossDc n ⟨level, cycles⟩) s fun t => t.frt[n].lost = true ∧ t.frt[n].lostAt = s.now ∧ t.frt[n].blocked = true ∧
      newEvent s t 0x2206 [n.val, level] = true ∧ (s.mod.mode ≠ .charge → ∀ m : StageId, fedBy s m n = true → s.alive (.pier m) = true →
      t.frt[m].notified = true)) ∧
  (∀ (s : State) (n : StageId) (at_ : Nat) (vin : Rat), s.alive (.pier n) = true → mayLose s n 2 = true → s.frt[n].devSince = some at_ →
      milli (s.objI (Obj.FRT_AC_LOSS_DEV n)) < inputDeviation s n vin → s.objN (Obj.FRT_IN_LOSS_TIME n) * 4096 ≤ 10 * s.since at_ →
      s.hasRoom 1 = true → Completes (.inputLossAc n vin) s fun t => t.frt[n].lost = true ∧ t.frt[n].blocked = true ∧
      t.frt[n].hold ≠ none ∧ newEvent s t 0x2206 [n.val, inputDeviation s n vin] = true) ∧
  (∀ (s : State) (n : StageId), s.alive (.pier n) = true → inputActs s n = true → s.frt[n].lost = true → s.frt[n].hold = none →
      inputReturned s n = true → s.hasRoom 1 = true → Completes (.inputReturnConfirm n) s fun t => t.frt[n].lost = false ∧
      t.frt[n].confirmed = true ∧ newEvent s t 0x2207 [n.val, r32 (msOf (s.since s.frt[n].lostAt))] = true) ∧
  (∀ (s : State) (n : StageId) (g : Glide), s.alive (.pier n) = true → s.frt[n].ramp = some g → g.dur ≤ s.since g.start →
      Completes (.inputRampComplete n) s fun t => t.frt[n].ramp = none ∧ (∀ m : StageId, fedBy s m n = true → t.frt[m].coasting = false ∧
      t.frt[m].notified = (s.frt[m].notified && s.frt[m].coasting))) ∧
  (∀ (s : State) (n : StageId) (g : Glide), s.alive (.pier n) = true → s.frt[n].release = some g → g.dur ≤ s.since g.start →
      Completes (.coastReleaseEnd n) s fun t => t.frt[n].release = none ∧ t.frt[n].powerLimit = 1 ∧ t.pie[n].law.dPc = 0) ∧
  (∀ (s : State) (n : StageId) (at_ : Nat), s.alive (.pier n) = true → s.frt[n].hold = some at_ → s.frt[n].holdExpired = false →
      inputActs s n = true → s.objN (Obj.FRT_PLL_HOLD n) * cyclesMs ≤ s.since at_ → s.hasRoom 1 = true →
      Completes (.inputPllHoldExpiry n) s fun t => t.frt[n].holdExpired = true ∧ t.frt[n].hold = s.frt[n].hold ∧
      newEvent s t 0x220B [n.val, s.frt[n].pllF] = true) ∧
  (∀ (s : State) (n : StageId) (rising : Bool) (swing : Rat) (at_ : Nat), s.alive (.pier n) = true → inputActs s n = true →
      milli (s.objI (Obj.FRT_ZC_HYST n)) ≤ swing → inputReturned s n = true → s.frt[n].hold = some at_ → s.frt[n].lost = true →
      s.frt[n].crossings = [] → Completes (.inputZeroCrossing n ⟨rising, swing⟩) s fun t => if s.frt[n].holdExpired = false ∧
      absR (angleDeg (addAngle (heldPhase s.frt[n] s.now) (-((if rising then 0 else 2147483648 : Nat) : Int)))) * 10 ≤ (s.objN (Obj.FRT_PLL_JUMP n) : Nat) then t.frt[n].hold = none ∧
      t.frt[n].pllAt = s.now ∧ t.frt[n].pllPhase = (if rising then 0 else 2147483648) else t.frt[n].hold = some at_ ∧
      t.frt[n].crossings = [(s.now, rising)]) ∧
  (∀ (s : State) (n : StageId) (rising : Bool) (swing : Rat) (at_ z1 z2 : Nat), s.alive (.pier n) = true → inputActs s n = true →
      milli (s.objI (Obj.FRT_ZC_HYST n)) ≤ swing → s.frt[n].hold = some at_ → s.frt[n].lost = true →
      s.frt[n].crossings = [(z1, rising), (z2, !rising)] → z1 < s.now →
      Completes (.inputZeroCrossing n ⟨rising, swing⟩) s fun t => t.frt[n].hold = none ∧ t.frt[n].holdExpired = false ∧
      t.frt[n].pllF = r32 (mkRat 409600000 (s.now - z1)) ∧ t.frt[n].pllAt = s.now)

/-- Survey rounds and the reactions of the canary (R125, R127, R128, R129, R136, R139, R140). A round starts on a GFI stage in RUN in FORM
with the survey enabled, 1 s after the entry or SRV_PERIOD after the last start, with the settings it starts with kept; it injects nothing
outside a round. A round whose length has passed ends, in every case, and its record is dropped; with less than one whole period recorded
no point is valid: event 0x2301 carries zeros and the offsets stay; a duplex standby evaluates nothing. A residual that has stood above
its act threshold for SRV_CAN_PERSIST updated samples on a dispatched stage is acted upon once, with event 0x2308 naming its reaction
code, whichever code it is; its reaction waits for the stage's next commit, and CANARY_ACT is set by the codes above 0 (that code 0 does
not set it is the model's choice, log 144). At the commit codes 0 and 1 leave the module as it is, and code 3 takes the stage to SAFE with
0x2308, code 4 also demands a stop (where the module is no duplex pair). -/
def Obligations.SurveyAndCanary : Prop :=
  (∀ (s : State) (n : StageId), s.alive (.pier n) = true → s.isGfi n = true → s.srv[n].active = false → s.srv[n].startedAt = none →
      cyclesSec ≤ s.since (max s.srv[n].runSince s.mod.enteredAt) → surveyBar s n = 0 →
      Completes (.surveyRoundStart n) s fun t => t.srv[n].active = true ∧ t.srv[n].startedAt = some s.now ∧ t.srv[n].chip = 0 ∧
      t.srv[n].cfg.getD 0 0 = s.objN (Obj.SRV_AMPLITUDE n)) ∧
  (∀ (s : State) (n : StageId), surveyBar s n ≠ 0 → Completes (.surveyRoundStart n) s fun t => t = s) ∧
  (∀ (s : State) (n : StageId) (at_ : Nat), s.alive (.pier n) = true → s.isGfi n = true → s.srv[n].active = false →
      s.srv[n].startedAt = some at_ → s.objN (Obj.SRV_PERIOD n) * 100 * cyclesMs ≤ s.since at_ → surveyBar s n = 0 →
      Completes (.surveyRoundStart n) s fun t => t.srv[n].active = true ∧ t.srv[n].startedAt = some s.now ∧ t.srv[n].chip = 0 ∧
      t.srv[n].record = [] ∧
      t.srv[n].cfg = [s.objN (Obj.SRV_AMPLITUDE n), s.objN (Obj.SRV_AVERAGES n), s.objN (Obj.SRV_COH_MIN n), s.objN (Obj.SRV_PEER_X n)]) ∧
  (∀ (s : State) (n : StageId) (instant : Nat), s.alive (.pier n) = true → s.srv[n].active = true →
      s.srv[n].startedAt.getD s.now + (1 + s.srv[n].cfg.getD 1 0) * 4095 * chipDiv s n * s.tu n ≤ instant → instant ≤ s.now →
      Completes (.surveyRoundComplete n instant) s fun t => t.srv[n].active = false ∧ t.srv[n].record = [] ∧
      t.bit (Obj.SRV_STATUS n) 0 = false) ∧
  (∀ (s : State) (n : StageId) (instant : Nat), s.alive (.pier n) = true → s.srv[n].active = true →
      s.srv[n].startedAt.getD s.now + (1 + s.srv[n].cfg.getD 1 0) * 4095 * chipDiv s n * s.tu n ≤ instant → instant ≤ s.now →
      s.standby = false → s.srv[n].record.length < 4095 → 0 < s.srv[n].cfg.getD 2 0 → s.hasRoom 1 = true →
      Completes (.surveyRoundComplete n instant) s fun t => t.srv[n].active = false ∧ t.srv[n].dXad = s.srv[n].dXad ∧
      newEvent s t 0x2301 [n.val, 0, 0, 0] = true) ∧
  (∀ (s : State) (n : StageId) (instant : Nat), s.alive (.pier n) = true → s.srv[n].active = true →
      s.srv[n].startedAt.getD s.now + (1 + s.srv[n].cfg.getD 1 0) * 4095 * chipDiv s n * s.tu n ≤ instant → instant ≤ s.now →
      s.standby = true → Completes (.surveyRoundComplete n instant) s fun t => t.srv[n].active = false ∧ t.srv[n].dXad = s.srv[n].dXad ∧
      t.logBuf = s.logBuf) ∧
  (∀ (s : State) (n : StageId) (j : Fin 6), s.alive (.pier n) = true → s.dispatching n = true → s.srv[n].acted[j] = false →
      s.objN (Obj.SRV_CAN_PERSIST n) ≤ s.srv[n].above[j] → s.hasRoom 1 = true →
      Completes (.canaryAct n j) s fun t => t.srv[n].acted[j] = true ∧ t.srv[n].due = s.srv[n].due ++ [j] ∧ t.stg = s.stg ∧
      t.bit (Obj.SRV_STATUS n) 9 = (s.bit (Obj.SRV_STATUS n) 9 || decide (s.objN (Obj.SRV_CAN_REACT n j) ≠ 0)) ∧
      newEvent s t 0x2308 [n.val, j.val + 1, s.objN (Obj.SRV_CAN_REACT n j)] = true) ∧
  (∀ (s : State) (n : StageId) (j : Fin 6), s.srv[n].due = [j] → s.objN (Obj.SRV_CAN_REACT n j) ≤ 1 →
      canaryReactions n s = s.modSurvey n fun v => { v with due := [] }) ∧
  (∀ (s : State) (n : StageId) (j : Fin 6), s.srv[n].due = [j] → 3 ≤ s.objN (Obj.SRV_CAN_REACT n j) → s.twn.mode ≠ 2 →
      s.stg[n].st ≠ .safe → s.mod.mode ≠ .halt → s.mod.mode ≠ .adit → (canaryReactions n s).stg[n].st = .safe ∧
      (canaryReactions n s).stg[n].cause = 0x2308 ∧ (s.objN (Obj.SRV_CAN_REACT n j) = 4 → (canaryReactions n s).mod.stopPending ≠ none))

/-- Dispatch, commit, overrun, post commit; built-in and compute-path tests, block reset (R155, R156, R157, R160, R162, R149, R150, R170,
R417). Dispatch of an armed stage other than GFI, with nothing waiting at its pier, leaves a working bank computed from the committed one,
with its law untouched, or voids the sample when a value is not finite. A commit word before the deadline makes the working bank the
committed one, with the state resets ordered meanwhile; of a sample dispatched while the stage switched and that still switches a set goes
out under the next tally, effective at the sample's instant plus the update period, its words those of Table 7.3; at or after the
deadline, or when the gate closes without one, the sample is voided and counted, and the committed law and blocks stay. The post commit
ends the post phase and keeps the longest total. With BIST_EN a background round that passes sets its instant anew and clears its
lateness, one that fails has the keystone fence the pier; a round missing for PIE_BIST_PERIOD is late with event 0x240C. PIE_SELFTEST in
READY by a writer that may starts the compute-path test, once the critical phase is over. A test ends after 480 cycles; its result stands
in SELFTEST_PASS, a failing unit is logged with 0x240B (shown where no arbitration runs). PIE_BLK_CMD 1 orders the reset of exactly the
named instance at its next commit. -/
def Obligations.PierSamplesAndTests : Prop :=
  (∀ (s : State) (p : StageId) (smp : Sample), s.alive (.pier p) = true → s.stg[p].st = .armed → s.isGfi p = false → smp.mem = none →
      s.pie[p].postDone = true → s.commitWrites = [] → s.isl.held = [] → s.objN (Obj.PIE_OVERRUN_LIMIT p) > s.pie[p].overrunRun + 1 →
      Completes (.pierDispatch p smp) s fun t => t.pie[p].law = s.pie[p].law ∧ t.pie[p].blocks = s.pie[p].blocks ∧
      (t.pie[p].work ≠ none ∨ t.pie[p].overrunRun = s.pie[p].overrunRun + 1)) ∧
  (∀ (s : State) (p : StageId) (offset : Nat) (w : Work), s.alive (.pier p) = true → s.pie[p].work = some w → offset < deadline s p →
      s.srv[p].due = [] →
      Completes (.pierCommit p ⟨offset, none⟩) s fun t => t.pie[p].law = (if w.sends = s.switching p then w.law else s.pie[p].law) ∧
      t.pie[p].blocks = resetOrdered s.pie[p].blocks (swapCritical s.pie[p].blocks w.blocks) ∧ t.pie[p].work = none ∧
      t.pie[p].post = some ⟨resetOrdered s.pie[p].blocks w.blocks, w.canary, s.pie[p].k, s.pie[p].t0⟩ ∧ (s.switching p = true →
      w.sends = true → t.pie[p].tally = (s.pie[p].tally + 1) % 256 ∧
      t.pie[p].out = some (encodeSet (formSet s p w.duties (resetOrdered s.pie[p].blocks (swapCritical s.pie[p].blocks w.blocks)) ((s.pie[p].tally + 1) % 256)))) ∧
      (s.switching p = false → t.pie[p].out = s.pie[p].out)) ∧
  (∀ (s : State) (p : StageId) (offset : Nat) (w : Work), s.alive (.pier p) = true → s.pie[p].work = some w → deadline s p ≤ offset →
      s.objN (Obj.PIE_OVERRUN_LIMIT p) > s.pie[p].overrunRun + 1 → s.hasRoom 1 = true →
      Completes (.pierCommit p ⟨offset, none⟩) s fun t => t.pie[p].law = s.pie[p].law ∧ t.pie[p].blocks = s.pie[p].blocks ∧
      t.pie[p].work = none ∧ t.pie[p].overrunRun = s.pie[p].overrunRun + 1 ∧ newEvent s t 0x2401 [p.val, 1, s.pie[p].k] = true) ∧
  (∀ (s : State) (p : StageId) (w : Work), s.alive (.pier p) = true → s.pie[p].work = some w →
      s.objN (Obj.PIE_OVERRUN_LIMIT p) > s.pie[p].overrunRun + 1 → s.hasRoom 1 = true →
      Completes (.pierOverrun p) s fun t => t.pie[p].law = s.pie[p].law ∧ t.pie[p].blocks = s.pie[p].blocks ∧ t.pie[p].work = none ∧
      t.pie[p].overrunRun = s.pie[p].overrunRun + 1 ∧ newEvent s t 0x2401 [p.val, 1, s.pie[p].k] = true) ∧
  (∀ (s : State) (p : StageId) (total : Nat) (w : PostWork), s.alive (.pier p) = true → s.pie[p].selftest = none →
      s.pie[p].post = some w → Completes (.postCommit p total) s fun t => t.pie[p].post = none ∧ t.pie[p].postDone = true ∧
      t.pie[p].blocks = swapPost s.pie[p].blocks w.blocks ∧ t.pie[p].law = s.pie[p].law ∧
      t.pie[p].provisional = (s.bit (Obj.PIE_CONFIG p) 1 && s.switching p)) ∧
  (∀ (s : State) (p : StageId)  (pass : Bool), s.alive (.pier p) = true → s.alive .keystone = true → s.bit (Obj.PIE_CONFIG p) 2 = true →
      Completes (.bistRoundComplete p pass) s fun t => if pass then t.pie[p].bistAt = s.now ∧
      t.isl.fenced = s.isl.fenced else .pier p ∈ t.isl.fenced) ∧
  (∀ (s : State) (p : StageId) (duration : Nat), s.alive (.pier p) = true → Inv s → s.bit (Obj.PIE_CONFIG p) 2 = true →
      s.objN (Obj.PIE_BIST_PERIOD p) * cyclesMs ≤ s.since s.pie[p].bistAt → s.hasRoom 1 = true →
      Completes (.bistLate p duration) s fun t => t.bit (Obj.PIE_STATUS p) 5 = true ∧ newEvent s t 0x240C [p.val, duration] = true) ∧
  (∀ (s : State) (p : StageId) (w : Writer), s.serves w (.pier p) = true → s.mod.mode = .ready →
      Completes (.pieSelftest p w) s fun t => (s.pie[p].work = none → t.pie[p].selftest = some s.now) ∧ (s.pie[p].work ≠ none →
      t.pie[p].selftestDue = true ∧ t.pie[p].selftest = s.pie[p].selftest)) ∧
  (∀ (s : State) (p : StageId) (inst : Nat) (w : Writer), s.serves w (.pier p) = true →
      Completes (.blockStateReset p inst w) s fun t => t.pie[p].blocks = s.pie[p].blocks.modify inst (fun b => { b with resetAtCommit := true })) ∧
  (∀ (s : State) (p : StageId) (failing : Option Nat) (at_ : Nat), s.alive (.pier p) = true → Inv s → s.pie[p].selftest = some at_ →
      480 ≤ s.since at_ → s.twn.arb = none → s.hasRoom 1 = true →
      Completes (.selftestComplete p failing) s fun t => t.pie[p].selftest = none ∧ t.bit (Obj.PIE_STATUS p) 7 = failing.isNone ∧
      (match failing with | some u => newEvent s t 0x240B [p.val, u] = true | none => t.logBuf = s.logBuf))

/-- Command sets as they arrive, triggers, calibration, heartbeats, raw override (R176, R181, R157, R163, R18, R180, R185). Words of a set are
those that the pier has committed, or they fail; without a commit word nothing is taken. A set with the next tally, a right check value,
for an owner not in its safe state, and an instant within 2^31 cycles stands in shadow with its tally; one that comes at or after its
instant is deferred. A set with a wrong check value or tally is discarded: shadow and tally stay, the sample of its pier is voided with
0x2404 and the banks before its commit stand again. A partner's set is taken likewise, its instant converted from TT. A provisional set
that the pier stages (RUNAHEAD_EN, RUN or LIMIT, a completed post phase) leaves shadow, tally and force as they are. A trigger that is due
fires once. A recalibration keeps the failing outputs and logs 0x300F for each that is new. A heartbeat is counted and reaches every
driver die. EDG_RAW_ENABLE in READY with service access turns raw override on or off, with event 0x300D where it changes; turning it off
leaves every output off. A raw word is kept where the module does not run. -/
def Obligations.SetsAndEdgeChecks : Prop :=
  (∀ (s : State) (p : StageId) (words : List Nat) (x : CmdSet), s.alive .edge = true → s.pie[p].out = some words →
      setOfWords s p false words = some x → setFault s p false (some x) = none → x.instant ≤ s.replicaOf .edge + 2147483648 →
      Completes (.commandSetArrival ⟨p, false, words⟩) s fun t => t.edg.sets[ownSets p].shadow = some x ∧
      t.edg.sets[ownSets p].tally = x.tally ∧ t.edg.sets[ownSets p].deferred = decide (x.instant ≤ s.replicaOf .edge) ∧
      t.edg.sets[ownSets p].force = s.edg.sets[ownSets p].force ∧ t.pie[p].out = none ∧ t.pie[p].overrunRun = 0) ∧
  (∀ (s : State) (p : StageId) (words sent : List Nat) (why : Nat) (b : Before), s.alive .edge = true → s.pie[p].out = some sent →
      setFault s p false (if words = sent then setOfWords s p false words else none) = some why → s.pie[p].before = some b →
      s.pie[p].selftestDue = false → s.pie[p].overrunRun + 1 < s.objN (Obj.PIE_OVERRUN_LIMIT p) → s.hasRoom 1 = true →
      Completes (.commandSetArrival ⟨p, false, words⟩) s fun t => t.edg.sets[ownSets p].tally = s.edg.sets[ownSets p].tally ∧
      t.edg.sets[ownSets p].shadow = s.edg.sets[ownSets p].shadow ∧ newEvent s t 0x2404 [p.val, why, words.getD 2 0] = true ∧
      t.pie[p].law = b.law ∧ t.pie[p].blocks = b.blocks ∧ t.pie[p].tally = (s.pie[p].tally + 255) % 256) ∧
  (∀ (s : State) (p : StageId) (words : List Nat) (x : CmdSet), s.alive .edge = true → s.pie[p].out = some words →
      setOfWords s p false words = some x → setFault s p false (some x) = none → s.replicaOf .edge + 2147483648 < x.instant →
      s.hasRoom 1 = true → Completes (.commandSetArrival ⟨p, false, words⟩) s fun t => t.edg = s.edg ∧
      t.isl.implausible = countIn s.isl.implausible .edge ∧ newEvent s t 0x300E [p.val, x.instant] = true) ∧
  (∀ (s : State) (p : StageId) (words : List Nat), s.pie[p].out = none →
      Completes (.commandSetArrival ⟨p, false, words⟩) s fun t => t = s) ∧
  (∀ (s : State) (p : StageId) (words : List Nat) (x : CmdSet), s.alive .edge = true → setOfWords s p true words = some x →
      setFault s p true (some x) = none → x.provisional = false → x.instant ≤ s.replicaOf .edge + 2147483648 →
      Completes (.commandSetArrival ⟨p, true, words⟩) s fun t => t.edg.sets[setOwner p true].shadow = some x ∧
      t.edg.sets[setOwner p true].tally = x.tally ∧ t.edg.sets[setOwner p true].force = s.edg.sets[setOwner p true].force ∧ t.pie = s.pie) ∧
  (∀ (s : State) (p : StageId) (partner : Bool) (words : List Nat) (set : CmdSet) (c : ChanId) (cs : ChanSet) (t_ : Fin 4) (pos : Int), s.alive .edge = true →
      setOfWords s p partner words = some set → set.provisional = true → s.edg.sets[setOwner p partner].safe = false →
      (partner = true ∨ stagesAhead s p = true) → ownedChans s (setOwner p partner).val = [c] → set.chans = [cs] →
      trigPos (cs.triggers.getD t_ 0) = some pos → earlyPos s p pos = true → s.edg.ch[c].arms = [] →
      Completes (.provisionalSetArrival ⟨p, partner, words⟩) s fun t => (⟨set.k, t_, (set.instant : Int) * 32 + pos, true, none, false⟩ : Arm) ∈ t.edg.ch[c].arms ∧
      t.edg.sets = s.edg.sets) ∧
  (∀ (s : State) (p : StageId) (words : List Nat), stagesAhead s p = false →
      Completes (.provisionalSetArrival ⟨p, false, words⟩) s fun t => t = s) ∧
  (∀ (s : State) (ch : ChanId) (t_ : Fin 4) (a : Arm), s.alive .edge = true → s.edg.ch[ch].arms = [a] → a.trig = t_.val → a.fired = none →
      a.at_ ≤ now32 s → Completes (.triggerFire ch t_) s fun t => t.edg.ch[ch].arms.map Arm.fired = [some (now32 s)]) ∧
  (∀ (s : State) (failing : List (Fin 48)), s.alive .edge = true → cyclesMs ≤ s.since s.edg.recalAt → s.hasRoom 48 = true →
      failing.Nodup → Completes (.delayLineRecal failing) s fun t => t.edg.calFault = failing ∧ ∀ o ∈ failing, o ∉ s.edg.calFault →
      newEvent s t 0x300F [outputCode o] = true) ∧
  (∀ (s : State), s.alive .edge = true → 256 ≤ s.since s.edg.beatAt →
      Completes (.edgeHeartbeat) s fun t => t.edg.heartbeats = s.edg.heartbeats + 1 ∧ t.gdv.heartbeat = .replicate 6 s.now ∧
      t.edg.beatAt = s.now) ∧
  (∀ (s : State) (on : Bool) (w : Writer), s.serves w .edge = true → serviceOk s w = true → s.mod.mode = .ready → s.edg.raw ≠ on →
      s.hasRoom 1 = true → Completes (.rawOverrideEnable on w) s fun t => t.edg.raw = on ∧ (on = false →
      ∀ c : ChanId, t.edg.ch[c].high = false ∧ t.edg.ch[c].low = false) ∧ newEvent s t 0x300D [boolNat on] = true) ∧
  (∀ (s : State) (low : Bool) (mask : Nat) (w : Writer), s.serves w .edge = true → s.mod.mode.running = false → mask < 16777216 →
      Completes (.rawOutputWrite low mask w) s fun t => (if low then t.edg.rawLow else t.edg.rawHigh) = mask ∧ (s.edg.raw = false →
      t.edg.ch = s.edg.ch))

/-- Timebases, sample triggers, reload points (R172, R173, R174, R175, R176). A timebase's counter starts so that its first zero point falls
at its start instant. A sample trigger is counted and gives every living pier of the timebase, once per update period, its sample count
and sample instant. A zero point falls at the scheduled instant and is kept as the last zero; the due commands leave the queue; before a
point of the schedule is due nothing happens. A period change or phase shift the timebase can take, with no stage sampling on it, waits
for its zero point, and is turned away where another command of the same instant comes first (R21); a late one is counted, logged with
0x3002 and waits for the next. A static control word waits for the reload point. At the reload point of all an owner's channels a ripe
shadowed set comes into force. -/
def Obligations.TimebasesAndReloads : Prop :=
  (∀ (s : State) (tb : TbId) (z : Nat), s.alive .edge = true → tbStartAt s tb = some z → z ≤ s.now → s.edg.tb[tb].running = false →
      Completes (.timebaseStart tb) s fun t => t.edg.tb[tb].running = true ∧ t.edg.tb[tb].lastZero = z - s.objN (Obj.EDG_TB_PERIOD tb) ∧
      t.edg.tb[tb].triggers = 0) ∧
  (∀ (s : State) (tb : TbId) (n : StageId), s.alive .edge = true → s.edg.tb[tb].running = true → s.twn.mode = 0 →
      s.objN (Obj.PIE_TIMEBASE n) = tb.val → s.stype n ≠ .none → 0 < sampleInterval s tb → 0 < s.tu n / sampleInterval s tb →
      s.edg.tb[tb].triggers % (s.tu n / sampleInterval s tb) = 0 → s.fenced (.pier n) = false →
      Completes (.sampleTrigger tb) s fun t => t.edg.tb[tb].triggers = s.edg.tb[tb].triggers + 1 ∧ t.edg.tb[tb].trigFor = s.now + 6 ∧
      t.pie[n].k = s.edg.tb[tb].triggers / (s.tu n / sampleInterval s tb) ∧ t.pie[n].t0 = s.now + 6) ∧
  (∀ (s : State) (tb : TbId) (peak : Bool), s.alive .edge = true → pointDue s tb peak = true →
      Completes (.reloadPoint tb peak) s fun t => t.edg.tb[tb].lastZero = (if peak then s.edg.tb[tb].lastZero else nextZero s tb) ∧
      t.edg.tb[tb].peaked = peak ∧
      t.edg.tb[tb].cmds = (if peak then s.edg.tb[tb].cmds else s.edg.tb[tb].cmds.filter fun c => !decide (c.inst ≤ nextZero s tb))) ∧
  (∀ (s : State) (tb : TbId) (peak : Bool), pointDue s tb peak = false → Completes (.reloadPoint tb peak) s fun t => t = s) ∧
  (∀ (s : State) (tb : TbId) (o : Fin 8) (f : CmdSet) (c : ChanId), s.alive .edge = true → pointDue s tb false = true →
      s.commitWrites = [] → s.edg.tb[tb].cmds = [] → s.edg.sets[o].shadow = some f → f.instant ≤ s.replicaOf .edge →
      ownedChans s o.val ≠ [] → (∀ c ∈ ownedChans s o.val, chanTb s c = tb ∧ reloadsAt s c false = true) →
      Completes (.reloadPoint tb false) s fun t => t.edg.sets[o].force = some f ∧ t.edg.sets[o].shadow = none ∧
      t.edg.sets[o].start = s.now) ∧
  (∀ (s : State) (tb : TbId) (period inst : Nat) (w : Writer), s.serves w .edge = true → tbBusy s tb = false →
      tbValueBad s tb false period = 0 → (inst = 0 ∨ (s.edg.tb[tb].lastZero < inst ∧ inst ≤ s.replicaOf .edge + 2147483648)) →
      s.edg.tb[tb].cmds.any (tbMeets inst (writerSource w)) = false →
      Completes (.tbPeriodChange tb period inst w) s fun t => t.edg.tb[tb].cmds = s.edg.tb[tb].cmds ++ [⟨inst, false, period, (writerSource w).1, (writerSource w).2⟩] ∧
      t.objN (Obj.EDG_TB_PERIOD tb) = s.objN (Obj.EDG_TB_PERIOD tb)) ∧
  (∀ (s : State) (tb : TbId) (delta : Int) (inst : Nat) (w : Writer), s.serves w .edge = true → tbBusy s tb = false →
      tbValueBad s tb true delta = 0 → s.edg.tb[tb].running = true → inst ≠ 0 → inst ≤ s.edg.tb[tb].lastZero →
      inst ≤ s.replicaOf .edge + 2147483648 → s.edg.tb[tb].cmds.any (tbMeets inst (writerSource w)) = false → s.hasRoom 1 = true →
      Completes (.tbPhaseShift tb delta inst w) s fun t => t.edg.tb[tb].cmds = s.edg.tb[tb].cmds ++ [⟨0, true, delta, (writerSource w).1, (writerSource w).2⟩] ∧
      newEvent s t 0x3002 [tb.val, (s.now : Rat) - inst] = true) ∧
  (∀ (s : State) (tb : TbId) (period inst : Nat) (w : Writer) (c : TbCmd), s.serves w .edge = true → c ∈ s.edg.tb[tb].cmds →
      tbMeets inst (writerSource w) c = true → comesFirst (c.src, c.channel) (writerSource w) = true →
      Completes (.tbPeriodChange tb period inst w) s fun t => t.edg.tb[tb].cmds = s.edg.tb[tb].cmds) ∧
  (∀ (s : State) (ch : ChanId) (ctrl : Nat) (w : Writer), s.serves w .edge = true → Inv s → ctrl < 64 →
      Completes (.staticCtrlWrite ch ctrl w) s fun t => t.objN (Obj.EDG_CH_STATIC_CTRL ch) = ctrl ∧
      t.edg.ch[ch].staticNext = some ⟨(List.range 4).map fun j => s.objN (Obj.EDG_CH_STATIC ch j), [], ctrl⟩ ∧
      t.edg.ch[ch].static = s.edg.ch[ch].static)

/-- Trip sources and groups (R186, R187, R188, R189, R190). A source whose condition has held for its filter time becomes active and, where it
is not suppressed, trips every enabled group that holds it, unless its blanking window is open for it; the channels it holds whole are off
unless an active short stands. A source whose condition has ceased for its filter time becomes inactive. A group whose count reaches N
latches with event 0x3004 and takes its stages to SAFE. A period end clears the trip of the period; M free periods take one off the count.
CLEAR releases a group without active sources with event 0x3006, and is refused with 0x3005 otherwise. -/
def Obligations.TripGroups : Prop :=
  (∀ (s : State) (src : SrcId) (r : Reading), s.alive .edge = true → srcHolds s src false r.value = true → srcSettled s src r = true →
      srcSuppressed s src = false → src ∉ s.edg.active → Completes (.tripSourceActive ⟨src, r⟩) s fun t => src ∈ t.edg.active ∧
      ∀ g : GroupId, grpEnabled s g = true → groupHolds s g src.val = true → (windowOpen s g && grpBlanks s g src) = false →
      t.edg.grp[g].tripped = true ∧ (holdKind s g src = 0 → ∀ c ∈ holdChans s g src, shorted s c = false → t.edg.ch[c].high = false ∧
      t.edg.ch[c].low = false)) ∧
  (∀ (s : State) (src : SrcId) (r : Reading), s.alive .edge = true → srcHolds s src true r.value = false → srcSettled s src r = true →
      Completes (.tripSourceInactive ⟨src, r⟩) s fun t => src ∉ t.edg.active ∧ ∀ x ∈ s.edg.active, x ≠ src → x ∈ t.edg.active) ∧
  (∀ (s : State) (g : GroupId), s.alive .edge = true → s.mod.mode ≠ .adit → s.edg.grp[g].latched = false → 0 < s.edg.grp[g].c →
      grpN s g ≤ s.edg.grp[g].c → s.hasRoom 1 = true → Completes (.tripGroupLatch g) s fun t => t.edg.grp[g].latched = true ∧
      (∀ n ∈ grpStages s g, t.stg[n].st = .safe) ∧
      newEvent s t 0x3004 [g.val, s.edg.grp[g].lastSrc, maskOf ((grpStages s g).map Fin.val)] = true) ∧
  (∀ (s : State) (g : GroupId), s.alive .edge = true → s.edg.tb[grpTb s g].running = true →
      s.edg.grp[g].periodAt < s.edg.tb[grpTb s g].lastZero → s.commitWrites = [] → grpActive s g = [] →
      Completes (.tripPeriodEnd g) s fun t => t.edg.grp[g].tripped = false ∧ t.edg.grp[g].c = s.edg.grp[g].c ∧
      t.edg.grp[g].f = (if grpEnabled s g then (if s.edg.grp[g].latched || s.edg.grp[g].tripped then 0 else s.edg.grp[g].f + 1) else s.edg.grp[g].f)) ∧
  (∀ (s : State) (g : GroupId), s.alive .edge = true → grpEnabled s g = true → s.edg.grp[g].latched = false → grpM s g ≤ s.edg.grp[g].f →
      Completes (.tripFreeRunDecrement g) s fun t => t.edg.grp[g].f = 0 ∧ t.edg.grp[g].c = s.edg.grp[g].c - 1) ∧
  (∀ (s : State) (g : GroupId) (w : Writer), s.serves w .edge = true → grpActive s g = [] → s.hasRoom 1 = true →
      Completes (.tripGroupClear g w) s fun t => t.edg.grp[g].latched = false ∧ t.edg.grp[g].c = 0 ∧ newEvent s t 0x3006 [g.val] = true) ∧
  (∀ (s : State) (g : GroupId) (w : Writer), s.serves w .edge = true → grpActive s g ≠ [] → s.hasRoom 1 = true →
      Completes (.tripGroupClear g w) s fun t => t.edg.grp[g].latched = s.edg.grp[g].latched ∧ t.edg.grp[g].rejected = true ∧
      newEvent s t 0x3005 [g.val, maskOf ((grpActive s g).map Fin.val)] = true)

/-- Acknowledges, head faults, clearing a port (R217, R218, R219). On a port in use of a module that may drive: an acknowledge of 150 to 400
ns within its window answers the oldest turn-on; a light of 400 ns to 2 microseconds, one that comes too late, or none within its window,
is a missing acknowledge: that turn-on is done with, the port's fault and its trip source stand, event 0x3016 is logged, and its stage
goes to SAFE; light with no turn-on waiting is shown as stray; any other length is none, and a module that may not drive, or a port not in
use, takes nothing. Light held for 2.02 microseconds is a head fault: counted, its source active, its stage in SAFE; the code that
follows, or 16 where its timing is broken, is kept and logged with 0x3015 once a dark interval of 5 microseconds ends it. CLEAR of a dark
port whose stage rests ends its fault. -/
def Obligations.FibrePorts : Prop :=
  (∀ (s : State) (p : PortId) (ns t0 : Nat) (rest : List Nat), s.alive .edge = true → portOn s p = true → grantNow s = true → 150 ≤ ns →
      ns ≤ 400 → (settlePort p s).gdv.port[p].pendingOn = t0 :: rest → now32 s - ns32 ns ≤ t0 + 13107 →
      Completes (.ackPulseReceived p ns) s fun t => t.gdv.port[p].pendingOn = rest ∧
      t.gdv.port[p].fault = (settlePort p s).gdv.port[p].fault ∧ t.stg = s.stg) ∧
  (∀ (s : State) (p : PortId) (ns t0 : Nat) (rest : List Nat), s.alive .edge = true → s.mod.mode ≠ .adit → portOn s p = true →
      grantNow s = true → (settlePort p s).gdv.port[p].pendingOn = t0 :: rest → ((400 < ns ∧
      ns < 2000) ∨ t0 + 13107 < now32 s - ns32 ns) → s.hasRoom 1 = true →
      Completes (.ackPulseReceived p ns) s fun t => t.gdv.port[p].pendingOn = rest ∧ t.gdv.port[p].fault = true ∧
      portSrc p ∈ t.edg.active ∧ (∀ n, portStage s p = some n → t.stg[n].st = .safe) ∧
      newEvent s t 0x3016 [p.val + 1, (t0 / 32 : Nat)] = true) ∧
  (∀ (s : State) (p : PortId) (ns : Nat), s.alive .edge = true → portOn s p = true → grantNow s = true →
      (settlePort p s).gdv.port[p].pendingOn = [] → Completes (.ackPulseReceived p ns) s fun t => t.bit (Obj.GDV_PORT_STATUS p) 4 = true ∧
      t.gdv = (settlePort p s).gdv ∧ t.stg = s.stg) ∧
  (∀ (s : State) (p : PortId) (ns t0 : Nat) (rest : List Nat), s.alive .edge = true → portOn s p = true → grantNow s = true →
      (settlePort p s).gdv.port[p].pendingOn = t0 :: rest → now32 s - ns32 ns ≤ t0 + 13107 → (ns < 150 ∨ 2000 ≤ ns) →
      Completes (.ackPulseReceived p ns) s fun t => t = settlePort p s) ∧
  (∀ (s : State) (p : PortId) (ns : Nat), (portOn s p = false ∨ grantNow s = false) → Completes (.ackPulseReceived p ns) s fun t => t = s) ∧
  (∀ (s : State) (p : PortId) (t0 : Nat) (rest : List Nat), s.alive .edge = true → s.mod.mode ≠ .adit → portOn s p = true →
      grantNow s = true → (settlePort p s).gdv.port[p].pendingOn = t0 :: rest → t0 + ns32 1020 < now32 s → s.hasRoom 1 = true →
      Completes (.ackWindowExpiry p) s fun t => t.gdv.port[p].pendingOn = rest ∧ t.gdv.port[p].fault = true ∧ portSrc p ∈ t.edg.active ∧
      (∀ n, portStage s p = some n → t.stg[n].st = .safe) ∧ newEvent s t 0x3016 [p.val + 1, (t0 / 32 : Nat)] = true) ∧
  (∀ (s : State) (p : PortId), s.alive .edge = true → portOn s p = true → grantNow s = true →
      ((settlePort p s).gdv.port[p].pendingOn.head?.all fun t0 => decide (now32 s ≤ t0 + ns32 1020)) = true →
      Completes (.ackWindowExpiry p) s fun t => t = settlePort p s) ∧
  (∀ (s : State) (p : PortId) (held : Nat) (n : StageId), 2020 ≤ held → s.alive .edge = true → s.mod.mode ≠ .adit → portOn s p = true →
      s.bit (Obj.GDV_PORT_CFG p) 1 = false → portStage s p = some n → s.hasRoom 1 = true →
      Completes (.headFaultDetect ⟨p, held⟩) s fun t => t.gdv.port[p].fault = true ∧ t.gdv.port[p].codeDue = false ∧
      portSrc p ∈ t.edg.active ∧ t.stg[n].st = .safe ∧ newEvent s t 0x3015 [p.val + 1, 16] = true) ∧
  (∀ (s : State) (p : PortId) (code : HeadCode), s.alive .edge = true → Inv s → s.gdv.port[p].codeDue = true → 5000 ≤ code.tail →
      s.hasRoom 1 = true → Completes (.headCodeReceived p code) s fun t => t.gdv.port[p].codeDue = false ∧
      t.objN (Obj.GDV_PORT_LAST_CODE p) = (if 2000 ≤ code.dark ∧ pitchOk code.rises = true ∧ 1 ≤ code.rises.length ∧
      code.rises.length ≤ 15 then code.rises.length else 16) ∧ newEvent s t 0x3015 [p.val + 1, headCode code] = true) ∧
  (∀ (s : State) (p : PortId) (code : HeadCode), (s.gdv.port[p].codeDue = false ∨ code.tail < 5000) →
      Completes (.headCodeReceived p code) s fun t => t = s) ∧
  (∀ (s : State) (p : PortId) (w : Writer), s.serves w .edge = true → restingStage s (portStage s p) = true → s.gdv.port[p].fault = true →
      s.hasRoom 1 = true → Completes (.clearPort p true w) s fun t => t.gdv.port[p].fault = false ∧ portSrc p ∉ t.edg.active ∧
      newEvent s t 0x3018 [p.val + 1] = true) ∧
  (∀ (s : State) (p : PortId) (w : Writer), s.serves w .edge = true → Completes (.clearPort p false w) s fun t => t.gdv = s.gdv)

/-- Safe pattern, rail lock-out, desaturation, clamp (R202, R204, R205, R206, R207, R209). A driver primary without heartbeats or pulse enable
applies its pattern with event 0x3017; with heartbeats, pulse enable and a holder it leaves it. A rail below 19.0 V for 2 microseconds
takes every stage that uses an integrated channel to SAFE with 0x3010, with every gate off and every GI output at 0 V; 1 ms above 20.5 V
ends it, logged with its duration, and GI is +15 V again where the primary lives and GRANT stands. Desaturation of a channel whose
comparator is armed starts the soft turn-off, is counted, and takes the owning stage to SAFE with 0x3012; after GDV_STO_TIME the second
level follows; the Miller clamp engages on a gate that is off and latches a soft-turned-off one. CLEAR releases the latch of a channel
whose stage rests. -/
def Obligations.GateDriveProtection : Prop :=
  (∀ (s : State) (g : GdId), s.alive (.gdPrimary g) = true → s.gdv.pattern[g] = false →
      (heartbeatLost s g = true ∨ pulseLapsed s g = true) → s.hasRoom 1 = true →
      Completes (.safePatternApply g) s fun t => t.gdv.pattern[g] = true ∧
      newEvent s t 0x3017 [g.val + 1, boolNat (!heartbeatLost s g)] = true) ∧
  (∀ (s : State) (g : GdId), s.alive (.gdPrimary g) = true → heartbeatLost s g = false → s.isl.pulseEnable[g] = true →
      s.gdv.noHolder[g] = false → Completes (.safePatternLeave g) s fun t => t.gdv.pattern[g] = false) ∧
  (∀ (s : State) (volts : Rat) (held : Nat), s.mod.powered = true → s.mod.mode ≠ .halt → s.mod.mode ≠ .adit → s.gdv.uvlo = false →
      volts < 19 → 2000 ≤ held → s.hasRoom 1 = true → Completes (.gdUvloEntry ⟨volts, held⟩) s fun t => t.gdv.uvlo = true ∧
      t.gdv.uvloAt = s.now ∧ (∀ n ∈ driverStages s, t.stg[n].st = .safe) ∧ (∀ d : DrvId, gateIsolate t d = 0 ∧ gateOn t d = false) ∧
      newEvent s t 0x3010 [volts, maskOf ((driverStages s).map Fin.val)] = true) ∧
  (∀ (s : State), s.mod.powered = true → s.gdv.uvlo = true → cyclesMs ≤ s.since s.gdv.uvloAt → s.hasRoom 1 = true →
      Completes (.gdUvloExit) s fun t => t.gdv.uvlo = false ∧ (∀ d : DrvId, s.fenced (.gdPrimary (dieOf d)) = false → grantNow s = true →
      gateIsolate t d = 15) ∧ newEvent s t 0x3011 [(s.since s.gdv.uvloAt : Nat)] = true) ∧
  (∀ (s : State) (d : DrvId) (volts : Rat) (held : Nat) (n : StageId), s.alive (.gdSecondary d) = true → s.mod.mode ≠ .adit →
      s.bit (Obj.GDV_CH_CFG d) 1 = true → s.bit (Obj.GDV_CH_STATUS d) 1 = false → desatSeen s d volts held = true →
      drvStage s d = some n → s.hasRoom 1 = true → Completes (.desatDetect ⟨d, ⟨volts, held⟩⟩) s fun t => t.gdv.drv[d].gate = .soft ∧
      t.gdv.drv[d].since = s.now ∧ t.stg[n].st = .safe ∧ newEvent s t 0x3012 [d.val + 1, s.now] = true) ∧
  (∀ (s : State) (d : DrvId), s.alive (.gdSecondary d) = true → s.gdv.drv[d].gate = .soft →
      s.gdv.drv[d].stoTime * 4096 ≤ s.since s.gdv.drv[d].since * 10000 →
      Completes (.softTurnoffSecondLevel d) s fun t => t.gdv.drv[d].gate = .second) ∧
  (∀ (s : State) (d : DrvId) (volts : Rat), s.alive (.gdSecondary d) = true → s.bit (Obj.GDV_CH_CFG d) 0 = true → grantNow s = true →
      (s.gdv.drv[d].gate = .second ∨ s.gdv.drv[d].gate = .latched ∨ (s.gdv.drv[d].gate = .follow ∧ gateOn s d = false)) →
      volts < offLevel s d + 2 → Completes (.millerClampEngage ⟨d, volts⟩) s fun t => t.bit (Obj.GDV_CH_STATUS d) 3 = true ∧
      t.gdv.drv[d].gate = (if s.gdv.drv[d].gate = .second then .latched else s.gdv.drv[d].gate)) ∧
  (∀ (s : State) (d : DrvId) (w : Writer), s.serves w (.gdPrimary (dieOf d)) = true → restingStage s (drvStage s d) = true →
      s.bit (Obj.GDV_CH_STATUS d) 1 = true → s.hasRoom 1 = true → Completes (.clearDesat d w) s fun t => t.gdv.drv[d].gate = .follow ∧
      desatSrc d ∉ t.edg.active ∧ newEvent s t 0x3018 [d.val + 1] = true) ∧
  (∀ (s : State) (n : StageId) (w : Writer), s.serves w .keystone = true → serviceOk s w = true → s.mod.mode = .ready →
      s.edg.raw = false → linkForDiag s n = true → Completes (.gdDiagCmd n w) s fun t => t.stg[n].diagSince = some s.now ∧
      t.stg[n].diagDeferred = s.stg[n].diagDeferred)

/-- Conversions, timers, self-calibration; filter chains and their banks (R228, R229, R230, R231, R238, R247, R249, R250, R251, R253). A
conversion that began on the grid keeps its code and quality with the instant 64 cycles before, newest first, at most eight; one of a
triggered channel delivers its result stamped with its start and makes room for the one held. An event of a timer starts the conversions
bound to it, once. Self-calibration in READY with service access starts; 18 ms later it ends with event 0x4002 and, in SURVEY, marks
calibration done; where every channel passes each has its measured offset and no drift. An output of an enabled chain takes the samples it
is due, is stamped with the last one's instant less the chain's delay, and one unsettled output fewer remains; without enough samples
there is none. BANK_SWITCH waits with its instant where none is pending or fading, a late one as immediate, and is refused otherwise. When
the fade count has reached its length the other bank is active. -/
def Obligations.ConversionsAndChains : Prop :=
  (∀ (s : State) (c : AdcId) (raw : Int), s.alive .sample = true → startType s c = 0 → onGrid s c (s.now - 64) = true →
      (s.acq.adc[c].hist.head?.map (·.1)) ≠ some (s.now - 64) → s.commitWrites = [] →
      Completes (.conversionComplete c raw) s fun t => t.acq.adc[c].code = (convCode c raw (s.now - 64) s).1 ∧
      t.acq.adc[c].hist = ((s.now - 64, convCode c raw (s.now - 64) s) :: s.acq.adc[c].hist).take 8 ∧
      (t.acq.adc[c].result.map fun r => r.stamp) = some (s.now - 64)) ∧
  (∀ (s : State) (c : AdcId) (raw : Int) (cv : ConvSt), s.alive .sample = true → ((startType s c = 2 ∨ startType s c = 3)) →
      s.acq.adc[c].conv = some cv → cv.start + 64 ≤ s.now →
      Completes (.conversionComplete c raw) s fun t => t.acq.adc[c].conv = s.acq.adc[c].held.map (fun h => { h with start := max h.start (cv.start + 64) }) ∧
      t.acq.adc[c].held = none ∧ (t.acq.adc[c].result.map fun r => r.stamp) = some cv.start) ∧
  (∀ (s : State) (k : Fin 4) (c : AdcId) (e : Nat), s.alive .sample = true → timerEvent s k = some e → s.acq.timer[k] ≠ some e →
      startedBy s 3 k = [c] → s.acq.adc[c].conv = none →
      Completes (.acqTimerEvent k) s fun t => t.acq.adc[c].conv = some ⟨e + s.objN (Obj.ACQ_CH_DELAY c), false⟩ ∧ t.acq.timer[k] = some e) ∧
  (∀ (s : State) (w : Writer), s.serves w .sample = true → serviceOk s w = true → s.mod.mode = .ready → s.acq.selfCal = none →
      Completes (.acqSelfCal w) s fun t => t.acq.selfCal = some s.now) ∧
  (∀ (s : State) (readings : Vector DacReading 24) (at_ : Nat), s.alive .sample = true → s.acq.selfCal = some at_ →
      18 * cyclesMs ≤ s.since at_ → (∀ c : AdcId, calFails (calFactors s c readings[c]) = false) → s.hasRoom 1 = true →
      Completes (.selfCalComplete readings) s fun t => t.acq.selfCal = none ∧ (s.mod.mode = .survey → t.mod.calDone = true) ∧
      (∀ c : AdcId, t.acq.adc[c].drift = 0 ∧ t.acq.adc[c].offset = ((calFactors s c readings[c]).offset : Rat)) ∧
      newEvent s t 0x4002 [msOf (s.since at_), 0] = true) ∧
  (∀ (s : State) (c : ChainId) (bits : List Bool) (x : Int × Nat × Nat) (xs : List (Int × Nat × Nat)), s.alive .sample = true →
      chainOn s c = true → s.acq.chain[c].checkFailed = false → s.commitWrites = [] → nextInputs s c bits = x :: xs →
      Completes (.chainOutput c bits) s fun t => t.acq.chain[c].lastStamp = ((x :: xs).getLastD x).2.2 - chainDelay s c ∧
      t.acq.chain[c].queue = s.acq.chain[c].queue.drop (xs.length + 1) ∧ t.acq.chain[c].unsettled = s.acq.chain[c].unsettled - 1 ∧
      t.acq.chain[c].late = false ∧ (t.acq.chain[c].outs.head?.map fun r => r.stamp) = some t.acq.chain[c].lastStamp ∧
      (s.acq.chain[c].switch_ = none → s.acq.chain[c].fade = none → t.acq.chain[c].active = s.acq.chain[c].active ∧
      t.acq.chain[c].fade = none)) ∧
  (∀ (s : State) (c : ChainId) (bits : List Bool), chainOn s c = true → s.acq.chain[c].checkFailed = false → nextInputs s c bits = [] →
      Completes (.chainOutput c bits) s fun t => t = s) ∧
  (∀ (s : State) (c : ChainId) (inst : Nat) (w : Writer), s.serves w .sample = true → s.acq.chain[c].switch_ = none →
      s.acq.chain[c].fade = none → inst ≤ s.replicaOf .sample + 2147483648 →
      Completes (.bankSwitch c inst w) s fun t => t.acq.chain[c].switch_ = some (if inst ≠ 0 ∧
      inst ≤ s.acq.chain[c].lastStamp then 0 else inst)) ∧
  (∀ (s : State) (c : ChainId) (inst : Nat) (w : Writer), s.serves w .sample = true →
      (s.acq.chain[c].switch_ ≠ none ∨ s.acq.chain[c].fade ≠ none) → Completes (.bankSwitch c inst w) s fun t => t.acq = s.acq) ∧
  (∀ (s : State) (c : ChainId) (k : Nat), s.alive .sample = true → s.acq.chain[c].fade = some k → s.objN (Obj.ACQ_FC_FADE c) ≤ k →
      Completes (.bankFadeEnd c) s fun t => t.acq.chain[c].fade = none ∧ t.acq.chain[c].active = !s.acq.chain[c].active)

/-- Diagnosis, restore, tracking, substitution, sigma-delta faults (R240, R241, R243, R244, R246). An accepted diagnosis occupies the path
from now; RESTORE of a substituted channel in READY with service access diagnoses it with its requester's answer due; after 3 ms a
deviation above 0.2 per cent fails with event 0x4004 and asks for substitution, and a good one after RESTORE ends the substitution with
0x4006. A tracking sample in three idle slots moves drift by 1/256 of its error. At a conversion boundary a waiting substitution comes
into force with event 0x4005 and holds the comparator sources inactive. A sigma-delta input without clock for its time, or with one datum
for 128 bits, is faulty, with 0x4007, until 256 good bits have come. -/
def Obligations.DiagnosisAndSubstitution : Prop :=
  (∀ (s : State) (c : AdcId) (w : Writer), s.serves w .sample = true → diagAccepted s c w = true →
      Completes (.acqDiag c w) s fun t => t.acq.diag = some (c, s.now, none)) ∧
  (∀ (s : State) (c : AdcId) (w : Writer), s.serves w .sample = true → restoreAccepted s c w = true →
      Completes (.acqRestore c w) s fun t => t.acq.diag = some (c, s.now, some w) ∧ t.acq.adc = s.acq.adc) ∧
  (∀ (s : State) (r : DacReading) (c : AdcId) (at_ : Nat), s.alive .sample = true → s.acq.diag = some (c, at_, none) →
      3 * cyclesMs ≤ s.since at_ → mkRat 2 10 < diagDeviation s c r → s.hasRoom 1 = true →
      Completes (.acqDiagComplete r) s fun t => t.acq.diag = none ∧ (hasSubstitute s c = true → s.acq.adc[c].subst = false →
      t.acq.adc[c].substCause = some 2) ∧ newEvent s t 0x4004 [c.val + 1, diagDeviation s c r] = true) ∧
  (∀ (s : State) (r : DacReading) (c : AdcId) (at_ : Nat) (w : Writer), s.alive .sample = true → s.acq.diag = some (c, at_, some w) →
      3 * cyclesMs ≤ s.since at_ → diagDeviation s c r ≤ mkRat 2 10 → s.hasRoom 1 = true →
      Completes (.acqDiagComplete r) s fun t => t.acq.diag = none ∧ t.acq.adc[c].subst = false ∧ newEvent s t 0x4006 [c.val + 1] = true) ∧
  (∀ (s : State) (c : AdcId) (m : Rat), s.alive .sample = true → s.bit (Obj.ACQ_CH_CFG c) 6 = true → startType s c ≠ 0 →
      readBy s c.val = false → dacBusy s = false → idleSlots s c = true →
      Completes (.trackingSample c m) s fun t => t.acq.adc[c].drift = r32 (s.acq.adc[c].drift + (m - s.acq.adc[c].drift) / 256) ∧
      t.acq.adc[c].trackAt = s.now) ∧
  (∀ (s : State) (c : AdcId) (cause : Nat), s.alive .sample = true → atBoundary s c = true → s.acq.adc[c].substCause = some cause →
      s.hasRoom 1 = true → Completes (.substitutionApply c) s fun t => t.acq.adc[c].subst = true ∧ t.acq.adc[c].substCause = none ∧
      (∀ x ∈ t.edg.active, x.val ≠ 8 + 2 * c.val ∧ x.val ≠ 9 + 2 * c.val) ∧ newEvent s t 0x4005 [c.val + 1, substKind s c, cause] = true) ∧
  (∀ (s : State) (k : SdId) (quiet same : Nat), s.alive .sample = true → s.bit (Obj.ACQ_SD_CFG k) 0 = true → s.acq.sdFault[k] = false →
      (((sdQuiet s k).any fun q => decide (q ≤ (quiet : Rat))) = true ∨ 128 ≤ same) → s.hasRoom 1 = true →
      Completes (.sdFault k ⟨quiet, same⟩) s fun t => t.acq.sdFault[k] = true ∧
      newEvent s t 0x4007 [k.val + 1, boolNat (decide (128 ≤ same))] = true) ∧
  (∀ (s : State) (k : SdId) (good : Nat), s.alive .sample = true → s.acq.sdFault[k] = true → 256 ≤ good →
      Completes (.sdFaultEnd ⟨k, good⟩) s fun t => t.acq.sdFault[k] = false ∧ ∀ j : SdId, j ≠ k → t.acq.sdFault[j] = s.acq.sdFault[j])

/-- Arming, streams, reading a gallery (R264, R265, R267, R268, R269). TRG_EN arms a trigger whose mask is not 0 and is refused for a mask of
0. After the hold-off's records a re-arming trigger is armed again. STREAM_EN within 600 Mb/s starts a stream at sequence 0 with an empty
datagram; beyond, it is refused with 0x0800 0020 and logged with 0x2503. A datagram whose first record is 1 ms old is sent on a port that
is up, with the next sequence number, and stays open on one that is not. GAL_READ_K selects its record and a port's read is answered with
the record. -/
def Obligations.GalleryTriggersAndStreams : Prop :=
  (∀ (s : State) (p : StageId), s.alive (.pier p) = true → s.gal[p].holdoff = some 0 →
      Completes (.triggerHoldoffEnd p) s fun t => t.gal[p].armed = true ∧ t.gal[p].ready = false ∧ t.gal[p].holdoff = none) ∧
  (∀ (s : State) (p : StageId) (w : Writer), s.serves w (.pier p) = true → s.objN (Obj.GAL_TRG_MASK p) ≠ 0 →
      Completes (.triggerArm p w) s fun t => t.gal[p].armed = true ∧ t.gal[p].ready = false ∧ t.gal[p].holdoff = none) ∧
  (∀ (s : State) (p : StageId) (w : Writer), s.serves w (.pier p) = true → s.objN (Obj.GAL_TRG_MASK p) = 0 →
      Completes (.triggerArm p w) s fun t => t.gal = s.gal) ∧
  (∀ (s : State) (p : StageId) (w : Writer), s.serves w (.pier p) = true →
      portRate s p (s.objN (Obj.GAL_DEST_PORT p)) (galNodes s p).length (galDivider s p) ≤ 600000000 →
      Completes (.streamEnable p w) s fun t => galStream t p = true ∧ t.gal[p].seq = 0 ∧ t.gal[p].dropped = 0 ∧ t.gal[p].datagram = []) ∧
  (∀ (s : State) (p : StageId) (w : Writer), s.serves w (.pier p) = true →
      600000000 < portRate s p (s.objN (Obj.GAL_DEST_PORT p)) (galNodes s p).length (galDivider s p) → s.hasRoom 1 = true →
      Completes (.streamEnable p w) s fun t => t.gal = s.gal ∧
      newEvent s t 0x2503 [p.val, s.objN (Obj.GAL_DEST_PORT p), portRate s p (s.objN (Obj.GAL_DEST_PORT p)) (galNodes s p).length (galDivider s p) / 1000000] = true) ∧
  (∀ (s : State) (p : StageId), s.alive (.pier p) = true → s.gal[p].datagram ≠ [] → cyclesMs ≤ s.since s.gal[p].openedAt →
      portUp s (s.objN (Obj.GAL_DEST_PORT p)) = true → Completes (.datagramAgeTimeout p) s fun t => t.gal[p].datagram = [] ∧
      t.gal[p].seq = s.gal[p].seq + 1 ∧ t.tx.length = s.tx.length + 1) ∧
  (∀ (s : State) (p : StageId), portUp s (s.objN (Obj.GAL_DEST_PORT p)) = false → Completes (.datagramAgeTimeout p) s fun t => t = s) ∧
  (∀ (s : State) (p : StageId) (k : Nat) (w : Writer), s.serves w (.pier p) = true →
      Completes (.galleryRead p k w) s fun t => t.gal[p].readK = some k ∧ t.gal[p].ring = s.gal[p].ring) ∧
  (∀ (s : State) (p : StageId) (k c se : Nat) (r : GalRec), s.serves (.port c se) (.pier p) = true → galFind s p k = some r →
      Completes (.galleryRead p k (.port c se)) s fun t => (⟨c, 2, ((Obj.GAL_READ_DATA p :: recordWords r).map Int.ofNat)⟩ : TxFrame) ∈ t.tx)

/-- What the protocol sends (R291, R292, R293, Table 12.5). As master on a domain that is up the module sends Syncs carrying the base and
Announces of class 248 and source 0xA0 with its priorities; as a slave, or in peer-to-peer mode, it sends delay requests; each at its
interval. A delay request to a master is answered, a completed measurement of the configured mechanism is stored. A PTP event frame that
passes the switch with the transparent clock on carries the correction; another one passes unchanged. A peer delay request in peer-to-peer
mode is answered by the switch. -/
def Obligations.PtpTraffic : Prop :=
  (∀ (s : State) (b : Fin 2), domainUp s b = true → s.clk.base[base3 b].gm = true → intervalOver s b 0 = true →
      Completes (.ptpSyncTransmit b) s fun t => t.tx = (if s.bit (Obj.TIM_NTA_CFG b) 6 then [⟨domainPort s b, 25, [s.field (Obj.TIM_NTA_CFG b) 8 8, (s.clk.base[base3 b].at_ s.now).floor]⟩, ⟨domainPort s b, 20, [s.field (Obj.TIM_NTA_CFG b) 8 8, 1, 0]⟩] else [⟨domainPort s b, 20, [s.field (Obj.TIM_NTA_CFG b) 8 8, 0, (s.clk.base[base3 b].at_ s.now).floor]⟩]) ++ s.tx ∧
      t.clk.base[base3 b].st = s.clk.base[base3 b].st ∧ t.clk.base[base3 b].sentAt[(0 : Fin 3)] = s.now) ∧
  (∀ (s : State) (b : Fin 2), domainUp s b = true → s.clk.base[base3 b].gm = true → intervalOver s b 1 = true →
      Completes (.ptpAnnounceTransmit b) s fun t => t.tx = ⟨domainPort s b, 21, [s.field (Obj.TIM_NTA_CFG b) 8 8, 248, 0xA0, s.objN (Obj.TIM_NTA_PRIORITY b 0), s.objN (Obj.TIM_NTA_PRIORITY b 1)]⟩ :: s.tx ∧
      t.clk.base[base3 b].sentAt[(1 : Fin 3)] = s.now) ∧
  (∀ (s : State) (b : Fin 2), domainUp s b = true → s.bit (Obj.TIM_NTA_CFG b) 5 = true → intervalOver s b 2 = true →
      Completes (.ptpDelayRequestTransmit b) s fun t => t.tx = ⟨domainPort s b, 22, [s.field (Obj.TIM_NTA_CFG b) 8 8, 1]⟩ :: s.tx ∧
      t.clk.base[base3 b].sentAt[(2 : Fin 3)] = s.now) ∧
  (∀ (s : State) (b : Fin 2) (peer : Bool) (t1 t2 t3 t4 correction : Rat), domainUp s b = true → peer = s.bit (Obj.TIM_NTA_CFG b) 5 →
      Completes (.ptpDelayMessageReceived b (.measured peer t1 t2 t3 t4 correction)) s fun t => t.clk.base[base3 b].pathDelay = some (meanDelay t1 t2 t3 t4 correction)) ∧
  (∀ (s : State) (b : Fin 2), domainUp s b = true → s.clk.base[base3 b].gm = true → s.bit (Obj.TIM_NTA_CFG b) 5 = false →
      Completes (.ptpDelayMessageReceived b .delayReq) s fun t => t.tx = ⟨domainPort s b, 23, [0, s.field (Obj.TIM_NTA_CFG b) 8 8]⟩ :: s.tx ∧
      t.clk = s.clk) ∧
  (∀ (s : State) (toE2 : Bool) (frame : PtpFrame) (residence : Nat) (linkDelay : Rat), s.alive .network = true → s.clk.netLocked = true →
      s.bit Obj.NET_STATUS 0 = false → (frame ≠ .pdelayReq ∨ s.bit Obj.TIM_TC_CFG 1 = false) →
      Completes (.tcFrameForward toE2 frame residence linkDelay) s fun t => t.tx = ⟨2, 24, [boolNat toE2, if frame = .other ∨ s.bit Obj.TIM_TC_CFG 0 = false then 0 else tcCorrection s residence linkDelay]⟩ :: s.tx ∧
      t.clk = s.clk) ∧
  (∀ (s : State) (toE2 : Bool) (residence : Nat) (linkDelay : Rat), s.alive .network = true → s.clk.netLocked = true →
      s.bit Obj.NET_STATUS 0 = false → s.bit Obj.TIM_TC_CFG 0 = true → s.bit Obj.TIM_TC_CFG 1 = true →
      Completes (.tcFrameForward toE2 .pdelayReq residence linkDelay) s fun t => t.tx = ⟨2, 23, [1, boolNat !toE2]⟩ :: s.tx ∧
      t.clk = s.clk)

/-- References lost, found and chosen; PLLs: lock, loss, relock (R274, R275, R276, R277, R282, R278, R279, R280, R281, R15). With the PLLs
enabled: a reference without an edge for 32 core cycles (log 160) is lost: it is no longer healthy, and if it was the active one the next
healthy reference takes over, or, with none, no reference is active (holdover). A reference healthy for 1 ms ends holdover; one healthy
for 10 s counts again and, with REVERT, a preferred one takes over. REVERT_REF chooses the preferred reference where it is healthy. The
check every 10 ms reports deviations and a step above 50 ppm makes a reference faulty. The keystone's check fences an island whose clock
is off by more than 5 per cent. The first PLL that locks starts module time at 0, its islands on it, and counts the boot; a second one
changes neither. A phase error above 1 ns in two reference cycles with an active reference is a loss of lock, counted and muted; with the
sister locked the islands that were on it are on the sister; with none locked the edge island is fenced by a living keystone. A relock
attempt starts 1 ms after the loss; where the phase error stays below 200 ps for 256 cycles within it the PLL locks, with 0x5004, no
island switching; else it ends after 1 ms. Losing the network PLL takes all four links down; it relocks 10 ms later with an active
reference. -/
def Obligations.ReferencesAndLoops : Prop :=
  (∀ (s : State) (r : Fin 3) (gap : Nat), s.clk.pllOn = true → 32 ≤ gap → s.clk.refOk[r] = true →
      Completes (.referenceLost ⟨r, gap⟩) s fun t => t.clk.refOk[r] = false ∧ (s.clk.active = some r → t.clk.active ≠ some r ∧
      ∀ q, t.clk.active = some q → s.clk.refOk[q] = true) ∧ (s.clk.active ≠ some r → t.clk.active = s.clk.active)) ∧
  (∀ (s : State) (r : Fin 3), s.clk.pllOn = true → s.clk.active = none → (r ≠ 2 ∨ partnerFirst s = true) → cyclesMs ≤ healthyFor s r →
      s.hasRoom 1 = true → Completes (.refHoldoverEnd r) s fun t => t.clk.active = some r ∧ t.clk.refOk[r] = true ∧
      newEvent s t 0x5006 [0] = true) ∧
  (∀ (s : State) (r : Fin 3), s.clk.pllOn = true → 10 * cyclesSec ≤ healthyFor s r → (r ≠ 2 ∨ partnerLine s = true) →
      Completes (.referenceHealthy r) s fun t => t.clk.refOk[r] = true ∧ (s.clk.active ≠ none → s.bit Obj.TIM_REF_CFG 2 = true →
      r = refHome s → t.clk.active = some r) ∧ (s.bit Obj.TIM_REF_CFG 2 = false → t.clk.active = s.clk.active)) ∧
  (∀ (s : State) (w : Writer), s.serves w .network = true → s.clk.refOk[refHome s] = true → s.clk.active ≠ none →
      Completes (.revertRef w) s fun t => t.clk.active = some (refHome s)) ∧
  (∀ (s : State) (dev step : Vector Rat 3) (r : Fin 3), clockRuns s = true → s.clk.active ≠ none →
      10 * cyclesMs ≤ s.since s.clk.countedAt → s.clk.refOk[r] = true → 50 < absR step[r] →
      Completes (.referenceFreqCheck dev step) s fun t => t.clk.refOk[r] = false) ∧
  (∀ (s : State) (dev step : Vector Rat 3), clockRuns s = true → s.clk.active ≠ none → 10 * cyclesMs ≤ s.since s.clk.countedAt →
      (∀ r : Fin 3, absR step[r] ≤ 50 ∧ absR dev[r] ≤ (s.objN Obj.TIM_REF_TOL : Nat)) →
      Completes (.referenceFreqCheck dev step) s fun t => t.clk.refOk = s.clk.refOk ∧ t.clk.active = s.clk.active) ∧
  (∀ (s : State) (i : Island) (d net : Rat) (refs : Vector Rat 3), s.alive .keystone = true →
      (clockRuns s = false ∨ 40960 ≤ s.since s.clk.monitoredAt) → i ≠ .keystone →
      Completes (.clockMonitorCheck [(i, d)] ⟨net, refs⟩) s fun t => (5 < absR d → i ∈ t.isl.fenced) ∧ (s.clk.netLocked = true →
      5 < absR net → .network ∈ t.isl.fenced) ∧ ∀ r : Fin 3, s.clk.pllOn = true → 2 < absR refs[r] → t.clk.refOk[r] = false) ∧
  (∀ (s : State) (islands : List (Island × Rat)) (net : Rat) (refs : Vector Rat 3) (i : Island) (d : Rat), s.alive .keystone = true →
      (clockRuns s = false ∨ 40960 ≤ s.since s.clk.monitoredAt) → i ≠ .keystone → islands.contains (i, d) = true → 5 < absR d →
      Completes (.clockMonitorCheck islands ⟨net, refs⟩) s fun t => i ∈ t.isl.fenced) ∧
  (∀ (s : State) (islands : List (Island × Rat)) (net : Rat) (refs : Vector Rat 3), s.alive .keystone = true →
      (clockRuns s = false ∨ 40960 ≤ s.since s.clk.monitoredAt) → islands.all (fun e => decide (absR e.2 ≤ 5)) = true → absR net ≤ 5 →
      refs.toList.all (fun e => decide (absR e ≤ 2)) = true →
      Completes (.clockMonitorCheck islands ⟨net, refs⟩) s fun t => t = s.modClk fun c => { c with monitoredAt := s.now }) ∧
  (∀ (s : State) (p : Fin 2) (below : Nat), s.clk.pllOn = true → 256 ≤ below → s.clk.pll[p].locked = false → s.clk.pll[p].failed = false →
      s.clk.pll[p].lostAt = none → s.clk.active ≠ none → Completes (.pllLock ⟨p, below⟩) s fun t => t.clk.pll[p].locked = true ∧
      (if s.isl.started then t.isl.mt = s.isl.mt ∧ t.clk.onB = s.clk.onB else t.isl.mt = 0 ∧ t.isl.started = true ∧
      t.clk.onB = (if p = 1 then switchIslands else []) ∧ t.clk.netLocked = true)) ∧
  (∀ (s : State) (p : Fin 2) (e1 e2 : Rat), s.clk.pll[p].locked = true → s.isl.started = true → s.clk.active ≠ none →
      justSwitched s = false → 1000 < absR e1 → 1000 < absR e2 →
      Completes (.pllLossOfLock ⟨p, (e1, e2)⟩) s fun t => t.clk.pll[p].locked = false ∧ t.clk.pll[p].lostAt = some s.now ∧
      (s.clk.pll[1 - p].locked = true → t.isl.fenced = s.isl.fenced ∧
      t.clk.onB = if (p == 1) = decide (Island.edge ∈ s.clk.onB) then (switchClocks p s).clk.onB else s.clk.onB) ∧
      (s.clk.pll[1 - p].locked = false → s.alive .keystone = true → .edge ∈ t.isl.fenced)) ∧
  (∀ (s : State) (p : Fin 2) (at_ : Nat), s.clk.pll[p].lostAt = some at_ → s.clk.pll[p].failed = false → s.clk.pll[p].locked = false →
      s.clk.pll[p].tryAt = none → cyclesMs ≤ s.since at_ → clockRuns s = true →
      Completes (.pllRelockAttempt p) s fun t => t.clk.pll[p].tryAt = some s.now ∧ t.clk.pll[p].locked = false ∧ t.clk.onB = s.clk.onB) ∧
  (∀ (s : State) (p : Fin 2) (below at_ lost : Nat), s.clk.pllOn = true → 256 ≤ below → s.clk.pll[p].locked = false →
      s.clk.pll[p].failed = false → s.clk.pll[p].lostAt = some lost → s.clk.pll[p].tryAt = some at_ → s.since at_ ≤ cyclesMs →
      clockRuns s = true → s.clk.active ≠ none → s.isl.started = true → s.hasRoom 1 = true →
      Completes (.pllLock ⟨p, below⟩) s fun t => t.clk.pll[p].locked = true ∧ t.clk.pll[p].lostAt = none ∧ t.clk.pll[p].tryAt = none ∧
      t.clk.onB = s.clk.onB ∧ newEvent s t 0x5004 [p.val] = true) ∧
  (∀ (s : State) (p : Fin 2) (at_ : Nat), s.clk.pll[p].tryAt = some at_ → cyclesMs ≤ s.since at_ →
      Completes (.pllRelockTimeout p) s fun t => t.clk.pll[p].tryAt = none ∧ t.clk.pll[p].lostAt = some s.now ∧
      t.clk.pll[p].locked = s.clk.pll[p].locked) ∧
  (∀ (s : State), s.clk.netLocked = true → s.hasRoom 1 = true → Completes (.netPllLoss) s fun t => t.clk.netLocked = false ∧
      t.clk.netLostAt = s.now ∧ t.net.link = .replicate 4 false ∧ newEvent s t 0x500D [0] = true) ∧
  (∀ (s : State) (locks : Bool), s.clk.netLocked = false → s.isl.started = true → 10 * cyclesMs ≤ s.since s.clk.netLostAt →
      Completes (.netPllRelockAttempt locks) s fun t => t.clk.netLocked = (locks && s.clk.active.isSome) ∧ t.clk.base = s.clk.base)

/-- Sync, segments, holdover, mastership, twin time (R283, R284, R285, R286, R287, R288). On a domain that is up: a Sync from a master is
measured (offset of the base against it); an unsupported message is only counted. Without a Sync for the configured count a LOCKED base
goes to HOLDOVER. The segment of each millisecond is appended for the next whole one. STEP_NTA and STEP_NTB in READY or LOCKOUT with
service access start ACQUIRING anew. Without a better Announce a port that may be master becomes grandmaster with its base LOCKED; a
better master ends that. On a linked pair the primary's twin time is locked to module time, and the secondary's first exchange steps its
own. -/
def Obligations.TimeBases : Prop :=
  (∀ (s : State) (b : Fin 2) (origin correction : Rat) (gm : Nat), domainUp s b = true → s.clk.base[base3 b].gm = false →
      s.clk.base[base3 b].st ≠ 5 → Completes (.ptpSyncReceived b (.sync origin correction gm)) s fun t => t.clk.base[base3 b].gmId = gm ∧
      t.clk.base[base3 b].lastSync = s.now ∧ (s.clk.base[base3 b].st = 2 →
      t.clk.base[base3 b].theta = s.clk.base[base3 b].at_ s.now - masterTime s b origin correction)) ∧
  (∀ (s : State) (b : Fin 2), domainUp s b = true → Inv s → s.clk.base[base3 b].gm = false → s.clk.base[base3 b].st ≠ 5 →
      Completes (.ptpSyncReceived b .unsupported) s fun t => t.objN (Obj.TIM_NTA_DISCARDED b) = s.objN (Obj.TIM_NTA_DISCARDED b) + 1 ∧
      t.clk = s.clk) ∧
  (∀ (s : State) (b : Fin 2), s.clk.base[base3 b].gm = false → (s.clk.base[base3 b].st = 2 ∨ s.clk.base[base3 b].st = 3) →
      s.objN (Obj.TIM_NTA_LOSS_COUNT b) * ptpInterval (s.objI (Obj.TIM_NTA_LOG_SYNC b)) ≤ s.since s.clk.base[base3 b].lastSync →
      s.hasRoom 1 = true → Completes (.syncLossTimeout b) s fun t => t.clk.base[base3 b].st = 4 ∧ t.clk.base[base3 b].holdFrom = s.now ∧
      newEvent s t 0x5009 [b.val, 1] = true) ∧
  (∀ (s : State) (b : Fin 3), s.clk.base[b].gm = false → (s.clk.base[b].st = 2 ∨ s.clk.base[b].st = 3 ∨ s.clk.base[b].st = 4) →
      cyclesMs ≤ s.since s.clk.base[b].lastSegment → b ≠ 2 → s.alive .network = true →
      Completes (.segmentUpdate b) s fun t => t.clk.base[b].lastSegment = s.now ∧
      (t.clk.base[b].next.map fun x => x.1) = some (nextMs s.now) ∧
      (t.clk.base[b].next.map fun x => x.2.1) = some (nsUnits ((s.clk.base[b].inForce s.now).line (nextMs s.now)))) ∧
  (∀ (s : State) (b : Fin 2) (gm steps : Nat), domainUp s b = true → domainRole s b ≠ 1 →
      Completes (.ptpAnnounceReceived b (.announce gm steps true)) s fun t => t.clk.base[base3 b].gm = false ∧
      t.clk.base[base3 b].gmId = gm ∧ t.clk.base[base3 b].lastAnnounce = s.now) ∧
  (∀ (s : State) (b : Fin 2), domainUp s b = true → domainRole s b ≠ 0 →
      s.objN (Obj.TIM_NTA_ANNOUNCE_TO b) * ptpInterval (s.objI (Obj.TIM_NTA_LOG_ANNOUNCE b)) ≤ s.since s.clk.base[base3 b].lastAnnounce →
      s.clk.base[base3 b].gm = false → s.clk.base[base3 b].st ≠ 5 →
      Completes (.announceReceiptTimeout b) s fun t => t.clk.base[base3 b].gm = true ∧ t.clk.base[base3 b].st = 2 ∧
      t.clk.base[base3 b].theta = 0) ∧
  (∀ (s : State) (w : Writer), s.serves w .network = true → serviceOk s w = true → (s.mod.mode = .ready ∨ s.mod.mode = .lockout) →
      s.clk.base[(0 : Fin 3)].gm = false → s.clk.base[(0 : Fin 3)].st ≠ 0 → s.clk.base[(0 : Fin 3)].st ≠ 5 →
      Completes (.stepNta w) s fun t => t.clk.base[(0 : Fin 3)].st = 1 ∧ t.clk.base[(0 : Fin 3)].agree = 0 ∧
      t.clk.base[(1 : Fin 3)] = s.clk.base[(1 : Fin 3)]) ∧
  (∀ (s : State) (w : Writer), s.serves w .network = true → serviceOk s w = true → (s.mod.mode = .ready ∨ s.mod.mode = .lockout) →
      s.clk.base[(1 : Fin 3)].gm = false → s.clk.base[(1 : Fin 3)].st ≠ 0 → s.clk.base[(1 : Fin 3)].st ≠ 5 →
      Completes (.stepNtb w) s fun t => t.clk.base[(1 : Fin 3)].st = 1 ∧ t.clk.base[(1 : Fin 3)].agree = 0 ∧
      t.clk.base[(0 : Fin 3)] = s.clk.base[(0 : Fin 3)]) ∧
  (∀ (s : State) (primary : Rat) (boot : Nat), 2 ≤ s.twn.link → s.twn.mode ≠ 0 → s.twn.primary = true →
      Completes (.ttExchange primary boot) s fun t => t.clk.base[(2 : Fin 3)].st = 2 ∧ t.clk.base[(2 : Fin 3)].theta = 0 ∧
      t.clk.base[(2 : Fin 3)].m0 = s.now) ∧
  (∀ (s : State) (primary : Rat) (boot : Nat), 2 ≤ s.twn.link → s.twn.mode ≠ 0 → s.twn.primary = false →
      s.clk.base[(2 : Fin 3)].boot ≠ some boot →
      Completes (.ttExchange primary boot) s fun t => t.clk.base[(2 : Fin 3)].boot = some boot ∧ t.clk.base[(2 : Fin 3)].st = 2 ∧
      t.clk.base[(2 : Fin 3)].stepped = true ∧ t.clk.base[(2 : Fin 3)].m0 = nextMs s.now)

/-- Cycles of the logic engine, host tags, peeking, the period, stations (R300, R302, R304, R305, R312, R307, R308, R303, R314, R315, R349).
At its boundary a running engine of no standby, with no other write due and no output bound to an object, runs one cycle: the cycle count
rises by one, logic time advances by the time since the last boundary, the next boundary is one period on, and a tag the program wrote
holds its value. A boundary met while the cycle is busy is skipped and counted with event 0x6002. A cycle still busy after four periods
has the keystone fence the logic island. A host write to a HOST tag that passes the arbiter is held for the next latch, and the image
stays. LGC_PEEK_TAG selects a tag. The cycle period written while the engine runs waits for the boundary. A fresh telegram of a used
station is taken with its counter and the station leaves AWAITED or DROPPED for RETURNING; a repeated one is counted and discarded. A
station silent for its timeout is DROPPED, counted and logged with 0x600B. -/
def Obligations.LogicCyclesAndTags : Prop :=
  (∀ (s : State) (run : CycleRun), s.alive .logic = true → s.lgc.running = true → s.standby = false → s.lgc.nextAt ≤ lgcNow s →
      s.lgc.busyUntil ≤ s.lgc.nextAt → s.lgc.starting = false → s.lgc.exchange = none → s.lgc.resetRetain = false → s.commitWrites = [] →
      s.objN Obj.LGC_OVERRUN_RUN < s.objN Obj.LGC_OVERRUN_LIMIT → (∀ x ∈ s.lgc.image.tags, x.defn.binding ≠ 6) →
      Completes (.logicCycleBoundary run) s fun t => t.lgc.image.count = s.lgc.image.count + 1 ∧
      t.lgc.image.lt = s.lgc.image.lt + (s.lgc.nextAt - s.lgc.lastAt) / cyclesMs * 1000 ∧ t.lgc.lastAt = s.lgc.nextAt ∧
      t.lgc.nextAt = s.lgc.nextAt + periodCycles t ∧ t.lgc.busyUntil = s.lgc.nextAt + cyclesUs run.busy) ∧
  (∀ (s : State) (g v : Nat), s.alive .logic = true → s.lgc.running = true → s.lgc.valid = true → s.standby = false →
      s.lgc.nextAt ≤ lgcNow s → s.lgc.busyUntil ≤ s.lgc.nextAt → s.lgc.exchange = none → s.lgc.resetRetain = false → s.commitWrites = [] →
      s.objN Obj.LGC_OVERRUN_RUN < s.objN Obj.LGC_OVERRUN_LIMIT → (∀ x ∈ s.lgc.image.tags, x.defn.binding ≠ 6) →
      Completes (.logicCycleBoundary ⟨[], [(g, v)], [], [], 0, 0, 24⟩) s fun t => ∀ x ∈ t.lgc.image.tags, x.defn.tag = g →
      x.defn.binding = 1 → x.val = v % 2 ^ typeBits x.defn.type) ∧
  (∀ (s : State) (run : CycleRun), s.alive .logic = true → s.lgc.running = true → s.standby = false → s.lgc.nextAt ≤ lgcNow s →
      s.lgc.nextAt < s.lgc.busyUntil → s.lgc.exchanging = false → s.commitWrites = [] →
      Completes (.logicCycleBoundary run) s fun t => t.lgc.skipped = s.lgc.skipped + 1 ∧ t.lgc.image = s.lgc.image ∧
      t.lgc.nextAt = s.lgc.nextAt + periodCycles t) ∧
  (∀ (s : State), s.alive .logic = true → s.alive .keystone = true → s.lgc.running = true → lgcBusy s = true →
      s.lgc.lastAt + 4 * periodCycles s ≤ lgcNow s → Completes (.logicHangTimeout) s fun t => .logic ∈ t.isl.fenced ∧
      t.lgc.running = false) ∧
  (∀ (s : State) (tag : Nat) (v : Val) (w : Writer) (raw : Nat) (x : TagSt), s.admits w (0xA00000 + tag) v = true → tag < 0x60000 →
      tagOfKey (0xA00000 + tag) = tag → findTag s tag = some x → rawOf x.defn.type v = .ok raw →
      Completes (.hostTagWrite tag v w) s fun t => (tag, raw) ∈ t.lgc.host ∧ t.lgc.image = s.lgc.image) ∧
  (∀ (s : State) (tag : Nat) (w : Writer), s.admits w Obj.LGC_PEEK_TAG (.int tag) = true → tag < 131072 →
      Completes (.tagPeek tag w) s fun t => t.lgc.peek = tag) ∧
  (∀ (s : State) (ms : Nat) (w : Writer), s.admits w Obj.LGC_CYCLE_PERIOD (.int ms) = true → s.mod.mode.running = true →
      s.lgc.running = true →
      Completes (.cyclePeriodWrite ms w) s fun t => t.commitWrites = s.commitWrites ++ [(Obj.LGC_CYCLE_PERIOD, .int ms)] ∧ t.lgc = s.lgc) ∧
  (∀ (s : State) (ms : Nat) (w : Writer), s.admits w Obj.LGC_CYCLE_PERIOD (.int ms) = true → Inv s → s.mod.mode.running = false →
      Completes (.cyclePeriodWrite ms w) s fun t => t.objN Obj.LGC_CYCLE_PERIOD = ms) ∧
  (∀ (s : State) (st : StationId) (counter : Option Nat) (data : List Nat), s.alive .network = true → s.lgc.station[st].st ≠ 0 →
      telegramFresh s.lgc.station[st] counter = true →
      Completes (.stationTelegramReceived st counter data) s fun t => t.lgc.station[st].data = data ∧
      t.lgc.station[st].counter = counter ∧ t.lgc.station[st].fresh = true ∧ t.lgc.station[st].lastRx = s.now ∧
      t.lgc.station[st].st = (if s.lgc.station[st].st = 1 ∨ s.lgc.station[st].st = 3 then 4 else s.lgc.station[st].st)) ∧
  (∀ (s : State) (st : StationId) (counter : Option Nat) (data : List Nat), s.alive .network = true → Inv s → s.lgc.station[st].st ≠ 0 →
      telegramFresh s.lgc.station[st] counter = false →
      Completes (.stationTelegramReceived st counter data) s fun t => t.lgc.station = s.lgc.station ∧
      t.objN Obj.NET_DUP_DISCARDED = s.objN Obj.NET_DUP_DISCARDED + 1) ∧
  (∀ (s : State) (st : StationId), s.alive .network = true → (s.lgc.station[st].st = 2 ∨ s.lgc.station[st].st = 4) →
      s.objN (Obj.LGC_STN_TIMEOUT st) * cyclesMs ≤ s.since s.lgc.station[st].lastRx → s.hasRoom 1 = true →
      Completes (.stationDrop st) s fun t => t.lgc.station[st].st = 3 ∧ t.lgc.station[st].first = true ∧
      newEvent s t 0x600B [st.val + 1, s.lgc.station[st].lastRx] = true)

/-- Staging, exchange, discard, retained values, snapshots (R313, R317, R318, R321, R324). The last block of a package that is signed, within
limits and fits stages the program with 0x6007; an unsigned one is refused with 0x6009 and stages nothing. EXCHANGE by who may command,
with a staged program in a running engine, waits with the instant written before; at the first boundary at or after that instant, or the
next where it is 0, the staged program becomes the running one and the former stays staged; DISCARD_STAGED drops the staged program where
no exchange waits; RESET_RETAIN in READY with service access waits for a boundary. A full snapshot at a linked standby replaces its image,
and an incomplete one leaves it not level. -/
def Obligations.LogicPrograms : Prop :=
  (∀ (s : State) (p : Program) (w : Writer), s.admits w Obj.LGC_STAGE_DATA (.bytes []) = true → p.signed = true → withinLimits p = true →
      programFits s p = true → s.hasRoom 1 = true → Completes (.programStageBlock (some p) w) s fun t => t.lgc.staged = some p ∧
      t.lgc.program = s.lgc.program ∧ newEvent s t 0x6007 [p.id] = true) ∧
  (∀ (s : State) (p : Program) (w : Writer), s.admits w Obj.LGC_STAGE_DATA (.bytes []) = true → p.signed = false → s.hasRoom 1 = true →
      Completes (.programStageBlock (some p) w) s fun t => t.lgc.staged = s.lgc.staged ∧ newEvent s t 0x6009 [1] = true) ∧
  (∀ (s : State) (w : Writer), s.admits w Obj.LGC_CMD (.int 0x5A01) = true → s.commands w = true → s.lgc.running = true →
      s.lgc.staged ≠ none → s.lgc.exchange = none → s.objN Obj.LGC_CMD_INSTANT ≤ lgcNow s + 2147483648 →
      Completes (.programExchange w) s fun t => t.lgc.exchange = some (s.objN Obj.LGC_CMD_INSTANT) ∧ t.lgc.staged = s.lgc.staged ∧
      t.lgc.program = s.lgc.program) ∧
  (∀ (s : State) (run : CycleRun) (p : Program) (i : Nat), s.alive .logic = true → s.lgc.running = true → s.standby = false →
      s.lgc.nextAt ≤ lgcNow s → s.lgc.busyUntil ≤ s.lgc.nextAt → s.lgc.exchange = some i → (i = 0 ∨ i ≤ s.lgc.nextAt) →
      s.lgc.staged = some p → s.commitWrites = [] → s.objN Obj.LGC_OVERRUN_RUN < s.objN Obj.LGC_OVERRUN_LIMIT →
      (∀ x ∈ p.tags, x.binding ≠ 6) → Completes (.logicCycleBoundary run) s fun t => t.lgc.program = some p ∧
      t.lgc.staged = s.lgc.program ∧ t.lgc.exchange = none ∧ t.lgc.exchanging = true) ∧
  (∀ (s : State) (w : Writer), s.admits w Obj.LGC_CMD (.int 0x5A02) = true → s.lgc.exchange = none →
      Completes (.discardStaged w) s fun t => t.lgc.staged = none ∧ t.lgc.program = s.lgc.program) ∧
  (∀ (s : State) (w : Writer), s.admits w Obj.LGC_CMD (.int 0x5A03) = true → serviceOk s w = true → s.mod.mode = .ready →
      Completes (.resetRetain w) s fun t => t.lgc.resetRetain = true ∧ t.lgc.image = s.lgc.image) ∧
  (∀ (s : State) (im : Image) (lines : Nat) (hold : Rat), s.alive .logic = true → s.standby = true → 2 ≤ s.twn.link →
      Completes (.snapshotReceived (some im) true lines hold) s fun t => t.lgc.image = im ∧ t.lgc.level = true) ∧
  (∀ (s : State) (full : Bool) (lines : Nat) (hold : Rat), s.alive .logic = true → s.standby = true → 2 ≤ s.twn.link →
      s.hasRoom 1 = true → Completes (.snapshotReceived none full lines hold) s fun t => t.lgc.image = s.lgc.image ∧ t.lgc.level = false ∧
      newEvent s t 0x600F [s.lgc.image.count] = true)

/-- Writes that are taken, wait, or are refused; 0x1010, 0x1011 and 0x1003 (R326, R327, R333, R334, R7, R351, R352, R391). A write of an
object outside piers, galleries and chains that passes every check acts at once outside the run modes. While the module runs, a pier
object of rule "next commit" that no PARAM_HOLD holds waits for the next commit and its value stays; one of rule "next mode change" waits
for that. A write that fails a check is answered with its abort code at its port (shown for the Ethernet ports), and leaves the waiting
writes, the modes and the stages as they were; one lost against a higher source of the same tick is counted. The store signature written
in READY or LOCKOUT asks for a dictionary store that will be answered to its requester; the load signature orders the defaults for the
next power-up; 0 written to 0x1003 clears the error history. -/
def Obligations.DictionaryWritesAndStores : Prop :=
  (∀ (s : State) (key : Nat) (v : Val) (w : Writer) (r : ObjRow), s.admits w key v = true → Inv s → s.mod.mode.running = false →
      objRow (key / 256) (key % 256) = some r → key < 0x600000 → r.run ≠ .nextReset → isCommandKey key = false → pierOfKey key = none →
      galOfKey key = none → chainOfKey key = none → Completes (.dictionaryWrite key v w [] []) s fun t => t.obj key = v) ∧
  (∀ (s : State) (key : Nat) (v : Val) (w : Writer) (r : ObjRow) (n : StageId), s.admits w key v = true → s.mod.mode.running = true →
      objRow (key / 256) (key % 256) = some r → key < 0x600000 → r.run = .nextCommit → isCommandKey key = false → pierOfKey key = some n →
      (isLawKey key = true → s.bit (Obj.GFL_CONFIG n) 10 = false) →
      Completes (.dictionaryWrite key v w [] []) s fun t => t.commitWrites = s.commitWrites ++ [(key, v)] ∧ t.obj key = s.obj key) ∧
  (∀ (s : State) (key : Nat) (v : Val) (w : Writer) (r : ObjRow), s.admits w key v = true → s.mod.mode.running = true →
      objRow (key / 256) (key % 256) = some r → key < 0x600000 → r.run = .nextModeChange → isCommandKey key = false →
      galOfKey key = none → Completes (.dictionaryWrite key v w [] []) s fun t => t.modeWrites = s.modeWrites ++ [(key, v)] ∧
      t.obj key = s.obj key) ∧
  (∀ (s : State) (key : Nat) (v : Val) (c se a : Nat), s.reaches (.port c se) = true → s.alive .house = true → (c = 2 ∨ c = 3 ∨ c = 4) →
      writeCheck s (.port c se) key v false = a → a ≠ 0 →
      Completes (.dictionaryWrite key v (.port c se) [] []) s fun t => (⟨c, 1, [c + 16 * se, key, a]⟩ : TxFrame) ∈ t.tx ∧
      t.commitWrites = s.commitWrites ∧ t.modeWrites = s.modeWrites ∧ t.mod.mode = s.mod.mode ∧ t.stg = s.stg) ∧
  (∀ (s : State) (key : Nat) (v : Val) (w : Writer), s.admits w key v = true → Inv s → writeCheck s w key v true = 0x08000020 →
      Completes (.dictionaryWrite key v w [.logic] []) s fun t => t.objN Obj.NET_WRITES_LOST = s.objN Obj.NET_WRITES_LOST + 1 ∧
      t.commitWrites = s.commitWrites) ∧
  (∀ (s : State) (hold : Rat) (w : Writer), s.admits w Obj.CIA_STORE (.int 0x65766173) = true →
      (s.mod.mode = .ready ∨ s.mod.mode = .lockout) → s.alive .house = true → s.nvs.stopped = false → s.nvs.running = none →
      s.nvs.waiting = [] → (r32 hold) = hold → energyNeeded s .dictionary 0 ≤ energyHeld s hold → Inv s →
      Completes (.storeParameters hold w) s fun t => t.nvs.running = some ⟨.dictionary, 0, some w, s.now, none⟩ ∧ t.nvs.waiting = [] ∧
      t.saved = s.saved) ∧
  (∀ (s : State) (hold : Rat) (w : Writer), s.admits w Obj.CIA_STORE (.int 0x65766173) = true →
      (s.mod.mode = .ready ∨ s.mod.mode = .lockout) → s.alive .house = true → s.nvs.stopped = false → s.nvs.running = none →
      s.nvs.waiting = [] → (r32 hold) = hold → energyHeld s hold < energyNeeded s .dictionary 0 → Inv s →
      Completes (.storeParameters hold w) s fun t => t.nvs.running = none ∧ t.nvs.waiting = [⟨.dictionary, 0, some w, s.now, none⟩] ∧
      t.saved = s.saved) ∧
  (∀ (s : State) (w : Writer), s.admits w Obj.CIA_RESTORE (.int 0x64616F6C) = true → (s.mod.mode = .ready ∨ s.mod.mode = .lockout) →
      Completes (.restoreDefaults w) s fun t => t.net.restore = true ∧ t.saved = s.saved) ∧
  (∀ (s : State) (w : Writer), s.admits w Obj.CIA_ERROR_COUNT (.int 0) = true → Inv s →
      Completes (.errorHistoryClear w) s fun t => t.objN Obj.CIA_ERROR_COUNT = 0 ∧ t.objN (Obj.CIA_ERROR_FIELD 0) = 0)

/-- Write ownership and service access (R329, R330, R331). CLAIM of a free ownership, FORCE from a port of higher priority and RELEASE by the
holder make NET_OWNER the writer's word, or 0, with events 0x7001, 0x7003, 0x7002; a CLAIM while it is held changes nothing.
NET_OWNER_TIMEOUT without a request of the holder ends it with 0x7004. A challenge that is read is kept for its session; a response with a
valid signature over it gives service access; an invalid one does not, with 0x7006, and uses the challenge up. Service access and a port's
block end after their times. -/
def Obligations.OwnershipAndService : Prop :=
  (∀ (s : State) (c se : Nat) (w : Writer), w = .port c se → s.admits w Obj.NET_OWNER_CLAIM (.int 0x5A01) = true → Inv s →
      s.objN Obj.NET_OWNER = 0 → s.hasRoom 1 = true → Completes (.ownershipClaim w) s fun t => t.objN Obj.NET_OWNER = w.ownerWord ∧
      newEvent s t 0x7001 [c, se] = true) ∧
  (∀ (s : State) (w : Writer), s.objN Obj.NET_OWNER ≠ 0 →
      Completes (.ownershipClaim w) s fun t => t.objN Obj.NET_OWNER = s.objN Obj.NET_OWNER) ∧
  (∀ (s : State) (c se : Nat) (w : Writer), w = .port c se → s.admits w Obj.NET_OWNER_CLAIM (.int 0x5A02) = true → Inv s →
      c < s.objN Obj.NET_OWNER % 16 → s.hasRoom 1 = true → Completes (.ownershipForce w) s fun t => t.objN Obj.NET_OWNER = w.ownerWord ∧
      newEvent s t 0x7003 [w.ownerWord, s.objN Obj.NET_OWNER] = true) ∧
  (∀ (s : State) (c se : Nat) (w : Writer), w = .port c se → s.admits w Obj.NET_OWNER_CLAIM (.int 0x5A03) = true → Inv s →
      s.ownsWrites w = true → s.hasRoom 1 = true → Completes (.ownershipRelease w) s fun t => t.objN Obj.NET_OWNER = 0 ∧
      newEvent s t 0x7002 [c, se] = true) ∧
  (∀ (s : State), s.alive .house = true → Inv s → s.objN Obj.NET_OWNER ≠ 0 →
      s.objN Obj.NET_OWNER_TIMEOUT * cyclesMs ≤ s.since s.net.ownerAt → s.hasRoom 1 = true →
      Completes (.ownershipTimeout) s fun t => t.objN Obj.NET_OWNER = 0 ∧
      newEvent s t 0x7004 [(s.objN Obj.NET_OWNER % 16 : Nat), (s.objN Obj.NET_OWNER / 16 : Nat), 1] = true) ∧
  (∀ (s : State) (w : Writer), s.reaches w = true → s.alive .house = true → (∀ b ∈ s.net.blocked, b.1 ≠ writerPort w) →
      Completes (.serviceChallengeRead w) s fun t => t.net.challenges = (w.ownerWord, bytesBE 32 (s.freeNat % 256 ^ 32)) :: s.net.challenges.filter (fun c => c.1 != w.ownerWord) ∧
      t.free = s.free + 1 ∧ t.net.rights.map (fun r => r.1) = s.net.rights.map (fun r => r.1)) ∧
  (∀ (s : State) (signature challenge : List Nat) (w : Writer), s.admits w Obj.NET_SVC_RESPONSE (.bytes signature) = true →
      signature.length = 96 → w.ownerWord ≠ 0 → s.net.challenges.find? (fun c => c.1 == w.ownerWord) = some (w.ownerWord, challenge) →
      Completes (.serviceResponse signature w) s fun t => (Config.signatureValid (s.objN Obj.NET_SVC_KEY_ID) (challengeText s w challenge ++ signature) = true →
      serviceOk t w = true) ∧ (Config.signatureValid (s.objN Obj.NET_SVC_KEY_ID) (challengeText s w challenge ++ signature) = false →
      t.net.rights.map (fun r => r.1) = s.net.rights.map (fun r => r.1))) ∧
  (∀ (s : State) (signature : List Nat) (w : Writer), s.admits w Obj.NET_SVC_RESPONSE (.bytes signature) = true → signature.length = 96 →
      s.net.challenges = [] → s.hasRoom 1 = true →
      Completes (.serviceResponse signature w) s fun t => t.net.rights.map (fun r => r.1) = s.net.rights.map (fun r => r.1) ∧
      newEvent s t 0x7006 [writerPort w, writerSession w] = true) ∧
  (∀ (s : State) (w : Writer), s.alive .house = true → (∀ r ∈ s.net.rights, r.1 = w.ownerWord →
      s.objN Obj.NET_SVC_TIMEOUT * cyclesSec ≤ s.since r.2) →
      Completes (.serviceAccessTimeout w) s fun t => (∀ r ∈ t.net.rights, r.1 ≠ w.ownerWord) ∧ ∀ r ∈ s.net.rights, r.1 ≠ w.ownerWord →
      r ∈ t.net.rights) ∧
  (∀ (s : State) (port : Nat), s.alive .house = true → (∀ b ∈ s.net.blocked, b.1 = port → 60 * cyclesSec ≤ s.since b.2) →
      Completes (.challengeBlockEnd port) s fun t => (∀ b ∈ t.net.blocked, b.1 ≠ port) ∧ ∀ b ∈ s.net.blocked, b.1 ≠ port →
      b ∈ t.net.blocked)

/-- NMT and SDO on the CAN ports (R334, R335, R336). At a CAN port in use that has booted up, NMT start makes it operational (5), stop stopped
(4), enter pre-operational 127. NMT reset node and reset communication apply the port's communication objects written since, send the
boot-up message and leave the port pre-operational, or operational with AUTO_OP. An SDO write that passes the arbiter takes effect and an
SDO read is answered with the value; a stopped port serves none. A segmented transfer silent for more than 1,000 ms ends with 0x05040000. -/
def Obligations.CanopenNmtAndSdo : Prop :=
  (∀ (s : State) (c : Fin 2), canRuns s c = true → Completes (.nmtStart c) s fun t => t.net.can[c].st = 5 ∧ t.net.can[c].booted = true ∧
      t.mod = s.mod ∧ t.stg = s.stg) ∧
  (∀ (s : State) (c : Fin 2), canRuns s c = true → Completes (.nmtStop c) s fun t => t.net.can[c].st = 4 ∧ t.net.can[c].sdo = none ∧
      t.mod = s.mod ∧ t.stg = s.stg) ∧
  (∀ (s : State) (c : Fin 2), canRuns s c = true → Completes (.nmtEnterPreop c) s fun t => t.net.can[c].st = 127 ∧ t.mod = s.mod ∧
      t.stg = s.stg) ∧
  (∀ (s : State) (c : Fin 2) (key : Nat) (v : Val), canRuns s c = true → canSends s c = true → s.resetWrites = [(key, v)] →
      portObject s c key = true → Inv s → key = Obj.CIA_HB_PRODUCER → Completes (.nmtResetNode c) s fun t => t.resetWrites = [] ∧
      t.obj key = v ∧ t.net.can[c].sdo = none ∧ t.net.can[c].st = (if s.bit (Obj.NET_CAN_CFG c.val) 4 then 5 else 127) ∧
      (⟨canPort c, 31, [(s.objN Obj.MOD_NODE_NUMBER : Nat)]⟩ : TxFrame) ∈ t.tx) ∧
  (∀ (s : State) (c : Fin 2) (key : Nat) (v : Val), canRuns s c = true → canSends s c = true → s.resetWrites = [(key, v)] →
      portObject s c key = true → Inv s → key = Obj.CIA_HB_PRODUCER → Completes (.nmtResetComm c) s fun t => t.resetWrites = [] ∧
      t.obj key = v ∧ t.net.can[c].sdo = none ∧ t.net.can[c].st = (if s.bit (Obj.NET_CAN_CFG c.val) 4 then 5 else 127) ∧
      (⟨canPort c, 31, [(s.objN Obj.MOD_NODE_NUMBER : Nat)]⟩ : TxFrame) ∈ t.tx) ∧
  (∀ (s : State) (c : Fin 2) (key : Nat) (v : Val) (r : ObjRow), canRuns s c = true → (s.net.can[c].st = 5 ∨ s.net.can[c].st = 127) →
      s.admits (canWriter c) key v = true → Inv s → s.mod.mode.running = false → objRow (key / 256) (key % 256) = some r →
      key < 0x600000 → 0x2000 ≤ key / 256 → r.run ≠ .nextReset → isCommandKey key = false → pierOfKey key = none → galOfKey key = none →
      chainOfKey key = none → Completes (.sdoRequest c (.write key v)) s fun t => t.obj key = v ∧ t.net.can[c].sdo = none) ∧
  (∀ (s : State) (c : Fin 2) (key z : Nat), canRuns s c = true → canSends s c = true → (s.net.can[c].st = 5 ∨ s.net.can[c].st = 127) →
      s.alive .house = true → key ≠ Obj.NET_SVC_CHALLENGE → readObj s key = .ok (.int z) → valueSize s key ≤ 4 →
      Completes (.sdoRequest c (.read key)) s fun t => (⟨canPort c, 2, [canPort c, key, z]⟩ : TxFrame) ∈ t.tx ∧ t.objs = s.objs) ∧
  (∀ (s : State) (c : Fin 2) (r : SdoReq), s.net.can[c].st = 4 → Completes (.sdoRequest c r) s fun t => t = s) ∧
  (∀ (s : State) (c : Fin 2) (x : SdoSt), canRuns s c = true → canSends s c = true → s.net.can[c].sdo = some x →
      1000 * cyclesMs < s.since x.at_ → Completes (.sdoTimeout c) s fun t => t.net.can[c].sdo = none ∧
      (⟨canPort c, 1, [canPort c, x.key, 0x05040000]⟩ : TxFrame) ∈ t.tx)

/-- PDOs, SYNC and heartbeats (R335, R337, R338). A received event-driven RPDO in operational applies each mapped write that passes the
arbiter; a synchronous one waits for the SYNC, which applies it. An event-driven TPDO at its instant carries its mapped objects as they
read and goes out. The heartbeat goes out every 0x1017 ms. A heartbeat heard restarts its consumer entry. -/
def Obligations.CanopenProcessData : Prop :=
  (∀ (s : State) (n : Fin 16) (c : Fin 2) (v : Val) (key : Nat) (r : ObjRow), pdoPort s true n = some c → canRuns s c = true →
      s.net.can[c].st = 5 → pdoValid s (Obj.CIA_RPDO_COB n) = true → mappedKeys s (Obj.CIA_RPDO_MAP_COUNT n) = [key] →
      240 < s.objN (Obj.CIA_RPDO_TYPE n) → s.admits (canWriter c) key v = true → Inv s → s.mod.mode.running = false →
      objRow (key / 256) (key % 256) = some r → key < 0x600000 → 0x2000 ≤ key / 256 → r.run ≠ .nextReset → isCommandKey key = false →
      pierOfKey key = none → galOfKey key = none → chainOfKey key = none → Completes (.rpdoReceived n [v]) s fun t => t.obj key = v) ∧
  (∀ (s : State) (n : Fin 16) (c : Fin 2) (data : List Val), pdoPort s true n = some c → canRuns s c = true → s.net.can[c].st = 5 →
      pdoValid s (Obj.CIA_RPDO_COB n) = true → data.length = s.objN (Obj.CIA_RPDO_MAP_COUNT n) → s.objN (Obj.CIA_RPDO_TYPE n) ≤ 240 →
      Completes (.rpdoReceived n data) s fun t => t.net.rpdoWait[n] = some data ∧ t.objs = s.objs) ∧
  (∀ (s : State) (c : Fin 2) (v : Val) (key : Nat) (r : ObjRow), pdoPort s true 2 = some c → canRuns s c = true → s.net.can[c].st = 5 →
      s.net.rpdoWait.toList = .replicate 2 none ++ some [v] :: .replicate 13 none → mappedKeys s (Obj.CIA_RPDO_MAP_COUNT 2) = [key] →
      s.admits (canWriter c) key v = true → Inv s → s.mod.mode.running = false → objRow (key / 256) (key % 256) = some r →
      key = Obj.LGC_CYCLE_PERIOD → Completes (.canSyncReceived c) s fun t => t.obj key = v ∧ t.net.rpdoWait[(2 : Fin 16)] = none) ∧
  (∀ (s : State) (n : Fin 16) (c : Fin 2), pdoPort s false n = some c → tpdoReady s n c = true → 254 ≤ s.objN (Obj.CIA_TPDO_TYPE n) →
      tpdoData s n ≠ s.net.tpdoLast[n] → s.objN (Obj.CIA_TPDO_INHIBIT n) = 0 →
      Completes (.tpdoTransmit n) s fun t => (⟨canPort c, 32, (n.val + 1 : Int) :: tpdoData s n⟩ : TxFrame) ∈ t.tx ∧
      t.net.tpdoLast[n] = tpdoData s n ∧ t.net.tpdoAt[n] = s.now ∧ t.objs = s.objs) ∧
  (∀ (s : State) (c : Fin 2), canSends s c = true → s.net.can[c].booted = true → 0 < s.objN Obj.CIA_HB_PRODUCER →
      s.objN Obj.CIA_HB_PRODUCER * cyclesMs ≤ s.since s.net.can[c].hbAt →
      Completes (.heartbeatProduce c) s fun t => (⟨canPort c, 33, [(s.objN Obj.MOD_NODE_NUMBER : Nat), (s.net.can[c].st : Nat)]⟩ : TxFrame) ∈ t.tx ∧
      t.net.can[c].hbAt = s.now) ∧
  (∀ (s : State) (c : Fin 2) (node : Nat) (e : Fin 4), canRuns s c = true → hbNode s e = node → hbTime s e ≠ 0 →
      Completes (.heartbeatReceived c node) s fun t => t.net.heard[e] = some (s.now, canPort c))

/-- Host SPI, the switch, links, ARP and ICMP (R343, R344, R345, R346, R347). A host SPI request with the next sequence number is served; one
whose CRC fails is answered 0xFF and nothing else changes; the one with the last number is answered from store. Clocked out with RDY_N low
the response is taken, otherwise type 0x00 is read and it stays pending. The bypass opens at the end of ADIT. A link goes up or down with
0x700A. A frame to a known address leaves by its port alone, and its source is learnt. ARP for the module's address and ICMP echo are
answered. -/
def Obligations.HostSpiAndLinks : Prop :=
  (∀ (s : State) (seq key : Nat) (v : Val) (r : ObjRow), (s.net.spiSeq = none ∨ s.net.spiSeq.map (fun q => (q + 1) % 4294967296) = some seq) →
      s.net.spiSeq ≠ some seq → s.admits (.port 1 0) key v = true → Inv s → s.mod.mode.running = false →
      objRow (key / 256) (key % 256) = some r → key < 0x600000 → 0x2000 ≤ key / 256 → r.run ≠ .nextReset → isCommandKey key = false →
      pierOfKey key = none → galOfKey key = none → chainOfKey key = none →
      Completes (.spiFrameReceived true seq (.write key v)) s fun t => t.obj key = v ∧ t.net.spiSeq = some seq ∧
      t.net.spiReply = some [1, (key : Int), 0]) ∧
  (∀ (s : State) (seq key : Nat) (v : Val), (s.net.spiSeq = none ∨ s.net.spiSeq.map (fun q => (q + 1) % 4294967296) = some seq) →
      s.net.spiSeq ≠ some seq → s.alive .house = true → key ≠ Obj.NET_SVC_CHALLENGE → readObj s key = .ok v →
      Completes (.spiFrameReceived true seq (.read key)) s fun t => t.net.spiReply = some (1 :: (key : Int) :: valInts v) ∧
      t.net.spiSeq = some seq ∧ t.objs = s.objs) ∧
  (∀ (s : State) (seq : Nat) (r : SpiReq), s.alive .house = true →
      Completes (.spiFrameReceived false seq r) s fun t => t.net.spiReply = some [0xFF] ∧ t.net.spiSeq = s.net.spiSeq ∧
      t.net.spiLast = s.net.spiLast ∧ t.objs = s.objs) ∧
  (∀ (s : State) (seq : Nat) (r : SpiReq), s.alive .house = true → s.net.spiSeq = some seq → s.net.spiLast ≠ [] →
      Completes (.spiFrameReceived true seq r) s fun t => t.net.spiReply = some s.net.spiLast ∧ t.objs = s.objs ∧
      t.net.rights = s.net.rights) ∧
  (∀ (s : State) (d : List Int), s.alive .house = true → s.net.spiReply = some d →
      Completes (.spiResponseRead true) s fun t => t.net.spiReply = none ∧ (⟨1, 8, d⟩ : TxFrame) ∈ t.tx) ∧
  (∀ (s : State), s.alive .house = true → Completes (.spiResponseRead false) s fun t => t.net.spiReply = s.net.spiReply ∧
      (⟨1, 8, [0]⟩ : TxFrame) ∈ t.tx) ∧
  (∀ (s : State), s.alive .network = true → s.mod.mode ≠ .halt → (s.mod.mode ≠ .adit ∨ s.mod.imageStarted = true) → s.net.bypass = true →
      s.hasRoom 1 = true → s.net.sessions = [] → Completes (.bypassOpen) s fun t => t.net.bypass = false ∧
      newEvent s t 0x700B [0, 0] = true) ∧
  (∀ (s : State) (p : Fin 4) (speed : Nat), s.alive .network = true → s.clk.netLocked = true → p.val < 2 → s.net.bypass = false →
      s.net.link[p] = false → s.hasRoom 1 = true → Completes (.ethLinkChange p true speed) s fun t => t.net.link[p] = true ∧
      newEvent s t 0x700A [p.val + 1, speed] = true) ∧
  (∀ (s : State) (p : Fin 4) (speed : Nat), s.alive .network = true → s.net.link[p] = true → s.net.sessions = [] → s.hasRoom 1 = true →
      Completes (.ethLinkChange p false speed) s fun t => t.net.link[p] = false ∧ newEvent s t 0x700A [p.val + 1, 0] = true) ∧
  (∀ (s : State) (f : EthFrame) (p : Nat), s.alive .network = true → s.net.bypass = false → f.ingress ≤ 2 → switchUp s f.ingress = true →
      f.multicast = false → s.net.macs = [(f.dst, p)] → f.src ≠ f.dst → p ≤ 2 → p ≠ f.ingress → switchUp s p = true → s.tx = [] →
      Completes (.switchFrameForward f) s fun t => t.tx = [⟨2, 25, [(p : Nat), (boolNat f.ptp : Nat), (f.pcp : Nat), (f.src : Nat), (f.dst : Nat)]⟩] ∧
      (f.src, f.ingress) ∈ t.net.macs) ∧
  (∀ (s : State) (port ip : Nat), portUp s port = true → ip = ipAddress s port →
      Completes (.arpRequest port ip) s fun t => (⟨port, 34, [(ip : Nat)]⟩ : TxFrame) ∈ t.tx) ∧
  (∀ (s : State) (port : Nat) (data : List Nat), portUp s port = true →
      Completes (.icmpEchoRequest port data) s fun t => (⟨port, 35, data.map Int.ofNat⟩ : TxFrame) ∈ t.tx)

/-- Sessions of the service protocol (R340, R341, R342). OPEN on a served port creates a session with the lowest free number and answers it.
Within a session the request with the next sequence number is processed: CLOSE ends the session with its ownership and service access;
KEEPALIVE renews it; READ answers the value; WRITE writes by the dictionary rules; READ_SEG answers the bytes from an offset; WRITE_SEG's
last segment writes the whole value; SUBSCRIBE defines a set and period 0 deletes it. The request with the last number is answered from
store with no other effect. A silent session ends after NET_SESSION_TIMEOUT. A set's datagram carries its values at a multiple of its
period, once for each, at every second one while the throttle step is not 0. -/
def Obligations.ServiceProtocol : Prop :=
  (∀ (s : State) (port seq id : Nat), svcServed s port = true → freeSession s = some id → s.hasRoom 1 = true →
      Completes (.svcOpen port seq) s fun t => t.net.sessions.map (fun x => (x.id, x.port, x.seq)) = s.net.sessions.map (fun x => (x.id, x.port, x.seq)) ++ [(id, port, seq % 4294967296)] ∧
      (⟨port, 4, [(id : Nat)]⟩ : TxFrame) ∈ t.tx ∧ newEvent s t 0x700E [port, id, 0] = true) ∧
  (∀ (s : State) (port seq : Nat), svcServed s port = true → freeSession s = none →
      Completes (.svcOpen port seq) s fun t => t.net.sessions.map (fun x => (x.id, x.port, x.seq)) = s.net.sessions.map (fun x => (x.id, x.port, x.seq)) ∧
      (⟨port, 1, [(port : Nat), 0, 0x05040005]⟩ : TxFrame) ∈ t.tx) ∧
  (∀ (s : State) (h : SvcHead) (x : SessionSt), svcServed s h.port = true → s.net.sessions = [x] → x.id = h.session → x.port = h.port →
      h.seq = (x.seq + 1) % 4294967296 → s.hasRoom 2 = true → Inv s → Completes (.svcClose h) s fun t => t.net.sessions = [] ∧
      (∀ r ∈ t.net.rights, r.1 ≠ h.port + 16 * h.session) ∧
      t.objN Obj.NET_OWNER = (if s.objN Obj.NET_OWNER = h.port + 16 * h.session then 0 else s.objN Obj.NET_OWNER) ∧
      newEvent s t 0x700E [h.port, h.session, 1] = true) ∧
  (∀ (s : State) (h : SvcHead) (x : SessionSt), svcServed s h.port = true → s.net.sessions = [x] → x.id = h.session → x.port = h.port →
      h.seq = (x.seq + 1) % 4294967296 →
      Completes (.svcKeepalive h) s fun t => t.net.sessions.map (fun y => (y.id, y.seq, y.lastAt)) = [(x.id, h.seq, s.now)] ∧
      (⟨h.port, 1, [(h.port + 16 * h.session : Nat), 0, 0]⟩ : TxFrame) ∈ t.tx ∧ t.objs = s.objs) ∧
  (∀ (s : State) (h : SvcHead) (x : SessionSt), svcServed s h.port = true → s.net.sessions = [x] → x.id = h.session → x.port = h.port →
      h.seq = x.seq → x.reply ≠ [] → Completes (.svcKeepalive h) s fun t => (⟨h.port, 5, x.reply⟩ : TxFrame) ∈ t.tx ∧
      t.net.sessions = [{ x with lastAt := s.now }] ∧ t.objs = s.objs) ∧
  (∀ (s : State) (h : SvcHead) (key : Nat) (v : Val) (x : SessionSt), svcServed s h.port = true → s.net.sessions = [x] →
      x.id = h.session → x.port = h.port → h.seq = (x.seq + 1) % 4294967296 → s.alive .house = true → key ≠ Obj.NET_SVC_CHALLENGE →
      readObj s key = .ok v → (2 ≤ h.port ∧ h.port ≤ 4) →
      Completes (.svcRead h key) s fun t => (⟨h.port, 2, (h.port + 16 * h.session : Int) :: (key : Int) :: valInts v⟩ : TxFrame) ∈ t.tx ∧
      t.objs = s.objs) ∧
  (∀ (s : State) (h : SvcHead) (key : Nat) (v : Val) (r : ObjRow) (x : SessionSt), svcServed s h.port = true → s.net.sessions = [x] →
      x.id = h.session → x.port = h.port → h.seq = (x.seq + 1) % 4294967296 → s.admits (.port h.port h.session) key v = true → Inv s →
      s.mod.mode.running = false → objRow (key / 256) (key % 256) = some r → key < 0x600000 → 0x2000 ≤ key / 256 → r.run ≠ .nextReset →
      isCommandKey key = false → pierOfKey key = none → galOfKey key = none → chainOfKey key = none →
      Completes (.svcWrite h key v) s fun t => t.obj key = v) ∧
  (∀ (s : State) (h : SvcHead) (key offset : Nat) (v : Val) (x : SessionSt), svcServed s h.port = true → s.net.sessions = [x] →
      x.id = h.session → x.port = h.port → h.seq = (x.seq + 1) % 4294967296 → s.alive .house = true → key ≠ Obj.NET_SVC_CHALLENGE →
      readObj s key = .ok v → offset < (valueBytes s key v).length → (2 ≤ h.port ∧ h.port ≤ 4) →
      Completes (.svcReadSeg h key offset) s fun t => (⟨h.port, 3, (h.port + 16 * h.session : Int) :: (key : Int) :: (offset : Int) :: (((valueBytes s key v).drop offset).take 1024).map Int.ofNat⟩ : TxFrame) ∈ t.tx ∧
      t.objs = s.objs) ∧
  (∀ (s : State) (h : SvcHead) (key offset : Nat) (data before : List Nat) (w : Writer) (challenge : List Nat) (x : SessionSt), svcServed s h.port = true →
      s.net.sessions = [x] → x.id = h.session → x.port = h.port → h.seq = (x.seq + 1) % 4294967296 → s.alive .house = true →
      key = Obj.NET_SVC_RESPONSE → x.partial_ = some (key, before) → offset = before.length → 0 < offset → data.length ≤ 1024 →
      w = .port h.port h.session → s.admits w key (.bytes (before ++ data)) = true → s.net.challenges = [(w.ownerWord, challenge)] →
      Completes (.svcWriteSeg h key offset data true (.bytes [])) s fun t => t.net.challenges = [] ∧
      t.net.sessions.map (fun y => y.partial_) = [none]) ∧
  (∀ (s : State) (h : SvcHead) (key : Nat) (data : List Nat) (v : Val) (x : SessionSt), svcServed s h.port = true → s.net.sessions = [x] →
      x.id = h.session → x.port = h.port → h.seq = (x.seq + 1) % 4294967296 → data.length ≤ 1024 →
      Completes (.svcWriteSeg h key 0 data false v) s fun t => t.net.sessions.map (fun y => y.partial_) = [some (key, data)] ∧
      t.objs = s.objs) ∧
  (∀ (s : State) (h : SvcHead) (q : Fin 8) (ms : Nat) (keys : List Nat) (x : SessionSt), svcServed s h.port = true →
      s.net.sessions = [x] → x.id = h.session → x.port = h.port → h.seq = (x.seq + 1) % 4294967296 → s.alive .house = true → x.sets = [] →
      ms ≠ 0 → setCheck s ms keys = 0 →
      Completes (.svcSubscribe h q ms keys) s fun t => t.net.sessions.map (fun y => y.sets) = [[⟨q.val, ms, keys, 0, s.now⟩]] ∧
      t.objs = s.objs) ∧
  (∀ (s : State) (h : SvcHead) (q : Fin 8) (keys : List Nat) (p : ProcSet) (x : SessionSt), svcServed s h.port = true →
      s.net.sessions = [x] → x.id = h.session → x.port = h.port → h.seq = (x.seq + 1) % 4294967296 → s.alive .house = true →
      x.sets = [p] → p.set = q.val → Completes (.svcSubscribe h q 0 keys) s fun t => t.net.sessions.map (fun y => y.sets) = [[]] ∧
      t.objs = s.objs) ∧
  (∀ (s : State) (session : Nat) (x : SessionSt), s.alive .network = true → s.net.sessions = [x] → x.id = session →
      s.objN Obj.NET_SESSION_TIMEOUT * cyclesMs ≤ s.since x.lastAt → s.hasRoom 2 = true → Inv s →
      Completes (.sessionTimeout session) s fun t => t.net.sessions = [] ∧ (∀ r ∈ t.net.rights, r.1 ≠ x.port + 16 * session) ∧
      t.objN Obj.NET_OWNER = (if s.objN Obj.NET_OWNER = x.port + 16 * session then 0 else s.objN Obj.NET_OWNER) ∧
      newEvent s t 0x700E [x.port, session, 2] = true) ∧
  (∀ (s : State) (session : Nat) (q : Fin 8) (x : SessionSt) (p : ProcSet) (key : Nat) (v : Val), s.net.sessions = [x] → x.id = session →
      x.sets = [p] → p.set = q.val → p.keys = [key] → readObj s key = .ok v → portUp s x.port = true → s.alive .house = true →
      p.sentAt < s.now / (p.ms * cyclesMs) * (p.ms * cyclesMs) → (s.objN Obj.THM_THROTTLE_STEP = 0 ∨ s.now / (p.ms * cyclesMs) % 2 = 0) →
      Completes (.processSetSend x.port session q) s fun t => (⟨x.port, 6, (session : Int) :: (q.val : Int) :: (p.seq : Int) :: (s.now : Int) :: valInts v⟩ : TxFrame) ∈ t.tx ∧
      t.net.sessions.map (fun y => y.sets.map fun z => (z.seq, z.sentAt)) = [[(p.seq + 1, s.now)]] ∧ (s.now % (p.ms * cyclesMs) = 0 →
      t.objs = s.objs)) ∧
  (∀ (s : State) (session : Nat) (q : Fin 8) (x : SessionSt) (p : ProcSet), s.net.sessions = [x] → x.id = session → x.sets = [p] →
      p.set = q.val → s.now / (p.ms * cyclesMs) * (p.ms * cyclesMs) ≤ p.sentAt →
      Completes (.processSetSend x.port session q) s fun t => t = s)

/-- Safe output contactor control (R361, R362, R363, R365). An instance asked to close does so if every condition of R361 holds, counts the
operation and awaits confirmation; otherwise it stays open with 0x8010 and the first condition that fails. Asked to open it opens. A due
test pulse tests the switch whose turn it is; a switch that did not follow latches 0x8013 and de-energises. No confirmation of a close
logs 0x8011 and latches the instance's fault, none of an open 0x8012. A contactor energised for SAF_SOC_PROOF is announced with 0x8014. -/
def Obligations.ContactorControl : Prop :=
  (∀ (s : State) (n : SocId), s.alive .keystone = true → socOwned s n = true → s.standby = false → s.saf.soc[n].test = none →
      s.saf.soc[n].cmd = false → socRefusal s n = none → Inv s → Completes (.socCloseRequest n) s fun t => t.saf.soc[n].cmd = true ∧
      t.saf.soc[n].cmdAt = s.now ∧ t.saf.soc[n].awaited = true ∧
      t.objN (Obj.SAF_SOC_OPERATIONS n) = s.objN (Obj.SAF_SOC_OPERATIONS n) + 1 ∧ t.bit (Obj.SAF_SOC_STATUS n) 0 = true) ∧
  (∀ (s : State) (n : SocId) (cause : Nat), s.alive .keystone = true → socOwned s n = true → s.standby = false →
      s.saf.soc[n].test = none → s.saf.soc[n].cmd = false → socRefusal s n = some cause → s.hasRoom 1 = true →
      Completes (.socCloseRequest n) s fun t => t.saf.soc = s.saf.soc ∧ newEvent s t 0x8010 [n.val + 1, cause] = true) ∧
  (∀ (s : State) (n : SocId), s.alive .keystone = true → socOwned s n = true → s.saf.soc[n].test = none → s.saf.soc[n].cmd = true →
      Inv s → Completes (.socOpenRequest n) s fun t => t.saf.soc[n].cmd = false ∧ t.saf.soc[n].cmdAt = s.now ∧
      t.saf.soc[n].awaited = true ∧ t.bit (Obj.SAF_SOC_STATUS n) 0 = false) ∧
  (∀ (s : State) (n : SocId) (p : Bool × Nat × Nat), s.alive .keystone = true → socOwned s n = true → s.saf.soc[n].test = some p →
      Completes (.socOpenRequest n) s fun t => t = s.modSoc n fun x => { x with wish := some false }) ∧
  (∀ (s : State) (n : SocId), s.alive .keystone = true → socOwned s n = true → s.saf.soc[n].test = none → s.saf.soc[n].fault = false →
      s.objN (Obj.SAF_SOC_TEST_PERIOD n) * cyclesSec ≤ s.since s.saf.soc[n].testAt → Inv s →
      Completes (.socSwitchTest n) s fun t => t.saf.soc[n].test = some (s.saf.soc[n].nextHigh, s.now, cyclesUs (s.objN (Obj.SAF_SOC_PULSE n))) ∧
      t.saf.soc[n].testAt = s.now ∧ t.saf.soc[n].cmd = s.saf.soc[n].cmd ∧ t.bit (Obj.SAF_SOC_STATUS n) 4 = true) ∧
  (∀ (s : State) (n : SocId) (high : Bool) (start len : Nat), s.alive .keystone = true → s.saf.soc[n].test = some (high, start, len) →
      len ≤ s.since start → s.hasRoom 1 = true → Completes (.socTestPulseEnd n false) s fun t => t.saf.soc[n].test = none ∧
      t.saf.soc[n].fault = true ∧ t.saf.soc[n].cmd = false ∧ 0x8013 ∈ t.saf.latched ∧
      newEvent s t 0x8013 [n.val + 1, boolNat high] = true) ∧
  (∀ (s : State) (n : SocId) (high : Bool) (start len : Nat), s.alive .keystone = true → s.saf.soc[n].test = some (high, start, len) →
      len ≤ s.since start → s.saf.soc[n].wish = none → Completes (.socTestPulseEnd n true) s fun t => t.saf.soc[n].test = none ∧
      t.saf.soc[n].nextHigh = !high ∧ t.saf.soc[n].cmd = s.saf.soc[n].cmd ∧ t.saf.soc[n].fault = s.saf.soc[n].fault ∧
      t.saf.latched = s.saf.latched) ∧
  (∀ (s : State) (n : SocId), s.alive .keystone = true → s.saf.soc[n].cmd = true → s.saf.soc[n].awaited = true →
      s.saf.soc[n].disc ≤ s.since s.saf.soc[n].cmdAt → s.hasRoom 1 = true → Inv s →
      Completes (.socCloseDiscrepancy n) s fun t => t.saf.soc[n].fault = true ∧ t.saf.soc[n].cmd = false ∧
      t.bit (Obj.SAF_SOC_STATUS n) 2 = true ∧ newEvent s t 0x8011 [n.val + 1] = true) ∧
  (∀ (s : State) (n : SocId), s.alive .keystone = true → s.saf.soc[n].cmd = false → s.saf.soc[n].awaited = true →
      s.saf.soc[n].energised = true → s.saf.soc[n].disc ≤ s.since s.saf.soc[n].cmdAt → s.hasRoom 1 = true → Inv s →
      Completes (.socOpenDiscrepancy n) s fun t => t.saf.soc[n].fault = true ∧ 0x8012 ∈ t.saf.latched ∧ t.bit Obj.SAF_STATUS 3 = true ∧
      t.mod.lockoutPending = s.mod.lockoutPending ++ [0x8012] ∧ newEvent s t 0x8012 [n.val + 1] = true) ∧
  (∀ (s : State) (n : SocId), s.alive .keystone = true → s.saf.soc[n].energised = true →
      s.objN (Obj.SAF_SOC_PROOF n) * cyclesHour ≤ s.since s.saf.soc[n].energisedAt → s.bit (Obj.SAF_SOC_STATUS n) 3 = false →
      s.hasRoom 1 = true → Inv s → Completes (.socProofDue n) s fun t => t.bit (Obj.SAF_SOC_STATUS n) 3 = true ∧
      t.bit Obj.SAF_STATUS (20 + n.val) = true ∧ t.saf = s.saf ∧
      newEvent s t 0x8014 [n.val + 1, mkRat (s.since s.saf.soc[n].energisedAt : Nat) cyclesHour] = true)

/-- The keystone's diagnostics and latched faults (R355, R356, R357, R443). A lockstep difference halts the cores: every pulse and contactor
permission lapses, 0x8001 is latched and a LOCKOUT is demanded. A failed March test (every 10 s) and a permission echo wrong for 2 µs
latch 0x8001, a rail outside its window at two ticks 0x8002, each with SAF_STATUS bit 3. After 720 h since the reset 0x8008 is logged
once. -/
def Obligations.KeystoneDiagnostics : Prop :=
  (∀ (s : State), s.alive .keystone = true → s.saf.halted = false → s.hasRoom 1 = true → Inv s →
      Completes (.lockstepMismatch) s fun t => t.saf.halted = true ∧ t.isl.contactorEnable = false ∧
      t.isl.pulseEnable = .replicate 6 false ∧ 0x8001 ∈ t.saf.latched ∧ t.mod.lockoutPending = s.mod.lockoutPending ++ [0x8001] ∧
      newEvent s t 0x8001 [1] = true) ∧
  (∀ (s : State), s.alive .keystone = true → 10 * cyclesSec ≤ s.since s.saf.marchAt → s.hasRoom 1 = true → Inv s →
      Completes (.memoryMarchTest false) s fun t => 0x8001 ∈ t.saf.latched ∧ t.bit Obj.SAF_STATUS 3 = true ∧
      t.mod.lockoutPending = s.mod.lockoutPending ++ [0x8001] ∧ newEvent s t 0x8001 [2] = true) ∧
  (∀ (s : State), s.alive .keystone = true → 10 * cyclesSec ≤ s.since s.saf.marchAt →
      Completes (.memoryMarchTest true) s fun t => t = s.modSaf fun x => { x with marchAt := s.now }) ∧
  (∀ (s : State) (rail : Fin 18) (before value lo hi : Rat), s.alive .keystone = true → railWindow rail = some (lo, hi) →
      railExempt s rail = false → (before < lo ∨ hi < before) → (value < lo ∨ hi < value) → s.hasRoom 1 = true → Inv s →
      Completes (.supplyWindowFault rail ⟨before, value⟩) s fun t => 0x8002 ∈ t.saf.latched ∧ t.bit Obj.SAF_STATUS 3 = true ∧
      t.mod.lockoutPending = s.mod.lockoutPending ++ [0x8002] ∧ newEvent s t 0x8002 [rail.val + 31, r32 value] = true) ∧
  (∀ (s : State) (g : GdId) (held : Nat), s.alive .keystone = true → cyclesUs 2 ≤ held → s.hasRoom 1 = true → Inv s →
      Completes (.permissionEchoFault ⟨(.pulseEnable g), held⟩) s fun t => 0x8001 ∈ t.saf.latched ∧ t.bit Obj.SAF_STATUS 3 = true ∧
      newEvent s t 0x8001 [3, g.val + 1] = true) ∧
  (∀ (s : State), s.alive .keystone = true → 720 * cyclesHour ≤ s.since s.saf.resetAt → s.bit Obj.SAF_STATUS 4 = false →
      s.hasRoom 1 = true → Inv s → Completes (.resetDue) s fun t => t.bit Obj.SAF_STATUS 4 = true ∧
      newEvent s t 0x8008 [(s.since s.saf.resetAt / cyclesHour : Nat)] = true)

/-- Safe stops that end badly (R369, R370, R371). An SSD demand by a stop of a stage starts a ramp from the monitored quantity. A ramp and
tail that elapse without completion take the stage to SAFE with cause 0x8022, remove its pulses and open its contactor; below the end
value the stop completes. A difference between keystone and pier beyond the band for 1 ms takes it to SAFE with 0x8025; within the band
nothing is timed. -/
def Obligations.SafeStop : Prop :=
  (∀ (s : State) (n : StageId) (td tr cause : Nat) (x0 : Rat), s.alive .keystone = true → s.saf.ssd[n].ramp = some (td, x0, tr, cause) →
      tr + s.objN (Obj.SAF_SSD_TAIL n) * cyclesMs ≤ s.since td → ssdPar s (Obj.SAF_SSD_END n) ≤ s.saf.ssd[n].x → s.stg[n].st ≠ .safe →
      s.mod.mode ≠ .halt → s.mod.mode ≠ .adit → s.hasRoom 1 = true → Completes (.ssdRampIncomplete n) s fun t => t.stg[n].st = .safe ∧
      t.stg[n].cause = 0x8022 ∧ n ∈ t.saf.removed ∧ newEvent s t 0x8022 [n.val, r32 s.saf.ssd[n].x] = true) ∧
  (∀ (s : State) (n : StageId) (td tr : Nat) (x0 : Rat), s.alive .keystone = true → s.saf.ssd[n].ramp = some (td, x0, tr, 0) →
      tr + s.objN (Obj.SAF_SSD_TAIL n) * cyclesMs ≤ s.since td → s.saf.ssd[n].x < ssdPar s (Obj.SAF_SSD_END n) → s.stg[n].st = .run →
      s.hasRoom 1 = true → Completes (.ssdRampIncomplete n) s fun t => t.stg[n].st = .armed ∧ n ∈ t.saf.removed ∧
      newEvent s t 0x8023 [n.val, mkRat (s.since td : Nat) cyclesMs] = true) ∧
  (∀ (s : State) (n : StageId) (held : Nat), s.alive .keystone = true → s.isSsd n = true → s.switching n = true →
      ssdPar s (Obj.SAF_SSD_BAND n) < absR (s.saf.ssd[n].x - pierMeasure s n) → cyclesMs ≤ held → held ≤ s.now → s.mod.mode ≠ .halt →
      s.mod.mode ≠ .adit → s.hasRoom 1 = true → Completes (.ssdPlausibilityFail n held) s fun t => t.stg[n].st = .safe ∧
      t.stg[n].cause = 0x8025 ∧ n ∈ t.saf.removed ∧ newEvent s t 0x8025 [n.val, r32 s.saf.ssd[n].x, r32 (pierMeasure s n)] = true) ∧
  (∀ (s : State) (n : StageId) (held : Nat), s.alive .keystone = true →
      absR (s.saf.ssd[n].x - pierMeasure s n) ≤ ssdPar s (Obj.SAF_SSD_BAND n) →
      Completes (.ssdPlausibilityFail n held) s fun t => t = s.modSsd n fun q => { q with differs := none }) ∧
  (∀ (s : State) (n : StageId) (w : Writer), s.admits w (Obj.MOD_STAGE_CMD n.val) (.int 2) = true → s.commands w = true →
      stopAllowed (resultingMode s) = true → s.switching n = true → s.isSsd n = true → s.saf.ssd[n].ramp = none →
      ssdPar s (Obj.SAF_SSD_END n) ≤ s.saf.ssd[n].x →
      Completes (.stopStage n w) s fun t => t.saf.ssd[n].ramp = some (s.now, s.saf.ssd[n].x, s.objN (Obj.SAF_SSD_RAMP n) * cyclesMs, 0) ∧
      t.stg[n].st = s.stg[n].st)

/-- Safety connections (R373, R375, R376, R377, R378). A producer sends a unit with the next sequence number and tally. A consumer accepts a
unit that passes the checks: its payload, sequence number and tally are in force. A unit with a wrong check value is counted and its
payload not used; one with a wrong identity takes the connection to its safe value at once. No accepted unit within SAF_CONN_MAX_AGE takes
it there with 0x8031 cause 1, RESTART_CONN with cause 3. A path silent for that time is lost with 0x8033, and the connection goes on. -/
def Obligations.SafetyConnections : Prop :=
  (∀ (s : State) (c : ConnId), s.alive .keystone = true → s.alive .network = true → connOn s c = true → isProducer s c = true →
      isStandby s = false → s.objN (Obj.SAF_CONN_PERIOD c) * cyclesMs ≤ s.since s.saf.conn[c].sentAt →
      Completes (.safetyUnitSend c) s fun t => t.saf.conn[c].seq = (s.saf.conn[c].seq + 1) % 65536 ∧
      t.saf.conn[c].tally = (s.saf.conn[c].tally + 1) % 256 ∧ t.saf.conn[c].sentAt = s.now ∧
      (⟨2, 40, unitAddress s c 2 ++ (unitBytes (s.objN (Obj.SAF_CONN_ID c)) ((s.saf.conn[c].seq + 1) % 65536) ((s.saf.conn[c].tally + 1) % 256) (ntaAt s s.now / 1000) (ntaGood s) false false (producedPayload s c)).map Int.ofNat⟩ : TxFrame) ∈ t.tx) ∧
  (∀ (s : State) (named : Option ConnId) (unit : List Nat) (v : UnitView) (c : ConnId), s.alive .keystone = true →
      s.alive .network = true → v = readUnit unit → unitConn s named v = some c → connOn s c = true → isProducer s c = false →
      v.crcOk = true → v.id = s.objN (Obj.SAF_CONN_ID c) → v.len = connLength s c → unit.length = 20 + (padWord v.payload).length →
      s.saf.conn[c].safe = false → v.seq = (s.saf.conn[c].seq + 1) % 65536 → v.tally = (s.saf.conn[c].tally + 1) % 256 →
      (v.good = false ∨ ntaGood s = false) → Completes (.safetyUnitReceived named unit) s fun t => t.saf.conn[c].payload = v.payload ∧
      t.saf.conn[c].seq = v.seq ∧ t.saf.conn[c].tally = v.tally ∧ t.saf.conn[c].acceptedAt = s.now ∧ t.saf.conn[c].safe = false) ∧
  (∀ (s : State) (named : Option ConnId) (unit : List Nat) (v : UnitView) (c : ConnId), s.alive .keystone = true →
      s.alive .network = true → v = readUnit unit → unitConn s named v = some c → connOn s c = true → isProducer s c = false →
      v.crcOk = false → Inv s →
      Completes (.safetyUnitReceived named unit) s fun t => t.objN (Obj.SAF_CONN_REJECTED c) = s.objN (Obj.SAF_CONN_REJECTED c) + 1 ∧
      t.saf.conn[c].payload = s.saf.conn[c].payload ∧ t.saf.conn[c].safe = s.saf.conn[c].safe ∧ t.saf.conn[c].seq = s.saf.conn[c].seq ∧
      t.saf.conn[c].accepted = 0) ∧
  (∀ (s : State) (named : Option ConnId) (unit : List Nat) (v : UnitView) (c : ConnId), s.alive .keystone = true →
      s.alive .network = true → v = readUnit unit → unitConn s named v = some c → connOn s c = true → isProducer s c = false →
      v.crcOk = true → v.id ≠ s.objN (Obj.SAF_CONN_ID c) →
      Completes (.safetyUnitReceived named unit) s fun t => t.saf.conn[c].safe = true ∧ t.saf.conn[c].payload = [] ∧
      t.saf.conn[c].accepted = 0) ∧
  (∀ (s : State) (c : ConnId), s.alive .keystone = true → connOn s c = true → isProducer s c = false → s.saf.conn[c].safe = false →
      maxAge s c ≤ s.since s.saf.conn[c].acceptedAt → s.hasRoom 1 = true →
      Completes (.connectionTimeout c) s fun t => t.saf.conn[c].safe = true ∧ t.saf.conn[c].payload = [] ∧
      newEvent s t 0x8031 [c.val, 1] = true) ∧
  (∀ (s : State) (c : ConnId) (fallback : Bool), s.alive .keystone = true → connOn s c = true → isProducer s c = false →
      hasFallback s c = true → s.saf.conn[c].pathLost[(if fallback then 1 else 0 : Fin 2)] = false →
      maxAge s c ≤ s.since s.saf.conn[c].pathAt[(if fallback then 1 else 0 : Fin 2)] → s.hasRoom 1 = true →
      Completes (.pathTimeout c fallback) s fun t => t.saf.conn[c].pathLost[(if fallback then 1 else 0 : Fin 2)] = true ∧
      t.saf.conn[c].safe = s.saf.conn[c].safe ∧ t.saf.conn[c].payload = s.saf.conn[c].payload ∧
      newEvent s t 0x8033 [c.val, boolNat fallback] = true) ∧
  (∀ (s : State) (c : ConnId) (w : Writer), s.serves w .keystone = true → connOn s c = true → isProducer s c = false →
      s.saf.conn[c].safe = false → s.hasRoom 1 = true → Completes (.restartConn c w) s fun t => t.saf.conn[c].safe = true ∧
      t.saf.conn[c].payload = [] ∧ t.saf.conn[c].fresh = true ∧ newEvent s t 0x8031 [c.val, 3] = true)

/-- Check-value units (R383, R384, R385, R386). START by the write owner on a free unit that is not reserved makes the source its owner with
nothing fed, and a sending tally is increased. A feed appends its bytes. FINISH in check mode leaves the check value over the bytes fed as
CVU_RESULT and logs 0x9009 with the mismatch bit where it differs from CVU_EXPECT; in send mode it hands on the frame with its tally and
check value; in receive mode it drops a frame whose check value fails, counting it. FINISH frees the unit. A feed of another source
changes nothing. -/
def Obligations.CheckValueUnits : Prop :=
  (∀ (s : State) (u : CvuId) (w : Writer), s.serves w .house = true → cvuForeign s u w = false → Inv s →
      Completes (.cvuStart u w) s fun t => t.nvs.cvu[u].owner = some w ∧ t.nvs.cvu[u].fed = [] ∧
      t.nvs.cvu[u].tally = (if cvuMode s u = 2 ∧
      cvuTally s u ≠ 0 then (s.nvs.cvu[u].tally + 1) % 256 ^ cvuTally s u else s.nvs.cvu[u].tally) ∧ t.field (Obj.CVU_STATUS u) 0 3 = 1) ∧
  (∀ (s : State) (u : CvuId) (data : List Nat) (w : Writer), s.serves w .house = true → cvuForeign s u w = false →
      s.nvs.cvu[u].owner = some w →
      Completes (.cvuFeed u data w) s fun t => t.nvs.cvu[u].fed = s.nvs.cvu[u].fed ++ data.map (fun b => b % 256) ∧
      t.nvs.cvu[u].owner = some w) ∧
  (∀ (s : State) (u : CvuId) (data : List Nat) (w o : Writer), s.nvs.cvu[u].owner = some o → o ≠ w →
      Completes (.cvuFeed u data w) s fun t => t.nvs.cvu = s.nvs.cvu) ∧
  (∀ (s : State) (u : CvuId) (w : Writer), s.serves w .house = true → cvuForeign s u w = false → s.nvs.cvu[u].owner = some w →
      cvuMode s u = 1 → s.hasRoom 1 = true → Inv s →
      Completes (.cvuFinish u w) s fun t => t.objN (Obj.CVU_RESULT u) = cvuCrc s u s.nvs.cvu[u].fed ∧ t.nvs.cvu[u].owner = none ∧
      t.nvs.cvu[u].fed = [] ∧ (cvuCrc s u s.nvs.cvu[u].fed ≠ s.objN (Obj.CVU_EXPECT u) → t.bit (Obj.CVU_STATUS u) 1 = true ∧
      newEvent s t 0x9009 [u.val, cvuCrc s u s.nvs.cvu[u].fed] = true)) ∧
  (∀ (s : State) (u : CvuId) (w : Writer) (c se : Nat), w = .port c se → s.serves w .house = true → cvuForeign s u w = false →
      s.nvs.cvu[u].owner = some w → cvuMode s u = 2 → cvuTally s u = 0 → Inv s →
      Completes (.cvuFinish u w) s fun t => (⟨c, 41, u.val :: (s.nvs.cvu[u].fed ++ bytesBE (cvuCheckBytes s u) (cvuCrc s u s.nvs.cvu[u].fed)).map Int.ofNat⟩ : TxFrame) ∈ t.tx ∧
      t.objN (Obj.CVU_RESULT u) = cvuCrc s u s.nvs.cvu[u].fed ∧ t.nvs.cvu[u].owner = none) ∧
  (∀ (s : State) (u : CvuId) (w : Writer), s.serves w .house = true → cvuForeign s u w = false → s.nvs.cvu[u].owner = some w →
      cvuMode s u = 3 →
      (s.nvs.cvu[u].fed.length < cvuCheckBytes s u ∨ wordBE (s.nvs.cvu[u].fed.drop (s.nvs.cvu[u].fed.length - cvuCheckBytes s u)) ≠ cvuCrc s u (s.nvs.cvu[u].fed.take (s.nvs.cvu[u].fed.length - cvuCheckBytes s u))) →
      Inv s → Completes (.cvuFinish u w) s fun t => t.objN (Obj.CVU_DROPPED u) = s.objN (Obj.CVU_DROPPED u) + 1 ∧
      t.nvs.cvu[u].accepted = s.nvs.cvu[u].accepted ∧ t.nvs.cvu[u].owner = none)

/-- Scrubbing, two-copy records, images, security versions (R387, R390, Table 16.4, R396, R398). A corrected error is counted by memory, an
uncorrectable word logged with 0x9001. A record with two valid and equal copies stays; with two valid unequal copies, or one valid copy
only, the surviving generation is kept with 0x9004; with no valid copy it is lost with 0x9005. A lost dictionary record leaves no saved
value, and one lost together with the configuration backup demands a LOCKOUT with 0x9006. A late round sets the status bit with 0x9002.
COMMIT_VERSION with service access in READY raises the security counter to the running image's version, never lowers it. The first block
of an image asks for the erase of the idle slot, and each block waits for a store; without service access or outside READY none is taken. -/
def Obligations.RecordsAndImages : Prop :=
  (∀ (s : State) (m : Fin 3), s.alive .house = true → Inv s →
      Completes (.scrubStep (.corrected m)) s fun t => t.objN (Obj.NVS_ECC_CORRECTED m.val) = s.objN (Obj.NVS_ECC_CORRECTED m.val) + 1 ∧
      t.nvs = s.nvs) ∧
  (∀ (s : State) (m : Fin 3) (a : Nat), s.alive .house = true → s.hasRoom 1 = true →
      Completes (.scrubStep (.uncorrectable m a)) s fun t => t.nvs = s.nvs ∧ t.objs = s.objs ∧ newEvent s t 0x9001 [m.val, a] = true) ∧
  (∀ (s : State) (r : Fin 3) (g1 g2 : Nat), s.alive .house = true → s.hasRoom 1 = true →
      Completes (.scrubStep (.record r true true false g1 g2)) s fun t => t.nvs.gen[r] = max g1 g2 ∧ t.nvs.lost = s.nvs.lost ∧
      t.saved = s.saved ∧ newEvent s t 0x9004 [r.val, g1, g2] = true) ∧
  (∀ (s : State) (r : Fin 3) (g1 g2 : Nat), Completes (.scrubStep (.record r true true true g1 g2)) s fun t => t = s) ∧
  (∀ (s : State) (r : Fin 3) (e : Bool) (g1 g2 : Nat), s.alive .house = true → s.hasRoom 1 = true →
      Completes (.scrubStep (.record r false false e g1 g2)) s fun t => r ∈ t.nvs.lost ∧ (r = 0 → t.saved = []) ∧ (r ≠ 1 →
      (r = 0 ∨ 0 ∈ s.nvs.lost) → (r = 2 ∨ 2 ∈ s.nvs.lost) → t.mod.lockoutPending = s.mod.lockoutPending ++ [0x9006] ∧
      t.mod.cfgValid = false) ∧ newEvent s t 0x9005 [r.val] = true) ∧
  (∀ (s : State) (m : Fin 3) (seconds : Rat), s.alive .house = true → (longestRound m : Rat) < seconds → s.hasRoom 1 = true → Inv s →
      Completes (.scrubRoundLate m seconds) s fun t => t.bit Obj.NVS_STATUS 0 = true ∧ newEvent s t 0x9002 [m.val, r32 seconds] = true) ∧
  (∀ (s : State) (w : Writer), s.reaches w = true → s.alive .house = true → s.standsBy w = false → serviceOk s w = true →
      s.mod.mode = .ready → Completes (.commitVersion w) s fun t => t.nvs.version = max s.nvs.version s.nvs.running_ ∧
      t.nvs.running_ = s.nvs.running_) ∧
  (∀ (s : State) (b : ImageBlock) (hold : Rat) (w : Writer), s.alive .house = true → serviceOk s w = true → s.mod.mode = .ready →
      s.nvs.stopped = false → s.nvs.writing = none → s.nvs.running = some ⟨.dictionary, 0, none, 0, none⟩ →
      Completes (.imageWriteBlock b hold w) s fun t => t.nvs.writing = some 1 ∧
      t.nvs.waiting = s.nvs.waiting ++ [⟨.erase, 0, none, s.now, some .more⟩, ⟨.image, 0, some w, s.now, some b⟩]) ∧
  (∀ (s : State) (b : ImageBlock) (hold : Rat) (w : Writer) (k : Nat), s.alive .house = true → serviceOk s w = true →
      s.mod.mode = .ready → s.nvs.stopped = false → s.nvs.writing = some k → k % 16 ≠ 0 →
      s.nvs.running = some ⟨.dictionary, 0, none, 0, none⟩ →
      Completes (.imageWriteBlock b hold w) s fun t => t.nvs.writing = some (k + 1) ∧
      t.nvs.waiting = s.nvs.waiting ++ [⟨.image, 0, some w, s.now, some b⟩]) ∧
  (∀ (s : State) (b : ImageBlock) (hold : Rat) (w : Writer), (serviceOk s w = false ∨ s.mod.mode ≠ .ready) →
      Completes (.imageWriteBlock b hold w) s fun t => t.nvs = s.nvs)

/-- Stores and the hold-up check (R391, R352, R394, R439). A store that is requested while none runs starts only if the energy held, from the
measured HOLD voltage and capacitance, is at least the energy it needs; otherwise it waits, is counted and logged with 0x9007. A retry
tests again. A dictionary store that completes saves the values last written and a new generation; a page that verifies moves up to four
records from the buffer to the ring in order; a page that does not retires its sector with 0x900E. After the stop level the module enters
HALT when the store ends. -/
def Obligations.StoresAndHoldUp : Prop :=
  (∀ (s : State) (kind : StoreKind) (lines : Nat) (hold : Rat), s.alive .house = true → s.nvs.stopped = false → s.nvs.running = none →
      s.nvs.waiting = [] → kind ≠ .erase → r32 hold = hold → energyNeeded s kind lines ≤ energyHeld s hold →
      Completes (.storeRequest kind lines hold) s fun t => t.nvs.running = some ⟨kind, lines, none, s.now, none⟩ ∧ t.nvs.waiting = []) ∧
  (∀ (s : State) (kind : StoreKind) (lines : Nat) (hold : Rat), s.alive .house = true → s.nvs.stopped = false → s.nvs.running = none →
      s.nvs.waiting = [] → kind ≠ .erase → r32 hold = hold → energyHeld s hold < energyNeeded s kind lines → s.nvs.deferred = [] →
      s.hasRoom 1 = true → Inv s → Completes (.storeRequest kind lines hold) s fun t => t.nvs.running = none ∧
      t.nvs.waiting = [⟨kind, lines, none, s.now, none⟩] ∧ t.objN Obj.NVS_DEFERRED = s.objN Obj.NVS_DEFERRED + 1 ∧
      newEvent s t 0x9007 [storeOrder kind, r32 (energyHeld s hold), r32 (energyNeeded s kind lines)] = true) ∧
  (∀ (s : State) (kind : StoreKind) (lines : Nat) (hold : Rat), s.nvs.stopped = true →
      Completes (.storeRequest kind lines hold) s fun t => t = s) ∧
  (∀ (s : State) (hold : Rat) (x : StoreSt), s.alive .house = true → s.nvs.stopped = false → s.nvs.running = none → s.nvs.waiting = [x] →
      cyclesMs ≤ s.since s.nvs.retryAt → x.writer = none → x.kind ≠ .erase → energyNeeded s x.kind x.lines ≤ energyHeld s hold →
      Completes (.storeRetry hold) s fun t => t.nvs.running = some x ∧ t.nvs.waiting = []) ∧
  (∀ (s : State) (verified : Bool) (hold : Rat) (x : StoreSt), s.alive .house = true → s.nvs.running = some x → x.kind = .dictionary →
      s.nvs.waiting = [] → s.nvs.stopped = false → Completes (.storeComplete verified hold) s fun t => t.saved = savedView s ∧
      t.nvs.gen[(0 : Fin 3)] = s.nvs.gen[(0 : Fin 3)] + 1 ∧ t.nvs.running = none ∧ t.mod.cfgValid = true) ∧
  (∀ (s : State) (hold : Rat) (x : StoreSt), s.alive .house = true → s.nvs.running = some x → x.kind = .logPage → s.nvs.waiting = [] →
      s.nvs.stopped = false → Completes (.storeComplete true hold) s fun t => t.logFlash = s.logFlash ++ s.logBuf.take 4 ∧
      t.logBuf.take (s.logBuf.length - 4) = s.logBuf.drop 4 ∧ (t.nvs.page = (if s.nvs.page + 1 < 16 then s.nvs.page + 1 else 0))) ∧
  (∀ (s : State) (hold : Rat) (x : StoreSt), s.alive .house = true → s.nvs.running = some x → x.kind = .logPage → s.nvs.waiting = [] →
      s.nvs.stopped = false → s.hasRoom 1 = true →
      Completes (.storeComplete false hold) s fun t => t.nvs.retired = s.nvs.sector :: s.nvs.retired ∧
      t.nvs.sector = nextSector { s.nvs with retired := t.nvs.retired } ∧ t.nvs.page = 0 ∧ t.logFlash = s.logFlash ∧
      newEvent s t 0x900E [s.nvs.sector] = true) ∧
  (∀ (s : State) (verified : Bool) (hold : Rat) (x : StoreSt), s.alive .house = true → s.nvs.running = some x → s.nvs.stopped = true →
      Completes (.storeComplete verified hold) s fun t => t.mod.mode = .halt ∧ t.mod.powered = false ∧ t.nvs.running = none ∧
      t.logBuf = []) ∧
  (∀ (s : State) (hold : Rat), s.alive .house = true → s.nvs.stopped = false → s.nvs.running = none → s.nvs.waiting = [] → s.logBuf ≠ [] →
      s.objN Obj.THM_THROTTLE_STEP = 0 → energyNeeded s .logPage 0 ≤ energyHeld s hold →
      Completes (.logPageWrite hold) s fun t => t.nvs.running = some ⟨.logPage, 0, none, s.now, none⟩ ∧ t.nvs.pageAt = some s.now ∧
      t.logBuf = s.logBuf)

/-- The link and pair lock (R402, R403, R405, R406, R407). The link comes up on one or two lanes with 0xA001 and what the partner sent of
itself; in a viaduct with opposite designations, one firmware and the sources of Table 17.2 the pair is formed, with equal designations it
is in conflict. Down, after 800 ns of silence or three bad frames, it loses pair lock; bad frames are counted. A lane lost leaves one
lane, and its return two. Conditions held for 10 ms give pair lock with the grid phase and 0xA005. A read through the window answers what
the secondary answers, and a write goes across only with write ownership. -/
def Obligations.ClauzLink : Prop :=
  (∀ (s : State) (id : PartnerId) (lanes : Vector Bool 2) (c : Nat), s.alive .link = true → s.twn.link = 0 → s.twn.mode = 1 →
      c = boolNat lanes[(0 : Fin 2)] + boolNat lanes[(1 : Fin 2)] → c ≠ 0 → id.primary = (!s.twn.primary) → id.pairMode = 1 →
      id.fw = s.objN Obj.MOD_FW_VERSION → s.bit Obj.TIM_REF_CFG 0 = (!s.twn.primary) → id.source = s.twn.primary → s.hasRoom 1 = true →
      Completes (.clauzLinkUp id lanes) s fun t => t.twn.link = c + 1 ∧ t.twn.partner = some id ∧ t.twn.formed = true ∧
      t.twn.conflict = false ∧ t.twn.mismatch = false ∧
      newEvent s t 0xA001 [c + 1, (boolNat lanes[(0 : Fin 2)] + 2 * boolNat lanes[(1 : Fin 2)] : Nat)] = true) ∧
  (∀ (s : State) (id : PartnerId) (lanes : Vector Bool 2), s.alive .link = true → s.twn.link = 0 → s.twn.mode ≠ 0 →
      (lanes[(0 : Fin 2)] = true ∨ lanes[(1 : Fin 2)] = true) → id.primary = s.twn.primary → s.hasRoom 2 = true →
      Completes (.clauzLinkUp id lanes) s fun t => t.twn.formed = false ∧ t.twn.conflict = true ∧ newEvent s t 0xA003 [] = true) ∧
  (∀ (s : State), s.alive .link = true → s.twn.link ≠ 0 → s.hasRoom 1 = true → Completes (.clauzLinkDown) s fun t => t.twn.link = 0 ∧
      t.twn.lanes = .replicate 2 false ∧ (s.twn.mode ≠ 0 → t.twn.lock = false) ∧ newEvent s t 0xA001 [0, 0] = true) ∧
  (∀ (s : State) (lane : Fin 2), s.alive .link = true → s.twn.link = 3 → s.hasRoom 1 = true →
      Completes (.clauzLaneLost lane) s fun t => t.twn.link = 2 ∧ t.twn.lanes[lane] = false ∧ t.twn.lock = s.twn.lock ∧
      newEvent s t 0xA002 [lane.val] = true) ∧
  (∀ (s : State) (lane : Fin 2), s.alive .link = true → s.twn.link = 2 → s.twn.lanes[lane] = false → s.hasRoom 1 = true →
      Completes (.clauzLaneRegained lane) s fun t => t.twn.link = 3 ∧ t.twn.lanes[lane] = true ∧ newEvent s t 0xA002 [lane.val] = true) ∧
  (∀ (s : State) (phase : Int) (from_ : Nat), s.alive .edge = true → s.twn.mode ≠ 0 → s.twn.lock = false → s.twn.lockFrom = some from_ →
      lockFault s = none → 10 * cyclesMs ≤ s.since from_ → s.hasRoom 1 = true → Inv s →
      Completes (.pairLockRegained phase) s fun t => t.twn.lock = true ∧ t.twn.phase = phase ∧ (s.twn.primary = false →
      t.obj Obj.TWN_GRID_PHASE = .int phase) ∧ newEvent s t 0xA005 [0] = true) ∧
  (∀ (s : State) (v : Val) (w : Writer) (c se : Nat), w = .port c se → (2 ≤ c ∧ c ≤ 4) → s.reaches w = true → s.alive .house = true →
      s.alive .link = true → s.twn.mode = 1 → s.twn.primary = true → 2 ≤ s.twn.link →
      Completes (.partnerWindowAccess (.read 0 v) w) s fun t => (⟨9, 52, [(s.twn.winTarget : Nat)]⟩ : TxFrame) ∈ t.tx ∧
      (⟨c, 2, (c + 16 * se : Int) :: (Obj.TWN_WIN_DATA : Int) :: valInts v⟩ : TxFrame) ∈ t.tx) ∧
  (∀ (s : State) (v : Val) (a : Nat) (w : Writer), s.reaches w = true → s.alive .house = true → s.alive .link = true → s.twn.mode = 1 →
      s.twn.primary = true → 2 ≤ s.twn.link → s.accepts w = true →
      Completes (.partnerWindowAccess (.write v a) w) s fun t => (⟨9, 53, (s.twn.winTarget : Int) :: valInts v⟩ : TxFrame) ∈ t.tx) ∧
  (∀ (s : State) (v : Val) (a : Nat) (w : Writer), s.accepts w = false →
      Completes (.partnerWindowAccess (.write v a) w) s fun t => t.tx.filter (fun f => f.kind == 53) = s.tx.filter (fun f => f.kind == 53) ∧
      t.twn = s.twn)

/-- Comparison and arbitration in a duplex pair (R410, R411, R412, R417, R418). The standby applies a write forwarded from the active module,
at once or when its instant comes. An input difference beyond tolerance takes ARMED from the standby with 0xA00D, one second without it
returns the check. A digest is compared with the tally and check value of the own set of that k, and waits for it where that has not been
sent. Equal ones clear a stage's count; an unequal one is counted with 0xA006, and the second in a row starts arbitration with 0xA007.
With the own verdict standing the partner's verdict decides by Table 17.4: the module that fails while the other is sound fences itself
with 0xA009, and where both are sound with one residual acted in both the plant is at fault: 0x2308; 2 µs without it the module decides
alone. -/
def Obligations.DuplexComparison : Prop :=
  (∀ (s : State) (key : Nat) (v : Val) (at_ : Nat) (r : ObjRow), s.alive .link = true → s.standby = true → 2 ≤ s.twn.link → at_ = 0 →
      s.isl.lately = [] → Inv s → s.mod.mode.running = false → objRow (key / 256) (key % 256) = some r → key = Obj.LGC_CYCLE_PERIOD →
      Completes (.forwardedWrite key v at_) s fun t => t.obj key = v ∧ t.objN Obj.NET_OWNER = s.objN Obj.NET_OWNER ∧
      t.net.rights = s.net.rights) ∧
  (∀ (s : State) (key : Nat) (v : Val) (at_ : Nat), s.alive .link = true → s.standby = true → 2 ≤ s.twn.link → at_ ≠ 0 →
      s.replicaOf .link < mtOfTt s at_ → mtOfTt s at_ ≤ s.replicaOf .link + 2147483648 → s.isl.held = [] →
      Completes (.forwardedWrite key v at_) s fun t => t = s.modIsl fun x => { x with held := [⟨⟨.link, .service, 0, true, some (mtOfTt s at_), .forwarded key v⟩, false⟩] }) ∧
  (∀ (s : State) (key : Nat) (v : Val) (at_ : Nat), s.standby = false → Completes (.forwardedWrite key v at_) s fun t => t = s) ∧
  (∀ (s : State) (c : AdcId) (diffs : Vector Rat 8), s.alive .sample = true → s.standby = true → s.objN (Obj.TWN_CH_WIRING c) = 0 →
      diffs.toList.all (fun d => decide ((s.objN Obj.TWN_XCHECK_TOL : Rat) < absR d * 10000)) = true → s.alive .keystone = true →
      s.saf.halted = false → s.twn.xfail = false → s.hasRoom 1 = true → Completes (.xcheckFail c diffs) s fun t => t.twn.xfail = true ∧
      t.twn.xfailAt = s.now ∧ t.twn.armed = false ∧ newEvent s t 0xA00D [c.val + 1, r32 diffs[(7 : Fin 8)]] = true) ∧
  (∀ (s : State), s.alive .sample = true → s.twn.xfail = true → cyclesSec ≤ s.since s.twn.xfailAt →
      Completes (.xcheckClear) s fun t => t.twn.xfail = false) ∧
  (∀ (s : State) (n : StageId) (k tally check : Nat) (e : SentSet), s.alive .link = true → s.twn.mode = 2 → 2 ≤ s.twn.link →
      s.twn.digests = [] → s.pie[n].sent.find? (fun e => e.k == k) = some e → e.tally = tally → e.check = check →
      Completes (.digestReceived n k ⟨tally, check⟩) s fun t => t = s.modTwn fun x => { x with diffs := x.diffs.set n 0 }) ∧
  (∀ (s : State) (n : StageId) (k tally check : Nat), s.alive .link = true → s.twn.mode = 2 → 2 ≤ s.twn.link → s.twn.digests.length < 64 →
      s.pie[n].sent.find? (fun e => e.k == k) = none →
      Completes (.digestReceived n k ⟨tally, check⟩) s fun t => t = s.modTwn fun x => { x with digests := x.digests ++ [(n, k, tally, check)] }) ∧
  (∀ (s : State) (n : StageId) (k tally check : Nat) (e : SentSet), s.alive .link = true → s.twn.mode = 2 → 2 ≤ s.twn.link →
      s.twn.digests = [] → s.pie[n].sent.find? (fun e => e.k == k) = some e → (e.tally ≠ tally ∨ e.check ≠ check) → s.pie[n].work = none →
      s.twn.diffs[n] = 1 → s.twn.arb = none → s.twn.selfFenced = false → s.fenced (.pier n) = false → s.hasRoom 2 = true → Inv s →
      Completes (.digestReceived n k ⟨tally, check⟩) s fun t => t.objN Obj.TWN_MISMATCHES = s.objN Obj.TWN_MISMATCHES + 1 ∧
      t.twn.arb = some ⟨n, 0xA006, none, s.now, none⟩ ∧ t.pie[n].selftest = some s.now ∧ newEvent s t 0xA006 [n.val, k] = true ∧
      newEvent s t 0xA007 [0xA006, n.val] = true) ∧
  (∀ (s : State) (armed : Bool) (acted : List (Fin 6)) (n : StageId) (at_ trigger : Nat), s.alive .link = true → s.twn.mode = 2 →
      2 ≤ s.twn.link → s.standby = true → s.twn.arb = some ⟨n, trigger, some false, at_, none⟩ → s.hasRoom 2 = true →
      Completes (.arbitrationVerdictReceived true armed acted) s fun t => t.twn.arb = none ∧ t.twn.selfFenced = true ∧
      t.twn.request = false ∧ t.twn.armed = false ∧ t.mod.lockoutPending = s.mod.lockoutPending ++ [0xA009] ∧
      newEvent s t 0xA009 [n.val, 0] = true ∧ newEvent s t 0xA008 [0, 1, 1] = true) ∧
  (∀ (s : State) (acted : List (Fin 6)) (n : StageId) (at_ trigger : Nat), s.alive .link = true → s.twn.mode = 2 → 2 ≤ s.twn.link →
      s.standby = false → s.twn.arb = some ⟨n, trigger, some false, at_, none⟩ → s.hasRoom 2 = true →
      Completes (.arbitrationVerdictReceived true true acted) s fun t => t.twn.arb = none ∧ t.twn.selfFenced = true ∧
      t.twn.request = false ∧ t.stg[n].st = s.stg[n].st ∧ newEvent s t 0xA009 [n.val, 0] = true ∧ newEvent s t 0xA008 [0, 1, 2] = true) ∧
  (∀ (s : State) (armed : Bool) (acted : List (Fin 6)) (n : StageId) (at_ trigger : Nat) (j : Fin 6), s.alive .link = true →
      s.twn.mode = 2 → 2 ≤ s.twn.link → s.standby = false → s.twn.arb = some ⟨n, trigger, some true, at_, none⟩ →
      acted.contains j = true → (actedLately s n).contains j = true → s.mod.mode ≠ .halt → s.mod.mode ≠ .adit → s.stg[n].st ≠ .safe →
      s.hasRoom 2 = true → Completes (.arbitrationVerdictReceived true armed acted) s fun t => t.twn.arb = none ∧
      t.twn.selfFenced = s.twn.selfFenced ∧ t.stg[n].st = .safe ∧ t.stg[n].cause = 0x2308 ∧ newEvent s t 0xA008 [1, 1, 0] = true) ∧
  (∀ (s : State) (pass armed : Bool) (acted : List (Fin 6)), s.twn.arb = none →
      Completes (.arbitrationVerdictReceived pass armed acted) s fun t => t = s) ∧
  (∀ (s : State) (n : StageId) (at_ : Nat), s.alive .keystone = true → s.standby = false →
      s.twn.arb = some ⟨n, 0x2308, some false, at_, none⟩ → cyclesUs 2 ≤ s.since at_ → s.mod.mode ≠ .halt → s.mod.mode ≠ .adit →
      s.stg[n].st ≠ .safe → s.hasRoom 2 = true → Completes (.arbitrationTimeout) s fun t => t.twn.arb = none ∧ t.stg[n].st = .safe ∧
      t.stg[n].cause = 0x2308 ∧ newEvent s t 0xA008 [0, 2, 3] = true)

/-- The interlock, take-over, return and handover (R413, R414, R416, R419, R420, R421). The active secondary that sees its partner's claim
becomes the standby and write ownership lapses. The ARMED standby that sees no claim for 1 µs claims, and with GRANT takes over: it is
active, the take-over is counted with 0xA00A. Without GRANT for 20 µs and without a claim of the partner a die applies its pattern, with
GI at +15 V. A held claim lapses with the keystone. When the hold-off ends, or HANDOVER is commanded, the handover instant is set and
proposed; at it the active module releases its claim. -/
def Obligations.InterlockAndHandover : Prop :=
  (∀ (s : State), s.alive .keystone = true → s.twn.mode = 2 → s.twn.claimIn = .released → s.twn.active = true → s.twn.primary = false →
      s.twn.handover = none → s.hasRoom 4 = true → Inv s → Completes (.claimInChange .asserted) s fun t => t.twn.claimIn = .asserted ∧
      t.twn.claimSince = s.now ∧ t.twn.active = false ∧ t.twn.request = false ∧ t.twn.armed = false ∧ t.lgc.running = false ∧
      t.objN Obj.NET_OWNER = 0 ∧ t.twn.grant = false) ∧
  (∀ (s : State), s.alive .keystone = true → s.twn.mode = 2 → s.twn.claimIn = .released → s.twn.active = true → s.twn.primary = true →
      s.twn.request = true → Completes (.claimInChange .asserted) s fun t => t.twn.active = true ∧ t.twn.request = true ∧
      t.twn.claimIn = .asserted ∧ t.twn.grant = false) ∧
  (∀ (s : State), s.alive .keystone = true → s.standby = true → s.twn.armed = true → s.mod.mode.running = true →
      s.twn.claimIn = .released → cyclesUs 1 ≤ s.since s.twn.claimSince → s.mod.powered = true → s.objN Obj.NET_OWNER = 0 →
      s.twn.handover = none → s.hasRoom 3 = true → Inv s → Completes (.autoClaim) s fun t => t.twn.active = true ∧ t.twn.request = true ∧
      t.twn.grant = true ∧ t.twn.armed = false ∧ t.objN Obj.TWN_TAKEOVERS = s.objN Obj.TWN_TAKEOVERS + 1) ∧
  (∀ (s : State), s.twn.armed = false → Completes (.autoClaim) s fun t => t = s) ∧
  (∀ (s : State) (g : GdId), s.alive (.gdPrimary g) = true → s.twn.mode = 2 → s.mod.mode.running = true → s.twn.request = false →
      s.twn.auto = false → s.twn.claimIn = .released → s.gdv.noHolder[g] = false →
      cyclesUs 20 ≤ s.since (max s.twn.grantLost s.mod.enteredAt) → Completes (.noHolderTimeout g) s fun t => t.gdv.noHolder[g] = true ∧
      (∀ d : DrvId, dieOf d = g → s.mod.powered = true → s.gdv.uvlo = false → gateIsolate t d = 15)) ∧
  (∀ (s : State), s.twn.held = true → s.saf.halted = true → Completes (.claimHoldLapse) s fun t => t.twn.held = false ∧ (s.twn.mode = 2 →
      t.twn.grant = false)) ∧
  (∀ (s : State) (start len : Nat), s.alive .keystone = true → s.twn.holdoff = some (start, len) → returnHolds s = true →
      s.twn.handover = none → len * cyclesSec ≤ s.since start → Completes (.returnHoldoffEnd) s fun t => t.twn.holdoff = none ∧
      t.twn.handover = some (handoverInstant s, 3) ∧ (2 ≤ s.twn.link → (⟨9, 49, [ttCycles s (handoverInstant s)]⟩ : TxFrame) ∈ t.tx)) ∧
  (∀ (s : State) (w : Writer), s.admits w Obj.TWN_CMD (.int 0x5A01) = true → s.accepts w = true → s.twn.mode = 2 → s.twn.active = true →
      s.mod.mode = .form → partnerArmed s = true → s.twn.lock = true → s.twn.handover = none → s.twn.holdoff = none →
      Completes (.handoverCmd w) s fun t => t.twn.handover = some (handoverInstant s, 0) ∧ t.twn.active = true) ∧
  (∀ (s : State) (at_ : Nat), s.alive .keystone = true → s.twn.handover = some (at_, 0) → at_ ≤ s.now → s.twn.active = true →
      Completes (.handoverPass) s fun t => t.twn.request = false ∧ (s.twn.mode = 2 → s.twn.auto = false → t.twn.grant = false) ∧
      t.twn.active = true) ∧
  (∀ (s : State) (at_ : Nat), s.alive .keystone = true → s.standby = true → s.twn.handover = some (at_, 1) → at_ ≤ s.now →
      s.mod.powered = true → s.twn.claimIn = .released → s.hasRoom 1 = true → Completes (.handoverPass) s fun t => t.twn.active = true ∧
      t.twn.request = true ∧ t.twn.grant = true ∧ t.twn.handover = none ∧ newEvent s t 0xA00B [boolNat (!s.twn.primary)] = true)

/-- Contactor drivers: commands, overcurrent, open coil, readback (R433, R434). A FIELD_OUT command drives a driver without an owner and is
counted as ignored by one with an owner. More than 4.0 A for 10 µs latches the driver off with event 0xB008; CLEAR releases it while the
driver has no owner and is commanded off. An open coil while energised sets OPEN_COIL with event 0xB009, normal current clears it; a
terminal that does not follow sets DISCREPANT with event 0xB00A. -/
def Obligations.ContactorDrivers : Prop :=
  (∀ (s : State) (d : SocId) (on : Bool) (instant : Nat), s.alive .abutment = true → socOwned s d = false →
      Completes (.contactorDriverCommand d on instant) s fun t => t.fio.drv[d].cmd = on) ∧
  (∀ (s : State) (d : SocId) (on : Bool) (instant : Nat), s.alive .abutment = true → Inv s → s.hasRoom 1 = true → socOwned s d = true →
      Completes (.contactorDriverCommand d on instant) s fun t => t.fio.drv[d].cmd = s.fio.drv[d].cmd ∧
      t.objN (Obj.FIO_CD_IGNORED d) = s.objN (Obj.FIO_CD_IGNORED d) + 1) ∧
  (∀ (s : State) (d : SocId) (amps : Rat) (held : Nat), s.alive .abutment = true → 4 < amps → cyclesUs 10 ≤ held →
      s.fio.drv[d].overc = false → s.hasRoom 1 = true → Completes (.cdOvercurrent d ⟨amps, held⟩) s fun t => t.fio.drv[d].overc = true ∧
      newEvent s t 0xB008 [d.val + 1, r32 amps] = true) ∧
  (∀ (s : State) (d : SocId) (w : Writer), s.serves w .abutment = true → s.accepts w = true → socOwned s d = false →
      drvWanted s d = false → Completes (.cdClear d w) s fun t => t.fio.drv[d].overc = false) ∧
  (∀ (s : State) (d : SocId) (amps : Rat) (held : Nat), s.alive .abutment = true → amps < mkRat 1 50 → 50 * cyclesMs ≤ held → Inv s →
      s.fio.drv[d].high = true → s.fio.drv[d].low = true → s.bit (Obj.FIO_CD_STATUS d) 3 = false → s.hasRoom 1 = true →
      Completes (.cdOpenCoil d ⟨amps, held⟩) s fun t => t.bit (Obj.FIO_CD_STATUS d) 3 = true ∧ newEvent s t 0xB009 [d.val + 1] = true) ∧
  (∀ (s : State) (d : SocId) (amps : Rat) (held : Nat), s.alive .abutment = true → mkRat 1 50 ≤ amps → 50 * cyclesMs ≤ held → Inv s →
      s.fio.drv[d].high = true → s.fio.drv[d].low = true →
      Completes (.cdOpenCoilEnd d ⟨amps, held⟩) s fun t => t.bit (Obj.FIO_CD_STATUS d) 3 = false) ∧
  (∀ (s : State) (d : SocId) (highSide : Bool) (held : Nat), s.alive .abutment = true → cyclesMs ≤ held → Inv s → socOwned s d = false →
      s.bit (Obj.FIO_CD_STATUS d) 4 = false → s.hasRoom 1 = true →
      Completes (.cdReadbackMismatch d ⟨highSide, held⟩) s fun t => t.bit (Obj.FIO_CD_STATUS d) 4 = true ∧
      newEvent s t 0xB00A [d.val + 1, boolNat highSide] = true)

/-- Digital inputs: filter and line fault; 24 V outputs: commands, latches, FIELD24, forcing (R426, R427, R428, R430, R431, R435). On a living
abutment the samples of an input are judged one by one: the closed sample with which the filter counter reaches FIO_DI_FILTER and the open
one with which it reaches 0 set the filtered state, unless a line fault holds it; in wire-break mode the sample with which a wire-break or
short class has lasted FIO_DI_FILTER samples raises a line fault with event 0xB001 or 0xB002 and leaves state and counter; the sample with
which a contact window has lasted as long ends the fault with event 0xB003 and the filtered state takes the contact's state. An output
takes its command at arrival, and a command off releases its overload latch (no forcing). Overload (more than 0.6 A for 10 ms, or the
current limit for 1 ms) latches it off with event 0xB004. An open wire for 50 ms sets OPEN_WIRE with event 0xB005 and its absence for 50
ms clears it. A junction above 150 °C turns it off with event 0xB006 until it is below 135 °C. FIELD24 below 16.5 V or above 36 V for 1 ms
turns every output off with event 0xB007, its return to 17.5 to 35 V for 10 ms ends that. FIO_FORCE in READY with service access sets the
forced pattern, and an output forced off loses its overload latch. -/
def Obligations.FieldInputsAndOutputs : Prop :=
  (∀ (s : State) (d : DiId) (q : DiSample), s.alive .abutment = true → s.fio.di[d].fault = none → s.fio.di[d].fresh = false →
      s.fio.di[d].st = false → diClass s d q = none → diRaw s d q = true → s.fio.di[d].count + 1 = s.objN (Obj.FIO_DI_FILTER d) →
      Completes (.diStateChange d [q]) s fun t => t.fio.di[d].st = true ∧ t.fio.di[d].raw = true ∧ t.fio.di[d].changedAt = s.now ∧
      t.fio.di[d].count = s.objN (Obj.FIO_DI_FILTER d)) ∧
  (∀ (s : State) (d : DiId) (q : DiSample), s.alive .abutment = true → s.fio.di[d].fault = none → s.fio.di[d].fresh = false →
      s.fio.di[d].st = true → diClass s d q = none → diRaw s d q = false → s.fio.di[d].count = 1 → 0 < s.objN (Obj.FIO_DI_FILTER d) →
      Completes (.diStateChange d [q]) s fun t => t.fio.di[d].st = false ∧ t.fio.di[d].raw = false ∧ t.fio.di[d].changedAt = s.now ∧
      t.fio.di[d].count = 0) ∧
  (∀ (s : State) (d : DiId) (q : DiSample) (rest : List DiSample), s.alive .abutment = true → s.fio.di[d].fault ≠ none →
      diClass s d q ≠ none → rest = [] → Completes (.diStateChange d (q :: rest)) s fun t => t.fio.di[d].st = s.fio.di[d].st ∧
      t.fio.di[d].count = s.fio.di[d].count ∧ t.fio.di[d].fault ≠ none) ∧
  (∀ (s : State) (d : DiId) (q : DiSample) (kind : LineFault), s.alive .abutment = true → diClass s d q = some kind →
      s.fio.di[d].cls = some kind → s.fio.di[d].run + 1 = s.objN (Obj.FIO_DI_FILTER d) → s.fio.di[d].fault ≠ some kind →
      s.hasRoom 1 = true → Completes (.diLineFault d q []) s fun t => t.fio.di[d].fault = some kind ∧ t.fio.di[d].st = s.fio.di[d].st ∧
      t.fio.di[d].count = s.fio.di[d].count ∧
      newEvent s t (match kind with | .wireBreak => 0xB001 | .short => 0xB002) [d.val + 1, r32 q.mA] = true) ∧
  (∀ (s : State) (d : DiId) (q : DiSample), s.alive .abutment = true → diClass s d q = none → s.fio.di[d].cls = none →
      s.fio.di[d].run + 1 = s.objN (Obj.FIO_DI_FILTER d) → s.fio.di[d].fault ≠ none → s.hasRoom 1 = true →
      Completes (.diLineFaultEnd d q []) s fun t => t.fio.di[d].fault = none ∧ t.fio.di[d].st = diRaw s d q ∧
      newEvent s t 0xB003 [d.val + 1] = true) ∧
  (∀ (s : State) (d : DiId) (q : DiSample) (samples more : List DiSample), diFeed d (samples ++ more) s = diFeed d more (diFeed d samples s) ∧
      exec (.diStateChange d samples) s = .next (diFeed d samples s) ∧
      exec (.diLineFault d q samples) s = .next (diFeed d (q :: samples) s) ∧
      exec (.diLineFaultEnd d q samples) s = .next (diFeed d (q :: samples) s)) ∧
  (∀ (s : State) (o : DoId) (on : Bool) (instant : Nat), s.alive .abutment = true →
      Completes (.fieldOutputCommand o on instant) s fun t => t.fio.out[o].cmd = on ∧ (on = false → s.fio.force = none →
      t.fio.out[o].overload = false)) ∧
  (∀ (s : State) (o : DoId) (amps : Rat) (limiting : Bool) (held : Nat), s.alive .abutment = true → ((mkRat 3 5 < amps ∧
      10 * cyclesMs ≤ held) ∨ (limiting = true ∧ cyclesMs ≤ held)) → outOn s o = true → s.hasRoom 1 = true →
      Completes (.doOverload o ⟨amps, limiting, held⟩) s fun t => t.fio.out[o].overload = true ∧ outOn t o = false ∧
      newEvent s t 0xB004 [o.val + 1, r32 amps] = true) ∧
  (∀ (s : State) (o : DoId) (amps volts : Rat) (held : Nat), s.alive .abutment = true → wireOpen s o amps volts = true →
      50 * cyclesMs ≤ held → Inv s → s.fio.f24Bad = false → s.bit (Obj.FIO_DO_CFG o) 0 = true → s.bit (Obj.FIO_DO_STATUS o) 2 = false →
      s.hasRoom 1 = true → Completes (.doOpenWire o ⟨amps, volts, held⟩) s fun t => t.bit (Obj.FIO_DO_STATUS o) 2 = true ∧
      newEvent s t 0xB005 [o.val + 1, boolNat (outOn s o)] = true) ∧
  (∀ (s : State) (o : DoId) (amps volts : Rat) (held : Nat), s.alive .abutment = true → wireOpen s o amps volts = false →
      50 * cyclesMs ≤ held → Inv s → s.fio.f24Bad = false →
      Completes (.doOpenWireClear o ⟨amps, volts, held⟩) s fun t => t.bit (Obj.FIO_DO_STATUS o) 2 = false) ∧
  (∀ (s : State) (o : DoId) (junction : Rat), s.alive .abutment = true → 150 < junction → s.fio.out[o].overTemp = false →
      s.hasRoom 1 = true → Completes (.doOverTemp ⟨o, junction⟩) s fun t => t.fio.out[o].overTemp = true ∧ outOn t o = false ∧
      newEvent s t 0xB006 [o.val + 1] = true) ∧
  (∀ (s : State) (o : DoId) (junction : Rat), s.alive .abutment = true → junction < 135 →
      Completes (.doOverTempEnd ⟨o, junction⟩) s fun t => t.fio.out[o].overTemp = false ∧ (outOn t o = true ↔ outWanted s o = true ∧
      s.fio.out[o].overload = false ∧ s.fio.f24Bad = false)) ∧
  (∀ (s : State) (volts : Rat) (held : Nat), s.alive .abutment = true → cyclesMs ≤ held → s.fio.f24Bad = false →
      ((volts < 33 / 2 ∨ 36 < volts)) → s.hasRoom 1 = true → Completes (.field24Fault ⟨volts, held⟩) s fun t => t.fio.f24Bad = true ∧
      (∀ o, outOn t o = false) ∧ newEvent s t 0xB007 [if volts < 33 / 2 then 1 else 2, r32 volts] = true) ∧
  (∀ (s : State) (volts : Rat) (held : Nat), s.alive .abutment = true → 10 * cyclesMs ≤ held → s.fio.f24Bad = true → 35 / 2 ≤ volts →
      volts ≤ 35 → s.hasRoom 1 = true → Completes (.field24Restored ⟨volts, held⟩) s fun t => t.fio.f24Bad = false ∧
      newEvent s t 0xB007 [0, r32 volts] = true) ∧
  (∀ (s : State) (v : Nat) (w : Writer), s.serves w .abutment = true → s.accepts w = true → serviceOk s w = true → s.mod.mode = .ready →
      v ≤ 0x1FFFF → Completes (.fieldForce v w) s fun t => t.fio.force = (if v % 2 = 1 then some v else none) ∧
      ∀ o : DoId, t.fio.out[o].cmd = s.fio.out[o].cmd ∧ (v % 2 = 1 → bitsAt v (o.val + 1) 1 = 0 → t.fio.out[o].overload = false))

/-- AUX_IN excursions, shedding and the gate-drive limit; housekeeping rounds and the reset input (R438, R439, R440, R441, R444, R445, R457).
On a powered module: a high excursion is marked with its start and its end is logged as 0x1024 with the peak; an interruption is marked
with its start, counted (SUP_INTERRUPTIONS) and its bridging time fixed, and its end clears it, brings shed supplies back and logs 0x1023;
an interruption of 10 ms, or HOLD below 14.0 V, with no store running, ends in HALT without power; once SUP_BRIDGE has passed, supplies
are shed and the links of E3 and E4 are down; AUX_IN below 14.4 V (no interruption) limits the gate-drive rail with event 0x1021 and above
15.0 V the limit ends with it. A housekeeping round that ends in a new 24 ms interval of module time is accepted: its instant is kept, a
broken sensor stays broken, and every temperature channel in use that reads open or short is broken. The asserted reset input takes the
module to HALT and is kept as asserted; its release is kept with its instant. -/
def Obligations.SupplyAndReset : Prop :=
  (∀ (s : State), s.mod.powered = true → s.sup.highAt = none → Completes (.auxHighStart) s fun t => t.sup.highAt = some s.now) ∧
  (∀ (s : State) (volts peak : Rat) (held : Nat), s.mod.powered = true → s.sup.highAt ≠ none → volts < 160 → cyclesMs ≤ held →
      s.hasRoom 1 = true → Completes (.auxHighEnd ⟨volts, peak, held⟩) s fun t => t.sup.highAt = none ∧ ∃ at_, s.sup.highAt = some at_ ∧
      newEvent s t 0x1024 [r32 peak, ms32 (s.since at_)] = true) ∧
  (∀ (s : State) (volts hold : Rat) (held : Nat), s.mod.powered = true → volts < 7 → cyclesUs 20 ≤ held → s.sup.intAt = none →
      s.hasRoom 1 = true → Completes (.auxInterruptionStart ⟨volts, held⟩ hold) s fun t => t.sup.intAt = some s.now ∧
      t.sup.bridge = cyclesUs (s.objN Obj.SUP_BRIDGE) ∧ newEvent s t 0x1022 [r32 volts, r32 hold] = true) ∧
  (∀ (s : State) (volts lowestHold : Rat) (held : Nat), s.mod.powered = true → 8 ≤ volts → cyclesMs ≤ held → s.sup.intAt ≠ none →
      s.hasRoom 1 = true → Completes (.auxInterruptionEnd ⟨volts, lowestHold, held⟩) s fun t => t.sup.intAt = none ∧ t.sup.shed = false ∧
      ∃ at_, s.sup.intAt = some at_ ∧ newEvent s t 0x1023 [ms32 (s.since at_), r32 lowestHold] = true) ∧
  (∀ (s : State) (at_ : Nat) (hold : Rat), s.mod.powered = true → s.sup.intAt = some at_ → ((10 * cyclesMs ≤ s.since at_ ∨ hold < 14)) →
      s.nvs.running = none → s.mod.mode ≠ .halt → Completes (.auxStopLevel hold) s fun t => t.mod.mode = .halt ∧ t.mod.powered = false ∧
      t.fio = FieldSt.init ∧ t.stg = .replicate 4 .init ∧ t.sup.intAt = none) ∧
  (∀ (s : State) (at_ : Nat), s.mod.powered = true → s.sup.intAt = some at_ → s.sup.shed = false → s.sup.bridge ≤ s.since at_ →
      Completes (.supplyShed) s fun t => t.sup.shed = true ∧ t.net.link[(2 : Fin 4)] = false ∧ t.net.link[(3 : Fin 4)] = false) ∧
  (∀ (s : State) (volts : Rat) (held : Nat), cyclesMs ≤ held → s.mod.powered = true → s.sup.gdLimited = false → s.sup.intAt = none →
      volts < 72 / 5 → s.hasRoom 1 = true → Completes (.gdLimitEntry ⟨volts, held⟩) s fun t => t.sup.gdLimited = true ∧
      newEvent s t 0x1021 [1, r32 volts] = true) ∧
  (∀ (s : State) (volts : Rat) (held : Nat), 100 * cyclesMs ≤ held → s.mod.powered = true → s.sup.gdLimited = true → s.sup.intAt = none →
      15 < volts → s.hasRoom 1 = true → Completes (.gdLimitExit ⟨volts, held⟩) s fun t => t.sup.gdLimited = false ∧
      newEvent s t 0x1021 [0, r32 volts] = true) ∧
  (∀ (s : State) (temps : Vector TempRead 30) (rails : Vector Rat 18), s.alive .house = true →
      s.sup.lastRound / roundCycles < s.now / roundCycles →
      Completes (.housekeepingRound temps rails) s fun t => t.sup.lastRound = s.now ∧ (∀ i : TempId, s.sup.sensor[i].broken = true →
      t.sup.sensor[i].broken = true) ∧ ∀ i : TempId, tempUsed s i = true → temps[i] = .open_ ∨ temps[i] = .short →
      t.sup.sensor[i].broken = true) ∧
  (∀ (s : State), s.mod.powered = true → Completes (.resetInputAssert) s fun t => t.mod.mode = .halt ∧ t.mod.resetAsserted = true ∧
      t.stg = (if s.mod.mode = .halt then s.stg else .replicate 4 .init)) ∧
  (∀ (s : State), s.mod.powered = true → Completes (.resetInputRelease) s fun t => t.mod.resetAsserted = false)

/-- Bus-off, its recovery, and a heartbeat that stays away (R338). A port that reaches bus-off can send no more and 0x7008 is logged (its
ownership ends too, R330). On recovery it sends its boot-up message. A consumer entry whose time has passed since the last heartbeat logs
0x7009 and sets bit 4 of the error register. -/
def Obligations.BusOffAndMissedHeartbeats : Prop :=
  (∀ (s : State) (c : Fin 2), canOn s c = true → s.objN Obj.NET_OWNER = canPort c → s.hasRoom 2 = true → Inv s →
      Completes (.canBusOff c) s fun t => t.net.can[c].busOff = true ∧ canSends t c = false ∧ t.objN Obj.NET_OWNER = 0 ∧
      newEvent s t 0x7008 [canPort c, 2] = true ∧ newEvent s t 0x7004 [canPort c, 0, 4] = true) ∧
  (∀ (s : State) (c : Fin 2) (recessive : Nat), 128 ≤ recessive → s.alive .network = true → s.net.can[c].busOff = true →
      s.net.can[c].booted = true → s.bit (Obj.NET_CAN_CFG c.val) 5 = true → s.viaductSecondary = false → s.standby = false →
      s.hasRoom 1 = true → Completes (.canBusOffRecovery ⟨c, recessive⟩) s fun t => t.net.can[c].busOff = false ∧
      (⟨canPort c, 31, [(s.objN Obj.MOD_NODE_NUMBER : Nat)]⟩ : TxFrame) ∈ t.tx ∧ newEvent s t 0x7008 [canPort c, 0] = true) ∧
  (∀ (s : State) (e : Fin 4) (at_ p : Nat), s.alive .network = true → s.net.heard[e] = some (at_, p) → hbTime s e ≠ 0 →
      hbTime s e * cyclesMs < s.since at_ → s.hasRoom 1 = true → Inv s →
      Completes (.heartbeatConsumerTimeout e) s fun t => t.bit Obj.CIA_ERROR_REGISTER 4 = true ∧
      newEvent s t 0x7009 [p, hbNode s e] = true)

/-- CLEAR_SOC releases an instance's fault (R364). In READY or LOCKOUT, from a writer with service access, with both switch tests passed and
the auxiliary contact reading the de-energised state, CLEAR_SOC releases the instance's fault and logs 0x8015. With a failed test or an
energised contact it is refused with 0x08000022 and the fault stays. Without service access, or in another mode, the fault stays. -/
def Obligations.ClearSoc : Prop :=
  (∀ (s : State) (n : SocId) (w : Writer), s.reaches w = true → s.alive .house = true → s.alive .keystone = true → s.standsBy w = false →
      serviceOk s w = true → (s.mod.mode = .ready ∨ s.mod.mode = .lockout) → auxEnergised s n = false → s.hasRoom 1 = true →
      Completes (.clearSoc n true w) s fun t => t.saf.soc[n].fault = false ∧ newEvent s t 0x8015 [n.val + 1] = true) ∧
  (∀ (s : State) (n : SocId) (testsPass : Bool) (w : Writer) (c se : Nat), w = .port c se → s.reaches w = true → s.alive .house = true →
      s.alive .keystone = true → s.standsBy w = false → serviceOk s w = true → (s.mod.mode = .ready ∨ s.mod.mode = .lockout) →
      (testsPass = false ∨ auxEnergised s n = true) → (c = 5 ∨ c = 6 → canSends s (Fin.ofNat 2 (c - 5)) = true) →
      Completes (.clearSoc n testsPass w) s fun t => t.saf = s.saf ∧
      (⟨c, 1, [(c + 16 * se : Int), (Obj.SAF_CMD : Int), 0x08000022]⟩ : TxFrame) ∈ t.tx) ∧
  (∀ (s : State) (n : SocId) (testsPass : Bool) (w : Writer), (serviceOk s w = false ∨ (s.mod.mode ≠ .ready ∧ s.mod.mode ≠ .lockout)) →
      Completes (.clearSoc n testsPass w) s fun t => t.saf = s.saf ∧ t.fio = s.fio)

/-- Overruns up to the limit stop the stage, or start arbitration (R161). An overrun with which the run of overruns reaches PIE_OVERRUN_LIMIT
takes the stage to SAFE with cause 0x2402 where the module is single or in a viaduct. In duplex the stage keeps its state and arbitration
starts with trigger 0x2402. -/
def Obligations.OverrunLimit : Prop :=
  (∀ (s : State) (p : StageId) (w : Work), s.alive (.pier p) = true → s.pie[p].work = some w →
      s.objN (Obj.PIE_OVERRUN_LIMIT p) ≤ s.pie[p].overrunRun + 1 → s.twn.mode ≠ 2 → s.stg[p].st ≠ .safe → s.mod.mode ≠ .halt →
      s.mod.mode ≠ .adit → Completes (.pierOverrun p) s fun t => t.stg[p].st = .safe ∧ t.stg[p].cause = 0x2402) ∧
  (∀ (s : State) (p : StageId) (w : Work), s.alive (.pier p) = true → s.pie[p].work = some w →
      s.objN (Obj.PIE_OVERRUN_LIMIT p) ≤ s.pie[p].overrunRun + 1 → s.twn.mode = 2 → s.twn.arb = none → s.twn.selfFenced = false →
      Completes (.pierOverrun p) s fun t => t.stg[p] = s.stg[p] ∧ t.twn.arb = some ⟨p, 0x2402, none, s.now, none⟩)

/-- A host reads a record of the log; one not there is refused (R395). A host at any port that may write selects a sequence number: a record
of that number standing in the ring is sent to it with its 64 bytes and stays; without one the read is refused with 0x08000024. Ring and
buffer are unchanged. -/
def Obligations.ReadingTheLog : Prop :=
  (∀ (s : State) (q c se : Nat) (x : LogRec), s.reaches (.port c se) = true → s.alive .house = true → s.accepts (.port c se) = true →
      s.standsBy (.port c se) = false → s.logFlash.find? (fun r => r.seq == q) = some x →
      Completes (.eventLogRead q (.port c se)) s fun t => (⟨c, 2, ((c + 16 * se) :: Obj.NVS_LOG_READ_DATA :: eventBytes x).map Int.ofNat⟩ : TxFrame) ∈ t.tx ∧
      t.nvs.readSeq = some q ∧ t.logFlash = s.logFlash ∧ t.logBuf = s.logBuf) ∧
  (∀ (s : State) (q c se : Nat), s.reaches (.port c se) = true → s.alive .house = true → s.accepts (.port c se) = true →
      s.standsBy (.port c se) = false → (c = 5 ∨ c = 6 → canSends s (Fin.ofNat 2 (c - 5)) = true) →
      s.logFlash.find? (fun r => r.seq == q) = none →
      Completes (.eventLogRead q (.port c se)) s fun t => (⟨c, 1, [(c + 16 * se : Int), (Obj.NVS_LOG_READ_DATA : Int), 0x08000024]⟩ : TxFrame) ∈ t.tx ∧
      t.logFlash = s.logFlash ∧ t.logBuf = s.logBuf)

/-- A command to one of several like units leaves the others as they were (R26, R34, R127, R155, R187, R204, R228, R264, R336, R361, R384,
R430). The frame between like units: a command named for one stage, pier, timebase, channel, trip group, driver, converter, port,
contactor instance, connection, check-value unit or output leaves the state of every other unit of that kind unchanged. Shown for commands
of each kind, from every state. -/
def Obligations.UnitsDoNotDisturbEachOther : Prop :=
  (∀ (s : State) (n : StageId), Completes (.stageLimitExit n) s fun t => ∀ m : StageId, m ≠ n → t.stg[m] = s.stg[m]) ∧
  (∀ (s : State) (n : StageId), Completes (.surveyRoundStart n) s fun t => ∀ m : StageId, m ≠ n → t.srv[m] = s.srv[m]) ∧
  (∀ (s : State) (n : StageId) (rising : Bool) (swing : Rat), Completes (.inputZeroCrossing n ⟨rising, swing⟩) s fun t => ∀ m : StageId, m ≠ n →
      t.frt[m] = s.frt[m]) ∧
  (∀ (s : State) (p : StageId) (w : Writer), Completes (.pieSelftest p w) s fun t => ∀ m : StageId, m ≠ p → t.pie[m] = s.pie[m]) ∧
  (∀ (s : State) (p : StageId) (total : Nat), Completes (.postCommit p total) s fun t => ∀ m : StageId, m ≠ p → t.pie[m] = s.pie[m]) ∧
  (∀ (s : State) (p : StageId) (w : Writer), Completes (.triggerArm p w) s fun t => ∀ m : StageId, m ≠ p → t.gal[m] = s.gal[m]) ∧
  (∀ (s : State) (p : StageId) (k : Nat) (w : Writer), Completes (.galleryRead p k w) s fun t => ∀ m : StageId, m ≠ p →
      t.gal[m] = s.gal[m]) ∧
  (∀ (s : State) (ch : ChanId) (ctrl : Nat) (w : Writer), Completes (.staticCtrlWrite ch ctrl w) s fun t => ∀ d : ChanId, d ≠ ch →
      t.edg.ch[d] = s.edg.ch[d]) ∧
  (∀ (s : State) (g : GroupId) (w : Writer), Completes (.tripGroupClear g w) s fun t => ∀ h : GroupId, h ≠ g →
      t.edg.grp[h] = s.edg.grp[h]) ∧
  (∀ (s : State) (d : DrvId) (volts : Rat), Completes (.millerClampEngage ⟨d, volts⟩) s fun t => ∀ e : DrvId, e ≠ d →
      t.gdv.drv[e] = s.gdv.drv[e]) ∧
  (∀ (s : State) (c : AdcId) (raw : Nat), Completes (.conversionComplete c raw) s fun t => ∀ d : AdcId, d ≠ c →
      t.acq.adc[d] = s.acq.adc[d]) ∧
  (∀ (s : State) (c : Fin 2), Completes (.nmtStart c) s fun t => ∀ d : Fin 2, d ≠ c → t.net.can[d] = s.net.can[d]) ∧
  (∀ (s : State) (c : Fin 2), Completes (.canBusOff c) s fun t => ∀ d : Fin 2, d ≠ c → t.net.can[d] = s.net.can[d]) ∧
  (∀ (s : State) (n : SocId), Completes (.socCloseRequest n) s fun t => ∀ m : SocId, m ≠ n → t.saf.soc[m] = s.saf.soc[m]) ∧
  (∀ (s : State) (n : SocId), Completes (.socOpenRequest n) s fun t => ∀ m : SocId, m ≠ n → t.saf.soc[m] = s.saf.soc[m]) ∧
  (∀ (s : State) (n : SocId) (testsPass : Bool) (w : Writer), Completes (.clearSoc n testsPass w) s fun t => ∀ m : SocId, m ≠ n →
      t.saf.soc[m] = s.saf.soc[m]) ∧
  (∀ (s : State) (c : ConnId), Completes (.safetyUnitSend c) s fun t => ∀ d : ConnId, d ≠ c → t.saf.conn[d] = s.saf.conn[d]) ∧
  (∀ (s : State) (c : ConnId), Completes (.connectionTimeout c) s fun t => ∀ d : ConnId, d ≠ c → t.saf.conn[d] = s.saf.conn[d]) ∧
  (∀ (s : State) (u : CvuId) (w : Writer), Completes (.cvuFinish u w) s fun t => ∀ v : CvuId, v ≠ u → t.nvs.cvu[v] = s.nvs.cvu[v]) ∧
  (∀ (s : State) (o : DoId) (on : Bool) (instant : Nat), Completes (.fieldOutputCommand o on instant) s fun t => ∀ d : DoId, d ≠ o →
      t.fio.out[d] = s.fio.out[d]) ∧
  (∀ (s : State) (st : StationId), Completes (.stationDrop st) s fun t => ∀ d : StationId, d ≠ st → t.lgc.station[d] = s.lgc.station[d])

/-- At its contactor's confirmation a stage that closed onto a dead line starts, or catches on (R87). A forming stage that closed onto a dead
line and may run, at the confirmation of its contactor: with the line dead it enters RUN with angle 0 and starts its ramp at r = 0; with
the line live it enters RUN with the line's angle and starts its ramp at r = V_line, SHR_STATUS.CAUGHT_ON is set, and 0x2106 is logged.
The operation that every confirmation runs through is the one stated about. -/
def Obligations.DeadOrLiveContactor : Prop :=
  (∀ (s : State) (n : StageId), s.isGfi n = true → s.shr[n].closeAt ≠ none → s.shr[n].closedDead = true → mayRun s n = true →
      s.shr[n].line.live = false → (contactorConfirmed n s).stg[n].st = .run ∧ (contactorConfirmed n s).pie[n].law.theta = 0 ∧
      (contactorConfirmed n s).pie[n].law.r = 0 ∧ (contactorConfirmed n s).shr[n].ramping = true) ∧
  (∀ (s : State) (n : StageId), s.isGfi n = true → s.shr[n].closeAt ≠ none → s.shr[n].closedDead = true → mayRun s n = true →
      s.shr[n].line.live = true → Inv s → s.hasRoom 1 = true → (contactorConfirmed n s).stg[n].st = .run ∧
      (contactorConfirmed n s).pie[n].law.theta = s.shr[n].line.theta ∧ (contactorConfirmed n s).pie[n].law.r = s.shr[n].line.v ∧
      (contactorConfirmed n s).shr[n].ramping = true ∧ (contactorConfirmed n s).bit (Obj.SHR_STATUS n) 8 = true ∧
      newEvent s (contactorConfirmed n s) 0x2106 [n.val, s.shr[n].line.v] = true)

/-- A read or write of a reserved index is refused with 0x06020000 (R9). An index that no object table defines, outside the block instances
and the tags, or an index of the block instances at which no block stands: a read over the service protocol and a write from an Ethernet
port are answered with abort 0x06020000 and leave the dictionary's values as they were, but for the count of aborts and the last abort. -/
def Obligations.ReservedIndices : Prop :=
  (∀ (s : State) (h : SvcHead) (key : Nat) (x : SessionSt), svcServed s h.port = true → s.net.sessions = [x] → x.id = h.session →
      x.port = h.port → h.seq = (x.seq + 1) % 4294967296 → s.alive .house = true → (2 ≤ h.port ∧ h.port ≤ 4) →
      (key / 256 < 0x6000 ∨ 0xA200 ≤ key / 256) → (objPage (key / 256)).all (fun r => !r.holds (key / 256) r.sub) = true →
      Completes (.svcRead h key) s fun t => (⟨h.port, 1, [h.port + 16 * h.session, key, 0x06020000]⟩ : TxFrame) ∈ t.tx ∧
      ∀ k, objGroup k ≠ .NET_ABORTS → objGroup k ≠ .NET_LAST_ABORT → cellGet k t.objs = cellGet k s.objs) ∧
  (∀ (s : State) (h : SvcHead) (key : Nat) (x : SessionSt), svcServed s h.port = true → s.net.sessions = [x] → x.id = h.session →
      x.port = h.port → h.seq = (x.seq + 1) % 4294967296 → s.alive .house = true → (2 ≤ h.port ∧ h.port ≤ 4) → (0x6000 ≤ key / 256 ∧
      key / 256 < 0xA000) → blockOf s (key / 256) = none →
      Completes (.svcRead h key) s fun t => (⟨h.port, 1, [h.port + 16 * h.session, key, 0x06020000]⟩ : TxFrame) ∈ t.tx ∧
      ∀ k, objGroup k ≠ .NET_ABORTS → objGroup k ≠ .NET_LAST_ABORT → cellGet k t.objs = cellGet k s.objs) ∧
  (∀ (s : State) (key : Nat) (v : Val) (c se : Nat), s.reaches (.port c se) = true → s.alive .house = true → (c = 2 ∨ c = 3 ∨ c = 4) →
      (key / 256 < 0x6000 ∨ 0xA200 ≤ key / 256) → (objPage (key / 256)).all (fun r => !r.holds (key / 256) r.sub) = true →
      Completes (.dictionaryWrite key v (.port c se) [] []) s fun t => (⟨c, 1, [c + 16 * se, key, 0x06020000]⟩ : TxFrame) ∈ t.tx ∧
      ∀ k, objGroup k ≠ .NET_ABORTS → objGroup k ≠ .NET_LAST_ABORT → cellGet k t.objs = cellGet k s.objs) ∧
  (∀ (s : State) (key : Nat) (v : Val) (c se : Nat), s.reaches (.port c se) = true → s.alive .house = true → (c = 2 ∨ c = 3 ∨ c = 4) →
      (0x6000 ≤ key / 256 ∧ key / 256 < 0xA000) → blockOf s (key / 256) = none →
      Completes (.dictionaryWrite key v (.port c se) [] []) s fun t => (⟨c, 1, [c + 16 * se, key, 0x06020000]⟩ : TxFrame) ∈ t.tx ∧
      ∀ k, objGroup k ≠ .NET_ABORTS → objGroup k ≠ .NET_LAST_ABORT → cellGet k t.objs = cellGet k s.objs) ∧
  (∀ (s : State) (key : Nat), ((key / 256 < 0x6000 ∨ 0xA200 ≤ key / 256) ∧
      (objPage (key / 256)).all (fun r => !r.holds (key / 256) r.sub) = true) ∨ (0x6000 ≤ key / 256 ∧ key / 256 < 0xA000 ∧
      blockOf s (key / 256) = none) → readObj s key = .error 0x06020000 ∧
      ∀ (w : Writer) (v : Val) (lost : Bool), writeCheck s w key v lost = 0x06020000)

/-- The outer step keeps the speed within F_LIMIT and the amplitude within E_MIN to E_MAX, and says when it clamps (R53, R54, R55, R57). For
every parameters and law state whose rounded bounds are in order: after the outer step the speed lies between 1 − F_lim and 1 + F_lim
(rounded to binary32), a speed clamp that is reported left it at a bound; the amplitude is r times a value between E_min and E_max where
these are in order, and the amplitude clamp is reported exactly where the unclamped value lies outside; an isochronous stage's mechanical
power lies between −1 and 1; angle, ramp factor and filters are as before. -/
def Obligations.ClampsOfTheLaw : Prop :=
  ∀ (q : LawParams) (l : Law), r32 (1 - q.fLim) ≤ r32 (1 + q.fLim) →
    r32 (1 - q.fLim) ≤ (outerStep q l).1.omega ∧ (outerStep q l).1.omega ≤ r32 (1 + q.fLim) ∧
    ((outerStep q l).2.fClamp = true → (outerStep q l).1.omega = r32 (1 - q.fLim) ∨ (outerStep q l).1.omega = r32 (1 + q.fLim)) ∧
    (q.eMin ≤ q.eMax → ∃ x : Rat, q.eMin ≤ x ∧ x ≤ q.eMax ∧ (outerStep q l).1.e = r32 (l.r * x)) ∧
    ((outerStep q l).2.eClamp = true ↔ (outerStep q l).2.eRaw < q.eMin ∨ q.eMax < (outerStep q l).2.eRaw) ∧
    (q.mp = 0 → -1 ≤ (outerStep q l).1.pMech ∧ (outerStep q l).1.pMech ≤ 1) ∧
    (outerStep q l).1.theta = l.theta ∧ (outerStep q l).1.r = l.r ∧ (outerStep q l).1.pF = l.pF ∧ (outerStep q l).1.qF = l.qF
end

