-- ==== Sys2Proof/Laws/Cells.lean ====
section
/-!
SUPPORT. The stores of dictionary values: reading after writing, other keys left alone, and the canonical form kept.
-/

namespace Sys2Proof.Machine

theorem cellGet_cellSet_self (k : Nat) (v : Val) (l : List ObjCell) : cellGet k (cellSet k v l) = some v := by
  induction l with
  | nil => simp [cellSet, cellGet]
  | cons c l ih =>
    simp only [cellSet]
    split
    · simp [cellGet]
    · split
      · simp [cellGet]
      · simp [cellGet, *]

theorem cellGet_cellSet_ne {k k' : Nat} (h : k ≠ k') (v : Val) (l : List ObjCell) : cellGet k (cellSet k' v l) = cellGet k l := by
  induction l with
  | nil => simp [cellSet, cellGet, h]
  | cons c l ih =>
    simp only [cellSet]
    split
    · simp [cellGet, h]
    · split
      · rename_i e; subst e; simp [cellGet, h]
      · simp [cellGet, ih]

theorem cellGet_cellDel_ne {k k' : Nat} (h : k ≠ k') (l : List ObjCell) : cellGet k (cellDel k' l) = cellGet k l := by
  induction l with
  | nil => simp [cellDel]
  | cons c l ih =>
    simp only [cellDel]
    split
    · rename_i e; subst e; simp [cellGet, h]
    · split
      · rfl
      · simp [cellGet, ih]

/-- A write leaves every other key alone. -/
theorem cellGet_cellPut_ne {k k' : Nat} (h : k ≠ k') (v : Val) (l : List ObjCell) : cellGet k (cellPut k' v l) = cellGet k l := by
  unfold cellPut
  split
  · exact cellGet_cellDel_ne h l
  · exact cellGet_cellSet_ne h v l

/-- The canonical form, spelled out: keys strictly rising, nothing listed that equals its default. -/
theorem cellsWf_iff (l : List ObjCell) :
    cellsWf l = true ↔ (l.map (·.1)).Pairwise (· < ·) ∧ ∀ c ∈ l, defaultAt c.1 ≠ some c.2 := by
  induction l with
  | nil => simp [cellsWf]
  | cons c l ih =>
    cases l with
    | nil => simp [cellsWf]
    | cons d l =>
      obtain ⟨k, v⟩ := c
      obtain ⟨k', v'⟩ := d
      simp only [cellsWf, Bool.and_eq_true, decide_eq_true_eq, Bool.not_eq_true', decide_eq_false_iff_not, ih, List.map_cons,
        List.pairwise_cons, List.mem_cons, forall_eq_or_imp]
      constructor
      · rintro ⟨⟨a, b⟩, ⟨c, d⟩, e⟩
        exact ⟨⟨⟨a, fun x hx => a.trans (c x hx)⟩, c, d⟩, b, e⟩
      · rintro ⟨⟨⟨a, _⟩, c, d⟩, b, e⟩
        exact ⟨⟨a, b⟩, ⟨c, d⟩, e⟩

theorem mem_cellSet {k : Nat} {v : Val} {l : List ObjCell} {c : ObjCell} (h : c ∈ cellSet k v l) : c = (k, v) ∨ c ∈ l := by
  induction l with
  | nil => simpa [cellSet] using h
  | cons d l ih =>
    simp only [cellSet] at h
    split at h
    · simpa using h
    · split at h
      · rcases List.mem_cons.1 h with h | h
        · exact .inl h
        · exact .inr (List.mem_cons_of_mem _ h)
      · rcases List.mem_cons.1 h with h | h
        · exact .inr (h ▸ List.mem_cons_self)
        · exact (ih h).imp_right (List.mem_cons_of_mem _)

theorem cellSet_rising {k : Nat} {v : Val} {l : List ObjCell} (h : (l.map (·.1)).Pairwise (· < ·)) :
    ((cellSet k v l).map (·.1)).Pairwise (· < ·) := by
  induction l with
  | nil => simp [cellSet]
  | cons d l ih =>
    obtain ⟨k', v'⟩ := d
    rw [List.map_cons, List.pairwise_cons] at h
    simp only [cellSet]
    split
    · rename_i lt
      simp only [List.map_cons, List.pairwise_cons, List.mem_cons, forall_eq_or_imp]
      exact ⟨⟨lt, fun x hx => lt.trans (h.1 x hx)⟩, h.1, h.2⟩
    · split
      · rename_i e
        subst e
        rw [List.map_cons, List.pairwise_cons]
        exact h
      · rw [List.map_cons, List.pairwise_cons]
        refine ⟨fun x hx => ?_, ih h.2⟩
        obtain ⟨c, hc, rfl⟩ := List.mem_map.1 hx
        rcases mem_cellSet hc with rfl | hc
        · omega
        · exact h.1 _ (List.mem_map_of_mem hc)

theorem cellDel_sublist (k : Nat) (l : List ObjCell) : (cellDel k l).Sublist l := by
  induction l with
  | nil => simp [cellDel]
  | cons d l ih =>
    simp only [cellDel]
    split
    · exact List.sublist_cons_self _ _
    · split
      · exact List.Sublist.refl _
      · exact ih.cons_cons _

theorem cellsWf_sublist {l m : List ObjCell} (h : cellsWf m = true) (e : l.Sublist m) : cellsWf l = true := by
  rw [cellsWf_iff] at *
  exact ⟨h.1.sublist (e.map _), fun c hc => h.2 c (e.subset hc)⟩

/-- A write keeps the canonical form. -/
theorem cellsWf_cellPut {k : Nat} {v : Val} {l : List ObjCell} (h : cellsWf l = true) : cellsWf (cellPut k v l) = true := by
  unfold cellPut
  split
  · exact cellsWf_sublist h (cellDel_sublist k l)
  · rename_i d
    rw [cellsWf_iff] at *
    refine ⟨cellSet_rising h.1, fun c hc => ?_⟩
    rcases mem_cellSet hc with rfl | hc
    · exact d
    · exact h.2 c hc

theorem cellsWf_filter {l : List ObjCell} (p : ObjCell → Bool) (h : cellsWf l = true) : cellsWf (l.filter p) = true :=
  cellsWf_sublist h List.filter_sublist

theorem cellsWf_overlay {b : List ObjCell} (w : List ObjCell) (h : cellsWf b = true) : cellsWf (overlay b w) = true := by
  unfold overlay
  induction w generalizing b with
  | nil => exact h
  | cons c w ih => exact ih (cellsWf_cellPut h)

/-- Waiting values that take their turns keep the canonical form. -/
theorem cellsWf_setDue (r : RunRule) (w : List ObjCell) {s : State} (h : cellsWf s.objs = true) :
    cellsWf (w.foldl (State.setDue r) s).objs = true := by
  induction w generalizing s with
  | nil => exact h
  | cons c w ih => exact ih (cellsWf_cellPut h)

theorem cellsWf_savedView {s : State} (h : Inv s) : cellsWf (savedView s) = true := by
  unfold savedView lastWritten
  exact cellsWf_filter _ (cellsWf_overlay _ (cellsWf_setDue _ _ (cellsWf_setDue _ _ (cellsWf_setDue _ _ h.objs))))

theorem cellGet_eq_none_of_lt {k : Nat} {l : List ObjCell} (h : ∀ x ∈ l.map (·.1), k < x) : cellGet k l = none := by
  induction l with
  | nil => rfl
  | cons c l ih =>
    have a := h c.1 (by simp)
    have b := ih (fun x hx => h x (by simp only [List.map_cons, List.mem_cons]; exact .inr hx))
    simp only [cellGet, Nat.ne_of_lt a, if_false, b]

theorem cellGet_cellDel_self {k : Nat} {l : List ObjCell} (h : (l.map (·.1)).Pairwise (· < ·)) : cellGet k (cellDel k l) = none := by
  induction l with
  | nil => rfl
  | cons c l ih =>
    rw [List.map_cons, List.pairwise_cons] at h
    simp only [cellDel]
    split
    · rename_i e
      subst e
      exact cellGet_eq_none_of_lt h.1
    · rename_i ne
      split
      · rename_i lt
        refine cellGet_eq_none_of_lt fun x hx => ?_
        rcases List.mem_cons.1 (by simpa only [List.map_cons] using hx) with rfl | hx
        · exact lt
        · exact lt.trans (h.1 x hx)
      · simp only [cellGet, ne, if_false]
        exact ih h.2

/-- A read after a write to the same key gives the value written: it stands in the store, or it is the default. -/
theorem cellGet_cellPut_self {k : Nat} {v : Val} {l : List ObjCell} (h : cellsWf l = true) :
    (cellGet k (cellPut k v l)).or (defaultAt k) = some v := by
  unfold cellPut
  split
  · rename_i d
    rw [cellGet_cellDel_self ((cellsWf_iff l).1 h).1]
    exact d
  · rw [cellGet_cellSet_self]
    rfl

/-- An object reads as the value last written to it. -/
theorem State.obj_setObj_self {s : State} (h : cellsWf s.objs = true) (key : Nat) (v : Val) : (s.setObj key v).obj key = v := by
  have e := cellGet_cellPut_self (k := key) (v := v) h
  simp only [State.setObj, State.obj]
  cases c : cellGet key (cellPut key v s.objs) with
  | some w => rw [c] at e; simpa using e
  | none => rw [c] at e; simp only [Option.none_or] at e; simp [e]

end Sys2Proof.Machine
end

