-- ==== Sys2Proof/Laws/Keeps.lean ====
section
/-!
SUPPORT. `Keeps F s t`: from s to t nothing changes outside the footprint F, the invariant is kept and no sequence number of the log is
used twice. One lemma for each way a state is updated; the other files of this folder say it once for each operation and meaning.
-/

namespace Sys2Proof.Machine

/-- The place of a field in a footprint. -/
def IslField.bit : IslField → Nat
  | .mt => 262
  | .started => 263
  | .broadcast => 264
  | .dev => 265
  | .fenced => 266
  | .joints => 267
  | .held => 268
  | .lately => 269
  | .implausible => 270
  | .refused => 271
  | .pulseEnable => 272
  | .pulseLost => 273
  | .contactorEnable => 274
  | .contactorLapsed => 275
  | .houseFencedAt => 276

theorem IslField.same_refl (f : IslField) (a : IslandsSt) : f.same a a := by cases f <;> exact rfl
theorem IslField.same_trans {f : IslField} {a b c : IslandsSt} (h : f.same a b) (k : f.same b c) : f.same a c := by
  cases f <;> exact Eq.trans k h
/-- What an update of one IslandsSt leaves alone. -/
def IslField.Upd (F : Nat) (g : IslandsSt → IslandsSt) : Prop := ∀ x, ∀ f : IslField, F.testBit f.bit = false → f.same x (g x)

theorem IslField.upd_of {F : Nat} {g : IslandsSt → IslandsSt} (h : ∀ f : IslField, ∀ x, F.testBit f.bit = false → f.same x (g x)) :
    IslField.Upd F g := fun x f e => h f x e

/-- The place of a field in a footprint. -/
def ModField.bit : ModField → Nat
  | .mode => 277
  | .order => 278
  | .lockoutCause => 279
  | .lockoutPending => 280
  | .stopPending => 281
  | .enteredAt => 282
  | .cfgLoaded => 283
  | .calDone => 284
  | .holdupDone => 285
  | .restoreDone => 286
  | .diagQueue => 287
  | .cfgValid => 288
  | .powered => 289
  | .resetAsserted => 290
  | .imageStarted => 291
  | .charged => 292
  | .loadsStarted => 293
  | .link => 294
  | .thermalLatch => 295
  | .lastGfiCause => 296

theorem ModField.same_refl (f : ModField) (a : ModesSt) : f.same a a := by cases f <;> exact rfl
theorem ModField.same_trans {f : ModField} {a b c : ModesSt} (h : f.same a b) (k : f.same b c) : f.same a c := by
  cases f <;> exact Eq.trans k h
/-- What an update of one ModesSt leaves alone. -/
def ModField.Upd (F : Nat) (g : ModesSt → ModesSt) : Prop := ∀ x, ∀ f : ModField, F.testBit f.bit = false → f.same x (g x)

theorem ModField.upd_of {F : Nat} {g : ModesSt → ModesSt} (h : ∀ f : ModField, ∀ x, F.testBit f.bit = false → f.same x (g x)) :
    ModField.Upd F g := fun x f e => h f x e

/-- The place of a field in a footprint. -/
def StgField.bit : StgField → Nat
  | .st => 297
  | .cause => 298
  | .diagPassed => 299
  | .diagDeferred => 300
  | .diagSince => 301
  | .heldStart => 302
  | .toArmed => 303
  | .toRun => 304
  | .toOff => 305
  | .lastLimit => 306
  | .graphOk => 307
  | .sinceEntry => 308
  | .pulsesEnd => 309

theorem StgField.same_refl (f : StgField) (a : StageCore) : f.same a a := by cases f <;> exact rfl
theorem StgField.same_trans {f : StgField} {a b c : StageCore} (h : f.same a b) (k : f.same b c) : f.same a c := by
  cases f <;> exact Eq.trans k h
/-- What an update of one StageCore leaves alone. -/
def StgField.Upd (F : Nat) (g : StageCore → StageCore) : Prop := ∀ x, ∀ f : StgField, F.testBit f.bit = false → f.same x (g x)

theorem StgField.upd_of {F : Nat} {g : StageCore → StageCore} (h : ∀ f : StgField, ∀ x, F.testBit f.bit = false → f.same x (g x)) :
    StgField.Upd F g := fun x f e => h f x e

/-- The place of a field in a footprint. -/
def ShrField.bit : ShrField → Nat
  | .line => 310
  | .far => 311
  | .claim => 312
  | .closeAt => 313
  | .closeTimeout => 314
  | .tieAt => 315
  | .closedDead => 316
  | .closed => 317
  | .pull => 318
  | .syncFrom => 319
  | .syncTimeout => 320
  | .okSince => 321
  | .dwell => 322
  | .deadSince => 323
  | .lostLogged => 324
  | .rampFrom => 325
  | .rampTime => 326
  | .rampLast => 327
  | .ramping => 328
  | .glideW => 329
  | .glideV => 330
  | .joining => 331
  | .winStart => 332
  | .winSum => 333
  | .winCount => 334
  | .winBad => 335
  | .suspended => 336
  | .anchor => 337

theorem ShrField.same_refl (f : ShrField) (a : ShareSt) : f.same a a := by cases f <;> exact rfl
theorem ShrField.same_trans {f : ShrField} {a b c : ShareSt} (h : f.same a b) (k : f.same b c) : f.same a c := by
  cases f <;> exact Eq.trans k h
/-- What an update of one ShareSt leaves alone. -/
def ShrField.Upd (F : Nat) (g : ShareSt → ShareSt) : Prop := ∀ x, ∀ f : ShrField, F.testBit f.bit = false → f.same x (g x)

theorem ShrField.upd_of {F : Nat} {g : ShareSt → ShareSt} (h : ∀ f : ShrField, ∀ x, F.testBit f.bit = false → f.same x (g x)) :
    ShrField.Upd F g := fun x f e => h f x e

/-- The place of a field in a footprint. -/
def FrtField.bit : FrtField → Nat
  | .riding => 338
  | .clearAt => 339
  | .clearBefore => 340
  | .budget => 341
  | .budgetAt => 342
  | .budgetUsed => 343
  | .peak => 344
  | .failed => 345
  | .decay => 346
  | .coasting => 347
  | .coastFrom => 348
  | .lowest => 349
  | .lowSince => 350
  | .shed => 351
  | .release => 352
  | .powerLimit => 353
  | .powerRef => 354
  | .lost => 355
  | .lostAt => 356
  | .confirmed => 357
  | .blocked => 358
  | .ramp => 359
  | .notified => 360
  | .pllF => 361
  | .pllPhase => 362
  | .pllAt => 363
  | .hold => 364
  | .holdExpired => 365
  | .crossings => 366
  | .pulsed => 367
  | .dev => 368
  | .devSince => 369
  | .inPast => 370
  | .aboveSince => 371
  | .vdc => 372
  | .speedDue => 373

theorem FrtField.same_refl (f : FrtField) (a : RideSt) : f.same a a := by cases f <;> exact rfl
theorem FrtField.same_trans {f : FrtField} {a b c : RideSt} (h : f.same a b) (k : f.same b c) : f.same a c := by
  cases f <;> exact Eq.trans k h
/-- What an update of one RideSt leaves alone. -/
def FrtField.Upd (F : Nat) (g : RideSt → RideSt) : Prop := ∀ x, ∀ f : FrtField, F.testBit f.bit = false → f.same x (g x)

theorem FrtField.upd_of {F : Nat} {g : RideSt → RideSt} (h : ∀ f : FrtField, ∀ x, F.testBit f.bit = false → f.same x (g x)) :
    FrtField.Upd F g := fun x f e => h f x e

/-- The place of a field in a footprint. -/
def SrvField.bit : SrvField → Nat
  | .active => 374
  | .startedAt => 375
  | .runSince => 376
  | .chip => 377
  | .cfg => 378
  | .dRad => 379
  | .dXad => 380
  | .dKc => 381
  | .dFn => 382
  | .glideR => 383
  | .glideX => 384
  | .undo => 385
  | .holdVi => 386
  | .holdNotch => 387
  | .holdKc => 388
  | .zetaPk => 389
  | .zetaA => 390
  | .above => 391
  | .warned => 392
  | .acted => 393
  | .scores => 394
  | .prevIL => 395
  | .prevVc => 396
  | .prevIo => 397
  | .prevU => 398
  | .prevVdc => 399
  | .worst => 400
  | .due => 401
  | .actedAt => 402
  | .record => 403

theorem SrvField.same_refl (f : SrvField) (a : SurveySt) : f.same a a := by cases f <;> exact rfl
theorem SrvField.same_trans {f : SrvField} {a b c : SurveySt} (h : f.same a b) (k : f.same b c) : f.same a c := by
  cases f <;> exact Eq.trans k h
/-- What an update of one SurveySt leaves alone. -/
def SrvField.Upd (F : Nat) (g : SurveySt → SurveySt) : Prop := ∀ x, ∀ f : SrvField, F.testBit f.bit = false → f.same x (g x)

theorem SrvField.upd_of {F : Nat} {g : SurveySt → SurveySt} (h : ∀ f : SrvField, ∀ x, F.testBit f.bit = false → f.same x (g x)) :
    SrvField.Upd F g := fun x f e => h f x e

/-- The place of a field in a footprint. -/
def PieField.bit : PieField → Nat
  | .law => 404
  | .blocks => 405
  | .work => 406
  | .post => 407
  | .k => 408
  | .t0 => 409
  | .graph => 410
  | .tally => 411
  | .overrunRun => 412
  | .postRun => 413
  | .postDone => 414
  | .provisional => 415
  | .duties => 416
  | .sent => 417
  | .out => 418
  | .ran => 419
  | .tripped => 420
  | .selftest => 421
  | .selftestDue => 422
  | .bistAt => 423
  | .rv => 424
  | .xv => 425
  | .xvn => 426
  | .fClamp => 427
  | .eClamp => 428
  | .negClamp => 429
  | .nClamp => 430
  | .restClamp => 431
  | .before => 432
  | .envLogged => 433

theorem PieField.same_refl (f : PieField) (a : PierSt) : f.same a a := by cases f <;> exact rfl
theorem PieField.same_trans {f : PieField} {a b c : PierSt} (h : f.same a b) (k : f.same b c) : f.same a c := by
  cases f <;> exact Eq.trans k h
/-- What an update of one PierSt leaves alone. -/
def PieField.Upd (F : Nat) (g : PierSt → PierSt) : Prop := ∀ x, ∀ f : PieField, F.testBit f.bit = false → f.same x (g x)

theorem PieField.upd_of {F : Nat} {g : PierSt → PierSt} (h : ∀ f : PieField, ∀ x, F.testBit f.bit = false → f.same x (g x)) :
    PieField.Upd F g := fun x f e => h f x e

/-- The place of a field in a footprint. -/
def EdgField.bit : EdgField → Nat
  | .loadedAt => 434
  | .tb => 435
  | .ch => 436
  | .sets => 437
  | .grp => 438
  | .active => 439
  | .pinKnown => 440
  | .raw => 441
  | .rawHigh => 442
  | .rawLow => 443
  | .calFault => 444
  | .heartbeats => 445
  | .beatAt => 446
  | .recalAt => 447
  | .added => 448

theorem EdgField.same_refl (f : EdgField) (a : EdgeSt) : f.same a a := by cases f <;> exact rfl
theorem EdgField.same_trans {f : EdgField} {a b c : EdgeSt} (h : f.same a b) (k : f.same b c) : f.same a c := by
  cases f <;> exact Eq.trans k h
/-- What an update of one EdgeSt leaves alone. -/
def EdgField.Upd (F : Nat) (g : EdgeSt → EdgeSt) : Prop := ∀ x, ∀ f : EdgField, F.testBit f.bit = false → f.same x (g x)

theorem EdgField.upd_of {F : Nat} {g : EdgeSt → EdgeSt} (h : ∀ f : EdgField, ∀ x, F.testBit f.bit = false → f.same x (g x)) :
    EdgField.Upd F g := fun x f e => h f x e

/-- The place of a field in a footprint. -/
def GdvField.bit : GdvField → Nat
  | .uvlo => 449
  | .uvloAt => 450
  | .pattern => 451
  | .noHolder => 452
  | .heartbeat => 453
  | .drv => 454
  | .port => 455

theorem GdvField.same_refl (f : GdvField) (a : GateSt) : f.same a a := by cases f <;> exact rfl
theorem GdvField.same_trans {f : GdvField} {a b c : GateSt} (h : f.same a b) (k : f.same b c) : f.same a c := by
  cases f <;> exact Eq.trans k h
/-- What an update of one GateSt leaves alone. -/
def GdvField.Upd (F : Nat) (g : GateSt → GateSt) : Prop := ∀ x, ∀ f : GdvField, F.testBit f.bit = false → f.same x (g x)

theorem GdvField.upd_of {F : Nat} {g : GateSt → GateSt} (h : ∀ f : GdvField, ∀ x, F.testBit f.bit = false → f.same x (g x)) :
    GdvField.Upd F g := fun x f e => h f x e

/-- The place of a field in a footprint. -/
def AcqField.bit : AcqField → Nat
  | .timer => 456
  | .adc => 457
  | .chain => 458
  | .sdFault => 459
  | .selfCal => 460
  | .diag => 461
  | .cmpOwned => 462
  | .cmpLevel => 463

theorem AcqField.same_refl (f : AcqField) (a : AcqSt) : f.same a a := by cases f <;> exact rfl
theorem AcqField.same_trans {f : AcqField} {a b c : AcqSt} (h : f.same a b) (k : f.same b c) : f.same a c := by
  cases f <;> exact Eq.trans k h
/-- What an update of one AcqSt leaves alone. -/
def AcqField.Upd (F : Nat) (g : AcqSt → AcqSt) : Prop := ∀ x, ∀ f : AcqField, F.testBit f.bit = false → f.same x (g x)

theorem AcqField.upd_of {F : Nat} {g : AcqSt → AcqSt} (h : ∀ f : AcqField, ∀ x, F.testBit f.bit = false → f.same x (g x)) :
    AcqField.Upd F g := fun x f e => h f x e

/-- The place of a field in a footprint. -/
def GalField.bit : GalField → Nat
  | .ring => 464
  | .missing => 465
  | .changed => 466
  | .cond => 467
  | .prev => 468
  | .prevAt => 469
  | .seen => 470
  | .armed => 471
  | .ready => 472
  | .holdoff => 473
  | .datagram => 474
  | .openedAt => 475
  | .seq => 476
  | .dropped => 477
  | .busyTo => 478
  | .readK => 479

theorem GalField.same_refl (f : GalField) (a : GalSt) : f.same a a := by cases f <;> exact rfl
theorem GalField.same_trans {f : GalField} {a b c : GalSt} (h : f.same a b) (k : f.same b c) : f.same a c := by
  cases f <;> exact Eq.trans k h
/-- What an update of one GalSt leaves alone. -/
def GalField.Upd (F : Nat) (g : GalSt → GalSt) : Prop := ∀ x, ∀ f : GalField, F.testBit f.bit = false → f.same x (g x)

theorem GalField.upd_of {F : Nat} {g : GalSt → GalSt} (h : ∀ f : GalField, ∀ x, F.testBit f.bit = false → f.same x (g x)) :
    GalField.Upd F g := fun x f e => h f x e

/-- The place of a field in a footprint. -/
def ClkField.bit : ClkField → Nat
  | .refOk => 480
  | .badAt => 481
  | .switchedAt => 482
  | .countedAt => 483
  | .monitoredAt => 484
  | .active => 485
  | .pllOn => 486
  | .pll => 487
  | .onB => 488
  | .netLocked => 489
  | .netLostAt => 490
  | .base => 491

theorem ClkField.same_refl (f : ClkField) (a : ClockSt) : f.same a a := by cases f <;> exact rfl
theorem ClkField.same_trans {f : ClkField} {a b c : ClockSt} (h : f.same a b) (k : f.same b c) : f.same a c := by
  cases f <;> exact Eq.trans k h
/-- What an update of one ClockSt leaves alone. -/
def ClkField.Upd (F : Nat) (g : ClockSt → ClockSt) : Prop := ∀ x, ∀ f : ClkField, F.testBit f.bit = false → f.same x (g x)

theorem ClkField.upd_of {F : Nat} {g : ClockSt → ClockSt} (h : ∀ f : ClkField, ∀ x, F.testBit f.bit = false → f.same x (g x)) :
    ClkField.Upd F g := fun x f e => h f x e

/-- The place of a field in a footprint. -/
def TwnField.bit : TwnField → Nat
  | .mode => 492
  | .primary => 493
  | .link => 494
  | .lanes => 495
  | .partner => 496
  | .formed => 497
  | .lock => 498
  | .phase => 499
  | .lockFrom => 500
  | .conflict => 501
  | .mismatch => 502
  | .active => 503
  | .request => 504
  | .auto => 505
  | .held => 506
  | .claimIn => 507
  | .claimSince => 508
  | .grant => 509
  | .grantLost => 510
  | .armed => 511
  | .xfail => 512
  | .xfailAt => 513
  | .partnerFenced => 514
  | .selfFenced => 515
  | .arb => 516
  | .digests => 517
  | .diffs => 518
  | .holdoff => 519
  | .handover => 520
  | .winTarget => 521
  | .view => 522

theorem TwnField.same_refl (f : TwnField) (a : TwinSt) : f.same a a := by cases f <;> exact rfl
theorem TwnField.same_trans {f : TwnField} {a b c : TwinSt} (h : f.same a b) (k : f.same b c) : f.same a c := by
  cases f <;> exact Eq.trans k h
/-- What an update of one TwinSt leaves alone. -/
def TwnField.Upd (F : Nat) (g : TwinSt → TwinSt) : Prop := ∀ x, ∀ f : TwnField, F.testBit f.bit = false → f.same x (g x)

theorem TwnField.upd_of {F : Nat} {g : TwinSt → TwinSt} (h : ∀ f : TwnField, ∀ x, F.testBit f.bit = false → f.same x (g x)) :
    TwnField.Upd F g := fun x f e => h f x e

/-- The place of a field in a footprint. -/
def SafField.bit : SafField → Nat
  | .soc => 523
  | .ssd => 524
  | .conn => 525
  | .pending => 526
  | .coverSeen => 527
  | .coverDemand => 528
  | .demanded => 529
  | .latched => 530
  | .halted => 531
  | .removed => 532
  | .tieFailed => 533
  | .resetAt => 534
  | .marchAt => 535

theorem SafField.same_refl (f : SafField) (a : SafetySt) : f.same a a := by cases f <;> exact rfl
theorem SafField.same_trans {f : SafField} {a b c : SafetySt} (h : f.same a b) (k : f.same b c) : f.same a c := by
  cases f <;> exact Eq.trans k h
/-- What an update of one SafetySt leaves alone. -/
def SafField.Upd (F : Nat) (g : SafetySt → SafetySt) : Prop := ∀ x, ∀ f : SafField, F.testBit f.bit = false → f.same x (g x)

theorem SafField.upd_of {F : Nat} {g : SafetySt → SafetySt} (h : ∀ f : SafField, ∀ x, F.testBit f.bit = false → f.same x (g x)) :
    SafField.Upd F g := fun x f e => h f x e

/-- The place of a field in a footprint. -/
def FioField.bit : FioField → Nat
  | .di => 536
  | .out => 537
  | .drv => 538
  | .f24Bad => 539
  | .force => 540

theorem FioField.same_refl (f : FioField) (a : FieldSt) : f.same a a := by cases f <;> exact rfl
theorem FioField.same_trans {f : FioField} {a b c : FieldSt} (h : f.same a b) (k : f.same b c) : f.same a c := by
  cases f <;> exact Eq.trans k h
/-- What an update of one FieldSt leaves alone. -/
def FioField.Upd (F : Nat) (g : FieldSt → FieldSt) : Prop := ∀ x, ∀ f : FioField, F.testBit f.bit = false → f.same x (g x)

theorem FioField.upd_of {F : Nat} {g : FieldSt → FieldSt} (h : ∀ f : FioField, ∀ x, F.testBit f.bit = false → f.same x (g x)) :
    FioField.Upd F g := fun x f e => h f x e

/-- The place of a field in a footprint. -/
def SupField.bit : SupField → Nat
  | .highAt => 541
  | .intAt => 542
  | .bridge => 543
  | .shed => 544
  | .backAt => 545
  | .gdLimited => 546
  | .sensorAt => 547
  | .lastRound => 548
  | .sensor => 549
  | .stepAt => 550

theorem SupField.same_refl (f : SupField) (a : SupplySt) : f.same a a := by cases f <;> exact rfl
theorem SupField.same_trans {f : SupField} {a b c : SupplySt} (h : f.same a b) (k : f.same b c) : f.same a c := by
  cases f <;> exact Eq.trans k h
/-- What an update of one SupplySt leaves alone. -/
def SupField.Upd (F : Nat) (g : SupplySt → SupplySt) : Prop := ∀ x, ∀ f : SupField, F.testBit f.bit = false → f.same x (g x)

theorem SupField.upd_of {F : Nat} {g : SupplySt → SupplySt} (h : ∀ f : SupField, ∀ x, F.testBit f.bit = false → f.same x (g x)) :
    SupField.Upd F g := fun x f e => h f x e

/-- The place of a field in a footprint. -/
def LgcField.bit : LgcField → Nat
  | .running => 551
  | .valid => 552
  | .verified => 553
  | .program => 554
  | .staged => 555
  | .staging => 556
  | .image => 557
  | .bank => 558
  | .lastBank => 559
  | .marked => 560
  | .kept => 561
  | .lag => 562
  | .nextAt => 563
  | .lastAt => 564
  | .busyUntil => 565
  | .busy => 566
  | .exchanging => 567
  | .skipped => 568
  | .tc => 569
  | .stretch => 570
  | .exchange => 571
  | .resetRetain => 572
  | .host => 573
  | .station => 574
  | .level => 575
  | .starting => 576
  | .peek => 577
  | .loads => 578

theorem LgcField.same_refl (f : LgcField) (a : LogicSt) : f.same a a := by cases f <;> exact rfl
theorem LgcField.same_trans {f : LgcField} {a b c : LogicSt} (h : f.same a b) (k : f.same b c) : f.same a c := by
  cases f <;> exact Eq.trans k h
/-- What an update of one LogicSt leaves alone. -/
def LgcField.Upd (F : Nat) (g : LogicSt → LogicSt) : Prop := ∀ x, ∀ f : LgcField, F.testBit f.bit = false → f.same x (g x)

theorem LgcField.upd_of {F : Nat} {g : LogicSt → LogicSt} (h : ∀ f : LgcField, ∀ x, F.testBit f.bit = false → f.same x (g x)) :
    LgcField.Upd F g := fun x f e => h f x e

/-- The place of a field in a footprint. -/
def NetField.bit : NetField → Nat
  | .ownerAt => 579
  | .sessions => 580
  | .rights => 581
  | .challenges => 582
  | .invalid => 583
  | .blocked => 584
  | .can => 585
  | .heard => 586
  | .syncs => 587
  | .tpdoAt => 588
  | .tpdoLast => 589
  | .rpdoWait => 590
  | .link => 591
  | .bypass => 592
  | .macs => 593
  | .spiReply => 594
  | .spiSeq => 595
  | .spiLast => 596
  | .spiPartial => 597
  | .restore => 598

theorem NetField.same_refl (f : NetField) (a : NetSt) : f.same a a := by cases f <;> exact rfl
theorem NetField.same_trans {f : NetField} {a b c : NetSt} (h : f.same a b) (k : f.same b c) : f.same a c := by
  cases f <;> exact Eq.trans k h
/-- What an update of one NetSt leaves alone. -/
def NetField.Upd (F : Nat) (g : NetSt → NetSt) : Prop := ∀ x, ∀ f : NetField, F.testBit f.bit = false → f.same x (g x)

theorem NetField.upd_of {F : Nat} {g : NetSt → NetSt} (h : ∀ f : NetField, ∀ x, F.testBit f.bit = false → f.same x (g x)) :
    NetField.Upd F g := fun x f e => h f x e

/-- The place of a field in a footprint. -/
def NvsField.bit : NvsField → Nat
  | .cvu => 599
  | .waiting => 600
  | .running => 601
  | .deferred => 602
  | .stopped => 603
  | .gen => 604
  | .lost => 605
  | .retired => 606
  | .version => 607
  | .running_ => 608
  | .package => 609
  | .writing => 610
  | .readSeq => 611
  | .sector => 612
  | .page => 613
  | .pageAt => 614
  | .eraseAt => 615
  | .retryAt => 616
  | .reported => 617

theorem NvsField.same_refl (f : NvsField) (a : StoresSt) : f.same a a := by cases f <;> exact rfl
theorem NvsField.same_trans {f : NvsField} {a b c : StoresSt} (h : f.same a b) (k : f.same b c) : f.same a c := by
  cases f <;> exact Eq.trans k h
/-- What an update of one StoresSt leaves alone. -/
def NvsField.Upd (F : Nat) (g : StoresSt → StoresSt) : Prop := ∀ x, ∀ f : NvsField, F.testBit f.bit = false → f.same x (g x)

theorem NvsField.upd_of {F : Nat} {g : StoresSt → StoresSt} (h : ∀ f : NvsField, ∀ x, F.testBit f.bit = false → f.same x (g x)) :
    NvsField.Upd F g := fun x f e => h f x e

/-- The place of a part in a footprint. -/
def Part.bit : Part → Nat
  | .pending => 0
  | .saved => 1
  | .commitWrites => 2
  | .heldWrites => 3
  | .modeWrites => 4
  | .resetWrites => 5
  | .tx => 6
  | .free => 7
  | .log => 8
  | .buffer => 9
  | .safe => 10
  | .fence => 11
  | .obj .cia => 12
  | .obj .mod => 13
  | .obj .sup => 14
  | .obj .nvs => 15
  | .obj .tim => 16
  | .obj .fio => 17
  | .obj .twn => 18
  | .obj .gfl => 19
  | .obj .shr => 20
  | .obj .frt => 21
  | .obj .srv => 22
  | .obj .pie => 23
  | .obj .edg => 24
  | .obj .gdv => 25
  | .obj .acq => 26
  | .obj .gal => 27
  | .obj .lgc => 28
  | .obj .net => 29
  | .obj .saf => 30
  | .obj .blk => 31
  | .obj .other => 32
  | .obj .ACQ_CAL_GAIN => 33
  | .obj .ACQ_CAL_OFFSET => 34
  | .obj .ACQ_CH_STATUS => 35
  | .obj .ACQ_CH_VALUE => 36
  | .obj .ACQ_DIAG_ERROR => 37
  | .obj .ACQ_FC_DELAY => 38
  | .obj .ACQ_FC_LATENCY => 39
  | .obj .ACQ_FC_RATE => 40
  | .obj .ACQ_FC_STATUS => 41
  | .obj .ACQ_FC_UNSETTLED => 42
  | .obj .ACQ_FC_VALUE => 43
  | .obj .ACQ_OVERRANGE_COUNT => 44
  | .obj .ACQ_SD_STATUS => 45
  | .obj .ACQ_START_OVERLAP => 46
  | .obj .ACQ_STATUS => 47
  | .obj .ACQ_TRACK_DRIFT => 48
  | .obj .CIA_ERROR_COUNT => 49
  | .obj .CIA_ERROR_FIELD => 50
  | .obj .CIA_ERROR_REGISTER => 51
  | .obj .CVU_DROPPED => 52
  | .obj .CVU_RESULT => 53
  | .obj .CVU_STATUS => 54
  | .obj .EDG_CH_CLIPPED => 55
  | .obj .EDG_CH_GUARD_COUNT => 56
  | .obj .EDG_CH_LATE => 57
  | .obj .EDG_CH_REMOVED => 58
  | .obj .EDG_CH_STATIC_CTRL => 59
  | .obj .EDG_CH_STATUS => 60
  | .obj .EDG_RAW_ENABLE => 61
  | .obj .EDG_RAW_HIGH => 62
  | .obj .EDG_RAW_LOW => 63
  | .obj .EDG_SRC_ACTIVE => 64
  | .obj .EDG_STATUS => 65
  | .obj .EDG_TB_LATE => 66
  | .obj .EDG_TB_NEXT_ZERO => 67
  | .obj .EDG_TB_PERIOD => 68
  | .obj .EDG_TRG_CFG => 69
  | .obj .EDG_TRG_LATCH_SRC => 70
  | .obj .EDG_TRG_LATCH_TIME => 71
  | .obj .EDG_TRG_PERIODS => 72
  | .obj .EDG_TRG_STATUS => 73
  | .obj .FIO_CD_CURRENT => 74
  | .obj .FIO_CD_IGNORED => 75
  | .obj .FIO_CD_STATUS => 76
  | .obj .FIO_DI_CURRENT => 77
  | .obj .FIO_DI_STATUS => 78
  | .obj .FIO_DO_CURRENT => 79
  | .obj .FIO_DO_STATUS => 80
  | .obj .FIO_FORCE => 81
  | .obj .FIO_MAX_LATENESS => 82
  | .obj .FIO_STATUS => 83
  | .obj .FRT_COAST_COUNT => 84
  | .obj .FRT_DELTA_P_COAST => 85
  | .obj .FRT_IN_PLL_F => 86
  | .obj .FRT_LAST_GAP => 87
  | .obj .FRT_LAST_JUMP => 88
  | .obj .FRT_LAST_PEAK => 89
  | .obj .FRT_LAST_RIDE => 90
  | .obj .FRT_LINK_ENERGY => 91
  | .obj .FRT_RIDE_COUNT => 92
  | .obj .FRT_STATUS => 93
  | .obj .GAL_CONFIG => 94
  | .obj .GAL_DATAGRAMS => 95
  | .obj .GAL_DEPTH => 96
  | .obj .GAL_DROPPED => 97
  | .obj .GAL_MARK_COUNT => 98
  | .obj .GAL_MARK_FRAC => 99
  | .obj .GAL_MARK_K => 100
  | .obj .GAL_MARK_TIME => 101
  | .obj .GAL_RECORDS => 102
  | .obj .GAL_STATUS => 103
  | .obj .GAL_WIRE_RATE => 104
  | .obj .GDV_BS_FORECAST => 105
  | .obj .GDV_BS_REFRESHES => 106
  | .obj .GDV_CH_STATUS => 107
  | .obj .GDV_DESAT_COUNT => 108
  | .obj .GDV_DIAG_RESULT => 109
  | .obj .GDV_PORT_ACK_MISSING => 110
  | .obj .GDV_PORT_FAULTS => 111
  | .obj .GDV_PORT_LAST_CODE => 112
  | .obj .GDV_PORT_STATUS => 113
  | .obj .GDV_RAIL_V => 114
  | .obj .GDV_SAFE_PATTERN => 115
  | .obj .GDV_STATUS => 116
  | .obj .GFL_CONFIG => 117
  | .obj .GFL_E => 118
  | .obj .GFL_EFF_KC => 119
  | .obj .GFL_EFF_NOTCH_F => 120
  | .obj .GFL_EFF_RV => 121
  | .obj .GFL_EFF_XV => 122
  | .obj .GFL_FREQ => 123
  | .obj .GFL_F_RES => 124
  | .obj .GFL_P_MEAS => 125
  | .obj .GFL_P_MECH => 126
  | .obj .GFL_Q_MEAS => 127
  | .obj .GFL_STATUS => 128
  | .obj .GFL_THETA => 129
  | .obj .GFL_V_NEG => 130
  | .obj .GFL_V_ZERO => 131
  | .obj .GFL_ZETA => 132
  | .obj .LGC_CYCLE_COUNT => 133
  | .obj .LGC_LOAD => 134
  | .obj .LGC_LT => 135
  | .obj .LGC_MAX_BUSY => 136
  | .obj .LGC_OVERRUN_COUNT => 137
  | .obj .LGC_OVERRUN_RUN => 138
  | .obj .LGC_PERIOD_IN_FORCE => 139
  | .obj .LGC_PROG_CHECK => 140
  | .obj .LGC_PROG_ID => 141
  | .obj .LGC_RETAIN_LAG => 142
  | .obj .LGC_STAGED_ID => 143
  | .obj .LGC_STATUS => 144
  | .obj .LGC_STN_DROPS => 145
  | .obj .LGC_STN_ID => 146
  | .obj .LGC_STN_LAST_RX => 147
  | .obj .LGC_STN_STATE => 148
  | .obj .LGC_WCET_BUSY => 149
  | .obj .MOD_FW_IMAGE => 150
  | .obj .MOD_FW_VERSION => 151
  | .obj .MOD_LOCKOUT_CAUSE => 152
  | .obj .MOD_STAGE_SAFE_CAUSE => 153
  | .obj .MOD_STATUS => 154
  | .obj .MOD_TRANSITION_COUNT => 155
  | .obj .NET_ABORTS => 156
  | .obj .NET_CAN_STATE => 157
  | .obj .NET_DUP_DISCARDED => 158
  | .obj .NET_LAST_ABORT => 159
  | .obj .NET_LATE_TX => 160
  | .obj .NET_OWNER => 161
  | .obj .NET_SESSIONS => 162
  | .obj .NET_STATUS => 163
  | .obj .NET_WRITES_LOST => 164
  | .obj .NVS_DEFERRED => 165
  | .obj .NVS_ECC_CORRECTED => 166
  | .obj .NVS_HOLD_C => 167
  | .obj .NVS_HOLD_V => 168
  | .obj .NVS_IMAGE_STATE => 169
  | .obj .NVS_LOG_DROPPED => 170
  | .obj .NVS_STATUS => 171
  | .obj .PIE_CONFIG => 172
  | .obj .PIE_ECC_CORRECTED => 173
  | .obj .PIE_GRAPH_CHECK => 174
  | .obj .PIE_GRAPH_ID => 175
  | .obj .PIE_INSTANCE_COUNT => 176
  | .obj .PIE_LAST_COMMIT => 177
  | .obj .PIE_LOAD => 178
  | .obj .PIE_MAX_CRIT => 179
  | .obj .PIE_MAX_TOTAL => 180
  | .obj .PIE_OFFPLAN_COUNT => 181
  | .obj .PIE_OVERRUN_COUNT => 182
  | .obj .PIE_OVERRUN_RUN => 183
  | .obj .PIE_POST_OVERRUN_COUNT => 184
  | .obj .PIE_STATUS => 185
  | .obj .PIE_WCET_CRIT => 186
  | .obj .PIE_WCET_TOTAL => 187
  | .obj .SAF_ABSENCE => 188
  | .obj .SAF_CONN_LAST_AGE => 189
  | .obj .SAF_CONN_REJECTED => 190
  | .obj .SAF_CONN_STATUS => 191
  | .obj .SAF_SOC_OPERATIONS => 192
  | .obj .SAF_SOC_SINCE_PROOF => 193
  | .obj .SAF_SOC_STATUS => 194
  | .obj .SAF_SSD_VALUE => 195
  | .obj .SAF_STATUS => 196
  | .obj .SAF_UNKNOWN_ID => 197
  | .obj .SHR_ANCHOR_COUNT => 198
  | .obj .SHR_ANCHOR_LATE => 199
  | .obj .SHR_DELTA_F => 200
  | .obj .SHR_DELTA_F_REST => 201
  | .obj .SHR_DELTA_THETA => 202
  | .obj .SHR_DELTA_V => 203
  | .obj .SHR_DELTA_V_REST => 204
  | .obj .SHR_F_MEAN => 205
  | .obj .SHR_LINE_F => 206
  | .obj .SHR_LINE_V => 207
  | .obj .SHR_STATUS => 208
  | .obj .SHR_V_MEAN => 209
  | .obj .SRV_CAN_RES => 210
  | .obj .SRV_CAN_SCORE => 211
  | .obj .SRV_COHERENCE => 212
  | .obj .SRV_CONFIG => 213
  | .obj .SRV_DFN_AD => 214
  | .obj .SRV_DKC_AD => 215
  | .obj .SRV_DR_AD => 216
  | .obj .SRV_DX_AD => 217
  | .obj .SRV_F_PEAK => 218
  | .obj .SRV_F_UPPER => 219
  | .obj .SRV_N_EST => 220
  | .obj .SRV_N_PARALLEL => 221
  | .obj .SRV_ROUND_COUNT => 222
  | .obj .SRV_STATUS => 223
  | .obj .SRV_Z1_R => 224
  | .obj .SRV_Z1_X => 225
  | .obj .SRV_ZETA_PEAK => 226
  | .obj .SRV_ZETA_SWING => 227
  | .obj .SRV_Z_ANGLE => 228
  | .obj .SRV_Z_MAG => 229
  | .obj .SUP_INTERRUPTIONS => 230
  | .obj .SUP_LAST_INTERRUPTION => 231
  | .obj .SUP_RAIL => 232
  | .obj .SUP_STATUS => 233
  | .obj .THM_BROKEN => 234
  | .obj .THM_PEAK => 235
  | .obj .THM_SHUTDOWN_SENSOR => 236
  | .obj .THM_STATUS => 237
  | .obj .THM_TEMP => 238
  | .obj .THM_THROTTLE_STEP => 239
  | .obj .TIM_BOOT_COUNT => 240
  | .obj .TIM_NTA_DISCARDED => 241
  | .obj .TIM_NTA_GM_ID => 242
  | .obj .TIM_NTA_PATH_DELAY => 243
  | .obj .TIM_NTA_STEPS_REMOVED => 244
  | .obj .TIM_PLL_LOSSES => 245
  | .obj .TIM_REF_DEV => 246
  | .obj .TIM_STATUS => 247
  | .obj .TIM_TC_CORRECTED => 248
  | .obj .TWN_GRID_PHASE => 249
  | .obj .TWN_LAST_INTERRUPTION => 250
  | .obj .TWN_LINK_ERRORS => 251
  | .obj .TWN_LINK_LATENCY => 252
  | .obj .TWN_MISMATCHES => 253
  | .obj .TWN_PARTNER_FW => 254
  | .obj .TWN_PARTNER_SERIAL => 255
  | .obj .TWN_STATUS => 256
  | .obj .TWN_TAKEOVERS => 257
  | .obj .BASE_STATUS => 258
  | .obj .BASE_OFFSET => 259
  | .obj .BASE_RATE => 260
  | .obj .BASE_HOLDOVER => 261
  | .isl f => f.bit
  | .mod f => f.bit
  | .stg f => f.bit
  | .shr f => f.bit
  | .frt f => f.bit
  | .srv f => f.bit
  | .pie f => f.bit
  | .edg f => f.bit
  | .gdv f => f.bit
  | .acq f => f.bit
  | .gal f => f.bit
  | .clk f => f.bit
  | .twn f => f.bit
  | .saf f => f.bit
  | .fio f => f.bit
  | .sup f => f.bit
  | .lgc f => f.bit
  | .net f => f.bit
  | .nvs f => f.bit

/-- The parts outside the footprint F are the same, the invariant is kept, and the log's numbering does not go back. -/
structure Keeps (F : Nat) (s t : State) : Prop where
  same : ∀ p : Part, F.testBit p.bit = false → p.same s t
  inv : Inv s → Inv t
  seq : s.logSeq ≤ t.logSeq

/-- The same for a command's outcome: of every next state. -/
structure KeepsR (F : Nat) (s : State) (r : Res) : Prop where
  out : ∀ t, r = .next t → Keeps F s t

theorem Part.same_refl (p : Part) (s : State) : p.same s s := by
  cases p with
  | isl f => exact f.same_refl _
  | mod f => exact f.same_refl _
  | stg f => exact fun n => f.same_refl _
  | shr f => exact fun n => f.same_refl _
  | frt f => exact fun n => f.same_refl _
  | srv f => exact fun n => f.same_refl _
  | pie f => exact fun n => f.same_refl _
  | edg f => exact f.same_refl _
  | gdv f => exact f.same_refl _
  | acq f => exact f.same_refl _
  | gal f => exact fun n => f.same_refl _
  | clk f => exact f.same_refl _
  | twn f => exact f.same_refl _
  | saf f => exact f.same_refl _
  | fio f => exact f.same_refl _
  | sup f => exact f.same_refl _
  | lgc f => exact f.same_refl _
  | net f => exact f.same_refl _
  | nvs f => exact f.same_refl _
  | buffer => exact fun _ h => h
  | safe => exact fun _ h => h
  | fence => exact fun _ h => h
  | obj g => exact fun _ _ => rfl
  | log => exact ⟨rfl, rfl, rfl, rfl⟩
  | _ => exact rfl

theorem Part.same_trans {p : Part} {s t u : State} (h : p.same s t) (k : p.same t u) : p.same s u := by
  cases p with
  | isl f => exact IslField.same_trans h k
  | mod f => exact ModField.same_trans h k
  | stg f => exact fun n => StgField.same_trans (h n) (k n)
  | shr f => exact fun n => ShrField.same_trans (h n) (k n)
  | frt f => exact fun n => FrtField.same_trans (h n) (k n)
  | srv f => exact fun n => SrvField.same_trans (h n) (k n)
  | pie f => exact fun n => PieField.same_trans (h n) (k n)
  | edg f => exact EdgField.same_trans h k
  | gdv f => exact GdvField.same_trans h k
  | acq f => exact AcqField.same_trans h k
  | gal f => exact fun n => GalField.same_trans (h n) (k n)
  | clk f => exact ClkField.same_trans h k
  | twn f => exact TwnField.same_trans h k
  | saf f => exact SafField.same_trans h k
  | fio f => exact FioField.same_trans h k
  | sup f => exact SupField.same_trans h k
  | lgc f => exact LgcField.same_trans h k
  | net f => exact NetField.same_trans h k
  | nvs f => exact NvsField.same_trans h k
  | buffer => exact fun r m => k r (h r m)
  | safe => exact fun n m => k n (h n m)
  | fence => exact fun i m => k i (h i m)
  | obj g => exact fun key e => (k key e).trans (h key e)
  | log => exact ⟨k.1.trans h.1, k.2.1.trans h.2.1, k.2.2.1.trans h.2.2.1, k.2.2.2.trans h.2.2.2⟩
  | _ => exact Eq.trans k h

namespace Keeps

theorem refl {F : Nat} (s : State) : Keeps F s s := ⟨fun p _ => p.same_refl s, id, le_refl _⟩

theorem trans {F : Nat} {s t u : State} (h : Keeps F s t) (k : Keeps F t u) : Keeps F s u :=
  ⟨fun p e => Part.same_trans (h.same p e) (k.same p e), k.inv ∘ h.inv, h.seq.trans k.seq⟩

theorem mono {F G : Nat} {s t : State} (h : Keeps G s t) (e : G &&& F = G) : Keeps F s t := by
  refine ⟨fun p b => h.same p ?_, h.inv, h.seq⟩
  rw [← e, Nat.testBit_and, b, Bool.and_false]

/-- One more operation, whose footprint G lies within F. -/
theorem step {F G : Nat} {s0 s t : State} (k : Keeps G s t) (e : G &&& F = G) (h : Keeps F s0 s) : Keeps F s0 t :=
  h.trans (k.mono e)

theorem cut {F : Nat} {s0 b : State} (v : State) (hv : Keeps F s0 v) (hb : Keeps F s0 v → Keeps F s0 b) : Keeps F s0 b := hb hv

theorem cutP {F : Nat} {s0 b : State} {α : Type} (v : α × State) (hv : Keeps F s0 v.2) (hb : Keeps F s0 v.2 → Keeps F s0 b) :
    Keeps F s0 b := hb hv

theorem of_eq {F : Nat} {s0 t : State} {α : Type} {v : α × State} {a : α} (e : v = (a, t)) (h : Keeps F s0 v.2) : Keeps F s0 t := by
  subst e; exact h

theorem ite {F : Nat} {s0 a b : State} {c : Prop} [Decidable c] (ha : Keeps F s0 a) (hb : Keeps F s0 b) :
    Keeps F s0 (if c then a else b) := by split <;> assumption

theorem iteP {F : Nat} {s0 : State} {α : Type} {a b : α × State} {c : Prop} [Decidable c] (ha : Keeps F s0 a.2) (hb : Keeps F s0 b.2) :
    Keeps F s0 (if c then a else b).2 := by split <;> assumption

theorem foldl {F : Nat} {s0 s : State} {α : Type} {f : State → α → State} (l : List α) (hf : ∀ t a, Keeps F s0 t → Keeps F s0 (f t a))
    (h : Keeps F s0 s) : Keeps F s0 (l.foldl f s) := by
  induction l generalizing s with
  | nil => exact h
  | cons a l ih => exact ih (hf _ _ h)

theorem foldlP {F : Nat} {s0 : State} {α β : Type} {f : β × State → α → β × State} {r : β × State} (l : List α)
    (hf : ∀ t a, Keeps F s0 t.2 → Keeps F s0 (f t a).2) (h : Keeps F s0 r.2) : Keeps F s0 (l.foldl f r).2 := by
  induction l generalizing r with
  | nil => exact h
  | cons a l ih => exact ih (hf _ _ h)

/-! ### Updates of one field -/

theorem no {F n : Nat} {p : Prop} (e : F.testBit n = true) (h : F.testBit n = false) : p := absurd (e.symm.trans h) Bool.noConfusion

theorem upd_pending {F : Nat} {s0 s : State} (h : Keeps F s0 s) (e : F.testBit 0 = true) (v : _) : Keeps F s0 { s with pending := v } := by
  refine h.trans ⟨fun p hp => ?_, fun i => ⟨i.objs, i.saved, ⟨i.log.rising, i.log.below, i.log.room⟩⟩, le_refl _⟩
  cases p with
  | isl f => exact f.same_refl _
  | mod f => exact f.same_refl _
  | stg f => exact fun n => f.same_refl _
  | shr f => exact fun n => f.same_refl _
  | frt f => exact fun n => f.same_refl _
  | srv f => exact fun n => f.same_refl _
  | pie f => exact fun n => f.same_refl _
  | edg f => exact f.same_refl _
  | gdv f => exact f.same_refl _
  | acq f => exact f.same_refl _
  | gal f => exact fun n => f.same_refl _
  | clk f => exact f.same_refl _
  | twn f => exact f.same_refl _
  | saf f => exact f.same_refl _
  | fio f => exact f.same_refl _
  | sup f => exact f.same_refl _
  | lgc f => exact f.same_refl _
  | net f => exact f.same_refl _
  | nvs f => exact f.same_refl _
  | buffer => exact fun _ h => h
  | safe => exact fun _ h => h
  | fence => exact fun _ h => h
  | obj g => exact fun _ _ => rfl
  | log => exact ⟨rfl, rfl, rfl, rfl⟩
  | pending => exact no e hp
  | _ => exact rfl

theorem upd_commitWrites {F : Nat} {s0 s : State} (h : Keeps F s0 s) (e : F.testBit 2 = true) (v : _) : Keeps F s0 { s with commitWrites := v } := by
  refine h.trans ⟨fun p hp => ?_, fun i => ⟨i.objs, i.saved, ⟨i.log.rising, i.log.below, i.log.room⟩⟩, le_refl _⟩
  cases p with
  | isl f => exact f.same_refl _
  | mod f => exact f.same_refl _
  | stg f => exact fun n => f.same_refl _
  | shr f => exact fun n => f.same_refl _
  | frt f => exact fun n => f.same_refl _
  | srv f => exact fun n => f.same_refl _
  | pie f => exact fun n => f.same_refl _
  | edg f => exact f.same_refl _
  | gdv f => exact f.same_refl _
  | acq f => exact f.same_refl _
  | gal f => exact fun n => f.same_refl _
  | clk f => exact f.same_refl _
  | twn f => exact f.same_refl _
  | saf f => exact f.same_refl _
  | fio f => exact f.same_refl _
  | sup f => exact f.same_refl _
  | lgc f => exact f.same_refl _
  | net f => exact f.same_refl _
  | nvs f => exact f.same_refl _
  | buffer => exact fun _ h => h
  | safe => exact fun _ h => h
  | fence => exact fun _ h => h
  | obj g => exact fun _ _ => rfl
  | log => exact ⟨rfl, rfl, rfl, rfl⟩
  | commitWrites => exact no e hp
  | _ => exact rfl

theorem upd_heldWrites {F : Nat} {s0 s : State} (h : Keeps F s0 s) (e : F.testBit 3 = true) (v : _) : Keeps F s0 { s with heldWrites := v } := by
  refine h.trans ⟨fun p hp => ?_, fun i => ⟨i.objs, i.saved, ⟨i.log.rising, i.log.below, i.log.room⟩⟩, le_refl _⟩
  cases p with
  | isl f => exact f.same_refl _
  | mod f => exact f.same_refl _
  | stg f => exact fun n => f.same_refl _
  | shr f => exact fun n => f.same_refl _
  | frt f => exact fun n => f.same_refl _
  | srv f => exact fun n => f.same_refl _
  | pie f => exact fun n => f.same_refl _
  | edg f => exact f.same_refl _
  | gdv f => exact f.same_refl _
  | acq f => exact f.same_refl _
  | gal f => exact fun n => f.same_refl _
  | clk f => exact f.same_refl _
  | twn f => exact f.same_refl _
  | saf f => exact f.same_refl _
  | fio f => exact f.same_refl _
  | sup f => exact f.same_refl _
  | lgc f => exact f.same_refl _
  | net f => exact f.same_refl _
  | nvs f => exact f.same_refl _
  | buffer => exact fun _ h => h
  | safe => exact fun _ h => h
  | fence => exact fun _ h => h
  | obj g => exact fun _ _ => rfl
  | log => exact ⟨rfl, rfl, rfl, rfl⟩
  | heldWrites => exact no e hp
  | _ => exact rfl

theorem upd_modeWrites {F : Nat} {s0 s : State} (h : Keeps F s0 s) (e : F.testBit 4 = true) (v : _) : Keeps F s0 { s with modeWrites := v } := by
  refine h.trans ⟨fun p hp => ?_, fun i => ⟨i.objs, i.saved, ⟨i.log.rising, i.log.below, i.log.room⟩⟩, le_refl _⟩
  cases p with
  | isl f => exact f.same_refl _
  | mod f => exact f.same_refl _
  | stg f => exact fun n => f.same_refl _
  | shr f => exact fun n => f.same_refl _
  | frt f => exact fun n => f.same_refl _
  | srv f => exact fun n => f.same_refl _
  | pie f => exact fun n => f.same_refl _
  | edg f => exact f.same_refl _
  | gdv f => exact f.same_refl _
  | acq f => exact f.same_refl _
  | gal f => exact fun n => f.same_refl _
  | clk f => exact f.same_refl _
  | twn f => exact f.same_refl _
  | saf f => exact f.same_refl _
  | fio f => exact f.same_refl _
  | sup f => exact f.same_refl _
  | lgc f => exact f.same_refl _
  | net f => exact f.same_refl _
  | nvs f => exact f.same_refl _
  | buffer => exact fun _ h => h
  | safe => exact fun _ h => h
  | fence => exact fun _ h => h
  | obj g => exact fun _ _ => rfl
  | log => exact ⟨rfl, rfl, rfl, rfl⟩
  | modeWrites => exact no e hp
  | _ => exact rfl

theorem upd_resetWrites {F : Nat} {s0 s : State} (h : Keeps F s0 s) (e : F.testBit 5 = true) (v : _) : Keeps F s0 { s with resetWrites := v } := by
  refine h.trans ⟨fun p hp => ?_, fun i => ⟨i.objs, i.saved, ⟨i.log.rising, i.log.below, i.log.room⟩⟩, le_refl _⟩
  cases p with
  | isl f => exact f.same_refl _
  | mod f => exact f.same_refl _
  | stg f => exact fun n => f.same_refl _
  | shr f => exact fun n => f.same_refl _
  | frt f => exact fun n => f.same_refl _
  | srv f => exact fun n => f.same_refl _
  | pie f => exact fun n => f.same_refl _
  | edg f => exact f.same_refl _
  | gdv f => exact f.same_refl _
  | acq f => exact f.same_refl _
  | gal f => exact fun n => f.same_refl _
  | clk f => exact f.same_refl _
  | twn f => exact f.same_refl _
  | saf f => exact f.same_refl _
  | fio f => exact f.same_refl _
  | sup f => exact f.same_refl _
  | lgc f => exact f.same_refl _
  | net f => exact f.same_refl _
  | nvs f => exact f.same_refl _
  | buffer => exact fun _ h => h
  | safe => exact fun _ h => h
  | fence => exact fun _ h => h
  | obj g => exact fun _ _ => rfl
  | log => exact ⟨rfl, rfl, rfl, rfl⟩
  | resetWrites => exact no e hp
  | _ => exact rfl

theorem upd_tx {F : Nat} {s0 s : State} (h : Keeps F s0 s) (e : F.testBit 6 = true) (v : _) : Keeps F s0 { s with tx := v } := by
  refine h.trans ⟨fun p hp => ?_, fun i => ⟨i.objs, i.saved, ⟨i.log.rising, i.log.below, i.log.room⟩⟩, le_refl _⟩
  cases p with
  | isl f => exact f.same_refl _
  | mod f => exact f.same_refl _
  | stg f => exact fun n => f.same_refl _
  | shr f => exact fun n => f.same_refl _
  | frt f => exact fun n => f.same_refl _
  | srv f => exact fun n => f.same_refl _
  | pie f => exact fun n => f.same_refl _
  | edg f => exact f.same_refl _
  | gdv f => exact f.same_refl _
  | acq f => exact f.same_refl _
  | gal f => exact fun n => f.same_refl _
  | clk f => exact f.same_refl _
  | twn f => exact f.same_refl _
  | saf f => exact f.same_refl _
  | fio f => exact f.same_refl _
  | sup f => exact f.same_refl _
  | lgc f => exact f.same_refl _
  | net f => exact f.same_refl _
  | nvs f => exact f.same_refl _
  | buffer => exact fun _ h => h
  | safe => exact fun _ h => h
  | fence => exact fun _ h => h
  | obj g => exact fun _ _ => rfl
  | log => exact ⟨rfl, rfl, rfl, rfl⟩
  | tx => exact no e hp
  | _ => exact rfl

theorem upd_free {F : Nat} {s0 s : State} (h : Keeps F s0 s) (e : F.testBit 7 = true) (v : _) : Keeps F s0 { s with free := v } := by
  refine h.trans ⟨fun p hp => ?_, fun i => ⟨i.objs, i.saved, ⟨i.log.rising, i.log.below, i.log.room⟩⟩, le_refl _⟩
  cases p with
  | isl f => exact f.same_refl _
  | mod f => exact f.same_refl _
  | stg f => exact fun n => f.same_refl _
  | shr f => exact fun n => f.same_refl _
  | frt f => exact fun n => f.same_refl _
  | srv f => exact fun n => f.same_refl _
  | pie f => exact fun n => f.same_refl _
  | edg f => exact f.same_refl _
  | gdv f => exact f.same_refl _
  | acq f => exact f.same_refl _
  | gal f => exact fun n => f.same_refl _
  | clk f => exact f.same_refl _
  | twn f => exact f.same_refl _
  | saf f => exact f.same_refl _
  | fio f => exact f.same_refl _
  | sup f => exact f.same_refl _
  | lgc f => exact f.same_refl _
  | net f => exact f.same_refl _
  | nvs f => exact f.same_refl _
  | buffer => exact fun _ h => h
  | safe => exact fun _ h => h
  | fence => exact fun _ h => h
  | obj g => exact fun _ _ => rfl
  | log => exact ⟨rfl, rfl, rfl, rfl⟩
  | free => exact no e hp
  | _ => exact rfl

theorem upd_isl {F : Nat} {s0 s : State} (h : Keeps F s0 s) (v : IslandsSt)
    (e : ∀ f : IslField, F.testBit f.bit = false → f.same s.isl v) (k : F.testBit 11 = true ∨ ∀ i ∈ s.isl.fenced, i ∈ v.fenced) : Keeps F s0 { s with isl := v } := by
  refine h.trans ⟨fun p hp => ?_, fun i => ⟨i.objs, i.saved, ⟨i.log.rising, i.log.below, i.log.room⟩⟩, le_refl _⟩
  cases p with
  | isl f => exact e f hp
  | mod f => exact f.same_refl _
  | stg f => exact fun n => f.same_refl _
  | shr f => exact fun n => f.same_refl _
  | frt f => exact fun n => f.same_refl _
  | srv f => exact fun n => f.same_refl _
  | pie f => exact fun n => f.same_refl _
  | edg f => exact f.same_refl _
  | gdv f => exact f.same_refl _
  | acq f => exact f.same_refl _
  | gal f => exact fun n => f.same_refl _
  | clk f => exact f.same_refl _
  | twn f => exact f.same_refl _
  | saf f => exact f.same_refl _
  | fio f => exact f.same_refl _
  | sup f => exact f.same_refl _
  | lgc f => exact f.same_refl _
  | net f => exact f.same_refl _
  | nvs f => exact f.same_refl _
  | buffer => exact fun _ h => h
  | safe => exact fun _ h => h
  | fence => exact k.resolve_left fun c => no c hp
  | obj g => exact fun _ _ => rfl
  | log => exact ⟨rfl, rfl, rfl, rfl⟩
  | _ => exact rfl

theorem upd_mod {F : Nat} {s0 s : State} (h : Keeps F s0 s) (v : ModesSt)
    (e : ∀ f : ModField, F.testBit f.bit = false → f.same s.mod v) : Keeps F s0 { s with mod := v } := by
  refine h.trans ⟨fun p hp => ?_, fun i => ⟨i.objs, i.saved, ⟨i.log.rising, i.log.below, i.log.room⟩⟩, le_refl _⟩
  cases p with
  | isl f => exact f.same_refl _
  | mod f => exact e f hp
  | stg f => exact fun n => f.same_refl _
  | shr f => exact fun n => f.same_refl _
  | frt f => exact fun n => f.same_refl _
  | srv f => exact fun n => f.same_refl _
  | pie f => exact fun n => f.same_refl _
  | edg f => exact f.same_refl _
  | gdv f => exact f.same_refl _
  | acq f => exact f.same_refl _
  | gal f => exact fun n => f.same_refl _
  | clk f => exact f.same_refl _
  | twn f => exact f.same_refl _
  | saf f => exact f.same_refl _
  | fio f => exact f.same_refl _
  | sup f => exact f.same_refl _
  | lgc f => exact f.same_refl _
  | net f => exact f.same_refl _
  | nvs f => exact f.same_refl _
  | buffer => exact fun _ h => h
  | safe => exact fun _ h => h
  | fence => exact fun _ h => h
  | obj g => exact fun _ _ => rfl
  | log => exact ⟨rfl, rfl, rfl, rfl⟩
  | _ => exact rfl

theorem upd_stg {F : Nat} {s0 s : State} {g : StageCore → StageCore} (n : StageId) (h : Keeps F s0 s) (e : StgField.Upd F g) (k : F.testBit 10 = true ∨ ∀ x, x.st = .safe → (g x).st = .safe) :
    Keeps F s0 { s with stg := s.stg.set n (g s.stg[n]) } := by
  refine h.trans ⟨fun p hp => ?_, fun i => ⟨i.objs, i.saved, ⟨i.log.rising, i.log.below, i.log.room⟩⟩, le_refl _⟩
  cases p with
  | isl f => exact f.same_refl _
  | mod f => exact f.same_refl _
  | stg f =>
    intro m
    show f.same s.stg[m] (s.stg.set n (g s.stg[n]))[m]
    rw [Fin.getElem_fin, Fin.getElem_fin, Vector.getElem_set]
    split
    · rename_i q
      have q : n = m := Fin.ext q
      subst q
      exact e _ f hp
    · exact f.same_refl _
  | shr f => exact fun n => f.same_refl _
  | frt f => exact fun n => f.same_refl _
  | srv f => exact fun n => f.same_refl _
  | pie f => exact fun n => f.same_refl _
  | edg f => exact f.same_refl _
  | gdv f => exact f.same_refl _
  | acq f => exact f.same_refl _
  | gal f => exact fun n => f.same_refl _
  | clk f => exact f.same_refl _
  | twn f => exact f.same_refl _
  | saf f => exact f.same_refl _
  | fio f => exact f.same_refl _
  | sup f => exact f.same_refl _
  | lgc f => exact f.same_refl _
  | net f => exact f.same_refl _
  | nvs f => exact f.same_refl _
  | buffer => exact fun _ h => h
  | safe =>
    intro m hm
    show (s.stg.set n (g s.stg[n]))[m].st = .safe
    rw [Fin.getElem_fin, Vector.getElem_set]
    split
    · rename_i q
      have q : n = m := Fin.ext q
      subst q
      exact (k.resolve_left fun c => no c hp) _ hm
    · exact hm
  | fence => exact fun _ h => h
  | obj g => exact fun _ _ => rfl
  | log => exact ⟨rfl, rfl, rfl, rfl⟩
  | _ => exact rfl

theorem upd_shr {F : Nat} {s0 s : State} {g : ShareSt → ShareSt} (n : StageId) (h : Keeps F s0 s) (e : ShrField.Upd F g) :
    Keeps F s0 { s with shr := s.shr.set n (g s.shr[n]) } := by
  refine h.trans ⟨fun p hp => ?_, fun i => ⟨i.objs, i.saved, ⟨i.log.rising, i.log.below, i.log.room⟩⟩, le_refl _⟩
  cases p with
  | isl f => exact f.same_refl _
  | mod f => exact f.same_refl _
  | stg f => exact fun n => f.same_refl _
  | shr f =>
    intro m
    show f.same s.shr[m] (s.shr.set n (g s.shr[n]))[m]
    rw [Fin.getElem_fin, Fin.getElem_fin, Vector.getElem_set]
    split
    · rename_i q
      have q : n = m := Fin.ext q
      subst q
      exact e _ f hp
    · exact f.same_refl _
  | frt f => exact fun n => f.same_refl _
  | srv f => exact fun n => f.same_refl _
  | pie f => exact fun n => f.same_refl _
  | edg f => exact f.same_refl _
  | gdv f => exact f.same_refl _
  | acq f => exact f.same_refl _
  | gal f => exact fun n => f.same_refl _
  | clk f => exact f.same_refl _
  | twn f => exact f.same_refl _
  | saf f => exact f.same_refl _
  | fio f => exact f.same_refl _
  | sup f => exact f.same_refl _
  | lgc f => exact f.same_refl _
  | net f => exact f.same_refl _
  | nvs f => exact f.same_refl _
  | buffer => exact fun _ h => h
  | safe => exact fun _ h => h
  | fence => exact fun _ h => h
  | obj g => exact fun _ _ => rfl
  | log => exact ⟨rfl, rfl, rfl, rfl⟩
  | _ => exact rfl

theorem upd_frt {F : Nat} {s0 s : State} {g : RideSt → RideSt} (n : StageId) (h : Keeps F s0 s) (e : FrtField.Upd F g) :
    Keeps F s0 { s with frt := s.frt.set n (g s.frt[n]) } := by
  refine h.trans ⟨fun p hp => ?_, fun i => ⟨i.objs, i.saved, ⟨i.log.rising, i.log.below, i.log.room⟩⟩, le_refl _⟩
  cases p with
  | isl f => exact f.same_refl _
  | mod f => exact f.same_refl _
  | stg f => exact fun n => f.same_refl _
  | shr f => exact fun n => f.same_refl _
  | frt f =>
    intro m
    show f.same s.frt[m] (s.frt.set n (g s.frt[n]))[m]
    rw [Fin.getElem_fin, Fin.getElem_fin, Vector.getElem_set]
    split
    · rename_i q
      have q : n = m := Fin.ext q
      subst q
      exact e _ f hp
    · exact f.same_refl _
  | srv f => exact fun n => f.same_refl _
  | pie f => exact fun n => f.same_refl _
  | edg f => exact f.same_refl _
  | gdv f => exact f.same_refl _
  | acq f => exact f.same_refl _
  | gal f => exact fun n => f.same_refl _
  | clk f => exact f.same_refl _
  | twn f => exact f.same_refl _
  | saf f => exact f.same_refl _
  | fio f => exact f.same_refl _
  | sup f => exact f.same_refl _
  | lgc f => exact f.same_refl _
  | net f => exact f.same_refl _
  | nvs f => exact f.same_refl _
  | buffer => exact fun _ h => h
  | safe => exact fun _ h => h
  | fence => exact fun _ h => h
  | obj g => exact fun _ _ => rfl
  | log => exact ⟨rfl, rfl, rfl, rfl⟩
  | _ => exact rfl

theorem upd_srv {F : Nat} {s0 s : State} {g : SurveySt → SurveySt} (n : StageId) (h : Keeps F s0 s) (e : SrvField.Upd F g) :
    Keeps F s0 { s with srv := s.srv.set n (g s.srv[n]) } := by
  refine h.trans ⟨fun p hp => ?_, fun i => ⟨i.objs, i.saved, ⟨i.log.rising, i.log.below, i.log.room⟩⟩, le_refl _⟩
  cases p with
  | isl f => exact f.same_refl _
  | mod f => exact f.same_refl _
  | stg f => exact fun n => f.same_refl _
  | shr f => exact fun n => f.same_refl _
  | frt f => exact fun n => f.same_refl _
  | srv f =>
    intro m
    show f.same s.srv[m] (s.srv.set n (g s.srv[n]))[m]
    rw [Fin.getElem_fin, Fin.getElem_fin, Vector.getElem_set]
    split
    · rename_i q
      have q : n = m := Fin.ext q
      subst q
      exact e _ f hp
    · exact f.same_refl _
  | pie f => exact fun n => f.same_refl _
  | edg f => exact f.same_refl _
  | gdv f => exact f.same_refl _
  | acq f => exact f.same_refl _
  | gal f => exact fun n => f.same_refl _
  | clk f => exact f.same_refl _
  | twn f => exact f.same_refl _
  | saf f => exact f.same_refl _
  | fio f => exact f.same_refl _
  | sup f => exact f.same_refl _
  | lgc f => exact f.same_refl _
  | net f => exact f.same_refl _
  | nvs f => exact f.same_refl _
  | buffer => exact fun _ h => h
  | safe => exact fun _ h => h
  | fence => exact fun _ h => h
  | obj g => exact fun _ _ => rfl
  | log => exact ⟨rfl, rfl, rfl, rfl⟩
  | _ => exact rfl

theorem upd_pie {F : Nat} {s0 s : State} {g : PierSt → PierSt} (n : StageId) (h : Keeps F s0 s) (e : PieField.Upd F g) :
    Keeps F s0 { s with pie := s.pie.set n (g s.pie[n]) } := by
  refine h.trans ⟨fun p hp => ?_, fun i => ⟨i.objs, i.saved, ⟨i.log.rising, i.log.below, i.log.room⟩⟩, le_refl _⟩
  cases p with
  | isl f => exact f.same_refl _
  | mod f => exact f.same_refl _
  | stg f => exact fun n => f.same_refl _
  | shr f => exact fun n => f.same_refl _
  | frt f => exact fun n => f.same_refl _
  | srv f => exact fun n => f.same_refl _
  | pie f =>
    intro m
    show f.same s.pie[m] (s.pie.set n (g s.pie[n]))[m]
    rw [Fin.getElem_fin, Fin.getElem_fin, Vector.getElem_set]
    split
    · rename_i q
      have q : n = m := Fin.ext q
      subst q
      exact e _ f hp
    · exact f.same_refl _
  | edg f => exact f.same_refl _
  | gdv f => exact f.same_refl _
  | acq f => exact f.same_refl _
  | gal f => exact fun n => f.same_refl _
  | clk f => exact f.same_refl _
  | twn f => exact f.same_refl _
  | saf f => exact f.same_refl _
  | fio f => exact f.same_refl _
  | sup f => exact f.same_refl _
  | lgc f => exact f.same_refl _
  | net f => exact f.same_refl _
  | nvs f => exact f.same_refl _
  | buffer => exact fun _ h => h
  | safe => exact fun _ h => h
  | fence => exact fun _ h => h
  | obj g => exact fun _ _ => rfl
  | log => exact ⟨rfl, rfl, rfl, rfl⟩
  | _ => exact rfl

theorem upd_edg {F : Nat} {s0 s : State} (h : Keeps F s0 s) (v : EdgeSt)
    (e : ∀ f : EdgField, F.testBit f.bit = false → f.same s.edg v) : Keeps F s0 { s with edg := v } := by
  refine h.trans ⟨fun p hp => ?_, fun i => ⟨i.objs, i.saved, ⟨i.log.rising, i.log.below, i.log.room⟩⟩, le_refl _⟩
  cases p with
  | isl f => exact f.same_refl _
  | mod f => exact f.same_refl _
  | stg f => exact fun n => f.same_refl _
  | shr f => exact fun n => f.same_refl _
  | frt f => exact fun n => f.same_refl _
  | srv f => exact fun n => f.same_refl _
  | pie f => exact fun n => f.same_refl _
  | edg f => exact e f hp
  | gdv f => exact f.same_refl _
  | acq f => exact f.same_refl _
  | gal f => exact fun n => f.same_refl _
  | clk f => exact f.same_refl _
  | twn f => exact f.same_refl _
  | saf f => exact f.same_refl _
  | fio f => exact f.same_refl _
  | sup f => exact f.same_refl _
  | lgc f => exact f.same_refl _
  | net f => exact f.same_refl _
  | nvs f => exact f.same_refl _
  | buffer => exact fun _ h => h
  | safe => exact fun _ h => h
  | fence => exact fun _ h => h
  | obj g => exact fun _ _ => rfl
  | log => exact ⟨rfl, rfl, rfl, rfl⟩
  | _ => exact rfl

theorem upd_gdv {F : Nat} {s0 s : State} (h : Keeps F s0 s) (v : GateSt)
    (e : ∀ f : GdvField, F.testBit f.bit = false → f.same s.gdv v) : Keeps F s0 { s with gdv := v } := by
  refine h.trans ⟨fun p hp => ?_, fun i => ⟨i.objs, i.saved, ⟨i.log.rising, i.log.below, i.log.room⟩⟩, le_refl _⟩
  cases p with
  | isl f => exact f.same_refl _
  | mod f => exact f.same_refl _
  | stg f => exact fun n => f.same_refl _
  | shr f => exact fun n => f.same_refl _
  | frt f => exact fun n => f.same_refl _
  | srv f => exact fun n => f.same_refl _
  | pie f => exact fun n => f.same_refl _
  | edg f => exact f.same_refl _
  | gdv f => exact e f hp
  | acq f => exact f.same_refl _
  | gal f => exact fun n => f.same_refl _
  | clk f => exact f.same_refl _
  | twn f => exact f.same_refl _
  | saf f => exact f.same_refl _
  | fio f => exact f.same_refl _
  | sup f => exact f.same_refl _
  | lgc f => exact f.same_refl _
  | net f => exact f.same_refl _
  | nvs f => exact f.same_refl _
  | buffer => exact fun _ h => h
  | safe => exact fun _ h => h
  | fence => exact fun _ h => h
  | obj g => exact fun _ _ => rfl
  | log => exact ⟨rfl, rfl, rfl, rfl⟩
  | _ => exact rfl

theorem upd_acq {F : Nat} {s0 s : State} (h : Keeps F s0 s) (v : AcqSt)
    (e : ∀ f : AcqField, F.testBit f.bit = false → f.same s.acq v) : Keeps F s0 { s with acq := v } := by
  refine h.trans ⟨fun p hp => ?_, fun i => ⟨i.objs, i.saved, ⟨i.log.rising, i.log.below, i.log.room⟩⟩, le_refl _⟩
  cases p with
  | isl f => exact f.same_refl _
  | mod f => exact f.same_refl _
  | stg f => exact fun n => f.same_refl _
  | shr f => exact fun n => f.same_refl _
  | frt f => exact fun n => f.same_refl _
  | srv f => exact fun n => f.same_refl _
  | pie f => exact fun n => f.same_refl _
  | edg f => exact f.same_refl _
  | gdv f => exact f.same_refl _
  | acq f => exact e f hp
  | gal f => exact fun n => f.same_refl _
  | clk f => exact f.same_refl _
  | twn f => exact f.same_refl _
  | saf f => exact f.same_refl _
  | fio f => exact f.same_refl _
  | sup f => exact f.same_refl _
  | lgc f => exact f.same_refl _
  | net f => exact f.same_refl _
  | nvs f => exact f.same_refl _
  | buffer => exact fun _ h => h
  | safe => exact fun _ h => h
  | fence => exact fun _ h => h
  | obj g => exact fun _ _ => rfl
  | log => exact ⟨rfl, rfl, rfl, rfl⟩
  | _ => exact rfl

theorem upd_gal {F : Nat} {s0 s : State} {g : GalSt → GalSt} (n : StageId) (h : Keeps F s0 s) (e : GalField.Upd F g) :
    Keeps F s0 { s with gal := s.gal.set n (g s.gal[n]) } := by
  refine h.trans ⟨fun p hp => ?_, fun i => ⟨i.objs, i.saved, ⟨i.log.rising, i.log.below, i.log.room⟩⟩, le_refl _⟩
  cases p with
  | isl f => exact f.same_refl _
  | mod f => exact f.same_refl _
  | stg f => exact fun n => f.same_refl _
  | shr f => exact fun n => f.same_refl _
  | frt f => exact fun n => f.same_refl _
  | srv f => exact fun n => f.same_refl _
  | pie f => exact fun n => f.same_refl _
  | edg f => exact f.same_refl _
  | gdv f => exact f.same_refl _
  | acq f => exact f.same_refl _
  | gal f =>
    intro m
    show f.same s.gal[m] (s.gal.set n (g s.gal[n]))[m]
    rw [Fin.getElem_fin, Fin.getElem_fin, Vector.getElem_set]
    split
    · rename_i q
      have q : n = m := Fin.ext q
      subst q
      exact e _ f hp
    · exact f.same_refl _
  | clk f => exact f.same_refl _
  | twn f => exact f.same_refl _
  | saf f => exact f.same_refl _
  | fio f => exact f.same_refl _
  | sup f => exact f.same_refl _
  | lgc f => exact f.same_refl _
  | net f => exact f.same_refl _
  | nvs f => exact f.same_refl _
  | buffer => exact fun _ h => h
  | safe => exact fun _ h => h
  | fence => exact fun _ h => h
  | obj g => exact fun _ _ => rfl
  | log => exact ⟨rfl, rfl, rfl, rfl⟩
  | _ => exact rfl

theorem upd_clk {F : Nat} {s0 s : State} (h : Keeps F s0 s) (v : ClockSt)
    (e : ∀ f : ClkField, F.testBit f.bit = false → f.same s.clk v) : Keeps F s0 { s with clk := v } := by
  refine h.trans ⟨fun p hp => ?_, fun i => ⟨i.objs, i.saved, ⟨i.log.rising, i.log.below, i.log.room⟩⟩, le_refl _⟩
  cases p with
  | isl f => exact f.same_refl _
  | mod f => exact f.same_refl _
  | stg f => exact fun n => f.same_refl _
  | shr f => exact fun n => f.same_refl _
  | frt f => exact fun n => f.same_refl _
  | srv f => exact fun n => f.same_refl _
  | pie f => exact fun n => f.same_refl _
  | edg f => exact f.same_refl _
  | gdv f => exact f.same_refl _
  | acq f => exact f.same_refl _
  | gal f => exact fun n => f.same_refl _
  | clk f => exact e f hp
  | twn f => exact f.same_refl _
  | saf f => exact f.same_refl _
  | fio f => exact f.same_refl _
  | sup f => exact f.same_refl _
  | lgc f => exact f.same_refl _
  | net f => exact f.same_refl _
  | nvs f => exact f.same_refl _
  | buffer => exact fun _ h => h
  | safe => exact fun _ h => h
  | fence => exact fun _ h => h
  | obj g => exact fun _ _ => rfl
  | log => exact ⟨rfl, rfl, rfl, rfl⟩
  | _ => exact rfl

theorem upd_twn {F : Nat} {s0 s : State} (h : Keeps F s0 s) (v : TwinSt)
    (e : ∀ f : TwnField, F.testBit f.bit = false → f.same s.twn v) : Keeps F s0 { s with twn := v } := by
  refine h.trans ⟨fun p hp => ?_, fun i => ⟨i.objs, i.saved, ⟨i.log.rising, i.log.below, i.log.room⟩⟩, le_refl _⟩
  cases p with
  | isl f => exact f.same_refl _
  | mod f => exact f.same_refl _
  | stg f => exact fun n => f.same_refl _
  | shr f => exact fun n => f.same_refl _
  | frt f => exact fun n => f.same_refl _
  | srv f => exact fun n => f.same_refl _
  | pie f => exact fun n => f.same_refl _
  | edg f => exact f.same_refl _
  | gdv f => exact f.same_refl _
  | acq f => exact f.same_refl _
  | gal f => exact fun n => f.same_refl _
  | clk f => exact f.same_refl _
  | twn f => exact e f hp
  | saf f => exact f.same_refl _
  | fio f => exact f.same_refl _
  | sup f => exact f.same_refl _
  | lgc f => exact f.same_refl _
  | net f => exact f.same_refl _
  | nvs f => exact f.same_refl _
  | buffer => exact fun _ h => h
  | safe => exact fun _ h => h
  | fence => exact fun _ h => h
  | obj g => exact fun _ _ => rfl
  | log => exact ⟨rfl, rfl, rfl, rfl⟩
  | _ => exact rfl

theorem upd_saf {F : Nat} {s0 s : State} (h : Keeps F s0 s) (v : SafetySt)
    (e : ∀ f : SafField, F.testBit f.bit = false → f.same s.saf v) : Keeps F s0 { s with saf := v } := by
  refine h.trans ⟨fun p hp => ?_, fun i => ⟨i.objs, i.saved, ⟨i.log.rising, i.log.below, i.log.room⟩⟩, le_refl _⟩
  cases p with
  | isl f => exact f.same_refl _
  | mod f => exact f.same_refl _
  | stg f => exact fun n => f.same_refl _
  | shr f => exact fun n => f.same_refl _
  | frt f => exact fun n => f.same_refl _
  | srv f => exact fun n => f.same_refl _
  | pie f => exact fun n => f.same_refl _
  | edg f => exact f.same_refl _
  | gdv f => exact f.same_refl _
  | acq f => exact f.same_refl _
  | gal f => exact fun n => f.same_refl _
  | clk f => exact f.same_refl _
  | twn f => exact f.same_refl _
  | saf f => exact e f hp
  | fio f => exact f.same_refl _
  | sup f => exact f.same_refl _
  | lgc f => exact f.same_refl _
  | net f => exact f.same_refl _
  | nvs f => exact f.same_refl _
  | buffer => exact fun _ h => h
  | safe => exact fun _ h => h
  | fence => exact fun _ h => h
  | obj g => exact fun _ _ => rfl
  | log => exact ⟨rfl, rfl, rfl, rfl⟩
  | _ => exact rfl

theorem upd_fio {F : Nat} {s0 s : State} (h : Keeps F s0 s) (v : FieldSt)
    (e : ∀ f : FioField, F.testBit f.bit = false → f.same s.fio v) : Keeps F s0 { s with fio := v } := by
  refine h.trans ⟨fun p hp => ?_, fun i => ⟨i.objs, i.saved, ⟨i.log.rising, i.log.below, i.log.room⟩⟩, le_refl _⟩
  cases p with
  | isl f => exact f.same_refl _
  | mod f => exact f.same_refl _
  | stg f => exact fun n => f.same_refl _
  | shr f => exact fun n => f.same_refl _
  | frt f => exact fun n => f.same_refl _
  | srv f => exact fun n => f.same_refl _
  | pie f => exact fun n => f.same_refl _
  | edg f => exact f.same_refl _
  | gdv f => exact f.same_refl _
  | acq f => exact f.same_refl _
  | gal f => exact fun n => f.same_refl _
  | clk f => exact f.same_refl _
  | twn f => exact f.same_refl _
  | saf f => exact f.same_refl _
  | fio f => exact e f hp
  | sup f => exact f.same_refl _
  | lgc f => exact f.same_refl _
  | net f => exact f.same_refl _
  | nvs f => exact f.same_refl _
  | buffer => exact fun _ h => h
  | safe => exact fun _ h => h
  | fence => exact fun _ h => h
  | obj g => exact fun _ _ => rfl
  | log => exact ⟨rfl, rfl, rfl, rfl⟩
  | _ => exact rfl

theorem upd_sup {F : Nat} {s0 s : State} (h : Keeps F s0 s) (v : SupplySt)
    (e : ∀ f : SupField, F.testBit f.bit = false → f.same s.sup v) : Keeps F s0 { s with sup := v } := by
  refine h.trans ⟨fun p hp => ?_, fun i => ⟨i.objs, i.saved, ⟨i.log.rising, i.log.below, i.log.room⟩⟩, le_refl _⟩
  cases p with
  | isl f => exact f.same_refl _
  | mod f => exact f.same_refl _
  | stg f => exact fun n => f.same_refl _
  | shr f => exact fun n => f.same_refl _
  | frt f => exact fun n => f.same_refl _
  | srv f => exact fun n => f.same_refl _
  | pie f => exact fun n => f.same_refl _
  | edg f => exact f.same_refl _
  | gdv f => exact f.same_refl _
  | acq f => exact f.same_refl _
  | gal f => exact fun n => f.same_refl _
  | clk f => exact f.same_refl _
  | twn f => exact f.same_refl _
  | saf f => exact f.same_refl _
  | fio f => exact f.same_refl _
  | sup f => exact e f hp
  | lgc f => exact f.same_refl _
  | net f => exact f.same_refl _
  | nvs f => exact f.same_refl _
  | buffer => exact fun _ h => h
  | safe => exact fun _ h => h
  | fence => exact fun _ h => h
  | obj g => exact fun _ _ => rfl
  | log => exact ⟨rfl, rfl, rfl, rfl⟩
  | _ => exact rfl

theorem upd_lgc {F : Nat} {s0 s : State} (h : Keeps F s0 s) (v : LogicSt)
    (e : ∀ f : LgcField, F.testBit f.bit = false → f.same s.lgc v) : Keeps F s0 { s with lgc := v } := by
  refine h.trans ⟨fun p hp => ?_, fun i => ⟨i.objs, i.saved, ⟨i.log.rising, i.log.below, i.log.room⟩⟩, le_refl _⟩
  cases p with
  | isl f => exact f.same_refl _
  | mod f => exact f.same_refl _
  | stg f => exact fun n => f.same_refl _
  | shr f => exact fun n => f.same_refl _
  | frt f => exact fun n => f.same_refl _
  | srv f => exact fun n => f.same_refl _
  | pie f => exact fun n => f.same_refl _
  | edg f => exact f.same_refl _
  | gdv f => exact f.same_refl _
  | acq f => exact f.same_refl _
  | gal f => exact fun n => f.same_refl _
  | clk f => exact f.same_refl _
  | twn f => exact f.same_refl _
  | saf f => exact f.same_refl _
  | fio f => exact f.same_refl _
  | sup f => exact f.same_refl _
  | lgc f => exact e f hp
  | net f => exact f.same_refl _
  | nvs f => exact f.same_refl _
  | buffer => exact fun _ h => h
  | safe => exact fun _ h => h
  | fence => exact fun _ h => h
  | obj g => exact fun _ _ => rfl
  | log => exact ⟨rfl, rfl, rfl, rfl⟩
  | _ => exact rfl

theorem upd_net {F : Nat} {s0 s : State} (h : Keeps F s0 s) (v : NetSt)
    (e : ∀ f : NetField, F.testBit f.bit = false → f.same s.net v) : Keeps F s0 { s with net := v } := by
  refine h.trans ⟨fun p hp => ?_, fun i => ⟨i.objs, i.saved, ⟨i.log.rising, i.log.below, i.log.room⟩⟩, le_refl _⟩
  cases p with
  | isl f => exact f.same_refl _
  | mod f => exact f.same_refl _
  | stg f => exact fun n => f.same_refl _
  | shr f => exact fun n => f.same_refl _
  | frt f => exact fun n => f.same_refl _
  | srv f => exact fun n => f.same_refl _
  | pie f => exact fun n => f.same_refl _
  | edg f => exact f.same_refl _
  | gdv f => exact f.same_refl _
  | acq f => exact f.same_refl _
  | gal f => exact fun n => f.same_refl _
  | clk f => exact f.same_refl _
  | twn f => exact f.same_refl _
  | saf f => exact f.same_refl _
  | fio f => exact f.same_refl _
  | sup f => exact f.same_refl _
  | lgc f => exact f.same_refl _
  | net f => exact e f hp
  | nvs f => exact f.same_refl _
  | buffer => exact fun _ h => h
  | safe => exact fun _ h => h
  | fence => exact fun _ h => h
  | obj g => exact fun _ _ => rfl
  | log => exact ⟨rfl, rfl, rfl, rfl⟩
  | _ => exact rfl

theorem upd_nvs {F : Nat} {s0 s : State} (h : Keeps F s0 s) (v : StoresSt)
    (e : ∀ f : NvsField, F.testBit f.bit = false → f.same s.nvs v) : Keeps F s0 { s with nvs := v } := by
  refine h.trans ⟨fun p hp => ?_, fun i => ⟨i.objs, i.saved, ⟨i.log.rising, i.log.below, i.log.room⟩⟩, le_refl _⟩
  cases p with
  | isl f => exact f.same_refl _
  | mod f => exact f.same_refl _
  | stg f => exact fun n => f.same_refl _
  | shr f => exact fun n => f.same_refl _
  | frt f => exact fun n => f.same_refl _
  | srv f => exact fun n => f.same_refl _
  | pie f => exact fun n => f.same_refl _
  | edg f => exact f.same_refl _
  | gdv f => exact f.same_refl _
  | acq f => exact f.same_refl _
  | gal f => exact fun n => f.same_refl _
  | clk f => exact f.same_refl _
  | twn f => exact f.same_refl _
  | saf f => exact f.same_refl _
  | fio f => exact f.same_refl _
  | sup f => exact f.same_refl _
  | lgc f => exact f.same_refl _
  | net f => exact f.same_refl _
  | nvs f => exact e f hp
  | buffer => exact fun _ h => h
  | safe => exact fun _ h => h
  | fence => exact fun _ h => h
  | obj g => exact fun _ _ => rfl
  | log => exact ⟨rfl, rfl, rfl, rfl⟩
  | _ => exact rfl

theorem foldl_mem {F : Nat} {s0 s : State} {α : Type} {f : State → α → State} (l : List α)
    (hf : ∀ t, ∀ a ∈ l, Keeps F s0 t → Keeps F s0 (f t a)) (h : Keeps F s0 s) : Keeps F s0 (l.foldl f s) := by
  induction l generalizing s with
  | nil => exact h
  | cons a l ih => exact ih (fun t b hb => hf t b (List.mem_cons_of_mem _ hb)) (hf _ _ List.mem_cons_self h)

theorem cutF {F : Nat} {s0 b : State} {α : Type} (f : α → State → State) (hf : ∀ a t, Keeps F s0 t → Keeps F s0 (f a t))
    (hb : (∀ a t, Keeps F s0 t → Keeps F s0 (f a t)) → Keeps F s0 b) : Keeps F s0 b := hb hf

theorem cutF1 {F : Nat} {s0 b : State} (f : State → State) (hf : ∀ t, Keeps F s0 t → Keeps F s0 (f t))
    (hb : (∀ t, Keeps F s0 t → Keeps F s0 (f t)) → Keeps F s0 b) : Keeps F s0 b := hb hf

theorem upd_commitWrites_heldWrites {F : Nat} {s0 s : State} (h : Keeps F s0 s) (e : F.testBit 2 = true) (e' : F.testBit 3 = true)
    (v w : List ObjCell) : Keeps F s0 { s with commitWrites := v, heldWrites := w } :=
  upd_heldWrites (upd_commitWrites h e v) e' w

/-! ### Objects -/

/-- Writing an object of a chapter in the footprint. -/
theorem setObj {F : Nat} {s0 s : State} {key : Nat} (g : ObjGroup) (hg : objGroup key = g) (e : F.testBit (Part.obj g).bit = true)
    (v : Val) (h : Keeps F s0 s) : Keeps F s0 (s.setObj key v) := by
  refine h.trans ⟨fun p hp => ?_, fun i => ⟨cellsWf_cellPut i.objs, i.saved, ⟨i.log.rising, i.log.below, i.log.room⟩⟩, le_refl _⟩
  cases p with
    | isl f => exact f.same_refl _
    | mod f => exact f.same_refl _
    | stg f => exact fun n => f.same_refl _
    | shr f => exact fun n => f.same_refl _
    | frt f => exact fun n => f.same_refl _
    | srv f => exact fun n => f.same_refl _
    | pie f => exact fun n => f.same_refl _
    | edg f => exact f.same_refl _
    | gdv f => exact f.same_refl _
    | acq f => exact f.same_refl _
    | gal f => exact fun n => f.same_refl _
    | clk f => exact f.same_refl _
    | twn f => exact f.same_refl _
    | saf f => exact f.same_refl _
    | fio f => exact f.same_refl _
    | sup f => exact f.same_refl _
    | lgc f => exact f.same_refl _
    | net f => exact f.same_refl _
    | nvs f => exact f.same_refl _
    | buffer => exact fun _ h => h
    | safe => exact fun _ h => h
    | fence => exact fun _ h => h
    | obj g => 
    intro k hk
    refine cellGet_cellPut_ne (fun c => ?_) v s.objs
    subst c
    rw [hg] at hk
    subst hk
    exact no e hp
    | log => exact ⟨rfl, rfl, rfl, rfl⟩
    | _ => exact rfl

theorem setN {F : Nat} {s0 s : State} {key : Nat} (g : ObjGroup) (hg : objGroup key = g) (e : F.testBit (Part.obj g).bit = true)
    (n : Nat) (h : Keeps F s0 s) : Keeps F s0 (s.setN key n) := setObj g hg e _ h

theorem setR {F : Nat} {s0 s : State} {key : Nat} (g : ObjGroup) (hg : objGroup key = g) (e : F.testBit (Part.obj g).bit = true)
    (q : Rat) (h : Keeps F s0 s) : Keeps F s0 (s.setR key q) := setObj g hg e _ h

theorem bump {F : Nat} {s0 s : State} {key : Nat} (g : ObjGroup) (hg : objGroup key = g) (e : F.testBit (Part.obj g).bit = true)
    (h : Keeps F s0 s) : Keeps F s0 (s.bump key) := setN g hg e _ h

theorem setField {F : Nat} {s0 s : State} {key : Nat} (g : ObjGroup) (hg : objGroup key = g) (e : F.testBit (Part.obj g).bit = true)
    (lo width x : Nat) (h : Keeps F s0 s) : Keeps F s0 (s.setField key lo width x) := setN g hg e _ h

theorem setBit {F : Nat} {s0 s : State} {key : Nat} (g : ObjGroup) (hg : objGroup key = g) (e : F.testBit (Part.obj g).bit = true)
    (n : Nat) (b : Bool) (h : Keeps F s0 s) : Keeps F s0 (s.setBit key n b) := setField g hg e _ _ _ h

/-- A footprint with every chapter of the dictionary. -/
abbrev AllObjs (F : Nat) : Prop := F &&& 0x3ffffffffffffffffffffffffffffffffffffffffffffffffffffffffffffff000 = 0x3ffffffffffffffffffffffffffffffffffffffffffffffffffffffffffffff000

theorem AllObjs.bit {F : Nat} (h : AllObjs F) (g : ObjGroup) : F.testBit (Part.obj g).bit = true := by
  have k : (F &&& 0x3ffffffffffffffffffffffffffffffffffffffffffffffffffffffffffffff000).testBit (Part.obj g).bit = true := by rw [h]; cases g <;> decide
  rw [Nat.testBit_and, Bool.and_eq_true] at k
  exact k.1

theorem setObjAny {F : Nat} {s0 s : State} (e : AllObjs F) (key : Nat) (v : Val) (h : Keeps F s0 s) : Keeps F s0 (s.setObj key v) :=
  setObj _ rfl (e.bit _) v h
theorem setNAny {F : Nat} {s0 s : State} (e : AllObjs F) (key n : Nat) (h : Keeps F s0 s) : Keeps F s0 (s.setN key n) :=
  setObj _ rfl (e.bit _) _ h
theorem bumpAny {F : Nat} {s0 s : State} (e : AllObjs F) (key : Nat) (h : Keeps F s0 s) : Keeps F s0 (s.bump key) :=
  setObj _ rfl (e.bit _) _ h
theorem setRAny {F : Nat} {s0 s : State} (e : AllObjs F) (key : Nat) (q : Rat) (h : Keeps F s0 s) : Keeps F s0 (s.setR key q) :=
  setObj _ rfl (e.bit _) _ h
theorem setBitAny {F : Nat} {s0 s : State} (e : AllObjs F) (key n : Nat) (b : Bool) (h : Keeps F s0 s) : Keeps F s0 (s.setBit key n b) :=
  setObj _ rfl (e.bit _) _ h
theorem setFieldAny {F : Nat} {s0 s : State} (e : AllObjs F) (key lo width x : Nat) (h : Keeps F s0 s) :
    Keeps F s0 (s.setField key lo width x) := setObj _ rfl (e.bit _) _ h

/-- Waiting writes act, all of them to chapters in the footprint. -/
theorem applyCells {F : Nat} {s0 s : State} (ws : List ObjCell) (hw : ∀ w ∈ ws, F.testBit (Part.obj (objGroup w.1)).bit = true)
    (h : Keeps F s0 s) : Keeps F s0 (ws.foldl (fun s w => s.setObj w.1 w.2) s) :=
  foldl_mem ws (fun _ w k ht => setObj _ rfl (hw w k) _ ht) h

/-- Waiting writes take their turn, all of them to chapters in the footprint. -/
theorem applyDue {F : Nat} {s0 s : State} (r : RunRule) (ws : List ObjCell) (hw : ∀ w ∈ ws, F.testBit (Part.obj (objGroup w.1)).bit = true)
    (h : Keeps F s0 s) : Keeps F s0 (ws.foldl (State.setDue r) s) :=
  foldl_mem ws (fun _ w k ht => setObj _ rfl (hw w k) _ ht) h

/-- All values of the dictionary at once. -/
theorem upd_objs {F : Nat} {s0 s : State} (h : Keeps F s0 s) (e : AllObjs F) (v : List ObjCell) (w : cellsWf s.objs = true → cellsWf v = true) :
    Keeps F s0 { s with objs := v } := by
  refine h.trans ⟨fun p hp => ?_, fun i => ⟨w i.objs, i.saved, ⟨i.log.rising, i.log.below, i.log.room⟩⟩, le_refl _⟩
  cases p with
    | isl f => exact f.same_refl _
    | mod f => exact f.same_refl _
    | stg f => exact fun n => f.same_refl _
    | shr f => exact fun n => f.same_refl _
    | frt f => exact fun n => f.same_refl _
    | srv f => exact fun n => f.same_refl _
    | pie f => exact fun n => f.same_refl _
    | edg f => exact f.same_refl _
    | gdv f => exact f.same_refl _
    | acq f => exact f.same_refl _
    | gal f => exact fun n => f.same_refl _
    | clk f => exact f.same_refl _
    | twn f => exact f.same_refl _
    | saf f => exact f.same_refl _
    | fio f => exact f.same_refl _
    | sup f => exact f.same_refl _
    | lgc f => exact f.same_refl _
    | net f => exact f.same_refl _
    | nvs f => exact f.same_refl _
    | buffer => exact fun _ h => h
    | safe => exact fun _ h => h
    | fence => exact fun _ h => h
    | obj g => exact no (e.bit g) hp
    | log => exact ⟨rfl, rfl, rfl, rfl⟩
    | _ => exact rfl

theorem upd_saved {F : Nat} {s0 s : State} (h : Keeps F s0 s) (e : F.testBit 1 = true) (v : List ObjCell)
    (w : Inv s → cellsWf v = true) : Keeps F s0 { s with saved := v } := by
  refine h.trans ⟨fun p hp => ?_, fun i => ⟨i.objs, w i, ⟨i.log.rising, i.log.below, i.log.room⟩⟩, le_refl _⟩
  cases p with
    | isl f => exact f.same_refl _
    | mod f => exact f.same_refl _
    | stg f => exact fun n => f.same_refl _
    | shr f => exact fun n => f.same_refl _
    | frt f => exact fun n => f.same_refl _
    | srv f => exact fun n => f.same_refl _
    | pie f => exact fun n => f.same_refl _
    | edg f => exact f.same_refl _
    | gdv f => exact f.same_refl _
    | acq f => exact f.same_refl _
    | gal f => exact fun n => f.same_refl _
    | clk f => exact f.same_refl _
    | twn f => exact f.same_refl _
    | saf f => exact f.same_refl _
    | fio f => exact f.same_refl _
    | sup f => exact f.same_refl _
    | lgc f => exact f.same_refl _
    | net f => exact f.same_refl _
    | nvs f => exact f.same_refl _
    | buffer => exact fun _ h => h
    | safe => exact fun _ h => h
    | fence => exact fun _ h => h
    | obj g => exact fun _ _ => rfl
    | log => exact ⟨rfl, rfl, rfl, rfl⟩
    | saved => exact no e hp
    | _ => exact rfl

theorem upd_objs_resetWrites {F : Nat} {s0 s : State} (h : Keeps F s0 s) (e : AllObjs F) (e' : F.testBit 5 = true) (v w : List ObjCell)
    (k : cellsWf s.objs = true → cellsWf v = true) : Keeps F s0 { s with objs := v, resetWrites := w } :=
  upd_resetWrites (upd_objs h e v k) e' w

theorem upd_objs_commitWrites_heldWrites {F : Nat} {s0 s : State} (h : Keeps F s0 s) (e : AllObjs F) (e2 : F.testBit 2 = true)
    (e3 : F.testBit 3 = true) (v w x : List ObjCell) (k : cellsWf s.objs = true → cellsWf v = true) :
    Keeps F s0 { s with objs := v, commitWrites := w, heldWrites := x } :=
  upd_commitWrites_heldWrites (upd_objs h e v k) e2 e3 w x

/-! ### The event log -/

theorem upd_lastLog {F : Nat} {s0 s : State} (h : Keeps F s0 s) (e : F.testBit 8 = true) (v : List (Nat × Nat × Nat × Nat)) :
    Keeps F s0 { s with lastLog := v } := by
  refine h.trans ⟨fun p hp => ?_, fun i => ⟨i.objs, i.saved, ⟨i.log.rising, i.log.below, i.log.room⟩⟩, le_refl _⟩
  cases p with
    | isl f => exact f.same_refl _
    | mod f => exact f.same_refl _
    | stg f => exact fun n => f.same_refl _
    | shr f => exact fun n => f.same_refl _
    | frt f => exact fun n => f.same_refl _
    | srv f => exact fun n => f.same_refl _
    | pie f => exact fun n => f.same_refl _
    | edg f => exact f.same_refl _
    | gdv f => exact f.same_refl _
    | acq f => exact f.same_refl _
    | gal f => exact fun n => f.same_refl _
    | clk f => exact f.same_refl _
    | twn f => exact f.same_refl _
    | saf f => exact f.same_refl _
    | fio f => exact f.same_refl _
    | sup f => exact f.same_refl _
    | lgc f => exact f.same_refl _
    | net f => exact f.same_refl _
    | nvs f => exact f.same_refl _
    | buffer => exact fun _ h => h
    | safe => exact fun _ h => h
    | fence => exact fun _ h => h
    | obj g => exact fun _ _ => rfl
    | log => exact no e hp
    | _ => exact rfl

/-- The log's buffer and flash, what they hold a run of what they held. -/
theorem upd_log {F : Nat} {s0 s : State} (h : Keeps F s0 s) (e : F.testBit 8 = true) (e' : F.testBit 9 = true) (b f : List LogRec)
    (w : (f ++ b).Sublist (s.logFlash ++ s.logBuf)) (r : b.length ≤ s.logBuf.length) :
    Keeps F s0 { s with logBuf := b, logFlash := f } := by
  refine h.trans ⟨fun p hp => ?_, fun i => ⟨i.objs, i.saved, ?_⟩, le_refl _⟩
  · cases p with
      | isl f => exact f.same_refl _
      | mod f => exact f.same_refl _
      | stg f => exact fun n => f.same_refl _
      | shr f => exact fun n => f.same_refl _
      | frt f => exact fun n => f.same_refl _
      | srv f => exact fun n => f.same_refl _
      | pie f => exact fun n => f.same_refl _
      | edg f => exact f.same_refl _
      | gdv f => exact f.same_refl _
      | acq f => exact f.same_refl _
      | gal f => exact fun n => f.same_refl _
      | clk f => exact f.same_refl _
      | twn f => exact f.same_refl _
      | saf f => exact f.same_refl _
      | fio f => exact f.same_refl _
      | sup f => exact f.same_refl _
      | lgc f => exact f.same_refl _
      | net f => exact f.same_refl _
      | nvs f => exact f.same_refl _
      | buffer => exact no e' hp
      | safe => exact fun _ h => h
      | fence => exact fun _ h => h
      | obj g => exact fun _ _ => rfl
      | log => exact no e hp
      | _ => exact rfl
  · exact ⟨i.log.rising.sublist (w.map _), fun x hx => i.log.below x (w.subset hx), r.trans i.log.room⟩

theorem upd_flash {F : Nat} {s0 s : State} (h : Keeps F s0 s) (e : F.testBit 8 = true) (f : List LogRec) (w : f.Sublist s.logFlash) :
    Keeps F s0 { s with logFlash := f } := by
  refine h.trans ⟨fun p hp => ?_, fun i => ⟨i.objs, i.saved, ?_⟩, le_refl _⟩
  · cases p with
      | isl f => exact f.same_refl _
      | mod f => exact f.same_refl _
      | stg f => exact fun n => f.same_refl _
      | shr f => exact fun n => f.same_refl _
      | frt f => exact fun n => f.same_refl _
      | srv f => exact fun n => f.same_refl _
      | pie f => exact fun n => f.same_refl _
      | edg f => exact f.same_refl _
      | gdv f => exact f.same_refl _
      | acq f => exact f.same_refl _
      | gal f => exact fun n => f.same_refl _
      | clk f => exact f.same_refl _
      | twn f => exact f.same_refl _
      | saf f => exact f.same_refl _
      | fio f => exact f.same_refl _
      | sup f => exact f.same_refl _
      | lgc f => exact f.same_refl _
      | net f => exact f.same_refl _
      | nvs f => exact f.same_refl _
      | buffer => exact fun _ h => h
      | safe => exact fun _ h => h
      | fence => exact fun _ h => h
      | obj g => exact fun _ _ => rfl
      | log => exact no e hp
      | _ => exact rfl
  · have w' := w.append_right s.logBuf
    exact ⟨i.log.rising.sublist (w'.map _), fun x hx => i.log.below x (w'.subset hx), i.log.room⟩

end Keeps

open Keeps

/-- An event: a record at the end of the buffer under the next number, or one more dropped (R393, R394). -/
theorem keeps_State_log (s : State) (code : Nat) (data : List Rat) : Keeps 0x4000000000000000000000000000000000000000100 s (s.log code data) := by
  unfold State.log
  split
  · rename_i lt
    refine ⟨fun p hp => ?_, fun i => ⟨i.objs, i.saved, ?_⟩, Nat.le_succ _⟩
    · cases p with
        | isl f => exact f.same_refl _
        | mod f => exact f.same_refl _
        | stg f => exact fun n => f.same_refl _
        | shr f => exact fun n => f.same_refl _
        | frt f => exact fun n => f.same_refl _
        | srv f => exact fun n => f.same_refl _
        | pie f => exact fun n => f.same_refl _
        | edg f => exact f.same_refl _
        | gdv f => exact f.same_refl _
        | acq f => exact f.same_refl _
        | gal f => exact fun n => f.same_refl _
        | clk f => exact f.same_refl _
        | twn f => exact f.same_refl _
        | saf f => exact f.same_refl _
        | fio f => exact f.same_refl _
        | sup f => exact f.same_refl _
        | lgc f => exact f.same_refl _
        | net f => exact f.same_refl _
        | nvs f => exact f.same_refl _
        | buffer => exact fun _ h => List.mem_append_left _ h
        | safe => exact fun _ h => h
        | fence => exact fun _ h => h
        | obj g => exact fun _ _ => rfl
        | log => exact Keeps.no rfl hp
        | _ => exact rfl
    · refine ⟨?_, fun x hx => ?_, ?_⟩
      · rw [← List.append_assoc, List.map_append, List.pairwise_append]
        refine ⟨i.log.rising, by simp, fun a ha b hb => ?_⟩
        obtain ⟨r, hr, rfl⟩ := List.mem_map.1 ha
        simp only [List.map_cons, List.map_nil, List.mem_singleton] at hb
        subst hb
        exact i.log.below r hr
      · rw [← List.append_assoc, List.mem_append] at hx
        rcases hx with hx | hx
        · exact (i.log.below x hx).trans (Nat.lt_succ_self _)
        · rw [List.mem_singleton] at hx
          subst hx
          exact Nat.lt_succ_self _
      · rw [List.length_append, List.length_singleton]
        exact lt
  · exact Keeps.bump .NVS_LOG_DROPPED (by decide +kernel) (by decide) (Keeps.refl s)

theorem keeps_State_logOnce (s : State) (code subj : Nat) (data : List Rat) : Keeps 0x4000000000000000000000000000000000000000100 s (s.logOnce code subj data) := by
  unfold State.logOnce
  split
  · exact upd_lastLog (keeps_State_log _ _ _) (by decide) _
  · dsimp only
    split
    · exact upd_lastLog (keeps_State_log _ _ _) (by decide) _
    · exact upd_lastLog (Keeps.refl _) (by decide) _

theorem KeepsR.next {F : Nat} {s t : State} (h : Keeps F s t) : KeepsR F s (.next t) := ⟨fun u e => by cases e; exact h⟩

theorem KeepsR.ite {F : Nat} {s : State} {a b : Res} {c : Prop} [Decidable c] (ha : KeepsR F s a) (hb : KeepsR F s b) :
    KeepsR F s (if c then a else b) := by split <;> assumption

namespace Keeps

theorem on {F : Nat} {s0 s : State} {i : Island} {f : State → State} (hf : ∀ t, Keeps F s0 t → Keeps F s0 (f t)) (h : Keeps F s0 s) :
    Keeps F s0 (s.on i f) := by
  unfold State.on
  split
  · exact hf s h
  · exact h

theorem accepted {F : Nat} {s0 : State} {r : Bool × State} (h : Keeps F s0 r.2) : Keeps F s0 (Machine.accepted r).2 := h

theorem owned {F : Nat} {s0 s : State} {w : Writer} {f : State → Nat × State} (hf : ∀ t, Keeps F s0 t → Keeps F s0 (f t).2)
    (h : Keeps F s0 s) : Keeps F s0 (Machine.owned w f s).2 := by
  unfold Machine.owned
  split
  · exact hf s h
  · exact h

end Keeps

/-! ### Operations on one chapter's state -/

namespace Keeps

theorem modIsl {F : Nat} {s0 s : State} {g : IslandsSt → IslandsSt} (e : IslField.Upd F g) (k : F.testBit 11 = true ∨ ∀ x, ∀ i ∈ x.fenced, i ∈ (g x).fenced) (h : Keeps F s0 s) :
    Keeps F s0 (s.modIsl g) := upd_isl h _ (e _) (k.imp_right fun k => k _)

theorem modMod {F : Nat} {s0 s : State} {g : ModesSt → ModesSt} (e : ModField.Upd F g) (h : Keeps F s0 s) :
    Keeps F s0 (s.modMod g) := upd_mod h _ (e _)

theorem modStage {F : Nat} {s0 s : State} {g : StageCore → StageCore} {n : StageId} (e : StgField.Upd F g) (k : F.testBit 10 = true ∨ ∀ x, x.st = .safe → (g x).st = .safe) (h : Keeps F s0 s) :
    Keeps F s0 (s.modStage n g) := upd_stg n h e k

theorem modShare {F : Nat} {s0 s : State} {g : ShareSt → ShareSt} {n : StageId} (e : ShrField.Upd F g) (h : Keeps F s0 s) :
    Keeps F s0 (s.modShare n g) := upd_shr n h e

theorem modRide {F : Nat} {s0 s : State} {g : RideSt → RideSt} {n : StageId} (e : FrtField.Upd F g) (h : Keeps F s0 s) :
    Keeps F s0 (s.modRide n g) := upd_frt n h e

theorem modSurvey {F : Nat} {s0 s : State} {g : SurveySt → SurveySt} {n : StageId} (e : SrvField.Upd F g) (h : Keeps F s0 s) :
    Keeps F s0 (s.modSurvey n g) := upd_srv n h e

theorem modPier {F : Nat} {s0 s : State} {g : PierSt → PierSt} {n : StageId} (e : PieField.Upd F g) (h : Keeps F s0 s) :
    Keeps F s0 (s.modPier n g) := upd_pie n h e

theorem modEdg {F : Nat} {s0 s : State} {g : EdgeSt → EdgeSt} (e : EdgField.Upd F g) (h : Keeps F s0 s) :
    Keeps F s0 (s.modEdg g) := upd_edg h _ (e _)

theorem modGdv {F : Nat} {s0 s : State} {g : GateSt → GateSt} (e : GdvField.Upd F g) (h : Keeps F s0 s) :
    Keeps F s0 (s.modGdv g) := upd_gdv h _ (e _)

theorem modAcq {F : Nat} {s0 s : State} {g : AcqSt → AcqSt} (e : AcqField.Upd F g) (h : Keeps F s0 s) :
    Keeps F s0 (s.modAcq g) := upd_acq h _ (e _)

theorem modGal {F : Nat} {s0 s : State} {g : GalSt → GalSt} {n : StageId} (e : GalField.Upd F g) (h : Keeps F s0 s) :
    Keeps F s0 (s.modGal n g) := upd_gal n h e

theorem modClk {F : Nat} {s0 s : State} {g : ClockSt → ClockSt} (e : ClkField.Upd F g) (h : Keeps F s0 s) :
    Keeps F s0 (s.modClk g) := upd_clk h _ (e _)

theorem modTwn {F : Nat} {s0 s : State} {g : TwinSt → TwinSt} (e : TwnField.Upd F g) (h : Keeps F s0 s) :
    Keeps F s0 (s.modTwn g) := upd_twn h _ (e _)

theorem modSaf {F : Nat} {s0 s : State} {g : SafetySt → SafetySt} (e : SafField.Upd F g) (h : Keeps F s0 s) :
    Keeps F s0 (s.modSaf g) := upd_saf h _ (e _)

theorem modFio {F : Nat} {s0 s : State} {g : FieldSt → FieldSt} (e : FioField.Upd F g) (h : Keeps F s0 s) :
    Keeps F s0 (s.modFio g) := upd_fio h _ (e _)

theorem modSup {F : Nat} {s0 s : State} {g : SupplySt → SupplySt} (e : SupField.Upd F g) (h : Keeps F s0 s) :
    Keeps F s0 (s.modSup g) := upd_sup h _ (e _)

theorem modLgc {F : Nat} {s0 s : State} {g : LogicSt → LogicSt} (e : LgcField.Upd F g) (h : Keeps F s0 s) :
    Keeps F s0 (s.modLgc g) := upd_lgc h _ (e _)

theorem modNet {F : Nat} {s0 s : State} {g : NetSt → NetSt} (e : NetField.Upd F g) (h : Keeps F s0 s) :
    Keeps F s0 (s.modNet g) := upd_net h _ (e _)

theorem modNvs {F : Nat} {s0 s : State} {g : StoresSt → StoresSt} (e : NvsField.Upd F g) (h : Keeps F s0 s) :
    Keeps F s0 (s.modNvs g) := upd_nvs h _ (e _)

end Keeps

end Sys2Proof.Machine
end

