-- ==== Sys2Proof/Laws/Keys.lean ====
section
/-!
SUPPORT. The chapter of every dictionary object that a meaning writes.
-/

namespace Sys2Proof.Machine

set_option Elab.async false

theorem group_ACQ_CAL_GAIN (n : Fin 24) : objGroup (Obj.ACQ_CAL_GAIN n) = .ACQ_CAL_GAIN := by
  revert n; decide +kernel
theorem group_ACQ_CAL_OFFSET (n : Fin 24) : objGroup (Obj.ACQ_CAL_OFFSET n) = .ACQ_CAL_OFFSET := by
  revert n; decide +kernel
theorem group_ACQ_CH_STATUS (n : Fin 24) : objGroup (Obj.ACQ_CH_STATUS n) = .ACQ_CH_STATUS := by
  revert n; decide +kernel
theorem group_ACQ_CH_VALUE (n : Fin 24) : objGroup (Obj.ACQ_CH_VALUE n) = .ACQ_CH_VALUE := by
  revert n; decide +kernel
theorem group_ACQ_DIAG_ERROR (n : Fin 24) : objGroup (Obj.ACQ_DIAG_ERROR n) = .ACQ_DIAG_ERROR := by
  revert n; decide +kernel
theorem group_ACQ_FC_DELAY (n : Fin 16) : objGroup (Obj.ACQ_FC_DELAY n) = .ACQ_FC_DELAY := by
  revert n; decide +kernel
theorem group_ACQ_FC_LATENCY (n : Fin 16) : objGroup (Obj.ACQ_FC_LATENCY n) = .ACQ_FC_LATENCY := by
  revert n; decide +kernel
theorem group_ACQ_FC_RATE (n : Fin 16) : objGroup (Obj.ACQ_FC_RATE n) = .ACQ_FC_RATE := by
  revert n; decide +kernel
theorem group_ACQ_FC_STATUS (n : Fin 16) : objGroup (Obj.ACQ_FC_STATUS n) = .ACQ_FC_STATUS := by
  revert n; decide +kernel
theorem group_ACQ_FC_UNSETTLED (n : Fin 16) : objGroup (Obj.ACQ_FC_UNSETTLED n) = .ACQ_FC_UNSETTLED := by
  revert n; decide +kernel
theorem group_ACQ_FC_VALUE (n : Fin 16) : objGroup (Obj.ACQ_FC_VALUE n) = .ACQ_FC_VALUE := by
  revert n; decide +kernel
theorem group_ACQ_OVERRANGE_COUNT (n : Fin 24) : objGroup (Obj.ACQ_OVERRANGE_COUNT n) = .ACQ_OVERRANGE_COUNT := by
  revert n; decide +kernel
theorem group_ACQ_SD_STATUS (n : Fin 8) : objGroup (Obj.ACQ_SD_STATUS n) = .ACQ_SD_STATUS := by
  revert n; decide +kernel
theorem group_ACQ_START_OVERLAP (n : Fin 24) : objGroup (Obj.ACQ_START_OVERLAP n) = .ACQ_START_OVERLAP := by
  revert n; decide +kernel
theorem group_ACQ_STATUS : objGroup (Obj.ACQ_STATUS) = .ACQ_STATUS := by decide +kernel
theorem group_ACQ_TRACK_DRIFT (n : Fin 24) : objGroup (Obj.ACQ_TRACK_DRIFT n) = .ACQ_TRACK_DRIFT := by
  revert n; decide +kernel
theorem group_CIA_ERROR_COUNT : objGroup (Obj.CIA_ERROR_COUNT) = .CIA_ERROR_COUNT := by decide +kernel
theorem group_CIA_ERROR_FIELD (j : Nat) (hj : j < 64) : objGroup (Obj.CIA_ERROR_FIELD j) = .CIA_ERROR_FIELD := by
  have k : ∀ j < 64, objGroup (Obj.CIA_ERROR_FIELD j) = .CIA_ERROR_FIELD := by decide +kernel
  exact k j hj
theorem group_CIA_ERROR_REGISTER : objGroup (Obj.CIA_ERROR_REGISTER) = .CIA_ERROR_REGISTER := by decide +kernel
theorem group_CVU_DROPPED (n : Fin 8) : objGroup (Obj.CVU_DROPPED n) = .CVU_DROPPED := by
  revert n; decide +kernel
theorem group_CVU_RESULT (n : Fin 8) : objGroup (Obj.CVU_RESULT n) = .CVU_RESULT := by
  revert n; decide +kernel
theorem group_CVU_STATUS (n : Fin 8) : objGroup (Obj.CVU_STATUS n) = .CVU_STATUS := by
  revert n; decide +kernel
theorem group_EDG_CH_CLIPPED (n : Fin 24) : objGroup (Obj.EDG_CH_CLIPPED n) = .EDG_CH_CLIPPED := by
  revert n; decide +kernel
theorem group_EDG_CH_GUARD_COUNT (n : Fin 24) : objGroup (Obj.EDG_CH_GUARD_COUNT n) = .EDG_CH_GUARD_COUNT := by
  revert n; decide +kernel
theorem group_EDG_CH_LATE (n : Fin 24) : objGroup (Obj.EDG_CH_LATE n) = .EDG_CH_LATE := by
  revert n; decide +kernel
theorem group_EDG_CH_REMOVED (n : Fin 24) : objGroup (Obj.EDG_CH_REMOVED n) = .EDG_CH_REMOVED := by
  revert n; decide +kernel
theorem group_EDG_CH_STATIC_CTRL (n : Fin 24) : objGroup (Obj.EDG_CH_STATIC_CTRL n) = .EDG_CH_STATIC_CTRL := by
  revert n; decide +kernel
theorem group_EDG_CH_STATUS (n : Fin 24) : objGroup (Obj.EDG_CH_STATUS n) = .EDG_CH_STATUS := by
  revert n; decide +kernel
theorem group_EDG_RAW_ENABLE : objGroup (Obj.EDG_RAW_ENABLE) = .EDG_RAW_ENABLE := by decide +kernel
theorem group_EDG_RAW_HIGH : objGroup (Obj.EDG_RAW_HIGH) = .EDG_RAW_HIGH := by decide +kernel
theorem group_EDG_RAW_LOW : objGroup (Obj.EDG_RAW_LOW) = .EDG_RAW_LOW := by decide +kernel
theorem group_EDG_SRC_ACTIVE (j : Nat) (hj : j < 64) : objGroup (Obj.EDG_SRC_ACTIVE j) = .EDG_SRC_ACTIVE := by
  have k : ∀ j < 64, objGroup (Obj.EDG_SRC_ACTIVE j) = .EDG_SRC_ACTIVE := by decide +kernel
  exact k j hj
theorem group_EDG_STATUS : objGroup (Obj.EDG_STATUS) = .EDG_STATUS := by decide +kernel
theorem group_EDG_TB_LATE (n : Fin 8) : objGroup (Obj.EDG_TB_LATE n) = .EDG_TB_LATE := by
  revert n; decide +kernel
theorem group_EDG_TB_NEXT_ZERO (n : Fin 8) : objGroup (Obj.EDG_TB_NEXT_ZERO n) = .EDG_TB_NEXT_ZERO := by
  revert n; decide +kernel
theorem group_EDG_TB_PERIOD (n : Fin 8) : objGroup (Obj.EDG_TB_PERIOD n) = .EDG_TB_PERIOD := by
  revert n; decide +kernel
theorem group_EDG_TRG_CFG (n : Fin 8) : objGroup (Obj.EDG_TRG_CFG n) = .EDG_TRG_CFG := by
  revert n; decide +kernel
theorem group_EDG_TRG_LATCH_SRC (n : Fin 8) : objGroup (Obj.EDG_TRG_LATCH_SRC n) = .EDG_TRG_LATCH_SRC := by
  revert n; decide +kernel
theorem group_EDG_TRG_LATCH_TIME (n : Fin 8) : objGroup (Obj.EDG_TRG_LATCH_TIME n) = .EDG_TRG_LATCH_TIME := by
  revert n; decide +kernel
theorem group_EDG_TRG_PERIODS (n : Fin 8) : objGroup (Obj.EDG_TRG_PERIODS n) = .EDG_TRG_PERIODS := by
  revert n; decide +kernel
theorem group_EDG_TRG_STATUS (n : Fin 8) : objGroup (Obj.EDG_TRG_STATUS n) = .EDG_TRG_STATUS := by
  revert n; decide +kernel
theorem group_FIO_CD_CURRENT (n : Fin 4) : objGroup (Obj.FIO_CD_CURRENT n) = .FIO_CD_CURRENT := by
  revert n; decide +kernel
theorem group_FIO_CD_IGNORED (n : Fin 4) : objGroup (Obj.FIO_CD_IGNORED n) = .FIO_CD_IGNORED := by
  revert n; decide +kernel
theorem group_FIO_CD_STATUS (n : Fin 4) : objGroup (Obj.FIO_CD_STATUS n) = .FIO_CD_STATUS := by
  revert n; decide +kernel
theorem group_FIO_DI_CURRENT (n : Fin 16) : objGroup (Obj.FIO_DI_CURRENT n) = .FIO_DI_CURRENT := by
  revert n; decide +kernel
theorem group_FIO_DI_STATUS (n : Fin 16) : objGroup (Obj.FIO_DI_STATUS n) = .FIO_DI_STATUS := by
  revert n; decide +kernel
theorem group_FIO_DO_CURRENT (n : Fin 12) : objGroup (Obj.FIO_DO_CURRENT n) = .FIO_DO_CURRENT := by
  revert n; decide +kernel
theorem group_FIO_DO_STATUS (n : Fin 12) : objGroup (Obj.FIO_DO_STATUS n) = .FIO_DO_STATUS := by
  revert n; decide +kernel
theorem group_FIO_FORCE : objGroup (Obj.FIO_FORCE) = .FIO_FORCE := by decide +kernel
theorem group_FIO_MAX_LATENESS : objGroup (Obj.FIO_MAX_LATENESS) = .FIO_MAX_LATENESS := by decide +kernel
theorem group_FIO_STATUS : objGroup (Obj.FIO_STATUS) = .FIO_STATUS := by decide +kernel
theorem group_FRT_COAST_COUNT (n : Fin 4) : objGroup (Obj.FRT_COAST_COUNT n) = .FRT_COAST_COUNT := by
  revert n; decide +kernel
theorem group_FRT_DELTA_P_COAST (n : Fin 4) : objGroup (Obj.FRT_DELTA_P_COAST n) = .FRT_DELTA_P_COAST := by
  revert n; decide +kernel
theorem group_FRT_IN_PLL_F (n : Fin 4) : objGroup (Obj.FRT_IN_PLL_F n) = .FRT_IN_PLL_F := by
  revert n; decide +kernel
theorem group_FRT_LAST_GAP (n : Fin 4) : objGroup (Obj.FRT_LAST_GAP n) = .FRT_LAST_GAP := by
  revert n; decide +kernel
theorem group_FRT_LAST_JUMP (n : Fin 4) : objGroup (Obj.FRT_LAST_JUMP n) = .FRT_LAST_JUMP := by
  revert n; decide +kernel
theorem group_FRT_LAST_PEAK (n : Fin 4) : objGroup (Obj.FRT_LAST_PEAK n) = .FRT_LAST_PEAK := by
  revert n; decide +kernel
theorem group_FRT_LAST_RIDE (n : Fin 4) : objGroup (Obj.FRT_LAST_RIDE n) = .FRT_LAST_RIDE := by
  revert n; decide +kernel
theorem group_FRT_LINK_ENERGY (n : Fin 4) : objGroup (Obj.FRT_LINK_ENERGY n) = .FRT_LINK_ENERGY := by
  revert n; decide +kernel
theorem group_FRT_RIDE_COUNT (n : Fin 4) : objGroup (Obj.FRT_RIDE_COUNT n) = .FRT_RIDE_COUNT := by
  revert n; decide +kernel
theorem group_FRT_STATUS (n : Fin 4) : objGroup (Obj.FRT_STATUS n) = .FRT_STATUS := by
  revert n; decide +kernel
theorem group_GAL_CONFIG (n : Fin 4) : objGroup (Obj.GAL_CONFIG n) = .GAL_CONFIG := by
  revert n; decide +kernel
theorem group_GAL_DATAGRAMS (n : Fin 4) : objGroup (Obj.GAL_DATAGRAMS n) = .GAL_DATAGRAMS := by
  revert n; decide +kernel
theorem group_GAL_DEPTH (n : Fin 4) : objGroup (Obj.GAL_DEPTH n) = .GAL_DEPTH := by
  revert n; decide +kernel
theorem group_GAL_DROPPED (n : Fin 4) : objGroup (Obj.GAL_DROPPED n) = .GAL_DROPPED := by
  revert n; decide +kernel
theorem group_GAL_MARK_COUNT (n : Fin 4) : objGroup (Obj.GAL_MARK_COUNT n) = .GAL_MARK_COUNT := by
  revert n; decide +kernel
theorem group_GAL_MARK_FRAC (n : Fin 4) : objGroup (Obj.GAL_MARK_FRAC n) = .GAL_MARK_FRAC := by
  revert n; decide +kernel
theorem group_GAL_MARK_K (n : Fin 4) : objGroup (Obj.GAL_MARK_K n) = .GAL_MARK_K := by
  revert n; decide +kernel
theorem group_GAL_MARK_TIME (n : Fin 4) : objGroup (Obj.GAL_MARK_TIME n) = .GAL_MARK_TIME := by
  revert n; decide +kernel
theorem group_GAL_RECORDS (n : Fin 4) : objGroup (Obj.GAL_RECORDS n) = .GAL_RECORDS := by
  revert n; decide +kernel
theorem group_GAL_STATUS (n : Fin 4) : objGroup (Obj.GAL_STATUS n) = .GAL_STATUS := by
  revert n; decide +kernel
theorem group_GAL_WIRE_RATE (n : Fin 4) : objGroup (Obj.GAL_WIRE_RATE n) = .GAL_WIRE_RATE := by
  revert n; decide +kernel
theorem group_GDV_BS_FORECAST (n : Fin 4) : objGroup (Obj.GDV_BS_FORECAST n) = .GDV_BS_FORECAST := by
  revert n; decide +kernel
theorem group_GDV_BS_REFRESHES (n : Fin 4) : objGroup (Obj.GDV_BS_REFRESHES n) = .GDV_BS_REFRESHES := by
  revert n; decide +kernel
theorem group_GDV_CH_STATUS (n : Fin 12) : objGroup (Obj.GDV_CH_STATUS n) = .GDV_CH_STATUS := by
  revert n; decide +kernel
theorem group_GDV_DESAT_COUNT (n : Fin 12) : objGroup (Obj.GDV_DESAT_COUNT n) = .GDV_DESAT_COUNT := by
  revert n; decide +kernel
theorem group_GDV_DIAG_RESULT (n : Fin 4) : objGroup (Obj.GDV_DIAG_RESULT n) = .GDV_DIAG_RESULT := by
  revert n; decide +kernel
theorem group_GDV_PORT_ACK_MISSING (n : Fin 8) : objGroup (Obj.GDV_PORT_ACK_MISSING n) = .GDV_PORT_ACK_MISSING := by
  revert n; decide +kernel
theorem group_GDV_PORT_FAULTS (n : Fin 8) : objGroup (Obj.GDV_PORT_FAULTS n) = .GDV_PORT_FAULTS := by
  revert n; decide +kernel
theorem group_GDV_PORT_LAST_CODE (n : Fin 8) : objGroup (Obj.GDV_PORT_LAST_CODE n) = .GDV_PORT_LAST_CODE := by
  revert n; decide +kernel
theorem group_GDV_PORT_STATUS (n : Fin 8) : objGroup (Obj.GDV_PORT_STATUS n) = .GDV_PORT_STATUS := by
  revert n; decide +kernel
theorem group_GDV_RAIL_V : objGroup (Obj.GDV_RAIL_V) = .GDV_RAIL_V := by decide +kernel
theorem group_GDV_SAFE_PATTERN : objGroup (Obj.GDV_SAFE_PATTERN) = .GDV_SAFE_PATTERN := by decide +kernel
theorem group_GDV_STATUS : objGroup (Obj.GDV_STATUS) = .GDV_STATUS := by decide +kernel
theorem group_GFL_CONFIG (n : Fin 4) : objGroup (Obj.GFL_CONFIG n) = .GFL_CONFIG := by
  revert n; decide +kernel
theorem group_GFL_E (n : Fin 4) : objGroup (Obj.GFL_E n) = .GFL_E := by
  revert n; decide +kernel
theorem group_GFL_EFF_KC (n : Fin 4) : objGroup (Obj.GFL_EFF_KC n) = .GFL_EFF_KC := by
  revert n; decide +kernel
theorem group_GFL_EFF_NOTCH_F (n : Fin 4) : objGroup (Obj.GFL_EFF_NOTCH_F n) = .GFL_EFF_NOTCH_F := by
  revert n; decide +kernel
theorem group_GFL_EFF_RV (n : Fin 4) : objGroup (Obj.GFL_EFF_RV n) = .GFL_EFF_RV := by
  revert n; decide +kernel
theorem group_GFL_EFF_XV (n : Fin 4) : objGroup (Obj.GFL_EFF_XV n) = .GFL_EFF_XV := by
  revert n; decide +kernel
theorem group_GFL_FREQ (n : Fin 4) : objGroup (Obj.GFL_FREQ n) = .GFL_FREQ := by
  revert n; decide +kernel
theorem group_GFL_F_RES (n : Fin 4) : objGroup (Obj.GFL_F_RES n) = .GFL_F_RES := by
  revert n; decide +kernel
theorem group_GFL_P_MEAS (n : Fin 4) : objGroup (Obj.GFL_P_MEAS n) = .GFL_P_MEAS := by
  revert n; decide +kernel
theorem group_GFL_P_MECH (n : Fin 4) : objGroup (Obj.GFL_P_MECH n) = .GFL_P_MECH := by
  revert n; decide +kernel
theorem group_GFL_Q_MEAS (n : Fin 4) : objGroup (Obj.GFL_Q_MEAS n) = .GFL_Q_MEAS := by
  revert n; decide +kernel
theorem group_GFL_STATUS (n : Fin 4) : objGroup (Obj.GFL_STATUS n) = .GFL_STATUS := by
  revert n; decide +kernel
theorem group_GFL_THETA (n : Fin 4) : objGroup (Obj.GFL_THETA n) = .GFL_THETA := by
  revert n; decide +kernel
theorem group_GFL_V_NEG (n : Fin 4) : objGroup (Obj.GFL_V_NEG n) = .GFL_V_NEG := by
  revert n; decide +kernel
theorem group_GFL_V_ZERO (n : Fin 4) : objGroup (Obj.GFL_V_ZERO n) = .GFL_V_ZERO := by
  revert n; decide +kernel
theorem group_GFL_ZETA (n : Fin 4) : objGroup (Obj.GFL_ZETA n) = .GFL_ZETA := by
  revert n; decide +kernel
theorem group_LGC_CYCLE_COUNT : objGroup (Obj.LGC_CYCLE_COUNT) = .LGC_CYCLE_COUNT := by decide +kernel
theorem group_LGC_LOAD : objGroup (Obj.LGC_LOAD) = .LGC_LOAD := by decide +kernel
theorem group_LGC_LT : objGroup (Obj.LGC_LT) = .LGC_LT := by decide +kernel
theorem group_LGC_MAX_BUSY : objGroup (Obj.LGC_MAX_BUSY) = .LGC_MAX_BUSY := by decide +kernel
theorem group_LGC_OVERRUN_COUNT : objGroup (Obj.LGC_OVERRUN_COUNT) = .LGC_OVERRUN_COUNT := by decide +kernel
theorem group_LGC_OVERRUN_RUN : objGroup (Obj.LGC_OVERRUN_RUN) = .LGC_OVERRUN_RUN := by decide +kernel
theorem group_LGC_PERIOD_IN_FORCE : objGroup (Obj.LGC_PERIOD_IN_FORCE) = .LGC_PERIOD_IN_FORCE := by decide +kernel
theorem group_LGC_PROG_CHECK : objGroup (Obj.LGC_PROG_CHECK) = .LGC_PROG_CHECK := by decide +kernel
theorem group_LGC_PROG_ID : objGroup (Obj.LGC_PROG_ID) = .LGC_PROG_ID := by decide +kernel
theorem group_LGC_RETAIN_LAG : objGroup (Obj.LGC_RETAIN_LAG) = .LGC_RETAIN_LAG := by decide +kernel
theorem group_LGC_STAGED_ID : objGroup (Obj.LGC_STAGED_ID) = .LGC_STAGED_ID := by decide +kernel
theorem group_LGC_STATUS : objGroup (Obj.LGC_STATUS) = .LGC_STATUS := by decide +kernel
theorem group_LGC_STN_DROPS (n : Fin 64) : objGroup (Obj.LGC_STN_DROPS n) = .LGC_STN_DROPS := by
  revert n; decide +kernel
theorem group_LGC_STN_ID (n : Fin 64) : objGroup (Obj.LGC_STN_ID n) = .LGC_STN_ID := by
  revert n; decide +kernel
theorem group_LGC_STN_LAST_RX (n : Fin 64) : objGroup (Obj.LGC_STN_LAST_RX n) = .LGC_STN_LAST_RX := by
  revert n; decide +kernel
theorem group_LGC_STN_STATE (n : Fin 64) : objGroup (Obj.LGC_STN_STATE n) = .LGC_STN_STATE := by
  revert n; decide +kernel
theorem group_LGC_WCET_BUSY : objGroup (Obj.LGC_WCET_BUSY) = .LGC_WCET_BUSY := by decide +kernel
theorem group_MOD_FW_IMAGE : objGroup (Obj.MOD_FW_IMAGE) = .MOD_FW_IMAGE := by decide +kernel
theorem group_MOD_FW_VERSION : objGroup (Obj.MOD_FW_VERSION) = .MOD_FW_VERSION := by decide +kernel
theorem group_MOD_LOCKOUT_CAUSE : objGroup (Obj.MOD_LOCKOUT_CAUSE) = .MOD_LOCKOUT_CAUSE := by decide +kernel
theorem group_MOD_STAGE_SAFE_CAUSE (j : Nat) (hj : j < 64) : objGroup (Obj.MOD_STAGE_SAFE_CAUSE j) = .MOD_STAGE_SAFE_CAUSE := by
  have k : ∀ j < 64, objGroup (Obj.MOD_STAGE_SAFE_CAUSE j) = .MOD_STAGE_SAFE_CAUSE := by decide +kernel
  exact k j hj
theorem group_MOD_STATUS : objGroup (Obj.MOD_STATUS) = .MOD_STATUS := by decide +kernel
theorem group_MOD_TRANSITION_COUNT : objGroup (Obj.MOD_TRANSITION_COUNT) = .MOD_TRANSITION_COUNT := by decide +kernel
theorem group_NET_ABORTS : objGroup (Obj.NET_ABORTS) = .NET_ABORTS := by decide +kernel
theorem group_NET_CAN_STATE (j : Nat) (hj : j < 64) : objGroup (Obj.NET_CAN_STATE j) = .NET_CAN_STATE := by
  have k : ∀ j < 64, objGroup (Obj.NET_CAN_STATE j) = .NET_CAN_STATE := by decide +kernel
  exact k j hj
theorem group_NET_DUP_DISCARDED : objGroup (Obj.NET_DUP_DISCARDED) = .NET_DUP_DISCARDED := by decide +kernel
theorem group_NET_LAST_ABORT : objGroup (Obj.NET_LAST_ABORT) = .NET_LAST_ABORT := by decide +kernel
theorem group_NET_LATE_TX : objGroup (Obj.NET_LATE_TX) = .NET_LATE_TX := by decide +kernel
theorem group_NET_OWNER : objGroup (Obj.NET_OWNER) = .NET_OWNER := by decide +kernel
theorem group_NET_SESSIONS : objGroup (Obj.NET_SESSIONS) = .NET_SESSIONS := by decide +kernel
theorem group_NET_STATUS : objGroup (Obj.NET_STATUS) = .NET_STATUS := by decide +kernel
theorem group_NET_WRITES_LOST : objGroup (Obj.NET_WRITES_LOST) = .NET_WRITES_LOST := by decide +kernel
theorem group_NVS_DEFERRED : objGroup (Obj.NVS_DEFERRED) = .NVS_DEFERRED := by decide +kernel
theorem group_NVS_ECC_CORRECTED (j : Nat) (hj : j < 64) : objGroup (Obj.NVS_ECC_CORRECTED j) = .NVS_ECC_CORRECTED := by
  have k : ∀ j < 64, objGroup (Obj.NVS_ECC_CORRECTED j) = .NVS_ECC_CORRECTED := by decide +kernel
  exact k j hj
theorem group_NVS_HOLD_C : objGroup (Obj.NVS_HOLD_C) = .NVS_HOLD_C := by decide +kernel
theorem group_NVS_HOLD_V : objGroup (Obj.NVS_HOLD_V) = .NVS_HOLD_V := by decide +kernel
theorem group_NVS_IMAGE_STATE : objGroup (Obj.NVS_IMAGE_STATE) = .NVS_IMAGE_STATE := by decide +kernel
theorem group_NVS_LOG_DROPPED : objGroup (Obj.NVS_LOG_DROPPED) = .NVS_LOG_DROPPED := by decide +kernel
theorem group_NVS_STATUS : objGroup (Obj.NVS_STATUS) = .NVS_STATUS := by decide +kernel
theorem group_PIE_CONFIG (n : Fin 4) : objGroup (Obj.PIE_CONFIG n) = .PIE_CONFIG := by
  revert n; decide +kernel
theorem group_PIE_ECC_CORRECTED (n : Fin 4) : objGroup (Obj.PIE_ECC_CORRECTED n) = .PIE_ECC_CORRECTED := by
  revert n; decide +kernel
theorem group_PIE_GRAPH_CHECK (n : Fin 4) : objGroup (Obj.PIE_GRAPH_CHECK n) = .PIE_GRAPH_CHECK := by
  revert n; decide +kernel
theorem group_PIE_GRAPH_ID (n : Fin 4) : objGroup (Obj.PIE_GRAPH_ID n) = .PIE_GRAPH_ID := by
  revert n; decide +kernel
theorem group_PIE_INSTANCE_COUNT (n : Fin 4) : objGroup (Obj.PIE_INSTANCE_COUNT n) = .PIE_INSTANCE_COUNT := by
  revert n; decide +kernel
theorem group_PIE_LAST_COMMIT (n : Fin 4) : objGroup (Obj.PIE_LAST_COMMIT n) = .PIE_LAST_COMMIT := by
  revert n; decide +kernel
theorem group_PIE_LOAD (n : Fin 4) : objGroup (Obj.PIE_LOAD n) = .PIE_LOAD := by
  revert n; decide +kernel
theorem group_PIE_MAX_CRIT (n : Fin 4) : objGroup (Obj.PIE_MAX_CRIT n) = .PIE_MAX_CRIT := by
  revert n; decide +kernel
theorem group_PIE_MAX_TOTAL (n : Fin 4) : objGroup (Obj.PIE_MAX_TOTAL n) = .PIE_MAX_TOTAL := by
  revert n; decide +kernel
theorem group_PIE_OFFPLAN_COUNT (n : Fin 4) : objGroup (Obj.PIE_OFFPLAN_COUNT n) = .PIE_OFFPLAN_COUNT := by
  revert n; decide +kernel
theorem group_PIE_OVERRUN_COUNT (n : Fin 4) : objGroup (Obj.PIE_OVERRUN_COUNT n) = .PIE_OVERRUN_COUNT := by
  revert n; decide +kernel
theorem group_PIE_OVERRUN_RUN (n : Fin 4) : objGroup (Obj.PIE_OVERRUN_RUN n) = .PIE_OVERRUN_RUN := by
  revert n; decide +kernel
theorem group_PIE_POST_OVERRUN_COUNT (n : Fin 4) : objGroup (Obj.PIE_POST_OVERRUN_COUNT n) = .PIE_POST_OVERRUN_COUNT := by
  revert n; decide +kernel
theorem group_PIE_STATUS (n : Fin 4) : objGroup (Obj.PIE_STATUS n) = .PIE_STATUS := by
  revert n; decide +kernel
theorem group_PIE_WCET_CRIT (n : Fin 4) : objGroup (Obj.PIE_WCET_CRIT n) = .PIE_WCET_CRIT := by
  revert n; decide +kernel
theorem group_PIE_WCET_TOTAL (n : Fin 4) : objGroup (Obj.PIE_WCET_TOTAL n) = .PIE_WCET_TOTAL := by
  revert n; decide +kernel
theorem group_SAF_ABSENCE : objGroup (Obj.SAF_ABSENCE) = .SAF_ABSENCE := by decide +kernel
theorem group_SAF_CONN_LAST_AGE (n : Fin 16) : objGroup (Obj.SAF_CONN_LAST_AGE n) = .SAF_CONN_LAST_AGE := by
  revert n; decide +kernel
theorem group_SAF_CONN_REJECTED (n : Fin 16) : objGroup (Obj.SAF_CONN_REJECTED n) = .SAF_CONN_REJECTED := by
  revert n; decide +kernel
theorem group_SAF_CONN_STATUS (n : Fin 16) : objGroup (Obj.SAF_CONN_STATUS n) = .SAF_CONN_STATUS := by
  revert n; decide +kernel
theorem group_SAF_SOC_OPERATIONS (n : Fin 4) : objGroup (Obj.SAF_SOC_OPERATIONS n) = .SAF_SOC_OPERATIONS := by
  revert n; decide +kernel
theorem group_SAF_SOC_SINCE_PROOF (n : Fin 4) : objGroup (Obj.SAF_SOC_SINCE_PROOF n) = .SAF_SOC_SINCE_PROOF := by
  revert n; decide +kernel
theorem group_SAF_SOC_STATUS (n : Fin 4) : objGroup (Obj.SAF_SOC_STATUS n) = .SAF_SOC_STATUS := by
  revert n; decide +kernel
theorem group_SAF_SSD_VALUE (n : Fin 4) : objGroup (Obj.SAF_SSD_VALUE n) = .SAF_SSD_VALUE := by
  revert n; decide +kernel
theorem group_SAF_STATUS : objGroup (Obj.SAF_STATUS) = .SAF_STATUS := by decide +kernel
theorem group_SAF_UNKNOWN_ID : objGroup (Obj.SAF_UNKNOWN_ID) = .SAF_UNKNOWN_ID := by decide +kernel
theorem group_SHR_ANCHOR_COUNT (n : Fin 4) : objGroup (Obj.SHR_ANCHOR_COUNT n) = .SHR_ANCHOR_COUNT := by
  revert n; decide +kernel
theorem group_SHR_ANCHOR_LATE (n : Fin 4) : objGroup (Obj.SHR_ANCHOR_LATE n) = .SHR_ANCHOR_LATE := by
  revert n; decide +kernel
theorem group_SHR_DELTA_F (n : Fin 4) : objGroup (Obj.SHR_DELTA_F n) = .SHR_DELTA_F := by
  revert n; decide +kernel
theorem group_SHR_DELTA_F_REST (n : Fin 4) : objGroup (Obj.SHR_DELTA_F_REST n) = .SHR_DELTA_F_REST := by
  revert n; decide +kernel
theorem group_SHR_DELTA_THETA (n : Fin 4) : objGroup (Obj.SHR_DELTA_THETA n) = .SHR_DELTA_THETA := by
  revert n; decide +kernel
theorem group_SHR_DELTA_V (n : Fin 4) : objGroup (Obj.SHR_DELTA_V n) = .SHR_DELTA_V := by
  revert n; decide +kernel
theorem group_SHR_DELTA_V_REST (n : Fin 4) : objGroup (Obj.SHR_DELTA_V_REST n) = .SHR_DELTA_V_REST := by
  revert n; decide +kernel
theorem group_SHR_F_MEAN (n : Fin 4) : objGroup (Obj.SHR_F_MEAN n) = .SHR_F_MEAN := by
  revert n; decide +kernel
theorem group_SHR_LINE_F (n : Fin 4) : objGroup (Obj.SHR_LINE_F n) = .SHR_LINE_F := by
  revert n; decide +kernel
theorem group_SHR_LINE_V (n : Fin 4) : objGroup (Obj.SHR_LINE_V n) = .SHR_LINE_V := by
  revert n; decide +kernel
theorem group_SHR_STATUS (n : Fin 4) : objGroup (Obj.SHR_STATUS n) = .SHR_STATUS := by
  revert n; decide +kernel
theorem group_SHR_V_MEAN (n : Fin 4) : objGroup (Obj.SHR_V_MEAN n) = .SHR_V_MEAN := by
  revert n; decide +kernel
theorem group_SRV_CAN_RES (n : Fin 4) (j : Nat) (hj : j < 64) : objGroup (Obj.SRV_CAN_RES n j) = .SRV_CAN_RES := by
  have k : ∀ n : Fin 4, ∀ j < 64, objGroup (Obj.SRV_CAN_RES n j) = .SRV_CAN_RES := by decide +kernel
  exact k n j hj
theorem group_SRV_CAN_SCORE (n : Fin 4) : objGroup (Obj.SRV_CAN_SCORE n) = .SRV_CAN_SCORE := by
  revert n; decide +kernel
theorem group_SRV_COHERENCE (n : Fin 4) (j : Nat) (hj : j < 64) : objGroup (Obj.SRV_COHERENCE n j) = .SRV_COHERENCE := by
  have k : ∀ n : Fin 4, ∀ j < 64, objGroup (Obj.SRV_COHERENCE n j) = .SRV_COHERENCE := by decide +kernel
  exact k n j hj
theorem group_SRV_CONFIG (n : Fin 4) : objGroup (Obj.SRV_CONFIG n) = .SRV_CONFIG := by
  revert n; decide +kernel
theorem group_SRV_DFN_AD (n : Fin 4) : objGroup (Obj.SRV_DFN_AD n) = .SRV_DFN_AD := by
  revert n; decide +kernel
theorem group_SRV_DKC_AD (n : Fin 4) : objGroup (Obj.SRV_DKC_AD n) = .SRV_DKC_AD := by
  revert n; decide +kernel
theorem group_SRV_DR_AD (n : Fin 4) : objGroup (Obj.SRV_DR_AD n) = .SRV_DR_AD := by
  revert n; decide +kernel
theorem group_SRV_DX_AD (n : Fin 4) : objGroup (Obj.SRV_DX_AD n) = .SRV_DX_AD := by
  revert n; decide +kernel
theorem group_SRV_F_PEAK (n : Fin 4) : objGroup (Obj.SRV_F_PEAK n) = .SRV_F_PEAK := by
  revert n; decide +kernel
theorem group_SRV_F_UPPER (n : Fin 4) : objGroup (Obj.SRV_F_UPPER n) = .SRV_F_UPPER := by
  revert n; decide +kernel
theorem group_SRV_N_EST (n : Fin 4) : objGroup (Obj.SRV_N_EST n) = .SRV_N_EST := by
  revert n; decide +kernel
theorem group_SRV_N_PARALLEL (n : Fin 4) : objGroup (Obj.SRV_N_PARALLEL n) = .SRV_N_PARALLEL := by
  revert n; decide +kernel
theorem group_SRV_ROUND_COUNT (n : Fin 4) : objGroup (Obj.SRV_ROUND_COUNT n) = .SRV_ROUND_COUNT := by
  revert n; decide +kernel
theorem group_SRV_STATUS (n : Fin 4) : objGroup (Obj.SRV_STATUS n) = .SRV_STATUS := by
  revert n; decide +kernel
theorem group_SRV_Z1_R (n : Fin 4) : objGroup (Obj.SRV_Z1_R n) = .SRV_Z1_R := by
  revert n; decide +kernel
theorem group_SRV_Z1_X (n : Fin 4) : objGroup (Obj.SRV_Z1_X n) = .SRV_Z1_X := by
  revert n; decide +kernel
theorem group_SRV_ZETA_PEAK (n : Fin 4) : objGroup (Obj.SRV_ZETA_PEAK n) = .SRV_ZETA_PEAK := by
  revert n; decide +kernel
theorem group_SRV_ZETA_SWING (n : Fin 4) : objGroup (Obj.SRV_ZETA_SWING n) = .SRV_ZETA_SWING := by
  revert n; decide +kernel
theorem group_SRV_Z_ANGLE (n : Fin 4) (j : Nat) (hj : j < 64) : objGroup (Obj.SRV_Z_ANGLE n j) = .SRV_Z_ANGLE := by
  have k : ∀ n : Fin 4, ∀ j < 64, objGroup (Obj.SRV_Z_ANGLE n j) = .SRV_Z_ANGLE := by decide +kernel
  exact k n j hj
theorem group_SRV_Z_MAG (n : Fin 4) (j : Nat) (hj : j < 64) : objGroup (Obj.SRV_Z_MAG n j) = .SRV_Z_MAG := by
  have k : ∀ n : Fin 4, ∀ j < 64, objGroup (Obj.SRV_Z_MAG n j) = .SRV_Z_MAG := by decide +kernel
  exact k n j hj
theorem group_SUP_INTERRUPTIONS : objGroup (Obj.SUP_INTERRUPTIONS) = .SUP_INTERRUPTIONS := by decide +kernel
theorem group_SUP_LAST_INTERRUPTION : objGroup (Obj.SUP_LAST_INTERRUPTION) = .SUP_LAST_INTERRUPTION := by decide +kernel
theorem group_SUP_RAIL (j : Nat) (hj : j < 64) : objGroup (Obj.SUP_RAIL j) = .SUP_RAIL := by
  have k : ∀ j < 64, objGroup (Obj.SUP_RAIL j) = .SUP_RAIL := by decide +kernel
  exact k j hj
theorem group_SUP_STATUS : objGroup (Obj.SUP_STATUS) = .SUP_STATUS := by decide +kernel
theorem group_THM_BROKEN : objGroup (Obj.THM_BROKEN) = .THM_BROKEN := by decide +kernel
theorem group_THM_PEAK (j : Nat) (hj : j < 64) : objGroup (Obj.THM_PEAK j) = .THM_PEAK := by
  have k : ∀ j < 64, objGroup (Obj.THM_PEAK j) = .THM_PEAK := by decide +kernel
  exact k j hj
theorem group_THM_SHUTDOWN_SENSOR : objGroup (Obj.THM_SHUTDOWN_SENSOR) = .THM_SHUTDOWN_SENSOR := by decide +kernel
theorem group_THM_STATUS : objGroup (Obj.THM_STATUS) = .THM_STATUS := by decide +kernel
theorem group_THM_TEMP (j : Nat) (hj : j < 64) : objGroup (Obj.THM_TEMP j) = .THM_TEMP := by
  have k : ∀ j < 64, objGroup (Obj.THM_TEMP j) = .THM_TEMP := by decide +kernel
  exact k j hj
theorem group_THM_THROTTLE_STEP : objGroup (Obj.THM_THROTTLE_STEP) = .THM_THROTTLE_STEP := by decide +kernel
theorem group_TIM_BOOT_COUNT : objGroup (Obj.TIM_BOOT_COUNT) = .TIM_BOOT_COUNT := by decide +kernel
theorem group_TIM_NTA_DISCARDED (n : Fin 2) : objGroup (Obj.TIM_NTA_DISCARDED n) = .TIM_NTA_DISCARDED := by
  revert n; decide +kernel
theorem group_TIM_NTA_GM_ID (n : Fin 2) : objGroup (Obj.TIM_NTA_GM_ID n) = .TIM_NTA_GM_ID := by
  revert n; decide +kernel
theorem group_TIM_NTA_PATH_DELAY (n : Fin 2) : objGroup (Obj.TIM_NTA_PATH_DELAY n) = .TIM_NTA_PATH_DELAY := by
  revert n; decide +kernel
theorem group_TIM_NTA_STEPS_REMOVED (n : Fin 2) : objGroup (Obj.TIM_NTA_STEPS_REMOVED n) = .TIM_NTA_STEPS_REMOVED := by
  revert n; decide +kernel
theorem group_TIM_PLL_LOSSES (j : Nat) (hj : j < 64) : objGroup (Obj.TIM_PLL_LOSSES j) = .TIM_PLL_LOSSES := by
  have k : ∀ j < 64, objGroup (Obj.TIM_PLL_LOSSES j) = .TIM_PLL_LOSSES := by decide +kernel
  exact k j hj
theorem group_TIM_REF_DEV (j : Nat) (hj : j < 64) : objGroup (Obj.TIM_REF_DEV j) = .TIM_REF_DEV := by
  have k : ∀ j < 64, objGroup (Obj.TIM_REF_DEV j) = .TIM_REF_DEV := by decide +kernel
  exact k j hj
theorem group_TIM_STATUS : objGroup (Obj.TIM_STATUS) = .TIM_STATUS := by decide +kernel
theorem group_TIM_TC_CORRECTED : objGroup (Obj.TIM_TC_CORRECTED) = .TIM_TC_CORRECTED := by decide +kernel
theorem group_TWN_GRID_PHASE : objGroup (Obj.TWN_GRID_PHASE) = .TWN_GRID_PHASE := by decide +kernel
theorem group_TWN_LAST_INTERRUPTION : objGroup (Obj.TWN_LAST_INTERRUPTION) = .TWN_LAST_INTERRUPTION := by decide +kernel
theorem group_TWN_LINK_ERRORS : objGroup (Obj.TWN_LINK_ERRORS) = .TWN_LINK_ERRORS := by decide +kernel
theorem group_TWN_LINK_LATENCY : objGroup (Obj.TWN_LINK_LATENCY) = .TWN_LINK_LATENCY := by decide +kernel
theorem group_TWN_MISMATCHES : objGroup (Obj.TWN_MISMATCHES) = .TWN_MISMATCHES := by decide +kernel
theorem group_TWN_PARTNER_FW : objGroup (Obj.TWN_PARTNER_FW) = .TWN_PARTNER_FW := by decide +kernel
theorem group_TWN_PARTNER_SERIAL : objGroup (Obj.TWN_PARTNER_SERIAL) = .TWN_PARTNER_SERIAL := by decide +kernel
theorem group_TWN_STATUS : objGroup (Obj.TWN_STATUS) = .TWN_STATUS := by decide +kernel
theorem group_TWN_TAKEOVERS : objGroup (Obj.TWN_TAKEOVERS) = .TWN_TAKEOVERS := by decide +kernel
theorem group_holdKey (b : Fin 3) : objGroup (holdKey b) = .BASE_HOLDOVER := by
  revert b; decide +kernel
theorem group_offsetKey (b : Fin 3) : objGroup (offsetKey b) = .BASE_OFFSET := by
  revert b; decide +kernel
theorem group_rateKey (b : Fin 3) : objGroup (rateKey b) = .BASE_RATE := by
  revert b; decide +kernel
theorem group_statusKey (b : Fin 3) : objGroup (statusKey b) = .BASE_STATUS := by
  revert b; decide +kernel
/-- What a key of this range can be: an object that has a key there, or the rest of the chapter. -/
theorem objGroup_range {lo hi k : Nat} {L : List ObjGroup} (h : lo ≤ k) (h2 : k < hi)
    {l : List ObjSpan} {g : ObjGroup} (e : l.all (fun r => L.contains r.group || decide (hi ≤ r.base) || decide (r.base + r.step * (r.count - 1) + r.width ≤ lo)) = true)
    (c : g ∈ L) : ObjSpan.pick l g k ∈ L := by
  unfold ObjSpan.pick
  split
  · rename_i r q
    have m := List.mem_of_find?_eq_some q
    have v := List.find?_some q
    have x := List.all_eq_true.1 e r m
    simp only [Bool.or_eq_true, decide_eq_true_eq, List.contains_iff_mem] at x
    simp only [ObjSpan.covers, Bool.and_eq_true, decide_eq_true_eq] at v
    rcases x with (x | x) | x
    · exact x
    · omega
    · exfalso
      have d := Nat.div_add_mod (k - r.base) r.step
      have y : r.step * ((k - r.base) / r.step) ≤ r.step * (r.count - 1) := Nat.mul_le_mul_left _ (by omega)
      omega
  · exact c

theorem chapter_bit {F : Nat} {L : List ObjGroup} (h : L.all (fun g => F.testBit (Part.obj g).bit) = true) {g : ObjGroup} (m : g ∈ L) :
    F.testBit (Part.obj g).bit = true := List.all_eq_true.1 h g m

theorem group_page_adc {F k : Nat} (e : 0x1503e04000000 &&& F = 0x1503e04000000) (h : 0x4c1000 ≤ k) (h2 : k < 0x4c2800) :
    F.testBit (Part.obj (objGroup k)).bit = true := by
  have c : objGroup k = ObjSpan.pick acqObjs .acq k := by
    unfold objGroup
    repeat first | rw [if_pos (by omega)] | rw [if_neg (by omega)]
  have m : objGroup k ∈ ([.acq, .ACQ_CAL_GAIN, .ACQ_CAL_OFFSET, .ACQ_CH_STATUS, .ACQ_CH_VALUE, .ACQ_DIAG_ERROR, .ACQ_OVERRANGE_COUNT, .ACQ_START_OVERLAP, .ACQ_TRACK_DRIFT] : List ObjGroup) := by rw [c]; exact objGroup_range h h2 (by decide +kernel) (by decide)
  have b : (0x1503e04000000 : Nat).testBit (Part.obj (objGroup k)).bit = true := chapter_bit (L := [.acq, .ACQ_CAL_GAIN, .ACQ_CAL_OFFSET, .ACQ_CH_STATUS, .ACQ_CH_VALUE, .ACQ_DIAG_ERROR, .ACQ_OVERRANGE_COUNT, .ACQ_START_OVERLAP, .ACQ_TRACK_DRIFT]) (by decide) m
  rw [← e, Nat.testBit_and, Bool.and_eq_true] at b
  exact b.2

theorem group_page_chain {F k : Nat} (e : 0xfc004000000 &&& F = 0xfc004000000) (h : 0x4c6000 ≤ k) (h2 : k < 0x4c7000) :
    F.testBit (Part.obj (objGroup k)).bit = true := by
  have c : objGroup k = ObjSpan.pick acqObjs .acq k := by
    unfold objGroup
    repeat first | rw [if_pos (by omega)] | rw [if_neg (by omega)]
  have m : objGroup k ∈ ([.acq, .ACQ_FC_DELAY, .ACQ_FC_LATENCY, .ACQ_FC_RATE, .ACQ_FC_STATUS, .ACQ_FC_UNSETTLED, .ACQ_FC_VALUE] : List ObjGroup) := by rw [c]; exact objGroup_range h h2 (by decide +kernel) (by decide)
  have b : (0xfc004000000 : Nat).testBit (Part.obj (objGroup k)).bit = true := chapter_bit (L := [.acq, .ACQ_FC_DELAY, .ACQ_FC_LATENCY, .ACQ_FC_RATE, .ACQ_FC_STATUS, .ACQ_FC_UNSETTLED, .ACQ_FC_VALUE]) (by decide) m
  rw [← e, Nat.testBit_and, Bool.and_eq_true] at b
  exact b.2

theorem group_page_gal {F k : Nat} (e : 0x1ffc00000000000000008000000 &&& F = 0x1ffc00000000000000008000000) (h : 0x500000 ≤ k) (h2 : k < 0x510000) :
    F.testBit (Part.obj (objGroup k)).bit = true := by
  have c : objGroup k = ObjSpan.pick galObjs .gal k := by
    unfold objGroup
    repeat first | rw [if_pos (by omega)] | rw [if_neg (by omega)]
  have m : objGroup k ∈ ([.gal, .GAL_CONFIG, .GAL_DATAGRAMS, .GAL_DEPTH, .GAL_DROPPED, .GAL_MARK_COUNT, .GAL_MARK_FRAC, .GAL_MARK_K, .GAL_MARK_TIME, .GAL_RECORDS, .GAL_STATUS, .GAL_WIRE_RATE] : List ObjGroup) := by rw [c]; exact objGroup_range h h2 (by decide +kernel) (by decide)
  have b : (0x1ffc00000000000000008000000 : Nat).testBit (Part.obj (objGroup k)).bit = true := chapter_bit (L := [.gal, .GAL_CONFIG, .GAL_DATAGRAMS, .GAL_DEPTH, .GAL_DROPPED, .GAL_MARK_COUNT, .GAL_MARK_FRAC, .GAL_MARK_K, .GAL_MARK_TIME, .GAL_RECORDS, .GAL_STATUS, .GAL_WIRE_RATE]) (by decide) m
  rw [← e, Nat.testBit_and, Bool.and_eq_true] at b
  exact b.2

theorem group_page_chE {F k : Nat} (e : 0x1f80000001000000 &&& F = 0x1f80000001000000) (h : 0x442000 ≤ k) (h2 : k < 0x443800) :
    F.testBit (Part.obj (objGroup k)).bit = true := by
  have c : objGroup k = ObjSpan.pick edgObjs .edg k := by
    unfold objGroup
    repeat first | rw [if_pos (by omega)] | rw [if_neg (by omega)]
  have m : objGroup k ∈ ([.edg, .EDG_CH_CLIPPED, .EDG_CH_GUARD_COUNT, .EDG_CH_LATE, .EDG_CH_REMOVED, .EDG_CH_STATIC_CTRL, .EDG_CH_STATUS] : List ObjGroup) := by rw [c]; exact objGroup_range h h2 (by decide +kernel) (by decide)
  have b : (0x1f80000001000000 : Nat).testBit (Part.obj (objGroup k)).bit = true := chapter_bit (L := [.edg, .EDG_CH_CLIPPED, .EDG_CH_GUARD_COUNT, .EDG_CH_LATE, .EDG_CH_REMOVED, .EDG_CH_STATIC_CTRL, .EDG_CH_STATUS]) (by decide) m
  rw [← e, Nat.testBit_and, Bool.and_eq_true] at b
  exact b.2

theorem group_page_chG {F k : Nat} (e : 0x1800000000000000000002000000 &&& F = 0x1800000000000000000002000000) (h : 0x481000 ≤ k) (h2 : k < 0x481c00) :
    F.testBit (Part.obj (objGroup k)).bit = true := by
  have c : objGroup k = ObjSpan.pick gdvObjs .gdv k := by
    unfold objGroup
    repeat first | rw [if_pos (by omega)] | rw [if_neg (by omega)]
  have m : objGroup k ∈ ([.gdv, .GDV_CH_STATUS, .GDV_DESAT_COUNT] : List ObjGroup) := by rw [c]; exact objGroup_range h h2 (by decide +kernel) (by decide)
  have b : (0x1800000000000000000002000000 : Nat).testBit (Part.obj (objGroup k)).bit = true := chapter_bit (L := [.gdv, .GDV_CH_STATUS, .GDV_DESAT_COUNT]) (by decide) m
  rw [← e, Nat.testBit_and, Bool.and_eq_true] at b
  exact b.2

theorem group_page_chP {F k : Nat} (e : 0x600000000000000000002000000 &&& F = 0x600000000000000000002000000) (h : 0x483000 ≤ k) (h2 : k < 0x483400) :
    F.testBit (Part.obj (objGroup k)).bit = true := by
  have c : objGroup k = ObjSpan.pick gdvObjs .gdv k := by
    unfold objGroup
    repeat first | rw [if_pos (by omega)] | rw [if_neg (by omega)]
  have m : objGroup k ∈ ([.gdv, .GDV_BS_FORECAST, .GDV_BS_REFRESHES] : List ObjGroup) := by rw [c]; exact objGroup_range h h2 (by decide +kernel) (by decide)
  have b : (0x600000000000000000002000000 : Nat).testBit (Part.obj (objGroup k)).bit = true := chapter_bit (L := [.gdv, .GDV_BS_FORECAST, .GDV_BS_REFRESHES]) (by decide) m
  rw [← e, Nat.testBit_and, Bool.and_eq_true] at b
  exact b.2

theorem group_page_trg {F k : Nat} (e : 0x3e00000000001000000 &&& F = 0x3e00000000001000000) (h : 0x446000 ≤ k) (h2 : k < 0x446800) :
    F.testBit (Part.obj (objGroup k)).bit = true := by
  have c : objGroup k = ObjSpan.pick edgObjs .edg k := by
    unfold objGroup
    repeat first | rw [if_pos (by omega)] | rw [if_neg (by omega)]
  have m : objGroup k ∈ ([.edg, .EDG_TRG_CFG, .EDG_TRG_LATCH_SRC, .EDG_TRG_LATCH_TIME, .EDG_TRG_PERIODS, .EDG_TRG_STATUS] : List ObjGroup) := by rw [c]; exact objGroup_range h h2 (by decide +kernel) (by decide)
  have b : (0x3e00000000001000000 : Nat).testBit (Part.obj (objGroup k)).bit = true := chapter_bit (L := [.edg, .EDG_TRG_CFG, .EDG_TRG_LATCH_SRC, .EDG_TRG_LATCH_TIME, .EDG_TRG_PERIODS, .EDG_TRG_STATUS]) (by decide) m
  rw [← e, Nat.testBit_and, Bool.and_eq_true] at b
  exact b.2


end Sys2Proof.Machine
end

