-- ==== Sys2Proof/Laws/KeepsOps.lean ====
section
/-!
SUPPORT. What each operation of Machine/Ops.lean may change.
-/

set_option linter.unusedTactic false
set_option linter.tactic.unusedName false
set_option linter.unreachableTactic false

namespace Sys2Proof.Machine

theorem keeps_State_draw : ∀ a0, Keeps 0x80 a0 (State.draw a0) := by
  intro a0
  have h0 : Keeps 0x80 a0 a0 := Keeps.refl _
  unfold State.draw
  repeat' first
    | with_reducible assumption
    | intro _
    | with_reducible decide
    | with_reducible apply Keeps.upd_free

theorem keeps_State_send : ∀ a0 a1 a2 a3, Keeps 0x40 a0 (State.send a0 a1 a2 a3) := by
  intro a0 a1 a2 a3
  have h0 : Keeps 0x40 a0 a0 := Keeps.refl _
  unfold State.send
  repeat' first
    | with_reducible assumption
    | intro _
    | with_reducible decide
    | with_reducible apply Keeps.upd_tx

theorem keeps_State_renew : ∀ a0 a1 a2, Keeps 0x28000000000000000000000000000000000000000000000000000000000000000000000000000000000000000000000000000000000000000000000000000000000000000000000000 a0 (State.renew a0 a1 a2) := by
  intro a0 a1 a2
  have h0 : Keeps 0x28000000000000000000000000000000000000000000000000000000000000000000000000000000000000000000000000000000000000000000000000000000000000000000000000 a0 a0 := Keeps.refl _
  unfold State.renew
  repeat' first
    | with_reducible assumption
    | intro _
    | extract_lets +onlyGivenNames x
    | with_reducible apply Keeps.ite
    | with_reducible apply Keeps.iteP
    | with_reducible decide
    | split
    | ((with_reducible refine Keeps.upd_net ?_ _ ?_); on_goal 2 => (intro i hi; cases i <;> first | exact Keeps.no rfl hi | exact rfl | (split <;> rfl) | ((repeat' split) <;> rfl)))

theorem keeps_State_noteAbort : ∀ a0 a1 a2 a3, Keeps 0x9000000000000000000000000000000000000000 a0 (State.noteAbort a0 a1 a2 a3) := by
  intro a0 a1 a2 a3
  have h0 : Keeps 0x9000000000000000000000000000000000000000 a0 a0 := Keeps.refl _
  unfold State.noteAbort
  repeat' first
    | with_reducible assumption
    | intro _
    | with_reducible apply Keeps.bump .NET_ABORTS group_NET_ABORTS
    | with_reducible apply Keeps.setN .NET_LAST_ABORT group_NET_LAST_ABORT
    | with_reducible decide

theorem keeps_State_respond : ∀ a0 a1 a2 a3 a4, Keeps 0x140010000000000000000000000000000000000000000000000000000000000000000000000000000000000000000000000000000000000000000000000000000000000000000000000040 a0 (State.respond a0 a1 a2 a3 a4) := by
  intro a0 a1 a2 a3 a4
  have h0 : Keeps 0x140010000000000000000000000000000000000000000000000000000000000000000000000000000000000000000000000000000000000000000000000000000000000000000000000040 a0 a0 := Keeps.refl _
  unfold State.respond
  repeat' first
    | with_reducible assumption
    | intro _
    | extract_lets +onlyGivenNames x
    | with_reducible apply Keeps.step (keeps_State_send _ _ _ _)
    | with_reducible apply Keeps.ite
    | with_reducible apply Keeps.iteP
    | with_reducible decide
    | split
    | ((with_reducible refine Keeps.upd_net ?_ _ ?_); on_goal 2 => (intro i hi; cases i <;> first | exact Keeps.no rfl hi | exact rfl | (split <;> rfl) | ((repeat' split) <;> rfl)))

theorem keeps_State_reply : ∀ a0 a1 a2 a3, Keeps 0x140038000000000000000000000000000000000000000000000000000000000000000000000000000000000000000000000000000000009000000000000000000000000000000000000040 a0 (State.reply a0 a1 a2 a3) := by
  intro a0 a1 a2 a3
  have h0 : Keeps 0x140038000000000000000000000000000000000000000000000000000000000000000000000000000000000000000000000000000000009000000000000000000000000000000000000040 a0 a0 := Keeps.refl _
  unfold State.reply
  repeat' first
    | with_reducible assumption
    | intro _
    | (extract_lets +onlyGivenNames x; refine Keeps.cut x ?_ (fun hx => ?_); (revert x; show Keeps _ _ _); on_goal 2 => clear_value x)
    | (extract_lets +onlyGivenNames x; clear_value x)
    | with_reducible apply Keeps.step (keeps_State_noteAbort _ _ _ _)
    | with_reducible apply Keeps.step (keeps_State_renew _ _ _)
    | with_reducible apply Keeps.step (keeps_State_respond _ _ _ _ _)
    | with_reducible apply Keeps.ite
    | with_reducible apply Keeps.iteP
    | with_reducible decide
    | with_reducible refine Keeps.of_eq (by assumption) ?_
    | split

theorem keeps_State_forward : ∀ a0 a1 a2, Keeps 0x40 a0 (State.forward a0 a1 a2) := by
  intro a0 a1 a2
  have h0 : Keeps 0x40 a0 a0 := Keeps.refl _
  unfold State.forward
  repeat' first
    | with_reducible assumption
    | intro _
    | with_reducible apply Keeps.step (keeps_State_send _ _ _ _)
    | with_reducible apply Keeps.ite
    | with_reducible apply Keeps.iteP
    | with_reducible decide
    | split

theorem Keeps.request {F : Nat} {s0 s : State} {w : Writer} {key : Nat} {i : Island} {f : State → Nat × State}
    (e : 0x140038000000000000000000000000000000000000000000000000000000000000000000000000000000000000000000000000000000009000000000000000000000000000000000000040 &&& F = 0x140038000000000000000000000000000000000000000000000000000000000000000000000000000000000000000000000000000000009000000000000000000000000000000000000040) (hf : ∀ t, Keeps F s0 t → Keeps F s0 (f t).2) (h : Keeps F s0 s) : Keeps F s0 (Machine.request w key i f s) := by
  have r : ∀ t k a, Keeps F t (t.reply w k a) := fun t k a => ((keeps_State_reply t w k a).mono (by decide : _ &&& 0x140038000000000000000000000000000000000000000000000000000000000000000000000000000000000000000000000000000000009000000000000000000000000000000000000040 = _)).mono e
  have g : ∀ t k d, Keeps F t (State.forward t k d) := fun t k d => ((keeps_State_forward t k d).mono (by decide : _ &&& 0x140038000000000000000000000000000000000000000000000000000000000000000000000000000000000000000000000000000000009000000000000000000000000000000000000040 = _)).mono e
  unfold Machine.request
  split
  · exact h
  · split
    · exact h.trans (r _ _ _)
    · refine Keeps.trans ?_ (r _ _ _)
      dsimp only
      split
      · exact h
      · split
        · exact h
        · split
          · exact (hf s h).trans (g _ _ _)
          · exact hf s h

theorem keeps_countImplausible : ∀ a0 a1, Keeps 0x40000000000000000000000000000000000000000000000000000000000000000000 a1 (countImplausible a0 a1) := by
  intro a0 a1
  have h0 : Keeps 0x40000000000000000000000000000000000000000000000000000000000000000000 a1 a1 := Keeps.refl _
  unfold countImplausible
  repeat' first
    | with_reducible assumption
    | ((with_reducible refine IslField.upd_of ?_); intro i x hi; cases i <;> first | exact Keeps.no rfl hi | exact rfl | (split <;> rfl) | ((repeat' split) <;> rfl))
    | exact Or.inl rfl
    | exact Or.inr (fun _ _ h => h)
    | exact Or.inr (fun _ _ h => List.mem_cons_of_mem _ h)
    | intro _
    | with_reducible refine Keeps.modIsl ?_ ?_ ?_
    | with_reducible decide

theorem keeps_countRefused : ∀ a0 a1, Keeps 0x80000000000000000000000000000000000000000000000000000000000000000000 a1 (countRefused a0 a1) := by
  intro a0 a1
  have h0 : Keeps 0x80000000000000000000000000000000000000000000000000000000000000000000 a1 a1 := Keeps.refl _
  unfold countRefused
  repeat' first
    | with_reducible assumption
    | ((with_reducible refine IslField.upd_of ?_); intro i x hi; cases i <;> first | exact Keeps.no rfl hi | exact rfl | (split <;> rfl) | ((repeat' split) <;> rfl))
    | exact Or.inl rfl
    | exact Or.inr (fun _ _ h => h)
    | exact Or.inr (fun _ _ h => List.mem_cons_of_mem _ h)
    | intro _
    | with_reducible refine Keeps.modIsl ?_ ?_ ?_
    | with_reducible decide

end Sys2Proof.Machine
end

