-- ==== Sys2Proof/Laws/KeepsClockOps.lean ====
section
/-!
SUPPORT. What each operation of Machine/ClockOps.lean may change.
-/

set_option linter.unusedTactic false
set_option linter.tactic.unusedName false
set_option linter.unreachableTactic false

namespace Sys2Proof.Machine

theorem keeps_State_modBase : ∀ a0 a1 a2, Keeps 0x800000000000000000000000000000000000000000000000000000000000000000000000000000000000000000000000000000000000000000000000000 a0 (State.modBase a0 a1 a2) := by
  intro a0 a1 a2
  have h0 : Keeps 0x800000000000000000000000000000000000000000000000000000000000000000000000000000000000000000000000000000000000000000000000000 a0 a0 := Keeps.refl _
  unfold State.modBase
  repeat' first
    | with_reducible assumption
    | ((with_reducible refine ClkField.upd_of ?_); intro i x hi; cases i <;> first | exact Keeps.no rfl hi | exact rfl | (split <;> rfl) | ((repeat' split) <;> rfl))
    | intro _
    | with_reducible refine Keeps.modClk ?_ ?_
    | with_reducible decide

theorem keeps_State_modPll : ∀ a0 a1 a2, Keeps 0x80000000000000000000000000000000000000000000000000000000000000000000000000000000000000000000000000000000000000000000000000 a0 (State.modPll a0 a1 a2) := by
  intro a0 a1 a2
  have h0 : Keeps 0x80000000000000000000000000000000000000000000000000000000000000000000000000000000000000000000000000000000000000000000000000 a0 a0 := Keeps.refl _
  unfold State.modPll
  repeat' first
    | with_reducible assumption
    | ((with_reducible refine ClkField.upd_of ?_); intro i x hi; cases i <;> first | exact Keeps.no rfl hi | exact rfl | (split <;> rfl) | ((repeat' split) <;> rfl))
    | intro _
    | with_reducible refine Keeps.modClk ?_ ?_
    | with_reducible decide

theorem keeps_showBase : ∀ a0 a1, Keeps 0x3c0080000000000000000000000000000000000000000000000000000000000000 a1 (showBase a0 a1) := by
  intro a0 a1
  have h0 : Keeps 0x3c0080000000000000000000000000000000000000000000000000000000000000 a1 a1 := Keeps.refl _
  unfold showBase
  repeat' first
    | with_reducible assumption
    | intro _
    | (extract_lets +onlyGivenNames x; refine Keeps.cut x ?_ (fun hx => ?_); (revert x; show Keeps _ _ _); on_goal 2 => clear_value x)
    | (extract_lets +onlyGivenNames x; clear_value x)
    | with_reducible apply Keeps.setBit .TIM_STATUS group_TIM_STATUS
    | with_reducible apply Keeps.setBit .BASE_STATUS (group_statusKey _)
    | with_reducible apply Keeps.setField .BASE_STATUS (group_statusKey _)
    | with_reducible apply Keeps.setN .BASE_HOLDOVER (group_holdKey _)
    | with_reducible apply Keeps.setR .BASE_RATE (group_rateKey _)
    | with_reducible apply Keeps.setR .BASE_OFFSET (group_offsetKey _)
    | with_reducible apply Keeps.ite
    | with_reducible apply Keeps.iteP
    | with_reducible decide
    | split

theorem keeps_baseHoldover : ∀ a0 a1 a2, Keeps 0x8000000000000000000000000000000000000000000000000000000003c0080000000000000000004000000000000000000000000000000000000000100 a2 (baseHoldover a0 a1 a2) := by
  intro a0 a1 a2
  have h0 : Keeps 0x8000000000000000000000000000000000000000000000000000000003c0080000000000000000004000000000000000000000000000000000000000100 a2 a2 := Keeps.refl _
  unfold baseHoldover
  repeat' first
    | with_reducible assumption
    | intro _
    | (extract_lets +onlyGivenNames x; refine Keeps.cut x ?_ (fun hx => ?_); (revert x; show Keeps _ _ _); on_goal 2 => clear_value x)
    | (extract_lets +onlyGivenNames x; clear_value x)
    | with_reducible apply Keeps.step (keeps_State_log _ _ _)
    | with_reducible apply Keeps.step (keeps_State_modBase _ _ _)
    | with_reducible apply Keeps.step (keeps_showBase _ _)
    | with_reducible apply Keeps.ite
    | with_reducible apply Keeps.iteP
    | with_reducible decide
    | split

theorem keeps_baseLost : ∀ a0 a1, Keeps 0x8000000000000000000000000000000000000000000000000000000003c0080000000000000000004000000000000000000000000000000000000000100 a1 (baseLost a0 a1) := by
  intro a0 a1
  have h0 : Keeps 0x8000000000000000000000000000000000000000000000000000000003c0080000000000000000004000000000000000000000000000000000000000100 a1 a1 := Keeps.refl _
  unfold baseLost
  repeat' first
    | with_reducible assumption
    | intro _
    | with_reducible apply Keeps.step (keeps_State_log _ _ _)
    | with_reducible apply Keeps.step (keeps_State_modBase _ _ _)
    | with_reducible apply Keeps.step (keeps_showBase _ _)
    | with_reducible apply Keeps.ite
    | with_reducible apply Keeps.iteP
    | with_reducible decide
    | split

theorem keeps_switchClocks : ∀ a0 a1, Keeps 0x100000000000000000000000000000000000000000000000000000000000000000000000000000000000000000000000000000000000000000000000000 a1 (switchClocks a0 a1) := by
  intro a0 a1
  have h0 : Keeps 0x100000000000000000000000000000000000000000000000000000000000000000000000000000000000000000000000000000000000000000000000000 a1 a1 := Keeps.refl _
  unfold switchClocks
  repeat' first
    | with_reducible assumption
    | ((with_reducible refine ClkField.upd_of ?_); intro i x hi; cases i <;> first | exact Keeps.no rfl hi | exact rfl | (split <;> rfl) | ((repeat' split) <;> rfl))
    | intro _
    | with_reducible refine Keeps.modClk ?_ ?_
    | with_reducible apply Keeps.ite
    | with_reducible apply Keeps.iteP
    | with_reducible decide
    | split

end Sys2Proof.Machine
end

