-- ==== Sys2Proof/Laws/KeepsTwinOps.lean ====
section
/-!
SUPPORT. What each operation of Machine/TwinOps.lean may change.
-/

set_option linter.unusedTactic false
set_option linter.tactic.unusedName false
set_option linter.unreachableTactic false

namespace Sys2Proof.Machine

theorem keeps_showTwin : ∀ a0, Keeps 0x10000000000000000000000000400000000000000000000000000000000000000 a0 (showTwin a0) := by
  intro a0
  have h0 : Keeps 0x10000000000000000000000000400000000000000000000000000000000000000 a0 a0 := Keeps.refl _
  unfold showTwin
  repeat' first
    | with_reducible assumption
    | intro _
    | (extract_lets +onlyGivenNames x; clear_value x)
    | with_reducible apply Keeps.setField .MOD_STATUS group_MOD_STATUS
    | with_reducible apply Keeps.setN .TWN_STATUS group_TWN_STATUS
    | with_reducible decide

theorem keeps_linkSend : ∀ a0 a1 a2, Keeps 0x40 a2 (linkSend a0 a1 a2) := by
  intro a0 a1 a2
  have h0 : Keeps 0x40 a2 a2 := Keeps.refl _
  unfold linkSend
  repeat' first
    | with_reducible assumption
    | intro _
    | with_reducible apply Keeps.step (keeps_State_send _ _ _ _)
    | with_reducible apply Keeps.ite
    | with_reducible apply Keeps.iteP
    | with_reducible decide
    | split

theorem keeps_startSelftest : ∀ a0 a1, Keeps 0x6000000000000000000000000000000000000000000000000000000000020000000000000000000000000000000000000000000000 a1 (startSelftest a0 a1) := by
  intro a0 a1
  have h0 : Keeps 0x6000000000000000000000000000000000000000000000000000000000020000000000000000000000000000000000000000000000 a1 a1 := Keeps.refl _
  unfold startSelftest
  repeat' first
    | with_reducible assumption
    | ((with_reducible refine PieField.upd_of ?_); intro i x hi; cases i <;> first | exact Keeps.no rfl hi | exact rfl | (split <;> rfl) | ((repeat' split) <;> rfl))
    | intro _
    | with_reducible refine Keeps.modPier ?_ ?_
    | with_reducible apply Keeps.setBit .PIE_STATUS (group_PIE_STATUS _)
    | with_reducible apply Keeps.ite
    | with_reducible apply Keeps.iteP
    | with_reducible decide
    | split

theorem keeps_dueSelftest : ∀ a0 a1, Keeps 0x6000000000000000000000000000000000000000000000000000000000020000000000000000000000000000000000000000000000 a1 (dueSelftest a0 a1) := by
  intro a0 a1
  have h0 : Keeps 0x6000000000000000000000000000000000000000000000000000000000020000000000000000000000000000000000000000000000 a1 a1 := Keeps.refl _
  unfold dueSelftest
  repeat' first
    | with_reducible assumption
    | intro _
    | with_reducible apply Keeps.step (keeps_startSelftest _ _)
    | with_reducible apply Keeps.ite
    | with_reducible apply Keeps.iteP
    | with_reducible decide
    | split

theorem keeps_arbStart : ∀ a0 a1 a2, Keeps 0x1000000000000000000000006000000000000000000000000000000000000000010000000000000000020004000400000000000000000000000000000000000140 a2 (arbStart a0 a1 a2) := by
  intro a0 a1 a2
  have h0 : Keeps 0x1000000000000000000000006000000000000000000000000000000000000000010000000000000000020004000400000000000000000000000000000000000140 a2 a2 := Keeps.refl _
  unfold arbStart
  repeat' first
    | with_reducible assumption
    | ((with_reducible refine TwnField.upd_of ?_); intro i x hi; cases i <;> first | exact Keeps.no rfl hi | exact rfl | (split <;> rfl) | ((repeat' split) <;> rfl))
    | intro _
    | (extract_lets +onlyGivenNames x; refine Keeps.cut x ?_ (fun hx => ?_); (revert x; show Keeps _ _ _); on_goal 2 => clear_value x)
    | (extract_lets +onlyGivenNames x; clear_value x)
    | with_reducible apply Keeps.step (keeps_State_log _ _ _)
    | with_reducible refine Keeps.modTwn ?_ ?_
    | with_reducible apply Keeps.step (keeps_linkSend _ _ _)
    | with_reducible apply Keeps.step (keeps_showTwin _)
    | with_reducible apply Keeps.step (keeps_startSelftest _ _)
    | with_reducible apply Keeps.ite
    | with_reducible apply Keeps.iteP
    | with_reducible decide
    | split

theorem keeps_digestSettle : ∀ a0 a1 a2 a3, Keeps 0xd000000000000000000000006000000000000000000000000000000000000000012000000000000000020004000400000000000000000000000000000000000140 a3 (digestSettle a0 a1 a2 a3) := by
  intro a0 a1 a2 a3
  have h0 : Keeps 0xd000000000000000000000006000000000000000000000000000000000000000012000000000000000020004000400000000000000000000000000000000000140 a3 a3 := Keeps.refl _
  unfold digestSettle
  repeat' first
    | with_reducible assumption
    | ((with_reducible refine TwnField.upd_of ?_); intro i x hi; cases i <;> first | exact Keeps.no rfl hi | exact rfl | (split <;> rfl) | ((repeat' split) <;> rfl))
    | intro _
    | (extract_lets +onlyGivenNames x; refine Keeps.cut x ?_ (fun hx => ?_); (revert x; show Keeps _ _ _); on_goal 2 => clear_value x)
    | (extract_lets +onlyGivenNames x; clear_value x)
    | with_reducible apply Keeps.bump .TWN_MISMATCHES group_TWN_MISMATCHES
    | with_reducible apply Keeps.step (keeps_State_log _ _ _)
    | with_reducible refine Keeps.modTwn ?_ ?_
    | with_reducible apply Keeps.step (keeps_arbStart _ _ _)
    | with_reducible apply Keeps.step (keeps_showTwin _)
    | with_reducible apply Keeps.ite
    | with_reducible apply Keeps.iteP
    | with_reducible decide
    | split

theorem keeps_digestMeets : ∀ a0 a1 a2, Keeps 0xf000000000000000000000006000000000000000000000000000000000000000012000000000000000020004000400000000000000000000000000000000000140 a2 (digestMeets a0 a1 a2) := by
  intro a0 a1 a2
  have h0 : Keeps 0xf000000000000000000000006000000000000000000000000000000000000000012000000000000000020004000400000000000000000000000000000000000140 a2 a2 := Keeps.refl _
  unfold digestMeets
  repeat' first
    | with_reducible assumption
    | ((with_reducible refine TwnField.upd_of ?_); intro i x hi; cases i <;> first | exact Keeps.no rfl hi | exact rfl | (split <;> rfl) | ((repeat' split) <;> rfl))
    | intro _
    | (extract_lets +onlyGivenNames x; refine Keeps.cut x ?_ (fun hx => ?_); (revert x; show Keeps _ _ _); on_goal 2 => clear_value x)
    | (extract_lets +onlyGivenNames x; clear_value x)
    | with_reducible refine Keeps.modTwn ?_ ?_
    | with_reducible apply Keeps.step (keeps_digestSettle _ _ _ _)
    | with_reducible decide
    | with_reducible refine Keeps.of_eq (by assumption) ?_
    | split

end Sys2Proof.Machine
end

