-- ==== Sys2Proof/Laws/KeepsEdgeOps.lean ====
section
/-!
SUPPORT. What each operation of Machine/EdgeOps.lean may change.
-/

set_option linter.unusedTactic false
set_option linter.tactic.unusedName false
set_option linter.unreachableTactic false

namespace Sys2Proof.Machine

theorem keeps_State_modTb : ∀ a0 a1 a2, Keeps 0x8000000000000000000000000000000000000000000000000000000000000000000000000000000000000000000000000000000000000 a0 (State.modTb a0 a1 a2) := by
  intro a0 a1 a2
  have h0 : Keeps 0x8000000000000000000000000000000000000000000000000000000000000000000000000000000000000000000000000000000000000 a0 a0 := Keeps.refl _
  unfold State.modTb
  repeat' first
    | with_reducible assumption
    | ((with_reducible refine EdgField.upd_of ?_); intro i x hi; cases i <;> first | exact Keeps.no rfl hi | exact rfl | (split <;> rfl) | ((repeat' split) <;> rfl))
    | intro _
    | with_reducible refine Keeps.modEdg ?_ ?_
    | with_reducible decide

theorem keeps_State_modCh : ∀ a0 a1 a2, Keeps 0x10000000000000000000000000000000000000000000000000000000000000000000000000000000000000000000000000000000000000 a0 (State.modCh a0 a1 a2) := by
  intro a0 a1 a2
  have h0 : Keeps 0x10000000000000000000000000000000000000000000000000000000000000000000000000000000000000000000000000000000000000 a0 a0 := Keeps.refl _
  unfold State.modCh
  repeat' first
    | with_reducible assumption
    | ((with_reducible refine EdgField.upd_of ?_); intro i x hi; cases i <;> first | exact Keeps.no rfl hi | exact rfl | (split <;> rfl) | ((repeat' split) <;> rfl))
    | intro _
    | with_reducible refine Keeps.modEdg ?_ ?_
    | with_reducible decide

theorem keeps_State_modSet : ∀ a0 a1 a2, Keeps 0x20000000000000000000000000000000000000000000000000000000000000000000000000000000000000000000000000000000000000 a0 (State.modSet a0 a1 a2) := by
  intro a0 a1 a2
  have h0 : Keeps 0x20000000000000000000000000000000000000000000000000000000000000000000000000000000000000000000000000000000000000 a0 a0 := Keeps.refl _
  unfold State.modSet
  repeat' first
    | with_reducible assumption
    | ((with_reducible refine EdgField.upd_of ?_); intro i x hi; cases i <;> first | exact Keeps.no rfl hi | exact rfl | (split <;> rfl) | ((repeat' split) <;> rfl))
    | intro _
    | with_reducible refine Keeps.modEdg ?_ ?_
    | with_reducible decide

theorem keeps_State_modGrp : ∀ a0 a1 a2, Keeps 0x40000000000000000000000000000000000000000000000000000000000000000000000000000000000000000000000000000000000000 a0 (State.modGrp a0 a1 a2) := by
  intro a0 a1 a2
  have h0 : Keeps 0x40000000000000000000000000000000000000000000000000000000000000000000000000000000000000000000000000000000000000 a0 a0 := Keeps.refl _
  unfold State.modGrp
  repeat' first
    | with_reducible assumption
    | ((with_reducible refine EdgField.upd_of ?_); intro i x hi; cases i <;> first | exact Keeps.no rfl hi | exact rfl | (split <;> rfl) | ((repeat' split) <;> rfl))
    | intro _
    | with_reducible refine Keeps.modEdg ?_ ?_
    | with_reducible decide

theorem keeps_State_modDrv : ∀ a0 a1 a2, Keeps 0x400000000000000000000000000000000000000000000000000000000000000000000000000000000000000000000000000000000000000000 a0 (State.modDrv a0 a1 a2) := by
  intro a0 a1 a2
  have h0 : Keeps 0x400000000000000000000000000000000000000000000000000000000000000000000000000000000000000000000000000000000000000000 a0 a0 := Keeps.refl _
  unfold State.modDrv
  repeat' first
    | with_reducible assumption
    | ((with_reducible refine GdvField.upd_of ?_); intro i x hi; cases i <;> first | exact Keeps.no rfl hi | exact rfl | (split <;> rfl) | ((repeat' split) <;> rfl))
    | intro _
    | with_reducible refine Keeps.modGdv ?_ ?_
    | with_reducible decide

theorem keeps_State_modPort : ∀ a0 a1 a2, Keeps 0x800000000000000000000000000000000000000000000000000000000000000000000000000000000000000000000000000000000000000000 a0 (State.modPort a0 a1 a2) := by
  intro a0 a1 a2
  have h0 : Keeps 0x800000000000000000000000000000000000000000000000000000000000000000000000000000000000000000000000000000000000000000 a0 a0 := Keeps.refl _
  unfold State.modPort
  repeat' first
    | with_reducible assumption
    | ((with_reducible refine GdvField.upd_of ?_); intro i x hi; cases i <;> first | exact Keeps.no rfl hi | exact rfl | (split <;> rfl) | ((repeat' split) <;> rfl))
    | intro _
    | with_reducible refine Keeps.modGdv ?_ ?_
    | with_reducible decide

theorem keeps_moveRails : ∀ a0, Keeps 0x400000000000000000000000000000000000000000000000000000000000000000000000000000000000000000000000000000000000000000 a0 (moveRails a0) := by
  intro a0
  have h0 : Keeps 0x400000000000000000000000000000000000000000000000000000000000000000000000000000000000000000000000000000000000000000 a0 a0 := Keeps.refl _
  unfold moveRails
  repeat' first
    | with_reducible assumption
    | intro _
    | (extract_lets +onlyGivenNames x; clear_value x)
    | with_reducible apply Keeps.step (keeps_State_modDrv _ _ _)
    | with_reducible apply Keeps.foldl
    | with_reducible apply Keeps.foldlP
    | with_reducible apply Keeps.ite
    | with_reducible apply Keeps.iteP
    | with_reducible decide
    | split

theorem keeps_showDeadTime : ∀ a0 a1, Keeps 0x1000000000000000 a1 (showDeadTime a0 a1) := by
  intro a0 a1
  have h0 : Keeps 0x1000000000000000 a1 a1 := Keeps.refl _
  unfold showDeadTime
  repeat' first
    | with_reducible assumption
    | intro _
    | with_reducible apply Keeps.setBit .EDG_CH_STATUS (group_EDG_CH_STATUS _)
    | with_reducible decide

theorem keeps_showOutputs : ∀ a0 a1, Keeps 0x20800000000000000000000000000 a1 (showOutputs a0 a1) := by
  intro a0 a1
  have h0 : Keeps 0x20800000000000000000000000000 a1 a1 := Keeps.refl _
  unfold showOutputs
  repeat' first
    | with_reducible assumption
    | intro _
    | (extract_lets +onlyGivenNames x; refine Keeps.cut x ?_ (fun hx => ?_); (revert x; show Keeps _ _ _); on_goal 2 => clear_value x)
    | (extract_lets +onlyGivenNames x; clear_value x)
    | with_reducible apply Keeps.setBit .GDV_CH_STATUS (group_GDV_CH_STATUS _)
    | with_reducible apply Keeps.setBit .GDV_PORT_STATUS (group_GDV_PORT_STATUS _)
    | with_reducible apply Keeps.foldl
    | with_reducible apply Keeps.foldlP
    | with_reducible apply Keeps.ite
    | with_reducible apply Keeps.iteP
    | with_reducible decide
    | with_reducible refine Keeps.of_eq (by assumption) ?_
    | split

theorem keeps_awaitAcks : ∀ a0 a1 a2, Keeps 0x800000000000000000000000000000000000000000000000000000000000000000000000000000000000020000000000000000000000000000 a2 (awaitAcks a0 a1 a2) := by
  intro a0 a1 a2
  have h0 : Keeps 0x800000000000000000000000000000000000000000000000000000000000000000000000000000000000020000000000000000000000000000 a2 a2 := Keeps.refl _
  unfold awaitAcks
  repeat' first
    | with_reducible assumption
    | intro _
    | (extract_lets +onlyGivenNames x; clear_value x)
    | with_reducible apply Keeps.step (keeps_State_modPort _ _ _)
    | with_reducible apply Keeps.setBit .GDV_PORT_STATUS (group_GDV_PORT_STATUS _)
    | with_reducible apply Keeps.foldl
    | with_reducible apply Keeps.foldlP
    | with_reducible apply Keeps.ite
    | with_reducible apply Keeps.iteP
    | with_reducible decide
    | with_reducible refine Keeps.of_eq (by assumption) ?_
    | split

theorem keeps_settle : ∀ a0 a1, Keeps 0x800010000000000000000000000000000000000000000000000000000000000000000000000000000000020800000000000000000000000000 a1 (settle a0 a1) := by
  intro a0 a1
  have h0 : Keeps 0x800010000000000000000000000000000000000000000000000000000000000000000000000000000000020800000000000000000000000000 a1 a1 := Keeps.refl _
  unfold settle
  repeat' first
    | with_reducible assumption
    | intro _
    | (extract_lets +onlyGivenNames x; refine Keeps.cut x ?_ (fun hx => ?_); (revert x; show Keeps _ _ _); on_goal 2 => clear_value x)
    | (extract_lets +onlyGivenNames x; clear_value x)
    | with_reducible apply Keeps.step (keeps_State_modCh _ _ _)
    | with_reducible apply Keeps.step (keeps_awaitAcks _ _ _)
    | with_reducible apply Keeps.step (keeps_showOutputs _ _)
    | with_reducible apply Keeps.foldl
    | with_reducible apply Keeps.foldlP
    | with_reducible decide
    | with_reducible refine Keeps.of_eq (by assumption) ?_
    | split

theorem keeps_outputsOff : ∀ a0 a1, Keeps 0x800010000000000000000000000000000000000000000000000000000000000000000000000000000000020800000000000000000000000000 a1 (outputsOff a0 a1) := by
  intro a0 a1
  have h0 : Keeps 0x800010000000000000000000000000000000000000000000000000000000000000000000000000000000020800000000000000000000000000 a1 a1 := Keeps.refl _
  unfold outputsOff
  repeat' first
    | with_reducible assumption
    | intro _
    | (extract_lets +onlyGivenNames x; refine Keeps.cut x ?_ (fun hx => ?_); (revert x; show Keeps _ _ _); on_goal 2 => clear_value x)
    | (extract_lets +onlyGivenNames x; clear_value x)
    | with_reducible apply Keeps.step (keeps_State_modCh _ _ _)
    | with_reducible apply Keeps.step (keeps_settle _ _)
    | with_reducible apply Keeps.step (keeps_showOutputs _ _)
    | with_reducible decide

theorem keeps_edgeSafe : ∀ a0 a1, Keeps 0x800030000000000000000000000000000000000000000000000000000000000000000000000000000000020800000000001000000000000000 a1 (edgeSafe a0 a1) := by
  intro a0 a1
  have h0 : Keeps 0x800030000000000000000000000000000000000000000000000000000000000000000000000000000000020800000000001000000000000000 a1 a1 := Keeps.refl _
  unfold edgeSafe
  repeat' first
    | with_reducible assumption
    | intro _
    | (extract_lets +onlyGivenNames x; refine Keeps.cut x ?_ (fun hx => ?_); (revert x; show Keeps _ _ _); on_goal 2 => clear_value x)
    | (extract_lets +onlyGivenNames x; clear_value x)
    | with_reducible apply Keeps.step (keeps_State_modCh _ _ _)
    | with_reducible apply Keeps.step (keeps_State_modSet _ _ _)
    | with_reducible apply Keeps.setBit .EDG_CH_STATUS (group_EDG_CH_STATUS _)
    | with_reducible apply Keeps.step (keeps_outputsOff _ _)
    | with_reducible apply Keeps.foldl
    | with_reducible apply Keeps.foldlP
    | with_reducible apply Keeps.ite
    | with_reducible apply Keeps.iteP
    | with_reducible decide
    | split

theorem keeps_edgeUnsafe : ∀ a0 a1, Keeps 0x800030000000000000000000000000000000000000000000000000000000000000000000000000000000020800000000001000000000000000 a1 (edgeUnsafe a0 a1) := by
  intro a0 a1
  have h0 : Keeps 0x800030000000000000000000000000000000000000000000000000000000000000000000000000000000020800000000001000000000000000 a1 a1 := Keeps.refl _
  unfold edgeUnsafe
  repeat' first
    | with_reducible assumption
    | intro _
    | (extract_lets +onlyGivenNames x; refine Keeps.cut x ?_ (fun hx => ?_); (revert x; show Keeps _ _ _); on_goal 2 => clear_value x)
    | (extract_lets +onlyGivenNames x; clear_value x)
    | with_reducible apply Keeps.step (keeps_State_modSet _ _ _)
    | with_reducible apply Keeps.setBit .EDG_CH_STATUS (group_EDG_CH_STATUS _)
    | with_reducible apply Keeps.step (keeps_outputsOff _ _)
    | with_reducible apply Keeps.foldl
    | with_reducible apply Keeps.foldlP
    | with_reducible decide

theorem keeps_edgeIdle : ∀ a0 a1, Keeps 0x800030000000000000000000000000000000000000000000000000000000000000000000000000000000020800000000000000000000000000 a1 (edgeIdle a0 a1) := by
  intro a0 a1
  have h0 : Keeps 0x800030000000000000000000000000000000000000000000000000000000000000000000000000000000020800000000000000000000000000 a1 a1 := Keeps.refl _
  unfold edgeIdle
  repeat' first
    | with_reducible assumption
    | intro _
    | (extract_lets +onlyGivenNames x; refine Keeps.cut x ?_ (fun hx => ?_); (revert x; show Keeps _ _ _); on_goal 2 => clear_value x)
    | (extract_lets +onlyGivenNames x; clear_value x)
    | with_reducible apply Keeps.step (keeps_State_modSet _ _ _)
    | with_reducible apply Keeps.step (keeps_outputsOff _ _)
    | with_reducible apply Keeps.foldl
    | with_reducible apply Keeps.foldlP
    | with_reducible apply Keeps.ite
    | with_reducible apply Keeps.iteP
    | with_reducible decide
    | split

theorem keeps_bootEmpty : ∀ a0 a1, Keeps 0x10000000000000000000000000000000000000000000000000000000000000000000000000000000000000000000000000000000000000 a1 (bootEmpty a0 a1) := by
  intro a0 a1
  have h0 : Keeps 0x10000000000000000000000000000000000000000000000000000000000000000000000000000000000000000000000000000000000000 a1 a1 := Keeps.refl _
  unfold bootEmpty
  repeat' first
    | with_reducible assumption
    | intro _
    | with_reducible apply Keeps.step (keeps_State_modCh _ _ _)
    | with_reducible apply Keeps.foldl
    | with_reducible apply Keeps.foldlP
    | with_reducible apply Keeps.ite
    | with_reducible apply Keeps.iteP
    | with_reducible decide
    | with_reducible refine Keeps.of_eq (by assumption) ?_
    | split

theorem keeps_edgeBlock : ∀ a0 a1 a2, Keeps 0x800030000000000000000000000000000000000000000000000000000000000000000000000000000000020800000000000000000000000000 a2 (edgeBlock a0 a1 a2) := by
  intro a0 a1 a2
  have h0 : Keeps 0x800030000000000000000000000000000000000000000000000000000000000000000000000000000000020800000000000000000000000000 a2 a2 := Keeps.refl _
  unfold edgeBlock
  repeat' first
    | with_reducible assumption
    | intro _
    | (extract_lets +onlyGivenNames x; refine Keeps.cut x ?_ (fun hx => ?_); (revert x; show Keeps _ _ _); on_goal 2 => clear_value x)
    | (extract_lets +onlyGivenNames x; clear_value x)
    | with_reducible apply Keeps.step (keeps_State_modSet _ _ _)
    | with_reducible apply Keeps.step (keeps_outputsOff _ _)
    | with_reducible apply Keeps.foldl
    | with_reducible apply Keeps.foldlP
    | with_reducible apply Keeps.ite
    | with_reducible apply Keeps.iteP
    | with_reducible decide
    | split

end Sys2Proof.Machine
end

