-- ==== Sys2Proof/Laws/KeepsNetOps.lean ====
section
/-!
SUPPORT. What each operation of Machine/NetOps.lean may change.
-/

set_option linter.unusedTactic false
set_option linter.tactic.unusedName false
set_option linter.unreachableTactic false

namespace Sys2Proof.Machine

theorem keeps_State_modCan : ∀ a0 a1 a2, Keeps 0x200000000000000000000000000000000000000000000000000000000000000000000000000000000000000000000000000000000000000000000000000000000000000000000000000 a0 (State.modCan a0 a1 a2) := by
  intro a0 a1 a2
  have h0 : Keeps 0x200000000000000000000000000000000000000000000000000000000000000000000000000000000000000000000000000000000000000000000000000000000000000000000000000 a0 a0 := Keeps.refl _
  unfold State.modCan
  repeat' first
    | with_reducible assumption
    | ((with_reducible refine NetField.upd_of ?_); intro i x hi; cases i <;> first | exact Keeps.no rfl hi | exact rfl | (split <;> rfl) | ((repeat' split) <;> rfl))
    | intro _
    | with_reducible refine Keeps.modNet ?_ ?_
    | with_reducible decide

theorem keeps_showNet : ∀ a0, Keeps 0x80000000000000000000000000000000000000000 a0 (showNet a0) := by
  intro a0
  have h0 : Keeps 0x80000000000000000000000000000000000000000 a0 a0 := Keeps.refl _
  unfold showNet
  repeat' first
    | with_reducible assumption
    | intro _
    | (extract_lets +onlyGivenNames x; clear_value x)
    | with_reducible apply Keeps.setN .NET_STATUS group_NET_STATUS
    | with_reducible decide

theorem keeps_ownerEnds : ∀ a0 a1, Keeps 0x40a0000000000000000000000000000000000000100 a1 (ownerEnds a0 a1) := by
  intro a0 a1
  have h0 : Keeps 0x40a0000000000000000000000000000000000000100 a1 a1 := Keeps.refl _
  unfold ownerEnds
  repeat' first
    | with_reducible assumption
    | intro _
    | (extract_lets +onlyGivenNames x; clear_value x)
    | with_reducible apply Keeps.step (keeps_State_log _ _ _)
    | with_reducible apply Keeps.setN .NET_OWNER group_NET_OWNER
    | with_reducible apply Keeps.step (keeps_showNet _)
    | with_reducible apply Keeps.ite
    | with_reducible apply Keeps.iteP
    | with_reducible decide
    | split

theorem keeps_sessionEnds : ∀ a0 a1 a2, Keeps 0x700000000000000000000000000000000000000000000000000000000000000000000000000000000000000000000000000000040e0000000000000000000000000000000000000100 a2 (sessionEnds a0 a1 a2) := by
  intro a0 a1 a2
  have h0 : Keeps 0x700000000000000000000000000000000000000000000000000000000000000000000000000000000000000000000000000000040e0000000000000000000000000000000000000100 a2 a2 := Keeps.refl _
  unfold sessionEnds
  repeat' first
    | with_reducible assumption
    | ((with_reducible refine NetField.upd_of ?_); intro i x hi; cases i <;> first | exact Keeps.no rfl hi | exact rfl | (split <;> rfl) | ((repeat' split) <;> rfl))
    | intro _
    | (extract_lets +onlyGivenNames x; refine Keeps.cut x ?_ (fun hx => ?_); (revert x; show Keeps _ _ _); on_goal 2 => clear_value x)
    | (extract_lets +onlyGivenNames x; clear_value x)
    | with_reducible apply Keeps.step (keeps_State_log _ _ _)
    | with_reducible refine Keeps.modNet ?_ ?_
    | with_reducible apply Keeps.setN .NET_SESSIONS group_NET_SESSIONS
    | with_reducible apply Keeps.step (keeps_ownerEnds _ _)
    | with_reducible apply Keeps.step (keeps_showNet _)
    | with_reducible apply Keeps.ite
    | with_reducible apply Keeps.iteP
    | with_reducible decide
    | with_reducible refine Keeps.of_eq (by assumption) ?_
    | split

theorem keeps_linkReview : ∀ a0, Keeps 0x700000000000000000000000000000000000000000000000000000000000000000000000000000000000000000000000000000040e0000000000000000000000000000000000000100 a0 (linkReview a0) := by
  intro a0
  have h0 : Keeps 0x700000000000000000000000000000000000000000000000000000000000000000000000000000000000000000000000000000040e0000000000000000000000000000000000000100 a0 a0 := Keeps.refl _
  unfold linkReview
  repeat' first
    | with_reducible assumption
    | intro _
    | with_reducible apply Keeps.step (keeps_sessionEnds _ _ _)
    | with_reducible apply Keeps.foldl
    | with_reducible apply Keeps.foldlP
    | with_reducible decide

theorem keeps_setLink : ∀ a0 a1 a2 a3, Keeps 0x80700000000000000000000000000000000000000000000000000000000000000000000000000000000000000000000000000000040e0000000000000000000000000000000000000100 a3 (setLink a0 a1 a2 a3) := by
  intro a0 a1 a2 a3
  have h0 : Keeps 0x80700000000000000000000000000000000000000000000000000000000000000000000000000000000000000000000000000000040e0000000000000000000000000000000000000100 a3 a3 := Keeps.refl _
  unfold setLink
  repeat' first
    | with_reducible assumption
    | ((with_reducible refine NetField.upd_of ?_); intro i x hi; cases i <;> first | exact Keeps.no rfl hi | exact rfl | (split <;> rfl) | ((repeat' split) <;> rfl))
    | intro _
    | with_reducible apply Keeps.step (keeps_State_log _ _ _)
    | with_reducible refine Keeps.modNet ?_ ?_
    | with_reducible apply Keeps.step (keeps_linkReview _)
    | with_reducible apply Keeps.step (keeps_showNet _)
    | with_reducible apply Keeps.ite
    | with_reducible apply Keeps.iteP
    | with_reducible decide
    | split

theorem keeps_setBypass : ∀ a0 a1 a2, Keeps 0x180700000000000000000000000000000000000000000000000000000000000000000000000000000000000000000000000000000040e0000000000000000000000000000000000000100 a2 (setBypass a0 a1 a2) := by
  intro a0 a1 a2
  have h0 : Keeps 0x180700000000000000000000000000000000000000000000000000000000000000000000000000000000000000000000000000000040e0000000000000000000000000000000000000100 a2 a2 := Keeps.refl _
  unfold setBypass
  repeat' first
    | with_reducible assumption
    | ((with_reducible refine NetField.upd_of ?_); intro i x hi; cases i <;> first | exact Keeps.no rfl hi | exact rfl | (split <;> rfl) | ((repeat' split) <;> rfl))
    | intro _
    | (extract_lets +onlyGivenNames x; refine Keeps.cut x ?_ (fun hx => ?_); (revert x; show Keeps _ _ _); on_goal 2 => clear_value x)
    | (extract_lets +onlyGivenNames x; clear_value x)
    | with_reducible apply Keeps.step (keeps_State_log _ _ _)
    | with_reducible refine Keeps.modNet ?_ ?_
    | with_reducible apply Keeps.step (keeps_linkReview _)
    | with_reducible apply Keeps.step (keeps_showNet _)
    | with_reducible apply Keeps.ite
    | with_reducible apply Keeps.iteP
    | with_reducible decide
    | split

theorem keeps_endService : ∀ a0, Keeps 0x20000000000000000000000000000000000000000000000000000000000000000000000000000000000000000000000000000000080000000000000000000000000000000000000000 a0 (endService a0) := by
  intro a0
  have h0 : Keeps 0x20000000000000000000000000000000000000000000000000000000000000000000000000000000000000000000000000000000080000000000000000000000000000000000000000 a0 a0 := Keeps.refl _
  unfold endService
  repeat' first
    | with_reducible assumption
    | ((with_reducible refine NetField.upd_of ?_); intro i x hi; cases i <;> first | exact Keeps.no rfl hi | exact rfl | (split <;> rfl) | ((repeat' split) <;> rfl))
    | intro _
    | with_reducible refine Keeps.modNet ?_ ?_
    | with_reducible apply Keeps.step (keeps_showNet _)
    | with_reducible decide

theorem keeps_canGo : ∀ a0 a1 a2, Keeps 0x200000000000000000000000000000000000000000000000000000000000000000000000000000000000000000000000000000000080000000000000000000000000000000000000000 a2 (canGo a0 a1 a2) := by
  intro a0 a1 a2
  have h0 : Keeps 0x200000000000000000000000000000000000000000000000000000000000000000000000000000000000000000000000000000000080000000000000000000000000000000000000000 a2 a2 := Keeps.refl _
  unfold canGo
  repeat' first
    | with_reducible assumption
    | intro _
    | with_reducible apply Keeps.step (keeps_State_modCan _ _ _)
    | with_reducible apply Keeps.step (keeps_showNet _)
    | with_reducible apply Keeps.ite
    | with_reducible apply Keeps.iteP
    | with_reducible decide
    | split

theorem keeps_bootUp : ∀ a0 a1, Keeps 0x200000000000000000000000000000000000000000000000000000000000000000000000000000000000000000000000000000000080000000000000000000000000000000000000040 a1 (bootUp a0 a1) := by
  intro a0 a1
  have h0 : Keeps 0x200000000000000000000000000000000000000000000000000000000000000000000000000000000000000000000000000000000080000000000000000000000000000000000000040 a1 a1 := Keeps.refl _
  unfold bootUp
  repeat' first
    | with_reducible assumption
    | intro _
    | (extract_lets +onlyGivenNames x; refine Keeps.cut x ?_ (fun hx => ?_); (revert x; show Keeps _ _ _); on_goal 2 => clear_value x)
    | (extract_lets +onlyGivenNames x; clear_value x)
    | with_reducible apply Keeps.step (keeps_State_modCan _ _ _)
    | with_reducible apply Keeps.step (keeps_State_send _ _ _ _)
    | with_reducible apply Keeps.step (keeps_canGo _ _ _)
    | with_reducible apply Keeps.ite
    | with_reducible apply Keeps.iteP
    | with_reducible decide
    | split

theorem keeps_emcySend : ∀ a0 a1, Keeps 0x200000000000000000000000000000000000000000000000000000000000000000000000000000000000000000000000000000000000000000000000000000000000000000000000040 a0 (emcySend a0 a1) := by
  intro a0 a1
  have h0 : Keeps 0x200000000000000000000000000000000000000000000000000000000000000000000000000000000000000000000000000000000000000000000000000000000000000000000000040 a0 a0 := Keeps.refl _
  unfold emcySend
  repeat' first
    | with_reducible assumption
    | intro _
    | (extract_lets +onlyGivenNames x; clear_value x)
    | with_reducible apply Keeps.step (keeps_State_modCan _ _ _)
    | with_reducible apply Keeps.step (keeps_State_send _ _ _ _)
    | with_reducible apply Keeps.ite
    | with_reducible apply Keeps.iteP
    | with_reducible decide
    | with_reducible refine Keeps.of_eq (by assumption) ?_
    | split

theorem keeps_emcyRelease : ∀ a0, Keeps 0x200000000000000000000000000000000000000000000000000000000000000000000000000000000000000000000000000000000000000000000000000000000000000000000000040 a0 (emcyRelease a0) := by
  intro a0
  have h0 : Keeps 0x200000000000000000000000000000000000000000000000000000000000000000000000000000000000000000000000000000000000000000000000000000000000000000000000040 a0 a0 := Keeps.refl _
  unfold emcyRelease
  repeat' first
    | with_reducible assumption
    | intro _
    | with_reducible apply Keeps.step (keeps_emcySend _ _)
    | with_reducible apply Keeps.foldl
    | with_reducible apply Keeps.foldlP
    | with_reducible decide

theorem keeps_emcy (code cause stage : Nat) (s : State) : Keeps 0x200000000000000000000000000000000000000000000000000000000000000000000000000000000000000000000000000000000000000000000000000000000000006000000000040 s (emcy code cause stage s) := by
  unfold emcy
  refine Keeps.setN .CIA_ERROR_COUNT group_CIA_ERROR_COUNT (by decide) _ (Keeps.setN .CIA_ERROR_FIELD (group_CIA_ERROR_FIELD _ (by omega)) (by decide) _ ?_)
  refine Keeps.foldl_mem _ (fun t i hi h => ?_) (Keeps.step (keeps_emcyRelease _) (by decide)
    (Keeps.foldl _ (fun t c h => Keeps.ite (Keeps.step (keeps_State_modCan _ _ _) (by decide) h) h) (Keeps.refl _)))
  refine Keeps.setN .CIA_ERROR_FIELD (group_CIA_ERROR_FIELD _ ?_) (by decide) _ h
  rw [List.mem_reverse, List.mem_range] at hi
  omega

end Sys2Proof.Machine
end

