-- ==== Sys2Proof/Laws/KeepsFieldOps.lean ====
section
/-!
SUPPORT. What each operation of Machine/FieldOps.lean may change.
-/

set_option linter.unusedTactic false
set_option linter.tactic.unusedName false
set_option linter.unreachableTactic false

namespace Sys2Proof.Machine

theorem keeps_State_modDi : ∀ a0 a1 a2, Keeps 0x100000000000000000000000000000000000000000000000000000000000000000000000000000000000000000000000000000000000000000000000000000000000000 a0 (State.modDi a0 a1 a2) := by
  intro a0 a1 a2
  have h0 : Keeps 0x100000000000000000000000000000000000000000000000000000000000000000000000000000000000000000000000000000000000000000000000000000000000000 a0 a0 := Keeps.refl _
  unfold State.modDi
  repeat' first
    | with_reducible assumption
    | ((with_reducible refine FioField.upd_of ?_); intro i x hi; cases i <;> first | exact Keeps.no rfl hi | exact rfl | (split <;> rfl) | ((repeat' split) <;> rfl))
    | intro _
    | with_reducible refine Keeps.modFio ?_ ?_
    | with_reducible decide

theorem keeps_State_modDo : ∀ a0 a1 a2, Keeps 0x200000000000000000000000000000000000000000000000000000000000000000000000000000000000000000000000000000000000000000000000000000000000000 a0 (State.modDo a0 a1 a2) := by
  intro a0 a1 a2
  have h0 : Keeps 0x200000000000000000000000000000000000000000000000000000000000000000000000000000000000000000000000000000000000000000000000000000000000000 a0 a0 := Keeps.refl _
  unfold State.modDo
  repeat' first
    | with_reducible assumption
    | ((with_reducible refine FioField.upd_of ?_); intro i x hi; cases i <;> first | exact Keeps.no rfl hi | exact rfl | (split <;> rfl) | ((repeat' split) <;> rfl))
    | intro _
    | with_reducible refine Keeps.modFio ?_ ?_
    | with_reducible decide

theorem keeps_State_modCd : ∀ a0 a1 a2, Keeps 0x400000000000000000000000000000000000000000000000000000000000000000000000000000000000000000000000000000000000000000000000000000000000000 a0 (State.modCd a0 a1 a2) := by
  intro a0 a1 a2
  have h0 : Keeps 0x400000000000000000000000000000000000000000000000000000000000000000000000000000000000000000000000000000000000000000000000000000000000000 a0 a0 := Keeps.refl _
  unfold State.modCd
  repeat' first
    | with_reducible assumption
    | ((with_reducible refine FioField.upd_of ?_); intro i x hi; cases i <;> first | exact Keeps.no rfl hi | exact rfl | (split <;> rfl) | ((repeat' split) <;> rfl))
    | intro _
    | with_reducible refine Keeps.modFio ?_ ?_
    | with_reducible decide

theorem keeps_State_modSoc : ∀ a0 a1 a2, Keeps 0x80000000000000000000000000000000000000000000000000000000000000000000000000000000000000000000000000000000000000000000000000000000000 a0 (State.modSoc a0 a1 a2) := by
  intro a0 a1 a2
  have h0 : Keeps 0x80000000000000000000000000000000000000000000000000000000000000000000000000000000000000000000000000000000000000000000000000000000000 a0 a0 := Keeps.refl _
  unfold State.modSoc
  repeat' first
    | with_reducible assumption
    | ((with_reducible refine SafField.upd_of ?_); intro i x hi; cases i <;> first | exact Keeps.no rfl hi | exact rfl | (split <;> rfl) | ((repeat' split) <;> rfl))
    | intro _
    | with_reducible refine Keeps.modSaf ?_ ?_
    | with_reducible decide

theorem keeps_State_modSsd : ∀ a0 a1 a2, Keeps 0x100000000000000000000000000000000000000000000000000000000000000000000000000000000000000000000000000000000000000000000000000000000000 a0 (State.modSsd a0 a1 a2) := by
  intro a0 a1 a2
  have h0 : Keeps 0x100000000000000000000000000000000000000000000000000000000000000000000000000000000000000000000000000000000000000000000000000000000000 a0 a0 := Keeps.refl _
  unfold State.modSsd
  repeat' first
    | with_reducible assumption
    | ((with_reducible refine SafField.upd_of ?_); intro i x hi; cases i <;> first | exact Keeps.no rfl hi | exact rfl | (split <;> rfl) | ((repeat' split) <;> rfl))
    | intro _
    | with_reducible refine Keeps.modSaf ?_ ?_
    | with_reducible decide

theorem keeps_State_modConn : ∀ a0 a1 a2, Keeps 0x200000000000000000000000000000000000000000000000000000000000000000000000000000000000000000000000000000000000000000000000000000000000 a0 (State.modConn a0 a1 a2) := by
  intro a0 a1 a2
  have h0 : Keeps 0x200000000000000000000000000000000000000000000000000000000000000000000000000000000000000000000000000000000000000000000000000000000000 a0 a0 := Keeps.refl _
  unfold State.modConn
  repeat' first
    | with_reducible assumption
    | ((with_reducible refine SafField.upd_of ?_); intro i x hi; cases i <;> first | exact Keeps.no rfl hi | exact rfl | (split <;> rfl) | ((repeat' split) <;> rfl))
    | intro _
    | with_reducible refine Keeps.modSaf ?_ ?_
    | with_reducible decide

theorem keeps_showOut : ∀ a0 a1, Keeps 0x100000000000000000000 a1 (showOut a0 a1) := by
  intro a0 a1
  have h0 : Keeps 0x100000000000000000000 a1 a1 := Keeps.refl _
  unfold showOut
  repeat' first
    | with_reducible assumption
    | intro _
    | (extract_lets +onlyGivenNames x; clear_value x)
    | with_reducible apply Keeps.setBit .FIO_DO_STATUS (group_FIO_DO_STATUS _)
    | with_reducible decide

theorem keeps_showDrv : ∀ a0 a1, Keeps 0x400000000000000000000000000000000000000000000000000000000000000000000000000000000000000000000000000000000000000000010000000000000000000 a1 (showDrv a0 a1) := by
  intro a0 a1
  have h0 : Keeps 0x400000000000000000000000000000000000000000000000000000000000000000000000000000000000000000000000000000000000000000010000000000000000000 a1 a1 := Keeps.refl _
  unfold showDrv
  repeat' first
    | with_reducible assumption
    | intro _
    | (extract_lets +onlyGivenNames x; refine Keeps.cut x ?_ (fun hx => ?_); (revert x; show Keeps _ _ _); on_goal 2 => clear_value x)
    | (extract_lets +onlyGivenNames x; clear_value x)
    | with_reducible apply Keeps.step (keeps_State_modCd _ _ _)
    | with_reducible apply Keeps.setBit .FIO_CD_STATUS (group_FIO_CD_STATUS _)
    | with_reducible decide
    | with_reducible refine Keeps.of_eq (by assumption) ?_
    | split

theorem keeps_showField : ∀ a0, Keeps 0x400000000000000000000000000000000000000000000000000000000000000000000000000000000000000000000000000000000000000000910000000000000000000 a0 (showField a0) := by
  intro a0
  have h0 : Keeps 0x400000000000000000000000000000000000000000000000000000000000000000000000000000000000000000000000000000000000000000910000000000000000000 a0 a0 := Keeps.refl _
  unfold showField
  repeat' first
    | with_reducible assumption
    | intro _
    | (extract_lets +onlyGivenNames x; refine Keeps.cut x ?_ (fun hx => ?_); (revert x; show Keeps _ _ _); on_goal 2 => clear_value x)
    | (extract_lets +onlyGivenNames x; clear_value x)
    | with_reducible apply Keeps.setBit .FIO_STATUS group_FIO_STATUS
    | with_reducible apply Keeps.step (keeps_showDrv _ _)
    | with_reducible apply Keeps.step (keeps_showOut _ _)
    | with_reducible apply Keeps.foldl
    | with_reducible apply Keeps.foldlP
    | with_reducible decide

theorem keeps_noteLateness : ∀ a0 a1, Keeps 0x4000000000000000000000400000000000000000100 a1 (noteLateness a0 a1) := by
  intro a0 a1
  have h0 : Keeps 0x4000000000000000000000400000000000000000100 a1 a1 := Keeps.refl _
  unfold noteLateness
  repeat' first
    | with_reducible assumption
    | intro _
    | (extract_lets +onlyGivenNames x; refine Keeps.cut x ?_ (fun hx => ?_); (revert x; show Keeps _ _ _); on_goal 2 => clear_value x)
    | (extract_lets +onlyGivenNames x; clear_value x)
    | with_reducible apply Keeps.step (keeps_State_logOnce _ _ _ _)
    | with_reducible apply Keeps.setN .FIO_MAX_LATENESS group_FIO_MAX_LATENESS
    | with_reducible apply Keeps.ite
    | with_reducible apply Keeps.iteP
    | with_reducible decide
    | split

theorem keeps_fieldOut : ∀ a0 a1 a2 a3, Keeps 0x200000000000000000000000000000000000000000000000000000000000000000000000000000000000000000004000000000000000000000500000000000000000100 a3 (fieldOut a0 a1 a2 a3) := by
  intro a0 a1 a2 a3
  have h0 : Keeps 0x200000000000000000000000000000000000000000000000000000000000000000000000000000000000000000004000000000000000000000500000000000000000100 a3 a3 := Keeps.refl _
  unfold fieldOut
  repeat' first
    | with_reducible assumption
    | intro _
    | with_reducible apply Keeps.step (keeps_State_modDo _ _ _)
    | with_reducible apply Keeps.step (keeps_noteLateness _ _)
    | with_reducible apply Keeps.step (keeps_showOut _ _)
    | with_reducible apply Keeps.ite
    | with_reducible apply Keeps.iteP
    | with_reducible decide
    | split

theorem keeps_driverOut : ∀ a0 a1 a2 a3, Keeps 0x400000000000000000000000000000000000000000000000000000000000000000000000000000000000000000004000000000000000000000418000000000000000100 a3 (driverOut a0 a1 a2 a3) := by
  intro a0 a1 a2 a3
  have h0 : Keeps 0x400000000000000000000000000000000000000000000000000000000000000000000000000000000000000000004000000000000000000000418000000000000000100 a3 a3 := Keeps.refl _
  unfold driverOut
  repeat' first
    | with_reducible assumption
    | intro _
    | with_reducible apply Keeps.bump .FIO_CD_IGNORED (group_FIO_CD_IGNORED _)
    | with_reducible apply Keeps.step (keeps_State_logOnce _ _ _ _)
    | with_reducible apply Keeps.step (keeps_State_modCd _ _ _)
    | with_reducible apply Keeps.step (keeps_noteLateness _ _)
    | with_reducible apply Keeps.step (keeps_showDrv _ _)
    | with_reducible apply Keeps.ite
    | with_reducible apply Keeps.iteP
    | with_reducible decide
    | split

theorem keeps_showDi : ∀ a0 a1, Keeps 0x40000000000000000000 a1 (showDi a0 a1) := by
  intro a0 a1
  have h0 : Keeps 0x40000000000000000000 a1 a1 := Keeps.refl _
  unfold showDi
  repeat' first
    | with_reducible assumption
    | intro _
    | (extract_lets +onlyGivenNames x; clear_value x)
    | with_reducible apply Keeps.setField .FIO_DI_STATUS (group_FIO_DI_STATUS _)
    | with_reducible decide

end Sys2Proof.Machine
end

