-- ==== Sys2Proof/Laws/KeepsSocOps.lean ====
section
/-!
SUPPORT. What each operation of Machine/SocOps.lean may change.
-/

set_option linter.unusedTactic false
set_option linter.tactic.unusedName false
set_option linter.unreachableTactic false

namespace Sys2Proof.Machine

theorem keeps_showSoc : ∀ a0 a1, Keeps 0x400000000000000000000000000000000000000000000000000000000000000000000000000000000000014000000000000000000000000000010000000000000000000 a1 (showSoc a0 a1) := by
  intro a0 a1
  have h0 : Keeps 0x400000000000000000000000000000000000000000000000000000000000000000000000000000000000014000000000000000000000000000010000000000000000000 a1 a1 := Keeps.refl _
  unfold showSoc
  repeat' first
    | with_reducible assumption
    | intro _
    | (extract_lets +onlyGivenNames x; refine Keeps.cut x ?_ (fun hx => ?_); (revert x; show Keeps _ _ _); on_goal 2 => clear_value x)
    | (extract_lets +onlyGivenNames x; clear_value x)
    | with_reducible apply Keeps.setBit .SAF_STATUS group_SAF_STATUS
    | with_reducible apply Keeps.setBit .SAF_SOC_STATUS (group_SAF_SOC_STATUS _)
    | with_reducible apply Keeps.step (keeps_showDrv _ _)
    | with_reducible decide

theorem keeps_clearWish : ∀ a0 a1, Keeps 0x80000000000000000000000000000000000000000000000000000000000000000000000000000000000000000000000000000000000000000000000000000000000 a1 (clearWish a0 a1) := by
  intro a0 a1
  have h0 : Keeps 0x80000000000000000000000000000000000000000000000000000000000000000000000000000000000000000000000000000000000000000000000000000000000 a1 a1 := Keeps.refl _
  unfold clearWish
  repeat' first
    | with_reducible assumption
    | intro _
    | with_reducible apply Keeps.step (keeps_State_modSoc _ _ _)
    | with_reducible decide

theorem keeps_socClose : ∀ a0 a1, Keeps 0x400080000000000000000000000000000000000000000000000000000000000000000000000000000000015000004000000000000000000000010000000000000000100 a1 (socClose a0 a1) := by
  intro a0 a1
  have h0 : Keeps 0x400080000000000000000000000000000000000000000000000000000000000000000000000000000000015000004000000000000000000000010000000000000000100 a1 a1 := Keeps.refl _
  unfold socClose
  repeat' first
    | with_reducible assumption
    | intro _
    | (extract_lets +onlyGivenNames x; refine Keeps.cut x ?_ (fun hx => ?_); (revert x; show Keeps _ _ _); on_goal 2 => clear_value x)
    | (extract_lets +onlyGivenNames x; clear_value x)
    | with_reducible apply Keeps.bump .SAF_SOC_OPERATIONS (group_SAF_SOC_OPERATIONS _)
    | with_reducible apply Keeps.step (keeps_State_log _ _ _)
    | with_reducible apply Keeps.step (keeps_State_modSoc _ _ _)
    | with_reducible apply Keeps.step (keeps_showSoc _ _)
    | with_reducible apply Keeps.ite
    | with_reducible apply Keeps.iteP
    | with_reducible decide
    | with_reducible refine Keeps.of_eq (by assumption) ?_
    | split

theorem keeps_socOpen : ∀ a0 a1, Keeps 0x400080000000000000000000000000000000000000000000000000000000000000000000000000000000014000000000000000000000000000010000000000000000000 a1 (socOpen a0 a1) := by
  intro a0 a1
  have h0 : Keeps 0x400080000000000000000000000000000000000000000000000000000000000000000000000000000000014000000000000000000000000000010000000000000000000 a1 a1 := Keeps.refl _
  unfold socOpen
  repeat' first
    | with_reducible assumption
    | intro _
    | with_reducible apply Keeps.step (keeps_State_modSoc _ _ _)
    | with_reducible apply Keeps.step (keeps_showSoc _ _)
    | with_reducible apply Keeps.ite
    | with_reducible apply Keeps.iteP
    | with_reducible decide
    | split

theorem keeps_socOpenNow : ∀ a0 a1, Keeps 0x400080000000000000000000000000000000000000000000000000000000000000000000000000000000014000000000000000000000000000010000000000000000000 a1 (socOpenNow a0 a1) := by
  intro a0 a1
  have h0 : Keeps 0x400080000000000000000000000000000000000000000000000000000000000000000000000000000000014000000000000000000000000000010000000000000000000 a1 a1 := Keeps.refl _
  unfold socOpenNow
  repeat' first
    | with_reducible assumption
    | intro _
    | with_reducible apply Keeps.step (keeps_State_modSoc _ _ _)
    | with_reducible apply Keeps.step (keeps_socOpen _ _)
    | with_reducible decide

theorem keeps_socCloseStage : ∀ a0 a1, Keeps 0x400080000000000000000000000000000000000000000000000000000000000000000000000000000000015000004000000000000000000000010000000000000000100 a1 (socCloseStage a0 a1) := by
  intro a0 a1
  have h0 : Keeps 0x400080000000000000000000000000000000000000000000000000000000000000000000000000000000015000004000000000000000000000010000000000000000100 a1 a1 := Keeps.refl _
  unfold socCloseStage
  repeat' first
    | with_reducible assumption
    | intro _
    | with_reducible apply Keeps.step (keeps_socClose _ _)
    | with_reducible decide
    | with_reducible refine Keeps.of_eq (by assumption) ?_
    | split

theorem keeps_socOpenStage : ∀ a0 a1, Keeps 0x400080000000000000000000000000000000000000000000000000000000000000000000000000000000014000000000000000000000000000010000000000000000000 a1 (socOpenStage a0 a1) := by
  intro a0 a1
  have h0 : Keeps 0x400080000000000000000000000000000000000000000000000000000000000000000000000000000000014000000000000000000000000000010000000000000000000 a1 a1 := Keeps.refl _
  unfold socOpenStage
  repeat' first
    | with_reducible assumption
    | intro _
    | with_reducible apply Keeps.step (keeps_socOpen _ _)
    | with_reducible decide
    | with_reducible refine Keeps.of_eq (by assumption) ?_
    | split

theorem keeps_socCloseTie : ∀ a0, Keeps 0x400080000000000000000000000000000000000000000000000000000000000000000000000000000000015000004000000000000000000000010000000000000000100 a0 (socCloseTie a0) := by
  intro a0
  have h0 : Keeps 0x400080000000000000000000000000000000000000000000000000000000000000000000000000000000015000004000000000000000000000010000000000000000100 a0 a0 := Keeps.refl _
  unfold socCloseTie
  repeat' first
    | with_reducible assumption
    | intro _
    | with_reducible apply Keeps.step (keeps_socClose _ _)
    | with_reducible decide
    | with_reducible refine Keeps.of_eq (by assumption) ?_
    | split

theorem keeps_socOpenTie : ∀ a0, Keeps 0x400080000000000000000000000000000000000000000000000000000000000000000000000000000000014000000000000000000000000000010000000000000000000 a0 (socOpenTie a0) := by
  intro a0
  have h0 : Keeps 0x400080000000000000000000000000000000000000000000000000000000000000000000000000000000014000000000000000000000000000010000000000000000000 a0 a0 := Keeps.refl _
  unfold socOpenTie
  repeat' first
    | with_reducible assumption
    | intro _
    | with_reducible apply Keeps.step (keeps_socOpen _ _)
    | with_reducible decide
    | with_reducible refine Keeps.of_eq (by assumption) ?_
    | split

theorem keeps_ssdEnd : ∀ a0 a1, Keeps 0x100000000000000000000000000000000000000000000000000000000000000000000000000000000010000000000000000000000000000000000000000000000000 a1 (ssdEnd a0 a1) := by
  intro a0 a1
  have h0 : Keeps 0x100000000000000000000000000000000000000000000000000000000000000000000000000000000010000000000000000000000000000000000000000000000000 a1 a1 := Keeps.refl _
  unfold ssdEnd
  repeat' first
    | with_reducible assumption
    | intro _
    | with_reducible apply Keeps.step (keeps_State_modSsd _ _ _)
    | with_reducible apply Keeps.setBit .SAF_STATUS group_SAF_STATUS
    | with_reducible decide

end Sys2Proof.Machine
end

