-- ==== Sys2Proof/Laws/KeepsAcqOps.lean ====
section
/-!
SUPPORT. What each operation of Machine/AcqOps.lean may change.
-/

set_option linter.unusedTactic false
set_option linter.tactic.unusedName false
set_option linter.unreachableTactic false

namespace Sys2Proof.Machine

theorem keeps_State_modAdc : ∀ a0 a1 a2, Keeps 0x2000000000000000000000000000000000000000000000000000000000000000000000000000000000000000000000000000000000000000000 a0 (State.modAdc a0 a1 a2) := by
  intro a0 a1 a2
  have h0 : Keeps 0x2000000000000000000000000000000000000000000000000000000000000000000000000000000000000000000000000000000000000000000 a0 a0 := Keeps.refl _
  unfold State.modAdc
  repeat' first
    | with_reducible assumption
    | ((with_reducible refine AcqField.upd_of ?_); intro i x hi; cases i <;> first | exact Keeps.no rfl hi | exact rfl | (split <;> rfl) | ((repeat' split) <;> rfl))
    | intro _
    | with_reducible refine Keeps.modAcq ?_ ?_
    | with_reducible decide

theorem keeps_State_modChain : ∀ a0 a1 a2, Keeps 0x4000000000000000000000000000000000000000000000000000000000000000000000000000000000000000000000000000000000000000000 a0 (State.modChain a0 a1 a2) := by
  intro a0 a1 a2
  have h0 : Keeps 0x4000000000000000000000000000000000000000000000000000000000000000000000000000000000000000000000000000000000000000000 a0 a0 := Keeps.refl _
  unfold State.modChain
  repeat' first
    | with_reducible assumption
    | ((with_reducible refine AcqField.upd_of ?_); intro i x hi; cases i <;> first | exact Keeps.no rfl hi | exact rfl | (split <;> rfl) | ((repeat' split) <;> rfl))
    | intro _
    | with_reducible refine Keeps.modAcq ?_ ?_
    | with_reducible decide

theorem keeps_startConv : ∀ a0 a1 a2 a3, Keeps 0x2000000000000000000000000000000000000000000000000000000000000000000000004000000000000000000000000000000400000000100 a2 (startConv a0 a1 a2 a3) := by
  intro a0 a1 a2 a3
  have h0 : Keeps 0x2000000000000000000000000000000000000000000000000000000000000000000000004000000000000000000000000000000400000000100 a2 a2 := Keeps.refl _
  unfold startConv
  repeat' first
    | with_reducible assumption
    | intro _
    | (extract_lets +onlyGivenNames x; clear_value x)
    | with_reducible apply Keeps.bump .ACQ_START_OVERLAP (group_ACQ_START_OVERLAP _)
    | with_reducible apply Keeps.step (keeps_State_logOnce _ _ _ _)
    | with_reducible apply Keeps.step (keeps_State_modAdc _ _ _)
    | with_reducible decide
    | with_reducible refine Keeps.of_eq (by assumption) ?_
    | split

theorem keeps_triggerEvent : ∀ a0 a1 a2 a3, Keeps 0x2000000000000000000000000000000000000000000000000000000000000000000000004000000000000000000000000000000400000000100 a3 (triggerEvent a0 a1 a2 a3) := by
  intro a0 a1 a2 a3
  have h0 : Keeps 0x2000000000000000000000000000000000000000000000000000000000000000000000004000000000000000000000000000000400000000100 a3 a3 := Keeps.refl _
  unfold triggerEvent
  repeat' first
    | with_reducible assumption
    | intro _
    | with_reducible apply Keeps.step (keeps_startConv _ _ _ _)
    | with_reducible apply Keeps.foldl
    | with_reducible apply Keeps.foldlP
    | with_reducible apply Keeps.ite
    | with_reducible apply Keeps.iteP
    | with_reducible decide
    | split

theorem keeps_showChain : ∀ a0 a1, Keeps 0x7c000000000 a1 (showChain a0 a1) := by
  intro a0 a1
  have h0 : Keeps 0x7c000000000 a1 a1 := Keeps.refl _
  unfold showChain
  repeat' first
    | with_reducible assumption
    | intro _
    | (extract_lets +onlyGivenNames x; refine Keeps.cut x ?_ (fun hx => ?_); (revert x; show Keeps _ _ _); on_goal 2 => clear_value x)
    | (extract_lets +onlyGivenNames x; clear_value x)
    | with_reducible apply Keeps.setBit .ACQ_FC_STATUS (group_ACQ_FC_STATUS _)
    | with_reducible apply Keeps.setN .ACQ_FC_DELAY (group_ACQ_FC_DELAY _)
    | with_reducible apply Keeps.setN .ACQ_FC_LATENCY (group_ACQ_FC_LATENCY _)
    | with_reducible apply Keeps.setN .ACQ_FC_UNSETTLED (group_ACQ_FC_UNSETTLED _)
    | with_reducible apply Keeps.setR .ACQ_FC_RATE (group_ACQ_FC_RATE _)
    | with_reducible apply Keeps.ite
    | with_reducible apply Keeps.iteP
    | with_reducible decide
    | split

theorem keeps_chainStep : ∀ a0 a1, Keeps 0x4000000000000000000000000000000000000000000000000000000000000000000000000000000000000000000000000000000020000000000 a1 (chainStep a0 a1) := by
  intro a0 a1
  have h0 : Keeps 0x4000000000000000000000000000000000000000000000000000000000000000000000000000000000000000000000000000000020000000000 a1 a1 := Keeps.refl _
  unfold chainStep
  repeat' first
    | with_reducible assumption
    | intro _
    | (extract_lets +onlyGivenNames x; refine Keeps.cut x ?_ (fun hx => ?_); (revert x; show Keeps _ _ _); on_goal 2 => clear_value x)
    | (extract_lets +onlyGivenNames x; clear_value x)
    | with_reducible apply Keeps.step (keeps_State_modChain _ _ _)
    | with_reducible apply Keeps.setBit .ACQ_FC_STATUS (group_ACQ_FC_STATUS _)
    | with_reducible apply Keeps.ite
    | with_reducible apply Keeps.iteP
    | with_reducible decide
    | split

theorem keeps_feedChains : ∀ a0 a1 a2, Keeps 0x4000000000000000000000000000000000000000000000000000000000000000000000000000000000000000000000000000000000000000000 a2 (feedChains a0 a1 a2) := by
  intro a0 a1 a2
  have h0 : Keeps 0x4000000000000000000000000000000000000000000000000000000000000000000000000000000000000000000000000000000000000000000 a2 a2 := Keeps.refl _
  unfold feedChains
  repeat' first
    | with_reducible assumption
    | intro _
    | with_reducible apply Keeps.step (keeps_State_modChain _ _ _)
    | with_reducible apply Keeps.foldl
    | with_reducible apply Keeps.foldlP
    | with_reducible apply Keeps.ite
    | with_reducible apply Keeps.iteP
    | with_reducible decide
    | split

theorem keeps_stepReaders : ∀ a0 a1, Keeps 0x4000000000000000000000000000000000000000000000000000000000000000000000000000000000000000000000000000000020000000000 a1 (stepReaders a0 a1) := by
  intro a0 a1
  have h0 : Keeps 0x4000000000000000000000000000000000000000000000000000000000000000000000000000000000000000000000000000000020000000000 a1 a1 := Keeps.refl _
  unfold stepReaders
  repeat' first
    | with_reducible assumption
    | intro _
    | with_reducible apply Keeps.step (keeps_chainStep _ _)
    | with_reducible apply Keeps.foldl
    | with_reducible apply Keeps.foldlP
    | with_reducible apply Keeps.ite
    | with_reducible apply Keeps.iteP
    | with_reducible decide
    | split

theorem keeps_substitute : ∀ a0 a1 a2, Keeps 0x2000000000000000000000000000000000000000000000000000000000000000000000000000000000000000000000000000000000000000000 a2 (substitute a0 a1 a2) := by
  intro a0 a1 a2
  have h0 : Keeps 0x2000000000000000000000000000000000000000000000000000000000000000000000000000000000000000000000000000000000000000000 a2 a2 := Keeps.refl _
  unfold substitute
  repeat' first
    | with_reducible assumption
    | intro _
    | with_reducible apply Keeps.step (keeps_State_modAdc _ _ _)
    | with_reducible apply Keeps.ite
    | with_reducible apply Keeps.iteP
    | with_reducible decide
    | split

end Sys2Proof.Machine
end

