-- ==== Sys2Proof/Laws/KeepsGalleryOps.lean ====
section
/-!
SUPPORT. What each operation of Machine/GalleryOps.lean may change.
-/

set_option linter.unusedTactic false
set_option linter.tactic.unusedName false
set_option linter.unreachableTactic false

namespace Sys2Proof.Machine

theorem keeps_galFlag : ∀ a0 a1 a2, Keeps 0x4000000000000000000000000000000000000000000000000000000000000000000000000000000000000000000000000000000000000000000000 a2 (galFlag a0 a1 a2) := by
  intro a0 a1 a2
  have h0 : Keeps 0x4000000000000000000000000000000000000000000000000000000000000000000000000000000000000000000000000000000000000000000000 a2 a2 := Keeps.refl _
  unfold galFlag
  repeat' first
    | with_reducible assumption
    | ((with_reducible refine GalField.upd_of ?_); intro i x hi; cases i <;> first | exact Keeps.no rfl hi | exact rfl | (split <;> rfl) | ((repeat' split) <;> rfl))
    | intro _
    | with_reducible refine Keeps.modGal ?_ ?_
    | with_reducible decide

theorem keeps_galSense : ∀ a0 a1, Keeps 0x4000000000000000000000000000000000000000000000000000000000000000000000000000000000000000000000000000000000000000000000 a1 (galSense a0 a1) := by
  intro a0 a1
  have h0 : Keeps 0x4000000000000000000000000000000000000000000000000000000000000000000000000000000000000000000000000000000000000000000000 a1 a1 := Keeps.refl _
  unfold galSense
  repeat' first
    | with_reducible assumption
    | ((with_reducible refine GalField.upd_of ?_); intro i x hi; cases i <;> first | exact Keeps.no rfl hi | exact rfl | (split <;> rfl) | ((repeat' split) <;> rfl))
    | intro _
    | (extract_lets +onlyGivenNames x; clear_value x)
    | with_reducible refine Keeps.modGal ?_ ?_
    | with_reducible decide

theorem keeps_showGallery : ∀ a0 a1, Keeps 0x181000000000000000000000000 a1 (showGallery a0 a1) := by
  intro a0 a1
  have h0 : Keeps 0x181000000000000000000000000 a1 a1 := Keeps.refl _
  unfold showGallery
  repeat' first
    | with_reducible assumption
    | intro _
    | (extract_lets +onlyGivenNames x; refine Keeps.cut x ?_ (fun hx => ?_); (revert x; show Keeps _ _ _); on_goal 2 => clear_value x)
    | (extract_lets +onlyGivenNames x; clear_value x)
    | with_reducible apply Keeps.setField .GAL_STATUS (group_GAL_STATUS _)
    | with_reducible apply Keeps.setN .GAL_DEPTH (group_GAL_DEPTH _)
    | with_reducible apply Keeps.setR .GAL_WIRE_RATE (group_GAL_WIRE_RATE _)
    | with_reducible apply Keeps.ite
    | with_reducible apply Keeps.iteP
    | with_reducible decide
    | split

theorem keeps_sendDatagram : ∀ a0 a1, Keeps 0x740000000000000000000000000000000000000000000000000000000000000000000000000000000000000000000080800000000000000000000040 a1 (sendDatagram a0 a1) := by
  intro a0 a1
  have h0 : Keeps 0x740000000000000000000000000000000000000000000000000000000000000000000000000000000000000000000080800000000000000000000040 a1 a1 := Keeps.refl _
  unfold sendDatagram
  repeat' first
    | with_reducible assumption
    | ((with_reducible refine GalField.upd_of ?_); intro i x hi; cases i <;> first | exact Keeps.no rfl hi | exact rfl | (split <;> rfl) | ((repeat' split) <;> rfl))
    | intro _
    | (extract_lets +onlyGivenNames x; refine Keeps.cut x ?_ (fun hx => ?_); (revert x; show Keeps _ _ _); on_goal 2 => clear_value x)
    | (extract_lets +onlyGivenNames x; clear_value x)
    | with_reducible apply Keeps.bump .GAL_DATAGRAMS (group_GAL_DATAGRAMS _)
    | with_reducible refine Keeps.modGal ?_ ?_
    | with_reducible apply Keeps.step (keeps_State_send _ _ _ _)
    | with_reducible apply Keeps.setBit .GAL_STATUS (group_GAL_STATUS _)
    | with_reducible apply Keeps.ite
    | with_reducible apply Keeps.iteP
    | with_reducible decide
    | with_reducible refine Keeps.of_eq (by assumption) ?_
    | split

theorem keeps_countDropped : ∀ a0 a1 a2, Keeps 0x200000000000000000000000000000000000000000000000000000000000000000000000000004000000000000000082000000000000000000000100 a2 (countDropped a0 a1 a2) := by
  intro a0 a1 a2
  have h0 : Keeps 0x200000000000000000000000000000000000000000000000000000000000000000000000000004000000000000000082000000000000000000000100 a2 a2 := Keeps.refl _
  unfold countDropped
  repeat' first
    | with_reducible assumption
    | ((with_reducible refine GalField.upd_of ?_); intro i x hi; cases i <;> first | exact Keeps.no rfl hi | exact rfl | (split <;> rfl) | ((repeat' split) <;> rfl))
    | intro _
    | (extract_lets +onlyGivenNames x; refine Keeps.cut x ?_ (fun hx => ?_); (revert x; show Keeps _ _ _); on_goal 2 => clear_value x)
    | (extract_lets +onlyGivenNames x; clear_value x)
    | with_reducible apply Keeps.step (keeps_State_logOnce _ _ _ _)
    | with_reducible refine Keeps.modGal ?_ ?_
    | with_reducible apply Keeps.setBit .GAL_STATUS (group_GAL_STATUS _)
    | with_reducible apply Keeps.setN .GAL_DROPPED (group_GAL_DROPPED _)
    | with_reducible apply Keeps.ite
    | with_reducible apply Keeps.iteP
    | with_reducible decide
    | split

theorem keeps_closeDatagram : ∀ a0 a1, Keeps 0x740000000000000000000000000000000000000000000000000000000000000000000000000004000000000000000082800000000000000000000140 a1 (closeDatagram a0 a1) := by
  intro a0 a1
  have h0 : Keeps 0x740000000000000000000000000000000000000000000000000000000000000000000000000004000000000000000082800000000000000000000140 a1 a1 := Keeps.refl _
  unfold closeDatagram
  repeat' first
    | with_reducible assumption
    | ((with_reducible refine GalField.upd_of ?_); intro i x hi; cases i <;> first | exact Keeps.no rfl hi | exact rfl | (split <;> rfl) | ((repeat' split) <;> rfl))
    | intro _
    | (extract_lets +onlyGivenNames x; refine Keeps.cut x ?_ (fun hx => ?_); (revert x; show Keeps _ _ _); on_goal 2 => clear_value x)
    | (extract_lets +onlyGivenNames x; clear_value x)
    | with_reducible refine Keeps.modGal ?_ ?_
    | with_reducible apply Keeps.step (keeps_countDropped _ _ _)
    | with_reducible apply Keeps.step (keeps_sendDatagram _ _)
    | with_reducible decide

theorem keeps_streamRecord : ∀ a0 a1 a2, Keeps 0x7c0000000000000000000000000000000000000000000000000000000000000000000000000004000000000000000082800000000000000000000140 a2 (streamRecord a0 a1 a2) := by
  intro a0 a1 a2
  have h0 : Keeps 0x7c0000000000000000000000000000000000000000000000000000000000000000000000000004000000000000000082800000000000000000000140 a2 a2 := Keeps.refl _
  unfold streamRecord
  repeat' first
    | with_reducible assumption
    | ((with_reducible refine GalField.upd_of ?_); intro i x hi; cases i <;> first | exact Keeps.no rfl hi | exact rfl | (split <;> rfl) | ((repeat' split) <;> rfl))
    | intro _
    | (extract_lets +onlyGivenNames x; refine Keeps.cut x ?_ (fun hx => ?_); (revert x; show Keeps _ _ _); on_goal 2 => clear_value x)
    | (extract_lets +onlyGivenNames x; clear_value x)
    | with_reducible refine Keeps.modGal ?_ ?_
    | with_reducible apply Keeps.step (keeps_countDropped _ _ _)
    | with_reducible apply Keeps.step (keeps_sendDatagram _ _)
    | with_reducible apply Keeps.ite
    | with_reducible apply Keeps.iteP
    | with_reducible decide
    | split

theorem keeps_nodeValues : ∀ (p : StageId) (l : List Nat) (s : State), Keeps 0x80 s (nodeValues p l s).2 := by
  intro p l
  induction l with
  | nil => exact fun s => Keeps.refl s
  | cons j l ih =>
    intro s
    unfold nodeValues
    dsimp only
    refine Keeps.trans ?_ (ih _)
    split
    · exact keeps_State_draw s
    · exact Keeps.refl s

theorem keeps_takeGalWrites (p : StageId) (s : State) : Keeps 0x7414000000000000000000000000000000000000000000000000000000000000000000000000040000000000000001ffc00000000000000008000144 s (takeGalWrites p s) := by
  unfold takeGalWrites
  extract_lets mine ws nodes s1 s2 s3
  have h1 : Keeps 0x7414000000000000000000000000000000000000000000000000000000000000000000000000040000000000000001ffc00000000000000008000144 s s1 := Keeps.upd_commitWrites (Keeps.refl s) (by decide) _
  have h2 : Keeps 0x7414000000000000000000000000000000000000000000000000000000000000000000000000040000000000000001ffc00000000000000008000144 s s2 := by
    show Keeps 0x7414000000000000000000000000000000000000000000000000000000000000000000000000040000000000000001ffc00000000000000008000144 s (if nodes = true then _ else _)
    split
    · exact Keeps.step (keeps_closeDatagram _ _) (by decide) h1
    · exact h1
  have h3 : Keeps 0x7414000000000000000000000000000000000000000000000000000000000000000000000000040000000000000001ffc00000000000000008000144 s s3 := by
    refine Keeps.applyDue _ _ (fun w hw => ?_) h2
    have e : 0x5000 + 0x40 * p.val ≤ w.1 / 256 ∧ w.1 / 256 < 0x5040 + 0x40 * p.val := by simpa [mine] using (List.mem_filter.1 hw).2
    exact group_page_gal (by decide) (by omega) (by omega)
  split
  · exact Keeps.refl s
  · split
    · exact Keeps.modGal (fun _ i hi => by cases i <;> first | exact Keeps.no rfl hi | exact rfl) h3
    · exact h3

theorem keeps_triggerAt : ∀ a0 a1 a2 a3 a4 a5 a6 a7, Keeps 0x3800000000000000000000000000000000000000000000000000000000000000000000000000400000000000000003c000000000000000000000180 a7 (triggerAt a0 a1 a2 a3 a4 a5 a6 a7).2 := by
  intro a0 a1 a2 a3 a4 a5 a6 a7
  have h0 : Keeps 0x3800000000000000000000000000000000000000000000000000000000000000000000000000400000000000000003c000000000000000000000180 a7 a7 := Keeps.refl _
  unfold triggerAt
  repeat' first
    | with_reducible assumption
    | ((with_reducible refine GalField.upd_of ?_); intro i x hi; cases i <;> first | exact Keeps.no rfl hi | exact rfl | (split <;> rfl) | ((repeat' split) <;> rfl))
    | intro _
    | (extract_lets +onlyGivenNames x; refine Keeps.cut x ?_ (fun hx => ?_); (revert x; show Keeps _ _ _); on_goal 2 => clear_value x)
    | (extract_lets +onlyGivenNames x; clear_value x)
    | with_reducible apply Keeps.bump .GAL_MARK_COUNT (group_GAL_MARK_COUNT _)
    | with_reducible apply Keeps.step (keeps_State_draw _)
    | with_reducible apply Keeps.step (keeps_State_log _ _ _)
    | with_reducible refine Keeps.modGal ?_ ?_
    | with_reducible apply Keeps.setN .GAL_MARK_FRAC (group_GAL_MARK_FRAC _)
    | with_reducible apply Keeps.setN .GAL_MARK_TIME (group_GAL_MARK_TIME _)
    | with_reducible apply Keeps.setN .GAL_MARK_K (group_GAL_MARK_K _)
    | with_reducible apply Keeps.foldl
    | with_reducible apply Keeps.foldlP
    | with_reducible apply Keeps.ite
    | with_reducible apply Keeps.iteP
    | with_reducible decide
    | split

theorem keeps_galMiss : ∀ a0 a1 a2, Keeps 0x200000000000000000000000000000000000000000000000000000000000000000000000000000000000000000000000000000000000000000000 a2 (galMiss a0 a1 a2) := by
  intro a0 a1 a2
  have h0 : Keeps 0x200000000000000000000000000000000000000000000000000000000000000000000000000000000000000000000000000000000000000000000 a2 a2 := Keeps.refl _
  unfold galMiss
  repeat' first
    | with_reducible assumption
    | ((with_reducible refine GalField.upd_of ?_); intro i x hi; cases i <;> first | exact Keeps.no rfl hi | exact rfl | (split <;> rfl) | ((repeat' split) <;> rfl))
    | intro _
    | with_reducible refine Keeps.modGal ?_ ?_
    | with_reducible apply Keeps.ite
    | with_reducible apply Keeps.iteP
    | with_reducible decide
    | split

theorem keeps_galleryRecord : ∀ a0 a1 a2 a3, Keeps 0x7fff000000000000000000000000000000000000000000000000000000000000000000000000040000000000000001ffc000000000000000080001c4 a3 (galleryRecord a0 a1 a2 a3) := by
  intro a0 a1 a2 a3
  have h0 : Keeps 0x7fff000000000000000000000000000000000000000000000000000000000000000000000000040000000000000001ffc000000000000000080001c4 a3 a3 := Keeps.refl _
  unfold galleryRecord
  repeat' first
    | with_reducible assumption
    | ((with_reducible refine GalField.upd_of ?_); intro i x hi; cases i <;> first | exact Keeps.no rfl hi | exact rfl | (split <;> rfl) | ((repeat' split) <;> rfl))
    | intro _
    | (extract_lets +onlyGivenNames x; refine Keeps.cut x ?_ (fun hx => ?_); (revert x; show Keeps _ _ _); on_goal 2 => clear_value x)
    | (extract_lets +onlyGivenNames x; clear_value x)
    | with_reducible apply Keeps.bump .GAL_RECORDS (group_GAL_RECORDS _)
    | with_reducible refine Keeps.modGal ?_ ?_
    | with_reducible apply Keeps.step (keeps_galSense _ _)
    | with_reducible apply Keeps.step (keeps_nodeValues _ _ _)
    | with_reducible apply Keeps.step (keeps_showGallery _ _)
    | with_reducible apply Keeps.step (keeps_streamRecord _ _ _)
    | with_reducible apply Keeps.step (keeps_takeGalWrites _ _)
    | with_reducible apply Keeps.step (keeps_triggerAt _ _ _ _ _ _ _ _)
    | with_reducible apply Keeps.ite
    | with_reducible apply Keeps.iteP
    | with_reducible decide
    | with_reducible refine Keeps.of_eq (by assumption) ?_
    | split

end Sys2Proof.Machine
end

