-- ==== Sys2Proof/Laws/KeepsStageOps.lean ====
section
/-!
SUPPORT. What each operation of Machine/StageOps.lean may change.
-/

set_option linter.unusedTactic false
set_option linter.tactic.unusedName false
set_option linter.unreachableTactic false

namespace Sys2Proof.Machine

theorem keeps_showDispatching : ∀ a0 a1, Keeps 0x20000000000000000000181000000000000000000000000 a1 (showDispatching a0 a1) := by
  intro a0 a1
  have h0 : Keeps 0x20000000000000000000181000000000000000000000000 a1 a1 := Keeps.refl _
  unfold showDispatching
  repeat' first
    | with_reducible assumption
    | intro _
    | with_reducible apply Keeps.setBit .PIE_STATUS (group_PIE_STATUS _)
    | with_reducible apply Keeps.step (keeps_showGallery _ _)
    | with_reducible decide

theorem keeps_suspend : ∀ a0 a1 a2, Keeps 0x1800000000000000000000000000000010000000004000000000000000000000000000000000000000100 a2 (suspend a0 a1 a2) := by
  intro a0 a1 a2
  have h0 : Keeps 0x1800000000000000000000000000000010000000004000000000000000000000000000000000000000100 a2 a2 := Keeps.refl _
  unfold suspend
  repeat' first
    | with_reducible assumption
    | ((with_reducible refine ShrField.upd_of ?_); intro i x hi; cases i <;> first | exact Keeps.no rfl hi | exact rfl | (split <;> rfl) | ((repeat' split) <;> rfl))
    | intro _
    | (extract_lets +onlyGivenNames x; refine Keeps.cut x ?_ (fun hx => ?_); (revert x; show Keeps _ _ _); on_goal 2 => clear_value x)
    | (extract_lets +onlyGivenNames x; clear_value x)
    | with_reducible apply Keeps.step (keeps_State_log _ _ _)
    | with_reducible refine Keeps.modShare ?_ ?_
    | with_reducible apply Keeps.setBit .SHR_STATUS (group_SHR_STATUS _)
    | with_reducible apply Keeps.ite
    | with_reducible apply Keeps.iteP
    | with_reducible decide
    | split

theorem keeps_suspendAll : ∀ a0 a1, Keeps 0x1800000000000000000000000000000010000000004000000000000000000000000000000000000000100 a1 (suspendAll a0 a1) := by
  intro a0 a1
  have h0 : Keeps 0x1800000000000000000000000000000010000000004000000000000000000000000000000000000000100 a1 a1 := Keeps.refl _
  unfold suspendAll
  repeat' first
    | with_reducible assumption
    | intro _
    | with_reducible apply Keeps.step (keeps_suspend _ _ _)
    | with_reducible apply Keeps.foldl
    | with_reducible apply Keeps.foldlP
    | with_reducible apply Keeps.ite
    | with_reducible apply Keeps.iteP
    | with_reducible decide
    | split

theorem keeps_dropActivities : ∀ a0 a1, Keeps 0x1000000000000000000000010000c0c00000006e0007cc1d9f0a4b000000000000000000000080010010000004000000000100000000202000000000000000000100 a1 (dropActivities a0 a1) := by
  intro a0 a1
  have h0 : Keeps 0x1000000000000000000000010000c0c00000006e0007cc1d9f0a4b000000000000000000000080010010000004000000000100000000202000000000000000000100 a1 a1 := Keeps.refl _
  unfold dropActivities
  repeat' first
    | with_reducible assumption
    | ((with_reducible refine PieField.upd_of ?_); intro i x hi; cases i <;> first | exact Keeps.no rfl hi | exact rfl | (split <;> rfl) | ((repeat' split) <;> rfl))
    | ((with_reducible refine FrtField.upd_of ?_); intro i x hi; cases i <;> first | exact Keeps.no rfl hi | exact rfl | (split <;> rfl) | ((repeat' split) <;> rfl))
    | ((with_reducible refine ShrField.upd_of ?_); intro i x hi; cases i <;> first | exact Keeps.no rfl hi | exact rfl | (split <;> rfl) | ((repeat' split) <;> rfl))
    | ((with_reducible refine SrvField.upd_of ?_); intro i x hi; cases i <;> first | exact Keeps.no rfl hi | exact rfl | (split <;> rfl) | ((repeat' split) <;> rfl))
    | intro _
    | (extract_lets +onlyGivenNames x; refine Keeps.cut x ?_ (fun hx => ?_); (revert x; show Keeps _ _ _); on_goal 2 => clear_value x)
    | (extract_lets +onlyGivenNames x; clear_value x)
    | with_reducible apply Keeps.step (keeps_State_log _ _ _)
    | with_reducible refine Keeps.modPier ?_ ?_
    | with_reducible refine Keeps.modRide ?_ ?_
    | with_reducible refine Keeps.modShare ?_ ?_
    | with_reducible refine Keeps.modSurvey ?_ ?_
    | with_reducible apply Keeps.setBit .SRV_STATUS (group_SRV_STATUS _)
    | with_reducible apply Keeps.setBit .FRT_STATUS (group_FRT_STATUS _)
    | with_reducible apply Keeps.setBit .SHR_STATUS (group_SHR_STATUS _)
    | with_reducible apply Keeps.setField .SHR_STATUS (group_SHR_STATUS _)
    | with_reducible apply Keeps.setField .GFL_STATUS (group_GFL_STATUS _)
    | with_reducible apply Keeps.setField .FRT_STATUS (group_FRT_STATUS _)
    | with_reducible apply Keeps.setR .FRT_DELTA_P_COAST (group_FRT_DELTA_P_COAST _)
    | with_reducible apply Keeps.step (keeps_ssdEnd _ _)
    | with_reducible apply Keeps.step (keeps_suspend _ _ _)
    | with_reducible apply Keeps.ite
    | with_reducible apply Keeps.iteP
    | with_reducible decide
    | split

theorem keeps_showErrors : ∀ a0, Keeps 0x8000000000000 a0 (showErrors a0) := by
  intro a0
  have h0 : Keeps 0x8000000000000 a0 a0 := Keeps.refl _
  unfold showErrors
  repeat' first
    | with_reducible assumption
    | intro _
    | with_reducible apply Keeps.setBit .CIA_ERROR_REGISTER group_CIA_ERROR_REGISTER
    | with_reducible decide

theorem keeps_errorsEnd : ∀ a0, Keeps 0x20000000000000000000000000000000000000000000000000000000000000000000000000000000000000000000000000000000000000000000000000000000000000e000000000040 a0 (errorsEnd a0) := by
  intro a0
  have h0 : Keeps 0x20000000000000000000000000000000000000000000000000000000000000000000000000000000000000000000000000000000000000000000000000000000000000e000000000040 a0 a0 := Keeps.refl _
  unfold errorsEnd
  repeat' first
    | with_reducible assumption
    | intro _
    | (extract_lets +onlyGivenNames x; refine Keeps.cut x ?_ (fun hx => ?_); (revert x; show Keeps _ _ _); on_goal 2 => clear_value x)
    | (extract_lets +onlyGivenNames x; clear_value x)
    | with_reducible apply Keeps.step (keeps_emcy _ _ _ _)
    | with_reducible apply Keeps.step (keeps_showErrors _)
    | with_reducible apply Keeps.ite
    | with_reducible apply Keeps.iteP
    | with_reducible decide
    | split

theorem keeps_socLeaves : ∀ a0 a1, Keeps 0x400080000000000000000000000000000000000000000000000000000000000000000000000000000000014000000000000000000000000000010000000000000000000 a1 (socLeaves a0 a1) := by
  intro a0 a1
  have h0 : Keeps 0x400080000000000000000000000000000000000000000000000000000000000000000000000000000000014000000000000000000000000000010000000000000000000 a1 a1 := Keeps.refl _
  unfold socLeaves
  repeat' first
    | with_reducible assumption
    | intro _
    | with_reducible apply Keeps.step (keeps_socOpenStage _ _)
    | with_reducible apply Keeps.ite
    | with_reducible apply Keeps.iteP
    | with_reducible decide
    | split

theorem keeps_stageSafe : ∀ a0 a1 a2, Keeps 0x2000000000004001800000000007400008000310000c0d00000006e0007cc1d9f0a4b33e700000000000000000080010014020004000200000100020981a0201000100e000000000140 a2 (stageSafe a0 a1 a2) := by
  intro a0 a1 a2
  have h0 : Keeps 0x2000000000004001800000000007400008000310000c0d00000006e0007cc1d9f0a4b33e700000000000000000080010014020004000200000100020981a0201000100e000000000140 a2 a2 := Keeps.refl _
  unfold stageSafe
  repeat' first
    | with_reducible assumption
    | ((with_reducible refine ModField.upd_of ?_); intro i x hi; cases i <;> first | exact Keeps.no rfl hi | exact rfl | (split <;> rfl) | ((repeat' split) <;> rfl))
    | ((with_reducible refine PieField.upd_of ?_); intro i x hi; cases i <;> first | exact Keeps.no rfl hi | exact rfl | (split <;> rfl) | ((repeat' split) <;> rfl))
    | ((with_reducible refine StgField.upd_of ?_); intro i x hi; cases i <;> first | exact Keeps.no rfl hi | exact rfl | (split <;> rfl) | ((repeat' split) <;> rfl))
    | exact Or.inl rfl
    | exact Or.inr (fun _ h => h)
    | exact Or.inr (fun _ _ => rfl)
    | ((with_reducible refine Or.inr ?_); intro x h; (repeat' split) <;> first | exact h | exact rfl)
    | intro _
    | (extract_lets +onlyGivenNames x; refine Keeps.cut x ?_ (fun hx => ?_); (revert x; show Keeps _ _ _); on_goal 2 => clear_value x)
    | (extract_lets +onlyGivenNames x; clear_value x)
    | with_reducible apply Keeps.step (keeps_State_log _ _ _)
    | with_reducible refine Keeps.modMod ?_ ?_
    | with_reducible refine Keeps.modPier ?_ ?_
    | with_reducible refine Keeps.modStage ?_ ?_ ?_
    | with_reducible apply Keeps.setN .MOD_STAGE_SAFE_CAUSE (group_MOD_STAGE_SAFE_CAUSE _ (by first | omega | (simp only [List.mem_range, List.mem_cons, List.not_mem_nil, or_false] at *; omega)))
    | with_reducible apply Keeps.step (keeps_dropActivities _ _)
    | with_reducible apply Keeps.step (keeps_edgeSafe _ _)
    | with_reducible apply Keeps.step (keeps_emcy _ _ _ _)
    | with_reducible apply Keeps.step (keeps_sendDatagram _ _)
    | with_reducible apply Keeps.step (keeps_showDispatching _ _)
    | with_reducible apply Keeps.step (keeps_showErrors _)
    | with_reducible apply Keeps.step (keeps_socLeaves _ _)
    | with_reducible apply Keeps.ite
    | with_reducible apply Keeps.iteP
    | with_reducible decide
    | split

theorem keeps_stageOff : ∀ a0 a1, Keeps 0x4001800000000000000008000310004c0c00000006e0007cc1d9f0a4b33c200000000000000000080010014020004000000000100020981202010000000000000000500 a1 (stageOff a0 a1) := by
  intro a0 a1
  have h0 : Keeps 0x4001800000000000000008000310004c0c00000006e0007cc1d9f0a4b33c200000000000000000080010014020004000000000100020981202010000000000000000500 a1 a1 := Keeps.refl _
  unfold stageOff
  repeat' first
    | with_reducible assumption
    | ((with_reducible refine PieField.upd_of ?_); intro i x hi; cases i <;> first | exact Keeps.no rfl hi | exact rfl | (split <;> rfl) | ((repeat' split) <;> rfl))
    | ((with_reducible refine StgField.upd_of ?_); intro i x hi; cases i <;> first | exact Keeps.no rfl hi | exact rfl | (split <;> rfl) | ((repeat' split) <;> rfl))
    | exact Or.inl rfl
    | exact Or.inr (fun _ h => h)
    | exact Or.inr (fun _ _ => rfl)
    | ((with_reducible refine Or.inr ?_); intro x h; (repeat' split) <;> first | exact h | exact rfl)
    | intro _
    | (extract_lets +onlyGivenNames x; refine Keeps.cut x ?_ (fun hx => ?_); (revert x; show Keeps _ _ _); on_goal 2 => clear_value x)
    | (extract_lets +onlyGivenNames x; clear_value x)
    | with_reducible refine Keeps.modPier ?_ ?_
    | with_reducible refine Keeps.modStage ?_ ?_ ?_
    | with_reducible apply Keeps.step (keeps_dropActivities _ _)
    | with_reducible apply Keeps.step (keeps_edgeIdle _ _)
    | with_reducible apply Keeps.step (keeps_showDispatching _ _)
    | with_reducible apply Keeps.step (keeps_socOpenStage _ _)
    | with_reducible decide

theorem keeps_toArmedState : ∀ a0 a1, Keeps 0x4001800000000000000000000010004c0d00000006e0007cc1d9f0a4b328200000000000000000080010014020004000000000100000181202010000000000000000500 a1 (toArmedState a0 a1) := by
  intro a0 a1
  have h0 : Keeps 0x4001800000000000000000000010004c0d00000006e0007cc1d9f0a4b328200000000000000000080010014020004000000000100000181202010000000000000000500 a1 a1 := Keeps.refl _
  unfold toArmedState
  repeat' first
    | with_reducible assumption
    | ((with_reducible refine PieField.upd_of ?_); intro i x hi; cases i <;> first | exact Keeps.no rfl hi | exact rfl | (split <;> rfl) | ((repeat' split) <;> rfl))
    | ((with_reducible refine StgField.upd_of ?_); intro i x hi; cases i <;> first | exact Keeps.no rfl hi | exact rfl | (split <;> rfl) | ((repeat' split) <;> rfl))
    | exact Or.inl rfl
    | exact Or.inr (fun _ h => h)
    | exact Or.inr (fun _ _ => rfl)
    | ((with_reducible refine Or.inr ?_); intro x h; (repeat' split) <;> first | exact h | exact rfl)
    | intro _
    | (extract_lets +onlyGivenNames x; refine Keeps.cut x ?_ (fun hx => ?_); (revert x; show Keeps _ _ _); on_goal 2 => clear_value x)
    | (extract_lets +onlyGivenNames x; clear_value x)
    | with_reducible refine Keeps.modPier ?_ ?_
    | with_reducible refine Keeps.modStage ?_ ?_ ?_
    | with_reducible apply Keeps.step (keeps_dropActivities _ _)
    | with_reducible apply Keeps.step (keeps_showDispatching _ _)
    | with_reducible apply Keeps.step (keeps_socLeaves _ _)
    | with_reducible decide

theorem keeps_stageArm : ∀ a0 a1, Keeps 0x4001800000000000000008000310004c0d00000006e0007cc1d9f0a4b328200000000000000000080010014020004000000000100020981202010000000000000000500 a1 (stageArm a0 a1) := by
  intro a0 a1
  have h0 : Keeps 0x4001800000000000000008000310004c0d00000006e0007cc1d9f0a4b328200000000000000000080010014020004000000000100020981202010000000000000000500 a1 a1 := Keeps.refl _
  unfold stageArm
  repeat' first
    | with_reducible assumption
    | intro _
    | with_reducible apply Keeps.step (keeps_edgeIdle _ _)
    | with_reducible apply Keeps.step (keeps_toArmedState _ _)
    | with_reducible decide

theorem keeps_stageStop : ∀ a0 a1, Keeps 0x4001800000000000000000000010004c0d00000006e0007cc1d9f0a4b328200000000000000000080010014020004000000000100000181202010000000000000000500 a1 (stageStop a0 a1) := by
  intro a0 a1
  have h0 : Keeps 0x4001800000000000000000000010004c0d00000006e0007cc1d9f0a4b328200000000000000000080010014020004000000000100000181202010000000000000000500 a1 a1 := Keeps.refl _
  unfold stageStop
  repeat' first
    | with_reducible assumption
    | ((with_reducible refine PieField.upd_of ?_); intro i x hi; cases i <;> first | exact Keeps.no rfl hi | exact rfl | (split <;> rfl) | ((repeat' split) <;> rfl))
    | ((with_reducible refine StgField.upd_of ?_); intro i x hi; cases i <;> first | exact Keeps.no rfl hi | exact rfl | (split <;> rfl) | ((repeat' split) <;> rfl))
    | exact Or.inl rfl
    | exact Or.inr (fun _ h => h)
    | exact Or.inr (fun _ _ => rfl)
    | ((with_reducible refine Or.inr ?_); intro x h; (repeat' split) <;> first | exact h | exact rfl)
    | intro _
    | (extract_lets +onlyGivenNames x; refine Keeps.cut x ?_ (fun hx => ?_); (revert x; show Keeps _ _ _); on_goal 2 => clear_value x)
    | (extract_lets +onlyGivenNames x; clear_value x)
    | with_reducible refine Keeps.modPier ?_ ?_
    | with_reducible refine Keeps.modStage ?_ ?_ ?_
    | with_reducible apply Keeps.step (keeps_toArmedState _ _)
    | with_reducible decide

theorem keeps_endPulses : ∀ a0 a1, Keeps 0x800030000000000000000000000000000000200000000000000000000000000000000000000000000000020800000000000000000000000000 a1 (endPulses a0 a1) := by
  intro a0 a1
  have h0 : Keeps 0x800030000000000000000000000000000000200000000000000000000000000000000000000000000000020800000000000000000000000000 a1 a1 := Keeps.refl _
  unfold endPulses
  repeat' first
    | with_reducible assumption
    | ((with_reducible refine StgField.upd_of ?_); intro i x hi; cases i <;> first | exact Keeps.no rfl hi | exact rfl | (split <;> rfl) | ((repeat' split) <;> rfl))
    | exact Or.inl rfl
    | exact Or.inr (fun _ h => h)
    | exact Or.inr (fun _ _ => rfl)
    | ((with_reducible refine Or.inr ?_); intro x h; (repeat' split) <;> first | exact h | exact rfl)
    | intro _
    | with_reducible refine Keeps.modStage ?_ ?_ ?_
    | with_reducible apply Keeps.step (keeps_edgeIdle _ _)
    | with_reducible apply Keeps.ite
    | with_reducible apply Keeps.iteP
    | with_reducible decide
    | split

theorem keeps_enterRun : ∀ a0 a1 a2 a3, Keeps 0x400080000000000000000800030f80300100000018000000000f00000358200000000000000000000011255020004000000000000020981000010001000000000000500 a3 (enterRun a0 a1 a2 a3) := by
  intro a0 a1 a2 a3
  have h0 : Keeps 0x400080000000000000000800030f80300100000018000000000f00000358200000000000000000000011255020004000000000000020981000010001000000000000500 a3 a3 := Keeps.refl _
  unfold enterRun
  repeat' first
    | with_reducible assumption
    | ((with_reducible refine PieField.upd_of ?_); intro i x hi; cases i <;> first | exact Keeps.no rfl hi | exact rfl | (split <;> rfl) | ((repeat' split) <;> rfl))
    | ((with_reducible refine ShrField.upd_of ?_); intro i x hi; cases i <;> first | exact Keeps.no rfl hi | exact rfl | (split <;> rfl) | ((repeat' split) <;> rfl))
    | ((with_reducible refine StgField.upd_of ?_); intro i x hi; cases i <;> first | exact Keeps.no rfl hi | exact rfl | (split <;> rfl) | ((repeat' split) <;> rfl))
    | exact Or.inl rfl
    | exact Or.inr (fun _ h => h)
    | exact Or.inr (fun _ _ => rfl)
    | ((with_reducible refine Or.inr ?_); intro x h; (repeat' split) <;> first | exact h | exact rfl)
    | ((with_reducible refine SrvField.upd_of ?_); intro i x hi; cases i <;> first | exact Keeps.no rfl hi | exact rfl | (split <;> rfl) | ((repeat' split) <;> rfl))
    | intro _
    | (extract_lets +onlyGivenNames x; refine Keeps.cut x ?_ (fun hx => ?_); (revert x; show Keeps _ _ _); on_goal 2 => clear_value x)
    | (extract_lets +onlyGivenNames x; clear_value x)
    | with_reducible refine Keeps.modPier ?_ ?_
    | with_reducible refine Keeps.modShare ?_ ?_
    | with_reducible refine Keeps.modStage ?_ ?_ ?_
    | with_reducible refine Keeps.modSurvey ?_ ?_
    | with_reducible apply Keeps.setBit .SHR_STATUS (group_SHR_STATUS _)
    | with_reducible apply Keeps.setN .SHR_ANCHOR_COUNT (group_SHR_ANCHOR_COUNT _)
    | with_reducible apply Keeps.setR .SHR_DELTA_F_REST (group_SHR_DELTA_F_REST _)
    | with_reducible apply Keeps.setR .SHR_DELTA_V_REST (group_SHR_DELTA_V_REST _)
    | with_reducible apply Keeps.step (keeps_bootEmpty _ _)
    | with_reducible apply Keeps.step (keeps_edgeUnsafe _ _)
    | with_reducible apply Keeps.step (keeps_showDispatching _ _)
    | with_reducible apply Keeps.step (keeps_socCloseStage _ _)
    | with_reducible apply Keeps.ite
    | with_reducible apply Keeps.iteP
    | with_reducible decide
    | split

theorem keeps_showClaim : ∀ a0 a1, Keeps 0x10000000000000000000000000000000000000000000000000000 a1 (showClaim a0 a1) := by
  intro a0 a1
  have h0 : Keeps 0x10000000000000000000000000000000000000000000000000000 a1 a1 := Keeps.refl _
  unfold showClaim
  repeat' first
    | with_reducible assumption
    | intro _
    | (extract_lets +onlyGivenNames x; refine Keeps.cut x ?_ (fun hx => ?_); (revert x; show Keeps _ _ _); on_goal 2 => clear_value x)
    | (extract_lets +onlyGivenNames x; clear_value x)
    | with_reducible apply Keeps.setBit .SHR_STATUS (group_SHR_STATUS _)
    | with_reducible apply Keeps.setField .SHR_STATUS (group_SHR_STATUS _)
    | with_reducible decide
    | with_reducible refine Keeps.of_eq (by assumption) ?_
    | split

theorem keeps_beginWait : ∀ a0 a1, Keeps 0x41000000000000000000000000010000000000000000000000000000000000000000000000000000 a1 (beginWait a0 a1) := by
  intro a0 a1
  have h0 : Keeps 0x41000000000000000000000000010000000000000000000000000000000000000000000000000000 a1 a1 := Keeps.refl _
  unfold beginWait
  repeat' first
    | with_reducible assumption
    | ((with_reducible refine ShrField.upd_of ?_); intro i x hi; cases i <;> first | exact Keeps.no rfl hi | exact rfl | (split <;> rfl) | ((repeat' split) <;> rfl))
    | intro _
    | (extract_lets +onlyGivenNames x; refine Keeps.cut x ?_ (fun hx => ?_); (revert x; show Keeps _ _ _); on_goal 2 => clear_value x)
    | (extract_lets +onlyGivenNames x; clear_value x)
    | with_reducible refine Keeps.modShare ?_ ?_
    | with_reducible apply Keeps.step (keeps_showClaim _ _)
    | with_reducible decide

theorem keeps_claimReview : ∀ a0 a1, Keeps 0x1800001000000000000000000000000010000000004000000000000000000000000000000000000000100 a1 (claimReview a0 a1) := by
  intro a0 a1
  have h0 : Keeps 0x1800001000000000000000000000000010000000004000000000000000000000000000000000000000100 a1 a1 := Keeps.refl _
  unfold claimReview
  repeat' first
    | with_reducible assumption
    | ((with_reducible refine ShrField.upd_of ?_); intro i x hi; cases i <;> first | exact Keeps.no rfl hi | exact rfl | (split <;> rfl) | ((repeat' split) <;> rfl))
    | intro _
    | (extract_lets +onlyGivenNames x; refine Keeps.cut x ?_ (fun hx => ?_); (revert x; show Keeps _ _ _); on_goal 2 => clear_value x)
    | (extract_lets +onlyGivenNames x; clear_value x)
    | with_reducible refine Keeps.modShare ?_ ?_
    | with_reducible apply Keeps.step (keeps_showClaim _ _)
    | with_reducible apply Keeps.step (keeps_suspend _ _ _)
    | with_reducible apply Keeps.ite
    | with_reducible apply Keeps.iteP
    | with_reducible decide
    | with_reducible refine Keeps.of_eq (by assumption) ?_
    | split

theorem keeps_beginRamp : ∀ a0 a1, Keeps 0x1e000000000000000000000000000010000000000000000000000000000000000000000000000000000 a1 (beginRamp a0 a1) := by
  intro a0 a1
  have h0 : Keeps 0x1e000000000000000000000000000010000000000000000000000000000000000000000000000000000 a1 a1 := Keeps.refl _
  unfold beginRamp
  repeat' first
    | with_reducible assumption
    | ((with_reducible refine ShrField.upd_of ?_); intro i x hi; cases i <;> first | exact Keeps.no rfl hi | exact rfl | (split <;> rfl) | ((repeat' split) <;> rfl))
    | intro _
    | (extract_lets +onlyGivenNames x; refine Keeps.cut x ?_ (fun hx => ?_); (revert x; show Keeps _ _ _); on_goal 2 => clear_value x)
    | (extract_lets +onlyGivenNames x; clear_value x)
    | with_reducible refine Keeps.modShare ?_ ?_
    | with_reducible apply Keeps.setBit .SHR_STATUS (group_SHR_STATUS _)
    | with_reducible decide

theorem keeps_beginSync : ∀ a0 a1, Keeps 0x400080000000000000000800030f80300100000018000000000f1efc9358200000000000000000000011255020004000000000000020981000010001000000000000500 a1 (beginSync a0 a1) := by
  intro a0 a1
  have h0 : Keeps 0x400080000000000000000800030f80300100000018000000000f1efc9358200000000000000000000011255020004000000000000020981000010001000000000000500 a1 a1 := Keeps.refl _
  unfold beginSync
  repeat' first
    | with_reducible assumption
    | ((with_reducible refine ShrField.upd_of ?_); intro i x hi; cases i <;> first | exact Keeps.no rfl hi | exact rfl | (split <;> rfl) | ((repeat' split) <;> rfl))
    | intro _
    | (extract_lets +onlyGivenNames x; refine Keeps.cut x ?_ (fun hx => ?_); (revert x; show Keeps _ _ _); on_goal 2 => clear_value x)
    | (extract_lets +onlyGivenNames x; clear_value x)
    | with_reducible refine Keeps.modShare ?_ ?_
    | with_reducible apply Keeps.setBit .SHR_STATUS (group_SHR_STATUS _)
    | with_reducible apply Keeps.step (keeps_beginRamp _ _)
    | with_reducible apply Keeps.step (keeps_enterRun _ _ _ _)
    | with_reducible apply Keeps.step (keeps_showClaim _ _)
    | with_reducible decide

theorem keeps_startLapses : ∀ a0 a1, Keeps 0x18000000000000000000000000000000004000000000000000000000000000000000000000100 a1 (startLapses a0 a1) := by
  intro a0 a1
  have h0 : Keeps 0x18000000000000000000000000000000004000000000000000000000000000000000000000100 a1 a1 := Keeps.refl _
  unfold startLapses
  repeat' first
    | with_reducible assumption
    | ((with_reducible refine StgField.upd_of ?_); intro i x hi; cases i <;> first | exact Keeps.no rfl hi | exact rfl | (split <;> rfl) | ((repeat' split) <;> rfl))
    | exact Or.inl rfl
    | exact Or.inr (fun _ h => h)
    | exact Or.inr (fun _ _ => rfl)
    | ((with_reducible refine Or.inr ?_); intro x h; (repeat' split) <;> first | exact h | exact rfl)
    | intro _
    | with_reducible apply Keeps.step (keeps_State_log _ _ _)
    | with_reducible refine Keeps.modStage ?_ ?_ ?_
    | with_reducible decide

theorem keeps_gfiStart : ∀ a0 a1, Keeps 0x400080000000000000000800030f80300100000018000000000f1efc9358200000000000000000000011255020004000000000000020981000010001000000000000500 a1 (gfiStart a0 a1) := by
  intro a0 a1
  have h0 : Keeps 0x400080000000000000000800030f80300100000018000000000f1efc9358200000000000000000000011255020004000000000000020981000010001000000000000500 a1 a1 := Keeps.refl _
  unfold gfiStart
  repeat' first
    | with_reducible assumption
    | ((with_reducible refine StgField.upd_of ?_); intro i x hi; cases i <;> first | exact Keeps.no rfl hi | exact rfl | (split <;> rfl) | ((repeat' split) <;> rfl))
    | exact Or.inl rfl
    | exact Or.inr (fun _ h => h)
    | exact Or.inr (fun _ _ => rfl)
    | ((with_reducible refine Or.inr ?_); intro x h; (repeat' split) <;> first | exact h | exact rfl)
    | intro _
    | (extract_lets +onlyGivenNames x; refine Keeps.cut x ?_ (fun hx => ?_); (revert x; show Keeps _ _ _); on_goal 2 => clear_value x)
    | (extract_lets +onlyGivenNames x; clear_value x)
    | with_reducible refine Keeps.modStage ?_ ?_ ?_
    | with_reducible apply Keeps.step (keeps_beginSync _ _)
    | with_reducible apply Keeps.step (keeps_beginWait _ _)
    | with_reducible apply Keeps.step (keeps_startLapses _ _)
    | with_reducible apply Keeps.ite
    | with_reducible apply Keeps.iteP
    | with_reducible decide
    | split

theorem keeps_proceed : ∀ a0 a1, Keeps 0x400080000000000000000800030f80300100000018000000000f1efc9358200000000000000000000011255020004000000000000020981000010001000000000000500 a1 (proceed a0 a1) := by
  intro a0 a1
  have h0 : Keeps 0x400080000000000000000800030f80300100000018000000000f1efc9358200000000000000000000011255020004000000000000020981000010001000000000000500 a1 a1 := Keeps.refl _
  unfold proceed
  repeat' first
    | with_reducible assumption
    | intro _
    | with_reducible apply Keeps.step (keeps_enterRun _ _ _ _)
    | with_reducible apply Keeps.step (keeps_gfiStart _ _)
    | with_reducible apply Keeps.step (keeps_startLapses _ _)
    | with_reducible apply Keeps.ite
    | with_reducible apply Keeps.iteP
    | with_reducible decide
    | split

theorem keeps_commandClose : ∀ a0 a1 a2, Keeps 0x400080000000000000000000000000000000000000000000000001017000000000000000000000000010015000004000000000000000000000010000000000000000100 a2 (commandClose a0 a1 a2) := by
  intro a0 a1 a2
  have h0 : Keeps 0x400080000000000000000000000000000000000000000000000001017000000000000000000000000010015000004000000000000000000000010000000000000000100 a2 a2 := Keeps.refl _
  unfold commandClose
  repeat' first
    | with_reducible assumption
    | ((with_reducible refine ShrField.upd_of ?_); intro i x hi; cases i <;> first | exact Keeps.no rfl hi | exact rfl | (split <;> rfl) | ((repeat' split) <;> rfl))
    | intro _
    | (extract_lets +onlyGivenNames x; refine Keeps.cut x ?_ (fun hx => ?_); (revert x; show Keeps _ _ _); on_goal 2 => clear_value x)
    | (extract_lets +onlyGivenNames x; clear_value x)
    | with_reducible refine Keeps.modShare ?_ ?_
    | with_reducible apply Keeps.step (keeps_showClaim _ _)
    | with_reducible apply Keeps.step (keeps_socCloseStage _ _)
    | with_reducible decide

theorem keeps_joinGlide : ∀ a0 a1, Keeps 0xe0a48000000000000000000000000010000000000000000000000000000000000000000000000000000 a1 (joinGlide a0 a1) := by
  intro a0 a1
  have h0 : Keeps 0xe0a48000000000000000000000000010000000000000000000000000000000000000000000000000000 a1 a1 := Keeps.refl _
  unfold joinGlide
  repeat' first
    | with_reducible assumption
    | ((with_reducible refine ShrField.upd_of ?_); intro i x hi; cases i <;> first | exact Keeps.no rfl hi | exact rfl | (split <;> rfl) | ((repeat' split) <;> rfl))
    | intro _
    | (extract_lets +onlyGivenNames x; refine Keeps.cut x ?_ (fun hx => ?_); (revert x; show Keeps _ _ _); on_goal 2 => clear_value x)
    | (extract_lets +onlyGivenNames x; clear_value x)
    | with_reducible refine Keeps.modShare ?_ ?_
    | with_reducible apply Keeps.setBit .SHR_STATUS (group_SHR_STATUS _)
    | with_reducible apply Keeps.setField .SHR_STATUS (group_SHR_STATUS _)
    | with_reducible decide

theorem keeps_runClosed : ∀ a0 a1, Keeps 0x400080000000000000000800030f80300100000018000000000f1e001358200000000000000000000011255020004000000000000020981000010001000000000000500 a1 (runClosed a0 a1) := by
  intro a0 a1
  have h0 : Keeps 0x400080000000000000000800030f80300100000018000000000f1e001358200000000000000000000011255020004000000000000020981000010001000000000000500 a1 a1 := Keeps.refl _
  unfold runClosed
  repeat' first
    | with_reducible assumption
    | ((with_reducible refine ShrField.upd_of ?_); intro i x hi; cases i <;> first | exact Keeps.no rfl hi | exact rfl | (split <;> rfl) | ((repeat' split) <;> rfl))
    | intro _
    | (extract_lets +onlyGivenNames x; refine Keeps.cut x ?_ (fun hx => ?_); (revert x; show Keeps _ _ _); on_goal 2 => clear_value x)
    | (extract_lets +onlyGivenNames x; clear_value x)
    | with_reducible apply Keeps.step (keeps_State_log _ _ _)
    | with_reducible refine Keeps.modShare ?_ ?_
    | with_reducible apply Keeps.setBit .SHR_STATUS (group_SHR_STATUS _)
    | with_reducible apply Keeps.step (keeps_beginRamp _ _)
    | with_reducible apply Keeps.step (keeps_enterRun _ _ _ _)
    | with_reducible apply Keeps.step (keeps_showClaim _ _)
    | with_reducible apply Keeps.ite
    | with_reducible apply Keeps.iteP
    | with_reducible decide
    | split

theorem keeps_contactorConfirmed : ∀ a0 a1, Keeps 0x400080000000000000000800030f80300100000018000000000ffea6b358200000000000000000000011255020004000000000000020981000010001000000000000500 a1 (contactorConfirmed a0 a1) := by
  intro a0 a1
  have h0 : Keeps 0x400080000000000000000800030f80300100000018000000000ffea6b358200000000000000000000011255020004000000000000020981000010001000000000000500 a1 a1 := Keeps.refl _
  unfold contactorConfirmed
  repeat' first
    | with_reducible assumption
    | ((with_reducible refine ShrField.upd_of ?_); intro i x hi; cases i <;> first | exact Keeps.no rfl hi | exact rfl | (split <;> rfl) | ((repeat' split) <;> rfl))
    | intro _
    | (extract_lets +onlyGivenNames x; refine Keeps.cut x ?_ (fun hx => ?_); (revert x; show Keeps _ _ _); on_goal 2 => clear_value x)
    | (extract_lets +onlyGivenNames x; clear_value x)
    | with_reducible refine Keeps.modShare ?_ ?_
    | with_reducible apply Keeps.step (keeps_joinGlide _ _)
    | with_reducible apply Keeps.step (keeps_runClosed _ _)
    | with_reducible apply Keeps.ite
    | with_reducible apply Keeps.iteP
    | with_reducible decide
    | split

theorem keeps_runConfirmed : ∀ a0 a1, Keeps 0x400080000000000000000800030f80300100000018000000000f1e001358200000000000000000000011255020004000000000000020981000010001000000000000500 a1 (runConfirmed a0 a1) := by
  intro a0 a1
  have h0 : Keeps 0x400080000000000000000800030f80300100000018000000000f1e001358200000000000000000000011255020004000000000000020981000010001000000000000500 a1 a1 := Keeps.refl _
  unfold runConfirmed
  repeat' first
    | with_reducible assumption
    | intro _
    | with_reducible apply Keeps.step (keeps_runClosed _ _)
    | with_reducible apply Keeps.ite
    | with_reducible apply Keeps.iteP
    | with_reducible decide
    | split

theorem keeps_demandStop : ∀ a0 a1, Keeps 0x20000000000000000000000000000000000000000000000000000000000000000000000 a1 (demandStop a0 a1) := by
  intro a0 a1
  have h0 : Keeps 0x20000000000000000000000000000000000000000000000000000000000000000000000 a1 a1 := Keeps.refl _
  unfold demandStop
  repeat' first
    | with_reducible assumption
    | ((with_reducible refine ModField.upd_of ?_); intro i x hi; cases i <;> first | exact Keeps.no rfl hi | exact rfl | (split <;> rfl) | ((repeat' split) <;> rfl))
    | intro _
    | with_reducible refine Keeps.modMod ?_ ?_
    | with_reducible decide
    | with_reducible refine Keeps.of_eq (by assumption) ?_
    | split

theorem keeps_demandLockout : ∀ a0 a1, Keeps 0x10000000000000000000000000000000000000000000000000000000000000000000000 a1 (demandLockout a0 a1) := by
  intro a0 a1
  have h0 : Keeps 0x10000000000000000000000000000000000000000000000000000000000000000000000 a1 a1 := Keeps.refl _
  unfold demandLockout
  repeat' first
    | with_reducible assumption
    | ((with_reducible refine ModField.upd_of ?_); intro i x hi; cases i <;> first | exact Keeps.no rfl hi | exact rfl | (split <;> rfl) | ((repeat' split) <;> rfl))
    | intro _
    | with_reducible refine Keeps.modMod ?_ ?_
    | with_reducible decide

end Sys2Proof.Machine
end

