-- ==== Sys2Proof/Laws/KeepsPairOps.lean ====
section
/-!
SUPPORT. What each operation of Machine/PairOps.lean may change.
-/

set_option linter.unusedTactic false
set_option linter.tactic.unusedName false
set_option linter.unreachableTactic false

namespace Sys2Proof.Machine

theorem keeps_resourceLost : ∀ a0, Keeps 0x2000000000004001800000000007400008000310000c0d00000006e0007cc1d9f0a4b33e700020000000000000080010014020004000200000100020981a0201000100e000000000140 a0 (resourceLost a0) := by
  intro a0
  have h0 : Keeps 0x2000000000004001800000000007400008000310000c0d00000006e0007cc1d9f0a4b33e700020000000000000080010014020004000200000100020981a0201000100e000000000140 a0 a0 := Keeps.refl _
  unfold resourceLost
  repeat' first
    | with_reducible assumption
    | intro _
    | (extract_lets +onlyGivenNames x; refine Keeps.cut x ?_ (fun hx => ?_); (revert x; show Keeps _ _ _); on_goal 2 => clear_value x)
    | (extract_lets +onlyGivenNames x; clear_value x)
    | with_reducible apply Keeps.step (keeps_State_log _ _ _)
    | with_reducible apply Keeps.step (keeps_demandStop _ _)
    | with_reducible apply Keeps.step (keeps_stageSafe _ _ _)
    | with_reducible apply Keeps.foldl
    | with_reducible apply Keeps.foldlP
    | with_reducible apply Keeps.ite
    | with_reducible apply Keeps.iteP
    | with_reducible decide
    | split

theorem keeps_lockReview : ∀ a0, Keeps 0x2000000000004001800001400007400008000310000c0d00000006e0007cc1d9f0a4b33e700020000010000000080010014020004000600000100020981a0201000100e000000000140 a0 (lockReview a0) := by
  intro a0
  have h0 : Keeps 0x2000000000004001800001400007400008000310000c0d00000006e0007cc1d9f0a4b33e700020000010000000080010014020004000600000100020981a0201000100e000000000140 a0 a0 := Keeps.refl _
  unfold lockReview
  repeat' first
    | with_reducible assumption
    | ((with_reducible refine TwnField.upd_of ?_); intro i x hi; cases i <;> first | exact Keeps.no rfl hi | exact rfl | (split <;> rfl) | ((repeat' split) <;> rfl))
    | intro _
    | (extract_lets +onlyGivenNames x; refine Keeps.cut x ?_ (fun hx => ?_); (revert x; show Keeps _ _ _); on_goal 2 => clear_value x)
    | (extract_lets +onlyGivenNames x; clear_value x)
    | with_reducible apply Keeps.step (keeps_State_log _ _ _)
    | with_reducible refine Keeps.modTwn ?_ ?_
    | with_reducible apply Keeps.step (keeps_resourceLost _)
    | with_reducible apply Keeps.step (keeps_showTwin _)
    | with_reducible apply Keeps.ite
    | with_reducible apply Keeps.iteP
    | with_reducible decide
    | with_reducible refine Keeps.of_eq (by assumption) ?_
    | split

theorem keeps_linkFalls : ∀ a0, Keeps 0x20000000000040018000014c8007400008000310000c0d00000006e0007cc1d9f0a4b33e7000200003d0080000080010014020004000600000100020981a0201000100e000000000140 a0 (linkFalls a0) := by
  intro a0
  have h0 : Keeps 0x20000000000040018000014c8007400008000310000c0d00000006e0007cc1d9f0a4b33e7000200003d0080000080010014020004000600000100020981a0201000100e000000000140 a0 a0 := Keeps.refl _
  unfold linkFalls
  repeat' first
    | with_reducible assumption
    | ((with_reducible refine TwnField.upd_of ?_); intro i x hi; cases i <;> first | exact Keeps.no rfl hi | exact rfl | (split <;> rfl) | ((repeat' split) <;> rfl))
    | intro _
    | (extract_lets +onlyGivenNames x; refine Keeps.cut x ?_ (fun hx => ?_); (revert x; show Keeps _ _ _); on_goal 2 => clear_value x)
    | (extract_lets +onlyGivenNames x; clear_value x)
    | with_reducible apply Keeps.step (keeps_State_log _ _ _)
    | with_reducible refine Keeps.modTwn ?_ ?_
    | with_reducible apply Keeps.step (keeps_baseHoldover _ _ _)
    | with_reducible apply Keeps.step (keeps_lockReview _)
    | with_reducible apply Keeps.step (keeps_showTwin _)
    | with_reducible apply Keeps.ite
    | with_reducible apply Keeps.iteP
    | with_reducible decide
    | split

end Sys2Proof.Machine
end

