-- ==== Sys2Proof/Laws/KeepsTrip.lean ====
section
/-!
SUPPORT. What each operation of Machine/Trip.lean may change.
-/

set_option linter.unusedTactic false
set_option linter.tactic.unusedName false
set_option linter.unreachableTactic false

namespace Sys2Proof.Machine

theorem keeps_showGroup : ∀ a0 a1, Keeps 0x2020000000000000000 a1 (showGroup a0 a1) := by
  intro a0 a1
  have h0 : Keeps 0x2020000000000000000 a1 a1 := Keeps.refl _
  unfold showGroup
  repeat' first
    | with_reducible assumption
    | intro _
    | (extract_lets +onlyGivenNames x; refine Keeps.cut x ?_ (fun hx => ?_); (revert x; show Keeps _ _ _); on_goal 2 => clear_value x)
    | (extract_lets +onlyGivenNames x; clear_value x)
    | with_reducible apply Keeps.setBit .EDG_STATUS group_EDG_STATUS
    | with_reducible apply Keeps.setN .EDG_TRG_STATUS (group_EDG_TRG_STATUS _)
    | with_reducible decide

theorem keeps_holdOutputs : ∀ a0 a1 a2, Keeps 0x800010000000000000000000000000000000000000000000000000000000000000000000000000000000020800000000001000000000000000 a2 (holdOutputs a0 a1 a2) := by
  intro a0 a1 a2
  have h0 : Keeps 0x800010000000000000000000000000000000000000000000000000000000000000000000000000000000020800000000001000000000000000 a2 a2 := Keeps.refl _
  unfold holdOutputs
  repeat' first
    | with_reducible assumption
    | intro _
    | (extract_lets +onlyGivenNames x; refine Keeps.cut x ?_ (fun hx => ?_); (revert x; show Keeps _ _ _); on_goal 2 => clear_value x)
    | (extract_lets +onlyGivenNames x; clear_value x)
    | with_reducible apply Keeps.step (keeps_State_modCh _ _ _)
    | with_reducible apply Keeps.setBit .EDG_CH_STATUS (group_EDG_CH_STATUS _)
    | with_reducible apply Keeps.step (keeps_settle _ _)
    | with_reducible apply Keeps.step (keeps_showOutputs _ _)
    | with_reducible apply Keeps.ite
    | with_reducible apply Keeps.iteP
    | with_reducible decide
    | split

theorem keeps_stageTripped : ∀ a0 a1 a2, Keeps 0x4000000000001000000000000080000000000000000000000000000000000000000000000000000000000000000000000000000000000000000000 a2 (stageTripped a0 a1 a2) := by
  intro a0 a1 a2
  have h0 : Keeps 0x4000000000001000000000000080000000000000000000000000000000000000000000000000000000000000000000000000000000000000000000 a2 a2 := Keeps.refl _
  unfold stageTripped
  repeat' first
    | with_reducible assumption
    | ((with_reducible refine PieField.upd_of ?_); intro i x hi; cases i <;> first | exact Keeps.no rfl hi | exact rfl | (split <;> rfl) | ((repeat' split) <;> rfl))
    | ((with_reducible refine FrtField.upd_of ?_); intro i x hi; cases i <;> first | exact Keeps.no rfl hi | exact rfl | (split <;> rfl) | ((repeat' split) <;> rfl))
    | intro _
    | (extract_lets +onlyGivenNames x; refine Keeps.cut x ?_ (fun hx => ?_); (revert x; show Keeps _ _ _); on_goal 2 => clear_value x)
    | (extract_lets +onlyGivenNames x; clear_value x)
    | with_reducible refine Keeps.modPier ?_ ?_
    | with_reducible refine Keeps.modRide ?_ ?_
    | with_reducible apply Keeps.step (keeps_galFlag _ _ _)
    | with_reducible apply Keeps.ite
    | with_reducible apply Keeps.iteP
    | with_reducible decide
    | split

theorem keeps_groupTrip : ∀ a0 a1 a2, Keeps 0x4000800050001000000000000080000000000000000000000000000000000000000000000004000000000000020800000003021000000000000100 a2 (groupTrip a0 a1 a2) := by
  intro a0 a1 a2
  have h0 : Keeps 0x4000800050001000000000000080000000000000000000000000000000000000000000000004000000000000020800000003021000000000000100 a2 a2 := Keeps.refl _
  unfold groupTrip
  repeat' first
    | with_reducible assumption
    | intro _
    | (extract_lets +onlyGivenNames x; refine Keeps.cut x ?_ (fun hx => ?_); (revert x; show Keeps _ _ _); on_goal 2 => clear_value x)
    | (extract_lets +onlyGivenNames x; clear_value x)
    | with_reducible apply Keeps.bump .EDG_TRG_PERIODS (group_EDG_TRG_PERIODS _)
    | with_reducible apply Keeps.step (keeps_State_logOnce _ _ _ _)
    | with_reducible apply Keeps.step (keeps_State_modCh _ _ _)
    | with_reducible apply Keeps.step (keeps_State_modGrp _ _ _)
    | with_reducible apply Keeps.step (keeps_holdOutputs _ _ _)
    | with_reducible apply Keeps.step (keeps_showGroup _ _)
    | with_reducible apply Keeps.step (keeps_stageTripped _ _ _)
    | with_reducible apply Keeps.foldl
    | with_reducible apply Keeps.foldlP
    | with_reducible apply Keeps.ite
    | with_reducible apply Keeps.iteP
    | with_reducible decide
    | split

theorem keeps_tripScan : ∀ a0, Keeps 0x4000800050001000000000000080000000000000000000000000000000000000000000000004000000000000020800000003021000000000000100 a0 (tripScan a0) := by
  intro a0
  have h0 : Keeps 0x4000800050001000000000000080000000000000000000000000000000000000000000000004000000000000020800000003021000000000000100 a0 a0 := Keeps.refl _
  unfold tripScan
  repeat' first
    | with_reducible assumption
    | intro _
    | (extract_lets +onlyGivenNames x; clear_value x)
    | with_reducible apply Keeps.step (keeps_groupTrip _ _ _)
    | with_reducible apply Keeps.foldl
    | with_reducible apply Keeps.foldlP
    | with_reducible apply Keeps.ite
    | with_reducible apply Keeps.iteP
    | with_reducible decide
    | split

theorem keeps_showSources : ∀ a0, Keeps 0x10000000000000000 a0 (showSources a0) := by
  intro a0
  have h0 : Keeps 0x10000000000000000 a0 a0 := Keeps.refl _
  unfold showSources
  repeat' first
    | with_reducible assumption
    | intro _
    | with_reducible apply Keeps.setN .EDG_SRC_ACTIVE (group_EDG_SRC_ACTIVE _ (by first | omega | (simp only [List.mem_range, List.mem_cons, List.not_mem_nil, or_false] at *; omega)))
    | with_reducible apply Keeps.foldl_mem
    | with_reducible decide

theorem keeps_sourceActive : ∀ a0 a1, Keeps 0x40008000d0001000000000000080000000000000000000000000000000000000000000000004000000000000020800000003031000000000000100 a1 (sourceActive a0 a1) := by
  intro a0 a1
  have h0 : Keeps 0x40008000d0001000000000000080000000000000000000000000000000000000000000000004000000000000020800000003031000000000000100 a1 a1 := Keeps.refl _
  unfold sourceActive
  repeat' first
    | with_reducible assumption
    | ((with_reducible refine EdgField.upd_of ?_); intro i x hi; cases i <;> first | exact Keeps.no rfl hi | exact rfl | (split <;> rfl) | ((repeat' split) <;> rfl))
    | intro _
    | (extract_lets +onlyGivenNames x; refine Keeps.cut x ?_ (fun hx => ?_); (revert x; show Keeps _ _ _); on_goal 2 => clear_value x)
    | (extract_lets +onlyGivenNames x; clear_value x)
    | with_reducible refine Keeps.modEdg ?_ ?_
    | with_reducible apply Keeps.step (keeps_showGroup _ _)
    | with_reducible apply Keeps.step (keeps_showSources _)
    | with_reducible apply Keeps.step (keeps_tripScan _)
    | with_reducible apply Keeps.foldl
    | with_reducible apply Keeps.foldlP
    | with_reducible apply Keeps.ite
    | with_reducible apply Keeps.iteP
    | with_reducible decide
    | split

theorem keeps_sourceInactive : ∀ a0 a1, Keeps 0x80000000000000000000000000000000000000000000000000000000000000000000000000000000000000000002030000000000000000 a1 (sourceInactive a0 a1) := by
  intro a0 a1
  have h0 : Keeps 0x80000000000000000000000000000000000000000000000000000000000000000000000000000000000000000002030000000000000000 a1 a1 := Keeps.refl _
  unfold sourceInactive
  repeat' first
    | with_reducible assumption
    | ((with_reducible refine EdgField.upd_of ?_); intro i x hi; cases i <;> first | exact Keeps.no rfl hi | exact rfl | (split <;> rfl) | ((repeat' split) <;> rfl))
    | intro _
    | (extract_lets +onlyGivenNames x; refine Keeps.cut x ?_ (fun hx => ?_); (revert x; show Keeps _ _ _); on_goal 2 => clear_value x)
    | (extract_lets +onlyGivenNames x; clear_value x)
    | with_reducible refine Keeps.modEdg ?_ ?_
    | with_reducible apply Keeps.step (keeps_showGroup _ _)
    | with_reducible apply Keeps.step (keeps_showSources _)
    | with_reducible apply Keeps.foldl
    | with_reducible apply Keeps.foldlP
    | with_reducible apply Keeps.ite
    | with_reducible apply Keeps.iteP
    | with_reducible decide
    | split

theorem keeps_notePin : ∀ a0 a1 a2, Keeps 0x100000000000000000000000000000000000000000000000000000000000000000000000000000000000000000000000000000000000000 a2 (notePin a0 a1 a2) := by
  intro a0 a1 a2
  have h0 : Keeps 0x100000000000000000000000000000000000000000000000000000000000000000000000000000000000000000000000000000000000000 a2 a2 := Keeps.refl _
  unfold notePin
  repeat' first
    | with_reducible assumption
    | ((with_reducible refine EdgField.upd_of ?_); intro i x hi; cases i <;> first | exact Keeps.no rfl hi | exact rfl | (split <;> rfl) | ((repeat' split) <;> rfl))
    | intro _
    | (extract_lets +onlyGivenNames x; clear_value x)
    | with_reducible refine Keeps.modEdg ?_ ?_
    | with_reducible apply Keeps.ite
    | with_reducible apply Keeps.iteP
    | with_reducible decide
    | split

theorem keeps_execTripSourceActive : ∀ a0 a1, KeepsR 0x40008001d0001000000000000080000000000000000000000000000000000000000000000004000000000000020800000003031000000000000100 a1 (execTripSourceActive a0 a1) := by
  intro a0 a1
  have h0 : Keeps 0x40008001d0001000000000000080000000000000000000000000000000000000000000000004000000000000020800000003031000000000000100 a1 a1 := Keeps.refl _
  unfold execTripSourceActive
  repeat' first
    | with_reducible assumption
    | intro _
    | with_reducible apply Keeps.accepted
    | with_reducible apply KeepsR.next
    | with_reducible apply KeepsR.ite
    | with_reducible apply Keeps.on
    | with_reducible apply Keeps.step (keeps_notePin _ _ _)
    | with_reducible apply Keeps.step (keeps_sourceActive _ _)
    | with_reducible apply Keeps.ite
    | with_reducible apply Keeps.iteP
    | with_reducible decide
    | split

theorem keeps_execTripSourceInactive : ∀ a0 a1, KeepsR 0x180000000000000000000000000000000000000000000000000000000000000000000000000000000000000000002030000000000000000 a1 (execTripSourceInactive a0 a1) := by
  intro a0 a1
  have h0 : Keeps 0x180000000000000000000000000000000000000000000000000000000000000000000000000000000000000000002030000000000000000 a1 a1 := Keeps.refl _
  unfold execTripSourceInactive
  repeat' first
    | with_reducible assumption
    | intro _
    | with_reducible apply Keeps.accepted
    | with_reducible apply KeepsR.next
    | with_reducible apply KeepsR.ite
    | with_reducible apply Keeps.on
    | with_reducible apply Keeps.step (keeps_notePin _ _ _)
    | with_reducible apply Keeps.step (keeps_sourceInactive _ _)
    | with_reducible apply Keeps.ite
    | with_reducible apply Keeps.iteP
    | with_reducible decide
    | split

theorem keeps_groupLatch : ∀ a0 a1, Keeps 0x2000000000004001800000000007440008000710000c0d00000006e0007cc1d9f0a4b33e700000000000000000080010014020004000200000100020981a02012c2100e000000000140 a1 (groupLatch a0 a1) := by
  intro a0 a1
  have h0 : Keeps 0x2000000000004001800000000007440008000710000c0d00000006e0007cc1d9f0a4b33e700000000000000000080010014020004000200000100020981a02012c2100e000000000140 a1 a1 := Keeps.refl _
  unfold groupLatch
  repeat' first
    | with_reducible assumption
    | intro _
    | (extract_lets +onlyGivenNames x; refine Keeps.cut x ?_ (fun hx => ?_); (revert x; show Keeps _ _ _); on_goal 2 => clear_value x)
    | (extract_lets +onlyGivenNames x; clear_value x)
    | with_reducible apply Keeps.step (keeps_State_log _ _ _)
    | with_reducible apply Keeps.step (keeps_State_modGrp _ _ _)
    | with_reducible apply Keeps.setN .EDG_TRG_LATCH_TIME (group_EDG_TRG_LATCH_TIME _)
    | with_reducible apply Keeps.setN .EDG_TRG_LATCH_SRC (group_EDG_TRG_LATCH_SRC _)
    | with_reducible apply Keeps.step (keeps_galFlag _ _ _)
    | with_reducible apply Keeps.step (keeps_holdOutputs _ _ _)
    | with_reducible apply Keeps.step (keeps_showGroup _ _)
    | with_reducible apply Keeps.step (keeps_stageSafe _ _ _)
    | with_reducible apply Keeps.foldl
    | with_reducible apply Keeps.foldlP
    | with_reducible apply Keeps.ite
    | with_reducible apply Keeps.iteP
    | with_reducible decide
    | split

theorem keeps_execTripGroupLatch : ∀ a0 a1, KeepsR 0x2000000000004001800000000007440008000710000c0d00000006e0007cc1d9f0a4b33e700000000000000000080010014020004000200000100020981a02012c2100e000000000140 a1 (execTripGroupLatch a0 a1) := by
  intro a0 a1
  have h0 : Keeps 0x2000000000004001800000000007440008000710000c0d00000006e0007cc1d9f0a4b33e700000000000000000080010014020004000200000100020981a02012c2100e000000000140 a1 a1 := Keeps.refl _
  unfold execTripGroupLatch
  repeat' first
    | with_reducible assumption
    | intro _
    | with_reducible apply Keeps.accepted
    | with_reducible apply KeepsR.next
    | with_reducible apply KeepsR.ite
    | (extract_lets +onlyGivenNames x; clear_value x)
    | with_reducible apply Keeps.on
    | with_reducible apply Keeps.step (keeps_groupLatch _ _)
    | with_reducible apply Keeps.ite
    | with_reducible apply Keeps.iteP
    | with_reducible decide
    | split

theorem keeps_takeGroupWrites (s : State) (g : GroupId) : Keeps 0x2000000000004001800000000007440008000710000c0d00000006e0007cc1d9f0a4b33e700000000000000000080010014020004000200000100020981a02013e2100e000001000144 s (takeGroupWrites s g) := by
  unfold takeGroupWrites
  extract_lets mine s1 s2 x
  have h2 : Keeps 0x2000000000004001800000000007440008000710000c0d00000006e0007cc1d9f0a4b33e700000000000000000080010014020004000200000100020981a02013e2100e000001000144 s s2 := by
    refine Keeps.applyDue _ _ (fun w hw => ?_) (Keeps.upd_commitWrites (Keeps.refl s) (by decide) _)
    have e : w.1 / 256 = 0x4460 + g.val := by simpa using (List.mem_filter.1 hw).2
    exact group_page_trg (by decide) (by omega) (by omega)
  split
  · exact Keeps.refl s
  · split
    · exact Keeps.step (keeps_groupLatch _ _) (by decide) h2
    · exact Keeps.step (keeps_showGroup _ _) (by decide) h2

theorem keeps_execTripPeriodEnd : ∀ a0 a1, KeepsR 0x4000800050001000000000000080000000000000000000000000000000000000000000000004000000000000020800000003021000000000000100 a1 (execTripPeriodEnd a0 a1) := by
  intro a0 a1
  have h0 : Keeps 0x4000800050001000000000000080000000000000000000000000000000000000000000000004000000000000020800000003021000000000000100 a1 a1 := Keeps.refl _
  unfold execTripPeriodEnd
  repeat' first
    | with_reducible assumption
    | intro _
    | with_reducible apply Keeps.accepted
    | with_reducible apply KeepsR.next
    | with_reducible apply KeepsR.ite
    | (extract_lets +onlyGivenNames x; refine Keeps.cut x ?_ (fun hx => ?_); (revert x; show Keeps _ _ _); on_goal 2 => clear_value x)
    | (extract_lets +onlyGivenNames x; clear_value x)
    | with_reducible apply Keeps.step (keeps_State_modGrp _ _ _)
    | with_reducible apply Keeps.on
    | with_reducible apply Keeps.step (keeps_showGroup _ _)
    | with_reducible apply Keeps.step (keeps_tripScan _)
    | with_reducible apply Keeps.ite
    | with_reducible apply Keeps.iteP
    | with_reducible decide
    | split

theorem keeps_execTripFreeRunDecrement : ∀ a0 a1, KeepsR 0x40000000000000000000000000000000000000000000000000000000000000000000000000000000000000000002020000000000000000 a1 (execTripFreeRunDecrement a0 a1) := by
  intro a0 a1
  have h0 : Keeps 0x40000000000000000000000000000000000000000000000000000000000000000000000000000000000000000002020000000000000000 a1 a1 := Keeps.refl _
  unfold execTripFreeRunDecrement
  repeat' first
    | with_reducible assumption
    | intro _
    | with_reducible apply Keeps.accepted
    | with_reducible apply KeepsR.next
    | with_reducible apply KeepsR.ite
    | (extract_lets +onlyGivenNames x; clear_value x)
    | with_reducible apply Keeps.step (keeps_State_modGrp _ _ _)
    | with_reducible apply Keeps.on
    | with_reducible apply Keeps.step (keeps_showGroup _ _)
    | with_reducible apply Keeps.ite
    | with_reducible apply Keeps.iteP
    | with_reducible decide
    | split

theorem keeps_groupClear : ∀ a0 a1, Keeps 0x40000000000000000000000000000000000000000000000000000000000000000004000000000000000000000002020000000000000100 a1 (groupClear a0 a1).2 := by
  intro a0 a1
  have h0 : Keeps 0x40000000000000000000000000000000000000000000000000000000000000000004000000000000000000000002020000000000000100 a1 a1 := Keeps.refl _
  unfold groupClear
  repeat' first
    | with_reducible assumption
    | intro _
    | (extract_lets +onlyGivenNames x; refine Keeps.cut x ?_ (fun hx => ?_); (revert x; show Keeps _ _ _); on_goal 2 => clear_value x)
    | (extract_lets +onlyGivenNames x; clear_value x)
    | with_reducible apply Keeps.step (keeps_State_log _ _ _)
    | with_reducible apply Keeps.step (keeps_State_modGrp _ _ _)
    | with_reducible apply Keeps.step (keeps_showGroup _ _)
    | with_reducible decide
    | with_reducible refine Keeps.of_eq (by assumption) ?_
    | split

theorem keeps_execTripGroupClear : ∀ a0 a1 a2, KeepsR 0x140038000000000000000000000000000000000040000000000000000000000000000000000000000000000000000000000000000004009000000000000000000002020000000000000140 a2 (execTripGroupClear a0 a1 a2) := by
  intro a0 a1 a2
  have h0 : Keeps 0x140038000000000000000000000000000000000040000000000000000000000000000000000000000000000000000000000000000004009000000000000000000002020000000000000140 a2 a2 := Keeps.refl _
  unfold execTripGroupClear
  repeat' first
    | with_reducible assumption
    | intro _
    | with_reducible apply Keeps.accepted
    | with_reducible apply KeepsR.next
    | with_reducible apply Keeps.step (keeps_groupClear _ _)
    | with_reducible apply Keeps.owned
    | with_reducible apply Keeps.request
    | with_reducible decide

end Sys2Proof.Machine
end

