-- ==== Sys2Proof/Laws/KeepsFenceOps.lean ====
section
/-!
SUPPORT. What each operation of Machine/FenceOps.lean may change.
-/

set_option linter.unusedTactic false
set_option linter.tactic.unusedName false
set_option linter.unreachableTactic false

namespace Sys2Proof.Machine

theorem keeps_refreshPermissions : ∀ a0, Keeps 0x400080000000000000000000000000000000000000000000000000000000000000700000000000000000014000000000000000000000000000910000000000000000000 a0 (refreshPermissions a0) := by
  intro a0
  have h0 : Keeps 0x400080000000000000000000000000000000000000000000000000000000000000700000000000000000014000000000000000000000000000910000000000000000000 a0 a0 := Keeps.refl _
  unfold refreshPermissions
  repeat' first
    | with_reducible assumption
    | ((with_reducible refine IslField.upd_of ?_); intro i x hi; cases i <;> first | exact Keeps.no rfl hi | exact rfl | (split <;> rfl) | ((repeat' split) <;> rfl))
    | exact Or.inl rfl
    | exact Or.inr (fun _ _ h => h)
    | exact Or.inr (fun _ _ h => List.mem_cons_of_mem _ h)
    | intro _
    | (extract_lets +onlyGivenNames x; refine Keeps.cut x ?_ (fun hx => ?_); (revert x; show Keeps _ _ _); on_goal 2 => clear_value x)
    | (extract_lets +onlyGivenNames x; clear_value x)
    | with_reducible refine Keeps.modIsl ?_ ?_ ?_
    | with_reducible apply Keeps.step (keeps_showField _)
    | with_reducible apply Keeps.step (keeps_socOpenNow _ _)
    | with_reducible apply Keeps.foldl
    | with_reducible apply Keeps.foldlP
    | with_reducible apply Keeps.ite
    | with_reducible apply Keeps.iteP
    | with_reducible decide
    | split

theorem keeps_safeByFence : ∀ a0 a1, Keeps 0x2000000000004001800000000007400008000310000c0d00000006e0007cc1d9f0a4b33e700000000000000000080010014020004000200000100020981a0201000100e0000000001c0 a1 (safeByFence a0 a1) := by
  intro a0 a1
  have h0 : Keeps 0x2000000000004001800000000007400008000310000c0d00000006e0007cc1d9f0a4b33e700000000000000000080010014020004000200000100020981a0201000100e0000000001c0 a1 a1 := Keeps.refl _
  unfold safeByFence
  repeat' first
    | with_reducible assumption
    | intro _
    | with_reducible apply Keeps.step (keeps_State_draw _)
    | with_reducible apply Keeps.step (keeps_stageSafe _ _ _)
    | with_reducible apply Keeps.ite
    | with_reducible apply Keeps.iteP
    | with_reducible decide
    | split

theorem keeps_takeStageState : ∀ a0 a1 a2, Keeps 0x200000000000400180000000000740000800031f807c0d0000001ee0007cc1dff0a4b37e700000000000000000080011255020004000200000100020981a0201000100e0000000005c0 a2 (takeStageState a0 a1 a2) := by
  intro a0 a1 a2
  have h0 : Keeps 0x200000000000400180000000000740000800031f807c0d0000001ee0007cc1dff0a4b37e700000000000000000080011255020004000200000100020981a0201000100e0000000005c0 a2 a2 := Keeps.refl _
  unfold takeStageState
  repeat' first
    | with_reducible assumption
    | ((with_reducible refine StgField.upd_of ?_); intro i x hi; cases i <;> first | exact Keeps.no rfl hi | exact rfl | (split <;> rfl) | ((repeat' split) <;> rfl))
    | exact Or.inl rfl
    | exact Or.inr (fun _ h => h)
    | exact Or.inr (fun _ _ => rfl)
    | ((with_reducible refine Or.inr ?_); intro x h; (repeat' split) <;> first | exact h | exact rfl)
    | intro _
    | (extract_lets +onlyGivenNames x; clear_value x)
    | with_reducible refine Keeps.modStage ?_ ?_ ?_
    | with_reducible apply Keeps.step (keeps_enterRun _ _ _ _)
    | with_reducible apply Keeps.step (keeps_safeByFence _ _)
    | with_reducible apply Keeps.step (keeps_stageArm _ _)
    | with_reducible apply Keeps.step (keeps_stageOff _ _)
    | with_reducible apply Keeps.ite
    | with_reducible apply Keeps.iteP
    | with_reducible decide
    | with_reducible refine Keeps.of_eq (by assumption) ?_
    | split

theorem keeps_fenceEffect : ∀ a0 a1, Keeps 0x1827000000080040018100014c8007440008000f10070c0d00000006e8007cc1d9f0a4b33e7000317003d00800000800100140200040e0601000100020981a0291303100e0000000001c0 a1 (fenceEffect a0 a1) := by
  intro a0 a1
  have h0 : Keeps 0x1827000000080040018100014c8007440008000f10070c0d00000006e8007cc1d9f0a4b33e7000317003d00800000800100140200040e0601000100020981a0291303100e0000000001c0 a1 a1 := Keeps.refl _
  unfold fenceEffect
  repeat' first
    | with_reducible assumption
    | ((with_reducible refine IslField.upd_of ?_); intro i x hi; cases i <;> first | exact Keeps.no rfl hi | exact rfl | (split <;> rfl) | ((repeat' split) <;> rfl))
    | exact Or.inl rfl
    | exact Or.inr (fun _ _ h => h)
    | exact Or.inr (fun _ _ h => List.mem_cons_of_mem _ h)
    | ((with_reducible refine NetField.upd_of ?_); intro i x hi; cases i <;> first | exact Keeps.no rfl hi | exact rfl | (split <;> rfl) | ((repeat' split) <;> rfl))
    | intro _
    | (extract_lets +onlyGivenNames x; refine Keeps.cut x ?_ (fun hx => ?_); (revert x; show Keeps _ _ _); on_goal 2 => clear_value x)
    | extract_lets +onlyGivenNames x
    | extract_lets +onlyGivenNames x
    | with_reducible apply Keeps.step (keeps_State_log _ _ _)
    | with_reducible refine Keeps.modIsl ?_ ?_ ?_
    | with_reducible refine Keeps.modNet ?_ ?_
    | with_reducible apply Keeps.setBit .GDV_PORT_STATUS (group_GDV_PORT_STATUS _)
    | with_reducible apply Keeps.setBit .LGC_STATUS group_LGC_STATUS
    | with_reducible apply Keeps.step (keeps_arbStart _ _ _)
    | with_reducible apply Keeps.step (keeps_baseLost _ _)
    | with_reducible apply Keeps.step (keeps_claimReview _ _)
    | with_reducible apply Keeps.step (keeps_demandLockout _ _)
    | with_reducible apply Keeps.step (keeps_demandStop _ _)
    | with_reducible apply Keeps.step (keeps_linkFalls _)
    | with_reducible apply Keeps.step (keeps_linkReview _)
    | with_reducible apply Keeps.step (keeps_outputsOff _ _)
    | with_reducible apply Keeps.step (keeps_refreshPermissions _)
    | with_reducible apply Keeps.step (keeps_safeByFence _ _)
    | with_reducible apply Keeps.step (keeps_setBypass _ _ _)
    | with_reducible apply Keeps.step (keeps_showNet _)
    | with_reducible apply Keeps.step (keeps_sourceActive _ _)
    | with_reducible apply Keeps.foldl
    | with_reducible apply Keeps.foldlP
    | with_reducible apply Keeps.ite
    | with_reducible apply Keeps.iteP
    | with_reducible decide
    | with_reducible refine Keeps.of_eq (by assumption) ?_
    | split
    | ((with_reducible refine Keeps.upd_lgc ?_ _ ?_); on_goal 2 => (intro i hi; cases i <;> first | exact Keeps.no rfl hi | exact rfl | (split <;> rfl) | ((repeat' split) <;> rfl)))

theorem keeps_fence : ∀ a0 a1, Keeps 0x1827000000080040018100014c8007440008000f10070c0d00000006e8007cc1d9f0a4b33e70003170c3d00800000800100140200040e0601000100020981a0291303100e0000000001c0 a1 (fence a0 a1) := by
  intro a0 a1
  have h0 : Keeps 0x1827000000080040018100014c8007440008000f10070c0d00000006e8007cc1d9f0a4b33e70003170c3d00800000800100140200040e0601000100020981a0291303100e0000000001c0 a1 a1 := Keeps.refl _
  unfold fence
  repeat' first
    | with_reducible assumption
    | ((with_reducible refine IslField.upd_of ?_); intro i x hi; cases i <;> first | exact Keeps.no rfl hi | exact rfl | (split <;> rfl) | ((repeat' split) <;> rfl))
    | exact Or.inl rfl
    | exact Or.inr (fun _ _ h => h)
    | exact Or.inr (fun _ _ h => List.mem_cons_of_mem _ h)
    | intro _
    | (extract_lets +onlyGivenNames x; refine Keeps.cut x ?_ (fun hx => ?_); (revert x; show Keeps _ _ _); on_goal 2 => clear_value x)
    | (extract_lets +onlyGivenNames x; clear_value x)
    | with_reducible refine Keeps.modIsl ?_ ?_ ?_
    | with_reducible apply Keeps.step (keeps_fenceEffect _ _)
    | with_reducible apply Keeps.ite
    | with_reducible apply Keeps.iteP
    | with_reducible decide
    | split

end Sys2Proof.Machine
end

