-- ==== Sys2Proof/Laws/KeepsKeystoneOps.lean ====
section
/-!
SUPPORT. What each operation of Machine/KeystoneOps.lean may change.
-/

set_option linter.unusedTactic false
set_option linter.tactic.unusedName false
set_option linter.unreachableTactic false

namespace Sys2Proof.Machine

theorem keeps_latchFault : ∀ a0 a1 a2, Keeps 0x4000000000000000000000000000000000000000000000000000000000000010000000000000000000010000004000000000000000000000000000000000000000100 a2 (latchFault a0 a1 a2) := by
  intro a0 a1 a2
  have h0 : Keeps 0x4000000000000000000000000000000000000000000000000000000000000010000000000000000000010000004000000000000000000000000000000000000000100 a2 a2 := Keeps.refl _
  unfold latchFault
  repeat' first
    | with_reducible assumption
    | ((with_reducible refine SafField.upd_of ?_); intro i x hi; cases i <;> first | exact Keeps.no rfl hi | exact rfl | (split <;> rfl) | ((repeat' split) <;> rfl))
    | intro _
    | (extract_lets +onlyGivenNames x; refine Keeps.cut x ?_ (fun hx => ?_); (revert x; show Keeps _ _ _); on_goal 2 => clear_value x)
    | (extract_lets +onlyGivenNames x; clear_value x)
    | with_reducible apply Keeps.step (keeps_State_log _ _ _)
    | with_reducible refine Keeps.modSaf ?_ ?_
    | with_reducible apply Keeps.setBit .SAF_STATUS group_SAF_STATUS
    | with_reducible apply Keeps.step (keeps_demandLockout _ _)
    | with_reducible apply Keeps.ite
    | with_reducible apply Keeps.iteP
    | with_reducible decide
    | split

theorem keeps_removePulses : ∀ a0 a1, Keeps 0x410080000000000000000000000000000000000000000000000000000000000000700000000000000000014000000000000000000000000000910000000000000000000 a1 (removePulses a0 a1) := by
  intro a0 a1
  have h0 : Keeps 0x410080000000000000000000000000000000000000000000000000000000000000700000000000000000014000000000000000000000000000910000000000000000000 a1 a1 := Keeps.refl _
  unfold removePulses
  repeat' first
    | with_reducible assumption
    | ((with_reducible refine SafField.upd_of ?_); intro i x hi; cases i <;> first | exact Keeps.no rfl hi | exact rfl | (split <;> rfl) | ((repeat' split) <;> rfl))
    | intro _
    | with_reducible refine Keeps.modSaf ?_ ?_
    | with_reducible apply Keeps.step (keeps_refreshPermissions _)
    | with_reducible apply Keeps.ite
    | with_reducible apply Keeps.iteP
    | with_reducible decide
    | split

theorem keeps_keystoneSafe : ∀ a0 a1 a2, Keeps 0x2000000000004101800000000007400008000310000c0d00000006e0007cc1d9f0a4b33e700000700000000000080010014020004000200000100020981a0291000100e000000000140 a2 (keystoneSafe a0 a1 a2) := by
  intro a0 a1 a2
  have h0 : Keeps 0x2000000000004101800000000007400008000310000c0d00000006e0007cc1d9f0a4b33e700000700000000000080010014020004000200000100020981a0291000100e000000000140 a2 a2 := Keeps.refl _
  unfold keystoneSafe
  repeat' first
    | with_reducible assumption
    | intro _
    | (extract_lets +onlyGivenNames x; refine Keeps.cut x ?_ (fun hx => ?_); (revert x; show Keeps _ _ _); on_goal 2 => clear_value x)
    | (extract_lets +onlyGivenNames x; clear_value x)
    | with_reducible apply Keeps.step (keeps_removePulses _ _)
    | with_reducible apply Keeps.step (keeps_socOpenNow _ _)
    | with_reducible apply Keeps.step (keeps_stageSafe _ _ _)
    | with_reducible decide
    | with_reducible refine Keeps.of_eq (by assumption) ?_
    | split

theorem keeps_ssdComplete : ∀ a0 a1 a2 a3, Keeps 0x2000000000004101800000000007400008000310004c0d00000006e0007cc1d9f0a4b33e700000700000000000080010014020004000200000100020981a0291000100e000000000540 a3 (ssdComplete a0 a1 a2 a3) := by
  intro a0 a1 a2 a3
  have h0 : Keeps 0x2000000000004101800000000007400008000310004c0d00000006e0007cc1d9f0a4b33e700000700000000000080010014020004000200000100020981a0291000100e000000000540 a3 a3 := Keeps.refl _
  unfold ssdComplete
  repeat' first
    | with_reducible assumption
    | intro _
    | (extract_lets +onlyGivenNames x; refine Keeps.cut x ?_ (fun hx => ?_); (revert x; show Keeps _ _ _); on_goal 2 => clear_value x)
    | (extract_lets +onlyGivenNames x; clear_value x)
    | with_reducible apply Keeps.step (keeps_State_log _ _ _)
    | with_reducible apply Keeps.step (keeps_edgeSafe _ _)
    | with_reducible apply Keeps.step (keeps_removePulses _ _)
    | with_reducible apply Keeps.step (keeps_socOpenStage _ _)
    | with_reducible apply Keeps.step (keeps_stageArm _ _)
    | with_reducible apply Keeps.step (keeps_stageSafe _ _ _)
    | with_reducible apply Keeps.ite
    | with_reducible apply Keeps.iteP
    | with_reducible decide
    | split

theorem keeps_ssdDemand : ∀ a0 a1 a2, Keeps 0x2000000000004101800000000007400008000310004c0d00000006e0007cc1d9f0a4b33e700000700000000000080010014020004000200000100020981a0291000100e000000000540 a2 (ssdDemand a0 a1 a2) := by
  intro a0 a1 a2
  have h0 : Keeps 0x2000000000004101800000000007400008000310004c0d00000006e0007cc1d9f0a4b33e700000700000000000080010014020004000200000100020981a0291000100e000000000540 a2 a2 := Keeps.refl _
  unfold ssdDemand
  repeat' first
    | with_reducible assumption
    | intro _
    | (extract_lets +onlyGivenNames x; clear_value x)
    | with_reducible apply Keeps.step (keeps_State_modSsd _ _ _)
    | with_reducible apply Keeps.setBit .SAF_STATUS group_SAF_STATUS
    | with_reducible apply Keeps.step (keeps_ssdComplete _ _ _ _)
    | with_reducible apply Keeps.ite
    | with_reducible apply Keeps.iteP
    | with_reducible decide
    | split

theorem keeps_ssdMeasure : ∀ a0 a1, Keeps 0x100000000000000000000000000000000000000000000000000000000000000000000000000000000008000000000000000000000000000000000000000000000000 a1 (ssdMeasure a0 a1) := by
  intro a0 a1
  have h0 : Keeps 0x100000000000000000000000000000000000000000000000000000000000000000000000000000000008000000000000000000000000000000000000000000000000 a1 a1 := Keeps.refl _
  unfold ssdMeasure
  repeat' first
    | with_reducible assumption
    | intro _
    | (extract_lets +onlyGivenNames x; refine Keeps.cut x ?_ (fun hx => ?_); (revert x; show Keeps _ _ _); on_goal 2 => clear_value x)
    | (extract_lets +onlyGivenNames x; clear_value x)
    | with_reducible apply Keeps.step (keeps_State_modSsd _ _ _)
    | with_reducible apply Keeps.setR .SAF_SSD_VALUE (group_SAF_SSD_VALUE _)
    | with_reducible apply Keeps.ite
    | with_reducible apply Keeps.iteP
    | with_reducible decide
    | split

theorem keeps_ssdJudge : ∀ a0 a1, Keeps 0x2000000000004101800000000007400008000310004c0d00000006e0007cc1d9f0a4b33e700000700000000000080010014020004000200000100020981a0291000100e000000000540 a1 (ssdJudge a0 a1) := by
  intro a0 a1
  have h0 : Keeps 0x2000000000004101800000000007400008000310004c0d00000006e0007cc1d9f0a4b33e700000700000000000080010014020004000200000100020981a0291000100e000000000540 a1 a1 := Keeps.refl _
  unfold ssdJudge
  repeat' first
    | with_reducible assumption
    | intro _
    | (extract_lets +onlyGivenNames x; refine Keeps.cut x ?_ (fun hx => ?_); (revert x; show Keeps _ _ _); on_goal 2 => clear_value x)
    | (extract_lets +onlyGivenNames x; clear_value x)
    | with_reducible apply Keeps.step (keeps_State_log _ _ _)
    | with_reducible apply Keeps.step (keeps_State_modSsd _ _ _)
    | with_reducible apply Keeps.step (keeps_keystoneSafe _ _ _)
    | with_reducible apply Keeps.step (keeps_ssdComplete _ _ _ _)
    | with_reducible apply Keeps.ite
    | with_reducible apply Keeps.iteP
    | with_reducible decide
    | with_reducible refine Keeps.of_eq (by assumption) ?_
    | split

theorem keeps_dateDifference : ∀ a0 a1 a2, Keeps 0x100000000000000000000000000000000000000000000000000000000000000000000000000000000000000000000000000000000000000000000000000000000000 a2 (dateDifference a0 a1 a2) := by
  intro a0 a1 a2
  have h0 : Keeps 0x100000000000000000000000000000000000000000000000000000000000000000000000000000000000000000000000000000000000000000000000000000000000 a2 a2 := Keeps.refl _
  unfold dateDifference
  repeat' first
    | with_reducible assumption
    | intro _
    | with_reducible apply Keeps.step (keeps_State_modSsd _ _ _)
    | with_reducible decide

theorem keeps_plausible : ∀ a0 a1 a2, Keeps 0x2000000000004101800000000007400008000310000c0d00000006e0007cc1d9f0a4b33e700000700000000000080010014020004000200000100020981a0291000100e000000000140 a2 (plausible a0 a1 a2) := by
  intro a0 a1 a2
  have h0 : Keeps 0x2000000000004101800000000007400008000310000c0d00000006e0007cc1d9f0a4b33e700000700000000000080010014020004000200000100020981a0291000100e000000000140 a2 a2 := Keeps.refl _
  unfold plausible
  repeat' first
    | with_reducible assumption
    | intro _
    | (extract_lets +onlyGivenNames x; refine Keeps.cut x ?_ (fun hx => ?_); (revert x; show Keeps _ _ _); on_goal 2 => clear_value x)
    | (extract_lets +onlyGivenNames x; clear_value x)
    | with_reducible apply Keeps.step (keeps_State_log _ _ _)
    | with_reducible apply Keeps.step (keeps_State_modSsd _ _ _)
    | with_reducible apply Keeps.step (keeps_keystoneSafe _ _ _)
    | with_reducible apply Keeps.ite
    | with_reducible apply Keeps.iteP
    | with_reducible decide
    | split

theorem keeps_immediateDemand : ∀ a0 a1 a2, Keeps 0x2000000000004101800000000007400008000310000c0d00000006e0007cc1d9f0a4b33e700000700000000000080010014020004000200000100020981a0291000100e000000000140 a2 (immediateDemand a0 a1 a2) := by
  intro a0 a1 a2
  have h0 : Keeps 0x2000000000004101800000000007400008000310000c0d00000006e0007cc1d9f0a4b33e700000700000000000080010014020004000200000100020981a0291000100e000000000140 a2 a2 := Keeps.refl _
  unfold immediateDemand
  repeat' first
    | with_reducible assumption
    | intro _
    | (extract_lets +onlyGivenNames x; refine Keeps.cut x ?_ (fun hx => ?_); (revert x; show Keeps _ _ _); on_goal 2 => clear_value x)
    | (extract_lets +onlyGivenNames x; clear_value x)
    | with_reducible apply Keeps.step (keeps_State_log _ _ _)
    | with_reducible apply Keeps.step (keeps_refreshPermissions _)
    | with_reducible apply Keeps.step (keeps_removePulses _ _)
    | with_reducible apply Keeps.step (keeps_socOpenNow _ _)
    | with_reducible apply Keeps.step (keeps_stageSafe _ _ _)
    | with_reducible apply Keeps.foldl
    | with_reducible apply Keeps.foldlP
    | with_reducible apply Keeps.ite
    | with_reducible apply Keeps.iteP
    | with_reducible decide
    | with_reducible refine Keeps.of_eq (by assumption) ?_
    | split

theorem keeps_permitReview : ∀ a0, Keeps 0x2000000000004121800000000007400008000310004c0d00000006e0007cc1d9f0a4b33e700000700000000000080010014020004000200000100020981a0291000100e000000000540 a0 (permitReview a0) := by
  intro a0
  have h0 : Keeps 0x2000000000004121800000000007400008000310004c0d00000006e0007cc1d9f0a4b33e700000700000000000080010014020004000200000100020981a0291000100e000000000540 a0 a0 := Keeps.refl _
  unfold permitReview
  repeat' first
    | with_reducible assumption
    | ((with_reducible refine SafField.upd_of ?_); intro i x hi; cases i <;> first | exact Keeps.no rfl hi | exact rfl | (split <;> rfl) | ((repeat' split) <;> rfl))
    | intro _
    | (extract_lets +onlyGivenNames x; refine Keeps.cut x ?_ (fun hx => ?_); (revert x; show Keeps _ _ _); on_goal 2 => clear_value x)
    | (extract_lets +onlyGivenNames x; clear_value x)
    | with_reducible refine Keeps.modSaf ?_ ?_
    | with_reducible apply Keeps.step (keeps_immediateDemand _ _ _)
    | with_reducible apply Keeps.step (keeps_socOpen _ _)
    | with_reducible apply Keeps.step (keeps_socOpenNow _ _)
    | with_reducible apply Keeps.step (keeps_ssdDemand _ _ _)
    | with_reducible apply Keeps.foldl
    | with_reducible apply Keeps.foldlP
    | with_reducible apply Keeps.ite
    | with_reducible apply Keeps.iteP
    | with_reducible decide
    | with_reducible refine Keeps.of_eq (by assumption) ?_
    | split

theorem keeps_coverReview : ∀ a0, Keeps 0x200000000000411d800000000007400008000310000c0d00000006e0007cc1d9f0a4b33e700020700000000000080010014020004000600000100020981a0291000100e000000000140 a0 (coverReview a0) := by
  intro a0
  have h0 : Keeps 0x200000000000411d800000000007400008000310000c0d00000006e0007cc1d9f0a4b33e700020700000000000080010014020004000600000100020981a0291000100e000000000140 a0 a0 := Keeps.refl _
  unfold coverReview
  repeat' first
    | with_reducible assumption
    | ((with_reducible refine SafField.upd_of ?_); intro i x hi; cases i <;> first | exact Keeps.no rfl hi | exact rfl | (split <;> rfl) | ((repeat' split) <;> rfl))
    | intro _
    | (extract_lets +onlyGivenNames x; refine Keeps.cut x ?_ (fun hx => ?_); (revert x; show Keeps _ _ _); on_goal 2 => clear_value x)
    | (extract_lets +onlyGivenNames x; clear_value x)
    | with_reducible apply Keeps.step (keeps_State_log _ _ _)
    | with_reducible refine Keeps.modSaf ?_ ?_
    | with_reducible apply Keeps.setBit .SAF_STATUS group_SAF_STATUS
    | with_reducible apply Keeps.setBit .MOD_STATUS group_MOD_STATUS
    | with_reducible apply Keeps.step (keeps_demandStop _ _)
    | with_reducible apply Keeps.step (keeps_immediateDemand _ _ _)
    | with_reducible apply Keeps.ite
    | with_reducible apply Keeps.iteP
    | with_reducible decide
    | split

theorem keeps_keystoneChecks : ∀ a0, Keeps 0x2000000000004201800000000007400008000310000c0d00000006e0007cc1d9f0a4b33e700000000000000000080010014020004000200000100020981a0201000100e000000000140 a0 (keystoneChecks a0) := by
  intro a0
  have h0 : Keeps 0x2000000000004201800000000007400008000310000c0d00000006e0007cc1d9f0a4b33e700000000000000000080010014020004000200000100020981a0201000100e000000000140 a0 a0 := Keeps.refl _
  unfold keystoneChecks
  repeat' first
    | with_reducible assumption
    | ((with_reducible refine SafField.upd_of ?_); intro i x hi; cases i <;> first | exact Keeps.no rfl hi | exact rfl | (split <;> rfl) | ((repeat' split) <;> rfl))
    | intro _
    | (extract_lets +onlyGivenNames x; refine Keeps.cut x ?_ (fun hx => ?_); (revert x; show Keeps _ _ _); on_goal 2 => clear_value x)
    | (extract_lets +onlyGivenNames x; clear_value x)
    | with_reducible apply Keeps.step (keeps_State_log _ _ _)
    | with_reducible refine Keeps.modSaf ?_ ?_
    | with_reducible apply Keeps.step (keeps_stageSafe _ _ _)
    | with_reducible apply Keeps.foldl
    | with_reducible apply Keeps.foldlP
    | with_reducible apply Keeps.ite
    | with_reducible apply Keeps.iteP
    | with_reducible decide
    | with_reducible refine Keeps.of_eq (by assumption) ?_
    | split

theorem keeps_socFault : ∀ a0 a1, Keeps 0x400080000000000000000000000000000000000000000000000000000000000000000000000000000000014000000000000000000000000000010000000000000000000 a1 (socFault a0 a1) := by
  intro a0 a1
  have h0 : Keeps 0x400080000000000000000000000000000000000000000000000000000000000000000000000000000000014000000000000000000000000000010000000000000000000 a1 a1 := Keeps.refl _
  unfold socFault
  repeat' first
    | with_reducible assumption
    | intro _
    | with_reducible apply Keeps.step (keeps_State_modSoc _ _ _)
    | with_reducible apply Keeps.step (keeps_showSoc _ _)
    | with_reducible decide

theorem keeps_closeDiscrepancy : ∀ a0 a1, Keeps 0x400080000000000000000000000000000000000000000000000000000000000000000000000000000000014000004000000000000000000000010000000000000000100 a1 (closeDiscrepancy a0 a1) := by
  intro a0 a1
  have h0 : Keeps 0x400080000000000000000000000000000000000000000000000000000000000000000000000000000000014000004000000000000000000000010000000000000000100 a1 a1 := Keeps.refl _
  unfold closeDiscrepancy
  repeat' first
    | with_reducible assumption
    | intro _
    | (extract_lets +onlyGivenNames x; clear_value x)
    | with_reducible apply Keeps.step (keeps_State_log _ _ _)
    | with_reducible apply Keeps.step (keeps_socFault _ _)
    | with_reducible apply Keeps.ite
    | with_reducible apply Keeps.iteP
    | with_reducible decide
    | split

theorem keeps_openDiscrepancy : ∀ a0 a1, Keeps 0x404080000000000000000000000000000000000000000000000000000000000010000000000000000000014000004000000000000000000000010000000000000000100 a1 (openDiscrepancy a0 a1) := by
  intro a0 a1
  have h0 : Keeps 0x404080000000000000000000000000000000000000000000000000000000000010000000000000000000014000004000000000000000000000010000000000000000100 a1 a1 := Keeps.refl _
  unfold openDiscrepancy
  repeat' first
    | with_reducible assumption
    | intro _
    | (extract_lets +onlyGivenNames x; clear_value x)
    | with_reducible apply Keeps.step (keeps_latchFault _ _ _)
    | with_reducible apply Keeps.step (keeps_socFault _ _)
    | with_reducible apply Keeps.ite
    | with_reducible apply Keeps.iteP
    | with_reducible decide
    | split

theorem keeps_proofReview : ∀ a0 a1, Keeps 0x16000004000000000000000000000000000000000000000100 a1 (proofReview a0 a1) := by
  intro a0 a1
  have h0 : Keeps 0x16000004000000000000000000000000000000000000000100 a1 a1 := Keeps.refl _
  unfold proofReview
  repeat' first
    | with_reducible assumption
    | intro _
    | (extract_lets +onlyGivenNames x; refine Keeps.cut x ?_ (fun hx => ?_); (revert x; show Keeps _ _ _); on_goal 2 => clear_value x)
    | (extract_lets +onlyGivenNames x; clear_value x)
    | with_reducible apply Keeps.step (keeps_State_log _ _ _)
    | with_reducible apply Keeps.setBit .SAF_STATUS group_SAF_STATUS
    | with_reducible apply Keeps.setBit .SAF_SOC_STATUS (group_SAF_SOC_STATUS _)
    | with_reducible apply Keeps.setN .SAF_SOC_SINCE_PROOF (group_SAF_SOC_SINCE_PROOF _)
    | with_reducible apply Keeps.ite
    | with_reducible apply Keeps.iteP
    | with_reducible decide
    | split

theorem keeps_tellOwner : ∀ a0 a1 a2, Keeps 0x400080000000000000000800030f80300100000018000000000ffea6b358200000000000000000000011255020004000000000000020981000010001000000000000500 a2 (tellOwner a0 a1 a2) := by
  intro a0 a1 a2
  have h0 : Keeps 0x400080000000000000000800030f80300100000018000000000ffea6b358200000000000000000000011255020004000000000000020981000010001000000000000500 a2 a2 := Keeps.refl _
  unfold tellOwner
  repeat' first
    | with_reducible assumption
    | ((with_reducible refine ShrField.upd_of ?_); intro i x hi; cases i <;> first | exact Keeps.no rfl hi | exact rfl | (split <;> rfl) | ((repeat' split) <;> rfl))
    | intro _
    | (extract_lets +onlyGivenNames x; refine Keeps.cut x ?_ (fun hx => ?_); (revert x; show Keeps _ _ _); on_goal 2 => clear_value x)
    | (extract_lets +onlyGivenNames x; clear_value x)
    | with_reducible refine Keeps.modShare ?_ ?_
    | with_reducible apply Keeps.setBit .SHR_STATUS (group_SHR_STATUS _)
    | with_reducible apply Keeps.step (keeps_contactorConfirmed _ _)
    | with_reducible apply Keeps.step (keeps_joinGlide _ _)
    | with_reducible apply Keeps.ite
    | with_reducible apply Keeps.iteP
    | with_reducible decide
    | with_reducible refine Keeps.of_eq (by assumption) ?_
    | split

theorem keeps_auxReview : ∀ a0 a1, Keeps 0x400080000000000000000800030f80300100000018000000000ffea6b358200000000000000000000011257020004000000000000020981000010001000000000000500 a1 (auxReview a0 a1) := by
  intro a0 a1
  have h0 : Keeps 0x400080000000000000000800030f80300100000018000000000ffea6b358200000000000000000000011257020004000000000000020981000010001000000000000500 a1 a1 := Keeps.refl _
  unfold auxReview
  repeat' first
    | with_reducible assumption
    | intro _
    | (extract_lets +onlyGivenNames x; refine Keeps.cut x ?_ (fun hx => ?_); (revert x; show Keeps _ _ _); on_goal 2 => clear_value x)
    | (extract_lets +onlyGivenNames x; clear_value x)
    | with_reducible apply Keeps.step (keeps_State_modSoc _ _ _)
    | with_reducible apply Keeps.setBit .SAF_STATUS group_SAF_STATUS
    | with_reducible apply Keeps.setBit .SAF_SOC_STATUS (group_SAF_SOC_STATUS _)
    | with_reducible apply Keeps.step (keeps_proofReview _ _)
    | with_reducible apply Keeps.step (keeps_showSoc _ _)
    | with_reducible apply Keeps.step (keeps_tellOwner _ _ _)
    | with_reducible apply Keeps.ite
    | with_reducible apply Keeps.iteP
    | with_reducible decide
    | split

end Sys2Proof.Machine
end

