-- ==== Sys2Proof/Laws/KeepsSetOps.lean ====
section
/-!
SUPPORT. What each operation of Machine/SetOps.lean may change.
-/

set_option linter.unusedTactic false
set_option linter.tactic.unusedName false
set_option linter.unreachableTactic false

namespace Sys2Proof.Machine

theorem keeps_countOffPlan : ∀ a0 a1 a2, Keeps 0x2004000000000000000000000000000000000000000100 a2 (countOffPlan a0 a1 a2) := by
  intro a0 a1 a2
  have h0 : Keeps 0x2004000000000000000000000000000000000000000100 a2 a2 := Keeps.refl _
  unfold countOffPlan
  repeat' first
    | with_reducible assumption
    | intro _
    | with_reducible apply Keeps.step (keeps_State_logOnce _ _ _ _)
    | with_reducible apply Keeps.setN .PIE_OFFPLAN_COUNT (group_PIE_OFFPLAN_COUNT _)
    | with_reducible apply Keeps.ite
    | with_reducible apply Keeps.iteP
    | with_reducible decide
    | split

theorem keeps_markOffPlan : ∀ a0 a1 a2, Keeps 0x2000000000000000000000000000000000000000000000000000000000000000000000000000000000000000000000000000000000000000000 a2 (markOffPlan a0 a1 a2) := by
  intro a0 a1 a2
  have h0 : Keeps 0x2000000000000000000000000000000000000000000000000000000000000000000000000000000000000000000000000000000000000000000 a2 a2 := Keeps.refl _
  unfold markOffPlan
  repeat' first
    | with_reducible assumption
    | intro _
    | (extract_lets +onlyGivenNames x; clear_value x)
    | with_reducible apply Keeps.step (keeps_State_modAdc _ _ _)
    | with_reducible apply Keeps.foldl
    | with_reducible apply Keeps.foldlP
    | with_reducible apply Keeps.ite
    | with_reducible apply Keeps.iteP
    | with_reducible decide
    | split

theorem keeps_offPlanFired : ∀ a0 a1 a2 a3 a4, Keeps 0x2000000000000000000000000000000000000000000000000000000000000000000002004000000000000000000000000000000000000000100 a4 (offPlanFired a0 a1 a2 a3 a4) := by
  intro a0 a1 a2 a3 a4
  have h0 : Keeps 0x2000000000000000000000000000000000000000000000000000000000000000000002004000000000000000000000000000000000000000100 a4 a4 := Keeps.refl _
  unfold offPlanFired
  repeat' first
    | with_reducible assumption
    | intro _
    | (extract_lets +onlyGivenNames x; clear_value x)
    | with_reducible apply Keeps.step (keeps_countOffPlan _ _ _)
    | with_reducible apply Keeps.step (keeps_markOffPlan _ _ _)
    | with_reducible decide

theorem keeps_edgeCancelProvisional : ∀ a0 a1, Keeps 0x2000010000000000000000000000000000000000000000000000000000000000000002004000000000000000000000000000000000000000100 a1 (edgeCancelProvisional a0 a1) := by
  intro a0 a1
  have h0 : Keeps 0x2000010000000000000000000000000000000000000000000000000000000000000002004000000000000000000000000000000000000000100 a1 a1 := Keeps.refl _
  unfold edgeCancelProvisional
  repeat' first
    | with_reducible assumption
    | intro _
    | (extract_lets +onlyGivenNames x; refine Keeps.cut x ?_ (fun hx => ?_); (revert x; show Keeps _ _ _); on_goal 2 => clear_value x)
    | (extract_lets +onlyGivenNames x; clear_value x)
    | with_reducible apply Keeps.step (keeps_State_modCh _ _ _)
    | with_reducible apply Keeps.step (keeps_offPlanFired _ _ _ _ _)
    | with_reducible apply Keeps.foldl
    | with_reducible apply Keeps.foldlP
    | with_reducible apply Keeps.ite
    | with_reducible apply Keeps.iteP
    | with_reducible decide
    | split

end Sys2Proof.Machine
end

