-- ==== Sys2Proof/Laws/KeepsSharing.lean ====
section
/-!
SUPPORT. What each operation of Machine/Sharing.lean may change.
-/

set_option linter.unusedTactic false
set_option linter.tactic.unusedName false
set_option linter.unreachableTactic false

namespace Sys2Proof.Machine

theorem keeps_awaitLive : ∀ a0 a1, Keeps 0x1000000000000000000000000010000000000000000000000000000000000000000000000000000 a1 (awaitLive a0 a1) := by
  intro a0 a1
  have h0 : Keeps 0x1000000000000000000000000010000000000000000000000000000000000000000000000000000 a1 a1 := Keeps.refl _
  unfold awaitLive
  repeat' first
    | with_reducible assumption
    | ((with_reducible refine ShrField.upd_of ?_); intro i x hi; cases i <;> first | exact Keeps.no rfl hi | exact rfl | (split <;> rfl) | ((repeat' split) <;> rfl))
    | intro _
    | with_reducible refine Keeps.modShare ?_ ?_
    | with_reducible apply Keeps.step (keeps_showClaim _ _)
    | with_reducible decide

theorem keeps_lineTurned : ∀ a0 a1, Keeps 0x400080000000000000000800030f80300100000018000000000f1efc9358200000000000000000000011255020004000000000000020981000010001000000000000500 a1 (lineTurned a0 a1) := by
  intro a0 a1
  have h0 : Keeps 0x400080000000000000000800030f80300100000018000000000f1efc9358200000000000000000000011255020004000000000000020981000010001000000000000500 a1 a1 := Keeps.refl _
  unfold lineTurned
  repeat' first
    | with_reducible assumption
    | ((with_reducible refine ShrField.upd_of ?_); intro i x hi; cases i <;> first | exact Keeps.no rfl hi | exact rfl | (split <;> rfl) | ((repeat' split) <;> rfl))
    | intro _
    | (extract_lets +onlyGivenNames x; refine Keeps.cut x ?_ (fun hx => ?_); (revert x; show Keeps _ _ _); on_goal 2 => clear_value x)
    | (extract_lets +onlyGivenNames x; clear_value x)
    | with_reducible refine Keeps.modShare ?_ ?_
    | with_reducible apply Keeps.step (keeps_awaitLive _ _)
    | with_reducible apply Keeps.step (keeps_beginSync _ _)
    | with_reducible apply Keeps.step (keeps_beginWait _ _)
    | with_reducible apply Keeps.ite
    | with_reducible apply Keeps.iteP
    | with_reducible decide
    | with_reducible refine Keeps.of_eq (by assumption) ?_
    | split

theorem keeps_trackLine : ∀ a0 a1 a2, Keeps 0x400080000000000000000800030f80300100000018000000000f1efc9f5820000000000000000000001d255020004000000000000020981000010001000000000000500 a2 (trackLine a0 a1 a2) := by
  intro a0 a1 a2
  have h0 : Keeps 0x400080000000000000000800030f80300100000018000000000f1efc9f5820000000000000000000001d255020004000000000000020981000010001000000000000500 a2 a2 := Keeps.refl _
  unfold trackLine
  repeat' first
    | with_reducible assumption
    | ((with_reducible refine ShrField.upd_of ?_); intro i x hi; cases i <;> first | exact Keeps.no rfl hi | exact rfl | (split <;> rfl) | ((repeat' split) <;> rfl))
    | intro _
    | (extract_lets +onlyGivenNames x; refine Keeps.cut x ?_ (fun hx => ?_); (revert x; show Keeps _ _ _); on_goal 2 => clear_value x)
    | (extract_lets +onlyGivenNames x; clear_value x)
    | with_reducible refine Keeps.modShare ?_ ?_
    | with_reducible apply Keeps.setR .SHR_LINE_F (group_SHR_LINE_F _)
    | with_reducible apply Keeps.setR .SHR_LINE_V (group_SHR_LINE_V _)
    | with_reducible apply Keeps.step (keeps_lineTurned _ _)
    | with_reducible apply Keeps.ite
    | with_reducible apply Keeps.iteP
    | with_reducible decide
    | split

theorem keeps_rampStep : ∀ a0 a1 a2, Keeps 0x18000000000000000000000000000010000000000000000000000000000000000000000000000000000 a2 (rampStep a0 a1 a2).2 := by
  intro a0 a1 a2
  have h0 : Keeps 0x18000000000000000000000000000010000000000000000000000000000000000000000000000000000 a2 a2 := Keeps.refl _
  unfold rampStep
  repeat' first
    | with_reducible assumption
    | ((with_reducible refine ShrField.upd_of ?_); intro i x hi; cases i <;> first | exact Keeps.no rfl hi | exact rfl | (split <;> rfl) | ((repeat' split) <;> rfl))
    | intro _
    | (extract_lets +onlyGivenNames x; refine Keeps.cut x ?_ (fun hx => ?_); (revert x; show Keeps _ _ _); on_goal 2 => clear_value x)
    | (extract_lets +onlyGivenNames x; clear_value x)
    | with_reducible refine Keeps.modShare ?_ ?_
    | with_reducible apply Keeps.setBit .SHR_STATUS (group_SHR_STATUS _)
    | with_reducible apply Keeps.ite
    | with_reducible apply Keeps.iteP
    | with_reducible decide
    | split

theorem keeps_publishDiffs : ∀ a0 a1 a2, Keeps 0xd00000000000000000000000000000000000000000000000000 a2 (publishDiffs a0 a1 a2) := by
  intro a0 a1 a2
  have h0 : Keeps 0xd00000000000000000000000000000000000000000000000000 a2 a2 := Keeps.refl _
  unfold publishDiffs
  repeat' first
    | with_reducible assumption
    | intro _
    | with_reducible apply Keeps.setR .SHR_DELTA_F (group_SHR_DELTA_F _)
    | with_reducible apply Keeps.setR .SHR_DELTA_V (group_SHR_DELTA_V _)
    | with_reducible apply Keeps.setR .SHR_DELTA_THETA (group_SHR_DELTA_THETA _)
    | with_reducible apply Keeps.ite
    | with_reducible apply Keeps.iteP
    | with_reducible decide
    | split

theorem keeps_syncStep : ∀ a0 a1 a2, Keeps 0x1200000000000000000000000000010d00000004000000000000000000000000000000000000000100 a2 (syncStep a0 a1 a2).2 := by
  intro a0 a1 a2
  have h0 : Keeps 0x1200000000000000000000000000010d00000004000000000000000000000000000000000000000100 a2 a2 := Keeps.refl _
  unfold syncStep
  repeat' first
    | with_reducible assumption
    | ((with_reducible refine ShrField.upd_of ?_); intro i x hi; cases i <;> first | exact Keeps.no rfl hi | exact rfl | (split <;> rfl) | ((repeat' split) <;> rfl))
    | intro _
    | (extract_lets +onlyGivenNames x; refine Keeps.cut x ?_ (fun hx => ?_); (revert x; show Keeps _ _ _); on_goal 2 => clear_value x)
    | (extract_lets +onlyGivenNames x; clear_value x)
    | with_reducible apply Keeps.step (keeps_State_log _ _ _)
    | with_reducible refine Keeps.modShare ?_ ?_
    | with_reducible apply Keeps.setBit .SHR_STATUS (group_SHR_STATUS _)
    | with_reducible apply Keeps.step (keeps_publishDiffs _ _ _)
    | with_reducible apply Keeps.ite
    | with_reducible apply Keeps.iteP
    | with_reducible decide
    | with_reducible refine Keeps.of_eq (by assumption) ?_
    | split

theorem keeps_applyAnchor : ∀ a0 a1 a2, Keeps 0x4000000000800000000000000000000003f80000000000000000000000000000033240000004000000000000000000000000000000000000000100 a2 (applyAnchor a0 a1 a2).2 := by
  intro a0 a1 a2
  have h0 : Keeps 0x4000000000800000000000000000000003f80000000000000000000000000000033240000004000000000000000000000000000000000000000100 a2 a2 := Keeps.refl _
  unfold applyAnchor
  repeat' first
    | with_reducible assumption
    | ((with_reducible refine PieField.upd_of ?_); intro i x hi; cases i <;> first | exact Keeps.no rfl hi | exact rfl | (split <;> rfl) | ((repeat' split) <;> rfl))
    | ((with_reducible refine ShrField.upd_of ?_); intro i x hi; cases i <;> first | exact Keeps.no rfl hi | exact rfl | (split <;> rfl) | ((repeat' split) <;> rfl))
    | intro _
    | (extract_lets +onlyGivenNames x; refine Keeps.cutF x ?_ (fun hx => ?_); (on_goal 1 => (intros; unfold x)); on_goal 2 => clear_value x)
    | (extract_lets +onlyGivenNames x; refine Keeps.cutF1 x ?_ (fun hx => ?_); (on_goal 1 => (intros; unfold x)); on_goal 2 => clear_value x)
    | (with_reducible apply_assumption (exfalso := false) (symm := false))
    | (extract_lets +onlyGivenNames x; refine Keeps.cut x ?_ (fun hx => ?_); (revert x; show Keeps _ _ _); on_goal 2 => clear_value x)
    | (extract_lets +onlyGivenNames x; clear_value x)
    | with_reducible apply Keeps.bump .SHR_ANCHOR_COUNT (group_SHR_ANCHOR_COUNT _)
    | with_reducible apply Keeps.step (keeps_State_log _ _ _)
    | with_reducible refine Keeps.modPier ?_ ?_
    | with_reducible refine Keeps.modShare ?_ ?_
    | with_reducible apply Keeps.setBit .SHR_STATUS (group_SHR_STATUS _)
    | with_reducible apply Keeps.setR .SHR_DELTA_F_REST (group_SHR_DELTA_F_REST _)
    | with_reducible apply Keeps.setR .SHR_V_MEAN (group_SHR_V_MEAN _)
    | with_reducible apply Keeps.setR .SHR_DELTA_V_REST (group_SHR_DELTA_V_REST _)
    | with_reducible apply Keeps.setR .SHR_F_MEAN (group_SHR_F_MEAN _)
    | with_reducible apply Keeps.step (keeps_galFlag _ _ _)
    | with_reducible apply Keeps.ite
    | with_reducible apply Keeps.iteP
    | with_reducible decide
    | with_reducible refine Keeps.of_eq (by assumption) ?_
    | split

theorem keeps_restoration : ∀ a0 a1 a2, Keeps 0x4000000000800000000000000000000003f80000000000000000000000000000033240000004000000000000000000000000000000000000000100 a2 (restoration a0 a1 a2).2 := by
  intro a0 a1 a2
  have h0 : Keeps 0x4000000000800000000000000000000003f80000000000000000000000000000033240000004000000000000000000000000000000000000000100 a2 a2 := Keeps.refl _
  unfold restoration
  repeat' first
    | with_reducible assumption
    | ((with_reducible refine ShrField.upd_of ?_); intro i x hi; cases i <;> first | exact Keeps.no rfl hi | exact rfl | (split <;> rfl) | ((repeat' split) <;> rfl))
    | intro _
    | (extract_lets +onlyGivenNames x; refine Keeps.cut x ?_ (fun hx => ?_); (revert x; show Keeps _ _ _); on_goal 2 => clear_value x)
    | (extract_lets +onlyGivenNames x; clear_value x)
    | with_reducible refine Keeps.modShare ?_ ?_
    | with_reducible apply Keeps.step (keeps_applyAnchor _ _ _)
    | with_reducible apply Keeps.step (keeps_suspend _ _ _)
    | with_reducible apply Keeps.ite
    | with_reducible apply Keeps.iteP
    | with_reducible decide
    | with_reducible refine Keeps.of_eq (by assumption) ?_
    | split

theorem keeps_takeAnchor : ∀ a0 a1, Keeps 0x3800000000000000000000000000000010000000004000000000000000000000000000000000000000100 a1 (takeAnchor a0 a1) := by
  intro a0 a1
  have h0 : Keeps 0x3800000000000000000000000000000010000000004000000000000000000000000000000000000000100 a1 a1 := Keeps.refl _
  unfold takeAnchor
  repeat' first
    | with_reducible assumption
    | ((with_reducible refine ShrField.upd_of ?_); intro i x hi; cases i <;> first | exact Keeps.no rfl hi | exact rfl | (split <;> rfl) | ((repeat' split) <;> rfl))
    | intro _
    | with_reducible refine Keeps.modShare ?_ ?_
    | with_reducible apply Keeps.step (keeps_suspend _ _ _)
    | with_reducible apply Keeps.ite
    | with_reducible apply Keeps.iteP
    | with_reducible decide
    | split

theorem keeps_execAnchorInstant : ∀ a0 a1, KeepsR 0x3800000000000000000000000000000010000000004000000000000000000000000000000000000000100 a1 (execAnchorInstant a0 a1) := by
  intro a0 a1
  have h0 : Keeps 0x3800000000000000000000000000000010000000004000000000000000000000000000000000000000100 a1 a1 := Keeps.refl _
  unfold execAnchorInstant
  repeat' first
    | with_reducible assumption
    | intro _
    | with_reducible apply Keeps.accepted
    | with_reducible apply KeepsR.next
    | with_reducible apply KeepsR.ite
    | with_reducible apply Keeps.on
    | with_reducible apply Keeps.step (keeps_takeAnchor _ _)
    | with_reducible apply Keeps.ite
    | with_reducible apply Keeps.iteP
    | with_reducible decide
    | split

theorem keeps_claimNow : ∀ a0 a1 a2, Keeps 0x400080000000000000000800030f80300100000018000000000f1ffdf358200000000000000000000011255020004000000000000020981000010001000000000000500 a2 (claimNow a0 a1 a2) := by
  intro a0 a1 a2
  have h0 : Keeps 0x400080000000000000000800030f80300100000018000000000f1ffdf358200000000000000000000011255020004000000000000020981000010001000000000000500 a2 a2 := Keeps.refl _
  unfold claimNow
  repeat' first
    | with_reducible assumption
    | intro _
    | with_reducible apply Keeps.step (keeps_State_log _ _ _)
    | with_reducible apply Keeps.step (keeps_awaitLive _ _)
    | with_reducible apply Keeps.step (keeps_beginSync _ _)
    | with_reducible apply Keeps.step (keeps_commandClose _ _ _)
    | with_reducible apply Keeps.ite
    | with_reducible apply Keeps.iteP
    | with_reducible decide
    | split

theorem keeps_execClaimSlotReached : ∀ a0 a1, KeepsR 0x400080000000000000000800030f80300100000018000000000f1ffdf358200000000000000000000011255020004000000000000020981000010001000000000000500 a1 (execClaimSlotReached a0 a1) := by
  intro a0 a1
  have h0 : Keeps 0x400080000000000000000800030f80300100000018000000000f1ffdf358200000000000000000000011255020004000000000000020981000010001000000000000500 a1 a1 := Keeps.refl _
  unfold execClaimSlotReached
  repeat' first
    | with_reducible assumption
    | ((with_reducible refine ShrField.upd_of ?_); intro i x hi; cases i <;> first | exact Keeps.no rfl hi | exact rfl | (split <;> rfl) | ((repeat' split) <;> rfl))
    | intro _
    | with_reducible apply Keeps.accepted
    | with_reducible apply KeepsR.next
    | with_reducible apply KeepsR.ite
    | with_reducible refine Keeps.modShare ?_ ?_
    | with_reducible apply Keeps.on
    | with_reducible apply Keeps.step (keeps_claimNow _ _ _)
    | with_reducible apply Keeps.step (keeps_showClaim _ _)
    | with_reducible apply Keeps.ite
    | with_reducible apply Keeps.iteP
    | with_reducible decide
    | with_reducible refine Keeps.of_eq (by assumption) ?_
    | split

theorem keeps_execClaimHoldoffExpiry : ∀ a0 a1, KeepsR 0x400080000000000000000800030f80300100000018000000000f1ffdf358200000000000000000000011255020004000000000000020981000010001000000000000500 a1 (execClaimHoldoffExpiry a0 a1) := by
  intro a0 a1
  have h0 : Keeps 0x400080000000000000000800030f80300100000018000000000f1ffdf358200000000000000000000011255020004000000000000020981000010001000000000000500 a1 a1 := Keeps.refl _
  unfold execClaimHoldoffExpiry
  repeat' first
    | with_reducible assumption
    | intro _
    | with_reducible apply Keeps.accepted
    | with_reducible apply KeepsR.next
    | with_reducible apply KeepsR.ite
    | with_reducible apply Keeps.on
    | with_reducible apply Keeps.step (keeps_claimNow _ _ _)
    | with_reducible apply Keeps.ite
    | with_reducible apply Keeps.iteP
    | with_reducible decide
    | with_reducible refine Keeps.of_eq (by assumption) ?_
    | split

theorem keeps_execContactorCloseTimeout : ∀ a0 a1, KeepsR 0x2000000000004001800000000007400008000310000c0d00000006e0007cc1d9f0a4b33e700000000000000000080010014020004000200000100020981a0201000100e000000000140 a1 (execContactorCloseTimeout a0 a1) := by
  intro a0 a1
  have h0 : Keeps 0x2000000000004001800000000007400008000310000c0d00000006e0007cc1d9f0a4b33e700000000000000000080010014020004000200000100020981a0201000100e000000000140 a1 a1 := Keeps.refl _
  unfold execContactorCloseTimeout
  repeat' first
    | with_reducible assumption
    | ((with_reducible refine ShrField.upd_of ?_); intro i x hi; cases i <;> first | exact Keeps.no rfl hi | exact rfl | (split <;> rfl) | ((repeat' split) <;> rfl))
    | intro _
    | with_reducible apply Keeps.accepted
    | with_reducible apply KeepsR.next
    | with_reducible apply KeepsR.ite
    | (extract_lets +onlyGivenNames x; refine Keeps.cut x ?_ (fun hx => ?_); (revert x; show Keeps _ _ _); on_goal 2 => clear_value x)
    | (extract_lets +onlyGivenNames x; clear_value x)
    | with_reducible apply Keeps.step (keeps_State_log _ _ _)
    | with_reducible refine Keeps.modShare ?_ ?_
    | with_reducible apply Keeps.step (keeps_socOpenStage _ _)
    | with_reducible apply Keeps.step (keeps_stageSafe _ _ _)
    | with_reducible apply Keeps.ite
    | with_reducible apply Keeps.iteP
    | with_reducible decide
    | with_reducible refine Keeps.of_eq (by assumption) ?_
    | split

theorem keeps_execRampTimeout : ∀ a0 a1, KeepsR 0x2000000000004001800000000007400008000310000c0d00000006e0007cc1d9f0a4b33e700000000000000000080010014020004000200000100020981a0201000100e000000000140 a1 (execRampTimeout a0 a1) := by
  intro a0 a1
  have h0 : Keeps 0x2000000000004001800000000007400008000310000c0d00000006e0007cc1d9f0a4b33e700000000000000000080010014020004000200000100020981a0201000100e000000000140 a1 a1 := Keeps.refl _
  unfold execRampTimeout
  repeat' first
    | with_reducible assumption
    | intro _
    | with_reducible apply Keeps.accepted
    | with_reducible apply KeepsR.next
    | with_reducible apply KeepsR.ite
    | (extract_lets +onlyGivenNames x; clear_value x)
    | with_reducible apply Keeps.step (keeps_State_log _ _ _)
    | with_reducible apply Keeps.step (keeps_stageSafe _ _ _)
    | with_reducible apply Keeps.ite
    | with_reducible apply Keeps.iteP
    | with_reducible decide
    | split

theorem keeps_closeTie : ∀ a0 a1 a2, Keeps 0x400080000000000000000000000000000000000000000000000001008000000000000000000000000000015000004000000000000000000000010000000000000000100 a2 (closeTie a0 a1 a2) := by
  intro a0 a1 a2
  have h0 : Keeps 0x400080000000000000000000000000000000000000000000000001008000000000000000000000000000015000004000000000000000000000010000000000000000100 a2 a2 := Keeps.refl _
  unfold closeTie
  repeat' first
    | with_reducible assumption
    | ((with_reducible refine ShrField.upd_of ?_); intro i x hi; cases i <;> first | exact Keeps.no rfl hi | exact rfl | (split <;> rfl) | ((repeat' split) <;> rfl))
    | intro _
    | (extract_lets +onlyGivenNames x; refine Keeps.cut x ?_ (fun hx => ?_); (revert x; show Keeps _ _ _); on_goal 2 => clear_value x)
    | (extract_lets +onlyGivenNames x; clear_value x)
    | with_reducible apply Keeps.step (keeps_State_log _ _ _)
    | with_reducible refine Keeps.modShare ?_ ?_
    | with_reducible apply Keeps.step (keeps_socCloseTie _)
    | with_reducible apply Keeps.ite
    | with_reducible apply Keeps.iteP
    | with_reducible decide
    | split

theorem keeps_execSyncDwellExpiry : ∀ a0 a1, KeepsR 0x40008000000000000000000000000000000000000000000000000101f000000000000000000000000010015000004000000000000000000000010000000000000000100 a1 (execSyncDwellExpiry a0 a1) := by
  intro a0 a1
  have h0 : Keeps 0x40008000000000000000000000000000000000000000000000000101f000000000000000000000000010015000004000000000000000000000010000000000000000100 a1 a1 := Keeps.refl _
  unfold execSyncDwellExpiry
  repeat' first
    | with_reducible assumption
    | intro _
    | with_reducible apply Keeps.accepted
    | with_reducible apply KeepsR.next
    | with_reducible apply KeepsR.ite
    | (extract_lets +onlyGivenNames x; clear_value x)
    | with_reducible apply Keeps.step (keeps_closeTie _ _ _)
    | with_reducible apply Keeps.step (keeps_commandClose _ _ _)
    | with_reducible apply Keeps.ite
    | with_reducible apply Keeps.iteP
    | with_reducible decide
    | with_reducible refine Keeps.of_eq (by assumption) ?_
    | split

theorem keeps_execSyncTimeout : ∀ a0 a1, KeepsR 0x2000000000004001800000000007400008000310000c0d00000006e0007cc1d9f0a4b33e700000000000000000080010014020004000200000100020981a0201000100e000000000140 a1 (execSyncTimeout a0 a1) := by
  intro a0 a1
  have h0 : Keeps 0x2000000000004001800000000007400008000310000c0d00000006e0007cc1d9f0a4b33e700000000000000000080010014020004000200000100020981a0201000100e000000000140 a1 a1 := Keeps.refl _
  unfold execSyncTimeout
  repeat' first
    | with_reducible assumption
    | intro _
    | with_reducible apply Keeps.accepted
    | with_reducible apply KeepsR.next
    | with_reducible apply KeepsR.ite
    | (extract_lets +onlyGivenNames x; clear_value x)
    | with_reducible apply Keeps.step (keeps_State_log _ _ _)
    | with_reducible apply Keeps.step (keeps_stageSafe _ _ _)
    | with_reducible apply Keeps.ite
    | with_reducible apply Keeps.iteP
    | with_reducible decide
    | split

theorem keeps_execSyncLineDeadTimeout : ∀ a0 a1, KeepsR 0x4001800000000000000008000310004c0d00000006e0007cc1d9f0a4b328200000000000000000080010014020004000000000100020981202010000000000000000500 a1 (execSyncLineDeadTimeout a0 a1) := by
  intro a0 a1
  have h0 : Keeps 0x4001800000000000000008000310004c0d00000006e0007cc1d9f0a4b328200000000000000000080010014020004000000000100020981202010000000000000000500 a1 a1 := Keeps.refl _
  unfold execSyncLineDeadTimeout
  repeat' first
    | with_reducible assumption
    | intro _
    | with_reducible apply Keeps.accepted
    | with_reducible apply KeepsR.next
    | with_reducible apply KeepsR.ite
    | (extract_lets +onlyGivenNames x; clear_value x)
    | with_reducible apply Keeps.step (keeps_beginWait _ _)
    | with_reducible apply Keeps.step (keeps_stageArm _ _)
    | with_reducible apply Keeps.ite
    | with_reducible apply Keeps.iteP
    | with_reducible decide
    | with_reducible refine Keeps.of_eq (by assumption) ?_
    | split

theorem keeps_execJoinGlideEnd : ∀ a0 a1, KeepsR 0x100000000000000000060000000000000000000000000000000000000000000000000000000000000000000000000000000000 a1 (execJoinGlideEnd a0 a1) := by
  intro a0 a1
  have h0 : Keeps 0x100000000000000000060000000000000000000000000000000000000000000000000000000000000000000000000000000000 a1 a1 := Keeps.refl _
  unfold execJoinGlideEnd
  repeat' first
    | with_reducible assumption
    | ((with_reducible refine PieField.upd_of ?_); intro i x hi; cases i <;> first | exact Keeps.no rfl hi | exact rfl | (split <;> rfl) | ((repeat' split) <;> rfl))
    | ((with_reducible refine ShrField.upd_of ?_); intro i x hi; cases i <;> first | exact Keeps.no rfl hi | exact rfl | (split <;> rfl) | ((repeat' split) <;> rfl))
    | intro _
    | with_reducible apply Keeps.accepted
    | with_reducible apply KeepsR.next
    | with_reducible apply KeepsR.ite
    | (extract_lets +onlyGivenNames x; refine Keeps.cut x ?_ (fun hx => ?_); (revert x; show Keeps _ _ _); on_goal 2 => clear_value x)
    | (extract_lets +onlyGivenNames x; clear_value x)
    | with_reducible refine Keeps.modPier ?_ ?_
    | with_reducible refine Keeps.modShare ?_ ?_
    | with_reducible apply Keeps.ite
    | with_reducible apply Keeps.iteP
    | with_reducible decide
    | with_reducible refine Keeps.of_eq (by assumption) ?_
    | split

theorem keeps_tieCloseCmd : ∀ a0 a1, Keeps 0x4000800000000000000000000000000000000000000000000018016c8000000000000000000000000010015000004000000000000000000000010000000000000000100 a1 (tieCloseCmd a0 a1).2 := by
  intro a0 a1
  have h0 : Keeps 0x4000800000000000000000000000000000000000000000000018016c8000000000000000000000000010015000004000000000000000000000010000000000000000100 a1 a1 := Keeps.refl _
  unfold tieCloseCmd
  repeat' first
    | with_reducible assumption
    | ((with_reducible refine ShrField.upd_of ?_); intro i x hi; cases i <;> first | exact Keeps.no rfl hi | exact rfl | (split <;> rfl) | ((repeat' split) <;> rfl))
    | intro _
    | (extract_lets +onlyGivenNames x; refine Keeps.cut x ?_ (fun hx => ?_); (revert x; show Keeps _ _ _); on_goal 2 => clear_value x)
    | (extract_lets +onlyGivenNames x; clear_value x)
    | with_reducible apply Keeps.step (keeps_State_log _ _ _)
    | with_reducible refine Keeps.modShare ?_ ?_
    | with_reducible apply Keeps.setBit .SHR_STATUS (group_SHR_STATUS _)
    | with_reducible apply Keeps.step (keeps_closeTie _ _ _)
    | with_reducible apply Keeps.step (keeps_suspend _ _ _)
    | with_reducible apply Keeps.ite
    | with_reducible apply Keeps.iteP
    | with_reducible decide
    | split

theorem keeps_tieOpenCmd : ∀ a0 a1, Keeps 0x400080000000000000000000000000000000000000000000000000248000000000000000000000000010014000000000000000000000000000010000000000000000000 a1 (tieOpenCmd a0 a1) := by
  intro a0 a1
  have h0 : Keeps 0x400080000000000000000000000000000000000000000000000000248000000000000000000000000010014000000000000000000000000000010000000000000000000 a1 a1 := Keeps.refl _
  unfold tieOpenCmd
  repeat' first
    | with_reducible assumption
    | ((with_reducible refine ShrField.upd_of ?_); intro i x hi; cases i <;> first | exact Keeps.no rfl hi | exact rfl | (split <;> rfl) | ((repeat' split) <;> rfl))
    | intro _
    | (extract_lets +onlyGivenNames x; refine Keeps.cut x ?_ (fun hx => ?_); (revert x; show Keeps _ _ _); on_goal 2 => clear_value x)
    | (extract_lets +onlyGivenNames x; clear_value x)
    | with_reducible refine Keeps.modShare ?_ ?_
    | with_reducible apply Keeps.setField .SHR_STATUS (group_SHR_STATUS _)
    | with_reducible apply Keeps.step (keeps_socOpenTie _)
    | with_reducible apply Keeps.ite
    | with_reducible apply Keeps.iteP
    | with_reducible decide
    | split

theorem keeps_execTieClose : ∀ a0 a1 a2, KeepsR 0x1400380000000004000800000000000000000000000000000000000000000000018016c8000000000000000000000000010015000004009000000000000000000010000000000000000140 a2 (execTieClose a0 a1 a2) := by
  intro a0 a1 a2
  have h0 : Keeps 0x1400380000000004000800000000000000000000000000000000000000000000018016c8000000000000000000000000010015000004009000000000000000000010000000000000000140 a2 a2 := Keeps.refl _
  unfold execTieClose
  repeat' first
    | with_reducible assumption
    | intro _
    | with_reducible apply Keeps.accepted
    | with_reducible apply KeepsR.next
    | with_reducible apply KeepsR.ite
    | with_reducible apply Keeps.owned
    | with_reducible apply Keeps.request
    | with_reducible apply Keeps.step (keeps_tieCloseCmd _ _)
    | with_reducible apply Keeps.ite
    | with_reducible apply Keeps.iteP
    | with_reducible decide
    | split

theorem keeps_execTieOpen : ∀ a0 a1 a2, KeepsR 0x140038000000000400080000000000000000000000000000000000000000000000000248000000000000000000000000010014000000009000000000000000000010000000000000000040 a2 (execTieOpen a0 a1 a2) := by
  intro a0 a1 a2
  have h0 : Keeps 0x140038000000000400080000000000000000000000000000000000000000000000000248000000000000000000000000010014000000009000000000000000000010000000000000000040 a2 a2 := Keeps.refl _
  unfold execTieOpen
  repeat' first
    | with_reducible assumption
    | intro _
    | with_reducible apply Keeps.accepted
    | with_reducible apply KeepsR.next
    | with_reducible apply KeepsR.ite
    | with_reducible apply Keeps.owned
    | with_reducible apply Keeps.request
    | with_reducible apply Keeps.step (keeps_tieOpenCmd _ _)
    | with_reducible apply Keeps.ite
    | with_reducible apply Keeps.iteP
    | with_reducible decide
    | split

end Sys2Proof.Machine
end

