-- ==== Sys2Proof/Laws/KeepsRide.lean ====
section
/-!
SUPPORT. What each operation of Machine/Ride.lean may change.
-/

set_option linter.unusedTactic false
set_option linter.tactic.unusedName false
set_option linter.unreachableTactic false

namespace Sys2Proof.Machine

theorem keeps_budgetAdvance : ∀ a0 a1, Keeps 0xe0000000000000000000000000000000000000000000000000000000000000000000000000000000000000 a1 (budgetAdvance a0 a1) := by
  intro a0 a1
  have h0 : Keeps 0xe0000000000000000000000000000000000000000000000000000000000000000000000000000000000000 a1 a1 := Keeps.refl _
  unfold budgetAdvance
  repeat' first
    | with_reducible assumption
    | ((with_reducible refine FrtField.upd_of ?_); intro i x hi; cases i <;> first | exact Keeps.no rfl hi | exact rfl | (split <;> rfl) | ((repeat' split) <;> rfl))
    | intro _
    | (extract_lets +onlyGivenNames x; clear_value x)
    | with_reducible refine Keeps.modRide ?_ ?_
    | with_reducible apply Keeps.ite
    | with_reducible apply Keeps.iteP
    | with_reducible decide
    | split

theorem keeps_rideFailed : ∀ a0 a1, Keeps 0x2000000000004001800000000007400008000310000c0d00000006e0007cc1d9f0a4b33e700020000000000000080010014020004000200000100020981a4201000100e000000000140 a1 (rideFailed a0 a1) := by
  intro a0 a1
  have h0 : Keeps 0x2000000000004001800000000007400008000310000c0d00000006e0007cc1d9f0a4b33e700020000000000000080010014020004000200000100020981a4201000100e000000000140 a1 a1 := Keeps.refl _
  unfold rideFailed
  repeat' first
    | with_reducible assumption
    | intro _
    | (extract_lets +onlyGivenNames x; refine Keeps.cut x ?_ (fun hx => ?_); (revert x; show Keeps _ _ _); on_goal 2 => clear_value x)
    | (extract_lets +onlyGivenNames x; clear_value x)
    | with_reducible apply Keeps.step (keeps_State_log _ _ _)
    | with_reducible apply Keeps.setR .FRT_LAST_RIDE (group_FRT_LAST_RIDE _)
    | with_reducible apply Keeps.step (keeps_demandStop _ _)
    | with_reducible apply Keeps.step (keeps_stageSafe _ _ _)
    | with_reducible decide

theorem keeps_rideEnter : ∀ a0 a1 a2, Keeps 0x2000000000004001800000000007400008000310000c0d00000006e0007cdfd9f0a4b33e700020000000000000080010014020004000200000100020981b6201000100e000000000140 a2 (rideEnter a0 a1 a2) := by
  intro a0 a1 a2
  have h0 : Keeps 0x2000000000004001800000000007400008000310000c0d00000006e0007cdfd9f0a4b33e700020000000000000080010014020004000200000100020981b6201000100e000000000140 a2 a2 := Keeps.refl _
  unfold rideEnter
  repeat' first
    | with_reducible assumption
    | ((with_reducible refine FrtField.upd_of ?_); intro i x hi; cases i <;> first | exact Keeps.no rfl hi | exact rfl | (split <;> rfl) | ((repeat' split) <;> rfl))
    | intro _
    | (extract_lets +onlyGivenNames x; refine Keeps.cut x ?_ (fun hx => ?_); (revert x; show Keeps _ _ _); on_goal 2 => clear_value x)
    | (extract_lets +onlyGivenNames x; clear_value x)
    | with_reducible apply Keeps.bump .FRT_RIDE_COUNT (group_FRT_RIDE_COUNT _)
    | with_reducible apply Keeps.step (keeps_State_log _ _ _)
    | with_reducible refine Keeps.modRide ?_ ?_
    | with_reducible apply Keeps.setBit .FRT_STATUS (group_FRT_STATUS _)
    | with_reducible apply Keeps.setR .FRT_LAST_PEAK (group_FRT_LAST_PEAK _)
    | with_reducible apply Keeps.step (keeps_budgetAdvance _ _)
    | with_reducible apply Keeps.step (keeps_rideFailed _ _)
    | with_reducible apply Keeps.step (keeps_stageSafe _ _ _)
    | with_reducible apply Keeps.step (keeps_suspendAll _ _)
    | with_reducible apply Keeps.ite
    | with_reducible apply Keeps.iteP
    | with_reducible decide
    | split

theorem keeps_withdrawClear : ∀ a0 a1 a2, Keeps 0x4f8000000000000000000000000000000000000000004000000000000000000200000000000000000000100 a2 (withdrawClear a0 a1 a2) := by
  intro a0 a1 a2
  have h0 : Keeps 0x4f8000000000000000000000000000000000000000004000000000000000000200000000000000000000100 a2 a2 := Keeps.refl _
  unfold withdrawClear
  repeat' first
    | with_reducible assumption
    | ((with_reducible refine FrtField.upd_of ?_); intro i x hi; cases i <;> first | exact Keeps.no rfl hi | exact rfl | (split <;> rfl) | ((repeat' split) <;> rfl))
    | intro _
    | (extract_lets +onlyGivenNames x; refine Keeps.cut x ?_ (fun hx => ?_); (revert x; show Keeps _ _ _); on_goal 2 => clear_value x)
    | (extract_lets +onlyGivenNames x; clear_value x)
    | with_reducible apply Keeps.step (keeps_State_log _ _ _)
    | with_reducible refine Keeps.modRide ?_ ?_
    | with_reducible apply Keeps.setBit .FRT_STATUS (group_FRT_STATUS _)
    | with_reducible apply Keeps.step (keeps_budgetAdvance _ _)
    | with_reducible decide

theorem keeps_detectClear : ∀ a0 a1 a2, Keeps 0x4f8000000000000000000000000000000000000000004000000000000000000240000000000000000000100 a2 (detectClear a0 a1 a2) := by
  intro a0 a1 a2
  have h0 : Keeps 0x4f8000000000000000000000000000000000000000004000000000000000000240000000000000000000100 a2 a2 := Keeps.refl _
  unfold detectClear
  repeat' first
    | with_reducible assumption
    | ((with_reducible refine FrtField.upd_of ?_); intro i x hi; cases i <;> first | exact Keeps.no rfl hi | exact rfl | (split <;> rfl) | ((repeat' split) <;> rfl))
    | intro _
    | (extract_lets +onlyGivenNames x; refine Keeps.cut x ?_ (fun hx => ?_); (revert x; show Keeps _ _ _); on_goal 2 => clear_value x)
    | (extract_lets +onlyGivenNames x; clear_value x)
    | with_reducible apply Keeps.step (keeps_State_log _ _ _)
    | with_reducible refine Keeps.modRide ?_ ?_
    | with_reducible apply Keeps.setBit .FRT_STATUS (group_FRT_STATUS _)
    | with_reducible apply Keeps.setR .FRT_LAST_RIDE (group_FRT_LAST_RIDE _)
    | with_reducible apply Keeps.step (keeps_budgetAdvance _ _)
    | with_reducible decide

theorem keeps_rideEnd : ∀ a0 a1 a2, Keeps 0xfc000000000000000000000000000000000000000004000000000000000000200000000000000000000100 a2 (rideEnd a0 a1 a2) := by
  intro a0 a1 a2
  have h0 : Keeps 0xfc000000000000000000000000000000000000000004000000000000000000200000000000000000000100 a2 a2 := Keeps.refl _
  unfold rideEnd
  repeat' first
    | with_reducible assumption
    | ((with_reducible refine FrtField.upd_of ?_); intro i x hi; cases i <;> first | exact Keeps.no rfl hi | exact rfl | (split <;> rfl) | ((repeat' split) <;> rfl))
    | intro _
    | (extract_lets +onlyGivenNames x; refine Keeps.cut x ?_ (fun hx => ?_); (revert x; show Keeps _ _ _); on_goal 2 => clear_value x)
    | (extract_lets +onlyGivenNames x; clear_value x)
    | with_reducible apply Keeps.step (keeps_State_log _ _ _)
    | with_reducible refine Keeps.modRide ?_ ?_
    | with_reducible apply Keeps.setField .FRT_STATUS (group_FRT_STATUS _)
    | with_reducible apply Keeps.step (keeps_budgetAdvance _ _)
    | with_reducible decide

theorem keeps_rideStep : ∀ a0 a1 a2 a3 a4, Keeps 0x2000000000004001800000000007400008000310000c0d00000006e0007cdfd9f0a4b33e700020000000000000080010014020004000200000100020981b6201000100e000000000140 a4 (rideStep a0 a1 a2 a3 a4) := by
  intro a0 a1 a2 a3 a4
  have h0 : Keeps 0x2000000000004001800000000007400008000310000c0d00000006e0007cdfd9f0a4b33e700020000000000000080010014020004000200000100020981b6201000100e000000000140 a4 a4 := Keeps.refl _
  unfold rideStep
  repeat' first
    | with_reducible assumption
    | ((with_reducible refine FrtField.upd_of ?_); intro i x hi; cases i <;> first | exact Keeps.no rfl hi | exact rfl | (split <;> rfl) | ((repeat' split) <;> rfl))
    | intro _
    | (extract_lets +onlyGivenNames x; refine Keeps.cut x ?_ (fun hx => ?_); (revert x; show Keeps _ _ _); on_goal 2 => clear_value x)
    | (extract_lets +onlyGivenNames x; clear_value x)
    | with_reducible refine Keeps.modRide ?_ ?_
    | with_reducible apply Keeps.setBit .FRT_STATUS (group_FRT_STATUS _)
    | with_reducible apply Keeps.setR .FRT_LAST_PEAK (group_FRT_LAST_PEAK _)
    | with_reducible apply Keeps.step (keeps_detectClear _ _ _)
    | with_reducible apply Keeps.step (keeps_rideEnd _ _ _)
    | with_reducible apply Keeps.step (keeps_rideEnter _ _ _)
    | with_reducible apply Keeps.step (keeps_withdrawClear _ _ _)
    | with_reducible apply Keeps.ite
    | with_reducible apply Keeps.iteP
    | with_reducible decide
    | with_reducible refine Keeps.of_eq (by assumption) ?_
    | split

theorem keeps_setShed : ∀ a0 a1 a2 a3, Keeps 0x8000000000000000000000000000000000000000000004000000000000000000200000000000000000000100 a3 (setShed a0 a1 a2 a3) := by
  intro a0 a1 a2 a3
  have h0 : Keeps 0x8000000000000000000000000000000000000000000004000000000000000000200000000000000000000100 a3 a3 := Keeps.refl _
  unfold setShed
  repeat' first
    | with_reducible assumption
    | ((with_reducible refine FrtField.upd_of ?_); intro i x hi; cases i <;> first | exact Keeps.no rfl hi | exact rfl | (split <;> rfl) | ((repeat' split) <;> rfl))
    | intro _
    | with_reducible apply Keeps.step (keeps_State_log _ _ _)
    | with_reducible refine Keeps.modRide ?_ ?_
    | with_reducible apply Keeps.setField .FRT_STATUS (group_FRT_STATUS _)
    | with_reducible apply Keeps.ite
    | with_reducible apply Keeps.iteP
    | with_reducible decide
    | split

theorem keeps_coastBegin : ∀ a0 a1 a2, Keeps 0x1017801800000000000000000000000000000010000000004000000000000000000200000000000000000000100 a2 (coastBegin a0 a1 a2) := by
  intro a0 a1 a2
  have h0 : Keeps 0x1017801800000000000000000000000000000010000000004000000000000000000200000000000000000000100 a2 a2 := Keeps.refl _
  unfold coastBegin
  repeat' first
    | with_reducible assumption
    | ((with_reducible refine FrtField.upd_of ?_); intro i x hi; cases i <;> first | exact Keeps.no rfl hi | exact rfl | (split <;> rfl) | ((repeat' split) <;> rfl))
    | intro _
    | (extract_lets +onlyGivenNames x; refine Keeps.cut x ?_ (fun hx => ?_); (revert x; show Keeps _ _ _); on_goal 2 => clear_value x)
    | (extract_lets +onlyGivenNames x; clear_value x)
    | with_reducible refine Keeps.modRide ?_ ?_
    | with_reducible apply Keeps.setBit .FRT_STATUS (group_FRT_STATUS _)
    | with_reducible apply Keeps.step (keeps_suspendAll _ _)
    | with_reducible apply Keeps.ite
    | with_reducible apply Keeps.iteP
    | with_reducible decide
    | split

theorem keeps_coastOrders : ∀ a0 a1, Keeps 0x60000000000000000000000000000000000000000000000000000000000000000000000000000000000000000 a1 (coastOrders a0 a1) := by
  intro a0 a1
  have h0 : Keeps 0x60000000000000000000000000000000000000000000000000000000000000000000000000000000000000000 a1 a1 := Keeps.refl _
  unfold coastOrders
  repeat' first
    | with_reducible assumption
    | ((with_reducible refine FrtField.upd_of ?_); intro i x hi; cases i <;> first | exact Keeps.no rfl hi | exact rfl | (split <;> rfl) | ((repeat' split) <;> rfl))
    | intro _
    | (extract_lets +onlyGivenNames x; clear_value x)
    | with_reducible refine Keeps.modRide ?_ ?_
    | with_reducible apply Keeps.ite
    | with_reducible apply Keeps.iteP
    | with_reducible decide
    | with_reducible refine Keeps.of_eq (by assumption) ?_
    | split

theorem keeps_coastHold : ∀ a0 a1 a2, Keeps 0xe000000000000000000000000000000000000000000004000000000000000000200000000000000000000100 a2 (coastHold a0 a1 a2) := by
  intro a0 a1 a2
  have h0 : Keeps 0xe000000000000000000000000000000000000000000004000000000000000000200000000000000000000100 a2 a2 := Keeps.refl _
  unfold coastHold
  repeat' first
    | with_reducible assumption
    | ((with_reducible refine FrtField.upd_of ?_); intro i x hi; cases i <;> first | exact Keeps.no rfl hi | exact rfl | (split <;> rfl) | ((repeat' split) <;> rfl))
    | intro _
    | (extract_lets +onlyGivenNames x; refine Keeps.cut x ?_ (fun hx => ?_); (revert x; show Keeps _ _ _); on_goal 2 => clear_value x)
    | (extract_lets +onlyGivenNames x; clear_value x)
    | with_reducible refine Keeps.modRide ?_ ?_
    | with_reducible apply Keeps.setBit .FRT_STATUS (group_FRT_STATUS _)
    | with_reducible apply Keeps.step (keeps_setShed _ _ _ _)
    | with_reducible apply Keeps.ite
    | with_reducible apply Keeps.iteP
    | with_reducible decide
    | split

theorem keeps_inputWatch : ∀ a0 a1 a2, Keeps 0xf00000000000000000000000000000000000000000000000000000000000000000000000000000000000000000000 a2 (inputWatch a0 a1 a2) := by
  intro a0 a1 a2
  have h0 : Keeps 0xf00000000000000000000000000000000000000000000000000000000000000000000000000000000000000000000 a2 a2 := Keeps.refl _
  unfold inputWatch
  repeat' first
    | with_reducible assumption
    | ((with_reducible refine FrtField.upd_of ?_); intro i x hi; cases i <;> first | exact Keeps.no rfl hi | exact rfl | (split <;> rfl) | ((repeat' split) <;> rfl))
    | intro _
    | (extract_lets +onlyGivenNames x; clear_value x)
    | with_reducible refine Keeps.modRide ?_ ?_
    | with_reducible apply Keeps.ite
    | with_reducible apply Keeps.iteP
    | with_reducible decide
    | split

theorem keeps_inputPllStep : ∀ a0 a1 a2, Keeps 0xe000000000000000000000000000000000000000000000000000000000000000000004000000000000000000000 a2 (inputPllStep a0 a1 a2) := by
  intro a0 a1 a2
  have h0 : Keeps 0xe000000000000000000000000000000000000000000000000000000000000000000004000000000000000000000 a2 a2 := Keeps.refl _
  unfold inputPllStep
  repeat' first
    | with_reducible assumption
    | ((with_reducible refine FrtField.upd_of ?_); intro i x hi; cases i <;> first | exact Keeps.no rfl hi | exact rfl | (split <;> rfl) | ((repeat' split) <;> rfl))
    | intro _
    | (extract_lets +onlyGivenNames x; clear_value x)
    | with_reducible refine Keeps.modRide ?_ ?_
    | with_reducible apply Keeps.setR .FRT_IN_PLL_F (group_FRT_IN_PLL_F _)
    | with_reducible apply Keeps.ite
    | with_reducible apply Keeps.iteP
    | with_reducible decide
    | split

theorem keeps_coastStep : ∀ a0 a1 a2, Keeps 0x1f0f01f801800000000000000000000000000000010000000004000000000000000000284000000000000000000100 a2 (coastStep a0 a1 a2) := by
  intro a0 a1 a2
  have h0 : Keeps 0x1f0f01f801800000000000000000000000000000010000000004000000000000000000284000000000000000000100 a2 a2 := Keeps.refl _
  unfold coastStep
  repeat' first
    | with_reducible assumption
    | ((with_reducible refine FrtField.upd_of ?_); intro i x hi; cases i <;> first | exact Keeps.no rfl hi | exact rfl | (split <;> rfl) | ((repeat' split) <;> rfl))
    | intro _
    | (extract_lets +onlyGivenNames x; refine Keeps.cut x ?_ (fun hx => ?_); (revert x; show Keeps _ _ _); on_goal 2 => clear_value x)
    | (extract_lets +onlyGivenNames x; clear_value x)
    | with_reducible refine Keeps.modRide ?_ ?_
    | with_reducible apply Keeps.setR .FRT_LINK_ENERGY (group_FRT_LINK_ENERGY _)
    | with_reducible apply Keeps.step (keeps_coastBegin _ _ _)
    | with_reducible apply Keeps.step (keeps_coastHold _ _ _)
    | with_reducible apply Keeps.step (keeps_inputPllStep _ _ _)
    | with_reducible apply Keeps.step (keeps_inputWatch _ _ _)
    | with_reducible decide

theorem keeps_inputLost : ∀ a0 a1 a2, Keeps 0x800030000000000000000071f80000000000000000000000000000000000000000000004000000000000020800201000000000000000000140 a2 (inputLost a0 a1 a2) := by
  intro a0 a1 a2
  have h0 : Keeps 0x800030000000000000000071f80000000000000000000000000000000000000000000004000000000000020800201000000000000000000140 a2 a2 := Keeps.refl _
  unfold inputLost
  repeat' first
    | with_reducible assumption
    | ((with_reducible refine FrtField.upd_of ?_); intro i x hi; cases i <;> first | exact Keeps.no rfl hi | exact rfl | (split <;> rfl) | ((repeat' split) <;> rfl))
    | intro _
    | (extract_lets +onlyGivenNames x; refine Keeps.cut x ?_ (fun hx => ?_); (revert x; show Keeps _ _ _); on_goal 2 => clear_value x)
    | (extract_lets +onlyGivenNames x; clear_value x)
    | with_reducible apply Keeps.bump .FRT_COAST_COUNT (group_FRT_COAST_COUNT _)
    | with_reducible apply Keeps.step (keeps_State_log _ _ _)
    | with_reducible refine Keeps.modRide ?_ ?_
    | with_reducible apply Keeps.setBit .FRT_STATUS (group_FRT_STATUS _)
    | with_reducible apply Keeps.step (keeps_edgeBlock _ _ _)
    | with_reducible apply Keeps.step (keeps_linkSend _ _ _)
    | with_reducible apply Keeps.foldl
    | with_reducible apply Keeps.foldlP
    | with_reducible apply Keeps.ite
    | with_reducible apply Keeps.iteP
    | with_reducible decide
    | split

theorem keeps_execInputLossDc : ∀ a0 a1 a2, KeepsR 0x800030000000000000000071f80000000000000000000000000000000000000000000004000000000000020800201000000000000000000140 a2 (execInputLossDc a0 a1 a2) := by
  intro a0 a1 a2
  have h0 : Keeps 0x800030000000000000000071f80000000000000000000000000000000000000000000004000000000000020800201000000000000000000140 a2 a2 := Keeps.refl _
  unfold execInputLossDc
  repeat' first
    | with_reducible assumption
    | intro _
    | with_reducible apply Keeps.accepted
    | with_reducible apply KeepsR.next
    | with_reducible apply KeepsR.ite
    | with_reducible apply Keeps.on
    | with_reducible apply Keeps.step (keeps_inputLost _ _ _)
    | with_reducible apply Keeps.ite
    | with_reducible apply Keeps.iteP
    | with_reducible decide
    | split

theorem keeps_execInputLossAc : ∀ a0 a1 a2, KeepsR 0x800030000000000000000071f80000000000000000000000000000000000000000000004000000000000020800201000000000000000000140 a2 (execInputLossAc a0 a1 a2) := by
  intro a0 a1 a2
  have h0 : Keeps 0x800030000000000000000071f80000000000000000000000000000000000000000000004000000000000020800201000000000000000000140 a2 a2 := Keeps.refl _
  unfold execInputLossAc
  repeat' first
    | with_reducible assumption
    | intro _
    | with_reducible apply Keeps.accepted
    | with_reducible apply KeepsR.next
    | with_reducible apply KeepsR.ite
    | with_reducible apply Keeps.on
    | with_reducible apply Keeps.step (keeps_inputLost _ _ _)
    | with_reducible apply Keeps.ite
    | with_reducible apply Keeps.iteP
    | with_reducible decide
    | with_reducible refine Keeps.of_eq (by assumption) ?_
    | split

theorem keeps_execInputReturnConfirm : ∀ a0 a1, KeepsR 0x280000000000000000000000000000000000000000000004000000000000000000208000000000000000000100 a1 (execInputReturnConfirm a0 a1) := by
  intro a0 a1
  have h0 : Keeps 0x280000000000000000000000000000000000000000000004000000000000000000208000000000000000000100 a1 a1 := Keeps.refl _
  unfold execInputReturnConfirm
  repeat' first
    | with_reducible assumption
    | ((with_reducible refine FrtField.upd_of ?_); intro i x hi; cases i <;> first | exact Keeps.no rfl hi | exact rfl | (split <;> rfl) | ((repeat' split) <;> rfl))
    | intro _
    | with_reducible apply Keeps.accepted
    | with_reducible apply KeepsR.next
    | with_reducible apply KeepsR.ite
    | (extract_lets +onlyGivenNames x; refine Keeps.cut x ?_ (fun hx => ?_); (revert x; show Keeps _ _ _); on_goal 2 => clear_value x)
    | (extract_lets +onlyGivenNames x; clear_value x)
    | with_reducible apply Keeps.step (keeps_State_log _ _ _)
    | with_reducible refine Keeps.modRide ?_ ?_
    | with_reducible apply Keeps.on
    | with_reducible apply Keeps.setBit .FRT_STATUS (group_FRT_STATUS _)
    | with_reducible apply Keeps.setR .FRT_LAST_GAP (group_FRT_LAST_GAP _)
    | with_reducible apply Keeps.ite
    | with_reducible apply Keeps.iteP
    | with_reducible decide
    | split

theorem keeps_startInputRamp : ∀ a0 a1, Keeps 0x800030000000000000000000e00000000000000000000000000000000000000000000000000000000000020800200000000000000000000000 a1 (startInputRamp a0 a1) := by
  intro a0 a1
  have h0 : Keeps 0x800030000000000000000000e00000000000000000000000000000000000000000000000000000000000020800200000000000000000000000 a1 a1 := Keeps.refl _
  unfold startInputRamp
  repeat' first
    | with_reducible assumption
    | ((with_reducible refine FrtField.upd_of ?_); intro i x hi; cases i <;> first | exact Keeps.no rfl hi | exact rfl | (split <;> rfl) | ((repeat' split) <;> rfl))
    | intro _
    | (extract_lets +onlyGivenNames x; refine Keeps.cut x ?_ (fun hx => ?_); (revert x; show Keeps _ _ _); on_goal 2 => clear_value x)
    | (extract_lets +onlyGivenNames x; clear_value x)
    | with_reducible refine Keeps.modRide ?_ ?_
    | with_reducible apply Keeps.setBit .FRT_STATUS (group_FRT_STATUS _)
    | with_reducible apply Keeps.step (keeps_edgeBlock _ _ _)
    | with_reducible apply Keeps.ite
    | with_reducible apply Keeps.iteP
    | with_reducible decide
    | split

theorem keeps_coastEnd : ∀ a0 a1, Keeps 0x200105c800000000000000000000000000000000000000000004000000000000000000200000000000000000000100 a1 (coastEnd a0 a1) := by
  intro a0 a1
  have h0 : Keeps 0x200105c800000000000000000000000000000000000000000004000000000000000000200000000000000000000100 a1 a1 := Keeps.refl _
  unfold coastEnd
  repeat' first
    | with_reducible assumption
    | ((with_reducible refine FrtField.upd_of ?_); intro i x hi; cases i <;> first | exact Keeps.no rfl hi | exact rfl | (split <;> rfl) | ((repeat' split) <;> rfl))
    | intro _
    | (extract_lets +onlyGivenNames x; refine Keeps.cut x ?_ (fun hx => ?_); (revert x; show Keeps _ _ _); on_goal 2 => clear_value x)
    | (extract_lets +onlyGivenNames x; clear_value x)
    | with_reducible apply Keeps.step (keeps_State_log _ _ _)
    | with_reducible refine Keeps.modRide ?_ ?_
    | with_reducible apply Keeps.setBit .FRT_STATUS (group_FRT_STATUS _)
    | with_reducible apply Keeps.step (keeps_setShed _ _ _ _)
    | with_reducible apply Keeps.ite
    | with_reducible apply Keeps.iteP
    | with_reducible decide
    | split

theorem keeps_execInputRampComplete : ∀ a0 a1, KeepsR 0x200185c800000000000000000000000000000000000000000004000000000000000000200000000000000000000140 a1 (execInputRampComplete a0 a1) := by
  intro a0 a1
  have h0 : Keeps 0x200185c800000000000000000000000000000000000000000004000000000000000000200000000000000000000140 a1 a1 := Keeps.refl _
  unfold execInputRampComplete
  repeat' first
    | with_reducible assumption
    | ((with_reducible refine FrtField.upd_of ?_); intro i x hi; cases i <;> first | exact Keeps.no rfl hi | exact rfl | (split <;> rfl) | ((repeat' split) <;> rfl))
    | intro _
    | with_reducible apply Keeps.accepted
    | with_reducible apply KeepsR.next
    | with_reducible apply KeepsR.ite
    | (extract_lets +onlyGivenNames x; refine Keeps.cut x ?_ (fun hx => ?_); (revert x; show Keeps _ _ _); on_goal 2 => clear_value x)
    | (extract_lets +onlyGivenNames x; clear_value x)
    | with_reducible refine Keeps.modRide ?_ ?_
    | with_reducible apply Keeps.on
    | with_reducible apply Keeps.setBit .FRT_STATUS (group_FRT_STATUS _)
    | with_reducible apply Keeps.step (keeps_coastEnd _ _)
    | with_reducible apply Keeps.step (keeps_linkSend _ _ _)
    | with_reducible apply Keeps.foldl
    | with_reducible apply Keeps.foldlP
    | with_reducible apply Keeps.ite
    | with_reducible apply Keeps.iteP
    | with_reducible decide
    | with_reducible refine Keeps.of_eq (by assumption) ?_
    | split

theorem keeps_partnerInput : ∀ a0 a1 a2, Keeps 0x200105c800000000000000000000000000000000000000000004000000000000000000200000000000000000000100 a2 (partnerInput a0 a1 a2) := by
  intro a0 a1 a2
  have h0 : Keeps 0x200105c800000000000000000000000000000000000000000004000000000000000000200000000000000000000100 a2 a2 := Keeps.refl _
  unfold partnerInput
  repeat' first
    | with_reducible assumption
    | ((with_reducible refine FrtField.upd_of ?_); intro i x hi; cases i <;> first | exact Keeps.no rfl hi | exact rfl | (split <;> rfl) | ((repeat' split) <;> rfl))
    | intro _
    | with_reducible refine Keeps.modRide ?_ ?_
    | with_reducible apply Keeps.step (keeps_coastEnd _ _)
    | with_reducible apply Keeps.ite
    | with_reducible apply Keeps.iteP
    | with_reducible decide
    | split

theorem keeps_execCoastReleaseEnd : ∀ a0 a1, KeepsR 0x100000000000030000000000000000000000000000000000000000000000000000000000000000002000000000000000000000 a1 (execCoastReleaseEnd a0 a1) := by
  intro a0 a1
  have h0 : Keeps 0x100000000000030000000000000000000000000000000000000000000000000000000000000000002000000000000000000000 a1 a1 := Keeps.refl _
  unfold execCoastReleaseEnd
  repeat' first
    | with_reducible assumption
    | ((with_reducible refine PieField.upd_of ?_); intro i x hi; cases i <;> first | exact Keeps.no rfl hi | exact rfl | (split <;> rfl) | ((repeat' split) <;> rfl))
    | ((with_reducible refine FrtField.upd_of ?_); intro i x hi; cases i <;> first | exact Keeps.no rfl hi | exact rfl | (split <;> rfl) | ((repeat' split) <;> rfl))
    | intro _
    | with_reducible apply Keeps.accepted
    | with_reducible apply KeepsR.next
    | with_reducible apply KeepsR.ite
    | (extract_lets +onlyGivenNames x; refine Keeps.cut x ?_ (fun hx => ?_); (revert x; show Keeps _ _ _); on_goal 2 => clear_value x)
    | (extract_lets +onlyGivenNames x; clear_value x)
    | with_reducible refine Keeps.modPier ?_ ?_
    | with_reducible refine Keeps.modRide ?_ ?_
    | with_reducible apply Keeps.on
    | with_reducible apply Keeps.setR .FRT_DELTA_P_COAST (group_FRT_DELTA_P_COAST _)
    | with_reducible apply Keeps.ite
    | with_reducible apply Keeps.iteP
    | with_reducible decide
    | with_reducible refine Keeps.of_eq (by assumption) ?_
    | split

theorem keeps_coastFailed : ∀ a0 a1 a2, Keeps 0x20000000000000000000000000004000000000000000000000000000000000000000100 a2 (coastFailed a0 a1 a2) := by
  intro a0 a1 a2
  have h0 : Keeps 0x20000000000000000000000000004000000000000000000000000000000000000000100 a2 a2 := Keeps.refl _
  unfold coastFailed
  repeat' first
    | with_reducible assumption
    | intro _
    | with_reducible apply Keeps.step (keeps_State_log _ _ _)
    | with_reducible apply Keeps.step (keeps_demandStop _ _)
    | with_reducible decide

theorem keeps_execCoastLinkLowTimeout : ∀ a0 a1, KeepsR 0x20000000000000000000000000004000000000000000000000000000000000000000100 a1 (execCoastLinkLowTimeout a0 a1) := by
  intro a0 a1
  have h0 : Keeps 0x20000000000000000000000000004000000000000000000000000000000000000000100 a1 a1 := Keeps.refl _
  unfold execCoastLinkLowTimeout
  repeat' first
    | with_reducible assumption
    | intro _
    | with_reducible apply Keeps.accepted
    | with_reducible apply KeepsR.next
    | with_reducible apply KeepsR.ite
    | with_reducible apply Keeps.on
    | with_reducible apply Keeps.step (keeps_coastFailed _ _ _)
    | with_reducible apply Keeps.ite
    | with_reducible apply Keeps.iteP
    | with_reducible decide
    | with_reducible refine Keeps.of_eq (by assumption) ?_
    | split

theorem keeps_execCoastMaxTimeout : ∀ a0 a1, KeepsR 0x20000000000000000000000000004000000000000000000000000000000000000000100 a1 (execCoastMaxTimeout a0 a1) := by
  intro a0 a1
  have h0 : Keeps 0x20000000000000000000000000004000000000000000000000000000000000000000100 a1 a1 := Keeps.refl _
  unfold execCoastMaxTimeout
  repeat' first
    | with_reducible assumption
    | intro _
    | with_reducible apply Keeps.accepted
    | with_reducible apply KeepsR.next
    | with_reducible apply KeepsR.ite
    | with_reducible apply Keeps.on
    | with_reducible apply Keeps.step (keeps_coastFailed _ _ _)
    | with_reducible apply Keeps.ite
    | with_reducible apply Keeps.iteP
    | with_reducible decide
    | split

theorem keeps_execRideEndTimeout : ∀ a0 a1, KeepsR 0x4f8000000000000000000000000000000000000000004000000000000000000200000000000000000000100 a1 (execRideEndTimeout a0 a1) := by
  intro a0 a1
  have h0 : Keeps 0x4f8000000000000000000000000000000000000000004000000000000000000200000000000000000000100 a1 a1 := Keeps.refl _
  unfold execRideEndTimeout
  repeat' first
    | with_reducible assumption
    | intro _
    | with_reducible apply Keeps.accepted
    | with_reducible apply KeepsR.next
    | with_reducible apply KeepsR.ite
    | with_reducible apply Keeps.on
    | with_reducible apply Keeps.step (keeps_withdrawClear _ _ _)
    | with_reducible apply Keeps.ite
    | with_reducible apply Keeps.iteP
    | with_reducible decide
    | with_reducible refine Keeps.of_eq (by assumption) ?_
    | split

theorem keeps_execFaultBudgetExhausted : ∀ a0 a1, KeepsR 0x2000000000004001800000000007400008000310000c0d00000006e0007ccfd9f0a4b33e700020000000000000080010014020004000200000100020981a4201000100e000000000140 a1 (execFaultBudgetExhausted a0 a1) := by
  intro a0 a1
  have h0 : Keeps 0x2000000000004001800000000007400008000310000c0d00000006e0007ccfd9f0a4b33e700020000000000000080010014020004000200000100020981a4201000100e000000000140 a1 a1 := Keeps.refl _
  unfold execFaultBudgetExhausted
  repeat' first
    | with_reducible assumption
    | intro _
    | with_reducible apply Keeps.accepted
    | with_reducible apply KeepsR.next
    | with_reducible apply KeepsR.ite
    | with_reducible apply Keeps.on
    | with_reducible apply Keeps.step (keeps_budgetAdvance _ _)
    | with_reducible apply Keeps.step (keeps_rideFailed _ _)
    | with_reducible apply Keeps.ite
    | with_reducible apply Keeps.iteP
    | with_reducible decide
    | split

theorem keeps_execInputPllHoldExpiry : ∀ a0 a1, KeepsR 0x20000000000000000000000000000000000000000000000004000000000000000000000000000000000000000100 a1 (execInputPllHoldExpiry a0 a1) := by
  intro a0 a1
  have h0 : Keeps 0x20000000000000000000000000000000000000000000000004000000000000000000000000000000000000000100 a1 a1 := Keeps.refl _
  unfold execInputPllHoldExpiry
  repeat' first
    | with_reducible assumption
    | ((with_reducible refine FrtField.upd_of ?_); intro i x hi; cases i <;> first | exact Keeps.no rfl hi | exact rfl | (split <;> rfl) | ((repeat' split) <;> rfl))
    | intro _
    | with_reducible apply Keeps.accepted
    | with_reducible apply KeepsR.next
    | with_reducible apply KeepsR.ite
    | with_reducible apply Keeps.step (keeps_State_log _ _ _)
    | with_reducible refine Keeps.modRide ?_ ?_
    | with_reducible apply Keeps.on
    | with_reducible apply Keeps.ite
    | with_reducible apply Keeps.iteP
    | with_reducible decide
    | with_reducible refine Keeps.of_eq (by assumption) ?_
    | split

theorem keeps_execInputZeroCrossing : ∀ a0 a1 a2, KeepsR 0x7e000000000000000000000000000000000000000000000004000000000000000000214000000000000000000100 a2 (execInputZeroCrossing a0 a1 a2) := by
  intro a0 a1 a2
  have h0 : Keeps 0x7e000000000000000000000000000000000000000000000004000000000000000000214000000000000000000100 a2 a2 := Keeps.refl _
  unfold execInputZeroCrossing
  repeat' first
    | with_reducible assumption
    | ((with_reducible refine FrtField.upd_of ?_); intro i x hi; cases i <;> first | exact Keeps.no rfl hi | exact rfl | (split <;> rfl) | ((repeat' split) <;> rfl))
    | intro _
    | with_reducible apply Keeps.accepted
    | with_reducible apply KeepsR.next
    | with_reducible apply KeepsR.ite
    | (extract_lets +onlyGivenNames x; refine Keeps.cut x ?_ (fun hx => ?_); (revert x; show Keeps _ _ _); on_goal 2 => clear_value x)
    | (extract_lets +onlyGivenNames x; clear_value x)
    | with_reducible apply Keeps.step (keeps_State_log _ _ _)
    | with_reducible refine Keeps.modRide ?_ ?_
    | with_reducible apply Keeps.on
    | with_reducible apply Keeps.setBit .FRT_STATUS (group_FRT_STATUS _)
    | with_reducible apply Keeps.setField .FRT_STATUS (group_FRT_STATUS _)
    | with_reducible apply Keeps.setR .FRT_LAST_JUMP (group_FRT_LAST_JUMP _)
    | with_reducible apply Keeps.setR .FRT_IN_PLL_F (group_FRT_IN_PLL_F _)
    | with_reducible apply Keeps.ite
    | with_reducible apply Keeps.iteP
    | with_reducible decide
    | with_reducible refine Keeps.of_eq (by assumption) ?_
    | split

end Sys2Proof.Machine
end

