-- ==== Sys2Proof/Laws/KeepsCommit.lean ====
section
/-!
SUPPORT. What each operation of Machine/Commit.lean may change.
-/

set_option linter.unusedTactic false
set_option linter.tactic.unusedName false
set_option linter.unreachableTactic false

namespace Sys2Proof.Machine

theorem keeps_envelopeCheck : ∀ a0 a1, Keeps 0x2000000000000000000000000000000000000000000000000000000000000000004000000001110000000000000000000000000000180 a1 (envelopeCheck a0 a1) := by
  intro a0 a1
  have h0 : Keeps 0x2000000000000000000000000000000000000000000000000000000000000000004000000001110000000000000000000000000000180 a1 a1 := Keeps.refl _
  unfold envelopeCheck
  repeat' first
    | with_reducible assumption
    | ((with_reducible refine PieField.upd_of ?_); intro i x hi; cases i <;> first | exact Keeps.no rfl hi | exact rfl | (split <;> rfl) | ((repeat' split) <;> rfl))
    | intro _
    | (extract_lets +onlyGivenNames x; refine Keeps.cut x ?_ (fun hx => ?_); (revert x; show Keeps _ _ _); on_goal 2 => clear_value x)
    | (extract_lets +onlyGivenNames x; clear_value x)
    | with_reducible apply Keeps.step (keeps_State_draw _)
    | with_reducible apply Keeps.step (keeps_State_log _ _ _)
    | with_reducible refine Keeps.modPier ?_ ?_
    | with_reducible apply Keeps.setField .GFL_STATUS (group_GFL_STATUS _)
    | with_reducible apply Keeps.setR .GFL_F_RES (group_GFL_F_RES _)
    | with_reducible apply Keeps.setR .GFL_ZETA (group_GFL_ZETA _)
    | with_reducible apply Keeps.foldl
    | with_reducible apply Keeps.foldlP
    | with_reducible apply Keeps.ite
    | with_reducible apply Keeps.iteP
    | with_reducible decide
    | split

theorem keeps_setOffsets : ∀ a0 a1 a2 a3 a4 a5, Keeps 0x1f80000000000000000000000000000000000000003c00000000000000000000000000000000000000000000000000000 a5 (setOffsets a0 a1 a2 a3 a4 a5) := by
  intro a0 a1 a2 a3 a4 a5
  have h0 : Keeps 0x1f80000000000000000000000000000000000000003c00000000000000000000000000000000000000000000000000000 a5 a5 := Keeps.refl _
  unfold setOffsets
  repeat' first
    | with_reducible assumption
    | ((with_reducible refine SrvField.upd_of ?_); intro i x hi; cases i <;> first | exact Keeps.no rfl hi | exact rfl | (split <;> rfl) | ((repeat' split) <;> rfl))
    | intro _
    | (extract_lets +onlyGivenNames x; refine Keeps.cut x ?_ (fun hx => ?_); (revert x; show Keeps _ _ _); on_goal 2 => clear_value x)
    | (extract_lets +onlyGivenNames x; clear_value x)
    | with_reducible refine Keeps.modSurvey ?_ ?_
    | with_reducible apply Keeps.setR .SRV_DR_AD (group_SRV_DR_AD _)
    | with_reducible apply Keeps.setR .SRV_DKC_AD (group_SRV_DKC_AD _)
    | with_reducible apply Keeps.setR .SRV_DFN_AD (group_SRV_DFN_AD _)
    | with_reducible apply Keeps.setR .SRV_DX_AD (group_SRV_DX_AD _)
    | with_reducible apply Keeps.ite
    | with_reducible apply Keeps.iteP
    | with_reducible decide
    | split

theorem keeps_boundOffsets : ∀ a0 a1, Keeps 0x1f80000000000000000000000000000000000000083c00000000000000000000000000000000000000000000000000000 a1 (boundOffsets a0 a1) := by
  intro a0 a1
  have h0 : Keeps 0x1f80000000000000000000000000000000000000083c00000000000000000000000000000000000000000000000000000 a1 a1 := Keeps.refl _
  unfold boundOffsets
  repeat' first
    | with_reducible assumption
    | intro _
    | (extract_lets +onlyGivenNames x; clear_value x)
    | with_reducible apply Keeps.setBit .SRV_STATUS (group_SRV_STATUS _)
    | with_reducible apply Keeps.step (keeps_setOffsets _ _ _ _ _ _)
    | with_reducible apply Keeps.ite
    | with_reducible apply Keeps.iteP
    | with_reducible decide
    | with_reducible refine Keeps.of_eq (by assumption) ?_
    | split

theorem keeps_beginXv : ∀ a0 a1 a2 a3, Keeps 0x70000000000000000000000000000000000000000000000000000000000000000000000000100000000000000000000000000000000 a3 (beginXv a0 a1 a2 a3) := by
  intro a0 a1 a2 a3
  have h0 : Keeps 0x70000000000000000000000000000000000000000000000000000000000000000000000000100000000000000000000000000000000 a3 a3 := Keeps.refl _
  unfold beginXv
  repeat' first
    | with_reducible assumption
    | ((with_reducible refine PieField.upd_of ?_); intro i x hi; cases i <;> first | exact Keeps.no rfl hi | exact rfl | (split <;> rfl) | ((repeat' split) <;> rfl))
    | intro _
    | (extract_lets +onlyGivenNames x; refine Keeps.cut x ?_ (fun hx => ?_); (revert x; show Keeps _ _ _); on_goal 2 => clear_value x)
    | (extract_lets +onlyGivenNames x; clear_value x)
    | with_reducible refine Keeps.modPier ?_ ?_
    | with_reducible apply Keeps.setBit .GFL_STATUS (group_GFL_STATUS _)
    | with_reducible apply Keeps.ite
    | with_reducible apply Keeps.iteP
    | with_reducible decide
    | with_reducible refine Keeps.of_eq (by assumption) ?_
    | split

theorem keeps_aimXv : ∀ a0 a1, Keeps 0x70000000000000000000000000000000000000000000000000000000000000000000000000000000000000000000000000000000000 a1 (aimXv a0 a1) := by
  intro a0 a1
  have h0 : Keeps 0x70000000000000000000000000000000000000000000000000000000000000000000000000000000000000000000000000000000000 a1 a1 := Keeps.refl _
  unfold aimXv
  repeat' first
    | with_reducible assumption
    | ((with_reducible refine PieField.upd_of ?_); intro i x hi; cases i <;> first | exact Keeps.no rfl hi | exact rfl | (split <;> rfl) | ((repeat' split) <;> rfl))
    | intro _
    | (extract_lets +onlyGivenNames x; clear_value x)
    | with_reducible refine Keeps.modPier ?_ ?_
    | with_reducible decide

theorem keeps_writeBlockParam : ∀ a0 a1 a2 a3, Keeps 0x2000000000000000000000000000000000003ffffffffffffffffffffffffffffffffffffffffffffffffffffffffffffff000 a3 (writeBlockParam a0 a1 a2 a3) := by
  intro a0 a1 a2 a3
  have h0 : Keeps 0x2000000000000000000000000000000000003ffffffffffffffffffffffffffffffffffffffffffffffffffffffffffffff000 a3 a3 := Keeps.refl _
  unfold writeBlockParam
  repeat' first
    | with_reducible assumption
    | ((with_reducible refine PieField.upd_of ?_); intro i x hi; cases i <;> first | exact Keeps.no rfl hi | exact rfl | (split <;> rfl) | ((repeat' split) <;> rfl))
    | intro _
    | (extract_lets +onlyGivenNames x; refine Keeps.cut x ?_ (fun hx => ?_); (revert x; show Keeps _ _ _); on_goal 2 => clear_value x)
    | (extract_lets +onlyGivenNames x; clear_value x)
    | with_reducible refine Keeps.modPier ?_ ?_
    | with_reducible apply Keeps.setObjAny
    | with_reducible decide

theorem keeps_overrunLimit : ∀ a0 a1, Keeps 0x2000000000004001810000000007400008000310060c0d00000006e0007cc1d9f0a4b33e700000000010000000080010014020004000600000100020981a0201000100e000000000140 a1 (overrunLimit a0 a1) := by
  intro a0 a1
  have h0 : Keeps 0x2000000000004001810000000007400008000310060c0d00000006e0007cc1d9f0a4b33e700000000010000000080010014020004000600000100020981a0201000100e000000000140 a1 a1 := Keeps.refl _
  unfold overrunLimit
  repeat' first
    | with_reducible assumption
    | intro _
    | (extract_lets +onlyGivenNames x; refine Keeps.cut x ?_ (fun hx => ?_); (revert x; show Keeps _ _ _); on_goal 2 => clear_value x)
    | (extract_lets +onlyGivenNames x; clear_value x)
    | with_reducible apply Keeps.step (keeps_State_log _ _ _)
    | with_reducible apply Keeps.step (keeps_arbStart _ _ _)
    | with_reducible apply Keeps.step (keeps_stageSafe _ _ _)
    | with_reducible apply Keeps.ite
    | with_reducible apply Keeps.iteP
    | with_reducible decide
    | split

theorem keeps_programOwned : ∀ a0, Keeps 0x80000000000000000000000000000000000000000000000000000000000000000000000000000000000000000000000000000000000000000000 a0 (programOwned a0) := by
  intro a0
  have h0 : Keeps 0x80000000000000000000000000000000000000000000000000000000000000000000000000000000000000000000000000000000000000000000 a0 a0 := Keeps.refl _
  unfold programOwned
  repeat' first
    | with_reducible assumption
    | ((with_reducible refine AcqField.upd_of ?_); intro i x hi; cases i <;> first | exact Keeps.no rfl hi | exact rfl | (split <;> rfl) | ((repeat' split) <;> rfl))
    | intro _
    | with_reducible refine Keeps.modAcq ?_ ?_
    | with_reducible decide

theorem keeps_configSurvey : ∀ a0 a1 a2, Keeps 0x1c000000000000000000000000000000000000000080200000000004000000000000000000000000000000000000000100 a2 (configSurvey a0 a1 a2) := by
  intro a0 a1 a2
  have h0 : Keeps 0x1c000000000000000000000000000000000000000080200000000004000000000000000000000000000000000000000100 a2 a2 := Keeps.refl _
  unfold configSurvey
  repeat' first
    | with_reducible assumption
    | ((with_reducible refine SrvField.upd_of ?_); intro i x hi; cases i <;> first | exact Keeps.no rfl hi | exact rfl | (split <;> rfl) | ((repeat' split) <;> rfl))
    | intro _
    | (extract_lets +onlyGivenNames x; refine Keeps.cut x ?_ (fun hx => ?_); (revert x; show Keeps _ _ _); on_goal 2 => clear_value x)
    | (extract_lets +onlyGivenNames x; clear_value x)
    | with_reducible apply Keeps.step (keeps_State_log _ _ _)
    | with_reducible refine Keeps.modSurvey ?_ ?_
    | with_reducible apply Keeps.setBit .SRV_STATUS (group_SRV_STATUS _)
    | with_reducible apply Keeps.setField .SRV_STATUS (group_SRV_STATUS _)
    | with_reducible apply Keeps.setObj .SRV_CONFIG (group_SRV_CONFIG _)
    | with_reducible apply Keeps.ite
    | with_reducible apply Keeps.iteP
    | with_reducible decide
    | split

theorem keeps_applyWrite : ∀ a0 a1 a2, Keeps 0x2000000000004001810000000007400808000310760c0f0009df86e0007ccfd9f0a4b33e7000000003ffffffffffffffffffffffffffffffffffffffffffffffffffffffffffffff140 a1 (applyWrite a0 a1 a2) := by
  intro a0 a1 a2
  have h0 : Keeps 0x2000000000004001810000000007400808000310760c0f0009df86e0007ccfd9f0a4b33e7000000003ffffffffffffffffffffffffffffffffffffffffffffffffffffffffffffff140 a1 a1 := Keeps.refl _
  unfold applyWrite
  repeat' first
    | with_reducible assumption
    | ((with_reducible refine PieField.upd_of ?_); intro i x hi; cases i <;> first | exact Keeps.no rfl hi | exact rfl | (split <;> rfl) | ((repeat' split) <;> rfl))
    | ((with_reducible refine FrtField.upd_of ?_); intro i x hi; cases i <;> first | exact Keeps.no rfl hi | exact rfl | (split <;> rfl) | ((repeat' split) <;> rfl))
    | ((with_reducible refine SrvField.upd_of ?_); intro i x hi; cases i <;> first | exact Keeps.no rfl hi | exact rfl | (split <;> rfl) | ((repeat' split) <;> rfl))
    | intro _
    | (extract_lets +onlyGivenNames x; refine Keeps.cut x ?_ (fun hx => ?_); (revert x; show Keeps _ _ _); on_goal 2 => clear_value x)
    | (extract_lets +onlyGivenNames x; clear_value x)
    | with_reducible refine Keeps.modPier ?_ ?_
    | with_reducible refine Keeps.modRide ?_ ?_
    | with_reducible refine Keeps.modSurvey ?_ ?_
    | with_reducible apply Keeps.setObjAny
    | with_reducible apply Keeps.step (keeps_aimXv _ _)
    | with_reducible apply Keeps.step (keeps_beginXv _ _ _ _)
    | with_reducible apply Keeps.step (keeps_boundOffsets _ _)
    | with_reducible apply Keeps.step (keeps_budgetAdvance _ _)
    | with_reducible apply Keeps.step (keeps_configSurvey _ _ _)
    | with_reducible apply Keeps.step (keeps_overrunLimit _ _)
    | with_reducible apply Keeps.step (keeps_programOwned _)
    | with_reducible apply Keeps.step (keeps_suspend _ _ _)
    | with_reducible apply Keeps.step (keeps_writeBlockParam _ _ _ _)
    | with_reducible apply Keeps.ite
    | with_reducible apply Keeps.iteP
    | with_reducible decide
    | split

theorem keeps_takeWrites : ∀ a0 a1, Keeps 0x2000000000004001810000000007400808000330760c0f0009df86e0007ccfd9f0a4b33e7000000003ffffffffffffffffffffffffffffffffffffffffffffffffffffffffffffff1c4 a1 (takeWrites a0 a1) := by
  intro a0 a1
  have h0 : Keeps 0x2000000000004001810000000007400808000330760c0f0009df86e0007ccfd9f0a4b33e7000000003ffffffffffffffffffffffffffffffffffffffffffffffffffffffffffffff1c4 a1 a1 := Keeps.refl _
  unfold takeWrites
  repeat' first
    | with_reducible assumption
    | intro _
    | (extract_lets +onlyGivenNames x; refine Keeps.cut x ?_ (fun hx => ?_); (revert x; show Keeps _ _ _); on_goal 2 => clear_value x)
    | (extract_lets +onlyGivenNames x; clear_value x)
    | with_reducible apply Keeps.step (keeps_applyWrite _ _ _)
    | with_reducible apply Keeps.step (keeps_boundOffsets _ _)
    | with_reducible apply Keeps.step (keeps_envelopeCheck _ _)
    | with_reducible apply Keeps.foldl
    | with_reducible apply Keeps.foldlP
    | with_reducible apply Keeps.ite
    | with_reducible apply Keeps.iteP
    | with_reducible decide
    | split
    | with_reducible apply Keeps.upd_commitWrites

theorem keeps_releaseHeld : ∀ a0 a1 a2, Keeps 0x2001400000000010020000000000000000000000000010c a2 (releaseHeld a0 a1 a2) := by
  intro a0 a1 a2
  have h0 : Keeps 0x2001400000000010020000000000000000000000000010c a2 a2 := Keeps.refl _
  unfold releaseHeld
  repeat' first
    | with_reducible assumption
    | intro _
    | (extract_lets +onlyGivenNames x; refine Keeps.cut x ?_ (fun hx => ?_); (revert x; show Keeps _ _ _); on_goal 2 => clear_value x)
    | (extract_lets +onlyGivenNames x; clear_value x)
    | with_reducible apply Keeps.step (keeps_State_log _ _ _)
    | with_reducible apply Keeps.setBit .GFL_STATUS (group_GFL_STATUS _)
    | with_reducible apply Keeps.setBit .GFL_CONFIG (group_GFL_CONFIG _)
    | with_reducible apply Keeps.setBit .PIE_CONFIG (group_PIE_CONFIG _)
    | with_reducible apply Keeps.setBit .PIE_STATUS (group_PIE_STATUS _)
    | with_reducible apply Keeps.ite
    | with_reducible apply Keeps.iteP
    | with_reducible decide
    | split
    | with_reducible apply Keeps.upd_commitWrites_heldWrites

theorem keeps_execGflParamHoldClear : ∀ a0 a1 a2, KeepsR 0x14003800000000000000000000000000000000000000000000000000000000000000000000000000000000000000000000000002001400900000010020000000000000000000000000014c a2 (execGflParamHoldClear a0 a1 a2) := by
  intro a0 a1 a2
  have h0 : Keeps 0x14003800000000000000000000000000000000000000000000000000000000000000000000000000000000000000000000000002001400900000010020000000000000000000000000014c a2 a2 := Keeps.refl _
  unfold execGflParamHoldClear
  repeat' first
    | with_reducible assumption
    | intro _
    | with_reducible apply Keeps.accepted
    | with_reducible apply KeepsR.next
    | with_reducible apply KeepsR.ite
    | with_reducible apply Keeps.owned
    | with_reducible apply Keeps.step (keeps_releaseHeld _ _ _)
    | with_reducible apply Keeps.request
    | with_reducible apply Keeps.ite
    | with_reducible apply Keeps.iteP
    | with_reducible decide
    | split

theorem keeps_execPieParamHoldClear : ∀ a0 a1 a2, KeepsR 0x14003800000000000000000000000000000000000000000000000000000000000000000000000000000000000000000000000002001400900000010020000000000000000000000000014c a2 (execPieParamHoldClear a0 a1 a2) := by
  intro a0 a1 a2
  have h0 : Keeps 0x14003800000000000000000000000000000000000000000000000000000000000000000000000000000000000000000000000002001400900000010020000000000000000000000000014c a2 a2 := Keeps.refl _
  unfold execPieParamHoldClear
  repeat' first
    | with_reducible assumption
    | intro _
    | with_reducible apply Keeps.accepted
    | with_reducible apply KeepsR.next
    | with_reducible apply KeepsR.ite
    | with_reducible apply Keeps.owned
    | with_reducible apply Keeps.step (keeps_releaseHeld _ _ _)
    | with_reducible apply Keeps.request
    | with_reducible apply Keeps.ite
    | with_reducible apply Keeps.iteP
    | with_reducible decide
    | split

theorem keeps_execXvRampEnd : ∀ a0 a1, KeepsR 0x70000000000000000000000000000000000000000000000000000000000000000000000000100000000000000000000000000000000 a1 (execXvRampEnd a0 a1) := by
  intro a0 a1
  have h0 : Keeps 0x70000000000000000000000000000000000000000000000000000000000000000000000000100000000000000000000000000000000 a1 a1 := Keeps.refl _
  unfold execXvRampEnd
  repeat' first
    | with_reducible assumption
    | ((with_reducible refine PieField.upd_of ?_); intro i x hi; cases i <;> first | exact Keeps.no rfl hi | exact rfl | (split <;> rfl) | ((repeat' split) <;> rfl))
    | intro _
    | with_reducible apply Keeps.accepted
    | with_reducible apply KeepsR.next
    | with_reducible apply KeepsR.ite
    | (extract_lets +onlyGivenNames x; refine Keeps.cut x ?_ (fun hx => ?_); (revert x; show Keeps _ _ _); on_goal 2 => clear_value x)
    | (extract_lets +onlyGivenNames x; clear_value x)
    | with_reducible refine Keeps.modPier ?_ ?_
    | with_reducible apply Keeps.on
    | with_reducible apply Keeps.setBit .GFL_STATUS (group_GFL_STATUS _)
    | with_reducible apply Keeps.ite
    | with_reducible apply Keeps.iteP
    | with_reducible decide
    | split

theorem keeps_execAdaptOffsetRampEnd : ∀ a0 a1, KeepsR 0x1800000000000000000000000000000000000000000000000000000000000000000000000000000000000000000000000 a1 (execAdaptOffsetRampEnd a0 a1) := by
  intro a0 a1
  have h0 : Keeps 0x1800000000000000000000000000000000000000000000000000000000000000000000000000000000000000000000000 a1 a1 := Keeps.refl _
  unfold execAdaptOffsetRampEnd
  repeat' first
    | with_reducible assumption
    | ((with_reducible refine SrvField.upd_of ?_); intro i x hi; cases i <;> first | exact Keeps.no rfl hi | exact rfl | (split <;> rfl) | ((repeat' split) <;> rfl))
    | intro _
    | with_reducible apply Keeps.accepted
    | with_reducible apply KeepsR.next
    | with_reducible apply KeepsR.ite
    | (extract_lets +onlyGivenNames x; clear_value x)
    | with_reducible refine Keeps.modSurvey ?_ ?_
    | with_reducible apply Keeps.on
    | with_reducible apply Keeps.ite
    | with_reducible apply Keeps.iteP
    | with_reducible decide
    | split

end Sys2Proof.Machine
end

