-- ==== Sys2Proof/Laws/KeepsSurvey.lean ====
section
/-!
SUPPORT. What each operation of Machine/Survey.lean may change.
-/

set_option linter.unusedTactic false
set_option linter.tactic.unusedName false
set_option linter.unreachableTactic false

namespace Sys2Proof.Machine

theorem keeps_keepChip : ∀ a0 a1 a2 a3, Keeps 0x80000000000000000000000000000000000000000000000000000000000000000000000000000000000000000000000000000 a3 (keepChip a0 a1 a2 a3) := by
  intro a0 a1 a2 a3
  have h0 : Keeps 0x80000000000000000000000000000000000000000000000000000000000000000000000000000000000000000000000000000 a3 a3 := Keeps.refl _
  unfold keepChip
  repeat' first
    | with_reducible assumption
    | ((with_reducible refine SrvField.upd_of ?_); intro i x hi; cases i <;> first | exact Keeps.no rfl hi | exact rfl | (split <;> rfl) | ((repeat' split) <;> rfl))
    | intro _
    | (extract_lets +onlyGivenNames x; clear_value x)
    | with_reducible refine Keeps.modSurvey ?_ ?_
    | with_reducible apply Keeps.ite
    | with_reducible apply Keeps.iteP
    | with_reducible decide
    | split

theorem keeps_roundOver : ∀ a0 a1, Keeps 0x80000004000000000000000000000000000000000000080000000000000000000000000000000000000000000000000000000 a1 (roundOver a0 a1) := by
  intro a0 a1
  have h0 : Keeps 0x80000004000000000000000000000000000000000000080000000000000000000000000000000000000000000000000000000 a1 a1 := Keeps.refl _
  unfold roundOver
  repeat' first
    | with_reducible assumption
    | ((with_reducible refine SrvField.upd_of ?_); intro i x hi; cases i <;> first | exact Keeps.no rfl hi | exact rfl | (split <;> rfl) | ((repeat' split) <;> rfl))
    | intro _
    | with_reducible refine Keeps.modSurvey ?_ ?_
    | with_reducible apply Keeps.setBit .SRV_STATUS (group_SRV_STATUS _)
    | with_reducible decide

theorem keeps_roundWatch : ∀ a0 a1, Keeps 0x80000004000000000000000000000000000000000000080000000000004000000000000000000000000000000000000000100 a1 (roundWatch a0 a1) := by
  intro a0 a1
  have h0 : Keeps 0x80000004000000000000000000000000000000000000080000000000004000000000000000000000000000000000000000100 a1 a1 := Keeps.refl _
  unfold roundWatch
  repeat' first
    | with_reducible assumption
    | intro _
    | (extract_lets +onlyGivenNames x; clear_value x)
    | with_reducible apply Keeps.step (keeps_State_log _ _ _)
    | with_reducible apply Keeps.step (keeps_roundOver _ _)
    | with_reducible apply Keeps.ite
    | with_reducible apply Keeps.iteP
    | with_reducible decide
    | split

theorem keeps_execSurveyRoundStart : ∀ a0 a1, KeepsR 0x8000006c000000000000000000000000000000000000080000000000000000000000000000000000000000000000000000000 a1 (execSurveyRoundStart a0 a1) := by
  intro a0 a1
  have h0 : Keeps 0x8000006c000000000000000000000000000000000000080000000000000000000000000000000000000000000000000000000 a1 a1 := Keeps.refl _
  unfold execSurveyRoundStart
  repeat' first
    | with_reducible assumption
    | ((with_reducible refine SrvField.upd_of ?_); intro i x hi; cases i <;> first | exact Keeps.no rfl hi | exact rfl | (split <;> rfl) | ((repeat' split) <;> rfl))
    | intro _
    | with_reducible apply Keeps.accepted
    | with_reducible apply KeepsR.next
    | with_reducible apply KeepsR.ite
    | (extract_lets +onlyGivenNames x; refine Keeps.cut x ?_ (fun hx => ?_); (revert x; show Keeps _ _ _); on_goal 2 => clear_value x)
    | (extract_lets +onlyGivenNames x; clear_value x)
    | with_reducible refine Keeps.modSurvey ?_ ?_
    | with_reducible apply Keeps.on
    | with_reducible apply Keeps.setBit .SRV_STATUS (group_SRV_STATUS _)
    | with_reducible apply Keeps.ite
    | with_reducible apply Keeps.iteP
    | with_reducible decide
    | with_reducible refine Keeps.of_eq (by assumption) ?_
    | split

theorem keeps_reportPoints : ∀ a0 a1 a2, Keeps 0x3000100000000000000000000000000000000000000000000000000000 a2 (reportPoints a0 a1 a2) := by
  intro a0 a1 a2
  have h0 : Keeps 0x3000100000000000000000000000000000000000000000000000000000 a2 a2 := Keeps.refl _
  unfold reportPoints
  repeat' first
    | with_reducible assumption
    | intro _
    | with_reducible apply Keeps.setR .SRV_COHERENCE (group_SRV_COHERENCE _ _ (by first | omega | (simp only [List.mem_range, List.mem_cons, List.not_mem_nil, or_false] at *; omega)))
    | with_reducible apply Keeps.setR .SRV_Z_MAG (group_SRV_Z_MAG _ _ (by first | omega | (simp only [List.mem_range, List.mem_cons, List.not_mem_nil, or_false] at *; omega)))
    | with_reducible apply Keeps.setR .SRV_Z_ANGLE (group_SRV_Z_ANGLE _ _ (by first | omega | (simp only [List.mem_range, List.mem_cons, List.not_mem_nil, or_false] at *; omega)))
    | with_reducible apply Keeps.foldl_mem
    | with_reducible decide
    | with_reducible refine Keeps.of_eq (by assumption) ?_
    | split

theorem keeps_sendOffsets : ∀ a0 a1, Keeps 0x40 a1 (sendOffsets a0 a1) := by
  intro a0 a1
  have h0 : Keeps 0x40 a1 a1 := Keeps.refl _
  unfold sendOffsets
  repeat' first
    | with_reducible assumption
    | intro _
    | (extract_lets +onlyGivenNames x; clear_value x)
    | with_reducible apply Keeps.step (keeps_linkSend _ _ _)
    | with_reducible apply Keeps.ite
    | with_reducible apply Keeps.iteP
    | with_reducible decide
    | split

theorem keeps_takeOffsets : ∀ a0 a1 a2, Keeps 0x1f80000000000000000000000000000000000000003c00000000000000000000000000000000000000000000000000000 a2 (takeOffsets a0 a1 a2) := by
  intro a0 a1 a2
  have h0 : Keeps 0x1f80000000000000000000000000000000000000003c00000000000000000000000000000000000000000000000000000 a2 a2 := Keeps.refl _
  unfold takeOffsets
  repeat' first
    | with_reducible assumption
    | intro _
    | with_reducible apply Keeps.step (keeps_setOffsets _ _ _ _ _ _)
    | with_reducible apply Keeps.ite
    | with_reducible apply Keeps.iteP
    | with_reducible decide
    | split

theorem keeps_checkChange : ∀ a0 a1 a2, Keeps 0x1ff80000000000000000000000000000000000000083c00000000004000000000000000000000000000000000000000140 a2 (checkChange a0 a1 a2) := by
  intro a0 a1 a2
  have h0 : Keeps 0x1ff80000000000000000000000000000000000000083c00000000004000000000000000000000000000000000000000140 a2 a2 := Keeps.refl _
  unfold checkChange
  repeat' first
    | with_reducible assumption
    | ((with_reducible refine SrvField.upd_of ?_); intro i x hi; cases i <;> first | exact Keeps.no rfl hi | exact rfl | (split <;> rfl) | ((repeat' split) <;> rfl))
    | intro _
    | (extract_lets +onlyGivenNames x; refine Keeps.cut x ?_ (fun hx => ?_); (revert x; show Keeps _ _ _); on_goal 2 => clear_value x)
    | (extract_lets +onlyGivenNames x; clear_value x)
    | with_reducible apply Keeps.step (keeps_State_log _ _ _)
    | with_reducible refine Keeps.modSurvey ?_ ?_
    | with_reducible apply Keeps.setBit .SRV_STATUS (group_SRV_STATUS _)
    | with_reducible apply Keeps.step (keeps_sendOffsets _ _)
    | with_reducible apply Keeps.step (keeps_setOffsets _ _ _ _ _ _)
    | with_reducible apply Keeps.ite
    | with_reducible apply Keeps.iteP
    | with_reducible decide
    | with_reducible refine Keeps.of_eq (by assumption) ?_
    | split

theorem keeps_adapt : ∀ a0 a1 a2, Keeps 0x3f80000000000000000000000000000000000000083c000000000040000000000000000000000000000000000000001c0 a2 (adapt a0 a1 a2) := by
  intro a0 a1 a2
  have h0 : Keeps 0x3f80000000000000000000000000000000000000083c000000000040000000000000000000000000000000000000001c0 a2 a2 := Keeps.refl _
  unfold adapt
  repeat' first
    | with_reducible assumption
    | ((with_reducible refine SrvField.upd_of ?_); intro i x hi; cases i <;> first | exact Keeps.no rfl hi | exact rfl | (split <;> rfl) | ((repeat' split) <;> rfl))
    | intro _
    | (extract_lets +onlyGivenNames x; refine Keeps.cut x ?_ (fun hx => ?_); (revert x; show Keeps _ _ _); on_goal 2 => clear_value x)
    | (extract_lets +onlyGivenNames x; clear_value x)
    | with_reducible apply Keeps.step (keeps_State_draw _)
    | with_reducible apply Keeps.step (keeps_State_log _ _ _)
    | with_reducible refine Keeps.modSurvey ?_ ?_
    | with_reducible apply Keeps.setBit .SRV_STATUS (group_SRV_STATUS _)
    | with_reducible apply Keeps.step (keeps_sendOffsets _ _)
    | with_reducible apply Keeps.step (keeps_setOffsets _ _ _ _ _ _)
    | with_reducible apply Keeps.ite
    | with_reducible apply Keeps.iteP
    | with_reducible decide
    | with_reducible refine Keeps.of_eq (by assumption) ?_
    | split

theorem keeps_execSurveyRoundComplete : ∀ a0 a1 a2, KeepsR 0x8007ff84000000000000000000000000000000000003fffd000000000040000000000000000000000000000000000000001c0 a2 (execSurveyRoundComplete a0 a1 a2) := by
  intro a0 a1 a2
  have h0 : Keeps 0x8007ff84000000000000000000000000000000000003fffd000000000040000000000000000000000000000000000000001c0 a2 a2 := Keeps.refl _
  unfold execSurveyRoundComplete
  repeat' first
    | with_reducible assumption
    | ((with_reducible refine SrvField.upd_of ?_); intro i x hi; cases i <;> first | exact Keeps.no rfl hi | exact rfl | (split <;> rfl) | ((repeat' split) <;> rfl))
    | intro _
    | with_reducible apply Keeps.accepted
    | with_reducible apply KeepsR.next
    | with_reducible apply KeepsR.ite
    | (extract_lets +onlyGivenNames x; refine Keeps.cut x ?_ (fun hx => ?_); (revert x; show Keeps _ _ _); on_goal 2 => clear_value x)
    | (extract_lets +onlyGivenNames x; clear_value x)
    | with_reducible apply Keeps.bump .SRV_ROUND_COUNT (group_SRV_ROUND_COUNT _)
    | with_reducible apply Keeps.step (keeps_State_draw _)
    | with_reducible apply Keeps.step (keeps_State_log _ _ _)
    | with_reducible refine Keeps.modSurvey ?_ ?_
    | with_reducible apply Keeps.on
    | with_reducible apply Keeps.setBit .SRV_STATUS (group_SRV_STATUS _)
    | with_reducible apply Keeps.setN .SRV_N_PARALLEL (group_SRV_N_PARALLEL _)
    | with_reducible apply Keeps.setR .SRV_Z1_R (group_SRV_Z1_R _)
    | with_reducible apply Keeps.setR .SRV_F_PEAK (group_SRV_F_PEAK _)
    | with_reducible apply Keeps.setR .SRV_F_UPPER (group_SRV_F_UPPER _)
    | with_reducible apply Keeps.setR .SRV_Z1_X (group_SRV_Z1_X _)
    | with_reducible apply Keeps.setR .SRV_ZETA_SWING (group_SRV_ZETA_SWING _)
    | with_reducible apply Keeps.setR .SRV_ZETA_PEAK (group_SRV_ZETA_PEAK _)
    | with_reducible apply Keeps.setR .SRV_N_EST (group_SRV_N_EST _)
    | with_reducible apply Keeps.step (keeps_adapt _ _ _)
    | with_reducible apply Keeps.step (keeps_checkChange _ _ _)
    | with_reducible apply Keeps.step (keeps_reportPoints _ _ _)
    | with_reducible apply Keeps.step (keeps_roundOver _ _)
    | with_reducible apply Keeps.ite
    | with_reducible apply Keeps.iteP
    | with_reducible decide
    | with_reducible refine Keeps.of_eq (by assumption) ?_
    | split

theorem keeps_canaryKeep : ∀ a0 a1 a2 a3, Keeps 0xf800000000000000000000000000000000000000000000000000000000000000000000000000000000000000000000000000 a3 (canaryKeep a0 a1 a2 a3) := by
  intro a0 a1 a2 a3
  have h0 : Keeps 0xf800000000000000000000000000000000000000000000000000000000000000000000000000000000000000000000000000 a3 a3 := Keeps.refl _
  unfold canaryKeep
  repeat' first
    | with_reducible assumption
    | ((with_reducible refine SrvField.upd_of ?_); intro i x hi; cases i <;> first | exact Keeps.no rfl hi | exact rfl | (split <;> rfl) | ((repeat' split) <;> rfl))
    | intro _
    | (extract_lets +onlyGivenNames x; clear_value x)
    | with_reducible refine Keeps.modSurvey ?_ ?_
    | with_reducible apply Keeps.ite
    | with_reducible apply Keeps.iteP
    | with_reducible decide
    | split

theorem keeps_residualStep : ∀ a0 a1 a2 a3, Keeps 0x380000000000000000000000000000000000000000000040000000004000000000000000000000000000000000000000100 a3 (residualStep a0 a1 a2 a3) := by
  intro a0 a1 a2 a3
  have h0 : Keeps 0x380000000000000000000000000000000000000000000040000000004000000000000000000000000000000000000000100 a3 a3 := Keeps.refl _
  unfold residualStep
  repeat' first
    | with_reducible assumption
    | ((with_reducible refine SrvField.upd_of ?_); intro i x hi; cases i <;> first | exact Keeps.no rfl hi | exact rfl | (split <;> rfl) | ((repeat' split) <;> rfl))
    | intro _
    | (extract_lets +onlyGivenNames x; refine Keeps.cut x ?_ (fun hx => ?_); (revert x; show Keeps _ _ _); on_goal 2 => clear_value x)
    | (extract_lets +onlyGivenNames x; clear_value x)
    | with_reducible apply Keeps.step (keeps_State_log _ _ _)
    | with_reducible refine Keeps.modSurvey ?_ ?_
    | with_reducible apply Keeps.setR .SRV_CAN_RES (group_SRV_CAN_RES _ _ (by first | omega | (simp only [List.mem_range, List.mem_cons, List.not_mem_nil, or_false] at *; omega)))
    | with_reducible apply Keeps.ite
    | with_reducible apply Keeps.iteP
    | with_reducible decide
    | split

theorem keeps_scoreStep : ∀ a0 a1, Keeps 0x400000000000000000000000000000000000000000080080000000000000000000000000000000000000000000000000000 a1 (scoreStep a0 a1) := by
  intro a0 a1
  have h0 : Keeps 0x400000000000000000000000000000000000000000080080000000000000000000000000000000000000000000000000000 a1 a1 := Keeps.refl _
  unfold scoreStep
  repeat' first
    | with_reducible assumption
    | ((with_reducible refine SrvField.upd_of ?_); intro i x hi; cases i <;> first | exact Keeps.no rfl hi | exact rfl | (split <;> rfl) | ((repeat' split) <;> rfl))
    | intro _
    | (extract_lets +onlyGivenNames x; refine Keeps.cut x ?_ (fun hx => ?_); (revert x; show Keeps _ _ _); on_goal 2 => clear_value x)
    | (extract_lets +onlyGivenNames x; clear_value x)
    | with_reducible refine Keeps.modSurvey ?_ ?_
    | with_reducible apply Keeps.setBit .SRV_STATUS (group_SRV_STATUS _)
    | with_reducible apply Keeps.setR .SRV_CAN_SCORE (group_SRV_CAN_SCORE _)
    | with_reducible apply Keeps.foldl
    | with_reducible apply Keeps.foldlP
    | with_reducible apply Keeps.ite
    | with_reducible apply Keeps.iteP
    | with_reducible decide
    | split

theorem keeps_canaryStep : ∀ a0 a1 a2, Keeps 0x107800000000000000000000000000000000000000000800c0000000004000000000000000000000000000000000000000100 a2 (canaryStep a0 a1 a2) := by
  intro a0 a1 a2
  have h0 : Keeps 0x107800000000000000000000000000000000000000000800c0000000004000000000000000000000000000000000000000100 a2 a2 := Keeps.refl _
  unfold canaryStep
  repeat' first
    | with_reducible assumption
    | ((with_reducible refine SrvField.upd_of ?_); intro i x hi; cases i <;> first | exact Keeps.no rfl hi | exact rfl | (split <;> rfl) | ((repeat' split) <;> rfl))
    | intro _
    | (extract_lets +onlyGivenNames x; refine Keeps.cut x ?_ (fun hx => ?_); (revert x; show Keeps _ _ _); on_goal 2 => clear_value x)
    | (extract_lets +onlyGivenNames x; clear_value x)
    | with_reducible refine Keeps.modSurvey ?_ ?_
    | with_reducible apply Keeps.setBit .SRV_STATUS (group_SRV_STATUS _)
    | with_reducible apply Keeps.step (keeps_residualStep _ _ _ _)
    | with_reducible apply Keeps.step (keeps_scoreStep _ _)
    | with_reducible apply Keeps.foldl
    | with_reducible apply Keeps.foldlP
    | with_reducible apply Keeps.ite
    | with_reducible apply Keeps.iteP
    | with_reducible decide
    | split

theorem keeps_canarySafe : ∀ a0 a1 a2, Keeps 0x2000000000004001810000000007400008000310060c0d00000006e0007cc1d9f0a4b33e700020000010000000080010014020004000600000100020981a0201000100e000000000140 a2 (canarySafe a0 a1 a2) := by
  intro a0 a1 a2
  have h0 : Keeps 0x2000000000004001810000000007400008000310060c0d00000006e0007cc1d9f0a4b33e700020000010000000080010014020004000600000100020981a0201000100e000000000140 a2 a2 := Keeps.refl _
  unfold canarySafe
  repeat' first
    | with_reducible assumption
    | intro _
    | (extract_lets +onlyGivenNames x; refine Keeps.cut x ?_ (fun hx => ?_); (revert x; show Keeps _ _ _); on_goal 2 => clear_value x)
    | (extract_lets +onlyGivenNames x; clear_value x)
    | with_reducible apply Keeps.step (keeps_arbStart _ _ _)
    | with_reducible apply Keeps.step (keeps_demandStop _ _)
    | with_reducible apply Keeps.step (keeps_stageSafe _ _ _)
    | with_reducible apply Keeps.ite
    | with_reducible apply Keeps.iteP
    | with_reducible decide
    | split

theorem keeps_canaryReact : ∀ a0 a1 a2, Keeps 0x2000000000004001810000000007400028000310060c0d00000006e0007cc1d9f0a4b33e700020000010000000080010014020004000600000100020981a0201000100e000000000140 a1 (canaryReact a0 a1 a2) := by
  intro a0 a1 a2
  have h0 : Keeps 0x2000000000004001810000000007400028000310060c0d00000006e0007cc1d9f0a4b33e700020000010000000080010014020004000600000100020981a0201000100e000000000140 a1 a1 := Keeps.refl _
  unfold canaryReact
  repeat' first
    | with_reducible assumption
    | intro _
    | (extract_lets +onlyGivenNames x; clear_value x)
    | with_reducible apply Keeps.step (keeps_State_log _ _ _)
    | with_reducible apply Keeps.setBit .SRV_STATUS (group_SRV_STATUS _)
    | with_reducible apply Keeps.step (keeps_canarySafe _ _ _)
    | with_reducible apply Keeps.step (keeps_substitute _ _ _)
    | with_reducible apply Keeps.ite
    | with_reducible apply Keeps.iteP
    | with_reducible decide
    | with_reducible refine Keeps.of_eq (by assumption) ?_
    | split

theorem keeps_canaryReactions : ∀ a0 a1, Keeps 0x2000000000004001810000000007400028000310060c0d20000006e0007cc1d9f0a4b33e700020000010000000080010014020004000600000100020981a0201000100e000000000140 a1 (canaryReactions a0 a1) := by
  intro a0 a1
  have h0 : Keeps 0x2000000000004001810000000007400028000310060c0d20000006e0007cc1d9f0a4b33e700020000010000000080010014020004000600000100020981a0201000100e000000000140 a1 a1 := Keeps.refl _
  unfold canaryReactions
  repeat' first
    | with_reducible assumption
    | ((with_reducible refine SrvField.upd_of ?_); intro i x hi; cases i <;> first | exact Keeps.no rfl hi | exact rfl | (split <;> rfl) | ((repeat' split) <;> rfl))
    | intro _
    | (extract_lets +onlyGivenNames x; clear_value x)
    | with_reducible refine Keeps.modSurvey ?_ ?_
    | with_reducible apply Keeps.step (keeps_canaryReact _ _ _)
    | with_reducible apply Keeps.foldl
    | with_reducible apply Keeps.foldlP
    | with_reducible decide

theorem keeps_execCanaryAct : ∀ a0 a1 a2, KeepsR 0x60200000000000000000000000000000000000000000080000000000004000000000000000000000000000000000000000100 a2 (execCanaryAct a0 a1 a2) := by
  intro a0 a1 a2
  have h0 : Keeps 0x60200000000000000000000000000000000000000000080000000000004000000000000000000000000000000000000000100 a2 a2 := Keeps.refl _
  unfold execCanaryAct
  repeat' first
    | with_reducible assumption
    | ((with_reducible refine SrvField.upd_of ?_); intro i x hi; cases i <;> first | exact Keeps.no rfl hi | exact rfl | (split <;> rfl) | ((repeat' split) <;> rfl))
    | intro _
    | with_reducible apply Keeps.accepted
    | with_reducible apply KeepsR.next
    | with_reducible apply KeepsR.ite
    | (extract_lets +onlyGivenNames x; refine Keeps.cut x ?_ (fun hx => ?_); (revert x; show Keeps _ _ _); on_goal 2 => clear_value x)
    | (extract_lets +onlyGivenNames x; clear_value x)
    | with_reducible apply Keeps.step (keeps_State_log _ _ _)
    | with_reducible refine Keeps.modSurvey ?_ ?_
    | with_reducible apply Keeps.on
    | with_reducible apply Keeps.setBit .SRV_STATUS (group_SRV_STATUS _)
    | with_reducible apply Keeps.ite
    | with_reducible apply Keeps.iteP
    | with_reducible decide
    | split

end Sys2Proof.Machine
end

