-- ==== Sys2Proof/Laws/KeepsPier.lean ====
section
/-!
SUPPORT. What each operation of Machine/Pier.lean may change.
-/

set_option linter.unusedTactic false
set_option linter.tactic.unusedName false
set_option linter.unreachableTactic false

namespace Sys2Proof.Machine

theorem keeps_undoSample : ∀ a0 a1 a2, Keeps 0xf80000000000000000000402f98200000000000000000000000000010040000000000000000000000000000000000000000000000000 a2 (undoSample a0 a1 a2) := by
  intro a0 a1 a2
  have h0 : Keeps 0xf80000000000000000000402f98200000000000000000000000000010040000000000000000000000000000000000000000000000000 a2 a2 := Keeps.refl _
  unfold undoSample
  repeat' first
    | with_reducible assumption
    | ((with_reducible refine PieField.upd_of ?_); intro i x hi; cases i <;> first | exact Keeps.no rfl hi | exact rfl | (split <;> rfl) | ((repeat' split) <;> rfl))
    | ((with_reducible refine FrtField.upd_of ?_); intro i x hi; cases i <;> first | exact Keeps.no rfl hi | exact rfl | (split <;> rfl) | ((repeat' split) <;> rfl))
    | ((with_reducible refine ShrField.upd_of ?_); intro i x hi; cases i <;> first | exact Keeps.no rfl hi | exact rfl | (split <;> rfl) | ((repeat' split) <;> rfl))
    | intro _
    | (extract_lets +onlyGivenNames x; refine Keeps.cut x ?_ (fun hx => ?_); (revert x; show Keeps _ _ _); on_goal 2 => clear_value x)
    | (extract_lets +onlyGivenNames x; clear_value x)
    | with_reducible refine Keeps.modPier ?_ ?_
    | with_reducible refine Keeps.modRide ?_ ?_
    | with_reducible refine Keeps.modShare ?_ ?_
    | with_reducible apply Keeps.setBit .SHR_STATUS (group_SHR_STATUS _)
    | with_reducible apply Keeps.setN .SHR_ANCHOR_COUNT (group_SHR_ANCHOR_COUNT _)
    | with_reducible apply Keeps.ite
    | with_reducible apply Keeps.iteP
    | with_reducible decide
    | split

theorem keeps_voidSample : ∀ a0 a1 a2, Keeps 0x200000000000400181000000000744202800031f860d0d00000006e0007cc1fff8a4b33e70000000001000000008001005402e004000600000100020981a0201000100e000000000140 a2 (voidSample a0 a1 a2) := by
  intro a0 a1 a2
  have h0 : Keeps 0x200000000000400181000000000744202800031f860d0d00000006e0007cc1fff8a4b33e70000000001000000008001005402e004000600000100020981a0201000100e000000000140 a2 a2 := Keeps.refl _
  unfold voidSample
  repeat' first
    | with_reducible assumption
    | ((with_reducible refine PieField.upd_of ?_); intro i x hi; cases i <;> first | exact Keeps.no rfl hi | exact rfl | (split <;> rfl) | ((repeat' split) <;> rfl))
    | intro _
    | (extract_lets +onlyGivenNames x; refine Keeps.cut x ?_ (fun hx => ?_); (revert x; show Keeps _ _ _); on_goal 2 => clear_value x)
    | (extract_lets +onlyGivenNames x; clear_value x)
    | with_reducible apply Keeps.bump .PIE_OVERRUN_COUNT (group_PIE_OVERRUN_COUNT _)
    | with_reducible apply Keeps.step (keeps_State_log _ _ _)
    | with_reducible refine Keeps.modPier ?_ ?_
    | with_reducible apply Keeps.setBit .PIE_STATUS (group_PIE_STATUS _)
    | with_reducible apply Keeps.setN .PIE_OVERRUN_RUN (group_PIE_OVERRUN_RUN _)
    | with_reducible apply Keeps.step (keeps_dueSelftest _ _)
    | with_reducible apply Keeps.step (keeps_edgeCancelProvisional _ _)
    | with_reducible apply Keeps.step (keeps_endPulses _ _)
    | with_reducible apply Keeps.step (keeps_galFlag _ _ _)
    | with_reducible apply Keeps.step (keeps_galMiss _ _ _)
    | with_reducible apply Keeps.step (keeps_overrunLimit _ _)
    | with_reducible apply Keeps.step (keeps_undoSample _ _ _)
    | with_reducible apply Keeps.ite
    | with_reducible apply Keeps.iteP
    | with_reducible decide
    | with_reducible refine Keeps.of_eq (by assumption) ?_
    | split

theorem keeps_setReturned : ∀ a0 a1, Keeps 0x408000000000000000000000000000000000000000000000000000000000000000000000000000000000000000000000000000000 a1 (setReturned a0 a1) := by
  intro a0 a1
  have h0 : Keeps 0x408000000000000000000000000000000000000000000000000000000000000000000000000000000000000000000000000000000 a1 a1 := Keeps.refl _
  unfold setReturned
  repeat' first
    | with_reducible assumption
    | ((with_reducible refine PieField.upd_of ?_); intro i x hi; cases i <;> first | exact Keeps.no rfl hi | exact rfl | (split <;> rfl) | ((repeat' split) <;> rfl))
    | intro _
    | with_reducible refine Keeps.modPier ?_ ?_
    | with_reducible decide

theorem keeps_discardSet : ∀ a0 a1 a2 a3, Keeps 0x200000000000400181000000000744202800031f864d8f00000006e0007cc1fff8a4b33e70000000001000000008001005402e004000600000100020981a0201000100e000000000140 a3 (discardSet a0 a1 a2 a3) := by
  intro a0 a1 a2 a3
  have h0 : Keeps 0x200000000000400181000000000744202800031f864d8f00000006e0007cc1fff8a4b33e70000000001000000008001005402e004000600000100020981a0201000100e000000000140 a3 a3 := Keeps.refl _
  unfold discardSet
  repeat' first
    | with_reducible assumption
    | ((with_reducible refine PieField.upd_of ?_); intro i x hi; cases i <;> first | exact Keeps.no rfl hi | exact rfl | (split <;> rfl) | ((repeat' split) <;> rfl))
    | intro _
    | (extract_lets +onlyGivenNames x; refine Keeps.cut x ?_ (fun hx => ?_); (revert x; show Keeps _ _ _); on_goal 2 => clear_value x)
    | (extract_lets +onlyGivenNames x; clear_value x)
    | with_reducible apply Keeps.step (keeps_State_log _ _ _)
    | with_reducible refine Keeps.modPier ?_ ?_
    | with_reducible apply Keeps.step (keeps_setReturned _ _)
    | with_reducible apply Keeps.step (keeps_undoSample _ _ _)
    | with_reducible apply Keeps.step (keeps_voidSample _ _ _)
    | with_reducible decide
    | with_reducible refine Keeps.of_eq (by assumption) ?_
    | split

theorem keeps_outerPart : ∀ a0 a1 a2 a3 a4, Keeps 0x4000000000800000000000000000000003f81200000000000000000000000000033f40000004000000000000000000002000000000000000000100 a4 (outerPart a0 a1 a2 a3 a4).2.2 := by
  intro a0 a1 a2 a3 a4
  have h0 : Keeps 0x4000000000800000000000000000000003f81200000000000000000000000000033f40000004000000000000000000002000000000000000000100 a4 a4 := Keeps.refl _
  unfold outerPart
  repeat' first
    | with_reducible assumption
    | intro _
    | (extract_lets +onlyGivenNames x; refine Keeps.cut x ?_ (fun hx => ?_); (revert x; show Keeps _ _ _); on_goal 2 => clear_value x)
    | (extract_lets +onlyGivenNames x; clear_value x)
    | with_reducible apply Keeps.setR .FRT_DELTA_P_COAST (group_FRT_DELTA_P_COAST _)
    | with_reducible apply Keeps.step (keeps_restoration _ _ _)
    | with_reducible apply Keeps.step (keeps_syncStep _ _ _)
    | with_reducible decide
    | with_reducible refine Keeps.of_eq (by assumption) ?_
    | split

theorem keeps_lawPass : ∀ a0 a1 a2 a3 a4, Keeps 0x4000000000800000000000000000000403f99200000000000000000000000000033f40000004000000000000000000002000000000000000000100 a4 (lawPass a0 a1 a2 a3 a4).2 := by
  intro a0 a1 a2 a3 a4
  have h0 : Keeps 0x4000000000800000000000000000000403f99200000000000000000000000000033f40000004000000000000000000002000000000000000000100 a4 a4 := Keeps.refl _
  unfold lawPass
  repeat' first
    | with_reducible assumption
    | ((with_reducible refine FrtField.upd_of ?_); intro i x hi; cases i <;> first | exact Keeps.no rfl hi | exact rfl | (split <;> rfl) | ((repeat' split) <;> rfl))
    | intro _
    | (extract_lets +onlyGivenNames x; refine Keeps.cut x ?_ (fun hx => ?_); (revert x; show Keeps _ _ _); on_goal 2 => clear_value x)
    | (extract_lets +onlyGivenNames x; clear_value x)
    | with_reducible refine Keeps.modRide ?_ ?_
    | with_reducible apply Keeps.step (keeps_outerPart _ _ _ _ _)
    | with_reducible apply Keeps.step (keeps_rampStep _ _ _)
    | with_reducible apply Keeps.ite
    | with_reducible apply Keeps.iteP
    | with_reducible decide
    | with_reducible refine Keeps.of_eq (by assumption) ?_
    | split

theorem keeps_armedPass : ∀ a0 a1 a2, Keeps 0xd00000000000000000000000000000000000000000000000000 a2 (armedPass a0 a1 a2).2 := by
  intro a0 a1 a2
  have h0 : Keeps 0xd00000000000000000000000000000000000000000000000000 a2 a2 := Keeps.refl _
  unfold armedPass
  repeat' first
    | with_reducible assumption
    | intro _
    | (extract_lets +onlyGivenNames x; refine Keeps.cut x ?_ (fun hx => ?_); (revert x; show Keeps _ _ _); on_goal 2 => clear_value x)
    | (extract_lets +onlyGivenNames x; clear_value x)
    | with_reducible apply Keeps.step (keeps_publishDiffs _ _ _)
    | with_reducible apply Keeps.ite
    | with_reducible apply Keeps.iteP
    | with_reducible decide
    | split

theorem keeps_lawEvents : ∀ a0 a1 a2, Keeps 0x780000000000000000000001800000000000000000000000000000010000000004000000000100000000200000000000000000000100 a2 (lawEvents a0 a1 a2) := by
  intro a0 a1 a2
  have h0 : Keeps 0x780000000000000000000001800000000000000000000000000000010000000004000000000100000000200000000000000000000100 a2 a2 := Keeps.refl _
  unfold lawEvents
  repeat' first
    | with_reducible assumption
    | ((with_reducible refine PieField.upd_of ?_); intro i x hi; cases i <;> first | exact Keeps.no rfl hi | exact rfl | (split <;> rfl) | ((repeat' split) <;> rfl))
    | intro _
    | (extract_lets +onlyGivenNames x; refine Keeps.cut x ?_ (fun hx => ?_); (revert x; show Keeps _ _ _); on_goal 2 => clear_value x)
    | (extract_lets +onlyGivenNames x; clear_value x)
    | with_reducible apply Keeps.step (keeps_State_log _ _ _)
    | with_reducible refine Keeps.modPier ?_ ?_
    | with_reducible apply Keeps.setBit .GFL_STATUS (group_GFL_STATUS _)
    | with_reducible apply Keeps.setBit .FRT_STATUS (group_FRT_STATUS _)
    | with_reducible apply Keeps.step (keeps_suspend _ _ _)
    | with_reducible apply Keeps.ite
    | with_reducible apply Keeps.iteP
    | with_reducible decide
    | with_reducible refine Keeps.of_eq (by assumption) ?_
    | split

theorem keeps_gfiSample : ∀ a0 a1 a2, Keeps 0x200000000000400180000000000744000800031f800c0d00000006e0007cdffff9a4b33e700020000000000000080033f54020004000200000100020981b6201000100e000000000140 a2 (gfiSample a0 a1 a2).2 := by
  intro a0 a1 a2
  have h0 : Keeps 0x200000000000400180000000000744000800031f800c0d00000006e0007cdffff9a4b33e700020000000000000080033f54020004000200000100020981b6201000100e000000000140 a2 a2 := Keeps.refl _
  unfold gfiSample
  repeat' first
    | with_reducible assumption
    | ((with_reducible refine FrtField.upd_of ?_); intro i x hi; cases i <;> first | exact Keeps.no rfl hi | exact rfl | (split <;> rfl) | ((repeat' split) <;> rfl))
    | intro _
    | (extract_lets +onlyGivenNames x; refine Keeps.cut x ?_ (fun hx => ?_); (revert x; show Keeps _ _ _); on_goal 2 => clear_value x)
    | (extract_lets +onlyGivenNames x; clear_value x)
    | with_reducible refine Keeps.modRide ?_ ?_
    | with_reducible apply Keeps.step (keeps_budgetAdvance _ _)
    | with_reducible apply Keeps.step (keeps_lawEvents _ _ _)
    | with_reducible apply Keeps.step (keeps_lawPass _ _ _ _ _)
    | with_reducible apply Keeps.step (keeps_rideEnter _ _ _)
    | with_reducible apply Keeps.step (keeps_rideStep _ _ _ _ _)
    | with_reducible apply Keeps.ite
    | with_reducible apply Keeps.iteP
    | with_reducible decide
    | with_reducible refine Keeps.of_eq (by assumption) ?_
    | split

theorem keeps_limitStep : ∀ a0 a1 a2, Keeps 0x1800000040200000000000000000000010000000004000000000000000000000000000000000000000500 a2 (limitStep a0 a1 a2) := by
  intro a0 a1 a2
  have h0 : Keeps 0x1800000040200000000000000000000010000000004000000000000000000000000000000000000000500 a2 a2 := Keeps.refl _
  unfold limitStep
  repeat' first
    | with_reducible assumption
    | ((with_reducible refine StgField.upd_of ?_); intro i x hi; cases i <;> first | exact Keeps.no rfl hi | exact rfl | (split <;> rfl) | ((repeat' split) <;> rfl))
    | exact Or.inl rfl
    | exact Or.inr (fun _ h => h)
    | exact Or.inr (fun _ _ => rfl)
    | ((with_reducible refine Or.inr ?_); intro x h; (repeat' split) <;> first | exact h | exact rfl)
    | intro _
    | (extract_lets +onlyGivenNames x; refine Keeps.cut x ?_ (fun hx => ?_); (revert x; show Keeps _ _ _); on_goal 2 => clear_value x)
    | (extract_lets +onlyGivenNames x; clear_value x)
    | with_reducible refine Keeps.modStage ?_ ?_ ?_
    | with_reducible apply Keeps.step (keeps_suspend _ _ _)
    | with_reducible apply Keeps.ite
    | with_reducible apply Keeps.iteP
    | with_reducible decide
    | split

theorem keeps_execStageLimitExit : ∀ a0 a1, KeepsR 0x200000000000000000000000000000000000000000000000000000000000000000000000400 a1 (execStageLimitExit a0 a1) := by
  intro a0 a1
  have h0 : Keeps 0x200000000000000000000000000000000000000000000000000000000000000000000000400 a1 a1 := Keeps.refl _
  unfold execStageLimitExit
  repeat' first
    | with_reducible assumption
    | ((with_reducible refine StgField.upd_of ?_); intro i x hi; cases i <;> first | exact Keeps.no rfl hi | exact rfl | (split <;> rfl) | ((repeat' split) <;> rfl))
    | exact Or.inl rfl
    | exact Or.inr (fun _ h => h)
    | exact Or.inr (fun _ _ => rfl)
    | ((with_reducible refine Or.inr ?_); intro x h; (repeat' split) <;> first | exact h | exact rfl)
    | intro _
    | with_reducible apply Keeps.accepted
    | with_reducible apply KeepsR.next
    | with_reducible apply KeepsR.ite
    | with_reducible refine Keeps.modStage ?_ ?_ ?_
    | with_reducible apply Keeps.on
    | with_reducible apply Keeps.ite
    | with_reducible apply Keeps.iteP
    | with_reducible decide
    | split

theorem keeps_returnSpeed : ∀ a0 a1 a2, Keeps 0x200000002000000000000000000000000000000000000000000000000000000000000000000000000000000000000000000000 a2 (returnSpeed a0 a1 a2) := by
  intro a0 a1 a2
  have h0 : Keeps 0x200000002000000000000000000000000000000000000000000000000000000000000000000000000000000000000000000000 a2 a2 := Keeps.refl _
  unfold returnSpeed
  repeat' first
    | with_reducible assumption
    | ((with_reducible refine PieField.upd_of ?_); intro i x hi; cases i <;> first | exact Keeps.no rfl hi | exact rfl | (split <;> rfl) | ((repeat' split) <;> rfl))
    | ((with_reducible refine FrtField.upd_of ?_); intro i x hi; cases i <;> first | exact Keeps.no rfl hi | exact rfl | (split <;> rfl) | ((repeat' split) <;> rfl))
    | intro _
    | (extract_lets +onlyGivenNames x; refine Keeps.cut x ?_ (fun hx => ?_); (revert x; show Keeps _ _ _); on_goal 2 => clear_value x)
    | (extract_lets +onlyGivenNames x; clear_value x)
    | with_reducible refine Keeps.modPier ?_ ?_
    | with_reducible refine Keeps.modRide ?_ ?_
    | with_reducible apply Keeps.ite
    | with_reducible apply Keeps.iteP
    | with_reducible decide
    | with_reducible refine Keeps.of_eq (by assumption) ?_
    | split

theorem keeps_postCheck : ∀ a0 a1, Keeps 0x2000000000004001800000000007402008000310000e0d00000006e0007cc1d9f0a4b33e700000000000000000080010014030004000200000100020981a0201000100e000000000140 a1 (postCheck a0 a1) := by
  intro a0 a1
  have h0 : Keeps 0x2000000000004001800000000007402008000310000e0d00000006e0007cc1d9f0a4b33e700000000000000000080010014030004000200000100020981a0201000100e000000000140 a1 a1 := Keeps.refl _
  unfold postCheck
  repeat' first
    | with_reducible assumption
    | ((with_reducible refine PieField.upd_of ?_); intro i x hi; cases i <;> first | exact Keeps.no rfl hi | exact rfl | (split <;> rfl) | ((repeat' split) <;> rfl))
    | intro _
    | (extract_lets +onlyGivenNames x; refine Keeps.cut x ?_ (fun hx => ?_); (revert x; show Keeps _ _ _); on_goal 2 => clear_value x)
    | (extract_lets +onlyGivenNames x; clear_value x)
    | with_reducible apply Keeps.bump .PIE_POST_OVERRUN_COUNT (group_PIE_POST_OVERRUN_COUNT _)
    | with_reducible apply Keeps.step (keeps_State_logOnce _ _ _ _)
    | with_reducible refine Keeps.modPier ?_ ?_
    | with_reducible apply Keeps.setBit .PIE_STATUS (group_PIE_STATUS _)
    | with_reducible apply Keeps.step (keeps_galMiss _ _ _)
    | with_reducible apply Keeps.step (keeps_stageSafe _ _ _)
    | with_reducible apply Keeps.ite
    | with_reducible apply Keeps.iteP
    | with_reducible decide
    | with_reducible refine Keeps.of_eq (by assumption) ?_
    | split

theorem keeps_reloadParams : ∀ a0 a1 a2, Keeps 0x200000000000000000000000000000000000000000000000000000000000000000000000000000000000000000000000000000 a2 (reloadParams a0 a1 a2) := by
  intro a0 a1 a2
  have h0 : Keeps 0x200000000000000000000000000000000000000000000000000000000000000000000000000000000000000000000000000000 a2 a2 := Keeps.refl _
  unfold reloadParams
  repeat' first
    | with_reducible assumption
    | ((with_reducible refine PieField.upd_of ?_); intro i x hi; cases i <;> first | exact Keeps.no rfl hi | exact rfl | (split <;> rfl) | ((repeat' split) <;> rfl))
    | intro _
    | with_reducible refine Keeps.modPier ?_ ?_
    | with_reducible decide
    | with_reducible refine Keeps.of_eq (by assumption) ?_
    | split

theorem keeps_reinitBlock : ∀ a0 a1 a2, Keeps 0x200000000000000000000000000000000000000000000000000000000000000000000000000000000000000000000000000000 a2 (reinitBlock a0 a1 a2) := by
  intro a0 a1 a2
  have h0 : Keeps 0x200000000000000000000000000000000000000000000000000000000000000000000000000000000000000000000000000000 a2 a2 := Keeps.refl _
  unfold reinitBlock
  repeat' first
    | with_reducible assumption
    | ((with_reducible refine PieField.upd_of ?_); intro i x hi; cases i <;> first | exact Keeps.no rfl hi | exact rfl | (split <;> rfl) | ((repeat' split) <;> rfl))
    | intro _
    | with_reducible refine Keeps.modPier ?_ ?_
    | with_reducible decide

theorem keeps_memFault : ∀ a0 a1 a2, Keeps 0x1827000000080040018100014c8007442028000f1f870d0f00000006e8007cc1fff8a4b33e70003170c3d008000008001005402e0240e0601000100020981a0291303100e0000000001c0 a2 (memFault a0 a1 a2) := by
  intro a0 a1 a2
  have h0 : Keeps 0x1827000000080040018100014c8007442028000f1f870d0f00000006e8007cc1fff8a4b33e70003170c3d008000008001005402e0240e0601000100020981a0291303100e0000000001c0 a2 a2 := Keeps.refl _
  unfold memFault
  repeat' first
    | with_reducible assumption
    | intro _
    | with_reducible apply Keeps.bump .PIE_ECC_CORRECTED (group_PIE_ECC_CORRECTED _)
    | with_reducible apply Keeps.step (keeps_State_log _ _ _)
    | with_reducible apply Keeps.step (keeps_fence _ _)
    | with_reducible apply Keeps.step (keeps_reinitBlock _ _ _)
    | with_reducible apply Keeps.step (keeps_reloadParams _ _ _)
    | with_reducible apply Keeps.step (keeps_voidSample _ _ _)
    | with_reducible decide
    | with_reducible refine Keeps.of_eq (by assumption) ?_
    | split

theorem keeps_applyPierCmd : ∀ a0 a1 a2, Keeps 0x200000000000400181000000000740080800031ff67c0f0009df9ee0107ccffff0a4b37e7000000003ffffffffffffffffffffffffffffffffffffffffffffffffffffffffffffff5c0 a2 (applyPierCmd a0 a1 a2) := by
  intro a0 a1 a2
  have h0 : Keeps 0x200000000000400181000000000740080800031ff67c0f0009df9ee0107ccffff0a4b37e7000000003ffffffffffffffffffffffffffffffffffffffffffffffffffffffffffffff5c0 a2 a2 := Keeps.refl _
  unfold applyPierCmd
  repeat' first
    | with_reducible assumption
    | intro _
    | with_reducible apply Keeps.step (keeps_applyWrite _ _ _)
    | with_reducible apply Keeps.step (keeps_partnerInput _ _ _)
    | with_reducible apply Keeps.step (keeps_takeAnchor _ _)
    | with_reducible apply Keeps.step (keeps_takeOffsets _ _ _)
    | with_reducible apply Keeps.step (keeps_takeStageState _ _ _)
    | with_reducible apply Keeps.ite
    | with_reducible apply Keeps.iteP
    | with_reducible decide
    | with_reducible refine Keeps.of_eq (by assumption) ?_
    | split

theorem keeps_takeDeferred : ∀ a0 a1, Keeps 0x200000000000400181000000000740080800031ff67c0f0009df9ee0107ccffff0a4b37e7000000103ffffffffffffffffffffffffffffffffffffffffffffffffffffffffffffff5c0 a1 (takeDeferred a0 a1) := by
  intro a0 a1
  have h0 : Keeps 0x200000000000400181000000000740080800031ff67c0f0009df9ee0107ccffff0a4b37e7000000103ffffffffffffffffffffffffffffffffffffffffffffffffffffffffffffff5c0 a1 a1 := Keeps.refl _
  unfold takeDeferred
  repeat' first
    | with_reducible assumption
    | ((with_reducible refine IslField.upd_of ?_); intro i x hi; cases i <;> first | exact Keeps.no rfl hi | exact rfl | (split <;> rfl) | ((repeat' split) <;> rfl))
    | exact Or.inl rfl
    | exact Or.inr (fun _ _ h => h)
    | exact Or.inr (fun _ _ h => List.mem_cons_of_mem _ h)
    | intro _
    | (extract_lets +onlyGivenNames x; refine Keeps.cut x ?_ (fun hx => ?_); (revert x; show Keeps _ _ _); on_goal 2 => clear_value x)
    | (extract_lets +onlyGivenNames x; clear_value x)
    | with_reducible refine Keeps.modIsl ?_ ?_ ?_
    | with_reducible apply Keeps.step (keeps_applyPierCmd _ _ _)
    | with_reducible apply Keeps.foldl
    | with_reducible apply Keeps.foldlP
    | with_reducible decide

theorem keeps_lawSample : ∀ a0 a1 a2, Keeps 0x200000000000400180000000000744000800031f800c0d00000006e0007cdffff9a4b33e700020000000000000080033f54020004000200000100020981b6201000100e000000000140 a2 (lawSample a0 a1 a2).2 := by
  intro a0 a1 a2
  have h0 : Keeps 0x200000000000400180000000000744000800031f800c0d00000006e0007cdffff9a4b33e700020000000000000080033f54020004000200000100020981b6201000100e000000000140 a2 a2 := Keeps.refl _
  unfold lawSample
  repeat' first
    | with_reducible assumption
    | intro _
    | with_reducible apply Keeps.step (keeps_armedPass _ _ _)
    | with_reducible apply Keeps.step (keeps_gfiSample _ _ _)
    | with_reducible apply Keeps.ite
    | with_reducible apply Keeps.iteP
    | with_reducible decide
    | with_reducible refine Keeps.of_eq (by assumption) ?_
    | split

theorem keeps_nonfinite : ∀ a0 a1 a2 a3, Keeps 0x200000000000400181000000000744202800031f860d0d00000006e0007cc1fff8a4b33e70000000001000000008001005402e004000600000100020981a0201000100e000000000140 a3 (nonfinite a0 a1 a2 a3) := by
  intro a0 a1 a2 a3
  have h0 : Keeps 0x200000000000400181000000000744202800031f860d0d00000006e0007cc1fff8a4b33e70000000001000000008001005402e004000600000100020981a0201000100e000000000140 a3 a3 := Keeps.refl _
  unfold nonfinite
  repeat' first
    | with_reducible assumption
    | intro _
    | with_reducible apply Keeps.step (keeps_State_log _ _ _)
    | with_reducible apply Keeps.setBit .PIE_STATUS (group_PIE_STATUS _)
    | with_reducible apply Keeps.step (keeps_undoSample _ _ _)
    | with_reducible apply Keeps.step (keeps_voidSample _ _ _)
    | with_reducible decide

theorem keeps_computeSample : ∀ a0 a1 a2, Keeps 0x200000000000400181000000000744202800031f860d0d00000006e0007cdffff9a4b37e700020000010000000080033f5402e004000600000100020981b6201000100e000000000540 a2 (computeSample a0 a1 a2) := by
  intro a0 a1 a2
  have h0 : Keeps 0x200000000000400181000000000744202800031f860d0d00000006e0007cdffff9a4b37e700020000010000000080033f5402e004000600000100020981b6201000100e000000000540 a2 a2 := Keeps.refl _
  unfold computeSample
  repeat' first
    | with_reducible assumption
    | ((with_reducible refine PieField.upd_of ?_); intro i x hi; cases i <;> first | exact Keeps.no rfl hi | exact rfl | (split <;> rfl) | ((repeat' split) <;> rfl))
    | intro _
    | (extract_lets +onlyGivenNames x; refine Keeps.cut x ?_ (fun hx => ?_); (revert x; show Keeps _ _ _); on_goal 2 => clear_value x)
    | (extract_lets +onlyGivenNames x; clear_value x)
    | with_reducible refine Keeps.modPier ?_ ?_
    | with_reducible apply Keeps.step (keeps_lawSample _ _ _)
    | with_reducible apply Keeps.step (keeps_limitStep _ _ _)
    | with_reducible apply Keeps.step (keeps_nonfinite _ _ _ _)
    | with_reducible apply Keeps.ite
    | with_reducible apply Keeps.iteP
    | with_reducible decide
    | with_reducible refine Keeps.of_eq (by assumption) ?_
    | split

theorem keeps_inputFlags : ∀ a0 a1 a2, Keeps 0x4000000000000000000000000000000000000000000000000000000000000000000000000000000000000000000000000000000000000000000000 a2 (inputFlags a0 a1 a2) := by
  intro a0 a1 a2
  have h0 : Keeps 0x4000000000000000000000000000000000000000000000000000000000000000000000000000000000000000000000000000000000000000000000 a2 a2 := Keeps.refl _
  unfold inputFlags
  repeat' first
    | with_reducible assumption
    | intro _
    | (extract_lets +onlyGivenNames x; refine Keeps.cut x ?_ (fun hx => ?_); (revert x; show Keeps _ _ _); on_goal 2 => clear_value x)
    | (extract_lets +onlyGivenNames x; clear_value x)
    | with_reducible apply Keeps.step (keeps_galFlag _ _ _)
    | with_reducible apply Keeps.ite
    | with_reducible apply Keeps.iteP
    | with_reducible decide
    | split

theorem keeps_surveySample : ∀ a0 a1 a2, Keeps 0x80000020000000000000000000000000000000000000000000000000000000000000000000000000000000000000000000000 a2 (surveySample a0 a1 a2) := by
  intro a0 a1 a2
  have h0 : Keeps 0x80000020000000000000000000000000000000000000000000000000000000000000000000000000000000000000000000000 a2 a2 := Keeps.refl _
  unfold surveySample
  repeat' first
    | with_reducible assumption
    | ((with_reducible refine SrvField.upd_of ?_); intro i x hi; cases i <;> first | exact Keeps.no rfl hi | exact rfl | (split <;> rfl) | ((repeat' split) <;> rfl))
    | intro _
    | (extract_lets +onlyGivenNames x; refine Keeps.cut x ?_ (fun hx => ?_); (revert x; show Keeps _ _ _); on_goal 2 => clear_value x)
    | (extract_lets +onlyGivenNames x; clear_value x)
    | with_reducible refine Keeps.modSurvey ?_ ?_
    | with_reducible apply Keeps.step (keeps_keepChip _ _ _ _)
    | with_reducible apply Keeps.ite
    | with_reducible apply Keeps.iteP
    | with_reducible decide
    | with_reducible refine Keeps.of_eq (by assumption) ?_
    | split

theorem keeps_runSample : ∀ a0 a1 a2, Keeps 0x200000000000400181000000000744202800031f87bd0f8f80003ff8f07fdffffffcbf7e70002000001000000008003ff5502e004000600000100020981be601000100e000000000540 a2 (runSample a0 a1 a2) := by
  intro a0 a1 a2
  have h0 : Keeps 0x200000000000400181000000000744202800031f87bd0f8f80003ff8f07fdffffffcbf7e70002000001000000008003ff5502e004000600000100020981be601000100e000000000540 a2 a2 := Keeps.refl _
  unfold runSample
  repeat' first
    | with_reducible assumption
    | ((with_reducible refine PieField.upd_of ?_); intro i x hi; cases i <;> first | exact Keeps.no rfl hi | exact rfl | (split <;> rfl) | ((repeat' split) <;> rfl))
    | ((with_reducible refine FrtField.upd_of ?_); intro i x hi; cases i <;> first | exact Keeps.no rfl hi | exact rfl | (split <;> rfl) | ((repeat' split) <;> rfl))
    | ((with_reducible refine StgField.upd_of ?_); intro i x hi; cases i <;> first | exact Keeps.no rfl hi | exact rfl | (split <;> rfl) | ((repeat' split) <;> rfl))
    | exact Or.inl rfl
    | exact Or.inr (fun _ h => h)
    | exact Or.inr (fun _ _ => rfl)
    | ((with_reducible refine Or.inr ?_); intro x h; (repeat' split) <;> first | exact h | exact rfl)
    | intro _
    | (extract_lets +onlyGivenNames x; refine Keeps.cut x ?_ (fun hx => ?_); (revert x; show Keeps _ _ _); on_goal 2 => clear_value x)
    | (extract_lets +onlyGivenNames x; clear_value x)
    | with_reducible refine Keeps.modPier ?_ ?_
    | with_reducible refine Keeps.modRide ?_ ?_
    | with_reducible refine Keeps.modStage ?_ ?_ ?_
    | with_reducible apply Keeps.step (keeps_canaryKeep _ _ _ _)
    | with_reducible apply Keeps.step (keeps_coastStep _ _ _)
    | with_reducible apply Keeps.step (keeps_computeSample _ _ _)
    | with_reducible apply Keeps.step (keeps_galSense _ _)
    | with_reducible apply Keeps.step (keeps_inputFlags _ _ _)
    | with_reducible apply Keeps.step (keeps_returnSpeed _ _ _)
    | with_reducible apply Keeps.step (keeps_roundWatch _ _)
    | with_reducible apply Keeps.step (keeps_surveySample _ _ _)
    | with_reducible apply Keeps.step (keeps_trackLine _ _ _)
    | with_reducible apply Keeps.ite
    | with_reducible apply Keeps.iteP
    | with_reducible decide
    | split

theorem keeps_dispatchSample : ∀ a0 a1 a2, Keeps 0x1827000000080040018100014c8007442828000f3ff7ff0f8f89dfbff8f07fdffffffcbf7e70003171c3ffffffffffffffffffffffffffffffffffffffffffffffffffffffffffffff5c4 a2 (dispatchSample a0 a1 a2) := by
  intro a0 a1 a2
  have h0 : Keeps 0x1827000000080040018100014c8007442828000f3ff7ff0f8f89dfbff8f07fdffffffcbf7e70003171c3ffffffffffffffffffffffffffffffffffffffffffffffffffffffffffffff5c4 a2 a2 := Keeps.refl _
  unfold dispatchSample
  repeat' first
    | with_reducible assumption
    | ((with_reducible refine PieField.upd_of ?_); intro i x hi; cases i <;> first | exact Keeps.no rfl hi | exact rfl | (split <;> rfl) | ((repeat' split) <;> rfl))
    | intro _
    | (extract_lets +onlyGivenNames x; refine Keeps.cut x ?_ (fun hx => ?_); (revert x; show Keeps _ _ _); on_goal 2 => clear_value x)
    | (extract_lets +onlyGivenNames x; clear_value x)
    | with_reducible refine Keeps.modPier ?_ ?_
    | with_reducible apply Keeps.step (keeps_memFault _ _ _)
    | with_reducible apply Keeps.step (keeps_postCheck _ _)
    | with_reducible apply Keeps.step (keeps_runSample _ _ _)
    | with_reducible apply Keeps.step (keeps_takeDeferred _ _)
    | with_reducible apply Keeps.step (keeps_takeWrites _ _)
    | with_reducible apply Keeps.ite
    | with_reducible apply Keeps.iteP
    | with_reducible decide
    | with_reducible refine Keeps.of_eq (by assumption) ?_
    | split

theorem keeps_execPierDispatch : ∀ a0 a1 a2, KeepsR 0x1827000000080040018100014c8007442828000f3ff7ff0f8f89dfbff8f07fdffffffcbf7e70003171c3ffffffffffffffffffffffffffffffffffffffffffffffffffffffffffffff5c4 a2 (execPierDispatch a0 a1 a2) := by
  intro a0 a1 a2
  have h0 : Keeps 0x1827000000080040018100014c8007442828000f3ff7ff0f8f89dfbff8f07fdffffffcbf7e70003171c3ffffffffffffffffffffffffffffffffffffffffffffffffffffffffffffff5c4 a2 a2 := Keeps.refl _
  unfold execPierDispatch
  repeat' first
    | with_reducible assumption
    | intro _
    | with_reducible apply Keeps.accepted
    | with_reducible apply KeepsR.next
    | with_reducible apply KeepsR.ite
    | with_reducible apply Keeps.on
    | with_reducible apply Keeps.step (keeps_dispatchSample _ _ _)
    | with_reducible apply Keeps.ite
    | with_reducible apply Keeps.iteP
    | with_reducible decide
    | split

theorem keeps_publishLaw : ∀ a0 a1 a2 a3, Keeps 0xeefc00000000000000000000000000000 a3 (publishLaw a0 a1 a2 a3) := by
  intro a0 a1 a2 a3
  have h0 : Keeps 0xeefc00000000000000000000000000000 a3 a3 := Keeps.refl _
  unfold publishLaw
  repeat' first
    | with_reducible assumption
    | intro _
    | (extract_lets +onlyGivenNames x; refine Keeps.cut x ?_ (fun hx => ?_); (revert x; show Keeps _ _ _); on_goal 2 => clear_value x)
    | (extract_lets +onlyGivenNames x; clear_value x)
    | with_reducible apply Keeps.setR .GFL_FREQ (group_GFL_FREQ _)
    | with_reducible apply Keeps.setR .GFL_V_NEG (group_GFL_V_NEG _)
    | with_reducible apply Keeps.setR .GFL_E (group_GFL_E _)
    | with_reducible apply Keeps.setR .GFL_EFF_NOTCH_F (group_GFL_EFF_NOTCH_F _)
    | with_reducible apply Keeps.setR .GFL_THETA (group_GFL_THETA _)
    | with_reducible apply Keeps.setR .GFL_P_MEAS (group_GFL_P_MEAS _)
    | with_reducible apply Keeps.setR .GFL_V_ZERO (group_GFL_V_ZERO _)
    | with_reducible apply Keeps.setR .GFL_EFF_RV (group_GFL_EFF_RV _)
    | with_reducible apply Keeps.setR .GFL_Q_MEAS (group_GFL_Q_MEAS _)
    | with_reducible apply Keeps.setR .GFL_EFF_KC (group_GFL_EFF_KC _)
    | with_reducible apply Keeps.setR .GFL_EFF_XV (group_GFL_EFF_XV _)
    | with_reducible apply Keeps.setR .GFL_P_MECH (group_GFL_P_MECH _)
    | with_reducible decide

theorem keeps_sendSet : ∀ a0 a1 a2, Keeps 0xf000000000000000000000006608000000000000000000000000000000000000012000000000000000020004000400000000000000000000000000000000000140 a2 (sendSet a0 a1 a2) := by
  intro a0 a1 a2
  have h0 : Keeps 0xf000000000000000000000006608000000000000000000000000000000000000012000000000000000020004000400000000000000000000000000000000000140 a2 a2 := Keeps.refl _
  unfold sendSet
  repeat' first
    | with_reducible assumption
    | ((with_reducible refine PieField.upd_of ?_); intro i x hi; cases i <;> first | exact Keeps.no rfl hi | exact rfl | (split <;> rfl) | ((repeat' split) <;> rfl))
    | intro _
    | (extract_lets +onlyGivenNames x; refine Keeps.cut x ?_ (fun hx => ?_); (revert x; show Keeps _ _ _); on_goal 2 => clear_value x)
    | (extract_lets +onlyGivenNames x; clear_value x)
    | with_reducible refine Keeps.modPier ?_ ?_
    | with_reducible apply Keeps.step (keeps_digestMeets _ _ _)
    | with_reducible apply Keeps.step (keeps_linkSend _ _ _)
    | with_reducible apply Keeps.ite
    | with_reducible apply Keeps.iteP
    | with_reducible decide
    | split

theorem keeps_rampEnds : ∀ a0 a1 a2, Keeps 0x4000000000000000000000000000000000000000100 a2 (rampEnds a0 a1 a2) := by
  intro a0 a1 a2
  have h0 : Keeps 0x4000000000000000000000000000000000000000100 a2 a2 := Keeps.refl _
  unfold rampEnds
  repeat' first
    | with_reducible assumption
    | intro _
    | (extract_lets +onlyGivenNames x; clear_value x)
    | with_reducible apply Keeps.step (keeps_State_log _ _ _)
    | with_reducible apply Keeps.ite
    | with_reducible apply Keeps.iteP
    | with_reducible decide
    | split

theorem keeps_commitSends : ∀ a0 a1 a2, Keeps 0xf000000000000000800030006608000000000000e60000000000000000000000012000000000000000020004000400000000020800200000000000000000000140 a2 (commitSends a0 a1 a2) := by
  intro a0 a1 a2
  have h0 : Keeps 0xf000000000000000800030006608000000000000e60000000000000000000000012000000000000000020004000400000000020800200000000000000000000140 a2 a2 := Keeps.refl _
  unfold commitSends
  repeat' first
    | with_reducible assumption
    | intro _
    | with_reducible apply Keeps.setBit .PIE_STATUS (group_PIE_STATUS _)
    | with_reducible apply Keeps.step (keeps_coastOrders _ _)
    | with_reducible apply Keeps.step (keeps_rampEnds _ _ _)
    | with_reducible apply Keeps.step (keeps_sendSet _ _ _)
    | with_reducible apply Keeps.step (keeps_startInputRamp _ _)
    | with_reducible decide

theorem keeps_commitSample : ∀ a0 a1 a2 a3, Keeps 0x20000000000040018f0000000007400028000310066c8f20000006e00e7cc1d9f0a4b33e700020000012000000080010014020a04000600000fefc20981a0201000100e000000000140 a3 (commitSample a0 a1 a2 a3) := by
  intro a0 a1 a2 a3
  have h0 : Keeps 0x20000000000040018f0000000007400028000310066c8f20000006e00e7cc1d9f0a4b33e700020000012000000080010014020a04000600000fefc20981a0201000100e000000000140 a3 a3 := Keeps.refl _
  unfold commitSample
  repeat' first
    | with_reducible assumption
    | ((with_reducible refine PieField.upd_of ?_); intro i x hi; cases i <;> first | exact Keeps.no rfl hi | exact rfl | (split <;> rfl) | ((repeat' split) <;> rfl))
    | intro _
    | (extract_lets +onlyGivenNames x; refine Keeps.cut x ?_ (fun hx => ?_); (revert x; show Keeps _ _ _); on_goal 2 => clear_value x)
    | (extract_lets +onlyGivenNames x; clear_value x)
    | with_reducible refine Keeps.modPier ?_ ?_
    | with_reducible apply Keeps.setBit .PIE_STATUS (group_PIE_STATUS _)
    | with_reducible apply Keeps.setN .PIE_MAX_CRIT (group_PIE_MAX_CRIT _)
    | with_reducible apply Keeps.setN .PIE_LAST_COMMIT (group_PIE_LAST_COMMIT _)
    | with_reducible apply Keeps.step (keeps_canaryReactions _ _)
    | with_reducible apply Keeps.step (keeps_commitSends _ _ _)
    | with_reducible apply Keeps.step (keeps_dueSelftest _ _)
    | with_reducible apply Keeps.step (keeps_endPulses _ _)
    | with_reducible apply Keeps.step (keeps_publishLaw _ _ _ _)
    | with_reducible apply Keeps.ite
    | with_reducible apply Keeps.iteP
    | with_reducible decide
    | split

theorem keeps_execPierCommit : ∀ a0 a1 a2, KeepsR 0x1827000000080040018f00014c8007442028000f1f876d8f20000006e80e7cc1fff8a4b33e70003170c3d208000008001005402ea240e0601000fefc20981a0291303100e0000000001c0 a2 (execPierCommit a0 a1 a2) := by
  intro a0 a1 a2
  have h0 : Keeps 0x1827000000080040018f00014c8007442028000f1f876d8f20000006e80e7cc1fff8a4b33e70003170c3d208000008001005402ea240e0601000fefc20981a0291303100e0000000001c0 a2 a2 := Keeps.refl _
  unfold execPierCommit
  repeat' first
    | with_reducible assumption
    | intro _
    | with_reducible apply Keeps.accepted
    | with_reducible apply KeepsR.next
    | with_reducible apply KeepsR.ite
    | with_reducible apply Keeps.on
    | with_reducible apply Keeps.step (keeps_commitSample _ _ _ _)
    | with_reducible apply Keeps.step (keeps_memFault _ _ _)
    | with_reducible apply Keeps.step (keeps_voidSample _ _ _)
    | with_reducible apply Keeps.ite
    | with_reducible apply Keeps.iteP
    | with_reducible decide
    | with_reducible refine Keeps.of_eq (by assumption) ?_
    | split

theorem keeps_execPierOverrun : ∀ a0 a1, KeepsR 0x200000000000400181000000000744202800031f860d0d00000006e0007cc1fff8a4b33e70000000001000000008001005402e004000600000100020981a0201000100e000000000140 a1 (execPierOverrun a0 a1) := by
  intro a0 a1
  have h0 : Keeps 0x200000000000400181000000000744202800031f860d0d00000006e0007cc1fff8a4b33e70000000001000000008001005402e004000600000100020981a0201000100e000000000140 a1 a1 := Keeps.refl _
  unfold execPierOverrun
  repeat' first
    | with_reducible assumption
    | intro _
    | with_reducible apply Keeps.accepted
    | with_reducible apply KeepsR.next
    | with_reducible apply Keeps.on
    | with_reducible apply Keeps.step (keeps_voidSample _ _ _)
    | with_reducible decide
    | with_reducible refine Keeps.of_eq (by assumption) ?_
    | split

theorem keeps_execPostCommit : ∀ a0 a1 a2, KeepsR 0x7fff000000000000c0a107800000000000000000000000000000000000000000800c00000214040000000000000001ffc000000000000000080001c4 a2 (execPostCommit a0 a1 a2) := by
  intro a0 a1 a2
  have h0 : Keeps 0x7fff000000000000c0a107800000000000000000000000000000000000000000800c00000214040000000000000001ffc000000000000000080001c4 a2 a2 := Keeps.refl _
  unfold execPostCommit
  repeat' first
    | with_reducible assumption
    | ((with_reducible refine PieField.upd_of ?_); intro i x hi; cases i <;> first | exact Keeps.no rfl hi | exact rfl | (split <;> rfl) | ((repeat' split) <;> rfl))
    | intro _
    | with_reducible apply Keeps.accepted
    | with_reducible apply KeepsR.next
    | with_reducible apply KeepsR.ite
    | (extract_lets +onlyGivenNames x; refine Keeps.cut x ?_ (fun hx => ?_); (revert x; show Keeps _ _ _); on_goal 2 => clear_value x)
    | (extract_lets +onlyGivenNames x; clear_value x)
    | with_reducible apply Keeps.step (keeps_State_draw _)
    | with_reducible refine Keeps.modPier ?_ ?_
    | with_reducible apply Keeps.on
    | with_reducible apply Keeps.setBit .PIE_STATUS (group_PIE_STATUS _)
    | with_reducible apply Keeps.setN .PIE_MAX_TOTAL (group_PIE_MAX_TOTAL _)
    | with_reducible apply Keeps.setR .PIE_LOAD (group_PIE_LOAD _)
    | with_reducible apply Keeps.step (keeps_canaryStep _ _ _)
    | with_reducible apply Keeps.step (keeps_galleryRecord _ _ _ _)
    | with_reducible apply Keeps.ite
    | with_reducible apply Keeps.iteP
    | with_reducible decide
    | with_reducible refine Keeps.of_eq (by assumption) ?_
    | split

theorem keeps_execBistRoundComplete : ∀ a0 a1 a2, KeepsR 0x1827000000080040018100014c8007440008000f100f0c0d00000006e8007cc1d9f0a4b33e70003170c3d00800000800100140200040e0601000100020981a0291303100e0000000001c0 a2 (execBistRoundComplete a0 a1 a2) := by
  intro a0 a1 a2
  have h0 : Keeps 0x1827000000080040018100014c8007440008000f100f0c0d00000006e8007cc1d9f0a4b33e70003170c3d00800000800100140200040e0601000100020981a0291303100e0000000001c0 a2 a2 := Keeps.refl _
  unfold execBistRoundComplete
  repeat' first
    | with_reducible assumption
    | ((with_reducible refine PieField.upd_of ?_); intro i x hi; cases i <;> first | exact Keeps.no rfl hi | exact rfl | (split <;> rfl) | ((repeat' split) <;> rfl))
    | intro _
    | with_reducible apply Keeps.accepted
    | with_reducible apply KeepsR.next
    | with_reducible apply KeepsR.ite
    | with_reducible refine Keeps.modPier ?_ ?_
    | with_reducible apply Keeps.on
    | with_reducible apply Keeps.setBit .PIE_STATUS (group_PIE_STATUS _)
    | with_reducible apply Keeps.step (keeps_fence _ _)
    | with_reducible apply Keeps.ite
    | with_reducible apply Keeps.iteP
    | with_reducible decide
    | split

theorem keeps_execBistLate : ∀ a0 a1 a2, KeepsR 0x20004000000000000000000000000000000000000000100 a2 (execBistLate a0 a1 a2) := by
  intro a0 a1 a2
  have h0 : Keeps 0x20004000000000000000000000000000000000000000100 a2 a2 := Keeps.refl _
  unfold execBistLate
  repeat' first
    | with_reducible assumption
    | intro _
    | with_reducible apply Keeps.accepted
    | with_reducible apply KeepsR.next
    | with_reducible apply KeepsR.ite
    | with_reducible apply Keeps.step (keeps_State_log _ _ _)
    | with_reducible apply Keeps.on
    | with_reducible apply Keeps.setBit .PIE_STATUS (group_PIE_STATUS _)
    | with_reducible apply Keeps.ite
    | with_reducible apply Keeps.iteP
    | with_reducible decide
    | split

theorem keeps_selftestCmd : ∀ a0 a1, Keeps 0x6000000000000000000000000000000000000000000000000000000000020000000000000000000000000000000000000000000000 a1 (selftestCmd a0 a1).2 := by
  intro a0 a1
  have h0 : Keeps 0x6000000000000000000000000000000000000000000000000000000000020000000000000000000000000000000000000000000000 a1 a1 := Keeps.refl _
  unfold selftestCmd
  repeat' first
    | with_reducible assumption
    | intro _
    | with_reducible apply Keeps.step (keeps_startSelftest _ _)
    | with_reducible apply Keeps.ite
    | with_reducible apply Keeps.iteP
    | with_reducible decide
    | split

theorem keeps_execPieSelftest : ∀ a0 a1 a2, KeepsR 0x140038000000000000000000000000000000000000006000000000000000000000000000000000000000000000000000000000020000009000000000000000000000000000000000000040 a2 (execPieSelftest a0 a1 a2) := by
  intro a0 a1 a2
  have h0 : Keeps 0x140038000000000000000000000000000000000000006000000000000000000000000000000000000000000000000000000000020000009000000000000000000000000000000000000040 a2 a2 := Keeps.refl _
  unfold execPieSelftest
  repeat' first
    | with_reducible assumption
    | intro _
    | with_reducible apply Keeps.accepted
    | with_reducible apply KeepsR.next
    | with_reducible apply Keeps.owned
    | with_reducible apply Keeps.request
    | with_reducible apply Keeps.step (keeps_selftestCmd _ _)
    | with_reducible decide

theorem keeps_orderBlockReset : ∀ a0 a1 a2, Keeps 0x200000000000000000000000000000000000000000000000000000000000000000000000000000000000000000000000000000 a2 (orderBlockReset a0 a1 a2) := by
  intro a0 a1 a2
  have h0 : Keeps 0x200000000000000000000000000000000000000000000000000000000000000000000000000000000000000000000000000000 a2 a2 := Keeps.refl _
  unfold orderBlockReset
  repeat' first
    | with_reducible assumption
    | ((with_reducible refine PieField.upd_of ?_); intro i x hi; cases i <;> first | exact Keeps.no rfl hi | exact rfl | (split <;> rfl) | ((repeat' split) <;> rfl))
    | intro _
    | with_reducible refine Keeps.modPier ?_ ?_
    | with_reducible decide

theorem keeps_execBlockStateReset : ∀ a0 a1 a2 a3, KeepsR 0x140038000000000000000000000000000000000000000000200000000000000000000000000000000000000000000000000000000000009000000000000000000000000000000000000040 a3 (execBlockStateReset a0 a1 a2 a3) := by
  intro a0 a1 a2 a3
  have h0 : Keeps 0x140038000000000000000000000000000000000000000000200000000000000000000000000000000000000000000000000000000000009000000000000000000000000000000000000040 a3 a3 := Keeps.refl _
  unfold execBlockStateReset
  repeat' first
    | with_reducible assumption
    | intro _
    | with_reducible apply Keeps.accepted
    | with_reducible apply KeepsR.next
    | with_reducible apply Keeps.step (keeps_orderBlockReset _ _ _)
    | with_reducible apply Keeps.owned
    | with_reducible apply Keeps.request
    | with_reducible decide

end Sys2Proof.Machine
end

