-- ==== Sys2Proof/Laws/KeepsEdge.lean ====
section
/-!
SUPPORT. What each operation of Machine/Edge.lean may change.
-/

set_option linter.unusedTactic false
set_option linter.tactic.unusedName false
set_option linter.unreachableTactic false

namespace Sys2Proof.Machine

theorem keeps_showNextZero : ∀ a0 a1, Keeps 0x80000000000000000 a1 (showNextZero a0 a1) := by
  intro a0 a1
  have h0 : Keeps 0x80000000000000000 a1 a1 := Keeps.refl _
  unfold showNextZero
  repeat' first
    | with_reducible assumption
    | intro _
    | with_reducible apply Keeps.setN .EDG_TB_NEXT_ZERO (group_EDG_TB_NEXT_ZERO _)
    | with_reducible decide

theorem keeps_execTimebaseStart : ∀ a0 a1, KeepsR 0x48000000000000000000000000000000000000000000000000000000000000000000000000000000000000000000080000000000000000 a1 (execTimebaseStart a0 a1) := by
  intro a0 a1
  have h0 : Keeps 0x48000000000000000000000000000000000000000000000000000000000000000000000000000000000000000000080000000000000000 a1 a1 := Keeps.refl _
  unfold execTimebaseStart
  repeat' first
    | with_reducible assumption
    | intro _
    | with_reducible apply Keeps.accepted
    | with_reducible apply KeepsR.next
    | with_reducible apply KeepsR.ite
    | (extract_lets +onlyGivenNames x; refine Keeps.cut x ?_ (fun hx => ?_); (revert x; show Keeps _ _ _); on_goal 2 => clear_value x)
    | (extract_lets +onlyGivenNames x; clear_value x)
    | with_reducible apply Keeps.step (keeps_State_modGrp _ _ _)
    | with_reducible apply Keeps.step (keeps_State_modTb _ _ _)
    | with_reducible apply Keeps.on
    | with_reducible apply Keeps.step (keeps_showNextZero _ _)
    | with_reducible apply Keeps.foldl
    | with_reducible apply Keeps.foldlP
    | with_reducible apply Keeps.ite
    | with_reducible apply Keeps.iteP
    | with_reducible decide
    | with_reducible refine Keeps.of_eq (by assumption) ?_
    | split

theorem keeps_tbCommand : ∀ a0 a1 a2 a3 a4 a5, Keeps 0x80000000000000000000000000000000000000000c0000000000000000000000004000000000000000000000000040000000000000100 a5 (tbCommand a0 a1 a2 a3 a4 a5).2 := by
  intro a0 a1 a2 a3 a4 a5
  have h0 : Keeps 0x80000000000000000000000000000000000000000c0000000000000000000000004000000000000000000000000040000000000000100 a5 a5 := Keeps.refl _
  unfold tbCommand
  repeat' first
    | with_reducible assumption
    | intro _
    | (extract_lets +onlyGivenNames x; refine Keeps.cut x ?_ (fun hx => ?_); (revert x; show Keeps _ _ _); on_goal 2 => clear_value x)
    | (extract_lets +onlyGivenNames x; clear_value x)
    | with_reducible apply Keeps.bump .EDG_TB_LATE (group_EDG_TB_LATE _)
    | with_reducible apply Keeps.step (keeps_State_log _ _ _)
    | with_reducible apply Keeps.step (keeps_State_modTb _ _ _)
    | with_reducible apply Keeps.step (keeps_countImplausible _ _)
    | with_reducible apply Keeps.step (keeps_countRefused _ _)
    | with_reducible apply Keeps.ite
    | with_reducible apply Keeps.iteP
    | with_reducible decide
    | split

theorem keeps_execTbPeriodChange : ∀ a0 a1 a2 a3 a4, KeepsR 0x1400380000000000000000000000000000000000080000000000000000000000000000000000000000c0000000000000000000000004009000000000000000000000040000000000000140 a4 (execTbPeriodChange a0 a1 a2 a3 a4) := by
  intro a0 a1 a2 a3 a4
  have h0 : Keeps 0x1400380000000000000000000000000000000000080000000000000000000000000000000000000000c0000000000000000000000004009000000000000000000000040000000000000140 a4 a4 := Keeps.refl _
  unfold execTbPeriodChange
  repeat' first
    | with_reducible assumption
    | intro _
    | with_reducible apply Keeps.accepted
    | with_reducible apply KeepsR.next
    | with_reducible apply Keeps.owned
    | with_reducible apply Keeps.request
    | with_reducible apply Keeps.step (keeps_tbCommand _ _ _ _ _ _)
    | with_reducible decide

theorem keeps_execTbPhaseShift : ∀ a0 a1 a2 a3 a4, KeepsR 0x1400380000000000000000000000000000000000080000000000000000000000000000000000000000c0000000000000000000000004009000000000000000000000040000000000000140 a4 (execTbPhaseShift a0 a1 a2 a3 a4) := by
  intro a0 a1 a2 a3 a4
  have h0 : Keeps 0x1400380000000000000000000000000000000000080000000000000000000000000000000000000000c0000000000000000000000004009000000000000000000000040000000000000140 a4 a4 := Keeps.refl _
  unfold execTbPhaseShift
  repeat' first
    | with_reducible assumption
    | intro _
    | with_reducible apply Keeps.accepted
    | with_reducible apply KeepsR.next
    | with_reducible apply Keeps.owned
    | with_reducible apply Keeps.request
    | with_reducible apply Keeps.step (keeps_tbCommand _ _ _ _ _ _)
    | with_reducible decide

theorem keeps_applyTbCmd : ∀ a0 a1 a2, Keeps 0x8000000000000000000000000000000000000000000000000000000000000000000000000000000000000000000100000000000000000 a1 (applyTbCmd a0 a1 a2) := by
  intro a0 a1 a2
  have h0 : Keeps 0x8000000000000000000000000000000000000000000000000000000000000000000000000000000000000000000100000000000000000 a1 a1 := Keeps.refl _
  unfold applyTbCmd
  repeat' first
    | with_reducible assumption
    | intro _
    | with_reducible apply Keeps.step (keeps_State_modTb _ _ _)
    | with_reducible apply Keeps.setObj .EDG_TB_PERIOD (group_EDG_TB_PERIOD _)
    | with_reducible apply Keeps.ite
    | with_reducible apply Keeps.iteP
    | with_reducible decide
    | split

theorem keeps_zeroPoint : ∀ a0 a1, Keeps 0x8000000000000000000000000000000000000000000000000000000000000000000000000000000000000000000180000000000000000 a1 (zeroPoint a0 a1) := by
  intro a0 a1
  have h0 : Keeps 0x8000000000000000000000000000000000000000000000000000000000000000000000000000000000000000000180000000000000000 a1 a1 := Keeps.refl _
  unfold zeroPoint
  repeat' first
    | with_reducible assumption
    | intro _
    | (extract_lets +onlyGivenNames x; refine Keeps.cut x ?_ (fun hx => ?_); (revert x; show Keeps _ _ _); on_goal 2 => clear_value x)
    | (extract_lets +onlyGivenNames x; clear_value x)
    | with_reducible apply Keeps.step (keeps_State_modTb _ _ _)
    | with_reducible apply Keeps.step (keeps_applyTbCmd _ _ _)
    | with_reducible apply Keeps.step (keeps_showNextZero _ _)
    | with_reducible apply Keeps.foldl
    | with_reducible apply Keeps.foldlP
    | with_reducible decide

theorem keeps_peakPoint : ∀ a0 a1, Keeps 0x8000000000000000000000000000000000000000000000000000000000000000000000000000000000000000000000000000000000000 a1 (peakPoint a0 a1) := by
  intro a0 a1
  have h0 : Keeps 0x8000000000000000000000000000000000000000000000000000000000000000000000000000000000000000000000000000000000000 a1 a1 := Keeps.refl _
  unfold peakPoint
  repeat' first
    | with_reducible assumption
    | intro _
    | with_reducible apply Keeps.step (keeps_State_modTb _ _ _)
    | with_reducible decide

theorem keeps_placeFrom : ∀ a0 a1 a2, Keeps 0x800010000000000000000000000000000000000000000000000000000000000000000000000000000000020800000000000000000000000000 a2 (placeFrom a0 a1 a2) := by
  intro a0 a1 a2
  have h0 : Keeps 0x800010000000000000000000000000000000000000000000000000000000000000000000000000000000020800000000000000000000000000 a2 a2 := Keeps.refl _
  unfold placeFrom
  repeat' first
    | with_reducible assumption
    | intro _
    | (extract_lets +onlyGivenNames x; refine Keeps.cut x ?_ (fun hx => ?_); (revert x; show Keeps _ _ _); on_goal 2 => clear_value x)
    | (extract_lets +onlyGivenNames x; clear_value x)
    | with_reducible apply Keeps.step (keeps_State_modCh _ _ _)
    | with_reducible apply Keeps.step (keeps_settle _ _)
    | with_reducible apply Keeps.ite
    | with_reducible apply Keeps.iteP
    | with_reducible decide
    | with_reducible refine Keeps.of_eq (by assumption) ?_
    | split

theorem keeps_formToggles : ∀ a0 a1 a2 a3 a4, Keeps 0x10000000000000000000000000000000000000000000000000000000000000000004000000000000000000000000000480000000000100 a4 (formToggles a0 a1 a2 a3 a4) := by
  intro a0 a1 a2 a3 a4
  have h0 : Keeps 0x10000000000000000000000000000000000000000000000000000000000000000004000000000000000000000000000480000000000100 a4 a4 := Keeps.refl _
  unfold formToggles
  repeat' first
    | with_reducible assumption
    | intro _
    | (extract_lets +onlyGivenNames x; refine Keeps.cut x ?_ (fun hx => ?_); (revert x; show Keeps _ _ _); on_goal 2 => clear_value x)
    | (extract_lets +onlyGivenNames x; clear_value x)
    | with_reducible apply Keeps.step (keeps_State_logOnce _ _ _ _)
    | with_reducible apply Keeps.step (keeps_State_modCh _ _ _)
    | with_reducible apply Keeps.setN .EDG_CH_CLIPPED (group_EDG_CH_CLIPPED _)
    | with_reducible apply Keeps.setN .EDG_CH_REMOVED (group_EDG_CH_REMOVED _)
    | with_reducible apply Keeps.foldl
    | with_reducible apply Keeps.foldlP
    | with_reducible apply Keeps.ite
    | with_reducible apply Keeps.iteP
    | with_reducible decide
    | with_reducible refine Keeps.of_eq (by assumption) ?_
    | split

theorem keeps_bootPoint : ∀ a0 a1, Keeps 0x800010000000000000000000000000000000000000000000000000000000000000000004000000000000020e00000000001000000000000100 a1 (bootPoint a0 a1) := by
  intro a0 a1
  have h0 : Keeps 0x800010000000000000000000000000000000000000000000000000000000000000000004000000000000020e00000000001000000000000100 a1 a1 := Keeps.refl _
  unfold bootPoint
  repeat' first
    | with_reducible assumption
    | intro _
    | (extract_lets +onlyGivenNames x; refine Keeps.cut x ?_ (fun hx => ?_); (revert x; show Keeps _ _ _); on_goal 2 => clear_value x)
    | (extract_lets +onlyGivenNames x; clear_value x)
    | with_reducible apply Keeps.bump .GDV_BS_REFRESHES (group_GDV_BS_REFRESHES _)
    | with_reducible apply Keeps.step (keeps_State_log _ _ _)
    | with_reducible apply Keeps.step (keeps_State_modCh _ _ _)
    | with_reducible apply Keeps.setBit .GDV_CH_STATUS (group_GDV_CH_STATUS _)
    | with_reducible apply Keeps.setBit .EDG_CH_STATUS (group_EDG_CH_STATUS _)
    | with_reducible apply Keeps.setR .GDV_BS_FORECAST (group_GDV_BS_FORECAST _)
    | with_reducible apply Keeps.step (keeps_settle _ _)
    | with_reducible apply Keeps.ite
    | with_reducible apply Keeps.iteP
    | with_reducible decide
    | with_reducible refine Keeps.of_eq (by assumption) ?_
    | split

theorem keeps_fireTrigger : ∀ a0 a1 a2 a3, Keeps 0x2000000000000000000000000000000000000000000000000000000000000000000002004000000000000000000000000000000400000000100 a3 (fireTrigger a0 a1 a2 a3) := by
  intro a0 a1 a2 a3
  have h0 : Keeps 0x2000000000000000000000000000000000000000000000000000000000000000000002004000000000000000000000000000000400000000100 a3 a3 := Keeps.refl _
  unfold fireTrigger
  repeat' first
    | with_reducible assumption
    | intro _
    | (extract_lets +onlyGivenNames x; refine Keeps.cut x ?_ (fun hx => ?_); (revert x; show Keeps _ _ _); on_goal 2 => clear_value x)
    | (extract_lets +onlyGivenNames x; clear_value x)
    | with_reducible apply Keeps.step (keeps_countOffPlan _ _ _)
    | with_reducible apply Keeps.step (keeps_triggerEvent _ _ _ _)
    | with_reducible apply Keeps.ite
    | with_reducible apply Keeps.iteP
    | with_reducible decide
    | with_reducible refine Keeps.of_eq (by assumption) ?_
    | split

theorem keeps_landTrigger : ∀ a0 a1 a2 a3 a4 a5, Keeps 0x2000010000000000000000000000000000000000000000000000000000000000000002004000000000000000000000000000000400000000100 a5 (landTrigger a0 a1 a2 a3 a4 a5) := by
  intro a0 a1 a2 a3 a4 a5
  have h0 : Keeps 0x2000010000000000000000000000000000000000000000000000000000000000000002004000000000000000000000000000000400000000100 a5 a5 := Keeps.refl _
  unfold landTrigger
  repeat' first
    | with_reducible assumption
    | intro _
    | (extract_lets +onlyGivenNames x; refine Keeps.cut x ?_ (fun hx => ?_); (revert x; show Keeps _ _ _); on_goal 2 => clear_value x)
    | (extract_lets +onlyGivenNames x; clear_value x)
    | with_reducible apply Keeps.step (keeps_State_modCh _ _ _)
    | with_reducible apply Keeps.step (keeps_fireTrigger _ _ _ _)
    | with_reducible apply Keeps.step (keeps_offPlanFired _ _ _ _ _)
    | with_reducible apply Keeps.ite
    | with_reducible apply Keeps.iteP
    | with_reducible decide
    | with_reducible refine Keeps.of_eq (by assumption) ?_
    | split

theorem keeps_landTriggers : ∀ a0 a1 a2, Keeps 0x2000010000000000000000000000000000000000000000000000000000000000000002004000000000000000000000000000000400000000100 a2 (landTriggers a0 a1 a2) := by
  intro a0 a1 a2
  have h0 : Keeps 0x2000010000000000000000000000000000000000000000000000000000000000000002004000000000000000000000000000000400000000100 a2 a2 := Keeps.refl _
  unfold landTriggers
  repeat' first
    | with_reducible assumption
    | intro _
    | (extract_lets +onlyGivenNames x; clear_value x)
    | with_reducible apply Keeps.step (keeps_State_modCh _ _ _)
    | with_reducible apply Keeps.step (keeps_landTrigger _ _ _ _ _ _)
    | with_reducible apply Keeps.foldl
    | with_reducible apply Keeps.foldlP
    | with_reducible decide
    | with_reducible refine Keeps.of_eq (by assumption) ?_
    | split

theorem keeps_addArm : ∀ a0 a1 a2 a3 a4 a5, Keeps 0x10000000000000000000000000000000000000000000000000000000000000000000000000000000000000000000000000000000000000 a5 (addArm a0 a1 a2 a3 a4 a5) := by
  intro a0 a1 a2 a3 a4 a5
  have h0 : Keeps 0x10000000000000000000000000000000000000000000000000000000000000000000000000000000000000000000000000000000000000 a5 a5 := Keeps.refl _
  unfold addArm
  repeat' first
    | with_reducible assumption
    | intro _
    | with_reducible apply Keeps.step (keeps_State_modCh _ _ _)
    | with_reducible apply Keeps.ite
    | with_reducible apply Keeps.iteP
    | with_reducible decide
    | split

theorem keeps_armPeriod : ∀ a0 a1 a2 a3, Keeps 0x10000000000000000000000000000000000000000000000000000000000000000000000000000000000000000000000000000000000000 a3 (armPeriod a0 a1 a2 a3) := by
  intro a0 a1 a2 a3
  have h0 : Keeps 0x10000000000000000000000000000000000000000000000000000000000000000000000000000000000000000000000000000000000000 a3 a3 := Keeps.refl _
  unfold armPeriod
  repeat' first
    | with_reducible assumption
    | intro _
    | (extract_lets +onlyGivenNames x; refine Keeps.cut x ?_ (fun hx => ?_); (revert x; show Keeps _ _ _); on_goal 2 => clear_value x)
    | (extract_lets +onlyGivenNames x; clear_value x)
    | with_reducible apply Keeps.step (keeps_State_modCh _ _ _)
    | with_reducible apply Keeps.step (keeps_addArm _ _ _ _ _ _)
    | with_reducible apply Keeps.foldl
    | with_reducible apply Keeps.foldlP
    | with_reducible apply Keeps.ite
    | with_reducible apply Keeps.iteP
    | with_reducible decide
    | with_reducible refine Keeps.of_eq (by assumption) ?_
    | split

theorem keeps_execTriggerFire : ∀ a0 a1 a2, KeepsR 0x2000010000000000000000000000000000000000000000000000000000000000000002004000000000000000000000000000000400000000100 a2 (execTriggerFire a0 a1 a2) := by
  intro a0 a1 a2
  have h0 : Keeps 0x2000010000000000000000000000000000000000000000000000000000000000000002004000000000000000000000000000000400000000100 a2 a2 := Keeps.refl _
  unfold execTriggerFire
  repeat' first
    | with_reducible assumption
    | intro _
    | with_reducible apply Keeps.accepted
    | with_reducible apply KeepsR.next
    | with_reducible apply KeepsR.ite
    | (extract_lets +onlyGivenNames x; refine Keeps.cut x ?_ (fun hx => ?_); (revert x; show Keeps _ _ _); on_goal 2 => clear_value x)
    | (extract_lets +onlyGivenNames x; clear_value x)
    | with_reducible apply Keeps.step (keeps_State_modCh _ _ _)
    | with_reducible apply Keeps.on
    | with_reducible apply Keeps.step (keeps_fireTrigger _ _ _ _)
    | with_reducible apply Keeps.ite
    | with_reducible apply Keeps.iteP
    | with_reducible decide
    | with_reducible refine Keeps.of_eq (by assumption) ?_
    | split

theorem keeps_acceptSet : ∀ a0 a1 a2, Keeps 0x2000030000000000000000000000000000000000000000000000000000000000000002004000000000000000000000000000200400000000100 a2 (acceptSet a0 a1 a2) := by
  intro a0 a1 a2
  have h0 : Keeps 0x2000030000000000000000000000000000000000000000000000000000000000000002004000000000000000000000000000200400000000100 a2 a2 := Keeps.refl _
  unfold acceptSet
  repeat' first
    | with_reducible assumption
    | intro _
    | (extract_lets +onlyGivenNames x; refine Keeps.cut x ?_ (fun hx => ?_); (revert x; show Keeps _ _ _); on_goal 2 => clear_value x)
    | (extract_lets +onlyGivenNames x; clear_value x)
    | with_reducible apply Keeps.bump .EDG_CH_LATE (group_EDG_CH_LATE _)
    | with_reducible apply Keeps.step (keeps_State_logOnce _ _ _ _)
    | with_reducible apply Keeps.step (keeps_State_modSet _ _ _)
    | with_reducible apply Keeps.step (keeps_landTriggers _ _ _)
    | with_reducible apply Keeps.foldl
    | with_reducible apply Keeps.foldlP
    | with_reducible apply Keeps.ite
    | with_reducible apply Keeps.iteP
    | with_reducible decide
    | split

theorem keeps_setStands : ∀ a0 a1, Keeps 0x1000410000000000000000000000000000000000000000000000000000000008000000000000000000000000000000000000000000000 a1 (setStands a0 a1) := by
  intro a0 a1
  have h0 : Keeps 0x1000410000000000000000000000000000000000000000000000000000000008000000000000000000000000000000000000000000000 a1 a1 := Keeps.refl _
  unfold setStands
  repeat' first
    | with_reducible assumption
    | ((with_reducible refine PieField.upd_of ?_); intro i x hi; cases i <;> first | exact Keeps.no rfl hi | exact rfl | (split <;> rfl) | ((repeat' split) <;> rfl))
    | intro _
    | with_reducible refine Keeps.modPier ?_ ?_
    | with_reducible apply Keeps.setN .PIE_OVERRUN_RUN (group_PIE_OVERRUN_RUN _)
    | with_reducible decide

theorem keeps_execCommandSetArrival : ∀ a0 a1, KeepsR 0x200000000000400181000000000744202800031f864d8f00000006e0007cc1fff8a4b33e70000004001000000008001005402e004000600000100020981a0201000120e400000000140 a1 (execCommandSetArrival a0 a1) := by
  intro a0 a1
  have h0 : Keeps 0x200000000000400181000000000744202800031f864d8f00000006e0007cc1fff8a4b33e70000004001000000008001005402e004000600000100020981a0201000120e400000000140 a1 a1 := Keeps.refl _
  unfold execCommandSetArrival
  repeat' first
    | with_reducible assumption
    | intro _
    | with_reducible apply Keeps.accepted
    | with_reducible apply KeepsR.next
    | with_reducible apply KeepsR.ite
    | (extract_lets +onlyGivenNames x; clear_value x)
    | with_reducible apply Keeps.step (keeps_State_log _ _ _)
    | with_reducible apply Keeps.on
    | with_reducible apply Keeps.step (keeps_acceptSet _ _ _)
    | with_reducible apply Keeps.step (keeps_countImplausible _ _)
    | with_reducible apply Keeps.step (keeps_discardSet _ _ _ _)
    | with_reducible apply Keeps.step (keeps_setReturned _ _)
    | with_reducible apply Keeps.step (keeps_setStands _ _)
    | with_reducible apply Keeps.ite
    | with_reducible apply Keeps.iteP
    | with_reducible decide
    | with_reducible refine Keeps.of_eq (by assumption) ?_
    | split

theorem keeps_execProvisionalSetArrival : ∀ a0 a1, KeepsR 0x10000000000000000000000000000000000000000000000000000000000000000000000000000000000000000000000000000000000000 a1 (execProvisionalSetArrival a0 a1) := by
  intro a0 a1
  have h0 : Keeps 0x10000000000000000000000000000000000000000000000000000000000000000000000000000000000000000000000000000000000000 a1 a1 := Keeps.refl _
  unfold execProvisionalSetArrival
  repeat' first
    | with_reducible assumption
    | intro _
    | with_reducible apply Keeps.accepted
    | with_reducible apply KeepsR.next
    | with_reducible apply KeepsR.ite
    | (extract_lets +onlyGivenNames x; clear_value x)
    | extract_lets +onlyGivenNames x
    | with_reducible apply Keeps.step (keeps_State_modCh _ _ _)
    | with_reducible apply Keeps.on
    | with_reducible apply Keeps.foldl
    | with_reducible apply Keeps.foldlP
    | with_reducible apply Keeps.ite
    | with_reducible apply Keeps.iteP
    | with_reducible decide
    | with_reducible refine Keeps.of_eq (by assumption) ?_
    | split

theorem keeps_takeChanWrites (s : State) (c : ChanId) : Keeps 0x1e00000000001f80000003000004 s (takeChanWrites s c) := by
  unfold takeChanWrites
  refine Keeps.step (keeps_showDeadTime _ _) (by decide) ?_
  refine Keeps.applyDue _ _ (fun w hw => ?_) (Keeps.upd_commitWrites (Keeps.refl s) (by decide) _)
  have e := (List.mem_filter.1 hw).2
  simp only [writeOfChan, Bool.or_eq_true, Bool.and_eq_true, decide_eq_true_eq, beq_iff_eq] at e
  rcases e with (e | e) | e
  · exact group_page_chE (by decide) (by omega) (by omega)
  · exact group_page_chG (by decide) (by omega) (by omega)
  · exact group_page_chP (by decide) (by omega) (by omega)

theorem keeps_releaseChan : ∀ a0 a1, Keeps 0x10000000000000000000000000000000000000000000000000000000000000000000000000000000000000000002021000000000000000 a0 (releaseChan a0 a1) := by
  intro a0 a1
  have h0 : Keeps 0x10000000000000000000000000000000000000000000000000000000000000000000000000000000000000000002021000000000000000 a0 a0 := Keeps.refl _
  unfold releaseChan
  repeat' first
    | with_reducible assumption
    | intro _
    | (extract_lets +onlyGivenNames x; refine Keeps.cut x ?_ (fun hx => ?_); (revert x; show Keeps _ _ _); on_goal 2 => clear_value x)
    | (extract_lets +onlyGivenNames x; clear_value x)
    | with_reducible apply Keeps.step (keeps_State_modCh _ _ _)
    | with_reducible apply Keeps.setBit .EDG_CH_STATUS (group_EDG_CH_STATUS _)
    | with_reducible apply Keeps.step (keeps_showGroup _ _)
    | with_reducible apply Keeps.foldl
    | with_reducible apply Keeps.foldlP
    | with_reducible apply Keeps.ite
    | with_reducible apply Keeps.iteP
    | with_reducible decide
    | split

theorem keeps_startPeriod : ∀ a0 a1 a2 a3, Keeps 0x800030000000000000000000000000000000000000000000000000000000000000000004000000000000020800000000000480000000000100 a3 (startPeriod a0 a1 a2 a3) := by
  intro a0 a1 a2 a3
  have h0 : Keeps 0x800030000000000000000000000000000000000000000000000000000000000000000004000000000000020800000000000480000000000100 a3 a3 := Keeps.refl _
  unfold startPeriod
  repeat' first
    | with_reducible assumption
    | intro _
    | (extract_lets +onlyGivenNames x; refine Keeps.cut x ?_ (fun hx => ?_); (revert x; show Keeps _ _ _); on_goal 2 => clear_value x)
    | (extract_lets +onlyGivenNames x; clear_value x)
    | with_reducible apply Keeps.step (keeps_State_modSet _ _ _)
    | with_reducible apply Keeps.step (keeps_armPeriod _ _ _ _)
    | with_reducible apply Keeps.step (keeps_formToggles _ _ _ _ _)
    | with_reducible apply Keeps.step (keeps_placeFrom _ _ _)
    | with_reducible apply Keeps.step (keeps_settle _ _)
    | with_reducible apply Keeps.foldl
    | with_reducible apply Keeps.foldlP
    | with_reducible decide

theorem keeps_returnTally : ∀ a0 a1 a2, Keeps 0x100000000000000000000000000000000000000000000000000000000000000000000000000000000000000000000000000000000 a2 (returnTally a0 a1 a2) := by
  intro a0 a1 a2
  have h0 : Keeps 0x100000000000000000000000000000000000000000000000000000000000000000000000000000000000000000000000000000000 a2 a2 := Keeps.refl _
  unfold returnTally
  repeat' first
    | with_reducible assumption
    | ((with_reducible refine PieField.upd_of ?_); intro i x hi; cases i <;> first | exact Keeps.no rfl hi | exact rfl | (split <;> rfl) | ((repeat' split) <;> rfl))
    | intro _
    | with_reducible refine Keeps.modPier ?_ ?_
    | with_reducible apply Keeps.ite
    | with_reducible apply Keeps.iteP
    | with_reducible decide
    | with_reducible refine Keeps.of_eq (by assumption) ?_
    | split

theorem keeps_ownerPoint : ∀ a0 a1 a2, Keeps 0x800030000100000000000000000000000000000000000000000000000000000000000004000000000000020800000000000480000000000100 a2 (ownerPoint a0 a1 a2) := by
  intro a0 a1 a2
  have h0 : Keeps 0x800030000100000000000000000000000000000000000000000000000000000000000004000000000000020800000000000480000000000100 a2 a2 := Keeps.refl _
  unfold ownerPoint
  repeat' first
    | with_reducible assumption
    | intro _
    | (extract_lets +onlyGivenNames x; refine Keeps.cut x ?_ (fun hx => ?_); (revert x; show Keeps _ _ _); on_goal 2 => clear_value x)
    | (extract_lets +onlyGivenNames x; clear_value x)
    | with_reducible apply Keeps.step (keeps_State_modSet _ _ _)
    | with_reducible apply Keeps.step (keeps_placeFrom _ _ _)
    | with_reducible apply Keeps.step (keeps_returnTally _ _ _)
    | with_reducible apply Keeps.step (keeps_startPeriod _ _ _ _)
    | with_reducible apply Keeps.foldl
    | with_reducible apply Keeps.foldlP
    | with_reducible apply Keeps.ite
    | with_reducible apply Keeps.iteP
    | with_reducible decide
    | with_reducible refine Keeps.of_eq (by assumption) ?_
    | split

theorem keeps_staticPoint : ∀ a0 a1, Keeps 0x800010000000000000000000000000000000000000000000000000000000000000000004000000000000020800000000000480000000000100 a1 (staticPoint a0 a1) := by
  intro a0 a1
  have h0 : Keeps 0x800010000000000000000000000000000000000000000000000000000000000000000004000000000000020800000000000480000000000100 a1 a1 := Keeps.refl _
  unfold staticPoint
  repeat' first
    | with_reducible assumption
    | intro _
    | (extract_lets +onlyGivenNames x; refine Keeps.cut x ?_ (fun hx => ?_); (revert x; show Keeps _ _ _); on_goal 2 => clear_value x)
    | (extract_lets +onlyGivenNames x; clear_value x)
    | with_reducible apply Keeps.step (keeps_State_modCh _ _ _)
    | with_reducible apply Keeps.step (keeps_formToggles _ _ _ _ _)
    | with_reducible apply Keeps.step (keeps_placeFrom _ _ _)
    | with_reducible apply Keeps.step (keeps_settle _ _)
    | with_reducible decide

theorem keeps_reloadPoint : ∀ a0 a1 a2, Keeps 0x2000000000004001800000000007440008000790011c0d00000006e8007cc1d9f0a4b33e700000000000000000080010014020004000200000100021f81a02013fa1f8e000003000144 a2 (reloadPoint a0 a1 a2) := by
  intro a0 a1 a2
  have h0 : Keeps 0x2000000000004001800000000007440008000790011c0d00000006e8007cc1d9f0a4b33e700000000000000000080010014020004000200000100021f81a02013fa1f8e000003000144 a2 a2 := Keeps.refl _
  unfold reloadPoint
  repeat' first
    | with_reducible assumption
    | intro _
    | (extract_lets +onlyGivenNames x; refine Keeps.cut x ?_ (fun hx => ?_); (revert x; show Keeps _ _ _); on_goal 2 => clear_value x)
    | (extract_lets +onlyGivenNames x; clear_value x)
    | with_reducible apply Keeps.step (keeps_bootPoint _ _)
    | with_reducible apply Keeps.step (keeps_ownerPoint _ _ _)
    | with_reducible apply Keeps.step (keeps_peakPoint _ _)
    | with_reducible apply Keeps.step (keeps_releaseChan _ _)
    | with_reducible apply Keeps.step (keeps_staticPoint _ _)
    | with_reducible apply Keeps.step (keeps_takeChanWrites _ _)
    | with_reducible apply Keeps.step (keeps_takeGroupWrites _ _)
    | with_reducible apply Keeps.step (keeps_tripScan _)
    | with_reducible apply Keeps.step (keeps_zeroPoint _ _)
    | with_reducible apply Keeps.foldl
    | with_reducible apply Keeps.foldlP
    | with_reducible apply Keeps.ite
    | with_reducible apply Keeps.iteP
    | with_reducible decide
    | split

theorem keeps_execReloadPoint : ∀ a0 a1 a2, KeepsR 0x2000000000004001800000000007440008000790011c0d00000006e8007cc1d9f0a4b33e700000000000000000080010014020004000200000100021f81a02013fa1f8e000003000144 a2 (execReloadPoint a0 a1 a2) := by
  intro a0 a1 a2
  have h0 : Keeps 0x2000000000004001800000000007440008000790011c0d00000006e8007cc1d9f0a4b33e700000000000000000080010014020004000200000100021f81a02013fa1f8e000003000144 a2 a2 := Keeps.refl _
  unfold execReloadPoint
  repeat' first
    | with_reducible assumption
    | intro _
    | with_reducible apply Keeps.accepted
    | with_reducible apply KeepsR.next
    | with_reducible apply Keeps.on
    | with_reducible apply Keeps.step (keeps_reloadPoint _ _ _)
    | with_reducible decide

theorem keeps_staticCtrl : ∀ a0 a1 a2, Keeps 0x10000000000000000000000000000000000000000000000000000000000000000000000000000000000000000000000800000000000000 a2 (staticCtrl a0 a1 a2) := by
  intro a0 a1 a2
  have h0 : Keeps 0x10000000000000000000000000000000000000000000000000000000000000000000000000000000000000000000000800000000000000 a2 a2 := Keeps.refl _
  unfold staticCtrl
  repeat' first
    | with_reducible assumption
    | intro _
    | (extract_lets +onlyGivenNames x; clear_value x)
    | with_reducible apply Keeps.step (keeps_State_modCh _ _ _)
    | with_reducible apply Keeps.setN .EDG_CH_STATIC_CTRL (group_EDG_CH_STATIC_CTRL _)
    | with_reducible decide

theorem keeps_execStaticCtrlWrite : ∀ a0 a1 a2 a3, KeepsR 0x140038000000000000000000000000000000000010000000000000000000000000000000000000000000000000000000000000000000009000000000000000000000000800000000000040 a3 (execStaticCtrlWrite a0 a1 a2 a3) := by
  intro a0 a1 a2 a3
  have h0 : Keeps 0x140038000000000000000000000000000000000010000000000000000000000000000000000000000000000000000000000000000000009000000000000000000000000800000000000040 a3 a3 := Keeps.refl _
  unfold execStaticCtrlWrite
  repeat' first
    | with_reducible assumption
    | intro _
    | with_reducible apply Keeps.accepted
    | with_reducible apply KeepsR.next
    | with_reducible apply KeepsR.ite
    | with_reducible apply Keeps.owned
    | with_reducible apply Keeps.request
    | with_reducible apply Keeps.step (keeps_staticCtrl _ _ _)
    | with_reducible apply Keeps.ite
    | with_reducible apply Keeps.iteP
    | with_reducible decide
    | split

theorem keeps_recalibrate : ∀ a0 a1, Keeps 0x9000000000000000000000000000000000000000000000000000000000000000000004000000000000000000000000021000000000000100 a1 (recalibrate a0 a1) := by
  intro a0 a1
  have h0 : Keeps 0x9000000000000000000000000000000000000000000000000000000000000000000004000000000000000000000000021000000000000100 a1 a1 := Keeps.refl _
  unfold recalibrate
  repeat' first
    | with_reducible assumption
    | ((with_reducible refine EdgField.upd_of ?_); intro i x hi; cases i <;> first | exact Keeps.no rfl hi | exact rfl | (split <;> rfl) | ((repeat' split) <;> rfl))
    | intro _
    | (extract_lets +onlyGivenNames x; refine Keeps.cut x ?_ (fun hx => ?_); (revert x; show Keeps _ _ _); on_goal 2 => clear_value x)
    | (extract_lets +onlyGivenNames x; clear_value x)
    | with_reducible apply Keeps.step (keeps_State_log _ _ _)
    | with_reducible refine Keeps.modEdg ?_ ?_
    | with_reducible apply Keeps.setBit .EDG_STATUS group_EDG_STATUS
    | with_reducible apply Keeps.setBit .EDG_CH_STATUS (group_EDG_CH_STATUS _)
    | with_reducible apply Keeps.foldl
    | with_reducible apply Keeps.foldlP
    | with_reducible decide

theorem keeps_execDelayLineRecal : ∀ a0 a1, KeepsR 0x9000000000000000000000000000000000000000000000000000000000000000000004000000000000000000000000021000000000000100 a1 (execDelayLineRecal a0 a1) := by
  intro a0 a1
  have h0 : Keeps 0x9000000000000000000000000000000000000000000000000000000000000000000004000000000000000000000000021000000000000100 a1 a1 := Keeps.refl _
  unfold execDelayLineRecal
  repeat' first
    | with_reducible assumption
    | intro _
    | with_reducible apply Keeps.accepted
    | with_reducible apply KeepsR.next
    | with_reducible apply KeepsR.ite
    | with_reducible apply Keeps.on
    | with_reducible apply Keeps.step (keeps_recalibrate _ _)
    | with_reducible apply Keeps.ite
    | with_reducible apply Keeps.iteP
    | with_reducible decide
    | split

theorem keeps_execEdgeHeartbeat : ∀ a0, KeepsR 0x206000000000000000000000000000000000000000000000000000000000000000000000000000000000000000000000000000000000000000 a0 (execEdgeHeartbeat a0) := by
  intro a0
  have h0 : Keeps 0x206000000000000000000000000000000000000000000000000000000000000000000000000000000000000000000000000000000000000000 a0 a0 := Keeps.refl _
  unfold execEdgeHeartbeat
  repeat' first
    | with_reducible assumption
    | ((with_reducible refine EdgField.upd_of ?_); intro i x hi; cases i <;> first | exact Keeps.no rfl hi | exact rfl | (split <;> rfl) | ((repeat' split) <;> rfl))
    | ((with_reducible refine GdvField.upd_of ?_); intro i x hi; cases i <;> first | exact Keeps.no rfl hi | exact rfl | (split <;> rfl) | ((repeat' split) <;> rfl))
    | intro _
    | with_reducible apply Keeps.accepted
    | with_reducible apply KeepsR.next
    | with_reducible apply KeepsR.ite
    | (extract_lets +onlyGivenNames x; refine Keeps.cut x ?_ (fun hx => ?_); (revert x; show Keeps _ _ _); on_goal 2 => clear_value x)
    | (extract_lets +onlyGivenNames x; clear_value x)
    | with_reducible refine Keeps.modEdg ?_ ?_
    | with_reducible refine Keeps.modGdv ?_ ?_
    | with_reducible apply Keeps.on
    | with_reducible apply Keeps.ite
    | with_reducible apply Keeps.iteP
    | with_reducible decide
    | split

theorem keeps_guardActs : ∀ a0 a1 a2, Keeps 0x4000000000000000000000000001100000000000100 a2 (guardActs a0 a1 a2) := by
  intro a0 a1 a2
  have h0 : Keeps 0x4000000000000000000000000001100000000000100 a2 a2 := Keeps.refl _
  unfold guardActs
  repeat' first
    | with_reducible assumption
    | intro _
    | with_reducible apply Keeps.bump .EDG_CH_GUARD_COUNT (group_EDG_CH_GUARD_COUNT _)
    | with_reducible apply Keeps.step (keeps_State_log _ _ _)
    | with_reducible apply Keeps.setBit .EDG_CH_STATUS (group_EDG_CH_STATUS _)
    | with_reducible decide

theorem keeps_rawTurnOn : ∀ a0 a1 a2 a3, Keeps 0x800010000000000000000000000000000000000000000000000000000000000000000000000000000000020800000000000000000000000000 a3 (rawTurnOn a0 a1 a2 a3) := by
  intro a0 a1 a2 a3
  have h0 : Keeps 0x800010000000000000000000000000000000000000000000000000000000000000000000000000000000020800000000000000000000000000 a3 a3 := Keeps.refl _
  unfold rawTurnOn
  repeat' first
    | with_reducible assumption
    | intro _
    | (extract_lets +onlyGivenNames x; clear_value x)
    | with_reducible apply Keeps.step (keeps_State_modCh _ _ _)
    | with_reducible apply Keeps.step (keeps_settle _ _)
    | with_reducible apply Keeps.ite
    | with_reducible apply Keeps.iteP
    | with_reducible decide
    | split

theorem keeps_rawApply : ∀ a0 a1, Keeps 0x800010000000000000000000000000000000000000000000000000000000000000000004000000000000020800000000001100000000000100 a0 (rawApply a0 a1) := by
  intro a0 a1
  have h0 : Keeps 0x800010000000000000000000000000000000000000000000000000000000000000000004000000000000020800000000001100000000000100 a0 a0 := Keeps.refl _
  unfold rawApply
  repeat' first
    | with_reducible assumption
    | intro _
    | (extract_lets +onlyGivenNames x; refine Keeps.cut x ?_ (fun hx => ?_); (revert x; show Keeps _ _ _); on_goal 2 => clear_value x)
    | (extract_lets +onlyGivenNames x; clear_value x)
    | extract_lets +onlyGivenNames x
    | with_reducible apply Keeps.step (keeps_State_modCh _ _ _)
    | with_reducible apply Keeps.step (keeps_guardActs _ _ _)
    | with_reducible apply Keeps.step (keeps_outputsOff _ _)
    | with_reducible apply Keeps.step (keeps_rawTurnOn _ _ _ _)
    | with_reducible apply Keeps.step (keeps_settle _ _)
    | with_reducible apply Keeps.ite
    | with_reducible apply Keeps.iteP
    | with_reducible decide
    | with_reducible refine Keeps.of_eq (by assumption) ?_
    | split

theorem keeps_rawAll : ∀ a0, Keeps 0x800010000000000000000000000000000000000000000000000000000000000000000004000000000000020800000000001100000000000100 a0 (rawAll a0) := by
  intro a0
  have h0 : Keeps 0x800010000000000000000000000000000000000000000000000000000000000000000004000000000000020800000000001100000000000100 a0 a0 := Keeps.refl _
  unfold rawAll
  repeat' first
    | with_reducible assumption
    | intro _
    | with_reducible apply Keeps.step (keeps_rawApply _ _)
    | with_reducible apply Keeps.foldl
    | with_reducible apply Keeps.foldlP
    | with_reducible decide

theorem keeps_rawSet : ∀ a0 a1, Keeps 0x800e10000000000000000000000000000000000000000000000000000000000000000004000000000000020800000000023100000000000100 a1 (rawSet a0 a1) := by
  intro a0 a1
  have h0 : Keeps 0x800e10000000000000000000000000000000000000000000000000000000000000000004000000000000020800000000023100000000000100 a1 a1 := Keeps.refl _
  unfold rawSet
  repeat' first
    | with_reducible assumption
    | ((with_reducible refine EdgField.upd_of ?_); intro i x hi; cases i <;> first | exact Keeps.no rfl hi | exact rfl | (split <;> rfl) | ((repeat' split) <;> rfl))
    | intro _
    | (extract_lets +onlyGivenNames x; refine Keeps.cut x ?_ (fun hx => ?_); (revert x; show Keeps _ _ _); on_goal 2 => clear_value x)
    | (extract_lets +onlyGivenNames x; clear_value x)
    | with_reducible apply Keeps.step (keeps_State_log _ _ _)
    | with_reducible apply Keeps.step (keeps_State_modCh _ _ _)
    | with_reducible refine Keeps.modEdg ?_ ?_
    | with_reducible apply Keeps.setBit .EDG_STATUS group_EDG_STATUS
    | with_reducible apply Keeps.setBit .EDG_CH_STATUS (group_EDG_CH_STATUS _)
    | with_reducible apply Keeps.setN .EDG_RAW_ENABLE group_EDG_RAW_ENABLE
    | with_reducible apply Keeps.step (keeps_outputsOff _ _)
    | with_reducible apply Keeps.step (keeps_rawAll _)
    | with_reducible apply Keeps.foldl
    | with_reducible apply Keeps.foldlP
    | with_reducible apply Keeps.ite
    | with_reducible apply Keeps.iteP
    | with_reducible decide
    | split

theorem keeps_rawEnable : ∀ a0 a1 a2, Keeps 0x800e10000000000000000000000000000000000000000000000000000000000000000004000000000000020800000000023100000000000100 a2 (rawEnable a0 a1 a2).2 := by
  intro a0 a1 a2
  have h0 : Keeps 0x800e10000000000000000000000000000000000000000000000000000000000000000004000000000000020800000000023100000000000100 a2 a2 := Keeps.refl _
  unfold rawEnable
  repeat' first
    | with_reducible assumption
    | intro _
    | with_reducible apply Keeps.step (keeps_rawSet _ _)
    | with_reducible apply Keeps.ite
    | with_reducible apply Keeps.iteP
    | with_reducible decide
    | split

theorem keeps_execRawOverrideEnable : ∀ a0 a1 a2, KeepsR 0x140038000000000000000000000000000000800e10000000000000000000000000000000000000000000000000000000000000000004009000000000020800000000023100000000000140 a2 (execRawOverrideEnable a0 a1 a2) := by
  intro a0 a1 a2
  have h0 : Keeps 0x140038000000000000000000000000000000800e10000000000000000000000000000000000000000000000000000000000000000004009000000000020800000000023100000000000140 a2 a2 := Keeps.refl _
  unfold execRawOverrideEnable
  repeat' first
    | with_reducible assumption
    | intro _
    | with_reducible apply Keeps.accepted
    | with_reducible apply KeepsR.next
    | with_reducible apply Keeps.step (keeps_rawEnable _ _ _)
    | with_reducible apply Keeps.request
    | with_reducible decide

theorem keeps_rawWrite : ∀ a0 a1 a2, Keeps 0x800c1000000000000000000000000000000000000000000000000000000000000000000400000000000002080000000000d100000000000100 a2 (rawWrite a0 a1 a2) := by
  intro a0 a1 a2
  have h0 : Keeps 0x800c1000000000000000000000000000000000000000000000000000000000000000000400000000000002080000000000d100000000000100 a2 a2 := Keeps.refl _
  unfold rawWrite
  repeat' first
    | with_reducible assumption
    | ((with_reducible refine EdgField.upd_of ?_); intro i x hi; cases i <;> first | exact Keeps.no rfl hi | exact rfl | (split <;> rfl) | ((repeat' split) <;> rfl))
    | intro _
    | (extract_lets +onlyGivenNames x; refine Keeps.cut x ?_ (fun hx => ?_); (revert x; show Keeps _ _ _); on_goal 2 => clear_value x)
    | (extract_lets +onlyGivenNames x; clear_value x)
    | with_reducible refine Keeps.modEdg ?_ ?_
    | with_reducible apply Keeps.setN .EDG_RAW_HIGH group_EDG_RAW_HIGH
    | with_reducible apply Keeps.setN .EDG_RAW_LOW group_EDG_RAW_LOW
    | with_reducible apply Keeps.step (keeps_rawAll _)
    | with_reducible apply Keeps.ite
    | with_reducible apply Keeps.iteP
    | with_reducible decide
    | split

theorem keeps_rawWord : ∀ a0 a1 a2, Keeps 0x800c1000000000000000000000000000000000000000000000000000000000000000000400000000000002080000000000d100000000000100 a2 (rawWord a0 a1 a2).2 := by
  intro a0 a1 a2
  have h0 : Keeps 0x800c1000000000000000000000000000000000000000000000000000000000000000000400000000000002080000000000d100000000000100 a2 a2 := Keeps.refl _
  unfold rawWord
  repeat' first
    | with_reducible assumption
    | intro _
    | with_reducible apply Keeps.step (keeps_rawWrite _ _ _)
    | with_reducible apply Keeps.ite
    | with_reducible apply Keeps.iteP
    | with_reducible decide
    | split

theorem keeps_execRawOutputWrite : ∀ a0 a1 a2 a3, KeepsR 0x140038000000000000000000000000000000800c1000000000000000000000000000000000000000000000000000000000000000000400900000000002080000000000d100000000000140 a3 (execRawOutputWrite a0 a1 a2 a3) := by
  intro a0 a1 a2 a3
  have h0 : Keeps 0x140038000000000000000000000000000000800c1000000000000000000000000000000000000000000000000000000000000000000400900000000002080000000000d100000000000140 a3 a3 := Keeps.refl _
  unfold execRawOutputWrite
  repeat' first
    | with_reducible assumption
    | intro _
    | with_reducible apply Keeps.accepted
    | with_reducible apply KeepsR.next
    | with_reducible apply KeepsR.ite
    | with_reducible apply Keeps.owned
    | with_reducible apply Keeps.step (keeps_rawWord _ _ _)
    | with_reducible apply Keeps.request
    | with_reducible apply Keeps.ite
    | with_reducible apply Keeps.iteP
    | with_reducible decide
    | split

end Sys2Proof.Machine
end

