-- ==== Sys2Proof/Laws/KeepsGate.lean ====
section
/-!
SUPPORT. What each operation of Machine/Gate.lean may change.
-/

set_option linter.unusedTactic false
set_option linter.tactic.unusedName false
set_option linter.unreachableTactic false

namespace Sys2Proof.Machine

theorem keeps_derivePattern : ∀ a0, Keeps 0x80000000000000000000000000000 a0 (derivePattern a0) := by
  intro a0
  have h0 : Keeps 0x80000000000000000000000000000 a0 a0 := Keeps.refl _
  unfold derivePattern
  repeat' first
    | with_reducible assumption
    | intro _
    | with_reducible apply Keeps.setN .GDV_SAFE_PATTERN group_GDV_SAFE_PATTERN
    | with_reducible decide

theorem keeps_applyPattern : ∀ a0 a1 a2, Keeps 0xc80010000000000000000000000000000000000000000000000000000000000000000004000000000000120800000000000000000000000100 a2 (applyPattern a0 a1 a2) := by
  intro a0 a1 a2
  have h0 : Keeps 0xc80010000000000000000000000000000000000000000000000000000000000000000004000000000000120800000000000000000000000100 a2 a2 := Keeps.refl _
  unfold applyPattern
  repeat' first
    | with_reducible assumption
    | ((with_reducible refine GdvField.upd_of ?_); intro i x hi; cases i <;> first | exact Keeps.no rfl hi | exact rfl | (split <;> rfl) | ((repeat' split) <;> rfl))
    | intro _
    | (extract_lets +onlyGivenNames x; refine Keeps.cut x ?_ (fun hx => ?_); (revert x; show Keeps _ _ _); on_goal 2 => clear_value x)
    | (extract_lets +onlyGivenNames x; clear_value x)
    | with_reducible apply Keeps.step (keeps_State_log _ _ _)
    | with_reducible apply Keeps.step (keeps_State_modDrv _ _ _)
    | with_reducible refine Keeps.modGdv ?_ ?_
    | with_reducible apply Keeps.setBit .GDV_CH_STATUS (group_GDV_CH_STATUS _)
    | with_reducible apply Keeps.setBit .GDV_STATUS group_GDV_STATUS
    | with_reducible apply Keeps.step (keeps_settle _ _)
    | with_reducible apply Keeps.foldl
    | with_reducible apply Keeps.foldlP
    | with_reducible apply Keeps.ite
    | with_reducible apply Keeps.iteP
    | with_reducible decide
    | with_reducible refine Keeps.of_eq (by assumption) ?_
    | split

theorem keeps_execSafePatternApply : ∀ a0 a1, KeepsR 0xc80010000000000000000000000000000000000000000000000000000000000000000004000000000000120800000000000000000000000100 a1 (execSafePatternApply a0 a1) := by
  intro a0 a1
  have h0 : Keeps 0xc80010000000000000000000000000000000000000000000000000000000000000000004000000000000120800000000000000000000000100 a1 a1 := Keeps.refl _
  unfold execSafePatternApply
  repeat' first
    | with_reducible assumption
    | intro _
    | with_reducible apply Keeps.accepted
    | with_reducible apply KeepsR.next
    | with_reducible apply KeepsR.ite
    | with_reducible apply Keeps.on
    | with_reducible apply Keeps.step (keeps_applyPattern _ _ _)
    | with_reducible apply Keeps.ite
    | with_reducible apply Keeps.iteP
    | with_reducible decide
    | split

theorem keeps_leavePattern : ∀ a0 a1, Keeps 0xc80010000000000000000000000000000000000000000000000000000000000000000000000000000000120800000000000000000000000000 a1 (leavePattern a0 a1) := by
  intro a0 a1
  have h0 : Keeps 0xc80010000000000000000000000000000000000000000000000000000000000000000000000000000000120800000000000000000000000000 a1 a1 := Keeps.refl _
  unfold leavePattern
  repeat' first
    | with_reducible assumption
    | ((with_reducible refine GdvField.upd_of ?_); intro i x hi; cases i <;> first | exact Keeps.no rfl hi | exact rfl | (split <;> rfl) | ((repeat' split) <;> rfl))
    | intro _
    | (extract_lets +onlyGivenNames x; refine Keeps.cut x ?_ (fun hx => ?_); (revert x; show Keeps _ _ _); on_goal 2 => clear_value x)
    | (extract_lets +onlyGivenNames x; clear_value x)
    | with_reducible apply Keeps.step (keeps_State_modDrv _ _ _)
    | with_reducible refine Keeps.modGdv ?_ ?_
    | with_reducible apply Keeps.setBit .GDV_CH_STATUS (group_GDV_CH_STATUS _)
    | with_reducible apply Keeps.setBit .GDV_STATUS group_GDV_STATUS
    | with_reducible apply Keeps.step (keeps_settle _ _)
    | with_reducible apply Keeps.foldl
    | with_reducible apply Keeps.foldlP
    | with_reducible apply Keeps.ite
    | with_reducible apply Keeps.iteP
    | with_reducible decide
    | with_reducible refine Keeps.of_eq (by assumption) ?_
    | split

theorem keeps_execSafePatternLeave : ∀ a0 a1, KeepsR 0xc80010000000000000000000000000000000000000000000000000000000000000000000000000000000120800000000000000000000000000 a1 (execSafePatternLeave a0 a1) := by
  intro a0 a1
  have h0 : Keeps 0xc80010000000000000000000000000000000000000000000000000000000000000000000000000000000120800000000000000000000000000 a1 a1 := Keeps.refl _
  unfold execSafePatternLeave
  repeat' first
    | with_reducible assumption
    | intro _
    | with_reducible apply Keeps.accepted
    | with_reducible apply KeepsR.next
    | with_reducible apply Keeps.on
    | with_reducible apply Keeps.step (keeps_leavePattern _ _)
    | with_reducible decide

theorem keeps_execGdUvloEntry : ∀ a0 a1, KeepsR 0x2000000000004001800000000007400008600310000c0d00000006e0007cc1d9f0a4b33e700000000000000000080010014020004000200000100160981a0201000100e000000000140 a1 (execGdUvloEntry a0 a1) := by
  intro a0 a1
  have h0 : Keeps 0x2000000000004001800000000007400008600310000c0d00000006e0007cc1d9f0a4b33e700000000000000000080010014020004000200000100160981a0201000100e000000000140 a1 a1 := Keeps.refl _
  unfold execGdUvloEntry
  repeat' first
    | with_reducible assumption
    | ((with_reducible refine GdvField.upd_of ?_); intro i x hi; cases i <;> first | exact Keeps.no rfl hi | exact rfl | (split <;> rfl) | ((repeat' split) <;> rfl))
    | intro _
    | with_reducible apply Keeps.accepted
    | with_reducible apply KeepsR.next
    | with_reducible apply KeepsR.ite
    | (extract_lets +onlyGivenNames x; refine Keeps.cut x ?_ (fun hx => ?_); (revert x; show Keeps _ _ _); on_goal 2 => clear_value x)
    | (extract_lets +onlyGivenNames x; clear_value x)
    | with_reducible apply Keeps.step (keeps_State_log _ _ _)
    | with_reducible refine Keeps.modGdv ?_ ?_
    | with_reducible apply Keeps.setBit .GDV_CH_STATUS (group_GDV_CH_STATUS _)
    | with_reducible apply Keeps.setBit .GDV_STATUS group_GDV_STATUS
    | with_reducible apply Keeps.setR .GDV_RAIL_V group_GDV_RAIL_V
    | with_reducible apply Keeps.step (keeps_stageSafe _ _ _)
    | with_reducible apply Keeps.foldl
    | with_reducible apply Keeps.foldlP
    | with_reducible apply Keeps.ite
    | with_reducible apply Keeps.iteP
    | with_reducible decide
    | split

theorem keeps_execGdUvloExit : ∀ a0, KeepsR 0x20000000000000000000000000000000000000000000000000000000000000000000004000000000000100000000000000000000000000100 a0 (execGdUvloExit a0) := by
  intro a0
  have h0 : Keeps 0x20000000000000000000000000000000000000000000000000000000000000000000004000000000000100000000000000000000000000100 a0 a0 := Keeps.refl _
  unfold execGdUvloExit
  repeat' first
    | with_reducible assumption
    | ((with_reducible refine GdvField.upd_of ?_); intro i x hi; cases i <;> first | exact Keeps.no rfl hi | exact rfl | (split <;> rfl) | ((repeat' split) <;> rfl))
    | intro _
    | with_reducible apply Keeps.accepted
    | with_reducible apply KeepsR.next
    | with_reducible apply KeepsR.ite
    | (extract_lets +onlyGivenNames x; refine Keeps.cut x ?_ (fun hx => ?_); (revert x; show Keeps _ _ _); on_goal 2 => clear_value x)
    | (extract_lets +onlyGivenNames x; clear_value x)
    | with_reducible apply Keeps.step (keeps_State_log _ _ _)
    | with_reducible refine Keeps.modGdv ?_ ?_
    | with_reducible apply Keeps.setBit .GDV_STATUS group_GDV_STATUS
    | with_reducible apply Keeps.ite
    | with_reducible apply Keeps.iteP
    | with_reducible decide
    | split

theorem keeps_execDesatDetect : ∀ a0 a1, KeepsR 0x200000000000400180000000000744000c000f10010c0d00000006e8007cc1d9f0a4b33e700000000000000000080010014020004000200000100021981a0201303100e000000000140 a1 (execDesatDetect a0 a1) := by
  intro a0 a1
  have h0 : Keeps 0x200000000000400180000000000744000c000f10010c0d00000006e8007cc1d9f0a4b33e700000000000000000080010014020004000200000100021981a0201303100e000000000140 a1 a1 := Keeps.refl _
  unfold execDesatDetect
  repeat' first
    | with_reducible assumption
    | intro _
    | with_reducible apply Keeps.accepted
    | with_reducible apply KeepsR.next
    | with_reducible apply KeepsR.ite
    | (extract_lets +onlyGivenNames x; refine Keeps.cut x ?_ (fun hx => ?_); (revert x; show Keeps _ _ _); on_goal 2 => clear_value x)
    | (extract_lets +onlyGivenNames x; clear_value x)
    | with_reducible apply Keeps.bump .GDV_DESAT_COUNT (group_GDV_DESAT_COUNT _)
    | with_reducible apply Keeps.step (keeps_State_log _ _ _)
    | with_reducible apply Keeps.step (keeps_State_modDrv _ _ _)
    | with_reducible apply Keeps.on
    | with_reducible apply Keeps.setBit .GDV_CH_STATUS (group_GDV_CH_STATUS _)
    | with_reducible apply Keeps.step (keeps_sourceActive _ _)
    | with_reducible apply Keeps.step (keeps_stageSafe _ _ _)
    | with_reducible apply Keeps.ite
    | with_reducible apply Keeps.iteP
    | with_reducible decide
    | with_reducible refine Keeps.of_eq (by assumption) ?_
    | split

theorem keeps_execSoftTurnoffSecondLevel : ∀ a0 a1, KeepsR 0x400000000000000000000000000000000000000000000000000000000000000000000000000000000000000800000000000000000000000000 a1 (execSoftTurnoffSecondLevel a0 a1) := by
  intro a0 a1
  have h0 : Keeps 0x400000000000000000000000000000000000000000000000000000000000000000000000000000000000000800000000000000000000000000 a1 a1 := Keeps.refl _
  unfold execSoftTurnoffSecondLevel
  repeat' first
    | with_reducible assumption
    | intro _
    | with_reducible apply Keeps.accepted
    | with_reducible apply KeepsR.next
    | with_reducible apply KeepsR.ite
    | with_reducible apply Keeps.step (keeps_State_modDrv _ _ _)
    | with_reducible apply Keeps.on
    | with_reducible apply Keeps.setBit .GDV_CH_STATUS (group_GDV_CH_STATUS _)
    | with_reducible apply Keeps.ite
    | with_reducible apply Keeps.iteP
    | with_reducible decide
    | split

theorem keeps_execMillerClampEngage : ∀ a0 a1, KeepsR 0xc00010000000000000000000000000000000000000000000000000000000000000000000000000000000020800000000000000000000000000 a1 (execMillerClampEngage a0 a1) := by
  intro a0 a1
  have h0 : Keeps 0xc00010000000000000000000000000000000000000000000000000000000000000000000000000000000020800000000000000000000000000 a1 a1 := Keeps.refl _
  unfold execMillerClampEngage
  repeat' first
    | with_reducible assumption
    | intro _
    | with_reducible apply Keeps.accepted
    | with_reducible apply KeepsR.next
    | with_reducible apply KeepsR.ite
    | (extract_lets +onlyGivenNames x; clear_value x)
    | with_reducible apply Keeps.step (keeps_State_modDrv _ _ _)
    | with_reducible apply Keeps.on
    | with_reducible apply Keeps.setBit .GDV_CH_STATUS (group_GDV_CH_STATUS _)
    | with_reducible apply Keeps.ite
    | with_reducible apply Keeps.iteP
    | with_reducible decide
    | split

theorem keeps_clearDesatCmd : ∀ a0 a1, Keeps 0x400080000000000000000000000000000000000000000000000000000000000000000004000000000000000800000002030000000000000100 a1 (clearDesatCmd a0 a1).2 := by
  intro a0 a1
  have h0 : Keeps 0x400080000000000000000000000000000000000000000000000000000000000000000004000000000000000800000002030000000000000100 a1 a1 := Keeps.refl _
  unfold clearDesatCmd
  repeat' first
    | with_reducible assumption
    | intro _
    | (extract_lets +onlyGivenNames x; refine Keeps.cut x ?_ (fun hx => ?_); (revert x; show Keeps _ _ _); on_goal 2 => clear_value x)
    | (extract_lets +onlyGivenNames x; clear_value x)
    | with_reducible apply Keeps.step (keeps_State_log _ _ _)
    | with_reducible apply Keeps.step (keeps_State_modDrv _ _ _)
    | with_reducible apply Keeps.setBit .GDV_CH_STATUS (group_GDV_CH_STATUS _)
    | with_reducible apply Keeps.step (keeps_sourceInactive _ _)
    | with_reducible apply Keeps.ite
    | with_reducible apply Keeps.iteP
    | with_reducible decide
    | split

theorem keeps_execClearDesat : ∀ a0 a1 a2, KeepsR 0x140038000000000000000000000000000000400080000000000000000000000000000000000000000000000000000000000000000004009000000000000800000002030000000000000140 a2 (execClearDesat a0 a1 a2) := by
  intro a0 a1 a2
  have h0 : Keeps 0x140038000000000000000000000000000000400080000000000000000000000000000000000000000000000000000000000000000004009000000000000800000002030000000000000140 a2 a2 := Keeps.refl _
  unfold execClearDesat
  repeat' first
    | with_reducible assumption
    | intro _
    | with_reducible apply Keeps.accepted
    | with_reducible apply KeepsR.next
    | with_reducible apply Keeps.step (keeps_clearDesatCmd _ _)
    | with_reducible apply Keeps.owned
    | with_reducible apply Keeps.request
    | with_reducible decide

theorem keeps_startDiag : ∀ a0 a1, Keeps 0x2000000000000000000000000000000000000000000000000000000000000000000000000000 a1 (startDiag a0 a1) := by
  intro a0 a1
  have h0 : Keeps 0x2000000000000000000000000000000000000000000000000000000000000000000000000000 a1 a1 := Keeps.refl _
  unfold startDiag
  repeat' first
    | with_reducible assumption
    | ((with_reducible refine StgField.upd_of ?_); intro i x hi; cases i <;> first | exact Keeps.no rfl hi | exact rfl | (split <;> rfl) | ((repeat' split) <;> rfl))
    | exact Or.inl rfl
    | exact Or.inr (fun _ h => h)
    | exact Or.inr (fun _ _ => rfl)
    | ((with_reducible refine Or.inr ?_); intro x h; (repeat' split) <;> first | exact h | exact rfl)
    | intro _
    | with_reducible refine Keeps.modStage ?_ ?_ ?_
    | with_reducible decide

theorem keeps_diagCmd : ∀ a0 a1 a2, Keeps 0x2000000000000000000000000000000000000000000000000000000000000000000000000000 a2 (diagCmd a0 a1 a2).2 := by
  intro a0 a1 a2
  have h0 : Keeps 0x2000000000000000000000000000000000000000000000000000000000000000000000000000 a2 a2 := Keeps.refl _
  unfold diagCmd
  repeat' first
    | with_reducible assumption
    | intro _
    | with_reducible apply Keeps.step (keeps_startDiag _ _)
    | with_reducible apply Keeps.ite
    | with_reducible apply Keeps.iteP
    | with_reducible decide
    | split

theorem keeps_execGdDiagCmd : ∀ a0 a1 a2, KeepsR 0x140038000000000000000000000000000000000000000000000000000000000000000000002000000000000000000000000000000000009000000000000000000000000000000000000040 a2 (execGdDiagCmd a0 a1 a2) := by
  intro a0 a1 a2
  have h0 : Keeps 0x140038000000000000000000000000000000000000000000000000000000000000000000002000000000000000000000000000000000009000000000000000000000000000000000000040 a2 a2 := Keeps.refl _
  unfold execGdDiagCmd
  repeat' first
    | with_reducible assumption
    | intro _
    | with_reducible apply Keeps.accepted
    | with_reducible apply KeepsR.next
    | with_reducible apply Keeps.step (keeps_diagCmd _ _ _)
    | with_reducible apply Keeps.request
    | with_reducible decide

theorem keeps_settlePort : ∀ a0 a1, Keeps 0x800010000000000000000000000000000000000000000000000000000000000000000000000000000000020800000000000000000000000000 a1 (settlePort a0 a1) := by
  intro a0 a1
  have h0 : Keeps 0x800010000000000000000000000000000000000000000000000000000000000000000000000000000000020800000000000000000000000000 a1 a1 := Keeps.refl _
  unfold settlePort
  repeat' first
    | with_reducible assumption
    | intro _
    | with_reducible apply Keeps.step (keeps_settle _ _)
    | with_reducible decide
    | with_reducible refine Keeps.of_eq (by assumption) ?_
    | split

theorem keeps_showPending : ∀ a0 a1, Keeps 0x20000000000000000000000000000 a1 (showPending a0 a1) := by
  intro a0 a1
  have h0 : Keeps 0x20000000000000000000000000000 a1 a1 := Keeps.refl _
  unfold showPending
  repeat' first
    | with_reducible assumption
    | intro _
    | with_reducible apply Keeps.setBit .GDV_PORT_STATUS (group_GDV_PORT_STATUS _)
    | with_reducible decide

theorem keeps_portSafe : ∀ a0 a1 a2, Keeps 0x2000000000004001800000000007400008000310000c0d00000006e0007cc1d9f0a4b33e700000000000000000080010014020004000200000100020981a0201000100e000000000140 a2 (portSafe a0 a1 a2) := by
  intro a0 a1 a2
  have h0 : Keeps 0x2000000000004001800000000007400008000310000c0d00000006e0007cc1d9f0a4b33e700000000000000000080010014020004000200000100020981a0201000100e000000000140 a2 a2 := Keeps.refl _
  unfold portSafe
  repeat' first
    | with_reducible assumption
    | intro _
    | with_reducible apply Keeps.step (keeps_stageSafe _ _ _)
    | with_reducible decide
    | with_reducible refine Keeps.of_eq (by assumption) ?_
    | split

theorem keeps_ackMissing : ∀ a0 a1 a2, Keeps 0x2000000000004001800000000007440008000f10010c0d00000006e8007cc1d9f0a4b33e700000000000000000080010014020004000200000100024981a0201303100e000000000140 a2 (ackMissing a0 a1 a2) := by
  intro a0 a1 a2
  have h0 : Keeps 0x2000000000004001800000000007440008000f10010c0d00000006e8007cc1d9f0a4b33e700000000000000000080010014020004000200000100024981a0201303100e000000000140 a2 a2 := Keeps.refl _
  unfold ackMissing
  repeat' first
    | with_reducible assumption
    | intro _
    | (extract_lets +onlyGivenNames x; refine Keeps.cut x ?_ (fun hx => ?_); (revert x; show Keeps _ _ _); on_goal 2 => clear_value x)
    | (extract_lets +onlyGivenNames x; clear_value x)
    | with_reducible apply Keeps.bump .GDV_PORT_ACK_MISSING (group_GDV_PORT_ACK_MISSING _)
    | with_reducible apply Keeps.step (keeps_State_log _ _ _)
    | with_reducible apply Keeps.step (keeps_State_modPort _ _ _)
    | with_reducible apply Keeps.setBit .GDV_PORT_STATUS (group_GDV_PORT_STATUS _)
    | with_reducible apply Keeps.step (keeps_portSafe _ _ _)
    | with_reducible apply Keeps.step (keeps_showPending _ _)
    | with_reducible apply Keeps.step (keeps_sourceActive _ _)
    | with_reducible decide

theorem keeps_execAckPulseReceived : ∀ a0 a1 a2, KeepsR 0x2000000000004001800000000007440008000f10010c0d00000006e8007cc1d9f0a4b33e700000000000000000080010014020004000200000100024981a0201303100e000000000140 a2 (execAckPulseReceived a0 a1 a2) := by
  intro a0 a1 a2
  have h0 : Keeps 0x2000000000004001800000000007440008000f10010c0d00000006e8007cc1d9f0a4b33e700000000000000000080010014020004000200000100024981a0201303100e000000000140 a2 a2 := Keeps.refl _
  unfold execAckPulseReceived
  repeat' first
    | with_reducible assumption
    | intro _
    | with_reducible apply Keeps.accepted
    | with_reducible apply KeepsR.next
    | with_reducible apply KeepsR.ite
    | (extract_lets +onlyGivenNames x; refine Keeps.cut x ?_ (fun hx => ?_); (revert x; show Keeps _ _ _); on_goal 2 => clear_value x)
    | (extract_lets +onlyGivenNames x; clear_value x)
    | with_reducible apply Keeps.step (keeps_State_modPort _ _ _)
    | with_reducible apply Keeps.on
    | with_reducible apply Keeps.setBit .GDV_PORT_STATUS (group_GDV_PORT_STATUS _)
    | with_reducible apply Keeps.step (keeps_ackMissing _ _ _)
    | with_reducible apply Keeps.step (keeps_settlePort _ _)
    | with_reducible apply Keeps.step (keeps_showPending _ _)
    | with_reducible apply Keeps.ite
    | with_reducible apply Keeps.iteP
    | with_reducible decide
    | with_reducible refine Keeps.of_eq (by assumption) ?_
    | split

theorem keeps_execAckWindowExpiry : ∀ a0 a1, KeepsR 0x2000000000004001800000000007440008000f10010c0d00000006e8007cc1d9f0a4b33e700000000000000000080010014020004000200000100024981a0201303100e000000000140 a1 (execAckWindowExpiry a0 a1) := by
  intro a0 a1
  have h0 : Keeps 0x2000000000004001800000000007440008000f10010c0d00000006e8007cc1d9f0a4b33e700000000000000000080010014020004000200000100024981a0201303100e000000000140 a1 a1 := Keeps.refl _
  unfold execAckWindowExpiry
  repeat' first
    | with_reducible assumption
    | intro _
    | with_reducible apply Keeps.accepted
    | with_reducible apply KeepsR.next
    | with_reducible apply KeepsR.ite
    | (extract_lets +onlyGivenNames x; refine Keeps.cut x ?_ (fun hx => ?_); (revert x; show Keeps _ _ _); on_goal 2 => clear_value x)
    | (extract_lets +onlyGivenNames x; clear_value x)
    | with_reducible apply Keeps.on
    | with_reducible apply Keeps.step (keeps_ackMissing _ _ _)
    | with_reducible apply Keeps.step (keeps_settlePort _ _)
    | with_reducible apply Keeps.ite
    | with_reducible apply Keeps.iteP
    | with_reducible decide
    | with_reducible refine Keeps.of_eq (by assumption) ?_
    | split

theorem keeps_execHeadFaultDetect : ∀ a0 a1, KeepsR 0x2000000000004001800000000007440008000f10010c0d00000006e8007cc1d9f0a4b33e700000000000000000080010014020004000200000100038981a0201303100e000000000140 a1 (execHeadFaultDetect a0 a1) := by
  intro a0 a1
  have h0 : Keeps 0x2000000000004001800000000007440008000f10010c0d00000006e8007cc1d9f0a4b33e700000000000000000080010014020004000200000100038981a0201303100e000000000140 a1 a1 := Keeps.refl _
  unfold execHeadFaultDetect
  repeat' first
    | with_reducible assumption
    | intro _
    | with_reducible apply Keeps.accepted
    | with_reducible apply KeepsR.next
    | with_reducible apply KeepsR.ite
    | (extract_lets +onlyGivenNames x; refine Keeps.cut x ?_ (fun hx => ?_); (revert x; show Keeps _ _ _); on_goal 2 => clear_value x)
    | (extract_lets +onlyGivenNames x; clear_value x)
    | with_reducible apply Keeps.bump .GDV_PORT_FAULTS (group_GDV_PORT_FAULTS _)
    | with_reducible apply Keeps.step (keeps_State_log _ _ _)
    | with_reducible apply Keeps.step (keeps_State_modPort _ _ _)
    | with_reducible apply Keeps.on
    | with_reducible apply Keeps.setBit .GDV_PORT_STATUS (group_GDV_PORT_STATUS _)
    | with_reducible apply Keeps.setN .GDV_PORT_LAST_CODE (group_GDV_PORT_LAST_CODE _)
    | with_reducible apply Keeps.step (keeps_portSafe _ _ _)
    | with_reducible apply Keeps.step (keeps_sourceActive _ _)
    | with_reducible apply Keeps.ite
    | with_reducible apply Keeps.iteP
    | with_reducible decide
    | split

theorem keeps_execHeadCodeReceived : ∀ a0 a1 a2, KeepsR 0x800000000000000000000000000000000000000000000000000000000000000000000004000000000000010000000000000000000000000100 a2 (execHeadCodeReceived a0 a1 a2) := by
  intro a0 a1 a2
  have h0 : Keeps 0x800000000000000000000000000000000000000000000000000000000000000000000004000000000000010000000000000000000000000100 a2 a2 := Keeps.refl _
  unfold execHeadCodeReceived
  repeat' first
    | with_reducible assumption
    | intro _
    | with_reducible apply Keeps.accepted
    | with_reducible apply KeepsR.next
    | with_reducible apply KeepsR.ite
    | (extract_lets +onlyGivenNames x; refine Keeps.cut x ?_ (fun hx => ?_); (revert x; show Keeps _ _ _); on_goal 2 => clear_value x)
    | (extract_lets +onlyGivenNames x; clear_value x)
    | with_reducible apply Keeps.step (keeps_State_log _ _ _)
    | with_reducible apply Keeps.step (keeps_State_modPort _ _ _)
    | with_reducible apply Keeps.on
    | with_reducible apply Keeps.setN .GDV_PORT_LAST_CODE (group_GDV_PORT_LAST_CODE _)
    | with_reducible apply Keeps.ite
    | with_reducible apply Keeps.iteP
    | with_reducible decide
    | split

theorem keeps_clearPortCmd : ∀ a0 a1 a2, Keeps 0x800080000000000000000000000000000000000000000000000000000000000000000004000000000000020000000002030000000000000100 a2 (clearPortCmd a0 a1 a2).2 := by
  intro a0 a1 a2
  have h0 : Keeps 0x800080000000000000000000000000000000000000000000000000000000000000000004000000000000020000000002030000000000000100 a2 a2 := Keeps.refl _
  unfold clearPortCmd
  repeat' first
    | with_reducible assumption
    | intro _
    | (extract_lets +onlyGivenNames x; refine Keeps.cut x ?_ (fun hx => ?_); (revert x; show Keeps _ _ _); on_goal 2 => clear_value x)
    | (extract_lets +onlyGivenNames x; clear_value x)
    | with_reducible apply Keeps.step (keeps_State_log _ _ _)
    | with_reducible apply Keeps.step (keeps_State_modPort _ _ _)
    | with_reducible apply Keeps.setField .GDV_PORT_STATUS (group_GDV_PORT_STATUS _)
    | with_reducible apply Keeps.step (keeps_sourceInactive _ _)
    | with_reducible apply Keeps.ite
    | with_reducible apply Keeps.iteP
    | with_reducible decide
    | split

theorem keeps_execClearPort : ∀ a0 a1 a2 a3, KeepsR 0x140038000000000000000000000000000000800080000000000000000000000000000000000000000000000000000000000000000004009000000000020000000002030000000000000140 a3 (execClearPort a0 a1 a2 a3) := by
  intro a0 a1 a2 a3
  have h0 : Keeps 0x140038000000000000000000000000000000800080000000000000000000000000000000000000000000000000000000000000000004009000000000020000000002030000000000000140 a3 a3 := Keeps.refl _
  unfold execClearPort
  repeat' first
    | with_reducible assumption
    | intro _
    | with_reducible apply Keeps.accepted
    | with_reducible apply KeepsR.next
    | with_reducible apply Keeps.step (keeps_clearPortCmd _ _ _)
    | with_reducible apply Keeps.owned
    | with_reducible apply Keeps.request
    | with_reducible decide

end Sys2Proof.Machine
end

