-- ==== Sys2Proof/Laws/KeepsAcq.lean ====
section
/-!
SUPPORT. What each operation of Machine/Acq.lean may change.
-/

set_option linter.unusedTactic false
set_option linter.tactic.unusedName false
set_option linter.unreachableTactic false

namespace Sys2Proof.Machine

theorem keeps_sampleTrigger : ∀ a0 a1, Keeps 0x2000008000003000000000000000000000000000000000000000000000000000000000004000000000000000000000000000000000000000100 a1 (sampleTrigger a0 a1) := by
  intro a0 a1
  have h0 : Keeps 0x2000008000003000000000000000000000000000000000000000000000000000000000004000000000000000000000000000000000000000100 a1 a1 := Keeps.refl _
  unfold sampleTrigger
  repeat' first
    | with_reducible assumption
    | ((with_reducible refine PieField.upd_of ?_); intro i x hi; cases i <;> first | exact Keeps.no rfl hi | exact rfl | (split <;> rfl) | ((repeat' split) <;> rfl))
    | intro _
    | (extract_lets +onlyGivenNames x; refine Keeps.cut x ?_ (fun hx => ?_); (revert x; show Keeps _ _ _); on_goal 2 => clear_value x)
    | (extract_lets +onlyGivenNames x; clear_value x)
    | with_reducible apply Keeps.step (keeps_State_log _ _ _)
    | with_reducible apply Keeps.step (keeps_State_modAdc _ _ _)
    | with_reducible refine Keeps.modPier ?_ ?_
    | with_reducible apply Keeps.step (keeps_State_modTb _ _ _)
    | with_reducible apply Keeps.foldl
    | with_reducible apply Keeps.foldlP
    | with_reducible apply Keeps.ite
    | with_reducible apply Keeps.iteP
    | with_reducible decide
    | with_reducible refine Keeps.of_eq (by assumption) ?_
    | split

theorem keeps_execSampleTrigger : ∀ a0 a1, KeepsR 0x2000008000003000000000000000000000000000000000000000000000000000000000004000000000000000000000000000000000000000100 a1 (execSampleTrigger a0 a1) := by
  intro a0 a1
  have h0 : Keeps 0x2000008000003000000000000000000000000000000000000000000000000000000000004000000000000000000000000000000000000000100 a1 a1 := Keeps.refl _
  unfold execSampleTrigger
  repeat' first
    | with_reducible assumption
    | intro _
    | with_reducible apply Keeps.accepted
    | with_reducible apply KeepsR.next
    | with_reducible apply Keeps.on
    | with_reducible apply Keeps.step (keeps_sampleTrigger _ _)
    | with_reducible decide

theorem keeps_showAcq : ∀ a0, Keeps 0x800000000000 a0 (showAcq a0) := by
  intro a0
  have h0 : Keeps 0x800000000000 a0 a0 := Keeps.refl _
  unfold showAcq
  repeat' first
    | with_reducible assumption
    | intro _
    | (extract_lets +onlyGivenNames x; refine Keeps.cut x ?_ (fun hx => ?_); (revert x; show Keeps _ _ _); on_goal 2 => clear_value x)
    | (extract_lets +onlyGivenNames x; clear_value x)
    | with_reducible apply Keeps.setBit .ACQ_STATUS group_ACQ_STATUS
    | with_reducible decide

theorem keeps_deliver : ∀ a0 a1 a2 a3 a4 a5, Keeps 0x2000000000000000000000000000000000000000000000000000000000000000000000000000000000000000000000000000000801800000000 a5 (deliver a0 a1 a2 a3 a4 a5) := by
  intro a0 a1 a2 a3 a4 a5
  have h0 : Keeps 0x2000000000000000000000000000000000000000000000000000000000000000000000000000000000000000000000000000000801800000000 a5 a5 := Keeps.refl _
  unfold deliver
  repeat' first
    | with_reducible assumption
    | intro _
    | (extract_lets +onlyGivenNames x; refine Keeps.cut x ?_ (fun hx => ?_); (revert x; show Keeps _ _ _); on_goal 2 => clear_value x)
    | (extract_lets +onlyGivenNames x; clear_value x)
    | with_reducible apply Keeps.step (keeps_State_modAdc _ _ _)
    | with_reducible apply Keeps.setField .ACQ_CH_STATUS (group_ACQ_CH_STATUS _)
    | with_reducible apply Keeps.setR .ACQ_CH_VALUE (group_ACQ_CH_VALUE _)
    | with_reducible apply Keeps.step (keeps_showAcq _)
    | with_reducible decide

theorem keeps_windowAverage : ∀ a0 a1, Keeps 0x2000000000000000000000000000000000000000000000000000000000000000000000004000000000000000000000000000000801800000100 a1 (windowAverage a0 a1) := by
  intro a0 a1
  have h0 : Keeps 0x2000000000000000000000000000000000000000000000000000000000000000000000004000000000000000000000000000000801800000100 a1 a1 := Keeps.refl _
  unfold windowAverage
  repeat' first
    | with_reducible assumption
    | intro _
    | (extract_lets +onlyGivenNames x; refine Keeps.cut x ?_ (fun hx => ?_); (revert x; show Keeps _ _ _); on_goal 2 => clear_value x)
    | (extract_lets +onlyGivenNames x; clear_value x)
    | extract_lets +onlyGivenNames x
    | with_reducible apply Keeps.step (keeps_State_log _ _ _)
    | with_reducible apply Keeps.step (keeps_State_modAdc _ _ _)
    | with_reducible apply Keeps.step (keeps_deliver _ _ _ _ _ _)
    | with_reducible apply Keeps.foldl
    | with_reducible apply Keeps.foldlP
    | with_reducible apply Keeps.ite
    | with_reducible apply Keeps.iteP
    | with_reducible decide
    | with_reducible refine Keeps.of_eq (by assumption) ?_
    | split

theorem keeps_takeAdcWrites (c : AdcId) (s : State) : Keeps 0x1503e04000004 s (takeAdcWrites c s) := by
  unfold takeAdcWrites
  refine Keeps.applyDue _ _ (fun w hw => ?_) (Keeps.upd_commitWrites (Keeps.refl s) (by decide) _)
  have e : w.1 / 256 = 0x4C10 + c.val := by simpa using (List.mem_filter.1 hw).2
  exact group_page_adc (by decide) (by omega) (by omega)

theorem keeps_noteCode : ∀ a0 a1 a2, Keeps 0x2000000000000000000000000000000000000000000000000000000000000000000000000000000000000000000000000000000100000000000 a2 (noteCode a0 a1 a2) := by
  intro a0 a1 a2
  have h0 : Keeps 0x2000000000000000000000000000000000000000000000000000000000000000000000000000000000000000000000000000000100000000000 a2 a2 := Keeps.refl _
  unfold noteCode
  repeat' first
    | with_reducible assumption
    | intro _
    | (extract_lets +onlyGivenNames x; refine Keeps.cut x ?_ (fun hx => ?_); (revert x; show Keeps _ _ _); on_goal 2 => clear_value x)
    | (extract_lets +onlyGivenNames x; clear_value x)
    | with_reducible apply Keeps.bump .ACQ_OVERRANGE_COUNT (group_ACQ_OVERRANGE_COUNT _)
    | with_reducible apply Keeps.step (keeps_State_modAdc _ _ _)
    | with_reducible apply Keeps.ite
    | with_reducible apply Keeps.iteP
    | with_reducible decide
    | split

theorem keeps_ssdCrossing : ∀ a0 a1 a2 a3, Keeps 0x100000000000000000000000000000000000000000000000000000000000000000000000000000000000000000000000000000000000000000000000000000000000 a3 (ssdCrossing a0 a1 a2 a3) := by
  intro a0 a1 a2 a3
  have h0 : Keeps 0x100000000000000000000000000000000000000000000000000000000000000000000000000000000000000000000000000000000000000000000000000000000000 a3 a3 := Keeps.refl _
  unfold ssdCrossing
  repeat' first
    | with_reducible assumption
    | intro _
    | (extract_lets +onlyGivenNames x; clear_value x)
    | with_reducible apply Keeps.step (keeps_State_modSsd _ _ _)
    | with_reducible apply Keeps.ite
    | with_reducible apply Keeps.iteP
    | with_reducible decide
    | with_reducible refine Keeps.of_eq (by assumption) ?_
    | split

theorem keeps_ssdTake : ∀ a0 a1 a2 a3 a4, Keeps 0x100000000000000000000000000000000000000000000000000000000000000000000000000000000000000000000000000000000000000000000000000000000000 a3 (ssdTake a0 a1 a2 a3 a4) := by
  intro a0 a1 a2 a3 a4
  have h0 : Keeps 0x100000000000000000000000000000000000000000000000000000000000000000000000000000000000000000000000000000000000000000000000000000000000 a3 a3 := Keeps.refl _
  unfold ssdTake
  repeat' first
    | with_reducible assumption
    | intro _
    | with_reducible apply Keeps.step (keeps_State_modSsd _ _ _)
    | with_reducible apply Keeps.step (keeps_ssdCrossing _ _ _ _)
    | with_reducible apply Keeps.foldl
    | with_reducible apply Keeps.foldlP
    | with_reducible apply Keeps.ite
    | with_reducible apply Keeps.iteP
    | with_reducible decide
    | split

theorem keeps_ssdFeed : ∀ a0 a1 a2 a3, Keeps 0x100000000000000000000000000000000000000000000000000000000000000000000000000000000000000000000000000000000000000000000000000000000000 a3 (ssdFeed a0 a1 a2 a3) := by
  intro a0 a1 a2 a3
  have h0 : Keeps 0x100000000000000000000000000000000000000000000000000000000000000000000000000000000000000000000000000000000000000000000000000000000000 a3 a3 := Keeps.refl _
  unfold ssdFeed
  repeat' first
    | with_reducible assumption
    | intro _
    | with_reducible apply Keeps.step (keeps_ssdTake _ _ _ _ _)
    | with_reducible apply Keeps.foldl
    | with_reducible apply Keeps.foldlP
    | with_reducible decide

theorem keeps_gridConversion : ∀ a0 a1 a2 a3, Keeps 0x100000000000000006000000000000000000000000000000000000000000000000000000000000000000000004000000000000000000000000000001d03e04000104 a3 (gridConversion a0 a1 a2 a3) := by
  intro a0 a1 a2 a3
  have h0 : Keeps 0x100000000000000006000000000000000000000000000000000000000000000000000000000000000000000004000000000000000000000000000001d03e04000104 a3 a3 := Keeps.refl _
  unfold gridConversion
  repeat' first
    | with_reducible assumption
    | intro _
    | (extract_lets +onlyGivenNames x; refine Keeps.cut x ?_ (fun hx => ?_); (revert x; show Keeps _ _ _); on_goal 2 => clear_value x)
    | (extract_lets +onlyGivenNames x; clear_value x)
    | with_reducible apply Keeps.step (keeps_State_modAdc _ _ _)
    | with_reducible apply Keeps.step (keeps_deliver _ _ _ _ _ _)
    | with_reducible apply Keeps.step (keeps_feedChains _ _ _)
    | with_reducible apply Keeps.step (keeps_noteCode _ _ _)
    | with_reducible apply Keeps.step (keeps_ssdFeed _ _ _ _)
    | with_reducible apply Keeps.step (keeps_takeAdcWrites _ _)
    | with_reducible apply Keeps.step (keeps_windowAverage _ _)
    | with_reducible apply Keeps.ite
    | with_reducible apply Keeps.iteP
    | with_reducible decide
    | split

theorem keeps_singleConversion : ∀ a0 a1 a2 a3, Keeps 0x2000000000000000000000000000000000000000000000000000000000000000000000000000000000000000000000000000001d03e04000004 a3 (singleConversion a0 a1 a2 a3) := by
  intro a0 a1 a2 a3
  have h0 : Keeps 0x2000000000000000000000000000000000000000000000000000000000000000000000000000000000000000000000000000001d03e04000004 a3 a3 := Keeps.refl _
  unfold singleConversion
  repeat' first
    | with_reducible assumption
    | intro _
    | (extract_lets +onlyGivenNames x; refine Keeps.cut x ?_ (fun hx => ?_); (revert x; show Keeps _ _ _); on_goal 2 => clear_value x)
    | (extract_lets +onlyGivenNames x; clear_value x)
    | with_reducible apply Keeps.step (keeps_State_modAdc _ _ _)
    | with_reducible apply Keeps.step (keeps_deliver _ _ _ _ _ _)
    | with_reducible apply Keeps.step (keeps_noteCode _ _ _)
    | with_reducible apply Keeps.step (keeps_takeAdcWrites _ _)
    | with_reducible decide

theorem keeps_conversionComplete : ∀ a0 a1 a2, Keeps 0x100000000000000006000000000000000000000000000000000000000000000000000000000000000000000004000000000000000000000000000001d03e04000104 a2 (conversionComplete a0 a1 a2) := by
  intro a0 a1 a2
  have h0 : Keeps 0x100000000000000006000000000000000000000000000000000000000000000000000000000000000000000004000000000000000000000000000001d03e04000104 a2 a2 := Keeps.refl _
  unfold conversionComplete
  repeat' first
    | with_reducible assumption
    | intro _
    | (extract_lets +onlyGivenNames x; clear_value x)
    | with_reducible apply Keeps.step (keeps_gridConversion _ _ _ _)
    | with_reducible apply Keeps.step (keeps_singleConversion _ _ _ _)
    | with_reducible apply Keeps.ite
    | with_reducible apply Keeps.iteP
    | with_reducible decide
    | with_reducible refine Keeps.of_eq (by assumption) ?_
    | split

theorem keeps_execConversionComplete : ∀ a0 a1 a2, KeepsR 0x100000000000000006000000000000000000000000000000000000000000000000000000000000000000000004000000000000000000000000000001d03e04000104 a2 (execConversionComplete a0 a1 a2) := by
  intro a0 a1 a2
  have h0 : Keeps 0x100000000000000006000000000000000000000000000000000000000000000000000000000000000000000004000000000000000000000000000001d03e04000104 a2 a2 := Keeps.refl _
  unfold execConversionComplete
  repeat' first
    | with_reducible assumption
    | intro _
    | with_reducible apply Keeps.accepted
    | with_reducible apply KeepsR.next
    | with_reducible apply Keeps.on
    | with_reducible apply Keeps.step (keeps_conversionComplete _ _ _)
    | with_reducible decide

theorem keeps_execAcqTimerEvent : ∀ a0 a1, KeepsR 0x3000000000000000000000000000000000000000000000000000000000000000000000004000000000000000000000000000000400000000100 a1 (execAcqTimerEvent a0 a1) := by
  intro a0 a1
  have h0 : Keeps 0x3000000000000000000000000000000000000000000000000000000000000000000000004000000000000000000000000000000400000000100 a1 a1 := Keeps.refl _
  unfold execAcqTimerEvent
  repeat' first
    | with_reducible assumption
    | ((with_reducible refine AcqField.upd_of ?_); intro i x hi; cases i <;> first | exact Keeps.no rfl hi | exact rfl | (split <;> rfl) | ((repeat' split) <;> rfl))
    | intro _
    | with_reducible apply Keeps.accepted
    | with_reducible apply KeepsR.next
    | with_reducible apply KeepsR.ite
    | (extract_lets +onlyGivenNames x; refine Keeps.cut x ?_ (fun hx => ?_); (revert x; show Keeps _ _ _); on_goal 2 => clear_value x)
    | (extract_lets +onlyGivenNames x; clear_value x)
    | with_reducible refine Keeps.modAcq ?_ ?_
    | with_reducible apply Keeps.on
    | with_reducible apply Keeps.step (keeps_startConv _ _ _ _)
    | with_reducible apply Keeps.foldl
    | with_reducible apply Keeps.foldlP
    | with_reducible apply Keeps.ite
    | with_reducible apply Keeps.iteP
    | with_reducible decide
    | with_reducible refine Keeps.of_eq (by assumption) ?_
    | split

theorem keeps_startSelfCal : ∀ a0, Keeps 0x10000000000000000000000000000000000000000000000000000000000000000000000000000000000000000000000000000000800000000000 a0 (startSelfCal a0) := by
  intro a0
  have h0 : Keeps 0x10000000000000000000000000000000000000000000000000000000000000000000000000000000000000000000000000000000800000000000 a0 a0 := Keeps.refl _
  unfold startSelfCal
  repeat' first
    | with_reducible assumption
    | ((with_reducible refine AcqField.upd_of ?_); intro i x hi; cases i <;> first | exact Keeps.no rfl hi | exact rfl | (split <;> rfl) | ((repeat' split) <;> rfl))
    | intro _
    | with_reducible refine Keeps.modAcq ?_ ?_
    | with_reducible apply Keeps.setBit .ACQ_STATUS group_ACQ_STATUS
    | with_reducible decide

theorem keeps_calOne : ∀ a0 a1 a2, Keeps 0x6000000000000000000000000000000000000000000010000000000000000000000000004000000000000000000000000000000020e00000100 a0 (calOne a0 a1 a2) := by
  intro a0 a1 a2
  have h0 : Keeps 0x6000000000000000000000000000000000000000000010000000000000000000000000004000000000000000000000000000000020e00000100 a0 a0 := Keeps.refl _
  unfold calOne
  repeat' first
    | with_reducible assumption
    | intro _
    | (extract_lets +onlyGivenNames x; refine Keeps.cut x ?_ (fun hx => ?_); (revert x; show Keeps _ _ _); on_goal 2 => clear_value x)
    | (extract_lets +onlyGivenNames x; clear_value x)
    | with_reducible apply Keeps.step (keeps_State_log _ _ _)
    | with_reducible apply Keeps.step (keeps_State_modAdc _ _ _)
    | with_reducible apply Keeps.setBit .ACQ_CH_STATUS (group_ACQ_CH_STATUS _)
    | with_reducible apply Keeps.setObj .ACQ_CAL_OFFSET (group_ACQ_CAL_OFFSET _)
    | with_reducible apply Keeps.setR .ACQ_CAL_GAIN (group_ACQ_CAL_GAIN _)
    | with_reducible apply Keeps.step (keeps_demandLockout _ _)
    | with_reducible apply Keeps.step (keeps_stepReaders _ _)
    | with_reducible apply Keeps.step (keeps_substitute _ _ _)
    | with_reducible apply Keeps.ite
    | with_reducible apply Keeps.iteP
    | with_reducible decide
    | split

theorem keeps_execSelfCalComplete : ∀ a0 a1, KeepsR 0x16000000000000000000000000000000000000000000110000000000000000000000000004000000000000000000000000000000820e00000100 a1 (execSelfCalComplete a0 a1) := by
  intro a0 a1
  have h0 : Keeps 0x16000000000000000000000000000000000000000000110000000000000000000000000004000000000000000000000000000000820e00000100 a1 a1 := Keeps.refl _
  unfold execSelfCalComplete
  repeat' first
    | with_reducible assumption
    | ((with_reducible refine AcqField.upd_of ?_); intro i x hi; cases i <;> first | exact Keeps.no rfl hi | exact rfl | (split <;> rfl) | ((repeat' split) <;> rfl))
    | ((with_reducible refine ModField.upd_of ?_); intro i x hi; cases i <;> first | exact Keeps.no rfl hi | exact rfl | (split <;> rfl) | ((repeat' split) <;> rfl))
    | intro _
    | with_reducible apply Keeps.accepted
    | with_reducible apply KeepsR.next
    | with_reducible apply KeepsR.ite
    | (extract_lets +onlyGivenNames x; refine Keeps.cut x ?_ (fun hx => ?_); (revert x; show Keeps _ _ _); on_goal 2 => clear_value x)
    | (extract_lets +onlyGivenNames x; clear_value x)
    | with_reducible apply Keeps.step (keeps_State_log _ _ _)
    | with_reducible refine Keeps.modAcq ?_ ?_
    | with_reducible refine Keeps.modMod ?_ ?_
    | with_reducible apply Keeps.on
    | with_reducible apply Keeps.setField .ACQ_STATUS group_ACQ_STATUS
    | with_reducible apply Keeps.step (keeps_calOne _ _ _)
    | with_reducible apply Keeps.step (keeps_showAcq _)
    | with_reducible apply Keeps.foldl
    | with_reducible apply Keeps.foldlP
    | with_reducible apply Keeps.ite
    | with_reducible apply Keeps.iteP
    | with_reducible decide
    | with_reducible refine Keeps.of_eq (by assumption) ?_
    | split

theorem keeps_acqSelfCal : ∀ a0 a1, Keeps 0x10000000000000000000000000000000000000000000000000000000000000000000000000000000000000000000000000000000800000000000 a1 (acqSelfCal a0 a1).2 := by
  intro a0 a1
  have h0 : Keeps 0x10000000000000000000000000000000000000000000000000000000000000000000000000000000000000000000000000000000800000000000 a1 a1 := Keeps.refl _
  unfold acqSelfCal
  repeat' first
    | with_reducible assumption
    | intro _
    | with_reducible apply Keeps.step (keeps_startSelfCal _)
    | with_reducible apply Keeps.ite
    | with_reducible apply Keeps.iteP
    | with_reducible decide
    | split

theorem keeps_execAcqSelfCal : ∀ a0 a1, KeepsR 0x140038000000000000000000000000000010000000000000000000000000000000000000000000000000000000000000000000000000009000000000000000000000000000800000000040 a1 (execAcqSelfCal a0 a1) := by
  intro a0 a1
  have h0 : Keeps 0x140038000000000000000000000000000010000000000000000000000000000000000000000000000000000000000000000000000000009000000000000000000000000000800000000040 a1 a1 := Keeps.refl _
  unfold execAcqSelfCal
  repeat' first
    | with_reducible assumption
    | intro _
    | with_reducible apply Keeps.accepted
    | with_reducible apply KeepsR.next
    | with_reducible apply Keeps.step (keeps_acqSelfCal _ _)
    | with_reducible apply Keeps.request
    | with_reducible decide

theorem keeps_startPathDiag : ∀ a0 a1 a2, Keeps 0x20000000000000000000000000000000000000000000000000000000000000000000000000000000000000000000000000000000800000000000 a2 (startPathDiag a0 a1 a2) := by
  intro a0 a1 a2
  have h0 : Keeps 0x20000000000000000000000000000000000000000000000000000000000000000000000000000000000000000000000000000000800000000000 a2 a2 := Keeps.refl _
  unfold startPathDiag
  repeat' first
    | with_reducible assumption
    | ((with_reducible refine AcqField.upd_of ?_); intro i x hi; cases i <;> first | exact Keeps.no rfl hi | exact rfl | (split <;> rfl) | ((repeat' split) <;> rfl))
    | intro _
    | with_reducible refine Keeps.modAcq ?_ ?_
    | with_reducible apply Keeps.setBit .ACQ_STATUS group_ACQ_STATUS
    | with_reducible decide

theorem keeps_acqDiag : ∀ a0 a1 a2, Keeps 0x20000000000000000000000000000000000000000000000000000000000000000000000000000000000000000000000000000000800000000000 a2 (acqDiag a0 a1 a2).2 := by
  intro a0 a1 a2
  have h0 : Keeps 0x20000000000000000000000000000000000000000000000000000000000000000000000000000000000000000000000000000000800000000000 a2 a2 := Keeps.refl _
  unfold acqDiag
  repeat' first
    | with_reducible assumption
    | intro _
    | with_reducible apply Keeps.step (keeps_startPathDiag _ _ _)
    | with_reducible apply Keeps.ite
    | with_reducible apply Keeps.iteP
    | with_reducible decide
    | split

theorem keeps_execAcqDiag : ∀ a0 a1 a2, KeepsR 0x140038000000000000000000000000000020000000000000000000000000000000000000000000000000000000000000000000000000009000000000000000000000000000800000000040 a2 (execAcqDiag a0 a1 a2) := by
  intro a0 a1 a2
  have h0 : Keeps 0x140038000000000000000000000000000020000000000000000000000000000000000000000000000000000000000000000000000000009000000000000000000000000000800000000040 a2 a2 := Keeps.refl _
  unfold execAcqDiag
  repeat' first
    | with_reducible assumption
    | intro _
    | with_reducible apply Keeps.accepted
    | with_reducible apply KeepsR.next
    | with_reducible apply Keeps.step (keeps_acqDiag _ _ _)
    | with_reducible apply Keeps.request
    | with_reducible decide

theorem keeps_acqRestoreRefused : ∀ a0 a1, Keeps 0x0 a1 (acqRestoreRefused a0 a1).2 := by
  intro a0 a1
  have h0 : Keeps 0x0 a1 a1 := Keeps.refl _
  unfold acqRestoreRefused
  repeat' first
    | with_reducible assumption
    | intro _
    | with_reducible apply Keeps.ite
    | with_reducible apply Keeps.iteP
    | with_reducible decide
    | split

theorem keeps_execAcqRestore : ∀ a0 a1 a2, KeepsR 0x140038000000000000000000000000000020000000000000000000000000000000000000000000000000000000000000000000000000009000000000000000000000000000800000000040 a2 (execAcqRestore a0 a1 a2) := by
  intro a0 a1 a2
  have h0 : Keeps 0x140038000000000000000000000000000020000000000000000000000000000000000000000000000000000000000000000000000000009000000000000000000000000000800000000040 a2 a2 := Keeps.refl _
  unfold execAcqRestore
  repeat' first
    | with_reducible assumption
    | intro _
    | with_reducible apply Keeps.accepted
    | with_reducible apply KeepsR.next
    | with_reducible apply KeepsR.ite
    | with_reducible apply Keeps.step (keeps_acqRestoreRefused _ _)
    | with_reducible apply Keeps.request
    | with_reducible apply Keeps.step (keeps_startPathDiag _ _ _)
    | with_reducible apply Keeps.ite
    | with_reducible apply Keeps.iteP
    | with_reducible decide
    | split

theorem keeps_showSubstituting : ∀ a0 a1, Keeps 0x80000000000000000000000000000000000000000000000000000000 a0 (showSubstituting a0 a1) := by
  intro a0 a1
  have h0 : Keeps 0x80000000000000000000000000000000000000000000000000000000 a0 a0 := Keeps.refl _
  unfold showSubstituting
  repeat' first
    | with_reducible assumption
    | intro _
    | with_reducible apply Keeps.setBit .SRV_STATUS (group_SRV_STATUS _)
    | with_reducible apply Keeps.ite
    | with_reducible apply Keeps.iteP
    | with_reducible decide
    | split

theorem keeps_endSubst : ∀ a0 a1, Keeps 0x6000000000000000000000000000000000000000000000000000000000080000000000004000000000000000000000000000000820800000100 a1 (endSubst a0 a1) := by
  intro a0 a1
  have h0 : Keeps 0x6000000000000000000000000000000000000000000000000000000000080000000000004000000000000000000000000000000820800000100 a1 a1 := Keeps.refl _
  unfold endSubst
  repeat' first
    | with_reducible assumption
    | intro _
    | (extract_lets +onlyGivenNames x; refine Keeps.cut x ?_ (fun hx => ?_); (revert x; show Keeps _ _ _); on_goal 2 => clear_value x)
    | (extract_lets +onlyGivenNames x; clear_value x)
    | with_reducible apply Keeps.step (keeps_State_log _ _ _)
    | with_reducible apply Keeps.step (keeps_State_modAdc _ _ _)
    | with_reducible apply Keeps.setBit .ACQ_CH_STATUS (group_ACQ_CH_STATUS _)
    | with_reducible apply Keeps.step (keeps_showAcq _)
    | with_reducible apply Keeps.step (keeps_showSubstituting _ _)
    | with_reducible apply Keeps.step (keeps_stepReaders _ _)
    | with_reducible apply Keeps.foldl
    | with_reducible apply Keeps.foldlP
    | with_reducible decide

theorem keeps_execAcqDiagComplete : ∀ a0 a1, KeepsR 0x140038000000000000000000000000000026000000000000000000000000000000000000000000000000000000000080000000000004009000000000000000000000000000822800000140 a1 (execAcqDiagComplete a0 a1) := by
  intro a0 a1
  have h0 : Keeps 0x140038000000000000000000000000000026000000000000000000000000000000000000000000000000000000000080000000000004009000000000000000000000000000822800000140 a1 a1 := Keeps.refl _
  unfold execAcqDiagComplete
  repeat' first
    | with_reducible assumption
    | ((with_reducible refine AcqField.upd_of ?_); intro i x hi; cases i <;> first | exact Keeps.no rfl hi | exact rfl | (split <;> rfl) | ((repeat' split) <;> rfl))
    | intro _
    | with_reducible apply Keeps.accepted
    | with_reducible apply KeepsR.next
    | with_reducible apply KeepsR.ite
    | (extract_lets +onlyGivenNames x; refine Keeps.cut x ?_ (fun hx => ?_); (revert x; show Keeps _ _ _); on_goal 2 => clear_value x)
    | (extract_lets +onlyGivenNames x; clear_value x)
    | with_reducible apply Keeps.step (keeps_State_log _ _ _)
    | with_reducible refine Keeps.modAcq ?_ ?_
    | with_reducible apply Keeps.on
    | with_reducible apply Keeps.step (keeps_State_reply _ _ _ _)
    | with_reducible apply Keeps.setBit .ACQ_STATUS group_ACQ_STATUS
    | with_reducible apply Keeps.setBit .ACQ_CH_STATUS (group_ACQ_CH_STATUS _)
    | with_reducible apply Keeps.setR .ACQ_DIAG_ERROR (group_ACQ_DIAG_ERROR _)
    | with_reducible apply Keeps.step (keeps_endSubst _ _)
    | with_reducible apply Keeps.step (keeps_substitute _ _ _)
    | with_reducible apply Keeps.ite
    | with_reducible apply Keeps.iteP
    | with_reducible decide
    | with_reducible refine Keeps.of_eq (by assumption) ?_
    | split

theorem keeps_execTrackingSample : ∀ a0 a1 a2, KeepsR 0x2000000000000000000000000000000000000000000000000000000000000000000000004000000000000000000000000000001000800000100 a2 (execTrackingSample a0 a1 a2) := by
  intro a0 a1 a2
  have h0 : Keeps 0x2000000000000000000000000000000000000000000000000000000000000000000000004000000000000000000000000000001000800000100 a2 a2 := Keeps.refl _
  unfold execTrackingSample
  repeat' first
    | with_reducible assumption
    | intro _
    | with_reducible apply Keeps.accepted
    | with_reducible apply KeepsR.next
    | with_reducible apply KeepsR.ite
    | (extract_lets +onlyGivenNames x; refine Keeps.cut x ?_ (fun hx => ?_); (revert x; show Keeps _ _ _); on_goal 2 => clear_value x)
    | (extract_lets +onlyGivenNames x; clear_value x)
    | with_reducible apply Keeps.step (keeps_State_log _ _ _)
    | with_reducible apply Keeps.step (keeps_State_modAdc _ _ _)
    | with_reducible apply Keeps.on
    | with_reducible apply Keeps.setBit .ACQ_CH_STATUS (group_ACQ_CH_STATUS _)
    | with_reducible apply Keeps.setR .ACQ_TRACK_DRIFT (group_ACQ_TRACK_DRIFT _)
    | with_reducible apply Keeps.step (keeps_substitute _ _ _)
    | with_reducible apply Keeps.ite
    | with_reducible apply Keeps.iteP
    | with_reducible decide
    | split

theorem keeps_execSubstitutionApply : ∀ a0 a1, KeepsR 0x6000080000000000000000000000000000000000000000000000000000000000000000004000000000000000000000002030000820800000100 a1 (execSubstitutionApply a0 a1) := by
  intro a0 a1
  have h0 : Keeps 0x6000080000000000000000000000000000000000000000000000000000000000000000004000000000000000000000002030000820800000100 a1 a1 := Keeps.refl _
  unfold execSubstitutionApply
  repeat' first
    | with_reducible assumption
    | intro _
    | with_reducible apply Keeps.accepted
    | with_reducible apply KeepsR.next
    | with_reducible apply KeepsR.ite
    | (extract_lets +onlyGivenNames x; refine Keeps.cut x ?_ (fun hx => ?_); (revert x; show Keeps _ _ _); on_goal 2 => clear_value x)
    | (extract_lets +onlyGivenNames x; clear_value x)
    | with_reducible apply Keeps.step (keeps_State_log _ _ _)
    | with_reducible apply Keeps.step (keeps_State_modAdc _ _ _)
    | with_reducible apply Keeps.on
    | with_reducible apply Keeps.setBit .ACQ_CH_STATUS (group_ACQ_CH_STATUS _)
    | with_reducible apply Keeps.step (keeps_showAcq _)
    | with_reducible apply Keeps.step (keeps_sourceInactive _ _)
    | with_reducible apply Keeps.step (keeps_stepReaders _ _)
    | with_reducible apply Keeps.ite
    | with_reducible apply Keeps.iteP
    | with_reducible decide
    | with_reducible refine Keeps.of_eq (by assumption) ?_
    | split

theorem keeps_execSdFault : ∀ a0 a1 a2, KeepsR 0x8000000000000000000000000000000000000000000000000000000000000000000000004000000000000000000000000000000a00000000100 a2 (execSdFault a0 a1 a2) := by
  intro a0 a1 a2
  have h0 : Keeps 0x8000000000000000000000000000000000000000000000000000000000000000000000004000000000000000000000000000000a00000000100 a2 a2 := Keeps.refl _
  unfold execSdFault
  repeat' first
    | with_reducible assumption
    | ((with_reducible refine AcqField.upd_of ?_); intro i x hi; cases i <;> first | exact Keeps.no rfl hi | exact rfl | (split <;> rfl) | ((repeat' split) <;> rfl))
    | intro _
    | with_reducible apply Keeps.accepted
    | with_reducible apply KeepsR.next
    | with_reducible apply KeepsR.ite
    | (extract_lets +onlyGivenNames x; refine Keeps.cut x ?_ (fun hx => ?_); (revert x; show Keeps _ _ _); on_goal 2 => clear_value x)
    | (extract_lets +onlyGivenNames x; clear_value x)
    | with_reducible apply Keeps.step (keeps_State_log _ _ _)
    | with_reducible refine Keeps.modAcq ?_ ?_
    | with_reducible apply Keeps.on
    | with_reducible apply Keeps.setN .ACQ_SD_STATUS (group_ACQ_SD_STATUS _)
    | with_reducible apply Keeps.step (keeps_showAcq _)
    | with_reducible apply Keeps.ite
    | with_reducible apply Keeps.iteP
    | with_reducible decide
    | with_reducible refine Keeps.of_eq (by assumption) ?_
    | split

theorem keeps_execSdFaultEnd : ∀ a0 a1, KeepsR 0xc000000000000000000000000000000000000000000000000000000000000000000000000000000000000000000000000000000a20000000000 a1 (execSdFaultEnd a0 a1) := by
  intro a0 a1
  have h0 : Keeps 0xc000000000000000000000000000000000000000000000000000000000000000000000000000000000000000000000000000000a20000000000 a1 a1 := Keeps.refl _
  unfold execSdFaultEnd
  repeat' first
    | with_reducible assumption
    | ((with_reducible refine AcqField.upd_of ?_); intro i x hi; cases i <;> first | exact Keeps.no rfl hi | exact rfl | (split <;> rfl) | ((repeat' split) <;> rfl))
    | intro _
    | with_reducible apply Keeps.accepted
    | with_reducible apply KeepsR.next
    | with_reducible apply KeepsR.ite
    | (extract_lets +onlyGivenNames x; refine Keeps.cut x ?_ (fun hx => ?_); (revert x; show Keeps _ _ _); on_goal 2 => clear_value x)
    | (extract_lets +onlyGivenNames x; clear_value x)
    | with_reducible refine Keeps.modAcq ?_ ?_
    | with_reducible apply Keeps.on
    | with_reducible apply Keeps.setN .ACQ_SD_STATUS (group_ACQ_SD_STATUS _)
    | with_reducible apply Keeps.step (keeps_showAcq _)
    | with_reducible apply Keeps.step (keeps_stepReaders _ _)
    | with_reducible apply Keeps.ite
    | with_reducible apply Keeps.iteP
    | with_reducible decide
    | split

theorem keeps_applyChainWrites (c : ChainId) (ws : List ObjCell) (s : State) : Keeps 0x40000000000000000000000000000000000000000000000000000000000000000000000000000000000000000000000000000000fc004000000 s (applyChainWrites c ws s) := by
  unfold applyChainWrites
  extract_lets key old s1 s2
  have h1 : Keeps 0x40000000000000000000000000000000000000000000000000000000000000000000000000000000000000000000000000000000fc004000000 s s1 := by
    refine Keeps.applyCells _ (fun w hw => ?_) (Keeps.refl s)
    have e : w.1 / 256 = 0x4C60 + c.val := by simpa using (List.mem_filter.1 hw).2
    exact group_page_chain (by decide) (by omega) (by omega)
  refine Keeps.step (keeps_showChain _ _) (by decide) ?_
  show Keeps 0x40000000000000000000000000000000000000000000000000000000000000000000000000000000000000000000000000000000fc004000000 s (if key s1 = old then s1 else _)
  split
  · exact h1
  · exact Keeps.step (keeps_chainStep _ _) (by decide) (Keeps.step (keeps_State_modChain _ _ _) (by decide) h1)

theorem keeps_takeChainWrites (c : ChainId) (s : State) : Keeps 0x40000000000000000000000000000000000000000000000000000000000000000000000000000000000000000000000000000000fc004000004 s (takeChainWrites c s) := by
  unfold takeChainWrites
  extract_lets mine ws s1 s2
  split
  · exact Keeps.refl s
  · exact Keeps.step (keeps_applyChainWrites _ _ _) (by decide) (Keeps.upd_commitWrites (Keeps.refl s) (by decide) _)

theorem keeps_deliverChain : ∀ a0 a1 a2 a3 a4, Keeps 0x40000000000000000000000000000000000000000000000000000000000000000000000040000000000000000000000000000008a0000000100 a4 (deliverChain a0 a1 a2 a3 a4) := by
  intro a0 a1 a2 a3 a4
  have h0 : Keeps 0x40000000000000000000000000000000000000000000000000000000000000000000000040000000000000000000000000000008a0000000100 a4 a4 := Keeps.refl _
  unfold deliverChain
  repeat' first
    | with_reducible assumption
    | intro _
    | (extract_lets +onlyGivenNames x; refine Keeps.cut x ?_ (fun hx => ?_); (revert x; show Keeps _ _ _); on_goal 2 => clear_value x)
    | (extract_lets +onlyGivenNames x; clear_value x)
    | with_reducible apply Keeps.step (keeps_State_logOnce _ _ _ _)
    | with_reducible apply Keeps.step (keeps_State_modChain _ _ _)
    | with_reducible apply Keeps.setBit .ACQ_FC_STATUS (group_ACQ_FC_STATUS _)
    | with_reducible apply Keeps.setField .ACQ_FC_STATUS (group_ACQ_FC_STATUS _)
    | with_reducible apply Keeps.setR .ACQ_FC_VALUE (group_ACQ_FC_VALUE _)
    | with_reducible apply Keeps.step (keeps_showAcq _)
    | with_reducible apply Keeps.ite
    | with_reducible apply Keeps.iteP
    | with_reducible decide
    | split

theorem keeps_chainStepOut : ∀ a0 a1 a2, Keeps 0x40000000000000000000000000000000000000000000000000000000000000000000000040000000000000000000000000000008a0000000100 a2 (chainStepOut a0 a1 a2) := by
  intro a0 a1 a2
  have h0 : Keeps 0x40000000000000000000000000000000000000000000000000000000000000000000000040000000000000000000000000000008a0000000100 a2 a2 := Keeps.refl _
  unfold chainStepOut
  repeat' first
    | with_reducible assumption
    | intro _
    | (extract_lets +onlyGivenNames x; refine Keeps.cut x ?_ (fun hx => ?_); (revert x; show Keeps _ _ _); on_goal 2 => clear_value x)
    | (extract_lets +onlyGivenNames x; clear_value x)
    | with_reducible apply Keeps.step (keeps_State_modChain _ _ _)
    | with_reducible apply Keeps.setBit .ACQ_FC_STATUS (group_ACQ_FC_STATUS _)
    | with_reducible apply Keeps.step (keeps_deliverChain _ _ _ _ _)
    | with_reducible apply Keeps.foldl
    | with_reducible apply Keeps.foldlP
    | with_reducible apply Keeps.ite
    | with_reducible apply Keeps.iteP
    | with_reducible decide
    | with_reducible refine Keeps.of_eq (by assumption) ?_
    | split

theorem keeps_chainOutput : ∀ a0 a1 a2, Keeps 0x40000000000000000000000000000000000000000000000000000000000000000000000040000000000000000000000000000008fc004000104 a2 (chainOutput a0 a1 a2) := by
  intro a0 a1 a2
  have h0 : Keeps 0x40000000000000000000000000000000000000000000000000000000000000000000000040000000000000000000000000000008fc004000104 a2 a2 := Keeps.refl _
  unfold chainOutput
  repeat' first
    | with_reducible assumption
    | intro _
    | with_reducible apply Keeps.step (keeps_chainStepOut _ _ _)
    | with_reducible apply Keeps.step (keeps_takeChainWrites _ _)
    | with_reducible apply Keeps.ite
    | with_reducible apply Keeps.iteP
    | with_reducible decide
    | with_reducible refine Keeps.of_eq (by assumption) ?_
    | split

theorem keeps_execChainOutput : ∀ a0 a1 a2, KeepsR 0x40000000000000000000000000000000000000000000000000000000000000000000000040000000000000000000000000000008fc004000104 a2 (execChainOutput a0 a1 a2) := by
  intro a0 a1 a2
  have h0 : Keeps 0x40000000000000000000000000000000000000000000000000000000000000000000000040000000000000000000000000000008fc004000104 a2 a2 := Keeps.refl _
  unfold execChainOutput
  repeat' first
    | with_reducible assumption
    | intro _
    | with_reducible apply Keeps.accepted
    | with_reducible apply KeepsR.next
    | with_reducible apply Keeps.on
    | with_reducible apply Keeps.step (keeps_chainOutput _ _ _)
    | with_reducible decide

theorem keeps_bankSwitchCmd : ∀ a0 a1 a2, Keeps 0x4000000000000000000000000000000000000000000000040000000000000000000000004000000000000000000000000000000000000000100 a2 (bankSwitchCmd a0 a1 a2).2 := by
  intro a0 a1 a2
  have h0 : Keeps 0x4000000000000000000000000000000000000000000000040000000000000000000000004000000000000000000000000000000000000000100 a2 a2 := Keeps.refl _
  unfold bankSwitchCmd
  repeat' first
    | with_reducible assumption
    | intro _
    | (extract_lets +onlyGivenNames x; refine Keeps.cut x ?_ (fun hx => ?_); (revert x; show Keeps _ _ _); on_goal 2 => clear_value x)
    | (extract_lets +onlyGivenNames x; clear_value x)
    | with_reducible apply Keeps.step (keeps_State_log _ _ _)
    | with_reducible apply Keeps.step (keeps_State_modChain _ _ _)
    | with_reducible apply Keeps.step (keeps_countImplausible _ _)
    | with_reducible apply Keeps.ite
    | with_reducible apply Keeps.iteP
    | with_reducible decide
    | split

theorem keeps_execBankSwitch : ∀ a0 a1 a2 a3, KeepsR 0x140038000000000000000000000000000004000000000000000000000000000000000000000000000040000000000000000000000004009000000000000000000000000000000000000140 a3 (execBankSwitch a0 a1 a2 a3) := by
  intro a0 a1 a2 a3
  have h0 : Keeps 0x140038000000000000000000000000000004000000000000000000000000000000000000000000000040000000000000000000000004009000000000000000000000000000000000000140 a3 a3 := Keeps.refl _
  unfold execBankSwitch
  repeat' first
    | with_reducible assumption
    | intro _
    | with_reducible apply Keeps.accepted
    | with_reducible apply KeepsR.next
    | with_reducible apply Keeps.step (keeps_bankSwitchCmd _ _ _)
    | with_reducible apply Keeps.owned
    | with_reducible apply Keeps.request
    | with_reducible decide

theorem keeps_execBankFadeEnd : ∀ a0 a1, KeepsR 0x4000000000000000000000000000000000000000000000000000000000000000000000000000000000000000000000000000000020000000000 a1 (execBankFadeEnd a0 a1) := by
  intro a0 a1
  have h0 : Keeps 0x4000000000000000000000000000000000000000000000000000000000000000000000000000000000000000000000000000000020000000000 a1 a1 := Keeps.refl _
  unfold execBankFadeEnd
  repeat' first
    | with_reducible assumption
    | intro _
    | with_reducible apply Keeps.accepted
    | with_reducible apply KeepsR.next
    | with_reducible apply KeepsR.ite
    | (extract_lets +onlyGivenNames x; refine Keeps.cut x ?_ (fun hx => ?_); (revert x; show Keeps _ _ _); on_goal 2 => clear_value x)
    | (extract_lets +onlyGivenNames x; clear_value x)
    | with_reducible apply Keeps.step (keeps_State_modChain _ _ _)
    | with_reducible apply Keeps.on
    | with_reducible apply Keeps.setBit .ACQ_FC_STATUS (group_ACQ_FC_STATUS _)
    | with_reducible apply Keeps.ite
    | with_reducible apply Keeps.iteP
    | with_reducible decide
    | with_reducible refine Keeps.of_eq (by assumption) ?_
    | split

theorem keeps_acqCheck : ∀ a0, Keeps 0x2000000000004001800000000007400048000310000c0d00000006e0007cc1d9f0a4b33e700000000000000000080010014020004000200000100020981a0201000100e07c000000140 a0 (acqCheck a0) := by
  intro a0
  have h0 : Keeps 0x2000000000004001800000000007400048000310000c0d00000006e0007cc1d9f0a4b33e700000000000000000080010014020004000200000100020981a0201000100e07c000000140 a0 a0 := Keeps.refl _
  unfold acqCheck
  repeat' first
    | with_reducible assumption
    | intro _
    | (extract_lets +onlyGivenNames x; refine Keeps.cut x ?_ (fun hx => ?_); (revert x; show Keeps _ _ _); on_goal 2 => clear_value x)
    | (extract_lets +onlyGivenNames x; clear_value x)
    | with_reducible apply Keeps.step (keeps_State_log _ _ _)
    | with_reducible apply Keeps.step (keeps_State_modChain _ _ _)
    | with_reducible apply Keeps.setBit .ACQ_FC_STATUS (group_ACQ_FC_STATUS _)
    | with_reducible apply Keeps.step (keeps_showChain _ _)
    | with_reducible apply Keeps.step (keeps_stageSafe _ _ _)
    | with_reducible apply Keeps.foldl
    | with_reducible apply Keeps.foldlP
    | with_reducible apply Keeps.ite
    | with_reducible apply Keeps.iteP
    | with_reducible decide
    | with_reducible refine Keeps.of_eq (by assumption) ?_
    | split

end Sys2Proof.Machine
end

