-- ==== Sys2Proof/Laws/KeepsGallery.lean ====
section
/-!
SUPPORT. What each operation of Machine/Gallery.lean may change.
-/

set_option linter.unusedTactic false
set_option linter.tactic.unusedName false
set_option linter.unreachableTactic false

namespace Sys2Proof.Machine

theorem keeps_execTriggerHoldoffEnd : ∀ a0 a1, KeepsR 0x38000000000000000000000000000000000000000000000000000000000000000000000000000000000000000000181000000000000000000000000 a1 (execTriggerHoldoffEnd a0 a1) := by
  intro a0 a1
  have h0 : Keeps 0x38000000000000000000000000000000000000000000000000000000000000000000000000000000000000000000181000000000000000000000000 a1 a1 := Keeps.refl _
  unfold execTriggerHoldoffEnd
  repeat' first
    | with_reducible assumption
    | ((with_reducible refine GalField.upd_of ?_); intro i x hi; cases i <;> first | exact Keeps.no rfl hi | exact rfl | (split <;> rfl) | ((repeat' split) <;> rfl))
    | intro _
    | with_reducible apply Keeps.accepted
    | with_reducible apply KeepsR.next
    | with_reducible refine Keeps.modGal ?_ ?_
    | with_reducible apply Keeps.on
    | with_reducible apply Keeps.step (keeps_showGallery _ _)
    | with_reducible decide
    | with_reducible refine Keeps.of_eq (by assumption) ?_
    | split

theorem keeps_armTrigger : ∀ a0 a1, Keeps 0x38000000000000000000000000000000000000000000000000000000000000000000000000000000000000000000181400000000000000000000000 a1 (armTrigger a0 a1).2 := by
  intro a0 a1
  have h0 : Keeps 0x38000000000000000000000000000000000000000000000000000000000000000000000000000000000000000000181400000000000000000000000 a1 a1 := Keeps.refl _
  unfold armTrigger
  repeat' first
    | with_reducible assumption
    | ((with_reducible refine GalField.upd_of ?_); intro i x hi; cases i <;> first | exact Keeps.no rfl hi | exact rfl | (split <;> rfl) | ((repeat' split) <;> rfl))
    | intro _
    | (extract_lets +onlyGivenNames x; refine Keeps.cut x ?_ (fun hx => ?_); (revert x; show Keeps _ _ _); on_goal 2 => clear_value x)
    | (extract_lets +onlyGivenNames x; clear_value x)
    | with_reducible refine Keeps.modGal ?_ ?_
    | with_reducible apply Keeps.setBit .GAL_CONFIG (group_GAL_CONFIG _)
    | with_reducible apply Keeps.step (keeps_showGallery _ _)
    | with_reducible apply Keeps.ite
    | with_reducible apply Keeps.iteP
    | with_reducible decide
    | split

theorem keeps_execTriggerArm : ∀ a0 a1 a2, KeepsR 0x140038000000000000000000000000038000000000000000000000000000000000000000000000000000000000000000000000000000009000000000000181400000000000000000000040 a2 (execTriggerArm a0 a1 a2) := by
  intro a0 a1 a2
  have h0 : Keeps 0x140038000000000000000000000000038000000000000000000000000000000000000000000000000000000000000000000000000000009000000000000181400000000000000000000040 a2 a2 := Keeps.refl _
  unfold execTriggerArm
  repeat' first
    | with_reducible assumption
    | intro _
    | with_reducible apply Keeps.accepted
    | with_reducible apply KeepsR.next
    | with_reducible apply Keeps.step (keeps_armTrigger _ _)
    | with_reducible apply Keeps.owned
    | with_reducible apply Keeps.request
    | with_reducible decide

theorem keeps_rateRefused : ∀ a0 a1 a2 a3, Keeps 0x4000000000000000080000000000000000000000100 a3 (rateRefused a0 a1 a2 a3) := by
  intro a0 a1 a2 a3
  have h0 : Keeps 0x4000000000000000080000000000000000000000100 a3 a3 := Keeps.refl _
  unfold rateRefused
  repeat' first
    | with_reducible assumption
    | intro _
    | with_reducible apply Keeps.step (keeps_State_log _ _ _)
    | with_reducible apply Keeps.setBit .GAL_STATUS (group_GAL_STATUS _)
    | with_reducible decide

theorem keeps_enableStream : ∀ a0 a1, Keeps 0x340000000000000000000000000000000000000000000000000000000000000000000000000004000000000000000181400000000000000000000100 a1 (enableStream a0 a1).2 := by
  intro a0 a1
  have h0 : Keeps 0x340000000000000000000000000000000000000000000000000000000000000000000000000004000000000000000181400000000000000000000100 a1 a1 := Keeps.refl _
  unfold enableStream
  repeat' first
    | with_reducible assumption
    | ((with_reducible refine GalField.upd_of ?_); intro i x hi; cases i <;> first | exact Keeps.no rfl hi | exact rfl | (split <;> rfl) | ((repeat' split) <;> rfl))
    | intro _
    | (extract_lets +onlyGivenNames x; refine Keeps.cut x ?_ (fun hx => ?_); (revert x; show Keeps _ _ _); on_goal 2 => clear_value x)
    | (extract_lets +onlyGivenNames x; clear_value x)
    | with_reducible refine Keeps.modGal ?_ ?_
    | with_reducible apply Keeps.setBit .GAL_STATUS (group_GAL_STATUS _)
    | with_reducible apply Keeps.setBit .GAL_CONFIG (group_GAL_CONFIG _)
    | with_reducible apply Keeps.step (keeps_rateRefused _ _ _ _)
    | with_reducible apply Keeps.step (keeps_showGallery _ _)
    | with_reducible apply Keeps.ite
    | with_reducible apply Keeps.iteP
    | with_reducible decide
    | split

theorem keeps_execStreamEnable : ∀ a0 a1 a2, KeepsR 0x140038000000000000000000000000340000000000000000000000000000000000000000000000000000000000000000000000000004009000000000000181400000000000000000000140 a2 (execStreamEnable a0 a1 a2) := by
  intro a0 a1 a2
  have h0 : Keeps 0x140038000000000000000000000000340000000000000000000000000000000000000000000000000000000000000000000000000004009000000000000181400000000000000000000140 a2 a2 := Keeps.refl _
  unfold execStreamEnable
  repeat' first
    | with_reducible assumption
    | intro _
    | with_reducible apply Keeps.accepted
    | with_reducible apply KeepsR.next
    | with_reducible apply Keeps.step (keeps_enableStream _ _)
    | with_reducible apply Keeps.owned
    | with_reducible apply Keeps.request
    | with_reducible decide

theorem keeps_execDatagramAgeTimeout : ∀ a0 a1, KeepsR 0x740000000000000000000000000000000000000000000000000000000000000000000000000000000000000000000080800000000000000000000040 a1 (execDatagramAgeTimeout a0 a1) := by
  intro a0 a1
  have h0 : Keeps 0x740000000000000000000000000000000000000000000000000000000000000000000000000000000000000000000080800000000000000000000040 a1 a1 := Keeps.refl _
  unfold execDatagramAgeTimeout
  repeat' first
    | with_reducible assumption
    | intro _
    | with_reducible apply Keeps.accepted
    | with_reducible apply KeepsR.next
    | with_reducible apply KeepsR.ite
    | with_reducible apply Keeps.on
    | with_reducible apply Keeps.step (keeps_sendDatagram _ _)
    | with_reducible apply Keeps.ite
    | with_reducible apply Keeps.iteP
    | with_reducible decide
    | split

theorem keeps_selectGalRecord : ∀ a0 a1 a2, Keeps 0x800000000000000000000000000000000000000000000000000000000000000000000000000000000000000000000000000000000000000000000000 a2 (selectGalRecord a0 a1 a2).2 := by
  intro a0 a1 a2
  have h0 : Keeps 0x800000000000000000000000000000000000000000000000000000000000000000000000000000000000000000000000000000000000000000000000 a2 a2 := Keeps.refl _
  unfold selectGalRecord
  repeat' first
    | with_reducible assumption
    | ((with_reducible refine GalField.upd_of ?_); intro i x hi; cases i <;> first | exact Keeps.no rfl hi | exact rfl | (split <;> rfl) | ((repeat' split) <;> rfl))
    | intro _
    | with_reducible refine Keeps.modGal ?_ ?_
    | with_reducible decide

theorem keeps_execGalleryRead : ∀ a0 a1 a2 a3, KeepsR 0x140038000000000000000000000000800000000000000000000000000000000000000000000000000000000000000000000000000000009000000000000000000000000000000000000040 a3 (execGalleryRead a0 a1 a2 a3) := by
  intro a0 a1 a2 a3
  have h0 : Keeps 0x140038000000000000000000000000800000000000000000000000000000000000000000000000000000000000000000000000000000009000000000000000000000000000000000000040 a3 a3 := Keeps.refl _
  unfold execGalleryRead
  repeat' first
    | with_reducible assumption
    | intro _
    | with_reducible apply Keeps.accepted
    | with_reducible apply KeepsR.next
    | with_reducible apply KeepsR.ite
    | (extract_lets +onlyGivenNames x; refine Keeps.cut x ?_ (fun hx => ?_); (revert x; show Keeps _ _ _); on_goal 2 => clear_value x)
    | (extract_lets +onlyGivenNames x; clear_value x)
    | with_reducible apply Keeps.step (keeps_State_send _ _ _ _)
    | with_reducible apply Keeps.request
    | with_reducible apply Keeps.step (keeps_selectGalRecord _ _ _)
    | with_reducible apply Keeps.ite
    | with_reducible apply Keeps.iteP
    | with_reducible decide
    | with_reducible refine Keeps.of_eq (by assumption) ?_
    | split

end Sys2Proof.Machine
end

