-- ==== Sys2Proof/Laws/KeepsClocks.lean ====
section
/-!
SUPPORT. What each operation of Machine/Clocks.lean may change.
-/

set_option linter.unusedTactic false
set_option linter.tactic.unusedName false
set_option linter.unreachableTactic false

namespace Sys2Proof.Machine

theorem keeps_showClocks : ∀ a0, Keeps 0x80000000000000000000000000000000000000000000000000000000000000 a0 (showClocks a0) := by
  intro a0
  have h0 : Keeps 0x80000000000000000000000000000000000000000000000000000000000000 a0 a0 := Keeps.refl _
  unfold showClocks
  repeat' first
    | with_reducible assumption
    | intro _
    | (extract_lets +onlyGivenNames x; clear_value x)
    | with_reducible apply Keeps.setBit .TIM_STATUS group_TIM_STATUS
    | with_reducible apply Keeps.setField .TIM_STATUS group_TIM_STATUS
    | with_reducible apply Keeps.ite
    | with_reducible apply Keeps.iteP
    | with_reducible decide
    | with_reducible refine Keeps.of_eq (by assumption) ?_
    | split

theorem keeps_switchRef : ∀ a0 a1 a2, Keeps 0x24000000000000000000000000000000000000000000000000000000000080000000000000000004000000000000000000000000000000000000000100 a2 (switchRef a0 a1 a2) := by
  intro a0 a1 a2
  have h0 : Keeps 0x24000000000000000000000000000000000000000000000000000000000080000000000000000004000000000000000000000000000000000000000100 a2 a2 := Keeps.refl _
  unfold switchRef
  repeat' first
    | with_reducible assumption
    | ((with_reducible refine ClkField.upd_of ?_); intro i x hi; cases i <;> first | exact Keeps.no rfl hi | exact rfl | (split <;> rfl) | ((repeat' split) <;> rfl))
    | intro _
    | with_reducible apply Keeps.step (keeps_State_log _ _ _)
    | with_reducible refine Keeps.modClk ?_ ?_
    | with_reducible apply Keeps.step (keeps_showClocks _)
    | with_reducible apply Keeps.ite
    | with_reducible apply Keeps.iteP
    | with_reducible decide
    | split

theorem keeps_enterRefHoldover : ∀ a0, Keeps 0x8200000000000000000000000000000000000018000010000000000003c0080000000010000000004000000000000000000000000000000000000000100 a0 (enterRefHoldover a0) := by
  intro a0
  have h0 : Keeps 0x8200000000000000000000000000000000000018000010000000000003c0080000000010000000004000000000000000000000000000000000000000100 a0 a0 := Keeps.refl _
  unfold enterRefHoldover
  repeat' first
    | with_reducible assumption
    | ((with_reducible refine ClkField.upd_of ?_); intro i x hi; cases i <;> first | exact Keeps.no rfl hi | exact rfl | (split <;> rfl) | ((repeat' split) <;> rfl))
    | intro _
    | (extract_lets +onlyGivenNames x; refine Keeps.cut x ?_ (fun hx => ?_); (revert x; show Keeps _ _ _); on_goal 2 => clear_value x)
    | (extract_lets +onlyGivenNames x; clear_value x)
    | with_reducible apply Keeps.step (keeps_State_log _ _ _)
    | with_reducible refine Keeps.modClk ?_ ?_
    | with_reducible apply Keeps.step (keeps_baseHoldover _ _ _)
    | with_reducible apply Keeps.step (keeps_claimReview _ _)
    | with_reducible apply Keeps.step (keeps_showClocks _)
    | with_reducible apply Keeps.foldl
    | with_reducible apply Keeps.foldlP
    | with_reducible decide

theorem keeps_refFault : ∀ a0 a1 a2, Keeps 0x8270000000000000000000000000000000000018000010000000000003c0080000000010000000004000000000000000000000000000000000000000100 a2 (refFault a0 a1 a2) := by
  intro a0 a1 a2
  have h0 : Keeps 0x8270000000000000000000000000000000000018000010000000000003c0080000000010000000004000000000000000000000000000000000000000100 a2 a2 := Keeps.refl _
  unfold refFault
  repeat' first
    | with_reducible assumption
    | ((with_reducible refine ClkField.upd_of ?_); intro i x hi; cases i <;> first | exact Keeps.no rfl hi | exact rfl | (split <;> rfl) | ((repeat' split) <;> rfl))
    | intro _
    | (extract_lets +onlyGivenNames x; refine Keeps.cut x ?_ (fun hx => ?_); (revert x; show Keeps _ _ _); on_goal 2 => clear_value x)
    | (extract_lets +onlyGivenNames x; clear_value x)
    | with_reducible refine Keeps.modClk ?_ ?_
    | with_reducible apply Keeps.step (keeps_enterRefHoldover _)
    | with_reducible apply Keeps.step (keeps_showClocks _)
    | with_reducible apply Keeps.step (keeps_switchRef _ _ _)
    | with_reducible apply Keeps.ite
    | with_reducible apply Keeps.iteP
    | with_reducible decide
    | with_reducible refine Keeps.of_eq (by assumption) ?_
    | split

theorem keeps_execReferenceLost : ∀ a0 a1, KeepsR 0x2000000000004001800001408277400008000310000c0d00000006e0007cc1d9f0a4b33e7000200003d0080000080010014020004000600000100020981a0201000100e000000000140 a1 (execReferenceLost a0 a1) := by
  intro a0 a1
  have h0 : Keeps 0x2000000000004001800001408277400008000310000c0d00000006e0007cc1d9f0a4b33e7000200003d0080000080010014020004000600000100020981a0201000100e000000000140 a1 a1 := Keeps.refl _
  unfold execReferenceLost
  repeat' first
    | with_reducible assumption
    | intro _
    | with_reducible apply Keeps.accepted
    | with_reducible apply KeepsR.next
    | with_reducible apply KeepsR.ite
    | with_reducible apply Keeps.step (keeps_lockReview _)
    | with_reducible apply Keeps.step (keeps_refFault _ _ _)
    | with_reducible apply Keeps.ite
    | with_reducible apply Keeps.iteP
    | with_reducible decide
    | split

theorem keeps_execRefHoldoverEnd : ∀ a0 a1, KeepsR 0x2000000000004001800001400217400008000310000c0d00000006e0007cc1d9f0a4b33e700020000010080000080010014020004000600000100020981a0201000100e000000000140 a1 (execRefHoldoverEnd a0 a1) := by
  intro a0 a1
  have h0 : Keeps 0x2000000000004001800001400217400008000310000c0d00000006e0007cc1d9f0a4b33e700020000010080000080010014020004000600000100020981a0201000100e000000000140 a1 a1 := Keeps.refl _
  unfold execRefHoldoverEnd
  repeat' first
    | with_reducible assumption
    | ((with_reducible refine ClkField.upd_of ?_); intro i x hi; cases i <;> first | exact Keeps.no rfl hi | exact rfl | (split <;> rfl) | ((repeat' split) <;> rfl))
    | intro _
    | with_reducible apply Keeps.accepted
    | with_reducible apply KeepsR.next
    | with_reducible apply KeepsR.ite
    | with_reducible apply Keeps.step (keeps_State_log _ _ _)
    | with_reducible refine Keeps.modClk ?_ ?_
    | with_reducible apply Keeps.step (keeps_lockReview _)
    | with_reducible apply Keeps.step (keeps_showClocks _)
    | with_reducible apply Keeps.ite
    | with_reducible apply Keeps.iteP
    | with_reducible decide
    | split

theorem keeps_checkStep : ∀ a0 a1 a2, Keeps 0x8270000000000000000000000000000000000018000010000000000003c0080000000010000000004000000000000000000000000000000000000000100 a1 (checkStep a0 a1 a2) := by
  intro a0 a1 a2
  have h0 : Keeps 0x8270000000000000000000000000000000000018000010000000000003c0080000000010000000004000000000000000000000000000000000000000100 a1 a1 := Keeps.refl _
  unfold checkStep
  repeat' first
    | with_reducible assumption
    | intro _
    | with_reducible apply Keeps.step (keeps_State_log _ _ _)
    | with_reducible apply Keeps.step (keeps_refFault _ _ _)
    | with_reducible apply Keeps.ite
    | with_reducible apply Keeps.iteP
    | with_reducible decide
    | split

theorem keeps_freqCheck : ∀ a0 a1 a2, Keeps 0x8270000000000000000000000000000000000018000010000000000003c00c0000000010000000004000000000000000000000000000000000000000100 a2 (freqCheck a0 a1 a2) := by
  intro a0 a1 a2
  have h0 : Keeps 0x8270000000000000000000000000000000000018000010000000000003c00c0000000010000000004000000000000000000000000000000000000000100 a2 a2 := Keeps.refl _
  unfold freqCheck
  repeat' first
    | with_reducible assumption
    | intro _
    | (extract_lets +onlyGivenNames x; refine Keeps.cut x ?_ (fun hx => ?_); (revert x; show Keeps _ _ _); on_goal 2 => clear_value x)
    | (extract_lets +onlyGivenNames x; clear_value x)
    | with_reducible apply Keeps.step (keeps_State_log _ _ _)
    | with_reducible apply Keeps.setBit .TIM_STATUS group_TIM_STATUS
    | with_reducible apply Keeps.setR .TIM_REF_DEV (group_TIM_REF_DEV _ (by first | omega | (simp only [List.mem_range, List.mem_cons, List.not_mem_nil, or_false] at *; omega)))
    | with_reducible apply Keeps.step (keeps_checkStep _ _ _)
    | with_reducible apply Keeps.step (keeps_refFault _ _ _)
    | with_reducible apply Keeps.foldl_mem
    | with_reducible apply Keeps.ite
    | with_reducible apply Keeps.iteP
    | with_reducible decide
    | split

theorem keeps_execReferenceFreqCheck : ∀ a0 a1 a2, KeepsR 0x20000000000040018000014082f7400008000310000c0d00000006e0007cc1d9f0a4b33e7000200003d00c0000080010014020004000600000100020981a0201000100e000000000140 a2 (execReferenceFreqCheck a0 a1 a2) := by
  intro a0 a1 a2
  have h0 : Keeps 0x20000000000040018000014082f7400008000310000c0d00000006e0007cc1d9f0a4b33e7000200003d00c0000080010014020004000600000100020981a0201000100e000000000140 a2 a2 := Keeps.refl _
  unfold execReferenceFreqCheck
  repeat' first
    | with_reducible assumption
    | ((with_reducible refine ClkField.upd_of ?_); intro i x hi; cases i <;> first | exact Keeps.no rfl hi | exact rfl | (split <;> rfl) | ((repeat' split) <;> rfl))
    | intro _
    | with_reducible apply Keeps.accepted
    | with_reducible apply KeepsR.next
    | with_reducible apply KeepsR.ite
    | with_reducible refine Keeps.modClk ?_ ?_
    | with_reducible apply Keeps.step (keeps_freqCheck _ _ _)
    | with_reducible apply Keeps.step (keeps_lockReview _)
    | with_reducible apply Keeps.ite
    | with_reducible apply Keeps.iteP
    | with_reducible decide
    | split

theorem keeps_execReferenceHealthy : ∀ a0 a1, KeepsR 0x2000000000004001800001400257400008000310000c0d00000006e0007cc1d9f0a4b33e700020000010080000080010014020004000600000100020981a0201000100e000000000140 a1 (execReferenceHealthy a0 a1) := by
  intro a0 a1
  have h0 : Keeps 0x2000000000004001800001400257400008000310000c0d00000006e0007cc1d9f0a4b33e700020000010080000080010014020004000600000100020981a0201000100e000000000140 a1 a1 := Keeps.refl _
  unfold execReferenceHealthy
  repeat' first
    | with_reducible assumption
    | ((with_reducible refine ClkField.upd_of ?_); intro i x hi; cases i <;> first | exact Keeps.no rfl hi | exact rfl | (split <;> rfl) | ((repeat' split) <;> rfl))
    | intro _
    | with_reducible apply Keeps.accepted
    | with_reducible apply KeepsR.next
    | with_reducible apply KeepsR.ite
    | (extract_lets +onlyGivenNames x; refine Keeps.cut x ?_ (fun hx => ?_); (revert x; show Keeps _ _ _); on_goal 2 => clear_value x)
    | (extract_lets +onlyGivenNames x; clear_value x)
    | with_reducible refine Keeps.modClk ?_ ?_
    | with_reducible apply Keeps.step (keeps_lockReview _)
    | with_reducible apply Keeps.step (keeps_showClocks _)
    | with_reducible apply Keeps.step (keeps_switchRef _ _ _)
    | with_reducible apply Keeps.ite
    | with_reducible apply Keeps.iteP
    | with_reducible decide
    | split

theorem keeps_revertRef : ∀ a0, Keeps 0x24000000000000000000000000000000000000000000000000000000000080000000000000000004000000000000000000000000000000000000000100 a0 (revertRef a0) := by
  intro a0
  have h0 : Keeps 0x24000000000000000000000000000000000000000000000000000000000080000000000000000004000000000000000000000000000000000000000100 a0 a0 := Keeps.refl _
  unfold revertRef
  repeat' first
    | with_reducible assumption
    | intro _
    | (extract_lets +onlyGivenNames x; clear_value x)
    | extract_lets +onlyGivenNames x
    | with_reducible apply Keeps.step (keeps_switchRef _ _ _)
    | with_reducible apply Keeps.ite
    | with_reducible apply Keeps.iteP
    | with_reducible decide
    | split

theorem keeps_execRevertRef : ∀ a0 a1, KeepsR 0x1402380000000004001800001400247400008000310000c0d00000006e0007cc1d9f0a4b33e700020000010080000080010014020004009600000100020981a0201000100e000000000140 a1 (execRevertRef a0 a1) := by
  intro a0 a1
  have h0 : Keeps 0x1402380000000004001800001400247400008000310000c0d00000006e0007cc1d9f0a4b33e700020000010080000080010014020004009600000100020981a0201000100e000000000140 a1 a1 := Keeps.refl _
  unfold execRevertRef
  repeat' first
    | with_reducible assumption
    | intro _
    | with_reducible apply Keeps.accepted
    | with_reducible apply KeepsR.next
    | with_reducible apply Keeps.step (keeps_lockReview _)
    | with_reducible apply Keeps.owned
    | with_reducible apply Keeps.request
    | with_reducible apply Keeps.step (keeps_revertRef _)
    | with_reducible decide

theorem keeps_reviewNta : ∀ a0 a1, Keeps 0x1800001000000000000000000000000010000000004000000000000000000000000000000000000000100 a1 (reviewNta a0 a1) := by
  intro a0 a1
  have h0 : Keeps 0x1800001000000000000000000000000010000000004000000000000000000000000000000000000000100 a1 a1 := Keeps.refl _
  unfold reviewNta
  repeat' first
    | with_reducible assumption
    | intro _
    | with_reducible apply Keeps.step (keeps_claimReview _ _)
    | with_reducible apply Keeps.foldl
    | with_reducible apply Keeps.foldlP
    | with_reducible apply Keeps.ite
    | with_reducible apply Keeps.iteP
    | with_reducible decide
    | split

theorem keeps_noteMaster : ∀ a0 a1 a2, Keeps 0x800000000000000000000000000000000000000000000000000000000000004000000000000000004000000000000000000000000000000000000000100 a2 (noteMaster a0 a1 a2) := by
  intro a0 a1 a2
  have h0 : Keeps 0x800000000000000000000000000000000000000000000000000000000000004000000000000000004000000000000000000000000000000000000000100 a2 a2 := Keeps.refl _
  unfold noteMaster
  repeat' first
    | with_reducible assumption
    | intro _
    | (extract_lets +onlyGivenNames x; refine Keeps.cut x ?_ (fun hx => ?_); (revert x; show Keeps _ _ _); on_goal 2 => clear_value x)
    | (extract_lets +onlyGivenNames x; clear_value x)
    | with_reducible apply Keeps.step (keeps_State_log _ _ _)
    | with_reducible apply Keeps.step (keeps_State_modBase _ _ _)
    | with_reducible apply Keeps.setN .TIM_NTA_GM_ID (group_TIM_NTA_GM_ID _)
    | with_reducible apply Keeps.ite
    | with_reducible apply Keeps.iteP
    | with_reducible decide
    | split

theorem keeps_becomeMaster : ∀ a0 a1, Keeps 0x8000000000000000000000000000000000000018000010000000000003c0094000000010000000004000000000000000000000000000000000000000100 a1 (becomeMaster a0 a1) := by
  intro a0 a1
  have h0 : Keeps 0x8000000000000000000000000000000000000018000010000000000003c0094000000010000000004000000000000000000000000000000000000000100 a1 a1 := Keeps.refl _
  unfold becomeMaster
  repeat' first
    | with_reducible assumption
    | intro _
    | (extract_lets +onlyGivenNames x; refine Keeps.cut x ?_ (fun hx => ?_); (revert x; show Keeps _ _ _); on_goal 2 => clear_value x)
    | (extract_lets +onlyGivenNames x; clear_value x)
    | with_reducible apply Keeps.step (keeps_State_log _ _ _)
    | with_reducible apply Keeps.step (keeps_State_modBase _ _ _)
    | with_reducible apply Keeps.setN .TIM_NTA_STEPS_REMOVED (group_TIM_NTA_STEPS_REMOVED _)
    | with_reducible apply Keeps.step (keeps_noteMaster _ _ _)
    | with_reducible apply Keeps.step (keeps_reviewNta _ _)
    | with_reducible apply Keeps.step (keeps_showBase _ _)
    | with_reducible apply Keeps.ite
    | with_reducible apply Keeps.iteP
    | with_reducible decide
    | split

theorem keeps_domainReview : ∀ a0 a1, Keeps 0x8000000000000000000000000000000000000018000010000000000003c0094000000010000000004000000000000000000000000000000000000000100 a1 (domainReview a0 a1) := by
  intro a0 a1
  have h0 : Keeps 0x8000000000000000000000000000000000000018000010000000000003c0094000000010000000004000000000000000000000000000000000000000100 a1 a1 := Keeps.refl _
  unfold domainReview
  repeat' first
    | with_reducible assumption
    | intro _
    | with_reducible apply Keeps.step (keeps_State_modBase _ _ _)
    | with_reducible apply Keeps.step (keeps_becomeMaster _ _)
    | with_reducible apply Keeps.step (keeps_reviewNta _ _)
    | with_reducible apply Keeps.step (keeps_showBase _ _)
    | with_reducible apply Keeps.ite
    | with_reducible apply Keeps.iteP
    | with_reducible decide
    | split

theorem keeps_acquireStep : ∀ a0 a1 a2, Keeps 0x8000000000000000000000000000000000000018000010000000000003c0080000000010000000004000000000000000000000000000000000000000100 a2 (acquireStep a0 a1 a2) := by
  intro a0 a1 a2
  have h0 : Keeps 0x8000000000000000000000000000000000000018000010000000000003c0080000000010000000004000000000000000000000000000000000000000100 a2 a2 := Keeps.refl _
  unfold acquireStep
  repeat' first
    | with_reducible assumption
    | intro _
    | (extract_lets +onlyGivenNames x; refine Keeps.cut x ?_ (fun hx => ?_); (revert x; show Keeps _ _ _); on_goal 2 => clear_value x)
    | (extract_lets +onlyGivenNames x; clear_value x)
    | with_reducible apply Keeps.step (keeps_State_log _ _ _)
    | with_reducible apply Keeps.step (keeps_State_modBase _ _ _)
    | with_reducible apply Keeps.step (keeps_reviewNta _ _)
    | with_reducible apply Keeps.step (keeps_showBase _ _)
    | with_reducible decide

theorem keeps_baseMeasured : ∀ a0 a1 a2 a3, Keeps 0x800000000000000000000000000000000000000000000000000000000000000000000000000000004000000000000000000000000000000000000000100 a3 (baseMeasured a0 a1 a2 a3) := by
  intro a0 a1 a2 a3
  have h0 : Keeps 0x800000000000000000000000000000000000000000000000000000000000000000000000000000004000000000000000000000000000000000000000100 a3 a3 := Keeps.refl _
  unfold baseMeasured
  repeat' first
    | with_reducible assumption
    | intro _
    | (extract_lets +onlyGivenNames x; clear_value x)
    | with_reducible apply Keeps.step (keeps_State_log _ _ _)
    | with_reducible apply Keeps.step (keeps_State_modBase _ _ _)
    | with_reducible apply Keeps.ite
    | with_reducible apply Keeps.iteP
    | with_reducible decide
    | split

theorem keeps_measure : ∀ a0 a1 a2 a3 a4, Keeps 0x8000000000000000000000000000000000000018000010000000000003c0080000000010000000004000000000000000000000000000000000000000100 a4 (measure a0 a1 a2 a3 a4) := by
  intro a0 a1 a2 a3 a4
  have h0 : Keeps 0x8000000000000000000000000000000000000018000010000000000003c0080000000010000000004000000000000000000000000000000000000000100 a4 a4 := Keeps.refl _
  unfold measure
  repeat' first
    | with_reducible assumption
    | intro _
    | (extract_lets +onlyGivenNames x; refine Keeps.cut x ?_ (fun hx => ?_); (revert x; show Keeps _ _ _); on_goal 2 => clear_value x)
    | (extract_lets +onlyGivenNames x; clear_value x)
    | with_reducible apply Keeps.step (keeps_State_modBase _ _ _)
    | with_reducible apply Keeps.step (keeps_acquireStep _ _ _)
    | with_reducible apply Keeps.step (keeps_baseMeasured _ _ _ _)
    | with_reducible apply Keeps.step (keeps_reviewNta _ _)
    | with_reducible apply Keeps.step (keeps_showBase _ _)
    | with_reducible apply Keeps.ite
    | with_reducible apply Keeps.iteP
    | with_reducible decide
    | with_reducible refine Keeps.of_eq (by assumption) ?_
    | split

theorem keeps_execPtpSyncReceived : ∀ a0 a1 a2, KeepsR 0x8000000000000000000000000000000000000018000010000000000003c0086000000010000000004000000000000000000000000000000000000000100 a2 (execPtpSyncReceived a0 a1 a2) := by
  intro a0 a1 a2
  have h0 : Keeps 0x8000000000000000000000000000000000000018000010000000000003c0086000000010000000004000000000000000000000000000000000000000100 a2 a2 := Keeps.refl _
  unfold execPtpSyncReceived
  repeat' first
    | with_reducible assumption
    | intro _
    | with_reducible apply Keeps.accepted
    | with_reducible apply KeepsR.next
    | with_reducible apply KeepsR.ite
    | with_reducible apply Keeps.bump .TIM_NTA_DISCARDED (group_TIM_NTA_DISCARDED _)
    | with_reducible apply Keeps.step (keeps_measure _ _ _ _ _)
    | with_reducible apply Keeps.step (keeps_noteMaster _ _ _)
    | with_reducible apply Keeps.ite
    | with_reducible apply Keeps.iteP
    | with_reducible decide
    | with_reducible refine Keeps.of_eq (by assumption) ?_
    | split

theorem keeps_execSyncLossTimeout : ∀ a0 a1, KeepsR 0x8000000000000000000000000000000000000018000010000000000003c0080000000010000000004000000000000000000000000000000000000000100 a1 (execSyncLossTimeout a0 a1) := by
  intro a0 a1
  have h0 : Keeps 0x8000000000000000000000000000000000000018000010000000000003c0080000000010000000004000000000000000000000000000000000000000100 a1 a1 := Keeps.refl _
  unfold execSyncLossTimeout
  repeat' first
    | with_reducible assumption
    | intro _
    | with_reducible apply Keeps.accepted
    | with_reducible apply KeepsR.next
    | with_reducible apply KeepsR.ite
    | (extract_lets +onlyGivenNames x; clear_value x)
    | with_reducible apply Keeps.step (keeps_baseHoldover _ _ _)
    | with_reducible apply Keeps.step (keeps_reviewNta _ _)
    | with_reducible apply Keeps.ite
    | with_reducible apply Keeps.iteP
    | with_reducible decide
    | split

theorem keeps_segmentUpdate : ∀ a0 a1, Keeps 0x8000000000000000000000000000000000000000000000000000000003c0080000000000000000000000000000000000000000000000000000000000000 a1 (segmentUpdate a0 a1) := by
  intro a0 a1
  have h0 : Keeps 0x8000000000000000000000000000000000000000000000000000000003c0080000000000000000000000000000000000000000000000000000000000000 a1 a1 := Keeps.refl _
  unfold segmentUpdate
  repeat' first
    | with_reducible assumption
    | intro _
    | (extract_lets +onlyGivenNames x; refine Keeps.cut x ?_ (fun hx => ?_); (revert x; show Keeps _ _ _); on_goal 2 => clear_value x)
    | (extract_lets +onlyGivenNames x; clear_value x)
    | with_reducible apply Keeps.step (keeps_State_modBase _ _ _)
    | with_reducible apply Keeps.setBit .BASE_STATUS (group_statusKey _)
    | with_reducible apply Keeps.step (keeps_showBase _ _)
    | with_reducible apply Keeps.ite
    | with_reducible apply Keeps.iteP
    | with_reducible decide
    | split

theorem keeps_execSegmentUpdate : ∀ a0 a1, KeepsR 0x8000000000000000000000000000000000000000000000000000000003c0080000000000000000000000000000000000000000000000000000000000000 a1 (execSegmentUpdate a0 a1) := by
  intro a0 a1
  have h0 : Keeps 0x8000000000000000000000000000000000000000000000000000000003c0080000000000000000000000000000000000000000000000000000000000000 a1 a1 := Keeps.refl _
  unfold execSegmentUpdate
  repeat' first
    | with_reducible assumption
    | intro _
    | with_reducible apply Keeps.accepted
    | with_reducible apply KeepsR.next
    | with_reducible apply KeepsR.ite
    | (extract_lets +onlyGivenNames x; clear_value x)
    | with_reducible apply Keeps.step (keeps_segmentUpdate _ _)
    | with_reducible apply Keeps.ite
    | with_reducible apply Keeps.iteP
    | with_reducible decide
    | split

theorem keeps_stepBase : ∀ a0 a1 a2, Keeps 0x8000000000000000000000000000000000000018000010000000000003c0080000000010000000004000000000000000000000000000000000000000100 a2 (stepBase a0 a1 a2).2 := by
  intro a0 a1 a2
  have h0 : Keeps 0x8000000000000000000000000000000000000018000010000000000003c0080000000010000000004000000000000000000000000000000000000000100 a2 a2 := Keeps.refl _
  unfold stepBase
  repeat' first
    | with_reducible assumption
    | intro _
    | (extract_lets +onlyGivenNames x; refine Keeps.cut x ?_ (fun hx => ?_); (revert x; show Keeps _ _ _); on_goal 2 => clear_value x)
    | (extract_lets +onlyGivenNames x; clear_value x)
    | with_reducible apply Keeps.step (keeps_State_modBase _ _ _)
    | with_reducible apply Keeps.setBit .BASE_STATUS (group_statusKey _)
    | with_reducible apply Keeps.step (keeps_reviewNta _ _)
    | with_reducible apply Keeps.step (keeps_showBase _ _)
    | with_reducible apply Keeps.ite
    | with_reducible apply Keeps.iteP
    | with_reducible decide
    | split

theorem keeps_execStepNta : ∀ a0 a1, KeepsR 0x1400380000000000000000000008000000000000000000000000000000000000018000010000000000003c0080000000010000000004009000000000000000000000000000000000000140 a1 (execStepNta a0 a1) := by
  intro a0 a1
  have h0 : Keeps 0x1400380000000000000000000008000000000000000000000000000000000000018000010000000000003c0080000000010000000004009000000000000000000000000000000000000140 a1 a1 := Keeps.refl _
  unfold execStepNta
  repeat' first
    | with_reducible assumption
    | intro _
    | with_reducible apply Keeps.accepted
    | with_reducible apply KeepsR.next
    | with_reducible apply Keeps.request
    | with_reducible apply Keeps.step (keeps_stepBase _ _ _)
    | with_reducible decide

theorem keeps_execStepNtb : ∀ a0 a1, KeepsR 0x1400380000000000000000000008000000000000000000000000000000000000018000010000000000003c0080000000010000000004009000000000000000000000000000000000000140 a1 (execStepNtb a0 a1) := by
  intro a0 a1
  have h0 : Keeps 0x1400380000000000000000000008000000000000000000000000000000000000018000010000000000003c0080000000010000000004009000000000000000000000000000000000000140 a1 a1 := Keeps.refl _
  unfold execStepNtb
  repeat' first
    | with_reducible assumption
    | intro _
    | with_reducible apply Keeps.accepted
    | with_reducible apply KeepsR.next
    | with_reducible apply Keeps.request
    | with_reducible apply Keeps.step (keeps_stepBase _ _ _)
    | with_reducible decide

theorem keeps_execPtpAnnounceReceived : ∀ a0 a1 a2, KeepsR 0x8000000000000000000000000000000000000000000000000000000003c0096000000000000000004000000000000000000000000000000000000000100 a2 (execPtpAnnounceReceived a0 a1 a2) := by
  intro a0 a1 a2
  have h0 : Keeps 0x8000000000000000000000000000000000000000000000000000000003c0096000000000000000004000000000000000000000000000000000000000100 a2 a2 := Keeps.refl _
  unfold execPtpAnnounceReceived
  repeat' first
    | with_reducible assumption
    | intro _
    | with_reducible apply Keeps.accepted
    | with_reducible apply KeepsR.next
    | with_reducible apply KeepsR.ite
    | (extract_lets +onlyGivenNames x; refine Keeps.cut x ?_ (fun hx => ?_); (revert x; show Keeps _ _ _); on_goal 2 => clear_value x)
    | (extract_lets +onlyGivenNames x; clear_value x)
    | with_reducible apply Keeps.bump .TIM_NTA_DISCARDED (group_TIM_NTA_DISCARDED _)
    | with_reducible apply Keeps.step (keeps_State_modBase _ _ _)
    | with_reducible apply Keeps.setN .TIM_NTA_STEPS_REMOVED (group_TIM_NTA_STEPS_REMOVED _)
    | with_reducible apply Keeps.step (keeps_noteMaster _ _ _)
    | with_reducible apply Keeps.step (keeps_showBase _ _)
    | with_reducible apply Keeps.ite
    | with_reducible apply Keeps.iteP
    | with_reducible decide
    | with_reducible refine Keeps.of_eq (by assumption) ?_
    | split

theorem keeps_execAnnounceReceiptTimeout : ∀ a0 a1, KeepsR 0x8000000000000000000000000000000000000018000010000000000003c0094000000010000000004000000000000000000000000000000000000000100 a1 (execAnnounceReceiptTimeout a0 a1) := by
  intro a0 a1
  have h0 : Keeps 0x8000000000000000000000000000000000000018000010000000000003c0094000000010000000004000000000000000000000000000000000000000100 a1 a1 := Keeps.refl _
  unfold execAnnounceReceiptTimeout
  repeat' first
    | with_reducible assumption
    | intro _
    | with_reducible apply Keeps.accepted
    | with_reducible apply KeepsR.next
    | with_reducible apply KeepsR.ite
    | with_reducible apply Keeps.step (keeps_becomeMaster _ _)
    | with_reducible apply Keeps.ite
    | with_reducible apply Keeps.iteP
    | with_reducible decide
    | split

theorem keeps_execPtpDelayMessageReceived : ∀ a0 a1 a2, KeepsR 0x80000000000000000000000000000000000000000000000000000000000000a000000000000000000000000000000000000000000000000000000000040 a2 (execPtpDelayMessageReceived a0 a1 a2) := by
  intro a0 a1 a2
  have h0 : Keeps 0x80000000000000000000000000000000000000000000000000000000000000a000000000000000000000000000000000000000000000000000000000040 a2 a2 := Keeps.refl _
  unfold execPtpDelayMessageReceived
  repeat' first
    | with_reducible assumption
    | intro _
    | with_reducible apply Keeps.accepted
    | with_reducible apply KeepsR.next
    | with_reducible apply KeepsR.ite
    | (extract_lets +onlyGivenNames x; clear_value x)
    | with_reducible apply Keeps.bump .TIM_NTA_DISCARDED (group_TIM_NTA_DISCARDED _)
    | with_reducible apply Keeps.step (keeps_State_modBase _ _ _)
    | with_reducible apply Keeps.step (keeps_State_send _ _ _ _)
    | with_reducible apply Keeps.setR .TIM_NTA_PATH_DELAY (group_TIM_NTA_PATH_DELAY _)
    | with_reducible apply Keeps.ite
    | with_reducible apply Keeps.iteP
    | with_reducible decide
    | with_reducible refine Keeps.of_eq (by assumption) ?_
    | split

theorem keeps_sendPtp : ∀ a0 a1 a2 a3 a4, Keeps 0x800000000000000000000000000000000000000000000000000000000000000000000000000000000000000000000000000000000000000000000000040 a4 (sendPtp a0 a1 a2 a3 a4) := by
  intro a0 a1 a2 a3 a4
  have h0 : Keeps 0x800000000000000000000000000000000000000000000000000000000000000000000000000000000000000000000000000000000000000000000000040 a4 a4 := Keeps.refl _
  unfold sendPtp
  repeat' first
    | with_reducible assumption
    | intro _
    | with_reducible apply Keeps.step (keeps_State_modBase _ _ _)
    | with_reducible apply Keeps.step (keeps_State_send _ _ _ _)
    | with_reducible decide

theorem keeps_execPtpSyncTransmit : ∀ a0 a1, KeepsR 0x800000000000000000000000000000000000000000000000000000000000000000000000000000000000000000000000000000000000000000000000040 a1 (execPtpSyncTransmit a0 a1) := by
  intro a0 a1
  have h0 : Keeps 0x800000000000000000000000000000000000000000000000000000000000000000000000000000000000000000000000000000000000000000000000040 a1 a1 := Keeps.refl _
  unfold execPtpSyncTransmit
  repeat' first
    | with_reducible assumption
    | intro _
    | with_reducible apply Keeps.accepted
    | with_reducible apply KeepsR.next
    | with_reducible apply KeepsR.ite
    | (extract_lets +onlyGivenNames x; clear_value x)
    | with_reducible apply Keeps.step (keeps_State_send _ _ _ _)
    | with_reducible apply Keeps.step (keeps_sendPtp _ _ _ _ _)
    | with_reducible apply Keeps.ite
    | with_reducible apply Keeps.iteP
    | with_reducible decide
    | split

theorem keeps_execPtpAnnounceTransmit : ∀ a0 a1, KeepsR 0x800000000000000000000000000000000000000000000000000000000000000000000000000000000000000000000000000000000000000000000000040 a1 (execPtpAnnounceTransmit a0 a1) := by
  intro a0 a1
  have h0 : Keeps 0x800000000000000000000000000000000000000000000000000000000000000000000000000000000000000000000000000000000000000000000000040 a1 a1 := Keeps.refl _
  unfold execPtpAnnounceTransmit
  repeat' first
    | with_reducible assumption
    | intro _
    | with_reducible apply Keeps.accepted
    | with_reducible apply KeepsR.next
    | with_reducible apply KeepsR.ite
    | with_reducible apply Keeps.step (keeps_sendPtp _ _ _ _ _)
    | with_reducible apply Keeps.ite
    | with_reducible apply Keeps.iteP
    | with_reducible decide
    | split

theorem keeps_execPtpDelayRequestTransmit : ∀ a0 a1, KeepsR 0x800000000000000000000000000000000000000000000000000000000000000000000000000000000000000000000000000000000000000000000000040 a1 (execPtpDelayRequestTransmit a0 a1) := by
  intro a0 a1
  have h0 : Keeps 0x800000000000000000000000000000000000000000000000000000000000000000000000000000000000000000000000000000000000000000000000040 a1 a1 := Keeps.refl _
  unfold execPtpDelayRequestTransmit
  repeat' first
    | with_reducible assumption
    | intro _
    | with_reducible apply Keeps.accepted
    | with_reducible apply KeepsR.next
    | with_reducible apply KeepsR.ite
    | (extract_lets +onlyGivenNames x; clear_value x)
    | with_reducible apply Keeps.step (keeps_sendPtp _ _ _ _ _)
    | with_reducible apply Keeps.ite
    | with_reducible apply Keeps.iteP
    | with_reducible decide
    | split

theorem keeps_execTcFrameForward : ∀ a0 a1 a2 a3 a4, KeepsR 0x100000000000000000000000000000000000000000000000000000000000040 a4 (execTcFrameForward a0 a1 a2 a3 a4) := by
  intro a0 a1 a2 a3 a4
  have h0 : Keeps 0x100000000000000000000000000000000000000000000000000000000000040 a4 a4 := Keeps.refl _
  unfold execTcFrameForward
  repeat' first
    | with_reducible assumption
    | intro _
    | with_reducible apply Keeps.accepted
    | with_reducible apply KeepsR.next
    | with_reducible apply KeepsR.ite
    | with_reducible apply Keeps.bump .TIM_TC_CORRECTED group_TIM_TC_CORRECTED
    | with_reducible apply Keeps.step (keeps_State_send _ _ _ _)
    | with_reducible apply Keeps.ite
    | with_reducible apply Keeps.iteP
    | with_reducible decide
    | split

theorem keeps_execTtExchange : ∀ a0 a1 a2, KeepsR 0x2000000000004001800001408007400008000310000c0d00000006e0007cc1d9f0a4b33e7000200003d0080000080010014020004000600000100020981a0201000100e000000000140 a2 (execTtExchange a0 a1 a2) := by
  intro a0 a1 a2
  have h0 : Keeps 0x2000000000004001800001408007400008000310000c0d00000006e0007cc1d9f0a4b33e7000200003d0080000080010014020004000600000100020981a0201000100e000000000140 a2 a2 := Keeps.refl _
  unfold execTtExchange
  repeat' first
    | with_reducible assumption
    | intro _
    | with_reducible apply Keeps.accepted
    | with_reducible apply KeepsR.next
    | with_reducible apply KeepsR.ite
    | (extract_lets +onlyGivenNames x; refine Keeps.cut x ?_ (fun hx => ?_); (revert x; show Keeps _ _ _); on_goal 2 => clear_value x)
    | (extract_lets +onlyGivenNames x; clear_value x)
    | with_reducible apply Keeps.step (keeps_State_modBase _ _ _)
    | with_reducible apply Keeps.step (keeps_acquireStep _ _ _)
    | with_reducible apply Keeps.step (keeps_lockReview _)
    | with_reducible apply Keeps.step (keeps_measure _ _ _ _ _)
    | with_reducible apply Keeps.step (keeps_showBase _ _)
    | with_reducible apply Keeps.ite
    | with_reducible apply Keeps.iteP
    | with_reducible decide
    | split

theorem keeps_startTime (p : Fin 2) (s : State) : Keeps 0x300000000000000000000000000000000000000000000000000000000c00001000000000000000000000000000000000000000000020000000000000000 s (startTime p s) := by
  unfold startTime
  exact Keeps.bump .TIM_BOOT_COUNT group_TIM_BOOT_COUNT (by decide) (Keeps.setBit .EDG_STATUS group_EDG_STATUS (by decide) _ _
    (Keeps.modClk (fun _ i hi => by cases i <;> first | exact Keeps.no rfl hi | exact rfl)
    (Keeps.modIsl (fun _ i hi => by cases i <;> first | exact Keeps.no rfl hi | exact rfl) (Or.inr fun _ _ h => h) (Keeps.refl _))))

theorem keeps_pllLocks : ∀ a0 a1, Keeps 0x380000000000000000000000000000000000000000000000000000000c00081000000000000000000000000000000000000000000020000000000000000 a1 (pllLocks a0 a1) := by
  intro a0 a1
  have h0 : Keeps 0x380000000000000000000000000000000000000000000000000000000c00081000000000000000000000000000000000000000000020000000000000000 a1 a1 := Keeps.refl _
  unfold pllLocks
  repeat' first
    | with_reducible assumption
    | intro _
    | (extract_lets +onlyGivenNames x; refine Keeps.cut x ?_ (fun hx => ?_); (revert x; show Keeps _ _ _); on_goal 2 => clear_value x)
    | (extract_lets +onlyGivenNames x; clear_value x)
    | with_reducible apply Keeps.step (keeps_State_modPll _ _ _)
    | with_reducible apply Keeps.step (keeps_showClocks _)
    | with_reducible apply Keeps.step (keeps_startTime _ _)
    | with_reducible apply Keeps.ite
    | with_reducible apply Keeps.iteP
    | with_reducible decide
    | split

theorem keeps_execPllLock : ∀ a0 a1, KeepsR 0x380000000000000000000000000000000000000000000000000000000c00081000000000000000004000000000000000000000000020000000000000100 a1 (execPllLock a0 a1) := by
  intro a0 a1
  have h0 : Keeps 0x380000000000000000000000000000000000000000000000000000000c00081000000000000000004000000000000000000000000020000000000000100 a1 a1 := Keeps.refl _
  unfold execPllLock
  repeat' first
    | with_reducible assumption
    | intro _
    | with_reducible apply Keeps.accepted
    | with_reducible apply KeepsR.next
    | with_reducible apply KeepsR.ite
    | (extract_lets +onlyGivenNames x; clear_value x)
    | with_reducible apply Keeps.step (keeps_State_log _ _ _)
    | with_reducible apply Keeps.step (keeps_pllLocks _ _)
    | with_reducible apply Keeps.ite
    | with_reducible apply Keeps.iteP
    | with_reducible decide
    | with_reducible refine Keeps.of_eq (by assumption) ?_
    | split

theorem keeps_bothLost : ∀ a0, Keeps 0x1827000000080040018100014c8007440008000f10070c0d00000006e8007cc1d9f0a4b33e70003170c3d00800000800100140200040e0601000100020981a0291303100e0000000001c0 a0 (bothLost a0) := by
  intro a0
  have h0 : Keeps 0x1827000000080040018100014c8007440008000f10070c0d00000006e8007cc1d9f0a4b33e70003170c3d00800000800100140200040e0601000100020981a0291303100e0000000001c0 a0 a0 := Keeps.refl _
  unfold bothLost
  repeat' first
    | with_reducible assumption
    | intro _
    | with_reducible apply Keeps.step (keeps_fence _ _)
    | with_reducible decide

theorem keeps_pllLoss : ∀ a0 a1, Keeps 0x1827000000080040018100014c9807440008000f10070c0d00000006e8007cc1d9f0a4b33e70003170c3d00a00000800100140200040e0601000100020981a0291303100e0000000001c0 a1 (pllLoss a0 a1) := by
  intro a0 a1
  have h0 : Keeps 0x1827000000080040018100014c9807440008000f10070c0d00000006e8007cc1d9f0a4b33e70003170c3d00a00000800100140200040e0601000100020981a0291303100e0000000001c0 a1 a1 := Keeps.refl _
  unfold pllLoss
  repeat' first
    | with_reducible assumption
    | intro _
    | (extract_lets +onlyGivenNames x; refine Keeps.cutF x ?_ (fun hx => ?_); (on_goal 1 => (intros; unfold x)); on_goal 2 => clear_value x)
    | (extract_lets +onlyGivenNames x; refine Keeps.cutF1 x ?_ (fun hx => ?_); (on_goal 1 => (intros; unfold x)); on_goal 2 => clear_value x)
    | (with_reducible apply_assumption (exfalso := false) (symm := false))
    | (extract_lets +onlyGivenNames x; refine Keeps.cut x ?_ (fun hx => ?_); (revert x; show Keeps _ _ _); on_goal 2 => clear_value x)
    | (extract_lets +onlyGivenNames x; clear_value x)
    | extract_lets +onlyGivenNames x
    | with_reducible apply Keeps.bump .TIM_PLL_LOSSES (group_TIM_PLL_LOSSES _ (by first | omega | (simp only [List.mem_range, List.mem_cons, List.not_mem_nil, or_false] at *; omega)))
    | with_reducible apply Keeps.step (keeps_State_log _ _ _)
    | with_reducible apply Keeps.step (keeps_State_modPll _ _ _)
    | with_reducible apply Keeps.setBit .EDG_STATUS group_EDG_STATUS
    | with_reducible apply Keeps.step (keeps_bothLost _)
    | with_reducible apply Keeps.step (keeps_showClocks _)
    | with_reducible apply Keeps.step (keeps_switchClocks _ _)
    | with_reducible apply Keeps.ite
    | with_reducible apply Keeps.iteP
    | with_reducible decide
    | split

theorem keeps_execPllLossOfLock : ∀ a0 a1, KeepsR 0x1827000000080040018100014c9807440008000f10070c0d00000006e8007cc1d9f0a4b33e70003170c3d00a00000800100140200040e0601000100020981a0291303100e0000000001c0 a1 (execPllLossOfLock a0 a1) := by
  intro a0 a1
  have h0 : Keeps 0x1827000000080040018100014c9807440008000f10070c0d00000006e8007cc1d9f0a4b33e70003170c3d00a00000800100140200040e0601000100020981a0291303100e0000000001c0 a1 a1 := Keeps.refl _
  unfold execPllLossOfLock
  repeat' first
    | with_reducible assumption
    | intro _
    | with_reducible apply Keeps.accepted
    | with_reducible apply KeepsR.next
    | with_reducible apply KeepsR.ite
    | with_reducible apply Keeps.step (keeps_pllLoss _ _)
    | with_reducible apply Keeps.ite
    | with_reducible apply Keeps.iteP
    | with_reducible decide
    | split

theorem keeps_execPllRelockAttempt : ∀ a0 a1, KeepsR 0x80000000000000000000000000000000000000000000000000000000000000000000000000000000000000000000000000000000000000000000000000 a1 (execPllRelockAttempt a0 a1) := by
  intro a0 a1
  have h0 : Keeps 0x80000000000000000000000000000000000000000000000000000000000000000000000000000000000000000000000000000000000000000000000000 a1 a1 := Keeps.refl _
  unfold execPllRelockAttempt
  repeat' first
    | with_reducible assumption
    | intro _
    | with_reducible apply Keeps.accepted
    | with_reducible apply KeepsR.next
    | with_reducible apply KeepsR.ite
    | (extract_lets +onlyGivenNames x; clear_value x)
    | with_reducible apply Keeps.step (keeps_State_modPll _ _ _)
    | with_reducible apply Keeps.ite
    | with_reducible apply Keeps.iteP
    | with_reducible decide
    | with_reducible refine Keeps.of_eq (by assumption) ?_
    | split

theorem keeps_execPllRelockTimeout : ∀ a0 a1, KeepsR 0x80000000000000000000000000000000000000000000000000000000000000000000000000000000000000000000000000000000000000000000000000 a1 (execPllRelockTimeout a0 a1) := by
  intro a0 a1
  have h0 : Keeps 0x80000000000000000000000000000000000000000000000000000000000000000000000000000000000000000000000000000000000000000000000000 a1 a1 := Keeps.refl _
  unfold execPllRelockTimeout
  repeat' first
    | with_reducible assumption
    | intro _
    | with_reducible apply Keeps.accepted
    | with_reducible apply KeepsR.next
    | with_reducible apply KeepsR.ite
    | (extract_lets +onlyGivenNames x; clear_value x)
    | with_reducible apply Keeps.step (keeps_State_modPll _ _ _)
    | with_reducible apply Keeps.ite
    | with_reducible apply Keeps.iteP
    | with_reducible decide
    | with_reducible refine Keeps.of_eq (by assumption) ?_
    | split

theorem keeps_execNetPllLoss : ∀ a0, KeepsR 0x8070000000000000000000000e000000000000000000000000000000000000018000010000000000003c00800000000100000000040e0000000000000000000000000000000000000100 a0 (execNetPllLoss a0) := by
  intro a0
  have h0 : Keeps 0x8070000000000000000000000e000000000000000000000000000000000000018000010000000000003c00800000000100000000040e0000000000000000000000000000000000000100 a0 a0 := Keeps.refl _
  unfold execNetPllLoss
  repeat' first
    | with_reducible assumption
    | ((with_reducible refine ClkField.upd_of ?_); intro i x hi; cases i <;> first | exact Keeps.no rfl hi | exact rfl | (split <;> rfl) | ((repeat' split) <;> rfl))
    | intro _
    | with_reducible apply Keeps.accepted
    | with_reducible apply KeepsR.next
    | with_reducible apply KeepsR.ite
    | (extract_lets +onlyGivenNames x; refine Keeps.cut x ?_ (fun hx => ?_); (revert x; show Keeps _ _ _); on_goal 2 => clear_value x)
    | (extract_lets +onlyGivenNames x; clear_value x)
    | with_reducible apply Keeps.step (keeps_State_log _ _ _)
    | with_reducible refine Keeps.modClk ?_ ?_
    | with_reducible apply Keeps.step (keeps_baseHoldover _ _ _)
    | with_reducible apply Keeps.step (keeps_reviewNta _ _)
    | with_reducible apply Keeps.step (keeps_setLink _ _ _ _)
    | with_reducible apply Keeps.step (keeps_showClocks _)
    | with_reducible apply Keeps.foldl
    | with_reducible apply Keeps.foldlP
    | with_reducible apply Keeps.ite
    | with_reducible apply Keeps.iteP
    | with_reducible decide
    | split

theorem keeps_execNetPllRelockAttempt : ∀ a0 a1, KeepsR 0x600000000000000000000000000000000000000000000000000000000000080000000000000000004000000000000000000000000000000000000000100 a1 (execNetPllRelockAttempt a0 a1) := by
  intro a0 a1
  have h0 : Keeps 0x600000000000000000000000000000000000000000000000000000000000080000000000000000004000000000000000000000000000000000000000100 a1 a1 := Keeps.refl _
  unfold execNetPllRelockAttempt
  repeat' first
    | with_reducible assumption
    | ((with_reducible refine ClkField.upd_of ?_); intro i x hi; cases i <;> first | exact Keeps.no rfl hi | exact rfl | (split <;> rfl) | ((repeat' split) <;> rfl))
    | intro _
    | with_reducible apply Keeps.accepted
    | with_reducible apply KeepsR.next
    | with_reducible apply KeepsR.ite
    | with_reducible apply Keeps.step (keeps_State_log _ _ _)
    | with_reducible refine Keeps.modClk ?_ ?_
    | with_reducible apply Keeps.step (keeps_showClocks _)
    | with_reducible apply Keeps.ite
    | with_reducible apply Keeps.iteP
    | with_reducible decide
    | split

theorem keeps_execClockMonitorCheck : ∀ a0 a1 a2, KeepsR 0x1827000000080040018100014c8377440008000f10070c0d00000006e8007cc1d9f0a4b33e70003170c3d00800000800100140200040e0601000100020981a0291303100e0000000001c0 a2 (execClockMonitorCheck a0 a1 a2) := by
  intro a0 a1 a2
  have h0 : Keeps 0x1827000000080040018100014c8377440008000f10070c0d00000006e8007cc1d9f0a4b33e70003170c3d00800000800100140200040e0601000100020981a0291303100e0000000001c0 a2 a2 := Keeps.refl _
  unfold execClockMonitorCheck
  repeat' first
    | with_reducible assumption
    | ((with_reducible refine ClkField.upd_of ?_); intro i x hi; cases i <;> first | exact Keeps.no rfl hi | exact rfl | (split <;> rfl) | ((repeat' split) <;> rfl))
    | intro _
    | with_reducible apply Keeps.accepted
    | with_reducible apply KeepsR.next
    | with_reducible apply KeepsR.ite
    | (extract_lets +onlyGivenNames x; refine Keeps.cut x ?_ (fun hx => ?_); (revert x; show Keeps _ _ _); on_goal 2 => clear_value x)
    | (extract_lets +onlyGivenNames x; clear_value x)
    | with_reducible refine Keeps.modClk ?_ ?_
    | with_reducible apply Keeps.step (keeps_fence _ _)
    | with_reducible apply Keeps.step (keeps_refFault _ _ _)
    | with_reducible apply Keeps.foldl
    | with_reducible apply Keeps.foldlP
    | with_reducible apply Keeps.ite
    | with_reducible apply Keeps.iteP
    | with_reducible decide
    | split

end Sys2Proof.Machine
end

