-- ==== Sys2Proof/Laws/KeepsKeystone.lean ====
section
/-!
SUPPORT. What each operation of Machine/Keystone.lean may change.
-/

set_option linter.unusedTactic false
set_option linter.tactic.unusedName false
set_option linter.unreachableTactic false

namespace Sys2Proof.Machine

theorem keeps_execLockstepMismatch : ∀ a0, KeepsR 0x40c080000000000000000000000000000000000000000000000000000000000010700000000000000000014000004000000000000000000000910000000000000000100 a0 (execLockstepMismatch a0) := by
  intro a0
  have h0 : Keeps 0x40c080000000000000000000000000000000000000000000000000000000000010700000000000000000014000004000000000000000000000910000000000000000100 a0 a0 := Keeps.refl _
  unfold execLockstepMismatch
  repeat' first
    | with_reducible assumption
    | ((with_reducible refine SafField.upd_of ?_); intro i x hi; cases i <;> first | exact Keeps.no rfl hi | exact rfl | (split <;> rfl) | ((repeat' split) <;> rfl))
    | intro _
    | with_reducible apply Keeps.accepted
    | with_reducible apply KeepsR.next
    | with_reducible apply KeepsR.ite
    | with_reducible refine Keeps.modSaf ?_ ?_
    | with_reducible apply Keeps.on
    | with_reducible apply Keeps.step (keeps_latchFault _ _ _)
    | with_reducible apply Keeps.step (keeps_refreshPermissions _)
    | with_reducible apply Keeps.ite
    | with_reducible apply Keeps.iteP
    | with_reducible decide
    | split

theorem keeps_execMemoryMarchTest : ∀ a0 a1, KeepsR 0x84000000000000000000000000000000000000000000000000000000000000010000000000000000000010000004000000000000000000000000000000000000000100 a1 (execMemoryMarchTest a0 a1) := by
  intro a0 a1
  have h0 : Keeps 0x84000000000000000000000000000000000000000000000000000000000000010000000000000000000010000004000000000000000000000000000000000000000100 a1 a1 := Keeps.refl _
  unfold execMemoryMarchTest
  repeat' first
    | with_reducible assumption
    | ((with_reducible refine SafField.upd_of ?_); intro i x hi; cases i <;> first | exact Keeps.no rfl hi | exact rfl | (split <;> rfl) | ((repeat' split) <;> rfl))
    | intro _
    | with_reducible apply Keeps.accepted
    | with_reducible apply KeepsR.next
    | with_reducible apply KeepsR.ite
    | (extract_lets +onlyGivenNames x; refine Keeps.cut x ?_ (fun hx => ?_); (revert x; show Keeps _ _ _); on_goal 2 => clear_value x)
    | (extract_lets +onlyGivenNames x; clear_value x)
    | with_reducible refine Keeps.modSaf ?_ ?_
    | with_reducible apply Keeps.on
    | with_reducible apply Keeps.step (keeps_latchFault _ _ _)
    | with_reducible apply Keeps.ite
    | with_reducible apply Keeps.iteP
    | with_reducible decide
    | split

theorem keeps_execSupplyWindowFault : ∀ a0 a1 a2, KeepsR 0x4000000000000000000000000000000000000000000000000000000000000010000000000000000000010000004000000000000000000000000000000000000000100 a2 (execSupplyWindowFault a0 a1 a2) := by
  intro a0 a1 a2
  have h0 : Keeps 0x4000000000000000000000000000000000000000000000000000000000000010000000000000000000010000004000000000000000000000000000000000000000100 a2 a2 := Keeps.refl _
  unfold execSupplyWindowFault
  repeat' first
    | with_reducible assumption
    | intro _
    | with_reducible apply Keeps.accepted
    | with_reducible apply KeepsR.next
    | with_reducible apply KeepsR.ite
    | (extract_lets +onlyGivenNames x; clear_value x)
    | with_reducible apply Keeps.on
    | with_reducible apply Keeps.step (keeps_latchFault _ _ _)
    | with_reducible apply Keeps.ite
    | with_reducible apply Keeps.iteP
    | with_reducible decide
    | with_reducible refine Keeps.of_eq (by assumption) ?_
    | split

theorem keeps_execPermissionEchoFault : ∀ a0 a1, KeepsR 0x4000000000000000000000000000000000000000000000000000000000000010000000000000000000010000004000000000000000000000000000000000000000100 a1 (execPermissionEchoFault a0 a1) := by
  intro a0 a1
  have h0 : Keeps 0x4000000000000000000000000000000000000000000000000000000000000010000000000000000000010000004000000000000000000000000000000000000000100 a1 a1 := Keeps.refl _
  unfold execPermissionEchoFault
  repeat' first
    | with_reducible assumption
    | intro _
    | with_reducible apply Keeps.accepted
    | with_reducible apply KeepsR.next
    | with_reducible apply KeepsR.ite
    | with_reducible apply Keeps.on
    | with_reducible apply Keeps.step (keeps_latchFault _ _ _)
    | with_reducible apply Keeps.ite
    | with_reducible apply Keeps.iteP
    | with_reducible decide
    | with_reducible refine Keeps.of_eq (by assumption) ?_
    | split

theorem keeps_execResetDue : ∀ a0, KeepsR 0x10000004000000000000000000000000000000000000000100 a0 (execResetDue a0) := by
  intro a0
  have h0 : Keeps 0x10000004000000000000000000000000000000000000000100 a0 a0 := Keeps.refl _
  unfold execResetDue
  repeat' first
    | with_reducible assumption
    | intro _
    | with_reducible apply Keeps.accepted
    | with_reducible apply KeepsR.next
    | with_reducible apply KeepsR.ite
    | with_reducible apply Keeps.step (keeps_State_log _ _ _)
    | with_reducible apply Keeps.on
    | with_reducible apply Keeps.setBit .SAF_STATUS group_SAF_STATUS
    | with_reducible apply Keeps.ite
    | with_reducible apply Keeps.iteP
    | with_reducible decide
    | split

theorem keeps_execSocCloseRequest : ∀ a0 a1, KeepsR 0x400080000000000000000000000000000000000000000000000000000000000000000000000000000000015000004000000000000000000000010000000000000000100 a1 (execSocCloseRequest a0 a1) := by
  intro a0 a1
  have h0 : Keeps 0x400080000000000000000000000000000000000000000000000000000000000000000000000000000000015000004000000000000000000000010000000000000000100 a1 a1 := Keeps.refl _
  unfold execSocCloseRequest
  repeat' first
    | with_reducible assumption
    | intro _
    | with_reducible apply Keeps.accepted
    | with_reducible apply KeepsR.next
    | with_reducible apply KeepsR.ite
    | with_reducible apply Keeps.on
    | with_reducible apply Keeps.step (keeps_socClose _ _)
    | with_reducible apply Keeps.ite
    | with_reducible apply Keeps.iteP
    | with_reducible decide
    | split

theorem keeps_execSocOpenRequest : ∀ a0 a1, KeepsR 0x400080000000000000000000000000000000000000000000000000000000000000000000000000000000014000000000000000000000000000010000000000000000000 a1 (execSocOpenRequest a0 a1) := by
  intro a0 a1
  have h0 : Keeps 0x400080000000000000000000000000000000000000000000000000000000000000000000000000000000014000000000000000000000000000010000000000000000000 a1 a1 := Keeps.refl _
  unfold execSocOpenRequest
  repeat' first
    | with_reducible assumption
    | intro _
    | with_reducible apply Keeps.accepted
    | with_reducible apply KeepsR.next
    | with_reducible apply KeepsR.ite
    | with_reducible apply Keeps.on
    | with_reducible apply Keeps.step (keeps_socOpen _ _)
    | with_reducible apply Keeps.ite
    | with_reducible apply Keeps.iteP
    | with_reducible decide
    | split

theorem keeps_execSocSwitchTest : ∀ a0 a1, KeepsR 0x400080000000000000000000000000000000000000000000000000000000000000000000000000000000014000000000000000000000000000010000000000000000000 a1 (execSocSwitchTest a0 a1) := by
  intro a0 a1
  have h0 : Keeps 0x400080000000000000000000000000000000000000000000000000000000000000000000000000000000014000000000000000000000000000010000000000000000000 a1 a1 := Keeps.refl _
  unfold execSocSwitchTest
  repeat' first
    | with_reducible assumption
    | intro _
    | with_reducible apply Keeps.accepted
    | with_reducible apply KeepsR.next
    | with_reducible apply KeepsR.ite
    | (extract_lets +onlyGivenNames x; clear_value x)
    | with_reducible apply Keeps.step (keeps_State_modSoc _ _ _)
    | with_reducible apply Keeps.on
    | with_reducible apply Keeps.step (keeps_showSoc _ _)
    | with_reducible apply Keeps.ite
    | with_reducible apply Keeps.iteP
    | with_reducible decide
    | split

theorem keeps_execSocTestPulseEnd : ∀ a0 a1 a2, KeepsR 0x404080000000000000000000000000000000000000000000000000000000000010000000000000000000015000004000000000000000000000010000000000000000100 a2 (execSocTestPulseEnd a0 a1 a2) := by
  intro a0 a1 a2
  have h0 : Keeps 0x404080000000000000000000000000000000000000000000000000000000000010000000000000000000015000004000000000000000000000010000000000000000100 a2 a2 := Keeps.refl _
  unfold execSocTestPulseEnd
  repeat' first
    | with_reducible assumption
    | intro _
    | with_reducible apply Keeps.accepted
    | with_reducible apply KeepsR.next
    | with_reducible apply KeepsR.ite
    | (extract_lets +onlyGivenNames x; refine Keeps.cut x ?_ (fun hx => ?_); (revert x; show Keeps _ _ _); on_goal 2 => clear_value x)
    | (extract_lets +onlyGivenNames x; clear_value x)
    | with_reducible apply Keeps.step (keeps_State_modSoc _ _ _)
    | with_reducible apply Keeps.on
    | with_reducible apply Keeps.step (keeps_latchFault _ _ _)
    | with_reducible apply Keeps.step (keeps_showSoc _ _)
    | with_reducible apply Keeps.step (keeps_socClose _ _)
    | with_reducible apply Keeps.step (keeps_socFault _ _)
    | with_reducible apply Keeps.step (keeps_socOpen _ _)
    | with_reducible apply Keeps.ite
    | with_reducible apply Keeps.iteP
    | with_reducible decide
    | with_reducible refine Keeps.of_eq (by assumption) ?_
    | split

theorem keeps_execSocCloseDiscrepancy : ∀ a0 a1, KeepsR 0x400080000000000000000000000000000000000000000000000000000000000000000000000000000000014000004000000000000000000000010000000000000000100 a1 (execSocCloseDiscrepancy a0 a1) := by
  intro a0 a1
  have h0 : Keeps 0x400080000000000000000000000000000000000000000000000000000000000000000000000000000000014000004000000000000000000000010000000000000000100 a1 a1 := Keeps.refl _
  unfold execSocCloseDiscrepancy
  repeat' first
    | with_reducible assumption
    | intro _
    | with_reducible apply Keeps.accepted
    | with_reducible apply KeepsR.next
    | with_reducible apply Keeps.on
    | with_reducible apply Keeps.step (keeps_closeDiscrepancy _ _)
    | with_reducible decide

theorem keeps_execSocOpenDiscrepancy : ∀ a0 a1, KeepsR 0x404080000000000000000000000000000000000000000000000000000000000010000000000000000000014000004000000000000000000000010000000000000000100 a1 (execSocOpenDiscrepancy a0 a1) := by
  intro a0 a1
  have h0 : Keeps 0x404080000000000000000000000000000000000000000000000000000000000010000000000000000000014000004000000000000000000000010000000000000000100 a1 a1 := Keeps.refl _
  unfold execSocOpenDiscrepancy
  repeat' first
    | with_reducible assumption
    | intro _
    | with_reducible apply Keeps.accepted
    | with_reducible apply KeepsR.next
    | with_reducible apply Keeps.on
    | with_reducible apply Keeps.step (keeps_openDiscrepancy _ _)
    | with_reducible decide

theorem keeps_clearSoc : ∀ a0 a1 a2 a3, Keeps 0x404080000000000000000000000000000000000000000000000000000000000000000000000000000000014000004000000000000000000000010000000000000000100 a3 (clearSoc a0 a1 a2 a3).2 := by
  intro a0 a1 a2 a3
  have h0 : Keeps 0x404080000000000000000000000000000000000000000000000000000000000000000000000000000000014000004000000000000000000000010000000000000000100 a3 a3 := Keeps.refl _
  unfold clearSoc
  repeat' first
    | with_reducible assumption
    | ((with_reducible refine SafField.upd_of ?_); intro i x hi; cases i <;> first | exact Keeps.no rfl hi | exact rfl | (split <;> rfl) | ((repeat' split) <;> rfl))
    | intro _
    | (extract_lets +onlyGivenNames x; refine Keeps.cut x ?_ (fun hx => ?_); (revert x; show Keeps _ _ _); on_goal 2 => clear_value x)
    | (extract_lets +onlyGivenNames x; clear_value x)
    | with_reducible apply Keeps.step (keeps_State_log _ _ _)
    | with_reducible apply Keeps.step (keeps_State_modCd _ _ _)
    | with_reducible refine Keeps.modSaf ?_ ?_
    | with_reducible apply Keeps.step (keeps_State_modSoc _ _ _)
    | with_reducible apply Keeps.setBit .SAF_STATUS group_SAF_STATUS
    | with_reducible apply Keeps.step (keeps_showSoc _ _)
    | with_reducible apply Keeps.ite
    | with_reducible apply Keeps.iteP
    | with_reducible decide
    | split

theorem keeps_execClearSoc : ∀ a0 a1 a2 a3, KeepsR 0x140038000000000404080000000000000000000000000000000000000000000000000000000000000000000000000000000014000004009000000000000000000010000000000000000140 a3 (execClearSoc a0 a1 a2 a3) := by
  intro a0 a1 a2 a3
  have h0 : Keeps 0x140038000000000404080000000000000000000000000000000000000000000000000000000000000000000000000000000014000004009000000000000000000010000000000000000140 a3 a3 := Keeps.refl _
  unfold execClearSoc
  repeat' first
    | with_reducible assumption
    | intro _
    | with_reducible apply Keeps.accepted
    | with_reducible apply KeepsR.next
    | with_reducible apply Keeps.step (keeps_clearSoc _ _ _ _)
    | with_reducible apply Keeps.request
    | with_reducible decide

theorem keeps_execSocProofDue : ∀ a0 a1, KeepsR 0x16000004000000000000000000000000000000000000000100 a1 (execSocProofDue a0 a1) := by
  intro a0 a1
  have h0 : Keeps 0x16000004000000000000000000000000000000000000000100 a1 a1 := Keeps.refl _
  unfold execSocProofDue
  repeat' first
    | with_reducible assumption
    | intro _
    | with_reducible apply Keeps.accepted
    | with_reducible apply KeepsR.next
    | with_reducible apply Keeps.on
    | with_reducible apply Keeps.step (keeps_proofReview _ _)
    | with_reducible decide

theorem keeps_execSsdRampIncomplete : ∀ a0 a1, KeepsR 0x2000000000004101800000000007400008000310004c0d00000006e0007cc1d9f0a4b33e700000700000000000080010014020004000200000100020981a0291000100e000000000540 a1 (execSsdRampIncomplete a0 a1) := by
  intro a0 a1
  have h0 : Keeps 0x2000000000004101800000000007400008000310004c0d00000006e0007cc1d9f0a4b33e700000700000000000080010014020004000200000100020981a0291000100e000000000540 a1 a1 := Keeps.refl _
  unfold execSsdRampIncomplete
  repeat' first
    | with_reducible assumption
    | intro _
    | with_reducible apply Keeps.accepted
    | with_reducible apply KeepsR.next
    | with_reducible apply KeepsR.ite
    | with_reducible apply Keeps.step (keeps_State_log _ _ _)
    | with_reducible apply Keeps.on
    | with_reducible apply Keeps.step (keeps_keystoneSafe _ _ _)
    | with_reducible apply Keeps.step (keeps_ssdComplete _ _ _ _)
    | with_reducible apply Keeps.ite
    | with_reducible apply Keeps.iteP
    | with_reducible decide
    | with_reducible refine Keeps.of_eq (by assumption) ?_
    | split

theorem keeps_execSsdPlausibilityFail : ∀ a0 a1 a2, KeepsR 0x2000000000004101800000000007400008000310000c0d00000006e0007cc1d9f0a4b33e700000700000000000080010014020004000200000100020981a0291000100e000000000140 a2 (execSsdPlausibilityFail a0 a1 a2) := by
  intro a0 a1 a2
  have h0 : Keeps 0x2000000000004101800000000007400008000310000c0d00000006e0007cc1d9f0a4b33e700000700000000000080010014020004000200000100020981a0291000100e000000000140 a2 a2 := Keeps.refl _
  unfold execSsdPlausibilityFail
  repeat' first
    | with_reducible assumption
    | intro _
    | with_reducible apply Keeps.accepted
    | with_reducible apply KeepsR.next
    | with_reducible apply Keeps.on
    | with_reducible apply Keeps.step (keeps_dateDifference _ _ _)
    | with_reducible apply Keeps.step (keeps_plausible _ _ _)
    | with_reducible decide

theorem keeps_sendUnit : ∀ a0 a1, Keeps 0x200000000000000000000000000000000000000000000000000000000000000000000000000000000000000000000000000000000000000000000000000000000040 a1 (sendUnit a0 a1) := by
  intro a0 a1
  have h0 : Keeps 0x200000000000000000000000000000000000000000000000000000000000000000000000000000000000000000000000000000000000000000000000000000000040 a1 a1 := Keeps.refl _
  unfold sendUnit
  repeat' first
    | with_reducible assumption
    | intro _
    | (extract_lets +onlyGivenNames x; refine Keeps.cut x ?_ (fun hx => ?_); (revert x; show Keeps _ _ _); on_goal 2 => clear_value x)
    | (extract_lets +onlyGivenNames x; clear_value x)
    | with_reducible apply Keeps.step (keeps_State_modConn _ _ _)
    | with_reducible apply Keeps.step (keeps_State_send _ _ _ _)
    | with_reducible apply Keeps.ite
    | with_reducible apply Keeps.iteP
    | with_reducible decide
    | split

theorem keeps_execSafetyUnitSend : ∀ a0 a1, KeepsR 0x200000000000000000000000000000000000000000000000000000000000000000000000000000000000000000000000000000000000000000000000000000000040 a1 (execSafetyUnitSend a0 a1) := by
  intro a0 a1
  have h0 : Keeps 0x200000000000000000000000000000000000000000000000000000000000000000000000000000000000000000000000000000000000000000000000000000000040 a1 a1 := Keeps.refl _
  unfold execSafetyUnitSend
  repeat' first
    | with_reducible assumption
    | intro _
    | with_reducible apply Keeps.accepted
    | with_reducible apply KeepsR.next
    | with_reducible apply KeepsR.ite
    | with_reducible apply Keeps.step (keeps_sendUnit _ _)
    | with_reducible apply Keeps.ite
    | with_reducible apply Keeps.iteP
    | with_reducible decide
    | split

theorem keeps_showConn : ∀ a0 a1, Keeps 0x10800000000000000000000000000000000000000000000000 a1 (showConn a0 a1) := by
  intro a0 a1
  have h0 : Keeps 0x10800000000000000000000000000000000000000000000000 a1 a1 := Keeps.refl _
  unfold showConn
  repeat' first
    | with_reducible assumption
    | intro _
    | (extract_lets +onlyGivenNames x; refine Keeps.cut x ?_ (fun hx => ?_); (revert x; show Keeps _ _ _); on_goal 2 => clear_value x)
    | (extract_lets +onlyGivenNames x; clear_value x)
    | with_reducible apply Keeps.setBit .SAF_STATUS group_SAF_STATUS
    | with_reducible apply Keeps.setField .SAF_CONN_STATUS (group_SAF_CONN_STATUS _)
    | with_reducible decide

theorem keeps_connSafe : ∀ a0 a1 a2, Keeps 0x2000000000004123800000000007400008000310004c0d00000006e0007cc1d9f0a4b33e700000700000000000080010014820004000200000100020981a0291000100e000000000540 a2 (connSafe a0 a1 a2) := by
  intro a0 a1 a2
  have h0 : Keeps 0x2000000000004123800000000007400008000310004c0d00000006e0007cc1d9f0a4b33e700000700000000000080010014820004000200000100020981a0291000100e000000000540 a2 a2 := Keeps.refl _
  unfold connSafe
  repeat' first
    | with_reducible assumption
    | intro _
    | (extract_lets +onlyGivenNames x; refine Keeps.cut x ?_ (fun hx => ?_); (revert x; show Keeps _ _ _); on_goal 2 => clear_value x)
    | (extract_lets +onlyGivenNames x; clear_value x)
    | with_reducible apply Keeps.step (keeps_State_log _ _ _)
    | with_reducible apply Keeps.step (keeps_State_modConn _ _ _)
    | with_reducible apply Keeps.step (keeps_permitReview _)
    | with_reducible apply Keeps.step (keeps_showConn _ _)
    | with_reducible apply Keeps.ite
    | with_reducible apply Keeps.iteP
    | with_reducible decide
    | split

theorem keeps_rejectUnit : ∀ a0 a1 a2, Keeps 0x2000000000004123800000000007400008000310004c0d00000006e0007cc1d9f0a4b33e700000700000000000080010014c20004000200000100020981a0291000100e000000000540 a2 (rejectUnit a0 a1 a2) := by
  intro a0 a1 a2
  have h0 : Keeps 0x2000000000004123800000000007400008000310004c0d00000006e0007cc1d9f0a4b33e700000700000000000080010014c20004000200000100020981a0291000100e000000000540 a2 a2 := Keeps.refl _
  unfold rejectUnit
  repeat' first
    | with_reducible assumption
    | intro _
    | (extract_lets +onlyGivenNames x; refine Keeps.cut x ?_ (fun hx => ?_); (revert x; show Keeps _ _ _); on_goal 2 => clear_value x)
    | (extract_lets +onlyGivenNames x; clear_value x)
    | with_reducible apply Keeps.bump .SAF_CONN_REJECTED (group_SAF_CONN_REJECTED _)
    | with_reducible apply Keeps.step (keeps_State_logOnce _ _ _ _)
    | with_reducible apply Keeps.step (keeps_State_modConn _ _ _)
    | with_reducible apply Keeps.setField .SAF_CONN_STATUS (group_SAF_CONN_STATUS _)
    | with_reducible apply Keeps.step (keeps_connSafe _ _ _)
    | with_reducible apply Keeps.ite
    | with_reducible apply Keeps.iteP
    | with_reducible decide
    | split

theorem keeps_pathSeen : ∀ a0 a1 a2, Keeps 0x200000000000000000000000000000000000000000000000000000000000000000000000000000000000000004000000000000000000000000000000000000000100 a2 (pathSeen a0 a1 a2) := by
  intro a0 a1 a2
  have h0 : Keeps 0x200000000000000000000000000000000000000000000000000000000000000000000000000000000000000004000000000000000000000000000000000000000100 a2 a2 := Keeps.refl _
  unfold pathSeen
  repeat' first
    | with_reducible assumption
    | intro _
    | (extract_lets +onlyGivenNames x; refine Keeps.cut x ?_ (fun hx => ?_); (revert x; show Keeps _ _ _); on_goal 2 => clear_value x)
    | (extract_lets +onlyGivenNames x; clear_value x)
    | extract_lets +onlyGivenNames x
    | with_reducible apply Keeps.step (keeps_State_log _ _ _)
    | with_reducible apply Keeps.step (keeps_State_modConn _ _ _)
    | with_reducible apply Keeps.ite
    | with_reducible apply Keeps.iteP
    | with_reducible decide
    | split

theorem keeps_acceptUnit : ∀ a0 a1 a2 a3 a4, Keeps 0x2000000000004123800000000007400008000310004c0d00000006e0007cc1d9f0a4b33e700000700000000000080010014a20004000200000100020981a0291000100e000000000540 a4 (acceptUnit a0 a1 a2 a3 a4) := by
  intro a0 a1 a2 a3 a4
  have h0 : Keeps 0x2000000000004123800000000007400008000310004c0d00000006e0007cc1d9f0a4b33e700000700000000000080010014a20004000200000100020981a0291000100e000000000540 a4 a4 := Keeps.refl _
  unfold acceptUnit
  repeat' first
    | with_reducible assumption
    | intro _
    | (extract_lets +onlyGivenNames x; refine Keeps.cut x ?_ (fun hx => ?_); (revert x; show Keeps _ _ _); on_goal 2 => clear_value x)
    | (extract_lets +onlyGivenNames x; clear_value x)
    | with_reducible apply Keeps.step (keeps_State_log _ _ _)
    | with_reducible apply Keeps.step (keeps_State_modConn _ _ _)
    | with_reducible apply Keeps.setBit .SAF_CONN_STATUS (group_SAF_CONN_STATUS _)
    | with_reducible apply Keeps.setR .SAF_CONN_LAST_AGE (group_SAF_CONN_LAST_AGE _)
    | with_reducible apply Keeps.step (keeps_pathSeen _ _ _)
    | with_reducible apply Keeps.step (keeps_permitReview _)
    | with_reducible apply Keeps.step (keeps_showConn _ _)
    | with_reducible apply Keeps.ite
    | with_reducible apply Keeps.iteP
    | with_reducible decide
    | split

theorem keeps_checkUnit : ∀ a0 a1 a2 a3, Keeps 0x2000000000004123800000000007400008000310004c0d00000006e0007cc1d9f0a4b33e700000700000000000080010014e20004000200000100020981a0291000100e000000000540 a3 (checkUnit a0 a1 a2 a3) := by
  intro a0 a1 a2 a3
  have h0 : Keeps 0x2000000000004123800000000007400008000310004c0d00000006e0007cc1d9f0a4b33e700000700000000000080010014e20004000200000100020981a0291000100e000000000540 a3 a3 := Keeps.refl _
  unfold checkUnit
  repeat' first
    | with_reducible assumption
    | intro _
    | (extract_lets +onlyGivenNames x; clear_value x)
    | with_reducible apply Keeps.step (keeps_State_log _ _ _)
    | with_reducible apply Keeps.step (keeps_State_modConn _ _ _)
    | with_reducible apply Keeps.step (keeps_acceptUnit _ _ _ _ _)
    | with_reducible apply Keeps.step (keeps_pathSeen _ _ _)
    | with_reducible apply Keeps.step (keeps_rejectUnit _ _ _)
    | with_reducible apply Keeps.ite
    | with_reducible apply Keeps.iteP
    | with_reducible decide
    | split

theorem keeps_execSafetyUnitReceived : ∀ a0 a1 a2, KeepsR 0x2000000000004123800000000007400008000310004c0d00000006e0007cc1d9f0a4b33e700000700000000000080010034e20004000200000100020981a0291000100e000000000540 a2 (execSafetyUnitReceived a0 a1 a2) := by
  intro a0 a1 a2
  have h0 : Keeps 0x2000000000004123800000000007400008000310004c0d00000006e0007cc1d9f0a4b33e700000700000000000080010034e20004000200000100020981a0291000100e000000000540 a2 a2 := Keeps.refl _
  unfold execSafetyUnitReceived
  repeat' first
    | with_reducible assumption
    | intro _
    | with_reducible apply Keeps.accepted
    | with_reducible apply KeepsR.next
    | with_reducible apply KeepsR.ite
    | (extract_lets +onlyGivenNames x; clear_value x)
    | with_reducible apply Keeps.bump .SAF_UNKNOWN_ID group_SAF_UNKNOWN_ID
    | with_reducible apply Keeps.step (keeps_checkUnit _ _ _ _)
    | with_reducible apply Keeps.ite
    | with_reducible apply Keeps.iteP
    | with_reducible decide
    | with_reducible refine Keeps.of_eq (by assumption) ?_
    | split

theorem keeps_execConnectionTimeout : ∀ a0 a1, KeepsR 0x2000000000004123800000000007400008000310004c0d00000006e0007cc1d9f0a4b33e700000700000000000080010014820004000200000100020981a0291000100e000000000540 a1 (execConnectionTimeout a0 a1) := by
  intro a0 a1
  have h0 : Keeps 0x2000000000004123800000000007400008000310004c0d00000006e0007cc1d9f0a4b33e700000700000000000080010014820004000200000100020981a0291000100e000000000540 a1 a1 := Keeps.refl _
  unfold execConnectionTimeout
  repeat' first
    | with_reducible assumption
    | intro _
    | with_reducible apply Keeps.accepted
    | with_reducible apply KeepsR.next
    | with_reducible apply KeepsR.ite
    | with_reducible apply Keeps.on
    | with_reducible apply Keeps.step (keeps_connSafe _ _ _)
    | with_reducible apply Keeps.ite
    | with_reducible apply Keeps.iteP
    | with_reducible decide
    | split

theorem keeps_execPathTimeout : ∀ a0 a1 a2, KeepsR 0x200000000000000000000000000000000000000000000000000000000000000000000000000000000010800004000000000000000000000000000000000000000100 a2 (execPathTimeout a0 a1 a2) := by
  intro a0 a1 a2
  have h0 : Keeps 0x200000000000000000000000000000000000000000000000000000000000000000000000000000000010800004000000000000000000000000000000000000000100 a2 a2 := Keeps.refl _
  unfold execPathTimeout
  repeat' first
    | with_reducible assumption
    | intro _
    | with_reducible apply Keeps.accepted
    | with_reducible apply KeepsR.next
    | with_reducible apply KeepsR.ite
    | (extract_lets +onlyGivenNames x; clear_value x)
    | extract_lets +onlyGivenNames x
    | with_reducible apply Keeps.step (keeps_State_log _ _ _)
    | with_reducible apply Keeps.step (keeps_State_modConn _ _ _)
    | with_reducible apply Keeps.on
    | with_reducible apply Keeps.step (keeps_showConn _ _)
    | with_reducible apply Keeps.ite
    | with_reducible apply Keeps.iteP
    | with_reducible decide
    | split

theorem keeps_restartConn : ∀ a0 a1 a2, Keeps 0x2000000000004123800000000007400008000310004c0d00000006e0007cc1d9f0a4b33e700000700000000000080010014820004000200000100020981a0291000100e000000000540 a2 (restartConn a0 a1 a2).2 := by
  intro a0 a1 a2
  have h0 : Keeps 0x2000000000004123800000000007400008000310004c0d00000006e0007cc1d9f0a4b33e700000700000000000080010014820004000200000100020981a0291000100e000000000540 a2 a2 := Keeps.refl _
  unfold restartConn
  repeat' first
    | with_reducible assumption
    | intro _
    | with_reducible apply Keeps.step (keeps_connSafe _ _ _)
    | with_reducible apply Keeps.ite
    | with_reducible apply Keeps.iteP
    | with_reducible decide
    | split

theorem keeps_execRestartConn : ∀ a0 a1 a2, KeepsR 0x1402380000000004123800000000007400008000310004c0d00000006e0007cc1d9f0a4b33e700000700000000000080010014820004009200000100020981a0291000100e000000000540 a2 (execRestartConn a0 a1 a2) := by
  intro a0 a1 a2
  have h0 : Keeps 0x1402380000000004123800000000007400008000310004c0d00000006e0007cc1d9f0a4b33e700000700000000000080010014820004009200000100020981a0291000100e000000000540 a2 a2 := Keeps.refl _
  unfold execRestartConn
  repeat' first
    | with_reducible assumption
    | intro _
    | with_reducible apply Keeps.accepted
    | with_reducible apply KeepsR.next
    | with_reducible apply Keeps.request
    | with_reducible apply Keeps.step (keeps_restartConn _ _ _)
    | with_reducible decide

end Sys2Proof.Machine
end

