-- ==== Sys2Proof/Laws/KeepsFieldIo.lean ====
section
/-!
SUPPORT. What each operation of Machine/FieldIo.lean may change.
-/

set_option linter.unusedTactic false
set_option linter.tactic.unusedName false
set_option linter.unreachableTactic false

namespace Sys2Proof.Machine

theorem keeps_inputReview : ∀ a0 a1, Keeps 0x200000000000411d80000000000740000800031f803c0d0000001ee0007cc1dffea6b37e700020700000000000080011257020004000600000100020981a0295000100e000000000540 a1 (inputReview a0 a1) := by
  intro a0 a1
  have h0 : Keeps 0x200000000000411d80000000000740000800031f803c0d0000001ee0007cc1dffea6b37e700020700000000000080011257020004000600000100020981a0295000100e000000000540 a1 a1 := Keeps.refl _
  unfold inputReview
  repeat' first
    | with_reducible assumption
    | intro _
    | (extract_lets +onlyGivenNames x; refine Keeps.cut x ?_ (fun hx => ?_); (revert x; show Keeps _ _ _); on_goal 2 => clear_value x)
    | (extract_lets +onlyGivenNames x; clear_value x)
    | with_reducible apply Keeps.on
    | with_reducible apply Keeps.step (keeps_auxReview _ _)
    | with_reducible apply Keeps.step (keeps_coverReview _)
    | with_reducible apply Keeps.step (keeps_refreshPermissions _)
    | with_reducible apply Keeps.step (keeps_showDi _ _)
    | with_reducible apply Keeps.foldl
    | with_reducible apply Keeps.foldlP
    | with_reducible apply Keeps.ite
    | with_reducible apply Keeps.iteP
    | with_reducible decide
    | split

theorem keeps_diClassed : ∀ a0 a1 a2 a3, Keeps 0x200000000000511d80000000000740000800031f803c0d0000001ee0007cc1dffea6b37e700020700000000000080011257020004000600000100020981a0295000100e000000000540 a3 (diClassed a0 a1 a2 a3) := by
  intro a0 a1 a2 a3
  have h0 : Keeps 0x200000000000511d80000000000740000800031f803c0d0000001ee0007cc1dffea6b37e700020700000000000080011257020004000600000100020981a0295000100e000000000540 a3 a3 := Keeps.refl _
  unfold diClassed
  repeat' first
    | with_reducible assumption
    | intro _
    | (extract_lets +onlyGivenNames x; refine Keeps.cut x ?_ (fun hx => ?_); (revert x; show Keeps _ _ _); on_goal 2 => clear_value x)
    | (extract_lets +onlyGivenNames x; clear_value x)
    | with_reducible apply Keeps.step (keeps_State_log _ _ _)
    | with_reducible apply Keeps.step (keeps_State_modDi _ _ _)
    | with_reducible apply Keeps.step (keeps_inputReview _ _)
    | with_reducible apply Keeps.ite
    | with_reducible apply Keeps.iteP
    | with_reducible decide
    | with_reducible refine Keeps.of_eq (by assumption) ?_
    | split

theorem keeps_diWindow : ∀ a0 a1 a2, Keeps 0x200000000000511d80000000000740000800031f803c0d0000001ee0007cc1dffea6b37e700020700000000000080011257020004000600000100020981a0295000100e000000000540 a2 (diWindow a0 a1 a2) := by
  intro a0 a1 a2
  have h0 : Keeps 0x200000000000511d80000000000740000800031f803c0d0000001ee0007cc1dffea6b37e700020700000000000080011257020004000600000100020981a0295000100e000000000540 a2 a2 := Keeps.refl _
  unfold diWindow
  repeat' first
    | with_reducible assumption
    | intro _
    | (extract_lets +onlyGivenNames x; refine Keeps.cut x ?_ (fun hx => ?_); (revert x; show Keeps _ _ _); on_goal 2 => clear_value x)
    | (extract_lets +onlyGivenNames x; clear_value x)
    | with_reducible apply Keeps.step (keeps_State_log _ _ _)
    | with_reducible apply Keeps.step (keeps_State_modDi _ _ _)
    | with_reducible apply Keeps.step (keeps_inputReview _ _)
    | with_reducible apply Keeps.step (keeps_showDi _ _)
    | with_reducible apply Keeps.ite
    | with_reducible apply Keeps.iteP
    | with_reducible decide
    | split

theorem keeps_diSample : ∀ a0 a1 a2, Keeps 0x200000000000511d80000000000740000800031f803c0d0000001ee0007cc1dffea6b37e700020700000000000080011257020004000600000100020981a0297000100e000000000540 a1 (diSample a0 a1 a2) := by
  intro a0 a1 a2
  have h0 : Keeps 0x200000000000511d80000000000740000800031f803c0d0000001ee0007cc1dffea6b37e700020700000000000080011257020004000600000100020981a0297000100e000000000540 a1 a1 := Keeps.refl _
  unfold diSample
  repeat' first
    | with_reducible assumption
    | intro _
    | (extract_lets +onlyGivenNames x; refine Keeps.cut x ?_ (fun hx => ?_); (revert x; show Keeps _ _ _); on_goal 2 => clear_value x)
    | (extract_lets +onlyGivenNames x; clear_value x)
    | with_reducible apply Keeps.step (keeps_State_modDi _ _ _)
    | with_reducible apply Keeps.setR .FIO_DI_CURRENT (group_FIO_DI_CURRENT _)
    | with_reducible apply Keeps.step (keeps_diClassed _ _ _ _)
    | with_reducible apply Keeps.step (keeps_diWindow _ _ _)
    | with_reducible apply Keeps.ite
    | with_reducible apply Keeps.iteP
    | with_reducible decide
    | with_reducible refine Keeps.of_eq (by assumption) ?_
    | split

theorem keeps_diFeed : ∀ a0 a1 a2, Keeps 0x200000000000511d80000000000740000800031f803c0d0000001ee0007cc1dffea6b37e700020700000000000080011257020004000600000100020981a0297000100e000000000540 a2 (diFeed a0 a1 a2) := by
  intro a0 a1 a2
  have h0 : Keeps 0x200000000000511d80000000000740000800031f803c0d0000001ee0007cc1dffea6b37e700020700000000000080011257020004000600000100020981a0297000100e000000000540 a2 a2 := Keeps.refl _
  unfold diFeed
  repeat' first
    | with_reducible assumption
    | intro _
    | with_reducible apply Keeps.on
    | with_reducible apply Keeps.step (keeps_diSample _ _ _)
    | with_reducible apply Keeps.foldl
    | with_reducible apply Keeps.foldlP
    | with_reducible decide

theorem keeps_execDiStateChange : ∀ a0 a1 a2, KeepsR 0x200000000000511d80000000000740000800031f803c0d0000001ee0007cc1dffea6b37e700020700000000000080011257020004000600000100020981a0297000100e000000000540 a2 (execDiStateChange a0 a1 a2) := by
  intro a0 a1 a2
  have h0 : Keeps 0x200000000000511d80000000000740000800031f803c0d0000001ee0007cc1dffea6b37e700020700000000000080011257020004000600000100020981a0297000100e000000000540 a2 a2 := Keeps.refl _
  unfold execDiStateChange
  repeat' first
    | with_reducible assumption
    | intro _
    | with_reducible apply Keeps.accepted
    | with_reducible apply KeepsR.next
    | with_reducible apply Keeps.step (keeps_diFeed _ _ _)
    | with_reducible decide

theorem keeps_execDiLineFault : ∀ a0 a1 a2 a3, KeepsR 0x200000000000511d80000000000740000800031f803c0d0000001ee0007cc1dffea6b37e700020700000000000080011257020004000600000100020981a0297000100e000000000540 a3 (execDiLineFault a0 a1 a2 a3) := by
  intro a0 a1 a2 a3
  have h0 : Keeps 0x200000000000511d80000000000740000800031f803c0d0000001ee0007cc1dffea6b37e700020700000000000080011257020004000600000100020981a0297000100e000000000540 a3 a3 := Keeps.refl _
  unfold execDiLineFault
  repeat' first
    | with_reducible assumption
    | intro _
    | with_reducible apply Keeps.accepted
    | with_reducible apply KeepsR.next
    | with_reducible apply Keeps.step (keeps_diFeed _ _ _)
    | with_reducible decide

theorem keeps_execDiLineFaultEnd : ∀ a0 a1 a2 a3, KeepsR 0x200000000000511d80000000000740000800031f803c0d0000001ee0007cc1dffea6b37e700020700000000000080011257020004000600000100020981a0297000100e000000000540 a3 (execDiLineFaultEnd a0 a1 a2 a3) := by
  intro a0 a1 a2 a3
  have h0 : Keeps 0x200000000000511d80000000000740000800031f803c0d0000001ee0007cc1dffea6b37e700020700000000000080011257020004000600000100020981a0297000100e000000000540 a3 a3 := Keeps.refl _
  unfold execDiLineFaultEnd
  repeat' first
    | with_reducible assumption
    | intro _
    | with_reducible apply Keeps.accepted
    | with_reducible apply KeepsR.next
    | with_reducible apply Keeps.step (keeps_diFeed _ _ _)
    | with_reducible decide

theorem keeps_execFieldOutputCommand : ∀ a0 a1 a2 a3, KeepsR 0x200000000000000000000000000000000000000000000000000000000000000000000000000000000000000000004000000000000000000000500000000000000000100 a3 (execFieldOutputCommand a0 a1 a2 a3) := by
  intro a0 a1 a2 a3
  have h0 : Keeps 0x200000000000000000000000000000000000000000000000000000000000000000000000000000000000000000004000000000000000000000500000000000000000100 a3 a3 := Keeps.refl _
  unfold execFieldOutputCommand
  repeat' first
    | with_reducible assumption
    | intro _
    | with_reducible apply Keeps.accepted
    | with_reducible apply KeepsR.next
    | with_reducible apply Keeps.step (keeps_fieldOut _ _ _ _)
    | with_reducible decide

theorem keeps_setDoCurrent : ∀ a0 a1 a2, Keeps 0x80000000000000000000 a2 (setDoCurrent a0 a1 a2) := by
  intro a0 a1 a2
  have h0 : Keeps 0x80000000000000000000 a2 a2 := Keeps.refl _
  unfold setDoCurrent
  repeat' first
    | with_reducible assumption
    | intro _
    | with_reducible apply Keeps.setR .FIO_DO_CURRENT (group_FIO_DO_CURRENT _)
    | with_reducible decide

theorem keeps_execDoOverload : ∀ a0 a1 a2, KeepsR 0x200000000000000000000000000000000000000000000000000000000000000000000000000000000000000000004000000000000000000000180000000000000000100 a2 (execDoOverload a0 a1 a2) := by
  intro a0 a1 a2
  have h0 : Keeps 0x200000000000000000000000000000000000000000000000000000000000000000000000000000000000000000004000000000000000000000180000000000000000100 a2 a2 := Keeps.refl _
  unfold execDoOverload
  repeat' first
    | with_reducible assumption
    | intro _
    | with_reducible apply Keeps.accepted
    | with_reducible apply KeepsR.next
    | with_reducible apply KeepsR.ite
    | (extract_lets +onlyGivenNames x; clear_value x)
    | with_reducible apply Keeps.step (keeps_State_log _ _ _)
    | with_reducible apply Keeps.step (keeps_State_modDo _ _ _)
    | with_reducible apply Keeps.on
    | with_reducible apply Keeps.step (keeps_setDoCurrent _ _ _)
    | with_reducible apply Keeps.step (keeps_showOut _ _)
    | with_reducible apply Keeps.ite
    | with_reducible apply Keeps.iteP
    | with_reducible decide
    | split

theorem keeps_execDoOpenWire : ∀ a0 a1 a2, KeepsR 0x4000000000000000000000180000000000000000100 a2 (execDoOpenWire a0 a1 a2) := by
  intro a0 a1 a2
  have h0 : Keeps 0x4000000000000000000000180000000000000000100 a2 a2 := Keeps.refl _
  unfold execDoOpenWire
  repeat' first
    | with_reducible assumption
    | intro _
    | with_reducible apply Keeps.accepted
    | with_reducible apply KeepsR.next
    | with_reducible apply KeepsR.ite
    | with_reducible apply Keeps.step (keeps_State_log _ _ _)
    | with_reducible apply Keeps.on
    | with_reducible apply Keeps.setBit .FIO_DO_STATUS (group_FIO_DO_STATUS _)
    | with_reducible apply Keeps.step (keeps_setDoCurrent _ _ _)
    | with_reducible apply Keeps.ite
    | with_reducible apply Keeps.iteP
    | with_reducible decide
    | split

theorem keeps_execDoOpenWireClear : ∀ a0 a1 a2, KeepsR 0x180000000000000000000 a2 (execDoOpenWireClear a0 a1 a2) := by
  intro a0 a1 a2
  have h0 : Keeps 0x180000000000000000000 a2 a2 := Keeps.refl _
  unfold execDoOpenWireClear
  repeat' first
    | with_reducible assumption
    | intro _
    | with_reducible apply Keeps.accepted
    | with_reducible apply KeepsR.next
    | with_reducible apply KeepsR.ite
    | with_reducible apply Keeps.on
    | with_reducible apply Keeps.setBit .FIO_DO_STATUS (group_FIO_DO_STATUS _)
    | with_reducible apply Keeps.step (keeps_setDoCurrent _ _ _)
    | with_reducible apply Keeps.ite
    | with_reducible apply Keeps.iteP
    | with_reducible decide
    | split

theorem keeps_execDoOverTemp : ∀ a0 a1, KeepsR 0x200000000000000000000000000000000000000000000000000000000000000000000000000000000000000000004000000000000000000000100000000000000000100 a1 (execDoOverTemp a0 a1) := by
  intro a0 a1
  have h0 : Keeps 0x200000000000000000000000000000000000000000000000000000000000000000000000000000000000000000004000000000000000000000100000000000000000100 a1 a1 := Keeps.refl _
  unfold execDoOverTemp
  repeat' first
    | with_reducible assumption
    | intro _
    | with_reducible apply Keeps.accepted
    | with_reducible apply KeepsR.next
    | with_reducible apply KeepsR.ite
    | with_reducible apply Keeps.step (keeps_State_log _ _ _)
    | with_reducible apply Keeps.step (keeps_State_modDo _ _ _)
    | with_reducible apply Keeps.on
    | with_reducible apply Keeps.step (keeps_showOut _ _)
    | with_reducible apply Keeps.ite
    | with_reducible apply Keeps.iteP
    | with_reducible decide
    | split

theorem keeps_execDoOverTempEnd : ∀ a0 a1, KeepsR 0x200000000000000000000000000000000000000000000000000000000000000000000000000000000000000000000000000000000000000000100000000000000000000 a1 (execDoOverTempEnd a0 a1) := by
  intro a0 a1
  have h0 : Keeps 0x200000000000000000000000000000000000000000000000000000000000000000000000000000000000000000000000000000000000000000100000000000000000000 a1 a1 := Keeps.refl _
  unfold execDoOverTempEnd
  repeat' first
    | with_reducible assumption
    | intro _
    | with_reducible apply Keeps.accepted
    | with_reducible apply KeepsR.next
    | with_reducible apply KeepsR.ite
    | with_reducible apply Keeps.step (keeps_State_modDo _ _ _)
    | with_reducible apply Keeps.on
    | with_reducible apply Keeps.step (keeps_showOut _ _)
    | with_reducible apply Keeps.ite
    | with_reducible apply Keeps.iteP
    | with_reducible decide
    | split

theorem keeps_execField24Fault : ∀ a0 a1, KeepsR 0xc00000000000000000000000000000000000000000000000000000000000000000000000000000000000000000004000000000000000000000910000000000000000100 a1 (execField24Fault a0 a1) := by
  intro a0 a1
  have h0 : Keeps 0xc00000000000000000000000000000000000000000000000000000000000000000000000000000000000000000004000000000000000000000910000000000000000100 a1 a1 := Keeps.refl _
  unfold execField24Fault
  repeat' first
    | with_reducible assumption
    | ((with_reducible refine FioField.upd_of ?_); intro i x hi; cases i <;> first | exact Keeps.no rfl hi | exact rfl | (split <;> rfl) | ((repeat' split) <;> rfl))
    | intro _
    | with_reducible apply Keeps.accepted
    | with_reducible apply KeepsR.next
    | with_reducible apply KeepsR.ite
    | with_reducible apply Keeps.step (keeps_State_log _ _ _)
    | with_reducible refine Keeps.modFio ?_ ?_
    | with_reducible apply Keeps.on
    | with_reducible apply Keeps.step (keeps_showField _)
    | with_reducible apply Keeps.ite
    | with_reducible apply Keeps.iteP
    | with_reducible decide
    | split

theorem keeps_execField24Restored : ∀ a0 a1, KeepsR 0xc00000000000000000000000000000000000000000000000000000000000000000000000000000000000000000004000000000000000000000910000000000000000100 a1 (execField24Restored a0 a1) := by
  intro a0 a1
  have h0 : Keeps 0xc00000000000000000000000000000000000000000000000000000000000000000000000000000000000000000004000000000000000000000910000000000000000100 a1 a1 := Keeps.refl _
  unfold execField24Restored
  repeat' first
    | with_reducible assumption
    | ((with_reducible refine FioField.upd_of ?_); intro i x hi; cases i <;> first | exact Keeps.no rfl hi | exact rfl | (split <;> rfl) | ((repeat' split) <;> rfl))
    | intro _
    | with_reducible apply Keeps.accepted
    | with_reducible apply KeepsR.next
    | with_reducible apply KeepsR.ite
    | with_reducible apply Keeps.step (keeps_State_log _ _ _)
    | with_reducible refine Keeps.modFio ?_ ?_
    | with_reducible apply Keeps.on
    | with_reducible apply Keeps.step (keeps_showField _)
    | with_reducible apply Keeps.ite
    | with_reducible apply Keeps.iteP
    | with_reducible decide
    | split

theorem keeps_execContactorDriverCommand : ∀ a0 a1 a2 a3, KeepsR 0x400000000000000000000000000000000000000000000000000000000000000000000000000000000000000000004000000000000000000000418000000000000000100 a3 (execContactorDriverCommand a0 a1 a2 a3) := by
  intro a0 a1 a2 a3
  have h0 : Keeps 0x400000000000000000000000000000000000000000000000000000000000000000000000000000000000000000004000000000000000000000418000000000000000100 a3 a3 := Keeps.refl _
  unfold execContactorDriverCommand
  repeat' first
    | with_reducible assumption
    | intro _
    | with_reducible apply Keeps.accepted
    | with_reducible apply KeepsR.next
    | with_reducible apply Keeps.step (keeps_driverOut _ _ _ _)
    | with_reducible decide

theorem keeps_setCdCurrent : ∀ a0 a1 a2, Keeps 0x4000000000000000000 a2 (setCdCurrent a0 a1 a2) := by
  intro a0 a1 a2
  have h0 : Keeps 0x4000000000000000000 a2 a2 := Keeps.refl _
  unfold setCdCurrent
  repeat' first
    | with_reducible assumption
    | intro _
    | with_reducible apply Keeps.setR .FIO_CD_CURRENT (group_FIO_CD_CURRENT _)
    | with_reducible decide

theorem keeps_execCdOvercurrent : ∀ a0 a1 a2, KeepsR 0x400080000000000000000000000000000000000000000000000000000000000000000000000000000000014000004000000000000000000000014000000000000000100 a2 (execCdOvercurrent a0 a1 a2) := by
  intro a0 a1 a2
  have h0 : Keeps 0x400080000000000000000000000000000000000000000000000000000000000000000000000000000000014000004000000000000000000000014000000000000000100 a2 a2 := Keeps.refl _
  unfold execCdOvercurrent
  repeat' first
    | with_reducible assumption
    | intro _
    | with_reducible apply Keeps.accepted
    | with_reducible apply KeepsR.next
    | with_reducible apply KeepsR.ite
    | (extract_lets +onlyGivenNames x; refine Keeps.cut x ?_ (fun hx => ?_); (revert x; show Keeps _ _ _); on_goal 2 => clear_value x)
    | (extract_lets +onlyGivenNames x; clear_value x)
    | with_reducible apply Keeps.step (keeps_State_log _ _ _)
    | with_reducible apply Keeps.step (keeps_State_modCd _ _ _)
    | with_reducible apply Keeps.on
    | with_reducible apply Keeps.step (keeps_setCdCurrent _ _ _)
    | with_reducible apply Keeps.step (keeps_showDrv _ _)
    | with_reducible apply Keeps.step (keeps_socFault _ _)
    | with_reducible apply Keeps.ite
    | with_reducible apply Keeps.iteP
    | with_reducible decide
    | split

theorem keeps_cdClear : ∀ a0 a1, Keeps 0x400000000000000000000000000000000000000000000000000000000000000000000000000000000000000000000000000000000000000000010000000000000000000 a1 (cdClear a0 a1).2 := by
  intro a0 a1
  have h0 : Keeps 0x400000000000000000000000000000000000000000000000000000000000000000000000000000000000000000000000000000000000000000010000000000000000000 a1 a1 := Keeps.refl _
  unfold cdClear
  repeat' first
    | with_reducible assumption
    | intro _
    | with_reducible apply Keeps.step (keeps_State_modCd _ _ _)
    | with_reducible apply Keeps.step (keeps_showDrv _ _)
    | with_reducible apply Keeps.ite
    | with_reducible apply Keeps.iteP
    | with_reducible decide
    | split

theorem keeps_execCdClear : ∀ a0 a1 a2, KeepsR 0x140038000000000400000000000000000000000000000000000000000000000000000000000000000000000000000000000000000000009000000000000000000010000000000000000040 a2 (execCdClear a0 a1 a2) := by
  intro a0 a1 a2
  have h0 : Keeps 0x140038000000000400000000000000000000000000000000000000000000000000000000000000000000000000000000000000000000009000000000000000000010000000000000000040 a2 a2 := Keeps.refl _
  unfold execCdClear
  repeat' first
    | with_reducible assumption
    | intro _
    | with_reducible apply Keeps.accepted
    | with_reducible apply KeepsR.next
    | with_reducible apply Keeps.step (keeps_cdClear _ _)
    | with_reducible apply Keeps.owned
    | with_reducible apply Keeps.request
    | with_reducible decide

theorem keeps_execCdOpenCoil : ∀ a0 a1 a2, KeepsR 0x4000000000000000000000014000000000000000100 a2 (execCdOpenCoil a0 a1 a2) := by
  intro a0 a1 a2
  have h0 : Keeps 0x4000000000000000000000014000000000000000100 a2 a2 := Keeps.refl _
  unfold execCdOpenCoil
  repeat' first
    | with_reducible assumption
    | intro _
    | with_reducible apply Keeps.accepted
    | with_reducible apply KeepsR.next
    | with_reducible apply KeepsR.ite
    | with_reducible apply Keeps.step (keeps_State_log _ _ _)
    | with_reducible apply Keeps.on
    | with_reducible apply Keeps.setBit .FIO_CD_STATUS (group_FIO_CD_STATUS _)
    | with_reducible apply Keeps.step (keeps_setCdCurrent _ _ _)
    | with_reducible apply Keeps.ite
    | with_reducible apply Keeps.iteP
    | with_reducible decide
    | split

theorem keeps_execCdOpenCoilEnd : ∀ a0 a1 a2, KeepsR 0x14000000000000000000 a2 (execCdOpenCoilEnd a0 a1 a2) := by
  intro a0 a1 a2
  have h0 : Keeps 0x14000000000000000000 a2 a2 := Keeps.refl _
  unfold execCdOpenCoilEnd
  repeat' first
    | with_reducible assumption
    | intro _
    | with_reducible apply Keeps.accepted
    | with_reducible apply KeepsR.next
    | with_reducible apply KeepsR.ite
    | with_reducible apply Keeps.on
    | with_reducible apply Keeps.setBit .FIO_CD_STATUS (group_FIO_CD_STATUS _)
    | with_reducible apply Keeps.step (keeps_setCdCurrent _ _ _)
    | with_reducible apply Keeps.ite
    | with_reducible apply Keeps.iteP
    | with_reducible decide
    | split

theorem keeps_execCdReadbackMismatch : ∀ a0 a1 a2, KeepsR 0x4000000000000000000000010000000000000000100 a2 (execCdReadbackMismatch a0 a1 a2) := by
  intro a0 a1 a2
  have h0 : Keeps 0x4000000000000000000000010000000000000000100 a2 a2 := Keeps.refl _
  unfold execCdReadbackMismatch
  repeat' first
    | with_reducible assumption
    | intro _
    | with_reducible apply Keeps.accepted
    | with_reducible apply KeepsR.next
    | with_reducible apply KeepsR.ite
    | with_reducible apply Keeps.step (keeps_State_log _ _ _)
    | with_reducible apply Keeps.on
    | with_reducible apply Keeps.setBit .FIO_CD_STATUS (group_FIO_CD_STATUS _)
    | with_reducible apply Keeps.ite
    | with_reducible apply Keeps.iteP
    | with_reducible decide
    | split

theorem keeps_fieldForce : ∀ a0 a1 a2, Keeps 0x1600000000000000000000000000000000000000000000000000000000000000000000000000000000000000000000000000000000000000000b10000000000000000000 a2 (fieldForce a0 a1 a2).2 := by
  intro a0 a1 a2
  have h0 : Keeps 0x1600000000000000000000000000000000000000000000000000000000000000000000000000000000000000000000000000000000000000000b10000000000000000000 a2 a2 := Keeps.refl _
  unfold fieldForce
  repeat' first
    | with_reducible assumption
    | ((with_reducible refine FioField.upd_of ?_); intro i x hi; cases i <;> first | exact Keeps.no rfl hi | exact rfl | (split <;> rfl) | ((repeat' split) <;> rfl))
    | intro _
    | (extract_lets +onlyGivenNames x; refine Keeps.cut x ?_ (fun hx => ?_); (revert x; show Keeps _ _ _); on_goal 2 => clear_value x)
    | (extract_lets +onlyGivenNames x; clear_value x)
    | with_reducible refine Keeps.modFio ?_ ?_
    | with_reducible apply Keeps.setN .FIO_FORCE group_FIO_FORCE
    | with_reducible apply Keeps.step (keeps_showField _)
    | with_reducible apply Keeps.ite
    | with_reducible apply Keeps.iteP
    | with_reducible decide
    | split

theorem keeps_execFieldForce : ∀ a0 a1 a2, KeepsR 0x140038000000001600000000000000000000000000000000000000000000000000000000000000000000000000000000000000000000009000000000000000000b10000000000000000040 a2 (execFieldForce a0 a1 a2) := by
  intro a0 a1 a2
  have h0 : Keeps 0x140038000000001600000000000000000000000000000000000000000000000000000000000000000000000000000000000000000000009000000000000000000b10000000000000000040 a2 a2 := Keeps.refl _
  unfold execFieldForce
  repeat' first
    | with_reducible assumption
    | intro _
    | with_reducible apply Keeps.accepted
    | with_reducible apply KeepsR.next
    | with_reducible apply Keeps.step (keeps_fieldForce _ _ _)
    | with_reducible apply Keeps.request
    | with_reducible decide

end Sys2Proof.Machine
end

