-- ==== Sys2Proof/Laws/KeepsBootOps.lean ====
section
/-!
SUPPORT. What each operation of Machine/BootOps.lean may change.
-/

set_option linter.unusedTactic false
set_option linter.tactic.unusedName false
set_option linter.unreachableTactic false

namespace Sys2Proof.Machine

theorem keeps_restart (s : State) : Keeps 0x3cf0fffffffffff3bff3fffffffffffffffffffffffffffffffffffffffffffffffffffffffffffff79fffffffffffffffffffffffffffffffffffffffffffffffffffffffffffffffffffffd3e s (restart s) := by
  unfold restart
  refine Keeps.setN .THM_SHUTDOWN_SENSOR group_THM_SHUTDOWN_SENSOR (by decide) _ (Keeps.setBit .NVS_STATUS group_NVS_STATUS (by decide) _ _
    (Keeps.setN .THM_BROKEN group_THM_BROKEN (by decide) _ ?_))
  refine ⟨fun p hp => ?_, fun i => ⟨cellsWf_overlay _ (cellsWf_filter _ i.objs), ?_, ⟨i.log.rising, i.log.below, i.log.room⟩⟩, le_refl _⟩
  · cases p with
    | obj g => exact absurd hp (by cases g <;> decide)
    | buffer => exact fun _ h => h
    | isl f => cases f <;> exact Keeps.no rfl hp
    | mod f => cases f <;> first | exact Keeps.no rfl hp | exact rfl
    | stg f => cases f <;> exact Keeps.no rfl hp
    | shr f => cases f <;> exact Keeps.no rfl hp
    | frt f => cases f <;> exact Keeps.no rfl hp
    | srv f => cases f <;> exact Keeps.no rfl hp
    | pie f => cases f <;> exact Keeps.no rfl hp
    | edg f => cases f <;> exact Keeps.no rfl hp
    | gdv f => cases f <;> exact Keeps.no rfl hp
    | acq f => cases f <;> exact Keeps.no rfl hp
    | gal f => cases f <;> exact Keeps.no rfl hp
    | clk f => cases f <;> exact Keeps.no rfl hp
    | twn f => cases f <;> exact Keeps.no rfl hp
    | saf f => cases f <;> exact Keeps.no rfl hp
    | fio f => cases f <;> exact Keeps.no rfl hp
    | sup f => cases f <;> first | exact Keeps.no rfl hp | exact rfl
    | lgc f => cases f <;> first | exact Keeps.no rfl hp | exact rfl
    | net f => cases f <;> exact Keeps.no rfl hp
    | nvs f => cases f <;> first | exact Keeps.no rfl hp | exact rfl
    | _ => first | exact Keeps.no rfl hp | exact rfl
  · dsimp only
    split
    · rfl
    · exact i.saved

theorem keeps_enterHalt : ∀ a0 a1, Keeps 0x3cf0fffffffffff3bff3fffffffffffffffffffffffffffffffffffffffffffffffffffffffffffff79fffffffffffffffffffffffffffffffffffffffffffffffffffffffffffffffffffffd3e a1 (enterHalt a0 a1) := by
  intro a0 a1
  have h0 : Keeps 0x3cf0fffffffffff3bff3fffffffffffffffffffffffffffffffffffffffffffffffffffffffffffff79fffffffffffffffffffffffffffffffffffffffffffffffffffffffffffffffffffffd3e a1 a1 := Keeps.refl _
  unfold enterHalt
  repeat' first
    | with_reducible assumption
    | intro _
    | (extract_lets +onlyGivenNames x; refine Keeps.cut x ?_ (fun hx => ?_); (revert x; show Keeps _ _ _); on_goal 2 => clear_value x)
    | (extract_lets +onlyGivenNames x; clear_value x)
    | with_reducible apply Keeps.bump .MOD_TRANSITION_COUNT group_MOD_TRANSITION_COUNT
    | with_reducible apply Keeps.step (keeps_State_log _ _ _)
    | with_reducible apply Keeps.step (keeps_restart _)
    | with_reducible apply Keeps.ite
    | with_reducible apply Keeps.iteP
    | with_reducible decide
    | split

theorem keeps_powerLoss (s : State) : Keeps 0x3cf0fffffffffff3bfffffffffffffffffffffffffffffffffffffffffffffffffffffffffffffffffbffffffffffffffffffffffffffffffffffffffffffffffffffffffffffffffffffffff3e s (powerLoss s) := by
  unfold powerLoss
  refine Keeps.setN .THM_SHUTDOWN_SENSOR group_THM_SHUTDOWN_SENSOR (by decide) _ (Keeps.setN .THM_BROKEN group_THM_BROKEN (by decide) _ ?_)
  refine Keeps.upd_log (Keeps.upd_sup (Keeps.modMod (g := fun m => { m with powered := false, thermalLatch := false })
    (fun _ i hi => by cases i <;> first | exact Keeps.no rfl hi | exact rfl) (Keeps.step (keeps_enterHalt 1 s) (by decide) (Keeps.refl s))) SupplySt.init
    (fun i hi => by cases i <;> exact Keeps.no rfl hi)) (by decide) (by decide) [] _ ?_ (Nat.zero_le _)
  rw [List.append_nil]
  exact List.sublist_append_left _ _

theorem keeps_showStores : ∀ a0, Keeps 0x8000000000000000000000000000000000000000000 a0 (showStores a0) := by
  intro a0
  have h0 : Keeps 0x8000000000000000000000000000000000000000000 a0 a0 := Keeps.refl _
  unfold showStores
  repeat' first
    | with_reducible assumption
    | intro _
    | with_reducible apply Keeps.setBit .NVS_STATUS group_NVS_STATUS
    | with_reducible decide

theorem keeps_deferStore : ∀ a0 a1 a2 a3, Keeps 0x400000000000000000000000000000000000000000000000000000000000000000000000000000000000000000000000000000000000c200000000000000000000000000000000000000100 a3 (deferStore a0 a1 a2 a3) := by
  intro a0 a1 a2 a3
  have h0 : Keeps 0x400000000000000000000000000000000000000000000000000000000000000000000000000000000000000000000000000000000000c200000000000000000000000000000000000000100 a3 a3 := Keeps.refl _
  unfold deferStore
  repeat' first
    | with_reducible assumption
    | ((with_reducible refine NvsField.upd_of ?_); intro i x hi; cases i <;> first | exact Keeps.no rfl hi | exact rfl | (split <;> rfl) | ((repeat' split) <;> rfl))
    | intro _
    | (extract_lets +onlyGivenNames x; refine Keeps.cut x ?_ (fun hx => ?_); (revert x; show Keeps _ _ _); on_goal 2 => clear_value x)
    | (extract_lets +onlyGivenNames x; clear_value x)
    | with_reducible apply Keeps.bump .NVS_DEFERRED group_NVS_DEFERRED
    | with_reducible apply Keeps.step (keeps_State_log _ _ _)
    | with_reducible refine Keeps.modNvs ?_ ?_
    | with_reducible apply Keeps.step (keeps_showStores _)
    | with_reducible apply Keeps.ite
    | with_reducible apply Keeps.iteP
    | with_reducible decide
    | split

theorem keeps_undeferStore : ∀ a0 a1, Keeps 0x4000000000000000000000000000000000000000000000000000000000000000000000000000000000000000000000000000000000008000000000000000000000000000000000000000000 a1 (undeferStore a0 a1) := by
  intro a0 a1
  have h0 : Keeps 0x4000000000000000000000000000000000000000000000000000000000000000000000000000000000000000000000000000000000008000000000000000000000000000000000000000000 a1 a1 := Keeps.refl _
  unfold undeferStore
  repeat' first
    | with_reducible assumption
    | ((with_reducible refine NvsField.upd_of ?_); intro i x hi; cases i <;> first | exact Keeps.no rfl hi | exact rfl | (split <;> rfl) | ((repeat' split) <;> rfl))
    | intro _
    | with_reducible refine Keeps.modNvs ?_ ?_
    | with_reducible apply Keeps.step (keeps_showStores _)
    | with_reducible decide

theorem keeps_startStores : ∀ a0 a1, Keeps 0xc00700000000000000000000000000000000000000000000000000000000000000000000000000000000000000000000000000000000000d200000000000000000000000000000000000000100 a1 (startStores a0 a1) := by
  intro a0 a1
  have h0 : Keeps 0xc00700000000000000000000000000000000000000000000000000000000000000000000000000000000000000000000000000000000000d200000000000000000000000000000000000000100 a1 a1 := Keeps.refl _
  unfold startStores
  repeat' first
    | with_reducible assumption
    | ((with_reducible refine NvsField.upd_of ?_); intro i x hi; cases i <;> first | exact Keeps.no rfl hi | exact rfl | (split <;> rfl) | ((repeat' split) <;> rfl))
    | intro _
    | (extract_lets +onlyGivenNames x; refine Keeps.cut x ?_ (fun hx => ?_); (revert x; show Keeps _ _ _); on_goal 2 => clear_value x)
    | (extract_lets +onlyGivenNames x; clear_value x)
    | with_reducible refine Keeps.modNvs ?_ ?_
    | with_reducible apply Keeps.setR .NVS_HOLD_V group_NVS_HOLD_V
    | with_reducible apply Keeps.step (keeps_deferStore _ _ _ _)
    | with_reducible apply Keeps.step (keeps_undeferStore _ _)
    | with_reducible apply Keeps.ite
    | with_reducible apply Keeps.iteP
    | with_reducible decide
    | with_reducible refine Keeps.of_eq (by assumption) ?_
    | split

theorem keeps_requestStore : ∀ a0 a1 a2 a3 a4 a5, Keeps 0xc00700000000000000000000000000000000000000000000000000000000000000000000000000000000000000000000000000000000000d200000000000000000000000000000000000000100 a5 (requestStore a0 a1 a2 a3 a4 a5) := by
  intro a0 a1 a2 a3 a4 a5
  have h0 : Keeps 0xc00700000000000000000000000000000000000000000000000000000000000000000000000000000000000000000000000000000000000d200000000000000000000000000000000000000100 a5 a5 := Keeps.refl _
  unfold requestStore
  repeat' first
    | with_reducible assumption
    | ((with_reducible refine NvsField.upd_of ?_); intro i x hi; cases i <;> first | exact Keeps.no rfl hi | exact rfl | (split <;> rfl) | ((repeat' split) <;> rfl))
    | intro _
    | with_reducible refine Keeps.modNvs ?_ ?_
    | with_reducible apply Keeps.step (keeps_startStores _ _)
    | with_reducible apply Keeps.ite
    | with_reducible apply Keeps.iteP
    | with_reducible decide
    | split

theorem keeps_reportDropped : ∀ a0, Keeps 0x20000000000000000000000000000000000000000000000000000000000000000000000000000000000000000000000000000000000000004000000000000000000000000000000000000000100 a0 (reportDropped a0) := by
  intro a0
  have h0 : Keeps 0x20000000000000000000000000000000000000000000000000000000000000000000000000000000000000000000000000000000000000004000000000000000000000000000000000000000100 a0 a0 := Keeps.refl _
  unfold reportDropped
  repeat' first
    | with_reducible assumption
    | ((with_reducible refine NvsField.upd_of ?_); intro i x hi; cases i <;> first | exact Keeps.no rfl hi | exact rfl | (split <;> rfl) | ((repeat' split) <;> rfl))
    | intro _
    | (extract_lets +onlyGivenNames x; clear_value x)
    | with_reducible apply Keeps.step (keeps_State_log _ _ _)
    | with_reducible refine Keeps.modNvs ?_ ?_
    | with_reducible apply Keeps.ite
    | with_reducible apply Keeps.iteP
    | with_reducible decide
    | split

theorem keeps_retireSector : ∀ a0 a1, Keeps 0x304000000000000000000000000000000000000000000000000000000000000000000000000000000000000000000000000000000000000c000000000000000000000000000000000000000100 a1 (retireSector a0 a1) := by
  intro a0 a1
  have h0 : Keeps 0x304000000000000000000000000000000000000000000000000000000000000000000000000000000000000000000000000000000000000c000000000000000000000000000000000000000100 a1 a1 := Keeps.refl _
  unfold retireSector
  repeat' first
    | with_reducible assumption
    | ((with_reducible refine NvsField.upd_of ?_); intro i x hi; cases i <;> first | exact Keeps.no rfl hi | exact rfl | (split <;> rfl) | ((repeat' split) <;> rfl))
    | intro _
    | (extract_lets +onlyGivenNames x; refine Keeps.cut x ?_ (fun hx => ?_); (revert x; show Keeps _ _ _); on_goal 2 => clear_value x)
    | (extract_lets +onlyGivenNames x; clear_value x)
    | with_reducible apply Keeps.step (keeps_State_log _ _ _)
    | with_reducible refine Keeps.modNvs ?_ ?_
    | with_reducible apply Keeps.setBit .NVS_STATUS group_NVS_STATUS
    | with_reducible apply Keeps.ite
    | with_reducible apply Keeps.iteP
    | with_reducible decide
    | split

theorem keeps_eraseSector (s : State) : Keeps 0x100 s (eraseSector s) := by
  unfold eraseSector
  exact Keeps.upd_flash (Keeps.refl s) (by decide) _ (List.drop_sublist _ _)

theorem keeps_pageWritten (s : State) : Keeps 0x23001000000000000000000000000000000000000000000000000000000000000000000000000000000000000000000000000000000000004000000000000000000000000000000000000000300 s (pageWritten s) := by
  unfold pageWritten
  refine Keeps.step (keeps_reportDropped _) (by decide) (Keeps.modNvs (fun _ i hi => by cases i <;> first | exact Keeps.no rfl hi | (split <;> rfl)) ?_)
  refine Keeps.upd_log (Keeps.refl s) (by decide) (by decide) (s.logBuf.drop 4) (s.logFlash ++ s.logBuf.take 4) ?_ ?_
  · rw [List.append_assoc, List.take_append_drop]
  · rw [List.length_drop]
    exact Nat.sub_le _ _

theorem keeps_requestPage : ∀ a0 a1, Keeps 0xc00700000000000000000000000000000000000000000000000000000000000000000000000000000000000000000000000000000000000d200000000000000000000000000000000000000100 a1 (requestPage a0 a1) := by
  intro a0 a1
  have h0 : Keeps 0xc00700000000000000000000000000000000000000000000000000000000000000000000000000000000000000000000000000000000000d200000000000000000000000000000000000000100 a1 a1 := Keeps.refl _
  unfold requestPage
  repeat' first
    | with_reducible assumption
    | intro _
    | with_reducible apply Keeps.step (keeps_requestStore _ _ _ _ _ _)
    | with_reducible apply Keeps.step (keeps_startStores _ _)
    | with_reducible apply Keeps.ite
    | with_reducible apply Keeps.iteP
    | with_reducible decide
    | with_reducible refine Keeps.of_eq (by assumption) ?_
    | split

end Sys2Proof.Machine
end

