-- ==== Sys2Proof/Laws/KeepsStores.lean ====
section
/-!
SUPPORT. What each operation of Machine/Stores.lean may change.
-/

set_option linter.unusedTactic false
set_option linter.tactic.unusedName false
set_option linter.unreachableTactic false

namespace Sys2Proof.Machine

theorem keeps_State_modCvu : ∀ a0 a1 a2, Keeps 0x800000000000000000000000000000000000000000000000000000000000000000000000000000000000000000000000000000000000000000000000000000000000000000000000000000 a0 (State.modCvu a0 a1 a2) := by
  intro a0 a1 a2
  have h0 : Keeps 0x800000000000000000000000000000000000000000000000000000000000000000000000000000000000000000000000000000000000000000000000000000000000000000000000000000 a0 a0 := Keeps.refl _
  unfold State.modCvu
  repeat' first
    | with_reducible assumption
    | ((with_reducible refine NvsField.upd_of ?_); intro i x hi; cases i <;> first | exact Keeps.no rfl hi | exact rfl | (split <;> rfl) | ((repeat' split) <;> rfl))
    | intro _
    | with_reducible refine Keeps.modNvs ?_ ?_
    | with_reducible decide

theorem keeps_cvuStart : ∀ a0 a1 a2, Keeps 0x800000000000000000000000000000000000000000000000000000000000000000000000000000000000000000000000000000000000000000000000000000000000000040000000000000 a2 (cvuStart a0 a1 a2).2 := by
  intro a0 a1 a2
  have h0 : Keeps 0x800000000000000000000000000000000000000000000000000000000000000000000000000000000000000000000000000000000000000000000000000000000000000040000000000000 a2 a2 := Keeps.refl _
  unfold cvuStart
  repeat' first
    | with_reducible assumption
    | intro _
    | (extract_lets +onlyGivenNames x; refine Keeps.cut x ?_ (fun hx => ?_); (revert x; show Keeps _ _ _); on_goal 2 => clear_value x)
    | (extract_lets +onlyGivenNames x; clear_value x)
    | with_reducible apply Keeps.step (keeps_State_modCvu _ _ _)
    | with_reducible apply Keeps.setField .CVU_STATUS (group_CVU_STATUS _)
    | with_reducible apply Keeps.ite
    | with_reducible apply Keeps.iteP
    | with_reducible decide
    | split

theorem keeps_cvuFeed : ∀ a0 a1 a2 a3, Keeps 0x800000000000000000000000000000000000000000000000000000000000000000000000000000000000000000000000000000000000000000000000000000000000000000000000000000 a3 (cvuFeed a0 a1 a2 a3).2 := by
  intro a0 a1 a2 a3
  have h0 : Keeps 0x800000000000000000000000000000000000000000000000000000000000000000000000000000000000000000000000000000000000000000000000000000000000000000000000000000 a3 a3 := Keeps.refl _
  unfold cvuFeed
  repeat' first
    | with_reducible assumption
    | intro _
    | with_reducible apply Keeps.step (keeps_State_modCvu _ _ _)
    | with_reducible apply Keeps.ite
    | with_reducible apply Keeps.iteP
    | with_reducible decide
    | split

theorem keeps_cvuDrop : ∀ a0 a1, Keeps 0x4000000000000000000000000000010000000000100 a1 (cvuDrop a0 a1) := by
  intro a0 a1
  have h0 : Keeps 0x4000000000000000000000000000010000000000100 a1 a1 := Keeps.refl _
  unfold cvuDrop
  repeat' first
    | with_reducible assumption
    | intro _
    | with_reducible apply Keeps.bump .CVU_DROPPED (group_CVU_DROPPED _)
    | with_reducible apply Keeps.step (keeps_State_logOnce _ _ _ _)
    | with_reducible decide

theorem keeps_cvuPass : ∀ a0 a1 a2 a3, Keeps 0x40 a3 (cvuPass a0 a1 a2 a3) := by
  intro a0 a1 a2 a3
  have h0 : Keeps 0x40 a3 a3 := Keeps.refl _
  unfold cvuPass
  repeat' first
    | with_reducible assumption
    | intro _
    | with_reducible apply Keeps.step (keeps_State_send _ _ _ _)
    | with_reducible decide
    | with_reducible refine Keeps.of_eq (by assumption) ?_
    | split

theorem keeps_cvuReceive : ∀ a0 a1 a2, Keeps 0x800000000000000000000000000000000000000000000000000000000000000000000000000000000000000000000000000000000004000000000000000000000000000070000000000140 a2 (cvuReceive a0 a1 a2) := by
  intro a0 a1 a2
  have h0 : Keeps 0x800000000000000000000000000000000000000000000000000000000000000000000000000000000000000000000000000000000004000000000000000000000000000070000000000140 a2 a2 := Keeps.refl _
  unfold cvuReceive
  repeat' first
    | with_reducible assumption
    | intro _
    | (extract_lets +onlyGivenNames x; refine Keeps.cut x ?_ (fun hx => ?_); (revert x; show Keeps _ _ _); on_goal 2 => clear_value x)
    | (extract_lets +onlyGivenNames x; clear_value x)
    | with_reducible apply Keeps.step (keeps_State_log _ _ _)
    | with_reducible apply Keeps.step (keeps_State_modCvu _ _ _)
    | with_reducible apply Keeps.setBit .CVU_STATUS (group_CVU_STATUS _)
    | with_reducible apply Keeps.setN .CVU_RESULT (group_CVU_RESULT _)
    | with_reducible apply Keeps.step (keeps_cvuDrop _ _)
    | with_reducible apply Keeps.step (keeps_cvuPass _ _ _ _)
    | with_reducible apply Keeps.ite
    | with_reducible apply Keeps.iteP
    | with_reducible decide
    | with_reducible refine Keeps.of_eq (by assumption) ?_
    | split

theorem keeps_cvuFinish : ∀ a0 a1 a2, Keeps 0x800000000000000000000000000000000000000000000000000000000000000000000000000000000000000000000000000000000004000000000000000000000000000070000000000140 a2 (cvuFinish a0 a1 a2).2 := by
  intro a0 a1 a2
  have h0 : Keeps 0x800000000000000000000000000000000000000000000000000000000000000000000000000000000000000000000000000000000004000000000000000000000000000070000000000140 a2 a2 := Keeps.refl _
  unfold cvuFinish
  repeat' first
    | with_reducible assumption
    | intro _
    | (extract_lets +onlyGivenNames x; refine Keeps.cut x ?_ (fun hx => ?_); (revert x; show Keeps _ _ _); on_goal 2 => clear_value x)
    | (extract_lets +onlyGivenNames x; clear_value x)
    | with_reducible apply Keeps.step (keeps_State_log _ _ _)
    | with_reducible apply Keeps.step (keeps_State_modCvu _ _ _)
    | with_reducible apply Keeps.setBit .CVU_STATUS (group_CVU_STATUS _)
    | with_reducible apply Keeps.setN .CVU_RESULT (group_CVU_RESULT _)
    | with_reducible apply Keeps.step (keeps_cvuPass _ _ _ _)
    | with_reducible apply Keeps.step (keeps_cvuReceive _ _ _)
    | with_reducible apply Keeps.ite
    | with_reducible apply Keeps.iteP
    | with_reducible decide
    | with_reducible refine Keeps.of_eq (by assumption) ?_
    | split

theorem keeps_execCvuStart : ∀ a0 a1 a2, KeepsR 0x940038000000000000000000000000000000000000000000000000000000000000000000000000000000000000000000000000000000009000000000000000000000000040000000000040 a2 (execCvuStart a0 a1 a2) := by
  intro a0 a1 a2
  have h0 : Keeps 0x940038000000000000000000000000000000000000000000000000000000000000000000000000000000000000000000000000000000009000000000000000000000000040000000000040 a2 a2 := Keeps.refl _
  unfold execCvuStart
  repeat' first
    | with_reducible assumption
    | intro _
    | with_reducible apply Keeps.accepted
    | with_reducible apply KeepsR.next
    | with_reducible apply Keeps.step (keeps_cvuStart _ _ _)
    | with_reducible apply Keeps.owned
    | with_reducible apply Keeps.request
    | with_reducible decide

theorem keeps_execCvuFeed : ∀ a0 a1 a2 a3, KeepsR 0x940038000000000000000000000000000000000000000000000000000000000000000000000000000000000000000000000000000000009000000000000000000000000000000000000040 a3 (execCvuFeed a0 a1 a2 a3) := by
  intro a0 a1 a2 a3
  have h0 : Keeps 0x940038000000000000000000000000000000000000000000000000000000000000000000000000000000000000000000000000000000009000000000000000000000000000000000000040 a3 a3 := Keeps.refl _
  unfold execCvuFeed
  repeat' first
    | with_reducible assumption
    | intro _
    | with_reducible apply Keeps.accepted
    | with_reducible apply KeepsR.next
    | with_reducible apply Keeps.step (keeps_cvuFeed _ _ _ _)
    | with_reducible apply Keeps.owned
    | with_reducible apply Keeps.request
    | with_reducible decide

theorem keeps_execCvuFinish : ∀ a0 a1 a2, KeepsR 0x940038000000000000000000000000000000000000000000000000000000000000000000000000000000000000000000000000000004009000000000000000000000000070000000000140 a2 (execCvuFinish a0 a1 a2) := by
  intro a0 a1 a2
  have h0 : Keeps 0x940038000000000000000000000000000000000000000000000000000000000000000000000000000000000000000000000000000004009000000000000000000000000070000000000140 a2 a2 := Keeps.refl _
  unfold execCvuFinish
  repeat' first
    | with_reducible assumption
    | intro _
    | with_reducible apply Keeps.accepted
    | with_reducible apply KeepsR.next
    | with_reducible apply Keeps.step (keeps_cvuFinish _ _ _)
    | with_reducible apply Keeps.owned
    | with_reducible apply Keeps.request
    | with_reducible decide

theorem keeps_recordLost : ∀ a0 a1, Keeps 0x200000000000000000000000000000000000000000000000000000000000000000000000000000010100003ffffffffffffffffffffffffffffffffffffffffffffffffffffffffffffff102 a1 (recordLost a0 a1) := by
  intro a0 a1
  have h0 : Keeps 0x200000000000000000000000000000000000000000000000000000000000000000000000000000010100003ffffffffffffffffffffffffffffffffffffffffffffffffffffffffffffff102 a1 a1 := Keeps.refl _
  unfold recordLost
  repeat' first
    | with_reducible assumption
    | ((with_reducible refine ModField.upd_of ?_); intro i x hi; cases i <;> first | exact Keeps.no rfl hi | exact rfl | (split <;> rfl) | ((repeat' split) <;> rfl))
    | ((with_reducible refine NvsField.upd_of ?_); intro i x hi; cases i <;> first | exact Keeps.no rfl hi | exact rfl | (split <;> rfl) | ((repeat' split) <;> rfl))
    | intro _
    | (extract_lets +onlyGivenNames x; refine Keeps.cut x ?_ (fun hx => ?_); (revert x; show Keeps _ _ _); on_goal 2 => clear_value x)
    | (extract_lets +onlyGivenNames x; clear_value x)
    | with_reducible apply Keeps.step (keeps_State_log _ _ _)
    | with_reducible refine Keeps.modMod ?_ ?_
    | with_reducible refine Keeps.modNvs ?_ ?_
    | with_reducible apply Keeps.step (keeps_demandLockout _ _)
    | with_reducible apply Keeps.ite
    | with_reducible apply Keeps.iteP
    | with_reducible decide
    | exact Keeps.upd_saved (by assumption) (by decide) _ (fun _ => rfl)
    | exact Keeps.upd_objs (by assumption) (by decide) _ (cellsWf_filter _)
    | split

theorem keeps_classifyRecord : ∀ a0 a1 a2 a3 a4 a5 a6, Keeps 0x300000000000000000000000000000000000000000000000000000000000000000000000000000010100003ffffffffffffffffffffffffffffffffffffffffffffffffffffffffffffff102 a6 (classifyRecord a0 a1 a2 a3 a4 a5 a6) := by
  intro a0 a1 a2 a3 a4 a5 a6
  have h0 : Keeps 0x300000000000000000000000000000000000000000000000000000000000000000000000000000010100003ffffffffffffffffffffffffffffffffffffffffffffffffffffffffffffff102 a6 a6 := Keeps.refl _
  unfold classifyRecord
  repeat' first
    | with_reducible assumption
    | ((with_reducible refine NvsField.upd_of ?_); intro i x hi; cases i <;> first | exact Keeps.no rfl hi | exact rfl | (split <;> rfl) | ((repeat' split) <;> rfl))
    | intro _
    | (extract_lets +onlyGivenNames x; refine Keeps.cutF x ?_ (fun hx => ?_); (on_goal 1 => (intros; unfold x)); on_goal 2 => clear_value x)
    | (extract_lets +onlyGivenNames x; refine Keeps.cutF1 x ?_ (fun hx => ?_); (on_goal 1 => (intros; unfold x)); on_goal 2 => clear_value x)
    | (with_reducible apply_assumption (exfalso := false) (symm := false))
    | (extract_lets +onlyGivenNames x; clear_value x)
    | with_reducible apply Keeps.step (keeps_State_log _ _ _)
    | with_reducible refine Keeps.modNvs ?_ ?_
    | with_reducible apply Keeps.step (keeps_recordLost _ _)
    | with_reducible apply Keeps.ite
    | with_reducible apply Keeps.iteP
    | with_reducible decide
    | split

theorem keeps_execScrubStep : ∀ a0 a1, KeepsR 0x300000000000000000000000000000000000000000000000000000000000000000000000000000010100003ffffffffffffffffffffffffffffffffffffffffffffffffffffffffffffff102 a1 (execScrubStep a0 a1) := by
  intro a0 a1
  have h0 : Keeps 0x300000000000000000000000000000000000000000000000000000000000000000000000000000010100003ffffffffffffffffffffffffffffffffffffffffffffffffffffffffffffff102 a1 a1 := Keeps.refl _
  unfold execScrubStep
  repeat' first
    | with_reducible assumption
    | intro _
    | with_reducible apply Keeps.accepted
    | with_reducible apply KeepsR.next
    | with_reducible apply KeepsR.ite
    | with_reducible apply Keeps.bump .NVS_ECC_CORRECTED (group_NVS_ECC_CORRECTED _ (by first | omega | (simp only [List.mem_range, List.mem_cons, List.not_mem_nil, or_false] at *; omega)))
    | with_reducible apply Keeps.step (keeps_State_log _ _ _)
    | with_reducible apply Keeps.on
    | with_reducible apply Keeps.setBit .NVS_IMAGE_STATE group_NVS_IMAGE_STATE
    | with_reducible apply Keeps.step (keeps_classifyRecord _ _ _ _ _ _ _)
    | with_reducible apply Keeps.ite
    | with_reducible apply Keeps.iteP
    | with_reducible decide
    | with_reducible refine Keeps.of_eq (by assumption) ?_
    | split

theorem keeps_execScrubRoundLate : ∀ a0 a1 a2, KeepsR 0xc000000000000000000000000000000000000000100 a2 (execScrubRoundLate a0 a1 a2) := by
  intro a0 a1 a2
  have h0 : Keeps 0xc000000000000000000000000000000000000000100 a2 a2 := Keeps.refl _
  unfold execScrubRoundLate
  repeat' first
    | with_reducible assumption
    | intro _
    | with_reducible apply Keeps.accepted
    | with_reducible apply KeepsR.next
    | with_reducible apply KeepsR.ite
    | with_reducible apply Keeps.step (keeps_State_log _ _ _)
    | with_reducible apply Keeps.on
    | with_reducible apply Keeps.setBit .NVS_STATUS group_NVS_STATUS
    | with_reducible apply Keeps.ite
    | with_reducible apply Keeps.iteP
    | with_reducible decide
    | split

theorem keeps_execStoreRequest : ∀ a0 a1 a2 a3, KeepsR 0xc00700000000000000000000000000000000000000000000000000000000000000000000000000000000000000000000000000000000000d200000000000000000000000000000000000000100 a3 (execStoreRequest a0 a1 a2 a3) := by
  intro a0 a1 a2 a3
  have h0 : Keeps 0xc00700000000000000000000000000000000000000000000000000000000000000000000000000000000000000000000000000000000000d200000000000000000000000000000000000000100 a3 a3 := Keeps.refl _
  unfold execStoreRequest
  repeat' first
    | with_reducible assumption
    | intro _
    | with_reducible apply Keeps.accepted
    | with_reducible apply KeepsR.next
    | with_reducible apply Keeps.step (keeps_requestStore _ _ _ _ _ _)
    | with_reducible decide

theorem keeps_storeTimeouts : ∀ a0, Keeps 0x1140038000000000000000000000000000000000000000000000000000000000000000000000000000000000000000000000000000000009000000000000000000000000000000000000040 a0 (storeTimeouts a0) := by
  intro a0
  have h0 : Keeps 0x1140038000000000000000000000000000000000000000000000000000000000000000000000000000000000000000000000000000000009000000000000000000000000000000000000040 a0 a0 := Keeps.refl _
  unfold storeTimeouts
  repeat' first
    | with_reducible assumption
    | ((with_reducible refine NvsField.upd_of ?_); intro i x hi; cases i <;> first | exact Keeps.no rfl hi | exact rfl | (split <;> rfl) | ((repeat' split) <;> rfl))
    | intro _
    | (extract_lets +onlyGivenNames x; refine Keeps.cut x ?_ (fun hx => ?_); (revert x; show Keeps _ _ _); on_goal 2 => clear_value x)
    | (extract_lets +onlyGivenNames x; clear_value x)
    | with_reducible refine Keeps.modNvs ?_ ?_
    | with_reducible apply Keeps.step (keeps_State_reply _ _ _ _)
    | with_reducible apply Keeps.foldl
    | with_reducible apply Keeps.foldlP
    | with_reducible decide
    | with_reducible refine Keeps.of_eq (by assumption) ?_
    | split

theorem keeps_execStoreRetry : ∀ a0 a1, KeepsR 0x1c00714003800000000000000000000000000000000000000000000000000000000000000000000000000000000000000000000000000000d209000000000000000000000000000000000000140 a1 (execStoreRetry a0 a1) := by
  intro a0 a1
  have h0 : Keeps 0x1c00714003800000000000000000000000000000000000000000000000000000000000000000000000000000000000000000000000000000d209000000000000000000000000000000000000140 a1 a1 := Keeps.refl _
  unfold execStoreRetry
  repeat' first
    | with_reducible assumption
    | ((with_reducible refine NvsField.upd_of ?_); intro i x hi; cases i <;> first | exact Keeps.no rfl hi | exact rfl | (split <;> rfl) | ((repeat' split) <;> rfl))
    | intro _
    | with_reducible apply Keeps.accepted
    | with_reducible apply KeepsR.next
    | with_reducible apply KeepsR.ite
    | with_reducible refine Keeps.modNvs ?_ ?_
    | with_reducible apply Keeps.on
    | with_reducible apply Keeps.step (keeps_startStores _ _)
    | with_reducible apply Keeps.step (keeps_storeTimeouts _)
    | with_reducible apply Keeps.ite
    | with_reducible apply Keeps.iteP
    | with_reducible decide
    | split

theorem keeps_imageWritten : ∀ a0 a1, Keeps 0x400140038000000000000000000000000000000000000000000000000000000000000000000000000000000000000000000000000000006009000000000000000000000000000000000000140 a1 (imageWritten a0 a1) := by
  intro a0 a1
  have h0 : Keeps 0x400140038000000000000000000000000000000000000000000000000000000000000000000000000000000000000000000000000000006009000000000000000000000000000000000000140 a1 a1 := Keeps.refl _
  unfold imageWritten
  repeat' first
    | with_reducible assumption
    | ((with_reducible refine NvsField.upd_of ?_); intro i x hi; cases i <;> first | exact Keeps.no rfl hi | exact rfl | (split <;> rfl) | ((repeat' split) <;> rfl))
    | intro _
    | (extract_lets +onlyGivenNames x; refine Keeps.cutF x ?_ (fun hx => ?_); (on_goal 1 => (intros; unfold x)); on_goal 2 => clear_value x)
    | (extract_lets +onlyGivenNames x; refine Keeps.cutF1 x ?_ (fun hx => ?_); (on_goal 1 => (intros; unfold x)); on_goal 2 => clear_value x)
    | (with_reducible apply_assumption (exfalso := false) (symm := false))
    | (extract_lets +onlyGivenNames x; refine Keeps.cut x ?_ (fun hx => ?_); (revert x; show Keeps _ _ _); on_goal 2 => clear_value x)
    | (extract_lets +onlyGivenNames x; clear_value x)
    | with_reducible apply Keeps.step (keeps_State_log _ _ _)
    | with_reducible refine Keeps.modNvs ?_ ?_
    | with_reducible apply Keeps.step (keeps_State_reply _ _ _ _)
    | with_reducible apply Keeps.setBit .NVS_IMAGE_STATE group_NVS_IMAGE_STATE
    | with_reducible apply Keeps.ite
    | with_reducible apply Keeps.iteP
    | with_reducible decide
    | with_reducible refine Keeps.of_eq (by assumption) ?_
    | split

theorem keeps_storeDone : ∀ a0 a1 a2, Keeps 0x234711400380000000000000000000000000000000000000000000000000000000000000000000000010000003ffffffffffffffffffffffffffffffffffffffffffffffffffffffffffffff342 a2 (storeDone a0 a1 a2) := by
  intro a0 a1 a2
  have h0 : Keeps 0x234711400380000000000000000000000000000000000000000000000000000000000000000000000010000003ffffffffffffffffffffffffffffffffffffffffffffffffffffffffffffff342 a2 a2 := Keeps.refl _
  unfold storeDone
  repeat' first
    | with_reducible assumption
    | ((with_reducible refine ModField.upd_of ?_); intro i x hi; cases i <;> first | exact Keeps.no rfl hi | exact rfl | (split <;> rfl) | ((repeat' split) <;> rfl))
    | ((with_reducible refine NvsField.upd_of ?_); intro i x hi; cases i <;> first | exact Keeps.no rfl hi | exact rfl | (split <;> rfl) | ((repeat' split) <;> rfl))
    | intro _
    | (extract_lets +onlyGivenNames x; refine Keeps.cut x ?_ (fun hx => ?_); (revert x; show Keeps _ _ _); on_goal 2 => clear_value x)
    | (extract_lets +onlyGivenNames x; clear_value x)
    | with_reducible refine Keeps.modMod ?_ ?_
    | with_reducible refine Keeps.modNvs ?_ ?_
    | with_reducible apply Keeps.step (keeps_State_reply _ _ _ _)
    | with_reducible apply Keeps.step (keeps_eraseSector _)
    | with_reducible apply Keeps.step (keeps_imageWritten _ _)
    | with_reducible apply Keeps.step (keeps_pageWritten _)
    | with_reducible apply Keeps.step (keeps_retireSector _ _)
    | with_reducible apply Keeps.ite
    | with_reducible apply Keeps.iteP
    | with_reducible decide
    | with_reducible refine Keeps.of_eq (by assumption) ?_
    | exact Keeps.upd_saved (by assumption) (by decide) _ cellsWf_savedView
    | split

theorem keeps_execStoreComplete : ∀ a0 a1 a2, KeepsR 0x3ff7fffffffffff3bfffffffffffffffffffffffffffffffffffffffffffffffffffffffffffffffffbffffffffffffffffffffffffffffffffffffffffffffffffffffffffffffffffffffff7e a2 (execStoreComplete a0 a1 a2) := by
  intro a0 a1 a2
  have h0 : Keeps 0x3ff7fffffffffff3bfffffffffffffffffffffffffffffffffffffffffffffffffffffffffffffffffbffffffffffffffffffffffffffffffffffffffffffffffffffffffffffffffffffffff7e a2 a2 := Keeps.refl _
  unfold execStoreComplete
  repeat' first
    | with_reducible assumption
    | ((with_reducible refine NvsField.upd_of ?_); intro i x hi; cases i <;> first | exact Keeps.no rfl hi | exact rfl | (split <;> rfl) | ((repeat' split) <;> rfl))
    | intro _
    | with_reducible apply Keeps.accepted
    | with_reducible apply KeepsR.next
    | with_reducible apply KeepsR.ite
    | (extract_lets +onlyGivenNames x; refine Keeps.cut x ?_ (fun hx => ?_); (revert x; show Keeps _ _ _); on_goal 2 => clear_value x)
    | (extract_lets +onlyGivenNames x; clear_value x)
    | with_reducible refine Keeps.modNvs ?_ ?_
    | with_reducible apply Keeps.on
    | with_reducible apply Keeps.step (keeps_powerLoss _)
    | with_reducible apply Keeps.step (keeps_startStores _ _)
    | with_reducible apply Keeps.step (keeps_storeDone _ _ _)
    | with_reducible apply Keeps.ite
    | with_reducible apply Keeps.iteP
    | with_reducible decide
    | with_reducible refine Keeps.of_eq (by assumption) ?_
    | split

theorem keeps_execLogPageWrite : ∀ a0 a1, KeepsR 0xc00700000000000000000000000000000000000000000000000000000000000000000000000000000000000000000000000000000000000d200000000000000000000000000000000000000100 a1 (execLogPageWrite a0 a1) := by
  intro a0 a1
  have h0 : Keeps 0xc00700000000000000000000000000000000000000000000000000000000000000000000000000000000000000000000000000000000000d200000000000000000000000000000000000000100 a1 a1 := Keeps.refl _
  unfold execLogPageWrite
  repeat' first
    | with_reducible assumption
    | intro _
    | with_reducible apply Keeps.accepted
    | with_reducible apply KeepsR.next
    | with_reducible apply KeepsR.ite
    | (extract_lets +onlyGivenNames x; clear_value x)
    | with_reducible apply Keeps.on
    | with_reducible apply Keeps.step (keeps_requestPage _ _)
    | with_reducible apply Keeps.ite
    | with_reducible apply Keeps.iteP
    | with_reducible decide
    | with_reducible refine Keeps.of_eq (by assumption) ?_
    | split

theorem keeps_selectRecord : ∀ a0 a1, Keeps 0x800000000000000000000000000000000000000000000000000000000000000000000000000000000000000000000000000000000000000000000000000000000000000000000000000000000 a1 (selectRecord a0 a1).2 := by
  intro a0 a1
  have h0 : Keeps 0x800000000000000000000000000000000000000000000000000000000000000000000000000000000000000000000000000000000000000000000000000000000000000000000000000000000 a1 a1 := Keeps.refl _
  unfold selectRecord
  repeat' first
    | with_reducible assumption
    | ((with_reducible refine NvsField.upd_of ?_); intro i x hi; cases i <;> first | exact Keeps.no rfl hi | exact rfl | (split <;> rfl) | ((repeat' split) <;> rfl))
    | intro _
    | with_reducible refine Keeps.modNvs ?_ ?_
    | with_reducible decide

theorem keeps_execEventLogRead : ∀ a0 a1 a2, KeepsR 0x800140038000000000000000000000000000000000000000000000000000000000000000000000000000000000000000000000000000000009000000000000000000000000000000000000040 a2 (execEventLogRead a0 a1 a2) := by
  intro a0 a1 a2
  have h0 : Keeps 0x800140038000000000000000000000000000000000000000000000000000000000000000000000000000000000000000000000000000000009000000000000000000000000000000000000040 a2 a2 := Keeps.refl _
  unfold execEventLogRead
  repeat' first
    | with_reducible assumption
    | intro _
    | with_reducible apply Keeps.accepted
    | with_reducible apply KeepsR.next
    | with_reducible apply KeepsR.ite
    | (extract_lets +onlyGivenNames x; refine Keeps.cut x ?_ (fun hx => ?_); (revert x; show Keeps _ _ _); on_goal 2 => clear_value x)
    | (extract_lets +onlyGivenNames x; clear_value x)
    | with_reducible apply Keeps.step (keeps_State_send _ _ _ _)
    | with_reducible apply Keeps.request
    | with_reducible apply Keeps.step (keeps_selectRecord _ _)
    | with_reducible apply Keeps.ite
    | with_reducible apply Keeps.iteP
    | with_reducible decide
    | with_reducible refine Keeps.of_eq (by assumption) ?_
    | split

theorem keeps_commitVersion : ∀ a0 a1, Keeps 0x80000000000000000000000000000000000000000000000000000000000000000000000000000000000000000000000000000000000000000000000000000000000000000000000000000000 a1 (commitVersion a0 a1).2 := by
  intro a0 a1
  have h0 : Keeps 0x80000000000000000000000000000000000000000000000000000000000000000000000000000000000000000000000000000000000000000000000000000000000000000000000000000000 a1 a1 := Keeps.refl _
  unfold commitVersion
  repeat' first
    | with_reducible assumption
    | ((with_reducible refine NvsField.upd_of ?_); intro i x hi; cases i <;> first | exact Keeps.no rfl hi | exact rfl | (split <;> rfl) | ((repeat' split) <;> rfl))
    | intro _
    | with_reducible refine Keeps.modNvs ?_ ?_
    | with_reducible apply Keeps.ite
    | with_reducible apply Keeps.iteP
    | with_reducible decide
    | split

theorem keeps_execCommitVersion : ∀ a0 a1, KeepsR 0x80140038000000000000000000000000000000000000000000000000000000000000000000000000000000000000000000000000000000009000000000000000000000000000000000000040 a1 (execCommitVersion a0 a1) := by
  intro a0 a1
  have h0 : Keeps 0x80140038000000000000000000000000000000000000000000000000000000000000000000000000000000000000000000000000000000009000000000000000000000000000000000000040 a1 a1 := Keeps.refl _
  unfold execCommitVersion
  repeat' first
    | with_reducible assumption
    | intro _
    | with_reducible apply Keeps.accepted
    | with_reducible apply KeepsR.next
    | with_reducible apply Keeps.step (keeps_commitVersion _ _)
    | with_reducible apply Keeps.request
    | with_reducible decide

theorem keeps_imageBlock : ∀ a0 a1 a2 a3, Keeps 0xc40714003800000000000000000000000000000000000000000000000000000000000000000000000000000000000000000000000000000d209000000000000000000000000000000000000140 a3 (imageBlock a0 a1 a2 a3) := by
  intro a0 a1 a2 a3
  have h0 : Keeps 0xc40714003800000000000000000000000000000000000000000000000000000000000000000000000000000000000000000000000000000d209000000000000000000000000000000000000140 a3 a3 := Keeps.refl _
  unfold imageBlock
  repeat' first
    | with_reducible assumption
    | ((with_reducible refine NvsField.upd_of ?_); intro i x hi; cases i <;> first | exact Keeps.no rfl hi | exact rfl | (split <;> rfl) | ((repeat' split) <;> rfl))
    | intro _
    | (extract_lets +onlyGivenNames x; refine Keeps.cut x ?_ (fun hx => ?_); (revert x; show Keeps _ _ _); on_goal 2 => clear_value x)
    | (extract_lets +onlyGivenNames x; clear_value x)
    | with_reducible refine Keeps.modNvs ?_ ?_
    | with_reducible apply Keeps.step (keeps_State_reply _ _ _ _)
    | with_reducible apply Keeps.step (keeps_requestStore _ _ _ _ _ _)
    | with_reducible apply Keeps.ite
    | with_reducible apply Keeps.iteP
    | with_reducible decide
    | split

theorem keeps_execImageWriteBlock : ∀ a0 a1 a2 a3, KeepsR 0xc40714003800000000000000000000000000000000000000000000000000000000000000000000000000000000000000000000000000000d209000000000000000000000000000000000000140 a3 (execImageWriteBlock a0 a1 a2 a3) := by
  intro a0 a1 a2 a3
  have h0 : Keeps 0xc40714003800000000000000000000000000000000000000000000000000000000000000000000000000000000000000000000000000000d209000000000000000000000000000000000000140 a3 a3 := Keeps.refl _
  unfold execImageWriteBlock
  repeat' first
    | with_reducible assumption
    | intro _
    | with_reducible apply Keeps.accepted
    | with_reducible apply KeepsR.next
    | with_reducible apply Keeps.on
    | with_reducible apply Keeps.step (keeps_imageBlock _ _ _ _)
    | with_reducible decide

end Sys2Proof.Machine
end

