-- ==== Sys2Proof/Laws/KeepsSupply.lean ====
section
/-!
SUPPORT. What each operation of Machine/Supply.lean may change.
-/

set_option linter.unusedTactic false
set_option linter.tactic.unusedName false
set_option linter.unreachableTactic false

namespace Sys2Proof.Machine

theorem Keeps.powered {F : Nat} {s0 s : State} {f : State → State} (hf : ∀ t, Keeps F s0 t → Keeps F s0 (f t)) (h : Keeps F s0 s) :
    Keeps F s0 (Machine.powered s f) := by
  unfold Machine.powered
  split
  · exact hf s h
  · exact h

theorem keeps_showSupply : ∀ a0, Keeps 0x20000000000000000000000000000000000000000000000000000000000 a0 (showSupply a0) := by
  intro a0
  have h0 : Keeps 0x20000000000000000000000000000000000000000000000000000000000 a0 a0 := Keeps.refl _
  unfold showSupply
  repeat' first
    | with_reducible assumption
    | intro _
    | with_reducible apply Keeps.setField .SUP_STATUS group_SUP_STATUS
    | with_reducible decide

theorem keeps_execAuxHighStart : ∀ a0, KeepsR 0x2000000000000000000000000000000000000000000000000000000000000000000000000000020000000000000000000000000000000000000000000000000000000000 a0 (execAuxHighStart a0) := by
  intro a0
  have h0 : Keeps 0x2000000000000000000000000000000000000000000000000000000000000000000000000000020000000000000000000000000000000000000000000000000000000000 a0 a0 := Keeps.refl _
  unfold execAuxHighStart
  repeat' first
    | with_reducible assumption
    | ((with_reducible refine SupField.upd_of ?_); intro i x hi; cases i <;> first | exact Keeps.no rfl hi | exact rfl | (split <;> rfl) | ((repeat' split) <;> rfl))
    | intro _
    | with_reducible apply Keeps.accepted
    | with_reducible apply KeepsR.next
    | with_reducible apply KeepsR.ite
    | with_reducible refine Keeps.modSup ?_ ?_
    | with_reducible apply Keeps.powered
    | with_reducible apply Keeps.step (keeps_showSupply _)
    | with_reducible apply Keeps.ite
    | with_reducible apply Keeps.iteP
    | with_reducible decide
    | split

theorem keeps_execAuxHighEnd : ∀ a0 a1, KeepsR 0x2000000000000000000000000000000000000000000000000000000000000000000000000000020000000000000004000000000000000000000000000000000000000100 a1 (execAuxHighEnd a0 a1) := by
  intro a0 a1
  have h0 : Keeps 0x2000000000000000000000000000000000000000000000000000000000000000000000000000020000000000000004000000000000000000000000000000000000000100 a1 a1 := Keeps.refl _
  unfold execAuxHighEnd
  repeat' first
    | with_reducible assumption
    | ((with_reducible refine SupField.upd_of ?_); intro i x hi; cases i <;> first | exact Keeps.no rfl hi | exact rfl | (split <;> rfl) | ((repeat' split) <;> rfl))
    | intro _
    | with_reducible apply Keeps.accepted
    | with_reducible apply KeepsR.next
    | with_reducible apply KeepsR.ite
    | with_reducible apply Keeps.step (keeps_State_log _ _ _)
    | with_reducible refine Keeps.modSup ?_ ?_
    | with_reducible apply Keeps.powered
    | with_reducible apply Keeps.step (keeps_showSupply _)
    | with_reducible apply Keeps.ite
    | with_reducible apply Keeps.iteP
    | with_reducible decide
    | with_reducible refine Keeps.of_eq (by assumption) ?_
    | split

theorem keeps_execAuxInterruptionStart : ∀ a0 a1 a2, KeepsR 0xc00700000000000000c00000000000000000000000000000000000000000000000000000000000000000000000000002400000000000000d200000000000000000000000000000000000000100 a2 (execAuxInterruptionStart a0 a1 a2) := by
  intro a0 a1 a2
  have h0 : Keeps 0xc00700000000000000c00000000000000000000000000000000000000000000000000000000000000000000000000002400000000000000d200000000000000000000000000000000000000100 a2 a2 := Keeps.refl _
  unfold execAuxInterruptionStart
  repeat' first
    | with_reducible assumption
    | ((with_reducible refine SupField.upd_of ?_); intro i x hi; cases i <;> first | exact Keeps.no rfl hi | exact rfl | (split <;> rfl) | ((repeat' split) <;> rfl))
    | intro _
    | with_reducible apply Keeps.accepted
    | with_reducible apply KeepsR.next
    | with_reducible apply KeepsR.ite
    | (extract_lets +onlyGivenNames x; refine Keeps.cut x ?_ (fun hx => ?_); (revert x; show Keeps _ _ _); on_goal 2 => clear_value x)
    | (extract_lets +onlyGivenNames x; clear_value x)
    | with_reducible apply Keeps.bump .SUP_INTERRUPTIONS group_SUP_INTERRUPTIONS
    | with_reducible apply Keeps.step (keeps_State_log _ _ _)
    | with_reducible refine Keeps.modSup ?_ ?_
    | with_reducible apply Keeps.on
    | with_reducible apply Keeps.powered
    | with_reducible apply Keeps.step (keeps_requestPage _ _)
    | with_reducible apply Keeps.step (keeps_showSupply _)
    | with_reducible apply Keeps.ite
    | with_reducible apply Keeps.iteP
    | with_reducible decide
    | split

theorem keeps_execAuxInterruptionEnd : ∀ a0 a1, KeepsR 0xb4000000000000000000000000000000000000000000000000000000000000000000000000000028000000000000004000000000000000000000000000000000000000100 a1 (execAuxInterruptionEnd a0 a1) := by
  intro a0 a1
  have h0 : Keeps 0xb4000000000000000000000000000000000000000000000000000000000000000000000000000028000000000000004000000000000000000000000000000000000000100 a1 a1 := Keeps.refl _
  unfold execAuxInterruptionEnd
  repeat' first
    | with_reducible assumption
    | ((with_reducible refine SupField.upd_of ?_); intro i x hi; cases i <;> first | exact Keeps.no rfl hi | exact rfl | (split <;> rfl) | ((repeat' split) <;> rfl))
    | intro _
    | with_reducible apply Keeps.accepted
    | with_reducible apply KeepsR.next
    | with_reducible apply KeepsR.ite
    | (extract_lets +onlyGivenNames x; refine Keeps.cut x ?_ (fun hx => ?_); (revert x; show Keeps _ _ _); on_goal 2 => clear_value x)
    | (extract_lets +onlyGivenNames x; clear_value x)
    | with_reducible apply Keeps.step (keeps_State_log _ _ _)
    | with_reducible refine Keeps.modSup ?_ ?_
    | with_reducible apply Keeps.setR .SUP_LAST_INTERRUPTION group_SUP_LAST_INTERRUPTION
    | with_reducible apply Keeps.powered
    | with_reducible apply Keeps.step (keeps_showSupply _)
    | with_reducible apply Keeps.ite
    | with_reducible apply Keeps.iteP
    | with_reducible decide
    | with_reducible refine Keeps.of_eq (by assumption) ?_
    | split

theorem keeps_execAuxStopLevel : ∀ a0 a1, KeepsR 0x3cf0fffffffffff3bfffffffffffffffffffffffffffffffffffffffffffffffffffffffffffffffffbffffffffffffffffffffffffffffffffffffffffffffffffffffffffffffffffffffff3e a1 (execAuxStopLevel a0 a1) := by
  intro a0 a1
  have h0 : Keeps 0x3cf0fffffffffff3bfffffffffffffffffffffffffffffffffffffffffffffffffffffffffffffffffbffffffffffffffffffffffffffffffffffffffffffffffffffffffffffffffffffffff3e a1 a1 := Keeps.refl _
  unfold execAuxStopLevel
  repeat' first
    | with_reducible assumption
    | ((with_reducible refine NvsField.upd_of ?_); intro i x hi; cases i <;> first | exact Keeps.no rfl hi | exact rfl | (split <;> rfl) | ((repeat' split) <;> rfl))
    | intro _
    | with_reducible apply Keeps.accepted
    | with_reducible apply KeepsR.next
    | with_reducible apply KeepsR.ite
    | with_reducible refine Keeps.modNvs ?_ ?_
    | with_reducible apply Keeps.step (keeps_powerLoss _)
    | with_reducible apply Keeps.powered
    | with_reducible apply Keeps.ite
    | with_reducible apply Keeps.iteP
    | with_reducible decide
    | with_reducible refine Keeps.of_eq (by assumption) ?_
    | split

theorem keeps_execSupplyShed : ∀ a0, KeepsR 0x80700000000100000000000000000000000000000000000000000000000000000000000000000000000000000200000000000000040e0000000000000000000000000000000000000100 a0 (execSupplyShed a0) := by
  intro a0
  have h0 : Keeps 0x80700000000100000000000000000000000000000000000000000000000000000000000000000000000000000200000000000000040e0000000000000000000000000000000000000100 a0 a0 := Keeps.refl _
  unfold execSupplyShed
  repeat' first
    | with_reducible assumption
    | ((with_reducible refine SupField.upd_of ?_); intro i x hi; cases i <;> first | exact Keeps.no rfl hi | exact rfl | (split <;> rfl) | ((repeat' split) <;> rfl))
    | intro _
    | with_reducible apply Keeps.accepted
    | with_reducible apply KeepsR.next
    | with_reducible apply KeepsR.ite
    | with_reducible refine Keeps.modSup ?_ ?_
    | with_reducible apply Keeps.powered
    | with_reducible apply Keeps.step (keeps_setLink _ _ _ _)
    | with_reducible apply Keeps.step (keeps_showSupply _)
    | with_reducible apply Keeps.ite
    | with_reducible apply Keeps.iteP
    | with_reducible decide
    | with_reducible refine Keeps.of_eq (by assumption) ?_
    | split

theorem keeps_showLimit : ∀ a0, Keeps 0x20000000000000000000000000000100000000000000000000000000000 a0 (showLimit a0) := by
  intro a0
  have h0 : Keeps 0x20000000000000000000000000000100000000000000000000000000000 a0 a0 := Keeps.refl _
  unfold showLimit
  repeat' first
    | with_reducible assumption
    | intro _
    | with_reducible apply Keeps.setBit .GDV_STATUS group_GDV_STATUS
    | with_reducible apply Keeps.step (keeps_showSupply _)
    | with_reducible decide

theorem keeps_execGdLimitEntry : ∀ a0 a1, KeepsR 0x40000000000000000000000000000000000000000000000000000000000000000000000000000020000000000000004000000000000100000000000000000000000000100 a1 (execGdLimitEntry a0 a1) := by
  intro a0 a1
  have h0 : Keeps 0x40000000000000000000000000000000000000000000000000000000000000000000000000000020000000000000004000000000000100000000000000000000000000100 a1 a1 := Keeps.refl _
  unfold execGdLimitEntry
  repeat' first
    | with_reducible assumption
    | ((with_reducible refine SupField.upd_of ?_); intro i x hi; cases i <;> first | exact Keeps.no rfl hi | exact rfl | (split <;> rfl) | ((repeat' split) <;> rfl))
    | intro _
    | with_reducible apply Keeps.accepted
    | with_reducible apply KeepsR.next
    | with_reducible apply KeepsR.ite
    | with_reducible apply Keeps.step (keeps_State_log _ _ _)
    | with_reducible refine Keeps.modSup ?_ ?_
    | with_reducible apply Keeps.powered
    | with_reducible apply Keeps.step (keeps_showLimit _)
    | with_reducible apply Keeps.ite
    | with_reducible apply Keeps.iteP
    | with_reducible decide
    | split

theorem keeps_execGdLimitExit : ∀ a0 a1, KeepsR 0x40000000000000000000000000000000000000000000000000000000000000000000000000000020000000000000004000000000000100000000000000000000000000100 a1 (execGdLimitExit a0 a1) := by
  intro a0 a1
  have h0 : Keeps 0x40000000000000000000000000000000000000000000000000000000000000000000000000000020000000000000004000000000000100000000000000000000000000100 a1 a1 := Keeps.refl _
  unfold execGdLimitExit
  repeat' first
    | with_reducible assumption
    | ((with_reducible refine SupField.upd_of ?_); intro i x hi; cases i <;> first | exact Keeps.no rfl hi | exact rfl | (split <;> rfl) | ((repeat' split) <;> rfl))
    | intro _
    | with_reducible apply Keeps.accepted
    | with_reducible apply KeepsR.next
    | with_reducible apply KeepsR.ite
    | with_reducible apply Keeps.step (keeps_State_log _ _ _)
    | with_reducible refine Keeps.modSup ?_ ?_
    | with_reducible apply Keeps.powered
    | with_reducible apply Keeps.step (keeps_showLimit _)
    | with_reducible apply Keeps.ite
    | with_reducible apply Keeps.iteP
    | with_reducible decide
    | split

theorem keeps_thermalShutdown : ∀ a0 a1 a2, Keeps 0x80010000000000300000000000000004000000000000000000000000000000000000000100 a2 (thermalShutdown a0 a1 a2) := by
  intro a0 a1 a2
  have h0 : Keeps 0x80010000000000300000000000000004000000000000000000000000000000000000000100 a2 a2 := Keeps.refl _
  unfold thermalShutdown
  repeat' first
    | with_reducible assumption
    | ((with_reducible refine ModField.upd_of ?_); intro i x hi; cases i <;> first | exact Keeps.no rfl hi | exact rfl | (split <;> rfl) | ((repeat' split) <;> rfl))
    | intro _
    | (extract_lets +onlyGivenNames x; refine Keeps.cut x ?_ (fun hx => ?_); (revert x; show Keeps _ _ _); on_goal 2 => clear_value x)
    | (extract_lets +onlyGivenNames x; clear_value x)
    | with_reducible apply Keeps.step (keeps_State_log _ _ _)
    | with_reducible refine Keeps.modMod ?_ ?_
    | with_reducible apply Keeps.setBit .THM_STATUS group_THM_STATUS
    | with_reducible apply Keeps.setN .THM_SHUTDOWN_SENSOR group_THM_SHUTDOWN_SENSOR
    | with_reducible apply Keeps.step (keeps_demandLockout _ _)
    | with_reducible apply Keeps.ite
    | with_reducible apply Keeps.iteP
    | with_reducible decide
    | split

theorem keeps_tempBroken : ∀ a0 a1 a2, Keeps 0x200000000000000000000000000000000000000000000000000000000000000000000000000000040000000000000004000000000000000000000000000000000000000100 a2 (tempBroken a0 a1 a2) := by
  intro a0 a1 a2
  have h0 : Keeps 0x200000000000000000000000000000000000000000000000000000000000000000000000000000040000000000000004000000000000000000000000000000000000000100 a2 a2 := Keeps.refl _
  unfold tempBroken
  repeat' first
    | with_reducible assumption
    | ((with_reducible refine SupField.upd_of ?_); intro i x hi; cases i <;> first | exact Keeps.no rfl hi | exact rfl | (split <;> rfl) | ((repeat' split) <;> rfl))
    | intro _
    | (extract_lets +onlyGivenNames x; refine Keeps.cut x ?_ (fun hx => ?_); (revert x; show Keeps _ _ _); on_goal 2 => clear_value x)
    | (extract_lets +onlyGivenNames x; clear_value x)
    | with_reducible apply Keeps.step (keeps_State_log _ _ _)
    | with_reducible refine Keeps.modSup ?_ ?_
    | with_reducible apply Keeps.setBit .THM_BROKEN group_THM_BROKEN
    | with_reducible apply Keeps.ite
    | with_reducible apply Keeps.iteP
    | with_reducible decide
    | split

theorem keeps_readTemp : ∀ a0 a1 a2, Keeps 0x2000000000000000000000000000000000000000000000000000000000000000000000000000004c0000000000000004000000000000000000000000000000000000000100 a1 (readTemp a0 a1 a2) := by
  intro a0 a1 a2
  have h0 : Keeps 0x2000000000000000000000000000000000000000000000000000000000000000000000000000004c0000000000000004000000000000000000000000000000000000000100 a1 a1 := Keeps.refl _
  unfold readTemp
  repeat' first
    | with_reducible assumption
    | ((with_reducible refine SupField.upd_of ?_); intro i x hi; cases i <;> first | exact Keeps.no rfl hi | exact rfl | (split <;> rfl) | ((repeat' split) <;> rfl))
    | intro _
    | (extract_lets +onlyGivenNames x; refine Keeps.cut x ?_ (fun hx => ?_); (revert x; show Keeps _ _ _); on_goal 2 => clear_value x)
    | (extract_lets +onlyGivenNames x; clear_value x)
    | with_reducible refine Keeps.modSup ?_ ?_
    | with_reducible apply Keeps.setR .THM_PEAK (group_THM_PEAK _ (by first | omega | (simp only [List.mem_range, List.mem_cons, List.not_mem_nil, or_false] at *; omega)))
    | with_reducible apply Keeps.setR .THM_TEMP (group_THM_TEMP _ (by first | omega | (simp only [List.mem_range, List.mem_cons, List.not_mem_nil, or_false] at *; omega)))
    | with_reducible apply Keeps.step (keeps_tempBroken _ _ _)
    | with_reducible apply Keeps.ite
    | with_reducible apply Keeps.iteP
    | with_reducible decide
    | with_reducible refine Keeps.of_eq (by assumption) ?_
    | split

theorem keeps_judgeTemp : ∀ a0 a1 a2, Keeps 0x200000000000000000000000000000000000000000000000000000000000000000000000000000000000000000000004000000000000000000000000000000000000000100 a1 (judgeTemp a0 a1 a2) := by
  intro a0 a1 a2
  have h0 : Keeps 0x200000000000000000000000000000000000000000000000000000000000000000000000000000000000000000000004000000000000000000000000000000000000000100 a1 a1 := Keeps.refl _
  unfold judgeTemp
  repeat' first
    | with_reducible assumption
    | ((with_reducible refine SupField.upd_of ?_); intro i x hi; cases i <;> first | exact Keeps.no rfl hi | exact rfl | (split <;> rfl) | ((repeat' split) <;> rfl))
    | intro _
    | (extract_lets +onlyGivenNames x; refine Keeps.cut x ?_ (fun hx => ?_); (revert x; show Keeps _ _ _); on_goal 2 => clear_value x)
    | (extract_lets +onlyGivenNames x; clear_value x)
    | with_reducible apply Keeps.step (keeps_State_log _ _ _)
    | with_reducible refine Keeps.modSup ?_ ?_
    | with_reducible apply Keeps.ite
    | with_reducible apply Keeps.iteP
    | with_reducible decide
    | with_reducible refine Keeps.of_eq (by assumption) ?_
    | split

theorem keeps_inhibitReview : ∀ a0 a1, Keeps 0x200000000000000004000400000000000000000000000000000000000100 a1 (inhibitReview a0 a1) := by
  intro a0 a1
  have h0 : Keeps 0x200000000000000004000400000000000000000000000000000000000100 a1 a1 := Keeps.refl _
  unfold inhibitReview
  repeat' first
    | with_reducible assumption
    | intro _
    | (extract_lets +onlyGivenNames x; clear_value x)
    | with_reducible apply Keeps.step (keeps_State_log _ _ _)
    | with_reducible apply Keeps.setBit .MOD_STATUS group_MOD_STATUS
    | with_reducible apply Keeps.setBit .THM_STATUS group_THM_STATUS
    | with_reducible apply Keeps.ite
    | with_reducible apply Keeps.iteP
    | with_reducible decide
    | split

theorem keeps_throttleReview : ∀ a0 a1, Keeps 0x400000000000000000000000000000000000000000000000000000000000000000000000000000800000000000000004000000000000000000000000000000000000000100 a1 (throttleReview a0 a1) := by
  intro a0 a1
  have h0 : Keeps 0x400000000000000000000000000000000000000000000000000000000000000000000000000000800000000000000004000000000000000000000000000000000000000100 a1 a1 := Keeps.refl _
  unfold throttleReview
  repeat' first
    | with_reducible assumption
    | ((with_reducible refine SupField.upd_of ?_); intro i x hi; cases i <;> first | exact Keeps.no rfl hi | exact rfl | (split <;> rfl) | ((repeat' split) <;> rfl))
    | intro _
    | (extract_lets +onlyGivenNames x; clear_value x)
    | with_reducible apply Keeps.step (keeps_State_log _ _ _)
    | with_reducible refine Keeps.modSup ?_ ?_
    | with_reducible apply Keeps.setN .THM_THROTTLE_STEP group_THM_THROTTLE_STEP
    | with_reducible apply Keeps.ite
    | with_reducible apply Keeps.iteP
    | with_reducible decide
    | split

theorem keeps_shutdownReview : ∀ a0 a1, Keeps 0x80010000000000300000000000000004000000000000000000000000000000000000000100 a1 (shutdownReview a0 a1) := by
  intro a0 a1
  have h0 : Keeps 0x80010000000000300000000000000004000000000000000000000000000000000000000100 a1 a1 := Keeps.refl _
  unfold shutdownReview
  repeat' first
    | with_reducible assumption
    | intro _
    | with_reducible apply Keeps.step (keeps_thermalShutdown _ _ _)
    | with_reducible apply Keeps.ite
    | with_reducible apply Keeps.iteP
    | with_reducible decide
    | with_reducible refine Keeps.of_eq (by assumption) ?_
    | split

theorem keeps_showThermal : ∀ a0, Keeps 0x200000000000000000000000000000000000000000000000000000000000 a0 (showThermal a0) := by
  intro a0
  have h0 : Keeps 0x200000000000000000000000000000000000000000000000000000000000 a0 a0 := Keeps.refl _
  unfold showThermal
  repeat' first
    | with_reducible assumption
    | intro _
    | (extract_lets +onlyGivenNames x; clear_value x)
    | with_reducible apply Keeps.setField .THM_STATUS group_THM_STATUS
    | with_reducible decide

theorem keeps_execHousekeepingRound : ∀ a0 a1 a2, KeepsR 0x700000000000000000000000000000000000000000000000000000000000000080010000000000ff0000000000000004000400000000040000000800000000000000000100 a2 (execHousekeepingRound a0 a1 a2) := by
  intro a0 a1 a2
  have h0 : Keeps 0x700000000000000000000000000000000000000000000000000000000000000080010000000000ff0000000000000004000400000000040000000800000000000000000100 a2 a2 := Keeps.refl _
  unfold execHousekeepingRound
  repeat' first
    | with_reducible assumption
    | ((with_reducible refine SupField.upd_of ?_); intro i x hi; cases i <;> first | exact Keeps.no rfl hi | exact rfl | (split <;> rfl) | ((repeat' split) <;> rfl))
    | intro _
    | with_reducible apply Keeps.accepted
    | with_reducible apply KeepsR.next
    | with_reducible apply KeepsR.ite
    | (extract_lets +onlyGivenNames x; refine Keeps.cut x ?_ (fun hx => ?_); (revert x; show Keeps _ _ _); on_goal 2 => clear_value x)
    | (extract_lets +onlyGivenNames x; clear_value x)
    | with_reducible refine Keeps.modSup ?_ ?_
    | with_reducible apply Keeps.on
    | with_reducible apply Keeps.setBit .SUP_STATUS group_SUP_STATUS
    | with_reducible apply Keeps.setBit .FIO_STATUS group_FIO_STATUS
    | with_reducible apply Keeps.setR .SUP_RAIL (group_SUP_RAIL _ (by first | omega | (simp only [List.mem_range, List.mem_cons, List.not_mem_nil, or_false] at *; omega)))
    | with_reducible apply Keeps.setR .GDV_RAIL_V group_GDV_RAIL_V
    | with_reducible apply Keeps.step (keeps_inhibitReview _ _)
    | with_reducible apply Keeps.step (keeps_judgeTemp _ _ _)
    | with_reducible apply Keeps.step (keeps_readTemp _ _ _)
    | with_reducible apply Keeps.step (keeps_showThermal _)
    | with_reducible apply Keeps.step (keeps_shutdownReview _ _)
    | with_reducible apply Keeps.step (keeps_throttleReview _ _)
    | with_reducible apply Keeps.foldl_mem
    | with_reducible apply Keeps.ite
    | with_reducible apply Keeps.iteP
    | with_reducible decide
    | split

theorem keeps_execResetInputAssert : ∀ a0, KeepsR 0x3cf0fffffffffff3bff3fffffffffffffffffffffffffffffffffffffffffffffffffffffffffffff7dfffffffffffffffffffffffffffffffffffffffffffffffffffffffffffffffffffffd3e a0 (execResetInputAssert a0) := by
  intro a0
  have h0 : Keeps 0x3cf0fffffffffff3bff3fffffffffffffffffffffffffffffffffffffffffffffffffffffffffffff7dfffffffffffffffffffffffffffffffffffffffffffffffffffffffffffffffffffffd3e a0 a0 := Keeps.refl _
  unfold execResetInputAssert
  repeat' first
    | with_reducible assumption
    | ((with_reducible refine ModField.upd_of ?_); intro i x hi; cases i <;> first | exact Keeps.no rfl hi | exact rfl | (split <;> rfl) | ((repeat' split) <;> rfl))
    | intro _
    | with_reducible apply Keeps.accepted
    | with_reducible apply KeepsR.next
    | with_reducible refine Keeps.modMod ?_ ?_
    | with_reducible apply Keeps.step (keeps_enterHalt _ _)
    | with_reducible apply Keeps.powered
    | with_reducible decide

theorem keeps_execResetInputRelease : ∀ a0, KeepsR 0x4000000000000000000000000000000000000000000000000000000000000000000000000 a0 (execResetInputRelease a0) := by
  intro a0
  have h0 : Keeps 0x4000000000000000000000000000000000000000000000000000000000000000000000000 a0 a0 := Keeps.refl _
  unfold execResetInputRelease
  repeat' first
    | with_reducible assumption
    | ((with_reducible refine ModField.upd_of ?_); intro i x hi; cases i <;> first | exact Keeps.no rfl hi | exact rfl | (split <;> rfl) | ((repeat' split) <;> rfl))
    | intro _
    | with_reducible apply Keeps.accepted
    | with_reducible apply KeepsR.next
    | with_reducible refine Keeps.modMod ?_ ?_
    | with_reducible apply Keeps.powered
    | with_reducible decide

end Sys2Proof.Machine
end

