-- ==== Sys2Proof/Laws/KeepsLogicOps.lean ====
section
/-!
SUPPORT. What each operation of Machine/LogicOps.lean may change.
-/

set_option linter.unusedTactic false
set_option linter.tactic.unusedName false
set_option linter.unreachableTactic false

namespace Sys2Proof.Machine

theorem keeps_State_modStn : ∀ a0 a1 a2, Keeps 0x400000000000000000000000000000000000000000000000000000000000000000000000000000000000000000000000000000000000000000000000000000000000000000000000 a0 (State.modStn a0 a1 a2) := by
  intro a0 a1 a2
  have h0 : Keeps 0x400000000000000000000000000000000000000000000000000000000000000000000000000000000000000000000000000000000000000000000000000000000000000000000000 a0 a0 := Keeps.refl _
  unfold State.modStn
  repeat' first
    | with_reducible assumption
    | ((with_reducible refine LgcField.upd_of ?_); intro i x hi; cases i <;> first | exact Keeps.no rfl hi | exact rfl | (split <;> rfl) | ((repeat' split) <;> rfl))
    | intro _
    | with_reducible refine Keeps.modLgc ?_ ?_
    | with_reducible decide

theorem keeps_showLogic : ∀ a0, Keeps 0x21b00000000000000000000000000000000000 a0 (showLogic a0) := by
  intro a0
  have h0 : Keeps 0x21b00000000000000000000000000000000000 a0 a0 := Keeps.refl _
  unfold showLogic
  repeat' first
    | with_reducible assumption
    | intro _
    | (extract_lets +onlyGivenNames x; refine Keeps.cut x ?_ (fun hx => ?_); (revert x; show Keeps _ _ _); on_goal 2 => clear_value x)
    | (extract_lets +onlyGivenNames x; clear_value x)
    | with_reducible apply Keeps.setBit .LGC_STATUS group_LGC_STATUS
    | with_reducible apply Keeps.setField .LGC_STATUS group_LGC_STATUS
    | with_reducible apply Keeps.setN .LGC_WCET_BUSY group_LGC_WCET_BUSY
    | with_reducible apply Keeps.setN .LGC_STAGED_ID group_LGC_STAGED_ID
    | with_reducible apply Keeps.setN .LGC_PROG_CHECK group_LGC_PROG_CHECK
    | with_reducible apply Keeps.setN .LGC_PROG_ID group_LGC_PROG_ID
    | with_reducible decide

theorem keeps_hostWrite : ∀ a0 a1 a2, Keeps 0x200000000000000000000000000000000000000000000000000000000000000000000000000000000000000000000000000000000000000000000000000000000000000000000000 a2 (hostWrite a0 a1 a2).2 := by
  intro a0 a1 a2
  have h0 : Keeps 0x200000000000000000000000000000000000000000000000000000000000000000000000000000000000000000000000000000000000000000000000000000000000000000000000 a2 a2 := Keeps.refl _
  unfold hostWrite
  repeat' first
    | with_reducible assumption
    | ((with_reducible refine LgcField.upd_of ?_); intro i x hi; cases i <;> first | exact Keeps.no rfl hi | exact rfl | (split <;> rfl) | ((repeat' split) <;> rfl))
    | intro _
    | with_reducible refine Keeps.modLgc ?_ ?_
    | with_reducible apply Keeps.ite
    | with_reducible apply Keeps.iteP
    | with_reducible decide
    | with_reducible refine Keeps.of_eq (by assumption) ?_
    | split

theorem keeps_setStations : ∀ a0 a1 a2, Keeps 0x400000000000000000000000000000000000000000000000000000000000000000000000000000000000000000000000000000000014000000000000000000000000000000000000 a2 (setStations a0 a1 a2) := by
  intro a0 a1 a2
  have h0 : Keeps 0x400000000000000000000000000000000000000000000000000000000000000000000000000000000000000000000000000000000014000000000000000000000000000000000000 a2 a2 := Keeps.refl _
  unfold setStations
  repeat' first
    | with_reducible assumption
    | intro _
    | (extract_lets +onlyGivenNames x; clear_value x)
    | with_reducible apply Keeps.step (keeps_State_modStn _ _ _)
    | with_reducible apply Keeps.setN .LGC_STN_ID (group_LGC_STN_ID _)
    | with_reducible apply Keeps.setN .LGC_STN_STATE (group_LGC_STN_STATE _)
    | with_reducible apply Keeps.foldl
    | with_reducible apply Keeps.foldlP
    | with_reducible apply Keeps.ite
    | with_reducible apply Keeps.iteP
    | with_reducible decide
    | with_reducible refine Keeps.of_eq (by assumption) ?_
    | split

theorem keeps_restoreImage : ∀ a0, Keeps 0x69a7a1000000000000000000000000000000000000000000000000000000000000000000400000000000000000000000000004000035b00000000000000000000000000000000100 a0 (restoreImage a0) := by
  intro a0
  have h0 : Keeps 0x69a7a1000000000000000000000000000000000000000000000000000000000000000000400000000000000000000000000004000035b00000000000000000000000000000000100 a0 a0 := Keeps.refl _
  unfold restoreImage
  repeat' first
    | with_reducible assumption
    | ((with_reducible refine LgcField.upd_of ?_); intro i x hi; cases i <;> first | exact Keeps.no rfl hi | exact rfl | (split <;> rfl) | ((repeat' split) <;> rfl))
    | ((with_reducible refine ModField.upd_of ?_); intro i x hi; cases i <;> first | exact Keeps.no rfl hi | exact rfl | (split <;> rfl) | ((repeat' split) <;> rfl))
    | intro _
    | (extract_lets +onlyGivenNames x; refine Keeps.cut x ?_ (fun hx => ?_); (revert x; show Keeps _ _ _); on_goal 2 => clear_value x)
    | (extract_lets +onlyGivenNames x; clear_value x)
    | with_reducible apply Keeps.step (keeps_State_log _ _ _)
    | with_reducible refine Keeps.modLgc ?_ ?_
    | with_reducible refine Keeps.modMod ?_ ?_
    | with_reducible apply Keeps.setBit .LGC_STATUS group_LGC_STATUS
    | with_reducible apply Keeps.step (keeps_setStations _ _ _)
    | with_reducible apply Keeps.step (keeps_showLogic _)
    | with_reducible apply Keeps.ite
    | with_reducible apply Keeps.iteP
    | with_reducible decide
    | with_reducible refine Keeps.of_eq (by assumption) ?_
    | split

theorem keeps_startEngine : ∀ a0 a1, Keeps 0x1023800800000000000000000000000000000000000000000000000000000000000000000000000000000000000000000000000000021b00000000000000000000000000000000000 a1 (startEngine a0 a1) := by
  intro a0 a1
  have h0 : Keeps 0x1023800800000000000000000000000000000000000000000000000000000000000000000000000000000000000000000000000000021b00000000000000000000000000000000000 a1 a1 := Keeps.refl _
  unfold startEngine
  repeat' first
    | with_reducible assumption
    | ((with_reducible refine LgcField.upd_of ?_); intro i x hi; cases i <;> first | exact Keeps.no rfl hi | exact rfl | (split <;> rfl) | ((repeat' split) <;> rfl))
    | intro _
    | (extract_lets +onlyGivenNames x; clear_value x)
    | with_reducible refine Keeps.modLgc ?_ ?_
    | with_reducible apply Keeps.step (keeps_showLogic _)
    | with_reducible apply Keeps.ite
    | with_reducible apply Keeps.iteP
    | with_reducible decide
    | split

theorem keeps_stopEngine : ∀ a0, Keeps 0x800000000000000000000000000000000000000000000000000000000000000000000000000000000000000000000000000021b00000000000000000000000000000000000 a0 (stopEngine a0) := by
  intro a0
  have h0 : Keeps 0x800000000000000000000000000000000000000000000000000000000000000000000000000000000000000000000000000021b00000000000000000000000000000000000 a0 a0 := Keeps.refl _
  unfold stopEngine
  repeat' first
    | with_reducible assumption
    | ((with_reducible refine LgcField.upd_of ?_); intro i x hi; cases i <;> first | exact Keeps.no rfl hi | exact rfl | (split <;> rfl) | ((repeat' split) <;> rfl))
    | intro _
    | with_reducible refine Keeps.modLgc ?_ ?_
    | with_reducible apply Keeps.step (keeps_showLogic _)
    | with_reducible decide

theorem keeps_programExchange : ∀ a0 a1, Keeps 0x80000000000000000000000000000000000000000000000000000000000000000000000000040000000000000000000000004000021b00000000000000000000000000000000100 a1 (programExchange a0 a1).2 := by
  intro a0 a1
  have h0 : Keeps 0x80000000000000000000000000000000000000000000000000000000000000000000000000040000000000000000000000004000021b00000000000000000000000000000000100 a1 a1 := Keeps.refl _
  unfold programExchange
  repeat' first
    | with_reducible assumption
    | ((with_reducible refine LgcField.upd_of ?_); intro i x hi; cases i <;> first | exact Keeps.no rfl hi | exact rfl | (split <;> rfl) | ((repeat' split) <;> rfl))
    | intro _
    | (extract_lets +onlyGivenNames x; refine Keeps.cut x ?_ (fun hx => ?_); (revert x; show Keeps _ _ _); on_goal 2 => clear_value x)
    | (extract_lets +onlyGivenNames x; clear_value x)
    | with_reducible apply Keeps.step (keeps_State_log _ _ _)
    | with_reducible refine Keeps.modLgc ?_ ?_
    | with_reducible apply Keeps.step (keeps_countImplausible _ _)
    | with_reducible apply Keeps.step (keeps_showLogic _)
    | with_reducible apply Keeps.ite
    | with_reducible apply Keeps.iteP
    | with_reducible decide
    | split

theorem keeps_discardStaged : ∀ a0, Keeps 0x8000000000000000000000000000000000000000000000000000000000000000000000000000000000000000000000000000021b00000000000000000000000000000000000 a0 (discardStaged a0).2 := by
  intro a0
  have h0 : Keeps 0x8000000000000000000000000000000000000000000000000000000000000000000000000000000000000000000000000000021b00000000000000000000000000000000000 a0 a0 := Keeps.refl _
  unfold discardStaged
  repeat' first
    | with_reducible assumption
    | ((with_reducible refine LgcField.upd_of ?_); intro i x hi; cases i <;> first | exact Keeps.no rfl hi | exact rfl | (split <;> rfl) | ((repeat' split) <;> rfl))
    | intro _
    | with_reducible refine Keeps.modLgc ?_ ?_
    | with_reducible apply Keeps.step (keeps_showLogic _)
    | with_reducible apply Keeps.ite
    | with_reducible apply Keeps.iteP
    | with_reducible decide
    | split

theorem keeps_resetRetain : ∀ a0 a1, Keeps 0x100000000000000000000000000000000000000000000000000000000000000000000000000000000000000000000000000000000000000000000000000000000000000000000000 a1 (resetRetain a0 a1).2 := by
  intro a0 a1
  have h0 : Keeps 0x100000000000000000000000000000000000000000000000000000000000000000000000000000000000000000000000000000000000000000000000000000000000000000000000 a1 a1 := Keeps.refl _
  unfold resetRetain
  repeat' first
    | with_reducible assumption
    | ((with_reducible refine LgcField.upd_of ?_); intro i x hi; cases i <;> first | exact Keeps.no rfl hi | exact rfl | (split <;> rfl) | ((repeat' split) <;> rfl))
    | intro _
    | with_reducible refine Keeps.modLgc ?_ ?_
    | with_reducible apply Keeps.ite
    | with_reducible apply Keeps.iteP
    | with_reducible decide
    | split

theorem keeps_stageBlock : ∀ a0 a1, Keeps 0x18000000000000000000000000000000000000000000000000000000000000000000000000000000000000000000000004000021b00000000000000000000000000000000100 a1 (stageBlock a0 a1).2 := by
  intro a0 a1
  have h0 : Keeps 0x18000000000000000000000000000000000000000000000000000000000000000000000000000000000000000000000004000021b00000000000000000000000000000000100 a1 a1 := Keeps.refl _
  unfold stageBlock
  repeat' first
    | with_reducible assumption
    | ((with_reducible refine LgcField.upd_of ?_); intro i x hi; cases i <;> first | exact Keeps.no rfl hi | exact rfl | (split <;> rfl) | ((repeat' split) <;> rfl))
    | intro _
    | (extract_lets +onlyGivenNames x; refine Keeps.cut x ?_ (fun hx => ?_); (revert x; show Keeps _ _ _); on_goal 2 => clear_value x)
    | (extract_lets +onlyGivenNames x; clear_value x)
    | with_reducible apply Keeps.step (keeps_State_log _ _ _)
    | with_reducible refine Keeps.modLgc ?_ ?_
    | with_reducible apply Keeps.step (keeps_showLogic _)
    | with_reducible apply Keeps.ite
    | with_reducible apply Keeps.iteP
    | with_reducible decide
    | with_reducible refine Keeps.of_eq (by assumption) ?_
    | split

theorem keeps_logicCommand : ∀ a0 a1 a2, Keeps 0x180008000000000000000000000000000000000000000000000000000000000000000000000040000000000000000000000004000021b00000000000000000000000000000000100 a2 (logicCommand a0 a1 a2).2 := by
  intro a0 a1 a2
  have h0 : Keeps 0x180008000000000000000000000000000000000000000000000000000000000000000000000040000000000000000000000004000021b00000000000000000000000000000000100 a2 a2 := Keeps.refl _
  unfold logicCommand
  repeat' first
    | with_reducible assumption
    | intro _
    | with_reducible apply Keeps.step (keeps_discardStaged _)
    | with_reducible apply Keeps.step (keeps_programExchange _ _)
    | with_reducible apply Keeps.step (keeps_resetRetain _ _)
    | with_reducible apply Keeps.ite
    | with_reducible apply Keeps.iteP
    | with_reducible decide
    | with_reducible refine Keeps.of_eq (by assumption) ?_
    | split

end Sys2Proof.Machine
end

