-- ==== Sys2Proof/Laws/KeepsWriteOps.lean ====
section
/-!
SUPPORT. What each operation of Machine/WriteOps.lean may change.
-/

set_option linter.unusedTactic false
set_option linter.tactic.unusedName false
set_option linter.unreachableTactic false

namespace Sys2Proof.Machine

theorem keeps_showPage : ∀ a0 a1, Keeps 0x400080000000000004000800050001000000000000080000000000000000000000700010000000000000014000004080421b0000002098100095302100007c000000100 a1 (showPage a0 a1) := by
  intro a0 a1
  have h0 : Keeps 0x400080000000000004000800050001000000000000080000000000000000000000700010000000000000014000004080421b0000002098100095302100007c000000100 a1 a1 := Keeps.refl _
  unfold showPage
  repeat' first
    | with_reducible assumption
    | intro _
    | with_reducible apply Keeps.step (keeps_refreshPermissions _)
    | with_reducible apply Keeps.step (keeps_showChain _ _)
    | with_reducible apply Keeps.step (keeps_showDeadTime _ _)
    | with_reducible apply Keeps.step (keeps_showDi _ _)
    | with_reducible apply Keeps.step (keeps_showDrv _ _)
    | with_reducible apply Keeps.step (keeps_showField _)
    | with_reducible apply Keeps.step (keeps_showGallery _ _)
    | with_reducible apply Keeps.step (keeps_showLogic _)
    | with_reducible apply Keeps.step (keeps_showNet _)
    | with_reducible apply Keeps.step (keeps_showSoc _ _)
    | with_reducible apply Keeps.step (keeps_showTwin _)
    | with_reducible apply Keeps.step (keeps_tripScan _)
    | with_reducible apply Keeps.foldl
    | with_reducible apply Keeps.foldlP
    | with_reducible apply Keeps.ite
    | with_reducible apply Keeps.iteP
    | with_reducible decide
    | split

theorem keeps_actNow : ∀ a0 a1, Keeps 0x2000000000804001810000008007454848000730770c0f0009df86e8007ccfd9f0a4b33e7000007003ffffffffffffffffffffffffffffffffffffffffffffffffffffffffffffff1c0 a0 (actNow a0 a1) := by
  intro a0 a1
  have h0 : Keeps 0x2000000000804001810000008007454848000730770c0f0009df86e8007ccfd9f0a4b33e7000007003ffffffffffffffffffffffffffffffffffffffffffffffffffffffffffffff1c0 a0 a0 := Keeps.refl _
  unfold actNow
  repeat' first
    | with_reducible assumption
    | ((with_reducible refine GalField.upd_of ?_); intro i x hi; cases i <;> first | exact Keeps.no rfl hi | exact rfl | (split <;> rfl) | ((repeat' split) <;> rfl))
    | intro _
    | (extract_lets +onlyGivenNames x; refine Keeps.cut x ?_ (fun hx => ?_); (revert x; show Keeps _ _ _); on_goal 2 => clear_value x)
    | extract_lets +onlyGivenNames x
    | with_reducible refine Keeps.modGal ?_ ?_
    | with_reducible apply Keeps.setObjAny
    | with_reducible apply Keeps.step (keeps_applyChainWrites _ _ _)
    | with_reducible apply Keeps.step (keeps_applyWrite _ _ _)
    | with_reducible apply Keeps.step (keeps_boundOffsets _ _)
    | with_reducible apply Keeps.step (keeps_closeDatagram _ _)
    | with_reducible apply Keeps.step (keeps_domainReview _ _)
    | with_reducible apply Keeps.step (keeps_envelopeCheck _ _)
    | with_reducible apply Keeps.step (keeps_showPage _ _)
    | with_reducible apply Keeps.ite
    | with_reducible apply Keeps.iteP
    | with_reducible decide
    | with_reducible refine Keeps.of_eq (by assumption) ?_
    | split
    | ((with_reducible refine Keeps.upd_sup ?_ _ ?_); on_goal 2 => (intro i hi; cases i <;> first | exact Keeps.no rfl hi | exact rfl | (split <;> rfl) | ((repeat' split) <;> rfl)))

theorem keeps_flushWrites : ∀ a0, Keeps 0x2000000000804001810000008007454848000730770c0f0009df86e8007ccfd9f0a4b33e7000007003ffffffffffffffffffffffffffffffffffffffffffffffffffffffffffffff1c4 a0 (flushWrites a0) := by
  intro a0
  have h0 : Keeps 0x2000000000804001810000008007454848000730770c0f0009df86e8007ccfd9f0a4b33e7000007003ffffffffffffffffffffffffffffffffffffffffffffffffffffffffffffff1c4 a0 a0 := Keeps.refl _
  unfold flushWrites
  repeat' first
    | with_reducible assumption
    | intro _
    | with_reducible apply Keeps.step (keeps_actNow _ _)
    | with_reducible apply Keeps.foldl
    | with_reducible apply Keeps.foldlP
    | with_reducible decide
    | with_reducible apply Keeps.upd_commitWrites

theorem keeps_takeModeWrites : ∀ a0, Keeps 0x2000000000804001810000008007454848000730770c0f0009df86e8007ccfd9f0a4b33e7000007003ffffffffffffffffffffffffffffffffffffffffffffffffffffffffffffff1d0 a0 (takeModeWrites a0) := by
  intro a0
  have h0 : Keeps 0x2000000000804001810000008007454848000730770c0f0009df86e8007ccfd9f0a4b33e7000007003ffffffffffffffffffffffffffffffffffffffffffffffffffffffffffffff1d0 a0 a0 := Keeps.refl _
  unfold takeModeWrites
  repeat' first
    | with_reducible assumption
    | intro _
    | with_reducible apply Keeps.step (keeps_actNow _ _)
    | with_reducible apply Keeps.foldl
    | with_reducible apply Keeps.foldlP
    | with_reducible decide
    | with_reducible apply Keeps.upd_modeWrites

end Sys2Proof.Machine
end

