-- ==== Sys2Proof/Laws/KeepsPairCheck.lean ====
section
/-!
SUPPORT. What each operation of Machine/PairCheck.lean may change.
-/

set_option linter.unusedTactic false
set_option linter.tactic.unusedName false
set_option linter.unreachableTactic false

namespace Sys2Proof.Machine

theorem keeps_takeRoles : ∀ a0, Keeps 0x800000800000000003800000000000000000000000000000000000000000000000000000000000000000000000000000000000000021b00000000000000000000000000000000000 a0 (takeRoles a0) := by
  intro a0
  have h0 : Keeps 0x800000800000000003800000000000000000000000000000000000000000000000000000000000000000000000000000000000000021b00000000000000000000000000000000000 a0 a0 := Keeps.refl _
  unfold takeRoles
  repeat' first
    | with_reducible assumption
    | ((with_reducible refine LgcField.upd_of ?_); intro i x hi; cases i <;> first | exact Keeps.no rfl hi | exact rfl | (split <;> rfl) | ((repeat' split) <;> rfl))
    | ((with_reducible refine TwnField.upd_of ?_); intro i x hi; cases i <;> first | exact Keeps.no rfl hi | exact rfl | (split <;> rfl) | ((repeat' split) <;> rfl))
    | intro _
    | (extract_lets +onlyGivenNames x; refine Keeps.cut x ?_ (fun hx => ?_); (revert x; show Keeps _ _ _); on_goal 2 => clear_value x)
    | (extract_lets +onlyGivenNames x; clear_value x)
    | with_reducible refine Keeps.modLgc ?_ ?_
    | with_reducible refine Keeps.modTwn ?_ ?_
    | with_reducible apply Keeps.step (keeps_stopEngine _)
    | with_reducible apply Keeps.ite
    | with_reducible apply Keeps.iteP
    | with_reducible decide
    | split

theorem keeps_pairExamine : ∀ a0, Keeps 0x800000800000000003e20000000000000000000000000000000000000000000000000000000000010000000000000000000004000421b00000000000000000000000000000000100 a0 (pairExamine a0) := by
  intro a0
  have h0 : Keeps 0x800000800000000003e20000000000000000000000000000000000000000000000000000000000010000000000000000000004000421b00000000000000000000000000000000100 a0 a0 := Keeps.refl _
  unfold pairExamine
  repeat' first
    | with_reducible assumption
    | ((with_reducible refine TwnField.upd_of ?_); intro i x hi; cases i <;> first | exact Keeps.no rfl hi | exact rfl | (split <;> rfl) | ((repeat' split) <;> rfl))
    | intro _
    | (extract_lets +onlyGivenNames x; refine Keeps.cut x ?_ (fun hx => ?_); (revert x; show Keeps _ _ _); on_goal 2 => clear_value x)
    | (extract_lets +onlyGivenNames x; clear_value x)
    | with_reducible apply Keeps.step (keeps_State_log _ _ _)
    | with_reducible refine Keeps.modTwn ?_ ?_
    | with_reducible apply Keeps.step (keeps_showTwin _)
    | with_reducible apply Keeps.step (keeps_takeRoles _)
    | with_reducible apply Keeps.ite
    | with_reducible apply Keeps.iteP
    | with_reducible decide
    | with_reducible refine Keeps.of_eq (by assumption) ?_
    | split

end Sys2Proof.Machine
end

