-- ==== Sys2Proof/Laws/KeepsModeOps.lean ====
section
/-!
SUPPORT. What each operation of Machine/ModeOps.lean may change.
-/

set_option linter.unusedTactic false
set_option linter.tactic.unusedName false
set_option linter.unreachableTactic false

namespace Sys2Proof.Machine

theorem keeps_changeMode : ∀ a0 a1, Keeps 0x220000000081400181000000800745484c00e730770c0f0009df86e8007ccfd9f0a4b33e7000427003ffffffffffffffffffffffffffffffffffffffffffffffffffffffffffffff1d4 a1 (changeMode a0 a1) := by
  intro a0 a1
  have h0 : Keeps 0x220000000081400181000000800745484c00e730770c0f0009df86e8007ccfd9f0a4b33e7000427003ffffffffffffffffffffffffffffffffffffffffffffffffffffffffffffff1d4 a1 a1 := Keeps.refl _
  unfold changeMode
  repeat' first
    | with_reducible assumption
    | ((with_reducible refine FioField.upd_of ?_); intro i x hi; cases i <;> first | exact Keeps.no rfl hi | exact rfl | (split <;> rfl) | ((repeat' split) <;> rfl))
    | ((with_reducible refine ModField.upd_of ?_); intro i x hi; cases i <;> first | exact Keeps.no rfl hi | exact rfl | (split <;> rfl) | ((repeat' split) <;> rfl))
    | ((with_reducible refine StgField.upd_of ?_); intro i x hi; cases i <;> first | exact Keeps.no rfl hi | exact rfl | (split <;> rfl) | ((repeat' split) <;> rfl))
    | exact Or.inl rfl
    | exact Or.inr (fun _ h => h)
    | exact Or.inr (fun _ _ => rfl)
    | ((with_reducible refine Or.inr ?_); intro x h; (repeat' split) <;> first | exact h | exact rfl)
    | intro _
    | (extract_lets +onlyGivenNames x; refine Keeps.cut x ?_ (fun hx => ?_); (revert x; show Keeps _ _ _); on_goal 2 => clear_value x)
    | (extract_lets +onlyGivenNames x; clear_value x)
    | with_reducible apply Keeps.bump .MOD_TRANSITION_COUNT group_MOD_TRANSITION_COUNT
    | with_reducible apply Keeps.step (keeps_State_log _ _ _)
    | with_reducible refine Keeps.modFio ?_ ?_
    | with_reducible refine Keeps.modMod ?_ ?_
    | with_reducible refine Keeps.modStage ?_ ?_ ?_
    | with_reducible apply Keeps.setBit .EDG_CH_STATUS (group_EDG_CH_STATUS _)
    | with_reducible apply Keeps.setN .FIO_FORCE group_FIO_FORCE
    | with_reducible apply Keeps.step (keeps_endService _)
    | with_reducible apply Keeps.step (keeps_flushWrites _)
    | with_reducible apply Keeps.step (keeps_moveRails _)
    | with_reducible apply Keeps.step (keeps_rawSet _ _)
    | with_reducible apply Keeps.step (keeps_refreshPermissions _)
    | with_reducible apply Keeps.step (keeps_showErrors _)
    | with_reducible apply Keeps.step (keeps_showField _)
    | with_reducible apply Keeps.step (keeps_takeModeWrites _)
    | with_reducible apply Keeps.foldl
    | with_reducible apply Keeps.foldlP
    | with_reducible apply Keeps.ite
    | with_reducible apply Keeps.iteP
    | with_reducible decide
    | split

theorem keeps_lineCheck : ∀ a0 a1, Keeps 0x2000000000004001800000000007400008000310000c0d00000006e0007cc1d9f0a4b33e700000000000000000080010014020004000200000100020981a0201000100e000000000140 a1 (lineCheck a0 a1) := by
  intro a0 a1
  have h0 : Keeps 0x2000000000004001800000000007400008000310000c0d00000006e0007cc1d9f0a4b33e700000000000000000080010014020004000200000100020981a0201000100e000000000140 a1 a1 := Keeps.refl _
  unfold lineCheck
  repeat' first
    | with_reducible assumption
    | intro _
    | with_reducible apply Keeps.step (keeps_State_log _ _ _)
    | with_reducible apply Keeps.step (keeps_stageSafe _ _ _)
    | with_reducible apply Keeps.ite
    | with_reducible apply Keeps.iteP
    | with_reducible decide
    | with_reducible refine Keeps.of_eq (by assumption) ?_
    | split

theorem keeps_addTo : ∀ a0 a1 a2, Keeps 0x100000000000000000000000000000000000000000000003ffffffffffffffffffffffffffffffffffffffffffffffffffffffffffffff000 a2 (addTo a0 a1 a2) := by
  intro a0 a1 a2
  have h0 : Keeps 0x100000000000000000000000000000000000000000000003ffffffffffffffffffffffffffffffffffffffffffffffffffffffffffffff000 a2 a2 := Keeps.refl _
  unfold addTo
  repeat' first
    | with_reducible assumption
    | ((with_reducible refine EdgField.upd_of ?_); intro i x hi; cases i <;> first | exact Keeps.no rfl hi | exact rfl | (split <;> rfl) | ((repeat' split) <;> rfl))
    | intro _
    | (extract_lets +onlyGivenNames x; refine Keeps.cut x ?_ (fun hx => ?_); (revert x; show Keeps _ _ _); on_goal 2 => clear_value x)
    | (extract_lets +onlyGivenNames x; clear_value x)
    | with_reducible refine Keeps.modEdg ?_ ?_
    | with_reducible apply Keeps.setObjAny
    | with_reducible apply Keeps.ite
    | with_reducible apply Keeps.iteP
    | with_reducible decide
    | split

theorem keeps_addSource : ∀ a0 a1 a2 a3, Keeps 0x100000000000000000000000000000000000000000000003ffffffffffffffffffffffffffffffffffffffffffffffffffffffffffffff000 a3 (addSource a0 a1 a2 a3) := by
  intro a0 a1 a2 a3
  have h0 : Keeps 0x100000000000000000000000000000000000000000000003ffffffffffffffffffffffffffffffffffffffffffffffffffffffffffffff000 a3 a3 := Keeps.refl _
  unfold addSource
  repeat' first
    | with_reducible assumption
    | intro _
    | (extract_lets +onlyGivenNames x; clear_value x)
    | with_reducible apply Keeps.step (keeps_addTo _ _ _)
    | with_reducible decide

theorem keeps_pulseLimitCheck : ∀ a0 a1, Keeps 0x2000000000004001800000000007400008100310000c0d00000006e0007cc1d9f0a4b33e7000000003ffffffffffffffffffffffffffffffffffffffffffffffffffffffffffffff140 a1 (pulseLimitCheck a0 a1) := by
  intro a0 a1
  have h0 : Keeps 0x2000000000004001800000000007400008100310000c0d00000006e0007cc1d9f0a4b33e7000000003ffffffffffffffffffffffffffffffffffffffffffffffffffffffffffffff140 a1 a1 := Keeps.refl _
  unfold pulseLimitCheck
  repeat' first
    | with_reducible assumption
    | intro _
    | (extract_lets +onlyGivenNames x; refine Keeps.cut x ?_ (fun hx => ?_); (revert x; show Keeps _ _ _); on_goal 2 => clear_value x)
    | (extract_lets +onlyGivenNames x; clear_value x)
    | with_reducible apply Keeps.step (keeps_State_log _ _ _)
    | with_reducible apply Keeps.step (keeps_addSource _ _ _ _)
    | with_reducible apply Keeps.step (keeps_stageSafe _ _ _)
    | with_reducible apply Keeps.foldl
    | with_reducible apply Keeps.foldlP
    | with_reducible apply Keeps.ite
    | with_reducible apply Keeps.iteP
    | with_reducible decide
    | with_reducible refine Keeps.of_eq (by assumption) ?_
    | split

theorem keeps_scheduleCheck : ∀ a0 a1, Keeps 0x2000000000004001800000000007400008000310000c0d00000006e0007cc1d9f0a4b33e700000000000000000080010014020004000200000100020981a0201000100e000000000140 a1 (scheduleCheck a0 a1) := by
  intro a0 a1
  have h0 : Keeps 0x2000000000004001800000000007400008000310000c0d00000006e0007cc1d9f0a4b33e700000000000000000080010014020004000200000100020981a0201000100e000000000140 a1 a1 := Keeps.refl _
  unfold scheduleCheck
  repeat' first
    | with_reducible assumption
    | intro _
    | (extract_lets +onlyGivenNames x; refine Keeps.cut x ?_ (fun hx => ?_); (revert x; show Keeps _ _ _); on_goal 2 => clear_value x)
    | (extract_lets +onlyGivenNames x; clear_value x)
    | with_reducible apply Keeps.step (keeps_State_log _ _ _)
    | with_reducible apply Keeps.step (keeps_stageSafe _ _ _)
    | with_reducible apply Keeps.ite
    | with_reducible apply Keeps.iteP
    | with_reducible decide
    | split

theorem keeps_edgeConfigCheck : ∀ a0 a1, Keeps 0x2000000000004001800000000007400008000310000c0d00000006e0007cc1d9f0a4b33e700000000000000000080010014020004000200000100020981a0201000100e000000000140 a1 (edgeConfigCheck a0 a1) := by
  intro a0 a1
  have h0 : Keeps 0x2000000000004001800000000007400008000310000c0d00000006e0007cc1d9f0a4b33e700000000000000000080010014020004000200000100020981a0201000100e000000000140 a1 a1 := Keeps.refl _
  unfold edgeConfigCheck
  repeat' first
    | with_reducible assumption
    | intro _
    | with_reducible apply Keeps.step (keeps_State_log _ _ _)
    | with_reducible apply Keeps.step (keeps_stageSafe _ _ _)
    | with_reducible decide
    | with_reducible refine Keeps.of_eq (by assumption) ?_
    | split

theorem keeps_gatePowerCheck : ∀ a0 a1, Keeps 0x2000000000004001800000000007400008000310000c0d00000006e0007cc1d9f0a4b33e700000000000000000080010014020004000200000100020981a0201000100e000000000140 a1 (gatePowerCheck a0 a1) := by
  intro a0 a1
  have h0 : Keeps 0x2000000000004001800000000007400008000310000c0d00000006e0007cc1d9f0a4b33e700000000000000000080010014020004000200000100020981a0201000100e000000000140 a1 a1 := Keeps.refl _
  unfold gatePowerCheck
  repeat' first
    | with_reducible assumption
    | intro _
    | with_reducible apply Keeps.step (keeps_State_log _ _ _)
    | with_reducible apply Keeps.step (keeps_stageSafe _ _ _)
    | with_reducible decide
    | with_reducible refine Keeps.of_eq (by assumption) ?_
    | split

theorem keeps_fibreCheck : ∀ a0 a1, Keeps 0x2000000000004001800000000007400008000310000c0d00000006e0007cc1d9f0a4b33e700000000000000000080010014020004000200000100020981a0201000100e000000000140 a1 (fibreCheck a0 a1) := by
  intro a0 a1
  have h0 : Keeps 0x2000000000004001800000000007400008000310000c0d00000006e0007cc1d9f0a4b33e700000000000000000080010014020004000200000100020981a0201000100e000000000140 a1 a1 := Keeps.refl _
  unfold fibreCheck
  repeat' first
    | with_reducible assumption
    | intro _
    | with_reducible apply Keeps.step (keeps_State_log _ _ _)
    | with_reducible apply Keeps.step (keeps_stageSafe _ _ _)
    | with_reducible decide
    | with_reducible refine Keeps.of_eq (by assumption) ?_
    | split

theorem keeps_ownComparators : ∀ a0 a1, Keeps 0xc0000000000000000000000000000000000000000000000000000000000000000000000000000000000000000000000000000000000800000000 a1 (ownComparators a0 a1) := by
  intro a0 a1
  have h0 : Keeps 0xc0000000000000000000000000000000000000000000000000000000000000000000000000000000000000000000000000000000000800000000 a1 a1 := Keeps.refl _
  unfold ownComparators
  repeat' first
    | with_reducible assumption
    | ((with_reducible refine AcqField.upd_of ?_); intro i x hi; cases i <;> first | exact Keeps.no rfl hi | exact rfl | (split <;> rfl) | ((repeat' split) <;> rfl))
    | intro _
    | (extract_lets +onlyGivenNames x; refine Keeps.cut x ?_ (fun hx => ?_); (revert x; show Keeps _ _ _); on_goal 2 => clear_value x)
    | (extract_lets +onlyGivenNames x; clear_value x)
    | with_reducible refine Keeps.modAcq ?_ ?_
    | with_reducible apply Keeps.setBit .ACQ_CH_STATUS (group_ACQ_CH_STATUS _)
    | with_reducible apply Keeps.step (keeps_programOwned _)
    | with_reducible apply Keeps.foldl
    | with_reducible apply Keeps.foldlP
    | with_reducible decide

theorem keeps_pairCheck : ∀ a0 a1, Keeps 0x2000000000004001800000000007400008000310000c0d00000006e0007cc1d9f0a4b33e700000000000000000080010014020004000200000100020981a0201000100e000000000140 a1 (pairCheck a0 a1) := by
  intro a0 a1
  have h0 : Keeps 0x2000000000004001800000000007400008000310000c0d00000006e0007cc1d9f0a4b33e700000000000000000080010014020004000200000100020981a0201000100e000000000140 a1 a1 := Keeps.refl _
  unfold pairCheck
  repeat' first
    | with_reducible assumption
    | intro _
    | (extract_lets +onlyGivenNames x; clear_value x)
    | with_reducible apply Keeps.step (keeps_State_log _ _ _)
    | with_reducible apply Keeps.step (keeps_stageSafe _ _ _)
    | with_reducible apply Keeps.ite
    | with_reducible apply Keeps.iteP
    | with_reducible decide
    | with_reducible refine Keeps.of_eq (by assumption) ?_
    | split

theorem Keeps.eachUsed {F : Nat} {s0 s : State} {f : StageId → State → State} (hf : ∀ n t, Keeps F s0 t → Keeps F s0 (f n t))
    (h : Keeps F s0 s) : Keeps F s0 (Machine.eachUsed f s) := by
  unfold Machine.eachUsed
  exact Keeps.foldl _ (fun t n => hf n t) h

theorem keeps_chargeChecks : ∀ a0, Keeps 0x2000000000004201800000000007440c48100730010c0d00000006e8007cc1d9f0a4b33e7000000003ffffffffffffffffffffffffffffffffffffffffffffffffffffffffffffff1c0 a0 (chargeChecks a0) := by
  intro a0
  have h0 : Keeps 0x2000000000004201800000000007440c48100730010c0d00000006e8007cc1d9f0a4b33e7000000003ffffffffffffffffffffffffffffffffffffffffffffffffffffffffffffff1c0 a0 a0 := Keeps.refl _
  unfold chargeChecks
  repeat' first
    | with_reducible assumption
    | ((with_reducible refine PieField.upd_of ?_); intro i x hi; cases i <;> first | exact Keeps.no rfl hi | exact rfl | (split <;> rfl) | ((repeat' split) <;> rfl))
    | intro _
    | (extract_lets +onlyGivenNames x; refine Keeps.cut x ?_ (fun hx => ?_); (revert x; show Keeps _ _ _); on_goal 2 => clear_value x)
    | (extract_lets +onlyGivenNames x; clear_value x)
    | with_reducible refine Keeps.modPier ?_ ?_
    | with_reducible apply Keeps.step (keeps_acqCheck _)
    | with_reducible apply Keeps.step (keeps_derivePattern _)
    | with_reducible apply Keeps.eachUsed
    | with_reducible apply Keeps.step (keeps_edgeConfigCheck _ _)
    | with_reducible apply Keeps.step (keeps_envelopeCheck _ _)
    | with_reducible apply Keeps.step (keeps_fibreCheck _ _)
    | with_reducible apply Keeps.step (keeps_gatePowerCheck _ _)
    | with_reducible apply Keeps.step (keeps_keystoneChecks _)
    | with_reducible apply Keeps.step (keeps_lineCheck _ _)
    | with_reducible apply Keeps.step (keeps_ownComparators _ _)
    | with_reducible apply Keeps.step (keeps_pairCheck _ _)
    | with_reducible apply Keeps.step (keeps_pulseLimitCheck _ _)
    | with_reducible apply Keeps.step (keeps_scheduleCheck _ _)
    | with_reducible apply Keeps.step (keeps_tripScan _)
    | with_reducible apply Keeps.foldl
    | with_reducible apply Keeps.foldlP
    | with_reducible decide

theorem keeps_enterCharge : ∀ a0, Keeps 0x2200000000814201810050008007454c4c10e730770c0f0009df86e8007ccfd9f0a4b33e7300627003ffffffffffffffffffffffffffffffffffffffffffffffffffffffffffffff1d4 a0 (enterCharge a0) := by
  intro a0
  have h0 : Keeps 0x2200000000814201810050008007454c4c10e730770c0f0009df86e8007ccfd9f0a4b33e7300627003ffffffffffffffffffffffffffffffffffffffffffffffffffffffffffffff1d4 a0 a0 := Keeps.refl _
  unfold enterCharge
  repeat' first
    | with_reducible assumption
    | ((with_reducible refine ModField.upd_of ?_); intro i x hi; cases i <;> first | exact Keeps.no rfl hi | exact rfl | (split <;> rfl) | ((repeat' split) <;> rfl))
    | ((with_reducible refine TwnField.upd_of ?_); intro i x hi; cases i <;> first | exact Keeps.no rfl hi | exact rfl | (split <;> rfl) | ((repeat' split) <;> rfl))
    | intro _
    | (extract_lets +onlyGivenNames x; refine Keeps.cut x ?_ (fun hx => ?_); (revert x; show Keeps _ _ _); on_goal 2 => clear_value x)
    | (extract_lets +onlyGivenNames x; clear_value x)
    | with_reducible refine Keeps.modMod ?_ ?_
    | with_reducible refine Keeps.modTwn ?_ ?_
    | with_reducible apply Keeps.step (keeps_changeMode _ _)
    | with_reducible apply Keeps.step (keeps_chargeChecks _)
    | with_reducible apply Keeps.step (keeps_showTwin _)
    | with_reducible apply Keeps.ite
    | with_reducible apply Keeps.iteP
    | with_reducible decide
    | split

theorem keeps_enterReady : ∀ a0, Keeps 0x2200000000814201810050008007454c4c10e730770c0f0009df86e8007ccfd9f0a4b33e7300627003ffffffffffffffffffffffffffffffffffffffffffffffffffffffffffffff1d4 a0 (enterReady a0) := by
  intro a0
  have h0 : Keeps 0x2200000000814201810050008007454c4c10e730770c0f0009df86e8007ccfd9f0a4b33e7300627003ffffffffffffffffffffffffffffffffffffffffffffffffffffffffffffff1d4 a0 a0 := Keeps.refl _
  unfold enterReady
  repeat' first
    | with_reducible assumption
    | ((with_reducible refine EdgField.upd_of ?_); intro i x hi; cases i <;> first | exact Keeps.no rfl hi | exact rfl | (split <;> rfl) | ((repeat' split) <;> rfl))
    | ((with_reducible refine ModField.upd_of ?_); intro i x hi; cases i <;> first | exact Keeps.no rfl hi | exact rfl | (split <;> rfl) | ((repeat' split) <;> rfl))
    | ((with_reducible refine TwnField.upd_of ?_); intro i x hi; cases i <;> first | exact Keeps.no rfl hi | exact rfl | (split <;> rfl) | ((repeat' split) <;> rfl))
    | intro _
    | (extract_lets +onlyGivenNames x; refine Keeps.cut x ?_ (fun hx => ?_); (revert x; show Keeps _ _ _); on_goal 2 => clear_value x)
    | (extract_lets +onlyGivenNames x; clear_value x)
    | with_reducible refine Keeps.modEdg ?_ ?_
    | with_reducible refine Keeps.modMod ?_ ?_
    | with_reducible refine Keeps.modTwn ?_ ?_
    | with_reducible apply Keeps.step (keeps_changeMode _ _)
    | with_reducible apply Keeps.step (keeps_enterCharge _)
    | with_reducible apply Keeps.step (keeps_ownComparators _ _)
    | with_reducible apply Keeps.step (keeps_showTwin _)
    | with_reducible apply Keeps.ite
    | with_reducible apply Keeps.iteP
    | with_reducible decide
    | exact Keeps.upd_objs (by assumption) (by decide) _ (cellsWf_overlay _)
    | split

theorem keeps_stopOne : ∀ a0 a1 a2, Keeps 0x2000000000004101800000000007400008000310004c0d00000006e0007cc1d9f0a4b33e700000700000000000080010014020004000200000100020981a0291000100e000000000540 a2 (stopOne a0 a1 a2) := by
  intro a0 a1 a2
  have h0 : Keeps 0x2000000000004101800000000007400008000310004c0d00000006e0007cc1d9f0a4b33e700000700000000000080010014020004000200000100020981a0291000100e000000000540 a2 a2 := Keeps.refl _
  unfold stopOne
  repeat' first
    | with_reducible assumption
    | intro _
    | (extract_lets +onlyGivenNames x; clear_value x)
    | with_reducible apply Keeps.step (keeps_ssdDemand _ _ _)
    | with_reducible apply Keeps.step (keeps_stageSafe _ _ _)
    | with_reducible apply Keeps.step (keeps_stageStop _ _)
    | with_reducible apply Keeps.ite
    | with_reducible apply Keeps.iteP
    | with_reducible decide
    | with_reducible refine Keeps.of_eq (by assumption) ?_
    | split

theorem keeps_openSocs : ∀ a0, Keeps 0x400080000000000000000000000000000000000000000000000000000000000000000000000000000000014000000000000000000000000000010000000000000000000 a0 (openSocs a0) := by
  intro a0
  have h0 : Keeps 0x400080000000000000000000000000000000000000000000000000000000000000000000000000000000014000000000000000000000000000010000000000000000000 a0 a0 := Keeps.refl _
  unfold openSocs
  repeat' first
    | with_reducible assumption
    | intro _
    | (extract_lets +onlyGivenNames x; clear_value x)
    | with_reducible apply Keeps.step (keeps_socOpen _ _)
    | with_reducible apply Keeps.foldl
    | with_reducible apply Keeps.foldlP
    | with_reducible apply Keeps.ite
    | with_reducible apply Keeps.iteP
    | with_reducible decide
    | split

theorem keeps_dropOrders : ∀ a0 a1, Keeps 0x4301c000000000000000000000010000000000000000000000000000000000000000000000000000 a1 (dropOrders a0 a1) := by
  intro a0 a1
  have h0 : Keeps 0x4301c000000000000000000000010000000000000000000000000000000000000000000000000000 a1 a1 := Keeps.refl _
  unfold dropOrders
  repeat' first
    | with_reducible assumption
    | ((with_reducible refine ShrField.upd_of ?_); intro i x hi; cases i <;> first | exact Keeps.no rfl hi | exact rfl | (split <;> rfl) | ((repeat' split) <;> rfl))
    | ((with_reducible refine StgField.upd_of ?_); intro i x hi; cases i <;> first | exact Keeps.no rfl hi | exact rfl | (split <;> rfl) | ((repeat' split) <;> rfl))
    | exact Or.inl rfl
    | exact Or.inr (fun _ h => h)
    | exact Or.inr (fun _ _ => rfl)
    | ((with_reducible refine Or.inr ?_); intro x h; (repeat' split) <;> first | exact h | exact rfl)
    | intro _
    | (extract_lets +onlyGivenNames x; refine Keeps.cut x ?_ (fun hx => ?_); (revert x; show Keeps _ _ _); on_goal 2 => clear_value x)
    | (extract_lets +onlyGivenNames x; clear_value x)
    | with_reducible refine Keeps.modShare ?_ ?_
    | with_reducible refine Keeps.modStage ?_ ?_ ?_
    | with_reducible apply Keeps.step (keeps_showClaim _ _)
    | with_reducible decide

theorem keeps_enterStop : ∀ a0 a1, Keeps 0x220000000081410181000000800745484c00e730774c0f0009df86e8007ccfd9f0a4b33e7000627003ffffffffffffffffffffffffffffffffffffffffffffffffffffffffffffff5d4 a1 (enterStop a0 a1) := by
  intro a0 a1
  have h0 : Keeps 0x220000000081410181000000800745484c00e730774c0f0009df86e8007ccfd9f0a4b33e7000627003ffffffffffffffffffffffffffffffffffffffffffffffffffffffffffffff5d4 a1 a1 := Keeps.refl _
  unfold enterStop
  repeat' first
    | with_reducible assumption
    | ((with_reducible refine ModField.upd_of ?_); intro i x hi; cases i <;> first | exact Keeps.no rfl hi | exact rfl | (split <;> rfl) | ((repeat' split) <;> rfl))
    | intro _
    | (extract_lets +onlyGivenNames x; refine Keeps.cut x ?_ (fun hx => ?_); (revert x; show Keeps _ _ _); on_goal 2 => clear_value x)
    | (extract_lets +onlyGivenNames x; clear_value x)
    | with_reducible refine Keeps.modMod ?_ ?_
    | with_reducible apply Keeps.step (keeps_changeMode _ _)
    | with_reducible apply Keeps.step (keeps_dropOrders _ _)
    | with_reducible apply Keeps.step (keeps_openSocs _)
    | with_reducible apply Keeps.step (keeps_stopOne _ _ _)
    | with_reducible apply Keeps.foldl
    | with_reducible apply Keeps.foldlP
    | with_reducible decide

theorem keeps_leaveSurvey : ∀ a0, Keeps 0x16bbfa1800000000000000000000000000000000000000000000000000000000000000000400000000000000000000000000004000035b00000000000000000000000000000000100 a0 (leaveSurvey a0) := by
  intro a0
  have h0 : Keeps 0x16bbfa1800000000000000000000000000000000000000000000000000000000000000000400000000000000000000000000004000035b00000000000000000000000000000000100 a0 a0 := Keeps.refl _
  unfold leaveSurvey
  repeat' first
    | with_reducible assumption
    | intro _
    | with_reducible apply Keeps.step (keeps_restoreImage _)
    | with_reducible apply Keeps.step (keeps_startEngine _ _)
    | with_reducible apply Keeps.ite
    | with_reducible apply Keeps.iteP
    | with_reducible decide
    | split

theorem keeps_enterLockout : ∀ a0 a1, Keeps 0x2216bbfa1881400181000000800745484c00e730774c0f0009df86e8007ccfd9f0a4b33f730c6e7003ffffffffffffffffffffffffffffffffffffffffffffffffffffffffffffff5d4 a1 (enterLockout a0 a1) := by
  intro a0 a1
  have h0 : Keeps 0x2216bbfa1881400181000000800745484c00e730774c0f0009df86e8007ccfd9f0a4b33f730c6e7003ffffffffffffffffffffffffffffffffffffffffffffffffffffffffffffff5d4 a1 a1 := Keeps.refl _
  unfold enterLockout
  repeat' first
    | with_reducible assumption
    | ((with_reducible refine ModField.upd_of ?_); intro i x hi; cases i <;> first | exact Keeps.no rfl hi | exact rfl | (split <;> rfl) | ((repeat' split) <;> rfl))
    | ((with_reducible refine StgField.upd_of ?_); intro i x hi; cases i <;> first | exact Keeps.no rfl hi | exact rfl | (split <;> rfl) | ((repeat' split) <;> rfl))
    | exact Or.inl rfl
    | exact Or.inr (fun _ h => h)
    | exact Or.inr (fun _ _ => rfl)
    | ((with_reducible refine Or.inr ?_); intro x h; (repeat' split) <;> first | exact h | exact rfl)
    | intro _
    | (extract_lets +onlyGivenNames x; refine Keeps.cut x ?_ (fun hx => ?_); (revert x; show Keeps _ _ _); on_goal 2 => clear_value x)
    | (extract_lets +onlyGivenNames x; clear_value x)
    | with_reducible refine Keeps.modMod ?_ ?_
    | with_reducible refine Keeps.modStage ?_ ?_ ?_
    | with_reducible apply Keeps.setN .MOD_LOCKOUT_CAUSE group_MOD_LOCKOUT_CAUSE
    | with_reducible apply Keeps.step (keeps_changeMode _ _)
    | with_reducible apply Keeps.step (keeps_emcy _ _ _ _)
    | with_reducible apply Keeps.step (keeps_endPulses _ _)
    | with_reducible apply Keeps.step (keeps_leaveSurvey _)
    | with_reducible apply Keeps.step (keeps_linkSend _ _ _)
    | with_reducible apply Keeps.step (keeps_stageOff _ _)
    | with_reducible apply Keeps.step (keeps_stageSafe _ _ _)
    | with_reducible apply Keeps.foldl
    | with_reducible apply Keeps.foldlP
    | with_reducible apply Keeps.ite
    | with_reducible apply Keeps.iteP
    | with_reducible decide
    | split

theorem keeps_enterSurvey : ∀ a0, Keeps 0x220000000881500181000000800745484c00e730770c0f0009df86e8007ccfd9f0a4b33e700fda7003ffffffffffffffffffffffffffffffffffffffffffffffffffffffffffffff1d4 a0 (enterSurvey a0) := by
  intro a0
  have h0 : Keeps 0x220000000881500181000000800745484c00e730770c0f0009df86e8007ccfd9f0a4b33e700fda7003ffffffffffffffffffffffffffffffffffffffffffffffffffffffffffffff1d4 a0 a0 := Keeps.refl _
  unfold enterSurvey
  repeat' first
    | with_reducible assumption
    | ((with_reducible refine FioField.upd_of ?_); intro i x hi; cases i <;> first | exact Keeps.no rfl hi | exact rfl | (split <;> rfl) | ((repeat' split) <;> rfl))
    | ((with_reducible refine ModField.upd_of ?_); intro i x hi; cases i <;> first | exact Keeps.no rfl hi | exact rfl | (split <;> rfl) | ((repeat' split) <;> rfl))
    | intro _
    | (extract_lets +onlyGivenNames x; refine Keeps.cut x ?_ (fun hx => ?_); (revert x; show Keeps _ _ _); on_goal 2 => clear_value x)
    | (extract_lets +onlyGivenNames x; clear_value x)
    | with_reducible refine Keeps.modFio ?_ ?_
    | with_reducible refine Keeps.modMod ?_ ?_
    | with_reducible apply Keeps.setN .MOD_LOCKOUT_CAUSE group_MOD_LOCKOUT_CAUSE
    | with_reducible apply Keeps.step (keeps_changeMode _ _)
    | with_reducible apply Keeps.step (keeps_stopEngine _)
    | with_reducible decide

theorem keeps_bootSurvey : ∀ a0, Keeps 0x220000000881500d81000000800745484c00e730770c0f0009df86e8007ccfd9f0a4b33e700fda7003ffffffffffffffffffffffffffffffffffffffffffffffffffffffffffffff1d4 a0 (bootSurvey a0) := by
  intro a0
  have h0 : Keeps 0x220000000881500d81000000800745484c00e730770c0f0009df86e8007ccfd9f0a4b33e700fda7003ffffffffffffffffffffffffffffffffffffffffffffffffffffffffffffff1d4 a0 a0 := Keeps.refl _
  unfold bootSurvey
  repeat' first
    | with_reducible assumption
    | ((with_reducible refine SafField.upd_of ?_); intro i x hi; cases i <;> first | exact Keeps.no rfl hi | exact rfl | (split <;> rfl) | ((repeat' split) <;> rfl))
    | intro _
    | (extract_lets +onlyGivenNames x; refine Keeps.cut x ?_ (fun hx => ?_); (revert x; show Keeps _ _ _); on_goal 2 => clear_value x)
    | (extract_lets +onlyGivenNames x; clear_value x)
    | with_reducible apply Keeps.step (keeps_State_log _ _ _)
    | with_reducible refine Keeps.modSaf ?_ ?_
    | with_reducible apply Keeps.setBit .SAF_STATUS group_SAF_STATUS
    | with_reducible apply Keeps.setBit .MOD_STATUS group_MOD_STATUS
    | with_reducible apply Keeps.step (keeps_enterSurvey _)
    | with_reducible apply Keeps.step (keeps_refreshPermissions _)
    | with_reducible apply Keeps.ite
    | with_reducible apply Keeps.iteP
    | with_reducible decide
    | split

theorem keeps_startLoadGfi : ∀ a0, Keeps 0x400080000000000000000800030f80300100000018000000000f1efc9358200000000000000000000011255020004000000000000020981000010001000000000000500 a0 (startLoadGfi a0) := by
  intro a0
  have h0 : Keeps 0x400080000000000000000800030f80300100000018000000000f1efc9358200000000000000000000011255020004000000000000020981000010001000000000000500 a0 a0 := Keeps.refl _
  unfold startLoadGfi
  repeat' first
    | with_reducible assumption
    | intro _
    | with_reducible apply Keeps.step (keeps_gfiStart _ _)
    | with_reducible apply Keeps.foldl
    | with_reducible apply Keeps.foldlP
    | with_reducible decide

theorem keeps_startLoads : ∀ a0, Keeps 0x400080000000000000000800030f80300100000018000000000f00000358220000000000000000000011255020004000000000000020981000010001000000000000500 a0 (startLoads a0) := by
  intro a0
  have h0 : Keeps 0x400080000000000000000800030f80300100000018000000000f00000358220000000000000000000011255020004000000000000020981000010001000000000000500 a0 a0 := Keeps.refl _
  unfold startLoads
  repeat' first
    | with_reducible assumption
    | ((with_reducible refine ModField.upd_of ?_); intro i x hi; cases i <;> first | exact Keeps.no rfl hi | exact rfl | (split <;> rfl) | ((repeat' split) <;> rfl))
    | intro _
    | (extract_lets +onlyGivenNames x; refine Keeps.cut x ?_ (fun hx => ?_); (revert x; show Keeps _ _ _); on_goal 2 => clear_value x)
    | (extract_lets +onlyGivenNames x; clear_value x)
    | with_reducible refine Keeps.modMod ?_ ?_
    | with_reducible apply Keeps.step (keeps_enterRun _ _ _ _)
    | with_reducible apply Keeps.step (keeps_startLapses _ _)
    | with_reducible apply Keeps.foldl
    | with_reducible apply Keeps.foldlP
    | with_reducible apply Keeps.ite
    | with_reducible apply Keeps.iteP
    | with_reducible decide
    | split

theorem keeps_leaveCharge : ∀ a0, Keeps 0x220000000081400181000000800745484c00e73ff73c0f0009df9ee8007ccfdffefcb37e7300427003ffffffffffffffffffffffffffffffffffffffffffffffffffffffffffffff5d4 a0 (leaveCharge a0) := by
  intro a0
  have h0 : Keeps 0x220000000081400181000000800745484c00e73ff73c0f0009df9ee8007ccfdffefcb37e7300427003ffffffffffffffffffffffffffffffffffffffffffffffffffffffffffffff5d4 a0 a0 := Keeps.refl _
  unfold leaveCharge
  repeat' first
    | with_reducible assumption
    | ((with_reducible refine ModField.upd_of ?_); intro i x hi; cases i <;> first | exact Keeps.no rfl hi | exact rfl | (split <;> rfl) | ((repeat' split) <;> rfl))
    | intro _
    | (extract_lets +onlyGivenNames x; refine Keeps.cut x ?_ (fun hx => ?_); (revert x; show Keeps _ _ _); on_goal 2 => clear_value x)
    | (extract_lets +onlyGivenNames x; clear_value x)
    | with_reducible refine Keeps.modMod ?_ ?_
    | with_reducible apply Keeps.step (keeps_changeMode _ _)
    | with_reducible apply Keeps.step (keeps_startLoadGfi _)
    | with_reducible apply Keeps.step (keeps_startLoads _)
    | with_reducible decide

theorem keeps_followMode : ∀ a0 a1, Keeps 0x2200000000814301810050008007454c4c10e73ff77c0f0009df9ee8007ccfdffefcb37e7300627003ffffffffffffffffffffffffffffffffffffffffffffffffffffffffffffff5d4 a1 (followMode a0 a1) := by
  intro a0 a1
  have h0 : Keeps 0x2200000000814301810050008007454c4c10e73ff77c0f0009df9ee8007ccfdffefcb37e7300627003ffffffffffffffffffffffffffffffffffffffffffffffffffffffffffffff5d4 a1 a1 := Keeps.refl _
  unfold followMode
  repeat' first
    | with_reducible assumption
    | ((with_reducible refine ModField.upd_of ?_); intro i x hi; cases i <;> first | exact Keeps.no rfl hi | exact rfl | (split <;> rfl) | ((repeat' split) <;> rfl))
    | intro _
    | (extract_lets +onlyGivenNames x; refine Keeps.cut x ?_ (fun hx => ?_); (revert x; show Keeps _ _ _); on_goal 2 => clear_value x)
    | (extract_lets +onlyGivenNames x; clear_value x)
    | with_reducible refine Keeps.modMod ?_ ?_
    | with_reducible apply Keeps.step (keeps_changeMode _ _)
    | with_reducible apply Keeps.step (keeps_enterCharge _)
    | with_reducible apply Keeps.step (keeps_enterReady _)
    | with_reducible apply Keeps.step (keeps_enterStop _ _)
    | with_reducible apply Keeps.step (keeps_startLoadGfi _)
    | with_reducible apply Keeps.step (keeps_startLoads _)
    | with_reducible apply Keeps.ite
    | with_reducible apply Keeps.iteP
    | with_reducible decide
    | with_reducible refine Keeps.of_eq (by assumption) ?_
    | split

theorem keeps_adoptStage : ∀ a0 a1 a2 a3, Keeps 0x200000000000400180000000000740000800031f807c0d0000001ee0007cc1dff0a4b37e700000000000000000080011255020004000200000100020981a0201000100e000000000540 a3 (adoptStage a0 a1 a2 a3) := by
  intro a0 a1 a2 a3
  have h0 : Keeps 0x200000000000400180000000000740000800031f807c0d0000001ee0007cc1dff0a4b37e700000000000000000080011255020004000200000100020981a0201000100e000000000540 a3 a3 := Keeps.refl _
  unfold adoptStage
  repeat' first
    | with_reducible assumption
    | ((with_reducible refine StgField.upd_of ?_); intro i x hi; cases i <;> first | exact Keeps.no rfl hi | exact rfl | (split <;> rfl) | ((repeat' split) <;> rfl))
    | exact Or.inl rfl
    | exact Or.inr (fun _ h => h)
    | exact Or.inr (fun _ _ => rfl)
    | ((with_reducible refine Or.inr ?_); intro x h; (repeat' split) <;> first | exact h | exact rfl)
    | intro _
    | (extract_lets +onlyGivenNames x; clear_value x)
    | with_reducible refine Keeps.modStage ?_ ?_ ?_
    | with_reducible apply Keeps.setN .MOD_STAGE_SAFE_CAUSE (group_MOD_STAGE_SAFE_CAUSE _ (by first | omega | (simp only [List.mem_range, List.mem_cons, List.not_mem_nil, or_false] at *; omega)))
    | with_reducible apply Keeps.step (keeps_edgeUnsafe _ _)
    | with_reducible apply Keeps.step (keeps_enterRun _ _ _ _)
    | with_reducible apply Keeps.step (keeps_stageArm _ _)
    | with_reducible apply Keeps.step (keeps_stageOff _ _)
    | with_reducible apply Keeps.step (keeps_stageSafe _ _ _)
    | with_reducible apply Keeps.ite
    | with_reducible apply Keeps.iteP
    | with_reducible decide
    | with_reducible refine Keeps.of_eq (by assumption) ?_
    | split

theorem keeps_standbyTick : ∀ a0 a1, Keeps 0x2200000000814301810050008007454c4c10e73ff77c0f0009df9ee8007ccfdffefcb37e7300627003ffffffffffffffffffffffffffffffffffffffffffffffffffffffffffffff5d4 a1 (standbyTick a0 a1) := by
  intro a0 a1
  have h0 : Keeps 0x2200000000814301810050008007454c4c10e73ff77c0f0009df9ee8007ccfdffefcb37e7300627003ffffffffffffffffffffffffffffffffffffffffffffffffffffffffffffff5d4 a1 a1 := Keeps.refl _
  unfold standbyTick
  repeat' first
    | with_reducible assumption
    | intro _
    | (extract_lets +onlyGivenNames x; refine Keeps.cut x ?_ (fun hx => ?_); (revert x; show Keeps _ _ _); on_goal 2 => clear_value x)
    | (extract_lets +onlyGivenNames x; clear_value x)
    | with_reducible apply Keeps.step (keeps_adoptStage _ _ _ _)
    | with_reducible apply Keeps.step (keeps_followMode _ _)
    | with_reducible apply Keeps.foldl
    | with_reducible apply Keeps.foldlP
    | with_reducible decide
    | with_reducible refine Keeps.of_eq (by assumption) ?_
    | split

theorem keeps_surveyTick : ∀ a0, Keeps 0x2216bbfa18814201810050008007454c4c10e730770c0f0009df86e8007ccfd9f0a4b33e7304727003ffffffffffffffffffffffffffffffffffffffffffffffffffffffffffffff1d4 a0 (surveyTick a0) := by
  intro a0
  have h0 : Keeps 0x2216bbfa18814201810050008007454c4c10e730770c0f0009df86e8007ccfd9f0a4b33e7304727003ffffffffffffffffffffffffffffffffffffffffffffffffffffffffffffff1d4 a0 a0 := Keeps.refl _
  unfold surveyTick
  repeat' first
    | with_reducible assumption
    | intro _
    | (extract_lets +onlyGivenNames x; clear_value x)
    | with_reducible apply Keeps.step (keeps_demandLockout _ _)
    | with_reducible apply Keeps.step (keeps_enterReady _)
    | with_reducible apply Keeps.step (keeps_leaveSurvey _)
    | with_reducible apply Keeps.ite
    | with_reducible apply Keeps.iteP
    | with_reducible decide
    | split

theorem keeps_armPassed : ∀ a0, Keeps 0x4001800000000000000008000310004c0d00000006e0007cc1d9f0a4b329200000000000000000080010014020004000000000100020981202010000000000000000500 a0 (armPassed a0) := by
  intro a0
  have h0 : Keeps 0x4001800000000000000008000310004c0d00000006e0007cc1d9f0a4b329200000000000000000080010014020004000000000100020981202010000000000000000500 a0 a0 := Keeps.refl _
  unfold armPassed
  repeat' first
    | with_reducible assumption
    | ((with_reducible refine StgField.upd_of ?_); intro i x hi; cases i <;> first | exact Keeps.no rfl hi | exact rfl | (split <;> rfl) | ((repeat' split) <;> rfl))
    | exact Or.inl rfl
    | exact Or.inr (fun _ h => h)
    | exact Or.inr (fun _ _ => rfl)
    | ((with_reducible refine Or.inr ?_); intro x h; (repeat' split) <;> first | exact h | exact rfl)
    | intro _
    | with_reducible refine Keeps.modStage ?_ ?_ ?_
    | with_reducible apply Keeps.step (keeps_stageArm _ _)
    | with_reducible apply Keeps.foldl
    | with_reducible apply Keeps.foldlP
    | with_reducible apply Keeps.ite
    | with_reducible apply Keeps.iteP
    | with_reducible decide
    | split

theorem keeps_ownTick : ∀ a0, Keeps 0x2216bbfa18814301810050008007454c4c10e73ff77c0f0009df9ee8007ccfdffefcb37f7304727003ffffffffffffffffffffffffffffffffffffffffffffffffffffffffffffff5d4 a0 (ownTick a0) := by
  intro a0
  have h0 : Keeps 0x2216bbfa18814301810050008007454c4c10e73ff77c0f0009df9ee8007ccfdffefcb37f7304727003ffffffffffffffffffffffffffffffffffffffffffffffffffffffffffffff5d4 a0 a0 := Keeps.refl _
  unfold ownTick
  repeat' first
    | with_reducible assumption
    | intro _
    | (extract_lets +onlyGivenNames x; refine Keeps.cut x ?_ (fun hx => ?_); (revert x; show Keeps _ _ _); on_goal 2 => clear_value x)
    | (extract_lets +onlyGivenNames x; clear_value x)
    | with_reducible apply Keeps.step (keeps_armPassed _)
    | with_reducible apply Keeps.step (keeps_changeMode _ _)
    | with_reducible apply Keeps.step (keeps_enterReady _)
    | with_reducible apply Keeps.step (keeps_enterStop _ _)
    | with_reducible apply Keeps.step (keeps_leaveCharge _)
    | with_reducible apply Keeps.step (keeps_openSocs _)
    | with_reducible apply Keeps.step (keeps_startLoads _)
    | with_reducible apply Keeps.step (keeps_surveyTick _)
    | with_reducible apply Keeps.ite
    | with_reducible apply Keeps.iteP
    | with_reducible decide
    | with_reducible refine Keeps.of_eq (by assumption) ?_
    | split

theorem keeps_ledTick : ∀ a0 a1, Keeps 0x2216bbfa18814301810050008007454c4c10e73ff77c0f0009df9ee8007ccfdffefcb37e7304727003ffffffffffffffffffffffffffffffffffffffffffffffffffffffffffffff5d4 a1 (ledTick a0 a1) := by
  intro a0 a1
  have h0 : Keeps 0x2216bbfa18814301810050008007454c4c10e73ff77c0f0009df9ee8007ccfdffefcb37e7304727003ffffffffffffffffffffffffffffffffffffffffffffffffffffffffffffff5d4 a1 a1 := Keeps.refl _
  unfold ledTick
  repeat' first
    | with_reducible assumption
    | intro _
    | with_reducible apply Keeps.step (keeps_followMode _ _)
    | with_reducible apply Keeps.step (keeps_standbyTick _ _)
    | with_reducible apply Keeps.step (keeps_surveyTick _)
    | with_reducible apply Keeps.ite
    | with_reducible apply Keeps.iteP
    | with_reducible decide
    | with_reducible refine Keeps.of_eq (by assumption) ?_
    | split

theorem keeps_lockoutTick : ∀ a0, Keeps 0x2216bbfa1881400181000000800745484c00e730774c0f0009df86e8007ccfd9f0a4b33f730c7e7003ffffffffffffffffffffffffffffffffffffffffffffffffffffffffffffff5d4 a0 (lockoutTick a0) := by
  intro a0
  have h0 : Keeps 0x2216bbfa1881400181000000800745484c00e730774c0f0009df86e8007ccfd9f0a4b33f730c7e7003ffffffffffffffffffffffffffffffffffffffffffffffffffffffffffffff5d4 a0 a0 := Keeps.refl _
  unfold lockoutTick
  repeat' first
    | with_reducible assumption
    | ((with_reducible refine ModField.upd_of ?_); intro i x hi; cases i <;> first | exact Keeps.no rfl hi | exact rfl | (split <;> rfl) | ((repeat' split) <;> rfl))
    | intro _
    | (extract_lets +onlyGivenNames x; clear_value x)
    | with_reducible refine Keeps.modMod ?_ ?_
    | with_reducible apply Keeps.step (keeps_enterLockout _ _)
    | with_reducible apply Keeps.ite
    | with_reducible apply Keeps.iteP
    | with_reducible decide
    | with_reducible refine Keeps.of_eq (by assumption) ?_
    | split

theorem keeps_tickConditions : ∀ a0 a1, Keeps 0x2216bbfa1881530d810050008007454c4c10e73ff77c0f0009df9ee8007ccfdffefcb37f730ffe7003ffffffffffffffffffffffffffffffffffffffffffffffffffffffffffffff5d4 a1 (tickConditions a0 a1) := by
  intro a0 a1
  have h0 : Keeps 0x2216bbfa1881530d810050008007454c4c10e73ff77c0f0009df9ee8007ccfdffefcb37f730ffe7003ffffffffffffffffffffffffffffffffffffffffffffffffffffffffffffff5d4 a1 a1 := Keeps.refl _
  unfold tickConditions
  repeat' first
    | with_reducible assumption
    | intro _
    | (extract_lets +onlyGivenNames x; refine Keeps.cut x ?_ (fun hx => ?_); (revert x; show Keeps _ _ _); on_goal 2 => clear_value x)
    | (extract_lets +onlyGivenNames x; clear_value x)
    | with_reducible apply Keeps.step (keeps_bootSurvey _)
    | with_reducible apply Keeps.step (keeps_ledTick _ _)
    | with_reducible apply Keeps.step (keeps_lockoutTick _)
    | with_reducible apply Keeps.step (keeps_ownTick _)
    | with_reducible apply Keeps.ite
    | with_reducible apply Keeps.iteP
    | with_reducible decide
    | split

theorem keeps_cmdRefused : ∀ a0 a1 a2, Keeps 0x4000000000000000000000000000000000000000100 a2 (cmdRefused a0 a1 a2).2 := by
  intro a0 a1 a2
  have h0 : Keeps 0x4000000000000000000000000000000000000000100 a2 a2 := Keeps.refl _
  unfold cmdRefused
  repeat' first
    | with_reducible assumption
    | intro _
    | with_reducible apply Keeps.step (keeps_State_log _ _ _)
    | with_reducible decide

theorem keeps_modRefused : ∀ a0 a1 a2, Keeps 0x4000400000000000000000000000000000000000100 a2 (modRefused a0 a1 a2).2 := by
  intro a0 a1 a2
  have h0 : Keeps 0x4000400000000000000000000000000000000000100 a2 a2 := Keeps.refl _
  unfold modRefused
  repeat' first
    | with_reducible assumption
    | intro _
    | with_reducible apply Keeps.setField .MOD_STATUS group_MOD_STATUS
    | with_reducible apply Keeps.step (keeps_cmdRefused _ _ _)
    | with_reducible decide

theorem keeps_orderMode : ∀ a0 a1, Keeps 0x4000000000000000000000000000000000000000000000000000000000000000000000 a1 (orderMode a0 a1).2 := by
  intro a0 a1
  have h0 : Keeps 0x4000000000000000000000000000000000000000000000000000000000000000000000 a1 a1 := Keeps.refl _
  unfold orderMode
  repeat' first
    | with_reducible assumption
    | ((with_reducible refine ModField.upd_of ?_); intro i x hi; cases i <;> first | exact Keeps.no rfl hi | exact rfl | (split <;> rfl) | ((repeat' split) <;> rfl))
    | intro _
    | with_reducible refine Keeps.modMod ?_ ?_
    | with_reducible decide

theorem keeps_modStart : ∀ a0 a1, Keeps 0x221ebbfa1881530d81007e208007454c4c10e73ff77c0f0009df9ee8007ccfdffefcb37f730ffe7003ffffffffffffffffffffffffffffffffffffffffffffffffffffffffffffff5d4 a1 (modStart a0 a1).2 := by
  intro a0 a1
  have h0 : Keeps 0x221ebbfa1881530d81007e208007454c4c10e73ff77c0f0009df9ee8007ccfdffefcb37f730ffe7003ffffffffffffffffffffffffffffffffffffffffffffffffffffffffffffff5d4 a1 a1 := Keeps.refl _
  unfold modStart
  repeat' first
    | with_reducible assumption
    | intro _
    | (extract_lets +onlyGivenNames x; refine Keeps.cut x ?_ (fun hx => ?_); (revert x; show Keeps _ _ _); on_goal 2 => clear_value x)
    | (extract_lets +onlyGivenNames x; clear_value x)
    | with_reducible apply Keeps.step (keeps_modRefused _ _ _)
    | with_reducible apply Keeps.step (keeps_orderMode _ _)
    | with_reducible apply Keeps.step (keeps_pairExamine _)
    | with_reducible apply Keeps.ite
    | with_reducible apply Keeps.iteP
    | with_reducible decide
    | split

theorem keeps_modStop : ∀ a0, Keeps 0x2216bbfa1881530d810050008007454c4c10e73ff77c0f0009df9ee8007ccfdffefcb37f730ffe7003ffffffffffffffffffffffffffffffffffffffffffffffffffffffffffffff5d4 a0 (modStop a0).2 := by
  intro a0
  have h0 : Keeps 0x2216bbfa1881530d810050008007454c4c10e73ff77c0f0009df9ee8007ccfdffefcb37f730ffe7003ffffffffffffffffffffffffffffffffffffffffffffffffffffffffffffff5d4 a0 a0 := Keeps.refl _
  unfold modStop
  repeat' first
    | with_reducible assumption
    | intro _
    | with_reducible apply Keeps.step (keeps_modRefused _ _ _)
    | with_reducible apply Keeps.step (keeps_orderMode _ _)
    | with_reducible apply Keeps.ite
    | with_reducible apply Keeps.iteP
    | with_reducible decide
    | split

theorem keeps_serviceRelease : ∀ a0 a1, Keeps 0x2216bbfa1881530d810050008007454c4c10e73ff77c0f0009df9ee8007ccfdffefcb37f730ffe7003ffffffffffffffffffffffffffffffffffffffffffffffffffffffffffffff5d4 a1 (serviceRelease a0 a1).2 := by
  intro a0 a1
  have h0 : Keeps 0x2216bbfa1881530d810050008007454c4c10e73ff77c0f0009df9ee8007ccfdffefcb37f730ffe7003ffffffffffffffffffffffffffffffffffffffffffffffffffffffffffffff5d4 a1 a1 := Keeps.refl _
  unfold serviceRelease
  repeat' first
    | with_reducible assumption
    | intro _
    | with_reducible apply Keeps.step (keeps_modRefused _ _ _)
    | with_reducible apply Keeps.step (keeps_orderMode _ _)
    | with_reducible apply Keeps.ite
    | with_reducible apply Keeps.iteP
    | with_reducible decide
    | split

theorem keeps_takeOrder : ∀ a0, Keeps 0x2200000008815301810050008007454c4c10e730774c0f0009df86e8007ccfd9f0a4b33e730ffe7003ffffffffffffffffffffffffffffffffffffffffffffffffffffffffffffff5d4 a0 (takeOrder a0) := by
  intro a0
  have h0 : Keeps 0x2200000008815301810050008007454c4c10e730774c0f0009df86e8007ccfd9f0a4b33e730ffe7003ffffffffffffffffffffffffffffffffffffffffffffffffffffffffffffff5d4 a0 a0 := Keeps.refl _
  unfold takeOrder
  repeat' first
    | with_reducible assumption
    | ((with_reducible refine ModField.upd_of ?_); intro i x hi; cases i <;> first | exact Keeps.no rfl hi | exact rfl | (split <;> rfl) | ((repeat' split) <;> rfl))
    | intro _
    | (extract_lets +onlyGivenNames x; refine Keeps.cut x ?_ (fun hx => ?_); (revert x; show Keeps _ _ _); on_goal 2 => clear_value x)
    | (extract_lets +onlyGivenNames x; clear_value x)
    | with_reducible refine Keeps.modMod ?_ ?_
    | with_reducible apply Keeps.step (keeps_enterCharge _)
    | with_reducible apply Keeps.step (keeps_enterStop _ _)
    | with_reducible apply Keeps.step (keeps_enterSurvey _)
    | with_reducible apply Keeps.step (keeps_linkSend _ _ _)
    | with_reducible apply Keeps.step (keeps_modRefused _ _ _)
    | with_reducible apply Keeps.ite
    | with_reducible apply Keeps.iteP
    | with_reducible decide
    | with_reducible refine Keeps.of_eq (by assumption) ?_
    | split

theorem keeps_modCommand : ∀ a0 a1 a2, Keeps 0x221ebbfa1881530d81007e208007454c4c10e73ff77c0f0009df9ee8007ccfdffefcb37f730ffe7003ffffffffffffffffffffffffffffffffffffffffffffffffffffffffffffff5d4 a2 (modCommand a0 a1 a2).2 := by
  intro a0 a1 a2
  have h0 : Keeps 0x221ebbfa1881530d81007e208007454c4c10e73ff77c0f0009df9ee8007ccfdffefcb37f730ffe7003ffffffffffffffffffffffffffffffffffffffffffffffffffffffffffffff5d4 a2 a2 := Keeps.refl _
  unfold modCommand
  repeat' first
    | with_reducible assumption
    | intro _
    | with_reducible apply Keeps.step (keeps_modRefused _ _ _)
    | with_reducible apply Keeps.step (keeps_modStart _ _)
    | with_reducible apply Keeps.step (keeps_modStop _)
    | with_reducible apply Keeps.step (keeps_serviceRelease _ _)
    | with_reducible apply Keeps.ite
    | with_reducible apply Keeps.iteP
    | with_reducible decide
    | with_reducible refine Keeps.of_eq (by assumption) ?_
    | split

theorem keeps_startStage : ∀ a0 a1 a2, Keeps 0x2216bbfa1881530d810050008007454c4c10e73ff77c0f0009df9ee8007ccfdffefcb37f730ffe7003ffffffffffffffffffffffffffffffffffffffffffffffffffffffffffffff5d4 a2 (startStage a0 a1 a2).2 := by
  intro a0 a1 a2
  have h0 : Keeps 0x2216bbfa1881530d810050008007454c4c10e73ff77c0f0009df9ee8007ccfdffefcb37f730ffe7003ffffffffffffffffffffffffffffffffffffffffffffffffffffffffffffff5d4 a2 a2 := Keeps.refl _
  unfold startStage
  repeat' first
    | with_reducible assumption
    | ((with_reducible refine StgField.upd_of ?_); intro i x hi; cases i <;> first | exact Keeps.no rfl hi | exact rfl | (split <;> rfl) | ((repeat' split) <;> rfl))
    | exact Or.inl rfl
    | exact Or.inr (fun _ h => h)
    | exact Or.inr (fun _ _ => rfl)
    | ((with_reducible refine Or.inr ?_); intro x h; (repeat' split) <;> first | exact h | exact rfl)
    | intro _
    | with_reducible apply Keeps.step (keeps_State_log _ _ _)
    | with_reducible refine Keeps.modStage ?_ ?_ ?_
    | with_reducible apply Keeps.step (keeps_cmdRefused _ _ _)
    | with_reducible apply Keeps.ite
    | with_reducible apply Keeps.iteP
    | with_reducible decide
    | with_reducible refine Keeps.of_eq (by assumption) ?_
    | split

theorem keeps_cancelClaim : ∀ a0 a1, Keeps 0x400080000000000000000000000000000000000000000000000000003000000000000000000000000010014000000000000000000000000000010000000000000000000 a1 (cancelClaim a0 a1) := by
  intro a0 a1
  have h0 : Keeps 0x400080000000000000000000000000000000000000000000000000003000000000000000000000000010014000000000000000000000000000010000000000000000000 a1 a1 := Keeps.refl _
  unfold cancelClaim
  repeat' first
    | with_reducible assumption
    | ((with_reducible refine ShrField.upd_of ?_); intro i x hi; cases i <;> first | exact Keeps.no rfl hi | exact rfl | (split <;> rfl) | ((repeat' split) <;> rfl))
    | intro _
    | (extract_lets +onlyGivenNames x; refine Keeps.cut x ?_ (fun hx => ?_); (revert x; show Keeps _ _ _); on_goal 2 => clear_value x)
    | (extract_lets +onlyGivenNames x; clear_value x)
    | with_reducible refine Keeps.modShare ?_ ?_
    | with_reducible apply Keeps.step (keeps_showClaim _ _)
    | with_reducible apply Keeps.step (keeps_socOpenStage _ _)
    | with_reducible apply Keeps.ite
    | with_reducible apply Keeps.iteP
    | with_reducible decide
    | split

theorem keeps_stopStage : ∀ a0 a1 a2, Keeps 0x2216bbfa1881530d810050008007454c4c10e73ff77c0f0009df9ee8007ccfdffefcb37f730ffe7003ffffffffffffffffffffffffffffffffffffffffffffffffffffffffffffff5d4 a2 (stopStage a0 a1 a2).2 := by
  intro a0 a1 a2
  have h0 : Keeps 0x2216bbfa1881530d810050008007454c4c10e73ff77c0f0009df9ee8007ccfdffefcb37f730ffe7003ffffffffffffffffffffffffffffffffffffffffffffffffffffffffffffff5d4 a2 a2 := Keeps.refl _
  unfold stopStage
  repeat' first
    | with_reducible assumption
    | ((with_reducible refine StgField.upd_of ?_); intro i x hi; cases i <;> first | exact Keeps.no rfl hi | exact rfl | (split <;> rfl) | ((repeat' split) <;> rfl))
    | exact Or.inl rfl
    | exact Or.inr (fun _ h => h)
    | exact Or.inr (fun _ _ => rfl)
    | ((with_reducible refine Or.inr ?_); intro x h; (repeat' split) <;> first | exact h | exact rfl)
    | intro _
    | with_reducible apply Keeps.step (keeps_State_log _ _ _)
    | with_reducible refine Keeps.modStage ?_ ?_ ?_
    | with_reducible apply Keeps.step (keeps_cancelClaim _ _)
    | with_reducible apply Keeps.step (keeps_cmdRefused _ _ _)
    | with_reducible apply Keeps.step (keeps_ssdDemand _ _ _)
    | with_reducible apply Keeps.step (keeps_stageSafe _ _ _)
    | with_reducible apply Keeps.ite
    | with_reducible apply Keeps.iteP
    | with_reducible decide
    | with_reducible refine Keeps.of_eq (by assumption) ?_
    | split

theorem keeps_resetSafe : ∀ a0 a1 a2, Keeps 0x2216bbfa1881530d810050008007454c4c10e73ff77c0f0009df9ee8007ccfdffefcb37ff30ffe7003ffffffffffffffffffffffffffffffffffffffffffffffffffffffffffffff5d4 a2 (resetSafe a0 a1 a2).2 := by
  intro a0 a1 a2
  have h0 : Keeps 0x2216bbfa1881530d810050008007454c4c10e73ff77c0f0009df9ee8007ccfdffefcb37ff30ffe7003ffffffffffffffffffffffffffffffffffffffffffffffffffffffffffffff5d4 a2 a2 := Keeps.refl _
  unfold resetSafe
  repeat' first
    | with_reducible assumption
    | ((with_reducible refine SafField.upd_of ?_); intro i x hi; cases i <;> first | exact Keeps.no rfl hi | exact rfl | (split <;> rfl) | ((repeat' split) <;> rfl))
    | ((with_reducible refine StgField.upd_of ?_); intro i x hi; cases i <;> first | exact Keeps.no rfl hi | exact rfl | (split <;> rfl) | ((repeat' split) <;> rfl))
    | exact Or.inl rfl
    | exact Or.inr (fun _ h => h)
    | exact Or.inr (fun _ _ => rfl)
    | ((with_reducible refine Or.inr ?_); intro x h; (repeat' split) <;> first | exact h | exact rfl)
    | intro _
    | (extract_lets +onlyGivenNames x; refine Keeps.cut x ?_ (fun hx => ?_); (revert x; show Keeps _ _ _); on_goal 2 => clear_value x)
    | (extract_lets +onlyGivenNames x; clear_value x)
    | with_reducible apply Keeps.step (keeps_State_log _ _ _)
    | with_reducible refine Keeps.modSaf ?_ ?_
    | with_reducible refine Keeps.modStage ?_ ?_ ?_
    | with_reducible apply Keeps.setN .MOD_STAGE_SAFE_CAUSE (group_MOD_STAGE_SAFE_CAUSE _ (by first | omega | (simp only [List.mem_range, List.mem_cons, List.not_mem_nil, or_false] at *; omega)))
    | with_reducible apply Keeps.step (keeps_cmdRefused _ _ _)
    | with_reducible apply Keeps.step (keeps_edgeUnsafe _ _)
    | with_reducible apply Keeps.step (keeps_errorsEnd _)
    | with_reducible apply Keeps.step (keeps_refreshPermissions _)
    | with_reducible apply Keeps.step (keeps_stageOff _ _)
    | with_reducible apply Keeps.ite
    | with_reducible apply Keeps.iteP
    | with_reducible decide
    | split

theorem keeps_stageCommand : ∀ a0 a1 a2 a3, Keeps 0x2216bbfa1881530d810050008007454c4c10e73ff77c0f0009df9ee8007ccfdffefcb37ff30ffe7003ffffffffffffffffffffffffffffffffffffffffffffffffffffffffffffff5d4 a3 (stageCommand a0 a1 a2 a3).2 := by
  intro a0 a1 a2 a3
  have h0 : Keeps 0x2216bbfa1881530d810050008007454c4c10e73ff77c0f0009df9ee8007ccfdffefcb37ff30ffe7003ffffffffffffffffffffffffffffffffffffffffffffffffffffffffffffff5d4 a3 a3 := Keeps.refl _
  unfold stageCommand
  repeat' first
    | with_reducible assumption
    | intro _
    | with_reducible apply Keeps.step (keeps_resetSafe _ _ _)
    | with_reducible apply Keeps.step (keeps_startStage _ _ _)
    | with_reducible apply Keeps.step (keeps_stopStage _ _ _)
    | with_reducible decide
    | with_reducible refine Keeps.of_eq (by assumption) ?_
    | split

theorem keeps_stageOrders : ∀ a0 a1, Keeps 0x400180000000000000000800031f807c0d0000001ee0007cc1dffefcb37c200000000000000000080011255020004000000000100020981202010001000000000000500 a1 (stageOrders a0 a1) := by
  intro a0 a1
  have h0 : Keeps 0x400180000000000000000800031f807c0d0000001ee0007cc1dffefcb37c200000000000000000080011255020004000000000100020981202010001000000000000500 a1 a1 := Keeps.refl _
  unfold stageOrders
  repeat' first
    | with_reducible assumption
    | ((with_reducible refine StgField.upd_of ?_); intro i x hi; cases i <;> first | exact Keeps.no rfl hi | exact rfl | (split <;> rfl) | ((repeat' split) <;> rfl))
    | exact Or.inl rfl
    | exact Or.inr (fun _ h => h)
    | exact Or.inr (fun _ _ => rfl)
    | ((with_reducible refine Or.inr ?_); intro x h; (repeat' split) <;> first | exact h | exact rfl)
    | intro _
    | (extract_lets +onlyGivenNames x; refine Keeps.cut x ?_ (fun hx => ?_); (revert x; show Keeps _ _ _); on_goal 2 => clear_value x)
    | (extract_lets +onlyGivenNames x; clear_value x)
    | with_reducible refine Keeps.modStage ?_ ?_ ?_
    | with_reducible apply Keeps.step (keeps_proceed _ _)
    | with_reducible apply Keeps.step (keeps_runConfirmed _ _)
    | with_reducible apply Keeps.step (keeps_stageArm _ _)
    | with_reducible apply Keeps.step (keeps_stageOff _ _)
    | with_reducible apply Keeps.step (keeps_startLapses _ _)
    | with_reducible apply Keeps.ite
    | with_reducible apply Keeps.iteP
    | with_reducible decide
    | split

theorem keeps_tickCommands : ∀ a0, Keeps 0x2200000008815301810050008007454c4c10e73ff77c0f0009df9ee8007ccfdffefcb37e730ffe7003ffffffffffffffffffffffffffffffffffffffffffffffffffffffffffffff5d4 a0 (tickCommands a0) := by
  intro a0
  have h0 : Keeps 0x2200000008815301810050008007454c4c10e73ff77c0f0009df9ee8007ccfdffefcb37e730ffe7003ffffffffffffffffffffffffffffffffffffffffffffffffffffffffffffff5d4 a0 a0 := Keeps.refl _
  unfold tickCommands
  repeat' first
    | with_reducible assumption
    | intro _
    | (extract_lets +onlyGivenNames x; refine Keeps.cut x ?_ (fun hx => ?_); (revert x; show Keeps _ _ _); on_goal 2 => clear_value x)
    | (extract_lets +onlyGivenNames x; clear_value x)
    | with_reducible apply Keeps.step (keeps_stageOrders _ _)
    | with_reducible apply Keeps.step (keeps_takeOrder _)
    | with_reducible apply Keeps.foldl
    | with_reducible apply Keeps.foldlP
    | with_reducible apply Keeps.ite
    | with_reducible apply Keeps.iteP
    | with_reducible decide
    | split

end Sys2Proof.Machine
end

