-- ==== Sys2Proof/Laws/KeepsDictOps.lean ====
section
/-!
SUPPORT. What each operation of Machine/DictOps.lean may change.
-/

set_option linter.unusedTactic false
set_option linter.tactic.unusedName false
set_option linter.unreachableTactic false

namespace Sys2Proof.Machine

theorem keeps_awaitCommit : ∀ a0 a1 a2, Keeps 0x2000000000804001810000008007454848000730770c0f0009df86e8007ccfd9f0a4b33e7000007003ffffffffffffffffffffffffffffffffffffffffffffffffffffffffffffff1cc a2 (awaitCommit a0 a1 a2) := by
  intro a0 a1 a2
  have h0 : Keeps 0x2000000000804001810000008007454848000730770c0f0009df86e8007ccfd9f0a4b33e7000007003ffffffffffffffffffffffffffffffffffffffffffffffffffffffffffffff1cc a2 a2 := Keeps.refl _
  unfold awaitCommit
  repeat' first
    | with_reducible assumption
    | intro _
    | (extract_lets +onlyGivenNames x; clear_value x)
    | with_reducible apply Keeps.setBit .GFL_STATUS (group_GFL_STATUS _)
    | with_reducible apply Keeps.setBit .PIE_STATUS (group_PIE_STATUS _)
    | with_reducible apply Keeps.step (keeps_actNow _ _)
    | with_reducible apply Keeps.ite
    | with_reducible apply Keeps.iteP
    | with_reducible decide
    | with_reducible refine Keeps.of_eq (by assumption) ?_
    | split
    | with_reducible apply Keeps.upd_commitWrites_heldWrites

theorem keeps_byField : ∀ a0 a1 a2 a3, Keeps 0x2000000000804001810000008007454848000730770c0f0009df86e8007ccfd9f0a4b33e7000007003ffffffffffffffffffffffffffffffffffffffffffffffffffffffffffffff1dc a3 (byField a0 a1 a2 a3) := by
  intro a0 a1 a2 a3
  have h0 : Keeps 0x2000000000804001810000008007454848000730770c0f0009df86e8007ccfd9f0a4b33e7000007003ffffffffffffffffffffffffffffffffffffffffffffffffffffffffffffff1dc a3 a3 := Keeps.refl _
  unfold byField
  repeat' first
    | with_reducible assumption
    | intro _
    | (extract_lets +onlyGivenNames x; refine Keeps.cut x ?_ (fun hx => ?_); (revert x; show Keeps _ _ _); on_goal 2 => clear_value x)
    | (extract_lets +onlyGivenNames x; clear_value x)
    | with_reducible apply Keeps.step (keeps_actNow _ _)
    | with_reducible apply Keeps.step (keeps_awaitCommit _ _ _)
    | with_reducible apply Keeps.ite
    | with_reducible apply Keeps.iteP
    | with_reducible decide
    | split
    | with_reducible apply Keeps.upd_modeWrites

theorem keeps_galConfig : ∀ a0 a1 a2, Keeps 0x20000000008040018100000080077d4848000730770c0f0009df86e8007ccfd9f0a4b33e7000007003ffffffffffffffffffffffffffffffffffffffffffffffffffffffffffffff1dc a2 (galConfig a0 a1 a2).2 := by
  intro a0 a1 a2
  have h0 : Keeps 0x20000000008040018100000080077d4848000730770c0f0009df86e8007ccfd9f0a4b33e7000007003ffffffffffffffffffffffffffffffffffffffffffffffffffffffffffffff1dc a2 a2 := Keeps.refl _
  unfold galConfig
  repeat' first
    | with_reducible assumption
    | ((with_reducible refine GalField.upd_of ?_); intro i x hi; cases i <;> first | exact Keeps.no rfl hi | exact rfl | (split <;> rfl) | ((repeat' split) <;> rfl))
    | intro _
    | (extract_lets +onlyGivenNames x; refine Keeps.cut x ?_ (fun hx => ?_); (revert x; show Keeps _ _ _); on_goal 2 => clear_value x)
    | (extract_lets +onlyGivenNames x; clear_value x)
    | with_reducible refine Keeps.modGal ?_ ?_
    | with_reducible apply Keeps.setBitAny
    | with_reducible apply Keeps.step (keeps_actNow _ _)
    | with_reducible apply Keeps.step (keeps_armTrigger _ _)
    | with_reducible apply Keeps.step (keeps_byField _ _ _ _)
    | with_reducible apply Keeps.step (keeps_enableStream _ _)
    | with_reducible apply Keeps.step (keeps_rateRefused _ _ _ _)
    | with_reducible apply Keeps.step (keeps_sendDatagram _ _)
    | with_reducible apply Keeps.step (keeps_showGallery _ _)
    | with_reducible apply Keeps.ite
    | with_reducible apply Keeps.iteP
    | with_reducible decide
    | split

theorem keeps_holdBit : ∀ a0 a1 a2 a3, Keeps 0x3ffffffffffffffffffffffffffffffffffffffffffffffffffffffffffffff10c a3 (holdBit a0 a1 a2 a3) := by
  intro a0 a1 a2 a3
  have h0 : Keeps 0x3ffffffffffffffffffffffffffffffffffffffffffffffffffffffffffffff10c a3 a3 := Keeps.refl _
  unfold holdBit
  repeat' first
    | with_reducible assumption
    | intro _
    | (extract_lets +onlyGivenNames x; clear_value x)
    | with_reducible apply Keeps.setBitAny
    | with_reducible apply Keeps.step (keeps_releaseHeld _ _ _)
    | with_reducible apply Keeps.ite
    | with_reducible apply Keeps.iteP
    | with_reducible decide
    | split

theorem keeps_awaitOrAct : ∀ a0 a1 a2 a3, Keeps 0x2000000000804001810000008007454848000730770c0f0009df86e8007ccfd9f0a4b33e7000007003ffffffffffffffffffffffffffffffffffffffffffffffffffffffffffffff1cc a3 (awaitOrAct a0 a1 a2 a3) := by
  intro a0 a1 a2 a3
  have h0 : Keeps 0x2000000000804001810000008007454848000730770c0f0009df86e8007ccfd9f0a4b33e7000007003ffffffffffffffffffffffffffffffffffffffffffffffffffffffffffffff1cc a3 a3 := Keeps.refl _
  unfold awaitOrAct
  repeat' first
    | with_reducible assumption
    | intro _
    | with_reducible apply Keeps.step (keeps_actNow _ _)
    | with_reducible apply Keeps.step (keeps_awaitCommit _ _ _)
    | with_reducible apply Keeps.ite
    | with_reducible apply Keeps.iteP
    | with_reducible decide
    | with_reducible refine Keeps.of_eq (by assumption) ?_
    | split

theorem keeps_takeByRule : ∀ a0 a1 a2 a3, Keeps 0x2000000000804001810000008007454848000730770c0f0009df86e8007ccfd9f0a4b33e7000007003ffffffffffffffffffffffffffffffffffffffffffffffffffffffffffffff1fc a3 (takeByRule a0 a1 a2 a3) := by
  intro a0 a1 a2 a3
  have h0 : Keeps 0x2000000000804001810000008007454848000730770c0f0009df86e8007ccfd9f0a4b33e7000007003ffffffffffffffffffffffffffffffffffffffffffffffffffffffffffffff1fc a3 a3 := Keeps.refl _
  unfold takeByRule
  repeat' first
    | with_reducible assumption
    | intro _
    | with_reducible apply Keeps.step (keeps_actNow _ _)
    | with_reducible apply Keeps.step (keeps_awaitCommit _ _ _)
    | with_reducible apply Keeps.step (keeps_awaitOrAct _ _ _ _)
    | with_reducible apply Keeps.step (keeps_byField _ _ _ _)
    | with_reducible apply Keeps.ite
    | with_reducible apply Keeps.iteP
    | with_reducible decide
    | with_reducible refine Keeps.of_eq (by assumption) ?_
    | split
    | with_reducible apply Keeps.upd_modeWrites
    | with_reducible apply Keeps.upd_resetWrites

theorem keeps_galWrite : ∀ a0 a1 a2 a3 a4, Keeps 0x2000000000804001810000008007454848000730770c0f0009df86e8007ccfd9f0a4b33e7000007003ffffffffffffffffffffffffffffffffffffffffffffffffffffffffffffff1fc a4 (galWrite a0 a1 a2 a3 a4).2 := by
  intro a0 a1 a2 a3 a4
  have h0 : Keeps 0x2000000000804001810000008007454848000730770c0f0009df86e8007ccfd9f0a4b33e7000007003ffffffffffffffffffffffffffffffffffffffffffffffffffffffffffffff1fc a4 a4 := Keeps.refl _
  unfold galWrite
  repeat' first
    | with_reducible assumption
    | intro _
    | with_reducible apply Keeps.step (keeps_rateRefused _ _ _ _)
    | with_reducible apply Keeps.step (keeps_takeByRule _ _ _ _)
    | with_reducible decide
    | with_reducible refine Keeps.of_eq (by assumption) ?_
    | split

theorem keeps_plainWrite : ∀ a0 a1 a2 a3, Keeps 0x20000000008040018100000080077d4848000730770c0f0009df86e8007ccfd9f0a4b33e7000007003ffffffffffffffffffffffffffffffffffffffffffffffffffffffffffffff1fc a3 (plainWrite a0 a1 a2 a3).2 := by
  intro a0 a1 a2 a3
  have h0 : Keeps 0x20000000008040018100000080077d4848000730770c0f0009df86e8007ccfd9f0a4b33e7000007003ffffffffffffffffffffffffffffffffffffffffffffffffffffffffffffff1fc a3 a3 := Keeps.refl _
  unfold plainWrite
  repeat' first
    | with_reducible assumption
    | intro _
    | (extract_lets +onlyGivenNames x; clear_value x)
    | with_reducible apply Keeps.step (keeps_galConfig _ _ _)
    | with_reducible apply Keeps.step (keeps_galWrite _ _ _ _ _)
    | with_reducible apply Keeps.step (keeps_holdBit _ _ _ _)
    | with_reducible apply Keeps.step (keeps_takeByRule _ _ _ _)
    | with_reducible decide
    | with_reducible refine Keeps.of_eq (by assumption) ?_
    | split

end Sys2Proof.Machine
end

