-- ==== Sys2Proof/Laws/KeepsPortOps.lean ====
section
/-!
SUPPORT. What each operation of Machine/PortOps.lean may change.
-/

set_option linter.unusedTactic false
set_option linter.tactic.unusedName false
set_option linter.unreachableTactic false

namespace Sys2Proof.Machine

theorem keeps_ownClaim : ∀ a0 a1, Keeps 0x40a0000000000000000000000000000000000000100 a1 (ownClaim a0 a1).2 := by
  intro a0 a1
  have h0 : Keeps 0x40a0000000000000000000000000000000000000100 a1 a1 := Keeps.refl _
  unfold ownClaim
  repeat' first
    | with_reducible assumption
    | intro _
    | with_reducible apply Keeps.step (keeps_State_log _ _ _)
    | with_reducible apply Keeps.setN .NET_OWNER group_NET_OWNER
    | with_reducible apply Keeps.step (keeps_showNet _)
    | with_reducible apply Keeps.ite
    | with_reducible apply Keeps.iteP
    | with_reducible apply Keeps.answer
    | with_reducible apply Keeps.answerRead
    | with_reducible apply Keeps.accepted
    | with_reducible apply Keeps.done
    | with_reducible decide
    | with_reducible refine Keeps.of_eq (by assumption) ?_
    | split

theorem keeps_ownForce : ∀ a0 a1, Keeps 0x40a0000000000000000000000000000000000000100 a1 (ownForce a0 a1).2 := by
  intro a0 a1
  have h0 : Keeps 0x40a0000000000000000000000000000000000000100 a1 a1 := Keeps.refl _
  unfold ownForce
  repeat' first
    | with_reducible assumption
    | intro _
    | (extract_lets +onlyGivenNames x; clear_value x)
    | with_reducible apply Keeps.step (keeps_State_log _ _ _)
    | with_reducible apply Keeps.setN .NET_OWNER group_NET_OWNER
    | with_reducible apply Keeps.step (keeps_ownClaim _ _)
    | with_reducible apply Keeps.step (keeps_showNet _)
    | with_reducible apply Keeps.ite
    | with_reducible apply Keeps.iteP
    | with_reducible apply Keeps.answer
    | with_reducible apply Keeps.answerRead
    | with_reducible apply Keeps.accepted
    | with_reducible apply Keeps.done
    | with_reducible decide
    | with_reducible refine Keeps.of_eq (by assumption) ?_
    | split

theorem keeps_ownRelease : ∀ a0 a1, Keeps 0x40a0000000000000000000000000000000000000100 a1 (ownRelease a0 a1).2 := by
  intro a0 a1
  have h0 : Keeps 0x40a0000000000000000000000000000000000000100 a1 a1 := Keeps.refl _
  unfold ownRelease
  repeat' first
    | with_reducible assumption
    | intro _
    | with_reducible apply Keeps.step (keeps_State_log _ _ _)
    | with_reducible apply Keeps.setN .NET_OWNER group_NET_OWNER
    | with_reducible apply Keeps.step (keeps_showNet _)
    | with_reducible apply Keeps.ite
    | with_reducible apply Keeps.iteP
    | with_reducible apply Keeps.answer
    | with_reducible apply Keeps.answerRead
    | with_reducible apply Keeps.accepted
    | with_reducible apply Keeps.done
    | with_reducible decide
    | with_reducible refine Keeps.of_eq (by assumption) ?_
    | split

theorem keeps_ownerCommand : ∀ a0 a1 a2, Keeps 0x40a0000000000000000000000000000000000000100 a2 (ownerCommand a0 a1 a2).2 := by
  intro a0 a1 a2
  have h0 : Keeps 0x40a0000000000000000000000000000000000000100 a2 a2 := Keeps.refl _
  unfold ownerCommand
  repeat' first
    | with_reducible assumption
    | intro _
    | with_reducible apply Keeps.step (keeps_ownClaim _ _)
    | with_reducible apply Keeps.step (keeps_ownForce _ _)
    | with_reducible apply Keeps.step (keeps_ownRelease _ _)
    | with_reducible apply Keeps.ite
    | with_reducible apply Keeps.iteP
    | with_reducible apply Keeps.answer
    | with_reducible apply Keeps.answerRead
    | with_reducible apply Keeps.accepted
    | with_reducible apply Keeps.done
    | with_reducible decide
    | with_reducible refine Keeps.of_eq (by assumption) ?_
    | split

theorem keeps_readChallenge : ∀ a0 a1, Keeps 0x40000000000000000000000000000000000000000000000000000000000000000000000000000000000000000000000000000000000000000000000000000000000000000000000080 a1 (readChallenge a0 a1).2 := by
  intro a0 a1
  have h0 : Keeps 0x40000000000000000000000000000000000000000000000000000000000000000000000000000000000000000000000000000000000000000000000000000000000000000000000080 a1 a1 := Keeps.refl _
  unfold readChallenge
  repeat' first
    | with_reducible assumption
    | ((with_reducible refine NetField.upd_of ?_); intro i x hi; cases i <;> first | exact Keeps.no rfl hi | exact rfl | (split <;> rfl) | ((repeat' split) <;> rfl))
    | intro _
    | (extract_lets +onlyGivenNames x; refine Keeps.cut x ?_ (fun hx => ?_); (revert x; show Keeps _ _ _); on_goal 2 => clear_value x)
    | (extract_lets +onlyGivenNames x; clear_value x)
    | with_reducible apply Keeps.step (keeps_State_draw _)
    | with_reducible refine Keeps.modNet ?_ ?_
    | with_reducible apply Keeps.ite
    | with_reducible apply Keeps.iteP
    | with_reducible apply Keeps.answer
    | with_reducible apply Keeps.answerRead
    | with_reducible apply Keeps.accepted
    | with_reducible apply Keeps.done
    | with_reducible decide
    | split

theorem keeps_serviceResponse : ∀ a0 a1 a2, Keeps 0x1e0000000000000000000000000000000000000000000000000000000000000000000000000000000000000000000000000000004080000000000000000000000000000000000000100 a2 (serviceResponse a0 a1 a2).2 := by
  intro a0 a1 a2
  have h0 : Keeps 0x1e0000000000000000000000000000000000000000000000000000000000000000000000000000000000000000000000000000004080000000000000000000000000000000000000100 a2 a2 := Keeps.refl _
  unfold serviceResponse
  repeat' first
    | with_reducible assumption
    | ((with_reducible refine NetField.upd_of ?_); intro i x hi; cases i <;> first | exact Keeps.no rfl hi | exact rfl | (split <;> rfl) | ((repeat' split) <;> rfl))
    | intro _
    | (extract_lets +onlyGivenNames x; refine Keeps.cut x ?_ (fun hx => ?_); (revert x; show Keeps _ _ _); on_goal 2 => clear_value x)
    | (extract_lets +onlyGivenNames x; clear_value x)
    | with_reducible apply Keeps.step (keeps_State_log _ _ _)
    | with_reducible refine Keeps.modNet ?_ ?_
    | with_reducible apply Keeps.step (keeps_showNet _)
    | with_reducible apply Keeps.ite
    | with_reducible apply Keeps.iteP
    | with_reducible apply Keeps.answer
    | with_reducible apply Keeps.answerRead
    | with_reducible apply Keeps.accepted
    | with_reducible apply Keeps.done
    | with_reducible decide
    | with_reducible refine Keeps.of_eq (by assumption) ?_
    | split

theorem keeps_storeParams : ∀ a0 a1 a2 a3, Keeps 0xc00700000000000000000000000000000000000000000000000000000000000000000000000000000000000000000000000000000000000d200000000000000000000000000000000000000100 a3 (storeParams a0 a1 a2 a3).2 := by
  intro a0 a1 a2 a3
  have h0 : Keeps 0xc00700000000000000000000000000000000000000000000000000000000000000000000000000000000000000000000000000000000000d200000000000000000000000000000000000000100 a3 a3 := Keeps.refl _
  unfold storeParams
  repeat' first
    | with_reducible assumption
    | intro _
    | with_reducible apply Keeps.step (keeps_requestStore _ _ _ _ _ _)
    | with_reducible apply Keeps.ite
    | with_reducible apply Keeps.iteP
    | with_reducible apply Keeps.answer
    | with_reducible apply Keeps.answerRead
    | with_reducible apply Keeps.accepted
    | with_reducible apply Keeps.done
    | with_reducible decide
    | split

theorem keeps_restoreDefaults : ∀ a0 a1, Keeps 0x400000000000000000000000000000000000000000000000000000000000000000000000000000000000000000000000000000000000000000000000000000000000000000000000000000 a1 (restoreDefaults a0 a1).2 := by
  intro a0 a1
  have h0 : Keeps 0x400000000000000000000000000000000000000000000000000000000000000000000000000000000000000000000000000000000000000000000000000000000000000000000000000000 a1 a1 := Keeps.refl _
  unfold restoreDefaults
  repeat' first
    | with_reducible assumption
    | ((with_reducible refine NetField.upd_of ?_); intro i x hi; cases i <;> first | exact Keeps.no rfl hi | exact rfl | (split <;> rfl) | ((repeat' split) <;> rfl))
    | intro _
    | with_reducible refine Keeps.modNet ?_ ?_
    | with_reducible apply Keeps.ite
    | with_reducible apply Keeps.iteP
    | with_reducible apply Keeps.answer
    | with_reducible apply Keeps.answerRead
    | with_reducible apply Keeps.accepted
    | with_reducible apply Keeps.done
    | with_reducible decide
    | split

theorem keeps_clearHistory : ∀ a0 a1, Keeps 0x6000000000000 a1 (clearHistory a0 a1).2 := by
  intro a0 a1
  have h0 : Keeps 0x6000000000000 a1 a1 := Keeps.refl _
  unfold clearHistory
  repeat' first
    | with_reducible assumption
    | intro _
    | with_reducible apply Keeps.setN .CIA_ERROR_FIELD (group_CIA_ERROR_FIELD _ (by first | omega | (simp only [List.mem_range, List.mem_cons, List.not_mem_nil, or_false] at *; omega)))
    | with_reducible apply Keeps.setN .CIA_ERROR_COUNT group_CIA_ERROR_COUNT
    | with_reducible apply Keeps.foldl_mem
    | with_reducible apply Keeps.ite
    | with_reducible apply Keeps.iteP
    | with_reducible apply Keeps.answer
    | with_reducible apply Keeps.answerRead
    | with_reducible apply Keeps.accepted
    | with_reducible apply Keeps.done
    | with_reducible decide
    | split

theorem keeps_handoverCommand : ∀ a0 a1, Keeps 0x10000000000000000000000000000000000000000000000000000000000000000010000000000000000000000000400000000000000000000000000000000000040 a1 (handoverCommand a0 a1).2 := by
  intro a0 a1
  have h0 : Keeps 0x10000000000000000000000000000000000000000000000000000000000000000010000000000000000000000000400000000000000000000000000000000000040 a1 a1 := Keeps.refl _
  unfold handoverCommand
  repeat' first
    | with_reducible assumption
    | ((with_reducible refine TwnField.upd_of ?_); intro i x hi; cases i <;> first | exact Keeps.no rfl hi | exact rfl | (split <;> rfl) | ((repeat' split) <;> rfl))
    | intro _
    | (extract_lets +onlyGivenNames x; clear_value x)
    | with_reducible refine Keeps.modTwn ?_ ?_
    | with_reducible apply Keeps.step (keeps_linkSend _ _ _)
    | with_reducible apply Keeps.step (keeps_showTwin _)
    | with_reducible apply Keeps.ite
    | with_reducible apply Keeps.iteP
    | with_reducible apply Keeps.answer
    | with_reducible apply Keeps.answerRead
    | with_reducible apply Keeps.accepted
    | with_reducible apply Keeps.done
    | with_reducible decide
    | split

theorem keeps_tbIssue : ∀ a0 a1 a2, Keeps 0x80000000000000000000000000000000000000000c0000000000000000000000004000000000000000000000000040000000000000100 a2 (tbIssue a0 a1 a2).2 := by
  intro a0 a1 a2
  have h0 : Keeps 0x80000000000000000000000000000000000000000c0000000000000000000000004000000000000000000000000040000000000000100 a2 a2 := Keeps.refl _
  unfold tbIssue
  repeat' first
    | with_reducible assumption
    | intro _
    | (extract_lets +onlyGivenNames x; clear_value x)
    | with_reducible apply Keeps.step (keeps_tbCommand _ _ _ _ _ _)
    | with_reducible apply Keeps.ite
    | with_reducible apply Keeps.iteP
    | with_reducible apply Keeps.answer
    | with_reducible apply Keeps.answerRead
    | with_reducible apply Keeps.accepted
    | with_reducible apply Keeps.done
    | with_reducible decide
    | with_reducible refine Keeps.of_eq (by assumption) ?_
    | split

theorem Keeps.done {F : Nat} {s0 : State} {r : Nat × State} (h : Keeps F s0 r.2) : Keeps F s0 (Machine.done r).2 := h

theorem keeps_badValue (s : State) : Keeps 0x0 s (badValue s).2 := Keeps.refl s

theorem keeps_acqCommand : ∀ a0 a1 a2, Keeps 0x30000000000000000000000000000000000000000000000000000000000000000000000000000000000000000000000000000000800000000000 a2 (acqCommand a0 a1 a2).2 := by
  intro a0 a1 a2
  have h0 : Keeps 0x30000000000000000000000000000000000000000000000000000000000000000000000000000000000000000000000000000000800000000000 a2 a2 := Keeps.refl _
  unfold acqCommand
  repeat' first
    | with_reducible assumption
    | intro _
    | with_reducible apply Keeps.step (keeps_acqDiag _ _ _)
    | with_reducible apply Keeps.step (keeps_acqRestoreRefused _ _)
    | with_reducible apply Keeps.step (keeps_acqSelfCal _ _)
    | with_reducible apply Keeps.step (keeps_badValue _)
    | with_reducible apply Keeps.step (keeps_startPathDiag _ _ _)
    | with_reducible apply Keeps.ite
    | with_reducible apply Keeps.iteP
    | with_reducible apply Keeps.answer
    | with_reducible apply Keeps.answerRead
    | with_reducible apply Keeps.accepted
    | with_reducible apply Keeps.done
    | with_reducible decide
    | with_reducible refine Keeps.of_eq (by assumption) ?_
    | split

theorem keeps_safetyCommand : ∀ a0 a1 a2, Keeps 0x2000000000004163800000000007400008000310004c0d00000006e0007cc1d9f0a4b33e700000700000000000080010014820004000200000100020981a0291000100e0000000005c0 a2 (safetyCommand a0 a1 a2).2 := by
  intro a0 a1 a2
  have h0 : Keeps 0x2000000000004163800000000007400008000310004c0d00000006e0007cc1d9f0a4b33e700000700000000000080010014820004000200000100020981a0291000100e0000000005c0 a2 a2 := Keeps.refl _
  unfold safetyCommand
  repeat' first
    | with_reducible assumption
    | intro _
    | with_reducible apply Keeps.step (keeps_State_draw _)
    | with_reducible apply Keeps.step (keeps_clearSoc _ _ _ _)
    | with_reducible apply Keeps.step (keeps_restartConn _ _ _)
    | with_reducible apply Keeps.ite
    | with_reducible apply Keeps.iteP
    | with_reducible apply Keeps.answer
    | with_reducible apply Keeps.answerRead
    | with_reducible apply Keeps.accepted
    | with_reducible apply Keeps.done
    | with_reducible decide
    | with_reducible refine Keeps.of_eq (by assumption) ?_
    | split

theorem keeps_moduleCommand : ∀ a0 a1 a2 a3, Keeps 0xcc87940239ebbfa1881730db1007f608247454c4c10e73ff77c0f0009df9ee8007ccfdffefcb37ff30ffe7003ffffffffffffffffffffffffffffffffffffffffffffffffffffffffffffff5d4 a3 (moduleCommand a0 a1 a2 a3).2 := by
  intro a0 a1 a2 a3
  have h0 : Keeps 0xcc87940239ebbfa1881730db1007f608247454c4c10e73ff77c0f0009df9ee8007ccfdffefcb37ff30ffe7003ffffffffffffffffffffffffffffffffffffffffffffffffffffffffffffff5d4 a3 a3 := Keeps.refl _
  unfold moduleCommand
  repeat' first
    | with_reducible assumption
    | ((with_reducible refine TwnField.upd_of ?_); intro i x hi; cases i <;> first | exact Keeps.no rfl hi | exact rfl | (split <;> rfl) | ((repeat' split) <;> rfl))
    | intro _
    | (extract_lets +onlyGivenNames x; clear_value x)
    | with_reducible refine Keeps.modTwn ?_ ?_
    | with_reducible apply Keeps.step (keeps_badValue _)
    | with_reducible apply Keeps.step (keeps_cdClear _ _)
    | with_reducible apply Keeps.step (keeps_commitVersion _ _)
    | with_reducible apply Keeps.step (keeps_cvuFeed _ _ _ _)
    | with_reducible apply Keeps.step (keeps_cvuFinish _ _ _)
    | with_reducible apply Keeps.step (keeps_cvuStart _ _ _)
    | with_reducible apply Keeps.step (keeps_fieldForce _ _ _)
    | with_reducible apply Keeps.step (keeps_handoverCommand _ _)
    | with_reducible apply Keeps.step (keeps_imageBlock _ _ _ _)
    | with_reducible apply Keeps.step (keeps_linkSend _ _ _)
    | with_reducible apply Keeps.step (keeps_lockReview _)
    | with_reducible apply Keeps.step (keeps_modCommand _ _ _)
    | with_reducible apply Keeps.step (keeps_revertRef _)
    | with_reducible apply Keeps.step (keeps_selectRecord _ _)
    | with_reducible apply Keeps.step (keeps_stageCommand _ _ _ _)
    | with_reducible apply Keeps.step (keeps_stepBase _ _ _)
    | with_reducible apply Keeps.ite
    | with_reducible apply Keeps.iteP
    | with_reducible apply Keeps.answer
    | with_reducible apply Keeps.answerRead
    | with_reducible apply Keeps.accepted
    | with_reducible apply Keeps.done
    | with_reducible decide
    | with_reducible refine Keeps.of_eq (by assumption) ?_
    | split

theorem keeps_edgeCommand : ∀ a0 a1 a2 a3, Keeps 0xc00ed80060000000000000000000000000000020000000c03ffffffffffffffffffffffffffffffffffffffffffffffffffffffffffffff180 a3 (edgeCommand a0 a1 a2 a3).2 := by
  intro a0 a1 a2 a3
  have h0 : Keeps 0xc00ed80060000000000000000000000000000020000000c03ffffffffffffffffffffffffffffffffffffffffffffffffffffffffffffff180 a3 a3 := Keeps.refl _
  unfold edgeCommand
  repeat' first
    | with_reducible assumption
    | intro _
    | (extract_lets +onlyGivenNames x; clear_value x)
    | with_reducible apply Keeps.step (keeps_State_draw _)
    | with_reducible apply Keeps.setObjAny
    | with_reducible apply Keeps.step (keeps_badValue _)
    | with_reducible apply Keeps.step (keeps_clearDesatCmd _ _)
    | with_reducible apply Keeps.step (keeps_clearPortCmd _ _ _)
    | with_reducible apply Keeps.step (keeps_diagCmd _ _ _)
    | with_reducible apply Keeps.step (keeps_groupClear _ _)
    | with_reducible apply Keeps.step (keeps_rawEnable _ _ _)
    | with_reducible apply Keeps.step (keeps_rawWord _ _ _)
    | with_reducible apply Keeps.step (keeps_selftestCmd _ _)
    | with_reducible apply Keeps.step (keeps_staticCtrl _ _ _)
    | with_reducible apply Keeps.step (keeps_tbIssue _ _ _)
    | with_reducible apply Keeps.ite
    | with_reducible apply Keeps.iteP
    | with_reducible apply Keeps.answer
    | with_reducible apply Keeps.answerRead
    | with_reducible apply Keeps.accepted
    | with_reducible apply Keeps.done
    | with_reducible decide
    | split

theorem keeps_otherCommand : ∀ a0 a1 a2 a3, Keeps 0xc0074003e2180018000416380000000000f400348000310004c0d00000006e0007cc1d9f1ecb33e7000007403ffffffffffffffffffffffffffffffffffffffffffffffffffffffffffffff5c0 a3 (otherCommand a0 a1 a2 a3).2 := by
  intro a0 a1 a2 a3
  have h0 : Keeps 0xc0074003e2180018000416380000000000f400348000310004c0d00000006e0007cc1d9f1ecb33e7000007403ffffffffffffffffffffffffffffffffffffffffffffffffffffffffffffff5c0 a3 a3 := Keeps.refl _
  unfold otherCommand
  repeat' first
    | with_reducible assumption
    | ((with_reducible refine LgcField.upd_of ?_); intro i x hi; cases i <;> first | exact Keeps.no rfl hi | exact rfl | (split <;> rfl) | ((repeat' split) <;> rfl))
    | intro _
    | (extract_lets +onlyGivenNames x; clear_value x)
    | with_reducible refine Keeps.modLgc ?_ ?_
    | with_reducible apply Keeps.setObjAny
    | with_reducible apply Keeps.step (keeps_acqCommand _ _ _)
    | with_reducible apply Keeps.step (keeps_badValue _)
    | with_reducible apply Keeps.step (keeps_bankSwitchCmd _ _ _)
    | with_reducible apply Keeps.step (keeps_clearHistory _ _)
    | with_reducible apply Keeps.step (keeps_logicCommand _ _ _)
    | with_reducible apply Keeps.step (keeps_ownerCommand _ _ _)
    | with_reducible apply Keeps.step (keeps_restoreDefaults _ _)
    | with_reducible apply Keeps.step (keeps_safetyCommand _ _ _)
    | with_reducible apply Keeps.step (keeps_selectGalRecord _ _ _)
    | with_reducible apply Keeps.step (keeps_serviceResponse _ _ _)
    | with_reducible apply Keeps.step (keeps_stageBlock _ _)
    | with_reducible apply Keeps.step (keeps_storeParams _ _ _ _)
    | with_reducible apply Keeps.step (keeps_tieCloseCmd _ _)
    | with_reducible apply Keeps.step (keeps_tieOpenCmd _ _)
    | with_reducible apply Keeps.ite
    | with_reducible apply Keeps.iteP
    | with_reducible apply Keeps.answer
    | with_reducible apply Keeps.answerRead
    | with_reducible apply Keeps.accepted
    | with_reducible apply Keeps.done
    | with_reducible decide
    | with_reducible refine Keeps.of_eq (by assumption) ?_
    | split

theorem keeps_commandEffect : ∀ a0 a1 a2 a3, Keeps 0xcc87d403fbfbbfb9881736fb1007f60824f454f4c10efbff77c0f0009df9ee8007ccfdffffcb37ff30ffe7c03ffffffffffffffffffffffffffffffffffffffffffffffffffffffffffffff5d4 a3 (commandEffect a0 a1 a2 a3).2 := by
  intro a0 a1 a2 a3
  have h0 : Keeps 0xcc87d403fbfbbfb9881736fb1007f60824f454f4c10efbff77c0f0009df9ee8007ccfdffffcb37ff30ffe7c03ffffffffffffffffffffffffffffffffffffffffffffffffffffffffffffff5d4 a3 a3 := Keeps.refl _
  unfold commandEffect
  repeat' first
    | with_reducible assumption
    | intro _
    | with_reducible apply Keeps.step (keeps_edgeCommand _ _ _ _)
    | with_reducible apply Keeps.step (keeps_moduleCommand _ _ _ _)
    | with_reducible apply Keeps.step (keeps_otherCommand _ _ _ _)
    | with_reducible apply Keeps.ite
    | with_reducible apply Keeps.iteP
    | with_reducible apply Keeps.answer
    | with_reducible apply Keeps.answerRead
    | with_reducible apply Keeps.accepted
    | with_reducible apply Keeps.done
    | with_reducible decide
    | split

theorem keeps_writeEffect : ∀ a0 a1 a2 a3, Keeps 0xcc87d403fbfbbfb9881736fb1007f60824f7d4f4c10efbff77c0f0009df9ee8007ccfdffffcb37ff30ffe7c03ffffffffffffffffffffffffffffffffffffffffffffffffffffffffffffff5fc a3 (writeEffect a0 a1 a2 a3).2 := by
  intro a0 a1 a2 a3
  have h0 : Keeps 0xcc87d403fbfbbfb9881736fb1007f60824f7d4f4c10efbff77c0f0009df9ee8007ccfdffffcb37ff30ffe7c03ffffffffffffffffffffffffffffffffffffffffffffffffffffffffffffff5fc a3 a3 := Keeps.refl _
  unfold writeEffect
  repeat' first
    | with_reducible assumption
    | intro _
    | (extract_lets +onlyGivenNames x; clear_value x)
    | with_reducible apply Keeps.step (keeps_awaitCommit _ _ _)
    | with_reducible apply Keeps.step (keeps_commandEffect _ _ _ _)
    | with_reducible apply Keeps.step (keeps_hostWrite _ _ _)
    | with_reducible apply Keeps.step (keeps_orderBlockReset _ _ _)
    | with_reducible apply Keeps.step (keeps_plainWrite _ _ _ _)
    | with_reducible apply Keeps.step (keeps_writeBlockParam _ _ _ _)
    | with_reducible apply Keeps.ite
    | with_reducible apply Keeps.iteP
    | with_reducible apply Keeps.answer
    | with_reducible apply Keeps.answerRead
    | with_reducible apply Keeps.accepted
    | with_reducible apply Keeps.done
    | with_reducible decide
    | with_reducible refine Keeps.of_eq (by assumption) ?_
    | split

theorem keeps_noteRefused : ∀ a0 a1 a2 a3 a4 a5, Keeps 0x4100400000000000000000000000000000000000100 a5 (noteRefused a0 a1 a2 a3 a4 a5) := by
  intro a0 a1 a2 a3 a4 a5
  have h0 : Keeps 0x4100400000000000000000000000000000000000100 a5 a5 := Keeps.refl _
  unfold noteRefused
  repeat' first
    | with_reducible assumption
    | intro _
    | (extract_lets +onlyGivenNames x; refine Keeps.cut x ?_ (fun hx => ?_); (revert x; show Keeps _ _ _); on_goal 2 => clear_value x)
    | (extract_lets +onlyGivenNames x; clear_value x)
    | extract_lets +onlyGivenNames x
    | with_reducible apply Keeps.bump .NET_WRITES_LOST group_NET_WRITES_LOST
    | with_reducible apply Keeps.step (keeps_State_logOnce _ _ _ _)
    | with_reducible apply Keeps.step (keeps_cmdRefused _ _ _)
    | with_reducible apply Keeps.step (keeps_modRefused _ _ _)
    | with_reducible apply Keeps.ite
    | with_reducible apply Keeps.iteP
    | with_reducible apply Keeps.answer
    | with_reducible apply Keeps.answerRead
    | with_reducible apply Keeps.accepted
    | with_reducible apply Keeps.done
    | with_reducible decide
    | split

theorem keeps_dictWrite : ∀ a0 a1 a2 a3 a4, Keeps 0xcc87d403fbfbbfb9881736fb1007f60824f7d4f4c10efbff77c0f0009df9ee8007ccfdffffcb37ff30ffe7c03ffffffffffffffffffffffffffffffffffffffffffffffffffffffffffffff5fc a4 (dictWrite a0 a1 a2 a3 a4).2 := by
  intro a0 a1 a2 a3 a4
  have h0 : Keeps 0xcc87d403fbfbbfb9881736fb1007f60824f7d4f4c10efbff77c0f0009df9ee8007ccfdffffcb37ff30ffe7c03ffffffffffffffffffffffffffffffffffffffffffffffffffffffffffffff5fc a4 a4 := Keeps.refl _
  unfold dictWrite
  repeat' first
    | with_reducible assumption
    | intro _
    | (extract_lets +onlyGivenNames x; refine Keeps.cutP x ?_ (fun hx => ?_); (revert x; show Keeps _ _ _); on_goal 2 => clear_value x)
    | (extract_lets +onlyGivenNames x; clear_value x)
    | with_reducible apply Keeps.step (keeps_State_forward _ _ _)
    | with_reducible apply Keeps.step (keeps_noteRefused _ _ _ _ _ _)
    | with_reducible apply Keeps.step (keeps_writeEffect _ _ _ _)
    | with_reducible apply Keeps.ite
    | with_reducible apply Keeps.iteP
    | with_reducible apply Keeps.answer
    | with_reducible apply Keeps.answerRead
    | with_reducible apply Keeps.accepted
    | with_reducible apply Keeps.done
    | with_reducible decide
    | with_reducible refine Keeps.of_eq (by assumption) ?_
    | split

theorem keeps_writeRequest : ∀ a0 a1 a2 a3 a4, Keeps 0xcc87d403fbfbbfb9881736fb1007f60824f7d4f4c10efbff77c0f0009df9ee8007ccfdffffcb37ff30ffe7c03ffffffffffffffffffffffffffffffffffffffffffffffffffffffffffffff5fc a4 (writeRequest a0 a1 a2 a3 a4).2 := by
  intro a0 a1 a2 a3 a4
  have h0 : Keeps 0xcc87d403fbfbbfb9881736fb1007f60824f7d4f4c10efbff77c0f0009df9ee8007ccfdffffcb37ff30ffe7c03ffffffffffffffffffffffffffffffffffffffffffffffffffffffffffffff5fc a4 a4 := Keeps.refl _
  unfold writeRequest
  repeat' first
    | with_reducible assumption
    | intro _
    | with_reducible apply Keeps.step (keeps_dictWrite _ _ _ _ _)
    | with_reducible apply Keeps.ite
    | with_reducible apply Keeps.iteP
    | with_reducible apply Keeps.answer
    | with_reducible apply Keeps.answerRead
    | with_reducible apply Keeps.accepted
    | with_reducible apply Keeps.done
    | with_reducible decide
    | split

theorem keeps_readRequest : ∀ a0 a1 a2, Keeps 0x40000000000000000000000000000000800010000000000000000000000000000000000000000000000000000000000000000000000000000000020800000000000000000000000080 a2 (readRequest a0 a1 a2).2 := by
  intro a0 a1 a2
  have h0 : Keeps 0x40000000000000000000000000000000800010000000000000000000000000000000000000000000000000000000000000000000000000000000020800000000000000000000000080 a2 a2 := Keeps.refl _
  unfold readRequest
  repeat' first
    | with_reducible assumption
    | intro _
    | with_reducible apply Keeps.step (keeps_readChallenge _ _)
    | with_reducible apply Keeps.ite
    | with_reducible apply Keeps.iteP
    | with_reducible apply Keeps.answer
    | with_reducible apply Keeps.answerRead
    | with_reducible apply Keeps.accepted
    | with_reducible apply Keeps.done
    | with_reducible decide
    | split

theorem Keeps.answer {F : Nat} {s0 : State} {w : Writer} {key : Nat} {r : Option Nat × State}
    (e : 0x140038000000000000000000000000000000000000000000000000000000000000000000000000000000000000000000000000000000009000000000000000000000000000000000000040 &&& F = 0x140038000000000000000000000000000000000000000000000000000000000000000000000000000000000000000000000000000000009000000000000000000000000000000000000040) (h : Keeps F s0 r.2) : Keeps F s0 (Machine.answer w key r) := by
  unfold Machine.answer
  split
  · exact h.trans (((keeps_State_reply _ _ _ _).mono (by decide : _ &&& 0x140038000000000000000000000000000000000000000000000000000000000000000000000000000000000000000000000000000000009000000000000000000000000000000000000040 = _)).mono e)
  · exact h.trans (((keeps_State_renew _ _ _).mono (by decide : _ &&& 0x140038000000000000000000000000000000000000000000000000000000000000000000000000000000000000000000000000000000009000000000000000000000000000000000000040 = _)).mono e)

theorem Keeps.answerRead {F : Nat} {s0 : State} {w : Writer} {key : Nat} {r : Except Nat Val × State}
    (e : 0x140038000000000000000000000000000000000000000000000000000000000000000000000000000000000000000000000000000000009000000000000000000000000000000000000040 &&& F = 0x140038000000000000000000000000000000000000000000000000000000000000000000000000000000000000000000000000000000009000000000000000000000000000000000000040) (h : Keeps F s0 r.2) : Keeps F s0 (Machine.answerRead w key r) := by
  have a : ∀ t b c, Keeps F t (State.reply t w b c) :=
    fun t b c => ((keeps_State_reply t w b c).mono (by decide : _ &&& 0x140038000000000000000000000000000000000000000000000000000000000000000000000000000000000000000000000000000000009000000000000000000000000000000000000040 = _)).mono e
  have b : ∀ t x y, Keeps F t (State.renew t x y) :=
    fun t x y => ((keeps_State_renew t x y).mono (by decide : _ &&& 0x140038000000000000000000000000000000000000000000000000000000000000000000000000000000000000000000000000000000009000000000000000000000000000000000000040 = _)).mono e
  have c : ∀ t x y z l, Keeps F t (State.respond t x y z l) :=
    fun t x y z l => ((keeps_State_respond t x y z l).mono (by decide : _ &&& 0x140038000000000000000000000000000000000000000000000000000000000000000000000000000000000000000000000000000000009000000000000000000000000000000000000040 = _)).mono e
  unfold Machine.answerRead
  split
  · exact (h.trans (b _ _ _)).trans (c _ _ _ _ _)
  · exact h
  · exact h.trans (a _ _ _)

end Sys2Proof.Machine
end

