-- ==== Sys2Proof/Laws/KeepsDictionary.lean ====
section
/-!
SUPPORT. What each operation of Machine/Dictionary.lean may change.
-/

set_option linter.unusedTactic false
set_option linter.tactic.unusedName false
set_option linter.unreachableTactic false

namespace Sys2Proof.Machine

theorem keeps_dictReq : ∀ a0 a1 a2 a3 a4, Keeps 0xcc87d403fbfbbfb9881736fb1007f60824f7d4f4c10efbff77c0f0009df9ee8007ccfdffffcb37ff30ffe7c03ffffffffffffffffffffffffffffffffffffffffffffffffffffffffffffff5fc a4 (dictReq a0 a1 a2 a3 a4) := by
  intro a0 a1 a2 a3 a4
  have h0 : Keeps 0xcc87d403fbfbbfb9881736fb1007f60824f7d4f4c10efbff77c0f0009df9ee8007ccfdffffcb37ff30ffe7c03ffffffffffffffffffffffffffffffffffffffffffffffffffffffffffffff5fc a4 a4 := Keeps.refl _
  unfold dictReq
  repeat' first
    | with_reducible assumption
    | intro _
    | with_reducible apply Keeps.step (keeps_writeRequest _ _ _ _ _)
    | with_reducible apply Keeps.ite
    | with_reducible apply Keeps.iteP
    | with_reducible apply Keeps.answer
    | with_reducible apply Keeps.answerRead
    | with_reducible decide
    | split

theorem keeps_execDictionaryWrite : ∀ a0 a1 a2 a3 a4 a5, KeepsR 0xcc87d403fbfbbfb9881736fb1007f60824f7d4f4c10efbff77c0f0009df9ee8007ccfdffffcb37ff30ffe7c03ffffffffffffffffffffffffffffffffffffffffffffffffffffffffffffff5fc a5 (execDictionaryWrite a0 a1 a2 a3 a4 a5) := by
  intro a0 a1 a2 a3 a4 a5
  have h0 : Keeps 0xcc87d403fbfbbfb9881736fb1007f60824f7d4f4c10efbff77c0f0009df9ee8007ccfdffffcb37ff30ffe7c03ffffffffffffffffffffffffffffffffffffffffffffffffffffffffffffff5fc a5 a5 := Keeps.refl _
  unfold execDictionaryWrite
  repeat' first
    | with_reducible assumption
    | intro _
    | with_reducible apply Keeps.accepted
    | with_reducible apply KeepsR.next
    | with_reducible apply Keeps.step (keeps_dictReq _ _ _ _ _)
    | with_reducible apply Keeps.answer
    | with_reducible apply Keeps.answerRead
    | with_reducible decide

theorem keeps_execOwnershipClaim : ∀ a0 a1, KeepsR 0xcc87d403fbfbbfb9881736fb1007f60824f7d4f4c10efbff77c0f0009df9ee8007ccfdffffcb37ff30ffe7c03ffffffffffffffffffffffffffffffffffffffffffffffffffffffffffffff5fc a1 (execOwnershipClaim a0 a1) := by
  intro a0 a1
  have h0 : Keeps 0xcc87d403fbfbbfb9881736fb1007f60824f7d4f4c10efbff77c0f0009df9ee8007ccfdffffcb37ff30ffe7c03ffffffffffffffffffffffffffffffffffffffffffffffffffffffffffffff5fc a1 a1 := Keeps.refl _
  unfold execOwnershipClaim
  repeat' first
    | with_reducible assumption
    | intro _
    | with_reducible apply Keeps.accepted
    | with_reducible apply KeepsR.next
    | with_reducible apply Keeps.step (keeps_dictReq _ _ _ _ _)
    | with_reducible apply Keeps.answer
    | with_reducible apply Keeps.answerRead
    | with_reducible decide

theorem keeps_execOwnershipForce : ∀ a0 a1, KeepsR 0xcc87d403fbfbbfb9881736fb1007f60824f7d4f4c10efbff77c0f0009df9ee8007ccfdffffcb37ff30ffe7c03ffffffffffffffffffffffffffffffffffffffffffffffffffffffffffffff5fc a1 (execOwnershipForce a0 a1) := by
  intro a0 a1
  have h0 : Keeps 0xcc87d403fbfbbfb9881736fb1007f60824f7d4f4c10efbff77c0f0009df9ee8007ccfdffffcb37ff30ffe7c03ffffffffffffffffffffffffffffffffffffffffffffffffffffffffffffff5fc a1 a1 := Keeps.refl _
  unfold execOwnershipForce
  repeat' first
    | with_reducible assumption
    | intro _
    | with_reducible apply Keeps.accepted
    | with_reducible apply KeepsR.next
    | with_reducible apply Keeps.step (keeps_dictReq _ _ _ _ _)
    | with_reducible apply Keeps.answer
    | with_reducible apply Keeps.answerRead
    | with_reducible decide

theorem keeps_execOwnershipRelease : ∀ a0 a1, KeepsR 0xcc87d403fbfbbfb9881736fb1007f60824f7d4f4c10efbff77c0f0009df9ee8007ccfdffffcb37ff30ffe7c03ffffffffffffffffffffffffffffffffffffffffffffffffffffffffffffff5fc a1 (execOwnershipRelease a0 a1) := by
  intro a0 a1
  have h0 : Keeps 0xcc87d403fbfbbfb9881736fb1007f60824f7d4f4c10efbff77c0f0009df9ee8007ccfdffffcb37ff30ffe7c03ffffffffffffffffffffffffffffffffffffffffffffffffffffffffffffff5fc a1 a1 := Keeps.refl _
  unfold execOwnershipRelease
  repeat' first
    | with_reducible assumption
    | intro _
    | with_reducible apply Keeps.accepted
    | with_reducible apply KeepsR.next
    | with_reducible apply Keeps.step (keeps_dictReq _ _ _ _ _)
    | with_reducible apply Keeps.answer
    | with_reducible apply Keeps.answerRead
    | with_reducible decide

theorem keeps_execOwnershipTimeout : ∀ a0, KeepsR 0x40a0000000000000000000000000000000000000100 a0 (execOwnershipTimeout a0) := by
  intro a0
  have h0 : Keeps 0x40a0000000000000000000000000000000000000100 a0 a0 := Keeps.refl _
  unfold execOwnershipTimeout
  repeat' first
    | with_reducible assumption
    | intro _
    | with_reducible apply Keeps.accepted
    | with_reducible apply KeepsR.next
    | with_reducible apply KeepsR.ite
    | with_reducible apply Keeps.on
    | with_reducible apply Keeps.step (keeps_ownerEnds _ _)
    | with_reducible apply Keeps.ite
    | with_reducible apply Keeps.iteP
    | with_reducible apply Keeps.answer
    | with_reducible apply Keeps.answerRead
    | with_reducible decide
    | split

theorem keeps_execServiceChallengeRead : ∀ a0 a1, KeepsR 0x1400780000000000000000000000000000008000100000000000000000000000000000000000000000000000000000000000000000000090000000000208000000000000000000000000c0 a1 (execServiceChallengeRead a0 a1) := by
  intro a0 a1
  have h0 : Keeps 0x1400780000000000000000000000000000008000100000000000000000000000000000000000000000000000000000000000000000000090000000000208000000000000000000000000c0 a1 a1 := Keeps.refl _
  unfold execServiceChallengeRead
  repeat' first
    | with_reducible assumption
    | intro _
    | with_reducible apply Keeps.accepted
    | with_reducible apply KeepsR.next
    | with_reducible apply KeepsR.ite
    | with_reducible apply Keeps.step (keeps_readRequest _ _ _)
    | with_reducible apply Keeps.ite
    | with_reducible apply Keeps.iteP
    | with_reducible apply Keeps.answer
    | with_reducible apply Keeps.answerRead
    | with_reducible decide
    | split

theorem keeps_execServiceResponse : ∀ a0 a1 a2, KeepsR 0xcc87d403fbfbbfb9881736fb1007f60824f7d4f4c10efbff77c0f0009df9ee8007ccfdffffcb37ff30ffe7c03ffffffffffffffffffffffffffffffffffffffffffffffffffffffffffffff5fc a2 (execServiceResponse a0 a1 a2) := by
  intro a0 a1 a2
  have h0 : Keeps 0xcc87d403fbfbbfb9881736fb1007f60824f7d4f4c10efbff77c0f0009df9ee8007ccfdffffcb37ff30ffe7c03ffffffffffffffffffffffffffffffffffffffffffffffffffffffffffffff5fc a2 a2 := Keeps.refl _
  unfold execServiceResponse
  repeat' first
    | with_reducible assumption
    | intro _
    | with_reducible apply Keeps.accepted
    | with_reducible apply KeepsR.next
    | with_reducible apply Keeps.step (keeps_dictReq _ _ _ _ _)
    | with_reducible apply Keeps.answer
    | with_reducible apply Keeps.answerRead
    | with_reducible decide

theorem keeps_execServiceAccessTimeout : ∀ a0 a1, KeepsR 0x20000000000000000000000000000000000000000000000000000000000000000000000000000000000000000000000000000000080000000000000000000000000000000000000000 a1 (execServiceAccessTimeout a0 a1) := by
  intro a0 a1
  have h0 : Keeps 0x20000000000000000000000000000000000000000000000000000000000000000000000000000000000000000000000000000000080000000000000000000000000000000000000000 a1 a1 := Keeps.refl _
  unfold execServiceAccessTimeout
  repeat' first
    | with_reducible assumption
    | ((with_reducible refine NetField.upd_of ?_); intro i x hi; cases i <;> first | exact Keeps.no rfl hi | exact rfl | (split <;> rfl) | ((repeat' split) <;> rfl))
    | intro _
    | with_reducible apply Keeps.accepted
    | with_reducible apply KeepsR.next
    | (extract_lets +onlyGivenNames x; clear_value x)
    | with_reducible refine Keeps.modNet ?_ ?_
    | with_reducible apply Keeps.on
    | with_reducible apply Keeps.step (keeps_showNet _)
    | with_reducible apply Keeps.answer
    | with_reducible apply Keeps.answerRead
    | with_reducible decide

theorem keeps_execChallengeBlockEnd : ∀ a0 a1, KeepsR 0x100000000000000000000000000000000000000000000000000000000000000000000000000000000000000000000000000000000000000000000000000000000000000000000000000 a1 (execChallengeBlockEnd a0 a1) := by
  intro a0 a1
  have h0 : Keeps 0x100000000000000000000000000000000000000000000000000000000000000000000000000000000000000000000000000000000000000000000000000000000000000000000000000 a1 a1 := Keeps.refl _
  unfold execChallengeBlockEnd
  repeat' first
    | with_reducible assumption
    | ((with_reducible refine NetField.upd_of ?_); intro i x hi; cases i <;> first | exact Keeps.no rfl hi | exact rfl | (split <;> rfl) | ((repeat' split) <;> rfl))
    | intro _
    | with_reducible apply Keeps.accepted
    | with_reducible apply KeepsR.next
    | with_reducible refine Keeps.modNet ?_ ?_
    | with_reducible apply Keeps.on
    | with_reducible apply Keeps.answer
    | with_reducible apply Keeps.answerRead
    | with_reducible decide

theorem keeps_execStoreParameters : ∀ a0 a1 a2, KeepsR 0xc00714003820000000000000000000000000000000000000000000000000000000000000000000000000000000000000000000000000000d209000000000000000000000000000000000000140 a2 (execStoreParameters a0 a1 a2) := by
  intro a0 a1 a2
  have h0 : Keeps 0xc00714003820000000000000000000000000000000000000000000000000000000000000000000000000000000000000000000000000000d209000000000000000000000000000000000000140 a2 a2 := Keeps.refl _
  unfold execStoreParameters
  repeat' first
    | with_reducible assumption
    | intro _
    | with_reducible apply Keeps.accepted
    | with_reducible apply KeepsR.next
    | with_reducible apply KeepsR.ite
    | with_reducible apply Keeps.step (keeps_storeParams _ _ _ _)
    | with_reducible apply Keeps.ite
    | with_reducible apply Keeps.iteP
    | with_reducible apply Keeps.answer
    | with_reducible apply Keeps.answerRead
    | with_reducible decide
    | with_reducible refine Keeps.of_eq (by assumption) ?_
    | split

theorem keeps_execRestoreDefaults : ∀ a0 a1, KeepsR 0xcc87d403fbfbbfb9881736fb1007f60824f7d4f4c10efbff77c0f0009df9ee8007ccfdffffcb37ff30ffe7c03ffffffffffffffffffffffffffffffffffffffffffffffffffffffffffffff5fc a1 (execRestoreDefaults a0 a1) := by
  intro a0 a1
  have h0 : Keeps 0xcc87d403fbfbbfb9881736fb1007f60824f7d4f4c10efbff77c0f0009df9ee8007ccfdffffcb37ff30ffe7c03ffffffffffffffffffffffffffffffffffffffffffffffffffffffffffffff5fc a1 a1 := Keeps.refl _
  unfold execRestoreDefaults
  repeat' first
    | with_reducible assumption
    | intro _
    | with_reducible apply Keeps.accepted
    | with_reducible apply KeepsR.next
    | with_reducible apply Keeps.step (keeps_dictReq _ _ _ _ _)
    | with_reducible apply Keeps.answer
    | with_reducible apply Keeps.answerRead
    | with_reducible decide

theorem keeps_execErrorHistoryClear : ∀ a0 a1, KeepsR 0xcc87d403fbfbbfb9881736fb1007f60824f7d4f4c10efbff77c0f0009df9ee8007ccfdffffcb37ff30ffe7c03ffffffffffffffffffffffffffffffffffffffffffffffffffffffffffffff5fc a1 (execErrorHistoryClear a0 a1) := by
  intro a0 a1
  have h0 : Keeps 0xcc87d403fbfbbfb9881736fb1007f60824f7d4f4c10efbff77c0f0009df9ee8007ccfdffffcb37ff30ffe7c03ffffffffffffffffffffffffffffffffffffffffffffffffffffffffffffff5fc a1 a1 := Keeps.refl _
  unfold execErrorHistoryClear
  repeat' first
    | with_reducible assumption
    | intro _
    | with_reducible apply Keeps.accepted
    | with_reducible apply KeepsR.next
    | with_reducible apply Keeps.step (keeps_dictReq _ _ _ _ _)
    | with_reducible apply Keeps.answer
    | with_reducible apply Keeps.answerRead
    | with_reducible decide

end Sys2Proof.Machine
end

