-- ==== Sys2Proof/Laws/KeepsNetwork.lean ====
section
/-!
SUPPORT. What each operation of Machine/Network.lean may change.
-/

set_option linter.unusedTactic false
set_option linter.tactic.unusedName false
set_option linter.unreachableTactic false

namespace Sys2Proof.Machine

theorem keeps_execNmtStart : ∀ a0 a1, KeepsR 0x200000000000000000000000000000000000000000000000000000000000000000000000000000000000000000000000000000000080000000000000000000000000000000000000000 a1 (execNmtStart a0 a1) := by
  intro a0 a1
  have h0 : Keeps 0x200000000000000000000000000000000000000000000000000000000000000000000000000000000000000000000000000000000080000000000000000000000000000000000000000 a1 a1 := Keeps.refl _
  unfold execNmtStart
  repeat' first
    | with_reducible assumption
    | intro _
    | with_reducible apply Keeps.accepted
    | with_reducible apply KeepsR.next
    | with_reducible apply KeepsR.ite
    | with_reducible apply Keeps.step (keeps_canGo _ _ _)
    | with_reducible apply Keeps.ite
    | with_reducible apply Keeps.iteP
    | with_reducible apply Keeps.answer
    | with_reducible apply Keeps.answerRead
    | with_reducible decide
    | split

theorem keeps_execNmtStop : ∀ a0 a1, KeepsR 0x200000000000000000000000000000000000000000000000000000000000000000000000000000000000000000000000000000000080000000000000000000000000000000000000000 a1 (execNmtStop a0 a1) := by
  intro a0 a1
  have h0 : Keeps 0x200000000000000000000000000000000000000000000000000000000000000000000000000000000000000000000000000000000080000000000000000000000000000000000000000 a1 a1 := Keeps.refl _
  unfold execNmtStop
  repeat' first
    | with_reducible assumption
    | intro _
    | with_reducible apply Keeps.accepted
    | with_reducible apply KeepsR.next
    | with_reducible apply KeepsR.ite
    | with_reducible apply Keeps.step (keeps_canGo _ _ _)
    | with_reducible apply Keeps.ite
    | with_reducible apply Keeps.iteP
    | with_reducible apply Keeps.answer
    | with_reducible apply Keeps.answerRead
    | with_reducible decide
    | split

theorem keeps_execNmtEnterPreop : ∀ a0 a1, KeepsR 0x200000000000000000000000000000000000000000000000000000000000000000000000000000000000000000000000000000000080000000000000000000000000000000000000000 a1 (execNmtEnterPreop a0 a1) := by
  intro a0 a1
  have h0 : Keeps 0x200000000000000000000000000000000000000000000000000000000000000000000000000000000000000000000000000000000080000000000000000000000000000000000000000 a1 a1 := Keeps.refl _
  unfold execNmtEnterPreop
  repeat' first
    | with_reducible assumption
    | intro _
    | with_reducible apply Keeps.accepted
    | with_reducible apply KeepsR.next
    | with_reducible apply KeepsR.ite
    | with_reducible apply Keeps.step (keeps_canGo _ _ _)
    | with_reducible apply Keeps.ite
    | with_reducible apply Keeps.iteP
    | with_reducible apply Keeps.answer
    | with_reducible apply Keeps.answerRead
    | with_reducible decide
    | split

theorem keeps_resetComm : ∀ a0 a1, Keeps 0x2000000000000000000000000000000000000000000000000000000000000000000000000000000003ffffffffffffffffffffffffffffffffffffffffffffffffffffffffffffff060 a1 (resetComm a0 a1) := by
  intro a0 a1
  have h0 : Keeps 0x2000000000000000000000000000000000000000000000000000000000000000000000000000000003ffffffffffffffffffffffffffffffffffffffffffffffffffffffffffffff060 a1 a1 := Keeps.refl _
  unfold resetComm
  repeat' first
    | with_reducible assumption
    | intro _
    | (extract_lets +onlyGivenNames x; refine Keeps.cut x ?_ (fun hx => ?_); (revert x; show Keeps _ _ _); on_goal 2 => clear_value x)
    | (extract_lets +onlyGivenNames x; clear_value x)
    | with_reducible apply Keeps.step (keeps_bootUp _ _)
    | with_reducible apply Keeps.answer
    | with_reducible apply Keeps.answerRead
    | with_reducible decide
    | exact Keeps.upd_objs_resetWrites (by assumption) (by decide) (by decide) _ _ (cellsWf_overlay _)
    | with_reducible apply Keeps.upd_resetWrites

theorem keeps_execNmtResetNode : ∀ a0 a1, KeepsR 0x2000000000000000000000000000000000000000000000000000000000000000000000000000000003ffffffffffffffffffffffffffffffffffffffffffffffffffffffffffffff060 a1 (execNmtResetNode a0 a1) := by
  intro a0 a1
  have h0 : Keeps 0x2000000000000000000000000000000000000000000000000000000000000000000000000000000003ffffffffffffffffffffffffffffffffffffffffffffffffffffffffffffff060 a1 a1 := Keeps.refl _
  unfold execNmtResetNode
  repeat' first
    | with_reducible assumption
    | intro _
    | with_reducible apply Keeps.accepted
    | with_reducible apply KeepsR.next
    | with_reducible apply KeepsR.ite
    | with_reducible apply Keeps.step (keeps_resetComm _ _)
    | with_reducible apply Keeps.ite
    | with_reducible apply Keeps.iteP
    | with_reducible apply Keeps.answer
    | with_reducible apply Keeps.answerRead
    | with_reducible decide
    | split

theorem keeps_execNmtResetComm : ∀ a0 a1, KeepsR 0x2000000000000000000000000000000000000000000000000000000000000000000000000000000003ffffffffffffffffffffffffffffffffffffffffffffffffffffffffffffff060 a1 (execNmtResetComm a0 a1) := by
  intro a0 a1
  have h0 : Keeps 0x2000000000000000000000000000000000000000000000000000000000000000000000000000000003ffffffffffffffffffffffffffffffffffffffffffffffffffffffffffffff060 a1 a1 := Keeps.refl _
  unfold execNmtResetComm
  repeat' first
    | with_reducible assumption
    | intro _
    | with_reducible apply Keeps.accepted
    | with_reducible apply KeepsR.next
    | with_reducible apply KeepsR.ite
    | with_reducible apply Keeps.step (keeps_resetComm _ _)
    | with_reducible apply Keeps.ite
    | with_reducible apply Keeps.iteP
    | with_reducible apply Keeps.answer
    | with_reducible apply Keeps.answerRead
    | with_reducible decide
    | split

theorem keeps_sdoAbort : ∀ a0 a1 a2 a3, Keeps 0x140238000000000000000000000000000000000000000000000000000000000000000000000000000000000000000000000000000000009000000000000000000000000000000000000040 a3 (sdoAbort a0 a1 a2 a3) := by
  intro a0 a1 a2 a3
  have h0 : Keeps 0x140238000000000000000000000000000000000000000000000000000000000000000000000000000000000000000000000000000000009000000000000000000000000000000000000040 a3 a3 := Keeps.refl _
  unfold sdoAbort
  repeat' first
    | with_reducible assumption
    | intro _
    | with_reducible apply Keeps.step (keeps_State_modCan _ _ _)
    | with_reducible apply Keeps.step (keeps_State_reply _ _ _ _)
    | with_reducible apply Keeps.answer
    | with_reducible apply Keeps.answerRead
    | with_reducible decide

theorem keeps_sdoNext : ∀ a0 a1 a2 a3 a4 a5 a6, Keeps 0xcc87d403fbfbbfb9881736fb1007f60824f7d4f4c10efbff77c0f0009df9ee8007ccfdffffcb37ff30ffe7c03ffffffffffffffffffffffffffffffffffffffffffffffffffffffffffffff5fc a6 (sdoNext a0 a1 a2 a3 a4 a5 a6) := by
  intro a0 a1 a2 a3 a4 a5 a6
  have h0 : Keeps 0xcc87d403fbfbbfb9881736fb1007f60824f7d4f4c10efbff77c0f0009df9ee8007ccfdffffcb37ff30ffe7c03ffffffffffffffffffffffffffffffffffffffffffffffffffffffffffffff5fc a6 a6 := Keeps.refl _
  unfold sdoNext
  repeat' first
    | with_reducible assumption
    | intro _
    | (extract_lets +onlyGivenNames x; refine Keeps.cut x ?_ (fun hx => ?_); (revert x; show Keeps _ _ _); on_goal 2 => clear_value x)
    | (extract_lets +onlyGivenNames x; clear_value x)
    | with_reducible apply Keeps.step (keeps_State_modCan _ _ _)
    | with_reducible apply Keeps.step (keeps_State_renew _ _ _)
    | with_reducible apply Keeps.step (keeps_State_respond _ _ _ _ _)
    | with_reducible apply Keeps.step (keeps_sdoAbort _ _ _ _)
    | with_reducible apply Keeps.step (keeps_writeRequest _ _ _ _ _)
    | with_reducible apply Keeps.ite
    | with_reducible apply Keeps.iteP
    | with_reducible apply Keeps.answer
    | with_reducible apply Keeps.answerRead
    | with_reducible decide
    | split

theorem keeps_sdoRead : ∀ a0 a1 a2, Keeps 0x1402780000000000000000000000000000008000100000000000000000000000000000000000000000000000000000000000000000000090000000000208000000000000000000000000c0 a2 (sdoRead a0 a1 a2) := by
  intro a0 a1 a2
  have h0 : Keeps 0x1402780000000000000000000000000000008000100000000000000000000000000000000000000000000000000000000000000000000090000000000208000000000000000000000000c0 a2 a2 := Keeps.refl _
  unfold sdoRead
  repeat' first
    | with_reducible assumption
    | intro _
    | (extract_lets +onlyGivenNames x; refine Keeps.cutP x ?_ (fun hx => ?_); (revert x; show Keeps _ _ _); on_goal 2 => clear_value x)
    | (extract_lets +onlyGivenNames x; clear_value x)
    | with_reducible apply Keeps.step (keeps_State_modCan _ _ _)
    | with_reducible apply Keeps.step (keeps_State_renew _ _ _)
    | with_reducible apply Keeps.step (keeps_State_respond _ _ _ _ _)
    | with_reducible apply Keeps.step (keeps_readRequest _ _ _)
    | with_reducible apply Keeps.ite
    | with_reducible apply Keeps.iteP
    | with_reducible apply Keeps.answer
    | with_reducible apply Keeps.answerRead
    | with_reducible decide
    | with_reducible refine Keeps.of_eq (by assumption) ?_
    | split

theorem keeps_execSdoRequest : ∀ a0 a1 a2, KeepsR 0xcc87d403fbfbbfb9881736fb1007f60824f7d4f4c10efbff77c0f0009df9ee8007ccfdffffcb37ff30ffe7c03ffffffffffffffffffffffffffffffffffffffffffffffffffffffffffffff5fc a2 (execSdoRequest a0 a1 a2) := by
  intro a0 a1 a2
  have h0 : Keeps 0xcc87d403fbfbbfb9881736fb1007f60824f7d4f4c10efbff77c0f0009df9ee8007ccfdffffcb37ff30ffe7c03ffffffffffffffffffffffffffffffffffffffffffffffffffffffffffffff5fc a2 a2 := Keeps.refl _
  unfold execSdoRequest
  repeat' first
    | with_reducible assumption
    | intro _
    | with_reducible apply Keeps.accepted
    | with_reducible apply KeepsR.next
    | with_reducible apply KeepsR.ite
    | (extract_lets +onlyGivenNames x; clear_value x)
    | with_reducible apply Keeps.step (keeps_State_modCan _ _ _)
    | with_reducible apply Keeps.step (keeps_State_renew _ _ _)
    | with_reducible apply Keeps.step (keeps_State_respond _ _ _ _ _)
    | with_reducible apply Keeps.step (keeps_sdoAbort _ _ _ _)
    | with_reducible apply Keeps.step (keeps_sdoNext _ _ _ _ _ _ _)
    | with_reducible apply Keeps.step (keeps_sdoRead _ _ _)
    | with_reducible apply Keeps.step (keeps_writeRequest _ _ _ _ _)
    | with_reducible apply Keeps.ite
    | with_reducible apply Keeps.iteP
    | with_reducible apply Keeps.answer
    | with_reducible apply Keeps.answerRead
    | with_reducible decide
    | with_reducible refine Keeps.of_eq (by assumption) ?_
    | split

theorem keeps_execSdoTimeout : ∀ a0 a1, KeepsR 0x140238000000000000000000000000000000000000000000000000000000000000000000000000000000000000000000000000000000009000000000000000000000000000000000000040 a1 (execSdoTimeout a0 a1) := by
  intro a0 a1
  have h0 : Keeps 0x140238000000000000000000000000000000000000000000000000000000000000000000000000000000000000000000000000000000009000000000000000000000000000000000000040 a1 a1 := Keeps.refl _
  unfold execSdoTimeout
  repeat' first
    | with_reducible assumption
    | intro _
    | with_reducible apply Keeps.accepted
    | with_reducible apply KeepsR.next
    | with_reducible apply KeepsR.ite
    | with_reducible apply Keeps.step (keeps_sdoAbort _ _ _ _)
    | with_reducible apply Keeps.ite
    | with_reducible apply Keeps.iteP
    | with_reducible apply Keeps.answer
    | with_reducible apply Keeps.answerRead
    | with_reducible decide
    | with_reducible refine Keeps.of_eq (by assumption) ?_
    | split

theorem keeps_applyRpdo : ∀ a0 a1 a2 a3, Keeps 0xcc87d403fbfbbfb9881736fb1007f60824f7d4f4c10efbff77c0f0009df9ee8007ccfdffffcb37ff30ffe7c03ffffffffffffffffffffffffffffffffffffffffffffffffffffffffffffff5fc a3 (applyRpdo a0 a1 a2 a3) := by
  intro a0 a1 a2 a3
  have h0 : Keeps 0xcc87d403fbfbbfb9881736fb1007f60824f7d4f4c10efbff77c0f0009df9ee8007ccfdffffcb37ff30ffe7c03ffffffffffffffffffffffffffffffffffffffffffffffffffffffffffffff5fc a3 a3 := Keeps.refl _
  unfold applyRpdo
  repeat' first
    | with_reducible assumption
    | intro _
    | (extract_lets +onlyGivenNames x; refine Keeps.cutP x ?_ (fun hx => ?_); (revert x; show Keeps _ _ _); on_goal 2 => clear_value x)
    | (extract_lets +onlyGivenNames x; clear_value x)
    | with_reducible apply Keeps.bump .NET_ABORTS group_NET_ABORTS
    | with_reducible apply Keeps.step (keeps_State_logOnce _ _ _ _)
    | with_reducible apply Keeps.step (keeps_State_renew _ _ _)
    | with_reducible apply Keeps.step (keeps_writeRequest _ _ _ _ _)
    | with_reducible apply Keeps.foldl
    | with_reducible apply Keeps.foldlP
    | with_reducible apply Keeps.answer
    | with_reducible apply Keeps.answerRead
    | with_reducible decide
    | with_reducible refine Keeps.of_eq (by assumption) ?_
    | split

theorem keeps_execRpdoReceived : ∀ a0 a1 a2, KeepsR 0xcc87d443fbfbbfb9881736fb1007f60824f7d4f4c10efbff77c0f0009df9ee8007ccfdffffcb37ff30ffe7c03ffffffffffffffffffffffffffffffffffffffffffffffffffffffffffffff5fc a2 (execRpdoReceived a0 a1 a2) := by
  intro a0 a1 a2
  have h0 : Keeps 0xcc87d443fbfbbfb9881736fb1007f60824f7d4f4c10efbff77c0f0009df9ee8007ccfdffffcb37ff30ffe7c03ffffffffffffffffffffffffffffffffffffffffffffffffffffffffffffff5fc a2 a2 := Keeps.refl _
  unfold execRpdoReceived
  repeat' first
    | with_reducible assumption
    | ((with_reducible refine NetField.upd_of ?_); intro i x hi; cases i <;> first | exact Keeps.no rfl hi | exact rfl | (split <;> rfl) | ((repeat' split) <;> rfl))
    | intro _
    | with_reducible apply Keeps.accepted
    | with_reducible apply KeepsR.next
    | with_reducible apply KeepsR.ite
    | with_reducible refine Keeps.modNet ?_ ?_
    | with_reducible apply Keeps.step (keeps_applyRpdo _ _ _ _)
    | with_reducible apply Keeps.ite
    | with_reducible apply Keeps.iteP
    | with_reducible apply Keeps.answer
    | with_reducible apply Keeps.answerRead
    | with_reducible decide
    | with_reducible refine Keeps.of_eq (by assumption) ?_
    | split

theorem keeps_sendTpdo : ∀ a0 a1 a2, Keeps 0x3800000000000000000000000000000000800010000000000000000000000000000000000000000000000000000000000000000000000000000000020800000000000000000000000040 a2 (sendTpdo a0 a1 a2) := by
  intro a0 a1 a2
  have h0 : Keeps 0x3800000000000000000000000000000000800010000000000000000000000000000000000000000000000000000000000000000000000000000000020800000000000000000000000040 a2 a2 := Keeps.refl _
  unfold sendTpdo
  repeat' first
    | with_reducible assumption
    | ((with_reducible refine NetField.upd_of ?_); intro i x hi; cases i <;> first | exact Keeps.no rfl hi | exact rfl | (split <;> rfl) | ((repeat' split) <;> rfl))
    | intro _
    | (extract_lets +onlyGivenNames x; clear_value x)
    | with_reducible refine Keeps.modNet ?_ ?_
    | with_reducible apply Keeps.step (keeps_State_send _ _ _ _)
    | with_reducible apply Keeps.answer
    | with_reducible apply Keeps.answerRead
    | with_reducible decide

theorem keeps_execTpdoTransmit : ∀ a0 a1, KeepsR 0x3800000000000000000000000000000000800010000000000000000000000000000000000000000000000000000000000000000000000000000000020800000000000000000000000040 a1 (execTpdoTransmit a0 a1) := by
  intro a0 a1
  have h0 : Keeps 0x3800000000000000000000000000000000800010000000000000000000000000000000000000000000000000000000000000000000000000000000020800000000000000000000000040 a1 a1 := Keeps.refl _
  unfold execTpdoTransmit
  repeat' first
    | with_reducible assumption
    | intro _
    | with_reducible apply Keeps.accepted
    | with_reducible apply KeepsR.next
    | with_reducible apply KeepsR.ite
    | (extract_lets +onlyGivenNames x; clear_value x)
    | with_reducible apply Keeps.step (keeps_sendTpdo _ _ _)
    | with_reducible apply Keeps.ite
    | with_reducible apply Keeps.iteP
    | with_reducible apply Keeps.answer
    | with_reducible apply Keeps.answerRead
    | with_reducible decide
    | with_reducible refine Keeps.of_eq (by assumption) ?_
    | split

theorem keeps_syncPdo : ∀ a0 a1 a2, Keeps 0xcc87d47bfbfbbfb9881736fb1007f60824f7d4f4c10efbff77c0f0009df9ee8007ccfdffffcb37ff30ffe7c03ffffffffffffffffffffffffffffffffffffffffffffffffffffffffffffff5fc a1 (syncPdo a0 a1 a2) := by
  intro a0 a1 a2
  have h0 : Keeps 0xcc87d47bfbfbbfb9881736fb1007f60824f7d4f4c10efbff77c0f0009df9ee8007ccfdffffcb37ff30ffe7c03ffffffffffffffffffffffffffffffffffffffffffffffffffffffffffffff5fc a1 a1 := Keeps.refl _
  unfold syncPdo
  repeat' first
    | with_reducible assumption
    | ((with_reducible refine NetField.upd_of ?_); intro i x hi; cases i <;> first | exact Keeps.no rfl hi | exact rfl | (split <;> rfl) | ((repeat' split) <;> rfl))
    | intro _
    | (extract_lets +onlyGivenNames x; refine Keeps.cut x ?_ (fun hx => ?_); (revert x; show Keeps _ _ _); on_goal 2 => clear_value x)
    | (extract_lets +onlyGivenNames x; clear_value x)
    | with_reducible refine Keeps.modNet ?_ ?_
    | with_reducible apply Keeps.step (keeps_applyRpdo _ _ _ _)
    | with_reducible apply Keeps.step (keeps_sendTpdo _ _ _)
    | with_reducible apply Keeps.ite
    | with_reducible apply Keeps.iteP
    | with_reducible apply Keeps.answer
    | with_reducible apply Keeps.answerRead
    | with_reducible decide
    | with_reducible refine Keeps.of_eq (by assumption) ?_
    | split

theorem keeps_execCanSyncReceived : ∀ a0 a1, KeepsR 0xcc87d47bfbfbbfb9881736fb1007f60824f7d4f4c10efbff77c0f0009df9ee8007ccfdffffcb37ff30ffe7c03ffffffffffffffffffffffffffffffffffffffffffffffffffffffffffffff5fc a1 (execCanSyncReceived a0 a1) := by
  intro a0 a1
  have h0 : Keeps 0xcc87d47bfbfbbfb9881736fb1007f60824f7d4f4c10efbff77c0f0009df9ee8007ccfdffffcb37ff30ffe7c03ffffffffffffffffffffffffffffffffffffffffffffffffffffffffffffff5fc a1 a1 := Keeps.refl _
  unfold execCanSyncReceived
  repeat' first
    | with_reducible assumption
    | intro _
    | with_reducible apply Keeps.accepted
    | with_reducible apply KeepsR.next
    | with_reducible apply KeepsR.ite
    | with_reducible apply Keeps.step (keeps_syncPdo _ _ _)
    | with_reducible apply Keeps.foldl
    | with_reducible apply Keeps.foldlP
    | with_reducible apply Keeps.ite
    | with_reducible apply Keeps.iteP
    | with_reducible apply Keeps.answer
    | with_reducible apply Keeps.answerRead
    | with_reducible decide
    | split

theorem keeps_execHeartbeatProduce : ∀ a0 a1, KeepsR 0x200000000000000000000000000000000000000000000000000000000000000000000000000000000000000000000000000000000000000000000000000000000000000000000000040 a1 (execHeartbeatProduce a0 a1) := by
  intro a0 a1
  have h0 : Keeps 0x200000000000000000000000000000000000000000000000000000000000000000000000000000000000000000000000000000000000000000000000000000000000000000000000040 a1 a1 := Keeps.refl _
  unfold execHeartbeatProduce
  repeat' first
    | with_reducible assumption
    | intro _
    | with_reducible apply Keeps.accepted
    | with_reducible apply KeepsR.next
    | with_reducible apply KeepsR.ite
    | (extract_lets +onlyGivenNames x; clear_value x)
    | with_reducible apply Keeps.step (keeps_State_modCan _ _ _)
    | with_reducible apply Keeps.step (keeps_State_send _ _ _ _)
    | with_reducible apply Keeps.ite
    | with_reducible apply Keeps.iteP
    | with_reducible apply Keeps.answer
    | with_reducible apply Keeps.answerRead
    | with_reducible decide
    | split

theorem keeps_execHeartbeatReceived : ∀ a0 a1 a2, KeepsR 0x400000000000000000000000000000000000000000000000000000000000000000000000000000000000000000000000000000000000000000000000000000000000000000000000000 a2 (execHeartbeatReceived a0 a1 a2) := by
  intro a0 a1 a2
  have h0 : Keeps 0x400000000000000000000000000000000000000000000000000000000000000000000000000000000000000000000000000000000000000000000000000000000000000000000000000 a2 a2 := Keeps.refl _
  unfold execHeartbeatReceived
  repeat' first
    | with_reducible assumption
    | ((with_reducible refine NetField.upd_of ?_); intro i x hi; cases i <;> first | exact Keeps.no rfl hi | exact rfl | (split <;> rfl) | ((repeat' split) <;> rfl))
    | intro _
    | with_reducible apply Keeps.accepted
    | with_reducible apply KeepsR.next
    | with_reducible apply KeepsR.ite
    | with_reducible refine Keeps.modNet ?_ ?_
    | with_reducible apply Keeps.ite
    | with_reducible apply Keeps.iteP
    | with_reducible apply Keeps.answer
    | with_reducible apply Keeps.answerRead
    | with_reducible decide
    | split

theorem keeps_execHeartbeatConsumerTimeout : ∀ a0 a1, KeepsR 0x400000000000000000000000000000000000000000000000000000000000000000000000000000000000000000000000000000004000000000000000000000000000008000000000100 a1 (execHeartbeatConsumerTimeout a0 a1) := by
  intro a0 a1
  have h0 : Keeps 0x400000000000000000000000000000000000000000000000000000000000000000000000000000000000000000000000000000004000000000000000000000000000008000000000100 a1 a1 := Keeps.refl _
  unfold execHeartbeatConsumerTimeout
  repeat' first
    | with_reducible assumption
    | ((with_reducible refine NetField.upd_of ?_); intro i x hi; cases i <;> first | exact Keeps.no rfl hi | exact rfl | (split <;> rfl) | ((repeat' split) <;> rfl))
    | intro _
    | with_reducible apply Keeps.accepted
    | with_reducible apply KeepsR.next
    | with_reducible apply KeepsR.ite
    | with_reducible apply Keeps.step (keeps_State_log _ _ _)
    | with_reducible refine Keeps.modNet ?_ ?_
    | with_reducible apply Keeps.on
    | with_reducible apply Keeps.setBit .CIA_ERROR_REGISTER group_CIA_ERROR_REGISTER
    | with_reducible apply Keeps.ite
    | with_reducible apply Keeps.iteP
    | with_reducible apply Keeps.answer
    | with_reducible apply Keeps.answerRead
    | with_reducible decide
    | with_reducible refine Keeps.of_eq (by assumption) ?_
    | split

theorem keeps_execCanBusOff : ∀ a0 a1, KeepsR 0x2000000000000000000000000000000000000000000000000000000000000000000000000000000000000000000000000000000040a2000000000000000000000000000000000000100 a1 (execCanBusOff a0 a1) := by
  intro a0 a1
  have h0 : Keeps 0x2000000000000000000000000000000000000000000000000000000000000000000000000000000000000000000000000000000040a2000000000000000000000000000000000000100 a1 a1 := Keeps.refl _
  unfold execCanBusOff
  repeat' first
    | with_reducible assumption
    | intro _
    | with_reducible apply Keeps.accepted
    | with_reducible apply KeepsR.next
    | with_reducible apply KeepsR.ite
    | (extract_lets +onlyGivenNames x; refine Keeps.cut x ?_ (fun hx => ?_); (revert x; show Keeps _ _ _); on_goal 2 => clear_value x)
    | (extract_lets +onlyGivenNames x; clear_value x)
    | with_reducible apply Keeps.step (keeps_State_log _ _ _)
    | with_reducible apply Keeps.step (keeps_State_modCan _ _ _)
    | with_reducible apply Keeps.setN .NET_CAN_STATE (group_NET_CAN_STATE _ (by first | omega | (simp only [List.mem_range, List.mem_cons, List.not_mem_nil, or_false] at *; omega)))
    | with_reducible apply Keeps.step (keeps_ownerEnds _ _)
    | with_reducible apply Keeps.ite
    | with_reducible apply Keeps.iteP
    | with_reducible apply Keeps.answer
    | with_reducible apply Keeps.answerRead
    | with_reducible decide
    | split

theorem keeps_execCanBusOffRecovery : ∀ a0 a1, KeepsR 0x200000000000000000000000000000000000000000000000000000000000000000000000000000000000000000000000000000004082000000000000000000000000000000000000140 a1 (execCanBusOffRecovery a0 a1) := by
  intro a0 a1
  have h0 : Keeps 0x200000000000000000000000000000000000000000000000000000000000000000000000000000000000000000000000000000004082000000000000000000000000000000000000140 a1 a1 := Keeps.refl _
  unfold execCanBusOffRecovery
  repeat' first
    | with_reducible assumption
    | intro _
    | with_reducible apply Keeps.accepted
    | with_reducible apply KeepsR.next
    | with_reducible apply KeepsR.ite
    | (extract_lets +onlyGivenNames x; refine Keeps.cut x ?_ (fun hx => ?_); (revert x; show Keeps _ _ _); on_goal 2 => clear_value x)
    | (extract_lets +onlyGivenNames x; clear_value x)
    | with_reducible apply Keeps.step (keeps_State_log _ _ _)
    | with_reducible apply Keeps.step (keeps_State_modCan _ _ _)
    | with_reducible apply Keeps.setN .NET_CAN_STATE (group_NET_CAN_STATE _ (by first | omega | (simp only [List.mem_range, List.mem_cons, List.not_mem_nil, or_false] at *; omega)))
    | with_reducible apply Keeps.step (keeps_bootUp _ _)
    | with_reducible apply Keeps.ite
    | with_reducible apply Keeps.iteP
    | with_reducible apply Keeps.answer
    | with_reducible apply Keeps.answerRead
    | with_reducible decide
    | split

theorem keeps_State_modSession : ∀ a0 a1 a2, Keeps 0x10000000000000000000000000000000000000000000000000000000000000000000000000000000000000000000000000000000000000000000000000000000000000000000000000 a0 (State.modSession a0 a1 a2) := by
  intro a0 a1 a2
  have h0 : Keeps 0x10000000000000000000000000000000000000000000000000000000000000000000000000000000000000000000000000000000000000000000000000000000000000000000000000 a0 a0 := Keeps.refl _
  unfold State.modSession
  repeat' first
    | with_reducible assumption
    | ((with_reducible refine NetField.upd_of ?_); intro i x hi; cases i <;> first | exact Keeps.no rfl hi | exact rfl | (split <;> rfl) | ((repeat' split) <;> rfl))
    | intro _
    | with_reducible refine Keeps.modNet ?_ ?_
    | with_reducible apply Keeps.ite
    | with_reducible apply Keeps.iteP
    | with_reducible apply Keeps.answer
    | with_reducible apply Keeps.answerRead
    | with_reducible decide
    | split

theorem keeps_svcAbort : ∀ a0 a1 a2 a3, Keeps 0x140010000000000000000000000000000000000000000000000000000000000000000000000000000000000000000000000000000000009000000000000000000000000000000000000040 a3 (svcAbort a0 a1 a2 a3) := by
  intro a0 a1 a2 a3
  have h0 : Keeps 0x140010000000000000000000000000000000000000000000000000000000000000000000000000000000000000000000000000000000009000000000000000000000000000000000000040 a3 a3 := Keeps.refl _
  unfold svcAbort
  repeat' first
    | with_reducible assumption
    | intro _
    | with_reducible apply Keeps.step (keeps_State_noteAbort _ _ _ _)
    | with_reducible apply Keeps.step (keeps_State_respond _ _ _ _ _)
    | with_reducible apply Keeps.answer
    | with_reducible apply Keeps.answerRead
    | with_reducible decide

theorem keeps_execSvcOpen : ∀ a0 a1 a2, KeepsR 0x140010000000000000000000000000000000000000000000000000000000000000000000000000000000000000000000000000000004049000000000000000000000000000000000000140 a2 (execSvcOpen a0 a1 a2) := by
  intro a0 a1 a2
  have h0 : Keeps 0x140010000000000000000000000000000000000000000000000000000000000000000000000000000000000000000000000000000004049000000000000000000000000000000000000140 a2 a2 := Keeps.refl _
  unfold execSvcOpen
  repeat' first
    | with_reducible assumption
    | ((with_reducible refine NetField.upd_of ?_); intro i x hi; cases i <;> first | exact Keeps.no rfl hi | exact rfl | (split <;> rfl) | ((repeat' split) <;> rfl))
    | intro _
    | with_reducible apply Keeps.accepted
    | with_reducible apply KeepsR.next
    | with_reducible apply KeepsR.ite
    | (extract_lets +onlyGivenNames x; refine Keeps.cut x ?_ (fun hx => ?_); (revert x; show Keeps _ _ _); on_goal 2 => clear_value x)
    | (extract_lets +onlyGivenNames x; clear_value x)
    | with_reducible apply Keeps.step (keeps_State_log _ _ _)
    | with_reducible refine Keeps.modNet ?_ ?_
    | with_reducible apply Keeps.step (keeps_State_respond _ _ _ _ _)
    | with_reducible apply Keeps.setN .NET_SESSIONS group_NET_SESSIONS
    | with_reducible apply Keeps.step (keeps_svcAbort _ _ _ _)
    | with_reducible apply Keeps.ite
    | with_reducible apply Keeps.iteP
    | with_reducible apply Keeps.answer
    | with_reducible apply Keeps.answerRead
    | with_reducible decide
    | with_reducible refine Keeps.of_eq (by assumption) ?_
    | split

theorem Keeps.svcRequest {F : Nat} {s0 s : State} {d : SvcHead} {f : SessionSt → State → State}
    (e : 0x140010000000000000000000000000000000000000000000000000000000000000000000000000000000000000000000000000000000009000000000000000000000000000000000000040 &&& F = 0x140010000000000000000000000000000000000000000000000000000000000000000000000000000000000000000000000000000000009000000000000000000000000000000000000040) (hf : ∀ x t, Keeps F s0 t → Keeps F s0 (f x t)) (h : Keeps F s0 s) : Keeps F s0 (Machine.svcRequest d f s) := by
  have g : ∀ t i u, Keeps F t (State.modSession t i u) := fun t i u => ((keeps_State_modSession t i u).mono (by decide : _ &&& 0x140010000000000000000000000000000000000000000000000000000000000000000000000000000000000000000000000000000000009000000000000000000000000000000000000040 = _)).mono e
  have k : ∀ t p d l, Keeps F t (State.send t p d l) := fun t p d l => ((keeps_State_send t p d l).mono (by decide : _ &&& 0x140010000000000000000000000000000000000000000000000000000000000000000000000000000000000000000000000000000000009000000000000000000000000000000000000040 = _)).mono e
  have n : ∀ t p d l, Keeps F t (State.noteAbort t p d l) := fun t p d l => ((keeps_State_noteAbort t p d l).mono (by decide : _ &&& 0x140010000000000000000000000000000000000000000000000000000000000000000000000000000000000000000000000000000000009000000000000000000000000000000000000040 = _)).mono e
  have a : ∀ p d l t, Keeps F t (svcAbort p d l t) := fun p d l t => ((keeps_svcAbort p d l t).mono (by decide : _ &&& 0x140010000000000000000000000000000000000000000000000000000000000000000000000000000000000000000000000000000000009000000000000000000000000000000000000040 = _)).mono e
  unfold Machine.svcRequest
  split
  · exact h
  · split
    · exact h.trans (a _ _ _ _)
    · split
      · exact hf _ _ (h.trans (g _ _ _))
      · split
        · dsimp only
          split
          · exact h.trans (g _ _ _)
          · exact (h.trans (g _ _ _)).trans (k _ _ _ _)
        · exact (h.trans (n _ _ _ _)).trans (k _ _ _ _)

theorem keeps_execSvcClose : ∀ a0 a1, KeepsR 0x1400780000000000000000000000000000000000000000000000000000000000000000000000000000000000000000000000000000040e9000000000000000000000000000000000000140 a1 (execSvcClose a0 a1) := by
  intro a0 a1
  have h0 : Keeps 0x1400780000000000000000000000000000000000000000000000000000000000000000000000000000000000000000000000000000040e9000000000000000000000000000000000000140 a1 a1 := Keeps.refl _
  unfold execSvcClose
  repeat' first
    | with_reducible assumption
    | intro _
    | with_reducible apply Keeps.accepted
    | with_reducible apply KeepsR.next
    | with_reducible apply Keeps.step (keeps_State_reply _ _ _ _)
    | with_reducible apply Keeps.step (keeps_sessionEnds _ _ _)
    | with_reducible apply Keeps.svcRequest
    | with_reducible apply Keeps.answer
    | with_reducible apply Keeps.answerRead
    | with_reducible decide

theorem keeps_execSvcKeepalive : ∀ a0 a1, KeepsR 0x140038000000000000000000000000000000000000000000000000000000000000000000000000000000000000000000000000000000009000000000000000000000000000000000000040 a1 (execSvcKeepalive a0 a1) := by
  intro a0 a1
  have h0 : Keeps 0x140038000000000000000000000000000000000000000000000000000000000000000000000000000000000000000000000000000000009000000000000000000000000000000000000040 a1 a1 := Keeps.refl _
  unfold execSvcKeepalive
  repeat' first
    | with_reducible assumption
    | intro _
    | with_reducible apply Keeps.accepted
    | with_reducible apply KeepsR.next
    | with_reducible apply Keeps.step (keeps_State_reply _ _ _ _)
    | with_reducible apply Keeps.svcRequest
    | with_reducible apply Keeps.answer
    | with_reducible apply Keeps.answerRead
    | with_reducible decide

theorem keeps_execSvcRead : ∀ a0 a1 a2, KeepsR 0x1400780000000000000000000000000000008000100000000000000000000000000000000000000000000000000000000000000000000090000000000208000000000000000000000000c0 a2 (execSvcRead a0 a1 a2) := by
  intro a0 a1 a2
  have h0 : Keeps 0x1400780000000000000000000000000000008000100000000000000000000000000000000000000000000000000000000000000000000090000000000208000000000000000000000000c0 a2 a2 := Keeps.refl _
  unfold execSvcRead
  repeat' first
    | with_reducible assumption
    | intro _
    | with_reducible apply Keeps.accepted
    | with_reducible apply KeepsR.next
    | with_reducible apply Keeps.step (keeps_readRequest _ _ _)
    | with_reducible apply Keeps.svcRequest
    | with_reducible apply Keeps.answer
    | with_reducible apply Keeps.answerRead
    | with_reducible decide

theorem keeps_execSvcWrite : ∀ a0 a1 a2 a3, KeepsR 0xcc87d403fbfbbfb9881736fb1007f60824f7d4f4c10efbff77c0f0009df9ee8007ccfdffffcb37ff30ffe7c03ffffffffffffffffffffffffffffffffffffffffffffffffffffffffffffff5fc a3 (execSvcWrite a0 a1 a2 a3) := by
  intro a0 a1 a2 a3
  have h0 : Keeps 0xcc87d403fbfbbfb9881736fb1007f60824f7d4f4c10efbff77c0f0009df9ee8007ccfdffffcb37ff30ffe7c03ffffffffffffffffffffffffffffffffffffffffffffffffffffffffffffff5fc a3 a3 := Keeps.refl _
  unfold execSvcWrite
  repeat' first
    | with_reducible assumption
    | intro _
    | with_reducible apply Keeps.accepted
    | with_reducible apply KeepsR.next
    | with_reducible apply Keeps.svcRequest
    | with_reducible apply Keeps.step (keeps_writeRequest _ _ _ _ _)
    | with_reducible apply Keeps.answer
    | with_reducible apply Keeps.answerRead
    | with_reducible decide

theorem keeps_readSeg : ∀ a0 a1 a2 a3 a4, Keeps 0x1400780000000000000000000000000000008000100000000000000000000000000000000000000000000000000000000000000000000090000000000208000000000000000000000000c0 a4 (readSeg a0 a1 a2 a3 a4) := by
  intro a0 a1 a2 a3 a4
  have h0 : Keeps 0x1400780000000000000000000000000000008000100000000000000000000000000000000000000000000000000000000000000000000090000000000208000000000000000000000000c0 a4 a4 := Keeps.refl _
  unfold readSeg
  repeat' first
    | with_reducible assumption
    | intro _
    | (extract_lets +onlyGivenNames x; refine Keeps.cutP x ?_ (fun hx => ?_); (revert x; show Keeps _ _ _); on_goal 2 => clear_value x)
    | (extract_lets +onlyGivenNames x; clear_value x)
    | with_reducible apply Keeps.step (keeps_State_renew _ _ _)
    | with_reducible apply Keeps.step (keeps_State_reply _ _ _ _)
    | with_reducible apply Keeps.step (keeps_State_respond _ _ _ _ _)
    | with_reducible apply Keeps.step (keeps_readRequest _ _ _)
    | with_reducible apply Keeps.ite
    | with_reducible apply Keeps.iteP
    | with_reducible apply Keeps.answer
    | with_reducible apply Keeps.answerRead
    | with_reducible decide
    | with_reducible refine Keeps.of_eq (by assumption) ?_
    | split

/-- A footprint within a footprint within a footprint. -/
theorem within_trans {a b c : Nat} (h : a &&& b = a) (k : b &&& c = b) : a &&& c = a :=
  h ▸ (Nat.and_assoc a b c).trans (k.symm ▸ rfl)

theorem Keeps.writeSeg {F : Nat} {s0 s : State} {w : Writer} {part : Option (Nat × List Nat)} {keep : Option (Nat × List Nat) → State → State}
    {key offset : Nat} {bytes : List Nat} {last : Bool} {v : Val} (e : 0xcc87d403fbfbbfb9881736fb1007f60824f7d4f4c10efbff77c0f0009df9ee8007ccfdffffcb37ff30ffe7c03ffffffffffffffffffffffffffffffffffffffffffffffffffffffffffffff5fc &&& F = 0xcc87d403fbfbbfb9881736fb1007f60824f7d4f4c10efbff77c0f0009df9ee8007ccfdffffcb37ff30ffe7c03ffffffffffffffffffffffffffffffffffffffffffffffffffffffffffffff5fc) (hf : ∀ p t, Keeps F s0 t → Keeps F s0 (keep p t))
    (h : Keeps F s0 s) : Keeps F s0 (Machine.writeSeg w part keep key offset bytes last v s) := by
  have r : ∀ t k a, Keeps F t (State.reply t w k a) := fun t k a => ((keeps_State_reply t w k a).mono (by decide : _ &&& 0xcc87d403fbfbbfb9881736fb1007f60824f7d4f4c10efbff77c0f0009df9ee8007ccfdffffcb37ff30ffe7c03ffffffffffffffffffffffffffffffffffffffffffffffffffffffffffffff5fc = _)).mono e
  unfold Machine.writeSeg
  extract_lets have_ all
  split
  · exact h.trans (r _ _ _)
  · split
    · exact h.trans (r _ _ _)
    · split
      · exact Keeps.answer (within_trans (by decide : _ &&& 0xcc87d403fbfbbfb9881736fb1007f60824f7d4f4c10efbff77c0f0009df9ee8007ccfdffffcb37ff30ffe7c03ffffffffffffffffffffffffffffffffffffffffffffffffffffffffffffff5fc = _) e)
          ((hf none s h).trans (((keeps_writeRequest _ _ _ _ _).mono (by decide : _ &&& 0xcc87d403fbfbbfb9881736fb1007f60824f7d4f4c10efbff77c0f0009df9ee8007ccfdffffcb37ff30ffe7c03ffffffffffffffffffffffffffffffffffffffffffffffffffffffffffffff5fc = _)).mono e))
      · exact (hf _ s h).trans (r _ _ _)

theorem keeps_execSvcReadSeg : ∀ a0 a1 a2 a3, KeepsR 0x1400780000000000000000000000000000008000100000000000000000000000000000000000000000000000000000000000000000000090000000000208000000000000000000000000c0 a3 (execSvcReadSeg a0 a1 a2 a3) := by
  intro a0 a1 a2 a3
  have h0 : Keeps 0x1400780000000000000000000000000000008000100000000000000000000000000000000000000000000000000000000000000000000090000000000208000000000000000000000000c0 a3 a3 := Keeps.refl _
  unfold execSvcReadSeg
  repeat' first
    | with_reducible assumption
    | intro _
    | with_reducible apply Keeps.accepted
    | with_reducible apply KeepsR.next
    | with_reducible apply Keeps.step (keeps_readSeg _ _ _ _ _)
    | with_reducible apply Keeps.svcRequest
    | with_reducible apply Keeps.answer
    | with_reducible apply Keeps.answerRead
    | with_reducible decide

theorem keeps_execSvcWriteSeg : ∀ a0 a1 a2 a3 a4 a5 a6, KeepsR 0xcc87d403fbfbbfb9881736fb1007f60824f7d4f4c10efbff77c0f0009df9ee8007ccfdffffcb37ff30ffe7c03ffffffffffffffffffffffffffffffffffffffffffffffffffffffffffffff5fc a6 (execSvcWriteSeg a0 a1 a2 a3 a4 a5 a6) := by
  intro a0 a1 a2 a3 a4 a5 a6
  have h0 : Keeps 0xcc87d403fbfbbfb9881736fb1007f60824f7d4f4c10efbff77c0f0009df9ee8007ccfdffffcb37ff30ffe7c03ffffffffffffffffffffffffffffffffffffffffffffffffffffffffffffff5fc a6 a6 := Keeps.refl _
  unfold execSvcWriteSeg
  repeat' first
    | with_reducible assumption
    | intro _
    | with_reducible apply Keeps.accepted
    | with_reducible apply KeepsR.next
    | with_reducible apply Keeps.step (keeps_State_modSession _ _ _)
    | with_reducible apply Keeps.svcRequest
    | with_reducible apply Keeps.writeSeg
    | with_reducible apply Keeps.answer
    | with_reducible apply Keeps.answerRead
    | with_reducible decide

theorem keeps_execSvcSubscribe : ∀ a0 a1 a2 a3 a4, KeepsR 0x140038000000000000000000000000000000800010000000000000000000000000000000000000000000000000000000000000000000009000000000020800000000000000000000000040 a4 (execSvcSubscribe a0 a1 a2 a3 a4) := by
  intro a0 a1 a2 a3 a4
  have h0 : Keeps 0x140038000000000000000000000000000000800010000000000000000000000000000000000000000000000000000000000000000000009000000000020800000000000000000000000040 a4 a4 := Keeps.refl _
  unfold execSvcSubscribe
  repeat' first
    | with_reducible assumption
    | intro _
    | with_reducible apply Keeps.accepted
    | with_reducible apply KeepsR.next
    | with_reducible apply KeepsR.ite
    | (extract_lets +onlyGivenNames x; clear_value x)
    | with_reducible apply Keeps.step (keeps_State_modSession _ _ _)
    | with_reducible apply Keeps.step (keeps_State_reply _ _ _ _)
    | with_reducible apply Keeps.svcRequest
    | with_reducible apply Keeps.ite
    | with_reducible apply Keeps.iteP
    | with_reducible apply Keeps.answer
    | with_reducible apply Keeps.answerRead
    | with_reducible decide
    | with_reducible refine Keeps.of_eq (by assumption) ?_
    | split

theorem keeps_execSessionTimeout : ∀ a0 a1, KeepsR 0x700000000000000000000000000000000000000000000000000000000000000000000000000000000000000000000000000000040e0000000000000000000000000000000000000100 a1 (execSessionTimeout a0 a1) := by
  intro a0 a1
  have h0 : Keeps 0x700000000000000000000000000000000000000000000000000000000000000000000000000000000000000000000000000000040e0000000000000000000000000000000000000100 a1 a1 := Keeps.refl _
  unfold execSessionTimeout
  repeat' first
    | with_reducible assumption
    | intro _
    | with_reducible apply Keeps.accepted
    | with_reducible apply KeepsR.next
    | with_reducible apply KeepsR.ite
    | with_reducible apply Keeps.on
    | with_reducible apply Keeps.step (keeps_sessionEnds _ _ _)
    | with_reducible apply Keeps.ite
    | with_reducible apply Keeps.iteP
    | with_reducible apply Keeps.answer
    | with_reducible apply Keeps.answerRead
    | with_reducible decide
    | with_reducible refine Keeps.of_eq (by assumption) ?_
    | split

theorem keeps_execProcessSetSend : ∀ a0 a1 a2 a3, KeepsR 0x10000000000000000000000000000000800010000000000000000000000000000000000000000000000000000000000000000004010000000000020800000000000000000000000140 a3 (execProcessSetSend a0 a1 a2 a3) := by
  intro a0 a1 a2 a3
  have h0 : Keeps 0x10000000000000000000000000000000800010000000000000000000000000000000000000000000000000000000000000000004010000000000020800000000000000000000000140 a3 a3 := Keeps.refl _
  unfold execProcessSetSend
  repeat' first
    | with_reducible assumption
    | intro _
    | with_reducible apply Keeps.accepted
    | with_reducible apply KeepsR.next
    | with_reducible apply KeepsR.ite
    | (extract_lets +onlyGivenNames x; refine Keeps.cut x ?_ (fun hx => ?_); (revert x; show Keeps _ _ _); on_goal 2 => clear_value x)
    | (extract_lets +onlyGivenNames x; clear_value x)
    | with_reducible apply Keeps.bump .NET_LATE_TX group_NET_LATE_TX
    | with_reducible apply Keeps.step (keeps_State_logOnce _ _ _ _)
    | with_reducible apply Keeps.step (keeps_State_modSession _ _ _)
    | with_reducible apply Keeps.step (keeps_State_send _ _ _ _)
    | with_reducible apply Keeps.ite
    | with_reducible apply Keeps.iteP
    | with_reducible apply Keeps.answer
    | with_reducible apply Keeps.answerRead
    | with_reducible decide
    | with_reducible refine Keeps.of_eq (by assumption) ?_
    | split

theorem keeps_execSpiFrameReceived : ∀ a0 a1 a2 a3, KeepsR 0xcc87fc03fbfbbfb9881736fb1007f60824f7d4f4c10efbff77c0f0009df9ee8007ccfdffffcb37ff30ffe7c03ffffffffffffffffffffffffffffffffffffffffffffffffffffffffffffff5fc a3 (execSpiFrameReceived a0 a1 a2 a3) := by
  intro a0 a1 a2 a3
  have h0 : Keeps 0xcc87fc03fbfbbfb9881736fb1007f60824f7d4f4c10efbff77c0f0009df9ee8007ccfdffffcb37ff30ffe7c03ffffffffffffffffffffffffffffffffffffffffffffffffffffffffffffff5fc a3 a3 := Keeps.refl _
  unfold execSpiFrameReceived
  repeat' first
    | with_reducible assumption
    | ((with_reducible refine NetField.upd_of ?_); intro i x hi; cases i <;> first | exact Keeps.no rfl hi | exact rfl | (split <;> rfl) | ((repeat' split) <;> rfl))
    | intro _
    | with_reducible apply Keeps.accepted
    | with_reducible apply KeepsR.next
    | with_reducible apply KeepsR.ite
    | (extract_lets +onlyGivenNames x; refine Keeps.cut x ?_ (fun hx => ?_); (revert x; show Keeps _ _ _); on_goal 2 => clear_value x)
    | (extract_lets +onlyGivenNames x; clear_value x)
    | with_reducible refine Keeps.modNet ?_ ?_
    | with_reducible apply Keeps.step (keeps_State_noteAbort _ _ _ _)
    | with_reducible apply Keeps.on
    | with_reducible apply Keeps.step (keeps_State_reply _ _ _ _)
    | with_reducible apply Keeps.step (keeps_State_send _ _ _ _)
    | with_reducible apply Keeps.step (keeps_readRequest _ _ _)
    | with_reducible apply Keeps.step (keeps_readSeg _ _ _ _ _)
    | with_reducible apply Keeps.step (keeps_writeRequest _ _ _ _ _)
    | with_reducible apply Keeps.writeSeg
    | with_reducible apply Keeps.ite
    | with_reducible apply Keeps.iteP
    | with_reducible apply Keeps.answer
    | with_reducible apply Keeps.answerRead
    | with_reducible decide
    | with_reducible refine Keeps.of_eq (by assumption) ?_
    | split

theorem keeps_execSpiResponseRead : ∀ a0 a1, KeepsR 0x40000000000000000000000000000000000000000000000000000000000000000000000000000000000000000000000000000000000000000000000000000000000000000000000000040 a1 (execSpiResponseRead a0 a1) := by
  intro a0 a1
  have h0 : Keeps 0x40000000000000000000000000000000000000000000000000000000000000000000000000000000000000000000000000000000000000000000000000000000000000000000000000040 a1 a1 := Keeps.refl _
  unfold execSpiResponseRead
  repeat' first
    | with_reducible assumption
    | ((with_reducible refine NetField.upd_of ?_); intro i x hi; cases i <;> first | exact Keeps.no rfl hi | exact rfl | (split <;> rfl) | ((repeat' split) <;> rfl))
    | intro _
    | with_reducible apply Keeps.accepted
    | with_reducible apply KeepsR.next
    | with_reducible refine Keeps.modNet ?_ ?_
    | with_reducible apply Keeps.on
    | with_reducible apply Keeps.step (keeps_State_send _ _ _ _)
    | with_reducible apply Keeps.answer
    | with_reducible apply Keeps.answerRead
    | with_reducible decide
    | with_reducible refine Keeps.of_eq (by assumption) ?_
    | split

theorem keeps_execBypassOpen : ∀ a0, KeepsR 0x180700000000000000000000000000000000000000000000000000000000000000000000000000000000000000000000000000000040e0000000000000000000000000000000000000100 a0 (execBypassOpen a0) := by
  intro a0
  have h0 : Keeps 0x180700000000000000000000000000000000000000000000000000000000000000000000000000000000000000000000000000000040e0000000000000000000000000000000000000100 a0 a0 := Keeps.refl _
  unfold execBypassOpen
  repeat' first
    | with_reducible assumption
    | intro _
    | with_reducible apply Keeps.accepted
    | with_reducible apply KeepsR.next
    | with_reducible apply KeepsR.ite
    | with_reducible apply Keeps.on
    | with_reducible apply Keeps.step (keeps_setBypass _ _ _)
    | with_reducible apply Keeps.ite
    | with_reducible apply Keeps.iteP
    | with_reducible apply Keeps.answer
    | with_reducible apply Keeps.answerRead
    | with_reducible decide
    | split

theorem keeps_execEthLinkChange : ∀ a0 a1 a2 a3, KeepsR 0x80700000000000000000000000000000000000000000000000000000000000000000000000000000000000000000000000000000040e0000000000000000000000000000000000000100 a3 (execEthLinkChange a0 a1 a2 a3) := by
  intro a0 a1 a2 a3
  have h0 : Keeps 0x80700000000000000000000000000000000000000000000000000000000000000000000000000000000000000000000000000000040e0000000000000000000000000000000000000100 a3 a3 := Keeps.refl _
  unfold execEthLinkChange
  repeat' first
    | with_reducible assumption
    | intro _
    | with_reducible apply Keeps.accepted
    | with_reducible apply KeepsR.next
    | with_reducible apply KeepsR.ite
    | (extract_lets +onlyGivenNames x; clear_value x)
    | with_reducible apply Keeps.on
    | with_reducible apply Keeps.step (keeps_setLink _ _ _ _)
    | with_reducible apply Keeps.ite
    | with_reducible apply Keeps.iteP
    | with_reducible apply Keeps.answer
    | with_reducible apply Keeps.answerRead
    | with_reducible decide
    | split

theorem keeps_execArpRequest : ∀ a0 a1 a2, KeepsR 0x40 a2 (execArpRequest a0 a1 a2) := by
  intro a0 a1 a2
  have h0 : Keeps 0x40 a2 a2 := Keeps.refl _
  unfold execArpRequest
  repeat' first
    | with_reducible assumption
    | intro _
    | with_reducible apply Keeps.accepted
    | with_reducible apply KeepsR.next
    | with_reducible apply KeepsR.ite
    | with_reducible apply Keeps.step (keeps_State_send _ _ _ _)
    | with_reducible apply Keeps.ite
    | with_reducible apply Keeps.iteP
    | with_reducible apply Keeps.answer
    | with_reducible apply Keeps.answerRead
    | with_reducible decide
    | split

theorem keeps_execIcmpEchoRequest : ∀ a0 a1 a2, KeepsR 0x40 a2 (execIcmpEchoRequest a0 a1 a2) := by
  intro a0 a1 a2
  have h0 : Keeps 0x40 a2 a2 := Keeps.refl _
  unfold execIcmpEchoRequest
  repeat' first
    | with_reducible assumption
    | intro _
    | with_reducible apply Keeps.accepted
    | with_reducible apply KeepsR.next
    | with_reducible apply KeepsR.ite
    | with_reducible apply Keeps.step (keeps_State_send _ _ _ _)
    | with_reducible apply Keeps.ite
    | with_reducible apply Keeps.iteP
    | with_reducible apply Keeps.answer
    | with_reducible apply Keeps.answerRead
    | with_reducible decide
    | split

theorem keeps_execSwitchFrameForward : ∀ a0 a1, KeepsR 0x20000000000000000000000000000000000000000000000000000000000000000000000000000000000000000000000000000000000000000000000000000000000000000000000000040 a1 (execSwitchFrameForward a0 a1) := by
  intro a0 a1
  have h0 : Keeps 0x20000000000000000000000000000000000000000000000000000000000000000000000000000000000000000000000000000000000000000000000000000000000000000000000000040 a1 a1 := Keeps.refl _
  unfold execSwitchFrameForward
  repeat' first
    | with_reducible assumption
    | ((with_reducible refine NetField.upd_of ?_); intro i x hi; cases i <;> first | exact Keeps.no rfl hi | exact rfl | (split <;> rfl) | ((repeat' split) <;> rfl))
    | intro _
    | with_reducible apply Keeps.accepted
    | with_reducible apply KeepsR.next
    | with_reducible apply KeepsR.ite
    | (extract_lets +onlyGivenNames x; refine Keeps.cut x ?_ (fun hx => ?_); (revert x; show Keeps _ _ _); on_goal 2 => clear_value x)
    | (extract_lets +onlyGivenNames x; clear_value x)
    | with_reducible refine Keeps.modNet ?_ ?_
    | with_reducible apply Keeps.step (keeps_State_send _ _ _ _)
    | with_reducible apply Keeps.foldl
    | with_reducible apply Keeps.foldlP
    | with_reducible apply Keeps.ite
    | with_reducible apply Keeps.iteP
    | with_reducible apply Keeps.answer
    | with_reducible apply Keeps.answerRead
    | with_reducible decide
    | with_reducible refine Keeps.of_eq (by assumption) ?_
    | split

end Sys2Proof.Machine
end

