-- ==== Sys2Proof/Laws/KeepsLogicCycle.lean ====
section
/-!
SUPPORT. What each operation of Machine/LogicCycle.lean may change.
-/

set_option linter.unusedTactic false
set_option linter.tactic.unusedName false
set_option linter.unreachableTactic false

namespace Sys2Proof.Machine

theorem keeps_State_modImage : ∀ a0 a1, Keeps 0x20000000000000000000000000000000000000000000000000000000000000000000000000000000000000000000000000000000000000000000000000000000000000000000 a0 (State.modImage a0 a1) := by
  intro a0 a1
  have h0 : Keeps 0x20000000000000000000000000000000000000000000000000000000000000000000000000000000000000000000000000000000000000000000000000000000000000000000 a0 a0 := Keeps.refl _
  unfold State.modImage
  repeat' first
    | with_reducible assumption
    | ((with_reducible refine LgcField.upd_of ?_); intro i x hi; cases i <;> first | exact Keeps.no rfl hi | exact rfl | (split <;> rfl) | ((repeat' split) <;> rfl))
    | intro _
    | with_reducible refine Keeps.modLgc ?_ ?_
    | with_reducible apply Keeps.answer
    | with_reducible apply Keeps.answerRead
    | with_reducible decide

theorem keeps_State_modTag : ∀ a0 a1 a2, Keeps 0x20000000000000000000000000000000000000000000000000000000000000000000000000000000000000000000000000000000000000000000000000000000000000000000 a0 (State.modTag a0 a1 a2) := by
  intro a0 a1 a2
  have h0 : Keeps 0x20000000000000000000000000000000000000000000000000000000000000000000000000000000000000000000000000000000000000000000000000000000000000000000 a0 a0 := Keeps.refl _
  unfold State.modTag
  repeat' first
    | with_reducible assumption
    | intro _
    | with_reducible apply Keeps.step (keeps_State_modImage _ _)
    | with_reducible apply Keeps.ite
    | with_reducible apply Keeps.iteP
    | with_reducible apply Keeps.answer
    | with_reducible apply Keeps.answerRead
    | with_reducible decide
    | split

theorem keeps_exchange : ∀ a0, Keeps 0x68002f000000000000000000000000000000000000000000000000000000000000000000000000000000000000000000000004000014000000000000000000000000000000000100 a0 (exchange a0) := by
  intro a0
  have h0 : Keeps 0x68002f000000000000000000000000000000000000000000000000000000000000000000000000000000000000000000000004000014000000000000000000000000000000000100 a0 a0 := Keeps.refl _
  unfold exchange
  repeat' first
    | with_reducible assumption
    | ((with_reducible refine LgcField.upd_of ?_); intro i x hi; cases i <;> first | exact Keeps.no rfl hi | exact rfl | (split <;> rfl) | ((repeat' split) <;> rfl))
    | intro _
    | (extract_lets +onlyGivenNames x; refine Keeps.cut x ?_ (fun hx => ?_); (revert x; show Keeps _ _ _); on_goal 2 => clear_value x)
    | (extract_lets +onlyGivenNames x; clear_value x)
    | with_reducible apply Keeps.step (keeps_State_log _ _ _)
    | with_reducible refine Keeps.modLgc ?_ ?_
    | with_reducible apply Keeps.step (keeps_setStations _ _ _)
    | with_reducible apply Keeps.foldl
    | with_reducible apply Keeps.foldlP
    | with_reducible apply Keeps.answer
    | with_reducible apply Keeps.answerRead
    | with_reducible decide
    | with_reducible refine Keeps.of_eq (by assumption) ?_
    | split

theorem keeps_latch : ∀ a0, Keeps 0x600020000000000000000000000000800010000000000000000000000000000000000000000000000000000000000000000000000000000000020800000000000000000000000000 a0 (latch a0) := by
  intro a0
  have h0 : Keeps 0x600020000000000000000000000000800010000000000000000000000000000000000000000000000000000000000000000000000000000000020800000000000000000000000000 a0 a0 := Keeps.refl _
  unfold latch
  repeat' first
    | with_reducible assumption
    | ((with_reducible refine LgcField.upd_of ?_); intro i x hi; cases i <;> first | exact Keeps.no rfl hi | exact rfl | (split <;> rfl) | ((repeat' split) <;> rfl))
    | intro _
    | (extract_lets +onlyGivenNames x; refine Keeps.cut x ?_ (fun hx => ?_); (revert x; show Keeps _ _ _); on_goal 2 => clear_value x)
    | (extract_lets +onlyGivenNames x; clear_value x)
    | with_reducible apply Keeps.step (keeps_State_modImage _ _)
    | with_reducible refine Keeps.modLgc ?_ ?_
    | with_reducible apply Keeps.ite
    | with_reducible apply Keeps.iteP
    | with_reducible apply Keeps.answer
    | with_reducible apply Keeps.answerRead
    | with_reducible decide
    | split

theorem keeps_execute : ∀ a0 a1, Keeps 0x20000000000000000000000000000000000000000000000000000000000000000000000000000000000000000000000000000000000000000000000000000000000000000000 a1 (execute a0 a1) := by
  intro a0 a1
  have h0 : Keeps 0x20000000000000000000000000000000000000000000000000000000000000000000000000000000000000000000000000000000000000000000000000000000000000000000 a1 a1 := Keeps.refl _
  unfold execute
  repeat' first
    | with_reducible assumption
    | intro _
    | (extract_lets +onlyGivenNames x; clear_value x)
    | with_reducible apply Keeps.step (keeps_State_modImage _ _)
    | with_reducible apply Keeps.foldl
    | with_reducible apply Keeps.foldlP
    | with_reducible apply Keeps.ite
    | with_reducible apply Keeps.iteP
    | with_reducible apply Keeps.answer
    | with_reducible apply Keeps.answerRead
    | with_reducible decide
    | with_reducible refine Keeps.of_eq (by assumption) ?_
    | split

theorem keeps_pierOut : ∀ a0 a1 a2, Keeps 0x1000000e00000000000000000000000000000000000000000000000000000000000000000000000000000000000000000000000000000 a2 (pierOut a0 a1 a2) := by
  intro a0 a1 a2
  have h0 : Keeps 0x1000000e00000000000000000000000000000000000000000000000000000000000000000000000000000000000000000000000000000 a2 a2 := Keeps.refl _
  unfold pierOut
  repeat' first
    | with_reducible assumption
    | ((with_reducible refine PieField.upd_of ?_); intro i x hi; cases i <;> first | exact Keeps.no rfl hi | exact rfl | (split <;> rfl) | ((repeat' split) <;> rfl))
    | intro _
    | (extract_lets +onlyGivenNames x; clear_value x)
    | with_reducible refine Keeps.modPier ?_ ?_
    | with_reducible apply Keeps.ite
    | with_reducible apply Keeps.iteP
    | with_reducible apply Keeps.answer
    | with_reducible apply Keeps.answerRead
    | with_reducible decide
    | with_reducible refine Keeps.of_eq (by assumption) ?_
    | split

theorem keeps_objectOut : ∀ a0 a1, Keeps 0xcc87d403fbfbbfb9881736fb1007f60824f7d4f4c10efbff77c0f0009df9ee8007ccfdffffcb37ff30ffe7c03ffffffffffffffffffffffffffffffffffffffffffffffffffffffffffffff5fc a1 (objectOut a0 a1) := by
  intro a0 a1
  have h0 : Keeps 0xcc87d403fbfbbfb9881736fb1007f60824f7d4f4c10efbff77c0f0009df9ee8007ccfdffffcb37ff30ffe7c03ffffffffffffffffffffffffffffffffffffffffffffffffffffffffffffff5fc a1 a1 := Keeps.refl _
  unfold objectOut
  repeat' first
    | with_reducible assumption
    | intro _
    | (extract_lets +onlyGivenNames x; refine Keeps.cutP x ?_ (fun hx => ?_); (revert x; show Keeps _ _ _); on_goal 2 => clear_value x)
    | (extract_lets +onlyGivenNames x; clear_value x)
    | with_reducible apply Keeps.step (keeps_State_logOnce _ _ _ _)
    | with_reducible apply Keeps.step (keeps_State_modTag _ _ _)
    | with_reducible apply Keeps.step (keeps_writeRequest _ _ _ _ _)
    | with_reducible apply Keeps.answer
    | with_reducible apply Keeps.answerRead
    | with_reducible decide
    | with_reducible refine Keeps.of_eq (by assumption) ?_
    | split

theorem keeps_writeTag : ∀ a0 a1, Keeps 0xcc87d403fbfbbfb9881736fb1007f60824f7d4f4c10efbff77c0f0009df9ee8007ccfdffffcb37ff30ffe7c03ffffffffffffffffffffffffffffffffffffffffffffffffffffffffffffff5fc a0 (writeTag a0 a1) := by
  intro a0 a1
  have h0 : Keeps 0xcc87d403fbfbbfb9881736fb1007f60824f7d4f4c10efbff77c0f0009df9ee8007ccfdffffcb37ff30ffe7c03ffffffffffffffffffffffffffffffffffffffffffffffffffffffffffffff5fc a0 a0 := Keeps.refl _
  unfold writeTag
  repeat' first
    | with_reducible assumption
    | intro _
    | (extract_lets +onlyGivenNames x; clear_value x)
    | with_reducible apply Keeps.step (keeps_driverOut _ _ _ _)
    | with_reducible apply Keeps.step (keeps_fieldOut _ _ _ _)
    | with_reducible apply Keeps.step (keeps_objectOut _ _)
    | with_reducible apply Keeps.step (keeps_pierOut _ _ _)
    | with_reducible apply Keeps.answer
    | with_reducible apply Keeps.answerRead
    | with_reducible decide
    | with_reducible refine Keeps.of_eq (by assumption) ?_
    | split

theorem keeps_writeStation : ∀ a0 a1, Keeps 0x400000000000000000000000000000000000000000000000000000000000000000000000000000000000000000000000000004000010000000000000000000000000000000000140 a0 (writeStation a0 a1) := by
  intro a0 a1
  have h0 : Keeps 0x400000000000000000000000000000000000000000000000000000000000000000000000000000000000000000000000000004000010000000000000000000000000000000000140 a0 a0 := Keeps.refl _
  unfold writeStation
  repeat' first
    | with_reducible assumption
    | intro _
    | (extract_lets +onlyGivenNames x; refine Keeps.cut x ?_ (fun hx => ?_); (revert x; show Keeps _ _ _); on_goal 2 => clear_value x)
    | (extract_lets +onlyGivenNames x; clear_value x)
    | with_reducible apply Keeps.step (keeps_State_log _ _ _)
    | with_reducible apply Keeps.step (keeps_State_modStn _ _ _)
    | with_reducible apply Keeps.step (keeps_State_send _ _ _ _)
    | with_reducible apply Keeps.setN .LGC_STN_STATE (group_LGC_STN_STATE _)
    | with_reducible apply Keeps.ite
    | with_reducible apply Keeps.iteP
    | with_reducible apply Keeps.answer
    | with_reducible apply Keeps.answerRead
    | with_reducible decide
    | split

theorem keeps_writeOutputs : ∀ a0, Keeps 0xcc87d403fbfbbfb9881736fb1007f60824f7d4f4c10efbff77c0f0009df9ee8007ccfdffffcb37ff30ffe7c03ffffffffffffffffffffffffffffffffffffffffffffffffffffffffffffff5fc a0 (writeOutputs a0) := by
  intro a0
  have h0 : Keeps 0xcc87d403fbfbbfb9881736fb1007f60824f7d4f4c10efbff77c0f0009df9ee8007ccfdffffcb37ff30ffe7c03ffffffffffffffffffffffffffffffffffffffffffffffffffffffffffffff5fc a0 a0 := Keeps.refl _
  unfold writeOutputs
  repeat' first
    | with_reducible assumption
    | intro _
    | with_reducible apply Keeps.step (keeps_writeStation _ _)
    | with_reducible apply Keeps.step (keeps_writeTag _ _)
    | with_reducible apply Keeps.foldl
    | with_reducible apply Keeps.foldlP
    | with_reducible apply Keeps.ite
    | with_reducible apply Keeps.iteP
    | with_reducible apply Keeps.answer
    | with_reducible apply Keeps.answerRead
    | with_reducible decide
    | split

theorem keeps_journal : ∀ a0 a1 a2, Keeps 0x40000000007c000000000000000000000000000000000000000000000000000000000000000000000000000000000000000000000000d200021f00000000000000000000000000000000100 a2 (journal a0 a1 a2) := by
  intro a0 a1 a2
  have h0 : Keeps 0x40000000007c000000000000000000000000000000000000000000000000000000000000000000000000000000000000000000000000d200021f00000000000000000000000000000000100 a2 a2 := Keeps.refl _
  unfold journal
  repeat' first
    | with_reducible assumption
    | ((with_reducible refine LgcField.upd_of ?_); intro i x hi; cases i <;> first | exact Keeps.no rfl hi | exact rfl | (split <;> rfl) | ((repeat' split) <;> rfl))
    | intro _
    | (extract_lets +onlyGivenNames x; refine Keeps.cut x ?_ (fun hx => ?_); (revert x; show Keeps _ _ _); on_goal 2 => clear_value x)
    | (extract_lets +onlyGivenNames x; clear_value x)
    | extract_lets +onlyGivenNames x
    | with_reducible apply Keeps.bump .LGC_RETAIN_LAG group_LGC_RETAIN_LAG
    | with_reducible apply Keeps.step (keeps_State_log _ _ _)
    | with_reducible refine Keeps.modLgc ?_ ?_
    | with_reducible apply Keeps.setN .LGC_RETAIN_LAG group_LGC_RETAIN_LAG
    | with_reducible apply Keeps.setR .NVS_HOLD_V group_NVS_HOLD_V
    | with_reducible apply Keeps.step (keeps_deferStore _ _ _ _)
    | with_reducible apply Keeps.step (keeps_showLogic _)
    | with_reducible apply Keeps.step (keeps_undeferStore _ _)
    | with_reducible apply Keeps.ite
    | with_reducible apply Keeps.iteP
    | with_reducible apply Keeps.answer
    | with_reducible apply Keeps.answerRead
    | with_reducible decide
    | split

theorem keeps_takeLogicWrites : ∀ a0, Keeps 0x2000000000804001810000008007454848000730770c0f0009df86e8007ccfd9f0a4b33e7000007003ffffffffffffffffffffffffffffffffffffffffffffffffffffffffffffff1c4 a0 (takeLogicWrites a0) := by
  intro a0
  have h0 : Keeps 0x2000000000804001810000008007454848000730770c0f0009df86e8007ccfd9f0a4b33e7000007003ffffffffffffffffffffffffffffffffffffffffffffffffffffffffffffff1c4 a0 a0 := Keeps.refl _
  unfold takeLogicWrites
  repeat' first
    | with_reducible assumption
    | intro _
    | (extract_lets +onlyGivenNames x; clear_value x)
    | with_reducible apply Keeps.step (keeps_actNow _ _)
    | with_reducible apply Keeps.foldl
    | with_reducible apply Keeps.foldlP
    | with_reducible apply Keeps.answer
    | with_reducible apply Keeps.answerRead
    | with_reducible decide
    | with_reducible apply Keeps.upd_commitWrites

theorem keeps_takePeriod : ∀ a0, Keeps 0x60000000000000000000000000000000000000000000000000000000000000000000000000000000000000000000000000004000021b80000000000000000000000000000000100 a0 (takePeriod a0) := by
  intro a0
  have h0 : Keeps 0x60000000000000000000000000000000000000000000000000000000000000000000000000000000000000000000000000004000021b80000000000000000000000000000000100 a0 a0 := Keeps.refl _
  unfold takePeriod
  repeat' first
    | with_reducible assumption
    | ((with_reducible refine LgcField.upd_of ?_); intro i x hi; cases i <;> first | exact Keeps.no rfl hi | exact rfl | (split <;> rfl) | ((repeat' split) <;> rfl))
    | intro _
    | (extract_lets +onlyGivenNames x; refine Keeps.cut x ?_ (fun hx => ?_); (revert x; show Keeps _ _ _); on_goal 2 => clear_value x)
    | (extract_lets +onlyGivenNames x; clear_value x)
    | with_reducible apply Keeps.step (keeps_State_log _ _ _)
    | with_reducible refine Keeps.modLgc ?_ ?_
    | with_reducible apply Keeps.setN .LGC_PERIOD_IN_FORCE group_LGC_PERIOD_IN_FORCE
    | with_reducible apply Keeps.step (keeps_showLogic _)
    | with_reducible apply Keeps.ite
    | with_reducible apply Keeps.iteP
    | with_reducible apply Keeps.answer
    | with_reducible apply Keeps.answerRead
    | with_reducible decide
    | split

theorem keeps_cycleLimit : ∀ a0, Keeps 0x1827000000080040018100014c8007440008000f10070c0d00000006e8007cc1d9f0a4b33e70003170c3d00800000800100140200040e0601000100020981a0291303100e0000000001c0 a0 (cycleLimit a0) := by
  intro a0
  have h0 : Keeps 0x1827000000080040018100014c8007440008000f10070c0d00000006e8007cc1d9f0a4b33e70003170c3d00800000800100140200040e0601000100020981a0291303100e0000000001c0 a0 a0 := Keeps.refl _
  unfold cycleLimit
  repeat' first
    | with_reducible assumption
    | intro _
    | (extract_lets +onlyGivenNames x; clear_value x)
    | with_reducible apply Keeps.step (keeps_State_log _ _ _)
    | with_reducible apply Keeps.step (keeps_fence _ _)
    | with_reducible apply Keeps.ite
    | with_reducible apply Keeps.iteP
    | with_reducible apply Keeps.answer
    | with_reducible apply Keeps.answerRead
    | with_reducible decide
    | split

theorem keeps_skipBoundary : ∀ a0, Keeps 0x1827007080088040018100014c8007454848000f30770c0f0009df86e8007ccfd9f0a4b33e70003170c3ffffffffffffffffffffffffffffffffffffffffffffffffffffffffffffff1c4 a0 (skipBoundary a0) := by
  intro a0
  have h0 : Keeps 0x1827007080088040018100014c8007454848000f30770c0f0009df86e8007ccfd9f0a4b33e70003170c3ffffffffffffffffffffffffffffffffffffffffffffffffffffffffffffff1c4 a0 a0 := Keeps.refl _
  unfold skipBoundary
  repeat' first
    | with_reducible assumption
    | ((with_reducible refine LgcField.upd_of ?_); intro i x hi; cases i <;> first | exact Keeps.no rfl hi | exact rfl | (split <;> rfl) | ((repeat' split) <;> rfl))
    | intro _
    | (extract_lets +onlyGivenNames x; refine Keeps.cut x ?_ (fun hx => ?_); (revert x; show Keeps _ _ _); on_goal 2 => clear_value x)
    | (extract_lets +onlyGivenNames x; clear_value x)
    | with_reducible apply Keeps.bump .LGC_OVERRUN_COUNT group_LGC_OVERRUN_COUNT
    | with_reducible apply Keeps.step (keeps_State_log _ _ _)
    | with_reducible refine Keeps.modLgc ?_ ?_
    | with_reducible apply Keeps.setBit .LGC_STATUS group_LGC_STATUS
    | with_reducible apply Keeps.setN .LGC_OVERRUN_RUN group_LGC_OVERRUN_RUN
    | with_reducible apply Keeps.step (keeps_cycleLimit _)
    | with_reducible apply Keeps.step (keeps_takeLogicWrites _)
    | with_reducible apply Keeps.step (keeps_takePeriod _)
    | with_reducible apply Keeps.ite
    | with_reducible apply Keeps.iteP
    | with_reducible apply Keeps.answer
    | with_reducible apply Keeps.answerRead
    | with_reducible decide
    | split

theorem keeps_startInitial : ∀ a0, Keeps 0x100020000000000000000000000000000000000000000000000000000000000000000000000000000000000000000000000004000001000000000000000000000000000000000100 a0 (startInitial a0) := by
  intro a0
  have h0 : Keeps 0x100020000000000000000000000000000000000000000000000000000000000000000000000000000000000000000000000004000001000000000000000000000000000000000100 a0 a0 := Keeps.refl _
  unfold startInitial
  repeat' first
    | with_reducible assumption
    | ((with_reducible refine LgcField.upd_of ?_); intro i x hi; cases i <;> first | exact Keeps.no rfl hi | exact rfl | (split <;> rfl) | ((repeat' split) <;> rfl))
    | intro _
    | (extract_lets +onlyGivenNames x; refine Keeps.cut x ?_ (fun hx => ?_); (revert x; show Keeps _ _ _); on_goal 2 => clear_value x)
    | (extract_lets +onlyGivenNames x; clear_value x)
    | with_reducible apply Keeps.step (keeps_State_log _ _ _)
    | with_reducible refine Keeps.modLgc ?_ ?_
    | with_reducible apply Keeps.setBit .LGC_STATUS group_LGC_STATUS
    | with_reducible apply Keeps.answer
    | with_reducible apply Keeps.answerRead
    | with_reducible decide

theorem keeps_openCycle : ∀ a0, Keeps 0x78802f000000000000000000000000000000000000000000000000000000000000000000000000000000000000000000000004000015000000000000000000000000000000000100 a0 (openCycle a0) := by
  intro a0
  have h0 : Keeps 0x78802f000000000000000000000000000000000000000000000000000000000000000000000000000000000000000000000004000015000000000000000000000000000000000100 a0 a0 := Keeps.refl _
  unfold openCycle
  repeat' first
    | with_reducible assumption
    | ((with_reducible refine LgcField.upd_of ?_); intro i x hi; cases i <;> first | exact Keeps.no rfl hi | exact rfl | (split <;> rfl) | ((repeat' split) <;> rfl))
    | intro _
    | (extract_lets +onlyGivenNames x; refine Keeps.cut x ?_ (fun hx => ?_); (revert x; show Keeps _ _ _); on_goal 2 => clear_value x)
    | (extract_lets +onlyGivenNames x; clear_value x)
    | with_reducible apply Keeps.step (keeps_State_modImage _ _)
    | with_reducible refine Keeps.modLgc ?_ ?_
    | with_reducible apply Keeps.step (keeps_exchange _)
    | with_reducible apply Keeps.step (keeps_startInitial _)
    | with_reducible apply Keeps.ite
    | with_reducible apply Keeps.iteP
    | with_reducible apply Keeps.answer
    | with_reducible apply Keeps.answerRead
    | with_reducible decide
    | with_reducible refine Keeps.of_eq (by assumption) ?_
    | split

theorem keeps_closeCycle : ∀ a0 a1 a2, Keeps 0x501780000000000000000000000000000000000000000000000000000000000000000000000000000000000000000000000000400000101e000000000000000000000000000000100 a2 (closeCycle a0 a1 a2) := by
  intro a0 a1 a2
  have h0 : Keeps 0x501780000000000000000000000000000000000000000000000000000000000000000000000000000000000000000000000000400000101e000000000000000000000000000000100 a2 a2 := Keeps.refl _
  unfold closeCycle
  repeat' first
    | with_reducible assumption
    | ((with_reducible refine LgcField.upd_of ?_); intro i x hi; cases i <;> first | exact Keeps.no rfl hi | exact rfl | (split <;> rfl) | ((repeat' split) <;> rfl))
    | intro _
    | (extract_lets +onlyGivenNames x; refine Keeps.cut x ?_ (fun hx => ?_); (revert x; show Keeps _ _ _); on_goal 2 => clear_value x)
    | (extract_lets +onlyGivenNames x; clear_value x)
    | with_reducible apply Keeps.step (keeps_State_logOnce _ _ _ _)
    | with_reducible refine Keeps.modLgc ?_ ?_
    | with_reducible apply Keeps.setBit .LGC_STATUS group_LGC_STATUS
    | with_reducible apply Keeps.setN .LGC_CYCLE_COUNT group_LGC_CYCLE_COUNT
    | with_reducible apply Keeps.setN .LGC_LT group_LGC_LT
    | with_reducible apply Keeps.setN .LGC_MAX_BUSY group_LGC_MAX_BUSY
    | with_reducible apply Keeps.setR .LGC_LOAD group_LGC_LOAD
    | with_reducible apply Keeps.ite
    | with_reducible apply Keeps.iteP
    | with_reducible apply Keeps.answer
    | with_reducible apply Keeps.answerRead
    | with_reducible decide
    | split

theorem keeps_runCycle : ∀ a0 a1, Keeps 0xcc87d583ffffffff881736fb1007f6c824f7d4f4c10efbff77c0f0009df9ee8007ccfdffffcb37ff30fff7cc3ffffffffffffffffffffffffffffffffffffffffffffffffffffffffffffff5fc a1 (runCycle a0 a1) := by
  intro a0 a1
  have h0 : Keeps 0xcc87d583ffffffff881736fb1007f6c824f7d4f4c10efbff77c0f0009df9ee8007ccfdffffcb37ff30fff7cc3ffffffffffffffffffffffffffffffffffffffffffffffffffffffffffffff5fc a1 a1 := Keeps.refl _
  unfold runCycle
  repeat' first
    | with_reducible assumption
    | intro _
    | (extract_lets +onlyGivenNames x; refine Keeps.cut x ?_ (fun hx => ?_); (revert x; show Keeps _ _ _); on_goal 2 => clear_value x)
    | (extract_lets +onlyGivenNames x; clear_value x)
    | with_reducible apply Keeps.setBit .LGC_STATUS group_LGC_STATUS
    | with_reducible apply Keeps.setN .LGC_OVERRUN_RUN group_LGC_OVERRUN_RUN
    | with_reducible apply Keeps.step (keeps_closeCycle _ _ _)
    | with_reducible apply Keeps.step (keeps_cycleLimit _)
    | with_reducible apply Keeps.step (keeps_execute _ _)
    | with_reducible apply Keeps.step (keeps_journal _ _ _)
    | with_reducible apply Keeps.step (keeps_latch _)
    | with_reducible apply Keeps.step (keeps_linkSend _ _ _)
    | with_reducible apply Keeps.step (keeps_openCycle _)
    | with_reducible apply Keeps.step (keeps_showLogic _)
    | with_reducible apply Keeps.step (keeps_takeLogicWrites _)
    | with_reducible apply Keeps.step (keeps_takePeriod _)
    | with_reducible apply Keeps.step (keeps_writeOutputs _)
    | with_reducible apply Keeps.ite
    | with_reducible apply Keeps.iteP
    | with_reducible apply Keeps.answer
    | with_reducible apply Keeps.answerRead
    | with_reducible decide
    | split

end Sys2Proof.Machine
end

