-- ==== Sys2Proof/Laws/KeepsLogic.lean ====
section
/-!
SUPPORT. What each operation of Machine/Logic.lean may change.
-/

set_option linter.unusedTactic false
set_option linter.tactic.unusedName false
set_option linter.unreachableTactic false

namespace Sys2Proof.Machine

theorem keeps_execLogicCycleBoundary : ∀ a0 a1, KeepsR 0xcc87d583ffffffff881736fb1007f6c824f7d4f4c10efbff77c0f0009df9ee8007ccfdffffcb37ff30fff7cc3ffffffffffffffffffffffffffffffffffffffffffffffffffffffffffffff5fc a1 (execLogicCycleBoundary a0 a1) := by
  intro a0 a1
  have h0 : Keeps 0xcc87d583ffffffff881736fb1007f6c824f7d4f4c10efbff77c0f0009df9ee8007ccfdffffcb37ff30fff7cc3ffffffffffffffffffffffffffffffffffffffffffffffffffffffffffffff5fc a1 a1 := Keeps.refl _
  unfold execLogicCycleBoundary
  repeat' first
    | with_reducible assumption
    | intro _
    | with_reducible apply Keeps.accepted
    | with_reducible apply KeepsR.next
    | with_reducible apply KeepsR.ite
    | with_reducible apply Keeps.on
    | with_reducible apply Keeps.step (keeps_runCycle _ _)
    | with_reducible apply Keeps.step (keeps_skipBoundary _)
    | with_reducible apply Keeps.ite
    | with_reducible apply Keeps.iteP
    | with_reducible apply Keeps.answer
    | with_reducible apply Keeps.answerRead
    | with_reducible decide
    | split

theorem keeps_execLogicHangTimeout : ∀ a0, KeepsR 0x1827000000080040018100014c8007440008000f10070c0d00000006e8007cc1d9f0a4b33e70003170c3d00800000800100140200040e0601000100020981a0291303100e0000000001c0 a0 (execLogicHangTimeout a0) := by
  intro a0
  have h0 : Keeps 0x1827000000080040018100014c8007440008000f10070c0d00000006e8007cc1d9f0a4b33e70003170c3d00800000800100140200040e0601000100020981a0291303100e0000000001c0 a0 a0 := Keeps.refl _
  unfold execLogicHangTimeout
  repeat' first
    | with_reducible assumption
    | intro _
    | with_reducible apply Keeps.accepted
    | with_reducible apply KeepsR.next
    | with_reducible apply KeepsR.ite
    | with_reducible apply Keeps.step (keeps_State_log _ _ _)
    | with_reducible apply Keeps.on
    | with_reducible apply Keeps.step (keeps_fence _ _)
    | with_reducible apply Keeps.ite
    | with_reducible apply Keeps.iteP
    | with_reducible apply Keeps.answer
    | with_reducible apply Keeps.answerRead
    | with_reducible decide
    | split

theorem keeps_execHostTagWrite : ∀ a0 a1 a2 a3, KeepsR 0xcc87d403fbfbbfb9881736fb1007f60824f7d4f4c10efbff77c0f0009df9ee8007ccfdffffcb37ff30ffe7c03ffffffffffffffffffffffffffffffffffffffffffffffffffffffffffffff5fc a3 (execHostTagWrite a0 a1 a2 a3) := by
  intro a0 a1 a2 a3
  have h0 : Keeps 0xcc87d403fbfbbfb9881736fb1007f60824f7d4f4c10efbff77c0f0009df9ee8007ccfdffffcb37ff30ffe7c03ffffffffffffffffffffffffffffffffffffffffffffffffffffffffffffff5fc a3 a3 := Keeps.refl _
  unfold execHostTagWrite
  repeat' first
    | with_reducible assumption
    | intro _
    | with_reducible apply Keeps.accepted
    | with_reducible apply KeepsR.next
    | with_reducible apply Keeps.step (keeps_dictReq _ _ _ _ _)
    | with_reducible apply Keeps.answer
    | with_reducible apply Keeps.answerRead
    | with_reducible decide

theorem keeps_execTagPeek : ∀ a0 a1 a2, KeepsR 0xcc87d403fbfbbfb9881736fb1007f60824f7d4f4c10efbff77c0f0009df9ee8007ccfdffffcb37ff30ffe7c03ffffffffffffffffffffffffffffffffffffffffffffffffffffffffffffff5fc a2 (execTagPeek a0 a1 a2) := by
  intro a0 a1 a2
  have h0 : Keeps 0xcc87d403fbfbbfb9881736fb1007f60824f7d4f4c10efbff77c0f0009df9ee8007ccfdffffcb37ff30ffe7c03ffffffffffffffffffffffffffffffffffffffffffffffffffffffffffffff5fc a2 a2 := Keeps.refl _
  unfold execTagPeek
  repeat' first
    | with_reducible assumption
    | intro _
    | with_reducible apply Keeps.accepted
    | with_reducible apply KeepsR.next
    | with_reducible apply Keeps.step (keeps_dictReq _ _ _ _ _)
    | with_reducible apply Keeps.answer
    | with_reducible apply Keeps.answerRead
    | with_reducible decide

theorem keeps_execCyclePeriodWrite : ∀ a0 a1 a2, KeepsR 0xcc87d403fbfbbfb9881736fb1007f60824f7d4f4c10efbff77c0f0009df9ee8007ccfdffffcb37ff30ffe7c03ffffffffffffffffffffffffffffffffffffffffffffffffffffffffffffff5fc a2 (execCyclePeriodWrite a0 a1 a2) := by
  intro a0 a1 a2
  have h0 : Keeps 0xcc87d403fbfbbfb9881736fb1007f60824f7d4f4c10efbff77c0f0009df9ee8007ccfdffffcb37ff30ffe7c03ffffffffffffffffffffffffffffffffffffffffffffffffffffffffffffff5fc a2 a2 := Keeps.refl _
  unfold execCyclePeriodWrite
  repeat' first
    | with_reducible assumption
    | intro _
    | with_reducible apply Keeps.accepted
    | with_reducible apply KeepsR.next
    | with_reducible apply Keeps.step (keeps_dictReq _ _ _ _ _)
    | with_reducible apply Keeps.answer
    | with_reducible apply Keeps.answerRead
    | with_reducible decide

theorem keeps_execStationTelegramReceived : ∀ a0 a1 a2 a3, KeepsR 0x400000000000000000000000000000000000000000000000000000000000000000000000000000000000000000000000000004004018000000000000000000000000000000000100 a3 (execStationTelegramReceived a0 a1 a2 a3) := by
  intro a0 a1 a2 a3
  have h0 : Keeps 0x400000000000000000000000000000000000000000000000000000000000000000000000000000000000000000000000000004004018000000000000000000000000000000000100 a3 a3 := Keeps.refl _
  unfold execStationTelegramReceived
  repeat' first
    | with_reducible assumption
    | intro _
    | with_reducible apply Keeps.accepted
    | with_reducible apply KeepsR.next
    | with_reducible apply KeepsR.ite
    | (extract_lets +onlyGivenNames x; refine Keeps.cut x ?_ (fun hx => ?_); (revert x; show Keeps _ _ _); on_goal 2 => clear_value x)
    | (extract_lets +onlyGivenNames x; clear_value x)
    | with_reducible apply Keeps.bump .NET_DUP_DISCARDED group_NET_DUP_DISCARDED
    | with_reducible apply Keeps.step (keeps_State_logOnce _ _ _ _)
    | with_reducible apply Keeps.step (keeps_State_modStn _ _ _)
    | with_reducible apply Keeps.on
    | with_reducible apply Keeps.setN .LGC_STN_STATE (group_LGC_STN_STATE _)
    | with_reducible apply Keeps.setN .LGC_STN_LAST_RX (group_LGC_STN_LAST_RX _)
    | with_reducible apply Keeps.ite
    | with_reducible apply Keeps.iteP
    | with_reducible apply Keeps.answer
    | with_reducible apply Keeps.answerRead
    | with_reducible decide
    | split

theorem keeps_execStationDrop : ∀ a0 a1, KeepsR 0x400000000000000000000000000000000000000000000000000000000000000000000000000000000000000000000000000004000012000000000000000000000000000000000100 a1 (execStationDrop a0 a1) := by
  intro a0 a1
  have h0 : Keeps 0x400000000000000000000000000000000000000000000000000000000000000000000000000000000000000000000000000004000012000000000000000000000000000000000100 a1 a1 := Keeps.refl _
  unfold execStationDrop
  repeat' first
    | with_reducible assumption
    | intro _
    | with_reducible apply Keeps.accepted
    | with_reducible apply KeepsR.next
    | with_reducible apply KeepsR.ite
    | (extract_lets +onlyGivenNames x; refine Keeps.cut x ?_ (fun hx => ?_); (revert x; show Keeps _ _ _); on_goal 2 => clear_value x)
    | (extract_lets +onlyGivenNames x; clear_value x)
    | with_reducible apply Keeps.bump .LGC_STN_DROPS (group_LGC_STN_DROPS _)
    | with_reducible apply Keeps.step (keeps_State_log _ _ _)
    | with_reducible apply Keeps.step (keeps_State_modStn _ _ _)
    | with_reducible apply Keeps.on
    | with_reducible apply Keeps.setN .LGC_STN_STATE (group_LGC_STN_STATE _)
    | with_reducible apply Keeps.ite
    | with_reducible apply Keeps.iteP
    | with_reducible apply Keeps.answer
    | with_reducible apply Keeps.answerRead
    | with_reducible decide
    | split

theorem keeps_execProgramStageBlock : ∀ a0 a1 a2, KeepsR 0x140038200018000000000000000000000000000000000000000000000000000000000000000000000000000000000000000000000004009021b00000000000000000000000000000000140 a2 (execProgramStageBlock a0 a1 a2) := by
  intro a0 a1 a2
  have h0 : Keeps 0x140038200018000000000000000000000000000000000000000000000000000000000000000000000000000000000000000000000004009021b00000000000000000000000000000000140 a2 a2 := Keeps.refl _
  unfold execProgramStageBlock
  repeat' first
    | with_reducible assumption
    | intro _
    | with_reducible apply Keeps.accepted
    | with_reducible apply KeepsR.next
    | with_reducible apply KeepsR.ite
    | (extract_lets +onlyGivenNames x; refine Keeps.cutP x ?_ (fun hx => ?_); (revert x; show Keeps _ _ _); on_goal 2 => clear_value x)
    | (extract_lets +onlyGivenNames x; clear_value x)
    | with_reducible apply Keeps.step (keeps_State_forward _ _ _)
    | with_reducible apply Keeps.step (keeps_stageBlock _ _)
    | with_reducible apply Keeps.ite
    | with_reducible apply Keeps.iteP
    | with_reducible apply Keeps.answer
    | with_reducible apply Keeps.answerRead
    | with_reducible decide
    | with_reducible refine Keeps.of_eq (by assumption) ?_
    | split

theorem keeps_execProgramExchange : ∀ a0 a1, KeepsR 0xcc87d403fbfbbfb9881736fb1007f60824f7d4f4c10efbff77c0f0009df9ee8007ccfdffffcb37ff30ffe7c03ffffffffffffffffffffffffffffffffffffffffffffffffffffffffffffff5fc a1 (execProgramExchange a0 a1) := by
  intro a0 a1
  have h0 : Keeps 0xcc87d403fbfbbfb9881736fb1007f60824f7d4f4c10efbff77c0f0009df9ee8007ccfdffffcb37ff30ffe7c03ffffffffffffffffffffffffffffffffffffffffffffffffffffffffffffff5fc a1 a1 := Keeps.refl _
  unfold execProgramExchange
  repeat' first
    | with_reducible assumption
    | intro _
    | with_reducible apply Keeps.accepted
    | with_reducible apply KeepsR.next
    | with_reducible apply Keeps.step (keeps_dictReq _ _ _ _ _)
    | with_reducible apply Keeps.answer
    | with_reducible apply Keeps.answerRead
    | with_reducible decide

theorem keeps_execDiscardStaged : ∀ a0 a1, KeepsR 0xcc87d403fbfbbfb9881736fb1007f60824f7d4f4c10efbff77c0f0009df9ee8007ccfdffffcb37ff30ffe7c03ffffffffffffffffffffffffffffffffffffffffffffffffffffffffffffff5fc a1 (execDiscardStaged a0 a1) := by
  intro a0 a1
  have h0 : Keeps 0xcc87d403fbfbbfb9881736fb1007f60824f7d4f4c10efbff77c0f0009df9ee8007ccfdffffcb37ff30ffe7c03ffffffffffffffffffffffffffffffffffffffffffffffffffffffffffffff5fc a1 a1 := Keeps.refl _
  unfold execDiscardStaged
  repeat' first
    | with_reducible assumption
    | intro _
    | with_reducible apply Keeps.accepted
    | with_reducible apply KeepsR.next
    | with_reducible apply Keeps.step (keeps_dictReq _ _ _ _ _)
    | with_reducible apply Keeps.answer
    | with_reducible apply Keeps.answerRead
    | with_reducible decide

theorem keeps_execResetRetain : ∀ a0 a1, KeepsR 0xcc87d403fbfbbfb9881736fb1007f60824f7d4f4c10efbff77c0f0009df9ee8007ccfdffffcb37ff30ffe7c03ffffffffffffffffffffffffffffffffffffffffffffffffffffffffffffff5fc a1 (execResetRetain a0 a1) := by
  intro a0 a1
  have h0 : Keeps 0xcc87d403fbfbbfb9881736fb1007f60824f7d4f4c10efbff77c0f0009df9ee8007ccfdffffcb37ff30ffe7c03ffffffffffffffffffffffffffffffffffffffffffffffffffffffffffffff5fc a1 a1 := Keeps.refl _
  unfold execResetRetain
  repeat' first
    | with_reducible assumption
    | intro _
    | with_reducible apply Keeps.accepted
    | with_reducible apply KeepsR.next
    | with_reducible apply Keeps.step (keeps_dictReq _ _ _ _ _)
    | with_reducible apply Keeps.answer
    | with_reducible apply Keeps.answerRead
    | with_reducible decide

theorem keeps_execSnapshotReceived : ∀ a0 a1 a2 a3 a4, KeepsR 0x40000008007e000000000000000000000000000000000000000000000000000000000000000000000000000000000000000000000000d200021f0a000000000000000000000000000000100 a4 (execSnapshotReceived a0 a1 a2 a3 a4) := by
  intro a0 a1 a2 a3 a4
  have h0 : Keeps 0x40000008007e000000000000000000000000000000000000000000000000000000000000000000000000000000000000000000000000d200021f0a000000000000000000000000000000100 a4 a4 := Keeps.refl _
  unfold execSnapshotReceived
  repeat' first
    | with_reducible assumption
    | ((with_reducible refine LgcField.upd_of ?_); intro i x hi; cases i <;> first | exact Keeps.no rfl hi | exact rfl | (split <;> rfl) | ((repeat' split) <;> rfl))
    | intro _
    | with_reducible apply Keeps.accepted
    | with_reducible apply KeepsR.next
    | with_reducible apply KeepsR.ite
    | (extract_lets +onlyGivenNames x; refine Keeps.cut x ?_ (fun hx => ?_); (revert x; show Keeps _ _ _); on_goal 2 => clear_value x)
    | (extract_lets +onlyGivenNames x; clear_value x)
    | with_reducible apply Keeps.step (keeps_State_log _ _ _)
    | with_reducible refine Keeps.modLgc ?_ ?_
    | with_reducible apply Keeps.on
    | with_reducible apply Keeps.setN .LGC_CYCLE_COUNT group_LGC_CYCLE_COUNT
    | with_reducible apply Keeps.setN .LGC_LT group_LGC_LT
    | with_reducible apply Keeps.step (keeps_journal _ _ _)
    | with_reducible apply Keeps.step (keeps_showLogic _)
    | with_reducible apply Keeps.ite
    | with_reducible apply Keeps.iteP
    | with_reducible apply Keeps.answer
    | with_reducible apply Keeps.answerRead
    | with_reducible decide
    | with_reducible refine Keeps.of_eq (by assumption) ?_
    | split

end Sys2Proof.Machine
end

