-- ==== Sys2Proof/Laws/KeepsTwin.lean ====
section
/-!
SUPPORT. What each operation of Machine/Twin.lean may change.
-/

set_option linter.unusedTactic false
set_option linter.tactic.unusedName false
set_option linter.unreachableTactic false

namespace Sys2Proof.Machine

theorem keeps_setLane : ∀ a0 a1 a2, Keeps 0x8000000000000000000000000000000000000000000000000000000000000000000000000000000000000000000000000000000000000000000000000000 a2 (setLane a0 a1 a2) := by
  intro a0 a1 a2
  have h0 : Keeps 0x8000000000000000000000000000000000000000000000000000000000000000000000000000000000000000000000000000000000000000000000000000 a2 a2 := Keeps.refl _
  unfold setLane
  repeat' first
    | with_reducible assumption
    | ((with_reducible refine TwnField.upd_of ?_); intro i x hi; cases i <;> first | exact Keeps.no rfl hi | exact rfl | (split <;> rfl) | ((repeat' split) <;> rfl))
    | intro _
    | with_reducible refine Keeps.modTwn ?_ ?_
    | with_reducible apply Keeps.answer
    | with_reducible apply Keeps.answerRead
    | with_reducible decide

theorem keeps_execClauzLinkUp : ∀ a0 a1 a2, KeepsR 0x200800000800400180003f7c0007400008000310000c0d00000006e0007cc1d9f0a4b33e70002000001d000000080010014020004000621b00100020981a0201000100e0000000001c0 a2 (execClauzLinkUp a0 a1 a2) := by
  intro a0 a1 a2
  have h0 : Keeps 0x200800000800400180003f7c0007400008000310000c0d00000006e0007cc1d9f0a4b33e70002000001d000000080010014020004000621b00100020981a0201000100e0000000001c0 a2 a2 := Keeps.refl _
  unfold execClauzLinkUp
  repeat' first
    | with_reducible assumption
    | ((with_reducible refine TwnField.upd_of ?_); intro i x hi; cases i <;> first | exact Keeps.no rfl hi | exact rfl | (split <;> rfl) | ((repeat' split) <;> rfl))
    | intro _
    | with_reducible apply Keeps.accepted
    | with_reducible apply KeepsR.next
    | with_reducible apply KeepsR.ite
    | (extract_lets +onlyGivenNames x; refine Keeps.cut x ?_ (fun hx => ?_); (revert x; show Keeps _ _ _); on_goal 2 => clear_value x)
    | (extract_lets +onlyGivenNames x; clear_value x)
    | with_reducible apply Keeps.step (keeps_State_draw _)
    | with_reducible apply Keeps.step (keeps_State_log _ _ _)
    | with_reducible refine Keeps.modTwn ?_ ?_
    | with_reducible apply Keeps.on
    | with_reducible apply Keeps.setN .TWN_PARTNER_FW group_TWN_PARTNER_FW
    | with_reducible apply Keeps.setN .TWN_PARTNER_SERIAL group_TWN_PARTNER_SERIAL
    | with_reducible apply Keeps.setR .TWN_LINK_LATENCY group_TWN_LINK_LATENCY
    | with_reducible apply Keeps.step (keeps_linkSend _ _ _)
    | with_reducible apply Keeps.step (keeps_lockReview _)
    | with_reducible apply Keeps.step (keeps_pairExamine _)
    | with_reducible apply Keeps.step (keeps_showTwin _)
    | with_reducible apply Keeps.ite
    | with_reducible apply Keeps.iteP
    | with_reducible apply Keeps.answer
    | with_reducible apply Keeps.answerRead
    | with_reducible decide
    | split

theorem keeps_execClauzLinkDown : ∀ a0, KeepsR 0x20000000000040018000014c8007400008000310000c0d00000006e0007cc1d9f0a4b33e7000200003d0080000080010014020004000600000100020981a0201000100e000000000140 a0 (execClauzLinkDown a0) := by
  intro a0
  have h0 : Keeps 0x20000000000040018000014c8007400008000310000c0d00000006e0007cc1d9f0a4b33e7000200003d0080000080010014020004000600000100020981a0201000100e000000000140 a0 a0 := Keeps.refl _
  unfold execClauzLinkDown
  repeat' first
    | with_reducible assumption
    | intro _
    | with_reducible apply Keeps.accepted
    | with_reducible apply KeepsR.next
    | with_reducible apply Keeps.on
    | with_reducible apply Keeps.step (keeps_linkFalls _)
    | with_reducible apply Keeps.answer
    | with_reducible apply Keeps.answerRead
    | with_reducible decide

theorem keeps_execClauzLaneLost : ∀ a0 a1, KeepsR 0xc000000000000000000000000000000000000000000000000000000000010000000000000000000004000400000000000000000000000000000000000100 a1 (execClauzLaneLost a0 a1) := by
  intro a0 a1
  have h0 : Keeps 0xc000000000000000000000000000000000000000000000000000000000010000000000000000000004000400000000000000000000000000000000000100 a1 a1 := Keeps.refl _
  unfold execClauzLaneLost
  repeat' first
    | with_reducible assumption
    | ((with_reducible refine TwnField.upd_of ?_); intro i x hi; cases i <;> first | exact Keeps.no rfl hi | exact rfl | (split <;> rfl) | ((repeat' split) <;> rfl))
    | intro _
    | with_reducible apply Keeps.accepted
    | with_reducible apply KeepsR.next
    | with_reducible apply KeepsR.ite
    | with_reducible apply Keeps.step (keeps_State_log _ _ _)
    | with_reducible refine Keeps.modTwn ?_ ?_
    | with_reducible apply Keeps.on
    | with_reducible apply Keeps.step (keeps_setLane _ _ _)
    | with_reducible apply Keeps.step (keeps_showTwin _)
    | with_reducible apply Keeps.ite
    | with_reducible apply Keeps.iteP
    | with_reducible apply Keeps.answer
    | with_reducible apply Keeps.answerRead
    | with_reducible decide
    | split

theorem keeps_execClauzLaneRegained : ∀ a0 a1, KeepsR 0xc000000000000000000000000000000000000000000000000000000000010000000000000000000004000400000000000000000000000000000000000100 a1 (execClauzLaneRegained a0 a1) := by
  intro a0 a1
  have h0 : Keeps 0xc000000000000000000000000000000000000000000000000000000000010000000000000000000004000400000000000000000000000000000000000100 a1 a1 := Keeps.refl _
  unfold execClauzLaneRegained
  repeat' first
    | with_reducible assumption
    | ((with_reducible refine TwnField.upd_of ?_); intro i x hi; cases i <;> first | exact Keeps.no rfl hi | exact rfl | (split <;> rfl) | ((repeat' split) <;> rfl))
    | intro _
    | with_reducible apply Keeps.accepted
    | with_reducible apply KeepsR.next
    | with_reducible apply KeepsR.ite
    | with_reducible apply Keeps.step (keeps_State_log _ _ _)
    | with_reducible refine Keeps.modTwn ?_ ?_
    | with_reducible apply Keeps.on
    | with_reducible apply Keeps.step (keeps_setLane _ _ _)
    | with_reducible apply Keeps.step (keeps_showTwin _)
    | with_reducible apply Keeps.ite
    | with_reducible apply Keeps.iteP
    | with_reducible apply Keeps.answer
    | with_reducible apply Keeps.answerRead
    | with_reducible decide
    | split

theorem keeps_restartTimebases : ∀ a0, Keeps 0x100000c000000000000000000000000000000000000000000000000000000000000000000000000000000000000000000000000000000000000 a0 (restartTimebases a0) := by
  intro a0
  have h0 : Keeps 0x100000c000000000000000000000000000000000000000000000000000000000000000000000000000000000000000000000000000000000000 a0 a0 := Keeps.refl _
  unfold restartTimebases
  repeat' first
    | with_reducible assumption
    | ((with_reducible refine AcqField.upd_of ?_); intro i x hi; cases i <;> first | exact Keeps.no rfl hi | exact rfl | (split <;> rfl) | ((repeat' split) <;> rfl))
    | ((with_reducible refine EdgField.upd_of ?_); intro i x hi; cases i <;> first | exact Keeps.no rfl hi | exact rfl | (split <;> rfl) | ((repeat' split) <;> rfl))
    | intro _
    | (extract_lets +onlyGivenNames x; refine Keeps.cut x ?_ (fun hx => ?_); (revert x; show Keeps _ _ _); on_goal 2 => clear_value x)
    | (extract_lets +onlyGivenNames x; clear_value x)
    | with_reducible refine Keeps.modAcq ?_ ?_
    | with_reducible refine Keeps.modEdg ?_ ?_
    | with_reducible apply Keeps.step (keeps_State_modTb _ _ _)
    | with_reducible apply Keeps.foldl
    | with_reducible apply Keeps.foldlP
    | with_reducible apply Keeps.answer
    | with_reducible apply Keeps.answerRead
    | with_reducible decide

theorem keeps_execPairLockRegained : ∀ a0 a1, KeepsR 0x1c000000000100000c000000000000000000000000000000000000000000010200000000000000000004000400000000000000000000000000000000000100 a1 (execPairLockRegained a0 a1) := by
  intro a0 a1
  have h0 : Keeps 0x1c000000000100000c000000000000000000000000000000000000000000010200000000000000000004000400000000000000000000000000000000000100 a1 a1 := Keeps.refl _
  unfold execPairLockRegained
  repeat' first
    | with_reducible assumption
    | ((with_reducible refine TwnField.upd_of ?_); intro i x hi; cases i <;> first | exact Keeps.no rfl hi | exact rfl | (split <;> rfl) | ((repeat' split) <;> rfl))
    | intro _
    | with_reducible apply Keeps.accepted
    | with_reducible apply KeepsR.next
    | with_reducible apply KeepsR.ite
    | (extract_lets +onlyGivenNames x; refine Keeps.cut x ?_ (fun hx => ?_); (revert x; show Keeps _ _ _); on_goal 2 => clear_value x)
    | (extract_lets +onlyGivenNames x; clear_value x)
    | with_reducible apply Keeps.step (keeps_State_log _ _ _)
    | with_reducible refine Keeps.modTwn ?_ ?_
    | with_reducible apply Keeps.on
    | with_reducible apply Keeps.setObj .TWN_GRID_PHASE group_TWN_GRID_PHASE
    | with_reducible apply Keeps.step (keeps_restartTimebases _)
    | with_reducible apply Keeps.step (keeps_showTwin _)
    | with_reducible apply Keeps.ite
    | with_reducible apply Keeps.iteP
    | with_reducible apply Keeps.answer
    | with_reducible apply Keeps.answerRead
    | with_reducible decide
    | with_reducible refine Keeps.of_eq (by assumption) ?_
    | split

theorem keeps_execPartnerWindowAccess : ∀ a0 a1 a2, KeepsR 0x140038000000000000000000000000000000000000000000000000000000000000000000000000000000000000000000000000000000009000000000000000000000000000000000000040 a2 (execPartnerWindowAccess a0 a1 a2) := by
  intro a0 a1 a2
  have h0 : Keeps 0x140038000000000000000000000000000000000000000000000000000000000000000000000000000000000000000000000000000000009000000000000000000000000000000000000040 a2 a2 := Keeps.refl _
  unfold execPartnerWindowAccess
  repeat' first
    | with_reducible assumption
    | intro _
    | with_reducible apply Keeps.accepted
    | with_reducible apply KeepsR.next
    | with_reducible apply KeepsR.ite
    | (extract_lets +onlyGivenNames x; refine Keeps.cut x ?_ (fun hx => ?_); (revert x; show Keeps _ _ _); on_goal 2 => clear_value x)
    | (extract_lets +onlyGivenNames x; clear_value x)
    | with_reducible apply Keeps.step (keeps_State_reply _ _ _ _)
    | with_reducible apply Keeps.step (keeps_linkSend _ _ _)
    | with_reducible apply Keeps.ite
    | with_reducible apply Keeps.iteP
    | with_reducible apply Keeps.answer
    | with_reducible apply Keeps.answerRead
    | with_reducible decide
    | with_reducible refine Keeps.of_eq (by assumption) ?_
    | split

theorem keeps_armedReview : ∀ a0, Keeps 0x80000000000000000000000000000000000000000000000000000000000000010000000000000000000000000400000000000000000000000000000000000000 a0 (armedReview a0) := by
  intro a0
  have h0 : Keeps 0x80000000000000000000000000000000000000000000000000000000000000010000000000000000000000000400000000000000000000000000000000000000 a0 a0 := Keeps.refl _
  unfold armedReview
  repeat' first
    | with_reducible assumption
    | ((with_reducible refine TwnField.upd_of ?_); intro i x hi; cases i <;> first | exact Keeps.no rfl hi | exact rfl | (split <;> rfl) | ((repeat' split) <;> rfl))
    | intro _
    | with_reducible refine Keeps.modTwn ?_ ?_
    | with_reducible apply Keeps.step (keeps_showTwin _)
    | with_reducible apply Keeps.ite
    | with_reducible apply Keeps.iteP
    | with_reducible apply Keeps.answer
    | with_reducible apply Keeps.answerRead
    | with_reducible decide
    | split

theorem keeps_holdoffReview : ∀ a0, Keeps 0x8000000000000000000000000000000000000000000000000000000000000000010000000000000000000000000400000000000000000000000000000000000000 a0 (holdoffReview a0) := by
  intro a0
  have h0 : Keeps 0x8000000000000000000000000000000000000000000000000000000000000000010000000000000000000000000400000000000000000000000000000000000000 a0 a0 := Keeps.refl _
  unfold holdoffReview
  repeat' first
    | with_reducible assumption
    | ((with_reducible refine TwnField.upd_of ?_); intro i x hi; cases i <;> first | exact Keeps.no rfl hi | exact rfl | (split <;> rfl) | ((repeat' split) <;> rfl))
    | intro _
    | with_reducible refine Keeps.modTwn ?_ ?_
    | with_reducible apply Keeps.step (keeps_showTwin _)
    | with_reducible apply Keeps.ite
    | with_reducible apply Keeps.iteP
    | with_reducible apply Keeps.answer
    | with_reducible apply Keeps.answerRead
    | with_reducible decide
    | split

theorem keeps_applyForwarded : ∀ a0 a1 a2, Keeps 0xcc87d403fbfbbfb9881736fb1007f60824f7d4f4c10efbff77c0f0009df9ee8007ccfdffffcb37ff30ffe7c03ffffffffffffffffffffffffffffffffffffffffffffffffffffffffffffff5fc a2 (applyForwarded a0 a1 a2) := by
  intro a0 a1 a2
  have h0 : Keeps 0xcc87d403fbfbbfb9881736fb1007f60824f7d4f4c10efbff77c0f0009df9ee8007ccfdffffcb37ff30ffe7c03ffffffffffffffffffffffffffffffffffffffffffffffffffffffffffffff5fc a2 a2 := Keeps.refl _
  unfold applyForwarded
  repeat' first
    | with_reducible assumption
    | ((with_reducible refine NetField.upd_of ?_); intro i x hi; cases i <;> first | exact Keeps.no rfl hi | exact rfl | (split <;> rfl) | ((repeat' split) <;> rfl))
    | intro _
    | (extract_lets +onlyGivenNames x; refine Keeps.cut x ?_ (fun hx => ?_); (revert x; show Keeps _ _ _); on_goal 2 => clear_value x)
    | (extract_lets +onlyGivenNames x; clear_value x)
    | with_reducible refine Keeps.modNet ?_ ?_
    | with_reducible apply Keeps.setN .NET_OWNER group_NET_OWNER
    | with_reducible apply Keeps.step (keeps_showNet _)
    | with_reducible apply Keeps.step (keeps_writeEffect _ _ _ _)
    | with_reducible apply Keeps.ite
    | with_reducible apply Keeps.iteP
    | with_reducible apply Keeps.answer
    | with_reducible apply Keeps.answerRead
    | with_reducible decide
    | split

theorem keeps_execXcheckFail : ∀ a0 a1 a2, KeepsR 0x380000000000000000000000000000000000000000000000000000000000000010000000000000000000004000400000000000000000000000000000000000100 a2 (execXcheckFail a0 a1 a2) := by
  intro a0 a1 a2
  have h0 : Keeps 0x380000000000000000000000000000000000000000000000000000000000000010000000000000000000004000400000000000000000000000000000000000100 a2 a2 := Keeps.refl _
  unfold execXcheckFail
  repeat' first
    | with_reducible assumption
    | ((with_reducible refine TwnField.upd_of ?_); intro i x hi; cases i <;> first | exact Keeps.no rfl hi | exact rfl | (split <;> rfl) | ((repeat' split) <;> rfl))
    | intro _
    | with_reducible apply Keeps.accepted
    | with_reducible apply KeepsR.next
    | with_reducible apply KeepsR.ite
    | (extract_lets +onlyGivenNames x; refine Keeps.cut x ?_ (fun hx => ?_); (revert x; show Keeps _ _ _); on_goal 2 => clear_value x)
    | (extract_lets +onlyGivenNames x; clear_value x)
    | with_reducible apply Keeps.step (keeps_State_log _ _ _)
    | with_reducible refine Keeps.modTwn ?_ ?_
    | with_reducible apply Keeps.on
    | with_reducible apply Keeps.step (keeps_armedReview _)
    | with_reducible apply Keeps.step (keeps_showTwin _)
    | with_reducible apply Keeps.ite
    | with_reducible apply Keeps.iteP
    | with_reducible apply Keeps.answer
    | with_reducible apply Keeps.answerRead
    | with_reducible decide
    | split

theorem keeps_execXcheckClear : ∀ a0, KeepsR 0x180000000000000000000000000000000000000000000000000000000000000010000000000000000000000000400000000000000000000000000000000000000 a0 (execXcheckClear a0) := by
  intro a0
  have h0 : Keeps 0x180000000000000000000000000000000000000000000000000000000000000010000000000000000000000000400000000000000000000000000000000000000 a0 a0 := Keeps.refl _
  unfold execXcheckClear
  repeat' first
    | with_reducible assumption
    | ((with_reducible refine TwnField.upd_of ?_); intro i x hi; cases i <;> first | exact Keeps.no rfl hi | exact rfl | (split <;> rfl) | ((repeat' split) <;> rfl))
    | intro _
    | with_reducible apply Keeps.accepted
    | with_reducible apply KeepsR.next
    | with_reducible apply KeepsR.ite
    | with_reducible refine Keeps.modTwn ?_ ?_
    | with_reducible apply Keeps.on
    | with_reducible apply Keeps.step (keeps_armedReview _)
    | with_reducible apply Keeps.step (keeps_showTwin _)
    | with_reducible apply Keeps.ite
    | with_reducible apply Keeps.iteP
    | with_reducible apply Keeps.answer
    | with_reducible apply Keeps.answerRead
    | with_reducible decide
    | split

theorem keeps_execDigestReceived : ∀ a0 a1 a2 a3, KeepsR 0xf000000000000000000000006000000000000000000000000000000000000000012000000000000000020004000400000000000000000000000000000000000140 a3 (execDigestReceived a0 a1 a2 a3) := by
  intro a0 a1 a2 a3
  have h0 : Keeps 0xf000000000000000000000006000000000000000000000000000000000000000012000000000000000020004000400000000000000000000000000000000000140 a3 a3 := Keeps.refl _
  unfold execDigestReceived
  repeat' first
    | with_reducible assumption
    | ((with_reducible refine TwnField.upd_of ?_); intro i x hi; cases i <;> first | exact Keeps.no rfl hi | exact rfl | (split <;> rfl) | ((repeat' split) <;> rfl))
    | intro _
    | with_reducible apply Keeps.accepted
    | with_reducible apply KeepsR.next
    | with_reducible apply KeepsR.ite
    | with_reducible refine Keeps.modTwn ?_ ?_
    | with_reducible apply Keeps.on
    | with_reducible apply Keeps.step (keeps_digestMeets _ _ _)
    | with_reducible apply Keeps.ite
    | with_reducible apply Keeps.iteP
    | with_reducible apply Keeps.answer
    | with_reducible apply Keeps.answerRead
    | with_reducible decide
    | split

theorem keeps_becomeStandby : ∀ a0, Keeps 0x8000008000000500838000000000000000000000000000000000000000000000000000000000000100000000000000000000040a0421b00000000000000000000000000000000100 a0 (becomeStandby a0) := by
  intro a0
  have h0 : Keeps 0x8000008000000500838000000000000000000000000000000000000000000000000000000000000100000000000000000000040a0421b00000000000000000000000000000000100 a0 a0 := Keeps.refl _
  unfold becomeStandby
  repeat' first
    | with_reducible assumption
    | ((with_reducible refine LgcField.upd_of ?_); intro i x hi; cases i <;> first | exact Keeps.no rfl hi | exact rfl | (split <;> rfl) | ((repeat' split) <;> rfl))
    | ((with_reducible refine TwnField.upd_of ?_); intro i x hi; cases i <;> first | exact Keeps.no rfl hi | exact rfl | (split <;> rfl) | ((repeat' split) <;> rfl))
    | intro _
    | (extract_lets +onlyGivenNames x; refine Keeps.cut x ?_ (fun hx => ?_); (revert x; show Keeps _ _ _); on_goal 2 => clear_value x)
    | (extract_lets +onlyGivenNames x; clear_value x)
    | with_reducible apply Keeps.step (keeps_State_log _ _ _)
    | with_reducible refine Keeps.modLgc ?_ ?_
    | with_reducible refine Keeps.modTwn ?_ ?_
    | with_reducible apply Keeps.step (keeps_ownerEnds _ _)
    | with_reducible apply Keeps.step (keeps_showTwin _)
    | with_reducible apply Keeps.step (keeps_stopEngine _)
    | with_reducible apply Keeps.ite
    | with_reducible apply Keeps.iteP
    | with_reducible apply Keeps.answer
    | with_reducible apply Keeps.answerRead
    | with_reducible decide
    | split

theorem keeps_engineTakesOver : ∀ a0, Keeps 0x1023800800000000000000000000000000000000000000000000000000000000000000000000000000000000000000000000004000021b00000000000000000000000000000000100 a0 (engineTakesOver a0) := by
  intro a0
  have h0 : Keeps 0x1023800800000000000000000000000000000000000000000000000000000000000000000000000000000000000000000000004000021b00000000000000000000000000000000100 a0 a0 := Keeps.refl _
  unfold engineTakesOver
  repeat' first
    | with_reducible assumption
    | intro _
    | (extract_lets +onlyGivenNames x; refine Keeps.cut x ?_ (fun hx => ?_); (revert x; show Keeps _ _ _); on_goal 2 => clear_value x)
    | (extract_lets +onlyGivenNames x; clear_value x)
    | with_reducible apply Keeps.step (keeps_State_log _ _ _)
    | with_reducible apply Keeps.step (keeps_startEngine _ _)
    | with_reducible apply Keeps.ite
    | with_reducible apply Keeps.iteP
    | with_reducible apply Keeps.answer
    | with_reducible apply Keeps.answerRead
    | with_reducible decide
    | split

theorem keeps_becomeActive : ∀ a0, Keeps 0x18238008000000580878000000000020000000000000000000000000000000000000000000000000100000000000000000000040a0421b00000000000000000000000000000000140 a0 (becomeActive a0) := by
  intro a0
  have h0 : Keeps 0x18238008000000580878000000000020000000000000000000000000000000000000000000000000100000000000000000000040a0421b00000000000000000000000000000000140 a0 a0 := Keeps.refl _
  unfold becomeActive
  repeat' first
    | with_reducible assumption
    | ((with_reducible refine LgcField.upd_of ?_); intro i x hi; cases i <;> first | exact Keeps.no rfl hi | exact rfl | (split <;> rfl) | ((repeat' split) <;> rfl))
    | ((with_reducible refine TwnField.upd_of ?_); intro i x hi; cases i <;> first | exact Keeps.no rfl hi | exact rfl | (split <;> rfl) | ((repeat' split) <;> rfl))
    | intro _
    | (extract_lets +onlyGivenNames x; refine Keeps.cut x ?_ (fun hx => ?_); (revert x; show Keeps _ _ _); on_goal 2 => clear_value x)
    | (extract_lets +onlyGivenNames x; clear_value x)
    | with_reducible refine Keeps.modLgc ?_ ?_
    | with_reducible refine Keeps.modTwn ?_ ?_
    | with_reducible apply Keeps.step (keeps_State_send _ _ _ _)
    | with_reducible apply Keeps.step (keeps_engineTakesOver _)
    | with_reducible apply Keeps.step (keeps_ownerEnds _ _)
    | with_reducible apply Keeps.step (keeps_showTwin _)
    | with_reducible apply Keeps.step (keeps_substitute _ _ _)
    | with_reducible apply Keeps.foldl
    | with_reducible apply Keeps.foldlP
    | with_reducible apply Keeps.ite
    | with_reducible apply Keeps.iteP
    | with_reducible apply Keeps.answer
    | with_reducible apply Keeps.answerRead
    | with_reducible decide
    | with_reducible refine Keeps.of_eq (by assumption) ?_
    | split

theorem keeps_holderSeen : ∀ a0, Keeps 0xd80010000000000000000000000000000000000000000000000000000000000000000000000000000000120800000000000000000000000000 a0 (holderSeen a0) := by
  intro a0
  have h0 : Keeps 0xd80010000000000000000000000000000000000000000000000000000000000000000000000000000000120800000000000000000000000000 a0 a0 := Keeps.refl _
  unfold holderSeen
  repeat' first
    | with_reducible assumption
    | ((with_reducible refine GdvField.upd_of ?_); intro i x hi; cases i <;> first | exact Keeps.no rfl hi | exact rfl | (split <;> rfl) | ((repeat' split) <;> rfl))
    | intro _
    | (extract_lets +onlyGivenNames x; refine Keeps.cut x ?_ (fun hx => ?_); (revert x; show Keeps _ _ _); on_goal 2 => clear_value x)
    | (extract_lets +onlyGivenNames x; clear_value x)
    | with_reducible refine Keeps.modGdv ?_ ?_
    | with_reducible apply Keeps.step (keeps_leavePattern _ _)
    | with_reducible apply Keeps.foldl
    | with_reducible apply Keeps.foldlP
    | with_reducible apply Keeps.answer
    | with_reducible apply Keeps.answerRead
    | with_reducible decide

theorem keeps_grantReview : ∀ a0, Keeps 0x60000000000000d80010000000000000000000000000000000000000000000010000000000000000000000000400000000120800000000000000000000000000 a0 (grantReview a0) := by
  intro a0
  have h0 : Keeps 0x60000000000000d80010000000000000000000000000000000000000000000010000000000000000000000000400000000120800000000000000000000000000 a0 a0 := Keeps.refl _
  unfold grantReview
  repeat' first
    | with_reducible assumption
    | ((with_reducible refine TwnField.upd_of ?_); intro i x hi; cases i <;> first | exact Keeps.no rfl hi | exact rfl | (split <;> rfl) | ((repeat' split) <;> rfl))
    | intro _
    | (extract_lets +onlyGivenNames x; refine Keeps.cut x ?_ (fun hx => ?_); (revert x; show Keeps _ _ _); on_goal 2 => clear_value x)
    | (extract_lets +onlyGivenNames x; clear_value x)
    | with_reducible refine Keeps.modTwn ?_ ?_
    | with_reducible apply Keeps.step (keeps_holderSeen _)
    | with_reducible apply Keeps.step (keeps_showTwin _)
    | with_reducible apply Keeps.ite
    | with_reducible apply Keeps.iteP
    | with_reducible apply Keeps.answer
    | with_reducible apply Keeps.answerRead
    | with_reducible decide
    | split

theorem keeps_handoverGains : ∀ a0, Keeps 0x18238008000000580878000000000020000000000000000000000000000000000000000000000000100000000000000000000040a0421b00000000000000000000000000000000140 a0 (handoverGains a0) := by
  intro a0
  have h0 : Keeps 0x18238008000000580878000000000020000000000000000000000000000000000000000000000000100000000000000000000040a0421b00000000000000000000000000000000140 a0 a0 := Keeps.refl _
  unfold handoverGains
  repeat' first
    | with_reducible assumption
    | intro _
    | with_reducible apply Keeps.step (keeps_State_log _ _ _)
    | with_reducible apply Keeps.step (keeps_becomeActive _)
    | with_reducible apply Keeps.ite
    | with_reducible apply Keeps.iteP
    | with_reducible apply Keeps.answer
    | with_reducible apply Keeps.answerRead
    | with_reducible decide
    | split

theorem keeps_execClaimInChange : ∀ a0 a1, KeepsR 0x18238008000000580ff800000000002d800100000000000000000000000000000000000000000000100000000000000000000040a0421b00000120800000000000000000000000140 a1 (execClaimInChange a0 a1) := by
  intro a0 a1
  have h0 : Keeps 0x18238008000000580ff800000000002d800100000000000000000000000000000000000000000000100000000000000000000040a0421b00000120800000000000000000000000140 a1 a1 := Keeps.refl _
  unfold execClaimInChange
  repeat' first
    | with_reducible assumption
    | ((with_reducible refine TwnField.upd_of ?_); intro i x hi; cases i <;> first | exact Keeps.no rfl hi | exact rfl | (split <;> rfl) | ((repeat' split) <;> rfl))
    | intro _
    | with_reducible apply Keeps.accepted
    | with_reducible apply KeepsR.next
    | with_reducible apply KeepsR.ite
    | (extract_lets +onlyGivenNames x; refine Keeps.cut x ?_ (fun hx => ?_); (revert x; show Keeps _ _ _); on_goal 2 => clear_value x)
    | (extract_lets +onlyGivenNames x; clear_value x)
    | with_reducible apply Keeps.step (keeps_State_log _ _ _)
    | with_reducible refine Keeps.modTwn ?_ ?_
    | with_reducible apply Keeps.on
    | with_reducible apply Keeps.step (keeps_becomeStandby _)
    | with_reducible apply Keeps.step (keeps_grantReview _)
    | with_reducible apply Keeps.step (keeps_handoverGains _)
    | with_reducible apply Keeps.step (keeps_holderSeen _)
    | with_reducible apply Keeps.ite
    | with_reducible apply Keeps.iteP
    | with_reducible apply Keeps.answer
    | with_reducible apply Keeps.answerRead
    | with_reducible decide
    | split

theorem keeps_execAutoClaim : ∀ a0, KeepsR 0x18238008000000580e7800000000002d800100000000000000000000000000000000000000000000304000000000000000000040a0421b00000120800000000000000000000000140 a0 (execAutoClaim a0) := by
  intro a0
  have h0 : Keeps 0x18238008000000580e7800000000002d800100000000000000000000000000000000000000000000304000000000000000000040a0421b00000120800000000000000000000000140 a0 a0 := Keeps.refl _
  unfold execAutoClaim
  repeat' first
    | with_reducible assumption
    | ((with_reducible refine TwnField.upd_of ?_); intro i x hi; cases i <;> first | exact Keeps.no rfl hi | exact rfl | (split <;> rfl) | ((repeat' split) <;> rfl))
    | intro _
    | with_reducible apply Keeps.accepted
    | with_reducible apply KeepsR.next
    | with_reducible apply KeepsR.ite
    | (extract_lets +onlyGivenNames x; refine Keeps.cut x ?_ (fun hx => ?_); (revert x; show Keeps _ _ _); on_goal 2 => clear_value x)
    | (extract_lets +onlyGivenNames x; clear_value x)
    | with_reducible apply Keeps.bump .TWN_TAKEOVERS group_TWN_TAKEOVERS
    | with_reducible apply Keeps.step (keeps_State_log _ _ _)
    | with_reducible refine Keeps.modTwn ?_ ?_
    | with_reducible apply Keeps.on
    | with_reducible apply Keeps.setR .TWN_LAST_INTERRUPTION group_TWN_LAST_INTERRUPTION
    | with_reducible apply Keeps.step (keeps_becomeActive _)
    | with_reducible apply Keeps.step (keeps_grantReview _)
    | with_reducible apply Keeps.step (keeps_showTwin _)
    | with_reducible apply Keeps.ite
    | with_reducible apply Keeps.iteP
    | with_reducible apply Keeps.answer
    | with_reducible apply Keeps.answerRead
    | with_reducible decide
    | split

theorem keeps_execNoHolderTimeout : ∀ a0 a1, KeepsR 0xd80010000000000000000000000000000000000000000000000000000000000000000004000000000000120800000000000000000000000100 a1 (execNoHolderTimeout a0 a1) := by
  intro a0 a1
  have h0 : Keeps 0xd80010000000000000000000000000000000000000000000000000000000000000000004000000000000120800000000000000000000000100 a1 a1 := Keeps.refl _
  unfold execNoHolderTimeout
  repeat' first
    | with_reducible assumption
    | ((with_reducible refine GdvField.upd_of ?_); intro i x hi; cases i <;> first | exact Keeps.no rfl hi | exact rfl | (split <;> rfl) | ((repeat' split) <;> rfl))
    | intro _
    | with_reducible apply Keeps.accepted
    | with_reducible apply KeepsR.next
    | with_reducible apply KeepsR.ite
    | with_reducible refine Keeps.modGdv ?_ ?_
    | with_reducible apply Keeps.on
    | with_reducible apply Keeps.step (keeps_applyPattern _ _ _)
    | with_reducible apply Keeps.ite
    | with_reducible apply Keeps.iteP
    | with_reducible apply Keeps.answer
    | with_reducible apply Keeps.answerRead
    | with_reducible decide
    | split

theorem keeps_execClaimHoldLapse : ∀ a0, KeepsR 0x64000000000000d80010000000000000000000000000000000000000000000010000000000000000000000000400000000120800000000000000000000000000 a0 (execClaimHoldLapse a0) := by
  intro a0
  have h0 : Keeps 0x64000000000000d80010000000000000000000000000000000000000000000010000000000000000000000000400000000120800000000000000000000000000 a0 a0 := Keeps.refl _
  unfold execClaimHoldLapse
  repeat' first
    | with_reducible assumption
    | ((with_reducible refine TwnField.upd_of ?_); intro i x hi; cases i <;> first | exact Keeps.no rfl hi | exact rfl | (split <;> rfl) | ((repeat' split) <;> rfl))
    | intro _
    | with_reducible apply Keeps.accepted
    | with_reducible apply KeepsR.next
    | with_reducible apply KeepsR.ite
    | with_reducible refine Keeps.modTwn ?_ ?_
    | with_reducible apply Keeps.step (keeps_grantReview _)
    | with_reducible apply Keeps.ite
    | with_reducible apply Keeps.iteP
    | with_reducible apply Keeps.answer
    | with_reducible apply Keeps.answerRead
    | with_reducible decide
    | split

theorem keeps_claimReleases : ∀ a0, Keeps 0x61000000000000d80010000000000000000000000000000000000000000000010000000000000000000000000400000000120800000000000000000000000000 a0 (claimReleases a0) := by
  intro a0
  have h0 : Keeps 0x61000000000000d80010000000000000000000000000000000000000000000010000000000000000000000000400000000120800000000000000000000000000 a0 a0 := Keeps.refl _
  unfold claimReleases
  repeat' first
    | with_reducible assumption
    | ((with_reducible refine TwnField.upd_of ?_); intro i x hi; cases i <;> first | exact Keeps.no rfl hi | exact rfl | (split <;> rfl) | ((repeat' split) <;> rfl))
    | intro _
    | with_reducible refine Keeps.modTwn ?_ ?_
    | with_reducible apply Keeps.step (keeps_grantReview _)
    | with_reducible apply Keeps.ite
    | with_reducible apply Keeps.iteP
    | with_reducible apply Keeps.answer
    | with_reducible apply Keeps.answerRead
    | with_reducible decide
    | split

theorem keeps_selfFence : ∀ a0 a1 a2, Keeps 0x4000988e3000000000000d80010000000000000000000000000000000000000010700010000000000000014000004000400000000120800000910000000000000000140 a2 (selfFence a0 a1 a2) := by
  intro a0 a1 a2
  have h0 : Keeps 0x4000988e3000000000000d80010000000000000000000000000000000000000010700010000000000000014000004000400000000120800000910000000000000000140 a2 a2 := Keeps.refl _
  unfold selfFence
  repeat' first
    | with_reducible assumption
    | ((with_reducible refine TwnField.upd_of ?_); intro i x hi; cases i <;> first | exact Keeps.no rfl hi | exact rfl | (split <;> rfl) | ((repeat' split) <;> rfl))
    | intro _
    | (extract_lets +onlyGivenNames x; refine Keeps.cut x ?_ (fun hx => ?_); (revert x; show Keeps _ _ _); on_goal 2 => clear_value x)
    | (extract_lets +onlyGivenNames x; clear_value x)
    | with_reducible apply Keeps.step (keeps_State_log _ _ _)
    | with_reducible refine Keeps.modTwn ?_ ?_
    | with_reducible apply Keeps.step (keeps_demandLockout _ _)
    | with_reducible apply Keeps.step (keeps_grantReview _)
    | with_reducible apply Keeps.step (keeps_linkSend _ _ _)
    | with_reducible apply Keeps.step (keeps_refreshPermissions _)
    | with_reducible apply Keeps.answer
    | with_reducible apply Keeps.answerRead
    | with_reducible decide

theorem keeps_triggerSafe : ∀ a0 a1 a2, Keeps 0x2000000000004001800000000007400008000310000c0d00000006e0007cc1d9f0a4b33e700000000000000000080010014020004000200000100020981a0201000100e0000000001c0 a2 (triggerSafe a0 a1 a2) := by
  intro a0 a1 a2
  have h0 : Keeps 0x2000000000004001800000000007400008000310000c0d00000006e0007cc1d9f0a4b33e700000000000000000080010014020004000200000100020981a0201000100e0000000001c0 a2 a2 := Keeps.refl _
  unfold triggerSafe
  repeat' first
    | with_reducible assumption
    | intro _
    | with_reducible apply Keeps.step (keeps_safeByFence _ _)
    | with_reducible apply Keeps.step (keeps_stageSafe _ _ _)
    | with_reducible apply Keeps.ite
    | with_reducible apply Keeps.iteP
    | with_reducible apply Keeps.answer
    | with_reducible apply Keeps.answerRead
    | with_reducible decide
    | split

theorem keeps_plantReaction : ∀ a0 a1, Keeps 0x2000000000004001800000000007400008000310000c0d00000006e0007cc1d9f0a4b33e700020000000000000080010014020004000200000100020981a0201000100e000000000140 a1 (plantReaction a0 a1) := by
  intro a0 a1
  have h0 : Keeps 0x2000000000004001800000000007400008000310000c0d00000006e0007cc1d9f0a4b33e700020000000000000080010014020004000200000100020981a0201000100e000000000140 a1 a1 := Keeps.refl _
  unfold plantReaction
  repeat' first
    | with_reducible assumption
    | intro _
    | (extract_lets +onlyGivenNames x; refine Keeps.cut x ?_ (fun hx => ?_); (revert x; show Keeps _ _ _); on_goal 2 => clear_value x)
    | (extract_lets +onlyGivenNames x; clear_value x)
    | with_reducible apply Keeps.step (keeps_demandStop _ _)
    | with_reducible apply Keeps.step (keeps_stageSafe _ _ _)
    | with_reducible apply Keeps.ite
    | with_reducible apply Keeps.iteP
    | with_reducible apply Keeps.answer
    | with_reducible apply Keeps.answerRead
    | with_reducible decide
    | split

theorem keeps_arbDecide : ∀ a0 a1 a2, Keeps 0x20000000000040019d8e3000000740000d800310000c0d00000006e0007cc1d9f0a4b33e700030700010000000080010014020004000600000100120981a0291000100e0000000001c0 a2 (arbDecide a0 a1 a2) := by
  intro a0 a1 a2
  have h0 : Keeps 0x20000000000040019d8e3000000740000d800310000c0d00000006e0007cc1d9f0a4b33e700030700010000000080010014020004000600000100120981a0291000100e0000000001c0 a2 a2 := Keeps.refl _
  unfold arbDecide
  repeat' first
    | with_reducible assumption
    | ((with_reducible refine TwnField.upd_of ?_); intro i x hi; cases i <;> first | exact Keeps.no rfl hi | exact rfl | (split <;> rfl) | ((repeat' split) <;> rfl))
    | intro _
    | (extract_lets +onlyGivenNames x; refine Keeps.cut x ?_ (fun hx => ?_); (revert x; show Keeps _ _ _); on_goal 2 => clear_value x)
    | (extract_lets +onlyGivenNames x; clear_value x)
    | with_reducible apply Keeps.step (keeps_State_log _ _ _)
    | with_reducible refine Keeps.modTwn ?_ ?_
    | with_reducible apply Keeps.step (keeps_plantReaction _ _)
    | with_reducible apply Keeps.step (keeps_selfFence _ _ _)
    | with_reducible apply Keeps.step (keeps_showTwin _)
    | with_reducible apply Keeps.step (keeps_triggerSafe _ _ _)
    | with_reducible apply Keeps.ite
    | with_reducible apply Keeps.iteP
    | with_reducible apply Keeps.answer
    | with_reducible apply Keeps.answerRead
    | with_reducible decide
    | with_reducible refine Keeps.of_eq (by assumption) ?_
    | split

theorem keeps_ownVerdict : ∀ a0 a1, Keeps 0x20000000000040019d8e3000000740000d800310000c0d00000006e0007cc1d9f0a4b33e700030700010000000080010014020004000600000100120981a0291000100e0000000001c0 a1 (ownVerdict a0 a1) := by
  intro a0 a1
  have h0 : Keeps 0x20000000000040019d8e3000000740000d800310000c0d00000006e0007cc1d9f0a4b33e700030700010000000080010014020004000600000100120981a0291000100e0000000001c0 a1 a1 := Keeps.refl _
  unfold ownVerdict
  repeat' first
    | with_reducible assumption
    | ((with_reducible refine TwnField.upd_of ?_); intro i x hi; cases i <;> first | exact Keeps.no rfl hi | exact rfl | (split <;> rfl) | ((repeat' split) <;> rfl))
    | intro _
    | (extract_lets +onlyGivenNames x; refine Keeps.cut x ?_ (fun hx => ?_); (revert x; show Keeps _ _ _); on_goal 2 => clear_value x)
    | (extract_lets +onlyGivenNames x; clear_value x)
    | with_reducible refine Keeps.modTwn ?_ ?_
    | with_reducible apply Keeps.step (keeps_arbDecide _ _ _)
    | with_reducible apply Keeps.step (keeps_linkSend _ _ _)
    | with_reducible apply Keeps.ite
    | with_reducible apply Keeps.iteP
    | with_reducible apply Keeps.answer
    | with_reducible apply Keeps.answerRead
    | with_reducible decide
    | with_reducible refine Keeps.of_eq (by assumption) ?_
    | split

theorem keeps_execSelftestComplete : ∀ a0 a1 a2, KeepsR 0x20000000000040019d8e3000000740000d800310020c0d00000006e0007cc1d9f0a4b33e700030700010000000080010014020004000600000100120981a0291000100e0000000001c0 a2 (execSelftestComplete a0 a1 a2) := by
  intro a0 a1 a2
  have h0 : Keeps 0x20000000000040019d8e3000000740000d800310020c0d00000006e0007cc1d9f0a4b33e700030700010000000080010014020004000600000100120981a0291000100e0000000001c0 a2 a2 := Keeps.refl _
  unfold execSelftestComplete
  repeat' first
    | with_reducible assumption
    | ((with_reducible refine PieField.upd_of ?_); intro i x hi; cases i <;> first | exact Keeps.no rfl hi | exact rfl | (split <;> rfl) | ((repeat' split) <;> rfl))
    | intro _
    | with_reducible apply Keeps.accepted
    | with_reducible apply KeepsR.next
    | with_reducible apply KeepsR.ite
    | (extract_lets +onlyGivenNames x; refine Keeps.cut x ?_ (fun hx => ?_); (revert x; show Keeps _ _ _); on_goal 2 => clear_value x)
    | (extract_lets +onlyGivenNames x; clear_value x)
    | with_reducible apply Keeps.step (keeps_State_log _ _ _)
    | with_reducible refine Keeps.modPier ?_ ?_
    | with_reducible apply Keeps.on
    | with_reducible apply Keeps.setBit .PIE_STATUS (group_PIE_STATUS _)
    | with_reducible apply Keeps.step (keeps_ownVerdict _ _)
    | with_reducible apply Keeps.ite
    | with_reducible apply Keeps.iteP
    | with_reducible apply Keeps.answer
    | with_reducible apply Keeps.answerRead
    | with_reducible decide
    | with_reducible refine Keeps.of_eq (by assumption) ?_
    | split

theorem keeps_execArbitrationVerdictReceived : ∀ a0 a1 a2 a3, KeepsR 0x20000000000040019d8e3000000740000d800310000c0d00000006e0007cc1d9f0a4b33e700030700010000000080010014020004000600000100120981a0291000100e0000000001c0 a3 (execArbitrationVerdictReceived a0 a1 a2 a3) := by
  intro a0 a1 a2 a3
  have h0 : Keeps 0x20000000000040019d8e3000000740000d800310000c0d00000006e0007cc1d9f0a4b33e700030700010000000080010014020004000600000100120981a0291000100e0000000001c0 a3 a3 := Keeps.refl _
  unfold execArbitrationVerdictReceived
  repeat' first
    | with_reducible assumption
    | ((with_reducible refine TwnField.upd_of ?_); intro i x hi; cases i <;> first | exact Keeps.no rfl hi | exact rfl | (split <;> rfl) | ((repeat' split) <;> rfl))
    | intro _
    | with_reducible apply Keeps.accepted
    | with_reducible apply KeepsR.next
    | with_reducible apply KeepsR.ite
    | (extract_lets +onlyGivenNames x; refine Keeps.cut x ?_ (fun hx => ?_); (revert x; show Keeps _ _ _); on_goal 2 => clear_value x)
    | (extract_lets +onlyGivenNames x; clear_value x)
    | with_reducible refine Keeps.modTwn ?_ ?_
    | with_reducible apply Keeps.on
    | with_reducible apply Keeps.step (keeps_arbDecide _ _ _)
    | with_reducible apply Keeps.ite
    | with_reducible apply Keeps.iteP
    | with_reducible apply Keeps.answer
    | with_reducible apply Keeps.answerRead
    | with_reducible decide
    | with_reducible refine Keeps.of_eq (by assumption) ?_
    | split

theorem keeps_execArbitrationTimeout : ∀ a0, KeepsR 0x20000000000040019d8e3000000740000d800310000c0d00000006e0007cc1d9f0a4b33e700030700010000000080010014020004000600000100120981a0291000100e0000000001c0 a0 (execArbitrationTimeout a0) := by
  intro a0
  have h0 : Keeps 0x20000000000040019d8e3000000740000d800310000c0d00000006e0007cc1d9f0a4b33e700030700010000000080010014020004000600000100120981a0291000100e0000000001c0 a0 a0 := Keeps.refl _
  unfold execArbitrationTimeout
  repeat' first
    | with_reducible assumption
    | intro _
    | with_reducible apply Keeps.accepted
    | with_reducible apply KeepsR.next
    | with_reducible apply KeepsR.ite
    | with_reducible apply Keeps.on
    | with_reducible apply Keeps.step (keeps_arbDecide _ _ _)
    | with_reducible apply Keeps.ite
    | with_reducible apply Keeps.iteP
    | with_reducible apply Keeps.answer
    | with_reducible apply Keeps.answerRead
    | with_reducible decide
    | with_reducible refine Keeps.of_eq (by assumption) ?_
    | split

theorem keeps_execReturnHoldoffEnd : ∀ a0, KeepsR 0x18000000000000000000000000000000000000000000000000000000000000000010000000000000000000000000400000000000000000000000000000000000040 a0 (execReturnHoldoffEnd a0) := by
  intro a0
  have h0 : Keeps 0x18000000000000000000000000000000000000000000000000000000000000000010000000000000000000000000400000000000000000000000000000000000040 a0 a0 := Keeps.refl _
  unfold execReturnHoldoffEnd
  repeat' first
    | with_reducible assumption
    | ((with_reducible refine TwnField.upd_of ?_); intro i x hi; cases i <;> first | exact Keeps.no rfl hi | exact rfl | (split <;> rfl) | ((repeat' split) <;> rfl))
    | intro _
    | with_reducible apply Keeps.accepted
    | with_reducible apply KeepsR.next
    | with_reducible apply KeepsR.ite
    | (extract_lets +onlyGivenNames x; clear_value x)
    | with_reducible refine Keeps.modTwn ?_ ?_
    | with_reducible apply Keeps.on
    | with_reducible apply Keeps.step (keeps_linkSend _ _ _)
    | with_reducible apply Keeps.step (keeps_showTwin _)
    | with_reducible apply Keeps.ite
    | with_reducible apply Keeps.iteP
    | with_reducible apply Keeps.answer
    | with_reducible apply Keeps.answerRead
    | with_reducible decide
    | with_reducible refine Keeps.of_eq (by assumption) ?_
    | split

theorem keeps_execHandoverCmd : ∀ a0 a1, KeepsR 0xcc87d403fbfbbfb9881736fb1007f60824f7d4f4c10efbff77c0f0009df9ee8007ccfdffffcb37ff30ffe7c03ffffffffffffffffffffffffffffffffffffffffffffffffffffffffffffff5fc a1 (execHandoverCmd a0 a1) := by
  intro a0 a1
  have h0 : Keeps 0xcc87d403fbfbbfb9881736fb1007f60824f7d4f4c10efbff77c0f0009df9ee8007ccfdffffcb37ff30ffe7c03ffffffffffffffffffffffffffffffffffffffffffffffffffffffffffffff5fc a1 a1 := Keeps.refl _
  unfold execHandoverCmd
  repeat' first
    | with_reducible assumption
    | intro _
    | with_reducible apply Keeps.accepted
    | with_reducible apply KeepsR.next
    | with_reducible apply Keeps.step (keeps_dictReq _ _ _ _ _)
    | with_reducible apply Keeps.answer
    | with_reducible apply Keeps.answerRead
    | with_reducible decide

theorem keeps_execHandoverPass : ∀ a0, KeepsR 0x18238008000000580e7800000000002d800100000000000000000000000000000000000000000000100000000000000000000040a0421b00000120800000000000000000000000140 a0 (execHandoverPass a0) := by
  intro a0
  have h0 : Keeps 0x18238008000000580e7800000000002d800100000000000000000000000000000000000000000000100000000000000000000040a0421b00000120800000000000000000000000140 a0 a0 := Keeps.refl _
  unfold execHandoverPass
  repeat' first
    | with_reducible assumption
    | ((with_reducible refine TwnField.upd_of ?_); intro i x hi; cases i <;> first | exact Keeps.no rfl hi | exact rfl | (split <;> rfl) | ((repeat' split) <;> rfl))
    | intro _
    | with_reducible apply Keeps.accepted
    | with_reducible apply KeepsR.next
    | with_reducible apply KeepsR.ite
    | (extract_lets +onlyGivenNames x; refine Keeps.cut x ?_ (fun hx => ?_); (revert x; show Keeps _ _ _); on_goal 2 => clear_value x)
    | (extract_lets +onlyGivenNames x; clear_value x)
    | with_reducible refine Keeps.modTwn ?_ ?_
    | with_reducible apply Keeps.on
    | with_reducible apply Keeps.step (keeps_grantReview _)
    | with_reducible apply Keeps.step (keeps_handoverGains _)
    | with_reducible apply Keeps.step (keeps_holdoffReview _)
    | with_reducible apply Keeps.step (keeps_showTwin _)
    | with_reducible apply Keeps.ite
    | with_reducible apply Keeps.iteP
    | with_reducible apply Keeps.answer
    | with_reducible apply Keeps.answerRead
    | with_reducible decide
    | with_reducible refine Keeps.of_eq (by assumption) ?_
    | split

end Sys2Proof.Machine
end

