-- ==== Sys2Proof/Laws/KeepsIslands.lean ====
section
/-!
SUPPORT. What each operation of Machine/Islands.lean may change.
-/

set_option linter.unusedTactic false
set_option linter.tactic.unusedName false
set_option linter.unreachableTactic false

namespace Sys2Proof.Machine

theorem keeps_execTimeBroadcast : ∀ a0 a1, KeepsR 0x1827000000080040018100014c8007440008000f10070c0d00000006e8007cc1d9f0a4b33e70003170f3d00800000800100140200040e0601000100020981a0291303100e0000000001c0 a1 (execTimeBroadcast a0 a1) := by
  intro a0 a1
  have h0 : Keeps 0x1827000000080040018100014c8007440008000f10070c0d00000006e8007cc1d9f0a4b33e70003170f3d00800000800100140200040e0601000100020981a0291303100e0000000001c0 a1 a1 := Keeps.refl _
  unfold execTimeBroadcast
  repeat' first
    | with_reducible assumption
    | ((with_reducible refine IslField.upd_of ?_); intro i x hi; cases i <;> first | exact Keeps.no rfl hi | exact rfl | (split <;> rfl) | ((repeat' split) <;> rfl))
    | exact Or.inl rfl
    | exact Or.inr (fun _ _ h => h)
    | exact Or.inr (fun _ _ h => List.mem_cons_of_mem _ h)
    | intro _
    | with_reducible apply Keeps.accepted
    | with_reducible apply KeepsR.next
    | with_reducible apply KeepsR.ite
    | (extract_lets +onlyGivenNames x; refine Keeps.cut x ?_ (fun hx => ?_); (revert x; show Keeps _ _ _); on_goal 2 => clear_value x)
    | (extract_lets +onlyGivenNames x; clear_value x)
    | with_reducible refine Keeps.modIsl ?_ ?_ ?_
    | with_reducible apply Keeps.step (keeps_fence _ _)
    | with_reducible apply Keeps.foldl
    | with_reducible apply Keeps.foldlP
    | with_reducible apply Keeps.ite
    | with_reducible apply Keeps.iteP
    | with_reducible apply Keeps.answer
    | with_reducible apply Keeps.answerRead
    | with_reducible decide
    | split

theorem keeps_putJoint : ∀ a0 a1, Keeps 0x8000000000000000000000000000000000000000000000000000000000000000000 a1 (putJoint a0 a1) := by
  intro a0 a1
  have h0 : Keeps 0x8000000000000000000000000000000000000000000000000000000000000000000 a1 a1 := Keeps.refl _
  unfold putJoint
  repeat' first
    | with_reducible assumption
    | ((with_reducible refine IslField.upd_of ?_); intro i x hi; cases i <;> first | exact Keeps.no rfl hi | exact rfl | (split <;> rfl) | ((repeat' split) <;> rfl))
    | exact Or.inl rfl
    | exact Or.inr (fun _ _ h => h)
    | exact Or.inr (fun _ _ h => List.mem_cons_of_mem _ h)
    | intro _
    | with_reducible refine Keeps.modIsl ?_ ?_ ?_
    | with_reducible apply Keeps.answer
    | with_reducible apply Keeps.answerRead
    | with_reducible decide

theorem keeps_execJointWordArrival : ∀ a0 a1 a2 a3 a4, KeepsR 0x1827000000080040018100014c8007440008000f10070c0d00000006e8007cc1d9f0a4b33e70003170c3d08800000800100140200040e0601000100020981a0291303100e0000000001c0 a4 (execJointWordArrival a0 a1 a2 a3 a4) := by
  intro a0 a1 a2 a3 a4
  have h0 : Keeps 0x1827000000080040018100014c8007440008000f10070c0d00000006e8007cc1d9f0a4b33e70003170c3d08800000800100140200040e0601000100020981a0291303100e0000000001c0 a4 a4 := Keeps.refl _
  unfold execJointWordArrival
  repeat' first
    | with_reducible assumption
    | intro _
    | with_reducible apply Keeps.accepted
    | with_reducible apply KeepsR.next
    | with_reducible apply KeepsR.ite
    | (extract_lets +onlyGivenNames x; refine Keeps.cut x ?_ (fun hx => ?_); (revert x; show Keeps _ _ _); on_goal 2 => clear_value x)
    | (extract_lets +onlyGivenNames x; clear_value x)
    | with_reducible apply Keeps.bump .TWN_LINK_ERRORS group_TWN_LINK_ERRORS
    | with_reducible apply Keeps.on
    | with_reducible apply Keeps.step (keeps_fence _ _)
    | with_reducible apply Keeps.step (keeps_putJoint _ _)
    | with_reducible apply Keeps.ite
    | with_reducible apply Keeps.iteP
    | with_reducible apply Keeps.answer
    | with_reducible apply Keeps.answerRead
    | with_reducible decide
    | split

theorem keeps_takeHandover : ∀ a0 a1, Keeps 0x10000000000000000000000000000000000000000000000000000000000000000010000000000000000000000000400000000000000000000000000000000000000 a1 (takeHandover a0 a1) := by
  intro a0 a1
  have h0 : Keeps 0x10000000000000000000000000000000000000000000000000000000000000000010000000000000000000000000400000000000000000000000000000000000000 a1 a1 := Keeps.refl _
  unfold takeHandover
  repeat' first
    | with_reducible assumption
    | ((with_reducible refine TwnField.upd_of ?_); intro i x hi; cases i <;> first | exact Keeps.no rfl hi | exact rfl | (split <;> rfl) | ((repeat' split) <;> rfl))
    | intro _
    | (extract_lets +onlyGivenNames x; clear_value x)
    | with_reducible refine Keeps.modTwn ?_ ?_
    | with_reducible apply Keeps.step (keeps_showTwin _)
    | with_reducible apply Keeps.ite
    | with_reducible apply Keeps.iteP
    | with_reducible apply Keeps.answer
    | with_reducible apply Keeps.answerRead
    | with_reducible decide
    | split

theorem keeps_applyCmd : ∀ a0 a1 a2, Keeps 0xcc87d403fbfbbfb9881736fb1007f60824f7d4f4c10efbff77c0f0009df9ee8107ccffffffcb37ff30ffe7c03ffffffffffffffffffffffffffffffffffffffffffffffffffffffffffffff5fc a2 (applyCmd a0 a1 a2) := by
  intro a0 a1 a2
  have h0 : Keeps 0xcc87d403fbfbbfb9881736fb1007f60824f7d4f4c10efbff77c0f0009df9ee8107ccffffffcb37ff30ffe7c03ffffffffffffffffffffffffffffffffffffffffffffffffffffffffffffff5fc a2 a2 := Keeps.refl _
  unfold applyCmd
  repeat' first
    | with_reducible assumption
    | ((with_reducible refine LgcField.upd_of ?_); intro i x hi; cases i <;> first | exact Keeps.no rfl hi | exact rfl | (split <;> rfl) | ((repeat' split) <;> rfl))
    | intro _
    | (extract_lets +onlyGivenNames x; refine Keeps.cut x ?_ (fun hx => ?_); (revert x; show Keeps _ _ _); on_goal 2 => clear_value x)
    | (extract_lets +onlyGivenNames x; clear_value x)
    | with_reducible apply Keeps.bump .NET_LATE_TX group_NET_LATE_TX
    | with_reducible apply Keeps.step (keeps_State_logOnce _ _ _ _)
    | with_reducible refine Keeps.modLgc ?_ ?_
    | with_reducible apply Keeps.step (keeps_State_send _ _ _ _)
    | with_reducible apply Keeps.setBit .EDG_TRG_CFG (group_EDG_TRG_CFG _)
    | with_reducible apply Keeps.step (keeps_applyForwarded _ _ _)
    | with_reducible apply Keeps.step (keeps_awaitCommit _ _ _)
    | with_reducible apply Keeps.step (keeps_bankSwitchCmd _ _ _)
    | with_reducible apply Keeps.step (keeps_driverOut _ _ _ _)
    | with_reducible apply Keeps.step (keeps_fieldOut _ _ _ _)
    | with_reducible apply Keeps.step (keeps_partnerInput _ _ _)
    | with_reducible apply Keeps.step (keeps_showGroup _ _)
    | with_reducible apply Keeps.step (keeps_showLogic _)
    | with_reducible apply Keeps.step (keeps_takeAnchor _ _)
    | with_reducible apply Keeps.step (keeps_takeHandover _ _)
    | with_reducible apply Keeps.step (keeps_takeOffsets _ _ _)
    | with_reducible apply Keeps.step (keeps_takeStageState _ _ _)
    | with_reducible apply Keeps.step (keeps_tbCommand _ _ _ _ _ _)
    | with_reducible apply Keeps.step (keeps_tripScan _)
    | with_reducible apply Keeps.ite
    | with_reducible apply Keeps.iteP
    | with_reducible apply Keeps.answer
    | with_reducible apply Keeps.answerRead
    | with_reducible decide
    | with_reducible refine Keeps.of_eq (by assumption) ?_
    | split

theorem keeps_noteLate : ∀ a0 a1 a2, Keeps 0x2000000000000000000000000000000000000000000000000000000000000000080000004000000000000000000000000000200000000000100 a2 (noteLate a0 a1 a2) := by
  intro a0 a1 a2
  have h0 : Keeps 0x2000000000000000000000000000000000000000000000000000000000000000080000004000000000000000000000000000200000000000100 a2 a2 := Keeps.refl _
  unfold noteLate
  repeat' first
    | with_reducible assumption
    | ((with_reducible refine AcqField.upd_of ?_); intro i x hi; cases i <;> first | exact Keeps.no rfl hi | exact rfl | (split <;> rfl) | ((repeat' split) <;> rfl))
    | intro _
    | (extract_lets +onlyGivenNames x; clear_value x)
    | with_reducible apply Keeps.bump .SHR_ANCHOR_LATE (group_SHR_ANCHOR_LATE _)
    | with_reducible apply Keeps.bump .EDG_CH_LATE (group_EDG_CH_LATE _)
    | with_reducible apply Keeps.step (keeps_State_log _ _ _)
    | with_reducible refine Keeps.modAcq ?_ ?_
    | with_reducible apply Keeps.foldl
    | with_reducible apply Keeps.foldlP
    | with_reducible apply Keeps.answer
    | with_reducible apply Keeps.answerRead
    | with_reducible decide
    | with_reducible refine Keeps.of_eq (by assumption) ?_
    | split

theorem keeps_holdCmd : ∀ a0 a1, Keeps 0x90000000000000000000000000000000000000000000000000000000000000000000 a1 (holdCmd a0 a1) := by
  intro a0 a1
  have h0 : Keeps 0x90000000000000000000000000000000000000000000000000000000000000000000 a1 a1 := Keeps.refl _
  unfold holdCmd
  repeat' first
    | with_reducible assumption
    | ((with_reducible refine IslField.upd_of ?_); intro i x hi; cases i <;> first | exact Keeps.no rfl hi | exact rfl | (split <;> rfl) | ((repeat' split) <;> rfl))
    | exact Or.inl rfl
    | exact Or.inr (fun _ _ h => h)
    | exact Or.inr (fun _ _ h => List.mem_cons_of_mem _ h)
    | intro _
    | with_reducible refine Keeps.modIsl ?_ ?_ ?_
    | with_reducible apply Keeps.step (keeps_countRefused _ _)
    | with_reducible apply Keeps.ite
    | with_reducible apply Keeps.iteP
    | with_reducible apply Keeps.answer
    | with_reducible apply Keeps.answerRead
    | with_reducible decide
    | with_reducible refine Keeps.of_eq (by assumption) ?_
    | split

theorem keeps_noteTaken : ∀ a0 a1, Keeps 0x20000000000000000000000000000000000000000000000000000000000000000000 a1 (noteTaken a0 a1) := by
  intro a0 a1
  have h0 : Keeps 0x20000000000000000000000000000000000000000000000000000000000000000000 a1 a1 := Keeps.refl _
  unfold noteTaken
  repeat' first
    | with_reducible assumption
    | ((with_reducible refine IslField.upd_of ?_); intro i x hi; cases i <;> first | exact Keeps.no rfl hi | exact rfl | (split <;> rfl) | ((repeat' split) <;> rfl))
    | exact Or.inl rfl
    | exact Or.inr (fun _ _ h => h)
    | exact Or.inr (fun _ _ h => List.mem_cons_of_mem _ h)
    | intro _
    | (extract_lets +onlyGivenNames x; clear_value x)
    | with_reducible refine Keeps.modIsl ?_ ?_ ?_
    | with_reducible apply Keeps.answer
    | with_reducible apply Keeps.answerRead
    | with_reducible decide

theorem keeps_takeEffect : ∀ a0 a1 a2, Keeps 0xcc87d403fbfbbfb9881736fb1007f60824f7d4f4c10efbff77c0f0009df9ee8107ccffffffcb37ff30ffe7e03ffffffffffffffffffffffffffffffffffffffffffffffffffffffffffffff5fc a2 (takeEffect a0 a1 a2) := by
  intro a0 a1 a2
  have h0 : Keeps 0xcc87d403fbfbbfb9881736fb1007f60824f7d4f4c10efbff77c0f0009df9ee8107ccffffffcb37ff30ffe7e03ffffffffffffffffffffffffffffffffffffffffffffffffffffffffffffff5fc a2 a2 := Keeps.refl _
  unfold takeEffect
  repeat' first
    | with_reducible assumption
    | intro _
    | with_reducible apply Keeps.step (keeps_applyCmd _ _ _)
    | with_reducible apply Keeps.step (keeps_countRefused _ _)
    | with_reducible apply Keeps.step (keeps_noteTaken _ _)
    | with_reducible apply Keeps.ite
    | with_reducible apply Keeps.iteP
    | with_reducible apply Keeps.answer
    | with_reducible apply Keeps.answerRead
    | with_reducible decide
    | with_reducible refine Keeps.of_eq (by assumption) ?_
    | split

theorem keeps_arrive : ∀ a0 a1, Keeps 0xcc87d403fbfbbfb9881736fb1007f60824f7d4f6c10efbff77c0f0009df9ee8107ccffffffcb37ff30ffe7f03ffffffffffffffffffffffffffffffffffffffffffffffffffffffffffffff5fc a1 (arrive a0 a1) := by
  intro a0 a1
  have h0 : Keeps 0xcc87d403fbfbbfb9881736fb1007f60824f7d4f6c10efbff77c0f0009df9ee8107ccffffffcb37ff30ffe7f03ffffffffffffffffffffffffffffffffffffffffffffffffffffffffffffff5fc a1 a1 := Keeps.refl _
  unfold arrive
  repeat' first
    | with_reducible assumption
    | ((with_reducible refine IslField.upd_of ?_); intro i x hi; cases i <;> first | exact Keeps.no rfl hi | exact rfl | (split <;> rfl) | ((repeat' split) <;> rfl))
    | exact Or.inl rfl
    | exact Or.inr (fun _ _ h => h)
    | exact Or.inr (fun _ _ h => List.mem_cons_of_mem _ h)
    | intro _
    | (extract_lets +onlyGivenNames x; refine Keeps.cut x ?_ (fun hx => ?_); (revert x; show Keeps _ _ _); on_goal 2 => clear_value x)
    | (extract_lets +onlyGivenNames x; clear_value x)
    | with_reducible refine Keeps.modIsl ?_ ?_ ?_
    | with_reducible apply Keeps.step (keeps_applyCmd _ _ _)
    | with_reducible apply Keeps.step (keeps_countImplausible _ _)
    | with_reducible apply Keeps.step (keeps_holdCmd _ _)
    | with_reducible apply Keeps.step (keeps_noteLate _ _ _)
    | with_reducible apply Keeps.step (keeps_takeEffect _ _ _)
    | with_reducible apply Keeps.step (keeps_takeHandover _ _)
    | with_reducible apply Keeps.ite
    | with_reducible apply Keeps.iteP
    | with_reducible apply Keeps.answer
    | with_reducible apply Keeps.answerRead
    | with_reducible decide
    | with_reducible refine Keeps.of_eq (by assumption) ?_
    | split

theorem keeps_execCommandArrival : ∀ a0 a1, KeepsR 0xcc87d403fbfbbfb9881736fb1007f60824f7d4f6c10efbff77c0f0009df9ee8107ccffffffcb37ff30ffe7f03ffffffffffffffffffffffffffffffffffffffffffffffffffffffffffffff5fc a1 (execCommandArrival a0 a1) := by
  intro a0 a1
  have h0 : Keeps 0xcc87d403fbfbbfb9881736fb1007f60824f7d4f6c10efbff77c0f0009df9ee8107ccffffffcb37ff30ffe7f03ffffffffffffffffffffffffffffffffffffffffffffffffffffffffffffff5fc a1 a1 := Keeps.refl _
  unfold execCommandArrival
  repeat' first
    | with_reducible assumption
    | intro _
    | with_reducible apply Keeps.accepted
    | with_reducible apply KeepsR.next
    | with_reducible apply KeepsR.ite
    | with_reducible apply Keeps.on
    | with_reducible apply Keeps.step (keeps_arrive _ _)
    | with_reducible apply Keeps.ite
    | with_reducible apply Keeps.iteP
    | with_reducible apply Keeps.answer
    | with_reducible apply Keeps.answerRead
    | with_reducible decide
    | split

theorem keeps_execForwardedWrite : ∀ a0 a1 a2 a3, KeepsR 0xcc87d403fbfbbfb9881736fb1007f60824f7d4f6c10efbff77c0f0009df9ee8107ccffffffcb37ff30ffe7f03ffffffffffffffffffffffffffffffffffffffffffffffffffffffffffffff5fc a3 (execForwardedWrite a0 a1 a2 a3) := by
  intro a0 a1 a2 a3
  have h0 : Keeps 0xcc87d403fbfbbfb9881736fb1007f60824f7d4f6c10efbff77c0f0009df9ee8107ccffffffcb37ff30ffe7f03ffffffffffffffffffffffffffffffffffffffffffffffffffffffffffffff5fc a3 a3 := Keeps.refl _
  unfold execForwardedWrite
  repeat' first
    | with_reducible assumption
    | intro _
    | with_reducible apply Keeps.accepted
    | with_reducible apply KeepsR.next
    | with_reducible apply KeepsR.ite
    | with_reducible apply Keeps.on
    | with_reducible apply Keeps.step (keeps_arrive _ _)
    | with_reducible apply Keeps.ite
    | with_reducible apply Keeps.iteP
    | with_reducible apply Keeps.answer
    | with_reducible apply Keeps.answerRead
    | with_reducible decide
    | split

theorem keeps_execEffectiveInstantReached : ∀ a0 a1, KeepsR 0xcc87d403fbfbbfb9881736fb1007f60824f7d4f4c10efbff77c0f0009df9ee8107ccffffffcb37ff30ffe7f03ffffffffffffffffffffffffffffffffffffffffffffffffffffffffffffff5fc a1 (execEffectiveInstantReached a0 a1) := by
  intro a0 a1
  have h0 : Keeps 0xcc87d403fbfbbfb9881736fb1007f60824f7d4f4c10efbff77c0f0009df9ee8107ccffffffcb37ff30ffe7f03ffffffffffffffffffffffffffffffffffffffffffffffffffffffffffffff5fc a1 a1 := Keeps.refl _
  unfold execEffectiveInstantReached
  repeat' first
    | with_reducible assumption
    | ((with_reducible refine IslField.upd_of ?_); intro i x hi; cases i <;> first | exact Keeps.no rfl hi | exact rfl | (split <;> rfl) | ((repeat' split) <;> rfl))
    | exact Or.inl rfl
    | exact Or.inr (fun _ _ h => h)
    | exact Or.inr (fun _ _ h => List.mem_cons_of_mem _ h)
    | intro _
    | with_reducible apply Keeps.accepted
    | with_reducible apply KeepsR.next
    | with_reducible apply KeepsR.ite
    | (extract_lets +onlyGivenNames x; refine Keeps.cut x ?_ (fun hx => ?_); (revert x; show Keeps _ _ _); on_goal 2 => clear_value x)
    | (extract_lets +onlyGivenNames x; clear_value x)
    | with_reducible refine Keeps.modIsl ?_ ?_ ?_
    | with_reducible apply Keeps.on
    | with_reducible apply Keeps.step (keeps_takeEffect _ _ _)
    | with_reducible apply Keeps.foldl
    | with_reducible apply Keeps.foldlP
    | with_reducible apply Keeps.ite
    | with_reducible apply Keeps.iteP
    | with_reducible apply Keeps.answer
    | with_reducible apply Keeps.answerRead
    | with_reducible decide
    | split

theorem keeps_execIslandFence : ∀ a0 a1 a2, KeepsR 0x1827000000080040018100014c8007440008000f10070c0d00000006e8007cc1d9f0a4b33e70003170c3d00800000800100140200040e0601000100020981a0291303100e0000000001c0 a2 (execIslandFence a0 a1 a2) := by
  intro a0 a1 a2
  have h0 : Keeps 0x1827000000080040018100014c8007440008000f10070c0d00000006e8007cc1d9f0a4b33e70003170c3d00800000800100140200040e0601000100020981a0291303100e0000000001c0 a2 a2 := Keeps.refl _
  unfold execIslandFence
  repeat' first
    | with_reducible assumption
    | intro _
    | with_reducible apply Keeps.accepted
    | with_reducible apply KeepsR.next
    | with_reducible apply Keeps.step (keeps_fence _ _)
    | with_reducible apply Keeps.answer
    | with_reducible apply Keeps.answerRead
    | with_reducible decide

theorem keeps_execContactorEnableLapse : ∀ a0, KeepsR 0x400000000000000000000000000000000000000000000000000000000000000000800000000000000000000000000000000000000000000000910000000000000000000 a0 (execContactorEnableLapse a0) := by
  intro a0
  have h0 : Keeps 0x400000000000000000000000000000000000000000000000000000000000000000800000000000000000000000000000000000000000000000910000000000000000000 a0 a0 := Keeps.refl _
  unfold execContactorEnableLapse
  repeat' first
    | with_reducible assumption
    | ((with_reducible refine IslField.upd_of ?_); intro i x hi; cases i <;> first | exact Keeps.no rfl hi | exact rfl | (split <;> rfl) | ((repeat' split) <;> rfl))
    | exact Or.inl rfl
    | exact Or.inr (fun _ _ h => h)
    | exact Or.inr (fun _ _ h => List.mem_cons_of_mem _ h)
    | intro _
    | with_reducible apply Keeps.accepted
    | with_reducible apply KeepsR.next
    | with_reducible refine Keeps.modIsl ?_ ?_ ?_
    | with_reducible apply Keeps.on
    | with_reducible apply Keeps.step (keeps_showField _)
    | with_reducible apply Keeps.answer
    | with_reducible apply Keeps.answerRead
    | with_reducible decide

theorem keeps_execContactorEnableReturn : ∀ a0, KeepsR 0x400000000000000000000000000000000000000000000000000000000000000000800000000000000000000000000000000000000000000000910000000000000000000 a0 (execContactorEnableReturn a0) := by
  intro a0
  have h0 : Keeps 0x400000000000000000000000000000000000000000000000000000000000000000800000000000000000000000000000000000000000000000910000000000000000000 a0 a0 := Keeps.refl _
  unfold execContactorEnableReturn
  repeat' first
    | with_reducible assumption
    | ((with_reducible refine IslField.upd_of ?_); intro i x hi; cases i <;> first | exact Keeps.no rfl hi | exact rfl | (split <;> rfl) | ((repeat' split) <;> rfl))
    | exact Or.inl rfl
    | exact Or.inr (fun _ _ h => h)
    | exact Or.inr (fun _ _ h => List.mem_cons_of_mem _ h)
    | intro _
    | with_reducible apply Keeps.accepted
    | with_reducible apply KeepsR.next
    | with_reducible apply KeepsR.ite
    | with_reducible refine Keeps.modIsl ?_ ?_ ?_
    | with_reducible apply Keeps.on
    | with_reducible apply Keeps.step (keeps_showField _)
    | with_reducible apply Keeps.ite
    | with_reducible apply Keeps.iteP
    | with_reducible apply Keeps.answer
    | with_reducible apply Keeps.answerRead
    | with_reducible decide
    | split

theorem keeps_execHousekeepingDataLoss : ∀ a0, KeepsR 0x200000000000000000000000000000000000000000000000000000000000000080010000000000340000000000000004000000000000000000000000000000000000000100 a0 (execHousekeepingDataLoss a0) := by
  intro a0
  have h0 : Keeps 0x200000000000000000000000000000000000000000000000000000000000000080010000000000340000000000000004000000000000000000000000000000000000000100 a0 a0 := Keeps.refl _
  unfold execHousekeepingDataLoss
  repeat' first
    | with_reducible assumption
    | ((with_reducible refine SupField.upd_of ?_); intro i x hi; cases i <;> first | exact Keeps.no rfl hi | exact rfl | (split <;> rfl) | ((repeat' split) <;> rfl))
    | intro _
    | with_reducible apply Keeps.accepted
    | with_reducible apply KeepsR.next
    | with_reducible apply KeepsR.ite
    | (extract_lets +onlyGivenNames x; refine Keeps.cut x ?_ (fun hx => ?_); (revert x; show Keeps _ _ _); on_goal 2 => clear_value x)
    | (extract_lets +onlyGivenNames x; clear_value x)
    | with_reducible refine Keeps.modSup ?_ ?_
    | with_reducible apply Keeps.on
    | with_reducible apply Keeps.setN .THM_BROKEN group_THM_BROKEN
    | with_reducible apply Keeps.step (keeps_showThermal _)
    | with_reducible apply Keeps.step (keeps_thermalShutdown _ _ _)
    | with_reducible apply Keeps.ite
    | with_reducible apply Keeps.iteP
    | with_reducible apply Keeps.answer
    | with_reducible apply Keeps.answerRead
    | with_reducible decide
    | with_reducible refine Keeps.of_eq (by assumption) ?_
    | split

end Sys2Proof.Machine
end

