-- ==== Sys2Proof/Laws/KeepsBoot.lean ====
section
/-!
SUPPORT. What each operation of Machine/Boot.lean may change.
-/

set_option linter.unusedTactic false
set_option linter.tactic.unusedName false
set_option linter.unreachableTactic false

namespace Sys2Proof.Machine

theorem keeps_execAuxPowerUp : ∀ a0, KeepsR 0x2000000000000000000000000000000000000000000000000000000000000000000000000 a0 (execAuxPowerUp a0) := by
  intro a0
  have h0 : Keeps 0x2000000000000000000000000000000000000000000000000000000000000000000000000 a0 a0 := Keeps.refl _
  unfold execAuxPowerUp
  repeat' first
    | with_reducible assumption
    | ((with_reducible refine ModField.upd_of ?_); intro i x hi; cases i <;> first | exact Keeps.no rfl hi | exact rfl | (split <;> rfl) | ((repeat' split) <;> rfl))
    | intro _
    | with_reducible apply Keeps.accepted
    | with_reducible apply KeepsR.next
    | with_reducible refine Keeps.modMod ?_ ?_
    | with_reducible decide

theorem keeps_readAbsence : ∀ a0 a1, Keeps 0x10100004000000000000000000000000000000000000000100 a1 (readAbsence a0 a1) := by
  intro a0 a1
  have h0 : Keeps 0x10100004000000000000000000000000000000000000000100 a1 a1 := Keeps.refl _
  unfold readAbsence
  repeat' first
    | with_reducible assumption
    | intro _
    | with_reducible apply Keeps.step (keeps_State_log _ _ _)
    | with_reducible apply Keeps.setBit .SAF_STATUS group_SAF_STATUS
    | with_reducible apply Keeps.setN .SAF_ABSENCE group_SAF_ABSENCE
    | with_reducible decide
    | with_reducible refine Keeps.of_eq (by assumption) ?_
    | split

theorem keeps_execAditEntry : ∀ a0 a1 a2, KeepsR 0x220000000081400181000003861745484c00e730770c0f0009df86e8007ccfd9f0a4b33e7000427003ffffffffffffffffffffffffffffffffffffffffffffffffffffffffffffff1d4 a2 (execAditEntry a0 a1 a2) := by
  intro a0 a1 a2
  have h0 : Keeps 0x220000000081400181000003861745484c00e730770c0f0009df86e8007ccfd9f0a4b33e7000427003ffffffffffffffffffffffffffffffffffffffffffffffffffffffffffffff1d4 a2 a2 := Keeps.refl _
  unfold execAditEntry
  repeat' first
    | with_reducible assumption
    | ((with_reducible refine ClkField.upd_of ?_); intro i x hi; cases i <;> first | exact Keeps.no rfl hi | exact rfl | (split <;> rfl) | ((repeat' split) <;> rfl))
    | ((with_reducible refine TwnField.upd_of ?_); intro i x hi; cases i <;> first | exact Keeps.no rfl hi | exact rfl | (split <;> rfl) | ((repeat' split) <;> rfl))
    | intro _
    | with_reducible apply Keeps.accepted
    | with_reducible apply KeepsR.next
    | with_reducible apply KeepsR.ite
    | (extract_lets +onlyGivenNames x; refine Keeps.cut x ?_ (fun hx => ?_); (revert x; show Keeps _ _ _); on_goal 2 => clear_value x)
    | (extract_lets +onlyGivenNames x; clear_value x)
    | with_reducible refine Keeps.modClk ?_ ?_
    | with_reducible refine Keeps.modTwn ?_ ?_
    | with_reducible apply Keeps.step (keeps_changeMode _ _)
    | with_reducible apply Keeps.step (keeps_readAbsence _ _)
    | with_reducible apply Keeps.step (keeps_showClocks _)
    | with_reducible apply Keeps.step (keeps_showTwin _)
    | with_reducible apply Keeps.ite
    | with_reducible apply Keeps.iteP
    | with_reducible decide
    | split

theorem keeps_execAditPllTimeout : ∀ a0, KeepsR 0x10000000000000000000000000004000000000000000000000000000000000000000100 a0 (execAditPllTimeout a0) := by
  intro a0
  have h0 : Keeps 0x10000000000000000000000000004000000000000000000000000000000000000000100 a0 a0 := Keeps.refl _
  unfold execAditPllTimeout
  repeat' first
    | with_reducible assumption
    | intro _
    | with_reducible apply Keeps.accepted
    | with_reducible apply KeepsR.next
    | with_reducible apply KeepsR.ite
    | with_reducible apply Keeps.step (keeps_State_log _ _ _)
    | with_reducible apply Keeps.step (keeps_demandLockout _ _)
    | with_reducible apply Keeps.ite
    | with_reducible apply Keeps.iteP
    | with_reducible decide
    | split

theorem keeps_runImage : ∀ a0 a1 a2 a3, Keeps 0x3000000000000030000000000000000000000000000000000000000000000000000000000000000080000000000000000000000000000040000e1b00000000000000000000000000000000100 a3 (runImage a0 a1 a2 a3) := by
  intro a0 a1 a2 a3
  have h0 : Keeps 0x3000000000000030000000000000000000000000000000000000000000000000000000000000000080000000000000000000000000000040000e1b00000000000000000000000000000000100 a3 a3 := Keeps.refl _
  unfold runImage
  repeat' first
    | with_reducible assumption
    | ((with_reducible refine LgcField.upd_of ?_); intro i x hi; cases i <;> first | exact Keeps.no rfl hi | exact rfl | (split <;> rfl) | ((repeat' split) <;> rfl))
    | ((with_reducible refine ModField.upd_of ?_); intro i x hi; cases i <;> first | exact Keeps.no rfl hi | exact rfl | (split <;> rfl) | ((repeat' split) <;> rfl))
    | ((with_reducible refine NvsField.upd_of ?_); intro i x hi; cases i <;> first | exact Keeps.no rfl hi | exact rfl | (split <;> rfl) | ((repeat' split) <;> rfl))
    | intro _
    | (extract_lets +onlyGivenNames x; refine Keeps.cut x ?_ (fun hx => ?_); (revert x; show Keeps _ _ _); on_goal 2 => clear_value x)
    | (extract_lets +onlyGivenNames x; clear_value x)
    | with_reducible apply Keeps.step (keeps_State_log _ _ _)
    | with_reducible refine Keeps.modLgc ?_ ?_
    | with_reducible refine Keeps.modMod ?_ ?_
    | with_reducible refine Keeps.modNvs ?_ ?_
    | with_reducible apply Keeps.setN .MOD_FW_IMAGE group_MOD_FW_IMAGE
    | with_reducible apply Keeps.setN .MOD_FW_VERSION group_MOD_FW_VERSION
    | with_reducible apply Keeps.step (keeps_showLogic _)
    | with_reducible apply Keeps.ite
    | with_reducible apply Keeps.iteP
    | with_reducible decide
    | split

theorem keeps_execImageVerified : ∀ a0 a1 a2 a3, KeepsR 0x3000000000000030000000000000000000000000000000000000000000000000000000000000000080100000000000000000000000000060000e1b00000000000000000000000000000000100 a3 (execImageVerified a0 a1 a2 a3) := by
  intro a0 a1 a2 a3
  have h0 : Keeps 0x3000000000000030000000000000000000000000000000000000000000000000000000000000000080100000000000000000000000000060000e1b00000000000000000000000000000000100 a3 a3 := Keeps.refl _
  unfold execImageVerified
  repeat' first
    | with_reducible assumption
    | intro _
    | with_reducible apply Keeps.accepted
    | with_reducible apply KeepsR.next
    | with_reducible apply KeepsR.ite
    | (extract_lets +onlyGivenNames x; refine Keeps.cutF x ?_ (fun hx => ?_); (on_goal 1 => (intros; unfold x)); on_goal 2 => clear_value x)
    | (extract_lets +onlyGivenNames x; refine Keeps.cutF1 x ?_ (fun hx => ?_); (on_goal 1 => (intros; unfold x)); on_goal 2 => clear_value x)
    | (with_reducible apply_assumption (exfalso := false) (symm := false))
    | (extract_lets +onlyGivenNames x; refine Keeps.cut x ?_ (fun hx => ?_); (revert x; show Keeps _ _ _); on_goal 2 => clear_value x)
    | (extract_lets +onlyGivenNames x; clear_value x)
    | with_reducible apply Keeps.step (keeps_State_log _ _ _)
    | with_reducible apply Keeps.setN .NVS_IMAGE_STATE group_NVS_IMAGE_STATE
    | with_reducible apply Keeps.step (keeps_demandLockout _ _)
    | with_reducible apply Keeps.step (keeps_runImage _ _ _ _)
    | with_reducible apply Keeps.ite
    | with_reducible apply Keeps.iteP
    | with_reducible decide
    | split

theorem keeps_loadGraph : ∀ a0 a1 a2, Keeps 0x10007c7e000000000000000000000000804000000000000000000000000000e01c4000200000000000000000000000000000000000100 a2 (loadGraph a0 a1 a2) := by
  intro a0 a1 a2
  have h0 : Keeps 0x10007c7e000000000000000000000000804000000000000000000000000000e01c4000200000000000000000000000000000000000100 a2 a2 := Keeps.refl _
  unfold loadGraph
  repeat' first
    | with_reducible assumption
    | ((with_reducible refine PieField.upd_of ?_); intro i x hi; cases i <;> first | exact Keeps.no rfl hi | exact rfl | (split <;> rfl) | ((repeat' split) <;> rfl))
    | ((with_reducible refine StgField.upd_of ?_); intro i x hi; cases i <;> first | exact Keeps.no rfl hi | exact rfl | (split <;> rfl) | ((repeat' split) <;> rfl))
    | exact Or.inl rfl
    | exact Or.inr (fun _ h => h)
    | exact Or.inr (fun _ _ => rfl)
    | ((with_reducible refine Or.inr ?_); intro x h; (repeat' split) <;> first | exact h | exact rfl)
    | intro _
    | (extract_lets +onlyGivenNames x; refine Keeps.cut x ?_ (fun hx => ?_); (revert x; show Keeps _ _ _); on_goal 2 => clear_value x)
    | (extract_lets +onlyGivenNames x; clear_value x)
    | with_reducible apply Keeps.step (keeps_State_log _ _ _)
    | with_reducible refine Keeps.modPier ?_ ?_
    | with_reducible refine Keeps.modStage ?_ ?_ ?_
    | with_reducible apply Keeps.setBit .PIE_STATUS (group_PIE_STATUS _)
    | with_reducible apply Keeps.setN .PIE_INSTANCE_COUNT (group_PIE_INSTANCE_COUNT _)
    | with_reducible apply Keeps.setN .PIE_GRAPH_ID (group_PIE_GRAPH_ID _)
    | with_reducible apply Keeps.setN .PIE_WCET_TOTAL (group_PIE_WCET_TOTAL _)
    | with_reducible apply Keeps.setN .MOD_STAGE_SAFE_CAUSE (group_MOD_STAGE_SAFE_CAUSE _ (by first | omega | (simp only [List.mem_range, List.mem_cons, List.not_mem_nil, or_false] at *; omega)))
    | with_reducible apply Keeps.setN .PIE_GRAPH_CHECK (group_PIE_GRAPH_CHECK _)
    | with_reducible apply Keeps.setN .PIE_WCET_CRIT (group_PIE_WCET_CRIT _)
    | with_reducible apply Keeps.ite
    | with_reducible apply Keeps.iteP
    | with_reducible decide
    | split

theorem keeps_loadSaved (s : State) : Keeps 0x100000000000000000000000000000000000000000000003ffffffffffffffffffffffffffffffffffffffffffffffffffffffffffffff004 s (loadSaved s) := by
  unfold loadSaved
  refine Keeps.modEdg (fun _ i hi => by cases i <;> first | exact Keeps.no rfl hi | exact rfl) ?_
  exact Keeps.foldl _ (fun t n h => Keeps.setBit .PIE_CONFIG (group_PIE_CONFIG _) (by decide) _ _ (Keeps.setBit .GFL_CONFIG (group_GFL_CONFIG _) (by decide) _ _ h))
    (Keeps.upd_commitWrites (Keeps.upd_objs (Keeps.refl s) (by decide) _ (fun h => cellsWf_overlay _ (cellsWf_filter _ h))) (by decide) _)

theorem keeps_applyConfig : ∀ a0, Keeps 0x20000000000040008000000080000400380015c0010000000000000800000618000010000000007003d0094000080010014000004080421b0000002098100095302100007c000000140 a0 (applyConfig a0) := by
  intro a0
  have h0 : Keeps 0x20000000000040008000000080000400380015c0010000000000000800000618000010000000007003d0094000080010014000004080421b0000002098100095302100007c000000140 a0 a0 := Keeps.refl _
  unfold applyConfig
  repeat' first
    | with_reducible assumption
    | ((with_reducible refine EdgField.upd_of ?_); intro i x hi; cases i <;> first | exact Keeps.no rfl hi | exact rfl | (split <;> rfl) | ((repeat' split) <;> rfl))
    | ((with_reducible refine FrtField.upd_of ?_); intro i x hi; cases i <;> first | exact Keeps.no rfl hi | exact rfl | (split <;> rfl) | ((repeat' split) <;> rfl))
    | intro _
    | (extract_lets +onlyGivenNames x; refine Keeps.cut x ?_ (fun hx => ?_); (revert x; show Keeps _ _ _); on_goal 2 => clear_value x)
    | (extract_lets +onlyGivenNames x; clear_value x)
    | with_reducible apply Keeps.step (keeps_State_modAdc _ _ _)
    | with_reducible apply Keeps.step (keeps_State_modCh _ _ _)
    | with_reducible refine Keeps.modEdg ?_ ?_
    | with_reducible refine Keeps.modRide ?_ ?_
    | with_reducible apply Keeps.step (keeps_State_modTb _ _ _)
    | with_reducible apply Keeps.setBit .SRV_STATUS (group_SRV_STATUS _)
    | with_reducible apply Keeps.step (keeps_bootUp _ _)
    | with_reducible apply Keeps.step (keeps_domainReview _ _)
    | with_reducible apply Keeps.step (keeps_restartTimebases _)
    | with_reducible apply Keeps.step (keeps_showPage _ _)
    | with_reducible apply Keeps.foldl
    | with_reducible apply Keeps.foldlP
    | with_reducible apply Keeps.ite
    | with_reducible apply Keeps.iteP
    | with_reducible decide
    | split

theorem keeps_execSurveyConfigLoad : ∀ a0 a1 a2, KeepsR 0x20000000000040008000000080000401381015d0017c7e000000000800000618000010804010907003ffffffffffffffffffffffffffffffffffffffffffffffffffffffffffffff144 a2 (execSurveyConfigLoad a0 a1 a2) := by
  intro a0 a1 a2
  have h0 : Keeps 0x20000000000040008000000080000401381015d0017c7e000000000800000618000010804010907003ffffffffffffffffffffffffffffffffffffffffffffffffffffffffffffff144 a2 a2 := Keeps.refl _
  unfold execSurveyConfigLoad
  repeat' first
    | with_reducible assumption
    | ((with_reducible refine ModField.upd_of ?_); intro i x hi; cases i <;> first | exact Keeps.no rfl hi | exact rfl | (split <;> rfl) | ((repeat' split) <;> rfl))
    | intro _
    | with_reducible apply Keeps.accepted
    | with_reducible apply KeepsR.next
    | with_reducible apply KeepsR.ite
    | (extract_lets +onlyGivenNames x; refine Keeps.cut x ?_ (fun hx => ?_); (revert x; show Keeps _ _ _); on_goal 2 => clear_value x)
    | (extract_lets +onlyGivenNames x; clear_value x)
    | with_reducible apply Keeps.step (keeps_State_log _ _ _)
    | with_reducible refine Keeps.modMod ?_ ?_
    | with_reducible apply Keeps.on
    | with_reducible apply Keeps.step (keeps_applyConfig _)
    | with_reducible apply Keeps.step (keeps_demandLockout _ _)
    | with_reducible apply Keeps.step (keeps_loadGraph _ _ _)
    | with_reducible apply Keeps.step (keeps_loadSaved _)
    | with_reducible apply Keeps.step (keeps_startSelfCal _)
    | with_reducible apply Keeps.foldl
    | with_reducible apply Keeps.foldlP
    | with_reducible apply Keeps.ite
    | with_reducible apply Keeps.iteP
    | with_reducible decide
    | with_reducible refine Keeps.of_eq (by assumption) ?_
    | split

theorem keeps_nextDiag : ∀ a0, Keeps 0x2000800000000000000000000000000000000000000000000000000000000000000000000000 a0 (nextDiag a0) := by
  intro a0
  have h0 : Keeps 0x2000800000000000000000000000000000000000000000000000000000000000000000000000 a0 a0 := Keeps.refl _
  unfold nextDiag
  repeat' first
    | with_reducible assumption
    | ((with_reducible refine ModField.upd_of ?_); intro i x hi; cases i <;> first | exact Keeps.no rfl hi | exact rfl | (split <;> rfl) | ((repeat' split) <;> rfl))
    | intro _
    | with_reducible refine Keeps.modMod ?_ ?_
    | with_reducible apply Keeps.step (keeps_startDiag _ _)
    | with_reducible apply Keeps.ite
    | with_reducible apply Keeps.iteP
    | with_reducible decide
    | with_reducible refine Keeps.of_eq (by assumption) ?_
    | split

theorem keeps_queueDiags : ∀ a0, Keeps 0x3800800000000000000000000000000000000000000000000000000000000000000000000000 a0 (queueDiags a0) := by
  intro a0
  have h0 : Keeps 0x3800800000000000000000000000000000000000000000000000000000000000000000000000 a0 a0 := Keeps.refl _
  unfold queueDiags
  repeat' first
    | with_reducible assumption
    | ((with_reducible refine ModField.upd_of ?_); intro i x hi; cases i <;> first | exact Keeps.no rfl hi | exact rfl | (split <;> rfl) | ((repeat' split) <;> rfl))
    | ((with_reducible refine StgField.upd_of ?_); intro i x hi; cases i <;> first | exact Keeps.no rfl hi | exact rfl | (split <;> rfl) | ((repeat' split) <;> rfl))
    | exact Or.inl rfl
    | exact Or.inr (fun _ h => h)
    | exact Or.inr (fun _ _ => rfl)
    | ((with_reducible refine Or.inr ?_); intro x h; (repeat' split) <;> first | exact h | exact rfl)
    | intro _
    | (extract_lets +onlyGivenNames x; refine Keeps.cut x ?_ (fun hx => ?_); (revert x; show Keeps _ _ _); on_goal 2 => clear_value x)
    | (extract_lets +onlyGivenNames x; clear_value x)
    | with_reducible refine Keeps.modMod ?_ ?_
    | with_reducible refine Keeps.modStage ?_ ?_ ?_
    | with_reducible apply Keeps.step (keeps_nextDiag _)
    | with_reducible apply Keeps.foldl
    | with_reducible apply Keeps.foldlP
    | with_reducible decide

theorem keeps_execHoldupCheckComplete : ∀ a0 a1 a2 a3, KeepsR 0x3840a10000000000000000000000000005800000000000000000000000000000000000000100 a3 (execHoldupCheckComplete a0 a1 a2 a3) := by
  intro a0 a1 a2 a3
  have h0 : Keeps 0x3840a10000000000000000000000000005800000000000000000000000000000000000000100 a3 a3 := Keeps.refl _
  unfold execHoldupCheckComplete
  repeat' first
    | with_reducible assumption
    | ((with_reducible refine ModField.upd_of ?_); intro i x hi; cases i <;> first | exact Keeps.no rfl hi | exact rfl | (split <;> rfl) | ((repeat' split) <;> rfl))
    | intro _
    | with_reducible apply Keeps.accepted
    | with_reducible apply KeepsR.next
    | with_reducible apply KeepsR.ite
    | (extract_lets +onlyGivenNames x; refine Keeps.cut x ?_ (fun hx => ?_); (revert x; show Keeps _ _ _); on_goal 2 => clear_value x)
    | (extract_lets +onlyGivenNames x; clear_value x)
    | with_reducible apply Keeps.step (keeps_State_log _ _ _)
    | with_reducible refine Keeps.modMod ?_ ?_
    | with_reducible apply Keeps.on
    | with_reducible apply Keeps.setR .NVS_HOLD_V group_NVS_HOLD_V
    | with_reducible apply Keeps.setR .NVS_HOLD_C group_NVS_HOLD_C
    | with_reducible apply Keeps.step (keeps_demandLockout _ _)
    | with_reducible apply Keeps.step (keeps_queueDiags _)
    | with_reducible apply Keeps.ite
    | with_reducible apply Keeps.iteP
    | with_reducible decide
    | split

theorem keeps_execDeferredDiagStart : ∀ a0 a1, KeepsR 0x2000000000000000000000000000000000000000000000000000000000000000000000000000 a1 (execDeferredDiagStart a0 a1) := by
  intro a0 a1
  have h0 : Keeps 0x2000000000000000000000000000000000000000000000000000000000000000000000000000 a1 a1 := Keeps.refl _
  unfold execDeferredDiagStart
  repeat' first
    | with_reducible assumption
    | intro _
    | with_reducible apply Keeps.accepted
    | with_reducible apply KeepsR.next
    | with_reducible apply KeepsR.ite
    | with_reducible apply Keeps.on
    | with_reducible apply Keeps.step (keeps_startDiag _ _)
    | with_reducible apply Keeps.ite
    | with_reducible apply Keeps.iteP
    | with_reducible decide
    | split

theorem keeps_diagPasses : ∀ a0 a1, Keeps 0x4001800000000000000008000310004c0d00000006e0007cc1d9f0a4b33da00000000000000000080010014020004000000000100020981202010000000000000000500 a1 (diagPasses a0 a1) := by
  intro a0 a1
  have h0 : Keeps 0x4001800000000000000008000310004c0d00000006e0007cc1d9f0a4b33da00000000000000000080010014020004000000000100020981202010000000000000000500 a1 a1 := Keeps.refl _
  unfold diagPasses
  repeat' first
    | with_reducible assumption
    | ((with_reducible refine StgField.upd_of ?_); intro i x hi; cases i <;> first | exact Keeps.no rfl hi | exact rfl | (split <;> rfl) | ((repeat' split) <;> rfl))
    | exact Or.inl rfl
    | exact Or.inr (fun _ h => h)
    | exact Or.inr (fun _ _ => rfl)
    | ((with_reducible refine Or.inr ?_); intro x h; (repeat' split) <;> first | exact h | exact rfl)
    | intro _
    | (extract_lets +onlyGivenNames x; refine Keeps.cut x ?_ (fun hx => ?_); (revert x; show Keeps _ _ _); on_goal 2 => clear_value x)
    | (extract_lets +onlyGivenNames x; clear_value x)
    | with_reducible refine Keeps.modStage ?_ ?_ ?_
    | with_reducible apply Keeps.step (keeps_stageArm _ _)
    | with_reducible apply Keeps.ite
    | with_reducible apply Keeps.iteP
    | with_reducible decide
    | split

theorem keeps_execOffStateTestComplete : ∀ a0 a1 a2, KeepsR 0x2000000000004001800000000007400008000310004c0d00000006e0007cc1d9f0a4b33ff00800000000000000080010014020004000200000100022981a0201000100e000000000540 a2 (execOffStateTestComplete a0 a1 a2) := by
  intro a0 a1 a2
  have h0 : Keeps 0x2000000000004001800000000007400008000310004c0d00000006e0007cc1d9f0a4b33ff00800000000000000080010014020004000200000100022981a0201000100e000000000540 a2 a2 := Keeps.refl _
  unfold execOffStateTestComplete
  repeat' first
    | with_reducible assumption
    | ((with_reducible refine StgField.upd_of ?_); intro i x hi; cases i <;> first | exact Keeps.no rfl hi | exact rfl | (split <;> rfl) | ((repeat' split) <;> rfl))
    | exact Or.inl rfl
    | exact Or.inr (fun _ h => h)
    | exact Or.inr (fun _ _ => rfl)
    | ((with_reducible refine Or.inr ?_); intro x h; (repeat' split) <;> first | exact h | exact rfl)
    | intro _
    | with_reducible apply Keeps.accepted
    | with_reducible apply KeepsR.next
    | with_reducible apply KeepsR.ite
    | (extract_lets +onlyGivenNames x; refine Keeps.cut x ?_ (fun hx => ?_); (revert x; show Keeps _ _ _); on_goal 2 => clear_value x)
    | (extract_lets +onlyGivenNames x; clear_value x)
    | with_reducible apply Keeps.step (keeps_State_log _ _ _)
    | with_reducible refine Keeps.modStage ?_ ?_ ?_
    | with_reducible apply Keeps.on
    | with_reducible apply Keeps.setN .GDV_DIAG_RESULT (group_GDV_DIAG_RESULT _)
    | with_reducible apply Keeps.step (keeps_diagPasses _ _)
    | with_reducible apply Keeps.step (keeps_nextDiag _)
    | with_reducible apply Keeps.step (keeps_stageSafe _ _ _)
    | with_reducible apply Keeps.ite
    | with_reducible apply Keeps.iteP
    | with_reducible decide
    | with_reducible refine Keeps.of_eq (by assumption) ?_
    | split

theorem keeps_execLogicImageRestore : ∀ a0, KeepsR 0x69a7a1000000000000000000000000000000000000000000000000000000000000000000400000000000000000000000000004000035b00000000000000000000000000000000100 a0 (execLogicImageRestore a0) := by
  intro a0
  have h0 : Keeps 0x69a7a1000000000000000000000000000000000000000000000000000000000000000000400000000000000000000000000004000035b00000000000000000000000000000000100 a0 a0 := Keeps.refl _
  unfold execLogicImageRestore
  repeat' first
    | with_reducible assumption
    | intro _
    | with_reducible apply Keeps.accepted
    | with_reducible apply KeepsR.next
    | with_reducible apply KeepsR.ite
    | with_reducible apply Keeps.on
    | with_reducible apply Keeps.step (keeps_restoreImage _)
    | with_reducible apply Keeps.ite
    | with_reducible apply Keeps.iteP
    | with_reducible decide
    | split

end Sys2Proof.Machine
end

