-- ==== Sys2Proof/Laws/KeepsModes.lean ====
section
/-!
SUPPORT. What each operation of Machine/Modes.lean may change.
-/

set_option linter.unusedTactic false
set_option linter.tactic.unusedName false
set_option linter.unreachableTactic false

namespace Sys2Proof.Machine

theorem keeps_execModStart : ∀ a0 a1, KeepsR 0xcc87d403fbfbbfb9881736fb1007f60824f7d4f4c10efbff77c0f0009df9ee8007ccfdffffcb37ff30ffe7c03ffffffffffffffffffffffffffffffffffffffffffffffffffffffffffffff5fc a1 (execModStart a0 a1) := by
  intro a0 a1
  have h0 : Keeps 0xcc87d403fbfbbfb9881736fb1007f60824f7d4f4c10efbff77c0f0009df9ee8007ccfdffffcb37ff30ffe7c03ffffffffffffffffffffffffffffffffffffffffffffffffffffffffffffff5fc a1 a1 := Keeps.refl _
  unfold execModStart
  repeat' first
    | with_reducible assumption
    | intro _
    | with_reducible apply Keeps.accepted
    | with_reducible apply KeepsR.next
    | with_reducible apply Keeps.step (keeps_dictReq _ _ _ _ _)
    | with_reducible apply Keeps.answer
    | with_reducible apply Keeps.answerRead
    | with_reducible decide

theorem keeps_execModStop : ∀ a0 a1, KeepsR 0xcc87d403fbfbbfb9881736fb1007f60824f7d4f4c10efbff77c0f0009df9ee8007ccfdffffcb37ff30ffe7c03ffffffffffffffffffffffffffffffffffffffffffffffffffffffffffffff5fc a1 (execModStop a0 a1) := by
  intro a0 a1
  have h0 : Keeps 0xcc87d403fbfbbfb9881736fb1007f60824f7d4f4c10efbff77c0f0009df9ee8007ccfdffffcb37ff30ffe7c03ffffffffffffffffffffffffffffffffffffffffffffffffffffffffffffff5fc a1 a1 := Keeps.refl _
  unfold execModStop
  repeat' first
    | with_reducible assumption
    | intro _
    | with_reducible apply Keeps.accepted
    | with_reducible apply KeepsR.next
    | with_reducible apply Keeps.step (keeps_dictReq _ _ _ _ _)
    | with_reducible apply Keeps.answer
    | with_reducible apply Keeps.answerRead
    | with_reducible decide

theorem keeps_execServiceRelease : ∀ a0 a1, KeepsR 0xcc87d403fbfbbfb9881736fb1007f60824f7d4f4c10efbff77c0f0009df9ee8007ccfdffffcb37ff30ffe7c03ffffffffffffffffffffffffffffffffffffffffffffffffffffffffffffff5fc a1 (execServiceRelease a0 a1) := by
  intro a0 a1
  have h0 : Keeps 0xcc87d403fbfbbfb9881736fb1007f60824f7d4f4c10efbff77c0f0009df9ee8007ccfdffffcb37ff30ffe7c03ffffffffffffffffffffffffffffffffffffffffffffffffffffffffffffff5fc a1 a1 := Keeps.refl _
  unfold execServiceRelease
  repeat' first
    | with_reducible assumption
    | intro _
    | with_reducible apply Keeps.accepted
    | with_reducible apply KeepsR.next
    | with_reducible apply Keeps.step (keeps_dictReq _ _ _ _ _)
    | with_reducible apply Keeps.answer
    | with_reducible apply Keeps.answerRead
    | with_reducible decide

theorem keeps_execStartStage : ∀ a0 a1 a2, KeepsR 0xcc87d403fbfbbfb9881736fb1007f60824f7d4f4c10efbff77c0f0009df9ee8007ccfdffffcb37ff30ffe7c03ffffffffffffffffffffffffffffffffffffffffffffffffffffffffffffff5fc a2 (execStartStage a0 a1 a2) := by
  intro a0 a1 a2
  have h0 : Keeps 0xcc87d403fbfbbfb9881736fb1007f60824f7d4f4c10efbff77c0f0009df9ee8007ccfdffffcb37ff30ffe7c03ffffffffffffffffffffffffffffffffffffffffffffffffffffffffffffff5fc a2 a2 := Keeps.refl _
  unfold execStartStage
  repeat' first
    | with_reducible assumption
    | intro _
    | with_reducible apply Keeps.accepted
    | with_reducible apply KeepsR.next
    | with_reducible apply Keeps.step (keeps_dictReq _ _ _ _ _)
    | with_reducible apply Keeps.answer
    | with_reducible apply Keeps.answerRead
    | with_reducible decide

theorem keeps_execStopStage : ∀ a0 a1 a2, KeepsR 0xcc87d403fbfbbfb9881736fb1007f60824f7d4f4c10efbff77c0f0009df9ee8007ccfdffffcb37ff30ffe7c03ffffffffffffffffffffffffffffffffffffffffffffffffffffffffffffff5fc a2 (execStopStage a0 a1 a2) := by
  intro a0 a1 a2
  have h0 : Keeps 0xcc87d403fbfbbfb9881736fb1007f60824f7d4f4c10efbff77c0f0009df9ee8007ccfdffffcb37ff30ffe7c03ffffffffffffffffffffffffffffffffffffffffffffffffffffffffffffff5fc a2 a2 := Keeps.refl _
  unfold execStopStage
  repeat' first
    | with_reducible assumption
    | intro _
    | with_reducible apply Keeps.accepted
    | with_reducible apply KeepsR.next
    | with_reducible apply Keeps.step (keeps_dictReq _ _ _ _ _)
    | with_reducible apply Keeps.answer
    | with_reducible apply Keeps.answerRead
    | with_reducible decide

theorem keeps_execResetSafe : ∀ a0 a1 a2, KeepsR 0xcc87d403fbfbbfb9881736fb1007f60824f7d4f4c10efbff77c0f0009df9ee8007ccfdffffcb37ff30ffe7c03ffffffffffffffffffffffffffffffffffffffffffffffffffffffffffffff5fc a2 (execResetSafe a0 a1 a2) := by
  intro a0 a1 a2
  have h0 : Keeps 0xcc87d403fbfbbfb9881736fb1007f60824f7d4f4c10efbff77c0f0009df9ee8007ccfdffffcb37ff30ffe7c03ffffffffffffffffffffffffffffffffffffffffffffffffffffffffffffff5fc a2 a2 := Keeps.refl _
  unfold execResetSafe
  repeat' first
    | with_reducible assumption
    | intro _
    | with_reducible apply Keeps.accepted
    | with_reducible apply KeepsR.next
    | with_reducible apply Keeps.step (keeps_dictReq _ _ _ _ _)
    | with_reducible apply Keeps.answer
    | with_reducible apply Keeps.answerRead
    | with_reducible decide

theorem keeps_execChargeTimeout : ∀ a0, KeepsR 0x20000000000000000000000000004000000000000000000000000000000000000000100 a0 (execChargeTimeout a0) := by
  intro a0
  have h0 : Keeps 0x20000000000000000000000000004000000000000000000000000000000000000000100 a0 a0 := Keeps.refl _
  unfold execChargeTimeout
  repeat' first
    | with_reducible assumption
    | intro _
    | with_reducible apply Keeps.accepted
    | with_reducible apply KeepsR.next
    | with_reducible apply KeepsR.ite
    | with_reducible apply Keeps.step (keeps_State_log _ _ _)
    | with_reducible apply Keeps.on
    | with_reducible apply Keeps.step (keeps_demandStop _ _)
    | with_reducible apply Keeps.ite
    | with_reducible apply Keeps.iteP
    | with_reducible apply Keeps.answer
    | with_reducible apply Keeps.answerRead
    | with_reducible decide
    | split

theorem keeps_execStopTimeout : ∀ a0, KeepsR 0x10000000000000000000000000004000000000000000000000000000000000000000100 a0 (execStopTimeout a0) := by
  intro a0
  have h0 : Keeps 0x10000000000000000000000000004000000000000000000000000000000000000000100 a0 a0 := Keeps.refl _
  unfold execStopTimeout
  repeat' first
    | with_reducible assumption
    | intro _
    | with_reducible apply Keeps.accepted
    | with_reducible apply KeepsR.next
    | with_reducible apply KeepsR.ite
    | (extract_lets +onlyGivenNames x; clear_value x)
    | with_reducible apply Keeps.step (keeps_State_log _ _ _)
    | with_reducible apply Keeps.on
    | with_reducible apply Keeps.step (keeps_demandLockout _ _)
    | with_reducible apply Keeps.ite
    | with_reducible apply Keeps.iteP
    | with_reducible apply Keeps.answer
    | with_reducible apply Keeps.answerRead
    | with_reducible decide
    | split

theorem keeps_takeView : ∀ a0 a1, Keeps 0x40400000000000000000000000000000000000000000000000000000000020000010000000000000000000000000400000000000000000000000000000000000000 a1 (takeView a0 a1) := by
  intro a0 a1
  have h0 : Keeps 0x40400000000000000000000000000000000000000000000000000000000020000010000000000000000000000000400000000000000000000000000000000000000 a1 a1 := Keeps.refl _
  unfold takeView
  repeat' first
    | with_reducible assumption
    | ((with_reducible refine TwnField.upd_of ?_); intro i x hi; cases i <;> first | exact Keeps.no rfl hi | exact rfl | (split <;> rfl) | ((repeat' split) <;> rfl))
    | intro _
    | (extract_lets +onlyGivenNames x; refine Keeps.cut x ?_ (fun hx => ?_); (revert x; show Keeps _ _ _); on_goal 2 => clear_value x)
    | (extract_lets +onlyGivenNames x; clear_value x)
    | with_reducible refine Keeps.modTwn ?_ ?_
    | with_reducible apply Keeps.step (keeps_demandStop _ _)
    | with_reducible apply Keeps.step (keeps_showTwin _)
    | with_reducible apply Keeps.ite
    | with_reducible apply Keeps.iteP
    | with_reducible apply Keeps.answer
    | with_reducible apply Keeps.answerRead
    | with_reducible decide
    | with_reducible refine Keeps.of_eq (by assumption) ?_
    | split

theorem keeps_watchTick : ∀ a0 a1, Keeps 0x200000000000413d800000000007400008000310004c0d00000006e0007cc1d9f0a4b33e74002070000000000008001001c020004000600000100020981a0291000100e000000000540 a1 (watchTick a0 a1) := by
  intro a0 a1
  have h0 : Keeps 0x200000000000413d800000000007400008000310004c0d00000006e0007cc1d9f0a4b33e74002070000000000008001001c020004000600000100020981a0291000100e000000000540 a1 a1 := Keeps.refl _
  unfold watchTick
  repeat' first
    | with_reducible assumption
    | ((with_reducible refine ModField.upd_of ?_); intro i x hi; cases i <;> first | exact Keeps.no rfl hi | exact rfl | (split <;> rfl) | ((repeat' split) <;> rfl))
    | ((with_reducible refine SafField.upd_of ?_); intro i x hi; cases i <;> first | exact Keeps.no rfl hi | exact rfl | (split <;> rfl) | ((repeat' split) <;> rfl))
    | intro _
    | (extract_lets +onlyGivenNames x; refine Keeps.cut x ?_ (fun hx => ?_); (revert x; show Keeps _ _ _); on_goal 2 => clear_value x)
    | (extract_lets +onlyGivenNames x; clear_value x)
    | with_reducible refine Keeps.modMod ?_ ?_
    | with_reducible refine Keeps.modSaf ?_ ?_
    | with_reducible apply Keeps.step (keeps_coverReview _)
    | with_reducible apply Keeps.step (keeps_permitReview _)
    | with_reducible apply Keeps.step (keeps_plausible _ _ _)
    | with_reducible apply Keeps.step (keeps_refreshPermissions _)
    | with_reducible apply Keeps.step (keeps_ssdJudge _ _)
    | with_reducible apply Keeps.step (keeps_ssdMeasure _ _)
    | with_reducible apply Keeps.foldl
    | with_reducible apply Keeps.foldlP
    | with_reducible apply Keeps.answer
    | with_reducible apply Keeps.answerRead
    | with_reducible decide

theorem keeps_pairTick : ∀ a0, Keeps 0x180e1000000000000d80010000000000000000000000000000000000000000000010000000000000000000000000400000000120800000000000000000000000000 a0 (pairTick a0) := by
  intro a0
  have h0 : Keeps 0x180e1000000000000d80010000000000000000000000000000000000000000000010000000000000000000000000400000000120800000000000000000000000000 a0 a0 := Keeps.refl _
  unfold pairTick
  repeat' first
    | with_reducible assumption
    | ((with_reducible refine TwnField.upd_of ?_); intro i x hi; cases i <;> first | exact Keeps.no rfl hi | exact rfl | (split <;> rfl) | ((repeat' split) <;> rfl))
    | intro _
    | (extract_lets +onlyGivenNames x; refine Keeps.cut x ?_ (fun hx => ?_); (revert x; show Keeps _ _ _); on_goal 2 => clear_value x)
    | (extract_lets +onlyGivenNames x; clear_value x)
    | with_reducible refine Keeps.modTwn ?_ ?_
    | with_reducible apply Keeps.step (keeps_armedReview _)
    | with_reducible apply Keeps.step (keeps_claimReleases _)
    | with_reducible apply Keeps.step (keeps_holdoffReview _)
    | with_reducible apply Keeps.step (keeps_showTwin _)
    | with_reducible apply Keeps.ite
    | with_reducible apply Keeps.iteP
    | with_reducible apply Keeps.answer
    | with_reducible apply Keeps.answerRead
    | with_reducible decide
    | with_reducible refine Keeps.of_eq (by assumption) ?_
    | split

theorem keeps_watched : ∀ a0 a1, Keeps 0x200000000000413dc04000000007400008000310004c0d00000006e0007cc1d9f0a4b33e74002070001000000008001001c020004000600000100020981a0291000100e000000000540 a1 (watched a0 a1) := by
  intro a0 a1
  have h0 : Keeps 0x200000000000413dc04000000007400008000310004c0d00000006e0007cc1d9f0a4b33e74002070001000000008001001c020004000600000100020981a0291000100e000000000540 a1 a1 := Keeps.refl _
  unfold watched
  repeat' first
    | with_reducible assumption
    | intro _
    | with_reducible apply Keeps.step (keeps_takeView _ _)
    | with_reducible apply Keeps.step (keeps_watchTick _ _)
    | with_reducible apply Keeps.answer
    | with_reducible apply Keeps.answerRead
    | with_reducible decide

theorem keeps_conditioned : ∀ a0 a1, Keeps 0x2216bbfa1881533dc14050008007454c4c10e73ff77c0f0009df9ee8007ccfdffefcb37f770ffe7003ffffffffffffffffffffffffffffffffffffffffffffffffffffffffffffff5d4 a1 (conditioned a0 a1) := by
  intro a0 a1
  have h0 : Keeps 0x2216bbfa1881533dc14050008007454c4c10e73ff77c0f0009df9ee8007ccfdffefcb37f770ffe7003ffffffffffffffffffffffffffffffffffffffffffffffffffffffffffffff5d4 a1 a1 := Keeps.refl _
  unfold conditioned
  repeat' first
    | with_reducible assumption
    | intro _
    | with_reducible apply Keeps.step (keeps_tickConditions _ _)
    | with_reducible apply Keeps.step (keeps_watched _ _)
    | with_reducible apply Keeps.answer
    | with_reducible apply Keeps.answerRead
    | with_reducible decide

theorem keeps_modeTick : ∀ a0 a1, Keeps 0x2216bbfa1881533dd94e50008007454c4d90e73ff77c0f0009df9ee8007ccfdffefcb37f770ffe7003ffffffffffffffffffffffffffffffffffffffffffffffffffffffffffffff5d4 a1 (modeTick a0 a1) := by
  intro a0 a1
  have h0 : Keeps 0x2216bbfa1881533dd94e50008007454c4d90e73ff77c0f0009df9ee8007ccfdffefcb37f770ffe7003ffffffffffffffffffffffffffffffffffffffffffffffffffffffffffffff5d4 a1 a1 := Keeps.refl _
  unfold modeTick
  repeat' first
    | with_reducible assumption
    | intro _
    | with_reducible apply Keeps.step (keeps_conditioned _ _)
    | with_reducible apply Keeps.step (keeps_emcyRelease _)
    | with_reducible apply Keeps.step (keeps_pairTick _)
    | with_reducible apply Keeps.step (keeps_tickCommands _)
    | with_reducible apply Keeps.answer
    | with_reducible apply Keeps.answerRead
    | with_reducible decide

theorem keeps_execModeTick : ∀ a0 a1, KeepsR 0x2216bbfa1881533dd94e50008007454c4d90e73ff77c0f0009df9ee8007ccfdffefcb37f770ffe7003ffffffffffffffffffffffffffffffffffffffffffffffffffffffffffffff5d4 a1 (execModeTick a0 a1) := by
  intro a0 a1
  have h0 : Keeps 0x2216bbfa1881533dd94e50008007454c4d90e73ff77c0f0009df9ee8007ccfdffefcb37f770ffe7003ffffffffffffffffffffffffffffffffffffffffffffffffffffffffffffff5d4 a1 a1 := Keeps.refl _
  unfold execModeTick
  repeat' first
    | with_reducible assumption
    | intro _
    | with_reducible apply Keeps.accepted
    | with_reducible apply KeepsR.next
    | with_reducible apply Keeps.on
    | with_reducible apply Keeps.step (keeps_modeTick _ _)
    | with_reducible apply Keeps.answer
    | with_reducible apply Keeps.answerRead
    | with_reducible decide

end Sys2Proof.Machine
end

