-- ==== Sys2Proof/Laws/Commands.lean ====
section
/-!
SUPPORT. The footprints of commands that come as a write to a command object, closer than that of a dictionary write: what the answer, a
refusal and the command's own operation may change.
-/

namespace Sys2Proof.Machine

/-- A write to the dictionary changes what its effect may change, and what refusing and answering it may. -/
theorem Keeps.ofDictReq {F : Nat} {s : State} {w : Writer} {key : Nat} {v : Val} (e : 324194754321310068737689252492049065165489329249490050675195916413223453136239414722038650917451913539284877361107731058677624855729272757454641242181257850387906599932891689386304 &&& F = 324194754321310068737689252492049065165489329249490050675195916413223453136239414722038650917451913539284877361107731058677624855729272757454641242181257850387906599932891689386304)
    (h : Keeps F s (writeEffect w key v s).2) : Keeps F s (dictReq w key v none s) := by
  have r : ∀ t k a, Keeps F t (t.reply w k a) := fun t k a => ((keeps_State_reply t w k a).mono (by decide : _ &&& 324194754321310068737689252492049065165489329249490050675195916413223453136239414722038650917451913539284877361107731058677624855729272757454641242181257850387906599932891689386304 = _)).mono e
  have g : ∀ t k d, Keeps F t (State.forward t k d) := fun t k d => ((keeps_State_forward t k d).mono (by decide : _ &&& 324194754321310068737689252492049065165489329249490050675195916413223453136239414722038650917451913539284877361107731058677624855729272757454641242181257850387906599932891689386304 = _)).mono e
  have n : ∀ t q k x a, Keeps F t (noteRefused w q k x a t) := fun t q k x a => ((keeps_noteRefused w q k x a t).mono (by decide : _ &&& 324194754321310068737689252492049065165489329249490050675195916413223453136239414722038650917451913539284877361107731058677624855729272757454641242181257850387906599932891689386304 = _)).mono e
  have p : ∀ t b, Keeps F t (t.renew w b) := fun t b => ((keeps_State_renew t w b).mono (by decide : _ &&& 324194754321310068737689252492049065165489329249490050675195916413223453136239414722038650917451913539284877361107731058677624855729272757454641242181257850387906599932891689386304 = _)).mono e
  have a : ∀ x : Option Nat × State, Keeps F s x.2 → Keeps F s (Machine.answer w key x) := by
    intro x hx
    unfold Machine.answer
    split
    · exact hx.trans (r _ _ _)
    · exact hx.trans (p _ _)
  unfold dictReq
  split
  · exact Keeps.refl s
  · apply a
    unfold writeRequest
    split
    · exact Keeps.refl s
    · split
      · exact Keeps.refl s
      · unfold dictWrite
        split
        · dsimp only
          split
          · exact h.trans (g _ _ _)
          · exact h
        · exact n _ _ _ _ _

theorem keeps_ownModStart (w : Writer) (s : State) : KeepsR 0x140239ebbfa1881530d81007e208007454c4c10e73ff77c0f0009df9ee8007ccfdffefcb37f730ffe7003ffffffffffffffffffffffffffffffffffffffffffffffffffffffffffffff5d4 s (execModStart w s) := by
  refine KeepsR.next (Keeps.ofDictReq (by decide) ?_)
  have e : (writeEffect w Obj.MOD_COMMAND (.int 0x5A01) s).2 = (modStart w s).2 := rfl
  rw [e]
  exact (keeps_modStart w s).mono (by decide)

theorem keeps_ownModStop (w : Writer) (s : State) : KeepsR 0x1402396bbfa1881530d810050008007454c4c10e73ff77c0f0009df9ee8007ccfdffefcb37f730ffe7003ffffffffffffffffffffffffffffffffffffffffffffffffffffffffffffff5d4 s (execModStop w s) := by
  refine KeepsR.next (Keeps.ofDictReq (by decide) ?_)
  have e : (writeEffect w Obj.MOD_COMMAND (.int 0x5A02) s).2 = (modStop s).2 := rfl
  rw [e]
  exact (keeps_modStop s).mono (by decide)

theorem keeps_ownServiceRelease (w : Writer) (s : State) : KeepsR 0x1402396bbfa1881530d810050008007454c4c10e73ff77c0f0009df9ee8007ccfdffefcb37f730ffe7003ffffffffffffffffffffffffffffffffffffffffffffffffffffffffffffff5d4 s (execServiceRelease w s) := by
  refine KeepsR.next (Keeps.ofDictReq (by decide) ?_)
  have e : (writeEffect w Obj.MOD_COMMAND (.int 0x5A03) s).2 = (serviceRelease w s).2 := rfl
  rw [e]
  exact (keeps_serviceRelease w s).mono (by decide)

theorem keeps_ownStartStage (n : StageId) (w : Writer) (s : State) : KeepsR 0x1402396bbfa1881530d810050008007454c4c10e73ff77c0f0009df9ee8007ccfdffefcb37f730ffe7003ffffffffffffffffffffffffffffffffffffffffffffffffffffffffffffff5d4 s (execStartStage n w s) := by
  refine KeepsR.next (Keeps.ofDictReq (by decide) ?_)
  have e : (writeEffect w (Obj.MOD_STAGE_CMD n.val) (.int 1) s).2 = (startStage n w s).2 := by
    match n with
    | 0 => rfl
    | 1 => rfl
    | 2 => rfl
    | 3 => rfl
  rw [e]
  exact (keeps_startStage n w s).mono (by decide)

theorem keeps_ownStopStage (n : StageId) (w : Writer) (s : State) : KeepsR 0x1402396bbfa1881530d810050008007454c4c10e73ff77c0f0009df9ee8007ccfdffefcb37f730ffe7003ffffffffffffffffffffffffffffffffffffffffffffffffffffffffffffff5d4 s (execStopStage n w s) := by
  refine KeepsR.next (Keeps.ofDictReq (by decide) ?_)
  have e : (writeEffect w (Obj.MOD_STAGE_CMD n.val) (.int 2) s).2 = (stopStage n w s).2 := by
    match n with
    | 0 => rfl
    | 1 => rfl
    | 2 => rfl
    | 3 => rfl
  rw [e]
  exact (keeps_stopStage n w s).mono (by decide)

theorem keeps_ownResetSafe (n : StageId) (w : Writer) (s : State) : KeepsR 0x1402396bbfa1881530d810050008007454c4c10e73ff77c0f0009df9ee8007ccfdffefcb37ff30ffe7003ffffffffffffffffffffffffffffffffffffffffffffffffffffffffffffff5d4 s (execResetSafe n w s) := by
  refine KeepsR.next (Keeps.ofDictReq (by decide) ?_)
  have e : (writeEffect w (Obj.MOD_STAGE_CMD n.val) (.int 3) s).2 = (resetSafe n w s).2 := by
    match n with
    | 0 => rfl
    | 1 => rfl
    | 2 => rfl
    | 3 => rfl
  rw [e]
  exact (keeps_resetSafe n w s).mono (by decide)

theorem keeps_ownHandoverCmd (w : Writer) (s : State) : KeepsR 0x140038000000000000010000000000000000000000000000000000000000000000000000000000000000010000000000000000000004109400000000000000000000000000000000000140 s (execHandoverCmd w s) := by
  refine KeepsR.next (Keeps.ofDictReq (by decide) ?_)
  have e : (writeEffect w Obj.TWN_CMD (.int 0x5A01) s).2 = (handoverCommand w s).2 := rfl
  rw [e]
  exact (keeps_handoverCommand w s).mono (by decide)

theorem keeps_ownTagPeek (tag : Nat) (w : Writer) (s : State) : KeepsR 0x14003a000000000000000000000000000000000000000000000000000000000000000000000000000000000000000000000000000004109400000000000000000000000000000000000140 s (execTagPeek tag w s) := by
  refine KeepsR.next (Keeps.ofDictReq (by decide) ?_)
  have e : writeEffect w Obj.LGC_PEEK_TAG (.int tag) s = otherCommand w Obj.LGC_PEEK_TAG (.int tag) s := rfl
  rw [e]
  unfold otherCommand
  simp only [show (Obj.LGC_PEEK_TAG = Obj.ACQ_CMD) = False by decide, show (0x4C60 ≤ Obj.LGC_PEEK_TAG / 256 ∧ Obj.LGC_PEEK_TAG / 256 < 0x4C70) = False by decide,
    show (Obj.LGC_PEEK_TAG = Obj.LGC_CMD) = False by decide, show (Obj.LGC_PEEK_TAG = Obj.LGC_CMD_INSTANT) = False by decide,
    show (Obj.LGC_PEEK_TAG = Obj.LGC_STAGE_DATA) = False by decide, if_false, if_true]
  split
  · show Keeps _ s (s.modLgc fun l => { l with peek := (Val.int (tag : Int)).toInt.toNat })
    refine Keeps.modLgc (LgcField.upd_of ?_) (Keeps.refl s)
    intro f x hi
    cases f <;> first | exact Keeps.no rfl hi | exact rfl
  · exact Keeps.refl s

theorem writeEffect_host {key : Nat} (i : 0xA000 ≤ key / 256) (v : Val) (w : Writer) (s : State) :
    writeEffect w key v s = done (hostWrite (tagOfKey key) v s) := by
  unfold writeEffect
  exact if_pos i

theorem keeps_hostTag {key : Nat} (i : 0xA000 ≤ key / 256) (v : Val) (w : Writer) (s : State) : Keeps 0x140038200000000000000000000000000000000000000000000000000000000000000000000000000000000000000000000000000004109400000000000000000000000000000000000140 s (dictReq w key v none s) := by
  refine Keeps.ofDictReq (by decide) ?_
  rw [writeEffect_host i]
  refine Keeps.done ?_
  exact (keeps_hostWrite _ _ _).mono (by decide)

theorem keeps_ownHostTagWrite (tag : Nat) (v : Val) (w : Writer) (s : State) : KeepsR 0x140038200000000000000000000000000000000000000000000000000000000000000000000000000000000000000000000000000004109400000000000000000000000000000000000140 s (execHostTagWrite tag v w s) :=
  KeepsR.next (keeps_hostTag (by have := Nat.le_add_right 0xA00000 tag; exact (Nat.le_div_iff_mul_le (by decide)).2 this) v w s)

/-- The row of the logic engine's cycle period. -/
def periodRow : ObjRow := (objRow (Obj.LGC_CYCLE_PERIOD / 256) (Obj.LGC_CYCLE_PERIOD % 256)).getD ⟨"", 0, 0, 0, 0, 0, .u8, .ro, .int 0, false, .any, .nextCommit⟩

theorem objRow_period : objRow (Obj.LGC_CYCLE_PERIOD / 256) (Obj.LGC_CYCLE_PERIOD % 256) = some periodRow := by decide

theorem keeps_ownCyclePeriodWrite (ms : Nat) (w : Writer) (s : State) : KeepsR 0x14023800000008040018100000080077d4848000730770c0f0009df86e8007ccfd9f0a4b33e7000007003ffffffffffffffffffffffffffffffffffffffffffffffffffffffffffffff1fc s (execCyclePeriodWrite ms w s) := by
  refine KeepsR.next (Keeps.ofDictReq (by decide) ?_)
  have e : writeEffect w Obj.LGC_CYCLE_PERIOD (.int ms) s = done (plainWrite periodRow Obj.LGC_CYCLE_PERIOD (.int ms) s) := by
    unfold writeEffect
    simp only [show (0xA000 ≤ Obj.LGC_CYCLE_PERIOD / 256) = False by decide, if_false]
    have b : blockOf s (Obj.LGC_CYCLE_PERIOD / 256) = none := rfl
    rw [b]
    simp only [show isCommandKey Obj.LGC_CYCLE_PERIOD = false by decide]
    rw [show objRow (Obj.LGC_CYCLE_PERIOD / 256) (Obj.LGC_CYCLE_PERIOD % 256) = some periodRow from objRow_period]
    rfl
  rw [e]
  exact Keeps.done ((keeps_plainWrite _ _ _ _).mono (by decide))

theorem keeps_ownProgramExchange (w : Writer) (s : State) : KeepsR 0x140038080000000000000000000000000000000000000000000000000000000000000000000000000040000000000000000000000004109421b00000000000000000000000000000000140 s (execProgramExchange w s) := by
  refine KeepsR.next (Keeps.ofDictReq (by decide) ?_)
  have e : writeEffect w Obj.LGC_CMD (.int 0x5A01) s = done (programExchange w s) := by
    unfold writeEffect
    simp only [show (0xA000 ≤ Obj.LGC_CMD / 256) = False by decide, if_false, show blockOf s (Obj.LGC_CMD / 256) = none from rfl,
      show isCommandKey Obj.LGC_CMD = true by decide, if_true]
    have k : commandEffect w Obj.LGC_CMD (.int 0x5A01) s = otherCommand w Obj.LGC_CMD (.int 0x5A01) s := rfl
    rw [k]
    unfold otherCommand
    rfl
  rw [e]
  exact Keeps.done ((keeps_programExchange w s).mono (by decide))

theorem keeps_ownDiscardStaged (w : Writer) (s : State) : KeepsR 0x140038000008000000000000000000000000000000000000000000000000000000000000000000000000000000000000000000000004109421b00000000000000000000000000000000140 s (execDiscardStaged w s) := by
  refine KeepsR.next (Keeps.ofDictReq (by decide) ?_)
  have e : (writeEffect w Obj.LGC_CMD (.int 0x5A02) s).2 = (discardStaged s).2 := rfl
  rw [e]
  exact (keeps_discardStaged s).mono (by decide)

theorem keeps_ownResetRetain (w : Writer) (s : State) : KeepsR 0x140038100000000000000000000000000000000000000000000000000000000000000000000000000000000000000000000000000004109400000000000000000000000000000000000140 s (execResetRetain w s) := by
  refine KeepsR.next (Keeps.ofDictReq (by decide) ?_)
  have e : (writeEffect w Obj.LGC_CMD (.int 0x5A03) s).2 = (resetRetain w s).2 := rfl
  rw [e]
  exact (keeps_resetRetain w s).mono (by decide)

theorem keeps_ownOwnershipClaim (w : Writer) (s : State) : KeepsR 0x1400380000000000000000000000000000000000000000000000000000000000000000000000000000000000000000000000000000041a9400000000000000000000000000000000000140 s (execOwnershipClaim w s) := by
  refine KeepsR.next (Keeps.ofDictReq (by decide) ?_)
  have e : (writeEffect w Obj.NET_OWNER_CLAIM (.int 0x5A01) s).2 = (ownClaim w s).2 := rfl
  rw [e]
  exact (keeps_ownClaim w s).mono (by decide)

theorem keeps_ownOwnershipForce (w : Writer) (s : State) : KeepsR 0x1400380000000000000000000000000000000000000000000000000000000000000000000000000000000000000000000000000000041a9400000000000000000000000000000000000140 s (execOwnershipForce w s) := by
  refine KeepsR.next (Keeps.ofDictReq (by decide) ?_)
  have e : (writeEffect w Obj.NET_OWNER_CLAIM (.int 0x5A02) s).2 = (ownForce w s).2 := rfl
  rw [e]
  exact (keeps_ownForce w s).mono (by decide)

theorem keeps_ownOwnershipRelease (w : Writer) (s : State) : KeepsR 0x1400380000000000000000000000000000000000000000000000000000000000000000000000000000000000000000000000000000041a9400000000000000000000000000000000000140 s (execOwnershipRelease w s) := by
  refine KeepsR.next (Keeps.ofDictReq (by decide) ?_)
  have e : (writeEffect w Obj.NET_OWNER_CLAIM (.int 0x5A03) s).2 = (ownRelease w s).2 := rfl
  rw [e]
  exact (keeps_ownRelease w s).mono (by decide)

theorem keeps_ownServiceResponse (signature : List Nat) (w : Writer) (s : State) : KeepsR 0x1401f8000000000000000000000000000000000000000000000000000000000000000000000000000000000000000000000000000004189400000000000000000000000000000000000140 s (execServiceResponse signature w s) := by
  refine KeepsR.next (Keeps.ofDictReq (by decide) ?_)
  have e : (writeEffect w Obj.NET_SVC_RESPONSE (.bytes signature) s).2 = (serviceResponse signature w s).2 := rfl
  rw [e]
  exact (keeps_serviceResponse signature w s).mono (by decide)

theorem keeps_ownRestoreDefaults (w : Writer) (s : State) : KeepsR 0x540038000000000000000000000000000000000000000000000000000000000000000000000000000000000000000000000000000004109400000000000000000000000000000000000140 s (execRestoreDefaults w s) := by
  refine KeepsR.next (Keeps.ofDictReq (by decide) ?_)
  have e : (writeEffect w Obj.CIA_RESTORE (.int 0x64616F6C) s).2 = (restoreDefaults 0x64616F6C s).2 := rfl
  rw [e]
  exact (keeps_restoreDefaults 0x64616F6C s).mono (by decide)

theorem keeps_ownErrorHistoryClear (w : Writer) (s : State) : KeepsR 0x140038000000000000000000000000000000000000000000000000000000000000000000000000000000000000000000000000000004109400000000000000000000000006000000000140 s (execErrorHistoryClear w s) := by
  refine KeepsR.next (Keeps.ofDictReq (by decide) ?_)
  have e : (writeEffect w Obj.CIA_ERROR_COUNT (.int 0) s).2 = (clearHistory 0 s).2 := rfl
  rw [e]
  exact (keeps_clearHistory 0 s).mono (by decide)

end Sys2Proof.Machine
end

