-- ==== Sys2Proof/Laws/State.lean ====
section
/-!
SUPPORT. What each named update of State does to each field, one lemma per field and update.
-/

namespace Sys2Proof.Machine

variable (s : State)

/-! ### Objects, free values, transmissions -/

@[simp] theorem State.setObj_pending (k : Nat) (v : Val) : (s.setObj k v).pending = s.pending := rfl
@[simp] theorem State.setObj_objs (k : Nat) (v : Val) : (s.setObj k v).objs = cellPut k v s.objs := rfl
@[simp] theorem State.setObj_saved (k : Nat) (v : Val) : (s.setObj k v).saved = s.saved := rfl
@[simp] theorem State.setObj_commitWrites (k : Nat) (v : Val) : (s.setObj k v).commitWrites = s.commitWrites := rfl
@[simp] theorem State.setObj_heldWrites (k : Nat) (v : Val) : (s.setObj k v).heldWrites = s.heldWrites := rfl
@[simp] theorem State.setObj_modeWrites (k : Nat) (v : Val) : (s.setObj k v).modeWrites = s.modeWrites := rfl
@[simp] theorem State.setObj_resetWrites (k : Nat) (v : Val) : (s.setObj k v).resetWrites = s.resetWrites := rfl
@[simp] theorem State.setObj_logSeq (k : Nat) (v : Val) : (s.setObj k v).logSeq = s.logSeq := rfl
@[simp] theorem State.setObj_logBuf (k : Nat) (v : Val) : (s.setObj k v).logBuf = s.logBuf := rfl
@[simp] theorem State.setObj_logFlash (k : Nat) (v : Val) : (s.setObj k v).logFlash = s.logFlash := rfl
@[simp] theorem State.setObj_lastLog (k : Nat) (v : Val) : (s.setObj k v).lastLog = s.lastLog := rfl
@[simp] theorem State.setObj_tx (k : Nat) (v : Val) : (s.setObj k v).tx = s.tx := rfl
@[simp] theorem State.setObj_free (k : Nat) (v : Val) : (s.setObj k v).free = s.free := rfl
@[simp] theorem State.setObj_isl (k : Nat) (v : Val) : (s.setObj k v).isl = s.isl := rfl
@[simp] theorem State.setObj_mod (k : Nat) (v : Val) : (s.setObj k v).mod = s.mod := rfl
@[simp] theorem State.setObj_stg (k : Nat) (v : Val) : (s.setObj k v).stg = s.stg := rfl
@[simp] theorem State.setObj_shr (k : Nat) (v : Val) : (s.setObj k v).shr = s.shr := rfl
@[simp] theorem State.setObj_frt (k : Nat) (v : Val) : (s.setObj k v).frt = s.frt := rfl
@[simp] theorem State.setObj_srv (k : Nat) (v : Val) : (s.setObj k v).srv = s.srv := rfl
@[simp] theorem State.setObj_pie (k : Nat) (v : Val) : (s.setObj k v).pie = s.pie := rfl
@[simp] theorem State.setObj_edg (k : Nat) (v : Val) : (s.setObj k v).edg = s.edg := rfl
@[simp] theorem State.setObj_gdv (k : Nat) (v : Val) : (s.setObj k v).gdv = s.gdv := rfl
@[simp] theorem State.setObj_acq (k : Nat) (v : Val) : (s.setObj k v).acq = s.acq := rfl
@[simp] theorem State.setObj_gal (k : Nat) (v : Val) : (s.setObj k v).gal = s.gal := rfl
@[simp] theorem State.setObj_clk (k : Nat) (v : Val) : (s.setObj k v).clk = s.clk := rfl
@[simp] theorem State.setObj_twn (k : Nat) (v : Val) : (s.setObj k v).twn = s.twn := rfl
@[simp] theorem State.setObj_saf (k : Nat) (v : Val) : (s.setObj k v).saf = s.saf := rfl
@[simp] theorem State.setObj_fio (k : Nat) (v : Val) : (s.setObj k v).fio = s.fio := rfl
@[simp] theorem State.setObj_sup (k : Nat) (v : Val) : (s.setObj k v).sup = s.sup := rfl
@[simp] theorem State.setObj_lgc (k : Nat) (v : Val) : (s.setObj k v).lgc = s.lgc := rfl
@[simp] theorem State.setObj_net (k : Nat) (v : Val) : (s.setObj k v).net = s.net := rfl
@[simp] theorem State.setObj_nvs (k : Nat) (v : Val) : (s.setObj k v).nvs = s.nvs := rfl

@[simp] theorem State.setN_pending (k n : Nat) : (s.setN k n).pending = s.pending := rfl
@[simp] theorem State.setN_objs (k n : Nat) : (s.setN k n).objs = cellPut k (.int n) s.objs := rfl
@[simp] theorem State.setN_saved (k n : Nat) : (s.setN k n).saved = s.saved := rfl
@[simp] theorem State.setN_commitWrites (k n : Nat) : (s.setN k n).commitWrites = s.commitWrites := rfl
@[simp] theorem State.setN_heldWrites (k n : Nat) : (s.setN k n).heldWrites = s.heldWrites := rfl
@[simp] theorem State.setN_modeWrites (k n : Nat) : (s.setN k n).modeWrites = s.modeWrites := rfl
@[simp] theorem State.setN_resetWrites (k n : Nat) : (s.setN k n).resetWrites = s.resetWrites := rfl
@[simp] theorem State.setN_logSeq (k n : Nat) : (s.setN k n).logSeq = s.logSeq := rfl
@[simp] theorem State.setN_logBuf (k n : Nat) : (s.setN k n).logBuf = s.logBuf := rfl
@[simp] theorem State.setN_logFlash (k n : Nat) : (s.setN k n).logFlash = s.logFlash := rfl
@[simp] theorem State.setN_lastLog (k n : Nat) : (s.setN k n).lastLog = s.lastLog := rfl
@[simp] theorem State.setN_tx (k n : Nat) : (s.setN k n).tx = s.tx := rfl
@[simp] theorem State.setN_free (k n : Nat) : (s.setN k n).free = s.free := rfl
@[simp] theorem State.setN_isl (k n : Nat) : (s.setN k n).isl = s.isl := rfl
@[simp] theorem State.setN_mod (k n : Nat) : (s.setN k n).mod = s.mod := rfl
@[simp] theorem State.setN_stg (k n : Nat) : (s.setN k n).stg = s.stg := rfl
@[simp] theorem State.setN_shr (k n : Nat) : (s.setN k n).shr = s.shr := rfl
@[simp] theorem State.setN_frt (k n : Nat) : (s.setN k n).frt = s.frt := rfl
@[simp] theorem State.setN_srv (k n : Nat) : (s.setN k n).srv = s.srv := rfl
@[simp] theorem State.setN_pie (k n : Nat) : (s.setN k n).pie = s.pie := rfl
@[simp] theorem State.setN_edg (k n : Nat) : (s.setN k n).edg = s.edg := rfl
@[simp] theorem State.setN_gdv (k n : Nat) : (s.setN k n).gdv = s.gdv := rfl
@[simp] theorem State.setN_acq (k n : Nat) : (s.setN k n).acq = s.acq := rfl
@[simp] theorem State.setN_gal (k n : Nat) : (s.setN k n).gal = s.gal := rfl
@[simp] theorem State.setN_clk (k n : Nat) : (s.setN k n).clk = s.clk := rfl
@[simp] theorem State.setN_twn (k n : Nat) : (s.setN k n).twn = s.twn := rfl
@[simp] theorem State.setN_saf (k n : Nat) : (s.setN k n).saf = s.saf := rfl
@[simp] theorem State.setN_fio (k n : Nat) : (s.setN k n).fio = s.fio := rfl
@[simp] theorem State.setN_sup (k n : Nat) : (s.setN k n).sup = s.sup := rfl
@[simp] theorem State.setN_lgc (k n : Nat) : (s.setN k n).lgc = s.lgc := rfl
@[simp] theorem State.setN_net (k n : Nat) : (s.setN k n).net = s.net := rfl
@[simp] theorem State.setN_nvs (k n : Nat) : (s.setN k n).nvs = s.nvs := rfl

@[simp] theorem State.setR_pending (k : Nat) (q : Rat) : (s.setR k q).pending = s.pending := rfl
@[simp] theorem State.setR_objs (k : Nat) (q : Rat) : (s.setR k q).objs = cellPut k (.real q) s.objs := rfl
@[simp] theorem State.setR_saved (k : Nat) (q : Rat) : (s.setR k q).saved = s.saved := rfl
@[simp] theorem State.setR_commitWrites (k : Nat) (q : Rat) : (s.setR k q).commitWrites = s.commitWrites := rfl
@[simp] theorem State.setR_heldWrites (k : Nat) (q : Rat) : (s.setR k q).heldWrites = s.heldWrites := rfl
@[simp] theorem State.setR_modeWrites (k : Nat) (q : Rat) : (s.setR k q).modeWrites = s.modeWrites := rfl
@[simp] theorem State.setR_resetWrites (k : Nat) (q : Rat) : (s.setR k q).resetWrites = s.resetWrites := rfl
@[simp] theorem State.setR_logSeq (k : Nat) (q : Rat) : (s.setR k q).logSeq = s.logSeq := rfl
@[simp] theorem State.setR_logBuf (k : Nat) (q : Rat) : (s.setR k q).logBuf = s.logBuf := rfl
@[simp] theorem State.setR_logFlash (k : Nat) (q : Rat) : (s.setR k q).logFlash = s.logFlash := rfl
@[simp] theorem State.setR_lastLog (k : Nat) (q : Rat) : (s.setR k q).lastLog = s.lastLog := rfl
@[simp] theorem State.setR_tx (k : Nat) (q : Rat) : (s.setR k q).tx = s.tx := rfl
@[simp] theorem State.setR_free (k : Nat) (q : Rat) : (s.setR k q).free = s.free := rfl
@[simp] theorem State.setR_isl (k : Nat) (q : Rat) : (s.setR k q).isl = s.isl := rfl
@[simp] theorem State.setR_mod (k : Nat) (q : Rat) : (s.setR k q).mod = s.mod := rfl
@[simp] theorem State.setR_stg (k : Nat) (q : Rat) : (s.setR k q).stg = s.stg := rfl
@[simp] theorem State.setR_shr (k : Nat) (q : Rat) : (s.setR k q).shr = s.shr := rfl
@[simp] theorem State.setR_frt (k : Nat) (q : Rat) : (s.setR k q).frt = s.frt := rfl
@[simp] theorem State.setR_srv (k : Nat) (q : Rat) : (s.setR k q).srv = s.srv := rfl
@[simp] theorem State.setR_pie (k : Nat) (q : Rat) : (s.setR k q).pie = s.pie := rfl
@[simp] theorem State.setR_edg (k : Nat) (q : Rat) : (s.setR k q).edg = s.edg := rfl
@[simp] theorem State.setR_gdv (k : Nat) (q : Rat) : (s.setR k q).gdv = s.gdv := rfl
@[simp] theorem State.setR_acq (k : Nat) (q : Rat) : (s.setR k q).acq = s.acq := rfl
@[simp] theorem State.setR_gal (k : Nat) (q : Rat) : (s.setR k q).gal = s.gal := rfl
@[simp] theorem State.setR_clk (k : Nat) (q : Rat) : (s.setR k q).clk = s.clk := rfl
@[simp] theorem State.setR_twn (k : Nat) (q : Rat) : (s.setR k q).twn = s.twn := rfl
@[simp] theorem State.setR_saf (k : Nat) (q : Rat) : (s.setR k q).saf = s.saf := rfl
@[simp] theorem State.setR_fio (k : Nat) (q : Rat) : (s.setR k q).fio = s.fio := rfl
@[simp] theorem State.setR_sup (k : Nat) (q : Rat) : (s.setR k q).sup = s.sup := rfl
@[simp] theorem State.setR_lgc (k : Nat) (q : Rat) : (s.setR k q).lgc = s.lgc := rfl
@[simp] theorem State.setR_net (k : Nat) (q : Rat) : (s.setR k q).net = s.net := rfl
@[simp] theorem State.setR_nvs (k : Nat) (q : Rat) : (s.setR k q).nvs = s.nvs := rfl

@[simp] theorem State.bump_pending (k : Nat) : (s.bump k).pending = s.pending := rfl
@[simp] theorem State.bump_objs (k : Nat) : (s.bump k).objs = cellPut k (.int (s.objN k + 1 : Nat)) s.objs := rfl
@[simp] theorem State.bump_saved (k : Nat) : (s.bump k).saved = s.saved := rfl
@[simp] theorem State.bump_commitWrites (k : Nat) : (s.bump k).commitWrites = s.commitWrites := rfl
@[simp] theorem State.bump_heldWrites (k : Nat) : (s.bump k).heldWrites = s.heldWrites := rfl
@[simp] theorem State.bump_modeWrites (k : Nat) : (s.bump k).modeWrites = s.modeWrites := rfl
@[simp] theorem State.bump_resetWrites (k : Nat) : (s.bump k).resetWrites = s.resetWrites := rfl
@[simp] theorem State.bump_logSeq (k : Nat) : (s.bump k).logSeq = s.logSeq := rfl
@[simp] theorem State.bump_logBuf (k : Nat) : (s.bump k).logBuf = s.logBuf := rfl
@[simp] theorem State.bump_logFlash (k : Nat) : (s.bump k).logFlash = s.logFlash := rfl
@[simp] theorem State.bump_lastLog (k : Nat) : (s.bump k).lastLog = s.lastLog := rfl
@[simp] theorem State.bump_tx (k : Nat) : (s.bump k).tx = s.tx := rfl
@[simp] theorem State.bump_free (k : Nat) : (s.bump k).free = s.free := rfl
@[simp] theorem State.bump_isl (k : Nat) : (s.bump k).isl = s.isl := rfl
@[simp] theorem State.bump_mod (k : Nat) : (s.bump k).mod = s.mod := rfl
@[simp] theorem State.bump_stg (k : Nat) : (s.bump k).stg = s.stg := rfl
@[simp] theorem State.bump_shr (k : Nat) : (s.bump k).shr = s.shr := rfl
@[simp] theorem State.bump_frt (k : Nat) : (s.bump k).frt = s.frt := rfl
@[simp] theorem State.bump_srv (k : Nat) : (s.bump k).srv = s.srv := rfl
@[simp] theorem State.bump_pie (k : Nat) : (s.bump k).pie = s.pie := rfl
@[simp] theorem State.bump_edg (k : Nat) : (s.bump k).edg = s.edg := rfl
@[simp] theorem State.bump_gdv (k : Nat) : (s.bump k).gdv = s.gdv := rfl
@[simp] theorem State.bump_acq (k : Nat) : (s.bump k).acq = s.acq := rfl
@[simp] theorem State.bump_gal (k : Nat) : (s.bump k).gal = s.gal := rfl
@[simp] theorem State.bump_clk (k : Nat) : (s.bump k).clk = s.clk := rfl
@[simp] theorem State.bump_twn (k : Nat) : (s.bump k).twn = s.twn := rfl
@[simp] theorem State.bump_saf (k : Nat) : (s.bump k).saf = s.saf := rfl
@[simp] theorem State.bump_fio (k : Nat) : (s.bump k).fio = s.fio := rfl
@[simp] theorem State.bump_sup (k : Nat) : (s.bump k).sup = s.sup := rfl
@[simp] theorem State.bump_lgc (k : Nat) : (s.bump k).lgc = s.lgc := rfl
@[simp] theorem State.bump_net (k : Nat) : (s.bump k).net = s.net := rfl
@[simp] theorem State.bump_nvs (k : Nat) : (s.bump k).nvs = s.nvs := rfl

@[simp] theorem State.setField_pending (k lo w x : Nat) : (s.setField k lo w x).pending = s.pending := rfl
@[simp] theorem State.setField_objs (k lo w x : Nat) : (s.setField k lo w x).objs = cellPut k (.int (setBitsAt (s.objN k) lo w x)) s.objs := rfl
@[simp] theorem State.setField_saved (k lo w x : Nat) : (s.setField k lo w x).saved = s.saved := rfl
@[simp] theorem State.setField_commitWrites (k lo w x : Nat) : (s.setField k lo w x).commitWrites = s.commitWrites := rfl
@[simp] theorem State.setField_heldWrites (k lo w x : Nat) : (s.setField k lo w x).heldWrites = s.heldWrites := rfl
@[simp] theorem State.setField_modeWrites (k lo w x : Nat) : (s.setField k lo w x).modeWrites = s.modeWrites := rfl
@[simp] theorem State.setField_resetWrites (k lo w x : Nat) : (s.setField k lo w x).resetWrites = s.resetWrites := rfl
@[simp] theorem State.setField_logSeq (k lo w x : Nat) : (s.setField k lo w x).logSeq = s.logSeq := rfl
@[simp] theorem State.setField_logBuf (k lo w x : Nat) : (s.setField k lo w x).logBuf = s.logBuf := rfl
@[simp] theorem State.setField_logFlash (k lo w x : Nat) : (s.setField k lo w x).logFlash = s.logFlash := rfl
@[simp] theorem State.setField_lastLog (k lo w x : Nat) : (s.setField k lo w x).lastLog = s.lastLog := rfl
@[simp] theorem State.setField_tx (k lo w x : Nat) : (s.setField k lo w x).tx = s.tx := rfl
@[simp] theorem State.setField_free (k lo w x : Nat) : (s.setField k lo w x).free = s.free := rfl
@[simp] theorem State.setField_isl (k lo w x : Nat) : (s.setField k lo w x).isl = s.isl := rfl
@[simp] theorem State.setField_mod (k lo w x : Nat) : (s.setField k lo w x).mod = s.mod := rfl
@[simp] theorem State.setField_stg (k lo w x : Nat) : (s.setField k lo w x).stg = s.stg := rfl
@[simp] theorem State.setField_shr (k lo w x : Nat) : (s.setField k lo w x).shr = s.shr := rfl
@[simp] theorem State.setField_frt (k lo w x : Nat) : (s.setField k lo w x).frt = s.frt := rfl
@[simp] theorem State.setField_srv (k lo w x : Nat) : (s.setField k lo w x).srv = s.srv := rfl
@[simp] theorem State.setField_pie (k lo w x : Nat) : (s.setField k lo w x).pie = s.pie := rfl
@[simp] theorem State.setField_edg (k lo w x : Nat) : (s.setField k lo w x).edg = s.edg := rfl
@[simp] theorem State.setField_gdv (k lo w x : Nat) : (s.setField k lo w x).gdv = s.gdv := rfl
@[simp] theorem State.setField_acq (k lo w x : Nat) : (s.setField k lo w x).acq = s.acq := rfl
@[simp] theorem State.setField_gal (k lo w x : Nat) : (s.setField k lo w x).gal = s.gal := rfl
@[simp] theorem State.setField_clk (k lo w x : Nat) : (s.setField k lo w x).clk = s.clk := rfl
@[simp] theorem State.setField_twn (k lo w x : Nat) : (s.setField k lo w x).twn = s.twn := rfl
@[simp] theorem State.setField_saf (k lo w x : Nat) : (s.setField k lo w x).saf = s.saf := rfl
@[simp] theorem State.setField_fio (k lo w x : Nat) : (s.setField k lo w x).fio = s.fio := rfl
@[simp] theorem State.setField_sup (k lo w x : Nat) : (s.setField k lo w x).sup = s.sup := rfl
@[simp] theorem State.setField_lgc (k lo w x : Nat) : (s.setField k lo w x).lgc = s.lgc := rfl
@[simp] theorem State.setField_net (k lo w x : Nat) : (s.setField k lo w x).net = s.net := rfl
@[simp] theorem State.setField_nvs (k lo w x : Nat) : (s.setField k lo w x).nvs = s.nvs := rfl

@[simp] theorem State.setBit_pending (k n : Nat) (b : Bool) : (s.setBit k n b).pending = s.pending := rfl
@[simp] theorem State.setBit_objs (k n : Nat) (b : Bool) : (s.setBit k n b).objs = cellPut k (.int (setBitsAt (s.objN k) n 1 (boolNat b))) s.objs := rfl
@[simp] theorem State.setBit_saved (k n : Nat) (b : Bool) : (s.setBit k n b).saved = s.saved := rfl
@[simp] theorem State.setBit_commitWrites (k n : Nat) (b : Bool) : (s.setBit k n b).commitWrites = s.commitWrites := rfl
@[simp] theorem State.setBit_heldWrites (k n : Nat) (b : Bool) : (s.setBit k n b).heldWrites = s.heldWrites := rfl
@[simp] theorem State.setBit_modeWrites (k n : Nat) (b : Bool) : (s.setBit k n b).modeWrites = s.modeWrites := rfl
@[simp] theorem State.setBit_resetWrites (k n : Nat) (b : Bool) : (s.setBit k n b).resetWrites = s.resetWrites := rfl
@[simp] theorem State.setBit_logSeq (k n : Nat) (b : Bool) : (s.setBit k n b).logSeq = s.logSeq := rfl
@[simp] theorem State.setBit_logBuf (k n : Nat) (b : Bool) : (s.setBit k n b).logBuf = s.logBuf := rfl
@[simp] theorem State.setBit_logFlash (k n : Nat) (b : Bool) : (s.setBit k n b).logFlash = s.logFlash := rfl
@[simp] theorem State.setBit_lastLog (k n : Nat) (b : Bool) : (s.setBit k n b).lastLog = s.lastLog := rfl
@[simp] theorem State.setBit_tx (k n : Nat) (b : Bool) : (s.setBit k n b).tx = s.tx := rfl
@[simp] theorem State.setBit_free (k n : Nat) (b : Bool) : (s.setBit k n b).free = s.free := rfl
@[simp] theorem State.setBit_isl (k n : Nat) (b : Bool) : (s.setBit k n b).isl = s.isl := rfl
@[simp] theorem State.setBit_mod (k n : Nat) (b : Bool) : (s.setBit k n b).mod = s.mod := rfl
@[simp] theorem State.setBit_stg (k n : Nat) (b : Bool) : (s.setBit k n b).stg = s.stg := rfl
@[simp] theorem State.setBit_shr (k n : Nat) (b : Bool) : (s.setBit k n b).shr = s.shr := rfl
@[simp] theorem State.setBit_frt (k n : Nat) (b : Bool) : (s.setBit k n b).frt = s.frt := rfl
@[simp] theorem State.setBit_srv (k n : Nat) (b : Bool) : (s.setBit k n b).srv = s.srv := rfl
@[simp] theorem State.setBit_pie (k n : Nat) (b : Bool) : (s.setBit k n b).pie = s.pie := rfl
@[simp] theorem State.setBit_edg (k n : Nat) (b : Bool) : (s.setBit k n b).edg = s.edg := rfl
@[simp] theorem State.setBit_gdv (k n : Nat) (b : Bool) : (s.setBit k n b).gdv = s.gdv := rfl
@[simp] theorem State.setBit_acq (k n : Nat) (b : Bool) : (s.setBit k n b).acq = s.acq := rfl
@[simp] theorem State.setBit_gal (k n : Nat) (b : Bool) : (s.setBit k n b).gal = s.gal := rfl
@[simp] theorem State.setBit_clk (k n : Nat) (b : Bool) : (s.setBit k n b).clk = s.clk := rfl
@[simp] theorem State.setBit_twn (k n : Nat) (b : Bool) : (s.setBit k n b).twn = s.twn := rfl
@[simp] theorem State.setBit_saf (k n : Nat) (b : Bool) : (s.setBit k n b).saf = s.saf := rfl
@[simp] theorem State.setBit_fio (k n : Nat) (b : Bool) : (s.setBit k n b).fio = s.fio := rfl
@[simp] theorem State.setBit_sup (k n : Nat) (b : Bool) : (s.setBit k n b).sup = s.sup := rfl
@[simp] theorem State.setBit_lgc (k n : Nat) (b : Bool) : (s.setBit k n b).lgc = s.lgc := rfl
@[simp] theorem State.setBit_net (k n : Nat) (b : Bool) : (s.setBit k n b).net = s.net := rfl
@[simp] theorem State.setBit_nvs (k n : Nat) (b : Bool) : (s.setBit k n b).nvs = s.nvs := rfl

@[simp] theorem State.draw_pending : (s.draw).pending = s.pending := rfl
@[simp] theorem State.draw_objs : (s.draw).objs = s.objs := rfl
@[simp] theorem State.draw_saved : (s.draw).saved = s.saved := rfl
@[simp] theorem State.draw_commitWrites : (s.draw).commitWrites = s.commitWrites := rfl
@[simp] theorem State.draw_heldWrites : (s.draw).heldWrites = s.heldWrites := rfl
@[simp] theorem State.draw_modeWrites : (s.draw).modeWrites = s.modeWrites := rfl
@[simp] theorem State.draw_resetWrites : (s.draw).resetWrites = s.resetWrites := rfl
@[simp] theorem State.draw_logSeq : (s.draw).logSeq = s.logSeq := rfl
@[simp] theorem State.draw_logBuf : (s.draw).logBuf = s.logBuf := rfl
@[simp] theorem State.draw_logFlash : (s.draw).logFlash = s.logFlash := rfl
@[simp] theorem State.draw_lastLog : (s.draw).lastLog = s.lastLog := rfl
@[simp] theorem State.draw_tx : (s.draw).tx = s.tx := rfl
@[simp] theorem State.draw_free : (s.draw).free = s.free + 1 := rfl
@[simp] theorem State.draw_isl : (s.draw).isl = s.isl := rfl
@[simp] theorem State.draw_mod : (s.draw).mod = s.mod := rfl
@[simp] theorem State.draw_stg : (s.draw).stg = s.stg := rfl
@[simp] theorem State.draw_shr : (s.draw).shr = s.shr := rfl
@[simp] theorem State.draw_frt : (s.draw).frt = s.frt := rfl
@[simp] theorem State.draw_srv : (s.draw).srv = s.srv := rfl
@[simp] theorem State.draw_pie : (s.draw).pie = s.pie := rfl
@[simp] theorem State.draw_edg : (s.draw).edg = s.edg := rfl
@[simp] theorem State.draw_gdv : (s.draw).gdv = s.gdv := rfl
@[simp] theorem State.draw_acq : (s.draw).acq = s.acq := rfl
@[simp] theorem State.draw_gal : (s.draw).gal = s.gal := rfl
@[simp] theorem State.draw_clk : (s.draw).clk = s.clk := rfl
@[simp] theorem State.draw_twn : (s.draw).twn = s.twn := rfl
@[simp] theorem State.draw_saf : (s.draw).saf = s.saf := rfl
@[simp] theorem State.draw_fio : (s.draw).fio = s.fio := rfl
@[simp] theorem State.draw_sup : (s.draw).sup = s.sup := rfl
@[simp] theorem State.draw_lgc : (s.draw).lgc = s.lgc := rfl
@[simp] theorem State.draw_net : (s.draw).net = s.net := rfl
@[simp] theorem State.draw_nvs : (s.draw).nvs = s.nvs := rfl

@[simp] theorem State.send_pending (p k : Nat) (d : List Int) : (s.send p k d).pending = s.pending := rfl
@[simp] theorem State.send_objs (p k : Nat) (d : List Int) : (s.send p k d).objs = s.objs := rfl
@[simp] theorem State.send_saved (p k : Nat) (d : List Int) : (s.send p k d).saved = s.saved := rfl
@[simp] theorem State.send_commitWrites (p k : Nat) (d : List Int) : (s.send p k d).commitWrites = s.commitWrites := rfl
@[simp] theorem State.send_heldWrites (p k : Nat) (d : List Int) : (s.send p k d).heldWrites = s.heldWrites := rfl
@[simp] theorem State.send_modeWrites (p k : Nat) (d : List Int) : (s.send p k d).modeWrites = s.modeWrites := rfl
@[simp] theorem State.send_resetWrites (p k : Nat) (d : List Int) : (s.send p k d).resetWrites = s.resetWrites := rfl
@[simp] theorem State.send_logSeq (p k : Nat) (d : List Int) : (s.send p k d).logSeq = s.logSeq := rfl
@[simp] theorem State.send_logBuf (p k : Nat) (d : List Int) : (s.send p k d).logBuf = s.logBuf := rfl
@[simp] theorem State.send_logFlash (p k : Nat) (d : List Int) : (s.send p k d).logFlash = s.logFlash := rfl
@[simp] theorem State.send_lastLog (p k : Nat) (d : List Int) : (s.send p k d).lastLog = s.lastLog := rfl
@[simp] theorem State.send_tx (p k : Nat) (d : List Int) : (s.send p k d).tx = ⟨p, k, d⟩ :: s.tx := rfl
@[simp] theorem State.send_free (p k : Nat) (d : List Int) : (s.send p k d).free = s.free := rfl
@[simp] theorem State.send_isl (p k : Nat) (d : List Int) : (s.send p k d).isl = s.isl := rfl
@[simp] theorem State.send_mod (p k : Nat) (d : List Int) : (s.send p k d).mod = s.mod := rfl
@[simp] theorem State.send_stg (p k : Nat) (d : List Int) : (s.send p k d).stg = s.stg := rfl
@[simp] theorem State.send_shr (p k : Nat) (d : List Int) : (s.send p k d).shr = s.shr := rfl
@[simp] theorem State.send_frt (p k : Nat) (d : List Int) : (s.send p k d).frt = s.frt := rfl
@[simp] theorem State.send_srv (p k : Nat) (d : List Int) : (s.send p k d).srv = s.srv := rfl
@[simp] theorem State.send_pie (p k : Nat) (d : List Int) : (s.send p k d).pie = s.pie := rfl
@[simp] theorem State.send_edg (p k : Nat) (d : List Int) : (s.send p k d).edg = s.edg := rfl
@[simp] theorem State.send_gdv (p k : Nat) (d : List Int) : (s.send p k d).gdv = s.gdv := rfl
@[simp] theorem State.send_acq (p k : Nat) (d : List Int) : (s.send p k d).acq = s.acq := rfl
@[simp] theorem State.send_gal (p k : Nat) (d : List Int) : (s.send p k d).gal = s.gal := rfl
@[simp] theorem State.send_clk (p k : Nat) (d : List Int) : (s.send p k d).clk = s.clk := rfl
@[simp] theorem State.send_twn (p k : Nat) (d : List Int) : (s.send p k d).twn = s.twn := rfl
@[simp] theorem State.send_saf (p k : Nat) (d : List Int) : (s.send p k d).saf = s.saf := rfl
@[simp] theorem State.send_fio (p k : Nat) (d : List Int) : (s.send p k d).fio = s.fio := rfl
@[simp] theorem State.send_sup (p k : Nat) (d : List Int) : (s.send p k d).sup = s.sup := rfl
@[simp] theorem State.send_lgc (p k : Nat) (d : List Int) : (s.send p k d).lgc = s.lgc := rfl
@[simp] theorem State.send_net (p k : Nat) (d : List Int) : (s.send p k d).net = s.net := rfl
@[simp] theorem State.send_nvs (p k : Nat) (d : List Int) : (s.send p k d).nvs = s.nvs := rfl

@[simp] theorem State.modStage_pending (n : StageId) (f : StageCore → StageCore) : (s.modStage n f).pending = s.pending := rfl
@[simp] theorem State.modStage_objs (n : StageId) (f : StageCore → StageCore) : (s.modStage n f).objs = s.objs := rfl
@[simp] theorem State.modStage_saved (n : StageId) (f : StageCore → StageCore) : (s.modStage n f).saved = s.saved := rfl
@[simp] theorem State.modStage_commitWrites (n : StageId) (f : StageCore → StageCore) : (s.modStage n f).commitWrites = s.commitWrites := rfl
@[simp] theorem State.modStage_heldWrites (n : StageId) (f : StageCore → StageCore) : (s.modStage n f).heldWrites = s.heldWrites := rfl
@[simp] theorem State.modStage_modeWrites (n : StageId) (f : StageCore → StageCore) : (s.modStage n f).modeWrites = s.modeWrites := rfl
@[simp] theorem State.modStage_resetWrites (n : StageId) (f : StageCore → StageCore) : (s.modStage n f).resetWrites = s.resetWrites := rfl
@[simp] theorem State.modStage_logSeq (n : StageId) (f : StageCore → StageCore) : (s.modStage n f).logSeq = s.logSeq := rfl
@[simp] theorem State.modStage_logBuf (n : StageId) (f : StageCore → StageCore) : (s.modStage n f).logBuf = s.logBuf := rfl
@[simp] theorem State.modStage_logFlash (n : StageId) (f : StageCore → StageCore) : (s.modStage n f).logFlash = s.logFlash := rfl
@[simp] theorem State.modStage_lastLog (n : StageId) (f : StageCore → StageCore) : (s.modStage n f).lastLog = s.lastLog := rfl
@[simp] theorem State.modStage_tx (n : StageId) (f : StageCore → StageCore) : (s.modStage n f).tx = s.tx := rfl
@[simp] theorem State.modStage_free (n : StageId) (f : StageCore → StageCore) : (s.modStage n f).free = s.free := rfl
@[simp] theorem State.modStage_isl (n : StageId) (f : StageCore → StageCore) : (s.modStage n f).isl = s.isl := rfl
@[simp] theorem State.modStage_mod (n : StageId) (f : StageCore → StageCore) : (s.modStage n f).mod = s.mod := rfl
@[simp] theorem State.modStage_stg (n : StageId) (f : StageCore → StageCore) : (s.modStage n f).stg = s.stg.set n (f s.stg[n]) := rfl
@[simp] theorem State.modStage_shr (n : StageId) (f : StageCore → StageCore) : (s.modStage n f).shr = s.shr := rfl
@[simp] theorem State.modStage_frt (n : StageId) (f : StageCore → StageCore) : (s.modStage n f).frt = s.frt := rfl
@[simp] theorem State.modStage_srv (n : StageId) (f : StageCore → StageCore) : (s.modStage n f).srv = s.srv := rfl
@[simp] theorem State.modStage_pie (n : StageId) (f : StageCore → StageCore) : (s.modStage n f).pie = s.pie := rfl
@[simp] theorem State.modStage_edg (n : StageId) (f : StageCore → StageCore) : (s.modStage n f).edg = s.edg := rfl
@[simp] theorem State.modStage_gdv (n : StageId) (f : StageCore → StageCore) : (s.modStage n f).gdv = s.gdv := rfl
@[simp] theorem State.modStage_acq (n : StageId) (f : StageCore → StageCore) : (s.modStage n f).acq = s.acq := rfl
@[simp] theorem State.modStage_gal (n : StageId) (f : StageCore → StageCore) : (s.modStage n f).gal = s.gal := rfl
@[simp] theorem State.modStage_clk (n : StageId) (f : StageCore → StageCore) : (s.modStage n f).clk = s.clk := rfl
@[simp] theorem State.modStage_twn (n : StageId) (f : StageCore → StageCore) : (s.modStage n f).twn = s.twn := rfl
@[simp] theorem State.modStage_saf (n : StageId) (f : StageCore → StageCore) : (s.modStage n f).saf = s.saf := rfl
@[simp] theorem State.modStage_fio (n : StageId) (f : StageCore → StageCore) : (s.modStage n f).fio = s.fio := rfl
@[simp] theorem State.modStage_sup (n : StageId) (f : StageCore → StageCore) : (s.modStage n f).sup = s.sup := rfl
@[simp] theorem State.modStage_lgc (n : StageId) (f : StageCore → StageCore) : (s.modStage n f).lgc = s.lgc := rfl
@[simp] theorem State.modStage_net (n : StageId) (f : StageCore → StageCore) : (s.modStage n f).net = s.net := rfl
@[simp] theorem State.modStage_nvs (n : StageId) (f : StageCore → StageCore) : (s.modStage n f).nvs = s.nvs := rfl

@[simp] theorem State.modStage_at (n : StageId) (f : StageCore → StageCore) (m : StageId) : (s.modStage n f).stg[m] = if n = m then f s.stg[n] else s.stg[m] := by
  show (s.stg.set n (f s.stg[n]))[m] = _
  rw [Fin.getElem_fin, Vector.getElem_set]
  by_cases h : n = m
  · subst h; simp
  · rw [if_neg h, if_neg (fun c => h (Fin.ext c))]; rfl

@[simp] theorem State.modShare_pending (n : StageId) (f : ShareSt → ShareSt) : (s.modShare n f).pending = s.pending := rfl
@[simp] theorem State.modShare_objs (n : StageId) (f : ShareSt → ShareSt) : (s.modShare n f).objs = s.objs := rfl
@[simp] theorem State.modShare_saved (n : StageId) (f : ShareSt → ShareSt) : (s.modShare n f).saved = s.saved := rfl
@[simp] theorem State.modShare_commitWrites (n : StageId) (f : ShareSt → ShareSt) : (s.modShare n f).commitWrites = s.commitWrites := rfl
@[simp] theorem State.modShare_heldWrites (n : StageId) (f : ShareSt → ShareSt) : (s.modShare n f).heldWrites = s.heldWrites := rfl
@[simp] theorem State.modShare_modeWrites (n : StageId) (f : ShareSt → ShareSt) : (s.modShare n f).modeWrites = s.modeWrites := rfl
@[simp] theorem State.modShare_resetWrites (n : StageId) (f : ShareSt → ShareSt) : (s.modShare n f).resetWrites = s.resetWrites := rfl
@[simp] theorem State.modShare_logSeq (n : StageId) (f : ShareSt → ShareSt) : (s.modShare n f).logSeq = s.logSeq := rfl
@[simp] theorem State.modShare_logBuf (n : StageId) (f : ShareSt → ShareSt) : (s.modShare n f).logBuf = s.logBuf := rfl
@[simp] theorem State.modShare_logFlash (n : StageId) (f : ShareSt → ShareSt) : (s.modShare n f).logFlash = s.logFlash := rfl
@[simp] theorem State.modShare_lastLog (n : StageId) (f : ShareSt → ShareSt) : (s.modShare n f).lastLog = s.lastLog := rfl
@[simp] theorem State.modShare_tx (n : StageId) (f : ShareSt → ShareSt) : (s.modShare n f).tx = s.tx := rfl
@[simp] theorem State.modShare_free (n : StageId) (f : ShareSt → ShareSt) : (s.modShare n f).free = s.free := rfl
@[simp] theorem State.modShare_isl (n : StageId) (f : ShareSt → ShareSt) : (s.modShare n f).isl = s.isl := rfl
@[simp] theorem State.modShare_mod (n : StageId) (f : ShareSt → ShareSt) : (s.modShare n f).mod = s.mod := rfl
@[simp] theorem State.modShare_stg (n : StageId) (f : ShareSt → ShareSt) : (s.modShare n f).stg = s.stg := rfl
@[simp] theorem State.modShare_shr (n : StageId) (f : ShareSt → ShareSt) : (s.modShare n f).shr = s.shr.set n (f s.shr[n]) := rfl
@[simp] theorem State.modShare_frt (n : StageId) (f : ShareSt → ShareSt) : (s.modShare n f).frt = s.frt := rfl
@[simp] theorem State.modShare_srv (n : StageId) (f : ShareSt → ShareSt) : (s.modShare n f).srv = s.srv := rfl
@[simp] theorem State.modShare_pie (n : StageId) (f : ShareSt → ShareSt) : (s.modShare n f).pie = s.pie := rfl
@[simp] theorem State.modShare_edg (n : StageId) (f : ShareSt → ShareSt) : (s.modShare n f).edg = s.edg := rfl
@[simp] theorem State.modShare_gdv (n : StageId) (f : ShareSt → ShareSt) : (s.modShare n f).gdv = s.gdv := rfl
@[simp] theorem State.modShare_acq (n : StageId) (f : ShareSt → ShareSt) : (s.modShare n f).acq = s.acq := rfl
@[simp] theorem State.modShare_gal (n : StageId) (f : ShareSt → ShareSt) : (s.modShare n f).gal = s.gal := rfl
@[simp] theorem State.modShare_clk (n : StageId) (f : ShareSt → ShareSt) : (s.modShare n f).clk = s.clk := rfl
@[simp] theorem State.modShare_twn (n : StageId) (f : ShareSt → ShareSt) : (s.modShare n f).twn = s.twn := rfl
@[simp] theorem State.modShare_saf (n : StageId) (f : ShareSt → ShareSt) : (s.modShare n f).saf = s.saf := rfl
@[simp] theorem State.modShare_fio (n : StageId) (f : ShareSt → ShareSt) : (s.modShare n f).fio = s.fio := rfl
@[simp] theorem State.modShare_sup (n : StageId) (f : ShareSt → ShareSt) : (s.modShare n f).sup = s.sup := rfl
@[simp] theorem State.modShare_lgc (n : StageId) (f : ShareSt → ShareSt) : (s.modShare n f).lgc = s.lgc := rfl
@[simp] theorem State.modShare_net (n : StageId) (f : ShareSt → ShareSt) : (s.modShare n f).net = s.net := rfl
@[simp] theorem State.modShare_nvs (n : StageId) (f : ShareSt → ShareSt) : (s.modShare n f).nvs = s.nvs := rfl

@[simp] theorem State.modShare_at (n : StageId) (f : ShareSt → ShareSt) (m : StageId) : (s.modShare n f).shr[m] = if n = m then f s.shr[n] else s.shr[m] := by
  show (s.shr.set n (f s.shr[n]))[m] = _
  rw [Fin.getElem_fin, Vector.getElem_set]
  by_cases h : n = m
  · subst h; simp
  · rw [if_neg h, if_neg (fun c => h (Fin.ext c))]; rfl

@[simp] theorem State.modRide_pending (n : StageId) (f : RideSt → RideSt) : (s.modRide n f).pending = s.pending := rfl
@[simp] theorem State.modRide_objs (n : StageId) (f : RideSt → RideSt) : (s.modRide n f).objs = s.objs := rfl
@[simp] theorem State.modRide_saved (n : StageId) (f : RideSt → RideSt) : (s.modRide n f).saved = s.saved := rfl
@[simp] theorem State.modRide_commitWrites (n : StageId) (f : RideSt → RideSt) : (s.modRide n f).commitWrites = s.commitWrites := rfl
@[simp] theorem State.modRide_heldWrites (n : StageId) (f : RideSt → RideSt) : (s.modRide n f).heldWrites = s.heldWrites := rfl
@[simp] theorem State.modRide_modeWrites (n : StageId) (f : RideSt → RideSt) : (s.modRide n f).modeWrites = s.modeWrites := rfl
@[simp] theorem State.modRide_resetWrites (n : StageId) (f : RideSt → RideSt) : (s.modRide n f).resetWrites = s.resetWrites := rfl
@[simp] theorem State.modRide_logSeq (n : StageId) (f : RideSt → RideSt) : (s.modRide n f).logSeq = s.logSeq := rfl
@[simp] theorem State.modRide_logBuf (n : StageId) (f : RideSt → RideSt) : (s.modRide n f).logBuf = s.logBuf := rfl
@[simp] theorem State.modRide_logFlash (n : StageId) (f : RideSt → RideSt) : (s.modRide n f).logFlash = s.logFlash := rfl
@[simp] theorem State.modRide_lastLog (n : StageId) (f : RideSt → RideSt) : (s.modRide n f).lastLog = s.lastLog := rfl
@[simp] theorem State.modRide_tx (n : StageId) (f : RideSt → RideSt) : (s.modRide n f).tx = s.tx := rfl
@[simp] theorem State.modRide_free (n : StageId) (f : RideSt → RideSt) : (s.modRide n f).free = s.free := rfl
@[simp] theorem State.modRide_isl (n : StageId) (f : RideSt → RideSt) : (s.modRide n f).isl = s.isl := rfl
@[simp] theorem State.modRide_mod (n : StageId) (f : RideSt → RideSt) : (s.modRide n f).mod = s.mod := rfl
@[simp] theorem State.modRide_stg (n : StageId) (f : RideSt → RideSt) : (s.modRide n f).stg = s.stg := rfl
@[simp] theorem State.modRide_shr (n : StageId) (f : RideSt → RideSt) : (s.modRide n f).shr = s.shr := rfl
@[simp] theorem State.modRide_frt (n : StageId) (f : RideSt → RideSt) : (s.modRide n f).frt = s.frt.set n (f s.frt[n]) := rfl
@[simp] theorem State.modRide_srv (n : StageId) (f : RideSt → RideSt) : (s.modRide n f).srv = s.srv := rfl
@[simp] theorem State.modRide_pie (n : StageId) (f : RideSt → RideSt) : (s.modRide n f).pie = s.pie := rfl
@[simp] theorem State.modRide_edg (n : StageId) (f : RideSt → RideSt) : (s.modRide n f).edg = s.edg := rfl
@[simp] theorem State.modRide_gdv (n : StageId) (f : RideSt → RideSt) : (s.modRide n f).gdv = s.gdv := rfl
@[simp] theorem State.modRide_acq (n : StageId) (f : RideSt → RideSt) : (s.modRide n f).acq = s.acq := rfl
@[simp] theorem State.modRide_gal (n : StageId) (f : RideSt → RideSt) : (s.modRide n f).gal = s.gal := rfl
@[simp] theorem State.modRide_clk (n : StageId) (f : RideSt → RideSt) : (s.modRide n f).clk = s.clk := rfl
@[simp] theorem State.modRide_twn (n : StageId) (f : RideSt → RideSt) : (s.modRide n f).twn = s.twn := rfl
@[simp] theorem State.modRide_saf (n : StageId) (f : RideSt → RideSt) : (s.modRide n f).saf = s.saf := rfl
@[simp] theorem State.modRide_fio (n : StageId) (f : RideSt → RideSt) : (s.modRide n f).fio = s.fio := rfl
@[simp] theorem State.modRide_sup (n : StageId) (f : RideSt → RideSt) : (s.modRide n f).sup = s.sup := rfl
@[simp] theorem State.modRide_lgc (n : StageId) (f : RideSt → RideSt) : (s.modRide n f).lgc = s.lgc := rfl
@[simp] theorem State.modRide_net (n : StageId) (f : RideSt → RideSt) : (s.modRide n f).net = s.net := rfl
@[simp] theorem State.modRide_nvs (n : StageId) (f : RideSt → RideSt) : (s.modRide n f).nvs = s.nvs := rfl

@[simp] theorem State.modRide_at (n : StageId) (f : RideSt → RideSt) (m : StageId) : (s.modRide n f).frt[m] = if n = m then f s.frt[n] else s.frt[m] := by
  show (s.frt.set n (f s.frt[n]))[m] = _
  rw [Fin.getElem_fin, Vector.getElem_set]
  by_cases h : n = m
  · subst h; simp
  · rw [if_neg h, if_neg (fun c => h (Fin.ext c))]; rfl

@[simp] theorem State.modSurvey_pending (n : StageId) (f : SurveySt → SurveySt) : (s.modSurvey n f).pending = s.pending := rfl
@[simp] theorem State.modSurvey_objs (n : StageId) (f : SurveySt → SurveySt) : (s.modSurvey n f).objs = s.objs := rfl
@[simp] theorem State.modSurvey_saved (n : StageId) (f : SurveySt → SurveySt) : (s.modSurvey n f).saved = s.saved := rfl
@[simp] theorem State.modSurvey_commitWrites (n : StageId) (f : SurveySt → SurveySt) : (s.modSurvey n f).commitWrites = s.commitWrites := rfl
@[simp] theorem State.modSurvey_heldWrites (n : StageId) (f : SurveySt → SurveySt) : (s.modSurvey n f).heldWrites = s.heldWrites := rfl
@[simp] theorem State.modSurvey_modeWrites (n : StageId) (f : SurveySt → SurveySt) : (s.modSurvey n f).modeWrites = s.modeWrites := rfl
@[simp] theorem State.modSurvey_resetWrites (n : StageId) (f : SurveySt → SurveySt) : (s.modSurvey n f).resetWrites = s.resetWrites := rfl
@[simp] theorem State.modSurvey_logSeq (n : StageId) (f : SurveySt → SurveySt) : (s.modSurvey n f).logSeq = s.logSeq := rfl
@[simp] theorem State.modSurvey_logBuf (n : StageId) (f : SurveySt → SurveySt) : (s.modSurvey n f).logBuf = s.logBuf := rfl
@[simp] theorem State.modSurvey_logFlash (n : StageId) (f : SurveySt → SurveySt) : (s.modSurvey n f).logFlash = s.logFlash := rfl
@[simp] theorem State.modSurvey_lastLog (n : StageId) (f : SurveySt → SurveySt) : (s.modSurvey n f).lastLog = s.lastLog := rfl
@[simp] theorem State.modSurvey_tx (n : StageId) (f : SurveySt → SurveySt) : (s.modSurvey n f).tx = s.tx := rfl
@[simp] theorem State.modSurvey_free (n : StageId) (f : SurveySt → SurveySt) : (s.modSurvey n f).free = s.free := rfl
@[simp] theorem State.modSurvey_isl (n : StageId) (f : SurveySt → SurveySt) : (s.modSurvey n f).isl = s.isl := rfl
@[simp] theorem State.modSurvey_mod (n : StageId) (f : SurveySt → SurveySt) : (s.modSurvey n f).mod = s.mod := rfl
@[simp] theorem State.modSurvey_stg (n : StageId) (f : SurveySt → SurveySt) : (s.modSurvey n f).stg = s.stg := rfl
@[simp] theorem State.modSurvey_shr (n : StageId) (f : SurveySt → SurveySt) : (s.modSurvey n f).shr = s.shr := rfl
@[simp] theorem State.modSurvey_frt (n : StageId) (f : SurveySt → SurveySt) : (s.modSurvey n f).frt = s.frt := rfl
@[simp] theorem State.modSurvey_srv (n : StageId) (f : SurveySt → SurveySt) : (s.modSurvey n f).srv = s.srv.set n (f s.srv[n]) := rfl
@[simp] theorem State.modSurvey_pie (n : StageId) (f : SurveySt → SurveySt) : (s.modSurvey n f).pie = s.pie := rfl
@[simp] theorem State.modSurvey_edg (n : StageId) (f : SurveySt → SurveySt) : (s.modSurvey n f).edg = s.edg := rfl
@[simp] theorem State.modSurvey_gdv (n : StageId) (f : SurveySt → SurveySt) : (s.modSurvey n f).gdv = s.gdv := rfl
@[simp] theorem State.modSurvey_acq (n : StageId) (f : SurveySt → SurveySt) : (s.modSurvey n f).acq = s.acq := rfl
@[simp] theorem State.modSurvey_gal (n : StageId) (f : SurveySt → SurveySt) : (s.modSurvey n f).gal = s.gal := rfl
@[simp] theorem State.modSurvey_clk (n : StageId) (f : SurveySt → SurveySt) : (s.modSurvey n f).clk = s.clk := rfl
@[simp] theorem State.modSurvey_twn (n : StageId) (f : SurveySt → SurveySt) : (s.modSurvey n f).twn = s.twn := rfl
@[simp] theorem State.modSurvey_saf (n : StageId) (f : SurveySt → SurveySt) : (s.modSurvey n f).saf = s.saf := rfl
@[simp] theorem State.modSurvey_fio (n : StageId) (f : SurveySt → SurveySt) : (s.modSurvey n f).fio = s.fio := rfl
@[simp] theorem State.modSurvey_sup (n : StageId) (f : SurveySt → SurveySt) : (s.modSurvey n f).sup = s.sup := rfl
@[simp] theorem State.modSurvey_lgc (n : StageId) (f : SurveySt → SurveySt) : (s.modSurvey n f).lgc = s.lgc := rfl
@[simp] theorem State.modSurvey_net (n : StageId) (f : SurveySt → SurveySt) : (s.modSurvey n f).net = s.net := rfl
@[simp] theorem State.modSurvey_nvs (n : StageId) (f : SurveySt → SurveySt) : (s.modSurvey n f).nvs = s.nvs := rfl

@[simp] theorem State.modSurvey_at (n : StageId) (f : SurveySt → SurveySt) (m : StageId) : (s.modSurvey n f).srv[m] = if n = m then f s.srv[n] else s.srv[m] := by
  show (s.srv.set n (f s.srv[n]))[m] = _
  rw [Fin.getElem_fin, Vector.getElem_set]
  by_cases h : n = m
  · subst h; simp
  · rw [if_neg h, if_neg (fun c => h (Fin.ext c))]; rfl

@[simp] theorem State.modPier_pending (n : StageId) (f : PierSt → PierSt) : (s.modPier n f).pending = s.pending := rfl
@[simp] theorem State.modPier_objs (n : StageId) (f : PierSt → PierSt) : (s.modPier n f).objs = s.objs := rfl
@[simp] theorem State.modPier_saved (n : StageId) (f : PierSt → PierSt) : (s.modPier n f).saved = s.saved := rfl
@[simp] theorem State.modPier_commitWrites (n : StageId) (f : PierSt → PierSt) : (s.modPier n f).commitWrites = s.commitWrites := rfl
@[simp] theorem State.modPier_heldWrites (n : StageId) (f : PierSt → PierSt) : (s.modPier n f).heldWrites = s.heldWrites := rfl
@[simp] theorem State.modPier_modeWrites (n : StageId) (f : PierSt → PierSt) : (s.modPier n f).modeWrites = s.modeWrites := rfl
@[simp] theorem State.modPier_resetWrites (n : StageId) (f : PierSt → PierSt) : (s.modPier n f).resetWrites = s.resetWrites := rfl
@[simp] theorem State.modPier_logSeq (n : StageId) (f : PierSt → PierSt) : (s.modPier n f).logSeq = s.logSeq := rfl
@[simp] theorem State.modPier_logBuf (n : StageId) (f : PierSt → PierSt) : (s.modPier n f).logBuf = s.logBuf := rfl
@[simp] theorem State.modPier_logFlash (n : StageId) (f : PierSt → PierSt) : (s.modPier n f).logFlash = s.logFlash := rfl
@[simp] theorem State.modPier_lastLog (n : StageId) (f : PierSt → PierSt) : (s.modPier n f).lastLog = s.lastLog := rfl
@[simp] theorem State.modPier_tx (n : StageId) (f : PierSt → PierSt) : (s.modPier n f).tx = s.tx := rfl
@[simp] theorem State.modPier_free (n : StageId) (f : PierSt → PierSt) : (s.modPier n f).free = s.free := rfl
@[simp] theorem State.modPier_isl (n : StageId) (f : PierSt → PierSt) : (s.modPier n f).isl = s.isl := rfl
@[simp] theorem State.modPier_mod (n : StageId) (f : PierSt → PierSt) : (s.modPier n f).mod = s.mod := rfl
@[simp] theorem State.modPier_stg (n : StageId) (f : PierSt → PierSt) : (s.modPier n f).stg = s.stg := rfl
@[simp] theorem State.modPier_shr (n : StageId) (f : PierSt → PierSt) : (s.modPier n f).shr = s.shr := rfl
@[simp] theorem State.modPier_frt (n : StageId) (f : PierSt → PierSt) : (s.modPier n f).frt = s.frt := rfl
@[simp] theorem State.modPier_srv (n : StageId) (f : PierSt → PierSt) : (s.modPier n f).srv = s.srv := rfl
@[simp] theorem State.modPier_pie (n : StageId) (f : PierSt → PierSt) : (s.modPier n f).pie = s.pie.set n (f s.pie[n]) := rfl
@[simp] theorem State.modPier_edg (n : StageId) (f : PierSt → PierSt) : (s.modPier n f).edg = s.edg := rfl
@[simp] theorem State.modPier_gdv (n : StageId) (f : PierSt → PierSt) : (s.modPier n f).gdv = s.gdv := rfl
@[simp] theorem State.modPier_acq (n : StageId) (f : PierSt → PierSt) : (s.modPier n f).acq = s.acq := rfl
@[simp] theorem State.modPier_gal (n : StageId) (f : PierSt → PierSt) : (s.modPier n f).gal = s.gal := rfl
@[simp] theorem State.modPier_clk (n : StageId) (f : PierSt → PierSt) : (s.modPier n f).clk = s.clk := rfl
@[simp] theorem State.modPier_twn (n : StageId) (f : PierSt → PierSt) : (s.modPier n f).twn = s.twn := rfl
@[simp] theorem State.modPier_saf (n : StageId) (f : PierSt → PierSt) : (s.modPier n f).saf = s.saf := rfl
@[simp] theorem State.modPier_fio (n : StageId) (f : PierSt → PierSt) : (s.modPier n f).fio = s.fio := rfl
@[simp] theorem State.modPier_sup (n : StageId) (f : PierSt → PierSt) : (s.modPier n f).sup = s.sup := rfl
@[simp] theorem State.modPier_lgc (n : StageId) (f : PierSt → PierSt) : (s.modPier n f).lgc = s.lgc := rfl
@[simp] theorem State.modPier_net (n : StageId) (f : PierSt → PierSt) : (s.modPier n f).net = s.net := rfl
@[simp] theorem State.modPier_nvs (n : StageId) (f : PierSt → PierSt) : (s.modPier n f).nvs = s.nvs := rfl

@[simp] theorem State.modPier_at (n : StageId) (f : PierSt → PierSt) (m : StageId) : (s.modPier n f).pie[m] = if n = m then f s.pie[n] else s.pie[m] := by
  show (s.pie.set n (f s.pie[n]))[m] = _
  rw [Fin.getElem_fin, Vector.getElem_set]
  by_cases h : n = m
  · subst h; simp
  · rw [if_neg h, if_neg (fun c => h (Fin.ext c))]; rfl

@[simp] theorem State.modMod_pending (f : ModesSt → ModesSt) : (s.modMod f).pending = s.pending := rfl
@[simp] theorem State.modMod_objs (f : ModesSt → ModesSt) : (s.modMod f).objs = s.objs := rfl
@[simp] theorem State.modMod_saved (f : ModesSt → ModesSt) : (s.modMod f).saved = s.saved := rfl
@[simp] theorem State.modMod_commitWrites (f : ModesSt → ModesSt) : (s.modMod f).commitWrites = s.commitWrites := rfl
@[simp] theorem State.modMod_heldWrites (f : ModesSt → ModesSt) : (s.modMod f).heldWrites = s.heldWrites := rfl
@[simp] theorem State.modMod_modeWrites (f : ModesSt → ModesSt) : (s.modMod f).modeWrites = s.modeWrites := rfl
@[simp] theorem State.modMod_resetWrites (f : ModesSt → ModesSt) : (s.modMod f).resetWrites = s.resetWrites := rfl
@[simp] theorem State.modMod_logSeq (f : ModesSt → ModesSt) : (s.modMod f).logSeq = s.logSeq := rfl
@[simp] theorem State.modMod_logBuf (f : ModesSt → ModesSt) : (s.modMod f).logBuf = s.logBuf := rfl
@[simp] theorem State.modMod_logFlash (f : ModesSt → ModesSt) : (s.modMod f).logFlash = s.logFlash := rfl
@[simp] theorem State.modMod_lastLog (f : ModesSt → ModesSt) : (s.modMod f).lastLog = s.lastLog := rfl
@[simp] theorem State.modMod_tx (f : ModesSt → ModesSt) : (s.modMod f).tx = s.tx := rfl
@[simp] theorem State.modMod_free (f : ModesSt → ModesSt) : (s.modMod f).free = s.free := rfl
@[simp] theorem State.modMod_isl (f : ModesSt → ModesSt) : (s.modMod f).isl = s.isl := rfl
@[simp] theorem State.modMod_mod (f : ModesSt → ModesSt) : (s.modMod f).mod = f s.mod := rfl
@[simp] theorem State.modMod_stg (f : ModesSt → ModesSt) : (s.modMod f).stg = s.stg := rfl
@[simp] theorem State.modMod_shr (f : ModesSt → ModesSt) : (s.modMod f).shr = s.shr := rfl
@[simp] theorem State.modMod_frt (f : ModesSt → ModesSt) : (s.modMod f).frt = s.frt := rfl
@[simp] theorem State.modMod_srv (f : ModesSt → ModesSt) : (s.modMod f).srv = s.srv := rfl
@[simp] theorem State.modMod_pie (f : ModesSt → ModesSt) : (s.modMod f).pie = s.pie := rfl
@[simp] theorem State.modMod_edg (f : ModesSt → ModesSt) : (s.modMod f).edg = s.edg := rfl
@[simp] theorem State.modMod_gdv (f : ModesSt → ModesSt) : (s.modMod f).gdv = s.gdv := rfl
@[simp] theorem State.modMod_acq (f : ModesSt → ModesSt) : (s.modMod f).acq = s.acq := rfl
@[simp] theorem State.modMod_gal (f : ModesSt → ModesSt) : (s.modMod f).gal = s.gal := rfl
@[simp] theorem State.modMod_clk (f : ModesSt → ModesSt) : (s.modMod f).clk = s.clk := rfl
@[simp] theorem State.modMod_twn (f : ModesSt → ModesSt) : (s.modMod f).twn = s.twn := rfl
@[simp] theorem State.modMod_saf (f : ModesSt → ModesSt) : (s.modMod f).saf = s.saf := rfl
@[simp] theorem State.modMod_fio (f : ModesSt → ModesSt) : (s.modMod f).fio = s.fio := rfl
@[simp] theorem State.modMod_sup (f : ModesSt → ModesSt) : (s.modMod f).sup = s.sup := rfl
@[simp] theorem State.modMod_lgc (f : ModesSt → ModesSt) : (s.modMod f).lgc = s.lgc := rfl
@[simp] theorem State.modMod_net (f : ModesSt → ModesSt) : (s.modMod f).net = s.net := rfl
@[simp] theorem State.modMod_nvs (f : ModesSt → ModesSt) : (s.modMod f).nvs = s.nvs := rfl

@[simp] theorem State.modIsl_pending (f : IslandsSt → IslandsSt) : (s.modIsl f).pending = s.pending := rfl
@[simp] theorem State.modIsl_objs (f : IslandsSt → IslandsSt) : (s.modIsl f).objs = s.objs := rfl
@[simp] theorem State.modIsl_saved (f : IslandsSt → IslandsSt) : (s.modIsl f).saved = s.saved := rfl
@[simp] theorem State.modIsl_commitWrites (f : IslandsSt → IslandsSt) : (s.modIsl f).commitWrites = s.commitWrites := rfl
@[simp] theorem State.modIsl_heldWrites (f : IslandsSt → IslandsSt) : (s.modIsl f).heldWrites = s.heldWrites := rfl
@[simp] theorem State.modIsl_modeWrites (f : IslandsSt → IslandsSt) : (s.modIsl f).modeWrites = s.modeWrites := rfl
@[simp] theorem State.modIsl_resetWrites (f : IslandsSt → IslandsSt) : (s.modIsl f).resetWrites = s.resetWrites := rfl
@[simp] theorem State.modIsl_logSeq (f : IslandsSt → IslandsSt) : (s.modIsl f).logSeq = s.logSeq := rfl
@[simp] theorem State.modIsl_logBuf (f : IslandsSt → IslandsSt) : (s.modIsl f).logBuf = s.logBuf := rfl
@[simp] theorem State.modIsl_logFlash (f : IslandsSt → IslandsSt) : (s.modIsl f).logFlash = s.logFlash := rfl
@[simp] theorem State.modIsl_lastLog (f : IslandsSt → IslandsSt) : (s.modIsl f).lastLog = s.lastLog := rfl
@[simp] theorem State.modIsl_tx (f : IslandsSt → IslandsSt) : (s.modIsl f).tx = s.tx := rfl
@[simp] theorem State.modIsl_free (f : IslandsSt → IslandsSt) : (s.modIsl f).free = s.free := rfl
@[simp] theorem State.modIsl_isl (f : IslandsSt → IslandsSt) : (s.modIsl f).isl = f s.isl := rfl
@[simp] theorem State.modIsl_mod (f : IslandsSt → IslandsSt) : (s.modIsl f).mod = s.mod := rfl
@[simp] theorem State.modIsl_stg (f : IslandsSt → IslandsSt) : (s.modIsl f).stg = s.stg := rfl
@[simp] theorem State.modIsl_shr (f : IslandsSt → IslandsSt) : (s.modIsl f).shr = s.shr := rfl
@[simp] theorem State.modIsl_frt (f : IslandsSt → IslandsSt) : (s.modIsl f).frt = s.frt := rfl
@[simp] theorem State.modIsl_srv (f : IslandsSt → IslandsSt) : (s.modIsl f).srv = s.srv := rfl
@[simp] theorem State.modIsl_pie (f : IslandsSt → IslandsSt) : (s.modIsl f).pie = s.pie := rfl
@[simp] theorem State.modIsl_edg (f : IslandsSt → IslandsSt) : (s.modIsl f).edg = s.edg := rfl
@[simp] theorem State.modIsl_gdv (f : IslandsSt → IslandsSt) : (s.modIsl f).gdv = s.gdv := rfl
@[simp] theorem State.modIsl_acq (f : IslandsSt → IslandsSt) : (s.modIsl f).acq = s.acq := rfl
@[simp] theorem State.modIsl_gal (f : IslandsSt → IslandsSt) : (s.modIsl f).gal = s.gal := rfl
@[simp] theorem State.modIsl_clk (f : IslandsSt → IslandsSt) : (s.modIsl f).clk = s.clk := rfl
@[simp] theorem State.modIsl_twn (f : IslandsSt → IslandsSt) : (s.modIsl f).twn = s.twn := rfl
@[simp] theorem State.modIsl_saf (f : IslandsSt → IslandsSt) : (s.modIsl f).saf = s.saf := rfl
@[simp] theorem State.modIsl_fio (f : IslandsSt → IslandsSt) : (s.modIsl f).fio = s.fio := rfl
@[simp] theorem State.modIsl_sup (f : IslandsSt → IslandsSt) : (s.modIsl f).sup = s.sup := rfl
@[simp] theorem State.modIsl_lgc (f : IslandsSt → IslandsSt) : (s.modIsl f).lgc = s.lgc := rfl
@[simp] theorem State.modIsl_net (f : IslandsSt → IslandsSt) : (s.modIsl f).net = s.net := rfl
@[simp] theorem State.modIsl_nvs (f : IslandsSt → IslandsSt) : (s.modIsl f).nvs = s.nvs := rfl

@[simp] theorem State.modClk_pending (f : ClockSt → ClockSt) : (s.modClk f).pending = s.pending := rfl
@[simp] theorem State.modClk_objs (f : ClockSt → ClockSt) : (s.modClk f).objs = s.objs := rfl
@[simp] theorem State.modClk_saved (f : ClockSt → ClockSt) : (s.modClk f).saved = s.saved := rfl
@[simp] theorem State.modClk_commitWrites (f : ClockSt → ClockSt) : (s.modClk f).commitWrites = s.commitWrites := rfl
@[simp] theorem State.modClk_heldWrites (f : ClockSt → ClockSt) : (s.modClk f).heldWrites = s.heldWrites := rfl
@[simp] theorem State.modClk_modeWrites (f : ClockSt → ClockSt) : (s.modClk f).modeWrites = s.modeWrites := rfl
@[simp] theorem State.modClk_resetWrites (f : ClockSt → ClockSt) : (s.modClk f).resetWrites = s.resetWrites := rfl
@[simp] theorem State.modClk_logSeq (f : ClockSt → ClockSt) : (s.modClk f).logSeq = s.logSeq := rfl
@[simp] theorem State.modClk_logBuf (f : ClockSt → ClockSt) : (s.modClk f).logBuf = s.logBuf := rfl
@[simp] theorem State.modClk_logFlash (f : ClockSt → ClockSt) : (s.modClk f).logFlash = s.logFlash := rfl
@[simp] theorem State.modClk_lastLog (f : ClockSt → ClockSt) : (s.modClk f).lastLog = s.lastLog := rfl
@[simp] theorem State.modClk_tx (f : ClockSt → ClockSt) : (s.modClk f).tx = s.tx := rfl
@[simp] theorem State.modClk_free (f : ClockSt → ClockSt) : (s.modClk f).free = s.free := rfl
@[simp] theorem State.modClk_isl (f : ClockSt → ClockSt) : (s.modClk f).isl = s.isl := rfl
@[simp] theorem State.modClk_mod (f : ClockSt → ClockSt) : (s.modClk f).mod = s.mod := rfl
@[simp] theorem State.modClk_stg (f : ClockSt → ClockSt) : (s.modClk f).stg = s.stg := rfl
@[simp] theorem State.modClk_shr (f : ClockSt → ClockSt) : (s.modClk f).shr = s.shr := rfl
@[simp] theorem State.modClk_frt (f : ClockSt → ClockSt) : (s.modClk f).frt = s.frt := rfl
@[simp] theorem State.modClk_srv (f : ClockSt → ClockSt) : (s.modClk f).srv = s.srv := rfl
@[simp] theorem State.modClk_pie (f : ClockSt → ClockSt) : (s.modClk f).pie = s.pie := rfl
@[simp] theorem State.modClk_edg (f : ClockSt → ClockSt) : (s.modClk f).edg = s.edg := rfl
@[simp] theorem State.modClk_gdv (f : ClockSt → ClockSt) : (s.modClk f).gdv = s.gdv := rfl
@[simp] theorem State.modClk_acq (f : ClockSt → ClockSt) : (s.modClk f).acq = s.acq := rfl
@[simp] theorem State.modClk_gal (f : ClockSt → ClockSt) : (s.modClk f).gal = s.gal := rfl
@[simp] theorem State.modClk_clk (f : ClockSt → ClockSt) : (s.modClk f).clk = f s.clk := rfl
@[simp] theorem State.modClk_twn (f : ClockSt → ClockSt) : (s.modClk f).twn = s.twn := rfl
@[simp] theorem State.modClk_saf (f : ClockSt → ClockSt) : (s.modClk f).saf = s.saf := rfl
@[simp] theorem State.modClk_fio (f : ClockSt → ClockSt) : (s.modClk f).fio = s.fio := rfl
@[simp] theorem State.modClk_sup (f : ClockSt → ClockSt) : (s.modClk f).sup = s.sup := rfl
@[simp] theorem State.modClk_lgc (f : ClockSt → ClockSt) : (s.modClk f).lgc = s.lgc := rfl
@[simp] theorem State.modClk_net (f : ClockSt → ClockSt) : (s.modClk f).net = s.net := rfl
@[simp] theorem State.modClk_nvs (f : ClockSt → ClockSt) : (s.modClk f).nvs = s.nvs := rfl

@[simp] theorem State.modTwn_pending (f : TwinSt → TwinSt) : (s.modTwn f).pending = s.pending := rfl
@[simp] theorem State.modTwn_objs (f : TwinSt → TwinSt) : (s.modTwn f).objs = s.objs := rfl
@[simp] theorem State.modTwn_saved (f : TwinSt → TwinSt) : (s.modTwn f).saved = s.saved := rfl
@[simp] theorem State.modTwn_commitWrites (f : TwinSt → TwinSt) : (s.modTwn f).commitWrites = s.commitWrites := rfl
@[simp] theorem State.modTwn_heldWrites (f : TwinSt → TwinSt) : (s.modTwn f).heldWrites = s.heldWrites := rfl
@[simp] theorem State.modTwn_modeWrites (f : TwinSt → TwinSt) : (s.modTwn f).modeWrites = s.modeWrites := rfl
@[simp] theorem State.modTwn_resetWrites (f : TwinSt → TwinSt) : (s.modTwn f).resetWrites = s.resetWrites := rfl
@[simp] theorem State.modTwn_logSeq (f : TwinSt → TwinSt) : (s.modTwn f).logSeq = s.logSeq := rfl
@[simp] theorem State.modTwn_logBuf (f : TwinSt → TwinSt) : (s.modTwn f).logBuf = s.logBuf := rfl
@[simp] theorem State.modTwn_logFlash (f : TwinSt → TwinSt) : (s.modTwn f).logFlash = s.logFlash := rfl
@[simp] theorem State.modTwn_lastLog (f : TwinSt → TwinSt) : (s.modTwn f).lastLog = s.lastLog := rfl
@[simp] theorem State.modTwn_tx (f : TwinSt → TwinSt) : (s.modTwn f).tx = s.tx := rfl
@[simp] theorem State.modTwn_free (f : TwinSt → TwinSt) : (s.modTwn f).free = s.free := rfl
@[simp] theorem State.modTwn_isl (f : TwinSt → TwinSt) : (s.modTwn f).isl = s.isl := rfl
@[simp] theorem State.modTwn_mod (f : TwinSt → TwinSt) : (s.modTwn f).mod = s.mod := rfl
@[simp] theorem State.modTwn_stg (f : TwinSt → TwinSt) : (s.modTwn f).stg = s.stg := rfl
@[simp] theorem State.modTwn_shr (f : TwinSt → TwinSt) : (s.modTwn f).shr = s.shr := rfl
@[simp] theorem State.modTwn_frt (f : TwinSt → TwinSt) : (s.modTwn f).frt = s.frt := rfl
@[simp] theorem State.modTwn_srv (f : TwinSt → TwinSt) : (s.modTwn f).srv = s.srv := rfl
@[simp] theorem State.modTwn_pie (f : TwinSt → TwinSt) : (s.modTwn f).pie = s.pie := rfl
@[simp] theorem State.modTwn_edg (f : TwinSt → TwinSt) : (s.modTwn f).edg = s.edg := rfl
@[simp] theorem State.modTwn_gdv (f : TwinSt → TwinSt) : (s.modTwn f).gdv = s.gdv := rfl
@[simp] theorem State.modTwn_acq (f : TwinSt → TwinSt) : (s.modTwn f).acq = s.acq := rfl
@[simp] theorem State.modTwn_gal (f : TwinSt → TwinSt) : (s.modTwn f).gal = s.gal := rfl
@[simp] theorem State.modTwn_clk (f : TwinSt → TwinSt) : (s.modTwn f).clk = s.clk := rfl
@[simp] theorem State.modTwn_twn (f : TwinSt → TwinSt) : (s.modTwn f).twn = f s.twn := rfl
@[simp] theorem State.modTwn_saf (f : TwinSt → TwinSt) : (s.modTwn f).saf = s.saf := rfl
@[simp] theorem State.modTwn_fio (f : TwinSt → TwinSt) : (s.modTwn f).fio = s.fio := rfl
@[simp] theorem State.modTwn_sup (f : TwinSt → TwinSt) : (s.modTwn f).sup = s.sup := rfl
@[simp] theorem State.modTwn_lgc (f : TwinSt → TwinSt) : (s.modTwn f).lgc = s.lgc := rfl
@[simp] theorem State.modTwn_net (f : TwinSt → TwinSt) : (s.modTwn f).net = s.net := rfl
@[simp] theorem State.modTwn_nvs (f : TwinSt → TwinSt) : (s.modTwn f).nvs = s.nvs := rfl

@[simp] theorem State.modEdg_pending (f : EdgeSt → EdgeSt) : (s.modEdg f).pending = s.pending := rfl
@[simp] theorem State.modEdg_objs (f : EdgeSt → EdgeSt) : (s.modEdg f).objs = s.objs := rfl
@[simp] theorem State.modEdg_saved (f : EdgeSt → EdgeSt) : (s.modEdg f).saved = s.saved := rfl
@[simp] theorem State.modEdg_commitWrites (f : EdgeSt → EdgeSt) : (s.modEdg f).commitWrites = s.commitWrites := rfl
@[simp] theorem State.modEdg_heldWrites (f : EdgeSt → EdgeSt) : (s.modEdg f).heldWrites = s.heldWrites := rfl
@[simp] theorem State.modEdg_modeWrites (f : EdgeSt → EdgeSt) : (s.modEdg f).modeWrites = s.modeWrites := rfl
@[simp] theorem State.modEdg_resetWrites (f : EdgeSt → EdgeSt) : (s.modEdg f).resetWrites = s.resetWrites := rfl
@[simp] theorem State.modEdg_logSeq (f : EdgeSt → EdgeSt) : (s.modEdg f).logSeq = s.logSeq := rfl
@[simp] theorem State.modEdg_logBuf (f : EdgeSt → EdgeSt) : (s.modEdg f).logBuf = s.logBuf := rfl
@[simp] theorem State.modEdg_logFlash (f : EdgeSt → EdgeSt) : (s.modEdg f).logFlash = s.logFlash := rfl
@[simp] theorem State.modEdg_lastLog (f : EdgeSt → EdgeSt) : (s.modEdg f).lastLog = s.lastLog := rfl
@[simp] theorem State.modEdg_tx (f : EdgeSt → EdgeSt) : (s.modEdg f).tx = s.tx := rfl
@[simp] theorem State.modEdg_free (f : EdgeSt → EdgeSt) : (s.modEdg f).free = s.free := rfl
@[simp] theorem State.modEdg_isl (f : EdgeSt → EdgeSt) : (s.modEdg f).isl = s.isl := rfl
@[simp] theorem State.modEdg_mod (f : EdgeSt → EdgeSt) : (s.modEdg f).mod = s.mod := rfl
@[simp] theorem State.modEdg_stg (f : EdgeSt → EdgeSt) : (s.modEdg f).stg = s.stg := rfl
@[simp] theorem State.modEdg_shr (f : EdgeSt → EdgeSt) : (s.modEdg f).shr = s.shr := rfl
@[simp] theorem State.modEdg_frt (f : EdgeSt → EdgeSt) : (s.modEdg f).frt = s.frt := rfl
@[simp] theorem State.modEdg_srv (f : EdgeSt → EdgeSt) : (s.modEdg f).srv = s.srv := rfl
@[simp] theorem State.modEdg_pie (f : EdgeSt → EdgeSt) : (s.modEdg f).pie = s.pie := rfl
@[simp] theorem State.modEdg_edg (f : EdgeSt → EdgeSt) : (s.modEdg f).edg = f s.edg := rfl
@[simp] theorem State.modEdg_gdv (f : EdgeSt → EdgeSt) : (s.modEdg f).gdv = s.gdv := rfl
@[simp] theorem State.modEdg_acq (f : EdgeSt → EdgeSt) : (s.modEdg f).acq = s.acq := rfl
@[simp] theorem State.modEdg_gal (f : EdgeSt → EdgeSt) : (s.modEdg f).gal = s.gal := rfl
@[simp] theorem State.modEdg_clk (f : EdgeSt → EdgeSt) : (s.modEdg f).clk = s.clk := rfl
@[simp] theorem State.modEdg_twn (f : EdgeSt → EdgeSt) : (s.modEdg f).twn = s.twn := rfl
@[simp] theorem State.modEdg_saf (f : EdgeSt → EdgeSt) : (s.modEdg f).saf = s.saf := rfl
@[simp] theorem State.modEdg_fio (f : EdgeSt → EdgeSt) : (s.modEdg f).fio = s.fio := rfl
@[simp] theorem State.modEdg_sup (f : EdgeSt → EdgeSt) : (s.modEdg f).sup = s.sup := rfl
@[simp] theorem State.modEdg_lgc (f : EdgeSt → EdgeSt) : (s.modEdg f).lgc = s.lgc := rfl
@[simp] theorem State.modEdg_net (f : EdgeSt → EdgeSt) : (s.modEdg f).net = s.net := rfl
@[simp] theorem State.modEdg_nvs (f : EdgeSt → EdgeSt) : (s.modEdg f).nvs = s.nvs := rfl

@[simp] theorem State.modGdv_pending (f : GateSt → GateSt) : (s.modGdv f).pending = s.pending := rfl
@[simp] theorem State.modGdv_objs (f : GateSt → GateSt) : (s.modGdv f).objs = s.objs := rfl
@[simp] theorem State.modGdv_saved (f : GateSt → GateSt) : (s.modGdv f).saved = s.saved := rfl
@[simp] theorem State.modGdv_commitWrites (f : GateSt → GateSt) : (s.modGdv f).commitWrites = s.commitWrites := rfl
@[simp] theorem State.modGdv_heldWrites (f : GateSt → GateSt) : (s.modGdv f).heldWrites = s.heldWrites := rfl
@[simp] theorem State.modGdv_modeWrites (f : GateSt → GateSt) : (s.modGdv f).modeWrites = s.modeWrites := rfl
@[simp] theorem State.modGdv_resetWrites (f : GateSt → GateSt) : (s.modGdv f).resetWrites = s.resetWrites := rfl
@[simp] theorem State.modGdv_logSeq (f : GateSt → GateSt) : (s.modGdv f).logSeq = s.logSeq := rfl
@[simp] theorem State.modGdv_logBuf (f : GateSt → GateSt) : (s.modGdv f).logBuf = s.logBuf := rfl
@[simp] theorem State.modGdv_logFlash (f : GateSt → GateSt) : (s.modGdv f).logFlash = s.logFlash := rfl
@[simp] theorem State.modGdv_lastLog (f : GateSt → GateSt) : (s.modGdv f).lastLog = s.lastLog := rfl
@[simp] theorem State.modGdv_tx (f : GateSt → GateSt) : (s.modGdv f).tx = s.tx := rfl
@[simp] theorem State.modGdv_free (f : GateSt → GateSt) : (s.modGdv f).free = s.free := rfl
@[simp] theorem State.modGdv_isl (f : GateSt → GateSt) : (s.modGdv f).isl = s.isl := rfl
@[simp] theorem State.modGdv_mod (f : GateSt → GateSt) : (s.modGdv f).mod = s.mod := rfl
@[simp] theorem State.modGdv_stg (f : GateSt → GateSt) : (s.modGdv f).stg = s.stg := rfl
@[simp] theorem State.modGdv_shr (f : GateSt → GateSt) : (s.modGdv f).shr = s.shr := rfl
@[simp] theorem State.modGdv_frt (f : GateSt → GateSt) : (s.modGdv f).frt = s.frt := rfl
@[simp] theorem State.modGdv_srv (f : GateSt → GateSt) : (s.modGdv f).srv = s.srv := rfl
@[simp] theorem State.modGdv_pie (f : GateSt → GateSt) : (s.modGdv f).pie = s.pie := rfl
@[simp] theorem State.modGdv_edg (f : GateSt → GateSt) : (s.modGdv f).edg = s.edg := rfl
@[simp] theorem State.modGdv_gdv (f : GateSt → GateSt) : (s.modGdv f).gdv = f s.gdv := rfl
@[simp] theorem State.modGdv_acq (f : GateSt → GateSt) : (s.modGdv f).acq = s.acq := rfl
@[simp] theorem State.modGdv_gal (f : GateSt → GateSt) : (s.modGdv f).gal = s.gal := rfl
@[simp] theorem State.modGdv_clk (f : GateSt → GateSt) : (s.modGdv f).clk = s.clk := rfl
@[simp] theorem State.modGdv_twn (f : GateSt → GateSt) : (s.modGdv f).twn = s.twn := rfl
@[simp] theorem State.modGdv_saf (f : GateSt → GateSt) : (s.modGdv f).saf = s.saf := rfl
@[simp] theorem State.modGdv_fio (f : GateSt → GateSt) : (s.modGdv f).fio = s.fio := rfl
@[simp] theorem State.modGdv_sup (f : GateSt → GateSt) : (s.modGdv f).sup = s.sup := rfl
@[simp] theorem State.modGdv_lgc (f : GateSt → GateSt) : (s.modGdv f).lgc = s.lgc := rfl
@[simp] theorem State.modGdv_net (f : GateSt → GateSt) : (s.modGdv f).net = s.net := rfl
@[simp] theorem State.modGdv_nvs (f : GateSt → GateSt) : (s.modGdv f).nvs = s.nvs := rfl

@[simp] theorem State.modNet_pending (f : NetSt → NetSt) : (s.modNet f).pending = s.pending := rfl
@[simp] theorem State.modNet_objs (f : NetSt → NetSt) : (s.modNet f).objs = s.objs := rfl
@[simp] theorem State.modNet_saved (f : NetSt → NetSt) : (s.modNet f).saved = s.saved := rfl
@[simp] theorem State.modNet_commitWrites (f : NetSt → NetSt) : (s.modNet f).commitWrites = s.commitWrites := rfl
@[simp] theorem State.modNet_heldWrites (f : NetSt → NetSt) : (s.modNet f).heldWrites = s.heldWrites := rfl
@[simp] theorem State.modNet_modeWrites (f : NetSt → NetSt) : (s.modNet f).modeWrites = s.modeWrites := rfl
@[simp] theorem State.modNet_resetWrites (f : NetSt → NetSt) : (s.modNet f).resetWrites = s.resetWrites := rfl
@[simp] theorem State.modNet_logSeq (f : NetSt → NetSt) : (s.modNet f).logSeq = s.logSeq := rfl
@[simp] theorem State.modNet_logBuf (f : NetSt → NetSt) : (s.modNet f).logBuf = s.logBuf := rfl
@[simp] theorem State.modNet_logFlash (f : NetSt → NetSt) : (s.modNet f).logFlash = s.logFlash := rfl
@[simp] theorem State.modNet_lastLog (f : NetSt → NetSt) : (s.modNet f).lastLog = s.lastLog := rfl
@[simp] theorem State.modNet_tx (f : NetSt → NetSt) : (s.modNet f).tx = s.tx := rfl
@[simp] theorem State.modNet_free (f : NetSt → NetSt) : (s.modNet f).free = s.free := rfl
@[simp] theorem State.modNet_isl (f : NetSt → NetSt) : (s.modNet f).isl = s.isl := rfl
@[simp] theorem State.modNet_mod (f : NetSt → NetSt) : (s.modNet f).mod = s.mod := rfl
@[simp] theorem State.modNet_stg (f : NetSt → NetSt) : (s.modNet f).stg = s.stg := rfl
@[simp] theorem State.modNet_shr (f : NetSt → NetSt) : (s.modNet f).shr = s.shr := rfl
@[simp] theorem State.modNet_frt (f : NetSt → NetSt) : (s.modNet f).frt = s.frt := rfl
@[simp] theorem State.modNet_srv (f : NetSt → NetSt) : (s.modNet f).srv = s.srv := rfl
@[simp] theorem State.modNet_pie (f : NetSt → NetSt) : (s.modNet f).pie = s.pie := rfl
@[simp] theorem State.modNet_edg (f : NetSt → NetSt) : (s.modNet f).edg = s.edg := rfl
@[simp] theorem State.modNet_gdv (f : NetSt → NetSt) : (s.modNet f).gdv = s.gdv := rfl
@[simp] theorem State.modNet_acq (f : NetSt → NetSt) : (s.modNet f).acq = s.acq := rfl
@[simp] theorem State.modNet_gal (f : NetSt → NetSt) : (s.modNet f).gal = s.gal := rfl
@[simp] theorem State.modNet_clk (f : NetSt → NetSt) : (s.modNet f).clk = s.clk := rfl
@[simp] theorem State.modNet_twn (f : NetSt → NetSt) : (s.modNet f).twn = s.twn := rfl
@[simp] theorem State.modNet_saf (f : NetSt → NetSt) : (s.modNet f).saf = s.saf := rfl
@[simp] theorem State.modNet_fio (f : NetSt → NetSt) : (s.modNet f).fio = s.fio := rfl
@[simp] theorem State.modNet_sup (f : NetSt → NetSt) : (s.modNet f).sup = s.sup := rfl
@[simp] theorem State.modNet_lgc (f : NetSt → NetSt) : (s.modNet f).lgc = s.lgc := rfl
@[simp] theorem State.modNet_net (f : NetSt → NetSt) : (s.modNet f).net = f s.net := rfl
@[simp] theorem State.modNet_nvs (f : NetSt → NetSt) : (s.modNet f).nvs = s.nvs := rfl

@[simp] theorem State.modFio_pending (f : FieldSt → FieldSt) : (s.modFio f).pending = s.pending := rfl
@[simp] theorem State.modFio_objs (f : FieldSt → FieldSt) : (s.modFio f).objs = s.objs := rfl
@[simp] theorem State.modFio_saved (f : FieldSt → FieldSt) : (s.modFio f).saved = s.saved := rfl
@[simp] theorem State.modFio_commitWrites (f : FieldSt → FieldSt) : (s.modFio f).commitWrites = s.commitWrites := rfl
@[simp] theorem State.modFio_heldWrites (f : FieldSt → FieldSt) : (s.modFio f).heldWrites = s.heldWrites := rfl
@[simp] theorem State.modFio_modeWrites (f : FieldSt → FieldSt) : (s.modFio f).modeWrites = s.modeWrites := rfl
@[simp] theorem State.modFio_resetWrites (f : FieldSt → FieldSt) : (s.modFio f).resetWrites = s.resetWrites := rfl
@[simp] theorem State.modFio_logSeq (f : FieldSt → FieldSt) : (s.modFio f).logSeq = s.logSeq := rfl
@[simp] theorem State.modFio_logBuf (f : FieldSt → FieldSt) : (s.modFio f).logBuf = s.logBuf := rfl
@[simp] theorem State.modFio_logFlash (f : FieldSt → FieldSt) : (s.modFio f).logFlash = s.logFlash := rfl
@[simp] theorem State.modFio_lastLog (f : FieldSt → FieldSt) : (s.modFio f).lastLog = s.lastLog := rfl
@[simp] theorem State.modFio_tx (f : FieldSt → FieldSt) : (s.modFio f).tx = s.tx := rfl
@[simp] theorem State.modFio_free (f : FieldSt → FieldSt) : (s.modFio f).free = s.free := rfl
@[simp] theorem State.modFio_isl (f : FieldSt → FieldSt) : (s.modFio f).isl = s.isl := rfl
@[simp] theorem State.modFio_mod (f : FieldSt → FieldSt) : (s.modFio f).mod = s.mod := rfl
@[simp] theorem State.modFio_stg (f : FieldSt → FieldSt) : (s.modFio f).stg = s.stg := rfl
@[simp] theorem State.modFio_shr (f : FieldSt → FieldSt) : (s.modFio f).shr = s.shr := rfl
@[simp] theorem State.modFio_frt (f : FieldSt → FieldSt) : (s.modFio f).frt = s.frt := rfl
@[simp] theorem State.modFio_srv (f : FieldSt → FieldSt) : (s.modFio f).srv = s.srv := rfl
@[simp] theorem State.modFio_pie (f : FieldSt → FieldSt) : (s.modFio f).pie = s.pie := rfl
@[simp] theorem State.modFio_edg (f : FieldSt → FieldSt) : (s.modFio f).edg = s.edg := rfl
@[simp] theorem State.modFio_gdv (f : FieldSt → FieldSt) : (s.modFio f).gdv = s.gdv := rfl
@[simp] theorem State.modFio_acq (f : FieldSt → FieldSt) : (s.modFio f).acq = s.acq := rfl
@[simp] theorem State.modFio_gal (f : FieldSt → FieldSt) : (s.modFio f).gal = s.gal := rfl
@[simp] theorem State.modFio_clk (f : FieldSt → FieldSt) : (s.modFio f).clk = s.clk := rfl
@[simp] theorem State.modFio_twn (f : FieldSt → FieldSt) : (s.modFio f).twn = s.twn := rfl
@[simp] theorem State.modFio_saf (f : FieldSt → FieldSt) : (s.modFio f).saf = s.saf := rfl
@[simp] theorem State.modFio_fio (f : FieldSt → FieldSt) : (s.modFio f).fio = f s.fio := rfl
@[simp] theorem State.modFio_sup (f : FieldSt → FieldSt) : (s.modFio f).sup = s.sup := rfl
@[simp] theorem State.modFio_lgc (f : FieldSt → FieldSt) : (s.modFio f).lgc = s.lgc := rfl
@[simp] theorem State.modFio_net (f : FieldSt → FieldSt) : (s.modFio f).net = s.net := rfl
@[simp] theorem State.modFio_nvs (f : FieldSt → FieldSt) : (s.modFio f).nvs = s.nvs := rfl

@[simp] theorem State.modSaf_pending (f : SafetySt → SafetySt) : (s.modSaf f).pending = s.pending := rfl
@[simp] theorem State.modSaf_objs (f : SafetySt → SafetySt) : (s.modSaf f).objs = s.objs := rfl
@[simp] theorem State.modSaf_saved (f : SafetySt → SafetySt) : (s.modSaf f).saved = s.saved := rfl
@[simp] theorem State.modSaf_commitWrites (f : SafetySt → SafetySt) : (s.modSaf f).commitWrites = s.commitWrites := rfl
@[simp] theorem State.modSaf_heldWrites (f : SafetySt → SafetySt) : (s.modSaf f).heldWrites = s.heldWrites := rfl
@[simp] theorem State.modSaf_modeWrites (f : SafetySt → SafetySt) : (s.modSaf f).modeWrites = s.modeWrites := rfl
@[simp] theorem State.modSaf_resetWrites (f : SafetySt → SafetySt) : (s.modSaf f).resetWrites = s.resetWrites := rfl
@[simp] theorem State.modSaf_logSeq (f : SafetySt → SafetySt) : (s.modSaf f).logSeq = s.logSeq := rfl
@[simp] theorem State.modSaf_logBuf (f : SafetySt → SafetySt) : (s.modSaf f).logBuf = s.logBuf := rfl
@[simp] theorem State.modSaf_logFlash (f : SafetySt → SafetySt) : (s.modSaf f).logFlash = s.logFlash := rfl
@[simp] theorem State.modSaf_lastLog (f : SafetySt → SafetySt) : (s.modSaf f).lastLog = s.lastLog := rfl
@[simp] theorem State.modSaf_tx (f : SafetySt → SafetySt) : (s.modSaf f).tx = s.tx := rfl
@[simp] theorem State.modSaf_free (f : SafetySt → SafetySt) : (s.modSaf f).free = s.free := rfl
@[simp] theorem State.modSaf_isl (f : SafetySt → SafetySt) : (s.modSaf f).isl = s.isl := rfl
@[simp] theorem State.modSaf_mod (f : SafetySt → SafetySt) : (s.modSaf f).mod = s.mod := rfl
@[simp] theorem State.modSaf_stg (f : SafetySt → SafetySt) : (s.modSaf f).stg = s.stg := rfl
@[simp] theorem State.modSaf_shr (f : SafetySt → SafetySt) : (s.modSaf f).shr = s.shr := rfl
@[simp] theorem State.modSaf_frt (f : SafetySt → SafetySt) : (s.modSaf f).frt = s.frt := rfl
@[simp] theorem State.modSaf_srv (f : SafetySt → SafetySt) : (s.modSaf f).srv = s.srv := rfl
@[simp] theorem State.modSaf_pie (f : SafetySt → SafetySt) : (s.modSaf f).pie = s.pie := rfl
@[simp] theorem State.modSaf_edg (f : SafetySt → SafetySt) : (s.modSaf f).edg = s.edg := rfl
@[simp] theorem State.modSaf_gdv (f : SafetySt → SafetySt) : (s.modSaf f).gdv = s.gdv := rfl
@[simp] theorem State.modSaf_acq (f : SafetySt → SafetySt) : (s.modSaf f).acq = s.acq := rfl
@[simp] theorem State.modSaf_gal (f : SafetySt → SafetySt) : (s.modSaf f).gal = s.gal := rfl
@[simp] theorem State.modSaf_clk (f : SafetySt → SafetySt) : (s.modSaf f).clk = s.clk := rfl
@[simp] theorem State.modSaf_twn (f : SafetySt → SafetySt) : (s.modSaf f).twn = s.twn := rfl
@[simp] theorem State.modSaf_saf (f : SafetySt → SafetySt) : (s.modSaf f).saf = f s.saf := rfl
@[simp] theorem State.modSaf_fio (f : SafetySt → SafetySt) : (s.modSaf f).fio = s.fio := rfl
@[simp] theorem State.modSaf_sup (f : SafetySt → SafetySt) : (s.modSaf f).sup = s.sup := rfl
@[simp] theorem State.modSaf_lgc (f : SafetySt → SafetySt) : (s.modSaf f).lgc = s.lgc := rfl
@[simp] theorem State.modSaf_net (f : SafetySt → SafetySt) : (s.modSaf f).net = s.net := rfl
@[simp] theorem State.modSaf_nvs (f : SafetySt → SafetySt) : (s.modSaf f).nvs = s.nvs := rfl

@[simp] theorem State.modSup_pending (f : SupplySt → SupplySt) : (s.modSup f).pending = s.pending := rfl
@[simp] theorem State.modSup_objs (f : SupplySt → SupplySt) : (s.modSup f).objs = s.objs := rfl
@[simp] theorem State.modSup_saved (f : SupplySt → SupplySt) : (s.modSup f).saved = s.saved := rfl
@[simp] theorem State.modSup_commitWrites (f : SupplySt → SupplySt) : (s.modSup f).commitWrites = s.commitWrites := rfl
@[simp] theorem State.modSup_heldWrites (f : SupplySt → SupplySt) : (s.modSup f).heldWrites = s.heldWrites := rfl
@[simp] theorem State.modSup_modeWrites (f : SupplySt → SupplySt) : (s.modSup f).modeWrites = s.modeWrites := rfl
@[simp] theorem State.modSup_resetWrites (f : SupplySt → SupplySt) : (s.modSup f).resetWrites = s.resetWrites := rfl
@[simp] theorem State.modSup_logSeq (f : SupplySt → SupplySt) : (s.modSup f).logSeq = s.logSeq := rfl
@[simp] theorem State.modSup_logBuf (f : SupplySt → SupplySt) : (s.modSup f).logBuf = s.logBuf := rfl
@[simp] theorem State.modSup_logFlash (f : SupplySt → SupplySt) : (s.modSup f).logFlash = s.logFlash := rfl
@[simp] theorem State.modSup_lastLog (f : SupplySt → SupplySt) : (s.modSup f).lastLog = s.lastLog := rfl
@[simp] theorem State.modSup_tx (f : SupplySt → SupplySt) : (s.modSup f).tx = s.tx := rfl
@[simp] theorem State.modSup_free (f : SupplySt → SupplySt) : (s.modSup f).free = s.free := rfl
@[simp] theorem State.modSup_isl (f : SupplySt → SupplySt) : (s.modSup f).isl = s.isl := rfl
@[simp] theorem State.modSup_mod (f : SupplySt → SupplySt) : (s.modSup f).mod = s.mod := rfl
@[simp] theorem State.modSup_stg (f : SupplySt → SupplySt) : (s.modSup f).stg = s.stg := rfl
@[simp] theorem State.modSup_shr (f : SupplySt → SupplySt) : (s.modSup f).shr = s.shr := rfl
@[simp] theorem State.modSup_frt (f : SupplySt → SupplySt) : (s.modSup f).frt = s.frt := rfl
@[simp] theorem State.modSup_srv (f : SupplySt → SupplySt) : (s.modSup f).srv = s.srv := rfl
@[simp] theorem State.modSup_pie (f : SupplySt → SupplySt) : (s.modSup f).pie = s.pie := rfl
@[simp] theorem State.modSup_edg (f : SupplySt → SupplySt) : (s.modSup f).edg = s.edg := rfl
@[simp] theorem State.modSup_gdv (f : SupplySt → SupplySt) : (s.modSup f).gdv = s.gdv := rfl
@[simp] theorem State.modSup_acq (f : SupplySt → SupplySt) : (s.modSup f).acq = s.acq := rfl
@[simp] theorem State.modSup_gal (f : SupplySt → SupplySt) : (s.modSup f).gal = s.gal := rfl
@[simp] theorem State.modSup_clk (f : SupplySt → SupplySt) : (s.modSup f).clk = s.clk := rfl
@[simp] theorem State.modSup_twn (f : SupplySt → SupplySt) : (s.modSup f).twn = s.twn := rfl
@[simp] theorem State.modSup_saf (f : SupplySt → SupplySt) : (s.modSup f).saf = s.saf := rfl
@[simp] theorem State.modSup_fio (f : SupplySt → SupplySt) : (s.modSup f).fio = s.fio := rfl
@[simp] theorem State.modSup_sup (f : SupplySt → SupplySt) : (s.modSup f).sup = f s.sup := rfl
@[simp] theorem State.modSup_lgc (f : SupplySt → SupplySt) : (s.modSup f).lgc = s.lgc := rfl
@[simp] theorem State.modSup_net (f : SupplySt → SupplySt) : (s.modSup f).net = s.net := rfl
@[simp] theorem State.modSup_nvs (f : SupplySt → SupplySt) : (s.modSup f).nvs = s.nvs := rfl

@[simp] theorem State.modAcq_pending (f : AcqSt → AcqSt) : (s.modAcq f).pending = s.pending := rfl
@[simp] theorem State.modAcq_objs (f : AcqSt → AcqSt) : (s.modAcq f).objs = s.objs := rfl
@[simp] theorem State.modAcq_saved (f : AcqSt → AcqSt) : (s.modAcq f).saved = s.saved := rfl
@[simp] theorem State.modAcq_commitWrites (f : AcqSt → AcqSt) : (s.modAcq f).commitWrites = s.commitWrites := rfl
@[simp] theorem State.modAcq_heldWrites (f : AcqSt → AcqSt) : (s.modAcq f).heldWrites = s.heldWrites := rfl
@[simp] theorem State.modAcq_modeWrites (f : AcqSt → AcqSt) : (s.modAcq f).modeWrites = s.modeWrites := rfl
@[simp] theorem State.modAcq_resetWrites (f : AcqSt → AcqSt) : (s.modAcq f).resetWrites = s.resetWrites := rfl
@[simp] theorem State.modAcq_logSeq (f : AcqSt → AcqSt) : (s.modAcq f).logSeq = s.logSeq := rfl
@[simp] theorem State.modAcq_logBuf (f : AcqSt → AcqSt) : (s.modAcq f).logBuf = s.logBuf := rfl
@[simp] theorem State.modAcq_logFlash (f : AcqSt → AcqSt) : (s.modAcq f).logFlash = s.logFlash := rfl
@[simp] theorem State.modAcq_lastLog (f : AcqSt → AcqSt) : (s.modAcq f).lastLog = s.lastLog := rfl
@[simp] theorem State.modAcq_tx (f : AcqSt → AcqSt) : (s.modAcq f).tx = s.tx := rfl
@[simp] theorem State.modAcq_free (f : AcqSt → AcqSt) : (s.modAcq f).free = s.free := rfl
@[simp] theorem State.modAcq_isl (f : AcqSt → AcqSt) : (s.modAcq f).isl = s.isl := rfl
@[simp] theorem State.modAcq_mod (f : AcqSt → AcqSt) : (s.modAcq f).mod = s.mod := rfl
@[simp] theorem State.modAcq_stg (f : AcqSt → AcqSt) : (s.modAcq f).stg = s.stg := rfl
@[simp] theorem State.modAcq_shr (f : AcqSt → AcqSt) : (s.modAcq f).shr = s.shr := rfl
@[simp] theorem State.modAcq_frt (f : AcqSt → AcqSt) : (s.modAcq f).frt = s.frt := rfl
@[simp] theorem State.modAcq_srv (f : AcqSt → AcqSt) : (s.modAcq f).srv = s.srv := rfl
@[simp] theorem State.modAcq_pie (f : AcqSt → AcqSt) : (s.modAcq f).pie = s.pie := rfl
@[simp] theorem State.modAcq_edg (f : AcqSt → AcqSt) : (s.modAcq f).edg = s.edg := rfl
@[simp] theorem State.modAcq_gdv (f : AcqSt → AcqSt) : (s.modAcq f).gdv = s.gdv := rfl
@[simp] theorem State.modAcq_acq (f : AcqSt → AcqSt) : (s.modAcq f).acq = f s.acq := rfl
@[simp] theorem State.modAcq_gal (f : AcqSt → AcqSt) : (s.modAcq f).gal = s.gal := rfl
@[simp] theorem State.modAcq_clk (f : AcqSt → AcqSt) : (s.modAcq f).clk = s.clk := rfl
@[simp] theorem State.modAcq_twn (f : AcqSt → AcqSt) : (s.modAcq f).twn = s.twn := rfl
@[simp] theorem State.modAcq_saf (f : AcqSt → AcqSt) : (s.modAcq f).saf = s.saf := rfl
@[simp] theorem State.modAcq_fio (f : AcqSt → AcqSt) : (s.modAcq f).fio = s.fio := rfl
@[simp] theorem State.modAcq_sup (f : AcqSt → AcqSt) : (s.modAcq f).sup = s.sup := rfl
@[simp] theorem State.modAcq_lgc (f : AcqSt → AcqSt) : (s.modAcq f).lgc = s.lgc := rfl
@[simp] theorem State.modAcq_net (f : AcqSt → AcqSt) : (s.modAcq f).net = s.net := rfl
@[simp] theorem State.modAcq_nvs (f : AcqSt → AcqSt) : (s.modAcq f).nvs = s.nvs := rfl

@[simp] theorem State.modGal_pending (p : StageId) (f : GalSt → GalSt) : (s.modGal p f).pending = s.pending := rfl
@[simp] theorem State.modGal_objs (p : StageId) (f : GalSt → GalSt) : (s.modGal p f).objs = s.objs := rfl
@[simp] theorem State.modGal_saved (p : StageId) (f : GalSt → GalSt) : (s.modGal p f).saved = s.saved := rfl
@[simp] theorem State.modGal_commitWrites (p : StageId) (f : GalSt → GalSt) : (s.modGal p f).commitWrites = s.commitWrites := rfl
@[simp] theorem State.modGal_heldWrites (p : StageId) (f : GalSt → GalSt) : (s.modGal p f).heldWrites = s.heldWrites := rfl
@[simp] theorem State.modGal_modeWrites (p : StageId) (f : GalSt → GalSt) : (s.modGal p f).modeWrites = s.modeWrites := rfl
@[simp] theorem State.modGal_resetWrites (p : StageId) (f : GalSt → GalSt) : (s.modGal p f).resetWrites = s.resetWrites := rfl
@[simp] theorem State.modGal_logSeq (p : StageId) (f : GalSt → GalSt) : (s.modGal p f).logSeq = s.logSeq := rfl
@[simp] theorem State.modGal_logBuf (p : StageId) (f : GalSt → GalSt) : (s.modGal p f).logBuf = s.logBuf := rfl
@[simp] theorem State.modGal_logFlash (p : StageId) (f : GalSt → GalSt) : (s.modGal p f).logFlash = s.logFlash := rfl
@[simp] theorem State.modGal_lastLog (p : StageId) (f : GalSt → GalSt) : (s.modGal p f).lastLog = s.lastLog := rfl
@[simp] theorem State.modGal_tx (p : StageId) (f : GalSt → GalSt) : (s.modGal p f).tx = s.tx := rfl
@[simp] theorem State.modGal_free (p : StageId) (f : GalSt → GalSt) : (s.modGal p f).free = s.free := rfl
@[simp] theorem State.modGal_isl (p : StageId) (f : GalSt → GalSt) : (s.modGal p f).isl = s.isl := rfl
@[simp] theorem State.modGal_mod (p : StageId) (f : GalSt → GalSt) : (s.modGal p f).mod = s.mod := rfl
@[simp] theorem State.modGal_stg (p : StageId) (f : GalSt → GalSt) : (s.modGal p f).stg = s.stg := rfl
@[simp] theorem State.modGal_shr (p : StageId) (f : GalSt → GalSt) : (s.modGal p f).shr = s.shr := rfl
@[simp] theorem State.modGal_frt (p : StageId) (f : GalSt → GalSt) : (s.modGal p f).frt = s.frt := rfl
@[simp] theorem State.modGal_srv (p : StageId) (f : GalSt → GalSt) : (s.modGal p f).srv = s.srv := rfl
@[simp] theorem State.modGal_pie (p : StageId) (f : GalSt → GalSt) : (s.modGal p f).pie = s.pie := rfl
@[simp] theorem State.modGal_edg (p : StageId) (f : GalSt → GalSt) : (s.modGal p f).edg = s.edg := rfl
@[simp] theorem State.modGal_gdv (p : StageId) (f : GalSt → GalSt) : (s.modGal p f).gdv = s.gdv := rfl
@[simp] theorem State.modGal_acq (p : StageId) (f : GalSt → GalSt) : (s.modGal p f).acq = s.acq := rfl
@[simp] theorem State.modGal_gal (p : StageId) (f : GalSt → GalSt) : (s.modGal p f).gal = s.gal.set p (f s.gal[p]) := rfl
@[simp] theorem State.modGal_clk (p : StageId) (f : GalSt → GalSt) : (s.modGal p f).clk = s.clk := rfl
@[simp] theorem State.modGal_twn (p : StageId) (f : GalSt → GalSt) : (s.modGal p f).twn = s.twn := rfl
@[simp] theorem State.modGal_saf (p : StageId) (f : GalSt → GalSt) : (s.modGal p f).saf = s.saf := rfl
@[simp] theorem State.modGal_fio (p : StageId) (f : GalSt → GalSt) : (s.modGal p f).fio = s.fio := rfl
@[simp] theorem State.modGal_sup (p : StageId) (f : GalSt → GalSt) : (s.modGal p f).sup = s.sup := rfl
@[simp] theorem State.modGal_lgc (p : StageId) (f : GalSt → GalSt) : (s.modGal p f).lgc = s.lgc := rfl
@[simp] theorem State.modGal_net (p : StageId) (f : GalSt → GalSt) : (s.modGal p f).net = s.net := rfl
@[simp] theorem State.modGal_nvs (p : StageId) (f : GalSt → GalSt) : (s.modGal p f).nvs = s.nvs := rfl

@[simp] theorem State.modGal_at (p : StageId) (f : GalSt → GalSt) (m : StageId) : (s.modGal p f).gal[m] = if p = m then f s.gal[p] else s.gal[m] := by
  show (s.gal.set p (f s.gal[p]))[m] = _
  rw [Fin.getElem_fin, Vector.getElem_set]
  by_cases h : p = m
  · subst h; simp
  · rw [if_neg h, if_neg (fun c => h (Fin.ext c))]; rfl

@[simp] theorem State.modLgc_pending (f : LogicSt → LogicSt) : (s.modLgc f).pending = s.pending := rfl
@[simp] theorem State.modLgc_objs (f : LogicSt → LogicSt) : (s.modLgc f).objs = s.objs := rfl
@[simp] theorem State.modLgc_saved (f : LogicSt → LogicSt) : (s.modLgc f).saved = s.saved := rfl
@[simp] theorem State.modLgc_commitWrites (f : LogicSt → LogicSt) : (s.modLgc f).commitWrites = s.commitWrites := rfl
@[simp] theorem State.modLgc_heldWrites (f : LogicSt → LogicSt) : (s.modLgc f).heldWrites = s.heldWrites := rfl
@[simp] theorem State.modLgc_modeWrites (f : LogicSt → LogicSt) : (s.modLgc f).modeWrites = s.modeWrites := rfl
@[simp] theorem State.modLgc_resetWrites (f : LogicSt → LogicSt) : (s.modLgc f).resetWrites = s.resetWrites := rfl
@[simp] theorem State.modLgc_logSeq (f : LogicSt → LogicSt) : (s.modLgc f).logSeq = s.logSeq := rfl
@[simp] theorem State.modLgc_logBuf (f : LogicSt → LogicSt) : (s.modLgc f).logBuf = s.logBuf := rfl
@[simp] theorem State.modLgc_logFlash (f : LogicSt → LogicSt) : (s.modLgc f).logFlash = s.logFlash := rfl
@[simp] theorem State.modLgc_lastLog (f : LogicSt → LogicSt) : (s.modLgc f).lastLog = s.lastLog := rfl
@[simp] theorem State.modLgc_tx (f : LogicSt → LogicSt) : (s.modLgc f).tx = s.tx := rfl
@[simp] theorem State.modLgc_free (f : LogicSt → LogicSt) : (s.modLgc f).free = s.free := rfl
@[simp] theorem State.modLgc_isl (f : LogicSt → LogicSt) : (s.modLgc f).isl = s.isl := rfl
@[simp] theorem State.modLgc_mod (f : LogicSt → LogicSt) : (s.modLgc f).mod = s.mod := rfl
@[simp] theorem State.modLgc_stg (f : LogicSt → LogicSt) : (s.modLgc f).stg = s.stg := rfl
@[simp] theorem State.modLgc_shr (f : LogicSt → LogicSt) : (s.modLgc f).shr = s.shr := rfl
@[simp] theorem State.modLgc_frt (f : LogicSt → LogicSt) : (s.modLgc f).frt = s.frt := rfl
@[simp] theorem State.modLgc_srv (f : LogicSt → LogicSt) : (s.modLgc f).srv = s.srv := rfl
@[simp] theorem State.modLgc_pie (f : LogicSt → LogicSt) : (s.modLgc f).pie = s.pie := rfl
@[simp] theorem State.modLgc_edg (f : LogicSt → LogicSt) : (s.modLgc f).edg = s.edg := rfl
@[simp] theorem State.modLgc_gdv (f : LogicSt → LogicSt) : (s.modLgc f).gdv = s.gdv := rfl
@[simp] theorem State.modLgc_acq (f : LogicSt → LogicSt) : (s.modLgc f).acq = s.acq := rfl
@[simp] theorem State.modLgc_gal (f : LogicSt → LogicSt) : (s.modLgc f).gal = s.gal := rfl
@[simp] theorem State.modLgc_clk (f : LogicSt → LogicSt) : (s.modLgc f).clk = s.clk := rfl
@[simp] theorem State.modLgc_twn (f : LogicSt → LogicSt) : (s.modLgc f).twn = s.twn := rfl
@[simp] theorem State.modLgc_saf (f : LogicSt → LogicSt) : (s.modLgc f).saf = s.saf := rfl
@[simp] theorem State.modLgc_fio (f : LogicSt → LogicSt) : (s.modLgc f).fio = s.fio := rfl
@[simp] theorem State.modLgc_sup (f : LogicSt → LogicSt) : (s.modLgc f).sup = s.sup := rfl
@[simp] theorem State.modLgc_lgc (f : LogicSt → LogicSt) : (s.modLgc f).lgc = f s.lgc := rfl
@[simp] theorem State.modLgc_net (f : LogicSt → LogicSt) : (s.modLgc f).net = s.net := rfl
@[simp] theorem State.modLgc_nvs (f : LogicSt → LogicSt) : (s.modLgc f).nvs = s.nvs := rfl

@[simp] theorem State.modNvs_pending (f : StoresSt → StoresSt) : (s.modNvs f).pending = s.pending := rfl
@[simp] theorem State.modNvs_objs (f : StoresSt → StoresSt) : (s.modNvs f).objs = s.objs := rfl
@[simp] theorem State.modNvs_saved (f : StoresSt → StoresSt) : (s.modNvs f).saved = s.saved := rfl
@[simp] theorem State.modNvs_commitWrites (f : StoresSt → StoresSt) : (s.modNvs f).commitWrites = s.commitWrites := rfl
@[simp] theorem State.modNvs_heldWrites (f : StoresSt → StoresSt) : (s.modNvs f).heldWrites = s.heldWrites := rfl
@[simp] theorem State.modNvs_modeWrites (f : StoresSt → StoresSt) : (s.modNvs f).modeWrites = s.modeWrites := rfl
@[simp] theorem State.modNvs_resetWrites (f : StoresSt → StoresSt) : (s.modNvs f).resetWrites = s.resetWrites := rfl
@[simp] theorem State.modNvs_logSeq (f : StoresSt → StoresSt) : (s.modNvs f).logSeq = s.logSeq := rfl
@[simp] theorem State.modNvs_logBuf (f : StoresSt → StoresSt) : (s.modNvs f).logBuf = s.logBuf := rfl
@[simp] theorem State.modNvs_logFlash (f : StoresSt → StoresSt) : (s.modNvs f).logFlash = s.logFlash := rfl
@[simp] theorem State.modNvs_lastLog (f : StoresSt → StoresSt) : (s.modNvs f).lastLog = s.lastLog := rfl
@[simp] theorem State.modNvs_tx (f : StoresSt → StoresSt) : (s.modNvs f).tx = s.tx := rfl
@[simp] theorem State.modNvs_free (f : StoresSt → StoresSt) : (s.modNvs f).free = s.free := rfl
@[simp] theorem State.modNvs_isl (f : StoresSt → StoresSt) : (s.modNvs f).isl = s.isl := rfl
@[simp] theorem State.modNvs_mod (f : StoresSt → StoresSt) : (s.modNvs f).mod = s.mod := rfl
@[simp] theorem State.modNvs_stg (f : StoresSt → StoresSt) : (s.modNvs f).stg = s.stg := rfl
@[simp] theorem State.modNvs_shr (f : StoresSt → StoresSt) : (s.modNvs f).shr = s.shr := rfl
@[simp] theorem State.modNvs_frt (f : StoresSt → StoresSt) : (s.modNvs f).frt = s.frt := rfl
@[simp] theorem State.modNvs_srv (f : StoresSt → StoresSt) : (s.modNvs f).srv = s.srv := rfl
@[simp] theorem State.modNvs_pie (f : StoresSt → StoresSt) : (s.modNvs f).pie = s.pie := rfl
@[simp] theorem State.modNvs_edg (f : StoresSt → StoresSt) : (s.modNvs f).edg = s.edg := rfl
@[simp] theorem State.modNvs_gdv (f : StoresSt → StoresSt) : (s.modNvs f).gdv = s.gdv := rfl
@[simp] theorem State.modNvs_acq (f : StoresSt → StoresSt) : (s.modNvs f).acq = s.acq := rfl
@[simp] theorem State.modNvs_gal (f : StoresSt → StoresSt) : (s.modNvs f).gal = s.gal := rfl
@[simp] theorem State.modNvs_clk (f : StoresSt → StoresSt) : (s.modNvs f).clk = s.clk := rfl
@[simp] theorem State.modNvs_twn (f : StoresSt → StoresSt) : (s.modNvs f).twn = s.twn := rfl
@[simp] theorem State.modNvs_saf (f : StoresSt → StoresSt) : (s.modNvs f).saf = s.saf := rfl
@[simp] theorem State.modNvs_fio (f : StoresSt → StoresSt) : (s.modNvs f).fio = s.fio := rfl
@[simp] theorem State.modNvs_sup (f : StoresSt → StoresSt) : (s.modNvs f).sup = s.sup := rfl
@[simp] theorem State.modNvs_lgc (f : StoresSt → StoresSt) : (s.modNvs f).lgc = s.lgc := rfl
@[simp] theorem State.modNvs_net (f : StoresSt → StoresSt) : (s.modNvs f).net = s.net := rfl
@[simp] theorem State.modNvs_nvs (f : StoresSt → StoresSt) : (s.modNvs f).nvs = f s.nvs := rfl

@[simp] theorem State.modBase_pending (b : Fin 3) (f : BaseSt → BaseSt) : (s.modBase b f).pending = s.pending := rfl
@[simp] theorem State.modBase_objs (b : Fin 3) (f : BaseSt → BaseSt) : (s.modBase b f).objs = s.objs := rfl
@[simp] theorem State.modBase_saved (b : Fin 3) (f : BaseSt → BaseSt) : (s.modBase b f).saved = s.saved := rfl
@[simp] theorem State.modBase_commitWrites (b : Fin 3) (f : BaseSt → BaseSt) : (s.modBase b f).commitWrites = s.commitWrites := rfl
@[simp] theorem State.modBase_heldWrites (b : Fin 3) (f : BaseSt → BaseSt) : (s.modBase b f).heldWrites = s.heldWrites := rfl
@[simp] theorem State.modBase_modeWrites (b : Fin 3) (f : BaseSt → BaseSt) : (s.modBase b f).modeWrites = s.modeWrites := rfl
@[simp] theorem State.modBase_resetWrites (b : Fin 3) (f : BaseSt → BaseSt) : (s.modBase b f).resetWrites = s.resetWrites := rfl
@[simp] theorem State.modBase_logSeq (b : Fin 3) (f : BaseSt → BaseSt) : (s.modBase b f).logSeq = s.logSeq := rfl
@[simp] theorem State.modBase_logBuf (b : Fin 3) (f : BaseSt → BaseSt) : (s.modBase b f).logBuf = s.logBuf := rfl
@[simp] theorem State.modBase_logFlash (b : Fin 3) (f : BaseSt → BaseSt) : (s.modBase b f).logFlash = s.logFlash := rfl
@[simp] theorem State.modBase_lastLog (b : Fin 3) (f : BaseSt → BaseSt) : (s.modBase b f).lastLog = s.lastLog := rfl
@[simp] theorem State.modBase_tx (b : Fin 3) (f : BaseSt → BaseSt) : (s.modBase b f).tx = s.tx := rfl
@[simp] theorem State.modBase_free (b : Fin 3) (f : BaseSt → BaseSt) : (s.modBase b f).free = s.free := rfl
@[simp] theorem State.modBase_isl (b : Fin 3) (f : BaseSt → BaseSt) : (s.modBase b f).isl = s.isl := rfl
@[simp] theorem State.modBase_mod (b : Fin 3) (f : BaseSt → BaseSt) : (s.modBase b f).mod = s.mod := rfl
@[simp] theorem State.modBase_stg (b : Fin 3) (f : BaseSt → BaseSt) : (s.modBase b f).stg = s.stg := rfl
@[simp] theorem State.modBase_shr (b : Fin 3) (f : BaseSt → BaseSt) : (s.modBase b f).shr = s.shr := rfl
@[simp] theorem State.modBase_frt (b : Fin 3) (f : BaseSt → BaseSt) : (s.modBase b f).frt = s.frt := rfl
@[simp] theorem State.modBase_srv (b : Fin 3) (f : BaseSt → BaseSt) : (s.modBase b f).srv = s.srv := rfl
@[simp] theorem State.modBase_pie (b : Fin 3) (f : BaseSt → BaseSt) : (s.modBase b f).pie = s.pie := rfl
@[simp] theorem State.modBase_edg (b : Fin 3) (f : BaseSt → BaseSt) : (s.modBase b f).edg = s.edg := rfl
@[simp] theorem State.modBase_gdv (b : Fin 3) (f : BaseSt → BaseSt) : (s.modBase b f).gdv = s.gdv := rfl
@[simp] theorem State.modBase_acq (b : Fin 3) (f : BaseSt → BaseSt) : (s.modBase b f).acq = s.acq := rfl
@[simp] theorem State.modBase_gal (b : Fin 3) (f : BaseSt → BaseSt) : (s.modBase b f).gal = s.gal := rfl
@[simp] theorem State.modBase_clk (b : Fin 3) (f : BaseSt → BaseSt) : (s.modBase b f).clk = ({ s.clk with base := s.clk.base.set b (f s.clk.base[b]) }) := rfl
@[simp] theorem State.modBase_twn (b : Fin 3) (f : BaseSt → BaseSt) : (s.modBase b f).twn = s.twn := rfl
@[simp] theorem State.modBase_saf (b : Fin 3) (f : BaseSt → BaseSt) : (s.modBase b f).saf = s.saf := rfl
@[simp] theorem State.modBase_fio (b : Fin 3) (f : BaseSt → BaseSt) : (s.modBase b f).fio = s.fio := rfl
@[simp] theorem State.modBase_sup (b : Fin 3) (f : BaseSt → BaseSt) : (s.modBase b f).sup = s.sup := rfl
@[simp] theorem State.modBase_lgc (b : Fin 3) (f : BaseSt → BaseSt) : (s.modBase b f).lgc = s.lgc := rfl
@[simp] theorem State.modBase_net (b : Fin 3) (f : BaseSt → BaseSt) : (s.modBase b f).net = s.net := rfl
@[simp] theorem State.modBase_nvs (b : Fin 3) (f : BaseSt → BaseSt) : (s.modBase b f).nvs = s.nvs := rfl

@[simp] theorem State.modPll_pending (p : Fin 2) (f : PllSt → PllSt) : (s.modPll p f).pending = s.pending := rfl
@[simp] theorem State.modPll_objs (p : Fin 2) (f : PllSt → PllSt) : (s.modPll p f).objs = s.objs := rfl
@[simp] theorem State.modPll_saved (p : Fin 2) (f : PllSt → PllSt) : (s.modPll p f).saved = s.saved := rfl
@[simp] theorem State.modPll_commitWrites (p : Fin 2) (f : PllSt → PllSt) : (s.modPll p f).commitWrites = s.commitWrites := rfl
@[simp] theorem State.modPll_heldWrites (p : Fin 2) (f : PllSt → PllSt) : (s.modPll p f).heldWrites = s.heldWrites := rfl
@[simp] theorem State.modPll_modeWrites (p : Fin 2) (f : PllSt → PllSt) : (s.modPll p f).modeWrites = s.modeWrites := rfl
@[simp] theorem State.modPll_resetWrites (p : Fin 2) (f : PllSt → PllSt) : (s.modPll p f).resetWrites = s.resetWrites := rfl
@[simp] theorem State.modPll_logSeq (p : Fin 2) (f : PllSt → PllSt) : (s.modPll p f).logSeq = s.logSeq := rfl
@[simp] theorem State.modPll_logBuf (p : Fin 2) (f : PllSt → PllSt) : (s.modPll p f).logBuf = s.logBuf := rfl
@[simp] theorem State.modPll_logFlash (p : Fin 2) (f : PllSt → PllSt) : (s.modPll p f).logFlash = s.logFlash := rfl
@[simp] theorem State.modPll_lastLog (p : Fin 2) (f : PllSt → PllSt) : (s.modPll p f).lastLog = s.lastLog := rfl
@[simp] theorem State.modPll_tx (p : Fin 2) (f : PllSt → PllSt) : (s.modPll p f).tx = s.tx := rfl
@[simp] theorem State.modPll_free (p : Fin 2) (f : PllSt → PllSt) : (s.modPll p f).free = s.free := rfl
@[simp] theorem State.modPll_isl (p : Fin 2) (f : PllSt → PllSt) : (s.modPll p f).isl = s.isl := rfl
@[simp] theorem State.modPll_mod (p : Fin 2) (f : PllSt → PllSt) : (s.modPll p f).mod = s.mod := rfl
@[simp] theorem State.modPll_stg (p : Fin 2) (f : PllSt → PllSt) : (s.modPll p f).stg = s.stg := rfl
@[simp] theorem State.modPll_shr (p : Fin 2) (f : PllSt → PllSt) : (s.modPll p f).shr = s.shr := rfl
@[simp] theorem State.modPll_frt (p : Fin 2) (f : PllSt → PllSt) : (s.modPll p f).frt = s.frt := rfl
@[simp] theorem State.modPll_srv (p : Fin 2) (f : PllSt → PllSt) : (s.modPll p f).srv = s.srv := rfl
@[simp] theorem State.modPll_pie (p : Fin 2) (f : PllSt → PllSt) : (s.modPll p f).pie = s.pie := rfl
@[simp] theorem State.modPll_edg (p : Fin 2) (f : PllSt → PllSt) : (s.modPll p f).edg = s.edg := rfl
@[simp] theorem State.modPll_gdv (p : Fin 2) (f : PllSt → PllSt) : (s.modPll p f).gdv = s.gdv := rfl
@[simp] theorem State.modPll_acq (p : Fin 2) (f : PllSt → PllSt) : (s.modPll p f).acq = s.acq := rfl
@[simp] theorem State.modPll_gal (p : Fin 2) (f : PllSt → PllSt) : (s.modPll p f).gal = s.gal := rfl
@[simp] theorem State.modPll_clk (p : Fin 2) (f : PllSt → PllSt) : (s.modPll p f).clk = ({ s.clk with pll := s.clk.pll.set p (f s.clk.pll[p]) }) := rfl
@[simp] theorem State.modPll_twn (p : Fin 2) (f : PllSt → PllSt) : (s.modPll p f).twn = s.twn := rfl
@[simp] theorem State.modPll_saf (p : Fin 2) (f : PllSt → PllSt) : (s.modPll p f).saf = s.saf := rfl
@[simp] theorem State.modPll_fio (p : Fin 2) (f : PllSt → PllSt) : (s.modPll p f).fio = s.fio := rfl
@[simp] theorem State.modPll_sup (p : Fin 2) (f : PllSt → PllSt) : (s.modPll p f).sup = s.sup := rfl
@[simp] theorem State.modPll_lgc (p : Fin 2) (f : PllSt → PllSt) : (s.modPll p f).lgc = s.lgc := rfl
@[simp] theorem State.modPll_net (p : Fin 2) (f : PllSt → PllSt) : (s.modPll p f).net = s.net := rfl
@[simp] theorem State.modPll_nvs (p : Fin 2) (f : PllSt → PllSt) : (s.modPll p f).nvs = s.nvs := rfl

@[simp] theorem State.modTb_pending (t : TbId) (f : TimebaseSt → TimebaseSt) : (s.modTb t f).pending = s.pending := rfl
@[simp] theorem State.modTb_objs (t : TbId) (f : TimebaseSt → TimebaseSt) : (s.modTb t f).objs = s.objs := rfl
@[simp] theorem State.modTb_saved (t : TbId) (f : TimebaseSt → TimebaseSt) : (s.modTb t f).saved = s.saved := rfl
@[simp] theorem State.modTb_commitWrites (t : TbId) (f : TimebaseSt → TimebaseSt) : (s.modTb t f).commitWrites = s.commitWrites := rfl
@[simp] theorem State.modTb_heldWrites (t : TbId) (f : TimebaseSt → TimebaseSt) : (s.modTb t f).heldWrites = s.heldWrites := rfl
@[simp] theorem State.modTb_modeWrites (t : TbId) (f : TimebaseSt → TimebaseSt) : (s.modTb t f).modeWrites = s.modeWrites := rfl
@[simp] theorem State.modTb_resetWrites (t : TbId) (f : TimebaseSt → TimebaseSt) : (s.modTb t f).resetWrites = s.resetWrites := rfl
@[simp] theorem State.modTb_logSeq (t : TbId) (f : TimebaseSt → TimebaseSt) : (s.modTb t f).logSeq = s.logSeq := rfl
@[simp] theorem State.modTb_logBuf (t : TbId) (f : TimebaseSt → TimebaseSt) : (s.modTb t f).logBuf = s.logBuf := rfl
@[simp] theorem State.modTb_logFlash (t : TbId) (f : TimebaseSt → TimebaseSt) : (s.modTb t f).logFlash = s.logFlash := rfl
@[simp] theorem State.modTb_lastLog (t : TbId) (f : TimebaseSt → TimebaseSt) : (s.modTb t f).lastLog = s.lastLog := rfl
@[simp] theorem State.modTb_tx (t : TbId) (f : TimebaseSt → TimebaseSt) : (s.modTb t f).tx = s.tx := rfl
@[simp] theorem State.modTb_free (t : TbId) (f : TimebaseSt → TimebaseSt) : (s.modTb t f).free = s.free := rfl
@[simp] theorem State.modTb_isl (t : TbId) (f : TimebaseSt → TimebaseSt) : (s.modTb t f).isl = s.isl := rfl
@[simp] theorem State.modTb_mod (t : TbId) (f : TimebaseSt → TimebaseSt) : (s.modTb t f).mod = s.mod := rfl
@[simp] theorem State.modTb_stg (t : TbId) (f : TimebaseSt → TimebaseSt) : (s.modTb t f).stg = s.stg := rfl
@[simp] theorem State.modTb_shr (t : TbId) (f : TimebaseSt → TimebaseSt) : (s.modTb t f).shr = s.shr := rfl
@[simp] theorem State.modTb_frt (t : TbId) (f : TimebaseSt → TimebaseSt) : (s.modTb t f).frt = s.frt := rfl
@[simp] theorem State.modTb_srv (t : TbId) (f : TimebaseSt → TimebaseSt) : (s.modTb t f).srv = s.srv := rfl
@[simp] theorem State.modTb_pie (t : TbId) (f : TimebaseSt → TimebaseSt) : (s.modTb t f).pie = s.pie := rfl
@[simp] theorem State.modTb_edg (t : TbId) (f : TimebaseSt → TimebaseSt) : (s.modTb t f).edg = ({ s.edg with tb := s.edg.tb.set t (f s.edg.tb[t]) }) := rfl
@[simp] theorem State.modTb_gdv (t : TbId) (f : TimebaseSt → TimebaseSt) : (s.modTb t f).gdv = s.gdv := rfl
@[simp] theorem State.modTb_acq (t : TbId) (f : TimebaseSt → TimebaseSt) : (s.modTb t f).acq = s.acq := rfl
@[simp] theorem State.modTb_gal (t : TbId) (f : TimebaseSt → TimebaseSt) : (s.modTb t f).gal = s.gal := rfl
@[simp] theorem State.modTb_clk (t : TbId) (f : TimebaseSt → TimebaseSt) : (s.modTb t f).clk = s.clk := rfl
@[simp] theorem State.modTb_twn (t : TbId) (f : TimebaseSt → TimebaseSt) : (s.modTb t f).twn = s.twn := rfl
@[simp] theorem State.modTb_saf (t : TbId) (f : TimebaseSt → TimebaseSt) : (s.modTb t f).saf = s.saf := rfl
@[simp] theorem State.modTb_fio (t : TbId) (f : TimebaseSt → TimebaseSt) : (s.modTb t f).fio = s.fio := rfl
@[simp] theorem State.modTb_sup (t : TbId) (f : TimebaseSt → TimebaseSt) : (s.modTb t f).sup = s.sup := rfl
@[simp] theorem State.modTb_lgc (t : TbId) (f : TimebaseSt → TimebaseSt) : (s.modTb t f).lgc = s.lgc := rfl
@[simp] theorem State.modTb_net (t : TbId) (f : TimebaseSt → TimebaseSt) : (s.modTb t f).net = s.net := rfl
@[simp] theorem State.modTb_nvs (t : TbId) (f : TimebaseSt → TimebaseSt) : (s.modTb t f).nvs = s.nvs := rfl

@[simp] theorem State.modCh_pending (c : ChanId) (f : ChanSt → ChanSt) : (s.modCh c f).pending = s.pending := rfl
@[simp] theorem State.modCh_objs (c : ChanId) (f : ChanSt → ChanSt) : (s.modCh c f).objs = s.objs := rfl
@[simp] theorem State.modCh_saved (c : ChanId) (f : ChanSt → ChanSt) : (s.modCh c f).saved = s.saved := rfl
@[simp] theorem State.modCh_commitWrites (c : ChanId) (f : ChanSt → ChanSt) : (s.modCh c f).commitWrites = s.commitWrites := rfl
@[simp] theorem State.modCh_heldWrites (c : ChanId) (f : ChanSt → ChanSt) : (s.modCh c f).heldWrites = s.heldWrites := rfl
@[simp] theorem State.modCh_modeWrites (c : ChanId) (f : ChanSt → ChanSt) : (s.modCh c f).modeWrites = s.modeWrites := rfl
@[simp] theorem State.modCh_resetWrites (c : ChanId) (f : ChanSt → ChanSt) : (s.modCh c f).resetWrites = s.resetWrites := rfl
@[simp] theorem State.modCh_logSeq (c : ChanId) (f : ChanSt → ChanSt) : (s.modCh c f).logSeq = s.logSeq := rfl
@[simp] theorem State.modCh_logBuf (c : ChanId) (f : ChanSt → ChanSt) : (s.modCh c f).logBuf = s.logBuf := rfl
@[simp] theorem State.modCh_logFlash (c : ChanId) (f : ChanSt → ChanSt) : (s.modCh c f).logFlash = s.logFlash := rfl
@[simp] theorem State.modCh_lastLog (c : ChanId) (f : ChanSt → ChanSt) : (s.modCh c f).lastLog = s.lastLog := rfl
@[simp] theorem State.modCh_tx (c : ChanId) (f : ChanSt → ChanSt) : (s.modCh c f).tx = s.tx := rfl
@[simp] theorem State.modCh_free (c : ChanId) (f : ChanSt → ChanSt) : (s.modCh c f).free = s.free := rfl
@[simp] theorem State.modCh_isl (c : ChanId) (f : ChanSt → ChanSt) : (s.modCh c f).isl = s.isl := rfl
@[simp] theorem State.modCh_mod (c : ChanId) (f : ChanSt → ChanSt) : (s.modCh c f).mod = s.mod := rfl
@[simp] theorem State.modCh_stg (c : ChanId) (f : ChanSt → ChanSt) : (s.modCh c f).stg = s.stg := rfl
@[simp] theorem State.modCh_shr (c : ChanId) (f : ChanSt → ChanSt) : (s.modCh c f).shr = s.shr := rfl
@[simp] theorem State.modCh_frt (c : ChanId) (f : ChanSt → ChanSt) : (s.modCh c f).frt = s.frt := rfl
@[simp] theorem State.modCh_srv (c : ChanId) (f : ChanSt → ChanSt) : (s.modCh c f).srv = s.srv := rfl
@[simp] theorem State.modCh_pie (c : ChanId) (f : ChanSt → ChanSt) : (s.modCh c f).pie = s.pie := rfl
@[simp] theorem State.modCh_edg (c : ChanId) (f : ChanSt → ChanSt) : (s.modCh c f).edg = ({ s.edg with ch := s.edg.ch.set c (f s.edg.ch[c]) }) := rfl
@[simp] theorem State.modCh_gdv (c : ChanId) (f : ChanSt → ChanSt) : (s.modCh c f).gdv = s.gdv := rfl
@[simp] theorem State.modCh_acq (c : ChanId) (f : ChanSt → ChanSt) : (s.modCh c f).acq = s.acq := rfl
@[simp] theorem State.modCh_gal (c : ChanId) (f : ChanSt → ChanSt) : (s.modCh c f).gal = s.gal := rfl
@[simp] theorem State.modCh_clk (c : ChanId) (f : ChanSt → ChanSt) : (s.modCh c f).clk = s.clk := rfl
@[simp] theorem State.modCh_twn (c : ChanId) (f : ChanSt → ChanSt) : (s.modCh c f).twn = s.twn := rfl
@[simp] theorem State.modCh_saf (c : ChanId) (f : ChanSt → ChanSt) : (s.modCh c f).saf = s.saf := rfl
@[simp] theorem State.modCh_fio (c : ChanId) (f : ChanSt → ChanSt) : (s.modCh c f).fio = s.fio := rfl
@[simp] theorem State.modCh_sup (c : ChanId) (f : ChanSt → ChanSt) : (s.modCh c f).sup = s.sup := rfl
@[simp] theorem State.modCh_lgc (c : ChanId) (f : ChanSt → ChanSt) : (s.modCh c f).lgc = s.lgc := rfl
@[simp] theorem State.modCh_net (c : ChanId) (f : ChanSt → ChanSt) : (s.modCh c f).net = s.net := rfl
@[simp] theorem State.modCh_nvs (c : ChanId) (f : ChanSt → ChanSt) : (s.modCh c f).nvs = s.nvs := rfl

@[simp] theorem State.modSet_pending (o : Fin 8) (f : SetSt → SetSt) : (s.modSet o f).pending = s.pending := rfl
@[simp] theorem State.modSet_objs (o : Fin 8) (f : SetSt → SetSt) : (s.modSet o f).objs = s.objs := rfl
@[simp] theorem State.modSet_saved (o : Fin 8) (f : SetSt → SetSt) : (s.modSet o f).saved = s.saved := rfl
@[simp] theorem State.modSet_commitWrites (o : Fin 8) (f : SetSt → SetSt) : (s.modSet o f).commitWrites = s.commitWrites := rfl
@[simp] theorem State.modSet_heldWrites (o : Fin 8) (f : SetSt → SetSt) : (s.modSet o f).heldWrites = s.heldWrites := rfl
@[simp] theorem State.modSet_modeWrites (o : Fin 8) (f : SetSt → SetSt) : (s.modSet o f).modeWrites = s.modeWrites := rfl
@[simp] theorem State.modSet_resetWrites (o : Fin 8) (f : SetSt → SetSt) : (s.modSet o f).resetWrites = s.resetWrites := rfl
@[simp] theorem State.modSet_logSeq (o : Fin 8) (f : SetSt → SetSt) : (s.modSet o f).logSeq = s.logSeq := rfl
@[simp] theorem State.modSet_logBuf (o : Fin 8) (f : SetSt → SetSt) : (s.modSet o f).logBuf = s.logBuf := rfl
@[simp] theorem State.modSet_logFlash (o : Fin 8) (f : SetSt → SetSt) : (s.modSet o f).logFlash = s.logFlash := rfl
@[simp] theorem State.modSet_lastLog (o : Fin 8) (f : SetSt → SetSt) : (s.modSet o f).lastLog = s.lastLog := rfl
@[simp] theorem State.modSet_tx (o : Fin 8) (f : SetSt → SetSt) : (s.modSet o f).tx = s.tx := rfl
@[simp] theorem State.modSet_free (o : Fin 8) (f : SetSt → SetSt) : (s.modSet o f).free = s.free := rfl
@[simp] theorem State.modSet_isl (o : Fin 8) (f : SetSt → SetSt) : (s.modSet o f).isl = s.isl := rfl
@[simp] theorem State.modSet_mod (o : Fin 8) (f : SetSt → SetSt) : (s.modSet o f).mod = s.mod := rfl
@[simp] theorem State.modSet_stg (o : Fin 8) (f : SetSt → SetSt) : (s.modSet o f).stg = s.stg := rfl
@[simp] theorem State.modSet_shr (o : Fin 8) (f : SetSt → SetSt) : (s.modSet o f).shr = s.shr := rfl
@[simp] theorem State.modSet_frt (o : Fin 8) (f : SetSt → SetSt) : (s.modSet o f).frt = s.frt := rfl
@[simp] theorem State.modSet_srv (o : Fin 8) (f : SetSt → SetSt) : (s.modSet o f).srv = s.srv := rfl
@[simp] theorem State.modSet_pie (o : Fin 8) (f : SetSt → SetSt) : (s.modSet o f).pie = s.pie := rfl
@[simp] theorem State.modSet_edg (o : Fin 8) (f : SetSt → SetSt) : (s.modSet o f).edg = ({ s.edg with sets := s.edg.sets.set o (f s.edg.sets[o]) }) := rfl
@[simp] theorem State.modSet_gdv (o : Fin 8) (f : SetSt → SetSt) : (s.modSet o f).gdv = s.gdv := rfl
@[simp] theorem State.modSet_acq (o : Fin 8) (f : SetSt → SetSt) : (s.modSet o f).acq = s.acq := rfl
@[simp] theorem State.modSet_gal (o : Fin 8) (f : SetSt → SetSt) : (s.modSet o f).gal = s.gal := rfl
@[simp] theorem State.modSet_clk (o : Fin 8) (f : SetSt → SetSt) : (s.modSet o f).clk = s.clk := rfl
@[simp] theorem State.modSet_twn (o : Fin 8) (f : SetSt → SetSt) : (s.modSet o f).twn = s.twn := rfl
@[simp] theorem State.modSet_saf (o : Fin 8) (f : SetSt → SetSt) : (s.modSet o f).saf = s.saf := rfl
@[simp] theorem State.modSet_fio (o : Fin 8) (f : SetSt → SetSt) : (s.modSet o f).fio = s.fio := rfl
@[simp] theorem State.modSet_sup (o : Fin 8) (f : SetSt → SetSt) : (s.modSet o f).sup = s.sup := rfl
@[simp] theorem State.modSet_lgc (o : Fin 8) (f : SetSt → SetSt) : (s.modSet o f).lgc = s.lgc := rfl
@[simp] theorem State.modSet_net (o : Fin 8) (f : SetSt → SetSt) : (s.modSet o f).net = s.net := rfl
@[simp] theorem State.modSet_nvs (o : Fin 8) (f : SetSt → SetSt) : (s.modSet o f).nvs = s.nvs := rfl

@[simp] theorem State.modGrp_pending (g : GroupId) (f : GroupSt → GroupSt) : (s.modGrp g f).pending = s.pending := rfl
@[simp] theorem State.modGrp_objs (g : GroupId) (f : GroupSt → GroupSt) : (s.modGrp g f).objs = s.objs := rfl
@[simp] theorem State.modGrp_saved (g : GroupId) (f : GroupSt → GroupSt) : (s.modGrp g f).saved = s.saved := rfl
@[simp] theorem State.modGrp_commitWrites (g : GroupId) (f : GroupSt → GroupSt) : (s.modGrp g f).commitWrites = s.commitWrites := rfl
@[simp] theorem State.modGrp_heldWrites (g : GroupId) (f : GroupSt → GroupSt) : (s.modGrp g f).heldWrites = s.heldWrites := rfl
@[simp] theorem State.modGrp_modeWrites (g : GroupId) (f : GroupSt → GroupSt) : (s.modGrp g f).modeWrites = s.modeWrites := rfl
@[simp] theorem State.modGrp_resetWrites (g : GroupId) (f : GroupSt → GroupSt) : (s.modGrp g f).resetWrites = s.resetWrites := rfl
@[simp] theorem State.modGrp_logSeq (g : GroupId) (f : GroupSt → GroupSt) : (s.modGrp g f).logSeq = s.logSeq := rfl
@[simp] theorem State.modGrp_logBuf (g : GroupId) (f : GroupSt → GroupSt) : (s.modGrp g f).logBuf = s.logBuf := rfl
@[simp] theorem State.modGrp_logFlash (g : GroupId) (f : GroupSt → GroupSt) : (s.modGrp g f).logFlash = s.logFlash := rfl
@[simp] theorem State.modGrp_lastLog (g : GroupId) (f : GroupSt → GroupSt) : (s.modGrp g f).lastLog = s.lastLog := rfl
@[simp] theorem State.modGrp_tx (g : GroupId) (f : GroupSt → GroupSt) : (s.modGrp g f).tx = s.tx := rfl
@[simp] theorem State.modGrp_free (g : GroupId) (f : GroupSt → GroupSt) : (s.modGrp g f).free = s.free := rfl
@[simp] theorem State.modGrp_isl (g : GroupId) (f : GroupSt → GroupSt) : (s.modGrp g f).isl = s.isl := rfl
@[simp] theorem State.modGrp_mod (g : GroupId) (f : GroupSt → GroupSt) : (s.modGrp g f).mod = s.mod := rfl
@[simp] theorem State.modGrp_stg (g : GroupId) (f : GroupSt → GroupSt) : (s.modGrp g f).stg = s.stg := rfl
@[simp] theorem State.modGrp_shr (g : GroupId) (f : GroupSt → GroupSt) : (s.modGrp g f).shr = s.shr := rfl
@[simp] theorem State.modGrp_frt (g : GroupId) (f : GroupSt → GroupSt) : (s.modGrp g f).frt = s.frt := rfl
@[simp] theorem State.modGrp_srv (g : GroupId) (f : GroupSt → GroupSt) : (s.modGrp g f).srv = s.srv := rfl
@[simp] theorem State.modGrp_pie (g : GroupId) (f : GroupSt → GroupSt) : (s.modGrp g f).pie = s.pie := rfl
@[simp] theorem State.modGrp_edg (g : GroupId) (f : GroupSt → GroupSt) : (s.modGrp g f).edg = ({ s.edg with grp := s.edg.grp.set g (f s.edg.grp[g]) }) := rfl
@[simp] theorem State.modGrp_gdv (g : GroupId) (f : GroupSt → GroupSt) : (s.modGrp g f).gdv = s.gdv := rfl
@[simp] theorem State.modGrp_acq (g : GroupId) (f : GroupSt → GroupSt) : (s.modGrp g f).acq = s.acq := rfl
@[simp] theorem State.modGrp_gal (g : GroupId) (f : GroupSt → GroupSt) : (s.modGrp g f).gal = s.gal := rfl
@[simp] theorem State.modGrp_clk (g : GroupId) (f : GroupSt → GroupSt) : (s.modGrp g f).clk = s.clk := rfl
@[simp] theorem State.modGrp_twn (g : GroupId) (f : GroupSt → GroupSt) : (s.modGrp g f).twn = s.twn := rfl
@[simp] theorem State.modGrp_saf (g : GroupId) (f : GroupSt → GroupSt) : (s.modGrp g f).saf = s.saf := rfl
@[simp] theorem State.modGrp_fio (g : GroupId) (f : GroupSt → GroupSt) : (s.modGrp g f).fio = s.fio := rfl
@[simp] theorem State.modGrp_sup (g : GroupId) (f : GroupSt → GroupSt) : (s.modGrp g f).sup = s.sup := rfl
@[simp] theorem State.modGrp_lgc (g : GroupId) (f : GroupSt → GroupSt) : (s.modGrp g f).lgc = s.lgc := rfl
@[simp] theorem State.modGrp_net (g : GroupId) (f : GroupSt → GroupSt) : (s.modGrp g f).net = s.net := rfl
@[simp] theorem State.modGrp_nvs (g : GroupId) (f : GroupSt → GroupSt) : (s.modGrp g f).nvs = s.nvs := rfl

@[simp] theorem State.modDrv_pending (d : DrvId) (f : DriverSt → DriverSt) : (s.modDrv d f).pending = s.pending := rfl
@[simp] theorem State.modDrv_objs (d : DrvId) (f : DriverSt → DriverSt) : (s.modDrv d f).objs = s.objs := rfl
@[simp] theorem State.modDrv_saved (d : DrvId) (f : DriverSt → DriverSt) : (s.modDrv d f).saved = s.saved := rfl
@[simp] theorem State.modDrv_commitWrites (d : DrvId) (f : DriverSt → DriverSt) : (s.modDrv d f).commitWrites = s.commitWrites := rfl
@[simp] theorem State.modDrv_heldWrites (d : DrvId) (f : DriverSt → DriverSt) : (s.modDrv d f).heldWrites = s.heldWrites := rfl
@[simp] theorem State.modDrv_modeWrites (d : DrvId) (f : DriverSt → DriverSt) : (s.modDrv d f).modeWrites = s.modeWrites := rfl
@[simp] theorem State.modDrv_resetWrites (d : DrvId) (f : DriverSt → DriverSt) : (s.modDrv d f).resetWrites = s.resetWrites := rfl
@[simp] theorem State.modDrv_logSeq (d : DrvId) (f : DriverSt → DriverSt) : (s.modDrv d f).logSeq = s.logSeq := rfl
@[simp] theorem State.modDrv_logBuf (d : DrvId) (f : DriverSt → DriverSt) : (s.modDrv d f).logBuf = s.logBuf := rfl
@[simp] theorem State.modDrv_logFlash (d : DrvId) (f : DriverSt → DriverSt) : (s.modDrv d f).logFlash = s.logFlash := rfl
@[simp] theorem State.modDrv_lastLog (d : DrvId) (f : DriverSt → DriverSt) : (s.modDrv d f).lastLog = s.lastLog := rfl
@[simp] theorem State.modDrv_tx (d : DrvId) (f : DriverSt → DriverSt) : (s.modDrv d f).tx = s.tx := rfl
@[simp] theorem State.modDrv_free (d : DrvId) (f : DriverSt → DriverSt) : (s.modDrv d f).free = s.free := rfl
@[simp] theorem State.modDrv_isl (d : DrvId) (f : DriverSt → DriverSt) : (s.modDrv d f).isl = s.isl := rfl
@[simp] theorem State.modDrv_mod (d : DrvId) (f : DriverSt → DriverSt) : (s.modDrv d f).mod = s.mod := rfl
@[simp] theorem State.modDrv_stg (d : DrvId) (f : DriverSt → DriverSt) : (s.modDrv d f).stg = s.stg := rfl
@[simp] theorem State.modDrv_shr (d : DrvId) (f : DriverSt → DriverSt) : (s.modDrv d f).shr = s.shr := rfl
@[simp] theorem State.modDrv_frt (d : DrvId) (f : DriverSt → DriverSt) : (s.modDrv d f).frt = s.frt := rfl
@[simp] theorem State.modDrv_srv (d : DrvId) (f : DriverSt → DriverSt) : (s.modDrv d f).srv = s.srv := rfl
@[simp] theorem State.modDrv_pie (d : DrvId) (f : DriverSt → DriverSt) : (s.modDrv d f).pie = s.pie := rfl
@[simp] theorem State.modDrv_edg (d : DrvId) (f : DriverSt → DriverSt) : (s.modDrv d f).edg = s.edg := rfl
@[simp] theorem State.modDrv_gdv (d : DrvId) (f : DriverSt → DriverSt) : (s.modDrv d f).gdv = ({ s.gdv with drv := s.gdv.drv.set d (f s.gdv.drv[d]) }) := rfl
@[simp] theorem State.modDrv_acq (d : DrvId) (f : DriverSt → DriverSt) : (s.modDrv d f).acq = s.acq := rfl
@[simp] theorem State.modDrv_gal (d : DrvId) (f : DriverSt → DriverSt) : (s.modDrv d f).gal = s.gal := rfl
@[simp] theorem State.modDrv_clk (d : DrvId) (f : DriverSt → DriverSt) : (s.modDrv d f).clk = s.clk := rfl
@[simp] theorem State.modDrv_twn (d : DrvId) (f : DriverSt → DriverSt) : (s.modDrv d f).twn = s.twn := rfl
@[simp] theorem State.modDrv_saf (d : DrvId) (f : DriverSt → DriverSt) : (s.modDrv d f).saf = s.saf := rfl
@[simp] theorem State.modDrv_fio (d : DrvId) (f : DriverSt → DriverSt) : (s.modDrv d f).fio = s.fio := rfl
@[simp] theorem State.modDrv_sup (d : DrvId) (f : DriverSt → DriverSt) : (s.modDrv d f).sup = s.sup := rfl
@[simp] theorem State.modDrv_lgc (d : DrvId) (f : DriverSt → DriverSt) : (s.modDrv d f).lgc = s.lgc := rfl
@[simp] theorem State.modDrv_net (d : DrvId) (f : DriverSt → DriverSt) : (s.modDrv d f).net = s.net := rfl
@[simp] theorem State.modDrv_nvs (d : DrvId) (f : DriverSt → DriverSt) : (s.modDrv d f).nvs = s.nvs := rfl

@[simp] theorem State.modPort_pending (p : PortId) (f : FibreSt → FibreSt) : (s.modPort p f).pending = s.pending := rfl
@[simp] theorem State.modPort_objs (p : PortId) (f : FibreSt → FibreSt) : (s.modPort p f).objs = s.objs := rfl
@[simp] theorem State.modPort_saved (p : PortId) (f : FibreSt → FibreSt) : (s.modPort p f).saved = s.saved := rfl
@[simp] theorem State.modPort_commitWrites (p : PortId) (f : FibreSt → FibreSt) : (s.modPort p f).commitWrites = s.commitWrites := rfl
@[simp] theorem State.modPort_heldWrites (p : PortId) (f : FibreSt → FibreSt) : (s.modPort p f).heldWrites = s.heldWrites := rfl
@[simp] theorem State.modPort_modeWrites (p : PortId) (f : FibreSt → FibreSt) : (s.modPort p f).modeWrites = s.modeWrites := rfl
@[simp] theorem State.modPort_resetWrites (p : PortId) (f : FibreSt → FibreSt) : (s.modPort p f).resetWrites = s.resetWrites := rfl
@[simp] theorem State.modPort_logSeq (p : PortId) (f : FibreSt → FibreSt) : (s.modPort p f).logSeq = s.logSeq := rfl
@[simp] theorem State.modPort_logBuf (p : PortId) (f : FibreSt → FibreSt) : (s.modPort p f).logBuf = s.logBuf := rfl
@[simp] theorem State.modPort_logFlash (p : PortId) (f : FibreSt → FibreSt) : (s.modPort p f).logFlash = s.logFlash := rfl
@[simp] theorem State.modPort_lastLog (p : PortId) (f : FibreSt → FibreSt) : (s.modPort p f).lastLog = s.lastLog := rfl
@[simp] theorem State.modPort_tx (p : PortId) (f : FibreSt → FibreSt) : (s.modPort p f).tx = s.tx := rfl
@[simp] theorem State.modPort_free (p : PortId) (f : FibreSt → FibreSt) : (s.modPort p f).free = s.free := rfl
@[simp] theorem State.modPort_isl (p : PortId) (f : FibreSt → FibreSt) : (s.modPort p f).isl = s.isl := rfl
@[simp] theorem State.modPort_mod (p : PortId) (f : FibreSt → FibreSt) : (s.modPort p f).mod = s.mod := rfl
@[simp] theorem State.modPort_stg (p : PortId) (f : FibreSt → FibreSt) : (s.modPort p f).stg = s.stg := rfl
@[simp] theorem State.modPort_shr (p : PortId) (f : FibreSt → FibreSt) : (s.modPort p f).shr = s.shr := rfl
@[simp] theorem State.modPort_frt (p : PortId) (f : FibreSt → FibreSt) : (s.modPort p f).frt = s.frt := rfl
@[simp] theorem State.modPort_srv (p : PortId) (f : FibreSt → FibreSt) : (s.modPort p f).srv = s.srv := rfl
@[simp] theorem State.modPort_pie (p : PortId) (f : FibreSt → FibreSt) : (s.modPort p f).pie = s.pie := rfl
@[simp] theorem State.modPort_edg (p : PortId) (f : FibreSt → FibreSt) : (s.modPort p f).edg = s.edg := rfl
@[simp] theorem State.modPort_gdv (p : PortId) (f : FibreSt → FibreSt) : (s.modPort p f).gdv = ({ s.gdv with port := s.gdv.port.set p (f s.gdv.port[p]) }) := rfl
@[simp] theorem State.modPort_acq (p : PortId) (f : FibreSt → FibreSt) : (s.modPort p f).acq = s.acq := rfl
@[simp] theorem State.modPort_gal (p : PortId) (f : FibreSt → FibreSt) : (s.modPort p f).gal = s.gal := rfl
@[simp] theorem State.modPort_clk (p : PortId) (f : FibreSt → FibreSt) : (s.modPort p f).clk = s.clk := rfl
@[simp] theorem State.modPort_twn (p : PortId) (f : FibreSt → FibreSt) : (s.modPort p f).twn = s.twn := rfl
@[simp] theorem State.modPort_saf (p : PortId) (f : FibreSt → FibreSt) : (s.modPort p f).saf = s.saf := rfl
@[simp] theorem State.modPort_fio (p : PortId) (f : FibreSt → FibreSt) : (s.modPort p f).fio = s.fio := rfl
@[simp] theorem State.modPort_sup (p : PortId) (f : FibreSt → FibreSt) : (s.modPort p f).sup = s.sup := rfl
@[simp] theorem State.modPort_lgc (p : PortId) (f : FibreSt → FibreSt) : (s.modPort p f).lgc = s.lgc := rfl
@[simp] theorem State.modPort_net (p : PortId) (f : FibreSt → FibreSt) : (s.modPort p f).net = s.net := rfl
@[simp] theorem State.modPort_nvs (p : PortId) (f : FibreSt → FibreSt) : (s.modPort p f).nvs = s.nvs := rfl

@[simp] theorem State.modCan_pending (c : Fin 2) (f : CanSt → CanSt) : (s.modCan c f).pending = s.pending := rfl
@[simp] theorem State.modCan_objs (c : Fin 2) (f : CanSt → CanSt) : (s.modCan c f).objs = s.objs := rfl
@[simp] theorem State.modCan_saved (c : Fin 2) (f : CanSt → CanSt) : (s.modCan c f).saved = s.saved := rfl
@[simp] theorem State.modCan_commitWrites (c : Fin 2) (f : CanSt → CanSt) : (s.modCan c f).commitWrites = s.commitWrites := rfl
@[simp] theorem State.modCan_heldWrites (c : Fin 2) (f : CanSt → CanSt) : (s.modCan c f).heldWrites = s.heldWrites := rfl
@[simp] theorem State.modCan_modeWrites (c : Fin 2) (f : CanSt → CanSt) : (s.modCan c f).modeWrites = s.modeWrites := rfl
@[simp] theorem State.modCan_resetWrites (c : Fin 2) (f : CanSt → CanSt) : (s.modCan c f).resetWrites = s.resetWrites := rfl
@[simp] theorem State.modCan_logSeq (c : Fin 2) (f : CanSt → CanSt) : (s.modCan c f).logSeq = s.logSeq := rfl
@[simp] theorem State.modCan_logBuf (c : Fin 2) (f : CanSt → CanSt) : (s.modCan c f).logBuf = s.logBuf := rfl
@[simp] theorem State.modCan_logFlash (c : Fin 2) (f : CanSt → CanSt) : (s.modCan c f).logFlash = s.logFlash := rfl
@[simp] theorem State.modCan_lastLog (c : Fin 2) (f : CanSt → CanSt) : (s.modCan c f).lastLog = s.lastLog := rfl
@[simp] theorem State.modCan_tx (c : Fin 2) (f : CanSt → CanSt) : (s.modCan c f).tx = s.tx := rfl
@[simp] theorem State.modCan_free (c : Fin 2) (f : CanSt → CanSt) : (s.modCan c f).free = s.free := rfl
@[simp] theorem State.modCan_isl (c : Fin 2) (f : CanSt → CanSt) : (s.modCan c f).isl = s.isl := rfl
@[simp] theorem State.modCan_mod (c : Fin 2) (f : CanSt → CanSt) : (s.modCan c f).mod = s.mod := rfl
@[simp] theorem State.modCan_stg (c : Fin 2) (f : CanSt → CanSt) : (s.modCan c f).stg = s.stg := rfl
@[simp] theorem State.modCan_shr (c : Fin 2) (f : CanSt → CanSt) : (s.modCan c f).shr = s.shr := rfl
@[simp] theorem State.modCan_frt (c : Fin 2) (f : CanSt → CanSt) : (s.modCan c f).frt = s.frt := rfl
@[simp] theorem State.modCan_srv (c : Fin 2) (f : CanSt → CanSt) : (s.modCan c f).srv = s.srv := rfl
@[simp] theorem State.modCan_pie (c : Fin 2) (f : CanSt → CanSt) : (s.modCan c f).pie = s.pie := rfl
@[simp] theorem State.modCan_edg (c : Fin 2) (f : CanSt → CanSt) : (s.modCan c f).edg = s.edg := rfl
@[simp] theorem State.modCan_gdv (c : Fin 2) (f : CanSt → CanSt) : (s.modCan c f).gdv = s.gdv := rfl
@[simp] theorem State.modCan_acq (c : Fin 2) (f : CanSt → CanSt) : (s.modCan c f).acq = s.acq := rfl
@[simp] theorem State.modCan_gal (c : Fin 2) (f : CanSt → CanSt) : (s.modCan c f).gal = s.gal := rfl
@[simp] theorem State.modCan_clk (c : Fin 2) (f : CanSt → CanSt) : (s.modCan c f).clk = s.clk := rfl
@[simp] theorem State.modCan_twn (c : Fin 2) (f : CanSt → CanSt) : (s.modCan c f).twn = s.twn := rfl
@[simp] theorem State.modCan_saf (c : Fin 2) (f : CanSt → CanSt) : (s.modCan c f).saf = s.saf := rfl
@[simp] theorem State.modCan_fio (c : Fin 2) (f : CanSt → CanSt) : (s.modCan c f).fio = s.fio := rfl
@[simp] theorem State.modCan_sup (c : Fin 2) (f : CanSt → CanSt) : (s.modCan c f).sup = s.sup := rfl
@[simp] theorem State.modCan_lgc (c : Fin 2) (f : CanSt → CanSt) : (s.modCan c f).lgc = s.lgc := rfl
@[simp] theorem State.modCan_net (c : Fin 2) (f : CanSt → CanSt) : (s.modCan c f).net = ({ s.net with can := s.net.can.set c (f s.net.can[c]) }) := rfl
@[simp] theorem State.modCan_nvs (c : Fin 2) (f : CanSt → CanSt) : (s.modCan c f).nvs = s.nvs := rfl

@[simp] theorem State.modDi_pending (d : DiId) (f : DiSt → DiSt) : (s.modDi d f).pending = s.pending := rfl
@[simp] theorem State.modDi_objs (d : DiId) (f : DiSt → DiSt) : (s.modDi d f).objs = s.objs := rfl
@[simp] theorem State.modDi_saved (d : DiId) (f : DiSt → DiSt) : (s.modDi d f).saved = s.saved := rfl
@[simp] theorem State.modDi_commitWrites (d : DiId) (f : DiSt → DiSt) : (s.modDi d f).commitWrites = s.commitWrites := rfl
@[simp] theorem State.modDi_heldWrites (d : DiId) (f : DiSt → DiSt) : (s.modDi d f).heldWrites = s.heldWrites := rfl
@[simp] theorem State.modDi_modeWrites (d : DiId) (f : DiSt → DiSt) : (s.modDi d f).modeWrites = s.modeWrites := rfl
@[simp] theorem State.modDi_resetWrites (d : DiId) (f : DiSt → DiSt) : (s.modDi d f).resetWrites = s.resetWrites := rfl
@[simp] theorem State.modDi_logSeq (d : DiId) (f : DiSt → DiSt) : (s.modDi d f).logSeq = s.logSeq := rfl
@[simp] theorem State.modDi_logBuf (d : DiId) (f : DiSt → DiSt) : (s.modDi d f).logBuf = s.logBuf := rfl
@[simp] theorem State.modDi_logFlash (d : DiId) (f : DiSt → DiSt) : (s.modDi d f).logFlash = s.logFlash := rfl
@[simp] theorem State.modDi_lastLog (d : DiId) (f : DiSt → DiSt) : (s.modDi d f).lastLog = s.lastLog := rfl
@[simp] theorem State.modDi_tx (d : DiId) (f : DiSt → DiSt) : (s.modDi d f).tx = s.tx := rfl
@[simp] theorem State.modDi_free (d : DiId) (f : DiSt → DiSt) : (s.modDi d f).free = s.free := rfl
@[simp] theorem State.modDi_isl (d : DiId) (f : DiSt → DiSt) : (s.modDi d f).isl = s.isl := rfl
@[simp] theorem State.modDi_mod (d : DiId) (f : DiSt → DiSt) : (s.modDi d f).mod = s.mod := rfl
@[simp] theorem State.modDi_stg (d : DiId) (f : DiSt → DiSt) : (s.modDi d f).stg = s.stg := rfl
@[simp] theorem State.modDi_shr (d : DiId) (f : DiSt → DiSt) : (s.modDi d f).shr = s.shr := rfl
@[simp] theorem State.modDi_frt (d : DiId) (f : DiSt → DiSt) : (s.modDi d f).frt = s.frt := rfl
@[simp] theorem State.modDi_srv (d : DiId) (f : DiSt → DiSt) : (s.modDi d f).srv = s.srv := rfl
@[simp] theorem State.modDi_pie (d : DiId) (f : DiSt → DiSt) : (s.modDi d f).pie = s.pie := rfl
@[simp] theorem State.modDi_edg (d : DiId) (f : DiSt → DiSt) : (s.modDi d f).edg = s.edg := rfl
@[simp] theorem State.modDi_gdv (d : DiId) (f : DiSt → DiSt) : (s.modDi d f).gdv = s.gdv := rfl
@[simp] theorem State.modDi_acq (d : DiId) (f : DiSt → DiSt) : (s.modDi d f).acq = s.acq := rfl
@[simp] theorem State.modDi_gal (d : DiId) (f : DiSt → DiSt) : (s.modDi d f).gal = s.gal := rfl
@[simp] theorem State.modDi_clk (d : DiId) (f : DiSt → DiSt) : (s.modDi d f).clk = s.clk := rfl
@[simp] theorem State.modDi_twn (d : DiId) (f : DiSt → DiSt) : (s.modDi d f).twn = s.twn := rfl
@[simp] theorem State.modDi_saf (d : DiId) (f : DiSt → DiSt) : (s.modDi d f).saf = s.saf := rfl
@[simp] theorem State.modDi_fio (d : DiId) (f : DiSt → DiSt) : (s.modDi d f).fio = ({ s.fio with di := s.fio.di.set d (f s.fio.di[d]) }) := rfl
@[simp] theorem State.modDi_sup (d : DiId) (f : DiSt → DiSt) : (s.modDi d f).sup = s.sup := rfl
@[simp] theorem State.modDi_lgc (d : DiId) (f : DiSt → DiSt) : (s.modDi d f).lgc = s.lgc := rfl
@[simp] theorem State.modDi_net (d : DiId) (f : DiSt → DiSt) : (s.modDi d f).net = s.net := rfl
@[simp] theorem State.modDi_nvs (d : DiId) (f : DiSt → DiSt) : (s.modDi d f).nvs = s.nvs := rfl

@[simp] theorem State.modDo_pending (o : DoId) (f : DoSt → DoSt) : (s.modDo o f).pending = s.pending := rfl
@[simp] theorem State.modDo_objs (o : DoId) (f : DoSt → DoSt) : (s.modDo o f).objs = s.objs := rfl
@[simp] theorem State.modDo_saved (o : DoId) (f : DoSt → DoSt) : (s.modDo o f).saved = s.saved := rfl
@[simp] theorem State.modDo_commitWrites (o : DoId) (f : DoSt → DoSt) : (s.modDo o f).commitWrites = s.commitWrites := rfl
@[simp] theorem State.modDo_heldWrites (o : DoId) (f : DoSt → DoSt) : (s.modDo o f).heldWrites = s.heldWrites := rfl
@[simp] theorem State.modDo_modeWrites (o : DoId) (f : DoSt → DoSt) : (s.modDo o f).modeWrites = s.modeWrites := rfl
@[simp] theorem State.modDo_resetWrites (o : DoId) (f : DoSt → DoSt) : (s.modDo o f).resetWrites = s.resetWrites := rfl
@[simp] theorem State.modDo_logSeq (o : DoId) (f : DoSt → DoSt) : (s.modDo o f).logSeq = s.logSeq := rfl
@[simp] theorem State.modDo_logBuf (o : DoId) (f : DoSt → DoSt) : (s.modDo o f).logBuf = s.logBuf := rfl
@[simp] theorem State.modDo_logFlash (o : DoId) (f : DoSt → DoSt) : (s.modDo o f).logFlash = s.logFlash := rfl
@[simp] theorem State.modDo_lastLog (o : DoId) (f : DoSt → DoSt) : (s.modDo o f).lastLog = s.lastLog := rfl
@[simp] theorem State.modDo_tx (o : DoId) (f : DoSt → DoSt) : (s.modDo o f).tx = s.tx := rfl
@[simp] theorem State.modDo_free (o : DoId) (f : DoSt → DoSt) : (s.modDo o f).free = s.free := rfl
@[simp] theorem State.modDo_isl (o : DoId) (f : DoSt → DoSt) : (s.modDo o f).isl = s.isl := rfl
@[simp] theorem State.modDo_mod (o : DoId) (f : DoSt → DoSt) : (s.modDo o f).mod = s.mod := rfl
@[simp] theorem State.modDo_stg (o : DoId) (f : DoSt → DoSt) : (s.modDo o f).stg = s.stg := rfl
@[simp] theorem State.modDo_shr (o : DoId) (f : DoSt → DoSt) : (s.modDo o f).shr = s.shr := rfl
@[simp] theorem State.modDo_frt (o : DoId) (f : DoSt → DoSt) : (s.modDo o f).frt = s.frt := rfl
@[simp] theorem State.modDo_srv (o : DoId) (f : DoSt → DoSt) : (s.modDo o f).srv = s.srv := rfl
@[simp] theorem State.modDo_pie (o : DoId) (f : DoSt → DoSt) : (s.modDo o f).pie = s.pie := rfl
@[simp] theorem State.modDo_edg (o : DoId) (f : DoSt → DoSt) : (s.modDo o f).edg = s.edg := rfl
@[simp] theorem State.modDo_gdv (o : DoId) (f : DoSt → DoSt) : (s.modDo o f).gdv = s.gdv := rfl
@[simp] theorem State.modDo_acq (o : DoId) (f : DoSt → DoSt) : (s.modDo o f).acq = s.acq := rfl
@[simp] theorem State.modDo_gal (o : DoId) (f : DoSt → DoSt) : (s.modDo o f).gal = s.gal := rfl
@[simp] theorem State.modDo_clk (o : DoId) (f : DoSt → DoSt) : (s.modDo o f).clk = s.clk := rfl
@[simp] theorem State.modDo_twn (o : DoId) (f : DoSt → DoSt) : (s.modDo o f).twn = s.twn := rfl
@[simp] theorem State.modDo_saf (o : DoId) (f : DoSt → DoSt) : (s.modDo o f).saf = s.saf := rfl
@[simp] theorem State.modDo_fio (o : DoId) (f : DoSt → DoSt) : (s.modDo o f).fio = ({ s.fio with out := s.fio.out.set o (f s.fio.out[o]) }) := rfl
@[simp] theorem State.modDo_sup (o : DoId) (f : DoSt → DoSt) : (s.modDo o f).sup = s.sup := rfl
@[simp] theorem State.modDo_lgc (o : DoId) (f : DoSt → DoSt) : (s.modDo o f).lgc = s.lgc := rfl
@[simp] theorem State.modDo_net (o : DoId) (f : DoSt → DoSt) : (s.modDo o f).net = s.net := rfl
@[simp] theorem State.modDo_nvs (o : DoId) (f : DoSt → DoSt) : (s.modDo o f).nvs = s.nvs := rfl

@[simp] theorem State.modCd_pending (i : SocId) (f : CdSt → CdSt) : (s.modCd i f).pending = s.pending := rfl
@[simp] theorem State.modCd_objs (i : SocId) (f : CdSt → CdSt) : (s.modCd i f).objs = s.objs := rfl
@[simp] theorem State.modCd_saved (i : SocId) (f : CdSt → CdSt) : (s.modCd i f).saved = s.saved := rfl
@[simp] theorem State.modCd_commitWrites (i : SocId) (f : CdSt → CdSt) : (s.modCd i f).commitWrites = s.commitWrites := rfl
@[simp] theorem State.modCd_heldWrites (i : SocId) (f : CdSt → CdSt) : (s.modCd i f).heldWrites = s.heldWrites := rfl
@[simp] theorem State.modCd_modeWrites (i : SocId) (f : CdSt → CdSt) : (s.modCd i f).modeWrites = s.modeWrites := rfl
@[simp] theorem State.modCd_resetWrites (i : SocId) (f : CdSt → CdSt) : (s.modCd i f).resetWrites = s.resetWrites := rfl
@[simp] theorem State.modCd_logSeq (i : SocId) (f : CdSt → CdSt) : (s.modCd i f).logSeq = s.logSeq := rfl
@[simp] theorem State.modCd_logBuf (i : SocId) (f : CdSt → CdSt) : (s.modCd i f).logBuf = s.logBuf := rfl
@[simp] theorem State.modCd_logFlash (i : SocId) (f : CdSt → CdSt) : (s.modCd i f).logFlash = s.logFlash := rfl
@[simp] theorem State.modCd_lastLog (i : SocId) (f : CdSt → CdSt) : (s.modCd i f).lastLog = s.lastLog := rfl
@[simp] theorem State.modCd_tx (i : SocId) (f : CdSt → CdSt) : (s.modCd i f).tx = s.tx := rfl
@[simp] theorem State.modCd_free (i : SocId) (f : CdSt → CdSt) : (s.modCd i f).free = s.free := rfl
@[simp] theorem State.modCd_isl (i : SocId) (f : CdSt → CdSt) : (s.modCd i f).isl = s.isl := rfl
@[simp] theorem State.modCd_mod (i : SocId) (f : CdSt → CdSt) : (s.modCd i f).mod = s.mod := rfl
@[simp] theorem State.modCd_stg (i : SocId) (f : CdSt → CdSt) : (s.modCd i f).stg = s.stg := rfl
@[simp] theorem State.modCd_shr (i : SocId) (f : CdSt → CdSt) : (s.modCd i f).shr = s.shr := rfl
@[simp] theorem State.modCd_frt (i : SocId) (f : CdSt → CdSt) : (s.modCd i f).frt = s.frt := rfl
@[simp] theorem State.modCd_srv (i : SocId) (f : CdSt → CdSt) : (s.modCd i f).srv = s.srv := rfl
@[simp] theorem State.modCd_pie (i : SocId) (f : CdSt → CdSt) : (s.modCd i f).pie = s.pie := rfl
@[simp] theorem State.modCd_edg (i : SocId) (f : CdSt → CdSt) : (s.modCd i f).edg = s.edg := rfl
@[simp] theorem State.modCd_gdv (i : SocId) (f : CdSt → CdSt) : (s.modCd i f).gdv = s.gdv := rfl
@[simp] theorem State.modCd_acq (i : SocId) (f : CdSt → CdSt) : (s.modCd i f).acq = s.acq := rfl
@[simp] theorem State.modCd_gal (i : SocId) (f : CdSt → CdSt) : (s.modCd i f).gal = s.gal := rfl
@[simp] theorem State.modCd_clk (i : SocId) (f : CdSt → CdSt) : (s.modCd i f).clk = s.clk := rfl
@[simp] theorem State.modCd_twn (i : SocId) (f : CdSt → CdSt) : (s.modCd i f).twn = s.twn := rfl
@[simp] theorem State.modCd_saf (i : SocId) (f : CdSt → CdSt) : (s.modCd i f).saf = s.saf := rfl
@[simp] theorem State.modCd_fio (i : SocId) (f : CdSt → CdSt) : (s.modCd i f).fio = ({ s.fio with drv := s.fio.drv.set i (f s.fio.drv[i]) }) := rfl
@[simp] theorem State.modCd_sup (i : SocId) (f : CdSt → CdSt) : (s.modCd i f).sup = s.sup := rfl
@[simp] theorem State.modCd_lgc (i : SocId) (f : CdSt → CdSt) : (s.modCd i f).lgc = s.lgc := rfl
@[simp] theorem State.modCd_net (i : SocId) (f : CdSt → CdSt) : (s.modCd i f).net = s.net := rfl
@[simp] theorem State.modCd_nvs (i : SocId) (f : CdSt → CdSt) : (s.modCd i f).nvs = s.nvs := rfl

@[simp] theorem State.modSoc_pending (i : SocId) (f : SocSt → SocSt) : (s.modSoc i f).pending = s.pending := rfl
@[simp] theorem State.modSoc_objs (i : SocId) (f : SocSt → SocSt) : (s.modSoc i f).objs = s.objs := rfl
@[simp] theorem State.modSoc_saved (i : SocId) (f : SocSt → SocSt) : (s.modSoc i f).saved = s.saved := rfl
@[simp] theorem State.modSoc_commitWrites (i : SocId) (f : SocSt → SocSt) : (s.modSoc i f).commitWrites = s.commitWrites := rfl
@[simp] theorem State.modSoc_heldWrites (i : SocId) (f : SocSt → SocSt) : (s.modSoc i f).heldWrites = s.heldWrites := rfl
@[simp] theorem State.modSoc_modeWrites (i : SocId) (f : SocSt → SocSt) : (s.modSoc i f).modeWrites = s.modeWrites := rfl
@[simp] theorem State.modSoc_resetWrites (i : SocId) (f : SocSt → SocSt) : (s.modSoc i f).resetWrites = s.resetWrites := rfl
@[simp] theorem State.modSoc_logSeq (i : SocId) (f : SocSt → SocSt) : (s.modSoc i f).logSeq = s.logSeq := rfl
@[simp] theorem State.modSoc_logBuf (i : SocId) (f : SocSt → SocSt) : (s.modSoc i f).logBuf = s.logBuf := rfl
@[simp] theorem State.modSoc_logFlash (i : SocId) (f : SocSt → SocSt) : (s.modSoc i f).logFlash = s.logFlash := rfl
@[simp] theorem State.modSoc_lastLog (i : SocId) (f : SocSt → SocSt) : (s.modSoc i f).lastLog = s.lastLog := rfl
@[simp] theorem State.modSoc_tx (i : SocId) (f : SocSt → SocSt) : (s.modSoc i f).tx = s.tx := rfl
@[simp] theorem State.modSoc_free (i : SocId) (f : SocSt → SocSt) : (s.modSoc i f).free = s.free := rfl
@[simp] theorem State.modSoc_isl (i : SocId) (f : SocSt → SocSt) : (s.modSoc i f).isl = s.isl := rfl
@[simp] theorem State.modSoc_mod (i : SocId) (f : SocSt → SocSt) : (s.modSoc i f).mod = s.mod := rfl
@[simp] theorem State.modSoc_stg (i : SocId) (f : SocSt → SocSt) : (s.modSoc i f).stg = s.stg := rfl
@[simp] theorem State.modSoc_shr (i : SocId) (f : SocSt → SocSt) : (s.modSoc i f).shr = s.shr := rfl
@[simp] theorem State.modSoc_frt (i : SocId) (f : SocSt → SocSt) : (s.modSoc i f).frt = s.frt := rfl
@[simp] theorem State.modSoc_srv (i : SocId) (f : SocSt → SocSt) : (s.modSoc i f).srv = s.srv := rfl
@[simp] theorem State.modSoc_pie (i : SocId) (f : SocSt → SocSt) : (s.modSoc i f).pie = s.pie := rfl
@[simp] theorem State.modSoc_edg (i : SocId) (f : SocSt → SocSt) : (s.modSoc i f).edg = s.edg := rfl
@[simp] theorem State.modSoc_gdv (i : SocId) (f : SocSt → SocSt) : (s.modSoc i f).gdv = s.gdv := rfl
@[simp] theorem State.modSoc_acq (i : SocId) (f : SocSt → SocSt) : (s.modSoc i f).acq = s.acq := rfl
@[simp] theorem State.modSoc_gal (i : SocId) (f : SocSt → SocSt) : (s.modSoc i f).gal = s.gal := rfl
@[simp] theorem State.modSoc_clk (i : SocId) (f : SocSt → SocSt) : (s.modSoc i f).clk = s.clk := rfl
@[simp] theorem State.modSoc_twn (i : SocId) (f : SocSt → SocSt) : (s.modSoc i f).twn = s.twn := rfl
@[simp] theorem State.modSoc_saf (i : SocId) (f : SocSt → SocSt) : (s.modSoc i f).saf = ({ s.saf with soc := s.saf.soc.set i (f s.saf.soc[i]) }) := rfl
@[simp] theorem State.modSoc_fio (i : SocId) (f : SocSt → SocSt) : (s.modSoc i f).fio = s.fio := rfl
@[simp] theorem State.modSoc_sup (i : SocId) (f : SocSt → SocSt) : (s.modSoc i f).sup = s.sup := rfl
@[simp] theorem State.modSoc_lgc (i : SocId) (f : SocSt → SocSt) : (s.modSoc i f).lgc = s.lgc := rfl
@[simp] theorem State.modSoc_net (i : SocId) (f : SocSt → SocSt) : (s.modSoc i f).net = s.net := rfl
@[simp] theorem State.modSoc_nvs (i : SocId) (f : SocSt → SocSt) : (s.modSoc i f).nvs = s.nvs := rfl

@[simp] theorem State.modSsd_pending (n : StageId) (f : SsdSt → SsdSt) : (s.modSsd n f).pending = s.pending := rfl
@[simp] theorem State.modSsd_objs (n : StageId) (f : SsdSt → SsdSt) : (s.modSsd n f).objs = s.objs := rfl
@[simp] theorem State.modSsd_saved (n : StageId) (f : SsdSt → SsdSt) : (s.modSsd n f).saved = s.saved := rfl
@[simp] theorem State.modSsd_commitWrites (n : StageId) (f : SsdSt → SsdSt) : (s.modSsd n f).commitWrites = s.commitWrites := rfl
@[simp] theorem State.modSsd_heldWrites (n : StageId) (f : SsdSt → SsdSt) : (s.modSsd n f).heldWrites = s.heldWrites := rfl
@[simp] theorem State.modSsd_modeWrites (n : StageId) (f : SsdSt → SsdSt) : (s.modSsd n f).modeWrites = s.modeWrites := rfl
@[simp] theorem State.modSsd_resetWrites (n : StageId) (f : SsdSt → SsdSt) : (s.modSsd n f).resetWrites = s.resetWrites := rfl
@[simp] theorem State.modSsd_logSeq (n : StageId) (f : SsdSt → SsdSt) : (s.modSsd n f).logSeq = s.logSeq := rfl
@[simp] theorem State.modSsd_logBuf (n : StageId) (f : SsdSt → SsdSt) : (s.modSsd n f).logBuf = s.logBuf := rfl
@[simp] theorem State.modSsd_logFlash (n : StageId) (f : SsdSt → SsdSt) : (s.modSsd n f).logFlash = s.logFlash := rfl
@[simp] theorem State.modSsd_lastLog (n : StageId) (f : SsdSt → SsdSt) : (s.modSsd n f).lastLog = s.lastLog := rfl
@[simp] theorem State.modSsd_tx (n : StageId) (f : SsdSt → SsdSt) : (s.modSsd n f).tx = s.tx := rfl
@[simp] theorem State.modSsd_free (n : StageId) (f : SsdSt → SsdSt) : (s.modSsd n f).free = s.free := rfl
@[simp] theorem State.modSsd_isl (n : StageId) (f : SsdSt → SsdSt) : (s.modSsd n f).isl = s.isl := rfl
@[simp] theorem State.modSsd_mod (n : StageId) (f : SsdSt → SsdSt) : (s.modSsd n f).mod = s.mod := rfl
@[simp] theorem State.modSsd_stg (n : StageId) (f : SsdSt → SsdSt) : (s.modSsd n f).stg = s.stg := rfl
@[simp] theorem State.modSsd_shr (n : StageId) (f : SsdSt → SsdSt) : (s.modSsd n f).shr = s.shr := rfl
@[simp] theorem State.modSsd_frt (n : StageId) (f : SsdSt → SsdSt) : (s.modSsd n f).frt = s.frt := rfl
@[simp] theorem State.modSsd_srv (n : StageId) (f : SsdSt → SsdSt) : (s.modSsd n f).srv = s.srv := rfl
@[simp] theorem State.modSsd_pie (n : StageId) (f : SsdSt → SsdSt) : (s.modSsd n f).pie = s.pie := rfl
@[simp] theorem State.modSsd_edg (n : StageId) (f : SsdSt → SsdSt) : (s.modSsd n f).edg = s.edg := rfl
@[simp] theorem State.modSsd_gdv (n : StageId) (f : SsdSt → SsdSt) : (s.modSsd n f).gdv = s.gdv := rfl
@[simp] theorem State.modSsd_acq (n : StageId) (f : SsdSt → SsdSt) : (s.modSsd n f).acq = s.acq := rfl
@[simp] theorem State.modSsd_gal (n : StageId) (f : SsdSt → SsdSt) : (s.modSsd n f).gal = s.gal := rfl
@[simp] theorem State.modSsd_clk (n : StageId) (f : SsdSt → SsdSt) : (s.modSsd n f).clk = s.clk := rfl
@[simp] theorem State.modSsd_twn (n : StageId) (f : SsdSt → SsdSt) : (s.modSsd n f).twn = s.twn := rfl
@[simp] theorem State.modSsd_saf (n : StageId) (f : SsdSt → SsdSt) : (s.modSsd n f).saf = ({ s.saf with ssd := s.saf.ssd.set n (f s.saf.ssd[n]) }) := rfl
@[simp] theorem State.modSsd_fio (n : StageId) (f : SsdSt → SsdSt) : (s.modSsd n f).fio = s.fio := rfl
@[simp] theorem State.modSsd_sup (n : StageId) (f : SsdSt → SsdSt) : (s.modSsd n f).sup = s.sup := rfl
@[simp] theorem State.modSsd_lgc (n : StageId) (f : SsdSt → SsdSt) : (s.modSsd n f).lgc = s.lgc := rfl
@[simp] theorem State.modSsd_net (n : StageId) (f : SsdSt → SsdSt) : (s.modSsd n f).net = s.net := rfl
@[simp] theorem State.modSsd_nvs (n : StageId) (f : SsdSt → SsdSt) : (s.modSsd n f).nvs = s.nvs := rfl

@[simp] theorem State.modConn_pending (c : ConnId) (f : ConnSt → ConnSt) : (s.modConn c f).pending = s.pending := rfl
@[simp] theorem State.modConn_objs (c : ConnId) (f : ConnSt → ConnSt) : (s.modConn c f).objs = s.objs := rfl
@[simp] theorem State.modConn_saved (c : ConnId) (f : ConnSt → ConnSt) : (s.modConn c f).saved = s.saved := rfl
@[simp] theorem State.modConn_commitWrites (c : ConnId) (f : ConnSt → ConnSt) : (s.modConn c f).commitWrites = s.commitWrites := rfl
@[simp] theorem State.modConn_heldWrites (c : ConnId) (f : ConnSt → ConnSt) : (s.modConn c f).heldWrites = s.heldWrites := rfl
@[simp] theorem State.modConn_modeWrites (c : ConnId) (f : ConnSt → ConnSt) : (s.modConn c f).modeWrites = s.modeWrites := rfl
@[simp] theorem State.modConn_resetWrites (c : ConnId) (f : ConnSt → ConnSt) : (s.modConn c f).resetWrites = s.resetWrites := rfl
@[simp] theorem State.modConn_logSeq (c : ConnId) (f : ConnSt → ConnSt) : (s.modConn c f).logSeq = s.logSeq := rfl
@[simp] theorem State.modConn_logBuf (c : ConnId) (f : ConnSt → ConnSt) : (s.modConn c f).logBuf = s.logBuf := rfl
@[simp] theorem State.modConn_logFlash (c : ConnId) (f : ConnSt → ConnSt) : (s.modConn c f).logFlash = s.logFlash := rfl
@[simp] theorem State.modConn_lastLog (c : ConnId) (f : ConnSt → ConnSt) : (s.modConn c f).lastLog = s.lastLog := rfl
@[simp] theorem State.modConn_tx (c : ConnId) (f : ConnSt → ConnSt) : (s.modConn c f).tx = s.tx := rfl
@[simp] theorem State.modConn_free (c : ConnId) (f : ConnSt → ConnSt) : (s.modConn c f).free = s.free := rfl
@[simp] theorem State.modConn_isl (c : ConnId) (f : ConnSt → ConnSt) : (s.modConn c f).isl = s.isl := rfl
@[simp] theorem State.modConn_mod (c : ConnId) (f : ConnSt → ConnSt) : (s.modConn c f).mod = s.mod := rfl
@[simp] theorem State.modConn_stg (c : ConnId) (f : ConnSt → ConnSt) : (s.modConn c f).stg = s.stg := rfl
@[simp] theorem State.modConn_shr (c : ConnId) (f : ConnSt → ConnSt) : (s.modConn c f).shr = s.shr := rfl
@[simp] theorem State.modConn_frt (c : ConnId) (f : ConnSt → ConnSt) : (s.modConn c f).frt = s.frt := rfl
@[simp] theorem State.modConn_srv (c : ConnId) (f : ConnSt → ConnSt) : (s.modConn c f).srv = s.srv := rfl
@[simp] theorem State.modConn_pie (c : ConnId) (f : ConnSt → ConnSt) : (s.modConn c f).pie = s.pie := rfl
@[simp] theorem State.modConn_edg (c : ConnId) (f : ConnSt → ConnSt) : (s.modConn c f).edg = s.edg := rfl
@[simp] theorem State.modConn_gdv (c : ConnId) (f : ConnSt → ConnSt) : (s.modConn c f).gdv = s.gdv := rfl
@[simp] theorem State.modConn_acq (c : ConnId) (f : ConnSt → ConnSt) : (s.modConn c f).acq = s.acq := rfl
@[simp] theorem State.modConn_gal (c : ConnId) (f : ConnSt → ConnSt) : (s.modConn c f).gal = s.gal := rfl
@[simp] theorem State.modConn_clk (c : ConnId) (f : ConnSt → ConnSt) : (s.modConn c f).clk = s.clk := rfl
@[simp] theorem State.modConn_twn (c : ConnId) (f : ConnSt → ConnSt) : (s.modConn c f).twn = s.twn := rfl
@[simp] theorem State.modConn_saf (c : ConnId) (f : ConnSt → ConnSt) : (s.modConn c f).saf = ({ s.saf with conn := s.saf.conn.set c (f s.saf.conn[c]) }) := rfl
@[simp] theorem State.modConn_fio (c : ConnId) (f : ConnSt → ConnSt) : (s.modConn c f).fio = s.fio := rfl
@[simp] theorem State.modConn_sup (c : ConnId) (f : ConnSt → ConnSt) : (s.modConn c f).sup = s.sup := rfl
@[simp] theorem State.modConn_lgc (c : ConnId) (f : ConnSt → ConnSt) : (s.modConn c f).lgc = s.lgc := rfl
@[simp] theorem State.modConn_net (c : ConnId) (f : ConnSt → ConnSt) : (s.modConn c f).net = s.net := rfl
@[simp] theorem State.modConn_nvs (c : ConnId) (f : ConnSt → ConnSt) : (s.modConn c f).nvs = s.nvs := rfl

@[simp] theorem State.modAdc_pending (c : AdcId) (f : AdcSt → AdcSt) : (s.modAdc c f).pending = s.pending := rfl
@[simp] theorem State.modAdc_objs (c : AdcId) (f : AdcSt → AdcSt) : (s.modAdc c f).objs = s.objs := rfl
@[simp] theorem State.modAdc_saved (c : AdcId) (f : AdcSt → AdcSt) : (s.modAdc c f).saved = s.saved := rfl
@[simp] theorem State.modAdc_commitWrites (c : AdcId) (f : AdcSt → AdcSt) : (s.modAdc c f).commitWrites = s.commitWrites := rfl
@[simp] theorem State.modAdc_heldWrites (c : AdcId) (f : AdcSt → AdcSt) : (s.modAdc c f).heldWrites = s.heldWrites := rfl
@[simp] theorem State.modAdc_modeWrites (c : AdcId) (f : AdcSt → AdcSt) : (s.modAdc c f).modeWrites = s.modeWrites := rfl
@[simp] theorem State.modAdc_resetWrites (c : AdcId) (f : AdcSt → AdcSt) : (s.modAdc c f).resetWrites = s.resetWrites := rfl
@[simp] theorem State.modAdc_logSeq (c : AdcId) (f : AdcSt → AdcSt) : (s.modAdc c f).logSeq = s.logSeq := rfl
@[simp] theorem State.modAdc_logBuf (c : AdcId) (f : AdcSt → AdcSt) : (s.modAdc c f).logBuf = s.logBuf := rfl
@[simp] theorem State.modAdc_logFlash (c : AdcId) (f : AdcSt → AdcSt) : (s.modAdc c f).logFlash = s.logFlash := rfl
@[simp] theorem State.modAdc_lastLog (c : AdcId) (f : AdcSt → AdcSt) : (s.modAdc c f).lastLog = s.lastLog := rfl
@[simp] theorem State.modAdc_tx (c : AdcId) (f : AdcSt → AdcSt) : (s.modAdc c f).tx = s.tx := rfl
@[simp] theorem State.modAdc_free (c : AdcId) (f : AdcSt → AdcSt) : (s.modAdc c f).free = s.free := rfl
@[simp] theorem State.modAdc_isl (c : AdcId) (f : AdcSt → AdcSt) : (s.modAdc c f).isl = s.isl := rfl
@[simp] theorem State.modAdc_mod (c : AdcId) (f : AdcSt → AdcSt) : (s.modAdc c f).mod = s.mod := rfl
@[simp] theorem State.modAdc_stg (c : AdcId) (f : AdcSt → AdcSt) : (s.modAdc c f).stg = s.stg := rfl
@[simp] theorem State.modAdc_shr (c : AdcId) (f : AdcSt → AdcSt) : (s.modAdc c f).shr = s.shr := rfl
@[simp] theorem State.modAdc_frt (c : AdcId) (f : AdcSt → AdcSt) : (s.modAdc c f).frt = s.frt := rfl
@[simp] theorem State.modAdc_srv (c : AdcId) (f : AdcSt → AdcSt) : (s.modAdc c f).srv = s.srv := rfl
@[simp] theorem State.modAdc_pie (c : AdcId) (f : AdcSt → AdcSt) : (s.modAdc c f).pie = s.pie := rfl
@[simp] theorem State.modAdc_edg (c : AdcId) (f : AdcSt → AdcSt) : (s.modAdc c f).edg = s.edg := rfl
@[simp] theorem State.modAdc_gdv (c : AdcId) (f : AdcSt → AdcSt) : (s.modAdc c f).gdv = s.gdv := rfl
@[simp] theorem State.modAdc_acq (c : AdcId) (f : AdcSt → AdcSt) : (s.modAdc c f).acq = ({ s.acq with adc := s.acq.adc.set c (f s.acq.adc[c]) }) := rfl
@[simp] theorem State.modAdc_gal (c : AdcId) (f : AdcSt → AdcSt) : (s.modAdc c f).gal = s.gal := rfl
@[simp] theorem State.modAdc_clk (c : AdcId) (f : AdcSt → AdcSt) : (s.modAdc c f).clk = s.clk := rfl
@[simp] theorem State.modAdc_twn (c : AdcId) (f : AdcSt → AdcSt) : (s.modAdc c f).twn = s.twn := rfl
@[simp] theorem State.modAdc_saf (c : AdcId) (f : AdcSt → AdcSt) : (s.modAdc c f).saf = s.saf := rfl
@[simp] theorem State.modAdc_fio (c : AdcId) (f : AdcSt → AdcSt) : (s.modAdc c f).fio = s.fio := rfl
@[simp] theorem State.modAdc_sup (c : AdcId) (f : AdcSt → AdcSt) : (s.modAdc c f).sup = s.sup := rfl
@[simp] theorem State.modAdc_lgc (c : AdcId) (f : AdcSt → AdcSt) : (s.modAdc c f).lgc = s.lgc := rfl
@[simp] theorem State.modAdc_net (c : AdcId) (f : AdcSt → AdcSt) : (s.modAdc c f).net = s.net := rfl
@[simp] theorem State.modAdc_nvs (c : AdcId) (f : AdcSt → AdcSt) : (s.modAdc c f).nvs = s.nvs := rfl

@[simp] theorem State.modChain_pending (c : ChainId) (f : ChainSt → ChainSt) : (s.modChain c f).pending = s.pending := rfl
@[simp] theorem State.modChain_objs (c : ChainId) (f : ChainSt → ChainSt) : (s.modChain c f).objs = s.objs := rfl
@[simp] theorem State.modChain_saved (c : ChainId) (f : ChainSt → ChainSt) : (s.modChain c f).saved = s.saved := rfl
@[simp] theorem State.modChain_commitWrites (c : ChainId) (f : ChainSt → ChainSt) : (s.modChain c f).commitWrites = s.commitWrites := rfl
@[simp] theorem State.modChain_heldWrites (c : ChainId) (f : ChainSt → ChainSt) : (s.modChain c f).heldWrites = s.heldWrites := rfl
@[simp] theorem State.modChain_modeWrites (c : ChainId) (f : ChainSt → ChainSt) : (s.modChain c f).modeWrites = s.modeWrites := rfl
@[simp] theorem State.modChain_resetWrites (c : ChainId) (f : ChainSt → ChainSt) : (s.modChain c f).resetWrites = s.resetWrites := rfl
@[simp] theorem State.modChain_logSeq (c : ChainId) (f : ChainSt → ChainSt) : (s.modChain c f).logSeq = s.logSeq := rfl
@[simp] theorem State.modChain_logBuf (c : ChainId) (f : ChainSt → ChainSt) : (s.modChain c f).logBuf = s.logBuf := rfl
@[simp] theorem State.modChain_logFlash (c : ChainId) (f : ChainSt → ChainSt) : (s.modChain c f).logFlash = s.logFlash := rfl
@[simp] theorem State.modChain_lastLog (c : ChainId) (f : ChainSt → ChainSt) : (s.modChain c f).lastLog = s.lastLog := rfl
@[simp] theorem State.modChain_tx (c : ChainId) (f : ChainSt → ChainSt) : (s.modChain c f).tx = s.tx := rfl
@[simp] theorem State.modChain_free (c : ChainId) (f : ChainSt → ChainSt) : (s.modChain c f).free = s.free := rfl
@[simp] theorem State.modChain_isl (c : ChainId) (f : ChainSt → ChainSt) : (s.modChain c f).isl = s.isl := rfl
@[simp] theorem State.modChain_mod (c : ChainId) (f : ChainSt → ChainSt) : (s.modChain c f).mod = s.mod := rfl
@[simp] theorem State.modChain_stg (c : ChainId) (f : ChainSt → ChainSt) : (s.modChain c f).stg = s.stg := rfl
@[simp] theorem State.modChain_shr (c : ChainId) (f : ChainSt → ChainSt) : (s.modChain c f).shr = s.shr := rfl
@[simp] theorem State.modChain_frt (c : ChainId) (f : ChainSt → ChainSt) : (s.modChain c f).frt = s.frt := rfl
@[simp] theorem State.modChain_srv (c : ChainId) (f : ChainSt → ChainSt) : (s.modChain c f).srv = s.srv := rfl
@[simp] theorem State.modChain_pie (c : ChainId) (f : ChainSt → ChainSt) : (s.modChain c f).pie = s.pie := rfl
@[simp] theorem State.modChain_edg (c : ChainId) (f : ChainSt → ChainSt) : (s.modChain c f).edg = s.edg := rfl
@[simp] theorem State.modChain_gdv (c : ChainId) (f : ChainSt → ChainSt) : (s.modChain c f).gdv = s.gdv := rfl
@[simp] theorem State.modChain_acq (c : ChainId) (f : ChainSt → ChainSt) : (s.modChain c f).acq = ({ s.acq with chain := s.acq.chain.set c (f s.acq.chain[c]) }) := rfl
@[simp] theorem State.modChain_gal (c : ChainId) (f : ChainSt → ChainSt) : (s.modChain c f).gal = s.gal := rfl
@[simp] theorem State.modChain_clk (c : ChainId) (f : ChainSt → ChainSt) : (s.modChain c f).clk = s.clk := rfl
@[simp] theorem State.modChain_twn (c : ChainId) (f : ChainSt → ChainSt) : (s.modChain c f).twn = s.twn := rfl
@[simp] theorem State.modChain_saf (c : ChainId) (f : ChainSt → ChainSt) : (s.modChain c f).saf = s.saf := rfl
@[simp] theorem State.modChain_fio (c : ChainId) (f : ChainSt → ChainSt) : (s.modChain c f).fio = s.fio := rfl
@[simp] theorem State.modChain_sup (c : ChainId) (f : ChainSt → ChainSt) : (s.modChain c f).sup = s.sup := rfl
@[simp] theorem State.modChain_lgc (c : ChainId) (f : ChainSt → ChainSt) : (s.modChain c f).lgc = s.lgc := rfl
@[simp] theorem State.modChain_net (c : ChainId) (f : ChainSt → ChainSt) : (s.modChain c f).net = s.net := rfl
@[simp] theorem State.modChain_nvs (c : ChainId) (f : ChainSt → ChainSt) : (s.modChain c f).nvs = s.nvs := rfl

@[simp] theorem State.modStn_pending (i : StationId) (f : StationSt → StationSt) : (s.modStn i f).pending = s.pending := rfl
@[simp] theorem State.modStn_objs (i : StationId) (f : StationSt → StationSt) : (s.modStn i f).objs = s.objs := rfl
@[simp] theorem State.modStn_saved (i : StationId) (f : StationSt → StationSt) : (s.modStn i f).saved = s.saved := rfl
@[simp] theorem State.modStn_commitWrites (i : StationId) (f : StationSt → StationSt) : (s.modStn i f).commitWrites = s.commitWrites := rfl
@[simp] theorem State.modStn_heldWrites (i : StationId) (f : StationSt → StationSt) : (s.modStn i f).heldWrites = s.heldWrites := rfl
@[simp] theorem State.modStn_modeWrites (i : StationId) (f : StationSt → StationSt) : (s.modStn i f).modeWrites = s.modeWrites := rfl
@[simp] theorem State.modStn_resetWrites (i : StationId) (f : StationSt → StationSt) : (s.modStn i f).resetWrites = s.resetWrites := rfl
@[simp] theorem State.modStn_logSeq (i : StationId) (f : StationSt → StationSt) : (s.modStn i f).logSeq = s.logSeq := rfl
@[simp] theorem State.modStn_logBuf (i : StationId) (f : StationSt → StationSt) : (s.modStn i f).logBuf = s.logBuf := rfl
@[simp] theorem State.modStn_logFlash (i : StationId) (f : StationSt → StationSt) : (s.modStn i f).logFlash = s.logFlash := rfl
@[simp] theorem State.modStn_lastLog (i : StationId) (f : StationSt → StationSt) : (s.modStn i f).lastLog = s.lastLog := rfl
@[simp] theorem State.modStn_tx (i : StationId) (f : StationSt → StationSt) : (s.modStn i f).tx = s.tx := rfl
@[simp] theorem State.modStn_free (i : StationId) (f : StationSt → StationSt) : (s.modStn i f).free = s.free := rfl
@[simp] theorem State.modStn_isl (i : StationId) (f : StationSt → StationSt) : (s.modStn i f).isl = s.isl := rfl
@[simp] theorem State.modStn_mod (i : StationId) (f : StationSt → StationSt) : (s.modStn i f).mod = s.mod := rfl
@[simp] theorem State.modStn_stg (i : StationId) (f : StationSt → StationSt) : (s.modStn i f).stg = s.stg := rfl
@[simp] theorem State.modStn_shr (i : StationId) (f : StationSt → StationSt) : (s.modStn i f).shr = s.shr := rfl
@[simp] theorem State.modStn_frt (i : StationId) (f : StationSt → StationSt) : (s.modStn i f).frt = s.frt := rfl
@[simp] theorem State.modStn_srv (i : StationId) (f : StationSt → StationSt) : (s.modStn i f).srv = s.srv := rfl
@[simp] theorem State.modStn_pie (i : StationId) (f : StationSt → StationSt) : (s.modStn i f).pie = s.pie := rfl
@[simp] theorem State.modStn_edg (i : StationId) (f : StationSt → StationSt) : (s.modStn i f).edg = s.edg := rfl
@[simp] theorem State.modStn_gdv (i : StationId) (f : StationSt → StationSt) : (s.modStn i f).gdv = s.gdv := rfl
@[simp] theorem State.modStn_acq (i : StationId) (f : StationSt → StationSt) : (s.modStn i f).acq = s.acq := rfl
@[simp] theorem State.modStn_gal (i : StationId) (f : StationSt → StationSt) : (s.modStn i f).gal = s.gal := rfl
@[simp] theorem State.modStn_clk (i : StationId) (f : StationSt → StationSt) : (s.modStn i f).clk = s.clk := rfl
@[simp] theorem State.modStn_twn (i : StationId) (f : StationSt → StationSt) : (s.modStn i f).twn = s.twn := rfl
@[simp] theorem State.modStn_saf (i : StationId) (f : StationSt → StationSt) : (s.modStn i f).saf = s.saf := rfl
@[simp] theorem State.modStn_fio (i : StationId) (f : StationSt → StationSt) : (s.modStn i f).fio = s.fio := rfl
@[simp] theorem State.modStn_sup (i : StationId) (f : StationSt → StationSt) : (s.modStn i f).sup = s.sup := rfl
@[simp] theorem State.modStn_lgc (i : StationId) (f : StationSt → StationSt) : (s.modStn i f).lgc = ({ s.lgc with station := s.lgc.station.set i (f s.lgc.station[i]) }) := rfl
@[simp] theorem State.modStn_net (i : StationId) (f : StationSt → StationSt) : (s.modStn i f).net = s.net := rfl
@[simp] theorem State.modStn_nvs (i : StationId) (f : StationSt → StationSt) : (s.modStn i f).nvs = s.nvs := rfl

@[simp] theorem State.modCvu_pending (u : CvuId) (f : CvuSt → CvuSt) : (s.modCvu u f).pending = s.pending := rfl
@[simp] theorem State.modCvu_objs (u : CvuId) (f : CvuSt → CvuSt) : (s.modCvu u f).objs = s.objs := rfl
@[simp] theorem State.modCvu_saved (u : CvuId) (f : CvuSt → CvuSt) : (s.modCvu u f).saved = s.saved := rfl
@[simp] theorem State.modCvu_commitWrites (u : CvuId) (f : CvuSt → CvuSt) : (s.modCvu u f).commitWrites = s.commitWrites := rfl
@[simp] theorem State.modCvu_heldWrites (u : CvuId) (f : CvuSt → CvuSt) : (s.modCvu u f).heldWrites = s.heldWrites := rfl
@[simp] theorem State.modCvu_modeWrites (u : CvuId) (f : CvuSt → CvuSt) : (s.modCvu u f).modeWrites = s.modeWrites := rfl
@[simp] theorem State.modCvu_resetWrites (u : CvuId) (f : CvuSt → CvuSt) : (s.modCvu u f).resetWrites = s.resetWrites := rfl
@[simp] theorem State.modCvu_logSeq (u : CvuId) (f : CvuSt → CvuSt) : (s.modCvu u f).logSeq = s.logSeq := rfl
@[simp] theorem State.modCvu_logBuf (u : CvuId) (f : CvuSt → CvuSt) : (s.modCvu u f).logBuf = s.logBuf := rfl
@[simp] theorem State.modCvu_logFlash (u : CvuId) (f : CvuSt → CvuSt) : (s.modCvu u f).logFlash = s.logFlash := rfl
@[simp] theorem State.modCvu_lastLog (u : CvuId) (f : CvuSt → CvuSt) : (s.modCvu u f).lastLog = s.lastLog := rfl
@[simp] theorem State.modCvu_tx (u : CvuId) (f : CvuSt → CvuSt) : (s.modCvu u f).tx = s.tx := rfl
@[simp] theorem State.modCvu_free (u : CvuId) (f : CvuSt → CvuSt) : (s.modCvu u f).free = s.free := rfl
@[simp] theorem State.modCvu_isl (u : CvuId) (f : CvuSt → CvuSt) : (s.modCvu u f).isl = s.isl := rfl
@[simp] theorem State.modCvu_mod (u : CvuId) (f : CvuSt → CvuSt) : (s.modCvu u f).mod = s.mod := rfl
@[simp] theorem State.modCvu_stg (u : CvuId) (f : CvuSt → CvuSt) : (s.modCvu u f).stg = s.stg := rfl
@[simp] theorem State.modCvu_shr (u : CvuId) (f : CvuSt → CvuSt) : (s.modCvu u f).shr = s.shr := rfl
@[simp] theorem State.modCvu_frt (u : CvuId) (f : CvuSt → CvuSt) : (s.modCvu u f).frt = s.frt := rfl
@[simp] theorem State.modCvu_srv (u : CvuId) (f : CvuSt → CvuSt) : (s.modCvu u f).srv = s.srv := rfl
@[simp] theorem State.modCvu_pie (u : CvuId) (f : CvuSt → CvuSt) : (s.modCvu u f).pie = s.pie := rfl
@[simp] theorem State.modCvu_edg (u : CvuId) (f : CvuSt → CvuSt) : (s.modCvu u f).edg = s.edg := rfl
@[simp] theorem State.modCvu_gdv (u : CvuId) (f : CvuSt → CvuSt) : (s.modCvu u f).gdv = s.gdv := rfl
@[simp] theorem State.modCvu_acq (u : CvuId) (f : CvuSt → CvuSt) : (s.modCvu u f).acq = s.acq := rfl
@[simp] theorem State.modCvu_gal (u : CvuId) (f : CvuSt → CvuSt) : (s.modCvu u f).gal = s.gal := rfl
@[simp] theorem State.modCvu_clk (u : CvuId) (f : CvuSt → CvuSt) : (s.modCvu u f).clk = s.clk := rfl
@[simp] theorem State.modCvu_twn (u : CvuId) (f : CvuSt → CvuSt) : (s.modCvu u f).twn = s.twn := rfl
@[simp] theorem State.modCvu_saf (u : CvuId) (f : CvuSt → CvuSt) : (s.modCvu u f).saf = s.saf := rfl
@[simp] theorem State.modCvu_fio (u : CvuId) (f : CvuSt → CvuSt) : (s.modCvu u f).fio = s.fio := rfl
@[simp] theorem State.modCvu_sup (u : CvuId) (f : CvuSt → CvuSt) : (s.modCvu u f).sup = s.sup := rfl
@[simp] theorem State.modCvu_lgc (u : CvuId) (f : CvuSt → CvuSt) : (s.modCvu u f).lgc = s.lgc := rfl
@[simp] theorem State.modCvu_net (u : CvuId) (f : CvuSt → CvuSt) : (s.modCvu u f).net = s.net := rfl
@[simp] theorem State.modCvu_nvs (u : CvuId) (f : CvuSt → CvuSt) : (s.modCvu u f).nvs = ({ s.nvs with cvu := s.nvs.cvu.set u (f s.nvs.cvu[u]) }) := rfl

@[simp] theorem State.modSession_pending (id : Nat) (f : SessionSt → SessionSt) : (s.modSession id f).pending = s.pending := rfl
@[simp] theorem State.modSession_objs (id : Nat) (f : SessionSt → SessionSt) : (s.modSession id f).objs = s.objs := rfl
@[simp] theorem State.modSession_saved (id : Nat) (f : SessionSt → SessionSt) : (s.modSession id f).saved = s.saved := rfl
@[simp] theorem State.modSession_commitWrites (id : Nat) (f : SessionSt → SessionSt) : (s.modSession id f).commitWrites = s.commitWrites := rfl
@[simp] theorem State.modSession_heldWrites (id : Nat) (f : SessionSt → SessionSt) : (s.modSession id f).heldWrites = s.heldWrites := rfl
@[simp] theorem State.modSession_modeWrites (id : Nat) (f : SessionSt → SessionSt) : (s.modSession id f).modeWrites = s.modeWrites := rfl
@[simp] theorem State.modSession_resetWrites (id : Nat) (f : SessionSt → SessionSt) : (s.modSession id f).resetWrites = s.resetWrites := rfl
@[simp] theorem State.modSession_logSeq (id : Nat) (f : SessionSt → SessionSt) : (s.modSession id f).logSeq = s.logSeq := rfl
@[simp] theorem State.modSession_logBuf (id : Nat) (f : SessionSt → SessionSt) : (s.modSession id f).logBuf = s.logBuf := rfl
@[simp] theorem State.modSession_logFlash (id : Nat) (f : SessionSt → SessionSt) : (s.modSession id f).logFlash = s.logFlash := rfl
@[simp] theorem State.modSession_lastLog (id : Nat) (f : SessionSt → SessionSt) : (s.modSession id f).lastLog = s.lastLog := rfl
@[simp] theorem State.modSession_tx (id : Nat) (f : SessionSt → SessionSt) : (s.modSession id f).tx = s.tx := rfl
@[simp] theorem State.modSession_free (id : Nat) (f : SessionSt → SessionSt) : (s.modSession id f).free = s.free := rfl
@[simp] theorem State.modSession_isl (id : Nat) (f : SessionSt → SessionSt) : (s.modSession id f).isl = s.isl := rfl
@[simp] theorem State.modSession_mod (id : Nat) (f : SessionSt → SessionSt) : (s.modSession id f).mod = s.mod := rfl
@[simp] theorem State.modSession_stg (id : Nat) (f : SessionSt → SessionSt) : (s.modSession id f).stg = s.stg := rfl
@[simp] theorem State.modSession_shr (id : Nat) (f : SessionSt → SessionSt) : (s.modSession id f).shr = s.shr := rfl
@[simp] theorem State.modSession_frt (id : Nat) (f : SessionSt → SessionSt) : (s.modSession id f).frt = s.frt := rfl
@[simp] theorem State.modSession_srv (id : Nat) (f : SessionSt → SessionSt) : (s.modSession id f).srv = s.srv := rfl
@[simp] theorem State.modSession_pie (id : Nat) (f : SessionSt → SessionSt) : (s.modSession id f).pie = s.pie := rfl
@[simp] theorem State.modSession_edg (id : Nat) (f : SessionSt → SessionSt) : (s.modSession id f).edg = s.edg := rfl
@[simp] theorem State.modSession_gdv (id : Nat) (f : SessionSt → SessionSt) : (s.modSession id f).gdv = s.gdv := rfl
@[simp] theorem State.modSession_acq (id : Nat) (f : SessionSt → SessionSt) : (s.modSession id f).acq = s.acq := rfl
@[simp] theorem State.modSession_gal (id : Nat) (f : SessionSt → SessionSt) : (s.modSession id f).gal = s.gal := rfl
@[simp] theorem State.modSession_clk (id : Nat) (f : SessionSt → SessionSt) : (s.modSession id f).clk = s.clk := rfl
@[simp] theorem State.modSession_twn (id : Nat) (f : SessionSt → SessionSt) : (s.modSession id f).twn = s.twn := rfl
@[simp] theorem State.modSession_saf (id : Nat) (f : SessionSt → SessionSt) : (s.modSession id f).saf = s.saf := rfl
@[simp] theorem State.modSession_fio (id : Nat) (f : SessionSt → SessionSt) : (s.modSession id f).fio = s.fio := rfl
@[simp] theorem State.modSession_sup (id : Nat) (f : SessionSt → SessionSt) : (s.modSession id f).sup = s.sup := rfl
@[simp] theorem State.modSession_lgc (id : Nat) (f : SessionSt → SessionSt) : (s.modSession id f).lgc = s.lgc := rfl
@[simp] theorem State.modSession_net (id : Nat) (f : SessionSt → SessionSt) : (s.modSession id f).net = ({ s.net with sessions := s.net.sessions.map fun x => if x.id = id then f x else x }) := rfl
@[simp] theorem State.modSession_nvs (id : Nat) (f : SessionSt → SessionSt) : (s.modSession id f).nvs = s.nvs := rfl

@[simp] theorem State.modImage_pending (f : Image → Image) : (s.modImage f).pending = s.pending := rfl
@[simp] theorem State.modImage_objs (f : Image → Image) : (s.modImage f).objs = s.objs := rfl
@[simp] theorem State.modImage_saved (f : Image → Image) : (s.modImage f).saved = s.saved := rfl
@[simp] theorem State.modImage_commitWrites (f : Image → Image) : (s.modImage f).commitWrites = s.commitWrites := rfl
@[simp] theorem State.modImage_heldWrites (f : Image → Image) : (s.modImage f).heldWrites = s.heldWrites := rfl
@[simp] theorem State.modImage_modeWrites (f : Image → Image) : (s.modImage f).modeWrites = s.modeWrites := rfl
@[simp] theorem State.modImage_resetWrites (f : Image → Image) : (s.modImage f).resetWrites = s.resetWrites := rfl
@[simp] theorem State.modImage_logSeq (f : Image → Image) : (s.modImage f).logSeq = s.logSeq := rfl
@[simp] theorem State.modImage_logBuf (f : Image → Image) : (s.modImage f).logBuf = s.logBuf := rfl
@[simp] theorem State.modImage_logFlash (f : Image → Image) : (s.modImage f).logFlash = s.logFlash := rfl
@[simp] theorem State.modImage_lastLog (f : Image → Image) : (s.modImage f).lastLog = s.lastLog := rfl
@[simp] theorem State.modImage_tx (f : Image → Image) : (s.modImage f).tx = s.tx := rfl
@[simp] theorem State.modImage_free (f : Image → Image) : (s.modImage f).free = s.free := rfl
@[simp] theorem State.modImage_isl (f : Image → Image) : (s.modImage f).isl = s.isl := rfl
@[simp] theorem State.modImage_mod (f : Image → Image) : (s.modImage f).mod = s.mod := rfl
@[simp] theorem State.modImage_stg (f : Image → Image) : (s.modImage f).stg = s.stg := rfl
@[simp] theorem State.modImage_shr (f : Image → Image) : (s.modImage f).shr = s.shr := rfl
@[simp] theorem State.modImage_frt (f : Image → Image) : (s.modImage f).frt = s.frt := rfl
@[simp] theorem State.modImage_srv (f : Image → Image) : (s.modImage f).srv = s.srv := rfl
@[simp] theorem State.modImage_pie (f : Image → Image) : (s.modImage f).pie = s.pie := rfl
@[simp] theorem State.modImage_edg (f : Image → Image) : (s.modImage f).edg = s.edg := rfl
@[simp] theorem State.modImage_gdv (f : Image → Image) : (s.modImage f).gdv = s.gdv := rfl
@[simp] theorem State.modImage_acq (f : Image → Image) : (s.modImage f).acq = s.acq := rfl
@[simp] theorem State.modImage_gal (f : Image → Image) : (s.modImage f).gal = s.gal := rfl
@[simp] theorem State.modImage_clk (f : Image → Image) : (s.modImage f).clk = s.clk := rfl
@[simp] theorem State.modImage_twn (f : Image → Image) : (s.modImage f).twn = s.twn := rfl
@[simp] theorem State.modImage_saf (f : Image → Image) : (s.modImage f).saf = s.saf := rfl
@[simp] theorem State.modImage_fio (f : Image → Image) : (s.modImage f).fio = s.fio := rfl
@[simp] theorem State.modImage_sup (f : Image → Image) : (s.modImage f).sup = s.sup := rfl
@[simp] theorem State.modImage_lgc (f : Image → Image) : (s.modImage f).lgc = ({ s.lgc with image := f s.lgc.image }) := rfl
@[simp] theorem State.modImage_net (f : Image → Image) : (s.modImage f).net = s.net := rfl
@[simp] theorem State.modImage_nvs (f : Image → Image) : (s.modImage f).nvs = s.nvs := rfl

/-! ### Events -/

@[simp] theorem State.log_pending (c : Nat) (d : List Rat) : (s.log c d).pending = s.pending := by unfold State.log; split <;> rfl
@[simp] theorem State.log_saved (c : Nat) (d : List Rat) : (s.log c d).saved = s.saved := by unfold State.log; split <;> rfl
@[simp] theorem State.log_commitWrites (c : Nat) (d : List Rat) : (s.log c d).commitWrites = s.commitWrites := by unfold State.log; split <;> rfl
@[simp] theorem State.log_heldWrites (c : Nat) (d : List Rat) : (s.log c d).heldWrites = s.heldWrites := by unfold State.log; split <;> rfl
@[simp] theorem State.log_modeWrites (c : Nat) (d : List Rat) : (s.log c d).modeWrites = s.modeWrites := by unfold State.log; split <;> rfl
@[simp] theorem State.log_resetWrites (c : Nat) (d : List Rat) : (s.log c d).resetWrites = s.resetWrites := by unfold State.log; split <;> rfl
@[simp] theorem State.log_logFlash (c : Nat) (d : List Rat) : (s.log c d).logFlash = s.logFlash := by unfold State.log; split <;> rfl
@[simp] theorem State.log_lastLog (c : Nat) (d : List Rat) : (s.log c d).lastLog = s.lastLog := by unfold State.log; split <;> rfl
@[simp] theorem State.log_tx (c : Nat) (d : List Rat) : (s.log c d).tx = s.tx := by unfold State.log; split <;> rfl
@[simp] theorem State.log_free (c : Nat) (d : List Rat) : (s.log c d).free = s.free := by unfold State.log; split <;> rfl
@[simp] theorem State.log_isl (c : Nat) (d : List Rat) : (s.log c d).isl = s.isl := by unfold State.log; split <;> rfl
@[simp] theorem State.log_mod (c : Nat) (d : List Rat) : (s.log c d).mod = s.mod := by unfold State.log; split <;> rfl
@[simp] theorem State.log_stg (c : Nat) (d : List Rat) : (s.log c d).stg = s.stg := by unfold State.log; split <;> rfl
@[simp] theorem State.log_shr (c : Nat) (d : List Rat) : (s.log c d).shr = s.shr := by unfold State.log; split <;> rfl
@[simp] theorem State.log_frt (c : Nat) (d : List Rat) : (s.log c d).frt = s.frt := by unfold State.log; split <;> rfl
@[simp] theorem State.log_srv (c : Nat) (d : List Rat) : (s.log c d).srv = s.srv := by unfold State.log; split <;> rfl
@[simp] theorem State.log_pie (c : Nat) (d : List Rat) : (s.log c d).pie = s.pie := by unfold State.log; split <;> rfl
@[simp] theorem State.log_edg (c : Nat) (d : List Rat) : (s.log c d).edg = s.edg := by unfold State.log; split <;> rfl
@[simp] theorem State.log_gdv (c : Nat) (d : List Rat) : (s.log c d).gdv = s.gdv := by unfold State.log; split <;> rfl
@[simp] theorem State.log_acq (c : Nat) (d : List Rat) : (s.log c d).acq = s.acq := by unfold State.log; split <;> rfl
@[simp] theorem State.log_gal (c : Nat) (d : List Rat) : (s.log c d).gal = s.gal := by unfold State.log; split <;> rfl
@[simp] theorem State.log_clk (c : Nat) (d : List Rat) : (s.log c d).clk = s.clk := by unfold State.log; split <;> rfl
@[simp] theorem State.log_twn (c : Nat) (d : List Rat) : (s.log c d).twn = s.twn := by unfold State.log; split <;> rfl
@[simp] theorem State.log_saf (c : Nat) (d : List Rat) : (s.log c d).saf = s.saf := by unfold State.log; split <;> rfl
@[simp] theorem State.log_fio (c : Nat) (d : List Rat) : (s.log c d).fio = s.fio := by unfold State.log; split <;> rfl
@[simp] theorem State.log_sup (c : Nat) (d : List Rat) : (s.log c d).sup = s.sup := by unfold State.log; split <;> rfl
@[simp] theorem State.log_lgc (c : Nat) (d : List Rat) : (s.log c d).lgc = s.lgc := by unfold State.log; split <;> rfl
@[simp] theorem State.log_net (c : Nat) (d : List Rat) : (s.log c d).net = s.net := by unfold State.log; split <;> rfl
@[simp] theorem State.log_nvs (c : Nat) (d : List Rat) : (s.log c d).nvs = s.nvs := by unfold State.log; split <;> rfl

end Sys2Proof.Machine
end

