-- ==== Sys2Proof/Laws/Observe.lean ====
section
/-!
SUPPORT. What the statements observe, once for all: an object's value through a footprint and after a write, the fields of a vector of
parts, events in the log's buffer.
-/

namespace Sys2Proof.Machine

/-! ### Through a footprint -/

theorem Keeps.obj {F : Nat} {s t : State} (h : Keeps F s t) (key : Nat) (e : F.testBit (Part.obj (objGroup key)).bit = false)
    (m : F.testBit (Part.obj .mod).bit = false) : t.obj key = s.obj key := by
  have a := h.same (.obj _) e key rfl
  have b := h.same (.obj .mod) m
  have r : ∀ k, objGroup k = .mod → t.rawI k = s.rawI k := fun k q => by unfold State.rawI; rw [b k q]
  have c : openDefault t key = openDefault s key := by
    unfold openDefault storedType
    dsimp only
    have n : t.rawI Obj.MOD_NODE_NUMBER = s.rawI Obj.MOD_NODE_NUMBER := r _ (by decide)
    have st : ∀ k, (k = 0x3200 ∨ k = 0x3600 ∨ k = 0x3A00 ∨ k = 0x3E00) → t.rawI (Obj.MOD_STAGE_CFG ((k - 0x3200) / 0x400)) = s.rawI (Obj.MOD_STAGE_CFG ((k - 0x3200) / 0x400)) := by
      intro k hk; apply r; rcases hk with h | h | h | h <;> subst h <;> decide
    have st2 : ∀ k, (k = 0x3300 ∨ k = 0x3700 ∨ k = 0x3B00 ∨ k = 0x3F00) → t.rawI (Obj.MOD_STAGE_CFG ((k - 0x3300) / 0x400)) = s.rawI (Obj.MOD_STAGE_CFG ((k - 0x3300) / 0x400)) := by
      intro k hk; apply r; rcases hk with h | h | h | h <;> subst h <;> decide
    split
    · rename_i q; rw [st _ q]
    · split
      · rename_i q; rw [st2 _ q]
      · rw [n]
  unfold State.obj
  rw [a, c]

theorem Keeps.objMod {F : Nat} {s t : State} (h : Keeps F s t) (key : Nat) (e : F.testBit (Part.obj (objGroup key)).bit = false)
    (m : (defaultAt key).isSome = true) : t.obj key = s.obj key := by
  have a := h.same (.obj _) e key rfl
  unfold State.obj
  rw [a]
  cases q : defaultAt key with
  | none => rw [q] at m; cases m
  | some v => rfl

theorem Keeps.objN {F : Nat} {s t : State} (h : Keeps F s t) (key : Nat) (e : F.testBit (Part.obj (objGroup key)).bit = false)
    (m : F.testBit (Part.obj .mod).bit = false) : t.objN key = s.objN key := by unfold State.objN; rw [h.obj key e m]
theorem Keeps.objR {F : Nat} {s t : State} (h : Keeps F s t) (key : Nat) (e : F.testBit (Part.obj (objGroup key)).bit = false)
    (m : F.testBit (Part.obj .mod).bit = false) : t.objR key = s.objR key := by unfold State.objR; rw [h.obj key e m]
theorem Keeps.bit' {F : Nat} {s t : State} (h : Keeps F s t) (key n : Nat) (e : F.testBit (Part.obj (objGroup key)).bit = false)
    (m : F.testBit (Part.obj .mod).bit = false) : t.bit key n = s.bit key n := by unfold State.bit State.field; rw [h.objN key e m]
theorem Keeps.field' {F : Nat} {s t : State} (h : Keeps F s t) (key n w : Nat) (e : F.testBit (Part.obj (objGroup key)).bit = false)
    (m : F.testBit (Part.obj .mod).bit = false) : t.field key n w = s.field key n w := by unfold State.field; rw [h.objN key e m]

theorem newEvent_keeps {F : Nat} {s t u : State} {c : Nat} {d : List Rat} (h : Keeps F t u) (e : F.testBit Part.buffer.bit = false)
    (k : newEvent s t c d = true) : newEvent s u c d = true := by
  have b := h.same .buffer e
  unfold newEvent at *
  rw [List.any_eq_true] at *
  obtain ⟨r, hr, q⟩ := k
  exact ⟨r, b r hr, q⟩
theorem newEvent_congr {s t u : State} {c : Nat} {d : List Rat} (e : u.logBuf = t.logBuf)
    (k : newEvent s t c d = true) : newEvent s u c d = true := by
  unfold newEvent at *; rw [e]; exact k
theorem newEvent_log {s t : State} {c : Nat} {d : List Rat} (r : t.hasRoom 1 = true) (q : s.logSeq ≤ t.logSeq) (n : t.isl.mt = s.isl.mt) :
    newEvent s (t.log c d) c d = true := by
  have r' : t.logBuf.length < logCapacity := by simp [State.hasRoom] at r; omega
  unfold newEvent State.log
  rw [if_pos r']
  simp [q, n, State.now]

/-! ### Vectors of parts -/

theorem vset_self {α : Type} {n : Nat} (v : Vector α n) (d : Fin n) (x : α) (h : d.val < n) : (v.set d.val x h)[d] = x := by
  rw [Fin.getElem_fin, Vector.getElem_set_self]
theorem vset_at {α : Type} {n : Nat} (v : Vector α n) (d m : Fin n) (x : α) (h : d.val < n) : (v.set d.val x h)[m] = if d = m then x else v[m] := by
  rw [Fin.getElem_fin, Vector.getElem_set]
  by_cases h : d = m
  · subst h; simp
  · rw [if_neg h, if_neg (fun c => h (Fin.ext c))]; rfl

theorem hasRoom_eq {s t : State} (h : s.hasRoom 1 = true) (e : t.logBuf = s.logBuf) : t.hasRoom 1 = true := by unfold State.hasRoom at *; rw [e]; exact h

/-! ### Bit fields -/

theorem bitsAt_setBitsAt (v lo w x : Nat) : bitsAt (setBitsAt v lo w x) lo w = x % 2 ^ w := by
  unfold bitsAt setBitsAt bitsAt
  have hp : 0 < 2 ^ lo := Nat.two_pow_pos lo
  have hw : 0 < 2 ^ w := Nat.two_pow_pos w
  generalize 2 ^ lo = p at *
  generalize 2 ^ w = q at *
  have e : v = v / p / q * q * p + v / p % q * p + v % p := by
    have h1 := Nat.div_add_mod v p
    have h2 := Nat.div_add_mod (v / p) q
    calc v = p * (v / p) + v % p := h1.symm
      _ = p * (q * (v / p / q) + v / p % q) + v % p := by rw [h2]
      _ = _ := by ring
  have s : v - v / p % q * p + x % q * p = (v / p / q * q + x % q) * p + v % p := by
    have : v - v / p % q * p = v / p / q * q * p + v % p := by omega
    rw [this]
    ring
  rw [s, Nat.add_comm, Nat.add_mul_div_right _ _ hp, Nat.div_eq_of_lt (Nat.mod_lt v hp), Nat.zero_add, Nat.add_comm,
    Nat.add_mul_mod_self_right, Nat.mod_mod]

/-- A field below the one written. -/
theorem bitsAt_setBitsAt_below {v lo w x lo' w' : Nat} (h : lo' + w' ≤ lo) : bitsAt (setBitsAt v lo w x) lo' w' = bitsAt v lo' w' := by
  have key : ∀ a b c : Nat, a % 2 ^ (lo' + w') = b % 2 ^ (lo' + w') → c = 0 → a / 2 ^ lo' % 2 ^ w' = b / 2 ^ lo' % 2 ^ w' := by
    intro a b _ e _
    rw [Nat.pow_add] at e
    have f : ∀ a : Nat, a / 2 ^ lo' % 2 ^ w' = a % (2 ^ lo' * 2 ^ w') / 2 ^ lo' := fun a => (Nat.mod_mul_right_div_self a (2 ^ lo') (2 ^ w')).symm
    rw [f, f, e]
  have d : 2 ^ (lo' + w') ∣ 2 ^ lo := Nat.pow_dvd_pow 2 h
  unfold setBitsAt
  refine key _ _ 0 ?_ rfl
  obtain ⟨r, hr⟩ := d
  have l : bitsAt v lo w * 2 ^ lo ≤ v := by
    unfold bitsAt
    exact (Nat.mul_le_mul_right _ (Nat.mod_le _ _)).trans (Nat.div_mul_le_self v (2 ^ lo))
  have e2 : v = (v - bitsAt v lo w * 2 ^ lo) + bitsAt v lo w * 2 ^ lo := by omega
  have c : ∀ y z : Nat, (y + z * 2 ^ lo) % 2 ^ (lo' + w') = y % 2 ^ (lo' + w') := fun y z => by
    rw [hr, show z * (2 ^ (lo' + w') * r) = 2 ^ (lo' + w') * (z * r) by ring, Nat.add_mul_mod_self_left]
  conv_rhs => rw [e2]
  rw [c, c]

theorem boolNat_lt (b : Bool) : boolNat b % 2 ^ 1 = boolNat b := by cases b <;> rfl
theorem boolNat_beq (b : Bool) : (boolNat b == 1) = b := by cases b <;> rfl

/-! ### What is read after a write -/

theorem State.objN_setN {s : State} (h : cellsWf s.objs = true) (k n : Nat) : (s.setN k n).objN k = n := by
  unfold State.setN State.objN
  rw [State.obj_setObj_self h]
  rfl

theorem State.objR_setR {s : State} (h : cellsWf s.objs = true) (k : Nat) (q : Rat) : (s.setR k q).objR k = q := by
  unfold State.setR State.objR
  rw [State.obj_setObj_self h]
  rfl

theorem State.objN_bump {s : State} (h : cellsWf s.objs = true) (k : Nat) : (s.bump k).objN k = s.objN k + 1 := State.objN_setN h k _

theorem State.field_setField {s : State} (h : cellsWf s.objs = true) (k lo w x : Nat) : (s.setField k lo w x).field k lo w = x % 2 ^ w := by
  unfold State.setField State.field
  rw [State.objN_setN h, bitsAt_setBitsAt]

theorem State.bit_setBit {s : State} (h : cellsWf s.objs = true) (k n : Nat) (b : Bool) : (s.setBit k n b).bit k n = b := by
  unfold State.setBit State.bit
  rw [State.field_setField h, boolNat_lt, boolNat_beq]

theorem State.wf_setObj {s : State} (h : cellsWf s.objs = true) (k : Nat) (v : Val) : cellsWf (s.setObj k v).objs = true := cellsWf_cellPut h
theorem State.wf_setN {s : State} (h : cellsWf s.objs = true) (k n : Nat) : cellsWf (s.setN k n).objs = true := cellsWf_cellPut h
theorem State.wf_setR {s : State} (h : cellsWf s.objs = true) (k : Nat) (q : Rat) : cellsWf (s.setR k q).objs = true := cellsWf_cellPut h
theorem State.wf_bump {s : State} (h : cellsWf s.objs = true) (k : Nat) : cellsWf (s.bump k).objs = true := cellsWf_cellPut h
theorem State.wf_setField {s : State} (h : cellsWf s.objs = true) (k lo w x : Nat) : cellsWf (s.setField k lo w x).objs = true :=
  cellsWf_cellPut h
theorem State.wf_setBit {s : State} (h : cellsWf s.objs = true) (k n : Nat) (b : Bool) : cellsWf (s.setBit k n b).objs = true :=
  cellsWf_cellPut h

/-- With room in the buffer an event touches no object. -/
theorem State.log_objs {s : State} (h : s.hasRoom 1 = true) (c : Nat) (d : List Rat) : (s.log c d).objs = s.objs := by
  have r : s.logBuf.length < logCapacity := by simp [State.hasRoom] at h; omega
  unfold State.log
  rw [if_pos r]

theorem State.obj_congr {s t : State} (h : t.objs = s.objs) (k : Nat) : t.obj k = s.obj k := by
  unfold State.obj openDefault storedType State.rawI
  rw [h]

/-! ### Requests -/

/-- A request that is carried out and accepted: its effect, then the forward to a standby and the answer. -/
theorem request_served {s : State} {w : Writer} {i : Island} (h : s.serves w i = true) (key : Nat) {f : State → Nat × State}
    (e : (f s).1 = 0) : request w key i f s = ((f s).2.forward key []).reply w key 0 := by
  simp only [State.serves, Bool.and_eq_true, Bool.not_eq_true'] at h
  obtain ⟨⟨⟨⟨h1, h2⟩, h3⟩, h4⟩, _⟩ := h
  unfold request
  simp [h1, h2, h3, h4, e]

theorem State.serves_accepts {s : State} {w : Writer} {i : Island} (h : s.serves w i = true) : s.accepts w = true := by
  simp only [State.serves, Bool.and_eq_true] at h
  exact h.2

theorem State.serves_alive {s : State} {w : Writer} {i : Island} (h : s.serves w i = true) : s.alive i = true := by
  simp only [State.serves, Bool.and_eq_true] at h
  exact h.1.1.2

/-- A write that the arbiter admits: its effect, the forward to a standby, and the answer. -/
theorem dictReq_admitted {s : State} {w : Writer} {key : Nat} {v : Val} (h : s.admits w key v = true) :
    dictReq w key v none s = answer w key (if (writeEffect w key v s).1 = some 0 ∨ (writeEffect w key v s).1 = none then
      ((writeEffect w key v s).1, (writeEffect w key v s).2.forward key (valInts v)) else writeEffect w key v s) := by
  simp only [State.admits, Bool.and_eq_true, beq_iff_eq] at h
  obtain ⟨⟨⟨h1, h2⟩, h3⟩, h4⟩ := h
  unfold dictReq writeRequest dictWrite
  simp [h1, h2, h3, h4]

theorem Keeps.alive {F : Nat} {s t : State} (h : Keeps F s t) (i : Island) (a : F.testBit (Part.isl .fenced).bit = false)
    (b : F.testBit (Part.mod .powered).bit = false) (c : F.testBit (Part.mod .mode).bit = false) : t.alive i = s.alive i := by
  have a' : t.isl.fenced = s.isl.fenced := h.same _ a
  have b' : t.mod.powered = s.mod.powered := h.same _ b
  have c' : t.mod.mode = s.mod.mode := h.same _ c
  unfold State.alive State.fenced
  rw [a', b', c']

end Sys2Proof.Machine
end

