-- ==== Sys2Proof/Laws/Frames.lean ====
section
/-!
SUPPORT. From a footprint to the list of parts that a frame names.
-/

namespace Sys2Proof.Machine

set_option Elab.async false

/-- The parts of a list as a footprint. -/
def maskOf (ps : List Part) : Nat := ps.foldl (fun m p => m ||| 1 <<< p.bit) 0

/-- Every part, in the order of the places. -/
def allParts : List Part := [
  .pending, .saved, .commitWrites, .heldWrites, .modeWrites, .resetWrites, .tx, .free, .log, .buffer, .safe, .fence, .obj .cia,
    .obj .mod, .obj .sup, .obj .nvs, .obj .tim, .obj .fio, .obj .twn, .obj .gfl, .obj .shr, .obj .frt, .obj .srv, .obj .pie,
    .obj .edg, .obj .gdv, .obj .acq, .obj .gal, .obj .lgc, .obj .net, .obj .saf, .obj .blk, .obj .other, .obj .ACQ_CAL_GAIN,
    .obj .ACQ_CAL_OFFSET, .obj .ACQ_CH_STATUS, .obj .ACQ_CH_VALUE, .obj .ACQ_DIAG_ERROR, .obj .ACQ_FC_DELAY, .obj .ACQ_FC_LATENCY,
    .obj .ACQ_FC_RATE, .obj .ACQ_FC_STATUS, .obj .ACQ_FC_UNSETTLED, .obj .ACQ_FC_VALUE, .obj .ACQ_OVERRANGE_COUNT,
    .obj .ACQ_SD_STATUS, .obj .ACQ_START_OVERLAP, .obj .ACQ_STATUS, .obj .ACQ_TRACK_DRIFT, .obj .CIA_ERROR_COUNT,
    .obj .CIA_ERROR_FIELD, .obj .CIA_ERROR_REGISTER, .obj .CVU_DROPPED, .obj .CVU_RESULT, .obj .CVU_STATUS, .obj .EDG_CH_CLIPPED,
    .obj .EDG_CH_GUARD_COUNT, .obj .EDG_CH_LATE, .obj .EDG_CH_REMOVED, .obj .EDG_CH_STATIC_CTRL, .obj .EDG_CH_STATUS,
    .obj .EDG_RAW_ENABLE, .obj .EDG_RAW_HIGH, .obj .EDG_RAW_LOW, .obj .EDG_SRC_ACTIVE, .obj .EDG_STATUS, .obj .EDG_TB_LATE,
    .obj .EDG_TB_NEXT_ZERO, .obj .EDG_TB_PERIOD, .obj .EDG_TRG_CFG, .obj .EDG_TRG_LATCH_SRC, .obj .EDG_TRG_LATCH_TIME,
    .obj .EDG_TRG_PERIODS, .obj .EDG_TRG_STATUS, .obj .FIO_CD_CURRENT, .obj .FIO_CD_IGNORED, .obj .FIO_CD_STATUS,
    .obj .FIO_DI_CURRENT, .obj .FIO_DI_STATUS, .obj .FIO_DO_CURRENT, .obj .FIO_DO_STATUS, .obj .FIO_FORCE, .obj .FIO_MAX_LATENESS,
    .obj .FIO_STATUS, .obj .FRT_COAST_COUNT, .obj .FRT_DELTA_P_COAST, .obj .FRT_IN_PLL_F, .obj .FRT_LAST_GAP, .obj .FRT_LAST_JUMP,
    .obj .FRT_LAST_PEAK, .obj .FRT_LAST_RIDE, .obj .FRT_LINK_ENERGY, .obj .FRT_RIDE_COUNT, .obj .FRT_STATUS, .obj .GAL_CONFIG,
    .obj .GAL_DATAGRAMS, .obj .GAL_DEPTH, .obj .GAL_DROPPED, .obj .GAL_MARK_COUNT, .obj .GAL_MARK_FRAC, .obj .GAL_MARK_K,
    .obj .GAL_MARK_TIME, .obj .GAL_RECORDS, .obj .GAL_STATUS, .obj .GAL_WIRE_RATE, .obj .GDV_BS_FORECAST, .obj .GDV_BS_REFRESHES,
    .obj .GDV_CH_STATUS, .obj .GDV_DESAT_COUNT, .obj .GDV_DIAG_RESULT, .obj .GDV_PORT_ACK_MISSING, .obj .GDV_PORT_FAULTS,
    .obj .GDV_PORT_LAST_CODE, .obj .GDV_PORT_STATUS, .obj .GDV_RAIL_V, .obj .GDV_SAFE_PATTERN, .obj .GDV_STATUS, .obj .GFL_CONFIG,
    .obj .GFL_E, .obj .GFL_EFF_KC, .obj .GFL_EFF_NOTCH_F, .obj .GFL_EFF_RV, .obj .GFL_EFF_XV, .obj .GFL_FREQ, .obj .GFL_F_RES,
    .obj .GFL_P_MEAS, .obj .GFL_P_MECH, .obj .GFL_Q_MEAS, .obj .GFL_STATUS, .obj .GFL_THETA, .obj .GFL_V_NEG, .obj .GFL_V_ZERO,
    .obj .GFL_ZETA, .obj .LGC_CYCLE_COUNT, .obj .LGC_LOAD, .obj .LGC_LT, .obj .LGC_MAX_BUSY, .obj .LGC_OVERRUN_COUNT,
    .obj .LGC_OVERRUN_RUN, .obj .LGC_PERIOD_IN_FORCE, .obj .LGC_PROG_CHECK, .obj .LGC_PROG_ID, .obj .LGC_RETAIN_LAG,
    .obj .LGC_STAGED_ID, .obj .LGC_STATUS, .obj .LGC_STN_DROPS, .obj .LGC_STN_ID, .obj .LGC_STN_LAST_RX, .obj .LGC_STN_STATE,
    .obj .LGC_WCET_BUSY, .obj .MOD_FW_IMAGE, .obj .MOD_FW_VERSION, .obj .MOD_LOCKOUT_CAUSE, .obj .MOD_STAGE_SAFE_CAUSE,
    .obj .MOD_STATUS, .obj .MOD_TRANSITION_COUNT, .obj .NET_ABORTS, .obj .NET_CAN_STATE, .obj .NET_DUP_DISCARDED,
    .obj .NET_LAST_ABORT, .obj .NET_LATE_TX, .obj .NET_OWNER, .obj .NET_SESSIONS, .obj .NET_STATUS, .obj .NET_WRITES_LOST,
    .obj .NVS_DEFERRED, .obj .NVS_ECC_CORRECTED, .obj .NVS_HOLD_C, .obj .NVS_HOLD_V, .obj .NVS_IMAGE_STATE, .obj .NVS_LOG_DROPPED,
    .obj .NVS_STATUS, .obj .PIE_CONFIG, .obj .PIE_ECC_CORRECTED, .obj .PIE_GRAPH_CHECK, .obj .PIE_GRAPH_ID,
    .obj .PIE_INSTANCE_COUNT, .obj .PIE_LAST_COMMIT, .obj .PIE_LOAD, .obj .PIE_MAX_CRIT, .obj .PIE_MAX_TOTAL,
    .obj .PIE_OFFPLAN_COUNT, .obj .PIE_OVERRUN_COUNT, .obj .PIE_OVERRUN_RUN, .obj .PIE_POST_OVERRUN_COUNT, .obj .PIE_STATUS,
    .obj .PIE_WCET_CRIT, .obj .PIE_WCET_TOTAL, .obj .SAF_ABSENCE, .obj .SAF_CONN_LAST_AGE, .obj .SAF_CONN_REJECTED,
    .obj .SAF_CONN_STATUS, .obj .SAF_SOC_OPERATIONS, .obj .SAF_SOC_SINCE_PROOF, .obj .SAF_SOC_STATUS, .obj .SAF_SSD_VALUE,
    .obj .SAF_STATUS, .obj .SAF_UNKNOWN_ID, .obj .SHR_ANCHOR_COUNT, .obj .SHR_ANCHOR_LATE, .obj .SHR_DELTA_F,
    .obj .SHR_DELTA_F_REST, .obj .SHR_DELTA_THETA, .obj .SHR_DELTA_V, .obj .SHR_DELTA_V_REST, .obj .SHR_F_MEAN, .obj .SHR_LINE_F,
    .obj .SHR_LINE_V, .obj .SHR_STATUS, .obj .SHR_V_MEAN, .obj .SRV_CAN_RES, .obj .SRV_CAN_SCORE, .obj .SRV_COHERENCE,
    .obj .SRV_CONFIG, .obj .SRV_DFN_AD, .obj .SRV_DKC_AD, .obj .SRV_DR_AD, .obj .SRV_DX_AD, .obj .SRV_F_PEAK, .obj .SRV_F_UPPER,
    .obj .SRV_N_EST, .obj .SRV_N_PARALLEL, .obj .SRV_ROUND_COUNT, .obj .SRV_STATUS, .obj .SRV_Z1_R, .obj .SRV_Z1_X,
    .obj .SRV_ZETA_PEAK, .obj .SRV_ZETA_SWING, .obj .SRV_Z_ANGLE, .obj .SRV_Z_MAG, .obj .SUP_INTERRUPTIONS,
    .obj .SUP_LAST_INTERRUPTION, .obj .SUP_RAIL, .obj .SUP_STATUS, .obj .THM_BROKEN, .obj .THM_PEAK, .obj .THM_SHUTDOWN_SENSOR,
    .obj .THM_STATUS, .obj .THM_TEMP, .obj .THM_THROTTLE_STEP, .obj .TIM_BOOT_COUNT, .obj .TIM_NTA_DISCARDED, .obj .TIM_NTA_GM_ID,
    .obj .TIM_NTA_PATH_DELAY, .obj .TIM_NTA_STEPS_REMOVED, .obj .TIM_PLL_LOSSES, .obj .TIM_REF_DEV, .obj .TIM_STATUS,
    .obj .TIM_TC_CORRECTED, .obj .TWN_GRID_PHASE, .obj .TWN_LAST_INTERRUPTION, .obj .TWN_LINK_ERRORS, .obj .TWN_LINK_LATENCY,
    .obj .TWN_MISMATCHES, .obj .TWN_PARTNER_FW, .obj .TWN_PARTNER_SERIAL, .obj .TWN_STATUS, .obj .TWN_TAKEOVERS, .obj .BASE_STATUS,
    .obj .BASE_OFFSET, .obj .BASE_RATE, .obj .BASE_HOLDOVER, .isl .mt, .isl .started, .isl .broadcast, .isl .dev, .isl .fenced,
    .isl .joints, .isl .held, .isl .lately, .isl .implausible, .isl .refused, .isl .pulseEnable, .isl .pulseLost,
    .isl .contactorEnable, .isl .contactorLapsed, .isl .houseFencedAt, .mod .mode, .mod .order, .mod .lockoutCause,
    .mod .lockoutPending, .mod .stopPending, .mod .enteredAt, .mod .cfgLoaded, .mod .calDone, .mod .holdupDone, .mod .restoreDone,
    .mod .diagQueue, .mod .cfgValid, .mod .powered, .mod .resetAsserted, .mod .imageStarted, .mod .charged, .mod .loadsStarted,
    .mod .link, .mod .thermalLatch, .mod .lastGfiCause, .stg .st, .stg .cause, .stg .diagPassed, .stg .diagDeferred,
    .stg .diagSince, .stg .heldStart, .stg .toArmed, .stg .toRun, .stg .toOff, .stg .lastLimit, .stg .graphOk, .stg .sinceEntry,
    .stg .pulsesEnd, .shr .line, .shr .far, .shr .claim, .shr .closeAt, .shr .closeTimeout, .shr .tieAt, .shr .closedDead,
    .shr .closed, .shr .pull, .shr .syncFrom, .shr .syncTimeout, .shr .okSince, .shr .dwell, .shr .deadSince, .shr .lostLogged,
    .shr .rampFrom, .shr .rampTime, .shr .rampLast, .shr .ramping, .shr .glideW, .shr .glideV, .shr .joining, .shr .winStart,
    .shr .winSum, .shr .winCount, .shr .winBad, .shr .suspended, .shr .anchor, .frt .riding, .frt .clearAt, .frt .clearBefore,
    .frt .budget, .frt .budgetAt, .frt .budgetUsed, .frt .peak, .frt .failed, .frt .decay, .frt .coasting, .frt .coastFrom,
    .frt .lowest, .frt .lowSince, .frt .shed, .frt .release, .frt .powerLimit, .frt .powerRef, .frt .lost, .frt .lostAt,
    .frt .confirmed, .frt .blocked, .frt .ramp, .frt .notified, .frt .pllF, .frt .pllPhase, .frt .pllAt, .frt .hold,
    .frt .holdExpired, .frt .crossings, .frt .pulsed, .frt .dev, .frt .devSince, .frt .inPast, .frt .aboveSince, .frt .vdc,
    .frt .speedDue, .srv .active, .srv .startedAt, .srv .runSince, .srv .chip, .srv .cfg, .srv .dRad, .srv .dXad, .srv .dKc,
    .srv .dFn, .srv .glideR, .srv .glideX, .srv .undo, .srv .holdVi, .srv .holdNotch, .srv .holdKc, .srv .zetaPk, .srv .zetaA,
    .srv .above, .srv .warned, .srv .acted, .srv .scores, .srv .prevIL, .srv .prevVc, .srv .prevIo, .srv .prevU, .srv .prevVdc,
    .srv .worst, .srv .due, .srv .actedAt, .srv .record, .pie .law, .pie .blocks, .pie .work, .pie .post, .pie .k, .pie .t0,
    .pie .graph, .pie .tally, .pie .overrunRun, .pie .postRun, .pie .postDone, .pie .provisional, .pie .duties, .pie .sent,
    .pie .out, .pie .ran, .pie .tripped, .pie .selftest, .pie .selftestDue, .pie .bistAt, .pie .rv, .pie .xv, .pie .xvn,
    .pie .fClamp, .pie .eClamp, .pie .negClamp, .pie .nClamp, .pie .restClamp, .pie .before, .pie .envLogged, .edg .loadedAt,
    .edg .tb, .edg .ch, .edg .sets, .edg .grp, .edg .active, .edg .pinKnown, .edg .raw, .edg .rawHigh, .edg .rawLow, .edg .calFault,
    .edg .heartbeats, .edg .beatAt, .edg .recalAt, .edg .added, .gdv .uvlo, .gdv .uvloAt, .gdv .pattern, .gdv .noHolder,
    .gdv .heartbeat, .gdv .drv, .gdv .port, .acq .timer, .acq .adc, .acq .chain, .acq .sdFault, .acq .selfCal, .acq .diag,
    .acq .cmpOwned, .acq .cmpLevel, .gal .ring, .gal .missing, .gal .changed, .gal .cond, .gal .prev, .gal .prevAt, .gal .seen,
    .gal .armed, .gal .ready, .gal .holdoff, .gal .datagram, .gal .openedAt, .gal .seq, .gal .dropped, .gal .busyTo, .gal .readK,
    .clk .refOk, .clk .badAt, .clk .switchedAt, .clk .countedAt, .clk .monitoredAt, .clk .active, .clk .pllOn, .clk .pll, .clk .onB,
    .clk .netLocked, .clk .netLostAt, .clk .base, .twn .mode, .twn .primary, .twn .link, .twn .lanes, .twn .partner, .twn .formed,
    .twn .lock, .twn .phase, .twn .lockFrom, .twn .conflict, .twn .mismatch, .twn .active, .twn .request, .twn .auto, .twn .held,
    .twn .claimIn, .twn .claimSince, .twn .grant, .twn .grantLost, .twn .armed, .twn .xfail, .twn .xfailAt, .twn .partnerFenced,
    .twn .selfFenced, .twn .arb, .twn .digests, .twn .diffs, .twn .holdoff, .twn .handover, .twn .winTarget, .twn .view, .saf .soc,
    .saf .ssd, .saf .conn, .saf .pending, .saf .coverSeen, .saf .coverDemand, .saf .demanded, .saf .latched, .saf .halted,
    .saf .removed, .saf .tieFailed, .saf .resetAt, .saf .marchAt, .fio .di, .fio .out, .fio .drv, .fio .f24Bad, .fio .force,
    .sup .highAt, .sup .intAt, .sup .bridge, .sup .shed, .sup .backAt, .sup .gdLimited, .sup .sensorAt, .sup .lastRound,
    .sup .sensor, .sup .stepAt, .lgc .running, .lgc .valid, .lgc .verified, .lgc .program, .lgc .staged, .lgc .staging, .lgc .image,
    .lgc .bank, .lgc .lastBank, .lgc .marked, .lgc .kept, .lgc .lag, .lgc .nextAt, .lgc .lastAt, .lgc .busyUntil, .lgc .busy,
    .lgc .exchanging, .lgc .skipped, .lgc .tc, .lgc .stretch, .lgc .exchange, .lgc .resetRetain, .lgc .host, .lgc .station,
    .lgc .level, .lgc .starting, .lgc .peek, .lgc .loads, .net .ownerAt, .net .sessions, .net .rights, .net .challenges,
    .net .invalid, .net .blocked, .net .can, .net .heard, .net .syncs, .net .tpdoAt, .net .tpdoLast, .net .rpdoWait, .net .link,
    .net .bypass, .net .macs, .net .spiReply, .net .spiSeq, .net .spiLast, .net .spiPartial, .net .restore, .nvs .cvu,
    .nvs .waiting, .nvs .running, .nvs .deferred, .nvs .stopped, .nvs .gen, .nvs .lost, .nvs .retired, .nvs .version,
    .nvs .running_, .nvs .package, .nvs .writing, .nvs .readSeq, .nvs .sector, .nvs .page, .nvs .pageAt, .nvs .eraseAt,
    .nvs .retryAt, .nvs .reported]

/-- The part that stands at a place of a footprint. -/
def partAt (n : Nat) : Option Part := allParts[n]?

theorem partAt_bit (p : Part) : partAt p.bit = some p := by
  cases p with
  | obj g => cases g <;> decide +kernel
  | isl f => cases f <;> decide +kernel
  | mod f => cases f <;> decide +kernel
  | stg f => cases f <;> decide +kernel
  | shr f => cases f <;> decide +kernel
  | frt f => cases f <;> decide +kernel
  | srv f => cases f <;> decide +kernel
  | pie f => cases f <;> decide +kernel
  | edg f => cases f <;> decide +kernel
  | gdv f => cases f <;> decide +kernel
  | acq f => cases f <;> decide +kernel
  | gal f => cases f <;> decide +kernel
  | clk f => cases f <;> decide +kernel
  | twn f => cases f <;> decide +kernel
  | saf f => cases f <;> decide +kernel
  | fio f => cases f <;> decide +kernel
  | sup f => cases f <;> decide +kernel
  | lgc f => cases f <;> decide +kernel
  | net f => cases f <;> decide +kernel
  | nvs f => cases f <;> decide +kernel
  | _ => decide +kernel

theorem Part.bit_inj {p q : Part} (h : p.bit = q.bit) : p = q :=
  Option.some.inj ((partAt_bit p).symm.trans ((congrArg partAt h).trans (partAt_bit q)))

theorem testBit_foldl (ps : List Part) (m : Nat) (p : Part) (n : p ∉ ps) :
    (ps.foldl (fun m p => m ||| 1 <<< p.bit) m).testBit p.bit = m.testBit p.bit := by
  induction ps generalizing m with
  | nil => rfl
  | cons q l ih =>
    rw [List.foldl_cons, ih _ fun c => n (List.mem_cons_of_mem _ c), Nat.testBit_or]
    have d : p.bit ≠ q.bit := fun c => n (by rw [Part.bit_inj c]; exact List.mem_cons_self)
    rw [Nat.one_shiftLeft, Nat.testBit_two_pow_of_ne (Ne.symm d), Bool.or_false]

theorem testBit_maskOf {ps : List Part} {p : Part} (n : p ∉ ps) : (maskOf ps).testBit p.bit = false := by
  unfold maskOf
  rw [testBit_foldl ps 0 p n, Nat.zero_testBit]

/-- A command whose footprint lies within a list of parts has that list as its frame. -/
theorem frame_of {F : Nat} {c : Instr} {ps : List Part} (h : ∀ s, KeepsR F s (exec c s)) (n : ∀ s, ∃ t, exec c s = .next t)
    (e : F &&& maskOf ps = F) : Frame c ps := by
  intro s
  obtain ⟨t, q⟩ := n s
  refine ⟨t, q, fun p m => (h s).out t q |>.same p ?_⟩
  rw [← e, Nat.testBit_and, testBit_maskOf m, Bool.and_false]

/-- The footprint of each command. -/
def footprint : Instr → Nat
  | .timeBroadcast .. => 0x1827000000080040018100014c8007440008000f10070c0d00000006e8007cc1d9f0a4b33e70003170f3d00800000800100140200040e0601000100020981a0291303100e0000000001c0
  | .jointWordArrival .. => 0x1827000000080040018100014c8007440008000f10070c0d00000006e8007cc1d9f0a4b33e70003170c3d08800000800100140200040e0601000100020981a0291303100e0000000001c0
  | .commandArrival .. => 0xcc87d403fbfbbfb9881736fb1007f60824f7d4f6c10efbff77c0f0009df9ee8107ccffffffcb37ff30ffe7f03ffffffffffffffffffffffffffffffffffffffffffffffffffffffffffffff5fc
  | .effectiveInstantReached .. => 0xcc87d403fbfbbfb9881736fb1007f60824f7d4f4c10efbff77c0f0009df9ee8107ccffffffcb37ff30ffe7f03ffffffffffffffffffffffffffffffffffffffffffffffffffffffffffffff5fc
  | .islandFence .. => 0x1827000000080040018100014c8007440008000f10070c0d00000006e8007cc1d9f0a4b33e70003170c3d00800000800100140200040e0601000100020981a0291303100e0000000001c0
  | .safePatternApply .. => 0xc80010000000000000000000000000000000000000000000000000000000000000000004000000000000120800000000000000000000000100
  | .safePatternLeave .. => 0xc80010000000000000000000000000000000000000000000000000000000000000000000000000000000120800000000000000000000000000
  | .contactorEnableLapse => 0x400000000000000000000000000000000000000000000000000000000000000000800000000000000000000000000000000000000000000000910000000000000000000
  | .modeTick .. => 0x2216bbfa1881533dd94e50008007454c4d90e73ff77c0f0009df9ee8007ccfdffefcb37f770ffe7003ffffffffffffffffffffffffffffffffffffffffffffffffffffffffffffff5d4
  | .auxPowerUp => 0x2000000000000000000000000000000000000000000000000000000000000000000000000
  | .aditEntry .. => 0x220000000081400181000003861745484c00e730770c0f0009df86e8007ccfd9f0a4b33e7000427003ffffffffffffffffffffffffffffffffffffffffffffffffffffffffffffff1d4
  | .aditPllTimeout => 0x10000000000000000000000000004000000000000000000000000000000000000000100
  | .imageVerified .. => 0x3000000000000030000000000000000000000000000000000000000000000000000000000000000080100000000000000000000000000060000e1b00000000000000000000000000000000100
  | .surveyConfigLoad .. => 0x20000000000040008000000080000401381015d0017c7e000000000800000618000010804010907003ffffffffffffffffffffffffffffffffffffffffffffffffffffffffffffff144
  | .selfCalComplete .. => 0x16000000000000000000000000000000000000000000110000000000000000000000000004000000000000000000000000000000820e00000100
  | .holdupCheckComplete .. => 0x3840a10000000000000000000000000005800000000000000000000000000000000000000100
  | .deferredDiagStart .. => 0x2000000000000000000000000000000000000000000000000000000000000000000000000000
  | .offStateTestComplete .. => 0x2000000000004001800000000007400008000310004c0d00000006e0007cc1d9f0a4b33ff00800000000000000080010014020004000200000100022981a0201000100e000000000540
  | .logicImageRestore => 0x69a7a1000000000000000000000000000000000000000000000000000000000000000000400000000000000000000000000004000035b00000000000000000000000000000000100
  | .modStart .. => 0x140239ebbfa1881530d81007e208007454c4c10e73ff77c0f0009df9ee8007ccfdffefcb37f730ffe7003ffffffffffffffffffffffffffffffffffffffffffffffffffffffffffffff5d4
  | .modStop .. => 0x1402396bbfa1881530d810050008007454c4c10e73ff77c0f0009df9ee8007ccfdffefcb37f730ffe7003ffffffffffffffffffffffffffffffffffffffffffffffffffffffffffffff5d4
  | .serviceRelease .. => 0x1402396bbfa1881530d810050008007454c4c10e73ff77c0f0009df9ee8007ccfdffefcb37f730ffe7003ffffffffffffffffffffffffffffffffffffffffffffffffffffffffffffff5d4
  | .startStage .. => 0x1402396bbfa1881530d810050008007454c4c10e73ff77c0f0009df9ee8007ccfdffefcb37f730ffe7003ffffffffffffffffffffffffffffffffffffffffffffffffffffffffffffff5d4
  | .stopStage .. => 0x1402396bbfa1881530d810050008007454c4c10e73ff77c0f0009df9ee8007ccfdffefcb37f730ffe7003ffffffffffffffffffffffffffffffffffffffffffffffffffffffffffffff5d4
  | .resetSafe .. => 0x1402396bbfa1881530d810050008007454c4c10e73ff77c0f0009df9ee8007ccfdffefcb37ff30ffe7003ffffffffffffffffffffffffffffffffffffffffffffffffffffffffffffff5d4
  | .stageLimitExit .. => 0x200000000000000000000000000000000000000000000000000000000000000000000000400
  | .chargeTimeout => 0x20000000000000000000000000004000000000000000000000000000000000000000100
  | .stopTimeout => 0x10000000000000000000000000004000000000000000000000000000000000000000100
  | .pierDispatch .. => 0x1827000000080040018100014c8007442828000f3ff7ff0f8f89dfbff8f07fdffffffcbf7e70003171c3ffffffffffffffffffffffffffffffffffffffffffffffffffffffffffffff5c4
  | .xvRampEnd .. => 0x70000000000000000000000000000000000000000000000000000000000000000000000000100000000000000000000000000000000
  | .gflParamHoldClear .. => 0x14003800000000000000000000000000000000000000000000000000000000000000000000000000000000000000000000000002001400900000010020000000000000000000000000014c
  | .anchorInstant .. => 0x3800000000000000000000000000000010000000004000000000000000000000000000000000000000100
  | .claimSlotReached .. => 0x400080000000000000000800030f80300100000018000000000f1ffdf358200000000000000000000011255020004000000000000020981000010001000000000000500
  | .claimHoldoffExpiry .. => 0x400080000000000000000800030f80300100000018000000000f1ffdf358200000000000000000000011255020004000000000000020981000010001000000000000500
  | .contactorCloseTimeout .. => 0x2000000000004001800000000007400008000310000c0d00000006e0007cc1d9f0a4b33e700000000000000000080010014020004000200000100020981a0201000100e000000000140
  | .rampTimeout .. => 0x2000000000004001800000000007400008000310000c0d00000006e0007cc1d9f0a4b33e700000000000000000080010014020004000200000100020981a0201000100e000000000140
  | .syncDwellExpiry .. => 0x40008000000000000000000000000000000000000000000000000101f000000000000000000000000010015000004000000000000000000000010000000000000000100
  | .syncTimeout .. => 0x2000000000004001800000000007400008000310000c0d00000006e0007cc1d9f0a4b33e700000000000000000080010014020004000200000100020981a0201000100e000000000140
  | .syncLineDeadTimeout .. => 0x4001800000000000000008000310004c0d00000006e0007cc1d9f0a4b328200000000000000000080010014020004000000000100020981202010000000000000000500
  | .joinGlideEnd .. => 0x100000000000000000060000000000000000000000000000000000000000000000000000000000000000000000000000000000
  | .tieClose .. => 0x1400380000000004000800000000000000000000000000000000000000000000018016c8000000000000000000000000010015000004009000000000000000000010000000000000000140
  | .tieOpen .. => 0x140038000000000400080000000000000000000000000000000000000000000000000248000000000000000000000000010014000000009000000000000000000010000000000000000040
  | .rideEndTimeout .. => 0x4f8000000000000000000000000000000000000000004000000000000000000200000000000000000000100
  | .faultBudgetExhausted .. => 0x2000000000004001800000000007400008000310000c0d00000006e0007ccfd9f0a4b33e700020000000000000080010014020004000200000100020981a4201000100e000000000140
  | .inputLossDc .. => 0x800030000000000000000071f80000000000000000000000000000000000000000000004000000000000020800201000000000000000000140
  | .inputLossAc .. => 0x800030000000000000000071f80000000000000000000000000000000000000000000004000000000000020800201000000000000000000140
  | .inputReturnConfirm .. => 0x280000000000000000000000000000000000000000000004000000000000000000208000000000000000000100
  | .inputRampComplete .. => 0x200185c800000000000000000000000000000000000000000004000000000000000000200000000000000000000140
  | .coastReleaseEnd .. => 0x100000000000030000000000000000000000000000000000000000000000000000000000000000002000000000000000000000
  | .coastLinkLowTimeout .. => 0x20000000000000000000000000004000000000000000000000000000000000000000100
  | .coastMaxTimeout .. => 0x20000000000000000000000000004000000000000000000000000000000000000000100
  | .inputPllHoldExpiry .. => 0x20000000000000000000000000000000000000000000000004000000000000000000000000000000000000000100
  | .inputZeroCrossing .. => 0x7e000000000000000000000000000000000000000000000004000000000000000000214000000000000000000100
  | .surveyRoundStart .. => 0x8000006c000000000000000000000000000000000000080000000000000000000000000000000000000000000000000000000
  | .surveyRoundComplete .. => 0x8007ff84000000000000000000000000000000000003fffd000000000040000000000000000000000000000000000000001c0
  | .adaptOffsetRampEnd .. => 0x1800000000000000000000000000000000000000000000000000000000000000000000000000000000000000000000000
  | .canaryAct .. => 0x60200000000000000000000000000000000000000000080000000000004000000000000000000000000000000000000000100
  | .pierCommit .. => 0x1827000000080040018f00014c8007442028000f1f876d8f20000006e80e7cc1fff8a4b33e70003170c3d208000008001005402ea240e0601000fefc20981a0291303100e0000000001c0
  | .commandSetArrival .. => 0x200000000000400181000000000744202800031f864d8f00000006e0007cc1fff8a4b33e70000004001000000008001005402e004000600000100020981a0201000120e400000000140
  | .provisionalSetArrival .. => 0x10000000000000000000000000000000000000000000000000000000000000000000000000000000000000000000000000000000000000
  | .postCommit .. => 0x7fff000000000000c0a107800000000000000000000000000000000000000000800c00000214040000000000000001ffc000000000000000080001c4
  | .pierOverrun .. => 0x200000000000400181000000000744202800031f860d0d00000006e0007cc1fff8a4b33e70000000001000000008001005402e004000600000100020981a0201000100e000000000140
  | .bistRoundComplete .. => 0x1827000000080040018100014c8007440008000f100f0c0d00000006e8007cc1d9f0a4b33e70003170c3d00800000800100140200040e0601000100020981a0291303100e0000000001c0
  | .bistLate .. => 0x20004000000000000000000000000000000000000000100
  | .pieSelftest .. => 0x140038000000000000000000000000000000000000006000000000000000000000000000000000000000000000000000000000020000009000000000000000000000000000000000000040
  | .selftestComplete .. => 0x20000000000040019d8e3000000740000d800310020c0d00000006e0007cc1d9f0a4b33e700030700010000000080010014020004000600000100120981a0291000100e0000000001c0
  | .pieParamHoldClear .. => 0x14003800000000000000000000000000000000000000000000000000000000000000000000000000000000000000000000000002001400900000010020000000000000000000000000014c
  | .blockStateReset .. => 0x140038000000000000000000000000000000000000000000200000000000000000000000000000000000000000000000000000000000009000000000000000000000000000000000000040
  | .timebaseStart .. => 0x48000000000000000000000000000000000000000000000000000000000000000000000000000000000000000000080000000000000000
  | .sampleTrigger .. => 0x2000008000003000000000000000000000000000000000000000000000000000000000004000000000000000000000000000000000000000100
  | .reloadPoint .. => 0x2000000000004001800000000007440008000790011c0d00000006e8007cc1d9f0a4b33e700000000000000000080010014020004000200000100021f81a02013fa1f8e000003000144
  | .tbPeriodChange .. => 0x1400380000000000000000000000000000000000080000000000000000000000000000000000000000c0000000000000000000000004009000000000000000000000040000000000000140
  | .tbPhaseShift .. => 0x1400380000000000000000000000000000000000080000000000000000000000000000000000000000c0000000000000000000000004009000000000000000000000040000000000000140
  | .staticCtrlWrite .. => 0x140038000000000000000000000000000000000010000000000000000000000000000000000000000000000000000000000000000000009000000000000000000000000800000000000040
  | .delayLineRecal .. => 0x9000000000000000000000000000000000000000000000000000000000000000000004000000000000000000000000021000000000000100
  | .edgeHeartbeat => 0x206000000000000000000000000000000000000000000000000000000000000000000000000000000000000000000000000000000000000000
  | .triggerFire .. => 0x2000010000000000000000000000000000000000000000000000000000000000000002004000000000000000000000000000000400000000100
  | .rawOverrideEnable .. => 0x140038000000000000000000000000000000800e10000000000000000000000000000000000000000000000000000000000000000004009000000000020800000000023100000000000140
  | .rawOutputWrite .. => 0x140038000000000000000000000000000000800c1000000000000000000000000000000000000000000000000000000000000000000400900000000002080000000000d100000000000140
  | .tripSourceActive .. => 0x40008001d0001000000000000080000000000000000000000000000000000000000000000004000000000000020800000003031000000000000100
  | .tripSourceInactive .. => 0x180000000000000000000000000000000000000000000000000000000000000000000000000000000000000000002030000000000000000
  | .tripPeriodEnd .. => 0x4000800050001000000000000080000000000000000000000000000000000000000000000004000000000000020800000003021000000000000100
  | .tripFreeRunDecrement .. => 0x40000000000000000000000000000000000000000000000000000000000000000000000000000000000000000002020000000000000000
  | .tripGroupLatch .. => 0x2000000000004001800000000007440008000710000c0d00000006e0007cc1d9f0a4b33e700000000000000000080010014020004000200000100020981a02012c2100e000000000140
  | .tripGroupClear .. => 0x140038000000000000000000000000000000000040000000000000000000000000000000000000000000000000000000000000000004009000000000000000000002020000000000000140
  | .gdUvloEntry .. => 0x2000000000004001800000000007400008600310000c0d00000006e0007cc1d9f0a4b33e700000000000000000080010014020004000200000100160981a0201000100e000000000140
  | .gdUvloExit => 0x20000000000000000000000000000000000000000000000000000000000000000000004000000000000100000000000000000000000000100
  | .desatDetect .. => 0x200000000000400180000000000744000c000f10010c0d00000006e8007cc1d9f0a4b33e700000000000000000080010014020004000200000100021981a0201303100e000000000140
  | .softTurnoffSecondLevel .. => 0x400000000000000000000000000000000000000000000000000000000000000000000000000000000000000800000000000000000000000000
  | .millerClampEngage .. => 0xc00010000000000000000000000000000000000000000000000000000000000000000000000000000000020800000000000000000000000000
  | .clearDesat .. => 0x140038000000000000000000000000000000400080000000000000000000000000000000000000000000000000000000000000000004009000000000000800000002030000000000000140
  | .gdDiagCmd .. => 0x140038000000000000000000000000000000000000000000000000000000000000000000002000000000000000000000000000000000009000000000000000000000000000000000000040
  | .ackPulseReceived .. => 0x2000000000004001800000000007440008000f10010c0d00000006e8007cc1d9f0a4b33e700000000000000000080010014020004000200000100024981a0201303100e000000000140
  | .ackWindowExpiry .. => 0x2000000000004001800000000007440008000f10010c0d00000006e8007cc1d9f0a4b33e700000000000000000080010014020004000200000100024981a0201303100e000000000140
  | .headFaultDetect .. => 0x2000000000004001800000000007440008000f10010c0d00000006e8007cc1d9f0a4b33e700000000000000000080010014020004000200000100038981a0201303100e000000000140
  | .headCodeReceived .. => 0x800000000000000000000000000000000000000000000000000000000000000000000004000000000000010000000000000000000000000100
  | .clearPort .. => 0x140038000000000000000000000000000000800080000000000000000000000000000000000000000000000000000000000000000004009000000000020000000002030000000000000140
  | .acqTimerEvent .. => 0x3000000000000000000000000000000000000000000000000000000000000000000000004000000000000000000000000000000400000000100
  | .conversionComplete .. => 0x100000000000000006000000000000000000000000000000000000000000000000000000000000000000000004000000000000000000000000000001d03e04000104
  | .acqSelfCal .. => 0x140038000000000000000000000000000010000000000000000000000000000000000000000000000000000000000000000000000000009000000000000000000000000000800000000040
  | .acqDiag .. => 0x140038000000000000000000000000000020000000000000000000000000000000000000000000000000000000000000000000000000009000000000000000000000000000800000000040
  | .acqDiagComplete .. => 0x140038000000000000000000000000000026000000000000000000000000000000000000000000000000000000000080000000000004009000000000000000000000000000822800000140
  | .acqRestore .. => 0x140038000000000000000000000000000020000000000000000000000000000000000000000000000000000000000000000000000000009000000000000000000000000000800000000040
  | .trackingSample .. => 0x2000000000000000000000000000000000000000000000000000000000000000000000004000000000000000000000000000001000800000100
  | .substitutionApply .. => 0x6000080000000000000000000000000000000000000000000000000000000000000000004000000000000000000000002030000820800000100
  | .sdFault .. => 0x8000000000000000000000000000000000000000000000000000000000000000000000004000000000000000000000000000000a00000000100
  | .sdFaultEnd .. => 0xc000000000000000000000000000000000000000000000000000000000000000000000000000000000000000000000000000000a20000000000
  | .chainOutput .. => 0x40000000000000000000000000000000000000000000000000000000000000000000000040000000000000000000000000000008fc004000104
  | .bankSwitch .. => 0x140038000000000000000000000000000004000000000000000000000000000000000000000000000040000000000000000000000004009000000000000000000000000000000000000140
  | .bankFadeEnd .. => 0x4000000000000000000000000000000000000000000000000000000000000000000000000000000000000000000000000000000020000000000
  | .triggerHoldoffEnd .. => 0x38000000000000000000000000000000000000000000000000000000000000000000000000000000000000000000181000000000000000000000000
  | .triggerArm .. => 0x140038000000000000000000000000038000000000000000000000000000000000000000000000000000000000000000000000000000009000000000000181400000000000000000000040
  | .streamEnable .. => 0x140038000000000000000000000000340000000000000000000000000000000000000000000000000000000000000000000000000004009000000000000181400000000000000000000140
  | .datagramAgeTimeout .. => 0x740000000000000000000000000000000000000000000000000000000000000000000000000000000000000000000080800000000000000000000040
  | .galleryRead .. => 0x140038000000000000000000000000800000000000000000000000000000000000000000000000000000000000000000000000000000009000000000000000000000000000000000000040
  | .referenceLost .. => 0x2000000000004001800001408277400008000310000c0d00000006e0007cc1d9f0a4b33e7000200003d0080000080010014020004000600000100020981a0201000100e000000000140
  | .refHoldoverEnd .. => 0x2000000000004001800001400217400008000310000c0d00000006e0007cc1d9f0a4b33e700020000010080000080010014020004000600000100020981a0201000100e000000000140
  | .referenceFreqCheck .. => 0x20000000000040018000014082f7400008000310000c0d00000006e0007cc1d9f0a4b33e7000200003d00c0000080010014020004000600000100020981a0201000100e000000000140
  | .referenceHealthy .. => 0x2000000000004001800001400257400008000310000c0d00000006e0007cc1d9f0a4b33e700020000010080000080010014020004000600000100020981a0201000100e000000000140
  | .revertRef .. => 0x1402380000000004001800001400247400008000310000c0d00000006e0007cc1d9f0a4b33e700020000010080000080010014020004009600000100020981a0201000100e000000000140
  | .pllLock .. => 0x380000000000000000000000000000000000000000000000000000000c00081000000000000000004000000000000000000000000020000000000000100
  | .pllLossOfLock .. => 0x1827000000080040018100014c9807440008000f10070c0d00000006e8007cc1d9f0a4b33e70003170c3d00a00000800100140200040e0601000100020981a0291303100e0000000001c0
  | .pllRelockAttempt .. => 0x80000000000000000000000000000000000000000000000000000000000000000000000000000000000000000000000000000000000000000000000000
  | .pllRelockTimeout .. => 0x80000000000000000000000000000000000000000000000000000000000000000000000000000000000000000000000000000000000000000000000000
  | .netPllLoss => 0x8070000000000000000000000e000000000000000000000000000000000000018000010000000000003c00800000000100000000040e0000000000000000000000000000000000000100
  | .netPllRelockAttempt .. => 0x600000000000000000000000000000000000000000000000000000000000080000000000000000004000000000000000000000000000000000000000100
  | .clockMonitorCheck .. => 0x1827000000080040018100014c8377440008000f10070c0d00000006e8007cc1d9f0a4b33e70003170c3d00800000800100140200040e0601000100020981a0291303100e0000000001c0
  | .segmentUpdate .. => 0x8000000000000000000000000000000000000000000000000000000003c0080000000000000000000000000000000000000000000000000000000000000
  | .ptpSyncReceived .. => 0x8000000000000000000000000000000000000018000010000000000003c0086000000010000000004000000000000000000000000000000000000000100
  | .syncLossTimeout .. => 0x8000000000000000000000000000000000000018000010000000000003c0080000000010000000004000000000000000000000000000000000000000100
  | .ptpAnnounceReceived .. => 0x8000000000000000000000000000000000000000000000000000000003c0096000000000000000004000000000000000000000000000000000000000100
  | .announceReceiptTimeout .. => 0x8000000000000000000000000000000000000018000010000000000003c0094000000010000000004000000000000000000000000000000000000000100
  | .ptpDelayMessageReceived .. => 0x80000000000000000000000000000000000000000000000000000000000000a000000000000000000000000000000000000000000000000000000000040
  | .ptpSyncTransmit .. => 0x800000000000000000000000000000000000000000000000000000000000000000000000000000000000000000000000000000000000000000000000040
  | .stepNta .. => 0x1400380000000000000000000008000000000000000000000000000000000000018000010000000000003c0080000000010000000004009000000000000000000000000000000000000140
  | .stepNtb .. => 0x1400380000000000000000000008000000000000000000000000000000000000018000010000000000003c0080000000010000000004009000000000000000000000000000000000000140
  | .tcFrameForward .. => 0x100000000000000000000000000000000000000000000000000000000000040
  | .ttExchange .. => 0x2000000000004001800001408007400008000310000c0d00000006e0007cc1d9f0a4b33e7000200003d0080000080010014020004000600000100020981a0201000100e000000000140
  | .logicCycleBoundary .. => 0xcc87d583ffffffff881736fb1007f6c824f7d4f4c10efbff77c0f0009df9ee8007ccfdffffcb37ff30fff7cc3ffffffffffffffffffffffffffffffffffffffffffffffffffffffffffffff5fc
  | .logicHangTimeout => 0x1827000000080040018100014c8007440008000f10070c0d00000006e8007cc1d9f0a4b33e70003170c3d00800000800100140200040e0601000100020981a0291303100e0000000001c0
  | .hostTagWrite .. => 0x140038200000000000000000000000000000000000000000000000000000000000000000000000000000000000000000000000000004109400000000000000000000000000000000000140
  | .tagPeek .. => 0x14003a000000000000000000000000000000000000000000000000000000000000000000000000000000000000000000000000000004109400000000000000000000000000000000000140
  | .cyclePeriodWrite .. => 0x14023800000008040018100000080077d4848000730770c0f0009df86e8007ccfd9f0a4b33e7000007003ffffffffffffffffffffffffffffffffffffffffffffffffffffffffffffff1fc
  | .stationTelegramReceived .. => 0x400000000000000000000000000000000000000000000000000000000000000000000000000000000000000000000000000004004018000000000000000000000000000000000100
  | .stationDrop .. => 0x400000000000000000000000000000000000000000000000000000000000000000000000000000000000000000000000000004000012000000000000000000000000000000000100
  | .programStageBlock .. => 0x140038200018000000000000000000000000000000000000000000000000000000000000000000000000000000000000000000000004009021b00000000000000000000000000000000140
  | .programExchange .. => 0x140038080000000000000000000000000000000000000000000000000000000000000000000000000040000000000000000000000004109421b00000000000000000000000000000000140
  | .discardStaged .. => 0x140038000008000000000000000000000000000000000000000000000000000000000000000000000000000000000000000000000004109421b00000000000000000000000000000000140
  | .resetRetain .. => 0x140038100000000000000000000000000000000000000000000000000000000000000000000000000000000000000000000000000004109400000000000000000000000000000000000140
  | .snapshotReceived .. => 0x40000008007e000000000000000000000000000000000000000000000000000000000000000000000000000000000000000000000000d200021f0a000000000000000000000000000000100
  | .dictionaryWrite .. => 0xcc87d403fbfbbfb9881736fb1007f60824f7d4f4c10efbff77c0f0009df9ee8007ccfdffffcb37ff30ffe7c03ffffffffffffffffffffffffffffffffffffffffffffffffffffffffffffff5fc
  | .ownershipClaim .. => 0x1400380000000000000000000000000000000000000000000000000000000000000000000000000000000000000000000000000000041a9400000000000000000000000000000000000140
  | .ownershipForce .. => 0x1400380000000000000000000000000000000000000000000000000000000000000000000000000000000000000000000000000000041a9400000000000000000000000000000000000140
  | .ownershipRelease .. => 0x1400380000000000000000000000000000000000000000000000000000000000000000000000000000000000000000000000000000041a9400000000000000000000000000000000000140
  | .ownershipTimeout => 0x40a0000000000000000000000000000000000000100
  | .serviceChallengeRead .. => 0x1400780000000000000000000000000000008000100000000000000000000000000000000000000000000000000000000000000000000090000000000208000000000000000000000000c0
  | .serviceResponse .. => 0x1401f8000000000000000000000000000000000000000000000000000000000000000000000000000000000000000000000000000004189400000000000000000000000000000000000140
  | .serviceAccessTimeout .. => 0x20000000000000000000000000000000000000000000000000000000000000000000000000000000000000000000000000000000080000000000000000000000000000000000000000
  | .challengeBlockEnd .. => 0x100000000000000000000000000000000000000000000000000000000000000000000000000000000000000000000000000000000000000000000000000000000000000000000000000
  | .nmtStart .. => 0x200000000000000000000000000000000000000000000000000000000000000000000000000000000000000000000000000000000080000000000000000000000000000000000000000
  | .nmtStop .. => 0x200000000000000000000000000000000000000000000000000000000000000000000000000000000000000000000000000000000080000000000000000000000000000000000000000
  | .nmtEnterPreop .. => 0x200000000000000000000000000000000000000000000000000000000000000000000000000000000000000000000000000000000080000000000000000000000000000000000000000
  | .nmtResetNode .. => 0x2000000000000000000000000000000000000000000000000000000000000000000000000000000003ffffffffffffffffffffffffffffffffffffffffffffffffffffffffffffff060
  | .nmtResetComm .. => 0x2000000000000000000000000000000000000000000000000000000000000000000000000000000003ffffffffffffffffffffffffffffffffffffffffffffffffffffffffffffff060
  | .sdoRequest .. => 0xcc87d403fbfbbfb9881736fb1007f60824f7d4f4c10efbff77c0f0009df9ee8007ccfdffffcb37ff30ffe7c03ffffffffffffffffffffffffffffffffffffffffffffffffffffffffffffff5fc
  | .sdoTimeout .. => 0x140238000000000000000000000000000000000000000000000000000000000000000000000000000000000000000000000000000000009000000000000000000000000000000000000040
  | .rpdoReceived .. => 0xcc87d443fbfbbfb9881736fb1007f60824f7d4f4c10efbff77c0f0009df9ee8007ccfdffffcb37ff30ffe7c03ffffffffffffffffffffffffffffffffffffffffffffffffffffffffffffff5fc
  | .tpdoTransmit .. => 0x3800000000000000000000000000000000800010000000000000000000000000000000000000000000000000000000000000000000000000000000020800000000000000000000000040
  | .canSyncReceived .. => 0xcc87d47bfbfbbfb9881736fb1007f60824f7d4f4c10efbff77c0f0009df9ee8007ccfdffffcb37ff30ffe7c03ffffffffffffffffffffffffffffffffffffffffffffffffffffffffffffff5fc
  | .heartbeatProduce .. => 0x200000000000000000000000000000000000000000000000000000000000000000000000000000000000000000000000000000000000000000000000000000000000000000000000040
  | .heartbeatConsumerTimeout .. => 0x400000000000000000000000000000000000000000000000000000000000000000000000000000000000000000000000000000004000000000000000000000000000008000000000100
  | .canBusOff .. => 0x2000000000000000000000000000000000000000000000000000000000000000000000000000000000000000000000000000000040a2000000000000000000000000000000000000100
  | .canBusOffRecovery .. => 0x200000000000000000000000000000000000000000000000000000000000000000000000000000000000000000000000000000004082000000000000000000000000000000000000140
  | .svcOpen .. => 0x140010000000000000000000000000000000000000000000000000000000000000000000000000000000000000000000000000000004049000000000000000000000000000000000000140
  | .svcClose .. => 0x1400780000000000000000000000000000000000000000000000000000000000000000000000000000000000000000000000000000040e9000000000000000000000000000000000000140
  | .svcKeepalive .. => 0x140038000000000000000000000000000000000000000000000000000000000000000000000000000000000000000000000000000000009000000000000000000000000000000000000040
  | .svcRead .. => 0x1400780000000000000000000000000000008000100000000000000000000000000000000000000000000000000000000000000000000090000000000208000000000000000000000000c0
  | .svcWrite .. => 0xcc87d403fbfbbfb9881736fb1007f60824f7d4f4c10efbff77c0f0009df9ee8007ccfdffffcb37ff30ffe7c03ffffffffffffffffffffffffffffffffffffffffffffffffffffffffffffff5fc
  | .svcReadSeg .. => 0x1400780000000000000000000000000000008000100000000000000000000000000000000000000000000000000000000000000000000090000000000208000000000000000000000000c0
  | .svcWriteSeg .. => 0xcc87d403fbfbbfb9881736fb1007f60824f7d4f4c10efbff77c0f0009df9ee8007ccfdffffcb37ff30ffe7c03ffffffffffffffffffffffffffffffffffffffffffffffffffffffffffffff5fc
  | .svcSubscribe .. => 0x140038000000000000000000000000000000800010000000000000000000000000000000000000000000000000000000000000000000009000000000020800000000000000000000000040
  | .sessionTimeout .. => 0x700000000000000000000000000000000000000000000000000000000000000000000000000000000000000000000000000000040e0000000000000000000000000000000000000100
  | .processSetSend .. => 0x10000000000000000000000000000000800010000000000000000000000000000000000000000000000000000000000000000004010000000000020800000000000000000000000140
  | .spiFrameReceived .. => 0xcc87fc03fbfbbfb9881736fb1007f60824f7d4f4c10efbff77c0f0009df9ee8007ccfdffffcb37ff30ffe7c03ffffffffffffffffffffffffffffffffffffffffffffffffffffffffffffff5fc
  | .bypassOpen => 0x180700000000000000000000000000000000000000000000000000000000000000000000000000000000000000000000000000000040e0000000000000000000000000000000000000100
  | .ethLinkChange .. => 0x80700000000000000000000000000000000000000000000000000000000000000000000000000000000000000000000000000000040e0000000000000000000000000000000000000100
  | .arpRequest .. => 0x40
  | .icmpEchoRequest .. => 0x40
  | .storeParameters .. => 0xc00714003820000000000000000000000000000000000000000000000000000000000000000000000000000000000000000000000000000d209000000000000000000000000000000000000140
  | .restoreDefaults .. => 0x540038000000000000000000000000000000000000000000000000000000000000000000000000000000000000000000000000000004109400000000000000000000000000000000000140
  | .errorHistoryClear .. => 0x140038000000000000000000000000000000000000000000000000000000000000000000000000000000000000000000000000000004109400000000000000000000000006000000000140
  | .lockstepMismatch => 0x40c080000000000000000000000000000000000000000000000000000000000010700000000000000000014000004000000000000000000000910000000000000000100
  | .memoryMarchTest .. => 0x84000000000000000000000000000000000000000000000000000000000000010000000000000000000010000004000000000000000000000000000000000000000100
  | .supplyWindowFault .. => 0x4000000000000000000000000000000000000000000000000000000000000010000000000000000000010000004000000000000000000000000000000000000000100
  | .permissionEchoFault .. => 0x4000000000000000000000000000000000000000000000000000000000000010000000000000000000010000004000000000000000000000000000000000000000100
  | .resetDue => 0x10000004000000000000000000000000000000000000000100
  | .socCloseRequest .. => 0x400080000000000000000000000000000000000000000000000000000000000000000000000000000000015000004000000000000000000000010000000000000000100
  | .socOpenRequest .. => 0x400080000000000000000000000000000000000000000000000000000000000000000000000000000000014000000000000000000000000000010000000000000000000
  | .socSwitchTest .. => 0x400080000000000000000000000000000000000000000000000000000000000000000000000000000000014000000000000000000000000000010000000000000000000
  | .socTestPulseEnd .. => 0x404080000000000000000000000000000000000000000000000000000000000010000000000000000000015000004000000000000000000000010000000000000000100
  | .socCloseDiscrepancy .. => 0x400080000000000000000000000000000000000000000000000000000000000000000000000000000000014000004000000000000000000000010000000000000000100
  | .socOpenDiscrepancy .. => 0x404080000000000000000000000000000000000000000000000000000000000010000000000000000000014000004000000000000000000000010000000000000000100
  | .clearSoc .. => 0x140038000000000404080000000000000000000000000000000000000000000000000000000000000000000000000000000014000004009000000000000000000010000000000000000140
  | .socProofDue .. => 0x16000004000000000000000000000000000000000000000100
  | .ssdRampIncomplete .. => 0x2000000000004101800000000007400008000310004c0d00000006e0007cc1d9f0a4b33e700000700000000000080010014020004000200000100020981a0291000100e000000000540
  | .ssdPlausibilityFail .. => 0x2000000000004101800000000007400008000310000c0d00000006e0007cc1d9f0a4b33e700000700000000000080010014020004000200000100020981a0291000100e000000000140
  | .safetyUnitSend .. => 0x200000000000000000000000000000000000000000000000000000000000000000000000000000000000000000000000000000000000000000000000000000000040
  | .safetyUnitReceived .. => 0x2000000000004123800000000007400008000310004c0d00000006e0007cc1d9f0a4b33e700000700000000000080010034e20004000200000100020981a0291000100e000000000540
  | .connectionTimeout .. => 0x2000000000004123800000000007400008000310004c0d00000006e0007cc1d9f0a4b33e700000700000000000080010014820004000200000100020981a0291000100e000000000540
  | .pathTimeout .. => 0x200000000000000000000000000000000000000000000000000000000000000000000000000000000010800004000000000000000000000000000000000000000100
  | .restartConn .. => 0x1402380000000004123800000000007400008000310004c0d00000006e0007cc1d9f0a4b33e700000700000000000080010014820004009200000100020981a0291000100e000000000540
  | .cvuStart .. => 0x940038000000000000000000000000000000000000000000000000000000000000000000000000000000000000000000000000000000009000000000000000000000000040000000000040
  | .cvuFeed .. => 0x940038000000000000000000000000000000000000000000000000000000000000000000000000000000000000000000000000000000009000000000000000000000000000000000000040
  | .cvuFinish .. => 0x940038000000000000000000000000000000000000000000000000000000000000000000000000000000000000000000000000000004009000000000000000000000000070000000000140
  | .scrubStep .. => 0x300000000000000000000000000000000000000000000000000000000000000000000000000000010100003ffffffffffffffffffffffffffffffffffffffffffffffffffffffffffffff102
  | .scrubRoundLate .. => 0xc000000000000000000000000000000000000000100
  | .storeRequest .. => 0xc00700000000000000000000000000000000000000000000000000000000000000000000000000000000000000000000000000000000000d200000000000000000000000000000000000000100
  | .storeRetry .. => 0x1c00714003800000000000000000000000000000000000000000000000000000000000000000000000000000000000000000000000000000d209000000000000000000000000000000000000140
  | .storeComplete .. => 0x3ff7fffffffffff3bfffffffffffffffffffffffffffffffffffffffffffffffffffffffffffffffffbffffffffffffffffffffffffffffffffffffffffffffffffffffffffffffffffffffff7e
  | .logPageWrite .. => 0xc00700000000000000000000000000000000000000000000000000000000000000000000000000000000000000000000000000000000000d200000000000000000000000000000000000000100
  | .eventLogRead .. => 0x800140038000000000000000000000000000000000000000000000000000000000000000000000000000000000000000000000000000000009000000000000000000000000000000000000040
  | .commitVersion .. => 0x80140038000000000000000000000000000000000000000000000000000000000000000000000000000000000000000000000000000000009000000000000000000000000000000000000040
  | .imageWriteBlock .. => 0xc40714003800000000000000000000000000000000000000000000000000000000000000000000000000000000000000000000000000000d209000000000000000000000000000000000000140
  | .clauzLinkUp .. => 0x200800000800400180003f7c0007400008000310000c0d00000006e0007cc1d9f0a4b33e70002000001d000000080010014020004000621b00100020981a0201000100e0000000001c0
  | .clauzLinkDown => 0x20000000000040018000014c8007400008000310000c0d00000006e0007cc1d9f0a4b33e7000200003d0080000080010014020004000600000100020981a0201000100e000000000140
  | .clauzLaneLost .. => 0xc000000000000000000000000000000000000000000000000000000000010000000000000000000004000400000000000000000000000000000000000100
  | .pairLockRegained .. => 0x1c000000000100000c000000000000000000000000000000000000000000010200000000000000000004000400000000000000000000000000000000000100
  | .partnerWindowAccess .. => 0x140038000000000000000000000000000000000000000000000000000000000000000000000000000000000000000000000000000000009000000000000000000000000000000000000040
  | .forwardedWrite .. => 0xcc87d403fbfbbfb9881736fb1007f60824f7d4f6c10efbff77c0f0009df9ee8107ccffffffcb37ff30ffe7f03ffffffffffffffffffffffffffffffffffffffffffffffffffffffffffffff5fc
  | .xcheckFail .. => 0x380000000000000000000000000000000000000000000000000000000000000010000000000000000000004000400000000000000000000000000000000000100
  | .xcheckClear => 0x180000000000000000000000000000000000000000000000000000000000000010000000000000000000000000400000000000000000000000000000000000000
  | .digestReceived .. => 0xf000000000000000000000006000000000000000000000000000000000000000012000000000000000020004000400000000000000000000000000000000000140
  | .arbitrationVerdictReceived .. => 0x20000000000040019d8e3000000740000d800310000c0d00000006e0007cc1d9f0a4b33e700030700010000000080010014020004000600000100120981a0291000100e0000000001c0
  | .arbitrationTimeout => 0x20000000000040019d8e3000000740000d800310000c0d00000006e0007cc1d9f0a4b33e700030700010000000080010014020004000600000100120981a0291000100e0000000001c0
  | .claimInChange .. => 0x18238008000000580ff800000000002d800100000000000000000000000000000000000000000000100000000000000000000040a0421b00000120800000000000000000000000140
  | .autoClaim => 0x18238008000000580e7800000000002d800100000000000000000000000000000000000000000000304000000000000000000040a0421b00000120800000000000000000000000140
  | .noHolderTimeout .. => 0xd80010000000000000000000000000000000000000000000000000000000000000000004000000000000120800000000000000000000000100
  | .returnHoldoffEnd => 0x18000000000000000000000000000000000000000000000000000000000000000010000000000000000000000000400000000000000000000000000000000000040
  | .handoverCmd .. => 0x140038000000000000010000000000000000000000000000000000000000000000000000000000000000010000000000000000000004109400000000000000000000000000000000000140
  | .handoverPass => 0x18238008000000580e7800000000002d800100000000000000000000000000000000000000000000100000000000000000000040a0421b00000120800000000000000000000000140
  | .diStateChange .. => 0x200000000000511d80000000000740000800031f803c0d0000001ee0007cc1dffea6b37e700020700000000000080011257020004000600000100020981a0297000100e000000000540
  | .diLineFault .. => 0x200000000000511d80000000000740000800031f803c0d0000001ee0007cc1dffea6b37e700020700000000000080011257020004000600000100020981a0297000100e000000000540
  | .diLineFaultEnd .. => 0x200000000000511d80000000000740000800031f803c0d0000001ee0007cc1dffea6b37e700020700000000000080011257020004000600000100020981a0297000100e000000000540
  | .fieldOutputCommand .. => 0x200000000000000000000000000000000000000000000000000000000000000000000000000000000000000000004000000000000000000000500000000000000000100
  | .doOverload .. => 0x200000000000000000000000000000000000000000000000000000000000000000000000000000000000000000004000000000000000000000180000000000000000100
  | .doOpenWire .. => 0x4000000000000000000000180000000000000000100
  | .doOpenWireClear .. => 0x180000000000000000000
  | .doOverTemp .. => 0x200000000000000000000000000000000000000000000000000000000000000000000000000000000000000000004000000000000000000000100000000000000000100
  | .doOverTempEnd .. => 0x200000000000000000000000000000000000000000000000000000000000000000000000000000000000000000000000000000000000000000100000000000000000000
  | .field24Fault .. => 0xc00000000000000000000000000000000000000000000000000000000000000000000000000000000000000000004000000000000000000000910000000000000000100
  | .field24Restored .. => 0xc00000000000000000000000000000000000000000000000000000000000000000000000000000000000000000004000000000000000000000910000000000000000100
  | .contactorDriverCommand .. => 0x400000000000000000000000000000000000000000000000000000000000000000000000000000000000000000004000000000000000000000418000000000000000100
  | .cdOvercurrent .. => 0x400080000000000000000000000000000000000000000000000000000000000000000000000000000000014000004000000000000000000000014000000000000000100
  | .cdClear .. => 0x140038000000000400000000000000000000000000000000000000000000000000000000000000000000000000000000000000000000009000000000000000000010000000000000000040
  | .cdOpenCoil .. => 0x4000000000000000000000014000000000000000100
  | .cdOpenCoilEnd .. => 0x14000000000000000000
  | .cdReadbackMismatch .. => 0x4000000000000000000000010000000000000000100
  | .fieldForce .. => 0x140038000000001600000000000000000000000000000000000000000000000000000000000000000000000000000000000000000000009000000000000000000b10000000000000000040
  | .auxHighStart => 0x2000000000000000000000000000000000000000000000000000000000000000000000000000020000000000000000000000000000000000000000000000000000000000
  | .auxHighEnd .. => 0x2000000000000000000000000000000000000000000000000000000000000000000000000000020000000000000004000000000000000000000000000000000000000100
  | .auxInterruptionStart .. => 0xc00700000000000000c00000000000000000000000000000000000000000000000000000000000000000000000000002400000000000000d200000000000000000000000000000000000000100
  | .auxInterruptionEnd .. => 0xb4000000000000000000000000000000000000000000000000000000000000000000000000000028000000000000004000000000000000000000000000000000000000100
  | .auxStopLevel .. => 0x3cf0fffffffffff3bfffffffffffffffffffffffffffffffffffffffffffffffffffffffffffffffffbffffffffffffffffffffffffffffffffffffffffffffffffffffffffffffffffffffff3e
  | .supplyShed => 0x80700000000100000000000000000000000000000000000000000000000000000000000000000000000000000200000000000000040e0000000000000000000000000000000000000100
  | .gdLimitEntry .. => 0x40000000000000000000000000000000000000000000000000000000000000000000000000000020000000000000004000000000000100000000000000000000000000100
  | .gdLimitExit .. => 0x40000000000000000000000000000000000000000000000000000000000000000000000000000020000000000000004000000000000100000000000000000000000000100
  | .housekeepingRound .. => 0x700000000000000000000000000000000000000000000000000000000000000080010000000000ff0000000000000004000400000000040000000800000000000000000100
  | .resetInputAssert => 0x3cf0fffffffffff3bff3fffffffffffffffffffffffffffffffffffffffffffffffffffffffffffff7dfffffffffffffffffffffffffffffffffffffffffffffffffffffffffffffffffffffd3e
  | .resetInputRelease => 0x4000000000000000000000000000000000000000000000000000000000000000000000000
  | .housekeepingDataLoss => 0x200000000000000000000000000000000000000000000000000000000000000080010000000000340000000000000004000000000000000000000000000000000000000100
  | .contactorEnableReturn => 0x400000000000000000000000000000000000000000000000000000000000000000800000000000000000000000000000000000000000000000910000000000000000000
  | .claimHoldLapse => 0x64000000000000d80010000000000000000000000000000000000000000000010000000000000000000000000400000000120800000000000000000000000000
  | .clauzLaneRegained .. => 0xc000000000000000000000000000000000000000000000000000000000010000000000000000000004000400000000000000000000000000000000000100
  | .ptpAnnounceTransmit .. => 0x800000000000000000000000000000000000000000000000000000000000000000000000000000000000000000000000000000000000000000000000040
  | .ptpDelayRequestTransmit .. => 0x800000000000000000000000000000000000000000000000000000000000000000000000000000000000000000000000000000000000000000000000040
  | .heartbeatReceived .. => 0x400000000000000000000000000000000000000000000000000000000000000000000000000000000000000000000000000000000000000000000000000000000000000000000000000
  | .spiResponseRead .. => 0x40000000000000000000000000000000000000000000000000000000000000000000000000000000000000000000000000000000000000000000000000000000000000000000000000040
  | .switchFrameForward .. => 0x20000000000000000000000000000000000000000000000000000000000000000000000000000000000000000000000000000000000000000000000000000000000000000000000000040

/-- Every command keeps what its footprint leaves out, the invariant, and the numbering of the log. -/
theorem keeps_exec : (c : Instr) → (s : State) → KeepsR (footprint c) s (exec c s)
  | .timeBroadcast dev, s_ => keeps_execTimeBroadcast dev s_
  | .jointWordArrival src dst poisoned w, s_ => keeps_execJointWordArrival src dst poisoned w s_
  | .commandArrival c, s_ => keeps_execCommandArrival c s_
  | .effectiveInstantReached dst, s_ => keeps_execEffectiveInstantReached dst s_
  | .islandFence isl why, s_ => keeps_execIslandFence isl why s_
  | .safePatternApply g, s_ => keeps_execSafePatternApply g s_
  | .safePatternLeave g, s_ => keeps_execSafePatternLeave g s_
  | .contactorEnableLapse, s_ => keeps_execContactorEnableLapse s_
  | .modeTick t, s_ => keeps_execModeTick t s_
  | .auxPowerUp, s_ => keeps_execAuxPowerUp s_
  | .aditEntry absence primary, s_ => keeps_execAditEntry absence primary s_
  | .aditPllTimeout, s_ => keeps_execAditPllTimeout s_
  | .imageVerified imgA imgB progOk, s_ => keeps_execImageVerified imgA imgB progOk s_
  | .surveyConfigLoad dictionary backup, s_ => keeps_execSurveyConfigLoad dictionary backup s_
  | .selfCalComplete readings, s_ => keeps_execSelfCalComplete readings s_
  | .holdupCheckComplete microF volts link, s_ => keeps_execHoldupCheckComplete microF volts link s_
  | .deferredDiagStart n, s_ => keeps_execDeferredDiagStart n s_
  | .offStateTestComplete n r, s_ => keeps_execOffStateTestComplete n r s_
  | .logicImageRestore, s_ => keeps_execLogicImageRestore s_
  | .modStart w, s_ => keeps_ownModStart w s_
  | .modStop w, s_ => keeps_ownModStop w s_
  | .serviceRelease w, s_ => keeps_ownServiceRelease w s_
  | .startStage n w, s_ => keeps_ownStartStage n w s_
  | .stopStage n w, s_ => keeps_ownStopStage n w s_
  | .resetSafe n w, s_ => keeps_ownResetSafe n w s_
  | .stageLimitExit n, s_ => keeps_execStageLimitExit n s_
  | .chargeTimeout, s_ => keeps_execChargeTimeout s_
  | .stopTimeout, s_ => keeps_execStopTimeout s_
  | .pierDispatch p smp, s_ => keeps_execPierDispatch p smp s_
  | .xvRampEnd n, s_ => keeps_execXvRampEnd n s_
  | .gflParamHoldClear n w, s_ => keeps_execGflParamHoldClear n w s_
  | .anchorInstant n, s_ => keeps_execAnchorInstant n s_
  | .claimSlotReached n, s_ => keeps_execClaimSlotReached n s_
  | .claimHoldoffExpiry n, s_ => keeps_execClaimHoldoffExpiry n s_
  | .contactorCloseTimeout n, s_ => keeps_execContactorCloseTimeout n s_
  | .rampTimeout n, s_ => keeps_execRampTimeout n s_
  | .syncDwellExpiry n, s_ => keeps_execSyncDwellExpiry n s_
  | .syncTimeout n, s_ => keeps_execSyncTimeout n s_
  | .syncLineDeadTimeout n, s_ => keeps_execSyncLineDeadTimeout n s_
  | .joinGlideEnd n, s_ => keeps_execJoinGlideEnd n s_
  | .tieClose n w, s_ => keeps_execTieClose n w s_
  | .tieOpen n w, s_ => keeps_execTieOpen n w s_
  | .rideEndTimeout n, s_ => keeps_execRideEndTimeout n s_
  | .faultBudgetExhausted n, s_ => keeps_execFaultBudgetExhausted n s_
  | .inputLossDc n rd, s_ => keeps_execInputLossDc n rd s_
  | .inputLossAc n vin, s_ => keeps_execInputLossAc n vin s_
  | .inputReturnConfirm n, s_ => keeps_execInputReturnConfirm n s_
  | .inputRampComplete n, s_ => keeps_execInputRampComplete n s_
  | .coastReleaseEnd n, s_ => keeps_execCoastReleaseEnd n s_
  | .coastLinkLowTimeout n, s_ => keeps_execCoastLinkLowTimeout n s_
  | .coastMaxTimeout n, s_ => keeps_execCoastMaxTimeout n s_
  | .inputPllHoldExpiry n, s_ => keeps_execInputPllHoldExpiry n s_
  | .inputZeroCrossing n z, s_ => keeps_execInputZeroCrossing n z s_
  | .surveyRoundStart n, s_ => keeps_execSurveyRoundStart n s_
  | .surveyRoundComplete n instant, s_ => keeps_execSurveyRoundComplete n instant s_
  | .adaptOffsetRampEnd n, s_ => keeps_execAdaptOffsetRampEnd n s_
  | .canaryAct n j, s_ => keeps_execCanaryAct n j s_
  | .pierCommit p word, s_ => keeps_execPierCommit p word s_
  | .commandSetArrival frame, s_ => keeps_execCommandSetArrival frame s_
  | .provisionalSetArrival frame, s_ => keeps_execProvisionalSetArrival frame s_
  | .postCommit p total, s_ => keeps_execPostCommit p total s_
  | .pierOverrun p, s_ => keeps_execPierOverrun p s_
  | .bistRoundComplete p pass, s_ => keeps_execBistRoundComplete p pass s_
  | .bistLate p duration, s_ => keeps_execBistLate p duration s_
  | .pieSelftest p w, s_ => keeps_execPieSelftest p w s_
  | .selftestComplete p failing, s_ => keeps_execSelftestComplete p failing s_
  | .pieParamHoldClear p w, s_ => keeps_execPieParamHoldClear p w s_
  | .blockStateReset p inst w, s_ => keeps_execBlockStateReset p inst w s_
  | .timebaseStart tb, s_ => keeps_execTimebaseStart tb s_
  | .sampleTrigger tb, s_ => keeps_execSampleTrigger tb s_
  | .reloadPoint tb peak, s_ => keeps_execReloadPoint tb peak s_
  | .tbPeriodChange tb period inst w, s_ => keeps_execTbPeriodChange tb period inst w s_
  | .tbPhaseShift tb delta inst w, s_ => keeps_execTbPhaseShift tb delta inst w s_
  | .staticCtrlWrite ch ctrl w, s_ => keeps_execStaticCtrlWrite ch ctrl w s_
  | .delayLineRecal failing, s_ => keeps_execDelayLineRecal failing s_
  | .edgeHeartbeat, s_ => keeps_execEdgeHeartbeat s_
  | .triggerFire ch t, s_ => keeps_execTriggerFire ch t s_
  | .rawOverrideEnable on w, s_ => keeps_execRawOverrideEnable on w s_
  | .rawOutputWrite low mask w, s_ => keeps_execRawOutputWrite low mask w s_
  | .tripSourceActive rd, s_ => keeps_execTripSourceActive rd s_
  | .tripSourceInactive rd, s_ => keeps_execTripSourceInactive rd s_
  | .tripPeriodEnd g, s_ => keeps_execTripPeriodEnd g s_
  | .tripFreeRunDecrement g, s_ => keeps_execTripFreeRunDecrement g s_
  | .tripGroupLatch g, s_ => keeps_execTripGroupLatch g s_
  | .tripGroupClear g w, s_ => keeps_execTripGroupClear g w s_
  | .gdUvloEntry rd, s_ => keeps_execGdUvloEntry rd s_
  | .gdUvloExit, s_ => keeps_execGdUvloExit s_
  | .desatDetect rd, s_ => keeps_execDesatDetect rd s_
  | .softTurnoffSecondLevel d, s_ => keeps_execSoftTurnoffSecondLevel d s_
  | .millerClampEngage rd, s_ => keeps_execMillerClampEngage rd s_
  | .clearDesat d w, s_ => keeps_execClearDesat d w s_
  | .gdDiagCmd n w, s_ => keeps_execGdDiagCmd n w s_
  | .ackPulseReceived p ns, s_ => keeps_execAckPulseReceived p ns s_
  | .ackWindowExpiry p, s_ => keeps_execAckWindowExpiry p s_
  | .headFaultDetect rd, s_ => keeps_execHeadFaultDetect rd s_
  | .headCodeReceived p code, s_ => keeps_execHeadCodeReceived p code s_
  | .clearPort p dark w, s_ => keeps_execClearPort p dark w s_
  | .acqTimerEvent t, s_ => keeps_execAcqTimerEvent t s_
  | .conversionComplete c raw, s_ => keeps_execConversionComplete c raw s_
  | .acqSelfCal w, s_ => keeps_execAcqSelfCal w s_
  | .acqDiag c w, s_ => keeps_execAcqDiag c w s_
  | .acqDiagComplete r, s_ => keeps_execAcqDiagComplete r s_
  | .acqRestore c w, s_ => keeps_execAcqRestore c w s_
  | .trackingSample c m, s_ => keeps_execTrackingSample c m s_
  | .substitutionApply c, s_ => keeps_execSubstitutionApply c s_
  | .sdFault k stream, s_ => keeps_execSdFault k stream s_
  | .sdFaultEnd rd, s_ => keeps_execSdFaultEnd rd s_
  | .chainOutput c bits, s_ => keeps_execChainOutput c bits s_
  | .bankSwitch c inst w, s_ => keeps_execBankSwitch c inst w s_
  | .bankFadeEnd c, s_ => keeps_execBankFadeEnd c s_
  | .triggerHoldoffEnd p, s_ => keeps_execTriggerHoldoffEnd p s_
  | .triggerArm p w, s_ => keeps_execTriggerArm p w s_
  | .streamEnable p w, s_ => keeps_execStreamEnable p w s_
  | .datagramAgeTimeout p, s_ => keeps_execDatagramAgeTimeout p s_
  | .galleryRead p k w, s_ => keeps_execGalleryRead p k w s_
  | .referenceLost rd, s_ => keeps_execReferenceLost rd s_
  | .refHoldoverEnd r, s_ => keeps_execRefHoldoverEnd r s_
  | .referenceFreqCheck dev step, s_ => keeps_execReferenceFreqCheck dev step s_
  | .referenceHealthy r, s_ => keeps_execReferenceHealthy r s_
  | .revertRef w, s_ => keeps_execRevertRef w s_
  | .pllLock rd, s_ => keeps_execPllLock rd s_
  | .pllLossOfLock rd, s_ => keeps_execPllLossOfLock rd s_
  | .pllRelockAttempt p, s_ => keeps_execPllRelockAttempt p s_
  | .pllRelockTimeout p, s_ => keeps_execPllRelockTimeout p s_
  | .netPllLoss, s_ => keeps_execNetPllLoss s_
  | .netPllRelockAttempt locks, s_ => keeps_execNetPllRelockAttempt locks s_
  | .clockMonitorCheck islands rc, s_ => keeps_execClockMonitorCheck islands rc s_
  | .segmentUpdate b, s_ => keeps_execSegmentUpdate b s_
  | .ptpSyncReceived b m, s_ => keeps_execPtpSyncReceived b m s_
  | .syncLossTimeout b, s_ => keeps_execSyncLossTimeout b s_
  | .ptpAnnounceReceived b m, s_ => keeps_execPtpAnnounceReceived b m s_
  | .announceReceiptTimeout b, s_ => keeps_execAnnounceReceiptTimeout b s_
  | .ptpDelayMessageReceived b m, s_ => keeps_execPtpDelayMessageReceived b m s_
  | .ptpSyncTransmit b, s_ => keeps_execPtpSyncTransmit b s_
  | .stepNta w, s_ => keeps_execStepNta w s_
  | .stepNtb w, s_ => keeps_execStepNtb w s_
  | .tcFrameForward toE2 frame residence linkDelay, s_ => keeps_execTcFrameForward toE2 frame residence linkDelay s_
  | .ttExchange primary boot, s_ => keeps_execTtExchange primary boot s_
  | .logicCycleBoundary run, s_ => keeps_execLogicCycleBoundary run s_
  | .logicHangTimeout, s_ => keeps_execLogicHangTimeout s_
  | .hostTagWrite tag v w, s_ => keeps_ownHostTagWrite tag v w s_
  | .tagPeek tag w, s_ => keeps_ownTagPeek tag w s_
  | .cyclePeriodWrite ms w, s_ => keeps_ownCyclePeriodWrite ms w s_
  | .stationTelegramReceived st counter data, s_ => keeps_execStationTelegramReceived st counter data s_
  | .stationDrop st, s_ => keeps_execStationDrop st s_
  | .programStageBlock last w, s_ => keeps_execProgramStageBlock last w s_
  | .programExchange w, s_ => keeps_ownProgramExchange w s_
  | .discardStaged w, s_ => keeps_ownDiscardStaged w s_
  | .resetRetain w, s_ => keeps_ownResetRetain w s_
  | .snapshotReceived image full lines hold, s_ => keeps_execSnapshotReceived image full lines hold s_
  | .dictionaryWrite key v w earlier later, s_ => keeps_execDictionaryWrite key v w earlier later s_
  | .ownershipClaim w, s_ => keeps_ownOwnershipClaim w s_
  | .ownershipForce w, s_ => keeps_ownOwnershipForce w s_
  | .ownershipRelease w, s_ => keeps_ownOwnershipRelease w s_
  | .ownershipTimeout, s_ => keeps_execOwnershipTimeout s_
  | .serviceChallengeRead w, s_ => keeps_execServiceChallengeRead w s_
  | .serviceResponse signature w, s_ => keeps_ownServiceResponse signature w s_
  | .serviceAccessTimeout w, s_ => keeps_execServiceAccessTimeout w s_
  | .challengeBlockEnd port, s_ => keeps_execChallengeBlockEnd port s_
  | .nmtStart c, s_ => keeps_execNmtStart c s_
  | .nmtStop c, s_ => keeps_execNmtStop c s_
  | .nmtEnterPreop c, s_ => keeps_execNmtEnterPreop c s_
  | .nmtResetNode c, s_ => keeps_execNmtResetNode c s_
  | .nmtResetComm c, s_ => keeps_execNmtResetComm c s_
  | .sdoRequest c r, s_ => keeps_execSdoRequest c r s_
  | .sdoTimeout c, s_ => keeps_execSdoTimeout c s_
  | .rpdoReceived i data, s_ => keeps_execRpdoReceived i data s_
  | .tpdoTransmit i, s_ => keeps_execTpdoTransmit i s_
  | .canSyncReceived c, s_ => keeps_execCanSyncReceived c s_
  | .heartbeatProduce c, s_ => keeps_execHeartbeatProduce c s_
  | .heartbeatConsumerTimeout e, s_ => keeps_execHeartbeatConsumerTimeout e s_
  | .canBusOff c, s_ => keeps_execCanBusOff c s_
  | .canBusOffRecovery rd, s_ => keeps_execCanBusOffRecovery rd s_
  | .svcOpen port seq, s_ => keeps_execSvcOpen port seq s_
  | .svcClose h, s_ => keeps_execSvcClose h s_
  | .svcKeepalive h, s_ => keeps_execSvcKeepalive h s_
  | .svcRead h key, s_ => keeps_execSvcRead h key s_
  | .svcWrite h key v, s_ => keeps_execSvcWrite h key v s_
  | .svcReadSeg h key offset, s_ => keeps_execSvcReadSeg h key offset s_
  | .svcWriteSeg h key offset bytes last v, s_ => keeps_execSvcWriteSeg h key offset bytes last v s_
  | .svcSubscribe h set ms keys, s_ => keeps_execSvcSubscribe h set ms keys s_
  | .sessionTimeout session, s_ => keeps_execSessionTimeout session s_
  | .processSetSend port session set, s_ => keeps_execProcessSetSend port session set s_
  | .spiFrameReceived crcOk seq r, s_ => keeps_execSpiFrameReceived crcOk seq r s_
  | .bypassOpen, s_ => keeps_execBypassOpen s_
  | .ethLinkChange p up speed, s_ => keeps_execEthLinkChange p up speed s_
  | .arpRequest port ip, s_ => keeps_execArpRequest port ip s_
  | .icmpEchoRequest port data, s_ => keeps_execIcmpEchoRequest port data s_
  | .storeParameters hold w, s_ => keeps_execStoreParameters hold w s_
  | .restoreDefaults w, s_ => keeps_ownRestoreDefaults w s_
  | .errorHistoryClear w, s_ => keeps_ownErrorHistoryClear w s_
  | .lockstepMismatch, s_ => keeps_execLockstepMismatch s_
  | .memoryMarchTest pass, s_ => keeps_execMemoryMarchTest pass s_
  | .supplyWindowFault rail ticks, s_ => keeps_execSupplyWindowFault rail ticks s_
  | .permissionEchoFault rd, s_ => keeps_execPermissionEchoFault rd s_
  | .resetDue, s_ => keeps_execResetDue s_
  | .socCloseRequest i, s_ => keeps_execSocCloseRequest i s_
  | .socOpenRequest i, s_ => keeps_execSocOpenRequest i s_
  | .socSwitchTest i, s_ => keeps_execSocSwitchTest i s_
  | .socTestPulseEnd i followed, s_ => keeps_execSocTestPulseEnd i followed s_
  | .socCloseDiscrepancy i, s_ => keeps_execSocCloseDiscrepancy i s_
  | .socOpenDiscrepancy i, s_ => keeps_execSocOpenDiscrepancy i s_
  | .clearSoc i testsPass w, s_ => keeps_execClearSoc i testsPass w s_
  | .socProofDue i, s_ => keeps_execSocProofDue i s_
  | .ssdRampIncomplete n, s_ => keeps_execSsdRampIncomplete n s_
  | .ssdPlausibilityFail n held, s_ => keeps_execSsdPlausibilityFail n held s_
  | .safetyUnitSend c, s_ => keeps_execSafetyUnitSend c s_
  | .safetyUnitReceived named unit, s_ => keeps_execSafetyUnitReceived named unit s_
  | .connectionTimeout c, s_ => keeps_execConnectionTimeout c s_
  | .pathTimeout c fallback, s_ => keeps_execPathTimeout c fallback s_
  | .restartConn c w, s_ => keeps_execRestartConn c w s_
  | .cvuStart u w, s_ => keeps_execCvuStart u w s_
  | .cvuFeed u bytes w, s_ => keeps_execCvuFeed u bytes w s_
  | .cvuFinish u w, s_ => keeps_execCvuFinish u w s_
  | .scrubStep f, s_ => keeps_execScrubStep f s_
  | .scrubRoundLate mem seconds, s_ => keeps_execScrubRoundLate mem seconds s_
  | .storeRequest kind lines hold, s_ => keeps_execStoreRequest kind lines hold s_
  | .storeRetry hold, s_ => keeps_execStoreRetry hold s_
  | .storeComplete verified hold, s_ => keeps_execStoreComplete verified hold s_
  | .logPageWrite hold, s_ => keeps_execLogPageWrite hold s_
  | .eventLogRead seq w, s_ => keeps_execEventLogRead seq w s_
  | .commitVersion w, s_ => keeps_execCommitVersion w s_
  | .imageWriteBlock b hold w, s_ => keeps_execImageWriteBlock b hold w s_
  | .clauzLinkUp id lanes, s_ => keeps_execClauzLinkUp id lanes s_
  | .clauzLinkDown, s_ => keeps_execClauzLinkDown s_
  | .clauzLaneLost lane, s_ => keeps_execClauzLaneLost lane s_
  | .pairLockRegained phase, s_ => keeps_execPairLockRegained phase s_
  | .partnerWindowAccess op w, s_ => keeps_execPartnerWindowAccess op w s_
  | .forwardedWrite key v inst, s_ => keeps_execForwardedWrite key v inst s_
  | .xcheckFail c diffs, s_ => keeps_execXcheckFail c diffs s_
  | .xcheckClear, s_ => keeps_execXcheckClear s_
  | .digestReceived n k digest, s_ => keeps_execDigestReceived n k digest s_
  | .arbitrationVerdictReceived pass armed acted, s_ => keeps_execArbitrationVerdictReceived pass armed acted s_
  | .arbitrationTimeout, s_ => keeps_execArbitrationTimeout s_
  | .claimInChange v, s_ => keeps_execClaimInChange v s_
  | .autoClaim, s_ => keeps_execAutoClaim s_
  | .noHolderTimeout g, s_ => keeps_execNoHolderTimeout g s_
  | .returnHoldoffEnd, s_ => keeps_execReturnHoldoffEnd s_
  | .handoverCmd w, s_ => keeps_ownHandoverCmd w s_
  | .handoverPass, s_ => keeps_execHandoverPass s_
  | .diStateChange d samples, s_ => keeps_execDiStateChange d samples s_
  | .diLineFault d first rest, s_ => keeps_execDiLineFault d first rest s_
  | .diLineFaultEnd d first rest, s_ => keeps_execDiLineFaultEnd d first rest s_
  | .fieldOutputCommand o on instant, s_ => keeps_execFieldOutputCommand o on instant s_
  | .doOverload o rd, s_ => keeps_execDoOverload o rd s_
  | .doOpenWire o rd, s_ => keeps_execDoOpenWire o rd s_
  | .doOpenWireClear o rd, s_ => keeps_execDoOpenWireClear o rd s_
  | .doOverTemp rd, s_ => keeps_execDoOverTemp rd s_
  | .doOverTempEnd rd, s_ => keeps_execDoOverTempEnd rd s_
  | .field24Fault rd, s_ => keeps_execField24Fault rd s_
  | .field24Restored rd, s_ => keeps_execField24Restored rd s_
  | .contactorDriverCommand d on instant, s_ => keeps_execContactorDriverCommand d on instant s_
  | .cdOvercurrent d rd, s_ => keeps_execCdOvercurrent d rd s_
  | .cdClear d w, s_ => keeps_execCdClear d w s_
  | .cdOpenCoil d rd, s_ => keeps_execCdOpenCoil d rd s_
  | .cdOpenCoilEnd d rd, s_ => keeps_execCdOpenCoilEnd d rd s_
  | .cdReadbackMismatch d lag, s_ => keeps_execCdReadbackMismatch d lag s_
  | .fieldForce v w, s_ => keeps_execFieldForce v w s_
  | .auxHighStart, s_ => keeps_execAuxHighStart s_
  | .auxHighEnd rd, s_ => keeps_execAuxHighEnd rd s_
  | .auxInterruptionStart rd hold, s_ => keeps_execAuxInterruptionStart rd hold s_
  | .auxInterruptionEnd rd, s_ => keeps_execAuxInterruptionEnd rd s_
  | .auxStopLevel hold, s_ => keeps_execAuxStopLevel hold s_
  | .supplyShed, s_ => keeps_execSupplyShed s_
  | .gdLimitEntry rd, s_ => keeps_execGdLimitEntry rd s_
  | .gdLimitExit rd, s_ => keeps_execGdLimitExit rd s_
  | .housekeepingRound temps rails, s_ => keeps_execHousekeepingRound temps rails s_
  | .resetInputAssert, s_ => keeps_execResetInputAssert s_
  | .resetInputRelease, s_ => keeps_execResetInputRelease s_
  | .housekeepingDataLoss, s_ => keeps_execHousekeepingDataLoss s_
  | .contactorEnableReturn, s_ => keeps_execContactorEnableReturn s_
  | .claimHoldLapse, s_ => keeps_execClaimHoldLapse s_
  | .clauzLaneRegained lane, s_ => keeps_execClauzLaneRegained lane s_
  | .ptpAnnounceTransmit b, s_ => keeps_execPtpAnnounceTransmit b s_
  | .ptpDelayRequestTransmit b, s_ => keeps_execPtpDelayRequestTransmit b s_
  | .heartbeatReceived c node, s_ => keeps_execHeartbeatReceived c node s_
  | .spiResponseRead ready, s_ => keeps_execSpiResponseRead ready s_
  | .switchFrameForward f, s_ => keeps_execSwitchFrameForward f s_

/-- Every command answers a next state. -/
theorem exec_next (c : Instr) (s : State) : ∃ t, exec c s = .next t := by cases c <;> exact ⟨_, rfl⟩

/-- A step is a core cycle on an empty queue, or the command in front. -/
theorem step_cases {s t : State} (h : step s = .next t) :
    (s.pending = [] ∧ t = tick s) ∨ ∃ c rest, s.pending = c :: rest ∧ exec c { s with pending := rest } = .next t := by
  unfold step at h
  split at h
  · rename_i e
    exact .inl ⟨e, by cases h; rfl⟩
  · rename_i c rest e
    exact .inr ⟨c, rest, e, h⟩

/-- A core cycle changes module time only. -/
theorem tick_keeps (s : State) : ∃ m, tick s = { s with isl := { s.isl with mt := m } } := by
  unfold tick
  split
  · exact ⟨_, rfl⟩
  · exact ⟨s.isl.mt, rfl⟩

end Sys2Proof.Machine
end

