-- ==== Sys2Proof/Tests/Slice0.lean ====
section
/-!
SUPPORT. Tests: the checks of WellFormed refuse an ill-formed command each, examples of the spec, and for every clause of a statement a
state and operands that meet its hypotheses together. The helper states of the tests stand first.
-/

set_option linter.unusedVariables false

namespace Sys2Proof.Machine


/-- A powered module in a mode, everything else as after reset. -/
def live (m : Mode) : State := { State.reset with mod := { ModesSt.init with powered := true, mode := m } }

/-- The same at a later instant. -/
def State.later (s : State) (mt : Nat) : State := s.modIsl fun x => { x with mt := mt }

/-- A module in a mode with stage 1 configured by a word of MOD_STAGE_CFG, in a state. -/
def staged (m : Mode) (cfg : Nat) (st : StageState) : State :=
  ((live m).setN (Obj.MOD_STAGE_CFG 1) cfg).modStage 1 fun c => { c with st := st }

/-- The same with time base A good. -/
def State.timed (s : State) : State := s.modBase 0 fun b => { b with st := 2, theta := 0 }

/-- The same with both PLLs locked. -/
def State.clocked (s : State) : State := s.modClk fun c => { c with pll := .replicate 2 { locked := true, lostAt := none, tryAt := none, failed := false, losses := [] } }

/-- A graph package entry without blocks. -/
def emptyGraph : GraphSpec :=
  { id := 0, check := 0, stageType := 0, fits := false, wcetCrit := 0, wcetTotal := 0, channels := 0, inputs := [], blocks := [] }

/-- A tick at which every link reads 0 and the partner says nothing. -/
def tickIn : TickIn := ⟨.replicate 4 0, none⟩

/-- A sample at which everything reads 0. -/
def zeroSample : Sample :=
  { vc := ⟨0, 0, 0⟩, io := ⟨0, 0, 0⟩, iL := ⟨0, 0, 0⟩, iN := 0, vdc := 0, line := ⟨0, 0, 0⟩, far := ⟨0, 0, 0⟩, vin := 0, pIn := 0, pOut := 0, phase := [],
    partner := [], measured := [], marked := [], mem := none }

/-- A sample's working bank without blocks that sends two duties. -/
def plainWork : Work :=
  { law := lawInit, blocks := [], duties := [1, 2], at_ := 0, outer := false, eff := [], sends := true
    undo := ⟨ShareSt.init, none, []⟩, canary := ⟨[], [], none⟩ }

/-- Test levels as an ideal path reads them. -/
def goodReading : DacReading := { zero := 0, plus := mkRat 262144 10, minus := mkRat (-262144) 10 }

/-- The host SPI port has service access. -/
def State.serviced (s : State) : State := s.modNet fun x => { x with rights := [(1, 0)] }

/-- A set for stage 1 with one channel. -/
def plainSet : CmdSet := { instant := 100, k := 1, provisional := false, tally := 1, stage := 1, chans := [⟨[0, 0, 0, 0], [0, 0, 0, 0], 0⟩] }

/-- Host port E1/E2 linked and the network PLL locked. -/
def State.linked (s : State) : State :=
  (s.modClk fun c => { c with netLocked := true }).modNet fun x => { x with link := .replicate 4 true }

/-- References healthy, reference 0 active, PLLs enabled. -/
def State.referenced (s : State) : State := s.modClk fun c => { c with refOk := .replicate 3 true, active := some 0, pllOn := true }

/-- A gallery record. -/
def aRecord : GalRec := ⟨5, 6, false, false, 0, [some 1]⟩

/-- The host SPI port holds write ownership. -/
def State.ownedBySpi (s : State) : State := s.setN Obj.NET_OWNER 1

/-- A program without tags that is signed and fits. -/
def aProgram : Program := { id := 7, check := 9, wcetBusy := 0, signed := true, code := 0, data := 0, tags := [], stations := [], insts := [], charts := [] }

/-- A cycle that does nothing. -/
def idleRun : CycleRun := { scans := [], writes := [], data := [], steps := [], lines := 0, busy := 0, hold := 24 }

/-- An image with one tag of a type and binding. -/
def oneTag (tag ty binding : Nat) : Image := { count := 3, lt := 4, tags := [⟨⟨tag, ty, binding, 0, 0, 0⟩, 0, 0, 0, 0⟩], insts := [], charts := [] }


/-- The row of an object that the dictionary has. -/
def rowAt (key : Nat) : ObjRow := (objRow (key / 256) (key % 256)).getD ⟨"", 0, 0, 0, 0, 0, .u8, .ro, .int 0, false, .any, .nextCommit⟩

/-- A CAN port is enabled, booted up and in a state. -/
def State.canIn (s : State) (c : Fin 2) (st : Nat) : State :=
  (s.setBit (Obj.NET_CAN_CFG c.val) 5 true).modCan c fun x => { x with booted := true, st := st }

/-- Session 3 is open on E1 and E2, with sequence number 7. -/
def State.opened (s : State) : State :=
  s.linked.modNet fun x => { x with sessions := [⟨3, 2, 7, 0, [1], [], none⟩] }


/-- A formed duplex pair with its link up. -/
def State.duplex (s : State) (primary active : Bool) : State :=
  s.modTwn fun t => { t with mode := 2, primary := primary, formed := true, active := active, link := 3, lanes := .replicate 2 true,
                             request := active, held := active, armed := !active }


/-- What an ARMED partner in a mode reports. -/
def partnerIn (m : Mode) : PartnerView :=
  { mode := m, stages := .replicate 4 (.off, 0), fenced := false, armed := true, riding := false, coasting := false, waiting := false,
    pulling := false, charged := true, joined := true, hasGfi := false, gfiOut := false, lineDead := false, essentialSafe := none,
    stopWanted := false, node := 0, gfiCount := 0 }

/-- The invariant from its parts, which a small state decides together. -/
theorem inv_of {s : State} (h : cellsWf s.objs = true ∧ cellsWf s.saved = true ∧ ((s.logFlash ++ s.logBuf).map (·.seq)).Pairwise (· < ·) ∧
    (∀ r ∈ s.logFlash ++ s.logBuf, r.seq < s.logSeq) ∧ s.logBuf.length ≤ logCapacity) : Inv s :=
  ⟨h.1, h.2.1, ⟨h.2.2.1, h.2.2.2.1, h.2.2.2.2⟩⟩

/-- An AC input stage whose input has deviated since instant 0. -/
def deviating : State :=
  (((staged .form 0x102 .run).setField (Obj.FRT_CONFIG 1) 0 2 2).modRide 1 fun f => { f with devSince := some 0 }).later 4096000

/-- An input that lies a given amount above what the PLL predicts. -/
theorem deviation_above (s : State) (n : StageId) (k : Rat) :
    inputDeviation s n (predictedInput (heldPhase s.frt[n] s.now) + k) = absR (r32 k) := by
  rw [inputDeviation, fsub, add_sub_cancel_left]

/-! ### Witnesses -/

set_option Elab.async false
set_option maxRecDepth 4000

theorem witness_InstantBoundCommands_1 : ∃ (s : State) (src : Source) (ch : Nat) (o : DoId) (on : Bool), s.alive .abutment = true ∧ s.isl.lately.find? (takenNow s ⟨.abutment, src, ch, false, none, .fieldOutput o on⟩) = none :=
  ⟨live .form, .logic, 0, 3, true, by decide +kernel⟩

theorem witness_InstantBoundCommands_2 : ∃ (s : State) (src : Source) (ch : Nat) (o : DoId) (on : Bool) (x : Taken), s.alive .abutment = true ∧ s.isl.lately.find? (takenNow s ⟨.abutment, src, ch, false, none, .fieldOutput o on⟩) = some x ∧ comesFirst (x.src, x.channel) (src, ch) = true :=
  ⟨(live .form).modIsl fun x => { x with lately := [⟨.abutment, (11, 3), 0, .keystone, 0⟩] }, .logic, 0, 3, true, ⟨.abutment, (11, 3), 0, .keystone, 0⟩, by decide +kernel⟩

theorem witness_InstantBoundCommands_3 : ∃ (s : State) (c : TimedCmd) (k : Nat), (c.viaLink = true → s.alive .link = true ∧ linkUp s = true) ∧ s.alive c.dst = true ∧ c.inst = some k ∧ s.replicaOf c.dst < instantOf c s k ∧ instantOf c s k ≤ s.replicaOf c.dst + 2147483648 ∧ keepsOwnInstant c.body = false ∧ c.body ≠ .handover ∧ s.isl.held.find? (meets { c with inst := some (instantOf c s k) }) = none :=
  ⟨live .form, ⟨.abutment, .logic, 0, false, some 4096, .fieldOutput 3 true⟩, 4096, by decide +kernel⟩

theorem witness_InstantBoundCommands_4 : ∃ (s : State) (c : TimedCmd) (k : Nat), (c.viaLink = true → s.alive .link = true ∧ linkUp s = true) ∧ s.alive c.dst = true ∧ c.inst = some k ∧ s.replicaOf c.dst + 2147483648 < instantOf c s k :=
  ⟨live .form, ⟨.abutment, .logic, 0, false, some 5000000000, .fieldOutput 3 true⟩, 5000000000, by decide +kernel⟩

theorem witness_InstantBoundCommands_5 : ∃ (s : State) (n : StageId) (src : Source) (ch : Nat) (k : Nat) (key : Nat) (v : Val), s.alive (.pier n) = true ∧ k ≤ s.replicaOf (.pier n) :=
  ⟨live .form, 0, .logic, 0, 0, 0x300002, .real 0, by decide +kernel⟩

theorem witness_InstantBoundCommands_6 : ∃ (s : State) (n : StageId) (src : Source) (ch : Nat) (k : Nat), Inv s ∧ s.alive (.pier n) = true ∧ k < s.replicaOf (.pier n) ∧ s.hasRoom 1 = true :=
  ⟨(live .form).later 4096, 0, .logic, 0, 0, inv_of (by decide +kernel), by decide +kernel⟩

theorem witness_InstantBoundCommands_7 : ∃ (s : State) (dst : Island), s.alive dst = true :=
  ⟨live .form, .abutment, by decide +kernel⟩

theorem witness_InstantBoundCommands_8 : ∃ (s : State) (src : Source) (ch : Nat) (k : Nat) (o : DoId) (on : Bool), s.alive .abutment = true ∧ s.isl.held = [⟨⟨.abutment, src, ch, false, some k, .fieldOutput o on⟩, false⟩] ∧ s.isl.lately = [] ∧ k ≤ s.replicaOf .abutment :=
  ⟨(live .form).modIsl fun x => { x with held := [⟨⟨.abutment, .logic, 0, false, some 0, .fieldOutput 3 true⟩, false⟩] }, .logic, 0, 0, 3, true, by decide +kernel⟩

theorem witness_JointsAndPermissions_1 : ∃ (s : State) (dev : List (Island × Int)), clockRuns s = true ∧ s.alive .edge = true ∧ 1024 ≤ s.since s.isl.broadcast ∧ (∀ e ∈ dev, replicaFaulty e = false) :=
  ⟨{ (live .form).modIsl (fun x => { x with mt := 4096 }) with clk := { ClockSt.init with pll := .replicate 2 { locked := true, lostAt := none, tryAt := none, failed := false, losses := [] } } }, [(.house, 1)], by decide +kernel⟩

theorem witness_JointsAndPermissions_2 : ∃ (s : State) (i : Island) (d : Int), clockRuns s = true ∧ s.alive .keystone = true ∧ 1024 ≤ s.since s.isl.broadcast ∧ replicaFaulty (i, d) = true ∧ i ≠ .keystone :=
  ⟨{ (live .form).modIsl (fun x => { x with mt := 4096 }) with clk := { ClockSt.init with pll := .replicate 2 { locked := true, lostAt := none, tryAt := none, failed := false, losses := [] } } }, .house, 5, by decide +kernel⟩

theorem witness_JointsAndPermissions_3 : ∃ (s : State) (src : Island) (dst : Island) (w : Nat), s.alive dst = true ∧ s.fenced src = false :=
  ⟨live .form, .edge, .house, 7, by decide +kernel⟩

theorem witness_JointsAndPermissions_4 : ∃ (s : State) (src : Island) (dst : Island) (w : Nat), s.alive dst = true ∧ s.fenced src = false ∧ ((jointOf s src dst).recent.filter fun m => decide (s.since m < 1024 * dst.resolution)).length < 2 :=
  ⟨live .form, .edge, .house, 7, by decide +kernel⟩

theorem witness_JointsAndPermissions_5 : ∃ (s : State) (src : Island) (dst : Island) (p : Bool) (w : Nat), s.alive dst = true ∧ s.fenced src = true :=
  ⟨(live .form).modIsl fun x => { x with fenced := [.edge] }, .edge, .house, false, 7, by decide +kernel⟩

theorem witness_JointsAndPermissions_6 : ∃ (s : State) (i : Island) (why : FenceReport), s.alive .keystone = true ∧ i ≠ .keystone :=
  ⟨live .form, .house, .selfTest, by decide +kernel⟩

theorem witness_JointsAndPermissions_7 : ∃ (s : State), s.alive .abutment = true :=
  ⟨live .form, by decide +kernel⟩

theorem witness_JointsAndPermissions_8 : ∃ (s : State), s.alive .abutment = true ∧ s.isl.contactorEnable = true :=
  ⟨(live .form).modIsl fun x => { x with contactorEnable := true, contactorLapsed := true }, by decide +kernel⟩

theorem witness_JointsAndPermissions_9 : ∃ (s : State) (at_ : Nat), s.alive .keystone = true ∧ s.isl.houseFencedAt = some at_ ∧ 48 * cyclesMs ≤ s.since at_ :=
  ⟨(live .form).modIsl fun x => { x with mt := 20000000, houseFencedAt := some 0, fenced := [.house] }, 0, by decide +kernel⟩

theorem witness_FromPowerUpToSurvey_1 : ∃ (s : State), True :=
  ⟨State.reset, by decide +kernel⟩

theorem witness_FromPowerUpToSurvey_2 : ∃ (s : State) (absence : Option Nat) (primary : Bool), s.mod.mode = .halt ∧ s.mod.powered = true ∧ s.mod.resetAsserted = false :=
  ⟨live .halt, some 5, true, by decide +kernel⟩

theorem witness_FromPowerUpToSurvey_3 : ∃ (s : State), s.mod.mode = .adit ∧ clockRuns s = false ∧ 0x1011 ∉ s.mod.lockoutPending ∧ s.hasRoom 1 = true :=
  ⟨live .adit, by decide +kernel⟩

theorem witness_FromPowerUpToSurvey_4 : ∃ (s : State) (imgA : ImageFacts) (imgB : ImageFacts) (progOk : Bool), s.mod.mode = .adit ∧ s.mod.imageStarted = false ∧ s.alive .house = true ∧ 0x1011 ∉ s.mod.lockoutPending ∧ imageFault s (if s.objN Obj.NVS_BOOT_PREF % 2 = 0 then imgA else imgB) = 0 :=
  ⟨live .adit, ⟨true, true, 0, 1, .replicate 4 emptyGraph⟩, ⟨true, true, 0, 2, .replicate 4 emptyGraph⟩, true, by decide +kernel⟩

theorem witness_FromPowerUpToSurvey_5 : ∃ (s : State) (imgA : ImageFacts) (imgB : ImageFacts) (progOk : Bool), s.mod.mode = .adit ∧ s.mod.imageStarted = false ∧ s.alive .house = true ∧ 0x1011 ∉ s.mod.lockoutPending ∧ imageFault s imgA ≠ 0 ∧ imageFault s imgB ≠ 0 :=
  ⟨live .adit, ⟨false, true, 0, 1, .replicate 4 emptyGraph⟩, ⟨true, false, 0, 2, .replicate 4 emptyGraph⟩, true, by decide +kernel⟩

theorem witness_FromPowerUpToSurvey_6 : ∃ (s : State) (dictionary : Bool) (backup : Bool) (graphs : Vector GraphSpec 4), (dictionary = true ∨ backup = true) ∧ s.alive .keystone = true ∧ s.mod.mode = .survey ∧ s.mod.cfgLoaded = false ∧ s.nvs.package = some graphs :=
  ⟨(live .survey).modNvs fun x => { x with package := some (.replicate 4 emptyGraph) }, false, true, .replicate 4 emptyGraph, by decide +kernel⟩

theorem witness_FromPowerUpToSurvey_7 : ∃ (s : State), s.alive .keystone = true ∧ s.mod.mode = .survey ∧ s.mod.cfgLoaded = false ∧ s.hasRoom 1 = true :=
  ⟨live .survey, by decide +kernel⟩

theorem witness_FromPowerUpToSurvey_8 : ∃ (s : State) (microF : Rat) (volts : Rat) (link : Vector Rat 4), s.alive .house = true ∧ s.mod.mode = .survey ∧ s.mod.calDone = true ∧ s.mod.holdupDone = false :=
  ⟨(live .survey).modMod fun m => { m with calDone := true }, 100, 20, .replicate 4 0, by decide +kernel⟩

theorem witness_FromPowerUpToSurvey_9 : ∃ (s : State) (n : StageId), s.alive (.pier n) = true ∧ diagRunning s = false ∧ diagDue s n = true ∧ (∀ m, m < n → diagDue s m = false) :=
  ⟨((live .charge).modStage 1 fun c => { c with diagDeferred := true }).modMod fun m => { m with link := .replicate 4 10 }, 1, by decide +kernel⟩

theorem witness_FromPowerUpToSurvey_10 : ∃ (s : State) (n : StageId) (r : DiagReading) (at_ : Nat), s.alive (.pier n) = true ∧ s.stg[n].diagSince = some at_ ∧ 20 * cyclesMs ≤ s.since at_ ∧ diagWord s n r = 0 :=
  ⟨((live .survey).modStage 1 fun c => { c with diagSince := some 0, graphOk := true }).modIsl fun x => { x with mt := 9000000 }, 1, ⟨0, .replicate 4 0, .replicate 4 (.replicate 4 0), .replicate 4 (.replicate 4 0)⟩, 0, by decide +kernel⟩

theorem witness_FromPowerUpToSurvey_11 : ∃ (s : State) (n : StageId) (r : DiagReading) (at_ : Nat), s.alive (.pier n) = true ∧ s.stg[n].diagSince = some at_ ∧ 20 * cyclesMs ≤ s.since at_ ∧ diagWord s n r ≠ 0 ∧ s.mod.mode ≠ .adit ∧ s.stg[n].st ≠ .safe ∧ s.hasRoom 1 = true :=
  ⟨(((live .survey).modStage 1 fun c => { c with diagSince := some 0 }).modIsl fun x => { x with mt := 9000000 }).setN (Obj.GDV_DIAG_SENSE 1 0) 1, 1, ⟨0, .replicate 4 1, .replicate 4 (.replicate 4 0), .replicate 4 (.replicate 4 0)⟩, 0, by decide +kernel⟩

theorem witness_FromPowerUpToSurvey_12 : ∃ (s : State), s.alive .logic = true ∧ s.mod.mode = .survey ∧ s.mod.holdupDone = true ∧ s.mod.diagQueue = [] ∧ diagRunning s = false ∧ s.mod.restoreDone = false :=
  ⟨(live .survey).modMod fun m => { m with holdupDone := true }, by decide +kernel⟩

theorem witness_ModeCommandsAndTick_1 : ∃ (s : State) (k : TickIn), s.alive .keystone = true :=
  ⟨live .lockout, tickIn, by decide +kernel⟩

theorem witness_ModeCommandsAndTick_2 : ∃ (s : State) (k : TickIn) (c : Nat) (rest : List Nat), s.alive .keystone = true ∧ s.mod.mode ≠ .lockout ∧ s.mod.lockoutPending = c :: rest ∧ c ≠ 0x1004 :=
  ⟨(live .form).modMod fun m => { m with lockoutPending := [0x1013] }, tickIn, 0x1013, [], by decide +kernel⟩

theorem witness_ModeCommandsAndTick_3 : ∃ (s : State) (k : TickIn), s.alive .keystone = true ∧ s.mod.mode = .adit ∧ (watched k s).mod.lockoutPending = [] ∧ s.mod.imageStarted = true ∧ clockRuns s = true :=
  ⟨{ (live .adit).modMod (fun m => { m with imageStarted := true }) with clk := { ClockSt.init with pll := .replicate 2 { locked := true, lostAt := none, tryAt := none, failed := false, losses := [] } } }, tickIn, by decide +kernel⟩

theorem witness_ModeCommandsAndTick_4 : ∃ (s : State) (k : TickIn), s.alive .keystone = true ∧ s.twn.mode = 0 ∧ 4 ≤ s.mod.mode.code ∧ s.mod.mode.code ≤ 9 ∧ (watched k s).mod.lockoutPending = [] ∧ s.mod.stopPending ≠ none :=
  ⟨(live .form).modMod fun m => { m with stopPending := some .plain }, tickIn, by decide +kernel⟩

theorem witness_ModeCommandsAndTick_5 : ∃ (s : State) (k : TickIn), s.alive .keystone = true ∧ (conditioned k s).mod.order = some .start ∧ startValid (conditioned k s).mod.mode ((conditioned k s).modMod fun m => { m with order := none }) = true :=
  ⟨(live .ready).modMod fun m => { m with order := some .start }, tickIn, by decide +kernel⟩

theorem witness_ModeCommandsAndTick_6 : ∃ (s : State) (k : TickIn), s.alive .keystone = true ∧ (conditioned k s).mod.order = some .stop ∧ stopValid (conditioned k s).mod.mode = true :=
  ⟨((live .form).modMod fun m => { m with order := some .stop }).modSaf fun x => { x with coverDemand := true }, tickIn, by decide +kernel⟩

theorem witness_ModeCommandsAndTick_7 : ∃ (s : State) (k : TickIn), s.alive .keystone = true ∧ (conditioned k s).mod.order = some .release ∧ releaseValid (conditioned k s).mod.mode ((conditioned k s).modMod fun m => { m with order := none }) = true :=
  ⟨(live .lockout).modMod fun m => { m with lockoutCause := 0x1005, order := some .release }, tickIn, by decide +kernel⟩

theorem witness_ModeCommandsAndTick_8 : ∃ (s : State) (w : Writer), s.admits w Obj.MOD_COMMAND (.int 0x5A01) = true ∧ s.commands w = true ∧ startValid (resultingMode (pairExamine s)) (pairExamine s) = true :=
  ⟨live .ready, .logic, by decide +kernel⟩

theorem witness_ModeCommandsAndTick_9 : ∃ (s : State) (w : Writer), s.admits w Obj.MOD_COMMAND (.int 0x5A02) = true ∧ stopValid (resultingMode s) = true :=
  ⟨live .form, .port 1 0, by decide +kernel⟩

theorem witness_ModeCommandsAndTick_10 : ∃ (s : State) (w : Writer), s.admits w Obj.MOD_COMMAND (.int 0x5A03) = true ∧ serviceOk s w = true ∧ releaseValid (resultingMode s) s = true :=
  ⟨{ (live .lockout).modMod (fun m => { m with lockoutCause := 0x1005 }) with net := { NetSt.init with rights := [(1, 0)] } }, .port 1 0, by decide +kernel⟩

theorem witness_ModeCommandsAndTick_11 : ∃ (s : State), s.alive .keystone = true ∧ s.mod.mode = .charge ∧ s.mod.stopPending = none ∧ s.objN Obj.MOD_CHARGE_TIMEOUT * cyclesMs ≤ s.since s.mod.enteredAt ∧ s.hasRoom 1 = true :=
  ⟨(live .charge).modIsl fun x => { x with mt := 409600000000 }, by decide +kernel⟩

theorem witness_ModeCommandsAndTick_12 : ∃ (s : State), s.alive .keystone = true ∧ s.mod.mode = .stop ∧ stopDone s = false ∧ 0x1004 ∉ s.mod.lockoutPending ∧ s.objN Obj.MOD_STOP_TIMEOUT * cyclesMs ≤ s.since s.mod.enteredAt ∧ s.hasRoom 1 = true :=
  ⟨((live .stop).modIsl fun x => { x with mt := 409600000000 }).modStage 0 fun c => { c with st := .run }, by decide +kernel⟩

theorem witness_StageCommands_1 : ∃ (s : State) (n : StageId) (w : Writer), s.admits w (Obj.MOD_STAGE_CMD n.val) (.int 1) = true ∧ s.commands w = true ∧ s.enabled n = true ∧ s.stype n ≠ .none ∧ startAllowed (resultingMode s) s n = true ∧ s.fenced (.pier n) = false ∧ overBudget s n (gateBudget s) = none ∧ (s.stg[n].st = .armed ∨ (s.stg[n].st = .off ∧ s.stg[n].graphOk = true)) :=
  ⟨((live .form).setN (Obj.MOD_STAGE_CFG 1) 0x101).modStage 1 fun c => { c with st := .armed }, 1, .logic, by decide +kernel⟩

theorem witness_StageCommands_2 : ∃ (s : State) (n : StageId) (w : Writer), s.admits w (Obj.MOD_STAGE_CMD n.val) (.int 2) = true ∧ s.commands w = true ∧ stopAllowed (resultingMode s) = true ∧ s.switching n = true ∧ s.isSsd n = false ∧ s.hasRoom 1 = true :=
  ⟨(live .form).modStage 1 fun c => { c with st := .run }, 1, .logic, by decide +kernel⟩

theorem witness_StageCommands_3 : ∃ (s : State) (n : StageId) (w : Writer), s.admits w (Obj.MOD_STAGE_CMD n.val) (.int 2) = true ∧ s.commands w = true ∧ stopAllowed (resultingMode s) = true ∧ s.stg[n].st = .armed :=
  ⟨(live .form).modStage 1 fun c => { c with st := .armed }, 1, .logic, by decide +kernel⟩

theorem witness_StageCommands_4 : ∃ (s : State) (n : StageId) (w : Writer), s.admits w (Obj.MOD_STAGE_CMD n.val) (.int 2) = true ∧ s.commands w = true ∧ stopAllowed (resultingMode s) = true ∧ s.stg[n].st = .off ∧ (s.stg[n].heldStart = true ∨ s.stg[n].toArmed = true) :=
  ⟨(live .form).modStage 1 fun c => { c with heldStart := true }, 1, .logic, by decide +kernel⟩

theorem witness_StageCommands_5 : ∃ (s : State) (n : StageId) (w : Writer), s.admits w (Obj.MOD_STAGE_CMD n.val) (.int 3) = true ∧ s.commands w = true ∧ (resultingMode s = .ready ∨ resultingMode s = .blackstart ∨ resultingMode s = .sync ∨ resultingMode s = .form) ∧ s.stg[n].st = .safe ∧ s.fenced (.pier n) = false ∧ causePresent s n = false :=
  ⟨(live .ready).modStage 1 fun c => { c with st := .safe, cause := 0x1005 }, 1, .logic, by decide +kernel⟩

theorem witness_ClaimingDeadLine_1 : ∃ (s : State) (n : StageId), s.alive (.pier n) = true ∧ anchorHere s n = true ∧ s.switching n = true ∧ s.isGfi n = true :=
  ⟨staged .form 0x101 .run, 1, by decide +kernel⟩

theorem witness_ClaimingDeadLine_2 : ∃ (s : State) (n : StageId) (at_ : Nat), s.alive .keystone = true ∧ s.shr[n].claim = .slot at_ ∧ at_ ≤ s.now ∧ ntaGood s = true ∧ s.standby = false ∧ s.shr[n].line.live = false ∧ s.hasRoom 2 = true :=
  ⟨(staged .blackstart 0x101 .armed).timed.modShare 1 fun h => { h with claim := .slot 0 }, 1, 0, by decide +kernel⟩

theorem witness_ClaimingDeadLine_3 : ∃ (s : State) (n : StageId) (at_ : Nat), s.alive .keystone = true ∧ s.shr[n].claim = .slot at_ ∧ at_ ≤ s.now ∧ ntaGood s = false :=
  ⟨(staged .blackstart 0x101 .armed).modShare 1 fun h => { h with claim := .slot 0 }, 1, 0, by decide +kernel⟩

theorem witness_ClaimingDeadLine_4 : ∃ (s : State) (n : StageId) (at_ : Nat), s.alive .keystone = true ∧ s.shr[n].claim = .holdoff at_ ∧ at_ ≤ s.now ∧ s.standby = false ∧ s.shr[n].line.live = false ∧ s.hasRoom 2 = true :=
  ⟨(staged .blackstart 0x101 .armed).modShare 1 fun h => { h with claim := .holdoff 0 }, 1, 0, by decide +kernel⟩

theorem witness_ClaimingDeadLine_5 : ∃ (s : State) (n : StageId) (at_ : Nat), s.shr[n].closeAt = some at_ ∧ s.shr[n].closeTimeout ≤ s.since at_ ∧ s.stg[n].st ≠ .safe ∧ s.mod.mode ≠ .halt ∧ s.mod.mode ≠ .adit ∧ s.hasRoom 1 = true :=
  ⟨((staged .blackstart 0x101 .armed).modShare 1 fun h => { h with closeAt := some 0, closeTimeout := 10 }).later 10, 1, 0, by decide +kernel⟩

theorem witness_ClaimingDeadLine_6 : ∃ (s : State) (n : StageId), s.shr[n].ramping = true ∧ 5 * s.shr[n].rampTime ≤ s.since s.shr[n].rampFrom ∧ s.stg[n].st ≠ .safe ∧ s.mod.mode ≠ .halt ∧ s.mod.mode ≠ .adit ∧ s.hasRoom 1 = true :=
  ⟨((staged .form 0x101 .run).modShare 1 fun h => { h with ramping := true, rampFrom := 0, rampTime := 10 }).later 50, 1, by decide +kernel⟩

theorem witness_LawParametersOnTheirWay_1 : ∃ (s : State) (n : StageId) (w : Writer), s.serves w .house = true ∧ s.isGfi n = true ∧ s.bit (Obj.GFL_CONFIG n) 10 = true ∧ s.hasRoom 1 = true :=
  ⟨((staged .ready 0x101 .armed).setBit (Obj.GFL_CONFIG 1) 10 true), 1, .logic, by decide +kernel⟩

theorem witness_LawParametersOnTheirWay_2 : ∃ (s : State) (n : StageId) (w : Writer), s.serves w .house = true ∧ s.bit (Obj.GFL_CONFIG n) 10 = false :=
  ⟨live .ready, 1, .logic, by decide +kernel⟩

theorem witness_LawParametersOnTheirWay_3 : ∃ (s : State) (p : StageId) (w : Writer), s.serves w .house = true ∧ s.bit (Obj.PIE_CONFIG p) 0 = true ∧ s.hasRoom 1 = true :=
  ⟨((live .ready).setBit (Obj.PIE_CONFIG 1) 0 true), 1, .logic, by decide +kernel⟩

theorem witness_LawParametersOnTheirWay_4 : ∃ (s : State) (n : StageId), s.alive (.pier n) = true :=
  ⟨((live .form).modPier 1 fun p => { p with xv := some ⟨0, 1, 0, 5⟩ }).later 9, 1, by decide +kernel⟩

theorem witness_LawParametersOnTheirWay_5 : ∃ (s : State) (n : StageId), s.alive (.pier n) = true :=
  ⟨((live .form).modSurvey 1 fun p => { p with glideX := some ⟨0, 1, 0, 5⟩ }).later 9, 1, by decide +kernel⟩

theorem witness_Synchronising_1 : ∃ (s : State) (n : StageId) (at_ : Nat), s.shr[n].okSince = some at_ ∧ s.shr[n].dwell ≤ s.since at_ ∧ s.shr[n].closeAt = none ∧ s.standby = false ∧ s.shr[n].pull = .line :=
  ⟨(staged .form 0x101 .run).modShare 1 fun h => { h with okSince := some 0, dwell := 0, pull := .line }, 1, 0, by decide +kernel⟩

theorem witness_Synchronising_2 : ∃ (s : State) (n : StageId) (at_ : Nat) (i : SocId), s.shr[n].okSince = some at_ ∧ s.shr[n].dwell ≤ s.since at_ ∧ s.shr[n].closeAt = none ∧ s.standby = false ∧ s.shr[n].pull = .tie ∧ socOf s 4 = some i ∧ s.saf.soc[i].test = none ∧ s.saf.soc[i].cmd = false ∧ socRefusal s i = none ∧ s.hasRoom 2 = true :=
  ⟨(((((staged .form 0x101 .run).setN (Obj.SAF_SOC_CFG 2) 4).modIsl fun x => { x with contactorEnable := true }).modSaf fun x => { x with pending := false }).modDi 0 fun x => { x with st := true }).modShare 1 fun h => { h with okSince := some 0, dwell := 0, pull := .tie }, 1, 0, 2, by decide +kernel⟩

theorem witness_Synchronising_3 : ∃ (s : State) (n : StageId), s.shr[n].pull = .line ∧ s.shr[n].closeAt = none ∧ s.shr[n].syncTimeout ≤ s.since s.shr[n].syncFrom ∧ s.stg[n].st ≠ .safe ∧ s.mod.mode ≠ .halt ∧ s.mod.mode ≠ .adit :=
  ⟨(staged .form 0x101 .run).modShare 1 fun h => { h with pull := .line, syncTimeout := 0 }, 1, by decide +kernel⟩

theorem witness_Synchronising_4 : ∃ (s : State) (n : StageId) (at_ : Nat), s.shr[n].deadSince = some at_ ∧ s.shr[n].pull = .line ∧ s.shr[n].closeAt = none ∧ cyclesSec ≤ s.since at_ :=
  ⟨((staged .form 0x101 .run).modShare 1 fun h => { h with pull := .line, deadSince := some 0 }).later 409600000, 1, 0, by decide +kernel⟩

theorem witness_Synchronising_5 : ∃ (s : State) (n : StageId) (g : Glide), s.shr[n].glideW = some g ∧ g.dur ≤ s.since g.start :=
  ⟨((staged .form 0x101 .run).modShare 1 fun h => { h with glideW := some ⟨1, 0, 0, 5⟩ }).later 9, 1, ⟨1, 0, 0, 5⟩, by decide +kernel⟩

theorem witness_Synchronising_6 : ∃ (s : State) (n : StageId) (g : Glide), s.shr[n].glideW = some g ∧ s.since g.start < g.dur :=
  ⟨((staged .form 0x101 .run).modShare 1 fun h => { h with glideW := some ⟨1, 0, 0, 5⟩ }).later 4, 1, ⟨1, 0, 0, 5⟩, by decide +kernel⟩

theorem witness_Synchronising_7 : ∃ (s : State) (n : StageId) (w : Writer), s.serves w (.pier n) = true ∧ s.isGfi n = true ∧ s.bit (Obj.SHR_CONFIG n) 5 = true ∧ s.switching n = true ∧ s.mod.mode = .form ∧ s.saf.tieFailed = false ∧ s.shr[n].far.live = true :=
  ⟨((staged .form 0x101 .run).setBit (Obj.SHR_CONFIG 1) 5 true).modShare 1 fun h => { h with far := { h.far with live := true } }, 1, .logic, by decide +kernel⟩

theorem witness_Synchronising_8 : ∃ (s : State) (n : StageId) (w : Writer), s.serves w (.pier n) = true ∧ s.isGfi n = true ∧ s.saf.tieFailed = true ∧ s.hasRoom 1 = true :=
  ⟨{ (staged .form 0x101 .run) with saf := { SafetySt.init with tieFailed := true } }, 1, .logic, by decide +kernel⟩

theorem witness_Synchronising_9 : ∃ (s : State) (n : StageId) (w : Writer) (i : SocId), s.serves w (.pier n) = true ∧ s.isGfi n = true ∧ socOf s 4 = some i ∧ s.saf.soc[i].test = none :=
  ⟨((staged .form 0x101 .run).setN (Obj.SAF_SOC_CFG 2) 4).modSoc 2 fun x => { x with cmd := true }, 1, .logic, 2, by decide +kernel⟩

theorem witness_RideThroughAndInputLoss_1 : ∃ (s : State) (n : StageId) (at_ : Nat), s.alive (.pier n) = true ∧ s.frt[n].riding = true ∧ rideActs s n = true ∧ s.frt[n].clearAt = some at_ ∧ 20 * cyclesMs < s.since at_ ∧ s.hasRoom 1 = true :=
  ⟨((staged .form 0x101 .run).modRide 1 fun f => { f with riding := true, clearAt := some 0 }).later 9000000, 1, 0, by decide +kernel⟩

theorem witness_RideThroughAndInputLoss_2 : ∃ (s : State) (n : StageId), s.alive (.pier n) = true ∧ s.frt[n].riding = true ∧ rideActs s n = true ∧ s.frt[n].clearAt = none ∧ budgetNow s n = 0 ∧ s.stg[n].st ≠ .safe ∧ s.mod.mode ≠ .adit ∧ s.hasRoom 1 = true :=
  ⟨(staged .form 0x101 .run).modRide 1 fun f => { f with riding := true }, 1, by decide +kernel⟩

theorem witness_RideThroughAndInputLoss_3 : ∃ (s : State) (n : StageId) (at_ : Nat), s.alive (.pier n) = true ∧ s.frt[n].coasting = true ∧ rideActs s n = true ∧ s.frt[n].lowSince = some at_ ∧ s.objN (Obj.FRT_LINK_MIN_TIME n) * cyclesMs ≤ s.since at_ ∧ s.hasRoom 1 = true :=
  ⟨((staged .form 0x101 .run).modRide 1 fun f => { f with coasting := true, lowSince := some 0 }).later 900000000, 1, 0, by decide +kernel⟩

theorem witness_RideThroughAndInputLoss_4 : ∃ (s : State) (n : StageId), s.alive (.pier n) = true ∧ s.frt[n].coasting = true ∧ rideActs s n = true ∧ s.objN (Obj.FRT_COAST_MAX n) * cyclesMs ≤ s.since s.frt[n].coastFrom ∧ s.hasRoom 1 = true :=
  ⟨((staged .form 0x101 .run).modRide 1 fun f => { f with coasting := true }).later 900000000000, 1, by decide +kernel⟩

theorem witness_RideThroughAndInputLoss_5 : ∃ (s : State) (n : StageId), s.alive (.pier n) = true ∧ s.stg[n].st = .limit ∧ 2 * cyclesMs ≤ s.since s.stg[n].lastLimit :=
  ⟨(staged .form 0x101 .limit).later 900000, 1, by decide +kernel⟩

theorem witness_RideThroughAndInputLoss_6 : ∃ (s : State) (n : StageId) (level : Rat) (cycles : Nat), s.alive .edge = true ∧ mayLose s n 1 = true ∧ level < milli (s.objI (Obj.FRT_IN_LOSS_LEVEL n)) ∧ s.objN (Obj.FRT_IN_LOSS_TIME n) * 4096 ≤ 10 * cycles ∧ s.hasRoom 1 = true :=
  ⟨(staged .form 0x103 .run).setField (Obj.FRT_CONFIG 1) 0 2 1, 1, 0, 409600, by decide +kernel⟩

theorem witness_RideThroughAndInputLoss_7 : ∃ (s : State) (n : StageId) (at_ : Nat) (vin : Rat), s.alive (.pier n) = true ∧ mayLose s n 2 = true ∧ s.frt[n].devSince = some at_ ∧ milli (s.objI (Obj.FRT_AC_LOSS_DEV n)) < inputDeviation s n vin ∧ s.objN (Obj.FRT_IN_LOSS_TIME n) * 4096 ≤ 10 * s.since at_ ∧ s.hasRoom 1 = true :=
  ⟨deviating, 1, 0, predictedInput (heldPhase deviating.frt[(1 : StageId)] deviating.now) + 7, by decide +kernel, by decide +kernel, by decide +kernel, by rw [deviation_above]; decide +kernel, by decide +kernel, by decide +kernel⟩

theorem witness_RideThroughAndInputLoss_8 : ∃ (s : State) (n : StageId), s.alive (.pier n) = true ∧ inputActs s n = true ∧ s.frt[n].lost = true ∧ s.frt[n].hold = none ∧ inputReturned s n = true ∧ s.hasRoom 1 = true :=
  ⟨((staged .form 0x103 .run).modRide 1 fun f => { f with lost := true, aboveSince := some 0 }).later 409600000, 1, by decide +kernel⟩

theorem witness_RideThroughAndInputLoss_9 : ∃ (s : State) (n : StageId) (g : Glide), s.alive (.pier n) = true ∧ s.frt[n].ramp = some g ∧ g.dur ≤ s.since g.start :=
  ⟨(staged .form 0x103 .run).modRide 1 fun f => { f with ramp := some ⟨0, 1, 0, 0⟩ }, 1, ⟨0, 1, 0, 0⟩, by decide +kernel⟩

theorem witness_RideThroughAndInputLoss_10 : ∃ (s : State) (n : StageId) (g : Glide), s.alive (.pier n) = true ∧ s.frt[n].release = some g ∧ g.dur ≤ s.since g.start :=
  ⟨(staged .form 0x103 .run).modRide 1 fun f => { f with release := some ⟨0, 1, 0, 0⟩ }, 1, ⟨0, 1, 0, 0⟩, by decide +kernel⟩

theorem witness_RideThroughAndInputLoss_11 : ∃ (s : State) (n : StageId) (at_ : Nat), s.alive (.pier n) = true ∧ s.frt[n].hold = some at_ ∧ s.frt[n].holdExpired = false ∧ inputActs s n = true ∧ s.objN (Obj.FRT_PLL_HOLD n) * cyclesMs ≤ s.since at_ ∧ s.hasRoom 1 = true :=
  ⟨((staged .form 0x103 .run).modRide 1 fun f => { f with hold := some 0 }).later 900000000000, 1, 0, by decide +kernel⟩

theorem witness_RideThroughAndInputLoss_12 : ∃ (s : State) (n : StageId) (rising : Bool) (swing : Rat) (at_ : Nat), s.alive (.pier n) = true ∧ inputActs s n = true ∧ milli (s.objI (Obj.FRT_ZC_HYST n)) ≤ swing ∧ inputReturned s n = true ∧ s.frt[n].hold = some at_ ∧ s.frt[n].lost = true ∧ s.frt[n].crossings = [] :=
  ⟨((staged .form 0x102 .run).modRide 1 fun f => { f with lost := true, hold := some 0, aboveSince := some 0 }).later 409600000, 1, true, 1, 0, by decide +kernel⟩

theorem witness_RideThroughAndInputLoss_13 : ∃ (s : State) (n : StageId) (rising : Bool) (swing : Rat) (at_ : Nat) (z1 : Nat) (z2 : Nat), s.alive (.pier n) = true ∧ inputActs s n = true ∧ milli (s.objI (Obj.FRT_ZC_HYST n)) ≤ swing ∧ s.frt[n].hold = some at_ ∧ s.frt[n].lost = true ∧ s.frt[n].crossings = [(z1, rising), (z2, !rising)] ∧ z1 < s.now :=
  ⟨((staged .form 0x102 .run).modRide 1 fun f => { f with lost := true, hold := some 0, crossings := [(1, true), (2, false)] }).later 8192000, 1, true, 1, 0, 1, 2, by decide +kernel⟩

theorem witness_SurveyAndCanary_1 : ∃ (s : State) (n : StageId), s.alive (.pier n) = true ∧ s.isGfi n = true ∧ s.srv[n].active = false ∧ s.srv[n].startedAt = none ∧ cyclesSec ≤ s.since (max s.srv[n].runSince s.mod.enteredAt) ∧ surveyBar s n = 0 :=
  ⟨((staged .form 0x101 .run).setBit (Obj.SRV_CONFIG 1) 0 true).later 409600000, 1, by decide +kernel⟩

theorem witness_SurveyAndCanary_2 : ∃ (s : State) (n : StageId), surveyBar s n ≠ 0 :=
  ⟨live .ready, 1, by decide +kernel⟩

theorem witness_SurveyAndCanary_3 : ∃ (s : State) (n : StageId) (at_ : Nat), s.alive (.pier n) = true ∧ s.isGfi n = true ∧ s.srv[n].active = false ∧ s.srv[n].startedAt = some at_ ∧ s.objN (Obj.SRV_PERIOD n) * 100 * cyclesMs ≤ s.since at_ ∧ surveyBar s n = 0 :=
  ⟨(((staged .form 0x101 .run).setBit (Obj.SRV_CONFIG 1) 0 true).modSurvey 1 fun v => { v with startedAt := some 0 }).later 900000000000, 1, 0, by decide +kernel⟩

theorem witness_SurveyAndCanary_4 : ∃ (s : State) (n : StageId) (instant : Nat), s.alive (.pier n) = true ∧ s.srv[n].active = true ∧ s.srv[n].startedAt.getD s.now + (1 + s.srv[n].cfg.getD 1 0) * 4095 * chipDiv s n * s.tu n ≤ instant ∧ instant ≤ s.now :=
  ⟨((staged .form 0x101 .run).modSurvey 1 fun v => { v with active := true, startedAt := some 0, cfg := [0, 0, 1, 0] }).later 900000000000, 1, 900000000000, by decide +kernel⟩

theorem witness_SurveyAndCanary_5 : ∃ (s : State) (n : StageId) (instant : Nat), s.alive (.pier n) = true ∧ s.srv[n].active = true ∧ s.srv[n].startedAt.getD s.now + (1 + s.srv[n].cfg.getD 1 0) * 4095 * chipDiv s n * s.tu n ≤ instant ∧ instant ≤ s.now ∧ s.standby = false ∧ s.srv[n].record.length < 4095 ∧ 0 < s.srv[n].cfg.getD 2 0 ∧ s.hasRoom 1 = true :=
  ⟨((staged .form 0x101 .run).modSurvey 1 fun v => { v with active := true, startedAt := some 0, cfg := [0, 0, 1, 0] }).later 900000000000, 1, 900000000000, by decide +kernel⟩

theorem witness_SurveyAndCanary_6 : ∃ (s : State) (n : StageId) (instant : Nat), s.alive (.pier n) = true ∧ s.srv[n].active = true ∧ s.srv[n].startedAt.getD s.now + (1 + s.srv[n].cfg.getD 1 0) * 4095 * chipDiv s n * s.tu n ≤ instant ∧ instant ≤ s.now ∧ s.standby = true :=
  ⟨((((staged .form 0x101 .run).modTwn fun t => { t with mode := 2, formed := true })).modSurvey 1 fun v => { v with active := true, startedAt := some 0 }).later 900000000000, 1, 900000000000, by decide +kernel⟩

theorem witness_SurveyAndCanary_7 : ∃ (s : State) (n : StageId) (j : Fin 6), s.alive (.pier n) = true ∧ s.dispatching n = true ∧ s.srv[n].acted[j] = false ∧ s.objN (Obj.SRV_CAN_PERSIST n) ≤ s.srv[n].above[j] ∧ s.hasRoom 1 = true :=
  ⟨((staged .form 0x101 .run).setN (Obj.SRV_CAN_REACT 1 2) 1).modSurvey 1 fun v => { v with above := .replicate 6 100000 }, 1, 2, by decide +kernel⟩

theorem witness_PierSamplesAndTests_1 : ∃ (s : State) (p : StageId) (smp : Sample), s.alive (.pier p) = true ∧ s.stg[p].st = .armed ∧ s.isGfi p = false ∧ smp.mem = none ∧ s.pie[p].postDone = true ∧ s.commitWrites = [] ∧ s.isl.held = [] ∧ s.objN (Obj.PIE_OVERRUN_LIMIT p) > s.pie[p].overrunRun + 1 :=
  ⟨(staged .form 0x103 .armed).setN (Obj.PIE_OVERRUN_LIMIT 1) 9, 1, zeroSample, by decide +kernel⟩

theorem witness_PierSamplesAndTests_2 : ∃ (s : State) (p : StageId) (offset : Nat) (w : Work), s.alive (.pier p) = true ∧ s.pie[p].work = some w ∧ offset < deadline s p ∧ s.srv[p].due = [] :=
  ⟨(((staged .form 0x101 .run).setN (Obj.PIE_UPDATE_PERIOD 1) 40960).setN (Obj.PIE_DEADLINE 1) 50).modPier 1 fun p => { p with work := some plainWork }, 1, 7, plainWork, by decide +kernel⟩

theorem witness_PierSamplesAndTests_3 : ∃ (s : State) (p : StageId) (offset : Nat) (w : Work), s.alive (.pier p) = true ∧ s.pie[p].work = some w ∧ deadline s p ≤ offset ∧ s.objN (Obj.PIE_OVERRUN_LIMIT p) > s.pie[p].overrunRun + 1 ∧ s.hasRoom 1 = true :=
  ⟨((staged .form 0x101 .run).setN (Obj.PIE_OVERRUN_LIMIT 1) 9).modPier 1 fun p => { p with work := some plainWork }, 1, 700000, plainWork, by decide +kernel⟩

theorem witness_PierSamplesAndTests_4 : ∃ (s : State) (p : StageId) (w : Work), s.alive (.pier p) = true ∧ s.pie[p].work = some w ∧ s.objN (Obj.PIE_OVERRUN_LIMIT p) > s.pie[p].overrunRun + 1 ∧ s.hasRoom 1 = true :=
  ⟨((staged .form 0x101 .run).setN (Obj.PIE_OVERRUN_LIMIT 1) 9).modPier 1 fun p => { p with work := some plainWork }, 1, plainWork, by decide +kernel⟩

theorem witness_PierSamplesAndTests_5 : ∃ (s : State) (p : StageId) (total : Nat) (w : PostWork), s.alive (.pier p) = true ∧ s.pie[p].selftest = none ∧ s.pie[p].post = some w :=
  ⟨(staged .form 0x101 .run).modPier 1 fun p => { p with post := some ⟨[], ⟨[], [], none⟩, 5, 6⟩ }, 1, 77, ⟨[], ⟨[], [], none⟩, 5, 6⟩, by decide +kernel⟩

theorem witness_PierSamplesAndTests_6 : ∃ (s : State) (p : StageId) (pass : Bool), s.alive (.pier p) = true ∧ s.alive .keystone = true ∧ s.bit (Obj.PIE_CONFIG p) 2 = true :=
  ⟨(live .form).setBit (Obj.PIE_CONFIG 1) 2 true, 1, false, by decide +kernel⟩

theorem witness_PierSamplesAndTests_7 : ∃ (s : State) (p : StageId) (duration : Nat), Inv s ∧ s.alive (.pier p) = true ∧ s.bit (Obj.PIE_CONFIG p) 2 = true ∧ s.objN (Obj.PIE_BIST_PERIOD p) * cyclesMs ≤ s.since s.pie[p].bistAt ∧ s.hasRoom 1 = true :=
  ⟨((live .form).setBit (Obj.PIE_CONFIG 1) 2 true).later 90000000000, 1, 7, inv_of (by decide +kernel), by decide +kernel⟩

theorem witness_PierSamplesAndTests_8 : ∃ (s : State) (p : StageId) (w : Writer), s.serves w (.pier p) = true ∧ s.mod.mode = .ready :=
  ⟨live .ready, 1, .port 1 0, by decide +kernel⟩

theorem witness_PierSamplesAndTests_9 : ∃ (s : State) (p : StageId) (inst : Nat) (w : Writer), s.serves w (.pier p) = true :=
  ⟨(live .ready).modPier 1 fun p => { p with blocks := [⟨⟨1, 0, false, [], [], []⟩, [], [], [], 0, false⟩] }, 1, 0, .port 1 0, by decide +kernel⟩

theorem witness_PierSamplesAndTests_10 : ∃ (s : State) (p : StageId) (failing : Option Nat) (at_ : Nat), Inv s ∧ s.alive (.pier p) = true ∧ s.pie[p].selftest = some at_ ∧ 480 ≤ s.since at_ ∧ s.twn.arb = none ∧ s.hasRoom 1 = true :=
  ⟨((live .form).modPier 1 fun p => { p with selftest := some 0 }).later 480, 1, some 7, 0, inv_of (by decide +kernel), by decide +kernel⟩

theorem witness_SetsAndEdgeChecks_1 : ∃ (s : State) (p : StageId) (words : List Nat) (x : CmdSet), s.alive .edge = true ∧ s.pie[p].out = some words ∧ setOfWords s p false words = some x ∧ setFault s p false (some x) = none ∧ x.instant ≤ s.replicaOf .edge + 2147483648 :=
  ⟨(staged .form 0x101 .run).modPier 1 fun p => { p with out := some (encodeSet plainSet) }, 1, encodeSet plainSet, plainSet, by decide +kernel⟩

theorem witness_SetsAndEdgeChecks_2 : ∃ (s : State) (p : StageId) (words : List Nat) (sent : List Nat) (why : Nat) (b : Before), s.alive .edge = true ∧ s.pie[p].out = some sent ∧ setFault s p false (if words = sent then setOfWords s p false words else none) = some why ∧ s.pie[p].before = some b ∧ s.pie[p].selftestDue = false ∧ s.pie[p].overrunRun + 1 < s.objN (Obj.PIE_OVERRUN_LIMIT p) ∧ s.hasRoom 1 = true :=
  ⟨((staged .form 0x101 .run).setN (Obj.PIE_OVERRUN_LIMIT 1) 9).modPier 1 fun p => { p with out := some [1], before := some ⟨lawInit, [], ⟨ShareSt.init, none, []⟩⟩ }, 1, [2], [1], 1, ⟨lawInit, [], ⟨ShareSt.init, none, []⟩⟩, by decide +kernel⟩

theorem witness_SetsAndEdgeChecks_3 : ∃ (s : State) (p : StageId) (words : List Nat) (x : CmdSet), s.alive .edge = true ∧ s.pie[p].out = some words ∧ setOfWords s p false words = some x ∧ setFault s p false (some x) = none ∧ s.replicaOf .edge + 2147483648 < x.instant ∧ s.hasRoom 1 = true :=
  ⟨(staged .form 0x101 .run).modPier 1 fun p => { p with out := some (encodeSet { plainSet with instant := 9000000000 }) }, 1, encodeSet { plainSet with instant := 9000000000 }, { plainSet with instant := 9000000000 }, by decide +kernel⟩

theorem witness_SetsAndEdgeChecks_4 : ∃ (s : State) (p : StageId) (words : List Nat), s.pie[p].out = none :=
  ⟨staged .form 0x101 .run, 1, encodeSet plainSet, by decide +kernel⟩

theorem witness_SetsAndEdgeChecks_5 : ∃ (s : State) (p : StageId) (words : List Nat) (x : CmdSet), s.alive .edge = true ∧ setOfWords s p true words = some x ∧ setFault s p true (some x) = none ∧ x.provisional = false ∧ x.instant ≤ s.replicaOf .edge + 2147483648 :=
  ⟨staged .form 0x101 .run, 1, encodeSet plainSet, { plainSet with chans := [] }, by decide +kernel⟩

theorem witness_SetsAndEdgeChecks_6 : ∃ (s : State) (p : StageId) (partner : Bool) (words : List Nat) (set : CmdSet) (c : ChanId) (cs : ChanSet) (t_ : Fin 4) (pos : Int), s.alive .edge = true ∧ setOfWords s p partner words = some set ∧ set.provisional = true ∧ s.edg.sets[setOwner p partner].safe = false ∧ (partner = true ∨ stagesAhead s p = true) ∧ ownedChans s (setOwner p partner).val = [c] ∧ set.chans = [cs] ∧ trigPos (cs.triggers.getD t_ 0) = some pos ∧ earlyPos s p pos = true ∧ s.edg.ch[c].arms = [] :=
  ⟨((((((staged .form 0x101 .run).setN (Obj.PIE_UPDATE_PERIOD 1) 40960).setN (Obj.EDG_CH_CFG 0) 15).setN (Obj.EDG_CH_CFG 3) 1).setBit (Obj.PIE_CONFIG 1) 1 true).modPier 1 fun p => { p with provisional := true }), 1, false, encodeSet { plainSet with provisional := true, chans := [⟨[0, 0, 0, 0], [4294000000, 0, 0, 0], 0⟩] }, { plainSet with provisional := true, chans := [⟨[0, 0, 0, 0], [4294000000, 0, 0, 0], 0⟩] }, 3, ⟨[0, 0, 0, 0], [4294000000, 0, 0, 0], 0⟩, 0, -967296, by decide +kernel⟩

theorem witness_SetsAndEdgeChecks_7 : ∃ (s : State) (p : StageId) (words : List Nat), stagesAhead s p = false :=
  ⟨staged .form 0x101 .run, 1, encodeSet plainSet, by decide +kernel⟩

theorem witness_SetsAndEdgeChecks_8 : ∃ (s : State) (ch : ChanId) (t_ : Fin 4) (a : Arm), s.alive .edge = true ∧ s.edg.ch[ch].arms = [a] ∧ a.trig = t_.val ∧ a.fired = none ∧ a.at_ ≤ now32 s :=
  ⟨(live .form).modCh 3 fun h => { h with arms := [⟨1, 2, 0, false, none, false⟩] }, 3, 2, ⟨1, 2, 0, false, none, false⟩, by decide +kernel⟩

theorem witness_SetsAndEdgeChecks_9 : ∃ (s : State) (failing : List (Fin 48)), s.alive .edge = true ∧ cyclesMs ≤ s.since s.edg.recalAt ∧ s.hasRoom 48 = true ∧ failing.Nodup :=
  ⟨(live .form).later 409600, [3, 30], by decide +kernel⟩

theorem witness_SetsAndEdgeChecks_10 : ∃ (s : State), s.alive .edge = true ∧ 256 ≤ s.since s.edg.beatAt :=
  ⟨(live .form).later 256, by decide +kernel⟩

theorem witness_SetsAndEdgeChecks_11 : ∃ (s : State) (on : Bool) (w : Writer), s.serves w .edge = true ∧ serviceOk s w = true ∧ s.mod.mode = .ready ∧ s.edg.raw ≠ on ∧ s.hasRoom 1 = true :=
  ⟨(live .ready).serviced, true, .port 1 0, by decide +kernel⟩

theorem witness_SetsAndEdgeChecks_12 : ∃ (s : State) (low : Bool) (mask : Nat) (w : Writer), s.serves w .edge = true ∧ s.mod.mode.running = false ∧ mask < 16777216 :=
  ⟨live .ready, false, 5, .port 1 0, by decide +kernel⟩

theorem witness_TimebasesAndReloads_1 : ∃ (s : State) (tb : TbId) (z : Nat), s.alive .edge = true ∧ tbStartAt s tb = some z ∧ z ≤ s.now ∧ s.edg.tb[tb].running = false :=
  ⟨((live .form).modEdg fun e => { e with loadedAt := some 0 }).later 16777216, 0, 16777216, by decide +kernel⟩

theorem witness_TimebasesAndReloads_2 : ∃ (s : State) (tb : TbId) (n : StageId), s.alive .edge = true ∧ s.edg.tb[tb].running = true ∧ s.twn.mode = 0 ∧ s.objN (Obj.PIE_TIMEBASE n) = tb.val ∧ s.stype n ≠ .none ∧ 0 < sampleInterval s tb ∧ 0 < s.tu n / sampleInterval s tb ∧ s.edg.tb[tb].triggers % (s.tu n / sampleInterval s tb) = 0 ∧ s.fenced (.pier n) = false :=
  ⟨((((staged .form 0x101 .run).setN (Obj.PIE_TIMEBASE 1) 0).setN (Obj.EDG_TB_PERIOD 0) 40960).setN (Obj.PIE_UPDATE_PERIOD 1) 81920).modTb 0 fun x => { x with running := true, triggers := 4 }, 0, 1, by decide +kernel⟩

theorem witness_TimebasesAndReloads_3 : ∃ (s : State) (tb : TbId) (peak : Bool), s.alive .edge = true ∧ pointDue s tb peak = true :=
  ⟨(((live .form).setN (Obj.EDG_TB_PERIOD 0) 4096).modTb 0 fun x => { x with running := true, cmds := [⟨0, true, 5, .keystone, 0⟩] }).later 4096, 0, false, by decide +kernel⟩

theorem witness_TimebasesAndReloads_4 : ∃ (s : State) (tb : TbId) (peak : Bool), pointDue s tb peak = false :=
  ⟨live .form, 0, false, by decide +kernel⟩

theorem witness_TimebasesAndReloads_5 : ∃ (s : State) (tb : TbId) (o : Fin 8) (f : CmdSet) (c : ChanId), s.alive .edge = true ∧ pointDue s tb false = true ∧ s.commitWrites = [] ∧ s.edg.tb[tb].cmds = [] ∧ s.edg.sets[o].shadow = some f ∧ f.instant ≤ s.replicaOf .edge ∧ ownedChans s o.val ≠ [] ∧ (∀ c ∈ ownedChans s o.val, chanTb s c = tb ∧ reloadsAt s c false = true) :=
  ⟨((((staged .form 0x101 .run).setN (Obj.EDG_CH_CFG 3) 1).setN (Obj.EDG_TB_PERIOD 0) 4096).modSet 1 fun x => { x with shadow := some plainSet }).modTb 0 (fun x => { x with running := true }) |>.later 4096, 0, 1, plainSet, 3, by decide +kernel⟩

theorem witness_TimebasesAndReloads_6 : ∃ (s : State) (tb : TbId) (period : Nat) (inst : Nat) (w : Writer), s.serves w .edge = true ∧ tbBusy s tb = false ∧ tbValueBad s tb false period = 0 ∧ (inst = 0 ∨ (s.edg.tb[tb].lastZero < inst ∧ inst ≤ s.replicaOf .edge + 2147483648)) ∧ s.edg.tb[tb].cmds.any (tbMeets inst (writerSource w)) = false :=
  ⟨live .ready, 2, 8192, 0, .port 1 0, by decide +kernel⟩

theorem witness_TimebasesAndReloads_7 : ∃ (s : State) (tb : TbId) (delta : Int) (inst : Nat) (w : Writer), s.serves w .edge = true ∧ tbBusy s tb = false ∧ tbValueBad s tb true delta = 0 ∧ s.edg.tb[tb].running = true ∧ inst ≠ 0 ∧ inst ≤ s.edg.tb[tb].lastZero ∧ inst ≤ s.replicaOf .edge + 2147483648 ∧ s.edg.tb[tb].cmds.any (tbMeets inst (writerSource w)) = false ∧ s.hasRoom 1 = true :=
  ⟨((live .ready).modTb 2 fun x => { x with running := true, lastZero := 9 }).later 20, 2, 10, 5, .port 1 0, by decide +kernel⟩

theorem witness_TimebasesAndReloads_8 : ∃ (s : State) (tb : TbId) (period : Nat) (inst : Nat) (w : Writer) (c : TbCmd), s.serves w .edge = true ∧ c ∈ s.edg.tb[tb].cmds ∧ tbMeets inst (writerSource w) c = true ∧ comesFirst (c.src, c.channel) (writerSource w) = true :=
  ⟨(live .ready).modTb 2 fun x => { x with cmds := [⟨77, false, 8192, .keystone, 0⟩] }, 2, 8192, 77, .port 1 0, ⟨77, false, 8192, .keystone, 0⟩, by decide +kernel⟩

theorem witness_TimebasesAndReloads_9 : ∃ (s : State) (ch : ChanId) (ctrl : Nat) (w : Writer), Inv s ∧ s.serves w .edge = true ∧ ctrl < 64 :=
  ⟨live .ready, 2, 5, .port 1 0, inv_of (by decide +kernel), by decide +kernel⟩

theorem witness_TripGroups_1 : ∃ (s : State) (src : SrcId) (r : Reading), s.alive .edge = true ∧ srcHolds s src false r.value = true ∧ srcSettled s src r = true ∧ srcSuppressed s src = false ∧ src ∉ s.edg.active :=
  ⟨(((live .form).setBit (Obj.EDG_TRG_CFG 2) 0 true).setN (Obj.EDG_TRG_SRC 2 0) 1).setN (Obj.EDG_TRG_CHANNELS 2) 8, 0, ⟨0, 100000⟩, by decide +kernel⟩

theorem witness_TripGroups_2 : ∃ (s : State) (src : SrcId) (r : Reading), s.alive .edge = true ∧ srcHolds s src true r.value = false ∧ srcSettled s src r = true :=
  ⟨(live .form).modEdg fun e => { e with active := [3, 7] }, 3, ⟨5, 100000⟩, by decide +kernel⟩

theorem witness_TripGroups_3 : ∃ (s : State) (g : GroupId), s.alive .edge = true ∧ s.mod.mode ≠ .adit ∧ s.edg.grp[g].latched = false ∧ 0 < s.edg.grp[g].c ∧ grpN s g ≤ s.edg.grp[g].c ∧ s.hasRoom 1 = true :=
  ⟨(((staged .form 0x101 .run).setN (Obj.EDG_CH_CFG 3) 1).setN (Obj.EDG_TRG_CHANNELS 2) 8).modGrp 2 fun x => { x with c := 300 }, 2, by decide +kernel⟩

theorem witness_TripGroups_4 : ∃ (s : State) (g : GroupId), s.alive .edge = true ∧ s.edg.tb[grpTb s g].running = true ∧ s.edg.grp[g].periodAt < s.edg.tb[grpTb s g].lastZero ∧ s.commitWrites = [] ∧ grpActive s g = [] :=
  ⟨((live .form).modGrp 2 fun x => { x with tripped := true }).modTb 0 (fun x => { x with running := true, lastZero := 9 }), 2, by decide +kernel⟩

theorem witness_TripGroups_5 : ∃ (s : State) (g : GroupId), s.alive .edge = true ∧ grpEnabled s g = true ∧ s.edg.grp[g].latched = false ∧ grpM s g ≤ s.edg.grp[g].f :=
  ⟨((live .form).setBit (Obj.EDG_TRG_CFG 2) 0 true).modGrp 2 fun x => { x with c := 3, f := 300 }, 2, by decide +kernel⟩

theorem witness_TripGroups_6 : ∃ (s : State) (g : GroupId) (w : Writer), s.serves w .edge = true ∧ grpActive s g = [] ∧ s.hasRoom 1 = true :=
  ⟨(live .form).modGrp 2 fun x => { x with latched := true }, 2, .logic, by decide +kernel⟩

theorem witness_TripGroups_7 : ∃ (s : State) (g : GroupId) (w : Writer), s.serves w .edge = true ∧ grpActive s g ≠ [] ∧ s.hasRoom 1 = true :=
  ⟨((live .form).setN (Obj.EDG_TRG_SRC 2 0) 1).modEdg fun x => { x with active := [0] }, 2, .logic, by decide +kernel⟩

theorem witness_FibrePorts_1 : ∃ (s : State) (p : PortId) (ns : Nat) (t0 : Nat) (rest : List Nat), s.alive .edge = true ∧ portOn s p = true ∧ grantNow s = true ∧ 150 ≤ ns ∧ ns ≤ 400 ∧ (settlePort p s).gdv.port[p].pendingOn = t0 :: rest ∧ now32 s - ns32 ns ≤ t0 + 13107 :=
  ⟨((live .form).setBit (Obj.GDV_PORT_CFG 3) 0 true).modPort 3 fun f => { f with pendingOn := [5, 6] }, 3, 200, 5, [6], by decide +kernel⟩

theorem witness_FibrePorts_2 : ∃ (s : State) (p : PortId) (ns : Nat) (t0 : Nat) (rest : List Nat), s.alive .edge = true ∧ s.mod.mode ≠ .adit ∧ portOn s p = true ∧ grantNow s = true ∧ (settlePort p s).gdv.port[p].pendingOn = t0 :: rest ∧ ((400 < ns ∧ ns < 2000) ∨ t0 + 13107 < now32 s - ns32 ns) ∧ s.hasRoom 1 = true :=
  ⟨((((staged .form 0x101 .run).setN (Obj.EDG_CH_CFG 3) 1).setN (Obj.EDG_ROUTE 15) 4).setBit (Obj.GDV_PORT_CFG 3) 0 true).modPort 3 fun f => { f with pendingOn := [5, 6] }, 3, 700, 5, [6], by decide +kernel⟩

theorem witness_FibrePorts_3 : ∃ (s : State) (p : PortId) (ns : Nat), s.alive .edge = true ∧ portOn s p = true ∧ grantNow s = true ∧ (settlePort p s).gdv.port[p].pendingOn = [] :=
  ⟨(live .form).setBit (Obj.GDV_PORT_CFG 3) 0 true, 3, 200, by decide +kernel⟩

theorem witness_FibrePorts_4 : ∃ (s : State) (p : PortId) (ns : Nat) (t0 : Nat) (rest : List Nat), s.alive .edge = true ∧ portOn s p = true ∧ grantNow s = true ∧ (settlePort p s).gdv.port[p].pendingOn = t0 :: rest ∧ now32 s - ns32 ns ≤ t0 + 13107 ∧ (ns < 150 ∨ 2000 ≤ ns) :=
  ⟨((live .form).setBit (Obj.GDV_PORT_CFG 3) 0 true).modPort 3 fun f => { f with pendingOn := [5, 6] }, 3, 100, 5, [6], by decide +kernel⟩

theorem witness_FibrePorts_5 : ∃ (s : State) (p : PortId) (ns : Nat), (portOn s p = false ∨ grantNow s = false) :=
  ⟨live .form, 3, 200, by decide +kernel⟩

theorem witness_FibrePorts_6 : ∃ (s : State) (p : PortId) (t0 : Nat) (rest : List Nat), s.alive .edge = true ∧ s.mod.mode ≠ .adit ∧ portOn s p = true ∧ grantNow s = true ∧ (settlePort p s).gdv.port[p].pendingOn = t0 :: rest ∧ t0 + ns32 1020 < now32 s ∧ s.hasRoom 1 = true :=
  ⟨(((((staged .form 0x101 .run).setN (Obj.EDG_CH_CFG 3) 1).setN (Obj.EDG_ROUTE 15) 4).setBit (Obj.GDV_PORT_CFG 3) 0 true).modPort 3 fun f => { f with pendingOn := [5, 6] }).later 90000, 3, 5, [6], by decide +kernel⟩

theorem witness_FibrePorts_7 : ∃ (s : State) (p : PortId), s.alive .edge = true ∧ portOn s p = true ∧ grantNow s = true ∧ ((settlePort p s).gdv.port[p].pendingOn.head?.all fun t0 => decide (now32 s ≤ t0 + ns32 1020)) = true :=
  ⟨((live .form).setBit (Obj.GDV_PORT_CFG 3) 0 true).modPort 3 fun f => { f with pendingOn := [5, 6] }, 3, by decide +kernel⟩

theorem witness_FibrePorts_8 : ∃ (s : State) (p : PortId) (held : Nat) (n : StageId), 2020 ≤ held ∧ s.alive .edge = true ∧ s.mod.mode ≠ .adit ∧ portOn s p = true ∧ s.bit (Obj.GDV_PORT_CFG p) 1 = false ∧ portStage s p = some n ∧ s.hasRoom 1 = true :=
  ⟨((((staged .form 0x101 .run).setN (Obj.EDG_CH_CFG 3) 1).setN (Obj.EDG_ROUTE 15) 4).setBit (Obj.GDV_PORT_CFG 3) 0 true).setBit (Obj.GDV_PORT_CFG 3) 1 false, 3, 2020, 1, by decide +kernel⟩

theorem witness_FibrePorts_9 : ∃ (s : State) (p : PortId) (code : HeadCode), Inv s ∧ s.alive .edge = true ∧ s.gdv.port[p].codeDue = true ∧ 5000 ≤ code.tail ∧ s.hasRoom 1 = true :=
  ⟨(live .form).modPort 3 fun f => { f with codeDue := true }, 3, { dark := 2500, rises := [0, 1000, 2100], tail := 5000 }, inv_of (by decide +kernel), by decide +kernel⟩

theorem witness_FibrePorts_10 : ∃ (s : State) (p : PortId) (code : HeadCode), (s.gdv.port[p].codeDue = false ∨ code.tail < 5000) :=
  ⟨live .form, 3, { dark := 2500, rises := [0, 1000, 2100], tail := 5000 }, by decide +kernel⟩

theorem witness_FibrePorts_11 : ∃ (s : State) (p : PortId) (w : Writer), s.serves w .edge = true ∧ restingStage s (portStage s p) = true ∧ s.gdv.port[p].fault = true ∧ s.hasRoom 1 = true :=
  ⟨(live .form).modPort 3 fun f => { f with fault := true }, 3, .logic, by decide +kernel⟩

theorem witness_FibrePorts_12 : ∃ (s : State) (p : PortId) (w : Writer), s.serves w .edge = true :=
  ⟨(live .form).modPort 3 fun f => { f with fault := true }, 3, .logic, by decide +kernel⟩

theorem witness_GateDriveProtection_1 : ∃ (s : State) (g : GdId), s.alive (.gdPrimary g) = true ∧ s.gdv.pattern[g] = false ∧ (heartbeatLost s g = true ∨ pulseLapsed s g = true) ∧ s.hasRoom 1 = true :=
  ⟨(live .form).later 900, 3, by decide +kernel⟩

theorem witness_GateDriveProtection_2 : ∃ (s : State) (g : GdId), s.alive (.gdPrimary g) = true ∧ heartbeatLost s g = false ∧ s.isl.pulseEnable[g] = true ∧ s.gdv.noHolder[g] = false :=
  ⟨((live .form).modIsl fun x => { x with pulseEnable := .replicate 6 true }).modGdv fun x => { x with pattern := .replicate 6 true }, 3, by decide +kernel⟩

theorem witness_GateDriveProtection_3 : ∃ (s : State) (volts : Rat) (held : Nat), s.mod.powered = true ∧ s.mod.mode ≠ .halt ∧ s.mod.mode ≠ .adit ∧ s.gdv.uvlo = false ∧ volts < 19 ∧ 2000 ≤ held ∧ s.hasRoom 1 = true :=
  ⟨((staged .form 0x101 .run).setN (Obj.EDG_CH_CFG 3) 1).setN (Obj.EDG_ROUTE 2) 4, 12, 2000, by decide +kernel⟩

theorem witness_GateDriveProtection_4 : ∃ (s : State), s.mod.powered = true ∧ s.gdv.uvlo = true ∧ cyclesMs ≤ s.since s.gdv.uvloAt ∧ s.hasRoom 1 = true :=
  ⟨((live .form).modGdv fun x => { x with uvlo := true }).later 9000000000, by decide +kernel⟩

theorem witness_GateDriveProtection_5 : ∃ (s : State) (d : DrvId) (volts : Rat) (held : Nat) (n : StageId), s.alive (.gdSecondary d) = true ∧ s.mod.mode ≠ .adit ∧ s.bit (Obj.GDV_CH_CFG d) 1 = true ∧ s.bit (Obj.GDV_CH_STATUS d) 1 = false ∧ desatSeen s d volts held = true ∧ drvStage s d = some n ∧ s.hasRoom 1 = true :=
  ⟨((((((staged .form 0x101 .run).setN (Obj.EDG_CH_CFG 3) 1).setN (Obj.EDG_ROUTE 2) 4).setBit (Obj.GDV_CH_CFG 2) 1 true).modIsl fun x => { x with pulseEnable := .replicate 6 true }).modCh 3 fun h => { h with high := true }).later 9000000, 2, 90, 100, 1, by decide +kernel⟩

theorem witness_GateDriveProtection_6 : ∃ (s : State) (d : DrvId), s.alive (.gdSecondary d) = true ∧ s.gdv.drv[d].gate = .soft ∧ s.gdv.drv[d].stoTime * 4096 ≤ s.since s.gdv.drv[d].since * 10000 :=
  ⟨((live .form).modDrv 2 fun x => { x with gate := .soft }).later 1000000, 2, by decide +kernel⟩

theorem witness_GateDriveProtection_7 : ∃ (s : State) (d : DrvId) (volts : Rat), s.alive (.gdSecondary d) = true ∧ s.bit (Obj.GDV_CH_CFG d) 0 = true ∧ grantNow s = true ∧ (s.gdv.drv[d].gate = .second ∨ s.gdv.drv[d].gate = .latched ∨ (s.gdv.drv[d].gate = .follow ∧ gateOn s d = false)) ∧ volts < offLevel s d + 2 :=
  ⟨((live .form).setBit (Obj.GDV_CH_CFG 2) 0 true).modDrv 2 fun x => { x with gate := .second }, 2, (-90), by decide +kernel⟩

theorem witness_GateDriveProtection_8 : ∃ (s : State) (d : DrvId) (w : Writer), s.serves w (.gdPrimary (dieOf d)) = true ∧ restingStage s (drvStage s d) = true ∧ s.bit (Obj.GDV_CH_STATUS d) 1 = true ∧ s.hasRoom 1 = true :=
  ⟨(((live .ready).setBit (Obj.GDV_CH_STATUS 2) 1 true).modDrv 2 fun x => { x with gate := .latched }).modEdg fun e => { e with active := [58] }, 2, .port 1 0, by decide +kernel⟩

theorem witness_GateDriveProtection_9 : ∃ (s : State) (n : StageId) (w : Writer), s.serves w .keystone = true ∧ serviceOk s w = true ∧ s.mod.mode = .ready ∧ s.edg.raw = false ∧ linkForDiag s n = true :=
  ⟨((live .ready).serviced).modMod fun m => { m with link := .replicate 4 100 }, 1, .port 1 0, by decide +kernel⟩

theorem witness_ConversionsAndChains_1 : ∃ (s : State) (c : AdcId) (raw : Int), s.alive .sample = true ∧ startType s c = 0 ∧ onGrid s c (s.now - 64) = true ∧ (s.acq.adc[c].hist.head?.map (·.1)) ≠ some (s.now - 64) ∧ s.commitWrites = [] :=
  ⟨(((live .form).setN (Obj.ACQ_CH_START 3) 0).modEdg fun e => { e with loadedAt := some 0 }).later 16781312, 3, 100, by decide +kernel⟩

theorem witness_ConversionsAndChains_2 : ∃ (s : State) (c : AdcId) (raw : Int) (cv : ConvSt), s.alive .sample = true ∧ ((startType s c = 2 ∨ startType s c = 3)) ∧ s.acq.adc[c].conv = some cv ∧ cv.start + 64 ≤ s.now :=
  ⟨(((live .form).setN (Obj.ACQ_CH_START 3) 2).modAdc 3 fun a => { a with conv := some ⟨0, false⟩ }).later 4096, 3, 100, ⟨0, false⟩, by decide +kernel⟩

theorem witness_ConversionsAndChains_3 : ∃ (s : State) (k : Fin 4) (c : AdcId) (e : Nat), s.alive .sample = true ∧ timerEvent s k = some e ∧ s.acq.timer[k] ≠ some e ∧ startedBy s 3 k = [c] ∧ s.acq.adc[c].conv = none :=
  ⟨((((live .form).setN (Obj.ACQ_CH_START 3) (3 + 16)).setN (Obj.ACQ_TMR_PERIOD 1) 1000).modEdg fun e => { e with loadedAt := some 0 }).later 16777916, 1, 3, 16777216, by decide +kernel⟩

theorem witness_ConversionsAndChains_4 : ∃ (s : State) (w : Writer), s.serves w .sample = true ∧ serviceOk s w = true ∧ s.mod.mode = .ready ∧ s.acq.selfCal = none :=
  ⟨(live .ready).serviced, .port 1 0, by decide +kernel⟩

theorem witness_ConversionsAndChains_5 : ∃ (s : State) (readings : Vector DacReading 24) (at_ : Nat), s.alive .sample = true ∧ s.acq.selfCal = some at_ ∧ 18 * cyclesMs ≤ s.since at_ ∧ (∀ c : AdcId, calFails (calFactors s c readings[c]) = false) ∧ s.hasRoom 1 = true :=
  ⟨((live .survey).modAcq fun a => { a with selfCal := some 0 }).later 9000000, .replicate 24 goodReading, 0, by decide +kernel⟩

theorem witness_ConversionsAndChains_6 : ∃ (s : State) (c : ChainId) (bits : List Bool) (x : Int × Nat × Nat) (xs : List (Int × Nat × Nat)), s.alive .sample = true ∧ chainOn s c = true ∧ s.acq.chain[c].checkFailed = false ∧ s.commitWrites = [] ∧ nextInputs s c bits = x :: xs :=
  ⟨(((live .form).setBit (Obj.ACQ_FC_CFG 3) 0 true).modChain 3 fun h => { h with queue := [(7, 0, 5), (8, 0, 69)] }).later 100000, 3, [], (7, 0, 5), [], by decide +kernel⟩

theorem witness_ConversionsAndChains_7 : ∃ (s : State) (c : ChainId) (bits : List Bool), chainOn s c = true ∧ s.acq.chain[c].checkFailed = false ∧ nextInputs s c bits = [] :=
  ⟨(live .form).setBit (Obj.ACQ_FC_CFG 3) 0 true, 3, [], by decide +kernel⟩

theorem witness_ConversionsAndChains_8 : ∃ (s : State) (c : ChainId) (inst : Nat) (w : Writer), s.serves w .sample = true ∧ s.acq.chain[c].switch_ = none ∧ s.acq.chain[c].fade = none ∧ inst ≤ s.replicaOf .sample + 2147483648 :=
  ⟨live .form, 3, 7, .logic, by decide +kernel⟩

theorem witness_ConversionsAndChains_9 : ∃ (s : State) (c : ChainId) (inst : Nat) (w : Writer), s.serves w .sample = true ∧ (s.acq.chain[c].switch_ ≠ none ∨ s.acq.chain[c].fade ≠ none) :=
  ⟨(live .form).modChain 3 fun h => { h with fade := some 3 }, 3, 7, .logic, by decide +kernel⟩

theorem witness_ConversionsAndChains_10 : ∃ (s : State) (c : ChainId) (k : Nat), s.alive .sample = true ∧ s.acq.chain[c].fade = some k ∧ s.objN (Obj.ACQ_FC_FADE c) ≤ k :=
  ⟨(live .form).modChain 3 fun h => { h with fade := some 300 }, 3, 300, by decide +kernel⟩

theorem witness_DiagnosisAndSubstitution_1 : ∃ (s : State) (c : AdcId) (w : Writer), s.serves w .sample = true ∧ diagAccepted s c w = true :=
  ⟨(live .ready).serviced, 3, .port 1 0, by decide +kernel⟩

theorem witness_DiagnosisAndSubstitution_2 : ∃ (s : State) (c : AdcId) (w : Writer), s.serves w .sample = true ∧ restoreAccepted s c w = true :=
  ⟨((live .ready).serviced).modAdc 3 fun a => { a with subst := true }, 3, .port 1 0, by decide +kernel⟩

theorem witness_DiagnosisAndSubstitution_3 : ∃ (s : State) (r : DacReading) (c : AdcId) (at_ : Nat), s.alive .sample = true ∧ s.acq.diag = some (c, at_, none) ∧ 3 * cyclesMs ≤ s.since at_ ∧ mkRat 2 10 < diagDeviation s c r ∧ s.hasRoom 1 = true :=
  ⟨(((live .ready).setN (Obj.ACQ_CH_SUBST 3) 5).modAcq fun a => { a with diag := some (3, 0, none) }).later 9000000, { goodReading with zero := 900 }, 3, 0, by decide +kernel⟩

theorem witness_DiagnosisAndSubstitution_4 : ∃ (s : State) (r : DacReading) (c : AdcId) (at_ : Nat) (w : Writer), s.alive .sample = true ∧ s.acq.diag = some (c, at_, some w) ∧ 3 * cyclesMs ≤ s.since at_ ∧ diagDeviation s c r ≤ mkRat 2 10 ∧ s.hasRoom 1 = true :=
  ⟨((live .ready).modAcq fun a => { a with diag := some (3, 0, some (.port 1 0)) }).later 9000000, goodReading, 3, 0, .port 1 0, by decide +kernel⟩

theorem witness_DiagnosisAndSubstitution_5 : ∃ (s : State) (c : AdcId) (m : Rat), s.alive .sample = true ∧ s.bit (Obj.ACQ_CH_CFG c) 6 = true ∧ startType s c ≠ 0 ∧ readBy s c.val = false ∧ dacBusy s = false ∧ idleSlots s c = true :=
  ⟨((live .form).setN (Obj.ACQ_CH_START 3) 2).setBit (Obj.ACQ_CH_CFG 3) 6 true, 3, 256, by decide +kernel⟩

theorem witness_DiagnosisAndSubstitution_6 : ∃ (s : State) (c : AdcId) (cause : Nat), s.alive .sample = true ∧ atBoundary s c = true ∧ s.acq.adc[c].substCause = some cause ∧ s.hasRoom 1 = true :=
  ⟨((live .form).modAdc 3 fun a => { a with substCause := some 2 }).modEdg fun e => { e with active := [14, 5] }, 3, 2, by decide +kernel⟩

theorem witness_DiagnosisAndSubstitution_7 : ∃ (s : State) (k : SdId) (quiet : Nat) (same : Nat), s.alive .sample = true ∧ s.bit (Obj.ACQ_SD_CFG k) 0 = true ∧ s.acq.sdFault[k] = false ∧ (((sdQuiet s k).any fun q => decide (q ≤ (quiet : Rat))) = true ∨ 128 ≤ same) ∧ s.hasRoom 1 = true :=
  ⟨(live .form).setBit (Obj.ACQ_SD_CFG 3) 0 true, 3, 0, 128, by decide +kernel⟩

theorem witness_DiagnosisAndSubstitution_8 : ∃ (s : State) (k : SdId) (good : Nat), s.alive .sample = true ∧ s.acq.sdFault[k] = true ∧ 256 ≤ good :=
  ⟨(live .form).modAcq fun a => { a with sdFault := .replicate 8 true }, 3, 256, by decide +kernel⟩

theorem witness_GalleryTriggersAndStreams_1 : ∃ (s : State) (p : StageId), s.alive (.pier p) = true ∧ s.gal[p].holdoff = some 0 :=
  ⟨(live .form).modGal 1 fun g => { g with holdoff := some 0 }, 1, by decide +kernel⟩

theorem witness_GalleryTriggersAndStreams_2 : ∃ (s : State) (p : StageId) (w : Writer), s.serves w (.pier p) = true ∧ s.objN (Obj.GAL_TRG_MASK p) ≠ 0 :=
  ⟨(live .ready).setN (Obj.GAL_TRG_MASK 1) 1, 1, .port 1 0, by decide +kernel⟩

theorem witness_GalleryTriggersAndStreams_3 : ∃ (s : State) (p : StageId) (w : Writer), s.serves w (.pier p) = true ∧ s.objN (Obj.GAL_TRG_MASK p) = 0 :=
  ⟨(live .ready).setN (Obj.GAL_TRG_MASK 1) 0, 1, .port 1 0, by decide +kernel⟩

theorem witness_GalleryTriggersAndStreams_4 : ∃ (s : State) (p : StageId) (w : Writer), s.serves w (.pier p) = true ∧ portRate s p (s.objN (Obj.GAL_DEST_PORT p)) (galNodes s p).length (galDivider s p) ≤ 600000000 :=
  ⟨live .ready, 1, .port 1 0, by decide +kernel⟩

theorem witness_GalleryTriggersAndStreams_5 : ∃ (s : State) (p : StageId) (w : Writer), s.serves w (.pier p) = true ∧ 600000000 < portRate s p (s.objN (Obj.GAL_DEST_PORT p)) (galNodes s p).length (galDivider s p) ∧ s.hasRoom 1 = true :=
  ⟨((live .ready).setN (Obj.PIE_UPDATE_PERIOD 1) 40).setBit (Obj.GAL_NODE 1 0) 31 true, 1, .port 1 0, by decide +kernel⟩

theorem witness_GalleryTriggersAndStreams_6 : ∃ (s : State) (p : StageId), s.alive (.pier p) = true ∧ s.gal[p].datagram ≠ [] ∧ cyclesMs ≤ s.since s.gal[p].openedAt ∧ portUp s (s.objN (Obj.GAL_DEST_PORT p)) = true :=
  ⟨(((live .form).linked.setN (Obj.GAL_DEST_PORT 1) 3).modGal 1 fun g => { g with datagram := [aRecord] }).later 500000, 1, by decide +kernel⟩

theorem witness_GalleryTriggersAndStreams_7 : ∃ (s : State) (p : StageId), portUp s (s.objN (Obj.GAL_DEST_PORT p)) = false :=
  ⟨((live .form).setN (Obj.GAL_DEST_PORT 1) 3).modGal 1 fun g => { g with datagram := [aRecord] }, 1, by decide +kernel⟩

theorem witness_GalleryTriggersAndStreams_8 : ∃ (s : State) (p : StageId) (k : Nat) (w : Writer), s.serves w (.pier p) = true :=
  ⟨(live .ready).modGal 1 fun g => { g with ring := [aRecord] }, 1, 5, .port 1 0, by decide +kernel⟩

theorem witness_GalleryTriggersAndStreams_9 : ∃ (s : State) (p : StageId) (k : Nat) (c : Nat) (se : Nat) (r : GalRec), s.serves (.port c se) (.pier p) = true ∧ galFind s p k = some r :=
  ⟨(live .ready).modGal 1 fun g => { g with ring := [aRecord] }, 1, 5, 1, 0, aRecord, by decide +kernel⟩

theorem witness_PtpTraffic_1 : ∃ (s : State) (b : Fin 2), domainUp s b = true ∧ s.clk.base[base3 b].gm = true ∧ intervalOver s b 0 = true :=
  ⟨(((live .form).linked.setBit (Obj.TIM_NTA_CFG 0) 0 true).modBase 0 fun x => { x with gm := true }).later 900000000000, 0, by decide +kernel⟩

theorem witness_PtpTraffic_2 : ∃ (s : State) (b : Fin 2), domainUp s b = true ∧ s.clk.base[base3 b].gm = true ∧ intervalOver s b 1 = true :=
  ⟨(((live .form).linked.setBit (Obj.TIM_NTA_CFG 0) 0 true).modBase 0 fun x => { x with gm := true }).later 900000000000, 0, by decide +kernel⟩

theorem witness_PtpTraffic_3 : ∃ (s : State) (b : Fin 2), domainUp s b = true ∧ s.bit (Obj.TIM_NTA_CFG b) 5 = true ∧ intervalOver s b 2 = true :=
  ⟨(((live .form).linked.setBit (Obj.TIM_NTA_CFG 0) 0 true).setBit (Obj.TIM_NTA_CFG 0) 5 true).later 900000000000, 0, by decide +kernel⟩

theorem witness_PtpTraffic_4 : ∃ (s : State) (b : Fin 2) (peer : Bool) (t1 : Rat) (t2 : Rat) (t3 : Rat) (t4 : Rat) (correction : Rat), domainUp s b = true ∧ peer = s.bit (Obj.TIM_NTA_CFG b) 5 :=
  ⟨((live .form).linked.setBit (Obj.TIM_NTA_CFG 0) 0 true), 0, false, 0, 80, 100, 190, 10, by decide +kernel⟩

theorem witness_PtpTraffic_5 : ∃ (s : State) (b : Fin 2), domainUp s b = true ∧ s.clk.base[base3 b].gm = true ∧ s.bit (Obj.TIM_NTA_CFG b) 5 = false :=
  ⟨(((live .form).linked.setBit (Obj.TIM_NTA_CFG 0) 0 true).modBase 0 fun x => { x with gm := true }).later 900000000000, 0, by decide +kernel⟩

theorem witness_PtpTraffic_6 : ∃ (s : State) (toE2 : Bool) (frame : PtpFrame) (residence : Nat) (linkDelay : Rat), s.alive .network = true ∧ s.clk.netLocked = true ∧ s.bit Obj.NET_STATUS 0 = false ∧ (frame ≠ .pdelayReq ∨ s.bit Obj.TIM_TC_CFG 1 = false) :=
  ⟨((live .form).linked.setBit Obj.TIM_TC_CFG 0 true).setBit Obj.NET_STATUS 0 false, true, .sync, 100, 0, by decide +kernel⟩

theorem witness_PtpTraffic_7 : ∃ (s : State) (toE2 : Bool) (residence : Nat) (linkDelay : Rat), s.alive .network = true ∧ s.clk.netLocked = true ∧ s.bit Obj.NET_STATUS 0 = false ∧ s.bit Obj.TIM_TC_CFG 0 = true ∧ s.bit Obj.TIM_TC_CFG 1 = true :=
  ⟨(((live .form).linked.setBit Obj.TIM_TC_CFG 0 true).setBit Obj.TIM_TC_CFG 1 true).setBit Obj.NET_STATUS 0 false, true, 100, 0, by decide +kernel⟩

theorem witness_ReferencesAndLoops_1 : ∃ (s : State) (r : Fin 3) (gap : Nat), s.clk.pllOn = true ∧ 32 ≤ gap ∧ s.clk.refOk[r] = true :=
  ⟨(live .form).referenced, 0, 32, by decide +kernel⟩

theorem witness_ReferencesAndLoops_2 : ∃ (s : State) (r : Fin 3), s.clk.pllOn = true ∧ s.clk.active = none ∧ (r ≠ 2 ∨ partnerFirst s = true) ∧ cyclesMs ≤ healthyFor s r ∧ s.hasRoom 1 = true :=
  ⟨((live .form).modClk fun c => { c with pllOn := true }).later 500000, 1, by decide +kernel⟩

theorem witness_ReferencesAndLoops_3 : ∃ (s : State) (r : Fin 3), s.clk.pllOn = true ∧ 10 * cyclesSec ≤ healthyFor s r ∧ (r ≠ 2 ∨ partnerLine s = true) :=
  ⟨(live .form).referenced.later 4096000000, 0, by decide +kernel⟩

theorem witness_ReferencesAndLoops_4 : ∃ (s : State) (w : Writer), s.serves w .network = true ∧ s.clk.refOk[refHome s] = true ∧ s.clk.active ≠ none :=
  ⟨(live .ready).referenced, .port 2 1, by decide +kernel⟩

theorem witness_ReferencesAndLoops_5 : ∃ (s : State) (dev : Vector Rat 3) (step : Vector Rat 3) (r : Fin 3), clockRuns s = true ∧ s.clk.active ≠ none ∧ 10 * cyclesMs ≤ s.since s.clk.countedAt ∧ s.clk.refOk[r] = true ∧ 50 < absR step[r] :=
  ⟨(live .form).referenced.clocked.later 4096000, .replicate 3 0, .replicate 3 60, 1, by decide +kernel⟩

theorem witness_ReferencesAndLoops_6 : ∃ (s : State) (dev : Vector Rat 3) (step : Vector Rat 3), clockRuns s = true ∧ s.clk.active ≠ none ∧ 10 * cyclesMs ≤ s.since s.clk.countedAt ∧ (∀ r : Fin 3, absR step[r] ≤ 50 ∧ absR dev[r] ≤ (s.objN Obj.TIM_REF_TOL : Nat)) :=
  ⟨(live .form).referenced.clocked.later 4096000, .replicate 3 0, .replicate 3 0, by decide +kernel⟩

theorem witness_ReferencesAndLoops_7 : ∃ (s : State) (i : Island) (d : Rat) (net : Rat) (refs : Vector Rat 3), s.alive .keystone = true ∧ (clockRuns s = false ∨ 40960 ≤ s.since s.clk.monitoredAt) ∧ i ≠ .keystone :=
  ⟨(live .form).referenced, .house, 6, 7, .replicate 3 0, by decide +kernel⟩

theorem witness_ReferencesAndLoops_8 : ∃ (s : State) (islands : List (Island × Rat)) (net : Rat) (refs : Vector Rat 3) (i : Island) (d : Rat), s.alive .keystone = true ∧ (clockRuns s = false ∨ 40960 ≤ s.since s.clk.monitoredAt) ∧ i ≠ .keystone ∧ islands.contains (i, d) = true ∧ 5 < absR d :=
  ⟨(live .form).referenced, [(.edge, 1), (.house, 6)], 0, .replicate 3 0, .house, 6, by decide +kernel⟩

theorem witness_ReferencesAndLoops_9 : ∃ (s : State) (islands : List (Island × Rat)) (net : Rat) (refs : Vector Rat 3), s.alive .keystone = true ∧ (clockRuns s = false ∨ 40960 ≤ s.since s.clk.monitoredAt) ∧ islands.all (fun e => decide (absR e.2 ≤ 5)) = true ∧ absR net ≤ 5 ∧ refs.toList.all (fun e => decide (absR e ≤ 2)) = true :=
  ⟨(live .form).referenced, [(.edge, 5)], -5, .replicate 3 2, by decide +kernel⟩

theorem witness_ReferencesAndLoops_10 : ∃ (s : State) (p : Fin 2) (below : Nat), s.clk.pllOn = true ∧ 256 ≤ below ∧ s.clk.pll[p].locked = false ∧ s.clk.pll[p].failed = false ∧ s.clk.pll[p].lostAt = none ∧ s.clk.active ≠ none :=
  ⟨(live .adit).referenced, 1, 256, by decide +kernel⟩

theorem witness_ReferencesAndLoops_11 : ∃ (s : State) (p : Fin 2) (e1 : Rat) (e2 : Rat), s.clk.pll[p].locked = true ∧ s.isl.started = true ∧ s.clk.active ≠ none ∧ justSwitched s = false ∧ 1000 < absR e1 ∧ 1000 < absR e2 :=
  ⟨(live .form).referenced.clocked.modIsl fun x => { x with started := true }, 1, 1001, (-1001), by decide +kernel⟩

theorem witness_ReferencesAndLoops_12 : ∃ (s : State) (p : Fin 2) (at_ : Nat), s.clk.pll[p].lostAt = some at_ ∧ s.clk.pll[p].failed = false ∧ s.clk.pll[p].locked = false ∧ s.clk.pll[p].tryAt = none ∧ cyclesMs ≤ s.since at_ ∧ clockRuns s = true :=
  ⟨(((live .form).referenced.clocked.modIsl fun x => { x with started := true }).modPll 1 fun x => { x with locked := false, lostAt := some 0 }).later 500000, 1, 0, by decide +kernel⟩

theorem witness_ReferencesAndLoops_13 : ∃ (s : State) (p : Fin 2) (below : Nat) (at_ : Nat) (lost : Nat), s.clk.pllOn = true ∧ 256 ≤ below ∧ s.clk.pll[p].locked = false ∧ s.clk.pll[p].failed = false ∧ s.clk.pll[p].lostAt = some lost ∧ s.clk.pll[p].tryAt = some at_ ∧ s.since at_ ≤ cyclesMs ∧ clockRuns s = true ∧ s.clk.active ≠ none ∧ s.isl.started = true ∧ s.hasRoom 1 = true :=
  ⟨(((live .form).referenced.clocked.modIsl fun x => { x with started := true }).modPll 1 fun x => { x with locked := false, lostAt := some 0, tryAt := some 400000 }).later 500000, 1, 256, 400000, 0, by decide +kernel⟩

theorem witness_ReferencesAndLoops_14 : ∃ (s : State) (p : Fin 2) (at_ : Nat), s.clk.pll[p].tryAt = some at_ ∧ cyclesMs ≤ s.since at_ :=
  ⟨((live .form).modPll 1 fun x => { x with tryAt := some 0 }).later 500000, 1, 0, by decide +kernel⟩

theorem witness_ReferencesAndLoops_15 : ∃ (s : State), s.clk.netLocked = true ∧ s.hasRoom 1 = true :=
  ⟨(live .form).linked, by decide +kernel⟩

theorem witness_ReferencesAndLoops_16 : ∃ (s : State) (locks : Bool), s.clk.netLocked = false ∧ s.isl.started = true ∧ 10 * cyclesMs ≤ s.since s.clk.netLostAt :=
  ⟨((live .form).referenced.modIsl fun x => { x with started := true }).later 5000000, true, by decide +kernel⟩

theorem witness_TimeBases_1 : ∃ (s : State) (b : Fin 2) (origin : Rat) (correction : Rat) (gm : Nat), domainUp s b = true ∧ s.clk.base[base3 b].gm = false ∧ s.clk.base[base3 b].st ≠ 5 :=
  ⟨((live .form).linked.setBit (Obj.TIM_NTA_CFG 0) 0 true).referenced, 0, 100, 0, 7, by decide +kernel⟩

theorem witness_TimeBases_2 : ∃ (s : State) (b : Fin 2), Inv s ∧ domainUp s b = true ∧ s.clk.base[base3 b].gm = false ∧ s.clk.base[base3 b].st ≠ 5 :=
  ⟨((live .form).linked.setBit (Obj.TIM_NTA_CFG 0) 0 true).referenced, 0, inv_of (by decide +kernel), by decide +kernel⟩

theorem witness_TimeBases_3 : ∃ (s : State) (b : Fin 2), s.clk.base[base3 b].gm = false ∧ (s.clk.base[base3 b].st = 2 ∨ s.clk.base[base3 b].st = 3) ∧ s.objN (Obj.TIM_NTA_LOSS_COUNT b) * ptpInterval (s.objI (Obj.TIM_NTA_LOG_SYNC b)) ≤ s.since s.clk.base[base3 b].lastSync ∧ s.hasRoom 1 = true :=
  ⟨((live .form).timed.modBase 1 fun x => { x with st := 3 }).later 900000000000, 1, by decide +kernel⟩

theorem witness_TimeBases_4 : ∃ (s : State) (b : Fin 3), s.clk.base[b].gm = false ∧ (s.clk.base[b].st = 2 ∨ s.clk.base[b].st = 3 ∨ s.clk.base[b].st = 4) ∧ cyclesMs ≤ s.since s.clk.base[b].lastSegment ∧ b ≠ 2 ∧ s.alive .network = true :=
  ⟨(live .form).timed.later 500000, 0, by decide +kernel⟩

theorem witness_TimeBases_5 : ∃ (s : State) (b : Fin 2) (gm : Nat) (steps : Nat), domainUp s b = true ∧ domainRole s b ≠ 1 :=
  ⟨((live .form).linked.setBit (Obj.TIM_NTA_CFG 0) 0 true).modBase 0 fun x => { x with gm := true }, 0, 9, 1, by decide +kernel⟩

theorem witness_TimeBases_6 : ∃ (s : State) (b : Fin 2), domainUp s b = true ∧ domainRole s b ≠ 0 ∧ s.objN (Obj.TIM_NTA_ANNOUNCE_TO b) * ptpInterval (s.objI (Obj.TIM_NTA_LOG_ANNOUNCE b)) ≤ s.since s.clk.base[base3 b].lastAnnounce ∧ s.clk.base[base3 b].gm = false ∧ s.clk.base[base3 b].st ≠ 5 :=
  ⟨(((live .form).linked.setBit (Obj.TIM_NTA_CFG 0) 0 true).setField (Obj.TIM_NTA_CFG 0) 3 2 2).later 900000000000, 0, by decide +kernel⟩

theorem witness_TimeBases_7 : ∃ (s : State) (w : Writer), s.serves w .network = true ∧ serviceOk s w = true ∧ (s.mod.mode = .ready ∨ s.mod.mode = .lockout) ∧ s.clk.base[(0 : Fin 3)].gm = false ∧ s.clk.base[(0 : Fin 3)].st ≠ 0 ∧ s.clk.base[(0 : Fin 3)].st ≠ 5 :=
  ⟨(live .ready).serviced.timed, .port 1 0, by decide +kernel⟩

theorem witness_TimeBases_8 : ∃ (s : State) (w : Writer), s.serves w .network = true ∧ serviceOk s w = true ∧ (s.mod.mode = .ready ∨ s.mod.mode = .lockout) ∧ s.clk.base[(1 : Fin 3)].gm = false ∧ s.clk.base[(1 : Fin 3)].st ≠ 0 ∧ s.clk.base[(1 : Fin 3)].st ≠ 5 :=
  ⟨(live .ready).serviced.modBase 1 fun b => { b with st := 2 }, .port 1 0, by decide +kernel⟩

theorem witness_TimeBases_9 : ∃ (s : State) (primary : Rat) (boot : Nat), 2 ≤ s.twn.link ∧ s.twn.mode ≠ 0 ∧ s.twn.primary = true :=
  ⟨(live .form).modTwn fun x => { x with link := 2, mode := 2, primary := true }, 5, 1, by decide +kernel⟩

theorem witness_TimeBases_10 : ∃ (s : State) (primary : Rat) (boot : Nat), 2 ≤ s.twn.link ∧ s.twn.mode ≠ 0 ∧ s.twn.primary = false ∧ s.clk.base[(2 : Fin 3)].boot ≠ some boot :=
  ⟨(live .form).modTwn fun x => { x with link := 2, mode := 2 }, 5, 1, by decide +kernel⟩

theorem witness_LogicCyclesAndTags_1 : ∃ (s : State) (run : CycleRun), s.alive .logic = true ∧ s.lgc.running = true ∧ s.standby = false ∧ s.lgc.nextAt ≤ lgcNow s ∧ s.lgc.busyUntil ≤ s.lgc.nextAt ∧ s.lgc.starting = false ∧ s.lgc.exchange = none ∧ s.lgc.resetRetain = false ∧ s.commitWrites = [] ∧ s.objN Obj.LGC_OVERRUN_RUN < s.objN Obj.LGC_OVERRUN_LIMIT ∧ (∀ x ∈ s.lgc.image.tags, x.defn.binding ≠ 6) :=
  ⟨(live .form).modLgc fun l => { l with running := true, image := oneTag 300 6 1 }, idleRun, by decide +kernel⟩

theorem witness_LogicCyclesAndTags_2 : ∃ (s : State) (g : Nat) (v : Nat), s.alive .logic = true ∧ s.lgc.running = true ∧ s.lgc.valid = true ∧ s.standby = false ∧ s.lgc.nextAt ≤ lgcNow s ∧ s.lgc.busyUntil ≤ s.lgc.nextAt ∧ s.lgc.exchange = none ∧ s.lgc.resetRetain = false ∧ s.commitWrites = [] ∧ s.objN Obj.LGC_OVERRUN_RUN < s.objN Obj.LGC_OVERRUN_LIMIT ∧ (∀ x ∈ s.lgc.image.tags, x.defn.binding ≠ 6) :=
  ⟨(live .form).modLgc fun l => { l with running := true, valid := true, image := oneTag 300 6 1 }, 300, 5, by decide +kernel⟩

theorem witness_LogicCyclesAndTags_3 : ∃ (s : State) (run : CycleRun), s.alive .logic = true ∧ s.lgc.running = true ∧ s.standby = false ∧ s.lgc.nextAt ≤ lgcNow s ∧ s.lgc.nextAt < s.lgc.busyUntil ∧ s.lgc.exchanging = false ∧ s.commitWrites = [] :=
  ⟨(live .form).modLgc fun l => { l with running := true, busyUntil := 5 }, idleRun, by decide +kernel⟩

theorem witness_LogicCyclesAndTags_4 : ∃ (s : State), s.alive .logic = true ∧ s.alive .keystone = true ∧ s.lgc.running = true ∧ lgcBusy s = true ∧ s.lgc.lastAt + 4 * periodCycles s ≤ lgcNow s :=
  ⟨(live .form).modLgc fun l => { l with running := true, busyUntil := 5 }, by decide +kernel⟩

theorem witness_LogicCyclesAndTags_5 : ∃ (s : State) (tag : Nat) (v : Val) (w : Writer) (raw : Nat) (x : TagSt), s.admits w (0xA00000 + tag) v = true ∧ tag < 0x60000 ∧ tagOfKey (0xA00000 + tag) = tag ∧ findTag s tag = some x ∧ rawOf x.defn.type v = .ok raw :=
  ⟨((live .ready).modLgc fun l => { l with image := oneTag 300 6 2 }), 300, .int 5, .port 1 0, 5, ⟨⟨300, 6, 2, 0, 0, 0⟩, 0, 0, 0, 0⟩, by decide +kernel⟩

theorem witness_LogicCyclesAndTags_6 : ∃ (s : State) (tag : Nat) (w : Writer), s.admits w Obj.LGC_PEEK_TAG (.int tag) = true ∧ tag < 131072 :=
  ⟨(live .ready), 300, .port 1 0, by decide +kernel⟩

theorem witness_LogicCyclesAndTags_7 : ∃ (s : State) (ms : Nat) (w : Writer), s.admits w Obj.LGC_CYCLE_PERIOD (.int ms) = true ∧ s.mod.mode.running = true ∧ s.lgc.running = true :=
  ⟨((live .form).ownedBySpi).modLgc fun l => { l with running := true }, 10, .port 1 0, by decide +kernel⟩

theorem witness_LogicCyclesAndTags_8 : ∃ (s : State) (ms : Nat) (w : Writer), Inv s ∧ s.admits w Obj.LGC_CYCLE_PERIOD (.int ms) = true ∧ s.mod.mode.running = false :=
  ⟨live .ready, 10, .port 1 0, inv_of (by decide +kernel), by decide +kernel⟩

theorem witness_LogicCyclesAndTags_9 : ∃ (s : State) (st : StationId) (counter : Option Nat) (data : List Nat), s.alive .network = true ∧ s.lgc.station[st].st ≠ 0 ∧ telegramFresh s.lgc.station[st] counter = true :=
  ⟨(live .form).modStn 5 fun x => { x with st := 3 }, 5, some 7, [1, 2], by decide +kernel⟩

theorem witness_LogicCyclesAndTags_10 : ∃ (s : State) (st : StationId) (counter : Option Nat) (data : List Nat), Inv s ∧ s.alive .network = true ∧ s.lgc.station[st].st ≠ 0 ∧ telegramFresh s.lgc.station[st] counter = false :=
  ⟨(live .form).modStn 5 fun x => { x with st := 2, first := false, counter := some 7 }, 5, some 7, [1, 2], inv_of (by decide +kernel), by decide +kernel⟩

theorem witness_LogicCyclesAndTags_11 : ∃ (s : State) (st : StationId), s.alive .network = true ∧ (s.lgc.station[st].st = 2 ∨ s.lgc.station[st].st = 4) ∧ s.objN (Obj.LGC_STN_TIMEOUT st) * cyclesMs ≤ s.since s.lgc.station[st].lastRx ∧ s.hasRoom 1 = true :=
  ⟨((live .form).modStn 5 fun x => { x with st := 2 }).later 90000000000, 5, by decide +kernel⟩

theorem witness_LogicPrograms_1 : ∃ (s : State) (p : Program) (w : Writer), s.admits w Obj.LGC_STAGE_DATA (.bytes []) = true ∧ p.signed = true ∧ withinLimits p = true ∧ programFits s p = true ∧ s.hasRoom 1 = true :=
  ⟨live .ready, aProgram, .port 1 0, by decide +kernel⟩

theorem witness_LogicPrograms_2 : ∃ (s : State) (p : Program) (w : Writer), s.admits w Obj.LGC_STAGE_DATA (.bytes []) = true ∧ p.signed = false ∧ s.hasRoom 1 = true :=
  ⟨live .ready, { aProgram with signed := false }, .port 1 0, by decide +kernel⟩

theorem witness_LogicPrograms_3 : ∃ (s : State) (w : Writer), s.admits w Obj.LGC_CMD (.int 0x5A01) = true ∧ s.commands w = true ∧ s.lgc.running = true ∧ s.lgc.staged ≠ none ∧ s.lgc.exchange = none ∧ s.objN Obj.LGC_CMD_INSTANT ≤ lgcNow s + 2147483648 :=
  ⟨(live .form).modLgc fun l => { l with running := true, staged := some aProgram }, .logic, by decide +kernel⟩

theorem witness_LogicPrograms_4 : ∃ (s : State) (run : CycleRun) (p : Program) (i : Nat), s.alive .logic = true ∧ s.lgc.running = true ∧ s.standby = false ∧ s.lgc.nextAt ≤ lgcNow s ∧ s.lgc.busyUntil ≤ s.lgc.nextAt ∧ s.lgc.exchange = some i ∧ (i = 0 ∨ i ≤ s.lgc.nextAt) ∧ s.lgc.staged = some p ∧ s.commitWrites = [] ∧ s.objN Obj.LGC_OVERRUN_RUN < s.objN Obj.LGC_OVERRUN_LIMIT ∧ (∀ x ∈ p.tags, x.binding ≠ 6) :=
  ⟨(live .form).modLgc fun l => { l with running := true, exchange := some 0, staged := some aProgram }, idleRun, aProgram, 0, by decide +kernel⟩

theorem witness_LogicPrograms_5 : ∃ (s : State) (w : Writer), s.admits w Obj.LGC_CMD (.int 0x5A02) = true ∧ s.lgc.exchange = none :=
  ⟨(live .form).modLgc fun l => { l with running := true, staged := some aProgram }, .logic, by decide +kernel⟩

theorem witness_LogicPrograms_6 : ∃ (s : State) (w : Writer), s.admits w Obj.LGC_CMD (.int 0x5A03) = true ∧ serviceOk s w = true ∧ s.mod.mode = .ready :=
  ⟨(live .ready).serviced, .port 1 0, by decide +kernel⟩

theorem witness_LogicPrograms_7 : ∃ (s : State) (im : Image) (lines : Nat) (hold : Rat), s.alive .logic = true ∧ s.standby = true ∧ 2 ≤ s.twn.link :=
  ⟨(live .form).modTwn fun x => { x with mode := 2, formed := true, link := 2 }, oneTag 300 6 1, 3, 24, by decide +kernel⟩

theorem witness_LogicPrograms_8 : ∃ (s : State) (full : Bool) (lines : Nat) (hold : Rat), s.alive .logic = true ∧ s.standby = true ∧ 2 ≤ s.twn.link ∧ s.hasRoom 1 = true :=
  ⟨(live .form).modTwn fun x => { x with mode := 2, formed := true, link := 2 }, false, 3, 24, by decide +kernel⟩

theorem witness_DictionaryWritesAndStores_1 : ∃ (s : State) (key : Nat) (v : Val) (w : Writer) (r : ObjRow), Inv s ∧ s.admits w key v = true ∧ s.mod.mode.running = false ∧ objRow (key / 256) (key % 256) = some r ∧ key < 0x600000 ∧ r.run ≠ .nextReset ∧ isCommandKey key = false ∧ pierOfKey key = none ∧ galOfKey key = none ∧ chainOfKey key = none :=
  ⟨live .ready, Obj.LGC_CYCLE_PERIOD, .int 20, .port 1 0, rowAt Obj.LGC_CYCLE_PERIOD, inv_of (by decide +kernel), by decide +kernel⟩

theorem witness_DictionaryWritesAndStores_2 : ∃ (s : State) (key : Nat) (v : Val) (w : Writer) (r : ObjRow) (n : StageId), s.admits w key v = true ∧ s.mod.mode.running = true ∧ objRow (key / 256) (key % 256) = some r ∧ key < 0x600000 ∧ r.run = .nextCommit ∧ isCommandKey key = false ∧ pierOfKey key = some n ∧ (isLawKey key = true → s.bit (Obj.GFL_CONFIG n) 10 = false) :=
  ⟨(staged .form 0x101 .run).ownedBySpi, Obj.GFL_MP 1, .int 200, .port 1 0, rowAt (Obj.GFL_MP 1), 1, by decide +kernel⟩

theorem witness_DictionaryWritesAndStores_3 : ∃ (s : State) (key : Nat) (v : Val) (w : Writer) (r : ObjRow), s.admits w key v = true ∧ s.mod.mode.running = true ∧ objRow (key / 256) (key % 256) = some r ∧ key < 0x600000 ∧ r.run = .nextModeChange ∧ isCommandKey key = false ∧ galOfKey key = none :=
  ⟨(live .form).ownedBySpi, Obj.FIO_WB_OPEN 0, .int 5, .port 1 0, rowAt (Obj.FIO_WB_OPEN 0), by decide +kernel⟩

theorem witness_DictionaryWritesAndStores_4 : ∃ (s : State) (key : Nat) (v : Val) (c : Nat) (se : Nat) (a : Nat), s.reaches (.port c se) = true ∧ s.alive .house = true ∧ (c = 2 ∨ c = 3 ∨ c = 4) ∧ writeCheck s (.port c se) key v false = a ∧ a ≠ 0 :=
  ⟨live .form, Obj.LGC_CYCLE_PERIOD, .int 20, 2, 1, 0x08000021, by decide +kernel⟩

theorem witness_DictionaryWritesAndStores_5 : ∃ (s : State) (key : Nat) (v : Val) (w : Writer), Inv s ∧ s.admits w key v = true ∧ writeCheck s w key v true = 0x08000020 :=
  ⟨(live .form).ownedBySpi, Obj.LGC_CYCLE_PERIOD, .int 20, .port 1 0, inv_of (by decide +kernel), by decide +kernel⟩

theorem witness_DictionaryWritesAndStores_6 : ∃ (s : State) (hold : Rat) (w : Writer), Inv s ∧ s.admits w Obj.CIA_STORE (.int 0x65766173) = true ∧ (s.mod.mode = .ready ∨ s.mod.mode = .lockout) ∧ s.alive .house = true ∧ s.nvs.stopped = false ∧ s.nvs.running = none ∧ s.nvs.waiting = [] ∧ (r32 hold) = hold ∧ energyNeeded s .dictionary 0 ≤ energyHeld s hold :=
  ⟨live .ready, 24, .port 1 0, inv_of (by decide +kernel), by decide +kernel⟩

theorem witness_DictionaryWritesAndStores_7 : ∃ (s : State) (hold : Rat) (w : Writer), Inv s ∧ s.admits w Obj.CIA_STORE (.int 0x65766173) = true ∧ (s.mod.mode = .ready ∨ s.mod.mode = .lockout) ∧ s.alive .house = true ∧ s.nvs.stopped = false ∧ s.nvs.running = none ∧ s.nvs.waiting = [] ∧ (r32 hold) = hold ∧ energyHeld s hold < energyNeeded s .dictionary 0 :=
  ⟨live .ready, 12, .port 1 0, inv_of (by decide +kernel), by decide +kernel⟩

theorem witness_DictionaryWritesAndStores_8 : ∃ (s : State) (w : Writer), s.admits w Obj.CIA_RESTORE (.int 0x64616F6C) = true ∧ (s.mod.mode = .ready ∨ s.mod.mode = .lockout) :=
  ⟨live .ready, .port 1 0, by decide +kernel⟩

theorem witness_DictionaryWritesAndStores_9 : ∃ (s : State) (w : Writer), Inv s ∧ s.admits w Obj.CIA_ERROR_COUNT (.int 0) = true :=
  ⟨(live .ready).setN Obj.CIA_ERROR_COUNT 3, .port 1 0, inv_of (by decide +kernel), by decide +kernel⟩

theorem witness_OwnershipAndService_1 : ∃ (s : State) (c : Nat) (se : Nat) (w : Writer), Inv s ∧ w = .port c se ∧ s.admits w Obj.NET_OWNER_CLAIM (.int 0x5A01) = true ∧ s.objN Obj.NET_OWNER = 0 ∧ s.hasRoom 1 = true :=
  ⟨live .form, 2, 3, .port 2 3, inv_of (by decide +kernel), by decide +kernel⟩

theorem witness_OwnershipAndService_2 : ∃ (s : State) (w : Writer), s.objN Obj.NET_OWNER ≠ 0 :=
  ⟨(live .form).ownedBySpi, .port 2 3, by decide +kernel⟩

theorem witness_OwnershipAndService_3 : ∃ (s : State) (c : Nat) (se : Nat) (w : Writer), Inv s ∧ w = .port c se ∧ s.admits w Obj.NET_OWNER_CLAIM (.int 0x5A02) = true ∧ c < s.objN Obj.NET_OWNER % 16 ∧ s.hasRoom 1 = true :=
  ⟨(live .form).setN Obj.NET_OWNER 3, 2, 3, .port 2 3, inv_of (by decide +kernel), by decide +kernel⟩

theorem witness_OwnershipAndService_4 : ∃ (s : State) (c : Nat) (se : Nat) (w : Writer), Inv s ∧ w = .port c se ∧ s.admits w Obj.NET_OWNER_CLAIM (.int 0x5A03) = true ∧ s.ownsWrites w = true ∧ s.hasRoom 1 = true :=
  ⟨(live .form).ownedBySpi, 1, 0, .port 1 0, inv_of (by decide +kernel), by decide +kernel⟩

theorem witness_OwnershipAndService_5 : ∃ (s : State), Inv s ∧ s.alive .house = true ∧ s.objN Obj.NET_OWNER ≠ 0 ∧ s.objN Obj.NET_OWNER_TIMEOUT * cyclesMs ≤ s.since s.net.ownerAt ∧ s.hasRoom 1 = true :=
  ⟨(live .form).ownedBySpi.later 900000000000, inv_of (by decide +kernel), by decide +kernel⟩

theorem witness_OwnershipAndService_6 : ∃ (s : State) (w : Writer), s.reaches w = true ∧ s.alive .house = true ∧ (∀ b ∈ s.net.blocked, b.1 ≠ writerPort w) :=
  ⟨live .ready, .port 1 0, by decide +kernel⟩

theorem witness_OwnershipAndService_7 : ∃ (s : State) (signature : List Nat) (challenge : List Nat) (w : Writer), s.admits w Obj.NET_SVC_RESPONSE (.bytes signature) = true ∧ signature.length = 96 ∧ w.ownerWord ≠ 0 ∧ s.net.challenges.find? (fun c => c.1 == w.ownerWord) = some (w.ownerWord, challenge) :=
  ⟨(live .ready).modNet fun x => { x with challenges := [(18, List.replicate 32 7)] }, .replicate 96 0, .replicate 32 7, .port 2 1, by decide +kernel⟩

theorem witness_OwnershipAndService_8 : ∃ (s : State) (signature : List Nat) (w : Writer), s.admits w Obj.NET_SVC_RESPONSE (.bytes signature) = true ∧ signature.length = 96 ∧ s.net.challenges = [] ∧ s.hasRoom 1 = true :=
  ⟨live .ready, .replicate 96 0, .port 1 0, by decide +kernel⟩

theorem witness_OwnershipAndService_9 : ∃ (s : State) (w : Writer), s.alive .house = true ∧ (∀ r ∈ s.net.rights, r.1 = w.ownerWord → s.objN Obj.NET_SVC_TIMEOUT * cyclesSec ≤ s.since r.2) :=
  ⟨((live .ready).serviced).later 900000000000000, .port 1 0, by decide +kernel⟩

theorem witness_OwnershipAndService_10 : ∃ (s : State) (port : Nat), s.alive .house = true ∧ (∀ b ∈ s.net.blocked, b.1 = port → 60 * cyclesSec ≤ s.since b.2) :=
  ⟨((live .ready).modNet fun x => { x with blocked := [(1, 0), (2, 0)] }).later 900000000000000, 1, by decide +kernel⟩

theorem witness_CanopenNmtAndSdo_1 : ∃ (s : State) (c : Fin 2), canRuns s c = true :=
  ⟨(live .ready).canIn 1 127, 1, by decide +kernel⟩

theorem witness_CanopenNmtAndSdo_2 : ∃ (s : State) (c : Fin 2), canRuns s c = true :=
  ⟨(live .ready).canIn 1 5, 1, by decide +kernel⟩

theorem witness_CanopenNmtAndSdo_3 : ∃ (s : State) (c : Fin 2), canRuns s c = true :=
  ⟨(live .ready).canIn 0 5, 0, by decide +kernel⟩

theorem witness_CanopenNmtAndSdo_4 : ∃ (s : State) (c : Fin 2) (key : Nat) (v : Val), Inv s ∧ canRuns s c = true ∧ canSends s c = true ∧ s.resetWrites = [(key, v)] ∧ portObject s c key = true ∧ key = Obj.CIA_HB_PRODUCER :=
  ⟨{ (live .ready).canIn 1 5 with resetWrites := [(Obj.CIA_HB_PRODUCER, .int 500)] }, 1, Obj.CIA_HB_PRODUCER, .int 500, inv_of (by decide +kernel), by decide +kernel⟩

theorem witness_CanopenNmtAndSdo_5 : ∃ (s : State) (c : Fin 2) (key : Nat) (v : Val), Inv s ∧ canRuns s c = true ∧ canSends s c = true ∧ s.resetWrites = [(key, v)] ∧ portObject s c key = true ∧ key = Obj.CIA_HB_PRODUCER :=
  ⟨{ (live .ready).canIn 1 5 with resetWrites := [(Obj.CIA_HB_PRODUCER, .int 500)] }, 1, Obj.CIA_HB_PRODUCER, .int 500, inv_of (by decide +kernel), by decide +kernel⟩

theorem witness_CanopenNmtAndSdo_6 : ∃ (s : State) (c : Fin 2) (key : Nat) (v : Val) (r : ObjRow), Inv s ∧ canRuns s c = true ∧ (s.net.can[c].st = 5 ∨ s.net.can[c].st = 127) ∧ s.admits (canWriter c) key v = true ∧ s.mod.mode.running = false ∧ objRow (key / 256) (key % 256) = some r ∧ key < 0x600000 ∧ 0x2000 ≤ key / 256 ∧ r.run ≠ .nextReset ∧ isCommandKey key = false ∧ pierOfKey key = none ∧ galOfKey key = none ∧ chainOfKey key = none :=
  ⟨(live .ready).canIn 1 5, 1, Obj.LGC_CYCLE_PERIOD, .int 20, rowAt Obj.LGC_CYCLE_PERIOD, inv_of (by decide +kernel), by decide +kernel⟩

theorem witness_CanopenNmtAndSdo_7 : ∃ (s : State) (c : Fin 2) (key : Nat) (z : Nat), canRuns s c = true ∧ canSends s c = true ∧ (s.net.can[c].st = 5 ∨ s.net.can[c].st = 127) ∧ s.alive .house = true ∧ key ≠ Obj.NET_SVC_CHALLENGE ∧ readObj s key = .ok (.int z) ∧ valueSize s key ≤ 4 :=
  ⟨(live .ready).canIn 1 5, 1, Obj.LGC_CYCLE_PERIOD, 10, by decide +kernel⟩

theorem witness_CanopenNmtAndSdo_8 : ∃ (s : State) (c : Fin 2) (r : SdoReq), s.net.can[c].st = 4 :=
  ⟨(live .ready).canIn 1 4, 1, .block, by decide +kernel⟩

theorem witness_CanopenNmtAndSdo_9 : ∃ (s : State) (c : Fin 2) (x : SdoSt), canRuns s c = true ∧ canSends s c = true ∧ s.net.can[c].sdo = some x ∧ 1000 * cyclesMs < s.since x.at_ :=
  ⟨(((live .ready).canIn 1 5).modCan 1 fun y => { y with sdo := some ⟨7, true, [], 9, false, 0⟩ }).later 900000000, 1, ⟨7, true, [], 9, false, 0⟩, by decide +kernel⟩

theorem witness_CanopenProcessData_1 : ∃ (s : State) (n : Fin 16) (c : Fin 2) (v : Val) (key : Nat) (r : ObjRow), Inv s ∧ pdoPort s true n = some c ∧ canRuns s c = true ∧ s.net.can[c].st = 5 ∧ pdoValid s (Obj.CIA_RPDO_COB n) = true ∧ mappedKeys s (Obj.CIA_RPDO_MAP_COUNT n) = [key] ∧ 240 < s.objN (Obj.CIA_RPDO_TYPE n) ∧ s.admits (canWriter c) key v = true ∧ s.mod.mode.running = false ∧ objRow (key / 256) (key % 256) = some r ∧ key < 0x600000 ∧ 0x2000 ≤ key / 256 ∧ r.run ≠ .nextReset ∧ isCommandKey key = false ∧ pierOfKey key = none ∧ galOfKey key = none ∧ chainOfKey key = none :=
  ⟨(((((live .ready).canIn 0 5).setN (Obj.CIA_RPDO_COB 2) 0x203).setN (Obj.CIA_RPDO_TYPE 2) 254).setN (Obj.CIA_RPDO_MAP_COUNT 2) 1).setN (Obj.CIA_RPDO_MAP_COUNT 2 + 1) (Obj.LGC_CYCLE_PERIOD * 256 + 16), 2, 0, .int 20, Obj.LGC_CYCLE_PERIOD, rowAt Obj.LGC_CYCLE_PERIOD, inv_of (by decide +kernel), by decide +kernel⟩

theorem witness_CanopenProcessData_2 : ∃ (s : State) (n : Fin 16) (c : Fin 2) (data : List Val), pdoPort s true n = some c ∧ canRuns s c = true ∧ s.net.can[c].st = 5 ∧ pdoValid s (Obj.CIA_RPDO_COB n) = true ∧ data.length = s.objN (Obj.CIA_RPDO_MAP_COUNT n) ∧ s.objN (Obj.CIA_RPDO_TYPE n) ≤ 240 :=
  ⟨(((live .ready).canIn 0 5).setN (Obj.CIA_RPDO_COB 2) 0x203), 2, 0, [], by decide +kernel⟩

theorem witness_CanopenProcessData_3 : ∃ (s : State) (c : Fin 2) (v : Val) (key : Nat) (r : ObjRow), Inv s ∧ pdoPort s true 2 = some c ∧ canRuns s c = true ∧ s.net.can[c].st = 5 ∧ s.net.rpdoWait.toList = .replicate 2 none ++ some [v] :: .replicate 13 none ∧ mappedKeys s (Obj.CIA_RPDO_MAP_COUNT 2) = [key] ∧ s.admits (canWriter c) key v = true ∧ s.mod.mode.running = false ∧ objRow (key / 256) (key % 256) = some r ∧ key = Obj.LGC_CYCLE_PERIOD :=
  ⟨(((((live .ready).canIn 0 5).setN (Obj.CIA_RPDO_COB 2) 0x203).setN (Obj.CIA_RPDO_MAP_COUNT 2) 1).setN (Obj.CIA_RPDO_MAP_COUNT 2 + 1) (Obj.LGC_CYCLE_PERIOD * 256 + 16)).modNet fun x => { x with rpdoWait := x.rpdoWait.set 2 (some [.int 20]) }, 0, .int 20, Obj.LGC_CYCLE_PERIOD, rowAt Obj.LGC_CYCLE_PERIOD, inv_of (by decide +kernel), by decide +kernel⟩

theorem witness_CanopenProcessData_4 : ∃ (s : State) (n : Fin 16) (c : Fin 2), pdoPort s false n = some c ∧ tpdoReady s n c = true ∧ 254 ≤ s.objN (Obj.CIA_TPDO_TYPE n) ∧ tpdoData s n ≠ s.net.tpdoLast[n] ∧ s.objN (Obj.CIA_TPDO_INHIBIT n) = 0 :=
  ⟨(((((live .ready).canIn 0 5).setN (Obj.CIA_TPDO_COB 2) 0x203).setN (Obj.CIA_TPDO_TYPE 2) 254).setN (Obj.CIA_TPDO_MAP_COUNT 2) 1).setN (Obj.CIA_TPDO_MAP_COUNT 2 + 1) (Obj.LGC_CYCLE_PERIOD * 256 + 16), 2, 0, by decide +kernel⟩

theorem witness_CanopenProcessData_5 : ∃ (s : State) (c : Fin 2), canSends s c = true ∧ s.net.can[c].booted = true ∧ 0 < s.objN Obj.CIA_HB_PRODUCER ∧ s.objN Obj.CIA_HB_PRODUCER * cyclesMs ≤ s.since s.net.can[c].hbAt :=
  ⟨((live .ready).canIn 0 5).later 409600000, 0, by decide +kernel⟩

theorem witness_CanopenProcessData_6 : ∃ (s : State) (c : Fin 2) (node : Nat) (e : Fin 4), canRuns s c = true ∧ hbNode s e = node ∧ hbTime s e ≠ 0 :=
  ⟨((live .ready).canIn 0 5).setN (Obj.CIA_HB_CONSUMER 3) (9 * 65536 + 100), 0, 9, 3, by decide +kernel⟩

theorem witness_HostSpiAndLinks_1 : ∃ (s : State) (seq : Nat) (key : Nat) (v : Val) (r : ObjRow), Inv s ∧ (s.net.spiSeq = none ∨ s.net.spiSeq.map (fun q => (q + 1) % 4294967296) = some seq) ∧ s.net.spiSeq ≠ some seq ∧ s.admits (.port 1 0) key v = true ∧ s.mod.mode.running = false ∧ objRow (key / 256) (key % 256) = some r ∧ key < 0x600000 ∧ 0x2000 ≤ key / 256 ∧ r.run ≠ .nextReset ∧ isCommandKey key = false ∧ pierOfKey key = none ∧ galOfKey key = none ∧ chainOfKey key = none :=
  ⟨live .ready, 5, Obj.LGC_CYCLE_PERIOD, .int 20, rowAt Obj.LGC_CYCLE_PERIOD, inv_of (by decide +kernel), by decide +kernel⟩

theorem witness_HostSpiAndLinks_2 : ∃ (s : State) (seq : Nat) (key : Nat) (v : Val), (s.net.spiSeq = none ∨ s.net.spiSeq.map (fun q => (q + 1) % 4294967296) = some seq) ∧ s.net.spiSeq ≠ some seq ∧ s.alive .house = true ∧ key ≠ Obj.NET_SVC_CHALLENGE ∧ readObj s key = .ok v :=
  ⟨live .ready, 5, Obj.LGC_CYCLE_PERIOD, .int 10, by decide +kernel⟩

theorem witness_HostSpiAndLinks_3 : ∃ (s : State) (seq : Nat) (r : SpiReq), s.alive .house = true :=
  ⟨live .ready, 5, .keepalive, by decide +kernel⟩

theorem witness_HostSpiAndLinks_4 : ∃ (s : State) (seq : Nat) (r : SpiReq), s.alive .house = true ∧ s.net.spiSeq = some seq ∧ s.net.spiLast ≠ [] :=
  ⟨(live .ready).modNet fun x => { x with spiSeq := some 5, spiLast := [1, 7, 0] }, 5, .write 0x510001 (.int 5), by decide +kernel⟩

theorem witness_HostSpiAndLinks_5 : ∃ (s : State) (d : List Int), s.alive .house = true ∧ s.net.spiReply = some d :=
  ⟨(live .ready).modNet fun x => { x with spiReply := some [1, 7, 0] }, [1, 7, 0], by decide +kernel⟩

theorem witness_HostSpiAndLinks_6 : ∃ (s : State), s.alive .house = true :=
  ⟨(live .ready).modNet fun x => { x with spiReply := some [1, 7, 0] }, by decide +kernel⟩

theorem witness_HostSpiAndLinks_7 : ∃ (s : State), s.alive .network = true ∧ s.mod.mode ≠ .halt ∧ (s.mod.mode ≠ .adit ∨ s.mod.imageStarted = true) ∧ s.net.bypass = true ∧ s.hasRoom 1 = true ∧ s.net.sessions = [] :=
  ⟨(live .ready), by decide +kernel⟩

theorem witness_HostSpiAndLinks_8 : ∃ (s : State) (p : Fin 4) (speed : Nat), s.alive .network = true ∧ s.clk.netLocked = true ∧ p.val < 2 ∧ s.net.bypass = false ∧ s.net.link[p] = false ∧ s.hasRoom 1 = true :=
  ⟨((live .ready).linked.modNet fun x => { x with bypass := false, link := .replicate 4 false }), 1, 1000, by decide +kernel⟩

theorem witness_HostSpiAndLinks_9 : ∃ (s : State) (p : Fin 4) (speed : Nat), s.alive .network = true ∧ s.net.link[p] = true ∧ s.net.sessions = [] ∧ s.hasRoom 1 = true :=
  ⟨(live .ready).linked, 1, 1000, by decide +kernel⟩

theorem witness_HostSpiAndLinks_10 : ∃ (s : State) (f : EthFrame) (p : Nat), s.alive .network = true ∧ s.net.bypass = false ∧ f.ingress ≤ 2 ∧ switchUp s f.ingress = true ∧ f.multicast = false ∧ s.net.macs = [(f.dst, p)] ∧ f.src ≠ f.dst ∧ p ≤ 2 ∧ p ≠ f.ingress ∧ switchUp s p = true ∧ s.tx = [] :=
  ⟨{ (live .ready).linked.modNet fun x => { x with bypass := false, macs := [(9, 1)] } with tx := [] }, ⟨0, 5, 9, 0, false, false⟩, 1, by decide +kernel⟩

theorem witness_HostSpiAndLinks_11 : ∃ (s : State) (port : Nat) (ip : Nat), portUp s port = true ∧ ip = ipAddress s port :=
  ⟨(live .ready).linked, 2, ipAddress (live .ready).linked 2, by decide +kernel⟩

theorem witness_HostSpiAndLinks_12 : ∃ (s : State) (port : Nat) (data : List Nat), portUp s port = true :=
  ⟨(live .ready).linked, 2, [1, 2], by decide +kernel⟩

theorem witness_ServiceProtocol_1 : ∃ (s : State) (port : Nat) (seq : Nat) (id : Nat), svcServed s port = true ∧ freeSession s = some id ∧ s.hasRoom 1 = true :=
  ⟨(live .ready).opened, 2, 9, 1, by decide +kernel⟩

theorem witness_ServiceProtocol_2 : ∃ (s : State) (port : Nat) (seq : Nat), svcServed s port = true ∧ freeSession s = none :=
  ⟨(live .ready).linked.modNet fun x => { x with sessions := (List.range 8).map fun k => ⟨k + 1, 2, 7, 0, [], [], none⟩ }, 2, 9, by decide +kernel⟩

theorem witness_ServiceProtocol_3 : ∃ (s : State) (h : SvcHead) (x : SessionSt), Inv s ∧ svcServed s h.port = true ∧ s.net.sessions = [x] ∧ x.id = h.session ∧ x.port = h.port ∧ h.seq = (x.seq + 1) % 4294967296 ∧ s.hasRoom 2 = true :=
  ⟨(((live .ready).opened).setN Obj.NET_OWNER 50).modNet fun x => { x with rights := [(50, 0)] }, ⟨2, 3, 8⟩, ⟨3, 2, 7, 0, [1], [], none⟩, inv_of (by decide +kernel), by decide +kernel⟩

theorem witness_ServiceProtocol_4 : ∃ (s : State) (h : SvcHead) (x : SessionSt), svcServed s h.port = true ∧ s.net.sessions = [x] ∧ x.id = h.session ∧ x.port = h.port ∧ h.seq = (x.seq + 1) % 4294967296 :=
  ⟨(live .ready).opened.later 7, ⟨2, 3, 8⟩, ⟨3, 2, 7, 0, [1], [], none⟩, by decide +kernel⟩

theorem witness_ServiceProtocol_5 : ∃ (s : State) (h : SvcHead) (x : SessionSt), svcServed s h.port = true ∧ s.net.sessions = [x] ∧ x.id = h.session ∧ x.port = h.port ∧ h.seq = x.seq ∧ x.reply ≠ [] :=
  ⟨(live .ready).opened.later 7, ⟨2, 3, 7⟩, ⟨3, 2, 7, 0, [1], [], none⟩, by decide +kernel⟩

theorem witness_ServiceProtocol_6 : ∃ (s : State) (h : SvcHead) (key : Nat) (v : Val) (x : SessionSt), svcServed s h.port = true ∧ s.net.sessions = [x] ∧ x.id = h.session ∧ x.port = h.port ∧ h.seq = (x.seq + 1) % 4294967296 ∧ s.alive .house = true ∧ key ≠ Obj.NET_SVC_CHALLENGE ∧ readObj s key = .ok v ∧ (2 ≤ h.port ∧ h.port ≤ 4) :=
  ⟨(live .ready).opened, ⟨2, 3, 8⟩, Obj.LGC_CYCLE_PERIOD, .int 10, ⟨3, 2, 7, 0, [1], [], none⟩, by decide +kernel⟩

theorem witness_ServiceProtocol_7 : ∃ (s : State) (h : SvcHead) (key : Nat) (v : Val) (r : ObjRow) (x : SessionSt), Inv s ∧ svcServed s h.port = true ∧ s.net.sessions = [x] ∧ x.id = h.session ∧ x.port = h.port ∧ h.seq = (x.seq + 1) % 4294967296 ∧ s.admits (.port h.port h.session) key v = true ∧ s.mod.mode.running = false ∧ objRow (key / 256) (key % 256) = some r ∧ key < 0x600000 ∧ 0x2000 ≤ key / 256 ∧ r.run ≠ .nextReset ∧ isCommandKey key = false ∧ pierOfKey key = none ∧ galOfKey key = none ∧ chainOfKey key = none :=
  ⟨(live .ready).opened, ⟨2, 3, 8⟩, Obj.LGC_CYCLE_PERIOD, .int 20, rowAt Obj.LGC_CYCLE_PERIOD, ⟨3, 2, 7, 0, [1], [], none⟩, inv_of (by decide +kernel), by decide +kernel⟩

theorem witness_ServiceProtocol_8 : ∃ (s : State) (h : SvcHead) (key : Nat) (offset : Nat) (v : Val) (x : SessionSt), svcServed s h.port = true ∧ s.net.sessions = [x] ∧ x.id = h.session ∧ x.port = h.port ∧ h.seq = (x.seq + 1) % 4294967296 ∧ s.alive .house = true ∧ key ≠ Obj.NET_SVC_CHALLENGE ∧ readObj s key = .ok v ∧ offset < (valueBytes s key v).length ∧ (2 ≤ h.port ∧ h.port ≤ 4) :=
  ⟨(live .ready).opened, ⟨2, 3, 8⟩, Obj.LGC_CYCLE_PERIOD, 1, .int 10, ⟨3, 2, 7, 0, [1], [], none⟩, by decide +kernel⟩

theorem witness_ServiceProtocol_9 : ∃ (s : State) (h : SvcHead) (key : Nat) (offset : Nat) (data : List Nat) (before : List Nat) (w : Writer) (challenge : List Nat) (x : SessionSt), svcServed s h.port = true ∧ s.net.sessions = [x] ∧ x.id = h.session ∧ x.port = h.port ∧ h.seq = (x.seq + 1) % 4294967296 ∧ s.alive .house = true ∧ key = Obj.NET_SVC_RESPONSE ∧ x.partial_ = some (key, before) ∧ offset = before.length ∧ 0 < offset ∧ data.length ≤ 1024 ∧ w = .port h.port h.session ∧ s.admits w key (.bytes (before ++ data)) = true ∧ s.net.challenges = [(w.ownerWord, challenge)] :=
  ⟨(live .ready).opened.modNet fun x => { x with challenges := [(50, .replicate 32 1)], sessions := [⟨3, 2, 7, 0, [1], [], some (Obj.NET_SVC_RESPONSE, .replicate 90 1)⟩] }, ⟨2, 3, 8⟩, Obj.NET_SVC_RESPONSE, 90, .replicate 6 1, .replicate 90 1, .port 2 3, .replicate 32 1, ⟨3, 2, 7, 0, [1], [], some (Obj.NET_SVC_RESPONSE, .replicate 90 1)⟩, by decide +kernel⟩

theorem witness_ServiceProtocol_10 : ∃ (s : State) (h : SvcHead) (key : Nat) (data : List Nat) (v : Val) (x : SessionSt), svcServed s h.port = true ∧ s.net.sessions = [x] ∧ x.id = h.session ∧ x.port = h.port ∧ h.seq = (x.seq + 1) % 4294967296 ∧ data.length ≤ 1024 :=
  ⟨(live .ready).opened, ⟨2, 3, 8⟩, 0x510001, [1, 2], .bytes [], ⟨3, 2, 7, 0, [1], [], none⟩, by decide +kernel⟩

theorem witness_ServiceProtocol_11 : ∃ (s : State) (h : SvcHead) (q : Fin 8) (ms : Nat) (keys : List Nat) (x : SessionSt), svcServed s h.port = true ∧ s.net.sessions = [x] ∧ x.id = h.session ∧ x.port = h.port ∧ h.seq = (x.seq + 1) % 4294967296 ∧ s.alive .house = true ∧ x.sets = [] ∧ ms ≠ 0 ∧ setCheck s ms keys = 0 :=
  ⟨(live .ready).opened, ⟨2, 3, 8⟩, 4, 10, [Obj.LGC_CYCLE_PERIOD], ⟨3, 2, 7, 0, [1], [], none⟩, by decide +kernel⟩

theorem witness_ServiceProtocol_12 : ∃ (s : State) (h : SvcHead) (q : Fin 8) (keys : List Nat) (p : ProcSet) (x : SessionSt), svcServed s h.port = true ∧ s.net.sessions = [x] ∧ x.id = h.session ∧ x.port = h.port ∧ h.seq = (x.seq + 1) % 4294967296 ∧ s.alive .house = true ∧ x.sets = [p] ∧ p.set = q.val :=
  ⟨(live .ready).opened.modNet fun x => { x with sessions := [⟨3, 2, 7, 0, [1], [⟨4, 10, [], 0, 0⟩], none⟩] }, ⟨2, 3, 8⟩, 4, [], ⟨4, 10, [], 0, 0⟩, ⟨3, 2, 7, 0, [1], [⟨4, 10, [], 0, 0⟩], none⟩, by decide +kernel⟩

theorem witness_ServiceProtocol_13 : ∃ (s : State) (session : Nat) (x : SessionSt), Inv s ∧ s.alive .network = true ∧ s.net.sessions = [x] ∧ x.id = session ∧ s.objN Obj.NET_SESSION_TIMEOUT * cyclesMs ≤ s.since x.lastAt ∧ s.hasRoom 2 = true :=
  ⟨(((live .ready).opened).setN Obj.NET_OWNER 50).later 9000000000, 3, ⟨3, 2, 7, 0, [1], [], none⟩, inv_of (by decide +kernel), by decide +kernel⟩

theorem witness_ServiceProtocol_14 : ∃ (s : State) (session : Nat) (q : Fin 8) (x : SessionSt) (p : ProcSet) (key : Nat) (v : Val), s.net.sessions = [x] ∧ x.id = session ∧ x.sets = [p] ∧ p.set = q.val ∧ p.keys = [key] ∧ readObj s key = .ok v ∧ portUp s x.port = true ∧ s.alive .house = true ∧ p.sentAt < s.now / (p.ms * cyclesMs) * (p.ms * cyclesMs) ∧ (s.objN Obj.THM_THROTTLE_STEP = 0 ∨ s.now / (p.ms * cyclesMs) % 2 = 0) :=
  ⟨((live .ready).opened.modNet fun x => { x with sessions := [⟨3, 2, 7, 0, [1], [⟨4, 10, [Obj.LGC_CYCLE_PERIOD], 6, 0⟩], none⟩] }).later 8192000, 3, 4, ⟨3, 2, 7, 0, [1], [⟨4, 10, [Obj.LGC_CYCLE_PERIOD], 6, 0⟩], none⟩, ⟨4, 10, [Obj.LGC_CYCLE_PERIOD], 6, 0⟩, Obj.LGC_CYCLE_PERIOD, .int 10, by decide +kernel⟩

theorem witness_ServiceProtocol_15 : ∃ (s : State) (session : Nat) (q : Fin 8) (x : SessionSt) (p : ProcSet), s.net.sessions = [x] ∧ x.id = session ∧ x.sets = [p] ∧ p.set = q.val ∧ s.now / (p.ms * cyclesMs) * (p.ms * cyclesMs) ≤ p.sentAt :=
  ⟨((live .ready).opened.modNet fun x => { x with sessions := [⟨3, 2, 7, 0, [1], [⟨4, 10, [Obj.LGC_CYCLE_PERIOD], 6, 8192000⟩], none⟩] }).later 8192001, 3, 4, ⟨3, 2, 7, 0, [1], [⟨4, 10, [Obj.LGC_CYCLE_PERIOD], 6, 8192000⟩], none⟩, ⟨4, 10, [Obj.LGC_CYCLE_PERIOD], 6, 8192000⟩, by decide +kernel⟩

theorem witness_ContactorControl_1 : ∃ (s : State) (n : SocId), Inv s ∧ s.alive .keystone = true ∧ socOwned s n = true ∧ s.standby = false ∧ s.saf.soc[n].test = none ∧ s.saf.soc[n].cmd = false ∧ socRefusal s n = none :=
  ⟨((((staged .form 0x101 .run).setN (Obj.SAF_SOC_CFG 2) 1).modIsl fun x => { x with contactorEnable := true }).modSaf fun x => { x with pending := false }).modDi 0 fun x => { x with st := true }, 2, inv_of (by decide +kernel), by decide +kernel⟩

theorem witness_ContactorControl_2 : ∃ (s : State) (n : SocId) (cause : Nat), s.alive .keystone = true ∧ socOwned s n = true ∧ s.standby = false ∧ s.saf.soc[n].test = none ∧ s.saf.soc[n].cmd = false ∧ socRefusal s n = some cause ∧ s.hasRoom 1 = true :=
  ⟨(staged .form 0x101 .run).setN (Obj.SAF_SOC_CFG 2) 1, 2, 2, by decide +kernel⟩

theorem witness_ContactorControl_3 : ∃ (s : State) (n : SocId), Inv s ∧ s.alive .keystone = true ∧ socOwned s n = true ∧ s.saf.soc[n].test = none ∧ s.saf.soc[n].cmd = true :=
  ⟨((staged .form 0x101 .run).setN (Obj.SAF_SOC_CFG 2) 1).modSoc 2 fun x => { x with cmd := true }, 2, inv_of (by decide +kernel), by decide +kernel⟩

theorem witness_ContactorControl_4 : ∃ (s : State) (n : SocId) (p : Bool × Nat × Nat), s.alive .keystone = true ∧ socOwned s n = true ∧ s.saf.soc[n].test = some p :=
  ⟨((staged .form 0x101 .run).setN (Obj.SAF_SOC_CFG 2) 1).modSoc 2 fun x => { x with cmd := true, test := some (true, 0, 9) }, 2, (true, 0, 9), by decide +kernel⟩

theorem witness_ContactorControl_5 : ∃ (s : State) (n : SocId), Inv s ∧ s.alive .keystone = true ∧ socOwned s n = true ∧ s.saf.soc[n].test = none ∧ s.saf.soc[n].fault = false ∧ s.objN (Obj.SAF_SOC_TEST_PERIOD n) * cyclesSec ≤ s.since s.saf.soc[n].testAt :=
  ⟨((staged .form 0x101 .run).setN (Obj.SAF_SOC_CFG 2) 1).later 90000000000000, 2, inv_of (by decide +kernel), by decide +kernel⟩

theorem witness_ContactorControl_6 : ∃ (s : State) (n : SocId) (high : Bool) (start : Nat) (len : Nat), s.alive .keystone = true ∧ s.saf.soc[n].test = some (high, start, len) ∧ len ≤ s.since start ∧ s.hasRoom 1 = true :=
  ⟨(((staged .form 0x101 .run).setN (Obj.SAF_SOC_CFG 2) 1).modSoc 2 fun x => { x with cmd := true, test := some (true, 0, 9) }).later 9, 2, true, 0, 9, by decide +kernel⟩

theorem witness_ContactorControl_7 : ∃ (s : State) (n : SocId) (high : Bool) (start : Nat) (len : Nat), s.alive .keystone = true ∧ s.saf.soc[n].test = some (high, start, len) ∧ len ≤ s.since start ∧ s.saf.soc[n].wish = none :=
  ⟨(((staged .form 0x101 .run).setN (Obj.SAF_SOC_CFG 2) 1).modSoc 2 fun x => { x with cmd := true, test := some (true, 0, 9) }).later 9, 2, true, 0, 9, by decide +kernel⟩

theorem witness_ContactorControl_8 : ∃ (s : State) (n : SocId), Inv s ∧ s.alive .keystone = true ∧ s.saf.soc[n].cmd = true ∧ s.saf.soc[n].awaited = true ∧ s.saf.soc[n].disc ≤ s.since s.saf.soc[n].cmdAt ∧ s.hasRoom 1 = true :=
  ⟨(((staged .form 0x101 .run).setN (Obj.SAF_SOC_CFG 2) 1).modSoc 2 fun x => { x with cmd := true, awaited := true, disc := 9 }).later 9, 2, inv_of (by decide +kernel), by decide +kernel⟩

theorem witness_ContactorControl_9 : ∃ (s : State) (n : SocId), Inv s ∧ s.alive .keystone = true ∧ s.saf.soc[n].cmd = false ∧ s.saf.soc[n].awaited = true ∧ s.saf.soc[n].energised = true ∧ s.saf.soc[n].disc ≤ s.since s.saf.soc[n].cmdAt ∧ s.hasRoom 1 = true :=
  ⟨(((staged .form 0x101 .run).setN (Obj.SAF_SOC_CFG 2) 1).modSoc 2 fun x => { x with awaited := true, disc := 9, energised := true }).later 9, 2, inv_of (by decide +kernel), by decide +kernel⟩

theorem witness_ContactorControl_10 : ∃ (s : State) (n : SocId), Inv s ∧ s.alive .keystone = true ∧ s.saf.soc[n].energised = true ∧ s.objN (Obj.SAF_SOC_PROOF n) * cyclesHour ≤ s.since s.saf.soc[n].energisedAt ∧ s.bit (Obj.SAF_SOC_STATUS n) 3 = false ∧ s.hasRoom 1 = true :=
  ⟨(((staged .form 0x101 .run).setN (Obj.SAF_SOC_CFG 2) 1).modSoc 2 fun x => { x with energised := true }).later (9000 * cyclesHour), 2, inv_of (by decide +kernel), by decide +kernel⟩

theorem witness_KeystoneDiagnostics_1 : ∃ (s : State), Inv s ∧ s.alive .keystone = true ∧ s.saf.halted = false ∧ s.hasRoom 1 = true :=
  ⟨(live .form), inv_of (by decide +kernel), by decide +kernel⟩

theorem witness_KeystoneDiagnostics_2 : ∃ (s : State), Inv s ∧ s.alive .keystone = true ∧ 10 * cyclesSec ≤ s.since s.saf.marchAt ∧ s.hasRoom 1 = true :=
  ⟨(live .form).later 4096000000, inv_of (by decide +kernel), by decide +kernel⟩

theorem witness_KeystoneDiagnostics_3 : ∃ (s : State), s.alive .keystone = true ∧ 10 * cyclesSec ≤ s.since s.saf.marchAt :=
  ⟨(live .form).later 4096000000, by decide +kernel⟩

theorem witness_KeystoneDiagnostics_4 : ∃ (s : State) (rail : Fin 18) (before : Rat) (value : Rat) (lo : Rat) (hi : Rat), Inv s ∧ s.alive .keystone = true ∧ railWindow rail = some (lo, hi) ∧ railExempt s rail = false ∧ (before < lo ∨ hi < before) ∧ (value < lo ∨ hi < value) ∧ s.hasRoom 1 = true :=
  ⟨(live .form), 11, 1, 1, mkRat 76 100, mkRat 84 100, inv_of (by decide +kernel), by decide +kernel⟩

theorem witness_KeystoneDiagnostics_5 : ∃ (s : State) (g : GdId) (held : Nat), Inv s ∧ s.alive .keystone = true ∧ cyclesUs 2 ≤ held ∧ s.hasRoom 1 = true :=
  ⟨(live .form), 2, cyclesUs 2, inv_of (by decide +kernel), by decide +kernel⟩

theorem witness_KeystoneDiagnostics_6 : ∃ (s : State), Inv s ∧ s.alive .keystone = true ∧ 720 * cyclesHour ≤ s.since s.saf.resetAt ∧ s.bit Obj.SAF_STATUS 4 = false ∧ s.hasRoom 1 = true :=
  ⟨(live .form).later (720 * cyclesHour + 5), inv_of (by decide +kernel), by decide +kernel⟩

theorem witness_SafeStop_1 : ∃ (s : State) (n : StageId) (td : Nat) (tr : Nat) (cause : Nat) (x0 : Rat), s.alive .keystone = true ∧ s.saf.ssd[n].ramp = some (td, x0, tr, cause) ∧ tr + s.objN (Obj.SAF_SSD_TAIL n) * cyclesMs ≤ s.since td ∧ ssdPar s (Obj.SAF_SSD_END n) ≤ s.saf.ssd[n].x ∧ s.stg[n].st ≠ .safe ∧ s.mod.mode ≠ .halt ∧ s.mod.mode ≠ .adit ∧ s.hasRoom 1 = true :=
  ⟨((staged .form 0x101 .run).modSsd 1 fun x => { x with ramp := some (0, 20, 9, 0), x := 20 }).later 9000000000, 1, 0, 9, 0, 20, by decide +kernel⟩

theorem witness_SafeStop_2 : ∃ (s : State) (n : StageId) (td : Nat) (tr : Nat) (x0 : Rat), s.alive .keystone = true ∧ s.saf.ssd[n].ramp = some (td, x0, tr, 0) ∧ tr + s.objN (Obj.SAF_SSD_TAIL n) * cyclesMs ≤ s.since td ∧ s.saf.ssd[n].x < ssdPar s (Obj.SAF_SSD_END n) ∧ s.stg[n].st = .run ∧ s.hasRoom 1 = true :=
  ⟨((staged .form 0x101 .run).modSsd 1 fun x => { x with ramp := some (0, 20, 9, 0), x := -20 }).later 9000000000, 1, 0, 9, 20, by decide +kernel⟩

theorem witness_SafeStop_3 : ∃ (s : State) (n : StageId) (held : Nat), s.alive .keystone = true ∧ s.isSsd n = true ∧ s.switching n = true ∧ ssdPar s (Obj.SAF_SSD_BAND n) < absR (s.saf.ssd[n].x - pierMeasure s n) ∧ cyclesMs ≤ held ∧ held ≤ s.now ∧ s.mod.mode ≠ .halt ∧ s.mod.mode ≠ .adit ∧ s.hasRoom 1 = true :=
  ⟨(((staged .form 0x101 .run).setN (Obj.SAF_STAGE_CFG 1) 1).modSsd 1 fun x => { x with x := 2000000 }).later 9000000000, 1, cyclesMs, by decide +kernel⟩

theorem witness_SafeStop_4 : ∃ (s : State) (n : StageId) (held : Nat), s.alive .keystone = true ∧ absR (s.saf.ssd[n].x - pierMeasure s n) ≤ ssdPar s (Obj.SAF_SSD_BAND n) :=
  ⟨((staged .form 0x101 .run).setN (Obj.SAF_STAGE_CFG 1) 1), 1, 7, by decide +kernel⟩

theorem witness_SafeStop_5 : ∃ (s : State) (n : StageId) (w : Writer), s.admits w (Obj.MOD_STAGE_CMD n.val) (.int 2) = true ∧ s.commands w = true ∧ stopAllowed (resultingMode s) = true ∧ s.switching n = true ∧ s.isSsd n = true ∧ s.saf.ssd[n].ramp = none ∧ ssdPar s (Obj.SAF_SSD_END n) ≤ s.saf.ssd[n].x :=
  ⟨(((live .form).modStage 1 fun c => { c with st := .run }).setN (Obj.SAF_STAGE_CFG 1) 1).modSsd 1 fun x => { x with x := 2000000 }, 1, .logic, by decide +kernel⟩

theorem witness_SafetyConnections_1 : ∃ (s : State) (c : ConnId), s.alive .keystone = true ∧ s.alive .network = true ∧ connOn s c = true ∧ isProducer s c = true ∧ isStandby s = false ∧ s.objN (Obj.SAF_CONN_PERIOD c) * cyclesMs ≤ s.since s.saf.conn[c].sentAt :=
  ⟨((live .form).setN (Obj.SAF_CONN_CFG 3) 0x83).later 900000000, 3, by decide +kernel⟩

theorem witness_SafetyConnections_2 : ∃ (s : State) (named : Option ConnId) (unit : List Nat) (v : UnitView) (c : ConnId), s.alive .keystone = true ∧ s.alive .network = true ∧ v = readUnit unit ∧ unitConn s named v = some c ∧ connOn s c = true ∧ isProducer s c = false ∧ v.crcOk = true ∧ v.id = s.objN (Obj.SAF_CONN_ID c) ∧ v.len = connLength s c ∧ unit.length = 20 + (padWord v.payload).length ∧ s.saf.conn[c].safe = false ∧ v.seq = (s.saf.conn[c].seq + 1) % 65536 ∧ v.tally = (s.saf.conn[c].tally + 1) % 256 ∧ (v.good = false ∨ ntaGood s = false) :=
  ⟨((live .form).setN (Obj.SAF_CONN_CFG 3) 0x81).modConn 3 fun x => { x with safe := false, fresh := false, seq := 6, tally := 8 }, some 3, unitBytes 0 7 9 0 false false false [1, 2, 3, 4], readUnit (unitBytes 0 7 9 0 false false false [1, 2, 3, 4]), 3, by decide +kernel⟩

theorem witness_SafetyConnections_3 : ∃ (s : State) (named : Option ConnId) (unit : List Nat) (v : UnitView) (c : ConnId), Inv s ∧ s.alive .keystone = true ∧ s.alive .network = true ∧ v = readUnit unit ∧ unitConn s named v = some c ∧ connOn s c = true ∧ isProducer s c = false ∧ v.crcOk = false :=
  ⟨((live .form).setN (Obj.SAF_CONN_CFG 3) 0x81).modConn 3 fun x => { x with safe := false, fresh := false, seq := 6, tally := 8 }, some 3, [1, 2, 3], readUnit [1, 2, 3], 3, inv_of (by decide +kernel), by decide +kernel⟩

theorem witness_SafetyConnections_4 : ∃ (s : State) (named : Option ConnId) (unit : List Nat) (v : UnitView) (c : ConnId), s.alive .keystone = true ∧ s.alive .network = true ∧ v = readUnit unit ∧ unitConn s named v = some c ∧ connOn s c = true ∧ isProducer s c = false ∧ v.crcOk = true ∧ v.id ≠ s.objN (Obj.SAF_CONN_ID c) :=
  ⟨((live .form).setN (Obj.SAF_CONN_CFG 3) 0x81).modConn 3 fun x => { x with safe := false, fresh := false, seq := 6, tally := 8 }, some 3, unitBytes 5 7 9 0 false false false [1, 2, 3, 4], readUnit (unitBytes 5 7 9 0 false false false [1, 2, 3, 4]), 3, by decide +kernel⟩

theorem witness_SafetyConnections_5 : ∃ (s : State) (c : ConnId), s.alive .keystone = true ∧ connOn s c = true ∧ isProducer s c = false ∧ s.saf.conn[c].safe = false ∧ maxAge s c ≤ s.since s.saf.conn[c].acceptedAt ∧ s.hasRoom 1 = true :=
  ⟨(((live .form).setN (Obj.SAF_CONN_CFG 3) 0x81).modConn 3 fun x => { x with safe := false }).later 9000000000, 3, by decide +kernel⟩

theorem witness_SafetyConnections_6 : ∃ (s : State) (c : ConnId) (fallback : Bool), s.alive .keystone = true ∧ connOn s c = true ∧ isProducer s c = false ∧ hasFallback s c = true ∧ s.saf.conn[c].pathLost[(if fallback then 1 else 0 : Fin 2)] = false ∧ maxAge s c ≤ s.since s.saf.conn[c].pathAt[(if fallback then 1 else 0 : Fin 2)] ∧ s.hasRoom 1 = true :=
  ⟨(((live .form).setN (Obj.SAF_CONN_CFG 3) 0x85).modConn 3 fun x => { x with pathLost := .replicate 2 false }).later 9000000000, 3, true, by decide +kernel⟩

theorem witness_SafetyConnections_7 : ∃ (s : State) (c : ConnId) (w : Writer), s.serves w .keystone = true ∧ connOn s c = true ∧ isProducer s c = false ∧ s.saf.conn[c].safe = false ∧ s.hasRoom 1 = true :=
  ⟨((live .form).setN (Obj.SAF_CONN_CFG 3) 0x81).modConn 3 fun x => { x with safe := false }, 3, .logic, by decide +kernel⟩

theorem witness_CheckValueUnits_1 : ∃ (s : State) (u : CvuId) (w : Writer), Inv s ∧ s.serves w .house = true ∧ cvuForeign s u w = false :=
  ⟨((live .form).setN (Obj.CVU_CFG 2) (8 + 2 * 1024 + 4096)).ownedBySpi, 2, .port 1 0, inv_of (by decide +kernel), by decide +kernel⟩

theorem witness_CheckValueUnits_2 : ∃ (s : State) (u : CvuId) (data : List Nat) (w : Writer), s.serves w .house = true ∧ cvuForeign s u w = false ∧ s.nvs.cvu[u].owner = some w :=
  ⟨(live .form).ownedBySpi.modCvu 2 fun x => { x with owner := some (.port 1 0), fed := [1] }, 2, [5, 6], .port 1 0, by decide +kernel⟩

theorem witness_CheckValueUnits_3 : ∃ (s : State) (u : CvuId) (data : List Nat) (w : Writer) (o : Writer), s.nvs.cvu[u].owner = some o ∧ o ≠ w :=
  ⟨(live .form).ownedBySpi.modCvu 2 fun x => { x with owner := some .logic, fed := [1] }, 2, [5, 6], .port 1 0, .logic, by decide +kernel⟩

theorem witness_CheckValueUnits_4 : ∃ (s : State) (u : CvuId) (w : Writer), Inv s ∧ s.serves w .house = true ∧ cvuForeign s u w = false ∧ s.nvs.cvu[u].owner = some w ∧ cvuMode s u = 1 ∧ s.hasRoom 1 = true :=
  ⟨(((live .form).setN (Obj.CVU_CFG 2) (8 + 1024)).setN (Obj.CVU_POLY 2) 7).ownedBySpi.modCvu 2 fun x => { x with owner := some (.port 1 0), fed := [1] }, 2, .port 1 0, inv_of (by decide +kernel), by decide +kernel⟩

theorem witness_CheckValueUnits_5 : ∃ (s : State) (u : CvuId) (w : Writer) (c : Nat) (se : Nat), Inv s ∧ w = .port c se ∧ s.serves w .house = true ∧ cvuForeign s u w = false ∧ s.nvs.cvu[u].owner = some w ∧ cvuMode s u = 2 ∧ cvuTally s u = 0 :=
  ⟨(((live .form).setN (Obj.CVU_CFG 2) (8 + 2048)).setN (Obj.CVU_POLY 2) 7).ownedBySpi.modCvu 2 fun x => { x with owner := some (.port 1 0), fed := [1] }, 2, .port 1 0, 1, 0, inv_of (by decide +kernel), by decide +kernel⟩

theorem witness_CheckValueUnits_6 : ∃ (s : State) (u : CvuId) (w : Writer), Inv s ∧ s.serves w .house = true ∧ cvuForeign s u w = false ∧ s.nvs.cvu[u].owner = some w ∧ cvuMode s u = 3 ∧ (s.nvs.cvu[u].fed.length < cvuCheckBytes s u ∨ wordBE (s.nvs.cvu[u].fed.drop (s.nvs.cvu[u].fed.length - cvuCheckBytes s u)) ≠ cvuCrc s u (s.nvs.cvu[u].fed.take (s.nvs.cvu[u].fed.length - cvuCheckBytes s u))) :=
  ⟨(((live .form).setN (Obj.CVU_CFG 2) (8 + 3072)).setN (Obj.CVU_POLY 2) 7).ownedBySpi.modCvu 2 fun x => { x with owner := some (.port 1 0), fed := [1, 2, 3] }, 2, .port 1 0, inv_of (by decide +kernel), by decide +kernel⟩

theorem witness_RecordsAndImages_1 : ∃ (s : State) (m : Fin 3), Inv s ∧ s.alive .house = true :=
  ⟨(live .form), 1, inv_of (by decide +kernel), by decide +kernel⟩

theorem witness_RecordsAndImages_2 : ∃ (s : State) (m : Fin 3) (a : Nat), s.alive .house = true ∧ s.hasRoom 1 = true :=
  ⟨(live .form), 1, 77, by decide +kernel⟩

theorem witness_RecordsAndImages_3 : ∃ (s : State) (r : Fin 3) (g1 : Nat) (g2 : Nat), s.alive .house = true ∧ s.hasRoom 1 = true :=
  ⟨(live .form), 2, 5, 6, by decide +kernel⟩

theorem witness_RecordsAndImages_4 : ∃ (s : State) (r : Fin 3) (g1 : Nat) (g2 : Nat), True :=
  ⟨(live .form), 2, 6, 6, by decide +kernel⟩

theorem witness_RecordsAndImages_5 : ∃ (s : State) (r : Fin 3) (e : Bool) (g1 : Nat) (g2 : Nat), s.alive .house = true ∧ s.hasRoom 1 = true :=
  ⟨(live .form).modNvs (fun n => { n with lost := [0] }), 2, false, 5, 6, by decide +kernel⟩

theorem witness_RecordsAndImages_6 : ∃ (s : State) (m : Fin 3) (seconds : Rat), Inv s ∧ s.alive .house = true ∧ (longestRound m : Rat) < seconds ∧ s.hasRoom 1 = true :=
  ⟨(live .form), 0, 9, inv_of (by decide +kernel), by decide +kernel⟩

theorem witness_RecordsAndImages_7 : ∃ (s : State) (w : Writer), s.reaches w = true ∧ s.alive .house = true ∧ s.standsBy w = false ∧ serviceOk s w = true ∧ s.mod.mode = .ready :=
  ⟨(live .ready).serviced.modNvs (fun n => { n with running_ := 5 }), .port 1 0, by decide +kernel⟩

theorem witness_RecordsAndImages_8 : ∃ (s : State) (b : ImageBlock) (hold : Rat) (w : Writer), s.alive .house = true ∧ serviceOk s w = true ∧ s.mod.mode = .ready ∧ s.nvs.stopped = false ∧ s.nvs.writing = none ∧ s.nvs.running = some ⟨.dictionary, 0, none, 0, none⟩ :=
  ⟨(live .ready).serviced.modNvs (fun n => { n with running := some ⟨.dictionary, 0, none, 0, none⟩ }), .more, 24, .port 1 0, by decide +kernel⟩

theorem witness_RecordsAndImages_9 : ∃ (s : State) (b : ImageBlock) (hold : Rat) (w : Writer) (k : Nat), s.alive .house = true ∧ serviceOk s w = true ∧ s.mod.mode = .ready ∧ s.nvs.stopped = false ∧ s.nvs.writing = some k ∧ k % 16 ≠ 0 ∧ s.nvs.running = some ⟨.dictionary, 0, none, 0, none⟩ :=
  ⟨(live .ready).serviced.modNvs (fun n => { n with writing := some 3, running := some ⟨.dictionary, 0, none, 0, none⟩ }), .more, 24, .port 1 0, 3, by decide +kernel⟩

theorem witness_RecordsAndImages_10 : ∃ (s : State) (b : ImageBlock) (hold : Rat) (w : Writer), (serviceOk s w = false ∨ s.mod.mode ≠ .ready) :=
  ⟨(live .form), .more, 24, .port 1 0, by decide +kernel⟩

theorem witness_StoresAndHoldUp_1 : ∃ (s : State) (kind : StoreKind) (lines : Nat) (hold : Rat), s.alive .house = true ∧ s.nvs.stopped = false ∧ s.nvs.running = none ∧ s.nvs.waiting = [] ∧ kind ≠ .erase ∧ r32 hold = hold ∧ energyNeeded s kind lines ≤ energyHeld s hold :=
  ⟨(live .form), .dictionary, 0, 24, by decide +kernel⟩

theorem witness_StoresAndHoldUp_2 : ∃ (s : State) (kind : StoreKind) (lines : Nat) (hold : Rat), Inv s ∧ s.alive .house = true ∧ s.nvs.stopped = false ∧ s.nvs.running = none ∧ s.nvs.waiting = [] ∧ kind ≠ .erase ∧ r32 hold = hold ∧ energyHeld s hold < energyNeeded s kind lines ∧ s.nvs.deferred = [] ∧ s.hasRoom 1 = true :=
  ⟨(live .form), .dictionary, 0, 12, inv_of (by decide +kernel), by decide +kernel⟩

theorem witness_StoresAndHoldUp_3 : ∃ (s : State) (kind : StoreKind) (lines : Nat) (hold : Rat), s.nvs.stopped = true :=
  ⟨(live .form).modNvs (fun n => { n with stopped := true }), .dictionary, 0, 12, by decide +kernel⟩

theorem witness_StoresAndHoldUp_4 : ∃ (s : State) (hold : Rat) (x : StoreSt), s.alive .house = true ∧ s.nvs.stopped = false ∧ s.nvs.running = none ∧ s.nvs.waiting = [x] ∧ cyclesMs ≤ s.since s.nvs.retryAt ∧ x.writer = none ∧ x.kind ≠ .erase ∧ energyNeeded s x.kind x.lines ≤ energyHeld s hold :=
  ⟨((live .form).modNvs (fun n => { n with waiting := [⟨.dictionary, 0, none, 0, none⟩] })).later 500000, 24, ⟨.dictionary, 0, none, 0, none⟩, by decide +kernel⟩

theorem witness_StoresAndHoldUp_5 : ∃ (s : State) (verified : Bool) (hold : Rat) (x : StoreSt), s.alive .house = true ∧ s.nvs.running = some x ∧ x.kind = .dictionary ∧ s.nvs.waiting = [] ∧ s.nvs.stopped = false :=
  ⟨((live .form).setN Obj.LGC_CYCLE_PERIOD 20).modNvs (fun n => { n with running := some ⟨.dictionary, 0, none, 0, none⟩ }), true, 24, ⟨.dictionary, 0, none, 0, none⟩, by decide +kernel⟩

theorem witness_StoresAndHoldUp_6 : ∃ (s : State) (hold : Rat) (x : StoreSt), s.alive .house = true ∧ s.nvs.running = some x ∧ x.kind = .logPage ∧ s.nvs.waiting = [] ∧ s.nvs.stopped = false :=
  ⟨{ (live .form).modNvs (fun n => { n with running := some ⟨.logPage, 0, none, 0, none⟩ }) with logBuf := (List.range 6).map fun q => ⟨q, 1, 2, 3, []⟩, logSeq := 6 }, 24, ⟨.logPage, 0, none, 0, none⟩, by decide +kernel⟩

theorem witness_StoresAndHoldUp_7 : ∃ (s : State) (hold : Rat) (x : StoreSt), s.alive .house = true ∧ s.nvs.running = some x ∧ x.kind = .logPage ∧ s.nvs.waiting = [] ∧ s.nvs.stopped = false ∧ s.hasRoom 1 = true :=
  ⟨(live .form).modNvs (fun n => { n with running := some ⟨.logPage, 0, none, 0, none⟩ }), 24, ⟨.logPage, 0, none, 0, none⟩, by decide +kernel⟩

theorem witness_StoresAndHoldUp_8 : ∃ (s : State) (verified : Bool) (hold : Rat) (x : StoreSt), s.alive .house = true ∧ s.nvs.running = some x ∧ s.nvs.stopped = true :=
  ⟨((live .form).setN Obj.LGC_CYCLE_PERIOD 20).modNvs (fun n => { n with stopped := true, running := some ⟨.dictionary, 0, none, 0, none⟩ }), true, 24, ⟨.dictionary, 0, none, 0, none⟩, by decide +kernel⟩

theorem witness_StoresAndHoldUp_9 : ∃ (s : State) (hold : Rat), s.alive .house = true ∧ s.nvs.stopped = false ∧ s.nvs.running = none ∧ s.nvs.waiting = [] ∧ s.logBuf ≠ [] ∧ s.objN Obj.THM_THROTTLE_STEP = 0 ∧ energyNeeded s .logPage 0 ≤ energyHeld s hold :=
  ⟨{ (live .form) with logBuf := [⟨0, 1, 2, 3, []⟩], logSeq := 1 }, 24, by decide +kernel⟩

theorem witness_ClauzLink_1 : ∃ (s : State) (id : PartnerId) (lanes : Vector Bool 2) (c : Nat), s.alive .link = true ∧ s.twn.link = 0 ∧ s.twn.mode = 1 ∧ c = boolNat lanes[(0 : Fin 2)] + boolNat lanes[(1 : Fin 2)] ∧ c ≠ 0 ∧ id.primary = (!s.twn.primary) ∧ id.pairMode = 1 ∧ id.fw = s.objN Obj.MOD_FW_VERSION ∧ s.bit Obj.TIM_REF_CFG 0 = (!s.twn.primary) ∧ id.source = s.twn.primary ∧ s.hasRoom 1 = true :=
  ⟨(live .ready).modTwn fun x => { x with mode := 1, primary := true }, ⟨7, false, 1, (live .ready).objN Obj.MOD_FW_VERSION, 0, 0, 1, true⟩, #v[true, false], 1, by decide +kernel⟩

theorem witness_ClauzLink_2 : ∃ (s : State) (id : PartnerId) (lanes : Vector Bool 2), s.alive .link = true ∧ s.twn.link = 0 ∧ s.twn.mode ≠ 0 ∧ (lanes[(0 : Fin 2)] = true ∨ lanes[(1 : Fin 2)] = true) ∧ id.primary = s.twn.primary ∧ s.hasRoom 2 = true :=
  ⟨(live .ready).modTwn fun x => { x with mode := 1, primary := true }, ⟨7, true, 1, 0, 0, 0, 1, true⟩, #v[true, false], by decide +kernel⟩

theorem witness_ClauzLink_3 : ∃ (s : State), s.alive .link = true ∧ s.twn.link ≠ 0 ∧ s.hasRoom 1 = true :=
  ⟨(live .ready).duplex true true, by decide +kernel⟩

theorem witness_ClauzLink_4 : ∃ (s : State) (lane : Fin 2), s.alive .link = true ∧ s.twn.link = 3 ∧ s.hasRoom 1 = true :=
  ⟨(live .ready).duplex true true, 1, by decide +kernel⟩

theorem witness_ClauzLink_5 : ∃ (s : State) (lane : Fin 2), s.alive .link = true ∧ s.twn.link = 2 ∧ s.twn.lanes[lane] = false ∧ s.hasRoom 1 = true :=
  ⟨((live .ready).duplex true true).modTwn fun x => { x with link := 2, lanes := #v[true, false] }, 1, by decide +kernel⟩

theorem witness_ClauzLink_6 : ∃ (s : State) (phase : Int) (from_ : Nat), Inv s ∧ s.alive .edge = true ∧ s.twn.mode ≠ 0 ∧ s.twn.lock = false ∧ s.twn.lockFrom = some from_ ∧ lockFault s = none ∧ 10 * cyclesMs ≤ s.since from_ ∧ s.hasRoom 1 = true :=
  ⟨(((live .ready).duplex true true).modTwn fun x => { x with lockFrom := some 0 }).later 90000000, 5, 0, inv_of (by decide +kernel), by decide +kernel⟩

theorem witness_ClauzLink_7 : ∃ (s : State) (v : Val) (w : Writer) (c : Nat) (se : Nat), w = .port c se ∧ (2 ≤ c ∧ c ≤ 4) ∧ s.reaches w = true ∧ s.alive .house = true ∧ s.alive .link = true ∧ s.twn.mode = 1 ∧ s.twn.primary = true ∧ 2 ≤ s.twn.link :=
  ⟨(live .ready).modTwn fun x => { x with mode := 1, primary := true, link := 3 }, .int 5, .port 2 1, 2, 1, by decide +kernel⟩

theorem witness_ClauzLink_8 : ∃ (s : State) (v : Val) (a : Nat) (w : Writer), s.reaches w = true ∧ s.alive .house = true ∧ s.alive .link = true ∧ s.twn.mode = 1 ∧ s.twn.primary = true ∧ 2 ≤ s.twn.link ∧ s.accepts w = true :=
  ⟨((live .ready).ownedBySpi).modTwn fun x => { x with mode := 1, primary := true, link := 3 }, .int 5, 0, .port 1 0, by decide +kernel⟩

theorem witness_ClauzLink_9 : ∃ (s : State) (v : Val) (a : Nat) (w : Writer), s.accepts w = false :=
  ⟨((live .form).setN Obj.NET_OWNER 50).modTwn fun x => { x with mode := 1, primary := true, link := 3 }, .int 5, 0, .port 1 0, by decide +kernel⟩

theorem witness_DuplexComparison_1 : ∃ (s : State) (key : Nat) (v : Val) (at_ : Nat) (r : ObjRow), Inv s ∧ s.alive .link = true ∧ s.standby = true ∧ 2 ≤ s.twn.link ∧ at_ = 0 ∧ s.isl.lately = [] ∧ s.mod.mode.running = false ∧ objRow (key / 256) (key % 256) = some r ∧ key = Obj.LGC_CYCLE_PERIOD :=
  ⟨(live .ready).duplex false false, Obj.LGC_CYCLE_PERIOD, .int 20, 0, rowAt Obj.LGC_CYCLE_PERIOD, inv_of (by decide +kernel), by decide +kernel⟩

theorem witness_DuplexComparison_2 : ∃ (s : State) (key : Nat) (v : Val) (at_ : Nat), s.alive .link = true ∧ s.standby = true ∧ 2 ≤ s.twn.link ∧ at_ ≠ 0 ∧ s.replicaOf .link < mtOfTt s at_ ∧ mtOfTt s at_ ≤ s.replicaOf .link + 2147483648 ∧ s.isl.held = [] :=
  ⟨(live .ready).duplex false false, Obj.LGC_CYCLE_PERIOD, .int 20, 900, by decide +kernel⟩

theorem witness_DuplexComparison_3 : ∃ (s : State) (key : Nat) (v : Val) (at_ : Nat), s.standby = false :=
  ⟨(live .ready).duplex false true, Obj.LGC_CYCLE_PERIOD, .int 20, 0, by decide +kernel⟩

theorem witness_DuplexComparison_4 : ∃ (s : State) (c : AdcId) (diffs : Vector Rat 8), s.alive .sample = true ∧ s.standby = true ∧ s.objN (Obj.TWN_CH_WIRING c) = 0 ∧ diffs.toList.all (fun d => decide ((s.objN Obj.TWN_XCHECK_TOL : Rat) < absR d * 10000)) = true ∧ s.alive .keystone = true ∧ s.saf.halted = false ∧ s.twn.xfail = false ∧ s.hasRoom 1 = true :=
  ⟨(live .form).duplex false false, 3, .replicate 8 1, by decide +kernel⟩

theorem witness_DuplexComparison_5 : ∃ (s : State), s.alive .sample = true ∧ s.twn.xfail = true ∧ cyclesSec ≤ s.since s.twn.xfailAt :=
  ⟨(((live .form).duplex false false).modTwn fun x => { x with xfail := true }).later 900000000, by decide +kernel⟩

theorem witness_DuplexComparison_6 : ∃ (s : State) (n : StageId) (k : Nat) (tally : Nat) (check : Nat) (e : SentSet), s.alive .link = true ∧ s.twn.mode = 2 ∧ 2 ≤ s.twn.link ∧ s.twn.digests = [] ∧ s.pie[n].sent.find? (fun e => e.k == k) = some e ∧ e.tally = tally ∧ e.check = check :=
  ⟨((live .form).duplex false false).modPier 1 fun q => { q with sent := [⟨5, 9, [], 77⟩] }, 1, 9, 5, 77, ⟨5, 9, [], 77⟩, by decide +kernel⟩

theorem witness_DuplexComparison_7 : ∃ (s : State) (n : StageId) (k : Nat) (tally : Nat) (check : Nat), s.alive .link = true ∧ s.twn.mode = 2 ∧ 2 ≤ s.twn.link ∧ s.twn.digests.length < 64 ∧ s.pie[n].sent.find? (fun e => e.k == k) = none :=
  ⟨(live .form).duplex false false, 1, 9, 5, 77, by decide +kernel⟩

theorem witness_DuplexComparison_8 : ∃ (s : State) (n : StageId) (k : Nat) (tally : Nat) (check : Nat) (e : SentSet), Inv s ∧ s.alive .link = true ∧ s.twn.mode = 2 ∧ 2 ≤ s.twn.link ∧ s.twn.digests = [] ∧ s.pie[n].sent.find? (fun e => e.k == k) = some e ∧ (e.tally ≠ tally ∨ e.check ≠ check) ∧ s.pie[n].work = none ∧ s.twn.diffs[n] = 1 ∧ s.twn.arb = none ∧ s.twn.selfFenced = false ∧ s.fenced (.pier n) = false ∧ s.hasRoom 2 = true :=
  ⟨(((live .form).duplex false false).modTwn fun x => { x with diffs := x.diffs.set 1 1 }).modPier 1 fun q => { q with sent := [⟨5, 9, [], 77⟩] }, 1, 9, 5, 78, ⟨5, 9, [], 77⟩, inv_of (by decide +kernel), by decide +kernel⟩

theorem witness_DuplexComparison_9 : ∃ (s : State) (armed : Bool) (acted : List (Fin 6)) (n : StageId) (at_ : Nat) (trigger : Nat), s.alive .link = true ∧ s.twn.mode = 2 ∧ 2 ≤ s.twn.link ∧ s.standby = true ∧ s.twn.arb = some ⟨n, trigger, some false, at_, none⟩ ∧ s.hasRoom 2 = true :=
  ⟨((live .form).duplex false false).modTwn fun x => { x with arb := some ⟨1, 0xA006, some false, 0, none⟩ }, true, [], 1, 0, 0xA006, by decide +kernel⟩

theorem witness_DuplexComparison_10 : ∃ (s : State) (acted : List (Fin 6)) (n : StageId) (at_ : Nat) (trigger : Nat), s.alive .link = true ∧ s.twn.mode = 2 ∧ 2 ≤ s.twn.link ∧ s.standby = false ∧ s.twn.arb = some ⟨n, trigger, some false, at_, none⟩ ∧ s.hasRoom 2 = true :=
  ⟨((live .form).duplex true true).modTwn fun x => { x with arb := some ⟨1, 0xA006, some false, 0, none⟩ }, [], 1, 0, 0xA006, by decide +kernel⟩

theorem witness_DuplexComparison_11 : ∃ (s : State) (armed : Bool) (acted : List (Fin 6)) (n : StageId) (at_ : Nat) (trigger : Nat) (j : Fin 6), s.alive .link = true ∧ s.twn.mode = 2 ∧ 2 ≤ s.twn.link ∧ s.standby = false ∧ s.twn.arb = some ⟨n, trigger, some true, at_, none⟩ ∧ acted.contains j = true ∧ (actedLately s n).contains j = true ∧ s.mod.mode ≠ .halt ∧ s.mod.mode ≠ .adit ∧ s.stg[n].st ≠ .safe ∧ s.hasRoom 2 = true :=
  ⟨(((live .form).duplex true true).modTwn fun x => { x with arb := some ⟨1, 0x2308, some true, 0, none⟩ }).modSurvey 1 fun v => { v with actedAt := [(0, 2)] }, true, [2], 1, 0, 0x2308, 2, by decide +kernel⟩

theorem witness_DuplexComparison_12 : ∃ (s : State) (pass : Bool) (armed : Bool) (acted : List (Fin 6)), s.twn.arb = none :=
  ⟨((live .form).duplex true true), true, false, [], by decide +kernel⟩

theorem witness_DuplexComparison_13 : ∃ (s : State) (n : StageId) (at_ : Nat), s.alive .keystone = true ∧ s.standby = false ∧ s.twn.arb = some ⟨n, 0x2308, some false, at_, none⟩ ∧ cyclesUs 2 ≤ s.since at_ ∧ s.mod.mode ≠ .halt ∧ s.mod.mode ≠ .adit ∧ s.stg[n].st ≠ .safe ∧ s.hasRoom 2 = true :=
  ⟨(((live .form).duplex true true).modTwn fun x => { x with arb := some ⟨1, 0x2308, some false, 0, none⟩ }).later 9000, 1, 0, by decide +kernel⟩

theorem witness_InterlockAndHandover_1 : ∃ (s : State), Inv s ∧ s.alive .keystone = true ∧ s.twn.mode = 2 ∧ s.twn.claimIn = .released ∧ s.twn.active = true ∧ s.twn.primary = false ∧ s.twn.handover = none ∧ s.hasRoom 4 = true :=
  ⟨(((live .form).duplex false true).modTwn fun x => { x with claimIn := .released, grant := true }).setN Obj.NET_OWNER 50, inv_of (by decide +kernel), by decide +kernel⟩

theorem witness_InterlockAndHandover_2 : ∃ (s : State), s.alive .keystone = true ∧ s.twn.mode = 2 ∧ s.twn.claimIn = .released ∧ s.twn.active = true ∧ s.twn.primary = true ∧ s.twn.request = true :=
  ⟨((live .form).duplex true true).modTwn fun x => { x with claimIn := .released, grant := true }, by decide +kernel⟩

theorem witness_InterlockAndHandover_3 : ∃ (s : State), Inv s ∧ s.alive .keystone = true ∧ s.standby = true ∧ s.twn.armed = true ∧ s.mod.mode.running = true ∧ s.twn.claimIn = .released ∧ cyclesUs 1 ≤ s.since s.twn.claimSince ∧ s.mod.powered = true ∧ s.objN Obj.NET_OWNER = 0 ∧ s.twn.handover = none ∧ s.hasRoom 3 = true :=
  ⟨(((live .form).duplex false false).modTwn fun x => { x with claimIn := .released, claimSince := 0 }).later 90000, inv_of (by decide +kernel), by decide +kernel⟩

theorem witness_InterlockAndHandover_4 : ∃ (s : State), s.twn.armed = false :=
  ⟨(((live .form).duplex false false).modTwn fun x => { x with armed := false }).later 90000, by decide +kernel⟩

theorem witness_InterlockAndHandover_5 : ∃ (s : State) (g : GdId), s.alive (.gdPrimary g) = true ∧ s.twn.mode = 2 ∧ s.mod.mode.running = true ∧ s.twn.request = false ∧ s.twn.auto = false ∧ s.twn.claimIn = .released ∧ s.gdv.noHolder[g] = false ∧ cyclesUs 20 ≤ s.since (max s.twn.grantLost s.mod.enteredAt) :=
  ⟨(((live .form).duplex false false).modTwn fun x => { x with claimIn := .released }).later 900000, 2, by decide +kernel⟩

theorem witness_InterlockAndHandover_6 : ∃ (s : State), s.twn.held = true ∧ s.saf.halted = true :=
  ⟨((live .form).duplex true true).modSaf fun x => { x with halted := true }, by decide +kernel⟩

theorem witness_InterlockAndHandover_7 : ∃ (s : State) (start : Nat) (len : Nat), s.alive .keystone = true ∧ s.twn.holdoff = some (start, len) ∧ returnHolds s = true ∧ s.twn.handover = none ∧ len * cyclesSec ≤ s.since start :=
  ⟨((((live .form).duplex true false).setBit Obj.TWN_CONFIG 2 true).modTwn fun x => { x with lock := true, holdoff := some (0, 1) }).later 900000000, 0, 1, by decide +kernel⟩

theorem witness_InterlockAndHandover_8 : ∃ (s : State) (w : Writer), s.admits w Obj.TWN_CMD (.int 0x5A01) = true ∧ s.accepts w = true ∧ s.twn.mode = 2 ∧ s.twn.active = true ∧ s.mod.mode = .form ∧ partnerArmed s = true ∧ s.twn.lock = true ∧ s.twn.handover = none ∧ s.twn.holdoff = none :=
  ⟨(((live .form).duplex true true).modTwn fun x => { x with lock := true, view := some (partnerIn .form) }).ownedBySpi, .port 1 0, by decide +kernel⟩

theorem witness_InterlockAndHandover_9 : ∃ (s : State) (at_ : Nat), s.alive .keystone = true ∧ s.twn.handover = some (at_, 0) ∧ at_ ≤ s.now ∧ s.twn.active = true :=
  ⟨(((live .form).duplex true true).modTwn fun x => { x with grant := true, handover := some (5, 0) }).later 5, 5, by decide +kernel⟩

theorem witness_InterlockAndHandover_10 : ∃ (s : State) (at_ : Nat), s.alive .keystone = true ∧ s.standby = true ∧ s.twn.handover = some (at_, 1) ∧ at_ ≤ s.now ∧ s.mod.powered = true ∧ s.twn.claimIn = .released ∧ s.hasRoom 1 = true :=
  ⟨(((live .form).duplex false false).modTwn fun x => { x with claimIn := .released, handover := some (5, 1) }).later 5, 5, by decide +kernel⟩

theorem witness_ContactorDrivers_1 : ∃ (s : State) (d : SocId) (on : Bool) (instant : Nat), s.alive .abutment = true ∧ socOwned s d = false :=
  ⟨live .form, 1, true, 0, by decide +kernel⟩

theorem witness_ContactorDrivers_2 : ∃ (s : State) (d : SocId) (on : Bool) (instant : Nat), Inv s ∧ s.alive .abutment = true ∧ s.hasRoom 1 = true ∧ socOwned s d = true :=
  ⟨(live .form).setField (Obj.SAF_SOC_CFG 1) 0 3 2, 1, true, 0, inv_of (by decide +kernel), by decide +kernel⟩

theorem witness_ContactorDrivers_3 : ∃ (s : State) (d : SocId) (amps : Rat) (held : Nat), s.alive .abutment = true ∧ 4 < amps ∧ cyclesUs 10 ≤ held ∧ s.fio.drv[d].overc = false ∧ s.hasRoom 1 = true :=
  ⟨live .form, 1, 5, cyclesUs 10, by decide +kernel⟩

theorem witness_ContactorDrivers_4 : ∃ (s : State) (d : SocId) (w : Writer), s.serves w .abutment = true ∧ s.accepts w = true ∧ socOwned s d = false ∧ drvWanted s d = false :=
  ⟨live .ready, 1, .port 1 0, by decide +kernel⟩

theorem witness_ContactorDrivers_5 : ∃ (s : State) (d : SocId) (amps : Rat) (held : Nat), Inv s ∧ s.alive .abutment = true ∧ amps < mkRat 1 50 ∧ 50 * cyclesMs ≤ held ∧ s.fio.drv[d].high = true ∧ s.fio.drv[d].low = true ∧ s.bit (Obj.FIO_CD_STATUS d) 3 = false ∧ s.hasRoom 1 = true :=
  ⟨(live .form).modCd 1 fun x => { x with high := true, low := true }, 1, 0, 50 * cyclesMs, inv_of (by decide +kernel), by decide +kernel⟩

theorem witness_ContactorDrivers_6 : ∃ (s : State) (d : SocId) (amps : Rat) (held : Nat), Inv s ∧ s.alive .abutment = true ∧ mkRat 1 50 ≤ amps ∧ 50 * cyclesMs ≤ held ∧ s.fio.drv[d].high = true ∧ s.fio.drv[d].low = true :=
  ⟨(live .form).modCd 1 fun x => { x with high := true, low := true }, 1, 1, 50 * cyclesMs, inv_of (by decide +kernel), by decide +kernel⟩

theorem witness_ContactorDrivers_7 : ∃ (s : State) (d : SocId) (highSide : Bool) (held : Nat), Inv s ∧ s.alive .abutment = true ∧ cyclesMs ≤ held ∧ socOwned s d = false ∧ s.bit (Obj.FIO_CD_STATUS d) 4 = false ∧ s.hasRoom 1 = true :=
  ⟨live .form, 1, true, cyclesMs, inv_of (by decide +kernel), by decide +kernel⟩

theorem witness_FieldInputsAndOutputs_1 : ∃ (s : State) (d : DiId) (q : DiSample), s.alive .abutment = true ∧ s.fio.di[d].fault = none ∧ s.fio.di[d].fresh = false ∧ s.fio.di[d].st = false ∧ diClass s d q = none ∧ diRaw s d q = true ∧ s.fio.di[d].count + 1 = s.objN (Obj.FIO_DI_FILTER d) :=
  ⟨((live .form).setN (Obj.FIO_DI_FILTER 3) 40).modDi 3 fun x => { x with fresh := false, count := 39, st := false }, 3, ⟨24, 4, false⟩, by decide +kernel⟩

theorem witness_FieldInputsAndOutputs_2 : ∃ (s : State) (d : DiId) (q : DiSample), s.alive .abutment = true ∧ s.fio.di[d].fault = none ∧ s.fio.di[d].fresh = false ∧ s.fio.di[d].st = true ∧ diClass s d q = none ∧ diRaw s d q = false ∧ s.fio.di[d].count = 1 ∧ 0 < s.objN (Obj.FIO_DI_FILTER d) :=
  ⟨((live .form).setN (Obj.FIO_DI_FILTER 3) 40).modDi 3 fun x => { x with fresh := false, count := 1, st := true }, 3, ⟨0, 0, false⟩, by decide +kernel⟩

theorem witness_FieldInputsAndOutputs_3 : ∃ (s : State) (d : DiId) (q : DiSample) (rest : List DiSample), s.alive .abutment = true ∧ s.fio.di[d].fault ≠ none ∧ diClass s d q ≠ none ∧ rest = [] :=
  ⟨((live .form).setBit (Obj.FIO_DI_CFG 2) 0 true).modDi 2 fun x => { x with fault := some .short }, 2, ⟨24, 20, true⟩, [], by decide +kernel⟩

theorem witness_FieldInputsAndOutputs_4 : ∃ (s : State) (d : DiId) (q : DiSample) (kind : LineFault), s.alive .abutment = true ∧ diClass s d q = some kind ∧ s.fio.di[d].cls = some kind ∧ s.fio.di[d].run + 1 = s.objN (Obj.FIO_DI_FILTER d) ∧ s.fio.di[d].fault ≠ some kind ∧ s.hasRoom 1 = true :=
  ⟨(((live .form).setBit (Obj.FIO_DI_CFG 2) 0 true).setN (Obj.FIO_DI_FILTER 2) 40).modDi 2 fun x => { x with cls := some .short, run := 39 }, 2, ⟨24, 20, true⟩, .short, by decide +kernel⟩

theorem witness_FieldInputsAndOutputs_5 : ∃ (s : State) (d : DiId) (q : DiSample), s.alive .abutment = true ∧ diClass s d q = none ∧ s.fio.di[d].cls = none ∧ s.fio.di[d].run + 1 = s.objN (Obj.FIO_DI_FILTER d) ∧ s.fio.di[d].fault ≠ none ∧ s.hasRoom 1 = true :=
  ⟨((live .form).setN (Obj.FIO_DI_FILTER 2) 40).modDi 2 fun x => { x with fault := some .short, cls := none, run := 39 }, 2, ⟨24, 4, false⟩, by decide +kernel⟩

theorem witness_FieldInputsAndOutputs_7 : ∃ (s : State) (o : DoId) (on : Bool) (instant : Nat), s.alive .abutment = true :=
  ⟨live .form, 4, false, 0, by decide +kernel⟩

theorem witness_FieldInputsAndOutputs_8 : ∃ (s : State) (o : DoId) (amps : Rat) (limiting : Bool) (held : Nat), s.alive .abutment = true ∧ ((mkRat 3 5 < amps ∧ 10 * cyclesMs ≤ held) ∨ (limiting = true ∧ cyclesMs ≤ held)) ∧ outOn s o = true ∧ s.hasRoom 1 = true :=
  ⟨(live .form).modDo 5 fun x => { x with cmd := true }, 5, 2, false, 10 * cyclesMs, by decide +kernel⟩

theorem witness_FieldInputsAndOutputs_9 : ∃ (s : State) (o : DoId) (amps : Rat) (volts : Rat) (held : Nat), Inv s ∧ s.alive .abutment = true ∧ wireOpen s o amps volts = true ∧ 50 * cyclesMs ≤ held ∧ s.fio.f24Bad = false ∧ s.bit (Obj.FIO_DO_CFG o) 0 = true ∧ s.bit (Obj.FIO_DO_STATUS o) 2 = false ∧ s.hasRoom 1 = true :=
  ⟨(live .form).setBit (Obj.FIO_DO_CFG 5) 0 true, 5, 0, 5, 50 * cyclesMs, inv_of (by decide +kernel), by decide +kernel⟩

theorem witness_FieldInputsAndOutputs_10 : ∃ (s : State) (o : DoId) (amps : Rat) (volts : Rat) (held : Nat), Inv s ∧ s.alive .abutment = true ∧ wireOpen s o amps volts = false ∧ 50 * cyclesMs ≤ held ∧ s.fio.f24Bad = false :=
  ⟨live .form, 5, 1, 1, 50 * cyclesMs, inv_of (by decide +kernel), by decide +kernel⟩

theorem witness_FieldInputsAndOutputs_11 : ∃ (s : State) (o : DoId) (junction : Rat), s.alive .abutment = true ∧ 150 < junction ∧ s.fio.out[o].overTemp = false ∧ s.hasRoom 1 = true :=
  ⟨live .form, 5, 151, by decide +kernel⟩

theorem witness_FieldInputsAndOutputs_12 : ∃ (s : State) (o : DoId) (junction : Rat), s.alive .abutment = true ∧ junction < 135 :=
  ⟨live .form, 5, 134, by decide +kernel⟩

theorem witness_FieldInputsAndOutputs_13 : ∃ (s : State) (volts : Rat) (held : Nat), s.alive .abutment = true ∧ cyclesMs ≤ held ∧ s.fio.f24Bad = false ∧ ((volts < 33 / 2 ∨ 36 < volts)) ∧ s.hasRoom 1 = true :=
  ⟨live .form, 16, cyclesMs, by decide +kernel⟩

theorem witness_FieldInputsAndOutputs_14 : ∃ (s : State) (volts : Rat) (held : Nat), s.alive .abutment = true ∧ 10 * cyclesMs ≤ held ∧ s.fio.f24Bad = true ∧ 35 / 2 ≤ volts ∧ volts ≤ 35 ∧ s.hasRoom 1 = true :=
  ⟨(live .form).modFio fun x => { x with f24Bad := true }, 24, 10 * cyclesMs, by decide +kernel⟩

theorem witness_FieldInputsAndOutputs_15 : ∃ (s : State) (v : Nat) (w : Writer), s.serves w .abutment = true ∧ s.accepts w = true ∧ serviceOk s w = true ∧ s.mod.mode = .ready ∧ v ≤ 0x1FFFF :=
  ⟨{ live .ready with net := { NetSt.init with rights := [(1, 0)] } }, 1, .port 1 0, by decide +kernel⟩

theorem witness_SupplyAndReset_1 : ∃ (s : State), s.mod.powered = true ∧ s.sup.highAt = none :=
  ⟨live .form, by decide +kernel⟩

theorem witness_SupplyAndReset_2 : ∃ (s : State) (volts : Rat) (peak : Rat) (held : Nat), s.mod.powered = true ∧ s.sup.highAt ≠ none ∧ volts < 160 ∧ cyclesMs ≤ held ∧ s.hasRoom 1 = true :=
  ⟨(live .form).modSup fun x => { x with highAt := some 0 }, 150, 170, cyclesMs, by decide +kernel⟩

theorem witness_SupplyAndReset_3 : ∃ (s : State) (volts : Rat) (hold : Rat) (held : Nat), s.mod.powered = true ∧ volts < 7 ∧ cyclesUs 20 ≤ held ∧ s.sup.intAt = none ∧ s.hasRoom 1 = true :=
  ⟨live .form, 6, 20, cyclesUs 20, by decide +kernel⟩

theorem witness_SupplyAndReset_4 : ∃ (s : State) (volts : Rat) (lowestHold : Rat) (held : Nat), s.mod.powered = true ∧ 8 ≤ volts ∧ cyclesMs ≤ held ∧ s.sup.intAt ≠ none ∧ s.hasRoom 1 = true :=
  ⟨(live .form).modSup fun x => { x with intAt := some 0, shed := true }, 9, 18, cyclesMs, by decide +kernel⟩

theorem witness_SupplyAndReset_5 : ∃ (s : State) (at_ : Nat) (hold : Rat), s.mod.powered = true ∧ s.sup.intAt = some at_ ∧ ((10 * cyclesMs ≤ s.since at_ ∨ hold < 14)) ∧ s.nvs.running = none ∧ s.mod.mode ≠ .halt :=
  ⟨(live .form).modSup fun x => { x with intAt := some 0 }, 0, 13, by decide +kernel⟩

theorem witness_SupplyAndReset_6 : ∃ (s : State) (at_ : Nat), s.mod.powered = true ∧ s.sup.intAt = some at_ ∧ s.sup.shed = false ∧ s.sup.bridge ≤ s.since at_ :=
  ⟨(live .form).modSup fun x => { x with intAt := some 0 }, 0, by decide +kernel⟩

theorem witness_SupplyAndReset_7 : ∃ (s : State) (volts : Rat) (held : Nat), cyclesMs ≤ held ∧ s.mod.powered = true ∧ s.sup.gdLimited = false ∧ s.sup.intAt = none ∧ volts < 72 / 5 ∧ s.hasRoom 1 = true :=
  ⟨live .form, 14, cyclesMs, by decide +kernel⟩

theorem witness_SupplyAndReset_8 : ∃ (s : State) (volts : Rat) (held : Nat), 100 * cyclesMs ≤ held ∧ s.mod.powered = true ∧ s.sup.gdLimited = true ∧ s.sup.intAt = none ∧ 15 < volts ∧ s.hasRoom 1 = true :=
  ⟨(live .form).modSup fun x => { x with gdLimited := true }, 16, 100 * cyclesMs, by decide +kernel⟩

theorem witness_SupplyAndReset_9 : ∃ (s : State) (temps : Vector TempRead 30) (rails : Vector Rat 18), s.alive .house = true ∧ s.sup.lastRound / roundCycles < s.now / roundCycles :=
  ⟨(live .form).modIsl fun x => { x with mt := 409600000 }, .replicate 30 (.deg 25), .replicate 18 0, by decide +kernel⟩

theorem witness_SupplyAndReset_10 : ∃ (s : State), s.mod.powered = true :=
  ⟨live .form, by decide +kernel⟩

theorem witness_SupplyAndReset_11 : ∃ (s : State), s.mod.powered = true :=
  ⟨(live .halt).modMod fun m => { m with resetAsserted := true }, by decide +kernel⟩

theorem witness_BusOffAndMissedHeartbeats_1 : ∃ (s : State) (c : Fin 2), Inv s ∧ canOn s c = true ∧ s.objN Obj.NET_OWNER = canPort c ∧ s.hasRoom 2 = true :=
  ⟨((live .ready).canIn 0 5).setN Obj.NET_OWNER 5, 0, inv_of (by decide +kernel), by decide +kernel⟩

theorem witness_BusOffAndMissedHeartbeats_2 : ∃ (s : State) (c : Fin 2) (recessive : Nat), 128 ≤ recessive ∧ s.alive .network = true ∧ s.net.can[c].busOff = true ∧ s.net.can[c].booted = true ∧ s.bit (Obj.NET_CAN_CFG c.val) 5 = true ∧ s.viaductSecondary = false ∧ s.standby = false ∧ s.hasRoom 1 = true :=
  ⟨((live .ready).canIn 0 5).modCan 0 fun x => { x with busOff := true }, 0, 128, by decide +kernel⟩

theorem witness_BusOffAndMissedHeartbeats_3 : ∃ (s : State) (e : Fin 4) (at_ : Nat) (p : Nat), Inv s ∧ s.alive .network = true ∧ s.net.heard[e] = some (at_, p) ∧ hbTime s e ≠ 0 ∧ hbTime s e * cyclesMs < s.since at_ ∧ s.hasRoom 1 = true :=
  ⟨((((live .ready).canIn 0 5).setN (Obj.CIA_HB_CONSUMER 3) (9 * 65536 + 100)).modNet fun x => { x with heard := x.heard.set 3 (some (1, 5)) }).later 409600000, 3, 1, 5, inv_of (by decide +kernel), by decide +kernel⟩

theorem witness_ClearSoc_1 : ∃ (s : State) (n : SocId) (w : Writer), s.reaches w = true ∧ s.alive .house = true ∧ s.alive .keystone = true ∧ s.standsBy w = false ∧ serviceOk s w = true ∧ (s.mod.mode = .ready ∨ s.mod.mode = .lockout) ∧ auxEnergised s n = false ∧ s.hasRoom 1 = true :=
  ⟨((live .ready).serviced.modSoc 2 fun x => { x with fault := true }), 2, .port 1 0, by decide +kernel⟩

theorem witness_ClearSoc_2 : ∃ (s : State) (n : SocId) (testsPass : Bool) (w : Writer) (c : Nat) (se : Nat), w = .port c se ∧ s.reaches w = true ∧ s.alive .house = true ∧ s.alive .keystone = true ∧ s.standsBy w = false ∧ serviceOk s w = true ∧ (s.mod.mode = .ready ∨ s.mod.mode = .lockout) ∧ (testsPass = false ∨ auxEnergised s n = true) ∧ (c = 5 ∨ c = 6 → canSends s (Fin.ofNat 2 (c - 5)) = true) :=
  ⟨((live .ready).serviced.modSoc 2 fun x => { x with fault := true }), 2, false, .port 1 0, 1, 0, by decide +kernel⟩

theorem witness_ClearSoc_3 : ∃ (s : State) (n : SocId) (testsPass : Bool) (w : Writer), (serviceOk s w = false ∨ (s.mod.mode ≠ .ready ∧ s.mod.mode ≠ .lockout)) :=
  ⟨((live .form).modSoc 2 fun x => { x with fault := true }), 2, true, .port 1 0, by decide +kernel⟩

theorem witness_OverrunLimit_1 : ∃ (s : State) (p : StageId) (w : Work), s.alive (.pier p) = true ∧ s.pie[p].work = some w ∧ s.objN (Obj.PIE_OVERRUN_LIMIT p) ≤ s.pie[p].overrunRun + 1 ∧ s.twn.mode ≠ 2 ∧ s.stg[p].st ≠ .safe ∧ s.mod.mode ≠ .halt ∧ s.mod.mode ≠ .adit :=
  ⟨((staged .form 0x101 .run).setN (Obj.PIE_OVERRUN_LIMIT 1) 9).modPier 1 fun p => { p with overrunRun := 8, work := some plainWork }, 1, plainWork, by decide +kernel⟩

theorem witness_OverrunLimit_2 : ∃ (s : State) (p : StageId) (w : Work), s.alive (.pier p) = true ∧ s.pie[p].work = some w ∧ s.objN (Obj.PIE_OVERRUN_LIMIT p) ≤ s.pie[p].overrunRun + 1 ∧ s.twn.mode = 2 ∧ s.twn.arb = none ∧ s.twn.selfFenced = false :=
  ⟨(((staged .form 0x101 .run).setN (Obj.PIE_OVERRUN_LIMIT 1) 9).modPier 1 fun p => { p with overrunRun := 8, work := some plainWork }).duplex true true, 1, plainWork, by decide +kernel⟩

theorem witness_ReadingTheLog_1 : ∃ (s : State) (q : Nat) (c : Nat) (se : Nat) (x : LogRec), s.reaches (.port c se) = true ∧ s.alive .house = true ∧ s.accepts (.port c se) = true ∧ s.standsBy (.port c se) = false ∧ s.logFlash.find? (fun r => r.seq == q) = some x :=
  ⟨{ (live .form).ownedBySpi with logFlash := [⟨0, 1, 2, 3, []⟩], logSeq := 1 }, 0, 1, 0, ⟨0, 1, 2, 3, []⟩, by decide +kernel⟩

theorem witness_ReadingTheLog_2 : ∃ (s : State) (q : Nat) (c : Nat) (se : Nat), s.reaches (.port c se) = true ∧ s.alive .house = true ∧ s.accepts (.port c se) = true ∧ s.standsBy (.port c se) = false ∧ (c = 5 ∨ c = 6 → canSends s (Fin.ofNat 2 (c - 5)) = true) ∧ s.logFlash.find? (fun r => r.seq == q) = none :=
  ⟨{ (live .form).setN Obj.NET_OWNER 50 with logFlash := [⟨0, 1, 2, 3, []⟩], logSeq := 1 }, 4, 2, 3, by decide +kernel⟩

theorem witness_UnitsDoNotDisturbEachOther_1 : ∃ (s : State) (n : StageId), True :=
  ⟨live .form, 1, by decide +kernel⟩

theorem witness_UnitsDoNotDisturbEachOther_2 : ∃ (s : State) (n : StageId), True :=
  ⟨live .form, 1, by decide +kernel⟩

theorem witness_UnitsDoNotDisturbEachOther_3 : ∃ (s : State) (n : StageId) (rising : Bool) (swing : Rat), True :=
  ⟨live .form, 1, true, 5, by decide +kernel⟩

theorem witness_UnitsDoNotDisturbEachOther_4 : ∃ (s : State) (p : StageId) (w : Writer), True :=
  ⟨live .form, 1, .logic, by decide +kernel⟩

theorem witness_UnitsDoNotDisturbEachOther_5 : ∃ (s : State) (p : StageId) (total : Nat), True :=
  ⟨live .form, 1, 7, by decide +kernel⟩

theorem witness_UnitsDoNotDisturbEachOther_6 : ∃ (s : State) (p : StageId) (w : Writer), True :=
  ⟨live .form, 1, .logic, by decide +kernel⟩

theorem witness_UnitsDoNotDisturbEachOther_7 : ∃ (s : State) (p : StageId) (k : Nat) (w : Writer), True :=
  ⟨live .form, 1, 5, .logic, by decide +kernel⟩

theorem witness_UnitsDoNotDisturbEachOther_8 : ∃ (s : State) (ch : ChanId) (ctrl : Nat) (w : Writer), True :=
  ⟨live .form, 1, 5, .logic, by decide +kernel⟩

theorem witness_UnitsDoNotDisturbEachOther_9 : ∃ (s : State) (g : GroupId) (w : Writer), True :=
  ⟨live .form, 1, .logic, by decide +kernel⟩

theorem witness_UnitsDoNotDisturbEachOther_10 : ∃ (s : State) (d : DrvId) (volts : Rat), True :=
  ⟨live .form, 1, 1, by decide +kernel⟩

theorem witness_UnitsDoNotDisturbEachOther_11 : ∃ (s : State) (c : AdcId) (raw : Nat), True :=
  ⟨live .form, 1, 7, by decide +kernel⟩

theorem witness_UnitsDoNotDisturbEachOther_12 : ∃ (s : State) (c : Fin 2), True :=
  ⟨live .form, 1, by decide +kernel⟩

theorem witness_UnitsDoNotDisturbEachOther_13 : ∃ (s : State) (c : Fin 2), True :=
  ⟨live .form, 1, by decide +kernel⟩

theorem witness_UnitsDoNotDisturbEachOther_14 : ∃ (s : State) (n : SocId), True :=
  ⟨live .form, 1, by decide +kernel⟩

theorem witness_UnitsDoNotDisturbEachOther_15 : ∃ (s : State) (n : SocId), True :=
  ⟨live .form, 1, by decide +kernel⟩

theorem witness_UnitsDoNotDisturbEachOther_16 : ∃ (s : State) (n : SocId) (testsPass : Bool) (w : Writer), True :=
  ⟨live .form, 1, true, .logic, by decide +kernel⟩

theorem witness_UnitsDoNotDisturbEachOther_17 : ∃ (s : State) (c : ConnId), True :=
  ⟨live .form, 1, by decide +kernel⟩

theorem witness_UnitsDoNotDisturbEachOther_18 : ∃ (s : State) (c : ConnId), True :=
  ⟨live .form, 1, by decide +kernel⟩

theorem witness_UnitsDoNotDisturbEachOther_19 : ∃ (s : State) (u : CvuId) (w : Writer), True :=
  ⟨live .form, 1, .logic, by decide +kernel⟩

theorem witness_UnitsDoNotDisturbEachOther_20 : ∃ (s : State) (o : DoId) (on : Bool) (instant : Nat), True :=
  ⟨live .form, 1, true, 3, by decide +kernel⟩

theorem witness_UnitsDoNotDisturbEachOther_21 : ∃ (s : State) (st : StationId), True :=
  ⟨live .form, 1, by decide +kernel⟩

theorem witness_ReservedIndices_1 : ∃ (s : State) (h : SvcHead) (key : Nat) (x : SessionSt), svcServed s h.port = true ∧ s.net.sessions = [x] ∧ x.id = h.session ∧ x.port = h.port ∧ h.seq = (x.seq + 1) % 4294967296 ∧ s.alive .house = true ∧ (2 ≤ h.port ∧ h.port ≤ 4) ∧ (key / 256 < 0x6000 ∨ 0xA200 ≤ key / 256) ∧ (objPage (key / 256)).all (fun r => !r.holds (key / 256) r.sub) = true :=
  ⟨(live .ready).opened, ⟨2, 3, 8⟩, 0x2FFF01, ⟨3, 2, 7, 0, [1], [], none⟩, by decide +kernel⟩

theorem witness_ReservedIndices_2 : ∃ (s : State) (h : SvcHead) (key : Nat) (x : SessionSt), svcServed s h.port = true ∧ s.net.sessions = [x] ∧ x.id = h.session ∧ x.port = h.port ∧ h.seq = (x.seq + 1) % 4294967296 ∧ s.alive .house = true ∧ (2 ≤ h.port ∧ h.port ≤ 4) ∧ (0x6000 ≤ key / 256 ∧ key / 256 < 0xA000) ∧ blockOf s (key / 256) = none :=
  ⟨(live .ready).opened, ⟨2, 3, 8⟩, 0x9FFF04, ⟨3, 2, 7, 0, [1], [], none⟩, by decide +kernel⟩

theorem witness_ReservedIndices_3 : ∃ (s : State) (key : Nat) (v : Val) (c : Nat) (se : Nat), s.reaches (.port c se) = true ∧ s.alive .house = true ∧ (c = 2 ∨ c = 3 ∨ c = 4) ∧ (key / 256 < 0x6000 ∨ 0xA200 ≤ key / 256) ∧ (objPage (key / 256)).all (fun r => !r.holds (key / 256) r.sub) = true :=
  ⟨live .form, 0xA20001, .int 20, 2, 1, by decide +kernel⟩

theorem witness_ReservedIndices_4 : ∃ (s : State) (key : Nat) (v : Val) (c : Nat) (se : Nat), s.reaches (.port c se) = true ∧ s.alive .house = true ∧ (c = 2 ∨ c = 3 ∨ c = 4) ∧ (0x6000 ≤ key / 256 ∧ key / 256 < 0xA000) ∧ blockOf s (key / 256) = none :=
  ⟨live .form, 0x600001, .int 20, 2, 1, by decide +kernel⟩

/-- The state after a step. -/
def stepped (s : State) : State := match step s with | .next t => t | _ => s

/-- A step that answers a next state answers `stepped`. -/
theorem step_stepped (s : State) : step s = .next (stepped s) := by
  unfold stepped step
  split
  · rfl
  · rename_i c rest _
    cases c <;> rfl

theorem witness_StepRunsFrontCommand_1 : ∃ (c : Instr) (rest : List Instr) (s : State), s.pending = c :: rest :=
  ⟨.auxPowerUp, [], { State.reset with pending := [.auxPowerUp] }, rfl⟩
theorem witness_StepRunsFrontCommand_3 : ∃ s : State, s.pending = [] := ⟨State.reset, rfl⟩
theorem witness_ResetState : ∃ (key : Nat) (v : Val), defaultAt key = some v := ⟨Obj.LGC_CYCLE_PERIOD, .int 10, by decide +kernel⟩
theorem witness_StepKeepsInvariant : ∃ s t : State, Inv s ∧ step s = .next t :=
  ⟨State.reset, stepped State.reset, inv_of (by decide +kernel),
    step_stepped _⟩
theorem witness_ModeMovesOnlyBy : ∃ s t : State, step s = .next t ∧ t.mod.mode ≠ s.mod.mode :=
  let s := { live .form with pending := [.resetInputAssert] }
  ⟨s, stepped s, step_stepped s, by decide +kernel⟩
theorem witness_SafeEndsOnlyBy : ∃ (s t : State) (n : StageId), step s = .next t ∧ s.stg[n].st = .safe ∧ t.stg[n].st ≠ .safe :=
  let s := { (live .ready).ownedBySpi.modStage 1 (fun c => { c with st := .safe, cause := 0x1005 }) with pending := [.resetSafe 1 (.port 1 0)] }
  ⟨s, stepped s, 1, step_stepped s, by decide +kernel, by decide +kernel⟩
theorem witness_FencesAndTime_1 : ∃ (s t : State) (i : Island), step s = .next t ∧ i ∈ s.isl.fenced ∧ i ∉ t.isl.fenced :=
  let s := { (live .form).modIsl (fun x => { x with fenced := [.edge] }) with pending := [.resetInputAssert] }
  ⟨s, stepped s, .edge, step_stepped s, by decide +kernel, by decide +kernel⟩
theorem witness_FencesAndTime_2 : ∃ s t : State, step s = .next t ∧ t.isl.mt ≠ s.isl.mt :=
  let s := ((live .form).clocked).modIsl fun x => { x with started := true }
  ⟨s, stepped s, step_stepped s, by decide +kernel⟩
theorem witness_RecordsStay_1 : ∃ (s t : State) (r : LogRec), step s = .next t ∧ r ∈ s.logBuf ∧ r ∉ t.logBuf :=
  let s := { (live .form).modSup (fun x => { x with intAt := some 0 }) with logBuf := [⟨0, 1, 2, 3, []⟩], logSeq := 1, pending := [.auxStopLevel 13] }
  ⟨s, stepped s, ⟨0, 1, 2, 3, []⟩, step_stepped s, by decide +kernel, by decide +kernel⟩
theorem witness_RecordsStay_2 : ∃ s t : State, step s = .next t ∧ t.saved ≠ s.saved :=
  let s := { ((live .form).setN Obj.LGC_CYCLE_PERIOD 20).modNvs (fun n => { n with running := some ⟨.dictionary, 0, none, 0, none⟩ }) with
    pending := [.storeComplete true 24] }
  ⟨s, stepped s, step_stepped s, by decide +kernel⟩
theorem witness_RecordsStay_3 : ∃ s t : State, step s = .next t ∧ t.lgc.program ≠ s.lgc.program :=
  let s := { (live .form).modLgc (fun l => { l with running := true, exchange := some 0, staged := some aProgram }) with
    pending := [.logicCycleBoundary idleRun] }
  ⟨s, stepped s, step_stepped s, by decide +kernel⟩
theorem witness_ReservedIndices_5 : ∃ (s : State) (key : Nat), ((key / 256 < 0x6000 ∨ 0xA200 ≤ key / 256) ∧
    (objPage (key / 256)).all (fun r => !r.holds (key / 256) r.sub) = true) ∨ (0x6000 ≤ key / 256 ∧ key / 256 < 0xA000 ∧ blockOf s (key / 256) = none) :=
  ⟨live .ready, 0x2FFF01, by decide +kernel⟩
theorem witness_ReservedIndices_5_block : ∃ (s : State) (key : Nat), 0x6000 ≤ key / 256 ∧ key / 256 < 0xA000 ∧ blockOf s (key / 256) = none :=
  ⟨live .ready, 0x9FFF04, by decide +kernel⟩
/-- A stage that closed onto a line, its contactor about to confirm. -/
def confirming (live_ : Bool) : State :=
  (((staged .form 0x101 .armed).modStage 1 fun c => { c with diagPassed := true }).modShare 1 fun h =>
    { h with closeAt := some 3, closedDead := true, line := { h.line with live := live_, v := 1 / 2, theta := 77 } }).modIsl fun x =>
      { x with pulseEnable := .replicate 6 true }
theorem witness_DeadOrLiveContactor_1 : ∃ (s : State) (n : StageId), s.isGfi n = true ∧ s.shr[n].closeAt ≠ none ∧ s.shr[n].closedDead = true ∧
    mayRun s n = true ∧ s.shr[n].line.live = false := ⟨confirming false, 1, by decide +kernel⟩
theorem witness_DeadOrLiveContactor_2 : ∃ (s : State) (n : StageId), Inv s ∧ s.isGfi n = true ∧ s.shr[n].closeAt ≠ none ∧
    s.shr[n].closedDead = true ∧ mayRun s n = true ∧ s.shr[n].line.live = true ∧ s.hasRoom 1 = true :=
  ⟨confirming true, 1, inv_of (by decide +kernel), by decide +kernel⟩
/-- A stage in FORM whose residual 2 is due for a reaction of some code. -/
def canaryDue (code : Nat) : State :=
  ((staged .form 0x101 .run).setN (Obj.SRV_CAN_REACT 1 2) code).modSurvey 1 fun v => { v with due := [2] }
theorem witness_SurveyAndCanary_log : ∃ (s : State) (n : StageId) (j : Fin 6), s.srv[n].due = [j] ∧ s.objN (Obj.SRV_CAN_REACT n j) ≤ 1 :=
  ⟨canaryDue 1, 1, 2, by decide +kernel⟩
theorem witness_SurveyAndCanary_safe : ∃ (s : State) (n : StageId) (j : Fin 6), s.srv[n].due = [j] ∧ 3 ≤ s.objN (Obj.SRV_CAN_REACT n j) ∧
    s.twn.mode ≠ 2 ∧ s.stg[n].st ≠ .safe ∧ s.mod.mode ≠ .halt ∧ s.mod.mode ≠ .adit ∧ s.objN (Obj.SRV_CAN_REACT n j) = 4 :=
  ⟨canaryDue 4, 1, 2, by decide +kernel⟩
/-- The parameters of a stage as after reset, with bounds in order. -/
def someParams : LawParams :=
  { tu := 0, tOut := 0, div := 0, fb := 50, wb := 0, h := 1, d := 0, td := 1, mp := 0, nq := 0, pSet := 0, qSet := 0, tIso := 1, tP := 0, tQ := 0,
    fLim := 1 / 16, eMin := 1 / 2, eMax := 3 / 2, rv := 0, xv := 0, xvn := 0, kpV := 0, kiV := 0, kpI := 0, kc := 0, krH := 0, fn := 1, bw := 1,
    depth := 0, l1 := 1, cf := 1, negLim := 0, negKi := 0, zeroKp := 0, zeroKi := 0, nLim := 0, frame := false, fourLeg := false, seqMode := 0,
    notchEn := false, capFb := false, harm := 0, viStart := 0, viGain := 0, viXr := 0, iLim := 1, priority := 0, recovery := 0, vHalf := 1 }
theorem witness_ClampsOfTheLaw : ∃ (q : LawParams) (l : Law), r32 (1 - q.fLim) ≤ r32 (1 + q.fLim) ∧ q.eMin ≤ q.eMax ∧ q.mp = 0 ∧
    (outerStep q l).2.fClamp = true :=
  ⟨someParams, { lawInit with omega := 2 }, by decide +kernel⟩

end Sys2Proof.Machine


/-! ### WellFormed refuses what no sender can send -/

namespace Sys2Proof
open Machine

theorem test_wf_refuses_joint_word : Instr.wf (.jointWordArrival .edge .house false (2 ^ 64)) = false := by decide
theorem test_wf_refuses_command_instant : Instr.wf (.commandArrival ⟨.abutment, .logic, 0, false, some (2 ^ 64), .fieldOutput 0 true⟩) = false := by decide
theorem test_wf_refuses_commit_offset : Instr.wf (.pierCommit 0 ⟨(2 ^ 32), none⟩) = false := by decide
theorem test_wf_refuses_set_word : Instr.wf (.commandSetArrival ⟨0, false, [0, 2 ^ 32]⟩) = false := by decide
theorem test_wf_refuses_early_word : Instr.wf (.provisionalSetArrival ⟨0, true, [2 ^ 32]⟩) = false := by decide
theorem test_wf_refuses_field_instant : Instr.wf (.fieldOutputCommand 0 true (2 ^ 64)) = false := by decide
theorem test_wf_refuses_driver_instant : Instr.wf (.contactorDriverCommand 0 true (2 ^ 64)) = false := by decide
theorem test_wf_refuses_block_instance : Instr.wf (.blockStateReset 0 4096 .logic) = false := by decide
theorem test_wf_refuses_period : Instr.wf (.tbPeriodChange 0 (2 ^ 32) 0 .logic) = false := by decide
theorem test_wf_refuses_phase_instant : Instr.wf (.tbPhaseShift 0 0 (2 ^ 64) .logic) = false := by decide
theorem test_wf_refuses_static_ctrl : Instr.wf (.staticCtrlWrite 0 (2 ^ 32) .logic) = false := by decide
theorem test_wf_refuses_raw_mask : Instr.wf (.rawOutputWrite true (2 ^ 24) .logic) = false := by decide
theorem test_wf_refuses_bank_instant : Instr.wf (.bankSwitch 0 (2 ^ 64) .logic) = false := by decide
theorem test_wf_refuses_gallery_k : Instr.wf (.galleryRead 0 (2 ^ 32) .logic) = false := by decide
theorem test_wf_refuses_boot : Instr.wf (.ttExchange 0 (2 ^ 32)) = false := by decide
theorem test_wf_refuses_lines : Instr.wf (.logicCycleBoundary { idleRun with lines := 16321 }) = false := by decide
theorem test_wf_refuses_tag : Instr.wf (.hostTagWrite (2 ^ 32) (.int 1) .logic) = false := by decide
theorem test_wf_refuses_peek : Instr.wf (.tagPeek (2 ^ 32) .logic) = false := by decide
theorem test_wf_refuses_cycle_period : Instr.wf (.cyclePeriodWrite 65536 .logic) = false := by decide
theorem test_wf_refuses_telegram : Instr.wf (.stationTelegramReceived 0 none [256]) = false := by decide
theorem test_wf_refuses_program : Instr.wf (.programStageBlock (some { aProgram with id := 2 ^ 32 }) .logic) = false := by decide
theorem test_wf_refuses_key : Instr.wf (.dictionaryWrite (2 ^ 24) (.int 1) .logic [] []) = false := by decide
theorem test_wf_refuses_value_bytes : Instr.wf (.dictionaryWrite 0x200101 (.bytes [256]) .logic [] []) = false := by decide
theorem test_wf_refuses_writer_port : Instr.wf (.modStart (.port 7 0)) = false := by decide
theorem test_wf_refuses_writer_session : Instr.wf (.modStart (.port 2 65536)) = false := by decide
theorem test_wf_refuses_writer_spi_session : Instr.wf (.modStart (.port 1 3)) = false := by decide
theorem test_wf_refuses_earlier_writer : Instr.wf (.dictionaryWrite 0x200101 (.int 1) .logic [.port 0 0] []) = false := by decide
theorem test_wf_refuses_signature : Instr.wf (.serviceResponse [256] .logic) = false := by decide
theorem test_wf_refuses_challenge_port : Instr.wf (.challengeBlockEnd 0) = false := by decide
theorem test_wf_refuses_sdo_length : Instr.wf (.sdoRequest 0 (.writeInit 0x200101 (2 ^ 32))) = false := by decide
theorem test_wf_refuses_pdo_value : Instr.wf (.rpdoReceived 0 [.bytes [300]]) = false := by decide
theorem test_wf_refuses_svc_port : Instr.wf (.svcOpen 5 0) = false := by decide
theorem test_wf_refuses_svc_session : Instr.wf (.svcClose ⟨2, 65536, 0⟩) = false := by decide
theorem test_wf_refuses_svc_seq : Instr.wf (.svcKeepalive ⟨2, 1, 2 ^ 32⟩) = false := by decide
theorem test_wf_refuses_svc_offset : Instr.wf (.svcReadSeg ⟨2, 1, 0⟩ 0x200101 (2 ^ 32)) = false := by decide
theorem test_wf_refuses_session : Instr.wf (.sessionTimeout 65536) = false := by decide
theorem test_wf_refuses_spi_seq : Instr.wf (.spiFrameReceived true 256 .keepalive) = false := by decide
theorem test_wf_refuses_arp_ip : Instr.wf (.arpRequest 2 (2 ^ 32)) = false := by decide
theorem test_wf_refuses_icmp_port : Instr.wf (.icmpEchoRequest 1 []) = false := by decide
theorem test_wf_refuses_safety_unit : Instr.wf (.safetyUnitReceived none [256]) = false := by decide
theorem test_wf_refuses_cvu_bytes : Instr.wf (.cvuFeed 0 [256] .logic) = false := by decide
theorem test_wf_refuses_log_number : Instr.wf (.eventLogRead (2 ^ 32) .logic) = false := by decide
theorem test_wf_refuses_partner : Instr.wf (.clauzLinkUp { serial := 2 ^ 32, primary := false, pairMode := 0, fw := 0, cfgCheck := 0, progCheck := 0, boot := 0, source := false } #v[true, true]) = false := by decide
theorem test_wf_refuses_window : Instr.wf (.partnerWindowAccess (.read (2 ^ 32) (.int 0)) .logic) = false := by decide
theorem test_wf_refuses_forwarded : Instr.wf (.forwardedWrite (2 ^ 24) (.int 0) 0) = false := by decide
theorem test_wf_refuses_digest_k : Instr.wf (.digestReceived 0 (2 ^ 64) ⟨0, 0⟩) = false := by decide
theorem test_wf_refuses_digest_tally : Instr.wf (.digestReceived 0 0 ⟨256, 0⟩) = false := by decide
theorem test_wf_refuses_digest_check : Instr.wf (.digestReceived 0 0 ⟨0, (2 ^ 32)⟩) = false := by decide
theorem test_wf_refuses_force : Instr.wf (.fieldForce (2 ^ 32) .logic) = false := by decide
theorem test_wf_refuses_node : Instr.wf (.heartbeatReceived 0 128) = false := by decide
theorem test_wf_refuses_frame : Instr.wf (.switchFrameForward ⟨3, 0, 0, 0, false, false⟩) = false := by decide

/-- A well-formed command passes (R427). -/
theorem test_wf_passes : Instr.wf (.fieldOutputCommand 3 true 5) = true := by decide
theorem test_decode_table : decodeTableWord 8 0 = none := rfl

end Sys2Proof

/-! ### Examples of the spec -/

namespace Sys2Proof.Machine

set_option Elab.async false

/-- Node 3 with a forming stage 0, and the same with a second one. -/
def nodeThree : State := ((live .blackstart).setN Obj.MOD_NODE_NUMBER 3).setN (Obj.MOD_STAGE_CFG 0) 0x101
def nodeThreeTwo : State := nodeThree.setN (Obj.MOD_STAGE_CFG 1) 0x101

/-- Table 4.2: node 3 commands in slot 3, 60 ms after the claim epoch; nodes 4 and 5 in slots 4 and 5. -/
theorem test_claim_slots : claimSlot nodeThree 0 = 3 ∧ claimSlot (nodeThree.setN Obj.MOD_NODE_NUMBER 4) 0 = 4 ∧
    claimSlot (nodeThree.setN Obj.MOD_NODE_NUMBER 5) 0 = 5 := by decide +kernel
/-- R84: the second forming stage of node 3 has rank offset 8, so slot 11. -/
theorem test_claim_slot_second : claimSlot nodeThreeTwo 1 = 11 := by decide +kernel
/-- R85: 3 × 12.5 ms + 8 × 0.78125 ms = 43.75 ms, at 409,600 core cycles a millisecond. -/
theorem test_holdoff : holdoffCycles nodeThreeTwo 1 = 17920000 := by decide +kernel
/-- R71 and R169: stage 1's GFL_H is 0x3410:01; pier 2's PIE_DEADLINE is 0x4210:03. -/
theorem test_indices : Obj.GFL_H 1 = 0x341001 ∧ Obj.PIE_DEADLINE 2 = 0x421003 := by decide
/-- R391, worked: the erase of a flash sector needs 6.15 W × 30 ms × 1.25 = 0.230625 J. -/
theorem test_erase_energy : energyNeeded State.reset .erase 0 = 230625 / 1000000 := by decide +kernel
/-- R391, worked: with 270 µF the lowest voltage for an erase is 43.04 V. -/
theorem test_erase_voltage : let s := State.reset.setR Obj.NVS_HOLD_C 270
    energyHeld s (4303 / 100) < energyNeeded s .erase 0 ∧ energyNeeded s .erase 0 ≤ energyHeld s (4304 / 100) := by decide +kernel
/-- Table 16.5: the journal of the full image needs 20.6 mJ, a dictionary store 10.3 mJ, a page 6.2 mJ. -/
theorem test_store_energies : 206 / 10000 ≤ energyNeeded State.reset .journal 16320 ∧ energyNeeded State.reset .journal 16320 < 207 / 10000 ∧
    103 / 10000 ≤ energyNeeded State.reset .dictionary 0 ∧ energyNeeded State.reset .dictionary 0 < 104 / 10000 ∧
    energyNeeded State.reset .logPage 0 = 615 / 100000 := by decide +kernel
/-- Chain 3 of the worked line-voltage chain: SAR input 5, N = 3, j = 3, f = 1, 64 taps. -/
def chainThree : State := State.reset.setN (Obj.ACQ_FC_CFG 3) (1 + 5 * 2 + 3 * 64 + 3 * 256 + 1 * 4096 + 63 * 16384)
/-- Table 10.5: U is 33 outputs. -/
theorem test_chain_unsettled : unsettledCount chainThree 3 = 33 := by decide +kernel
/-- Table 11.3: φ = 0.625 gives the mark 160 of 256, φ = 1 gives 256. -/
theorem test_gallery_mark : markOf (625 / 1000) = 160 ∧ markOf 1 = 256 := by decide +kernel
/-- R153: binary32 rounding to nearest, ties to even: 2²⁴ + 1 rounds to 2²⁴, 2²⁴ + 3 to 2²⁴ + 4. -/
theorem test_r32_ties : r32 16777217 = 16777216 ∧ r32 16777219 = 16777220 := by decide +kernel
/-- Table 4.1: 1.5 times the step limit: steady steps stay within the clamp, u below lo gives lo. -/
theorem test_clamp : clampR (5 / 1000) (-2 / 1000) (2 / 1000) = 2 / 1000 := by decide +kernel
/-- Table 14.2: at 2,350 ms the host SPI port forces ownership from E3 session 2. -/
theorem test_force_ownership : (match exec (.ownershipForce (.port 1 0)) ((live .form).setN Obj.NET_OWNER 0x23) with
    | .next t => t.objN Obj.NET_OWNER | _ => 0) = 1 := by decide +kernel
/-- Table 14.2: at 2,400 ms a write of E3 session 2 is refused with 0x08000021 while host SPI holds. -/
theorem test_refused_write : writeCheck (live .form).ownedBySpi (.port 3 2) (Obj.GFL_P_SET 1) (.int 0) false ≠ 0 := by decide +kernel
/-- R25: a lapsed contactor enable stands in the abutment's state. -/
theorem test_power_up : (match exec .auxPowerUp State.reset with | .next t => t.mod.powered | _ => false) = true := by decide +kernel
/-- An empty queue lets a core cycle pass (log 1). -/
theorem test_idle : (stepped (((live .form).clocked).modIsl fun x => { x with started := true })).isl.mt = 1 := by decide +kernel

end Sys2Proof.Machine
end

section
/-!
PROOF. Reserved indices (R9): no object exists at such a key, so the first check of every read and write turns the request away; the
refusal moves only the count of aborts and the last abort.
-/

namespace Sys2Proof.Machine

/-! ### A request to an object that does not exist -/

theorem readObj_of_existsCheck_ne_zero {s : State} {key : Nat} (h : existsCheck s key ≠ 0) :
    readObj s key = .error (existsCheck s key) := by
  unfold readObj
  split
  · contradiction
  · rfl

theorem writeCheck_of_existsCheck_ne_zero {s : State} {key : Nat} (h : existsCheck s key ≠ 0) (w : Writer) (v : Val) (lost : Bool) :
    writeCheck s w key v lost = existsCheck s key := if_pos h

/-- Only refusals of class 0x0800 are logged or counted beside the abort itself (R30, R333). -/
theorem noteRefused_of_not_late {abort : Nat} (h : abort / 65536 ≠ 0x0800) (w winner : Writer) (key : Nat) (v : Val) (s : State) :
    noteRefused w winner key v abort s = s := by
  have lost : abort ≠ 0x08000020 := by rintro rfl; exact h rfl
  simp [noteRefused, h, lost]

theorem existsCheck_svcChallenge (s : State) : existsCheck s Obj.NET_SVC_CHALLENGE = 0 := rfl

/-! ### The answer to a refused request -/

/-- A response to an Ethernet port is sent, and its session keeps it (R341). -/
theorem State.respond_ethernet {c : Nat} (h : 2 ≤ c ∧ c ≤ 4) (s : State) (se kind : Nat) (data : List Int) :
    s.respond c se kind data = (s.modNet fun n => { n with
      sessions := n.sessions.map fun x => if x.port = c ∧ x.id = se then { x with reply := data } else x }).send c kind data := by
  have spi : c ≠ 1 := by omega
  have can : ¬(c = 5 ∨ c = 6) := by omega
  simp only [State.respond, if_neg spi, if_neg can, State.modNet]

theorem State.mem_tx_reply_ethernet {c : Nat} (h : 2 ≤ c ∧ c ≤ 4) (s : State) (se key abort : Nat) :
    (⟨c, 1, [c + 16 * se, key, abort]⟩ : TxFrame) ∈ (s.reply (.port c se) key abort).tx := by
  simp only [State.reply, State.respond_ethernet h, State.send_tx, List.mem_cons, true_or]

@[simp] theorem State.renew_objs (s : State) (w : Writer) (b : Bool) : (s.renew w b).objs = s.objs := rfl

@[simp] theorem State.respond_objs (s : State) (c se kind : Nat) (data : List Int) : (s.respond c se kind data).objs = s.objs := by
  unfold State.respond
  split
  · rfl
  · split
    · split <;> rfl
    · rfl

/-- Noting an abort moves NET_ABORTS and NET_LAST_ABORT alone (Table 14.7). -/
theorem State.cellGet_noteAbort (s : State) (port key abort : Nat) {k : Nat} (count : objGroup k ≠ .NET_ABORTS)
    (last : objGroup k ≠ .NET_LAST_ABORT) : cellGet k (s.noteAbort port key abort).objs = cellGet k s.objs := by
  have hcount : k ≠ Obj.NET_ABORTS := by rintro rfl; exact count (by decide)
  have hlast : k ≠ Obj.NET_LAST_ABORT := by rintro rfl; exact last (by decide)
  simp only [State.noteAbort, State.setN_objs, State.bump_objs, cellGet_cellPut_ne hlast, cellGet_cellPut_ne hcount]

/-- An answered request moves NET_ABORTS and NET_LAST_ABORT alone (R326). -/
theorem State.cellGet_reply (s : State) (w : Writer) (key abort : Nat) {k : Nat} (count : objGroup k ≠ .NET_ABORTS)
    (last : objGroup k ≠ .NET_LAST_ABORT) : cellGet k (s.reply w key abort).objs = cellGet k s.objs := by
  cases w with
  | logic => rfl
  | port c se =>
    simp only [State.reply, State.respond_objs]
    split
    · rw [State.renew_objs]
    · rw [State.cellGet_noteAbort _ _ _ _ count last, State.renew_objs]

/-! ### A request within a session -/

/-- The next request of the only session is processed (R341). -/
theorem svcRequest_of_next {s : State} {h : SvcHead} {x : SessionSt} (served : svcServed s h.port = true) (only : s.net.sessions = [x])
    (id : x.id = h.session) (port : x.port = h.port) (seq : h.seq = (x.seq + 1) % 4294967296) (f : SessionSt → State → State) :
    svcRequest h f s = f x (s.modSession x.id fun y => { y with seq := h.seq, lastAt := s.now, reply := [] }) := by
  have found : (s.net.sessions.find? fun y => y.id == h.session && y.port == h.port) = some x := by simp [only, id, port]
  simp only [svcRequest, served, found, if_pos seq, Bool.not_true, Bool.false_eq_true, if_false]

/-! ### Reserved keys (R9) -/

/-- R9: outside the block pages and the tags no row of the object tables holds the index; at an index of the block pages no block stands. -/
def ReservedKey (s : State) (key : Nat) : Prop :=
  ((key / 256 < 0x6000 ∨ 0xA200 ≤ key / 256) ∧ (objPage (key / 256)).all (fun r => !r.holds (key / 256) r.sub) = true) ∨
    (0x6000 ≤ key / 256 ∧ key / 256 < 0xA000 ∧ blockOf s (key / 256) = none)

namespace ReservedKey

variable {s : State} {key : Nat}

theorem modSession (h : ReservedKey s key) (id : Nat) (f : SessionSt → SessionSt) : ReservedKey (s.modSession id f) key := h

theorem indexExists_eq_false (h : ReservedKey s key) : indexExists s key = false := by
  unfold indexExists
  have noTag : ¬(0xA000 ≤ key / 256 ∧ key / 256 < 0xA200) := by unfold ReservedKey at h; omega
  rcases h with ⟨outside, rows⟩ | ⟨lo, hi, empty⟩
  · have noBlock : ¬(0x6000 ≤ key / 256 ∧ key / 256 < 0xA000) := by omega
    have noRow : (objPage (key / 256)).any (fun r => r.holds (key / 256) r.sub) = false := by
      rw [List.all_eq_not_any_not] at rows
      simpa using rows
    simp only [if_neg noTag, if_neg noBlock, noRow, Bool.false_and]
  · simp only [if_neg noTag, if_pos (And.intro lo hi), empty, Option.isSome_none]

theorem existsCheck_eq (h : ReservedKey s key) : existsCheck s key = 0x06020000 := by
  simp only [existsCheck, h.indexExists_eq_false, Bool.not_false, if_true]

theorem existsCheck_ne_zero (h : ReservedKey s key) : existsCheck s key ≠ 0 := by
  rw [h.existsCheck_eq]; decide

theorem readObj_eq (h : ReservedKey s key) : readObj s key = .error 0x06020000 := by
  rw [readObj_of_existsCheck_ne_zero h.existsCheck_ne_zero, h.existsCheck_eq]

theorem writeCheck_eq (h : ReservedKey s key) (w : Writer) (v : Val) (lost : Bool) : writeCheck s w key v lost = 0x06020000 := by
  rw [writeCheck_of_existsCheck_ne_zero h.existsCheck_ne_zero, h.existsCheck_eq]

/-- NET_SVC_CHALLENGE, which a read request serves by a row of its own (R331), is a defined object. -/
theorem ne_svcChallenge (h : ReservedKey s key) : key ≠ Obj.NET_SVC_CHALLENGE := by
  rintro rfl
  exact h.existsCheck_ne_zero (existsCheck_svcChallenge s)

theorem readRequest_eq (h : ReservedKey s key) (house : s.alive .house = true) (w : Writer) :
    readRequest w key s = (.error 0x06020000, s) := by
  simp only [readRequest, house, if_neg h.ne_svcChallenge, h.readObj_eq, Bool.not_true, Bool.false_eq_true, if_false]

theorem dictWrite_eq (h : ReservedKey s key) (w : Writer) (v : Val) (lostTo : Option Writer) :
    dictWrite w key v lostTo s = (some 0x06020000, s) := by
  simp only [dictWrite, h.writeCheck_eq]
  rw [noteRefused_of_not_late (by decide)]

theorem writeRequest_eq (h : ReservedKey s key) (house : s.alive .house = true) (w : Writer) (v : Val) (lostTo : Option Writer) :
    writeRequest w key v lostTo s = (some 0x06020000, s) := by
  simp [writeRequest, house, h.writeCheck_eq, h.dictWrite_eq]

/-- A read over the service protocol is answered with the abort in its session (R9, R341). -/
theorem execSvcRead_eq (r : ReservedKey s key) {h : SvcHead} {x : SessionSt} (served : svcServed s h.port = true)
    (only : s.net.sessions = [x]) (id : x.id = h.session) (port : x.port = h.port) (seq : h.seq = (x.seq + 1) % 4294967296)
    (house : s.alive .house = true) :
    execSvcRead h key s = .next ((s.modSession x.id fun y => { y with seq := h.seq, lastAt := s.now, reply := [] }).reply
      (.port h.port h.session) key 0x06020000) := by
  simp only [execSvcRead, svcRequest_of_next served only id port seq]
  rw [(r.modSession _ _).readRequest_eq house]
  simp only [answerRead, svcWriter, id, port]

/-- A write through a port that acts is answered with the abort (R9, R328). -/
theorem execDictionaryWrite_eq (r : ReservedKey s key) {w : Writer} (reaches : s.reaches w = true) (house : s.alive .house = true) (v : Val)
    (earlier later : List Writer) : execDictionaryWrite key v w earlier later s = .next (s.reply w key 0x06020000) := by
  simp only [execDictionaryWrite, dictReq, reaches, r.writeRequest_eq house, answer, Bool.not_true, Bool.false_eq_true, if_false]

/-- The service read is refused, and no dictionary value but the abort record moves. -/
theorem svcRead_refused (r : ReservedKey s key) {h : SvcHead} {x : SessionSt} (served : svcServed s h.port = true)
    (only : s.net.sessions = [x]) (id : x.id = h.session) (port : x.port = h.port) (seq : h.seq = (x.seq + 1) % 4294967296)
    (house : s.alive .house = true) (ethernet : 2 ≤ h.port ∧ h.port ≤ 4) :
    Completes (.svcRead h key) s fun t => (⟨h.port, 1, [h.port + 16 * h.session, key, 0x06020000]⟩ : TxFrame) ∈ t.tx ∧
      ∀ k, objGroup k ≠ .NET_ABORTS → objGroup k ≠ .NET_LAST_ABORT → cellGet k t.objs = cellGet k s.objs :=
  ⟨_, r.execSvcRead_eq served only id port seq house, State.mem_tx_reply_ethernet ethernet _ _ _ _,
    fun _ count last => State.cellGet_reply _ _ _ _ count last⟩

/-- The write from an Ethernet port is refused, and no dictionary value but the abort record moves. -/
theorem dictionaryWrite_refused (r : ReservedKey s key) {c se : Nat} (reaches : s.reaches (.port c se) = true)
    (house : s.alive .house = true) (ethernet : 2 ≤ c ∧ c ≤ 4) (v : Val) :
    Completes (.dictionaryWrite key v (.port c se) [] []) s fun t => (⟨c, 1, [c + 16 * se, key, 0x06020000]⟩ : TxFrame) ∈ t.tx ∧
      ∀ k, objGroup k ≠ .NET_ABORTS → objGroup k ≠ .NET_LAST_ABORT → cellGet k t.objs = cellGet k s.objs :=
  ⟨_, r.execDictionaryWrite_eq reaches house v [] [], State.mem_tx_reply_ethernet ethernet _ _ _ _,
    fun _ count last => State.cellGet_reply _ _ _ _ count last⟩

end ReservedKey

/-- Settles O59: the existence check turns every request to a reserved key away, and the answer moves the abort record alone. -/
theorem reservedIndices : Obligations.ReservedIndices := by
  unfold Obligations.ReservedIndices
  refine ⟨?readUndefined, ?readNoBlock, ?writeUndefined, ?writeNoBlock, ?everyRequest⟩
  case readUndefined =>
    intro s h key x served only id port seq house ethernet outside rows
    have r : ReservedKey s key := .inl ⟨outside, rows⟩
    exact r.svcRead_refused served only id port seq house ethernet
  case readNoBlock =>
    intro s h key x served only id port seq house ethernet ⟨lo, hi⟩ empty
    have r : ReservedKey s key := .inr ⟨lo, hi, empty⟩
    exact r.svcRead_refused served only id port seq house ethernet
  case writeUndefined =>
    intro s key v c se reaches house ethernet outside rows
    have r : ReservedKey s key := .inl ⟨outside, rows⟩
    exact r.dictionaryWrite_refused reaches house (by omega) v
  case writeNoBlock =>
    intro s key v c se reaches house ethernet ⟨lo, hi⟩ empty
    have r : ReservedKey s key := .inr ⟨lo, hi, empty⟩
    exact r.dictionaryWrite_refused reaches house (by omega) v
  case everyRequest =>
    intro s key reserved
    have r : ReservedKey s key := reserved
    exact ⟨r.readObj_eq, r.writeCheck_eq⟩

end Sys2Proof.Machine
end

section
/-!
PROOF. Steps (R15, R24): a step is a core cycle or the command in front of the queue, and what the commands leave alone shows in their
footprints.
-/

namespace Sys2Proof.Machine

/-! ### What no command's footprint holds, and what few do -/

theorem footprint_pending (c : Instr) : (footprint c).testBit Part.pending.bit = false := by
  cases c <;> (dsimp only [footprint]; rfl)

/-- A footprint that holds the fences is that of a command with which the module may start anew. -/
theorem footprint_fence (c : Instr) : ((footprint c).testBit Part.fence.bit && !restarts c) = false := by
  cases c <;> (dsimp only [footprint, restarts]; rfl)

/-- A footprint that holds module time is that of a command that restarts the module or locks its clock. -/
theorem footprint_mt (c : Instr) : ((footprint c).testBit (Part.isl .mt).bit && !maySetTime c) = false := by
  cases c <;> (dsimp only [footprint, maySetTime]; rfl)

/-- A part that a command changes stands in its footprint. -/
theorem testBit_footprint_of_not_same {c : Instr} {s t : State} (h : exec c s = .next t) {p : Part} (changed : ¬p.same s t) :
    (footprint c).testBit p.bit = true := by
  by_contra out
  exact changed (((keeps_exec c s).out t h).same p (by simpa using out))

theorem restarts_of_fence_ended {c : Instr} {s t : State} {i : Island} (h : exec c s = .next t) (fenced : i ∈ s.isl.fenced)
    (ended : i ∉ t.isl.fenced) : restarts c = true := by
  have bit : (footprint c).testBit Part.fence.bit = true := testBit_footprint_of_not_same h fun keep => ended (keep i fenced)
  simpa [bit] using footprint_fence c

theorem maySetTime_of_mt_moved {c : Instr} {s t : State} (h : exec c s = .next t) (moved : t.isl.mt ≠ s.isl.mt) : maySetTime c = true := by
  have bit : (footprint c).testBit (Part.isl .mt).bit = true := testBit_footprint_of_not_same h moved
  simpa [bit] using footprint_mt c

/-! ### A core cycle -/

theorem tick_fenced (s : State) : (tick s).isl.fenced = s.isl.fenced := by
  obtain ⟨m, e⟩ := tick_keeps s
  rw [e]

theorem tick_of_mt_moved {s : State} (moved : (tick s).isl.mt ≠ s.isl.mt) :
    (clockRuns s = true ∨ (s.isl.started = true ∧ s.alive .keystone = true)) ∧ (tick s).isl.mt = s.isl.mt + 1 := by
  unfold tick at moved ⊢
  split at moved
  next counts => exact ⟨by simpa using counts, by rw [if_pos counts]; rfl⟩
  next => exact absurd rfl moved

/-! ### The statements -/

/-- Settles O7: only the commands of `restarts` hold the fences in their footprint, and only those of `maySetTime` module time. -/
theorem fencesAndTime : Obligations.FencesAndTime := by
  unfold Obligations.FencesAndTime
  refine ⟨?fences, ?time⟩
  case fences =>
    intro s t i h fenced ended
    rcases step_cases h with ⟨-, rfl⟩ | ⟨c, rest, front, run⟩
    · rw [tick_fenced] at ended
      exact absurd fenced ended
    · exact ⟨c, rest, front, restarts_of_fence_ended run fenced ended⟩
  case time =>
    intro s t h moved
    rcases step_cases h with ⟨empty, rfl⟩ | ⟨c, rest, front, run⟩
    · exact .inl ⟨empty, tick_of_mt_moved moved⟩
    · exact .inr ⟨c, rest, front, maySetTime_of_mt_moved run moved⟩

/-- Settles O1: `step` looks at the front of the queue, every command answers, and no footprint holds the queue. -/
theorem stepRunsFrontCommand : Obligations.StepRunsFrontCommand := by
  unfold Obligations.StepRunsFrontCommand
  refine ⟨?front, ?completes, ?idle⟩
  case front =>
    intro c rest s front
    simp only [step, front]
  case completes =>
    intro c s
    obtain ⟨t, run⟩ := exec_next c s
    exact ⟨t, run, ((keeps_exec c s).out t run).same .pending (footprint_pending c)⟩
  case idle =>
    intro s empty
    simp only [step, empty]

end Sys2Proof.Machine
end

section
/-!
PROOF. The frame between like units (R26, R34, R127, R155, R187, R204, R228, R264, R336, R361, R384, R430): `SameBut get n s t` says that
between s and t no unit of the family `get` but unit n changed. One lemma for each operation that writes to a unit; the statement puts
them together command by command.
-/

namespace Sys2Proof.Machine

/-- Between s and t no unit of a family but unit n changed. -/
def SameBut {α : Type} {k : Nat} (get : State → Vector α k) (n : Fin k) (s t : State) : Prop := ∀ m : Fin k, m ≠ n → (get t)[m] = (get s)[m]

/-- What the answer to a request writes, the family does not read: transmissions, the dictionary's values, the network's state. -/
def AnswerFree {α : Type} {k : Nat} (get : State → Vector α k) : Prop := ∀ s tx objs net,
  get { s with tx := tx, objs := objs, net := net } = get s

/-! ### The answer to a request -/

theorem State.respond_shape (s : State) (c se kind : Nat) (data : List Int) :
    ∃ tx net, s.respond c se kind data = { s with tx := tx, net := net } := by
  unfold State.respond
  split
  · exact ⟨_, _, rfl⟩
  · split
    · split
      · exact ⟨_, s.net, rfl⟩
      · exact ⟨s.tx, s.net, rfl⟩
    · exact ⟨_, _, rfl⟩

theorem State.noteAbort_shape (s : State) (port key abort : Nat) : ∃ objs, s.noteAbort port key abort = { s with objs := objs } := ⟨_, rfl⟩

theorem State.reply_shape (s : State) (w : Writer) (key abort : Nat) :
    ∃ tx objs net, s.reply w key abort = { s with tx := tx, objs := objs, net := net } := by
  cases w with
  | logic => exact ⟨s.tx, s.objs, s.net, rfl⟩
  | port c se =>
    unfold State.reply
    dsimp only
    split
    · obtain ⟨tx, net, e⟩ := State.respond_shape (s.renew (.port c se) (abort == 0)) c se 1 [c + 16 * se, key, abort]
      exact ⟨tx, s.objs, net, by rw [e]; rfl⟩
    · obtain ⟨objs, a⟩ := State.noteAbort_shape (s.renew (.port c se) (abort == 0)) c key abort
      obtain ⟨tx, net, e⟩ := State.respond_shape ((s.renew (.port c se) (abort == 0)).noteAbort c key abort) c se 1 [c + 16 * se, key, abort]
      exact ⟨tx, objs, net, by rw [e, a]; rfl⟩

theorem State.forward_shape (s : State) (key : Nat) (data : List Int) : ∃ tx, s.forward key data = { s with tx := tx } := by
  unfold State.forward
  split
  · exact ⟨_, rfl⟩
  · exact ⟨s.tx, rfl⟩

namespace AnswerFree

variable {α : Type} {k : Nat} {get : State → Vector α k}

theorem reply (h : AnswerFree get) (s : State) (w : Writer) (key abort : Nat) : get (s.reply w key abort) = get s := by
  obtain ⟨tx, objs, net, e⟩ := State.reply_shape s w key abort
  rw [e, h]

theorem forward (h : AnswerFree get) (s : State) (key : Nat) (data : List Int) : get (s.forward key data) = get s := by
  obtain ⟨tx, e⟩ := State.forward_shape s key data
  rw [e]
  exact h s tx s.objs s.net

end AnswerFree

/-! ### How the relation is put together -/

namespace SameBut

variable {α : Type} {k : Nat} {get : State → Vector α k} {n : Fin k} {s t u : State}

theorem refl (s : State) : SameBut get n s s := fun _ _ => rfl

theorem trans (h : SameBut get n s t) (e : SameBut get n t u) : SameBut get n s u := fun m ne => (e m ne).trans (h m ne)

/-- Nothing of the family changed. -/
theorem of_eq (h : get t = get s) : SameBut get n s t := fun m _ => by rw [h]

/-- The unit itself was written. -/
theorem of_set {x : α} (h : get t = (get s).set n x) : SameBut get n s t := fun m ne => by rw [h, vset_at, if_neg (Ne.symm ne)]

theorem andThen (h : SameBut get n s t) (e : get u = get t) : SameBut get n s u := h.trans (of_eq e)

theorem after (h : SameBut get n t u) (e : get t = get s) : SameBut get n s u := (of_eq e).trans h

theorem ite {c : Prop} [Decidable c] (ht : SameBut get n s t) (hu : SameBut get n s u) : SameBut get n s (if c then t else u) := by
  split
  · exact ht
  · exact hu

theorem on {i : Island} {f : State → State} (h : SameBut get n s (f s)) : SameBut get n s (s.on i f) := ite h (refl s)

theorem owned {w : Writer} {f : State → Nat × State} (h : SameBut get n s (f s).2) : SameBut get n s (Machine.owned w f s).2 := by
  unfold Machine.owned
  split
  · exact h
  · exact refl s

theorem request {f : State → Nat × State} (free : AnswerFree get) (h : SameBut get n s (f s).2) (w : Writer) (key : Nat) (i : Island) :
    SameBut get n s (Machine.request w key i f s) := by
  unfold Machine.request
  refine ite (refl s) (ite (of_eq (free.reply _ _ _ _)) (.andThen ?_ (free.reply _ _ _ _)))
  split
  · exact refl s
  · split
    · exact refl s
    · dsimp only
      split
      · exact h.andThen (free.forward _ _ _)
      · exact h

end SameBut

/-! ### Stages and piers -/

theorem PieField.eq_of_same {a b : PierSt} (h : ∀ f : PieField, f.same a b) : b = a := by
  cases a
  cases b
  simp only [PierSt.mk.injEq]
  exact ⟨h .law, h .blocks, h .work, h .post, h .k, h .t0, h .graph, h .tally, h .overrunRun, h .postRun, h .postDone, h .provisional,
    h .duties, h .sent, h .out, h .ran, h .tripped, h .selftest, h .selftestDue, h .bistAt, h .rv, h .xv, h .xvn, h .fClamp, h .eClamp,
    h .negClamp, h .nClamp, h .restClamp, h .before, h .envLogged⟩

/-- A footprint without a field of the piers leaves every pier alone. -/
theorem Keeps.pie {F : Nat} {s t : State} (h : Keeps F s t) (e : ∀ f : PieField, F.testBit f.bit = false) : t.pie = s.pie := by
  ext i lt : 1
  exact PieField.eq_of_same fun f => h.same (.pie f) (e f) ⟨i, lt⟩

theorem canaryStep_pie (n : StageId) (c : CanaryIn) (s : State) : (canaryStep n c s).pie = s.pie :=
  (keeps_canaryStep n c s).pie fun f => by cases f <;> rfl

theorem galleryRecord_pie (p : StageId) (i t0 : Nat) (s : State) : (galleryRecord p i t0 s).pie = s.pie :=
  (keeps_galleryRecord p i t0 s).pie fun f => by cases f <;> rfl

theorem sameBut_postCommit (p : StageId) (total : Nat) (s : State) :
    Completes (.postCommit p total) s fun t => SameBut (·.pie) p s t := by
  refine ⟨_, rfl, .on ?_⟩
  dsimp only
  split
  · exact .refl s
  · refine .ite (.refl s) ?_
    apply SameBut.of_set
    simp only [galleryRecord_pie, canaryStep_pie, State.setBit_pie, State.draw_pie, State.setR_pie, State.setN_pie, State.modPier_pie]
    rfl

theorem sameBut_startSelftest (p : StageId) (s : State) : SameBut (·.pie) p s (startSelftest p s) :=
  .ite (.of_set rfl) (.of_set rfl)

theorem sameBut_pieSelftest (p : StageId) (w : Writer) (s : State) :
    Completes (.pieSelftest p w) s fun t => SameBut (·.pie) p s t := by
  refine ⟨_, rfl, .request (fun _ _ _ _ => rfl) (.owned ?_) _ _ _⟩
  unfold selftestCmd
  split
  · exact sameBut_startSelftest p s
  · exact .refl s

theorem sameBut_stageLimitExit (n : StageId) (s : State) : Completes (.stageLimitExit n) s fun t => SameBut (·.stg) n s t :=
  ⟨_, rfl, .on (.ite (.of_set rfl) (.refl s))⟩

theorem sameBut_surveyRoundStart (n : StageId) (s : State) : Completes (.surveyRoundStart n) s fun t => SameBut (·.srv) n s t :=
  ⟨_, rfl, .on (.ite (.of_set rfl) (.refl s))⟩

theorem sameBut_inputZeroCrossing (n : StageId) (z : Crossing) (s : State) :
    Completes (.inputZeroCrossing n z) s fun t => SameBut (·.frt) n s t := by
  refine ⟨_, rfl, .on (.ite (.refl s) ?_)⟩
  dsimp only
  split
  next => exact .ite (.of_set rfl) (.of_set rfl)
  next => exact .ite (.refl s) (.of_set rfl)
  next => exact .ite (.refl s) (.of_set (State.log_frt _ _ _))

/-! ### Galleries -/

theorem sameBut_triggerArm (p : StageId) (w : Writer) (s : State) : Completes (.triggerArm p w) s fun t => SameBut (·.gal) p s t := by
  refine ⟨_, rfl, .request (fun _ _ _ _ => rfl) (.owned ?_) _ _ _⟩
  unfold armTrigger
  split
  · exact .refl s
  · exact .of_set rfl

theorem sameBut_galleryRead (p : StageId) (i : Nat) (w : Writer) (s : State) :
    Completes (.galleryRead p i w) s fun t => SameBut (·.gal) p s t := by
  have free : AnswerFree (·.gal) := fun _ _ _ _ => rfl
  refine ⟨_, rfl, .ite (.request free (.refl s) _ _ _) ?_⟩
  refine SameBut.trans (.request free (f := selectGalRecord p i) (.of_set rfl) w (Obj.GAL_READ_K p) (.pier p)) ?_
  dsimp only
  split
  · exact .ite (.of_eq rfl) (.refl _)
  · exact .refl _
  · exact .request free (.refl _) _ _ _

/-! ### Channels, trip groups, driver dies -/

theorem sameBut_staticCtrlWrite (ch : ChanId) (ctrl : Nat) (w : Writer) (s : State) :
    Completes (.staticCtrlWrite ch ctrl w) s fun t => SameBut (·.edg.ch) ch s t := by
  refine ⟨_, rfl, .request (fun _ _ _ _ => rfl) (.owned ?_) _ _ _⟩
  split
  · exact .of_set rfl
  · exact .refl s

theorem showGroup_edg (g : GroupId) (s : State) : (showGroup g s).edg = s.edg := rfl

theorem sameBut_groupClear (g : GroupId) (s : State) : SameBut (·.edg.grp) g s (groupClear g s).2 := by
  unfold groupClear
  split
  · exact .of_set (by simp only [showGroup_edg, State.log_edg, State.modGrp_edg]; rfl)
  · exact .of_set (by simp only [showGroup_edg, State.log_edg, State.modGrp_edg]; rfl)

theorem sameBut_tripGroupClear (g : GroupId) (w : Writer) (s : State) :
    Completes (.tripGroupClear g w) s fun t => SameBut (·.edg.grp) g s t :=
  ⟨_, rfl, .request (fun _ _ _ _ => rfl) (.owned (sameBut_groupClear g s)) _ _ _⟩

theorem sameBut_millerClampEngage (d : DrvId) (volts : Rat) (s : State) :
    Completes (.millerClampEngage ⟨d, volts⟩) s fun t => SameBut (·.gdv.drv) d s t :=
  ⟨_, rfl, .on (.ite (.refl s) (.of_set rfl))⟩

/-! ### Converters -/

theorem sameBut_modAdc (c : AdcId) (f : AdcSt → AdcSt) (s : State) : SameBut (·.acq.adc) c s (s.modAdc c f) := .of_set rfl

theorem sameBut_noteCode (c : AdcId) (x : Int × Nat) (s : State) : SameBut (·.acq.adc) c s (noteCode c x s) :=
  .ite (.of_set rfl) (.of_set rfl)

theorem sameBut_deliver (c : AdcId) (b : Nat) (v : Int) (stamp qual : Nat) (s : State) :
    SameBut (·.acq.adc) c s (deliver c b v stamp qual s) := .of_set rfl

theorem sameBut_windowAverage (c : AdcId) (s : State) : SameBut (·.acq.adc) c s (windowAverage c s) := by
  unfold windowAverage
  dsimp only
  split
  · split
    · exact .refl s
    · have logged {p : Prop} [Decidable p] (code : Nat) (data : List Rat) : SameBut (·.acq.adc) c s (if p then s.log code data else s) :=
        .ite (.of_eq (by rw [State.log_acq])) (.refl s)
      exact .ite (((logged _ _).trans (sameBut_modAdc c _ _)).trans (sameBut_deliver c _ _ _ _ _)) (.refl s)
  · exact .refl s

theorem takeAdcWrites_adc (c : AdcId) (s : State) : (takeAdcWrites c s).acq.adc = s.acq.adc := (keeps_takeAdcWrites c s).same (.acq .adc) rfl

theorem feedChains_adc (c : AdcId) (x : Int × Nat × Nat) (s : State) : (feedChains c x s).acq.adc = s.acq.adc :=
  (keeps_feedChains c x s).same (.acq .adc) rfl

theorem ssdFeed_adc (c : AdcId) (v : Int) (start : Nat) (s : State) : (ssdFeed c v start s).acq.adc = s.acq.adc :=
  (keeps_ssdFeed c v start s).same (.acq .adc) rfl

theorem sameBut_gridConversion (c : AdcId) (raw : Int) (start : Nat) (s : State) :
    SameBut (·.acq.adc) c s (gridConversion c raw start s) := by
  unfold gridConversion
  dsimp only
  refine SameBut.andThen ?_ (takeAdcWrites_adc c _)
  have fed (x : Int × Nat) (f : AdcSt → AdcSt) (y : Int × Nat × Nat) (v : Int) :
      SameBut (·.acq.adc) c s (ssdFeed c v start (feedChains c y ((noteCode c x s).modAdc c f))) :=
    (((sameBut_noteCode c x s).trans (sameBut_modAdc c f _)).andThen (feedChains_adc c y _)).andThen (ssdFeed_adc c v start _)
  exact .ite ((fed _ _ _ _).trans (sameBut_windowAverage c _)) ((fed _ _ _ _).trans (sameBut_deliver c _ _ _ _ _))

theorem sameBut_singleConversion (c : AdcId) (raw : Int) (cv : ConvSt) (s : State) :
    SameBut (·.acq.adc) c s (singleConversion c raw cv s) := by
  unfold singleConversion
  exact (((sameBut_noteCode c _ s).trans (sameBut_deliver c _ _ _ _ _)).andThen (takeAdcWrites_adc c _)).trans (sameBut_modAdc c _ _)

theorem sameBut_conversionComplete (c : AdcId) (raw : Int) (s : State) :
    Completes (.conversionComplete c raw) s fun t => SameBut (·.acq.adc) c s t := by
  refine ⟨_, rfl, .on ?_⟩
  unfold conversionComplete
  dsimp only
  refine .ite (.ite (sameBut_gridConversion c raw _ s) (.refl s)) (.ite ?_ (.refl s))
  split
  · exact .ite (.refl s) (sameBut_singleConversion c raw _ s)
  · exact .refl s

/-! ### CAN ports and stations -/

theorem showNet_net (s : State) : (showNet s).net = s.net := rfl

theorem sameBut_nmtStart (c : Fin 2) (s : State) : Completes (.nmtStart c) s fun t => SameBut (·.net.can) c s t :=
  ⟨_, rfl, .ite (.of_set rfl) (.refl s)⟩

theorem ownerEnds_net (cause : Nat) (s : State) : (ownerEnds cause s).net = s.net := by
  unfold ownerEnds
  dsimp only
  split
  · rfl
  · rw [showNet_net, State.log_net, State.setN_net]

theorem sameBut_canBusOff (c : Fin 2) (s : State) : Completes (.canBusOff c) s fun t => SameBut (·.net.can) c s t := by
  refine ⟨_, rfl, .ite ?_ (.refl s)⟩
  have off (f : CanSt → CanSt) (v : Nat) (data : List Rat) :
      SameBut (·.net.can) c s (((s.modCan c f).setN (Obj.NET_CAN_STATE c.val) v).log 0x7008 data) :=
    .of_set (by rw [State.log_net]; rfl)
  exact .ite ((off _ _ _).andThen (by rw [ownerEnds_net])) (off _ _ _)

theorem sameBut_stationDrop (i : StationId) (s : State) : Completes (.stationDrop i) s fun t => SameBut (·.lgc.station) i s t := by
  refine ⟨_, rfl, .on (.ite ?_ (.refl s))⟩
  apply SameBut.of_set
  dsimp only
  rw [State.log_lgc]
  rfl

/-! ### Contactor control and connections -/

theorem showDrv_saf (i : SocId) (s : State) : (showDrv i s).saf = s.saf := by
  simp only [showDrv, State.setBit_saf, State.modCd_saf]

theorem showSoc_saf (i : SocId) (s : State) : (showSoc i s).saf = s.saf := by
  simp only [showSoc, showDrv_saf, State.setBit_saf]

theorem sameBut_socClose (i : SocId) (s : State) : SameBut (·.saf.soc) i s (socClose i s) := by
  unfold socClose
  refine .ite (.refl s) (.ite (.of_set rfl) (.ite (.refl s) ?_))
  split
  · exact .of_eq (by rw [State.log_saf])
  · exact .of_set rfl

theorem sameBut_socOpen (i : SocId) (s : State) : SameBut (·.saf.soc) i s (socOpen i s) :=
  .ite (.of_set rfl) (.ite (.refl s) (.of_set rfl))

theorem sameBut_socCloseRequest (i : SocId) (s : State) : Completes (.socCloseRequest i) s fun t => SameBut (·.saf.soc) i s t :=
  ⟨_, rfl, .on (.ite (sameBut_socClose i s) (.refl s))⟩

theorem sameBut_socOpenRequest (i : SocId) (s : State) : Completes (.socOpenRequest i) s fun t => SameBut (·.saf.soc) i s t :=
  ⟨_, rfl, .on (.ite (sameBut_socOpen i s) (.refl s))⟩

theorem sameBut_clearSoc (i : SocId) (testsPass : Bool) (w : Writer) (s : State) :
    Completes (.clearSoc i testsPass w) s fun t => SameBut (·.saf.soc) i s t := by
  refine ⟨_, rfl, .request (fun _ _ _ _ => rfl) ?_ _ _ _⟩
  unfold clearSoc
  split
  · exact .refl s
  · split
    · exact .refl s
    · apply SameBut.of_set
      dsimp only
      rw [showSoc_saf, State.log_saf, State.setBit_saf]
      split <;> rfl

theorem sameBut_sendUnit (c : ConnId) (s : State) : SameBut (·.saf.conn) c s (sendUnit c s) := by
  unfold sendUnit
  dsimp only
  exact .ite (.of_set rfl) (.of_set rfl)

theorem sameBut_safetyUnitSend (c : ConnId) (s : State) : Completes (.safetyUnitSend c) s fun t => SameBut (·.saf.conn) c s t :=
  ⟨_, rfl, .ite (sameBut_sendUnit c s) (.refl s)⟩

theorem permitReview_conn (s : State) : (permitReview s).saf.conn = s.saf.conn := (keeps_permitReview s).same (.saf .conn) rfl
theorem showConn_conn (c : ConnId) (s : State) : (showConn c s).saf.conn = s.saf.conn := (keeps_showConn c s).same (.saf .conn) rfl

theorem sameBut_connSafe (c : ConnId) (cause : Nat) (s : State) : SameBut (·.saf.conn) c s (connSafe c cause s) := by
  have marked (f : ConnSt → ConnSt) : SameBut (·.saf.conn) c s (s.modConn c f) := .of_set rfl
  refine SameBut.andThen (SameBut.andThen ?_ (showConn_conn c _)) (permitReview_conn _)
  exact .ite (marked _) ((marked _).andThen (by rw [State.log_saf]))

theorem sameBut_connectionTimeout (c : ConnId) (s : State) : Completes (.connectionTimeout c) s fun t => SameBut (·.saf.conn) c s t :=
  ⟨_, rfl, .on (.ite (sameBut_connSafe c 1 s) (.refl s))⟩

/-! ### Check-value units and outputs -/

theorem cvuPass_cvu (u : CvuId) (w : Writer) (frame : List Nat) (s : State) : (cvuPass u w frame s).nvs.cvu = s.nvs.cvu :=
  (keeps_cvuPass u w frame s).same (.nvs .cvu) rfl

theorem cvuDrop_cvu (u : CvuId) (s : State) : (cvuDrop u s).nvs.cvu = s.nvs.cvu := (keeps_cvuDrop u s).same (.nvs .cvu) rfl

theorem sameBut_cvuReceive (u : CvuId) (w : Writer) (s : State) : SameBut (·.nvs.cvu) u s (cvuReceive u w s) := by
  have stored (key v : Nat) (f : CvuSt → CvuSt) : SameBut (·.nvs.cvu) u s ((s.setN key v).modCvu u f) := .of_set rfl
  unfold cvuReceive
  dsimp only
  refine .ite (.of_eq (cvuDrop_cvu u _)) (.ite (.of_eq (cvuPass_cvu u w _ _)) ?_)
  split
  · refine .ite ((stored _ _ _).andThen (cvuPass_cvu u w _ _)) (.of_eq ?_)
    rw [State.log_nvs, State.setBit_nvs, cvuDrop_cvu]
    rfl
  · exact (stored _ _ _).andThen (cvuPass_cvu u w _ _)

theorem sameBut_cvuFinish (u : CvuId) (w : Writer) (s : State) :
    Completes (.cvuFinish u w) s fun t => SameBut (·.nvs.cvu) u s t := by
  refine ⟨_, rfl, .request (fun _ _ _ _ => rfl) (.owned ?_) _ _ _⟩
  unfold cvuFinish
  split
  · exact .refl s
  · dsimp only
    refine SameBut.trans ?_ (.of_set rfl)
    split
    · exact .ite (.of_eq rfl) (.of_eq (by rw [State.log_nvs]; rfl))
    · exact .of_eq (cvuPass_cvu u w _ _)
    · exact sameBut_cvuReceive u w s
    · exact .refl s

theorem noteLateness_out (late : Nat) (s : State) : (noteLateness late s).fio.out = s.fio.out := (keeps_noteLateness late s).same (.fio .out) rfl

theorem showOut_fio (o : DoId) (s : State) : (showOut o s).fio = s.fio := rfl

theorem sameBut_fieldOut (o : DoId) (on : Bool) (late : Nat) (s : State) : SameBut (·.fio.out) o s (fieldOut o on late s) := by
  refine .ite (.refl s) ?_
  apply SameBut.of_set
  rw [showOut_fio, noteLateness_out]
  rfl

theorem sameBut_fieldOutputCommand (o : DoId) (on : Bool) (instant : Nat) (s : State) :
    Completes (.fieldOutputCommand o on instant) s fun t => SameBut (·.fio.out) o s t :=
  ⟨_, rfl, sameBut_fieldOut o on _ s⟩

/-- Settles O57: each command writes to the unit it names, by the lemma about its operation. -/
theorem unitsDoNotDisturbEachOther : Obligations.UnitsDoNotDisturbEachOther := by
  unfold Obligations.UnitsDoNotDisturbEachOther
  exact ⟨fun s n => sameBut_stageLimitExit n s, fun s n => sameBut_surveyRoundStart n s,
    fun s n rising swing => sameBut_inputZeroCrossing n ⟨rising, swing⟩ s, fun s p w => sameBut_pieSelftest p w s,
    fun s p total => sameBut_postCommit p total s, fun s p w => sameBut_triggerArm p w s, fun s p i w => sameBut_galleryRead p i w s,
    fun s ch ctrl w => sameBut_staticCtrlWrite ch ctrl w s, fun s g w => sameBut_tripGroupClear g w s,
    fun s d volts => sameBut_millerClampEngage d volts s, fun s c raw => sameBut_conversionComplete c raw s,
    fun s c => sameBut_nmtStart c s, fun s c => sameBut_canBusOff c s, fun s i => sameBut_socCloseRequest i s,
    fun s i => sameBut_socOpenRequest i s, fun s i testsPass w => sameBut_clearSoc i testsPass w s, fun s c => sameBut_safetyUnitSend c s,
    fun s c => sameBut_connectionTimeout c s, fun s u w => sameBut_cvuFinish u w s,
    fun s o on instant => sameBut_fieldOutputCommand o on instant s, fun s i => sameBut_stationDrop i s⟩

end Sys2Proof.Machine
end

section
/-!
PROOF. Replicas, joints and fences (R13, R14, R16, R23), contactor enable at the abutment (R25) and the loss of housekeeping data (R26).
-/

namespace Sys2Proof.Machine

theorem State.on_of_alive {s : State} {i : Island} (h : s.alive i = true) (f : State → State) : s.on i f = f s := if_pos h

/-- Islands act as before where no fence was set or taken away. -/
theorem State.alive_modIsl {f : IslandsSt → IslandsSt} {s : State} (h : (f s.isl).fenced = s.isl.fenced) (i : Island) :
    (s.modIsl f).alive i = s.alive i := by
  simp only [State.alive, State.fenced, State.modIsl_isl, State.modIsl_mod, h]

/-! ### Fences (R23) -/

theorem mem_fenced_fence {i : Island} {s : State} (h : s.alive .keystone = true) (ne : i ≠ .keystone) : i ∈ (fence i s).isl.fenced := by
  unfold fence
  by_cases already : s.fenced i = true
  · rw [if_pos (by simp [already])]
    simpa [State.fenced] using already
  · rw [if_neg (by simp [h, ne, already])]
    exact (keeps_fenceEffect i _).same .fence rfl i (by simp)

/-! ### The broadcast of the master count (R16) -/

/-- The broadcast goes out while a clock runs and the edge island or the keystone sends it, 1,024 cycles after the last. -/
theorem execTimeBroadcast_sent {s : State} {dev : List (Island × Int)} (clock : clockRuns s = true)
    (sender : s.alive .edge = true ∨ s.alive .keystone = true) (due : 1024 ≤ s.since s.isl.broadcast) :
    execTimeBroadcast dev s = .next ((dev.filter replicaFaulty).foldl (fun s e => fence e.1 s) (s.modIsl fun x => { x with
      broadcast := s.now, dev := dev.filter fun e => e.2 != 0 && decide (e.2.natAbs ≤ e.1.resolution) })) := by
  unfold execTimeBroadcast
  rw [if_neg]
  simpa [clock, due] using fun edge => sender.resolve_left (by simp [edge])

theorem timeBroadcast_within {s : State} {dev : List (Island × Int)} (clock : clockRuns s = true) (edge : s.alive .edge = true)
    (due : 1024 ≤ s.since s.isl.broadcast) (sound : ∀ e ∈ dev, replicaFaulty e = false) :
    Completes (.timeBroadcast dev) s fun t => t.isl.broadcast = s.now ∧
      t.isl.dev = dev.filter (fun e => e.2 != 0 && decide (e.2.natAbs ≤ e.1.resolution)) ∧ t.isl.fenced = s.isl.fenced := by
  refine ⟨_, execTimeBroadcast_sent clock (.inl edge) due, ?_⟩
  have none : dev.filter replicaFaulty = [] := List.filter_eq_nil_iff.2 fun e m => by simp [sound e m]
  rw [none]
  exact ⟨rfl, rfl, rfl⟩

theorem timeBroadcast_faulty {s : State} {i : Island} {d : Int} (clock : clockRuns s = true) (keystone : s.alive .keystone = true)
    (due : 1024 ≤ s.since s.isl.broadcast) (faulty : replicaFaulty (i, d) = true) (ne : i ≠ .keystone) :
    Completes (.timeBroadcast [(i, d)]) s fun t => i ∈ t.isl.fenced := by
  refine ⟨_, execTimeBroadcast_sent clock (.inr keystone) due, ?_⟩
  rw [List.filter_cons_of_pos faulty]
  exact mem_fenced_fence (by rw [State.alive_modIsl rfl, keystone]) ne

/-! ### Joints (R13, R14) -/

theorem jointOf_ends (s : State) (a b : Island) : (jointOf s a b).src = a ∧ (jointOf s a b).dst = b := by
  unfold jointOf
  cases found : s.isl.joints.find? fun j => j.src == a && j.dst == b with
  | none => exact ⟨rfl, rfl⟩
  | some j => simpa using List.find?_some found

/-- A joint that was put stands between its islands. -/
theorem jointOf_putJoint {j : Joint} {a b : Island} (src : j.src = a) (dst : j.dst = b) (s : State) : jointOf (putJoint j s) a b = j := by
  simp [jointOf, putJoint, src, dst]

/-- The joint between two islands after it was written with their names kept. -/
theorem jointOf_putJoint_self {s : State} {a b : Island} {f : Joint → Joint} (src : ∀ j, (f j).src = j.src) (dst : ∀ j, (f j).dst = j.dst) :
    jointOf (putJoint (f (jointOf s a b)) s) a b = f (jointOf s a b) :=
  jointOf_putJoint ((src _).trans (jointOf_ends s a b).1) ((dst _).trans (jointOf_ends s a b).2) s

theorem jointWordArrival_sound {s : State} {src dst : Island} (w : Nat) (alive : s.alive dst = true) (sound : s.fenced src = false) :
    Completes (.jointWordArrival src dst false w) s fun t => (jointOf t src dst).word = some w := by
  refine ⟨_, congrArg Host.Outcome.next (State.on_of_alive alive _), ?_⟩
  dsimp only
  rw [if_neg (by simp [sound]), if_neg Bool.false_ne_true,
    jointOf_putJoint_self (f := fun j => { j with word := some w }) (fun _ => rfl) fun _ => rfl]

theorem jointWordArrival_fenced {s : State} {src dst : Island} (poisoned : Bool) (w : Nat) (alive : s.alive dst = true)
    (fenced : s.fenced src = true) :
    Completes (.jointWordArrival src dst poisoned w) s fun t => (jointOf t src dst).marker = true ∧ (jointOf t src dst).word = none := by
  refine ⟨_, congrArg Host.Outcome.next (State.on_of_alive alive _), ?_⟩
  dsimp only
  rw [if_pos fenced, jointOf_putJoint_self (f := fun j => { j with marker := true, word := none }) (fun _ => rfl) fun _ => rfl]
  exact ⟨rfl, rfl⟩

/-- A counter whose default is 0 counts, whatever else its store holds. -/
theorem State.objN_bump_of_default {key : Nat} (h : defaultAt key = some (.int 0)) (s : State) : (s.bump key).objN key = s.objN key + 1 := by
  have ne : defaultAt key ≠ some (.int (s.objN key + 1 : Nat)) := by simp [h]; omega
  rw [State.objN, State.obj, State.bump, State.setN_objs, cellPut, if_neg ne, cellGet_cellSet_self]
  rfl

theorem defaultAt_TWN_LINK_ERRORS : defaultAt Obj.TWN_LINK_ERRORS = some (.int 0) := by decide +kernel

theorem jointOf_bump (s : State) (key : Nat) (a b : Island) : jointOf (s.bump key) a b = jointOf s a b := rfl

/-- R14, R402: a poisoned word within the allowance is counted at its joint, one from the Clauz link at the link as well. -/
theorem jointWordArrival_poisoned {s : State} {src dst : Island} (w : Nat) (alive : s.alive dst = true) (sound : s.fenced src = false)
    (few : ((jointOf s src dst).recent.filter fun m => decide (s.since m < 1024 * dst.resolution)).length < 2) :
    Completes (.jointWordArrival src dst true w) s fun t => (jointOf t src dst).poisoned = (jointOf s src dst).poisoned + 1 ∧
      t.isl.fenced = s.isl.fenced ∧ (src = .link → t.objN Obj.TWN_LINK_ERRORS = s.objN Obj.TWN_LINK_ERRORS + 1) := by
  have counted (recent : List Nat) : (jointOf (putJoint { jointOf s src dst with
      poisoned := (jointOf s src dst).poisoned + 1, recent := recent } s) src dst).poisoned = (jointOf s src dst).poisoned + 1 := by
    rw [jointOf_putJoint_self (f := fun j => { j with poisoned := j.poisoned + 1, recent := recent }) (fun _ => rfl) fun _ => rfl]
  refine ⟨_, congrArg Host.Outcome.next (State.on_of_alive alive _), ?_⟩
  dsimp only
  rw [if_neg (by simp [sound]), if_pos rfl, if_neg (by rw [List.length_cons]; omega)]
  split
  next => exact ⟨by rw [jointOf_bump, counted], rfl, fun _ => State.objN_bump_of_default defaultAt_TWN_LINK_ERRORS _⟩
  next other => exact ⟨counted _, rfl, fun link => absurd link other⟩

/-! ### Contactor drivers (R25, R432) -/

theorem cdEnabled_congr {s t : State} (isl : t.isl = s.isl) (mod : t.mod = s.mod) : cdEnabled t = cdEnabled s := by
  simp only [cdEnabled, State.alive, State.fenced, isl, mod]

theorem drvWanted_congr {s t : State} {d : SocId} (saf : t.saf = s.saf) (force : t.fio.force = s.fio.force)
    (cmd : t.fio.drv[d].cmd = s.fio.drv[d].cmd) (owned : socOwned t d = socOwned s d) : drvWanted t d = drvWanted s d := by
  unfold drvWanted
  rw [saf, force, cmd, owned]

/-- What a driver's switches follow: contactor enable, the driver's latch and command, the safe output contactor it serves, and a force. -/
theorem drvSwitches_congr {s t : State} {d : SocId} (isl : t.isl = s.isl) (mod : t.mod = s.mod) (saf : t.saf = s.saf)
    (force : t.fio.force = s.fio.force) (overc : t.fio.drv[d].overc = s.fio.drv[d].overc) (cmd : t.fio.drv[d].cmd = s.fio.drv[d].cmd)
    (owned : socOwned t d = socOwned s d) : drvSwitches t d = drvSwitches s d := by
  unfold drvSwitches
  rw [cdEnabled_congr isl mod, drvWanted_congr saf force cmd owned, saf, overc]

theorem objGroup_SAF_SOC_CFG (d : SocId) : objGroup (Obj.SAF_SOC_CFG d) = .saf := by
  fin_cases d <;> decide +kernel

theorem Keeps.socOwned {F : Nat} {s t : State} (h : Keeps F s t) (saf : F.testBit (Part.obj .saf).bit = false)
    (mod : F.testBit (Part.obj .mod).bit = false) (d : SocId) : Machine.socOwned t d = Machine.socOwned s d := by
  unfold Machine.socOwned socOwner
  rw [h.field' _ _ _ (by rw [objGroup_SAF_SOC_CFG]; exact saf) mod]

theorem showOut_isl (o : DoId) (s : State) : (showOut o s).isl = s.isl := rfl
theorem showOut_mod (o : DoId) (s : State) : (showOut o s).mod = s.mod := rfl
theorem showOut_saf (o : DoId) (s : State) : (showOut o s).saf = s.saf := rfl

theorem drvSwitches_showOut (o : DoId) (s : State) (d : SocId) : drvSwitches (showOut o s) d = drvSwitches s d :=
  drvSwitches_congr rfl rfl rfl rfl rfl rfl ((keeps_showOut o s).socOwned rfl rfl d)

theorem showDrv_fio (i : SocId) (s : State) :
    (showDrv i s).fio = (s.modCd i fun x => { x with high := (drvSwitches s i).1, low := (drvSwitches s i).2 }).fio := by
  simp only [showDrv, State.setBit_fio]

theorem showDrv_isl (i : SocId) (s : State) : (showDrv i s).isl = s.isl := by
  simp only [showDrv, State.setBit_isl, State.modCd_isl]

theorem showDrv_mod (i : SocId) (s : State) : (showDrv i s).mod = s.mod := by
  simp only [showDrv, State.setBit_mod, State.modCd_mod]

/-- Showing driver i sets its two switches and leaves the other drivers as they were. -/
theorem showDrv_drv (i d : SocId) (s : State) : (showDrv i s).fio.drv[d] =
    if i = d then { s.fio.drv[d] with high := (drvSwitches s d).1, low := (drvSwitches s d).2 } else s.fio.drv[d] := by
  rw [showDrv_fio, State.modCd_fio]
  dsimp only
  rw [vset_at]
  split
  next same => rw [same]
  next => rfl

/-- What the drivers' switches follow is not moved by showing one of them. -/
theorem drvSwitches_showDrv (i d : SocId) (s : State) : drvSwitches (showDrv i s) d = drvSwitches s d := by
  refine drvSwitches_congr (showDrv_isl i s) (showDrv_mod i s) (showDrv_saf i s) ?_ ?_ ?_ ((keeps_showDrv i s).socOwned rfl rfl d)
  · rw [showDrv_fio, State.modCd_fio]
  · rw [showDrv_drv]; split <;> rfl
  · rw [showDrv_drv]; split <;> rfl

/-- The two switches of driver d stand as its command and its conditions say. -/
def Shown (s : State) (d : SocId) : Prop := s.fio.drv[d].high = (drvSwitches s d).1 ∧ s.fio.drv[d].low = (drvSwitches s d).2

theorem shown_showDrv {i d : SocId} {s : State} (h : i = d ∨ Shown s d) : Shown (showDrv i s) d := by
  unfold Shown
  rw [drvSwitches_showDrv, showDrv_drv]
  split
  next => exact ⟨rfl, rfl⟩
  next ne => exact h.resolve_left ne

theorem shown_foldl_showDrv {l : List SocId} {d : SocId} {s : State} (h : d ∈ l ∨ Shown s d) :
    Shown (l.foldl (fun s i => showDrv i s) s) d ∧ drvSwitches (l.foldl (fun s i => showDrv i s) s) d = drvSwitches s d := by
  induction l generalizing s with
  | nil => exact ⟨h.resolve_left List.not_mem_nil, rfl⟩
  | cons i l ih =>
    have next : d ∈ l ∨ Shown (showDrv i s) d := by
      rcases h with h | h
      · rcases List.mem_cons.1 h with same | later
        · exact .inr (shown_showDrv (.inl same.symm))
        · exact .inl later
      · exact .inr (shown_showDrv (.inr h))
    obtain ⟨shown, switches⟩ := ih next
    exact ⟨shown, switches.trans (drvSwitches_showDrv i d s)⟩

theorem drvSwitches_foldl_showOut (l : List DoId) (s : State) (d : SocId) :
    drvSwitches (l.foldl (fun s o => showOut o s) s) d = drvSwitches s d := by
  induction l generalizing s with
  | nil => rfl
  | cons o l ih => exact (ih (showOut o s)).trans (drvSwitches_showOut o s d)

/-- With the outputs shown, every driver's switches stand as its command and its conditions say. -/
theorem showField_drv (s : State) (d : SocId) :
    (showField s).fio.drv[d].high = (drvSwitches s d).1 ∧ (showField s).fio.drv[d].low = (drvSwitches s d).2 := by
  have every : d ∈ allSocs := by fin_cases d <;> decide
  obtain ⟨shown, switches⟩ := shown_foldl_showDrv (s := allOuts.foldl (fun s o => showOut o s) s) (.inl every)
  rw [drvSwitches_foldl_showOut] at switches
  unfold Shown at shown
  rw [switches] at shown
  unfold showField
  simpa only [State.setBit_fio] using shown

theorem showField_contactorLapsed (s : State) : (showField s).isl.contactorLapsed = s.isl.contactorLapsed :=
  (keeps_showField s).same (.isl .contactorLapsed) rfl

/-- Without contactor enable both switches are off, in a switch test too. -/
theorem drvSwitches_of_disabled {s : State} (h : cdEnabled s = false) (d : SocId) : drvSwitches s d = (false, false) := by
  unfold drvSwitches
  rw [h]
  dsimp only
  split
  · split <;> rfl
  · rfl

/-- An unowned driver in order, unforced and untested, follows its kept command. -/
theorem drvSwitches_of_enabled {s : State} {d : SocId} (h : cdEnabled s = true) (unowned : socOwned s d = false)
    (unforced : s.fio.force = none) (sound : s.fio.drv[d].overc = false) (untested : s.saf.soc[d].test = none) :
    drvSwitches s d = (s.fio.drv[d].cmd, s.fio.drv[d].cmd) := by
  have wanted : drvWanted s d = s.fio.drv[d].cmd := by
    unfold drvWanted
    rw [unowned, unforced]
    rfl
  unfold drvSwitches
  rw [h, wanted, sound, untested]
  rfl

theorem contactorEnableLapse_switches {s : State} (alive : s.alive .abutment = true) :
    Completes .contactorEnableLapse s fun t => t.isl.contactorLapsed = true ∧
      ∀ d : SocId, t.fio.drv[d].high = false ∧ t.fio.drv[d].low = false := by
  refine ⟨_, congrArg Host.Outcome.next (State.on_of_alive alive _), showField_contactorLapsed _, fun d => ?_⟩
  have off : cdEnabled (s.modIsl fun x => { x with contactorLapsed := true }) = false := by simp [cdEnabled]
  have shown := showField_drv (s.modIsl fun x => { x with contactorLapsed := true }) d
  rwa [drvSwitches_of_disabled off] at shown

theorem contactorEnableReturn_switches {s : State} (alive : s.alive .abutment = true) (granted : s.isl.contactorEnable = true) :
    Completes .contactorEnableReturn s fun t => t.isl.contactorLapsed = false ∧ ∀ d : SocId, socOwned s d = false →
      s.fio.force = none → s.fio.drv[d].overc = false → s.saf.soc[d].test = none → t.fio.drv[d].high = s.fio.drv[d].cmd ∧
      t.fio.drv[d].low = s.fio.drv[d].cmd := by
  refine ⟨_, congrArg Host.Outcome.next ((State.on_of_alive alive _).trans (if_pos granted)), showField_contactorLapsed _, ?_⟩
  intro d unowned unforced sound untested
  have on : cdEnabled (s.modIsl fun x => { x with contactorLapsed := false }) = true := by
    simp [cdEnabled, granted, State.alive_modIsl, alive]
  have shown := showField_drv (s.modIsl fun x => { x with contactorLapsed := false }) d
  rwa [drvSwitches_of_enabled on unowned unforced sound untested] at shown

/-! ### Housekeeping data (R26) -/

theorem thermalShutdown_latch (ch : Nat) (datum : Rat) (s : State) : (thermalShutdown ch datum s).mod.thermalLatch = true := by
  unfold thermalShutdown
  split
  next latched => exact latched
  next => simp [demandLockout]

theorem thermalShutdown_sensor (ch : Nat) (datum : Rat) (s : State) : (thermalShutdown ch datum s).sup.sensor = s.sup.sensor :=
  (keeps_thermalShutdown ch datum s).same (.sup .sensor) rfl

theorem housekeepingDataLoss_broken {s : State} {since : Nat} (alive : s.alive .keystone = true) (fenced : s.isl.houseFencedAt = some since)
    (late : 48 * cyclesMs ≤ s.since since) : Completes .housekeepingDataLoss s fun t => t.mod.thermalLatch = true ∧
      ∀ c : TempId, t.sup.sensor[c].broken = true := by
  refine ⟨_, congrArg Host.Outcome.next (State.on_of_alive alive _), ?_⟩
  dsimp only
  rw [fenced]
  dsimp only
  rw [if_neg (Nat.not_lt.2 late)]
  constructor
  · rw [(keeps_showThermal _).same (.mod .thermalLatch) rfl, thermalShutdown_latch]
  · intro c
    rw [(keeps_showThermal _).same (.sup .sensor) rfl, thermalShutdown_sensor]
    simp

/-- Settles O11, command by command from the lemmas above. -/
theorem jointsAndPermissions : Obligations.JointsAndPermissions := by
  unfold Obligations.JointsAndPermissions
  refine ⟨?within, ?faulty, ?sound, ?poisoned, ?marker, ?report, ?lapse, ?returns, ?dataLoss⟩
  case within => exact fun s dev clock edge due sound => timeBroadcast_within clock edge due sound
  case faulty => exact fun s i d clock keystone due faulty ne => timeBroadcast_faulty clock keystone due faulty ne
  case sound => exact fun s src dst w alive sound => jointWordArrival_sound w alive sound
  case poisoned => exact fun s src dst w alive sound few => jointWordArrival_poisoned w alive sound few
  case marker => exact fun s src dst p w alive fenced => jointWordArrival_fenced p w alive fenced
  case report => exact fun s i why keystone ne => ⟨_, rfl, mem_fenced_fence keystone ne⟩
  case lapse => exact fun s alive => contactorEnableLapse_switches alive
  case returns => exact fun s alive granted => contactorEnableReturn_switches alive granted
  case dataLoss => exact fun s since alive fenced late => housekeepingDataLoss_broken alive fenced late

end Sys2Proof.Machine
end

section
/-!
PROOF. Commands at their destination (R17 to R21): at once, held until their instant, refused as implausible, or late.
-/

namespace Sys2Proof.Machine

/-! ### Arrival -/

/-- A command reaches its destination where this acts and, across the Clauz link, where the link is up. -/
theorem execCommandArrival_delivered {c : TimedCmd} {s : State} (link : c.viaLink = true → s.alive .link = true ∧ linkUp s = true)
    (alive : s.alive c.dst = true) : execCommandArrival c s = .next (arrive c s) := by
  unfold execCommandArrival
  rw [if_neg, State.on_of_alive alive]
  by_cases via : c.viaLink = true
  · simp [via, link via]
  · simp [via]

theorem arrive_of_no_instant {c : TimedCmd} (h : c.inst = none) (s : State) : arrive c s = takeEffect c 0 s := by
  unfold arrive
  rw [h]

theorem arrive_of_implausible {c : TimedCmd} {i : Nat} {s : State} (h : c.inst = some i)
    (far : s.replicaOf c.dst + 2147483648 < instantOf c s i) : arrive c s = countImplausible c.dst s := by
  unfold arrive
  rw [h]
  exact if_pos (by simpa [implausible] using far)

/-- An instant ahead, and not too far, for a command that waits at the island. -/
theorem arrive_of_ahead {c : TimedCmd} {i : Nat} {s : State} (h : c.inst = some i) (ahead : s.replicaOf c.dst < instantOf c s i)
    (near : instantOf c s i ≤ s.replicaOf c.dst + 2147483648) (waits : keepsOwnInstant c.body = false) (body : c.body ≠ .handover) :
    arrive c s = holdCmd { c with inst := some (instantOf c s i) } s := by
  have plausible : ¬implausible (s.replicaOf c.dst) (instantOf c s i) = true := by simpa [implausible] using near
  unfold arrive
  rw [h]
  dsimp only
  rw [if_neg plausible, if_neg (by simp [waits]), if_pos ahead, if_neg body]

/-- An instant that has passed, for a command of a class that waits for the destination's next boundary (R19, Table 1.5). -/
theorem arrive_of_late {c : TimedCmd} {i : Nat} {s : State} (h : c.inst = some i) (late : instantOf c s i ≤ s.replicaOf c.dst)
    (waits : waitsAtIsland c.body = true) (deferred : keepsOwnInstant c.body = false) (body : c.body ≠ .handover) :
    arrive c s = (noteLate { c with inst := some (instantOf c s i) } (s.replicaOf c.dst - instantOf c s i) s).modIsl fun x => { x with
      held := x.held ++ [⟨{ c with inst := some (nextBoundary { c with inst := some (instantOf c s i) }
        (noteLate { c with inst := some (instantOf c s i) } (s.replicaOf c.dst - instantOf c s i) s)) }, true⟩] } := by
  have plausible : ¬implausible (s.replicaOf c.dst) (instantOf c s i) = true := by simp only [implausible, decide_eq_true_eq]; omega
  unfold arrive
  rw [h]
  dsimp only
  rw [if_neg plausible, if_neg (by simp [deferred]), if_neg (Nat.not_lt.2 late), if_pos waits, if_neg body]

theorem holdCmd_unmet {c : TimedCmd} {s : State} (h : s.isl.held.find? (meets c) = none) :
    (holdCmd c s).isl.held = s.isl.held ++ [⟨c, false⟩] := by
  unfold holdCmd
  rw [h]
  rfl

/-! ### Taking effect -/

theorem takeEffect_of_untaken {c : TimedCmd} {s : State} (h : s.isl.lately.find? (takenNow s c) = none) (late : Nat) :
    takeEffect c late s = noteTaken c (applyCmd c late s) := by
  unfold takeEffect
  rw [h]

theorem takeEffect_of_taken {c : TimedCmd} {s : State} {x : Taken} (h : s.isl.lately.find? (takenNow s c) = some x)
    (first : comesFirst (x.src, x.channel) (c.src, c.channel) = true) (late : Nat) : takeEffect c late s = countRefused c.dst s := by
  unfold takeEffect
  rw [h]
  exact if_pos first

theorem takeEffect_held (c : TimedCmd) (late : Nat) (s : State) : (takeEffect c late s).isl.held = s.isl.held :=
  (keeps_takeEffect c late s).same (.isl .held) rfl

theorem fieldOut_held (o : DoId) (on : Bool) (late : Nat) (s : State) : (fieldOut o on late s).isl.held = s.isl.held :=
  (keeps_fieldOut o on late s).same (.isl .held) rfl

/-- R430: an output takes its command. -/
theorem fieldOut_cmd {s : State} (alive : s.alive .abutment = true) (o : DoId) (on : Bool) (late : Nat) :
    (fieldOut o on late s).fio.out[o].cmd = on := by
  unfold fieldOut
  rw [if_neg (by simp [alive]), showOut_fio, noteLateness_out, State.modDo_fio]
  dsimp only
  rw [vset_self]

/-- The command FIELD_OUT at the abutment. -/
def fieldOutAt (src : Source) (ch : Nat) (inst : Option Nat) (o : DoId) (on : Bool) : TimedCmd :=
  ⟨.abutment, src, ch, false, inst, .fieldOutput o on⟩

theorem takeEffect_fieldOut {s : State} {src : Source} {ch : Nat} {inst : Option Nat} {o : DoId} {on : Bool}
    (alive : s.alive .abutment = true) (h : s.isl.lately.find? (takenNow s (fieldOutAt src ch inst o on)) = none) (late : Nat) :
    (takeEffect (fieldOutAt src ch inst o on) late s).fio.out[o].cmd = on := by
  rw [takeEffect_of_untaken h]
  exact fieldOut_cmd alive o on late

/-! ### Arriving commands, class by class -/

theorem commandArrival_fieldOut {s : State} {src : Source} {ch : Nat} {o : DoId} {on : Bool} (alive : s.alive .abutment = true)
    (h : s.isl.lately.find? (takenNow s (fieldOutAt src ch none o on)) = none) :
    Completes (.commandArrival (fieldOutAt src ch none o on)) s fun t => t.fio.out[o].cmd = on ∧ t.isl.held = s.isl.held := by
  refine ⟨_, execCommandArrival_delivered nofun alive, ?_⟩
  rw [arrive_of_no_instant rfl]
  exact ⟨takeEffect_fieldOut alive h 0, takeEffect_held _ _ _⟩

theorem commandArrival_refused {s : State} {src : Source} {ch : Nat} {o : DoId} {on : Bool} {x : Taken} (alive : s.alive .abutment = true)
    (h : s.isl.lately.find? (takenNow s (fieldOutAt src ch none o on)) = some x) (first : comesFirst (x.src, x.channel) (src, ch) = true) :
    Completes (.commandArrival (fieldOutAt src ch none o on)) s fun t => t.fio = s.fio ∧
      t.isl.refused = countIn s.isl.refused .abutment := by
  refine ⟨_, execCommandArrival_delivered nofun alive, ?_⟩
  rw [arrive_of_no_instant rfl, takeEffect_of_taken h first]
  exact ⟨rfl, rfl⟩

theorem commandArrival_held {s : State} {c : TimedCmd} {i : Nat} (link : c.viaLink = true → s.alive .link = true ∧ linkUp s = true)
    (alive : s.alive c.dst = true) (h : c.inst = some i) (ahead : s.replicaOf c.dst < instantOf c s i)
    (near : instantOf c s i ≤ s.replicaOf c.dst + 2147483648) (waits : keepsOwnInstant c.body = false) (body : c.body ≠ .handover)
    (unmet : s.isl.held.find? (meets { c with inst := some (instantOf c s i) }) = none) :
    Completes (.commandArrival c) s fun t => t.isl.held = s.isl.held ++ [⟨{ c with inst := some (instantOf c s i) }, false⟩] := by
  refine ⟨_, execCommandArrival_delivered link alive, ?_⟩
  rw [arrive_of_ahead h ahead near waits body]
  exact holdCmd_unmet unmet

theorem commandArrival_implausible {s : State} {c : TimedCmd} {i : Nat}
    (link : c.viaLink = true → s.alive .link = true ∧ linkUp s = true) (alive : s.alive c.dst = true) (h : c.inst = some i)
    (far : s.replicaOf c.dst + 2147483648 < instantOf c s i) :
    Completes (.commandArrival c) s fun t => t.isl.held = s.isl.held ∧ t.isl.implausible = countIn s.isl.implausible c.dst := by
  refine ⟨_, execCommandArrival_delivered link alive, ?_⟩
  rw [arrive_of_implausible h far]
  exact ⟨rfl, rfl⟩

theorem commandArrival_lateParam {s : State} {n : StageId} (src : Source) (ch : Nat) {i : Nat} (key : Nat) (v : Val)
    (alive : s.alive (.pier n) = true) (late : i ≤ s.replicaOf (.pier n)) :
    Completes (.commandArrival ⟨.pier n, src, ch, false, some i, .paramWrite n key v⟩) s fun t => t.isl.held = s.isl.held ++
      [⟨⟨.pier n, src, ch, false, some (s.pie[n].t0 + s.tu n), .paramWrite n key v⟩, true⟩] ∧ t.commitWrites = s.commitWrites := by
  refine ⟨_, execCommandArrival_delivered nofun alive, ?_⟩
  rw [arrive_of_late (c := ⟨.pier n, src, ch, false, some i, .paramWrite n key v⟩) rfl late rfl rfl nofun]
  exact ⟨rfl, rfl⟩

theorem commandArrival_lateAnchor {s : State} {n : StageId} (src : Source) (ch : Nat) {i : Nat} (alive : s.alive (.pier n) = true)
    (inv : Inv s) (late : i < s.replicaOf (.pier n)) (room : s.hasRoom 1 = true) :
    Completes (.commandArrival ⟨.pier n, src, ch, false, some i, .anchorStep n⟩) s fun t =>
      t.objN (Obj.SHR_ANCHOR_LATE n) = s.objN (Obj.SHR_ANCHOR_LATE n) + 1 ∧
      newEvent s t 0x2104 [n.val, s.replicaOf (.pier n) - i] = true := by
  refine ⟨_, execCommandArrival_delivered nofun alive, ?_⟩
  rw [arrive_of_late (c := ⟨.pier n, src, ch, false, some i, .anchorStep n⟩) rfl (Nat.le_of_lt late) rfl rfl nofun]
  have room' : (s.bump (Obj.SHR_ANCHOR_LATE n)).hasRoom 1 = true := hasRoom_eq room rfl
  have data : [(n.val : Rat), (s.replicaOf (.pier n) : Rat) - i] = [(n.val : Rat), ((s.replicaOf (.pier n) - i : Nat) : Rat)] := by
    rw [Nat.cast_sub (Nat.le_of_lt late)]
  constructor
  · refine Eq.trans ?_ (State.objN_bump inv.objs (Obj.SHR_ANCHOR_LATE n))
    exact congrArg (fun v : Val => v.toInt.toNat) (State.obj_congr (State.log_objs room' _ _) _)
  · rw [data]
    exact newEvent_congr rfl (newEvent_log room' (le_refl _) rfl)

/-! ### Instants that the replica has reached (R17) -/

/-- What a due command does at its instant. -/
def takeHeld (s : State) (h : Held) : State := if h.cmd.body = .handover then s else takeEffect h.cmd 0 s

theorem takeHeld_held (s : State) (h : Held) : (takeHeld s h).isl.held = s.isl.held := by
  unfold takeHeld
  split
  · rfl
  · exact takeEffect_held _ _ _

theorem foldl_takeHeld_held (l : List Held) (s : State) : (l.foldl takeHeld s).isl.held = s.isl.held := by
  induction l generalizing s with
  | nil => rfl
  | cons h l ih => exact (ih (takeHeld s h)).trans (takeHeld_held s h)

/-- The due commands leave the queue and then take effect in their order. -/
theorem execEffectiveInstantReached_eq {s : State} {dst : Island} (alive : s.alive dst = true) :
    execEffectiveInstantReached dst s = .next ((s.isl.held.filter (heldDue s dst)).foldl takeHeld
      (s.modIsl fun x => { x with held := x.held.filter fun h => !heldDue s dst h })) :=
  congrArg Host.Outcome.next (State.on_of_alive alive _)

theorem effectiveInstantReached_held {s : State} {dst : Island} (alive : s.alive dst = true) :
    Completes (.effectiveInstantReached dst) s fun t => t.isl.held = s.isl.held.filter fun h => !heldDue s dst h :=
  ⟨_, execEffectiveInstantReached_eq alive, foldl_takeHeld_held _ _⟩

theorem effectiveInstantReached_fieldOut {s : State} {src : Source} {ch i : Nat} {o : DoId} {on : Bool}
    (alive : s.alive .abutment = true) (held : s.isl.held = [⟨fieldOutAt src ch (some i) o on, false⟩]) (untaken : s.isl.lately = [])
    (due : i ≤ s.replicaOf .abutment) :
    Completes (.effectiveInstantReached .abutment) s fun t => t.isl.held = [] ∧ t.fio.out[o].cmd = on := by
  have isDue : heldDue s .abutment ⟨fieldOutAt src ch (some i) o on, false⟩ = true := by simp [heldDue, fieldOutAt, due]
  refine ⟨_, execEffectiveInstantReached_eq alive, ?_⟩
  constructor
  · rw [foldl_takeHeld_held]
    simp [held, isDue]
  · rw [held, List.filter_cons_of_pos isDue]
    refine takeEffect_fieldOut ?_ ?_ 0
    · rw [State.alive_modIsl rfl, alive]
    · simp [untaken]

/-- Settles O10: the outcome of an arrival by its class, and the commands whose instants are reached. -/
theorem instantBoundCommands : Obligations.InstantBoundCommands := by
  unfold Obligations.InstantBoundCommands
  refine ⟨?atOnce, ?refused, ?held, ?implausible, ?lateParam, ?lateAnchor, ?reached, ?fieldOut⟩
  case atOnce => exact fun s src ch o on alive untaken => commandArrival_fieldOut alive untaken
  case refused => exact fun s src ch o on x alive taken first => commandArrival_refused alive taken first
  case held => exact fun s c i link alive h ahead near waits body unmet => commandArrival_held link alive h ahead near waits body unmet
  case implausible => exact fun s c i link alive h far => commandArrival_implausible link alive h far
  case lateParam => exact fun s n src ch i key v alive late => commandArrival_lateParam src ch key v alive late
  case lateAnchor => exact fun s n src ch i alive inv late room => commandArrival_lateAnchor src ch alive inv late room
  case reached => exact fun s dst alive => effectiveInstantReached_held alive
  case fieldOut => exact fun s src ch i o on alive held untaken due => effectiveInstantReached_fieldOut alive held untaken due

end Sys2Proof.Machine
end

section
/-!
PROOF. The mode machine (chapter 2): the state after reset, and what moves the mode and ends SAFE.
-/

namespace Sys2Proof.Machine

/-! ### What moves the mode, and what ends SAFE -/

/-- A footprint that holds the mode is that of a command of `mayMoveMode`. -/
theorem footprint_mode (c : Instr) : ((footprint c).testBit (Part.mod .mode).bit && !mayMoveMode c) = false := by
  cases c <;> (dsimp only [footprint, mayMoveMode]; rfl)

/-- A footprint with which a stage in SAFE may leave it is that of a command of `mayEndSafe`. -/
theorem footprint_safe (c : Instr) : ((footprint c).testBit Part.safe.bit && !mayEndSafe c) = false := by
  cases c <;> (dsimp only [footprint, mayEndSafe]; rfl)

theorem mayMoveMode_of_mode_moved {c : Instr} {s t : State} (h : exec c s = .next t) (moved : t.mod.mode ≠ s.mod.mode) :
    mayMoveMode c = true := by
  have bit : (footprint c).testBit (Part.mod .mode).bit = true := testBit_footprint_of_not_same h moved
  simpa [bit] using footprint_mode c

theorem mayEndSafe_of_safe_ended {c : Instr} {s t : State} {n : StageId} (h : exec c s = .next t) (safe : s.stg[n].st = .safe)
    (ended : t.stg[n].st ≠ .safe) : mayEndSafe c = true := by
  have bit : (footprint c).testBit Part.safe.bit = true := testBit_footprint_of_not_same h fun keep => ended (keep n safe)
  simpa [bit] using footprint_safe c

theorem tick_mod (s : State) : (tick s).mod = s.mod := by
  obtain ⟨m, e⟩ := tick_keeps s
  rw [e]

theorem tick_stg (s : State) : (tick s).stg = s.stg := by
  obtain ⟨m, e⟩ := tick_keeps s
  rw [e]

/-- Settles O5: only the commands of `mayMoveMode` hold the mode in their footprint, and a core cycle leaves it. -/
theorem modeMovesOnlyBy : Obligations.ModeMovesOnlyBy := by
  unfold Obligations.ModeMovesOnlyBy
  intro s t h moved
  rcases step_cases h with ⟨-, rfl⟩ | ⟨c, rest, front, run⟩
  · rw [tick_mod] at moved
    exact absurd rfl moved
  · exact ⟨c, rest, front, mayMoveMode_of_mode_moved run moved⟩

/-- Settles O6: only with the commands of `mayEndSafe` does a footprint let a stage out of SAFE, and a core cycle moves no stage. -/
theorem safeEndsOnlyBy : Obligations.SafeEndsOnlyBy := by
  unfold Obligations.SafeEndsOnlyBy
  intro s t n h safe ended
  rcases step_cases h with ⟨-, rfl⟩ | ⟨c, rest, front, run⟩
  · rw [tick_stg] at ended
    exact absurd safe ended
  · exact ⟨c, rest, front, mayEndSafe_of_safe_ended run safe ended⟩

/-! ### The state after reset -/

/-- With nothing stored, an object reads its table's default. -/
theorem reset_obj {key : Nat} {v : Val} (dflt : defaultAt key = some v) : State.reset.obj key = v := by
  show (defaultAt key).getD _ = v
  rw [dflt, Option.getD_some]

theorem reset_stage_off (n : StageId) : State.reset.stg[n].st = .off := by
  show (Vector.replicate 4 StageCore.init)[n].st = .off
  rw [Fin.getElem_fin, Vector.getElem_replicate]
  rfl

/-- Settles O2: the fields of `State.reset` as they are written, and every object at its table's default. -/
theorem resetState : Obligations.ResetState := by
  unfold Obligations.ResetState
  exact ⟨rfl, rfl, rfl, rfl, reset_stage_off, rfl, rfl, rfl, rfl, rfl, rfl, rfl, rfl, rfl, fun _ _ dflt => reset_obj dflt⟩

end Sys2Proof.Machine
end

section
/-!
PROOF. The mode machine's transitions and its tick (R28 to R47): the mode that each entry leaves behind, what of the mode machine a tick's
steps leave alone, and MOD_COMMAND.
-/

namespace Sys2Proof.Machine

/-! ### The mode machine through a footprint -/

theorem ModField.eq_of_same {a b : ModesSt} (h : ∀ f : ModField, f.same a b) : b = a := by
  cases a
  cases b
  simp only [ModesSt.mk.injEq]
  exact ⟨h .mode, h .order, h .lockoutCause, h .lockoutPending, h .stopPending, h .enteredAt, h .cfgLoaded, h .calDone, h .holdupDone,
    h .restoreDone, h .diagQueue, h .cfgValid, h .powered, h .resetAsserted, h .imageStarted, h .charged, h .loadsStarted, h .link,
    h .thermalLatch, h .lastGfiCause⟩

/-- A footprint without a field of the mode machine leaves it alone. -/
theorem Keeps.mod {F : Nat} {s t : State} (h : Keeps F s t) (e : ∀ f : ModField, F.testBit f.bit = false) : t.mod = s.mod :=
  ModField.eq_of_same fun f => h.same (.mod f) (e f)

theorem Keeps.mode {F : Nat} {s t : State} (h : Keeps F s t) (e : F.testBit (Part.mod .mode).bit = false) : t.mod.mode = s.mod.mode :=
  h.same (.mod .mode) e

/-- What no step of a fold changes, the fold does not change. -/
theorem foldl_keeps {α β : Type} {get : State → β} {f : State → α → State} (h : ∀ s a, get (f s a) = get s) (l : List α) (s : State) :
    get (l.foldl f s) = get s := by
  induction l generalizing s with
  | nil => rfl
  | cons a l ih => exact (ih (f s a)).trans (h s a)

theorem foldl_mod {α : Type} {f : State → α → State} (h : ∀ s a, (f s a).mod = s.mod) (l : List α) (s : State) :
    (l.foldl f s).mod = s.mod := foldl_keeps h l s

theorem foldl_mode {α : Type} {f : State → α → State} (h : ∀ s a, (f s a).mod.mode = s.mod.mode) (l : List α) (s : State) :
    (l.foldl f s).mod.mode = s.mod.mode := foldl_keeps (get := fun s => s.mod.mode) h l s

@[simp] theorem endPulses_mod (n : StageId) (s : State) : (endPulses n s).mod = s.mod :=
  (keeps_endPulses n s).mod fun f => by cases f <;> rfl

@[simp] theorem stopEngine_mod (s : State) : (stopEngine s).mod = s.mod := (keeps_stopEngine s).mod fun f => by cases f <;> rfl

@[simp] theorem refreshPermissions_mod (s : State) : (refreshPermissions s).mod = s.mod :=
  (keeps_refreshPermissions s).mod fun f => by cases f <;> rfl

@[simp] theorem linkSend_mod (kind : Nat) (data : List Int) (s : State) : (linkSend kind data s).mod = s.mod :=
  (keeps_linkSend kind data s).mod fun f => by cases f <;> rfl

@[simp] theorem emcy_mod (e c u : Nat) (s : State) : (emcy e c u s).mod = s.mod :=
  (keeps_emcy e c u s).mod fun f => by cases f <;> rfl

/-! ### Entries -/

/-- After a mode change the module is in the mode it changed to (R28): what a change brings with it moves the mode no further. -/
theorem changeMode_mode (m : Mode) (s : State) : (changeMode m s).mod.mode = m := by
  unfold changeMode
  split
  next already => exact already
  next =>
    extract_lets old entered flushed taken unforced shown released ended
    have hFlushed : flushed.mod.mode = entered.mod.mode := by
      unfold flushed
      split
      · exact (keeps_flushWrites _).mode rfl
      · rfl
    have hTaken : taken.mod.mode = flushed.mod.mode := by
      unfold taken
      rw [(keeps_takeModeWrites _).mode rfl, State.log_mod, State.bump_mod]
    have hUnforced : unforced.mod.mode = taken.mod.mode := by
      unfold unforced
      rw [(keeps_rawSet _ _).mode rfl, foldl_mod fun s c => State.setBit_mod s (Obj.EDG_CH_STATUS c) 4 false]
    have hShown : shown.mod.mode = unforced.mod.mode := by
      unfold shown
      split
      · exact (keeps_showField _).mode rfl
      · rfl
    have hReleased : released.mod.mode = shown.mod.mode := by
      unfold released
      rw [foldl_mod fun s n => State.modStage_mod s n _]
    have hEnded : ended.mod.mode = released.mod.mode := by
      unfold ended
      split <;> rfl
    calc (refreshPermissions (showErrors (moveRails ended))).mod.mode
        = (showErrors (moveRails ended)).mod.mode := by rw [refreshPermissions_mod]
      _ = (moveRails ended).mod.mode := rfl
      _ = ended.mod.mode := (keeps_moveRails _).mode rfl
      _ = entered.mod.mode := by rw [hEnded, hReleased, hShown, hUnforced, hTaken, hFlushed]
      _ = m := rfl

/-- After entry into CHARGE the module is in CHARGE (R40): its checks move no mode. -/
theorem enterCharge_mode (s : State) : (enterCharge s).mod.mode = .charge := by
  unfold enterCharge
  extract_lets changed cleared claimed
  have hClaimed : claimed.mod.mode = cleared.mod.mode := by
    unfold claimed
    split
    · exact (keeps_showTwin _).mode rfl
    · rfl
  calc (chargeChecks claimed).mod.mode
      = claimed.mod.mode := (keeps_chargeChecks _).mode rfl
    _ = cleared.mod.mode := hClaimed
    _ = .charge := changeMode_mode _ _

/-- After entry into STOP the module is in STOP (R43). -/
theorem enterStop_mode (c : StopCause) (s : State) : (enterStop c s).mod.mode = .stop := by
  unfold enterStop
  extract_lets changed cleared stopped
  have hStopped : stopped.mod.mode = cleared.mod.mode := by
    unfold stopped
    rw [foldl_mode fun s n => (keeps_stopOne n c s).mode rfl]
  rw [(keeps_openSocs _).mode rfl, foldl_mode fun s n => (keeps_dropOrders n s).mode rfl, hStopped]
  exact changeMode_mode _ _

/-- After entry into SURVEY no lockout cause stands or waits (R38, R44). -/
theorem enterSurvey_mod (s : State) : (enterSurvey s).mod = { (changeMode .survey s).mod with
    lockoutCause := 0, lockoutPending := [], cfgLoaded := false, calDone := false, holdupDone := false, restoreDone := false,
    diagQueue := [] } := by
  simp only [enterSurvey, stopEngine_mod, State.setN_mod, State.modFio_mod, State.modMod_mod]

theorem enterSurvey_mode (s : State) : (enterSurvey s).mod.mode = .survey := by
  rw [enterSurvey_mod]
  exact changeMode_mode _ _

theorem bootSurvey_mode (s : State) : (bootSurvey s).mod.mode = .survey := by
  unfold bootSurvey
  extract_lets surveyed pending
  split
  · exact enterSurvey_mode s
  · rw [refreshPermissions_mod, State.log_mod, State.setBit_mod]
    exact enterSurvey_mode s

/-- After entry into LOCKOUT with a cause the module is in LOCKOUT, the cause stands, and no order waits (R44). -/
theorem enterLockout_mod (cause : Nat) (s : State) : (enterLockout cause s).mod.mode = .lockout ∧
    (enterLockout cause s).mod.lockoutCause = cause ∧ (enterLockout cause s).mod.order = none := by
  unfold enterLockout
  extract_lets left stopped changed caused untested unpulsed
  clear_value stopped
  have hChanged : changed.mod.mode = .lockout := changeMode_mode .lockout stopped
  clear_value changed
  have hCaused : caused.mod.mode = .lockout ∧ caused.mod.lockoutCause = cause ∧ caused.mod.order = none := ⟨hChanged, rfl, rfl⟩
  clear_value caused
  have hUnpulsed : unpulsed.mod = caused.mod := by
    unfold unpulsed untested
    rw [foldl_mod fun s n => endPulses_mod n s, foldl_mod fun s n => State.modStage_mod s n _]
  rw [linkSend_mod, emcy_mod, State.setN_mod, hUnpulsed]
  exact hCaused

/-! ### What a tick reads and watches -/

theorem demandStop_pending (c : StopCause) (s : State) : (demandStop c s).mod.stopPending ≠ none := by
  simp only [demandStop, State.modMod_mod]
  split <;> simp

theorem takeView_pending {s : State} (pending : s.mod.stopPending ≠ none) (v : Option PartnerView) :
    (takeView v s).mod.stopPending ≠ none := by
  unfold takeView
  split
  next => exact pending
  next v =>
    split
    next => exact pending
    next =>
      extract_lets shown
      split
      next => exact demandStop_pending _ _
      next =>
        have e : shown.mod.stopPending = s.mod.stopPending := (keeps_showTwin _).same (.mod .stopPending) rfl
        rwa [e]

theorem coverReview_pending {s : State} (pending : s.mod.stopPending ≠ none) : (coverReview s).mod.stopPending ≠ none := by
  unfold coverReview
  extract_lets closed shown seen proven tested demanded
  have hSeen : seen.mod = s.mod := by
    unfold seen
    split <;> rfl
  have hTested : tested.mod = s.mod := by
    unfold tested proven
    split
    · rw [State.setBit_mod, State.setBit_mod, State.log_mod, State.modSaf_mod, hSeen]
    · exact hSeen
  split
  · split
    · rwa [hTested]
    · exact demandStop_pending _ _
  · rwa [State.modSaf_mod, hTested]

theorem plausible_ssdJudge_stopPending (n : StageId) (s : State) :
    (plausible n (pierMeasure s n) (ssdJudge n s)).mod.stopPending = s.mod.stopPending :=
  calc _ = (ssdJudge n s).mod.stopPending := (keeps_plausible _ _ _).same (.mod .stopPending) rfl
    _ = s.mod.stopPending := (keeps_ssdJudge n s).same (.mod .stopPending) rfl

/-- A stop that waits still waits once the tick has watched (R43). -/
theorem watched_pending {s : State} (pending : s.mod.stopPending ≠ none) (k : TickIn) : (watched k s).mod.stopPending ≠ none := by
  unfold watched watchTick
  extract_lets linked lifted measured judged
  have hMeasured : measured.mod.stopPending = (takeView k.partner s).mod.stopPending := by
    exact foldl_keeps (get := fun s => s.mod.stopPending) (fun s n => (keeps_ssdMeasure n s).same (.mod .stopPending) rfl) allStages lifted
  have hJudged : judged.mod.stopPending = measured.mod.stopPending :=
    foldl_keeps (get := fun s => s.mod.stopPending) (fun s n => plausible_ssdJudge_stopPending n s) allStages measured
  have hReviewed : (permitReview (coverReview judged)).mod.stopPending = (coverReview judged).mod.stopPending :=
    (keeps_permitReview _).same (.mod .stopPending) rfl
  rw [refreshPermissions_mod, hReviewed]
  apply coverReview_pending
  rw [hJudged, hMeasured]
  exact takeView_pending pending _

/-- What the tick watches moves neither the mode nor the lockout causes that wait. -/
theorem watched_mode (k : TickIn) (s : State) : (watched k s).mod.mode = s.mod.mode :=
  ((keeps_watchTick k _).same (.mod .mode) rfl).trans ((keeps_takeView k.partner s).same (.mod .mode) rfl)

theorem watched_lockoutPending (k : TickIn) (s : State) : (watched k s).mod.lockoutPending = s.mod.lockoutPending :=
  ((keeps_watchTick k _).same (.mod .lockoutPending) rfl).trans ((keeps_takeView k.partner s).same (.mod .lockoutPending) rfl)

theorem watched_imageStarted (k : TickIn) (s : State) : (watched k s).mod.imageStarted = s.mod.imageStarted :=
  ((keeps_watchTick k _).same (.mod .imageStarted) rfl).trans ((keeps_takeView k.partner s).same (.mod .imageStarted) rfl)

theorem watched_twinMode (k : TickIn) (s : State) : (watched k s).twn.mode = s.twn.mode :=
  ((keeps_watchTick k _).same (.twn .mode) rfl).trans ((keeps_takeView k.partner s).same (.twn .mode) rfl)

theorem clockRuns_watched (k : TickIn) (s : State) : clockRuns (watched k s) = clockRuns s := by
  have pll : (watched k s).clk.pll = s.clk.pll :=
    ((keeps_watchTick k _).same (.clk .pll) rfl).trans ((keeps_takeView k.partner s).same (.clk .pll) rfl)
  rw [clockRuns, clockRuns, pll]

/-- A tick keeps the links it has read (R28). -/
theorem watchTick_link (k : TickIn) (s : State) : (watchTick k s).mod.link = k.link := by
  unfold watchTick
  extract_lets linked lifted measured judged
  have hMeasured : measured.mod.link = lifted.mod.link :=
    foldl_keeps (get := fun s => s.mod.link) (fun s n => (keeps_ssdMeasure n s).same (.mod .link) rfl) allStages lifted
  have hJudged : judged.mod.link = measured.mod.link :=
    foldl_keeps (get := fun s => s.mod.link) (fun s n => ((keeps_plausible n (pierMeasure s n) (ssdJudge n s)).same (.mod .link) rfl).trans
      ((keeps_ssdJudge n s).same (.mod .link) rfl)) allStages measured
  have hReviewed : (permitReview (coverReview judged)).mod.link = judged.mod.link :=
    ((keeps_permitReview _).same (.mod .link) rfl).trans ((keeps_coverReview _).same (.mod .link) rfl)
  rw [refreshPermissions_mod, hReviewed, hJudged, hMeasured]
  rfl

/-! ### The conditions of a tick (R30) -/

theorem lockoutTick_of_unlocked {s : State} (unlocked : s.mod.lockoutPending = []) : lockoutTick s = s := by
  simp only [lockoutTick, unlocked]

/-- The oldest cause takes the module to LOCKOUT, but that an incomplete stop lets an open discrepancy go first (R44, R363). -/
theorem lockoutTick_of_cause {s : State} {c : Nat} {rest : List Nat} (pending : s.mod.lockoutPending = c :: rest) (first : c ≠ 0x1004)
    (out : s.mod.mode ≠ .lockout) : (lockoutTick s).mod.mode = .lockout ∧ (lockoutTick s).mod.lockoutCause = c ∧
      (lockoutTick s).mod.order = none := by
  unfold lockoutTick
  rw [pending]
  dsimp only
  rw [if_neg (by simp [out]), if_neg fun both => first both.1]
  exact enterLockout_mod _ _

/-- With a cause waiting the module is in LOCKOUT after this step of the tick (R44). -/
theorem lockoutTick_mode (s : State) : lockoutTick s = s ∨ (lockoutTick s).mod.mode = .lockout := by
  unfold lockoutTick
  split
  next => exact .inl rfl
  next c rest pending =>
    extract_lets first
    split
    next => exact .inl rfl
    next => exact .inr (enterLockout_mod _ _).1

theorem tickConditions_of_lockout {s : State} (lockout : (lockoutTick s).mod.mode = .lockout) (before : Option PartnerView) :
    tickConditions before s = lockoutTick s := by
  unfold tickConditions
  rw [if_pos (by simp [lockout])]

theorem tickConditions_of_adit {s : State} (unlocked : lockoutTick s = s) (adit : s.mod.mode = .adit) (before : Option PartnerView) :
    tickConditions before s = if s.mod.imageStarted && clockRuns s then bootSurvey s else s := by
  unfold tickConditions
  rw [unlocked, if_neg (by simp [adit]), if_pos (by simp [adit])]

/-- A module in no pair goes by its own conditions (R29, R46, R47). -/
theorem tickConditions_of_alone {s : State} (unlocked : s.mod.lockoutPending = []) (alone : s.twn.mode = 0) (lockout : s.mod.mode ≠ .lockout)
    (adit : s.mod.mode ≠ .adit) (before : Option PartnerView) : tickConditions before s = ownTick s := by
  unfold tickConditions
  rw [lockoutTick_of_unlocked unlocked, if_neg (by simp [lockout]), if_neg (by simp [adit]),
    if_neg (by simp [isStandby, State.standby, isViaduct, alone])]

/-- From ADIT the conditions lead to SURVEY or LOCKOUT, or nowhere (R30). -/
theorem tickConditions_mode_of_adit {s : State} (adit : s.mod.mode = .adit) (before : Option PartnerView) :
    (tickConditions before s).mod.mode ∈ [Mode.adit, .survey, .lockout] := by
  rcases lockoutTick_mode s with unlocked | lockout
  · rw [tickConditions_of_adit unlocked adit]
    split
    · simp [bootSurvey_mode]
    · simp [adit]
  · rw [tickConditions_of_lockout lockout]
    simp [lockout]

/-- The run modes before STOP (Table 2.1). -/
theorem Mode.of_code {m : Mode} (low : 4 ≤ m.code) (high : m.code ≤ 9) :
    m = .charge ∨ m = .blackstart ∨ m = .sync ∨ m = .form ∨ m = .ride ∨ m = .coast := by
  cases m <;> simp [Mode.code] at low high ⊢

/-- A stop that waits takes the module from a run mode before STOP to STOP (R43). -/
theorem ownTick_of_stop {s : State} (pending : s.mod.stopPending ≠ none) (low : 4 ≤ s.mod.mode.code) (high : s.mod.mode.code ≤ 9) :
    (ownTick s).mod.mode = .stop := by
  obtain ⟨c, stop⟩ := Option.ne_none_iff_exists'.1 pending
  have demanded : stopDemanded s = some c := by simp only [stopDemanded, stop]
  have entered := enterStop_mode c s
  unfold ownTick
  rcases Mode.of_code low high with mode | mode | mode | mode | mode | mode <;> simp only [mode, demanded, entered]

/-! ### The commands of a tick (R28, R30) -/

theorem modRefused_mode (code abort : Nat) (s : State) : (modRefused code abort s).2.mod.mode = s.mod.mode :=
  (keeps_modRefused code abort s).mode rfl

theorem takeOrder_of_none {s : State} (unordered : s.mod.order = none) : takeOrder s = s := by
  simp only [takeOrder, unordered]

/-- In a mode in which no order is valid an order moves nothing (R30, Table 2.7). -/
theorem takeOrder_mode_of_invalid {s : State} (start : s.mod.mode ≠ .ready) (stop : stopValid s.mod.mode = false)
    (release : s.mod.mode ≠ .lockout) : (takeOrder s).mod.mode = s.mod.mode := by
  unfold takeOrder
  split
  next => rfl
  next o _ =>
    cases o with
    | start =>
      dsimp only
      rw [if_neg (by simp [startValid, start]), modRefused_mode, State.modMod_mod]
    | stop =>
      dsimp only
      rw [if_neg (by simp [stop]), modRefused_mode, State.modMod_mod]
    | release =>
      dsimp only
      rw [if_neg (by simp [releaseValid, release]), modRefused_mode, State.modMod_mod]

theorem takeOrder_start {s : State} (order : s.mod.order = some .start)
    (valid : startValid s.mod.mode (s.modMod fun m => { m with order := none }) = true) :
    takeOrder s = linkSend 47 [1] (enterCharge (s.modMod fun m => { m with order := none })) := by
  simp only [takeOrder, order]
  exact if_pos valid

theorem takeOrder_stop {s : State} (order : s.mod.order = some .stop) (valid : stopValid s.mod.mode = true) :
    takeOrder s = linkSend 47 [2] (enterStop .plain (s.modMod fun m => { m with order := none })) := by
  simp only [takeOrder, order]
  exact if_pos valid

theorem takeOrder_release {s : State} (order : s.mod.order = some .release)
    (valid : releaseValid s.mod.mode (s.modMod fun m => { m with order := none }) = true) :
    takeOrder s = enterSurvey (s.modMod fun m => { m with order := none }) := by
  simp only [takeOrder, order]
  exact if_pos valid

@[simp] theorem stageOrders_mod (n : StageId) (s : State) : (stageOrders n s).mod = s.mod :=
  (keeps_stageOrders n s).mod fun f => by cases f <;> rfl

theorem tickCommands_mod (s : State) : (tickCommands s).mod = (takeOrder s).mod := by
  unfold tickCommands
  extract_lets ordered
  split
  · rfl
  · exact foldl_keeps (get := State.mod) (fun s n => stageOrders_mod n s) allStages ordered

/-- After its conditions a tick moves the mode machine by the command ordered for it alone. -/
theorem modeTick_mod (k : TickIn) (s : State) : (modeTick k s).mod = (takeOrder (conditioned k s)).mod :=
  calc (modeTick k s).mod
      = (pairTick (tickCommands (conditioned k s))).mod := (keeps_emcyRelease _).mod fun f => by cases f <;> rfl
    _ = (tickCommands (conditioned k s)).mod := (keeps_pairTick _).mod fun f => by cases f <;> rfl
    _ = (takeOrder (conditioned k s)).mod := tickCommands_mod _

theorem modeTick_completes {k : TickIn} {s : State} {P : ModesSt → Prop} (alive : s.alive .keystone = true)
    (holds : P (takeOrder (conditioned k s)).mod) : Completes (.modeTick k) s fun t => P t.mod :=
  ⟨_, congrArg Host.Outcome.next (State.on_of_alive alive _), by show P (modeTick k s).mod; rwa [modeTick_mod]⟩

/-! ### An admitted write to a command object -/

/-- What the answer to a request leaves alone of what the statements about commands read. -/
structure Answered (t u : State) : Prop where
  mod : u.mod = t.mod
  stg : u.stg = t.stg
  shr : u.shr = t.shr
  logBuf : u.logBuf = t.logBuf

/-- An admitted write whose command is accepted: the command's effect, then the forward to a standby and the answer. -/
theorem dictReq_accepted {s t : State} {w : Writer} {key : Nat} {v : Val} (admitted : s.admits w key v = true)
    (effect : writeEffect w key v s = done (0, t)) : Answered t (dictReq w key v none s) := by
  obtain ⟨sent, forward⟩ := State.forward_shape t key (valInts v)
  obtain ⟨tx, objs, net, reply⟩ := State.reply_shape (t.forward key (valInts v)) w key 0
  have e : dictReq w key v none s = (t.forward key (valInts v)).reply w key 0 := by
    rw [dictReq_admitted admitted, effect, if_pos (.inl rfl)]
    rfl
  rw [e, reply, forward]
  exact ⟨rfl, rfl, rfl, rfl⟩

/-- A command that comes as an admitted write completes with its effect. -/
theorem admitted_completes {c : Instr} {s t : State} {w : Writer} {key : Nat} {v : Val} {P : State → Prop}
    (run : exec c s = .next (dictReq w key v none s)) (admitted : s.admits w key v = true) (effect : writeEffect w key v s = done (0, t))
    (holds : ∀ u, Answered t u → P u) : Completes c s P :=
  ⟨_, run, holds _ (dictReq_accepted admitted effect)⟩

/-! ### MOD_COMMAND (R40, R43, R44) -/

theorem writeEffect_modStart (w : Writer) (s : State) : writeEffect w Obj.MOD_COMMAND (.int 0x5A01) s = done (modStart w s) := rfl
theorem writeEffect_modStop (w : Writer) (s : State) : writeEffect w Obj.MOD_COMMAND (.int 0x5A02) s = done (modStop s) := rfl
theorem writeEffect_serviceRelease (w : Writer) (s : State) :
    writeEffect w Obj.MOD_COMMAND (.int 0x5A03) s = done (serviceRelease w s) := rfl

/-- An admitted command that its operation accepts as an order waits for the tick (R28). -/
theorem ordered_completes {c : Instr} {s t : State} {w : Writer} {v : Val} {o : ModeOrder}
    (run : exec c s = .next (dictReq w Obj.MOD_COMMAND v none s)) (admitted : s.admits w Obj.MOD_COMMAND v = true)
    (effect : writeEffect w Obj.MOD_COMMAND v s = done (orderMode o t)) : Completes c s fun t => t.mod.order = some o :=
  admitted_completes run admitted effect fun u a => by rw [a.mod, State.modMod_mod]

theorem modStart_ordered {s : State} {w : Writer} (commands : s.commands w = true)
    (valid : startValid (resultingMode (pairExamine s)) (pairExamine s) = true) :
    modStart w s = orderMode .start (pairExamine s) := by
  unfold modStart
  rw [if_neg (by simp [commands])]
  exact if_pos valid

theorem modStop_ordered {s : State} (valid : stopValid (resultingMode s) = true) : modStop s = orderMode .stop s := if_pos valid

theorem serviceRelease_ordered {s : State} {w : Writer} (access : serviceOk s w = true)
    (valid : releaseValid (resultingMode s) s = true) : serviceRelease w s = orderMode .release s := by
  unfold serviceRelease
  rw [if_neg (by simp [access]), if_pos valid]

/-! ### Timeouts (R42, R43) -/

/-- A lockout demanded after an event leaves the event in the buffer. -/
theorem newEvent_demandLockout {s t : State} {code cause : Nat} {data : List Rat} (h : newEvent s t code data = true) :
    newEvent s (demandLockout cause t) code data = true := newEvent_congr rfl h

theorem chargeTimeout_stops {s : State} (alive : s.alive .keystone = true) (charge : s.mod.mode = .charge)
    (unstopped : s.mod.stopPending = none) (late : s.objN Obj.MOD_CHARGE_TIMEOUT * cyclesMs ≤ s.since s.mod.enteredAt)
    (room : s.hasRoom 1 = true) :
    Completes (.chargeTimeout) s fun t => t.mod.stopPending = some .plain ∧ newEvent s t 0x1003 [uncharged s] = true := by
  refine ⟨_, congrArg Host.Outcome.next (State.on_of_alive alive _), ?_⟩
  dsimp only
  rw [if_neg (by simp [charge, unstopped, late])]
  constructor
  · simp only [demandStop, State.modMod_mod, State.log_mod, unstopped]
  · exact newEvent_congr rfl (newEvent_log room (le_refl _) rfl)

theorem stopTimeout_locks {s : State} (alive : s.alive .keystone = true) (stop : s.mod.mode = .stop) (undone : stopDone s = false)
    (first : 0x1004 ∉ s.mod.lockoutPending) (late : s.objN Obj.MOD_STOP_TIMEOUT * cyclesMs ≤ s.since s.mod.enteredAt)
    (room : s.hasRoom 1 = true) :
    Completes (.stopTimeout) s fun t => t.mod.lockoutPending = s.mod.lockoutPending ++ [0x1004] ∧
      ∃ data, newEvent s t 0x1004 data = true := by
  refine ⟨_, congrArg Host.Outcome.next (State.on_of_alive alive _), ?_⟩
  dsimp only
  rw [if_neg (by simp [stop, undone, first, late])]
  constructor
  · simp only [demandLockout, State.modMod_mod, State.log_mod]
  · exact ⟨_, newEvent_demandLockout (newEvent_log room (le_refl _) rfl)⟩

/-! ### The tick by its cases (R28, R30) -/

theorem conditioned_link (k : TickIn) (s : State) : (conditioned k s).mod.link = k.link := by
  have link : (tickConditions s.twn.view (watched k s)).mod.link = (watched k s).mod.link :=
    (keeps_tickConditions s.twn.view (watched k s)).same (.mod .link) rfl
  rw [conditioned, link, watched, watchTick_link]

theorem modeTick_links {s : State} (k : TickIn) (alive : s.alive .keystone = true) : Completes (.modeTick k) s fun t => t.mod.link = k.link := by
  have link : (takeOrder (conditioned k s)).mod.link = (conditioned k s).mod.link := (keeps_takeOrder _).same (.mod .link) rfl
  exact modeTick_completes (P := fun m => m.link = k.link) alive (link.trans (conditioned_link k s))

theorem modeTick_locks {s : State} (k : TickIn) {c : Nat} {rest : List Nat} (alive : s.alive .keystone = true) (out : s.mod.mode ≠ .lockout)
    (pending : s.mod.lockoutPending = c :: rest) (first : c ≠ 0x1004) :
    Completes (.modeTick k) s fun t => t.mod.mode = .lockout ∧ t.mod.lockoutCause = c := by
  obtain ⟨lockout, cause, order⟩ := lockoutTick_of_cause (s := watched k s) ((watched_lockoutPending k s).trans pending) first
    (by rwa [watched_mode])
  refine modeTick_completes (P := fun m => m.mode = .lockout ∧ m.lockoutCause = c) alive ?_
  rw [conditioned, tickConditions_of_lockout lockout, takeOrder_of_none order]
  exact ⟨lockout, cause⟩

theorem modeTick_surveys {s : State} (k : TickIn) (alive : s.alive .keystone = true) (adit : s.mod.mode = .adit)
    (unlocked : (watched k s).mod.lockoutPending = []) (image : s.mod.imageStarted = true) (clock : clockRuns s = true) :
    Completes (.modeTick k) s fun t => t.mod.mode = .survey := by
  refine modeTick_completes (P := fun m => m.mode = .survey) alive ?_
  have survey : (conditioned k s).mod.mode = .survey := by
    rw [conditioned, tickConditions_of_adit (lockoutTick_of_unlocked unlocked) (by rwa [watched_mode]), watched_imageStarted, clockRuns_watched,
      if_pos (by simp [image, clock])]
    exact bootSurvey_mode _
  rw [takeOrder_mode_of_invalid (by simp [survey]) (by simp [survey, stopValid, Mode.code]) (by simp [survey]), survey]

theorem modeTick_stops {s : State} (k : TickIn) (alive : s.alive .keystone = true) (alone : s.twn.mode = 0) (low : 4 ≤ s.mod.mode.code)
    (high : s.mod.mode.code ≤ 9) (unlocked : (watched k s).mod.lockoutPending = []) (pending : s.mod.stopPending ≠ none) :
    Completes (.modeTick k) s fun t => t.mod.mode = .stop := by
  refine modeTick_completes (P := fun m => m.mode = .stop) alive ?_
  have stop : (conditioned k s).mod.mode = .stop := by
    rw [conditioned, tickConditions_of_alone unlocked ((watched_twinMode k s).trans alone)]
    · exact ownTick_of_stop (watched_pending pending k) (by rwa [watched_mode]) (by rwa [watched_mode])
    · rw [watched_mode]
      rintro mode
      simp [mode, Mode.code] at high
    · rw [watched_mode]
      rintro mode
      simp [mode, Mode.code] at low
  rw [takeOrder_mode_of_invalid (by simp [stop]) (by simp [stop, stopValid, Mode.code]) (by simp [stop]), stop]

theorem modeTick_starts {s : State} (k : TickIn) (alive : s.alive .keystone = true) (order : (conditioned k s).mod.order = some .start)
    (valid : startValid (conditioned k s).mod.mode ((conditioned k s).modMod fun m => { m with order := none }) = true) :
    Completes (.modeTick k) s fun t => t.mod.mode = .charge ∧ t.mod.order = none := by
  refine modeTick_completes (P := fun m => m.mode = .charge ∧ m.order = none) alive ?_
  rw [takeOrder_start order valid, linkSend_mod]
  exact ⟨enterCharge_mode _, (keeps_enterCharge _).same (.mod .order) rfl⟩

theorem modeTick_takes_stop {s : State} (k : TickIn) (alive : s.alive .keystone = true) (order : (conditioned k s).mod.order = some .stop)
    (valid : stopValid (conditioned k s).mod.mode = true) :
    Completes (.modeTick k) s fun t => t.mod.mode = .stop ∧ t.mod.order = none := by
  refine modeTick_completes (P := fun m => m.mode = .stop ∧ m.order = none) alive ?_
  rw [takeOrder_stop order valid, linkSend_mod]
  exact ⟨enterStop_mode _ _, (keeps_enterStop _ _).same (.mod .order) rfl⟩

theorem modeTick_releases {s : State} (k : TickIn) (alive : s.alive .keystone = true) (order : (conditioned k s).mod.order = some .release)
    (valid : releaseValid (conditioned k s).mod.mode ((conditioned k s).modMod fun m => { m with order := none }) = true) :
    Completes (.modeTick k) s fun t => t.mod.mode = .survey ∧ t.mod.lockoutCause = 0 ∧ t.mod.lockoutPending = [] := by
  refine modeTick_completes (P := fun m => m.mode = .survey ∧ m.lockoutCause = 0 ∧ m.lockoutPending = []) alive ?_
  rw [takeOrder_release order valid]
  exact ⟨enterSurvey_mode _, by rw [enterSurvey_mod], by rw [enterSurvey_mod]⟩

/-- Settles O13: a tick moves the mode machine by its conditions and then by the order it takes, and an accepted command is such an order. -/
theorem modeCommandsAndTick : Obligations.ModeCommandsAndTick := by
  unfold Obligations.ModeCommandsAndTick
  refine ⟨?links, ?lockout, ?survey, ?stop, ?orderStart, ?orderStop, ?orderRelease, ?start, ?stopCommand, ?release, ?charge, ?stopTime⟩
  case links => exact fun s k alive => modeTick_links k alive
  case lockout => exact fun s k c rest alive out pending first => modeTick_locks k alive out pending first
  case survey => exact fun s k alive adit unlocked image clock => modeTick_surveys k alive adit unlocked image clock
  case stop => exact fun s k alive alone low high unlocked pending => modeTick_stops k alive alone low high unlocked pending
  case orderStart => exact fun s k alive order valid => modeTick_starts k alive order valid
  case orderStop => exact fun s k alive order valid => modeTick_takes_stop k alive order valid
  case orderRelease => exact fun s k alive order valid => modeTick_releases k alive order valid
  case start =>
    intro s w admitted commands valid
    exact ordered_completes rfl admitted ((writeEffect_modStart w s).trans (congrArg done (modStart_ordered commands valid)))
  case stopCommand =>
    intro s w admitted valid
    exact ordered_completes rfl admitted ((writeEffect_modStop w s).trans (congrArg done (modStop_ordered valid)))
  case release =>
    intro s w admitted access valid
    exact ordered_completes rfl admitted ((writeEffect_serviceRelease w s).trans (congrArg done (serviceRelease_ordered access valid)))
  case charge => exact fun s alive charge unstopped late room => chargeTimeout_stops alive charge unstopped late room
  case stopTime => exact fun s alive stop undone first late room => stopTimeout_locks alive stop undone first late room

end Sys2Proof.Machine
end

section
/-!
PROOF. The moves of a stage between its states (R34, R39, R65) and MOD_STAGE_CMD (R34, R37, R466): what each move writes into the
stages' states, and what an admitted write to a command object leaves of its effect.
-/

namespace Sys2Proof.Machine

/-! ### The stages' states through a footprint -/

theorem StgField.eq_of_same {a b : StageCore} (h : ∀ f : StgField, f.same a b) : b = a := by
  cases a
  cases b
  simp only [StageCore.mk.injEq]
  exact ⟨h .st, h .cause, h .diagPassed, h .diagDeferred, h .diagSince, h .heldStart, h .toArmed, h .toRun, h .toOff, h .lastLimit,
    h .graphOk, h .sinceEntry, h .pulsesEnd⟩

/-- A footprint without a field of the stages' states leaves every one of them alone. -/
theorem Keeps.stg {F : Nat} {s t : State} (h : Keeps F s t) (e : ∀ f : StgField, F.testBit f.bit = false) : t.stg = s.stg := by
  ext i lt : 1
  exact StgField.eq_of_same fun f => h.same (.stg f) (e f) ⟨i, lt⟩

@[simp] theorem socLeaves_stg (n : StageId) (s : State) : (socLeaves n s).stg = s.stg :=
  (keeps_socLeaves n s).stg fun f => by cases f <;> rfl

@[simp] theorem socOpenStage_stg (n : StageId) (s : State) : (socOpenStage n s).stg = s.stg :=
  (keeps_socOpenStage n s).stg fun f => by cases f <;> rfl

@[simp] theorem dropActivities_stg (n : StageId) (s : State) : (dropActivities n s).stg = s.stg :=
  (keeps_dropActivities n s).stg fun f => by cases f <;> rfl

@[simp] theorem sendDatagram_stg (n : StageId) (s : State) : (sendDatagram n s).stg = s.stg :=
  (keeps_sendDatagram n s).stg fun f => by cases f <;> rfl

@[simp] theorem emcy_stg (e c u : Nat) (s : State) : (emcy e c u s).stg = s.stg :=
  (keeps_emcy e c u s).stg fun f => by cases f <;> rfl

@[simp] theorem showErrors_stg (s : State) : (showErrors s).stg = s.stg :=
  (keeps_showErrors s).stg fun f => by cases f <;> rfl

@[simp] theorem errorsEnd_stg (s : State) : (errorsEnd s).stg = s.stg :=
  (keeps_errorsEnd s).stg fun f => by cases f <;> rfl

@[simp] theorem edgeSafe_stg (n : StageId) (s : State) : (edgeSafe n s).stg = s.stg :=
  (keeps_edgeSafe n s).stg fun f => by cases f <;> rfl

@[simp] theorem edgeUnsafe_stg (n : StageId) (s : State) : (edgeUnsafe n s).stg = s.stg :=
  (keeps_edgeUnsafe n s).stg fun f => by cases f <;> rfl

@[simp] theorem edgeIdle_stg (n : StageId) (s : State) : (edgeIdle n s).stg = s.stg :=
  (keeps_edgeIdle n s).stg fun f => by cases f <;> rfl

@[simp] theorem showDispatching_stg (n : StageId) (s : State) : (showDispatching n s).stg = s.stg :=
  (keeps_showDispatching n s).stg fun f => by cases f <;> rfl

@[simp] theorem refreshPermissions_stg (s : State) : (refreshPermissions s).stg = s.stg :=
  (keeps_refreshPermissions s).stg fun f => by cases f <;> rfl

@[simp] theorem cancelClaim_stg (n : StageId) (s : State) : (cancelClaim n s).stg = s.stg :=
  (keeps_cancelClaim n s).stg fun f => by cases f <;> rfl

/-! ### The moves -/

/-- Outside HALT and ADIT a stage that is not in SAFE enters it with the cause given (R34). -/
theorem stageSafe_stg {s : State} {n : StageId} (cause : Nat) (out : s.stg[n].st ≠ .safe) (halt : s.mod.mode ≠ .halt)
    (adit : s.mod.mode ≠ .adit) : (stageSafe n cause s).stg = s.stg.set n { s.stg[n] with
      st := .safe, cause := cause, heldStart := false, toArmed := false, toRun := false, toOff := false, diagSince := none,
      sinceEntry := 0, pulsesEnd := false } := by
  have enters : ¬(s.stageSt n = .safe ∨ s.mod.mode = .halt ∨ s.mod.mode = .adit) := not_or.2 ⟨out, not_or.2 ⟨halt, adit⟩⟩
  unfold stageSafe
  rw [if_neg enters]
  simp only [showDispatching_stg, edgeSafe_stg, showErrors_stg, emcy_stg, sendDatagram_stg, State.log_stg, apply_ite State.stg,
    State.modMod_stg, ite_self, State.setN_stg, State.modPier_stg, State.modStage_stg, dropActivities_stg, socLeaves_stg]

theorem stageOff_stg (n : StageId) (s : State) : (stageOff n s).stg = s.stg.set n { s.stg[n] with
    st := .off, heldStart := false, toArmed := false, toRun := false, toOff := false, sinceEntry := 0, pulsesEnd := false } := by
  simp only [stageOff, showDispatching_stg, edgeIdle_stg, State.modPier_stg, State.modStage_stg, dropActivities_stg, socOpenStage_stg]

theorem stageArm_stg (n : StageId) (s : State) : (stageArm n s).stg = s.stg.set n { s.stg[n] with
    st := .armed, toArmed := false, toOff := false, sinceEntry := 0, pulsesEnd := false } := by
  simp only [stageArm, toArmedState, edgeIdle_stg, showDispatching_stg, State.modPier_stg, State.modStage_stg, dropActivities_stg,
    socLeaves_stg]

/-- The event that is logged as a stage enters SAFE stays in the buffer, and the stage is in SAFE with its cause. -/
theorem stageSafe_logged {s u : State} {n : StageId} {code cause : Nat} {data : List Rat} (out : u.stg[n].st ≠ .safe)
    (halt : u.mod.mode ≠ .halt) (adit : u.mod.mode ≠ .adit) (room : u.hasRoom 1 = true) (seq : s.logSeq ≤ u.logSeq)
    (mt : u.isl.mt = s.isl.mt) :
    (stageSafe n cause (u.log code data)).stg = u.stg.set n { u.stg[n] with
      st := .safe, cause := cause, heldStart := false, toArmed := false, toRun := false, toOff := false, diagSince := none,
      sinceEntry := 0, pulsesEnd := false } ∧
    newEvent s (stageSafe n cause (u.log code data)) code data = true := by
  constructor
  · rw [stageSafe_stg cause (by rwa [State.log_stg]) (by rwa [State.log_mod]) (by rwa [State.log_mod]), State.log_stg]
  · exact newEvent_keeps (keeps_stageSafe n cause _) rfl (newEvent_log room seq mt)

/-! ### MOD_STAGE_CMD -/

theorem writeEffect_startStage (n : StageId) (w : Writer) (s : State) :
    writeEffect w (Obj.MOD_STAGE_CMD n.val) (.int 1) s = done (startStage n w s) := by
  match n with
  | 0 => rfl
  | 1 => rfl
  | 2 => rfl
  | 3 => rfl

theorem writeEffect_stopStage (n : StageId) (w : Writer) (s : State) :
    writeEffect w (Obj.MOD_STAGE_CMD n.val) (.int 2) s = done (stopStage n w s) := by
  match n with
  | 0 => rfl
  | 1 => rfl
  | 2 => rfl
  | 3 => rfl

theorem writeEffect_resetSafe (n : StageId) (w : Writer) (s : State) :
    writeEffect w (Obj.MOD_STAGE_CMD n.val) (.int 3) s = done (resetSafe n w s) := by
  match n with
  | 0 => rfl
  | 1 => rfl
  | 2 => rfl
  | 3 => rfl

/-! ### START_STAGE (R37, R203) -/

/-- What START_STAGE requires beside the stage's own state. -/
structure StartMet (s : State) (n : StageId) (w : Writer) : Prop where
  commands : s.commands w = true
  enabled : s.enabled n = true
  typed : s.stype n ≠ .none
  allowed : startAllowed (resultingMode s) s n = true
  acts : s.fenced (.pier n) = false
  power : overBudget s n (gateBudget s) = none

namespace StartMet

variable {s : State} {n : StageId} {w : Writer}

theorem startStage_armed (h : StartMet s n w) (st : s.stageSt n = .armed) :
    startStage n w s = (0, s.modStage n fun c => { c with toRun := true }) := by
  simp [startStage, h.commands, h.enabled, h.typed, h.allowed, h.acts, h.power, st]

theorem startStage_passed (h : StartMet s n w) (st : s.stageSt n = .off) (graph : s.stg[n].graphOk = true)
    (passed : s.stg[n].diagPassed = true) :
    startStage n w s = (0, s.modStage n fun c => { c with toArmed := true, toRun := true }) := by
  rw [Fin.getElem_fin] at graph passed
  simp [startStage, h.commands, h.enabled, h.typed, h.allowed, h.acts, h.power, st, graph, passed]

theorem startStage_untested (h : StartMet s n w) (st : s.stageSt n = .off) (graph : s.stg[n].graphOk = true)
    (untested : s.stg[n].diagPassed = false) :
    startStage n w s = (0, s.modStage n fun c => { c with heldStart := true }) := by
  rw [Fin.getElem_fin] at graph untested
  simp [startStage, h.commands, h.enabled, h.typed, h.allowed, h.acts, h.power, st, graph, untested]

theorem armed_orders_run (h : StartMet s n w) (admitted : s.admits w (Obj.MOD_STAGE_CMD n.val) (.int 1) = true)
    (st : s.stg[n].st = .armed) : Completes (.startStage n w) s fun t => t.stg[n].toRun = true := by
  have effect := (writeEffect_startStage n w s).trans (congrArg done (h.startStage_armed st))
  exact admitted_completes rfl admitted effect fun u a => by rw [a.stg, State.modStage_at, if_pos rfl]

theorem passed_orders_armed_and_run (h : StartMet s n w) (admitted : s.admits w (Obj.MOD_STAGE_CMD n.val) (.int 1) = true)
    (st : s.stg[n].st = .off) (graph : s.stg[n].graphOk = true) (passed : s.stg[n].diagPassed = true) :
    Completes (.startStage n w) s fun t => t.stg[n].toRun = true ∧ t.stg[n].toArmed = true := by
  have effect := (writeEffect_startStage n w s).trans (congrArg done (h.startStage_passed st graph passed))
  exact admitted_completes rfl admitted effect fun u a => by rw [a.stg, State.modStage_at, if_pos rfl]; exact ⟨rfl, rfl⟩

theorem untested_is_held (h : StartMet s n w) (admitted : s.admits w (Obj.MOD_STAGE_CMD n.val) (.int 1) = true)
    (st : s.stg[n].st = .off) (graph : s.stg[n].graphOk = true) (untested : s.stg[n].diagPassed = false) :
    Completes (.startStage n w) s fun t => t.stg[n].heldStart = true := by
  have effect := (writeEffect_startStage n w s).trans (congrArg done (h.startStage_untested st graph untested))
  exact admitted_completes rfl admitted effect fun u a => by rw [a.stg, State.modStage_at, if_pos rfl]

/-- What START_STAGE orders, by the stage's state and its diagnostics (R37). -/
theorem startStage_completes (h : StartMet s n w) (admitted : s.admits w (Obj.MOD_STAGE_CMD n.val) (.int 1) = true)
    (st : s.stg[n].st = .armed ∨ (s.stg[n].st = .off ∧ s.stg[n].graphOk = true)) :
    Completes (.startStage n w) s fun t => if s.stg[n].st = .off ∧ s.stg[n].diagPassed = false then t.stg[n].heldStart = true
      else t.stg[n].toRun = true ∧ (s.stg[n].st = .off → t.stg[n].toArmed = true) := by
  rcases st with armed | ⟨off, graph⟩
  · simpa only [armed, reduceCtorEq, false_and, if_false, false_implies, and_true] using h.armed_orders_run admitted armed
  · cases passed : s.stg[n].diagPassed with
    | true =>
      simpa only [off, reduceCtorEq, and_false, if_false, true_implies] using h.passed_orders_armed_and_run admitted off graph passed
    | false => simpa only [off, and_self, if_true] using h.untested_is_held admitted off graph passed

end StartMet

/-! ### STOP_STAGE (R466) -/

/-- A mode in which STOP_STAGE is allowed does not follow from ADIT (R30, Table 2.3). -/
theorem mode_ne_adit_of_stopAllowed {s : State} (allowed : stopAllowed (resultingMode s) = true) : s.mod.mode ≠ .adit := by
  intro adit
  have modes : resultingMode s ∈ [Mode.adit, .survey, .lockout] := tickConditions_mode_of_adit adit _
  simp only [List.mem_cons, List.not_mem_nil, or_false] at modes
  rcases modes with e | e | e <;> simp [e, stopAllowed, Mode.code] at allowed

theorem State.mode_ne_halt_of_alive {s : State} {i : Island} (alive : s.alive i = true) : s.mod.mode ≠ .halt := by
  rintro halt
  simp [State.alive, halt] at alive

theorem State.admits_house {s : State} {w : Writer} {key : Nat} {v : Val} (h : s.admits w key v = true) : s.alive .house = true := by
  simp only [State.admits, Bool.and_eq_true] at h
  exact h.1.1.2

theorem stopStage_running {s : State} {n : StageId} {w : Writer} (commands : s.commands w = true)
    (allowed : stopAllowed (resultingMode s) = true) (running : s.switching n = true) (hard : s.isSsd n = false) :
    stopStage n w s = (0, stageSafe n 0x1007 (s.log 0x1007 [n.val])) := by
  have st : s.stageSt n = .run ∨ s.stageSt n = .limit := by simpa [State.switching] using running
  rcases st with st | st <;> simp [stopStage, commands, allowed, st, hard]

theorem stopStage_armed {s : State} {n : StageId} {w : Writer} (commands : s.commands w = true)
    (allowed : stopAllowed (resultingMode s) = true) (st : s.stageSt n = .armed) :
    stopStage n w s = (0, (cancelClaim n s).modStage n fun c => { c with toOff := true, toRun := false }) := by
  simp [stopStage, commands, allowed, st]

theorem stopStage_waiting {s : State} {n : StageId} {w : Writer} (commands : s.commands w = true)
    (allowed : stopAllowed (resultingMode s) = true) (st : s.stageSt n = .off)
    (waiting : s.stg[n].heldStart = true ∨ s.stg[n].toArmed = true) :
    stopStage n w s = (0, s.modStage n fun c => { c with heldStart := false, toArmed := false, toRun := false }) := by
  rw [Fin.getElem_fin] at waiting
  simp [stopStage, commands, allowed, st, waiting]

theorem showClaim_shr (n : StageId) (s : State) : (showClaim n s).shr = s.shr := rfl

theorem cancelClaim_claim (n : StageId) (s : State) : (cancelClaim n s).shr[n].claim = .idle := by
  rw [cancelClaim, showClaim_shr, State.modShare_at, if_pos rfl]

theorem stopStage_safe {s : State} {n : StageId} {w : Writer} (admitted : s.admits w (Obj.MOD_STAGE_CMD n.val) (.int 2) = true)
    (commands : s.commands w = true) (allowed : stopAllowed (resultingMode s) = true) (running : s.switching n = true)
    (hard : s.isSsd n = false) (room : s.hasRoom 1 = true) :
    Completes (.stopStage n w) s fun t => t.stg[n].st = .safe ∧ t.stg[n].cause = 0x1007 ∧ newEvent s t 0x1007 [n.val] = true := by
  have out : s.stg[n].st ≠ .safe := by
    intro safe
    have st : s.stageSt n = .safe := safe
    simp [State.switching, st] at running
  obtain ⟨stages, event⟩ := stageSafe_logged (s := s) (code := 0x1007) (cause := 0x1007) (data := [(n.val : Rat)]) out
    (State.mode_ne_halt_of_alive (State.admits_house admitted)) (mode_ne_adit_of_stopAllowed allowed) room (le_refl _) rfl
  refine admitted_completes rfl admitted ((writeEffect_stopStage n w s).trans (congrArg done (stopStage_running commands allowed running hard)))
    fun u a => ?_
  rw [a.stg, stages, vset_self]
  exact ⟨rfl, rfl, newEvent_congr a.logBuf event⟩

theorem stopStage_orders_off {s : State} {n : StageId} {w : Writer} (admitted : s.admits w (Obj.MOD_STAGE_CMD n.val) (.int 2) = true)
    (commands : s.commands w = true) (allowed : stopAllowed (resultingMode s) = true) (st : s.stg[n].st = .armed) :
    Completes (.stopStage n w) s fun t => t.stg[n].toOff = true ∧ t.stg[n].toRun = false ∧ t.shr[n].claim = .idle := by
  refine admitted_completes rfl admitted ((writeEffect_stopStage n w s).trans (congrArg done (stopStage_armed commands allowed st)))
    fun u a => ?_
  rw [a.stg, a.shr, State.modStage_at, if_pos rfl, State.modStage_shr]
  exact ⟨rfl, rfl, cancelClaim_claim n s⟩

theorem stopStage_cancels_start {s : State} {n : StageId} {w : Writer} (admitted : s.admits w (Obj.MOD_STAGE_CMD n.val) (.int 2) = true)
    (commands : s.commands w = true) (allowed : stopAllowed (resultingMode s) = true) (st : s.stg[n].st = .off)
    (waiting : s.stg[n].heldStart = true ∨ s.stg[n].toArmed = true) :
    Completes (.stopStage n w) s fun t => t.stg[n].heldStart = false ∧ t.stg[n].toArmed = false ∧ t.stg[n].toRun = false := by
  refine admitted_completes rfl admitted
    ((writeEffect_stopStage n w s).trans (congrArg done (stopStage_waiting commands allowed st waiting))) fun u a => ?_
  rw [a.stg, State.modStage_at, if_pos rfl]
  exact ⟨rfl, rfl, rfl⟩

/-! ### RESET_SAFE (R34) -/

/-- In a mode that allows it a stage whose cause is gone leaves SAFE for OFF, and its cause is cleared (Table 2.3, Table 2.4). -/
theorem resetSafe_accepted {s : State} {n : StageId} {w : Writer} (commands : s.commands w = true)
    (mode : resultingMode s = .ready ∨ resultingMode s = .blackstart ∨ resultingMode s = .sync ∨ resultingMode s = .form)
    (safe : s.stg[n].st = .safe) (acts : s.fenced (.pier n) = false) (gone : causePresent s n = false) :
    ∃ t, resetSafe n w s = (0, t) ∧ t.stg[n].st = .off ∧ t.stg[n].cause = 0 := by
  have st : s.stageSt n = .safe := safe
  unfold resetSafe
  extract_lets m allowed off cleared returned granted
  have hAllowed : allowed = true := by simpa [allowed, m, or_assoc] using mode
  have hOff : off.stg[n].st = .off := by
    unfold off
    rw [stageOff_stg, vset_self]
  clear_value off
  have hGranted : granted.stg = cleared.stg := by
    unfold granted returned
    rw [refreshPermissions_stg, State.log_stg, State.setN_stg, State.modSaf_stg]
  rw [if_neg (by simp [commands]), if_neg (by simp [hAllowed, st, acts, gone])]
  refine ⟨_, rfl, ?_⟩
  rw [errorsEnd_stg, hGranted, State.modStage_at, if_pos rfl]
  exact ⟨hOff, rfl⟩

/-- Settles O14: an accepted MOD_STAGE_CMD is its operation's move, and what it writes is the stage's own. -/
theorem stageCommands : Obligations.StageCommands := by
  unfold Obligations.StageCommands
  refine ⟨?start, ?stop, ?stopArmed, ?stopWaiting, ?reset⟩
  case start =>
    intro s n w admitted commands enabled typed allowed acts power st
    have met : StartMet s n w := ⟨commands, enabled, typed, allowed, acts, power⟩
    exact met.startStage_completes admitted st
  case stop => exact fun s n w admitted commands allowed running hard room => stopStage_safe admitted commands allowed running hard room
  case stopArmed => exact fun s n w admitted commands allowed st => stopStage_orders_off admitted commands allowed st
  case stopWaiting => exact fun s n w admitted commands allowed st waiting => stopStage_cancels_start admitted commands allowed st waiting
  case reset =>
    intro s n w admitted commands mode safe acts gone
    obtain ⟨t, accepted, off, cleared⟩ := resetSafe_accepted commands mode safe acts gone
    exact admitted_completes rfl admitted ((writeEffect_resetSafe n w s).trans (congrArg done accepted)) fun u a => by
      rw [a.stg]; exact ⟨off, cleared⟩

end Sys2Proof.Machine
end

section
/-!
PROOF. From power-up to READY (R30, R38, R39, R151, R215, R313, R392, R396): ADIT, the steps of SURVEY, and the off-state test.
-/

namespace Sys2Proof.Machine

theorem Keeps.lockoutPending {F : Nat} {s t : State} (h : Keeps F s t) (e : F.testBit (Part.mod .lockoutPending).bit = false) :
    t.mod.lockoutPending = s.mod.lockoutPending := h.same (.mod .lockoutPending) e

theorem demandLockout_mod (cause : Nat) (s : State) : (demandLockout cause s).mod = { s.mod with
    lockoutPending := s.mod.lockoutPending ++ [cause] } := rfl

theorem State.modStage_self (n : StageId) (f : StageCore → StageCore) (s : State) : (s.modStage n f).stg[n] = f s.stg[n] := vset_self _ _ _ _

/-! ### ADIT -/

@[simp] theorem readAbsence_mod (absence : Option Nat) (s : State) : (readAbsence absence s).mod = s.mod := by
  cases absence with
  | none => exact State.log_mod _ _ _
  | some n => rfl

@[simp] theorem readAbsence_clk (absence : Option Nat) (s : State) : (readAbsence absence s).clk = s.clk := by
  cases absence with
  | none => exact State.log_clk _ _ _
  | some n => rfl

@[simp] theorem readAbsence_twn (absence : Option Nat) (s : State) : (readAbsence absence s).twn = s.twn := by
  cases absence with
  | none => exact State.log_twn _ _ _
  | some n => rfl

@[simp] theorem showTwin_mod (s : State) : (showTwin s).mod = s.mod := rfl
@[simp] theorem showTwin_clk (s : State) : (showTwin s).clk = s.clk := rfl
@[simp] theorem showTwin_twn (s : State) : (showTwin s).twn = s.twn := rfl
@[simp] theorem showClocks_mod (s : State) : (showClocks s).mod = s.mod := rfl
@[simp] theorem showClocks_clk (s : State) : (showClocks s).clk = s.clk := rfl
@[simp] theorem showClocks_twn (s : State) : (showClocks s).twn = s.twn := rfl

/-- R30, R278, R402: ADIT is entered from HALT, the PLLs are on, both own references count as sound, and the designation is read. -/
theorem aditEntry_enters {s : State} (absence : Option Nat) (primary : Bool) (halt : s.mod.mode = .halt) (powered : s.mod.powered = true)
    (released : s.mod.resetAsserted = false) :
    Completes (.aditEntry absence primary) s fun t => t.mod.mode = .adit ∧ t.clk.pllOn = true ∧ t.clk.refOk[(0 : Fin 3)] = true ∧
      t.clk.refOk[(1 : Fin 3)] = true ∧ t.twn.primary = primary := by
  refine ⟨_, rfl, ?_⟩
  rw [if_neg (by simp [halt, powered, released])]
  extract_lets adit clocked paired
  have mode : adit.mod.mode = .adit := changeMode_mode .adit s
  clear_value adit
  simp only [showTwin_mod, showTwin_clk, showTwin_twn, showClocks_mod, showClocks_clk, showClocks_twn, readAbsence_mod, readAbsence_clk,
    readAbsence_twn]
  exact ⟨mode, rfl, by simp [paired, clocked], by simp [paired, clocked], rfl⟩

theorem aditPllTimeout_locks {s : State} (adit : s.mod.mode = .adit) (clock : clockRuns s = false) (first : 0x1011 ∉ s.mod.lockoutPending)
    (room : s.hasRoom 1 = true) :
    Completes (.aditPllTimeout) s fun t => t.mod.lockoutPending = s.mod.lockoutPending ++ [0x1011] ∧ newEvent s t 0x1011 [2] = true := by
  refine ⟨_, rfl, ?_⟩
  rw [if_pos (by simp [adit, clock, first])]
  constructor
  · rw [demandLockout_mod, State.log_mod]
  · exact newEvent_demandLockout (newEvent_log room (le_refl _) rfl)

/-! ### Images (R396) -/

/-- An image that runs counts as started, and its graph package stands verified (R151). -/
theorem runImage_verified (slot : Nat) (i : ImageFacts) (progOk : Bool) (s : State) :
    (runImage slot i progOk s).mod.imageStarted = true ∧ (runImage slot i progOk s).nvs.package = some i.graphs := by
  unfold runImage
  extract_lets shown packed ok noted valid
  have hNoted : noted.nvs = packed.nvs := by
    unfold noted
    split
    · exact State.log_nvs _ _ _
    · rfl
  have hValid : valid.nvs.package = some i.graphs := by
    have kept : valid.nvs.package = noted.nvs.package := (keeps_showLogic _).same (.nvs .package) rfl
    rw [kept, hNoted]
    rfl
  exact ⟨rfl, hValid⟩

/-- The shown results of verification leave the preferred image. -/
theorem bootPref_setN_imageState (s : State) (n : Nat) : (s.setN Obj.NVS_IMAGE_STATE n).objN Obj.NVS_BOOT_PREF = s.objN Obj.NVS_BOOT_PREF :=
  (Keeps.setN (F := 2 ^ (Part.obj .NVS_IMAGE_STATE).bit) .NVS_IMAGE_STATE group_NVS_IMAGE_STATE rfl n (Keeps.refl s)).objN _
    (by decide +kernel) rfl

theorem imageFault_congr {s t : State} (h : t.nvs = s.nvs) (i : ImageFacts) : imageFault t i = imageFault s i := by
  rw [imageFault, imageFault, h]

/-- What verification requires: ADIT, a house island that acts, no image started or refused. -/
structure VerifyMet (s : State) : Prop where
  adit : s.mod.mode = .adit
  unstarted : s.mod.imageStarted = false
  house : s.alive .house = true
  first : 0x1011 ∉ s.mod.lockoutPending

namespace VerifyMet

variable {s : State} {imgA imgB : ImageFacts}

theorem tries_preferred (h : VerifyMet s) (progOk : Bool)
    (sound : imageFault s (if s.objN Obj.NVS_BOOT_PREF % 2 = 0 then imgA else imgB) = 0) :
    ∃ slot u, execImageVerified imgA imgB progOk s =
      .next (runImage slot (if s.objN Obj.NVS_BOOT_PREF % 2 = 0 then imgA else imgB) progOk u) := by
  unfold execImageVerified
  rw [if_neg (by simp [h.adit, h.unstarted, h.house, h.first])]
  extract_lets shown first facts try_ tried
  have preferred : facts first = if s.objN Obj.NVS_BOOT_PREF % 2 = 0 then imgA else imgB := by
    simp only [facts, first, shown, bootPref_setN_imageState]
  rw [← preferred] at sound ⊢
  have tried_first : imageFault shown (facts first) = 0 := sound
  exact ⟨first, shown, by rw [if_pos tried_first]⟩

theorem runs_preferred (h : VerifyMet s) (progOk : Bool)
    (sound : imageFault s (if s.objN Obj.NVS_BOOT_PREF % 2 = 0 then imgA else imgB) = 0) :
    Completes (.imageVerified imgA imgB progOk) s fun t => t.mod.imageStarted = true ∧
      t.nvs.package = some (if s.objN Obj.NVS_BOOT_PREF % 2 = 0 then imgA else imgB).graphs := by
  obtain ⟨slot, u, run⟩ := h.tries_preferred progOk sound
  exact ⟨_, run, runImage_verified _ _ _ _⟩

theorem locks_without_image (h : VerifyMet s) (progOk : Bool) (badA : imageFault s imgA ≠ 0) (badB : imageFault s imgB ≠ 0) :
    Completes (.imageVerified imgA imgB progOk) s fun t => t.mod.imageStarted = false ∧
      t.mod.lockoutPending = s.mod.lockoutPending ++ [0x1011] := by
  refine ⟨_, rfl, ?_⟩
  rw [if_neg (by simp [h.adit, h.unstarted, h.house, h.first])]
  extract_lets shown first facts try_ tried
  have bad : ∀ (t : State) (k : Nat), t.nvs = s.nvs → imageFault t (facts k) ≠ 0 := by
    intro t k same
    rw [imageFault_congr same]
    by_cases slot : k = 0
    · simpa [facts, slot] using badA
    · simpa [facts, slot] using badB
  rw [if_neg (bad shown first rfl), if_neg (bad tried (1 - first) (State.log_nvs _ _ _))]
  simp only [demandLockout_mod, State.log_mod, tried, try_, shown, State.setN_mod, h.unstarted, and_self]

end VerifyMet

/-! ### Loading the configuration (R38, R151, R390) -/

/-- A pier that loads or rejects its graph writes to the state of its own stage alone. -/
theorem sameBut_loadGraph (n : StageId) (g : GraphSpec) (s : State) : SameBut (·.stg) n s (loadGraph n g s) := by
  unfold loadGraph
  extract_lets reason cleared dropped refused caused loaded granted uncaused shown
  have hRefused : SameBut (·.stg) n s refused := .of_set rfl
  have hCaused : SameBut (·.stg) n s caused := .ite hRefused (hRefused.trans (.of_set rfl))
  have hGranted : SameBut (·.stg) n s granted := .of_set rfl
  have hUncaused : SameBut (·.stg) n s uncaused := .ite hGranted (hGranted.trans (.of_set rfl))
  exact .ite (hCaused.andThen (State.log_stg _ _ _)) (hUncaused.andThen rfl)

/-- A graph beyond the limits leaves its stage without a graph (R151). -/
theorem loadGraph_beyond_limits {g : GraphSpec} (beyond : g.fits = false ∨ maxInstances < g.blocks.length) (n : StageId) (s : State) :
    (loadGraph n g s).stg[n].graphOk = false := by
  unfold loadGraph
  extract_lets reason cleared dropped refused caused loaded granted uncaused shown
  have rejected : reason ≠ 0 := by
    have limits : (!g.fits || decide (maxInstances < g.blocks.length)) = true := by simpa using beyond
    unfold reason
    rw [if_pos limits]
    split <;> decide
  have hRefused : refused.stg[n].graphOk = false := by
    unfold refused
    rw [State.setBit_stg, State.modStage_self]
  have hCaused : caused.stg[n].graphOk = false := by
    unfold caused
    split
    · exact hRefused
    · simp only [State.setN_stg, State.modStage_self]
      exact hRefused
  rw [if_pos rejected, State.log_stg]
  exact hCaused

/-- Of the graphs loaded in turn, one beyond the limits leaves its stage without a graph. -/
theorem foldl_loadGraph_beyond_limits {graphs : Vector GraphSpec 4} {n : StageId}
    (beyond : graphs[n].fits = false ∨ maxInstances < graphs[n].blocks.length) (l : List StageId) (s : State)
    (h : n ∈ l ∨ s.stg[n].graphOk = false) : (l.foldl (fun s m => loadGraph m graphs[m] s) s).stg[n].graphOk = false := by
  induction l generalizing s with
  | nil => exact h.resolve_left List.not_mem_nil
  | cons m l ih =>
    refine ih _ ?_
    by_cases own : n = m
    · subst own
      exact .inr (loadGraph_beyond_limits beyond n s)
    · have other : (loadGraph m graphs[m] s).stg[n] = s.stg[n] := sameBut_loadGraph m graphs[m] s n own
      exact (h.imp_left fun mem => (List.mem_cons.1 mem).resolve_left own).imp_right fun ok => by rw [other]; exact ok

theorem mem_allStages (n : StageId) : n ∈ allStages := by fin_cases n <;> decide

/-- What loading the configuration requires: a keystone that acts, in SURVEY, with the configuration not loaded yet. -/
structure LoadMet (s : State) : Prop where
  keystone : s.alive .keystone = true
  survey : s.mod.mode = .survey
  unloaded : s.mod.cfgLoaded = false

namespace LoadMet

variable {s : State}

theorem keeps_loaded (h : LoadMet s) {dictionary backup : Bool} {graphs : Vector GraphSpec 4} (copy : dictionary = true ∨ backup = true)
    (package : s.nvs.package = some graphs) :
    Completes (.surveyConfigLoad dictionary backup) s fun t => t.mod.cfgLoaded = true ∧ t.mod.cfgValid = true ∧
      ∀ n : StageId, graphs[n].fits = false ∨ maxInstances < graphs[n].blocks.length → t.stg[n].graphOk = false := by
  refine ⟨_, congrArg Host.Outcome.next (State.on_of_alive h.keystone _), ?_⟩
  dsimp only
  rw [if_neg (by simp [h.survey, h.unloaded]), if_neg (by rcases copy with c | c <;> simp [c])]
  have kept : (loadSaved s).nvs.package = some graphs := ((keeps_loadSaved s).same (.nvs .package) rfl).trans package
  rw [kept]
  have rejects := fun (n : StageId) beyond => foldl_loadGraph_beyond_limits (graphs := graphs) (n := n) beyond allStages (loadSaved s)
    (.inl (mem_allStages n))
  dsimp only
  generalize allStages.foldl (fun s m => loadGraph m graphs[m] s) (loadSaved s) = graphed at rejects ⊢
  have configured := keeps_applyConfig (graphed.modMod fun m => { m with cfgLoaded := true, cfgValid := true })
  have calibrating := keeps_startSelfCal (applyConfig (graphed.modMod fun m => { m with cfgLoaded := true, cfgValid := true }))
  refine ⟨?_, ?_, fun n beyond => ?_⟩
  · exact (calibrating.same (.mod .cfgLoaded) rfl).trans (configured.same (.mod .cfgLoaded) rfl)
  · exact (calibrating.same (.mod .cfgValid) rfl).trans (configured.same (.mod .cfgValid) rfl)
  · exact ((calibrating.same (.stg .graphOk) rfl n).trans (configured.same (.stg .graphOk) rfl n)).trans (rejects n beyond)

theorem locks_without_copy (h : LoadMet s) (room : s.hasRoom 1 = true) :
    Completes (.surveyConfigLoad false false) s fun t => t.mod.cfgValid = false ∧
      t.mod.lockoutPending = s.mod.lockoutPending ++ [0x9006] ∧ newEvent s t 0x9006 [] = true := by
  refine ⟨_, congrArg Host.Outcome.next (State.on_of_alive h.keystone _), ?_⟩
  dsimp only
  rw [if_neg (by simp [h.survey, h.unloaded]), if_pos (by simp)]
  refine ⟨?_, ?_, newEvent_demandLockout (newEvent_log room (le_refl _) rfl)⟩
  · rw [demandLockout_mod, State.log_mod, State.modMod_mod]
  · rw [demandLockout_mod, State.log_mod, State.modMod_mod]

end LoadMet

/-! ### The hold-up check (R438) -/

/-- The hold-up check is done, its link readings are kept, and a capacitance below 200 microfarads demands LOCKOUT. -/
theorem holdupCheck_done {s : State} (microF volts : Rat) (link : Vector Rat 4) (house : s.alive .house = true) (survey : s.mod.mode = .survey)
    (calibrated : s.mod.calDone = true) (undone : s.mod.holdupDone = false) :
    Completes (.holdupCheckComplete microF volts link) s fun t => t.mod.holdupDone = true ∧ t.mod.link = link ∧
      (microF < 200 → t.mod.lockoutPending = s.mod.lockoutPending ++ [0x1013]) := by
  refine ⟨_, congrArg Host.Outcome.next (State.on_of_alive house _), ?_⟩
  dsimp only
  rw [if_neg (by simp [survey, calibrated, undone])]
  by_cases low : microF < 200
  · rw [if_pos low, demandLockout_mod, State.log_mod]
    exact ⟨rfl, rfl, fun _ => rfl⟩
  · rw [if_neg low]
    have kept := keeps_queueDiags (((s.setR Obj.NVS_HOLD_C (r32 microF)).setR Obj.NVS_HOLD_V (r32 volts)).modMod fun m =>
      { m with holdupDone := true, link := link })
    exact ⟨kept.same (.mod .holdupDone) rfl, kept.same (.mod .link) rfl, fun h => absurd h low⟩

/-! ### The off-state test (R39, R215) -/

/-- A deferred test starts for the stage whose turn it is. -/
theorem deferredDiag_starts {s : State} {n : StageId} (pier : s.alive (.pier n) = true) (idle : diagRunning s = false)
    (due : diagDue s n = true) (turn : ∀ m, m < n → diagDue s m = false) :
    Completes (.deferredDiagStart n) s fun t => t.stg[n].diagSince = some s.now := by
  have first : (allStages.any fun m => decide (m < n) && diagDue s m) = false := by
    rw [List.any_eq_false]
    intro m _ earlier
    rw [Bool.and_eq_true, decide_eq_true_eq] at earlier
    rw [turn m earlier.1] at earlier
    exact Bool.false_ne_true earlier.2
  refine ⟨_, congrArg Host.Outcome.next (State.on_of_alive pier _), ?_⟩
  dsimp only
  rw [if_neg (by simp [idle, due, first]), startDiag, State.modStage_self]

theorem diagPasses_passed (n : StageId) (s : State) : (diagPasses n s).stg[n].diagPassed = true := by
  unfold diagPasses
  extract_lets held passed
  have hPassed : passed.stg[n].diagPassed = true := congrArg StageCore.diagPassed (State.modStage_self n _ _)
  clear_value passed
  split
  · exact (congrArg StageCore.diagPassed (State.modStage_self n _ _)).trans hPassed
  split
  · refine (congrArg StageCore.diagPassed (State.modStage_self n _ _)).trans ?_
    exact ((keeps_stageArm n passed).same (.stg .diagPassed) rfl n).trans hPassed
  · exact hPassed

/-- In SURVEY an OFF stage with a graph goes to ARMED once it has passed. -/
theorem diagPasses_arms {n : StageId} {s : State} (survey : s.mod.mode = .survey) (off : s.stg[n].st = .off)
    (graph : s.stg[n].graphOk = true) : (diagPasses n s).stg[n].st = .armed := by
  unfold diagPasses
  extract_lets held passed
  have at_n : passed.stg[n] = { s.stg[n] with diagPassed := true, heldStart := false } := State.modStage_self n _ _
  have mode : passed.mod.mode = .survey := survey
  clear_value passed
  rw [if_neg (by rw [State.stageSt, at_n, off, graph]; decide), if_pos (by rw [mode]; rfl), State.modStage_self, stageArm_stg, vset_self]

/-- The off-state test of a living pier that has run for its 20 ms. -/
structure TestOver (s : State) (n : StageId) (start : Nat) : Prop where
  pier : s.alive (.pier n) = true
  started : s.stg[n].diagSince = some start
  waited : 20 * cyclesMs ≤ s.since start

namespace TestOver

variable {s : State} {n : StageId} {start : Nat}

/-- What the test leaves to its result: its end, with the word that it found shown. -/
def shown (s : State) (n : StageId) (word : Nat) : State :=
  (s.modStage n fun c => { c with diagSince := none }).setN (Obj.GDV_DIAG_RESULT n) word

theorem shown_at (s : State) (n : StageId) (word : Nat) : (shown s n word).stg[n] = { s.stg[n] with diagSince := none } :=
  State.modStage_self n (fun c => { c with diagSince := none }) s

/-- A test that found a fault leaves its stage untested and no longer waiting for a deferred test. -/
def failed (s : State) (n : StageId) (word : Nat) : State :=
  (shown s n word).modStage n fun c => { c with diagPassed := false, diagDeferred := false }

theorem failed_at (s : State) (n : StageId) (word : Nat) :
    (failed s n word).stg[n] = { s.stg[n] with diagSince := none, diagPassed := false, diagDeferred := false } := by
  rw [failed, State.modStage_self, shown_at]

theorem run_eq (h : TestOver s n start) (r : DiagReading) : execOffStateTestComplete n r s = .next (nextDiag
    (if diagWord s n r = 0 then diagPasses n (shown s n (diagWord s n r))
      else stageSafe n 0x3014 ((failed s n (diagWord s n r)).log 0x3014 [n.val, diagWord s n r]))) := by
  refine congrArg Host.Outcome.next ((State.on_of_alive h.pier _).trans ?_)
  dsimp only
  rw [h.started]
  dsimp only
  rw [if_neg (Nat.not_lt.2 h.waited)]
  rfl

theorem passes (h : TestOver s n start) {r : DiagReading} (sound : diagWord s n r = 0) :
    Completes (.offStateTestComplete n r) s fun t => t.stg[n].diagPassed = true ∧
      (s.mod.mode = .survey → s.stg[n].st = .off → s.stg[n].graphOk = true → t.stg[n].st = .armed) := by
  refine ⟨_, h.run_eq r, ?_⟩
  rw [if_pos sound]
  have kept := keeps_nextDiag (diagPasses n (shown s n (diagWord s n r)))
  refine ⟨(kept.same (.stg .diagPassed) rfl n).trans (diagPasses_passed n _), fun survey off graph => ?_⟩
  have arms := diagPasses_arms (n := n) (s := shown s n (diagWord s n r)) survey (by rw [shown_at]; exact off) (by rw [shown_at]; exact graph)
  exact (kept.same (.stg .st) rfl n).trans arms

theorem fails (h : TestOver s n start) {r : DiagReading} (faulty : diagWord s n r ≠ 0) (adit : s.mod.mode ≠ .adit)
    (out : s.stg[n].st ≠ .safe) (room : s.hasRoom 1 = true) :
    Completes (.offStateTestComplete n r) s fun t => t.stg[n].st = .safe ∧ t.stg[n].cause = 0x3014 ∧ t.stg[n].diagPassed = false ∧
      newEvent s t 0x3014 [n.val, diagWord s n r] = true := by
  refine ⟨_, h.run_eq r, ?_⟩
  rw [if_neg faulty]
  have at_n := failed_at s n (diagWord s n r)
  obtain ⟨stages, event⟩ := stageSafe_logged (s := s) (u := failed s n (diagWord s n r)) (n := n) (code := 0x3014) (cause := 0x3014)
    (data := [(n.val : Rat), (diagWord s n r : Rat)]) (by rw [at_n]; exact out) (State.mode_ne_halt_of_alive h.pier) adit room (le_refl _) rfl
  have kept := keeps_nextDiag (stageSafe n 0x3014 ((failed s n (diagWord s n r)).log 0x3014 [n.val, diagWord s n r]))
  have safe := (congrArg (·[n]) stages).trans (vset_self _ _ _ _)
  refine ⟨?_, ?_, ?_, newEvent_keeps kept rfl event⟩
  · exact (kept.same (.stg .st) rfl n).trans (congrArg StageCore.st safe)
  · exact (kept.same (.stg .cause) rfl n).trans (congrArg StageCore.cause safe)
  · exact (kept.same (.stg .diagPassed) rfl n).trans ((congrArg StageCore.diagPassed safe).trans (congrArg StageCore.diagPassed at_n))

end TestOver

/-! ### The retained image (R313, R392) -/

theorem restoreImage_done (s : State) : (restoreImage s).mod.restoreDone = true := by
  unfold restoreImage
  extract_lets fit ok judged reset stations kept restored
  exact (keeps_showLogic (restored.modMod fun m => { m with restoreDone := true })).same (.mod .restoreDone) rfl

/-- At the end of SURVEY the retained image is restored once. -/
theorem logicImageRestore_done {s : State} (logic : s.alive .logic = true) (survey : s.mod.mode = .survey) (held : s.mod.holdupDone = true)
    (tested : s.mod.diagQueue = []) (idle : diagRunning s = false) (undone : s.mod.restoreDone = false) :
    Completes (.logicImageRestore) s fun t => t.mod.restoreDone = true := by
  refine ⟨_, congrArg Host.Outcome.next (State.on_of_alive logic _), ?_⟩
  dsimp only
  rw [if_neg (by simp [survey, held, tested, idle, undone])]
  exact restoreImage_done s

/-- Settles O12: each step from power-up to the end of SURVEY from the lemma about the step. -/
theorem fromPowerUpToSurvey : Obligations.FromPowerUpToSurvey := by
  unfold Obligations.FromPowerUpToSurvey
  refine ⟨?powered, ?adit, ?pll, ?image, ?noImage, ?loaded, ?noCopy, ?holdup, ?deferred, ?passes, ?fails, ?restored⟩
  case powered => exact fun s => ⟨_, rfl, rfl⟩
  case adit => exact fun s absence primary halt powered released => aditEntry_enters absence primary halt powered released
  case pll => exact fun s adit clock first room => aditPllTimeout_locks adit clock first room
  case image => exact fun s imgA imgB progOk adit unstarted house first sound =>
    VerifyMet.runs_preferred ⟨adit, unstarted, house, first⟩ progOk sound
  case noImage => exact fun s imgA imgB progOk adit unstarted house first badA badB =>
    VerifyMet.locks_without_image ⟨adit, unstarted, house, first⟩ progOk badA badB
  case loaded => exact fun s dictionary backup graphs copy keystone survey unloaded package =>
    LoadMet.keeps_loaded ⟨keystone, survey, unloaded⟩ copy package
  case noCopy => exact fun s keystone survey unloaded room => LoadMet.locks_without_copy ⟨keystone, survey, unloaded⟩ room
  case holdup => exact fun s microF volts link house survey calibrated undone =>
    holdupCheck_done microF volts link house survey calibrated undone
  case deferred => exact fun s n pier idle due turn => deferredDiag_starts pier idle due turn
  case passes => exact fun s n r at_ pier started waited sound => TestOver.passes ⟨pier, started, waited⟩ sound
  case fails => exact fun s n r at_ pier started waited faulty adit out room => TestOver.fails ⟨pier, started, waited⟩ faulty adit out room
  case restored => exact fun s logic survey held tested idle undone => logicImageRestore_done logic survey held tested idle undone

end Sys2Proof.Machine
end

section
/-!
PROOF. The forming law's bounds (R54, R55, R57): each bounded quantity is a clamp, and a clamp stays within its bounds.
-/

namespace Sys2Proof.Machine

/-! ### The clamp -/

theorem clampR_bounds {lo hi : Rat} (ordered : lo ≤ hi) (u : Rat) : lo ≤ clampR u lo hi ∧ clampR u lo hi ≤ hi := by
  unfold clampR
  split
  next => exact ⟨le_rfl, ordered⟩
  next low =>
    split
    next => exact ⟨ordered, le_rfl⟩
    next high => exact ⟨not_lt.mp low, not_lt.mp high⟩

/-- A clamp that moves its operand leaves it at a bound. -/
theorem clampR_at_bound {u lo hi : Rat} (moved : clampR u lo hi ≠ u) : clampR u lo hi = lo ∨ clampR u lo hi = hi := by
  unfold clampR at moved ⊢
  split
  next => exact .inl rfl
  next low =>
    split
    next => exact .inr rfl
    next high => exact absurd (by rw [if_neg low, if_neg high]) moved

/-! ### What the outer step clamps -/

/-- R55: the new speed is a clamp to 1 − F_lim and 1 + F_lim, and it is reported where it moved the speed. -/
theorem outerStep_omega (q : LawParams) (l : Law) : ∃ w, (outerStep q l).1.omega = clampR w (r32 (1 - q.fLim)) (r32 (1 + q.fLim)) ∧
    ((outerStep q l).2.fClamp = true → (outerStep q l).1.omega ≠ w) := ⟨_, rfl, of_decide_eq_true⟩

/-- R57: the amplitude is r times the clamped value of E. -/
theorem outerStep_e (q : LawParams) (l : Law) :
    (outerStep q l).1.e = r32 (l.r * clampR (outerStep q l).2.eRaw q.eMin q.eMax) := rfl

theorem outerStep_eClamp (q : LawParams) (l : Law) : (outerStep q l).2.eClamp =
    (decide ((outerStep q l).2.eRaw < q.eMin) || decide (q.eMax < (outerStep q l).2.eRaw)) := rfl

/-- R54: an isochronous stage's mechanical power is a clamp of its integrator to −1 and 1. -/
theorem outerStep_pMech_isochronous {q : LawParams} (iso : q.mp = 0) (l : Law) : ∃ integ, (outerStep q l).1.pMech = clampR integ (-1) 1 :=
  ⟨_, if_pos (decide_eq_true iso)⟩

/-- Settles O60: speed, amplitude and isochronous power are clamps, and the step writes no other part that the statement names. -/
theorem clampsOfTheLaw : Obligations.ClampsOfTheLaw := by
  unfold Obligations.ClampsOfTheLaw
  intro q l ordered
  obtain ⟨w, speed, reported⟩ := outerStep_omega q l
  obtain ⟨low, high⟩ := clampR_bounds ordered w
  rw [← speed] at low high
  refine ⟨low, high, ?atBound, ?amplitude, ?told, ?power, rfl, rfl, rfl, rfl⟩
  case atBound =>
    intro clamped
    have moved := reported clamped
    rw [speed] at moved ⊢
    exact clampR_at_bound moved
  case amplitude =>
    intro orderedE
    obtain ⟨low, high⟩ := clampR_bounds orderedE (outerStep q l).2.eRaw
    exact ⟨_, low, high, outerStep_e q l⟩
  case told => simp only [outerStep_eClamp, Bool.or_eq_true, decide_eq_true_eq]
  case power =>
    intro iso
    obtain ⟨integ, power⟩ := outerStep_pMech_isochronous iso l
    rw [power]
    exact clampR_bounds (by norm_num) integ

end Sys2Proof.Machine
end

section
/-!
PROOF. The number in event 0x2006 (R66): it counts the objects that a cleared hold hands on, so an object written twice under the hold
counts once, while both of its writes are held and handed on.
-/

namespace Sys2Proof.Machine

/-- A module that forms, with stage 1 a forming stage whose PARAM_HOLD is set; the rest is as after reset. -/
def formingHeld : State :=
  ((State.reset.setN (Obj.MOD_STAGE_CFG 1) 0x101).setBit (Obj.GFL_CONFIG 1) 10 true).modMod fun m => { m with powered := true, mode := .form }

/-- The same after the logic engine has written 4.00 s and then 3.00 s to the stage's inertia constant. -/
def heldTwice : State := dictReq .logic (Obj.GFL_H 1) (.int 300) none (dictReq .logic (Obj.GFL_H 1) (.int 400) none formingHeld)

/-- Two write commands lead there. -/
theorem heldTwice_of_dictionaryWrites : Completes (.dictionaryWrite (Obj.GFL_H 1) (.int 400) .logic [] []) formingHeld fun u =>
    exec (.dictionaryWrite (Obj.GFL_H 1) (.int 300) .logic [] []) u = .next heldTwice := ⟨_, rfl, rfl⟩

theorem heldOf_heldTwice : heldOf heldTwice 1 false = [(Obj.GFL_H 1, .int 400), (Obj.GFL_H 1, .int 300)] := by decide +kernel

theorem heldTwice_may_clear : heldTwice.serves .logic .house = true ∧ heldTwice.isGfi 1 = true ∧
    heldTwice.bit (Obj.GFL_CONFIG 1) 10 = true ∧ heldTwice.hasRoom 1 = true := by decide +kernel

/-- Clearing the hold logs one value and not two. -/
theorem heldTwice_cleared : Completes (.gflParamHoldClear 1 .logic) heldTwice fun t =>
    newEvent heldTwice t 0x2006 [1, 1] = true ∧ newEvent heldTwice t 0x2006 [1, 2] = false := ⟨_, rfl, by decide +kernel⟩

/-- Refutes O16: with two held writes of one object the event carries 1, and the first clause asks for 2, the number of held writes. -/
theorem not_lawParametersOnTheirWay : ¬ Obligations.LawParametersOnTheirWay := by
  unfold Obligations.LawParametersOnTheirWay
  rintro ⟨gflHold, -⟩
  obtain ⟨served, gfi, hold, room⟩ := heldTwice_may_clear
  obtain ⟨t, run, -, -, two⟩ := gflHold heldTwice 1 .logic served gfi hold room
  obtain ⟨u, run', -, notTwo⟩ := heldTwice_cleared
  obtain rfl : t = u := by injection run.symm.trans run'
  have count : newEvent heldTwice t 0x2006 [1, 2] = true := by simpa [heldOf_heldTwice] using two
  exact absurd count (by simp [notTwo])

end Sys2Proof.Machine
end

section
/-!
PROOF. A dead line is claimed (R76, R83 to R88): what the anchor, the claim slot and the hold-off write at their stage, that the close command
leaves the log the room for its event, and what a stage drops as a timeout takes it to SAFE.
-/

namespace Sys2Proof.Machine

/-! ### A stage's sharing through a footprint -/

theorem ShrField.eq_of_same {a b : ShareSt} (h : ∀ f : ShrField, f.same a b) : b = a := by
  cases a
  cases b
  simp only [ShareSt.mk.injEq]
  exact ⟨h .line, h .far, h .claim, h .closeAt, h .closeTimeout, h .tieAt, h .closedDead, h .closed, h .pull, h .syncFrom, h .syncTimeout,
    h .okSince, h .dwell, h .deadSince, h .lostLogged, h .rampFrom, h .rampTime, h .rampLast, h .ramping, h .glideW, h .glideV,
    h .joining, h .winStart, h .winSum, h .winCount, h .winBad, h .suspended, h .anchor⟩

/-- A footprint without a field of sharing and joining leaves every stage's alone. -/
theorem Keeps.shr {F : Nat} {s t : State} (h : Keeps F s t) (e : ∀ f : ShrField, F.testBit f.bit = false) : t.shr = s.shr := by
  ext i lt : 1
  exact ShrField.eq_of_same fun f => h.same (.shr f) (e f) ⟨i, lt⟩

@[simp] theorem socCloseStage_shr (n : StageId) (s : State) : (socCloseStage n s).shr = s.shr :=
  (keeps_socCloseStage n s).shr fun f => by cases f <;> rfl

@[simp] theorem sendDatagram_shr (n : StageId) (s : State) : (sendDatagram n s).shr = s.shr :=
  (keeps_sendDatagram n s).shr fun f => by cases f <;> rfl

@[simp] theorem emcy_shr (e c u : Nat) (s : State) : (emcy e c u s).shr = s.shr :=
  (keeps_emcy e c u s).shr fun f => by cases f <;> rfl

@[simp] theorem showErrors_shr (s : State) : (showErrors s).shr = s.shr :=
  (keeps_showErrors s).shr fun f => by cases f <;> rfl

@[simp] theorem edgeSafe_shr (n : StageId) (s : State) : (edgeSafe n s).shr = s.shr :=
  (keeps_edgeSafe n s).shr fun f => by cases f <;> rfl

@[simp] theorem showDispatching_shr (n : StageId) (s : State) : (showDispatching n s).shr = s.shr :=
  (keeps_showDispatching n s).shr fun f => by cases f <;> rfl

@[simp] theorem ssdEnd_shr (n : StageId) (s : State) : (ssdEnd n s).shr = s.shr :=
  (keeps_ssdEnd n s).shr fun f => by cases f <;> rfl

/-! ### What a stage in SAFE no longer does -/

theorem dropActivities_at (n : StageId) (s : State) :
    (dropActivities n s).shr[n].closeAt = none ∧ (dropActivities n s).shr[n].ramping = false := by
  unfold dropActivities
  extract_lets +onlyGivenNames suspended dropped shed
  have hShed : shed.shr = dropped.shr := by
    unfold shed
    split
    · rfl
    · exact State.log_shr _ _ _
  have idle : ∀ v, v = dropped.shr → v[n].closeAt = none ∧ v[n].ramping = false := by
    rintro v rfl
    rw [State.modShare_at, if_pos rfl]
    exact ⟨rfl, rfl⟩
  apply idle
  simp only [State.modPier_shr, ssdEnd_shr, apply_ite State.shr, State.log_shr, State.setBit_shr, State.setField_shr, State.setR_shr,
    State.modSurvey_shr, State.modRide_shr, ite_self, hShed]

/-- A stage that enters SAFE has dropped its close command and its ramp (R34, R98). -/
theorem stageSafe_at {s : State} {n : StageId} (cause : Nat) (out : s.stg[n].st ≠ .safe) (halt : s.mod.mode ≠ .halt)
    (adit : s.mod.mode ≠ .adit) : (stageSafe n cause s).shr[n].closeAt = none ∧ (stageSafe n cause s).shr[n].ramping = false := by
  have enters : ¬(s.stageSt n = .safe ∨ s.mod.mode = .halt ∨ s.mod.mode = .adit) := not_or.2 ⟨out, not_or.2 ⟨halt, adit⟩⟩
  unfold stageSafe
  rw [if_neg enters]
  simpa only [showDispatching_shr, edgeSafe_shr, showErrors_shr, emcy_shr, sendDatagram_shr, State.log_shr, apply_ite State.shr,
    State.modMod_shr, ite_self, State.setN_shr, State.modPier_shr, State.modStage_shr] using dropActivities_at n (socLeaves n s)

/-! ### The close command (R86) -/

theorem State.log_length_le (s : State) (code : Nat) (data : List Rat) : (s.log code data).logBuf.length ≤ s.logBuf.length + 1 := by
  unfold State.log
  split
  · exact (List.length_append ..).le
  · exact Nat.le_succ _

theorem showSoc_logBuf (i : SocId) (s : State) : (showSoc i s).logBuf = s.logBuf := ((keeps_showSoc i s).same .log rfl).1

/-- A request to close logs its refusal at most. -/
theorem socClose_length_le (i : SocId) (s : State) : (socClose i s).logBuf.length ≤ s.logBuf.length + 1 := by
  unfold socClose
  split
  · exact Nat.le_succ _
  · split
    · exact Nat.le_succ _
    · split
      · exact Nat.le_succ _
      · split
        · exact s.log_length_le _ _
        · rw [showSoc_logBuf]
          exact Nat.le_succ _

theorem socCloseStage_length_le (n : StageId) (s : State) : (socCloseStage n s).logBuf.length ≤ s.logBuf.length + 1 := by
  unfold socCloseStage
  split
  · exact socClose_length_le _ s
  · exact Nat.le_succ _

theorem commandClose_hasRoom {s : State} (n : StageId) (onDead : Bool) (room : s.hasRoom 2 = true) :
    (commandClose n onDead s).hasRoom 1 = true := by
  have logged : (commandClose n onDead s).logBuf.length ≤ s.logBuf.length + 1 := socCloseStage_length_le n _
  simp only [State.hasRoom, decide_eq_true_eq] at room ⊢
  omega

theorem commandClose_at (n : StageId) (onDead : Bool) (s : State) : (commandClose n onDead s).shr[n] = { s.shr[n] with
    claim := .idle, closeAt := some s.now, closedDead := onDead, lostLogged := false,
    closeTimeout := s.objN (Obj.SHR_CLOSE_TIMEOUT n) * cyclesMs } := by
  simp only [commandClose, socCloseStage_shr, showClaim_shr, State.modShare_at, if_true]

theorem commandClose_mt (n : StageId) (onDead : Bool) (s : State) : (commandClose n onDead s).isl.mt = s.isl.mt :=
  (keeps_commandClose n onDead s).same (.isl .mt) rfl

/-- The stage has commanded its contactor closed onto the dead line and logged it (R86). -/
def CommandedDead (n : StageId) (how : Rat) (s t : State) : Prop :=
  t.shr[n].claim = .idle ∧ t.shr[n].closeAt = some s.now ∧ t.shr[n].closedDead = true ∧ newEvent s t 0x2105 [n.val, how, ntaAt s s.now] = true

theorem claimNow_dead {s : State} {n : StageId} (how : Rat) (active : s.standby = false) (dead : s.shr[n].line.live = false)
    (room : s.hasRoom 2 = true) : CommandedDead n how s (claimNow n how s) := by
  have run : claimNow n how s = (commandClose n true s).log 0x2105 [n.val, how, ntaAt s s.now] :=
    (if_neg (by simp [isStandby, active])).trans (if_neg (by rw [dead]; exact Bool.false_ne_true))
  unfold CommandedDead
  rw [run, State.log_shr, commandClose_at]
  exact ⟨rfl, rfl, rfl, newEvent_log (commandClose_hasRoom n true room) (keeps_commandClose n true s).seq (commandClose_mt n true s)⟩

/-! ### The commands -/

theorem anchorInstant_kept {s : State} {n : StageId} (alive : s.alive (.pier n) = true) (here : anchorHere s n = true)
    (switching : s.switching n = true) (gfi : s.isGfi n = true) :
    Completes (.anchorInstant n) s fun t => t.shr[n].anchor = some s.now := by
  have taken : takeAnchor n s = s.modShare n fun h => { h with anchor := some s.now } := (if_neg (by simp [gfi])).trans (if_pos switching)
  refine ⟨_, congrArg Host.Outcome.next ((State.on_of_alive alive _).trans ((if_pos here).trans taken)), ?_⟩
  dsimp only
  rw [State.modShare_at, if_pos rfl]

theorem claimSlotReached_good {s : State} {n : StageId} {at_ : Nat} (alive : s.alive .keystone = true) (slot : s.shr[n].claim = .slot at_)
    (due : at_ ≤ s.now) (good : ntaGood s = true) : exec (.claimSlotReached n) s = .next (claimNow n (claimSlot s n) s) := by
  refine congrArg Host.Outcome.next ((State.on_of_alive alive _).trans ?_)
  rw [slot]
  exact (if_neg (Nat.not_lt.2 due)).trans (if_pos good)

theorem claimSlotReached_bad {s : State} {n : StageId} {at_ : Nat} (alive : s.alive .keystone = true) (slot : s.shr[n].claim = .slot at_)
    (due : at_ ≤ s.now) (bad : ntaGood s = false) :
    exec (.claimSlotReached n) s = .next (showClaim n (s.modShare n fun h => { h with claim := claimFor s n s.now })) := by
  refine congrArg Host.Outcome.next ((State.on_of_alive alive _).trans ?_)
  rw [slot]
  exact (if_neg (Nat.not_lt.2 due)).trans (if_neg (by simp [bad]))

theorem claimHoldoffExpiry_due {s : State} {n : StageId} {at_ : Nat} (alive : s.alive .keystone = true)
    (holdoff : s.shr[n].claim = .holdoff at_) (due : at_ ≤ s.now) :
    exec (.claimHoldoffExpiry n) s = .next (claimNow n (secondsOf (holdoffCycles s n)) s) := by
  refine congrArg Host.Outcome.next ((State.on_of_alive alive _).trans ?_)
  rw [holdoff]
  exact if_pos due

theorem contactorCloseTimeout_due {s : State} {n : StageId} {at_ : Nat} (commanded : s.shr[n].closeAt = some at_)
    (late : s.shr[n].closeTimeout ≤ s.since at_) : exec (.contactorCloseTimeout n) s = .next (stageSafe n 0x2109 (socOpenStage n
      ((s.modShare n fun h => { h with closeAt := none }).log 0x2109 [n.val, contactorOf s n]))) := by
  refine congrArg Host.Outcome.next ?_
  rw [commanded]
  exact if_pos late

theorem contactorCloseTimeout_safe {s : State} {n : StageId} {at_ : Nat} (commanded : s.shr[n].closeAt = some at_)
    (late : s.shr[n].closeTimeout ≤ s.since at_) (out : s.stg[n].st ≠ .safe) (halt : s.mod.mode ≠ .halt) (adit : s.mod.mode ≠ .adit)
    (room : s.hasRoom 1 = true) : Completes (.contactorCloseTimeout n) s fun t => t.shr[n].closeAt = none ∧ t.stg[n].st = .safe ∧
      t.stg[n].cause = 0x2109 ∧ newEvent s t 0x2109 [n.val, contactorOf s n] = true := by
  refine ⟨_, contactorCloseTimeout_due commanded late, ?_⟩
  have event : newEvent s ((s.modShare n fun h => { h with closeAt := none }).log 0x2109 [n.val, contactorOf s n]) 0x2109
      [n.val, contactorOf s n] = true := newEvent_log room (le_refl _) rfl
  have opened := keeps_socOpenStage n ((s.modShare n fun h => { h with closeAt := none }).log 0x2109 [n.val, contactorOf s n])
  have stages := opened.stg fun f => by cases f <;> rfl
  have mode := opened.mode rfl
  rw [State.log_stg, State.modShare_stg] at stages
  rw [State.log_mod, State.modShare_mod] at mode
  rw [← stages] at out
  rw [← mode] at halt adit
  dsimp only
  rw [stageSafe_stg 0x2109 out halt adit, vset_self]
  exact ⟨(stageSafe_at 0x2109 out halt adit).1, rfl, rfl, newEvent_keeps (keeps_stageSafe n 0x2109 _) rfl (newEvent_keeps opened rfl event)⟩

theorem rampTimeout_safe {s : State} {n : StageId} (ramping : s.shr[n].ramping = true) (late : 5 * s.shr[n].rampTime ≤ s.since s.shr[n].rampFrom)
    (out : s.stg[n].st ≠ .safe) (halt : s.mod.mode ≠ .halt) (adit : s.mod.mode ≠ .adit) (room : s.hasRoom 1 = true) :
    Completes (.rampTimeout n) s fun t => t.shr[n].ramping = false ∧ t.stg[n].st = .safe ∧ t.stg[n].cause = 0x2108 ∧
      newEvent s t 0x2108 [n.val, s.pie[n].law.r] = true := by
  refine ⟨_, congrArg Host.Outcome.next (if_pos ?_), ?_⟩
  · rw [ramping]
    exact decide_eq_true late
  obtain ⟨stages, event⟩ := stageSafe_logged (s := s) (code := 0x2108) (cause := 0x2108) (data := [(n.val : Rat), s.pie[n].law.r]) out halt adit
    room (le_refl _) rfl
  rw [stages, vset_self]
  exact ⟨(stageSafe_at 0x2108 (by rwa [State.log_stg]) (by rwa [State.log_mod]) (by rwa [State.log_mod])).2, rfl, rfl, event⟩

/-- Settles O15: a due claim onto a dead line is the close command and its event, and each timeout logs and takes the stage to SAFE. -/
theorem claimingDeadLine : Obligations.ClaimingDeadLine := by
  unfold Obligations.ClaimingDeadLine
  refine ⟨?anchor, ?slot, ?slotWithoutNta, ?holdoff, ?closeTimeout, ?rampTimeout⟩
  case anchor => exact fun s n alive here switching gfi => anchorInstant_kept alive here switching gfi
  case slot =>
    exact fun s n at_ alive slot due good active dead room =>
      ⟨_, claimSlotReached_good alive slot due good, claimNow_dead _ active dead room⟩
  case slotWithoutNta =>
    intro s n at_ alive slot due bad
    refine ⟨_, claimSlotReached_bad alive slot due bad, ?_⟩
    dsimp only
    rw [showClaim_shr, State.modShare_at, if_pos rfl]
    exact ⟨rfl, rfl⟩
  case holdoff =>
    exact fun s n at_ alive holdoff due active dead room =>
      ⟨_, claimHoldoffExpiry_due alive holdoff due, claimNow_dead _ active dead room⟩
  case closeTimeout =>
    exact fun s n at_ commanded late out halt adit room => contactorCloseTimeout_safe commanded late out halt adit room
  case rampTimeout => exact fun s n ramping late out halt adit room => rampTimeout_safe ramping late out halt adit room

end Sys2Proof.Machine
end

section
/-!
PROOF. A bus tie commanded again (R90, R93): while a stage pulls, the dwell commands its tie once. When the contactor has opened again before
its confirmation the pull goes on, and the dwell commands the tie no more.
-/

namespace Sys2Proof.Machine

/-- A stage that pulls to the tie has its three conditions held for the dwell, on a module that commands contactors (R47, R90). -/
structure TieDwellHeld (s : State) (n : StageId) (from_ : Nat) : Prop where
  ok : s.shr[n].okSince = some from_
  held : s.shr[n].dwell ≤ s.since from_
  unclosed : s.shr[n].closeAt = none
  active : s.standby = false
  pull : s.shr[n].pull = .tie

/-- The dwell commands a tie only where its pull has not commanded it before. -/
theorem TieDwellHeld.syncDwellExpiry {s : State} {n : StageId} {from_ : Nat} (h : TieDwellHeld s n from_) : exec (.syncDwellExpiry n) s =
    .next (if s.shr[n].tieAt.isSome then s else closeTie n (diffsOf s n s.pie[n].law) s) := by
  obtain ⟨ok, held, unclosed, active, pull⟩ := h
  refine congrArg Host.Outcome.next ?_
  dsimp only
  rw [ok, pull]
  exact if_pos (by rw [unclosed, isStandby, active, decide_eq_true held]; rfl)

/-- A module that forms, with stage 1 pulling to the tie of the third contactor driver, which nothing keeps from closing; the rest is as
after reset. -/
def tiePulled : State :=
  (((((staged .form 0x101 .run).setN (Obj.SAF_SOC_CFG 2) 4).modIsl fun x => { x with contactorEnable := true }).modSaf
    fun x => { x with pending := false }).modDi 0 fun x => { x with st := true }).modShare 1
    fun h => { h with okSince := some 0, dwell := 0, pull := .tie }

/-- The same after the dwell has commanded the tie closed. -/
def tieCommandedOnce : State := closeTie 1 (diffsOf tiePulled 1 tiePulled.pie[(1 : StageId)].law) tiePulled

/-- The same after that contactor was asked to open. -/
def tieReopened : State := socOpen 2 tieCommandedOnce

/-- Two commands lead there, the dwell's and a request to open. -/
theorem tieReopened_of_commands : Completes (.syncDwellExpiry 1) tiePulled fun u => exec (.socOpenRequest 2) u = .next tieReopened := by
  have held : TieDwellHeld tiePulled 1 0 := ⟨by decide +kernel, by decide +kernel, by decide +kernel, by decide +kernel, by decide +kernel⟩
  have alive : tieCommandedOnce.alive .keystone = true := by decide +kernel
  have owned : socOwned tieCommandedOnce 2 = true := by decide +kernel
  exact ⟨tieCommandedOnce, held.syncDwellExpiry.trans (congrArg Host.Outcome.next (if_neg (by decide +kernel))),
    congrArg Host.Outcome.next ((State.on_of_alive alive _).trans (if_pos owned))⟩

theorem tieReopened_dwellHeld : TieDwellHeld tieReopened 1 0 :=
  ⟨by decide +kernel, by decide +kernel, by decide +kernel, by decide +kernel, by decide +kernel⟩

theorem tieReopened_may_close : socOf tieReopened 4 = some 2 ∧ tieReopened.saf.soc[(2 : SocId)].test = none ∧
    tieReopened.saf.soc[(2 : SocId)].cmd = false ∧ socRefusal tieReopened 2 = none ∧ tieReopened.hasRoom 2 = true := by decide +kernel

/-- The dwell leaves the tie open. -/
theorem tieReopened_stays_open : exec (.syncDwellExpiry 1) tieReopened = .next tieReopened :=
  tieReopened_dwellHeld.syncDwellExpiry.trans (congrArg Host.Outcome.next (if_pos (by decide +kernel)))

/-- Refutes O17: a tie that was commanded, opened again and is still pulled is not commanded a second time, though nothing in R361 refuses it. -/
theorem not_synchronising : ¬ Obligations.Synchronising := by
  unfold Obligations.Synchronising
  rintro ⟨-, tieClosed, -⟩
  obtain ⟨ok, held, unclosed, active, pull⟩ := tieReopened_dwellHeld
  obtain ⟨tie, untested, opened, unrefused, room⟩ := tieReopened_may_close
  obtain ⟨t, run, closed, -⟩ := tieClosed tieReopened 1 0 2 ok held unclosed active pull tie untested opened unrefused room
  obtain rfl : tieReopened = t := by injection tieReopened_stays_open.symm.trans run
  exact Bool.false_ne_true (opened.symm.trans closed)

end Sys2Proof.Machine
end

section
/-!
PROOF. Ride-through, coasting and the input PLL (R32, R107 to R117): what each timeout and each crossing writes into its stage's ride-through
and coasting, what telling of a loss and of the end of a ramp does to the stages that the input feeds, and the events that stay in the log.
-/

namespace Sys2Proof.Machine

/-! ### A stage's ride-through and coasting through a footprint -/

theorem FrtField.eq_of_same {a b : RideSt} (h : ∀ f : FrtField, f.same a b) : b = a := by
  cases a
  cases b
  simp only [RideSt.mk.injEq]
  exact ⟨h .riding, h .clearAt, h .clearBefore, h .budget, h .budgetAt, h .budgetUsed, h .peak, h .failed, h .decay, h .coasting,
    h .coastFrom, h .lowest, h .lowSince, h .shed, h .release, h .powerLimit, h .powerRef, h .lost, h .lostAt, h .confirmed, h .blocked,
    h .ramp, h .notified, h .pllF, h .pllPhase, h .pllAt, h .hold, h .holdExpired, h .crossings, h .pulsed, h .dev, h .devSince,
    h .inPast, h .aboveSince, h .vdc, h .speedDue⟩

/-- A footprint without a field of ride-through and coasting leaves every stage's alone. -/
theorem Keeps.frt {F : Nat} {s t : State} (h : Keeps F s t) (e : ∀ f : FrtField, F.testBit f.bit = false) : t.frt = s.frt := by
  ext i lt : 1
  exact FrtField.eq_of_same fun f => h.same (.frt f) (e f) ⟨i, lt⟩

@[simp] theorem ssdEnd_frt (n : StageId) (s : State) : (ssdEnd n s).frt = s.frt := (keeps_ssdEnd n s).frt fun f => by cases f <;> rfl

@[simp] theorem sendDatagram_frt (n : StageId) (s : State) : (sendDatagram n s).frt = s.frt :=
  (keeps_sendDatagram n s).frt fun f => by cases f <;> rfl

@[simp] theorem emcy_frt (e c u : Nat) (s : State) : (emcy e c u s).frt = s.frt := (keeps_emcy e c u s).frt fun f => by cases f <;> rfl

@[simp] theorem showErrors_frt (s : State) : (showErrors s).frt = s.frt := (keeps_showErrors s).frt fun f => by cases f <;> rfl

@[simp] theorem edgeSafe_frt (n : StageId) (s : State) : (edgeSafe n s).frt = s.frt := (keeps_edgeSafe n s).frt fun f => by cases f <;> rfl

@[simp] theorem showDispatching_frt (n : StageId) (s : State) : (showDispatching n s).frt = s.frt :=
  (keeps_showDispatching n s).frt fun f => by cases f <;> rfl

@[simp] theorem linkSend_frt (kind : Nat) (data : List Int) (s : State) : (linkSend kind data s).frt = s.frt :=
  (keeps_linkSend kind data s).frt fun f => by cases f <;> rfl

theorem group_FRT_CONFIG (n : StageId) : objGroup (Obj.FRT_CONFIG n) = .frt := by fin_cases n <;> rfl

theorem group_FRT_PLL_JUMP (n : StageId) : objGroup (Obj.FRT_PLL_JUMP n) = .frt := by fin_cases n <;> rfl

/-- Which stages an input feeds is configuration (R111): a footprint without the configured objects leaves it alone. -/
theorem Keeps.fedBy {F : Nat} {s t : State} (h : Keeps F s t) (frt : F.testBit (Part.obj .frt).bit = false)
    (mod : F.testBit (Part.obj .mod).bit = false) (m n : StageId) : fedBy t m n = fedBy s m n := by
  have config := h.objN (Obj.FRT_CONFIG m) (by rwa [group_FRT_CONFIG]) mod
  unfold Machine.fedBy State.bit State.field
  rw [config]

/-! ### The budget (R107, R109) -/

theorem budgetAdvance_at (n : StageId) (s : State) : (budgetAdvance n s).frt[n] = { s.frt[n] with
    budget := budgetNow s n, budgetAt := s.now,
    budgetUsed := s.frt[n].budgetUsed + if budgetFalls s.frt[n] then msOf (s.since s.frt[n].budgetAt) else 0 } :=
  vset_self _ n _ _

theorem rideEndTimeout_late {s : State} {n : StageId} {at_ : Nat} (alive : s.alive (.pier n) = true) (riding : s.frt[n].riding = true)
    (acts : rideActs s n = true) (clear : s.frt[n].clearAt = some at_) (late : 20 * cyclesMs < s.since at_) :
    exec (.rideEndTimeout n) s = .next (withdrawClear n 0 s) := by
  refine congrArg Host.Outcome.next ((State.on_of_alive alive _).trans ?_)
  rw [clear]
  exact if_pos (by rw [riding, acts, decide_eq_true late]; rfl)

/-- A clear that is withdrawn leaves the stage riding, its budget counting from this instant. -/
theorem withdrawClear_at (n : StageId) (cause : Nat) (s : State) : (withdrawClear n cause s).frt[n].riding = s.frt[n].riding ∧
    (withdrawClear n cause s).frt[n].clearAt = none ∧ (withdrawClear n cause s).frt[n].budgetAt = s.now := by
  simp only [withdrawClear, State.log_frt, State.setBit_frt, State.modRide_at, if_true, budgetAdvance_at, and_self]

theorem newEvent_withdrawClear {s : State} (n : StageId) (cause : Nat) (room : s.hasRoom 1 = true) :
    newEvent s (withdrawClear n cause s) 0x2205 [n.val, cause] = true := newEvent_log room (le_refl _) rfl

theorem faultBudgetExhausted_empty {s : State} {n : StageId} (alive : s.alive (.pier n) = true) (riding : s.frt[n].riding = true)
    (acts : rideActs s n = true) (unclear : s.frt[n].clearAt = none) (empty : budgetNow s n = 0) :
    exec (.faultBudgetExhausted n) s = .next (rideFailed n (budgetAdvance n s)) :=
  congrArg Host.Outcome.next ((State.on_of_alive alive _).trans (if_pos (by
    rw [budgetFalls, riding, unclear, acts, decide_eq_true empty]; rfl)))

theorem dropActivities_riding (n : StageId) (s : State) : (dropActivities n s).frt[n].riding = false := by
  unfold dropActivities
  simp only [State.modPier_frt, ssdEnd_frt, apply_ite State.frt, State.log_frt, State.setBit_frt, State.setField_frt, State.setR_frt,
    State.modSurvey_frt, ite_self, State.modRide_at, if_true]

/-- A stage that enters SAFE rides through no longer (R34, R98). -/
theorem stageSafe_riding {s : State} {n : StageId} (cause : Nat) (out : s.stg[n].st ≠ .safe) (halt : s.mod.mode ≠ .halt)
    (adit : s.mod.mode ≠ .adit) : (stageSafe n cause s).frt[n].riding = false := by
  have enters : ¬(s.stageSt n = .safe ∨ s.mod.mode = .halt ∨ s.mod.mode = .adit) := not_or.2 ⟨out, not_or.2 ⟨halt, adit⟩⟩
  unfold stageSafe
  rw [if_neg enters]
  simpa only [showDispatching_frt, edgeSafe_frt, showErrors_frt, emcy_frt, sendDatagram_frt, State.log_frt, apply_ite State.frt,
    State.modMod_frt, ite_self, State.setN_frt, State.modPier_frt, State.modStage_frt] using dropActivities_riding n (socLeaves n s)

theorem rideFailed_safe {s : State} {n : StageId} (out : s.stg[n].st ≠ .safe) (halt : s.mod.mode ≠ .halt) (adit : s.mod.mode ≠ .adit)
    (room : s.hasRoom 1 = true) : (rideFailed n s).stg[n].st = .safe ∧ (rideFailed n s).stg[n].cause = 0x2203 ∧
      (rideFailed n s).frt[n].riding = false ∧ (rideFailed n s).mod.stopPending ≠ none ∧
      newEvent s (rideFailed n s) 0x2203 [n.val, r32 s.frt[n].budget] = true := by
  obtain ⟨stages, event⟩ := stageSafe_logged (s := s) (u := s.setR (Obj.FRT_LAST_RIDE n) (r32 s.frt[n].budgetUsed)) (code := 0x2203)
    (cause := 0x2203) (data := [(n.val : Rat), r32 s.frt[n].budget]) out halt adit room (le_refl _) rfl
  have riding := stageSafe_riding (n := n) 0x2203
    (s := (s.setR (Obj.FRT_LAST_RIDE n) (r32 s.frt[n].budgetUsed)).log 0x2203 [(n.val : Rat), r32 s.frt[n].budget])
    (by rwa [State.log_stg]) (by rwa [State.log_mod]) (by rwa [State.log_mod])
  replace stages : (rideFailed n s).stg = _ := stages
  rw [stages, vset_self]
  exact ⟨rfl, rfl, riding, demandStop_pending _ _, newEvent_congr rfl event⟩

/-- The reactions of the chapter act neither in HALT nor in ADIT (R98). -/
theorem rideActs_out {s : State} {n : StageId} (acts : rideActs s n = true) : s.mod.mode ≠ .halt ∧ s.mod.mode ≠ .adit := by
  simp only [rideActs, Bool.and_eq_true, decide_eq_true_eq] at acts
  obtain ⟨⟨-, from_⟩, -⟩ := acts
  constructor
  all_goals
    intro mode
    rw [mode] at from_
    exact absurd from_ (by decide)

theorem r32_zero : r32 0 = 0 := by simp [r32, round32Mag]

theorem faultBudgetExhausted_safe {s : State} {n : StageId} (alive : s.alive (.pier n) = true) (riding : s.frt[n].riding = true)
    (acts : rideActs s n = true) (unclear : s.frt[n].clearAt = none) (empty : budgetNow s n = 0) (out : s.stg[n].st ≠ .safe)
    (room : s.hasRoom 1 = true) : Completes (.faultBudgetExhausted n) s fun t => t.stg[n].st = .safe ∧ t.stg[n].cause = 0x2203 ∧
      t.frt[n].riding = false ∧ t.mod.stopPending ≠ none ∧ newEvent s t 0x2203 [n.val, 0] = true := by
  obtain ⟨halt, adit⟩ := rideActs_out acts
  obtain ⟨safe, cause, ended, stop, event⟩ := rideFailed_safe (s := budgetAdvance n s) (n := n) out halt adit room
  rw [budgetAdvance_at, empty, r32_zero] at event
  exact ⟨_, faultBudgetExhausted_empty alive riding acts unclear empty, safe, cause, ended, stop, event⟩

/-! ### Coasting that fails (R116) -/

theorem coastLinkLowTimeout_due {s : State} {n : StageId} {at_ : Nat} (alive : s.alive (.pier n) = true)
    (coasting : s.frt[n].coasting = true) (acts : rideActs s n = true) (low : s.frt[n].lowSince = some at_)
    (due : s.objN (Obj.FRT_LINK_MIN_TIME n) * cyclesMs ≤ s.since at_) :
    exec (.coastLinkLowTimeout n) s = .next (coastFailed n 1 s) := by
  refine congrArg Host.Outcome.next ((State.on_of_alive alive _).trans ?_)
  rw [low]
  exact if_pos (by rw [coasting, acts, decide_eq_true due]; rfl)

theorem coastMaxTimeout_due {s : State} {n : StageId} (alive : s.alive (.pier n) = true) (coasting : s.frt[n].coasting = true)
    (acts : rideActs s n = true) (due : s.objN (Obj.FRT_COAST_MAX n) * cyclesMs ≤ s.since s.frt[n].coastFrom) :
    exec (.coastMaxTimeout n) s = .next (coastFailed n 2 s) :=
  congrArg Host.Outcome.next ((State.on_of_alive alive _).trans (if_pos (by
    rw [coasting, acts, decide_eq_true due]; rfl)))

theorem coastFailed_stops {s : State} (n : StageId) (how : Rat) (room : s.hasRoom 1 = true) :
    (coastFailed n how s).mod.stopPending ≠ none ∧
    (s.mod.stopPending = none → (coastFailed n how s).mod.stopPending = some (.fault 0x2209)) ∧
    newEvent s (coastFailed n how s) 0x2209 [n.val, how] = true := by
  refine ⟨demandStop_pending _ _, fun unstopped => ?_, newEvent_congr rfl (newEvent_log room (le_refl _) rfl)⟩
  simp only [coastFailed, demandStop, State.modMod_mod, State.log_mod, unstopped]

/-! ### The end of LIMIT (R32) -/

theorem stageLimitExit_quiet {s : State} {n : StageId} (alive : s.alive (.pier n) = true) (limit : s.stg[n].st = .limit)
    (quiet : 2 * cyclesMs ≤ s.since s.stg[n].lastLimit) :
    exec (.stageLimitExit n) s = .next (s.modStage n fun c => { c with st := .run }) :=
  congrArg Host.Outcome.next ((State.on_of_alive alive _).trans (if_pos ⟨limit, quiet⟩))

/-! ### Input loss (R110, R111) -/

theorem inputLossDc_below {s : State} {n : StageId} {level : Rat} {cycles : Nat} (alive : s.alive .edge = true)
    (may : mayLose s n 1 = true) (below : level < milli (s.objI (Obj.FRT_IN_LOSS_LEVEL n)))
    (due : s.objN (Obj.FRT_IN_LOSS_TIME n) * 4096 ≤ 10 * cycles) :
    exec (.inputLossDc n ⟨level, cycles⟩) s = .next (inputLost n level s) :=
  congrArg Host.Outcome.next ((State.on_of_alive alive _).trans (if_pos (by simp [may, below, due])))

theorem inputLossAc_beyond {s : State} {n : StageId} {at_ : Nat} {vin : Rat} (alive : s.alive (.pier n) = true)
    (may : mayLose s n 2 = true) (since : s.frt[n].devSince = some at_)
    (beyond : milli (s.objI (Obj.FRT_AC_LOSS_DEV n)) < inputDeviation s n vin)
    (due : s.objN (Obj.FRT_IN_LOSS_TIME n) * 4096 ≤ 10 * s.since at_) :
    exec (.inputLossAc n vin) s = .next (inputLost n (inputDeviation s n vin) s) := by
  refine congrArg Host.Outcome.next ((State.on_of_alive alive _).trans ?_)
  rw [since]
  exact if_pos (by simp [may, deviates, beyond, due])

/-- Only a stage configured for an AC input may lose one (R110). -/
theorem mayLose_ac {s : State} {n : StageId} (may : mayLose s n 2 = true) : s.field (Obj.FRT_CONFIG n) 0 2 = 2 := by
  simp only [mayLose, Bool.and_eq_true, beq_iff_eq] at may
  obtain ⟨⟨-, role⟩, -⟩ := may
  unfold inputRole at role
  split at role
  · exact role
  · exact absurd role (by decide)

/-- The PLL of an AC input enters hold, or goes on in the hold it is in (R117). -/
def holdPll (n : StageId) (ac : Bool) (s : State) : State :=
  if ac then
    (s.modRide n fun f => { f with hold := some (f.hold.getD s.now), holdExpired := f.holdExpired && f.hold.isSome }).setBit
      (Obj.FRT_STATUS n) 10 true else s

/-- What a loss leaves at the input stage itself, before the stages that it feeds are told (R111, R117). -/
def markLoss (n : StageId) (dat : Rat) (s : State) : State :=
  let blocked := edgeBlock n true s
  let lost := blocked.modRide n fun f =>
    { f with lost := true, lostAt := blocked.now, confirmed := false, blocked := true, ramp := none, crossings := [] }
  let shown := (lost.setBit (Obj.FRT_STATUS n) 7 true).setBit (Obj.FRT_STATUS n) 9 false
  ((holdPll n (s.field (Obj.FRT_CONFIG n) 0 2 == 2) shown).bump (Obj.FRT_COAST_COUNT n)).log 0x2206 [n.val, dat]

/-- In a viaduct the partner is told across the Clauz link (R111). -/
def tellPartner (data : List Int) (s : State) : State := if isViaduct s then linkSend 0x2206 data s else s

/-- Stage m is told that input stage n lost its input (R111). -/
def tellLoss (n : StageId) (s : State) (m : StageId) : State :=
  if fedBy s m n && s.alive (.pier m) then s.modRide m fun f => { f with notified := true } else s

theorem inputLost_eq (n : StageId) (dat : Rat) (s : State) : inputLost n dat s =
    if (markLoss n dat s).mod.mode = .charge then markLoss n dat s
    else allStages.foldl (tellLoss n) (tellPartner [n.val, 1] (markLoss n dat s)) := rfl

@[simp] theorem edgeBlock_frt (n : StageId) (on : Bool) (s : State) : (edgeBlock n on s).frt = s.frt :=
  (keeps_edgeBlock n on s).frt fun f => by cases f <;> rfl

theorem holdPll_at (n : StageId) (ac : Bool) (s : State) : (holdPll n ac s).frt[n] = { s.frt[n] with
    hold := if ac then some (s.frt[n].hold.getD s.now) else s.frt[n].hold,
    holdExpired := if ac then s.frt[n].holdExpired && s.frt[n].hold.isSome else s.frt[n].holdExpired } := by
  cases ac
  case false => rfl
  case true => exact vset_self _ n _ _

/-- What inputLost may write: outputs, the log, FRT_STATUS and FRT_COAST_COUNT, and the loss's fields of the input stages. -/
abbrev lossParts : Nat := 0x800030000000000000000071f80000000000000000000000000000000000000000000004000000000000020800201000000000000000000140

theorem keeps_holdPll {s t : State} (n : StageId) (ac : Bool) (h : Keeps lossParts s t) : Keeps lossParts s (holdPll n ac t) := by
  refine .ite (.setBit .FRT_STATUS (group_FRT_STATUS n) (by decide) _ _ (.modRide (FrtField.upd_of fun f x e => ?_) h)) h
  cases f
  case hold | holdExpired => exact Keeps.no rfl e
  all_goals rfl

theorem keeps_markLoss (n : StageId) (dat : Rat) (s : State) : Keeps lossParts s (markLoss n dat s) := by
  refine .step (keeps_State_log _ _ _) (by decide) (.bump .FRT_COAST_COUNT (group_FRT_COAST_COUNT n) (by decide) (keeps_holdPll n _
    (.setBit .FRT_STATUS (group_FRT_STATUS n) (by decide) _ _ (.setBit .FRT_STATUS (group_FRT_STATUS n) (by decide) _ _
      (.modRide (FrtField.upd_of fun f x e => ?_) (.step (keeps_edgeBlock n true s) (by decide) (.refl s)))))))
  cases f
  case lost | lostAt | confirmed | blocked | ramp | crossings => exact Keeps.no rfl e
  all_goals rfl

theorem keeps_tellPartner {s t : State} (data : List Int) (h : Keeps lossParts s t) : Keeps lossParts s (tellPartner data t) :=
  .ite (.step (keeps_linkSend _ _ _) (by decide) h) h

@[simp] theorem tellPartner_frt (data : List Int) (s : State) : (tellPartner data s).frt = s.frt := by
  unfold tellPartner
  split
  · exact linkSend_frt _ _ _
  · rfl

/-- The input stage is marked lost and blocked, an AC one with its PLL in hold, and event 0x2206 stands in the log (R111, R117). -/
structure LossMarked (n : StageId) (dat : Rat) (s t : State) : Prop where
  lost : t.frt[n].lost = true
  lostAt : t.frt[n].lostAt = s.now
  blocked : t.frt[n].blocked = true
  hold : s.field (Obj.FRT_CONFIG n) 0 2 = 2 → t.frt[n].hold ≠ none
  event : newEvent s t 0x2206 [n.val, dat] = true

theorem markLoss_event {s : State} (n : StageId) (dat : Rat) (room : s.hasRoom 1 = true) :
    newEvent s (markLoss n dat s) 0x2206 [n.val, dat] = true := by
  have blocked := keeps_edgeBlock n true s
  have buffer : (edgeBlock n true s).logBuf = s.logBuf := (blocked.same .log rfl).1
  have now : (edgeBlock n true s).isl.mt = s.isl.mt := blocked.same (.isl .mt) rfl
  unfold markLoss holdPll
  dsimp only
  split
  all_goals exact newEvent_log (hasRoom_eq room buffer) blocked.seq now

theorem markLoss_marked {s : State} (n : StageId) (dat : Rat) (room : s.hasRoom 1 = true) : LossMarked n dat s (markLoss n dat s) := by
  have now : (edgeBlock n true s).now = s.now := (keeps_edgeBlock n true s).same (.isl .mt) rfl
  constructor
  case event => exact markLoss_event n dat room
  case hold =>
    intro ac
    simp only [markLoss, State.log_frt, State.bump_frt, holdPll_at, ac, beq_self_eq_true, if_true]
    exact Option.some_ne_none _
  all_goals simp only [markLoss, State.log_frt, State.bump_frt, holdPll_at, State.setBit_frt, State.modRide_at, if_true, edgeBlock_frt, now]

theorem fedBy_tellLoss (n k m : StageId) (s : State) : fedBy (tellLoss n s k) m n = fedBy s m n := by
  unfold tellLoss
  split <;> rfl

theorem tellLoss_alive (n k : StageId) (s : State) (i : Island) : (tellLoss n s k).alive i = s.alive i := by
  unfold tellLoss
  split <;> rfl

theorem tellLoss_at (n k m : StageId) (s : State) : (tellLoss n s k).frt[m] = { s.frt[m] with
    notified := s.frt[m].notified || (decide (m = k) && fedBy s m n && s.alive (.pier m)) } := by
  by_cases own : m = k
  · subst own
    unfold tellLoss
    split
    next told => simp [told]
    next untold => simp [untold]
  · have other : SameBut (·.frt) k s (tellLoss n s k) := .ite (.of_set rfl) (.refl s)
    rw [other m own, decide_eq_false own, Bool.false_and, Bool.false_and, Bool.or_false]

/-- Telling the stages that an input feeds writes only that they have been told. -/
theorem foldl_tellLoss_at (n m : StageId) (l : List StageId) (s : State) : (l.foldl (tellLoss n) s).frt[m] = { s.frt[m] with
    notified := s.frt[m].notified || (decide (m ∈ l) && fedBy s m n && s.alive (.pier m)) } := by
  induction l generalizing s with
  | nil => simp
  | cons k l ih =>
    rw [List.foldl_cons, ih, tellLoss_at, fedBy_tellLoss, tellLoss_alive]
    simp only [List.mem_cons, Bool.decide_or, Bool.and_or_distrib_right, Bool.or_assoc]

theorem foldl_tellLoss_logBuf (n : StageId) (l : List StageId) (s : State) : (l.foldl (tellLoss n) s).logBuf = s.logBuf := by
  refine foldl_keeps (get := State.logBuf) (fun s m => ?_) l s
  unfold tellLoss
  split <;> rfl

/-- The stages that are told take nothing from the mark on the input stage. -/
theorem LossMarked.tell {n : StageId} {dat : Rat} {s t : State} (h : LossMarked n dat s t) (data : List Int) :
    LossMarked n dat s (allStages.foldl (tellLoss n) (tellPartner data t)) := by
  obtain ⟨lost, lostAt, blocked, hold, event⟩ := h
  constructor
  case event => exact newEvent_congr (foldl_tellLoss_logBuf n _ _) (newEvent_keeps (keeps_tellPartner data (.refl t)) rfl event)
  all_goals
    rw [foldl_tellLoss_at, tellPartner_frt]
    assumption

theorem inputLost_marked {s : State} (n : StageId) (dat : Rat) (room : s.hasRoom 1 = true) : LossMarked n dat s (inputLost n dat s) := by
  have marked := markLoss_marked n dat room
  rw [inputLost_eq]
  split
  · exact marked
  · exact marked.tell _

/-- Outside CHARGE every living stage that the input feeds is told (R111). -/
theorem inputLost_told {s : State} {n m : StageId} (dat : Rat) (mode : s.mod.mode ≠ .charge) (fed : fedBy s m n = true)
    (alive : s.alive (.pier m) = true) : (inputLost n dat s).frt[m].notified = true := by
  have marked := keeps_markLoss n dat s
  have told := keeps_tellPartner [n.val, 1] marked
  rw [inputLost_eq, if_neg (by rwa [marked.mode rfl]), foldl_tellLoss_at]
  simp [mem_allStages, told.fedBy rfl rfl, fed, told.alive _ rfl rfl rfl, alive]

/-! ### Input return and the end of its ramp (R114, R115) -/

theorem inputReturnConfirm_returned {s : State} {n : StageId} (alive : s.alive (.pier n) = true) (acts : inputActs s n = true)
    (lost : s.frt[n].lost = true) (released : s.frt[n].hold = none) (returned : inputReturned s n = true) (room : s.hasRoom 1 = true) :
    Completes (.inputReturnConfirm n) s fun t => t.frt[n].lost = false ∧ t.frt[n].confirmed = true ∧
      newEvent s t 0x2207 [n.val, r32 (msOf (s.since s.frt[n].lostAt))] = true := by
  refine ⟨_, congrArg Host.Outcome.next ((State.on_of_alive alive _).trans (if_pos (by rw [acts, lost, released, returned]; rfl))), ?_⟩
  dsimp only
  rw [State.log_frt, State.setR_frt, State.setBit_frt, State.modRide_at, if_pos rfl]
  exact ⟨rfl, rfl, newEvent_log room (le_refl _) rfl⟩

/-- The ramp of input stage n is over (R114). -/
def endRamp (n : StageId) (s : State) : State := (s.modRide n fun f => { f with ramp := none }).setBit (Obj.FRT_STATUS n) 9 false

/-- A footprint with the ramp and FRT_STATUS. -/
abbrev rampParts : Nat := 0x800000000000000000000000000000000000000000000000000000000000000000200000000000000000000000

theorem keeps_endRamp (n : StageId) (s : State) : Keeps rampParts s (endRamp n s) := by
  refine .setBit .FRT_STATUS (group_FRT_STATUS n) (by decide) _ _ (.modRide (FrtField.upd_of fun f x e => ?_) (.refl s))
  cases f
  case ramp => exact Keeps.no rfl e
  all_goals rfl

/-- Stage m stops coasting where input stage n feeds it (R115). -/
def endFed (n : StageId) (s : State) (m : StageId) : State := if fedBy s m n then coastEnd m s else s

theorem inputRampComplete_due {s : State} {n : StageId} {g : Glide} (alive : s.alive (.pier n) = true) (ramp : s.frt[n].ramp = some g)
    (due : g.dur ≤ s.since g.start) :
    exec (.inputRampComplete n) s = .next (allStages.foldl (endFed n) (tellPartner [n.val, 0] (endRamp n s))) := by
  refine congrArg Host.Outcome.next ((State.on_of_alive alive _).trans ?_)
  rw [ramp]
  exact if_pos due

theorem coastEnd_at (m : StageId) (s : State) : (coastEnd m s).frt[m].coasting = false ∧
    (coastEnd m s).frt[m].notified = (s.frt[m].notified && s.frt[m].coasting) := by
  have told : ∀ k v u, (setShed m k v u).frt[m].notified = u.frt[m].notified := fun k v u =>
    (keeps_setShed m k v u).same (.frt .notified) rfl m
  cases coasting : s.frt[m].coasting with
  | false =>
    have run : coastEnd m s = s.modRide m fun f => { f with notified := false } := if_pos (by rw [coasting]; rfl)
    rw [run, State.modRide_at, if_pos rfl, Bool.and_false]
    exact ⟨coasting, rfl⟩
  | true =>
    unfold coastEnd
    dsimp only
    rw [if_neg (by rw [coasting]; decide), Bool.and_true]
    simp only [State.setBit_frt, State.modRide_at, if_true, told, State.log_frt, and_self]

theorem setShed_other (m : StageId) (k : Nat) (v : Rat) (s : State) : SameBut (·.frt) m s (setShed m k v s) := by
  unfold setShed
  exact .ite (.refl s) (.of_set (State.log_frt _ _ _))

theorem coastEnd_other (m : StageId) (s : State) : SameBut (·.frt) m s (coastEnd m s) := by
  unfold coastEnd
  refine .ite (.of_set rfl) ?_
  have shed := (setShed_other m 0 s.frt[m].vdc (s.log 0x2208 [m.val, s.frt[m].lowest])).after (State.log_frt _ _ _)
  exact shed.trans (.of_set rfl)

theorem endFed_other (n m : StageId) (s : State) : SameBut (·.frt) m s (endFed n s m) := .ite (coastEnd_other m s) (.refl s)

theorem fedBy_endFed (n k m : StageId) (s : State) : fedBy (endFed n s k) m n = fedBy s m n := by
  unfold endFed
  split
  · exact (keeps_coastEnd k s).fedBy rfl rfl m n
  · rfl

theorem endFed_ramp (n k : StageId) (s : State) (m : StageId) : (endFed n s k).frt[m].ramp = s.frt[m].ramp := by
  unfold endFed
  split
  · exact (keeps_coastEnd k s).same (.frt .ramp) rfl m
  · rfl

theorem foldl_endFed_other {n m : StageId} {l : List StageId} (out : m ∉ l) (s : State) : (l.foldl (endFed n) s).frt[m] = s.frt[m] := by
  induction l generalizing s with
  | nil => rfl
  | cons k l ih =>
    obtain ⟨other, rest⟩ := not_or.1 (mt List.mem_cons.2 out)
    rw [List.foldl_cons, ih rest, endFed_other n k s m other]

/-- Each stage that the input feeds stops coasting once. -/
theorem foldl_endFed_at {n m : StageId} {l : List StageId} (once : l.Nodup) (mem : m ∈ l) {s : State} (fed : fedBy s m n = true) :
    (l.foldl (endFed n) s).frt[m].coasting = false ∧
    (l.foldl (endFed n) s).frt[m].notified = (s.frt[m].notified && s.frt[m].coasting) := by
  induction l generalizing s with
  | nil => exact absurd mem List.not_mem_nil
  | cons k l ih =>
    obtain ⟨out, once⟩ := List.nodup_cons.1 once
    rw [List.foldl_cons]
    by_cases own : m = k
    · subst own
      rw [foldl_endFed_other out, endFed, if_pos fed]
      exact coastEnd_at m s
    · have later := ih once ((List.mem_cons.1 mem).resolve_left own) (s := endFed n s k) (by rwa [fedBy_endFed])
      rwa [endFed_other n k s m own] at later

theorem inputRampComplete_ends {s : State} {n : StageId} {g : Glide} (alive : s.alive (.pier n) = true) (ramp : s.frt[n].ramp = some g)
    (due : g.dur ≤ s.since g.start) : Completes (.inputRampComplete n) s fun t => t.frt[n].ramp = none ∧
      (∀ m : StageId, fedBy s m n = true → t.frt[m].coasting = false ∧
        t.frt[m].notified = (s.frt[m].notified && s.frt[m].coasting)) := by
  refine ⟨_, inputRampComplete_due alive ramp due, ?_, fun m fed => ?_⟩
  · rw [foldl_keeps (get := fun s => s.frt[n].ramp) (fun s k => endFed_ramp n k s n), tellPartner_frt, endRamp, State.setBit_frt,
      State.modRide_at, if_pos rfl]
  · have rampOver := keeps_endRamp n s
    have partnerTold := keeps_tellPartner [n.val, 0] (.refl (endRamp n s))
    have notified : (endRamp n s).frt[m].notified = s.frt[m].notified := rampOver.same (.frt .notified) rfl m
    have coasting : (endRamp n s).frt[m].coasting = s.frt[m].coasting := rampOver.same (.frt .coasting) rfl m
    have ended := foldl_endFed_at (by decide) (mem_allStages m) (s := tellPartner [n.val, 0] (endRamp n s)) (n := n)
      (by rwa [partnerTold.fedBy rfl rfl, rampOver.fedBy rfl rfl])
    rwa [tellPartner_frt, notified, coasting] at ended

theorem coastReleaseEnd_due {s : State} {n : StageId} {g : Glide} (alive : s.alive (.pier n) = true) (release : s.frt[n].release = some g)
    (due : g.dur ≤ s.since g.start) : exec (.coastReleaseEnd n) s =
    .next (((s.modRide n fun f => { f with release := none, powerLimit := 1 }).modPier n fun p => { p with law := { p.law with dPc := 0 } }).setR
      (Obj.FRT_DELTA_P_COAST n) 0) := by
  refine congrArg Host.Outcome.next ((State.on_of_alive alive _).trans ?_)
  rw [release]
  exact if_pos due

theorem coastReleaseEnd_releases {s : State} {n : StageId} {g : Glide} (alive : s.alive (.pier n) = true)
    (release : s.frt[n].release = some g) (due : g.dur ≤ s.since g.start) : Completes (.coastReleaseEnd n) s fun t =>
      t.frt[n].release = none ∧ t.frt[n].powerLimit = 1 ∧ t.pie[n].law.dPc = 0 := by
  refine ⟨_, coastReleaseEnd_due alive release due, ?_⟩
  dsimp only
  rw [State.setR_frt, State.modPier_frt, State.modRide_at, if_pos rfl, State.setR_pie, State.modPier_at, if_pos rfl]
  exact ⟨rfl, rfl, rfl⟩

/-! ### The input PLL (R117) -/

theorem inputPllHoldExpiry_due {s : State} {n : StageId} {at_ : Nat} (alive : s.alive (.pier n) = true) (hold : s.frt[n].hold = some at_)
    (fresh : s.frt[n].holdExpired = false) (acts : inputActs s n = true)
    (due : s.objN (Obj.FRT_PLL_HOLD n) * cyclesMs ≤ s.since at_) : exec (.inputPllHoldExpiry n) s =
    .next ((s.modRide n fun f => { f with holdExpired := true }).log 0x220B [n.val, s.frt[n].pllF]) := by
  refine congrArg Host.Outcome.next ((State.on_of_alive alive _).trans ?_)
  rw [hold]
  exact if_pos (by rw [acts, fresh, decide_eq_true due]; rfl)

/-- The phase of a crossing: 0 for rising, half a turn for falling (R117). -/
def crossingPhase (rising : Bool) : Nat := if rising then 0 else 2147483648

/-- The held phase's error at a crossing, in degrees (R117). -/
def crossingError (f : RideSt) (now : Nat) (rising : Bool) : Rat :=
  angleDeg (addAngle (heldPhase f now) (-(crossingPhase rising : Int)))

/-- A crossing of an input that is lost and in hold counts where its swing reaches FRT_ZC_HYST; the first one also needs the input's return
(R117). -/
structure CrossingCounts (s : State) (n : StageId) (swing : Rat) (at_ : Nat) : Prop where
  alive : s.alive (.pier n) = true
  acts : inputActs s n = true
  swings : milli (s.objI (Obj.FRT_ZC_HYST n)) ≤ swing
  hold : s.frt[n].hold = some at_
  lost : s.frt[n].lost = true

/-- A footprint with FRT_LAST_JUMP alone. -/
abbrev lastJumpPart : Nat := 2 ^ (Part.obj .FRT_LAST_JUMP).bit

theorem keeps_setR_lastJump (n : StageId) (q : Rat) (s : State) : Keeps lastJumpPart s (s.setR (Obj.FRT_LAST_JUMP n) q) :=
  .setR .FRT_LAST_JUMP (group_FRT_LAST_JUMP n) (by decide) q (.refl s)

/-- The PLL resumes from hold with the phase of the crossing (R117). -/
def resumePll (n : StageId) (phase : Nat) (s : State) : State :=
  (s.modRide n fun f => { f with hold := none, pllPhase := phase, pllAt := s.now }).setBit (Obj.FRT_STATUS n) 10 false

/-- The first crossing is kept towards a re-seed (R117). -/
def keepCrossing (n : StageId) (rising : Bool) (s : State) : State :=
  (s.modRide n fun f => { f with crossings := [(s.now, rising)] }).setBit (Obj.FRT_STATUS n) 11 true

/-- Three alternating crossings start the PLL anew (R117). -/
def reseedPll (n : StageId) (freq : Rat) (phase : Nat) (s : State) : State :=
  let seeded := s.modRide n fun f =>
    { f with hold := none, holdExpired := false, crossings := [], pllF := freq, pllPhase := phase, pllAt := s.now }
  let shown := (seeded.setField (Obj.FRT_STATUS n) 10 2 0).setR (Obj.FRT_IN_PLL_F n) freq
  shown.log 0x220A [n.val, shown.objR (Obj.FRT_LAST_JUMP n), freq]

theorem resumePll_at (n : StageId) (phase : Nat) (s : State) :
    (resumePll n phase s).frt[n] = { s.frt[n] with hold := none, pllPhase := phase, pllAt := s.now } := vset_self _ n _ _

theorem keepCrossing_at (n : StageId) (rising : Bool) (s : State) :
    (keepCrossing n rising s).frt[n] = { s.frt[n] with crossings := [(s.now, rising)] } := vset_self _ n _ _

theorem reseedPll_at (n : StageId) (freq : Rat) (phase : Nat) (s : State) : (reseedPll n freq phase s).frt[n] = { s.frt[n] with
    hold := none, holdExpired := false, crossings := [], pllF := freq, pllPhase := phase, pllAt := s.now } := by
  simp only [reseedPll, State.log_frt, State.setR_frt, State.setField_frt, State.modRide_at, if_true]

theorem CrossingCounts.first {s : State} {n : StageId} {swing : Rat} {at_ : Nat} (h : CrossingCounts s n swing at_) (rising : Bool)
    (returned : inputReturned s n = true) (uncrossed : s.frt[n].crossings = []) : exec (.inputZeroCrossing n ⟨rising, swing⟩) s =
    .next (if s.frt[n].holdExpired = false ∧ absR (crossingError s.frt[n] s.now rising) * 10 ≤ (s.objN (Obj.FRT_PLL_JUMP n) : Nat) then
        resumePll n (crossingPhase rising) (s.setR (Obj.FRT_LAST_JUMP n) (crossingError s.frt[n] s.now rising))
      else keepCrossing n rising (s.setR (Obj.FRT_LAST_JUMP n) (crossingError s.frt[n] s.now rising))) := by
  obtain ⟨alive, acts, swings, hold, lost⟩ := h
  have jump (q : Rat) : (s.setR (Obj.FRT_LAST_JUMP n) q).objN (Obj.FRT_PLL_JUMP n) = s.objN (Obj.FRT_PLL_JUMP n) :=
    (keeps_setR_lastJump n q s).objN _ (by rw [group_FRT_PLL_JUMP]; rfl) rfl
  refine congrArg Host.Outcome.next ((State.on_of_alive alive _).trans ((if_neg (by
    rw [acts, hold, lost, returned, decide_eq_false (not_lt.2 swings), uncrossed]; exact Bool.false_ne_true)).trans ?_))
  dsimp only
  rw [uncrossed]
  refine if_congr ?_ rfl rfl
  rw [jump, Bool.and_eq_true, Bool.not_eq_true', decide_eq_true_eq]
  rfl

theorem CrossingCounts.third {s : State} {n : StageId} {swing : Rat} {at_ z1 z2 : Nat} (h : CrossingCounts s n swing at_) {rising : Bool}
    (crossed : s.frt[n].crossings = [(z1, rising), (z2, !rising)]) (later : z1 < s.now) :
    exec (.inputZeroCrossing n ⟨rising, swing⟩) s =
    .next (reseedPll n (r32 (mkRat 409600000 (s.now - z1))) (crossingPhase rising) s) := by
  obtain ⟨alive, acts, swings, hold, lost⟩ := h
  refine congrArg Host.Outcome.next ((State.on_of_alive alive _).trans ((if_neg (by
    rw [acts, hold, lost, decide_eq_false (not_lt.2 swings), crossed]; exact Bool.false_ne_true)).trans ?_))
  dsimp only
  rw [crossed]
  exact if_neg (not_or.2 ⟨Bool.not_ne_self rising, not_le.2 later⟩)

/-- The first crossing after the input's return resumes the PLL where its held phase is near, and else counts towards a re-seed. -/
theorem CrossingCounts.resumes {s : State} {n : StageId} {swing : Rat} {at_ : Nat} (h : CrossingCounts s n swing at_) (rising : Bool)
    (returned : inputReturned s n = true) (uncrossed : s.frt[n].crossings = []) :
    Completes (.inputZeroCrossing n ⟨rising, swing⟩) s fun t =>
      if s.frt[n].holdExpired = false ∧ absR (crossingError s.frt[n] s.now rising) * 10 ≤ (s.objN (Obj.FRT_PLL_JUMP n) : Nat) then
        t.frt[n].hold = none ∧ t.frt[n].pllAt = s.now ∧ t.frt[n].pllPhase = crossingPhase rising
      else t.frt[n].hold = some at_ ∧ t.frt[n].crossings = [(s.now, rising)] := by
  refine ⟨_, h.first rising returned uncrossed, ?_⟩
  split
  next => rw [resumePll_at]; exact ⟨rfl, rfl, rfl⟩
  next => rw [keepCrossing_at]; exact ⟨h.hold, rfl⟩

/-- Settles O18: each command of the chapter, where R98 lets it act, is one of the operations above, and each operation writes what R107 to
R117 name at its own stage and keeps its event. -/
theorem rideThroughAndInputLoss : Obligations.RideThroughAndInputLoss := by
  unfold Obligations.RideThroughAndInputLoss
  refine ⟨?clearWithdrawn, ?budget, ?linkLow, ?coastMax, ?limit, ?lossDc, ?lossAc, ?return_, ?ramp, ?release, ?holdExpiry, ?first, ?third⟩
  case clearWithdrawn =>
    intro s n at_ alive riding acts clear late room
    obtain ⟨rides, unclear, from_⟩ := withdrawClear_at n 0 s
    exact ⟨_, rideEndTimeout_late alive riding acts clear late, rides.trans riding, unclear, from_, newEvent_withdrawClear n 0 room⟩
  case budget =>
    exact fun s n alive riding acts unclear empty out _ room => faultBudgetExhausted_safe alive riding acts unclear empty out room
  case linkLow =>
    exact fun s n at_ alive coasting acts low due room =>
      ⟨_, coastLinkLowTimeout_due alive coasting acts low due, coastFailed_stops n 1 room⟩
  case coastMax =>
    exact fun s n alive coasting acts due room => ⟨_, coastMaxTimeout_due alive coasting acts due, coastFailed_stops n 2 room⟩
  case limit =>
    intro s n alive limit quiet
    refine ⟨_, stageLimitExit_quiet alive limit quiet, ?_, rfl⟩
    rw [State.modStage_at, if_pos rfl]
  case lossDc =>
    intro s n level cycles alive may below due room
    obtain ⟨lost, lostAt, blocked, -, event⟩ := inputLost_marked n level room
    exact ⟨_, inputLossDc_below alive may below due, lost, lostAt, blocked, event, fun mode m fed fedAlive =>
      inputLost_told level mode fed fedAlive⟩
  case lossAc =>
    intro s n at_ vin alive may since beyond due room
    obtain ⟨lost, -, blocked, hold, event⟩ := inputLost_marked n (inputDeviation s n vin) room
    exact ⟨_, inputLossAc_beyond alive may since beyond due, lost, blocked, hold (mayLose_ac may), event⟩
  case return_ =>
    exact fun s n alive acts lost released returned room => inputReturnConfirm_returned alive acts lost released returned room
  case ramp => exact fun s n g alive ramp due => inputRampComplete_ends alive ramp due
  case release => exact fun s n g alive release due => coastReleaseEnd_releases alive release due
  case holdExpiry =>
    intro s n at_ alive hold fresh acts due room
    refine ⟨_, inputPllHoldExpiry_due alive hold fresh acts due, ?_⟩
    dsimp only
    rw [State.log_frt, State.modRide_at, if_pos rfl]
    exact ⟨rfl, rfl, newEvent_log room (le_refl _) rfl⟩
  case first =>
    exact fun s n rising swing at_ alive acts swings returned hold lost uncrossed =>
      CrossingCounts.resumes ⟨alive, acts, swings, hold, lost⟩ rising returned uncrossed
  case third =>
    intro s n rising swing at_ z1 z2 alive acts swings hold lost crossed later
    refine ⟨_, CrossingCounts.third ⟨alive, acts, swings, hold, lost⟩ crossed later, ?_⟩
    dsimp only
    rw [reseedPll_at]
    exact ⟨rfl, rfl, rfl, rfl⟩

end Sys2Proof.Machine
end

section
/-!
PROOF. What SRV_STATUS reads after a survey round has ended (R125, R128, R136): ROUND_ACTIVE is 0 after every command that ends a round on a
state that meets the invariant, and still 1 where the store of objects lists SRV_STATUS twice, which no run leads to.
-/

namespace Sys2Proof.Machine

/-! ### A stage without a round -/

/-- A bit of a word stands when a higher one is written. -/
theorem State.bit_setBit_above {s : State} (wf : cellsWf s.objs = true) (key : Nat) {k j : Nat} (above : k + 1 ≤ j) (b : Bool) :
    (s.setBit key j b).bit key k = s.bit key k := by
  unfold State.setBit State.setField State.bit State.field
  rw [State.objN_setN wf, bitsAt_setBitsAt_below above]

/-- Stage n is in no round, keeps no record of one, and says so in SRV_STATUS. -/
structure RoundEnded (n : StageId) (s : State) : Prop where
  inv : Inv s
  inactive : s.srv[n].active = false
  dropped : s.srv[n].record = []
  shown : s.bit (Obj.SRV_STATUS n) 0 = false

/-- A footprint without what says that a stage is in a round. -/
def sparesRounds (F : Nat) : Bool := !F.testBit (Part.srv .active).bit && !F.testBit (Part.srv .record).bit &&
  !F.testBit (Part.obj .SRV_STATUS).bit && !F.testBit (Part.obj .mod).bit

namespace RoundEnded

theorem ofRoundOver {s : State} (inv : Inv s) (n : StageId) : RoundEnded n (roundOver n s) := by
  have now : (roundOver n s).srv[n] = { s.srv[n] with active := false, record := [] } := vset_self _ n _ _
  refine ⟨(keeps_roundOver n s).inv inv, ?_, ?_, State.bit_setBit inv.objs _ _ _⟩
  all_goals rw [now]

theorem keeps {F : Nat} {n : StageId} {s t : State} (h : RoundEnded n s) (k : Keeps F s t) (spares : sparesRounds F = true) :
    RoundEnded n t := by
  simp only [sparesRounds, Bool.and_eq_true, Bool.not_eq_true'] at spares
  obtain ⟨⟨⟨active, record⟩, status⟩, mod⟩ := spares
  have own : F.testBit (Part.obj (objGroup (Obj.SRV_STATUS n))).bit = false := by rw [group_SRV_STATUS n]; exact status
  exact ⟨k.inv h.inv, (k.same (.srv .active) active n).trans h.inactive, (k.same (.srv .record) record n).trans h.dropped,
    (k.bit' (Obj.SRV_STATUS n) 0 own mod).trans h.shown⟩

theorem log {n : StageId} {s : State} (h : RoundEnded n s) (code : Nat) (data : List Rat) : RoundEnded n (s.log code data) :=
  h.keeps (keeps_State_log s code data) rfl

theorem setObj {n : StageId} {s : State} (h : RoundEnded n s) {key : Nat} {g : ObjGroup} (hg : objGroup key = g)
    (spares : sparesRounds (2 ^ (Part.obj g).bit) = true) (v : Val) : RoundEnded n (s.setObj key v) :=
  h.keeps (Keeps.setObj g hg Nat.testBit_two_pow_self v (.refl s)) spares

/-- The other bits of SRV_STATUS. -/
theorem setStatus {n : StageId} {s : State} (h : RoundEnded n s) {j : Nat} (other : 1 ≤ j) (b : Bool) :
    RoundEnded n (s.setBit (Obj.SRV_STATUS n) j b) :=
  ⟨(Keeps.setBit .SRV_STATUS (group_SRV_STATUS n) Nat.testBit_two_pow_self j b (.refl s)).inv h.inv, h.inactive, h.dropped,
    (State.bit_setBit_above h.inv.objs _ other b).trans h.shown⟩

theorem modSurvey {n : StageId} {s : State} (h : RoundEnded n s) {f : SurveySt → SurveySt} (active : ∀ v, (f v).active = v.active)
    (record : ∀ v, (f v).record = v.record) : RoundEnded n (s.modSurvey n f) := by
  have now : (s.modSurvey n f).srv[n] = f s.srv[n] := vset_self _ n _ _
  refine ⟨⟨h.inv.objs, h.inv.saved, ⟨h.inv.log.rising, h.inv.log.below, h.inv.log.room⟩⟩, ?_, ?_, h.shown⟩
  · rw [now, active, h.inactive]
  · rw [now, record, h.dropped]

theorem ite {n : StageId} {s t : State} {c : Prop} [Decidable c] (hs : RoundEnded n s) (ht : RoundEnded n t) :
    RoundEnded n (if c then s else t) := by split <;> assumption

/-! ### What the end of a round does besides -/

theorem checkChange {n : StageId} {s : State} (h : RoundEnded n s) (r : RoundFound) : RoundEnded n (checkChange n r s) := by
  unfold Machine.checkChange
  split
  next => exact h
  next o _ =>
    refine ite h ?_
    extract_lets +onlyGivenNames v checked pk0 worse
    have hChecked : RoundEnded n checked := h.modSurvey (fun _ => rfl) fun _ => rfl
    refine ite hChecked ?_
    extract_lets +onlyGivenNames b vi kc no back held viShown noShown
    have hBack : RoundEnded n back := (hChecked.keeps (keeps_setOffsets ..) rfl).keeps (keeps_sendOffsets ..) rfl
    have hHeld : RoundEnded n held := hBack.modSurvey (fun _ => rfl) fun _ => rfl
    have hVi : RoundEnded n viShown := ite ((hHeld.setStatus (by decide) _).log _ _) hHeld
    have hNo : RoundEnded n noShown := ite ((hVi.setStatus (by decide) _).log _ _) hVi
    exact ite ((hNo.setStatus (by decide) _).log _ _) hNo

theorem adapt {n : StageId} {s : State} (h : RoundEnded n s) (r : RoundFound) : RoundEnded n (adapt n r s) := by
  unfold Machine.adapt
  refine ite h ?_
  extract_lets +onlyGivenNames v
  split
  next x k f bound _ =>
    extract_lets +onlyGivenNames rAd shown e drawn
    have hDrawn : RoundEnded n drawn := (h.setStatus (by decide) _).keeps (keeps_State_draw _) rfl
    split
    next => exact (hDrawn.setStatus (by decide) _).log _ _
    next =>
      extract_lets +onlyGivenNames passed old moved kept
      have hPassed : RoundEnded n passed := hDrawn.setStatus (by decide) _
      have hMoved : RoundEnded n moved := hPassed.keeps (keeps_setOffsets ..) rfl
      have hKept : RoundEnded n kept := hMoved.modSurvey (fun _ => rfl) fun _ => rfl
      exact ite hPassed ((hKept.keeps (keeps_sendOffsets ..) rfl).log _ _)

end RoundEnded

/-! ### The end of a round -/

/-- A round of stage n is in progress, and its length has passed at an instant that module time has reached (R128). -/
structure RoundPassed (s : State) (n : StageId) (instant : Nat) : Prop where
  alive : s.alive (.pier n) = true
  active : s.srv[n].active = true
  passed : s.srv[n].startedAt.getD s.now + (1 + s.srv[n].cfg.getD 1 0) * 4095 * chipDiv s n * s.tu n ≤ instant
  reached : instant ≤ s.now

namespace RoundPassed

theorem acts {s : State} {n : StageId} {instant : Nat} (h : RoundPassed s n instant) :
    ¬(!s.srv[n].active || decide (s.now < instant) || decide (instant < s.srv[n].startedAt.getD s.now +
      (1 + s.srv[n].cfg.getD 1 0) * 4095 * chipDiv s n * s.tu n)) = true := by
  rw [h.active, decide_eq_false (not_lt.2 h.reached), decide_eq_false (not_lt.2 h.passed)]
  exact Bool.false_ne_true

/-- A standby drops the round and evaluates nothing (R136). -/
theorem surveyRoundComplete_standby {s : State} {n : StageId} {instant : Nat} (h : RoundPassed s n instant)
    (standby : s.standby = true) : exec (.surveyRoundComplete n instant) s = .next (roundOver n s) :=
  congrArg Host.Outcome.next ((State.on_of_alive h.alive _).trans ((if_neg h.acts).trans (if_pos standby)))

/-- On a state that meets the invariant, which every command keeps (O4), the round ends as the fourth clause of O19 says. -/
theorem surveyRoundComplete_ends {s : State} {n : StageId} {instant : Nat} (h : RoundPassed s n instant) (inv : Inv s) :
    Completes (.surveyRoundComplete n instant) s (RoundEnded n) := by
  refine ⟨_, congrArg Host.Outcome.next ((State.on_of_alive h.alive _).trans (if_neg h.acts)), ?_⟩
  have hOver : RoundEnded n (roundOver n s) := .ofRoundOver inv n
  refine .ite hOver ?_
  extract_lets +onlyGivenNames up coh ps told counted zpk peak
  have hTold : RoundEnded n told := (hOver.setObj (group_SRV_F_UPPER n) rfl _).keeps (keeps_reportPoints ..) rfl
  have hCounted : RoundEnded n counted := hTold.setObj (group_SRV_ROUND_COUNT n) rfl _
  have hPeak : RoundEnded n peak := (hCounted.setObj (group_SRV_F_PEAK n) rfl _).setObj (group_SRV_ZETA_PEAK n) rfl _
  split
  next => exact (hPeak.setStatus (by decide) _).log _ _
  next rs xs _ =>
    extract_lets +onlyGivenNames fitted own xp nEst za drawn est old new_ par f adapted
    have hFitted : RoundEnded n fitted :=
      ((hPeak.setStatus (by decide) _).setObj (group_SRV_Z1_R n) rfl _).setObj (group_SRV_Z1_X n) rfl _
    have hDrawn : RoundEnded n drawn := (hFitted.keeps (keeps_State_draw _) rfl).keeps (keeps_State_draw _) rfl
    have hEst : RoundEnded n est := ((hDrawn.setObj (group_SRV_N_EST n) rfl _).setObj (group_SRV_ZETA_SWING n) rfl _).log _ _
    have hPar : RoundEnded n par := .ite hEst ((hEst.setObj (group_SRV_N_PARALLEL n) rfl _).log _ _)
    exact ((hPar.checkChange f).adapt f).modSurvey (fun _ => rfl) fun _ => rfl

end RoundPassed

/-! ### A store that is not in canonical form -/

/-- A duplex standby at the end of stage 1's round, whose store of objects lists SRV_STATUS twice; the rest is as after reset. -/
def statusListedTwice : State :=
  { ((((live .form).modTwn fun t => { t with mode := 2, formed := true }).modSurvey 1 fun v =>
      { v with active := true, startedAt := some 0 }).later 900000000000) with
    objs := [(Obj.SRV_STATUS 1, .int 1), (Obj.SRV_STATUS 1, .int 1)] }

theorem statusListedTwice_roundPassed : RoundPassed statusListedTwice 1 900000000000 :=
  ⟨by decide +kernel, by decide +kernel, by decide +kernel, by decide +kernel⟩

/-- No run from reset leads there. -/
theorem not_inv_statusListedTwice : ¬Inv statusListedTwice := fun inv => absurd inv.objs (by decide +kernel)

/-- Clearing ROUND_ACTIVE writes the default, which takes one of the two entries out of the store; the other is read. -/
theorem roundOver_statusListedTwice_bit : (roundOver 1 statusListedTwice).bit (Obj.SRV_STATUS 1) 0 = true := by decide +kernel

/-- Refutes O19: its fourth clause asks ROUND_ACTIVE to read 0 from every store, and lacks the premise `Inv s`, with which it holds
(`RoundPassed.surveyRoundComplete_ends`); a store that lists SRV_STATUS twice still reads 1. -/
theorem not_surveyAndCanary : ¬ Obligations.SurveyAndCanary := by
  unfold Obligations.SurveyAndCanary
  rintro ⟨-, -, -, ends, -⟩
  obtain ⟨alive, active, passed, reached⟩ := statusListedTwice_roundPassed
  obtain ⟨t, run, -, -, cleared⟩ := ends statusListedTwice 1 _ alive active passed reached
  have standby : statusListedTwice.standby = true := by decide +kernel
  obtain rfl : roundOver 1 statusListedTwice = t := by
    injection (statusListedTwice_roundPassed.surveyRoundComplete_standby standby).symm.trans run
  exact Bool.false_ne_true (cleared.symm.trans roundOver_statusListedTwice_bit)

end Sys2Proof.Machine
end

section
/-!
PROOF. The set that a commit sends (R156, R157, R158): the model forms it from the working bank, where the statement forms it from the bank
that the commit leaves. The two write the same where every OUTPUT block belongs to the critical phase; a graph with one in the post phase,
whose block keeps its committed output at the commit, tells them apart.
-/

namespace Sys2Proof.Machine

/-! ### What a set is formed from -/

/-- The words of the set under the next tally, with a sample's duties and what a bank's OUTPUT blocks write. -/
def setWords (s : State) (p : StageId) (w : Work) (bank : List BlockSt) : List Nat :=
  encodeSet (formSet s p w.duties bank ((s.pie[p].tally + 1) % 256))

/-- The bank that a commit leaves (R156, R170). -/
def bankAfter (s : State) (p : StageId) (w : Work) : List BlockSt :=
  resetOrdered s.pie[p].blocks (swapCritical s.pie[p].blocks w.blocks)

theorem group_EDG_CH_CFG (c : ChanId) : objGroup (Obj.EDG_CH_CFG c) = .edg := by fin_cases c <;> rfl

theorem group_EDG_TB_MODE (t : TbId) : objGroup (Obj.EDG_TB_MODE t) = .edg := by fin_cases t <;> rfl

theorem group_PIE_UPDATE_PERIOD (p : StageId) : objGroup (Obj.PIE_UPDATE_PERIOD p) = .pie := by fin_cases p <;> rfl

/-- A footprint without the configured objects of the edge generator and without the timebases' periods. -/
def sparesEdges (F : Nat) : Bool :=
  !F.testBit (Part.obj .edg).bit && !F.testBit (Part.obj .EDG_TB_PERIOD).bit && !F.testBit (Part.obj .mod).bit

/-- A footprint without what a set is formed from beside its duties and blocks. -/
def sparesSets (F : Nat) : Bool := sparesEdges F && !F.testBit (Part.obj .pie).bit && !F.testBit (Part.pie .t0).bit &&
  !F.testBit (Part.pie .k).bit && !F.testBit (Part.pie .graph).bit

section Edges

variable {F : Nat} {s t : State} (h : Keeps F s t) (spares : sparesEdges F = true)
include h spares

theorem Keeps.chanField (c : ChanId) (lo width : Nat) : t.field (Obj.EDG_CH_CFG c) lo width = s.field (Obj.EDG_CH_CFG c) lo width := by
  simp only [sparesEdges, Bool.and_eq_true, Bool.not_eq_true'] at spares
  exact h.field' _ lo width (by rw [group_EDG_CH_CFG]; exact spares.1.1) spares.2

theorem Keeps.stageChans (n : StageId) : stageChans t n = stageChans s n := by
  simp only [Machine.stageChans, ownedChans, chanOwner, h.chanField spares]

theorem Keeps.chanRepeats (c : ChanId) : chanRepeats t c = chanRepeats s c := by
  simp only [Machine.chanRepeats, State.bit, h.chanField spares]

theorem Keeps.reloadInterval (c : ChanId) : reloadInterval t c = reloadInterval s c := by
  have tb : chanTb t c = chanTb s c := by simp only [chanTb, h.chanField spares]
  have reload : chanReload t c = chanReload s c := h.chanField spares c _ _
  simp only [sparesEdges, Bool.and_eq_true, Bool.not_eq_true'] at spares
  obtain ⟨⟨edg, period⟩, mod⟩ := spares
  have mode (b : TbId) := h.objN (Obj.EDG_TB_MODE b) (by rwa [group_EDG_TB_MODE]) mod
  have tbPeriod (b : TbId) := h.objN (Obj.EDG_TB_PERIOD b) (by rwa [group_EDG_TB_PERIOD]) mod
  unfold Machine.reloadInterval tbCentre
  rw [tb, reload, mode, tbPeriod]

end Edges

theorem Keeps.formSet {F : Nat} {s t : State} (h : Keeps F s t) (spares : sparesSets F = true) (p : StageId) (duties : List Rat)
    (bs : List BlockSt) (tally : Nat) : formSet t p duties bs tally = formSet s p duties bs tally := by
  simp only [sparesSets, Bool.and_eq_true, Bool.not_eq_true'] at spares
  obtain ⟨⟨⟨⟨edges, pie⟩, t0⟩, k⟩, graph⟩ := spares
  have mod : F.testBit (Part.obj .mod).bit = false := by
    simp only [sparesEdges, Bool.and_eq_true, Bool.not_eq_true'] at edges
    exact edges.2
  have update : t.tu p = s.tu p := h.objN (Obj.PIE_UPDATE_PERIOD p) (by rwa [group_PIE_UPDATE_PERIOD]) mod
  have t0 : t.pie[p].t0 = s.pie[p].t0 := h.same (.pie .t0) t0 p
  have k : t.pie[p].k = s.pie[p].k := h.same (.pie .k) k p
  have graph : t.pie[p].graph = s.pie[p].graph := h.same (.pie .graph) graph p
  have chan (ws : List SetWrite) : formChan t p duties ws = formChan s p duties ws := by
    funext j
    simp only [formChan, h.stageChans edges, h.chanRepeats edges, h.reloadInterval edges, update]
  simp only [Machine.formSet, chan, setChannels, h.stageChans edges, update, t0, k, graph]

/-! ### The words that a commit sends -/

theorem digestMeets_out (n : StageId) (k : Nat) (s : State) (p : StageId) : (digestMeets n k s).pie[p].out = s.pie[p].out :=
  (keeps_digestMeets n k s).same (.pie .out) rfl p

theorem linkSend_out (kind : Nat) (data : List Int) (s : State) (p : StageId) : (linkSend kind data s).pie[p].out = s.pie[p].out :=
  (keeps_linkSend kind data s).same (.pie .out) rfl p

theorem sendSet_out (p : StageId) (w : Work) (s : State) : (sendSet p w s).pie[p].out =
    some (setWords s p w w.blocks) := by
  unfold sendSet
  extract_lets +onlyGivenNames tally x words check staged compared
  have hStaged : staged.pie[p].out = some words := by rw [State.modPier_at, if_pos rfl]
  have hCompared : compared.pie[p].out = some words := by
    unfold compared
    split
    · exact ((digestMeets_out ..).trans (linkSend_out ..)).trans hStaged
    · exact hStaged
  split
  · exact (linkSend_out ..).trans hCompared
  · exact hCompared

theorem commitSends_out (p : StageId) (w : Work) (s : State) : (commitSends p w s).pie[p].out =
    some (setWords s p w w.blocks) := by
  have shown : Keeps _ s (s.setBit (Obj.PIE_STATUS p) 8 false) :=
    .setBit .PIE_STATUS (group_PIE_STATUS p) Nat.testBit_two_pow_self _ _ (.refl s)
  calc (commitSends p w s).pie[p].out
      = (startInputRamp p (rampEnds p w (sendSet p w (s.setBit (Obj.PIE_STATUS p) 8 false)))).pie[p].out :=
        (keeps_coastOrders _ _).same (.pie .out) rfl p
    _ = (rampEnds p w (sendSet p w (s.setBit (Obj.PIE_STATUS p) 8 false))).pie[p].out := (keeps_startInputRamp _ _).same (.pie .out) rfl p
    _ = (sendSet p w (s.setBit (Obj.PIE_STATUS p) 8 false)).pie[p].out := (keeps_rampEnds _ _ _).same (.pie .out) rfl p
    _ = _ := by rw [sendSet_out, setWords, shown.formSet (by decide), State.setBit_pie, setWords]

/-- The law, the banks and what is shown of a commit, before its set goes out. -/
def commitShown (p : StageId) (w : Work) (offset : Nat) (s : State) : State :=
  let crit := offset - (w.at_ - s.pie[p].t0)
  let swapped := s.modPier p fun q =>
    { q with
      before := some ⟨q.law, q.blocks, w.undo⟩
      law := if w.sends == s.switching p then w.law else q.law
      blocks := resetOrdered q.blocks (swapCritical q.blocks w.blocks), work := none
      post := some ⟨resetOrdered q.blocks w.blocks, w.canary, q.k, q.t0⟩, provisional := false }
  let counted := (swapped.setN (Obj.PIE_LAST_COMMIT p) offset).setN (Obj.PIE_MAX_CRIT p) (max (swapped.objN (Obj.PIE_MAX_CRIT p)) crit)
  let shown := (counted.setBit (Obj.PIE_STATUS p) 2 false).setBit (Obj.PIE_STATUS p) 4 false
  if w.outer then publishLaw p shown.pie[p].law w.eff shown else shown

theorem commitSample_eq (p : StageId) (w : Work) (offset : Nat) (s : State) : commitSample p w offset s =
    canaryReactions p (dueSelftest p (endPulses p (if w.sends && s.switching p then commitSends p w (commitShown p w offset s)
      else commitShown p w offset s))) := rfl

/-- What a commit writes before its set goes out: the pier's law and banks, its counts and marks, the reports of the law. -/
abbrev shownParts : Nat := 0x1000080f00000000000000000000000000000000000000000000000000000020a00000000000eefc00000000000000000000000000000

theorem keeps_commitShown (p : StageId) (w : Work) (offset : Nat) (s : State) : Keeps shownParts s (commitShown p w offset s) := by
  unfold commitShown
  extract_lets crit swapped counted shown
  have hSwapped : Keeps shownParts s swapped := by
    refine .modPier (PieField.upd_of fun f x e => ?_) (.refl s)
    cases f
    case before | law | blocks | work | post | provisional => exact Keeps.no rfl e
    all_goals rfl
  have hCounted : Keeps shownParts s counted := .setN .PIE_MAX_CRIT (group_PIE_MAX_CRIT p) (by decide) _
    (.setN .PIE_LAST_COMMIT (group_PIE_LAST_COMMIT p) (by decide) _ hSwapped)
  have hShown : Keeps shownParts s shown :=
    .setBit .PIE_STATUS (group_PIE_STATUS p) (by decide) _ _ (.setBit .PIE_STATUS (group_PIE_STATUS p) (by decide) _ _ hCounted)
  exact .ite (.step (keeps_publishLaw _ _ _ _) (by decide) hShown) hShown

/-- A commit at which no reaction of the canary is due. -/
theorem canaryReactions_none {n : StageId} {s : State} (quiet : s.srv[n].due = []) :
    canaryReactions n s = s.modSurvey n fun v => { v with due := [] } := by
  unfold canaryReactions
  rw [quiet, List.foldl_nil]

/-- A commit word in time, for a sample dispatched while the stage switched and that still switches, with no reaction of the canary due. -/
structure SendingCommit (s : State) (p : StageId) (w : Work) (offset : Nat) : Prop where
  alive : s.alive (.pier p) = true
  work : s.pie[p].work = some w
  inTime : offset < deadline s p
  quiet : s.srv[p].due = []
  switches : s.switching p = true
  sends : w.sends = true

namespace SendingCommit

variable {s : State} {p : StageId} {w : Work} {offset : Nat}

theorem pierCommit (h : SendingCommit s p w offset) : exec (.pierCommit p ⟨offset, none⟩) s = .next (commitSample p w offset s) := by
  refine congrArg Host.Outcome.next ((State.on_of_alive h.alive _).trans ?_)
  rw [h.work]
  exact if_neg (Nat.not_le.2 h.inTime)

/-- A set goes out under the next tally, formed from the working bank. -/
theorem commitSample_out (h : SendingCommit s p w offset) : (commitSample p w offset s).pie[p].out = some (setWords s p w w.blocks) := by
  have shown := keeps_commitShown p w offset s
  have tally : (commitShown p w offset s).pie[p].tally = s.pie[p].tally := shown.same (.pie .tally) rfl p
  have due : (dueSelftest p (endPulses p (commitSends p w (commitShown p w offset s)))).srv[p].due = [] :=
    calc (dueSelftest p (endPulses p (commitSends p w (commitShown p w offset s)))).srv[p].due
        = (endPulses p (commitSends p w (commitShown p w offset s))).srv[p].due := (keeps_dueSelftest _ _).same (.srv .due) rfl p
      _ = (commitSends p w (commitShown p w offset s)).srv[p].due := (keeps_endPulses _ _).same (.srv .due) rfl p
      _ = (commitShown p w offset s).srv[p].due := (keeps_commitSends _ _ _).same (.srv .due) rfl p
      _ = s.srv[p].due := shown.same (.srv .due) rfl p
      _ = [] := h.quiet
  rw [commitSample_eq, h.sends, h.switches, Bool.and_self, if_pos rfl, canaryReactions_none due, State.modSurvey_pie]
  calc (dueSelftest p (endPulses p (commitSends p w (commitShown p w offset s)))).pie[p].out
      = (endPulses p (commitSends p w (commitShown p w offset s))).pie[p].out := (keeps_dueSelftest _ _).same (.pie .out) rfl p
    _ = (commitSends p w (commitShown p w offset s)).pie[p].out := (keeps_endPulses _ _).same (.pie .out) rfl p
    _ = _ := by rw [commitSends_out, setWords, shown.formSet (by decide), tally, setWords]

end SendingCommit

/-! ### Graphs whose OUTPUT blocks belong to the critical phase -/

/-- A block as a commit leaves it, from its committed and its working bank (R156, R170). -/
def committedBlock (o w : BlockSt) : BlockSt :=
  if o.resetAtCommit then (if o.spec.post then o else w).reinit else if o.spec.post then o else w

theorem resetOrdered_swapCritical {old new : List BlockSt} (len : old.length = new.length) :
    resetOrdered old (swapCritical old new) = List.zipWith committedBlock old new := by
  apply List.ext_getElem
  · simp [resetOrdered, swapCritical, len]
  · intro i lt lt'
    have inOld : i < old.length := List.lt_length_left_of_zipWith lt'
    have inNew : i < new.length := List.lt_length_right_of_zipWith lt'
    simp [resetOrdered, swapCritical, committedBlock, inOld, inNew]

theorem outputWrites_cons (b : BlockSt) (bs : List BlockSt) :
    outputWrites (b :: bs) = outputWrites [b] ++ outputWrites bs := by
  simp only [outputWrites, ← List.map_append, ← List.filter_append, List.singleton_append]

theorem outputWrites_reinit (b : BlockSt) : outputWrites [b.reinit] = outputWrites [b] := by
  by_cases output : b.spec.code = 0x0019 <;> simp [outputWrites, BlockSt.reinit, output]

theorem outputWrites_of_other {b : BlockSt} (other : b.spec.code ≠ 0x0019) : outputWrites [b] = [] := by simp [outputWrites, other]

/-- What a block writes into a set at a commit is its working bank's, unless it is an OUTPUT block of the post phase. -/
theorem outputWrites_committedBlock {o w : BlockSt} (spec : w.spec = o.spec) (critical : o.spec.post = true → o.spec.code ≠ 0x0019) :
    outputWrites [committedBlock o w] = outputWrites [w] := by
  have reset : outputWrites [committedBlock o w] = outputWrites [if o.spec.post then o else w] := by
    unfold committedBlock
    split
    · exact outputWrites_reinit _
    · rfl
  rw [reset]
  split
  next post => rw [outputWrites_of_other (critical post), outputWrites_of_other (spec ▸ critical post)]
  next => rfl

theorem outputWrites_zipWith_committedBlock {old new : List BlockSt} (specs : new.map (·.spec) = old.map (·.spec))
    (critical : ∀ o ∈ old, o.spec.post = true → o.spec.code ≠ 0x0019) :
    outputWrites (List.zipWith committedBlock old new) = outputWrites new := by
  induction old generalizing new with
  | nil => simp_all
  | cons o old ih =>
    cases new with
    | nil => simp at specs
    | cons w new =>
      obtain ⟨spec, specs⟩ := List.cons.inj specs
      rw [List.zipWith_cons_cons, outputWrites_cons, outputWrites_cons w,
        outputWrites_committedBlock spec (critical o List.mem_cons_self), ih specs fun x mem => critical x (List.mem_cons_of_mem _ mem)]

/-- Where every OUTPUT block of the graph belongs to the critical phase, the set goes out as the second clause of O20 says. -/
theorem SendingCommit.pierCommit_out_of_critical {s : State} {p : StageId} {w : Work} {offset : Nat} (h : SendingCommit s p w offset)
    (specs : w.blocks.map (·.spec) = s.pie[p].blocks.map (·.spec))
    (critical : ∀ o ∈ s.pie[p].blocks, o.spec.post = true → o.spec.code ≠ 0x0019) :
    Completes (.pierCommit p ⟨offset, none⟩) s fun t => t.pie[p].out = some (setWords s p w (bankAfter s p w)) := by
  have len : s.pie[p].blocks.length = w.blocks.length := by simpa using (congrArg List.length specs).symm
  refine ⟨_, h.pierCommit, h.commitSample_out.trans ?_⟩
  rw [setWords, setWords, formSet, formSet, bankAfter, resetOrdered_swapCritical len, outputWrites_zipWith_committedBlock specs critical]

/-! ### A graph with an OUTPUT block in the post phase -/

/-- A graph of two blocks: an INPUT that reads one half, and in the post phase an OUTPUT that writes it as the duty of channel 1. -/
def postOutputGraph : GraphSpec := { emptyGraph with
  stageType := 3, channels := 1, inputs := [.tag 0]
  blocks := [⟨0x0018, 0, false, [], [], [.real 1, .real (1 / 2), .int 0]⟩, ⟨0x0019, 0, true, [(0, 0)], [], [.int 1, .int 0]⟩] }

/-- A DC/DC stage that runs the graph, which has been loaded (R151); the rest is as after reset. -/
def postOutputLoaded : State := (staged .form 0x103 .run).modPier 1 fun q =>
  { q with graph := some postOutputGraph, blocks := loadBlocks postOutputGraph }

/-- The same after its first dispatch. -/
def postOutputDispatched : State := dispatchSample 1 zeroSample postOutputLoaded

/-- The working bank of that sample. -/
def postOutputWork : Work := postOutputDispatched.pie[(1 : StageId)].work.getD plainWork

theorem postOutputDispatched_of_dispatch : exec (.pierDispatch 1 zeroSample) postOutputLoaded = .next postOutputDispatched := by
  have alive : postOutputLoaded.alive (.pier 1) = true := by decide +kernel
  have dispatching : postOutputLoaded.dispatching 1 = true := by decide +kernel
  exact congrArg Host.Outcome.next ((State.on_of_alive alive _).trans (if_pos dispatching))

theorem postOutputDispatched_work : postOutputDispatched.pie[(1 : StageId)].work = some postOutputWork := by decide +kernel

/-- The two sets are not the same: the working bank holds the duty one half, the bank after the commit none yet. -/
theorem postOutput_sets_differ :
    setWords postOutputDispatched 1 postOutputWork postOutputWork.blocks ≠
      setWords postOutputDispatched 1 postOutputWork (bankAfter postOutputDispatched 1 postOutputWork) := by decide +kernel

theorem postOutput_sendingCommit : SendingCommit postOutputDispatched 1 postOutputWork 0 :=
  ⟨by decide +kernel, postOutputDispatched_work, by decide +kernel, by decide +kernel, by decide +kernel, by decide +kernel⟩

/-- What O20's second clause asks of a commit's set, beside what the model sends. -/
theorem SendingCommit.setWords_eq_of_obligation {s : State} {p : StageId} {w : Work} {offset : Nat} (h : SendingCommit s p w offset)
    (claimed : Obligations.PierSamplesAndTests) : setWords s p w w.blocks = setWords s p w (bankAfter s p w) := by
  unfold Obligations.PierSamplesAndTests at claimed
  obtain ⟨-, commits, -⟩ := claimed
  obtain ⟨t, run, -, -, -, -, sent, -⟩ := commits s p offset w h.alive h.work h.inTime h.quiet
  obtain rfl : commitSample p w offset s = t := Host.Outcome.next.inj (h.pierCommit.symm.trans run)
  obtain ⟨-, words⟩ := sent h.switches h.sends
  exact Option.some.inj (h.commitSample_out.symm.trans words)

/-- Refutes O20: its second clause says that the set of a commit is formed from the bank which the commit leaves. It is formed from the
working bank, whose OUTPUT blocks of the post phase the commit has not taken over; without such blocks the clause's set is the one sent
(`SendingCommit.pierCommit_out_of_critical`). -/
theorem not_pierSamplesAndTests : ¬ Obligations.PierSamplesAndTests := fun claimed =>
  postOutput_sets_differ (postOutput_sendingCommit.setWords_eq_of_obligation claimed)

end Sys2Proof.Machine
end

section
/-!
PROOF. A voided sample with which the run of overruns reaches its limit (R160, R161, R417): a single module or a viaduct takes the stage to
SAFE; a duplex module starts arbitration and leaves the stage as it is but for one flag, since a sample that ends without a commit ends the
pulses of a stage that a stop has taken from RUN (R43).
-/

namespace Sys2Proof.Machine

/-! ### What a voided sample does before the limit is looked at -/

/-- The sample of pier p is dropped, shown and counted; what waits for its end has not begun. -/
def sampleDropped (p : StageId) (cause : Nat) (s : State) : State :=
  let undone := match s.pie[p].work with | some w => undoSample p w.undo s | none => s
  let dropped := undone.modPier p fun q =>
    { q with work := none, post := none, postDone := true, provisional := false, overrunRun := q.overrunRun + 1 }
  let shown := edgeCancelProvisional p ((dropped.setBit (Obj.PIE_STATUS p) 2 true).setBit (Obj.PIE_STATUS p) 4 false)
  let counted := (shown.bump (Obj.PIE_OVERRUN_COUNT p)).setN (Obj.PIE_OVERRUN_RUN p) shown.pie[p].overrunRun
  galMiss p counted.pie[p].k (galFlag p 8 (counted.log 0x2401 [p.val, cause, counted.pie[p].k]))

/-- The pulses of a stopped stage end with the sample, and a self-test that waits for its end starts. -/
def sampleEnded (p : StageId) (cause : Nat) (s : State) : State := dueSelftest p (endPulses p (sampleDropped p cause s))

theorem voidSample_eq (p : StageId) (cause : Nat) (s : State) : voidSample p cause s =
    if (sampleEnded p cause s).objN (Obj.PIE_OVERRUN_LIMIT p) ≤ (sampleEnded p cause s).pie[p].overrunRun then
      overrunLimit p (sampleEnded p cause s)
    else sampleEnded p cause s := rfl

/-- What dropping a sample may write: what its undo gives back, the pier's sample, counts and marks, the log. -/
abbrev droppedParts : Nat :=
  0x4202000010f800d0c00000000000000402f9820000000000000000000000000001004002e004000000000000000000000000000000000000000100

theorem keeps_sampleDropped (p : StageId) (cause : Nat) (s : State) : Keeps droppedParts s (sampleDropped p cause s) := by
  unfold sampleDropped
  extract_lets undone dropped shown counted
  have hUndone : Keeps droppedParts s undone := by
    unfold undone
    split
    · exact .step (keeps_undoSample _ _ _) (by decide) (.refl s)
    · exact .refl s
  have hDropped : Keeps droppedParts s dropped := by
    refine .modPier (PieField.upd_of fun f x e => ?_) hUndone
    cases f
    case work | post | postDone | provisional | overrunRun => exact Keeps.no rfl e
    all_goals rfl
  have hShown : Keeps droppedParts s shown := .step (keeps_edgeCancelProvisional _ _) (by decide)
    (.setBit .PIE_STATUS (group_PIE_STATUS p) (by decide) _ _ (.setBit .PIE_STATUS (group_PIE_STATUS p) (by decide) _ _ hDropped))
  have hCounted : Keeps droppedParts s counted := .setN .PIE_OVERRUN_RUN (group_PIE_OVERRUN_RUN p) (by decide) _
    (.bump .PIE_OVERRUN_COUNT (group_PIE_OVERRUN_COUNT p) (by decide) hShown)
  exact .step (keeps_galMiss _ _ _) (by decide) (.step (keeps_galFlag _ _ _) (by decide) (.step (keeps_State_log _ _ _) (by decide) hCounted))

theorem sampleDropped_overrunRun (p : StageId) (cause : Nat) (s : State) :
    (sampleDropped p cause s).pie[p].overrunRun = s.pie[p].overrunRun + 1 := by
  unfold sampleDropped
  extract_lets undone dropped shown counted
  have hUndone : undone.pie[p].overrunRun = s.pie[p].overrunRun := by
    unfold undone
    split
    · exact (keeps_undoSample _ _ _).same (.pie .overrunRun) rfl p
    · rfl
  have hShown : shown.pie[p].overrunRun = s.pie[p].overrunRun + 1 := by
    unfold shown dropped
    rw [(keeps_edgeCancelProvisional _ _).pie fun f => by cases f <;> rfl, State.setBit_pie, State.setBit_pie, State.modPier_at, if_pos rfl,
      hUndone]
  rw [(keeps_galMiss _ _ _).pie fun f => by cases f <;> rfl, (keeps_galFlag _ _ _).pie fun f => by cases f <;> rfl, State.log_pie]
  exact hShown

theorem endPulses_at (n : StageId) (s : State) : (endPulses n s).stg[n] = { s.stg[n] with pulsesEnd := false } := by
  unfold endPulses
  split
  · simp only [edgeIdle_stg, State.modStage_at, if_true]
  next still => rw [← Bool.eq_false_iff.2 still]

/-- What the end of a sample without a commit may write: its drop, a self-test's start, the pulses' end. -/
abbrev endedParts : Nat :=
  droppedParts ||| 0x800030006000000000000000000000000000200000000000000000000000000000020000000000000000020800000000000000000000000000

theorem keeps_sampleEnded (p : StageId) (cause : Nat) (s : State) : Keeps endedParts s (sampleEnded p cause s) :=
  .step (keeps_dueSelftest _ _) (by decide) (.step (keeps_endPulses _ _) (by decide) (.step (keeps_sampleDropped p cause s) (by decide) (.refl s)))

theorem sampleEnded_stg (p : StageId) (cause : Nat) (s : State) :
    (sampleEnded p cause s).stg[p] = { s.stg[p] with pulsesEnd := false } := by
  have dropped := keeps_sampleDropped p cause s
  unfold sampleEnded
  rw [(keeps_dueSelftest _ _).stg fun f => by cases f <;> rfl, endPulses_at, dropped.stg fun f => by cases f <;> rfl]

theorem sampleEnded_overrunRun (p : StageId) (cause : Nat) (s : State) :
    (sampleEnded p cause s).pie[p].overrunRun = s.pie[p].overrunRun + 1 := by
  refine .trans ?_ (sampleDropped_overrunRun p cause s)
  exact ((keeps_dueSelftest _ _).same (.pie .overrunRun) rfl p).trans ((keeps_endPulses _ _).same (.pie .overrunRun) rfl p)

theorem group_PIE_OVERRUN_LIMIT (p : StageId) : objGroup (Obj.PIE_OVERRUN_LIMIT p) = .pie := by fin_cases p <;> rfl

/-! ### Arbitration begins (R417) -/

@[simp] theorem arbStart_stg (n : StageId) (cause : Nat) (s : State) : (arbStart n cause s).stg = s.stg :=
  (keeps_arbStart n cause s).stg fun f => by cases f <;> rfl

/-- On a pier that acts the verdicts are awaited. -/
theorem arbStart_arb {s : State} {n : StageId} (cause : Nat) (idle : s.twn.arb = none) (unfenced : s.twn.selfFenced = false)
    (acts : s.fenced (.pier n) = false) : (arbStart n cause s).twn.arb = some ⟨n, cause, none, s.now, none⟩ := by
  unfold arbStart
  rw [if_neg (by rw [idle, unfenced]; decide)]
  extract_lets dead logged waiting settled
  have hDead : ¬dead = true := by simp [dead, acts]
  have hSettled : settled.twn.arb = waiting.twn.arb := by
    unfold settled
    rw [if_neg hDead]
    exact (keeps_startSelftest n waiting).same (.twn .arb) rfl
  rw [showTwin_twn, hSettled]
  simp only [waiting, State.modTwn_twn, if_neg hDead, logged, State.now, State.log_isl]

theorem State.fenced_of_alive {s : State} {i : Island} (alive : s.alive i = true) : s.fenced i = false := by
  simp only [State.alive, Bool.and_eq_true, Bool.not_eq_true'] at alive
  exact alive.1.1

/-! ### The limit -/

theorem overrunLimit_single {s : State} {n : StageId} (single : s.twn.mode ≠ 2) :
    overrunLimit n s = stageSafe n 0x2402 (s.log 0x2402 [n.val, s.pie[n].overrunRun]) :=
  if_neg (by rwa [isDuplex, State.log_twn, beq_iff_eq])

theorem overrunLimit_duplex {s : State} {n : StageId} (duplex : s.twn.mode = 2) :
    overrunLimit n s = arbStart n 0x2402 (s.log 0x2402 [n.val, s.pie[n].overrunRun]) :=
  if_pos (by rwa [isDuplex, State.log_twn, beq_iff_eq])

/-- A sample that pier p computes overruns, and the run of overruns reaches PIE_OVERRUN_LIMIT (R161). -/
structure OverrunAtLimit (s : State) (p : StageId) (w : Work) : Prop where
  alive : s.alive (.pier p) = true
  work : s.pie[p].work = some w
  reached : s.objN (Obj.PIE_OVERRUN_LIMIT p) ≤ s.pie[p].overrunRun + 1

namespace OverrunAtLimit

variable {s : State} {p : StageId} {w : Work}

theorem pierOverrun (h : OverrunAtLimit s p w) : exec (.pierOverrun p) s = .next (overrunLimit p (sampleEnded p 1 s)) := by
  have limit := (keeps_sampleEnded p 1 s).objN (Obj.PIE_OVERRUN_LIMIT p) (by rw [group_PIE_OVERRUN_LIMIT]; decide) (by decide)
  refine congrArg Host.Outcome.next ((State.on_of_alive h.alive _).trans ?_)
  rw [h.work, voidSample_eq, if_pos (by rw [limit, sampleEnded_overrunRun]; exact h.reached)]

/-- Outside duplex the stage goes to SAFE (R161). -/
theorem pierOverrun_safe (h : OverrunAtLimit s p w) (single : s.twn.mode ≠ 2) (out : s.stg[p].st ≠ .safe) (halt : s.mod.mode ≠ .halt)
    (adit : s.mod.mode ≠ .adit) : Completes (.pierOverrun p) s fun t => t.stg[p].st = .safe ∧ t.stg[p].cause = 0x2402 := by
  have ended := keeps_sampleEnded p 1 s
  have twin : (sampleEnded p 1 s).twn.mode = s.twn.mode := ended.same (.twn .mode) rfl
  have safe (data : List Rat) := stageSafe_stg (s := (sampleEnded p 1 s).log 0x2402 data) (n := p) 0x2402
    (by simpa only [State.log_stg, sampleEnded_stg] using out) (by rwa [State.log_mod, ended.mode rfl])
    (by rwa [State.log_mod, ended.mode rfl])
  refine ⟨_, h.pierOverrun.trans (congrArg Host.Outcome.next (overrunLimit_single (twin ▸ single))), ?_⟩
  simp only [safe, vset_self, and_self]

/-- In duplex arbitration starts, and of the stage's state only the pulses that were to end with the sample are different (R43, R161). -/
theorem pierOverrun_arbitrates (h : OverrunAtLimit s p w) (duplex : s.twn.mode = 2) (idle : s.twn.arb = none)
    (unfenced : s.twn.selfFenced = false) : Completes (.pierOverrun p) s fun t =>
      t.stg[p] = { s.stg[p] with pulsesEnd := false } ∧ t.twn.arb = some ⟨p, 0x2402, none, s.now, none⟩ := by
  have ended := keeps_sampleEnded p 1 s
  have logged (data : List Rat) : Keeps endedParts s ((sampleEnded p 1 s).log 0x2402 data) := .step (keeps_State_log _ _ _) (by decide) ended
  have twin : (sampleEnded p 1 s).twn.mode = s.twn.mode := ended.same (.twn .mode) rfl
  refine ⟨_, h.pierOverrun.trans (congrArg Host.Outcome.next (overrunLimit_duplex (twin.trans duplex))), ?_, ?_⟩
  · simp only [arbStart_stg, State.log_stg, sampleEnded_stg]
  · refine (arbStart_arb 0x2402 (((logged _).same (.twn .arb) rfl).trans idle) (((logged _).same (.twn .selfFenced) rfl).trans unfenced)
      (State.fenced_of_alive (((logged _).alive _ rfl rfl rfl).trans h.alive))).trans ?_
    exact congrArg (fun now => some (⟨p, 0x2402, none, now, none⟩ : ArbSt)) ((logged _).same (.isl .mt) rfl)

end OverrunAtLimit

/-! ### A stage that a stop has taken to ARMED -/

/-- The active module of a duplex pair that forms; stage 1 runs and computes a sample, and one voided sample reaches its limit. -/
def computing : State :=
  (((staged .form 0x101 .run).setN (Obj.PIE_OVERRUN_LIMIT 1) 1).duplex true true).modPier 1 fun q => { q with work := some plainWork }

/-- The same after a stop: the stage is in ARMED, its sample goes on, and its pulses end with that. -/
def stoppedComputing : State := stageStop 1 computing

theorem stoppedComputing_overrunAtLimit : OverrunAtLimit stoppedComputing 1 plainWork :=
  ⟨by decide +kernel, by decide +kernel, by decide +kernel⟩

/-- Refutes O55: in duplex the overrun that reaches the limit also ends the pulses of a stage that a stop has taken from RUN (R43), so the
stage's state is not the one before; nothing else of it moves (`OverrunAtLimit.pierOverrun_arbitrates`), and the clause on a single module
or a viaduct holds (`OverrunAtLimit.pierOverrun_safe`). -/
theorem not_overrunLimit : ¬ Obligations.OverrunLimit := by
  unfold Obligations.OverrunLimit
  rintro ⟨-, duplexKeeps⟩
  have met := stoppedComputing_overrunAtLimit
  have duplex : stoppedComputing.twn.mode = 2 := by decide +kernel
  have idle : stoppedComputing.twn.arb = none := by decide +kernel
  have unfenced : stoppedComputing.twn.selfFenced = false := by decide +kernel
  have ending : stoppedComputing.stg[(1 : StageId)].pulsesEnd = true := by decide +kernel
  obtain ⟨t, run, kept, -⟩ := duplexKeeps stoppedComputing 1 plainWork met.alive met.work met.reached duplex idle unfenced
  obtain ⟨u, run', ended, -⟩ := met.pierOverrun_arbitrates duplex idle unfenced
  obtain rfl : u = t := by injection run'.symm.trans run
  have still : u.stg[(1 : StageId)].pulsesEnd = false := by rw [ended]
  exact Bool.false_ne_true (still.symm.trans ((congrArg StageCore.pulsesEnd kept).trans ending))

end Sys2Proof.Machine
end

section
/-!
PROOF. Timebases, sample triggers and reload points (R172 to R176): a timebase's own state through its start, its commands and its points;
the piers that a sample trigger reaches; and the one owner whose set comes into force among all that a reload point passes.
-/

namespace Sys2Proof.Machine

/-! ### Requests at the edge island -/

/-- An answer without an abort is sent and kept by the port's session; it notes nothing in the dictionary (R326, R341). -/
theorem State.reply_accepted (s : State) (w : Writer) (key : Nat) : ∃ tx net, s.reply w key 0 = { s with tx := tx, net := net } := by
  cases w with
  | logic => exact ⟨s.tx, s.net, rfl⟩
  | port c se =>
    obtain ⟨tx, net, sent⟩ := State.respond_shape (s.renew (.port c se) (0 == 0)) c se 1 [c + 16 * se, key, 0]
    exact ⟨tx, net, sent⟩

/-- What the answer to an accepted request leaves as the operation left it, of what the statements about the edge island read. -/
structure Accepted (t u : State) : Prop where
  objs : u.objs = t.objs
  edg : u.edg = t.edg
  logBuf : u.logBuf = t.logBuf

/-- A request that is carried out and accepted leaves what its operation leaves, beside the answer. -/
theorem request_accepted {s t : State} {w : Writer} {i : Island} {f : State → Nat × State} (served : s.serves w i = true) (key : Nat)
    (effect : f s = (0, t)) : Accepted t (request w key i f s) := by
  obtain ⟨sent, forward⟩ := State.forward_shape t key []
  obtain ⟨tx, net, reply⟩ := State.reply_accepted (t.forward key []) w key
  rw [request_served served key (by rw [effect]), effect, reply, forward]
  exact ⟨rfl, rfl, rfl⟩

theorem owned_served {s : State} {w : Writer} {i : Island} (served : s.serves w i = true) (f : State → Nat × State) :
    owned w f s = f s := if_pos (State.serves_accepts served)

@[simp] theorem State.reply_edg (s : State) (w : Writer) (key abort : Nat) : (s.reply w key abort).edg = s.edg := by
  obtain ⟨tx, objs, net, reply⟩ := State.reply_shape s w key abort
  rw [reply]

@[simp] theorem State.forward_edg (s : State) (key : Nat) (data : List Int) : (s.forward key data).edg = s.edg := by
  obtain ⟨tx, forward⟩ := State.forward_shape s key data
  rw [forward]

/-- A request whose operation leaves the edge island alone leaves it alone, whatever its answer. -/
theorem request_edg {s : State} {f : State → Nat × State} (same : (f s).2.edg = s.edg) (w : Writer) (key : Nat) (i : Island) :
    (request w key i f s).edg = s.edg := by
  unfold request
  split
  · rfl
  · split
    · exact State.reply_edg _ _ _ _
    · dsimp only
      rw [State.reply_edg]
      split
      · rfl
      · split
        · rfl
        · split
          · rw [State.forward_edg, same]
          · exact same

/-! ### A timebase's own state -/

theorem State.modTb_at (s : State) (t : TbId) (f : TimebaseSt → TimebaseSt) : (s.modTb t f).edg.tb[t] = f s.edg.tb[t] := vset_self _ t _ _

theorem timebaseStart_runs {s : State} {tb : TbId} {z : Nat} (alive : s.alive .edge = true) (start : tbStartAt s tb = some z)
    (due : z ≤ s.now) (still : s.edg.tb[tb].running = false) :
    Completes (.timebaseStart tb) s fun t => t.edg.tb[tb].running = true ∧ t.edg.tb[tb].lastZero = z - s.objN (Obj.EDG_TB_PERIOD tb) ∧
      t.edg.tb[tb].triggers = 0 := by
  refine ⟨_, congrArg Host.Outcome.next (State.on_of_alive alive _), ?_⟩
  rw [start]
  dsimp only
  rw [if_neg (by rw [still, decide_eq_false (Nat.not_lt.2 due)]; decide)]
  have periods (l : List GroupId) (u : State) :
      (l.foldl (fun s g => s.modGrp g fun x => { x with periodAt := z }) u).edg.tb = u.edg.tb :=
    foldl_keeps (get := fun s => s.edg.tb) (f := fun s g => s.modGrp g fun x => { x with periodAt := z }) (fun _ _ => rfl) l u
  rw [periods, showNextZero, State.setN_edg, State.modTb_at]
  exact ⟨rfl, rfl, rfl⟩

/-- What a shift or a period change that acts at a zero point does not touch at its timebase (R174). -/
theorem applyTbCmd_point (t : TbId) (s : State) (c : TbCmd) : ((applyTbCmd t s c).edg.tb[t].lastZero, (applyTbCmd t s c).edg.tb[t].peaked,
    (applyTbCmd t s c).edg.tb[t].cmds) = (s.edg.tb[t].lastZero, s.edg.tb[t].peaked, s.edg.tb[t].cmds) := by
  unfold applyTbCmd
  split
  · rw [State.modTb_at]
  · rfl

theorem zeroPoint_at (t : TbId) (s : State) : ((zeroPoint t s).edg.tb[t].lastZero, (zeroPoint t s).edg.tb[t].peaked,
    (zeroPoint t s).edg.tb[t].cmds) = (nextZero s t, false, s.edg.tb[t].cmds.filter fun c => !decide (c.inst ≤ nextZero s t)) := by
  unfold zeroPoint
  extract_lets z due reset
  have acted : ((due.foldl (applyTbCmd t) reset).edg.tb[t].lastZero, (due.foldl (applyTbCmd t) reset).edg.tb[t].peaked,
      (due.foldl (applyTbCmd t) reset).edg.tb[t].cmds) = (reset.edg.tb[t].lastZero, reset.edg.tb[t].peaked, reset.edg.tb[t].cmds) :=
    foldl_keeps (get := fun s => (s.edg.tb[t].lastZero, s.edg.tb[t].peaked, s.edg.tb[t].cmds)) (applyTbCmd_point t) due reset
  rw [showNextZero, State.setN_edg, acted, State.modTb_at]

/-- With no command waiting, a zero point is noted and the next one shown. -/
theorem zeroPoint_of_no_cmds {t : TbId} {s : State} (none : s.edg.tb[t].cmds = []) : zeroPoint t s = showNextZero t (s.modTb t fun x =>
    { x with lastZero := nextZero s t, stretch := 0, peaked := false, cmds := x.cmds.filter fun c => !decide (c.inst ≤ nextZero s t) }) := by
  unfold zeroPoint
  rw [none]
  rfl

/-! ### Timebase commands (R174) -/

/-- The zero point that a command names has passed. -/
def tbLate (s : State) (t : TbId) (inst : Nat) : Bool :=
  decide (inst ≠ 0) && s.edg.tb[t].running && decide (inst ≤ s.edg.tb[t].lastZero)

/-- A late command is counted and logged. -/
def noteTbLate (t : TbId) (inst : Nat) (s : State) : State :=
  if tbLate s t inst then (s.bump (Obj.EDG_TB_LATE t)).log 0x3002 [t.val, s.now - inst] else s

theorem noteTbLate_edg (t : TbId) (inst : Nat) (s : State) : (noteTbLate t inst s).edg = s.edg := by
  unfold noteTbLate
  split
  · rw [State.log_edg, State.bump_edg]
  · rfl

/-- A command that can be taken, and that no other of the same instant meets, waits for its zero point; a late one for the next. -/
theorem tbCommand_taken {s : State} {t : TbId} {shift : Bool} {v : Int} {inst : Nat} {src : Source × Nat} (free : tbBusy s t = false)
    (good : tbValueBad s t shift v = 0) (near : inst ≤ s.replicaOf .edge + 2147483648)
    (alone : s.edg.tb[t].cmds.any (tbMeets inst src) = false) : tbCommand t shift v inst src s =
      (0, (noteTbLate t inst s).modTb t fun x =>
        { x with cmds := x.cmds ++ [⟨if tbLate s t inst then 0 else inst, shift, v, src.1, src.2⟩] }) := by
  have unmet : ∀ c ∈ s.edg.tb[t].cmds, tbMeets inst src c = false := fun c mem => Bool.eq_false_iff.2 (List.any_eq_false.1 alone c mem)
  have unbeaten : s.edg.tb[t].cmds.any (fun c => tbMeets inst src c && comesFirst (c.src, c.channel) src) = false :=
    List.any_eq_false.2 fun c mem => by rw [unmet c mem, Bool.false_and]; exact Bool.false_ne_true
  have stay : s.edg.tb[t].cmds.filter (fun c => !tbMeets inst src c) = s.edg.tb[t].cmds :=
    List.filter_eq_self.2 fun c mem => by rw [unmet c mem, Bool.not_false]
  unfold tbCommand
  rw [if_neg (by simp [free]), if_neg (by simp [good]), if_neg (by simpa [implausible] using near),
    if_neg (by rw [unbeaten]; exact Bool.false_ne_true)]
  extract_lets late noted counted
  have hNoted : noted = noteTbLate t inst s := rfl
  have hCounted : counted = noted := if_neg (by rw [hNoted, noteTbLate_edg, alone]; exact Bool.false_ne_true)
  rw [hCounted, hNoted]
  unfold State.modTb State.modEdg
  simp only [noteTbLate_edg, stay]
  rfl

/-- Where another command of the same instant comes first, nothing is taken (R21). -/
theorem tbCommand_edg_of_beaten {s : State} {t : TbId} {inst : Nat} {src : Source × Nat} {c : TbCmd} (waits : c ∈ s.edg.tb[t].cmds)
    (meets : tbMeets inst src c = true) (first : comesFirst (c.src, c.channel) src = true) (shift : Bool) (v : Int) :
    (tbCommand t shift v inst src s).2.edg = s.edg := by
  have beaten : (s.edg.tb[t].cmds.any fun c => tbMeets inst src c && comesFirst (c.src, c.channel) src) = true :=
    List.any_eq_true.2 ⟨c, waits, by simp [meets, first]⟩
  unfold tbCommand
  rw [if_pos beaten]
  split
  · rfl
  · split
    · rfl
    · split <;> rfl

/-- R174: a period change that is not late waits with its instant, and the period stands meanwhile. -/
theorem tbPeriodChange_waits {s : State} {tb : TbId} {period inst : Nat} {w : Writer} (served : s.serves w .edge = true)
    (free : tbBusy s tb = false) (good : tbValueBad s tb false period = 0)
    (ahead : inst = 0 ∨ (s.edg.tb[tb].lastZero < inst ∧ inst ≤ s.replicaOf .edge + 2147483648))
    (alone : s.edg.tb[tb].cmds.any (tbMeets inst (writerSource w)) = false) :
    Completes (.tbPeriodChange tb period inst w) s fun t =>
      t.edg.tb[tb].cmds = s.edg.tb[tb].cmds ++ [⟨inst, false, period, (writerSource w).1, (writerSource w).2⟩] ∧
      t.objN (Obj.EDG_TB_PERIOD tb) = s.objN (Obj.EDG_TB_PERIOD tb) := by
  have near : inst ≤ s.replicaOf .edge + 2147483648 := by omega
  have inTime : tbLate s tb inst = false := by
    unfold tbLate
    rcases ahead with rfl | ⟨later, -⟩
    · rfl
    · rw [decide_eq_false (Nat.not_le.2 later), Bool.and_false]
  have taken := tbCommand_taken (src := writerSource w) free good near alone
  simp only [noteTbLate, inTime, Bool.false_eq_true, if_false] at taken
  obtain ⟨objs, edg, -⟩ := request_accepted served (Obj.EDG_TB_PERIOD tb) ((owned_served served _).trans taken)
  refine ⟨_, rfl, ?_, congrArg (fun v : Val => v.toInt.toNat) (State.obj_congr objs _)⟩
  rw [edg, State.modTb_at]

/-- R174: a phase shift whose zero point has passed is logged and waits for the next one. -/
theorem tbPhaseShift_late {s : State} {tb : TbId} {delta : Int} {inst : Nat} {w : Writer} (served : s.serves w .edge = true)
    (free : tbBusy s tb = false) (good : tbValueBad s tb true delta = 0) (runs : s.edg.tb[tb].running = true) (timed : inst ≠ 0)
    (late : inst ≤ s.edg.tb[tb].lastZero) (near : inst ≤ s.replicaOf .edge + 2147483648)
    (alone : s.edg.tb[tb].cmds.any (tbMeets inst (writerSource w)) = false) (room : s.hasRoom 1 = true) :
    Completes (.tbPhaseShift tb delta inst w) s fun t =>
      t.edg.tb[tb].cmds = s.edg.tb[tb].cmds ++ [⟨0, true, delta, (writerSource w).1, (writerSource w).2⟩] ∧
      newEvent s t 0x3002 [tb.val, (s.now : Rat) - inst] = true := by
  have isLate : tbLate s tb inst = true := by
    unfold tbLate
    rw [decide_eq_true timed, runs, decide_eq_true late]
    rfl
  have taken := tbCommand_taken (src := writerSource w) free good near alone
  simp only [noteTbLate, isLate, if_true] at taken
  obtain ⟨-, edg, logBuf⟩ := request_accepted served Obj.EDG_TB_CMD_CODE ((owned_served served _).trans taken)
  have noted : (s.bump (Obj.EDG_TB_LATE tb)).hasRoom 1 = true := hasRoom_eq room rfl
  refine ⟨_, rfl, ?_, newEvent_congr logBuf (newEvent_log noted (le_refl _) rfl)⟩
  rw [edg, State.modTb_at, State.log_edg, State.bump_edg]

theorem tbPeriodChange_beaten {s : State} {tb : TbId} {inst : Nat} {w : Writer} {c : TbCmd} (waits : c ∈ s.edg.tb[tb].cmds)
    (meets : tbMeets inst (writerSource w) c = true) (first : comesFirst (c.src, c.channel) (writerSource w) = true)
    (served : s.serves w .edge = true) (period : Nat) :
    Completes (.tbPeriodChange tb period inst w) s fun t => t.edg.tb[tb].cmds = s.edg.tb[tb].cmds := by
  have kept : (owned w (tbCommand tb false period inst (writerSource w)) s).2.edg = s.edg := by
    rw [owned_served served]
    exact tbCommand_edg_of_beaten waits meets first false period
  exact ⟨_, rfl, congrArg (fun e : EdgeSt => e.tb[tb].cmds) (request_edg kept _ _ _)⟩

/-- R175: the control word stands at once, and the compares with it wait for the reload point. -/
theorem staticCtrlWrite_waits {s : State} {ch : ChanId} {ctrl : Nat} {w : Writer} (served : s.serves w .edge = true) (inv : Inv s)
    (small : ctrl < 64) : Completes (.staticCtrlWrite ch ctrl w) s fun t => t.objN (Obj.EDG_CH_STATIC_CTRL ch) = ctrl ∧
      t.edg.ch[ch].staticNext = some ⟨(List.range 4).map fun j => s.objN (Obj.EDG_CH_STATIC ch j), [], ctrl⟩ ∧
      t.edg.ch[ch].static = s.edg.ch[ch].static := by
  have taken : owned w (fun s => if ctrl < 64 then (0, staticCtrl ch ctrl s) else (0x06090030, s)) s = (0, staticCtrl ch ctrl s) :=
    (owned_served served _).trans (if_pos small)
  have written : (staticCtrl ch ctrl s).edg.ch[ch] = { s.edg.ch[ch] with
      staticNext := some ⟨(List.range 4).map fun j => s.objN (Obj.EDG_CH_STATIC ch j), [], ctrl⟩ } := vset_self _ ch _ _
  obtain ⟨objs, edg, -⟩ := request_accepted served (Obj.EDG_CH_STATIC_CTRL ch) taken
  refine ⟨_, rfl, (congrArg (fun v : Val => v.toInt.toNat) (State.obj_congr objs _)).trans (State.objN_setN inv.objs _ _), ?_⟩
  rw [edg, written]
  exact ⟨rfl, rfl⟩

/-! ### One unit of a fold -/

/-- A fold over distinct units, of which each step writes its own: unit n is as its own step leaves it, on whatever the others' steps keep. -/
theorem foldl_unit {α β : Type} {get : State → β} {step : State → α → State} {P : State → Prop} {n : α} {v : β}
    (keeps : ∀ s a, a ≠ n → P s → P (step s a)) (own : ∀ s, P s → get (step s n) = v)
    (other : ∀ s a, a ≠ n → get (step s a) = get s) {l : List α} (distinct : l.Nodup) (mem : n ∈ l) {s : State} (start : P s) :
    get (l.foldl step s) = v := by
  induction l generalizing s with
  | nil => exact absurd mem List.not_mem_nil
  | cons a l ih =>
    obtain ⟨notAgain, distinct⟩ := List.nodup_cons.1 distinct
    by_cases here : a = n
    · subst here
      have rest (l : List α) (out : a ∉ l) (u : State) : get (l.foldl step u) = get u := by
        induction l generalizing u with
        | nil => rfl
        | cons b l ih =>
          obtain ⟨ne, out⟩ := List.ne_and_not_mem_of_not_mem_cons out
          exact (ih out (step u b)).trans (other u b ne.symm)
      exact (rest l notAgain _).trans (own s start)
    · exact ih distinct ((List.mem_cons.1 mem).resolve_left (Ne.symm here)) (keeps s a here start)

/-! ### Sample triggers (R173) -/

theorem group_PIE_TIMEBASE (n : StageId) : objGroup (Obj.PIE_TIMEBASE n) = .pie := by fin_cases n <;> rfl

theorem group_MOD_STAGE_CFG (n : StageId) : objGroup (Obj.MOD_STAGE_CFG n.val) = .mod := by fin_cases n <;> rfl

/-- What a sample trigger notes at its timebase and at the windows that it misses, before the piers take it. -/
def triggerNoted (tb : TbId) (s : State) : State :=
  let t0 := s.now + 6
  let noted := s.modTb tb fun x => { x with triggers := x.triggers + 1, trigFor := t0 }
  match nearest (t0 : Int) (schedule s tb) with
  | some d =>
    if 1 < (d - t0).natAbs && !noted.fenced .sample then
      (windowChans noted tb).foldl (fun s c =>
        (s.modAdc c fun a => { a with winBad := some d.toNat }).log 0x4008 [c.val + 1, tb.val, (t0 : Int) - d]) noted
    else noted
  | none => noted

/-- A pier takes the trigger of sample point m, one of every `tu / iv` (R173). -/
def takeTrigger (tb : TbId) (iv m t0 : Nat) (s : State) (n : StageId) : State :=
  let per := if iv = 0 then 0 else s.tu n / iv
  if s.objN (Obj.PIE_TIMEBASE n) = tb.val ∧ s.stype n ≠ .none ∧ per ≠ 0 ∧ m % per = 0 ∧ !s.fenced (.pier n) then
    s.modPier n fun p => { p with k := m / per, t0 := t0 }
  else s

theorem sampleTrigger_eq {s : State} {tb : TbId} (runs : s.edg.tb[tb].running = true) (alone : s.twn.mode = 0) : sampleTrigger tb s =
    allStages.foldl (takeTrigger tb (sampleInterval s tb) s.edg.tb[tb].triggers (s.now + 6)) (triggerNoted tb s) := by
  unfold sampleTrigger
  rw [if_neg (by rw [runs]; decide)]
  extract_lets t0 iv m due noted windowed
  have count : m = s.edg.tb[tb].triggers := if_pos (.inl alone)
  rw [count]
  rfl

/-- What a sample trigger may write: timebases, converters, the log, and the piers' sample counts and instants. -/
abbrev triggerParts : Nat :=
  0x2000008000003000000000000000000000000000000000000000000000000000000000004000000000000000000000000000000000000000100

theorem keeps_triggerNoted (tb : TbId) (s : State) : Keeps triggerParts s (triggerNoted tb s) := by
  unfold triggerNoted
  extract_lets t0 noted
  have hNoted : Keeps triggerParts s noted := .step (keeps_State_modTb _ _ _) (by decide) (.refl s)
  split
  · refine .ite (.foldl _ (fun _ _ h => ?_) hNoted) hNoted
    exact .step (keeps_State_log _ _ _) (by decide) (.step (keeps_State_modAdc _ _ _) (by decide) h)
  · exact hNoted

theorem triggerNoted_tb (tb : TbId) (s : State) : (triggerNoted tb s).edg.tb[tb] =
    { s.edg.tb[tb] with triggers := s.edg.tb[tb].triggers + 1, trigFor := s.now + 6 } := by
  refine .trans ?_ (State.modTb_at s tb fun x => { x with triggers := x.triggers + 1, trigFor := s.now + 6 })
  unfold triggerNoted
  extract_lets t0 noted
  split
  · split
    · exact congrArg (·[tb]) (foldl_keeps (get := fun s => s.edg.tb) (fun _ _ => by rw [State.log_edg]; rfl) _ noted)
    · rfl
  · rfl

theorem keeps_takeTrigger (tb : TbId) (iv m t0 : Nat) {s u : State} (n : StageId) (h : Keeps triggerParts s u) :
    Keeps triggerParts s (takeTrigger tb iv m t0 u n) := by
  unfold takeTrigger
  refine .ite (.modPier (PieField.upd_of fun f x e => ?_) h) h
  cases f
  case k | t0 => exact Keeps.no rfl e
  all_goals rfl

theorem takeTrigger_edg (tb : TbId) (iv m t0 : Nat) (s : State) (n : StageId) : (takeTrigger tb iv m t0 s n).edg = s.edg := by
  unfold takeTrigger
  extract_lets per
  split <;> rfl

theorem takeTrigger_other (tb : TbId) (iv m t0 : Nat) (s : State) {a n : StageId} (ne : a ≠ n) :
    (takeTrigger tb iv m t0 s a).pie[n] = s.pie[n] := by
  unfold takeTrigger
  extract_lets per
  split
  · rw [State.modPier_at, if_neg ne]
  · rfl

/-- A pier takes a trigger: it samples on the timebase, its update period begins, it acts, and its stage is used (R173). -/
structure TakesTrigger (s : State) (tb : TbId) (m : Nat) (n : StageId) : Prop where
  timebase : s.objN (Obj.PIE_TIMEBASE n) = tb.val
  used : s.stype n ≠ .none
  interval : 0 < sampleInterval s tb
  period : 0 < s.tu n / sampleInterval s tb
  begins : m % (s.tu n / sampleInterval s tb) = 0
  acts : s.fenced (.pier n) = false

theorem takeTrigger_own {s u : State} {tb : TbId} {m : Nat} {n : StageId} (h : TakesTrigger s tb m n) (keeps : Keeps triggerParts s u)
    (t0 : Nat) : ((takeTrigger tb (sampleInterval s tb) m t0 u n).pie[n].k, (takeTrigger tb (sampleInterval s tb) m t0 u n).pie[n].t0) =
      (m / (s.tu n / sampleInterval s tb), t0) := by
  have mod : triggerParts.testBit (Part.obj .mod).bit = false := by decide
  have pie : triggerParts.testBit (Part.obj .pie).bit = false := by decide
  have timebase : u.objN (Obj.PIE_TIMEBASE n) = tb.val := (keeps.objN _ (by rwa [group_PIE_TIMEBASE]) mod).trans h.timebase
  have type : u.stype n = s.stype n :=
    congrArg (fun v => stypeOf (bitsAt v 0 4)) (keeps.objN _ (by rwa [group_MOD_STAGE_CFG]) mod)
  have fences : u.isl.fenced = s.isl.fenced := keeps.same (.isl .fenced) (by decide)
  have acts : u.fenced (.pier n) = false := by rw [State.fenced, fences]; exact h.acts
  unfold takeTrigger
  extract_lets per
  have hPer : per = s.tu n / sampleInterval s tb :=
    (if_neg h.interval.ne').trans (congrArg (· / _) (keeps.objN _ (by rwa [group_PIE_UPDATE_PERIOD]) mod))
  rw [if_pos ⟨timebase, type ▸ h.used, hPer ▸ h.period.ne', hPer ▸ h.begins, by rw [acts, Bool.not_false]⟩, State.modPier_at, if_pos rfl,
    hPer]

/-- Each pier that takes the trigger has its sample count and sample instant, whatever the others do. -/
theorem foldl_takeTrigger_at {s u : State} {tb : TbId} {m : Nat} {n : StageId} (h : TakesTrigger s tb m n) (keeps : Keeps triggerParts s u)
    (t0 : Nat) : ((allStages.foldl (takeTrigger tb (sampleInterval s tb) m t0) u).pie[n].k,
      (allStages.foldl (takeTrigger tb (sampleInterval s tb) m t0) u).pie[n].t0) = (m / (s.tu n / sampleInterval s tb), t0) :=
  foldl_unit (get := fun s => (s.pie[n].k, s.pie[n].t0)) (P := Keeps triggerParts s)
    (fun _ a _ h => keeps_takeTrigger tb _ m t0 a h) (fun _ k => takeTrigger_own h k t0)
    (fun u _ ne => congrArg (fun q : PierSt => (q.k, q.t0)) (takeTrigger_other tb _ m t0 u ne)) (by decide)
    (by fin_cases n <;> decide) keeps

/-- R173: the trigger is counted, and a pier whose update period begins takes its sample count and sample instant from it. -/
theorem sampleTrigger_taken {s : State} {tb : TbId} {n : StageId} (alive : s.alive .edge = true) (runs : s.edg.tb[tb].running = true)
    (alone : s.twn.mode = 0) (takes : TakesTrigger s tb s.edg.tb[tb].triggers n) :
    Completes (.sampleTrigger tb) s fun t => t.edg.tb[tb].triggers = s.edg.tb[tb].triggers + 1 ∧ t.edg.tb[tb].trigFor = s.now + 6 ∧
      t.pie[n].k = s.edg.tb[tb].triggers / (s.tu n / sampleInterval s tb) ∧ t.pie[n].t0 = s.now + 6 := by
  refine ⟨_, congrArg Host.Outcome.next ((State.on_of_alive alive _).trans (sampleTrigger_eq runs alone)), ?_⟩
  obtain ⟨k, t0⟩ := Prod.mk.inj (foldl_takeTrigger_at takes (keeps_triggerNoted tb s) (s.now + 6))
  rw [k, t0, foldl_keeps (get := fun s => s.edg) (takeTrigger_edg _ _ _ _), triggerNoted_tb]
  exact ⟨rfl, rfl, rfl, rfl⟩

/-! ### A point of a timebase (R172, R174 to R176) -/

/-- A zero or peak point of a timebase, before the channels reload. -/
def pointPassed (tb : TbId) (peak : Bool) (s : State) : State :=
  if peak then peakPoint tb s else (allGroups.filter fun g => grpTb s g == tb).foldl takeGroupWrites (zeroPoint tb s)

/-- The channels that reload at a point, as the state after it configures them. -/
def chansHere (tb : TbId) (peak : Bool) (s : State) : List ChanId := allChans.filter fun c => chanTb s c == tb && reloadsAt s c peak

/-- The channels of a point have taken the writes that wait for it and are released. -/
def chansReady (here : List ChanId) (s : State) : State := here.foldl releaseChan (here.foldl takeChanWrites s)

/-- The owners' sets at a point, in the order of the owners. -/
def ownersPass (here : List ChanId) (s : State) : State := (List.finRange 8).foldl (fun s o => ownerPoint here o s) s

/-- What follows the owners' sets at a point: static compares, bootstrap refreshes, and the trips of blanking windows that have closed. -/
def pointEnds (here : List ChanId) (s : State) : State :=
  tripScan (here.foldl (fun s c => bootPoint c s) ((here.filter fun c => decide (8 ≤ chanOwner s c)).foldl (fun s c => staticPoint c s) s))

/-- A point of the schedule that is due, step by step. -/
theorem reloadPoint_due {s : State} {tb : TbId} {peak : Bool} (due : pointDue s tb peak = true) : reloadPoint tb peak s =
    pointEnds (chansHere tb peak (pointPassed tb peak s)) (ownersPass (chansHere tb peak (pointPassed tb peak s))
      (chansReady (chansHere tb peak (pointPassed tb peak s)) (pointPassed tb peak s))) :=
  if_neg (by rw [due]; decide)

theorem reloadPoint_not_due {s : State} {tb : TbId} {peak : Bool} (early : pointDue s tb peak = false) : reloadPoint tb peak s = s :=
  if_pos (by rw [early]; rfl)

theorem chansReady_tb (here : List ChanId) (s : State) : (chansReady here s).edg.tb = s.edg.tb :=
  (foldl_keeps (get := fun s => s.edg.tb) (fun s c => (keeps_releaseChan s c).same (.edg .tb) rfl) here _).trans
    (foldl_keeps (get := fun s => s.edg.tb) (fun s c => (keeps_takeChanWrites s c).same (.edg .tb) rfl) here s)

theorem ownersPass_tb (here : List ChanId) (s : State) : (ownersPass here s).edg.tb = s.edg.tb :=
  foldl_keeps (get := fun s => s.edg.tb) (fun s o => (keeps_ownerPoint here o s).same (.edg .tb) rfl) (List.finRange 8) s

theorem pointEnds_tb (here : List ChanId) (s : State) : (pointEnds here s).edg.tb = s.edg.tb :=
  ((keeps_tripScan _).same (.edg .tb) rfl).trans
    ((foldl_keeps (get := fun s => s.edg.tb) (fun s c => (keeps_bootPoint c s).same (.edg .tb) rfl) here _).trans
      (foldl_keeps (get := fun s => s.edg.tb) (fun s c => (keeps_staticPoint c s).same (.edg .tb) rfl) _ s))

theorem pointEnds_sets (here : List ChanId) (s : State) : (pointEnds here s).edg.sets = s.edg.sets :=
  ((keeps_tripScan _).same (.edg .sets) rfl).trans
    ((foldl_keeps (get := fun s => s.edg.sets) (fun s c => (keeps_bootPoint c s).same (.edg .sets) rfl) here _).trans
      (foldl_keeps (get := fun s => s.edg.sets) (fun s c => (keeps_staticPoint c s).same (.edg .sets) rfl) _ s))

theorem pointPassed_at (tb : TbId) (peak : Bool) (s : State) : ((pointPassed tb peak s).edg.tb[tb].lastZero,
    (pointPassed tb peak s).edg.tb[tb].peaked, (pointPassed tb peak s).edg.tb[tb].cmds) =
      (if peak then s.edg.tb[tb].lastZero else nextZero s tb, peak,
        if peak then s.edg.tb[tb].cmds else s.edg.tb[tb].cmds.filter fun c => !decide (c.inst ≤ nextZero s tb)) := by
  cases peak with
  | true =>
    simp only [pointPassed, if_true, peakPoint, State.modTb_at]
  | false =>
    have written : (pointPassed tb false s).edg.tb = (zeroPoint tb s).edg.tb :=
      foldl_keeps (get := fun s => s.edg.tb) (fun s g => (keeps_takeGroupWrites s g).same (.edg .tb) rfl) _ _
    rw [written]
    exact zeroPoint_at tb s

/-- R172, R174: the timebase after a point that was due. -/
theorem reloadPoint_timebase {s : State} {tb : TbId} {peak : Bool} (alive : s.alive .edge = true) (due : pointDue s tb peak = true) :
    Completes (.reloadPoint tb peak) s fun t => t.edg.tb[tb].lastZero = (if peak then s.edg.tb[tb].lastZero else nextZero s tb) ∧
      t.edg.tb[tb].peaked = peak ∧
      t.edg.tb[tb].cmds = (if peak then s.edg.tb[tb].cmds else s.edg.tb[tb].cmds.filter fun c => !decide (c.inst ≤ nextZero s tb)) := by
  refine ⟨_, congrArg Host.Outcome.next ((State.on_of_alive alive _).trans (reloadPoint_due due)), ?_⟩
  obtain ⟨zero, point⟩ := Prod.mk.inj (pointPassed_at tb peak s)
  obtain ⟨peaked, cmds⟩ := Prod.mk.inj point
  rw [pointEnds_tb, ownersPass_tb, chansReady_tb]
  exact ⟨zero, peaked, cmds⟩

theorem reloadPoint_early {s : State} {tb : TbId} {peak : Bool} (early : pointDue s tb peak = false) :
    Completes (.reloadPoint tb peak) s fun t => t = s := by
  refine ⟨_, rfl, ?_⟩
  unfold State.on
  split
  · exact reloadPoint_not_due early
  · rfl

/-! ### An owner's set at its reload point (R176) -/

/-- What a zero point without waiting commands and writes may have written when the owners' sets come to their turn. -/
abbrev readyParts : Nat :=
  0x180000000000000000000000000000000000000000000000000000000000000000000000000000000000000000020a1000000000000000

/-- The same, with what the owners' sets write. -/
abbrev pointParts : Nat :=
  0x8000380001000000000000000000000000000000000000000000000000000000000000040000000000000208000000020a1480000000000100

theorem takeGroupWrites_of_none {s : State} (none : s.commitWrites = []) (g : GroupId) : takeGroupWrites s g = s := by
  unfold takeGroupWrites
  rw [none]
  rfl

theorem takeChanWrites_of_none {s : State} (none : s.commitWrites = []) (c : ChanId) : takeChanWrites s c = showDeadTime c s := by
  have same : ({ s with commitWrites := [] } : State) = s := by rw [← none]
  unfold takeChanWrites
  simp only [none, List.filter_nil, List.foldl_nil, same]

theorem showDeadTime_commitWrites (c : ChanId) (s : State) : (showDeadTime c s).commitWrites = s.commitWrites := by
  unfold showDeadTime
  rw [State.setBit_commitWrites]

theorem foldl_takeChanWrites_of_none (l : List ChanId) {s : State} (none : s.commitWrites = []) :
    l.foldl takeChanWrites s = l.foldl (fun s c => showDeadTime c s) s := by
  induction l generalizing s with
  | nil => rw [List.foldl_nil, List.foldl_nil]
  | cons c l ih =>
    rw [List.foldl_cons, takeChanWrites_of_none none, ih ((showDeadTime_commitWrites c s).trans none), List.foldl_cons]

theorem pointPassed_of_none {s : State} {tb : TbId} (noWrites : s.commitWrites = []) :
    pointPassed tb false s = zeroPoint tb s := by
  have still (l : List GroupId) {u : State} (h : u.commitWrites = []) : l.foldl takeGroupWrites u = u := by
    induction l with
    | nil => rfl
    | cons g l ih => rw [List.foldl_cons, takeGroupWrites_of_none h, ih]
  have noneLeft : (zeroPoint tb s).commitWrites = [] := ((keeps_zeroPoint tb s).same .commitWrites (by decide)).trans noWrites
  unfold pointPassed
  rw [if_neg Bool.false_ne_true, still _ noneLeft]

theorem chansReady_of_none (here : List ChanId) {s : State} (noWrites : s.commitWrites = []) :
    chansReady here s = here.foldl releaseChan (here.foldl (fun s c => showDeadTime c s) s) := by
  rw [chansReady, foldl_takeChanWrites_of_none here noWrites]

theorem keeps_pointPassed {s : State} {tb : TbId} (noWrites : s.commitWrites = []) (noCmds : s.edg.tb[tb].cmds = []) :
    Keeps readyParts s (pointPassed tb false s) := by
  rw [pointPassed_of_none noWrites, zeroPoint_of_no_cmds noCmds]
  exact .step (keeps_showNextZero _ _) (by decide) (.step (keeps_State_modTb _ _ _) (by decide) (.refl s))

theorem keeps_chansReady (here : List ChanId) {s : State} (noWrites : s.commitWrites = []) : Keeps readyParts s (chansReady here s) := by
  rw [chansReady_of_none here noWrites]
  refine .foldl here (fun _ _ h => .step (keeps_releaseChan _ _) (by decide) h) ?_
  exact .foldl here (fun _ _ h => .step (keeps_showDeadTime _ _) (by decide) h) (.refl s)

section Config

variable {F : Nat} {s t : State} (h : Keeps F s t) (spares : sparesEdges F = true)
include h spares

theorem Keeps.ownedChans (o : Nat) : ownedChans t o = ownedChans s o := by
  simp only [Machine.ownedChans, chanOwner, h.chanField spares]

theorem Keeps.chanTb (c : ChanId) : chanTb t c = chanTb s c := by simp only [Machine.chanTb, h.chanField spares]

theorem Keeps.reloadsAt (c : ChanId) (peak : Bool) : reloadsAt t c peak = reloadsAt s c peak := by
  have reload : chanReload t c = chanReload s c := h.chanField spares c _ _
  have tb := h.chanTb spares c
  simp only [sparesEdges, Bool.and_eq_true, Bool.not_eq_true'] at spares
  obtain ⟨⟨edg, -⟩, mod⟩ := spares
  have mode (b : TbId) := h.objN (Obj.EDG_TB_MODE b) (by rwa [group_EDG_TB_MODE]) mod
  unfold Machine.reloadsAt tbCentre
  rw [reload, tb, mode]

end Config

theorem Keeps.replicaOf {F : Nat} {s t : State} (h : Keeps F s t) (mt : F.testBit (Part.isl .mt).bit = false)
    (dev : F.testBit (Part.isl .dev).bit = false) (i : Island) : t.replicaOf i = s.replicaOf i := by
  have time : t.isl.mt = s.isl.mt := h.same (.isl .mt) mt
  have devs : t.isl.dev = s.isl.dev := h.same (.isl .dev) dev
  unfold State.replicaOf State.devOf
  rw [time, devs]

theorem startPeriod_sets (o : Fin 8) (f : CmdSet) (start : Nat) (s : State) :
    (startPeriod o f start s).edg.sets = s.edg.sets.set o { s.edg.sets[o] with start := start } := by
  unfold startPeriod
  extract_lets tu started placed
  have hPlaced : placed.edg.sets = started.edg.sets := by
    refine foldl_keeps (get := fun s => s.edg.sets) (fun s e => ?_) _ started
    exact ((keeps_placeFrom _ _ _).same (.edg .sets) rfl).trans
      (((keeps_formToggles _ _ _ _ _).same (.edg .sets) rfl).trans ((keeps_settle _ s).same (.edg .sets) rfl))
  exact ((keeps_armPeriod _ _ _ _).same (.edg .sets) rfl).trans hPlaced

theorem returnTally_edg (o : Fin 8) (t : Nat) (s : State) : (returnTally o t s).edg = s.edg := by
  unfold returnTally
  split <;> rfl

/-- A point of one owner leaves the sets of every other alone. -/
theorem ownerPoint_other (here : List ChanId) (s : State) {a o : Fin 8} (ne : a ≠ o) : (ownerPoint here a s).edg.sets[o] = s.edg.sets[o] := by
  unfold ownerPoint
  extract_lets cs x ripe
  split
  · rfl
  · split
    · refine (congrArg (·.sets[o]) (returnTally_edg _ _ _)).trans ((congrArg (·[o]) (startPeriod_sets _ _ _ _)).trans ?_)
      exact ((vset_at _ a o _ a.isLt).trans (if_neg ne)).trans ((vset_at _ a o _ a.isLt).trans (if_neg ne))
    · split
      · exact (congrArg (·[o]) (startPeriod_sets _ _ _ _)).trans ((vset_at _ a o _ a.isLt).trans (if_neg ne))
      · exact congrArg (·[o]) (foldl_keeps (get := fun s => s.edg.sets)
          (fun s c => (keeps_placeFrom c _ s).same (.edg .sets) rfl) _ s)
    · rfl

/-- A shadowed set whose instant has come takes effect where all channels of its owner reload. -/
theorem ownerPoint_ripe {here : List ChanId} {s : State} {o : Fin 8} {f : CmdSet} (shadow : s.edg.sets[o].shadow = some f)
    (due : f.instant ≤ s.replicaOf .edge) (owns : ownedChans s o.val ≠ []) (reload : ∀ c ∈ ownedChans s o.val, c ∈ here) :
    (ownerPoint here o s).edg.sets[o] = { s.edg.sets[o] with force := some f, shadow := none, deferred := false, start := s.now } := by
  obtain ⟨c, owned⟩ := List.exists_mem_of_ne_nil _ owns
  have all : (ownedChans s o.val).all here.contains = true :=
    List.all_eq_true.2 fun c mem => List.contains_iff_mem.2 (reload c mem)
  have some_ : (ownedChans s o.val).any here.contains = true :=
    List.any_eq_true.2 ⟨c, owned, List.contains_iff_mem.2 (reload c owned)⟩
  unfold ownerPoint
  simp only [some_, shadow, due, all, decide_true, Bool.or_true, Bool.and_self, Bool.not_true, Bool.false_eq_true, if_false]
  refine (congrArg (·.sets[o]) (returnTally_edg _ _ _)).trans ((congrArg (·[o]) (startPeriod_sets _ _ _ _)).trans ?_)
  refine (vset_self _ o _ o.isLt).trans ?_
  exact congrArg (fun x : SetSt => { x with start := s.now }) (vset_self _ o _ o.isLt)

/-- R176: at the reload point of all an owner's channels a ripe shadowed set comes into force. -/
theorem reloadPoint_ripe {s : State} {tb : TbId} {o : Fin 8} {f : CmdSet} (alive : s.alive .edge = true)
    (due : pointDue s tb false = true) (noWrites : s.commitWrites = []) (noCmds : s.edg.tb[tb].cmds = [])
    (shadow : s.edg.sets[o].shadow = some f) (ripe : f.instant ≤ s.replicaOf .edge) (owns : ownedChans s o.val ≠ [])
    (reload : ∀ c ∈ ownedChans s o.val, chanTb s c = tb ∧ reloadsAt s c false = true) :
    Completes (.reloadPoint tb false) s fun t => t.edg.sets[o].force = some f ∧ t.edg.sets[o].shadow = none ∧
      t.edg.sets[o].start = s.now := by
  refine ⟨_, congrArg Host.Outcome.next ((State.on_of_alive alive _).trans (reloadPoint_due due)), ?_⟩
  have spares : sparesEdges pointParts = true := by decide
  have edges : sparesEdges readyParts = true := by decide
  have passed := keeps_pointPassed noWrites noCmds
  generalize hHere : chansHere tb false (pointPassed tb false s) = here
  have mem (c : ChanId) (owned : c ∈ ownedChans s o.val) : c ∈ here := by
    obtain ⟨base, reloads⟩ := reload c owned
    rw [← hHere, chansHere, List.mem_filter, Bool.and_eq_true, beq_iff_eq]
    exact ⟨List.mem_finRange c, (passed.chanTb edges c).trans base, (passed.reloadsAt edges c false).trans reloads⟩
  have ready := passed.trans (keeps_chansReady here ((passed.same .commitWrites rfl).trans noWrites))
  have sets : (chansReady here (pointPassed tb false s)).edg.sets = s.edg.sets := ready.same (.edg .sets) rfl
  have force : (ownersPass here (chansReady here (pointPassed tb false s))).edg.sets[o] =
      { s.edg.sets[o] with force := some f, shadow := none, deferred := false, start := s.now } := by
    refine foldl_unit (get := fun u => u.edg.sets[o]) (P := fun u => Keeps pointParts s u ∧ u.edg.sets[o] = s.edg.sets[o])
      (fun u a ne ⟨keeps, same⟩ => ⟨.step (keeps_ownerPoint here a u) (by decide) keeps, (ownerPoint_other here u ne).trans same⟩)
      (fun u ⟨keeps, same⟩ => ?_) (fun u a ne => ownerPoint_other here u ne) (List.nodup_finRange 8) (List.mem_finRange o)
      ⟨ready.mono (by decide), by rw [sets]⟩
    have owned := keeps.ownedChans spares o.val
    have now : u.isl.mt = s.isl.mt := keeps.same (.isl .mt) rfl
    rw [ownerPoint_ripe (same ▸ shadow) (by rwa [keeps.replicaOf rfl rfl]) (by rwa [owned]) (by rwa [owned]), same, State.now, now, State.now]
  dsimp only
  rw [pointEnds_sets, force]
  exact ⟨rfl, rfl, rfl⟩

/-- Settles O22, clause by clause from the lemmas above. -/
theorem timebasesAndReloads : Obligations.TimebasesAndReloads := by
  unfold Obligations.TimebasesAndReloads
  refine ⟨?start, ?trigger, ?point, ?early, ?ripe, ?period, ?shift, ?beaten, ?static⟩
  case start => exact fun _ _ _ => timebaseStart_runs
  case trigger =>
    exact fun _ _ _ alive runs alone timebase used interval period begins acts =>
      sampleTrigger_taken alive runs alone ⟨timebase, used, interval, period, begins, acts⟩
  case point => exact fun _ _ _ => reloadPoint_timebase
  case early => exact fun _ _ _ => reloadPoint_early
  case ripe => exact fun _ _ _ _ _ => reloadPoint_ripe
  case period => exact fun _ _ _ _ _ => tbPeriodChange_waits
  case shift => exact fun _ _ _ _ _ => tbPhaseShift_late
  case beaten => exact fun _ _ _ _ _ _ served waits meets first => tbPeriodChange_beaten waits meets first served _
  case static => exact fun _ _ _ _ => staticCtrlWrite_waits

end Sys2Proof.Machine
end

section
/-!
PROOF. A discarded command set (R157) of a stage whose pulses are to end with its sample (R43): the discard voids the sample, the end of a
sample ends those pulses, and that takes the owner's sets away, the one in shadow among them.
-/

namespace Sys2Proof.Machine

/-! ### The set in shadow when pulses end -/

/-- A stage's outputs go off, and with them its sets. -/
theorem edgeIdle_shadow {s : State} (acts : s.fenced .edge = false) (n : StageId) : (edgeIdle n s).edg.sets[ownSets n].shadow = none := by
  unfold edgeIdle
  rw [if_neg (by rw [acts]; exact Bool.false_ne_true)]
  extract_lets idle
  have off : ((stageChans idle n).foldl (fun s c => outputsOff c s) idle).edg.sets = idle.edg.sets :=
    foldl_keeps (get := fun s => s.edg.sets) (fun s c => (keeps_outputsOff c s).same (.edg .sets) rfl) _ idle
  rw [off]
  exact congrArg SetSt.shadow (vset_self _ (ownSets n) _ (ownSets n).isLt)

/-- A sample that ends without a commit takes the set in shadow with it, where the stage's pulses end with it. -/
theorem sampleEnded_shadow {s : State} {p : StageId} (ends : s.stg[p].pulsesEnd = true) (acts : s.fenced .edge = false) (cause : Nat) :
    (sampleEnded p cause s).edg.sets[ownSets p].shadow = none := by
  have dropped := keeps_sampleDropped p cause s
  have stage : (sampleDropped p cause s).stg[p] = s.stg[p] := congrArg (·[p]) (dropped.stg fun f => by cases f <;> rfl)
  have fences : (sampleDropped p cause s).isl.fenced = s.isl.fenced := dropped.same (.isl .fenced) (by decide)
  have sets : (sampleEnded p cause s).edg.sets = (endPulses p (sampleDropped p cause s)).edg.sets :=
    (keeps_dueSelftest _ _).same (.edg .sets) rfl
  have still : (sampleDropped p cause s).fenced .edge = false := by rw [State.fenced, fences]; exact acts
  rw [sets, endPulses, if_pos (by rw [stage, ends])]
  exact edgeIdle_shadow (s := (sampleDropped p cause s).modStage p fun c => { c with pulsesEnd := false }) still p

/-- Where no pulses end, the end of a sample leaves the sets alone. -/
theorem sampleEnded_sets {s : State} {p : StageId} (still : s.stg[p].pulsesEnd = false) (cause : Nat) :
    (sampleEnded p cause s).edg.sets = s.edg.sets := by
  have dropped := keeps_sampleDropped p cause s
  have stage : (sampleDropped p cause s).stg[p] = s.stg[p] := congrArg (·[p]) (dropped.stg fun f => by cases f <;> rfl)
  have same : endPulses p (sampleDropped p cause s) = sampleDropped p cause s := if_neg (by rw [stage, still]; exact Bool.false_ne_true)
  refine ((keeps_dueSelftest _ _).same (.edg .sets) rfl).trans ?_
  rw [same]
  exact dropped.same (.edg .sets) (by decide)

/-! ### A discarded set -/

/-- The committed set has been returned with the pier's banks before its commit; the sample is not yet voided (R157). -/
def setTakenBack (p : StageId) (why k : Nat) (s : State) : State :=
  let s := setReturned p (s.log 0x2404 [p.val, why, k])
  match s.pie[p].before with
  | some b => undoSample p b.undo (s.modPier p fun q => { q with law := b.law, blocks := b.blocks, work := none, before := none })
  | none => s

theorem discardSet_eq (p : StageId) (why k : Nat) (s : State) : discardSet p why k s = voidSample p 4 (setTakenBack p why k s) := rfl

/-- What returning a set may write: the log, the pier's banks and what its undo gives back. -/
abbrev takenBackParts : Nat :=
  0x1f80408700000000000000402f98200000000000000000000000000010040000004000000000000000000000000000000000000000100

theorem keeps_setTakenBack (p : StageId) (why k : Nat) (s : State) : Keeps takenBackParts s (setTakenBack p why k s) := by
  unfold setTakenBack
  extract_lets returned
  have hReturned : Keeps takenBackParts s returned :=
    .step (keeps_setReturned _ _) (by decide) (.step (keeps_State_log _ _ _) (by decide) (.refl s))
  split
  · refine .step (keeps_undoSample _ _ _) (by decide) (.modPier (PieField.upd_of fun f x e => ?_) hReturned)
    cases f
    case law | blocks | work | before => exact Keeps.no rfl e
    all_goals rfl
  · exact hReturned

/-- Words that arrive with a fault, at a stage whose set is under way, are discarded. -/
theorem commandSetArrival_discards {s : State} {p : StageId} {words sent : List Nat} {why : Nat} (alive : s.alive .edge = true)
    (out : s.pie[p].out = some sent) (fault : setFault s p false (if words = sent then setOfWords s p false words else none) = some why) :
    exec (.commandSetArrival ⟨p, false, words⟩) s = .next (discardSet p why (words.getD 2 0) s) := by
  refine congrArg Host.Outcome.next ((State.on_of_alive alive _).trans ?_)
  dsimp only
  rw [if_neg Bool.false_ne_true, out]
  dsimp only
  rw [fault]

/-- Below the limit a discard voids the sample and does no more. -/
theorem discardSet_below {s : State} {p : StageId} (below : s.pie[p].overrunRun + 1 < s.objN (Obj.PIE_OVERRUN_LIMIT p)) (why k : Nat) :
    discardSet p why k s = sampleEnded p 4 (setTakenBack p why k s) := by
  have taken := keeps_setTakenBack p why k s
  have count : (setTakenBack p why k s).pie[p].overrunRun = s.pie[p].overrunRun := taken.same (.pie .overrunRun) (by decide) p
  have limit : (sampleEnded p 4 (setTakenBack p why k s)).objN (Obj.PIE_OVERRUN_LIMIT p) = s.objN (Obj.PIE_OVERRUN_LIMIT p) :=
    ((keeps_sampleEnded p 4 _).objN _ (by rw [group_PIE_OVERRUN_LIMIT]; decide) (by decide)).trans
      (taken.objN _ (by rw [group_PIE_OVERRUN_LIMIT]; decide) (by decide))
  rw [discardSet_eq, voidSample_eq, if_neg (by rw [limit, sampleEnded_overrunRun, count]; exact Nat.not_le.2 below)]

theorem setTakenBack_stage (p : StageId) (why k : Nat) (s : State) : (setTakenBack p why k s).stg[p] = s.stg[p] :=
  congrArg (·[p]) ((keeps_setTakenBack p why k s).stg fun f => by cases f <;> rfl)

/-- A discard whose voided sample ends the pulses of its stage leaves no set in shadow. -/
theorem discardSet_shadow {s : State} {p : StageId} (ends : s.stg[p].pulsesEnd = true) (acts : s.fenced .edge = false)
    (below : s.pie[p].overrunRun + 1 < s.objN (Obj.PIE_OVERRUN_LIMIT p)) (why k : Nat) :
    (discardSet p why k s).edg.sets[ownSets p].shadow = none := by
  have fences : (setTakenBack p why k s).isl.fenced = s.isl.fenced := (keeps_setTakenBack p why k s).same (.isl .fenced) (by decide)
  rw [discardSet_below below]
  exact sampleEnded_shadow (by rw [setTakenBack_stage, ends]) (by rw [State.fenced, fences]; exact acts) 4

/-- Any other discard leaves the sets of every owner, their tallies and shadows, as they are (R157). -/
theorem discardSet_sets {s : State} {p : StageId} (still : s.stg[p].pulsesEnd = false)
    (below : s.pie[p].overrunRun + 1 < s.objN (Obj.PIE_OVERRUN_LIMIT p)) (why k : Nat) : (discardSet p why k s).edg.sets = s.edg.sets := by
  have taken := keeps_setTakenBack p why k s
  rw [discardSet_below below]
  exact (sampleEnded_sets (by rw [setTakenBack_stage, still]) 4).trans (taken.same (.edg .sets) (by decide))

/-! ### A state -/

/-- A module that forms. The pulses of stage 1, in RUN, are to end with its sample; a set of it stands in shadow, and the words of the next
one are under way, with the bank before their commit kept. A stop by itself leaves no such state, for it gives that bank up. -/
def endingWithSets : State :=
  ((((staged .form 0x101 .run).setN (Obj.PIE_OVERRUN_LIMIT 1) 9).modPier 1 fun q =>
      { q with out := some [1], before := some ⟨lawInit, [], ⟨ShareSt.init, none, []⟩⟩ }).modStage 1
    fun c => { c with pulsesEnd := true }).modSet 1 fun x => { x with shadow := some plainSet }

/-- Refutes O21: words that fail their check void the sample, and where the stage's pulses are to end with it, they take the set in shadow
away, which the second clause keeps. Where no pulses are to end the sets stay, as it says (`discardSet_sets`). -/
theorem not_setsAndEdgeChecks : ¬ Obligations.SetsAndEdgeChecks := by
  unfold Obligations.SetsAndEdgeChecks
  rintro ⟨-, discards, -⟩
  have alive : endingWithSets.alive .edge = true := by decide +kernel
  have out : endingWithSets.pie[(1 : StageId)].out = some [1] := by decide +kernel
  have fault : setFault endingWithSets 1 false (if [2] = [1] then setOfWords endingWithSets 1 false [2] else none) = some 1 := rfl
  have bank : endingWithSets.pie[(1 : StageId)].before = some ⟨lawInit, [], ⟨ShareSt.init, none, []⟩⟩ := by decide +kernel
  have noTest : endingWithSets.pie[(1 : StageId)].selftestDue = false := by decide +kernel
  have below : endingWithSets.pie[(1 : StageId)].overrunRun + 1 < endingWithSets.objN (Obj.PIE_OVERRUN_LIMIT 1) := by decide +kernel
  have room : endingWithSets.hasRoom 1 = true := by decide +kernel
  have ends : endingWithSets.stg[(1 : StageId)].pulsesEnd = true := by decide +kernel
  have shadow : endingWithSets.edg.sets[ownSets 1].shadow = some plainSet := by decide +kernel
  obtain ⟨t, run, -, kept, -⟩ := discards endingWithSets 1 [2] [1] 1 _ alive out fault bank noTest below room
  obtain rfl : discardSet 1 1 0 endingWithSets = t := by injection (commandSetArrival_discards alive out fault).symm.trans run
  exact Option.some_ne_none plainSet (shadow.symm.trans (kept.symm.trans (discardSet_shadow ends (by decide +kernel) below 1 0)))

end Sys2Proof.Machine
end

section
/-!
PROOF. A trip that is not carried out again (R187): a source trips a group that has tripped in the period only where one of its channels has
no hold of that source under that group, whatever outputs such a hold holds. A hold from a time when the group was directed keeps one output
only, and it stands until the channel's reload point, so the same source under the group without DIRECTED leaves the other output on.
-/

namespace Sys2Proof.Machine

/-- The state after a command that completes. -/
def State.after (s : State) (c : Instr) : State :=
  match exec c s with
  | .next t => t
  | _ => s

/-- The upper comparator of input 0 has read this value for its filter time. -/
def inputReads (value : Rat) : Measured SrcId Reading := ⟨8, ⟨value, 100000⟩⟩

/-- A module in READY under raw override, with the low output of channel 3 on. Group 2 is enabled and directed; it holds the upper comparator of
input 0 and that channel. -/
def directedGroup : State :=
  (((((live .ready).setN (Obj.EDG_TRG_CFG 2) 0x10103).setN (Obj.EDG_TRG_SRC 2 0) 0x100).setN (Obj.EDG_TRG_CHANNELS 2) 8).modEdg
    fun e => { e with raw := true, rawLow := 8 }).modCh 3 fun h => { h with low := true }

/-- The comparator has tripped the group and fallen back; the channel's high output is held until its reload point. -/
def highHeld : State := (directedGroup.after (.tripSourceActive (inputReads 40000))).after (.tripSourceInactive (inputReads (-40000)))

/-- Then the logic engine has taken DIRECTED from the group. -/
def undirectedGroup : State := highHeld.after (.dictionaryWrite (Obj.EDG_TRG_CFG 2) (.int 0x10101) .logic [] [])

/-- Three commands lead there. -/
theorem undirectedGroup_of_commands : Completes (.tripSourceActive (inputReads 40000)) directedGroup fun a =>
    Completes (.tripSourceInactive (inputReads (-40000))) a fun b =>
      exec (.dictionaryWrite (Obj.EDG_TRG_CFG 2) (.int 0x10101) .logic [] []) b = .next undirectedGroup :=
  ⟨_, rfl, _, rfl, rfl⟩

theorem undirectedGroup_action : grpEnabled undirectedGroup 2 = true ∧ groupHolds undirectedGroup 2 8 = true ∧
    windowOpen undirectedGroup 2 = false ∧ holdKind undirectedGroup 2 8 = 0 ∧ holdChans undirectedGroup 2 8 = [3] ∧
    shorted undirectedGroup 3 = false := by decide +kernel

theorem undirectedGroup_source : undirectedGroup.alive .edge = true ∧ srcHolds undirectedGroup 8 false 40000 = true ∧
    srcSettled undirectedGroup 8 ⟨40000, 100000⟩ = true ∧ srcSuppressed undirectedGroup 8 = false ∧
    8 ∉ undirectedGroup.edg.active := by decide +kernel

/-- The same after the comparator's source has become active again. -/
def activeAgain : State := undirectedGroup.after (.tripSourceActive (inputReads 40000))

theorem activeAgain_of_command : exec (.tripSourceActive (inputReads 40000)) undirectedGroup = .next activeAgain := rfl

/-- The low output is still on, though the source is active, and no hold of it has been added. -/
theorem activeAgain_low : activeAgain.edg.ch[(3 : ChanId)].low = true ∧ activeAgain.edg.active = [8] ∧
    activeAgain.edg.ch[(3 : ChanId)].holds = [⟨8, 2, 1⟩] := by decide +kernel

/-- Refutes O23: a source that becomes active under an undirected group is to turn both outputs of its channel off. Where the channel still has
the source's hold from a trip in the same period, when the group was directed, the low output stays on. -/
theorem not_tripGroups : ¬ Obligations.TripGroups := by
  unfold Obligations.TripGroups
  rintro ⟨trips, -⟩
  obtain ⟨alive, holds, settled, unsuppressed, idle⟩ := undirectedGroup_source
  obtain ⟨enabled, held, window, both, chans, unshorted⟩ := undirectedGroup_action
  obtain ⟨low, -⟩ := activeAgain_low
  obtain ⟨t, run, -, acts⟩ := trips undirectedGroup 8 ⟨40000, 100000⟩ alive holds settled unsuppressed idle
  obtain rfl : activeAgain = t := by injection activeAgain_of_command.symm.trans run
  obtain ⟨-, off⟩ := acts 2 enabled held (by rw [window, Bool.false_and])
  exact Bool.false_ne_true ((off both 3 (by rw [chans]; exact List.mem_singleton_self 3) unshorted).2.symm.trans low)

end Sys2Proof.Machine
end

section
/-!
PROOF. What it leaves of a fibre port that outputs are brought up to date, held or turned off (R178, R187, R192): edges that take place show
at a port only as its unanswered turn-ons, and a port whose own channel has been brought up to date shows none of them until that channel
gets new edges.
-/

namespace Sys2Proof.Machine

/-! ### Routes and stages -/

theorem group_EDG_ROUTE (j : Fin 28) : objGroup (Obj.EDG_ROUTE j.val) = .edg := by fin_cases j <;> rfl

section Routes

variable {F : Nat} {s t : State} (h : Keeps F s t) (spares : sparesEdges F = true)
include h spares

theorem Keeps.outputAt (j : Fin 28) : outputAt t j.val = outputAt s j.val := by
  simp only [sparesEdges, Bool.and_eq_true, Bool.not_eq_true'] at spares
  obtain ⟨⟨edg, -⟩, mod⟩ := spares
  have route : t.objN (Obj.EDG_ROUTE j.val) = s.objN (Obj.EDG_ROUTE j.val) := h.objN _ (by rwa [group_EDG_ROUTE]) mod
  simp only [Machine.outputAt, route]

theorem Keeps.portOutput (p : PortId) : portOutput t p = portOutput s p := h.outputAt spares ⟨12 + p.val, by omega⟩

theorem Keeps.drvOutput (d : DrvId) : drvOutput t d = drvOutput s d := h.outputAt spares ⟨d.val, by omega⟩

theorem Keeps.chanStage (c : ChanId) : chanStage t c = chanStage s c := by
  have owner : chanOwner t c = chanOwner s c := h.chanField spares c 0 4
  unfold Machine.chanStage
  rw [owner]

theorem Keeps.portStage (p : PortId) : portStage t p = portStage s p := by
  simp only [Machine.portStage, h.portOutput spares, h.chanStage spares]

theorem Keeps.drvStage (d : DrvId) : drvStage t d = drvStage s d := by
  simp only [Machine.drvStage, h.drvOutput spares, h.chanStage spares]

end Routes

/-- A stage that is told to go to SAFE is in SAFE, in a mode that has stages in SAFE (R34). -/
theorem stageSafe_st {s : State} (n : StageId) (cause : Nat) (halt : s.mod.mode ≠ .halt) (adit : s.mod.mode ≠ .adit) :
    (stageSafe n cause s).stg[n].st = .safe := by
  by_cases safe : s.stg[n].st = .safe
  · have stays : stageSafe n cause s = s := if_pos (.inl safe)
    rwa [stays]
  · rw [stageSafe_stg cause safe halt adit, vset_self]

/-! ### Edges of a channel -/

theorem State.modCh_at (s : State) (a c : ChanId) (f : ChanSt → ChanSt) :
    (s.modCh a f).edg.ch[c] = if a = c then f s.edg.ch[a] else s.edg.ch[c] := vset_at _ a c _ a.isLt

@[simp] theorem takeEdge_edges (s : State) (boot : Option (Fin 4)) (c : ChanSt) (e : EdgeEv) : (takeEdge s boot c e).edges = c.edges := by
  unfold takeEdge
  dsimp only
  split <;> split <;> rfl

/-- A port's turn-ons among the edges of a channel that take place await their acknowledges. -/
def awaitAt (c : ChanId) (due : List EdgeEv) (s : State) (p : PortId) : State :=
  match portOutput s p with
  | some (c', hi) =>
    let ons := (due.filter fun e => e.on && e.high == hi).map EdgeEv.t
    if c' ≠ c || ons.isEmpty || !s.bit (Obj.GDV_PORT_CFG p) 0 || !grantNow s then s
    else (s.modPort p fun f => { f with pendingOn := f.pendingOn ++ ons }).setBit (Obj.GDV_PORT_STATUS p) 1 true
  | none => s

theorem awaitAcks_eq (c : ChanId) (due : List EdgeEv) (s : State) : awaitAcks c due s = allPorts.foldl (awaitAt c due) s := rfl

/-- The ports' own states and GDV_PORT_STATUS. -/
abbrev awaitParts : Nat :=
  0x800000000000000000000000000000000000000000000000000000000000000000000000000000000000020000000000000000000000000000

theorem keeps_awaitAt (c : ChanId) (due : List EdgeEv) (s : State) (p : PortId) : Keeps awaitParts s (awaitAt c due s p) := by
  unfold awaitAt
  split
  · exact .ite (.refl s) (.setBit .GDV_PORT_STATUS (group_GDV_PORT_STATUS p) (by decide) 1 true
      (.step (keeps_State_modPort s p _) (by decide) (.refl s)))
  · exact .refl s

/-- What is shown of a port does not tell its unanswered turn-ons. -/
def HidesTurnOns {α : Type} (g : FibreSt → α) : Prop := ∀ x l, g { x with pendingOn := l } = g x

/-- Edges of a channel that take place are seen at a port only where they are turn-ons of its own channel. -/
theorem awaitAt_shows {α : Type} {g : FibreSt → α} {p : PortId} {c : ChanId} {due : List EdgeEv} {s : State}
    (h : HidesTurnOns g ∨ ∀ hi, portOutput s p = some (c, hi) → due = []) (q : PortId) :
    g (awaitAt c due s q).gdv.port[p] = g s.gdv.port[p] := by
  unfold awaitAt
  split
  next c' hi out =>
    dsimp only
    split
    · rfl
    next waits =>
      refine (congrArg g (vset_at _ q p _ q.isLt)).trans ?_
      split
      next same =>
        subst same
        rcases h with hides | none
        · exact hides _ _
        · have here : c' = c := by
            by_contra ne
            exact waits (by simp [ne])
          exact absurd (by rw [none hi (here ▸ out)]; simp) waits
      · rfl
  · rfl

theorem awaitAcks_shows {α : Type} {g : FibreSt → α} {p : PortId} {c : ChanId} {due : List EdgeEv} {s : State}
    (h : HidesTurnOns g ∨ ∀ hi, portOutput s p = some (c, hi) → due = []) :
    g (awaitAcks c due s).gdv.port[p] = g s.gdv.port[p] := by
  rw [awaitAcks_eq]
  refine (List.foldlRecOn (motive := fun u => Keeps awaitParts s u ∧ g u.gdv.port[p] = g s.gdv.port[p]) allPorts (awaitAt c due)
    ⟨.refl s, rfl⟩ fun u ⟨keeps, shown⟩ q _ => ⟨keeps.trans (keeps_awaitAt c due u q), ?_⟩).2
  exact (awaitAt_shows (h.imp id fun none hi out => none hi ((keeps.portOutput rfl p).symm.trans out)) q).trans shown

/-! ### A port whose channel has nothing due -/

/-- No edge is due at those channels of l that feed port p. -/
def PortRests (p : PortId) (l : List ChanId) (s : State) : Prop :=
  ∀ c hi, portOutput s p = some (c, hi) → c ∈ l → ∀ e ∈ s.edg.ch[c].edges, now32 s < e.t

/-- What g shows of port p is v; and where g tells the unanswered turn-ons, nothing is due at those channels of l that feed the port. -/
structure PortShows {α : Type} (p : PortId) (g : FibreSt → α) (v : α) (l : List ChanId) (s : State) : Prop where
  shown : g s.gdv.port[p] = v
  rests : HidesTurnOns g ∨ PortRests p l s

/-- A footprint without the ports, the outputs, and what they are routed by. -/
def sparesOutputs (F : Nat) : Bool :=
  sparesEdges F && !F.testBit (Part.gdv .port).bit && !F.testBit (Part.isl .mt).bit

/-- Fewer edges. -/
theorem PortRests.of_edges {F : Nat} {p : PortId} {l : List ChanId} {s t : State} (h : PortRests p l s) (keeps : Keeps F s t)
    (spares : sparesEdges F = true) (mt : F.testBit (Part.isl .mt).bit = false)
    (edges : ∀ c ∈ l, t.edg.ch[c].edges ⊆ s.edg.ch[c].edges) : PortRests p l t := by
  intro c hi out mem e placed
  have now : now32 t = now32 s := congrArg (· * 32) (keeps.same (.isl .mt) mt)
  rw [now]
  exact h c hi ((keeps.portOutput spares p).symm.trans out) mem e (edges c mem placed)

namespace PortShows

variable {α : Type} {p : PortId} {g : FibreSt → α} {v : α} {l : List ChanId} {s t : State}

/-- Fewer edges, and the port as before. -/
theorem of_edges {F : Nat} (h : PortShows p g v l s) (keeps : Keeps F s t) (spares : sparesEdges F = true)
    (mt : F.testBit (Part.isl .mt).bit = false) (port : g t.gdv.port[p] = g s.gdv.port[p])
    (edges : ∀ c ∈ l, t.edg.ch[c].edges ⊆ s.edg.ch[c].edges) : PortShows p g v l t :=
  ⟨port.trans h.shown, h.rests.imp id fun rests => rests.of_edges keeps spares mt edges⟩

/-- What touches neither ports nor outputs. -/
theorem aside {F : Nat} (h : PortShows p g v l s) (keeps : Keeps F s t) (spares : sparesOutputs F = true)
    (ch : F.testBit (Part.edg .ch).bit = false) : PortShows p g v l t := by
  simp only [sparesOutputs, Bool.and_eq_true, Bool.not_eq_true'] at spares
  obtain ⟨⟨edges, port⟩, mt⟩ := spares
  have ports : t.gdv.port = s.gdv.port := keeps.same (.gdv .port) port
  have chans : t.edg.ch = s.edg.ch := keeps.same (.edg .ch) ch
  exact h.of_edges keeps edges mt (by rw [ports]) fun c _ => by rw [chans]; exact List.Subset.refl _

theorem mono (h : PortShows p g v l s) {m : List ChanId} (sub : m ⊆ l) : PortShows p g v m s :=
  ⟨h.shown, h.rests.imp id fun none c hi out mem => none c hi out (sub mem)⟩

theorem ite {c : Prop} [Decidable c] (hs : PortShows p g v l s) (ht : PortShows p g v l t) : PortShows p g v l (if c then s else t) := by
  split
  · exact hs
  · exact ht

theorem foldl {β : Type} {f : State → β → State} (step : ∀ u b, PortShows p g v l u → PortShows p g v l (f u b)) (bs : List β)
    (h : PortShows p g v l s) : PortShows p g v l (bs.foldl f s) :=
  List.foldlRecOn (motive := PortShows p g v l) bs f h fun u hu b _ => step u b hu

/-- A channel that loses edges, or keeps them. -/
theorem modCh (h : PortShows p g v l s) {a : ChanId} {f : ChanSt → ChanSt} (sub : (f s.edg.ch[a]).edges ⊆ s.edg.ch[a].edges) :
    PortShows p g v l (s.modCh a f) := by
  refine h.of_edges (keeps_State_modCh s a f) rfl rfl rfl fun c _ => ?_
  rw [State.modCh_at]
  split
  next here => exact here ▸ sub
  · exact List.Subset.refl _

end PortShows

/-- What shows the outputs: GDV_CH_STATUS, GDV_PORT_STATUS, EDG_CH_STATUS. -/
abbrev statusParts : Nat := 0x20800000000001000000000000000

theorem settle_edges (c : ChanId) (s : State) :
    (settle c s).edg.ch[c].edges = s.edg.ch[c].edges.filter fun e => decide (now32 s < e.t) := by
  unfold settle
  extract_lets boot t due taken
  have acked : (awaitAcks c due taken).edg.ch = taken.edg.ch := (keeps_awaitAcks c due taken).same (.edg .ch) rfl
  have shown : (showOutputs c (awaitAcks c due taken)).edg.ch = (awaitAcks c due taken).edg.ch :=
    (keeps_showOutputs c _).same (.edg .ch) rfl
  rw [shown, acked]
  exact congrArg ChanSt.edges (vset_self _ c _ c.isLt)

theorem settlePort_of_output {s : State} {p : PortId} {c : ChanId} {hi : Bool} (out : portOutput s p = some (c, hi)) :
    settlePort p s = settle c s := by
  unfold settlePort
  rw [out]

/-- What a group that has tripped counts, logs and shows (R187, R188). -/
abbrev countParts : Nat := 0x4000000040001000000000000080000000000000000000000000000000000000000000000004000000000000000000000003020000000000000100

/-- The list of active sources and EDG_SRC_ACTIVE. -/
abbrev sourceParts : Nat := 0x80000000000000000000000000000000000000000000000000000000000000000000000000000000000000000000010000000000000000

theorem settlePort_now (p : PortId) (s : State) : now32 (settlePort p s) = now32 s :=
  congrArg (· * 32) ((keeps_settlePort p s).same (.isl .mt) rfl)

/-- After the port's own channel has been brought up to date nothing is due at the port. -/
theorem portRests_settlePort (p : PortId) (s : State) : PortRests p allChans (settlePort p s) := by
  intro c hi out _ e placed
  rw [(keeps_settlePort p s).portOutput rfl] at out
  rw [settlePort_of_output out, settle_edges] at placed
  rw [settlePort_now]
  exact of_decide_eq_true (List.mem_filter.1 placed).2

namespace PortShows

variable {α : Type} {p : PortId} {g : FibreSt → α} {v : α} {l : List ChanId} {s : State}

/-- The edges of a channel take place: none of them is a turn-on that is seen at the port. -/
theorem settle (h : PortShows p g v l s) {c : ChanId} (mem : c ∈ l) : PortShows p g v l (settle c s) := by
  unfold Machine.settle
  extract_lets boot t due taken
  have hTaken : PortShows p g v l taken := h.modCh (List.filter_subset_self _)
  have quiet : HidesTurnOns g ∨ ∀ hi, portOutput taken p = some (c, hi) → due = [] :=
    h.rests.imp id fun none hi out => List.filter_eq_nil_iff.2 fun e placed =>
      by simpa using none c hi out mem e placed
  have acked : PortShows p g v l (awaitAcks c due taken) := by
    have keeps := keeps_awaitAcks c due taken
    have chans : (awaitAcks c due taken).edg.ch = taken.edg.ch := keeps.same (.edg .ch) rfl
    exact hTaken.of_edges keeps rfl rfl (awaitAcks_shows quiet) fun c _ => by rw [chans]; exact List.Subset.refl _
  exact acked.aside (keeps_showOutputs c _) rfl rfl

theorem holdOutputs (h : PortShows p g v l s) {c : ChanId} (mem : c ∈ l) (what : Nat) : PortShows p g v l (holdOutputs what c s) := by
  unfold Machine.holdOutputs
  extract_lets settled t boot hi lo held
  have hHeld : PortShows p g v l held := by
    refine (h.settle mem).modCh ?_
    dsimp only
    split <;> split <;> simp
  have shown : Keeps statusParts held ((showOutputs c held).setBit (Obj.EDG_CH_STATUS c) 1 true) :=
    .setBit .EDG_CH_STATUS (group_EDG_CH_STATUS c) (by decide) 1 true (.step (keeps_showOutputs c held) (by decide) (.refl held))
  exact hHeld.aside shown rfl rfl

theorem outputsOff (h : PortShows p g v l s) {c : ChanId} (mem : c ∈ l) : PortShows p g v l (outputsOff c s) := by
  unfold Machine.outputsOff
  extract_lets settled t boot
  exact ((h.settle mem).modCh (by simp)).aside (keeps_showOutputs c _) rfl rfl

/-- A trip group that acts brings its channels up to date and turns them off (R187). -/
theorem groupTrip (h : PortShows p g v allChans s) (k : GroupId) (src : SrcId) : PortShows p g v allChans (groupTrip k src s) := by
  unfold Machine.groupTrip
  extract_lets what held x tripped counted
  have hHeld : PortShows p g v allChans held := by
    refine foldl (fun u c hu => ?_) _ h
    have noted : PortShows p g v allChans (u.modCh c fun h => { h with
        holds := if h.holds.contains ⟨src, k, what⟩ then h.holds else ⟨src, k, what⟩ :: h.holds }) := hu.modCh (List.Subset.refl _)
    exact .ite noted (noted.holdOutputs (List.mem_finRange c) what)
  have rest : Keeps countParts held (showGroup k ((grpStages counted k).foldl (fun s n => stageTripped k n s) counted)) := by
    refine .step (keeps_showGroup k _) (by decide) (.foldl _ (fun u n hu => .step (keeps_stageTripped k n u) (by decide) hu) ?_)
    refine .ite (.refl held) (.step (keeps_State_logOnce _ _ _ _) (by decide) ?_)
    exact .bump .EDG_TRG_PERIODS (group_EDG_TRG_PERIODS k) (by decide) (.step (keeps_State_modGrp _ _ _) (by decide) (.refl held))
  exact hHeld.aside rest rfl rfl

theorem tripScan (h : PortShows p g v allChans s) : PortShows p g v allChans (tripScan s) :=
  foldl (fun _ k hu => .ite hu (foldl (fun _ src hw => .ite (hw.groupTrip k src) hw) _ hu)) _ h

/-- A source that becomes active trips the groups that hold it (R186). -/
theorem sourceActive (h : PortShows p g v allChans s) (src : SrcId) : PortShows p g v allChans (sourceActive src s) := by
  unfold Machine.sourceActive
  refine .ite h ?_
  extract_lets listed
  have hListed : PortShows p g v allChans listed := by
    refine .ite h (h.aside (F := sourceParts) ?_ rfl rfl)
    refine .step (keeps_showSources _) (by decide) (.modEdg (EdgField.upd_of fun f x e => ?_) (.refl s))
    cases f
    case active => exact Keeps.no rfl e
    all_goals rfl
  exact foldl (fun u k hu => .ite (hu.aside (keeps_showGroup k u) rfl rfl) hu) _ hListed.tripScan

end PortShows

/-! ### A stage that goes to SAFE -/

/-- One channel of a stage whose safe state the edge island applies (R192). -/
def chanSafe (n : StageId) (s : State) (c : ChanId) : State :=
  let s := (outputsOff c s).setBit (Obj.EDG_CH_STATUS c) 2 true
  if s.activeShort n && !desatLatched s c then
    s.modCh c fun h => { h with edges := insertEdge ⟨now32 s + deadTime s c, false, true⟩ h.edges }
  else s

theorem edgeSafe_eq {s : State} (acts : s.fenced .edge = false) (n : StageId) : edgeSafe n s =
    (stageChans (s.modSet (ownSets n) fun x => { x with shadow := none, deferred := false, safe := true }) n).foldl (chanSafe n)
      (s.modSet (ownSets n) fun x => { x with shadow := none, deferred := false, safe := true }) :=
  if_neg (by rw [acts]; exact Bool.false_ne_true)

theorem stageChans_nodup (s : State) (n : StageId) : (stageChans s n).Nodup := by
  unfold stageChans ownedChans
  exact (List.nodup_finRange 24).filter _

namespace PortShows

variable {α : Type} {p : PortId} {g : FibreSt → α} {v : α} {l : List ChanId} {s : State}

/-- A channel in its safe state may have an edge due at once, and is then no longer among those with nothing due. -/
theorem chanSafe {c : ChanId} (h : PortShows p g v (c :: l) s) (once : c ∉ l) (n : StageId) : PortShows p g v l (chanSafe n s c) := by
  unfold Machine.chanSafe
  extract_lets off
  have shown : Keeps statusParts (Machine.outputsOff c s) off :=
    .setBit .EDG_CH_STATUS (group_EDG_CH_STATUS c) (by decide) 2 true (.refl (Machine.outputsOff c s))
  have hOff : PortShows p g v l off := ((h.outputsOff List.mem_cons_self).aside shown rfl rfl).mono (List.subset_cons_self c l)
  clear_value off
  refine .ite (hOff.of_edges (keeps_State_modCh off c _) rfl rfl rfl fun a mem => ?_) hOff
  have ne : c ≠ a := fun same => once (same ▸ mem)
  rw [State.modCh_at, if_neg ne]
  exact List.Subset.refl _

theorem foldl_chanSafe (n : StageId) {l : List ChanId} (distinct : l.Nodup) {s : State} (h : PortShows p g v l s) :
    PortShows p g v [] (l.foldl (Machine.chanSafe n) s) := by
  induction l generalizing s with
  | nil => exact h
  | cons c l ih =>
    obtain ⟨once, distinct⟩ := List.nodup_cons.1 distinct
    exact ih distinct (h.chanSafe once n)

theorem edgeSafe (h : PortShows p g v allChans s) (n : StageId) : PortShows p g v [] (edgeSafe n s) := by
  by_cases acts : s.fenced .edge = false
  · rw [edgeSafe_eq acts]
    exact foldl_chanSafe n (stageChans_nodup _ n)
      ((h.aside (keeps_State_modSet s _ _) rfl rfl).mono fun c _ => List.mem_finRange c)
  · have still : Machine.edgeSafe n s = s := if_pos (by simpa using acts)
    rw [still]
    exact h.mono (List.nil_subset _)

end PortShows

/-- A stage's state, its activities and the records of its entry into SAFE, before the edge island applies its safe state (R34). -/
def markedSafe (n : StageId) (cause : Nat) (s : State) : State :=
  let s := dropActivities n (socLeaves n s)
  let s := s.modStage n fun c => { c with st := .safe, cause := cause, heldStart := false, toArmed := false, toRun := false,
                                          toOff := false, diagSince := none, sinceEntry := 0, pulsesEnd := false }
  let s := s.modPier n fun p => { p with law := lawInit }
  let s := s.setN (Obj.MOD_STAGE_SAFE_CAUSE n.val) cause
  let s := if s.isGfi n && s.enabled n then s.modMod fun m => { m with lastGfiCause := cause } else s
  showErrors (emcy 0xFF00 cause n.val (sendDatagram n (s.log 0x1005 [n.val, cause])))

theorem stageSafe_eq (n : StageId) (cause : Nat) (s : State) : stageSafe n cause s =
    if s.stageSt n = .safe ∨ s.mod.mode = .halt ∨ s.mod.mode = .adit then s
    else showDispatching n (edgeSafe n (markedSafe n cause s)) := rfl

/-- What entry into SAFE may change (`touchesSafe`) without the outputs, what shows them, and the ports. -/
abbrev markParts : Nat :=
  0x2000000000004001800000000007400000000010000c0d00000006e0007cc1d9f0a4b33e700000000000000000080010014020004000200000100000181a0201000000e000000000140

theorem keeps_markedSafe (n : StageId) (cause : Nat) (s : State) : Keeps markParts s (markedSafe n cause s) := by
  unfold markedSafe
  extract_lets dropped safe lawless caused noted
  have hDropped : Keeps markParts s dropped :=
    .step (keeps_dropActivities n _) (by decide) (.step (keeps_socLeaves n s) (by decide) (.refl s))
  have hSafe : Keeps markParts s safe := by
    refine .modStage (StgField.upd_of fun f x e => ?_) (.inr fun _ _ => rfl) hDropped
    cases f
    case diagPassed | diagDeferred | lastLimit | graphOk => rfl
    all_goals exact Keeps.no rfl e
  have hLawless : Keeps markParts s lawless := by
    refine .modPier (PieField.upd_of fun f x e => ?_) hSafe
    cases f
    case law => exact Keeps.no rfl e
    all_goals rfl
  have hCaused : Keeps markParts s caused := .setN .MOD_STAGE_SAFE_CAUSE (group_MOD_STAGE_SAFE_CAUSE n.val (by omega)) (by decide) cause hLawless
  have hNoted : Keeps markParts s noted := by
    refine .ite (.modMod (ModField.upd_of fun f x e => ?_) hCaused) hCaused
    cases f
    case lastGfiCause => exact Keeps.no rfl e
    all_goals rfl
  exact .step (keeps_showErrors _) (by decide) (.step (keeps_emcy _ _ _ _) (by decide)
    (.step (keeps_sendDatagram n _) (by decide) (.step (keeps_State_log noted _ _) (by decide) hNoted)))

theorem PortShows.stageSafe {α : Type} {p : PortId} {g : FibreSt → α} {v : α} {s : State} (h : PortShows p g v allChans s) (n : StageId)
    (cause : Nat) : PortShows p g v [] (stageSafe n cause s) := by
  rw [stageSafe_eq]
  exact .ite (h.mono (List.nil_subset _))
    (((h.aside (keeps_markedSafe n cause s) rfl rfl).edgeSafe n).aside (keeps_showDispatching n _) rfl rfl)

end Sys2Proof.Machine
end

section
/-!
PROOF. Fibre ports (R217 to R219): acknowledges, missing ones and stray light, head faults and their codes, and the clearing of a port; with
what trip sources (R186) and the answers to requests (R326) leave.
-/

namespace Sys2Proof.Machine

/-! ### Sources -/

theorem foldl_showGroup_edg (src : SrcId) (s : State) :
    (allGroups.foldl (fun s g => if groupHolds s g src.val then showGroup g s else s) s).edg = s.edg := by
  refine foldl_keeps (get := fun s => s.edg) (fun s g => ?_) allGroups s
  split
  · exact showGroup_edg g s
  · rfl

theorem showSources_active (s : State) : (showSources s).edg.active = s.edg.active := (keeps_showSources s).same (.edg .active) rfl

/-- A source that becomes active, and is not held inactive, is active (R186). -/
theorem mem_sourceActive {s : State} {src : SrcId} (acts : s.fenced .edge = false) (free : srcSuppressed s src = false) :
    src ∈ (sourceActive src s).edg.active := by
  unfold sourceActive
  rw [if_neg (by simp [acts, free])]
  extract_lets listed
  have hListed : src ∈ listed.edg.active := by
    unfold listed
    split
    next already => exact List.contains_iff_mem.1 already
    · rw [showSources_active]
      exact List.mem_cons_self
  rw [foldl_showGroup_edg]
  exact ((keeps_tripScan listed).same (.edg .active) rfl).symm ▸ hListed

theorem not_mem_sourceInactive (src : SrcId) (s : State) : src ∉ (sourceInactive src s).edg.active := by
  unfold sourceInactive
  rw [foldl_showGroup_edg, showSources_active]
  intro mem
  exact absurd (List.mem_filter.1 mem).2 (by simp)

/-- Only the comparators' sources are ever held inactive (R243). -/
theorem srcSuppressed_of_no_comparator {src : SrcId} (s : State) (other : 56 ≤ src.val) : srcSuppressed s src = false :=
  dif_neg fun comparator => absurd comparator.2 (by omega)

/-! ### Requests and words -/

/-- A request leaves what its operation leaves, or nothing of it, and its answer. -/
theorem request_shape (w : Writer) (key : Nat) (i : Island) (f : State → Nat × State) (s : State) :
    ∃ u, (u = s ∨ u = (f s).2) ∧ ∃ tx objs net, request w key i f s = { u with tx := tx, objs := objs, net := net } := by
  unfold request
  split
  · exact ⟨s, .inl rfl, s.tx, s.objs, s.net, rfl⟩
  split
  · exact ⟨s, .inl rfl, State.reply_shape s w key _⟩
  dsimp only
  split
  · exact ⟨s, .inl rfl, State.reply_shape s w key _⟩
  split
  · exact ⟨s, .inl rfl, State.reply_shape s w key _⟩
  split
  · obtain ⟨sent, forward⟩ := State.forward_shape (f s).2 key []
    obtain ⟨tx, objs, net, reply⟩ := State.reply_shape ((f s).2.forward key []) w key 0
    exact ⟨(f s).2, .inr rfl, tx, objs, net, by rw [reply, forward]⟩
  · exact ⟨(f s).2, .inr rfl, State.reply_shape (f s).2 w key _⟩

/-- A request that is carried out and accepted leaves what its operation leaves, and its answer. -/
theorem request_accepted_shape {s t : State} {w : Writer} {i : Island} {f : State → Nat × State} (served : s.serves w i = true) (key : Nat)
    (effect : f s = (0, t)) : ∃ tx net, request w key i f s = { t with tx := tx, net := net } := by
  obtain ⟨sent, forward⟩ := State.forward_shape t key []
  obtain ⟨tx, net, reply⟩ := State.reply_accepted (t.forward key []) w key
  rw [request_served served key (by rw [effect]), effect, reply, forward]
  exact ⟨tx, net, rfl⟩

/-- A bit that is set reads 1 whatever else the store holds, where the word's default is 0. -/
theorem State.bit_setBit_true {key : Nat} (dflt : defaultAt key = some (.int 0)) (n : Nat) (s : State) :
    (s.setBit key n true).bit key n = true := by
  have read : bitsAt (setBitsAt (s.objN key) n 1 1) n 1 = 1 := bitsAt_setBitsAt _ _ _ _
  have ne : defaultAt key ≠ some (.int (setBitsAt (s.objN key) n 1 1 : Nat)) := by
    intro zero
    have none : setBitsAt (s.objN key) n 1 1 = 0 := by simpa [dflt] using zero.symm
    rw [none] at read
    exact absurd read (by simp [bitsAt])
  rw [State.bit, State.field, State.objN, State.obj, State.setBit_objs, boolNat, if_pos rfl, cellPut, if_neg ne, cellGet_cellSet_self]
  exact beq_iff_eq.2 read

theorem defaultAt_GDV_PORT_STATUS (p : PortId) : defaultAt (Obj.GDV_PORT_STATUS p) = some (.int 0) := by
  revert p
  decide +kernel

/-! ### A fault at a port (R217, R218) -/

/-- A port's source becomes active and its stage goes to SAFE. -/
def portFaultTaken (p : PortId) (cause : Nat) (s : State) : State := portSafe p cause (sourceActive (portSrc p) s)

theorem PortShows.faultTaken {α : Type} {p : PortId} {g : FibreSt → α} {v : α} {s : State} (h : PortShows p g v allChans s) (cause code : Nat)
    (data : List Rat) : g (portFaultTaken p cause (s.log code data)).gdv.port[p] = v := by
  have active := (h.aside (keeps_State_log s code data) rfl rfl).sourceActive (portSrc p)
  unfold portFaultTaken portSafe
  split
  · exact (active.stageSafe _ cause).shown
  · exact active.shown

/-- A footprint without the log, the routes, module time, the fences and the mode. -/
def sparesReport (F : Nat) : Bool := sparesEdges F && !F.testBit Part.log.bit && !F.testBit (Part.isl .mt).bit &&
  !F.testBit (Part.isl .fenced).bit && !F.testBit (Part.mod .mode).bit

/-- What stands after a fault at a port is logged and taken: its source, its stage in SAFE, and the event. -/
def PortFaulted (p : PortId) (code : Nat) (data : List Rat) (s t : State) : Prop :=
  portSrc p ∈ t.edg.active ∧ (∀ n, portStage s p = some n → t.stg[n].st = .safe) ∧ newEvent s t code data = true

theorem portFaultTaken_faulted {F : Nat} {s u : State} {p : PortId} (cause code : Nat) (data : List Rat) (alive : s.alive .edge = true)
    (adit : s.mod.mode ≠ .adit) (room : s.hasRoom 1 = true) (since : Keeps F s u) (spares : sparesReport F = true) :
    PortFaulted p code data s (portFaultTaken p cause (u.log code data)) := by
  simp only [sparesReport, Bool.and_eq_true, Bool.not_eq_true'] at spares
  obtain ⟨⟨⟨⟨edges, log⟩, mt⟩, fences⟩, mode⟩ := spares
  have sameFences : u.isl.fenced = s.isl.fenced := since.same (.isl .fenced) fences
  have sameMode : u.mod.mode = s.mod.mode := since.same (.mod .mode) mode
  obtain ⟨buffer, -⟩ := since.same .log log
  have acts : (u.log code data).fenced .edge = false := by
    rw [State.fenced, State.log_isl, sameFences]
    exact State.fenced_of_alive alive
  refine ⟨?_, fun n stage => ?_, ?_⟩
  · rw [portFaultTaken, (keeps_portSafe p cause _).same (.edg .active) rfl]
    exact mem_sourceActive acts (srcSuppressed_of_no_comparator _ (by simp [portSrc]; omega))
  · have keeps := keeps_sourceActive (portSrc p) (u.log code data)
    have active : (sourceActive (portSrc p) (u.log code data)).mod.mode = s.mod.mode :=
      (keeps.same (.mod .mode) rfl).trans ((congrArg ModesSt.mode (State.log_mod ..)).trans sameMode)
    rw [portFaultTaken, portSafe, keeps.portStage rfl, (keeps_State_log u code data).portStage rfl, since.portStage edges, stage]
    exact stageSafe_st n cause (by rw [active]; exact State.mode_ne_halt_of_alive alive) (by rwa [active])
  · exact newEvent_keeps (keeps_portSafe p cause _) rfl (newEvent_keeps (keeps_sourceActive (portSrc p) _) rfl
      (newEvent_log (hasRoom_eq room buffer) since.seq (since.same (.isl .mt) mt)))

/-- A missing acknowledge as a port notes it, before its event. -/
def ackNoted (p : PortId) (s : State) : State :=
  ((showPending p (s.modPort p fun f => { f with pendingOn := f.pendingOn.tail, fault := true })).setBit
    (Obj.GDV_PORT_STATUS p) 2 true).bump (Obj.GDV_PORT_ACK_MISSING p)

theorem ackMissing_eq (p : PortId) (turnOn : Nat) (s : State) :
    ackMissing p turnOn s = portFaultTaken p 0x3016 ((ackNoted p s).log 0x3016 [p.val + 1, (turnOn / 32 : Nat)]) := rfl

theorem ackNoted_port (p : PortId) (s : State) : (ackNoted p s).gdv.port[p] = { s.gdv.port[p] with
    pendingOn := s.gdv.port[p].pendingOn.tail, fault := true } := vset_self _ p _ p.isLt

/-- The outputs and the ports, their status objects, and GDV_PORT_ACK_MISSING. -/
abbrev ackParts : Nat := 0x800010000000000000000000000000000000000000000000000000000000000000000000000000000000024800000000000000000000000000

theorem keeps_ackNoted (p : PortId) (s : State) : Keeps ackParts s (ackNoted p s) :=
  .bump .GDV_PORT_ACK_MISSING (group_GDV_PORT_ACK_MISSING p) (by decide) (.setBit .GDV_PORT_STATUS (group_GDV_PORT_STATUS p) (by decide) 2 true
    (.step (keeps_showPending p _) (by decide) (.step (keeps_State_modPort s p _) (by decide) (.refl s))))

/-- What a missing acknowledge of a turn-on leaves (R217). -/
def AckMissed (p : PortId) (turnOn : Nat) (rest : List Nat) (s t : State) : Prop :=
  t.gdv.port[p].pendingOn = rest ∧ t.gdv.port[p].fault = true ∧ PortFaulted p 0x3016 [p.val + 1, (turnOn / 32 : Nat)] s t

theorem ackMissing_missed {s : State} {p : PortId} {turnOn : Nat} {rest : List Nat} (alive : s.alive .edge = true) (adit : s.mod.mode ≠ .adit)
    (waits : (settlePort p s).gdv.port[p].pendingOn = turnOn :: rest) (room : s.hasRoom 1 = true) :
    AckMissed p turnOn rest s (ackMissing p turnOn (settlePort p s)) := by
  have noted := keeps_ackNoted p (settlePort p s)
  have since : Keeps ackParts s (ackNoted p (settlePort p s)) := (Keeps.mono (keeps_settlePort p s) (by decide)).trans noted
  have rests : PortRests p allChans (ackNoted p (settlePort p s)) :=
    (portRests_settlePort p s).of_edges noted rfl rfl fun _ _ => List.Subset.refl _
  have shown : PortShows p (fun f => (f.pendingOn, f.fault)) (rest, true) allChans (ackNoted p (settlePort p s)) :=
    ⟨by rw [ackNoted_port, waits, List.tail_cons], .inr rests⟩
  obtain ⟨pending, fault⟩ := Prod.mk.inj (shown.faultTaken 0x3016 0x3016 [p.val + 1, (turnOn / 32 : Nat)])
  rw [ackMissing_eq]
  exact ⟨pending, fault, portFaultTaken_faulted 0x3016 0x3016 _ alive adit room since rfl⟩

/-! ### Acknowledges (R217) -/

/-- A return light pulse at a port that is in use and brought up to date. -/
def ackTaken (p : PortId) (ns : Nat) (s : State) : State :=
  match s.gdv.port[p].pendingOn with
  | [] => s.setBit (Obj.GDV_PORT_STATUS p) 4 true
  | t :: _ =>
    let late := decide (t + 13107 < now32 s - ns32 ns)
    if 150 ≤ ns ∧ ns ≤ 400 ∧ !late then showPending p (s.modPort p fun f => { f with pendingOn := f.pendingOn.tail })
    else if (400 < ns ∧ ns < 2000) ∨ late then ackMissing p t s
    else s

/-- The end of the window of a port's oldest turn-on. -/
def ackExpired (p : PortId) (s : State) : State :=
  match s.gdv.port[p].pendingOn with
  | [] => s
  | t :: _ => if t + ns32 1020 < now32 s then ackMissing p t s else s

section InUse

variable {s : State} {p : PortId} (alive : s.alive .edge = true) (on : portOn s p = true) (grant : grantNow s = true)
include alive on grant

theorem ackPulseReceived_inUse (ns : Nat) : exec (.ackPulseReceived p ns) s = .next (ackTaken p ns (settlePort p s)) :=
  congrArg Host.Outcome.next ((State.on_of_alive alive _).trans (if_neg (by rw [on, grant]; decide)))

theorem ackWindowExpiry_inUse : exec (.ackWindowExpiry p) s = .next (ackExpired p (settlePort p s)) :=
  congrArg Host.Outcome.next ((State.on_of_alive alive _).trans (if_neg (by rw [on, grant]; decide)))

end InUse

theorem settlePort_stg (p : PortId) (s : State) : (settlePort p s).stg = s.stg := (keeps_settlePort p s).stg fun f => by cases f <;> rfl

section Waiting

variable {s : State} {p : PortId} {ns t0 : Nat} {rest : List Nat} (waits : s.gdv.port[p].pendingOn = t0 :: rest)
include waits

theorem ackTaken_answered (long : 150 ≤ ns) (short : ns ≤ 400) (early : now32 s - ns32 ns ≤ t0 + 13107) :
    ackTaken p ns s = showPending p (s.modPort p fun f => { f with pendingOn := f.pendingOn.tail }) := by
  unfold ackTaken
  rw [waits]
  exact if_pos ⟨long, short, by simpa using early⟩

theorem ackTaken_missing (bad : (400 < ns ∧ ns < 2000) ∨ t0 + 13107 < now32 s - ns32 ns) : ackTaken p ns s = ackMissing p t0 s := by
  unfold ackTaken
  rw [waits]
  have invalid : ¬(150 ≤ ns ∧ ns ≤ 400 ∧ (!decide (t0 + 13107 < now32 s - ns32 ns)) = true) := by
    rintro ⟨-, short, early⟩
    have early : now32 s - ns32 ns ≤ t0 + 13107 := by simpa using early
    omega
  exact (if_neg invalid).trans (if_pos (by simpa using bad))

theorem ackTaken_other (early : now32 s - ns32 ns ≤ t0 + 13107) (other : ns < 150 ∨ 2000 ≤ ns) : ackTaken p ns s = s := by
  unfold ackTaken
  rw [waits]
  have inTime : decide (t0 + 13107 < now32 s - ns32 ns) = false := decide_eq_false (Nat.not_lt.2 early)
  dsimp only
  rw [inTime, if_neg (by omega), if_neg (by simp; omega)]

end Waiting

theorem ackTaken_stray {s : State} {p : PortId} (none : s.gdv.port[p].pendingOn = []) (ns : Nat) :
    ackTaken p ns s = s.setBit (Obj.GDV_PORT_STATUS p) 4 true := by
  unfold ackTaken
  rw [none]

theorem ackExpired_missing {s : State} {p : PortId} {t0 : Nat} {rest : List Nat} (waits : s.gdv.port[p].pendingOn = t0 :: rest)
    (late : t0 + ns32 1020 < now32 s) : ackExpired p s = ackMissing p t0 s := by
  unfold ackExpired
  rw [waits]
  exact if_pos late

theorem ackExpired_open {s : State} {p : PortId}
    (open_ : (s.gdv.port[p].pendingOn.head?.all fun t0 => decide (now32 s ≤ t0 + ns32 1020)) = true) : ackExpired p s = s := by
  unfold ackExpired
  split
  · rfl
  next t0 rest waits =>
    rw [waits] at open_
    exact if_neg (Nat.not_lt.2 (of_decide_eq_true open_))

/-! ### Head faults (R218) -/

/-- A head fault as a port without a code line notes it, before its event. -/
def headNoted (p : PortId) (s : State) : State :=
  (((s.modPort p fun f => { f with fault := true, codeDue := false }).setBit (Obj.GDV_PORT_STATUS p) 3 true).bump
    (Obj.GDV_PORT_FAULTS p)).setN (Obj.GDV_PORT_LAST_CODE p) 16

/-- The ports, GDV_PORT_STATUS, GDV_PORT_FAULTS and GDV_PORT_LAST_CODE. -/
abbrev headParts : Nat := 0x800000000000000000000000000000000000000000000000000000000000000000000000000000000000038000000000000000000000000000

theorem keeps_headNoted (p : PortId) (s : State) : Keeps headParts s (headNoted p s) :=
  .setN .GDV_PORT_LAST_CODE (group_GDV_PORT_LAST_CODE p) (by decide) 16 (.bump .GDV_PORT_FAULTS (group_GDV_PORT_FAULTS p) (by decide)
    (.setBit .GDV_PORT_STATUS (group_GDV_PORT_STATUS p) (by decide) 3 true (.step (keeps_State_modPort s p _) (by decide) (.refl s))))

theorem headFaultDetect_codeless {s : State} {p : PortId} {held : Nat} (long : 2020 ≤ held) (alive : s.alive .edge = true)
    (on : portOn s p = true) (codeless : s.bit (Obj.GDV_PORT_CFG p) 1 = false) : exec (.headFaultDetect ⟨p, held⟩) s =
      .next (portFaultTaken p 0x3015 ((headNoted p s).log 0x3015 [p.val + 1, 16])) := by
  refine congrArg Host.Outcome.next ((State.on_of_alive alive _).trans ((if_neg ?_).trans ?_))
  · rw [on, decide_eq_false (Nat.not_lt.2 long)]
    decide
  · dsimp only
    rw [codeless]
    rfl

theorem headFaultDetect_faults {s : State} {p : PortId} {held : Nat} {n : StageId} (long : 2020 ≤ held) (alive : s.alive .edge = true)
    (adit : s.mod.mode ≠ .adit) (on : portOn s p = true) (codeless : s.bit (Obj.GDV_PORT_CFG p) 1 = false)
    (stage : portStage s p = some n) (room : s.hasRoom 1 = true) :
    Completes (.headFaultDetect ⟨p, held⟩) s fun t => t.gdv.port[p].fault = true ∧ t.gdv.port[p].codeDue = false ∧
      portSrc p ∈ t.edg.active ∧ t.stg[n].st = .safe ∧ newEvent s t 0x3015 [p.val + 1, 16] = true := by
  refine ⟨_, headFaultDetect_codeless long alive on codeless, ?_⟩
  have port : (headNoted p s).gdv.port[p] = { s.gdv.port[p] with fault := true, codeDue := false } := vset_self _ p _ p.isLt
  have shown : PortShows p (fun f => (f.fault, f.codeDue)) (true, false) allChans (headNoted p s) :=
    ⟨by rw [port], .inl fun _ _ => rfl⟩
  obtain ⟨fault, codeDue⟩ := Prod.mk.inj (shown.faultTaken 0x3015 0x3015 [p.val + 1, 16])
  obtain ⟨active, safe, event⟩ := portFaultTaken_faulted (p := p) 0x3015 0x3015 [p.val + 1, 16] alive adit room (keeps_headNoted p s) rfl
  exact ⟨fault, codeDue, active, safe n stage, event⟩

/-! ### Codes of a head (R218) -/

/-- An operation that leaves the state alone leaves it alone at any island. -/
theorem State.on_of_still {i : Island} {f : State → State} {s : State} (still : f s = s) : s.on i f = s := by
  rw [State.on, still, ite_self]

theorem headCodeReceived_idle {s : State} {p : PortId} {code : HeadCode} (idle : s.gdv.port[p].codeDue = false ∨ code.tail < 5000) :
    exec (.headCodeReceived p code) s = .next s :=
  congrArg Host.Outcome.next (State.on_of_still (if_pos (by simpa using idle)))

/-- A head's code as a port keeps it, before its event. -/
def codeKept (p : PortId) (code : HeadCode) (s : State) : State :=
  (s.modPort p fun f => { f with codeDue := false }).setN (Obj.GDV_PORT_LAST_CODE p) (headCode code)

theorem headCodeReceived_due {s : State} {p : PortId} {code : HeadCode} (alive : s.alive .edge = true)
    (due : s.gdv.port[p].codeDue = true) (dark : 5000 ≤ code.tail) :
    exec (.headCodeReceived p code) s = .next ((codeKept p code s).log 0x3015 [p.val + 1, headCode code]) := by
  refine congrArg Host.Outcome.next ((State.on_of_alive alive _).trans (if_neg ?_))
  rw [due, decide_eq_false (Nat.not_lt.2 dark)]
  decide

theorem headCodeReceived_kept {s : State} {p : PortId} {code : HeadCode} (alive : s.alive .edge = true) (inv : Inv s)
    (due : s.gdv.port[p].codeDue = true) (dark : 5000 ≤ code.tail) (room : s.hasRoom 1 = true) :
    Completes (.headCodeReceived p code) s fun t => t.gdv.port[p].codeDue = false ∧
      t.objN (Obj.GDV_PORT_LAST_CODE p) = headCode code ∧ newEvent s t 0x3015 [p.val + 1, headCode code] = true := by
  have roomLeft : (codeKept p code s).hasRoom 1 = true := hasRoom_eq room rfl
  refine ⟨_, headCodeReceived_due alive due dark, ?_, ?_, newEvent_log roomLeft (le_refl _) rfl⟩
  · rw [State.log_gdv]
    exact congrArg FibreSt.codeDue (vset_self _ p _ p.isLt)
  · rw [State.objN, State.obj_congr (State.log_objs roomLeft _ _)]
    exact State.objN_setN inv.objs _ _

/-! ### Clearing a port (R219) -/

/-- A port whose fault ends, before its event. -/
def portCleared (p : PortId) (s : State) : State :=
  (s.modPort p fun f => { f with fault := false, codeDue := false }).setField (Obj.GDV_PORT_STATUS p) 2 3 0

theorem clearPort_clears {s : State} {p : PortId} {w : Writer} (served : s.serves w .edge = true)
    (resting : restingStage s (portStage s p) = true) (fault : s.gdv.port[p].fault = true) (room : s.hasRoom 1 = true) :
    Completes (.clearPort p true w) s fun t => t.gdv.port[p].fault = false ∧ portSrc p ∉ t.edg.active ∧
      newEvent s t 0x3018 [p.val + 1] = true := by
  have cleared : owned w (fun s => accepted (clearPortCmd p true s)) s =
      (0, sourceInactive (portSrc p) ((portCleared p s).log 0x3018 [p.val + 1])) := by
    rw [owned_served served]
    unfold clearPortCmd
    rw [resting, if_neg (by decide), fault]
    rfl
  obtain ⟨tx, net, answered⟩ := request_accepted_shape served (Obj.GDV_PORT_CMD p) cleared
  have inactive := keeps_sourceInactive (portSrc p) ((portCleared p s).log 0x3018 [p.val + 1])
  have ports : (sourceInactive (portSrc p) ((portCleared p s).log 0x3018 [p.val + 1])).gdv.port = (portCleared p s).gdv.port :=
    (inactive.same (.gdv .port) rfl).trans (by rw [State.log_gdv])
  have event : newEvent s (sourceInactive (portSrc p) ((portCleared p s).log 0x3018 [p.val + 1])) 0x3018 [p.val + 1] = true :=
    newEvent_keeps inactive rfl (newEvent_log (hasRoom_eq room rfl) (le_refl _) rfl)
  refine ⟨_, congrArg Host.Outcome.next answered, ?_, not_mem_sourceInactive (portSrc p) _, newEvent_congr rfl event⟩
  dsimp only
  rw [ports]
  exact congrArg FibreSt.fault (vset_self _ p _ p.isLt)

theorem clearPort_lit {s : State} {p : PortId} {w : Writer} (served : s.serves w .edge = true) :
    Completes (.clearPort p false w) s fun t => t.gdv = s.gdv := by
  obtain ⟨u, from_, tx, objs, net, answered⟩ :=
    request_shape w (Obj.GDV_PORT_CMD p) .edge (owned w fun s => accepted (clearPortCmd p false s)) s
  refine ⟨_, congrArg Host.Outcome.next answered, ?_⟩
  have same : u = s := from_.elim id fun done => done.trans (congrArg Prod.snd (owned_served served _))
  rw [same]

/-- Settles O24, clause by clause: the acknowledges by what `ackTaken` and `ackExpired` do at a port that is brought up to date. -/
theorem fibrePorts : Obligations.FibrePorts := by
  unfold Obligations.FibrePorts
  refine ⟨?answered, ?missing, ?stray, ?other, ?unused, ?expired, ?open_, ?head, ?code, ?noCode, ?clear, ?lit⟩
  case answered =>
    intro s p ns t0 rest alive on grant long short waits early
    refine ⟨_, ackPulseReceived_inUse alive on grant ns, ?_⟩
    rw [ackTaken_answered waits long short (by rwa [settlePort_now])]
    have port : (showPending p ((settlePort p s).modPort p fun f => { f with pendingOn := f.pendingOn.tail })).gdv.port[p] =
      { (settlePort p s).gdv.port[p] with pendingOn := (settlePort p s).gdv.port[p].pendingOn.tail } := vset_self _ p _ p.isLt
    exact ⟨by rw [port, waits]; rfl, by rw [port], settlePort_stg p s⟩
  case missing =>
    intro s p ns t0 rest alive adit on grant waits bad room
    refine ⟨_, ackPulseReceived_inUse alive on grant ns, ?_⟩
    rw [ackTaken_missing waits (by rwa [settlePort_now])]
    exact ackMissing_missed alive adit waits room
  case stray =>
    intro s p ns alive on grant none
    refine ⟨_, ackPulseReceived_inUse alive on grant ns, ?_⟩
    rw [ackTaken_stray none]
    exact ⟨State.bit_setBit_true (defaultAt_GDV_PORT_STATUS p) 4 _, rfl, settlePort_stg p s⟩
  case other =>
    intro s p ns t0 rest alive on grant waits early other
    exact ⟨_, ackPulseReceived_inUse alive on grant ns, ackTaken_other waits (by rwa [settlePort_now]) other⟩
  case unused =>
    exact fun s p ns idle => ⟨s, congrArg Host.Outcome.next (State.on_of_still (if_pos (by simpa using idle))), rfl⟩
  case expired =>
    intro s p t0 rest alive adit on grant waits late room
    refine ⟨_, ackWindowExpiry_inUse alive on grant, ?_⟩
    rw [ackExpired_missing waits (by rwa [settlePort_now])]
    exact ackMissing_missed alive adit waits room
  case open_ =>
    intro s p alive on grant open_
    exact ⟨_, ackWindowExpiry_inUse alive on grant, ackExpired_open (by rwa [settlePort_now])⟩
  case head => exact fun _ _ _ _ long alive adit on codeless stage room => headFaultDetect_faults long alive adit on codeless stage room
  case code => exact fun _ _ _ alive inv due dark room => headCodeReceived_kept alive inv due dark room
  case noCode => exact fun s _ _ idle => ⟨s, headCodeReceived_idle idle, rfl⟩
  case clear => exact fun _ _ _ served resting fault room => clearPort_clears served resting fault room
  case lit => exact fun _ _ _ served => clearPort_lit served

end Sys2Proof.Machine
end

section
/-!
PROOF. The driver dies (R202, R204 to R207, R209, R215): safe-state pattern, rail lock-out, desaturation and its soft turn-off, the Miller
clamp, and the start of an off-state test.
-/

namespace Sys2Proof.Machine

/-! ### Safe-state pattern (R209) -/

/-- The outputs and the ports, the drivers, and what shows them. -/
abbrev patternParts : Nat := 0xc00010000000000000000000000000000000000000000000000000000000000000000000000000000000020800000000000000000000000000

theorem applyPattern_applied {s : State} (g : GdId) (why : Nat) (room : s.hasRoom 1 = true) :
    (applyPattern g why s).gdv.pattern[g] = true ∧ newEvent s (applyPattern g why s) 0x3017 [g.val + 1, why] = true := by
  unfold applyPattern
  extract_lets t held marked
  have hHeld : Keeps patternParts s held := by
    refine .foldl _ (fun u d hu => ?_) (.refl s)
    extract_lets settled low latched guard on_ driven
    have hSettled : Keeps patternParts s settled := by
      unfold settled
      split
      · exact .ite hu (.step (keeps_settle _ u) (by decide) hu)
      · exact hu
    exact .setBit .GDV_CH_STATUS (group_GDV_CH_STATUS d) (by decide) 0 false (.setBit .GDV_CH_STATUS (group_GDV_CH_STATUS d) (by decide) 4 true
      (.step (keeps_State_modDrv settled d _) (by decide) hSettled))
  have buffer : held.logBuf = s.logBuf := (hHeld.same .log rfl).1
  have mt : held.isl.mt = s.isl.mt := hHeld.same (.isl .mt) rfl
  refine ⟨?_, newEvent_log (t := marked.setBit Obj.GDV_STATUS (2 + g.val) true) (hasRoom_eq room buffer) hHeld.seq mt⟩
  rw [State.log_gdv]
  exact vset_self _ g _ g.isLt

theorem safePatternApply_applies {s : State} {g : GdId} (alive : s.alive (.gdPrimary g) = true) (off : s.gdv.pattern[g] = false)
    (cause : heartbeatLost s g = true ∨ pulseLapsed s g = true) (room : s.hasRoom 1 = true) :
    Completes (.safePatternApply g) s fun t => t.gdv.pattern[g] = true ∧
      newEvent s t 0x3017 [g.val + 1, boolNat (!heartbeatLost s g)] = true := by
  refine ⟨_, congrArg Host.Outcome.next ((State.on_of_alive alive _).trans (if_neg ?_)), applyPattern_applied g _ room⟩
  rw [off]
  simpa using fun h => cause.resolve_left (by simp [h])

theorem leavePattern_left {s : State} {g : GdId} (beats : heartbeatLost s g = false) (pulses : s.isl.pulseEnable[g] = true)
    (holder : s.gdv.noHolder[g] = false) : (leavePattern g s).gdv.pattern[g] = false := by
  cases held : s.gdv.pattern[g] with
  | false =>
    have stays : leavePattern g s = s := if_pos (by simp [held])
    rw [stays, held]
  | true =>
    unfold leavePattern
    rw [if_neg (by simp only [held, beats, pulses, holder]; decide)]
    extract_lets left
    refine (congrArg (·[g]) (foldl_keeps (get := fun s => s.gdv.pattern) (fun u d => ?_) (dieChans g) left)).trans (vset_self _ g _ g.isLt)
    extract_lets driven
    split
    · exact (keeps_settle _ driven).same (.gdv .pattern) rfl
    · rfl

/-! ### Rail lock-out (R202) -/

/-- Every driver channel is shown off. -/
def driversShownOff (s : State) : State := allDrvs.foldl (fun s d => s.setBit (Obj.GDV_CH_STATUS d) 0 false) s

theorem keeps_driversShownOff (s : State) : Keeps statusParts s (driversShownOff s) :=
  .foldl allDrvs (fun _ d h => .setBit .GDV_CH_STATUS (group_GDV_CH_STATUS d) (by decide) 0 false h) (.refl s)

/-- The rail is locked out, before the event. -/
def railLow (volts : Rat) (s : State) : State :=
  ((s.modGdv fun g => { g with uvlo := true, uvloAt := s.now }).setR Obj.GDV_RAIL_V volts).setBit Obj.GDV_STATUS 0 true

/-- The rail is locked out and every driver channel held off, before the stages go to SAFE. -/
def railLocked (volts : Rat) (s : State) : State :=
  driversShownOff ((railLow volts s).log 0x3010 [volts, Sys2Proof.maskOf ((driverStages s).map Fin.val)])

/-- Stages that go to SAFE, one after the other. -/
def stagesSafe (cause : Nat) (s : State) (l : List StageId) : State := l.foldl (fun s n => stageSafe n cause s) s

/-- What a stage's entry into SAFE may change (`touchesSafe`). -/
abbrev safeParts : Nat :=
  0x2000000000004001800000000007400008000310000c0d00000006e0007cc1d9f0a4b33e700000000000000000080010014020004000200000100020981a0201000100e000000000140

theorem keeps_stagesSafe (cause : Nat) (s : State) (l : List StageId) : Keeps safeParts s (stagesSafe cause s l) :=
  .foldl l (fun u n hu => .trans hu (keeps_stageSafe n cause u)) (.refl s)

theorem stagesSafe_st {s : State} {l : List StageId} {n : StageId} (cause : Nat) (mem : n ∈ l) (halt : s.mod.mode ≠ .halt)
    (adit : s.mod.mode ≠ .adit) : (stagesSafe cause s l).stg[n].st = .safe := by
  induction l generalizing s with
  | nil => exact absurd mem List.not_mem_nil
  | cons m l ih =>
    rcases List.mem_cons.1 mem with rfl | later
    · exact (keeps_stagesSafe cause (stageSafe n cause s) l).same .safe rfl n (stageSafe_st n cause halt adit)
    · have mode : (stageSafe m cause s).mod.mode = s.mod.mode := (keeps_stageSafe m cause s).same (.mod .mode) rfl
      exact ih later (by rwa [mode]) (by rwa [mode])

theorem gdUvloEntry_below {s : State} {volts : Rat} {held : Nat} (powered : s.mod.powered = true) (rail : s.gdv.uvlo = false)
    (low : volts < 19) (long : 2000 ≤ held) :
    exec (.gdUvloEntry ⟨volts, held⟩) s = .next (stagesSafe 0x3010 (railLocked volts s) (driverStages s)) := by
  refine congrArg Host.Outcome.next (if_neg ?_)
  rw [powered, rail, decide_eq_false (not_le.2 low), decide_eq_false (Nat.not_lt.2 long)]
  decide

theorem railLocked_uvlo (volts : Rat) (s : State) : (railLocked volts s).gdv.uvlo = true :=
  ((keeps_driversShownOff _).same (.gdv .uvlo) rfl).trans (congrArg GateSt.uvlo (State.log_gdv ..))

theorem railLocked_uvloAt (volts : Rat) (s : State) : (railLocked volts s).gdv.uvloAt = s.now :=
  ((keeps_driversShownOff _).same (.gdv .uvloAt) rfl).trans (congrArg GateSt.uvloAt (State.log_gdv ..))

theorem railLocked_mode (volts : Rat) (s : State) : (railLocked volts s).mod.mode = s.mod.mode :=
  ((keeps_driversShownOff _).same (.mod .mode) rfl).trans (congrArg ModesSt.mode (State.log_mod ..))

theorem railLocked_event {s : State} (volts : Rat) (room : s.hasRoom 1 = true) :
    newEvent s (railLocked volts s) 0x3010 [volts, Sys2Proof.maskOf ((driverStages s).map Fin.val)] = true :=
  newEvent_keeps (keeps_driversShownOff _) rfl (newEvent_log (t := railLow volts s) (hasRoom_eq room rfl) (le_refl _) rfl)

theorem gateIsolate_of_uvlo {s : State} (locked : s.gdv.uvlo = true) (d : DrvId) : gateIsolate s d = 0 :=
  if_neg (by simp [locked])

theorem gateOn_of_uvlo {s : State} (locked : s.gdv.uvlo = true) (d : DrvId) : gateOn s d = false :=
  if_pos (by simp [locked])

theorem gdUvloEntry_locks {s : State} {volts : Rat} {held : Nat} (powered : s.mod.powered = true) (halt : s.mod.mode ≠ .halt)
    (adit : s.mod.mode ≠ .adit) (rail : s.gdv.uvlo = false) (low : volts < 19) (long : 2000 ≤ held) (room : s.hasRoom 1 = true) :
    Completes (.gdUvloEntry ⟨volts, held⟩) s fun t => t.gdv.uvlo = true ∧
      t.gdv.uvloAt = s.now ∧ (∀ n ∈ driverStages s, t.stg[n].st = .safe) ∧ (∀ d : DrvId, gateIsolate t d = 0 ∧ gateOn t d = false) ∧
      newEvent s t 0x3010 [volts, Sys2Proof.maskOf ((driverStages s).map Fin.val)] = true := by
  refine ⟨_, gdUvloEntry_below powered rail low long, ?_⟩
  have keeps := keeps_stagesSafe 0x3010 (railLocked volts s) (driverStages s)
  have locked : (stagesSafe 0x3010 (railLocked volts s) (driverStages s)).gdv.uvlo = true :=
    (keeps.same (.gdv .uvlo) rfl).trans (railLocked_uvlo volts s)
  have since : (stagesSafe 0x3010 (railLocked volts s) (driverStages s)).gdv.uvloAt = s.now :=
    (keeps.same (.gdv .uvloAt) rfl).trans (railLocked_uvloAt volts s)
  exact ⟨locked, since, fun n mem => stagesSafe_st 0x3010 mem (by rwa [railLocked_mode]) (by rwa [railLocked_mode]),
    fun d => ⟨gateIsolate_of_uvlo locked d, gateOn_of_uvlo locked d⟩, newEvent_keeps keeps rfl (railLocked_event volts room)⟩

theorem grantNow_congr {s t : State} (twn : t.twn = s.twn) (mod : t.mod = s.mod) : grantNow t = grantNow s := by
  unfold grantNow isDuplex claimRequest
  rw [twn, mod]

theorem gateIsolate_of_supplied {s : State} {d : DrvId} (powered : s.mod.powered = true) (rail : s.gdv.uvlo = false)
    (acts : s.fenced (.gdPrimary (dieOf d)) = false) (grant : grantNow s = true) : gateIsolate s d = 15 :=
  if_pos (by rw [powered, rail, acts, grant]; rfl)

/-- The lock-out of the rail has ended, before the event. -/
def railBack (s : State) : State := (s.modGdv fun g => { g with uvlo := false }).setBit Obj.GDV_STATUS 0 false

theorem gdUvloExit_over {s : State} (powered : s.mod.powered = true) (locked : s.gdv.uvlo = true)
    (long : cyclesMs ≤ s.since s.gdv.uvloAt) :
    exec .gdUvloExit s = .next ((railBack s).log 0x3011 [(s.since s.gdv.uvloAt : Nat)]) := by
  refine congrArg Host.Outcome.next (if_neg ?_)
  rw [powered, locked, decide_eq_false (Nat.not_lt.2 long)]
  decide

theorem gdUvloExit_unlocks {s : State} (powered : s.mod.powered = true) (locked : s.gdv.uvlo = true)
    (long : cyclesMs ≤ s.since s.gdv.uvloAt) (room : s.hasRoom 1 = true) :
    Completes .gdUvloExit s fun t => t.gdv.uvlo = false ∧ (∀ d : DrvId, s.fenced (.gdPrimary (dieOf d)) = false → grantNow s = true →
      gateIsolate t d = 15) ∧ newEvent s t 0x3011 [(s.since s.gdv.uvloAt : Nat)] = true := by
  refine ⟨_, gdUvloExit_over powered locked long, ?_⟩
  generalize [((s.since s.gdv.uvloAt : Nat) : Rat)] = lasted
  have rail : ((railBack s).log 0x3011 lasted).gdv.uvlo = false := congrArg GateSt.uvlo (State.log_gdv ..)
  have same : ((railBack s).log 0x3011 lasted).mod = s.mod := State.log_mod ..
  have fences : ((railBack s).log 0x3011 lasted).isl = s.isl := State.log_isl ..
  refine ⟨rail, fun d acts grant => gateIsolate_of_supplied (by rwa [same]) rail (by rwa [State.fenced, fences]) ?_,
    newEvent_log (hasRoom_eq room rfl) (le_refl _) rfl⟩
  exact (grantNow_congr (State.log_twn ..) same).trans grant

/-! ### Desaturation (R205 to R207) -/

/-- The latch and the first level of a soft turn-off, before the event (R206). -/
def softOff (d : DrvId) (s : State) : State :=
  let s := s.modDrv d fun x => { x with gate := .soft, since := s.now, stoTime := s.objN (Obj.GDV_STO_TIME d), patOn := none }
  (((s.setBit (Obj.GDV_CH_STATUS d) 1 true).setBit (Obj.GDV_CH_STATUS d) 2 true).setBit (Obj.GDV_CH_STATUS d) 3 false).bump
    (Obj.GDV_DESAT_COUNT d)

/-- The drivers, GDV_CH_STATUS and GDV_DESAT_COUNT. -/
abbrev softParts : Nat := 0x400000000000000000000000000000000000000000000000000000000000000000000000000000000000001800000000000000000000000000

theorem keeps_softOff (d : DrvId) (s : State) : Keeps softParts s (softOff d s) :=
  have status (n : Nat) (b : Bool) {u : State} (h : Keeps softParts s u) : Keeps softParts s (u.setBit (Obj.GDV_CH_STATUS d) n b) :=
    .setBit .GDV_CH_STATUS (group_GDV_CH_STATUS d) (by decide) n b h
  .bump .GDV_DESAT_COUNT (group_GDV_DESAT_COUNT d) (by decide)
    (status 3 false (status 2 true (status 1 true (.step (keeps_State_modDrv s d _) (by decide) (.refl s)))))

/-- A driver channel's stage goes to SAFE. -/
def driverSafe (d : DrvId) (cause : Nat) (s : State) : State := match drvStage s d with | some n => stageSafe n cause s | none => s

theorem driverSafe_of_stage {s : State} {d : DrvId} {n : StageId} (stage : drvStage s d = some n) (cause : Nat) :
    driverSafe d cause s = stageSafe n cause s := by
  rw [driverSafe, stage]

/-- A detection as it stands with its event and its source active, before the stage goes to SAFE. -/
def desatReported (d : DrvId) (s : State) : State := sourceActive (desatSrc d) ((softOff d s).log 0x3012 [d.val + 1, s.now])

/-- `softParts`, the log, and what an active source may change. -/
abbrev reportParts : Nat := 0x4000c000d0001000000000000080000000000000000000000000000000000000000000000004000000000000021800000003031000000000000100

theorem keeps_desatReported (d : DrvId) (s : State) : Keeps reportParts s (desatReported d s) :=
  .step (keeps_sourceActive (desatSrc d) _) (by decide) (.step (keeps_State_log (softOff d s) _ _) (by decide)
    ((keeps_softOff d s).mono (by decide)))

theorem desatReported_drv (d : DrvId) (s : State) : (desatReported d s).gdv.drv[d] = { s.gdv.drv[d] with
    gate := .soft, since := s.now, stoTime := s.objN (Obj.GDV_STO_TIME d), patOn := none } := by
  have drivers : (desatReported d s).gdv.drv = (softOff d s).gdv.drv :=
    ((keeps_sourceActive (desatSrc d) _).same (.gdv .drv) rfl).trans (congrArg GateSt.drv (State.log_gdv ..))
  rw [drivers]
  exact vset_self _ d _ d.isLt

theorem desatReported_event {s : State} (d : DrvId) (room : s.hasRoom 1 = true) :
    newEvent s (desatReported d s) 0x3012 [d.val + 1, s.now] = true :=
  newEvent_keeps (keeps_sourceActive (desatSrc d) _) rfl (newEvent_log (t := softOff d s) (hasRoom_eq room rfl) (le_refl _) rfl)

theorem desatDetect_seen {s : State} {d : DrvId} {volts : Rat} {held : Nat} {n : StageId} (alive : s.alive (.gdSecondary d) = true)
    (armed : s.bit (Obj.GDV_CH_CFG d) 1 = true) (free : s.bit (Obj.GDV_CH_STATUS d) 1 = false) (seen : desatSeen s d volts held = true)
    (stage : drvStage s d = some n) : exec (.desatDetect ⟨d, ⟨volts, held⟩⟩) s = .next (stageSafe n 0x3012 (desatReported d s)) := by
  have owner : drvStage (desatReported d s) d = some n := ((keeps_desatReported d s).drvStage rfl d).trans stage
  refine congrArg Host.Outcome.next ((State.on_of_alive alive _).trans ((if_neg ?_).trans (driverSafe_of_stage owner 0x3012)))
  dsimp only
  rw [armed, free, seen]
  decide

theorem desatDetect_latches {s : State} {d : DrvId} {volts : Rat} {held : Nat} {n : StageId} (alive : s.alive (.gdSecondary d) = true)
    (adit : s.mod.mode ≠ .adit) (armed : s.bit (Obj.GDV_CH_CFG d) 1 = true) (free : s.bit (Obj.GDV_CH_STATUS d) 1 = false)
    (seen : desatSeen s d volts held = true) (stage : drvStage s d = some n) (room : s.hasRoom 1 = true) :
    Completes (.desatDetect ⟨d, ⟨volts, held⟩⟩) s fun t => t.gdv.drv[d].gate = .soft ∧
      t.gdv.drv[d].since = s.now ∧ t.stg[n].st = .safe ∧ newEvent s t 0x3012 [d.val + 1, s.now] = true := by
  refine ⟨_, desatDetect_seen alive armed free seen stage, ?_⟩
  have safe := keeps_stageSafe n 0x3012 (desatReported d s)
  have drivers : (stageSafe n 0x3012 (desatReported d s)).gdv.drv = (desatReported d s).gdv.drv := safe.same (.gdv .drv) rfl
  have mode : (desatReported d s).mod.mode = s.mod.mode := (keeps_desatReported d s).same (.mod .mode) rfl
  dsimp only
  rw [drivers, desatReported_drv]
  exact ⟨rfl, rfl, stageSafe_st n 0x3012 (by rw [mode]; exact State.mode_ne_halt_of_alive alive) (by rwa [mode]),
    newEvent_keeps safe rfl (desatReported_event d room)⟩

theorem softTurnoffSecondLevel_due {s : State} {d : DrvId} (alive : s.alive (.gdSecondary d) = true) (soft : s.gdv.drv[d].gate = .soft)
    (due : s.gdv.drv[d].stoTime * 4096 ≤ s.since s.gdv.drv[d].since * 10000) :
    Completes (.softTurnoffSecondLevel d) s fun t => t.gdv.drv[d].gate = .second := by
  refine ⟨_, congrArg Host.Outcome.next ((State.on_of_alive alive _).trans (if_pos ?_)), congrArg DriverSt.gate (vset_self _ d _ d.isLt)⟩
  rw [soft, decide_eq_true due]
  rfl

theorem defaultAt_GDV_CH_STATUS (d : DrvId) : defaultAt (Obj.GDV_CH_STATUS d) = some (.int 0) := by
  revert d
  decide +kernel

theorem millerClampEngage_engages {s : State} {d : DrvId} {volts : Rat} (alive : s.alive (.gdSecondary d) = true)
    (clamp : s.bit (Obj.GDV_CH_CFG d) 0 = true) (grant : grantNow s = true)
    (off : s.gdv.drv[d].gate = .second ∨ s.gdv.drv[d].gate = .latched ∨ (s.gdv.drv[d].gate = .follow ∧ gateOn s d = false))
    (low : volts < offLevel s d + 2) : Completes (.millerClampEngage ⟨d, volts⟩) s fun t => t.bit (Obj.GDV_CH_STATUS d) 3 = true ∧
      t.gdv.drv[d].gate = (if s.gdv.drv[d].gate = .second then .latched else s.gdv.drv[d].gate) := by
  have offNow : (s.gdv.drv[d].gate == .second || s.gdv.drv[d].gate == .latched || (s.gdv.drv[d].gate == .follow && !gateOn s d)) = true := by
    rcases off with second | latched | ⟨follow, gate⟩
    · rw [second]; rfl
    · rw [latched]; rfl
    · rw [follow, gate]; rfl
  refine ⟨_, congrArg Host.Outcome.next ((State.on_of_alive alive _).trans (if_neg ?_)),
    State.bit_setBit_true (defaultAt_GDV_CH_STATUS d) 3 _, ?_⟩
  · dsimp only
    rw [clamp, offNow, grant, decide_eq_false (not_le.2 low)]
    decide
  · refine (congrArg DriverSt.gate (vset_self _ d _ d.isLt)).trans ?_
    exact if_congr beq_iff_eq rfl rfl

/-- The latch of a driver channel is released, before its event (R207). -/
def desatReleased (d : DrvId) (s : State) : State :=
  ((s.modDrv d fun x => { x with gate := .follow }).setBit (Obj.GDV_CH_STATUS d) 1 false).setBit (Obj.GDV_CH_STATUS d) 2 false

theorem clearDesat_releases {s : State} {d : DrvId} {w : Writer} (served : s.serves w (.gdPrimary (dieOf d)) = true)
    (resting : restingStage s (drvStage s d) = true) (latched : s.bit (Obj.GDV_CH_STATUS d) 1 = true) (room : s.hasRoom 1 = true) :
    Completes (.clearDesat d w) s fun t => t.gdv.drv[d].gate = .follow ∧
      desatSrc d ∉ t.edg.active ∧ newEvent s t 0x3018 [d.val + 1] = true := by
  have cleared : owned w (fun s => accepted (clearDesatCmd d s)) s =
      (0, sourceInactive (desatSrc d) ((desatReleased d s).log 0x3018 [d.val + 1])) := by
    rw [owned_served served]
    unfold clearDesatCmd
    rw [resting, latched, if_neg (by decide), if_neg (by decide)]
    rfl
  obtain ⟨tx, net, answered⟩ := request_accepted_shape served (Obj.GDV_CH_CMD d) cleared
  have inactive := keeps_sourceInactive (desatSrc d) ((desatReleased d s).log 0x3018 [d.val + 1])
  have drivers : (sourceInactive (desatSrc d) ((desatReleased d s).log 0x3018 [d.val + 1])).gdv.drv = (desatReleased d s).gdv.drv :=
    (inactive.same (.gdv .drv) rfl).trans (by rw [State.log_gdv])
  have event : newEvent s (sourceInactive (desatSrc d) ((desatReleased d s).log 0x3018 [d.val + 1])) 0x3018 [d.val + 1] = true :=
    newEvent_keeps inactive rfl (newEvent_log (hasRoom_eq room rfl) (le_refl _) rfl)
  refine ⟨_, congrArg Host.Outcome.next answered, ?_, not_mem_sourceInactive (desatSrc d) _, newEvent_congr rfl event⟩
  dsimp only
  rw [drivers]
  exact congrArg DriverSt.gate (vset_self _ d _ d.isLt)

/-! ### Off-state test (R215) -/

theorem gdDiagCmd_starts {s : State} {n : StageId} {w : Writer} (served : s.serves w .keystone = true) (service : serviceOk s w = true)
    (ready : s.mod.mode = .ready) (unforced : s.edg.raw = false) (link : linkForDiag s n = true) :
    Completes (.gdDiagCmd n w) s fun t => t.stg[n].diagSince = some s.now ∧ t.stg[n].diagDeferred = s.stg[n].diagDeferred := by
  have started : diagCmd n w s = (0, startDiag n s) := by
    unfold diagCmd
    rw [service, ready, unforced, link]
    rfl
  obtain ⟨tx, net, answered⟩ := request_accepted_shape served (Obj.GDV_DIAG_CMD n) started
  have stage : (startDiag n s).stg[n] = { s.stg[n] with diagSince := some s.now } := State.modStage_self n _ s
  refine ⟨_, congrArg Host.Outcome.next answered, ?_⟩
  dsimp only
  rw [stage]
  exact ⟨rfl, rfl⟩

/-- Settles O25, clause by clause from the lemmas above. -/
theorem gateDriveProtection : Obligations.GateDriveProtection := by
  unfold Obligations.GateDriveProtection
  refine ⟨?apply, ?leave, ?locks, ?unlocks, ?desat, ?second, ?clamp, ?clear, ?diag⟩
  case apply => exact fun _ _ alive off cause room => safePatternApply_applies alive off cause room
  case leave =>
    exact fun s g alive beats pulses holder =>
      ⟨_, congrArg Host.Outcome.next (State.on_of_alive alive _), leavePattern_left beats pulses holder⟩
  case locks => exact fun _ _ _ powered halt adit rail low long room => gdUvloEntry_locks powered halt adit rail low long room
  case unlocks => exact fun _ powered locked long room => gdUvloExit_unlocks powered locked long room
  case desat =>
    exact fun _ _ _ _ _ alive adit armed free seen stage room => desatDetect_latches alive adit armed free seen stage room
  case second => exact fun _ _ alive soft due => softTurnoffSecondLevel_due alive soft due
  case clamp => exact fun _ _ _ alive clamp grant off low => millerClampEngage_engages alive clamp grant off low
  case clear => exact fun _ _ _ served resting latched room => clearDesat_releases served resting latched room
  case diag => exact fun _ _ _ served service ready unforced link => gdDiagCmd_starts served service ready unforced link

end Sys2Proof.Machine
end

section
/-!
PROOF. Conversions, acquisition timers and self-calibration (R228 to R231, R238), filter chains and their banks (R247 to R253): what each
operation leaves at the channel or the chain that it works on.
-/

namespace Sys2Proof.Machine

/-! ### A channel's and a chain's own state -/

@[simp] theorem State.modAdc_at (s : State) (c : AdcId) (f : AdcSt → AdcSt) : (s.modAdc c f).acq.adc[c] = f s.acq.adc[c] :=
  vset_self _ c _ c.isLt

@[simp] theorem State.modChain_at (s : State) (c : ChainId) (f : ChainSt → ChainSt) : (s.modChain c f).acq.chain[c] = f s.acq.chain[c] :=
  vset_self _ c _ c.isLt

@[simp] theorem showAcq_acq (s : State) : (showAcq s).acq = s.acq := rfl

@[simp] theorem stepReaders_adc (input : Nat) (s : State) : (stepReaders input s).acq.adc = s.acq.adc :=
  (keeps_stepReaders input s).same (.acq .adc) rfl

theorem noteCode_at (c : AdcId) (x : Int × Nat) (s : State) :
    (noteCode c x s).acq.adc[c] = { s.acq.adc[c] with code := x.1, quality := x.2 } := by
  have noted := State.modAdc_at s c fun a => { a with code := x.1, quality := x.2 }
  unfold noteCode
  split <;> exact noted

/-- A delivered result is stamped with the instant that it is delivered for (R235). -/
theorem deliver_at (c : AdcId) (b : Nat) (v : Int) (stamp qual : Nat) (s : State) : ∃ r : ResultSt, r.stamp = stamp ∧
    (deliver c b v stamp qual s).acq.adc[c] = { s.acq.adc[c] with result := some r, late := false } :=
  ⟨⟨v, b, _, _, stamp, qual⟩, rfl, vset_self _ c _ c.isLt⟩

/-! ### Conversions (R228 to R231) -/

theorem group_ACQ_CH_START (c : AdcId) : objGroup (Obj.ACQ_CH_START c) = .acq := by
  revert c
  decide +kernel

/-- Converters, chains, the quantities of safe stops, ACQ_OVERRANGE_COUNT. -/
abbrev codeParts : Nat :=
  0x100000000000000006000000000000000000000000000000000000000000000000000000000000000000000000000000000000000000000000000000100000000000

/-- A code of the grid is noted, kept in the history, and has reached the chains and the keystone, before its result is delivered. -/
def codeTaken (c : AdcId) (x : Int × Nat) (start : Nat) (s : State) : State :=
  ssdFeed c x.1 start (feedChains c (x.1, x.2, start) ((noteCode c x s).modAdc c fun a => { a with hist := ((start, x) :: a.hist).take 8 }))

theorem keeps_codeTaken (c : AdcId) (x : Int × Nat) (start : Nat) (s : State) : Keeps codeParts s (codeTaken c x start s) :=
  .step (keeps_ssdFeed _ _ _ _) (by decide) (.step (keeps_feedChains _ _ _) (by decide)
    (.step (keeps_State_modAdc _ _ _) (by decide) (.step (keeps_noteCode _ _ _) (by decide) (.refl s))))

theorem codeTaken_at (c : AdcId) (x : Int × Nat) (start : Nat) (s : State) : (codeTaken c x start s).acq.adc[c] =
    { s.acq.adc[c] with code := x.1, quality := x.2, hist := ((start, x) :: s.acq.adc[c].hist).take 8 } := by
  rw [codeTaken, ssdFeed_adc, feedChains_adc, State.modAdc_at, noteCode_at]

theorem gridConversion_of_continuous {s : State} {c : AdcId} (continuous : startType s c = 0) (raw : Int) (start : Nat) :
    gridConversion c raw start s = takeAdcWrites c (deliver c 16 (convCode c raw start s).1 start (convCode c raw start s).2
      (codeTaken c (convCode c raw start s) start s)) := by
  have type : startType (codeTaken c (convCode c raw start s) start s) c = startType s c :=
    (keeps_codeTaken c _ start s).field' _ _ _ (by rw [group_ACQ_CH_START]; decide) (by decide)
  have other : ¬ startType (codeTaken c (convCode c raw start s) start s) c = 1 := by
    rw [type, continuous]
    decide
  exact congrArg (takeAdcWrites c) (if_neg other)

/-- R228: a conversion of the grid keeps its code and its quality with its start, and delivers its result stamped with it. -/
theorem conversionComplete_grid {s : State} {c : AdcId} (raw : Int) (alive : s.alive .sample = true) (continuous : startType s c = 0)
    (grid : onGrid s c (s.now - 64) = true) (fresh : (s.acq.adc[c].hist.head?.map (·.1)) ≠ some (s.now - 64)) :
    Completes (.conversionComplete c raw) s fun t => t.acq.adc[c].code = (convCode c raw (s.now - 64) s).1 ∧
      t.acq.adc[c].hist = ((s.now - 64, convCode c raw (s.now - 64) s) :: s.acq.adc[c].hist).take 8 ∧
      (t.acq.adc[c].result.map fun r => r.stamp) = some (s.now - 64) := by
  have converts : conversionComplete c raw s = gridConversion c raw (s.now - 64) s :=
    (if_pos (.inl continuous)).trans (if_pos (by rw [grid, Bool.true_and]; exact bne_iff_ne.2 fresh))
  refine ⟨_, congrArg Host.Outcome.next ((State.on_of_alive alive _).trans converts), ?_⟩
  obtain ⟨r, stamp, delivered⟩ := deliver_at c 16 (convCode c raw (s.now - 64) s).1 (s.now - 64) (convCode c raw (s.now - 64) s).2
    (codeTaken c (convCode c raw (s.now - 64) s) (s.now - 64) s)
  rw [gridConversion_of_continuous continuous, takeAdcWrites_adc, delivered, codeTaken_at]
  exact ⟨rfl, rfl, congrArg some stamp⟩

theorem singleConversion_at (c : AdcId) (raw : Int) (cv : ConvSt) (s : State) : ∃ r : ResultSt, r.stamp = cv.start ∧
    (singleConversion c raw cv s).acq.adc[c] = { s.acq.adc[c] with
      code := (convCode c raw cv.start s).1, quality := (convCode c raw cv.start s).2, result := some r, late := false,
      conv := s.acq.adc[c].held.map fun h => { h with start := max h.start (cv.start + 64) }, held := none } := by
  unfold singleConversion
  extract_lets x ended
  obtain ⟨r, stamp, delivered⟩ := deliver_at c 16 x.1 cv.start (x.2 ||| (16 * boolNat cv.off)) (noteCode c x s)
  exact ⟨r, stamp, by rw [State.modAdc_at, takeAdcWrites_adc, delivered, noteCode_at]⟩

/-- R231: a conversion that a trigger or timer has started delivers its result, and the one held begins. -/
theorem conversionComplete_single {s : State} {c : AdcId} {cv : ConvSt} (raw : Int) (alive : s.alive .sample = true)
    (single : startType s c = 2 ∨ startType s c = 3) (conv : s.acq.adc[c].conv = some cv) (past : cv.start + 64 ≤ s.now) :
    Completes (.conversionComplete c raw) s fun t =>
      t.acq.adc[c].conv = s.acq.adc[c].held.map (fun h => { h with start := max h.start (cv.start + 64) }) ∧
      t.acq.adc[c].held = none ∧ (t.acq.adc[c].result.map fun r => r.stamp) = some cv.start := by
  have converts : conversionComplete c raw s = singleConversion c raw cv s := by
    refine (if_neg (by omega)).trans ((if_pos single).trans ?_)
    rw [conv]
    exact if_neg (Nat.not_lt.2 past)
  refine ⟨_, congrArg Host.Outcome.next ((State.on_of_alive alive _).trans converts), ?_⟩
  obtain ⟨r, stamp, ended⟩ := singleConversion_at c raw cv s
  rw [ended]
  exact ⟨rfl, rfl, congrArg some stamp⟩

theorem startConv_of_free {s : State} {c : AdcId} (free : s.acq.adc[c].conv = none) (at_ : Nat) (off : Bool) :
    startConv at_ off s c = s.modAdc c fun a => { a with conv := some ⟨at_, off⟩ } := by
  unfold startConv
  dsimp only
  rw [free]

/-- An event of a timer is noted, before it starts its channels. -/
def timerNoted (k : Fin 4) (e : Nat) (s : State) : State := s.modAcq fun a => { a with timer := a.timer.set k (some e) }

theorem acqTimerEvent_of_fresh {s : State} {k : Fin 4} {e : Nat} (alive : s.alive .sample = true) (event : timerEvent s k = some e)
    (fresh : s.acq.timer[k] ≠ some e) : exec (.acqTimerEvent k) s = .next ((startedBy s 3 k).foldl
      (fun s c => startConv (e + s.objN (Obj.ACQ_CH_DELAY c)) false s c) (timerNoted k e s)) := by
  refine congrArg Host.Outcome.next ((State.on_of_alive alive _).trans ?_)
  rw [event]
  exact if_neg fresh

/-- R229: an event of a timer is noted, and the one channel bound to it starts after its delay. -/
theorem acqTimerEvent_starts {s : State} {k : Fin 4} {c : AdcId} {e : Nat} (alive : s.alive .sample = true)
    (event : timerEvent s k = some e) (fresh : s.acq.timer[k] ≠ some e) (bound : startedBy s 3 k = [c])
    (free : s.acq.adc[c].conv = none) : Completes (.acqTimerEvent k) s fun t =>
      t.acq.adc[c].conv = some ⟨e + s.objN (Obj.ACQ_CH_DELAY c), false⟩ ∧ t.acq.timer[k] = some e := by
  refine ⟨_, acqTimerEvent_of_fresh alive event fresh, ?_⟩
  rw [bound, List.foldl_cons, List.foldl_nil, startConv_of_free (s := timerNoted k e s) free]
  dsimp only
  rw [State.modAdc_at]
  exact ⟨rfl, vset_self _ k _ k.isLt⟩

/-! ### Self-calibration (R238) -/

theorem acqSelfCal_starts {s : State} {w : Writer} (served : s.serves w .sample = true) (service : serviceOk s w = true)
    (ready : s.mod.mode = .ready) (free : s.acq.selfCal = none) :
    Completes (.acqSelfCal w) s fun t => t.acq.selfCal = some s.now := by
  have started : acqSelfCal w s = (0, startSelfCal s) := by
    unfold acqSelfCal
    rw [service, ready, free]
    rfl
  obtain ⟨tx, net, answered⟩ := request_accepted_shape served Obj.ACQ_CMD started
  exact ⟨_, congrArg Host.Outcome.next answered, rfl⟩

/-- A channel whose measured factors pass takes them; where its failure had left it without a value, that is a step for its chains. -/
def calTaken (c : AdcId) (f : CalFactors) (s : State) : State :=
  let s := if s.bit (Obj.ACQ_CH_STATUS c) 8 && !hasSubstitute s c then stepReaders c.val s else s
  let s := ((s.setObj (Obj.ACQ_CAL_OFFSET c) (.int f.offset)).setR (Obj.ACQ_CAL_GAIN c) f.gain).setBit (Obj.ACQ_CH_STATUS c) 8 false
  s.modAdc c fun a => { a with offset := f.offset, drift := 0 }

theorem calOne_of_passed {f : CalFactors} (passed : calFails f = false) (s : State) (c : AdcId) : calOne s c f = calTaken c f s :=
  if_neg (by rw [passed]; decide)

/-- ACQ_CAL_OFFSET, ACQ_CAL_GAIN, ACQ_CH_STATUS, ACQ_FC_STATUS, converters and chains. -/
abbrev calParts : Nat :=
  0x6000000000000000000000000000000000000000000000000000000000000000000000000000000000000000000000000000000020e00000000

theorem keeps_calTaken (c : AdcId) (f : CalFactors) {s u : State} (h : Keeps calParts s u) : Keeps calParts s (calTaken c f u) := by
  unfold calTaken
  extract_lets stepped written
  have hStepped : Keeps calParts s stepped := .ite (.step (keeps_stepReaders _ _) (by decide) h) h
  exact .step (keeps_State_modAdc _ _ _) (by decide) (.setBit .ACQ_CH_STATUS (group_ACQ_CH_STATUS c) (by decide) 8 false
    (.setR .ACQ_CAL_GAIN (group_ACQ_CAL_GAIN c) (by decide) _ (.setObj .ACQ_CAL_OFFSET (group_ACQ_CAL_OFFSET c) (by decide) _ hStepped)))

theorem calTaken_adc (c : AdcId) (f : CalFactors) (s : State) : (calTaken c f s).acq.adc =
    s.acq.adc.set c { s.acq.adc[c] with offset := f.offset, drift := 0 } := by
  unfold calTaken
  extract_lets stepped written
  have hStepped : stepped.acq.adc = s.acq.adc := by
    unfold stepped
    split
    · exact stepReaders_adc c.val s
    · rfl
  rw [State.modAdc_acq]
  dsimp only
  rw [show written.acq = stepped.acq from rfl, hStepped]

/-- Every channel's factors as they are measured, all channels having passed. -/
def calAll (found : AdcId → CalFactors) (s : State) : State := allAdcs.foldl (fun s c => calTaken c (found c) s) s

theorem keeps_calAll (found : AdcId → CalFactors) (s : State) : Keeps calParts s (calAll found s) :=
  .foldl allAdcs (fun _ c h => keeps_calTaken c (found c) h) (.refl s)

theorem calAll_at (found : AdcId → CalFactors) (s : State) (c : AdcId) :
    ((calAll found s).acq.adc[c].drift, (calAll found s).acq.adc[c].offset) = (0, ((found c).offset : Rat)) :=
  foldl_unit (get := fun s => (s.acq.adc[c].drift, s.acq.adc[c].offset)) (P := fun _ => True) (fun _ _ _ _ => trivial)
    (fun s _ => by rw [calTaken_adc, vset_self _ c _ c.isLt])
    (fun s a ne => by rw [calTaken_adc, vset_at, if_neg ne])
    (List.nodup_finRange 24) (List.mem_finRange c) trivial

/-- Self-calibration has ended, and in SURVEY it counts as done. -/
def selfCalEnded (s : State) : State :=
  let s := (s.modAcq fun a => { a with selfCal := none }).setField Obj.ACQ_STATUS 0 2 2
  showAcq (if s.mod.mode == .survey then s.modMod fun m => { m with calDone := true } else s)

theorem selfCalEnded_selfCal (s : State) : (selfCalEnded s).acq.selfCal = none := by
  unfold selfCalEnded
  extract_lets ended
  rw [showAcq_acq]
  split <;> rfl

theorem selfCalEnded_adc (s : State) : (selfCalEnded s).acq.adc = s.acq.adc := by
  unfold selfCalEnded
  extract_lets ended
  rw [showAcq_acq]
  split <;> rfl

theorem selfCalEnded_logBuf (s : State) : (selfCalEnded s).logBuf = s.logBuf := by
  unfold selfCalEnded
  extract_lets ended
  refine (show (showAcq _).logBuf = _ from rfl).trans ?_
  split <;> rfl

theorem selfCalEnded_calDone {s : State} (survey : s.mod.mode = .survey) : (selfCalEnded s).mod.calDone = true := by
  unfold selfCalEnded
  extract_lets ended
  have still : (ended.mod.mode == .survey) = true := beq_iff_eq.2 survey
  rw [if_pos still]
  rfl

theorem selfCalComplete_of_passed {s : State} {readings : Vector DacReading 24} {at_ : Nat} (alive : s.alive .sample = true)
    (runs : s.acq.selfCal = some at_) (long : 18 * cyclesMs ≤ s.since at_)
    (passed : ∀ c : AdcId, calFails (calFactors s c readings[c]) = false) : exec (.selfCalComplete readings) s =
      .next (selfCalEnded ((calAll (fun c => calFactors s c readings[c]) s).log 0x4002 [msOf (s.since at_), 0])) := by
  refine congrArg Host.Outcome.next ((State.on_of_alive alive _).trans ?_)
  rw [runs]
  dsimp only
  rw [if_neg (Nat.not_lt.2 long)]
  have taken : (allAdcs.map fun c => (c, calFactors s c readings[c])).foldl (fun s e => calOne s e.1 e.2) s =
      calAll (fun c => calFactors s c readings[c]) s := by
    rw [List.foldl_map]
    exact congrArg (fun f => allAdcs.foldl f s) (funext₂ fun u c => calOne_of_passed (passed c) u c)
  have none : ((allAdcs.map fun c => (c, calFactors s c readings[c])).filter fun e => calFails e.2).length = 0 := by
    simpa using fun c _ => passed c
  have since : (calAll (fun c => calFactors s c readings[c]) s).since at_ = s.since at_ :=
    congrArg (· - at_) ((keeps_calAll _ s).same (.isl .mt) rfl)
  rw [taken, none, since]
  rfl

theorem selfCalComplete_ends {s : State} {readings : Vector DacReading 24} {at_ : Nat} (alive : s.alive .sample = true)
    (runs : s.acq.selfCal = some at_) (long : 18 * cyclesMs ≤ s.since at_)
    (passed : ∀ c : AdcId, calFails (calFactors s c readings[c]) = false) (room : s.hasRoom 1 = true) :
    Completes (.selfCalComplete readings) s fun t => t.acq.selfCal = none ∧ (s.mod.mode = .survey → t.mod.calDone = true) ∧
      (∀ c : AdcId, t.acq.adc[c].drift = 0 ∧ t.acq.adc[c].offset = ((calFactors s c readings[c]).offset : Rat)) ∧
      newEvent s t 0x4002 [msOf (s.since at_), 0] = true := by
  refine ⟨_, selfCalComplete_of_passed alive runs long passed, ?_⟩
  have keeps := keeps_calAll (fun c => calFactors s c readings[c]) s
  have mode : (calAll (fun c => calFactors s c readings[c]) s).mod.mode = s.mod.mode := keeps.mode rfl
  have event : newEvent s ((calAll (fun c => calFactors s c readings[c]) s).log 0x4002 [msOf (s.since at_), 0]) 0x4002
      [msOf (s.since at_), 0] = true :=
    newEvent_log (hasRoom_eq room (keeps.same .log rfl).1) keeps.seq (keeps.same (.isl .mt) rfl)
  refine ⟨selfCalEnded_selfCal _, fun survey => selfCalEnded_calDone (by rw [State.log_mod, mode, survey]), fun c => ?_,
    newEvent_congr (selfCalEnded_logBuf _) event⟩
  rw [selfCalEnded_adc, State.log_acq]
  exact Prod.mk.inj (calAll_at (fun c => calFactors s c readings[c]) s c)

/-! ### Outputs of a filter chain (R247 to R253) -/

/-- A delivered output is stamped with the instant that it is delivered for, and that is the chain's last stamp (R252). -/
theorem deliverChain_at (c : ChainId) (y : Int) (stamp q : Nat) (s : State) : ∃ r : ResultSt, r.stamp = stamp ∧
    (deliverChain c y stamp q s).acq.chain[c] =
      { s.acq.chain[c] with lastStamp := stamp, outs := (r :: s.acq.chain[c].outs).take 8448 } := by
  unfold deliverChain
  extract_lets v quality cfg word delivered reported shown
  have same : reported.acq.chain = delivered.acq.chain := by
    unfold reported
    split
    · exact (keeps_State_logOnce _ _ _ _).same (.acq .chain) rfl
    · rfl
  exact ⟨⟨v, 24, _, word, stamp, quality⟩, rfl, (congrArg (·[c]) same).trans (vset_self _ c _ c.isLt)⟩

/-- What an output of a chain with this many inputs and this stamp leaves of the chain. -/
structure OutputTaken (s : State) (c : ChainId) (n stamp : Nat) (h : ChainSt) : Prop where
  lastStamp : h.lastStamp = stamp
  queue : h.queue = s.acq.chain[c].queue.drop n
  unsettled : h.unsettled = s.acq.chain[c].unsettled - 1
  late : h.late = false
  newest : (h.outs.head?.map fun r => r.stamp) = some stamp
  bank : (h.active, h.fade) = (fadeStep s c stamp).2

theorem chainStepOut_taken (c : ChainId) (xs : List (Int × Nat × Nat)) (s : State) : OutputTaken s c xs.length
    (((xs.getLast?.map fun x => x.2.2).getD 0) - chainDelay s c) (chainStepOut c xs s).acq.chain[c] := by
  unfold chainStepOut
  extract_lets h shifts f stamp quals q
  rcases bank : fadeStep s c stamp with ⟨starts, active, fade⟩
  dsimp -zeta only
  extract_lets y filtered shown
  obtain ⟨r, hStamp, delivered⟩ := deliverChain_at c y stamp q shown
  have own : shown.acq.chain[c] = filtered.acq.chain[c] := rfl
  rw [delivered, own, State.modChain_at]
  exact ⟨rfl, rfl, rfl, rfl, congrArg some hStamp, by rw [bank]⟩

theorem fadeStep_idle {s : State} {c : ChainId} (still : s.acq.chain[c].switch_ = none) (settled : s.acq.chain[c].fade = none) (stamp : Nat) :
    fadeStep s c stamp = (false, s.acq.chain[c].active, none) := by
  unfold fadeStep
  dsimp only
  rw [still, settled]
  rfl

theorem takeChainWrites_of_none {s : State} (none : s.commitWrites = []) (c : ChainId) : takeChainWrites c s = s := by
  unfold takeChainWrites
  rw [none]
  rfl

theorem chainOutput_of_inputs {s : State} {c : ChainId} {bits : List Bool} {x : Int × Nat × Nat} {xs : List (Int × Nat × Nat)}
    (on_ : chainOn s c = true) (sound : s.acq.chain[c].checkFailed = false) (due : nextInputs s c bits = x :: xs) :
    chainOutput c bits s = takeChainWrites c (chainStepOut c (x :: xs) s) := by
  refine (if_neg (by rw [on_, sound]; decide)).trans ?_
  rw [due]

theorem chainOutput_of_no_inputs {s : State} {c : ChainId} {bits : List Bool} (on_ : chainOn s c = true)
    (sound : s.acq.chain[c].checkFailed = false) (few : nextInputs s c bits = []) : chainOutput c bits s = s := by
  refine (if_neg (by rw [on_, sound]; decide)).trans ?_
  rw [few]

theorem chainOutput_taken {s : State} {c : ChainId} {bits : List Bool} {x : Int × Nat × Nat} {xs : List (Int × Nat × Nat)}
    (alive : s.alive .sample = true) (on_ : chainOn s c = true) (sound : s.acq.chain[c].checkFailed = false)
    (none : s.commitWrites = []) (due : nextInputs s c bits = x :: xs) :
    Completes (.chainOutput c bits) s fun t =>
      OutputTaken s c (xs.length + 1) (((x :: xs).getLastD x).2.2 - chainDelay s c) t.acq.chain[c] := by
  have writes : (chainStepOut c (x :: xs) s).commitWrites = [] := ((keeps_chainStepOut c _ s).same .commitWrites rfl).trans none
  have output : chainOutput c bits s = chainStepOut c (x :: xs) s :=
    (chainOutput_of_inputs on_ sound due).trans (takeChainWrites_of_none writes c)
  refine ⟨_, congrArg Host.Outcome.next ((State.on_of_alive alive _).trans output), ?_⟩
  have taken := chainStepOut_taken c (x :: xs) s
  rw [List.getLast?_eq_some_getLast (List.cons_ne_nil x xs)] at taken
  rw [List.getLastD_eq_getLast?, List.getLast?_eq_some_getLast (List.cons_ne_nil x xs)]
  exact taken

theorem chainOutput_without_inputs {s : State} {c : ChainId} {bits : List Bool} (on_ : chainOn s c = true)
    (sound : s.acq.chain[c].checkFailed = false) (few : nextInputs s c bits = []) : Completes (.chainOutput c bits) s fun t => t = s := by
  refine ⟨_, rfl, ?_⟩
  unfold State.on
  rw [chainOutput_of_no_inputs on_ sound few, ite_self]

/-! ### Bank switches (R250) -/

theorem bankSwitch_waits {s : State} {c : ChainId} {inst : Nat} {w : Writer} (served : s.serves w .sample = true)
    (still : s.acq.chain[c].switch_ = none) (settled : s.acq.chain[c].fade = none) (near : inst ≤ s.replicaOf .sample + 2147483648) :
    Completes (.bankSwitch c inst w) s fun t =>
      t.acq.chain[c].switch_ = some (if inst ≠ 0 ∧ inst ≤ s.acq.chain[c].lastStamp then 0 else inst) := by
  have taken : ∃ u, bankSwitchCmd c inst s = (true, u) ∧
      u.acq.chain[c].switch_ = some (if inst ≠ 0 ∧ inst ≤ s.acq.chain[c].lastStamp then 0 else inst) := by
    unfold bankSwitchCmd
    extract_lets h late noted
    refine ⟨_, (if_neg (by rw [still, settled]; decide)).trans (if_neg (by simpa [implausible] using near)), ?_⟩
    rw [State.modChain_at]
    simp [late, h]
  obtain ⟨u, issued, waits⟩ := taken
  have effect : owned w (fun s => accepted (bankSwitchCmd c inst s)) s = (0, u) := by
    rw [owned_served served, issued]
    rfl
  obtain ⟨tx, net, answered⟩ := request_accepted_shape served (Obj.ACQ_FC_SWITCH c) effect
  exact ⟨_, congrArg Host.Outcome.next answered, waits⟩

theorem bankSwitch_refused {s : State} {c : ChainId} {w : Writer} (inst : Nat) (served : s.serves w .sample = true)
    (busy : s.acq.chain[c].switch_ ≠ none ∨ s.acq.chain[c].fade ≠ none) :
    Completes (.bankSwitch c inst w) s fun t => t.acq = s.acq := by
  have refused : bankSwitchCmd c inst s = (false, s) := by
    unfold bankSwitchCmd
    exact if_pos (by simpa [Option.isSome_iff_ne_none] using busy)
  have effect : (owned w (fun s => accepted (bankSwitchCmd c inst s)) s).2 = s := by
    rw [owned_served served, refused]
    rfl
  obtain ⟨u, left, tx, objs, net, answered⟩ :=
    request_shape w (Obj.ACQ_FC_SWITCH c) .sample (owned w fun s => accepted (bankSwitchCmd c inst s)) s
  refine ⟨_, congrArg Host.Outcome.next answered, ?_⟩
  rw [effect, or_self] at left
  rw [left]

theorem bankFadeEnd_switches {s : State} {c : ChainId} {k : Nat} (alive : s.alive .sample = true) (fades : s.acq.chain[c].fade = some k)
    (past : s.objN (Obj.ACQ_FC_FADE c) ≤ k) : Completes (.bankFadeEnd c) s fun t =>
      t.acq.chain[c].fade = none ∧ t.acq.chain[c].active = !s.acq.chain[c].active := by
  refine ⟨_, congrArg Host.Outcome.next (State.on_of_alive alive _), ?_⟩
  rw [fades]
  dsimp only
  rw [if_neg (Nat.not_lt.2 past)]
  exact ⟨congrArg ChainSt.fade (vset_self _ c _ c.isLt), congrArg ChainSt.active (vset_self _ c _ c.isLt)⟩

/-- Settles O26, clause by clause from the lemmas above. -/
theorem conversionsAndChains : Obligations.ConversionsAndChains := by
  unfold Obligations.ConversionsAndChains
  refine ⟨?grid, ?single, ?timer, ?calStart, ?calEnd, ?output, ?few, ?switch_, ?busy, ?fadeEnd⟩
  case grid => exact fun _ _ raw alive continuous grid fresh _ => conversionComplete_grid raw alive continuous grid fresh
  case single => exact fun _ _ raw _ alive single conv past => conversionComplete_single raw alive single conv past
  case timer => exact fun _ _ _ _ alive event fresh bound free => acqTimerEvent_starts alive event fresh bound free
  case calStart => exact fun _ _ served service ready free => acqSelfCal_starts served service ready free
  case calEnd => exact fun _ _ _ alive runs long passed room => selfCalComplete_ends alive runs long passed room
  case output =>
    intro s c bits x xs alive on_ sound none due
    obtain ⟨t, answers, taken⟩ := chainOutput_taken alive on_ sound none due
    refine ⟨t, answers, taken.lastStamp, taken.queue, taken.unsettled, taken.late, taken.newest.trans (congrArg some taken.lastStamp.symm),
      fun still settled => ?_⟩
    exact Prod.mk.inj (taken.bank.trans (congrArg Prod.snd (fadeStep_idle still settled _)))
  case few => exact fun _ _ _ on_ sound few => chainOutput_without_inputs on_ sound few
  case switch_ => exact fun _ _ _ _ served still settled near => bankSwitch_waits served still settled near
  case busy => exact fun _ _ inst _ served busy => bankSwitch_refused inst served busy
  case fadeEnd => exact fun _ _ _ alive fades past => bankFadeEnd_switches alive fades past

end Sys2Proof.Machine
end

section
/-!
PROOF. Diagnosis and restore (R240, R244), tracking (R241), substitution (R243) and the faults of the sigma-delta inputs (R246).
-/

namespace Sys2Proof.Machine

/-! ### Diagnosis and restore (R240, R244) -/

theorem acqDiag_starts {s : State} {c : AdcId} {w : Writer} (served : s.serves w .sample = true) (fits : diagAccepted s c w = true) :
    Completes (.acqDiag c w) s fun t => t.acq.diag = some (c, s.now, none) := by
  have started : acqDiag c w s = (0, startPathDiag c none s) := if_pos fits
  obtain ⟨tx, net, answered⟩ := request_accepted_shape served Obj.ACQ_CMD started
  exact ⟨_, congrArg Host.Outcome.next answered, rfl⟩

/-- A RESTORE that is taken up starts its diagnosis, and its answer waits (R244). -/
theorem acqRestore_starts {s : State} {c : AdcId} {w : Writer} (served : s.serves w .sample = true)
    (fits : restoreAccepted s c w = true) :
    Completes (.acqRestore c w) s fun t => t.acq.diag = some (c, s.now, some w) ∧ t.acq.adc = s.acq.adc := by
  simp only [State.serves, Bool.and_eq_true] at served
  obtain ⟨⟨⟨⟨reaches, house⟩, sample⟩, -⟩, -⟩ := served
  exact ⟨_, congrArg Host.Outcome.next (if_pos (by rw [fits, reaches, house, sample]; decide)), rfl, rfl⟩

/-- A diagnosis has ended and its deviation is shown, before what follows from it. -/
def diagShown (c : AdcId) (deviation : Rat) (s : State) : State :=
  (((s.modAcq fun a => { a with diag := none }).setBit Obj.ACQ_STATUS 2 false).setR (Obj.ACQ_DIAG_ERROR c) (r32 deviation)).setBit
    (Obj.ACQ_CH_STATUS c) 11 (decide (mkRat 2 10 < deviation))

/-- ACQ_STATUS, ACQ_DIAG_ERROR, ACQ_CH_STATUS, the running diagnosis, the converters, the log. -/
abbrev diagParts : Nat :=
  0x22000000000000000000000000000000000000000000000000000000000000000000000004000000000000000000000000000000802800000100

theorem keeps_diagShown (c : AdcId) (deviation : Rat) (s : State) : Keeps diagParts s (diagShown c deviation s) := by
  refine .setBit .ACQ_CH_STATUS (group_ACQ_CH_STATUS c) (by decide) 11 _ (.setR .ACQ_DIAG_ERROR (group_ACQ_DIAG_ERROR c) (by decide) _
    (.setBit .ACQ_STATUS group_ACQ_STATUS (by decide) 2 false
      (.modAcq (AcqField.upd_of fun f _ e => ?_) (.refl s))))
  cases f
  case diag => exact Keeps.no rfl e
  all_goals rfl

theorem group_ACQ_CH_SUBST (c : AdcId) : objGroup (Obj.ACQ_CH_SUBST c) = .acq := by
  revert c
  decide +kernel

theorem Keeps.substKind {F : Nat} {s t : State} (h : Keeps F s t) (acq : F.testBit (Part.obj .acq).bit = false)
    (mod : F.testBit (Part.obj .mod).bit = false) (c : AdcId) : substKind t c = substKind s c :=
  h.field' _ _ _ (by rwa [group_ACQ_CH_SUBST]) mod

theorem Keeps.hasSubstitute {F : Nat} {s t : State} (h : Keeps F s t) (acq : F.testBit (Part.obj .acq).bit = false)
    (mod : F.testBit (Part.obj .mod).bit = false) (c : AdcId) : hasSubstitute t c = hasSubstitute s c := by
  simp only [Machine.hasSubstitute, h.substKind acq mod]

/-- Where ACQ_CH_SUBST allows, a cause waits for the channel's next boundary (R243). -/
theorem substitute_waits {s : State} {c : AdcId} (allowed : hasSubstitute s c = true) (free : s.acq.adc[c].subst = false) (cause : Nat) :
    (substitute c cause s).acq.adc[c].substCause = some cause := by
  unfold substitute
  rw [allowed, free, if_pos (by decide), State.modAdc_at]

theorem acqDiagComplete_of_failed {s : State} {r : DacReading} {c : AdcId} {at_ : Nat} (alive : s.alive .sample = true)
    (runs : s.acq.diag = some (c, at_, none)) (long : 3 * cyclesMs ≤ s.since at_) (fails : mkRat 2 10 < diagDeviation s c r) :
    exec (.acqDiagComplete r) s =
      .next (substitute c 2 ((diagShown c (diagDeviation s c r) s).log 0x4004 [c.val + 1, diagDeviation s c r])) := by
  refine congrArg Host.Outcome.next ((State.on_of_alive alive _).trans ?_)
  rw [runs]
  dsimp only
  rw [if_neg (Nat.not_lt.2 long)]
  exact if_pos (decide_eq_true fails)

theorem acqDiagComplete_fails {s : State} {r : DacReading} {c : AdcId} {at_ : Nat} (alive : s.alive .sample = true)
    (runs : s.acq.diag = some (c, at_, none)) (long : 3 * cyclesMs ≤ s.since at_) (fails : mkRat 2 10 < diagDeviation s c r)
    (room : s.hasRoom 1 = true) : Completes (.acqDiagComplete r) s fun t => t.acq.diag = none ∧
      (hasSubstitute s c = true → s.acq.adc[c].subst = false → t.acq.adc[c].substCause = some 2) ∧
      newEvent s t 0x4004 [c.val + 1, diagDeviation s c r] = true := by
  refine ⟨_, acqDiagComplete_of_failed alive runs long fails, ?_⟩
  generalize diagDeviation s c r = deviation
  have asks := keeps_substitute c 2 ((diagShown c deviation s).log 0x4004 [c.val + 1, deviation])
  have logged : Keeps diagParts s ((diagShown c deviation s).log 0x4004 [c.val + 1, deviation]) :=
    .step (keeps_State_log _ _ _) (by decide) (keeps_diagShown c deviation s)
  have acq : ((diagShown c deviation s).log 0x4004 [c.val + 1, deviation]).acq = { s.acq with diag := none } := State.log_acq ..
  refine ⟨(asks.same (.acq .diag) rfl).trans (congrArg AcqSt.diag acq), fun allowed free => ?_,
    newEvent_keeps asks rfl (newEvent_log (hasRoom_eq room rfl) (le_refl _) rfl)⟩
  exact substitute_waits ((logged.hasSubstitute rfl rfl c).trans allowed) (by rw [acq]; exact free) 2

/-- SRV_STATUS. -/
abbrev srvStatusParts : Nat := 0x80000000000000000000000000000000000000000000000000000000

theorem keeps_substitutingShown (s : State) : Keeps srvStatusParts s (allStages.foldl showSubstituting s) :=
  .foldl allStages (fun u n h => .step (keeps_showSubstituting u n) (by decide) h) (.refl s)

theorem endSubst_ends (c : AdcId) (s : State) : (endSubst c s).acq.adc[c].subst = false := by
  unfold endSubst
  extract_lets ended shown
  have own : shown.acq.adc = ended.acq.adc := (keeps_substitutingShown ended).same (.acq .adc) rfl
  rw [showAcq_acq, stepReaders_adc, State.log_acq, own]
  exact congrArg AdcSt.subst (vset_self _ c _ c.isLt)

theorem endSubst_event {s u : State} (c : AdcId) (room : u.hasRoom 1 = true) (seq : s.logSeq ≤ u.logSeq) (mt : u.isl.mt = s.isl.mt) :
    newEvent s (endSubst c u) 0x4006 [c.val + 1] = true := by
  unfold endSubst
  extract_lets ended shown
  have keeps : Keeps srvStatusParts ended shown := keeps_substitutingShown ended
  have buffer : shown.logBuf = u.logBuf := (keeps.same .log rfl).1
  have event : newEvent s (shown.log 0x4006 [c.val + 1]) 0x4006 [c.val + 1] = true :=
    newEvent_log (hasRoom_eq room buffer) (seq.trans keeps.seq) ((keeps.same (.isl .mt) rfl).trans mt)
  exact newEvent_keeps (keeps_showAcq _) rfl (newEvent_keeps (keeps_stepReaders _ _) rfl event)

theorem acqDiagComplete_of_passed {s : State} {r : DacReading} {c : AdcId} {at_ : Nat} {w : Writer} (alive : s.alive .sample = true)
    (runs : s.acq.diag = some (c, at_, some w)) (long : 3 * cyclesMs ≤ s.since at_) (passes : diagDeviation s c r ≤ mkRat 2 10) :
    exec (.acqDiagComplete r) s = .next ((endSubst c (diagShown c (diagDeviation s c r) s)).reply w Obj.ACQ_CMD 0) := by
  have passed : decide (mkRat 2 10 < diagDeviation s c r) = false := decide_eq_false (not_lt.2 passes)
  refine congrArg Host.Outcome.next ((State.on_of_alive alive _).trans ?_)
  rw [runs]
  dsimp only
  rw [if_neg (Nat.not_lt.2 long), passed, if_neg Bool.false_ne_true, if_neg Bool.false_ne_true, diagShown, passed]

theorem acqDiagComplete_restores {s : State} {r : DacReading} {c : AdcId} {at_ : Nat} {w : Writer} (alive : s.alive .sample = true)
    (runs : s.acq.diag = some (c, at_, some w)) (long : 3 * cyclesMs ≤ s.since at_) (passes : diagDeviation s c r ≤ mkRat 2 10)
    (room : s.hasRoom 1 = true) : Completes (.acqDiagComplete r) s fun t =>
      t.acq.diag = none ∧ t.acq.adc[c].subst = false ∧ newEvent s t 0x4006 [c.val + 1] = true := by
  refine ⟨_, acqDiagComplete_of_passed alive runs long passes, ?_⟩
  generalize diagDeviation s c r = deviation
  obtain ⟨tx, net, answered⟩ := State.reply_accepted (endSubst c (diagShown c deviation s)) w Obj.ACQ_CMD
  have event : newEvent s (endSubst c (diagShown c deviation s)) 0x4006 [c.val + 1] = true :=
    endSubst_event c (hasRoom_eq room rfl) (le_refl _) rfl
  have path : (endSubst c (diagShown c deviation s)).acq.diag = none := (keeps_endSubst c (diagShown c deviation s)).same (.acq .diag) rfl
  rw [answered]
  exact ⟨path, endSubst_ends c (diagShown c deviation s), newEvent_congr rfl event⟩

/-! ### Tracking (R241) -/

/-- A cause of substitution leaves the drift estimate and the time of the last tracking sample alone. -/
theorem substitute_tracking (c : AdcId) (cause : Nat) (s : State) :
    ((substitute c cause s).acq.adc[c].drift, (substitute c cause s).acq.adc[c].trackAt) =
      (s.acq.adc[c].drift, s.acq.adc[c].trackAt) := by
  unfold substitute
  split
  · rw [State.modAdc_at]
  · rfl

theorem trackingSample_tracks {s : State} {c : AdcId} (m : Rat) (alive : s.alive .sample = true)
    (tracks : s.bit (Obj.ACQ_CH_CFG c) 6 = true) (paused : startType s c ≠ 0) (unread : readBy s c.val = false) (free : dacBusy s = false)
    (idle : idleSlots s c = true) : Completes (.trackingSample c m) s fun t =>
      t.acq.adc[c].drift = r32 (s.acq.adc[c].drift + (m - s.acq.adc[c].drift) / 256) ∧ t.acq.adc[c].trackAt = s.now := by
  refine ⟨_, congrArg Host.Outcome.next ((State.on_of_alive alive _).trans (if_neg ?_)), ?_⟩
  · rw [tracks, beq_eq_false_iff_ne.2 paused, unread, free, idle]
    decide
  extract_lets a d lim overc cal target room off was tracked shown
  have own : shown.acq.adc[c] = { s.acq.adc[c] with drift := d, offset := off, trackAt := s.now } := vset_self _ c _ c.isLt
  split
  · have asks := substitute_tracking c 3 (shown.log 0x4003 [c.val + 1, d])
    rw [State.log_acq, own] at asks
    exact Prod.mk.inj asks
  · exact ⟨congrArg AdcSt.drift own, congrArg AdcSt.trackAt own⟩

/-! ### Substitution (R243) -/

/-- The substitute has taken the channel's place, with the history formed anew, before the event. -/
def substituted (c : AdcId) (hist : List (Nat × Int × Nat)) (s : State) : State :=
  (s.modAdc c fun a => { a with subst := true, substCause := none, hist := hist }).setBit (Obj.ACQ_CH_STATUS c) 9 true

theorem keeps_substituted (c : AdcId) (hist : List (Nat × Int × Nat)) (s : State) : Keeps diagParts s (substituted c hist s) :=
  .setBit .ACQ_CH_STATUS (group_ACQ_CH_STATUS c) (by decide) 9 true (.step (keeps_State_modAdc _ _ _) (by decide) (.refl s))

/-- The comparator sources of a channel. -/
def upperSrc (c : AdcId) : SrcId := ⟨8 + 2 * c.val, by omega⟩
def lowerSrc (c : AdcId) : SrcId := ⟨9 + 2 * c.val, by omega⟩

/-- What follows the event of a substitution: both comparator sources are inactive, and the chains step. -/
def substitutionSettled (c : AdcId) (s : State) : State :=
  showAcq (stepReaders c.val (sourceInactive (lowerSrc c) (sourceInactive (upperSrc c) s)))

/-- Sources, chains, and what shows them. -/
abbrev settledParts : Nat :=
  0x4000080000000000000000000000000000000000000000000000000000000000000000000000000000000000000000002030000820000000000

theorem keeps_substitutionSettled (c : AdcId) (s : State) : Keeps settledParts s (substitutionSettled c s) :=
  .step (keeps_showAcq _) (by decide) (.step (keeps_stepReaders _ _) (by decide) (.step (keeps_sourceInactive _ _) (by decide)
    (.step (keeps_sourceInactive _ _) (by decide) (.refl s))))

theorem sourceInactive_active (src : SrcId) (s : State) : (sourceInactive src s).edg.active = s.edg.active.filter fun x => x != src := by
  unfold sourceInactive
  rw [foldl_showGroup_edg, showSources_active]
  rfl

theorem substitutionSettled_inactive {c : AdcId} {s : State} {x : SrcId} (active : x ∈ (substitutionSettled c s).edg.active) :
    x.val ≠ 8 + 2 * c.val ∧ x.val ≠ 9 + 2 * c.val := by
  have sources : (substitutionSettled c s).edg.active = (sourceInactive (lowerSrc c) (sourceInactive (upperSrc c) s)).edg.active :=
    (keeps_stepReaders c.val _).same (.edg .active) rfl
  simp only [sources, sourceInactive_active, List.mem_filter, bne_iff_ne] at active
  obtain ⟨⟨-, upper⟩, lower⟩ := active
  exact ⟨fun e => upper (Fin.ext e), fun e => lower (Fin.ext e)⟩

theorem substitutionApply_at_boundary {s : State} {c : AdcId} {cause : Nat} (alive : s.alive .sample = true)
    (boundary : atBoundary s c = true) (waits : s.acq.adc[c].substCause = some cause) : ∃ hist, exec (.substitutionApply c) s =
      .next (substitutionSettled c ((substituted c hist s).log 0x4005 [c.val + 1, substKind s c, cause])) := by
  have shape : ∃ hist, exec (.substitutionApply c) s = .next (substitutionSettled c ((substituted c hist s).log 0x4005
      [c.val + 1, substKind (substituted c hist s) c, cause])) := by
    refine Exists.imp (fun _ e => congrArg Host.Outcome.next
      ((State.on_of_alive alive _).trans ((if_neg (by rw [boundary]; decide)).trans e))) ?_
    rw [waits]
    exact ⟨_, rfl⟩
  obtain ⟨hist, applied⟩ := shape
  exact ⟨hist, by rw [applied, (keeps_substituted c hist s).substKind rfl rfl c]⟩

theorem substitutionApply_applies {s : State} {c : AdcId} {cause : Nat} (alive : s.alive .sample = true)
    (boundary : atBoundary s c = true) (waits : s.acq.adc[c].substCause = some cause) (room : s.hasRoom 1 = true) :
    Completes (.substitutionApply c) s fun t => t.acq.adc[c].subst = true ∧ t.acq.adc[c].substCause = none ∧
      (∀ x ∈ t.edg.active, x.val ≠ 8 + 2 * c.val ∧ x.val ≠ 9 + 2 * c.val) ∧
      newEvent s t 0x4005 [c.val + 1, substKind s c, cause] = true := by
  obtain ⟨hist, applied⟩ := substitutionApply_at_boundary alive boundary waits
  refine ⟨_, applied, ?_⟩
  generalize [(c.val + 1 : Rat), (substKind s c : Rat), (cause : Rat)] = data
  have settled := keeps_substitutionSettled c ((substituted c hist s).log 0x4005 data)
  have own : (substitutionSettled c ((substituted c hist s).log 0x4005 data)).acq.adc[c] =
      { s.acq.adc[c] with subst := true, substCause := none, hist := hist } := by
    rw [settled.same (.acq .adc) rfl, State.log_acq]
    exact vset_self _ c _ c.isLt
  rw [own]
  exact ⟨rfl, rfl, fun _ active => substitutionSettled_inactive active,
    newEvent_keeps settled rfl (newEvent_log (hasRoom_eq room rfl) (le_refl _) rfl)⟩

/-! ### Sigma-delta inputs (R246) -/

theorem sdFault_detects {s : State} {k : SdId} {quiet same : Nat} (alive : s.alive .sample = true)
    (used : s.bit (Obj.ACQ_SD_CFG k) 0 = true) (sound : s.acq.sdFault[k] = false)
    (faulty : ((sdQuiet s k).any fun q => decide (q ≤ (quiet : Rat))) = true ∨ 128 ≤ same) (room : s.hasRoom 1 = true) :
    Completes (.sdFault k ⟨quiet, same⟩) s fun t => t.acq.sdFault[k] = true ∧
      newEvent s t 0x4007 [k.val + 1, boolNat (decide (128 ≤ same))] = true := by
  refine ⟨_, congrArg Host.Outcome.next (State.on_of_alive alive _), ?_⟩
  extract_lets lost stuck marked shown
  have clock : lost = (sdQuiet s k).any fun q => decide (q ≤ (quiet : Rat)) := by
    unfold lost
    cases sdQuiet s k <;> rfl
  have reported : (lost || stuck) = true := by
    rw [Bool.or_eq_true, clock]
    exact faulty.imp_right decide_eq_true
  rw [if_neg (by rw [used, sound, reported]; decide)]
  have event : newEvent s (shown.log 0x4007 [k.val + 1, boolNat stuck]) 0x4007 [k.val + 1, boolNat stuck] = true :=
    newEvent_log (hasRoom_eq room rfl) (le_refl _) rfl
  refine ⟨?_, newEvent_keeps (keeps_showAcq _) rfl event⟩
  rw [showAcq_acq, State.log_acq]
  exact vset_self _ k _ k.isLt

theorem sdFaultEnd_ends {s : State} {k : SdId} {good : Nat} (alive : s.alive .sample = true) (faulty : s.acq.sdFault[k] = true)
    (long : 256 ≤ good) : Completes (.sdFaultEnd ⟨k, good⟩) s fun t =>
      t.acq.sdFault[k] = false ∧ ∀ j : SdId, j ≠ k → t.acq.sdFault[j] = s.acq.sdFault[j] := by
  refine ⟨_, congrArg Host.Outcome.next ((State.on_of_alive alive _).trans (if_neg ?_)), ?_⟩
  · rw [faulty, decide_eq_false (Nat.not_lt.2 long)]
    decide
  extract_lets sound
  have faults : (showAcq (stepReaders (24 + k.val) sound)).acq.sdFault = s.acq.sdFault.set k false :=
    (keeps_stepReaders _ sound).same (.acq .sdFault) rfl
  exact ⟨(congrArg (·[k]) faults).trans (vset_self _ k _ k.isLt),
    fun j ne => (congrArg (·[j]) faults).trans ((vset_at _ k j _ k.isLt).trans (if_neg ne.symm))⟩

/-- Settles O27, clause by clause from the lemmas above. -/
theorem diagnosisAndSubstitution : Obligations.DiagnosisAndSubstitution := by
  unfold Obligations.DiagnosisAndSubstitution
  refine ⟨?diag, ?restore, ?fails, ?passes, ?tracks, ?applies, ?faulty, ?good⟩
  case diag => exact fun _ _ _ served fits => acqDiag_starts served fits
  case restore => exact fun _ _ _ served fits => acqRestore_starts served fits
  case fails => exact fun _ _ _ _ alive runs long fails room => acqDiagComplete_fails alive runs long fails room
  case passes => exact fun _ _ _ _ _ alive runs long passes room => acqDiagComplete_restores alive runs long passes room
  case tracks => exact fun _ _ m alive tracks paused unread free idle => trackingSample_tracks m alive tracks paused unread free idle
  case applies => exact fun _ _ _ alive boundary waits room => substitutionApply_applies alive boundary waits room
  case faulty => exact fun _ _ _ _ alive used sound faulty room => sdFault_detects alive used sound faulty room
  case good => exact fun _ _ _ alive faulty long => sdFaultEnd_ends alive faulty long

end Sys2Proof.Machine
end

section
/-!
PROOF. What no step loses (R317, R352, R390, R393, R394): the event log, the saved values and the running program move only with the
commands whose footprint holds them, and every step keeps the invariant; and a command whose list of parts leaves out what it counts.
-/

namespace Sys2Proof.Machine

-- One declaration after another, so that the whole text compiles within its memory.
set_option Elab.async false

/-! ### Which footprints hold the log's records, the saved values and the running program -/

/-- A footprint with which records may leave the log's buffer is that of a command of `mayLoseRecords`. -/
theorem footprint_buffer (c : Instr) : ((footprint c).testBit Part.buffer.bit && !mayLoseRecords c) = false := by
  cases c <;> (dsimp only [footprint, mayLoseRecords]; rfl)

/-- A footprint that holds the saved values is that of a command of `maySave`. -/
theorem footprint_saved (c : Instr) : ((footprint c).testBit Part.saved.bit && !maySave c) = false := by
  cases c <;> (dsimp only [footprint, maySave]; rfl)

/-- A footprint that holds the running program is that of a command of `mayExchange`. -/
theorem footprint_program (c : Instr) : ((footprint c).testBit (Part.lgc .program).bit && !mayExchange c) = false := by
  cases c <;> (dsimp only [footprint, mayExchange]; rfl)

theorem mayLoseRecords_of_record_lost {c : Instr} {s t : State} {r : LogRec} (h : exec c s = .next t) (stood : r ∈ s.logBuf)
    (lost : r ∉ t.logBuf) : mayLoseRecords c = true := by
  have bit : (footprint c).testBit Part.buffer.bit = true := testBit_footprint_of_not_same h fun keep => lost (keep r stood)
  simpa [bit] using footprint_buffer c

theorem maySave_of_saved_moved {c : Instr} {s t : State} (h : exec c s = .next t) (moved : t.saved ≠ s.saved) : maySave c = true := by
  have bit : (footprint c).testBit Part.saved.bit = true := testBit_footprint_of_not_same h moved
  simpa [bit] using footprint_saved c

theorem mayExchange_of_program_moved {c : Instr} {s t : State} (h : exec c s = .next t) (moved : t.lgc.program ≠ s.lgc.program) :
    mayExchange c = true := by
  have bit : (footprint c).testBit (Part.lgc .program).bit = true := testBit_footprint_of_not_same h moved
  simpa [bit] using footprint_program c

/-- Settles O8: records, saved values and the running program stand in the footprints of the named commands alone, and a core cycle moves
module time only. -/
theorem recordsStay : Obligations.RecordsStay := by
  unfold Obligations.RecordsStay
  refine ⟨?records, ?saved, ?program⟩
  case records =>
    intro s t r h stood lost
    rcases step_cases h with ⟨-, rfl⟩ | ⟨c, rest, front, run⟩
    · obtain ⟨m, cycle⟩ := tick_keeps s
      rw [cycle] at lost
      exact absurd stood lost
    · exact ⟨c, rest, front, mayLoseRecords_of_record_lost run stood lost⟩
  case saved =>
    intro s t h moved
    rcases step_cases h with ⟨-, rfl⟩ | ⟨c, rest, front, run⟩
    · obtain ⟨m, cycle⟩ := tick_keeps s
      rw [cycle] at moved
      exact absurd rfl moved
    · exact ⟨c, rest, front, maySave_of_saved_moved run moved⟩
  case program =>
    intro s t h moved
    rcases step_cases h with ⟨-, rfl⟩ | ⟨c, rest, front, run⟩
    · obtain ⟨m, cycle⟩ := tick_keeps s
      rw [cycle] at moved
      exact absurd rfl moved
    · exact ⟨c, rest, front, mayExchange_of_program_moved run moved⟩

/-! ### The invariant at reset and through every step -/

/-- Settles O3: after reset nothing is stored, saved or logged. -/
theorem invariantAtReset : Obligations.InvariantAtReset := by
  unfold Obligations.InvariantAtReset
  exact ⟨rfl, rfl, ⟨List.Pairwise.nil, fun _ none => absurd none List.not_mem_nil, Nat.zero_le _⟩⟩

/-- The invariant speaks of the stores and the log alone. -/
theorem Inv.of_same {s t : State} (inv : Inv s) (objs : t.objs = s.objs) (saved : t.saved = s.saved) (seq : t.logSeq = s.logSeq)
    (buf : t.logBuf = s.logBuf) (flash : t.logFlash = s.logFlash) : Inv t :=
  ⟨objs ▸ inv.objs, saved ▸ inv.saved, ⟨by rw [buf, flash]; exact inv.log.rising, by rw [buf, flash, seq]; exact inv.log.below,
    buf ▸ inv.log.room⟩⟩

/-- Settles O4: a core cycle moves module time only, and every command keeps the invariant and the log's numbering. -/
theorem stepKeepsInvariant : Obligations.StepKeepsInvariant := by
  unfold Obligations.StepKeepsInvariant
  intro s t inv h
  rcases step_cases h with ⟨-, rfl⟩ | ⟨c, rest, -, run⟩
  · obtain ⟨m, cycle⟩ := tick_keeps s
    rw [cycle]
    exact ⟨inv.of_same rfl rfl rfl rfl rfl, Nat.le_refl _⟩
  · have keeps := (keeps_exec c { s with pending := rest }).out t run
    exact ⟨keeps.inv (inv.of_same rfl rfl rfl rfl rfl), keeps.seq⟩

/-! ### The frame of every command -/

/-- A word of the Clauz link that reaches the housekeeping island with a failed check, on a module in FORM. -/
theorem poisonedLinkWord_counts : Completes (.jointWordArrival .link .house true 0) (live .form) fun t =>
    t.objN Obj.TWN_LINK_ERRORS = (live .form).objN Obj.TWN_LINK_ERRORS + 1 := by
  obtain ⟨t, run, -, -, counted⟩ := jointWordArrival_poisoned (s := live .form) (src := .link) (dst := .house) 0 rfl rfl (Nat.zero_lt_succ _)
  exact ⟨t, run, counted rfl⟩

/-- Refutes O9: a poisoned word of the Clauz link counts in TWN_LINK_ERRORS (R402), which the parts listed for JOINT_WORD_ARRIVAL lack. -/
theorem not_frameOfEveryCommand : ¬ Obligations.FrameOfEveryCommand := by
  unfold Obligations.FrameOfEveryCommand
  intro frames
  obtain ⟨t, run, counted⟩ := poisonedLinkWord_counts
  obtain ⟨u, same_run, same⟩ := frames (.jointWordArrival .link .house true 0) (live .form)
  obtain rfl : t = u := by injection run.symm.trans same_run
  have kept : cellGet Obj.TWN_LINK_ERRORS t.objs = cellGet Obj.TWN_LINK_ERRORS (live .form).objs :=
    same (.obj .TWN_LINK_ERRORS) (by decide +kernel) _ group_TWN_LINK_ERRORS
  have unchanged : t.objN Obj.TWN_LINK_ERRORS = (live .form).objN Obj.TWN_LINK_ERRORS := by
    simp only [State.objN, State.obj, kept, defaultAt_TWN_LINK_ERRORS, Option.getD_some]
  omega

end Sys2Proof.Machine
end

section
/-!
PROOF. A gallery's datagram while power throttling paces the datagrams of its port (R269): the model lets it wait behind that of another
gallery, where the statement has it sent.
-/

namespace Sys2Proof.Machine

-- One declaration after another, so that the whole text compiles within its memory.
set_option Elab.async false

/-- A gallery whose port is paced keeps its datagram. -/
theorem sendDatagram_paced {s : State} {p : StageId} (waits : paced s (s.objN (Obj.GAL_DEST_PORT p)) = true) : sendDatagram p s = s := by
  unfold sendDatagram
  extract_lets g port
  split
  · rfl
  · exact if_pos (by rw [waits, Bool.or_true])

/-- An age timeout at a paced port changes nothing. -/
theorem datagramAgeTimeout_paced {s : State} {p : StageId} (waits : paced s (s.objN (Obj.GAL_DEST_PORT p)) = true) :
    exec (.datagramAgeTimeout p) s = .next s := by
  refine congrArg Host.Outcome.next ?_
  unfold State.on
  dsimp only
  split
  · split
    · rfl
    · exact sendDatagram_paced waits
  · rfl

/-- Galleries 0 and 1 stream to port E3, which has its link, under power throttling; each holds a datagram with one record of instant 0. -/
def twoStreams : State :=
  (((((live .form).linked.setN (Obj.GAL_DEST_PORT 0) 3).setN (Obj.GAL_DEST_PORT 1) 3).setN Obj.THM_THROTTLE_STEP 1).modGal 0
    fun g => { g with datagram := [aRecord] }).modGal 1 (fun g => { g with datagram := [aRecord] }) |>.later 500000

/-- Gallery 0 has sent its datagram. -/
def oneSent : State := sendDatagram 0 twoStreams

theorem oneSent_of_command : exec (.datagramAgeTimeout 0) twoStreams = .next oneSent :=
  congrArg Host.Outcome.next ((State.on_of_alive (by decide +kernel) _).trans (if_neg (by decide +kernel)))

theorem oneSent_meets : oneSent.alive (.pier 1) = true ∧ oneSent.gal[(1 : StageId)].datagram = [aRecord] ∧
    cyclesMs ≤ oneSent.since oneSent.gal[(1 : StageId)].openedAt ∧ portUp oneSent (oneSent.objN (Obj.GAL_DEST_PORT 1)) = true ∧
    paced oneSent (oneSent.objN (Obj.GAL_DEST_PORT 1)) = true := by decide +kernel

/-- Refutes O28: its sixth clause has a datagram whose first record is 1 ms old sent wherever the port is up. Under power throttling it waits
there as long as the port is busy with the datagram of another gallery. -/
theorem not_galleryTriggersAndStreams : ¬ Obligations.GalleryTriggersAndStreams := by
  unfold Obligations.GalleryTriggersAndStreams
  rintro ⟨-, -, -, -, -, sends, -⟩
  obtain ⟨alive, holds, old, up, waits⟩ := oneSent_meets
  obtain ⟨t, run, sent, -⟩ := sends oneSent 1 alive (by rw [holds]; exact List.cons_ne_nil _ _) old up
  obtain rfl : oneSent = t := by injection (datagramAgeTimeout_paced waits).symm.trans run
  exact List.cons_ne_nil _ _ (holds.symm.trans sent)

end Sys2Proof.Machine
end

section
/-!
PROOF. A cycle of the logic engine at a boundary (R300, R302, R318) from a store that is not in canonical form: the count of overruns in a row
does not read 0 after it was cleared, and the cycle has the island fenced in place of running.
-/

namespace Sys2Proof.Machine

-- One declaration after another, so that the whole text compiles within its memory.
set_option Elab.async false

/-- A boundary that a running engine meets in time runs its cycle. -/
theorem logicCycleBoundary_runs {s : State} (run : CycleRun) (alive : s.alive .logic = true) (runs : s.lgc.running = true)
    (active : s.standby = false) (reached : s.lgc.nextAt ≤ lgcNow s) (free : s.lgc.busyUntil ≤ s.lgc.nextAt) :
    exec (.logicCycleBoundary run) s = .next (runCycle run s) := by
  refine congrArg Host.Outcome.next ((State.on_of_alive alive _).trans ((if_neg ?_).trans (if_neg (Nat.not_lt.2 free))))
  rw [runs, show isStandby s = false from active, decide_eq_false (Nat.not_lt.2 reached)]
  decide

/-- A running engine whose store lists LGC_OVERRUN_RUN twice, below its limit and above it; a staged program waits for its exchange or not. -/
def overrunListedTwice (waits : Option Nat) : State :=
  { (live .form).modLgc fun l => { l with running := true, exchange := waits, staged := some aProgram } with
    objs := [(Obj.LGC_OVERRUN_RUN, .int 1), (Obj.LGC_OVERRUN_RUN, .int 200)] }

theorem overrunListedTwice_runs (waits : Option Nat) (run : CycleRun) :
    exec (.logicCycleBoundary run) (overrunListedTwice waits) = .next (runCycle run (overrunListedTwice waits)) :=
  logicCycleBoundary_runs run (by cases waits <;> rfl) rfl rfl (Nat.zero_le _) (Nat.zero_le _)

/-- No run from reset leads there. -/
theorem not_inv_overrunListedTwice (waits : Option Nat) : ¬Inv (overrunListedTwice waits) := fun inv =>
  absurd (show cellsWf [(Obj.LGC_OVERRUN_RUN, .int 1), (Obj.LGC_OVERRUN_RUN, .int 200)] = true from inv.objs) (by decide +kernel)

theorem overrunListedTwice_below (waits : Option Nat) :
    (overrunListedTwice waits).objN Obj.LGC_OVERRUN_RUN < (overrunListedTwice waits).objN Obj.LGC_OVERRUN_LIMIT := by
  have below : (overrunListedTwice none).objN Obj.LGC_OVERRUN_RUN < (overrunListedTwice none).objN Obj.LGC_OVERRUN_LIMIT := by decide +kernel
  exact below

theorem runCycle_overrunListedTwice_count : (runCycle idleRun (overrunListedTwice none)).lgc.image.count = 0 := by decide +kernel

theorem runCycle_overrunListedTwice_program : (runCycle idleRun (overrunListedTwice (some 0))).lgc.program = none := by decide +kernel

/-- Refutes O32: its first clause lacks the premise `Inv s`. Where the store lists LGC_OVERRUN_RUN twice, clearing it leaves the second entry,
which stands above the limit: the keystone fences the island, and the cycle is not counted. -/
theorem not_logicCyclesAndTags : ¬ Obligations.LogicCyclesAndTags := by
  unfold Obligations.LogicCyclesAndTags
  rintro ⟨cycle, -⟩
  obtain ⟨t, run, counted, -⟩ := cycle (overrunListedTwice none) idleRun rfl rfl rfl (Nat.zero_le _) (Nat.zero_le _) rfl rfl rfl rfl
    (overrunListedTwice_below none) (by decide +kernel)
  obtain rfl : runCycle idleRun (overrunListedTwice none) = t := by injection (overrunListedTwice_runs none idleRun).symm.trans run
  exact absurd (runCycle_overrunListedTwice_count.symm.trans counted) (by decide +kernel)

/-- Refutes O33: its fourth clause lacks the premise `Inv s`. From the same store the keystone fences the island before the exchange. -/
theorem not_logicPrograms : ¬ Obligations.LogicPrograms := by
  unfold Obligations.LogicPrograms
  rintro ⟨-, -, -, exchanges, -⟩
  obtain ⟨t, run, exchanged, -⟩ := exchanges (overrunListedTwice (some 0)) idleRun aProgram 0 rfl rfl rfl (Nat.zero_le _) (Nat.zero_le _)
    rfl (.inl rfl) rfl rfl (overrunListedTwice_below (some 0)) (fun _ none => absurd none List.not_mem_nil)
  obtain rfl : runCycle idleRun (overrunListedTwice (some 0)) = t := by
    injection (overrunListedTwice_runs (some 0) idleRun).symm.trans run
  rw [runCycle_overrunListedTwice_program] at exchanged
  cases exchanged

end Sys2Proof.Machine
end

section
/-!
PROOF. Chapter 12, what the protocol sends and answers (R291, R292, R293).
-/

namespace Sys2Proof.Machine

-- One declaration after another, so that the whole text compiles within its memory.
set_option Elab.async false

/-! ### Messages that the module sends at their intervals (R291, Table 12.5) -/

/-- The instant of sending is noted in its own interval alone. -/
theorem sendPtp_base (b : Fin 2) (k : Fin 3) (kind : Nat) (data : List Int) (s : State) :
    (sendPtp b k kind data s).clk.base[base3 b] =
      { s.clk.base[base3 b] with sentAt := s.clk.base[base3 b].sentAt.set k s.now } :=
  vset_self _ (base3 b) _ (base3 b).isLt

theorem sendPtp_sentAt (b : Fin 2) (k : Fin 3) (kind : Nat) (data : List Int) (s : State) :
    (sendPtp b k kind data s).clk.base[base3 b].sentAt[k] = s.now := by
  rw [sendPtp_base]
  exact vset_self _ k _ k.isLt

theorem ptpSyncTransmit_sends {s : State} {b : Fin 2} (up : domainUp s b = true) (master : s.clk.base[base3 b].gm = true)
    (due : intervalOver s b 0 = true) : Completes (.ptpSyncTransmit b) s fun t =>
      t.tx = (if s.bit (Obj.TIM_NTA_CFG b) 6 then
        [⟨domainPort s b, 25, [s.field (Obj.TIM_NTA_CFG b) 8 8, (s.clk.base[base3 b].at_ s.now).floor]⟩,
          ⟨domainPort s b, 20, [s.field (Obj.TIM_NTA_CFG b) 8 8, 1, 0]⟩]
        else [⟨domainPort s b, 20, [s.field (Obj.TIM_NTA_CFG b) 8 8, 0, (s.clk.base[base3 b].at_ s.now).floor]⟩]) ++ s.tx ∧
      t.clk.base[base3 b].st = s.clk.base[base3 b].st ∧ t.clk.base[base3 b].sentAt[(0 : Fin 3)] = s.now := by
  refine ⟨_, congrArg Host.Outcome.next (if_pos (by rw [up, master, due]; rfl)), ?_⟩
  have state (data : List Int) : (sendPtp b 0 20 data s).clk.base[base3 b].st = s.clk.base[base3 b].st := by
    rw [sendPtp_base]
  cases s.bit (Obj.TIM_NTA_CFG b) 6
  · exact ⟨rfl, state _, sendPtp_sentAt b 0 20 _ s⟩
  · exact ⟨rfl, state [1, 0], sendPtp_sentAt b 0 20 [1, 0] s⟩

theorem ptpAnnounceTransmit_sends {s : State} {b : Fin 2} (up : domainUp s b = true) (master : s.clk.base[base3 b].gm = true)
    (due : intervalOver s b 1 = true) : Completes (.ptpAnnounceTransmit b) s fun t =>
      t.tx = ⟨domainPort s b, 21, [s.field (Obj.TIM_NTA_CFG b) 8 8, 248, 0xA0, s.objN (Obj.TIM_NTA_PRIORITY b 0),
        s.objN (Obj.TIM_NTA_PRIORITY b 1)]⟩ :: s.tx ∧ t.clk.base[base3 b].sentAt[(1 : Fin 3)] = s.now :=
  ⟨_, congrArg Host.Outcome.next (if_pos (by rw [up, master, due]; rfl)), rfl, sendPtp_sentAt b 1 _ _ s⟩

theorem ptpDelayRequestTransmit_sends {s : State} {b : Fin 2} (up : domainUp s b = true)
    (peer : s.bit (Obj.TIM_NTA_CFG b) 5 = true) (due : intervalOver s b 2 = true) : Completes (.ptpDelayRequestTransmit b) s fun t =>
      t.tx = ⟨domainPort s b, 22, [s.field (Obj.TIM_NTA_CFG b) 8 8, 1]⟩ :: s.tx ∧ t.clk.base[base3 b].sentAt[(2 : Fin 3)] = s.now := by
  refine ⟨_, congrArg Host.Outcome.next (if_pos (by rw [up, peer, due]; rfl)), ?_⟩
  rw [peer]
  exact ⟨rfl, sendPtp_sentAt b 2 _ _ s⟩

/-! ### Delay messages (R291, R292) -/

theorem ptpDelayMessage_measured {s : State} {b : Fin 2} {peer : Bool} (t1 t2 t3 t4 correction : Rat) (up : domainUp s b = true)
    (configured : peer = s.bit (Obj.TIM_NTA_CFG b) 5) :
    Completes (.ptpDelayMessageReceived b (.measured peer t1 t2 t3 t4 correction)) s fun t =>
      t.clk.base[base3 b].pathDelay = some (meanDelay t1 t2 t3 t4 correction) :=
  ⟨_, congrArg Host.Outcome.next ((if_neg (by rw [up]; decide)).trans (if_pos configured)),
    congrArg BaseSt.pathDelay (vset_self _ (base3 b) _ (base3 b).isLt)⟩

theorem ptpDelayMessage_requested {s : State} {b : Fin 2} (up : domainUp s b = true) (master : s.clk.base[base3 b].gm = true)
    (endToEnd : s.bit (Obj.TIM_NTA_CFG b) 5 = false) : Completes (.ptpDelayMessageReceived b .delayReq) s fun t =>
      t.tx = ⟨domainPort s b, 23, [0, s.field (Obj.TIM_NTA_CFG b) 8 8]⟩ :: s.tx ∧ t.clk = s.clk :=
  ⟨_, congrArg Host.Outcome.next ((if_neg (by rw [up]; decide)).trans (if_pos (by rw [master, endToEnd]; rfl))), rfl, rfl⟩

/-! ### The transparent clock (R293) -/

/-- The switch passes a frame while the network island and its PLL run and the bypass relays are open. -/
theorem tcFrameForward_of_switch {s : State} {toE2 : Bool} {frame : PtpFrame} {residence : Nat} {linkDelay : Rat} {t : State}
    (alive : s.alive .network = true) (locked : s.clk.netLocked = true) (opened : s.bit Obj.NET_STATUS 0 = false)
    (passes : (if frame == .other || !s.bit Obj.TIM_TC_CFG 0 then s.send 2 24 [boolNat toE2, 0]
      else if frame == .pdelayReq && s.bit Obj.TIM_TC_CFG 1 then s.send 2 23 [1, boolNat !toE2]
      else (s.send 2 24 [boolNat toE2, tcCorrection s residence linkDelay]).bump Obj.TIM_TC_CORRECTED) = t) :
    exec (.tcFrameForward toE2 frame residence linkDelay) s = .next t :=
  congrArg Host.Outcome.next ((if_neg (by rw [alive, locked, opened]; decide)).trans passes)

theorem tcFrameForward_passes {s : State} (toE2 : Bool) {frame : PtpFrame} (residence : Nat) (linkDelay : Rat)
    (alive : s.alive .network = true) (locked : s.clk.netLocked = true) (opened : s.bit Obj.NET_STATUS 0 = false)
    (unanswered : frame ≠ .pdelayReq ∨ s.bit Obj.TIM_TC_CFG 1 = false) :
    Completes (.tcFrameForward toE2 frame residence linkDelay) s fun t =>
      t.tx = ⟨2, 24, [boolNat toE2,
        if frame = .other ∨ s.bit Obj.TIM_TC_CFG 0 = false then 0 else tcCorrection s residence linkDelay]⟩ :: s.tx ∧ t.clk = s.clk := by
  by_cases plain : frame = .other ∨ s.bit Obj.TIM_TC_CFG 0 = false
  · have test : (frame == .other || !s.bit Obj.TIM_TC_CFG 0) = true := by simpa using plain
    refine ⟨_, tcFrameForward_of_switch alive locked opened (if_pos test), ?_⟩
    rw [if_pos plain]
    exact ⟨rfl, rfl⟩
  · have test : ¬ (frame == .other || !s.bit Obj.TIM_TC_CFG 0) = true := by simpa using plain
    have peer : ¬ (frame == .pdelayReq && s.bit Obj.TIM_TC_CFG 1) = true := by
      rw [Bool.and_eq_true, beq_iff_eq, not_and_or, Bool.not_eq_true]
      exact unanswered
    refine ⟨_, tcFrameForward_of_switch alive locked opened ((if_neg test).trans (if_neg peer)), ?_⟩
    rw [if_neg plain]
    exact ⟨rfl, rfl⟩

theorem tcFrameForward_answers {s : State} (toE2 : Bool) (residence : Nat) (linkDelay : Rat) (alive : s.alive .network = true)
    (locked : s.clk.netLocked = true) (opened : s.bit Obj.NET_STATUS 0 = false) (transparent : s.bit Obj.TIM_TC_CFG 0 = true)
    (peer : s.bit Obj.TIM_TC_CFG 1 = true) : Completes (.tcFrameForward toE2 .pdelayReq residence linkDelay) s fun t =>
      t.tx = ⟨2, 23, [1, boolNat !toE2]⟩ :: s.tx ∧ t.clk = s.clk :=
  ⟨_, tcFrameForward_of_switch alive locked opened ((if_neg (by rw [transparent]; decide)).trans (if_pos (by rw [peer]; rfl))), rfl, rfl⟩

/-- Settles O29, clause by clause from the lemmas above. -/
theorem ptpTraffic : Obligations.PtpTraffic := by
  unfold Obligations.PtpTraffic
  refine ⟨?sync, ?announce, ?request, ?measured, ?answer, ?passes, ?peer⟩
  case sync => exact fun _ _ up master due => ptpSyncTransmit_sends up master due
  case announce => exact fun _ _ up master due => ptpAnnounceTransmit_sends up master due
  case request => exact fun _ _ up peer due => ptpDelayRequestTransmit_sends up peer due
  case measured => exact fun _ _ _ t1 t2 t3 t4 correction up mine => ptpDelayMessage_measured t1 t2 t3 t4 correction up mine
  case answer => exact fun _ _ up master endToEnd => ptpDelayMessage_requested up master endToEnd
  case passes => exact fun _ toE2 _ residence delay alive locked opened unanswered =>
    tcFrameForward_passes toE2 residence delay alive locked opened unanswered
  case peer => exact fun _ toE2 residence delay alive locked opened transparent peer =>
    tcFrameForward_answers toE2 residence delay alive locked opened transparent peer

end Sys2Proof.Machine
end

section
/-!
PROOF. Chapter 12, the time bases (R283 to R288): what a measurement, a segment, a step, a change of mastership and an exchange of twin time
leave of the base they speak of.
-/

namespace Sys2Proof.Machine

-- One declaration after another, so that the whole text compiles within its memory.
set_option Elab.async false

/-! ### The clocks through a footprint -/

theorem ClkField.eq_of_same {a b : ClockSt} (h : ∀ f : ClkField, f.same a b) : b = a := by
  cases a
  cases b
  simp only [ClockSt.mk.injEq]
  exact ⟨h .refOk, h .badAt, h .switchedAt, h .countedAt, h .monitoredAt, h .active, h .pllOn, h .pll, h .onB, h .netLocked, h .netLostAt,
    h .base⟩

/-- A footprint without a field of the clocks leaves them alone. -/
theorem Keeps.clk {F : Nat} {s t : State} (h : Keeps F s t) (e : ∀ f : ClkField, F.testBit f.bit = false) : t.clk = s.clk :=
  ClkField.eq_of_same fun f => h.same (.clk f) (e f)

@[simp] theorem showBase_clk (b : Fin 3) (s : State) : (showBase b s).clk = s.clk := (keeps_showBase b s).clk fun f => by cases f <;> rfl
@[simp] theorem reviewNta_clk (b : Fin 3) (s : State) : (reviewNta b s).clk = s.clk := (keeps_reviewNta b s).clk fun f => by cases f <;> rfl
@[simp] theorem lockReview_clk (s : State) : (lockReview s).clk = s.clk := (keeps_lockReview s).clk fun f => by cases f <;> rfl
@[simp] theorem claimReview_clk (n : StageId) (s : State) : (claimReview n s).clk = s.clk :=
  (keeps_claimReview n s).clk fun f => by cases f <;> rfl

@[simp] theorem State.modBase_self (b : Fin 3) (f : BaseSt → BaseSt) (s : State) : (s.modBase b f).clk.base[b] = f s.clk.base[b] :=
  vset_self _ b _ b.isLt

theorem State.modBase_other {b d : Fin 3} (ne : b ≠ d) (f : BaseSt → BaseSt) (s : State) :
    (s.modBase b f).clk.base[d] = s.clk.base[d] := (vset_at _ b d _ b.isLt).trans (if_neg ne)

@[simp] theorem State.modBase_active (b : Fin 3) (f : BaseSt → BaseSt) (s : State) : (s.modBase b f).clk.active = s.clk.active := rfl
@[simp] theorem State.modBase_now (b : Fin 3) (f : BaseSt → BaseSt) (s : State) : (s.modBase b f).now = s.now := rfl
@[simp] theorem State.log_now (s : State) (code : Nat) (data : List Rat) : (s.log code data).now = s.now :=
  (keeps_State_log s code data).same (.isl .mt) rfl

/-! ### Noting a master (R287) -/

/-- A grandmaster's identity is noted in its base; the servo's history starts anew where it changed. -/
theorem noteMaster_base (b : Fin 2) (gm : Nat) (s : State) : ∃ hist need, (noteMaster b gm s).clk.base[base3 b] =
    { s.clk.base[base3 b] with gmId := gm, hist := hist, need := need } := by
  unfold noteMaster
  extract_lets old noted
  have history : ∃ hist need, noted.clk.base[base3 b] = { s.clk.base[base3 b] with hist := hist, need := need } := by
    by_cases changed : old ≠ 0 ∧ old ≠ gm
    · exact ⟨[], 4, by rw [show noted = _ from if_pos changed, State.log_clk, State.modBase_self]⟩
    · exact ⟨_, _, by rw [show noted = s from if_neg changed]⟩
  obtain ⟨hist, need, kept⟩ := history
  exact ⟨hist, need, (State.modBase_self (base3 b) (fun x => { x with gmId := gm }) noted).trans (by rw [kept])⟩

theorem noteMaster_now (b : Fin 2) (gm : Nat) (s : State) : (noteMaster b gm s).now = s.now := (keeps_noteMaster b gm s).same (.isl .mt) rfl

/-! ### Measurements (R284, R285, R286) -/

/-- The base whose state has been judged anew. -/
def BaseSt.judged (x : BaseSt) (st leftLocked : Nat) : BaseSt := { x with st := st, leftLocked := leftLocked }

/-- Where a measured offset leads, the identity, the instant of the Sync and the offset stay. -/
theorem baseSyncMeasuredbase (b : Fin 3) (near far : Rat) (s : State) :
    ∃ st leftLocked, (baseMeasured b near far s).clk.base[b] = s.clk.base[b].judged st leftLocked := by
  have stays : ∃ st leftLocked, s.clk.base[b] = s.clk.base[b].judged st leftLocked := ⟨_, _, rfl⟩
  have goes (st leftLocked code : Nat) (data : List Rat) :
      ∃ st' leftLocked', (((s.modBase b fun x => x.judged st leftLocked).log code data).clk.base[b]) =
        s.clk.base[b].judged st' leftLocked' := ⟨st, leftLocked, by rw [State.log_clk, State.modBase_self]⟩
  have returns (st code : Nat) (data : List Rat) :
      ∃ st' leftLocked', (((s.modBase b fun x => { x with st := st }).log code data).clk.base[b]) =
        s.clk.base[b].judged st' leftLocked' := ⟨st, _, by rw [State.log_clk, State.modBase_self]; rfl⟩
  unfold baseMeasured
  extract_lets x
  by_cases locked : x.st = 2
  · rw [if_pos locked]
    by_cases away : far < absR x.theta
    · rw [if_pos away]
      exact goes 3 s.now _ _
    · rw [if_neg away]
      exact stays
  rw [if_neg locked]
  by_cases close : absR x.theta ≤ near
  · rw [if_pos close]
    exact returns 2 _ _
  rw [if_neg close]
  by_cases held : x.st = 4
  · rw [if_pos held]
    exact returns 3 _ _
  · rw [if_neg held]
    exact stays

theorem acquireStep_base (b : Fin 3) (master : Rat) (s : State) : ∃ n0 r y, (acquireStep b master s).clk.base[b] =
    { s.clk.base[b] with st := 2, m0 := nextMs s.now, n0 := n0, r := r, next := none, y := y, theta := 0, thetaHat := 0, stepped := true,
                         agree := 0, lastTheta := none } := by
  unfold acquireStep
  extract_lets x y m0 n0 step acquired
  rw [reviewNta_clk, showBase_clk, State.log_clk]
  exact ⟨_, _, _, State.modBase_self b _ s⟩

/-- What a measurement of an offset at an instant leaves of a base, whatever it does beside. -/
structure SyncMeasured (x y : BaseSt) (theta : Rat) (now : Nat) : Prop where
  gmId : y.gmId = x.gmId
  lastSync : y.lastSync = now
  locked : x.st = 2 → y.theta = theta

/-- A measurement notes its instant; out of LOCKED it leaves the offset of the base against the master. -/
theorem measure_base (b : Fin 3) (master near far : Rat) (s : State) :
    SyncMeasured s.clk.base[b] (measure b master near far s).clk.base[b] (s.clk.base[b].at_ s.now - master) s.now := by
  unfold measure
  extract_lets x theta fed ok agreed hat
  have own : fed.clk.base[b] = { feedServo master s.now s.clk.base[b] with theta := theta, lastSync := s.now } := State.modBase_self b _ s
  have hFed : SyncMeasured x fed.clk.base[b] theta s.now := by
    rw [own]
    exact ⟨rfl, rfl, fun _ => rfl⟩
  by_cases holds : s.clk.active = none
  · rw [if_pos holds, showBase_clk, State.modBase_self]
    exact ⟨rfl, rfl, fun _ => rfl⟩
  rw [if_neg holds]
  by_cases absent : x.st = 0
  · rw [if_pos absent]
    by_cases ready : (x.pathDelay.isSome || decide (b = 2)) = true
    · rw [if_pos ready, showBase_clk, State.modBase_self]
      exact ⟨hFed.gmId, hFed.lastSync, hFed.locked⟩
    · rw [if_neg ready, showBase_clk]
      exact hFed
  rw [if_neg absent]
  by_cases acquiring : x.st = 1
  · have hAgreed : SyncMeasured x agreed.clk.base[b] theta s.now := by
      rw [show agreed.clk.base[b] = _ from State.modBase_self b _ fed]
      exact ⟨hFed.gmId, hFed.lastSync, hFed.locked⟩
    rw [if_pos acquiring]
    by_cases enough : 3 ≤ agreed.clk.base[b].agree
    · obtain ⟨n0, r, y, stepped⟩ := acquireStep_base b master agreed
      rw [if_pos enough, stepped]
      exact ⟨hAgreed.gmId, hAgreed.lastSync, fun locked => absurd (locked.symm.trans acquiring) (by decide)⟩
    · rw [if_neg enough, showBase_clk]
      exact hAgreed
  · obtain ⟨st, left, judged⟩ := baseSyncMeasuredbase b near far hat
    rw [if_neg acquiring, reviewNta_clk, showBase_clk, judged, show hat.clk.base[b] = _ from State.modBase_self b _ fed]
    exact ⟨hFed.gmId, hFed.lastSync, hFed.locked⟩

/-- The time that a base reads does not depend on the master it follows or on the servo's history. -/
theorem BaseSt.at_noted (x : BaseSt) (gm : Nat) (hist : List (Nat × Rat)) (need m : Nat) :
    BaseSt.at_ { x with gmId := gm, hist := hist, need := need } m = x.at_ m := by
  unfold BaseSt.at_ BaseSt.inForce
  dsimp only
  split
  · split <;> rfl
  · rfl

theorem ptpSync_measured {s : State} {b : Fin 2} (origin correction : Rat) (gm : Nat) (up : domainUp s b = true)
    (slave : s.clk.base[base3 b].gm = false) (found : s.clk.base[base3 b].st ≠ 5) :
    Completes (.ptpSyncReceived b (.sync origin correction gm)) s fun t => t.clk.base[base3 b].gmId = gm ∧
      t.clk.base[base3 b].lastSync = s.now ∧ (s.clk.base[base3 b].st = 2 →
        t.clk.base[base3 b].theta = s.clk.base[base3 b].at_ s.now - masterTime s b origin correction) := by
  refine ⟨_, congrArg Host.Outcome.next (if_neg (by rw [up, slave, beq_eq_false_iff_ne.2 found]; decide)), ?_⟩
  obtain ⟨hist, need, noted⟩ := noteMaster_base b gm s
  obtain ⟨master, sync, offset⟩ := measure_base (base3 b) (masterTime s b origin correction) 1000 10000 (noteMaster b gm s)
  rw [noted] at master
  rw [noteMaster_now] at sync
  refine ⟨master, sync, fun locked => (offset (by rw [noted]; exact locked)).trans ?_⟩
  rw [noted, noteMaster_now, BaseSt.at_noted]

theorem ptpSync_unsupported {s : State} {b : Fin 2} (up : domainUp s b = true) (inv : Inv s) (slave : s.clk.base[base3 b].gm = false)
    (found : s.clk.base[base3 b].st ≠ 5) : Completes (.ptpSyncReceived b .unsupported) s fun t =>
      t.objN (Obj.TIM_NTA_DISCARDED b) = s.objN (Obj.TIM_NTA_DISCARDED b) + 1 ∧ t.clk = s.clk :=
  ⟨_, congrArg Host.Outcome.next (if_neg (by rw [up, slave, beq_eq_false_iff_ne.2 found]; decide)), State.objN_bump inv.objs _, rfl⟩

/-! ### Holdover (R284) -/

theorem base3_ne_two (b : Fin 2) : base3 b ≠ 2 := by revert b; decide

/-- A slave's base that is LOCKED or CONVERGING goes into HOLDOVER. -/
theorem baseHoldover_follows {b : Fin 3} {s : State} (cause : Nat) (slave : s.clk.base[b].gm = false) (network : b ≠ 2)
    (locked : s.clk.base[b].st = 2 ∨ s.clk.base[b].st = 3) : ∃ left : BaseSt → Nat, baseHoldover b cause s =
      showBase b ((s.modBase b fun x => { x with st := 4, holdFrom := s.now, leftLocked := left x }).log 0x5009 [b.val, cause]) := by
  unfold baseHoldover
  extract_lets x
  rw [if_neg (by rw [slave, beq_eq_false_iff_ne.2 network, Bool.false_and]; decide), if_pos locked]
  exact ⟨_, rfl⟩

theorem syncLossTimeout_holds {s : State} {b : Fin 2} (slave : s.clk.base[base3 b].gm = false)
    (locked : s.clk.base[base3 b].st = 2 ∨ s.clk.base[base3 b].st = 3)
    (silent : s.objN (Obj.TIM_NTA_LOSS_COUNT b) * ptpInterval (s.objI (Obj.TIM_NTA_LOG_SYNC b)) ≤ s.since s.clk.base[base3 b].lastSync)
    (room : s.hasRoom 1 = true) : Completes (.syncLossTimeout b) s fun t =>
      t.clk.base[base3 b].st = 4 ∧ t.clk.base[base3 b].holdFrom = s.now ∧ newEvent s t 0x5009 [b.val, 1] = true := by
  refine ⟨_, congrArg Host.Outcome.next (if_pos (by rw [slave, decide_eq_true silent]; rfl)), ?_⟩
  obtain ⟨left, follows⟩ := baseHoldover_follows 1 slave (base3_ne_two b) locked
  have event : newEvent s ((s.modBase (base3 b) fun x => { x with st := 4, holdFrom := s.now, leftLocked := left x }).log 0x5009 [b.val, 1])
      0x5009 [b.val, 1] = true := newEvent_log (hasRoom_eq room rfl) (le_refl _) rfl
  have data : ([((base3 b).val : Rat), ((1 : Nat) : Rat)] : List Rat) = [(b.val : Rat), 1] := by rw [Nat.cast_one]; rfl
  rw [follows, data, reviewNta_clk, showBase_clk, State.log_clk, State.modBase_self]
  exact ⟨rfl, rfl, newEvent_keeps (keeps_reviewNta _ _) rfl (newEvent_keeps (keeps_showBase _ _) rfl event)⟩

/-! ### Segments (R283) -/

theorem segmentUpdate_appends {s : State} {b : Fin 3} (slave : s.clk.base[b].gm = false)
    (runs : s.clk.base[b].st = 2 ∨ s.clk.base[b].st = 3 ∨ s.clk.base[b].st = 4) (due : cyclesMs ≤ s.since s.clk.base[b].lastSegment)
    (network : b ≠ 2) (alive : s.alive .network = true) : Completes (.segmentUpdate b) s fun t =>
      t.clk.base[b].lastSegment = s.now ∧ (t.clk.base[b].next.map fun x => x.1) = some (nextMs s.now) ∧
      (t.clk.base[b].next.map fun x => x.2.1) = some (nsUnits ((s.clk.base[b].inForce s.now).line (nextMs s.now))) := by
  have states : (s.clk.base[b].st == 2 || s.clk.base[b].st == 3 || s.clk.base[b].st == 4) = true := by
    rcases runs with st | st | st <;> rw [st] <;> rfl
  refine ⟨_, congrArg Host.Outcome.next (if_pos ?_), ?_⟩
  · rw [slave, states, decide_eq_true due, beq_eq_false_iff_ne.2 network, if_neg network, alive]
    rfl
  unfold segmentUpdate
  extract_lets x tc lim c m0 appended
  beta_reduce
  rw [showBase_clk, State.setBit_clk, show appended.clk.base[b] = _ from State.modBase_self b _ s]
  exact ⟨rfl, rfl, rfl⟩

/-! ### Mastership (R287) -/

theorem ptpAnnounce_better {s : State} {b : Fin 2} (gm steps : Nat) (up : domainUp s b = true) (role : domainRole s b ≠ 1) :
    Completes (.ptpAnnounceReceived b (.announce gm steps true)) s fun t => t.clk.base[base3 b].gm = false ∧
      t.clk.base[base3 b].gmId = gm ∧ t.clk.base[base3 b].lastAnnounce = s.now := by
  refine ⟨_, congrArg Host.Outcome.next ((if_neg (by rw [up]; decide)).trans
    ((if_neg role).trans (if_neg (by rw [Bool.not_true, Bool.and_false]; decide)))), ?_⟩
  extract_lets heard
  obtain ⟨hist, need, noted⟩ := noteMaster_base b gm (heard.setN (Obj.TIM_NTA_STEPS_REMOVED b) steps)
  rw [showBase_clk, noted, State.setN_clk, show heard.clk.base[base3 b] = _ from State.modBase_self (base3 b) _ s]
  exact ⟨rfl, rfl, rfl⟩

/-- A port that is not master and whose base is not lost becomes grandmaster with its base LOCKED. -/
theorem becomeMaster_base {s : State} {b : Fin 2} (slave : s.clk.base[base3 b].gm = false) (found : s.clk.base[base3 b].st ≠ 5) :
    (becomeMaster b s).clk.base[base3 b].gm = true ∧ (becomeMaster b s).clk.base[base3 b].st = 2 ∧
      (becomeMaster b s).clk.base[base3 b].theta = 0 := by
  unfold becomeMaster
  extract_lets x noted started returned mastered
  rw [if_neg (by rw [show x.gm = false from slave, show (x.st == 5) = false from beq_eq_false_iff_ne.2 found]; decide)]
  rw [reviewNta_clk, showBase_clk, State.setN_clk, show mastered.clk.base[base3 b] = _ from State.modBase_self (base3 b) _ returned]
  exact ⟨rfl, rfl, rfl⟩

theorem announceReceiptTimeout_masters {s : State} {b : Fin 2} (up : domainUp s b = true) (role : domainRole s b ≠ 0)
    (silent : s.objN (Obj.TIM_NTA_ANNOUNCE_TO b) * ptpInterval (s.objI (Obj.TIM_NTA_LOG_ANNOUNCE b)) ≤
      s.since s.clk.base[base3 b].lastAnnounce)
    (slave : s.clk.base[base3 b].gm = false) (found : s.clk.base[base3 b].st ≠ 5) :
    Completes (.announceReceiptTimeout b) s fun t => t.clk.base[base3 b].gm = true ∧ t.clk.base[base3 b].st = 2 ∧
      t.clk.base[base3 b].theta = 0 :=
  ⟨_, congrArg Host.Outcome.next (if_pos (by rw [up, bne_iff_ne.2 role, decide_eq_true silent]; rfl)), becomeMaster_base slave found⟩

/-! ### Steps by command (R285) -/

/-- STEP_NTA and STEP_NTB of a slave's base that is present start ACQUIRING anew in it alone. -/
theorem stepBase_starts {s : State} {b : Fin 2} {w : Writer} (service : serviceOk s w = true)
    (mode : s.mod.mode = .ready ∨ s.mod.mode = .lockout) (slave : s.clk.base[base3 b].gm = false) (present : s.clk.base[base3 b].st ≠ 0)
    (found : s.clk.base[base3 b].st ≠ 5) : ∃ t, stepBase b w s = (0, t) ∧ t.clk.base[base3 b].st = 1 ∧ t.clk.base[base3 b].agree = 0 ∧
      ∀ d, base3 b ≠ d → t.clk.base[d] = s.clk.base[d] := by
  unfold stepBase
  extract_lets x stepped
  rw [if_neg (by rw [service]; decide), if_neg (fun other => mode.elim other.1 other.2), if_neg (by
    rw [show x.gm = false from slave, show (x.st == 0) = false from beq_eq_false_iff_ne.2 present,
      show (x.st == 5) = false from beq_eq_false_iff_ne.2 found]
    decide)]
  refine ⟨_, rfl, ?_⟩
  rw [reviewNta_clk, showBase_clk, State.setBit_clk, show stepped.clk.base[base3 b] = _ from State.modBase_self (base3 b) _ s]
  exact ⟨rfl, rfl, fun d ne => State.modBase_other ne _ s⟩

/-- A request to the network island that its operation accepts leaves the clocks as the operation does. -/
theorem request_accepted_clk {s t : State} {w : Writer} {i : Island} {f : State → Nat × State} (served : s.serves w i = true) (key : Nat)
    (effect : f s = (0, t)) : (request w key i f s).clk = t.clk := by
  obtain ⟨tx, net, answered⟩ := request_accepted_shape served key effect
  rw [answered]

theorem stepNta_starts {s : State} {w : Writer} (served : s.serves w .network = true) (service : serviceOk s w = true)
    (mode : s.mod.mode = .ready ∨ s.mod.mode = .lockout) (slave : s.clk.base[(0 : Fin 3)].gm = false)
    (present : s.clk.base[(0 : Fin 3)].st ≠ 0) (found : s.clk.base[(0 : Fin 3)].st ≠ 5) : Completes (.stepNta w) s fun t =>
      t.clk.base[(0 : Fin 3)].st = 1 ∧ t.clk.base[(0 : Fin 3)].agree = 0 ∧ t.clk.base[(1 : Fin 3)] = s.clk.base[(1 : Fin 3)] := by
  obtain ⟨t, effect, st, agree, others⟩ := stepBase_starts (b := 0) service mode slave present found
  refine ⟨_, rfl, ?_⟩
  beta_reduce
  rw [request_accepted_clk served Obj.TIM_CMD effect]
  exact ⟨st, agree, others 1 (by decide)⟩

theorem stepNtb_starts {s : State} {w : Writer} (served : s.serves w .network = true) (service : serviceOk s w = true)
    (mode : s.mod.mode = .ready ∨ s.mod.mode = .lockout) (slave : s.clk.base[(1 : Fin 3)].gm = false)
    (present : s.clk.base[(1 : Fin 3)].st ≠ 0) (found : s.clk.base[(1 : Fin 3)].st ≠ 5) : Completes (.stepNtb w) s fun t =>
      t.clk.base[(1 : Fin 3)].st = 1 ∧ t.clk.base[(1 : Fin 3)].agree = 0 ∧ t.clk.base[(0 : Fin 3)] = s.clk.base[(0 : Fin 3)] := by
  obtain ⟨t, effect, st, agree, others⟩ := stepBase_starts (b := 1) service mode slave present found
  refine ⟨_, rfl, ?_⟩
  beta_reduce
  rw [request_accepted_clk served Obj.TIM_CMD effect]
  exact ⟨st, agree, others 0 (by decide)⟩

/-! ### Twin time (R288) -/

theorem ttExchange_primary {s : State} (primary : Rat) (boot : Nat) (linked : 2 ≤ s.twn.link) (paired : s.twn.mode ≠ 0)
    (first : s.twn.primary = true) : Completes (.ttExchange primary boot) s fun t =>
      t.clk.base[(2 : Fin 3)].st = 2 ∧ t.clk.base[(2 : Fin 3)].theta = 0 ∧ t.clk.base[(2 : Fin 3)].m0 = s.now := by
  refine ⟨_, congrArg Host.Outcome.next ((if_neg ?_).trans (if_pos first)), ?_⟩
  · rw [linkUp, decide_eq_true linked, beq_eq_false_iff_ne.2 paired]
    decide
  beta_reduce
  rw [showBase_clk, State.modBase_self]
  exact ⟨rfl, rfl, rfl⟩

theorem ttExchange_secondary_steps {s : State} (primary : Rat) (boot : Nat) (linked : 2 ≤ s.twn.link) (paired : s.twn.mode ≠ 0)
    (second : s.twn.primary = false) (new : s.clk.base[(2 : Fin 3)].boot ≠ some boot) : Completes (.ttExchange primary boot) s fun t =>
      t.clk.base[(2 : Fin 3)].boot = some boot ∧ t.clk.base[(2 : Fin 3)].st = 2 ∧ t.clk.base[(2 : Fin 3)].stepped = true ∧
      t.clk.base[(2 : Fin 3)].m0 = nextMs s.now := by
  refine ⟨_, congrArg Host.Outcome.next ((if_neg ?_).trans ((if_neg (by rw [second]; decide)).trans (if_neg fun same => new same.1))), ?_⟩
  · rw [linkUp, decide_eq_true linked, beq_eq_false_iff_ne.2 paired]
    decide
  extract_lets met
  obtain ⟨n0, r, y, stepped⟩ := acquireStep_base 2 primary met
  rw [lockReview_clk, stepped, show met.clk.base[(2 : Fin 3)] = _ from State.modBase_self 2 _ s]
  exact ⟨rfl, rfl, rfl, rfl⟩

/-- Settles O31, clause by clause from the lemmas above. -/
theorem timeBases : Obligations.TimeBases := by
  unfold Obligations.TimeBases
  refine ⟨?sync, ?unsupported, ?loss, ?segment, ?better, ?master, ?nta, ?ntb, ?primary, ?secondary⟩
  case sync => exact fun _ _ origin correction gm up slave found => ptpSync_measured origin correction gm up slave found
  case unsupported => exact fun _ _ up inv slave found => ptpSync_unsupported up inv slave found
  case loss => exact fun _ _ slave locked silent room => syncLossTimeout_holds slave locked silent room
  case segment => exact fun _ _ slave runs due network alive => segmentUpdate_appends slave runs due network alive
  case better => exact fun _ _ gm steps up role => ptpAnnounce_better gm steps up role
  case master => exact fun _ _ up role silent slave found => announceReceiptTimeout_masters up role silent slave found
  case nta => exact fun _ _ served service mode slave present found => stepNta_starts served service mode slave present found
  case ntb => exact fun _ _ served service mode slave present found => stepNtb_starts served service mode slave present found
  case primary => exact fun _ primary boot linked paired first => ttExchange_primary primary boot linked paired first
  case secondary => exact fun _ primary boot linked paired second new => ttExchange_secondary_steps primary boot linked paired second new

end Sys2Proof.Machine
end

section
/-!
PROOF. Chapter 12, references and PLLs (R274 to R282, R15): what a loss, a return and a check leave of the references and the selector, and what
the locks and losses of the PLLs leave of the clock tree.
-/

namespace Sys2Proof.Machine

-- One declaration after another, so that the whole text compiles within its memory.
set_option Elab.async false

/-! ### The selector (R275, R277) -/

/-- What the selector's switches, holdover and the reviews leave of the clocks: the references' marks and the PLLs. -/
theorem switchRef_active (new : Fin 3) (cause : Nat) (s : State) : (switchRef new cause s).clk.active = some new := by
  unfold switchRef
  by_cases already : s.clk.active = some new
  · rw [if_pos already, already]
  · rw [if_neg already, showClocks_clk, State.log_clk]
    rfl

theorem enterRefHoldover_active (s : State) : (enterRefHoldover s).clk.active = none := by
  unfold enterRefHoldover
  extract_lets left
  have held : Keeps 0x8000000000000000000000000000000000000000000000000000000003c0080000000000000000004000000000000000000000000000000000000000100 left
      (baseHoldover 2 2 (baseHoldover 1 2 (baseHoldover 0 2 left))) :=
    .step (keeps_baseHoldover _ _ _) (by decide) (.step (keeps_baseHoldover _ _ _) (by decide) (.step (keeps_baseHoldover _ _ _) (by decide) (.refl left)))
  rw [foldl_keeps (get := fun s => s.clk) (fun s n => claimReview_clk n s), held.same (.clk .active) rfl]
  exact congrArg ClockSt.active ((showClocks_clk _).trans (State.log_clk _ _ _))

/-! ### Faults of references (R274) -/

/-- A reference's mark falls. -/
def refMarked (r : Fin 3) (s : State) : State :=
  showClocks (s.modClk fun c => { c with refOk := c.refOk.set r false, badAt := c.badAt.set r s.now })

theorem refMarked_refOk (r q : Fin 3) (s : State) : (refMarked r s).clk.refOk[q] = if r = q then false else s.clk.refOk[q] :=
  vset_at s.clk.refOk r q false r.isLt

/-- A fault marks the reference and leaves the marks of the others. -/
theorem refFault_refOk (r : Fin 3) (cause : Nat) (s : State) : (refFault r cause s).clk.refOk = (refMarked r s).clk.refOk := by
  unfold refFault
  extract_lets marked
  change _ = marked.clk.refOk
  by_cases active : marked.clk.active = some r
  · rw [if_pos active]
    cases refNext marked with
    | some q => exact (keeps_switchRef q cause marked).same (.clk .refOk) rfl
    | none => exact (keeps_enterRefHoldover marked).same (.clk .refOk) rfl
  · rw [if_neg active]

theorem refFault_self (r : Fin 3) (cause : Nat) (s : State) : (refFault r cause s).clk.refOk[r] = false := by
  rw [refFault_refOk, refMarked_refOk, if_pos rfl]

theorem refFault_stays {q : Fin 3} (r : Fin 3) (cause : Nat) {s : State} (faulty : s.clk.refOk[q] = false) :
    (refFault r cause s).clk.refOk[q] = false := by
  rw [refFault_refOk, refMarked_refOk, faulty, ite_self]

/-- The active reference, once faulty, gives way to the next healthy one, or to none. -/
theorem refFault_active_lost {r : Fin 3} {s : State} (active : s.clk.active = some r) (cause : Nat) :
    (refFault r cause s).clk.active = refNext (refMarked r s) := by
  unfold refFault
  extract_lets marked
  change _ = refNext marked
  rw [if_pos (show marked.clk.active = some r from active)]
  cases next : refNext marked with
  | some q => exact switchRef_active q cause marked
  | none => exact enterRefHoldover_active marked

theorem refFault_active_kept {r : Fin 3} {s : State} (other : s.clk.active ≠ some r) (cause : Nat) :
    (refFault r cause s).clk.active = s.clk.active := by
  unfold refFault
  extract_lets marked
  rw [if_neg (show ¬ marked.clk.active = some r from other)]
  rfl

/-- The next reference is another one, and healthy. -/
theorem refNext_refMarked {r q : Fin 3} {s : State} (next : refNext (refMarked r s) = some q) : q ≠ r ∧ s.clk.refOk[q] = true := by
  have healthy : (refMarked r s).clk.refOk[q] = true := List.find?_some (p := fun r' : Fin 3 => (refMarked r s).clk.refOk[r']) next
  rw [refMarked_refOk] at healthy
  by_cases same : r = q
  · rw [if_pos same] at healthy
    exact absurd healthy Bool.false_ne_true
  · rw [if_neg same] at healthy
    exact ⟨fun e => same e.symm, healthy⟩

theorem referenceLost_marks {s : State} {r : Fin 3} {gap : Nat} (on : s.clk.pllOn = true) (long : 32 ≤ gap) :
    Completes (.referenceLost ⟨r, gap⟩) s fun t => t.clk.refOk[r] = false ∧ (s.clk.active = some r → t.clk.active ≠ some r ∧
      ∀ q, t.clk.active = some q → s.clk.refOk[q] = true) ∧ (s.clk.active ≠ some r → t.clk.active = s.clk.active) := by
  refine ⟨_, congrArg Host.Outcome.next (if_pos (by rw [on, decide_eq_true long]; rfl)), ?_⟩
  beta_reduce
  rw [lockReview_clk]
  refine ⟨refFault_self r 1 s, fun active => ?_, fun other => refFault_active_kept other 1⟩
  rw [refFault_active_lost active]
  exact ⟨fun next => (refNext_refMarked next).1 rfl, fun q next => (refNext_refMarked next).2⟩

/-! ### References that return (R274, R275, R277) -/

theorem refHoldoverEnd_ends {s : State} {r : Fin 3} (on : s.clk.pllOn = true) (held : s.clk.active = none)
    (usable : r ≠ 2 ∨ partnerFirst s = true) (long : cyclesMs ≤ healthyFor s r) (room : s.hasRoom 1 = true) :
    Completes (.refHoldoverEnd r) s fun t =>
      t.clk.active = some r ∧ t.clk.refOk[r] = true ∧ newEvent s t 0x5006 [0] = true := by
  have serves : (r != 2 || partnerFirst s) = true := by simpa using usable
  refine ⟨_, congrArg Host.Outcome.next (if_pos (by rw [on, held, serves, decide_eq_true long]; rfl)), ?_⟩
  have event : newEvent s ((s.modClk fun c => { c with refOk := c.refOk.set r true, active := some r }).log 0x5006 [0]) 0x5006 [0] = true :=
    newEvent_log (hasRoom_eq room rfl) (le_refl _) rfl
  beta_reduce
  rw [lockReview_clk, showClocks_clk, State.log_clk]
  exact ⟨rfl, vset_self _ r _ r.isLt, newEvent_keeps (keeps_lockReview _) rfl (newEvent_keeps (keeps_showClocks _) rfl event)⟩

/-- The selector's choices are read from the configuration, which showing the clocks leaves alone. -/
theorem refHome_showClocks (s : State) : refHome (showClocks s) = refHome s := by
  unfold refHome partnerFirst refPreferred
  rw [(keeps_showClocks s).bit' Obj.TIM_REF_CFG 0 (by decide +kernel) rfl, (keeps_showClocks s).bit' Obj.TIM_REF_CFG 1 (by decide +kernel) rfl]

theorem referenceHealthy_counts {s : State} {r : Fin 3} (on : s.clk.pllOn = true) (long : 10 * cyclesSec ≤ healthyFor s r)
    (usable : r ≠ 2 ∨ partnerLine s = true) : Completes (.referenceHealthy r) s fun t => t.clk.refOk[r] = true ∧
      (s.clk.active ≠ none → s.bit Obj.TIM_REF_CFG 2 = true → r = refHome s → t.clk.active = some r) ∧
      (s.bit Obj.TIM_REF_CFG 2 = false → t.clk.active = s.clk.active) := by
  have line : (r == 2 && !partnerLine s) = false := by
    rcases usable with own | lineOk
    · rw [beq_eq_false_iff_ne.2 own, Bool.false_and]
    · rw [lineOk, Bool.not_true, Bool.and_false]
  refine ⟨_, congrArg Host.Outcome.next (if_neg (by rw [on, decide_eq_false (Nat.not_lt.2 long), line]; decide)), ?_⟩
  extract_lets healthy
  have home : refHome healthy = refHome s := refHome_showClocks _
  have revert : healthy.bit Obj.TIM_REF_CFG 2 = s.bit Obj.TIM_REF_CFG 2 := (keeps_showClocks _).bit' Obj.TIM_REF_CFG 2 (by decide +kernel) rfl
  have marked : healthy.clk.refOk[r] = true := vset_self _ r _ r.isLt
  rw [home, revert]
  beta_reduce
  by_cases returns : (healthy.clk.active.isSome && s.bit Obj.TIM_REF_CFG 2 && decide (r = refHome s)) = true
  · have bit : s.bit Obj.TIM_REF_CFG 2 = true := by
      simp only [Bool.and_eq_true] at returns
      exact returns.1.2
    rw [if_pos returns, lockReview_clk, (keeps_switchRef r 4 healthy).same (.clk .refOk) rfl, switchRef_active]
    exact ⟨marked, fun _ _ _ => rfl, fun off => absurd (off.symm.trans bit) Bool.false_ne_true⟩
  · rw [if_neg returns]
    refine ⟨marked, fun active bit mine => absurd ?_ returns, fun _ => rfl⟩
    rw [show healthy.clk.active.isSome = true from Option.isSome_iff_ne_none.2 active, bit, decide_eq_true mine]
    rfl

theorem revertRef_returns {s : State} {w : Writer} (served : s.serves w .network = true) (healthy : s.clk.refOk[refHome s] = true)
    (active : s.clk.active ≠ none) : Completes (.revertRef w) s fun t => t.clk.active = some (refHome s) := by
  have switches : revertRef s = switchRef (refHome s) 4 s :=
    if_pos (by rw [healthy, Option.isSome_iff_ne_none.2 active]; rfl)
  refine ⟨_, rfl, ?_⟩
  beta_reduce
  rw [request_accepted_clk served Obj.TIM_CMD (t := lockReview (revertRef s)) (owned_served served _), lockReview_clk, switches,
    switchRef_active]

/-! ### The frequency check (R274, R276) -/

/-- A fold that keeps a property has it at the end where one of its steps establishes it. -/
theorem foldl_establishes {α : Type} {f : State → α → State} {P : State → Prop} (keeps : ∀ s a, P s → P (f s a)) {l : List α} {a : α}
    (mem : a ∈ l) (own : ∀ s, P (f s a)) (s : State) : P (l.foldl f s) := by
  have onward (l : List α) (s : State) (h : P s) : P (l.foldl f s) := by
    induction l generalizing s with
    | nil => exact h
    | cons b l ih => exact ih (f s b) (keeps s b h)
  induction l generalizing s with
  | nil => exact absurd mem List.not_mem_nil
  | cons b l ih =>
    rcases List.mem_cons.1 mem with rfl | mem
    · exact onward l _ (own s)
    · exact ih mem (f s b)

theorem foldl_invariant {α : Type} {f : State → α → State} {P : State → Prop} (keeps : ∀ s a, P s → P (f s a)) (l : List α) {s : State}
    (h : P s) : P (l.foldl f s) := by
  induction l generalizing s with
  | nil => exact h
  | cons b l ih => exact ih (keeps s b h)

theorem checkStep_stays {q : Fin 3} (step : Vector Rat 3) {s : State} (r : Fin 3) (faulty : s.clk.refOk[q] = false) :
    (checkStep step s r).clk.refOk[q] = false := by
  unfold checkStep
  by_cases quiet : (!s.clk.refOk[r] || decide (absR step[r] ≤ 50)) = true
  · rw [if_pos quiet, faulty]
  rw [if_neg quiet]
  by_cases partner : r = 2
  · rw [if_pos partner]
    exact refFault_stays r 2 (by rw [State.log_clk, faulty])
  · rw [if_neg partner]
    exact refFault_stays r 2 faulty

theorem checkStep_self {step : Vector Rat 3} {r : Fin 3} (stepped : 50 < absR step[r]) (s : State) :
    (checkStep step s r).clk.refOk[r] = false := by
  unfold checkStep
  by_cases quiet : (!s.clk.refOk[r] || decide (absR step[r] ≤ 50)) = true
  · rw [if_pos quiet]
    rw [decide_eq_false (not_le.2 stepped), Bool.or_false, Bool.not_eq_true'] at quiet
    exact quiet
  rw [if_neg quiet]
  by_cases partner : r = 2
  · rw [if_pos partner]
    exact refFault_self r 2 _
  · rw [if_neg partner]
    exact refFault_self r 2 s

theorem checkStep_quiet {step : Vector Rat 3} {r : Fin 3} (quiet : absR step[r] ≤ 50) (s : State) : checkStep step s r = s :=
  if_pos (by rw [decide_eq_true quiet, Bool.or_true])

/-- The deviations stand in their objects. -/
def refsReported (dev : Vector Rat 3) (s : State) : State :=
  (List.finRange 3).foldl (fun s r => s.setR (Obj.TIM_REF_DEV r.val) (r32 dev[r])) s

abbrev refDevParts : Nat := 0x40000000000000000000000000000000000000000000000000000000000000

theorem keeps_refsReported (dev : Vector Rat 3) (s : State) : Keeps refDevParts s (refsReported dev s) :=
  .foldl_mem _ (fun _ r _ h => .setR .TIM_REF_DEV (group_TIM_REF_DEV r.val (by omega)) (by decide) _ h) (.refl s)

theorem freqCheck_stepped {dev step : Vector Rat 3} {r : Fin 3} (stepped : 50 < absR step[r]) (s : State) :
    (freqCheck dev step s).clk.refOk[r] = false := by
  unfold freqCheck
  extract_lets reported judged tol usable bad was flagged logged rate faulty
  have hJudged : judged.clk.refOk[r] = false :=
    foldl_establishes (P := fun s => s.clk.refOk[r] = false) (fun s a => checkStep_stays step a) (List.mem_finRange r)
      (checkStep_self stepped) reported
  have hLogged : logged.clk.refOk[r] = false := by
    unfold logged
    by_cases news : (!bad.isEmpty && !was) = true
    · rw [if_pos news, State.log_clk]
      exact hJudged
    · rw [if_neg news]
      exact hJudged
  by_cases settled : (bad.isEmpty || !ntaGood logged) = true
  · rw [if_pos settled]
    exact hLogged
  · rw [if_neg settled]
    exact foldl_invariant (P := fun s => s.clk.refOk[r] = false) (fun s a => refFault_stays a 2) faulty hLogged

theorem freqCheck_within {dev step : Vector Rat 3} {s : State}
    (within : ∀ r : Fin 3, absR step[r] ≤ 50 ∧ absR dev[r] ≤ (s.objN Obj.TIM_REF_TOL : Nat)) :
    (freqCheck dev step s).clk = s.clk := by
  have reported := keeps_refsReported dev s
  have judged : (List.finRange 3).foldl (checkStep step) (refsReported dev s) = refsReported dev s :=
    foldl_keeps (get := id) (fun u r => checkStep_quiet (within r).1 u) _ _
  unfold freqCheck
  extract_lets rep marked tol usable bad was flagged logged rate faulty
  have same : marked = refsReported dev s := judged
  have tolerance : tol = (s.objN Obj.TIM_REF_TOL : Nat) := by
    unfold tol
    rw [same, reported.objN _ (by decide +kernel) rfl]
  have none : bad = [] := List.filter_eq_nil_iff.2 fun r _ => by
    rw [tolerance, decide_eq_false (not_lt.2 (within r).2), Bool.and_false]
    exact Bool.false_ne_true
  have flat : logged = flagged := if_neg (by rw [none]; exact Bool.false_ne_true)
  rw [if_pos (by rw [none]; rfl), flat, State.setBit_clk, same]
  exact reported.clk fun f => by cases f <;> rfl

/-- The check takes place while a clock runs and a reference is active, 10 ms after the last. -/
theorem referenceFreqCheck_runs {s : State} (dev step : Vector Rat 3) (clock : clockRuns s = true) (active : s.clk.active ≠ none)
    (due : 10 * cyclesMs ≤ s.since s.clk.countedAt) : exec (.referenceFreqCheck dev step) s =
      .next (lockReview (freqCheck dev step (s.modClk fun c => { c with countedAt := s.now }))) :=
  congrArg Host.Outcome.next (if_pos (by rw [clock, Option.isSome_iff_ne_none.2 active, decide_eq_true due]; rfl))

theorem referenceFreqCheck_stepped {s : State} {dev step : Vector Rat 3} {r : Fin 3} (clock : clockRuns s = true)
    (active : s.clk.active ≠ none) (due : 10 * cyclesMs ≤ s.since s.clk.countedAt) (stepped : 50 < absR step[r]) :
    Completes (.referenceFreqCheck dev step) s fun t => t.clk.refOk[r] = false := by
  refine ⟨_, referenceFreqCheck_runs dev step clock active due, ?_⟩
  beta_reduce
  rw [lockReview_clk]
  exact freqCheck_stepped stepped _

theorem referenceFreqCheck_within {s : State} {dev step : Vector Rat 3} (clock : clockRuns s = true)
    (active : s.clk.active ≠ none) (due : 10 * cyclesMs ≤ s.since s.clk.countedAt)
    (within : ∀ r : Fin 3, absR step[r] ≤ 50 ∧ absR dev[r] ≤ (s.objN Obj.TIM_REF_TOL : Nat)) :
    Completes (.referenceFreqCheck dev step) s fun t => t.clk.refOk = s.clk.refOk ∧ t.clk.active = s.clk.active := by
  refine ⟨_, referenceFreqCheck_runs dev step clock active due, ?_⟩
  beta_reduce
  have checked := freqCheck_within (dev := dev) (step := step) (s := s.modClk fun c => { c with countedAt := s.now }) within
  rw [lockReview_clk, checked]
  exact ⟨rfl, rfl⟩

/-! ### The keystone's check (R282) -/

/-- A fence leaves the keystone acting. -/
theorem fence_alive_keystone (i : Island) (s : State) : (fence i s).alive .keystone = s.alive .keystone := by
  unfold fence
  by_cases none : (!s.alive .keystone || i == .keystone || s.fenced i) = true
  · rw [if_pos none]
  rw [if_neg none]
  extract_lets marked
  simp only [Bool.or_eq_true, beq_iff_eq, not_or] at none
  obtain ⟨⟨-, other⟩, -⟩ := none
  have effect := keeps_fenceEffect i marked
  rw [effect.alive .keystone rfl rfl rfl]
  unfold State.alive State.fenced
  congr 2
  simp [marked, Ne.symm other]

/-- Every island of a list but the keystone is fenced by a living keystone. -/
theorem foldl_fence_mem {l : List (Island × Rat)} {e : Island × Rat} (mem : e ∈ l) (other : e.1 ≠ .keystone) {s : State}
    (alive : s.alive .keystone = true) : e.1 ∈ (l.foldl (fun s e => fence e.1 s) s).isl.fenced := by
  have acts : (l.foldl (fun s e => fence e.1 s) s).alive .keystone = true :=
    (foldl_keeps (get := fun s => s.alive .keystone) (fun s (e : Island × Rat) => fence_alive_keystone e.1 s) l s).trans alive
  refine foldl_establishes (P := fun s => s.alive .keystone = true → e.1 ∈ s.isl.fenced) (fun s a h acts => ?_) mem (fun s acts => ?_) s acts
  · have stay : ∀ i ∈ s.isl.fenced, i ∈ (fence a.1 s).isl.fenced := (keeps_fence a.1 s).same .fence rfl
    have before : s.alive .keystone = true := (fence_alive_keystone a.1 s).symm.trans acts
    exact stay e.1 (h before)
  · exact mem_fenced_fence ((fence_alive_keystone e.1 s).symm.trans acts) other

theorem foldl_fence_refOk (l : List (Island × Rat)) (s : State) : (l.foldl (fun s e => fence e.1 s) s).clk.refOk = s.clk.refOk :=
  foldl_keeps (get := fun s => s.clk.refOk) (fun s (e : Island × Rat) => (keeps_fence e.1 s).same (.clk .refOk) rfl) l s

/-- The gross check of one reference. -/
def grossCheck (refs : Vector Rat 3) (s : State) (r : Fin 3) : State :=
  if s.clk.pllOn && s.clk.refOk[r] && decide (2 < absR refs[r]) then refFault r 3 s else s

/-- The gross check of all of them, after its instant is noted. -/
def grossChecked (refs : Vector Rat 3) (s : State) : State :=
  (List.finRange 3).foldl (grossCheck refs) (s.modClk fun c => { c with monitoredAt := s.now })

theorem grossCheck_pllOn (refs : Vector Rat 3) (s : State) (r : Fin 3) : (grossCheck refs s r).clk.pllOn = s.clk.pllOn := by
  unfold grossCheck
  by_cases gross : (s.clk.pllOn && s.clk.refOk[r] && decide (2 < absR refs[r])) = true
  · rw [if_pos gross]
    exact (keeps_refFault r 3 s).same (.clk .pllOn) rfl
  · rw [if_neg gross]

theorem grossCheck_alive (refs : Vector Rat 3) (s : State) (r : Fin 3) : (grossCheck refs s r).alive .keystone = s.alive .keystone := by
  unfold grossCheck
  by_cases gross : (s.clk.pllOn && s.clk.refOk[r] && decide (2 < absR refs[r])) = true
  · rw [if_pos gross]
    exact (keeps_refFault r 3 s).alive .keystone rfl rfl rfl
  · rw [if_neg gross]

theorem grossChecked_alive (refs : Vector Rat 3) (s : State) : (grossChecked refs s).alive .keystone = s.alive .keystone :=
  foldl_keeps (get := fun s => s.alive .keystone) (grossCheck_alive refs) _ _

theorem grossChecked_faulty {refs : Vector Rat 3} {s : State} {r : Fin 3} (on : s.clk.pllOn = true) (gross : 2 < absR refs[r]) :
    (grossChecked refs s).clk.refOk[r] = false := by
  have stillOn : (grossChecked refs s).clk.pllOn = true :=
    (foldl_keeps (get := fun s => s.clk.pllOn) (grossCheck_pllOn refs) _ _).trans on
  refine foldl_establishes (P := fun s => s.clk.pllOn = true → s.clk.refOk[r] = false) (fun s a h on => ?_) (List.mem_finRange r)
    (fun s on => ?_) _ stillOn
  · have faulty := h (by rw [← grossCheck_pllOn refs s a]; exact on)
    unfold grossCheck
    by_cases found : (s.clk.pllOn && s.clk.refOk[a] && decide (2 < absR refs[a])) = true
    · rw [if_pos found]
      exact refFault_stays a 3 faulty
    · rw [if_neg found, faulty]
  · rw [grossCheck_pllOn] at on
    unfold grossCheck
    by_cases healthy : s.clk.refOk[r] = true
    · rw [if_pos (by rw [on, healthy, decide_eq_true gross]; rfl)]
      exact refFault_self r 3 s
    · rw [if_neg (by rw [Bool.eq_false_iff.2 healthy, Bool.and_false]; exact Bool.false_ne_true)]
      exact Bool.eq_false_iff.2 healthy

/-- The islands that the keystone compares: those named, and the network island by its PLL while that is locked. -/
def monitored (islands : List (Island × Rat)) (net : Rat) (s : State) : List (Island × Rat) :=
  (if s.clk.netLocked then islands ++ [(.network, net)] else islands).filter fun e => decide (5 < absR e.2) && decide (e.1 ≠ .keystone)

theorem clockMonitorCheck_checks {s : State} (islands : List (Island × Rat)) (net : Rat) (refs : Vector Rat 3)
    (alive : s.alive .keystone = true) (due : clockRuns s = false ∨ 40960 ≤ s.since s.clk.monitoredAt) :
    exec (.clockMonitorCheck islands ⟨net, refs⟩) s =
      .next ((monitored islands net s).foldl (fun s e => fence e.1 s) (grossChecked refs s)) := by
  have early : (clockRuns s && decide (s.since s.clk.monitoredAt < 40960)) = false := by
    rcases due with still | late
    · rw [still, Bool.false_and]
    · rw [decide_eq_false (Nat.not_lt.2 late), Bool.and_false]
  exact congrArg Host.Outcome.next (if_neg (by rw [alive, early]; exact Bool.false_ne_true))

theorem mem_monitored {islands : List (Island × Rat)} {net : Rat} {s : State} {i : Island} {d : Rat}
    (named : (i, d) ∈ islands) (other : i ≠ .keystone) (off : 5 < absR d) : (i, d) ∈ monitored islands net s := by
  refine List.mem_filter.2 ⟨?_, by rw [decide_eq_true off, decide_eq_true other]; rfl⟩
  by_cases locked : s.clk.netLocked = true
  · rw [if_pos locked]
    exact List.mem_append_left _ named
  · rw [if_neg locked]
    exact named

theorem mem_monitored_network {islands : List (Island × Rat)} {net : Rat} {s : State} (locked : s.clk.netLocked = true) (off : 5 < absR net) :
    (Island.network, net) ∈ monitored islands net s := by
  refine List.mem_filter.2 ⟨?_, by rw [decide_eq_true off]; rfl⟩
  rw [if_pos locked]
  exact List.mem_append_right _ (List.mem_singleton_self _)

theorem clockMonitorCheck_one {s : State} {i : Island} (d net : Rat) (refs : Vector Rat 3) (alive : s.alive .keystone = true)
    (due : clockRuns s = false ∨ 40960 ≤ s.since s.clk.monitoredAt) (other : i ≠ .keystone) :
    Completes (.clockMonitorCheck [(i, d)] ⟨net, refs⟩) s fun t => (5 < absR d → i ∈ t.isl.fenced) ∧ (s.clk.netLocked = true →
      5 < absR net → .network ∈ t.isl.fenced) ∧ ∀ r : Fin 3, s.clk.pllOn = true → 2 < absR refs[r] → t.clk.refOk[r] = false := by
  have acts : (grossChecked refs s).alive .keystone = true := (grossChecked_alive refs s).trans alive
  refine ⟨_, clockMonitorCheck_checks _ net refs alive due, fun off => ?_, fun locked off => ?_, fun r on gross => ?_⟩
  · exact foldl_fence_mem (mem_monitored (List.mem_singleton_self _) other off) other acts
  · exact foldl_fence_mem (mem_monitored_network locked off) Island.noConfusion acts
  · rw [foldl_fence_refOk]
    exact grossChecked_faulty on gross

theorem clockMonitorCheck_within {s : State} {islands : List (Island × Rat)} {net : Rat} {refs : Vector Rat 3}
    (alive : s.alive .keystone = true) (due : clockRuns s = false ∨ 40960 ≤ s.since s.clk.monitoredAt)
    (sound : islands.all (fun e => decide (absR e.2 ≤ 5)) = true) (netSound : absR net ≤ 5)
    (refsSound : refs.toList.all (fun e => decide (absR e ≤ 2)) = true) :
    Completes (.clockMonitorCheck islands ⟨net, refs⟩) s fun t => t = s.modClk fun c => { c with monitoredAt := s.now } := by
  refine ⟨_, clockMonitorCheck_checks islands net refs alive due, ?_⟩
  have none : monitored islands net s = [] := by
    refine List.filter_eq_nil_iff.2 fun e mem => ?_
    have within : absR e.2 ≤ 5 := by
      by_cases locked : s.clk.netLocked = true
      · rw [if_pos locked] at mem
        rcases List.mem_append.1 mem with mem | mem
        · exact of_decide_eq_true (List.all_eq_true.1 sound e mem)
        · rw [List.mem_singleton.1 mem]
          exact netSound
      · rw [if_neg locked] at mem
        exact of_decide_eq_true (List.all_eq_true.1 sound e mem)
    rw [decide_eq_false (not_lt.2 within), Bool.false_and]
    exact Bool.false_ne_true
  have quiet (u : State) (r : Fin 3) : grossCheck refs u r = u := by
    have within : absR refs[r] ≤ 2 := of_decide_eq_true (List.all_eq_true.1 refsSound _ (Vector.mem_toList_iff.2 (Vector.getElem_mem r.isLt)))
    exact if_neg (by rw [decide_eq_false (not_lt.2 within), Bool.and_false]; exact Bool.false_ne_true)
  rw [none]
  exact foldl_keeps (get := id) quiet _ _

/-! ### Locks of the PLLs (R15, R278, R279) -/

@[simp] theorem State.modPll_self (p : Fin 2) (f : PllSt → PllSt) (s : State) : (s.modPll p f).clk.pll[p] = f s.clk.pll[p] :=
  vset_self _ p _ p.isLt

/-- A PLL that locks is locked, with no loss pending. -/
theorem pllLocks_pll (p : Fin 2) (s : State) : (pllLocks p s).clk.pll[p].locked = true ∧ (pllLocks p s).clk.pll[p].lostAt = none ∧
    (pllLocks p s).clk.pll[p].tryAt = none := by
  have own : (pllLocks p s).clk.pll[p] = { s.clk.pll[p] with locked := true, tryAt := none, lostAt := none } := by
    unfold pllLocks
    extract_lets locked
    rw [showClocks_clk]
    by_cases started : locked.isl.started = true
    · rw [if_pos started]
      exact State.modPll_self p (fun x => { x with locked := true, tryAt := none, lostAt := none }) s
    · rw [if_neg started]
      exact State.modPll_self p (fun x => { x with locked := true, tryAt := none, lostAt := none }) s
  rw [own]
  exact ⟨rfl, rfl, rfl⟩

/-- The first lock starts module time with the islands on the PLL; a later one changes neither. -/
theorem pllLocks_time (p : Fin 2) (s : State) : if s.isl.started then
      (pllLocks p s).isl.mt = s.isl.mt ∧ (pllLocks p s).clk.onB = s.clk.onB
    else (pllLocks p s).isl.mt = 0 ∧ (pllLocks p s).isl.started = true ∧
      (pllLocks p s).clk.onB = (if p = 1 then switchIslands else []) ∧ (pllLocks p s).clk.netLocked = true := by
  unfold pllLocks
  extract_lets locked
  rw [showClocks_clk]
  by_cases started : s.isl.started = true
  · rw [if_pos started, if_pos (show locked.isl.started = true from started)]
    exact ⟨rfl, rfl⟩
  · rw [if_neg started, if_neg (show ¬ locked.isl.started = true from started)]
    refine ⟨rfl, rfl, ?_, rfl⟩
    have same : (p.val = 1) = (p = 1) := by rw [Fin.ext_iff]; rfl
    exact if_congr (iff_of_eq same) rfl rfl

/-- A PLL that has been quiet for 256 reference cycles, out of lock and sound, with an active reference. -/
theorem pllLock_condition {s : State} {p : Fin 2} {below : Nat} (on : s.clk.pllOn = true) (quiet : 256 ≤ below)
    (unlocked : s.clk.pll[p].locked = false) (sound : s.clk.pll[p].failed = false) (active : s.clk.active ≠ none) :
    ¬ (!(s.clk.pllOn && !s.clk.pll[p].locked && !s.clk.pll[p].failed && s.clk.active.isSome && decide (256 ≤ below))) = true := by
  rw [on, unlocked, sound, Option.isSome_iff_ne_none.2 active, decide_eq_true quiet]
  exact Bool.false_ne_true

theorem pllLock_first {s : State} {p : Fin 2} {below : Nat} (on : s.clk.pllOn = true) (quiet : 256 ≤ below)
    (unlocked : s.clk.pll[p].locked = false) (sound : s.clk.pll[p].failed = false) (fresh : s.clk.pll[p].lostAt = none)
    (active : s.clk.active ≠ none) : Completes (.pllLock ⟨p, below⟩) s fun t => t.clk.pll[p].locked = true ∧
      (if s.isl.started then t.isl.mt = s.isl.mt ∧ t.clk.onB = s.clk.onB else t.isl.mt = 0 ∧ t.isl.started = true ∧
      t.clk.onB = (if p = 1 then switchIslands else []) ∧ t.clk.netLocked = true) := by
  refine ⟨pllLocks p s, congrArg Host.Outcome.next ((if_neg (pllLock_condition on quiet unlocked sound active)).trans ?_),
    (pllLocks_pll p s).1, pllLocks_time p s⟩
  dsimp only
  rw [fresh]

theorem pllLock_again {s : State} {p : Fin 2} {below at_ lost : Nat} (on : s.clk.pllOn = true) (quiet : 256 ≤ below)
    (unlocked : s.clk.pll[p].locked = false) (sound : s.clk.pll[p].failed = false) (gone : s.clk.pll[p].lostAt = some lost)
    (tried : s.clk.pll[p].tryAt = some at_) (within : s.since at_ ≤ cyclesMs) (clock : clockRuns s = true) (active : s.clk.active ≠ none)
    (started : s.isl.started = true) (room : s.hasRoom 1 = true) : Completes (.pllLock ⟨p, below⟩) s fun t =>
      t.clk.pll[p].locked = true ∧ t.clk.pll[p].lostAt = none ∧ t.clk.pll[p].tryAt = none ∧ t.clk.onB = s.clk.onB ∧
      newEvent s t 0x5004 [p.val] = true := by
  refine ⟨(pllLocks p s).log 0x5004 [p.val], congrArg Host.Outcome.next
    ((if_neg (pllLock_condition on quiet unlocked sound active)).trans ?_), ?_⟩
  · dsimp only
    rw [gone, tried]
    exact if_pos (by rw [decide_eq_true within, clock]; rfl)
  obtain ⟨locked, lostAt, tryAt⟩ := pllLocks_pll p s
  have time := pllLocks_time p s
  rw [if_pos started] at time
  have locks := keeps_pllLocks p s
  rw [State.log_clk]
  exact ⟨locked, lostAt, tryAt, time.2, newEvent_log (hasRoom_eq room (locks.same .log rfl).1) locks.seq time.1⟩

theorem pllRelockAttempt_starts {s : State} {p : Fin 2} {at_ : Nat} (gone : s.clk.pll[p].lostAt = some at_)
    (sound : s.clk.pll[p].failed = false) (unlocked : s.clk.pll[p].locked = false) (idle : s.clk.pll[p].tryAt = none)
    (due : cyclesMs ≤ s.since at_) (clock : clockRuns s = true) : Completes (.pllRelockAttempt p) s fun t =>
      t.clk.pll[p].tryAt = some s.now ∧ t.clk.pll[p].locked = false ∧ t.clk.onB = s.clk.onB := by
  refine ⟨s.modPll p fun x => { x with tryAt := some s.now }, congrArg Host.Outcome.next ?_, ?_⟩
  · dsimp only
    rw [gone]
    exact if_neg (by rw [sound, unlocked, idle, decide_eq_false (Nat.not_lt.2 due), clock]; decide)
  · beta_reduce
    rw [State.modPll_self]
    exact ⟨rfl, unlocked, rfl⟩

theorem pllRelockTimeout_ends {s : State} {p : Fin 2} {at_ : Nat} (tried : s.clk.pll[p].tryAt = some at_) (due : cyclesMs ≤ s.since at_) :
    Completes (.pllRelockTimeout p) s fun t => t.clk.pll[p].tryAt = none ∧ t.clk.pll[p].lostAt = some s.now ∧
      t.clk.pll[p].locked = s.clk.pll[p].locked := by
  refine ⟨s.modPll p fun x => { x with tryAt := none, lostAt := some s.now }, congrArg Host.Outcome.next ?_, ?_⟩
  · dsimp only
    rw [tried]
    exact if_pos due
  · beta_reduce
    rw [State.modPll_self]
    exact ⟨rfl, rfl, rfl⟩

/-! ### Losses of the PLLs (R278, R279, R280) -/

/-- The edge island, and the islands with it, ran on this PLL. -/
def ranOn (p : Fin 2) (s : State) : Bool := decide ((p == 1) = decide (Island.edge ∈ s.clk.onB))

/-- The PLL with its loss noted. -/
def pllLost (losses : List Nat) (failed : Bool) (now : Nat) (x : PllSt) : PllSt :=
  { x with locked := false, lostAt := some now, tryAt := none, losses := losses, failed := failed }

/-- The PLL is out of lock, and the loss is counted. -/
def pllCounted (p : Fin 2) (s : State) (losses : List Nat) (failed : Bool) : State :=
  (s.modPll p (pllLost losses failed s.now)).bump (Obj.TIM_PLL_LOSSES p.val)

/-- And the islands that ran on it are on the sister where that is locked. -/
def pllMuted (p : Fin 2) (s : State) (losses : List Nat) (failed : Bool) : State :=
  if ranOn p s && (pllCounted p s losses failed).clk.pll[1 - p].locked then switchClocks p (pllCounted p s losses failed)
  else pllCounted p s losses failed

theorem sister_ne (p : Fin 2) : p ≠ 1 - p := by revert p; decide

theorem pllCounted_sister (p : Fin 2) (s : State) (losses : List Nat) (failed : Bool) :
    (pllCounted p s losses failed).clk.pll[1 - p] = s.clk.pll[1 - p] := (vset_at _ p (1 - p) _ p.isLt).trans (if_neg (sister_ne p))

theorem pllMuted_pll (p : Fin 2) (s : State) (losses : List Nat) (failed : Bool) :
    (pllMuted p s losses failed).clk.pll[p].locked = false ∧ (pllMuted p s losses failed).clk.pll[p].lostAt = some s.now := by
  have own : (pllMuted p s losses failed).clk.pll[p] = pllLost losses failed s.now s.clk.pll[p] := by
    unfold pllMuted
    by_cases moves : (ranOn p s && (pllCounted p s losses failed).clk.pll[1 - p].locked) = true
    · rw [if_pos moves]
      exact State.modPll_self p (pllLost losses failed s.now) s
    · rw [if_neg moves]
      exact State.modPll_self p (pllLost losses failed s.now) s
  rw [own]
  exact ⟨rfl, rfl⟩

theorem pllMuted_onB {p : Fin 2} {s : State} (losses : List Nat) (failed : Bool) (sister : s.clk.pll[1 - p].locked = true) :
    (pllMuted p s losses failed).clk.onB =
      if (p == 1) = decide (Island.edge ∈ s.clk.onB) then (switchClocks p s).clk.onB else s.clk.onB := by
  unfold pllMuted
  rw [pllCounted_sister, sister, Bool.and_true]
  by_cases ran : (p == 1) = decide (Island.edge ∈ s.clk.onB)
  · rw [if_pos ran, if_pos (show ranOn p s = true from decide_eq_true ran)]
    rfl
  · rw [if_neg ran, if_neg (by rw [ranOn, decide_eq_false ran]; exact Bool.false_ne_true)]
    rfl

theorem pllMuted_isl (p : Fin 2) (s : State) (losses : List Nat) (failed : Bool) :
    (pllMuted p s losses failed).isl = s.isl ∧ (pllMuted p s losses failed).mod = s.mod := by
  unfold pllMuted
  by_cases moves : (ranOn p s && (pllCounted p s losses failed).clk.pll[1 - p].locked) = true
  · rw [if_pos moves]
    exact ⟨rfl, rfl⟩
  · rw [if_neg moves]
    exact ⟨rfl, rfl⟩

/-- What stands after the loss is logged and shown, before the keystone acts on a module without a locked PLL. -/
structure LossShown (p : Fin 2) (s t : State) : Prop where
  locked : t.clk.pll[p].locked = false
  lostAt : t.clk.pll[p].lostAt = some s.now
  isl : t.isl = s.isl
  mod : t.mod = s.mod
  onB : s.clk.pll[1 - p].locked = true →
    t.clk.onB = if (p == 1) = decide (Island.edge ∈ s.clk.onB) then (switchClocks p s).clk.onB else s.clk.onB

theorem LossShown.of_muted (p : Fin 2) (s : State) (losses : List Nat) (failed : Bool) : LossShown p s (pllMuted p s losses failed) :=
  ⟨(pllMuted_pll p s losses failed).1, (pllMuted_pll p s losses failed).2, (pllMuted_isl p s losses failed).1,
    (pllMuted_isl p s losses failed).2, pllMuted_onB losses failed⟩

theorem LossShown.log {p : Fin 2} {s t : State} (h : LossShown p s t) (code : Nat) (data : List Rat) : LossShown p s (t.log code data) := by
  refine ⟨?_, ?_, ?_, ?_, fun sister => ?_⟩
  · rw [State.log_clk, h.locked]
  · rw [State.log_clk, h.lostAt]
  · rw [State.log_isl, h.isl]
  · rw [State.log_mod, h.mod]
  · rw [State.log_clk, h.onB sister]

theorem LossShown.show {p : Fin 2} {s t : State} (h : LossShown p s t) (word bit : Nat) (b : Bool) :
    LossShown p s (showClocks (t.setBit word bit b)) := ⟨h.locked, h.lostAt, h.isl, h.mod, h.onB⟩

/-- A loss of lock: what is shown of it, then the fence where the sister is out of lock too. -/
theorem pllLoss_shown (p : Fin 2) (s : State) : ∃ u, LossShown p s u ∧ pllLoss p s = if s.clk.pll[1 - p].locked then u else fence .edge u := by
  unfold pllLoss
  extract_lets sister onB wasActive losses failed lost counted sisterOk switched logged declared shown
  have sound : sisterOk = s.clk.pll[1 - p].locked := congrArg PllSt.locked (pllCounted_sister p s losses failed)
  have hSwitched : LossShown p s switched := LossShown.of_muted p s losses failed
  have hLogged : LossShown p s logged := hSwitched.log _ _
  have hDeclared : LossShown p s declared := by
    unfold declared
    by_cases third : failed = true
    · rw [if_pos third]
      exact hLogged.log _ _
    · rw [if_neg third]
      exact hLogged
  exact ⟨shown, hDeclared.show _ _ _, by rw [sound]; rfl⟩

theorem pllLossOfLock_loses {s : State} {p : Fin 2} {e1 e2 : Rat} (locked : s.clk.pll[p].locked = true) (started : s.isl.started = true)
    (active : s.clk.active ≠ none) (settled : justSwitched s = false) (first : 1000 < absR e1) (second : 1000 < absR e2) :
    Completes (.pllLossOfLock ⟨p, (e1, e2)⟩) s fun t => t.clk.pll[p].locked = false ∧ t.clk.pll[p].lostAt = some s.now ∧
      (s.clk.pll[1 - p].locked = true → t.isl.fenced = s.isl.fenced ∧
      t.clk.onB = if (p == 1) = decide (Island.edge ∈ s.clk.onB) then (switchClocks p s).clk.onB else s.clk.onB) ∧
      (s.clk.pll[1 - p].locked = false → s.alive .keystone = true → .edge ∈ t.isl.fenced) := by
  refine ⟨_, congrArg Host.Outcome.next (if_pos (by
    rw [locked, started, Option.isSome_iff_ne_none.2 active, settled, decide_eq_true first, decide_eq_true second]; rfl)), ?_⟩
  obtain ⟨u, shown, loses⟩ := pllLoss_shown p s
  dsimp only
  rw [loses]
  by_cases sister : s.clk.pll[1 - p].locked = true
  · rw [if_pos sister]
    exact ⟨shown.locked, shown.lostAt, fun _ => ⟨congrArg IslandsSt.fenced shown.isl, shown.onB sister⟩,
      fun unlocked => absurd (sister.symm.trans unlocked) (by decide)⟩
  · rw [if_neg sister, show (fence .edge u).clk.pll = u.clk.pll from (keeps_fence .edge u).same (.clk .pll) rfl]
    refine ⟨shown.locked, shown.lostAt, fun ok => absurd ok sister, fun _ alive => mem_fenced_fence ?_ (by decide)⟩
    rw [State.alive, State.fenced, shown.isl, shown.mod]
    exact alive

/-! ### The network PLL (R281) -/

theorem setLink_link (p : Fin 4) (up : Bool) (speed : Nat) (s : State) : (setLink p up speed s).net.link = s.net.link.set p up := by
  unfold setLink
  by_cases already : s.net.link[p] = up
  · rw [if_pos already]
    subst already
    exact (Vector.set_getElem_self p.isLt).symm
  · rw [if_neg already, (keeps_linkReview _).same (.net .link) rfl]
    have shown (u : State) : (showNet u).net = u.net := rfl
    rw [shown, State.log_net]
    rfl

/-- With all four links down none is left. -/
theorem foldl_setLink_down (s : State) : ((List.finRange 4).foldl (fun s p => setLink p false 0 s) s).net.link = .replicate 4 false := by
  refine Vector.ext fun i lt => ?_
  rw [Vector.getElem_replicate]
  refine foldl_establishes (P := fun s => s.net.link[i] = false) (fun s q h => ?_) (List.mem_finRange ⟨i, lt⟩) (fun s => ?_) s
  · rw [setLink_link, Vector.getElem_set, h, ite_self]
  · rw [setLink_link]
    exact Vector.getElem_set_self lt

/-- What follows once the network PLL's loss is logged: the links fall, and NTA and NTB go into holdover. -/
def netFalls (s : State) : State :=
  reviewNta 0 (baseHoldover 1 3 (baseHoldover 0 3 ((List.finRange 4).foldl (fun s p => setLink p false 0 s) (showClocks s))))

abbrev netFallParts : Nat :=
  0x80700000000000000000000008000000000000000000000000000000000000018000010000000000003c00800000000100000000040e0000000000000000000000000000000000000100

theorem keeps_netFalls (s : State) : Keeps netFallParts s (netFalls s) :=
  .step (keeps_reviewNta _ _) (by decide) (.step (keeps_baseHoldover _ _ _) (by decide) (.step (keeps_baseHoldover _ _ _) (by decide)
    (.foldl_mem _ (fun _ _ _ h => .step (keeps_setLink _ _ _ _) (by decide) h) (.step (keeps_showClocks s) (by decide) (.refl s)))))

theorem netFalls_link (s : State) : (netFalls s).net.link = .replicate 4 false := by
  unfold netFalls
  rw [(keeps_reviewNta _ _).same (.net .link) rfl, (keeps_baseHoldover _ _ _).same (.net .link) rfl,
    (keeps_baseHoldover _ _ _).same (.net .link) rfl, foldl_setLink_down]

theorem netPllLoss_falls {s : State} (locked : s.clk.netLocked = true) (room : s.hasRoom 1 = true) : Completes (.netPllLoss) s fun t =>
    t.clk.netLocked = false ∧ t.clk.netLostAt = s.now ∧ t.net.link = .replicate 4 false ∧ newEvent s t 0x500D [0] = true := by
  refine ⟨netFalls ((s.modClk fun c => { c with netLocked := false, netLostAt := s.now }).log 0x500D [0]),
    congrArg Host.Outcome.next (if_neg (by rw [locked]; decide)), ?_⟩
  beta_reduce
  have falls := keeps_netFalls ((s.modClk fun c => { c with netLocked := false, netLostAt := s.now }).log 0x500D [0])
  rw [falls.same (.clk .netLocked) rfl, falls.same (.clk .netLostAt) rfl, State.log_clk]
  exact ⟨rfl, rfl, netFalls_link _, newEvent_keeps falls rfl (newEvent_log (hasRoom_eq room rfl) (le_refl _) rfl)⟩

theorem netPllRelockAttempt_tries {s : State} (locks : Bool) (unlocked : s.clk.netLocked = false) (started : s.isl.started = true)
    (due : 10 * cyclesMs ≤ s.since s.clk.netLostAt) : Completes (.netPllRelockAttempt locks) s fun t =>
      t.clk.netLocked = (locks && s.clk.active.isSome) ∧ t.clk.base = s.clk.base := by
  refine ⟨_, congrArg Host.Outcome.next (if_neg (by rw [unlocked, started, decide_eq_false (Nat.not_lt.2 due)]; decide)), ?_⟩
  beta_reduce
  cases holds : locks && s.clk.active.isSome
  · rw [if_neg Bool.false_ne_true]
    exact ⟨unlocked, rfl⟩
  · rw [if_pos rfl, showClocks_clk, State.log_clk]
    exact ⟨rfl, rfl⟩

/-- Settles O30, clause by clause from the lemmas above. -/
theorem referencesAndLoops : Obligations.ReferencesAndLoops := by
  unfold Obligations.ReferencesAndLoops
  refine ⟨?lost, ?holdover, ?healthy, ?revert, ?stepped, ?within, ?one, ?named, ?quiet, ?lock, ?loss, ?attempt, ?again, ?timeout, ?net, ?relock⟩
  case lost => exact fun _ _ _ on long _ => referenceLost_marks on long
  case holdover => exact fun _ _ on held usable long room => refHoldoverEnd_ends on held usable long room
  case healthy => exact fun _ _ on long usable => referenceHealthy_counts on long usable
  case revert => exact fun _ _ served healthy active => revertRef_returns served healthy active
  case stepped => exact fun _ _ _ _ clock active due _ stepped => referenceFreqCheck_stepped clock active due stepped
  case within => exact fun _ _ _ clock active due within => referenceFreqCheck_within clock active due within
  case one => exact fun _ _ d net refs alive due other => clockMonitorCheck_one d net refs alive due other
  case named =>
    intro s islands net refs i d alive due other named off
    have acts : (grossChecked refs s).alive .keystone = true := (grossChecked_alive refs s).trans alive
    exact ⟨_, clockMonitorCheck_checks islands net refs alive due,
      foldl_fence_mem (mem_monitored (List.contains_iff_mem.1 named) other off) other acts⟩
  case quiet => exact fun _ _ _ _ alive due sound netSound refsSound => clockMonitorCheck_within alive due sound netSound refsSound
  case lock => exact fun _ _ _ on quiet unlocked sound fresh active => pllLock_first on quiet unlocked sound fresh active
  case loss => exact fun _ _ _ _ locked started active settled first second =>
    pllLossOfLock_loses locked started active settled first second
  case attempt => exact fun _ _ _ gone sound unlocked idle due clock => pllRelockAttempt_starts gone sound unlocked idle due clock
  case again => exact fun _ _ _ _ _ on quiet unlocked sound gone tried within clock active started room =>
    pllLock_again on quiet unlocked sound gone tried within clock active started room
  case timeout => exact fun _ _ _ tried due => pllRelockTimeout_ends tried due
  case net => exact fun _ locked room => netPllLoss_falls locked room
  case relock => exact fun _ locks unlocked started due => netPllRelockAttempt_tries locks unlocked started due

end Sys2Proof.Machine
end

section
/-!
PROOF. Chapter 15, CLEAR_SOC (R364).
-/

namespace Sys2Proof.Machine

-- One declaration after another, so that the whole text compiles within its memory.
set_option Elab.async false

/-! ### Requests by code -/

/-- A request that its operation refuses is answered with the abort code. -/
theorem request_refused {s t : State} {w : Writer} {i : Island} {f : State → Nat × State} {code : Nat} (reaches : s.reaches w = true)
    (house : s.alive .house = true) (alive : s.alive i = true) (here : s.standsBy w = false) (key : Nat) (effect : f s = (code, t))
    (refused : code ≠ 0) : request w key i f s = t.reply w key code := by
  unfold request
  rw [if_neg (by rw [reaches]; decide), if_neg (by rw [house]; decide), if_neg (by rw [alive]; decide), if_neg (by rw [here]; decide),
    effect, if_neg refused]

/-- A request whose operation leaves the state as it is changes no more than its answer does. -/
theorem request_idle_shape {s : State} {w : Writer} (key : Nat) (i : Island) {f : State → Nat × State} (idle : (f s).2 = s) :
    ∃ tx objs net, request w key i f s = { s with tx := tx, objs := objs, net := net } := by
  obtain ⟨u, same | same, shape⟩ := request_shape w key i f s
  · exact same ▸ shape
  · exact same.trans idle ▸ shape

/-! ### The answer at every port -/

/-- A response leaves by its port; at a CAN port only while the port sends (R333, R338). -/
theorem State.mem_tx_respond {s : State} {c se kind : Nat} {data : List Int}
    (sends : c = 5 ∨ c = 6 → canSends s (Fin.ofNat 2 (c - 5)) = true) : (⟨c, kind, data⟩ : TxFrame) ∈ (s.respond c se kind data).tx := by
  unfold State.respond
  split
  · next spi => exact spi ▸ List.mem_cons_self
  · split
    · next can =>
      have port : (Fin.ofNat 2 (c - 5)).val = c - 5 := by rcases can with rfl | rfl <;> rfl
      have free := sends can
      simp only [canSends, canOn, port, Bool.and_eq_true, Bool.not_eq_true'] at free
      obtain ⟨⟨⟨⟨on, up⟩, _⟩, primary⟩, active⟩ := free
      rw [if_pos (by rw [on, up, primary, active]; rfl)]
      exact List.mem_cons_self
    · exact List.mem_cons_self

theorem canSends_congr {s t : State} {c : Fin 2} (config : t.bit (Obj.NET_CAN_CFG c.val) 5 = s.bit (Obj.NET_CAN_CFG c.val) 5)
    (net : t.net = s.net) (isl : t.isl = s.isl) (twn : t.twn = s.twn)
    (mod : t.mod = s.mod) : canSends t c = canSends s c := by
  simp only [canSends, canOn, State.alive, State.fenced, State.viaductSecondary, State.standby, config, net, isl, twn, mod]

theorem canSends_noteAbort (s : State) (c : Fin 2) (port key abort : Nat) : canSends (s.noteAbort port key abort) c = canSends s c := by
  have kept := keeps_State_noteAbort s port key abort
  have config : objGroup (Obj.NET_CAN_CFG c.val) = .net := by revert c; decide
  have bit := kept.bit' (Obj.NET_CAN_CFG c.val) 5 (by rw [config]; rfl) rfl
  obtain ⟨objs, shape⟩ := State.noteAbort_shape s port key abort
  exact canSends_congr bit (by rw [shape]) (by rw [shape]) (by rw [shape]) (by rw [shape])

theorem canSends_renew (s : State) (c : Fin 2) (w : Writer) (accepted : Bool) : canSends (s.renew w accepted) c = canSends s c := rfl

theorem State.mem_tx_reply {s : State} {c se key abort : Nat} (sends : c = 5 ∨ c = 6 → canSends s (Fin.ofNat 2 (c - 5)) = true) :
    (⟨c, 1, [c + 16 * se, key, abort]⟩ : TxFrame) ∈ (s.reply (.port c se) key abort).tx := by
  unfold State.reply
  refine State.mem_tx_respond fun can => ?_
  split
  · rw [canSends_renew, sends can]
  · rw [canSends_noteAbort, canSends_renew, sends can]

/-! ### CLEAR_SOC -/

/-- Service access and a quiet mode let the writer through. -/
theorem serves_of_service {s : State} {w : Writer} {i : Island} (reaches : s.reaches w = true) (house : s.alive .house = true)
    (alive : s.alive i = true) (here : s.standsBy w = false) (quiet : s.mod.mode = .ready ∨ s.mod.mode = .lockout) :
    s.serves w i = true := by
  have accepts : s.accepts w = true := by
    cases w with
    | logic => rfl
    | port c se => rcases quiet with mode | mode <;> simp only [State.accepts, mode] <;> rfl
  simp only [State.serves, reaches, house, alive, here, accepts]
  rfl

theorem State.modSoc_self (i : SocId) (f : SocSt → SocSt) (s : State) : (s.modSoc i f).saf.soc[i] = f s.saf.soc[i] :=
  vset_self _ i _ i.isLt

theorem clearSoc_releases {s : State} {n : SocId} {w : Writer} (service : serviceOk s w = true)
    (quiet : s.mod.mode = .ready ∨ s.mod.mode = .lockout) (contact : auxEnergised s n = false) (room : s.hasRoom 1 = true) :
    ∃ t, clearSoc n true w s = (0, t) ∧ t.saf.soc[n].fault = false ∧ newEvent s t 0x8015 [n.val + 1] = true := by
  unfold clearSoc
  rw [if_neg (by rw [service]; decide), if_neg (by rcases quiet with mode | mode <;> rw [mode, contact] <;> decide)]
  refine ⟨_, rfl, ?_, ?_⟩
  · rw [showSoc_saf, State.log_saf, State.setBit_saf]
    have released := State.modSoc_self n (fun x : SocSt => { x with fault := false, awaited := false }) s
    split <;> exact congrArg SocSt.fault released
  · refine newEvent_keeps (keeps_showSoc n _) rfl (newEvent_log ?_ ?_ ?_)
    · split <;> exact room
    · split <;> exact Nat.le_refl _
    · split <;> rfl

theorem clearSoc_refused {s : State} {n : SocId} {testsPass : Bool} {w : Writer} (service : serviceOk s w = true)
    (failed : testsPass = false ∨ auxEnergised s n = true) : clearSoc n testsPass w s = (0x08000022, s) :=
  (if_neg (by rw [service]; decide)).trans (if_pos (by rcases failed with e | e <;> simp [e]))

theorem clearSoc_ignored {s : State} (n : SocId) (testsPass : Bool) {w : Writer}
    (barred : serviceOk s w = false ∨ (s.mod.mode ≠ .ready ∧ s.mod.mode ≠ .lockout)) : (clearSoc n testsPass w s).2 = s := by
  unfold clearSoc
  split
  · rfl
  · next service =>
    have mode : s.mod.mode ≠ .ready ∧ s.mod.mode ≠ .lockout := barred.resolve_left fun e => service (by rw [e]; rfl)
    rw [if_pos (by simp [mode])]

/-- Settles O54: accepted, refused and barred. -/
theorem clearSocReleasesFault : Obligations.ClearSoc := by
  unfold Obligations.ClearSoc
  refine ⟨?accepted, ?refused, ?barred⟩
  case accepted =>
    intro s n w reaches house keystone here service quiet contact room
    obtain ⟨t, effect, released, logged⟩ := clearSoc_releases service quiet contact room
    obtain ⟨tx, net, answered⟩ := request_accepted_shape (serves_of_service reaches house keystone here quiet) Obj.SAF_CMD effect
    exact ⟨_, congrArg Host.Outcome.next answered, released, logged⟩
  case refused =>
    rintro s n testsPass _ c se rfl reaches house keystone here service quiet failed sends
    refine ⟨_, congrArg Host.Outcome.next
      (request_refused reaches house keystone here Obj.SAF_CMD (clearSoc_refused service failed) (by decide)), ?_, State.mem_tx_reply sends⟩
    obtain ⟨tx, objs, net, answered⟩ := State.reply_shape s (.port c se) Obj.SAF_CMD 0x08000022
    rw [answered]
  case barred =>
    intro s n testsPass w barred
    obtain ⟨tx, objs, net, answered⟩ := request_idle_shape Obj.SAF_CMD .keystone (clearSoc_ignored n testsPass barred)
    exact ⟨_, congrArg Host.Outcome.next answered, rfl, rfl⟩

end Sys2Proof.Machine
end

section
/-!
PROOF. Chapter 15, safe output contactors (R361, R362, R363, R365).
-/

namespace Sys2Proof.Machine

-- One declaration after another, so that the whole text compiles within its memory.
set_option Elab.async false

/-! ### Reading one object after a write to another -/

theorem State.obj_setObj_ne {k k' : Nat} (ne : k ≠ k') (dflt : (defaultAt k).isSome = true) (v : Val) (s : State) :
    (s.setObj k' v).obj k = s.obj k := by
  obtain ⟨d, found⟩ := Option.isSome_iff_exists.1 dflt
  rw [State.obj, State.obj, State.setObj_objs, cellGet_cellPut_ne ne, found]
  rfl

theorem State.objN_setN_ne {k k' : Nat} (ne : k ≠ k') (dflt : (defaultAt k).isSome = true) (x : Nat) (s : State) :
    (s.setN k' x).objN k = s.objN k := by
  rw [State.objN, State.setN, State.obj_setObj_ne ne dflt, State.objN]

theorem State.bit_setN_ne {k k' : Nat} (ne : k ≠ k') (dflt : (defaultAt k).isSome = true) (j x : Nat) (s : State) :
    (s.setN k' x).bit k j = s.bit k j := by
  rw [State.bit, State.field, State.objN_setN_ne ne dflt, State.bit, State.field]

theorem State.bit_setBit_ne {k k' : Nat} (ne : k ≠ k') (dflt : (defaultAt k).isSome = true) (j j' : Nat) (b : Bool) (s : State) :
    (s.setBit k' j' b).bit k j = s.bit k j :=
  State.bit_setN_ne ne dflt j _ s

theorem State.log_of_room {s : State} (room : s.hasRoom 1 = true) (c : Nat) (d : List Rat) : s.log c d = { s with
    logBuf := s.logBuf ++ [⟨s.logSeq, c, s.isl.mt, s.objN Obj.TIM_BOOT_COUNT, d⟩], logSeq := s.logSeq + 1 } :=
  if_pos (of_decide_eq_true room)

theorem State.log_bit {s : State} (room : s.hasRoom 1 = true) (c : Nat) (d : List Rat) (k j : Nat) : (s.log c d).bit k j = s.bit k j := by
  rw [State.log_of_room room]
  rfl

theorem defaultAt_SAF_SOC_STATUS (i : SocId) : defaultAt (Obj.SAF_SOC_STATUS i) = some (.int 0) := by
  revert i
  decide +kernel

theorem defaultAt_SAF_SOC_PROOF (i : SocId) : (defaultAt (Obj.SAF_SOC_PROOF i)).isSome = true := by
  revert i
  decide +kernel

theorem SAF_SOC_STATUS_ne_SAF_STATUS (i : SocId) : Obj.SAF_SOC_STATUS i ≠ Obj.SAF_STATUS := by
  revert i
  decide

theorem State.wf_modSoc {s : State} (wf : cellsWf s.objs = true) (i : SocId) (f : SocSt → SocSt) : cellsWf (s.modSoc i f).objs = true := wf

/-! ### The words that show a contactor -/

theorem showDrv_SAF_SOC_STATUS (i : SocId) (s : State) (j : Nat) : (showDrv i s).bit (Obj.SAF_SOC_STATUS i) j = s.bit (Obj.SAF_SOC_STATUS i) j :=
  (keeps_showDrv i s).bit' (Obj.SAF_SOC_STATUS i) j (by rw [group_SAF_SOC_STATUS]; rfl) rfl

/-- SAF_SOC_STATUS shows command, fault and running test of its contactor (Table 15.6). -/
theorem showSoc_status {s : State} (wf : cellsWf s.objs = true) (i : SocId) :
    (showSoc i s).bit (Obj.SAF_SOC_STATUS i) 0 = s.saf.soc[i].cmd ∧ (showSoc i s).bit (Obj.SAF_SOC_STATUS i) 2 = s.saf.soc[i].fault ∧
    (showSoc i s).bit (Obj.SAF_SOC_STATUS i) 4 = s.saf.soc[i].test.isSome := by
  have other (j j' : Nat) (b : Bool) (t : State) : (t.setBit Obj.SAF_STATUS j' b).bit (Obj.SAF_SOC_STATUS i) j = t.bit (Obj.SAF_SOC_STATUS i) j :=
    State.bit_setBit_ne (SAF_SOC_STATUS_ne_SAF_STATUS i) (by rw [defaultAt_SAF_SOC_STATUS]; rfl) j j' b t
  have wf0 := State.wf_setBit wf (Obj.SAF_SOC_STATUS i) 0 s.saf.soc[i].cmd
  have wf1 := State.wf_setBit wf0 (Obj.SAF_SOC_STATUS i) 1 s.saf.soc[i].energised
  have wf2 := State.wf_setBit wf1 (Obj.SAF_SOC_STATUS i) 2 s.saf.soc[i].fault
  unfold showSoc
  simp only [showDrv_SAF_SOC_STATUS, other]
  refine ⟨?_, ?_, State.bit_setBit wf2 _ _ _⟩
  · rw [State.bit_setBit_above wf2 _ (by decide), State.bit_setBit_above wf1 _ (by decide), State.bit_setBit_above wf0 _ (by decide),
      State.bit_setBit wf]
  · rw [State.bit_setBit_above wf2 _ (by decide), State.bit_setBit wf1]

theorem showSoc_operations (i : SocId) (s : State) :
    (showSoc i s).objN (Obj.SAF_SOC_OPERATIONS i) = s.objN (Obj.SAF_SOC_OPERATIONS i) :=
  (keeps_showSoc i s).objN _ (by rw [group_SAF_SOC_OPERATIONS]; rfl) rfl

/-! ### Requests to close and to open (R361) -/

theorem socClose_closes {s : State} {n : SocId} (active : s.standby = false) (idle : s.saf.soc[n].test = none)
    (out : s.saf.soc[n].cmd = false) (free : socRefusal s n = none) (inv : Inv s) :
    let t := socClose n s
    t.saf.soc[n].cmd = true ∧ t.saf.soc[n].cmdAt = s.now ∧ t.saf.soc[n].awaited = true ∧
    t.objN (Obj.SAF_SOC_OPERATIONS n) = s.objN (Obj.SAF_SOC_OPERATIONS n) + 1 ∧ t.bit (Obj.SAF_SOC_STATUS n) 0 = true := by
  extract_lets t
  have shape : t = showSoc n ((s.modSoc n fun x => { x with
      cmd := true, cmdAt := s.now, awaited := true, disc := s.objN (Obj.SAF_SOC_DISC n) * cyclesMs }).bump (Obj.SAF_SOC_OPERATIONS n)) := by
    show socClose n s = _
    unfold socClose
    rw [if_neg (by rw [active]; decide), if_neg (by rw [idle]; decide), if_neg (by rw [out]; decide), free]
  have closed := State.modSoc_self n (fun x : SocSt => { x with
      cmd := true, cmdAt := s.now, awaited := true, disc := s.objN (Obj.SAF_SOC_DISC n) * cyclesMs }) s
  have wf : cellsWf (s.modSoc n fun x => { x with
      cmd := true, cmdAt := s.now, awaited := true, disc := s.objN (Obj.SAF_SOC_DISC n) * cyclesMs }).objs = true := inv.objs
  rw [shape]
  refine ⟨?_, ?_, ?_, ?_, ?_⟩
  · rw [showSoc_saf, State.bump_saf, closed]
  · rw [showSoc_saf, State.bump_saf, closed]
  · rw [showSoc_saf, State.bump_saf, closed]
  · rw [showSoc_operations, State.objN_bump wf]
    rfl
  · rw [(showSoc_status (State.wf_bump wf _) n).1, State.bump_saf, closed]

theorem socCloseRequest_closes {s : State} {n : SocId} (alive : s.alive .keystone = true) (owned : socOwned s n = true)
    (active : s.standby = false) (idle : s.saf.soc[n].test = none) (out : s.saf.soc[n].cmd = false) (free : socRefusal s n = none)
    (inv : Inv s) : Completes (.socCloseRequest n) s fun t => t.saf.soc[n].cmd = true ∧ t.saf.soc[n].cmdAt = s.now ∧
      t.saf.soc[n].awaited = true ∧ t.objN (Obj.SAF_SOC_OPERATIONS n) = s.objN (Obj.SAF_SOC_OPERATIONS n) + 1 ∧
      t.bit (Obj.SAF_SOC_STATUS n) 0 = true :=
  ⟨_, congrArg Host.Outcome.next ((State.on_of_alive alive _).trans (if_pos owned)), socClose_closes active idle out free inv⟩

theorem socCloseRequest_refused {s : State} {n : SocId} {cause : Nat} (alive : s.alive .keystone = true) (owned : socOwned s n = true)
    (active : s.standby = false) (idle : s.saf.soc[n].test = none) (out : s.saf.soc[n].cmd = false) (refused : socRefusal s n = some cause)
    (room : s.hasRoom 1 = true) : Completes (.socCloseRequest n) s fun t => t.saf.soc = s.saf.soc ∧
      newEvent s t 0x8010 [n.val + 1, cause] = true := by
  have shape : socClose n s = s.log 0x8010 [n.val + 1, cause] := by
    unfold socClose
    rw [if_neg (by rw [active]; decide), if_neg (by rw [idle]; decide), if_neg (by rw [out]; decide), refused]
  refine ⟨_, congrArg Host.Outcome.next ((State.on_of_alive alive _).trans ((if_pos owned).trans shape)), ?_, newEvent_log room le_rfl rfl⟩
  rw [State.log_saf]

theorem socOpenRequest_opens {s : State} {n : SocId} (alive : s.alive .keystone = true) (owned : socOwned s n = true)
    (idle : s.saf.soc[n].test = none) (closed : s.saf.soc[n].cmd = true) (inv : Inv s) :
    Completes (.socOpenRequest n) s fun t => t.saf.soc[n].cmd = false ∧ t.saf.soc[n].cmdAt = s.now ∧ t.saf.soc[n].awaited = true ∧
      t.bit (Obj.SAF_SOC_STATUS n) 0 = false := by
  refine ⟨_, congrArg Host.Outcome.next ((State.on_of_alive alive _).trans ((if_pos owned).trans
    ((if_neg (by rw [idle]; decide)).trans (if_neg (by rw [closed]; decide))))), ?_⟩
  have opened := State.modSoc_self n (fun x : SocSt => { x with
    cmd := false, cmdAt := s.now, awaited := true, disc := s.objN (Obj.SAF_SOC_DISC n) * cyclesMs }) s
  refine ⟨?_, ?_, ?_, ?_⟩
  · rw [showSoc_saf, opened]
  · rw [showSoc_saf, opened]
  · rw [showSoc_saf, opened]
  · exact (showSoc_status (State.wf_modSoc inv.objs n _) n).1.trans (congrArg SocSt.cmd opened)

theorem socOpenRequest_waits {s : State} {n : SocId} {p : Bool × Nat × Nat} (alive : s.alive .keystone = true)
    (owned : socOwned s n = true) (testing : s.saf.soc[n].test = some p) :
    Completes (.socOpenRequest n) s fun t => t = s.modSoc n fun x => { x with wish := some false } :=
  ⟨_, congrArg Host.Outcome.next ((State.on_of_alive alive _).trans ((if_pos owned).trans (if_pos (by rw [testing]; rfl)))), rfl⟩

/-! ### Test pulses (R362) -/

theorem socSwitchTest_starts {s : State} {n : SocId} (alive : s.alive .keystone = true) (owned : socOwned s n = true)
    (idle : s.saf.soc[n].test = none) (sound : s.saf.soc[n].fault = false)
    (due : s.objN (Obj.SAF_SOC_TEST_PERIOD n) * cyclesSec ≤ s.since s.saf.soc[n].testAt) (inv : Inv s) :
    Completes (.socSwitchTest n) s fun t =>
      t.saf.soc[n].test = some (s.saf.soc[n].nextHigh, s.now, cyclesUs (s.objN (Obj.SAF_SOC_PULSE n))) ∧
      t.saf.soc[n].testAt = s.now ∧ t.saf.soc[n].cmd = s.saf.soc[n].cmd ∧ t.bit (Obj.SAF_SOC_STATUS n) 4 = true := by
  refine ⟨_, congrArg Host.Outcome.next ((State.on_of_alive alive _).trans (if_neg ?_)), ?_⟩
  · rw [owned, idle, sound, decide_eq_false (Nat.not_lt.2 due)]
    decide
  have started := State.modSoc_self n (fun x : SocSt => { x with
    test := some (x.nextHigh, s.now, cyclesUs (s.objN (Obj.SAF_SOC_PULSE n))), testAt := s.now }) s
  refine ⟨?_, ?_, ?_, ?_⟩
  · rw [showSoc_saf, started]
  · rw [showSoc_saf, started]
  · rw [showSoc_saf, started]
  · exact (showSoc_status (State.wf_modSoc inv.objs n _) n).2.2.trans (congrArg (fun x : SocSt => x.test.isSome) started)

/-- A latched fault stands in the list of latched faults (R357). -/
theorem latchFault_saf (code : Nat) (data : List Rat) (s : State) : (latchFault code data s).saf = { s.saf with
    latched := if s.saf.latched.contains code then s.saf.latched else code :: s.saf.latched } := by
  unfold latchFault
  exact State.log_saf _ code data

theorem latchFault_latched (code : Nat) (data : List Rat) (s : State) : code ∈ (latchFault code data s).saf.latched := by
  rw [latchFault_saf]
  split
  next held => exact List.contains_iff_mem.1 held
  next => exact List.mem_cons_self

theorem latchFault_event {s u : State} (code : Nat) (data : List Rat) (room : u.hasRoom 1 = true) (seq : s.logSeq ≤ u.logSeq)
    (mt : u.isl.mt = s.isl.mt) : newEvent s (latchFault code data u) code data = true :=
  newEvent_demandLockout (newEvent_congr rfl (newEvent_log (t := u.modSaf fun x => { x with
    latched := if x.latched.contains code then x.latched else code :: x.latched }) room seq mt))

/-- A latched fault shows in SAF_STATUS bit 3 (R357, Table 15.7). -/
theorem latchFault_status {s : State} (wf : cellsWf s.objs = true) (room : s.hasRoom 1 = true) (code : Nat) (data : List Rat) :
    (latchFault code data s).bit Obj.SAF_STATUS 3 = true := by
  refine State.bit_setBit ?_ Obj.SAF_STATUS 3 true
  rw [State.log_objs (s := s.modSaf _) room]
  exact wf

theorem latchFault_lockout (code : Nat) (data : List Rat) (s : State) :
    (latchFault code data s).mod.lockoutPending = s.mod.lockoutPending ++ [code] := by
  unfold latchFault
  rw [demandLockout_mod, State.setBit_mod, State.log_mod]
  rfl

/-- A contactor that latches its fault is de-energised and waits for nothing. -/
theorem socFault_saf (i : SocId) (s : State) : (socFault i s).saf.soc[i] =
    { s.saf.soc[i] with fault := true, cmd := false, awaited := false, test := none, wish := none } := by
  unfold socFault
  rw [showSoc_saf]
  exact State.modSoc_self i (fun x : SocSt => { x with fault := true, cmd := false, awaited := false, test := none, wish := none }) s

theorem socTestPulseEnd_failed {s : State} {n : SocId} {high : Bool} {start len : Nat} (alive : s.alive .keystone = true)
    (testing : s.saf.soc[n].test = some (high, start, len)) (elapsed : len ≤ s.since start) (room : s.hasRoom 1 = true) :
    Completes (.socTestPulseEnd n false) s fun t => t.saf.soc[n].test = none ∧ t.saf.soc[n].fault = true ∧ t.saf.soc[n].cmd = false ∧
      0x8013 ∈ t.saf.latched ∧ newEvent s t 0x8013 [n.val + 1, boolNat high] = true := by
  refine ⟨_, congrArg Host.Outcome.next (State.on_of_alive alive _), ?_⟩
  beta_reduce
  extract_lets x
  rw [show x.test = some (high, start, len) from testing]
  dsimp only
  rw [if_neg (Nat.not_lt.2 elapsed), if_pos (by decide)]
  have kept := keeps_socFault n (s.modSoc n fun x => { x with test := none, nextHigh := !high, wish := none })
  refine ⟨?_, ?_, ?_, latchFault_latched _ _ _,
    latchFault_event _ _ (hasRoom_eq room (kept.same .log rfl).1) kept.seq (kept.same (.isl .mt) rfl)⟩
  · rw [latchFault_saf, socFault_saf]
  · rw [latchFault_saf, socFault_saf]
  · rw [latchFault_saf, socFault_saf]

theorem socTestPulseEnd_passed {s : State} {n : SocId} {high : Bool} {start len : Nat} (alive : s.alive .keystone = true)
    (testing : s.saf.soc[n].test = some (high, start, len)) (elapsed : len ≤ s.since start) (unasked : s.saf.soc[n].wish = none) :
    Completes (.socTestPulseEnd n true) s fun t => t.saf.soc[n].test = none ∧ t.saf.soc[n].nextHigh = !high ∧
      t.saf.soc[n].cmd = s.saf.soc[n].cmd ∧ t.saf.soc[n].fault = s.saf.soc[n].fault ∧ t.saf.latched = s.saf.latched := by
  refine ⟨_, congrArg Host.Outcome.next (State.on_of_alive alive _), ?_⟩
  beta_reduce
  extract_lets x
  rw [show x.test = some (high, start, len) from testing]
  dsimp only
  rw [if_neg (Nat.not_lt.2 elapsed), if_neg (by decide), show x.wish = none from unasked]
  dsimp only
  have now := State.modSoc_self n (fun x : SocSt => { x with test := none, nextHigh := !high, wish := none }) s
  rw [showSoc_saf, now]
  exact ⟨rfl, rfl, rfl, rfl, rfl⟩

/-! ### Discrepancies (R363) and the proof test (R365) -/

theorem socCloseDiscrepancy_faults {s : State} {n : SocId} (alive : s.alive .keystone = true) (closed : s.saf.soc[n].cmd = true)
    (awaited : s.saf.soc[n].awaited = true) (elapsed : s.saf.soc[n].disc ≤ s.since s.saf.soc[n].cmdAt) (room : s.hasRoom 1 = true)
    (inv : Inv s) : Completes (.socCloseDiscrepancy n) s fun t => t.saf.soc[n].fault = true ∧ t.saf.soc[n].cmd = false ∧
      t.bit (Obj.SAF_SOC_STATUS n) 2 = true ∧ newEvent s t 0x8011 [n.val + 1] = true := by
  refine ⟨_, congrArg Host.Outcome.next ((State.on_of_alive alive _).trans
    (if_pos (by rw [closed, awaited, decide_eq_true elapsed]; rfl))), ?_⟩
  have faulted := socFault_saf n (s.log 0x8011 [n.val + 1])
  refine ⟨by rw [faulted], by rw [faulted], ?_, newEvent_keeps (keeps_socFault n _) rfl (newEvent_log room le_rfl rfl)⟩
  have wf : cellsWf (s.log 0x8011 [n.val + 1]).objs = true := by rw [State.log_objs room]; exact inv.objs
  exact (showSoc_status (State.wf_modSoc wf n _) n).2.1.trans
    (congrArg SocSt.fault (State.modSoc_self n (fun x : SocSt => { x with
      fault := true, cmd := false, awaited := false, test := none, wish := none }) _))

theorem socOpenDiscrepancy_faults {s : State} {n : SocId} (alive : s.alive .keystone = true) (out : s.saf.soc[n].cmd = false)
    (awaited : s.saf.soc[n].awaited = true) (energised : s.saf.soc[n].energised = true)
    (elapsed : s.saf.soc[n].disc ≤ s.since s.saf.soc[n].cmdAt) (room : s.hasRoom 1 = true) (inv : Inv s) :
    Completes (.socOpenDiscrepancy n) s fun t => t.saf.soc[n].fault = true ∧ 0x8012 ∈ t.saf.latched ∧ t.bit Obj.SAF_STATUS 3 = true ∧
      t.mod.lockoutPending = s.mod.lockoutPending ++ [0x8012] ∧ newEvent s t 0x8012 [n.val + 1] = true := by
  refine ⟨_, congrArg Host.Outcome.next ((State.on_of_alive alive _).trans
    (if_pos (by rw [out, awaited, energised, decide_eq_true elapsed]; rfl))), ?_⟩
  have kept := keeps_socFault n s
  have room' : (socFault n s).hasRoom 1 = true := hasRoom_eq room (kept.same .log rfl).1
  refine ⟨?_, latchFault_latched _ _ _, latchFault_status (kept.inv inv).objs room' _ _, ?_,
    latchFault_event _ _ room' kept.seq (kept.same (.isl .mt) rfl)⟩
  · rw [latchFault_saf, socFault_saf]
  · rw [latchFault_lockout, kept.lockoutPending rfl]

theorem socProofDue_announced {s : State} {n : SocId} (alive : s.alive .keystone = true) (energised : s.saf.soc[n].energised = true)
    (due : s.objN (Obj.SAF_SOC_PROOF n) * cyclesHour ≤ s.since s.saf.soc[n].energisedAt)
    (unannounced : s.bit (Obj.SAF_SOC_STATUS n) 3 = false) (room : s.hasRoom 1 = true) (inv : Inv s) :
    Completes (.socProofDue n) s fun t => t.bit (Obj.SAF_SOC_STATUS n) 3 = true ∧ t.bit Obj.SAF_STATUS (20 + n.val) = true ∧
      t.saf = s.saf ∧ newEvent s t 0x8014 [n.val + 1, mkRat (s.since s.saf.soc[n].energisedAt : Nat) cyclesHour] = true := by
  have status : (defaultAt (Obj.SAF_SOC_STATUS n)).isSome = true := by rw [defaultAt_SAF_SOC_STATUS]; rfl
  refine ⟨_, congrArg Host.Outcome.next (State.on_of_alive alive _), ?_⟩
  unfold proofReview
  extract_lets x counted
  have period : counted.objN (Obj.SAF_SOC_PROOF n) = s.objN (Obj.SAF_SOC_PROOF n) := State.objN_setN_ne (by unfold Obj.SAF_SOC_PROOF Obj.SAF_SOC_SINCE_PROOF; omega) (defaultAt_SAF_SOC_PROOF n) _ s
  have before : counted.bit (Obj.SAF_SOC_STATUS n) 3 = s.bit (Obj.SAF_SOC_STATUS n) 3 := State.bit_setN_ne (by unfold Obj.SAF_SOC_STATUS Obj.SAF_SOC_SINCE_PROOF; omega) status 3 _ s
  have wf : cellsWf counted.objs = true := State.wf_setN inv.objs _ _
  have shown : ((counted.setBit (Obj.SAF_SOC_STATUS n) 3 true).setBit Obj.SAF_STATUS (20 + n.val) true).hasRoom 1 = true := room
  rw [if_pos (by rw [show x.energised = true from energised, period, before, unannounced,
    show decide (_ ≤ counted.since x.energisedAt) = true from decide_eq_true due]; rfl)]
  refine ⟨?_, ?_, ?_, newEvent_log shown le_rfl rfl⟩
  · rw [State.log_bit shown]
    exact (State.bit_setBit_ne (SAF_SOC_STATUS_ne_SAF_STATUS n) status 3 _ true _).trans (State.bit_setBit wf _ 3 true)
  · rw [State.log_bit shown]
    exact State.bit_setBit (State.wf_setBit wf _ 3 true) Obj.SAF_STATUS (20 + n.val) true
  · rw [State.log_saf]
    rfl

/-- Settles O40, clause by clause from the lemmas above. -/
theorem contactorControl : Obligations.ContactorControl := by
  unfold Obligations.ContactorControl
  refine ⟨?closes, ?refused, ?opens, ?waits, ?test, ?failed, ?passed, ?unclosed, ?unopened, ?proof⟩
  case closes => exact fun _ _ alive owned active idle out free inv => socCloseRequest_closes alive owned active idle out free inv
  case refused => exact fun _ _ _ alive owned active idle out cause room => socCloseRequest_refused alive owned active idle out cause room
  case opens => exact fun _ _ alive owned idle closed inv => socOpenRequest_opens alive owned idle closed inv
  case waits => exact fun _ _ _ alive owned testing => socOpenRequest_waits alive owned testing
  case test => exact fun _ _ alive owned idle sound due inv => socSwitchTest_starts alive owned idle sound due inv
  case failed => exact fun _ _ _ _ _ alive testing elapsed room => socTestPulseEnd_failed alive testing elapsed room
  case passed => exact fun _ _ _ _ _ alive testing elapsed unasked => socTestPulseEnd_passed alive testing elapsed unasked
  case unclosed => exact fun _ _ alive closed awaited elapsed room inv => socCloseDiscrepancy_faults alive closed awaited elapsed room inv
  case unopened => exact fun _ _ alive out awaited energised elapsed room inv => socOpenDiscrepancy_faults alive out awaited energised elapsed room inv
  case proof => exact fun _ _ alive energised due unannounced room inv => socProofDue_announced alive energised due unannounced room inv

end Sys2Proof.Machine
end

section
/-!
PROOF. Chapter 15, the keystone's diagnostics (R355, R356, R357, R443).
-/

namespace Sys2Proof.Machine

-- One declaration after another, so that the whole text compiles within its memory.
set_option Elab.async false

/-! ### A halted keystone (R355) -/

theorem refreshPermissions_pulseEnable (s : State) : (refreshPermissions s).isl.pulseEnable = Vector.ofFn fun g => pulseFor s g := by
  unfold refreshPermissions
  extract_lets granted pulses lines opened
  have shown : (showField opened).isl.pulseEnable = opened.isl.pulseEnable := (keeps_showField opened).same (.isl .pulseEnable) rfl
  rw [shown]
  show (if granted then lines else allSocs.foldl (fun s i => socOpenNow i s) lines).isl.pulseEnable = _
  split
  · rfl
  · exact foldl_keeps (get := fun s => s.isl.pulseEnable) (fun s i => (keeps_socOpenNow i s).same (.isl .pulseEnable) rfl) allSocs lines

theorem refreshPermissions_contactorEnable (s : State) : (refreshPermissions s).isl.contactorEnable = contactorFor s := by
  unfold refreshPermissions
  extract_lets granted pulses lines opened
  have shown : (showField opened).isl.contactorEnable = opened.isl.contactorEnable :=
    (keeps_showField opened).same (.isl .contactorEnable) rfl
  rw [shown]
  show (if granted then lines else allSocs.foldl (fun s i => socOpenNow i s) lines).isl.contactorEnable = _
  split
  · rfl
  · exact foldl_keeps (get := fun s => s.isl.contactorEnable) (fun s i => (keeps_socOpenNow i s).same (.isl .contactorEnable) rfl) allSocs lines

/-- Halted cores grant nothing. -/
theorem refreshPermissions_halted {s : State} (halted : s.saf.halted = true) :
    (refreshPermissions s).isl.contactorEnable = false ∧ (refreshPermissions s).isl.pulseEnable = .replicate 6 false := by
  have none : keystoneGrants s = false := by
    unfold keystoneGrants
    rw [halted, Bool.not_true, Bool.and_false, Bool.false_and, Bool.false_and, Bool.false_and, Bool.false_and]
  have lapsed (g : GdId) : pulseFor s g = false := by
    unfold pulseFor
    rw [none, Bool.false_and, Bool.false_and, Bool.false_and, Bool.false_and]
  refine ⟨?_, ?_⟩
  · rw [refreshPermissions_contactorEnable, contactorFor, none, Bool.false_and]
  · rw [refreshPermissions_pulseEnable, funext lapsed]
    rfl

theorem refreshPermissions_halted_latched (s : State) :
    (refreshPermissions s).saf.halted = s.saf.halted ∧ (refreshPermissions s).saf.latched = s.saf.latched :=
  ⟨(keeps_refreshPermissions s).same (.saf .halted) rfl, (keeps_refreshPermissions s).same (.saf .latched) rfl⟩

theorem lockstepMismatch_halts {s : State} (alive : s.alive .keystone = true) (running : s.saf.halted = false)
    (room : s.hasRoom 1 = true) : Completes .lockstepMismatch s fun t => t.saf.halted = true ∧ t.isl.contactorEnable = false ∧
      t.isl.pulseEnable = .replicate 6 false ∧ 0x8001 ∈ t.saf.latched ∧ t.mod.lockoutPending = s.mod.lockoutPending ++ [0x8001] ∧
      newEvent s t 0x8001 [1] = true := by
  refine ⟨_, congrArg Host.Outcome.next ((State.on_of_alive alive _).trans (if_neg (by rw [running]; decide))), ?_⟩
  have kept := keeps_refreshPermissions (latchFault 0x8001 [1] (s.modSaf fun x => { x with halted := true }))
  have halted : (latchFault 0x8001 [1] (s.modSaf fun x => { x with halted := true })).saf.halted = true := by
    rw [latchFault_saf]
    rfl
  obtain ⟨contactors, pulses⟩ := refreshPermissions_halted halted
  refine ⟨(refreshPermissions_halted_latched _).1.trans halted, contactors, pulses, ?_, ?_,
    newEvent_keeps kept rfl (latchFault_event _ _ room le_rfl rfl)⟩
  · rw [(refreshPermissions_halted_latched _).2]
    exact latchFault_latched _ _ _
  · rw [kept.lockoutPending rfl, latchFault_lockout]
    rfl

/-! ### Faults that are latched (R356, R357, R443) -/

/-- What every latched fault brings: its code, SAF_STATUS bit 3, the demand for a LOCKOUT and its event. -/
theorem latchFault_latches {s : State} (code : Nat) (data : List Rat) (room : s.hasRoom 1 = true) (wf : cellsWf s.objs = true) :
    code ∈ (latchFault code data s).saf.latched ∧ (latchFault code data s).bit Obj.SAF_STATUS 3 = true ∧
    (latchFault code data s).mod.lockoutPending = s.mod.lockoutPending ++ [code] ∧ newEvent s (latchFault code data s) code data = true :=
  ⟨latchFault_latched _ _ _, latchFault_status wf room _ _, latchFault_lockout _ _ _, latchFault_event _ _ room le_rfl rfl⟩

theorem memoryMarchTest_fails {s : State} (alive : s.alive .keystone = true) (due : 10 * cyclesSec ≤ s.since s.saf.marchAt)
    (room : s.hasRoom 1 = true) (inv : Inv s) : Completes (.memoryMarchTest false) s fun t => 0x8001 ∈ t.saf.latched ∧
      t.bit Obj.SAF_STATUS 3 = true ∧ t.mod.lockoutPending = s.mod.lockoutPending ++ [0x8001] ∧ newEvent s t 0x8001 [2] = true := by
  refine ⟨_, congrArg Host.Outcome.next ((State.on_of_alive alive _).trans
    ((if_neg (Nat.not_lt.2 due)).trans (if_neg (by decide)))), ?_⟩
  exact latchFault_latches (s := s.modSaf _) _ _ room inv.objs

theorem memoryMarchTest_passes {s : State} (alive : s.alive .keystone = true) (due : 10 * cyclesSec ≤ s.since s.saf.marchAt) :
    Completes (.memoryMarchTest true) s fun t => t = s.modSaf fun x => { x with marchAt := s.now } :=
  ⟨_, congrArg Host.Outcome.next ((State.on_of_alive alive _).trans ((if_neg (Nat.not_lt.2 due)).trans (if_pos rfl))), rfl⟩

/-- A value outside a window is not inside it. -/
theorem outside_window {lo hi v : Rat} (out : v < lo ∨ hi < v) : (decide (lo ≤ v) && decide (v ≤ hi)) = false := by
  rcases out with below | above
  · rw [decide_eq_false (not_le.2 below), Bool.false_and]
  · rw [decide_eq_false (not_le.2 above), Bool.and_false]

theorem supplyWindowFault_latches {s : State} {rail : Fin 18} {before value lo hi : Rat} (alive : s.alive .keystone = true)
    (window : railWindow rail = some (lo, hi)) (judged : railExempt s rail = false) (first : before < lo ∨ hi < before)
    (second : value < lo ∨ hi < value) (room : s.hasRoom 1 = true) (inv : Inv s) :
    Completes (.supplyWindowFault rail ⟨before, value⟩) s fun t => 0x8002 ∈ t.saf.latched ∧ t.bit Obj.SAF_STATUS 3 = true ∧
      t.mod.lockoutPending = s.mod.lockoutPending ++ [0x8002] ∧ newEvent s t 0x8002 [rail.val + 31, r32 value] = true := by
  refine ⟨_, congrArg Host.Outcome.next (State.on_of_alive alive _), ?_⟩
  beta_reduce
  rw [window]
  dsimp only
  rw [if_neg (by rw [judged, outside_window first, outside_window second]; decide)]
  exact latchFault_latches _ _ room inv.objs

theorem permissionEchoFault_latches {s : State} {g : GdId} {held : Nat} (alive : s.alive .keystone = true) (wrong : cyclesUs 2 ≤ held)
    (room : s.hasRoom 1 = true) (inv : Inv s) : Completes (.permissionEchoFault ⟨.pulseEnable g, held⟩) s fun t =>
      0x8001 ∈ t.saf.latched ∧ t.bit Obj.SAF_STATUS 3 = true ∧ newEvent s t 0x8001 [3, g.val + 1] = true := by
  refine ⟨_, congrArg Host.Outcome.next ((State.on_of_alive alive _).trans (if_neg (Nat.not_lt.2 wrong))), ?_⟩
  obtain ⟨latched, shown, _, logged⟩ := latchFault_latches (s := s) 0x8001 [3, (g.val + 1 : Nat)] room inv.objs
  exact ⟨latched, shown, Nat.cast_succ (R := Rat) g.val ▸ logged⟩

theorem resetDue_logged {s : State} (alive : s.alive .keystone = true) (due : 720 * cyclesHour ≤ s.since s.saf.resetAt)
    (unlogged : s.bit Obj.SAF_STATUS 4 = false) (room : s.hasRoom 1 = true) (inv : Inv s) : Completes .resetDue s fun t =>
      t.bit Obj.SAF_STATUS 4 = true ∧ newEvent s t 0x8008 [(s.since s.saf.resetAt / cyclesHour : Nat)] = true := by
  refine ⟨_, congrArg Host.Outcome.next ((State.on_of_alive alive _).trans
    (if_neg (by rw [decide_eq_false (Nat.not_lt.2 due), unlogged]; decide))), ?_, newEvent_log (t := s.setBit _ _ _) room le_rfl rfl⟩
  rw [State.log_bit (s := s.setBit _ _ _) room]
  exact State.bit_setBit inv.objs _ _ _

/-- Settles O41, clause by clause from the lemmas above. -/
theorem keystoneDiagnostics : Obligations.KeystoneDiagnostics := by
  unfold Obligations.KeystoneDiagnostics
  refine ⟨?lockstep, ?march, ?sound, ?rail, ?echo, ?reset⟩
  case lockstep => exact fun _ alive running room _ => lockstepMismatch_halts alive running room
  case march => exact fun _ alive due room inv => memoryMarchTest_fails alive due room inv
  case sound => exact fun _ alive due => memoryMarchTest_passes alive due
  case rail => exact fun _ _ _ _ _ _ alive window judged first second room inv =>
    supplyWindowFault_latches alive window judged first second room inv
  case echo => exact fun _ _ _ alive wrong room inv => permissionEchoFault_latches alive wrong room inv
  case reset => exact fun _ alive due unlogged room inv => resetDue_logged alive due unlogged room inv

end Sys2Proof.Machine
end

section
/-!
PROOF. Chapter 15, safe stops that end badly (R369, R370, R371).
-/

namespace Sys2Proof.Machine

-- One declaration after another, so that the whole text compiles within its memory.
set_option Elab.async false

/-! ### Pulses removed and a stage taken to SAFE by the keystone (R371) -/

theorem removePulses_removed (n : StageId) (s : State) : n ∈ (removePulses n s).saf.removed := by
  have kept : (removePulses n s).saf.removed = if s.saf.removed.contains n then s.saf.removed else n :: s.saf.removed :=
    (keeps_refreshPermissions _).same (.saf .removed) rfl
  rw [kept]
  split
  next held => exact List.contains_iff_mem.1 held
  next => exact List.mem_cons_self

@[simp] theorem removePulses_stg (n : StageId) (s : State) : (removePulses n s).stg = s.stg :=
  (keeps_removePulses n s).stg fun f => by cases f <;> rfl

@[simp] theorem socOpenNow_stg (i : SocId) (s : State) : (socOpenNow i s).stg = s.stg :=
  (keeps_socOpenNow i s).stg fun f => by cases f <;> rfl

/-- A stage that the keystone takes to SAFE, with its event before. -/
theorem keystoneSafe_logged {s u : State} {n : StageId} {code cause : Nat} {data : List Rat} (out : u.stg[n].st ≠ .safe)
    (halt : u.mod.mode ≠ .halt) (adit : u.mod.mode ≠ .adit) (room : u.hasRoom 1 = true) (seq : s.logSeq ≤ u.logSeq)
    (mt : u.isl.mt = s.isl.mt) : let t := keystoneSafe n cause (u.log code data)
    t.stg[n].st = .safe ∧ t.stg[n].cause = cause ∧ n ∈ t.saf.removed ∧ newEvent s t code data = true := by
  obtain ⟨stages, logged⟩ := stageSafe_logged (s := s) (code := code) (cause := cause) (data := data) out halt adit room seq mt
  have safe : (stageSafe n cause (u.log code data)).stg[n].st = .safe ∧ (stageSafe n cause (u.log code data)).stg[n].cause = cause := by
    rw [stages, vset_self]
    exact ⟨rfl, rfl⟩
  unfold keystoneSafe
  extract_lets stopped opened t
  have opens : opened.stg = stopped.stg ∧ newEvent s opened code data = true := by
    show (match socOf stopped n.val with | some i => socOpenNow i stopped | none => stopped).stg = _ ∧
      newEvent s (match socOf stopped n.val with | some i => socOpenNow i stopped | none => stopped) code data = true
    split
    · exact ⟨socOpenNow_stg _ _, newEvent_keeps (keeps_socOpenNow _ _) rfl logged⟩
    · exact ⟨rfl, logged⟩
  refine ⟨?_, ?_, removePulses_removed n _, newEvent_keeps (keeps_removePulses n _) rfl opens.2⟩
  · rw [removePulses_stg, opens.1]
    exact safe.1
  · rw [removePulses_stg, opens.1]
    exact safe.2

/-! ### Ramp and tail (R369) -/

theorem ssdRampIncomplete_safe {s : State} {n : StageId} {td tr cause : Nat} {x0 : Rat} (alive : s.alive .keystone = true)
    (ramp : s.saf.ssd[n].ramp = some (td, x0, tr, cause)) (elapsed : tr + s.objN (Obj.SAF_SSD_TAIL n) * cyclesMs ≤ s.since td)
    (above : ssdPar s (Obj.SAF_SSD_END n) ≤ s.saf.ssd[n].x) (out : s.stg[n].st ≠ .safe) (halt : s.mod.mode ≠ .halt)
    (adit : s.mod.mode ≠ .adit) (room : s.hasRoom 1 = true) : Completes (.ssdRampIncomplete n) s fun t => t.stg[n].st = .safe ∧
      t.stg[n].cause = 0x8022 ∧ n ∈ t.saf.removed ∧ newEvent s t 0x8022 [n.val, r32 s.saf.ssd[n].x] = true := by
  refine ⟨_, congrArg Host.Outcome.next (State.on_of_alive alive _), ?_⟩
  beta_reduce
  rw [ramp]
  dsimp only
  rw [if_neg (Nat.not_lt.2 elapsed), if_neg (not_lt.2 above)]
  exact keystoneSafe_logged out halt adit room le_rfl rfl

theorem ssdComplete_armed {s : State} (n : StageId) (td : Nat) (room : s.hasRoom 1 = true) : let t := ssdComplete n 0 td s
    t.stg[n].st = .armed ∧ n ∈ t.saf.removed ∧ newEvent s t 0x8023 [n.val, mkRat (s.since td : Nat) cyclesMs] = true := by
  unfold ssdComplete
  extract_lets logged opened t
  refine ⟨?_, removePulses_removed n _, ?_⟩
  · show (removePulses n (edgeSafe n (stageArm n opened))).stg[n].st = _
    rw [removePulses_stg, edgeSafe_stg, stageArm_stg, vset_self]
  · exact newEvent_keeps (keeps_removePulses n _) rfl (newEvent_keeps (keeps_edgeSafe n _) rfl (newEvent_keeps (keeps_stageArm n _) rfl
      (newEvent_keeps (keeps_socOpenStage n logged) rfl (newEvent_log room le_rfl rfl))))

theorem ssdRampIncomplete_completes {s : State} {n : StageId} {td tr : Nat} {x0 : Rat} (alive : s.alive .keystone = true)
    (ramp : s.saf.ssd[n].ramp = some (td, x0, tr, 0)) (elapsed : tr + s.objN (Obj.SAF_SSD_TAIL n) * cyclesMs ≤ s.since td)
    (below : s.saf.ssd[n].x < ssdPar s (Obj.SAF_SSD_END n)) (room : s.hasRoom 1 = true) :
    Completes (.ssdRampIncomplete n) s fun t => t.stg[n].st = .armed ∧ n ∈ t.saf.removed ∧
      newEvent s t 0x8023 [n.val, mkRat (s.since td : Nat) cyclesMs] = true := by
  refine ⟨_, congrArg Host.Outcome.next (State.on_of_alive alive _), ?_⟩
  beta_reduce
  rw [ramp]
  dsimp only
  rw [if_neg (Nat.not_lt.2 elapsed), if_pos below]
  exact ssdComplete_armed n td room

/-! ### The comparison with the pier (R370) -/

theorem State.modSsd_self (n : StageId) (f : SsdSt → SsdSt) (s : State) : (s.modSsd n f).saf.ssd[n] = f s.saf.ssd[n] :=
  vset_self _ n _ n.isLt

theorem State.modSsd_modSsd (n : StageId) (f g : SsdSt → SsdSt) (s : State) :
    (s.modSsd n f).modSsd n g = s.modSsd n fun q => g (f q) := by
  simp [State.modSsd, State.modSaf]

theorem dateDifference_ssd (n : StageId) (held : Nat) (s : State) : (dateDifference n held s).saf.ssd[n] =
    { s.saf.ssd[n] with differs := some (min (s.saf.ssd[n].differs.getD s.now) (s.now - held)) } :=
  State.modSsd_self n (fun q : SsdSt => { q with differs := some (min (q.differs.getD s.now) (s.now - held)) }) s

theorem dateDifference_par (n : StageId) (held key : Nat) (s : State) : ssdPar (dateDifference n held s) key = ssdPar s key := rfl

/-- The instant to which a difference is dated back lies at least `held` before now. -/
theorem dateDifference_old {s : State} (n : StageId) {held : Nat} (past : held ≤ s.now) :
    ∃ d, (dateDifference n held s).saf.ssd[n].differs = some d ∧ held ≤ s.since d := by
  refine ⟨_, congrArg SsdSt.differs (dateDifference_ssd n held s), ?_⟩
  have now : s.now = s.isl.mt := rfl
  unfold State.since
  omega

theorem dateDifference_x (n : StageId) (held : Nat) (s : State) : (dateDifference n held s).saf.ssd[n].x = s.saf.ssd[n].x := by
  rw [dateDifference_ssd]

theorem ssdPlausibilityFail_safe {s : State} {n : StageId} {held : Nat} (alive : s.alive .keystone = true) (ssd : s.isSsd n = true)
    (running : s.switching n = true) (differ : ssdPar s (Obj.SAF_SSD_BAND n) < absR (s.saf.ssd[n].x - pierMeasure s n))
    (long : cyclesMs ≤ held) (past : held ≤ s.now) (halt : s.mod.mode ≠ .halt) (adit : s.mod.mode ≠ .adit) (room : s.hasRoom 1 = true) :
    Completes (.ssdPlausibilityFail n held) s fun t => t.stg[n].st = .safe ∧ t.stg[n].cause = 0x8025 ∧ n ∈ t.saf.removed ∧
      newEvent s t 0x8025 [n.val, r32 s.saf.ssd[n].x, r32 (pierMeasure s n)] = true := by
  have out : s.stg[n].st ≠ .safe := by
    intro safe
    have st : s.stageSt n = .safe := safe
    simp [State.switching, st] at running
  obtain ⟨d, dated, old⟩ := dateDifference_old n past
  refine ⟨_, congrArg Host.Outcome.next (State.on_of_alive alive _), ?_⟩
  unfold plausible
  rw [if_neg (by rw [show (dateDifference n held s).isSsd n = true from ssd, show (dateDifference n held s).switching n = true from running]
                 decide),
    dateDifference_x, dateDifference_par, if_neg (not_le.2 differ), dated]
  extract_lets from_ timed
  have x : timed.saf.ssd[n].x = s.saf.ssd[n].x :=
    (congrArg SsdSt.x (State.modSsd_self n (fun q : SsdSt => { q with differs := some from_ }) _)).trans (dateDifference_x n held s)
  rw [if_pos (show cyclesMs ≤ timed.since from_ from long.trans old), x]
  exact keystoneSafe_logged out halt adit room le_rfl rfl

theorem ssdPlausibilityFail_within {s : State} {n : StageId} (held : Nat) (alive : s.alive .keystone = true)
    (within : absR (s.saf.ssd[n].x - pierMeasure s n) ≤ ssdPar s (Obj.SAF_SSD_BAND n)) :
    Completes (.ssdPlausibilityFail n held) s fun t => t = s.modSsd n fun q => { q with differs := none } := by
  refine ⟨_, congrArg Host.Outcome.next (State.on_of_alive alive _), ?_⟩
  have forgotten : (dateDifference n held s).modSsd n (fun q => { q with differs := none }) = s.modSsd n fun q => { q with differs := none } :=
    State.modSsd_modSsd n _ _ s
  unfold plausible
  rw [dateDifference_x, dateDifference_par, if_pos within, ite_self, forgotten]

/-! ### The stop of a stage (R369) -/

/-- An accepted write of a command leaves what its operation left, but for the answer. -/
theorem dictReq_accepted_shape {s t : State} {w : Writer} {key : Nat} {v : Val} (admitted : s.admits w key v = true)
    (effect : writeEffect w key v s = done (0, t)) : ∃ tx objs net, dictReq w key v none s = { t with tx := tx, objs := objs, net := net } := by
  obtain ⟨sent, forward⟩ := State.forward_shape t key (valInts v)
  obtain ⟨tx, objs, net, reply⟩ := State.reply_shape (t.forward key (valInts v)) w key 0
  refine ⟨tx, objs, net, ?_⟩
  rw [dictReq_admitted admitted, effect, if_pos (.inl rfl)]
  refine Eq.trans reply ?_
  rw [forward]

theorem stopStage_demands {s : State} {n : StageId} {w : Writer} (commands : s.commands w = true)
    (allowed : stopAllowed (resultingMode s) = true) (running : s.switching n = true) (soft : s.isSsd n = true) :
    stopStage n w s = (0, ssdDemand n 0 s) := by
  have st : s.stageSt n = .run ∨ s.stageSt n = .limit := by simpa [State.switching] using running
  rcases st with st | st <;> simp [stopStage, commands, allowed, st, soft]

theorem ssdDemand_ramps {s : State} {n : StageId} (running : s.switching n = true) (idle : s.saf.ssd[n].ramp = none)
    (above : ssdPar s (Obj.SAF_SSD_END n) ≤ s.saf.ssd[n].x) :
    (ssdDemand n 0 s).saf.ssd[n].ramp = some (s.now, s.saf.ssd[n].x, s.objN (Obj.SAF_SSD_RAMP n) * cyclesMs, 0) ∧
    (ssdDemand n 0 s).stg = s.stg := by
  unfold ssdDemand
  extract_lets x0
  rw [if_neg (by rw [running, idle]; decide), if_neg (not_lt.2 above)]
  refine ⟨?_, rfl⟩
  rw [State.setBit_saf, State.modSsd_self n (fun x : SsdSt => { x with
    ramp := some (s.now, x0, s.objN (Obj.SAF_SSD_RAMP n) * cyclesMs, 0), violated := false }) s]

theorem stopStage_ramps {s : State} {n : StageId} {w : Writer} (admitted : s.admits w (Obj.MOD_STAGE_CMD n.val) (.int 2) = true)
    (commands : s.commands w = true) (allowed : stopAllowed (resultingMode s) = true) (running : s.switching n = true)
    (soft : s.isSsd n = true) (idle : s.saf.ssd[n].ramp = none) (above : ssdPar s (Obj.SAF_SSD_END n) ≤ s.saf.ssd[n].x) :
    Completes (.stopStage n w) s fun t =>
      t.saf.ssd[n].ramp = some (s.now, s.saf.ssd[n].x, s.objN (Obj.SAF_SSD_RAMP n) * cyclesMs, 0) ∧ t.stg[n].st = s.stg[n].st := by
  obtain ⟨ramp, stages⟩ := ssdDemand_ramps running idle above
  obtain ⟨tx, objs, net, answered⟩ := dictReq_accepted_shape admitted
    ((writeEffect_stopStage n w s).trans (congrArg done (stopStage_demands commands allowed running soft)))
  exact ⟨_, congrArg Host.Outcome.next answered, ramp, by rw [stages]⟩

/-- Settles O42, clause by clause from the lemmas above. -/
theorem safeStop : Obligations.SafeStop := by
  unfold Obligations.SafeStop
  refine ⟨?incomplete, ?complete, ?differs, ?within, ?stop⟩
  case incomplete => exact fun _ _ _ _ _ _ alive ramp elapsed above out halt adit room =>
    ssdRampIncomplete_safe alive ramp elapsed above out halt adit room
  case complete => exact fun _ _ _ _ _ alive ramp elapsed below _ room => ssdRampIncomplete_completes alive ramp elapsed below room
  case differs => exact fun _ _ _ alive ssd running differ long past halt adit room =>
    ssdPlausibilityFail_safe alive ssd running differ long past halt adit room
  case within => exact fun _ _ held alive within => ssdPlausibilityFail_within held alive within
  case stop => exact fun _ _ _ admitted commands allowed running soft idle above =>
    stopStage_ramps admitted commands allowed running soft idle above

end Sys2Proof.Machine
end

section
/-!
PROOF. Chapter 15, safety connections (R376): what the model does with a sequence number that does not fit its 16 bits, which no run leads to.
-/

namespace Sys2Proof.Machine

-- One declaration after another, so that the whole text compiles within its memory.
set_option Elab.async false

/-- Connection 3 consumes and has accepted a unit whose sequence number is kept as 131072, twice the range of the number in a unit. -/
def wideSequence : State :=
  ((live .form).setN (Obj.SAF_CONN_CFG 3) 0x81).modConn 3 fun x => { x with safe := false, fresh := false, seq := 131072, tally := 8 }

/-- A whole unit with the next sequence number, modulo 65536, and the next tally. -/
def nextUnit : List Nat := unitBytes 0 1 9 0 false false false [1, 2, 3, 4]

theorem nextUnit_passes : wideSequence.alive .keystone = true ∧ wideSequence.alive .network = true ∧
    unitConn wideSequence (some 3) (readUnit nextUnit) = some 3 ∧ connOn wideSequence 3 = true ∧ isProducer wideSequence 3 = false ∧
    (readUnit nextUnit).crcOk = true ∧ (readUnit nextUnit).id = wideSequence.objN (Obj.SAF_CONN_ID 3) ∧
    (readUnit nextUnit).len = connLength wideSequence 3 ∧ nextUnit.length = 20 + (padWord (readUnit nextUnit).payload).length ∧
    wideSequence.saf.conn[(3 : ConnId)].safe = false ∧
    (readUnit nextUnit).seq = (wideSequence.saf.conn[(3 : ConnId)].seq + 1) % 65536 ∧
    (readUnit nextUnit).tally = (wideSequence.saf.conn[(3 : ConnId)].tally + 1) % 256 ∧ (readUnit nextUnit).good = false := by
  decide +kernel

/-- Without the wrap of 16 bits the distance from 131072 to 1 truncates to 0, and no unit is kept to compare with. -/
theorem nextUnit_taken_for_copy : wideSequence.saf.conn[(3 : ConnId)].fresh = false ∧
    ((readUnit nextUnit).seq + 65536 - wideSequence.saf.conn[(3 : ConnId)].seq) % 65536 = 0 ∧
    sameCopy nextUnit wideSequence.saf.conn[(3 : ConnId)].last = false := by
  decide +kernel

/-- A unit at distance 0 that differs from the last one is rejected with reason 6 (R378). -/
theorem checkUnit_copy_differs {s : State} {c : ConnId} {v : UnitView} {u : List Nat} (crc : v.crcOk = true)
    (id : v.id = s.objN (Obj.SAF_CONN_ID c)) (len : v.len = connLength s c) (length : u.length = 20 + (padWord v.payload).length)
    (live : s.saf.conn[c].safe = false) (fresh : s.saf.conn[c].fresh = false) (same : (v.seq + 65536 - s.saf.conn[c].seq) % 65536 = 0)
    (differs : sameCopy u s.saf.conn[c].last = false) : checkUnit c v u s = rejectUnit c 6 (s.log 0x8034 [c.val, v.seq]) := by
  unfold checkUnit
  dsimp only
  rw [if_neg (by rw [crc]; decide), if_neg (not_not.2 id),
    if_neg (by rw [decide_eq_false (not_not.2 len), decide_eq_false (not_not.2 length)]; decide),
    if_pos (by rw [fresh, live, same]; decide), if_neg (by rw [differs]; decide)]

theorem State.modConn_self (c : ConnId) (f : ConnSt → ConnSt) (s : State) : (s.modConn c f).saf.conn[c] = f s.saf.conn[c] :=
  vset_self _ c _ c.isLt

theorem connSafe_conn (c : ConnId) (cause : Nat) (s : State) : (connSafe c cause s).saf.conn[c] =
    { s.saf.conn[c] with safe := true, fresh := true, accepted := 0, payload := [] } := by
  unfold connSafe
  extract_lets was lapsed logged
  have kept : logged.saf = lapsed.saf := by
    show (if was then lapsed else lapsed.log 0x8031 [c.val, cause]).saf = lapsed.saf
    split
    · rfl
    · rw [State.log_saf]
  rw [permitReview_conn, showConn_conn, kept]
  exact State.modConn_self c (fun x : ConnSt => { x with safe := true, fresh := true, accepted := 0, payload := [] }) s

/-- A unit for a consuming connection is checked (R376). -/
theorem safetyUnitReceived_checks {s : State} {named : Option ConnId} {unit : List Nat} {c : ConnId} (keystone : s.alive .keystone = true)
    (network : s.alive .network = true) (found : unitConn s named (readUnit unit) = some c) (on : connOn s c = true)
    (consumer : isProducer s c = false) :
    exec (.safetyUnitReceived named unit) s = .next (checkUnit c (readUnit unit) unit s) := by
  refine congrArg Host.Outcome.next ((if_neg (by rw [keystone, network]; decide)).trans ?_)
  dsimp only
  rw [found]
  exact if_pos (by rw [on, consumer]; rfl)

theorem rejectUnit_fatal {reason : Nat} (fatal : reason = 2 ∨ reason = 4 ∨ reason = 6) (c : ConnId) (s : State) :
    (rejectUnit c reason s).saf.conn[c].safe = true := by
  have lapsed (u : State) : (connSafe c 2 u).saf.conn[c].safe = true := congrArg ConnSt.safe (connSafe_conn c 2 u)
  have shape : ∃ u, rejectUnit c reason s = connSafe c 2 u := ⟨_, if_pos fatal⟩
  obtain ⟨u, rejected⟩ := shape
  rw [rejected, lapsed]

/-- Refutes O43: the clause on accepted units lacks the premise that the kept sequence number fits its 16 bits, and beyond them the next
number of a unit is not the one that the check expects. -/
theorem not_safetyConnections : ¬ Obligations.SafetyConnections := by
  unfold Obligations.SafetyConnections
  rintro ⟨_, accepted, _⟩
  obtain ⟨keystone, network, found, on, consumer, crc, id, len, length, live, seq, tally, untimed⟩ := nextUnit_passes
  obtain ⟨t, run, _, _, _, _, safe⟩ := accepted wideSequence (some 3) nextUnit _ 3 keystone network rfl found on consumer crc id len length
    live seq tally (.inl untimed)
  obtain rfl : checkUnit 3 (readUnit nextUnit) nextUnit wideSequence = t := by
    injection (safetyUnitReceived_checks keystone network found on consumer).symm.trans run
  obtain ⟨fresh, same, differs⟩ := nextUnit_taken_for_copy
  have rejected : checkUnit 3 (readUnit nextUnit) nextUnit wideSequence = rejectUnit 3 6 _ :=
    checkUnit_copy_differs crc id len length live fresh same differs
  rw [rejected, rejectUnit_fatal (.inr (.inr rfl))] at safe
  exact Bool.noConfusion safe

end Sys2Proof.Machine
end

section
/-!
PROOF. Chapter 14, bus-off, its recovery and a heartbeat that stays away (R330, R338).
-/

namespace Sys2Proof.Machine

-- One declaration after another, so that the whole text compiles within its memory.
set_option Elab.async false

/-! ### After an event -/

theorem State.log_hasRoom {s : State} {n : Nat} (room : s.hasRoom (n + 1) = true) (c : Nat) (d : List Rat) : (s.log c d).hasRoom n = true := by
  have fits : s.logBuf.length + (n + 1) ≤ logCapacity := of_decide_eq_true room
  have here : s.hasRoom 1 = true := decide_eq_true (by omega)
  rw [State.log_of_room here]
  refine decide_eq_true ?_
  rw [List.length_append, List.length_singleton]
  omega

theorem State.log_objN {s : State} (room : s.hasRoom 1 = true) (c : Nat) (d : List Rat) (k : Nat) : (s.log c d).objN k = s.objN k := by
  rw [State.log_of_room room]
  rfl

theorem State.log_wf {s : State} (wf : cellsWf s.objs = true) (room : s.hasRoom 1 = true) (c : Nat) (d : List Rat) :
    cellsWf (s.log c d).objs = true := by
  rwa [State.log_objs room]

theorem defaultAt_NET_OWNER : (defaultAt Obj.NET_OWNER).isSome = true := by decide +kernel

/-! ### Write ownership ends (R330) -/

theorem showNet_NET_OWNER (s : State) : (showNet s).objN Obj.NET_OWNER = s.objN Obj.NET_OWNER :=
  (keeps_showNet s).objN _ (by rw [group_NET_OWNER]; rfl) rfl

theorem ownerEnds_released {s : State} (cause : Nat) (owned : s.objN Obj.NET_OWNER ≠ 0) (wf : cellsWf s.objs = true)
    (room : s.hasRoom 1 = true) : (ownerEnds cause s).objN Obj.NET_OWNER = 0 := by
  unfold ownerEnds
  extract_lets o
  rw [if_neg owned, showNet_NET_OWNER, State.log_objN (s := s.setN _ _) room, State.objN_setN wf]

theorem ownerEnds_event {s u : State} (cause : Nat) (owned : u.objN Obj.NET_OWNER ≠ 0) (room : u.hasRoom 1 = true)
    (seq : s.logSeq ≤ u.logSeq) (mt : u.isl.mt = s.isl.mt) : newEvent s (ownerEnds cause u) 0x7004
      [(u.objN Obj.NET_OWNER % 16 : Nat), (u.objN Obj.NET_OWNER / 16 : Nat), cause] = true := by
  unfold ownerEnds
  extract_lets o
  rw [if_neg owned]
  exact newEvent_keeps (keeps_showNet _) rfl (newEvent_log (t := u.setN _ _) room seq mt)

/-! ### Bus-off (R338) -/

theorem State.modCan_self (c : Fin 2) (f : CanSt → CanSt) (s : State) : (s.modCan c f).net.can[c] = f s.net.can[c] :=
  vset_self _ c _ c.isLt

theorem canSends_busOff {s : State} {c : Fin 2} (off : s.net.can[c].busOff = true) : canSends s c = false := by
  unfold canSends canOn
  rw [off, Bool.not_true, Bool.and_false, Bool.false_and, Bool.false_and, Bool.false_and]

theorem canPort_owner (c : Fin 2) : canPort c ≠ 0 ∧ canPort c % 16 = canPort c ∧ canPort c / 16 = 0 := by
  revert c
  decide

theorem NET_OWNER_ne_NET_CAN_STATE (c : Fin 2) : Obj.NET_OWNER ≠ Obj.NET_CAN_STATE c.val := by
  revert c
  decide

/-- The port of a bus-off that owned the writes: state shown, event logged, ownership still to end. -/
def busOffLogged (c : Fin 2) (s : State) : State :=
  ((s.modCan c fun x => { x with busOff := true, sdo := none }).setN (Obj.NET_CAN_STATE c.val) 2).log 0x7008 [canPort c, 2]

theorem busOffLogged_owner {s : State} (c : Fin 2) (room : s.hasRoom 1 = true) :
    (busOffLogged c s).objN Obj.NET_OWNER = s.objN Obj.NET_OWNER := by
  have shown : ((s.modCan c fun x => { x with busOff := true, sdo := none }).setN (Obj.NET_CAN_STATE c.val) 2).hasRoom 1 = true := room
  unfold busOffLogged
  rw [State.log_objN shown, State.objN_setN_ne (NET_OWNER_ne_NET_CAN_STATE c) defaultAt_NET_OWNER]
  rfl

theorem canBusOff_stops {s : State} {c : Fin 2} (on : canOn s c = true) (owns : s.objN Obj.NET_OWNER = canPort c)
    (room : s.hasRoom 2 = true) (inv : Inv s) : Completes (.canBusOff c) s fun t => t.net.can[c].busOff = true ∧ canSends t c = false ∧
      t.objN Obj.NET_OWNER = 0 ∧ newEvent s t 0x7008 [canPort c, 2] = true ∧ newEvent s t 0x7004 [canPort c, 0, 4] = true := by
  have room1 : s.hasRoom 1 = true :=
    decide_eq_true (Nat.le_of_succ_le (of_decide_eq_true room))
  have owner := (busOffLogged_owner c room1).trans owns
  obtain ⟨port, low, high⟩ := canPort_owner c
  have owned : (busOffLogged c s).objN Obj.NET_OWNER ≠ 0 := by rwa [owner]
  have room2 : (busOffLogged c s).hasRoom 1 = true := State.log_hasRoom (n := 1)
    (s := (s.modCan c fun x => { x with busOff := true, sdo := none }).setN (Obj.NET_CAN_STATE c.val) 2) room _ _
  have seq : s.logSeq ≤ (busOffLogged c s).logSeq :=
    (keeps_State_log ((s.modCan c fun x => { x with busOff := true, sdo := none }).setN (Obj.NET_CAN_STATE c.val) 2) _ _).seq
  have mt : (busOffLogged c s).isl.mt = s.isl.mt := by
    rw [busOffLogged, State.log_isl]
    rfl
  have off : (ownerEnds 4 (busOffLogged c s)).net.can[c].busOff = true := by
    rw [ownerEnds_net, busOffLogged, State.log_net]
    exact congrArg CanSt.busOff (State.modCan_self c (fun x => { x with busOff := true, sdo := none }) s)
  refine ⟨_, congrArg Host.Outcome.next ((if_pos on).trans (if_pos owner)), off, canSends_busOff off,
    ownerEnds_released 4 owned (State.log_wf (s := (s.modCan c _).setN _ _) (State.wf_setN (s := s.modCan c _) inv.objs _ _) room1 _ _) room2, ?_, ?_⟩
  · exact newEvent_keeps (keeps_ownerEnds 4 (busOffLogged c s)) rfl (newEvent_log (t := (s.modCan c _).setN _ _) room1 le_rfl rfl)
  · have ended := ownerEnds_event 4 owned room2 seq mt
    rw [owner, low, high] at ended
    exact_mod_cast ended

/-! ### Recovery (R338) -/

theorem canGo_busOff (c : Fin 2) (st : Nat) (s : State) : (canGo c st s).net.can[c].busOff = s.net.can[c].busOff := by
  unfold canGo
  rw [showNet_net, State.modCan_self c (fun x => { x with st := st, sdo := if st = 4 then none else x.sdo })]

theorem bootUp_busOff (c : Fin 2) (s : State) : (bootUp c s).net.can[c].busOff = s.net.can[c].busOff := by
  unfold bootUp
  split
  · rfl
  · extract_lets u
    have kept : u.net = s.net := by
      show (if canSends s c then s.send (canPort c) 31 [s.objN Obj.MOD_NODE_NUMBER] else s).net = s.net
      split <;> rfl
    rw [canGo_busOff, State.modCan_self c (fun x => { x with booted := true, hbAt := u.now, sdo := none }), kept]

/-- A port that can send announces itself (CiA 301). -/
theorem bootUp_announces {s : State} {c : Fin 2} (sends : canSends s c = true) :
    (⟨canPort c, 31, [(s.objN Obj.MOD_NODE_NUMBER : Nat)]⟩ : TxFrame) ∈ (bootUp c s).tx := by
  have on : canOn s c = true := by
    rw [canSends, Bool.and_eq_true] at sends
    exact sends.1
  unfold bootUp
  rw [if_neg (by rw [on]; decide), if_pos sends]
  exact List.mem_cons_self

theorem defaultAt_MOD_NODE_NUMBER : (defaultAt Obj.MOD_NODE_NUMBER).isSome = true := by decide +kernel

theorem defaultAt_NET_CAN_CFG (c : Fin 2) : (defaultAt (Obj.NET_CAN_CFG c.val)).isSome = true := by
  revert c
  decide +kernel

theorem ne_NET_CAN_STATE (c : Fin 2) :
    Obj.MOD_NODE_NUMBER ≠ Obj.NET_CAN_STATE c.val ∧ Obj.NET_CAN_CFG c.val ≠ Obj.NET_CAN_STATE c.val := by
  revert c
  decide

/-- The port once it has recovered: state shown and event logged, boot-up still to come. -/
def recoveryLogged (c : Fin 2) (s : State) : State :=
  ((s.modCan c fun x => { x with busOff := false }).setN (Obj.NET_CAN_STATE c.val) 0).log 0x7008 [canPort c, 0]

theorem recoveryLogged_can (c : Fin 2) (s : State) : (recoveryLogged c s).net.can[c] = { s.net.can[c] with busOff := false } := by
  unfold recoveryLogged
  rw [State.log_net]
  exact State.modCan_self c (fun x => { x with busOff := false }) s

theorem canBusOffRecovery_boots {s : State} {c : Fin 2} {recessive : Nat} (enough : 128 ≤ recessive) (alive : s.alive .network = true)
    (off : s.net.can[c].busOff = true) (booted : s.net.can[c].booted = true) (used : s.bit (Obj.NET_CAN_CFG c.val) 5 = true)
    (primary : s.viaductSecondary = false) (active : s.standby = false) (room : s.hasRoom 1 = true) :
    Completes (.canBusOffRecovery ⟨c, recessive⟩) s fun t => t.net.can[c].busOff = false ∧
      (⟨canPort c, 31, [(s.objN Obj.MOD_NODE_NUMBER : Nat)]⟩ : TxFrame) ∈ t.tx ∧ newEvent s t 0x7008 [canPort c, 0] = true := by
  have fits : ((s.modCan c fun x => { x with busOff := false }).setN (Obj.NET_CAN_STATE c.val) 0).hasRoom 1 = true := room
  have now := recoveryLogged_can c s
  have node : (recoveryLogged c s).objN Obj.MOD_NODE_NUMBER = s.objN Obj.MOD_NODE_NUMBER := by
    rw [recoveryLogged, State.log_objN fits, State.objN_setN_ne (ne_NET_CAN_STATE c).1 defaultAt_MOD_NODE_NUMBER]
    rfl
  have config : (recoveryLogged c s).bit (Obj.NET_CAN_CFG c.val) 5 = true := by
    rw [recoveryLogged, State.log_bit fits, State.bit_setN_ne (ne_NET_CAN_STATE c).2 (defaultAt_NET_CAN_CFG c)]
    exact used
  have isl : (recoveryLogged c s).isl = s.isl := by
    rw [recoveryLogged, State.log_isl]
    rfl
  have mod : (recoveryLogged c s).mod = s.mod := by
    rw [recoveryLogged, State.log_mod]
    rfl
  have twn : (recoveryLogged c s).twn = s.twn := by
    rw [recoveryLogged, State.log_twn]
    rfl
  have sends : canSends (recoveryLogged c s) c = true := by
    simp only [State.alive, State.fenced] at alive
    simp only [State.viaductSecondary] at primary
    simp only [State.standby] at active
    simp only [canSends, canOn, State.alive, State.fenced, State.viaductSecondary, State.standby, now, config, isl, mod, twn, alive, primary,
      active]
    rfl
  have run : exec (.canBusOffRecovery ⟨c, recessive⟩) s = .next (bootUp c (recoveryLogged c s)) :=
    congrArg Host.Outcome.next ((if_pos (by rw [off, alive, decide_eq_true enough]; rfl)).trans
      (if_pos (show (recoveryLogged c s).net.can[c].booted = true by rw [now]; exact booted)))
  refine ⟨_, run, ?_, ?_, ?_⟩
  · rw [bootUp_busOff, now]
  · exact node ▸ bootUp_announces sends
  · exact newEvent_keeps (keeps_bootUp c (recoveryLogged c s)) rfl (newEvent_log fits le_rfl rfl)

/-! ### A heartbeat that stays away (R338) -/

theorem heartbeatConsumerTimeout_reported {s : State} {e : Fin 4} {heard p : Nat} (alive : s.alive .network = true)
    (last : s.net.heard[e] = some (heard, p)) (used : hbTime s e ≠ 0) (silent : hbTime s e * cyclesMs < s.since heard)
    (room : s.hasRoom 1 = true) (inv : Inv s) : Completes (.heartbeatConsumerTimeout e) s fun t =>
      t.bit Obj.CIA_ERROR_REGISTER 4 = true ∧ newEvent s t 0x7009 [p, hbNode s e] = true := by
  refine ⟨_, congrArg Host.Outcome.next (State.on_of_alive alive _), ?_⟩
  beta_reduce
  rw [last]
  dsimp only
  rw [if_pos ⟨used, silent⟩]
  have logged : newEvent s ((s.modNet fun n => { n with heard := n.heard.set e none }).log 0x7009 [p, hbNode s e]) 0x7009 [p, hbNode s e] = true :=
    newEvent_log (t := s.modNet _) room le_rfl rfl
  exact ⟨State.bit_setBit (State.log_wf (s := s.modNet _) inv.objs room _ _) _ _ _, newEvent_congr rfl logged⟩

/-- Settles O53: bus-off, recovery and the heartbeat consumer. -/
theorem busOffAndMissedHeartbeats : Obligations.BusOffAndMissedHeartbeats := by
  unfold Obligations.BusOffAndMissedHeartbeats
  refine ⟨?off, ?recovery, ?heartbeat⟩
  case off => exact fun _ _ on owns room inv => canBusOff_stops on owns room inv
  case recovery => exact fun _ _ _ enough alive off booted used primary active room =>
    canBusOffRecovery_boots enough alive off booted used primary active room
  case heartbeat => exact fun _ _ _ _ alive last used silent room inv => heartbeatConsumerTimeout_reported alive last used silent room inv

end Sys2Proof.Machine
end

section
/-!
PROOF. Chapter 14, write ownership and service access (R329, R330, R331).
-/

namespace Sys2Proof.Machine

-- One declaration after another, so that the whole text compiles within its memory.
set_option Elab.async false

/-! ### What an answer leaves -/

/-- An accepted write of a command leaves what its operation left; sent frames and the ports' state alone are the answer's. -/
theorem dictReq_accepted_net {s t : State} {w : Writer} {key : Nat} {v : Val} (admitted : s.admits w key v = true)
    (effect : writeEffect w key v s = done (0, t)) : ∃ u : State, dictReq w key v none s = u.reply w key 0 ∧ u = { t with tx := u.tx } := by
  obtain ⟨sent, forward⟩ := State.forward_shape t key (valInts v)
  refine ⟨t.forward key (valInts v), ?_, by rw [forward]⟩
  rw [dictReq_admitted admitted, effect, if_pos (.inl rfl)]
  rfl

/-- A refused command is answered with its abort code. -/
theorem dictReq_refused {s t : State} {w : Writer} {key : Nat} {v : Val} {code : Nat} (admitted : s.admits w key v = true)
    (effect : writeEffect w key v s = done (code, t)) (refused : code ≠ 0) : dictReq w key v none s = t.reply w key code := by
  rw [dictReq_admitted admitted, effect, if_neg (fun h => h.elim (fun e => refused (Option.some.inj e)) nofun)]
  rfl

theorem State.respond_rights (s : State) (c se kind : Nat) (data : List Int) : (s.respond c se kind data).net.rights = s.net.rights := by
  unfold State.respond
  split
  · rfl
  · split
    · split <;> rfl
    · rfl

theorem State.respond_challenges (s : State) (c se kind : Nat) (data : List Int) :
    (s.respond c se kind data).net.challenges = s.net.challenges := by
  unfold State.respond
  split
  · rfl
  · split
    · split <;> rfl
    · rfl

/-- A request renews the instants of service access, and leaves who holds it (R331). -/
theorem State.renew_holders (s : State) (w : Writer) (accepted : Bool) :
    (s.renew w accepted).net.rights.map (fun r => r.1) = s.net.rights.map fun r => r.1 := by
  show (s.net.rights.map fun r => if r.1 = w.ownerWord then (w.ownerWord, s.isl.mt) else r).map (fun r => r.1) = _
  rw [List.map_map]
  refine List.map_congr_left fun r _ => ?_
  rw [Function.comp_apply]
  split
  next mine => exact mine.symm
  next => rfl

theorem State.reply_holders (s : State) (w : Writer) (key abort : Nat) :
    (s.reply w key abort).net.rights.map (fun r => r.1) = s.net.rights.map fun r => r.1 := by
  cases w with
  | logic => rfl
  | port c se =>
    simp only [State.reply, State.respond_rights]
    split
    · exact State.renew_holders s _ _
    · exact State.renew_holders s _ _

theorem State.reply_net_owner (s : State) (w : Writer) (key abort : Nat) :
    (s.reply w key abort).objN Obj.NET_OWNER = s.objN Obj.NET_OWNER :=
  (keeps_State_reply s w key abort).objN _ (by rw [group_NET_OWNER]; rfl) rfl

/-! ### NET_OWNER_CLAIM (R330) -/

theorem writeEffect_claim (w : Writer) (s : State) : writeEffect w Obj.NET_OWNER_CLAIM (.int 0x5A01) s = done (ownClaim w s) := rfl

/-- NET_OWNER is written, the event logged and NET_STATUS follows. -/
def ownerSet (word code : Nat) (data : List Rat) (s : State) : State := showNet ((s.setN Obj.NET_OWNER word).log code data)

theorem ownerSet_owner {s : State} (word code : Nat) (data : List Rat) (wf : cellsWf s.objs = true) (room : s.hasRoom 1 = true) :
    (ownerSet word code data s).objN Obj.NET_OWNER = word := by
  unfold ownerSet
  rw [showNet_NET_OWNER, State.log_objN (s := s.setN _ _) room, State.objN_setN wf]

theorem ownerSet_event {s : State} (word code : Nat) (data : List Rat) (room : s.hasRoom 1 = true) :
    newEvent s (ownerSet word code data s) code data = true :=
  newEvent_keeps (keeps_showNet _) rfl (newEvent_log (t := s.setN _ _) room le_rfl rfl)

/-- An accepted order to NET_OWNER_CLAIM that sets the owner has it set, with its event, when it is answered. -/
theorem ownerSet_answered {c : Instr} {s : State} {w : Writer} {v : Val} {word code : Nat} {data : List Rat}
    (run : exec c s = .next (dictReq w Obj.NET_OWNER_CLAIM v none s)) (admitted : s.admits w Obj.NET_OWNER_CLAIM v = true)
    (effect : writeEffect w Obj.NET_OWNER_CLAIM v s = done (0, ownerSet word code data s)) (inv : Inv s) (room : s.hasRoom 1 = true) :
    Completes c s fun t => t.objN Obj.NET_OWNER = word ∧ newEvent s t code data = true := by
  obtain ⟨u, answered, shape⟩ := dictReq_accepted_net admitted effect
  refine ⟨_, run.trans (congrArg Host.Outcome.next answered), ?_, ?_⟩
  · rw [State.reply_net_owner, shape]
    exact ownerSet_owner word code data inv.objs room
  · refine newEvent_keeps (keeps_State_reply u w Obj.NET_OWNER_CLAIM 0) rfl ?_
    rw [shape]
    exact newEvent_congr rfl (ownerSet_event word code data room)

theorem ownershipClaim_granted {s : State} {c se : Nat} (admitted : s.admits (.port c se) Obj.NET_OWNER_CLAIM (.int 0x5A01) = true)
    (inv : Inv s) (free : s.objN Obj.NET_OWNER = 0) (room : s.hasRoom 1 = true) : Completes (.ownershipClaim (.port c se)) s fun t =>
      t.objN Obj.NET_OWNER = (Writer.port c se).ownerWord ∧ newEvent s t 0x7001 [c, se] = true :=
  ownerSet_answered rfl admitted (congrArg done (if_neg (not_not.2 free))) inv room

theorem ownershipForce_granted {s : State} {c se : Nat} (admitted : s.admits (.port c se) Obj.NET_OWNER_CLAIM (.int 0x5A02) = true)
    (inv : Inv s) (lower : c < s.objN Obj.NET_OWNER % 16) (room : s.hasRoom 1 = true) : Completes (.ownershipForce (.port c se)) s fun t =>
      t.objN Obj.NET_OWNER = (Writer.port c se).ownerWord ∧
      newEvent s t 0x7003 [(Writer.port c se).ownerWord, s.objN Obj.NET_OWNER] = true := by
  have held : s.objN Obj.NET_OWNER ≠ 0 := by
    intro free
    rw [free] at lower
    exact absurd lower (Nat.not_lt_zero c)
  exact ownerSet_answered rfl admitted (congrArg done ((if_neg held).trans (if_neg (Nat.not_le.2 lower)))) inv room

theorem ownershipRelease_granted {s : State} {c se : Nat} (admitted : s.admits (.port c se) Obj.NET_OWNER_CLAIM (.int 0x5A03) = true)
    (inv : Inv s) (owns : s.ownsWrites (.port c se) = true) (room : s.hasRoom 1 = true) :
    Completes (.ownershipRelease (.port c se)) s fun t => t.objN Obj.NET_OWNER = 0 ∧ newEvent s t 0x7002 [c, se] = true :=
  ownerSet_answered rfl admitted (congrArg done (if_pos owns)) inv room

theorem ownClaim_held {s : State} (w : Writer) (held : s.objN Obj.NET_OWNER ≠ 0) : ownClaim w s = (0x08000021, s) := by
  cases w with
  | logic => rfl
  | port c se => exact if_pos held

/-- Whoever claims while there is a holder, and however the request fares, the holder stays. -/
theorem ownershipClaim_held {s : State} (w : Writer) (held : s.objN Obj.NET_OWNER ≠ 0) :
    Completes (.ownershipClaim w) s fun t => t.objN Obj.NET_OWNER = s.objN Obj.NET_OWNER := by
  have noted (code : Nat) : (noteRefused w w Obj.NET_OWNER_CLAIM (.int 0x5A01) code s).objN Obj.NET_OWNER = s.objN Obj.NET_OWNER :=
    (keeps_noteRefused w w Obj.NET_OWNER_CLAIM (.int 0x5A01) code s).objN _ (by rw [group_NET_OWNER]; rfl) rfl
  refine ⟨_, rfl, ?_⟩
  unfold dictReq
  split
  · rfl
  · unfold writeRequest
    split
    · exact State.reply_net_owner s w _ _
    · split
      · exact State.reply_net_owner s w _ _
      · unfold dictWrite
        split
        · rw [writeEffect_claim, ownClaim_held w held]
          exact State.reply_net_owner s w _ _
        · exact (State.reply_net_owner _ w _ _).trans (noted _)

theorem ownershipTimeout_ends {s : State} (alive : s.alive .house = true) (inv : Inv s) (held : s.objN Obj.NET_OWNER ≠ 0)
    (silent : s.objN Obj.NET_OWNER_TIMEOUT * cyclesMs ≤ s.since s.net.ownerAt) (room : s.hasRoom 1 = true) :
    Completes .ownershipTimeout s fun t => t.objN Obj.NET_OWNER = 0 ∧
      newEvent s t 0x7004 [(s.objN Obj.NET_OWNER % 16 : Nat), (s.objN Obj.NET_OWNER / 16 : Nat), 1] = true := by
  refine ⟨_, congrArg Host.Outcome.next ((State.on_of_alive alive _).trans (if_pos silent)), ownerEnds_released 1 held inv.objs room, ?_⟩
  exact_mod_cast ownerEnds_event 1 held room le_rfl rfl

/-! ### Service access (R331) -/

/-- A challenge is drawn for the writer and kept for its session. -/
def challengeDrawn (w : Writer) (s : State) : State :=
  s.draw.modNet fun n => { n with
    challenges := (w.ownerWord, bytesBE 32 (s.freeNat % 256 ^ 32)) :: n.challenges.filter fun x => x.1 != w.ownerWord }

theorem readRequest_challenge {s : State} {w : Writer} (house : s.alive .house = true)
    (unblocked : ∀ b ∈ s.net.blocked, b.1 ≠ writerPort w) : readRequest w Obj.NET_SVC_CHALLENGE s =
      (.ok (.bytes (bytesBE 32 (s.freeNat % 256 ^ 32))), challengeDrawn w s) := by
  have open_ : (s.net.blocked.any fun b => b.1 == writerPort w) = false :=
    List.any_eq_false.2 fun b hb => by rw [beq_iff_eq]; exact unblocked b hb
  exact (if_neg (by rw [house]; decide)).trans ((if_pos rfl).trans (if_neg (by rw [open_]; decide)))

theorem serviceChallengeRead_kept {s : State} {w : Writer} (reaches : s.reaches w = true) (house : s.alive .house = true)
    (unblocked : ∀ b ∈ s.net.blocked, b.1 ≠ writerPort w) : Completes (.serviceChallengeRead w) s fun t =>
      t.net.challenges = (w.ownerWord, bytesBE 32 (s.freeNat % 256 ^ 32)) :: s.net.challenges.filter (fun c => c.1 != w.ownerWord) ∧
      t.free = s.free + 1 ∧ t.net.rights.map (fun r => r.1) = s.net.rights.map (fun r => r.1) := by
  refine ⟨_, congrArg Host.Outcome.next ((if_neg (by rw [reaches]; decide)).trans
    (congrArg (answerRead w Obj.NET_SVC_CHALLENGE) (readRequest_challenge house unblocked))), ?_⟩
  cases w with
  | logic => exact ⟨rfl, rfl, rfl⟩
  | port c se =>
    refine ⟨State.respond_challenges _ _ _ _ _, ?_, (congrArg _ (State.respond_rights _ _ _ _ _)).trans (State.renew_holders _ _ _)⟩
    obtain ⟨tx, net, shape⟩ := State.respond_shape ((challengeDrawn (.port c se) s).renew (.port c se) true) c se 2
      ((((Writer.port c se).ownerWord : Nat) : Int) :: (Obj.NET_SVC_CHALLENGE : Int) :: valInts (.bytes (bytesBE 32 (s.freeNat % 256 ^ 32))))
    exact congrArg State.free shape

theorem writeEffect_response (w : Writer) (signature : List Nat) (s : State) :
    writeEffect w Obj.NET_SVC_RESPONSE (.bytes signature) s = done (serviceResponse signature w s) := rfl

/-- Whether a response is good: a challenge stands for its session, and the signature is valid over it (R331). -/
def responseGood (s : State) (w : Writer) (signature : List Nat) : Bool :=
  match s.net.challenges.find? fun c => c.1 == w.ownerWord with
  | some (_, ch) => Config.signatureValid (s.objN Obj.NET_SVC_KEY_ID) (challengeText s w ch ++ signature)
  | none => false

/-- A good response is accepted, and its session holds service access. -/
theorem serviceResponse_good {s : State} {signature : List Nat} {w : Writer} (length : signature.length = 96) (port : w.ownerWord ≠ 0)
    (isGood : responseGood s w signature = true) :
    ∃ t, serviceResponse signature w s = (0, t) ∧ w.ownerWord ∈ t.net.rights.map fun r => r.1 := by
  unfold serviceResponse
  rw [if_neg (not_not.2 length)]
  extract_lets word number good used
  rw [if_pos (by rw [show good = true from isGood, Bool.true_and]; exact bne_iff_ne.2 port)]
  refine ⟨_, rfl, ?_⟩
  rw [showNet_net, State.log_net]
  exact List.mem_cons_self

/-- A response that is not good is refused, service access stays as it was, and 0x7006 is logged. -/
theorem serviceResponse_bad {s : State} {signature : List Nat} {w : Writer} (length : signature.length = 96)
    (isBad : responseGood s w signature = false) :
    ∃ t, serviceResponse signature w s = (0x08000021, t) ∧ t.net.rights = s.net.rights ∧
      (s.hasRoom 1 = true → newEvent s t 0x7006 [writerPort w, writerSession w] = true) := by
  unfold serviceResponse
  rw [if_neg (not_not.2 length)]
  extract_lets word number good used bad rest counted
  rw [if_neg (by rw [show good = false from isBad, Bool.false_and]; decide)]
  refine ⟨_, rfl, ?_, fun room => newEvent_log (t := used.modNet _) room le_rfl rfl⟩
  rw [State.log_net]
  show (if 3 ≤ bad then _ else _ : NetSt).rights = _
  split <;> rfl

theorem serviceOk_of_holder {s : State} {w : Writer} (port : w.ownerWord ≠ 0) (held : w.ownerWord ∈ s.net.rights.map fun r => r.1) :
    serviceOk s w = true := by
  cases w with
  | logic => exact absurd rfl port
  | port c se =>
    obtain ⟨r, mem, mine⟩ := List.mem_map.1 held
    exact List.any_eq_true.2 ⟨r, mem, beq_iff_eq.2 mine⟩

theorem serviceResponse_judged {s : State} {signature challenge : List Nat} {w : Writer}
    (admitted : s.admits w Obj.NET_SVC_RESPONSE (.bytes signature) = true) (length : signature.length = 96) (port : w.ownerWord ≠ 0)
    (found : s.net.challenges.find? (fun c => c.1 == w.ownerWord) = some (w.ownerWord, challenge)) :
    Completes (.serviceResponse signature w) s fun t =>
      (Config.signatureValid (s.objN Obj.NET_SVC_KEY_ID) (challengeText s w challenge ++ signature) = true → serviceOk t w = true) ∧
      (Config.signatureValid (s.objN Obj.NET_SVC_KEY_ID) (challengeText s w challenge ++ signature) = false →
        t.net.rights.map (fun r => r.1) = s.net.rights.map (fun r => r.1)) := by
  have judged : responseGood s w signature =
      Config.signatureValid (s.objN Obj.NET_SVC_KEY_ID) (challengeText s w challenge ++ signature) := by
    rw [responseGood, found]
  refine ⟨_, rfl, fun valid => ?_, fun invalid => ?_⟩
  · obtain ⟨t, effect, holder⟩ := serviceResponse_good length port (judged.trans valid)
    obtain ⟨u, answered, shape⟩ := dictReq_accepted_net admitted ((writeEffect_response w signature s).trans (congrArg done effect))
    rw [answered]
    refine serviceOk_of_holder port ?_
    rw [State.reply_holders, shape]
    exact holder
  · obtain ⟨t, effect, rights, _⟩ := serviceResponse_bad length (judged.trans invalid)
    rw [dictReq_refused admitted ((writeEffect_response w signature s).trans (congrArg done effect)) (by decide), State.reply_holders, rights]

theorem serviceResponse_unchallenged {s : State} {signature : List Nat} {w : Writer}
    (admitted : s.admits w Obj.NET_SVC_RESPONSE (.bytes signature) = true) (length : signature.length = 96)
    (none : s.net.challenges = []) (room : s.hasRoom 1 = true) : Completes (.serviceResponse signature w) s fun t =>
      t.net.rights.map (fun r => r.1) = s.net.rights.map (fun r => r.1) ∧ newEvent s t 0x7006 [writerPort w, writerSession w] = true := by
  obtain ⟨t, effect, rights, logged⟩ := serviceResponse_bad (s := s) (w := w) length (by rw [responseGood, none]; rfl)
  refine ⟨_, congrArg Host.Outcome.next
    (dictReq_refused admitted ((writeEffect_response w signature s).trans (congrArg done effect)) (by decide)), ?_, ?_⟩
  · rw [State.reply_holders, rights]
  · exact newEvent_keeps (keeps_State_reply t w _ _) rfl (logged room)

/-! ### Ends by time (R331) -/

theorem serviceAccessTimeout_ends {s : State} {w : Writer} (alive : s.alive .house = true)
    (past : ∀ r ∈ s.net.rights, r.1 = w.ownerWord → s.objN Obj.NET_SVC_TIMEOUT * cyclesSec ≤ s.since r.2) :
    Completes (.serviceAccessTimeout w) s fun t => (∀ r ∈ t.net.rights, r.1 ≠ w.ownerWord) ∧
      ∀ r ∈ s.net.rights, r.1 ≠ w.ownerWord → r ∈ t.net.rights := by
  refine ⟨_, congrArg Host.Outcome.next (State.on_of_alive alive _), ?_, ?_⟩
  · intro r mem mine
    obtain ⟨stood, kept⟩ := List.mem_filter.1 mem
    dsimp only at kept
    rw [mine, beq_self_eq_true, decide_eq_true (past r stood mine)] at kept
    exact Bool.noConfusion kept
  · intro r stood other
    refine List.mem_filter.2 ⟨stood, ?_⟩
    dsimp only
    rw [beq_eq_false_iff_ne.2 other]
    rfl

theorem challengeBlockEnd_ends {s : State} {port : Nat} (alive : s.alive .house = true)
    (past : ∀ b ∈ s.net.blocked, b.1 = port → 60 * cyclesSec ≤ s.since b.2) :
    Completes (.challengeBlockEnd port) s fun t => (∀ b ∈ t.net.blocked, b.1 ≠ port) ∧
      ∀ b ∈ s.net.blocked, b.1 ≠ port → b ∈ t.net.blocked := by
  refine ⟨_, congrArg Host.Outcome.next (State.on_of_alive alive _), ?_, ?_⟩
  · intro b mem mine
    obtain ⟨stood, kept⟩ := List.mem_filter.1 mem
    rw [mine, beq_self_eq_true, decide_eq_true (past b stood mine)] at kept
    exact Bool.noConfusion kept
  · intro b stood other
    refine List.mem_filter.2 ⟨stood, ?_⟩
    rw [beq_eq_false_iff_ne.2 other]
    rfl

/-- Settles O35, clause by clause from the lemmas above. -/
theorem ownershipAndService : Obligations.OwnershipAndService := by
  unfold Obligations.OwnershipAndService
  refine ⟨?claim, ?held, ?force, ?release, ?timeout, ?challenge, ?response, ?unchallenged, ?access, ?block⟩
  case claim =>
    rintro s c se _ rfl admitted inv free room
    exact ownershipClaim_granted admitted inv free room
  case held => exact fun _ w held => ownershipClaim_held w held
  case force =>
    rintro s c se _ rfl admitted inv lower room
    exact ownershipForce_granted admitted inv lower room
  case release =>
    rintro s c se _ rfl admitted inv owns room
    exact ownershipRelease_granted admitted inv owns room
  case timeout => exact fun _ alive inv held silent room => ownershipTimeout_ends alive inv held silent room
  case challenge => exact fun _ _ reaches house unblocked => serviceChallengeRead_kept reaches house unblocked
  case response => exact fun _ _ _ _ admitted length port found => serviceResponse_judged admitted length port found
  case unchallenged => exact fun _ _ _ admitted length none room => serviceResponse_unchallenged admitted length none room
  case access => exact fun _ _ alive past => serviceAccessTimeout_ends alive past
  case block => exact fun _ _ alive past => challengeBlockEnd_ends alive past

end Sys2Proof.Machine
end

section
/-!
PROOF. Chapter 14, writes by the dictionary's rules (R326, R327): the object that a plain write names holds the written value, because what the
module shows of itself after a write stands in read-only objects alone.
-/

namespace Sys2Proof.Machine

-- One declaration after another, so that the whole text compiles within its memory.
set_option Elab.async false

/-! ### The objects of a group -/

/-- The objects that are listed by themselves, chapter by chapter. -/
def spanChapters : List (List ObjSpan) :=
  [ciaObjs, modObjs, supObjs, nvsObjs, timObjs, fioObjs, twnObjs, gflObjs, shrObjs, frtObjs, srvObjs, pieObjs, edgObjs, gdvObjs, acqObjs,
    galObjs, lgcObjs, netObjs, safObjs]

/-- The groups of what no span lists. -/
def restGroups : List ObjGroup :=
  [.cia, .mod, .sup, .nvs, .tim, .fio, .twn, .gfl, .shr, .frt, .srv, .pie, .edg, .gdv, .acq, .gal, .lgc, .net, .saf, .blk, .other]

/-- The group of a key is that of a listed span that covers it, or one of the rest. -/
def Spanned (key : Nat) (g : ObjGroup) : Prop := (∃ l ∈ spanChapters, ∃ r ∈ l, r.covers key = true ∧ r.group = g) ∨ g ∈ restGroups

theorem spanned_pick {l : List ObjSpan} {rest : ObjGroup} (chapter : l ∈ spanChapters) (unlisted : rest ∈ restGroups) (key : Nat) :
    Spanned key (ObjSpan.pick l rest key) := by
  unfold ObjSpan.pick
  split
  next r found => exact .inl ⟨l, chapter, r, List.mem_of_find?_eq_some found, List.find?_some (p := fun r : ObjSpan => r.covers key) found, rfl⟩
  next => exact .inr unlisted

theorem spanned_ite {key : Nat} {c : Prop} [Decidable c] {a b : ObjGroup} (yes : Spanned key a) (no : Spanned key b) :
    Spanned key (if c then a else b) := by
  split
  · exact yes
  · exact no

theorem objGroup_spanned (key : Nat) : Spanned key (objGroup key) := by
  unfold objGroup
  repeat' refine spanned_ite ?_ ?_
  any_goals exact spanned_pick (by simp only [spanChapters, List.mem_cons, true_or, or_true]) (by decide) key
  · exact .inr (by decide)
  · exact .inr (by decide)

/-- The keys of a span whose objects are one subindex wide. -/
def ObjSpan.keys (r : ObjSpan) : List Nat := (List.range r.count).map fun i => r.base + r.step * i

theorem ObjSpan.mem_keys {r : ObjSpan} {key : Nat} (narrow : r.width = 1) (covered : r.covers key = true) : key ∈ r.keys := by
  simp only [ObjSpan.covers, Bool.and_eq_true, decide_eq_true_eq, narrow, Nat.lt_one_iff] at covered
  obtain ⟨⟨above, replica⟩, exact_⟩ := covered
  refine List.mem_map.2 ⟨(key - r.base) / r.step, List.mem_range.2 replica, ?_⟩
  have whole := Nat.div_add_mod (key - r.base) r.step
  omega

/-! ### What is shown after a write stands in read-only objects -/

/-- The parts of the module that a write makes it show anew. -/
abbrev reviewParts : Nat := 0x4000800000008000040008000500010000000000000800000018000010000000007003d0094000000010014000004080421b0000002098100095302100007c000000100

/-- No row holds the key, or its row cannot be written. -/
def readOnlyKey (key : Nat) : Bool :=
  match objRow (key / 256) (key % 256) with
  | some r => r.access == .ro || r.access == .const
  | none => true

theorem reviewed_spans : (spanChapters.flatten.filter fun r => reviewParts.testBit (Part.obj r.group).bit).all (fun r =>
    r.width == 1 && r.keys.all readOnlyKey) = true := by
  decide +kernel

theorem reviewed_rest : ∀ g ∈ restGroups, reviewParts.testBit (Part.obj g).bit = false := by decide

/-- An object that can be written is not among those that are shown after a write. -/
theorem unreviewed_of_writable {key : Nat} (writable : readOnlyKey key = false) :
    reviewParts.testBit (Part.obj (objGroup key)).bit = false := by
  rw [← Bool.not_eq_true]
  intro shown
  rcases objGroup_spanned key with ⟨l, chapter, r, listed, covered, group⟩ | rest
  · have all := List.all_eq_true.1 reviewed_spans r
      (List.mem_filter.2 ⟨List.mem_flatten.2 ⟨l, chapter, listed⟩, by rw [group]; exact shown⟩)
    rw [Bool.and_eq_true, beq_iff_eq] at all
    obtain ⟨narrow, readOnly⟩ := all
    rw [List.all_eq_true.1 readOnly key (ObjSpan.mem_keys narrow covered)] at writable
    exact Bool.noConfusion writable
  · rw [reviewed_rest _ rest] at shown
    exact Bool.noConfusion shown

/-! ### The row of a plain write -/

/-- The objects whose write has an effect of its own besides the rule (R78, R113, R262). -/
def ownEffect (name : String) : Bool :=
  name == "GAL_CONFIG" || name == "GAL_NODE" || name == "GAL_DEST_PORT" || name == "GFL_CONFIG" || name == "PIE_CONFIG"

theorem plainWrite_byRule {r : ObjRow} (plain : ownEffect r.name = false) (key : Nat) (v : Val) (s : State) :
    plainWrite r key v s = (0, takeByRule r key v s) := by
  simp only [ownEffect, Bool.or_eq_false_iff, beq_eq_false_iff_ne] at plain
  obtain ⟨⟨⟨⟨config, node⟩, port⟩, law⟩, pier⟩ := plain
  unfold plainWrite
  dsimp only
  split
  · next name => exact absurd name config
  · next name => exact absurd name node
  · next name => exact absurd name port
  · next name => exact absurd name law
  · next name => exact absurd name pier
  · rfl

/-- Outside the galleries only objects of the piers, written field by field, have an effect of their own. -/
theorem pages_plain : (List.range 0x60).all (fun p => p == 0x50 || (objPage (256 * p)).all fun r =>
    !ownEffect r.name || (r.run == .byField && decide (0x30 ≤ p ∧ p < 0x44))) = true := by
  decide +kernel

theorem objPage_of_page (idx : Nat) : objPage idx = objPage (256 * (idx / 256)) := by
  unfold objPage
  rw [Nat.mul_div_cancel_left _ (by decide : 0 < 256)]

theorem page_of_galOfKey {key : Nat} (gallery : galOfKey key = none) : key / 256 / 256 ≠ 0x50 := by
  intro page
  unfold galOfKey at gallery
  dsimp only at gallery
  rw [if_pos (by omega)] at gallery
  exact Option.some_ne_none _ gallery

theorem page_of_pierOfKey {key : Nat} (pier : pierOfKey key = none) : ¬(0x30 ≤ key / 256 / 256 ∧ key / 256 / 256 < 0x44) := by
  rintro ⟨low, high⟩
  unfold pierOfKey at pier
  dsimp only at pier
  split at pier
  · omega
  · split at pier
    · rw [dif_pos (by omega)] at pier
      exact Option.some_ne_none _ pier
    · split at pier
      · rw [dif_pos (by omega)] at pier
        exact Option.some_ne_none _ pier
      · omega

/-- A row outside the galleries is plain, but for the rows of a pier that are written field by field. -/
theorem plain_of_row {key : Nat} {r : ObjRow} (row : objRow (key / 256) (key % 256) = some r) (low : key < 0x600000)
    (gallery : galOfKey key = none) (quiet : pierOfKey key = none ∨ r.run ≠ .byField) : ownEffect r.name = false := by
  have mem : r ∈ objPage (256 * (key / 256 / 256)) := objPage_of_page (key / 256) ▸ List.mem_of_find?_eq_some row
  have page := List.all_eq_true.1 pages_plain (key / 256 / 256) (List.mem_range.2 (by omega))
  rw [beq_eq_false_iff_ne.2 (page_of_galOfKey gallery), Bool.false_or] at page
  have rowPlain := List.all_eq_true.1 page r mem
  rcases quiet with pier | run
  · rw [decide_eq_false (page_of_pierOfKey pier), Bool.and_false, Bool.or_false, Bool.not_eq_true'] at rowPlain
    exact rowPlain
  · rw [beq_eq_false_iff_ne.2 run, Bool.false_and, Bool.or_false, Bool.not_eq_true'] at rowPlain
    exact rowPlain

/-! ### The effect of an admitted plain write -/

/-- The check of a write to a plain object passes only for an object that can be written. -/
theorem writable_of_admits {s : State} {w : Writer} {key : Nat} {v : Val} {r : ObjRow} (admitted : s.admits w key v = true)
    (low : key < 0x600000) (row : objRow (key / 256) (key % 256) = some r) : readOnlyKey key = false := by
  have passed : writeCheck s w key v false = 0 := by
    simp only [State.admits, Bool.and_eq_true, beq_iff_eq] at admitted
    exact admitted.2
  have block : blockOf s (key / 256) = none := if_pos (.inl (by omega))
  rw [readOnlyKey, row]
  by_contra shut
  have locked : r.access = .ro ∨ r.access = .const ∨ reservedConfig key = true := by
    simp only [Bool.not_eq_false, Bool.or_eq_true, beq_iff_eq] at shut
    exact shut.elim .inl fun const => .inr (.inl const)
  unfold writeCheck at passed
  dsimp only at passed
  split at passed
  · next unknown => exact unknown passed
  · rw [if_neg (by omega), block] at passed
    dsimp only at passed
    rw [row] at passed
    dsimp only at passed
    rw [if_pos locked] at passed
    exact absurd passed (by decide)

theorem writeEffect_plain {w : Writer} {key : Nat} {v : Val} {r : ObjRow} {s : State} (low : key < 0x600000)
    (command : isCommandKey key = false) (row : objRow (key / 256) (key % 256) = some r) (plain : ownEffect r.name = false) :
    writeEffect w key v s = done (0, takeByRule r key v s) := by
  have block : blockOf s (key / 256) = none := if_pos (.inl (by omega))
  unfold writeEffect
  dsimp only
  rw [if_neg (by omega), block]
  dsimp only
  rw [if_neg (by rw [command]; decide), row]
  dsimp only
  rw [plainWrite_byRule plain]

theorem actNow_obj {s : State} {key : Nat} {v : Val} (wf : cellsWf s.objs = true) (pier : pierOfKey key = none)
    (gallery : galOfKey key = none) (chain : chainOfKey key = none)
    (unreviewed : reviewParts.testBit (Part.obj (objGroup key)).bit = false) : (actNow s (key, v)).obj key = v := by
  unfold actNow
  dsimp only
  rw [pier, gallery, chain]
  dsimp only
  have shown (page : Nat) (t : State) : (showPage page t).obj key = t.obj key :=
    ((keeps_showPage page t).mono (F := reviewParts) rfl).obj key unreviewed rfl
  have reviewed (b : Fin 2) (t : State) : (domainReview b t).obj key = t.obj key :=
    ((keeps_domainReview b t).mono (F := reviewParts) rfl).obj key unreviewed rfl
  have held : (s.setObj key v).obj key = v := State.obj_setObj_self wf key v
  rw [shown]
  have kept : ∀ t : State, t.obj key = v → (if s.objN key == 0 && key == Obj.SUP_SENSOR_EN then
      { t with sup := { t.sup with sensorAt := t.now } } else t).obj key = v := by
    intro t ht
    split
    · exact ht
    · exact ht
  refine kept _ ?_
  split
  · exact (reviewed 0 _).trans held
  · split
    · exact (reviewed 1 _).trans held
    · exact held

/-- Outside the run modes a write to an object of no pier acts at once (R326). -/
theorem takeByRule_now {r : ObjRow} {key : Nat} {v : Val} {s : State} (idle : s.mod.mode.running = false) (run : r.run ≠ .nextReset)
    (low : key < 0x600000) (pier : pierOfKey key = none) : takeByRule r key v s = actNow s (key, v) := by
  have page := page_of_pierOfKey pier
  have law : isLawKey key = false := by
    unfold isLawKey
    rw [Bool.and_eq_false_iff, Bool.and_eq_false_iff, decide_eq_false_iff_not, decide_eq_false_iff_not]
    omega
  have block : isBlockKey key = false := by
    unfold isBlockKey
    rw [decide_eq_false (by omega), Bool.false_and]
  unfold takeByRule
  rw [if_neg run, if_pos (by rw [idle]; rfl), if_neg (by rw [law, block]; decide)]

/-- An admitted write to a plain object outside the run modes leaves the object with the written value (R326). -/
theorem plain_write_takes {s : State} {w : Writer} {key : Nat} {v : Val} {r : ObjRow} (admitted : s.admits w key v = true)
    (wf : cellsWf s.objs = true) (idle : s.mod.mode.running = false) (row : objRow (key / 256) (key % 256) = some r) (low : key < 0x600000)
    (run : r.run ≠ .nextReset) (command : isCommandKey key = false) (pier : pierOfKey key = none) (gallery : galOfKey key = none)
    (chain : chainOfKey key = none) : ∃ t, writeEffect w key v s = done (0, t) ∧ t.obj key = v :=
  ⟨_, writeEffect_plain low command row (plain_of_row row low gallery (.inl pier)), by
    rw [takeByRule_now idle run low pier]
    exact actNow_obj wf pier gallery chain (unreviewed_of_writable (writable_of_admits admitted low row))⟩

end Sys2Proof.Machine
end

section
/-!
PROOF. Frames that stay sent, and chapter 16, the stores: a store starts when the energy held is at least the energy it needs, and else waits (R391).
-/

namespace Sys2Proof.Machine

-- One declaration after another, so that the whole text compiles within its memory.
set_option Elab.async false

theorem defaultAt_NVS_HOLD_C : (defaultAt Obj.NVS_HOLD_C).isSome = true := by decide +kernel
theorem defaultAt_NVS_HOLD_MARGIN : (defaultAt Obj.NVS_HOLD_MARGIN).isSome = true := by decide +kernel

/-! ### Frames that were sent stay sent -/

theorem State.mem_tx_of_respond {s : State} {f : TxFrame} (sent : f ∈ s.tx) (c se kind : Nat) (data : List Int) :
    f ∈ (s.respond c se kind data).tx := by
  unfold State.respond
  split
  · exact List.mem_cons_of_mem _ sent
  · split
    · split
      · exact List.mem_cons_of_mem _ sent
      · exact sent
    · exact List.mem_cons_of_mem _ sent

theorem State.noteAbort_tx (s : State) (c key abort : Nat) : (s.noteAbort c key abort).tx = s.tx :=
  (keeps_State_noteAbort s c key abort).same .tx rfl

theorem State.mem_tx_of_reply {s : State} {f : TxFrame} (sent : f ∈ s.tx) (w : Writer) (key abort : Nat) : f ∈ (s.reply w key abort).tx := by
  cases w with
  | logic => exact sent
  | port c se =>
    unfold State.reply
    refine State.mem_tx_of_respond ?_ c se 1 _
    split
    · exact sent
    · rw [State.noteAbort_tx]
      exact sent

theorem State.mem_tx_of_forward {s : State} {f : TxFrame} (sent : f ∈ s.tx) (key : Nat) (data : List Int) : f ∈ (s.forward key data).tx := by
  unfold State.forward
  split
  · exact List.mem_cons_of_mem _ sent
  · exact sent

/-- A frame that an accepted operation sent stands among the frames after its answer. -/
theorem mem_tx_of_request {s t : State} {w : Writer} {i : Island} {f : State → Nat × State} {frame : TxFrame} (served : s.serves w i = true)
    (key : Nat) (effect : f s = (0, t)) (sent : frame ∈ t.tx) :
    ∃ tx net, request w key i f s = { t with tx := tx, net := net } ∧ frame ∈ tx := by
  obtain ⟨tx, net, shape⟩ := request_accepted_shape served key effect
  have answered := request_served served key (congrArg Prod.fst effect)
  rw [effect] at answered
  have same : tx = ((t.forward key []).reply w key 0).tx := congrArg State.tx (shape.symm.trans answered)
  exact ⟨tx, net, shape, same ▸ State.mem_tx_of_reply (State.mem_tx_of_forward sent key []) w key 0⟩

/-! ### The energies after the HOLD voltage is shown -/

/-- The state in which the measured HOLD voltage is shown. -/
abbrev State.holdShown (s : State) (hold : Rat) : State := s.setR Obj.NVS_HOLD_V (r32 hold)

theorem energyHeld_holdShown (s : State) (hold v : Rat) : energyHeld (s.holdShown hold) v = energyHeld s v := by
  have capacitance : (s.holdShown hold).objR Obj.NVS_HOLD_C = s.objR Obj.NVS_HOLD_C :=
    congrArg Val.toRat (State.obj_setObj_ne (by decide) defaultAt_NVS_HOLD_C _ s)
  unfold energyHeld
  rw [capacitance]

theorem energyNeeded_holdShown (s : State) (hold : Rat) (k : StoreKind) (lines : Nat) :
    energyNeeded (s.holdShown hold) k lines = energyNeeded s k lines := by
  have margin : (s.holdShown hold).objI Obj.NVS_HOLD_MARGIN = s.objI Obj.NVS_HOLD_MARGIN :=
    congrArg Val.toInt (State.obj_setObj_ne (by decide) defaultAt_NVS_HOLD_MARGIN _ s)
  unfold energyNeeded
  rw [margin]

theorem paceErase_of_ne {k : StoreKind} (kind : k ≠ .erase) (s : State) : paceErase s k = false := by
  unfold paceErase
  rw [beq_eq_false_iff_ne.2 kind, Bool.false_and, Bool.false_and]

/-! ### Starting -/

/-- The state in which a waiting store runs. -/
def State.storing (s : State) (x : StoreSt) : State :=
  s.modNvs fun n => { n with
    waiting := n.waiting.erase x, running := some x
    eraseAt := if x.kind = .erase then some s.now else n.eraseAt
    pageAt := if x.kind = .logPage then some s.now else n.pageAt }

/-- With the energy it needs, the first waiting store starts (R391). -/
theorem startStores_starts {s : State} {hold : Rat} {x : StoreSt} (alive : s.alive .house = true) (going : s.nvs.stopped = false)
    (free : s.nvs.running = none) (first : nextStore s.nvs.waiting = some x) (unpaced : paceErase (s.holdShown hold) x.kind = false)
    (energy : energyNeeded s x.kind x.lines ≤ energyHeld s hold) :
    startStores hold s = undeferStore x.kind ((s.holdShown hold).storing x) := by
  unfold startStores
  extract_lets u ea
  have u_def : u = s.holdShown hold := rfl
  have shownFirst : nextStore u.nvs.waiting = some x := first
  have proceed : ¬(!u.alive .house || u.nvs.stopped || u.nvs.running.isSome) = true := by
    show ¬(!s.alive .house || s.nvs.stopped || s.nvs.running.isSome) = true
    rw [alive, going, free]
    decide
  rw [if_neg proceed, shownFirst]
  dsimp only
  rw [if_neg (by rw [u_def, unpaced]; decide)]
  rw [show ea = energyHeld s hold from energyHeld_holdShown s hold hold, show energyNeeded u x.kind x.lines = _ from
    energyNeeded_holdShown s hold x.kind x.lines, if_neg (not_lt.2 energy)]
  rfl

/-- Without it, the store waits and is counted as deferred (R391). -/
theorem startStores_defers {s : State} {hold : Rat} {x : StoreSt} (alive : s.alive .house = true) (going : s.nvs.stopped = false)
    (free : s.nvs.running = none) (first : nextStore s.nvs.waiting = some x) (unpaced : paceErase (s.holdShown hold) x.kind = false)
    (short : energyHeld s hold < energyNeeded s x.kind x.lines) :
    startStores hold s = deferStore x.kind (energyHeld s hold) (energyNeeded s x.kind x.lines) (s.holdShown hold) := by
  unfold startStores
  extract_lets u ea
  have u_def : u = s.holdShown hold := rfl
  have shownFirst : nextStore u.nvs.waiting = some x := first
  have proceed : ¬(!u.alive .house || u.nvs.stopped || u.nvs.running.isSome) = true := by
    show ¬(!s.alive .house || s.nvs.stopped || s.nvs.running.isSome) = true
    rw [alive, going, free]
    decide
  rw [if_neg proceed, shownFirst]
  dsimp only
  rw [if_neg (by rw [u_def, unpaced]; decide)]
  rw [show ea = energyHeld s hold from energyHeld_holdShown s hold hold, show energyNeeded u x.kind x.lines = _ from
    energyNeeded_holdShown s hold x.kind x.lines, if_pos short]

/-- A deferred store leaves the waiting and the running stores, and the saved values. -/
theorem deferStore_nvs (k : StoreKind) (ea es : Rat) (s : State) :
    (deferStore k ea es s).nvs.running = s.nvs.running ∧ (deferStore k ea es s).nvs.waiting = s.nvs.waiting ∧
    (deferStore k ea es s).saved = s.saved := by
  have kept := keeps_deferStore k ea es s
  exact ⟨kept.same (.nvs .running) rfl, kept.same (.nvs .waiting) rfl, kept.same .saved rfl⟩

/-! ### Requests -/

/-- The state in which one more store waits. -/
abbrev State.storeAsked (s : State) (x : StoreSt) : State := s.modNvs fun n => { n with waiting := n.waiting ++ [x] }

theorem requestStore_asks {s : State} (alive : s.alive .house = true) (going : s.nvs.stopped = false) (k : StoreKind) (lines : Nat)
    (w : Option Writer) (b : Option ImageBlock) (hold : Rat) :
    requestStore k lines w b hold s = startStores hold (s.storeAsked ⟨k, lines, w, s.now, b⟩) := by
  unfold requestStore
  rw [if_neg (by rw [alive, going]; decide)]

/-- A lone store with the energy it needs starts at once (R391). -/
theorem requestStore_starts {s : State} {k : StoreKind} {lines : Nat} {hold : Rat} (alive : s.alive .house = true)
    (going : s.nvs.stopped = false) (free : s.nvs.running = none) (lone : s.nvs.waiting = []) (kind : k ≠ .erase) (w : Option Writer)
    (b : Option ImageBlock) (energy : energyNeeded s k lines ≤ energyHeld s hold) : ∃ t, requestStore k lines w b hold s = t ∧
      t.nvs.running = some ⟨k, lines, w, s.now, b⟩ ∧ t.nvs.waiting = [] ∧ t.saved = s.saved := by
  refine ⟨_, (requestStore_asks alive going k lines w b hold).trans (startStores_starts (s := s.storeAsked ⟨k, lines, w, s.now, b⟩)
    (x := ⟨k, lines, w, s.now, b⟩) alive going free ?_ (paceErase_of_ne kind _) energy), rfl, ?_, rfl⟩
  · show nextStore (s.nvs.waiting ++ _) = _
    rw [lone]
    rfl
  · show (s.nvs.waiting ++ [_]).erase _ = []
    rw [lone, List.nil_append, List.erase_cons_head]

/-- A lone store without it waits (R391). -/
theorem requestStore_defers {s : State} {k : StoreKind} {lines : Nat} {hold : Rat} (alive : s.alive .house = true)
    (going : s.nvs.stopped = false) (free : s.nvs.running = none) (lone : s.nvs.waiting = []) (kind : k ≠ .erase) (w : Option Writer)
    (b : Option ImageBlock) (short : energyHeld s hold < energyNeeded s k lines) : requestStore k lines w b hold s =
      deferStore k (energyHeld s hold) (energyNeeded s k lines) ((s.storeAsked ⟨k, lines, w, s.now, b⟩).holdShown hold) := by
  refine (requestStore_asks alive going k lines w b hold).trans (startStores_defers (s := s.storeAsked ⟨k, lines, w, s.now, b⟩)
    (x := ⟨k, lines, w, s.now, b⟩) alive going free ?_ (paceErase_of_ne kind _) short)
  show nextStore (s.nvs.waiting ++ _) = _
  rw [lone]
  rfl

end Sys2Proof.Machine
end

section
/-!
PROOF. Chapter 14, writes that are taken, wait or are refused, and the objects 0x1010, 0x1011 and 0x1003 (R326 to R334, R351, R352, R391).
-/

namespace Sys2Proof.Machine

-- One declaration after another, so that the whole text compiles within its memory.
set_option Elab.async false

/-! ### Writes that are taken, or wait -/

/-- An accepted write with no other write of its tick leaves what its effect left, but for sent frames and the ports' state. -/
theorem dictionaryWrite_takes {s t : State} {w : Writer} {key : Nat} {v : Val} (admitted : s.admits w key v = true)
    (effect : writeEffect w key v s = done (0, t)) :
    ∃ tx net, exec (.dictionaryWrite key v w [] []) s = .next { t with tx := tx, net := net } := by
  obtain ⟨u, run, kept⟩ := dictReq_accepted_net admitted effect
  obtain ⟨tx, net, reply⟩ := State.reply_accepted u w key
  refine ⟨tx, net, congrArg Host.Outcome.next (run.trans (reply.trans ?_))⟩
  rw [kept]

theorem dictionaryWrite_acts {s : State} {key : Nat} {v : Val} {w : Writer} {r : ObjRow} (admitted : s.admits w key v = true)
    (inv : Inv s) (idle : s.mod.mode.running = false) (row : objRow (key / 256) (key % 256) = some r) (low : key < 0x600000)
    (run : r.run ≠ .nextReset) (command : isCommandKey key = false) (pier : pierOfKey key = none) (gallery : galOfKey key = none)
    (chain : chainOfKey key = none) : Completes (.dictionaryWrite key v w [] []) s fun t => t.obj key = v := by
  obtain ⟨t, effect, taken⟩ := plain_write_takes admitted inv.objs idle row low run command pier gallery chain
  obtain ⟨tx, net, run⟩ := dictionaryWrite_takes admitted effect
  exact ⟨_, run, taken⟩

theorem page_of_pierOfKey_some {key : Nat} {n : StageId} (pier : pierOfKey key = some n) : galOfKey key = none := by
  unfold pierOfKey at pier
  unfold galOfKey
  dsimp only at pier ⊢
  refine if_neg fun gallery => ?_
  rw [if_neg (by omega), if_neg (by omega), if_neg (by omega), if_pos (by omega)] at pier
  exact Option.some_ne_none _ pier.symm

/-- While the module runs, a pier object of rule "next commit" waits for the commit (R326). -/
theorem dictionaryWrite_awaits_commit {s : State} {key : Nat} {v : Val} {w : Writer} {r : ObjRow} {n : StageId}
    (admitted : s.admits w key v = true) (running : s.mod.mode.running = true) (row : objRow (key / 256) (key % 256) = some r)
    (low : key < 0x600000) (rule : r.run = .nextCommit) (command : isCommandKey key = false) (pier : pierOfKey key = some n)
    (unheld : isLawKey key = true → s.bit (Obj.GFL_CONFIG n) 10 = false) : Completes (.dictionaryWrite key v w [] []) s fun t =>
      t.commitWrites = s.commitWrites ++ [(key, v)] ∧ t.obj key = s.obj key := by
  have free : (isLawKey key && s.bit (Obj.GFL_CONFIG n) 10) = false := by
    rcases Bool.eq_false_or_eq_true (isLawKey key) with law | law
    · rw [unheld law, Bool.and_false]
    · rw [law, Bool.false_and]
  have block : isBlockKey key = false := by
    unfold isBlockKey
    rw [decide_eq_false (by omega), Bool.false_and]
  have awaited : takeByRule r key v s = { s with commitWrites := s.commitWrites ++ [(key, v)] } := by
    unfold takeByRule
    rw [rule, if_neg (by decide), running, if_neg (by decide)]
    dsimp only
    unfold awaitCommit
    rw [pier]
    dsimp only
    rw [free, if_neg Bool.false_ne_true, block, Bool.false_and, if_neg Bool.false_ne_true]
  have plain := plain_of_row row low (page_of_pierOfKey_some pier) (.inr (by rw [rule]; decide))
  obtain ⟨tx, net, run⟩ := dictionaryWrite_takes admitted (writeEffect_plain low command row plain)
  rw [awaited] at run
  exact ⟨_, run, rfl, rfl⟩

/-- While the module runs, an object of rule "next mode change" waits for that (R326). -/
theorem dictionaryWrite_awaits_mode {s : State} {key : Nat} {v : Val} {w : Writer} {r : ObjRow} (admitted : s.admits w key v = true)
    (running : s.mod.mode.running = true) (row : objRow (key / 256) (key % 256) = some r) (low : key < 0x600000)
    (rule : r.run = .nextModeChange) (command : isCommandKey key = false) (gallery : galOfKey key = none) :
    Completes (.dictionaryWrite key v w [] []) s fun t => t.modeWrites = s.modeWrites ++ [(key, v)] ∧ t.obj key = s.obj key := by
  have awaited : takeByRule r key v s = { s with modeWrites := s.modeWrites ++ [(key, v)] } := by
    unfold takeByRule
    rw [rule, if_neg (by decide), running, if_neg (by decide)]
  have plain := plain_of_row row low gallery (.inr (by rw [rule]; decide))
  obtain ⟨tx, net, run⟩ := dictionaryWrite_takes admitted (writeEffect_plain low command row plain)
  rw [awaited] at run
  exact ⟨_, run, rfl, rfl⟩

/-! ### Writes that are refused, or lost -/

/-- A write that fails a check is answered with its abort code and acts on nothing (R334). -/
theorem dictionaryWrite_refused {s : State} {key : Nat} {v : Val} {c se a : Nat} (reaches : s.reaches (.port c se) = true)
    (alive : s.alive .house = true) (ethernet : c = 2 ∨ c = 3 ∨ c = 4) (check : writeCheck s (.port c se) key v false = a) (fails : a ≠ 0) :
    Completes (.dictionaryWrite key v (.port c se) [] []) s fun t => (⟨c, 1, [c + 16 * se, key, a]⟩ : TxFrame) ∈ t.tx ∧
      t.commitWrites = s.commitWrites ∧ t.modeWrites = s.modeWrites ∧ t.mod.mode = s.mod.mode ∧ t.stg = s.stg := by
  have refused : writeRequest (.port c se) key v none s = (some a, noteRefused (.port c se) (.port c se) key v a s) := by
    unfold writeRequest
    rw [alive, if_neg (by decide), check, beq_eq_false_iff_ne.2 fails, Bool.and_false, if_neg Bool.false_ne_true]
    unfold dictWrite
    rw [show writeCheck s (.port c se) key v (none : Option Writer).isSome = a from check]
    split
    · next none => exact absurd rfl fails
    · rfl
  have run : exec (.dictionaryWrite key v (.port c se) [] []) s =
      .next ((noteRefused (.port c se) (.port c se) key v a s).reply (.port c se) key a) := by
    refine congrArg Host.Outcome.next ?_
    show dictReq (.port c se) key v none s = _
    unfold dictReq
    rw [reaches, if_neg (by decide), refused]
    rfl
  have noted := keeps_noteRefused (.port c se) (.port c se) key v a s
  have replied := keeps_State_reply (noteRefused (.port c se) (.port c se) key v a s) (.port c se) key a
  exact ⟨_, run, State.mem_tx_reply_ethernet (by omega) _ se key a, (replied.same .commitWrites rfl).trans (noted.same .commitWrites rfl),
    (replied.same .modeWrites rfl).trans (noted.same .modeWrites rfl), (replied.mode rfl).trans (noted.mode rfl),
    (replied.stg fun f => by cases f <;> rfl).trans (noted.stg fun f => by cases f <;> rfl)⟩

theorem defaultAt_NET_WRITES_LOST : defaultAt Obj.NET_WRITES_LOST = some (.int 0) := by decide +kernel

/-- A write lost against a higher source of the same tick is counted (R334). -/
theorem noteRefused_lost (w winner : Writer) (key : Nat) (v : Val) (s : State) :
    (noteRefused w winner key v 0x08000020 s).objN Obj.NET_WRITES_LOST = s.objN Obj.NET_WRITES_LOST + 1 := by
  have counted : ((s.bump Obj.NET_WRITES_LOST).logOnce 0x7007 0 [key, writerPort w, writerPort winner]).objN Obj.NET_WRITES_LOST =
      s.objN Obj.NET_WRITES_LOST + 1 :=
    ((keeps_State_logOnce (s.bump Obj.NET_WRITES_LOST) 0x7007 0 _).objN Obj.NET_WRITES_LOST (by rw [group_NET_WRITES_LOST]; rfl) rfl).trans
      (State.objN_bump_of_default defaultAt_NET_WRITES_LOST s)
  unfold noteRefused
  extract_lets code late t
  have t_count : t.objN Obj.NET_WRITES_LOST = s.objN Obj.NET_WRITES_LOST + 1 := counted
  split
  · exact ((keeps_modRefused code _ t).objN Obj.NET_WRITES_LOST (by rw [group_NET_WRITES_LOST]; rfl) rfl).trans t_count
  · split
    · exact ((keeps_cmdRefused code _ t).objN Obj.NET_WRITES_LOST (by rw [group_NET_WRITES_LOST]; rfl) rfl).trans t_count
    · exact t_count

theorem winnerOver_logic (w : Writer) : winnerOver w [.logic] [] = some .logic := rfl

theorem dictionaryWrite_lost {s : State} {key : Nat} {v : Val} {w : Writer} (admitted : s.admits w key v = true)
    (check : writeCheck s w key v true = 0x08000020) : Completes (.dictionaryWrite key v w [.logic] []) s fun t =>
      t.objN Obj.NET_WRITES_LOST = s.objN Obj.NET_WRITES_LOST + 1 ∧ t.commitWrites = s.commitWrites := by
  simp only [State.admits, Bool.and_eq_true, beq_iff_eq] at admitted
  obtain ⟨⟨⟨reaches, alive⟩, island⟩, -⟩ := admitted
  have lost : writeRequest w key v (some .logic) s = (some 0x08000020, noteRefused w .logic key v 0x08000020 s) := by
    unfold writeRequest
    rw [alive, if_neg (by decide), island, Bool.not_true, Bool.false_and, if_neg Bool.false_ne_true]
    unfold dictWrite
    rw [show writeCheck s w key v (some Writer.logic).isSome = 0x08000020 from check]
    rfl
  have run : exec (.dictionaryWrite key v w [.logic] []) s =
      .next ((noteRefused w .logic key v 0x08000020 s).reply w key 0x08000020) := by
    refine congrArg Host.Outcome.next ?_
    show dictReq w key v (winnerOver w [.logic] []) s = _
    rw [winnerOver_logic]
    unfold dictReq
    rw [reaches, if_neg (by decide), lost]
    rfl
  have replied := keeps_State_reply (noteRefused w .logic key v 0x08000020 s) w key 0x08000020
  exact ⟨_, run, (replied.objN Obj.NET_WRITES_LOST (by rw [group_NET_WRITES_LOST]; rfl) rfl).trans (noteRefused_lost w .logic key v s),
    (replied.same .commitWrites rfl).trans ((keeps_noteRefused w .logic key v 0x08000020 s).same .commitWrites rfl)⟩

/-! ### 0x1010, 0x1011 and 0x1003 -/

/-- The store signature, written outside the run modes, asks for a store of the dictionary that is answered to its requester (R352). -/
theorem storeParameters_asks {s : State} {w : Writer} (admitted : s.admits w Obj.CIA_STORE (.int 0x65766173) = true)
    (mode : s.mod.mode = .ready ∨ s.mod.mode = .lockout) (hold : Rat) : exec (.storeParameters hold w) s =
      .next ((requestStore .dictionary 0 (some w) none hold s).renew w true) := by
  simp only [State.admits, Bool.and_eq_true, beq_iff_eq] at admitted
  obtain ⟨⟨⟨reaches, alive⟩, -⟩, check⟩ := admitted
  have asked : storeParams 0x65766173 hold w s = (none, requestStore .dictionary 0 (some w) none hold s) := by
    unfold storeParams
    rw [if_neg (by rcases mode with m | m <;> rw [m] <;> decide), if_neg (by decide)]
  refine congrArg Host.Outcome.next ?_
  rw [reaches, if_neg (by decide), alive, if_neg (by decide), check]
  rw [asked]
  rfl

theorem storeParameters_starts {s : State} {hold : Rat} {w : Writer} (admitted : s.admits w Obj.CIA_STORE (.int 0x65766173) = true)
    (mode : s.mod.mode = .ready ∨ s.mod.mode = .lockout) (alive : s.alive .house = true) (going : s.nvs.stopped = false)
    (free : s.nvs.running = none) (lone : s.nvs.waiting = []) (energy : energyNeeded s .dictionary 0 ≤ energyHeld s hold) :
    Completes (.storeParameters hold w) s fun t => t.nvs.running = some ⟨.dictionary, 0, some w, s.now, none⟩ ∧ t.nvs.waiting = [] ∧
      t.saved = s.saved := by
  obtain ⟨t, asked, running, waiting, saved⟩ := requestStore_starts alive going free lone (k := .dictionary) (by decide) (some w) none energy
  refine ⟨_, storeParameters_asks admitted mode hold, ?_⟩
  rw [asked]
  exact ⟨running, waiting, saved⟩

theorem storeParameters_waits {s : State} {hold : Rat} {w : Writer} (admitted : s.admits w Obj.CIA_STORE (.int 0x65766173) = true)
    (mode : s.mod.mode = .ready ∨ s.mod.mode = .lockout) (alive : s.alive .house = true) (going : s.nvs.stopped = false)
    (free : s.nvs.running = none) (lone : s.nvs.waiting = []) (short : energyHeld s hold < energyNeeded s .dictionary 0) :
    Completes (.storeParameters hold w) s fun t => t.nvs.running = none ∧ t.nvs.waiting = [⟨.dictionary, 0, some w, s.now, none⟩] ∧
      t.saved = s.saved := by
  refine ⟨_, storeParameters_asks admitted mode hold, ?_⟩
  rw [requestStore_defers alive going free lone (by decide) (some w) none short]
  obtain ⟨running, waiting, saved⟩ := deferStore_nvs .dictionary (energyHeld s hold) (energyNeeded s .dictionary 0)
    ((s.storeAsked ⟨.dictionary, 0, some w, s.now, none⟩).holdShown hold)
  refine ⟨running.trans free, waiting.trans ?_, saved⟩
  show s.nvs.waiting ++ _ = _
  rw [lone, List.nil_append]

/-- The load signature orders the defaults for the next power-up (R352). -/
theorem restoreDefaults_ordered {s : State} {w : Writer} (admitted : s.admits w Obj.CIA_RESTORE (.int 0x64616F6C) = true)
    (mode : s.mod.mode = .ready ∨ s.mod.mode = .lockout) :
    Completes (.restoreDefaults w) s fun t => t.net.restore = true ∧ t.saved = s.saved := by
  have ordered : restoreDefaults 0x64616F6C s = (0, s.modNet fun n => { n with restore := true }) := by
    unfold restoreDefaults
    rw [if_neg (by rcases mode with m | m <;> rw [m] <;> decide), if_neg (by decide)]
  have effect : writeEffect w Obj.CIA_RESTORE (.int 0x64616F6C) s = done (0, s.modNet fun n => { n with restore := true }) :=
    (show _ = done (restoreDefaults 0x64616F6C s) from rfl).trans (congrArg done ordered)
  obtain ⟨u, run, kept⟩ := dictReq_accepted_net admitted effect
  have restore : u.net.restore = true := by rw [kept]; rfl
  have saved : u.saved = s.saved := by rw [kept]; rfl
  have replied := keeps_State_reply u w Obj.CIA_RESTORE 0
  refine ⟨_, congrArg Host.Outcome.next run, (replied.same (.net .restore) rfl).trans restore, (replied.same .saved rfl).trans saved⟩

theorem defaultAt_CIA_ERROR_COUNT : (defaultAt Obj.CIA_ERROR_COUNT).isSome = true := by decide +kernel
theorem defaultAt_CIA_ERROR_FIELD : (defaultAt (Obj.CIA_ERROR_FIELD 0)).isSome = true := by decide +kernel

/-- Writing 0 leaves an object that was 0 at 0. -/
theorem State.objN_setN_zero {s : State} (wf : cellsWf s.objs = true) {k : Nat} (dflt : (defaultAt k).isSome = true) (k' : Nat)
    (zero : s.objN k = 0) : (s.setN k' 0).objN k = 0 := by
  by_cases same : k = k'
  · rw [same, State.objN_setN wf]
  · rw [State.objN_setN_ne same dflt, zero]

/-- 0 written to 0x1003 clears the error history (R351). -/
theorem clearHistory_clears {s : State} (wf : cellsWf s.objs = true) : ∃ t, clearHistory 0 s = (0, t) ∧ t.objN Obj.CIA_ERROR_COUNT = 0 ∧
    t.objN (Obj.CIA_ERROR_FIELD 0) = 0 := by
  refine ⟨_, if_neg (by decide), ?_⟩
  have fields : List.range 8 = 0 :: (List.range 7).map Nat.succ := by decide
  rw [fields, List.foldl_cons]
  refine (foldl_invariant (P := fun t => cellsWf t.objs = true ∧ t.objN Obj.CIA_ERROR_COUNT = 0 ∧ t.objN (Obj.CIA_ERROR_FIELD 0) = 0)
    ?_ _ ⟨State.wf_setN (State.wf_setN wf _ _) _ _, ?_, State.objN_setN (State.wf_setN wf _ _) _ _⟩).2
  · rintro t i ⟨canonical, count, field⟩
    exact ⟨State.wf_setN canonical _ _, State.objN_setN_zero canonical defaultAt_CIA_ERROR_COUNT _ count,
      State.objN_setN_zero canonical defaultAt_CIA_ERROR_FIELD _ field⟩
  · exact State.objN_setN_zero (State.wf_setN wf _ _) defaultAt_CIA_ERROR_COUNT _ (State.objN_setN wf _ _)

theorem errorHistoryClear_clears {s : State} {w : Writer} (admitted : s.admits w Obj.CIA_ERROR_COUNT (.int 0) = true) (inv : Inv s) :
    Completes (.errorHistoryClear w) s fun t => t.objN Obj.CIA_ERROR_COUNT = 0 ∧ t.objN (Obj.CIA_ERROR_FIELD 0) = 0 := by
  obtain ⟨t, cleared, count, field⟩ := clearHistory_clears inv.objs
  have effect : writeEffect w Obj.CIA_ERROR_COUNT (.int 0) s = done (0, t) :=
    (show _ = done (clearHistory 0 s) from rfl).trans (congrArg done cleared)
  obtain ⟨u, run, kept⟩ := dictReq_accepted_net admitted effect
  obtain ⟨tx, net, reply⟩ := State.reply_accepted u w Obj.CIA_ERROR_COUNT
  have cleared_run : exec (.errorHistoryClear w) s = .next { t with tx := tx, net := net } :=
    congrArg Host.Outcome.next (run.trans (reply.trans (by rw [kept])))
  exact ⟨_, cleared_run, count, field⟩

/-! ### The statement -/

/-- Settles O34, clause by clause: the effect of an admitted plain write, the refusals of the checks, and the three objects of the stores. -/
theorem dictionaryWritesAndStores : Obligations.DictionaryWritesAndStores := by
  unfold Obligations.DictionaryWritesAndStores
  refine ⟨?acts, ?commit, ?mode, ?refused, ?lost, ?starts, ?waits, ?restore, ?clear⟩
  case acts =>
    exact fun _ _ _ _ _ admitted inv idle row low run command pier gallery chain =>
      dictionaryWrite_acts admitted inv idle row low run command pier gallery chain
  case commit =>
    exact fun _ _ _ _ _ _ admitted running row low rule command pier unheld =>
      dictionaryWrite_awaits_commit admitted running row low rule command pier unheld
  case mode =>
    exact fun _ _ _ _ _ admitted running row low rule command gallery =>
      dictionaryWrite_awaits_mode admitted running row low rule command gallery
  case refused => exact fun _ _ _ _ _ _ reaches alive ethernet check fails => dictionaryWrite_refused reaches alive ethernet check fails
  case lost => exact fun _ _ _ _ admitted _ check => dictionaryWrite_lost admitted check
  case starts =>
    exact fun _ _ _ admitted mode alive going free lone _ energy _ => storeParameters_starts admitted mode alive going free lone energy
  case waits =>
    exact fun _ _ _ admitted mode alive going free lone _ short _ => storeParameters_waits admitted mode alive going free lone short
  case restore => exact fun _ _ admitted mode => restoreDefaults_ordered admitted mode
  case clear => exact fun _ _ admitted inv => errorHistoryClear_clears admitted inv

end Sys2Proof.Machine
end

section
/-!
PROOF. Chapter 14, the service protocol (R340 to R342): a response of the wrong length that WRITE_SEG completes uses no challenge up.
-/

namespace Sys2Proof.Machine

-- One declaration after another, so that the whole text compiles within its memory.
set_option Elab.async false

/-- A response that is not 96 bytes long is refused before its challenge is looked at (R331). -/
theorem serviceResponse_misfit {signature : List Nat} (length : signature.length ≠ 96) (w : Writer) (s : State) :
    serviceResponse signature w s = (0x06070010, s) := by
  unfold serviceResponse
  rw [if_pos length]

theorem writeRequest_misfit_keeps {signature : List Nat} (length : signature.length ≠ 96) (w : Writer) (s : State) :
    (writeRequest w Obj.NET_SVC_RESPONSE (.bytes signature) none s).2.net.challenges = s.net.challenges := by
  unfold writeRequest
  split
  · rfl
  · split
    · rfl
    · unfold dictWrite
      split
      · extract_lets r
        have effect : r = done (0x06070010, s) :=
          (writeEffect_response w signature s).trans (congrArg done (serviceResponse_misfit length w s))
        have refused : ¬((done ((0x06070010 : Nat), s)).1 = some 0 ∨ (done ((0x06070010 : Nat), s)).1 = none) :=
          fun taken => taken.elim (fun e => absurd (Option.some.inj e : (0x06070010 : Nat) = 0) (by decide)) nofun
        rw [effect, if_neg refused]
        rfl
      · exact (keeps_noteRefused _ _ _ _ _ s).same (.net .challenges) rfl

theorem answer_challenges (w : Writer) (key : Nat) (r : Option Nat × State) :
    (answer w key r).net.challenges = r.2.net.challenges := by
  unfold answer
  split
  · exact (keeps_State_reply _ w key _).same (.net .challenges) rfl
  · rfl

/-- The last segment of a response whose length is not 96 bytes leaves the challenges as they are. -/
theorem svcWriteSeg_misfit {s : State} {h : SvcHead} {x : SessionSt} {before data : List Nat} (served : svcServed s h.port = true)
    (only : s.net.sessions = [x]) (id : x.id = h.session) (port : x.port = h.port) (seq : h.seq = (x.seq + 1) % 4294967296)
    (part : x.partial_ = some (Obj.NET_SVC_RESPONSE, before)) (begun : 0 < before.length) (segment : data.length ≤ 1024)
    (length : (before ++ data).length ≠ 96) : ∃ t, exec (.svcWriteSeg h Obj.NET_SVC_RESPONSE before.length data true (.bytes [])) s = .next t ∧
      t.net.challenges = s.net.challenges := by
  refine ⟨_, rfl, ?_⟩
  rw [svcRequest_of_next served only id port seq]
  unfold writeSeg
  rw [part]
  dsimp only
  rw [if_pos (show before.length ≠ 0 ∧ Obj.NET_SVC_RESPONSE = Obj.NET_SVC_RESPONSE from ⟨begun.ne', rfl⟩), if_neg (not_not.2 rfl),
    if_neg (not_lt.2 segment), if_pos rfl, answer_challenges]
  exact writeRequest_misfit_keeps length _ _

/-- A ready module, with a session at E1 that has been sent 90 of the 96 bytes of a response to its challenge. -/
def halfResponse : State :=
  (live .ready).opened.modNet fun x => { x with
    challenges := [(50, .replicate 32 1)]
    sessions := [⟨3, 2, 7, 0, [1], [], some (Obj.NET_SVC_RESPONSE, .replicate 90 1)⟩] }

theorem halfResponse_served : svcServed halfResponse 2 = true ∧ halfResponse.alive .house = true ∧
    halfResponse.admits (.port 2 3) Obj.NET_SVC_RESPONSE (.bytes (.replicate 90 1 ++ [])) = true := by
  decide +kernel

/-- Refutes O39: the clause on the last segment of a response lacks the premise that the whole is 96 bytes long; a shorter one is refused
with 0x06070010, and its challenge stands. -/
theorem not_serviceProtocol : ¬ Obligations.ServiceProtocol := by
  unfold Obligations.ServiceProtocol
  rintro ⟨_, _, _, _, _, _, _, _, lastSegment, _⟩
  obtain ⟨served, alive, admitted⟩ := halfResponse_served
  have begun : 0 < (List.replicate 90 1).length := by decide
  obtain ⟨t, run, used, _⟩ := lastSegment halfResponse ⟨2, 3, 8⟩ Obj.NET_SVC_RESPONSE _ [] (.replicate 90 1) (.port 2 3) (.replicate 32 1)
    ⟨3, 2, 7, 0, [1], [], some (Obj.NET_SVC_RESPONSE, .replicate 90 1)⟩ served rfl rfl rfl rfl alive rfl rfl rfl begun (by decide) rfl admitted rfl
  obtain ⟨u, exec_u, kept⟩ := svcWriteSeg_misfit (s := halfResponse) (h := ⟨2, 3, 8⟩) (data := []) served rfl rfl rfl rfl rfl begun (by decide)
    (by decide)
  obtain rfl : u = t := by injection exec_u.symm.trans run
  rw [kept] at used
  exact List.cons_ne_nil _ _ used

end Sys2Proof.Machine
end

section
/-!
PROOF. Chapter 16, check-value units (R383 to R386).
-/

namespace Sys2Proof.Machine

-- One declaration after another, so that the whole text compiles within its memory.
set_option Elab.async false

/-! ### The objects of a unit -/

theorem State.modCvu_self (s : State) (u : CvuId) (f : CvuSt → CvuSt) : (s.modCvu u f).nvs.cvu[u] = f s.nvs.cvu[u] :=
  Vector.getElem_set_self _

theorem defaultAt_CVU_RESULT (u : CvuId) : (defaultAt (Obj.CVU_RESULT u)).isSome = true := by
  revert u
  decide +kernel

theorem defaultAt_CVU_EXPECT (u : CvuId) : (defaultAt (Obj.CVU_EXPECT u)).isSome = true := by
  revert u
  decide +kernel

theorem defaultAt_CVU_DROPPED (u : CvuId) : (defaultAt (Obj.CVU_DROPPED u)).isSome = true := by
  revert u
  decide +kernel

theorem CVU_RESULT_ne_STATUS (u : CvuId) : Obj.CVU_RESULT u ≠ Obj.CVU_STATUS u := fun same => by
  change 0x224007 + 0x100 * u.val = 0x224008 + 0x100 * u.val at same
  omega

theorem CVU_EXPECT_ne_RESULT (u : CvuId) : Obj.CVU_EXPECT u ≠ Obj.CVU_RESULT u := fun same => by
  change 0x224004 + 0x100 * u.val = 0x224007 + 0x100 * u.val at same
  omega

theorem CVU_DROPPED_ne_RESULT (u : CvuId) : Obj.CVU_DROPPED u ≠ Obj.CVU_RESULT u := fun same => by
  change 0x224009 + 0x100 * u.val = 0x224007 + 0x100 * u.val at same
  omega

theorem CVU_DROPPED_ne_STATUS (u : CvuId) : Obj.CVU_DROPPED u ≠ Obj.CVU_STATUS u := fun same => by
  change 0x224009 + 0x100 * u.val = 0x224008 + 0x100 * u.val at same
  omega

theorem group_CVU_DROPPED_of (u : CvuId) : objGroup (Obj.CVU_DROPPED u) = .CVU_DROPPED := by
  revert u
  decide +kernel

/-- Of a word whose lowest bit is written, the bits above it stay. -/
theorem bitsAt_setBitsAt_zero_above (v x j w : Nat) : bitsAt (setBitsAt v 0 1 x) (j + 1) w = bitsAt v (j + 1) w := by
  have half : setBitsAt v 0 1 x / 2 = v / 2 := by
    simp only [setBitsAt, bitsAt, pow_zero, pow_one, Nat.div_one, Nat.mul_one]
    omega
  rw [bitsAt, bitsAt, pow_succ', ← Nat.div_div_eq_div_mul, half, Nat.div_div_eq_div_mul]

theorem State.bit_setBit_zero_above {s : State} (wf : cellsWf s.objs = true) (key j : Nat) (b : Bool) :
    (s.setBit key 0 b).bit key (j + 1) = s.bit key (j + 1) := by
  unfold State.setBit State.setField State.bit State.field
  rw [State.objN_setN wf, bitsAt_setBitsAt_zero_above]

/-! ### The commands of a unit -/

theorem owned_of_serves {s : State} {w : Writer} {i : Island} (served : s.serves w i = true) (f : State → Nat × State) : owned w f s = f s :=
  if_pos (State.serves_accepts served)

/-- A unit's state after FINISH: free, with nothing fed (R385). -/
def cvuFreed (u : CvuId) (s : State) : State :=
  (s.modCvu u fun y => { y with owner := none, fed := [] }).setBit (Obj.CVU_STATUS u) 0 false

theorem cvuFreed_cvu (u : CvuId) (s : State) : (cvuFreed u s).nvs.cvu[u] = { s.nvs.cvu[u] with owner := none, fed := [] } :=
  State.modCvu_self s u fun y => { y with owner := none, fed := [] }

theorem cvuFreed_objN {key : Nat} (u : CvuId) (ne : key ≠ Obj.CVU_STATUS u) (dflt : (defaultAt key).isSome = true) (s : State) :
    (cvuFreed u s).objN key = s.objN key :=
  State.objN_setN_ne (s := s.modCvu u _) ne dflt _

theorem not_foreign_busy {s : State} {u : CvuId} {w : Writer} (own : cvuForeign s u w = false) (busy : s.nvs.cvu[u].owner = some w) :
    ¬(cvuForeign s u w || !cvuBusy s u) = true := by
  rw [own, cvuBusy, busy]
  exact Bool.false_ne_true

/-- A served START makes the source the unit's owner, with nothing fed (R384, R386). -/
theorem cvuStart_owns {s : State} {u : CvuId} {w : Writer} (served : s.serves w .house = true) (own : cvuForeign s u w = false) (inv : Inv s) :
    Completes (.cvuStart u w) s fun t => t.nvs.cvu[u].owner = some w ∧ t.nvs.cvu[u].fed = [] ∧
      t.nvs.cvu[u].tally = (if cvuMode s u = 2 ∧ cvuTally s u ≠ 0 then (s.nvs.cvu[u].tally + 1) % 256 ^ cvuTally s u else s.nvs.cvu[u].tally) ∧
      t.field (Obj.CVU_STATUS u) 0 3 = 1 := by
  have effect : owned w (cvuStart u w) s = (0, (s.modCvu u fun x => { x with
      owner := some w, fed := [], tally := if cvuMode s u = 2 ∧ cvuTally s u ≠ 0 then (x.tally + 1) % 256 ^ cvuTally s u else x.tally }).setField
        (Obj.CVU_STATUS u) 0 3 1) :=
    (owned_of_serves served _).trans (if_neg (by rw [own]; decide))
  obtain ⟨tx, net, shape⟩ := request_accepted_shape served (Obj.CVU_CTRL u) effect
  have unit := State.modCvu_self s u fun x => { x with
    owner := some w, fed := [], tally := if cvuMode s u = 2 ∧ cvuTally s u ≠ 0 then (x.tally + 1) % 256 ^ cvuTally s u else x.tally }
  exact ⟨_, congrArg Host.Outcome.next shape, congrArg CvuSt.owner unit, congrArg CvuSt.fed unit, congrArg CvuSt.tally unit,
    State.field_setField (s := s.modCvu u _) inv.objs (Obj.CVU_STATUS u) 0 3 1⟩

/-- A feed of the owner appends its bytes (R384). -/
theorem cvuFeed_appends {s : State} {u : CvuId} {w : Writer} (served : s.serves w .house = true) (own : cvuForeign s u w = false)
    (busy : s.nvs.cvu[u].owner = some w) (data : List Nat) : Completes (.cvuFeed u data w) s fun t =>
      t.nvs.cvu[u].fed = s.nvs.cvu[u].fed ++ data.map (fun b => b % 256) ∧ t.nvs.cvu[u].owner = some w := by
  have effect : owned w (cvuFeed u data w) s = (0, s.modCvu u fun x => { x with fed := x.fed ++ data.map (· % 256) }) :=
    (owned_of_serves served _).trans (if_neg (not_foreign_busy own busy))
  obtain ⟨tx, net, shape⟩ := request_accepted_shape served (Obj.CVU_DATA u) effect
  have unit := State.modCvu_self s u fun x => { x with fed := x.fed ++ data.map (· % 256) }
  exact ⟨_, congrArg Host.Outcome.next shape, congrArg CvuSt.fed unit, (congrArg CvuSt.owner unit).trans busy⟩

/-- A feed of another source changes no unit (R384). -/
theorem cvuFeed_foreign {s : State} {u : CvuId} {w o : Writer} (busy : s.nvs.cvu[u].owner = some o) (other : o ≠ w) (data : List Nat) :
    Completes (.cvuFeed u data w) s fun t => t.nvs.cvu = s.nvs.cvu := by
  have foreign : (cvuForeign s u w || !cvuBusy s u) = true := by
    rw [cvuForeign, busy]
    dsimp only
    rw [bne_iff_ne.2 other, Bool.or_true, Bool.true_or]
  have idle : (owned w (cvuFeed u data w) s).2 = s := by
    unfold owned
    split
    · exact congrArg Prod.snd (if_pos foreign)
    · rfl
  obtain ⟨tx, objs, net, shape⟩ := request_idle_shape (w := w) (Obj.CVU_DATA u) .house idle
  exact ⟨_, congrArg Host.Outcome.next shape, rfl⟩

/-! ### FINISH -/

/-- FINISH in check mode before the unit is freed: the check value stands, and one that differs is logged (R385). -/
def cvuChecked (u : CvuId) (s : State) : State :=
  let r := cvuCrc s u s.nvs.cvu[u].fed
  let s := s.setN (Obj.CVU_RESULT u) r
  if r = s.objN (Obj.CVU_EXPECT u) then s else (s.setBit (Obj.CVU_STATUS u) 1 true).log 0x9009 [u.val, r]

/-- FINISH in send mode before the unit is freed: the frame goes to its source (R385, R386). -/
def cvuSent (u : CvuId) (w : Writer) (s : State) : State :=
  let frame := withTally s.nvs.cvu[u].fed (cvuOffset s u) (cvuTally s u) s.nvs.cvu[u].tally
  let r := cvuCrc s u frame
  cvuPass u w (frame ++ bytesBE (cvuCheckBytes s u) r) (s.setN (Obj.CVU_RESULT u) r)

theorem cvuFinish_check {s : State} {u : CvuId} {w : Writer} (own : cvuForeign s u w = false) (busy : s.nvs.cvu[u].owner = some w)
    (mode : cvuMode s u = 1) : cvuFinish u w s = (0, cvuFreed u (cvuChecked u s)) := by
  unfold cvuFinish
  rw [if_neg (not_foreign_busy own busy), mode]
  rfl

theorem cvuFinish_send {s : State} {u : CvuId} {w : Writer} (own : cvuForeign s u w = false) (busy : s.nvs.cvu[u].owner = some w)
    (mode : cvuMode s u = 2) : cvuFinish u w s = (0, cvuFreed u (cvuSent u w s)) := by
  unfold cvuFinish
  rw [if_neg (not_foreign_busy own busy), mode]
  rfl

theorem cvuFinish_receive {s : State} {u : CvuId} {w : Writer} (own : cvuForeign s u w = false) (busy : s.nvs.cvu[u].owner = some w)
    (mode : cvuMode s u = 3) : cvuFinish u w s = (0, cvuFreed u (cvuReceive u w s)) := by
  unfold cvuFinish
  rw [if_neg (not_foreign_busy own busy), mode]
  rfl

theorem cvuChecked_result {s : State} (wf : cellsWf s.objs = true) (room : s.hasRoom 1 = true) (u : CvuId) :
    (cvuChecked u s).objN (Obj.CVU_RESULT u) = cvuCrc s u s.nvs.cvu[u].fed := by
  have written := State.objN_setN wf (Obj.CVU_RESULT u) (cvuCrc s u s.nvs.cvu[u].fed)
  unfold cvuChecked
  extract_lets r t
  split
  · exact written
  · rw [State.log_objN (s := t.setBit _ _ _) room]
    exact (State.objN_setN_ne (CVU_RESULT_ne_STATUS u) (defaultAt_CVU_RESULT u) _ t).trans written

theorem cvuChecked_wf {s : State} (wf : cellsWf s.objs = true) (room : s.hasRoom 1 = true) (u : CvuId) :
    cellsWf (cvuChecked u s).objs = true := by
  unfold cvuChecked
  extract_lets r t
  split
  · exact State.wf_setN wf _ _
  · exact State.log_wf (State.wf_setBit (State.wf_setN wf _ _) _ _ _) room _ _

theorem cvuChecked_mismatch {s : State} (wf : cellsWf s.objs = true) (room : s.hasRoom 1 = true) {u : CvuId}
    (differs : cvuCrc s u s.nvs.cvu[u].fed ≠ s.objN (Obj.CVU_EXPECT u)) : (cvuChecked u s).bit (Obj.CVU_STATUS u) 1 = true ∧
      newEvent s (cvuChecked u s) 0x9009 [u.val, cvuCrc s u s.nvs.cvu[u].fed] = true := by
  have expect := State.objN_setN_ne (CVU_EXPECT_ne_RESULT u) (defaultAt_CVU_EXPECT u)
    (cvuCrc s u s.nvs.cvu[u].fed) s
  unfold cvuChecked
  extract_lets r t
  rw [if_neg (by rw [show t.objN (Obj.CVU_EXPECT u) = _ from expect]; exact differs)]
  refine ⟨?_, newEvent_log (t := t.setBit _ _ _) room le_rfl rfl⟩
  rw [State.log_bit (s := t.setBit _ _ _) room]
  exact State.bit_setBit (State.wf_setN wf _ _) _ _ _

/-- FINISH in check mode leaves the check value over the bytes fed, and logs one that differs (R385). -/
theorem cvuFinish_checks {s : State} {u : CvuId} {w : Writer} (served : s.serves w .house = true) (own : cvuForeign s u w = false)
    (busy : s.nvs.cvu[u].owner = some w) (mode : cvuMode s u = 1) (room : s.hasRoom 1 = true) (inv : Inv s) :
    Completes (.cvuFinish u w) s fun t => t.objN (Obj.CVU_RESULT u) = cvuCrc s u s.nvs.cvu[u].fed ∧ t.nvs.cvu[u].owner = none ∧
      t.nvs.cvu[u].fed = [] ∧ (cvuCrc s u s.nvs.cvu[u].fed ≠ s.objN (Obj.CVU_EXPECT u) → t.bit (Obj.CVU_STATUS u) 1 = true ∧
      newEvent s t 0x9009 [u.val, cvuCrc s u s.nvs.cvu[u].fed] = true) := by
  obtain ⟨tx, net, shape⟩ := request_accepted_shape served (Obj.CVU_CTRL u)
    ((owned_of_serves served _).trans (cvuFinish_check own busy mode))
  have unit := cvuFreed_cvu u (cvuChecked u s)
  refine ⟨_, congrArg Host.Outcome.next shape, (cvuFreed_objN u (CVU_RESULT_ne_STATUS u) (defaultAt_CVU_RESULT u) _).trans
    (cvuChecked_result inv.objs room u), congrArg CvuSt.owner unit, congrArg CvuSt.fed unit, fun differs => ?_⟩
  obtain ⟨marked, logged⟩ := cvuChecked_mismatch inv.objs room differs
  exact ⟨(State.bit_setBit_zero_above (s := (cvuChecked u s).modCvu u _) (cvuChecked_wf inv.objs room u) _ 0 _).trans marked,
    newEvent_congr (t := cvuChecked u s) rfl logged⟩

theorem withTally_none (frame : List Nat) (off tally : Nat) : withTally frame off 0 tally = frame := by
  unfold withTally
  have none : (fun i b => if off ≤ i ∧ i < off + 0 then tally / 256 ^ (off + 0 - 1 - i) % 256 else b) = fun (_ : Nat) (b : Nat) => b := by
    funext i b
    exact if_neg (by omega)
  rw [none]
  exact List.mapIdx_eq_iff.2 fun i => by cases frame[i]? <;> rfl

theorem cvuSent_sends {s : State} {u : CvuId} {c se : Nat} (untallied : cvuTally s u = 0) :
    cvuSent u (.port c se) s = (s.setN (Obj.CVU_RESULT u) (cvuCrc s u s.nvs.cvu[u].fed)).send c 41
      (u.val :: (s.nvs.cvu[u].fed ++ bytesBE (cvuCheckBytes s u) (cvuCrc s u s.nvs.cvu[u].fed)).map Int.ofNat) := by
  unfold cvuSent
  rw [untallied, withTally_none]
  rfl

/-- FINISH in send mode hands on the frame with its check value (R385). -/
theorem cvuFinish_sends {s : State} {u : CvuId} {c se : Nat} (served : s.serves (.port c se) .house = true)
    (own : cvuForeign s u (.port c se) = false) (busy : s.nvs.cvu[u].owner = some (.port c se)) (mode : cvuMode s u = 2)
    (untallied : cvuTally s u = 0) (inv : Inv s) : Completes (.cvuFinish u (.port c se)) s fun t =>
      (⟨c, 41, u.val :: (s.nvs.cvu[u].fed ++ bytesBE (cvuCheckBytes s u) (cvuCrc s u s.nvs.cvu[u].fed)).map Int.ofNat⟩ : TxFrame) ∈ t.tx ∧
      t.objN (Obj.CVU_RESULT u) = cvuCrc s u s.nvs.cvu[u].fed ∧ t.nvs.cvu[u].owner = none := by
  have effect := (owned_of_serves served _).trans (cvuFinish_send own busy mode)
  rw [cvuSent_sends untallied] at effect
  obtain ⟨tx, net, shape, sent⟩ := mem_tx_of_request served (Obj.CVU_CTRL u) effect (List.mem_cons_self (l := s.tx))
  have unit := cvuFreed_cvu u ((s.setN (Obj.CVU_RESULT u) (cvuCrc s u s.nvs.cvu[u].fed)).send c 41
    (u.val :: (s.nvs.cvu[u].fed ++ bytesBE (cvuCheckBytes s u) (cvuCrc s u s.nvs.cvu[u].fed)).map Int.ofNat))
  exact ⟨_, congrArg Host.Outcome.next shape, sent, (cvuFreed_objN u (CVU_RESULT_ne_STATUS u) (defaultAt_CVU_RESULT u) _).trans
    (State.objN_setN inv.objs _ _), congrArg CvuSt.owner unit⟩

/-- A frame whose check value fails is dropped, and counted (R385). -/
theorem cvuReceive_drops {s : State} {u : CvuId} {w : Writer}
    (fails : s.nvs.cvu[u].fed.length < cvuCheckBytes s u ∨ wordBE (s.nvs.cvu[u].fed.drop (s.nvs.cvu[u].fed.length - cvuCheckBytes s u)) ≠
      cvuCrc s u (s.nvs.cvu[u].fed.take (s.nvs.cvu[u].fed.length - cvuCheckBytes s u))) : cvuReceive u w s =
        cvuDrop u (s.setN (Obj.CVU_RESULT u) (cvuCrc s u (s.nvs.cvu[u].fed.take (s.nvs.cvu[u].fed.length - cvuCheckBytes s u)))) := by
  unfold cvuReceive
  extract_lets x n body result t
  refine if_pos ?_
  rw [Bool.or_eq_true, decide_eq_true_eq, decide_eq_true_eq]
  exact fails

theorem cvuDrop_counts {s : State} (wf : cellsWf s.objs = true) (u : CvuId) :
    (cvuDrop u s).objN (Obj.CVU_DROPPED u) = s.objN (Obj.CVU_DROPPED u) + 1 :=
  ((keeps_State_logOnce (s.bump (Obj.CVU_DROPPED u)) 0x900A u.val _).objN (Obj.CVU_DROPPED u) (by rw [group_CVU_DROPPED_of]; rfl) rfl).trans
    (State.objN_bump wf _)

theorem cvuDrop_nvs (u : CvuId) (s : State) : (cvuDrop u s).nvs.cvu = s.nvs.cvu :=
  (keeps_State_logOnce (s.bump (Obj.CVU_DROPPED u)) 0x900A u.val _).same (.nvs .cvu) rfl

/-- FINISH in receive mode drops a frame whose check value fails (R385). -/
theorem cvuFinish_drops {s : State} {u : CvuId} {w : Writer} (served : s.serves w .house = true) (own : cvuForeign s u w = false)
    (busy : s.nvs.cvu[u].owner = some w) (mode : cvuMode s u = 3)
    (fails : s.nvs.cvu[u].fed.length < cvuCheckBytes s u ∨ wordBE (s.nvs.cvu[u].fed.drop (s.nvs.cvu[u].fed.length - cvuCheckBytes s u)) ≠
      cvuCrc s u (s.nvs.cvu[u].fed.take (s.nvs.cvu[u].fed.length - cvuCheckBytes s u))) (inv : Inv s) :
    Completes (.cvuFinish u w) s fun t => t.objN (Obj.CVU_DROPPED u) = s.objN (Obj.CVU_DROPPED u) + 1 ∧
      t.nvs.cvu[u].accepted = s.nvs.cvu[u].accepted ∧ t.nvs.cvu[u].owner = none := by
  have effect := (owned_of_serves served _).trans (cvuFinish_receive own busy mode)
  rw [cvuReceive_drops fails] at effect
  obtain ⟨tx, net, shape⟩ := request_accepted_shape served (Obj.CVU_CTRL u) effect
  have unit := cvuFreed_cvu u (cvuDrop u (s.setN (Obj.CVU_RESULT u)
    (cvuCrc s u (s.nvs.cvu[u].fed.take (s.nvs.cvu[u].fed.length - cvuCheckBytes s u)))))
  have accepted := congrArg (fun units : Vector CvuSt 8 => units[u].accepted) (cvuDrop_nvs u (s.setN (Obj.CVU_RESULT u)
    (cvuCrc s u (s.nvs.cvu[u].fed.take (s.nvs.cvu[u].fed.length - cvuCheckBytes s u)))))
  refine ⟨_, congrArg Host.Outcome.next shape, ?_, (congrArg CvuSt.accepted unit).trans accepted, congrArg CvuSt.owner unit⟩
  calc (cvuFreed u _).objN (Obj.CVU_DROPPED u)
      = _ := cvuFreed_objN u (CVU_DROPPED_ne_STATUS u) (defaultAt_CVU_DROPPED u) _
    _ = _ := cvuDrop_counts (State.wf_setN inv.objs _ _) u
    _ = _ := congrArg (· + 1) (State.objN_setN_ne (CVU_DROPPED_ne_RESULT u) (defaultAt_CVU_DROPPED u) _ s)

/-! ### The statement -/

/-- Settles O44, clause by clause: START, a feed of the owner and of another source, and FINISH in its three modes. -/
theorem checkValueUnits : Obligations.CheckValueUnits := by
  unfold Obligations.CheckValueUnits
  refine ⟨?start, ?feed, ?foreign, ?check, ?send, ?receive⟩
  case start => exact fun _ _ _ served own inv => cvuStart_owns served own inv
  case feed => exact fun _ _ data _ served own busy => cvuFeed_appends served own busy data
  case foreign => exact fun _ _ data _ _ busy other => cvuFeed_foreign busy other data
  case check => exact fun _ _ _ served own busy mode room inv => cvuFinish_checks served own busy mode room inv
  case send =>
    rintro s u _ c se rfl served own busy mode untallied inv
    exact cvuFinish_sends served own busy mode untallied inv
  case receive => exact fun _ _ _ served own busy mode fails inv => cvuFinish_drops served own busy mode fails inv

end Sys2Proof.Machine
end

section
/-!
PROOF. What is read of an object does not depend on the ports' own state.
-/

namespace Sys2Proof.Machine

-- One declaration after another, so that the whole text compiles within its memory.
set_option Elab.async false

/-- A state with another state of its ports. -/
def State.withNet (s : State) (n : NetSt) : State := { s with net := n }

theorem State.withNet_edg (s : State) (n : NetSt) : (s.withNet n).edg = s.edg := rfl

theorem foldl_withNet {α : Type} {f : State → α → State} {n : NetSt} (step : ∀ s a, f (s.withNet n) a = (f s a).withNet n) (l : List α)
    (s : State) : l.foldl f (s.withNet n) = (l.foldl f s).withNet n :=
  List.foldl_hom (fun t : State => t.withNet n) step

/-- What a channel's edges leave at one fibre port: the instants of the acknowledges to come (R217). -/
def portAwaits (c : ChanId) (due : List EdgeEv) (s : State) (p : PortId) : State :=
  match portOutput s p with
  | some (c', hi) =>
    let ons := (due.filter fun e => e.on && e.high == hi).map EdgeEv.t
    if c' ≠ c || ons.isEmpty || !s.bit (Obj.GDV_PORT_CFG p) 0 || !grantNow s then s
    else (s.modPort p fun f => { f with pendingOn := f.pendingOn ++ ons }).setBit (Obj.GDV_PORT_STATUS p) 1 true
  | none => s

/-- What a driver shows of the channel it follows. -/
def drvShows (c : ChanId) (out : Bool → Bool) (s : State) (d : DrvId) : State :=
  match drvOutput s d with
  | some (c', hi) =>
    if c' ≠ c then s
    else if out hi then (s.setBit (Obj.GDV_CH_STATUS d) 0 (out hi)).setBit (Obj.GDV_CH_STATUS d) 3 false
    else s.setBit (Obj.GDV_CH_STATUS d) 0 (out hi)
  | none => s

/-- What a fibre port shows of the channel it follows. -/
def portShows (c : ChanId) (out : Bool → Bool) (s : State) (p : PortId) : State :=
  match portOutput s p with
  | some (c', hi) => if c' ≠ c then s else s.setBit (Obj.GDV_PORT_STATUS p) 0 (out hi && s.bit (Obj.GDV_PORT_CFG p) 0)
  | none => s

/-- The outputs of a channel as they stand. -/
def outputsOf (s : State) (c : ChanId) (hi : Bool) : Bool := if hi then s.edg.ch[c].high else s.edg.ch[c].low

theorem awaitAcks_foldl (c : ChanId) (due : List EdgeEv) (s : State) : awaitAcks c due s = allPorts.foldl (portAwaits c due) s := rfl

theorem showOutputs_foldl (c : ChanId) (s : State) :
    showOutputs c s = allPorts.foldl (portShows c (outputsOf s c)) (allDrvs.foldl (drvShows c (outputsOf s c)) s) := rfl

theorem portAwaits_withNet (c : ChanId) (due : List EdgeEv) (n : NetSt) (s : State) (p : PortId) :
    portAwaits c due (s.withNet n) p = (portAwaits c due s p).withNet n := by
  unfold portAwaits
  rw [show portOutput (s.withNet n) p = portOutput s p from rfl]
  cases portOutput s p with
  | none => rfl
  | some o =>
    dsimp only
    rw [show (s.withNet n).bit (Obj.GDV_PORT_CFG p) 0 = s.bit (Obj.GDV_PORT_CFG p) 0 from rfl, show grantNow (s.withNet n) = grantNow s from rfl]
    split <;> rfl

theorem drvShows_withNet (c : ChanId) (out : Bool → Bool) (n : NetSt) (s : State) (d : DrvId) :
    drvShows c out (s.withNet n) d = (drvShows c out s d).withNet n := by
  unfold drvShows
  rw [show drvOutput (s.withNet n) d = drvOutput s d from rfl]
  cases drvOutput s d with
  | none => rfl
  | some o =>
    dsimp only
    split
    · rfl
    · split <;> rfl

theorem portShows_withNet (c : ChanId) (out : Bool → Bool) (n : NetSt) (s : State) (p : PortId) :
    portShows c out (s.withNet n) p = (portShows c out s p).withNet n := by
  unfold portShows
  rw [show portOutput (s.withNet n) p = portOutput s p from rfl]
  cases portOutput s p with
  | none => rfl
  | some o =>
    dsimp only
    split <;> rfl

theorem awaitAcks_withNet (c : ChanId) (due : List EdgeEv) (n : NetSt) (s : State) :
    awaitAcks c due (s.withNet n) = (awaitAcks c due s).withNet n := by
  rw [awaitAcks_foldl, awaitAcks_foldl, foldl_withNet (portAwaits_withNet c due n)]

theorem showOutputs_withNet (c : ChanId) (n : NetSt) (s : State) : showOutputs c (s.withNet n) = (showOutputs c s).withNet n := by
  rw [showOutputs_foldl, showOutputs_foldl, show outputsOf (s.withNet n) c = outputsOf s c from rfl,
    foldl_withNet (drvShows_withNet c _ n), foldl_withNet (portShows_withNet c _ n)]

theorem bootOf_withNet (c : ChanId) (n : NetSt) (s : State) : bootOf (s.withNet n) c = bootOf s c := rfl
theorem takeEdge_withNet (n : NetSt) (s : State) : takeEdge (s.withNet n) = takeEdge s := rfl
theorem drawOver_withNet (n : NetSt) (s : State) : drawOver (s.withNet n) = drawOver s := rfl

/-- A channel's state once the edges up to an instant have been taken. -/
def edgesTaken (s : State) (boot : Option (Fin 4)) (due : List EdgeEv) (t : Nat) (h : ChanSt) : ChanSt :=
  let h' := due.foldl (takeEdge s boot) h
  { h' with
    edges := h.edges.filter fun e => decide (t < e.t)
    charge := match boot with | some b => drawOver s b h'.high h'.charge h'.chargeAt t | none => h'.charge
    chargeAt := t }

/-- The edges of a channel that have come. -/
def edgesDue (s : State) (c : ChanId) : List EdgeEv := s.edg.ch[c].edges.filter fun e => decide (e.t ≤ now32 s)

theorem settle_eq (c : ChanId) (s : State) : settle c s =
    showOutputs c (awaitAcks c (edgesDue s c) (s.modCh c (edgesTaken s (bootOf s c) (edgesDue s c) (now32 s)))) := rfl

theorem edgesTaken_withNet (n : NetSt) (s : State) : edgesTaken (s.withNet n) = edgesTaken s := by
  funext boot due t h
  unfold edgesTaken
  rw [takeEdge_withNet, drawOver_withNet]

theorem settle_withNet (c : ChanId) (n : NetSt) (s : State) : settle c (s.withNet n) = (settle c s).withNet n := by
  have due : edgesDue (s.withNet n) c = edgesDue s c := rfl
  have now : now32 (s.withNet n) = now32 s := rfl
  have moved (f : ChanSt → ChanSt) : (s.withNet n).modCh c f = (s.modCh c f).withNet n := rfl
  rw [settle_eq, settle_eq, due, now, bootOf_withNet, edgesTaken_withNet, moved, awaitAcks_withNet, showOutputs_withNet]

/-! ### Reading -/

theorem gateOn_withNet (d : DrvId) (n : NetSt) (s : State) : gateOn (s.withNet n) d = gateOn s d := by
  unfold gateOn
  rw [show drvOutput (s.withNet n) d = drvOutput s d from rfl]
  cases drvOutput s d with
  | none => rfl
  | some o =>
    dsimp only
    rw [settle_withNet, State.withNet_edg (settle o.1 s)]
    rfl

theorem portLit_withNet (p : PortId) (n : NetSt) (s : State) : portLit (s.withNet n) p = portLit s p := by
  unfold portLit
  rw [show portOutput (s.withNet n) p = portOutput s p from rfl]
  cases portOutput s p with
  | none => rfl
  | some o =>
    dsimp only
    rw [settle_withNet, State.withNet_edg (settle o.1 s)]
    rfl

/-- The state that a live word of the gate drivers is read from. -/
def settledFor (o : Option (ChanId × Bool)) (s : State) : State := match o with | some (c, _) => settle c s | none => s

theorem settledFor_withNet (o : Option (ChanId × Bool)) (n : NetSt) (s : State) : settledFor o (s.withNet n) = (settledFor o s).withNet n := by
  cases o with
  | none => rfl
  | some o => exact settle_withNet o.1 n s

/-- A live object of the edge, driver or fibre port chapters. -/
def edgeWord (s : State) (key : Nat) (g d p : Option Nat) : Option (Except Nat Val) :=
  match g, d, p with
  | some g, _, _ => if key % 256 = 9 then some (.ok (.int (groupWord s (Fin.ofNat 8 g)))) else none
  | _, some j, _ =>
    if key % 256 ≠ 9 then none
    else if s.fenced .edge then none
    else
      let w := setBitsAt ((settledFor (drvOutput s (Fin.ofNat 12 j)) s).objN key) 0 1 (boolNat (gateOn s (Fin.ofNat 12 j)))
      some (.ok (.int (if gateOn s (Fin.ofNat 12 j) then setBitsAt w 3 1 0 else w : Nat)))
  | _, _, some j =>
    if key % 256 ≠ 2 then none
    else some (.ok (.int (setBitsAt ((settledFor (portOutput s (Fin.ofNat 8 j)) s).objN key) 0 1 (boolNat (portLit s (Fin.ofNat 8 j))) : Nat)))
  | _, _, _ => none

theorem edgeLive_eq (s : State) (key : Nat) :
    edgeLive s key = edgeWord s key (replicaAt key 0x4460 1 8) (replicaAt key 0x4810 1 12) (replicaAt key 0x4850 1 8) := by
  unfold edgeLive edgeWord
  cases replicaAt key 0x4460 1 8 <;> cases replicaAt key 0x4810 1 12 <;> cases replicaAt key 0x4850 1 8 <;> rfl

theorem edgeLive_withNet (n : NetSt) (s : State) (key : Nat) : edgeLive (s.withNet n) key = edgeLive s key := by
  rw [edgeLive_eq, edgeLive_eq]
  unfold edgeWord
  have drv (j : Nat) : drvOutput (s.withNet n) (Fin.ofNat 12 j) = drvOutput s (Fin.ofNat 12 j) := rfl
  have port (j : Nat) : portOutput (s.withNet n) (Fin.ofNat 8 j) = portOutput s (Fin.ofNat 8 j) := rfl
  have word (t : State) : (t.withNet n).objN key = t.objN key := rfl
  simp only [drv, port, settledFor_withNet, word, gateOn_withNet, portLit_withNet]
  rfl

theorem liveValue_withNet (n : NetSt) (s : State) (key : Nat) : liveValue (s.withNet n) key = liveValue s key := by
  unfold liveValue
  rw [edgeLive_withNet]
  rfl

/-- The value that a read answers does not depend on the ports' own state (R326). -/
theorem readObj_withNet (n : NetSt) (s : State) (key : Nat) : readObj (s.withNet n) key = readObj s key := by
  unfold readObj
  rw [liveValue_withNet]
  rfl

end Sys2Proof.Machine
end

section
/-!
PROOF. Chapter 14, the host SPI port, the switch, links, ARP and ICMP (R343 to R347).
-/

namespace Sys2Proof.Machine

-- One declaration after another, so that the whole text compiles within its memory.
set_option Elab.async false

/-! ### Host SPI (R343, R344) -/

/-- The SPI port's state when a request of a new number is served. -/
def spiTaken (seq : Nat) (n : NetSt) : NetSt := { n with spiReply := none, spiSeq := some seq, spiLast := [] }

/-- The checks of a write outside blocks and tags read nothing of the SPI port (R331, R334). -/
theorem writeCheck_spiTaken (s : State) (seq : Nat) {key : Nat} (low : key < 0x600000) (w : Writer) (v : Val) (lost : Bool) :
    writeCheck (s.withNet (spiTaken seq s.net)) w key v lost = writeCheck s w key v lost := by
  have block (t : State) : blockOf t (key / 256) = none := if_pos (.inl (by omega))
  have untagged : ¬0xA000 ≤ key / 256 := by omega
  have plain (r : ObjRow) : plainCheck (s.withNet (spiTaken seq s.net)) w r key v lost = plainCheck s w r key v lost := rfl
  unfold writeCheck
  dsimp only
  rw [if_neg untagged, if_neg untagged, block, block]
  simp only [plain]
  rfl

theorem admits_spiTaken {s : State} {key : Nat} {w : Writer} {v : Val} (admitted : s.admits w key v = true) (low : key < 0x600000)
    (seq : Nat) : (s.withNet (spiTaken seq s.net)).admits w key v = true := by
  rw [← admitted]
  unfold State.admits
  rw [writeCheck_spiTaken s seq low]
  rfl

/-- A request of the host, served (R343). -/
def spiServes (r : SpiReq) (s : State) : State :=
  match r with
  | .read key => answerRead (.port 1 0) key (readRequest (.port 1 0) key s)
  | .write key v => answer (.port 1 0) key (writeRequest (.port 1 0) key v none s)
  | .readSeg key offset => readSeg 1 0 key offset s
  | .writeSeg key offset bytes last v =>
    writeSeg (.port 1 0) s.net.spiPartial (fun p s => s.modNet fun n => { n with spiPartial := p }) key offset bytes last v s
  | .keepalive => s.reply (.port 1 0) 0 0
  | .other => s.reply (.port 1 0) 0 0x05040001

/-- The request with the next sequence number is served (R343). -/
theorem spiFrameReceived_next {s : State} {seq : Nat} (alive : s.alive .house = true)
    (next : s.net.spiSeq = none ∨ s.net.spiSeq.map (fun q => (q + 1) % 4294967296) = some seq) (fresh : s.net.spiSeq ≠ some seq) (r : SpiReq) :
    exec (.spiFrameReceived true seq r) s = .next (spiServes r (s.withNet (spiTaken seq s.net))) := by
  refine congrArg Host.Outcome.next ((State.on_of_alive alive _).trans ?_)
  extract_lets t again next_
  have new : again = false := beq_eq_false_iff_ne.2 fresh
  have follows : next_ = true := by
    show (match s.net.spiSeq with | none => true | some q => seq == (q + 1) % 4294967296) = true
    cases last : s.net.spiSeq with
    | none => rfl
    | some q =>
      rw [last] at next
      rcases next with none | counted
      · exact absurd none (Option.some_ne_none q)
      · exact beq_iff_eq.2 (Option.some.inj counted).symm
  rw [if_neg (by decide), new, if_neg (by decide), follows, if_neg (by decide)]
  cases r <;> rfl

theorem spi_reply_net (s : State) (key : Nat) : (s.reply (.port 1 0) key 0).net.spiSeq = s.net.spiSeq ∧
    (s.reply (.port 1 0) key 0).net.spiReply = some [1, (key : Int), 0] := by
  have answered : s.reply (.port 1 0) key 0 = (s.renew (.port 1 0) (0 == 0)).respond 1 0 1 [1, (key : Int), 0] := rfl
  rw [answered, State.respond, if_pos rfl]
  exact ⟨rfl, rfl⟩

/-- A write by the host takes effect and is answered (R343). -/
theorem spiFrameReceived_write {s : State} {seq key : Nat} {v : Val} {r : ObjRow}
    (next : s.net.spiSeq = none ∨ s.net.spiSeq.map (fun q => (q + 1) % 4294967296) = some seq) (fresh : s.net.spiSeq ≠ some seq)
    (admitted : s.admits (.port 1 0) key v = true) (inv : Inv s) (idle : s.mod.mode.running = false)
    (row : objRow (key / 256) (key % 256) = some r) (low : key < 0x600000) (run : r.run ≠ .nextReset) (command : isCommandKey key = false)
    (pier : pierOfKey key = none) (gallery : galOfKey key = none) (chain : chainOfKey key = none) :
    Completes (.spiFrameReceived true seq (.write key v)) s fun t => t.obj key = v ∧ t.net.spiSeq = some seq ∧
      t.net.spiReply = some [1, (key : Int), 0] := by
  have taken : (s.withNet (spiTaken seq s.net)).admits (.port 1 0) key v = true := admits_spiTaken admitted low seq
  have effect : writeEffect (.port 1 0) key v (s.withNet (spiTaken seq s.net)) = done (0, actNow (s.withNet (spiTaken seq s.net)) (key, v)) := by
    rw [writeEffect_plain low command row (plain_of_row row low gallery (.inl pier)),
      takeByRule_now (s := s.withNet (spiTaken seq s.net)) idle run low pier]
  obtain ⟨u, answered, kept⟩ := dictReq_accepted_net taken effect
  have served : exec (.spiFrameReceived true seq (.write key v)) s = .next (u.reply (.port 1 0) key 0) := by
    rw [spiFrameReceived_next (State.admits_house admitted) next fresh, ← answered]
    refine congrArg Host.Outcome.next ?_
    simp only [State.admits, Bool.and_eq_true] at taken
    unfold dictReq
    rw [taken.1.1.1, if_neg (by decide)]
    rfl
  obtain ⟨tx, net, reply⟩ := State.reply_accepted u (.port 1 0) key
  have value : u.obj key = v := by
    rw [kept]
    exact actNow_obj (s := s.withNet (spiTaken seq s.net)) inv.objs pier gallery chain (unreviewed_of_writable (writable_of_admits admitted low row))
  have number : u.net.spiSeq = some seq := by
    rw [kept]
    exact (keeps_actNow (s.withNet (spiTaken seq s.net)) (key, v)).same (.net .spiSeq) rfl
  obtain ⟨seqKept, replied⟩ := spi_reply_net u key
  refine ⟨_, served, ?_, seqKept.trans number, replied⟩
  rw [reply]
  exact value

/-- A read by the host is answered with the value (R343). -/
theorem spiFrameReceived_read {s : State} {seq key : Nat} {v : Val}
    (next : s.net.spiSeq = none ∨ s.net.spiSeq.map (fun q => (q + 1) % 4294967296) = some seq) (fresh : s.net.spiSeq ≠ some seq)
    (alive : s.alive .house = true) (open_ : key ≠ Obj.NET_SVC_CHALLENGE) (value : readObj s key = .ok v) :
    Completes (.spiFrameReceived true seq (.read key)) s fun t => t.net.spiReply = some (1 :: (key : Int) :: valInts v) ∧
      t.net.spiSeq = some seq ∧ t.objs = s.objs := by
  have read : readRequest (.port 1 0) key (s.withNet (spiTaken seq s.net)) = (.ok v, s.withNet (spiTaken seq s.net)) := by
    unfold readRequest
    rw [if_neg (by rw [show (s.withNet (spiTaken seq s.net)).alive .house = true from alive]; decide), if_neg open_, readObj_withNet, value]
  have served : exec (.spiFrameReceived true seq (.read key)) s =
      .next (((s.withNet (spiTaken seq s.net)).renew (.port 1 0) true).respond 1 0 2 (1 :: (key : Int) :: valInts v)) := by
    rw [spiFrameReceived_next alive next fresh]
    refine congrArg Host.Outcome.next ?_
    show answerRead (.port 1 0) key (readRequest (.port 1 0) key (s.withNet (spiTaken seq s.net))) = _
    rw [read]
    rfl
  exact ⟨_, served, rfl, rfl, rfl⟩

/-- A frame whose CRC fails is answered 0xFF, and nothing else changes (R344). -/
theorem spiFrameReceived_broken {s : State} (alive : s.alive .house = true) (seq : Nat) (r : SpiReq) :
    Completes (.spiFrameReceived false seq r) s fun t => t.net.spiReply = some [0xFF] ∧ t.net.spiSeq = s.net.spiSeq ∧
      t.net.spiLast = s.net.spiLast ∧ t.objs = s.objs :=
  ⟨_, congrArg Host.Outcome.next ((State.on_of_alive alive _).trans (if_pos rfl)), rfl, rfl, rfl, rfl⟩

/-- The request with the last number is answered from store (R344). -/
theorem spiFrameReceived_again {s : State} {seq : Nat} (alive : s.alive .house = true) (last : s.net.spiSeq = some seq)
    (stored : s.net.spiLast ≠ []) (r : SpiReq) : Completes (.spiFrameReceived true seq r) s fun t =>
      t.net.spiReply = some s.net.spiLast ∧ t.objs = s.objs ∧ t.net.rights = s.net.rights := by
  have run : exec (.spiFrameReceived true seq r) s = .next (((s.modNet fun n => { n with spiReply := none }).modNet fun n =>
      { n with spiReply := some n.spiLast }).send 1 5 s.net.spiLast) := by
    refine congrArg Host.Outcome.next ((State.on_of_alive alive _).trans ?_)
    extract_lets t again next_
    have same : again = true := beq_iff_eq.2 last
    rw [if_neg (by decide), same, if_pos rfl]
    exact if_neg (by
      rw [List.isEmpty_iff]
      exact stored)
  exact ⟨_, run, rfl, rfl, rfl⟩

/-- Clocked out with RDY_N low, the response is taken (R344). -/
theorem spiResponseRead_takes {s : State} {d : List Int} (alive : s.alive .house = true) (ready : s.net.spiReply = some d) :
    Completes (.spiResponseRead true) s fun t => t.net.spiReply = none ∧ (⟨1, 8, d⟩ : TxFrame) ∈ t.tx := by
  have run : exec (.spiResponseRead true) s = .next ((s.modNet fun n => { n with spiReply := none }).send 1 8 d) := by
    refine congrArg Host.Outcome.next ((State.on_of_alive alive _).trans ?_)
    rw [ready]
  exact ⟨_, run, rfl, List.mem_cons_self⟩

/-- Before it, the host reads type 0x00, and the request stays pending (R344). -/
theorem spiResponseRead_early {s : State} (alive : s.alive .house = true) : Completes (.spiResponseRead false) s fun t =>
    t.net.spiReply = s.net.spiReply ∧ (⟨1, 8, [0]⟩ : TxFrame) ∈ t.tx :=
  ⟨_, congrArg Host.Outcome.next (State.on_of_alive alive _), rfl, List.mem_cons_self⟩

/-! ### The bypass and the links (R345 to R347) -/

theorem linkReview_idle {s : State} (idle : s.net.sessions = []) : linkReview s = s := by
  unfold linkReview
  rw [idle]
  rfl

/-- The bypass opens with 0x700B (R346). -/
theorem bypassOpen_opens {s : State} (alive : s.alive .network = true) (mode : s.mod.mode ≠ .halt)
    (started : s.mod.mode ≠ .adit ∨ s.mod.imageStarted = true) (closed : s.net.bypass = true) (room : s.hasRoom 1 = true)
    (idle : s.net.sessions = []) : Completes .bypassOpen s fun t => t.net.bypass = false ∧ newEvent s t 0x700B [0, 0] = true := by
  have proceed : ¬(s.mod.mode == .halt || (s.mod.mode == .adit && !s.mod.imageStarted)) = true := by
    rw [beq_eq_false_iff_ne.2 mode, Bool.false_or]
    rcases started with past | begun
    · rw [beq_eq_false_iff_ne.2 past]
      exact Bool.false_ne_true
    · rw [begun, Bool.not_true, Bool.and_false]
      exact Bool.false_ne_true
  have logged : newEvent s ((s.modNet fun x => { x with bypass := false, link := (x.link.set 0 false).set 1 false }).log 0x700B [0, 0])
      0x700B [0, 0] = true :=
    newEvent_log (t := s.modNet _) room le_rfl rfl
  have run : exec .bypassOpen s = .next (linkReview (showNet
      ((s.modNet fun x => { x with bypass := false, link := (x.link.set 0 false).set 1 false }).log 0x700B [0, 0]))) := by
    refine congrArg Host.Outcome.next ((State.on_of_alive alive _).trans ((if_neg proceed).trans ?_))
    unfold setBypass
    rw [if_neg (by rw [closed]; decide)]
    rfl
  rw [linkReview_idle (by rw [showNet_net, State.log_net]; exact idle)] at run
  refine ⟨_, run, ?_, newEvent_keeps (keeps_showNet _) rfl logged⟩
  rw [showNet_net, State.log_net]
  rfl

/-- A link that changes is logged with its port and speed (R347). -/
theorem setLink_logged {s : State} {p : Fin 4} {up : Bool} (differs : s.net.link[p] ≠ up) (room : s.hasRoom 1 = true) (speed : Nat) :
    newEvent s (setLink p up speed s) 0x700A [p.val + 1, if up then speed else 0] = true := by
  have logged : newEvent s ((s.modNet fun n => { n with link := n.link.set p up }).log 0x700A [p.val + 1, if up then speed else 0])
      0x700A [p.val + 1, if up then speed else 0] = true :=
    newEvent_log (t := s.modNet _) room le_rfl rfl
  unfold setLink
  rw [if_neg differs]
  exact newEvent_keeps (keeps_linkReview _) rfl (newEvent_keeps (keeps_showNet _) rfl logged)

theorem setLink_self (p : Fin 4) (up : Bool) (speed : Nat) (s : State) : (setLink p up speed s).net.link[p] = up := by
  rw [setLink_link]
  exact Vector.getElem_set_self _

theorem ethLinkChange_up {s : State} {p : Fin 4} (alive : s.alive .network = true) (locked : s.clk.netLocked = true) (backbone : p.val < 2)
    (open_ : s.net.bypass = false) (down : s.net.link[p] = false) (room : s.hasRoom 1 = true) (speed : Nat) :
    Completes (.ethLinkChange p true speed) s fun t => t.net.link[p] = true ∧ newEvent s t 0x700A [p.val + 1, speed] = true := by
  have run : exec (.ethLinkChange p true speed) s = .next (setLink p true speed s) :=
    congrArg Host.Outcome.next ((State.on_of_alive alive _).trans (if_neg (by
      rw [locked, if_pos backbone, open_]
      decide)))
  exact ⟨_, run, setLink_self p true speed s, setLink_logged (by rw [down]; decide) room speed⟩

theorem ethLinkChange_down {s : State} {p : Fin 4} (alive : s.alive .network = true) (up : s.net.link[p] = true) (room : s.hasRoom 1 = true)
    (speed : Nat) : Completes (.ethLinkChange p false speed) s fun t => t.net.link[p] = false ∧ newEvent s t 0x700A [p.val + 1, 0] = true := by
  have run : exec (.ethLinkChange p false speed) s = .next (setLink p false speed s) :=
    congrArg Host.Outcome.next ((State.on_of_alive alive _).trans (if_neg Bool.false_ne_true))
  exact ⟨_, run, setLink_self p false speed s, setLink_logged (by rw [up]; decide) room speed⟩

/-- Of the ports that a frame did not come in by, the one of its address. -/
theorem switch_out {p i : Nat} (port : p ≤ 2) (apart : p ≠ i) : ([0, 1, 2].filter fun q => q != i).filter (fun q => q == p) = [p] := by
  have addressed : ∀ q ∈ [0, 1, 2], (q == p && q != i) = (q == p) := fun q _ => by
    by_cases same : q = p
    · rw [same, bne_iff_ne.2 apart, Bool.and_true]
    · rw [beq_eq_false_iff_ne.2 same, Bool.false_and]
  rw [List.filter_filter, List.filter_congr addressed]
  obtain rfl | rfl | rfl : p = 0 ∨ p = 1 ∨ p = 2 := by omega
  · rfl
  · rfl
  · rfl

/-- The switch once it has learnt a frame's source (R345). -/
abbrev State.learnt (s : State) (f : EthFrame) (rest : List (Nat × Nat)) : State :=
  s.modNet fun n => { n with macs := (f.src, f.ingress) :: rest }

/-- A frame to the one address that is known leaves by its port alone, and its source is learnt (R345). -/
theorem switchFrameForward_known {s : State} {f : EthFrame} {p : Nat} (alive : s.alive .network = true) (open_ : s.net.bypass = false)
    (ingress : f.ingress ≤ 2) (arrived : switchUp s f.ingress = true) (single : f.multicast = false) (known : s.net.macs = [(f.dst, p)])
    (other : f.src ≠ f.dst) (port : p ≤ 2) (apart : p ≠ f.ingress) (leaves : switchUp s p = true) (quiet : s.tx = []) :
    Completes (.switchFrameForward f) s fun t =>
      t.tx = [⟨2, 25, [(p : Nat), (boolNat f.ptp : Nat), (f.pcp : Nat), (f.src : Nat), (f.dst : Nat)]⟩] ∧ (f.src, f.ingress) ∈ t.net.macs := by
  have proceed : ¬(!s.alive .network || s.net.bypass || decide (2 < f.ingress) || !switchUp s f.ingress) = true := by
    rw [alive, open_, arrived, decide_eq_false (not_lt.2 ingress)]
    decide
  have rest : s.net.macs.filter (fun m => m.1 != f.src) = [(f.dst, p)] := by
    rw [known, List.filter_cons_of_pos (by exact bne_iff_ne.2 other.symm)]
    rfl
  have found : (s.learnt f [(f.dst, p)]).net.macs.find? (fun m => m.1 == f.dst) = some (f.dst, p) := by
    rw [show (s.learnt f [(f.dst, p)]).net.macs = [(f.src, f.ingress), (f.dst, p)] from rfl,
      List.find?_cons_of_neg (by rw [beq_iff_eq]; exact other)]
    exact List.find?_cons_of_pos (beq_self_eq_true f.dst)
  have out : (([0, 1, 2].filter fun q => q != f.ingress).filter fun q => q == p).filter (switchUp (s.learnt f [(f.dst, p)])) = [p] := by
    have up : switchUp (s.learnt f [(f.dst, p)]) p = true := leaves
    rw [switch_out port apart, List.filter_cons_of_pos up]
    rfl
  have run : exec (.switchFrameForward f) s = .next ((s.learnt f [(f.dst, p)]).send 2 25
      [(p : Nat), (boolNat f.ptp : Nat), (f.pcp : Nat), (f.src : Nat), (f.dst : Nat)]) := by
    refine congrArg Host.Outcome.next ((if_neg proceed).trans ?_)
    extract_lets rest' t others out'
    have t_learnt : t = s.learnt f [(f.dst, p)] := by
      have short : rest'.length < 256 := by
        rw [show rest' = _ from rest]
        exact (by decide : 1 < 256)
      show (if rest'.length < 256 then _ else _) = _
      rw [if_pos short, show rest' = _ from rest]
    have ports : out' = others.filter fun q => q == p := by
      show (if f.multicast = true then _ else _) = _
      rw [single, if_neg Bool.false_ne_true, t_learnt, found]
    rw [ports, t_learnt, out]
    rfl
  refine ⟨_, run, ?_, List.mem_cons_self⟩
  show _ :: s.tx = _
  rw [quiet]

theorem arpRequest_answered {s : State} {port ip : Nat} (up : portUp s port = true) (own : ip = ipAddress s port) :
    Completes (.arpRequest port ip) s fun t => (⟨port, 34, [(ip : Nat)]⟩ : TxFrame) ∈ t.tx :=
  ⟨_, congrArg Host.Outcome.next (if_pos (by rw [up, beq_iff_eq.2 own]; rfl)), List.mem_cons_self⟩

theorem icmpEchoRequest_answered {s : State} {port : Nat} (up : portUp s port = true) (data : List Nat) :
    Completes (.icmpEchoRequest port data) s fun t => (⟨port, 35, data.map Int.ofNat⟩ : TxFrame) ∈ t.tx :=
  ⟨_, congrArg Host.Outcome.next (if_pos up), List.mem_cons_self⟩

/-! ### The statement -/

/-- Settles O38, clause by clause: the requests of the host, the bypass, the links, the switch, ARP and ICMP. -/
theorem hostSpiAndLinks : Obligations.HostSpiAndLinks := by
  unfold Obligations.HostSpiAndLinks
  refine ⟨?write, ?read, ?broken, ?again, ?takes, ?early, ?bypass, ?up, ?down, ?known, ?arp, ?icmp⟩
  case write =>
    exact fun _ _ _ _ _ next fresh admitted inv idle row low _ run command pier gallery chain =>
      spiFrameReceived_write next fresh admitted inv idle row low run command pier gallery chain
  case read => exact fun _ _ _ _ next fresh alive open_ value => spiFrameReceived_read next fresh alive open_ value
  case broken => exact fun _ seq r alive => spiFrameReceived_broken alive seq r
  case again => exact fun _ _ r alive last stored => spiFrameReceived_again alive last stored r
  case takes => exact fun _ _ alive ready => spiResponseRead_takes alive ready
  case early => exact fun _ alive => spiResponseRead_early alive
  case bypass => exact fun _ alive mode started closed room idle => bypassOpen_opens alive mode started closed room idle
  case up => exact fun _ _ speed alive locked backbone open_ down room => ethLinkChange_up alive locked backbone open_ down room speed
  case down => exact fun _ _ speed alive up _ room => ethLinkChange_down alive up room speed
  case known =>
    exact fun _ _ _ alive open_ ingress arrived single known other port apart leaves quiet =>
      switchFrameForward_known alive open_ ingress arrived single known other port apart leaves quiet
  case arp => exact fun _ _ _ up own => arpRequest_answered up own
  case icmp => exact fun _ _ data up => icmpEchoRequest_answered up data

end Sys2Proof.Machine
end

section
/-!
PROOF. Chapters 2 and 19: what entering HALT and losing power leave (R30, R399, R439, R457).
-/

namespace Sys2Proof.Machine

-- One declaration after another, so that the whole text compiles within its memory.
set_option Elab.async false

theorem restart_mod (s : State) : (restart s).mod =
    { ModesSt.init with powered := s.mod.powered, resetAsserted := s.mod.resetAsserted, thermalLatch := s.mod.thermalLatch } := rfl

theorem restart_stg (s : State) : (restart s).stg = .replicate 4 .init := rfl

theorem restart_fio (s : State) : (restart s).fio = FieldSt.init := rfl

theorem restart_running (s : State) : (restart s).nvs.running = none := rfl

/-- From every other mode HALT is entered by a restart (R30). -/
theorem enterHalt_restarts {s : State} (mode : s.mod.mode ≠ .halt) (cause : Nat) :
    ∃ u : State, enterHalt cause s = restart u ∧ u.mod = s.mod := by
  unfold enterHalt
  rw [if_neg mode]
  extract_lets t
  have same : t.mod = s.mod := State.log_mod _ _ _
  by_cases open_ : t.net.bypass = true
  · exact ⟨t, congrArg restart (if_pos open_), same⟩
  · exact ⟨t.log 0x700B [1, cause], congrArg restart (if_neg open_), (State.log_mod _ _ _).trans same⟩

/-- In HALT its entry changes nothing. -/
theorem enterHalt_idle {s : State} (mode : s.mod.mode = .halt) (cause : Nat) : enterHalt cause s = s := if_pos mode

theorem powerLoss_mod (s : State) : (powerLoss s).mod = { (enterHalt 1 s).mod with powered := false, thermalLatch := false } := rfl

theorem powerLoss_parts (s : State) : (powerLoss s).fio = (enterHalt 1 s).fio ∧ (powerLoss s).stg = (enterHalt 1 s).stg ∧
    (powerLoss s).nvs = (enterHalt 1 s).nvs ∧ (powerLoss s).sup = SupplySt.init ∧ (powerLoss s).logBuf = [] := ⟨rfl, rfl, rfl, rfl, rfl⟩

/-- The loss of power leaves the module in HALT without power, with its states as after reset (R439). -/
theorem powerLoss_halts {s : State} (mode : s.mod.mode ≠ .halt) : (powerLoss s).mod.mode = .halt ∧ (powerLoss s).mod.powered = false ∧
    (powerLoss s).fio = FieldSt.init ∧ (powerLoss s).stg = .replicate 4 .init ∧ (powerLoss s).nvs.running = none := by
  obtain ⟨u, halted, -⟩ := enterHalt_restarts mode 1
  obtain ⟨fio, stg, nvs, -, -⟩ := powerLoss_parts s
  rw [powerLoss_mod, fio, stg, nvs, halted, restart_mod, restart_fio, restart_stg, restart_running]
  exact ⟨rfl, rfl, rfl, rfl, rfl⟩

end Sys2Proof.Machine
end

section
/-!
PROOF. Chapter 16, stores and the hold-up check (R391, R352, R394, R439).
-/

namespace Sys2Proof.Machine

-- One declaration after another, so that the whole text compiles within its memory.
set_option Elab.async false

/-! ### Requests -/

theorem storeRequest_starts {s : State} {kind : StoreKind} {lines : Nat} {hold : Rat} (alive : s.alive .house = true)
    (going : s.nvs.stopped = false) (free : s.nvs.running = none) (lone : s.nvs.waiting = []) (ordinary : kind ≠ .erase)
    (energy : energyNeeded s kind lines ≤ energyHeld s hold) : Completes (.storeRequest kind lines hold) s fun t =>
      t.nvs.running = some ⟨kind, lines, none, s.now, none⟩ ∧ t.nvs.waiting = [] := by
  obtain ⟨t, asked, running, waiting, -⟩ := requestStore_starts alive going free lone ordinary none none energy
  exact ⟨t, congrArg Host.Outcome.next asked, running, waiting⟩

theorem defaultAt_NVS_DEFERRED : (defaultAt Obj.NVS_DEFERRED).isSome = true := by decide +kernel

/-- The first deferral of a store is counted and logged (R391). -/
theorem deferStore_first {s : State} {k : StoreKind} (wf : cellsWf s.objs = true) (room : s.hasRoom 1 = true) (first : s.nvs.deferred = [])
    (ea es : Rat) : (deferStore k ea es s).objN Obj.NVS_DEFERRED = s.objN Obj.NVS_DEFERRED + 1 ∧
      newEvent s (deferStore k ea es s) 0x9007 [storeOrder k, r32 ea, r32 es] = true := by
  have defers : deferStore k ea es s = showStores (((s.bump Obj.NVS_DEFERRED).modNvs fun x => { x with deferred := k :: x.deferred }).log 0x9007
      [storeOrder k, r32 ea, r32 es]) := by
    unfold deferStore
    exact if_neg (by
      show ¬s.nvs.deferred.contains k = true
      rw [first]
      exact Bool.false_ne_true)
  have counted : (showStores (((s.bump Obj.NVS_DEFERRED).modNvs fun x => { x with deferred := k :: x.deferred }).log 0x9007
      [storeOrder k, r32 ea, r32 es])).objN Obj.NVS_DEFERRED = s.objN Obj.NVS_DEFERRED + 1 := by
    unfold showStores State.setBit State.setField
    rw [State.objN_setN_ne (by decide) defaultAt_NVS_DEFERRED, State.log_objN (s := (s.bump Obj.NVS_DEFERRED).modNvs _) room]
    exact State.objN_bump wf Obj.NVS_DEFERRED
  rw [defers]
  exact ⟨counted, newEvent_congr (t := ((s.bump Obj.NVS_DEFERRED).modNvs _).log 0x9007 _) rfl
    (newEvent_log (t := (s.bump Obj.NVS_DEFERRED).modNvs _) room le_rfl rfl)⟩

theorem storeRequest_waits {s : State} {kind : StoreKind} {lines : Nat} {hold : Rat} (alive : s.alive .house = true)
    (going : s.nvs.stopped = false) (free : s.nvs.running = none) (lone : s.nvs.waiting = []) (ordinary : kind ≠ .erase)
    (short : energyHeld s hold < energyNeeded s kind lines) (first : s.nvs.deferred = []) (room : s.hasRoom 1 = true) (inv : Inv s) :
    Completes (.storeRequest kind lines hold) s fun t => t.nvs.running = none ∧ t.nvs.waiting = [⟨kind, lines, none, s.now, none⟩] ∧
      t.objN Obj.NVS_DEFERRED = s.objN Obj.NVS_DEFERRED + 1 ∧
      newEvent s t 0x9007 [storeOrder kind, r32 (energyHeld s hold), r32 (energyNeeded s kind lines)] = true := by
  refine ⟨_, congrArg Host.Outcome.next (requestStore_defers alive going free lone ordinary none none short), ?_⟩
  obtain ⟨running, waiting, -⟩ := deferStore_nvs kind (energyHeld s hold) (energyNeeded s kind lines)
    ((s.storeAsked ⟨kind, lines, none, s.now, none⟩).holdShown hold)
  obtain ⟨counted, logged⟩ := deferStore_first (s := (s.storeAsked ⟨kind, lines, none, s.now, none⟩).holdShown hold) (k := kind)
    (State.wf_setR inv.objs _ _) room first (energyHeld s hold) (energyNeeded s kind lines)
  have before : ((s.storeAsked ⟨kind, lines, none, s.now, none⟩).holdShown hold).objN Obj.NVS_DEFERRED = s.objN Obj.NVS_DEFERRED :=
    congrArg (fun v : Val => v.toInt.toNat) (State.obj_setObj_ne (by decide) defaultAt_NVS_DEFERRED _ (s.storeAsked _))
  refine ⟨running.trans free, waiting.trans ?_, counted.trans (congrArg (· + 1) before), logged⟩
  show s.nvs.waiting ++ _ = _
  rw [lone, List.nil_append]

theorem storeRequest_stopped {s : State} (stopped : s.nvs.stopped = true) (kind : StoreKind) (lines : Nat) (hold : Rat) :
    Completes (.storeRequest kind lines hold) s fun t => t = s :=
  ⟨s, congrArg Host.Outcome.next (if_pos (by rw [stopped, Bool.or_true])), rfl⟩

/-- No request of the module itself times out (R352). -/
theorem storeTimeouts_own {s : State} {x : StoreSt} (lone : s.nvs.waiting = [x]) (own : x.writer = none) :
    storeTimeouts s = s.modNvs fun n => { n with waiting := [x] } := by
  unfold storeTimeouts
  extract_lets late out t
  have none_late : late x = false := by
    show (x.kind == .dictionary && x.writer.isSome && _) = false
    rw [own, Option.isSome_none, Bool.and_false, Bool.false_and]
  have none_out : out = [] := by
    show s.nvs.waiting.filter late = []
    rw [lone, List.filter_cons_of_neg (by rw [none_late]; decide)]
    rfl
  have kept : t = s.modNvs fun n => { n with waiting := [x] } := by
    show { s with nvs := { s.nvs with waiting := s.nvs.waiting.filter fun x => !late x } } = _
    rw [lone, List.filter_cons_of_pos (by rw [none_late]; decide)]
    rfl
  rw [none_out, kept]
  rfl

theorem storeRetry_starts {s : State} {hold : Rat} {x : StoreSt} (alive : s.alive .house = true) (going : s.nvs.stopped = false)
    (free : s.nvs.running = none) (lone : s.nvs.waiting = [x]) (due : cyclesMs ≤ s.since s.nvs.retryAt) (own : x.writer = none)
    (ordinary : x.kind ≠ .erase) (energy : energyNeeded s x.kind x.lines ≤ energyHeld s hold) :
    Completes (.storeRetry hold) s fun t => t.nvs.running = some x ∧ t.nvs.waiting = [] := by
  have started := startStores_starts (s := (s.modNvs fun n => { n with retryAt := s.now }).modNvs fun n => { n with waiting := [x] })
    (hold := hold) (x := x) alive going free rfl (paceErase_of_ne ordinary _) energy
  have run : exec (.storeRetry hold) s = .next (undeferStore x.kind ((((s.modNvs fun n => { n with retryAt := s.now }).modNvs fun n =>
      { n with waiting := [x] }).holdShown hold).storing x)) := by
    refine congrArg Host.Outcome.next ((State.on_of_alive alive _).trans ((if_neg (not_lt.2 due)).trans ?_))
    rw [storeTimeouts_own (s := s.modNvs fun n => { n with retryAt := s.now }) lone own, started]
  exact ⟨_, run, rfl, List.erase_cons_head x []⟩

/-! ### Completion -/

/-- With no store waiting, none starts. -/
theorem startStores_idle {s : State} (idle : s.nvs.waiting = []) (hold : Rat) : startStores hold s = s.holdShown hold := by
  unfold startStores
  extract_lets u ea
  split
  · rfl
  · rw [show u.nvs.waiting = [] from idle]
    rfl

/-- The state in which a store has just ended. -/
abbrev State.storeEnded (s : State) : State := s.modNvs fun n => { n with running := none }

theorem storeComplete_continues {s : State} {x : StoreSt} (alive : s.alive .house = true) (running : s.nvs.running = some x)
    (going : s.nvs.stopped = false) (verified : Bool) (hold : Rat) :
    exec (.storeComplete verified hold) s = .next (startStores hold (storeDone x verified s.storeEnded)) := by
  refine congrArg Host.Outcome.next ((State.on_of_alive alive _).trans ?_)
  rw [running]
  refine if_neg ?_
  rw [show (storeDone x verified s.storeEnded).nvs.stopped = s.nvs.stopped from (keeps_storeDone x verified _).same (.nvs .stopped) rfl, going]
  decide

/-- A completed dictionary store has saved the values last written, as a new generation (R352). -/
theorem storeDone_dictionary {s : State} {x : StoreSt} (kind : x.kind = .dictionary) (verified : Bool) :
    (storeDone x verified s).saved = savedView s ∧ (storeDone x verified s).nvs.gen[(0 : Fin 3)] = s.nvs.gen[(0 : Fin 3)] + 1 ∧
    (storeDone x verified s).nvs.running = s.nvs.running ∧ (storeDone x verified s).mod.cfgValid = true ∧
    (storeDone x verified s).nvs.waiting = s.nvs.waiting := by
  have gen : (s.nvs.gen.set 0 (s.nvs.gen[0] + 1))[(0 : Fin 3)] = s.nvs.gen[(0 : Fin 3)] + 1 := Vector.getElem_set_self _
  unfold storeDone
  rw [kind]
  dsimp only
  cases x.writer with
  | none => exact ⟨rfl, gen, rfl, rfl, rfl⟩
  | some w =>
    have replied := fun t : State => keeps_State_reply t w Obj.CIA_STORE (if cyclesSec < s.since x.at_ then 0x08000020 else 0)
    exact ⟨(replied _).same .saved rfl, (congrArg (fun v : Vector Nat 3 => v[(0 : Fin 3)]) ((replied _).same (.nvs .gen) rfl)).trans gen,
      (replied _).same (.nvs .running) rfl, (replied _).same (.mod .cfgValid) rfl, (replied _).same (.nvs .waiting) rfl⟩

theorem setDue_storeEnded (rule : RunRule) (s : State) (c : ObjCell) :
    State.setDue rule s.storeEnded c = (State.setDue rule s c).storeEnded := rfl

theorem foldl_setDue_storeEnded (rule : RunRule) (l : List ObjCell) (s : State) :
    l.foldl (State.setDue rule) s.storeEnded = (l.foldl (State.setDue rule) s).storeEnded :=
  List.foldl_hom State.storeEnded (setDue_storeEnded rule)

theorem savedView_storeEnded (s : State) : savedView s.storeEnded = savedView s := by
  have last : lastWritten s.storeEnded = lastWritten s := by
    show (s.resetWrites.foldl (State.setDue .nextReset) (s.modeWrites.foldl (State.setDue .nextModeChange)
      ((s.commitWrites ++ s.heldWrites).foldl (State.setDue .nextCommit) s.storeEnded))).objs = _
    rw [foldl_setDue_storeEnded, foldl_setDue_storeEnded, foldl_setDue_storeEnded]
    rfl
  unfold savedView
  rw [last]
  rfl

theorem storeComplete_dictionary {s : State} {x : StoreSt} (alive : s.alive .house = true) (running : s.nvs.running = some x)
    (kind : x.kind = .dictionary) (lone : s.nvs.waiting = []) (going : s.nvs.stopped = false) (verified : Bool) (hold : Rat) :
    Completes (.storeComplete verified hold) s fun t => t.saved = savedView s ∧ t.nvs.gen[(0 : Fin 3)] = s.nvs.gen[(0 : Fin 3)] + 1 ∧
      t.nvs.running = none ∧ t.mod.cfgValid = true := by
  obtain ⟨saved, gen, free, valid, waiting⟩ := storeDone_dictionary (s := s.storeEnded) kind verified
  have run := storeComplete_continues alive running going verified hold
  rw [startStores_idle (waiting.trans lone)] at run
  exact ⟨_, run, saved.trans (savedView_storeEnded s), gen, free, valid⟩

/-! ### Pages of the log -/

/-- From s to t the log's buffer gains later records at most, and the ring stays. -/
def State.logGrows (s t : State) : Prop := t.logFlash = s.logFlash ∧ ∃ later, t.logBuf = s.logBuf ++ later

theorem State.logGrows_refl (s : State) : s.logGrows s := ⟨rfl, [], (List.append_nil _).symm⟩

theorem State.log_grows (s : State) (code : Nat) (data : List Rat) : s.logGrows (s.log code data) := by
  unfold State.log
  split
  · exact ⟨rfl, _, rfl⟩
  · exact State.logGrows_refl s

theorem deferStore_grows (k : StoreKind) (ea es : Rat) (s : State) : s.logGrows (deferStore k ea es s) := by
  unfold deferStore
  dsimp only
  split
  · exact State.logGrows_refl s
  · exact State.log_grows ((s.bump Obj.NVS_DEFERRED).modNvs fun x => { x with deferred := k :: x.deferred }) _ _

theorem startStores_grows (hold : Rat) (s : State) : s.logGrows (startStores hold s) := by
  unfold startStores
  extract_lets u ea
  split
  · exact State.logGrows_refl s
  · split
    · exact State.logGrows_refl s
    · next x _ =>
      split
      · exact State.logGrows_refl s
      · dsimp only
        split
        · exact deferStore_grows x.kind ea (energyNeeded u x.kind x.lines) u
        · exact State.logGrows_refl s

theorem reportDropped_grows (s : State) : s.logGrows (reportDropped s) := by
  unfold reportDropped
  dsimp only
  split
  · exact State.log_grows (s.modNvs fun n => { n with reported := s.objN Obj.NVS_LOG_DROPPED }) _ _
  · exact State.logGrows_refl s

/-- A page that verifies takes up to four records from the buffer to the ring, in order (R394). -/
theorem pageWritten_moves (s : State) : (pageWritten s).logFlash = s.logFlash ++ s.logBuf.take 4 ∧
    (∃ later, (pageWritten s).logBuf = s.logBuf.drop 4 ++ later) ∧
    (pageWritten s).nvs.page = (if s.nvs.page + 1 < 16 then s.nvs.page + 1 else 0) := by
  unfold pageWritten
  extract_lets t u
  obtain ⟨flash, later⟩ := reportDropped_grows u
  refine ⟨flash, later, ((keeps_reportDropped u).same (.nvs .page) rfl).trans ?_⟩
  show (if s.nvs.page + 1 < 16 then _ else _ : StoresSt).page = _
  split
  · rfl
  · rfl

theorem storeComplete_page {s : State} {x : StoreSt} (alive : s.alive .house = true) (running : s.nvs.running = some x)
    (kind : x.kind = .logPage) (going : s.nvs.stopped = false) (hold : Rat) :
    Completes (.storeComplete true hold) s fun t => t.logFlash = s.logFlash ++ s.logBuf.take 4 ∧
      t.logBuf.take (s.logBuf.length - 4) = s.logBuf.drop 4 ∧ (t.nvs.page = (if s.nvs.page + 1 < 16 then s.nvs.page + 1 else 0)) := by
  have written : storeDone x true s.storeEnded = pageWritten s.storeEnded := by
    unfold storeDone
    rw [kind]
    rfl
  have run := storeComplete_continues alive running going true hold
  rw [written] at run
  obtain ⟨flash, ⟨later, buffer⟩, page⟩ := pageWritten_moves s.storeEnded
  obtain ⟨flashKept, latest, grown⟩ := startStores_grows hold (pageWritten s.storeEnded)
  have started := keeps_startStores hold (pageWritten s.storeEnded)
  refine ⟨_, run, flashKept.trans flash, ?_, (started.same (.nvs .page) rfl).trans page⟩
  rw [grown, buffer, List.append_assoc]
  exact List.take_left' List.length_drop

/-- The ring's state when the sector being written is retired (R394). -/
abbrev StoresSt.sectorRetired (n : StoresSt) : StoresSt :=
  { n with retired := n.sector :: n.retired, sector := nextSector { n with retired := n.sector :: n.retired }, page := 0 }

theorem retireSector_current {s : State} : (retireSector s.nvs.sector s).nvs = s.nvs.sectorRetired ∧
    (retireSector s.nvs.sector s).logFlash = s.logFlash ∧
    (s.hasRoom 1 = true → newEvent s (retireSector s.nvs.sector s) 0x900E [s.nvs.sector] = true) := by
  refine ⟨?_, State.log_logFlash s _ _, fun room => newEvent_congr (t := s.log 0x900E [s.nvs.sector]) rfl (newEvent_log room le_rfl rfl)⟩
  have nvs : (s.log 0x900E [s.nvs.sector]).nvs = s.nvs := State.log_nvs s _ _
  unfold retireSector
  dsimp only
  show (if s.nvs.sector = (s.log 0x900E [s.nvs.sector]).nvs.sector then _ else _ : StoresSt) = _
  rw [nvs, if_pos rfl]

theorem storeComplete_badPage {s : State} {x : StoreSt} (alive : s.alive .house = true) (running : s.nvs.running = some x)
    (kind : x.kind = .logPage) (lone : s.nvs.waiting = []) (going : s.nvs.stopped = false) (room : s.hasRoom 1 = true) (hold : Rat) :
    Completes (.storeComplete false hold) s fun t => t.nvs.retired = s.nvs.sector :: s.nvs.retired ∧
      t.nvs.sector = nextSector { s.nvs with retired := t.nvs.retired } ∧ t.nvs.page = 0 ∧ t.logFlash = s.logFlash ∧
      newEvent s t 0x900E [s.nvs.sector] = true := by
  have retired : storeDone x false s.storeEnded = retireSector s.storeEnded.nvs.sector s.storeEnded := by
    unfold storeDone
    rw [kind]
    rfl
  obtain ⟨nvs, flash, logged⟩ := retireSector_current (s := s.storeEnded)
  have run := storeComplete_continues alive running going false hold
  rw [retired, startStores_idle (by rw [nvs]; exact lone)] at run
  refine ⟨_, run, congrArg StoresSt.retired nvs, ?_, congrArg StoresSt.page nvs, flash,
    newEvent_congr (t := retireSector s.storeEnded.nvs.sector s.storeEnded) rfl (logged room)⟩
  show (retireSector _ _).nvs.sector = nextSector { s.nvs with retired := (retireSector _ _).nvs.retired }
  rw [nvs]
  rfl

/-- After the stop level the module enters HALT when the store ends (R439). -/
theorem storeComplete_stops {s : State} {x : StoreSt} (alive : s.alive .house = true) (running : s.nvs.running = some x)
    (stopped : s.nvs.stopped = true) (verified : Bool) (hold : Rat) : Completes (.storeComplete verified hold) s fun t =>
      t.mod.mode = .halt ∧ t.mod.powered = false ∧ t.nvs.running = none ∧ t.logBuf = [] := by
  have done := keeps_storeDone x verified s.storeEnded
  have run : exec (.storeComplete verified hold) s = .next (powerLoss (storeDone x verified s.storeEnded)) := by
    refine congrArg Host.Outcome.next ((State.on_of_alive alive _).trans ?_)
    rw [running]
    exact if_pos ((done.same (.nvs .stopped) rfl).trans stopped)
  have mode : (storeDone x verified s.storeEnded).mod.mode ≠ .halt := by
    rw [done.mode rfl]
    simp only [State.alive, Bool.and_eq_true, bne_iff_ne] at alive
    exact alive.2
  obtain ⟨halted, unpowered, -, -, free⟩ := powerLoss_halts mode
  exact ⟨_, run, halted, unpowered, free, (powerLoss_parts _).2.2.2.2⟩

theorem logPageWrite_starts {s : State} {hold : Rat} (alive : s.alive .house = true) (going : s.nvs.stopped = false)
    (free : s.nvs.running = none) (lone : s.nvs.waiting = []) (records : s.logBuf ≠ []) (step : s.objN Obj.THM_THROTTLE_STEP = 0)
    (energy : energyNeeded s .logPage 0 ≤ energyHeld s hold) : Completes (.logPageWrite hold) s fun t =>
      t.nvs.running = some ⟨.logPage, 0, none, s.now, none⟩ ∧ t.nvs.pageAt = some s.now ∧ t.logBuf = s.logBuf := by
  have started := startStores_starts (s := s.storeAsked ⟨.logPage, 0, none, s.now, none⟩) (hold := hold)
    (x := ⟨.logPage, 0, none, s.now, none⟩) alive going free (by
      show nextStore (s.nvs.waiting ++ _) = _
      rw [lone]
      rfl) (paceErase_of_ne (k := .logPage) (by decide) _) energy
  have asked : requestPage hold s = requestStore .logPage 0 none none hold s := by
    unfold requestPage
    rw [if_neg (by rw [lone, free, List.isEmpty_eq_false_iff.2 records]; decide)]
  have run : exec (.logPageWrite hold) s = .next (undeferStore .logPage
      (((s.storeAsked ⟨.logPage, 0, none, s.now, none⟩).holdShown hold).storing ⟨.logPage, 0, none, s.now, none⟩)) := by
    refine congrArg Host.Outcome.next ((State.on_of_alive alive _).trans ((if_neg ?_).trans
      (asked.trans ((requestStore_asks alive going _ _ _ _ _).trans started))))
    rw [step]
    exact Bool.false_ne_true
  exact ⟨_, run, rfl, rfl, rfl⟩

/-! ### The statement -/

/-- Settles O46, clause by clause: requests with and without the energy, the retry, and the ends of dictionary stores and of pages. -/
theorem storesAndHoldUp : Obligations.StoresAndHoldUp := by
  unfold Obligations.StoresAndHoldUp
  refine ⟨?starts, ?waits, ?stopped, ?retry, ?dictionary, ?page, ?badPage, ?stops, ?write⟩
  case starts => exact fun _ _ _ _ alive going free lone ordinary _ energy => storeRequest_starts alive going free lone ordinary energy
  case waits =>
    exact fun _ _ _ _ alive going free lone ordinary _ short first room inv =>
      storeRequest_waits alive going free lone ordinary short first room inv
  case stopped => exact fun _ kind lines hold stopped => storeRequest_stopped stopped kind lines hold
  case retry => exact fun _ _ _ alive going free lone due own ordinary energy => storeRetry_starts alive going free lone due own ordinary energy
  case dictionary => exact fun _ verified hold _ alive running kind lone going => storeComplete_dictionary alive running kind lone going verified hold
  case page => exact fun _ hold _ alive running kind _ going => storeComplete_page alive running kind going hold
  case badPage => exact fun _ hold _ alive running kind lone going room => storeComplete_badPage alive running kind lone going room hold
  case stops => exact fun _ verified hold _ alive running stopped => storeComplete_stops alive running stopped verified hold
  case write => exact fun _ _ alive going free lone records step energy => logPageWrite_starts alive going free lone records step energy

end Sys2Proof.Machine
end

section
/-!
PROOF. Chapter 18, contactor drivers: commands, overcurrent, open coil and readback (R433, R434).
-/

namespace Sys2Proof.Machine

-- One declaration after another, so that the whole text compiles within its memory.
set_option Elab.async false

/-! ### What showing a driver leaves of it -/

theorem showDrv_overc (i d : SocId) (s : State) : (showDrv i s).fio.drv[d].overc = s.fio.drv[d].overc := by
  rw [showDrv_drv]
  split
  · rfl
  · rfl

theorem showDrv_cmd (i d : SocId) (s : State) : (showDrv i s).fio.drv[d].cmd = s.fio.drv[d].cmd := by
  rw [showDrv_drv]
  split
  · rfl
  · rfl

theorem socFault_overc (i d : SocId) (s : State) : (socFault i s).fio.drv[d].overc = s.fio.drv[d].overc := by
  unfold socFault showSoc
  dsimp only
  rw [showDrv_overc]
  rfl

theorem State.modCd_self (s : State) (d : SocId) (f : CdSt → CdSt) : (s.modCd d f).fio.drv[d] = f s.fio.drv[d] :=
  Vector.getElem_set_self _

theorem group_FIO_CD_IGNORED_of (d : SocId) : objGroup (Obj.FIO_CD_IGNORED d) = .FIO_CD_IGNORED := by
  revert d
  decide +kernel

/-! ### Commands -/

/-- A driver without an owner takes a FIELD_OUT command (R433). -/
theorem contactorDriverCommand_drives {s : State} {d : SocId} (alive : s.alive .abutment = true) (free : socOwned s d = false) (on : Bool)
    (instant : Nat) : Completes (.contactorDriverCommand d on instant) s fun t => t.fio.drv[d].cmd = on := by
  have run : exec (.contactorDriverCommand d on instant) s =
      .next (showDrv d (noteLateness (fieldLateness s instant) (s.modCd d fun x => { x with cmd := on }))) :=
    congrArg Host.Outcome.next ((if_neg (by rw [alive]; decide)).trans (if_neg (by rw [free]; decide)))
  have late := (keeps_noteLateness (fieldLateness s instant) (s.modCd d fun x => { x with cmd := on })).same (.fio .drv) rfl
  refine ⟨_, run, (showDrv_cmd d d _).trans ?_⟩
  exact (congrArg (fun v : Vector CdSt 4 => v[d].cmd) late).trans
    (congrArg CdSt.cmd (State.modCd_self s d fun x => { x with cmd := on }))

/-- A driver with an owner ignores it, and counts it (R433). -/
theorem contactorDriverCommand_ignored {s : State} {d : SocId} (alive : s.alive .abutment = true) (inv : Inv s)
    (owned : socOwned s d = true) (on : Bool) (instant : Nat) : Completes (.contactorDriverCommand d on instant) s fun t =>
      t.fio.drv[d].cmd = s.fio.drv[d].cmd ∧ t.objN (Obj.FIO_CD_IGNORED d) = s.objN (Obj.FIO_CD_IGNORED d) + 1 := by
  have run : exec (.contactorDriverCommand d on instant) s =
      .next ((s.bump (Obj.FIO_CD_IGNORED d)).logOnce 0xB00B d.val [d.val + 1]) :=
    congrArg Host.Outcome.next ((if_neg (by rw [alive]; decide)).trans (if_pos owned))
  have logged := keeps_State_logOnce (s.bump (Obj.FIO_CD_IGNORED d)) 0xB00B d.val [d.val + 1]
  exact ⟨_, run, congrArg (fun v : Vector CdSt 4 => v[d].cmd) (logged.same (.fio .drv) rfl),
    (logged.objN (Obj.FIO_CD_IGNORED d) (by rw [group_FIO_CD_IGNORED_of]; rfl) rfl).trans (State.objN_bump inv.objs _)⟩

/-- CLEAR releases the latch of a driver that has no owner and is commanded off (R434). -/
theorem cdClear_releases {s : State} {d : SocId} {w : Writer} (served : s.serves w .abutment = true) (free : socOwned s d = false)
    (off : drvWanted s d = false) : Completes (.cdClear d w) s fun t => t.fio.drv[d].overc = false := by
  have cleared : cdClear d s = (0, showDrv d (s.modCd d fun x => { x with overc := false })) := by
    unfold cdClear
    rw [free, off, if_neg (by decide)]
  obtain ⟨tx, net, shape⟩ := request_accepted_shape served (Obj.FIO_CD_CMD d) ((owned_of_serves served (cdClear d)).trans cleared)
  have released : (showDrv d (s.modCd d fun x => { x with overc := false })).fio.drv[d].overc = false :=
    (showDrv_overc d d _).trans (congrArg CdSt.overc (State.modCd_self s d fun x => { x with overc := false }))
  exact ⟨_, congrArg Host.Outcome.next shape, released⟩

/-! ### Faults -/

/-- The state in which a driver's overcurrent is latched and logged (R434). -/
def cdLatched (d : SocId) (amps : Rat) (s : State) : State :=
  showDrv d (((setCdCurrent d amps s).modCd d fun x => { x with overc := true }).log 0xB008 [d.val + 1, r32 amps])

theorem cdLatched_overc (d : SocId) (amps : Rat) (s : State) : (cdLatched d amps s).fio.drv[d].overc = true := by
  unfold cdLatched
  rw [showDrv_overc, State.log_fio]
  exact congrArg CdSt.overc (State.modCd_self (setCdCurrent d amps s) d fun x => { x with overc := true })

theorem cdLatched_logged {s : State} (room : s.hasRoom 1 = true) (d : SocId) (amps : Rat) :
    newEvent s (cdLatched d amps s) 0xB008 [d.val + 1, r32 amps] = true :=
  newEvent_keeps (keeps_showDrv d _) rfl (newEvent_log (t := (setCdCurrent d amps s).modCd d _) room le_rfl rfl)

/-- More than 4.0 A for 10 µs latches the driver off (R434, Table 18.3). -/
theorem cdOvercurrent_latches {s : State} {d : SocId} {amps : Rat} {held : Nat} (alive : s.alive .abutment = true) (heavy : 4 < amps)
    (lasts : cyclesUs 10 ≤ held) (sound : s.fio.drv[d].overc = false) (room : s.hasRoom 1 = true) :
    Completes (.cdOvercurrent d ⟨amps, held⟩) s fun t => t.fio.drv[d].overc = true ∧ newEvent s t 0xB008 [d.val + 1, r32 amps] = true := by
  have run : exec (.cdOvercurrent d ⟨amps, held⟩) s = .next (if socOwned (cdLatched d amps s) d then
      (cdLatched d amps s).on .keystone (fun s => socFault d (s.log 0x8011 [d.val + 1])) else cdLatched d amps s) :=
    congrArg Host.Outcome.next ((State.on_of_alive alive _).trans (if_neg (by
      rw [sound, decide_eq_false (not_le.2 heavy), decide_eq_false (not_lt.2 lasts)]
      decide)))
  refine ⟨_, run, ?_⟩
  have overc := cdLatched_overc d amps s
  have logged := cdLatched_logged room d amps
  split
  · unfold State.on
    split
    · refine ⟨(socFault_overc d d _).trans ?_, newEvent_keeps (keeps_socFault d _) rfl (newEvent_keeps (keeps_State_log (cdLatched d amps s) _ _) rfl logged)⟩
      rw [State.log_fio]
      exact overc
    · exact ⟨overc, logged⟩
  · exact ⟨overc, logged⟩

/-- An open coil while energised is shown and logged (R434). -/
theorem cdOpenCoil_marks {s : State} {d : SocId} {amps : Rat} {held : Nat} (alive : s.alive .abutment = true) (low : amps < mkRat 1 50)
    (lasts : 50 * cyclesMs ≤ held) (inv : Inv s) (highOn : s.fio.drv[d].high = true) (lowOn : s.fio.drv[d].low = true)
    (unmarked : s.bit (Obj.FIO_CD_STATUS d) 3 = false) (room : s.hasRoom 1 = true) : Completes (.cdOpenCoil d ⟨amps, held⟩) s fun t =>
      t.bit (Obj.FIO_CD_STATUS d) 3 = true ∧ newEvent s t 0xB009 [d.val + 1] = true := by
  have run : exec (.cdOpenCoil d ⟨amps, held⟩) s =
      .next (((setCdCurrent d amps s).setBit (Obj.FIO_CD_STATUS d) 3 true).log 0xB009 [d.val + 1]) :=
    congrArg Host.Outcome.next ((State.on_of_alive alive _).trans (if_pos (by
      rw [highOn, lowOn, unmarked, decide_eq_true low, decide_eq_true lasts]
      rfl)))
  refine ⟨_, run, ?_, newEvent_log (t := (setCdCurrent d amps s).setBit _ _ _) room le_rfl rfl⟩
  rw [State.log_bit (s := (setCdCurrent d amps s).setBit _ _ _) room]
  exact State.bit_setBit (State.wf_setR inv.objs _ _) _ _ _

theorem cdOpenCoilEnd_clears {s : State} {d : SocId} {amps : Rat} {held : Nat} (alive : s.alive .abutment = true) (normal : mkRat 1 50 ≤ amps)
    (lasts : 50 * cyclesMs ≤ held) (inv : Inv s) (highOn : s.fio.drv[d].high = true) (lowOn : s.fio.drv[d].low = true) :
    Completes (.cdOpenCoilEnd d ⟨amps, held⟩) s fun t => t.bit (Obj.FIO_CD_STATUS d) 3 = false := by
  have run : exec (.cdOpenCoilEnd d ⟨amps, held⟩) s = .next ((setCdCurrent d amps s).setBit (Obj.FIO_CD_STATUS d) 3 false) :=
    congrArg Host.Outcome.next ((State.on_of_alive alive _).trans (if_pos (by
      rw [highOn, lowOn, decide_eq_true normal, decide_eq_true lasts]
      rfl)))
  exact ⟨_, run, State.bit_setBit (State.wf_setR inv.objs _ _) _ _ _⟩

theorem cdReadbackMismatch_marks {s : State} {d : SocId} {held : Nat} (alive : s.alive .abutment = true) (lasts : cyclesMs ≤ held)
    (inv : Inv s) (free : socOwned s d = false) (unmarked : s.bit (Obj.FIO_CD_STATUS d) 4 = false) (room : s.hasRoom 1 = true)
    (highSide : Bool) : Completes (.cdReadbackMismatch d ⟨highSide, held⟩) s fun t => t.bit (Obj.FIO_CD_STATUS d) 4 = true ∧
      newEvent s t 0xB00A [d.val + 1, boolNat highSide] = true := by
  have run : exec (.cdReadbackMismatch d ⟨highSide, held⟩) s =
      .next ((s.setBit (Obj.FIO_CD_STATUS d) 4 true).log 0xB00A [d.val + 1, boolNat highSide]) :=
    congrArg Host.Outcome.next ((State.on_of_alive alive _).trans (if_neg (by
      rw [free, unmarked, decide_eq_false (not_lt.2 lasts)]
      decide)))
  refine ⟨_, run, ?_, newEvent_log (t := s.setBit _ _ _) room le_rfl rfl⟩
  rw [State.log_bit (s := s.setBit _ _ _) room]
  exact State.bit_setBit inv.objs _ _ _

/-! ### The statement -/

/-- Settles O50, clause by clause: commands with and without an owner, CLEAR, overcurrent, open coil and readback. -/
theorem contactorDrivers : Obligations.ContactorDrivers := by
  unfold Obligations.ContactorDrivers
  refine ⟨?drives, ?ignored, ?overcurrent, ?clear, ?openCoil, ?openCoilEnd, ?readback⟩
  case drives => exact fun _ _ on instant alive free => contactorDriverCommand_drives alive free on instant
  case ignored => exact fun _ _ on instant alive inv _ owned => contactorDriverCommand_ignored alive inv owned on instant
  case overcurrent => exact fun _ _ _ _ alive heavy lasts sound room => cdOvercurrent_latches alive heavy lasts sound room
  case clear => exact fun _ _ _ served _ free off => cdClear_releases served free off
  case openCoil =>
    exact fun _ _ _ _ alive low lasts inv highOn lowOn unmarked room => cdOpenCoil_marks alive low lasts inv highOn lowOn unmarked room
  case openCoilEnd => exact fun _ _ _ _ alive normal lasts inv highOn lowOn => cdOpenCoilEnd_clears alive normal lasts inv highOn lowOn
  case readback =>
    exact fun _ _ highSide _ alive lasts inv free unmarked room => cdReadbackMismatch_marks alive lasts inv free unmarked room highSide

end Sys2Proof.Machine
end

section
/-!
PROOF. Chapter 18, inputs and 24 V outputs: the samples of an input, overload, open wire, junction, FIELD24 and forcing (R426 to R435).
-/

namespace Sys2Proof.Machine

-- One declaration after another, so that the whole text compiles within its memory.
set_option Elab.async false

theorem State.modDi_self (s : State) (d : DiId) (f : DiSt → DiSt) : (s.modDi d f).fio.di[d] = f s.fio.di[d] :=
  Vector.getElem_set_self _

theorem State.modDo_self (s : State) (o : DoId) (f : DoSt → DoSt) : (s.modDo o f).fio.out[o] = f s.fio.out[o] :=
  Vector.getElem_set_self _

/-! ### One sample of an input -/

/-- The objects by which a sample of an input is judged. -/
def diSettings (d : DiId) : List Nat :=
  [Obj.FIO_DI_CFG d, Obj.FIO_DI_ON d, Obj.FIO_DI_OFF d, Obj.FIO_WB_SHORT d, Obj.FIO_WB_OPEN d, Obj.FIO_WB_MID d, Obj.FIO_DI_FILTER d]

theorem diSettings_apart (d : DiId) : ∀ key ∈ diSettings d, key ≠ Obj.FIO_DI_CURRENT d ∧ (defaultAt key).isSome = true := by
  revert d
  decide +kernel

/-- The state in which a sample is judged: its current shown, and the run of its class counted. -/
def diSampled (d : DiId) (q : DiSample) (s : State) : State :=
  (s.setR (Obj.FIO_DI_CURRENT d) (r32 q.mA)).modDi d fun x =>
    { x with cls := diClass s d q, run := if x.cls == diClass s d q then x.run + 1 else 1 }

theorem diSampled_di (d : DiId) (q : DiSample) (s : State) : (diSampled d q s).fio.di[d] = { s.fio.di[d] with
    cls := diClass s d q, run := if s.fio.di[d].cls == diClass s d q then s.fio.di[d].run + 1 else 1 } := State.modDi_self _ d _

theorem diSampled_objN {d : DiId} {key : Nat} (mem : key ∈ diSettings d) (q : DiSample) (s : State) :
    (diSampled d q s).objN key = s.objN key := by
  obtain ⟨ne, dflt⟩ := diSettings_apart d key mem
  have kept : (diSampled d q s).obj key = s.obj key := State.obj_setObj_ne ne dflt _ s
  rw [State.objN, kept, State.objN]

theorem diSampled_limit (d : DiId) (q : DiSample) (s : State) : diLimit (diSampled d q s) d = diLimit s d :=
  diSampled_objN (by simp [diSettings]) q s

theorem diSampled_raw (d : DiId) (q : DiSample) (s : State) : diRaw (diSampled d q s) d q = diRaw s d q := by
  unfold diRaw State.bit State.field
  rw [diSampled_objN (key := Obj.FIO_DI_CFG d) (by simp [diSettings]), diSampled_objN (key := Obj.FIO_WB_MID d) (by simp [diSettings]),
    diSampled_objN (key := Obj.FIO_DI_ON d) (by simp [diSettings]), diSampled_objN (key := Obj.FIO_DI_OFF d) (by simp [diSettings]),
    diSampled_di]

theorem diSample_classed {s : State} {d : DiId} {q : DiSample} {kind : LineFault} (cls : diClass s d q = some kind) :
    diSample d s q = diClassed d kind q.mA (diSampled d q s) := by
  unfold diSample diSampled
  simp only [cls]

theorem diSample_windowed {s : State} {d : DiId} {q : DiSample} (cls : diClass s d q = none) :
    diSample d s q = diWindow d (diRaw s d q) (diSampled d q s) := by
  rw [← diSampled_raw d q s]
  unfold diSample diSampled
  simp only [cls]

theorem diFeed_one {s : State} {d : DiId} (alive : s.alive .abutment = true) (q : DiSample) : diFeed d [q] s = diSample d s q :=
  State.on_of_alive alive _

/-- What hangs on an input does not change the inputs. -/
theorem inputReview_di (d : DiId) (s : State) : (inputReview d s).fio.di = s.fio.di := (keeps_inputReview d s).same (.fio .di) rfl

/-- A sample in a contact window, no line fault standing, is filtered (R427). -/
theorem diWindow_filters {d : DiId} {raw : Bool} {s : State} (sound : s.fio.di[d].fault = none) :
    (diWindow d raw s).fio.di[d] = { diFilter (diLimit s d) raw s.fio.di[d] with
      changedAt := if (diFilter (diLimit s d) raw s.fio.di[d]).st == s.fio.di[d].st then s.fio.di[d].changedAt else s.now } := by
  unfold diWindow
  extract_lets f x y t
  rw [if_neg (by rw [show x.fault = none from sound]; decide)]
  have filtered := State.modDi_self s d fun x => { diFilter f raw x with changedAt := if y.st == x.st then x.changedAt else s.now }
  refine Eq.trans ?_ filtered
  by_cases same : (y.st == x.st) = true
  · exact (congrArg (fun u : State => u.fio.di[d]) (if_pos same)).trans rfl
  · exact (congrArg (fun u : State => u.fio.di[d]) (if_neg same)).trans
      (congrArg (fun v : Vector DiSt 16 => v[d]) (inputReview_di d t))

/-- A sample whose line-fault class does not end in another fault leaves the filter (R428). -/
theorem diClassed_holds (d : DiId) (kind : LineFault) (mA : Rat) (s : State) :
    (diClassed d kind mA s).fio.di[d].st = s.fio.di[d].st ∧ (diClassed d kind mA s).fio.di[d].count = s.fio.di[d].count ∧
    (s.fio.di[d].fault ≠ none → (diClassed d kind mA s).fio.di[d].fault ≠ none) := by
  unfold diClassed
  split
  · exact ⟨rfl, rfl, id⟩
  · extract_lets t
    have marked : (inputReview d (t.modDi d fun x => { x with fault := some kind })).fio.di[d] = { s.fio.di[d] with fault := some kind } := by
      refine (congrArg (fun v : Vector DiSt 16 => v[d]) (inputReview_di d _)).trans ((State.modDi_self _ d _).trans ?_)
      exact congrArg (fun x : FieldSt => { x.di[d] with fault := some kind }) (State.log_fio _ _ _)
    rw [marked]
    exact ⟨rfl, rfl, fun _ => by simp⟩

/-- The event of a line fault (R428). -/
def lineFaultEvent : LineFault → Nat
  | .wireBreak => 0xB001
  | .short => 0xB002

theorem diClassed_run {d : DiId} {kind : LineFault} {s : State} (lasted : diLimit s d ≤ s.fio.di[d].run)
    (other : s.fio.di[d].fault ≠ some kind) (mA : Rat) : diClassed d kind mA s =
    inputReview d ((s.log (lineFaultEvent kind) [d.val + 1, r32 mA]).modDi d fun x => { x with fault := some kind }) := by
  refine (if_neg (by simp [-Fin.getElem_fin, not_lt.2 lasted, other])).trans ?_
  cases kind with
  | wireBreak => rfl
  | short => rfl

/-- The sample with which a class has lasted the filter's length raises a line fault (R428). -/
theorem diClassed_raises {d : DiId} {kind : LineFault} {s : State} (lasted : diLimit s d ≤ s.fio.di[d].run)
    (other : s.fio.di[d].fault ≠ some kind) (room : s.hasRoom 1 = true) (mA : Rat) : (diClassed d kind mA s).fio.di[d].fault = some kind ∧
    newEvent s (diClassed d kind mA s) (lineFaultEvent kind) [d.val + 1, r32 mA] = true := by
  rw [diClassed_run lasted other]
  refine ⟨?_, newEvent_keeps (keeps_inputReview d _) rfl (newEvent_congr rfl (newEvent_log room le_rfl rfl))⟩
  exact (congrArg (fun v : Vector DiSt 16 => v[d].fault) (inputReview_di d _)).trans (congrArg DiSt.fault (State.modDi_self _ d _))

/-- The sample with which a contact window has lasted the filter's length ends a line fault with the contact's state (R428). -/
theorem diWindow_ends {d : DiId} {s : State} (lasted : diLimit s d ≤ s.fio.di[d].run) (faulted : s.fio.di[d].fault ≠ none)
    (room : s.hasRoom 1 = true) (raw : Bool) : (diWindow d raw s).fio.di[d].fault = none ∧ (diWindow d raw s).fio.di[d].st = raw ∧
    newEvent s (diWindow d raw s) 0xB003 [d.val + 1] = true := by
  have ended : diWindow d raw s = inputReview d ((s.log 0xB003 [d.val + 1]).modDi d fun x =>
      { x with fault := none, raw := raw, st := raw, fresh := false, count := if raw then diLimit s d else 0 }) :=
    (if_pos (Option.isSome_iff_ne_none.2 faulted)).trans (if_neg (not_lt.2 lasted))
  have own : (inputReview d ((s.log 0xB003 [d.val + 1]).modDi d fun x =>
      { x with fault := none, raw := raw, st := raw, fresh := false, count := if raw then diLimit s d else 0 })).fio.di[d] =
      { (s.log 0xB003 [d.val + 1]).fio.di[d] with fault := none, raw := raw, st := raw, fresh := false, count := if raw then diLimit s d else 0 } :=
    (congrArg (fun v : Vector DiSt 16 => v[d]) (inputReview_di d _)).trans (State.modDi_self _ d _)
  rw [ended, own]
  exact ⟨rfl, rfl, newEvent_keeps (keeps_inputReview d _) rfl (newEvent_congr rfl (newEvent_log room le_rfl rfl))⟩

/-! ### Samples as commands -/

/-- The closed sample with which the counter reaches FIO_DI_FILTER sets the filtered state. -/
theorem diStateChange_closes {s : State} {d : DiId} {q : DiSample} (alive : s.alive .abutment = true) (sound : s.fio.di[d].fault = none)
    (settled : s.fio.di[d].fresh = false) (open_ : s.fio.di[d].st = false) (cls : diClass s d q = none) (closed : diRaw s d q = true)
    (last : s.fio.di[d].count + 1 = s.objN (Obj.FIO_DI_FILTER d)) : Completes (.diStateChange d [q]) s fun t =>
      t.fio.di[d].st = true ∧ t.fio.di[d].raw = true ∧ t.fio.di[d].changedAt = s.now ∧
      t.fio.di[d].count = s.objN (Obj.FIO_DI_FILTER d) := by
  have run : exec (.diStateChange d [q]) s = .next (diWindow d true (diSampled d q s)) :=
    congrArg Host.Outcome.next ((diFeed_one alive q).trans ((diSample_windowed cls).trans (by rw [closed])))
  have filtered := diWindow_filters (d := d) (raw := true) (s := diSampled d q s) (by rw [diSampled_di]; exact sound)
  have limit : diLimit s d = s.fio.di[d].count + 1 := last.symm
  rw [diSampled_limit, diSampled_di, limit] at filtered
  refine ⟨_, run, ?_⟩
  beta_reduce
  rw [filtered]
  generalize s.fio.di[d] = x at settled open_ last
  simp [diFilter, settled, open_, last]
  rfl

/-- The open one with which it reaches 0 clears it. -/
theorem diStateChange_opens {s : State} {d : DiId} {q : DiSample} (alive : s.alive .abutment = true) (sound : s.fio.di[d].fault = none)
    (settled : s.fio.di[d].fresh = false) (closed : s.fio.di[d].st = true) (cls : diClass s d q = none) (open_ : diRaw s d q = false)
    (last : s.fio.di[d].count = 1) (filter : 0 < s.objN (Obj.FIO_DI_FILTER d)) : Completes (.diStateChange d [q]) s fun t =>
      t.fio.di[d].st = false ∧ t.fio.di[d].raw = false ∧ t.fio.di[d].changedAt = s.now ∧ t.fio.di[d].count = 0 := by
  have run : exec (.diStateChange d [q]) s = .next (diWindow d false (diSampled d q s)) :=
    congrArg Host.Outcome.next ((diFeed_one alive q).trans ((diSample_windowed cls).trans (by rw [open_])))
  have filtered := diWindow_filters (d := d) (raw := false) (s := diSampled d q s) (by rw [diSampled_di]; exact sound)
  have limit : 0 < diLimit s d := filter
  rw [diSampled_limit, diSampled_di] at filtered
  refine ⟨_, run, ?_⟩
  beta_reduce
  rw [filtered]
  generalize s.fio.di[d] = x at settled closed last
  simp [diFilter, settled, closed, last, Nat.pos_iff_ne_zero.1 limit]
  rfl

/-- Under a line fault a classed sample holds state and counter. -/
theorem diStateChange_holds {s : State} {d : DiId} {q : DiSample} (alive : s.alive .abutment = true) (faulted : s.fio.di[d].fault ≠ none)
    (cls : diClass s d q ≠ none) : Completes (.diStateChange d [q]) s fun t =>
      t.fio.di[d].st = s.fio.di[d].st ∧ t.fio.di[d].count = s.fio.di[d].count ∧ t.fio.di[d].fault ≠ none := by
  obtain ⟨kind, some_⟩ := Option.ne_none_iff_exists'.1 cls
  have run : exec (.diStateChange d [q]) s = .next (diClassed d kind q.mA (diSampled d q s)) :=
    congrArg Host.Outcome.next ((diFeed_one alive q).trans (diSample_classed some_))
  obtain ⟨st, count, fault⟩ := diClassed_holds d kind q.mA (diSampled d q s)
  rw [diSampled_di] at st count fault
  exact ⟨_, run, st, count, fault faulted⟩

/-- The sample with which a class has lasted FIO_DI_FILTER samples raises a line fault and leaves state and counter. -/
theorem diLineFault_raises {s : State} {d : DiId} {q : DiSample} {kind : LineFault} (alive : s.alive .abutment = true)
    (cls : diClass s d q = some kind) (same : s.fio.di[d].cls = some kind)
    (last : s.fio.di[d].run + 1 = s.objN (Obj.FIO_DI_FILTER d)) (other : s.fio.di[d].fault ≠ some kind) (room : s.hasRoom 1 = true) :
    Completes (.diLineFault d q []) s fun t => t.fio.di[d].fault = some kind ∧ t.fio.di[d].st = s.fio.di[d].st ∧
      t.fio.di[d].count = s.fio.di[d].count ∧
      newEvent s t (lineFaultEvent kind) [d.val + 1, r32 q.mA] = true := by
  have run : exec (.diLineFault d q []) s = .next (diClassed d kind q.mA (diSampled d q s)) :=
    congrArg Host.Outcome.next ((diFeed_one alive q).trans (diSample_classed cls))
  obtain ⟨st, count, -⟩ := diClassed_holds d kind q.mA (diSampled d q s)
  rw [diSampled_di] at st count
  have lasted : diLimit (diSampled d q s) d ≤ (diSampled d q s).fio.di[d].run := by
    rw [diSampled_limit, diSampled_di, same, cls]
    simp [-Fin.getElem_fin, diLimit, last]
  obtain ⟨raised, logged⟩ := diClassed_raises (kind := kind) lasted (by rw [diSampled_di]; exact other) (s := diSampled d q s) room q.mA
  exact ⟨_, run, raised, st, count, logged⟩

/-- The sample with which a contact window has lasted as long ends the fault. -/
theorem diLineFaultEnd_ends {s : State} {d : DiId} {q : DiSample} (alive : s.alive .abutment = true) (cls : diClass s d q = none)
    (same : s.fio.di[d].cls = none) (last : s.fio.di[d].run + 1 = s.objN (Obj.FIO_DI_FILTER d)) (faulted : s.fio.di[d].fault ≠ none)
    (room : s.hasRoom 1 = true) : Completes (.diLineFaultEnd d q []) s fun t =>
      t.fio.di[d].fault = none ∧ t.fio.di[d].st = diRaw s d q ∧ newEvent s t 0xB003 [d.val + 1] = true := by
  have run : exec (.diLineFaultEnd d q []) s = .next (diWindow d (diRaw s d q) (diSampled d q s)) :=
    congrArg Host.Outcome.next ((diFeed_one alive q).trans (diSample_windowed cls))
  have lasted : diLimit (diSampled d q s) d ≤ (diSampled d q s).fio.di[d].run := by
    rw [diSampled_limit, diSampled_di, same, cls]
    simp [-Fin.getElem_fin, diLimit, last]
  obtain ⟨ended, st, logged⟩ := diWindow_ends lasted (by rw [diSampled_di]; exact faulted) (s := diSampled d q s) room (diRaw s d q)
  exact ⟨_, run, ended, st, logged⟩

theorem diSample_alive (d : DiId) (s : State) (q : DiSample) (i : Island) : (diSample d s q).alive i = s.alive i :=
  (keeps_diSample d s q).alive i rfl rfl rfl

/-- Samples fed in two parts are fed as one. -/
theorem diFeed_append (d : DiId) (samples more : List DiSample) (s : State) :
    diFeed d (samples ++ more) s = diFeed d more (diFeed d samples s) := by
  unfold diFeed State.on
  by_cases alive : s.alive .abutment = true
  · have still := foldl_invariant (f := diSample d) (P := fun t => t.alive .abutment = true)
      (fun t q h => (diSample_alive d t q .abutment).trans h) samples alive
    rw [if_pos alive, if_pos alive, if_pos still]
    exact List.foldl_append
  · rw [if_neg alive, if_neg alive, if_neg alive]

/-! ### 24 V outputs -/

theorem outOn_of_overload {s : State} {o : DoId} (latched : s.fio.out[o].overload = true) : outOn s o = false := by
  simp [-Fin.getElem_fin, outOn, latched]

theorem outOn_of_overTemp {s : State} {o : DoId} (hot : s.fio.out[o].overTemp = true) : outOn s o = false := by
  simp [-Fin.getElem_fin, outOn, hot]

theorem outOn_of_field24 {s : State} (bad : s.fio.f24Bad = true) (o : DoId) : outOn s o = false := by
  simp [-Fin.getElem_fin, outOn, bad]

/-- An output takes its command at arrival, and a command off releases its overload latch (R430, R435). -/
theorem fieldOutputCommand_taken {s : State} (alive : s.alive .abutment = true) (o : DoId) (on : Bool) (instant : Nat) :
    Completes (.fieldOutputCommand o on instant) s fun t => t.fio.out[o].cmd = on ∧ (on = false → s.fio.force = none →
      t.fio.out[o].overload = false) := by
  refine ⟨_, rfl, fieldOut_cmd alive o on _, fun off unforced => ?_⟩
  unfold fieldOut
  rw [if_neg (by rw [alive]; decide), showOut_fio, noteLateness_out, State.modDo_self, off, unforced]
  exact Bool.and_false _

/-- Overload latches an output off (R430). -/
theorem doOverload_latches {s : State} {o : DoId} {amps : Rat} {limiting : Bool} {held : Nat} (alive : s.alive .abutment = true)
    (exceeded : (mkRat 3 5 < amps ∧ 10 * cyclesMs ≤ held) ∨ (limiting = true ∧ cyclesMs ≤ held)) (on : outOn s o = true)
    (room : s.hasRoom 1 = true) : Completes (.doOverload o ⟨amps, limiting, held⟩) s fun t =>
      t.fio.out[o].overload = true ∧ outOn t o = false ∧ newEvent s t 0xB004 [o.val + 1, r32 amps] = true := by
  have run : exec (.doOverload o ⟨amps, limiting, held⟩) s = .next (showOut o (((setDoCurrent o amps s).modDo o fun x =>
      { x with overload := true }).log 0xB004 [o.val + 1, r32 amps])) :=
    congrArg Host.Outcome.next ((State.on_of_alive alive _).trans (if_neg (by simpa [on, imp_iff_not_or, not_or] using exceeded)))
  have latched : (showOut o (((setDoCurrent o amps s).modDo o fun x => { x with overload := true }).log 0xB004
      [o.val + 1, r32 amps])).fio.out[o].overload = true := by
    rw [showOut_fio, State.log_fio, State.modDo_self]
  exact ⟨_, run, latched, outOn_of_overload latched,
    newEvent_congr rfl (newEvent_log (t := (setDoCurrent o amps s).modDo o _) room le_rfl rfl)⟩

/-- An open wire lasting 50 ms is shown and logged (R430). -/
theorem doOpenWire_shown {s : State} {o : DoId} {amps volts : Rat} {held : Nat} (alive : s.alive .abutment = true)
    (open_ : wireOpen s o amps volts = true) (lasted : 50 * cyclesMs ≤ held) (inv : Inv s) (field : s.fio.f24Bad = false)
    (detects : s.bit (Obj.FIO_DO_CFG o) 0 = true) (closed : s.bit (Obj.FIO_DO_STATUS o) 2 = false) (room : s.hasRoom 1 = true) :
    Completes (.doOpenWire o ⟨amps, volts, held⟩) s fun t => t.bit (Obj.FIO_DO_STATUS o) 2 = true ∧
      newEvent s t 0xB005 [o.val + 1, boolNat (outOn s o)] = true := by
  have run : exec (.doOpenWire o ⟨amps, volts, held⟩) s = .next (((setDoCurrent o amps s).setBit (Obj.FIO_DO_STATUS o) 2 true).log 0xB005
      [o.val + 1, boolNat (outOn s o)]) :=
    congrArg Host.Outcome.next ((State.on_of_alive alive _).trans (if_neg (by simp [open_, field, detects, closed, not_lt.2 lasted])))
  refine ⟨_, run, ?_, newEvent_log (t := State.setBit _ _ _ _) room le_rfl rfl⟩
  rw [State.log_bit (s := (setDoCurrent o amps s).setBit (Obj.FIO_DO_STATUS o) 2 true) room]
  exact State.bit_setBit ((keeps_setDoCurrent o amps s).inv inv).objs _ _ _

/-- Its absence for 50 ms clears it (R430). -/
theorem doOpenWireClear_clears {s : State} {o : DoId} {amps volts : Rat} {held : Nat} (alive : s.alive .abutment = true)
    (whole : wireOpen s o amps volts = false) (lasted : 50 * cyclesMs ≤ held) (inv : Inv s) (field : s.fio.f24Bad = false) :
    Completes (.doOpenWireClear o ⟨amps, volts, held⟩) s fun t => t.bit (Obj.FIO_DO_STATUS o) 2 = false := by
  have run : exec (.doOpenWireClear o ⟨amps, volts, held⟩) s = .next ((setDoCurrent o amps s).setBit (Obj.FIO_DO_STATUS o) 2 false) :=
    congrArg Host.Outcome.next ((State.on_of_alive alive _).trans (if_neg (by simp [whole, field, not_lt.2 lasted])))
  exact ⟨_, run, State.bit_setBit ((keeps_setDoCurrent o amps s).inv inv).objs _ _ _⟩

/-- A junction above 150 °C turns an output off (R430). -/
theorem doOverTemp_off {s : State} {o : DoId} {junction : Rat} (alive : s.alive .abutment = true) (hot : 150 < junction)
    (cool : s.fio.out[o].overTemp = false) (room : s.hasRoom 1 = true) : Completes (.doOverTemp ⟨o, junction⟩) s fun t =>
      t.fio.out[o].overTemp = true ∧ outOn t o = false ∧ newEvent s t 0xB006 [o.val + 1] = true := by
  have run : exec (.doOverTemp ⟨o, junction⟩) s =
      .next (showOut o ((s.modDo o fun x => { x with overTemp := true }).log 0xB006 [o.val + 1])) :=
    congrArg Host.Outcome.next ((State.on_of_alive alive _).trans (if_neg (by simp [-Fin.getElem_fin, cool, not_le.2 hot])))
  have off : (showOut o ((s.modDo o fun x => { x with overTemp := true }).log 0xB006 [o.val + 1])).fio.out[o].overTemp = true := by
    rw [showOut_fio, State.log_fio, State.modDo_self]
  exact ⟨_, run, off, outOn_of_overTemp off, newEvent_congr rfl (newEvent_log (t := s.modDo o _) room le_rfl rfl)⟩

/-- Below 135 °C it follows its command again (R430). -/
theorem doOverTempEnd_follows {s : State} {o : DoId} {junction : Rat} (alive : s.alive .abutment = true) (cool : junction < 135) :
    Completes (.doOverTempEnd ⟨o, junction⟩) s fun t => t.fio.out[o].overTemp = false ∧ (outOn t o = true ↔ outWanted s o = true ∧
      s.fio.out[o].overload = false ∧ s.fio.f24Bad = false) := by
  have run : exec (.doOverTempEnd ⟨o, junction⟩) s = .next (showOut o (s.modDo o fun x => { x with overTemp := false })) :=
    congrArg Host.Outcome.next ((State.on_of_alive alive _).trans (if_neg (not_le.2 cool)))
  have own : (showOut o (s.modDo o fun x => { x with overTemp := false })).fio.out[o] = { s.fio.out[o] with overTemp := false } :=
    State.modDo_self s o fun x => { x with overTemp := false }
  have wanted : outWanted (showOut o (s.modDo o fun x => { x with overTemp := false })) o = outWanted s o := by
    unfold outWanted
    rw [own]
    rfl
  have lives : (showOut o (s.modDo o fun x => { x with overTemp := false })).alive .abutment = true := alive
  refine ⟨_, run, by rw [own], ?_⟩
  unfold outOn
  rw [wanted, own, lives]
  simp [showOut_fio, and_assoc]

/-- Showing the field's state leaves outputs, FIELD24 and forcing. -/
theorem showField_outputs (s : State) : (showField s).fio.out = s.fio.out ∧ (showField s).fio.f24Bad = s.fio.f24Bad ∧
    (showField s).fio.force = s.fio.force :=
  ⟨(keeps_showField s).same (.fio .out) rfl, (keeps_showField s).same (.fio .f24Bad) rfl, (keeps_showField s).same (.fio .force) rfl⟩

/-- FIELD24 out of its window turns every output off (R431). -/
theorem field24Fault_off {s : State} {volts : Rat} {held : Nat} (alive : s.alive .abutment = true) (lasted : cyclesMs ≤ held)
    (good : s.fio.f24Bad = false) (out : volts < 33 / 2 ∨ 36 < volts) (room : s.hasRoom 1 = true) :
    Completes (.field24Fault ⟨volts, held⟩) s fun t => t.fio.f24Bad = true ∧ (∀ o, outOn t o = false) ∧
      newEvent s t 0xB007 [if volts < 33 / 2 then 1 else 2, r32 volts] = true := by
  have low : mkRat 33 2 = 33 / 2 := by norm_num
  have run : exec (.field24Fault ⟨volts, held⟩) s = .next (showField ((s.modFio fun x => { x with f24Bad := true }).log 0xB007
      [if volts < 33 / 2 then 1 else 2, r32 volts])) := by
    refine congrArg Host.Outcome.next ((State.on_of_alive alive _).trans ?_)
    rw [← low]
    refine if_neg ?_
    rcases out with below | above
    · simp [good, not_lt.2 lasted, low, not_le.2 below]
    · simp [good, not_lt.2 lasted, not_le.2 above]
  obtain ⟨-, field, -⟩ := showField_outputs ((s.modFio fun x => { x with f24Bad := true }).log 0xB007
      [if volts < 33 / 2 then 1 else 2, r32 volts])
  rw [State.log_fio] at field
  exact ⟨_, run, field, outOn_of_field24 field,
    newEvent_keeps (keeps_showField _) rfl (newEvent_log (t := s.modFio _) room le_rfl rfl)⟩

/-- Its return ends that (R431). -/
theorem field24Restored_ends {s : State} {volts : Rat} {held : Nat} (alive : s.alive .abutment = true) (lasted : 10 * cyclesMs ≤ held)
    (bad : s.fio.f24Bad = true) (above : 35 / 2 ≤ volts) (below : volts ≤ 35) (room : s.hasRoom 1 = true) :
    Completes (.field24Restored ⟨volts, held⟩) s fun t => t.fio.f24Bad = false ∧ newEvent s t 0xB007 [0, r32 volts] = true := by
  have low : mkRat 35 2 ≤ volts := (by norm_num : mkRat 35 2 = 35 / 2).trans_le above
  have run : exec (.field24Restored ⟨volts, held⟩) s =
      .next (showField ((s.modFio fun x => { x with f24Bad := false }).log 0xB007 [0, r32 volts])) :=
    congrArg Host.Outcome.next ((State.on_of_alive alive _).trans (if_pos (by simp [bad, lasted, low, below])))
  obtain ⟨-, field, -⟩ := showField_outputs ((s.modFio fun x => { x with f24Bad := false }).log 0xB007 [0, r32 volts])
  rw [State.log_fio] at field
  exact ⟨_, run, field, newEvent_keeps (keeps_showField _) rfl (newEvent_log (t := s.modFio _) room le_rfl rfl)⟩

/-- What FIO_FORCE leaves of an output: its command, and no overload latch where it is forced off (R435). -/
def forcedOut (v : Nat) (o : DoId) (x : DoSt) : DoSt :=
  if (bitsAt v 0 1 == 1) && bitsAt v (o.val + 1) 1 == 0 then { x with overload := false } else x

theorem bitsAt_zero_one (v : Nat) : (bitsAt v 0 1 == 1) = decide (v % 2 = 1) := by
  have first : bitsAt v 0 1 = v % 2 := by simp [bitsAt]
  rw [first]
  rfl

/-- FIO_FORCE sets the forced pattern (R435). -/
theorem fieldForce_forces {s : State} {w : Writer} {v : Nat} (service : serviceOk s w = true) (ready : s.mod.mode = .ready)
    (range : v ≤ 0x1FFFF) : ∃ t, fieldForce v w s = (0, t) ∧ t.fio.force = (if v % 2 = 1 then some v else none) ∧
      ∀ o : DoId, t.fio.out[o] = forcedOut v o s.fio.out[o] := by
  have run : fieldForce v w s = (0, showField ((s.setN Obj.FIO_FORCE v).modFio fun x => { x with
      force := if bitsAt v 0 1 == 1 then some v else none
      out := Vector.ofFn fun o => if (bitsAt v 0 1 == 1) && bitsAt v (o.val + 1) 1 == 0 then { x.out[o] with overload := false }
        else x.out[o] })) := by
    unfold fieldForce
    rw [if_neg (by rw [service]; decide), if_neg (by rw [ready]; decide), if_neg (not_lt.2 range)]
  obtain ⟨out, -, force⟩ := showField_outputs ((s.setN Obj.FIO_FORCE v).modFio fun x => { x with
      force := if bitsAt v 0 1 == 1 then some v else none
      out := Vector.ofFn fun o => if (bitsAt v 0 1 == 1) && bitsAt v (o.val + 1) 1 == 0 then { x.out[o] with overload := false }
        else x.out[o] })
  refine ⟨_, run, force.trans ?_, fun o => (congrArg (fun u : Vector DoSt 12 => u[o]) out).trans (Vector.getElem_ofFn _)⟩
  change (if (bitsAt v 0 1 == 1) = true then some v else none) = _
  rw [bitsAt_zero_one]
  simp

/-- FIO_FORCE in READY with service access (R435). -/
theorem fieldForce_taken {s : State} {w : Writer} {v : Nat} (served : s.serves w .abutment = true)
    (service : serviceOk s w = true) (ready : s.mod.mode = .ready) (range : v ≤ 0x1FFFF) : Completes (.fieldForce v w) s fun t =>
      t.fio.force = (if v % 2 = 1 then some v else none) ∧ ∀ o : DoId, t.fio.out[o].cmd = s.fio.out[o].cmd ∧
      (v % 2 = 1 → bitsAt v (o.val + 1) 1 = 0 → t.fio.out[o].overload = false) := by
  obtain ⟨u, forced, force, out⟩ := fieldForce_forces (w := w) service ready range
  obtain ⟨tx, net, shape⟩ := request_accepted_shape served Obj.FIO_FORCE forced
  refine ⟨_, congrArg Host.Outcome.next shape, force, fun o => ?_⟩
  change u.fio.out[o].cmd = _ ∧ (_ → _ → u.fio.out[o].overload = false)
  rw [out]
  unfold forcedOut
  split
  next off => exact ⟨rfl, fun _ _ => rfl⟩
  next kept => exact ⟨rfl, fun odd zero => absurd (by rw [bitsAt_zero_one, zero]; simp [odd]) kept⟩

/-- Settles O51: an input sample by sample through `diFilter` and its line-fault class, an output by its latches, FIELD24 and forcing. -/
theorem fieldInputsAndOutputs : Obligations.FieldInputsAndOutputs := by
  unfold Obligations.FieldInputsAndOutputs
  refine ⟨fun s d q => diStateChange_closes, fun s d q => diStateChange_opens, fun s d q rest alive faulted cls single => ?_,
    fun s d q kind alive cls same last other room => ?_, fun s d q => diLineFaultEnd_ends,
    fun s d q samples more => ⟨diFeed_append d samples more s, rfl, rfl, rfl⟩,
    fun s o on instant alive => fieldOutputCommand_taken alive o on instant, fun s o amps limiting held => doOverload_latches,
    fun s o amps volts held => doOpenWire_shown, fun s o amps volts held => doOpenWireClear_clears,
    fun s o junction => doOverTemp_off, fun s o junction => doOverTempEnd_follows, fun s volts held => field24Fault_off,
    fun s volts held => field24Restored_ends,
    fun s v w served _ service ready range => fieldForce_taken served service ready range⟩
  · subst single
    exact diStateChange_holds alive faulted cls
  · obtain ⟨t, run, raised, st, count, logged⟩ := diLineFault_raises alive cls same last other room
    refine ⟨t, run, raised, st, count, ?_⟩
    cases kind with
    | wireBreak => exact logged
    | short => exact logged

end Sys2Proof.Machine
end

section
/-!
PROOF. Chapter 19: AUX_IN excursions, shedding, the gate-drive limit, the housekeeping round and the reset input (R438 to R445, R457).
-/

namespace Sys2Proof.Machine

-- One declaration after another, so that the whole text compiles within its memory.
set_option Elab.async false

/-- On a powered module the front end acts. -/
theorem powered_acts {s : State} (on : s.mod.powered = true) (f : State → State) : powered s f = f s := if_pos on

theorem showSupply_sup (s : State) : (showSupply s).sup = s.sup := rfl

theorem showLimit_sup (s : State) : (showLimit s).sup = s.sup := rfl

/-- What SUP_STATUS shows does not reach the log. -/
theorem newEvent_showSupply {s t : State} {code : Nat} {data : List Rat} (logged : newEvent s t code data = true) :
    newEvent s (showSupply t) code data = true := newEvent_congr rfl logged

/-! ### AUX_IN -/

/-- A high excursion is marked with its start (R438). -/
theorem auxHighStart_marks {s : State} (on : s.mod.powered = true) (low : s.sup.highAt = none) :
    Completes .auxHighStart s fun t => t.sup.highAt = some s.now := by
  have run : exec .auxHighStart s = .next (showSupply (s.modSup fun x => { x with highAt := some s.now })) :=
    congrArg Host.Outcome.next ((powered_acts on _).trans (if_neg (by rw [low]; decide)))
  exact ⟨_, run, rfl⟩

/-- Its end is logged with the peak (R438). -/
theorem auxHighEnd_logged {s : State} {volts peak : Rat} {held at_ : Nat} (on : s.mod.powered = true) (high : s.sup.highAt = some at_)
    (below : volts < 160) (lasted : cyclesMs ≤ held) (room : s.hasRoom 1 = true) : Completes (.auxHighEnd ⟨volts, peak, held⟩) s fun t =>
      t.sup.highAt = none ∧ newEvent s t 0x1024 [r32 peak, ms32 (s.since at_)] = true := by
  have run : exec (.auxHighEnd ⟨volts, peak, held⟩) s =
      .next (showSupply ((s.modSup fun x => { x with highAt := none }).log 0x1024 [r32 peak, ms32 (s.since at_)])) := by
    refine congrArg Host.Outcome.next ((powered_acts on _).trans ?_)
    simp only [high]
    exact if_neg (by simp [not_le.2 below, not_lt.2 lasted])
  refine ⟨_, run, ?_, newEvent_showSupply (newEvent_log (t := s.modSup _) room le_rfl rfl)⟩
  rw [showSupply_sup, State.log_sup]
  rfl

/-- An interruption is marked with its start, its bridging time is fixed and 0x1022 logged (R439). -/
theorem auxInterruptionStart_marks {s : State} {volts : Rat} {held : Nat} (hold : Rat) (on : s.mod.powered = true) (below : volts < 7)
    (lasted : cyclesUs 20 ≤ held) (none_ : s.sup.intAt = none) (room : s.hasRoom 1 = true) :
    Completes (.auxInterruptionStart ⟨volts, held⟩ hold) s fun t => t.sup.intAt = some s.now ∧
      t.sup.bridge = cyclesUs (s.objN Obj.SUP_BRIDGE) ∧ newEvent s t 0x1022 [r32 volts, r32 hold] = true := by
  have run : exec (.auxInterruptionStart ⟨volts, held⟩ hold) s = .next (((showSupply ((s.modSup fun x =>
      { x with intAt := some s.now, bridge := cyclesUs (s.objN Obj.SUP_BRIDGE) }).bump Obj.SUP_INTERRUPTIONS)).log 0x1022
      [r32 volts, r32 hold]).on .house (requestPage hold)) := by
    refine congrArg Host.Outcome.next ((powered_acts on _).trans (if_neg ?_))
    simp [none_, not_le.2 below, not_lt.2 lasted]
  have logged : newEvent s ((showSupply ((s.modSup fun x => { x with intAt := some s.now, bridge := cyclesUs (s.objN Obj.SUP_BRIDGE) }).bump
      Obj.SUP_INTERRUPTIONS)).log 0x1022 [r32 volts, r32 hold]) 0x1022 [r32 volts, r32 hold] = true := newEvent_log room le_rfl rfl
  generalize marked : (showSupply ((s.modSup fun x => { x with intAt := some s.now, bridge := cyclesUs (s.objN Obj.SUP_BRIDGE) }).bump
      Obj.SUP_INTERRUPTIONS)).log 0x1022 [r32 volts, r32 hold] = u at run logged
  have sup : u.sup = { s.sup with intAt := some s.now, bridge := cyclesUs (s.objN Obj.SUP_BRIDGE) } := by
    rw [← marked, State.log_sup]
    rfl
  have page := Keeps.on (i := .house) (fun t h => (h.trans (keeps_requestPage hold t))) (Keeps.refl u)
  refine ⟨_, run, (page.same (.sup .intAt) rfl).trans (congrArg SupplySt.intAt sup),
    (page.same (.sup .bridge) rfl).trans (congrArg SupplySt.bridge sup), newEvent_keeps page rfl logged⟩

/-- Its end clears it, brings shed supplies back and logs 0x1023 (R439, R440). -/
theorem auxInterruptionEnd_clears {s : State} {volts lowestHold : Rat} {held at_ : Nat} (on : s.mod.powered = true)
    (interrupted : s.sup.intAt = some at_) (above : 8 ≤ volts) (lasted : cyclesMs ≤ held) (room : s.hasRoom 1 = true) :
    Completes (.auxInterruptionEnd ⟨volts, lowestHold, held⟩) s fun t => t.sup.intAt = none ∧ t.sup.shed = false ∧
      newEvent s t 0x1023 [ms32 (s.since at_), r32 lowestHold] = true := by
  have run : exec (.auxInterruptionEnd ⟨volts, lowestHold, held⟩) s = .next (showSupply (((s.modSup fun x => { x with
      intAt := none, shed := false, backAt := if s.sup.shed then some s.now else x.backAt,
      sensorAt := if s.sup.shed then s.now else x.sensorAt }).setR Obj.SUP_LAST_INTERRUPTION (ms32 (s.since at_))).log 0x1023
      [ms32 (s.since at_), r32 lowestHold])) := by
    refine congrArg Host.Outcome.next ((powered_acts on _).trans ?_)
    simp only [interrupted]
    exact if_neg (by simp [not_lt.2 above, not_lt.2 lasted])
  refine ⟨_, run, ?_, ?_, newEvent_showSupply (newEvent_log (t := (s.modSup _).setR _ _) room le_rfl rfl)⟩ <;>
    (rw [showSupply_sup, State.log_sup]; rfl)

/-- The stop level ends in HALT without power, with no store running (R439). -/
theorem auxStopLevel_halts {s : State} {at_ : Nat} {hold : Rat} (on : s.mod.powered = true) (interrupted : s.sup.intAt = some at_)
    (reached : 10 * cyclesMs ≤ s.since at_ ∨ hold < 14) (idle : s.nvs.running = none) (mode : s.mod.mode ≠ .halt) :
    Completes (.auxStopLevel hold) s fun t => t.mod.mode = .halt ∧ t.mod.powered = false ∧ t.fio = FieldSt.init ∧
      t.stg = .replicate 4 .init ∧ t.sup.intAt = none := by
  have run : exec (.auxStopLevel hold) s = .next (powerLoss s) := by
    refine congrArg Host.Outcome.next ((powered_acts on _).trans ?_)
    simp only [interrupted]
    refine (if_neg ?_).trans (if_neg (by rw [idle]; simp))
    rcases reached with late | low
    · simp [not_lt.2 late]
    · simp [not_le.2 low]
  obtain ⟨halt, off, fio, stg, -⟩ := powerLoss_halts mode
  obtain ⟨-, -, -, sup, -⟩ := powerLoss_parts s
  exact ⟨_, run, halt, off, fio, stg, by rw [sup]; rfl⟩

/-- Once SUP_BRIDGE has passed, supplies are shed and the links of E3 and E4 are down (R440). -/
theorem supplyShed_sheds {s : State} {at_ : Nat} (on : s.mod.powered = true) (interrupted : s.sup.intAt = some at_)
    (fed : s.sup.shed = false) (passed : s.sup.bridge ≤ s.since at_) : Completes .supplyShed s fun t =>
      t.sup.shed = true ∧ t.net.link[(2 : Fin 4)] = false ∧ t.net.link[(3 : Fin 4)] = false := by
  have run : exec .supplyShed s =
      .next (setLink 3 false 0 (setLink 2 false 0 (showSupply (s.modSup fun x => { x with shed := true })))) := by
    refine congrArg Host.Outcome.next ((powered_acts on _).trans ?_)
    simp only [interrupted]
    exact if_neg (by rw [fed]; simp [not_lt.2 passed])
  refine ⟨_, run, ?_, ?_, setLink_self 3 false 0 _⟩
  · exact ((keeps_setLink 3 false 0 _).same (.sup .shed) rfl).trans ((keeps_setLink 2 false 0 _).same (.sup .shed) rfl)
  · rw [setLink_link]
    exact (Vector.getElem_set_ne _ _ (by decide)).trans (setLink_self 2 false 0 _)

/-- AUX_IN below 14.4 V limits the gate-drive rail (R441). -/
theorem gdLimitEntry_limits {s : State} {volts : Rat} {held : Nat} (lasted : cyclesMs ≤ held) (on : s.mod.powered = true)
    (free : s.sup.gdLimited = false) (none_ : s.sup.intAt = none) (below : volts < 72 / 5) (room : s.hasRoom 1 = true) :
    Completes (.gdLimitEntry ⟨volts, held⟩) s fun t => t.sup.gdLimited = true ∧ newEvent s t 0x1021 [1, r32 volts] = true := by
  have level : ¬ mkRat 144 10 ≤ volts := not_le.2 (below.trans_eq (by norm_num))
  have run : exec (.gdLimitEntry ⟨volts, held⟩) s =
      .next (showLimit ((s.modSup fun x => { x with gdLimited := true }).log 0x1021 [1, r32 volts])) :=
    congrArg Host.Outcome.next ((powered_acts on _).trans (if_neg (by simp [free, none_, level, not_lt.2 lasted])))
  refine ⟨_, run, ?_, newEvent_congr rfl (newEvent_log (t := s.modSup _) room le_rfl rfl)⟩
  rw [showLimit_sup, State.log_sup]
  rfl

/-- Above 15.0 V the limit ends (R441). -/
theorem gdLimitExit_ends {s : State} {volts : Rat} {held : Nat} (lasted : 100 * cyclesMs ≤ held) (on : s.mod.powered = true)
    (limited : s.sup.gdLimited = true) (none_ : s.sup.intAt = none) (above : 15 < volts) (room : s.hasRoom 1 = true) :
    Completes (.gdLimitExit ⟨volts, held⟩) s fun t => t.sup.gdLimited = false ∧ newEvent s t 0x1021 [0, r32 volts] = true := by
  have run : exec (.gdLimitExit ⟨volts, held⟩) s =
      .next (showLimit ((s.modSup fun x => { x with gdLimited := false }).log 0x1021 [0, r32 volts])) :=
    congrArg Host.Outcome.next ((powered_acts on _).trans (if_neg (by simp [limited, none_, not_le.2 above, not_lt.2 lasted])))
  refine ⟨_, run, ?_, newEvent_congr rfl (newEvent_log (t := s.modSup _) room le_rfl rfl)⟩
  rw [showLimit_sup, State.log_sup]
  rfl

/-! ### The housekeeping round -/

/-- What the rails of a round write: its instant, SUP_RAIL, GDV_RAIL_V, and two status words. -/
abbrev railParts : Nat := 0x100000000000000000000000000000000000000000000000000000000000000000000000000000030000000000000000000000000000040000000800000000000000000000

theorem keeps_rails {s t : State} (rails : Vector Rat 18) (h : Keeps railParts s t) :
    Keeps railParts s ((List.finRange 18).foldl (fun u j => u.setR (Obj.SUP_RAIL j.val) (r32 rails[j])) t) :=
  Keeps.foldl _ (fun _ j k => Keeps.setR .SUP_RAIL (group_SUP_RAIL _ (by omega)) (by decide) _ k) h

theorem group_THM_EXT_CFG_of (i : TempId) : objGroup (Obj.THM_EXT_CFG (i.val - 28)) = .sup := by
  revert i
  decide +kernel

/-- Whether a channel is in use rests on objects that no round writes. -/
theorem Keeps.tempUsed {F : Nat} {s t : State} (h : Keeps F s t) (sup : F.testBit (Part.obj .sup).bit = false)
    (mod : F.testBit (Part.obj .mod).bit = false) (i : TempId) : tempUsed t i = tempUsed s i := by
  unfold Machine.tempUsed
  rw [h.objN _ (by rw [group_THM_EXT_CFG_of]; exact sup) mod]

theorem State.log_broken (s : State) (code : Nat) (data : List Rat) (j : TempId) :
    (s.log code data).sup.sensor[j].broken = s.sup.sensor[j].broken :=
  congrArg (fun y : SupplySt => y.sensor[j].broken) (State.log_sup _ _ _)

theorem tempBroken_breaks (i : TempId) (cause : Nat) (s : State) : (tempBroken i cause s).sup.sensor[i].broken = true := by
  unfold tempBroken
  split
  next broken => exact broken
  · exact (State.log_broken _ _ _ i).trans (congrArg SensorSt.broken (Vector.getElem_set_self _))

/-- A sensor written with the same mark, or with a broken one, is as broken as before. -/
theorem modSensor_stays {s : State} {i j : TempId} {x : SensorSt} (kept : s.sup.sensor[i].broken = true → x.broken = true)
    (broken : s.sup.sensor[j].broken = true) : ((s.modSup fun y => { y with sensor := y.sensor.set i x }).sup.sensor[j]).broken = true := by
  by_cases same : i = j
  · subst same
    exact (congrArg SensorSt.broken (Vector.getElem_set_self _)).trans (kept broken)
  · exact (congrArg SensorSt.broken (Vector.getElem_set_ne i.isLt j.isLt fun h => same (Fin.ext h))).trans broken

theorem tempBroken_stays {s : State} {j : TempId} (i : TempId) (cause : Nat) (broken : s.sup.sensor[j].broken = true) :
    (tempBroken i cause s).sup.sensor[j].broken = true := by
  unfold tempBroken
  split
  · exact broken
  · exact (State.log_broken _ _ _ j).trans (modSensor_stays (x := { s.sup.sensor[i] with broken := true }) (fun _ => rfl) broken)

/-- Reading a channel mends no sensor (R445). -/
theorem readTemp_stays {s : State} {j : TempId} (temps : Vector TempRead 30) (i : TempId) (broken : s.sup.sensor[j].broken = true) :
    (readTemp temps s i).sup.sensor[j].broken = true := by
  unfold readTemp
  split
  · exact broken
  · split
    · exact broken
    · exact tempBroken_stays i 1 broken
    · exact tempBroken_stays i 2 broken
    next t _ =>
      extract_lets u v far n w
      have u_sup : u.sup = s.sup := rfl
      have v_sup : v.sup = s.sup := by
        change (if u.objR (Obj.THM_PEAK i.val) < r32 t then u.setR (Obj.THM_PEAK i.val) (r32 t) else u).sup = s.sup
        split
        · exact u_sup
        · exact u_sup
      have v_broken : v.sup.sensor[j].broken = true := (congrArg (fun y : SupplySt => y.sensor[j].broken) v_sup).trans broken
      split
      · exact tempBroken_stays i 3 v_broken
      · split
        · exact v_broken
        · have w_broken : w.sup.sensor[j].broken = true := modSensor_stays (x := { v.sup.sensor[i] with off := n }) id v_broken
          split
          · exact tempBroken_stays i 4 w_broken
          · exact w_broken

/-- A channel in use that reads open or short is broken (R445). -/
theorem readTemp_breaks {s : State} {temps : Vector TempRead 30} {i : TempId} (reads : temps[i] = .open_ ∨ temps[i] = .short)
    (used : tempUsed s i = true) : (readTemp temps s i).sup.sensor[i].broken = true := by
  unfold readTemp
  rw [if_neg (by rw [used]; decide)]
  rcases reads with open_ | short
  · rw [open_]
    exact tempBroken_breaks i 1 s
  · rw [short]
    exact tempBroken_breaks i 2 s

/-- An event of a channel leaves the sensors. -/
theorem sensorEvent_stays {s : State} {j : TempId} {due : Bool} (code : Nat) (data : List Rat) (broken : s.sup.sensor[j].broken = true) :
    (if due = true then s.log code data else s).sup.sensor[j].broken = true := by
  split
  · exact (State.log_broken s code data j).trans broken
  · exact broken

/-- Judging a channel mends no sensor. -/
theorem judgeTemp_stays {s : State} {j : TempId} (temps : Vector TempRead 30) (i : TempId) (broken : s.sup.sensor[j].broken = true) :
    (judgeTemp temps s i).sup.sensor[j].broken = true := by
  unfold judgeTemp
  extract_lets x reading h
  generalize reading = shown
  cases shown with
  | none => exact broken
  | some t =>
    refine sensorEvent_stays 0xC005 _ (sensorEvent_stays 0xC001 _ ?_)
    exact modSensor_stays (s := s) (i := i) id broken

/-- The reviews at a round's end leave the sensors. -/
theorem roundReviews_sup (temps : Vector TempRead 30) (s : State) :
    (showThermal (shutdownReview temps (throttleReview temps (inhibitReview temps s)))).sup.sensor = s.sup.sensor ∧
    (showThermal (shutdownReview temps (throttleReview temps (inhibitReview temps s)))).sup.lastRound = s.sup.lastRound := by
  have inhibit := keeps_inhibitReview temps s
  have throttle := keeps_throttleReview temps (inhibitReview temps s)
  have shutdown := keeps_shutdownReview temps (throttleReview temps (inhibitReview temps s))
  have show_ := keeps_showThermal (shutdownReview temps (throttleReview temps (inhibitReview temps s)))
  exact ⟨(show_.same (.sup .sensor) rfl).trans ((shutdown.same (.sup .sensor) rfl).trans ((throttle.same (.sup .sensor) rfl).trans
    (inhibit.same (.sup .sensor) rfl))), (show_.same (.sup .lastRound) rfl).trans ((shutdown.same (.sup .lastRound) rfl).trans
    ((throttle.same (.sup .lastRound) rfl).trans (inhibit.same (.sup .lastRound) rfl)))⟩

/-- A round in a new 24 ms interval is accepted: its instant is kept, broken sensors stay so, open and short ones break (R444, R445). -/
theorem housekeepingRound_accepted {s : State} (temps : Vector TempRead 30) (rails : Vector Rat 18) (alive : s.alive .house = true)
    (new : s.sup.lastRound / roundCycles < s.now / roundCycles) : Completes (.housekeepingRound temps rails) s fun t =>
      t.sup.lastRound = s.now ∧ (∀ i : TempId, s.sup.sensor[i].broken = true → t.sup.sensor[i].broken = true) ∧
      ∀ i : TempId, tempUsed s i = true → temps[i] = .open_ ∨ temps[i] = .short → t.sup.sensor[i].broken = true := by
  obtain ⟨u, run, rounds, begun⟩ : ∃ u : State, exec (.housekeepingRound temps rails) s = .next (showThermal (shutdownReview temps
      (throttleReview temps (inhibitReview temps (allTemps.foldl (judgeTemp temps) (allTemps.foldl (readTemp temps) u)))))) ∧
      Keeps railParts s u ∧ u.sup.lastRound = s.now := by
    refine ⟨_, congrArg Host.Outcome.next ((State.on_of_alive alive _).trans (if_neg (not_le.2 new))), ?_, ?_⟩
    · refine Keeps.setBit .SUP_STATUS group_SUP_STATUS (by decide) _ _ (Keeps.setBit .FIO_STATUS group_FIO_STATUS (by decide) _ _
        (Keeps.setR .GDV_RAIL_V group_GDV_RAIL_V (by decide) _ (keeps_rails rails (Keeps.modSup ?_ (Keeps.refl s)))))
      refine SupField.upd_of fun f x other => ?_
      cases f with
      | lastRound => exact Keeps.no rfl other
      | _ => rfl
    · exact congrArg SupplySt.lastRound (foldl_invariant (P := fun t => t.sup = _) (fun _ _ same => same) (List.finRange 18) rfl)
  have read_round := foldl_invariant (f := readTemp temps) (P := fun t => t.sup.lastRound = s.now)
    (fun t i same => ((keeps_readTemp temps t i).same (.sup .lastRound) rfl).trans same) allTemps begun
  have judged_round := foldl_invariant (f := judgeTemp temps) (P := fun t => t.sup.lastRound = s.now)
    (fun t i same => ((keeps_judgeTemp temps t i).same (.sup .lastRound) rfl).trans same) allTemps read_round
  obtain ⟨sensors, last⟩ := roundReviews_sup temps (allTemps.foldl (judgeTemp temps) (allTemps.foldl (readTemp temps) u))
  refine ⟨_, run, last.trans judged_round, fun i broken => ?_, fun i used reads => ?_⟩ <;> rw [sensors]
  · have start : u.sup.sensor[i].broken = true :=
      (congrArg (fun v : Vector SensorSt 30 => v[i].broken) (rounds.same (.sup .sensor) rfl)).trans broken
    exact foldl_invariant (P := fun t => t.sup.sensor[i].broken = true) (fun _ j => judgeTemp_stays temps j) allTemps
      (foldl_invariant (P := fun t => t.sup.sensor[i].broken = true) (fun _ j => readTemp_stays temps j) allTemps start)
  · have used_read (t : State) (j : TempId) : tempUsed (readTemp temps t j) i = tempUsed t i :=
      (keeps_readTemp temps t j).tempUsed rfl rfl i
    have used_end : tempUsed (allTemps.foldl (readTemp temps) u) i = true :=
      foldl_invariant (P := fun t => tempUsed t i = true) (fun t j h => (used_read t j).trans h) allTemps
        ((rounds.tempUsed rfl rfl i).trans used)
    have broken_read : (allTemps.foldl (readTemp temps) u).sup.sensor[i].broken = true :=
      foldl_establishes (P := fun t => tempUsed t i = true → t.sup.sensor[i].broken = true)
        (fun t j h used => readTemp_stays temps j (h ((used_read t j).symm.trans used))) (List.mem_finRange i)
        (fun t used => readTemp_breaks reads ((used_read t i).symm.trans used)) u used_end
    exact foldl_invariant (P := fun t => t.sup.sensor[i].broken = true) (fun _ j => judgeTemp_stays temps j) allTemps broken_read

/-! ### The reset input -/

/-- The asserted reset input takes the module to HALT and is kept as asserted (R457). -/
theorem resetInputAssert_halts {s : State} (on : s.mod.powered = true) : Completes .resetInputAssert s fun t =>
    t.mod.mode = .halt ∧ t.mod.resetAsserted = true ∧ t.stg = (if s.mod.mode = .halt then s.stg else .replicate 4 .init) := by
  have run : exec .resetInputAssert s = .next (enterHalt 2 (s.modMod fun m => { m with resetAsserted := true })) :=
    congrArg Host.Outcome.next (powered_acts on _)
  by_cases halted : s.mod.mode = .halt
  · rw [enterHalt_idle (s := s.modMod fun m => { m with resetAsserted := true }) halted] at run
    exact ⟨_, run, halted, rfl, (if_pos halted).symm⟩
  · obtain ⟨u, restarted, mod⟩ := enterHalt_restarts (s := s.modMod fun m => { m with resetAsserted := true }) halted 2
    rw [restarted] at run
    refine ⟨_, run, ?_, ?_, (restart_stg u).trans (if_neg halted).symm⟩
    · rw [restart_mod]
      rfl
    · rw [restart_mod, mod]
      rfl

/-- Settles O52: each of these commands by what it does on a powered module; of the housekeeping round, that neither reading nor
judging a channel mends a sensor and that an open or short channel in use breaks. -/
theorem supplyAndReset : Obligations.SupplyAndReset := by
  unfold Obligations.SupplyAndReset
  refine ⟨fun s => auxHighStart_marks, fun s volts peak held on high below lasted room => ?_,
    fun s volts hold held on below lasted none_ room => auxInterruptionStart_marks hold on below lasted none_ room,
    fun s volts lowestHold held on above lasted interrupted room => ?_,
    fun s at_ hold on interrupted reached idle mode => auxStopLevel_halts on interrupted reached idle mode,
    fun s at_ on interrupted fed passed => supplyShed_sheds on interrupted fed passed,
    fun s volts held lasted on free none_ below room => gdLimitEntry_limits lasted on free none_ below room,
    fun s volts held lasted on limited none_ above room => gdLimitExit_ends lasted on limited none_ above room,
    fun s temps rails alive new => housekeepingRound_accepted temps rails alive new,
    fun s => resetInputAssert_halts,
    fun s on => ⟨_, congrArg Host.Outcome.next (powered_acts on _), rfl⟩⟩
  · obtain ⟨at_, since⟩ := Option.ne_none_iff_exists'.1 high
    obtain ⟨t, run, cleared, logged⟩ := auxHighEnd_logged (peak := peak) on since below lasted room
    exact ⟨t, run, cleared, at_, since, logged⟩
  · obtain ⟨at_, since⟩ := Option.ne_none_iff_exists'.1 interrupted
    obtain ⟨t, run, cleared, back, logged⟩ := auxInterruptionEnd_clears (lowestHold := lowestHold) on since above lasted room
    exact ⟨t, run, cleared, back, at_, since, logged⟩

end Sys2Proof.Machine
end

section
/-!
PROOF. Chapter 17: the link, pair lock and the secondary's window (R402 to R407).
-/

namespace Sys2Proof.Machine

-- One declaration after another, so that the whole text compiles within its memory.
set_option Elab.async false

/-! ### What the link's reviews do -/

/-- Nothing that the link's reviews show reaches the buffered records. -/
theorem newEvent_showTwin {s t : State} {code : Nat} {data : List Rat} (logged : newEvent s t code data = true) :
    newEvent s (showTwin t) code data = true := newEvent_congr rfl logged

/-- A viaduct whose partner fits is formed (R403). -/
theorem pairExamine_forms {s : State} {id : PartnerId} (partner : s.twn.partner = some id) (viaduct : s.twn.mode = 1)
    (up : linkUp s = true) (fits : pairFault s id = 0) :
    pairExamine s = showTwin (s.modTwn fun t => { t with formed := true, conflict := false, mismatch := false }) := by
  unfold pairExamine
  simp only [partner]
  rw [if_neg (by rw [viaduct, up]; decide), fits]
  refine congrArg showTwin (if_neg ?_)
  simp [isDuplex, viaduct]

/-- A partner of one's own designation is in conflict with one (R403). -/
theorem pairExamine_conflicts {s : State} {id : PartnerId} (partner : s.twn.partner = some id) (paired : s.twn.mode ≠ 0)
    (up : linkUp s = true) (fault : pairFault s id = 1) : pairExamine s =
      showTwin ((s.modTwn fun t => { t with formed := false, conflict := true, mismatch := false }).log 0xA003 []) := by
  unfold pairExamine
  simp only [partner]
  rw [if_neg (by rw [up]; simp [paired]), fault]
  exact congrArg showTwin (if_neg (by simp only [Nat.one_ne_zero, decide_false, Bool.false_and, Bool.false_eq_true, not_false_iff]))

/-- Without the link a paired module has no pair lock (R405). -/
theorem lockReview_unlocks {s : State} (paired : s.twn.mode ≠ 0) (down : linkUp s = false) : (lockReview s).twn.lock = false := by
  have fault : lockFault s = some 1 := if_pos (by rw [down]; rfl)
  unfold lockReview
  rw [if_neg paired, fault]
  dsimp only
  rw [showTwin_twn]
  split
  · refine ((keeps_resourceLost _).same (.twn .lock) rfl).trans ?_
    exact congrArg TwinSt.lock (State.log_twn _ _ _)
  · rfl

/-! ### Link-up -/

/-- The link stands on the lanes named, and the partner and the latency are shown (R402, R403). -/
def linkNamed (id : PartnerId) (lanes : Vector Bool 2) (s : State) : State :=
  let t := s.modTwn fun t => { t with link := boolNat lanes[(0 : Fin 2)] + boolNat lanes[(1 : Fin 2)] + 1, lanes := lanes, partner := some id }
  (((t.setN Obj.TWN_PARTNER_SERIAL id.serial).setN Obj.TWN_PARTNER_FW id.fw).setR Obj.TWN_LINK_LATENCY (r32 t.freeReal)).draw

/-- 0xA001 is logged and the module has sent what it is (R402, R403). -/
def linkRisen (id : PartnerId) (lanes : Vector Bool 2) (s : State) : State :=
  let u := (linkNamed id lanes s).log 0xA001 [(boolNat lanes[(0 : Fin 2)] + boolNat lanes[(1 : Fin 2)] : Nat) + 1,
    (boolNat lanes[(0 : Fin 2)] + 2 * boolNat lanes[(1 : Fin 2)] : Nat)]
  linkSend 44 (ownIdentity u) u

theorem linkNamed_hasRoom {s : State} {n : Nat} (room : s.hasRoom n = true) (id : PartnerId) (lanes : Vector Bool 2) :
    (linkNamed id lanes s).hasRoom n = true := room

/-- Naming the link leaves every object but the three of the partner and the latency. -/
theorem linkNamed_objN {key : Nat} (dflt : (defaultAt key).isSome = true) (serial : key ≠ Obj.TWN_PARTNER_SERIAL)
    (fw : key ≠ Obj.TWN_PARTNER_FW) (latency : key ≠ Obj.TWN_LINK_LATENCY) (id : PartnerId) (lanes : Vector Bool 2) (s : State) :
    (linkNamed id lanes s).objN key = s.objN key := by
  have kept : (linkNamed id lanes s).obj key = s.obj key :=
    (State.obj_setObj_ne latency dflt _ _).trans ((State.obj_setObj_ne fw dflt _ _).trans (State.obj_setObj_ne serial dflt _ (s.modTwn _)))
  rw [State.objN, kept, State.objN]

theorem clauzLinkUp_run {s : State} {id : PartnerId} {lanes : Vector Bool 2} (alive : s.alive .link = true) (down : s.twn.link = 0)
    (lane : boolNat lanes[(0 : Fin 2)] + boolNat lanes[(1 : Fin 2)] ≠ 0) :
    exec (.clauzLinkUp id lanes) s = .next (showTwin (lockReview (pairExamine (linkRisen id lanes s)))) :=
  congrArg Host.Outcome.next ((State.on_of_alive alive _).trans (if_neg (not_or.2 ⟨not_not.2 down, lane⟩)))

theorem linkRisen_twn (id : PartnerId) (lanes : Vector Bool 2) (s : State) : (linkRisen id lanes s).twn = { s.twn with
    link := boolNat lanes[(0 : Fin 2)] + boolNat lanes[(1 : Fin 2)] + 1, lanes := lanes, partner := some id } := by
  unfold linkRisen
  extract_lets u
  have sent : (linkSend 44 (ownIdentity u) u).twn = u.twn := by
    unfold linkSend
    split
    · rfl
    · rfl
  exact sent.trans (State.log_twn _ _ _)

theorem linkRisen_up {id : PartnerId} {lanes : Vector Bool 2} (lane : boolNat lanes[(0 : Fin 2)] + boolNat lanes[(1 : Fin 2)] ≠ 0)
    (s : State) : linkUp (linkRisen id lanes s) = true := by
  unfold linkUp
  rw [linkRisen_twn]
  exact decide_eq_true (by dsimp only; omega)

theorem linkSend_objN (kind : Nat) (data : List Int) (s : State) (key : Nat) : (linkSend kind data s).objN key = s.objN key := by
  unfold linkSend
  split
  · rfl
  · rfl

/-- So does link-up. -/
theorem linkRisen_objN {s : State} {key : Nat} (room : s.hasRoom 1 = true) (dflt : (defaultAt key).isSome = true)
    (serial : key ≠ Obj.TWN_PARTNER_SERIAL) (fw : key ≠ Obj.TWN_PARTNER_FW) (latency : key ≠ Obj.TWN_LINK_LATENCY) (id : PartnerId)
    (lanes : Vector Bool 2) : (linkRisen id lanes s).objN key = s.objN key :=
  (linkSend_objN 44 _ _ key).trans ((State.log_objN (linkNamed_hasRoom room id lanes) _ _ key).trans
    (linkNamed_objN dflt serial fw latency id lanes s))

theorem linkRisen_logged {s : State} (room : s.hasRoom 1 = true) (id : PartnerId) (lanes : Vector Bool 2) :
    newEvent s (linkRisen id lanes s) 0xA001 [(boolNat lanes[(0 : Fin 2)] + boolNat lanes[(1 : Fin 2)] : Nat) + 1,
      (boolNat lanes[(0 : Fin 2)] + 2 * boolNat lanes[(1 : Fin 2)] : Nat)] = true :=
  newEvent_keeps (keeps_linkSend _ _ _) rfl (newEvent_log (linkNamed_hasRoom room id lanes) le_rfl rfl)

theorem linkSend_hasRoom (n kind : Nat) (data : List Int) (s : State) : (linkSend kind data s).hasRoom n = s.hasRoom n := by
  unfold linkSend
  split
  · rfl
  · rfl

theorem linkRisen_hasRoom {s : State} (room : s.hasRoom 2 = true) (id : PartnerId) (lanes : Vector Bool 2) :
    (linkRisen id lanes s).hasRoom 1 = true :=
  (linkSend_hasRoom 1 _ _ _).trans (State.log_hasRoom (linkNamed_hasRoom room id lanes) _ _)

theorem State.logSeq_le_log (s : State) (code : Nat) (data : List Rat) : s.logSeq ≤ (s.log code data).logSeq := by
  unfold State.log
  split
  · exact Nat.le_succ _
  · exact le_rfl

theorem linkRisen_log (id : PartnerId) (lanes : Vector Bool 2) (s : State) :
    s.logSeq ≤ (linkRisen id lanes s).logSeq ∧ (linkRisen id lanes s).isl.mt = s.isl.mt := by
  unfold linkRisen
  extract_lets u
  have sent := keeps_linkSend 44 (ownIdentity u) u
  have logged : s.logSeq ≤ u.logSeq := State.logSeq_le_log (linkNamed id lanes s) _ _
  have tick : u.isl = s.isl := State.log_isl _ _ _
  exact ⟨logged.trans sent.seq, (sent.same (.isl .mt) rfl).trans (congrArg IslandsSt.mt tick)⟩

/-- The pair of R403 and Table 17.2: opposite designations, one firmware, and the sources of module time of a viaduct. -/
theorem pairFault_none {s : State} {id : PartnerId} (viaduct : s.twn.mode = 1) (opposite : id.primary = !s.twn.primary)
    (mode : id.pairMode = 1) (fw : id.fw = s.objN Obj.MOD_FW_VERSION) (own : s.bit Obj.TIM_REF_CFG 0 = !s.twn.primary)
    (source : id.source = s.twn.primary) : pairFault s id = 0 := by
  unfold pairFault
  rw [if_neg (by rw [opposite]; cases s.twn.primary <;> decide), if_neg (by rw [viaduct, mode, fw]; simp),
    if_neg (by simp [isDuplex, viaduct]), own, source]
  cases s.twn.primary with
  | true => rfl
  | false => rfl

/-- Link-up in a viaduct forms the pair. -/
theorem clauzLinkUp_forms {s : State} {id : PartnerId} {lanes : Vector Bool 2} (alive : s.alive .link = true) (down : s.twn.link = 0)
    (viaduct : s.twn.mode = 1) (lane : boolNat lanes[(0 : Fin 2)] + boolNat lanes[(1 : Fin 2)] ≠ 0)
    (opposite : id.primary = !s.twn.primary) (mode : id.pairMode = 1) (fw : id.fw = s.objN Obj.MOD_FW_VERSION)
    (own : s.bit Obj.TIM_REF_CFG 0 = !s.twn.primary) (source : id.source = s.twn.primary) (room : s.hasRoom 1 = true) :
    Completes (.clauzLinkUp id lanes) s fun t => t.twn.link = boolNat lanes[(0 : Fin 2)] + boolNat lanes[(1 : Fin 2)] + 1 ∧
      t.twn.partner = some id ∧ t.twn.formed = true ∧ t.twn.conflict = false ∧ t.twn.mismatch = false ∧
      newEvent s t 0xA001 [(boolNat lanes[(0 : Fin 2)] + boolNat lanes[(1 : Fin 2)] : Nat) + 1,
        (boolNat lanes[(0 : Fin 2)] + 2 * boolNat lanes[(1 : Fin 2)] : Nat)] = true := by
  have twn := linkRisen_twn id lanes s
  have logged := linkRisen_logged room id lanes
  have up := linkRisen_up (id := id) lane s
  have fits : pairFault (linkRisen id lanes s) id = 0 := by
    refine pairFault_none (by rw [twn]; exact viaduct) (by rw [twn]; exact opposite) mode (fw.trans ?_) ?_ (by rw [twn]; exact source)
    · exact (linkRisen_objN room (by decide +kernel) (by decide) (by decide) (by decide) id lanes).symm
    · unfold State.bit State.field
      rw [linkRisen_objN room (by decide +kernel) (by decide) (by decide) (by decide), twn]
      exact own
  have formed := pairExamine_forms (by rw [twn]) (by rw [twn]; exact viaduct) up fits
  have run := clauzLinkUp_run (id := id) alive down lane
  rw [formed] at run
  generalize linkRisen id lanes s = u at run twn logged
  have review := keeps_lockReview (showTwin (u.modTwn fun t => { t with formed := true, conflict := false, mismatch := false }))
  exact ⟨_, run, (review.same (.twn .link) rfl).trans (congrArg TwinSt.link twn),
    (review.same (.twn .partner) rfl).trans (congrArg TwinSt.partner twn), review.same (.twn .formed) rfl, review.same (.twn .conflict) rfl,
    review.same (.twn .mismatch) rfl, newEvent_showTwin (newEvent_keeps review rfl (newEvent_congr rfl logged))⟩

/-- Equal designations are in conflict (R403). -/
theorem clauzLinkUp_conflicts {s : State} {id : PartnerId} {lanes : Vector Bool 2} (alive : s.alive .link = true) (down : s.twn.link = 0)
    (paired : s.twn.mode ≠ 0) (lane : lanes[(0 : Fin 2)] = true ∨ lanes[(1 : Fin 2)] = true) (equal : id.primary = s.twn.primary)
    (room : s.hasRoom 2 = true) : Completes (.clauzLinkUp id lanes) s fun t =>
      t.twn.formed = false ∧ t.twn.conflict = true ∧ newEvent s t 0xA003 [] = true := by
  have some_ : boolNat lanes[(0 : Fin 2)] + boolNat lanes[(1 : Fin 2)] ≠ 0 := by
    have one : boolNat true = 1 := rfl
    rcases lane with lane0 | lane1
    · rw [lane0, one]
      omega
    · rw [lane1, one]
      omega
  have twn := linkRisen_twn id lanes s
  have fault : pairFault (linkRisen id lanes s) id = 1 := by
    unfold pairFault
    rw [twn]
    exact if_pos (by rw [equal]; exact beq_self_eq_true _)
  have conflicts := pairExamine_conflicts (by rw [twn]) (by rw [twn]; exact paired) (linkRisen_up some_ s) fault
  have run := clauzLinkUp_run (id := id) alive down some_
  rw [conflicts] at run
  obtain ⟨still, order, tick⟩ : (linkRisen id lanes s).hasRoom 1 = true ∧ s.logSeq ≤ (linkRisen id lanes s).logSeq ∧
      (linkRisen id lanes s).isl.mt = s.isl.mt := by
    exact ⟨linkRisen_hasRoom room id lanes, linkRisen_log id lanes s⟩
  generalize linkRisen id lanes s = u at run still order tick
  have review := keeps_lockReview (showTwin ((u.modTwn fun t => { t with formed := false, conflict := true, mismatch := false }).log 0xA003 []))
  have logged : newEvent s ((u.modTwn fun t => { t with formed := false, conflict := true, mismatch := false }).log 0xA003 []) 0xA003 [] = true :=
    newEvent_log (t := u.modTwn _) still order tick
  have own : (showTwin ((u.modTwn fun t => { t with formed := false, conflict := true, mismatch := false }).log 0xA003 [])).twn =
      { u.twn with formed := false, conflict := true, mismatch := false } := State.log_twn _ _ _
  exact ⟨_, run, (review.same (.twn .formed) rfl).trans (congrArg TwinSt.formed own),
    (review.same (.twn .conflict) rfl).trans (congrArg TwinSt.conflict own),
    newEvent_showTwin (newEvent_keeps review rfl (newEvent_showTwin logged))⟩

/-! ### Link-down and lanes -/

/-- Down, the link has no lanes, and a paired module no pair lock (R402, R405). -/
theorem clauzLinkDown_falls {s : State} (alive : s.alive .link = true) (up : s.twn.link ≠ 0) (room : s.hasRoom 1 = true) :
    Completes .clauzLinkDown s fun t => t.twn.link = 0 ∧ t.twn.lanes = .replicate 2 false ∧ (s.twn.mode ≠ 0 → t.twn.lock = false) ∧
      newEvent s t 0xA001 [0, 0] = true := by
  have run : exec .clauzLinkDown s = .next (showTwin (lockReview (baseHoldover 2 3 ((s.modTwn fun t =>
      { t with link := 0, lanes := Vector.replicate 2 false }).log 0xA001 [0, 0])))) :=
    congrArg Host.Outcome.next ((State.on_of_alive alive _).trans (if_neg up))
  have logged : newEvent s ((s.modTwn fun t => { t with link := 0, lanes := Vector.replicate 2 false }).log 0xA001 [0, 0]) 0xA001 [0, 0] = true :=
    newEvent_log (t := s.modTwn _) room le_rfl rfl
  have fallen : ((s.modTwn fun t => { t with link := 0, lanes := Vector.replicate 2 false }).log 0xA001 [0, 0]).twn =
      { s.twn with link := 0, lanes := Vector.replicate 2 false } := State.log_twn _ _ _
  generalize (s.modTwn fun t => { t with link := 0, lanes := Vector.replicate 2 false }).log 0xA001 [0, 0] = u at run logged fallen
  have base := keeps_baseHoldover 2 3 u
  have review := keeps_lockReview (baseHoldover 2 3 u)
  have mode : (baseHoldover 2 3 u).twn.mode = s.twn.mode := (base.same (.twn .mode) rfl).trans ((congrArg TwinSt.mode fallen).trans rfl)
  have link : (baseHoldover 2 3 u).twn.link = 0 := (base.same (.twn .link) rfl).trans (congrArg TwinSt.link fallen)
  exact ⟨_, run, (review.same (.twn .link) rfl).trans link,
    (review.same (.twn .lanes) rfl).trans ((base.same (.twn .lanes) rfl).trans (congrArg TwinSt.lanes fallen)),
    fun paired => lockReview_unlocks (by rw [mode]; exact paired) (by unfold linkUp; rw [link]; rfl),
    newEvent_showTwin (newEvent_keeps review rfl (newEvent_keeps base rfl logged))⟩

/-- A lane lost leaves one (R402). -/
theorem clauzLaneLost_narrows {s : State} (alive : s.alive .link = true) (both : s.twn.link = 3) (room : s.hasRoom 1 = true)
    (lane : Fin 2) : Completes (.clauzLaneLost lane) s fun t => t.twn.link = 2 ∧ t.twn.lanes[lane] = false ∧ t.twn.lock = s.twn.lock ∧
      newEvent s t 0xA002 [lane.val] = true := by
  have run : exec (.clauzLaneLost lane) s = .next (showTwin ((setLane lane false (s.modTwn fun t => { t with link := 2 })).log 0xA002
      [lane.val])) := congrArg Host.Outcome.next ((State.on_of_alive alive _).trans (if_pos both))
  have own : ((setLane lane false (s.modTwn fun t => { t with link := 2 })).log 0xA002 [lane.val]).twn =
      { s.twn with link := 2, lanes := s.twn.lanes.set lane false } := State.log_twn _ _ _
  refine ⟨_, run, congrArg TwinSt.link own, (congrArg (fun t : TwinSt => t.lanes[lane]) own).trans (Vector.getElem_set_self _),
    (congrArg TwinSt.lock own).trans rfl, newEvent_showTwin (newEvent_log (t := setLane _ _ _) room le_rfl rfl)⟩

/-- Its return gives two again (R402). -/
theorem clauzLaneRegained_widens {s : State} {lane : Fin 2} (alive : s.alive .link = true) (one : s.twn.link = 2)
    (lost : s.twn.lanes[lane] = false) (room : s.hasRoom 1 = true) : Completes (.clauzLaneRegained lane) s fun t =>
      t.twn.link = 3 ∧ t.twn.lanes[lane] = true ∧ newEvent s t 0xA002 [lane.val] = true := by
  have run : exec (.clauzLaneRegained lane) s = .next (showTwin ((setLane lane true (s.modTwn fun t => { t with link := 3 })).log 0xA002
      [lane.val])) := congrArg Host.Outcome.next ((State.on_of_alive alive _).trans (if_pos (by rw [lost]; simp [one])))
  have own : ((setLane lane true (s.modTwn fun t => { t with link := 3 })).log 0xA002 [lane.val]).twn =
      { s.twn with link := 3, lanes := s.twn.lanes.set lane true } := State.log_twn _ _ _
  exact ⟨_, run, congrArg TwinSt.link own, (congrArg (fun t : TwinSt => t.lanes[lane]) own).trans (Vector.getElem_set_self _),
    newEvent_showTwin (newEvent_log (t := setLane _ _ _) room le_rfl rfl)⟩

/-! ### Pair lock -/

/-- Conditions held for 10 ms give pair lock with the grid phase (R405, R406). -/
theorem pairLockRegained_locks {s : State} {phase : Int} {from_ : Nat} (alive : s.alive .edge = true) (paired : s.twn.mode ≠ 0)
    (open_ : s.twn.lock = false) (since : s.twn.lockFrom = some from_) (sound : lockFault s = none)
    (lasted : 10 * cyclesMs ≤ s.since from_) (room : s.hasRoom 1 = true) (inv : Inv s) : Completes (.pairLockRegained phase) s fun t =>
      t.twn.lock = true ∧ t.twn.phase = phase ∧ (s.twn.primary = false → t.obj Obj.TWN_GRID_PHASE = .int phase) ∧
      newEvent s t 0xA005 [0] = true := by
  obtain ⟨u, locked⟩ : ∃ u, u = (s.modTwn fun x => { x with lock := true, phase := phase, lockFrom := none }).log 0xA005 [0] := ⟨_, rfl⟩
  have u_twn : u.twn = { s.twn with lock := true, phase := phase, lockFrom := none } := by rw [locked]; exact State.log_twn _ _ _
  have u_mod : u.mod = s.mod := by rw [locked]; exact State.log_mod _ _ _
  have u_objs : u.objs = s.objs := by rw [locked]; exact State.log_objs (s := s.modTwn _) room _ _
  have logged : newEvent s u 0xA005 [0] = true := by rw [locked]; exact newEvent_log (t := s.modTwn _) room le_rfl rfl
  obtain ⟨v, phased⟩ : ∃ v, v = if u.twn.primary = true then u else u.setObj Obj.TWN_GRID_PHASE (.int phase) := ⟨_, rfl⟩
  have run : exec (.pairLockRegained phase) s =
      .next (showTwin (if (!v.twn.primary && !v.mod.mode.running) = true then restartTimebases v else v)) := by
    refine congrArg Host.Outcome.next ((State.on_of_alive alive _).trans ?_)
    simp only [since]
    rw [if_neg (by rw [open_, sound]; simp [paired, not_lt.2 lasted]), phased, locked]
  have v_twn : v.twn = { s.twn with lock := true, phase := phase, lockFrom := none } := by
    rw [phased, ← u_twn]
    split
    · rfl
    · rfl
  have v_phase (secondary : s.twn.primary = false) : v.obj Obj.TWN_GRID_PHASE = .int phase := by
    rw [phased, if_neg (by rw [u_twn, secondary]; decide)]
    exact State.obj_setObj_self (by rw [u_objs]; exact inv.objs) _ _
  have v_logged : newEvent s v 0xA005 [0] = true := by
    rw [phased]
    split
    · exact logged
    · exact newEvent_congr rfl logged
  have restarted : Keeps 0x100000c000000000000000000000000000000000000000000000000000000000000000000000000000000000000000000000000000000000000 v
      (if (!v.twn.primary && !v.mod.mode.running) = true then restartTimebases v else v) := Keeps.ite (keeps_restartTimebases v) (.refl v)
  generalize (if (!v.twn.primary && !v.mod.mode.running) = true then restartTimebases v else v) = w at run restarted
  exact ⟨_, run, (restarted.same (.twn .lock) rfl).trans (congrArg TwinSt.lock v_twn),
    (restarted.same (.twn .phase) rfl).trans (congrArg TwinSt.phase v_twn),
    fun secondary => ((keeps_showTwin w).obj _ (by rw [group_TWN_GRID_PHASE]; rfl) rfl).trans
      ((restarted.obj _ (by rw [group_TWN_GRID_PHASE]; rfl) rfl).trans (v_phase secondary)),
    newEvent_showTwin (newEvent_keeps restarted rfl v_logged)⟩

/-! ### The secondary's window -/

/-- The answers at the module's ports are no frames to the partner. -/
theorem State.reply_tx_writes (s : State) (w : Writer) (key abort : Nat) :
    (s.reply w key abort).tx.filter (fun f => f.kind == 53) = s.tx.filter (fun f => f.kind == 53) := by
  cases w with
  | logic => rfl
  | port c se =>
    have responded (t : State) (data : List Int) : (t.respond c se 1 data).tx.filter (fun f => f.kind == 53) =
        t.tx.filter (fun f => f.kind == 53) := by
      unfold State.respond
      split
      · rfl
      · split
        · split
          · rfl
          · rfl
        · rfl
    refine (responded _ _).trans ?_
    split
    · rfl
    · rw [State.noteAbort_tx]
      rfl

/-- A read through the window answers what the secondary answers (R407). -/
theorem windowRead_answers {s : State} {c se : Nat} (port : 2 ≤ c ∧ c ≤ 4) (reaches : s.reaches (.port c se) = true)
    (house : s.alive .house = true) (link : s.alive .link = true) (viaduct : s.twn.mode = 1) (primary : s.twn.primary = true)
    (up : 2 ≤ s.twn.link) (v : Val) : Completes (.partnerWindowAccess (.read 0 v) (.port c se)) s fun t =>
      (⟨9, 52, [(s.twn.winTarget : Nat)]⟩ : TxFrame) ∈ t.tx ∧
      (⟨c, 2, (c + 16 * se : Int) :: (Obj.TWN_WIN_DATA : Int) :: valInts v⟩ : TxFrame) ∈ t.tx := by
  have linked : linkUp s = true := decide_eq_true up
  have run : exec (.partnerWindowAccess (.read 0 v) (.port c se)) s =
      .next (((linkSend 52 [s.twn.winTarget] s).renew (.port c se) true).respond c se 2
        ((c + 16 * se : Nat) :: (Obj.TWN_WIN_DATA : Int) :: valInts v)) := by
    refine congrArg Host.Outcome.next ?_
    rw [if_neg (by rw [reaches]; decide), if_neg (by rw [house]; decide), if_neg (by simp [isViaduct, viaduct, primary, linked, link])]
    rfl
  have sent : (⟨9, 52, [(s.twn.winTarget : Nat)]⟩ : TxFrame) ∈ ((linkSend 52 [s.twn.winTarget] s).renew (.port c se) true).tx := by
    unfold linkSend
    rw [if_pos linked]
    exact List.mem_cons_self
  refine ⟨_, run, State.mem_tx_of_respond sent c se 2 _, ?_⟩
  exact_mod_cast State.mem_tx_respond (s := (linkSend 52 [s.twn.winTarget] s).renew (.port c se) true) (c := c) (se := se) (kind := 2)
    (data := ((c + 16 * se : Nat) : Int) :: (Obj.TWN_WIN_DATA : Int) :: valInts v) (fun can => by omega)

/-- With write ownership a write goes across (R407). -/
theorem windowWrite_crosses {s : State} {w : Writer} (reaches : s.reaches w = true) (house : s.alive .house = true)
    (link : s.alive .link = true) (viaduct : s.twn.mode = 1) (primary : s.twn.primary = true) (up : 2 ≤ s.twn.link)
    (accepts : s.accepts w = true) (v : Val) (a : Nat) : Completes (.partnerWindowAccess (.write v a) w) s fun t =>
      (⟨9, 53, (s.twn.winTarget : Int) :: valInts v⟩ : TxFrame) ∈ t.tx := by
  have linked : linkUp s = true := decide_eq_true up
  have run : exec (.partnerWindowAccess (.write v a) w) s =
      .next ((linkSend 53 ((s.twn.winTarget : Int) :: valInts v) s).reply w Obj.TWN_WIN_DATA a) := by
    refine congrArg Host.Outcome.next ?_
    rw [if_neg (by rw [reaches]; decide), if_neg (by rw [house]; decide), if_neg (by simp [isViaduct, viaduct, primary, linked, link])]
    exact if_neg (by rw [accepts]; decide)
  refine ⟨_, run, State.mem_tx_of_reply ?_ w _ a⟩
  unfold linkSend
  rw [if_pos linked]
  exact List.mem_cons_self

/-- Without it nothing goes across (R407). -/
theorem windowWrite_refused {s : State} {w : Writer} (refused : s.accepts w = false) (v : Val) (a : Nat) :
    Completes (.partnerWindowAccess (.write v a) w) s fun t =>
      t.tx.filter (fun f => f.kind == 53) = s.tx.filter (fun f => f.kind == 53) ∧ t.twn = s.twn := by
  obtain ⟨t, run, silent⟩ : ∃ t, exec (.partnerWindowAccess (.write v a) w) s = .next t ∧
      (t = s ∨ ∃ abort, t = s.reply w Obj.TWN_WIN_DATA abort) := by
    refine ⟨_, rfl, ?_⟩
    split
    · exact .inl rfl
    · split
      · exact .inr ⟨_, rfl⟩
      · split
        · exact .inr ⟨_, rfl⟩
        · exact .inr ⟨_, if_pos (by rw [refused]; rfl)⟩
  refine ⟨t, run, ?_⟩
  rcases silent with same | ⟨abort, answered⟩
  · rw [same]
    exact ⟨rfl, rfl⟩
  · obtain ⟨tx, objs, net, shape⟩ := State.reply_shape s w Obj.TWN_WIN_DATA abort
    exact ⟨by rw [answered, State.reply_tx_writes], by rw [answered, shape]⟩

/-- Settles O47: link-up through `linkRisen` and the examination of the pair, link-down and lanes, pair lock, and the window by whether the
module may pass the access on. -/
theorem clauzLink : Obligations.ClauzLink := by
  unfold Obligations.ClauzLink
  refine ⟨fun s id lanes c alive down viaduct lane some_ opposite mode fw own source room => ?_, fun s id lanes => clauzLinkUp_conflicts,
    fun s => clauzLinkDown_falls, fun s lane alive both room => clauzLaneLost_narrows alive both room lane,
    fun s lane => clauzLaneRegained_widens, fun s phase from_ => pairLockRegained_locks,
    fun s v w c se port range reaches house link viaduct primary up => ?_,
    fun s v a w reaches house link viaduct primary up accepts => windowWrite_crosses reaches house link viaduct primary up accepts v a,
    fun s v a w refused => windowWrite_refused refused v a⟩
  · subst lane
    exact clauzLinkUp_forms alive down viaduct some_ opposite mode fw own source room
  · subst port
    exact windowRead_answers range reaches house link viaduct primary up v

end Sys2Proof.Machine
end

section
/-!
PROOF. Chapter 17: the interlock, take-over, return and handover (R413 to R421).
-/

namespace Sys2Proof.Machine

-- One declaration after another, so that the whole text compiles within its memory.
set_option Elab.async false

/-! ### The pair's state and GRANT -/

theorem TwnField.eq_of_same {a b : TwinSt} (h : ∀ f : TwnField, f.same a b) : b = a := by
  cases a
  cases b
  simp only [TwinSt.mk.injEq]
  exact ⟨h .mode, h .primary, h .link, h .lanes, h .partner, h .formed, h .lock, h .phase, h .lockFrom, h .conflict, h .mismatch,
    h .active, h .request, h .auto, h .held, h .claimIn, h .claimSince, h .grant, h .grantLost, h .armed, h .xfail, h .xfailAt,
    h .partnerFenced, h .selfFenced, h .arb, h .digests, h .diffs, h .holdoff, h .handover, h .winTarget, h .view⟩

/-- A footprint without a field of the pair leaves it alone. -/
theorem Keeps.twn {F : Nat} {s t : State} (h : Keeps F s t) (e : ∀ f : TwnField, F.testBit f.bit = false) : t.twn = s.twn :=
  TwnField.eq_of_same fun f => h.same (.twn f) (e f)

theorem holderSeen_twn (s : State) : (holderSeen s).twn = s.twn := (keeps_holderSeen s).twn fun f => by cases f <;> rfl

/-- Reviewing GRANT changes of the pair's state GRANT alone, and the instant of its loss. -/
theorem grantReview_twn (s : State) : ∃ lost : Nat, (grantReview s).twn = { s.twn with grant := grantNow s, grantLost := lost } := by
  unfold grantReview
  dsimp only
  rw [showTwin_twn]
  split
  next same => exact ⟨s.twn.grantLost, by rw [same]⟩
  · split
    · exact ⟨_, holderSeen_twn _⟩
    · exact ⟨_, rfl⟩

theorem grantReview_grant (s : State) : (grantReview s).twn.grant = grantNow s := by
  obtain ⟨lost, twn⟩ := grantReview_twn s
  rw [twn]

/-- A claim requested, held and powered has GRANT while the partner's claim is seen released (Table 17.3). -/
theorem grantNow_of_claim {s : State} (requests : s.twn.request = true ∨ s.twn.auto = true) (held : s.twn.held = true)
    (on : s.mod.powered = true) (released : s.twn.claimIn = .released) : grantNow s = true := by
  have claims : claimRequest s = true := by
    unfold claimRequest
    rw [held, on]
    rcases requests with request | auto
    · simp [request]
    · simp [auto]
  unfold grantNow
  rw [claims, released]
  split
  · rfl
  · split
    · rfl
    · rfl

/-- Without a claim a duplex module has no GRANT. -/
theorem grantNow_unclaimed {s : State} (duplex : s.twn.mode = 2) (none_ : claimRequest s = false) : grantNow s = false := by
  unfold grantNow
  rw [none_, if_neg (by simp [isDuplex, duplex])]
  rfl

/-- The primary has none while it sees its partner's claim. -/
theorem grantNow_contested {s : State} (duplex : s.twn.mode = 2) (primary : s.twn.primary = true) (asserted : s.twn.claimIn = .asserted) :
    grantNow s = false := by
  unfold grantNow
  rw [if_neg (by simp [isDuplex, duplex]), if_pos primary, asserted]
  exact Bool.and_false _

theorem claimRequest_idle {s : State} (request : s.twn.request = false) (auto : s.twn.auto = false) : claimRequest s = false := by
  unfold claimRequest
  rw [request, auto]
  rfl

/-! ### Taking over and yielding -/

/-- The module that becomes active stands with its claim (R419). -/
theorem becomeActive_twn (s : State) : (becomeActive s).twn.active = true ∧ (becomeActive s).twn.request = true ∧
    (becomeActive s).twn.held = true ∧ (becomeActive s).twn.armed = false ∧ (becomeActive s).twn.handover = none := by
  unfold becomeActive
  extract_lets t u v w x
  have v_twn : v.twn = u.twn :=
    foldl_invariant (P := fun y => y.twn = u.twn)
      (fun y c same => ((keeps_substitute c 5 y).twn fun f => by cases f <;> rfl).trans same) _ rfl
  have w_twn : w.twn = v.twn := ((keeps_engineTakesOver _).twn fun f => by cases f <;> rfl).trans
    ((keeps_ownerEnds 5 v).twn fun f => by cases f <;> rfl)
  have x_twn : x.twn = w.twn := by
    change (match pairAddress w with | some ip => if portUp w 2 = true then w.send 2 36 [ip] else w | none => w).twn = w.twn
    split
    · split
      · rfl
      · rfl
    · rfl
  have own : (showTwin x).twn = t.twn := (showTwin_twn x).trans (x_twn.trans (w_twn.trans v_twn))
  rw [own]
  exact ⟨rfl, rfl, rfl, rfl, rfl⟩

/-- Write ownership that ends is free, whoever held it. -/
theorem ownerEnds_free {s : State} (cause : Nat) (wf : cellsWf s.objs = true) (room : s.hasRoom 1 = true) :
    (ownerEnds cause s).objN Obj.NET_OWNER = 0 := by
  by_cases owned : s.objN Obj.NET_OWNER = 0
  · exact (congrArg (fun u : State => u.objN Obj.NET_OWNER) (if_pos owned)).trans owned
  · exact ownerEnds_released cause owned wf room

/-- The secondary that yields has neither claim nor a running engine, and write ownership lapses (R413, R419). -/
theorem becomeStandby_yields {s : State} (none_ : s.twn.handover = none) (room : s.hasRoom 1 = true) (inv : Inv s) :
    (becomeStandby s).twn.active = false ∧ (becomeStandby s).twn.request = false ∧ (becomeStandby s).twn.auto = false ∧
    (becomeStandby s).twn.armed = false ∧ (becomeStandby s).lgc.running = false ∧ (becomeStandby s).objN Obj.NET_OWNER = 0 := by
  unfold becomeStandby
  extract_lets pending t u v
  have v_u : v = u := if_neg (by change ¬ s.twn.handover.isSome = true; rw [none_]; decide)
  have stops := keeps_stopEngine (t.modLgc fun l => { l with level := false })
  have u_twn : u.twn = t.twn := stops.twn fun f => by cases f <;> rfl
  have u_room : u.hasRoom 1 = true := hasRoom_eq room (stops.same .log rfl).1
  have u_wf : cellsWf u.objs = true := (stops.inv (inv.of_same rfl rfl rfl rfl rfl)).objs
  have ends := keeps_ownerEnds 5 u
  have ends_twn : (ownerEnds 5 u).twn = u.twn := ends.twn fun f => by cases f <;> rfl
  have lapsed : (showTwin (ownerEnds 5 u)).objN Obj.NET_OWNER = 0 :=
    ((keeps_showTwin (ownerEnds 5 u)).objN _ (by rw [group_NET_OWNER]; rfl) rfl).trans (ownerEnds_free 5 u_wf u_room)
  rw [v_u, showTwin_twn, ends_twn, u_twn]
  exact ⟨rfl, rfl, rfl, rfl, ends.same (.lgc .running) rfl, lapsed⟩

/-- Only a standby with a claim gains by a handover. -/
theorem handoverGains_idle {s : State} (other : s.standby = false ∨ s.twn.request = false) : handoverGains s = s := by
  refine if_neg ?_
  rcases other with active | unclaimed
  · simp [isStandby, active]
  · simp [unclaimed]

theorem State.hasRoom_le {s : State} {m n : Nat} (fewer : m ≤ n) (room : s.hasRoom n = true) : s.hasRoom m = true := by
  have fits : s.logBuf.length + n ≤ logCapacity := of_decide_eq_true room
  exact decide_eq_true (by omega)

/-! ### CLAIM_IN -/

/-- The state in which the partner's claim is seen (R413, R414). -/
def claimSeen (s : State) : State := holderSeen (grantReview (s.modTwn fun t => { t with claimIn := .asserted, claimSince := s.now }))

theorem claimSeen_twn (s : State) : ∃ grant lost, (claimSeen s).twn =
    { s.twn with claimIn := .asserted, claimSince := s.now, grant := grant, grantLost := lost } := by
  obtain ⟨lost, twn⟩ := grantReview_twn (s.modTwn fun t => { t with claimIn := .asserted, claimSince := s.now })
  exact ⟨_, lost, (holderSeen_twn _).trans twn⟩

theorem claimSeen_kept {s : State} {n : Nat} (room : s.hasRoom n = true) (inv : Inv s) :
    (claimSeen s).hasRoom n = true ∧ Inv (claimSeen s) := by
  have review := keeps_grantReview (s.modTwn fun t => { t with claimIn := .asserted, claimSince := s.now })
  have seen := keeps_holderSeen (grantReview (s.modTwn fun t => { t with claimIn := .asserted, claimSince := s.now }))
  have buffer : (claimSeen s).logBuf = s.logBuf := (seen.same .log rfl).1.trans (review.same .log rfl).1
  refine ⟨?_, seen.inv (review.inv (inv.of_same rfl rfl rfl rfl rfl))⟩
  unfold State.hasRoom at room ⊢
  rw [buffer]
  exact room

/-- The active module that sees the partner's claim yields if it is the secondary or has released its own (R413). -/
theorem claimInChange_run {s : State} (alive : s.alive .keystone = true) (released : s.twn.claimIn = .released) :
    exec (.claimInChange .asserted) s = .next (grantReview (handoverGains (if (isDuplex (claimSeen s) && (claimSeen s).twn.active &&
      (!(claimSeen s).twn.primary || !(claimSeen s).twn.request)) = true then becomeStandby (claimSeen s) else claimSeen s))) := by
  refine congrArg Host.Outcome.next ((State.on_of_alive alive _).trans ((if_neg (by rw [released]; decide)).trans ?_))
  extract_lets t u v w x
  have connected : u = t := if_neg (by
    rw [show decide (ClaimIn.asserted = .open_) = false from rfl, Bool.false_and]
    decide)
  have seen : w = claimSeen s := (if_pos rfl).trans (congrArg (fun y => holderSeen (grantReview y)) connected)
  have decided : x = if (isDuplex w && w.twn.active && (!w.twn.primary || !w.twn.request)) = true then becomeStandby w else w := rfl
  rw [decided, seen]

/-- The active secondary that sees its partner's claim becomes the standby and write ownership lapses (R413). -/
theorem claimInChange_yields {s : State} (alive : s.alive .keystone = true) (duplex : s.twn.mode = 2)
    (released : s.twn.claimIn = .released) (active : s.twn.active = true) (secondary : s.twn.primary = false)
    (none_ : s.twn.handover = none) (room : s.hasRoom 1 = true) (inv : Inv s) : Completes (.claimInChange .asserted) s fun t =>
      t.twn.claimIn = .asserted ∧ t.twn.claimSince = s.now ∧ t.twn.active = false ∧ t.twn.request = false ∧ t.twn.armed = false ∧
      t.lgc.running = false ∧ t.objN Obj.NET_OWNER = 0 ∧ t.twn.grant = false := by
  obtain ⟨grant, lost, twn⟩ := claimSeen_twn s
  obtain ⟨seen_room, seen_inv⟩ := claimSeen_kept room inv
  have run : exec (.claimInChange .asserted) s = .next (grantReview (handoverGains (becomeStandby (claimSeen s)))) := by
    rw [claimInChange_run alive released, if_pos]
    simp [isDuplex, twn, duplex, active, secondary]
  have yields := becomeStandby_yields (s := claimSeen s) (by rw [twn]; exact none_) seen_room seen_inv
  have kept := keeps_becomeStandby (claimSeen s)
  have claimIn : (becomeStandby (claimSeen s)).twn.claimIn = .asserted := (kept.same (.twn .claimIn) rfl).trans (by rw [twn])
  have since : (becomeStandby (claimSeen s)).twn.claimSince = s.now := (kept.same (.twn .claimSince) rfl).trans (by rw [twn])
  have mode : (becomeStandby (claimSeen s)).twn.mode = 2 := (kept.same (.twn .mode) rfl).trans (by rw [twn]; exact duplex)
  generalize becomeStandby (claimSeen s) = u at run yields claimIn since mode
  obtain ⟨passive, unclaimed, manual, unarmed, stopped, free⟩ := yields
  rw [handoverGains_idle (.inr unclaimed)] at run
  obtain ⟨lost', reviewed⟩ := grantReview_twn u
  have review := keeps_grantReview u
  refine ⟨_, run, ?_, ?_, ?_, ?_, ?_, (review.same (.lgc .running) rfl).trans stopped,
    (review.objN _ (by rw [group_NET_OWNER]; rfl) rfl).trans free,
    (grantReview_grant u).trans (grantNow_unclaimed mode (claimRequest_idle unclaimed manual))⟩
  · rw [reviewed]
    exact claimIn
  · rw [reviewed]
    exact since
  · rw [reviewed]
    exact passive
  · rw [reviewed]
    exact unclaimed
  · rw [reviewed]
    exact unarmed

/-- The primary that claims itself stays active, without GRANT (R413). -/
theorem claimInChange_stays {s : State} (alive : s.alive .keystone = true) (duplex : s.twn.mode = 2)
    (released : s.twn.claimIn = .released) (active : s.twn.active = true) (primary : s.twn.primary = true) (request : s.twn.request = true) :
    Completes (.claimInChange .asserted) s fun t => t.twn.active = true ∧ t.twn.request = true ∧ t.twn.claimIn = .asserted ∧
      t.twn.grant = false := by
  obtain ⟨grant, lost, twn⟩ := claimSeen_twn s
  have run : exec (.claimInChange .asserted) s = .next (grantReview (handoverGains (claimSeen s))) := by
    rw [claimInChange_run alive released, if_neg]
    simp [twn, primary, request]
  rw [handoverGains_idle (.inl (by simp [State.standby, twn, active]))] at run
  obtain ⟨lost', reviewed⟩ := grantReview_twn (claimSeen s)
  refine ⟨_, run, ?_, ?_, ?_, (grantReview_grant _).trans (grantNow_contested (by rw [twn]; exact duplex) (by rw [twn]; exact primary)
    (by rw [twn]))⟩ <;> rw [reviewed, twn]
  · exact active
  · exact request

/-! ### Auto-claim and the die's pattern -/

/-- The claim that the keystone makes, and the module that becomes active with it. -/
def claimTaken (s : State) : State := grantReview (becomeActive (s.modTwn fun t => { t with auto := true, held := true }))

theorem claimTaken_twn {s : State} (on : s.mod.powered = true) (released : s.twn.claimIn = .released) :
    (claimTaken s).twn.active = true ∧ (claimTaken s).twn.request = true ∧ (claimTaken s).twn.grant = true ∧
    (claimTaken s).twn.armed = false := by
  have kept := keeps_becomeActive (s.modTwn fun t => { t with auto := true, held := true })
  have still_on : (becomeActive (s.modTwn fun t => { t with auto := true, held := true })).mod.powered = true :=
    (kept.same (.mod .powered) rfl).trans on
  have silent : (becomeActive (s.modTwn fun t => { t with auto := true, held := true })).twn.claimIn = .released :=
    (kept.same (.twn .claimIn) rfl).trans released
  obtain ⟨active, request, held, unarmed, -⟩ := becomeActive_twn (s.modTwn fun t => { t with auto := true, held := true })
  unfold claimTaken
  generalize becomeActive (s.modTwn fun t => { t with auto := true, held := true }) = u at still_on silent active request held unarmed
  obtain ⟨lost, twn⟩ := grantReview_twn u
  rw [twn]
  exact ⟨active, request, grantNow_of_claim (.inl request) held still_on silent, unarmed⟩

theorem claimTaken_takeovers (s : State) : (claimTaken s).objN Obj.TWN_TAKEOVERS = s.objN Obj.TWN_TAKEOVERS :=
  ((keeps_grantReview _).objN _ (by rw [group_TWN_TAKEOVERS]; rfl) rfl).trans
    ((keeps_becomeActive (s.modTwn fun t => { t with auto := true, held := true })).objN _ (by rw [group_TWN_TAKEOVERS]; rfl) rfl)

theorem claimTaken_inv {s : State} (inv : Inv s) : Inv (claimTaken s) :=
  (keeps_grantReview _).inv ((keeps_becomeActive (s.modTwn fun t => { t with auto := true, held := true })).inv
    (inv.of_same rfl rfl rfl rfl rfl))

/-- The ARMED standby that has seen no claim for 1 µs takes over with GRANT, and counts it (R413, R416, R419). -/
theorem autoClaim_takes {s : State} (alive : s.alive .keystone = true) (standby : s.standby = true) (armed : s.twn.armed = true)
    (running : s.mod.mode.running = true) (released : s.twn.claimIn = .released) (waited : cyclesUs 1 ≤ s.since s.twn.claimSince)
    (on : s.mod.powered = true) (inv : Inv s) : Completes .autoClaim s fun t => t.twn.active = true ∧ t.twn.request = true ∧
      t.twn.grant = true ∧ t.twn.armed = false ∧ t.objN Obj.TWN_TAKEOVERS = s.objN Obj.TWN_TAKEOVERS + 1 := by
  have granted : grantNow (s.modTwn fun t => { t with auto := true, held := true }) = true :=
    grantNow_of_claim (.inr rfl) rfl on released
  obtain ⟨gap, data, run⟩ : ∃ gap data, exec .autoClaim s = .next (showTwin ((((claimTaken s).bump Obj.TWN_TAKEOVERS).setR
      Obj.TWN_LAST_INTERRUPTION gap).log 0xA00A data)) := by
    refine ⟨_, _, congrArg Host.Outcome.next ((State.on_of_alive alive _).trans ((if_neg ?_).trans (if_neg (by rw [granted]; decide))))⟩
    simp [isStandby, partnerSilent, standby, armed, running, released, not_lt.2 waited]
  obtain ⟨active, request, grant, unarmed⟩ := claimTaken_twn (s := s) on released
  have counted : ((claimTaken s).bump Obj.TWN_TAKEOVERS).objN Obj.TWN_TAKEOVERS = s.objN Obj.TWN_TAKEOVERS + 1 :=
    (State.objN_bump ((claimTaken_inv inv).objs) _).trans (congrArg (· + 1) (claimTaken_takeovers s))
  generalize claimTaken s = u at run active request grant unarmed counted
  have logs := keeps_State_log ((u.bump Obj.TWN_TAKEOVERS).setR Obj.TWN_LAST_INTERRUPTION gap) 0xA00A data
  have kept : (((u.bump Obj.TWN_TAKEOVERS).setR Obj.TWN_LAST_INTERRUPTION gap).log 0xA00A data).objN Obj.TWN_TAKEOVERS =
      (u.bump Obj.TWN_TAKEOVERS).objN Obj.TWN_TAKEOVERS := by
    refine (logs.objN _ (by rw [group_TWN_TAKEOVERS]; rfl) rfl).trans ?_
    have apart : ((u.bump Obj.TWN_TAKEOVERS).setR Obj.TWN_LAST_INTERRUPTION gap).obj Obj.TWN_TAKEOVERS =
        (u.bump Obj.TWN_TAKEOVERS).obj Obj.TWN_TAKEOVERS := State.obj_setObj_ne (by decide) (by decide +kernel) _ _
    rw [State.objN, apart, State.objN]
  have own := State.log_twn ((u.bump Obj.TWN_TAKEOVERS).setR Obj.TWN_LAST_INTERRUPTION gap) 0xA00A data
  generalize ((u.bump Obj.TWN_TAKEOVERS).setR Obj.TWN_LAST_INTERRUPTION gap).log 0xA00A data = v at run kept own
  refine ⟨_, run, ?_, ?_, ?_, ?_, ((keeps_showTwin v).objN _ (by rw [group_TWN_TAKEOVERS]; rfl) rfl).trans (kept.trans counted)⟩ <;>
    rw [showTwin_twn, own]
  · exact active
  · exact request
  · exact grant
  · exact unarmed

/-- A standby that is not ARMED does not claim. -/
theorem autoClaim_waits {s : State} (unarmed : s.twn.armed = false) : Completes .autoClaim s fun t => t = s := by
  refine ⟨s, congrArg Host.Outcome.next ?_, rfl⟩
  by_cases alive : s.alive .keystone = true
  · exact (State.on_of_alive alive _).trans (if_pos (by simp [unarmed]))
  · exact if_neg alive

/-- Without GRANT for 20 µs and without a claim of the partner a die applies its pattern, with GI at +15 V (R414). -/
theorem noHolderTimeout_patterns {s : State} {g : GdId} (alive : s.alive (.gdPrimary g) = true) (duplex : s.twn.mode = 2)
    (running : s.mod.mode.running = true) (request : s.twn.request = false) (auto : s.twn.auto = false)
    (released : s.twn.claimIn = .released) (held : s.gdv.noHolder[g] = false)
    (waited : cyclesUs 20 ≤ s.since (max s.twn.grantLost s.mod.enteredAt)) : Completes (.noHolderTimeout g) s fun t =>
      t.gdv.noHolder[g] = true ∧
      (∀ d : DrvId, dieOf d = g → s.mod.powered = true → s.gdv.uvlo = false → gateIsolate t d = 15) := by
  have none_ := grantNow_unclaimed duplex (claimRequest_idle request auto)
  have run : exec (.noHolderTimeout g) s =
      .next (applyPattern g 2 (s.modGdv fun x => { x with noHolder := x.noHolder.set g true })) := by
    refine congrArg Host.Outcome.next ((State.on_of_alive alive _).trans (if_neg ?_))
    simp [-Fin.getElem_fin, isDuplex, partnerSilent, duplex, running, none_, held, released, not_lt.2 waited]
  have applied := keeps_applyPattern g 2 (s.modGdv fun x => { x with noHolder := x.noHolder.set g true })
  have marked : (applyPattern g 2 (s.modGdv fun x => { x with noHolder := x.noHolder.set g true })).gdv.noHolder[g] = true :=
    (congrArg (fun v : Vector Bool 6 => v[g]) (applied.same (.gdv .noHolder) rfl)).trans (Vector.getElem_set_self _)
  refine ⟨_, run, marked, fun d die on supplied => ?_⟩
  have powered : (applyPattern g 2 (s.modGdv fun x => { x with noHolder := x.noHolder.set g true })).mod.powered = true :=
    (applied.same (.mod .powered) rfl).trans on
  have uvlo : (applyPattern g 2 (s.modGdv fun x => { x with noHolder := x.noHolder.set g true })).gdv.uvlo = false :=
    (applied.same (.gdv .uvlo) rfl).trans supplied
  have lives : (applyPattern g 2 (s.modGdv fun x => { x with noHolder := x.noHolder.set g true })).alive (.gdPrimary g) = true :=
    (applied.alive _ rfl rfl rfl).trans alive
  subst die
  refine if_pos ?_
  have unfenced : (applyPattern (dieOf d) 2 (s.modGdv fun x => { x with noHolder := x.noHolder.set (dieOf d) true })).fenced
      (.gdPrimary (dieOf d)) = false := by
    unfold State.alive at lives
    simp only [Bool.and_eq_true, Bool.not_eq_true'] at lives
    obtain ⟨⟨free, -⟩, -⟩ := lives
    exact free
  rw [powered, uvlo, unfenced, marked]
  simp

/-- A held claim lapses with the keystone (R413). -/
theorem claimHoldLapse_lapses {s : State} (held : s.twn.held = true) (halted : s.saf.halted = true) :
    Completes .claimHoldLapse s fun t => t.twn.held = false ∧ (s.twn.mode = 2 → t.twn.grant = false) := by
  have run : exec .claimHoldLapse s = .next (grantReview (s.modTwn fun t => { t with held := false })) :=
    congrArg Host.Outcome.next (if_pos (by rw [held, halted]; simp))
  obtain ⟨lost, twn⟩ := grantReview_twn (s.modTwn fun t => { t with held := false })
  refine ⟨_, run, by rw [twn]; rfl, fun duplex => (grantReview_grant _).trans (grantNow_unclaimed duplex ?_)⟩
  exact (congrArg (· && s.mod.powered) (Bool.and_false _)).trans (Bool.false_and _)

/-! ### Handover -/

/-- When the hold-off ends the handover instant is set and proposed (R420). -/
theorem returnHoldoffEnd_proposes {s : State} {start len : Nat} (alive : s.alive .keystone = true)
    (holdoff : s.twn.holdoff = some (start, len)) (holds : returnHolds s = true) (none_ : s.twn.handover = none)
    (lasted : len * cyclesSec ≤ s.since start) : Completes .returnHoldoffEnd s fun t => t.twn.holdoff = none ∧
      t.twn.handover = some (handoverInstant s, 3) ∧
      (2 ≤ s.twn.link → (⟨9, 49, [ttCycles s (handoverInstant s)]⟩ : TxFrame) ∈ t.tx) := by
  have run : exec .returnHoldoffEnd s = .next (showTwin (linkSend 49 [ttCycles s (handoverInstant s)]
      (s.modTwn fun x => { x with handover := some (handoverInstant s, 3), holdoff := none }))) := by
    refine congrArg Host.Outcome.next ((State.on_of_alive alive _).trans ?_)
    simp only [holdoff]
    exact if_neg (by simp [holds, none_, not_lt.2 lasted])
  have sent := keeps_linkSend 49 [ttCycles s (handoverInstant s)]
    (s.modTwn fun x => { x with handover := some (handoverInstant s, 3), holdoff := none })
  refine ⟨_, run, sent.same (.twn .holdoff) rfl, sent.same (.twn .handover) rfl, fun up => ?_⟩
  have linked : linkUp (s.modTwn fun x => { x with handover := some (handoverInstant s, 3), holdoff := none }) = true := decide_eq_true up
  change _ ∈ (linkSend 49 [(ttCycles s (handoverInstant s) : Int)] _).tx
  unfold linkSend
  rw [if_pos linked]
  exact List.mem_cons_self

theorem writeEffect_handover (w : Writer) (s : State) : writeEffect w Obj.TWN_CMD (.int 0x5A01) s = done (handoverCommand w s) := rfl

/-- HANDOVER sets the instant; the module stays active until then (R421). -/
theorem handoverCmd_sets {s : State} {w : Writer} (admitted : s.admits w Obj.TWN_CMD (.int 0x5A01) = true) (accepts : s.accepts w = true)
    (duplex : s.twn.mode = 2) (active : s.twn.active = true) (mode : s.mod.mode = .form) (partner : partnerArmed s = true)
    (lock : s.twn.lock = true) (none_ : s.twn.handover = none) (free : s.twn.holdoff = none) : Completes (.handoverCmd w) s fun t =>
      t.twn.handover = some (handoverInstant s, 0) ∧ t.twn.active = true := by
  have commanded : handoverCommand w s = (0, showTwin (linkSend 49 [ttCycles s (handoverInstant s)]
      (s.modTwn fun t => { t with handover := some (handoverInstant s, 0) }))) := by
    unfold handoverCommand
    rw [if_neg (by rw [accepts]; decide), if_neg (by simp [isDuplex, duplex, active, mode, partner, lock, none_, free])]
  obtain ⟨u, run, shape⟩ := dictReq_accepted_net admitted ((writeEffect_handover w s).trans (congrArg done commanded))
  have sent := keeps_linkSend 49 [ttCycles s (handoverInstant s)] (s.modTwn fun t => { t with handover := some (handoverInstant s, 0) })
  have u_twn : u.twn = (linkSend 49 [(ttCycles s (handoverInstant s) : Int)]
      (s.modTwn fun t => { t with handover := some (handoverInstant s, 0) })).twn := by rw [shape]; rfl
  obtain ⟨tx, objs, net, reply⟩ := State.reply_shape u w Obj.TWN_CMD 0
  have replied : (u.reply w Obj.TWN_CMD 0).twn = u.twn := by rw [reply]
  refine ⟨_, congrArg Host.Outcome.next run, ?_, ?_⟩ <;> rw [replied, u_twn]
  · exact sent.same (.twn .handover) rfl
  · exact (sent.same (.twn .active) rfl).trans active

/-- At the handover instant the active module releases its claim (R421). -/
theorem handoverPass_releases {s : State} {at_ : Nat} (alive : s.alive .keystone = true) (part : s.twn.handover = some (at_, 0))
    (due : at_ ≤ s.now) (active : s.twn.active = true) : Completes .handoverPass s fun t =>
      t.twn.request = false ∧ (s.twn.mode = 2 → s.twn.auto = false → t.twn.grant = false) ∧ t.twn.active = true := by
  have run : exec .handoverPass s = .next (grantReview (s.modTwn fun t => { t with request := false })) := by
    refine congrArg Host.Outcome.next ((State.on_of_alive alive _).trans ?_)
    simp only [part]
    exact (if_neg (not_lt.2 due)).trans ((if_pos trivial).trans (if_pos active))
  obtain ⟨lost, twn⟩ := grantReview_twn (s.modTwn fun t => { t with request := false })
  refine ⟨_, run, by rw [twn]; rfl, fun duplex auto => ?_, by rw [twn]; exact active⟩
  exact (grantReview_grant _).trans (grantNow_unclaimed duplex (claimRequest_idle rfl auto))

/-- At the instant the standby that is to take over claims, and is active with GRANT (R421). -/
theorem handoverPass_takes {s : State} {at_ : Nat} (alive : s.alive .keystone = true) (standby : s.standby = true)
    (part : s.twn.handover = some (at_, 1)) (due : at_ ≤ s.now) (on : s.mod.powered = true) (released : s.twn.claimIn = .released)
    (room : s.hasRoom 1 = true) : Completes .handoverPass s fun t => t.twn.active = true ∧ t.twn.request = true ∧ t.twn.grant = true ∧
      t.twn.handover = none ∧ newEvent s t 0xA00B [boolNat (!s.twn.primary)] = true := by
  have no_return : ¬ (decide (1 = 3) && !returnHolds s) = true := by
    rw [show decide (1 = 3) = false from rfl, Bool.false_and]
    decide
  have run : exec .handoverPass s =
      .next (grantReview (handoverGains (grantReview (s.modTwn fun t => { t with request := true, held := true })))) := by
    refine congrArg Host.Outcome.next ((State.on_of_alive alive _).trans ?_)
    simp only [part]
    exact (if_neg (not_lt.2 due)).trans ((if_neg (by decide)).trans ((if_neg (by decide)).trans ((if_neg no_return).trans
      (if_neg (by simp [isStandby, standby])))))
  obtain ⟨lost, twn⟩ := grantReview_twn (s.modTwn fun t => { t with request := true, held := true })
  have review := keeps_grantReview (s.modTwn fun t => { t with request := true, held := true })
  have claims_on : (grantReview (s.modTwn fun t => { t with request := true, held := true })).mod.powered = true :=
    (review.same (.mod .powered) rfl).trans on
  have claims_room := hasRoom_eq (t := grantReview (s.modTwn fun t => { t with request := true, held := true })) room
    (review.same .log rfl).1
  have order : s.logSeq ≤ (grantReview (s.modTwn fun t => { t with request := true, held := true })).logSeq := review.seq
  have tick : (grantReview (s.modTwn fun t => { t with request := true, held := true })).isl.mt = s.isl.mt := review.same (.isl .mt) rfl
  generalize grantReview (s.modTwn fun t => { t with request := true, held := true }) = u at run twn claims_on claims_room order tick
  have u_standby : u.standby = true := by unfold State.standby; rw [twn]; exact standby
  have granted : grantNow u = true := grantNow_of_claim (.inl (by rw [twn]; rfl)) (by rw [twn]; rfl) claims_on (by rw [twn]; exact released)
  have gains : handoverGains u = becomeActive (u.log 0xA00B [boolNat (!u.twn.primary)]) :=
    if_pos (by rw [granted]; simp [isStandby, u_standby, twn])
  have primary : u.twn.primary = s.twn.primary := by rw [twn]; rfl
  rw [gains, primary] at run
  have logged : newEvent s (u.log 0xA00B [boolNat (!s.twn.primary)]) 0xA00B [boolNat (!s.twn.primary)] = true :=
    newEvent_log claims_room order tick
  have v_on : (u.log 0xA00B [boolNat (!s.twn.primary)]).mod.powered = true := by rw [State.log_mod]; exact claims_on
  have v_silent : (u.log 0xA00B [boolNat (!s.twn.primary)]).twn.claimIn = .released := by rw [State.log_twn, twn]; exact released
  generalize u.log 0xA00B [boolNat (!s.twn.primary)] = v at run logged v_on v_silent
  have takes := keeps_becomeActive v
  obtain ⟨active, request, held, -, ended⟩ := becomeActive_twn v
  have on' : (becomeActive v).mod.powered = true := (takes.same (.mod .powered) rfl).trans v_on
  have silent : (becomeActive v).twn.claimIn = .released := (takes.same (.twn .claimIn) rfl).trans v_silent
  have event := newEvent_keeps takes rfl logged
  generalize becomeActive v = x at run active request held ended on' silent event
  obtain ⟨lost', reviewed⟩ := grantReview_twn x
  refine ⟨_, run, ?_, ?_, (grantReview_grant x).trans (grantNow_of_claim (.inl request) held on' silent), ?_,
    newEvent_keeps (keeps_grantReview x) rfl event⟩ <;> rw [reviewed]
  · exact active
  · exact request
  · exact ended

/-- Settles O49: GRANT follows the claim by `grantReview_twn`, and `becomeActive` and `becomeStandby` say what taking over and yielding
leave; each command is one of these on a state that `grantReview` has reviewed. -/
theorem interlockAndHandover : Obligations.InterlockAndHandover := by
  unfold Obligations.InterlockAndHandover
  refine ⟨fun s alive duplex released active secondary none_ room inv => claimInChange_yields alive duplex released active secondary none_
      (State.hasRoom_le (by decide) room) inv,
    fun s => claimInChange_stays, fun s alive standby armed running released waited on _ _ _ inv =>
      autoClaim_takes alive standby armed running released waited on inv,
    fun s => autoClaim_waits, fun s g => noHolderTimeout_patterns, fun s => claimHoldLapse_lapses,
    fun s start len => returnHoldoffEnd_proposes, fun s w => handoverCmd_sets, fun s at_ => handoverPass_releases,
    fun s at_ => handoverPass_takes⟩

end Sys2Proof.Machine
end
